-- ==== Sys2Proof/Word.lean ====
section
/-! DEFINITION. Bytes, words and their plainest arithmetic. -/

namespace Sys2Proof

/-- A byte. -/
abbrev Byte := BitVec 8

/-- A string of bytes, first byte first. -/
abbrev Bytes := List Byte

end Sys2Proof
end

