-- ==== Sys2Proof/Types.lean ====
section
/-! DEFINITION. The data types of the block: what its registers, tables, records, messages and outputs are made of, the parts of State
that flash pages hold among them (FlashMeta), and the formats of R664. Each field cites the rule of spec/ that gives it. -/

namespace Sys2Proof.Machine

/-- The two heads of an apiary (R8). -/
inductive Side where
  | a | b
  deriving DecidableEq, Repr, Inhabited

/-- The twelve head modes (R116), codes 1 to 12. -/
inductive Mode where
  | full | solo | takeover | rejoin | surge | distil | mend | reshape | quiesce | tide | hold | watch
  deriving DecidableEq, Repr, Inhabited

/-- Virkan privilege, rising (R87). -/
inductive Priv where
  | observer | operator | owner
  deriving DecidableEq, Repr, Inhabited

/-- The eight event severities 0 to 7 (Names, 00). -/
inductive Severity where
  | trace | info | notice | warn | error | severe | critical | fatal
  deriving DecidableEq, Repr, Inhabited

/-- States of a configuration frame (life of a frame, R101, R104); scheduling is Checked with the schedule record not yet accepted. -/
inductive FrameState where
  | opened | checked | scheduling | scheduled | applied | aborted | cancelled
  deriving DecidableEq, Repr, Inhabited

/-- Chunk table states (R268). -/
inductive ChunkState where
  | free | stored | aliased | dataLost
  deriving DecidableEq, Repr, Inhabited

/-- Block set states 0 to 7 (R255). -/
inductive BlockState where
  | free | freeDirty | opened | sealed | retired | factoryBad | reserved | failed
  deriving DecidableEq, Repr, Inhabited

/-- Use of a block set (R255). -/
inductive BlockUse where
  | none | landing | metadata | fold | gc | anchor | wear
  deriving DecidableEq, Repr, Inhabited

/-- Comb states of MEMBER_STATE (R223), absent when no comb was ever brought up there. -/
inductive CombState where
  | working | failed | retired | replacement | absent
  deriving DecidableEq, Repr, Inhabited

/-- Stripe region codes 0 to 2 (R222). -/
inductive Region where
  | brood | honey | tall
  deriving DecidableEq, Repr, Inhabited

/-- Stripe purposes 0x00 to 0x08 (R223). -/
inductive Purpose where
  | landing | fold | gc | reshape | rebuild | loss | memberState | claim | metadata
  deriving DecidableEq, Repr, Inhabited

/-- Wax ring or checkpoint slot that holds a record (R165, R179). -/
inductive WaxRing where
  | data | commit | slot0 | slot1 | slot2 | slot3
  deriving DecidableEq, Repr, Inhabited

/-- Namespace discard mode (R98, R281). -/
inductive Discard where
  | hint | zero
  deriving DecidableEq, Repr, Inhabited

/-- Progress of one member's program during landing (R219 to R221). -/
inductive MemberProg where
  | idle | issued | passed | failedOnce | failedTwice | fenced
  /-- Of a tall unit, the first SLC unit is programmed and the second one is to be sent, for the first time or again (R202, R220). -/
  | half
  deriving DecidableEq, Repr, Inhabited

/-- Where a Virkan session or request lives (R91). -/
inductive Transport where
  /-- In-band on an NVMe host controller. -/
  | nvme (ctrl : Nat)
  /-- A TCP connection on MG. -/
  | mg (conn : Nat)
  /-- The sideband mailbox. -/
  | sb
  deriving DecidableEq, Repr, Inhabited

/-- Virkan status codes (R97). -/
inductive VStatus where
  | success
  | pending
  | noChange
  | badMagic
  | badVersion
  | lengthMismatch
  | badHeaderCrc
  | badBodyCrc
  | tooLarge
  | unknownOpcode
  | paramUnknown
  | paramMissing
  | paramInvalid
  | tagInUse
  | refusedReshape
  | refusedHoldup
  | refusedOwnerLock
  | refusedTakeover
  | refusedMode
  | refusedFrameOrder
  | refusedFrameState
  | refusedTick
  | refusedPeerState
  | refusedNotOwner
  | refusedRedundancy
  | refusedRecovery
  | bankSelfBusy
  | frameConflict
  | frameAbortedPeer
  | frameAbortedRecheck
  | confirmRequired
  | noSessionSlot
  | noFrameSlot
  | frameFull
  | outstandingLimit
  | busy
  | ordinalExhausted
  | noCapacity
  | noToken
  | dataLost
  | wouldWait
  | fenced
  | mediaError
  | notFound
  | exists
  | authRequired
  | authFailed
  | privilege
  | badCmac
  | sessionUnknown
  | keysErased
  | signatureInvalid
  | replayed
  deriving DecidableEq, Repr, Inhabited

/-- One TLV parameter (R79). -/
structure Tlv where
  /-- Bit 15 of the type (R79, R80). -/
  required : Bool
  /-- Position in the opcode's list, from 1 (R79). -/
  pos : Nat
  /-- Value without padding (R79). -/
  value : Bytes
  deriving DecidableEq, Repr, Inhabited

/-- A Virkan request whose packet passed R77 steps 1 to 5. -/
structure VReq where
  /-- Transport and connection it arrived on (R91). -/
  via : Transport
  /-- Session handle named (R75). -/
  session : Nat
  /-- Requester's tag (R75). -/
  tag : Nat
  /-- Frame ID named (R75). -/
  frame : Nat
  /-- TLV parameters in order (R79). -/
  params : List Tlv
  /-- Payload (R75). -/
  payload : Bytes
  deriving DecidableEq, Repr, Inhabited

/-- A Virkan reply or notice (R75, R76). -/
structure VReply where
  /-- Opcode repeated (R75). -/
  opcode : Nat
  /-- Outcome (R97). -/
  status : VStatus
  /-- Tag repeated, 0 for a notice (R75). -/
  tag : Nat
  /-- Frame ID (R75). -/
  frame : Nat
  /-- Session handle (R75). -/
  session : Nat
  /-- NOTICE flag (R75). -/
  notice : Bool
  /-- Reply payload (whole, before R76 splits it) (R98). -/
  payload : Bytes
  deriving DecidableEq, Repr, Inhabited

/-- An issued confirmation code of a discarding action (R96). -/
structure Confirm where
  /-- Opcode of the refused request (R96). -/
  opcode : Nat
  /-- Its frame ID (R96). -/
  frame : Nat
  /-- Its parameters other than confirm (R96). -/
  params : List Tlv
  /-- Its payload (R96). -/
  payload : Bytes
  /-- The 8-byte code (R96). -/
  code : Bytes
  /-- When it was issued (R96). -/
  atNs : Nat
  deriving DecidableEq, Repr, Inhabited

/-- A session's event subscription (R729). -/
structure Sub where
  /-- Minimum severity (R729). -/
  minSev : Nat
  /-- First code (R729). -/
  first : Nat
  /-- Last code (R729). -/
  last : Nat
  /-- Sequence numbers not yet sent in a notice (R730). -/
  queue : List Nat
  /-- When the oldest waiting record came (R730). -/
  since : Nat
  deriving DecidableEq, Repr, Inhabited

/-- A Virkan session (R87 to R92). -/
structure Session where
  /-- Session handle (R75, R87). -/
  handle : Nat
  /-- Transport it was opened on (R91). -/
  via : Transport
  /-- Privilege it was opened for (R87). -/
  opened : Priv
  /-- Privilege it holds (R87). -/
  priv : Priv
  /-- Nonce of its SESSION_OPEN (R87). -/
  nonce : Bytes
  /-- Failed SESSION_AUTH requests (R89). -/
  fails : Nat
  /-- Time of its last request (R91). -/
  lastReq : Nat
  /-- Highest tag on MG (R84). -/
  highTag : Option Nat
  /-- Tags outstanding (R92). -/
  outstanding : List Nat
  /-- Confirmation code in force (R96). -/
  confirm : Option Confirm
  /-- Event subscription (R729). -/
  sub : Option Sub
  deriving DecidableEq, Repr, Inhabited

/-- A reply or notice held on NVMe or SB (R94). -/
structure HeldReply where
  /-- Transport (R94). -/
  via : Transport
  /-- The reply (R94). -/
  rep : VReply
  /-- When it was ready (R94). -/
  atNs : Nat
  /-- It has the place of an outstanding request: false for notices and for replies to packets refused before R77 step 7 (R92,, R94). -/
  own : Bool
  deriving DecidableEq, Repr, Inhabited

/-- A configuration item (R99, R100). -/
structure Item where
  /-- Setting ID (R98). -/
  setting : Nat
  /-- 0 this head, 1 side A, 2 side B, 3 both (R99). -/
  target : Nat
  /-- Value (R814). -/
  value : Bytes
  deriving DecidableEq, Repr, Inhabited

/-- A request to be answered later (R93, R106). -/
structure Waiter where
  /-- Transport (R93). -/
  via : Transport
  /-- Session (R93). -/
  session : Nat
  /-- Tag (R93). -/
  tag : Nat
  /-- Opcode (R93). -/
  opcode : Nat
  /-- Frame ID (R93). -/
  frame : Nat
  deriving DecidableEq, Repr, Inhabited

/-- A configuration frame (R101 to R115). -/
structure Frame where
  /-- Frame ID (R98). -/
  id : Nat
  /-- Pair scope (R99). -/
  pair : Bool
  /-- Internal frame of SUPER_ATTACH, REBALANCE or an automatic change (R98). -/
  internal : Bool
  /-- This head is the peer, not the coordinating head (R110). -/
  peerMade : Bool
  /-- Session that opened it (R101). -/
  session : Nat
  /-- State (R101). -/
  state : FrameState
  /-- Items in number order (R101). -/
  items : List Item
  /-- Tick T (R104). -/
  tick : Nat
  /-- Last CFG request for it (R102). -/
  lastReq : Nat
  /-- Wait 1 was given (R106). -/
  wait : Bool
  /-- Reply still owed (R106). -/
  waiter : Option Waiter
  /-- Peer readiness received (coordinator) or confirmed (peer) (R110). -/
  ready : Bool
  /-- 0 no go record, 1 written, 2 confirmed (R112). -/
  go : Nat
  /-- Abort status code (R98). -/
  abort : Nat
  /-- When it was applied, aborted or cancelled (R101). -/
  endAt : Nat
  /-- Commit ordinal of its FRAME_SCHEDULE: the order in which frames were accepted (R52, R105). -/
  schedOrd : Nat
  /-- Applied by a start replay, its FRAME_END still to be written (R54). -/
  owed : Bool
  deriving DecidableEq, Repr, Inhabited

/-- A row of a settings table. -/
structure SettingDef where
  /-- Setting ID (base) (R98). -/
  id : Nat
  /-- Size of the type (R814). -/
  size : Nat
  /-- Least value (R814). -/
  lo : Nat
  /-- Greatest value (R814). -/
  hi : Nat
  /-- Default (R98). -/
  dflt : Nat
  deriving DecidableEq, Repr, Inhabited

/-- A place of an envelope or page: stripe ordinal and 64-byte offset (R268, R298). -/
structure Place where
  /-- Stripe ordinal (R268). -/
  ordinal : Nat
  /-- Offset in the data space (R268). -/
  off : Nat
  deriving DecidableEq, Repr, Inhabited

/-- A member entry (R222). -/
structure Member where
  /-- Comb link (R222). -/
  link : Nat
  /-- Die (R222). -/
  die : Nat
  /-- Block index (R222). -/
  block : Nat
  /-- First page of the unit (R222). -/
  page : Nat
  /-- 0 present, 1 erased, 2 positions lost (R222). -/
  state : Nat
  /-- Unit CRC (R222). -/
  crc : BitVec 32
  deriving DecidableEq, Repr, Inhabited

/-- An envelope entry (R222). -/
structure EnvEntry where
  /-- Chunk ID (R222). -/
  chunk : Nat
  /-- Domain (R222). -/
  domain : Nat
  /-- Offset in 64-byte units (R222). -/
  off : Nat
  /-- Length in 64-byte units (R222). -/
  len : Nat
  /-- MANIFEST flag (R222). -/
  manifest : Bool
  /-- DEFERRED flag (R222). -/
  deferred : Bool
  deriving DecidableEq, Repr, Inhabited

/-- A RING_RELEASE entry (R173). -/
structure RelItem where
  /-- 64-byte units (R173). -/
  off : Nat
  /-- 64-byte units (R173). -/
  units : Nat
  /-- Commit ordinal (R173). -/
  ordinal : Nat
  deriving DecidableEq, Repr, Inhabited

/-- A REF_CHANGE entry (R270). -/
structure RefItem where
  /-- Chunk ID (R270). -/
  chunk : Nat
  /-- Change (R270). -/
  delta : Int
  deriving DecidableEq, Repr, Inhabited

/-- A MAP_CHANGE item (R271). -/
inductive MapItem where
  /-- Moves the chunk when its entry still holds the old place. -/
  | chunkPlace (chunk domain : Nat) (new : Place) (len hive : Nat) (old : Place)
  /-- Sets state and flags. -/
  | chunkState (chunk domain : Nat) (st : ChunkState) (deferred manifest : Bool)
  /-- Makes the chunk an ALIAS. -/
  | chunkAlias (chunk domain target : Nat)
  /-- Sets one map entry. -/
  | nsMap (nsid k chunk : Nat) (zero : Bool)
  /-- Sets count entries to ZERO. -/
  | nsZero (nsid first count : Nat)
  /-- Adds an index entry. -/
  | fpInsert (domain chunk : Nat) (fp : Bytes)
  /-- Removes that entry. -/
  | fpRemove (domain chunk : Nat) (fp : Bytes)
  /-- Removes a ledger entry. -/
  | ledgerDrop (domain : Nat) (old : Place)
  /-- Sets a media table entry. -/
  | blockState (link die block : Nat) (st : BlockState) (qlc : Bool) (use : BlockUse) (pe grown : Nat)
  /-- Releases a stripe. -/
  | stripeRelease (ordinal : Nat)
  /-- Creates a snapshot. -/
  | snapFreeze (nsid snap : Nat) (label : Bytes)
  /-- Starts dropping a tree; 0xFFFF_FFFF is the live tree. -/
  | treeDrop (nsid snap : Nat)
  /-- One step of a drop cascade. -/
  | pageDrop (domain key : Nat)
  /-- Makes a writable namespace from a snapshot. -/
  | nsClone (src snap new : Nat)
  /-- Claims a block of write sequences. -/
  | seqClaim (first : Nat)
  /-- OBJECT_CREATE (R438). -/
  | objectCreate (domain : Nat) (key top len : Nat) (token digest : Bytes) (multi : Bool)
  /-- OBJECT_STATE (R438). -/
  | objectState (domain key : Nat) (released : Bool) (retain : Nat)
  /-- PART_ADD (R438). -/
  | partAdd (domain key part manifest len : Nat) (token digest : Bytes)
  /-- TOKEN_DROP (R438). -/
  | tokenDrop (domain : Nat) (token : Bytes)
  /-- OPEN_DROP (R438). -/
  | openDrop (domain : Nat) (token : Bytes)
  deriving DecidableEq, Repr, Inhabited

/-- Task opcodes of a bridge (R324). -/
inductive TaskOp where
  | read | seqRead | programSlc | programQlc | erase | eraseSuspend | eraseResume | fenceRaise | fenceAdopt
  deriving DecidableEq, Repr, Inhabited

/-- Status word types (R331). -/
inductive StatusType where
  | pass
  | passMarginal
  | erasedPage
  | programFail
  | eraseFail
  | uncorrectable
  | busyRead
  | busyProgram
  | busyErase
  | eraseSuspendedTarget
  | suspendConflict
  | noErase
  | suspendLimit
  | fenced
  | epochAhead
  | fenceLost
  | badAddress
  | badOp
  | protocolError
  | dieFailed
  deriving DecidableEq, Repr, Inhabited

/-- The 32-bit status word (R331). -/
structure StatusWord where
  /-- Type (R331). -/
  type : StatusType
  /-- The die holds a suspended erase (R331). -/
  suspended : Bool
  /-- Port of the executing task for BUSY types (R331). -/
  port : Side
  /-- Highest decode tier (R331). -/
  tier : Nat
  /-- Most bits corrected (R331). -/
  corrected : Nat
  /-- Units of 16 us for BUSY types (R331). -/
  remaining : Nat
  deriving DecidableEq, Repr, Inhabited

/-- The header fields of a TASK frame (R309, R323, R324). -/
structure TaskHdr where
  /-- Opcode (R324). -/
  op : TaskOp
  /-- Die, 0xFF for a comb task (R309). -/
  die : Nat
  /-- Tag, never 0 (R309). -/
  tag : Nat
  /-- Task epoch (R309). -/
  epoch : Nat
  /-- Page address [27:12] (R323). -/
  block : Nat
  /-- Page address [11:0] (R323). -/
  page : Nat
  /-- Argument (R309, R324). -/
  arg : BitVec 32
  /-- Head ID of the sender (R309). -/
  head : Nat
  deriving DecidableEq, Repr, Inhabited

/-- A programmed NAND page. -/
structure NandPage where
  /-- Die (R323). -/
  die : Nat
  /-- Plane (R323). -/
  plane : Nat
  /-- Block (R323). -/
  block : Nat
  /-- Page (R323). -/
  page : Nat
  /-- Page data (R325). -/
  data : Bytes
  /-- Head spare bytes (R310). -/
  spare : Bytes
  /-- Every decode tier fails (R333). -/
  bad : Bool
  /-- Bits corrected when read (R331). -/
  corrected : Nat
  deriving DecidableEq, Repr, Inhabited

/-- A die descriptor (R322). -/
structure DieDesc where
  /-- Blocks per plane, 1 to 8,192 (R322). -/
  blocks : Nat
  /-- State byte (R322). -/
  failed : Bool
  /-- Rated P/E, QLC (R322). -/
  peQlc : Nat
  /-- Rated P/E, SLC (R322). -/
  peSlc : Nat
  /-- Refresh threshold (R322). -/
  refresh : Nat
  /-- Maxima in us: SLC program, QLC program, SLC sense, QLC sense, erase, suspend latency (R322). -/
  maxima : List Nat
  /-- Bad block indexes (R322, R304). -/
  factoryBad : List Nat
  deriving DecidableEq, Repr, Inhabited

/-- A die window: the last task of one port the die accepted (R321). -/
structure DieWindow where
  /-- TASK_OP (R321). -/
  op : BitVec 32
  /-- TASK_ADDR (R321). -/
  addr : BitVec 32
  /-- TASK_ARG (R321). -/
  arg : BitVec 32
  /-- TASK_EPOCH (R321). -/
  epoch : BitVec 32
  /-- TASK_STATUS (R321). -/
  status : BitVec 32
  deriving DecidableEq, Repr, Inhabited

/-- The task a die executes (R327). -/
structure DieExec where
  /-- Port it came from (R327). -/
  port : Side
  /-- Its TASK header (R327). -/
  hdr : TaskHdr
  /-- When it was accepted (R330). -/
  started : Nat
  /-- Program data arrived, whole pages (R325). -/
  data : List Bytes
  /-- DATA frames of the page now arriving (R325). -/
  part : Bytes
  /-- Spare bytes arrived (R310). -/
  spares : List Bytes
  /-- Data out of order or of wrong length (R326). -/
  malformed : Bool
  deriving DecidableEq, Repr, Inhabited

/-- A suspended or running erase's suspension record (R335, R337). -/
structure SuspErase where
  /-- The erase task (R335). -/
  hdr : TaskHdr
  /-- Its port (R335). -/
  port : Side
  /-- Suspensions so far (R337). -/
  count : Nat
  /-- When it was suspended (last resumed, while it runs) (R337). -/
  atNs : Nat
  deriving DecidableEq, Repr, Inhabited

/-- State of one die inside a bridge. -/
structure Die where
  /-- Die number (R321). -/
  index : Nat
  /-- Die descriptor (R322). -/
  desc : DieDesc
  /-- Executing task (R327). -/
  exec : Option DieExec
  /-- Suspended erase (R327, R335). -/
  susp : Option SuspErase
  /-- Suspension record of the executing erase (R337). -/
  eraseRun : Option SuspErase
  /-- Die window of port A (R321). -/
  winA : DieWindow
  /-- Die window of port B (R321). -/
  winB : DieWindow
  /-- Port refused busy meanwhile (R329). -/
  refusedPort : Option Side
  /-- Favoured port (R329). -/
  favoured : Option Side
  /-- End of the 20 us (R329). -/
  favUntil : Nat
  /-- BUSY type of the task that ended (R329). -/
  favBusy : StatusType
  /-- Since when the die has been idle (R337). -/
  idleSince : Nat
  deriving DecidableEq, Repr, Inhabited

/-- A comb-link frame as it arrives (R309). -/
structure LFrame where
  /-- Frame type (R309). -/
  type : Nat
  /-- Die (R309). -/
  die : Nat
  /-- Tag (R309). -/
  tag : Nat
  /-- Frame sequence (R309). -/
  seq : BitVec 12
  /-- ACK field valid (R309). -/
  ackValid : Bool
  /-- Acknowledged sequence (R309). -/
  ack : BitVec 12
  /-- RESENT: a go-back-N resend (R309, R314). -/
  resent : Bool
  /-- Task opcode, repeated by every frame of the task (R309). -/
  op : Nat
  /-- Payload length (R309, R310). -/
  len : Nat
  /-- Reserved bits: of Flags in [5:0], of Sequence in [9:6], of Ack in [13:10], bytes 30 and 31 in [29:14] (R7, R309). -/
  resv : Nat
  /-- CRC-32C as it arrives (R309). -/
  crc : BitVec 32
  /-- Address: page address, register address in REG_READ (R309, R323). -/
  off : Nat
  /-- Argument: of the task in TASK, the register count in REG_READ, byte offset and plane in DATA and PAGE_END (R309). -/
  arg : BitVec 32
  /-- Status word of PAGE_END and DONE (R331). -/
  status : BitVec 32
  /-- Epoch: of the task in TASK, the comb's in frames from the bridge (R309, R340). -/
  epoch : BitVec 32
  /-- Head ID: of the sender in TASK and HELLO, the fence owner in frames from the bridge (R309, R341). -/
  owner : Nat
  /-- Payload (R310). -/
  body : Bytes
  deriving DecidableEq, Repr, Inhabited

/-- One port of a bridge: link end and its counters (R311, R321). -/
structure BridgePort where
  /-- Link up (R316). -/
  up : Bool
  /-- Next sequence to send (R311). -/
  txSeq : BitVec 12
  /-- Sequence expected next (R312). -/
  rxSeq : BitVec 12
  /-- A NAK for the expected frame was sent (R312). -/
  nakSent : Bool
  /-- Sequenced frames sent and not acknowledged (R311, R315). -/
  unacked : List LFrame
  /-- Frames that wait for the window of 256 (R311). -/
  waiting : List LFrame
  /-- Resends without an advance (R314). -/
  tries : Nat
  /-- CB_CRC_ERRORS, bit 31 SAT (R321). -/
  crcErrors : BitVec 32
  /-- CB_RESENDS (R321). -/
  resends : BitVec 32
  /-- CB_RETRAINS (R321). -/
  retrains : BitVec 32
  /-- DATA frames discarded with refused programs (R326). -/
  discardedData : Nat
  /-- Frames of unknown type (R310). -/
  unknownFrames : Nat
  deriving DecidableEq, Repr, Inhabited

/-- One comb's bridge (The comb link). -/
structure Bridge where
  /-- Its comb link number (R10). -/
  link : Nat
  /-- Supply good (R346). -/
  powered : Bool
  /-- CB_INFO hive from the shelf connector (R321). -/
  hive : Nat
  /-- CB_INFO slot (R321). -/
  slot : Nat
  /-- CB_SERIAL (R321). -/
  serial : Nat
  /-- CB_VERSION (R321). -/
  version : BitVec 32
  /-- CB_FENCE_EPOCH, non-volatile (R339). -/
  epoch : Nat
  /-- CB_FENCE_OWNER, 0xFFFF when never fenced (R339). -/
  owner : Nat
  /-- CB_STATE FAILED (R321). -/
  failed : Bool
  /-- CB_STATE FENCE_STORE_FAULT (R321, R343). -/
  storeFault : Bool
  /-- CB_STATE temperature (R321). -/
  temp : BitVec 8
  /-- Standing health events: code, die, detail (R347). -/
  events : List (Nat × Nat × Nat)
  /-- Port to side A (R307). -/
  portA : BridgePort
  /-- Port to side B (R307). -/
  portB : BridgePort
  /-- Its dies (R321). -/
  dies : List Die
  /-- Programmed pages (R323). -/
  pages : List NandPage
  deriving DecidableEq, Repr, Inhabited

/-- State of a comb link at the head (R316 to R319). -/
inductive LinkState where
  | powerDown | adapting | hello | registers | up | retraining | down | held
  deriving DecidableEq, Repr, Inhabited

/-- What the head issued a die task for. -/
inductive TaskUse where
  /-- Program of a stripe unit (R219). -/
  | unitProgram (ordinal member : Nat)
  /-- Read of a stripe unit (R229). -/
  | unitRead (ordinal member : Nat)
  /-- Read-back (R289). -/
  | readBack (ordinal member : Nat)
  /-- Erase of a block set (R256). -/
  | blockErase (block : Nat)
  /-- ERASE_SUSPEND (R338). -/
  | suspend
  /-- ERASE_RESUME (R338). -/
  | resume
  /-- FENCE_RAISE of a fencing round or of a bring-up (R70, R344). -/
  | fence (round : Nat)
  /-- FENCE_ADOPT at bring-up (R344). -/
  | adopt
  /-- DIAG_DIE_READ and the request it answers (R98). -/
  | diag (w : Waiter)
  /-- Anchor write (R264). -/
  | anchor
  deriving DecidableEq, Repr, Inhabited

/-- A task the head has sent without a DONE (R328, R330). -/
structure DieTask where
  /-- TASK header (R309). -/
  hdr : TaskHdr
  /-- What it is for (R328). -/
  use : TaskUse
  /-- Send of the TASK frame (R330). -/
  sentAt : Nat
  /-- Deadline (R324, R330). -/
  deadline : Nat
  /-- Read pages received (R325). -/
  data : List Bytes
  /-- DATA bytes of the page now arriving (R310). -/
  part : Bytes
  /-- Spare bytes received (R310). -/
  spares : List Bytes
  /-- Earliest time to issue again after BUSY (R328). -/
  reissueAt : Option Nat
  /-- No sooner than this after a refusal as busy; 0 for a task never refused (R328). -/
  notBefore : Nat
  deriving DecidableEq, Repr, Inhabited

/-- The head's end of one comb link. -/
structure Link where
  /-- CL number (R10). -/
  link : Nat
  /-- Link state (R316, R319). -/
  state : LinkState
  /-- A signal was detected (R13). -/
  bridgeSeen : Bool
  /-- Half rate (R319, R320). -/
  half : Bool
  /-- Next sequence to send (R311). -/
  txSeq : BitVec 12
  /-- Sequence expected next (R312). -/
  rxSeq : BitVec 12
  /-- A NAK for the expected frame was sent (R312). -/
  nakSent : Bool
  /-- Sent, not acknowledged (R311). -/
  unacked : List LFrame
  /-- Frames that wait for the window of 256 (R311). -/
  waiting : List LFrame
  /-- Resends without an advance (R314). -/
  resends : Nat
  /-- Frames accepted since the last acknowledgement (R313). -/
  rxSinceAck : Nat
  /-- CRC errors in the last 1 s (R319). -/
  crcTimes : List Nat
  /-- Retrains in the last 60 s (R319). -/
  retrainTimes : List Nat
  /-- Failures of bring-up step 1 at full rate (R319). -/
  stepFails : Nat
  /-- When the present state began (R232, R319). -/
  since : Nat
  /-- Since when the link has been down (R232). -/
  downSince : Option Nat
  /-- Hive the bridge reported (R12). -/
  hive : Nat
  /-- Slot the bridge reported (R12). -/
  slot : Nat
  /-- Comb serial number (R12). -/
  serial : Nat
  /-- Die count reported (R321). -/
  dieCount : Nat
  /-- Die descriptors read at bring-up (R316, R322). -/
  descs : List DieDesc
  /-- Fence epoch last seen (R344). -/
  epoch : Nat
  /-- Its bridge reported FENCE_STORE_FAULT (R343, R347). -/
  noFence : Bool
  /-- Fence owner last seen (R344). -/
  owner : Nat
  /-- State of the comb (R223). -/
  comb : CombState
  /-- A COMB_RETIRE is in progress (R243). -/
  retired : Bool
  /-- Tasks without a DONE (R328). -/
  tasks : List DieTask
  /-- Next task tag (model's choice) (R309). -/
  nextTag : Nat
  /-- Read timeouts in the last 10 s (R232). -/
  timeouts : List Nat
  /-- Program failures in the last 1 h (R232). -/
  progFails : List Nat
  /-- Failed tasks (die, time) in the last 60 s (R330). -/
  failedTasks : List (Nat × Nat)
  /-- Dies declared failed (R306, R330). -/
  deadDies : List Nat
  /-- Dies that get no task until DIE_STATE shows them idle (R330). -/
  blockedDies : List Nat
  /-- CB_VERSION read at bring-up (R321, R638). -/
  version : BitVec 32
  deriving DecidableEq, Repr, Inhabited

/-- An envelope placed in an open stripe. -/
structure OpenEnv where
  /-- Its envelope entry (R222). -/
  entry : EnvEntry
  /-- Ordinals of the data ring records it carries (R173). -/
  recs : List Nat
  /-- Expected old place for FOLD, GC and RESHAPE (R271). -/
  old : Option Place
  deriving DecidableEq, Repr, Inhabited

/-- A stripe that is open or being programmed (R219). -/
structure OpenStripe where
  /-- Stripe ordinal (R207). -/
  ord : Nat
  /-- Hive (R201). -/
  hive : Nat
  /-- Region (R222). -/
  region : Region
  /-- Purpose (R222). -/
  purpose : Purpose
  /-- Ingest lane that fills it (R217). -/
  lane : Nat
  /-- Members (R201). -/
  members : List Member
  /-- Program progress (R219, R221). -/
  prog : List MemberProg
  /-- Members whose program has failed once (R221). -/
  failed : List Nat
  /-- Highest write epoch of its units (R222). -/
  epoch : Nat
  /-- Commit tick of opening (R210). -/
  openTick : Nat
  /-- When its first envelope entered (R218). -/
  firstAt : Option Nat
  /-- Used length (R206). -/
  used : Nat
  /-- Envelopes placed (R219). -/
  envs : List OpenEnv
  /-- Data space bytes placed (R206). -/
  data : Bytes
  /-- Closed: filler filled, P and Q computed (R218). -/
  closed : Bool
  /-- Unit bytes after close (R213). -/
  units : List Bytes
  /-- Journal sequence of its STRIPE_OPEN (R224). -/
  jseq : Nat
  /-- Ordinal of its STRIPE_COMMIT once written (R219). -/
  commitOrd : Option Nat
  deriving DecidableEq, Repr, Inhabited

/-- A stripe table entry (R272). -/
structure Stripe where
  /-- Stripe ordinal (R272). -/
  ord : Nat
  /-- Hive (R272). -/
  hive : Nat
  /-- Region (R272). -/
  region : Region
  /-- Purpose (R272). -/
  purpose : Purpose
  /-- Member table (R272). -/
  members : List Member
  /-- Used length (R272). -/
  used : Nat
  /-- Fence epoch (R272). -/
  epoch : Nat
  /-- Live units (R272). -/
  live : Nat
  /-- State (R272). -/
  released : Bool
  /-- Open tick (R272). -/
  openTick : Nat
  /-- Commit ordinal (R272). -/
  commitOrd : Nat
  /-- Rebuild ordinal (R272, R820). -/
  rebuildOrd : Nat
  /-- Envelope entries of its commit (R222). -/
  envs : List EnvEntry
  /-- Head that opened it (R233). -/
  opener : Nat
  /-- Its chunks have been placed (FOLD, GC, RESHAPE) (R290). -/
  placed : Bool
  /-- Scheduled for rewrite (R230, R157). -/
  rewrite : Bool
  /-- A move of it has begun (R143). -/
  moving : Bool
  /-- The ordinal of the record that wrote its present members: its own commit, or its newest REBUILD (R46, R820). -/
  builtOrd : Nat
  /-- The side whose sequence holds that record (R46, R820). -/
  commitSide : Side
  /-- The tick of that record (R46, R820). -/
  commitTick : Nat
  /-- Left to a rewrite by a rebuild or a retirement that found no place (R234, R235). -/
  left : Bool
  deriving DecidableEq, Repr, Inhabited

/-- The structures that carry a Format byte (R664). -/
inductive FmtKind where
  /-- A wax record (R165). -/
  | waxRecord
  /-- A stripe journal entry (R224). -/
  | journal
  /-- A metadata page (R257). -/
  | metaPage
  /-- An envelope (R153). -/
  | envelope
  /-- A unit footer (R210). -/
  | footer
  /-- A manifest (R433). -/
  | manifest
  deriving DecidableEq, Repr, Inhabited

/-- The place of a structure in a list of formats. -/
def FmtKind.num : FmtKind → Nat
  | .waxRecord => 0
  | .journal => 1
  | .metaPage => 2
  | .envelope => 3
  | .footer => 4
  | .manifest => 5

/-- Format 1 of every structure. -/
def firstFormats : List Nat := [1, 1, 1, 1, 1, 1]

/-- The formats of a firmware image, one of each structure (R664, R665). -/
structure Formats where
  /-- The newest that it reads. -/
  reads : List Nat
  /-- The newest that it writes. -/
  writes : List Nat
  deriving DecidableEq, Repr, Inhabited

/-- A stripe journal entry (R224). -/
structure JournalEntry where
  /-- Journal sequence (R224). -/
  seq : Nat
  /-- Writer (R224). -/
  head : Nat
  /-- Kind code (R224). -/
  kind : Nat
  /-- Stripe ordinal, or hive for checkpoints (R224). -/
  ord : Nat
  /-- Tick of writing (R224). -/
  tick : Nat
  /-- Replay epoch (R224). -/
  epoch : Nat
  /-- Position in the half (R224). -/
  off : Nat
  /-- Entry length (R224). -/
  units : Nat
  /-- Kind fields and body, decoded (R224, R235, R244). -/
  body : List Nat
  /-- Member entries of STRIPE_OPEN and UNIT_MOVE (R224). -/
  members : List Member
  /-- Local copy written (R226). -/
  localOk : Bool
  /-- The peer's ACK covers it (R226). -/
  peerOk : Bool
  /-- Live (R225). -/
  live : Bool
  /-- Format (R224, R664). -/
  fmt : Nat
  deriving DecidableEq, Repr, Inhabited

/-- A rebuild in progress (R233 to R239). -/
structure Rebuild where
  /-- Hive (R235). -/
  hive : Nat
  /-- 1 or 2 (R235). -/
  pass : Nat
  /-- First failed link (R235). -/
  first : Nat
  /-- Second failed link (R235). -/
  second : Option Nat
  /-- Next ordinal (R235). -/
  next : Nat
  /-- 0 two erased, 1 the rest (R235). -/
  group : Nat
  /-- Stripes rebuilt (R235). -/
  rebuilt : Nat
  /-- Stripes rewritten (R235). -/
  rewritten : Nat
  /-- Stripes since the last checkpoint (R235). -/
  sinceCkpt : Nat
  /-- Payload in the present 100 ms: link, direction (true: to the comb), bytes (R240). -/
  shareUsed : List (Nat × Bool × Nat)
  /-- Start of that interval (R240). -/
  shareFrom : Nat
  deriving DecidableEq, Repr, Inhabited

/-- An unfinished reshape (R244). -/
structure Reshape where
  /-- Hive (R244). -/
  hive : Nat
  /-- Old width (R244). -/
  oldN : Nat
  /-- New width (R244). -/
  newN : Nat
  /-- Boundary B (R244). -/
  bound : Nat
  /-- End E (R244). -/
  last : Nat
  /-- Old stripes converted (R244). -/
  converted : Nat
  /-- Covering ordinal (R244). -/
  covering : Nat
  /-- Converted, not yet under a checkpoint (R246). -/
  pendingOld : List Nat
  /-- Paused (R248). -/
  paused : Bool
  /-- Payload in the present 100 ms: link, direction (true: to the comb), bytes (R240, R250). -/
  shareUsed : List (Nat × Bool × Nat)
  /-- Start of that interval (R250). -/
  shareFrom : Nat
  deriving DecidableEq, Repr, Inhabited

/-- A media table entry with the head's working data (R255). -/
structure BlockSet where
  /-- Comb link (R252). -/
  link : Nat
  /-- Die (R252). -/
  die : Nat
  /-- Block index (R252). -/
  block : Nat
  /-- P/E count, saturating (R255). -/
  pe : Nat
  /-- State (R255). -/
  state : BlockState
  /-- Mode (R253, R255). -/
  qlc : Bool
  /-- Use (R255). -/
  use : BlockUse
  /-- Grown faults, saturating at 15 (R255). -/
  grown : Nat
  /-- SUSPECT (R255). -/
  suspect : Bool
  /-- Units held (R255). -/
  held : Nat
  /-- Next unit to place (R254). -/
  nextUnit : Nat
  /-- One above the highest unit whose program was sent (R254). -/
  progUnit : Nat
  /-- Tick of opening (R302). -/
  openTick : Nat
  /-- Read-back passed (R289). -/
  passed : Bool
  /-- Erase in progress or suspended (R255). -/
  erasing : Bool
  /-- The erase has passed, and FREE is not yet committed (R256). -/
  erased : Bool
  /-- A brood block set that is to be erased into QLC mode, for a row of R15 (R253). -/
  toQlc : Bool
  deriving DecidableEq, Repr, Inhabited

/-- A chunk table entry (R268) with the bytes it stands for. -/
structure Chunk where
  /-- Chunk ID (R132). -/
  id : Nat
  /-- Domain (R268). -/
  domain : Nat
  /-- Where the envelope lies (R268). -/
  place : Place
  /-- Target chunk ID of an ALIAS (R268). -/
  target : Nat
  /-- Hive (R268). -/
  hive : Nat
  /-- Envelope length in 64-byte units (R268). -/
  len : Nat
  /-- Reference count, sticky at 0xFF_FFFF (R268, R269). -/
  refs : Nat
  /-- State (R268). -/
  state : ChunkState
  /-- DEFERRED (R268). -/
  deferred : Bool
  /-- MANIFEST (R268). -/
  manifest : Bool
  /-- Marked for byte compare (R147). -/
  byteCompare : Bool
  deriving DecidableEq, Repr, Inhabited

/-- The bytes a chunk ID stands for, as its envelope holds them in wax or on flash. -/
structure Stored where
  /-- Chunk ID (R132). -/
  id : Nat
  /-- Key generation that sealed it (R153). -/
  gen : Nat
  /-- Fingerprint of the content (R136). -/
  fp : Bytes
  /-- Content (R154). -/
  content : Bytes
  /-- Chunk envelope (R153). -/
  envelope : Bytes
  deriving DecidableEq, Repr, Inhabited

/-- A fingerprint index entry (R140). -/
structure FpEntry where
  /-- Domain whose index holds it (R140). -/
  domain : Nat
  /-- Fingerprint (R140). -/
  fp : Bytes
  /-- Chunk ID (R140). -/
  chunk : Nat
  /-- VERIFIED_SAME (R140, R146). -/
  verifiedSame : Bool
  deriving DecidableEq, Repr, Inhabited

/-- A deferred chunk waiting for post-process (R147). -/
structure Deferred where
  /-- Chunk ID (R147). -/
  chunk : Nat
  /-- Domain (R147). -/
  domain : Nat
  /-- Fingerprint (R147). -/
  fp : Bytes
  /-- Marked for byte compare (R147). -/
  byteCompare : Bool
  deriving DecidableEq, Repr, Inhabited

/-- A partial write waiting to be merged (R128, R129). -/
structure Merge where
  /-- Namespace (R128). -/
  nsid : Nat
  /-- Namespace chunk (R128). -/
  k : Nat
  /-- Data ring record of the partial write (R129). -/
  ordinal : Nat
  /-- Its chunk lies in a dark hive (R129, R130). -/
  dark : Bool
  deriving DecidableEq, Repr, Inhabited

/-- A map entry (R274). -/
structure MapEnt where
  /-- Index in the leaf (R274). -/
  k : Nat
  /-- Chunk ID, 0 for none (R274). -/
  chunk : Nat
  /-- ZERO (R274). -/
  zero : Bool
  deriving DecidableEq, Repr, Inhabited

/-- A map page of a domain (R274) with its share count (R276). -/
structure MapPage where
  /-- Domain (R274). -/
  domain : Nat
  /-- Map page key (R259). -/
  key : Nat
  /-- Leaf or inner page (R274). -/
  leaf : Bool
  /-- Entries of a leaf other than 0 (R274). -/
  ents : List MapEnt
  /-- Children of an inner page: index, key (R274). -/
  kids : List (Nat × Nat)
  /-- Share count (R276). -/
  share : Nat
  deriving DecidableEq, Repr, Inhabited

/-- A block namespace (R401, R98). -/
structure Namespace where
  /-- NSID (R98). -/
  nsid : Nat
  /-- Domain (R98). -/
  domain : Nat
  /-- Bytes (R98). -/
  size : Nat
  /-- Discard mode (R98, R281). -/
  discard : Discard
  /-- Tree root key, 0 for an empty tree (R274). -/
  root : Nat
  /-- Levels of the tree (R274). -/
  depth : Nat
  /-- Next generation number (R278). -/
  nextGen : Nat
  deriving DecidableEq, Repr, Inhabited

/-- A snapshot descriptor (R278). -/
structure Snapshot where
  /-- Namespace (R278). -/
  nsid : Nat
  /-- Snapshot ID (R98). -/
  id : Nat
  /-- Generation number (R278). -/
  gen : Nat
  /-- Label (R98). -/
  label : Bytes
  /-- Frozen tree root (R278). -/
  root : Nat
  /-- Levels (R274). -/
  depth : Nat
  /-- Namespace size when it was taken (R421). -/
  size : Nat
  /-- Tick of creation (R278). -/
  tick : Nat
  deriving DecidableEq, Repr, Inhabited

/-- A relocation ledger entry (R298). -/
structure LedgerEntry where
  /-- Old place (R298). -/
  old : Place
  /-- Manifest chunk (R298). -/
  chunk : Nat
  /-- Domain (R298). -/
  domain : Nat
  /-- Commit tick of the CHUNK_PLACE (R298). -/
  created : Nat
  deriving DecidableEq, Repr, Inhabited

/-- An open or closed fold row (R287). -/
structure FoldRow where
  /-- Honey hive (R287). -/
  hive : Nat
  /-- Block sets: link, die, block (R287). -/
  sets : List (Nat × Nat × Nat)
  /-- Next wordline (R287). -/
  next : Nat
  /-- Fold stripes landed in it (R287). -/
  stripes : List Nat
  /-- Every block set is SEALED full (R289). -/
  sealed : Bool
  deriving DecidableEq, Repr, Inhabited

/-- A pointer to one copy of a metadata page (R260). -/
structure MetaPtr where
  /-- Brood hive (R260). -/
  hive : Nat
  /-- Die index, the same on every member (R260). -/
  die : Nat
  /-- Block set index (R260). -/
  block : Nat
  /-- Unit index in the block set (R260). -/
  unit : Nat
  /-- Slot mask (R260). -/
  mask : Nat
  /-- Metadata stripe (R260). -/
  ord : Nat
  /-- Page start in its data space, 64-byte units (R260). -/
  off : Nat
  deriving DecidableEq, Repr, Inhabited

/-- A metadata page as a flush wrote it (R257). -/
structure MetaPage where
  /-- Unit type (R257). -/
  ut : Nat
  /-- Unit index (R257). -/
  ui : Nat
  /-- Page table level, 0 for other pages (R257). -/
  level : Nat
  /-- Page ID; for a page table page, the digits that lead to it (R257). -/
  id : Nat
  /-- Head ID of the head that wrote this copy (R257, R262). -/
  writer : Nat
  /-- Write sequence (R257, R258). -/
  seq : Nat
  /-- Applied ordinal (R257, R266). -/
  applied : Nat
  /-- Pointer pair (R260). -/
  ptrs : List MetaPtr
  deriving DecidableEq, Repr, Inhabited

/-- A metadata block row (R264). -/
structure MetaRow where
  /-- Hive (R264). -/
  hive : Nat
  /-- Die (R264). -/
  die : Nat
  /-- Block (R264). -/
  block : Nat
  /-- Slot mask (R264). -/
  mask : Nat
  deriving DecidableEq, Repr, Inhabited

/-- The newest root head that counts (R263). -/
structure RootHead where
  /-- Covered ordinal (R263). -/
  covered : Nat
  /-- Write sequence of the root head page (R258). -/
  writeSeq : Nat
  /-- Root page count (R263). -/
  pages : Nat
  /-- Metadata stripes of the flush (R263). -/
  stripes : List Nat
  /-- The STRIPE_COMMITs of the flush are confirmed (R263). -/
  counts : Bool
  deriving DecidableEq, Repr, Inhabited

/-- The 64-byte status block (R356). -/
structure ShelfBlock where
  /-- Hive strap (R356). -/
  hive : Nat
  /-- 0 DARK, 1 POWERING, 2 POWERED, 3 POWERING_DOWN, 4 INPUT_LOST, 5 FAULT (R356). -/
  power : Nat
  /-- Side A up (R356). -/
  voteA : Bool
  /-- Side B up (R356). -/
  voteB : Bool
  /-- Slots populated (R356). -/
  populated : BitVec 16
  /-- Slots power good (R356). -/
  good : BitVec 16
  /-- Input voltage, mV (R356). -/
  inputMv : Nat
  /-- Input current, 10 mA (R356). -/
  inputMa10 : Nat
  /-- Input power, W (R356). -/
  inputW : Nat
  /-- Inlet temperature (R356). -/
  inlet : BitVec 8
  /-- Outlet temperature (R356). -/
  outlet : BitVec 8
  /-- Fan speeds (R356). -/
  fans : List Nat
  /-- Hold-up reserve (R356). -/
  holdupMs : Nat
  /-- Hold-up flags (R356). -/
  holdupFlags : BitVec 8
  /-- Alarms (R356). -/
  alarms : BitVec 8
  /-- Shelf serial (R356). -/
  serial : Nat
  /-- Firmware version (R356). -/
  fw : Nat
  /-- Seconds in state (R356). -/
  secs : Nat
  deriving DecidableEq, Repr, Inhabited

/-- A stored reply of a shelf (R354). -/
structure ShelfReply where
  /-- Sequence of the request (R354). -/
  seq : Nat
  /-- Reply status (R353). -/
  status : Nat
  /-- Status block (R354). -/
  block : ShelfBlock
  deriving DecidableEq, Repr, Inhabited

/-- A hive shelf controller. -/
structure Shelf where
  /-- Hive strap (R356). -/
  hive : Nat
  /-- Status block as it stands (R356). -/
  block : ShelfBlock
  /-- Input present (R384). -/
  inputOk : Bool
  /-- Last sequence and reply of side A (R354). -/
  lastA : Option ShelfReply
  /-- Last sequence and reply of side B (R354). -/
  lastB : Option ShelfReply
  /-- When the power state last changed (R356). -/
  stateAt : Nat
  deriving DecidableEq, Repr, Inhabited

/-- A gather list entry (R370). -/
structure GatherEntry where
  /-- Host controller (R370). -/
  ctrl : Nat
  /-- Queue (R370). -/
  qid : Nat
  /-- Command (R370). -/
  cid : Nat
  /-- Deadline; none for a merge read (R370). -/
  deadline : Option Nat
  /-- Bytes asked for (R371). -/
  bytes : Nat
  /-- Namespace and chunk of a merge read (R370). -/
  merge : Option (Nat × Nat)
  /-- The wake was refused for lack of a token (R372). -/
  noToken : Bool
  deriving DecidableEq, Repr, Inhabited

/-- Hive states 0 to 5 (R349). -/
inductive HiveState where
  | dark | waking | ready | darkening | unpowered | fault
  deriving DecidableEq, Repr, Inhabited

/-- An unanswered request on a hive control bus (R355). -/
structure BusReq where
  /-- Bus (R351). -/
  bus : Nat
  /-- Destination (R353). -/
  hive : Nat
  /-- Command (R353). -/
  cmd : Nat
  /-- Payload byte 0 (R353). -/
  arg : Nat
  /-- Sequence (R353). -/
  seq : Nat
  /-- Sends so far (R355). -/
  tries : Nat
  deriving DecidableEq, Repr, Inhabited

/-- A hive as the head sees it. -/
structure Hive where
  /-- Hive number (R9). -/
  id : Nat
  /-- Brood hive (R14). -/
  brood : Bool
  /-- In service (R9, R191). -/
  inService : Bool
  /-- Owner of a honey hive (R17). -/
  owner : Option Side
  /-- State code (R349). -/
  state : HiveState
  /-- This head's vote as last sent (R361). -/
  voteUp : Bool
  /-- Time of the up vote (R373). -/
  voteAt : Nat
  /-- Vote to be sent at the next window (R361). -/
  wanted : Option Bool
  /-- The dark decision is taken (R365). -/
  darkDecided : Bool
  /-- The down vote of the dark point was sent (R366). -/
  darkPoint : Bool
  /-- HIVE_WAKE need (R364, R368). -/
  wakeNeedUntil : Option Nat
  /-- REBUILD need (R364). -/
  rebuildNeed : Bool
  /-- FOLD need (R364). -/
  foldNeed : Bool
  /-- RESHAPE need (R364). -/
  reshapeNeed : Bool
  /-- HOUSEKEEPING need (R364). -/
  houseNeed : Bool
  /-- Since when there has been no need (R365). -/
  idleSince : Nat
  /-- Gather list (R370, R372). -/
  gather : List GatherEntry
  /-- HIVE_DARK requests waiting (R368). -/
  waiters : List Waiter
  /-- 0 none, 1 queen, 2 peer (R367). -/
  dormancyTo : Nat
  /-- Last status block received (R356). -/
  block : Option ShelfBlock
  /-- Last valid reply (R355). -/
  lastReply : Nat
  /-- When a wake failed (R373). -/
  wakeFailedAt : Option Nat
  /-- E702 raised for this wake (R373). -/
  warned15 : Bool
  /-- Wake token: priority, expiry tick (R375). -/
  token : Option (Nat × Nat)
  /-- Tick of the grant (R376). -/
  tokenGot : Nat
  /-- When a token request was last sent (R376). -/
  tokenAsked : Option Nat
  /-- The last request was refused (R376). -/
  tokenRefused : Bool
  /-- When the shelf reported POWERED (R360). -/
  poweredAt : Option Nat
  /-- Slots whose combs a SUPER_ATTACH adds as soon as they are up (R244). -/
  attach : Nat
  deriving DecidableEq, Repr, Inhabited

/-- State of an NVMe/TCP connection (R391). -/
inductive ConnState where
  | open | ready
  deriving DecidableEq, Repr, Inhabited

/-- An NVMe/TCP or discovery connection (R389, R390). -/
structure Conn where
  /-- Connection (R390). -/
  id : Nat
  /-- On the discovery port (R389). -/
  disc : Bool
  /-- Fabric pair it runs on (R389). -/
  fpair : Nat
  /-- Before or after ICReq (R391). -/
  state : ConnState
  /-- Header digest in use (R391). -/
  hdgst : Bool
  /-- Data digest in use (R391). -/
  ddgst : Bool
  /-- HPDA (R391). -/
  hpda : Nat
  /-- Host's MAXR2T (R392). -/
  maxR2t : Nat
  /-- Controller bound by Connect (R395). -/
  ctrl : Option Nat
  /-- Queue it carries (R396). -/
  qid : Nat
  /-- Segments sent and not acknowledged by TCP (R424). -/
  unsent : Nat
  deriving DecidableEq, Repr, Inhabited

/-- What a controller's AER machinery holds (R425, R426). -/
structure Aer where
  /-- CIDs of outstanding requests (R425). -/
  held : List Nat
  /-- Set Features 0x0B enables (R425). -/
  cfg : BitVec 32
  /-- Namespace Attribute Changed to report (R426). -/
  nsPending : Bool
  /-- Reported, log page not yet read (R426). -/
  nsMasked : Bool
  /-- ANA Change to report (R426). -/
  anaPending : Bool
  /-- Reported, log page not yet read (R426). -/
  anaMasked : Bool
  /-- Reliability to report (R426). -/
  smartPending : Bool
  /-- Reported, log page not yet read (R426). -/
  smartMasked : Bool
  /-- Tiraita event to report (R426). -/
  evPending : Bool
  /-- Reported, log page not yet read (R426). -/
  evMasked : Bool
  /-- Changed Namespace List (R426). -/
  nsList : List Nat
  /-- Selected event sequences not yet read (R427). -/
  evList : List Nat
  /-- ANA changes (R422). -/
  anaCount : Nat
  /-- Vendor event feature 0xC0 (R731). -/
  evFeature : BitVec 32
  deriving DecidableEq, Repr, Inhabited

/-- A host controller (R395, R396). -/
structure Ctrl where
  /-- Controller ID (R395). -/
  id : Nat
  /-- Host NQN (R396). -/
  nqn : Bytes
  /-- Keep-alive timeout, 0 none (R398). -/
  kato : Nat
  /-- When the keep-alive timer was last restarted (R398). -/
  kaAt : Nat
  /-- I/O queue IDs connected (R396). -/
  queues : List Nat
  /-- Discovery controller (R388). -/
  discovery : Bool
  /-- Ordered-write directive enabled (R408). -/
  orderedWrite : Bool
  /-- Asynchronous events (R425). -/
  aer : Aer
  /-- Other features set (R388). -/
  features : List (Nat × BitVec 32)
  deriving DecidableEq, Repr, Inhabited

/-- An NVMe submission queue entry (R388), with the data the host transfers. -/
structure Sqe where
  /-- Connection it arrived on (R389). -/
  conn : Nat
  /-- Controller (R395). -/
  ctrl : Nat
  /-- Queue, 0 for the admin queue (R396). -/
  qid : Nat
  /-- Command identifier (R391). -/
  cid : Nat
  /-- Opcode (R388). -/
  opc : Nat
  /-- NSID (R388). -/
  nsid : Nat
  /-- CDW2 (R440). -/
  cdw2 : BitVec 32
  /-- CDW3 (R440). -/
  cdw3 : BitVec 32
  /-- CDW4 (R441). -/
  cdw4 : BitVec 32
  /-- CDW5 (R441). -/
  cdw5 : BitVec 32
  /-- CDW10 (R388). -/
  cdw10 : BitVec 32
  /-- CDW11 (R388). -/
  cdw11 : BitVec 32
  /-- CDW12 (R388). -/
  cdw12 : BitVec 32
  /-- CDW13 (R388). -/
  cdw13 : BitVec 32
  /-- CDW14 (R388). -/
  cdw14 : BitVec 32
  /-- CDW15 (R388). -/
  cdw15 : BitVec 32
  /-- Transfer length of its data pointer (R440). -/
  xfer : Nat
  /-- Data delivered with the command (R392). -/
  data : Bytes
  deriving DecidableEq, Repr, Inhabited

/-- The put descriptor (R446). -/
structure PutDesc where
  /-- Request token (R446). -/
  token : Bytes
  /-- Domain (R446). -/
  domain : Nat
  /-- Stream ID or 0 (R446). -/
  stream : Nat
  /-- Part number (R446). -/
  part : Nat
  /-- Object length (R446). -/
  objLen : Nat
  /-- Put length (R446). -/
  putLen : Nat
  /-- LAST (R446). -/
  last : Bool
  /-- ABORT (R446). -/
  abort : Bool
  /-- RESET_STREAM (R446). -/
  reset : Bool
  deriving DecidableEq, Repr, Inhabited

/-- What an outstanding host command waits for. -/
inductive CmdKind where
  /-- A Write or Write Zeroes before acceptance (R405). -/
  | write (nsid off : Nat) (data : Bytes) (zeroes : Bool)
  /-- A Write whose data is still arriving (R392). -/
  | writeData (nsid off len : Nat) (data : Bytes)
  /-- A read in a gather list (R415). -/
  | read (nsid slba nlb : Nat)
  /-- A put before acceptance (R447). -/
  | put (d : PutDesc) (data : Bytes)
  /-- A repeat waiting for its original (R451). -/
  | repeatPut (d : PutDesc) (data : Bytes)
  /-- A ZERO-mode deallocate before acceptance: first block and blocks (R418). -/
  | deallocate (nsid : Nat) (ranges : List (Nat × Nat))
  /-- A ZERO-mode deallocate whose map items wait, and their ordinal (R275, R282). -/
  | zeroing (nsid ord : Nat)
  /-- A LOC_GET that has resolved its object, in gather lists (R459, R467). -/
  | locGet (key top off len : Nat) (reloc : Bool)
  /-- A locator command waiting for its manifest's hive, or a LOC_STAT for OBJECT_CREATE (R444, R450). -/
  | loc (e : Sqe)
  /-- In wax, waiting for its acceptance instant (R31). -/
  | accepted (ordinal : Nat)
  deriving DecidableEq, Repr, Inhabited

/-- An outstanding NVMe command (R405). -/
structure HostCmd where
  /-- Controller (R405). -/
  ctrl : Nat
  /-- Queue (R405). -/
  qid : Nat
  /-- Command (R405). -/
  cid : Nat
  /-- What it waits for (R405). -/
  kind : CmdKind
  /-- Stream: namespace (or 65,536 + domain for puts) and ID (R409). -/
  stream : Option (Nat × Nat)
  /-- Arrival (R405). -/
  atNs : Nat
  /-- Arrival plus patience (R370). -/
  deadline : Nat
  /-- Accepted; its completion, with this DW0, waits for an earlier one of its stream (R48). -/
  done : Option Nat
  deriving DecidableEq, Repr, Inhabited

/-- An ordered stream (R409, R452). -/
structure OStream where
  /-- Namespace, or 65,536 + domain for puts (R409, R452). -/
  key : Nat
  /-- Stream ID (R408). -/
  id : Nat
  /-- Host NQN that first used it (R409). -/
  nqn : Bytes
  /-- Controller and queue of its outstanding writes (R409). -/
  queue : Nat × Nat
  /-- Outstanding commands in submission order (R410). -/
  order : List (Nat × Nat × Nat)
  /-- Broken (R411). -/
  broken : Bool
  deriving DecidableEq, Repr, Inhabited

/-- Object states 0 to 3 (R437). -/
inductive ObjState where
  | opened | accepted | live | released
  deriving DecidableEq, Repr, Inhabited

/-- A part of an object (R454, R438). -/
structure Part where
  /-- Part number (R438). -/
  num : Nat
  /-- ACCEPT_PUT ordinal × 2, plus the side of its sequence (R454). -/
  ordinal : Nat
  /-- Part length (R438). -/
  len : Nat
  /-- Its acceptance instant has come (R454). -/
  accepted : Bool
  /-- Data chunk IDs and lengths, in order (R434). -/
  chunks : List (Nat × Nat)
  /-- Part digest, first 16 bytes (R436). -/
  digest : Bytes
  /-- PART manifest chunk, 0 until built (R454). -/
  manifest : Nat
  /-- PART_ADD committed (R454). -/
  added : Bool
  deriving DecidableEq, Repr, Inhabited

/-- An object record (R437). -/
structure Obj where
  /-- Domain (R438). -/
  domain : Nat
  /-- Request token (R438). -/
  token : Bytes
  /-- State (R437). -/
  state : ObjState
  /-- Stored by LOC_PUT_PART (R430). -/
  multi : Bool
  /-- Top manifest chunk, 0 until built (R438). -/
  top : Nat
  /-- Object length (R438). -/
  len : Nat
  /-- Object digest, first 16 bytes (R438). -/
  digest : Bytes
  /-- Parts (a LOC_PUT has part 0) (R454). -/
  parts : List Part
  /-- Retain-until (R469). -/
  retain : Nat
  /-- Tick of OBJECT_CREATE (R461). -/
  created : Nat
  /-- Time of its last part (R457). -/
  lastPart : Nat
  /-- Time of release (R467). -/
  releasedAt : Nat
  /-- The model's own key of the record (R437). -/
  key : Nat
  deriving DecidableEq, Repr, Inhabited

/-- A token index entry (R439). -/
structure TokenEntry where
  /-- Domain (R439). -/
  domain : Nat
  /-- Token (R439). -/
  token : Bytes
  /-- Acceptance instant (R439). -/
  atNs : Nat
  /-- Object record (R439). -/
  key : Nat
  deriving DecidableEq, Repr, Inhabited

/-- Forage context states 0 to 4 (context image). -/
inductive CtxState where
  | free | binding | bound | broken | failed
  deriving DecidableEq, Repr, Inhabited

/-- A Forage work entry (R487). -/
structure WorkEntry where
  /-- Operation (R487). -/
  op : Nat
  /-- WAIT_COUNT (R487). -/
  waitCount : Bool
  /-- SIGNAL (R487). -/
  signal : Bool
  /-- Length (R487). -/
  len : Nat
  /-- Local address (R487). -/
  localAddr : Nat
  /-- The bytes at the local address for WRITE (R487). -/
  data : Bytes
  /-- Remote offset (R487). -/
  remote : Nat
  /-- Immediate (R487). -/
  imm : BitVec 32
  /-- Wait context (R487). -/
  waitCtx : Nat
  /-- Wait counter: TX (R487). -/
  waitTx : Bool
  /-- Wait value (R487). -/
  waitVal : Nat
  /-- Cookie (R487). -/
  cookie : BitVec 64
  deriving DecidableEq, Repr, Inhabited

/-- A message sent and not yet acknowledged (R489). -/
structure SentMsg where
  /-- Message ID (R487). -/
  id : BitVec 32
  /-- Its work entry (R487). -/
  entry : WorkEntry
  /-- Origin time (R476). -/
  origin : Nat
  /-- A placed map showed it placed (R498). -/
  placed : Bool
  /-- Payload size of its packets, which a change of FORAGE_PAYLOAD leaves (R515). -/
  size : Nat
  /-- Back-off of NAK RNR (R496). -/
  rnrUntil : Option Nat
  deriving DecidableEq, Repr, Inhabited

/-- A unit of the ownership table (R537). -/
inductive OwnUnit where
  /-- A domain. -/
  | domain (id : Nat)
  /-- A honey hive. -/
  | honey (hive : Nat)
  /-- A brood half. -/
  | brood (side : Side)
  deriving DecidableEq, Repr, Inhabited

/-- KEY_CHANGE changes 0 to 6 (R693). -/
inductive KeyChangeKind where
  | domainCreate | rotate | erase | genDrop | classKey | restore | pairInit
  deriving DecidableEq, Repr, Inhabited

/-- A domain key record (R689). -/
structure DomainKeys where
  /-- Domain (R689). -/
  domain : Nat
  /-- Salt (R135, R689). -/
  salt : Bytes
  /-- Data generations and XTS keys (R689). -/
  data : List (Nat × Bytes)
  /-- Locator generations and CMAC keys (R689). -/
  locs : List (Nat × Bytes)
  /-- Newest data generation (R689). -/
  newestData : Nat
  /-- Newest locator generation (R689). -/
  newestLoc : Nat
  /-- Held in the vault SRAM (R690). -/
  onChip : Bool
  /-- Last use (R690). -/
  lastUse : Nat
  /-- The wrapped record in DRAM fails (R690). -/
  dramBad : Bool
  /-- The durable copy fails (R690). -/
  durableBad : Bool
  deriving DecidableEq, Repr, Inhabited

/-- A wake token (R592). -/
structure WakeToken where
  /-- Token ID (R592). -/
  id : Nat
  /-- Holder apiary (R592). -/
  apiary : Nat
  /-- Hive (R592). -/
  hive : Nat
  /-- Priority 0 REBUILD to 4 HOUSEKEEPING (R592, R364). -/
  prio : Nat
  /-- 0 requested, 1 held, 2 recalled, 3 suspended (R592). -/
  state : Nat
  /-- Queen tick of expiry (R592). -/
  expiry : Nat
  /-- Cost, W (R592). -/
  cost : Nat
  /-- Holder side (R592). -/
  side : Side
  /-- Queen tick of the last grant or renewal (R592). -/
  granted : Nat
  /-- A renewal less urgent than the token has come (R594). -/
  lower : Bool
  deriving DecidableEq, Repr, Inhabited

/-- A catalogue entry (R589). -/
structure CatEntry where
  /-- Domain (R589). -/
  domain : Nat
  /-- Apiary (R589). -/
  apiary : Nat
  /-- 0 source, 1 replica, 2 detached (R589). -/
  role : Nat
  /-- Owner side (R589). -/
  side : Side
  /-- Target apiaries (R589). -/
  targets : List Nat
  /-- Group of a replica (R589). -/
  group : Nat
  /-- Queen tick of the REPORT (R589). -/
  tick : Nat
  deriving DecidableEq, Repr, Inhabited

/-- An apiary of the catalogue's apiary list (R590). -/
structure Member7 where
  /-- Apiary ID (R590). -/
  apiary : Nat
  /-- Apiary serial (R587). -/
  serial : Nat
  /-- Head ID of side A (R590). -/
  headA : Nat
  /-- Head ID of side B (R590). -/
  headB : Nat
  /-- Fabric addresses (R590). -/
  addrs : List Bytes
  /-- Input power of every powered hive, last reported (R591). -/
  power : List (Nat × Nat)
  /-- Peak input power of each hive's last wake (R591). -/
  peaks : List (Nat × Nat)
  /-- Newest colony key generation it holds (R604). -/
  keyGen : Nat
  /-- Installed version reported (R587). -/
  version : Nat
  /-- Each side of it that has reported: side number, version, confirmed (R669). -/
  heads : List (Nat × Nat × Bool)
  /-- Both heads have confirmed it (R608, R669). -/
  confirmed : Bool
  /-- When that was reported (R608). -/
  confirmedAt : Nat
  /-- Recorded as vacated (R598). -/
  vacated : Bool
  deriving DecidableEq, Repr, Inhabited

/-- What an ACCEPT_CONTROL record changes (R169; its body layout is not in the spec). -/
inductive CtlChange where
  /-- DOMAIN_CREATE. -/
  | domainCreate (domain : Nat) (side : Side) (horizon : Nat)
  /-- DOMAIN_DELETE. -/
  | domainDelete (domain : Nat)
  /-- NS_CREATE. -/
  | nsCreate (domain nsid size : Nat) (mode : Discard)
  /-- NS_DELETE. -/
  | nsDelete (nsid : Nat)
  /-- NS_RESIZE. -/
  | nsResize (nsid size : Nat)
  /-- SNAP_CREATE. -/
  | snapCreate (nsid snap : Nat) (label : Bytes)
  /-- OWNER_ENROLL. -/
  | ownerEnroll (key : Bytes)
  /-- MIRROR_DISCARD. -/
  | mirrorDiscard (side : Side)
  /-- RG_CREATE. -/
  | rgCreate (group target : Nat) (domains : List Nat)
  /-- RG_DELETE. -/
  | rgDelete (group : Nat)
  /-- RG_PAUSE and RG_RESUME. -/
  | rgPause (group : Nat) (on : Bool)
  /-- SNAP_SHIP. -/
  | snapShip (group nsid snap : Nat)
  /-- A replica group accepted (R518). -/
  | replicaSetup (group source mode : Nat) (domains : List Nat) (side : Side)
  /-- A SETUP with no domains (R531). -/
  | replicaOrphan (group source : Nat)
  /-- RG_DELETE on the receiver (R531). -/
  | replicaDetach (group : Nat)
  /-- UPD_ACTIVATE. -/
  | updActivate (bank version tick : Nat)
  /-- UPD_CONFIRM. -/
  | updConfirm (version : Nat)
  /-- UPD_LOCK. -/
  | updLock (on : Bool)
  /-- COLONY_JOIN with apiary ID 0. -/
  | colonyForm
  /-- COLONY_JOIN accepted. -/
  | colonyJoin (apiary queenEpoch : Nat)
  /-- COLONY_LEAVE. -/
  | colonyLeave
  /-- QUEEN_ASSIGN. -/
  | queenAssign (apiary epoch : Nat) (planned : Bool)
  /-- Queen state: a token set (R585). -/
  | queenToken (t : WakeToken)
  /-- Queen state: a token ended (R585). -/
  | queenTokenEnd (id : Nat)
  /-- Queen state: a catalogue member set (R585). -/
  | queenMember (m : Member7)
  /-- Queen state: a member removed (R585). -/
  | queenMemberEnd (apiary : Nat)
  /-- Queen state: an apiary's entries (R585). -/
  | queenEntries (apiary : Nat) (es : List CatEntry)
  /-- Queen state: rollout (R585). -/
  | queenRollout (wave : Nat) (halted : Bool)
  /-- Settings returned to default (R666). -/
  | settingsDefault (ids : List Nat)
  deriving DecidableEq, Repr, Inhabited

/-- The body and kind fields of a wax record (R165, R169). -/
inductive RecBody where
  /-- ACCEPT_WRITE 0x01. -/
  | acceptWrite (nsid off stream ctrl : Nat) (data : Bytes)
  /-- ACCEPT_PUT 0x02. -/
  | acceptPut (d : PutDesc) (data : Bytes)
  /-- ACCEPT_CONTROL 0x03. -/
  | acceptControl (c : CtlChange)
  /-- STRIPE_COMMIT 0x10 of any purpose but MEMBER_STATE. -/
  | stripeCommit (ord hive : Nat) (region : Region) (purpose : Purpose) (members : List Member) (used epoch : Nat) (envs : List EnvEntry) (openTick : Nat)
  /-- STRIPE_COMMIT of purpose MEMBER_STATE. -/
  | combState (link : Nat) (st : CombState) (serial : Nat)
  /-- MAP_CHANGE 0x11. -/
  | mapChange (items : List MapItem)
  /-- REF_CHANGE 0x12. -/
  | refChange (items : List RefItem)
  /-- CHUNK_CLAIM 0x13. -/
  | chunkClaim (first : Nat)
  /-- RING_RELEASE 0x14. -/
  | ringRelease (items : List RelItem)
  /-- CHECKPOINT 0x15. -/
  | checkpoint (flush commitStart dataStart epoch : Nat) (pinned : List RelItem)
  /-- FRAME_SCHEDULE 0x20. -/
  | frameSchedule (f : Frame)
  /-- FRAME_GO 0x21. -/
  | frameGo (id : Nat)
  /-- FRAME_END 0x22; status 0 applied, else the abort status, 0xFFFF cancelled. -/
  | frameEnd (id status : Nat)
  /-- MODE_CHANGE 0x23. -/
  | modeChange (mode : Mode)
  /-- HANDOVER 0x30. -/
  | handover (role other otherOrd : Nat) (units : List OwnUnit)
  /-- KEY_CHANGE 0x40. -/
  | keyChange (kind : KeyChangeKind) (cls domain dgen lgen ctr : Nat) (body : Option DomainKeys) (ckey : Bytes)
  /-- REPL_PROGRESS 0x50. -/
  | replProgress (group role source seq ordinal srcHead tick : Nat)
  /-- PAD 0x00 of a mirrored ring: it fills the ring to its end (R166). -/
  | pad
  deriving DecidableEq, Repr, Inhabited

/-- A record of the peer's sequence in the mirror ring or shadow half (R172). -/
structure ShadowRec where
  /-- Peer's ordinal (R172). -/
  ordinal : Nat
  /-- Ring or slot (R172). -/
  ring : WaxRing
  /-- Position (R172). -/
  off : Nat
  /-- Length (R165). -/
  units : Nat
  /-- Peer's replay epoch (R165). -/
  epoch : Nat
  /-- Tick (R165). -/
  tick : Nat
  /-- Domain (R165). -/
  domain : Nat
  /-- CONTINUED (R170). -/
  continued : Bool
  /-- Body (R165). -/
  body : RecBody
  /-- Applied to the copy of the peer's metadata (R559). -/
  applied : Bool
  /-- Live in the mirror ring (R177). -/
  live : Bool
  /-- After a takeover: this head lands it as work of its own (R177). -/
  mine : Bool
  /-- Its CRC fails (R161). -/
  torn : Bool
  /-- Format (R165, R664). -/
  fmt : Nat
  deriving DecidableEq, Repr, Inhabited

/-- A message partly or wholly placed and not visible (R490). -/
structure RxMsg where
  /-- Message ID (R490). -/
  id : BitVec 32
  /-- Operation (R476). -/
  op : Nat
  /-- Message length (R476). -/
  len : Nat
  /-- Immediate (R476). -/
  imm : BitVec 32
  /-- Remote offset (R476). -/
  remote : Nat
  /-- Origin time (R476). -/
  origin : Nat
  /-- Payloads placed: offset and bytes (R490). -/
  ranges : List (Nat × Bytes)
  /-- A packet asked for an ACK (R495). -/
  solicit : Bool
  /-- Send time of the packet last placed (R495). -/
  echo : Nat
  /-- The wax record a message of context 2 or 3 carries (R172). -/
  carried : Option ShadowRec
  /-- The journal entry a message of context 4 carries (R224). -/
  journal : Option JournalEntry
  deriving DecidableEq, Repr, Inhabited

/-- A completion entry (R493). -/
structure Cqe where
  /-- Message ID (R493). -/
  id : BitVec 32
  /-- Far head (R493). -/
  farHead : Nat
  /-- Far context (R493). -/
  farCtx : Nat
  /-- Immediate (R493). -/
  imm : BitVec 32
  /-- Length (R493). -/
  len : Nat
  /-- Kind 0 to 3 (R493). -/
  kind : Nat
  /-- Status (R493). -/
  status : Nat
  /-- Counter or cookie (R493). -/
  counter : BitVec 64
  deriving DecidableEq, Repr, Inhabited

/-- A Forage context (context image). -/
structure Ctx where
  /-- Context ID (R482). -/
  id : Nat
  /-- State (R482). -/
  state : CtxState
  /-- PINNED (R482). -/
  pinned : Bool
  /-- RESIDENT (R504). -/
  resident : Bool
  /-- KEY_CLASS (R478). -/
  colonyKey : Bool
  /-- Far head (R483). -/
  farHead : Nat
  /-- Far context (R483). -/
  farCtx : Nat
  /-- Next send ID (R487). -/
  nextSend : BitVec 32
  /-- Next visible ID (R490). -/
  nextVisible : BitVec 32
  /-- Memory key, 0 when revoked (R503). -/
  memKey : BitVec 32
  /-- Region base (R490). -/
  base : Nat
  /-- Region length (R480). -/
  len : Nat
  /-- RX counter (R490). -/
  rx : Nat
  /-- TX counter (R496). -/
  tx : Nat
  /-- Completion ring entries not consumed (R493). -/
  ring : List Cqe
  /-- Completion ring size (R494). -/
  ringSize : Nat
  /-- E907 raised since the ring last drained (R494). -/
  ringFullSaid : Bool
  /-- Path table index (R509). -/
  path : Nat
  /-- Send queue (R487). -/
  sq : List WorkEntry
  /-- Log2 of the entries (R487). -/
  sqSize : Nat
  /-- Sent and unacknowledged (R489). -/
  sent : List SentMsg
  /-- Messages in progress (R490). -/
  placing : List RxMsg
  /-- Memory key of the far region, as the far head named it (R484). -/
  farKey : BitVec 32
  /-- NAK MISSING sent: message, offset of the gap, time (R497). -/
  naks : List (BitVec 32 × Nat × Nat)
  /-- READ_REQ sent and not yet answered by a whole READ_RESP (R493). -/
  reads : List (BitVec 32 × WorkEntry)
  /-- READ_REQ whose READ_RESP is not acknowledged, which holds visibility; its bytes are those read (R493, R498). -/
  readWait : Option RxMsg
  /-- RTO (R498). -/
  rto : Nat
  /-- When the retransmission timer ends (R498, R504). -/
  rtoAt : Nat
  /-- Consecutive expiries without an advance (R511). -/
  rtos : Nat
  /-- The incoming connection is broken (R507). -/
  broken : Bool
  /-- Last use, for eviction (R504). -/
  lastUse : Nat
  /-- A message was given up or the connection broke since the chain base tick (R556). -/
  gaveUp : Bool
  deriving DecidableEq, Repr, Inhabited

/-- A path table entry (R509). -/
structure Path where
  /-- Index (R509). -/
  id : Nat
  /-- Far head (R509). -/
  farHead : Nat
  /-- Carrier: fabric or peer link (R509). -/
  fabric : Bool
  /-- Far address: of the peer's links, or of the far head's fabric pair (R473, R509). -/
  addr : Bytes
  /-- Entropy values (R474, R509). -/
  entropy : List Nat
  /-- Entropy value in use (R511). -/
  which : Nat
  /-- Smoothed RTT (R512). -/
  srtt : Nat
  /-- RTT samples of the last 10 s (R512). -/
  baseSamples : List (Nat × Nat)
  /-- Congestion window (R513). -/
  w : Nat
  /-- Last decrease (R513). -/
  lastDec : Option Nat
  /-- Last traffic (R509). -/
  lastUse : Nat
  deriving DecidableEq, Repr, Inhabited

/-- A Forage packet (R476). -/
structure FPkt where
  /-- Magic and version are right (R480). -/
  magicOk : Bool
  /-- Operation (R476). -/
  op : Nat
  /-- LAST (R476). -/
  last : Bool
  /-- RETRANSMIT (R476). -/
  retransmit : Bool
  /-- SOLICIT_ACK (R476). -/
  solicit : Bool
  /-- Key class (R476). -/
  colonyKey : Bool
  /-- Key generation bits [3:0] (R476). -/
  keyGen : Nat
  /-- Source head (R476). -/
  srcHead : Nat
  /-- Destination head (R476). -/
  dstHead : Nat
  /-- Source context (R476). -/
  srcCtx : Nat
  /-- Destination context (R476). -/
  dstCtx : Nat
  /-- Payload length field (R476). -/
  plen : Nat
  /-- Message ID (R476). -/
  msgId : BitVec 32
  /-- Message offset (R476). -/
  off : Nat
  /-- Message length (R476). -/
  mlen : Nat
  /-- Memory key (R476). -/
  memKey : BitVec 32
  /-- Remote offset (R476). -/
  remote : Nat
  /-- Immediate (R476). -/
  imm : BitVec 32
  /-- Origin time (R476). -/
  origin : Nat
  /-- Send time (R476). -/
  sendTime : Nat
  /-- Payload delivered (R476). -/
  payload : Bytes
  /-- CMAC trailer (R476). -/
  tag : Bytes
  /-- Port it arrived on: 0 to 3 PL, 4 to 11 FP (R479). -/
  port : Nat
  /-- UDP destination port of a fabric packet (R473, R515). -/
  udp : Nat
  /-- EtherType of a frame on a peer link (R24, R473). -/
  ether : Nat
  /-- Reserved bits as delivered: flags [7:3], key class [3:1], bytes 44 to 47; 0 in what a head sends (R7, R476). -/
  resv : Nat × Nat × Nat
  /-- UDP source port of a fabric packet: the entropy value of the path that carries it; 0 on a peer link (R474). -/
  sport : Nat
  /-- DSCP value of a fabric packet; 0 on a peer link (R473). -/
  dscp : Nat
  deriving DecidableEq, Repr, Inhabited

/-- A recent-ID table entry (R501). -/
structure RecentId where
  /-- Source head (R501). -/
  head : Nat
  /-- Source context (R501). -/
  ctx : Nat
  /-- Message ID (R501). -/
  id : BitVec 32
  /-- When it became visible (R501). -/
  atNs : Nat
  deriving DecidableEq, Repr, Inhabited

/-- A shipped item (R520). -/
inductive ShipItem where
  /-- NS_MAP by fingerprint. -/
  | nsMap (nsid k : Nat) (fp : Bytes) (len : Nat) (zero : Bool)
  /-- NS_ZERO. -/
  | nsZero (nsid first count : Nat)
  /-- SNAP_FREEZE. -/
  | snapFreeze (nsid snap : Nat) (label : Bytes)
  /-- NS_CLONE. -/
  | nsClone (src snap new : Nat)
  /-- TREE_DROP. -/
  | treeDrop (nsid snap : Nat)
  /-- OBJECT_CREATE with its leaf fingerprints and its part boundaries: part number, leaves in it. -/
  | objCreate (domain : Nat) (token : Bytes) (len : Nat) (digest : Bytes) (multi : Bool) (leaves : List (Bytes × Nat)) (cuts : List (Nat × Nat))
  /-- OBJECT_STATE. -/
  | objState (domain : Nat) (token : Bytes) (released : Bool) (retain : Nat)
  /-- ACCEPT_CONTROL of NS_CREATE. -/
  | nsCreate (domain nsid size : Nat) (zero : Bool)
  /-- ACCEPT_CONTROL of NS_RESIZE. -/
  | nsResize (nsid size : Nat)
  /-- ACCEPT_CONTROL of SNAP_CREATE; the SNAP_FREEZE that follows is what freezes the snapshot. -/
  | snapCreate (nsid snap : Nat) (label : Bytes)
  /-- A class 0x03 setting. -/
  | setting (id : Nat) (value : Bytes)
  /-- KEY_CHANGE of the domain. -/
  | key (domain gen : Nat) (wrapped : Bytes)
  deriving DecidableEq, Repr, Inhabited

/-- A ship log entry (R520). -/
structure ShipEntry where
  /-- Ship sequence (R520). -/
  seq : Nat
  /-- Source head (R520). -/
  head : Nat
  /-- Source ordinal (R520). -/
  ordinal : Nat
  /-- Commit tick (R520). -/
  tick : Nat
  /-- Shipped items (R520). -/
  items : List ShipItem
  /-- Its size (R529). -/
  bytes : Nat
  /-- Source chunks it names, each counted (R522). -/
  chunks : List Nat
  deriving DecidableEq, Repr, Inhabited

/-- Group states 0 to 5 (R530). -/
inductive RgState where
  | connecting | base | shipping | paused | lapsed | refused
  deriving DecidableEq, Repr, Inhabited

/-- A batch sent and not APPLIED (R524). -/
structure Batch where
  /-- Batch number (R523, R524). -/
  num : Nat
  /-- First ship sequence (R524). -/
  first : Nat
  /-- Last ship sequence (R524). -/
  last : Nat
  /-- Chunks still to be offered, one for each fingerprint; the first 8,192 are in the OFFER sent (R524). -/
  chunks : List Nat
  /-- Those left lie in a dark hive (R524). -/
  wait : Bool
  /-- Marked BASE (R528). -/
  base : Bool
  /-- The BATCH was sent (R524). -/
  sent : Bool
  deriving DecidableEq, Repr, Inhabited

/-- A group as this head's apiary ships it (R516). -/
structure RGroup where
  /-- Group ID (R516). -/
  id : Nat
  /-- Target apiary (R516). -/
  target : Nat
  /-- Domains (R516). -/
  domains : List Nat
  /-- State (R530). -/
  state : RgState
  /-- Head ID tried (R534). -/
  targetHead : Nat
  /-- Next ship sequence (R520). -/
  nextSeq : Nat
  /-- Ship log (R520). -/
  log : List ShipEntry
  /-- Sequence recorded as confirmed (R527). -/
  confirmed : Nat
  /-- Highest sequence sent in a BATCH (R530). -/
  lastShipped : Nat
  /-- Source ordinal of the last applied entry (R530). -/
  appliedOrd : Nat
  /-- Its tick (R530). -/
  appliedTick : Nat
  /-- When the open batch got its first entry (R524). -/
  openSince : Option Nat
  /-- Batches without APPLIED (R524). -/
  inFlight : List Batch
  /-- Next batch number (R524). -/
  nextBatch : Nat
  /-- Base point of a running base pass (R528). -/
  basePoint : Option Nat
  /-- Bytes shipped in the base pass (R530). -/
  baseBytes : Nat
  /-- When POSITION_QUERY was sent (R534). -/
  queryAt : Option Nat
  /-- Last snapshot shipped of each namespace (R532, R533). -/
  shipped : List (Nat × Nat)
  /-- SNAP_SHIP requests waiting (R533). -/
  snapWait : List (Nat × Nat × Waiter)
  /-- A base pass has switched since the last lapse (R528). -/
  based : Bool
  /-- Entries of the running base pass (R528). -/
  baseLog : List ShipEntry
  /-- Next of them to put in a batch (R528). -/
  baseNext : Nat
  deriving DecidableEq, Repr, Inhabited

/-- A group as this head receives it (R518). -/
structure Replica where
  /-- Group ID (R518). -/
  id : Nat
  /-- Source apiary (R518). -/
  source : Nat
  /-- Replica domains (R518). -/
  domains : List Nat
  /-- Last applied ship sequence (R526). -/
  applied : Nat
  /-- Its source ordinal (R535). -/
  ordinal : Nat
  /-- Its source head (R527). -/
  srcHead : Nat
  /-- Its commit tick (R527). -/
  tick : Nat
  /-- Fingerprints to answer as needed (R525). -/
  need : List Bytes
  /-- Failures per fingerprint (R525). -/
  fails : List (Bytes × Nat)
  /-- Batches out of turn (R526). -/
  held : List (Nat × Nat × List ShipEntry)
  /-- Staging state of a base pass (R528). -/
  staging : List ShipEntry
  /-- Orphaned (R531). -/
  orphaned : Bool
  /-- Offers answered, by batch number (R524). -/
  offers : List (Nat × List Bytes)
  /-- Fingerprints landed for it (R525). -/
  verified : List Bytes
  /-- Manifests built here for shipped objects, by token: the top one, then every chunk below it (R526). -/
  tops : List (Bytes × List Nat)
  /-- Mode of SETUP (R518, R532). -/
  mode : Nat
  /-- Next BASE batch's first entry (R528). -/
  stageNext : Nat
  /-- Sequence just below the base point (R528). -/
  stageSeq : Nat
  /-- The last BASE batch is staged (R528). -/
  stageEnd : Bool
  deriving DecidableEq, Repr, Inhabited

/-- A repair being asked for (R536). -/
structure Repair where
  /-- Domain (R536). -/
  domain : Nat
  /-- Lost chunk (R536). -/
  chunk : Nat
  /-- Fingerprint (R536). -/
  fp : Bytes
  /-- Groups asked (R536). -/
  asked : List Nat
  /-- Groups not yet asked (R536). -/
  left : List Nat
  /-- When it was last asked (R536). -/
  atNs : Nat
  deriving DecidableEq, Repr, Inhabited

/-- A 64-byte waggle (R545). -/
structure WaggleMsg where
  /-- Head ID (R545). -/
  head : Nat
  /-- Mode code (R545). -/
  mode : Nat
  /-- GRANT (R545). -/
  grant : Bool
  /-- DORMANT (R545). -/
  dormant : Bool
  /-- DECLARED (R545). -/
  declared : Bool
  /-- YIELDING (R545). -/
  yielding : Bool
  /-- DRAINED (R545). -/
  drained : Bool
  /-- Tick (R545). -/
  tick : Nat
  /-- Grant tick (R545). -/
  grantTick : Nat
  /-- Confirmed ordinal (R545). -/
  confirmed : Nat
  /-- Shadow ordinal (R545). -/
  shadow : Nat
  /-- Peer links (R545). -/
  links : BitVec 8
  /-- Fabric pairs (R545). -/
  pairs : BitVec 8
  /-- Path (R545). -/
  fabric : Bool
  /-- Send time (R545). -/
  sendTime : Nat
  deriving DecidableEq, Repr, Inhabited

/-- A tick digest (R553). -/
structure DigestMsg where
  /-- Head ID (R553). -/
  head : Nat
  /-- 0 match, 1 mismatch, 2 not compared (R553). -/
  echoResult : Nat
  /-- Vault count (R553). -/
  vaultCount : Nat
  /-- Tick t (R553). -/
  tick : Nat
  /-- N(t) (R553). -/
  cutoff : Nat
  /-- D(t) (R553). -/
  own : Bytes
  /-- Echo tick (R553). -/
  echoTick : Nat
  /-- Echo digest (R553). -/
  echo : Bytes
  /-- Vault digest (R553). -/
  vault : Bytes
  deriving DecidableEq, Repr, Inhabited

/-- A fabric port (R574 to R576). -/
structure FabricPort where
  /-- Link and block lock on all lanes (R574). -/
  up : Bool
  /-- Has failed and not become eligible again (R574). -/
  failed : Bool
  /-- Eligible standby (R574). -/
  eligible : Bool
  deriving DecidableEq, Repr, Inhabited

/-- A fabric pair (R20). -/
structure FabricPair where
  /-- Active port; none when no working port (R20, R575). -/
  active : Option Nat
  /-- Even port (R20). -/
  even : FabricPort
  /-- Odd port (R20). -/
  odd : FabricPort
  /-- Last failover or drill (R579). -/
  lastSwap : Option Nat
  deriving DecidableEq, Repr, Inhabited

/-- A PATH_DRILL in progress (R578). -/
structure Drill where
  /-- Pair (R578). -/
  pair : Nat
  /-- Former active port (R578). -/
  former : Nat
  /-- Message ID of the WRITE_IMM (R578). -/
  msg : BitVec 32
  /-- Start (R578). -/
  atNs : Nat
  /-- Reply owed (R578). -/
  waiter : Option Waiter
  deriving DecidableEq, Repr, Inhabited

/-- A rebalance (R572). -/
structure Rebalance where
  /-- This head gives (R572). -/
  giver : Bool
  /-- Units moved (R570). -/
  units : List OwnUnit
  /-- 1 preparation, 2 hold, 3 final (R581). -/
  phase : Nat
  /-- Start of the Hold phase (R573). -/
  holdAt : Nat
  /-- Tick of the internal frame (R570). -/
  tick : Nat
  /-- Ordinal of the GIVE record (R572). -/
  giveOrd : Nat
  /-- The internal rebalance of R569 (R569). -/
  internal : Bool
  deriving DecidableEq, Repr, Inhabited

/-- A domain (DOMAIN_CREATE, R98). -/
structure Domain where
  /-- Domain ID (R98). -/
  id : Nat
  /-- Owner side (R17, R537). -/
  side : Side
  /-- Home side (R538). -/
  home : Side
  /-- Token horizon (R55). -/
  horizon : Nat
  /-- Replica domain (R518, R519). -/
  replica : Bool
  /-- Its keys were erased (R698). -/
  keysErased : Bool
  /-- Being replayed in a takeover (R74). -/
  replaying : Bool
  /-- ANA state Change (R422). -/
  changing : Bool
  deriving DecidableEq, Repr, Inhabited

/-- A token request held for recalls (R593). -/
structure HeldReq where
  /-- Requesting apiary (R593). -/
  apiary : Nat
  /-- Requesting head (R593). -/
  head : Nat
  /-- Hive (R593). -/
  hive : Nat
  /-- Priority (R593). -/
  prio : Nat
  /-- Request number (R587). -/
  num : Nat
  /-- Arrival (R593). -/
  atNs : Nat
  /-- Token IDs whose DORMANT it waits for (R593). -/
  waits : List Nat
  deriving DecidableEq, Repr, Inhabited

/-- A REPORT (R587). -/
structure Report7 where
  /-- Apiary (R587). -/
  apiary : Nat
  /-- Sending head (R587). -/
  head : Nat
  /-- Domains with groups and targets (R587). -/
  domains : List CatEntry
  /-- Tokens held (R587). -/
  tokens : List WakeToken
  /-- Input power of every powered hive (R587). -/
  power : List (Nat × Nat)
  /-- Newest colony key generation held (R604). -/
  keyGen : Nat
  deriving DecidableEq, Repr, Inhabited

/-- A colony message (R587). -/
inductive ColMsg where
  /-- JOIN. -/
  | join (apiary serial headA headB : Nat) (addrs : List Bytes)
  /-- JOIN_REPLY. -/
  | joinReply (accepted : Bool) (cause epoch : Nat) (items : List (Nat × Bytes))
  /-- LEAVE. -/
  | leave (apiary : Nat)
  /-- CONTACT. -/
  | contact (epoch head settingsGen : Nat) (gateOpen : Bool)
  /-- REPORT. -/
  | report (r : Report7)
  /-- TOKEN_REQUEST. -/
  | tokenRequest (hive prio num : Nat)
  /-- TOKEN_GRANT. -/
  | tokenGrant (t : WakeToken) (autonomy : Nat)
  /-- TOKEN_REFUSE. -/
  | tokenRefuse (num cause : Nat)
  /-- TOKEN_RECALL. -/
  | tokenRecall (id : Nat)
  /-- DORMANT. -/
  | dormant (id : Nat)
  /-- SETTINGS. -/
  | settings (gen : Nat) (items : List (Nat × Bytes)) (keyGen : Nat)
  /-- ARBITRATE. -/
  | arbitrate (shownRight : Bool)
  /-- UPDATE_STATE. -/
  | updateState (version : Nat) (pending fallback : Bool)
  /-- The apiary list of R590. -/
  | apiaryList (members : List (Nat × Nat × Nat))
  /-- The queen's answer to ARBITRATE (R557), 0xFFFF for none. -/
  | elect (head : Nat)
  deriving DecidableEq, Repr, Inhabited

/-- A replication message (R523). -/
inductive ReplMsg where
  /-- SETUP. -/
  | setup (group source : Nat) (mode : Nat) (domains : List Nat) (salts : List Bytes)
  /-- SETUP_REPLY. -/
  | setupReply (group : Nat) (accepted : Bool) (cause : Nat)
  /-- POSITION_QUERY. -/
  | positionQuery (group : Nat)
  /-- POSITION. -/
  | position (group seq ordinal : Nat)
  /-- OFFER: fingerprint, domain, content length. -/
  | offer (group batch : Nat) (fps : List (Bytes × Nat × Nat))
  /-- NEED. -/
  | need (group batch : Nat) (bits : List Bool)
  /-- CHUNK. -/
  | chunk (group domain chunk gen clen : Nat) (body : Bytes)
  /-- BATCH. -/
  | batch (group first last : Nat) (base : Bool) (final : Bool) (es : List ShipEntry)
  /-- APPLIED. -/
  | applied (group seq : Nat)
  /-- REPAIR_ASK. -/
  | repairAsk (domain : Nat) (fp : Bytes) (len : Nat)
  /-- REPAIR_DATA. -/
  | repairData (domain chunk gen clen : Nat) (body : Bytes)
  /-- REPAIR_NONE. -/
  | repairNone (domain : Nat) (fp : Bytes)
  deriving DecidableEq, Repr, Inhabited

/-- A class 0, 1 or 2 key (R686, R688). -/
structure ClassKey where
  /-- Previous generation and key (R688). -/
  prev : Option (Nat × Bytes)
  /-- Current (R688). -/
  cur : Option (Nat × Bytes)
  /-- Pending (R688). -/
  pend : Option (Nat × Bytes)
  /-- When the current generation became current (R688). -/
  changedAt : Nat
  deriving DecidableEq, Repr, Inhabited

/-- Reduction: chunks, fingerprints, merges (04). -/
structure ReducePart where
  /-- Chunk table (R268). -/
  chunks : List Chunk
  /-- Envelopes and contents by chunk ID (R153). -/
  store : List Stored
  /-- Fingerprint indexes (R140). -/
  fps : List FpEntry
  /-- Summary filter blocks with a bit set (R137). -/
  filter : List (Nat × BitVec 512)
  /-- Number of blocks (R137). -/
  filterBlocks : Nat
  /-- Filter being built (R139). -/
  filterNew : Option (List (Nat × BitVec 512))
  /-- The filter is complete since the start (R139). -/
  filterReady : Bool
  /-- Positive answers since the last build began (R139). -/
  positives : Nat
  /-- Numbers of the false ones among the last 1,048,576 (R139). -/
  falseAt : List Nat
  /-- Deferred lists (R147). -/
  deferred : List Deferred
  /-- Merges waiting (R129, R130). -/
  merges : List Merge
  /-- Next chunk ID of this head (ID 0 is never allocated) (R132). -/
  nextChunk : Nat
  /-- End of the highest block claimed (R133). -/
  chunkClaim : Nat
  /-- E340 raised (R134). -/
  e340Said : Bool
  /-- Compare faults of the last second (R144). -/
  cmpFaults : List Nat
  /-- Deferring for compare faults; last self-test (R144). -/
  cmpDefer : Option Nat
  /-- Chunks sealed and waiting for a landing stripe: record ordinal, entry, lane (R217, R219). -/
  landing : List (Nat × EnvEntry × Nat)
  /-- Data ring records already chunked (R122). -/
  ingested : List Nat
  /-- Map items waiting for earlier writes: record ordinal, item (R275, R419). -/
  pendingMap : List (Nat × MapItem)
  /-- Parts chunked before their acceptance instant, by record key (R448, R454). -/
  built : List (Nat × Part)
  /-- SNAP_CREATE waiting: NSID, snapshot ID, label, last earlier ordinal, reply (R419). -/
  snapWait : List (Nat × Nat × Bytes × Nat × Waiter)
  /-- Number of blocks of the filter being built (R137, R139). -/
  filterNewBlocks : Nat
  deriving DecidableEq, Repr, Inhabited

/-- Domains, namespaces, snapshots and maps (07, 10). -/
structure VolumesPart where
  /-- Domains (R98). -/
  domains : List Domain
  /-- Namespaces (R401). -/
  nss : List Namespace
  /-- Snapshots (R278). -/
  snaps : List Snapshot
  /-- Map pages (R274). -/
  pages : List MapPage
  /-- Map key counter of each domain (R259). -/
  nextKey : List (Nat × Nat)
  /-- Pending drops: domain, map page key, levels (R279). -/
  drops : List (Nat × Nat × Nat)
  /-- Relocation ledger (R298). -/
  ledger : List LedgerEntry
  /-- E530 raised (R301). -/
  ledger90 : Bool
  deriving DecidableEq, Repr, Inhabited

/-- Stripes, rebuild and reshape (06). -/
structure StripesPart where
  /-- Next stripe ordinal of this head (ordinal 0 is never allocated) (R207). -/
  nextOrd : Nat
  /-- End of the highest block claimed (R208). -/
  claim : Nat
  /-- Stripe table (R272). -/
  table : List Stripe
  /-- Open stripes (R217). -/
  opens : List OpenStripe
  /-- Rebuilds (R233). -/
  rebuilds : List Rebuild
  /-- Unfinished reshapes (R244). -/
  reshapes : List Reshape
  /-- COMB_RETIRE in progress: link, reply owed (R243). -/
  retiring : List (Nat × Option Waiter)
  /-- Combs marked failed: link, and the MEMBER_STATE record by ordinal, side and tick (R46, R820). -/
  marked : List (Nat × Nat × Side × Nat)
  /-- E430 raised (R209). -/
  e430Said : Bool
  /-- Stripe ordinals whose pages are orphaned space (R68, R227). -/
  orphans : List Nat
  /-- Hives this head has been fenced out of (R220). -/
  fencedOut : List Nat
  /-- Brood hive of each ingest lane's newest landing stripe: lane, hive (R217). -/
  laneHive : List (Nat × Nat)
  /-- Chunks that land again after a member's second program failure: chunk, the hive and the link of the failure (R221). -/
  avoid : List (Nat × Nat × Nat)
  /-- Member reads given up for the reads that wait: stripe ordinal and member (R229, R231). -/
  givenUp : List (Nat × Nat)
  deriving DecidableEq, Repr, Inhabited

/-- Block sets, metadata and fold (07). -/
structure MediaPart where
  /-- Media table entries (R255). -/
  sets : List BlockSet
  /-- Fold rows (R287). -/
  rows : List FoldRow
  /-- Next metadata write sequence (R258). -/
  writeSeq : Nat
  /-- End of the highest block claimed (R258). -/
  seqClaim : Nat
  /-- Newest root head (R263). -/
  root : Option RootHead
  /-- Anchor sequence (R264). -/
  anchorSeq : Nat
  /-- Rows opened since the last anchor (R264). -/
  anchorRows : Nat
  /-- Rows that the last anchor lists (R264). -/
  anchors : List MetaRow
  /-- Metadata rows being programmed (R261). -/
  metaOpen : List MetaRow
  /-- Metadata changed since the last flush (R263). -/
  dirty : Bool
  /-- Hives being collected (R294). -/
  gcActive : List Nat
  /-- Hives below half of GC_START, E541 raised (R294). -/
  gcLow : List Nat
  /-- Links with wear moves (R302). -/
  wearActive : List Nat
  /-- Last program of each die: link, die, time (R283). -/
  lastProg : List (Nat × Nat × Nat)
  /-- Metadata pages to be read again once their combs answer (R64, R262). -/
  rereads : List MetaPage
  deriving DecidableEq, Repr, Inhabited

/-- Archive objects (11). -/
structure ObjectsPart where
  /-- Object records (R437). -/
  objs : List Obj
  /-- Token index (R439). -/
  tokens : List TokenEntry
  /-- Next record key (the model's own) (R437). -/
  nextKey : Nat
  /-- Manifests still to be walked: domain, chunk (R468). -/
  walks : List (Nat × Nat)
  deriving DecidableEq, Repr, Inhabited

/-- Replication (13). -/
structure ReplPart where
  /-- Groups this head ships (R516). -/
  groups : List RGroup
  /-- Groups this head receives (R518). -/
  replicas : List Replica
  /-- Repairs asked for (R536). -/
  repairs : List Repair
  /-- Detached groups, whose messages are refused (R531). -/
  detached : List Nat
  /-- REPAIR_ASKs that wait for a hive: asking head, domain, fingerprint and length (R229, R536). -/
  asks : List (Nat × Nat × Bytes × Nat)
  deriving DecidableEq, Repr, Inhabited

/-- The colony: worker and queen (15). -/
structure ColonyPart where
  /-- The apiary belongs to a colony (R583). -/
  member : Bool
  /-- This head is the queen head (R584). -/
  queenHead : Bool
  /-- Queen address (R98). -/
  queenAddr : Bytes
  /-- Highest queen epoch seen (R586). -/
  epoch : Nat
  /-- Last CONTACT (R588). -/
  lastContact : Option Nat
  /-- Queen reachable (R588). -/
  reachable : Bool
  /-- 24 hours have passed without the queen (R379). -/
  autonomyDone : Bool
  /-- Autonomy budget of the last grant (R379). -/
  autonomy : Nat
  /-- Wave gate of the last CONTACT (R610). -/
  gateOpen : Bool
  /-- Settings generation (R588). -/
  settingsGen : Nat
  /-- COLONY_JOIN waiting: reply, apiary ID, time (R605, R606). -/
  joinWait : Option (Waiter × Nat × Nat)
  /-- Apiary list: apiary, head IDs (R590). -/
  apiaries : List (Nat × Nat × Nat × List Bytes)
  /-- Token request number (R587). -/
  reqNum : Nat
  /-- Token requests sent: number, hive, priority (R376). -/
  reqs : List (Nat × Nat × Nat)
  /-- Tokens this apiary holds (R592). -/
  tokens : List WakeToken
  /-- Queen: apiary list (R590). -/
  members : List Member7
  /-- Queen: catalogue entries (R589). -/
  catalogue : List CatEntry
  /-- Queen: token table (R591). -/
  qTokens : List WakeToken
  /-- Queen: held requests (R593). -/
  qHeld : List HeldReq
  /-- Queen: next token ID (R592). -/
  nextToken : Nat
  /-- Queen: waves open (R608). -/
  waves : Nat
  /-- Queen: a rollout runs (R608). -/
  rolling : Bool
  /-- Queen: the rollout is halted (R609). -/
  haltedRollout : Bool
  /-- Since when a colony key generation is missing here (R604). -/
  lagSince : Option Nat
  /-- EC06 raised (R604). -/
  lagSaid : Bool
  /-- Apiary recorded as vacated (R598). -/
  vacated : Option Nat
  /-- Deposed queen (R602). -/
  deposed : Bool
  /-- Queen: ARBITRATE reports whose fellow has not come: head, shown right (R557). -/
  arbiters : List (Nat × Bool)
  /-- REPORT last sent (R588). -/
  lastReport : Option Report7
  deriving DecidableEq, Repr, Inhabited

/-- The tables of the metadata pages that the newest root head reaches (R257 to R263). -/
structure FlashMeta where
  /-- Covered ordinal of this head's sequence (R263). -/
  covered : Nat
  /-- Highest ordinal of the peer's sequence whose effect the tables hold. -/
  peerCovered : Nat
  /-- Chunk tables and fingerprint indexes. -/
  rd : ReducePart
  /-- Domains, namespaces, snapshots, maps and ledger. -/
  vo : VolumesPart
  /-- Stripe tables. -/
  sp : StripesPart
  /-- Media tables. -/
  me : MediaPart
  /-- Object records and token indexes. -/
  ob : ObjectsPart
  /-- Group descriptors and ship logs. -/
  rp : ReplPart
  /-- Colony state that commit records carry. -/
  co : ColonyPart
  /-- Settings in force. -/
  settings : List (Nat × Bytes)
  /-- Scheduled and ended frames. -/
  frames : List Frame
  /-- Durable copies of the domain key records (R690). -/
  recs : List DomainKeys
  /-- Domains whose keys were erased (R698). -/
  erased : List Nat
  /-- Ownership table (R537). -/
  owners : List (OwnUnit × Side)
  /-- Home sides (R538). -/
  homes : List (OwnUnit × Side)
  /-- Where its pages lie (R257, R260). -/
  pages : List MetaPage
  /-- Frames the peer has scheduled (R813). -/
  peerFrames : List (Nat × List Item)
  /-- A TAKEOVER record of this head stood at the flush (R184, R263). -/
  tookOver : Bool
  deriving DecidableEq, Repr, Inhabited

/-- What a head reports on context 8 at pair join (R190, R665). -/
structure HeadReport where
  /-- Firmware version (R665). -/
  version : Nat
  /-- Its bank is on trial (R665). -/
  trial : Bool
  /-- Its DRAM population (R190). -/
  dramGiB : Nat
  /-- Its tick epoch (R747, R753). -/
  epoch : Option Nat
  /-- It holds a TAKEOVER record that names the receiver, whose units it has served since (R184). -/
  tookOver : Bool
  /-- The highest ordinal of the receiver's sequence that its shadow holds (R812). -/
  held : Nat
  /-- Its own copy of its sequence cannot be replayed (R812). -/
  lost : Bool
  /-- What the pages that its newest root head reaches hold: they lie on brood flash, where both heads read them (R263, R265); the model
  passes them with the report (DESIGN CHOICE, log 89). -/
  tables : FlashMeta
  /-- What its confirmed firmware reads and writes (R665). -/
  formats : Formats
  deriving DecidableEq, Repr, Inhabited

/-- What follows the acceptance instant of a record (R31, R35). -/
inductive After where
  /-- A Virkan reply. -/
  | reply (w : Waiter) (st : VStatus) (payload : Bytes)
  /-- The final reply of a request that has been answered PENDING (R93). -/
  | final (w : Waiter) (st : VStatus) (payload : Bytes)
  /-- An NVMe completion. -/
  | complete (ctrl qid cid dw0 : Nat)
  /-- A colony message. -/
  | col (head : Nat) (m : ColMsg)
  /-- A replication message. -/
  | repl (head : Nat) (m : ReplMsg)
  /-- The reset of UPD_ACTIVATE (R657). -/
  | activate
  /-- The BANK_SELECT of UPD_CONFIRM (R662). -/
  | confirmBank
  /-- The frame is Scheduled (R104). -/
  | scheduled (frame ord : Nat)
  /-- Readiness is confirmed to the coordinating head (R110). -/
  | readiness (frame : Nat)
  /-- Step 6 of R560. -/
  | takeoverDone
  /-- A RING_RELEASE of the named records (R173). -/
  | release (recs : List Nat)
  /-- The erase of a FREE_DIRTY block set (R256). -/
  | eraseBlock (link die block : Nat) (qlc : Bool)
  deriving DecidableEq, Repr, Inhabited

/-- A record of this head's sequence (R165). -/
structure WaxRec where
  /-- Commit ordinal (R42). -/
  ordinal : Nat
  /-- Ring or slot (R160, R179). -/
  ring : WaxRing
  /-- Position (R171). -/
  off : Nat
  /-- Record length (R165). -/
  units : Nat
  /-- Replay epoch (R165, R182). -/
  epoch : Nat
  /-- Tick of the ordinal (R165). -/
  tick : Nat
  /-- Domain or 0xFFFF (R165). -/
  domain : Nat
  /-- CONTINUED (R170). -/
  continued : Bool
  /-- Body (R165). -/
  body : RecBody
  /-- What follows acceptance (R31). -/
  after : List After
  /-- Local wax copy confirmed (R29). -/
  localOk : Bool
  /-- Peer wax copy confirmed (R30). -/
  peerOk : Bool
  /-- Its landing stripes are all programmed (R27). -/
  flashOk : Bool
  /-- Acceptance instant has come (R27). -/
  accepted : Bool
  /-- Live in the data ring (R173). -/
  live : Bool
  /-- Its CRC fails (R161, R162). -/
  torn : Bool
  /-- Format (R165, R664). -/
  fmt : Nat
  deriving DecidableEq, Repr, Inhabited

/-- An event report on its way to the ring (R711). -/
structure Report0 where
  /-- Code (R711). -/
  code : Nat
  /-- Severity (R711). -/
  sev : Severity
  /-- Source block (R714). -/
  src : Nat
  /-- Domain (R711). -/
  domain : Nat
  /-- Count (R713). -/
  count : Nat
  /-- Detail (R711). -/
  detail : Bytes
  /-- Time raised (R711). -/
  atNs : Nat
  deriving DecidableEq, Repr, Inhabited

/-- An event record in a ring slot (R713). -/
structure EvRec where
  /-- Slot (R723). -/
  slot : Nat
  /-- Sequence (R713). -/
  seq : Nat
  /-- The report (R713). -/
  rep : Report0
  deriving DecidableEq, Repr, Inhabited

/-- A code's token bucket and window (R717, R718). -/
structure Bucket where
  /-- Code (R717). -/
  code : Nat
  /-- Tokens held (R717). -/
  tokens : Nat
  /-- Last refill, or when it fell below full (R717). -/
  belowSince : Nat
  /-- When the bucket window opened (R718). -/
  winOpen : Option Nat
  /-- Suppressions in the window (R718). -/
  winCount : Nat
  /-- Highest severity suppressed (R716). -/
  winSev : Severity
  /-- First suppression (R718). -/
  winFirst : Nat
  /-- Last suppression (R718). -/
  winLast : Nat
  deriving DecidableEq, Repr, Inhabited

/-- A counter other than 0 (R734). -/
structure CtrVal where
  /-- Class (R736). -/
  cls : Nat
  /-- Index (R737). -/
  idx : Nat
  /-- Position in the class (R736). -/
  pos : Nat
  /-- Value (R734). -/
  val : Nat
  /-- SAT (R734). -/
  sat : Bool
  /-- E0F0 not yet raised since the last clear (R735). -/
  armed : Bool
  deriving DecidableEq, Repr, Inhabited

/-- A boot ledger record (R618). -/
structure LedgerRec where
  /-- Kind (R619). -/
  kind : Nat
  /-- Step (R618). -/
  step : Nat
  /-- Outcome (R618). -/
  outcome : Nat
  /-- Ledger sequence (R617). -/
  seq : Nat
  /-- Start number (R618). -/
  start : Nat
  /-- RTC time (R618). -/
  rtc : Nat
  /-- Attempt (R618). -/
  attempt : Nat
  /-- Executing bank (R618). -/
  bank : Nat
  /-- Fail code (R618). -/
  failCode : Nat
  /-- Duration, us (R618). -/
  dur : Nat
  /-- Detail (R618). -/
  detail : Bytes
  deriving DecidableEq, Repr, Inhabited

/-- A measurement log entry (R639). -/
structure MeasEntry where
  /-- Tally (R639). -/
  tally : Nat
  /-- Boot step (R639). -/
  step : Nat
  /-- Source (R639). -/
  source : Nat
  /-- Index (R639). -/
  index : Nat
  /-- Measurement (R639). -/
  m : Bytes
  deriving DecidableEq, Repr, Inhabited

/-- What a code flash bank holds (R631). -/
structure BankImg where
  /-- Magic and format pass (R632). -/
  magicOk : Bool
  /-- Firmware version (R631). -/
  version : Nat
  /-- Security version (R631). -/
  security : Nat
  /-- Loader offset (R631). -/
  loaderOff : Nat
  /-- Loader length (R631). -/
  loaderLen : Nat
  /-- Main offset (R631). -/
  mainOff : Nat
  /-- Main length (R631). -/
  mainLen : Nat
  /-- Loader digest (R631). -/
  loaderDigest : Bytes
  /-- Main digest (R631). -/
  mainDigest : Bytes
  /-- Signature (R631). -/
  sig : Bytes
  /-- Header bytes measured (R631). -/
  header : Bytes
  /-- Bank bytes, sectors not written being absent at the end (R631). -/
  data : Bytes
  deriving DecidableEq, Repr, Inhabited

/-- What a START command says happens in a boot step, the outcome of hardware the spec leaves outside. -/
structure StepPlan where
  /-- Step (R612). -/
  step : Nat
  /-- The step fails (R621). -/
  fail : Bool
  /-- It fails by passing its deadline (R613). -/
  deadline : Bool
  /-- Units gated at step 9 (R625). -/
  degraded : BitVec 64
  /-- Duration (R618). -/
  durUs : Nat
  deriving DecidableEq, Repr, Inhabited

/-- The open update (R648). -/
structure Update where
  /-- Package length (R648). -/
  len : Nat
  /-- Base version (R648). -/
  base : Nat
  /-- Received length (R650). -/
  received : Nat
  /-- Package bytes received (R650). -/
  pkg : Bytes
  /-- Package bytes applied (R653). -/
  applied : Nat
  /-- Result produced (R653). -/
  result : Bytes
  /-- Package header checked (R651). -/
  headerOk : Bool
  /-- Verified (R656). -/
  verified : Bool
  /-- Staging buffer in use (R652). -/
  staged : Nat
  /-- UPD_BLOCK requests held for room: offset, CRC and payload (R652). -/
  heldBlocks : List (Waiter × Nat × Nat × Bytes)
  deriving DecidableEq, Repr, Inhabited

/-- Seal engine operations (R671). -/
inductive SealOp where
  | xtsEnc | xtsDec | cmacGen | cmacVerify
  deriving DecidableEq, Repr, Inhabited

/-- A seal request descriptor (R671). -/
structure SealReq where
  /-- Operation (R671). -/
  op : SealOp
  /-- Priority class (R675). -/
  cls : Nat
  /-- Tag length (R671). -/
  tagLen : Nat
  /-- Message bytes (R671). -/
  len : Nat
  /-- Source address (R671). -/
  src : Nat
  /-- Destination address (R671). -/
  dst : Nat
  /-- Tweak (R671). -/
  tweak : BitVec 128
  /-- Key handle class (R673). -/
  keyClass : Nat
  /-- Key handle kind (R673). -/
  keyKind : Nat
  /-- Key handle index (R673). -/
  keyIndex : Nat
  /-- Key handle generation (R673). -/
  keyGen : Nat
  /-- Cookie (R671). -/
  cookie : BitVec 64
  /-- Request queue (R674). -/
  queue : Nat
  deriving DecidableEq, Repr, Inhabited

/-- A message in the seal engine. -/
structure SealMsg where
  /-- Submission number (R674). -/
  id : Nat
  /-- Descriptor (R671). -/
  req : SealReq
  /-- Bytes done (R677). -/
  doneBytes : Nat
  /-- Start order (R676). -/
  started : Nat
  /-- Urgent (R678). -/
  urgent : Bool
  /-- Order of becoming urgent (R678). -/
  urgentOrd : Nat
  /-- Time of suspension (R677). -/
  suspAt : Nat
  /-- Completion status once finished (R674). -/
  status : Option Nat
  /-- Waits for its domain key record (R690). -/
  waitKey : Bool
  /-- Since when it waits because no slot is free (R677). -/
  slotAt : Option Nat
  /-- Key loaded from the vault, empty until it is (R673). -/
  key : Bytes
  deriving DecidableEq, Repr, Inhabited

/-- A SHA-256 lane as the compare-only unit sees it (R681). -/
structure LaneSt where
  /-- Fingerprint held (R681). -/
  fp : Bytes
  /-- Messages begun, for LANE_STALE (R683). -/
  serial : Nat
  deriving DecidableEq, Repr, Inhabited

/-- A worker's copy of the class 0x06 settings (R587). -/
structure Settings7 where
  /-- Settings generation (R588). -/
  gen : Nat
  /-- Values (R600). -/
  items : List (Nat × Bytes)
  deriving DecidableEq, Repr, Inhabited

/-- A self-check report (R556). -/
structure SelfReport where
  /-- The head is shown right (R556). -/
  right : Bool
  /-- Arrival (R557). -/
  atNs : Nat
  deriving DecidableEq, Repr, Inhabited

/-- TCP services of the head (R389, R83, R644). -/
inductive TcpSvc where
  | nvme | discovery | mg | attestation
  deriving DecidableEq, Repr, Inhabited

/-- A Fabrics Connect command (R395, R396). -/
structure NvConnect where
  /-- Connection (R390). -/
  conn : Nat
  /-- Command (R396). -/
  cid : Nat
  /-- Queue (R396). -/
  qid : Nat
  /-- Submission queue size, 0's based (R396). -/
  sqsize : Nat
  /-- Keep-alive timeout, ms (R398). -/
  kato : Nat
  /-- Controller ID asked for (R395). -/
  cntlid : Nat
  /-- Host NQN (R396). -/
  nqn : Bytes
  /-- Subsystem NQN (R397). -/
  subnqn : Bytes
  deriving DecidableEq, Repr, Inhabited

/-- What the head, its bridges, shelves or sentinel send (the model's record of outputs). -/
inductive Out where
  /-- A Virkan reply or notice sent (R83, R94). -/
  | virkan (via : Transport) (bytes : Bytes)
  /-- A Virkan or attestation TCP connection closed. -/
  | mgClose (conn : Nat)
  /-- An attestation answer (R644). -/
  | attReply (conn : Nat) (bytes : Bytes)
  /-- An NVMe completion with the data moved to the host. -/
  | cqe (ctrl qid cid sct sc : Nat) (dnr : Bool) (dw0 : BitVec 32) (data : Bytes)
  /-- An R2T (R392). -/
  | r2t (conn cid off len : Nat)
  /-- An ICResp (R391). -/
  | icResp (conn : Nat) (hdgst ddgst : Bool)
  /-- A C2HTermReq (R393). -/
  | termReq (conn fes : Nat)
  /-- A TCP connection accepted. -/
  | tcpAccept (conn : Nat)
  /-- A TCP connection reset on opening. -/
  | tcpReset (svc : TcpSvc)
  /-- A TCP connection closed. -/
  | tcpClose (conn : Nat)
  /-- Unacknowledged segments sent again (R424). -/
  | tcpResend (conn : Nat)
  /-- A comb-link frame. -/
  | link (link : Nat) (toHead : Bool) (port : Side) (f : LFrame)
  /-- Lane adaptation begun on a comb link. -/
  | adapt (link : Nat)
  /-- A hive control bus request. -/
  | hcb (bus dst cmd arg seq : Nat)
  /-- A shelf's reply. -/
  | shelfReply (hive : Nat) (dst : Side) (r : ShelfReply)
  /-- A Forage packet sent. -/
  | fpkt (p : FPkt)
  /-- A Forage ACK. -/
  | fack (dstHead dstCtx : Nat) (id : BitVec 32) (rx : Nat) (map : BitVec 64) (echo : Nat)
  /-- A Forage NAK. -/
  | fnak (dstHead dstCtx : Nat) (id : BitVec 32) (code : Nat) (off len : Nat)
  /-- A waggle. -/
  | waggle (fabric : Bool) (m : WaggleMsg)
  /-- A tick digest. -/
  | digest (m : DigestMsg)
  /-- The report of pair join (R190, R665). -/
  | headReport (r : HeadReport)
  /-- A record copied to the peer on contexts 9 to 15: one of this head's sequence (R185), or one of the peer's own from the shadow
  (R183, R812). -/
  | copyRec (ownSeq : Bool) (ord : Nat)
  /-- A PAD record copied to the peer, of this head's rings or of the peer's own from the shadow (R185, R812). -/
  | copyPad (ownSeq : Bool) (ring : WaxRing) (off units : Nat)
  /-- A journal entry copied to the peer in Rejoin (R565). -/
  | copyEntry (seq : Nat)
  /-- The key vault copied to the peer in Rejoin, wrapped under the pair key (R565, R691). -/
  | copyVault
  /-- A self-check report. -/
  | selfReport (right : Bool) (toQueen : Bool)
  /-- A pair-wide frame sent to the peer (R110). -/
  | frameToPeer (f : Frame)
  /-- Readiness confirmed to the coordinating head, or refused (R110). -/
  | readiness (frame : Nat) (ok : Bool)
  /-- A record of this head's sequence sent to the peer's wax (R30, R172). -/
  | mirror (ord : Nat)
  /-- A stripe journal entry sent to the peer's wax (R224, R226). -/
  | mirrorEntry (seq : Nat)
  /-- A colony message. -/
  | col (head : Nat) (m : ColMsg)
  /-- A replication message. -/
  | repl (head : Nat) (m : ReplMsg)
  /-- A last-gasp record of the sentinel (R727). -/
  | lastGasp (code : Nat) (detail : Bytes)
  /-- A reset of the device. -/
  | reset (cause : Nat)
  /-- An I3C in-band interrupt (R778). -/
  | ibi (mdb : BitVec 8)
  /-- An I3C CCC answer. -/
  | i3c (bytes : Bytes)
  /-- A word read on the sideband. -/
  | sbRead (word : BitVec 32)
  /-- A change of an output pad. -/
  | wakePin (low : Bool)
  /-- Pads latched or released. -/
  | pads (held : Bool)
  /-- An answer of MG to a network frame (R25). -/
  | net (bytes : Bytes)
  /-- A seal completion with its output. -/
  | sealDone (cookie : BitVec 64) (queue status : Nat) (bytes : Bytes)
  /-- The result pair of the compare-only unit (R684). -/
  | cmp (match_ : Bool)
  /-- Data of a map cache access. -/
  | cached (hit : Bool) (data : Bytes)
  /-- An association ended. -/
  | ctrlEnd (ctrl : Nat)
  /-- A PTP Delay_Req (R749). -/
  | ptpReq
  /-- On a newly active fabric port, a gratuitous ARP for each IPv4 address and an unsolicited neighbour advertisement for each IPv6 address of its pair (R424). -/
  | announce (port : Nat)
  deriving DecidableEq, Repr, Inhabited

/-- A parameter of an opcode (R98). -/
structure VParam where
  /-- Required (R98). -/
  req : Bool
  /-- May be repeated (R98). -/
  rep : Bool
  /-- Ranges of lengths (R80). -/
  lens : List (Nat × Nat)
  /-- Least value (R80). -/
  lo : Nat
  /-- Greatest value (R80). -/
  hi : Nat
  deriving DecidableEq, Repr, Inhabited

/-- A row of the opcode catalogue (R98). -/
structure VOp where
  /-- Opcode (R98). -/
  op : Nat
  /-- Privilege (R98). -/
  priv : Priv
  /-- Parameters in order (R98). -/
  params : List VParam
  /-- Discarding action (R96). -/
  confirm : Bool
  /-- Changes persistent state (R98, R45). -/
  changes : Bool
  deriving DecidableEq, Repr, Inhabited

end Sys2Proof.Machine
end

