-- ==== Sys2Proof/Syntax.lean ====
section
/-! DEFINITION. The commands of the block: one constructor for each row of spec/opcode_table.json,
in the order of the table. A command carries what its sender gives with it. -/

namespace Sys2Proof

open Sys2Proof.Machine

/-- The commands, one constructor for each row of the table. -/
inductive Instr where
  /-- SESSION_OPEN (R87): Creates a Virkan session at observer privilege and returns its handle and a 32-byte nonce. -/
  | sessionOpen (q : VReq)
  /-- SESSION_AUTH (R88): Checks an operator CMAC or owner ECDSA proof and raises the session's privilege; three failures close the session. -/
  | sessionAuth (q : VReq)
  /-- SESSION_CLOSE (R98): Closes the requesting session. -/
  | sessionClose (q : VReq)
  /-- SESSION_LIST (R98): Returns the handle, transport, privilege and idle time of each session. -/
  | sessionList (q : VReq)
  /-- SESSION_IDLE_EXPIRY (R91): Closes a session after 900 s without a request. -/
  | sessionIdleExpiry (handle : Nat)
  /-- CFG_OPEN (R101): Opens a head-scope or pair-scope configuration frame for the session. -/
  | cfgOpen (q : VReq)
  /-- CFG_STAGE (R814): Stages, replaces or removes frame items after judging each against its setting. -/
  | cfgStage (q : VReq)
  /-- CFG_CHECK (R103): Judges the staged items against the state after every scheduled frame and lists the conflicts. -/
  | cfgCheck (q : VReq)
  /-- CFG_APPLY (R104): Re-checks a Checked frame, writes its schedule record for tick T and, for a pair frame, sends it to the peer. -/
  | cfgApply (q : VReq)
  /-- CFG_CANCEL (R108): Cancels a Scheduled frame up to tick T − 2 with a cancel record. -/
  | cfgCancel (q : VReq)
  /-- CFG_STATUS (R98): Returns the state, tick and abort status of a frame. -/
  | cfgStatus (q : VReq)
  /-- CFG_READ (R98): Returns the current values of the named settings. -/
  | cfgRead (q : VReq)
  /-- MODE_GET (R98): Returns each side's mode, the drained flag and the next scheduled mode. -/
  | modeGet (q : VReq)
  /-- FRAME_IDLE_EXPIRY (R102): Discards an Open or Checked frame when FRAME_IDLE_LIMIT passes without a CFG request. -/
  | frameIdleExpiry (frame : Nat)
  /-- FRAME_READINESS (R110): The peer checks a pair-wide frame sent by the coordinating head, writes its schedule record and confirms readiness. -/
  | frameReadiness (fromCoord : Bool) (frame tick : Nat) (items : List Item) (ok : Bool)
  /-- FRAME_READINESS_DEADLINE (R111): At the start of tick T − 1 the coordinating head writes the go record, or an abort record when readiness has not arrived. -/
  | frameReadinessDeadline (frame : Nat)
  /-- GO_RECORD_LATE_CONFIRM (R114): Applies a pair-wide frame with tick T once its go record is confirmed after T. -/
  | goRecordLateConfirm (frame : Nat)
  /-- WAKE_MODE_RECHECK (R121): Re-judges the change from Quiesce to WAKE_MODE every 100 ms after a refused wake change. -/
  | wakeModeRecheck
  /-- DOMAIN_CREATE (R98): Creates a domain with its owner side, salt, keys and token horizon. -/
  | domainCreate (q : VReq)
  /-- DOMAIN_DELETE (R96): Discarding action that deletes a domain after its confirmation code. -/
  | domainDelete (q : VReq)
  /-- DOMAIN_LIST (R98): Returns each domain with its owner side and namespaces. -/
  | domainList (q : VReq)
  /-- NS_CREATE (R98): Creates a block namespace in a domain with its size and discard mode. -/
  | nsCreate (q : VReq)
  /-- NS_DELETE (R421): Discarding action that removes a namespace together with its snapshots. -/
  | nsDelete (q : VReq)
  /-- NS_RESIZE (R421): Grows the live tree of a namespace. -/
  | nsResize (q : VReq)
  /-- NS_LIST (R98): Returns the namespaces with size, discard mode and snapshots. -/
  | nsList (q : VReq)
  /-- SNAP_CREATE (R419): Commits SNAP_FREEZE after the map items of earlier writes and replies once it is committed. -/
  | snapCreate (q : VReq)
  /-- SNAP_DELETE (R98): Discarding action that drops a snapshot's tree. -/
  | snapDelete (q : VReq)
  /-- SNAP_CLONE (R420): Creates a writable namespace from a snapshot that shares its map pages. -/
  | snapClone (q : VReq)
  /-- HIVE_STATUS (R349): Returns a hive's role, power state, owner, combs and gather list length. -/
  | hiveStatus (q : VReq)
  /-- HIVE_WAKE (R368): Adds a READ need to a honey hive so that it wakes and stays awake. -/
  | hiveWake (q : VReq)
  /-- HIVE_DARK (R368): Takes the dark decision for a honey hive and replies when it is dark. -/
  | hiveDark (q : VReq)
  /-- SUPER_ATTACH (R244): Schedules a frame that brings up added combs, applies the new width and starts a reshape. -/
  | superAttach (q : VReq)
  /-- COMB_RETIRE (R243): Copies every unit of a comb to other targets and commits the comb retired. -/
  | combRetire (q : VReq)
  /-- STRIPE_ACCEPT_LOSS (R98): Discarding action that records the chunks of a stripe DATA_LOST. -/
  | stripeAcceptLoss (q : VReq)
  /-- MEDIA_STATS (R98): Returns media counters per comb. -/
  | mediaStats (q : VReq)
  /-- PAIR_STATUS (R581): Returns the 128-byte pair status block. -/
  | pairStatus (q : VReq)
  /-- REBALANCE (R570): Schedules the move of named or off-home units to the other head. -/
  | rebalance (q : VReq)
  /-- PATH_DRILL (R578): Swaps a fabric pair to its standby port and tests it with a solicited Forage write. -/
  | pathDrill (q : VReq)
  /-- PATH_DRILL_ACK_TIMEOUT (R578): When no ACK arrives within 100 ms the drill fails, the former port becomes active again and EB0E is raised. -/
  | pathDrillAckTimeout
  /-- MIRROR_DISCARD (R98): Discarding action that discards a wax mirror whose partner copy is gone. -/
  | mirrorDiscard (q : VReq)
  /-- PAIR_ELECT (R558): Discarding action that names the side that continues after an unresolved tick-digest mismatch. -/
  | pairElect (q : VReq)
  /-- COLONY_STATUS (R98): Returns the colony role, queen, grants and autonomy time left. -/
  | colonyStatus (q : VReq)
  /-- COLONY_JOIN (R605): Forms a colony as queen or sends JOIN to a queen and takes the granted apiary ID. -/
  | colonyJoin (q : VReq)
  /-- COLONY_JOIN_TIMEOUT (R606): Refuses COLONY_JOIN with REFUSED_PEER_STATE when no JOIN_REPLY arrives within 10 s. -/
  | colonyJoinTimeout
  /-- COLONY_LEAVE (R607): Sends LEAVE, returns every token and takes apiary ID 0. -/
  | colonyLeave (q : VReq)
  /-- QUEEN_ASSIGN (R598): Moves the queen role to a worker, planned or in emergency, with a raised queen epoch. -/
  | queenAssign (q : VReq)
  /-- TOKEN_STATUS (R592): Returns one entry for each wake token of the apiary. -/
  | tokenStatus (q : VReq)
  /-- CATALOGUE_READ (R589): Returns the catalogue entries of a domain ID or the whole catalogue. -/
  | catalogueRead (q : VReq)
  /-- RG_CREATE (R516): Creates a replication consistency group within the group limits. -/
  | rgCreate (q : VReq)
  /-- RG_DELETE (R531): Stops shipping on the shipper, or detaches the replica on the receiver. -/
  | rgDelete (q : VReq)
  /-- RG_STATUS (R530): Returns the 64-byte status of each group. -/
  | rgStatus (q : VReq)
  /-- RG_PAUSE (R530): Pauses shipping of a group while its log keeps growing. -/
  | rgPause (q : VReq)
  /-- RG_RESUME (R530): Resumes shipping of a paused group. -/
  | rgResume (q : VReq)
  /-- SNAP_SHIP (R532): Ships a snapshot's changed map pages as BASE batches in a snapshot-mode group. -/
  | snapShip (q : VReq)
  /-- OWNER_ENROLL (R90): Enrols the owner public key and extends T7. -/
  | ownerEnroll (q : VReq)
  /-- KEY_PROVISION (R701): Checks an import blob and installs a pair, colony or management key as pending. -/
  | keyProvision (q : VReq)
  /-- KEY_ESCROW_EXPORT (R702): Returns an export blob of the vault keys to the named escrow key. -/
  | keyEscrowExport (q : VReq)
  /-- KEY_RESTORE (R703): Restores an empty or erased vault from an escrow blob, then silences its waggles and resets. -/
  | keyRestore (q : VReq)
  /-- KEY_ROTATE (R689): Adds a new data and locator key generation to a domain. -/
  | keyRotate (q : VReq)
  /-- KEY_ERASE (R698): Discarding action that commits ERASE and zeroes a domain's key record. -/
  | keyErase (q : VReq)
  /-- KEY_STATUS (R704): Returns the vault state, alarm cause and signed exchange key. -/
  | keyStatus (q : VReq)
  /-- EVT_READ (R728): Returns event records from a sequence number, in ascending order. -/
  | evtRead (q : VReq)
  /-- EVT_SUBSCRIBE (R729): Sets or ends the session's event subscription. -/
  | evtSubscribe (q : VReq)
  /-- CTR_READ (R738): Samples the counters of a class and index, or of a list, at one instant. -/
  | ctrRead (q : VReq)
  /-- CTR_CLEAR (R740): Clears counters of a class and index and rearms E0F0. -/
  | ctrClear (q : VReq)
  /-- ATTEST (R641): Returns the tallies, measurement log and certificate signed by the identity key over the nonce. -/
  | attest (q : VReq)
  /-- LEDGER_READ (R620): Returns every valid boot ledger record in ascending sequence. -/
  | ledgerRead (q : VReq)
  /-- UPD_BEGIN (R648): Opens a firmware update, naming the package length and base version. -/
  | updBegin (q : VReq)
  /-- UPD_BLOCK (R650): Records a package block at the received length and applies its operations to the inactive bank. -/
  | updBlock (q : VReq)
  /-- UPD_VERIFY (R656): Reads the produced bank back and checks its header, signature, digests and version. -/
  | updVerify (q : VReq)
  /-- UPD_ACTIVATE (R657): Writes a trial BANK_SELECT and the activation record, then silences its waggles and resets. -/
  | updActivate (q : VReq)
  /-- UPD_CONFIRM (R662): Confirms the trial bank, raises the fused minimum if needed and writes BANK_SELECT confirmed. -/
  | updConfirm (q : VReq)
  /-- UPD_ABORT (R661): Ends an update before activation, or orders a trial head to fall back. -/
  | updAbort (q : VReq)
  /-- UPD_LOCK (R98): Sets or clears the owner's update lock. -/
  | updLock (q : VReq)
  /-- UPDATE_STAGING_ROOM (R652): A held UPD_BLOCK proceeds once the 8 MiB staging buffer has room. -/
  | updateStagingRoom (bytes : Nat)
  /-- TRIAL_WINDOW_END (R660): At the end of the 30-minute trial window the head falls back to the other bank, or waits while it serves alone. -/
  | trialWindowEnd
  /-- RESTART (R629): Yields, silences its waggles and resets into a normal or recovery start. -/
  | restart (q : VReq)
  /-- DIAG_DIE_READ (R98): Reads one page of a die and returns its status word and data. -/
  | diagDieRead (q : VReq)
  /-- DIAG_LINK_LOOP (R98): Runs a loop test on one comb link and returns the error counts. -/
  | diagLinkLoop (q : VReq)
  /-- DIAG_SELFTEST (R98): Runs self-test on the engines of the mask. -/
  | diagSelftest (q : VReq)
  /-- DIAG_DUMP (R98): Returns a dump of the named region. -/
  | diagDump (q : VReq)
  /-- VIRKAN_REPLY_EXPIRY (R94): Discards and counts a final or PENDING reply left unfetched for 120 s. -/
  | virkanReplyExpiry (via : Transport) (session tag : Nat)
  /-- CONFIRM_CODE_EXPIRY (R96): A discarding action's confirmation code lapses 60 s after it was issued. -/
  | confirmCodeExpiry (handle : Nat)
  /-- ADMIN_C0H_SUBMIT (R81): NVMe admin command C0h takes in a Virkan request packet. -/
  | adminC0hSubmit (e : Sqe)
  /-- ADMIN_C1H_FETCH (R82): NVMe admin command C1h moves a ready Virkan reply or notice to the host. -/
  | adminC1hFetch (e : Sqe)
  /-- MG_VIRKAN_PACKET (R83): A Virkan packet arrives on MG; a failed header closes the TCP connection. -/
  | mgVirkanPacket (conn : Nat) (bytes : Bytes)
  /-- ATTESTATION_SERVICE_REQUEST (R644): A 32-byte nonce on the attestation TCP port returns the ATTEST payload and closes the connection. -/
  | attestationServiceRequest (conn : Nat) (bytes : Bytes)
  /-- SB_REQ_DATA (R776): A write adds four request bytes to the sideband request FIFO, or sets REQ_OVERRUN when it is full. -/
  | sbReqData (word : BitVec 32)
  /-- SB_REQ_CAP (R776): A write caps the packet when its CRC matches, or rewinds the FIFO and sets REQ_BAD_CRC. -/
  | sbReqCap (word : BitVec 32)
  /-- SB_RSP_DATA (R777): A read returns up to three reply bytes with VALID and LAST and consumes them. -/
  | sbRspData
  /-- SB_RTC_LO (R773): A read returns RTC bits [31:0] and latches bits [63:32] into SB_RTC_HI. -/
  | sbRtcLo
  /-- SB_SENTINEL_RESET (R770): A write of 0xA5 then 0x5A within 1 ms resets the device through the sentinel with EF07. -/
  | sbSentinelReset (word : BitVec 32)
  /-- SENTINEL_RESET_ARM_EXPIRY (R770): The first SENTINEL_RESET write is voided when 1 ms passes without the second. -/
  | sentinelResetArmExpiry
  /-- SB_WAKE (R756): A write of 1 acts as WAKE_N and wakes the head from Hold or Watch. -/
  | sbWake (word : BitVec 32)
  /-- SB_PAD_RELEASE (R766): A write of 1 releases the held pads. -/
  | sbPadRelease (word : BitVec 32)
  /-- SB_INT_STATUS (R773): A write of 1 clears the named pending interrupt causes. -/
  | sbIntStatus (word : BitVec 32)
  /-- SB_MBX_ERROR (R773): A write of 1 clears the named mailbox fault bits. -/
  | sbMbxError (word : BitVec 32)
  /-- SB_REGISTER_WRITE (R772): A private write to a sideband register that has no row of its own, such as SB_INT_EN. -/
  | sbRegisterWrite (off : Nat) (word : BitVec 32)
  /-- ENTDAA (R771): I3C CCC that assigns the target a dynamic address. -/
  | entdaa (addr : Nat)
  /-- SETDASA (R771): I3C CCC that sets the dynamic address from the static address 0x3A. -/
  | setdasa (addr : Nat)
  /-- RSTDAA (R771): I3C CCC that resets the dynamic address. -/
  | rstdaa
  /-- SETNEWDA (R771): I3C CCC that changes the dynamic address. -/
  | setnewda (addr : Nat)
  /-- ENEC (R771): I3C CCC that enables target events. -/
  | enec (bits : BitVec 8)
  /-- DISEC (R771): I3C CCC that disables target events. -/
  | disec (bits : BitVec 8)
  /-- GETPID (R771): I3C CCC that returns the provisioned ID. -/
  | getpid
  /-- GETBCR (R771): I3C CCC that returns the bus characteristics register. -/
  | getbcr
  /-- GETDCR (R771): I3C CCC that returns the device characteristics register. -/
  | getdcr
  /-- GETSTATUS (R771): I3C CCC that returns the target status. -/
  | getstatus
  /-- SETMWL (R771): I3C CCC that sets the maximum write length. -/
  | setmwl (len : BitVec 16)
  /-- SETMRL (R771): I3C CCC that sets the maximum read length. -/
  | setmrl (len : BitVec 16)
  /-- GETMWL (R771): I3C CCC that returns the maximum write length. -/
  | getmwl
  /-- GETMRL (R771): I3C CCC that returns the maximum read length. -/
  | getmrl
  /-- TCP_CONNECTION_REQUEST (R390): Accepts an NVMe/TCP or discovery connection, or resets it at the 16,384 limit; `fpair` is the fabric
  pair and which port of it, 0 even or 1 odd (R20). -/
  | tcpConnectionRequest (svc : TcpSvc) (fpair : Nat × Nat)
  /-- ICREQ (R391): Answers an ICReq PDU with an ICResp, or ends the connection when PFV is not 0. -/
  | icreq (conn pfv hpda : Nat) (hdgst ddgst : Bool) (maxR2t : Nat)
  /-- FATAL_TRANSPORT_ERROR (R393): A malformed PDU or header digest error sends C2HTermReq and closes the connection. -/
  | fatalTransportError (conn fes : Nat)
  /-- H2CDATA (R392): Takes in host-to-controller data for a command under an R2T; a data digest error ends the command. -/
  | h2cdata (conn cid off : Nat) (data : Bytes) (digestOk : Bool)
  /-- CONNECT (R396): Creates a dynamic host controller within the controller, queue and access limits. -/
  | connect (c : NvConnect)
  /-- KEEP_ALIVE (R398): Restarts the association's keep-alive timer. -/
  | keepAlive (e : Sqe)
  /-- KEEP_ALIVE_TIMEOUT (R398): Ends the association and its connections when the keep-alive timeout expires. -/
  | keepAliveTimeout (ctrl : Nat)
  /-- IDENTIFY (R402): Returns controller and namespace Identify data with the TA7214 values. -/
  | identify (e : Sqe)
  /-- GET_LOG_PAGE (R427): Returns a log page, including ANA, changed namespaces, SMART, events 0xC0 and ledger 0xC2. -/
  | getLogPage (e : Sqe)
  /-- SET_FEATURES (R731): Sets a feature, including AER enables and the vendor event feature 0xC0. -/
  | setFeatures (e : Sqe)
  /-- GET_FEATURES (R388): Returns a supported feature value. -/
  | getFeatures (e : Sqe)
  /-- ASYNCHRONOUS_EVENT_REQUEST (R425): Holds an AER until an enabled event class is reported. -/
  | asynchronousEventRequest (e : Sqe)
  /-- ABORT (R400): Aborts a held command that has not reached its acceptance instant. -/
  | abort (e : Sqe)
  /-- DIRECTIVE_SEND (R408): Enables the ordered-write directive or resets a broken stream. -/
  | directiveSend (e : Sqe)
  /-- DIRECTIVE_RECEIVE (R388): Returns Identify directive parameters. -/
  | directiveReceive (e : Sqe)
  /-- NVME_READ (R414): Reads the newest accepted data of a range, waiting in gather lists for dark hives within its patience. -/
  | nvmeRead (e : Sqe)
  /-- NVME_WRITE (R404): Accepts a write as ACCEPT_WRITE records under the mode's rule and completes after acceptance. -/
  | nvmeWrite (e : Sqe)
  /-- FLUSH (R399): Completes successfully as soon as it is received. -/
  | flush (e : Sqe)
  /-- WRITE_ZEROES (R404): Accepts a write of zero bytes over its range. -/
  | writeZeroes (e : Sqe)
  /-- DATASET_MANAGEMENT (R417): Deallocates ranges under HINT or ZERO discard mode. -/
  | datasetManagement (e : Sqe)
  /-- ACCEPTANCE_RESUME (R405): A write held before acceptance is accepted once the holding condition ends. -/
  | acceptanceResume (ctrl qid cid : Nat)
  /-- LOC_PUT (R448): Accepts an archive object put as ACCEPT_PUT records, or answers a repeated token. -/
  | locPut (e : Sqe)
  /-- LOC_PUT_PART (R454): Accepts one part of an object, opens the object, finishes it with LAST, or aborts it. -/
  | locPutPart (e : Sqe)
  /-- LOC_GET (R458): Resolves a locator and returns object bytes from an offset. -/
  | locGet (e : Sqe)
  /-- LOC_STAT (R450): Returns an object's status block by locator or by token, waiting for the seal up to its patience. -/
  | locStat (e : Sqe)
  /-- LOC_REFRESH (R463): Returns the current locator and drops the ledger entry that resolved the old one. -/
  | locRefresh (e : Sqe)
  /-- LOC_RELEASE (R466): Commits the object RELEASED unless a retention lock forbids it. -/
  | locRelease (e : Sqe)
  /-- LOC_SEAL (R469): Sets a later retention time on an object. -/
  | locSeal (e : Sqe)
  /-- OBJECT_CREATE_COMMIT (R449): Commits OBJECT_CREATE once the manifest and chunk stripes are committed, sealing the locator. -/
  | objectCreateCommit (key : Nat)
  /-- TOKEN_HORIZON_EXPIRY (R439): Commits TOKEN_DROP once the token horizon has passed since acceptance. -/
  | tokenHorizonExpiry (domain : Nat) (token : Bytes)
  /-- OPEN_OBJECT_EXPIRY (R457): Removes an OPEN object that received no part for one token horizon and raises E810. -/
  | openObjectExpiry (key : Nat)
  /-- RELEASED_OBJECT_EXPIRY (R467): Removes a RELEASED object's record one horizon after release and drops its manifest count. -/
  | releasedObjectExpiry (key : Nat)
  /-- LEDGER_ENTRY_EXPIRY (R300): Drops a ledger entry older than LEDGER_LIFETIME and raises E812 for a live object. -/
  | ledgerEntryExpiry (domain : Nat) (old : Place)
  /-- MANIFEST_RELEASE_WALK (R468): Reads a manifest whose count fell to 0 and commits REF_CHANGE for each entry. -/
  | manifestReleaseWalk (domain chunk : Nat)
  /-- CHUNK_INGEST (R142): An ingest lane chunks an accepted byte stream, fingerprints each chunk and decides duplicates. -/
  | chunkIngest (ordinal : Nat)
  /-- POST_PROCESS (R148): Decides a deferred chunk, giving it an index entry or making it an alias. -/
  | postProcess (chunk : Nat)
  /-- FILTER_REBUILD (R139): Builds a new summary filter when false positives exceed 5 %, and swaps it in when complete. -/
  | filterRebuild
  /-- COMPARE_SELFTEST_RETRY (R144): Runs the compare-only unit self-test every 1 s while deferring for compare faults. -/
  | compareSelftestRetry
  /-- MERGE_COMMIT (R129): Forms and commits a partial-write merge once the chunk's content is read, releasing its ring entry. -/
  | mergeCommit (nsid k : Nat)
  /-- ENVELOPE_READ (R156): Checks, decrypts and decompresses an envelope, rebuilding from parity when it is unreadable. -/
  | envelopeRead (chunk : Nat)
  /-- CMP_GO_COMPARE (R684): A write of COMPARE starts a fingerprint compare in two independent comparators. -/
  | cmpGoCompare
  /-- CMP_GO_SELF_TEST (R685): A write of SELF_TEST runs the compare-only unit self-test. -/
  | cmpGoSelfTest
  /-- COMPARE_DONE (R684): The compare ends within 300 ns with DONE and the result pair. -/
  | compareDone (refFault : Bool)
  /-- SELF_TEST_DONE (R685): The self-test ends within 100 µs and sets SELF_TEST_PASS or raises E111. -/
  | selfTestDone (pass : Bool)
  /-- CMP_RESULT (R684): A read returns the result pair and clears it. -/
  | cmpResult
  /-- DIGEST_REGISTER_WRITE (R683): A write to CMP_LANE, CMP_REF_LO or CMP_REF_HI. -/
  | digestRegisterWrite (off : Nat) (word : BitVec 32)
  /-- SEAL_REQUEST (R671): A client submits an XTS or CMAC request descriptor, which may suspend a lower-class message. -/
  | sealRequest (r : SealReq)
  /-- SEAL_MESSAGE_DONE (R674): A seal message finishes and posts its completion in submission order. -/
  | sealMessageDone (id : Nat)
  /-- SEAL_URGENT (R678): A message suspended for 400 µs becomes urgent and takes the next pipe at a block boundary. -/
  | sealUrgent (id : Nat)
  /-- DOMAIN_KEY_FETCH (R690): Fetches and unwraps a domain key record from DRAM for a waiting request. -/
  | domainKeyFetch (domain : Nat)
  /-- WAX_RECORD_CONFIRMED (R168): The wax controller confirms a record written completely with every lower ordinal. -/
  | waxRecordConfirmed (ordinal : Nat)
  /-- CHECKPOINT_DUE (R179): Writes a CHECKPOINT after 64 MiB of records or 1 s, at most once in 8 ms. -/
  | checkpointDue
  /-- FLUSH_METADATA (R263): Writes changed metadata pages, page tables, roots and a root head. -/
  | flushMetadata
  /-- DRAM_SCRUB (R192): Patrol-scrubs DRAM lines once in 24 h and counts corrections. -/
  | dramScrub
  /-- DRAM_UNCORRECTABLE (R193): A DRAM read finds an uncorrectable error and rebuilds the structure it belongs to; no address where the
  channel has lost its training instead (R194). -/
  | dramUncorrectable (channel : Nat) (addr : Option Nat)
  /-- MAP_CACHE_ACCESS (R196): A read or write in the map window hits, misses, allocates or writes through. -/
  | mapCacheAccess (write : Bool) (addr : Nat) (data : Bytes)
  /-- ZERO_LINE (R198): Allocates a zeroed map cache line without a fetch and writes zeros to DRAM. -/
  | zeroLine (addr : Nat)
  /-- STRIPE_OPEN (R219): Allocates a stripe ordinal and members and writes the STRIPE_OPEN journal entry. -/
  | stripeOpen (hive lane : Nat) (purpose : Purpose)
  /-- STRIPE_CLOSE_TIMER (R218): Closes a landing stripe STRIPE_CLOSE_TIME after its first envelope, fills filler and computes P and Q. -/
  | stripeCloseTimer (ord : Nat)
  /-- STRIPE_PROGRAM_DONE (R219): When every member reports program pass, writes STRIPE_COMMIT and STRIPE_DONE. -/
  | stripeProgramDone (ord : Nat)
  /-- MEMBER_PROGRAM_FAIL (R221): Reprograms a failed unit in a fresh block, or abandons the stripe and relands its envelopes. -/
  | memberProgramFail (ord member : Nat)
  /-- MEMBER_READ_TIMEOUT (R231): In a large configuration a member silent for 40 ms is erased for that read. -/
  | memberReadTimeout (ord member : Nat)
  /-- COMB_MARK_FAILED (R232): Commits a comb failed by MEMBER_STATE and raises E410. -/
  | combMarkFailed (link : Nat)
  /-- REBUILD_STRIPE (R235): Rebuilds, programs, verifies and commits one stripe's failed units and checkpoints every 256. -/
  | rebuildStripe (hive : Nat)
  /-- REPLACEMENT_COMB (R242): A comb brought up in a failed slot becomes its replacement. -/
  | replacementComb (link : Nat)
  /-- RESHAPE_STRIPES (R246): Converts old stripes in order and writes a RESHAPE_CHECKPOINT every 256. -/
  | reshapeStripes (hive : Nat)
  /-- FOLD_ROW (R287): Opens a fold row in an awake honey hive and lands fold stripes into it. -/
  | foldRow (hive : Nat)
  /-- READ_BACK_DONE (R290): When a sealed block set passes read-back, commits CHUNK_PLACE and releases brood stripes. -/
  | readBackDone (hive : Nat)
  /-- READ_BACK_FAIL (R291): A failed read-back releases its fold stripes and folds the chunks again. -/
  | readBackFail (hive : Nat)
  /-- GC_MOVE (R296): Copies live envelopes, verifies, commits, releases and erases the source. -/
  | gcMove (ord : Nat)
  /-- WEAR_MOVE (R302): Moves data from low-wear block sets when the P/E spread exceeds WEAR_SPREAD. -/
  | wearMove (link : Nat)
  /-- BLOCK_ERASE_DONE (R256): An erase passes and the block set is committed FREE with its P/E count raised. -/
  | blockEraseDone (link die block : Nat)
  /-- TASK_READ (R324): The bridge accepts a READ task and senses pages to send as DATA and PAGE_END frames. -/
  | taskRead (link : Nat) (port : Side) (f : LFrame)
  /-- TASK_SEQ_READ (R324): The bridge accepts a SEQ_READ task of consecutive pages. -/
  | taskSeqRead (link : Nat) (port : Side) (f : LFrame)
  /-- TASK_PROGRAM_SLC (R325): The bridge accepts a PROGRAM_SLC task and programs once all its data has arrived. -/
  | taskProgramSlc (link : Nat) (port : Side) (f : LFrame)
  /-- TASK_PROGRAM_QLC (R325): The bridge accepts a PROGRAM_QLC task and programs a wordline once its data has arrived. -/
  | taskProgramQlc (link : Nat) (port : Side) (f : LFrame)
  /-- TASK_ERASE (R324): The bridge accepts an ERASE task for a block. -/
  | taskErase (link : Nat) (port : Side) (f : LFrame)
  /-- ERASE_SUSPEND (R335): Suspends an executing erase within the suspend latency. -/
  | eraseSuspend (link : Nat) (port : Side) (f : LFrame)
  /-- ERASE_RESUME (R337): Resumes a suspended erase on an idle die. -/
  | eraseResume (link : Nat) (port : Side) (f : LFrame)
  /-- ERASE_AUTO_RESUME (R337): The bridge resumes a suspended erase after the die has been idle for 10 ms. -/
  | eraseAutoResume (link die : Nat)
  /-- FENCE_RAISE (R341): Compare-and-raise of the comb's fence epoch with the raiser recorded. -/
  | fenceRaise (link : Nat) (port : Side) (f : LFrame)
  /-- FENCE_ADOPT (R342): Sets the epoch of a never-fenced comb. -/
  | fenceAdopt (link : Nat) (port : Side) (f : LFrame)
  /-- DIE_TASK_DONE (R325): A die finishes a read, program or erase and the bridge sends DONE with its status word. -/
  | dieTaskDone (link die : Nat) (ok : Bool)
  /-- FAVOURED_PORT_EXPIRY (R329): After 20 µs without a task from the favoured port, the die accepts either port again. -/
  | favouredPortExpiry (link die : Nat)
  /-- REG_READ (R321): Returns comb registers, die windows or descriptors in REG_DATA frames. -/
  | regRead (link : Nat) (port : Side) (f : LFrame) (count : Nat)
  /-- REG_DATA (R321): The head receives register values from the bridge. -/
  | regData (link : Nat) (f : LFrame) (vals : List (BitVec 32))
  /-- DATA_FRAME (R325): Receives one 4,096-byte page fragment of a program or read. -/
  | dataFrame (link : Nat) (atHead : Bool) (port : Side) (f : LFrame)
  /-- PAGE_END (R310): Receives the page's head spare bytes and status. -/
  | pageEnd (link : Nat) (atHead : Bool) (port : Side) (f : LFrame)
  /-- DONE_FRAME (R330): The head receives a task's DONE and acts on its status. -/
  | doneFrame (link : Nat) (f : LFrame)
  /-- BRIDGE_EVENT (R347): The head receives a bridge health EVENT frame and raises E609. -/
  | bridgeEvent (link : Nat) (f : LFrame)
  /-- HELLO (R316): Receives a HELLO during bring-up or retrain and checks the port. -/
  | hello (link : Nat) (atHead : Bool) (port : Side) (f : LFrame)
  /-- LINK_ACK (R313): Receives a cumulative acknowledgement of sequenced comb-link frames. -/
  | linkAck (link : Nat) (atHead : Bool) (port : Side) (f : LFrame)
  /-- LINK_NAK (R314): Receives a NAK and resends every unacknowledged frame from the named sequence. -/
  | linkNak (link : Nat) (atHead : Bool) (port : Side) (f : LFrame)
  /-- LINK_RESEND_TIMER (R314): Resends from the oldest frame after 16 µs without an advance; after 8 resends the link retrains. -/
  | linkResendTimer (link : Nat)
  /-- BLOCK_LOCK_LOST (R319): Loss of block lock on a comb lane starts a retrain. -/
  | blockLockLost (link : Nat)
  /-- RETRAIN (R318): Repeats lane adaptation and HELLO keeping sequences, then resends from the peer's next expected. -/
  | retrain (link : Nat) (peerNext : BitVec 12)
  /-- COMB_LINK_BRING_UP (R316): Brings a comb link up through idle adaptation, HELLO and register checks. -/
  | combLinkBringUp (link : Nat) (ok : Bool)
  /-- LINK_RETRY_TIMER (R319): Tries a full bring-up of a down link every 1 s. -/
  | linkRetryTimer (link : Nat)
  /-- LINK_DOWN_TIMEOUT (R232): A link down for more than 5 s marks its comb failed. -/
  | linkDownTimeout (link : Nat)
  /-- TASK_DEADLINE (R330): A task whose DONE has not arrived by its deadline is failed and E606 is raised. -/
  | taskDeadline (link tag : Nat)
  /-- BRIDGE_POWER_UP (R346): A bridge whose supply becomes good resets its registers and begins bring-up. -/
  | bridgePowerUp (link : Nat)
  /-- HCB_STATUS (R354): The shelf answers STATUS with its status block. -/
  | hcbStatus (hive : Nat) (src : Side) (seq : Nat)
  /-- HCB_VOTE (R358): The shelf sets the source head's vote and powers or removes its slots. -/
  | hcbVote (hive : Nat) (src : Side) (seq : Nat) (up : Bool)
  /-- HCB_VOTE_CLEAR (R354): The shelf clears the named side's vote. -/
  | hcbVoteClear (hive : Nat) (src : Side) (seq : Nat) (side : Side)
  /-- HCB_REPLY (R349): A head receives a shelf's status block and updates the hive state. -/
  | hcbReply (hive : Nat) (seq status : Nat) (b : ShelfBlock)
  /-- HCB_POLL (R356): In its window, a head sends STATUS to the next hive of the bus. -/
  | hcbPoll (bus : Nat)
  /-- HCB_REQUEST_RETRY (R355): Retries an unanswered request with the same sequence. -/
  | hcbRequestRetry (bus seq : Nat)
  /-- SHELF_SILENT_TIMEOUT (R355): After 100 ms without a valid reply the head puts the hive in FAULT and raises E707. -/
  | shelfSilentTimeout (hive : Nat)
  /-- WAKE_TIMEOUT (R373): A wake not READY at 15 s raises E702, and at 30 s puts the hive in FAULT. -/
  | wakeTimeout (hive : Nat)
  /-- WAKE_RETRY (R373): Tries a failed honey wake again every 60 s while a need stands. -/
  | wakeRetry (hive : Nat)
  /-- HIVE_IDLE_DARK_EXPIRY (R365): A honey hive without a need for HIVE_IDLE_DARK is decided to darken. -/
  | hiveIdleDarkExpiry (hive : Nat)
  /-- DARK_POINT (R366): When no task, gather entry or rebuild remains, the head sends its down vote. -/
  | darkPoint (hive : Nat)
  /-- GATHER_WAKE_TRIGGER (R371): The owner asks for a READ wake when a deadline nears or the gather list reaches its count or bytes. -/
  | gatherWakeTrigger (hive : Nat)
  /-- GATHER_DEADLINE (R372): A gather entry whose deadline passes ends with WOULD_WAIT or NO_TOKEN. -/
  | gatherDeadline (ctrl qid cid : Nat)
  /-- TOKEN_RENEWAL (R376): Renews a token after three quarters of its life while a need stands. -/
  | tokenRenewal (hive : Nat)
  /-- TOKEN_REQUEST_RETRY (R376): Repeats a refused token request every 10 s while its need stands. -/
  | tokenRequestRetry (hive : Nat)
  /-- WORKER_TOKEN_EXPIRY (R378): A token that expires without renewal makes the head darken its hive. -/
  | workerTokenExpiry (hive : Nat)
  /-- QUEEN_AUTONOMY_END (R379): 24 h after the last queen contact the head raises E70B and wakes no further honey hive. -/
  | queenAutonomyEnd
  /-- JOIN (R605): The queen receives a worker's JOIN and adds it to the catalogue or refuses it. -/
  | join (ep apiary serial headA headB : Nat) (addrs : List Bytes)
  /-- JOIN_REPLY (R605): The worker receives the queen's answer and takes its apiary ID. -/
  | joinReply (accepted : Bool) (cause epoch : Nat) (items : List (Nat × Bytes))
  /-- LEAVE (R596): The queen removes a leaving worker and ends its tokens. -/
  | leave (ep apiary : Nat)
  /-- CONTACT (R588): A worker head receives the queen's CONTACT and wave gate. -/
  | contact (src epoch settingsGen : Nat) (gateOpen : Bool)
  /-- CONTACT_SEND (R588): The queen head sends CONTACT to each worker head once per second. -/
  | contactSend
  /-- QUEEN_UNREACHABLE (R379): 10 s without CONTACT makes the queen unreachable and starts autonomy. -/
  | queenUnreachable
  /-- REPORT (R597): The queen updates the catalogue and adopts reported tokens from a worker REPORT. -/
  | report (ep : Nat) (r : Report7)
  /-- TOKEN_REQUEST (R593): The queen grants, holds for recalls, or refuses a wake token request. -/
  | tokenRequest (ep apiary head hive prio num : Nat)
  /-- HELD_TOKEN_REQUEST_TIMEOUT (R593): A held request still ungranted after 60 s is refused NO_ROOM. -/
  | heldTokenRequestTimeout (apiary num : Nat)
  /-- TOKEN_GRANT (R375): The worker receives a token and may vote the hive up. -/
  | tokenGrant (ep : Nat) (t : WakeToken) (autonomy : Nat)
  /-- TOKEN_REFUSE (R376): The worker receives a refusal and raises E708 or E709. -/
  | tokenRefuse (ep num cause : Nat)
  /-- TOKEN_RECALL (R378): The worker decides to darken the recalled hive. -/
  | tokenRecall (ep id : Nat)
  /-- COLONY_DORMANT (R595): The queen receives a dormancy reply, ends the token and grants any held request. -/
  | colonyDormant (ep id : Nat)
  /-- QUEEN_TOKEN_EXPIRY (R595): The queen drops a token that expires without renewal. -/
  | queenTokenExpiry (id : Nat)
  /-- COLONY_SETTINGS (R604): A worker takes the class 0x06 settings and colony key generation from SETTINGS. -/
  | colonySettings (ep gen : Nat) (items : List (Nat × Bytes)) (keyGen : Nat)
  /-- ARBITRATE (R557): The queen receives a worker head's self-check report and confirms or elects a head. -/
  | arbitrate (ep head : Nat) (shownRight : Bool)
  /-- UPDATE_STATE (R609): The queen receives a worker's update state and halts the rollout on a fallback. -/
  | updateState (ep head version : Nat) (pend fallback : Bool)
  /-- ROLLOUT_WAVE_OPEN (R608): Opens the next rollout wave once earlier waves confirmed and ROLLOUT_SOAK has passed. -/
  | rolloutWaveOpen
  /-- FORAGE_WRITE (R490): A WRITE packet passes the arrival checks and is placed; the message becomes visible in order. -/
  | forageWrite (p : FPkt) (carried : Option ShadowRec) (journal : Option JournalEntry)
  /-- WRITE_IMM (R490): A WRITE_IMM packet is placed and its message posts a completion entry when visible. -/
  | writeImm (p : FPkt)
  /-- READ_REQ (R493): A READ_REQ becomes visible and the target returns the range as READ_RESP. -/
  | readReq (p : FPkt)
  /-- READ_RESP (R493): A READ_RESP is placed at the requester and posts a completion when complete. -/
  | readResp (p : FPkt)
  /-- FORAGE_ACK (R496): A sender acknowledges messages, raises its TX counter and updates the path window; `p` is the packet but
  for its destination context and the fields of its body (R495). -/
  | forageAck (p : FPkt) (ctx : Nat) (id : BitVec 32) (rx : Nat) (map : BitVec 64) (echo : Nat)
  /-- FORAGE_NAK (R496): A sender acts on a NAK code by resending, waiting or failing the connection; `p` is the packet
  but for its destination context and its body: the code, then `id` for the four bytes after it (a message ID or a back-off), and for
  MISSING the offset and the map. -/
  | forageNak (p : FPkt) (ctx : Nat) (id : BitVec 32) (code off map : Nat)
  /-- SEND_QUEUE_POST (R487): Firmware advances a context's send queue tail with new work entries. -/
  | sendQueuePost (ctx : Nat) (es : List WorkEntry)
  /-- RETRANSMISSION_TIMEOUT (R498): On RTO expiry resends unplaced packets and doubles the RTO. -/
  | retransmissionTimeout (ctx : Nat)
  /-- MESSAGE_GIVE_UP (R499): 80 ms after origin without acknowledgement the message fails and the connection breaks. -/
  | messageGiveUp (ctx : Nat)
  /-- CONNECTION_BREAK (R507): A placed message waiting 100 ms behind an incomplete one breaks the connection at the destination. -/
  | connectionBreak (ctx : Nat)
  /-- RNR_BACKOFF_EXPIRY (R496): Resends a message after the back-off of NAK RNR. -/
  | rnrBackoffExpiry (ctx : Nat)
  /-- RECENT_ID_AGING (R501): A recent-ID entry ages out after 100 ms, letting a full table resume. -/
  | recentIdAging
  /-- CONTEXT_FETCH_DONE (R505): An evicted context arrives from DRAM and its held packets take checks 7 to 11. -/
  | contextFetchDone (ctx : Nat)
  /-- CONTEXT_FAIL (R508): A context fails on a DRAM error or a NAK, ending its queue entries and raising E905. -/
  | contextFail (ctx : Nat)
  /-- PATH_IDLE_FREE (R509): Frees a path table entry after 1 s with no traffic. -/
  | pathIdleFree (path : Nat)
  /-- SETUP (R518): The receiver accepts or refuses a replication group and its keys. -/
  | setup (src group source mode : Nat) (domains : List Nat) (salts : List Bytes)
  /-- SETUP_REPLY (R530): The shipper receives acceptance or refusal of a group. -/
  | setupReply (group : Nat) (accepted : Bool) (cause : Nat)
  /-- POSITION_QUERY (R535): The receiver answers with its last applied ship sequence. -/
  | positionQuery (src group : Nat)
  /-- POSITION (R534): The shipper ships from one above the returned sequence. -/
  | position (group seq ordinal : Nat)
  /-- POSITION_QUERY_TIMEOUT (R534): After 80 ms without an answer the shipper tries the other head of the target. -/
  | positionQueryTimeout (group : Nat)
  /-- OFFER (R524): The receiver answers an offer of fingerprints with a NEED bitmap. -/
  | offer (src group batch : Nat) (fps : List (Bytes × Nat × Nat))
  /-- NEED (R524): The shipper sends a CHUNK for each needed chunk and then the BATCH. -/
  | need (group batch : Nat) (bits : List Bool)
  /-- CHUNK (R525): The receiver checks a shipped chunk and lands it as new. -/
  | chunk (src group domain chunk gen clen : Nat) (body : Bytes)
  /-- BATCH (R526): The receiver applies a batch in ship order as one chain and sends APPLIED. -/
  | batch (src group first last : Nat) (base final : Bool) (es : List ShipEntry)
  /-- APPLIED (R527): The shipper commits REPL_PROGRESS and trims its ship log. -/
  | applied (group seq : Nat)
  /-- BATCH_CLOSE (R524): Closes a batch after REPL_BATCH_TIME or 4 MiB of entries and begins its OFFER. -/
  | batchClose (group : Nat)
  /-- GROUP_LAPSE (R529): A log beyond REPL_LOG_LIMIT lapses the group and starts a base pass. -/
  | groupLapse (group : Nat)
  /-- REPAIR_ASK (R536): A replica owner answers with REPAIR_DATA or REPAIR_NONE for a fingerprint. -/
  | repairAsk (src domain : Nat) (fp : Bytes) (len : Nat)
  /-- REPAIR_DATA (R536): The source checks the returned chunk and stores it under the lost chunk ID. -/
  | repairData (domain chunk gen clen : Nat) (body : Bytes)
  /-- REPAIR_NONE (R536): A target has no usable chunk for the repair. -/
  | repairNone (domain : Nat) (fp : Bytes)
  /-- REPAIR_TIMEOUT (R536): With no answer in 60 s the chunk stays DATA_LOST and EA06 is raised. -/
  | repairTimeout (domain chunk : Nat)
  /-- COMMIT_TICK (R747): A commit tick begins; the head sends waggles and tick digests and counts misses at its end. -/
  | commitTick
  /-- WAGGLE (R546): A waggle from the peer becomes visible, restoring a lost path and carrying grants and flags. -/
  | waggle (m : WaggleMsg)
  /-- LEASE_END (R541): The lease ends by the holder's clock; it stops new comb tasks and holds new work. -/
  | leaseEnd
  /-- TICK_DIGEST (R554): Recomputes the peer's tick chain from the shadow and judges match or mismatch. -/
  | tickDigest (m : DigestMsg)
  /-- SELF_CHECK (R556): Runs the self-check after a mismatch and sends the report to the peer and queen. -/
  | selfCheck (selfTestOk : Bool)
  /-- SELF_CHECK_REPORT (R557): A head receives the peer's self-check report and resolves the mismatch. -/
  | selfCheckReport (right : Bool)
  /-- SELF_CHECK_REPORT_TIMEOUT (R557): When a report has not arrived within 500 ms, the mismatch is resolved without it. -/
  | selfCheckReportTimeout
  /-- PEER_ISOLATION_YIELD (R551): With no context 5 message for PEER_ISOLATION_YIELD, side B yields and silences. -/
  | peerIsolationYield
  /-- TAKEOVER_FENCE_WAIT (R560): 30 ms after the last grant, or 50 ms on side B, the head raises the fence at the arbiter hive. -/
  | takeoverFenceWait
  /-- ARBITER_FENCE_RESULT (R70): Raise results at the arbiter hive decide whether the head goes on or enters Quiesce. -/
  | arbiterFenceResult (link : Nat) (won : Bool)
  /-- ARBITER_RETRY (R71): Repeats the fencing round every 100 ms while no brood hive can serve as arbiter. -/
  | arbiterRetry
  /-- FENCE_ALL_RAISED (R560): Once every fence is raised the head accepts under the flash rule and clears the peer's votes. -/
  | fenceAllRaised
  /-- TAKEOVER_REPLAY_END (R560): Replay of the peer's mirror ends; the head writes TAKEOVER and serves the taken domains. -/
  | takeoverReplayEnd
  /-- PAIR_JOIN_TIMEOUT (R563): No peer waggle within PAIR_JOIN_WAIT puts the head in Quiesce with EB00. -/
  | pairJoinTimeout
  /-- PAIR_JOIN (R564): Both heads join, reconcile their copies and enter Full at the next grant tick. -/
  | pairJoin (peer : WaggleMsg) (r : HeadReport)
  /-- REJOIN_COPY_COMPLETE (R566): The rejoining head's mirror is confirmed and the serving head returns to Full at the next tick. -/
  | rejoinCopyComplete
  /-- REBALANCE_PHASE_END (R572): A rebalance passes to its next phase when the current phase's end condition holds. -/
  | rebalancePhaseEnd
  /-- REBALANCE_HOLD_TIMEOUT (R573): A Hold phase beyond REBALANCE_HOLD_LIMIT abandons the rebalance with EB0A. -/
  | rebalanceHoldTimeout
  /-- FABRIC_PORT_FAIL (R574): An active fabric port fails and its eligible standby takes over under R424. -/
  | fabricPortFail (pair : Nat)
  /-- STANDBY_ELIGIBLE (R576): A port with 60 s of clean link becomes an eligible standby. -/
  | standbyEligible (pair : Nat)
  /-- PEER_LINK_DOWN (R580): A peer link without signal for 10 ms is down; losing both links of a cable raises EB0F. -/
  | peerLinkDown (link : Nat)
  /-- PEER_LINK_UP (R580): A peer link back for 1 s carries new messages again. -/
  | peerLinkUp (link : Nat)
  /-- PTP_MESSAGE (R749): A PTP Sync, Follow_Up, Delay_Resp or Announce is taken to align the tick. -/
  | ptpMessage (kind src : Nat) (offset : Int)
  /-- ALIGNMENT_TIMEOUT (R750): Loss of Sync or peer lock for its interval moves the alignment state on. -/
  | alignmentTimeout
  /-- RTC_DISCIPLINE (R746): Disciplines the RTC to aligned time once per second. -/
  | rtcDiscipline
  /-- HOLD_ENTRY (R754): At the frame's tick the head sends DORMANT, drains, self-refreshes DRAM and latches pads. -/
  | holdEntry
  /-- HOLD_WAKE (R756): WAKE_N or SB_WAKE restores the head from Hold to Quiesce and then WAKE_MODE. -/
  | holdWake
  /-- WATCH_ENTRY (R758): At the frame's tick the head writes the imprint, latches pads and opens its supply switches. -/
  | watchEntry
  /-- WATCH_SAMPLE (R760): Every WATCH_INTERVAL the sentinel reads sensors and compares them with thresholds. -/
  | watchSample (tj : Int) (holdup : Nat)
  /-- WATCH_WAKE (R762): A wake cause restores the imprint and brings the head to WAKE_MODE. -/
  | watchWake (imprintOk : Bool)
  /-- WAKE_N (R761): WAKE_N held low for 100 µs is a wake cause. -/
  | wakeN (us : Nat)
  /-- WATCHDOG_KICK (R769): Firmware kicks the sentinel watchdog within its period. -/
  | watchdogKick
  /-- WATCHDOG_EXPIRY (R769): The watchdog expires, silences the waggles, writes EF06 and resets. -/
  | watchdogExpiry
  /-- CHIP_RESET_N (R799): A low pulse of 1 µs or longer resets the device, whose start begins at release. -/
  | chipResetN (ns : Nat)
  /-- POWER_ON_RESET_RELEASE (R790): The sentinel releases CHIP_RESET_N once the crystal, supplies and reference are ready. -/
  | powerOnResetRelease
  /-- START (R611): A start walks the fourteen boot steps with ledger records and measurements. -/
  | start (plan : List StepPlan)
  /-- OPTIONAL_STEP_LATE_RUN (R624): Runs a skipped optional boot step once, 60 s after step 14. -/
  | optionalStepLateRun
  /-- CRYSTAL_LOSS (R796): With no crystal edge for 1 ms the sentinel resets and holds until the crystal is stable. -/
  | crystalLoss
  /-- SUPPLY_FALL (R793): A supply leaving its range stops wax writes and becomes a power loss or a glitch alarm. -/
  | supplyFall (rail mv us : Nat)
  /-- PROPOLIS_ALARM (R706): A latched tamper, temperature, supply or clock alarm erases the keys, writes E130 and resets. -/
  | propolisAlarm (cause : BitVec 4)
  /-- ALARM_CLEAR (R707): The sentinel releases reset once every alarm condition has been clear for 1 s. -/
  | alarmClear
  /-- EVENT_REPORT (R711): A block raises a report that passes filter, bucket and intake. -/
  | eventReport (r : Report0)
  /-- EVENT_WRITE (R723): The writer takes an intake entry, assigns its sequence and places it in the ring. -/
  | eventWrite
  /-- BUCKET_WINDOW_CLOSE (R718): A code's bucket window closes 1 s after opening and E001 is raised with the count. -/
  | bucketWindowClose (code : Nat)
  /-- BUCKET_REFILL (R717): A code's bucket gains one token every 1 / EVT_RATE s. -/
  | bucketRefill (code : Nat)
  /-- DROP_SUMMARY_TIMER (R720): Raises E002 or E003 and retries held summary records at each second. -/
  | dropSummaryTimer
  /-- EVENT_NOTICE_SEND (R730): Sends a subscription's records as a notice at 256 records or 100 ms. -/
  | eventNoticeSend (handle : Nat)
  /-- SHELF_INPUT_FAILURE (R384): A shelf's input power fails; it reports INPUT_LOST and keeps its slots powered from its hold-up reserve. -/
  | shelfInputFailure (hive : Nat)
  /-- HOLDUP_RESERVE_SPENT (R384): A shelf whose reserve runs out while its input is still lost removes slot power and reports DARK with reserve 0 and HOLDUP_OK clear. -/
  | holdupReserveSpent (hive : Nat)
  /-- SHELF_INPUT_RETURN (R384): When a shelf's input returns it restores slot power as its stored votes say and reports POWERING then POWERED. -/
  | shelfInputReturn (hive : Nat)
  /-- SLOTS_POWERED (R359): A shelf that was POWERING finishes bringing up its slots and reports POWERED within 10 s of the first up vote. -/
  | slotsPowered (hive : Nat) (good : BitVec 16)
  /-- SLOTS_POWER_REMOVED (R359): A shelf that was POWERING_DOWN finishes removing slot power and reports DARK within 2 s of the last vote going down. -/
  | slotsPowerRemoved (hive : Nat)
  /-- BRIDGE_HEALTH_CHANGE (R347): A bridge detects a change of its own health, such as a failed die, bridge failure, over-temperature, supply warning or fence store fault, and sends an EVENT frame on each port that is up. -/
  | bridgeHealthChange (link code die detail : Nat)
  /-- RETRAIN_TIMEOUT (R319): A retrain not complete within 10 ms takes the link down with E603, after which a full bring-up is tried every 1 s. -/
  | retrainTimeout (link : Nat)
  /-- TCP_CONNECTION_END (R394): A host or network ends an NVMe/TCP or MG TCP connection; commands not wholly received are not accepted, and the sessions bound to the connection end. -/
  | tcpConnectionEnd (conn : Nat)
  /-- UNSUPPORTED_COMMAND (R388): A host command or feature outside the supported set ends with Invalid Command Opcode or Invalid Field in Command. -/
  | unsupportedCommand (e : Sqe)
  /-- MG_NETWORK_FRAME (R25): A frame on MG is answered as ARP, IPv6 neighbour discovery or ICMP echo, or is dropped and counted. -/
  | mgNetworkFrame (frame : Bytes)
  /-- TREE_DROP_CASCADE (R279): The head drops a removed tree's map pages in the background, in PAGE_DROP records of at most 4,096 items, and resumes after a restart. -/
  | treeDropCascade
  /-- LOC_STAT_PATIENCE_EXPIRY (R450): A LOC_STAT in token form waiting for OBJECT_CREATE ends with LOCATOR_PENDING when its patience runs out. -/
  | locStatPatienceExpiry (ctrl qid cid : Nat)
  /-- FRAME_STATUS_EXPIRY (R101): The status of an applied, aborted or cancelled frame stops being readable 3,600 s after it ended. -/
  | frameStatusExpiry (frame : Nat)
  /-- REFERENCE_CLOCK_STOP (R794): The 100 MHz reference stopping outside Watch resets the device, which starts again once R790 is met. -/
  | referenceClockStop
  /-- TCP_RETRANSMISSION_TIMEOUT (R424): The offload TCP retransmission timer fires and resends unacknowledged segments, including completions lost in a fabric failover. -/
  | tcpRetransmissionTimeout (conn : Nat)
  /-- COLONY_KEY_LAG_TIMEOUT (R604): An apiary that still lacks a colony key generation 24 h after that generation first appeared in another apiary's REPORT raises EC06. -/
  | colonyKeyLagTimeout
  deriving DecidableEq, Repr, Inhabited

end Sys2Proof
end

