-- ==== Sys2Proof/Config.lean ====
section
/-! DEFINITION. What an implementation fixes and the spec leaves open: the free values. A constant here has no
body, so no proof can rest on what it is. -/

namespace Sys2Proof.Config

/-- Byte `i` of the `n`th free value the run draws: nonces, salts, confirmation codes, keys from the DRBG, and
every value the spec leaves undefined (log 3). -/
opaque freeByte : Nat → Nat → Byte

/-- The `n`th free number the run draws (log 3). -/
opaque freeNat : Nat → Nat

/-- The compressor's output for a content at a profile (0 none, 1 fast, 2 standard, 3 dense); the spec fixes the
frame format and not the encoder's choices (log 20). -/
opaque compress : Nat → Bytes → Bytes

/-- The fixed vendor key that signs firmware images (R632); the spec does not print it. -/
opaque vendorKey : Bytes

/-- The I3C provisioned ID, BCR and DCR bytes, which the spec leaves to the part (R771, log 22). -/
opaque i3cId : Nat → Bytes

/-- Results of diagnostics that only hardware can give: kind, unit, draw (log 23). -/
opaque diag : Nat → Nat → Nat → Nat

/-- The bytes of a diagnostic dump of a region, whose layout the spec does not give (log 23). -/
opaque dump : Nat → Nat → Bytes

/-- Kind fields (20 bytes) and body of the wax records whose layout the spec does not give: ACCEPT_CONTROL, CHUNK_CLAIM,
the frame records, and the wrapped body of KEY_CHANGE (log 8). -/
opaque recBytes : Machine.RecBody → Bytes

/-- The newest formats that the firmware of a version reads and writes (R664, log 93). -/
opaque imgFormats : Nat → Machine.Formats

/-- The body of a descriptor page, whose layout the spec does not give: domain, page and write sequence (R259, log 15). -/
opaque descBody : Nat → Nat → Nat → Bytes

/-- The 16-byte header of a fingerprint bucket, whose fields the spec does not give: domain and bucket (R140, log 15). -/
opaque bucketHead : Nat → Nat → Bytes

/-- What firmware keeps at a DRAM address outside the map window: 0 a block of the summary filter, 1 an open stripe or fold buffer,
2 an evicted context, 3 a wrapped domain key, 4 firmware, others nothing of these; and which one (R193, log 16). -/
opaque dramUse : Nat → Nat × Nat

/-- The clear bytes of a wax line that State does not describe: a torn or failed record, a PAD, the imprint after its header, the key
seal, and a line that nothing live lies in (R160, log 90). -/
opaque waxLine : Nat → Bytes

/-- The fabric addresses of this apiary, which no rule gives a register for, 16 bytes each: by 8 × side + 2 × pair, then 1 for IPv6 (R389,
R590, log 40). -/
opaque fabricAddr : Nat → Bytes

/-- The far address of a path that no rule tells the head: the MAC address of the peer, or a head's that the apiary list does not name
(R473, R509, log 40). -/
opaque farAddr : Nat → Bytes

/-- The Ethernet address of MG (log 80). -/
opaque mgMac : Bytes

/-- The IPv4 address of MG (log 80). -/
opaque mgIp4 : Bytes

/-- The IPv6 address of MG (log 80). -/
opaque mgIp6 : Bytes

/-- Base and size of the map window, in GiB (log 16). -/
opaque mapWindow : Nat × Nat

end Sys2Proof.Config
end

