-- ==== Sys2Proof/Machine/Bits.lean ====
section
/-! DEFINITION. Byte order, lists and serial numbers: the helpers every meaning uses. -/

/-- Put an element in front of the first one that it may stand before. -/
def List.putBy {α : Type} (before : α → α → Bool) (x : α) : List α → List α
  | [] => [x]
  | y :: l => if before x y then x :: y :: l else y :: List.putBy before x l

/-- A list in order; elements that may stand in either order keep theirs. -/
def List.sortBy {α : Type} (l : List α) (before : α → α → Bool) : List α := l.foldr (List.putBy before) []

namespace Sys2Proof.Machine

/-- The low `n` bytes of a number, least significant first (R5). -/
def le : Nat → Nat → Bytes
  | 0, _ => []
  | n + 1, v => BitVec.ofNat 8 v :: le n (v / 256)

/-- The number that bytes spell, least significant first (R5). -/
def rdLe : Bytes → Nat
  | [] => 0
  | b :: bs => b.toNat + 256 * rdLe bs

/-- The number that bytes spell, most significant first. -/
def rdBe (bs : Bytes) : Nat := rdLe bs.reverse

/-- The low `n` bytes of a number, most significant first. -/
def be (n v : Nat) : Bytes := (le n v).reverse

/-- Bytes `[i, i + n)` of a string. -/
def slice (bs : Bytes) (i n : Nat) : Bytes := (bs.drop i).take n

/-- The little-endian field at bytes `[i, i + n)`. -/
def fld (bs : Bytes) (i n : Nat) : Nat := rdLe (slice bs i n)

/-- `n` zero bytes. -/
def zeros (n : Nat) : Bytes := List.replicate n 0

/-- Cut or zero-fill a string to `n` bytes. -/
def fit (n : Nat) (bs : Bytes) : Bytes := (bs ++ zeros (n - bs.length)).take n

/-- Write `new` over a string from byte `i` on, filling with zeros as far as needed. -/
def splice (bs : Bytes) (i : Nat) (new : Bytes) : Bytes :=
  fit i (bs.take i) ++ new ++ bs.drop (i + new.length)

/-- Round up to a multiple of `k`. -/
def roundUp (n k : Nat) : Nat := (n + k - 1) / k * k

/-- Units of 64 bytes that `n` bytes take. -/
def units64 (n : Nat) : Nat := (n + 63) / 64

/-- Exclusive or of two strings of bytes. -/
def xorBytes (a b : Bytes) : Bytes := List.zipWith (· ^^^ ·) a b

/-- Cut a string into pieces of `n` bytes; the fuel is at least the number of pieces. -/
def piecesAux (n : Nat) : Nat → Bytes → List Bytes
  | 0, _ => []
  | fuel + 1, bs => if bs.isEmpty then [] else bs.take n :: piecesAux n fuel (bs.drop n)

/-- Cut a string into pieces of `n` bytes. -/
def pieces (n : Nat) (bs : Bytes) : List Bytes := piecesAux n (bs.length / n + 1) bs

/-- `a` is above `b` in 32-bit serial-number arithmetic (R84, R742). -/
def serialAbove (a b : Nat) : Bool :=
  let d := (a + 2 ^ 32 - b % 2 ^ 32) % 2 ^ 32
  d != 0 && d < 2 ^ 31

/-- `a` is above `b` in serial-number arithmetic on 32-bit words (R489). -/
def serialGt (a b : BitVec 32) : Bool := a != b && (a - b).toNat < 2 ^ 31

/-- Distance from `b` up to `a`, modulo 2^12 (R311). -/
def seqDist (a b : BitVec 12) : Nat := (a - b).toNat

/-- Change the first element that satisfies `p`. -/
def updFirst {α : Type} (p : α → Bool) (f : α → α) : List α → List α
  | [] => []
  | a :: l => if p a then f a :: l else a :: updFirst p f l

/-- Change every element that satisfies `p`. -/
def updAll {α : Type} (p : α → Bool) (f : α → α) (l : List α) : List α :=
  l.map fun a => if p a then f a else a

/-- Set an association list's entry, replacing any earlier one. -/
def assocSet {α β : Type} [BEq α] (l : List (α × β)) (k : α) (v : β) : List (α × β) :=
  if l.any (·.1 == k) then l.map (fun e => if e.1 == k then (k, v) else e) else l ++ [(k, v)]

/-- Remove an association list's entry. -/
def assocDel {α β : Type} [BEq α] (l : List (α × β)) (k : α) : List (α × β) := l.filter (!·.1 == k)

/-- Replace the element at position `i`. -/
def setAt {α : Type} (l : List α) (i : Nat) (a : α) : List α := l.set i a

/-- Add one to the number at position `i`. -/
def incAt (l : List Nat) (i : Nat) : List Nat := l.set i (l.getD i 0 + 1)

/-- Remove repeats, keeping first copies. -/
def dedupBy {α : Type} [BEq α] : List α → List α
  | [] => []
  | a :: l => a :: (dedupBy l).filter (!· == a)

/-- The number of bits set in a word. -/
def popcount {n : Nat} (w : BitVec n) : Nat := ((List.range n).filter fun i => w.getLsbD i).length

/-- The position at or after `i` of the first element that satisfies `p`. -/
def findFrom {α : Type} (p : α → Bool) : List α → Nat → Option Nat
  | [], _ => none
  | a :: l, i => if p a then some i else findFrom p l (i + 1)

/-- A number as 0 or 1. -/
def b2n (b : Bool) : Nat := if b then 1 else 0

/-- One second, in ns. -/
def second : Nat := 1000000000

/-- One millisecond, in ns. -/
def milli : Nat := 1000000

/-- The severities as numbers (Names, 00_scope). -/
def sevN : Severity → Nat
  | .trace => 0 | .info => 1 | .notice => 2 | .warn => 3
  | .error => 4 | .severe => 5 | .critical => 6 | .fatal => 7

/-- The severity a number names; above 7, FATAL. -/
def sevOf : Nat → Severity
  | 0 => .trace | 1 => .info | 2 => .notice | 3 => .warn
  | 4 => .error | 5 => .severe | 6 => .critical | _ => .fatal

/-- Mode codes (R116). -/
def modeN : Mode → Nat
  | .full => 1 | .solo => 2 | .takeover => 3 | .rejoin => 4 | .surge => 5 | .distil => 6
  | .mend => 7 | .reshape => 8 | .quiesce => 9 | .tide => 10 | .hold => 11 | .watch => 12

/-- The mode a code names. -/
def modeOf : Nat → Option Mode
  | 1 => some .full | 2 => some .solo | 3 => some .takeover | 4 => some .rejoin
  | 5 => some .surge | 6 => some .distil | 7 => some .mend | 8 => some .reshape
  | 9 => some .quiesce | 10 => some .tide | 11 => some .hold | 12 => some .watch
  | _ => none

/-- Privileges as numbers (R98). -/
def privN : Priv → Nat
  | .observer => 0 | .operator => 1 | .owner => 2

/-- Sides as numbers (R8). -/
def sideN : Side → Nat
  | .a => 0 | .b => 1

/-- The side a number names (R8). -/
def sideOf (n : Nat) : Side := if n % 2 = 0 then .a else .b

/-- The other side. -/
def otherSide : Side → Side
  | .a => .b | .b => .a

/-- Purpose codes (R223). -/
def purposeN : Purpose → Nat
  | .landing => 0 | .fold => 1 | .gc => 2 | .reshape => 3 | .rebuild => 4
  | .loss => 5 | .memberState => 6 | .claim => 7 | .metadata => 8

/-- KEY_CHANGE change codes (R693). -/
def KeyChangeKind.num : KeyChangeKind → Nat
  | .domainCreate => 0 | .rotate => 1 | .erase => 2 | .genDrop => 3 | .classKey => 4 | .restore => 5 | .pairInit => 6

/-- Region codes (R222). -/
def regionN : Region → Nat
  | .brood => 0 | .honey => 1 | .tall => 2

/-- Hive state codes (R349). -/
def hiveStateN : HiveState → Nat
  | .dark => 0 | .waking => 1 | .ready => 2 | .darkening => 3 | .unpowered => 4 | .fault => 5

/-- Block set state codes (R255). -/
def blockStateN : BlockState → Nat
  | .free => 0 | .freeDirty => 1 | .opened => 2 | .sealed => 3 | .retired => 4
  | .factoryBad => 5 | .reserved => 6 | .failed => 7

/-- Virkan status codes (R97). -/
def vstat : VStatus → Nat
  | .success => 0x0000 | .pending => 0x0001 | .noChange => 0x0002
  | .badMagic => 0x1001 | .badVersion => 0x1002 | .lengthMismatch => 0x1003
  | .badHeaderCrc => 0x1004 | .badBodyCrc => 0x1005 | .tooLarge => 0x1006
  | .unknownOpcode => 0x1007 | .paramUnknown => 0x1008 | .paramMissing => 0x1009
  | .paramInvalid => 0x100A | .tagInUse => 0x100B
  | .refusedReshape => 0x2001 | .refusedHoldup => 0x2002 | .refusedOwnerLock => 0x2003
  | .refusedTakeover => 0x2004 | .refusedMode => 0x2005 | .refusedFrameOrder => 0x2006
  | .refusedFrameState => 0x2007 | .refusedTick => 0x2008 | .refusedPeerState => 0x2009
  | .refusedNotOwner => 0x200A | .refusedRedundancy => 0x200B | .refusedRecovery => 0x200C
  | .bankSelfBusy => 0x200D | .frameConflict => 0x200E | .frameAbortedPeer => 0x200F
  | .frameAbortedRecheck => 0x2010 | .confirmRequired => 0x2011
  | .noSessionSlot => 0x3001 | .noFrameSlot => 0x3002 | .frameFull => 0x3003
  | .outstandingLimit => 0x3004 | .busy => 0x3005 | .ordinalExhausted => 0x3006
  | .noCapacity => 0x3007 | .noToken => 0x3008
  | .dataLost => 0x4001 | .wouldWait => 0x4002 | .fenced => 0x4003 | .mediaError => 0x4004
  | .notFound => 0x4005 | .exists => 0x4006
  | .authRequired => 0x5001 | .authFailed => 0x5002 | .privilege => 0x5003 | .badCmac => 0x5004
  | .sessionUnknown => 0x5005 | .keysErased => 0x5006 | .signatureInvalid => 0x5007
  | .replayed => 0x5008

end Sys2Proof.Machine
end

