-- ==== Sys2Proof/Machine/Crypto.lean ====
section
/-! DEFINITION. The standard functions the spec builds on: CRC-32C, XXH64, SHA-256 and SHA-384 (FIPS 180-4), HMAC
(FIPS 198-1), AES-256 (FIPS 197), XTS (IEEE 1619), CMAC (SP 800-38B), the key derivations of SP 800-108 in counter
mode (R682), and P-384 (FIPS 186-5). -/

namespace Sys2Proof.Machine

/-! ## CRC-32C -/

/-- One bit step of the reflected CRC-32C. -/
def crcBit (c : BitVec 32) : BitVec 32 :=
  if c.getLsbD 0 then (c >>> 1) ^^^ 0x82F63B78#32 else c >>> 1

/-- Eight bit steps. -/
def crcByte (c : BitVec 32) (b : Byte) : BitVec 32 :=
  (List.range 8).foldl (fun c _ => crcBit c) (c ^^^ b.setWidth 32)

/-- CRC-32C of a string of bytes. -/
def crc32c (bs : Bytes) : BitVec 32 := bs.foldl crcByte 0xFFFFFFFF#32 ^^^ 0xFFFFFFFF#32

/-- CRC-32C as four bytes, least significant first (R5). -/
def crcBytes (bs : Bytes) : Bytes := le 4 (crc32c bs).toNat

/-! ## XXH64 -/

/-- XXH64 primes. -/
def xxP1 : BitVec 64 := 0x9E3779B185EBCA87
/-- Second prime. -/
def xxP2 : BitVec 64 := 0xC2B2AE3D27D4EB4F
/-- Third prime. -/
def xxP3 : BitVec 64 := 0x165667B19E3779F9
/-- Fourth prime. -/
def xxP4 : BitVec 64 := 0x85EBCA77C2B2AE63
/-- Fifth prime. -/
def xxP5 : BitVec 64 := 0x27D4EB2F165667C5

/-- A little-endian word of 64 bits at a place. -/
def w64 (bs : Bytes) (i : Nat) : BitVec 64 := BitVec.ofNat 64 (fld bs i 8)

/-- A round of an accumulator. -/
def xxRound (acc inp : BitVec 64) : BitVec 64 := (acc + inp * xxP2).rotateLeft 31 * xxP1

/-- Merge an accumulator into the hash. -/
def xxMerge (h v : BitVec 64) : BitVec 64 := (h ^^^ xxRound 0 v) * xxP1 + xxP4

/-- The tail of fewer than 32 bytes; the fuel is its length. -/
def xxTail : Nat → BitVec 64 → Bytes → BitVec 64
  | 0, h, _ => h
  | n + 1, h, bs =>
    if bs.length ≥ 8 then
      xxTail n ((h ^^^ xxRound 0 (w64 bs 0)).rotateLeft 27 * xxP1 + xxP4) (bs.drop 8)
    else if bs.length ≥ 4 then
      xxTail n ((h ^^^ BitVec.ofNat 64 (fld bs 0 4) * xxP1).rotateLeft 23 * xxP2 + xxP3) (bs.drop 4)
    else match bs with
      | [] => h
      | b :: r => xxTail n ((h ^^^ b.setWidth 64 * xxP5).rotateLeft 11 * xxP1) r

/-- The four accumulators over a stripe of 32 bytes. -/
def xxStripe (a : BitVec 64 × BitVec 64 × BitVec 64 × BitVec 64) (bs : Bytes) :
    BitVec 64 × BitVec 64 × BitVec 64 × BitVec 64 :=
  (xxRound a.1 (w64 bs 0), xxRound a.2.1 (w64 bs 8), xxRound a.2.2.1 (w64 bs 16), xxRound a.2.2.2 (w64 bs 24))

/-- XXH64 with a seed. -/
def xxh64 (seed : BitVec 64) (bs : Bytes) : BitVec 64 :=
  let n := bs.length / 32
  let h0 :=
    if bs.length ≥ 32 then
      let a := (pieces 32 (bs.take (32 * n))).foldl xxStripe
        (seed + xxP1 + xxP2, seed + xxP2, seed, seed - xxP1)
      let h := a.1.rotateLeft 1 + a.2.1.rotateLeft 7 + a.2.2.1.rotateLeft 12 + a.2.2.2.rotateLeft 18
      xxMerge (xxMerge (xxMerge (xxMerge h a.1) a.2.1) a.2.2.1) a.2.2.2
    else seed + xxP5
  let tail := bs.drop (32 * n)
  let h := xxTail tail.length (h0 + BitVec.ofNat 64 bs.length) tail
  let h := (h ^^^ (h >>> 33)) * xxP2
  let h := (h ^^^ (h >>> 29)) * xxP3
  h ^^^ (h >>> 32)

/-! ## SHA-2 -/

/-- The first primes, from which the SHA-2 constants come. -/
def primesAux : Nat → Nat → List Nat → List Nat
  | 0, _, acc => acc
  | n + 1, k, acc =>
    primesAux n (k + 1) (if acc.all fun p => k % p != 0 then acc ++ [k] else acc)

/-- The first 80 primes. -/
def primes80 : List Nat := (primesAux 410 2 []).take 80

/-- Integer root by bisection: the largest `r` with `r ^ k ≤ n`, the fuel being its bits. -/
def rootBits (k n : Nat) : Nat → Nat → Nat
  | 0, r => r
  | b + 1, r => if (r + 2 ^ b) ^ k ≤ n then rootBits k n b (r + 2 ^ b) else rootBits k n b r

/-- The first `w` fractional bits of the `k`th root of `p` (FIPS 180-4, 4.2). -/
def fracRoot (k w p : Nat) : Nat := rootBits k (p * 2 ^ (k * w)) (w + 10) 0 % 2 ^ w

/-- SHA-256 round constants. -/
def sha256K : List (BitVec 32) := (primes80.take 64).map fun p => BitVec.ofNat 32 (fracRoot 3 32 p)

/-- SHA-384 and SHA-512 round constants. -/
def sha512K : List (BitVec 64) := primes80.map fun p => BitVec.ofNat 64 (fracRoot 3 64 p)

/-- SHA-256 initial value. -/
def sha256H : List (BitVec 32) := (primes80.take 8).map fun p => BitVec.ofNat 32 (fracRoot 2 32 p)

/-- SHA-384 initial value: the ninth to sixteenth primes. -/
def sha384H : List (BitVec 64) :=
  ((primes80.drop 8).take 8).map fun p => BitVec.ofNat 64 (fracRoot 2 64 p)

/-- Message schedule: the newest word first, `n` words still to be made. -/
def shaSched {w : Nat} (s0 s1 : BitVec w → BitVec w) : Nat → List (BitVec w) → List (BitVec w)
  | 0, l => l
  | n + 1, l =>
    shaSched s0 s1 n ((s1 (l.getD 1 0) + l.getD 6 0 + s0 (l.getD 14 0) + l.getD 15 0) :: l)

/-- One round on the eight working variables. -/
def shaRound {w : Nat} (S0 S1 : BitVec w → BitVec w) (v : List (BitVec w)) (kw : BitVec w) :
    List (BitVec w) :=
  match v with
  | [a, b, c, d, e, f, g, h] =>
    let t1 := h + S1 e + ((e &&& f) ^^^ (~~~e &&& g)) + kw
    let t2 := S0 a + ((a &&& b) ^^^ (a &&& c) ^^^ (b &&& c))
    [t1 + t2, a, b, c, d + t1, e, f, g]
  | _ => v

/-- Padding: 0x80, zeros, and the length in bits, in blocks of `blk` bytes with a length field of `lf` bytes. -/
def shaPad (blk lf : Nat) (m : Bytes) : Bytes :=
  m ++ [0x80] ++ zeros ((blk - (m.length + 1 + lf) % blk) % blk) ++ be lf (8 * m.length)

/-- Compress one block of SHA-256. -/
def sha256Block (h : List (BitVec 32)) (b : Bytes) : List (BitVec 32) :=
  let w := (pieces 4 b).map fun x => BitVec.ofNat 32 (rdBe x)
  let s0 := fun (x : BitVec 32) => x.rotateRight 7 ^^^ x.rotateRight 18 ^^^ (x >>> 3)
  let s1 := fun (x : BitVec 32) => x.rotateRight 17 ^^^ x.rotateRight 19 ^^^ (x >>> 10)
  let ws := (shaSched s0 s1 48 w.reverse).reverse
  let S0 := fun (x : BitVec 32) => x.rotateRight 2 ^^^ x.rotateRight 13 ^^^ x.rotateRight 22
  let S1 := fun (x : BitVec 32) => x.rotateRight 6 ^^^ x.rotateRight 11 ^^^ x.rotateRight 25
  List.zipWith (· + ·) h ((List.zipWith (· + ·) sha256K ws).foldl (shaRound S0 S1) h)

/-- SHA-256. -/
def sha256 (m : Bytes) : Bytes :=
  ((pieces 64 (shaPad 64 8 m)).foldl sha256Block sha256H).flatMap fun x => be 4 x.toNat

/-- Compress one block of SHA-384. -/
def sha512Block (h : List (BitVec 64)) (b : Bytes) : List (BitVec 64) :=
  let w := (pieces 8 b).map fun x => BitVec.ofNat 64 (rdBe x)
  let s0 := fun (x : BitVec 64) => x.rotateRight 1 ^^^ x.rotateRight 8 ^^^ (x >>> 7)
  let s1 := fun (x : BitVec 64) => x.rotateRight 19 ^^^ x.rotateRight 61 ^^^ (x >>> 6)
  let ws := (shaSched s0 s1 64 w.reverse).reverse
  let S0 := fun (x : BitVec 64) => x.rotateRight 28 ^^^ x.rotateRight 34 ^^^ x.rotateRight 39
  let S1 := fun (x : BitVec 64) => x.rotateRight 14 ^^^ x.rotateRight 18 ^^^ x.rotateRight 41
  List.zipWith (· + ·) h ((List.zipWith (· + ·) sha512K ws).foldl (shaRound S0 S1) h)

/-- SHA-384. -/
def sha384 (m : Bytes) : Bytes :=
  (((pieces 128 (shaPad 128 16 m)).foldl sha512Block sha384H).flatMap fun x => be 8 x.toNat).take 48

/-- HMAC-SHA-384 (R682). -/
def hmac384 (key m : Bytes) : Bytes :=
  let k := fit 128 (if key.length > 128 then sha384 key else key)
  sha384 (k.map (· ^^^ 0x5C) ++ sha384 (k.map (· ^^^ 0x36) ++ m))

/-! ## AES-256 -/

/-- Multiplication by x in GF(2^8) with the AES polynomial. -/
def xtime (a : Byte) : Byte := if a.getLsbD 7 then (a <<< 1) ^^^ 0x1B#8 else a <<< 1

/-- Multiplication in the AES field. -/
def aesMul (a b : Byte) : Byte :=
  ((List.range 8).foldl (fun (s : Byte × Byte) i =>
    (if b.getLsbD i then s.1 ^^^ s.2 else s.1, xtime s.2)) (0, a)).1

/-- Inverse in the AES field, 0 for 0: the 254th power. -/
def aesInv (a : Byte) : Byte :=
  let a2 := aesMul a a
  let a4 := aesMul a2 a2
  let a8 := aesMul a4 a4
  let a16 := aesMul a8 a8
  let a32 := aesMul a16 a16
  let a64 := aesMul a32 a32
  let a128 := aesMul a64 a64
  aesMul a128 (aesMul a64 (aesMul a32 (aesMul a16 (aesMul a8 (aesMul a4 a2)))))

/-- The substitution of a byte. -/
def sboxOf (a : Byte) : Byte :=
  let b := aesInv a
  b ^^^ b.rotateLeft 1 ^^^ b.rotateLeft 2 ^^^ b.rotateLeft 3 ^^^ b.rotateLeft 4 ^^^ 0x63#8

/-- The S-box. -/
def sbox : List Byte := (List.range 256).map fun i => sboxOf (BitVec.ofNat 8 i)

/-- The inverse S-box. -/
def sboxInv : List Byte := (List.range 256).map fun i =>
  BitVec.ofNat 8 ((findFrom (· == BitVec.ofNat 8 i) sbox 0).getD 0)

/-- Substitute each byte. -/
def subBytes (t : List Byte) (bs : Bytes) : Bytes := bs.map fun b => t.getD b.toNat 0

/-- Take the bytes at the places named. -/
def pick (bs : Bytes) (l : List Nat) : Bytes := l.map fun i => bs.getD i 0

/-- ShiftRows on a state held column by column. -/
def shiftRows (s : Bytes) : Bytes := pick s [0, 5, 10, 15, 4, 9, 14, 3, 8, 13, 2, 7, 12, 1, 6, 11]

/-- InvShiftRows. -/
def shiftRowsInv (s : Bytes) : Bytes := pick s [0, 13, 10, 7, 4, 1, 14, 11, 8, 5, 2, 15, 12, 9, 6, 3]

/-- Multiply each column by the circulant matrix of four coefficients. -/
def mixWith (c : List Byte) (s : Bytes) : Bytes :=
  (pieces 4 s).flatMap fun col => (List.range 4).map fun i =>
    (List.range 4).foldl (fun acc j => acc ^^^ aesMul (c.getD ((j + 4 - i) % 4) 0) (col.getD j 0)) 0

/-- Key expansion of AES-256: words newest first, `n` still to be made, with the round constant. -/
def aesExpand : Nat → Nat → Byte → List Bytes → List Bytes
  | 0, _, _, l => l
  | n + 1, i, rc, l =>
    let prev := l.getD 0 []
    let back := l.getD 7 []
    if i % 8 = 0 then
      let t := subBytes sbox (prev.drop 1 ++ prev.take 1)
      aesExpand n (i + 1) (xtime rc) (xorBytes (xorBytes t [rc, 0, 0, 0]) back :: l)
    else if i % 8 = 4 then aesExpand n (i + 1) rc (xorBytes (subBytes sbox prev) back :: l)
    else aesExpand n (i + 1) rc (xorBytes prev back :: l)

/-- The fifteen round keys of AES-256. -/
def aesKeys (k : Bytes) : List Bytes :=
  pieces 16 (aesExpand 52 8 1 (pieces 4 k).reverse).reverse.flatten

/-- Encrypt a block with expanded keys. -/
def aesEncWith (rk : List Bytes) (b : Bytes) : Bytes :=
  let s := (rk.drop 1).dropLast.foldl (fun s k =>
    xorBytes (mixWith [2, 3, 1, 1] (shiftRows (subBytes sbox s))) k) (xorBytes b (rk.headD []))
  xorBytes (shiftRows (subBytes sbox s)) (rk.getLastD [])

/-- Decrypt a block with expanded keys. -/
def aesDecWith (rk : List Bytes) (b : Bytes) : Bytes :=
  let s := subBytes sboxInv (shiftRowsInv (xorBytes b (rk.getLastD [])))
  let s := (rk.drop 1).dropLast.reverse.foldl (fun s k =>
    subBytes sboxInv (shiftRowsInv (mixWith [14, 11, 13, 9] (xorBytes s k)))) s
  xorBytes s (rk.headD [])

/-! ## CMAC -/

/-- Doubling in GF(2^128), most significant byte first (SP 800-38B). -/
def cmacDbl (b : Bytes) : Bytes :=
  let v := rdBe b
  be 16 ((v * 2 % 2 ^ 128) ^^^ (if v ≥ 2 ^ 127 then 0x87 else 0))

/-- AES-CMAC under a 256-bit key. -/
def aesCmac (key m : Bytes) : Bytes :=
  let rk := aesKeys key
  let k1 := cmacDbl (aesEncWith rk (zeros 16))
  let k2 := cmacDbl k1
  let ps := pieces 16 m
  let last := ps.getLastD []
  let last' := if last.length = 16 then xorBytes last k1 else xorBytes (fit 16 (last ++ [0x80])) k2
  let c := ps.dropLast.foldl (fun c p => aesEncWith rk (xorBytes c p)) (zeros 16)
  aesEncWith rk (xorBytes c last')

/-! ## XTS -/

/-- Multiply an XTS tweak by the primitive element, little-endian (IEEE 1619). -/
def xtsNext (t : Bytes) : Bytes :=
  let v := rdLe t
  le 16 ((v * 2 % 2 ^ 128) ^^^ (if v ≥ 2 ^ 127 then 0x87 else 0))

/-- One data unit of XTS-AES-256 whose length is a multiple of 16 (R672). -/
def xts (encrypt : Bool) (key : Bytes) (tweak : Nat) (m : Bytes) : Bytes :=
  let k1 := aesKeys (key.take 32)
  let t0 := aesEncWith (aesKeys (key.drop 32)) (le 16 tweak)
  ((pieces 16 m).foldl (fun (s : Bytes × Bytes) p =>
    let x := xorBytes p s.2
    (s.1 ++ xorBytes (if encrypt then aesEncWith k1 x else aesDecWith k1 x) s.2, xtsNext s.2)) ([], t0)).1

/-! ## Key derivation (R682) -/

/-- ASCII bytes of a string. -/
def ascii (t : String) : Bytes := t.toList.map fun c => BitVec.ofNat 8 c.toNat

/-- SP 800-108 in counter mode: a 32-bit counter, the label, a zero byte, the context and the length in bits. -/
def kdf (prf : Bytes → Bytes → Bytes) (out : Nat) (key : Bytes) (label : String) (context : Bytes) (n : Nat) : Bytes :=
  ((List.range ((n + out - 1) / out)).flatMap fun i =>
    prf key (be 4 (i + 1) ++ ascii label ++ [0] ++ context ++ be 4 (8 * n))).take n

/-- KDF_H (R682). -/
def kdfH (key : Bytes) (label : String) (context : Bytes) (n : Nat) : Bytes := kdf hmac384 48 key label context n

/-- KDF_C (R682). -/
def kdfC (key : Bytes) (label : String) (context : Bytes) (n : Nat) : Bytes := kdf aesCmac 16 key label context n

/-! ## P-384 -/

/-- The field prime of P-384. -/
def p384P : Nat := 2 ^ 384 - 2 ^ 128 - 2 ^ 96 + 2 ^ 32 - 1

/-- The order of P-384. -/
def p384N : Nat :=
  0xFFFFFFFFFFFFFFFFFFFFFFFFFFFFFFFFFFFFFFFFFFFFFFFFC7634D81F4372DDF581A0DB248B0A77AECEC196ACCC52973

/-- The coefficient b. -/
def p384B : Nat :=
  0xB3312FA7E23EE7E4988E056BE3F82D19181D9C6EFE8141120314088F5013875AC656398D8A2ED19D2A85C8EDD3EC2AEF

/-- The base point. -/
def p384G : Nat × Nat :=
  (0xAA87CA22BE8B05378EB1C71EF320AD746E1D3B628BA79B9859F741E082542A385502F25DBF55296C3A545E3872760AB7,
   0x3617DE4A96262C6F5D9E98BF9292DC29F8F41DBD289A147CE9DA3113B5F0B8C00A60B1CE1D7E819D7A431D7C90EA0E5F)

/-- Modular power by squaring; the fuel is the bits of the exponent. -/
def powMod (m : Nat) : Nat → Nat → Nat → Nat
  | 0, _, _ => 1 % m
  | f + 1, b, e =>
    let r := powMod m f (b * b % m) (e / 2)
    if e % 2 = 1 then r * b % m else r

/-- Inverse modulo a prime. -/
def invMod (m a : Nat) : Nat := powMod m 384 a (m - 2)

/-- Sum of two affine points, none being the point at infinity. -/
def ecAdd : Option (Nat × Nat) → Option (Nat × Nat) → Option (Nat × Nat)
  | none, q => q
  | p, none => p
  | some (x1, y1), some (x2, y2) =>
    if x1 = x2 && (y1 + y2) % p384P = 0 then none
    else
      let l := if x1 = x2 then (3 * x1 * x1 + p384P - 3) % p384P * invMod p384P (2 * y1 % p384P)
        else (y2 + p384P - y1) % p384P * invMod p384P ((x2 + p384P - x1) % p384P)
      let l := l % p384P
      let x3 := (l * l + 2 * p384P - x1 - x2) % p384P
      some (x3, (l * ((x1 + p384P - x3) % p384P) + p384P - y1) % p384P)

/-- Multiple of a point; the fuel is the bits of the scalar. -/
def ecMul : Nat → Nat → Option (Nat × Nat) → Option (Nat × Nat)
  | 0, _, _ => none
  | f + 1, k, p =>
    let r := ecMul f (k / 2) (ecAdd p p)
    if k % 2 = 1 then ecAdd r p else r

/-- An uncompressed public key of 97 bytes. -/
def p384Enc (p : Option (Nat × Nat)) : Bytes :=
  match p with
  | some (x, y) => [4] ++ be 48 x ++ be 48 y
  | none => zeros 97

/-- The point of an uncompressed public key, if it is one of the curve. -/
def p384Dec (k : Bytes) : Option (Nat × Nat) :=
  let x := rdBe (slice k 1 48)
  let y := rdBe (slice k 49 48)
  if k.length = 97 && k.headD 0 = 4 && x < p384P && y < p384P &&
      y * y % p384P = (x * x * x + p384B + (p384P - 3) * x) % p384P then some (x, y) else none

/-- The public key of a private scalar. -/
def p384Public (d : Nat) : Bytes := p384Enc (ecMul 384 d (some p384G))

/-- The x coordinate of a private scalar's multiple of a public point, as 48 bytes (SP 800-56A). -/
def p384Ecdh (d : Nat) (k : Bytes) : Bytes :=
  match ecMul 384 d (p384Dec k) with
  | some (x, _) => be 48 x
  | none => zeros 48

/-- ECDSA with the per-message secret `k` over a SHA-384 digest: `r ‖ s` (FIPS 186-5). -/
def p384Sign (d : Nat) (digest : Bytes) (k : Nat) : Bytes :=
  let k := k % (p384N - 1) + 1
  match ecMul 384 k (some p384G) with
  | some (x, _) =>
    let r := x % p384N
    be 48 r ++ be 48 (invMod p384N k * ((rdBe digest + r * d) % p384N) % p384N)
  | none => zeros 96

/-- Whether `r ‖ s` is a signature of the digest under the public key (FIPS 186-5). -/
def p384Verify (key digest sig : Bytes) : Bool :=
  let r := rdBe (sig.take 48)
  let s := rdBe (sig.drop 48)
  match p384Dec key with
  | none => false
  | some q =>
    if sig.length != 96 || r = 0 || r ≥ p384N || s = 0 || s ≥ p384N then false
    else
      let w := invMod p384N s
      let p := ecAdd (ecMul 384 (rdBe digest * w % p384N) (some p384G)) (ecMul 384 (r * w % p384N) (some q))
      match p with
      | some (x, _) => x % p384N == r
      | none => false

/-! ## GF(2^8) of the parity engine -/

/-- Multiplication by 2 in the field of a polynomial with low byte `poly`. -/
def gfDbl (poly : Byte) (a : Byte) : Byte := if a.getLsbD 7 then (a <<< 1) ^^^ poly else a <<< 1

/-- Multiplication in the field. -/
def gfMul (poly : Byte) (a b : Byte) : Byte :=
  ((List.range 8).foldl (fun (s : Byte × Byte) i =>
    (if b.getLsbD i then s.1 ^^^ s.2 else s.1, gfDbl poly s.2)) (0, a)).1

/-- Power of an element. -/
def gfPow (poly : Byte) (a : Byte) : Nat → Byte
  | 0 => 1
  | n + 1 => gfMul poly a (gfPow poly a n)

/-- Inverse in the field: the 254th power. -/
def gfInv (poly : Byte) (a : Byte) : Byte := gfPow poly a 254

end Sys2Proof.Machine
end

