-- ==== Sys2Proof/Machine/State.lean ====
section
/-! DEFINITION. The state of the block as plain data, its faults and refusals, and its reset. -/

namespace Sys2Proof.Machine

/-- Why the machine stops. -/
inductive Fault where
  /-- An access to an address at which the installed DRAM has no byte (R188, R189): raised by the map
  window commands. Safe: the spec gives such an access no effect. -/
  | noSuchAddress (addr : Nat)
  deriving DecidableEq, Repr

/-- Why the model refuses a command. -/
inductive Refusal where
  /-- A command whose meaning has not been written: raised by the dispatch only. Safe. -/
  | notModelled (mnemonic : String)
  deriving DecidableEq, Repr

/-- Virkan: sessions, frames, settings and held replies (03). -/
structure VirkanPart where
  /-- Open sessions (R87, R91). -/
  sessions : List Session
  /-- Next session handle (R91). -/
  nextHandle : Nat
  /-- Sessions opened since reset (R91). -/
  opened : Nat
  /-- Configuration frames; Open and Checked ones are discarded at reset (R102) (R101). -/
  frames : List Frame
  /-- Next frame ID (R98). -/
  nextFrame : Nat
  /-- Replies and notices held (R94). -/
  held : List HeldReply
  /-- Settings other than their default; every setting is at its default (R98, R814). -/
  settings : List (Nat × Bytes)
  /-- Final or PENDING replies discarded unfetched (R94). -/
  discarded : Nat
  /-- Notices lost for want of a place (R94). -/
  noticesLost : Nat
  /-- MG packets whose trailer failed (R83). -/
  badCmac : Nat
  /-- Virkan TCP connections on MG (R83, R91). -/
  mgConns : List Nat
  /-- Attestation connections (R644). -/
  attConns : List Nat
  /-- MG frames dropped (R25). -/
  mgDropped : Nat
  /-- Internal frames the head schedules by itself that wait for one of the 64 places (R101). -/
  waitFrames : List (Bool × Item × List After)
  /-- Items of the frames that the peer has scheduled and not ended, from its sequence (R107, R813). -/
  peerFrames : List (Nat × List Item)
  deriving DecidableEq, Repr, Inhabited

/-- Mode, ingest buckets and the causes that hold new work (02, 03, 04). -/
structure ModeStPart where
  /-- Mode; none in a start (SB_STATUS mode code 0) (R116, R773). -/
  mode : Option Mode
  /-- Automatic mode change decided, to take effect at the next tick (R109). -/
  auto : Option Mode
  /-- WAKE_MODE refused; when it was last judged (R121). -/
  wakeCheck : Option Nat
  /-- A wake's change to WAKE_MODE is due at the next tick (R121). -/
  wakePending : Bool
  /-- Recovery start (R626). -/
  recovery : Bool
  /-- Safe start (R622). -/
  safe : Bool
  /-- Key-erased service (R708). -/
  keyErased : Bool
  /-- No bank verifies (R630). -/
  halted : Bool
  /-- Fatal stop: the head does nothing until a reset (R194). -/
  stopped : Bool
  /-- Ingest bucket (signed by underflow: 0 is empty) (R817). -/
  bucket : Nat
  /-- Last refill (R817). -/
  bucketAt : Nat
  /-- Landing bucket (R817, R284). -/
  landBucket : Nat
  /-- Landing limit entered (R284). -/
  landHeld : Bool
  /-- Data ring hold (R174). -/
  ringHeld : Bool
  /-- Own ring hold (R180). -/
  ckptHeld : Bool
  /-- Merge pin hold (R175). -/
  pinHeld : Bool
  /-- Brood space hold (R285). -/
  broodHeld : Bool
  /-- One-cable limit in force (R34). -/
  cableLimit : Bool
  /-- The DORMANT waggle of an entry has been sent (R548). -/
  dormantSaid : Bool
  /-- Hold or Watch entry in progress (R754, R758). -/
  entering : Option Mode
  /-- Brood hive kept in Tide (R380, R382). -/
  tideKept : Nat
  /-- Drained (R119). -/
  drained : Bool
  /-- Engine units gated at self-test (R625). -/
  gated : BitVec 64
  deriving DecidableEq, Repr, Inhabited

/-- Time and the commit tick (20). -/
structure ClockPart where
  /-- Commit tick (R747). -/
  tick : Nat
  /-- TAI time (R747). -/
  now : Nat
  /-- Tick epoch E (R747). -/
  tickEpoch : Option Nat
  /-- The tick epoch went with the always-on supply (R753). -/
  epochLost : Bool
  /-- Alignment: 0 PTP_LOCKED, 1 PEER_LOCKED, 2 HOLDOVER, 3 FREE (R750). -/
  align : Nat
  /-- Last PTP Sync (R750). -/
  lastSync : Option Nat
  /-- Offset from the master (R750). -/
  offset : Int
  /-- Last message on context 5 (R551, R750). -/
  lastCtx5 : Option Nat
  /-- Since when the alignment state stands (R750). -/
  alignSince : Nat
  /-- Peer's alignment state (R750). -/
  peerAlign : Nat
  /-- PTP master chosen (R749). -/
  master : Option Nat
  /-- Sentinel RTC (R746). -/
  rtc : Nat
  /-- Last discipline (R746). -/
  rtcDiscAt : Nat
  /-- Tick adjustments (R748). -/
  tickAdjust : Nat
  deriving DecidableEq, Repr, Inhabited

/-- Sentinel, supplies, sleep and propolis (18, 20, 21). -/
structure PowerPart where
  /-- Always-on supply good (R767). -/
  aonOk : Bool
  /-- Every supply within range (R790). -/
  suppliesOk : Bool
  /-- Crystal running (R796). -/
  xtalOk : Bool
  /-- Reference clock running (R794). -/
  refOk : Bool
  /-- The sentinel holds CHIP_RESET_N (R790). -/
  inReset : Bool
  /-- Last reset cause (R619). -/
  resetCause : Nat
  /-- A start is due (R611). -/
  startDue : Bool
  /-- The next start is a recovery start (R628). -/
  nextRecovery : Bool
  /-- Pads latched; PAD_HOLD_OUT high (R765). -/
  padsHeld : Bool
  /-- Waggle enable of the sentinel (R549). -/
  waggleEnable : Bool
  /-- In Hold or Watch (R754, R758). -/
  sleep : Option Mode
  /-- Imprint header state: 0 empty, 1 written, 2 restored (R757). -/
  imprint : Nat
  /-- Imprint tick (R757). -/
  imprintTick : Nat
  /-- A block or header fails its CRC (R763). -/
  imprintBad : Bool
  /-- Wake causes latched (R761). -/
  wakeCause : BitVec 8
  /-- Tj of the latest sample (R773). -/
  tj : Int
  /-- HOLDUP_SENSE reserve (R761). -/
  holdup : Nat
  /-- Last Watch sample (R760). -/
  lastSample : Nat
  /-- Alarm cause latched (R704). -/
  alarm : BitVec 4
  /-- Alarm conditions that stand (R707). -/
  alarmStands : BitVec 4
  /-- Since when every condition has been clear (R707). -/
  alarmClearSince : Option Nat
  /-- Time of the last alarm (R704). -/
  alarmAt : Nat
  /-- Watchdog expiry time (R769). -/
  wdArmed : Option Nat
  /-- Watchdog suspended (R769). -/
  wdSuspended : Bool
  /-- The wax controller begins no line write (R792). -/
  waxStopped : Bool
  deriving DecidableEq, Repr, Inhabited

/-- The sideband port (20). -/
structure SidebandPart where
  /-- Bytes of the request packet being written (R774). -/
  req : Bytes
  /-- Request writer's bank pointer (Gray) (R775). -/
  reqWptr : BitVec 2
  /-- Request reader's bank pointer (Gray) (R775). -/
  reqRptr : BitVec 2
  /-- A word of the packet was dropped (R776). -/
  reqOverrun : Bool
  /-- Capped packets not yet taken (before step 8, or in sleep) (R616, R774). -/
  queued : List Bytes
  /-- Reply packets in the FIFO, not yet read (R774). -/
  rsp : List Bytes
  /-- The held reply whose packets are in the FIFO (R94). -/
  rspOf : Option HeldReply
  /-- Reply writer's bank pointer (R775). -/
  rspWptr : BitVec 2
  /-- Reply reader's bank pointer (R775). -/
  rspRptr : BitVec 2
  /-- SB_RTC_HI as latched (R773). -/
  rtcHi : BitVec 32
  /-- SB_INT_EN (R773). -/
  intEn : BitVec 32
  /-- SB_INT_STATUS (R773). -/
  intStatus : BitVec 32
  /-- SB_MBX_ERROR (R773). -/
  mbxError : BitVec 32
  /-- When the first SENTINEL_RESET write came (R770). -/
  resetArm : Option Nat
  /-- Private transfer register offset (R772). -/
  offset : Nat
  /-- SB_STATUS when STATUS_CHANGE was last judged (R773, R778). -/
  lastStatus : BitVec 32
  /-- I3C dynamic address (R771). -/
  dynAddr : Option Nat
  /-- Target events enabled (bit 0, in-band interrupts, is on after reset: the I3C default) (R771). -/
  events : BitVec 8
  /-- Maximum write length (R771). -/
  mwl : Nat
  /-- Maximum read length (R771). -/
  mrl : Nat
  deriving DecidableEq, Repr, Inhabited

/-- The event recorder (19). -/
structure RecorderPart where
  /-- Next event sequence (R712, R726). -/
  nextSeq : Nat
  /-- Non-empty slots (R723). -/
  ring : List EvRec
  /-- Intake FIFO, oldest first (R719). -/
  fifo : List Report0
  /-- Reserved lane (R719). -/
  lane : List Report0
  /-- CRITICAL and FATAL reports whose raisers wait for the lane (R721). -/
  waiting : List Report0
  /-- Buckets that are not full, or whose window is open; full at start (R717). -/
  buckets : List Bucket
  /-- Drops TRACE to SEVERE since the last E002 (R720). -/
  drops : List Nat
  /-- First drop since the last E002 (R720). -/
  dropSince : Option Nat
  /-- Ring refusals TRACE to CRITICAL since the last E003 (R725). -/
  refusals : List Nat
  /-- First refusal since the last E003 (R725). -/
  refuseSince : Option Nat
  /-- Summary reports kept for a later second (R720, R725). -/
  kept : List Report0
  /-- Last offer of the kept summaries (R720). -/
  lastRetry : Nat
  /-- Per session: notices lost, records lost, lowest, highest, highest severity (R730). -/
  subLost : List (Nat × Nat × Nat × Nat × Nat × Nat)
  /-- Per controller: records lost, lowest, highest, highest severity (R732). -/
  ctlLost : List (Nat × Nat × Nat × Nat × Nat)
  deriving DecidableEq, Repr, Inhabited

/-- Counters (R734 to R741). -/
structure CountersPart where
  /-- Counters other than 0; they start at 0 (R734, R741). -/
  vals : List CtrVal
  deriving DecidableEq, Repr, Inhabited

/-- Wax rings and commit order (05). -/
structure WaxPart where
  /-- This head's records, in ordinal order (R160, R165). -/
  own : List WaxRec
  /-- Records in the rings beyond the replay's end, which only the peer's copy can bring back (R182, R183). -/
  tail : List WaxRec
  /-- The peer's records (R160, R172). -/
  shadow : List ShadowRec
  /-- Next commit ordinal; the first record has ordinal 1 (R42). -/
  nextOrd : Nat
  /-- Last ordinal applied (R43). -/
  lastApplied : Nat
  /-- Replay epoch (R182). -/
  epoch : Nat
  /-- Data ring write point (R171). -/
  dataWp : Nat
  /-- Own ring write point (R171). -/
  commitWp : Nat
  /-- Next checkpoint slot (R179). -/
  nextSlot : Nat
  /-- Last checkpoint (R179). -/
  ckptAt : Nat
  /-- Bytes placed in the own half since the last checkpoint (R179). -/
  sinceCkpt : Nat
  /-- Commit walk start of the newest confirmed checkpoint (R179). -/
  walkStart : Nat
  /-- Stripe journal, own half (R224). -/
  journal : List JournalEntry
  /-- Stripe journal, shadow half (R224). -/
  shJournal : List JournalEntry
  /-- Next journal sequence (R224). -/
  jSeq : Nat
  /-- Journal write point (R224). -/
  jWp : Nat
  /-- The encrypted wax holds nothing of this sequence (R812). -/
  isNew : Bool
  /-- Start replay has run (R181). -/
  replayed : Bool
  /-- PAD records of the own rings: ring, offset and units (R166). -/
  pads : List (WaxRing × Nat × Nat)
  /-- PAD records of the mirror ring and the shadow half (R166, R172). -/
  shPads : List (WaxRing × Nat × Nat)
  /-- Last ordinal that the start replay applied, or the covered ordinal where nothing could be replayed (R181, R812). -/
  replayEnd : Nat
  /-- Ordinal up to which the peer sends this head the records of its own sequence at pair join (R183, R812). -/
  tailTo : Option Nat
  /-- Ordinal of the peer's sequence that the peer still has to reach at pair join, from this head's shadow (R183). -/
  peerTo : Option Nat
  /-- Records asked for while the join still restores commit order, written once it has (R74, R183). -/
  later : List (Nat × Bool × RecBody × List After)
  /-- This head's own copy of its sequence cannot be replayed, and its peer's is awaited (R812). -/
  lost : Bool
  deriving DecidableEq, Repr, Inhabited

/-- DRAM (05). -/
structure DramPart where
  /-- DIMMs per channel (R189). -/
  dimms : Nat
  /-- Capacity of each DIMM, GiB (R189). -/
  dimmGiB : Nat
  /-- Peer's population, GiB (R190). -/
  peerGiB : Option Nat
  /-- Channel speed, MT/s (R189, R623). -/
  mts : Nat
  /-- Channels trained (R612). -/
  trained : Bool
  /-- In self-refresh (R754). -/
  selfRefresh : Bool
  /-- Corrections of the last hour: channel, time, count (R192). -/
  corrections : List (Nat × Nat × Nat)
  /-- Uncorrectable errors of the last second (R194). -/
  uncorr : List (Nat × Nat)
  /-- Last patrol scrub (R192). -/
  scrubAt : Nat
  /-- DRAM bytes other than 0 (R1, R188). -/
  mem : List Host.Cell
  deriving DecidableEq, Repr, Inhabited

/-- The map SRAM cache (05). -/
structure MapCachePart where
  /-- Map window base (R195). -/
  base : Nat
  /-- Map window size (R195). -/
  size : Nat
  /-- Valid lines: set, way, tag, bytes (R195). -/
  lines : List (Nat × Nat × Nat × Bytes)
  /-- Replacement LFSR (R197). -/
  lfsr : BitVec 16
  deriving DecidableEq, Repr, Inhabited

/-- Comb links, and the bridges behind them (08). -/
structure CombLinksPart where
  /-- Head ends of the comb links (R307). -/
  links : List Link
  /-- Combs and their bridges (R309). -/
  bridges : List Bridge
  /-- What the peer has found behind its links: link and comb serial number (R12). -/
  peerSerials : List (Nat × Nat)
  deriving DecidableEq, Repr, Inhabited

/-- Hives and shelves (09). -/
structure Power2Part where
  /-- Hives (R9, R349). -/
  hives : List Hive
  /-- Shelf controllers (R356). -/
  shelves : List Shelf
  /-- Unanswered requests on HCB0 and HCB1 (R355). -/
  reqs : List BusReq
  /-- Next hive polled on each bus (R356). -/
  pollNext : List Nat
  /-- Next request sequence (R353). -/
  seq : Nat
  deriving DecidableEq, Repr, Inhabited

/-- NVMe front end (10). -/
structure FrontPart where
  /-- Connections (R390). -/
  conns : List Conn
  /-- Controllers (R396). -/
  ctrls : List Ctrl
  /-- Controller IDs ended in the last 10 s (R395). -/
  ended : List (Nat × Nat)
  /-- Outstanding commands (R405). -/
  cmds : List HostCmd
  /-- Ordered streams (R412). -/
  streams : List OStream
  /-- Last E801 (R390). -/
  e801At : Option Nat
  /-- Apiary serial number (R397). -/
  apiarySerial : Nat
  deriving DecidableEq, Repr, Inhabited

/-- The Forage engine (12). -/
structure ForagePart where
  /-- Contexts not free (R482). -/
  ctxs : List Ctx
  /-- Path table (R509). -/
  paths : List Path
  /-- Recent-ID table (R501). -/
  recent : List RecentId
  /-- Holding buffer (R505). -/
  holding : List FPkt
  /-- The table is full of young entries (R502). -/
  recentFull : Bool
  deriving DecidableEq, Repr, Inhabited

/-- The pair: leases, waggles, takeover, rejoin, rebalance (14). -/
structure PairPart where
  /-- This head's side (R8). -/
  side : Side
  /-- Apiary ID; an apiary of no colony uses 0 (R8, R583). -/
  apiary : Nat
  /-- Former head IDs (R601). -/
  formerIds : List Nat
  /-- Ownership table (R537). -/
  owners : List (OwnUnit × Side)
  /-- Home sides (R538). -/
  homes : List (OwnUnit × Side)
  /-- Pair join done (R564). -/
  joined : Bool
  /-- Pair join waiting since (R563). -/
  joinSince : Option Nat
  /-- Tick at which the lease ends (R541). -/
  leaseEnd : Nat
  /-- Tick of the last grant made (R540). -/
  lastGrant : Nat
  /-- Peer mode of its last waggle (R581). -/
  peerMode : Option Mode
  /-- Peer's last waggle carried DORMANT (R581). -/
  peerDormant : Bool
  /-- A YIELDING waggle became visible in this tick (R547). -/
  peerYielding : Bool
  /-- Peer's DRAINED flag (R545). -/
  peerDrained : Bool
  /-- The peer's kept brood hive (R121). -/
  peerTideHive : Option Nat
  /-- The peer's bank is on trial (R665). -/
  peerTrial : Bool
  /-- A waggle became visible on the peer path in this tick (R546). -/
  gotPeer : Bool
  /-- On the fabric path (R546). -/
  gotFabric : Bool
  /-- A grantable waggle became visible in the previous tick (R540). -/
  gotLast : Bool
  /-- Consecutive misses, peer path (R546). -/
  missPeer : Nat
  /-- Consecutive misses, fabric path (R546). -/
  missFabric : Nat
  /-- Time L of the last waggle (R562). -/
  lastWaggle : Nat
  /-- The peer is declared failed (R547). -/
  declared : Bool
  /-- This head stopped under R550, R551 or R72 (R550). -/
  fencedOff : Bool
  /-- This head yields (R551). -/
  yielding : Bool
  /-- Mirror confirmed (R28, R581). -/
  mirror : Bool
  /-- Takeover: 0 none, 1 waiting, 2 arbiter round, 3 other combs, 4 replay, 5 done (R560). -/
  fence : Nat
  /-- What the round is for: 0 takeover, 1 Solo by frame (R118, R560). -/
  fenceFor : Nat
  /-- Earliest time of the raise (R65, R560). -/
  fenceAt : Nat
  /-- Arbiter hive of the round (R70). -/
  arbiter : Nat
  /-- Power state read before the round (R71). -/
  arbPolls : Option Nat
  /-- Links whose raise this head won (R70). -/
  won : List Nat
  /-- Links lost to the peer (R72). -/
  lost : List Nat
  /-- Links whose raise is not answered (R560). -/
  fenceWait : List Nat
  /-- When the fencing round is repeated (R71). -/
  retryAt : Option Nat
  /-- Chain base tick (R552). -/
  base : Option Nat
  /-- D(t) of the own sequence (R552). -/
  ownChain : Bytes
  /-- N(t) (R552). -/
  ownCut : Nat
  /-- Recomputed chain over the shadow (R554). -/
  shChain : Bytes
  /-- Peer's cutoff folded in (R554). -/
  shCut : Nat
  /-- Peer's tick most recently compared (R553). -/
  echoTick : Nat
  /-- Outcome of that comparison (R553). -/
  echoResult : Nat
  /-- Consecutive mismatches (R555). -/
  mismatches : Nat
  /-- Consecutive ticks with differing vault counts (R554). -/
  vaultDiff : Nat
  /-- Tick of the last match (R581). -/
  lastMatch : Nat
  /-- Own cutoff at the last match (R556). -/
  matchCut : Nat
  /-- Peer's cutoff at the last match (R556). -/
  shMatchCut : Nat
  /-- Ends of a takeover's phases so far (R562). -/
  phaseAt : List Nat
  /-- Mismatch hold (R555). -/
  mismatchHold : Bool
  /-- A mismatch stands unresolved (R558). -/
  unresolved : Bool
  /-- Own self-check report (R556). -/
  ownReport : Option SelfReport
  /-- Peer's report (R557). -/
  peerReport : Option SelfReport
  /-- When the second mismatch came (R557). -/
  mismatchAt : Nat
  /-- KEY_CHANGE records applied since the chain base tick (R553). -/
  vaultCount : Nat
  /-- Peer's shadow ordinal of its last waggle (R545). -/
  peerShadow : Nat
  /-- Rejoin copy: cutoff ordinal, bytes left (R565, R581). -/
  rejoin : Option (Nat × Nat)
  /-- The peer holds a HANDOVER naming this head (R184). -/
  handedOver : Bool
  /-- Rebalance in progress (R572). -/
  rebalance : Option Rebalance
  /-- Fabric pairs, set below: even port active, odd standby after reset (R20). -/
  fabric : List FabricPair
  /-- PL0 to PL3 up: down until pair join (R23, R580). -/
  plUp : List Bool
  /-- PATH_DRILL in progress (R578). -/
  drill : Option Drill
  /-- Tick of the last TAKEOVER record (R581). -/
  lastTakeover : Nat
  /-- The flash rule is in force (step 4 of R560 done) (R119, R561). -/
  confirmedSolo : Bool
  /-- WAKE_MODE of the peer as the frames set it; none is the default (R121). -/
  peerWakeMode : Option Nat
  /-- The peer has come out of Hold or Watch and is in Quiesce (R121). -/
  peerWoke : Bool
  /-- Epoch of each comb at the declaration, from which the round raises it (R70, R72). -/
  fenceEpochs : List (Nat × Nat)
  /-- The round of raises is over and the poll of the arbiter's shelf after it is awaited (R71). -/
  pollWait : Bool
  /-- A TAKEOVER record of this head stands and its peer has not rejoined (R46, R184). -/
  tookOver : Bool
  /-- Hives without power while the round raised the fence: their combs are raised as they come up (R69, R344). -/
  raiseLater : List Nat
  /-- What the peer's confirmed firmware reads and writes, once it has reported (R664, R665). -/
  peerFormats : Option Formats
  /-- Units of a GIVE record whose RECEIVE had not come when the receiver was declared failed (R573). -/
  given : List OwnUnit
  deriving DecidableEq, Repr, Inhabited

/-- Start, measurement and attestation (16). -/
structure BootPart where
  /-- Boot step of SB_STATUS; 0 after step 14 (and at reset) (R773). -/
  step : Nat
  /-- Start number (R618). -/
  startNum : Nat
  /-- Boot ledger (R617). -/
  ledger : List LedgerRec
  /-- Next ledger sequence (R617). -/
  ledgerSeq : Nat
  /-- T0 to T7: 48 zero bytes each (R636). -/
  tallies : List Bytes
  /-- Measurement log since the start (R639). -/
  log : List MeasEntry
  /-- Executing bank; 0xFF before step 3 ends (R618, R633). -/
  executing : Nat
  /-- Code flash banks, set below (R631). -/
  banks : List BankImg
  /-- Fuse block (R638). -/
  fuses : Bytes
  /-- Boot ROM version (R638). -/
  romVersion : Nat
  /-- Fused minimum: fuse bits blown, 0 to 64 (R663). -/
  fusedMin : Nat
  /-- Device serial (R641). -/
  serial : Nat
  /-- Identity certificate (R643). -/
  cert : Bytes
  /-- Fused secret seed (R696). -/
  seed : Bytes
  /-- Step 14 has finished (R612). -/
  inService : Bool
  /-- When step 14 finished (R624). -/
  service14At : Nat
  /-- Step 12 was skipped (R624). -/
  skippedJoin : Bool
  /-- Step 13 was skipped (R624). -/
  skippedColony : Bool
  /-- What START said of the boot steps not yet run (the model's own) (-). -/
  plan : List StepPlan
  /-- The identity key is held (R643). -/
  attestKey : Bool
  deriving DecidableEq, Repr, Inhabited

/-- Field update (17). -/
structure UpdPart where
  /-- Open update; a reset ends it (R648, R655). -/
  open_ : Option Update
  /-- Bank on trial, and end of its window (R658). -/
  trial : Option (Nat × Nat)
  /-- Owner's update lock (R654). -/
  lock : Bool
  /-- Firmware version running (R631). -/
  version : Nat
  /-- Fall back when the peer accepts work (R660). -/
  fallbackDue : Bool
  /-- Result bytes written to the bank that is not executing (R653). -/
  inactive : Bytes
  /-- Sector 0 held in staging (R653). -/
  sector0 : Bytes
  /-- A reset ended an update before its activation; EE03 is due (R655). -/
  ended : Bool
  /-- What the running firmware reads and writes (R664, R665). -/
  formats : Formats
  /-- What the confirmed firmware reads and writes (R664, R665). -/
  confirmed : Formats
  /-- While the bank is on trial, the formats that the previous confirmed firmware wrote (R664). -/
  wroteBefore : Option (List Nat)
  /-- The written formats in force, by structure (R664, R665). -/
  written : List Nat
  deriving DecidableEq, Repr, Inhabited

/-- Seal engine and compare-only unit (18). -/
structure SealPart where
  /-- XTS pipes (R671). -/
  xts : List (Option SealMsg)
  /-- CMAC pipes (R671). -/
  cmac : List (Option SealMsg)
  /-- Suspended messages (R677). -/
  slots : List SealMsg
  /-- Requests waiting for a pipe (R676). -/
  queue : List SealMsg
  /-- Finished, waiting for an earlier one of their queue (R674). -/
  finished : List SealMsg
  /-- Next submission number (R674). -/
  nextId : Nat
  /-- Next start order (R676). -/
  startOrd : Nat
  /-- Last E100 (R677). -/
  e100At : Option Nat
  /-- CMP_LANE (R683). -/
  cmpLane : BitVec 32
  /-- CMP_REF_LO (R683). -/
  cmpLo : BitVec 32
  /-- CMP_REF_HI (R683). -/
  cmpHi : BitVec 32
  /-- CMP_STATUS (R683). -/
  cmpStatus : BitVec 32
  /-- CMP_RESULT (R683). -/
  cmpResult : BitVec 32
  /-- Lane message serial when the compare started (R683). -/
  cmpSerial : Nat
  /-- 0 idle, 1 compare, 2 self-test (R684, R685). -/
  cmpBusy : Nat
  /-- SHA-256 lanes; LANE_HINT reset 0 (R680, R683). -/
  lanes : List LaneSt
  deriving DecidableEq, Repr, Inhabited

/-- The key vault (18). -/
structure KeysPart where
  /-- Seal header state: 0 EMPTY, 1 SEALED, 2 ERASED (R697). -/
  sealState : Nat
  /-- Seal header sequence (R697). -/
  sealSeq : Nat
  /-- Newer sealed copy (R697). -/
  newerCopy : Nat
  /-- Wax key's check value in the header (R697). -/
  waxCheck : Bytes
  /-- Class 0 (R686). -/
  pair : ClassKey
  /-- Class 1 (R686). -/
  colony : ClassKey
  /-- Class 2 (R686). -/
  mgmt : ClassKey
  /-- Class 3 metadata key (R686). -/
  metaK : Option Bytes
  /-- Class 4 vault root key (R686). -/
  root : Option Bytes
  /-- Class 5 wax key (R686). -/
  wax : Option Bytes
  /-- Class 6 domain key records (R689, R690). -/
  recs : List DomainKeys
  /-- Domains whose descriptors mark their keys erased (R698). -/
  erased : List Nat
  /-- Class 7 identity key d (R686, R696). -/
  identity : Option Nat
  /-- Class 8 exchange key (R686, R696). -/
  exchange : Option Nat
  /-- Class 9 key seal key (R686, R696). -/
  sealKey : Option Bytes
  /-- Owner public key of the owner record (R90, R697). -/
  owner : Option Bytes
  /-- Enrolment tick (R697). -/
  ownerTick : Nat
  /-- Wrap counter per wrapping secret (R692). -/
  wrapCtrs : List (Nat × Nat)
  /-- RESTORE is committed at the next start (R703). -/
  restoreDue : Bool
  /-- DRBG requests since the last reseed (R687). -/
  drbg : Nat
  deriving DecidableEq, Repr, Inhabited

/-- The state of the block: everything the spec gives it, the queue of waiting commands, and the
model's own record of what has been sent. -/
structure State where
  /-- Virkan: sessions, frames, settings and held replies (03). -/
  vk : VirkanPart
  /-- Mode, ingest buckets and the causes that hold new work (02, 03, 04). -/
  md : ModeStPart
  /-- Time and the commit tick (20). -/
  ck : ClockPart
  /-- Sentinel, supplies, sleep and propolis (18, 20, 21). -/
  pw : PowerPart
  /-- The sideband port (20). -/
  sb : SidebandPart
  /-- The event recorder (19). -/
  ev : RecorderPart
  /-- Counters (R734 to R741). -/
  ct : CountersPart
  /-- Wax rings and commit order (05). -/
  wx : WaxPart
  /-- DRAM (05). -/
  dr : DramPart
  /-- The map SRAM cache (05). -/
  mc : MapCachePart
  /-- Reduction: chunks, fingerprints, merges (04). -/
  rd : ReducePart
  /-- Domains, namespaces, snapshots and maps (07, 10). -/
  vo : VolumesPart
  /-- Stripes, rebuild and reshape (06). -/
  sp : StripesPart
  /-- Block sets, metadata and fold (07). -/
  me : MediaPart
  /-- Comb links, and the bridges behind them (08). -/
  cl : CombLinksPart
  /-- Hives and shelves (09). -/
  hv : Power2Part
  /-- NVMe front end (10). -/
  nv : FrontPart
  /-- Archive objects (11). -/
  ob : ObjectsPart
  /-- The Forage engine (12). -/
  fg : ForagePart
  /-- Replication (13). -/
  rp : ReplPart
  /-- The pair: leases, waggles, takeover, rejoin, rebalance (14). -/
  pr : PairPart
  /-- The colony: worker and queen (15). -/
  co : ColonyPart
  /-- Start, measurement and attestation (16). -/
  bt : BootPart
  /-- Field update (17). -/
  up : UpdPart
  /-- Seal engine and compare-only unit (18). -/
  se : SealPart
  /-- The key vault (18). -/
  ks : KeysPart
  /-- The tables as the newest flush that counts left them on brood flash (R263). -/
  fl : FlashMeta
  /-- A flush that does not count yet: the ordinal of its last STRIPE_COMMIT, and what it wrote (R263). -/
  flNext : Option (Nat × FlashMeta)
  /-- The tables as older flushes that counted left them, newest first, as long as their metadata stripes stand (R265). -/
  flOld : List FlashMeta
  /-- The model's own field: how many free values have been drawn (log 3). -/
  free : Nat
  /-- The model's own field: what has been sent, oldest first (log 4). -/
  out : List Out
  /-- The commands that wait, first in, first out. -/
  pending : List Instr
  deriving DecidableEq, Repr, Inhabited

/-- Forty-eight zero bytes in each of the eight tallies (R636). -/
def zeroTallies : List Bytes := List.replicate 8 (List.replicate 48 0)

/-- The XTS pipes, all idle. -/
def emptyPipes8 : List (Option SealMsg) := List.replicate 8 none

/-- The CMAC pipes, all idle. -/
def emptyPipes12 : List (Option SealMsg) := List.replicate 12 none

/-- The sixteen SHA-256 lanes, with no fingerprint held (R683: LANE_HINT resets to 0). -/
def emptyLanes : List LaneSt := List.replicate 16 ⟨List.replicate 32 0, 0⟩

/-- A die descriptor within the limits of R322 (DESIGN CHOICE, log 2). -/
def resetDesc : DieDesc :=
  { blocks := 5462, failed := false, peQlc := 3000, peSlc := 60000, refresh := 200
    maxima := [600, 8000, 60, 140, 15000, 100], factoryBad := [] }

/-- A die window with nothing accepted (DESIGN CHOICE, log 1). -/
def resetWindow : DieWindow := ⟨0, 0, 0, 0, 0⟩

/-- A die that has executed nothing. -/
def resetDie (i : Nat) : Die :=
  { index := i, desc := resetDesc, exec := none, susp := none, eraseRun := none
    winA := resetWindow, winB := resetWindow, refusedPort := none, favoured := none
    favUntil := 0, favBusy := .busyRead, idleSince := 0 }

/-- A bridge port with its link down. -/
def resetPort : BridgePort :=
  { up := false, txSeq := 0, rxSeq := 0, nakSent := false, unacked := [], waiting := [], tries := 0, crcErrors := 0, resends := 0
    retrains := 0, discardedData := 0, unknownFrames := 0 }

/-- The combs of hive 0, slots 0 to 5, each with two dies and never fenced (DESIGN CHOICE, log 2). -/
def resetBridge (slot : Nat) : Bridge :=
  { link := slot, powered := false, hive := 0, slot := slot, serial := slot + 1
    version := 0x00010000, epoch := 0, owner := 0xFFFF, failed := false, storeFault := false
    temp := 0, events := [], portA := resetPort, portB := resetPort
    dies := [resetDie 0, resetDie 1], pages := [] }

/-- The bridges of the minimal apiary (log 2). -/
def resetBridges : List Bridge := (List.range 6).map resetBridge

/-- A status block of a DARK shelf with both votes down and six slots populated (log 2). -/
def resetBlock : ShelfBlock :=
  { hive := 0, power := 0, voteA := false, voteB := false, populated := 0x003F, good := 0
    inputMv := 0, inputMa10 := 0, inputW := 0, inlet := 0, outlet := 0, fans := [0, 0, 0, 0]
    holdupMs := 0, holdupFlags := 0, alarms := 0, serial := 1, fw := 0, secs := 0 }

/-- The shelf of hive 0 (log 2). -/
def resetShelves : List Shelf :=
  [{ hive := 0, block := resetBlock, inputOk := true, lastA := none, lastB := none, stateAt := 0 }]

/-- Hive 0, a brood hive in service, as the head holds it before any shelf has answered (log 2). -/
def resetHives : List Hive :=
  [{ id := 0, brood := true, inService := true, owner := none, state := .dark, voteUp := false
     voteAt := 0, wanted := none, darkDecided := false, darkPoint := false, wakeNeedUntil := none
     rebuildNeed := false, foldNeed := false, reshapeNeed := false, houseNeed := false
     idleSince := 0, gather := [], waiters := [], dormancyTo := 0, block := none, lastReply := 0
     wakeFailedAt := none, warned15 := false, token := none, tokenGot := 0, tokenAsked := none
     tokenRefused := false, poweredAt := none, attach := 0 }]

/-- The four fabric pairs: the even port active, the odd port standby (R20). -/
def resetFabric : List FabricPair :=
  List.replicate 4
    { active := some 0, lastSwap := none
      even := { up := true, failed := false, eligible := false }
      odd := { up := true, failed := false, eligible := false } }

/-- A code flash bank that holds no image (log 2). -/
def resetBank : BankImg :=
  { magicOk := false, version := 0, security := 0, loaderOff := 0, loaderLen := 0, mainOff := 0
    mainLen := 0, loaderDigest := [], mainDigest := [], sig := [], header := [], data := [] }

/-- Reset values of VirkanPart. -/
def VirkanPart.reset : VirkanPart :=
  { sessions := []
    nextHandle := 1
    opened := 0
    frames := []
    nextFrame := 1
    held := []
    settings := []
    discarded := 0
    noticesLost := 0
    badCmac := 0
    mgConns := []
    attConns := []
    mgDropped := 0
    waitFrames := []
    peerFrames := [] }

/-- Reset values of ModeStPart. -/
def ModeStPart.reset : ModeStPart :=
  { mode := none
    auto := none
    wakeCheck := none
    wakePending := false
    recovery := false
    safe := false
    keyErased := false
    halted := false
    stopped := false
    bucket := 0
    bucketAt := 0
    landBucket := 0
    landHeld := false
    ringHeld := false
    ckptHeld := false
    pinHeld := false
    broodHeld := false
    cableLimit := false
    dormantSaid := false
    entering := none
    tideKept := 0
    drained := false
    gated := 0 }

/-- Reset values of ClockPart. -/
def ClockPart.reset : ClockPart :=
  { tick := 0
    now := 0
    tickEpoch := none
    epochLost := false
    align := 3
    lastSync := none
    offset := 0
    lastCtx5 := none
    alignSince := 0
    peerAlign := 3
    master := none
    rtc := 0
    rtcDiscAt := 0
    tickAdjust := 0 }

/-- Reset values of PowerPart. -/
def PowerPart.reset : PowerPart :=
  { aonOk := true
    suppliesOk := true
    xtalOk := true
    refOk := true
    inReset := false
    resetCause := 0
    startDue := true
    nextRecovery := false
    padsHeld := false
    waggleEnable := true
    sleep := none
    imprint := 0
    imprintTick := 0
    imprintBad := false
    wakeCause := 0
    tj := 0
    holdup := 0
    lastSample := 0
    alarm := 0
    alarmStands := 0
    alarmClearSince := none
    alarmAt := 0
    wdArmed := none
    wdSuspended := false
    waxStopped := false }

/-- Reset values of SidebandPart. -/
def SidebandPart.reset : SidebandPart :=
  { req := []
    reqWptr := 0
    reqRptr := 0
    reqOverrun := false
    queued := []
    rsp := []
    rspOf := none
    rspWptr := 0
    rspRptr := 0
    rtcHi := 0
    intEn := 0
    intStatus := 0
    mbxError := 0
    resetArm := none
    offset := 0
    lastStatus := 0
    dynAddr := none
    events := 1
    mwl := 0
    mrl := 0 }

/-- Reset values of RecorderPart. -/
def RecorderPart.reset : RecorderPart :=
  { nextSeq := 1
    ring := []
    fifo := []
    lane := []
    waiting := []
    buckets := []
    drops := [0,0,0,0,0,0]
    dropSince := none
    refusals := [0,0,0,0,0,0,0]
    refuseSince := none
    kept := []
    lastRetry := 0
    subLost := []
    ctlLost := [] }

/-- Reset values of CountersPart. -/
def CountersPart.reset : CountersPart :=
  { vals := [] }

/-- Reset values of WaxPart. -/
def WaxPart.reset : WaxPart :=
  { own := []
    tail := []
    shadow := []
    nextOrd := 1
    lastApplied := 0
    epoch := 0
    dataWp := 0
    commitWp := 0
    nextSlot := 0
    ckptAt := 0
    sinceCkpt := 0
    walkStart := 0
    journal := []
    shJournal := []
    jSeq := 1
    jWp := 0
    isNew := true
    replayed := false
    pads := []
    shPads := []
    replayEnd := 0
    tailTo := none
    peerTo := none
    later := []
    lost := false }

/-- Reset values of DramPart. -/
def DramPart.reset : DramPart :=
  { dimms := 1
    dimmGiB := 32
    peerGiB := none
    mts := 6400
    trained := false
    selfRefresh := false
    corrections := []
    uncorr := []
    scrubAt := 0
    mem := [] }

/-- Reset values of MapCachePart. -/
def MapCachePart.reset : MapCachePart :=
  { base := 0
    size := 0
    lines := []
    lfsr := 0xACE1 }

/-- Reset values of ReducePart. -/
def ReducePart.reset : ReducePart :=
  { chunks := []
    store := []
    fps := []
    filter := []
    filterBlocks := 1
    filterNew := none
    filterReady := false
    positives := 0
    falseAt := []
    deferred := []
    merges := []
    nextChunk := 1
    chunkClaim := 0
    e340Said := false
    cmpFaults := []
    cmpDefer := none
    landing := []
    ingested := []
    pendingMap := []
    built := []
    snapWait := []
    filterNewBlocks := 1 }

/-- Reset values of VolumesPart. -/
def VolumesPart.reset : VolumesPart :=
  { domains := []
    nss := []
    snaps := []
    pages := []
    nextKey := []
    drops := []
    ledger := []
    ledger90 := false }

/-- Reset values of StripesPart. -/
def StripesPart.reset : StripesPart :=
  { nextOrd := 1
    claim := 0
    table := []
    opens := []
    rebuilds := []
    reshapes := []
    retiring := []
    marked := []
    e430Said := false
    orphans := []
    fencedOut := []
    laneHive := []
    avoid := []
    givenUp := [] }

/-- Reset values of MediaPart. -/
def MediaPart.reset : MediaPart :=
  { sets := []
    rows := []
    writeSeq := 1
    seqClaim := 0
    root := none
    anchorSeq := 0
    anchorRows := 0
    anchors := []
    metaOpen := []
    dirty := false
    gcActive := []
    gcLow := []
    wearActive := []
    lastProg := []
    rereads := [] }

/-- Reset values of CombLinksPart. -/
def CombLinksPart.reset : CombLinksPart :=
  { links := []
    bridges := resetBridges
    peerSerials := [] }

/-- Reset values of Power2Part. -/
def Power2Part.reset : Power2Part :=
  { hives := resetHives
    shelves := resetShelves
    reqs := []
    pollNext := [0, 4]
    seq := 0 }

/-- Reset values of FrontPart. -/
def FrontPart.reset : FrontPart :=
  { conns := []
    ctrls := []
    ended := []
    cmds := []
    streams := []
    e801At := none
    apiarySerial := 0 }

/-- Reset values of ObjectsPart. -/
def ObjectsPart.reset : ObjectsPart :=
  { objs := []
    tokens := []
    nextKey := 1
    walks := [] }

/-- Reset values of ForagePart. -/
def ForagePart.reset : ForagePart :=
  { ctxs := []
    paths := []
    recent := []
    holding := []
    recentFull := false }

/-- Reset values of ReplPart. -/
def ReplPart.reset : ReplPart :=
  { groups := []
    replicas := []
    repairs := []
    detached := []
    asks := [] }

/-- Reset values of PairPart. -/
def PairPart.reset : PairPart :=
  { side := .a
    apiary := 0
    formerIds := []
    owners := []
    homes := []
    joined := false
    joinSince := none
    leaseEnd := 0
    lastGrant := 0
    peerMode := none
    peerDormant := false
    peerYielding := false
    peerDrained := false
    peerTideHive := none
    peerTrial := false
    gotPeer := false
    gotFabric := false
    gotLast := false
    missPeer := 0
    missFabric := 0
    lastWaggle := 0
    declared := false
    fencedOff := false
    yielding := false
    mirror := false
    fence := 0
    fenceFor := 0
    fenceAt := 0
    arbiter := 0
    arbPolls := none
    won := []
    lost := []
    fenceWait := []
    retryAt := none
    base := none
    ownChain := []
    ownCut := 0
    shChain := []
    shCut := 0
    echoTick := 0
    echoResult := 2
    mismatches := 0
    vaultDiff := 0
    lastMatch := 0
    matchCut := 0
    shMatchCut := 0
    phaseAt := []
    mismatchHold := false
    unresolved := false
    ownReport := none
    peerReport := none
    mismatchAt := 0
    vaultCount := 0
    peerShadow := 0
    rejoin := none
    handedOver := false
    rebalance := none
    fabric := resetFabric
    plUp := [false, false, false, false]
    drill := none
    lastTakeover := 0
    confirmedSolo := false
    peerWakeMode := none
    peerWoke := false
    fenceEpochs := []
    pollWait := false
    tookOver := false
    raiseLater := []
    peerFormats := none
    given := [] }

/-- Reset values of ColonyPart. -/
def ColonyPart.reset : ColonyPart :=
  { member := false
    queenHead := false
    queenAddr := []
    epoch := 0
    lastContact := none
    reachable := false
    autonomyDone := false
    autonomy := 0
    gateOpen := true
    settingsGen := 0
    joinWait := none
    apiaries := []
    reqNum := 0
    reqs := []
    tokens := []
    members := []
    catalogue := []
    qTokens := []
    qHeld := []
    nextToken := 1
    waves := 0
    rolling := false
    haltedRollout := false
    lagSince := none
    lagSaid := false
    vacated := none
    deposed := false
    arbiters := []
    lastReport := none }

/-- Reset values of BootPart. -/
def BootPart.reset : BootPart :=
  { step := 0
    startNum := 0
    ledger := []
    ledgerSeq := 0
    tallies := zeroTallies
    log := []
    executing := 0xFF
    banks := [resetBank, resetBank]
    fuses := []
    romVersion := 0
    fusedMin := 0
    serial := 0
    cert := []
    seed := []
    inService := false
    service14At := 0
    skippedJoin := false
    skippedColony := false
    plan := []
    attestKey := true }

/-- Reset values of UpdPart. -/
def UpdPart.reset : UpdPart :=
  { open_ := none
    trial := none
    lock := false
    version := 0
    fallbackDue := false
    inactive := []
    sector0 := []
    ended := false
    formats := ⟨firstFormats, firstFormats⟩
    confirmed := ⟨firstFormats, firstFormats⟩
    wroteBefore := none
    written := firstFormats }

/-- Reset values of SealPart. -/
def SealPart.reset : SealPart :=
  { xts := emptyPipes8
    cmac := emptyPipes12
    slots := []
    queue := []
    finished := []
    nextId := 0
    startOrd := 0
    e100At := none
    cmpLane := 0
    cmpLo := 0
    cmpHi := 0
    cmpStatus := 0
    cmpResult := 0
    cmpSerial := 0
    cmpBusy := 0
    lanes := emptyLanes }

/-- Reset values of KeysPart. -/
def KeysPart.reset : KeysPart :=
  { sealState := 0
    sealSeq := 0
    newerCopy := 0
    waxCheck := []
    pair := { prev := none, cur := none, pend := none, changedAt := 0 }
    colony := { prev := none, cur := none, pend := none, changedAt := 0 }
    mgmt := { prev := none, cur := none, pend := none, changedAt := 0 }
    metaK := none
    root := none
    wax := none
    recs := []
    erased := []
    identity := none
    exchange := none
    sealKey := none
    owner := none
    ownerTick := 0
    wrapCtrs := []
    restoreDue := false
    drbg := 0 }

/-- What brood flash holds at reset: nothing flushed. -/
def FlashMeta.reset : FlashMeta :=
  { covered := 0, peerCovered := 0, rd := ReducePart.reset, vo := VolumesPart.reset, sp := StripesPart.reset
    me := MediaPart.reset, ob := ObjectsPart.reset, rp := ReplPart.reset, co := ColonyPart.reset
    settings := [], frames := [], recs := [], erased := [], owners := [], homes := [], pages := [], peerFrames := [], tookOver := false }

/-- The machine right after reset: each field at the value the spec gives, else at the value a log
entry names. -/
def State.reset : State :=
  { vk := VirkanPart.reset
    md := ModeStPart.reset
    ck := ClockPart.reset
    pw := PowerPart.reset
    sb := SidebandPart.reset
    ev := RecorderPart.reset
    ct := CountersPart.reset
    wx := WaxPart.reset
    dr := DramPart.reset
    mc := MapCachePart.reset
    rd := ReducePart.reset
    vo := VolumesPart.reset
    sp := StripesPart.reset
    me := MediaPart.reset
    cl := CombLinksPart.reset
    hv := Power2Part.reset
    nv := FrontPart.reset
    ob := ObjectsPart.reset
    fg := ForagePart.reset
    rp := ReplPart.reset
    pr := PairPart.reset
    co := ColonyPart.reset
    bt := BootPart.reset
    up := UpdPart.reset
    se := SealPart.reset
    ks := KeysPart.reset
    fl := FlashMeta.reset
    flNext := none
    flOld := []
    free := 0
    out := []
    pending := [] }

/-- Change the part vk. -/
def State.vk' (s : State) (f : VirkanPart → VirkanPart) : State := { s with vk := f s.vk }

/-- Change the part md. -/
def State.md' (s : State) (f : ModeStPart → ModeStPart) : State := { s with md := f s.md }

/-- Change the part ck. -/
def State.ck' (s : State) (f : ClockPart → ClockPart) : State := { s with ck := f s.ck }

/-- Change the part pw. -/
def State.pw' (s : State) (f : PowerPart → PowerPart) : State := { s with pw := f s.pw }

/-- Change the part sb. -/
def State.sb' (s : State) (f : SidebandPart → SidebandPart) : State := { s with sb := f s.sb }

/-- Change the part ev. -/
def State.ev' (s : State) (f : RecorderPart → RecorderPart) : State := { s with ev := f s.ev }

/-- Change the part ct. -/
def State.ct' (s : State) (f : CountersPart → CountersPart) : State := { s with ct := f s.ct }

/-- Change the part wx. -/
def State.wx' (s : State) (f : WaxPart → WaxPart) : State := { s with wx := f s.wx }

/-- Change the part dr. -/
def State.dr' (s : State) (f : DramPart → DramPart) : State := { s with dr := f s.dr }

/-- Change the part mc. -/
def State.mc' (s : State) (f : MapCachePart → MapCachePart) : State := { s with mc := f s.mc }

/-- Change the part rd. -/
def State.rd' (s : State) (f : ReducePart → ReducePart) : State := { s with rd := f s.rd }

/-- Change the part vo. -/
def State.vo' (s : State) (f : VolumesPart → VolumesPart) : State := { s with vo := f s.vo }

/-- Change the part sp. -/
def State.sp' (s : State) (f : StripesPart → StripesPart) : State := { s with sp := f s.sp }

/-- Change the part me. -/
def State.me' (s : State) (f : MediaPart → MediaPart) : State := { s with me := f s.me }

/-- Change the part cl. -/
def State.cl' (s : State) (f : CombLinksPart → CombLinksPart) : State := { s with cl := f s.cl }

/-- Change the part hv. -/
def State.hv' (s : State) (f : Power2Part → Power2Part) : State := { s with hv := f s.hv }

/-- Change the part nv. -/
def State.nv' (s : State) (f : FrontPart → FrontPart) : State := { s with nv := f s.nv }

/-- Change the part ob. -/
def State.ob' (s : State) (f : ObjectsPart → ObjectsPart) : State := { s with ob := f s.ob }

/-- Change the part fg. -/
def State.fg' (s : State) (f : ForagePart → ForagePart) : State := { s with fg := f s.fg }

/-- Change the part rp. -/
def State.rp' (s : State) (f : ReplPart → ReplPart) : State := { s with rp := f s.rp }

/-- Change the part pr. -/
def State.pr' (s : State) (f : PairPart → PairPart) : State := { s with pr := f s.pr }

/-- Change the part co. -/
def State.co' (s : State) (f : ColonyPart → ColonyPart) : State := { s with co := f s.co }

/-- Change the part bt. -/
def State.bt' (s : State) (f : BootPart → BootPart) : State := { s with bt := f s.bt }

/-- Change the part up. -/
def State.up' (s : State) (f : UpdPart → UpdPart) : State := { s with up := f s.up }

/-- Change the part se. -/
def State.se' (s : State) (f : SealPart → SealPart) : State := { s with se := f s.se }

/-- Change the part ks. -/
def State.ks' (s : State) (f : KeysPart → KeysPart) : State := { s with ks := f s.ks }

/-- Append to the record of what has been sent. -/
def State.send (s : State) (o : Out) : State := { s with out := s.out ++ [o] }

end Sys2Proof.Machine
end

