-- ==== Sys2Proof/Machine/Tables.lean ====
section
/-! DEFINITION. The tables of the spec: counter classes (R736) and settings (R98 and the chapters' settings tables). -/

namespace Sys2Proof.Machine

/-- What a counter class is counted per (R737). -/
inductive PerKind where
  | lane | domain | ring | region | channel | purpose | link | hive | nspace | opcode | tier | die | bus | controller | connection | head | carrier | context | path | wpath | port | group | pair | apiary | resetCause | step | transport | bank | sealOp | sealClass | digestMode | laneKind | cause | severity | code | session | alignState | direction
  deriving DecidableEq, Repr

/-- A counter class: its number, whether it is a fault counter, how many values, what it is counted per. -/
structure CtrClass where
  /-- Class number (R736). -/
  cls : Nat
  /-- Fault counter of 32 bits, else statistic of 64 (R734). -/
  fault : Bool
  /-- Values of the row (R736). -/
  count : Nat
  /-- Index kinds, first in [15:0] (R737). -/
  per : List PerKind
  deriving DecidableEq, Repr

/-- Counter classes, part 1. -/
def ctrClasses1 : List CtrClass :=
  [ ⟨0x0301, false, 1, [.lane]⟩,  -- Chunks cut, per lane
    ⟨0x0302, false, 1, [.domain]⟩,  -- Bytes chunked, per domain
    ⟨0x0303, false, 1, [.domain]⟩,  -- Duplicates found inline, per domain
    ⟨0x0304, false, 1, [.domain]⟩,  -- Duplicates found by post-process, per domain
    ⟨0x0305, false, 1, [.domain]⟩,  -- Chunks deferred, per domain
    ⟨0x0306, false, 1, [.domain]⟩,  -- Bytes stored after reduction, per domain
    ⟨0x0307, false, 2, []⟩,  -- Filter positives; filter false positives
    ⟨0x0308, true, 1, []⟩,  -- Compare-only unit faults
    ⟨0x0309, true, 1, []⟩,  -- Unreadable envelopes
    ⟨0x030A, true, 1, []⟩,  -- Frame bound faults
    ⟨0x0201, false, 1, [.ring]⟩,  -- Records written, per ring
    ⟨0x0202, false, 1, [.region]⟩,  -- Bytes written, per wax region
    ⟨0x0203, false, 1, []⟩,  -- Checkpoints written
    ⟨0x0204, false, 1, [.ring]⟩,  -- Time holding new work, per ring, in µs
    ⟨0x0205, true, 2, []⟩,  -- Wax lines corrected; wax lines failed
    ⟨0x0206, true, 1, [.channel]⟩,  -- DRAM corrections, per channel
    ⟨0x0207, true, 1, [.channel]⟩,  -- DRAM uncorrectable errors, per channel
    ⟨0x0208, false, 3, []⟩,  -- Map cache hits; misses; ZERO_LINE requests
    ⟨0x0209, true, 1, []⟩,  -- Map cache lines invalidated by ECC
    ⟨0x0401, false, 1, [.purpose]⟩]  -- Stripes committed, per purpose

/-- Counter classes, part 2. -/
def ctrClasses2 : List CtrClass :=
  [ ⟨0x0402, false, 1, []⟩,  -- Stripes abandoned
    ⟨0x0403, false, 1, []⟩,  -- Filler bytes programmed
    ⟨0x0404, false, 2, []⟩,  -- Degraded reads; page positions reconstructed
    ⟨0x0405, false, 2, []⟩,  -- Units rebuilt; stripes rewritten by rebuild
    ⟨0x0406, false, 1, []⟩,  -- Reshape stripes converted
    ⟨0x0407, true, 1, [.link]⟩,  -- Read timeouts, per comb
    ⟨0x0408, true, 1, [.link]⟩,  -- Program failures, per comb
    ⟨0x0409, true, 1, []⟩,  -- Chunks recorded DATA_LOST
    ⟨0x0501, false, 1, [.hive]⟩,  -- Bytes folded, per honey hive
    ⟨0x0502, false, 1, [.hive]⟩,  -- Bytes moved by garbage collection, per hive
    ⟨0x0503, false, 1, [.link]⟩,  -- Bytes moved by wear levelling, per comb
    ⟨0x0504, false, 1, [.link]⟩,  -- Erases, per comb
    ⟨0x0505, false, 1, []⟩,  -- Metadata pages written
    ⟨0x0506, false, 1, [.nspace]⟩,  -- HINT deallocates dropped, per namespace
    ⟨0x0507, false, 1, []⟩,  -- Time holding new work for brood space, in µs
    ⟨0x0508, false, 1, []⟩,  -- Ledger entries in use
    ⟨0x0509, true, 1, [.link]⟩,  -- Block sets retired, per comb
    ⟨0x050A, true, 1, [.link]⟩,  -- Read-back failures, per comb
    ⟨0x0601, false, 2, [.link]⟩,  -- Frames sent; frames received, per link
    ⟨0x0602, false, 1, [.opcode, .link]⟩]  -- Tasks, per opcode, per link

/-- Counter classes, part 3. -/
def ctrClasses3 : List CtrClass :=
  [ ⟨0x0603, false, 2, [.link]⟩,  -- Busy refusals; fenced refusals, per link
    ⟨0x0604, false, 1, [.tier, .die]⟩,  -- Pages read, per tier, per die
    ⟨0x0605, false, 1, [.die]⟩,  -- Marginal pages, per die
    ⟨0x0606, true, 3, [.link]⟩,  -- CRC errors; resends; NAKs, per link
    ⟨0x0607, true, 2, [.link]⟩,  -- Retrains; links down, per link
    ⟨0x0608, true, 1, [.die]⟩,  -- Uncorrectable pages, per die
    ⟨0x0609, true, 1, [.die]⟩,  -- Failed tasks, per die
    ⟨0x0701, false, 2, [.hive]⟩,  -- Wakes; darks, per hive
    ⟨0x0702, false, 1, [.hive]⟩,  -- Time awake, per hive, in s
    ⟨0x0703, false, 1, [.hive]⟩,  -- Shelf energy, per hive, in J, from the polled input power
    ⟨0x0704, false, 4, [.hive]⟩,  -- Gather entries added; served; ended WOULD_WAIT; ended NO_TOKEN, per hive
    ⟨0x0705, false, 3, []⟩,  -- Token requests; refusals; recalls
    ⟨0x0706, true, 2, [.bus]⟩,  -- Bus CRC errors; unanswered requests, per bus
    ⟨0x0707, true, 2, [.hive]⟩,  -- Failed wakes; unplanned power losses, per hive
    ⟨0x0801, false, 1, [.opcode, .controller]⟩,  -- Commands, per opcode, per controller
    ⟨0x0802, false, 2, [.nspace]⟩,  -- Bytes read; bytes written, per namespace
    ⟨0x0803, false, 1, [.controller]⟩,  -- Time held before acceptance, per controller, in µs
    ⟨0x0804, false, 3, [.nspace]⟩,  -- Reads ended WOULD_WAIT; NO_TOKEN; GATHER_FULL, per namespace
    ⟨0x0805, false, 2, []⟩,  -- Connections opened; connections refused
    ⟨0x0806, true, 2, [.connection]⟩]  -- Header digest errors; data digest errors, per connection

/-- Counter classes, part 4. -/
def ctrClasses4 : List CtrClass :=
  [ ⟨0x0807, true, 1, []⟩,  -- Fatal transport errors
    ⟨0x0808, true, 1, []⟩,  -- Streams broken
    ⟨0x1801, false, 4, [.domain]⟩,  -- Puts; parts; repeats; token conflicts, per domain
    ⟨0x1802, false, 2, [.domain]⟩,  -- Objects LIVE; objects RELEASED, per domain
    ⟨0x1803, false, 3, [.domain]⟩,  -- Gets; gets relocated; stale locators, per domain
    ⟨0x1804, false, 2, [.domain]⟩,  -- Refreshes; ledger entries dropped by refresh, per domain
    ⟨0x1805, false, 1, [.head]⟩,  -- OPEN objects, per head
    ⟨0x1806, true, 1, []⟩,  -- Locator tag failures
    ⟨0x1807, true, 1, []⟩,  -- OPEN objects expired
    ⟨0x0901, false, 2, [.carrier]⟩,  -- Packets sent; packets received, per carrier
    ⟨0x0902, false, 2, [.context]⟩,  -- Bytes placed; messages made visible, per context
    ⟨0x0903, false, 1, [.path]⟩,  -- Retransmitted packets, per path
    ⟨0x0904, false, 1, []⟩,  -- Duplicates re-acknowledged
    ⟨0x0905, false, 2, []⟩,  -- Context fetches; evictions
    ⟨0x0906, false, 1, [.context]⟩,  -- Holding buffer drops, per context
    ⟨0x0907, false, 1, [.path]⟩,  -- Window decreases, per path
    ⟨0x0908, true, 1, [.port]⟩,  -- Strangers dropped, per port
    ⟨0x0909, true, 1, []⟩,  -- Malformed and LENGTH drops
    ⟨0x090A, true, 1, []⟩,  -- Stale drops
    ⟨0x090B, true, 1, []⟩]  -- Remote-access faults

/-- Counter classes, part 5. -/
def ctrClasses5 : List CtrClass :=
  [ ⟨0x090C, true, 2, []⟩,  -- Connections broken; contexts failed
    ⟨0x0A01, false, 2, [.group]⟩,  -- Fingerprints offered; chunks needed, per group
    ⟨0x0A02, false, 2, [.group]⟩,  -- Bytes shipped; batches applied, per group
    ⟨0x0A03, false, 1, [.group]⟩,  -- Entries discarded as already applied, per group
    ⟨0x0A04, false, 2, []⟩,  -- Repairs asked; repairs made
    ⟨0x0A05, true, 2, [.group]⟩,  -- Chunk check failures; lapses, per group
    ⟨0x0B01, false, 2, [.wpath]⟩,  -- Waggles sent; waggles received, per path
    ⟨0x0B02, false, 2, []⟩,  -- Grants made; grants received
    ⟨0x0B03, false, 2, []⟩,  -- Ticks compared; ticks matched
    ⟨0x0B04, false, 2, []⟩,  -- Rebalances completed; bytes of pages copied
    ⟨0x0B05, false, 2, [.pair]⟩,  -- Fabric failovers, per pair; drills, per pair
    ⟨0x0B06, true, 1, [.wpath]⟩,  -- Waggle paths lost, per path
    ⟨0x0B07, true, 1, []⟩,  -- Tick digest mismatches
    ⟨0x0B08, true, 3, []⟩,  -- Takeovers; yields; rebalances abandoned
    ⟨0x0B09, true, 2, [.pair]⟩,  -- Drills failed, per pair; peer cables lost
    ⟨0x0C01, false, 4, [.apiary]⟩,  -- Token requests; grants; refusals; recalls, per apiary
    ⟨0x0C02, false, 1, []⟩,  -- Time above budget, in ms
    ⟨0x0C03, false, 2, [.head]⟩,  -- CONTACT messages sent; received, per head
    ⟨0x0C04, true, 2, []⟩,  -- Queen assignments; rollouts halted
    ⟨0x0D01, false, 1, [.resetCause]⟩]  -- Starts, per reset cause

/-- Counter classes, part 6. -/
def ctrClasses6 : List CtrClass :=
  [ ⟨0x0D02, true, 2, []⟩,  -- Safe starts; recovery starts
    ⟨0x0D03, true, 1, [.step]⟩,  -- Step failures, per step
    ⟨0x0D04, false, 1, [.transport]⟩,  -- Attestations served, per transport
    ⟨0x0D05, true, 1, []⟩,  -- Executing-bank refusals
    ⟨0x0E01, false, 2, []⟩,  -- Blocks received; blocks refused
    ⟨0x0E02, false, 1, [.bank]⟩,  -- Bytes programmed to code flash, per bank
    ⟨0x0E03, false, 1, [.bank]⟩,  -- Sectors erased, per bank
    ⟨0x0E04, true, 2, []⟩,  -- Updates activated; updates confirmed
    ⟨0x0E05, true, 2, []⟩,  -- Verify failures; fallbacks
    ⟨0x0101, false, 1, [.sealOp, .sealClass]⟩,  -- Messages, per op, per class
    ⟨0x0102, false, 1, [.sealOp]⟩,  -- Bytes, per op
    ⟨0x0103, false, 2, []⟩,  -- Suspensions; urgent resumptions
    ⟨0x0104, false, 1, []⟩,  -- Time requests waited for a slot, in µs
    ⟨0x0105, false, 1, [.digestMode, .laneKind]⟩,  -- Digests, per mode, per lane kind
    ⟨0x0106, false, 2, []⟩,  -- Compares; matches
    ⟨0x0107, false, 2, []⟩,  -- Domain record fetches; evictions
    ⟨0x0108, true, 1, []⟩,  -- CMAC verify failures
    ⟨0x0109, true, 1, []⟩,  -- Compare faults
    ⟨0x010A, true, 1, []⟩,  -- Wrapped record failures
    ⟨0x010B, true, 1, [.cause]⟩]  -- Propolis alarms, per cause

/-- Counter classes, part 7. -/
def ctrClasses7 : List CtrClass :=
  [ ⟨0x0001, false, 1, [.severity]⟩,  -- Records written, per severity
    ⟨0x0002, false, 1, [.severity]⟩,  -- Reports filtered, per severity
    ⟨0x0003, false, 1, [.code]⟩,  -- Reports suppressed, per code
    ⟨0x0004, false, 1, [.severity]⟩,  -- Intake drops, per severity
    ⟨0x0005, false, 1, [.severity]⟩,  -- Ring refusals, per severity
    ⟨0x0006, false, 2, [.session]⟩,  -- Notices sent; notices lost, per session
    ⟨0x0007, false, 1, [.controller]⟩,  -- Records lost to controller queues, per controller
    ⟨0x0008, false, 1, []⟩,  -- Time that raisers waited for the reserved lane, in µs
    ⟨0x0F01, false, 2, []⟩,  -- Entries to Hold; entries to Watch
    ⟨0x0F02, false, 1, [.cause]⟩,  -- Wakes, per cause
    ⟨0x0F03, false, 1, []⟩,  -- Watch samples
    ⟨0x0F04, false, 1, [.alignState]⟩,  -- Time per alignment state, in ms
    ⟨0x0F05, false, 1, []⟩,  -- Tick adjustments, in peripheral clock periods
    ⟨0x0F06, false, 1, [.direction]⟩,  -- Mailbox packets, per direction
    ⟨0x0F07, true, 2, []⟩,  -- Watchdog expiries; imprint failures
    ⟨0x0F08, true, 1, [.cause]⟩]  -- Mailbox faults, per cause

/-- Every counter class of the counter tables (R736). -/
def ctrClasses : List CtrClass :=
  ctrClasses1 ++ ctrClasses2 ++ ctrClasses3 ++ ctrClasses4 ++ ctrClasses5 ++ ctrClasses6 ++ ctrClasses7

/-- A row of a settings table: an ID and its strides, the type, the legal ranges and the default. -/
structure SettingRow where
  /-- ID of the first setting of the row. -/
  base : Nat
  /-- Strides: step and how many. -/
  strides : List (Nat × Nat)
  /-- Bytes of the type; 0 for a variable length (R814). -/
  size : Nat
  /-- A signed type. -/
  signed : Bool
  /-- Legal ranges of the value; none means every value. -/
  ranges : List (Int × Int)
  /-- The default. -/
  dflt : Int
  /-- Lengths a variable value may have (R814). -/
  lens : Nat × Nat
  deriving DecidableEq, Repr

/-- Settings rows, part 1. -/
def settingRows1 : List SettingRow :=
  [ ⟨0x02000001, [], 1, false, [(1, 12)], 0, (0, 0)⟩,  -- HEAD_MODE
    ⟨0x02000002, [], 1, false, [(0, 7)], 0, (0, 0)⟩,  -- TIDE_BROOD_HIVE
    ⟨0x02000003, [], 1, false, [(1, 2), (9, 10)], 1, (0, 0)⟩,  -- WAKE_MODE
    ⟨0x02000004, [], 4, false, [(1, 3600)], 10, (0, 0)⟩,  -- WATCH_INTERVAL, s
    ⟨0x02000005, [], 4, false, [(60, 3600)], 600, (0, 0)⟩,  -- FRAME_IDLE_LIMIT, s
    ⟨0x02000006, [], 1, true, [(0, 110)], 95, (0, 0)⟩,  -- WATCH_TJ_HIGH
    ⟨0x02000007, [], 1, true, [(-40, 20)], -35, (0, 0)⟩,  -- WATCH_TJ_LOW
    ⟨0x02000008, [], 2, false, [(0, 1000)], 0, (0, 0)⟩,  -- WATCH_HOLDUP_MIN, ms
    ⟨0x02000009, [], 1, false, [(0, 127)], 0, (0, 0)⟩,  -- PTP_DOMAIN
    ⟨0x0200000A, [], 2, false, [(100, 10000)], 1000, (0, 0)⟩,  -- WATCHDOG_PERIOD, ms
    ⟨0x03000001, [(0x100, 65536)], 1, false, [(0, 1)], 1, (0, 0)⟩,  -- DEDUP
    ⟨0x03000002, [(0x100, 65536)], 1, false, [(0, 1)], 1, (0, 0)⟩,  -- COMPRESSION
    ⟨0x03000003, [(0x100, 65536)], 4, false, [(0, 86400)], 30, (0, 0)⟩,  -- READ_PATIENCE, s
    ⟨0x03000010, [(0x100, 65536), (0x1, 64)], 0, false, [], 0, (0, 223)⟩,  -- HOST_ACCESS
    ⟨0x04000001, [], 2, false, [(250, 2000)], 2000, (0, 0)⟩,  -- STRIPE_CLOSE_TIME, us
    ⟨0x04000002, [], 1, false, [(5, 90)], 30, (0, 0)⟩,  -- REBUILD_SHARE, %
    ⟨0x04000003, [], 1, false, [(0, 50)], 8, (0, 0)⟩,  -- MEND_INGEST_LIMIT, GB/s
    ⟨0x04000004, [], 1, false, [(5, 90)], 25, (0, 0)⟩,  -- RESHAPE_SHARE, %
    ⟨0x04010000, [(0x1, 8)], 1, false, [(0, 0), (6, 16)], 0, (0, 0)⟩,  -- STRIPE_WIDTH
    ⟨0x04000010, [], 1, false, [(10, 90)], 25, (0, 0)⟩]  -- BROOD_SLC_RESERVE, %

/-- Settings rows, part 2. -/
def settingRows2 : List SettingRow :=
  [ ⟨0x04000011, [], 1, false, [(2, 20)], 5, (0, 0)⟩,  -- BROOD_HOLD, %
    ⟨0x04000012, [], 1, false, [(5, 50)], 10, (0, 0)⟩,  -- GC_START, %
    ⟨0x04000013, [], 1, false, [(6, 60)], 15, (0, 0)⟩,  -- GC_STOP, %
    ⟨0x04000014, [], 2, false, [(100, 2000)], 400, (0, 0)⟩,  -- WEAR_SPREAD
    ⟨0x04000015, [], 2, false, [(1, 3650)], 365, (0, 0)⟩,  -- LEDGER_LIFETIME, days
    ⟨0x04020000, [(0x1, 128)], 1, false, [(0, 1)], 0, (0, 0)⟩,  -- LINK_RATE
    ⟨0x04000020, [], 4, false, [(10, 86400)], 120, (0, 0)⟩,  -- HIVE_IDLE_DARK, s
    ⟨0x04000021, [], 2, false, [(15, 600)], 20, (0, 0)⟩,  -- WAKE_LEAD, s
    ⟨0x04000022, [], 2, false, [(1, 65535)], 1024, (0, 0)⟩,  -- GATHER_WAKE_COUNT
    ⟨0x04000023, [], 2, false, [(1, 1024)], 16, (0, 0)⟩,  -- GATHER_WAKE_BYTES, GiB
    ⟨0x04000024, [], 1, false, [(0, 8)], 8, (0, 0)⟩,  -- HONEY_AWAKE_LIMIT
    ⟨0x04000025, [], 2, false, [(10, 1000)], 20, (0, 0)⟩,  -- HIVE_HOLDUP_MIN, ms
    ⟨0x05000101, [], 2, false, [(1024, 65535)], 28610, (0, 0)⟩,  -- FORAGE_UDP_PORT
    ⟨0x05000102, [], 2, false, [(1024, 1024), (4096, 4096), (8192, 8192)], 8192, (0, 0)⟩,  -- FORAGE_PAYLOAD
    ⟨0x05000103, [], 1, false, [(0, 63)], 26, (0, 0)⟩,  -- FORAGE_DSCP
    ⟨0x07000001, [(0x100, 1024)], 1, false, [(0, 1)], 0, (0, 0)⟩,  -- REPL_MODE
    ⟨0x07000002, [(0x100, 1024)], 2, false, [(1, 10000)], 10, (0, 0)⟩,  -- REPL_BATCH_TIME, ms
    ⟨0x07000003, [(0x100, 1024)], 1, false, [(1, 64)], 8, (0, 0)⟩,  -- REPL_BATCHES_IN_FLIGHT
    ⟨0x07000004, [(0x100, 1024)], 2, false, [(1, 4096)], 64, (0, 0)⟩,  -- REPL_LOG_LIMIT, GiB
    ⟨0x05000001, [], 2, false, [(5, 3600)], 60, (0, 0)⟩]  -- PAIR_JOIN_WAIT, s

/-- Settings rows, part 3. -/
def settingRows3 : List SettingRow :=
  [ ⟨0x05000002, [], 2, false, [(0, 600)], 5, (0, 0)⟩,  -- PEER_ISOLATION_YIELD, s
    ⟨0x05000003, [], 2, false, [(16, 1024)], 64, (0, 0)⟩,  -- REBALANCE_FINAL, MiB
    ⟨0x05000004, [], 2, false, [(1, 60)], 10, (0, 0)⟩,  -- REBALANCE_HOLD_LIMIT, s
    ⟨0x06000001, [], 4, false, [(0, 0), (1000, 10000000)], 0, (0, 0)⟩,  -- COLONY_POWER_BUDGET, W
    ⟨0x06000002, [], 4, false, [(60, 86400)], 3600, (0, 0)⟩,  -- TOKEN_LIFE, s
    ⟨0x06000003, [], 2, false, [(100, 10000)], 1500, (0, 0)⟩,  -- HIVE_DEFAULT_COST, W
    ⟨0x06000004, [], 4, false, [(0, 4294967295)], 0, (0, 0)⟩,  -- ROLLOUT_VERSION
    ⟨0x06000005, [], 4, false, [(0, 2592000)], 86400, (0, 0)⟩,  -- ROLLOUT_SOAK, s
    ⟨0x06000010, [(0x1, 128)], 1, false, [(0, 8)], 1, (0, 0)⟩,  -- AUTONOMY_HIVES
    ⟨0x06000100, [(0x1, 16)], 16, false, [], 0, (0, 0)⟩,  -- ROLLOUT_WAVE
    ⟨0x0A000001, [], 2, false, [(10, 1000)], 50, (0, 0)⟩,  -- UPD_HOLDUP_MIN, ms
    ⟨0x09000001, [], 1, false, [(0, 5)], 1, (0, 0)⟩,  -- EVT_RECORD_MIN
    ⟨0x09010000, [(0x1, 4096)], 2, false, [(0, 1000)], 8, (0, 0)⟩,  -- EVT_RATE
    ⟨0x09020000, [(0x1, 4096)], 2, false, [(1, 1024)], 32, (0, 0)⟩]  -- EVT_BURST

/-- Every setting of the chapters' settings tables. -/
def settingRows : List SettingRow :=
  settingRows1 ++ settingRows2 ++ settingRows3

/-- Whether an ID is of a row. -/
def SettingRow.has (r : SettingRow) (id : Nat) : Bool :=
  match r.strides with
  | [] => id == r.base
  | [(k, n)] => r.base ≤ id && (id - r.base) % k == 0 && (id - r.base) / k < n
  | (k, n) :: (k2, n2) :: _ =>
    r.base ≤ id && (id - r.base) / k < n && (id - r.base) % k % k2 == 0 && (id - r.base) % k / k2 < n2

/-- The row of a setting ID (R98, R814). -/
def settingRow (id : Nat) : Option SettingRow := settingRows.find? (·.has id)

/-- The number a value of a row stands for. -/
def SettingRow.value (r : SettingRow) (v : Bytes) : Int :=
  if r.signed then (BitVec.ofNat (8 * r.size) (rdLe v)).toInt else (rdLe v : Int)

/-- Whether a value is of the row's length and range (R814). -/
def SettingRow.legal (r : SettingRow) (v : Bytes) : Bool :=
  if r.size = 0 then r.lens.1 ≤ v.length && v.length ≤ r.lens.2
  else v.length == r.size &&
    (r.ranges.isEmpty || r.ranges.any fun g => g.1 ≤ r.value v && r.value v ≤ g.2)

/-- The default value of a row, as bytes. -/
def SettingRow.dfltBytes (r : SettingRow) : Bytes :=
  if r.size = 0 then [] else le r.size (BitVec.ofInt (8 * r.size) r.dflt).toNat

end Sys2Proof.Machine
end

