-- ==== Sys2Proof/Machine/Ops.lean ====
section
/-! DEFINITION. The named operations every family shares: settings, free values, counters (R734 to R741) and the
event recorder's stages (R711 to R727). -/

namespace Sys2Proof.Machine

/-! ## Settings -/

/-- The value of a setting as bytes: the one in force, else its default (R98). -/
def State.settingBytes (s : State) (id : Nat) : Bytes :=
  match s.vk.settings.find? (·.1 == id) with
  | some e => e.2
  | none => match settingRow id with
    | some r => r.dfltBytes
    | none => []

/-- The value of an unsigned setting. -/
def State.setting (s : State) (id : Nat) : Nat := rdLe (s.settingBytes id)

/-- The value of a signed setting (WATCH_TJ_HIGH, WATCH_TJ_LOW). -/
def State.settingInt (s : State) (id : Nat) : Int :=
  match settingRow id with
  | some r => r.value (s.settingBytes id)
  | none => 0

/-! ## This head's names -/

/-- This head's ID (R8). -/
def State.headId (s : State) : Nat := s.pr.apiary * 2 + sideN s.pr.side

/-- The peer's head ID (R8). -/
def State.peerId (s : State) : Nat := s.pr.apiary * 2 + sideN (otherSide s.pr.side)

/-- The head ID the combs know this side by: apiary ID × 2 + side (R8). -/
def State.sideHead (s : State) (d : Side) : Nat := s.pr.apiary * 2 + sideN d

/-- The fabric addresses of this apiary: of each head's four pairs the IPv4 and the IPv6 address (R389, R590, log 40). -/
def ownAddrs : List Bytes := (List.range 16).map fun i => fit 16 (Config.fabricAddr i)

/-- A head ID that this head holds or held: what was written under a former ID is its own (R601). -/
def State.isMine (s : State) (id : Nat) : Bool :=
  id == s.headId || (s.pr.formerIds.contains id && id % 2 == sideN s.pr.side)

/-! ## Free values -/

/-- Draw `n` free bytes (log 3). -/
def State.drawn (s : State) (n : Nat) : Bytes := (List.range n).map (Config.freeByte s.free)

/-- Draw a free number (log 3). -/
def State.drawnNat (s : State) : Nat := Config.freeNat s.free

/-- The state after one free value has been drawn. -/
def State.afterDraw (s : State) : State := { s with free := s.free + 1 }

/-! ## Counters -/

/-- The class table's entry (R736). -/
def ctrClass (cls : Nat) : Option CtrClass := ctrClasses.find? (·.cls == cls)

/-- The limit of a counter of a class (R734). -/
def ctrLimit (cls : Nat) : Nat :=
  match ctrClass cls with
  | some c => if c.fault then 0xFFFFFFFF else 0xFFFFFFFFFFFFFFFF
  | none => 0xFFFFFFFFFFFFFFFF

/-- Whether a class holds fault counters (R734). -/
def ctrFault (cls : Nat) : Bool := ((ctrClass cls).map (·.fault)).getD false

/-- A counter's entry; one that is 0 and armed is not listed. -/
def ctrGet (l : List CtrVal) (cls idx pos : Nat) : CtrVal :=
  (l.find? fun c => c.cls == cls && c.idx == idx && c.pos == pos).getD ⟨cls, idx, pos, 0, false, true⟩

/-- A counter after an increment of `n`: past its limit it stays at the limit with SAT (R734). -/
def CtrVal.add (c : CtrVal) (n : Nat) : CtrVal :=
  if c.sat then c
  else if c.val + n > ctrLimit c.cls then { c with val := ctrLimit c.cls, sat := true }
  else { c with val := c.val + n }

/-- Put a counter's entry in the list, in place of its former one. -/
def ctrPut (l : List CtrVal) (c : CtrVal) : List CtrVal :=
  l.filter (fun d => !(d.cls == c.cls && d.idx == c.idx && d.pos == c.pos)) ++ [c]

/-- Add to a statistic counter (R734). -/
def State.stat (s : State) (cls idx pos n : Nat) : State :=
  s.ct' fun t => { t with vals := ctrPut t.vals ((ctrGet t.vals cls idx pos).add n) }

/-! ## Reports -/

/-- The source block of a code (R714), by the chapter that defines the code (DEDUCED, log 5). -/
def srcOf (code : Nat) : Nat :=
  match code / 256 with
  | 0 => if code < 0x20 then 0x00 else 0x01
  | 1 => if code < 0x110 then 0x08 else if code < 0x120 then 0x06 else 0x0F
  | 2 => if code < 0x240 then 0x0D else if code < 0x250 then 0x0C else 0x0B
  | 3 => if code = 0x320 then 0x06 else if code = 0x350 then 0x07 else 0x01
  | 6 => 0x0A
  | 8 => if code < 0x810 then 0x02 else 0x01
  | 9 => 0x03
  | 13 => if code = 0xD06 then 0x0E else 0x01
  | 15 => 0x11
  | _ => 0x01

/-- This head's time is aligned (R752). -/
def State.isAligned (s : State) : Bool := s.ck.align == 0 || (s.ck.align == 1 && s.ck.peerAlign == 0)

/-- The time a report carries: TAI, or the RTC while PTP alignment is lost (R713, R752). -/
def State.stamp (s : State) : Nat := if s.isAligned then s.ck.now else s.ck.rtc

/-- The bucket of a code: full when not listed (R717). -/
def bucketOf (l : List Bucket) (code burst now : Nat) : Bucket :=
  (l.find? (·.code == code)).getD ⟨code, burst, now, none, 0, .trace, 0, 0⟩

/-- Put a bucket in the list. -/
def bucketPut (l : List Bucket) (b : Bucket) : List Bucket := l.filter (!·.code == b.code) ++ [b]

/-- E001 to E003, which no stage counts against (R711, R720). -/
def isSummary (code : Nat) : Bool := code == 1 || code == 2 || code == 3

/-- The lowest severity among entries that may be dropped (R720). -/
def lowestSev (l : List Report0) : Option Nat :=
  ((l.filter (!isSummary ·.code)).map fun r => sevN r.sev).min?

/-- Remove the newest entry of a severity that may be dropped (R720). -/
def dropNewest (l : List Report0) (sv : Nat) : List Report0 :=
  (l.reverse.eraseP fun r => !isSummary r.code && sevN r.sev == sv).reverse

/-- The code that E001's detail names. -/
def suppressedCode (r : Report0) : Nat := fld r.detail 0 2

/-- Add the counts of a later summary of the same code to a kept one (R720, R725). -/
def keepSummary (l : List Report0) (r : Report0) : List Report0 :=
  let same := fun (k : Report0) => k.code == r.code && (r.code != 1 || suppressedCode k == suppressedCode r)
  if l.any same then
    updFirst same (fun k =>
      { k with
        count := k.count + r.count
        sev := sevOf (max (sevN k.sev) (sevN r.sev))
        detail :=
          if r.code = 1 then slice k.detail 0 10 ++ slice r.detail 10 8 ++ k.detail.drop 18
          else (List.range (if r.code = 2 then 6 else 7)).flatMap fun i =>
            le 4 (fld k.detail (4 * i) 4 + fld r.detail (4 * i) 4) }) l
  else l ++ [r]

/-- Count a drop under its severity and note the first since the last E002 (R720). -/
def RecorderPart.drop (v : RecorderPart) (sv now : Nat) : RecorderPart :=
  { v with drops := incAt v.drops sv, dropSince := some (v.dropSince.getD now) }

/-- Stage 3 of R711: the intake FIFO and the reserved lane (R719 to R721). -/
def State.intake (s : State) (r : Report0) : State :=
  let sv := sevN r.sev
  if sv ≥ 6 && !isSummary r.code then
    s.ev' fun v => if v.lane.length < 64 then { v with lane := v.lane ++ [r] }
      else { v with waiting := v.waiting ++ [r] }
  else if s.ev.fifo.length < 1024 then s.ev' fun v => { v with fifo := v.fifo ++ [r] }
  else match lowestSev s.ev.fifo with
    | some low =>
      if low < sv then
        (s.ev' fun v => { (v.drop low s.ck.now) with fifo := dropNewest v.fifo low ++ [r] }).stat 4 low 0 1
      else if isSummary r.code then s.ev' fun v => { v with kept := keepSummary v.kept r }
      else (s.ev' fun v => v.drop sv s.ck.now).stat 4 sv 0 1
    | none =>
      if isSummary r.code then s.ev' fun v => { v with kept := keepSummary v.kept r }
      else (s.ev' fun v => v.drop sv s.ck.now).stat 4 sv 0 1

/-- Stages 1 to 3 of R711 for a report. -/
def State.report (s : State) (r : Report0) : State :=
  let sv := sevN r.sev
  if sv ≥ 6 || isSummary r.code then s.intake r
  else if sv < s.setting 0x09000001 then s.stat 2 sv 0 1
  else
    let burst := s.setting (0x09020000 + r.code)
    let b := bucketOf s.ev.buckets r.code burst s.ck.now
    if b.tokens > 0 then
      let b' := { b with
        tokens := b.tokens - 1
        belowSince := if b.tokens ≥ burst then s.ck.now else b.belowSince }
      (s.ev' fun v => { v with buckets := bucketPut v.buckets b' }).intake r
    else
      let b' := match b.winOpen with
        | some _ => { b with
            winCount := b.winCount + 1, winLast := s.stamp
            winSev := sevOf (max (sevN b.winSev) sv) }
        | none => { b with
            winOpen := some s.ck.now, winCount := 1, winSev := r.sev
            winFirst := s.stamp, winLast := s.stamp }
      (s.ev' fun v => { v with buckets := bucketPut v.buckets b' }).stat 3 r.code 0 1

/-- Raise an event: code, severity, domain (0xFFFF for none) and detail (R711, R713). -/
def State.event (s : State) (code : Nat) (sev : Severity) (domain : Nat) (detail : Bytes) : State :=
  s.report ⟨code, sev, srcOf code, domain, 1, fit 34 detail, s.stamp⟩

/-- Raise an event of no domain. -/
def State.ev0 (s : State) (code : Nat) (sev : Severity) (detail : Bytes) : State :=
  s.event code sev 0xFFFF detail

/-- Add to a counter of any kind; a fault counter raises E0F0 at the increment that saturates it, once until it
is cleared (R734, R735). -/
def State.bump (s : State) (cls idx pos n : Nat) : State :=
  let c := ctrGet s.ct.vals cls idx pos
  let c' := c.add n
  if ctrFault cls && c'.sat && !c.sat && c.armed then
    (s.ct' fun t => { t with vals := ctrPut t.vals { c' with armed := false } }).ev0 0x0F0 .warn
      (le 2 cls ++ le 4 idx ++ le 1 pos)
  else s.ct' fun t => { t with vals := ctrPut t.vals c' }

/-! ## The writer and the ring (R712, R723, R725) -/

/-- The lowest-numbered empty slot, the ring's records being in slot order (R723). -/
def freeSlot : List EvRec → Nat → Nat
  | [], k => k
  | r :: l, k => if r.slot = k then freeSlot l (k + 1) else k

/-- The record of lowest sequence whose severity is at most `sv` (R723). -/
def oldestAtMost (l : List EvRec) (sv : Nat) : Option EvRec :=
  (l.filter fun r => sevN r.rep.sev ≤ sv).foldl
    (fun best r => match best with
      | none => some r
      | some b => if r.seq < b.seq then some r else best) none

/-- Put a record in its slot, keeping slot order. -/
def putSlot (l : List EvRec) (r : EvRec) : List EvRec :=
  l.filter (·.slot < r.slot) ++ [r] ++ l.filter (r.slot < ·.slot)

/-- The slot a new record of a severity takes, if the ring has one for it (R723). -/
def slotFor (l : List EvRec) (sv : Nat) : Option Nat :=
  if freeSlot l 0 < 1048576 then some (freeSlot l 0) else (oldestAtMost l sv).map (·.slot)

/-- Whether a subscription selects a report (R729). -/
def Sub.selects (b : Sub) (r : Report0) : Bool :=
  b.minSev ≤ sevN r.sev && b.first ≤ r.code && r.code ≤ b.last

/-- The hosts a domain admits: its HOST_ACCESS slots (R397). -/
def State.admits (s : State) (domain : Nat) (nqn : Bytes) : Bool :=
  (List.range 64).any fun i =>
    let v := s.settingBytes (0x03000010 + domain * 0x100 + i)
    !v.isEmpty && v == nqn

/-- Whether a record is selected for a controller (R731). -/
def State.ctrlSelects (s : State) (c : Ctrl) (r : Report0) : Bool :=
  r.domain != 0xFFFF && s.admits r.domain c.nqn && c.aer.evFeature.toNat % 8 ≤ sevN r.sev

/-- Deliver a written record to a session's subscription (R730). -/
def Session.deliver (x : Session) (seq now : Nat) (r : Report0) : Session :=
  match x.sub with
  | some b => if b.selects r then
      { x with sub := some { b with
          queue := b.queue ++ [seq], since := if b.queue.isEmpty then now else b.since } }
    else x
  | none => x

/-- Deliver a written record to a controller's queue of at most 1,024 sequences (R732). -/
def Ctrl.deliver (c : Ctrl) (seq : Nat) : Ctrl :=
  { c with aer := { c.aer with
      evList := (if c.aer.evList.length ≥ 1024 then c.aer.evList.drop 1 else c.aer.evList) ++ [seq]
      evPending := !c.aer.evMasked } }

/-- Count a sequence lost to a controller's queue, with the severity of its record where the ring still holds it
(R732). -/
def ctlLose (l : List (Nat × Nat × Nat × Nat × Nat)) (ctrl seq sev : Nat) : List (Nat × Nat × Nat × Nat × Nat) :=
  match l.find? (·.1 == ctrl) with
  | some (_, n, lo, hi, sv) => l.filter (!·.1 == ctrl) ++ [(ctrl, n + 1, min lo seq, max hi seq, max sv sev)]
  | none => l ++ [(ctrl, 1, seq, seq, sev)]

/-- The severity of the record of a sequence, 0 when the ring no longer holds it. -/
def sevInRing (l : List EvRec) (seq : Nat) : Nat := ((l.find? (·.seq == seq)).map fun r => sevN r.rep.sev).getD 0

/-- Stage 4 of R711: write a report to the ring, or refuse it (R712, R723, R725). -/
def State.writeRec (s : State) (r : Report0) : State :=
  let sv := sevN r.sev
  match slotFor s.ev.ring sv with
  | some slot =>
    let seq := s.ev.nextSeq
    let s1 := ((s.ev' fun v => { v with ring := putSlot v.ring ⟨slot, seq, r⟩, nextSeq := seq + 1 }).stat 1 sv 0 1).stat 0x0202 5 0 64
    let s2 := s1.vk' fun v => { v with sessions := v.sessions.map (·.deliver seq s.ck.now r) }
    let lost := s2.nv.ctrls.filter fun c => s2.ctrlSelects c r && c.aer.evList.length ≥ 1024
    let s3 := lost.foldl (fun t c =>
      (t.ev' fun v => { v with ctlLost := ctlLose v.ctlLost c.id (c.aer.evList.headD 0) (sevInRing v.ring (c.aer.evList.headD 0)) }).stat 7 c.id 0 1) s2
    s3.nv' fun v => { v with ctrls := v.ctrls.map fun c => if s2.ctrlSelects c r then c.deliver seq else c }
  | none =>
    if isSummary r.code then s.ev' fun v => { v with kept := keepSummary v.kept r }
    else (s.ev' fun v => { v with
      refusals := incAt v.refusals sv, refuseSince := some (v.refuseSince.getD s.ck.now) }).stat 5 sv 0 1

/-- A last-gasp record of the sentinel: it skips stages 1 to 3 and obeys R723 (R727). -/
def State.lastGasp (s : State) (code : Nat) (sev : Severity) (detail : Bytes) : State :=
  (s.writeRec ⟨code, sev, srcOf code, 0xFFFF, 1, fit 34 detail, s.stamp⟩).send (.lastGasp code detail)

/-- The first record after a start or a wake from Watch: E000 with what the scan of the ring found, written by the recorder before any
report it holds (R716, R726, log 63). -/
def State.firstRecord (s : State) : State :=
  s.writeRec ⟨0x000, .info, srcOf 0x000, 0xFFFF, 1, fit 34 (le 8 (s.ev.nextSeq - 1) ++ le 4 s.ev.ring.length), s.stamp⟩

/-- Records written in ring order of sequence (R728). -/
def State.recsBySeq (s : State) : List EvRec := s.ev.ring.sortBy fun a b => a.seq ≤ b.seq

/-- Change the one session of a handle. -/
def State.session' (s : State) (h : Nat) (f : Session → Session) : State :=
  s.vk' fun v => { v with sessions := updFirst (·.handle == h) f v.sessions }

/-- Change the one hive of a number. -/
def State.hive' (s : State) (h : Nat) (f : Hive → Hive) : State :=
  s.hv' fun v => { v with hives := updFirst (·.id == h) f v.hives }

/-- Change the one head link end of a number. -/
def State.link' (s : State) (l : Nat) (f : Link → Link) : State :=
  s.cl' fun v => { v with links := updFirst (·.link == l) f v.links }

/-- Change the one bridge behind a link. -/
def State.bridge' (s : State) (l : Nat) (f : Bridge → Bridge) : State :=
  s.cl' fun v => { v with bridges := updFirst (·.link == l) f v.bridges }

/-- A hive of the apiary, as this head sees it. -/
def State.hive? (s : State) (h : Nat) : Option Hive := s.hv.hives.find? (·.id == h)

/-- A head link end. -/
def State.link? (s : State) (l : Nat) : Option Link := s.cl.links.find? (·.link == l)

/-- A bridge. -/
def State.bridge? (s : State) (l : Nat) : Option Bridge := s.cl.bridges.find? (·.link == l)

/-- The head is in a mode. -/
def State.inMode (s : State) (m : Mode) : Bool := s.md.mode == some m

/-- Effects that only happen when a condition holds. -/
def State.cond (s : State) (c : Bool) (f : State → State) : State := if c then f s else s

/-- Work that changes the state and goes on: the outcome of every meaning that does not stop. -/
abbrev ok (s : State) : Host.Outcome State Fault Refusal := .next s

end Sys2Proof.Machine
end

