-- ==== Sys2Proof/Machine/Memory.lean ====
section
/-! DEFINITION. The bytes that addresses of descriptors and of the map window name (R188, R195, R671): a list of
address and byte pairs, addresses rising, and no byte equal to what an unlisted address reads as. The spec gives no map
of the addresses of wax and of on-chip buffers; a descriptor's address names a byte of this one space (log 12). -/

namespace Sys2Proof.Machine

/-- What an address that is not listed reads as (log 12). -/
def emptyByte : Byte := 0

/-- The byte at an address. -/
def memGet : List Host.Cell → Nat → Byte
  | [], _ => emptyByte
  | c :: l, a => if c.1 = a then c.2 else memGet l a

/-- Write a byte at an address. -/
def memSet : List Host.Cell → Nat → Byte → List Host.Cell
  | [], a, b => if b = emptyByte then [] else [(a, b)]
  | c :: l, a, b =>
    if c.1 < a then c :: memSet l a b
    else
      let rest := if c.1 = a then l else c :: l
      if b = emptyByte then rest else (a, b) :: rest

/-- Every address listed is at least a bound, the addresses rise, and no byte is the empty one. -/
def memFrom : Nat → List Host.Cell → Bool
  | _, [] => true
  | lo, c :: l => lo ≤ c.1 && c.2 != emptyByte && memFrom (c.1 + 1) l

/-- The canonical form. -/
def Memory.wf (m : List Host.Cell) : Bool := memFrom 0 m

/-- Write bytes from an address on. -/
def memWrite (m : List Host.Cell) : Nat → Bytes → List Host.Cell
  | _, [] => m
  | a, b :: bs => memWrite (memSet m a b) (a + 1) bs

/-- Read bytes from an address on. -/
def memRead (m : List Host.Cell) (a n : Nat) : Bytes := (List.range n).map fun i => memGet m (a + i)

/-- The bytes at an address. -/
def State.bytesAt (s : State) (a n : Nat) : Bytes := memRead s.dr.mem a n

/-- Sets of the map SRAM cache (R195). -/
def cacheSets : Nat := 24576

/-- The line of a set and tag. -/
def MapCachePart.line (m : MapCachePart) (set tag : Nat) : Option Bytes :=
  (m.lines.find? fun l => l.1 == set && l.2.2.1 == tag).map (·.2.2.2)

/-- Give a line that is present new bytes. -/
def MapCachePart.setLine (m : MapCachePart) (set tag : Nat) (bytes : Bytes) : MapCachePart :=
  { m with lines := m.lines.map fun l => if l.1 == set && l.2.2.1 == tag then (l.1, l.2.1, l.2.2.1, bytes) else l }

/-- The bytes of a line as an access finds them: where the line holds an error that ECC cannot correct, which is free (log 3), it is
invalidated with E250 and the access is served from DRAM (R200). -/
def State.readLine (s : State) (set tag : Nat) : State × Option Bytes :=
  match s.mc.line set tag with
  | none => (s, none)
  | some b =>
    if s.drawnNat = 0 then (s.afterDraw, some b)
    else (((s.afterDraw.mc' fun m => { m with lines := m.lines.filter fun l => !(l.1 == set && l.2.2.1 == tag) }).ev0 0x250 .warn []).bump 0x0209 0 0 1, none)

/-- Where the bytes of a line of the map SRAM cache lie in DRAM (R195). -/
def State.lineAddr (s : State) (l : Nat × Nat × Nat × Bytes) : Nat := s.mc.base + (l.2.2.1 * cacheSets + l.1) * 256

/-- A line of the map SRAM cache takes the bytes that DRAM now holds (R196), but for one that holds an error that ECC cannot correct
(R200). -/
def State.refreshLine (s : State) (l : Nat × Nat × Nat × Bytes) : State :=
  match s.readLine l.1 l.2.2.1 with
  | (u, some _) => u.mc' fun m => m.setLine l.1 l.2.2.1 (memRead u.dr.mem (s.lineAddr l) 256)
  | (u, none) => u

/-- The lines of the map SRAM cache that a write into the window touches (R196). -/
def State.refreshLines (s : State) (a n : Nat) : State :=
  (s.mc.lines.filter fun l => s.lineAddr l < a + n && a < s.lineAddr l + 256).foldl State.refreshLine s

/-- Write bytes at an address; a write of any block into the map window passes through the cache (R196). -/
def State.putBytes (s : State) (a : Nat) (bs : Bytes) : State :=
  (s.dr' fun d => { d with mem := memWrite d.mem a bs }).refreshLines a bs.length

end Sys2Proof.Machine
end

