-- ==== Sys2Proof/Machine/ForageSend.lean ====
section
/-! DEFINITION. The sending side of Forage (12): contexts (R482), packets and their bytes (R476 to R478), paths (R509, R510),
and the transmission of work entries (R487 to R489, R514). -/

namespace Sys2Proof.Machine

/-! ## Contexts and paths -/

/-- A context that is not free (R482). -/
def State.ctx? (s : State) (id : Nat) : Option Ctx := s.fg.ctxs.find? (·.id == id)

/-- Change the one context of an ID. -/
def State.ctx' (s : State) (id : Nat) (f : Ctx → Ctx) : State :=
  s.fg' fun g => { g with ctxs := updFirst (·.id == id) f g.ctxs }

/-- A path table entry (R509). -/
def State.path? (s : State) (id : Nat) : Option Path := s.fg.paths.find? (·.id == id)

/-- Change the one path of an index. -/
def State.path' (s : State) (id : Nat) (f : Path → Path) : State :=
  s.fg' fun g => { g with paths := updFirst (·.id == id) f g.paths }

/-- Both head IDs belong to one apiary (R8, R478). -/
def State.sameApiary (s : State) (head : Nat) : Bool := head / 2 == s.pr.apiary

/-- The class whose keys a connection with a head uses (R478). -/
def State.classFor (s : State) (head : Nat) : ClassKey := if s.sameApiary head then s.ks.pair else s.ks.colony

/-- Most bytes of payload in a packet of a carrier (R475). -/
def State.payloadOf (s : State) (fabric : Bool) : Nat := if fabric then s.setting 0x05000102 else 8192

/-- An entropy value: 49,152 to 65,535 (R474). Which values a path takes is free (log 3). -/
def entropyOf (n : Nat) : Nat := 49152 + n % 16384

/-- The lowest path index not in use (R509). -/
def State.freePath (s : State) : Option Nat := findFrom (fun i => (s.path? i).isNone) (List.range 8192) 0

/-- The far address of a path (R509): of another head on the fabric that of its pair in the apiary list (R590). -/
def State.farAddr (s : State) (head : Nat) (fabric : Bool) (i : Nat) : Bytes :=
  let addrs := if s.sameApiary head then ownAddrs
    else if s.co.queenHead then ((s.co.members.find? fun m => m.headA == head || m.headB == head).map (·.addrs)).getD []
    else ((s.co.apiaries.find? fun a => a.2.1 == head || a.2.2.1 == head).map (·.2.2.2)).getD []
  if fabric then (addrs[8 * (head % 2) + 2 * (i % 4)]?).getD (fit 16 (Config.farAddr head)) else fit 6 (Config.farAddr head)

/-- The index of the path to a head on a carrier, made when no entry names it (R509). -/
def State.pathFor (s : State) (head : Nat) (fabric : Bool) : State × Option Nat :=
  match s.fg.paths.find? fun p => p.farHead == head && p.fabric == fabric with
  | some p => (s, some p.id)
  | none => match s.freePath with
    | none => (s, none)
    | some i =>
      let n := s.drawnNat
      let p : Path :=
        { id := i, farHead := head, fabric := fabric, addr := s.farAddr head fabric i, entropy := [entropyOf n, entropyOf (n + 1), entropyOf (n + 2), entropyOf (n + 3)]
          which := 0, srtt := 0, baseSamples := [], w := 65536, lastDec := none, lastUse := s.ck.now }
      ((s.afterDraw).fg' fun g => { g with paths := g.paths ++ [p] }, some i)

/-- Unacknowledged bytes of a path (R514). -/
def State.pathInFlight (s : State) (path : Nat) : Nat :=
  ((s.fg.ctxs.filter (·.path == path)).flatMap fun c => c.sent.map (·.entry.len)).sum

/-- Positions at which a list of flags is set. -/
def setAtIdx (l : List Bool) : List Nat := (List.range l.length).filter fun i => l.getD i false

/-- The port a message leaves on (R473, R510): a working peer link chosen by message ID, or the active port of a fabric pair.
Which pair carries a path is the path's index modulo 4, and the next pair that has an active port (log 62). -/
def State.portOf (s : State) (p : Path) (id : BitVec 32) : Option Nat :=
  if p.fabric then
    ((List.range 4).map fun k => (p.id + k) % 4).findSome? fun i =>
      ((s.pr.fabric[i]?).bind (·.active)).map fun a => 4 + 2 * i + a
  else
    let up := setAtIdx s.pr.plUp
    if up.isEmpty then none else up[id.toNat % up.length]?

/-! ## Packets -/

/-- Bytes 0 to 63 of a packet and its payload (R476). -/
def FPkt.bytes (p : FPkt) : Bytes :=
  (if p.magicOk then [0x46#8, 0x47#8, 0x01#8] else [0#8, 0#8, 0#8]) ++
    le 1 p.op ++ le 1 (b2n p.last + 2 * b2n p.retransmit + 4 * b2n p.solicit + 8 * p.resv.1) ++
    le 1 (b2n p.colonyKey + 2 * (p.resv.2.1 % 8) + 16 * (p.keyGen % 16)) ++
    le 2 p.srcHead ++ le 2 p.dstHead ++ le 2 p.srcCtx ++ le 2 p.dstCtx ++ le 2 p.plen ++ le 4 p.msgId.toNat ++ le 4 p.off ++
    le 4 p.mlen ++ le 4 p.memKey.toNat ++ le 8 p.remote ++ le 4 p.imm.toNat ++ le 4 p.resv.2.2 ++ le 8 p.origin ++ le 8 p.sendTime ++ p.payload

/-- The CMAC trailer of a packet under a key (R476). -/
def FPkt.cmac (p : FPkt) (key : Bytes) : Bytes := (aesCmac key p.bytes).take 8

/-- The packets of a message: offset and payload of each; a message of length 0 and a READ_REQ are one packet (R477). -/
def packetCuts (size : Nat) (data : Bytes) : List (Nat × Bytes) :=
  let ps := (pieces size data).filter (!·.isEmpty)
  if ps.isEmpty then [(0, [])] else (List.range ps.length).map fun i => (i * size, ps.getD i [])

/-- What one message puts into its packets. -/
structure MsgOut where
  /-- Operation (R476). -/
  op : Nat
  /-- Message ID (R476). -/
  id : BitVec 32
  /-- Message length field (R476). -/
  len : Nat
  /-- Remote offset (R476). -/
  remote : Nat
  /-- Immediate (R476). -/
  imm : BitVec 32
  /-- Origin time (R476). -/
  origin : Nat
  /-- The offset and the payload of each of its packets (R477). -/
  cuts : List (Nat × Bytes)
  /-- RETRANSMIT (R476). -/
  again : Bool
  /-- SOLICIT_ACK on its last packet (R476). -/
  solicit : Bool

/-- The message of a PATH_DRILL, on context 6 (R578). -/
def State.isDrill (s : State) (ctx : Nat) (id : BitVec 32) : Bool := ctx == 6 && s.pr.drill.any (·.msg == id)

/-- The port a message of a context leaves on: that of its path; the fabric path of context 6 runs from the lowest-numbered fabric pair
that has an active port, and the message of a PATH_DRILL from the drilled pair (R510, R545, R578). -/
def State.ctxPort (s : State) (ctx : Nat) (p : Path) (id : BitVec 32) : Option Nat :=
  let active := fun (i : Nat) => ((s.pr.fabric[i]?).bind (·.active)).map fun a => 4 + 2 * i + a
  if ctx != 6 then s.portOf p id
  else match s.pr.drill with
    | some d => if d.msg == id then active d.pair else (List.range 4).findSome? active
    | none => (List.range 4).findSome? active

/-- Send packets of a message of a context; `pick` chooses those that leave. Nothing leaves without a port or a key. -/
def State.sendPackets (s : State) (c : Ctx) (m : MsgOut) (pick : Nat → Bool) : State :=
  match s.path? c.path with
  | none => s
  | some p => match s.ctxPort c.id p m.id, (s.classFor c.farHead).cur with
    | some port, some k =>
      let cuts := m.cuts
      let lastOff := ((cuts.getLast?).map (·.1)).getD 0
      let out := (cuts.filter fun x => pick x.1).map fun x =>
        let q : FPkt :=
          { magicOk := true, op := m.op, last := x.1 == lastOff, retransmit := m.again, solicit := m.solicit && x.1 == lastOff
            colonyKey := !s.sameApiary c.farHead, keyGen := k.1 % 16, srcHead := s.headId, dstHead := c.farHead, srcCtx := c.id
            dstCtx := c.farCtx, plen := x.2.length, msgId := m.id, off := x.1, mlen := m.len
            memKey := if m.op == 4 then 0 else c.farKey, remote := m.remote, imm := m.imm, origin := m.origin, sendTime := s.ck.now
            payload := x.2, tag := [], port := port, udp := s.setting 0x05000101
            ether := 0x88B5, resv := (0, 0, 0), sport := if p.fabric then p.entropy.getD p.which 0 else 0
            dscp := if p.fabric then s.setting 0x05000103 else 0 }
        Out.fpkt { q with tag := q.cmac k.2 }
      let s := out.foldl State.send s
      let s := s.stat 0x0901 (b2n p.fabric) 0 out.length
      let s := if m.again then s.stat 0x0903 p.id 0 out.length else s
      s.path' p.id fun x => { x with lastUse := s.ck.now }
    | _, _ => s

/-- The message of a work entry, in packets of a payload size (R477, R515). -/
def WorkEntry.msg (e : WorkEntry) (id : BitVec 32) (origin size : Nat) (again : Bool) : MsgOut :=
  { op := e.op, id := id, len := e.len, remote := e.remote, imm := if e.op = 2 then e.imm else 0, origin := origin
    cuts := packetCuts size (if e.op = 3 then [] else e.data), again := again, solicit := again }

/-! ## Transmission (R487 to R489) -/

/-- What an entry waits for has come (R488). -/
def State.countReached (s : State) (e : WorkEntry) : Bool :=
  !e.waitCount || (s.ctx? e.waitCtx).any fun c => e.waitVal ≤ if e.waitTx then c.tx else c.rx

/-- Contexts 2 to 4 carry wax: the record or entry their message stands for is named by its cookie (R172, R224, log 60). -/
def isMirrorCtx (id : Nat) : Bool := 2 ≤ id && id ≤ 4

/-- The entry at the front of a context's queue may begin (R488, R489, R514). -/
def State.mayBegin (s : State) (c : Ctx) (e : WorkEntry) : Bool :=
  c.state == .bound && s.countReached e && c.sent.length < 4096 &&
    (s.path? c.path).any fun p => s.pathInFlight p.id < p.w && (s.ctxPort c.id p c.nextSend).isSome

/-- Begin the entry at the front of a queue: it takes the next message ID (R487). The bytes are those at the local address now. -/
def State.beginEntry (s : State) (c : Ctx) (e : WorkEntry) : State :=
  let id := c.nextSend
  let e := if e.op != 3 && e.data.isEmpty && !isMirrorCtx c.id then { e with data := s.bytesAt e.localAddr e.len } else e
  let size := s.payloadOf ((s.path? c.path).any (·.fabric))
  let m : SentMsg := ⟨id, e, s.ck.now, false, size, none⟩
  let s := s.ctx' c.id fun x => { x with
    sq := x.sq.drop 1, nextSend := id + 1, sent := x.sent ++ [m], lastUse := s.ck.now
    reads := if e.op = 3 then x.reads ++ [(id, e)] else x.reads
    rtoAt := if x.sent.isEmpty then s.ck.now + x.rto else x.rtoAt }
  if isMirrorCtx c.id then
    let s := s.path' c.path fun x => { x with lastUse := s.ck.now }
    s.send (if c.id = 4 then .mirrorEntry e.cookie.toNat else .mirror e.cookie.toNat)
  else s.sendPackets c { e.msg id s.ck.now size false with solicit := s.isDrill c.id id } fun _ => true

/-- A context whose path was freed gets one again before it sends (R509, log 62). -/
def State.ensurePath (s : State) (c : Ctx) : State :=
  if (s.path? c.path).any (·.farHead == c.farHead) then s
  else match s.pathFor c.farHead (!s.sameApiary c.farHead || c.id == 6) with
    | (s, some i) => s.ctx' c.id fun x => { x with path := i }
    | (s, none) => s

/-- Take entries of one context's queue in order (R487); the fuel bounds their number. -/
def State.pumpAux (s : State) (id : Nat) : Nat → State
  | 0 => s
  | n + 1 => match s.ctx? id with
    | none => s
    | some c => match c.sq.head? with
      | none => s
      | some e =>
        let s := s.ensurePath c
        match s.ctx? id with
        | none => s
        | some c => if s.mayBegin c e then (s.beginEntry c e).pumpAux id n else s

/-- Take what may begin of one queue. -/
def State.pump (s : State) (id : Nat) : State := match s.ctx? id with
  | none => s
  | some c => s.pumpAux id c.sq.length

/-- Take what may begin of every queue. -/
def State.pumpAll (s : State) : State :=
  (s.fg.ctxs.filter (!·.sq.isEmpty)).foldl (fun t c => t.pumpAux c.id c.sq.length) s

/-- A plain WRITE of firmware's own: bytes, remote offset, and a cookie. -/
def plainEntry (op len : Nat) (data : Bytes) (remote : Nat) (imm : BitVec 32) (cookie : Nat) : WorkEntry :=
  { op := op, waitCount := false, signal := false, len := len, localAddr := 0, data := data, remote := remote, imm := imm, waitCtx := 0
    waitTx := false, waitVal := 0, cookie := BitVec.ofNat 64 cookie }

/-- Put an entry at the tail of a context's queue and begin what may begin; nothing for a context that is free. -/
def State.postEntry (s : State) (id : Nat) (e : WorkEntry) : State :=
  match s.ctx? id with
  | none => s
  | some _ => (s.ctx' id fun c => { c with sq := c.sq ++ [e] }).pump id

end Sys2Proof.Machine
end

