-- ==== Sys2Proof/Machine/VOps.lean ====
section
/-! DEFINITION. What every Virkan request shares: the opcode catalogue, the checks of R77 from step 6 on, replies,
held replies and confirmation codes. -/

namespace Sys2Proof.Machine

/-! ## The opcode catalogue (R98) -/

/-- A required integer parameter of `n` bytes within a range. -/
def pReq (n lo hi : Nat) : VParam := ⟨true, false, [(n, n)], lo, hi⟩
/-- An optional integer parameter of `n` bytes within a range. -/
def pOpt (n lo hi : Nat) : VParam := ⟨false, false, [(n, n)], lo, hi⟩
/-- A required parameter of bytes, of the lengths given. -/
def pBytes (lens : List (Nat × Nat)) : VParam := ⟨true, false, lens, 0, 0⟩
/-- The confirmation parameter of a discarding action (R96). -/
def pConfirm : VParam := ⟨false, false, [(8, 8)], 0, 0⟩
/-- Greatest u16. -/
def m16 : Nat := 0xFFFF
/-- Greatest u32. -/
def m32 : Nat := 0xFFFFFFFF
/-- Greatest u64. -/
def m64 : Nat := 0xFFFFFFFFFFFFFFFF

/-- Sessions, frames and modes. The proof of SESSION_AUTH is 16 or 96 bytes long and of no length between (DEDUCED from R88, log 86). -/
def vopsA : List VOp :=
  [ ⟨0x0101, .observer, [pReq 1 0 2], false, false⟩,
    ⟨0x0102, .observer, [pBytes [(16, 16), (96, 96)]], false, false⟩,
    ⟨0x0103, .observer, [], false, false⟩,
    ⟨0x0104, .operator, [], false, false⟩,
    ⟨0x0201, .operator, [pReq 1 0 1], false, false⟩,
    ⟨0x0202, .operator, [], false, false⟩,
    ⟨0x0203, .operator, [], false, false⟩,
    ⟨0x0204, .operator, [pReq 8 0 m64, pOpt 1 0 1], false, true⟩,
    ⟨0x0205, .operator, [], false, true⟩,
    ⟨0x0206, .observer, [pOpt 1 0 1], false, false⟩,
    ⟨0x0207, .observer, [⟨true, true, [(4, 4)], 0, m32⟩], false, false⟩,
    ⟨0x0208, .observer, [], false, false⟩ ]
/-- Domains, namespaces and hives. -/
def vopsB : List VOp :=
  [ ⟨0x0301, .owner, [pReq 2 0 0xFFFE, pReq 1 0 1, pOpt 2 1 168], false, true⟩,
    ⟨0x0302, .owner, [pReq 2 0 0xFFFE, pConfirm], true, true⟩,
    ⟨0x0303, .observer, [], false, false⟩,
    ⟨0x0304, .operator, [pReq 2 0 0xFFFE, pReq 4 1 0xFFFFFFFE, pReq 8 1 m64, pOpt 1 0 1], false, true⟩,
    ⟨0x0305, .owner, [pReq 4 0 m32, pConfirm], true, true⟩,
    ⟨0x0306, .operator, [pReq 4 0 m32, pReq 8 1 m64], false, true⟩,
    ⟨0x0307, .observer, [pOpt 2 0 m16], false, false⟩,
    ⟨0x0308, .operator, [pReq 4 0 m32, ⟨false, false, [(16, 16)], 0, 0⟩], false, true⟩,
    ⟨0x0309, .owner, [pReq 4 0 m32, pReq 4 0 m32, pConfirm], true, true⟩,
    ⟨0x030A, .operator, [pReq 4 0 m32, pReq 4 0 m32, pReq 4 1 0xFFFFFFFE], false, true⟩,
    ⟨0x0401, .observer, [pOpt 1 0 7], false, false⟩,
    ⟨0x0402, .operator, [pReq 1 0 7], false, false⟩,
    ⟨0x0403, .operator, [pReq 1 0 7], false, false⟩,
    ⟨0x0404, .operator, [pReq 1 0 7, pReq 2 0 m16], false, true⟩,
    ⟨0x0405, .operator, [pReq 1 0 127], false, true⟩,
    ⟨0x0406, .owner, [pReq 8 0 m64, pConfirm], true, true⟩,
    ⟨0x0407, .observer, [pOpt 1 0 127], false, false⟩ ]
/-- The pair, the colony and replication. -/
def vopsC : List VOp :=
  [ ⟨0x0501, .observer, [], false, false⟩,
    ⟨0x0502, .operator, [⟨false, true, [(2, 2)], 0, 0xFFFE⟩, ⟨false, true, [(1, 1)], 0, 7⟩], false, true⟩,
    ⟨0x0503, .operator, [pReq 1 0 3], false, false⟩,
    ⟨0x0504, .owner, [pReq 1 0 1, pConfirm], true, true⟩,
    ⟨0x0505, .owner, [pReq 1 0 1, pConfirm], true, true⟩,
    ⟨0x0601, .observer, [], false, false⟩,
    ⟨0x0602, .owner, [pBytes [(16, 16)], pReq 1 0 127], false, true⟩,
    ⟨0x0603, .owner, [], false, true⟩,
    ⟨0x0604, .owner, [pReq 1 0 127], false, true⟩,
    ⟨0x0605, .observer, [], false, false⟩,
    ⟨0x0606, .observer, [pOpt 2 0 m16], false, false⟩,
    ⟨0x0701, .operator, [pReq 2 1 1023, pReq 1 0 127, ⟨true, true, [(2, 2)], 0, 0xFFFE⟩], false, true⟩,
    ⟨0x0702, .operator, [pReq 2 1 1023], false, true⟩,
    ⟨0x0703, .observer, [pOpt 2 0 m16], false, false⟩,
    ⟨0x0704, .operator, [pReq 2 1 1023], false, true⟩,
    ⟨0x0705, .operator, [pReq 2 1 1023], false, true⟩,
    ⟨0x0706, .operator, [pReq 2 1 1023, pReq 4 0 m32, pReq 4 0 m32], false, true⟩ ]
/-- Keys, events, attestation, update and diagnosis. -/
def vopsD : List VOp :=
  [ ⟨0x0801, .owner, [pBytes [(97, 97)]], false, true⟩,
    ⟨0x0802, .owner, [pReq 1 0 255, pBytes [(0, 0xFFFF)]], false, true⟩,
    ⟨0x0803, .owner, [pBytes [(97, 97)]], false, false⟩,
    ⟨0x0804, .owner, [pBytes [(0, 0xFFFF)]], false, true⟩,
    ⟨0x0805, .owner, [pReq 2 0 0xFFFE], false, true⟩,
    ⟨0x0806, .owner, [pReq 2 0 0xFFFE, pConfirm], true, true⟩,
    ⟨0x0807, .observer, [], false, false⟩,
    ⟨0x0901, .observer, [pOpt 8 0 m64, pOpt 4 1 16383], false, false⟩,
    ⟨0x0902, .observer, [pOpt 1 0 255, pOpt 2 0 0xFFF, pOpt 2 0 0xFFF], false, false⟩,
    ⟨0x0903, .observer, [pReq 2 0 m16, pOpt 4 0 m32], false, false⟩,
    ⟨0x0904, .operator, [pReq 2 0 m16, pOpt 4 0 m32], false, false⟩,
    ⟨0x0A01, .observer, [pBytes [(32, 32)]], false, false⟩,
    ⟨0x0A02, .observer, [], false, false⟩,
    ⟨0x0A03, .operator, [pReq 4 0 m32, pReq 4 0 m32], false, false⟩,
    ⟨0x0A04, .operator, [pReq 4 0 m32, pReq 4 0 m32], false, false⟩,
    ⟨0x0A05, .operator, [], false, false⟩,
    ⟨0x0A06, .operator, [], false, true⟩,
    ⟨0x0A07, .operator, [], false, true⟩,
    ⟨0x0A08, .operator, [], false, false⟩,
    ⟨0x0A09, .owner, [pReq 1 0 1], false, true⟩,
    ⟨0x0A0A, .operator, [pOpt 1 0 1], false, false⟩,
    ⟨0x0B01, .operator, [pReq 1 0 127, pReq 1 0 127, pReq 4 0 m32], false, false⟩,
    ⟨0x0B02, .operator, [pReq 1 0 127], false, false⟩,
    ⟨0x0B03, .operator, [pOpt 4 0 m32], false, false⟩,
    ⟨0x0B04, .operator, [pReq 1 0 255], false, false⟩ ]

/-- The opcode catalogue (R98). -/
def vops : List VOp := vopsA ++ vopsB ++ vopsC ++ vopsD

/-- The catalogue's row of an opcode. -/
def vop (op : Nat) : Option VOp := vops.find? (·.op == op)

/-- Opcodes a recovery start serves (R86): sessions, ATTEST, LEDGER_READ, UPD_, RESTART, KEY_STATUS, KEY_RESTORE,
EVT_READ, CTR_READ and DIAG_. -/
def servedInRecovery (op : Nat) : Bool :=
  op / 256 == 0x01 || (0x0A01 ≤ op && op ≤ 0x0A0A) || op == 0x0807 || op == 0x0804 ||
    op == 0x0901 || op == 0x0903 || op / 256 == 0x0B

/-- Opcodes served while the vault is ERASED (R709). -/
def servedErased (op : Nat) : Bool :=
  op / 256 == 0x01 || op == 0x0807 || op == 0x0804 || op == 0x0A01 || op == 0x0A02 || op == 0x0901 ||
    op == 0x0903 || op == 0x0A0A || op / 256 == 0x0B || (0x0A03 ≤ op && op ≤ 0x0A08 && op != 0x0A07)

/-! ## Parameters -/

/-- The value of the parameter at a position, if given. -/
def VReq.param (q : VReq) (pos : Nat) : Option Bytes := (q.params.find? (·.pos == pos)).map (·.value)

/-- The parameter at a position as a number, or a default. -/
def VReq.num (q : VReq) (pos dflt : Nat) : Nat := ((q.param pos).map rdLe).getD dflt

/-- Whether a parameter was given. -/
def VReq.has (q : VReq) (pos : Nat) : Bool := q.params.any (·.pos == pos)

/-- Every value given at a position, in order. -/
def VReq.all (q : VReq) (pos : Nat) : List Bytes := (q.params.filter (·.pos == pos)).map (·.value)

/-- Whether one value suits a parameter (R80). -/
def VParam.fits (p : VParam) (v : Bytes) : Bool :=
  p.lens.any (fun g => g.1 ≤ v.length && v.length ≤ g.2) && (p.hi == 0 || (p.lo ≤ rdLe v && rdLe v ≤ p.hi))

/-- Step 9 of R77: R79 and R80, in the order R80 gives the faults. A TLV's identity is its position, so two of one position that differ in
bit 15 alone are the same type twice; a TLV of no known position whose bit 15 is clear is ignored however often it comes (DESIGN CHOICE,
log 86). -/
def VOp.checkParams (o : VOp) (q : VReq) : Option VStatus :=
  let n := o.params.length
  let known := fun (t : Tlv) => 1 ≤ t.pos && t.pos ≤ n
  if q.params.any fun t => !known t && t.required then some .paramUnknown
  else if (List.range n).any fun i => (o.params.getD i ⟨false, false, [], 0, 0⟩).req && !q.has (i + 1) then
    some .paramMissing
  else if (List.range n).any fun i =>
      let p := o.params.getD i ⟨false, false, [], 0, 0⟩
      (!p.rep && (q.all (i + 1)).length > 1) || (q.all (i + 1)).any (!p.fits ·) then some .paramInvalid
  else none

/-! ## Sessions and replies -/

/-- The session a request names, on its transport (R91). -/
def State.sessionOf (s : State) (via : Transport) (h : Nat) : Option Session :=
  s.vk.sessions.find? fun x => x.handle == h && x.via == via

/-- Whether a transport holds replies until they are fetched (R94). -/
def Transport.holds : Transport → Bool
  | .mg _ => false
  | _ => true

/-- The MG trailer's key: the current management key (R83). -/
def State.mgKey (s : State) : Bytes := ((s.ks.mgmt.cur.map (·.2))).getD []

/-! ## Replies as packets (R75, R76, R83) -/

/-- Trailer bytes of a transport (R75). -/
def Transport.trailer : Transport → Nat
  | .mg _ => 8
  | _ => 0

/-- Most payload bytes of a part on a transport (R76). -/
def Transport.maxPart (via : Transport) : Nat := 1048576 - 36 - via.trailer

/-- One reply packet without a trailer. -/
def VReply.packet (r : VReply) (part : Bytes) (more : Bool) : Bytes :=
  let h := le 2 0x564B ++ [1#8] ++ le 1 (1 + 2 * b2n more + 4 * b2n r.notice) ++ le 2 r.opcode ++ le 2 (vstat r.status) ++ le 4 r.tag ++
    le 4 0 ++ le 4 part.length ++ le 4 r.frame ++ le 4 r.session
  h ++ crcBytes h ++ part ++ crcBytes part

/-- The packets of a reply: parts of at most `n` payload bytes, each but the last with CONTINUED (R76). -/
def VReply.packets (r : VReply) (n : Nat) : List Bytes :=
  match pieces n r.payload with
  | [] => [r.packet [] false]
  | ps => (List.range ps.length).map fun i => r.packet (ps.getD i []) (i + 1 < ps.length)

/-- The CMAC trailer of a packet on MG; without a management key it is a free value (R83, log 86). -/
def State.mgTrailer (s : State) (p : Bytes) : Bytes := if s.mgKey.isEmpty then s.drawn 8 else (aesCmac s.mgKey p).take 8

/-- Send a reply or notice as packets, on MG each with its trailer. -/
def State.sendReply (s : State) (via : Transport) (r : VReply) : State :=
  (r.packets via.maxPart).foldl (fun t p =>
    if via.trailer = 0 then t.send (.virkan via p) else (t.send (.virkan via (p ++ t.mgTrailer p))).afterDraw) s

/-- Put a reply where its transport takes it: sent on MG; held on NVMe and SB. The reply of an outstanding request (`own`) takes the
place of its PENDING reply (R94); a notice, and the reply to a packet that was refused before it became a request of its session, has
none to replace. -/
def State.deliverAs (s : State) (own : Bool) (via : Transport) (r : VReply) : State :=
  if via.holds then
    s.vk' fun v => { v with
      held := v.held.filter (fun h => !(own && h.own && h.via == via && h.rep.session == r.session && h.rep.tag == r.tag)) ++
        [⟨via, r, s.ck.now, own⟩] }
  else s.sendReply via r

/-- Deliver the reply of an outstanding request. -/
def State.deliver (s : State) (via : Transport) (r : VReply) : State := s.deliverAs true via r

/-- Refuse a request at step 6 of R77: it does not become outstanding, so nothing of the session changes (R84, R92, R815). Its
reply, while it is held, takes none of the session's 32 places (R94; DESIGN CHOICE, log 93). -/
def State.turnAway (s : State) (q : VReq) (op : Nat) (st : VStatus) : State :=
  s.deliverAs false q.via ⟨op, st, q.tag, q.frame, q.session, false, []⟩

/-- Whether a status is of a final reply. -/
def VStatus.final : VStatus → Bool
  | .pending => false
  | _ => true

/-- Reply to a request. On MG a final reply ends the request's being outstanding; elsewhere fetching does (R94). -/
def State.replyTo (s : State) (w : Waiter) (st : VStatus) (payload : Bytes) : State :=
  let s := if st.final && !w.via.holds then
      s.session' w.session fun x => { x with outstanding := x.outstanding.erase w.tag }
    else s
  s.deliver w.via ⟨w.opcode, st, w.tag, w.frame, w.session, false, payload⟩

/-- The waiter a request makes. -/
def VReq.waiter (q : VReq) (op : Nat) : Waiter := ⟨q.via, q.session, q.tag, op, q.frame⟩

/-- The places a session's replies and notices take (R94): its outstanding requests and its held notices. -/
def State.placesTaken (s : State) (x : Session) : Nat :=
  x.outstanding.length + (s.vk.held.filter fun h => h.rep.notice && h.rep.session == x.handle).length

/-- What a notice that is lost takes with it: the records of its payload, those an E004 in it accounts for among them (R730). -/
def noticeLoss (payload : Bytes) : Nat × Nat × Nat × Nat :=
  ((pieces 64 (payload.drop 16)).filter (!·.isEmpty)).foldl (fun a r =>
    let lost := fld r 0 8 == 2 ^ 64 - 1
    let lo := if lost then fld r 26 8 else fld r 0 8
    let hi := if lost then fld r 34 8 else fld r 0 8
    (a.1 + (if lost then fld r 20 4 else 1), (if a.1 = 0 then lo else min a.2.1 lo), max a.2.2.1 hi, max a.2.2.2 (fld r 18 1))) (0, 0, 0, 0)

/-- Count a lost notice of a session with its records (R730). -/
def State.loseNotice (s : State) (handle : Nat) (payload : Bytes) : State :=
  let (n, lo, hi, sv) := noticeLoss payload
  let add := match s.ev.subLost.find? (·.1 == handle) with
    | some (_, k, n0, lo0, hi0, sv0) => (handle, k + 1, n0 + n, min lo0 lo, max hi0 hi, max sv0 sv)
    | none => (handle, 1, n, lo, hi, sv)
  ((s.ev' fun v => { v with subLost := v.subLost.filter (·.1 != handle) ++ [add] }).vk' fun v => { v with
    noticesLost := v.noticesLost + 1 }).stat 6 handle 1 1

/-- Take a place for a new request or notice: when all 32 are taken, the oldest notice held is discarded and
counted as lost (R94). -/
def State.freePlace (s : State) (x : Session) : State :=
  if s.placesTaken x < 32 then s
  else match s.vk.held.find? fun h => h.rep.notice && h.rep.session == x.handle with
    | some h => (s.vk' fun v => { v with held := v.held.erase h }).loseNotice x.handle h.rep.payload
    | none => s

/-- Reply and end: every refusal and simple answer. -/
def State.reply (s : State) (q : VReq) (op : Nat) (st : VStatus) (payload : Bytes) : State :=
  s.replyTo (q.waiter op) st payload

/-- The parameters of a request other than confirm, by position, as R96 compares them. -/
def VOp.others (o : VOp) (q : VReq) : List Tlv :=
  ((q.params.filter fun t => 1 ≤ t.pos && t.pos < o.params.length).map fun t => { t with required := false }).sortBy
    fun a b => a.pos ≤ b.pos

/-- Whether a request is the one a confirmation code was issued for (R96). -/
def Confirm.same (c : Confirm) (o : VOp) (q : VReq) : Bool :=
  c.opcode == o.op && c.frame == q.frame && c.payload == q.payload && o.others q == c.params

/-- Step 6 of R77: the session, then the tag (R84, R91, R92, R815). `none` goes on. TAG_IN_USE and OUTSTANDING_LIMIT are judged at this
step, in that order (DESIGN CHOICE, log 86). -/
def State.checkSession (s : State) (op : Nat) (q : VReq) : Option VStatus :=
  if op = 0x0101 then
    if q.tag = 0 || q.tag = 0xFFFFFFFF then some .paramInvalid else none
  else match s.sessionOf q.via q.session with
    | none => some .sessionUnknown
    | some x =>
      if q.tag = 0 || q.tag = 0xFFFFFFFF then some .paramInvalid
      else if !q.via.holds && (x.highTag.map fun h => !serialAbove q.tag h).getD false then some .replayed
      else if x.outstanding.contains q.tag then some .tagInUse
      else if x.outstanding.length ≥ 32 then some .outstandingLimit
      else none

/-- What passing step 6 does to the session: its idle time restarts, the highest tag rises on MG, the tag becomes
outstanding, and a confirmation code of any other request is void (R84, R91, R92, R96). SESSION_OPEN is a request of no session
that is open (R75, log 6). -/
def State.takeIn (s : State) (op : Nat) (q : VReq) : State :=
  match if op = 0x0101 then none else s.sessionOf q.via q.session with
  | none => s
  | some x =>
    let keep := match x.confirm, vop op with
      | some c, some o => if c.same o q then some c else none
      | _, _ => none
    (s.freePlace x).session' q.session fun x => { x with
      lastReq := s.ck.now
      highTag := if q.via.holds then x.highTag else some q.tag
      outstanding := x.outstanding ++ [q.tag]
      confirm := keep }

/-- OWNER_ENROLL runs at observer privilege only on SB while no owner key is enrolled (R90). -/
def State.needPriv (s : State) (o : VOp) (q : VReq) : Priv :=
  if o.op = 0x0801 && q.via == .sb && s.ks.owner.isNone then .observer else o.priv

/-- Step 8 of R77 (R87). -/
def State.checkPriv (s : State) (o : VOp) (q : VReq) : Option VStatus :=
  let need := privN (s.needPriv o q)
  if o.op = 0x0101 then none
  else match s.sessionOf q.via q.session with
    | none => some .sessionUnknown
    | some x =>
      if privN x.priv ≥ need then none
      else if privN x.opened ≥ need then some .authRequired
      else some .privilege

/-- The next commit ordinal lies in the last 2^32: no new change may be made (R45). -/
def State.ordSpent (s : State) : Bool := s.wx.nextOrd ≥ 2 ^ 64 - 2 ^ 32

/-- Steps 7 to 9 of R77, and what the catalogue says of every opcode that changes persistent state. -/
def State.checkOp (s : State) (op : Nat) (q : VReq) : Option VStatus :=
  match vop op with
  | none => some .unknownOpcode
  | some o =>
    if s.md.recovery && !servedInRecovery op then some .refusedRecovery
    else if s.ks.sealState == 2 && !servedErased op then some .keysErased
    else match s.checkPriv o q with
      | some st => some st
      | none => match o.checkParams q with
        | some st => some st
        | none => if o.changes && s.ordSpent then some .ordinalExhausted else none

/-- A discarding action without its code: refused with CONFIRM_REQUIRED and a fresh code of 8 bytes (R96). -/
def State.issueConfirm (s : State) (o : VOp) (q : VReq) : State :=
  let code := s.drawn 8
  let s := s.afterDraw.session' q.session fun x => { x with
    confirm := some ⟨o.op, q.frame, o.others q, q.payload, code, s.ck.now⟩ }
  s.reply q o.op .confirmRequired code

/-- Whether a discarding action carries the code issued for it within 60 s (R96). -/
def State.confirmed (s : State) (o : VOp) (q : VReq) : Bool :=
  match (s.sessionOf q.via q.session).bind (·.confirm), q.param o.params.length with
  | some c, some v => c.same o q && c.code == v && s.ck.now ≤ c.atNs + 60 * second
  | _, _ => false

/-- The head takes no request: it has stopped or halted (R194, R630), it sleeps (R764), or it serves Virkan on SB alone and the
request came elsewhere (R86, R708). -/
def State.deaf (s : State) (via : Transport) : Bool :=
  s.md.stopped || s.md.halted || s.pw.sleep.isSome || ((s.md.recovery || s.md.keyErased) && via != .sb)

/-- A Virkan request from step 6 of R77 on: the checks, then the opcode's own conditions and effect. -/
def State.virkan (s : State) (op : Nat) (q : VReq) (body : State → State) : State :=
  if s.deaf q.via then s else
  match s.checkSession op q with
  | some st => s.turnAway q op st
  | none =>
    let s := s.takeIn op q
    match s.checkOp op q with
    | some st => s.reply q op st []
    | none => match vop op with
      | none => s
      | some o =>
        if o.confirm && !s.confirmed o q then s.issueConfirm o q
        else body (if o.confirm then s.session' q.session fun x => { x with confirm := none } else s)

/-- Close a session: its Open and Checked frames are discarded, its subscription and held replies end (R91, R102,
R729). -/
def State.closeSession (s : State) (h : Nat) : State :=
  s.vk' fun v => { v with
    sessions := v.sessions.filter (·.handle != h)
    frames := v.frames.filter fun f => !(f.session == h && (f.state == .opened || f.state == .checked))
    held := v.held.filter fun r => !(r.rep.session == h && r.rep.notice) }

/-- End every session of a transport (R91). -/
def State.closeVia (s : State) (via : Transport) : State :=
  (s.vk.sessions.filter (·.via == via)).foldl (fun t x => t.closeSession x.handle) s

/-- Transport number of events and counters: 0 NVMe, 1 MG, 2 SB (DESIGN CHOICE, log 6). -/
def Transport.num : Transport → Nat
  | .nvme _ => 0
  | .mg _ => 1
  | .sb => 2

end Sys2Proof.Machine
end

