-- ==== Sys2Proof/Machine/WaxOps.lean ====
section
/-! DEFINITION. Wax: the length, place and writing of records (R165 to R171), the free space that holds new work
(R174, R180), the stripe journal (R224, R225) and the acceptance rule of each mode (R27, R169). -/

namespace Sys2Proof.Machine

/-! ## Lengths (R165 and the body layouts) -/

/-- Bytes of a MAP_CHANGE item (R271, R438). -/
def MapItem.size : MapItem → Nat
  | .chunkPlace .. => 32 | .chunkState .. => 16 | .chunkAlias .. => 24 | .nsMap .. => 24
  | .nsZero .. => 24 | .fpInsert .. => 48 | .fpRemove .. => 48 | .ledgerDrop .. => 16
  | .blockState .. => 16 | .stripeRelease .. => 16 | .snapFreeze .. => 16 | .treeDrop .. => 16
  | .pageDrop .. => 16 | .nsClone .. => 16 | .seqClaim .. => 16
  | .objectCreate .. => 56 | .objectState .. => 24 | .partAdd .. => 56 | .tokenDrop .. => 24
  | .openDrop .. => 24

/-- Body bytes of a record. ACCEPT_CONTROL and frame records, whose layout the spec does not give, count 128 bytes
and 8 bytes an item plus its value (DESIGN CHOICE, log 8). -/
def RecBody.size : RecBody → Nat
  | .acceptWrite _ _ _ _ data => data.length
  | .acceptPut _ data => 64 + data.length
  | .acceptControl _ => 128
  | .stripeCommit _ _ _ _ ms _ _ envs _ => 16 * ms.length + 16 * envs.length
  | .combState .. => 16
  | .mapChange items => (items.map (·.size)).sum
  | .refChange items => 8 * items.length
  | .chunkClaim _ => 0
  | .ringRelease items => 16 * items.length
  | .checkpoint _ _ _ _ pinned => 64 + 16 * pinned.length
  | .frameSchedule f => 32 + (f.items.map fun i => 8 + roundUp i.value.length 4).sum
  | .frameGo _ => 0
  | .frameEnd _ _ => 0
  | .modeChange _ => 0
  | .handover _ _ _ units => 4 * units.length
  | .keyChange _ _ _ _ _ _ body ckey =>
    match body with
    | some r => 80 + 64 + 80 * r.data.length + 48 * r.locs.length
    | none => if ckey.isEmpty then 0 else 80 + ckey.length
  | .replProgress .. => 16
  | .pad => 0

/-- Record length in 64-byte units: header, body and trailing CRC (R165). -/
def RecBody.units (b : RecBody) : Nat := max 2 ((64 + b.size + 4 + 63) / 64)

/-- A record that carries host data (R169). -/
def RecBody.isData : RecBody → Bool
  | .acceptWrite .. => true
  | .acceptPut .. => true
  | _ => false

/-- Units of a data ring (R160). -/
def dataRingUnits : Nat := 25165824
/-- Units of the own ring proper, after the four checkpoint slots (R160). -/
def ownRingUnits : Nat := 4063232
/-- Units of a half of the stripe journal (R224). -/
def journalUnits : Nat := 524288

/-- Bytes of a checkpoint slot; the ring proper of a half follows the four of them (R160). -/
def slotBytes : Nat := 0x200000

/-- Where a record lies in the region of its ring, in bytes: in the data ring, or in a half of the commit ring, whose ring proper follows
the four checkpoint slots (R160, R179). -/
def regionOff (ring : WaxRing) (off : Nat) : Nat :=
  match ring with
  | .data => 64 * off
  | .commit => 4 * slotBytes + 64 * off
  | .slot0 => 0
  | .slot1 => slotBytes
  | .slot2 => 2 * slotBytes
  | .slot3 => 3 * slotBytes

/-! ## Placement (R166, R171) -/

/-- Whether `[p, p + u)` meets a live record of the list. -/
def meets (live : List (Nat × Nat)) (p u : Nat) : Option (Nat × Nat) :=
  live.find? fun r => p < r.1 + r.2 && r.1 < p + u

/-- The place of a record of `u` units: past every live record that the write point reaches before the record fits, and at the start of
the ring when it would run past the end (R166, R171); the fuel is the number of live records twice over, and two more. -/
def placeAux (size : Nat) (live : List (Nat × Nat)) (u : Nat) : Nat → Nat → Nat
  | 0, p => p
  | n + 1, p =>
    match meets live p (min u (size - p)) with
    | some r => placeAux size live u n (r.1 + r.2)
    | none => if p + u > size then placeAux size live u n 0 else p

/-- Place a record in a ring. -/
def place (size : Nat) (live : List (Nat × Nat)) (wp u : Nat) : Nat :=
  placeAux size live u (2 * live.length + 2) wp

/-- Where the ring's rest begins that a PAD record fills, when the record does not fit before the ring's end (R166): no live record lies
in it, for the write point steps past those first (R171). -/
def padAux (size : Nat) (live : List (Nat × Nat)) (u : Nat) : Nat → Nat → Option Nat
  | 0, _ => none
  | n + 1, p =>
    match meets live p (min u (size - p)) with
    | some r => padAux size live u n (r.1 + r.2)
    | none => if p + u > size && p < size then some p else none

/-- The place of the PAD record before a record of `u` units, if one is written. -/
def padAt (size : Nat) (live : List (Nat × Nat)) (wp u : Nat) : Option Nat := padAux size live u (live.length + 1) wp

/-- Two spans of one ring share a line. -/
def overlaps (o1 u1 o2 u2 : Nat) : Bool := o1 < o2 + u2 && o2 < o1 + u1

/-- The live records of the data ring. -/
def State.liveData (s : State) : List WaxRec := s.wx.own.filter fun r => r.ring == .data && r.live

/-- Free bytes of the data ring (R174). -/
def State.dataFree (s : State) : Nat := 64 * (dataRingUnits - (s.liveData.map (·.units)).sum)


/-! ## The acceptance rule in force (R27, R169) -/

/-- The flash rule holds in Solo and in Takeover once the fence is raised (R69, R118). A head in a mode that accepts no work
and whose mirror is not confirmed takes its own records by the local copy too (DEDUCED, log 10). -/
def State.flashRule (s : State) : Bool :=
  match s.md.mode with
  | some .solo | some .takeover => s.pr.confirmedSolo
  | some .quiesce | some .rejoin | some .hold | some .watch | none => !s.pr.mirror
  | _ => false

/-- The head still sends its records to the peer (R176, R177). -/
def State.mirrors (s : State) : Bool := !s.flashRule && !s.pr.declared && s.md.mode != some .solo

/-- Records and journal entries stream to the peer: the mode mirrors, or the Rejoin copy runs (R176, R565). -/
def State.streams (s : State) : Bool := s.mirrors || s.pr.rejoin.isSome

/-- A record of this head's sequence is confirmed (R29, R30, R42). -/
def State.recConfirmed (s : State) (r : WaxRec) : Bool := r.localOk && (r.peerOk || !s.mirrors)

/-- Where the commit walk of a replay would start: the commit walk start of the newest confirmed checkpoint, or where the walk of the
last replay started (R180). -/
def State.walkStart (s : State) : Nat :=
  ((s.wx.own.filterMap fun r => match r.body with
    | .checkpoint _ c _ _ _ => if s.recConfirmed r then some (r.ordinal, c) else none
    | _ => none).foldl (fun a c => if a.1 < c.1 then c else a) (0, s.wx.walkStart)).2

/-- Free bytes of the own ring: what lies before the walk start of the newest confirmed checkpoint (R180). -/
def State.ownFree (s : State) : Nat :=
  64 * (ownRingUnits - (s.wx.commitWp + ownRingUnits - s.walkStart) % ownRingUnits)

/-- Commit order is still being restored at pair join: replay has ended, and the copies of the two sequences are not known to end alike
yet (R74, R183). Records asked for now are written once it is. -/
def State.joining (s : State) : Bool := s.bt.step == 11 || s.bt.step == 12 || s.wx.tailTo.isSome || s.wx.peerTo.isSome

/-- Send a record (contexts 2 and 3) or a journal entry (context 4) to the peer's wax at the same offset (R172, R224). -/
def State.mirrorPush (s : State) (ctx cookie len off : Nat) : State := s.postEntry ctx (plainEntry 1 len [] off 0 cookie)

/-! ## Writing records (R42, R165, R176) -/

/-- Ring number in counter class 0x0201: 0 data ring, 1 own ring, 2 checkpoint slots (DESIGN CHOICE, log 6). -/
def WaxRing.num : WaxRing → Nat
  | .data => 0
  | .commit => 1
  | _ => 2

/-- The slot's ring (R179). -/
def slotRing (n : Nat) : WaxRing :=
  match n % 4 with
  | 0 => .slot0 | 1 => .slot1 | 2 => .slot2 | _ => .slot3

/-- The ring a body goes to (R169). -/
def State.ringOf (s : State) (b : RecBody) : WaxRing :=
  match b with
  | .acceptWrite .. => .data
  | .acceptPut .. => .data
  | .checkpoint .. => slotRing s.wx.nextSlot
  | _ => .commit

/-- A request whose reply follows a record's acceptance is answered PENDING now (R93). -/
def State.owe (s : State) : After → State
  | .reply w _ _ => s.replyTo w .pending []
  | _ => s

/-- The lowest flush ordinal of the CHECKPOINTs among records: a replay from any of the four slots begins above it (R179, R181). -/
def ckFloor (bodies : List RecBody) : Nat :=
  match (bodies.filterMap fun b => match b with
    | .checkpoint f _ _ _ _ => some f
    | _ => none).min? with
  | some f => f
  | none => 0

/-- What lay in the units that a record now takes is gone (R171, R172). -/
def State.overwrite (s : State) (ring : WaxRing) (off u : Nat) : State :=
  s.wx' fun w => { w with
    own := w.own.filter fun r => !(r.ring == ring && overlaps off u r.off r.units)
    pads := w.pads.filter fun p => !(p.1 == ring && overlaps off u p.2.1 p.2.2) }

/-- Write the PAD record that fills a ring to its end: it has ordinal 0, counts as placed, and goes to the peer like any record (R166,
R172, R179). -/
def State.writePad (s : State) (ring : WaxRing) (off u : Nat) : State :=
  let s := s.overwrite ring off u
  let s := s.wx' fun w => { w with
    pads := w.pads ++ [(ring, off, u)]
    sinceCkpt := if ring == .commit then w.sinceCkpt + 64 * u else w.sinceCkpt }
  let s := (s.stat 0x201 ring.num 0 1).stat 0x202 (if ring == .data then 0 else 2) 0 (64 * u)
  if s.streams then s.mirrorPush (if ring == .data then 2 else 3) 0 (64 * u) (regionOff ring off) else s

/-- The written format of a structure (R664). -/
def State.fmt (s : State) (k : FmtKind) : Nat := s.up.written.getD k.num 1

/-- The running firmware reads a format of a structure (R664). -/
def State.readsFmt (s : State) (k : FmtKind) (n : Nat) : Bool := n == 1 || (1 < n && n ≤ s.up.formats.reads.getD k.num 1)

/-- Write a record: it takes the next ordinal and its place, and goes to the peer's wax where the mode mirrors. No
record is written once no ordinal remains (R45). -/
def State.putRec (s : State) (domain : Nat) (cont : Bool) (body : RecBody) (after : List After) : State :=
  if s.wx.nextOrd ≥ 2 ^ 64 then s
  else
    let u := body.units
    let ring := s.ringOf body
    let live := if ring == .data then s.liveData.map fun r => (r.off, r.units) else []
    let size := if ring == .data then dataRingUnits else ownRingUnits
    let wp := if ring == .data then s.wx.dataWp else s.wx.commitWp
    let isSlot := ring != .data && ring != .commit
    let off := if isSlot then 0 else place size live wp u
    let s := if isSlot then s else match padAt size live wp u with
      | some p => s.writePad ring p (size - p)
      | none => s
    let s := s.overwrite ring off u
    let ord := s.wx.nextOrd
    let r : WaxRec :=
      { ordinal := ord, ring := ring, off := off, units := u, epoch := s.wx.epoch, tick := s.ck.tick
        domain := domain, continued := cont, body := body, after := after, localOk := false
        peerOk := false, flashOk := false, accepted := false, live := body.isData, torn := false
        fmt := s.fmt .waxRecord }
    let s := s.wx' fun w => { w with
      own := w.own ++ [r], nextOrd := ord + 1
      dataWp := if ring == .data then off + u else w.dataWp
      commitWp := if ring == .commit then off + u else w.commitWp
      sinceCkpt := if ring == .commit then w.sinceCkpt + 64 * u else w.sinceCkpt }
    let s := (s.stat 0x201 ring.num 0 1).stat 0x202 (if ring == .data then 0 else 2) 0 (64 * u)
    if s.streams then s.mirrorPush (if ring == .data then 2 else 3) ord (64 * u) (regionOff ring off) else s

/-- Write a record, now or once the join has restored commit order (R74); a request whose reply follows it is answered PENDING. -/
def State.commitRec (s : State) (domain : Nat) (cont : Bool) (body : RecBody) (after : List After) : State :=
  if s.wx.nextOrd ≥ 2 ^ 64 then s
  else
    let s := after.foldl State.owe s
    if s.joining then s.wx' fun w => { w with later := w.later ++ [(domain, cont, body, after)] }
    else s.putRec domain cont body after

/-- The records that waited for the join are written, in the order in which they were asked for (R74). -/
def State.writeLater (s : State) : State :=
  s.wx.later.foldl (fun t e => t.putRec e.1 e.2.1 e.2.2.1 e.2.2.2) (s.wx' fun w => { w with later := [] })

/-- Write one record with what follows its acceptance. -/
def State.commit (s : State) (domain : Nat) (body : RecBody) (after : List After) : State :=
  s.commitRec domain false body after

/-- Write an ACCEPT_CONTROL record (R169). -/
def State.control (s : State) (domain : Nat) (c : CtlChange) (after : List After) : State :=
  s.commit domain (.acceptControl c) after

/-- Write a MAP_CHANGE record, or nothing for no items (R271). -/
def State.mapChange (s : State) (domain : Nat) (items : List MapItem) (after : List After) : State :=
  if items.isEmpty then s else s.commit domain (.mapChange items) after

/-- Write a REF_CHANGE record, or nothing for no entries (R270). -/
def State.refChange (s : State) (domain : Nat) (items : List RefItem) : State :=
  if items.isEmpty then s else s.commit domain (.refChange items) []

/-- Write a RING_RELEASE that names the live data ring records of the ordinals given (R173). -/
def State.ringRelease (s : State) (ords : List Nat) : State :=
  let items := (s.wx.own.filter fun r => r.ring == .data && r.live && ords.contains r.ordinal).map
    fun r => (⟨r.off, r.units, r.ordinal⟩ : RelItem)
  if items.isEmpty then s else s.commit 0xFFFF (.ringRelease items) []

/-- Cut data into the bodies of consecutive records: each but the last is CONTINUED (R170). -/
def State.commitChain (s : State) (domain : Nat) (after : List After) : List RecBody → State
  | [] => s
  | [b] => s.commitRec domain false b after
  | b :: bs => (s.commitRec domain true b []).commitChain domain after bs

/-- Most bytes of body in a record (R165). -/
def maxBody : Nat := 4194236

/-! ## The stripe journal (R224, R225) -/

/-- The live entries of the own half. -/
def State.liveJournal (s : State) : List JournalEntry := s.wx.journal.filter (·.live)

/-- Write an entry of the journal over what lay there; the peer writes it into its shadow half while the mode mirrors (R224, R226). -/
def State.writeEntry (s : State) (e : JournalEntry) : State :=
  let s := (s.wx' fun w => { w with
    journal := (w.journal.filter fun x => !overlaps e.off e.units x.off x.units) ++ [e]
    jSeq := w.jSeq + 1, jWp := e.off + e.units }).stat 0x202 6 0 (64 * e.units)
  if s.streams then s.mirrorPush 4 e.seq (64 * e.units) (64 * e.off) else s

/-- Write a journal entry, and before it the PAD entry that R166 calls for (R224). -/
def State.journal (s : State) (kind ord : Nat) (body : List Nat) (members : List Member) : State :=
  let bytes := match kind with
    | 0x01 => 16 * members.length
    | 0x03 => 16
    | 0x10 => 32
    | 0x11 => 32
    | _ => 0
  let u := max 2 ((64 + bytes + 4 + 63) / 64)
  let live := s.liveJournal.map fun e => (e.off, e.units)
  let off := place journalUnits live s.wx.jWp u
  let s := match padAt journalUnits live s.wx.jWp u with
    | some p => s.writeEntry
        { seq := s.wx.jSeq, head := s.headId, kind := 0x00, ord := 0, tick := s.ck.tick, epoch := s.wx.epoch, off := p
          units := journalUnits - p, body := [], members := [], localOk := true, peerOk := false, live := false
          fmt := s.fmt .journal }
    | none => s
  s.writeEntry
    { seq := s.wx.jSeq, head := s.headId, kind := kind, ord := ord, tick := s.ck.tick
      epoch := s.wx.epoch, off := off, units := u, body := body, members := members
      localOk := true, peerOk := false, live := kind != 0x02, fmt := s.fmt .journal }

/-- An entry is confirmed locally and, where the mode mirrors, by the peer's ACK (R226). -/
def State.entryConfirmed (s : State) (e : JournalEntry) : Bool :=
  e.localOk && (e.peerOk || !s.mirrors || !s.pr.mirror)

/-! ## Holding new work (R174, R175, R180) -/

/-- Judge the data ring's and the own ring's free space: holds begin and end with their events. -/
def State.judgeRings (s : State) : State :=
  let s := if !s.md.ringHeld && s.dataFree < 128 * 2 ^ 20 then
      (s.md' fun m => { m with ringHeld := true }).ev0 0x210 .warn []
    else if s.md.ringHeld && s.dataFree ≥ 256 * 2 ^ 20 then
      (s.md' fun m => { m with ringHeld := false }).ev0 0x211 .notice []
    else s
  if !s.md.ckptHeld && s.ownFree < 32 * 2 ^ 20 then
    (s.md' fun m => { m with ckptHeld := true }).ev0 0x212 .warn []
  else if s.md.ckptHeld && s.ownFree ≥ 64 * 2 ^ 20 then s.md' fun m => { m with ckptHeld := false }
  else s

end Sys2Proof.Machine
end

