-- ==== Sys2Proof/Machine/Tables2.lean ====
section
/-! DEFINITION. The metadata tables: chunk table and counts (R268 to R270), stripe table (R272, R273), media table
(R255), fingerprint index (R140), maps and snapshots (R274 to R280), ledger (R298). -/

namespace Sys2Proof.Machine

/-! ## Chunk table -/

/-- A chunk table entry. -/
def State.chunk? (s : State) (id : Nat) : Option Chunk := s.rd.chunks.find? (·.id == id)

/-- The stored bytes of a chunk ID. -/
def State.stored? (s : State) (id : Nat) : Option Stored := s.rd.store.find? (·.id == id)

/-- Change a chunk table entry. -/
def State.chunk' (s : State) (id : Nat) (f : Chunk → Chunk) : State :=
  s.rd' fun r => { r with chunks := updFirst (·.id == id) f r.chunks }

/-- Set a chunk table entry whole. -/
def State.putChunk (s : State) (c : Chunk) : State :=
  s.rd' fun r => { r with chunks := r.chunks.filter (·.id != c.id) ++ [c] }

/-- Change of a count: a count at 0xFF_FFFF stays there (R269). -/
def addRefs (refs : Nat) (delta : Int) : Nat :=
  if refs ≥ 0xFFFFFF then 0xFFFFFF else min 0xFFFFFF ((refs : Int) + delta).toNat

/-- Add to a chunk's reference count; ID 0 names no chunk. -/
def State.addRef (s : State) (id : Nat) (delta : Int) : State :=
  if id = 0 then s else s.chunk' id fun c => { c with refs := addRefs c.refs delta }

/-- The chunk an ALIAS stands for, or the chunk itself; aliases do not chain beyond the fuel. -/
def State.resolveAlias (s : State) : Nat → Nat → Nat
  | 0, id => id
  | n + 1, id => match s.chunk? id with
    | some c => if c.state == .aliased then s.resolveAlias n c.target else id
    | none => id

/-! ## Stripe table -/

/-- A stripe table entry. -/
def State.stripe? (s : State) (ord : Nat) : Option Stripe := s.sp.table.find? (·.ord == ord)

/-- Change a stripe table entry. -/
def State.stripe' (s : State) (ord : Nat) (f : Stripe → Stripe) : State :=
  s.sp' fun p => { p with table := updFirst (·.ord == ord) f p.table }

/-- Add to a stripe's live units (R272). -/
def State.addLive (s : State) (ord : Nat) (n : Int) : State :=
  s.stripe' ord fun t => { t with live := ((t.live : Int) + n).toNat }

/-- Units of a block set that one unit of a region takes: a tall unit is two SLC units (R819). -/
def regionUnits : Region → Nat
  | .tall => 2
  | _ => 1

/-- Bytes of a unit of a region (R202, R819). -/
def unitBytes : Region → Nat
  | .brood => 65536 | .honey => 262144 | .tall => 131072

/-- 64-byte units of a unit of a region (R206). -/
def unitW (r : Region) : Nat := unitBytes r / 64

/-- 64-byte units of a stripe's data space: k = n − 2 data units (R201, R206). -/
def dataSpace (r : Region) (n : Nat) : Nat := (n - 2) * unitW r

/-! ## Media table -/

/-- A block set's entry. -/
def State.set? (s : State) (link die block : Nat) : Option BlockSet :=
  s.me.sets.find? fun b => b.link == link && b.die == die && b.block == block

/-- Change a block set's entry. -/
def State.set' (s : State) (link die block : Nat) (f : BlockSet → BlockSet) : State :=
  s.me' fun m => { m with sets := updFirst (fun b => b.link == link && b.die == die && b.block == block) f m.sets }

/-- Add to the units held of the block sets that members lie in (R255, R273). -/
def State.holdUnits (s : State) (ms : List Member) (n : Int) : State :=
  ms.foldl (fun t m => t.set' m.link m.die m.block fun b => { b with held := ((b.held : Int) + n).toNat }) s

/-- Block use codes (R255); wear moves carry 6. -/
def useOfPurpose : Purpose → BlockUse
  | .landing => .landing | .fold => .fold | .metadata => .metadata | _ => .gc

/-! ## Fingerprint index (R140) -/

/-- The index entry of a fingerprint in a domain. -/
def State.fp? (s : State) (domain : Nat) (fp : Bytes) : Option FpEntry :=
  s.rd.fps.find? fun e => e.domain == domain && e.fp == fp

/-- Remove a chunk's index entries. -/
def State.dropFp (s : State) (chunk : Nat) : State :=
  s.rd' fun r => { r with fps := r.fps.filter (·.chunk != chunk) }

/-! ## Domain keys on chip (R690) -/

/-- Every message in the engine that has not finished. -/
def SealPart.running (v : SealPart) : List SealMsg :=
  (v.xts.filterMap id) ++ (v.cmac.filterMap id) ++ v.slots ++ v.queue

/-- Evict the least recently used records that no message holds while more than 4,096 are on chip; one is kept (R1, R690). -/
def State.evictKeys (s : State) (keep : Nat) : State :=
  let chip := s.ks.recs.filter (·.onChip)
  let held := fun (d : Nat) => s.se.running.any fun m => m.req.keyClass == 6 && m.req.keyIndex == d && !m.waitKey
  let out := ((((chip.filter fun r => r.domain != keep && !held r.domain).sortBy fun a b => a.lastUse ≤ b.lastUse).take
    (chip.length - 4096)).map (·.domain))
  if out.isEmpty then s
  else (s.ks' fun k => { k with recs := k.recs.map fun r => if out.contains r.domain then { r with onChip := false } else r }).stat
    0x0107 0 1 out.length

/-! ## The summary filter's builds (R137, R139) -/

/-- Blocks of a filter: 24.5 GiB of 64-byte blocks for each hive in service, which is 8 bits for each chunk the apiary can hold (R137,
R191). -/
def State.filterSize (s : State) : Nat := 411041792 * max 1 (s.hv.hives.filter (·.inService)).length

/-- A filter build begins: E310 (R139). -/
def State.beginFilter (s : State) : State :=
  (s.rd' fun r => { r with filterNew := some [], filterNewBlocks := s.filterSize }).ev0 0x310 .notice [0#8]

/-- The filter is not complete, and a build of it begins: inline de-duplication waits for its end (R139). -/
def State.restartFilter (s : State) : State := (s.rd' fun r => { r with filterReady := false }).beginFilter

/-! ## Releasing a stripe (R270, R273) -/

/-- The record that wrote a stripe's present members lies before a record, given by ordinal, side and tick, in the commit order of the
hive's metadata unit: in one sequence by ordinal, across the two by tick (R46, R820). -/
def Stripe.precedes (t : Stripe) (r : Nat × Side × Nat) : Bool :=
  if t.commitSide == r.2.1 then t.builtOrd < r.1 else t.commitTick < r.2.2

/-- The members of a stripe whose block sets count its units: not those that lay on a comb whose slot has a replacement,
of a stripe committed before that comb failed (R255, R820). -/
def State.heldMembers (s : State) (t : Stripe) : List Member :=
  t.members.filter fun m => !(((s.link? m.link).any (·.comb == .replacement)) &&
    (s.sp.marked.find? (·.1 == m.link)).any fun k => t.precedes k.2)

/-- Release a stripe: its block sets hold its units no longer, and each chunk still placed there with a count of 0
becomes FREE without index entry or bytes. -/
def State.releaseStripe (s : State) (ord : Nat) : State :=
  match s.stripe? ord with
  | none => s
  | some t =>
    if t.released then s
    else
      let s := s.holdUnits (s.heldMembers t) (-(regionUnits t.region : Int))
      let s := s.stripe' ord fun t => { t with released := true, live := 0 }
      let dead := (s.rd.chunks.filter fun c => c.state == .stored && c.place.ordinal == ord && c.refs == 0).map (·.id)
      s.rd' fun r => { r with
        chunks := r.chunks.map fun c => if dead.contains c.id then { c with state := .free } else c
        fps := r.fps.filter fun e => !dead.contains e.chunk
        store := r.store.filter fun e => !dead.contains e.id }

/-! ## Map pages (R274, R276) -/

/-- A map page. -/
def State.page? (s : State) (d key : Nat) : Option MapPage :=
  s.vo.pages.find? fun p => p.domain == d && p.key == key

/-- Change a map page. -/
def State.page' (s : State) (d key : Nat) (f : MapPage → MapPage) : State :=
  s.vo' fun v => { v with pages := updFirst (fun p => p.domain == d && p.key == key) f v.pages }

/-- The next map page key of a domain (R259). -/
def State.mapKey (s : State) (d : Nat) : Nat := ((s.vo.nextKey.find? (·.1 == d)).map (·.2)).getD 1

/-- Add a page under the domain's next key. -/
def State.addPage (s : State) (p : MapPage) : State :=
  s.vo' fun v => { v with
    pages := v.pages ++ [{ p with key := s.mapKey p.domain }]
    nextKey := assocSet v.nextKey p.domain (s.mapKey p.domain + 1) }

/-- Add to the share counts of an inner page's children (R276). -/
def State.shareKids (s : State) (d : Nat) (kids : List (Nat × Nat)) : State :=
  kids.foldl (fun t k => t.page' d k.2 fun p => { p with share := p.share + 1 }) s

/-- Make a page this tree's own: when several point to it, it is copied (R276). The key of the page to write. -/
def State.ownPage (s : State) (d key : Nat) : State × Nat :=
  match s.page? d key with
  | none => (s, key)
  | some p =>
    if p.share ≤ 1 then (s, key)
    else
      let nk := s.mapKey d
      let s := (s.page' d key fun p => { p with share := p.share - 1 }).addPage { p with share := 1 }
      let s := if p.leaf then p.ents.foldl (fun t e => t.addRef e.chunk 1) s else s.shareKids d p.kids
      (s, nk)

/-- Set an entry of a leaf, with the counts of the new and the old chunk (R276). -/
def State.setLeaf (s : State) (d key k chunk : Nat) (zero : Bool) : State :=
  match s.page? d key with
  | none => s
  | some p =>
    let old := ((p.ents.find? (·.k == k)).map (·.chunk)).getD 0
    let ents := p.ents.filter (·.k != k)
    let s := s.page' d key fun p => { p with
      ents := if chunk = 0 && !zero then ents else ents ++ [⟨k, chunk, zero⟩] }
    (s.addRef chunk 1).addRef old (-1)

/-- Set the entry of namespace chunk `k` below a page of a level (0 a leaf), copying shared pages on the path. The
key the parent must hold. -/
def State.mapSet (s : State) (d : Nat) : Nat → Nat → Nat → Nat → Bool → State × Nat
  | 0, key, k, chunk, zero =>
    let (s, key) := s.ownPage d key
    (s.setLeaf d key (k % 2048) chunk zero, key)
  | n + 1, key, k, chunk, zero =>
    let (s, key) := s.ownPage d key
    let idx := k / 2048 ^ (n + 1) % 2048
    let kid := (((s.page? d key).map (·.kids)).getD []).find? (·.1 == idx)
    let (s, child) := match kid with
      | some c => (s, c.2)
      | none => (s.addPage ⟨d, 0, n == 0, [], [], 1⟩, s.mapKey d)
    let (s, child) := s.mapSet d n child k chunk zero
    (s.page' d key fun p => { p with kids := p.kids.filter (·.1 != idx) ++ [(idx, child)] }, key)

/-- The entry of namespace chunk `k` below a page of a level. -/
def State.mapGet (s : State) (d : Nat) : Nat → Nat → Nat → Option MapEnt
  | 0, key, k => ((s.page? d key).map (·.ents)).bind fun l => l.find? (·.k == k % 2048)
  | n + 1, key, k =>
    match (((s.page? d key).map (·.kids)).getD []).find? (·.1 == k / 2048 ^ (n + 1) % 2048) with
    | some c => s.mapGet d n c.2 k
    | none => none

/-- Inner levels of the tree of least depth that covers a size in bytes; the fuel bounds the depth (R274). -/
def treeDepth (size : Nat) : Nat → Nat → Nat
  | 0, n => n
  | f + 1, n => if (size + 16383) / 16384 ≤ 2048 ^ (n + 1) then n else treeDepth size f (n + 1)

/-- A namespace. -/
def State.ns? (s : State) (nsid : Nat) : Option Namespace := s.vo.nss.find? (·.nsid == nsid)

/-- Change a namespace. -/
def State.ns' (s : State) (nsid : Nat) (f : Namespace → Namespace) : State :=
  s.vo' fun v => { v with nss := updFirst (·.nsid == nsid) f v.nss }

/-- A domain. -/
def State.domain? (s : State) (d : Nat) : Option Domain := s.vo.domains.find? (·.id == d)

/-- Change a domain. -/
def State.domain' (s : State) (d : Nat) (f : Domain → Domain) : State :=
  s.vo' fun v => { v with domains := updFirst (·.id == d) f v.domains }

/-- A snapshot. -/
def State.snap? (s : State) (nsid snap : Nat) : Option Snapshot :=
  s.vo.snaps.find? fun p => p.nsid == nsid && p.id == snap

/-- Set one map entry of a namespace's live tree (R276). -/
def State.nsSet (s : State) (nsid k chunk : Nat) (zero : Bool) : State :=
  match s.ns? nsid with
  | none => s
  | some n =>
    let (s, root) := s.mapSet n.domain n.depth n.root k chunk zero
    s.ns' nsid fun n => { n with root := root }

/-- The map entry of chunk `k` of a namespace's live tree. -/
def State.nsGet (s : State) (nsid k : Nat) : Option MapEnt :=
  (s.ns? nsid).bind fun n => s.mapGet n.domain n.depth n.root k

/-- Grow a tree to the depth a size asks for: the old root becomes the first child of a new root (R274); the fuel
is the number of levels. -/
def State.growTree (s : State) (d : Nat) : Nat → Nat → State × Nat
  | 0, root => (s, root)
  | n + 1, root =>
    let nk := s.mapKey d
    (s.addPage ⟨d, 0, false, [], [(0, root)], 1⟩).growTree d n nk

/-! ## Snapshots and drops (R278 to R280) -/

/-- A copy of a tree root with a key of its own; each child is shared once more. The key of the copy. -/
def State.copyRoot (s : State) (d root : Nat) : State × Nat :=
  match s.page? d root with
  | none => (s, root)
  | some p =>
    let nk := s.mapKey d
    ((s.addPage { p with share := 1 }).shareKids d p.kids, nk)

/-- Freeze a namespace's tree into a snapshot (R278). -/
def State.snapFreeze (s : State) (nsid snap tick : Nat) (label : Bytes) : State :=
  match s.ns? nsid with
  | none => s
  | some n =>
    if (s.snap? nsid snap).isSome then s
    else
      let (s, root) := s.copyRoot n.domain n.root
      let s := s.vo' fun v => { v with
        snaps := v.snaps ++ [⟨nsid, snap, n.nextGen, label, root, n.depth, n.size, tick⟩] }
      s.ns' nsid fun n => { n with nextGen := n.nextGen + 1 }

/-- Make a writable namespace from a snapshot (R280). -/
def State.nsClone (s : State) (src snap new : Nat) : State :=
  match s.snap? src snap, s.ns? src with
  | some p, some n =>
    if (s.ns? new).isSome then s
    else
      let (s, root) := s.copyRoot n.domain p.root
      s.vo' fun v => { v with nss := v.nss ++ [⟨new, n.domain, p.size, n.discard, root, p.depth, 1⟩] }
  | _, _ => s

/-- Remove a snapshot or the live tree at once; its pages wait in the pending drops (R279). -/
def State.treeDrop (s : State) (nsid snap : Nat) : State :=
  match s.ns? nsid with
  | none => s
  | some n =>
    if snap = 0xFFFFFFFF then
      s.vo' fun v => { v with
        drops := v.drops ++ [(n.domain, n.root, n.depth)]
        nss := v.nss.filter (·.nsid != nsid) }
    else match s.snap? nsid snap with
      | some p => s.vo' fun v => { v with
          drops := v.drops ++ [(n.domain, p.root, p.depth)]
          snaps := v.snaps.filter fun q => !(q.nsid == nsid && q.id == snap) }
      | none => s

/-- One step of a drop cascade (R279). -/
def State.pageDrop (s : State) (d key : Nat) : State :=
  match s.page? d key, s.vo.drops.find? fun e => e.1 == d && e.2.1 == key with
  | some p, some e =>
    let s := s.vo' fun v => { v with drops := v.drops.erase e }
    if p.share > 1 then s.page' d key fun p => { p with share := p.share - 1 }
    else
      let s := s.vo' fun v => { v with pages := v.pages.filter fun q => !(q.domain == d && q.key == key) }
      if p.leaf then p.ents.foldl (fun t x => t.addRef x.chunk (-1)) s
      else s.vo' fun v => { v with drops := v.drops ++ p.kids.map fun k => (d, k.2, e.2.2 - 1) }
  | none, some e => s.vo' fun v => { v with drops := v.drops.erase e }
  | _, none => s

/-! ## The ledger (R298, R301) -/

/-- Add a ledger entry for a manifest's old place; E530 at 90 % and E531 when full (R301). -/
def State.ledgerAdd (s : State) (e : LedgerEntry) : State :=
  let s := s.vo' fun v => { v with ledger := v.ledger ++ [e] }
  let n := s.vo.ledger.length
  let s := if n ≥ 3865470566 && !s.vo.ledger90 then
      (s.vo' fun v => { v with ledger90 := true }).ev0 0x530 .warn []
    else s
  if n = 2 ^ 32 then s.ev0 0x531 .error [] else s

/-- Keep only the ledger entries that pass; E532 when the count falls below 90 % (R300, R301). -/
def State.ledgerKeep (s : State) (p : LedgerEntry → Bool) : State :=
  let s := s.vo' fun v => { v with ledger := v.ledger.filter p }
  if s.vo.ledger90 && s.vo.ledger.length < 3865470566 then
    (s.vo' fun v => { v with ledger90 := false }).ev0 0x532 .notice []
  else s

/-- Remove a ledger entry (R300). -/
def State.ledgerDrop (s : State) (d : Nat) (old : Place) : State := s.ledgerKeep fun e => !(e.domain == d && e.old == old)

/-- The ledger is full: no manifest is moved (R301). -/
def State.ledgerFull (s : State) : Bool := s.vo.ledger.length ≥ 2 ^ 32

/-! ## Ownership (R17, R18, R537) -/

/-- The owner of a unit, by the ownership table; a domain without an entry belongs to its own side field, a brood
half to its side. -/
def State.ownerOf (s : State) (u : OwnUnit) : Option Side :=
  match s.pr.owners.find? (·.1 == u), u with
  | some e, _ => some e.2
  | none, .domain d => (s.domain? d).map (·.side)
  | none, .honey h => (s.hive? h).bind (·.owner)
  | none, .brood d => some d

/-- This head owns a unit. -/
def State.owns (s : State) (u : OwnUnit) : Bool := s.ownerOf u == some s.pr.side

/-- A link at the head that has never been brought up. -/
def freshLink (link : Nat) : Link :=
  { link := link, state := .powerDown, bridgeSeen := false, half := false, txSeq := 0, rxSeq := 0, nakSent := false
    unacked := [], waiting := [], resends := 0, rxSinceAck := 0, crcTimes := [], retrainTimes := [], stepFails := 0, since := 0
    downSince := none, hive := link / 16, slot := link % 16, serial := 0, dieCount := 0, descs := [], epoch := 0
    noFence := false, owner := 0xFFFF, comb := .absent, retired := false, tasks := [], nextTag := 1, timeouts := []
    progFails := [], failedTasks := [], deadDies := [], blockedDies := [], version := 0 }

/-- A link's end at the head, new when it was never used. -/
def State.withLink (s : State) (link : Nat) : State :=
  if (s.link? link).isSome || link ≥ 128 then s else s.cl' fun c => { c with links := c.links ++ [freshLink link] }

/-- The apiary has no honey hive: honey regions lie in the brood hives (R15). -/
def State.noHoney (s : State) : Bool := s.hv.hives.all fun h => h.brood || !h.inService

/-- Number of working combs' links of a hive, in ascending slot order (R205): up, and not failed, retired or absent.
A comb under COMB_RETIRE stays among them until it is retired, so new stripes and rebuilt units may still go to it (R243; DESIGN CHOICE,
log 88: the spec is silent). -/
def State.workingLinks (s : State) (h : Nat) : List Nat :=
  ((s.cl.links.filter fun l => l.hive == h && (l.comb == .working || l.comb == .replacement)).map (·.link)).sortBy
    (· ≤ ·)

/-- Whether a die of a brood comb is this head's own (R18): side A the lower half, the larger when odd. After a
takeover the survivor owns both halves. -/
def State.ownDie (s : State) (l : Link) (die : Nat) : Bool :=
  let half := (l.dieCount + 1) / 2
  let d : Side := if die < half then .a else .b
  s.owns (.brood d)

/-- The die of a comb whose block sets 0 and 1 hold this head's anchors: the lowest-numbered of its own side (R18, R264). -/
def State.anchorDie (s : State) (l : Link) : Option Nat :=
  let half := (l.dieCount + 1) / 2
  (List.range l.dieCount).find? fun d => decide (d < half) == (s.pr.side == .a)

/-- The hive is a brood hive (R14). -/
def State.isBrood (s : State) (h : Nat) : Bool := ((s.hive? h).map (·.brood)).getD false

/-- Stripes that this head rebuilds: its own in a brood hive, every one of a honey hive that it owns (R233). Only this
apiary's heads open stripes in its hives, under their present or former IDs, whose parity is the side (R8, R601). -/
def State.minesStripe (s : State) (t : Stripe) : Bool :=
  if s.isBrood t.hive then
    t.opener % 2 == sideN s.pr.side || s.owns (.brood (otherSide s.pr.side))
  else s.owns (.honey t.hive)

end Sys2Proof.Machine
end

