-- ==== Sys2Proof/Machine/Apply.lean ====
section
/-! DEFINITION. What applying a record of a commit sequence does to the metadata tables (R43, R223, R271, R438,
R520, R527, R544, R693): acceptance, start replay and the shadow copy of the peer's sequence all use it. -/

namespace Sys2Proof.Machine

/-! ## The ship log (R520 to R522) -/

/-- The fingerprint of a chunk, empty when this head holds no bytes for it. -/
def State.fpOf (s : State) (chunk : Nat) : Bytes := ((s.stored? chunk).map (·.fp)).getD []

/-- Content length of a chunk. -/
def State.lenOf (s : State) (chunk : Nat) : Nat := ((s.stored? chunk).map (·.content.length)).getD 0

/-- An object by the model's key. -/
def State.obj? (s : State) (key : Nat) : Option Obj := s.ob.objs.find? (·.key == key)

/-- Change an object. -/
def State.obj' (s : State) (key : Nat) (f : Obj → Obj) : State :=
  s.ob' fun o => { o with objs := updFirst (·.key == key) f o.objs }

/-- The object a token of a domain points at (R439). -/
def State.objOfToken (s : State) (d : Nat) (token : Bytes) : Option Obj :=
  (s.ob.tokens.find? fun t => t.domain == d && t.token == token).bind fun t => s.obj? t.key

/-- A group ships by snapshots (R532). -/
def State.snapMode (s : State) (g : Nat) : Bool := s.setting (0x07000001 + g * 0x100) == 1

/-- Items that a group of mode 1 keeps in its log (R532). -/
def ShipItem.always : ShipItem → Bool
  | .snapFreeze .. => true
  | .nsClone .. => true
  | .nsCreate .. => true
  | .nsResize .. => true
  | .snapCreate .. => true
  | .key .. => true
  | _ => false

/-- Chunks that a map item names, which its ship entry counts (R522). -/
def MapItem.named (s : State) : MapItem → List Nat
  | .nsMap _ _ chunk _ => if chunk = 0 then [] else [chunk]
  | .objectCreate _ key _ _ _ _ _ =>
    ((s.obj? key).map fun o => o.parts.flatMap fun p => p.chunks.map (·.1)).getD []
  | _ => []

/-- The form in which a map item ships, for the items that ship (R520, R521). -/
def MapItem.ship (s : State) : MapItem → Option ShipItem
  | .nsMap nsid k chunk zero => some (.nsMap nsid k (s.fpOf chunk) (s.lenOf chunk) zero)
  | .nsZero nsid first count => some (.nsZero nsid first count)
  | .snapFreeze nsid snap label => some (.snapFreeze nsid snap label)
  | .nsClone src snap new => some (.nsClone src snap new)
  | .objectCreate d key _ len token digest multi =>
    let ps := ((s.obj? key).map (·.parts)).getD []
    some (.objCreate d token len digest multi (ps.flatMap fun p => p.chunks.map fun c => (s.fpOf c.1, c.2))
      (ps.map fun p => (p.num, p.chunks.length)))
  | .objectState d key released retain =>
    some (.objState d (((s.obj? key).map (·.token)).getD []) released retain)
  | _ => none

/-- Bytes of a ship entry (DESIGN CHOICE, log 8): 32, and 48 for each item and leaf. -/
def shipSize (items : List ShipItem) : Nat :=
  32 + (items.map fun i => match i with
    | .objCreate _ _ _ _ _ leaves cuts => 48 + 36 * leaves.length + 8 * cuts.length
    | .key _ _ w => 48 + w.length
    | _ => 48).sum

/-- Append a ship entry to one group's log. -/
def RGroup.append (g : RGroup) (head ord tick now : Nat) (items : List ShipItem) (chunks : List Nat) : RGroup :=
  { g with
    nextSeq := g.nextSeq + 1
    log := g.log ++ [⟨g.nextSeq, head, ord, tick, items, shipSize items, chunks⟩]
    openSince := some (g.openSince.getD now) }

/-- Append the shipped items of a record to the log of every group of the domain (R520). -/
def State.shipAppend (s : State) (head ord tick domain : Nat) (items : List ShipItem) (chunks : List Nat) : State :=
  s.rp.groups.foldl (fun t g =>
    if g.domains.contains domain && g.state != .refused then
      let its := if t.snapMode g.id then items.filter (·.always) else items
      if its.isEmpty then t
      else
        let named := if t.snapMode g.id then [] else chunks
        let t := named.foldl (fun u c => u.addRef c 1) t
        t.rp' fun r => { r with
          groups := updFirst (·.id == g.id) (·.append head ord tick t.ck.now its named) r.groups }
    else t) s

/-- Trim a group's log up to a sequence and drop its counts (R522). -/
def State.shipTrim (s : State) (g seq : Nat) : State :=
  match s.rp.groups.find? (·.id == g) with
  | none => s
  | some r =>
    let gone := (r.log.filter (·.seq ≤ seq)).flatMap (·.chunks)
    let s := gone.foldl (fun t c => t.addRef c (-1)) s
    s.rp' fun p => { p with
      groups := updFirst (·.id == g) (fun x => { x with log := x.log.filter (seq < ·.seq) }) p.groups }

/-- Drop the entries of a base pass or a shipped snapshot, and the counts they hold (R528, R532). -/
def State.dropBase (s : State) (g : Nat) : State :=
  match s.rp.groups.find? (·.id == g) with
  | none => s
  | some r =>
    let s := (r.baseLog.flatMap (·.chunks)).foldl (fun t c => t.addRef c (-1)) s
    s.rp' fun p => { p with
      groups := updFirst (·.id == g) (fun x => { x with baseLog := [], baseNext := 1 }) p.groups }

/-! ## Namespaces and domains as ACCEPT_CONTROL changes them -/

/-- Add a namespace with an empty tree of its least depth (R274). -/
def State.addNs (s : State) (domain nsid size : Nat) (mode : Discard) : State :=
  if (s.ns? nsid).isSome then s
  else
    let root := s.mapKey domain
    let s := s.addPage ⟨domain, 0, false, [], [], 1⟩
    let base : Namespace := ⟨nsid, domain, size, mode, root, 1, 1⟩
    let depth := treeDepth size 5 1
    let (s, root) := s.growTree domain (depth - 1) root
    s.vo' fun v => { v with nss := v.nss ++ [{ base with root := root, depth := depth }] }

/-- Resize a namespace: a longer tree grows at the root; what lies past a shorter size is no longer mapped (R421). -/
def State.resizeNs (s : State) (nsid size : Nat) : State :=
  match s.ns? nsid with
  | none => s
  | some n =>
    let depth := max n.depth (treeDepth size 5 1)
    let (s, root) := s.growTree n.domain (depth - n.depth) n.root
    s.ns' nsid fun n => { n with root := root, depth := depth, size := size }

/-- Remove the objects of a domain: their manifests, and the PART manifests of those that are open, give up the counts that the records
held (R435, R468). -/
def State.dropObjs (s : State) (d : Nat) : State :=
  let ms := (s.ob.objs.filter fun o => o.domain == d).flatMap fun o =>
    if o.state == .live || o.state == .released then (if o.top = 0 then [] else [o.top])
    else (o.parts.filter (·.added)).map (·.manifest)
  let s := ms.foldl (fun t c => t.addRef c (-1)) s
  s.ob' fun o => { o with
    objs := o.objs.filter (·.domain != d), tokens := o.tokens.filter (·.domain != d), walks := o.walks ++ ms.map fun c => (d, c) }

/-- Remove a domain and everything it holds (R98, R471). -/
def State.dropDomain (s : State) (d : Nat) : State :=
  let s := (s.vo.nss.filter (·.domain == d)).foldl (fun t n =>
    (t.vo.snaps.filter (·.nsid == n.nsid)).foldl (fun u p => u.treeDrop n.nsid p.id) t |>.treeDrop n.nsid 0xFFFFFFFF) s
  let s := s.dropObjs d
  let s := (s.vo' fun v => { v with domains := v.domains.filter (·.id != d) }).ledgerKeep (·.domain != d)
  let s := s.vk' fun v => { v with settings := v.settings.filter fun e => !(e.1 / 2 ^ 24 == 3 && (e.1 - 0x03000000) / 0x100 == d) }
  s.pr' fun p => { p with
    owners := p.owners.filter (·.1 != .domain d), homes := p.homes.filter (·.1 != .domain d) }

/-- Add a domain (R98, R537, R538). -/
def State.addDomain (s : State) (d : Nat) (side : Side) (horizon : Nat) (replica : Bool) : State :=
  if (s.domain? d).isSome then s
  else
    let s := s.vo' fun v => { v with
      domains := v.domains ++ [⟨d, side, side, horizon, replica, false, false, false⟩] }
    s.pr' fun p => { p with
      owners := assocSet p.owners (.domain d) side, homes := assocSet p.homes (.domain d) side }

/-! ## MAP_CHANGE items (R271, R438) -/

/-- Time of a tick (R747): tick × 1 ms; acceptance times in records are judged by it (log 7). -/
def tickNs (tick : Nat) : Nat := tick * milli

/-- Remove a stored chunk's weight from its stripe (R272). -/
def State.unlive (s : State) (c : Chunk) : State :=
  if c.state == .stored then s.addLive c.place.ordinal (-(c.len : Int)) else s

/-- CHUNK_PLACE: moves the chunk when its entry still holds the old place; a manifest leaves a ledger entry, and does not move while the
ledger holds 2^32 of them (R271, R298, R301). The stripe it moves to has been placed (R290). -/
def State.placeChunk (s : State) (id domain tick : Nat) (new : Place) (len hive : Nat) (old : Place) : State :=
  let s := s.stripe' new.ordinal fun t => { t with placed := true }
  match s.chunk? id with
  | none => s
  | some c =>
    if c.state == .stored && c.place == old && !(c.manifest && s.ledgerFull) then
      let s := ((s.addLive old.ordinal (-(c.len : Int))).addLive new.ordinal len).chunk' id fun c => { c with
        place := new, len := len, hive := hive }
      if c.manifest then s.ledgerAdd ⟨old, id, domain, tick⟩ else s
    else s

/-- OBJECT_CREATE: the object becomes LIVE; its token points at it (R438). -/
def State.objectCreate (s : State) (d key top len tick : Nat) (token digest : Bytes) (multi : Bool) : State :=
  if (s.obj? key).isSome then
    s.obj' key fun o => { o with
      state := .live, top := top, len := len, digest := digest, multi := multi, created := tick }
  else s.ob' fun b => { b with
    objs := b.objs ++ [⟨d, token, .live, multi, top, len, digest, [], 0, tick, 0, 0, key⟩]
    tokens := if token.all (· == 0) then b.tokens else b.tokens ++ [⟨d, token, tickNs tick, key⟩] }

/-- Set a run of map entries to ZERO; the fuel is the count. -/
def State.nsZeros (s : State) (nsid : Nat) : Nat → Nat → State
  | _, 0 => s
  | k, n + 1 => (s.nsSet nsid k 0 true).nsZeros nsid (k + 1) n

/-- Set a media table entry; `own` tells whether the entry was known. -/
def State.blockState (s : State) (link die block : Nat) (st : BlockState) (qlc : Bool) (use : BlockUse)
    (pe grown : Nat) : State :=
  if (s.set? link die block).isSome then
    s.set' link die block fun b => { b with
      state := st, qlc := qlc, use := use, pe := pe, grown := grown
      nextUnit := if st == .free || st == .freeDirty then 0 else b.nextUnit
      progUnit := if st == .free || st == .freeDirty then 0 else b.progUnit
      erasing := b.erasing && st == .freeDirty, erased := b.erased && st == .freeDirty }
  else s.me' fun m => { m with
    sets := m.sets ++ [⟨link, die, block, pe, st, qlc, use, grown, false, 0, 0, 0, 0, false, false, false, false⟩] }

/-- One MAP_CHANGE item, at a tick of the sequence of a side. -/
def State.mapItem (s : State) (sd : Side) (tick : Nat) : MapItem → State
  | .chunkPlace chunk domain new len hive old => s.placeChunk chunk domain tick new len hive old
  | .chunkState chunk _ st deferred manifest =>
    match s.chunk? chunk with
    | none => s
    | some c =>
      let s := if st == .stored then s else s.unlive c
      let s := s.chunk' chunk fun c => { c with state := st, deferred := deferred, manifest := manifest }
      if st == .free then
        (s.dropFp chunk).rd' fun r => { r with store := r.store.filter (·.id != chunk) }
      else if !deferred then s.rd' fun r => { r with deferred := r.deferred.filter (·.chunk != chunk) }
      else s
  | .chunkAlias chunk _ target =>
    match s.chunk? chunk with
    | none => s
    | some c => ((s.unlive c).chunk' chunk fun c => { c with
        state := .aliased, target := target, deferred := false }).rd' fun r => { r with
        deferred := r.deferred.filter (·.chunk != chunk) }
  | .nsMap nsid k chunk zero => s.nsSet nsid k chunk zero
  | .nsZero nsid first count => s.nsZeros nsid first count
  | .fpInsert domain chunk fp =>
    -- the item carries no flag: a second entry beside a stored chunk's is taken to follow a byte compare (log 89)
    let twin := fun (e : FpEntry) => e.domain == domain && e.fp == fp && e.chunk != chunk &&
      (s.chunk? e.chunk).any fun c => c.state == .stored
    let same := s.setting (0x03000001 + domain * 0x100) != 0 && s.rd.fps.any twin
    if s.rd.fps.any fun e => e.domain == domain && e.chunk == chunk && e.fp == fp then s
    else s.rd' fun r => { r with
      fps := (r.fps.map fun e => if same && twin e then { e with verifiedSame := true } else e) ++ [⟨domain, fp, chunk, same⟩] }
  | .fpRemove domain chunk fp => s.rd' fun r => { r with
      fps := r.fps.filter fun e => !(e.domain == domain && e.chunk == chunk && e.fp == fp) }
  | .ledgerDrop domain old => s.ledgerDrop domain old
  | .blockState link die block st qlc use pe grown => s.blockState link die block st qlc use pe grown
  | .stripeRelease ord => s.releaseStripe ord
  | .snapFreeze nsid snap label => s.snapFreeze nsid snap tick label
  | .treeDrop nsid snap => s.treeDrop nsid snap
  | .pageDrop domain key => s.pageDrop domain key
  | .nsClone src snap new => s.nsClone src snap new
  | .seqClaim first => if sd == s.pr.side then s.me' fun m => { m with seqClaim := first + 1048576 } else s
  | .objectCreate d key top len token digest multi => s.objectCreate d key top len tick token digest multi
  | .objectState _ key released retain => s.obj' key fun o => { o with
      state := if released then .released else o.state, retain := retain
      releasedAt := if released && o.state != .released then tickNs tick else o.releasedAt }
  | .partAdd _ key part manifest _ _ digest => s.obj' key fun o => { o with
      parts := updFirst (·.num == part) (fun p => { p with
        added := true, manifest := manifest, digest := digest }) o.parts }
  | .tokenDrop domain token =>
    let s := match s.objOfToken domain token with
      | some o => if o.state == ObjState.live || o.state == ObjState.released then s.obj' o.key fun o => { o with parts := [] } else s
      | none => s
    s.ob' fun o => { o with tokens := o.tokens.filter fun t => !(t.domain == domain && t.token == token) }
  | .openDrop domain token =>
    match s.objOfToken domain token with
    | none => s
    | some o =>
      let ms := (o.parts.filter (·.added)).map (·.manifest)
      let s := ms.foldl (fun t m => t.addRef m (-1)) s
      s.ob' fun b => { b with
        objs := b.objs.filter (·.key != o.key)
        tokens := b.tokens.filter fun t => !(t.domain == domain && t.token == token)
        walks := b.walks ++ ms.map fun m => (domain, m) }

/-! ## Replicated items at the receiver (R520, R526, R528) -/

/-- The chunk of a replica domain that holds a fingerprint, usable under R143. -/
def State.chunkOfFp (s : State) (d : Nat) (fp : Bytes) : Option Nat :=
  match s.fp? d fp with
  | some e => some e.chunk
  | none => (s.rd.store.find? fun e => e.fp == fp && ((s.chunk? e.id).any fun c => c.domain == d && c.state == .stored)).map
      (·.id)

/-- One shipped item, applied to the replica (R520). -/
def State.shipItem (s : State) (tick : Nat) (tops : List (Bytes × List Nat)) : ShipItem → State
  | .nsMap nsid k fp _ zero =>
    match (s.ns? nsid).bind fun n => s.chunkOfFp n.domain fp with
    | some c => s.nsSet nsid k c zero
    | none => if zero then s.nsSet nsid k 0 true else s
  | .nsZero nsid first count => s.nsZeros nsid first count
  | .snapFreeze nsid snap label => s.snapFreeze nsid snap tick label
  | .nsClone src snap new => s.nsClone src snap new
  | .treeDrop nsid snap => s.treeDrop nsid snap
  | .objCreate d token len digest multi _ _ =>
    match tops.find? (·.1 == token) with
    | some t => t.2.foldl (fun u c => u.addRef c 1)
        (s.objectCreate d (2 ^ 65 + t.2.headD 0) (t.2.headD 0) len tick token digest multi)
    | none => s
  | .objState d token released retain =>
    match s.objOfToken d token with
    | some o => s.mapItem s.pr.side tick (.objectState d o.key released retain)
    | none => s
  | .nsCreate domain nsid size zero => s.addNs domain nsid size (if zero then .zero else .hint)
  | .nsResize nsid size => s.resizeNs nsid size
  | .snapCreate .. => s
  | .setting id value => s.vk' fun v => { v with settings := assocSet v.settings id value }
  | .key domain gen wrapped => s.ks' fun k => { k with
      recs := updFirst (·.domain == domain) (fun r => { r with
        data := r.data ++ [(gen, wrapped)], newestData := gen }) k.recs }

/-- The staging state holds whole namespaces: the end of a base pass; what SNAP_SHIP stages are differences (R528,
R532). -/
def Replica.wholeStage (r : Replica) : Bool :=
  r.staging.any fun e => e.items.any fun i => match i with
    | .nsCreate .. => true
    | .objCreate .. => true
    | _ => false

/-- Role 2: the staging state replaces the visible replica of the group's domains (R528), or adds a shipped snapshot to it
(R532). -/
def State.switchBase (s : State) (r : Replica) (seq ord src tick : Nat) : State :=
  let s := if r.wholeStage then
      r.domains.foldl (fun t d =>
        let t := (t.vo.nss.filter (·.domain == d)).foldl (fun u n =>
          (u.vo.snaps.filter (·.nsid == n.nsid)).foldl (fun w p => w.treeDrop n.nsid p.id) u |>.treeDrop n.nsid 0xFFFFFFFF) t
        t.dropObjs d) s
    else s
  let s := r.staging.foldl (fun t e => e.items.foldl (fun u i => u.shipItem e.tick r.tops i) t) s
  s.rp' fun p => { p with
    replicas := updFirst (fun x => x.id == r.id && x.source == r.source) (fun x => { x with
      staging := [], stageNext := 1, stageEnd := false, applied := if r.wholeStage then seq else max seq x.applied
      ordinal := ord, srcHead := src, tick := tick }) p.replicas }

/-! ## Control changes -/

/-- Settings that a frame's end puts in force on this head: its own targets, and class 0x03 of either head (R99,
R107). -/
def Item.forSide (i : Item) (sd : Side) : Bool :=
  i.target == 0 || i.target == 3 || i.target == 1 + sideN sd

/-- Put a setting in force; HEAD_MODE is no setting that is kept, the mode itself is (R116). -/
def State.applySetting (s : State) (i : Item) : State :=
  if i.setting = 0x02000001 then s
  else s.vk' fun v => { v with settings := assocSet v.settings i.setting i.value }

/-- The domain that a class 0x03 setting belongs to. -/
def settingDomain (id : Nat) : Nat := (id - 0x03000000) / 0x100

/-- The class 0x03 items of a frame as they ship (R520). -/
def State.shipSettings (s : State) (head ord tick : Nat) (items : List Item) : State :=
  items.foldl (fun t i =>
    if i.setting / 2 ^ 24 = 3 && i.setting % 0x100 < 0x10 then
      t.shipAppend head ord tick (settingDomain i.setting) [.setting i.setting i.value] []
    else t) s

/-- A fresh group (R516, R530); the first head tried is the one of the shipper's side (R518). -/
def newGroup (g target : Nat) (domains : List Nat) (sd : Side) : RGroup :=
  { id := g, target := target, domains := domains, state := .connecting, targetHead := target * 2 + sideN sd
    nextSeq := 1, log := [], confirmed := 0, lastShipped := 0, appliedOrd := 0, appliedTick := 0
    openSince := none, inFlight := [], nextBatch := 1, basePoint := none, baseBytes := 0
    queryAt := none, shipped := [], snapWait := [], based := false, baseLog := [], baseNext := 1 }

/-- A group as the receiver first holds it (R518). -/
def newReplica (g source mode : Nat) (domains : List Nat) : Replica :=
  { id := g, source := source, domains := domains, applied := 0, ordinal := 0, srcHead := 0, tick := 0, need := [], fails := []
    held := [], staging := [], orphaned := false, offers := [], verified := [], tops := [], mode := mode, stageNext := 1
    stageSeq := 0, stageEnd := false }

/-- Set a wake token in a token list (R592). -/
def tokenPut (l : List WakeToken) (t : WakeToken) : List WakeToken := l.filter (·.id != t.id) ++ [t]

/-- Keys of classes 0 to 5 that the vault holds (R686). -/
def State.sealedKeys (s : State) : Nat :=
  let n := fun (k : ClassKey) => (k.prev.toList ++ k.cur.toList ++ k.pend.toList).length
  n s.ks.pair + n s.ks.colony + n s.ks.mgmt + s.ks.metaK.toList.length + s.ks.root.toList.length + s.ks.wax.toList.length

/-- Write the key seal region: the copy that is not newer, 80 bytes for each key, then the header, which names it (R697). -/
def State.reseal (s : State) : State :=
  (s.ks' fun k => { k with sealState := 1, sealSeq := k.sealSeq + 1, newerCopy := 1 - k.newerCopy }).stat 0x0202 8 0
    (112 + 80 * s.sealedKeys)

/-- A change of queen state (R585). -/
def ColonyPart.queenCtl (c : ColonyPart) : CtlChange → ColonyPart
  | .queenToken t => { c with qTokens := tokenPut c.qTokens t, nextToken := max c.nextToken (t.id + 1) }
  | .queenTokenEnd id => { c with qTokens := c.qTokens.filter (·.id != id) }
  | .queenMember m => { c with members := c.members.filter (·.apiary != m.apiary) ++ [m] }
  | .queenMemberEnd a => { c with
      members := c.members.filter (·.apiary != a), catalogue := c.catalogue.filter (·.apiary != a)
      qTokens := c.qTokens.filter (·.apiary != a) }
  | .queenEntries a es => { c with catalogue := c.catalogue.filter (·.apiary != a) ++ es }
  | .queenRollout wave halted => { c with waves := wave, haltedRollout := halted, rolling := wave != 0 }
  | _ => c

/-- An apiary of the list with nothing reported yet (R590). -/
def newMember (a serial : Nat) (addrs : List Bytes) (vacated : Bool) : Member7 :=
  { apiary := a, serial := serial, headA := 2 * a, headB := 2 * a + 1, addrs := addrs, power := [], peaks := []
    keyGen := 0, version := 0, heads := [], confirmed := false, confirmedAt := 0, vacated := vacated }

/-- The queen role on an apiary: a first queen has epoch 1; an assigned one starts with itself and the ID it vacated in
the catalogue, and its rollout halted (R583, R584, R586, R600, R605). -/
def ColonyPart.form (c : ColonyPart) (d : Side) (serial rollout : Nat) : ColonyPart :=
  { c with
    member := true, queenHead := d == .a, deposed := false, reachable := true
    members := newMember 0 serial ownAddrs false :: (match c.vacated with
      | some v => [newMember v 0 [] true]
      | none => [])
    catalogue := [], qTokens := [], qHeld := [], tokens := c.tokens, epoch := max c.epoch 1
    rolling := rollout != 0, haltedRollout := rollout != 0 && c.epoch != 0
    waves := if rollout = 0 then 0 else 1 }

/-- The colony is left, or queen state is discarded with it (R602, R607). -/
def ColonyPart.leave (c : ColonyPart) : ColonyPart :=
  { c with
    member := false, queenHead := false, reachable := false, autonomyDone := false, epoch := 0, vacated := none
    tokens := [], reqs := [], members := [], catalogue := [], qTokens := [], qHeld := [], apiaries := []
    gateOpen := true, rolling := false, haltedRollout := false, waves := 0, lastContact := none }

/-- The heads take the IDs of another apiary ID and keep the old ones as former IDs; the pair's own bindings follow
(R601). -/
def State.takeApiary (s : State) (a : Nat) : State :=
  if a = s.pr.apiary then s
  else
    let now := fun h => if h / 2 = s.pr.apiary then a * 2 + h % 2 else h
    (s.pr' fun p => { p with
      formerIds := p.formerIds.filter (fun h => h != p.apiary * 2 && h != p.apiary * 2 + 1) ++ [p.apiary * 2, p.apiary * 2 + 1]
      apiary := a }).fg' fun f => { f with
        ctxs := f.ctxs.map fun c => { c with farHead := now c.farHead }
        paths := f.paths.map fun p => { p with farHead := now p.farHead } }

/-- What an ACCEPT_CONTROL record changes (R169). -/
def State.applyCtl (s : State) (sd : Side) (ord tick : Nat) : CtlChange → State
  | .domainCreate d side horizon => s.addDomain d side horizon false
  | .domainDelete d => s.dropDomain d
  | .nsCreate d nsid size mode =>
    (s.addNs d nsid size mode).shipAppend (s.sideHead sd) ord tick d [.nsCreate d nsid size (mode == .zero)] []
  | .nsDelete nsid =>
    ((s.vo.snaps.filter (·.nsid == nsid)).foldl (fun u p => u.treeDrop nsid p.id) s).treeDrop nsid 0xFFFFFFFF
  | .nsResize nsid size =>
    (s.resizeNs nsid size).shipAppend (s.sideHead sd) ord tick (((s.ns? nsid).map (·.domain)).getD 0xFFFF)
      [.nsResize nsid size] []
  | .snapCreate nsid snap label =>
    s.shipAppend (s.sideHead sd) ord tick (((s.ns? nsid).map (·.domain)).getD 0xFFFF) [.snapCreate nsid snap label] []
  | .ownerEnroll key => if sd == s.pr.side then (s.reseal.ks' fun k => { k with owner := some key, ownerTick := tick }).stat 0x0202 8 0 256 else s
  | .mirrorDiscard d =>
    if sd == s.pr.side && d != s.pr.side then s.wx' fun w => { w with shadow := [], shJournal := [] } else s
  | .rgCreate g target domains => s.rp' fun r => { r with
      groups := r.groups.filter (·.id != g) ++ [newGroup g target domains sd] }
  | .rgDelete g =>
    ((s.shipTrim g (2 ^ 64)).dropBase g).rp' fun r => { r with groups := r.groups.filter (·.id != g) }
  | .rgPause g on => s.rp' fun r => { r with
      groups := updFirst (·.id == g) (fun x => { x with
        state := if on then .paused else if x.basePoint.isSome then .base else .shipping }) r.groups }
  | .snapShip g nsid snap => (s.dropBase g).rp' fun r => { r with
      groups := updFirst (·.id == g) (fun x => { x with shipped := assocSet x.shipped nsid snap }) r.groups }
  | .replicaSetup g source mode domains side =>
    let s := domains.foldl (fun t d => t.addDomain d side 0 true) s
    s.rp' fun r => { r with
      detached := r.detached.filter (· != g + 1024 * source)
      replicas := r.replicas.filter (fun x => !(x.id == g && x.source == source)) ++
        [match r.replicas.find? fun x => x.id == g && x.source == source with
          | some x => { x with mode := mode, orphaned := false }
          | none => newReplica g source mode domains] }
  | .replicaOrphan g source => s.rp' fun r => { r with
      replicas := updFirst (fun x => x.id == g && x.source == source) (fun x => { x with orphaned := true }) r.replicas }
  | .replicaDetach g => match s.rp.replicas.find? (·.id == g) with
    | none => s
    | some x =>
      let s := x.domains.foldl (fun t d => t.domain' d fun y => { y with replica := false }) s
      s.rp' fun r => { r with
        replicas := r.replicas.filter (fun y => !(y.id == g && y.source == x.source)), detached := r.detached ++ [g + 1024 * x.source] }
  | .updActivate .. => if sd == s.pr.side then s else s.pr' fun p => { p with peerTrial := true }
  | .updConfirm _ => if sd == s.pr.side then s else s.pr' fun p => { p with peerTrial := false }
  | .updLock on => s.up' fun u => { u with lock := on }
  | .colonyForm => (s.co' fun c => c.form s.pr.side (s.nv.apiarySerial) (s.setting 0x06000004)).takeApiary 0
  | .colonyJoin apiary epoch =>
    (s.co' fun c => { c with member := true, queenHead := false, deposed := false, epoch := max c.epoch epoch }).takeApiary apiary
  | .colonyLeave => (s.co' fun c => c.leave).takeApiary 0
  | .queenAssign apiary epoch planned => s.co' fun c => { c with
      epoch := max c.epoch epoch
      vacated := if planned then none else some apiary }
  | .queenToken t => s.co' (·.queenCtl (.queenToken t))
  | .queenTokenEnd id => s.co' (·.queenCtl (.queenTokenEnd id))
  | .queenMember m => s.co' (·.queenCtl (.queenMember m))
  | .queenMemberEnd a => s.co' (·.queenCtl (.queenMemberEnd a))
  | .queenEntries a es => s.co' (·.queenCtl (.queenEntries a es))
  | .queenRollout wave halted => s.co' (·.queenCtl (.queenRollout wave halted))
  | .settingsDefault ids => s.vk' fun v => { v with settings := v.settings.filter fun e => !ids.contains e.1 }

/-! ## Keys (R689, R693) -/

/-- STORED chunks of a domain sealed under a data generation (R689). -/
def State.genCount (s : State) (d gen : Nat) : Nat :=
  (s.rd.chunks.filter fun c => c.domain == d && c.state == .stored &&
    ((s.stored? c.id).any (·.gen == gen))).length

/-- A pending generation becomes current; the former current becomes previous (R688). -/
def ClassKey.promote (k : ClassKey) (now : Nat) : ClassKey :=
  match k.pend with
  | some g => { prev := k.cur, cur := some g, pend := none, changedAt := now }
  | none => k

/-- A class key's generations with a new pending one (R688); one that is current already stays so when its record is replayed. -/
def ClassKey.pending (k : ClassKey) (gen : Nat) (key : Bytes) : ClassKey :=
  if k.cur == some (gen, key) then k else { k with pend := some (gen, key) }

/-- A KEY_CHANGE record's change of the vault (R689, R693, R698). PAIR_INIT of side A gives side B the tick epoch at the first pair
formation (R747). -/
def State.applyKey (s : State) (ord tick : Nat) (sd : Side) (kind : KeyChangeKind) (cls domain dgen : Nat)
    (body : Option DomainKeys) (ckey : Bytes) : State :=
  let s := s.pr' fun p => { p with vaultCount := p.vaultCount + 1 }
  match kind with
  | .domainCreate => match body with
    | some r => (s.ks' fun k => { k with recs := k.recs.filter (·.domain != domain) ++ [r] }).evictKeys domain
    | none => s
  | .rotate => match body with
    | some r =>
      let s := (s.ks' fun k => { k with recs := k.recs.filter (·.domain != domain) ++ [r] }).evictKeys domain
      s.shipAppend (s.sideHead sd) ord tick domain
        [.key domain r.newestData (((r.data.find? (·.1 == r.newestData)).map (·.2)).getD [])] []
    | none => s
  | .erase =>
    let s := s.ks' fun k => { k with
      recs := k.recs.filter (·.domain != domain), erased := domain :: k.erased.filter (· != domain) }
    s.domain' domain fun d => { d with keysErased := true }
  | .genDrop =>
    let dead := ((s.ks.recs.filter (·.domain == domain)).flatMap fun r => r.data.map (·.1)).filter fun g =>
      g != dgen && s.genCount domain g == 0
    s.ks' fun k => { k with
      recs := updFirst (·.domain == domain) (fun r => { r with data := r.data.filter fun g => !dead.contains g.1 }) k.recs }
  | .classKey => ((s.co' fun c => if cls = 1 then { c with lagSince := none, lagSaid := false } else c).ks' fun k =>
    if cls = 0 then { k with pair := k.pair.pending dgen ckey }
    else if cls = 1 then { k with colony := k.colony.pending dgen ckey }
    else if cls = 2 then { k with mgmt := k.mgmt.pending dgen ckey }
    else k).reseal
  | .restore => s
  | .pairInit =>
    let s := if sd != s.pr.side && s.ck.tickEpoch.isNone && !s.ck.epochLost then
        s.ck' fun c => { c with tickEpoch := some (c.now / 1000000), tick := 0 }
      else s
    (s.ks' fun k => { k with root := some (ckey.take 32), metaK := some (slice ckey 32 64) }).reseal

/-! ## Accepted puts (R437, R439, R453 to R457) -/

/-- An ACCEPT_PUT chain's last record: the token entry, and the object or its part. -/
def State.applyPut (s : State) (sd : Side) (ord tick : Nat) (d : PutDesc) : State :=
  let key := ord * 2 + sideN sd
  let zero := d.token.all (· == 0)
  let pk := ord * 2 + sideN sd
  let part : Part := match s.rd.built.find? (·.1 == pk) with
    | some b => { b.2 with accepted := true }
    | none => ⟨d.part, pk, d.putLen, true, [], [], 0, false⟩
  let s := s.rd' fun r => { r with built := r.built.filter (·.1 != pk) }
  if d.abort then s
  else if d.part = 0 then
    s.ob' fun o => { o with
      objs := o.objs ++ [⟨d.domain, d.token, .accepted, false, 0, d.objLen, [], [part], 0, 0, tickNs tick, 0, key⟩]
      tokens := if zero then o.tokens else o.tokens ++ [⟨d.domain, d.token, tickNs tick, key⟩] }
  else
    let old := if zero then none else s.objOfToken d.domain d.token
    let s := match old with
      | some o => s.obj' o.key fun o => { o with parts := o.parts ++ [part], lastPart := tickNs tick }
      | none => s.ob' fun o => { o with
          objs := o.objs ++ [⟨d.domain, d.token, .opened, true, 0, d.objLen, [], [part], 0, 0, tickNs tick, 0, key⟩]
          tokens := if zero then o.tokens else o.tokens ++ [⟨d.domain, d.token, tickNs tick, key⟩] }
    if d.last then
      let k := (old.map (·.key)).getD key
      (s.obj' k fun o => { o with state := .accepted }).ob' fun o => { o with
        tokens := updFirst (fun t => t.key == k) (fun t => { t with atNs := tickNs tick }) o.tokens }
    else s

/-! ## Stripes (R223) -/

/-- Enter an envelope's chunk in the chunk table at (hive, ordinal, offset). -/
def State.enterChunk (s : State) (ord hive : Nat) (e : EnvEntry) : State :=
  let refs := ((s.chunk? e.chunk).map (·.refs)).getD 0
  let mark := s.rd.deferred.any fun d => d.chunk == e.chunk && d.byteCompare
  let s := s.putChunk ⟨e.chunk, e.domain, ⟨ord, e.off⟩, 0, hive, e.len, refs, .stored, e.deferred, e.manifest, mark⟩
  if e.deferred && !s.rd.deferred.any (·.chunk == e.chunk) then
    -- BYTE_COMPARE is bit 2 of the envelope's flags (R153)
    let mark := (s.stored? e.chunk).any fun b => fld b.envelope 5 1 / 4 % 2 == 1
    s.rd' fun r => { r with deferred := r.deferred ++ [⟨e.chunk, e.domain, s.fpOf e.chunk, mark⟩] }
  else s

/-- A new stripe table entry (R272). -/
def State.addStripe (s : State) (sd : Side) (ord hive : Nat) (region : Region) (purpose : Purpose)
    (ms : List Member) (used epoch live openTick commitOrd tick : Nat) (envs : List EnvEntry) : State :=
  let t : Stripe :=
    { ord := ord, hive := hive, region := region, purpose := purpose, members := ms, used := used, epoch := epoch
      live := live, released := false, openTick := openTick, commitOrd := commitOrd, rebuildOrd := 0, envs := envs
      opener := s.sideHead sd, placed := false, rewrite := false, moving := false, builtOrd := commitOrd, commitSide := sd, commitTick := tick, left := false }
  (s.sp' fun p => { p with table := p.table.filter (·.ord != ord) ++ [t] }).holdUnits ms (regionUnits region)

/-- A STRIPE_COMMIT record of a sequence (R223). -/
def State.applyStripe (s : State) (sd : Side) (rec tick : Nat) (ord hive : Nat) (region : Region) (purpose : Purpose)
    (ms : List Member) (used epoch : Nat) (envs : List EnvEntry) (openTick : Nat) : State :=
  match purpose with
  | .landing =>
    let s := s.addStripe sd ord hive region purpose ms used epoch (envs.map (·.len)).sum openTick rec tick envs
    envs.foldl (fun t e => t.enterChunk ord hive e) s
  | .fold | .gc | .reshape => s.addStripe sd ord hive region purpose ms used epoch 0 openTick rec tick envs
  | .metadata => s.addStripe sd ord hive region purpose ms used epoch used openTick rec tick envs
  | .rebuild =>
    match s.stripe? ord with
    | none => s
    | some t =>
      let s := (s.holdUnits (s.heldMembers t) (-(regionUnits t.region : Int))).holdUnits ms (regionUnits t.region)
      s.stripe' ord fun t => { t with
        members := ms, epoch := epoch, rebuildOrd := rec, commitOrd := rec, builtOrd := rec, commitSide := sd, commitTick := tick }
  | .loss => envs.foldl (fun t e =>
      match t.chunk? e.chunk with
      | some c => (t.unlive c).chunk' e.chunk fun c => { c with state := .dataLost }
      | none => t) (s.stripe' ord fun t => { t with commitOrd := rec })
  | .claim =>
    if sd == s.pr.side then s.sp' fun p => { p with claim := max p.claim (ord + 1048576) } else s
  | .memberState => s

/-! ## Ownership (R544) -/

/-- Give units to a side. -/
def State.giveUnits (s : State) (units : List OwnUnit) (sd : Side) : State :=
  units.foldl (fun t u =>
    let t := t.pr' fun p => { p with owners := assocSet p.owners u sd }
    match u with
    | .domain d => t.domain' d fun x => { x with side := sd }
    | .honey h =>
      let t := t.hive' h fun x => { x with owner := some sd, wanted := if sd != t.pr.side && x.wanted == some true then none else x.wanted }
      if sd == t.pr.side then t
      else t.hv' fun v => { v with reqs := v.reqs.filter fun q => !(q.hive == h && q.cmd == 2 && q.arg == 1) }
    | .brood _ => t) s

/-! ## Frames in a sequence -/

/-- A frame that has not ended ends: applied, cancelled (0xFFFF) or aborted (R101). -/
def State.endFrame (s : State) (id status : Nat) : State :=
  s.vk' fun v => { v with frames := updFirst (fun g => g.id == id && (g.state == .scheduled || g.state == .scheduling)) (fun g =>
    { g with
      state := if status = 0 then .applied else if status = 0xFFFF then .cancelled else .aborted
      abort := status, endAt := s.ck.now, owed := false }) v.frames }

/-- The items of a frame that the peer has scheduled (R813). -/
def State.shadowItems (s : State) (id : Nat) : List Item := ((s.vk.peerFrames.find? (·.1 == id)).map (·.2)).getD []

/-- What this head keeps of the peer's own settings: TIDE_BROOD_HIVE and WAKE_MODE, by which R121 judges a wake into Tide. -/
def State.notePeer (s : State) (items : List Item) : State :=
  (items.filter fun i => i.target != 1 + sideN s.pr.side).foldl (fun t i =>
    if i.setting = 0x02000002 then t.pr' fun p => { p with peerTideHive := some (rdLe i.value) }
    else if i.setting = 0x02000003 then t.pr' fun p => { p with peerWakeMode := some (rdLe i.value) }
    else t) s

/-- A schedule record of the peer: its items are kept until the frame ends. -/
def State.peerSchedules (s : State) (f : Frame) : State :=
  s.vk' fun v => { v with peerFrames := v.peerFrames.filter (·.1 != f.id) ++ [(f.id, f.items)] }

/-- The end of a frame in the peer's sequence: its class 0x03 settings of domains that this head does not own are in force here too (R813), and one that this head coordinates
ends by this head's records alone (R111, R114). -/
def State.peerFrameEnds (s : State) (head ord tick id status : Nat) : State :=
  let items := s.shadowItems id
  let s := s.vk' fun v => { v with peerFrames := v.peerFrames.filter (·.1 != id) }
  if status = 0 then
    (((items.filter fun i => i.setting / 2 ^ 24 == 3 && !s.owns (.domain (settingDomain i.setting))).foldl State.applySetting s).notePeer
      items).shipSettings head ord tick items
  else if s.vk.frames.any fun g => g.id == id && g.peerMade then s.endFrame id status
  else s

/-! ## The end of a released object (R467, R468) -/

/-- The count that a RELEASED object's record held on its top manifest is given up: the record goes, and a manifest that
nothing names any more is to be walked. -/
def State.endReleased (s : State) (chunk : Nat) (delta : Int) : State :=
  match s.ob.objs.find? fun o => o.state == ObjState.released && o.top == chunk && delta == -1 with
  | none => s
  | some o =>
    let s := s.ob' fun b => { b with objs := b.objs.filter (·.key != o.key) }
    if ((s.chunk? chunk).map (·.refs)) == some 0 then s.ob' fun b => { b with walks := b.walks ++ [(o.domain, chunk)] } else s

/-! ## Every record -/

/-- The domain-wide shipped items of a MAP_CHANGE record (R520). -/
def State.shipMap (s : State) (sd : Side) (ord tick domain : Nat) (items : List MapItem) : State :=
  s.shipAppend (s.sideHead sd) ord tick domain (items.filterMap (MapItem.ship s)) (items.flatMap (MapItem.named s))

/-- Apply one record of the sequence of side `sd`: the deterministic effect that acceptance, replay and the shadow
copy share (R43, R44). -/
def State.applyBody (s : State) (sd : Side) (ord tick domain : Nat) (continued : Bool) : RecBody → State
  | .acceptWrite .. => s
  | .acceptPut d _ => if continued then s else s.applyPut sd ord tick d
  | .acceptControl c => s.applyCtl sd ord tick c
  | .stripeCommit o hive region purpose ms used epoch envs openTick =>
    s.applyStripe sd ord tick o hive region purpose ms used epoch envs openTick
  | .combState link st serial =>
    let s := if st == .replacement then s.me' fun m => { m with sets := m.sets.filter (·.link != link) } else s
    let found := st == .working || st == .replacement
    let s := if sd == s.pr.side || serial = 0 then s else s.cl' fun c => { c with
      peerSerials := c.peerSerials.filter (fun e => e.1 != link && !(found && e.2 == serial)) ++ if found then [(link, serial)] else [] }
    let s := if st == .replacement then s.link' link fun l => { l with deadDies := [], blockedDies := [], progFails := [], timeouts := [] } else s
    (s.link' link fun l => { l with comb := st, serial := if serial = 0 then l.serial else serial }).sp' fun p => { p with
      marked := if st == .failed then assocSet p.marked link (ord, sd, tick)
        else if st == .replacement then p.marked else assocDel p.marked link }
  | .mapChange items => items.foldl (fun t i => t.mapItem sd tick i) (s.shipMap sd ord tick domain items)
  | .refChange items => items.foldl (fun t i => (t.addRef i.chunk i.delta).endReleased i.chunk i.delta) s
  | .chunkClaim first =>
    if sd == s.pr.side then s.rd' fun r => { r with chunkClaim := max r.chunkClaim (first + 1048576) } else s
  | .ringRelease items =>
    if sd == s.pr.side then s.wx' fun w => { w with
      own := w.own.map fun r => if r.ring == .data && items.any (·.ordinal == r.ordinal) then { r with live := false } else r }
    else s.wx' fun w => { w with
      shadow := w.shadow.map fun r => if r.ring == .data && items.any (·.ordinal == r.ordinal) then { r with live := false } else r }
  | .checkpoint .. => s
  | .frameSchedule f =>
    if sd == s.pr.side then s.vk' fun v => { v with
      frames := if v.frames.any fun g => g.id == f.id && g.peerMade == f.peerMade then v.frames
        else v.frames ++ [{ f with state := .scheduled, schedOrd := ord }] }
    else s.peerSchedules f
  | .frameGo id =>
    s.vk' fun v => { v with
      frames := updFirst (fun f => f.id == id && f.peerMade == (sd != s.pr.side)) (fun f => { f with go := 2 }) v.frames }
  | .frameEnd id status =>
    if sd == s.pr.side then
      -- a record that ends an earlier schedule of a frame leaves a later one (R104)
      match s.vk.frames.find? fun f => f.id == id && f.schedOrd < ord with
      | none => s
      | some f =>
        -- a frame that applied at its tick has its settings in force already; replay puts them in force here
        let s := if status = 0 && f.state == .scheduled then
            (f.items.filter (·.forSide s.pr.side)).foldl State.applySetting s
          else s
        let s := if status = 0 then s.shipSettings (s.sideHead sd) ord tick f.items else s
        s.endFrame id status
    else s.peerFrameEnds (s.sideHead sd) ord tick id status
  | .modeChange m => if sd == s.pr.side && m == .full then s.pr' fun p => { p with tookOver := false } else s
  | .pad => s
  | .handover role other otherOrd units =>
    let s := if role = 1 then s else s.giveUnits units sd
    let s := if role = 0 && s.pr.apiary = 0 then s.co' fun c => { c with queenHead := c.member && sd == s.pr.side }
      else if role = 2 && s.pr.apiary = 0 && sd == .a && (units.any fun u => u == .brood .a || s.pr.homes.any fun h => h.1 == u && h.2 == .a) then
        s.co' fun c => { c with queenHead := c.member && s.pr.side == .a }
      else s
    s.pr' fun p => { p with
      handedOver := if sd != p.side && role = 0 && other == p.apiary * 2 + sideN p.side then true else p.handedOver
      tookOver := p.tookOver || (sd == p.side && role = 0)
      lastTakeover := if role = 0 then tick else p.lastTakeover
      rebalance := match p.rebalance with
        | some r => if role = 2 && sd != p.side && r.giver then none
          else if role = 1 && sd != p.side && !r.giver then some { r with giveOrd := ord }
          else if role = 1 && sd == p.side then some { r with giveOrd := ord }
          else if role = 2 && sd == p.side && otherOrd ≥ r.giveOrd then none
          else if role = 0 then none
          else some r
        -- a replayed GIVE that no RECEIVE has followed still stands (R544)
        | none =>
          if role = 1 && !p.declared && units.all (fun u => s.ownerOf u == some sd) then
            some ⟨sd == p.side, units, if sd == p.side then 3 else 2, s.ck.now, tick, ord, false⟩
          else none
      given := if role = 0 then [] else p.given }
  | .keyChange kind cls d dgen _ _ body ckey => s.applyKey ord tick sd kind cls d dgen body ckey
  | .replProgress group role source seq o head t =>
    if role = 0 then
      let s := if s.rp.groups.any fun g => g.id == group && g.basePoint.any (· ≤ seq + 1) then s.dropBase group else s
      (s.shipTrim group seq).rp' fun r => { r with
        groups := updFirst (·.id == group) (fun g => { g with
          confirmed := max g.confirmed seq, appliedOrd := o, appliedTick := t, based := true
          basePoint := if g.basePoint.any (· ≤ seq + 1) then none else g.basePoint
          state := if g.state == .base && g.basePoint.any (· ≤ seq + 1) then .shipping else g.state }) r.groups }
    else if role = 1 then s.rp' fun r => { r with
      replicas := updFirst (fun g => g.id == group && g.source == source) (fun g => { g with
        applied := max g.applied seq, ordinal := o, srcHead := head, tick := t }) r.replicas }
    else match s.rp.replicas.find? fun g => g.id == group && g.source == source with
      | some r => s.switchBase r seq o head t
      | none => s

end Sys2Proof.Machine
end

