-- ==== Sys2Proof/Machine/BootOps.lean ====
section
/-! DEFINITION. The boot ledger (R617 to R620), measurement (R637 to R640) and what a reset of the device leaves
(What each fault leaves, 05; R611). -/

namespace Sys2Proof.Machine

/-- A ledger record as its 64 bytes (R618). -/
def LedgerRec.bytes (r : LedgerRec) : Bytes :=
  let h := le 4 0x4744454C ++ [1#8] ++ le 1 r.kind ++ le 1 r.step ++ le 1 r.outcome ++ le 8 r.seq ++ le 8 r.start ++
    le 8 r.rtc ++ le 1 r.attempt ++ le 1 r.bank ++ le 2 r.failCode ++ le 4 r.dur ++ fit 20 r.detail
  h ++ crcBytes h

/-- Write a ledger record; the ring holds the newest 16,384 (R617). -/
def State.ledgerRec (s : State) (kind step outcome attempt failCode dur : Nat) (detail : Bytes) : State :=
  (s.bt' fun b =>
    let r : LedgerRec :=
      ⟨kind, step, outcome, b.ledgerSeq, b.startNum, s.ck.rtc, attempt, b.executing, failCode, dur, fit 20 detail⟩
    { b with ledger := (if b.ledger.length ≥ 16384 then b.ledger.drop 1 else b.ledger) ++ [r], ledgerSeq := b.ledgerSeq + 1 }).stat 0x0202 7 0 64

/-- The detail of a BANK_SELECT record (R619). -/
def bankDetail (bank state fallback version tick : Nat) : Bytes :=
  le 1 bank ++ le 1 state ++ le 1 fallback ++ [0#8] ++ le 4 version ++ le 8 tick

/-- Write a BANK_SELECT record (R619). -/
def State.bankSelect (s : State) (bank state fallback version tick : Nat) : State :=
  s.ledgerRec 0x03 0 0 0 0 0 (bankDetail bank state fallback version tick)

/-- Extend a tally by a measurement and note it in the log (R637, R639). -/
def State.extend (s : State) (tally step source index : Nat) (obj : Bytes) : State :=
  let m := sha384 obj
  s.bt' fun b => { b with
    tallies := b.tallies.set tally (sha384 (b.tallies.getD tally [] ++ m))
    log := b.log ++ [⟨tally, step, source, index, m⟩] }

/-- The log is full: a request that would extend T7 is refused (R640). -/
def State.logFull (s : State) : Bool := s.bt.log.length ≥ 4096

/-- The sentinel clears the waggle enable: no waggle is sent from here on (R549). -/
def State.silence (s : State) : State := s.pw' fun p => { p with waggleEnable := false }

/-- A head link end after a reset: the link is down and holds no tasks; what the head knows of the comb is rebuilt
at bring-up and replay. -/
def Link.afterReset (l : Link) : Link :=
  { l with
    state := .powerDown, txSeq := 0, rxSeq := 0, nakSent := false, unacked := [], waiting := [], resends := 0, rxSinceAck := 0
    crcTimes := [], retrainTimes := [], stepFails := 0, downSince := none, retired := false, tasks := []
    timeouts := [], progFails := [], failedTasks := [], deadDies := [], blockedDies := [] }

/-- A hive as a head that has just been reset holds it. -/
def Hive.afterReset (h : Hive) : Hive :=
  { h with
    state := .dark, voteUp := false, wanted := none, darkDecided := false, darkPoint := false
    wakeNeedUntil := none, rebuildNeed := false, foldNeed := false, reshapeNeed := false, houseNeed := false
    gather := [], waiters := [], dormancyTo := 0, block := none, wakeFailedAt := none, warned15 := false
    token := none, tokenAsked := none, tokenRefused := false, poweredAt := none, attach := h.attach }

/-- What a reset of the device leaves (R39, What each fault leaves): wax, the combs, the shelves, the code flash, the
sentinel and the key seal keep what they hold; everything else is lost, and a start is due with a reset cause
(R611, R619). The bytes that flash holds by chunk ID stay with the combs. -/
def State.resetDevice (s : State) (cause : Nat) : State :=
  let z := State.reset
  { s with
    vk := { z.vk with nextHandle := s.vk.nextHandle, nextFrame := s.vk.nextFrame }
    md := z.md
    ck := { z.ck with
      now := s.ck.now, rtc := s.ck.rtc, rtcDiscAt := s.ck.rtcDiscAt, tickEpoch := s.ck.tickEpoch, epochLost := s.ck.epochLost }
    pw := { s.pw with
      startDue := true, resetCause := cause, sleep := none, wdArmed := none, wdSuspended := false
      waggleEnable := false, waxStopped := false, wakeCause := 0 }
    ev := { z.ev with ring := s.ev.ring, nextSeq := s.ev.nextSeq }
    ct := { vals := s.ct.vals.filter fun c => c.cls == 0x0D01 || c.cls == 0x010B }
    wx := { s.wx with
      own := (s.wx.own ++ (if s.wx.nextOrd == s.wx.lastApplied + 1 then s.wx.tail else [])).map fun (r : WaxRec) => { r with after := [] }
      tail := []
      shadow := s.wx.shadow.map fun r => { r with applied := false }
      lastApplied := 0, replayed := false, later := [], tailTo := none, peerTo := none, lost := false }
    dr := { z.dr with dimms := s.dr.dimms, dimmGiB := s.dr.dimmGiB }
    mc := z.mc
    rd := { z.rd with store := s.rd.store }
    vo := z.vo, sp := z.sp, me := z.me, ob := z.ob, rp := z.rp, se := z.se, fg := z.fg
    cl := { s.cl with links := s.cl.links.map (·.afterReset) }
    hv := { s.hv with hives := s.hv.hives.map (·.afterReset), reqs := [] }
    nv := { z.nv with apiarySerial := s.nv.apiarySerial }
    pr := { z.pr with side := s.pr.side, apiary := s.pr.apiary, formerIds := s.pr.formerIds }
    co := z.co
    bt := { s.bt with step := 0, executing := 0xFF, inService := false, skippedJoin := false, skippedColony := false }
    up := { s.up with open_ := none, sector0 := [], ended := s.up.ended || (s.up.open_.isSome && s.up.trial.isNone) } }

/-- A reset that the head or its sentinel makes: CHIP_RESET_N is driven low for 10 ms and the start follows (R768). -/
def State.resetNow (s : State) (cause : Nat) : State := (s.send (.reset cause)).resetDevice cause

/-- A fatal stop: last-gasp record, silence, no further work until a reset (R194, R549, R727). -/
def State.fatalStop (s : State) (code : Nat) (detail : Bytes) : State :=
  ((s.lastGasp code .fatal detail).silence).md' fun m => { m with stopped := true }

end Sys2Proof.Machine
end

