-- ==== Sys2Proof/Machine/NvOps.lean ====
section
/-! DEFINITION. NVMe completions: how a command ends, and the order in which the writes of one stream end (R31, R48,
R405, R409 to R411). -/

namespace Sys2Proof.Machine

/-- An outstanding host command. -/
def State.cmd? (s : State) (ctrl qid cid : Nat) : Option HostCmd :=
  s.nv.cmds.find? fun c => c.ctrl == ctrl && c.qid == qid && c.cid == cid

/-- Send a completion; once the association has ended it is lost (R394). Controller 0 stands for a Connect that gets
none. -/
def State.cqe (s : State) (ctrl qid cid sct sc : Nat) (dnr : Bool) (dw0 : BitVec 32) (data : Bytes) : State :=
  if ctrl = 0 || s.nv.ctrls.any (·.id == ctrl) then s.send (.cqe ctrl qid cid sct sc dnr dw0 data) else s

/-- Forget an outstanding command. -/
def State.dropCmd (s : State) (ctrl qid cid : Nat) : State :=
  s.nv' fun n => { n with
    cmds := n.cmds.filter fun c => !(c.ctrl == ctrl && c.qid == qid && c.cid == cid)
    streams := n.streams.map fun t => { t with order := t.order.filter (· != (ctrl, qid, cid)) } }

/-- A stream by its key and ID. -/
def State.stream? (s : State) (key id : Nat) : Option OStream := s.nv.streams.find? fun t => t.key == key && t.id == id

/-- Change a stream. -/
def State.stream' (s : State) (key id : Nat) (f : OStream → OStream) : State :=
  s.nv' fun n => { n with streams := updFirst (fun t => t.key == key && t.id == id) f n.streams }

/-- Complete the writes at the head of a stream that were already accepted (R48); the fuel is the stream's length. -/
def State.drainStream (s : State) (key id : Nat) : Nat → State
  | 0 => s
  | n + 1 => match (s.stream? key id).bind fun t => t.order.head? with
    | none => s
    | some (c, q, i) =>
      match (s.cmd? c q i).bind (·.done) with
      | some dw0 => ((s.cqe c q i 0 0 false (BitVec.ofNat 32 dw0) []).dropCmd c q i).drainStream key id n
      | none => s

/-- The success completion of accepted work: at once, or, on an ordered stream, after every earlier write of it
(R48). -/
def State.endCmd (s : State) (ctrl qid cid dw0 : Nat) : State :=
  match s.cmd? ctrl qid cid with
  | none => s.cqe ctrl qid cid 0 0 false (BitVec.ofNat 32 dw0) []
  | some c =>
    match c.stream with
    | none => (s.cqe ctrl qid cid 0 0 false (BitVec.ofNat 32 dw0) []).dropCmd ctrl qid cid
    | some (key, id) =>
      match s.stream? key id with
      | none => (s.cqe ctrl qid cid 0 0 false (BitVec.ofNat 32 dw0) []).dropCmd ctrl qid cid
      | some t =>
        if t.order.head? == some (ctrl, qid, cid) then
          ((s.cqe ctrl qid cid 0 0 false (BitVec.ofNat 32 dw0) []).dropCmd ctrl qid cid).drainStream key id t.order.length
        else
          let mine := fun (x : HostCmd) => x.ctrl == ctrl && x.qid == qid && x.cid == cid
          s.nv' fun n => { n with cmds := updFirst mine (fun x => { x with done := some dw0 }) n.cmds }

/-- End a command with an error status. -/
def State.failCmd (s : State) (ctrl qid cid sct sc : Nat) (dnr : Bool) : State :=
  (s.cqe ctrl qid cid sct sc dnr 0 []).dropCmd ctrl qid cid

/-! ## The fabric's ports (R20) -/

/-- A port of a fabric pair is the active one. -/
def State.fabricOn (s : State) (fpair odd : Nat) : Bool := (s.pr.fabric[fpair]?).any fun p => p.active == some odd

/-! ## Asynchronous events (R425 to R427) -/

/-- Set Features 0x0B enables a class: Namespace Attribute notices bit 8, ANA Change notices bit 11, Reliability bit 2;
Tiraita events are enabled by the record selection of feature 0xC0 itself (DEDUCED, log 14). -/
def Aer.enabled (a : Aer) (bit : Nat) : Bool := a.cfg.getLsbD bit

/-- The class to report next: completion DW0 (type, information, log page) and the requests' state after. -/
def Aer.take (a : Aer) : Option (Nat × Aer) :=
  if a.nsPending && a.enabled 8 then some (0x040002, { a with nsPending := false, nsMasked := true })
  else if a.anaPending && a.enabled 11 then some (0x0C0302, { a with anaPending := false, anaMasked := true })
  else if a.smartPending && a.enabled 2 then some (0x020001, { a with smartPending := false, smartMasked := true })
  else if a.evPending then some (0xC0C007, { a with evPending := false, evMasked := true })
  else none

/-- Change a controller. -/
def State.ctrl' (s : State) (id : Nat) (f : Ctrl → Ctrl) : State :=
  s.nv' fun n => { n with ctrls := updFirst (·.id == id) f n.ctrls }

/-- Complete a controller's requests with what it has to report; the fuel is the number of classes. -/
def State.aerOne (s : State) (id : Nat) : Nat → State
  | 0 => s
  | n + 1 => match s.nv.ctrls.find? (·.id == id) with
    | none => s
    | some c => match c.aer.held, c.aer.take with
      | cid :: held, some (dw0, a) =>
        (((s.ctrl' id fun c => { c with aer := { a with held := held } }).cqe id 0 cid 0 0 false (BitVec.ofNat 32 dw0)
          [])).aerOne id n
      | _, _ => s

/-- Complete every controller's requests with what there is to report (R425, R426). -/
def State.aerPump (s : State) : State := s.nv.ctrls.foldl (fun t c => t.aerOne c.id 4) s

/-- Change the event state of every controller whose host a domain admits. -/
def State.aerDomain (s : State) (domain : Nat) (f : Aer → Aer) : State :=
  s.nv' fun n => { n with ctrls := n.ctrls.map fun c => if s.admits domain c.nqn then { c with aer := f c.aer } else c }

/-- Namespace Attribute Changed for a namespace (R425, R426); the list holds at most 1,024. -/
def State.raiseNs (s : State) (domain nsid : Nat) : State :=
  (s.aerDomain domain fun a => { a with
    nsPending := !a.nsMasked
    nsList := if a.nsList.contains nsid then a.nsList
      else if a.nsList.length ≥ 1024 then [0xFFFFFFFF] else a.nsList ++ [nsid] }).aerPump

/-- ANA Change for a domain's group (R422). -/
def State.raiseAna (s : State) (domain : Nat) : State :=
  (s.aerDomain domain fun a => { a with anaPending := !a.anaMasked, anaCount := a.anaCount + 1 }).aerPump

/-- Reliability: a chunk of the domain is DATA_LOST (R425). -/
def State.raiseSmart (s : State) (domain : Nat) : State :=
  (s.aerDomain domain fun a => { a with smartPending := !a.smartMasked }).aerPump

end Sys2Proof.Machine
end

