-- ==== Sys2Proof/Machine/Accept.lean ====
section
/-! DEFINITION. The acceptance instant (R27, R29 to R31, R35, R168 to R170): which records are accepted, their
application in commit order, and what follows. -/

namespace Sys2Proof.Machine

/-! ## What a data record still waits for -/

/-- The records of the command whose last record has an ordinal: those before it that carry CONTINUED (R170). -/
def chainBack (own : List WaxRec) : Nat → Nat → List Nat
  | 0, o => [o]
  | n + 1, o => match own.find? fun r => r.ordinal + 1 == o && r.continued && r.body.isData with
    | some r => chainBack own n r.ordinal ++ [o]
    | none => [o]

/-- A mirror record that this head lands as its own, in the form of its own records; its key is its ordinal plus 2^64
(R177; the key is the model's own, log 25). -/
def ShadowRec.asOwn (r : ShadowRec) : WaxRec :=
  { ordinal := 2 ^ 64 + r.ordinal, ring := r.ring, off := r.off, units := r.units, epoch := r.epoch, tick := r.tick
    domain := r.domain, continued := r.continued, body := r.body, after := [], localOk := true, peerOk := false
    flashOk := false, accepted := true, live := r.live, torn := r.torn, fmt := r.fmt }

/-- The records whose data this head lands: its own, and the mirror records of a peer it has taken over (R177). -/
def State.sources (s : State) : List WaxRec :=
  ((s.wx.shadow.filter fun r => r.mine && r.live).map (·.asOwn)) ++ s.wx.own

/-- The commit order of records by key: mirror records come before this head's own work on the domains it took. -/
def keyOrder (k : Nat) : Nat := if k ≥ 2 ^ 64 then k - 2 ^ 64 else k + 2 ^ 64

/-- Every record key of the command whose last record has a key. -/
def State.chainOf (s : State) (o : Nat) : List Nat := chainBack s.sources s.sources.length o

/-- The key of the part that a record stores: its ordinal × 2, and the side of its sequence. -/
def State.partKey (s : State) (k : Nat) : Nat :=
  if k ≥ 2 ^ 64 then (k - 2 ^ 64) * 2 + sideN (otherSide s.pr.side) else k * 2 + sideN s.pr.side

/-- The stored parts of a put are in its object: OBJECT_CREATE or PART_ADD has been committed, or the object is gone
(R449, R454). -/
def State.putStored (s : State) (o : Nat) : Bool :=
  !s.ob.objs.any fun b => b.parts.any fun p => p.ordinal == s.partKey o &&
    !(if b.multi then p.added else b.state == .live || b.state == .released)

/-- Whether the record of a command still waits in the pipeline: not ingested, a chunk waiting for or in a landing
stripe, a map item to be committed, or a merge (R129, R173). -/
def State.inPipe (s : State) (o : Nat) : Bool :=
  !s.rd.ingested.contains o || s.rd.landing.any (·.1 == o) ||
    (s.sp.opens.any fun t => t.envs.any fun e => e.recs.contains o) || s.rd.pendingMap.any (·.1 == o) ||
    s.rd.merges.any (·.ordinal == o) || !s.putStored o

/-- The chunks that a record's map items and parts name, those of other records that it repeats among them (R142). -/
def State.chunksNamed (s : State) (o : Nat) : List Nat :=
  (s.rd.pendingMap.filterMap fun e => match e.2 with
    | .nsMap _ _ c _ => if e.1 == o then some c else none
    | _ => none) ++
  (((s.rd.built.map (·.2)) ++ s.ob.objs.flatMap (·.parts)).filter (·.ordinal == s.partKey o)).flatMap fun p => p.chunks.map (·.1)

/-- Whether every chunk of the record, stored by it or repeated, lies in stripes whose members have all reported program pass (R27). -/
def State.onFlash (s : State) (o : Nat) : Bool :=
  let named := s.chunksNamed o
  s.rd.ingested.contains o && !(s.rd.landing.any fun x => x.1 == o || named.contains x.2.1.chunk) &&
    !(s.sp.opens.any fun t => t.purpose == .landing && t.prog.any (· != .passed) &&
      t.envs.any fun e => e.recs.contains o || named.contains e.entry.chunk) &&
    !s.rd.merges.any (·.ordinal == o)

/-- Note which data records have reached flash: every record of a command follows its last one. -/
def State.judgeFlash (s : State) : State :=
  let done := ((s.wx.own.filter fun r => r.body.isData && !r.continued && !r.flashOk && s.onFlash r.ordinal).map
    (·.ordinal)).flatMap s.chainOf
  s.wx' fun w => { w with own := w.own.map fun r => if done.contains r.ordinal then { r with flashOk := true } else r }

/-- Release the data records of commands that wait for nothing more: RING_RELEASE for this head's own, and the mirror
records it landed (R173, R177). -/
def State.releaseDone (s : State) (ords : List Nat) : State :=
  let done := ((dedupBy ords).filter fun o => !s.inPipe o).flatMap s.chainOf
  let s := s.wx' fun w => { w with shadow := w.shadow.map fun r =>
    (if r.mine && done.contains (2 ^ 64 + r.ordinal) then { r with live := false } else r) }
  s.ringRelease (done.filter (· < 2 ^ 64))

/-! ## Map items that wait (R275) -/

/-- A chunk can be named by a map: no chunk, or one that lies in a committed stripe, or is an alias (R143). -/
def State.placed (s : State) (chunk : Nat) : Bool :=
  chunk == 0 || (s.chunk? chunk).any fun c => c.state == .stored || c.state == .aliased

/-- The namespace and the chunks `[lo, hi)` that an item changes or freezes (R275, R419). -/
def MapItem.span : MapItem → Option (Nat × Nat × Nat)
  | .nsMap nsid k _ _ => some (nsid, k, k + 1)
  | .nsZero nsid first count => some (nsid, first, first + count)
  | .snapFreeze nsid _ _ => some (nsid, 0, 2 ^ 64)
  | _ => none

/-- Two spans meet. -/
def spansMeet (a b : Nat × Nat × Nat) : Bool := a.1 == b.1 && a.2.1 < b.2.2 && b.2.1 < a.2.2

/-- The span of a data record's write. -/
def WaxRec.span (r : WaxRec) : Option (Nat × Nat × Nat) :=
  match r.body with
  | .acceptWrite n off _ _ data => some (n, off / 16384, (off + data.length + 16383) / 16384)
  | _ => none

/-- An item of record `o` may be committed: its chunk is placed, and no earlier item, write in the pipeline or merge
meets its span (R275, R419). -/
def State.itemReady (s : State) (before : List (Nat × MapItem)) (o : Nat) (i : MapItem) : Bool :=
  (match i with
    | .nsMap _ _ chunk _ => s.placed chunk
    | .fpInsert _ chunk _ => s.placed chunk
    | _ => true) &&
  (match i.span with
    | none => true
    | some p =>
      !(before.any fun e => (e.2.span.map (spansMeet p)).getD false) &&
      !(s.sources.any fun r => keyOrder r.ordinal < keyOrder o && r.live && r.body.isData && !s.rd.ingested.contains r.ordinal &&
        (r.span.map (spansMeet p)).getD false) &&
      !(s.rd.merges.any fun m => keyOrder m.ordinal < keyOrder o && spansMeet p (m.nsid, m.k, m.k + 1)))

/-- Put items of a record among those that wait, in the order of the records. -/
def State.addPending (s : State) (items : List (Nat × MapItem)) : State :=
  s.rd' fun r => { r with pendingMap := (r.pendingMap ++ items).sortBy fun a b => keyOrder a.1 ≤ keyOrder b.1 }

/-- Split the waiting items into those that may be committed and the rest, in order. -/
def State.splitItems (s : State) : List (Nat × MapItem) → List (Nat × MapItem) →
    List (Nat × MapItem) × List (Nat × MapItem)
  | [], rest => ([], rest)
  | e :: l, rest =>
    if s.itemReady rest e.1 e.2 then
      let (a, b) := s.splitItems l rest
      (e :: a, b)
    else s.splitItems l (rest ++ [e])

/-- The domain an item changes. -/
def State.itemDomain (s : State) : MapItem → Nat
  | .nsMap nsid _ _ _ => ((s.ns? nsid).map (·.domain)).getD 0xFFFF
  | .nsZero nsid _ _ => ((s.ns? nsid).map (·.domain)).getD 0xFFFF
  | .snapFreeze nsid _ _ => ((s.ns? nsid).map (·.domain)).getD 0xFFFF
  | .fpInsert d _ _ => d
  | .fpRemove d _ _ => d
  | _ => 0xFFFF

/-- The replies of the SNAP_CREATE requests whose SNAP_FREEZE is among items (R419). -/
def State.snapReplies (s : State) (items : List MapItem) : List After :=
  items.filterMap fun i => match i with
    | .snapFreeze nsid snap _ => (s.rd.snapWait.find? fun w => w.1 == nsid && w.2.1 == snap).map fun w =>
        .final w.2.2.2.2 .success (le 4 snap)
    | _ => none

/-- The completions of ZERO-mode deallocates whose last NS_ZERO item is among `now` (R282, R418). -/
def State.zeroDone (s : State) (now rest : List (Nat × MapItem)) : List After :=
  let zeroOf := fun (nsid ord : Nat) (e : Nat × MapItem) => match e.2 with
    | .nsZero n _ _ => n == nsid && e.1 == ord
    | _ => false
  s.nv.cmds.filterMap fun c => match c.kind with
    | .zeroing nsid ord => if now.any (zeroOf nsid ord) && !rest.any (zeroOf nsid ord) then
        some (.complete c.ctrl c.qid c.cid 0) else none
    | _ => none

/-- Commit every map item that need not wait, one MAP_CHANGE record a domain; the data records behind them are
released once it is accepted, and SNAP_CREATE is answered. -/
def State.flushMap (s : State) : State :=
  let (ready, rest) := s.splitItems s.rd.pendingMap []
  let s := s.rd' fun r => { r with pendingMap := rest }
  (dedupBy (ready.map fun e => s.itemDomain e.2)).foldl (fun t d =>
    let mine := ready.filter fun e => s.itemDomain e.2 == d
    let items := mine.map (·.2)
    let t := t.mapChange d items (t.snapReplies items ++ t.zeroDone mine rest ++ [.release (dedupBy (mine.map (·.1)))])
    t.rd' fun r => { r with snapWait := r.snapWait.filter fun w => !items.any fun i => match i with
      | .snapFreeze nsid snap _ => w.1 == nsid && w.2.1 == snap
      | _ => false }) s

/-! ## The journal's confirmation (R225, R226) -/

/-- An entry is no longer live once what ends it is confirmed: a STRIPE_DONE for an open stripe and its moved units,
a newer checkpoint of its kind and hive for a checkpoint. -/
def State.judgeJournal (s : State) : State :=
  let conf := s.wx.journal.filter s.entryConfirmed
  s.wx' fun w => { w with journal := w.journal.map fun e =>
    if e.live && ((e.kind == 0x01 || e.kind == 0x03) && (conf.any fun d => d.kind == 0x02 && d.ord == e.ord && d.seq > e.seq) ||
        (e.kind == 0x10 || e.kind == 0x11) && (conf.any fun d => d.kind == e.kind && d.ord == e.ord && d.seq > e.seq)) then
      { e with live := false }
    else e }

/-! ## Frames (R104 to R106, R110) -/

/-- Change a frame of this head. -/
def State.frame' (s : State) (id : Nat) (peer : Bool) (f : Frame → Frame) : State :=
  s.vk' fun v => { v with frames := updFirst (fun g => g.id == id && g.peerMade == peer) f v.frames }

/-- A frame of this head. -/
def State.frame? (s : State) (id : Nat) (peer : Bool) : Option Frame :=
  s.vk.frames.find? fun g => g.id == id && g.peerMade == peer

/-- The schedule record of a frame, of the ordinal `ord`, is accepted: it is Scheduled; with wait, the reply is PENDING and the final
one follows the tick (R106), otherwise the reply gives the tick (R98); a pair-wide frame goes to the peer (R110). A record of a
schedule that was refused as late schedules nothing (R104). -/
def State.frameScheduled (s : State) (id ord : Nat) : State :=
  match s.frame? id false with
  | none => s
  | some f =>
    if f.state != .scheduling || f.schedOrd != ord then s
    else
      let s := s.frame' id false fun f => { f with state := .scheduled }
      let s := match f.waiter with
        | some w => if f.wait then s.replyTo w .pending [] else
            (s.replyTo w .success (le 8 f.tick)).frame' id false fun f => { f with waiter := none }
        | none => s
      if f.pair then s.send (.frameToPeer { f with state := .scheduled }) else s

/-! ## What follows acceptance -/

/-- UPD_CONFIRM's record is accepted (R662, R663): the running bank is confirmed, the fused minimum rises to its security version,
and the queen is told. -/
def State.confirmBank (s : State) : State :=
  let bank := s.bt.executing
  let s := s.bankSelect bank 0 0 s.up.version s.ck.tick
  let sec := ((s.bt.banks[bank]?).map (·.security)).getD 0
  let s := if s.bt.fusedMin < min 64 sec then (s.bt' fun b => { b with fusedMin := min 64 sec }).ev0 0xE06 .notice (le 1 (min 64 sec))
    else s
  let s := ((s.up' fun u => { u with 
    trial := none, fallbackDue := false, confirmed := u.formats, wroteBefore := none }).ev0 0xE00 .notice (le 1 3 ++ le 4 s.up.version ++
    le 4 s.up.version)).bump 0x0E04 0 1 1
  if s.co.member then s.send (.col 0xFFFF (.updateState s.up.version false false)) else s

/-- The ANA state of units changes (R422). -/
def State.anaUnits (s : State) (us : List OwnUnit) : State :=
  us.foldl (fun t u => match u with
    | .domain d => t.raiseAna d
    | _ => t) s

/-- The TAKEOVER record is accepted: the taken domains are Optimized; EB03 gives L and the ends of the phases, in µs from
L (R422, R560 step 6, R562). -/
def State.takeoverEnds (s : State) : State :=
  let ds := (s.vo.domains.filter (·.replaying)).map (·.id)
  let s := ds.foldl (fun t d => (t.domain' d fun x => { x with replaying := false }).raiseAna d) s
  let phases := s.pr.phaseAt.flatMap fun t => le 4 ((t - s.pr.lastWaggle) / 1000)
  ((s.pr' fun p => { p with fence := 5 }).bump 0x0B08 0 0 1).ev0 0xB03 .notice (le 8 s.pr.lastWaggle ++ phases)

/-- One consequence of a record's acceptance (R31, R35). -/
def State.followOne (s : State) : After → State
  | .reply w st payload => s.replyTo w st payload
  | .final w st payload => s.replyTo w st payload
  | .complete ctrl qid cid dw0 => s.endCmd ctrl qid cid dw0
  | .col head m => s.send (.col head m)
  | .repl head m => s.send (.repl head m)
  | .activate => s.silence.resetNow 3
  | .confirmBank => s.confirmBank
  | .scheduled f ord => s.frameScheduled f ord
  | .readiness f => if (s.frame? f true).any (·.state == .scheduling) then
      (s.frame' f true fun f => { f with ready := true, state := .scheduled }).send (.readiness f true) else s
  | .takeoverDone => s.takeoverEnds
  | .release recs => s.releaseDone recs
  | .eraseBlock link die block _ => s.set' link die block fun b => { b with erasing := true }

/-- A LANDING STRIPE_COMMIT is accepted: STRIPE_DONE, then the map items that wait for it (R219 step 5, R275). -/
def State.landed (s : State) (ord rec : Nat) : State :=
  let recs := (s.sp.opens.filter (·.ord == ord)).flatMap fun t => t.envs.flatMap (·.recs)
  let s := s.journal 0x02 ord [0, rec] []
  let s := s.sp' fun p => { p with opens := p.opens.filter (·.ord != ord) }
  (s.flushMap.releaseDone recs).judgeJournal

/-- The ingest bucket is charged with each byte at its acceptance (R817). -/
def State.charge (s : State) (n : Nat) : State := s.md' fun m => { m with bucket := m.bucket - n }

/-! ## Stripes and block sets that hold nothing any more (R256, R270, R273) -/

/-- The stripes whose live units the items of a record have lowered. -/
def State.lightened (s : State) (items : List MapItem) : List Nat :=
  dedupBy (items.filterMap fun i => match i with
    | .chunkPlace _ _ _ _ _ old => some old.ordinal
    | .chunkAlias c _ _ => (s.chunk? c).map (·.place.ordinal)
    | .chunkState c _ _ _ _ => (s.chunk? c).map (·.place.ordinal)
    | _ => none)

/-- An old stripe of an unfinished reshape is released only once a checkpoint has passed it (R246). -/
def State.underReshape (s : State) (t : Stripe) : Bool :=
  s.sp.reshapes.any fun r => r.hive == t.hive && r.bound ≤ t.ord && t.ord ≤ r.last

/-- A stripe holds a manifest that is still to be walked: its release follows the walk's REF_CHANGE (R468). -/
def State.walkWaits (s : State) (t : Stripe) : Bool :=
  s.ob.walks.any fun w => (s.chunk? w.2).any fun c => c.state == .stored && c.place.ordinal == t.ord

/-- A part names a chunk. -/
def Part.names (p : Part) (c : Nat) : Bool := p.manifest == c || p.chunks.any (·.1 == c)

/-- What waits to be committed names a chunk: a map item, a part that is not added yet, an object's manifests before its OBJECT_CREATE,
or the manifests of a shipped object (R143, R454, R520). -/
def State.waitsFor (s : State) (c : Nat) : Bool :=
  (s.rd.pendingMap.any fun e => match e.2 with
    | .nsMap _ _ k _ => k == c
    | .fpInsert _ k _ => k == c
    | _ => false) ||
    (s.rd.built.any fun p => p.2.names c) ||
    (s.ob.objs.any fun o => o.state != .live && o.state != .released &&
      (o.top == c || o.parts.any fun p => !p.added && p.names c)) ||
    s.rp.replicas.any fun r => r.tops.any fun t => t.2.contains c

/-- Nothing of a stripe is left for a move to copy: the chunks that are still placed in it have a count of 0, and nothing waits for
them (R270). -/
def State.spentStripe (s : State) (t : Stripe) : Bool :=
  t.purpose != .metadata && t.envs.all fun e =>
    !((s.chunk? e.chunk).any fun c => c.state == .stored && c.place.ordinal == t.ord && (c.refs > 0 || s.waitsFor e.chunk))

/-- A move has copied something out of a stripe (R270). -/
def State.movedFrom (s : State) (t : Stripe) : Bool :=
  t.envs.any fun e => (s.chunk? e.chunk).any fun c => c.state == .stored && c.place.ordinal != t.ord

/-- A copy that waits for its read-back and its placement holds no live unit yet: it is no source, and is not released (R290, R293,
R296). -/
def Stripe.waits (t : Stripe) : Bool := !t.placed && (t.purpose == .fold || t.purpose == .gc || t.purpose == .reshape)

/-- STRIPE_RELEASE for those of this head's stripes among `ords` that hold no live unit (R273) and no manifest to be walked. After a
move, what is left of a stripe whose chunks all have a count of 0 is released with it, and the release sets them FREE (R270); `moves`
says that a move has come to the stripes. -/
def State.releaseIf (s : State) (moves : Bool) (ords : List Nat) : State :=
  s.mapChange 0xFFFF (ords.filterMap fun o => match s.stripe? o with
    | some t =>
      if (t.live == 0 || ((moves || s.movedFrom t) && s.spentStripe t)) && !t.released && !t.waits && s.minesStripe t && !s.underReshape t &&
          !s.walkWaits t then some (.stripeRelease o)
      else none
    | none => none) []

/-- Release what holds no live unit, and what a move has left behind. -/
def State.releaseEmpty (s : State) (ords : List Nat) : State := s.releaseIf false ords

/-- A block set is SEALED and holds no unit: not of an unreleased stripe, not of one being written, not of a row that
waits for its read-back, and it is no anchor (R255). -/
def State.emptySet (s : State) (b : BlockSet) : Bool :=
  b.held == 0 && b.state == .sealed && b.use != .anchor &&
    !(s.sp.opens.any fun t => t.members.any fun m => m.link == b.link && m.die == b.die && m.block == b.block) &&
    !(s.me.rows.any fun r => r.sets.contains (b.link, b.die, b.block))

/-- A block set becomes FREE_DIRTY; its erase follows the record's acceptance (R255, R256). -/
def State.dirtySet (s : State) (b : BlockSet) : State :=
  let s := s.set' b.link b.die b.block fun x => { x with state := .freeDirty, nextUnit := 0 }
  s.mapChange 0xFFFF [.blockState b.link b.die b.block .freeDirty b.qlc .none b.pe b.grown] [.eraseBlock b.link b.die b.block b.qlc]

/-- FREE_DIRTY for every block set that holds no unit any more (R255, R256). -/
def State.dirtySets (s : State) : State := (s.me.sets.filter s.emptySet).foldl State.dirtySet s

/-- The heads that may hold a good copy of a domain's chunk, with their groups: the targets of the groups of a source domain
in group ID order, or the source of a replica domain, at the head that ships it (R536). -/
def State.repairFrom (s : State) (d : Nat) : List (Nat × Nat) :=
  (((s.rp.groups.filter fun g => g.domains.contains d && g.state != .refused).sortBy fun a b => a.id ≤ b.id).map fun g =>
    (g.id, g.targetHead)) ++
    (s.rp.replicas.filter fun r => r.domains.contains d && !r.orphaned).map fun r =>
      (r.id, if r.srcHead / 2 = r.source then r.srcHead else r.source * 2 + sideN s.pr.side)

/-- A chunk of a group's domain is recorded lost: its owner asks the first of them (R536). -/
def State.askRepair (s : State) (e : EnvEntry) : State :=
  match s.repairFrom e.domain with
  | [] => s
  | (g, head) :: rest =>
    if !s.owns (.domain e.domain) || s.rp.repairs.any (fun r => r.domain == e.domain && r.chunk == e.chunk) then s
    else
      let fp := s.fpOf e.chunk
      ((s.rp' fun r => { r with repairs := r.repairs ++ [⟨e.domain, e.chunk, fp, [g], rest.map (·.1), s.ck.now⟩] }).stat 0x0A04 0 0
        1).send (.repl head (.repairAsk e.domain fp (((s.stored? e.chunk).map (·.content.length)).getD 0)))

/-- A record that changes the tables which units hand over; the bookkeeping of flushes, block sets, rings and claims does not. -/
def RecBody.touches : RecBody → Bool
  | .stripeCommit _ _ _ purpose _ _ _ _ _ => purpose != .metadata && purpose != .claim
  | .mapChange items => items.any fun i => match i with
    | .blockState .. => false
    | .seqClaim .. => false
    | .stripeRelease .. => false
    | _ => true
  | .chunkClaim _ => false
  | .ringRelease _ => false
  | .checkpoint .. => false
  | _ => true

/-- A flush counts from the confirmation of its last STRIPE_COMMIT on (R263): its pages are what a start finds, a metadata stripe is
live by the pages that the page tables point to (R272), and one that holds none is released (R273). -/
def State.promote (s : State) (rec : Nat) : State :=
  match s.flNext with
  | none => s
  | some (o, f) =>
    if o != rec then s
    else
      -- an older root head is of use while no checkpoint asks for a later flush ordinal (R265)
      let floor := ckFloor (s.wx.own.map (·.body))
      let s : State := { s with fl := f, flNext := none, flOld := (s.fl :: s.flOld).filter fun g => floor ≤ g.covered }
      let s := s.me' fun m => { m with root := m.root.map fun (r : RootHead) => { r with counts := true } }
      let count := fun (t : Stripe) => (f.pages.filter fun p => p.ptrs.any (·.ord == t.ord)).length
      let mine := s.sp.table.filter fun t => t.purpose == .metadata && !t.released && s.minesStripe t
      let s := mine.foldl (fun (u : State) (t : Stripe) => u.stripe' t.ord fun x => { x with live := 257 * count t }) s
      -- what is still live in a collected stripe is copied by the next flush (R297)
      let s := mine.foldl (fun (u : State) (t : Stripe) => u.stripe' t.ord fun x => { x with moving := x.moving && x.live == 0 }) s
      s.releaseEmpty (mine.map (·.ord))

/-- The block sets of a comb's first bring-up, or of a replacement's: those bad from manufacture (R304), and in a brood hive the anchor sets
of the lowest-numbered own die (R264). -/
def State.firstSets (s : State) (l : Link) : List MapItem :=
  let bad := (List.range l.descs.length).flatMap fun d =>
    (((l.descs[d]?).map (·.factoryBad)).getD []).filterMap fun b =>
      if (s.set? l.link d b).isNone && (!s.isBrood l.hive || s.ownDie l d) then
        some (.blockState l.link d b .factoryBad false .none 0 0) else none
  let anchors := match s.anchorDie l with
    | some d => if s.isBrood l.hive then ([0, 1].filter fun b => (s.set? l.link d b).isNone &&
        !(((l.descs[d]?).map (·.factoryBad)).getD []).contains b).map fun b =>
          MapItem.blockState l.link d b .reserved false .anchor 0 0 else []
    | none => []
  bad ++ anchors

/-- A comb has taken the place of a failed one: its block sets that are bad from manufacture are recorded anew (R242, R304). -/
def State.replaced (s : State) (link : Nat) : State :=
  match s.link? link with
  | some l => s.mapChange 0xFFFF (s.firstSets l) []
  | none => s

/-- What the acceptance of a record brings about beside its effect on the tables. -/
def State.follow (s : State) (r : WaxRec) : State :=
  let s := match r.body with
    | .stripeCommit _ _ _ .loss _ _ _ envs _ =>
      envs.foldl State.askRepair ((dedupBy (envs.map (·.domain))).foldl (fun t d => t.raiseSmart d) (s.stat 0x0401 5 0 1))
    | .stripeCommit o _ _ purpose _ _ _ _ _ =>
      let s := s.stat 0x0401 (purposeN purpose) 0 1
      let s := if purpose == .metadata then s.promote r.ordinal else s
      if s.sp.opens.any (·.ord == o) then s.landed o r.ordinal else if purpose == .rebuild then s.dirtySets else s
    | .acceptWrite nsid _ _ _ data => (s.stat 0x0802 nsid 1 data.length).charge data.length
    | .acceptPut d data =>
      let s := s.charge data.length
      if d.abort && !r.continued then
        let ords := match s.objOfToken d.domain d.token with
          | some o => (o.parts.filter fun p => p.ordinal % 2 == sideN s.pr.side).map (·.ordinal / 2)
          | none => []
        (s.rd' fun x => { x with ingested := x.ingested ++ [r.ordinal] }).mapChange d.domain
          [.openDrop d.domain d.token] [.release (r.ordinal :: ords)]
      else s
    | .acceptControl (.nsCreate d nsid _ _) => s.raiseNs d nsid
    | .acceptControl (.nsDelete nsid) => s.raiseNs r.domain nsid
    | .acceptControl (.nsResize nsid _) => s.raiseNs r.domain nsid
    | .acceptControl (.snapCreate nsid snap label) => (s.addPending [(r.ordinal, .snapFreeze nsid snap label)]).flushMap
    | .mapChange items =>
      let s := items.foldl (fun t i => match i with
        | .nsClone _ _ new => t.raiseNs r.domain new
        | _ => t) s
      (s.releaseEmpty (s.lightened items)).dirtySets
    | .combState k .replacement _ => s.replaced k
    | .handover role _ _ us =>
      if role = 2 then
        (((us.foldl (fun t u => match u with
          | .domain d => t.domain' d fun x => { x with changing := false }
          | _ => t) s).anaUnits us).stat 0x0B04 0 0 1).ev0 0xB0A .notice []
      else s
    | .keyChange kind cls d _ _ _ _ _ => s.ev0 0x120 .notice (le 1 kind.num ++ le 1 cls ++ le 2 d)
    | .checkpoint .. =>
      let f := ckFloor (s.wx.own.map (·.body))
      s.wx' fun w => { w with own := w.own.filter fun x => f < x.ordinal || x.live || (x.ring != .data && x.ring != .commit) }
    | _ => s
  r.after.foldl State.followOne s

/-! ## Acceptance in commit order -/

/-- A record meets the rule of the head's mode (R27, R169). No host data is accepted by the flash rule before the fence is raised (R69). -/
def State.ruleMet (s : State) (r : WaxRec) : Bool :=
  if s.flashRule then r.localOk && (!r.body.isData || (r.flashOk && (s.pr.confirmedSolo || !s.pr.joined))) else r.localOk && r.peerOk

/-- The records from an ordinal to the end of their command, if all are there (R170). -/
def chainFrom (own : List WaxRec) : Nat → Nat → Option (List WaxRec)
  | 0, _ => none
  | n + 1, o => match own.find? (·.ordinal == o) with
    | none => none
    | some r => if r.continued then (chainFrom own n (o + 1)).map (r :: ·) else some [r]

/-- Chunks recorded lost that a landing stripe stores again (R143). -/
def State.restored (s : State) : RecBody → List EnvEntry
  | .stripeCommit _ _ _ .landing _ _ _ envs _ => envs.filter fun e => (s.chunk? e.chunk).any fun c => c.state == .dataLost
  | _ => []

/-- Accept one record: mark it, apply it, and let what follows happen (R43). -/
def State.acceptRec (s : State) (r : WaxRec) : State :=
  let s := s.wx' fun w => { w with
    lastApplied := r.ordinal
    own := updFirst (·.ordinal == r.ordinal) (fun x => { x with accepted := true }) w.own }
  let back := s.restored r.body
  let s := (s.applyBody s.pr.side r.ordinal r.tick r.domain r.continued r.body).me' fun m => { m with dirty := m.dirty || r.body.touches }
  back.foldl (fun t e => t.event 0x331 .notice e.domain (le 6 e.chunk)) (s.follow r)

/-- Accept every record that meets the rule, in commit order with no gaps; the fuel bounds the number of commands. -/
def State.acceptAux (s : State) : Nat → State
  | 0 => s
  | n + 1 => match chainFrom s.wx.own s.wx.own.length (s.wx.lastApplied + 1) with
    | none => s
    | some rs =>
      if rs.all s.ruleMet then
        let t := rs.foldl State.acceptRec s
        -- a record whose consequence is a reset ends the run of acceptances
        if t.wx.lastApplied = s.wx.lastApplied + rs.length then t.acceptAux n else t
      else s

/-- Accept whatever may be accepted now. -/
def State.accept (s : State) : State := s.judgeFlash.acceptAux s.wx.own.length

end Sys2Proof.Machine
end

