-- ==== Sys2Proof/Machine/LinkOps.lean ====
section
/-! DEFINITION. What the head does on a comb link: frames and their acknowledgement (R309 to R314), tasks (R324,
R325, R328, R330), and the bytes of a unit as pages (R202, R210, R325). -/

namespace Sys2Proof.Machine

/-! ## Frames -/

/-- A counter index of two numbers: the first in [15:0], the second in [31:16] (R737). -/
def idx2 (a b : Nat) : Nat := a % 65536 + b * 65536

/-- A counter index of a die (R737). -/
def dieIdx (link die : Nat) : Nat := link * 256 + die

/-- A plain frame with no acknowledgement, status or payload. -/
def bareFrame (type : Nat) : LFrame :=
  { type := type, die := 0xFF, tag := 0, seq := 0, ackValid := false, ack := 0, resent := false, op := 0, len := 0, resv := 0
    crc := 0, off := 0, arg := 0, status := 0, epoch := 0, owner := 0xFFFF, body := [] }

/-- The 32-byte header of a frame (R309). -/
def LFrame.header (f : LFrame) : Bytes :=
  le 1 f.type ++ le 1 (b2n f.ackValid + 2 * b2n f.resent + 4 * (f.resv % 64)) ++ le 2 (f.seq.toNat + 4096 * (f.resv / 64 % 16)) ++
    le 2 (f.ack.toNat + 4096 * (f.resv / 1024 % 16)) ++ le 2 f.len ++ le 1 f.die ++ le 1 f.op ++ le 2 f.tag ++ le 4 f.epoch.toNat ++
    le 4 f.off ++ le 4 f.arg.toNat ++ le 4 f.status.toNat ++ le 2 f.owner ++ le 2 (f.resv / 16384)

/-- The CRC-32C over the header and the payload (R309). -/
def LFrame.crcOf (f : LFrame) : BitVec 32 := crc32c (f.header ++ f.body)

/-- The CRC of a frame passes (R309, R312). -/
def LFrame.crcOk (f : LFrame) : Bool := f.crc == f.crcOf

/-- The bytes of a frame on the lane (R309). -/
def LFrame.bytes (f : LFrame) : Bytes := f.header ++ f.body ++ le 4 f.crc.toNat

/-- A frame as its sender completes it: payload length and CRC (R309). -/
def LFrame.sealed (f : LFrame) : LFrame :=
  let g := { f with len := f.body.length }
  { g with crc := g.crcOf }

/-- A frame goes out on a lane (R308, R309). -/
def State.lane (s : State) (link : Nat) (toHead : Bool) (port : Side) (f : LFrame) : State := s.send (.link link toHead port f.sealed)

/-- Number sequenced frames as they are sent: they are held until acknowledged (R311). -/
def Link.sendSeq (l : Link) (fs : List LFrame) : Link :=
  fs.foldl (fun l f => { l with unacked := l.unacked ++ [{ f with seq := l.txSeq }], txSeq := l.txSeq + 1 }) l

/-- There is room for `n` more sequenced frames: at most 256 are unacknowledged (R311). -/
def Link.room (l : Link) (n : Nat) : Bool := l.unacked.length + n ≤ 256

/-- A task's address word (R323). -/
def TaskHdr.addr (h : TaskHdr) : Nat := h.page % 4096 + h.block % 65536 * 4096

/-- The Argument of a DATA or PAGE_END frame: byte offset in the page and plane (R309). -/
def pageArg (plane off : Nat) : BitVec 32 := BitVec.ofNat 32 (off + plane * 65536)

/-- The frames of a page on a plane: four DATA frames and a PAGE_END (R309, R310); each carries the address of the task (R309). -/
def pageFrames (h : TaskHdr) (op plane : Nat) (page spare : Bytes) : List LFrame :=
  let f := fun (type i : Nat) (body : Bytes) => { bareFrame type with
    die := h.die, tag := h.tag, op := op, off := h.addr, arg := pageArg plane (4096 * i), body := body, owner := h.head }
  ((List.range 4).filterMap fun i => if 4096 * i < page.length then some (f 2 i (slice page (4096 * i) 4096)) else none) ++
    [f 3 0 spare]

/-- Drop acknowledged frames: those before sequence `a` (R313); the resend count starts again. -/
def Link.acked (l : Link) (a : BitVec 12) : Link :=
  let left := l.unacked.filter fun f => !(1 ≤ seqDist a f.seq && seqDist a f.seq ≤ 2047)
  if left.length < l.unacked.length then { l with unacked := left, resends := 0 } else l

/-- A resend of held frames, in order and with RESENT set (R314). -/
def State.resendFrames (s : State) (link : Nat) (fs : List LFrame) : State :=
  let s := fs.foldl (fun t f => t.lane link false s.pr.side { f with resent := true }) s
  if fs.isEmpty then s else s.bump 0x0606 link 1 fs.length

/-- Send a sequenced frame, or keep it until the window has room (R311). -/
def State.fromHead (s : State) (link : Nat) (f : LFrame) : State :=
  match s.link? link with
  | none => s
  | some l =>
    if l.waiting.isEmpty && l.room 1 then
      ((s.link' link (·.sendSeq [f])).stat 0x0601 link 0 1).lane link false s.pr.side { f with seq := l.txSeq }
    else s.link' link fun l => { l with waiting := l.waiting ++ [f] }

/-- Send what waits as far as the window has room (R311). -/
def State.headPump (s : State) (link : Nat) : State :=
  match s.link? link with
  | none => s
  | some l => l.waiting.foldl (fun t f => t.fromHead link f) (s.link' link fun l => { l with waiting := [] })

/-- REG_READ: a sequenced frame (R309, R321). -/
def State.sendRegRead (s : State) (link first count : Nat) : State :=
  s.fromHead link { bareFrame 5 with off := first, arg := BitVec.ofNat 32 count, owner := s.headId }

/-! ## Tasks -/

/-- Deadline of a task in nanoseconds (R324). -/
def taskDeadline (h : TaskHdr) : Nat :=
  match h.op with
  | .read => 100 * milli
  | .seqRead => 100 * milli + ((h.arg.toNat / 65536 % 256) + 1) * popcount (h.arg.extractLsb' 0 4) * 500000
  | .programSlc => 5 * milli
  | .programQlc => 30 * milli
  | .erase => 50 * milli
  | .eraseSuspend | .eraseResume => milli
  | .fenceRaise | .fenceAdopt => 20 * milli

/-- Task opcodes (R324). -/
def TaskOp.num : TaskOp → Nat
  | .read => 1 | .seqRead => 2 | .programSlc => 3 | .programQlc => 4 | .erase => 5 | .eraseSuspend => 6
  | .eraseResume => 7 | .fenceRaise => 0x80 | .fenceAdopt => 0x81

/-- The task of an opcode (R324). -/
def taskOpOf (n : Nat) : Option TaskOp :=
  [TaskOp.read, .seqRead, .programSlc, .programQlc, .erase, .eraseSuspend, .eraseResume, .fenceRaise, .fenceAdopt].find? (·.num == n)

/-- The task that a TASK frame names, with its address in block and page (R309, R323). -/
def LFrame.task (f : LFrame) (op : TaskOp) : TaskHdr :=
  { op := op, die := f.die, tag := f.tag, epoch := f.epoch.toNat, block := f.off / 4096 % 65536, page := f.off % 4096, arg := f.arg
    head := f.owner }

/-- Program tasks. -/
def TaskOp.isProgram : TaskOp → Bool
  | .programSlc | .programQlc => true
  | _ => false

/-- The head may issue comb tasks on its units: it has not stopped, is not asleep, and its lease has not ended by its
own clock (R64, R541, R550). -/
def State.tasksAllowed (s : State) : Bool :=
  !s.pr.fencedOff && !s.md.stopped && s.pw.sleep.isNone &&
    (!s.pr.joined || s.pr.confirmedSolo || s.ck.tick < s.pr.leaseEnd)

/-- A die can be given a task: the link is up, the die has none of this head's (R328), and it is neither declared
failed nor waiting to show itself idle (R330). -/
def Link.dieFree (l : Link) (die : Nat) : Bool :=
  l.state == .up && !l.tasks.any (·.hdr.die == die) && !l.deadDies.contains die && !l.blockedDies.contains die

/-- The next tag after one; a tag is never 0 (R309). -/
def tagAfter (t : Nat) : Nat := if t ≥ 65535 then 1 else t + 1

/-- Send a task and, for a program, its pages with their head spare bytes (R309, R310, R325); one that the window has no room for is sent
when its time comes again (R311). -/
def State.sendTask (s : State) (link : Nat) (op : TaskOp) (die block page : Nat) (arg : BitVec 32) (use : TaskUse)
    (data spares : List Bytes) : State :=
  match s.link? link with
  | none => s
  | some l =>
    let h : TaskHdr :=
      { op := op, die := die, tag := l.nextTag, epoch := l.epoch, block := block, page := page, arg := arg, head := s.headId }
    let task := { bareFrame 1 with
      die := die, tag := h.tag, op := op.num, epoch := BitVec.ofNat 32 l.epoch, off := h.addr, arg := arg, owner := s.headId }
    -- pages go plane by plane (R325)
    let per := max 1 (data.length / 4)
    let frames := task :: ((List.range data.length).zip (data.zip spares)).flatMap fun p => pageFrames h op.num (p.1 / per) p.2.1 p.2.2
    let k : DieTask :=
      { hdr := h, use := use, sentAt := s.ck.now, deadline := s.ck.now + taskDeadline h, data := [], part := []
        spares := [], reissueAt := none, notBefore := 0 }
    if !l.waiting.isEmpty || !l.room frames.length then
      s.link' link fun l => { l with tasks := l.tasks ++ [{ k with reissueAt := some (s.ck.now + milli) }], nextTag := tagAfter l.nextTag }
    else
    let s := s.link' link fun l => { l with tasks := l.tasks ++ [k], nextTag := tagAfter l.nextTag }
    (frames.foldl (fun t f => t.fromHead link f) s).stat 0x0602 (idx2 op.num link) 0 1

/-- A program can be sent: at most 16 without a DONE on a link, and room for its frames (R311, R315). -/
def Link.canProgram (l : Link) (die frames : Nat) : Bool :=
  l.dieFree die && (l.tasks.filter (·.hdr.op.isProgram)).length < 16 && l.room frames

/-- Forget a task. -/
def Link.dropTask (l : Link) (tag : Nat) : Link := { l with tasks := l.tasks.filter (·.hdr.tag != tag) }

/-! ## Units as pages (R202, R252, R325) -/

/-- The plane and page of each page of a unit, in the order in which its bytes lie (DEDUCED, log 24): the order of
R325, and for a tall unit one SLC unit after the other. -/
def unitPages (r : Region) (page : Nat) : List (Nat × Nat) :=
  match r with
  | .brood => (List.range 4).map fun p => (p, page)
  | .tall => (List.range 4).map (fun p => (p, page)) ++ (List.range 4).map fun p => (p, page + 1)
  | .honey => (List.range 4).flatMap fun p => (List.range 4).map fun i => (p, page + i)

/-- A programmed page of a bridge. -/
def Bridge.page? (b : Bridge) (die plane block page : Nat) : Option NandPage :=
  b.pages.find? fun p => p.die == die && p.plane == plane && p.block == block && p.page == page

/-- The pages of a unit that a member entry names, absent where erased. -/
def State.unitNand (s : State) (r : Region) (m : Member) : List (Option NandPage) :=
  match s.bridge? m.link with
  | none => (unitPages r m.page).map fun _ => none
  | some b => (unitPages r m.page).map fun p => b.page? m.die p.1 m.block p.2

/-- The footer of a unit (R210). -/
def footer (fmt : Nat) (r : Region) (head ord member n hive slot purpose epoch replay crc openTick used : Nat) : Bytes :=
  let b := le 4 0x54555453 ++ le 1 fmt ++ le 1 (regionN r) ++ le 2 head ++ le 6 ord ++ le 1 member ++ le 1 n ++ le 1 hive ++
    le 1 slot ++ le 1 purpose ++ [0#8] ++ le 4 epoch ++ le 4 replay ++ le 4 crc ++ le 8 openTick ++ le 4 used ++ zeros 80
  b ++ crcBytes b

/-! ## Parity (R212 to R214) -/

/-- The field polynomial of R212 without its leading term. -/
def gfPoly : Byte := 0x1D

/-- A power of the generator g. -/
def gfG (i : Nat) : Byte := gfPow gfPoly 2 i

/-- Multiply every byte by a constant. -/
def gfScale (c : Byte) (u : Bytes) : Bytes := u.map (gfMul gfPoly c)

/-- P: the exclusive-or of data units (R213). -/
def parityP (len : Nat) (ds : List Bytes) : Bytes := ds.foldl xorBytes (zeros len)

/-- Q: the sum of g^i·D_i (R213). -/
def parityQ (len : Nat) (ds : List Bytes) : Bytes :=
  ((List.range ds.length).zip ds).foldl (fun q d => xorBytes q (gfScale (gfG d.1) d.2)) (zeros len)

/-- One data member from P and the rest (R214). -/
def solveP (len : Nat) (ds : List (Option Bytes)) (p : Bytes) : Bytes :=
  ds.foldl (fun a d => match d with | some b => xorBytes a b | none => a) (fit len p)

/-- The sum over the members that are not erased of g^i·D_i, added to Q. -/
def sumQ (len : Nat) (ds : List (Option Bytes)) (q : Bytes) : Bytes :=
  ((List.range ds.length).zip ds).foldl (fun a d => match d.2 with
    | some b => xorBytes a (gfScale (gfG d.1) b)
    | none => a) (fit len q)

/-- Reconstruct the data members of a stripe from at most two erasures, P and Q included (R214); none with more. -/
def solve (len : Nat) (ds : List (Option Bytes)) (p q : Option Bytes) : Option (List Bytes) :=
  let gone := (List.range ds.length).filter fun i => (ds.getD i none).isNone
  let put := fun (l : List (Option Bytes)) (i : Nat) (b : Bytes) => l.set i (some b)
  let all := fun (l : List (Option Bytes)) => l.map fun d => d.getD []
  match gone, p, q with
  | [], _, _ => some (all ds)
  | [x], some p, _ => some (all (put ds x (solveP len ds p)))
  | [x], none, some q => some (all (put ds x (gfScale (gfPow gfPoly (gfG x) 254) (sumQ len ds q))))
  | [x, y], some p, some q =>
    let pxy := solveP len ds p
    let qxy := sumQ len ds q
    let gyx := gfG (y - x)
    let d := gfInv gfPoly (gyx ^^^ 1)
    let dx := xorBytes (gfScale (gfMul gfPoly gyx d) pxy) (gfScale (gfMul gfPoly (gfInv gfPoly (gfG x)) d) qxy)
    some (all (put (put ds x dx) y (xorBytes pxy dx)))
  | _, _, _ => none

end Sys2Proof.Machine
end

