-- ==== Sys2Proof/Machine/BridgeOps.lean ====
section
/-! DEFINITION. A comb's bridge: its registers (R321, R322), its status word (R331), how it takes and answers tasks
(R325 to R330, R335 to R343, R810), and its frames (R309 to R315). -/

namespace Sys2Proof.Machine

/-! ## The status word (R331) -/

/-- Status type codes (R331). -/
def StatusType.num : StatusType → Nat
  | .pass => 0x00 | .passMarginal => 0x01 | .erasedPage => 0x02 | .programFail => 0x10 | .eraseFail => 0x11
  | .uncorrectable => 0x12 | .busyRead => 0x20 | .busyProgram => 0x21 | .busyErase => 0x22
  | .eraseSuspendedTarget => 0x23 | .suspendConflict => 0x24 | .noErase => 0x25 | .suspendLimit => 0x26
  | .fenced => 0x30 | .epochAhead => 0x31 | .fenceLost => 0x32 | .badAddress => 0x38 | .badOp => 0x39
  | .protocolError => 0x3A | .dieFailed => 0x3B

/-- Every status type. -/
def allStatus : List StatusType :=
  [.pass, .passMarginal, .erasedPage, .programFail, .eraseFail, .uncorrectable, .busyRead, .busyProgram, .busyErase,
    .eraseSuspendedTarget, .suspendConflict, .noErase, .suspendLimit, .fenced, .epochAhead, .fenceLost, .badAddress,
    .badOp, .protocolError, .dieFailed]

/-- The type of a status word. -/
def statusType (w : BitVec 32) : Option StatusType := allStatus.find? (·.num == w.toNat % 256)

/-- A status word's bits (R331). -/
def StatusWord.bits (w : StatusWord) : BitVec 32 :=
  BitVec.ofNat 32 (w.type.num + b2n w.suspended * 2 ^ 8 + sideN w.port * 2 ^ 9 + w.tier % 4 * 2 ^ 10 +
    min 1023 w.corrected * 2 ^ 12 + min 1023 w.remaining * 2 ^ 22)

/-- A plain status word of a type. -/
def plainStatus (t : StatusType) (susp : Bool) : StatusWord := ⟨t, susp, .a, 0, 0, 0⟩

/-- The BUSY type by what a die is doing (R327). -/
def TaskOp.busy : TaskOp → StatusType
  | .read | .seqRead => .busyRead
  | .programSlc | .programQlc => .busyProgram
  | _ => .busyErase

/-! ## Ports and dies -/

/-- A port of a bridge. -/
def Bridge.port (b : Bridge) : Side → BridgePort
  | .a => b.portA
  | .b => b.portB

/-- Change a port of a bridge. -/
def Bridge.port' (b : Bridge) (d : Side) (f : BridgePort → BridgePort) : Bridge :=
  match d with
  | .a => { b with portA := f b.portA }
  | .b => { b with portB := f b.portB }

/-- A die of a bridge. -/
def Bridge.die? (b : Bridge) (die : Nat) : Option Die := b.dies.find? (·.index == die)

/-- Change a die of a bridge. -/
def State.die' (s : State) (link die : Nat) (f : Die → Die) : State :=
  s.bridge' link fun b => { b with dies := updFirst (·.index == die) f b.dies }

/-- The die window of a port (R321). -/
def Die.win (d : Die) : Side → DieWindow
  | .a => d.winA
  | .b => d.winB

/-- Change the die window of a port. -/
def Die.win' (d : Die) (p : Side) (f : DieWindow → DieWindow) : Die :=
  match p with
  | .a => { d with winA := f d.winA }
  | .b => { d with winB := f d.winB }

/-- The plane mask of a task (R324). -/
def TaskHdr.mask (h : TaskHdr) : BitVec 4 := h.arg.extractLsb' 0 4

/-- The planes of a mask, ascending (R325). -/
def planesOf (m : BitVec 4) : List Nat := (List.range 4).filter fun i => m.getLsbD i

/-- A task is of QLC mode (R324). -/
def TaskHdr.qlc (h : TaskHdr) : Bool :=
  match h.op with
  | .programQlc => true
  | .programSlc => false
  | _ => h.arg.getLsbD 4

/-- Pages that a task reads or programs on each plane (R324). -/
def TaskHdr.perPlane (h : TaskHdr) : Nat :=
  match h.op with
  | .read => (h.arg.extractLsb' 8 2).toNat + 1
  | .seqRead => (h.arg.extractLsb' 16 8).toNat + 1
  | .programSlc => 1
  | .programQlc => 4
  | _ => 0

/-- The plane and page of each page of a task, in the order of R325. -/
def TaskHdr.pages (h : TaskHdr) : List (Nat × Nat) :=
  (planesOf h.mask).flatMap fun p => (List.range h.perPlane).map fun i => (p, h.page + i)

/-! ## Frames of a bridge -/

/-- A port's window has room and nothing waits for it (R311). -/
def BridgePort.open (p : BridgePort) : Bool := p.waiting.isEmpty && decide (p.unacked.length < 256)

/-- Send a sequenced frame to a head, or keep it until the window has room (R311). Frames of a port whose link is down are discarded
(R345). Every frame of the bridge carries the comb's fence epoch and owner (R309). -/
def State.toHead (s : State) (link : Nat) (port : Side) (f : LFrame) : State :=
  match s.bridge? link with
  | none => s
  | some b =>
    if !(b.port port).up then s
    else if !(b.port port).open then s.bridge' link fun b => b.port' port fun p => { p with waiting := p.waiting ++ [f] }
    else
      let f := { f with seq := (b.port port).txSeq, epoch := BitVec.ofNat 32 b.epoch, owner := b.owner }
      (s.bridge' link fun b => b.port' port fun p => { p with
        txSeq := p.txSeq + 1, unacked := p.unacked ++ [f] }).lane link true port f

/-- Send what waits at a port as far as its window has room (R311). -/
def State.bridgePump (s : State) (link : Nat) (port : Side) : State :=
  match s.bridge? link with
  | none => s
  | some b =>
    let p := b.port port
    p.waiting.foldl (fun t f => t.toHead link port f) (s.bridge' link fun b => b.port' port fun p => { p with waiting := [] })

/-- A DONE frame (R309, R331). -/
def doneFrame (h : TaskHdr) (w : BitVec 32) : LFrame :=
  { bareFrame 4 with die := h.die, tag := h.tag, op := h.op.num, off := h.addr, status := w }

/-- Answer a task with DONE. -/
def State.bridgeDone (s : State) (link : Nat) (port : Side) (h : TaskHdr) (w : StatusWord) : State :=
  s.toHead link port (doneFrame h w.bits)

/-- Count up to 0x7FFF_FFFF, then all ones with SAT (R321: the value sticks). -/
def satUp (w : BitVec 32) : BitVec 32 := if w.toNat ≥ 0x7FFFFFFF then 0xFFFFFFFF#32 else w + 1

/-- An acknowledgement of what a port expects next (R313). -/
def State.bridgeAck (s : State) (link : Nat) (port : Side) : State :=
  match s.bridge? link with
  | none => s
  | some b => s.lane link true port { bareFrame 0x11 with
      ackValid := true, ack := (b.port port).rxSeq, epoch := BitVec.ofNat 32 b.epoch, owner := b.owner }

/-- One NAK that names the sequence a port expects; no further NAK until that frame arrives (R312). -/
def State.bridgeNak (s : State) (link : Nat) (port : Side) : State :=
  match s.bridge? link with
  | none => s
  | some b =>
    if !(b.port port).up || (b.port port).nakSent then s
    else (s.bridge' link fun b => b.port' port fun p => { p with nakSent := true }).lane link true port { bareFrame 0x12 with
      ackValid := true, ack := (b.port port).rxSeq, epoch := BitVec.ofNat 32 b.epoch, owner := b.owner }

/-- A port accepts the next sequenced frame and acknowledges it (R312, R313). -/
def State.bridgeTook (s : State) (link : Nat) (port : Side) : State :=
  (s.bridge' link fun b => b.port' port fun p => { p with rxSeq := p.rxSeq + 1, nakSent := false }).bridgeAck link port

/-- Drop the frames of a port that an acknowledgement covers (R313); the resend count starts again. -/
def BridgePort.acked (p : BridgePort) (a : BitVec 12) : BridgePort :=
  let left := p.unacked.filter fun f => !(1 ≤ seqDist a f.seq && seqDist a f.seq ≤ 2047)
  { p with unacked := left, tries := if left.length < p.unacked.length then 0 else p.tries }

/-- A port whose sequences start anew, or whose link is down, holds no frame. -/
def BridgePort.emptied (p : BridgePort) : BridgePort := { p with unacked := [], waiting := [], tries := 0 }

/-- Resend the unacknowledged frames of a port from a sequence on (R314). -/
def State.bridgeResend (s : State) (link : Nat) (port : Side) (from_ : BitVec 12) : State :=
  match s.bridge? link with
  | none => s
  | some b =>
    let fs := (b.port port).unacked.filter fun f => seqDist f.seq from_ < 2048
    let s := s.bridge' link fun b => b.port' port fun p => { p with
      tries := if fs.isEmpty then p.tries else p.tries + 1
      resends := (List.range fs.length).foldl (fun w _ => satUp w) p.resends }
    fs.foldl (fun t f => t.lane link true port { f with resent := true }) s

/-! ## Judging a die task at acceptance (R326, R327, R329, R335 to R337, R340, R810) -/

/-- A die task's address lies in the die, and where R326 asks it to (checks of R326 on the address). -/
def Die.addressOk (d : Die) (h : TaskHdr) : Bool :=
  let pages := if h.qlc then 1536 else 384
  match h.op with
  | .eraseSuspend | .eraseResume => true
  | .erase => decide (h.block < d.desc.blocks) && h.page == 0
  | .programQlc => decide (h.block < d.desc.blocks) && decide (h.page + 4 ≤ pages) && h.page % 4 == 0
  | _ => decide (h.block < d.desc.blocks) && decide (h.page + h.perPlane ≤ pages)

/-- What the present work of a die answers to a task (R327, R329, R335): the BUSY status, or nothing. -/
def State.dieBusy (s : State) (d : Die) (port : Side) (h : TaskHdr) : Option StatusWord :=
  match d.exec with
  | some e =>
    if h.op == .eraseSuspend && e.hdr.op == .erase then none
    else some ⟨e.hdr.op.busy, d.susp.isSome, e.port, 0, 0, s.drawnNat % 1024⟩
  | none => match d.favoured with
    | some q => if q != port && s.ck.now < d.favUntil then
        some ⟨d.favBusy, d.susp.isSome, q, 0, 0, (d.favUntil - s.ck.now + 15999) / 16000⟩
      else none
    | none => none

/-- What a suspended erase answers to a task (R335 to R337). -/
def Die.suspCheck (d : Die) (h : TaskHdr) : Option StatusType :=
  match h.op with
  | .eraseSuspend => match d.eraseRun with
    | some r => if r.count ≥ 16 then some .suspendLimit else none
    | none => if d.exec.any (·.hdr.op == .erase) then none else some .noErase
  | .eraseResume => if d.susp.isSome then none else some .noErase
  | .read | .seqRead => if d.susp.any (·.hdr.block == h.block) then some .eraseSuspendedTarget else none
  | _ => if d.susp.isSome then some .suspendConflict else none

/-- The checks of R810, in their order: the status that refuses a die task, or none; `known` tells that the opcode is one of R324. -/
def State.judgeTask (s : State) (b : Bridge) (port : Side) (h : TaskHdr) (known : Bool) : Option StatusWord :=
  let susp := (b.die? h.die).any (·.susp.isSome)
  let no := fun (t : StatusType) => some (plainStatus t susp)
  if h.epoch < b.epoch then no .fenced
  else if h.epoch > b.epoch then no .epochAhead
  else if b.failed || (b.die? h.die).any (·.desc.failed) then no .dieFailed
  else if !known || (h.op != .eraseSuspend && h.op != .eraseResume && h.mask == 0) then no .badOp
  else match b.die? h.die with
    | none => no .badAddress
    | some d =>
      if !d.addressOk h then no .badAddress
      else match s.dieBusy d port h with
        | some w => some w
        | none => (d.suspCheck h).map fun t => plainStatus t d.susp.isSome

/-- Note in the die window of the port the task that the die has accepted (R321). -/
def Die.accepted (d : Die) (port : Side) (h : TaskHdr) (st : BitVec 32) : Die :=
  d.win' port fun _ => ⟨BitVec.ofNat 32 (h.op.num + h.tag * 65536), BitVec.ofNat 32 h.addr, h.arg, BitVec.ofNat 32 h.epoch, st⟩

/-- Write a task's final status in the window of its port while the window still holds that task (R321). -/
def Die.ended (d : Die) (port : Side) (h : TaskHdr) (st : BitVec 32) : Die :=
  if (d.win port).op == BitVec.ofNat 32 (h.op.num + h.tag * 65536) then d.win' port fun w => { w with status := st } else d

/-- A die ends the executing task of a port: the port refused meanwhile is favoured for 20 µs (R329). -/
def Die.finish (d : Die) (port : Side) (busy : StatusType) (now : Nat) : Die :=
  let other := d.refusedPort.filter (· != port)
  { d with
    exec := none, eraseRun := none, idleSince := now, refusedPort := none
    favoured := other, favUntil := if other.isSome then now + 20000 else d.favUntil, favBusy := busy }

/-- A program whose data never came whole ends with PROTOCOL_ERROR when the next task of its port for the die arrives
(R326). -/
def State.cutProgram (s : State) (link : Nat) (port : Side) (h : TaskHdr) : State :=
  match (s.bridge? link).bind (·.die? h.die) with
  | none => s
  | some d => match d.exec with
    | none => s
    | some e =>
      if e.port == port && e.hdr.op.isProgram && e.data.length < e.hdr.pages.length then
        let w := plainStatus .protocolError d.susp.isSome
        ((s.die' link h.die fun d => ((d.ended port e.hdr w.bits).finish port .busyProgram s.ck.now)).bridge' link fun b =>
          b.port' port fun p => { p with discardedData := p.discardedData + 4 * e.data.length }).bridgeDone link port e.hdr w
      else s

/-- The erase that a die holds suspended runs again: the deadline of this head's erase excludes the time it was suspended
(R330). -/
def State.eraseGoesOn (s : State) (link : Nat) (r : SuspErase) : State :=
  if r.port != s.pr.side then s
  else s.link' link fun l => { l with tasks := updFirst (·.hdr.tag == r.hdr.tag) (fun k => { k with
    deadline := k.deadline + (s.ck.now - r.atNs) }) l.tasks }

/-- A die stops the erase it executes, which has run for 500 µs since it was resumed: it is idle and holds the erase suspended (R335,
R337). -/
def Die.suspendBy (d : Die) (port : Side) (h : TaskHdr) (now : Nat) : Die :=
  match d.exec with
  | some e =>
    let at_ := ((d.eraseRun.map fun r => max now (r.atNs + 500000))).getD now
    { (d.accepted port h (plainStatus .pass true).bits) with
      exec := none, eraseRun := none, susp := some ⟨e.hdr, e.port, ((d.eraseRun.map (·.count)).getD 0) + 1, at_⟩, idleSince := at_ }
  | none => d

/-- A die runs the erase that it holds suspended again, for a task (R337). -/
def Die.resumeBy (d : Die) (port : Side) (h : TaskHdr) (now : Nat) : Die :=
  match d.susp with
  | some r => { (d.accepted port h (plainStatus .pass false).bits) with
      susp := none, eraseRun := some { r with atNs := now }, exec := some ⟨r.port, r.hdr, now, [], [], [], false⟩ }
  | none => d

/-- A die begins a task; its window shows a BUSY type of its own opcode (R321, R327). -/
def Die.begin (d : Die) (port : Side) (h : TaskHdr) (now : Nat) : Die :=
  let w : StatusWord := ⟨h.op.busy, d.susp.isSome, port, 0, 0, 0⟩
  { (d.accepted port h w.bits) with exec := some ⟨port, h, now, [], [], [], false⟩ }

/-- The favoured port has sent its task (R329). -/
def Die.unfavour (d : Die) (port : Side) : Die := if d.favoured == some port then { d with favoured := none } else d

/-- A die task that passes the checks of R810 is carried out or begun. -/
def State.dieAccepts (s : State) (link : Nat) (port : Side) (h : TaskHdr) : State :=
  match h.op with
  | .eraseSuspend => (s.die' link h.die fun d => (d.unfavour port).suspendBy port h s.ck.now).bridgeDone link port h (plainStatus .pass true)
  | .eraseResume =>
    let s := match ((s.bridge? link).bind (·.die? h.die)).bind (·.susp) with
      | some r => s.eraseGoesOn link r
      | none => s
    (s.die' link h.die fun d => (d.unfavour port).resumeBy port h s.ck.now).bridgeDone link port h (plainStatus .pass false)
  | _ => s.die' link h.die fun d => (d.unfavour port).begin port h s.ck.now

/-- A die task is refused: a drawn remaining time counts as used, and the port that found the die busy is remembered (R327, R329). -/
def State.dieRefuses (s : State) (link : Nat) (port : Side) (h : TaskHdr) (w : StatusWord) : State :=
  (s.cond (w.type == .busyRead || w.type == .busyProgram || w.type == .busyErase) fun s =>
    (s.die' link h.die fun d => { d with
      refusedPort := if d.exec.any (·.port != port) then some port else d.refusedPort }).afterDraw).bridgeDone link port h w

/-- A bridge judges a die task whose TASK frame it has accepted (R330, R810): refused with DONE, or carried out. -/
def State.dieTask (s : State) (link : Nat) (port : Side) (h : TaskHdr) : State :=
  let s := s.cutProgram link port h
  match s.bridge? link with
  | none => s
  | some b => match s.judgeTask b port h true with
    | some w => s.dieRefuses link port h w
    | none => s.dieAccepts link port h

/-! ## Fence tasks (R339 to R343, R347) -/

/-- Store a raised or adopted epoch and its owner, or answer FENCE_LOST (R341 to R343, R347). -/
def State.fenceTask (s : State) (link : Nat) (port : Side) (h : TaskHdr) (wins : Bridge → Bool) (epoch : Nat) : State :=
  match s.bridge? link with
  | none => s
  | some b =>
    if wins b && !b.failed && !b.storeFault then
      (s.bridge' link fun b => { b with epoch := epoch, owner := h.head }).bridgeDone link port h (plainStatus .pass false)
    else s.bridgeDone link port h (plainStatus .fenceLost false)

/-- A TASK frame whose opcode is none of R324: the checks of R810, which it fails at the third at the latest. -/
def State.badTask (s : State) (link : Nat) (port : Side) (f : LFrame) : State :=
  let h := f.task .read
  let s := s.cutProgram link port h
  match (s.bridge? link).bind fun b => s.judgeTask b port h false with
  | some w => s.toHead link port { doneFrame h w.bits with op := f.op }
  | none => s

/-! ## The end of a die task (R325, R332, R333) -/

/-- How one page reads: its status type, tier and corrected bits. The tier that a page needed, and what a read that the
bridge reports wholly failed held, are free values (log 3). -/
def readPage (p : Option NandPage) (fail : Bool) (refresh tier : Nat) : StatusType × Nat × Nat :=
  match p with
  | none => (.erasedPage, 0, 0)
  | some p =>
    if p.bad || fail then (.uncorrectable, 3, 0)
    else if p.corrected ≥ refresh then (.passMarginal, tier % 4, p.corrected)
    else (.pass, tier % 4, p.corrected)

/-- The DONE type of a read from the types of its pages (R332). -/
def readDone (ts : List StatusType) : StatusType :=
  if ts.contains .uncorrectable then .uncorrectable
  else if ts.contains .erasedPage then .erasedPage
  else if ts.contains .passMarginal then .passMarginal
  else .pass

/-- Send one page of a read: its data in four frames, and a PAGE_END with its spare bytes and status (R309, R310). -/
def State.sendPage (s : State) (link : Nat) (port : Side) (h : TaskHdr) (plane : Nat) (p : Option NandPage) (w : StatusWord) : State :=
  let f := fun (type i : Nat) (body : Bytes) => { bareFrame type with
    die := h.die, tag := h.tag, op := h.op.num, off := h.addr, arg := pageArg plane (4096 * i), body := body
    status := if type = 3 then w.bits else 0 }
  match p, w.type with
  | some p, .pass | some p, .passMarginal =>
    let s := (List.range 4).foldl (fun t i => t.toHead link port (f 2 i (slice p.data (4096 * i) 4096))) s
    s.toHead link port (f 3 0 p.spare)
  | _, _ => s.toHead link port (f 3 0 [])

/-- A read ends: its pages go out in the order of R325, then DONE. -/
def State.endRead (s : State) (link : Nat) (b : Bridge) (d : Die) (e : DieExec) (good : Bool) : State :=
  let h := e.hdr
  let ps := h.pages.map fun p => b.page? h.die p.1 h.block p.2
  let rs := (List.range ps.length).map fun i => readPage (ps.getD i none) (!good) d.desc.refresh (Config.freeNat (s.free + i))
  let susp := d.susp.isSome
  let s := { s with free := s.free + ps.length }
  let s := ((h.pages.map (·.1)).zip (ps.zip rs)).foldl (fun t y => let x := y.2; t.sendPage link e.port h y.1 x.1 ⟨x.2.1, susp, .a, x.2.2.1, x.2.2.2, 0⟩) s
  let w : StatusWord := ⟨readDone (rs.map (·.1)), susp, .a, (rs.map (·.2.1)).foldl max 0, (rs.map (·.2.2)).foldl max 0, 0⟩
  (s.die' link h.die fun d => (d.ended e.port h w.bits).finish e.port .busyRead s.ck.now).bridgeDone link e.port h w

/-- The pages of a program as they stand after it: programmed, or, after a failure, of a content that a free value
decides; a QLC failure may also damage the two wordlines before (R288, R333). A page programmed twice is of such a
content too, since the bridge does not check program order (R326). -/
def Bridge.programmed (b : Bridge) (h : TaskHdr) (data spares : List Bytes) (good : Bool) (f : Nat → Nat) : Bridge :=
  let mine := fun (p : NandPage) => p.die == h.die && p.block == h.block && h.pages.contains (p.plane, p.page)
  let hurt := fun (p : NandPage) => !good && h.op == .programQlc && p.die == h.die && p.block == h.block &&
    decide (p.page < h.page) && decide (h.page ≤ p.page + 8)
  let old := b.pages.filter fun p => !mine p
  let n := h.pages.length
  let new := (List.range n).map fun i =>
    let at_ := h.pages.getD i (0, 0)
    let again := b.pages.any fun p => mine p && p.plane == at_.1 && p.page == at_.2
    (⟨h.die, at_.1, h.block, at_.2, data.getD i [], spares.getD i [], (!good || again) && f i % 2 == 1, f (n + i) % 1024⟩ : NandPage)
  { b with pages := (old.map fun p => if hurt p then { p with bad := p.bad || f (2 * n + p.page) % 2 == 1 } else p) ++ new }

/-- A program whose data has all arrived ends (R325, R326). -/
def State.endProgram (s : State) (link : Nat) (d : Die) (e : DieExec) (good : Bool) : State :=
  let h := e.hdr
  let t : StatusType := if e.malformed then .protocolError else if good then .pass else .programFail
  let w := plainStatus t d.susp.isSome
  let f := fun i => Config.freeNat (s.free + i)
  let s := if e.malformed then
      s.bridge' link fun b => b.port' e.port fun p => { p with discardedData := p.discardedData + 4 * e.data.length }
    else { (s.bridge' link fun b => b.programmed h e.data e.spares good f) with free := s.free + 8192 }
  (s.die' link h.die fun d => (d.ended e.port h w.bits).finish e.port .busyProgram s.ck.now).bridgeDone link e.port h w

/-- An erase ends: its pages are gone, or, after a failure, of a content that a free value decides (R331). -/
def State.endErase (s : State) (link : Nat) (d : Die) (e : DieExec) (good : Bool) : State :=
  let h := e.hdr
  let w := plainStatus (if good then .pass else .eraseFail) d.susp.isSome
  let f := fun i => Config.freeNat (s.free + i)
  let mine := fun (p : NandPage) => p.die == h.die && p.block == h.block && (planesOf h.mask).contains p.plane
  let s := { (s.bridge' link fun b => { b with
    pages := if good then b.pages.filter fun p => !mine p
      else b.pages.map fun p => if mine p then { p with bad := p.bad || f (4 * p.page + p.plane) % 2 == 1 } else p }) with
    free := s.free + 8192 }
  (s.die' link h.die fun d => (d.ended e.port h w.bits).finish e.port .busyErase s.ck.now).bridgeDone link e.port h w

/-- The erase that a die holds suspended runs again (R337). -/
def Die.resume (d : Die) (now : Nat) : Die :=
  match d.susp, d.exec with
  | some r, none => { d with
      susp := none, eraseRun := some { r with atNs := now }, exec := some ⟨r.port, r.hdr, now, [], [], [], false⟩ }
  | _, _ => d

/-! ## Registers (R321, R322) -/

/-- A die descriptor as its bytes (R322). -/
def DieDesc.bytes (d : DieDesc) (die : Nat) : Bytes :=
  let map := (List.range 1024).map fun i =>
    BitVec.ofNat 8 (((List.range 8).map fun j => if d.factoryBad.contains (8 * i + j) then 2 ^ j else 0).sum)
  le 1 die ++ le 1 (b2n d.failed) ++ le 2 d.blocks ++ le 2 1536 ++ le 2 384 ++ le 4 d.peQlc ++ le 4 d.peSlc ++
    le 2 d.refresh ++ zeros 2 ++ (d.maxima.take 6).flatMap (le 4) ++ zeros 20 ++ map

/-- DIE_STATE of a die (R321). -/
def Die.state (d : Die) : Nat :=
  b2n d.exec.isSome + 2 * (d.exec.map fun e => sideN e.port).getD 0 + 4 * b2n d.susp.isSome + 8 * b2n d.desc.failed +
    16 * ((d.susp.map (·.count)).getD ((d.eraseRun.map (·.count)).getD 0))

/-- A register of a bridge as a port reads it; an offset with no register reads 0 (DESIGN CHOICE, log 26). -/
def Bridge.reg (b : Bridge) (port : Side) (off : Nat) : BitVec 32 :=
  let p := b.port port
  if off = 0 then 0x44524243
  else if off = 4 then BitVec.ofNat 32 (1 + b.dies.length * 2 ^ 8 + b.hive % 8 * 2 ^ 16 + b.slot % 16 * 2 ^ 20 + sideN port * 2 ^ 24)
  else if off = 8 then BitVec.ofNat 32 b.serial
  else if off = 0xC then BitVec.ofNat 32 (b.serial / 2 ^ 32)
  else if off = 0x10 then b.version
  else if off = 0x20 then BitVec.ofNat 32 b.epoch
  else if off = 0x24 then BitVec.ofNat 32 (b.owner % 65536)
  else if off = 0x28 then BitVec.ofNat 32 (b2n b.failed + 2 * b2n b.storeFault + b.temp.toNat * 256)
  else if off = 0x30 then p.crcErrors
  else if off = 0x34 then p.resends
  else if off = 0x38 then p.retrains
  else if 0x10000 ≤ off && off < 0x11000 then
    match b.die? ((off - 0x10000) / 32) with
    | none => 0
    | some d =>
      let w := d.win port
      match (off - 0x10000) % 32 with
      | 0 => w.op | 4 => w.addr | 8 => w.arg | 12 => w.epoch | 16 => w.status | 20 => BitVec.ofNat 32 d.state | _ => 0
  else if 0x100000 ≤ off && off < 0x140000 then
    match b.die? ((off - 0x100000) / 0x800) with
    | none => 0
    | some d => BitVec.ofNat 32 (fld (d.desc.bytes d.index) ((off - 0x100000) % 0x800) 4)
  else 0

/-! ## DATA and PAGE_END of a program (R310, R325, R326) -/

/-- One frame of program data at a die: a fragment of the page now arriving, or the end of a page. A frame whose Argument does not name
the plane and the byte offset that are next in the order of R325, or of the wrong length, spoils the program (R309, R326). -/
def DieExec.data' (e : DieExec) (f : LFrame) : DieExec :=
  let plane := (e.hdr.pages[e.data.length]?).map (·.1)
  let here := plane == some (f.arg.extractLsb' 16 2).toNat
  if f.type = 2 then
    { e with
      malformed := e.malformed || f.body.length != 4096 || (f.arg.extractLsb' 0 16).toNat != e.part.length || !here
      part := e.part ++ f.body }
  else
    { e with
      malformed := e.malformed || f.body.length != 128 || e.part.length != 16384 || !here
      data := e.data ++ [fit 16384 e.part], part := [], spares := e.spares ++ [fit 128 f.body] }

/-- Program data arrives at a bridge: it belongs to the program of its tag that the die executes, or it is discarded
and counted (R326). -/
def State.bridgeData (s : State) (link : Nat) (port : Side) (f : LFrame) : State :=
  let runs := (((s.bridge? link).bind (·.die? f.die)).bind (·.exec)).any fun e =>
    e.port == port && e.hdr.op.isProgram && e.hdr.tag == f.tag
  if runs then s.die' link f.die fun d => { d with exec := d.exec.map (·.data' f) }
  else s.bridge' link fun b => b.port' port fun p => { p with discardedData := p.discardedData + 1 }

/-- A frame whose CRC passes and whose payload length is that of its type and of the bytes it carries; any other counts as a CRC error,
and so does one of more than 4,132 bytes (R308, R310). -/
def LFrame.sound (f : LFrame) : Bool :=
  f.crcOk && f.len == f.body.length && match f.type with
    | 2 => decide (1 ≤ f.body.length) && decide (f.body.length ≤ 4096)
    | 3 => f.body.isEmpty || f.body.length == 128
    | 6 => f.body.length % 4 == 0 && decide (f.body.length ≤ 4096)
    | 7 | 0x10 => f.body.length == 16
    | 1 | 4 | 5 | 0x11 | 0x12 => f.body.isEmpty
    | _ => decide (f.body.length ≤ 4096)

/-- A frame arrives at a bridge's port: one that is not sound is discarded, counted and asked for again (R308, R310, R312, R319); the Ack
field of a sound one with ACK_VALID frees frames, and what waits for the window goes out after what the frame itself asks for (R313,
R314). -/
def State.bridgeHears (s : State) (link : Nat) (port : Side) (f : LFrame) (act : State → State) : State :=
  match s.bridge? link with
  | none => s
  | some b =>
    if !b.powered then s
    else if !f.sound then (s.bridge' link fun b => b.port' port fun p => { p with crcErrors := satUp p.crcErrors }).bridgeNak link port
    else if f.ackValid then (act (s.bridge' link fun b => b.port' port (·.acked f.ack))).bridgePump link port
    else act s

/-- A sequenced frame arrives at a bridge's port (R310, R312): what it does when it is accepted. -/
def State.bridgeFrame (s : State) (link : Nat) (port : Side) (f : LFrame) (act : State → State) : State :=
  s.bridgeHears link port f fun s => match s.bridge? link with
    | none => s
    | some b =>
      let p := b.port port
      if !p.up then s
      else if f.seq == p.rxSeq then act (s.bridgeTook link port)
      else if 1 ≤ seqDist p.rxSeq f.seq && seqDist p.rxSeq f.seq ≤ 2047 then s.bridgeAck link port
      else s.bridgeNak link port

/-- A TASK frame of a die task arrives (R312, R324, R810): the row names the opcode. -/
def State.taskFrame (s : State) (link : Nat) (port : Side) (f : LFrame) (op : TaskOp) : State :=
  if f.type = 1 && f.op == op.num then s.bridgeFrame link port f fun t => t.dieTask link port (f.task op) else s

end Sys2Proof.Machine
end

