-- ==== Sys2Proof/Machine/Bridge.lean ====
section
/-! DEFINITION. The Bridge family: the tasks a comb's bridge accepts, how they end, and its registers (08). -/

namespace Sys2Proof.Machine

/-- TASK_READ (R324, R810). A TASK frame with an opcode that R324 does not give comes by this command too, and is refused with BAD_OP. -/
def execTaskRead (link : Nat) (port : Side) (f : LFrame) (s : State) : Host.Outcome State Fault Refusal :=
  ok (if f.type = 1 && (taskOpOf f.op).isNone then s.bridgeFrame link port f fun t => t.badTask link port f
    else s.taskFrame link port f .read)

/-- TASK_SEQ_READ (R324, R326, R810). -/
def execTaskSeqRead (link : Nat) (port : Side) (f : LFrame) (s : State) : Host.Outcome State Fault Refusal :=
  ok (s.taskFrame link port f .seqRead)

/-- TASK_PROGRAM_SLC: the die is taken; it programs once all data has arrived (R325, R810). -/
def execTaskProgramSlc (link : Nat) (port : Side) (f : LFrame) (s : State) : Host.Outcome State Fault Refusal :=
  ok (s.taskFrame link port f .programSlc)

/-- TASK_PROGRAM_QLC (R325, R326, R810). -/
def execTaskProgramQlc (link : Nat) (port : Side) (f : LFrame) (s : State) : Host.Outcome State Fault Refusal :=
  ok (s.taskFrame link port f .programQlc)

/-- TASK_ERASE (R324, R326, R810). -/
def execTaskErase (link : Nat) (port : Side) (f : LFrame) (s : State) : Host.Outcome State Fault Refusal :=
  ok (s.taskFrame link port f .erase)

/-- ERASE_SUSPEND: the erase stops and the die is idle (R335, R337). -/
def execEraseSuspend (link : Nat) (port : Side) (f : LFrame) (s : State) : Host.Outcome State Fault Refusal :=
  ok (s.taskFrame link port f .eraseSuspend)

/-- ERASE_RESUME: the erase runs again (R337). -/
def execEraseResume (link : Nat) (port : Side) (f : LFrame) (s : State) : Host.Outcome State Fault Refusal :=
  ok (s.taskFrame link port f .eraseResume)

/-- A die that has stayed idle for 10 ms after a suspension resumes its erase by itself (R337). -/
def execEraseAutoResume (link die : Nat) (s : State) : Host.Outcome State Fault Refusal :=
  ok (match (s.bridge? link).bind fun b => if b.powered then b.die? die else none with
    | some d =>
      match d.susp with
      | some r =>
        if d.exec.isNone && d.idleSince + 10 * milli ≤ s.ck.now then (s.eraseGoesOn link r).die' link die (·.resume s.ck.now) else s
      | none => s
    | none => s)

/-- FENCE_RAISE: compare-and-raise from e to e + 1 with the raiser recorded (R70, R341, R343). -/
def execFenceRaise (link : Nat) (port : Side) (f : LFrame) (s : State) : Host.Outcome State Fault Refusal :=
  ok (if f.type = 1 && f.op == TaskOp.fenceRaise.num then s.bridgeFrame link port f fun t =>
      t.fenceTask link port (f.task .fenceRaise) (fun b => b.epoch == f.arg.toNat && decide (b.epoch < 0xFFFFFFFF)) (f.arg.toNat + 1)
    else s)

/-- FENCE_ADOPT: sets the epoch of a comb that has never been fenced (R342, R343). -/
def execFenceAdopt (link : Nat) (port : Side) (f : LFrame) (s : State) : Host.Outcome State Fault Refusal :=
  ok (if f.type = 1 && f.op == TaskOp.fenceAdopt.num then s.bridgeFrame link port f fun t =>
      t.fenceTask link port (f.task .fenceAdopt) (fun b => b.epoch == 0 && b.owner == 0xFFFF) f.arg.toNat
    else s)

/-- A die ends the read, program or erase it executes; `good` tells how the NAND did. A program whose data has not all
arrived is not programming yet (R325). -/
def execDieTaskDone (link die : Nat) (good : Bool) (s : State) : Host.Outcome State Fault Refusal :=
  ok (match s.bridge? link with
    | none => s
    | some b => match (if b.powered then b.die? die else none) with
      | none => s
      | some d => match d.exec with
        | none => s
        | some e => match e.hdr.op with
          | .read | .seqRead => s.endRead link b d e good
          | .programSlc | .programQlc =>
            if e.malformed || e.hdr.pages.length ≤ e.data.length then s.endProgram link d e good else s
          | .erase => s.endErase link d e good
          | _ => s)

/-- The 20 µs of the favoured port pass without a task from it (R329). -/
def execFavouredPortExpiry (link die : Nat) (s : State) : Host.Outcome State Fault Refusal :=
  ok (s.die' link die fun d => { d with favoured := none })

/-- The REG_DATA frame that answers a REG_READ (R309, R321). -/
def Bridge.regFrame (b : Bridge) (port : Side) (first count : Nat) : LFrame :=
  { bareFrame 6 with off := first, body := (List.range count).flatMap fun i => le 4 (b.reg port (first + 4 * i)).toNat }

/-- REG_READ: the registers asked for, 1 to 1,024, in one REG_DATA frame (R309, R321); `count` is the Argument of the frame. -/
def execRegRead (link : Nat) (port : Side) (f : LFrame) (count : Nat) (s : State) : Host.Outcome State Fault Refusal :=
  let f := { f with arg := BitVec.ofNat 32 count }
  ok (if f.type != 5 then s
    else s.bridgeFrame link port f fun t => match t.bridge? link with
      | none => t
      | some b => if count = 0 || count > 1024 then t else t.toHead link port (b.regFrame port f.off count))

end Sys2Proof.Machine
end

