-- ==== Sys2Proof/Machine/StripeOps.lean ====
section
/-! DEFINITION. Stripes: ordinals and claims (R207 to R209), width and members (R203 to R205, R254, R283), opening,
closing, programming and abandoning (R218 to R221, R228), and the marking of failed combs with the rebuild it starts
(R204, R232, R233, R238). -/

namespace Sys2Proof.Machine

/-! ## Identifiers -/

/-- The lowest identifier at or above `o` whose bit 24 is the side's (R132, R207). -/
def alignId (sd : Side) (o : Nat) : Nat :=
  if o / 2 ^ 24 % 2 = sideN sd then o
  else match sd with
    | .a => (o / 2 ^ 25 + 1) * 2 ^ 25
    | .b => o / 2 ^ 25 * 2 ^ 25 + 2 ^ 24

/-- How many identifiers of its side's half remain from `o` on, of 48 bits. -/
def idsLeft (o : Nat) : Nat := if o ≥ 2 ^ 48 then 0 else (2 ^ 23 - 1 - o / 2 ^ 25) * 2 ^ 24 + (2 ^ 24 - o % 2 ^ 24)

/-- The block of 1,048,576 identifiers that holds one, by its first (R133, R208). -/
def idBlock (o : Nat) : Nat := o / 1048576 * 1048576

/-- The next stripe ordinal of this head. -/
def State.stripeOrd (s : State) : Nat := alignId s.pr.side s.sp.nextOrd

/-- Allocate the next stripe ordinal: CLAIM for a new block first, E430 once, E431 when none remains (R208, R209). -/
def State.allocStripe (s : State) : State × Option Nat :=
  let o := s.stripeOrd
  if o ≥ 2 ^ 48 then (s.ev0 0x431 .critical [], none)
  else
    let s := if o ≥ s.sp.claim then
        (s.commit 0xFFFF (.stripeCommit (idBlock o) 0 .brood .claim [] 0 0 [] 0) []).sp' fun p => { p with
          claim := idBlock o + 1048576 }
      else s
    let s := s.sp' fun p => { p with nextOrd := o + 1 }
    let s := if s.stripeOrd ≥ 0xFFFF00000000 && !s.sp.e430Said then
        (s.sp' fun p => { p with e430Said := true }).ev0 0x430 .critical []
      else s
    (s, some o)

/-- Fewer than 16,777,216 stripe ordinals of this head's half remain (R209). -/
def State.stripesSpent (s : State) : Bool := idsLeft s.stripeOrd < 16777216

/-! ## Geometry -/

/-- The width of R203 with a number of working combs. -/
def State.widthOf (s : State) (h c : Nat) : Nat :=
  let w := s.setting (0x04010000 + h)
  if w != 0 && w ≤ c then w else min 16 c

/-- A hive holds no stripe yet: its combs are those of its first population. -/
def State.hiveEmpty (s : State) (h : Nat) : Bool :=
  !(s.sp.table.any fun t => t.hive == h && !t.released) && !s.sp.opens.any (·.hive == h)

/-- The width of a new stripe of a hive (R203). -/
def State.width (s : State) (h : Nat) : Nat := s.widthOf h (s.workingLinks h).length

/-- A hive is powered for landing: READY, and not one this head has been fenced out of (R217, R220). -/
def State.hivePowered (s : State) (h : Nat) : Bool :=
  (s.hive? h).any fun x => x.inService && x.state == .ready && !s.sp.fencedOut.contains h

/-- The brood hives that landing uses: powered, and in Tide the kept one only (R217, R380, R383). -/
def State.landingHives (s : State) : List Nat :=
  ((s.hv.hives.filter fun h => h.brood && s.hivePowered h.id && !(s.inMode .tide && h.id != s.md.tideKept)).map
    (·.id)).sortBy (· ≤ ·)

/-- A die is declared failed: so noted since the start, or by its block sets in the media table (R306). -/
def State.dieDead (s : State) (l : Link) (die : Nat) : Bool :=
  l.deadDies.contains die || ((l.descs[die]?).map (·.failed)).getD false ||
    s.me.sets.any fun b => b.link == l.link && b.die == die && b.state == .failed

/-- The dies of a comb that this head may program: its own in a brood hive, every one in a honey hive, and none that is
declared failed (R18, R205, R306). -/
def State.diesFor (s : State) (l : Link) : List Nat :=
  (List.range l.dieCount).filter fun d =>
    !s.dieDead l d && (!s.isBrood l.hive || s.ownDie l d)

/-- When a die was last programmed. -/
def State.lastProg (s : State) (link die : Nat) : Nat :=
  ((s.me.lastProg.find? fun e => e.1 == link && e.2.1 == die).map (·.2.2)).getD 0

/-- Note the programming of a die. -/
def State.noteProg (s : State) (link die : Nat) : State :=
  s.me' fun m => { m with
    lastProg := m.lastProg.filter (fun e => !(e.1 == link && e.2.1 == die)) ++ [(link, die, s.ck.now)] }

/-- The P/E count of a block set; one that is not listed has never been erased here. -/
def State.peOf (s : State) (link die block : Nat) : Nat := ((s.set? link die block).map (·.pe)).getD 0

/-- The grown faults of a block set. -/
def State.grownOf (s : State) (link die block : Nat) : Nat := ((s.set? link die block).map (·.grown)).getD 0

/-- A block set is FREE: listed so, or not listed and not bad from manufacture (R255, R304). -/
def State.isFree (s : State) (l : Link) (die block : Nat) : Bool :=
  match s.set? l.link die block with
  | some b => b.state == .free
  | none => !(((l.descs[die]?).map (·.factoryBad)).getD []).contains block

/-- The lowest block index of a die that is not listed and not bad from manufacture: FREE, with P/E count 0. -/
def State.freshBlock (s : State) (l : Link) (die : Nat) : Option Nat :=
  let n := ((l.descs[die]?).map (·.blocks)).getD 0
  let listed := (s.me.sets.filter fun b => b.link == l.link && b.die == die).map (·.block)
  let bad := ((l.descs[die]?).map (·.factoryBad)).getD []
  findFrom (fun i => decide (i < n) && !listed.contains i && !bad.contains i) (List.range (listed.length + bad.length + 1)) 0

/-- One block set goes before another by a P/E count, lower ones first, and among equals by die and block index (R302, R818). -/
def BlockSet.before (a b : BlockSet) : Bool :=
  a.pe < b.pe || (a.pe == b.pe && (a.die < b.die || (a.die == b.die && a.block < b.block)))

/-- The first of some block sets in an order. -/
def firstSet (before : BlockSet → BlockSet → Bool) (l : List BlockSet) : Option BlockSet :=
  l.foldl (fun best b => match best with
    | some x => if before b x then some b else some x
    | none => some b) none

/-- The mode into which a block set is erased: QLC in a honey hive, and in a brood hive for a row of R15 (R253). -/
def State.eraseMode (s : State) (b : BlockSet) : Bool := b.toQlc || !s.isBrood (b.link / 16)

/-- The FREE block set of lowest P/E count of a die in a mode, the lowest index among equals (R302, R818). One that was never erased here
has the mode of its hive (R253). -/
def State.freeSet (s : State) (l : Link) (die : Nat) (qlc : Bool) : Option Nat :=
  let fresh := if qlc == !s.isBrood l.hive then s.freshBlock l die else none
  let best := firstSet BlockSet.before (s.me.sets.filter fun b => b.link == l.link && b.die == die && b.state == .free && b.qlc == qlc)
  match fresh, best with
  | some i, some b => some (if b.pe = 0 && b.block < i then b.block else i)
  | some i, none => some i
  | none, b => b.map (·.block)

/-- Own SLC block sets of a comb: all, and those FREE; what was erased into QLC mode is none of them (R253, R285). -/
def State.slcSets (s : State) (l : Link) : Nat × Nat :=
  (s.diesFor l).foldl (fun acc d =>
    let n := ((l.descs[d]?).map (·.blocks)).getD 0
    let bad := (((l.descs[d]?).map (·.factoryBad)).getD []).length
    let mine := s.me.sets.filter fun b => b.link == l.link && b.die == d && b.state != .factoryBad
    (acc.1 + (n - bad - (mine.filter (·.qlc)).length), acc.2 + (n - bad - (mine.filter fun b => b.qlc || b.state != .free).length))) (0, 0)

/-- Own SLC block sets of powered brood hives: all, and those FREE (R285). -/
def State.broodSets (s : State) : Nat × Nat :=
  (s.cl.links.filter fun l => s.isBrood l.hive && s.hivePowered l.hive && (l.comb == .working || l.comb == .replacement)).foldl
    (fun acc l => (acc.1 + (s.slcSets l).1, acc.2 + (s.slcSets l).2)) (0, 0)

/-- Brood free space is below a percentage (R285). -/
def State.broodBelow (s : State) (pct : Nat) : Bool := s.broodSets.2 * 100 < pct * s.broodSets.1

/-- The open block set of a use and mode on a die (R254, R283). -/
def State.openSet (s : State) (link die : Nat) (use : BlockUse) (qlc : Bool) : Option BlockSet :=
  s.me.sets.find? fun b => b.link == link && b.die == die && b.state == .opened && b.use == use && b.qlc == qlc

/-- Set a block set's state at once and commit it (R255, R256). -/
def State.setBlock (s : State) (link die block : Nat) (st : BlockState) (qlc : Bool) (use : BlockUse) : State :=
  let pe := s.peOf link die block
  let grown := ((s.set? link die block).map (·.grown)).getD 0
  (s.blockState link die block st qlc use pe grown).mapChange 0xFFFF [.blockState link die block st qlc use pe grown] []

/-- Take `need` units of a die's open block set, opening a FREE one when there is none, or when too few units are left in it, which seals it
short: the member's place. A block set whose units are used up is SEALED (R283). Landing takes none of the last 2 % of the block sets
(R285). -/
def State.takeOn (s : State) (l : Link) (die : Nat) (use : BlockUse) (qlc : Bool) (need : Nat) : State × Option Member :=
  let old := s.openSet l.link die use qlc
  let pick : State × Option Nat := match old.filter fun b => b.nextUnit + need ≤ 384 with
    | some b => (s, some b.block)
    | none => match if use == .landing && s.isBrood l.hive && s.broodBelow 2 then none else s.freeSet l die qlc with
      | some b =>
        let s := match old with
          | some x => s.setBlock l.link die x.block .sealed qlc use
          | none => s
        ((s.setBlock l.link die b .opened qlc use).set' l.link die b fun x => { x with
          nextUnit := 0, progUnit := 0, openTick := s.ck.tick, passed := false }, some b)
      | none => (s, none)
  match pick with
  | (s, none) => (s, none)
  | (s, some blk) =>
    let u := ((s.set? l.link die blk).map (·.nextUnit)).getD 0
    let s := (s.set' l.link die blk fun x => { x with nextUnit := u + need }).noteProg l.link die
    let s := if u + need ≥ 384 then s.setBlock l.link die blk .sealed qlc use else s
    (s, some ⟨l.link, die, blk, if qlc then 4 * u else u, 0, 0⟩)

/-- The dies of a comb in the order in which units take them: idle ones first, each group least recently programmed
first (R283). -/
def State.dieOrder (s : State) (l : Link) : List Nat :=
  let ds := (s.diesFor l).sortBy fun a b => s.lastProg l.link a ≤ s.lastProg l.link b
  ds.filter (fun d => !l.tasks.any (·.hdr.die == d)) ++ ds.filter fun d => l.tasks.any (·.hdr.die == d)

/-- Take units on the first die of a list that has room. -/
def State.takeFirst (s : State) (l : Link) (use : BlockUse) (qlc : Bool) (need : Nat) : List Nat → State × Option Member
  | [] => (s, none)
  | d :: ds => match s.takeOn l d use qlc need with
    | (t, some m) => (t, some m)
    | (_, none) => s.takeFirst l use qlc need ds

/-- A place for a unit on a comb. -/
def State.takeUnit (s : State) (link : Nat) (use : BlockUse) (qlc : Bool) (need : Nat) : State × Option Member :=
  match s.link? link with
  | none => (s, none)
  | some l => s.takeFirst l use qlc need (s.dieOrder l)

/-- Places for the members on a list of links; none when one has no room. -/
def State.takeAll (s : State) (use : BlockUse) (qlc : Bool) (need : Nat) : List Nat → List Member → State × Option (List Member)
  | [], acc => (s, some acc)
  | l :: ls, acc => match s.takeUnit l use qlc need with
    | (t, some m) => t.takeAll use qlc need ls (acc ++ [m])
    | (t, none) => (t, none)

/-- The links of a stripe's members (R205). -/
def memberLinks (combs : List Nat) (ord n : Nat) : List Nat :=
  (List.range n).map fun m => combs.getD ((ord + m) % combs.length) 0

/-- Advance the next ordinal until the members of width `n` leave a link out (R221); the fuel is the number of combs. -/
def skipTo (combs : List Nat) (sd : Side) (n link : Nat) : Nat → Nat → Nat
  | 0, o => o
  | f + 1, o => if (memberLinks combs o n).contains link then skipTo combs sd n link f (alignId sd (o + 1)) else o

/-! ## Opening and closing (R218, R219) -/

/-- The lease, the fence and the sleep allow new stripes. -/
def State.hiveEpoch (s : State) (h : Nat) : Nat :=
  ((s.cl.links.filter (·.hive == h)).map (·.epoch)).foldl max 0

/-- The purposes to which the last 16,777,216 stripe ordinals go: landing, rebuild, garbage collection and reshape (R209). -/
def Purpose.toTheLast (p : Purpose) : Bool := p == .landing || p == .rebuild || p == .gc || p == .reshape

/-- Open a stripe that leaves one link out where that is asked: ordinal, members, STRIPE_OPEN (R219 step 1, R221). Fewer than 6 working
combs: none, with E416 (R204); nor for fold or metadata once the ordinals run out (R209). -/
def State.openStripeBut (s : State) (hive lane : Nat) (region : Region) (purpose : Purpose) (avoid : Option Nat) : State × Option Nat :=
  let combs := s.workingLinks hive
  if combs.length < 6 then (s.ev0 0x416 .error (le 1 hive), none)
  else if s.stripesSpent && !purpose.toTheLast then (s, none)
  else
    let avoid := avoid.filter combs.contains
    let n := match avoid with
      | some _ => if combs.length > 6 then min (s.width hive) (combs.length - 1) else s.width hive
      | none => s.width hive
    let s := match avoid with
      | some l => s.sp' fun p => { p with nextOrd := skipTo combs s.pr.side n l combs.length s.stripeOrd }
      | none => s
    match s.allocStripe with
    | (s, none) => (s, none)
    | (s, some ord) =>
      match s.takeAll (useOfPurpose purpose) (region == .honey) (regionUnits region) (memberLinks combs ord n) [] with
      | (s, none) => (s, none)
      | (s, some ms) =>
        let jseq := s.wx.jSeq
        let epoch := s.hiveEpoch hive
        let s := s.journal 0x01 ord [hive, regionN region, purposeN purpose, n, epoch] ms
        let t : OpenStripe :=
          { ord := ord, hive := hive, region := region, purpose := purpose, lane := lane, members := ms
            prog := List.replicate n .idle, failed := [], epoch := epoch, openTick := s.ck.tick, firstAt := none, used := 0, envs := []
            data := [], closed := false, units := [], jseq := jseq, commitOrd := none }
        (s.sp' fun p => { p with opens := p.opens ++ [t] }, some ord)

/-- Open a stripe over every working comb. -/
def State.openStripe (s : State) (hive lane : Nat) (region : Region) (purpose : Purpose) : State × Option Nat :=
  s.openStripeBut hive lane region purpose none

/-- An open stripe. -/
def State.open? (s : State) (ord : Nat) : Option OpenStripe := s.sp.opens.find? (·.ord == ord)

/-- Change an open stripe. -/
def State.open' (s : State) (ord : Nat) (f : OpenStripe → OpenStripe) : State :=
  s.sp' fun p => { p with opens := updFirst (·.ord == ord) f p.opens }

/-- 64-byte units still free in an open stripe's data space. -/
def OpenStripe.room (t : OpenStripe) : Nat := dataSpace t.region t.members.length - t.used

/-- Place an envelope at the end of an open stripe; the landing bucket is charged with it (R206, R218, R817). -/
def State.placeEnv (s : State) (ord : Nat) (e : EnvEntry) (recs : List Nat) (old : Option Place) (bytes : Bytes) : State :=
  let land := (s.open? ord).any (·.purpose == .landing)
  (if land then s.md' fun m => { m with landBucket := m.landBucket - 64 * e.len } else s).open' ord fun t => { t with
    envs := t.envs ++ [⟨{ e with off := t.used }, recs, old⟩]
    data := t.data ++ fit (64 * e.len) bytes
    used := t.used + e.len
    firstAt := some (t.firstAt.getD s.ck.now) }

/-- The units of a closed stripe: data with filler, then P and Q (R206, R213). -/
def stripeUnits (r : Region) (n : Nat) (data : Bytes) : List Bytes :=
  let u := unitBytes r
  let ds := pieces u (fit ((n - 2) * u) data)
  let ds := ds.take (n - 2)
  ds ++ [parityP u ds, parityQ u ds]

/-- The STRIPE_OPEN entry of a stripe is confirmed, locally and in the peer's shadow where that is asked (R219 step 3,
R226). -/
def State.openConfirmed (s : State) (t : OpenStripe) : Bool :=
  (s.wx.journal.find? (·.seq == t.jseq)).all s.entryConfirmed

/-- The unit of a block set at a page (R252). -/
def unitAt (r : Region) (page : Nat) : Nat := if r == .honey then page / 4 else page

/-- A unit's program has been sent: the units below it may no longer be programmed (R254). -/
def State.unitSent (s : State) (r : Region) (m : Member) (n : Nat) : State :=
  s.set' m.link m.die m.block fun b => { b with progUnit := max b.progUnit (unitAt r m.page + n) }

/-- A unit is held back while a lower unit of its block set waits to be programmed (R254): that of a stripe which is closed or holds
an envelope, and so is to close. -/
def State.lowerWaits (s : State) (ord : Nat) (e : Member) : Bool :=
  s.sp.opens.any fun t => t.ord != ord && (t.closed || t.firstAt.isSome) &&
    (t.members.zip t.prog).any fun x => x.1.link == e.link && x.1.die == e.die && x.1.block == e.block && x.1.page < e.page &&
      (x.2 == .idle || x.2 == .fenced || x.2 == .half || (t.region == .tall && x.2 == .issued))

/-- A higher unit of its block set has been programmed before a unit of a stripe that stood empty (R254). -/
def State.overtaken (s : State) (r : Region) (e : Member) : Bool :=
  (s.set? e.link e.die e.block).any fun b => unitAt r e.page + regionUnits r < b.progUnit

/-- A unit that was overtaken takes the next unit of the comb, recorded as a UNIT_MOVE (R224, R254; DESIGN CHOICE, log 17). -/
def State.replaceUnit (s : State) (t : OpenStripe) (m : Nat) : State × Option OpenStripe :=
  match t.members[m]? with
  | none => (s, none)
  | some e =>
    if !s.overtaken t.region e then (s, some t)
    else match s.takeUnit e.link (useOfPurpose t.purpose) (t.region == .honey) (regionUnits t.region) with
      | (_, none) => (s, none)
      | (s, some x) =>
        let x := { x with crc := e.crc }
        let s := (s.journal 0x03 t.ord [m] [x]).open' t.ord fun t => { t with members := t.members.set m x }
        (s, s.open? t.ord)

/-- Frames of the program of one task's pages. -/
def progFrames (pages : Nat) : Nat := 1 + 5 * pages

/-- This head has given a honey hive by its GIVE record: it issues no task there (R544). -/
def State.gave (s : State) (h : Nat) : Bool :=
  s.pr.rebalance.any fun r => r.giver && 3 ≤ r.phase && r.units.contains (.honey h)

/-- Programs go to a hive: its shelf reports POWERED, and this head has neither been fenced out of it nor given it away (R220, R385, R544). -/
def State.mayProgram (s : State) (h : Nat) : Bool :=
  s.tasksAllowed && !s.sp.fencedOut.contains h && !s.gave h &&
    ((s.hive? h).bind (·.block)).any fun b => b.power == 2

/-- Send the program of one part of a member's unit: a tall unit has two parts, one for each of its SLC units. -/
def State.sendProgram (s : State) (t : OpenStripe) (m part : Nat) : State :=
  match t.members[m]?, t.units[m]? with
  | some e, some u =>
    match s.link? e.link with
    | none => s
    | some l =>
      let pages := (pieces 16384 u).filter (!·.isEmpty)
      let mine := if t.region == .tall then (pages.drop (4 * part)).take 4 else pages
      if !s.mayProgram t.hive || l.epoch != s.hiveEpoch t.hive || !l.canProgram e.die (progFrames mine.length) ||
          (part = 0 && s.lowerWaits t.ord e) then s
      else
        let foot := footer (s.fmt .footer) t.region s.headId t.ord m t.members.length t.hive (e.link % 16) (purposeN t.purpose) l.epoch
          s.wx.epoch (crc32c u).toNat t.openTick t.used
        let spares := (List.range mine.length).map fun i => if i = 0 && part = 0 then foot else zeros 128
        let op := if t.region == .honey then TaskOp.programQlc else .programSlc
        let s := (s.sendTask e.link op e.die e.block (e.page + part) 0xF (.unitProgram t.ord m) mine spares).unitSent t.region e (part + 1)
        (s.open' t.ord fun x => { x with prog := x.prog.set m .issued, epoch := max x.epoch l.epoch }).noteProg e.link e.die
  | _, _ => s

/-- The progress of a member whose program of one page is to be sent again: to the same page (R220). -/
def OpenStripe.again (t : OpenStripe) (m page : Nat) (first : MemberProg) : MemberProg :=
  if t.region == .tall && (t.members[m]?).any (·.page != page) then .half else first

/-- Send every program of a closed stripe that has not been sent and can be (R219 step 3). -/
def State.issuePrograms (s : State) (ord : Nat) : State :=
  match s.open? ord with
  | none => s
  | some t =>
    if t.closed && s.openConfirmed t then
      (List.range t.members.length).foldl (fun u m =>
        if t.prog.getD m .idle == .idle || t.prog.getD m .idle == .fenced then
          match u.open? ord with
          | some x => match u.replaceUnit x m with
            | (u, some x) => u.sendProgram x m 0
            | (u, none) => u
          | none => u
        else if t.prog.getD m .idle == .half then
          match u.open? ord with
          | some x => u.sendProgram x m 1
          | none => u
        else u) s
    else s

/-- Send what can be sent of every closed stripe. -/
def State.issueAll (s : State) : State := s.sp.opens.foldl (fun t o => t.issuePrograms o.ord) s

/-- Close a stripe: filler, P and Q, unit CRCs, then its programs (R219 steps 2 and 3). -/
def State.closeStripe (s : State) (ord : Nat) : State :=
  match s.open? ord with
  | none => s
  | some t =>
    if t.closed then s
    else
      let units := stripeUnits t.region t.members.length t.data
      let ms := (t.members.zip units).map fun p => { p.1 with crc := crc32c p.2 }
      let s := s.stat 0x0403 0 0 (64 * t.room)
      (s.open' ord fun t => { t with closed := true, units := units, members := ms }).issuePrograms ord

/-- Abandon a stripe: STRIPE_DONE with outcome abandoned, E405; its pages are orphaned space, and the envelopes of a
landing stripe land again from their ring records under their chunk IDs, before what waits behind them; after a second program failure
the hive and the link of it are noted with them (R221, R228). -/
def State.abandonStripe (s : State) (ord : Nat) (link : Option Nat) : State :=
  match s.open? ord with
  | none => s
  | some t =>
    let s := ((s.journal 0x02 ord [1, 0] []).stat 0x0402 0 0 1).ev0 0x405 .warn (le 6 ord)
    let again := if t.purpose == .landing then t.envs.map fun e => (e.recs.headD 0, { e.entry with off := 0 }, t.lane) else []
    let s := s.rd' fun r => { r with landing := again ++ r.landing }
    let noted := (link.toList.flatMap fun l => again.map fun e => (e.2.1.chunk, t.hive, l))
    (s.sp' fun p => { p with
      opens := p.opens.filter (·.ord != ord), orphans := p.orphans ++ [ord], avoid := p.avoid ++ noted }).judgeJournal

/-- The link that a lane's next stripe in a hive leaves out, and whether it may lie in that hive at all, for a chunk that lands again: the
other brood hive where one takes landing, else a stripe without the failing comb (R221). -/
def State.landsBut (s : State) (chunk hive : Nat) : Bool × Option Nat :=
  match s.sp.avoid.find? fun e => e.1 == chunk && e.2.1 == hive with
  | none => (true, none)
  | some e => if (s.landingHives.filter (· != hive)).isEmpty then (true, some e.2.2) else (false, none)

/-- A hive loses power: every stripe of it without a STRIPE_COMMIT is abandoned, its tasks fail (R228, R346). -/
def State.hiveLost (s : State) (h : Nat) : State :=
  let lost := (s.sp.opens.filter fun t => t.hive == h && t.commitOrd.isNone).map (·.ord)
  let asked := (s.cl.links.filter (·.hive == h)).flatMap fun l => l.tasks.filterMap fun k => match k.use with
    | .diag w => some w
    | _ => none
  let s := s.cl' fun c => { c with links := c.links.map fun l => if l.hive == h then { l with tasks := [] } else l }
  let s := asked.foldl (fun t w => t.replyTo w .mediaError []) s
  lost.foldl (fun t o => t.abandonStripe o none) s

/-! ## Failed combs (R232, R233, R238) -/

/-- A stripe has a member on a link that still needs rebuild: its members were written before the comb was marked failed (R820). A stripe
first committed after that record lies on a working comb of the slot and needs none (DEDUCED, log 28). -/
def State.needsRebuild (s : State) (t : Stripe) (link : Nat) : Bool :=
  t.members.any (fun m => m.link == link) && !t.released && (s.sp.marked.find? (·.1 == link)).any fun m => t.precedes m.2

/-- Begin or widen the rebuild of a hive after a comb has been marked failed: E411, or E413 for a second one; a honey
hive gets its REBUILD need (R233, R238, R241). -/
def State.startRebuild (s : State) (h link : Nat) : State :=
  if !s.isBrood h && !s.owns (.honey h) then s
  else
    let s := s.hive' h fun x => { x with rebuildNeed := true }
    match s.sp.rebuilds.find? (·.hive == h) with
    | some r =>
      if r.second.isSome || r.first == link then s
      else (s.sp' fun p => { p with
        rebuilds := updFirst (·.hive == h) (fun r => { r with second := some link }) p.rebuilds }).ev0 0x413 .severe (le 1 h ++ le 1 link)
    | none =>
      (s.sp' fun p => { p with
        rebuilds := p.rebuilds ++ [⟨h, 1, link, none, 0, 0, 0, 0, 0, [], s.ck.now⟩] }).ev0 0x411 .notice (le 1 h ++ le 1 link)

/-- Mark a comb failed: MEMBER_STATE, E410, E416 below six working combs, and the rebuild (R204, R232, R233). -/
def State.markFailed (s : State) (link : Nat) : State :=
  match s.link? link with
  | none => s
  | some l =>
    if l.comb == .failed || l.comb == .retired || l.comb == .absent then s
    else
      let s := (s.commit 0xFFFF (.combState link .failed l.serial) []).ev0 0x410 .error (le 1 link)
      let s := s.link' link fun l => { l with comb := .failed }
      let s := if (s.workingLinks l.hive).length < 6 then s.ev0 0x416 .error (le 1 l.hive) else s
      s.startRebuild l.hive link

/-- Combs in service in the apiary (R231). -/
def State.combsInService (s : State) : Nat :=
  (s.cl.links.filter fun l => l.comb == .working || l.comb == .replacement).length

/-- A large configuration (R231). -/
def State.large (s : State) : Bool := s.combsInService ≥ 48

/-- A grown fault of a block set: SUSPECT, SEALED short when it was open; its entry is committed (R255, R271, R305). -/
def State.grownFault (s : State) (link die block : Nat) : State :=
  match s.set? link die block with
  | none => s
  | some b =>
    let s := s.set' link die block fun x => { x with grown := min 15 (x.grown + 1), suspect := true }
    s.setBlock link die block (if b.state == .opened then .sealed else b.state) b.qlc b.use

/-- Declare a die failed: E502, its block sets FAILED, and the rebuild of its stripes on the same comb (R306). -/
def State.failDie (s : State) (link die : Nat) : State :=
  match s.link? link with
  | none => s
  | some l =>
    if l.deadDies.contains die then s
    else
      let s := (s.link' link fun l => { l with deadDies := l.deadDies ++ [die] }).ev0 0x502 .error (le 1 link ++ le 1 die)
      -- every block set of the die, those that have no entry yet among them; the ones bad from manufacture stay so
      let bad := ((l.descs[die]?).map (·.factoryBad)).getD []
      let items := (List.range (((l.descs[die]?).map (·.blocks)).getD 0)).filterMap fun b => match s.set? link die b with
        | some x => if x.state == .failed || x.state == .factoryBad then none
          else some (MapItem.blockState link die b .failed x.qlc x.use x.pe x.grown)
        | none => if bad.contains b then none else some (.blockState link die b .failed (!s.isBrood l.hive) .none 0 0)
      let s := items.foldl (fun t i => match i with
        | .blockState k d b st q u pe g => t.blockState k d b st q u pe g
        | _ => t) s
      let s := s.mapChange 0xFFFF items []
      if s.sp.rebuilds.any (·.hive == l.hive) || (!s.isBrood l.hive && !s.owns (.honey l.hive)) then s
      else ((s.sp' fun p => { p with
        rebuilds := p.rebuilds ++ [⟨l.hive, 1, link, none, 0, 0, 0, 0, 0, [], s.ck.now⟩] }).hive' l.hive fun x => { x with
          rebuildNeed := true }).ev0 0x411 .notice (le 1 l.hive ++ le 1 link)

/-- Retire a block set: E501 (R305); a die with more than 4 % of its block sets retired is declared failed (R306). -/
def State.retireSet (s : State) (link die block : Nat) : State :=
  match s.set? link die block with
  | none => s
  | some b =>
    let s := ((s.setBlock link die block .retired b.qlc .none).ev0 0x501 .warn (le 1 link ++ le 1 die ++ le 2 block)).bump
      0x0509 link 0 1
    let gone := (s.me.sets.filter fun x => x.link == link && x.die == die && x.state == .retired).length
    let all := (((s.link? link).bind fun l => l.descs[die]?).map (·.blocks)).getD 0
    if 4 * all < 100 * gone then s.failDie link die else s

/-- Schedule a stripe for rewrite by garbage collection (R230, R334). -/
def State.scheduleRewrite (s : State) (ord : Nat) : State := s.stripe' ord fun t => { t with rewrite := true }

/-- A rebuild or a retirement leaves a stripe to a rewrite (R234, R239). -/
def State.leaveToRewrite (s : State) (ord : Nat) : State := s.stripe' ord fun t => { t with rewrite := true, left := true }

end Sys2Proof.Machine
end

