-- ==== Sys2Proof/Machine/HiveOps.lean ====
section
/-! DEFINITION. Hives as a head holds them (R349, R350): needs and wakes (R364, R369, R371, R374 to R379), darkening
(R365 to R368), votes (R16, R361, R380), and what a status block brings about (R357, R380 to R387). -/

namespace Sys2Proof.Machine

/-! ## What stands -/

/-- Dark for every rule that names a dark hive (R350). -/
def Hive.isDark (h : Hive) : Bool :=
  h.state == .dark || h.state == .darkening || (h.state == .fault && !h.voteUp)

/-- Unpowered against its schedule (R350). -/
def Hive.isUnpowered (h : Hive) : Bool := h.state == .unpowered || (h.state == .fault && h.voteUp)

/-- Combs of a hive answer reads: READY, or DARKENING before the dark point (R366, R369), or on hold-up (R385). -/
def Hive.serves (h : Hive) : Bool := h.state == .ready || (h.state == .darkening && !h.darkPoint)

/-- Priorities of the needs that stand (R364); a fold row is one until it is closed, read back and placed. -/
def State.needs (s : State) (h : Hive) : List Nat :=
  (if h.rebuildNeed then [0] else []) ++
    (if !h.gather.isEmpty || h.wakeNeedUntil.any (s.ck.now < ·) then [1] else []) ++
    (if h.foldNeed || s.me.rows.any (fun r => r.hive == h.id) then [2] else []) ++ (if h.reshapeNeed then [3] else []) ++ (if h.houseNeed then [4] else [])

/-- The most urgent need of a hive. -/
def State.topNeed (s : State) (h : Hive) : Option Nat := (s.needs h).head?

/-- A honey hive of this head that is awake or waking. -/
def State.awake (s : State) (h : Hive) : Bool :=
  !h.brood && s.owns (.honey h.id) && (h.state == .waking || h.state == .ready || h.wanted == some true)

/-- This head's honey hives that are awake or waking. -/
def State.awakeHives (s : State) : List Hive := s.hv.hives.filter s.awake

/-- HOLDUP_FAULT or over-temperature keeps a hive out of the wakes that are not for reads or a rebuild (R357). -/
def Hive.restricted (h : Hive) : Bool :=
  h.block.any fun b => b.holdupFlags.getLsbD 2 || b.alarms.getLsbD 0

/-- The token this apiary holds for a hive (R592). -/
def State.tokenFor (s : State) (h : Nat) : Option WakeToken :=
  s.co.tokens.find? fun t => t.hive == h && (t.state == 1 || t.state == 3)

/-! ## Wake time and wakes -/

/-- The wake time of a hive for a read that arrives now, in nanoseconds (R369). -/
def State.wakeTime (s : State) (h : Hive) : Nat :=
  match h.state with
  | .ready => 0
  | .darkening => if h.darkPoint then 17 * second else 0
  | .waking => 15 * second - (s.ck.now - h.voteAt)
  | .dark | .unpowered | .fault => 15 * second

/-- Ask the queen for a wake token of a priority for a hive (R376, R587); the queen head is addressed as 0xFFFF
(log 6). -/
def State.askToken (s : State) (h prio : Nat) : State :=
  let n := s.co.reqNum + 1
  let s := s.co' fun c => { c with reqNum := n, reqs := c.reqs ++ [(n, h, prio)] }
  ((s.hive' h fun x => { x with tokenAsked := some s.ck.now, tokenRefused := false }).stat 0x0705 0 0 1).send
    (.col 0xFFFF (.tokenRequest h prio n))

/-- Decide to darken a hive (R365): nothing but REBUILD and READ starts new work in it. -/
def State.decideDark (s : State) (h : Nat) : State :=
  s.hive' h fun x => { x with
    darkDecided := true
    darkPoint := false
    state := if x.state == .ready || x.state == .waking then .darkening else x.state }

/-- Vote a hive up in the next window, with no darkening in progress. -/
def State.wantUp (s : State) (h : Nat) : State :=
  s.hive' h fun x => { x with wanted := if x.voteUp then x.wanted else some true }

/-- The hive of some whose most urgent need has the lowest priority, one with no need counting lowest (R377). -/
def State.leastNeeded (s : State) (hs : List Hive) : Option Hive :=
  hs.foldl (fun best h => match best with
    | none => some h
    | some b => if (s.topNeed h).getD 5 > (s.topNeed b).getD 5 then some h else some b) none

/-- Needs that Tide lets wake a honey hive: REBUILD, READ, and FOLD under R285 (R381). -/
def State.tideLets (s : State) (prio : Nat) : Bool :=
  !s.inMode .tide || prio ≤ 1 || (prio == 2 && s.broodBelow 20)

/-- Wake a hive within a budget of awake hives, or, where the budget is full, darken the one of them that is needed least when this need is
more urgent (R374, R377); one with a READ need darkens once its list has been served (R366). -/
def State.wakeWithin (s : State) (h prio budget : Nat) (awake : List Hive) : State :=
  if awake.length < budget then s.wantUp h
  else match s.leastNeeded awake with
    | some v => if prio < (s.topNeed v).getD 5 then s.decideDark v.id else s
    | none => s

/-- Wake a honey hive of this head for a need of a priority, under the token or the local budget (R371, R374 to R377,
R379, R381). A brood hive needs neither. -/
def State.askWake (s : State) (h prio : Nat) : State :=
  match s.hive? h with
  | none => s
  | some x =>
    if x.brood then s.wantUp h
    else if !s.owns (.honey h) || x.voteUp || x.wanted == some true then s
    else if !s.tideLets prio || (x.restricted && prio > 1) then s
    else if x.state != .dark && x.state != .fault then s
    else if s.co.member then
      if !s.co.reachable && s.co.autonomyDone then s
      else if (s.tokenFor h).isSome then s.wantUp h
      else if s.co.reachable then
        if x.tokenAsked.isSome then s else s.askToken h prio
      else s.wakeWithin h prio s.co.autonomy (s.awakeHives.filter fun y => (s.tokenFor y.id).isNone)
    else s.wakeWithin h prio (s.setting 0x04000024) s.awakeHives

/-! ## Gather lists (R370 to R372) -/

/-- Whether a gather list calls for a wake (R371). -/
def State.gatherCalls (s : State) (h : Hive) : Bool :=
  (h.gather.any fun e => e.deadline.any fun d => d ≤ s.ck.now + s.setting 0x04000021 * second) ||
    h.gather.length ≥ s.setting 0x04000022 ||
    (h.gather.map (·.bytes)).sum ≥ s.setting 0x04000023 * 2 ^ 30 ||
    (s.md.pinHeld && h.gather.any (·.merge.isSome))

/-- The priority at which a hive's needs ask for a wake, by the last column of R364: a gather list asks only when R371 says so. -/
def State.wakeCall (s : State) (h : Hive) : Option Nat :=
  if h.rebuildNeed then some 0
  else if s.gatherCalls h || h.wakeNeedUntil.any (s.ck.now < ·) then some 1
  else if h.foldNeed then some 2 else if h.reshapeNeed then some 3 else if h.houseNeed then some 4 else none

/-- Ask again for every dark hive of this head that something calls for (R364, R373, R376, R377). -/
def State.askWaiting (s : State) : State :=
  s.hv.hives.foldl (fun t h => match t.wakeCall h with
    | some p => if !h.brood && h.state == .dark && h.wakeFailedAt.isNone then t.askWake h.id p else t
    | none => t) s

/-- Judge a hive's gather list and ask for its wake (R371). -/
def State.judgeGather (s : State) (h : Nat) : State :=
  match s.hive? h with
  | some x => if s.gatherCalls x then s.askWake h 1 else s
  | none => s

/-- Host reads of a gather list; merge reads do not count (R372). -/
def Hive.hostReads (h : Hive) : Nat := (h.gather.filter (·.merge.isNone)).length

/-- Put a read in a hive's gather list. -/
def State.joinGather (s : State) (h : Nat) (e : GatherEntry) : State :=
  ((s.hive' h fun x => { x with gather := x.gather ++ [e] }).stat 0x0704 h 0 1).judgeGather h

/-- Keep only the gather entries that pass. -/
def State.keepGather (s : State) (p : GatherEntry → Bool) : State :=
  s.hv' fun v => { v with hives := v.hives.map fun h => { h with gather := h.gather.filter p } }

/-- An entry is of a command. -/
def GatherEntry.isOf (g : GatherEntry) (ctrl qid cid : Nat) : Bool :=
  g.ctrl == ctrl && g.qid == qid && g.cid == cid && g.merge.isNone

/-- Take a command out of every gather list. -/
def State.leaveGather (s : State) (ctrl qid cid : Nat) : State := s.keepGather fun g => !g.isOf ctrl qid cid

/-- The order in which a list is served: by deadline, entries without one last (R371). -/
def gatherOrder (l : List GatherEntry) : List GatherEntry :=
  l.sortBy fun a b => match a.deadline, b.deadline with
    | some x, some y => x ≤ y
    | some _, none => true
    | none, some _ => false
    | none, none => true

/-! ## The state of a hive (R349) -/

/-- Every working comb of the powered slots is up, or has passed the 5 s of R232 since POWERED (R349, R360). -/
def State.linksReady (s : State) (h : Hive) (b : ShelfBlock) : Bool :=
  (List.range 16).all fun slot =>
    !(b.populated.getLsbD slot) ||
      (match s.link? (16 * h.id + slot) with
        | some l => l.state == .up || l.comb == .failed || l.comb == .retired
        | none => false) ||
      h.poweredAt.any fun t => t + 5 * second ≤ s.ck.now

/-- The state that a status block and this head's vote give (R349, R386). -/
def State.hiveStateOf (s : State) (h : Hive) (b : ShelfBlock) : HiveState :=
  let voted := b.voteA || b.voteB
  if (b.power == 0 || b.power == 5) && voted then .unpowered
  else if b.power == 0 && h.voteUp then h.state
  else if b.power == 5 then .fault
  else if b.power == 2 then
    if s.linksReady h b then (if h.darkDecided then .darkening else .ready)
    else if h.wakeFailedAt.isSome then .fault
    else if h.darkDecided then .darkening
    else if h.voteUp || h.state == .unpowered then .waking
    else h.state
  else if b.power == 1 then
    if h.wakeFailedAt.isSome then .fault
    else if h.darkDecided then .darkening
    else if h.voteUp || h.state == .unpowered then .waking
    else h.state
  else if b.power == 3 then (if h.wakeFailedAt.isSome then .fault else .darkening)
  else if b.power == 4 then h.state
  else if h.wakeFailedAt.isSome && (s.topNeed h).isSome then .fault
  else .dark

/-- The power state left out of the list: a hive that has become READY (E700). -/
def State.hiveReady (s : State) (h : Nat) : State :=
  match s.hive? h with
  | none => s
  | some x =>
    let s := s.hive' h fun y => { y with wakeFailedAt := none, warned15 := false, idleSince := s.ck.now }
    -- a hive that comes up for the first time with fewer than 6 working combs is not brought into service (R9)
    let s := s.cond (s.hiveEmpty h && (s.workingLinks h).length < 6) fun s => s.hive' h fun y => { y with inService := false }
    (s.ev0 0x700 .info (le 1 h ++ le 4 ((s.ck.now - x.voteAt) / milli))).stat 0x0701 h 0 1

/-- The dormancy reply of a hive (R367): to the queen for the token it recalled, to the peer for a brood hive (log 6). -/
def State.dormancyReply (s : State) (h : Hive) : State :=
  match h.dormancyTo with
  | 1 =>
    let ids := (s.co.tokens.filter (·.hive == h.id)).map (·.id)
    let s := ids.foldl (fun t i => t.send (.col 0xFFFF (.dormant i))) s
    (s.co' fun c => { c with tokens := c.tokens.filter (·.hive != h.id) }).hive' h.id fun x => { x with token := none }
  | 2 => s.send (.col s.peerId (.dormant h.id))
  | _ => s

/-- A hive has become DARK: E701, the dormancy reply, the final replies of HIVE_DARK, and other wakes (R349, R367,
R368, R377). -/
def State.hiveGoneDark (s : State) (h : Nat) : State :=
  match s.hive? h with
  | none => s
  | some x =>
    let s := (s.ev0 0x701 .info (le 1 h)).stat 0x0701 h 1 1
    let s := s.dormancyReply x
    let (dark, rest) := x.waiters.partition fun w => w.opcode == 0x0403
    let s := dark.foldl (fun t w => t.replyTo w .success []) s
    let s := s.hive' h fun y => { y with
      waiters := rest, darkDecided := false, darkPoint := false, dormancyTo := 0, poweredAt := none, voteUp := false }
    s.askWaiting

/-- In Tide, the kept brood hive has lost its power or failed: the other one is kept from here on (R382). -/
def State.tideSwap (s : State) (h : Nat) : State :=
  if s.inMode .tide && s.isBrood h && s.md.tideKept == h then
    match s.hv.hives.find? fun x => x.brood && x.id != h with
    | some o =>
      ((s.md' fun m => { m with tideKept := o.id }).hive' o.id fun x => { x with
        wanted := some true, darkDecided := false, darkPoint := false }).hive' h fun x => { x with wanted := some false }
    | none => s
  else s

/-- A hive has lost its power against its schedule: E704, and R228 (R386). -/
def State.hiveUnpowered (s : State) (h : Nat) : State :=
  (((s.ev0 0x704 .error (le 1 h)).bump 0x0707 h 1 1).hiveLost h).tideSwap h

/-- The shelf of a hive runs on hold-up: E705; landing stripes whose programs have not all been issued are abandoned,
the others kept (R385). -/
def State.shelfOnHoldup (s : State) (h : Nat) : State :=
  let s := s.ev0 0x705 .warn (le 1 h)
  let part := (s.sp.opens.filter fun t => t.hive == h && t.purpose == .landing && t.prog.any (· == .idle)).map (·.ord)
  part.foldl (fun t o => t.abandonStripe o none) s

/-- Alarm bits that rise and fall (R357). -/
def State.alarmEvents (s : State) (h : Nat) (old new : BitVec 8) : State :=
  (List.range 3).foldl (fun t i =>
    if new.getLsbD i && !old.getLsbD i then t.ev0 0x70C .warn (le 1 h ++ le 1 i)
    else if !new.getLsbD i && old.getLsbD i then t.ev0 0x70D .info (le 1 h ++ le 1 i)
    else t) s

/-- Judge a hive's state anew from the last status block: what entering a state brings about (R349). -/
def State.judgeHive (s : State) (h : Nat) : State :=
  match s.hive? h with
  | none => s
  | some x => match x.block with
    | none => s
    | some b =>
      let s := s.hive' h fun y => { y with
        poweredAt := if b.power == 2 then some (y.poweredAt.getD s.ck.now) else if b.power == 4 then y.poweredAt else none }
      let x := (s.hive? h).getD x
      let st := s.hiveStateOf x b
      let s := s.hive' h fun y => { y with state := st }
      if st == x.state then s
      else if st == .ready && x.state != .darkening then s.hiveReady h
      else if st == .darkening && x.state == .waking && b.power == 2 then s.hiveReady h
      else if st == .dark then s.hiveGoneDark h
      else if st == .unpowered then s.hiveUnpowered h
      else if st == .fault then s.tideSwap h
      else s

/-- A status block arrives (R349, R356, R357, R384 to R387). -/
def State.takeBlock (s : State) (h : Nat) (b : ShelfBlock) : State :=
  match s.hive? h with
  | none => s
  | some x =>
    let old := x.block
    -- without a VOTE under way, this head's vote is the one that the shelf holds
    let mine := if s.pr.side == .a then b.voteA else b.voteB
    let sent := s.hv.reqs.any fun q => q.hive == h && q.cmd == 2
    let s := s.hive' h fun y => { y with
      block := some b, lastReply := s.ck.now, voteUp := if sent then y.voteUp else mine }
    let s := s.alarmEvents h ((old.map (·.alarms)).getD 0) b.alarms
    let s := if (b.power == 2 || b.power == 4) && b.holdupMs < s.setting 0x04000025 then
        s.ev0 0x706 .warn (le 1 h ++ le 2 b.holdupMs)
      else s
    let s := if b.power == 4 && (old.map (·.power)) != some 4 then s.shelfOnHoldup h else s
    let s := s.judgeHive h
    if b.power == 2 && (old.map (·.power)) == some 4 then s.issueAll else s

/-! ## Standing votes (R16, R361, R380) -/

/-- A brood hive that is to be powered: outside Hold and Watch, and in Tide the kept one only, but every one where no honey hive is (R15,
R16). -/
def State.broodWanted (s : State) (h : Hive) : Bool :=
  s.pw.sleep.isNone && (s.noHoney || !(s.inMode .tide && h.id != s.md.tideKept))

/-- Stripes of this head are open in a hive. -/
def State.hasOpen (s : State) (h : Nat) : Bool := s.sp.opens.any fun t => t.hive == h

/-- Tasks of this head execute on a hive. -/
def State.busyHive (s : State) (h : Nat) : Bool := s.cl.links.any fun l => l.hive == h && !l.tasks.isEmpty

/-- The votes that stand for every hive: brood hives up, but for the one that Tide keeps dark from its dark point on, with its stripes
done (R366); a vote of this head on a honey hive of the other is withdrawn (R16, R361, R380, R22). -/
def State.standingVotes (s : State) : State :=
  s.hv.hives.foldl (fun t h =>
    if h.brood then
      if t.broodWanted h then
        if (!h.voteUp && h.wanted != some true) || h.wanted == some false then t.hive' h.id fun x => { x with
          wanted := if x.voteUp then none else some true, darkDecided := false, darkPoint := !x.voteUp && x.darkPoint }
        else t
      else if h.voteUp && h.wanted != some false && !t.hasOpen h.id && !t.busyHive h.id && h.gather.isEmpty && !h.rebuildNeed &&
          t.inMode .tide then
        t.hive' h.id fun x => { x with wanted := some false, darkDecided := true, darkPoint := true, dormancyTo := 2 }
      else t
    else if !t.owns (.honey h.id) &&
        (h.block.any fun b => if t.pr.side == .a then b.voteA else b.voteB) && h.wanted != some false &&
        t.pr.fence == 0 && t.pr.rebalance.isNone then
      t.hive' h.id fun x => { x with wanted := some false }
    else t) s

end Sys2Proof.Machine
end

