-- ==== Sys2Proof/Machine/Limits.lean ====
section
/-! DEFINITION. What holds new work before acceptance: ingest and landing limits with their buckets (R34, R123, R284,
R817), brood space (R285), merge pins (R130, R175), and the mirror (R32). -/

namespace Sys2Proof.Machine

/-- Units of a kind that are not gated, by their bits in the mask (R625, log 80). -/
def State.ungated (s : State) (first n : Nat) : Nat := ((List.range n).filter fun i => !s.md.gated.getLsbD (first + i)).length

/-- The smallest total that remains among the ingest lanes, the SHA-256 lanes and the compressors while a unit is gated, in bytes a
second (R123, R625). -/
def State.gatedRate (s : State) : Nat :=
  let each := match s.md.mode with
    | some .surge => 4000000000
    | some .distil => 2000000000
    | _ => 3500000000
  min (s.ungated 0 8 * 8000000000) (min (s.ungated 8 16 * 4000000000) (s.ungated 26 16 * each))

/-- The ingest limit in bytes a second (R34, R123, R240, R625). -/
def State.ingestRate (s : State) : Nat :=
  let r := match s.md.mode with
    | some .distil => 32000000000
    | some .tide => 14000000000
    | some .mend => s.setting 0x04000003 * 1000000000
    | _ => 50000000000
  let r := if s.md.gated = 0 then r else min r s.gatedRate
  if s.md.cableLimit then min r 25000000000 else r

/-- The landing limit in envelope bytes a second: 0.9 × 3.3 GB/s × b × k / n (R284). -/
def State.landRate (s : State) : Nat :=
  let hs := s.landingHives
  let b := (hs.map fun h => (s.workingLinks h).length).sum
  match hs.head? with
  | some h => if s.width h < 6 then 0 else 2970000000 * b * (s.width h - 2) / s.width h
  | none => 0

/-- Both buckets are full when a mode is entered: 10 ms of their limits (R817). -/
def State.fillBuckets (s : State) : State :=
  s.md' fun m => { m with bucket := s.ingestRate / 100, landBucket := s.landRate / 100, bucketAt := s.ck.now }

/-- A tick refills both buckets at their rates, up to 10 ms of them (R817). -/
def State.refill (s : State) : State :=
  let d := s.ck.now - s.md.bucketAt
  s.md' fun m => { m with
    bucket := min (s.ingestRate / 100) (m.bucket + s.ingestRate * d / second)
    landBucket := min (s.landRate / 100) (m.landBucket + s.landRate * d / second)
    bucketAt := s.ck.now }

/-- Bytes of live records pinned by merges that wait on a dark hive (R175). -/
def State.pinned (s : State) : Nat :=
  let ords := (s.rd.merges.filter (·.dark)).map (·.ordinal)
  64 * ((s.wx.own.filter fun r => r.live && ords.contains r.ordinal).map (·.units)).sum

/-- Merges waiting on a dark hive (R130). -/
def State.darkMerges (s : State) : Nat := (s.rd.merges.filter (·.dark)).length

/-- The merges that wait on a dark hive pin 512 MiB of live records (R175). -/
def State.pinsFull (s : State) : Bool := s.pinned ≥ 512 * 2 ^ 20

/-- Brood space: below BROOD_HOLD the head holds, E520; at 3 points more it resumes, E521 (R285). -/
def State.judgeBrood (s : State) : State :=
  let h := s.setting 0x04000011
  if s.broodSets.1 = 0 then s
  else if !s.md.broodHeld && s.broodBelow h then (s.md' fun m => { m with broodHeld := true }).ev0 0x520 .warn []
  else if s.md.broodHeld && !s.broodBelow (h + 3) then (s.md' fun m => { m with broodHeld := false }).ev0 0x521 .notice []
  else s

/-- The landing bucket empties or holds bytes again: E522 on entering and on leaving the hold (R284). -/
def State.judgeLanding (s : State) : State :=
  if !s.md.landHeld && s.md.landBucket == 0 && s.landRate != 0 then
    (s.md' fun m => { m with landHeld := true }).ev0 0x522 .notice [1#8]
  else if s.md.landHeld && s.md.landBucket != 0 then
    (s.md' fun m => { m with landHeld := false }).ev0 0x522 .notice [0#8]
  else s

/-- The merge pin hold: E213 on entering and on leaving (R175); it asks for the wakes that its merges need (R371). -/
def State.judgePins (s : State) : State :=
  let full := s.pinsFull
  if full == s.md.pinHeld then s
  else
    let s := (s.md' fun m => { m with pinHeld := full }).ev0 0x213 .notice [if full then 1#8 else 0#8]
    if full then s.hv.hives.foldl (fun t h => t.judgeGather h.id) s else s

/-- Judge every hold. -/
def State.judgeHolds (s : State) : State := s.judgeRings.judgeBrood.judgeLanding.judgePins

/-- Time held for the ring and for brood space, in µs, in a millisecond of the clock (counters of 05 and 07). -/
def State.countHolds (s : State) : State :=
  let s := if s.md.ringHeld then s.stat 0x0204 0 0 1000 else s
  let s := if s.md.ckptHeld then s.stat 0x0204 1 0 1000 else s
  if s.md.broodHeld then s.stat 0x0507 0 0 1000 else s

/-- The mode accepts new work now (R27, R32, R118, R560): the mirrored rule needs the peer's wax, the flash rule the
raised fence. -/
def State.ruleServes (s : State) : Bool :=
  match s.md.mode with
  | some .full | some .surge | some .distil | some .mend | some .reshape | some .tide => s.pr.mirror
  | some .solo | some .takeover => s.pr.confirmedSolo
  | _ => false

/-- The lease or the head itself stops all acceptance (R64, R541, R550). -/
def State.halts (s : State) : Bool :=
  s.pr.fencedOff || s.md.stopped || s.pw.sleep.isSome || s.pr.mismatchHold ||
    (s.pr.joined && !s.pr.confirmedSolo && s.pr.leaseEnd ≤ s.ck.tick)

/-- The giver of a rebalance holds new work of the units from the Hold phase on (R544, R572). -/
def State.rebHolds (s : State) (d : Nat) : Bool := s.pr.rebalance.any fun r => r.giver && r.phase ≥ 2 && r.units.contains (.domain d)

/-- New work is held before acceptance (R405, R817). -/
def State.holdsWork (s : State) : Bool :=
  s.halts || !s.ruleServes || s.md.ringHeld || s.md.ckptHeld || s.md.broodHeld || s.md.landHeld || s.md.bucket == 0 ||
    (s.md.landBucket == 0 && s.landRate != 0)

end Sys2Proof.Machine
end

