-- ==== Sys2Proof/Machine/FrameOps.lean ====
section
/-! DEFINITION. Configuration frames and head modes: judging items (R99 to R103, R117, R251, R582, R813), mode changes
(R107, R109, R116, R118 to R120), and what a tick does to frames (R105 to R114). -/

namespace Sys2Proof.Machine

/-! ## Modes -/

/-- Modes that accept new work (R27). -/
def acceptsMode : Mode → Bool
  | .full | .solo | .takeover | .surge | .distil | .mend | .reshape | .tide => true
  | _ => false

/-- The modes that lead to Takeover (R28, R116). -/
def takesOver : Mode → Bool
  | .full | .surge | .distil | .mend | .reshape | .tide => true
  | _ => false

/-- Modes that need the peer's mirror (R28). -/
def needsMirror : Mode → Bool
  | .surge | .distil | .mend | .tide => true
  | _ => false

/-- The peer holds a lease from this head: 20 ms from the last grant (R63, R540). -/
def State.peerLeased (s : State) : Bool := s.pr.joined && s.ck.tick < s.pr.lastGrant + 20

/-- The peer is absent or declared failed (R116). -/
def State.peerAway (s : State) : Bool := !s.pr.joined || s.pr.declared

/-- Transitions by frame (R116). -/
def State.byFrame (s : State) : Mode → Mode → Bool
  | .full, t => t == .surge || t == .distil || t == .mend || t == .quiesce || t == .tide
  | .solo, t => t == .quiesce
  | .surge, t => t == .full || t == .distil || t == .mend || t == .quiesce
  | .distil, t => t == .full || t == .surge || t == .mend || t == .quiesce
  | .mend, t => t == .full || t == .surge || t == .distil || t == .quiesce
  | .reshape, t => t == .quiesce
  | .quiesce, t => t == .full || (t == .solo && s.peerAway) || t == .hold || t == .watch || t == .tide
  | .tide, t => t == .full || t == .quiesce
  | _, _ => false

/-- A head in Quiesce has drained: nothing accepted is left in its data ring, nor of a mirror ring whose records it lands as its own
(R119, R177). -/
def State.isDrained (s : State) : Bool := s.inMode .quiesce && s.liveData.isEmpty && !(s.wx.shadow.any fun r => r.mine && r.live)

/-- The refusal of a change of mode, in the order of R117; `tideOk` says that the Tide row is met. Full from Quiesce is Reshape while a
reshape is unfinished (R120), so it needs the mirror too (R28; DEDUCED, log 94). -/
def State.judgeMode (s : State) (cur tgt : Mode) (tideOk : Bool) : Option VStatus :=
  if cur == .takeover then some .refusedTakeover
  else if cur == .reshape && tgt != .quiesce then some .refusedReshape
  else if !s.byFrame cur tgt || ((tgt == .hold || tgt == .watch) && !s.isDrained) then some .refusedMode
  else if (needsMirror tgt || (tgt == .full && cur == .quiesce && !s.sp.reshapes.isEmpty)) && !s.pr.mirror then some .refusedPeerState
  else if tgt == .solo && s.peerLeased then some .refusedPeerState
  else if (tgt == .hold || tgt == .watch) && (s.pr.peerMode.map acceptsMode).getD false && !s.peerAway then
    some .refusedPeerState
  else if tgt == .tide && !tideOk then some .frameConflict
  else none

/-- An unfinished reshape of this head (R249). -/
def State.reshaping (s : State) : Bool := !s.sp.reshapes.isEmpty

/-- A frame that orders this head into Hold or Watch. -/
def State.ordersSleep (s : State) (f : Frame) : Bool :=
  f.items.any fun i => i.setting == 0x02000001 && i.forSide s.pr.side && (rdLe i.value == 11 || rdLe i.value == 12)

/-- Another mode ends an entry to Hold or Watch: the frames that ordered it have applied, and their requests are answered so (R106). -/
def State.entryEnds (s : State) : State :=
  (s.vk.frames.filter fun f => f.state == .applied && s.ordersSleep f).foldl (fun t f => match f.waiter with
    | some w => (t.replyTo w .success (le 8 f.tick)).frame' f.id f.peerMade fun g => { g with waiter := none }
    | none => t) s

/-- Begin to wait for the raise of the fence: at the entry to Takeover, and at every entry to Solo that is not the end of one (R118). -/
def State.beginFence (s : State) (m : Mode) : State :=
  s.pr' fun p => { p with
    fence := 1, fenceFor := b2n (m == .solo), won := [], lost := [], retryAt := none, fencedOff := false
    confirmedSolo := false, raiseLater := []
    fenceEpochs := if m == .solo then s.cl.links.map fun l => (l.link, l.epoch) else p.fenceEpochs
    fenceAt := s.ck.now + (p.lastGrant + (if m == .takeover && p.side == .b then 50 else 30) - s.ck.tick) * milli }

/-- Take a mode: E021, and what the mode begins with. Leaving Quiesce for Full with an unfinished reshape enters
Reshape (R120); Takeover, and Solo by frame, raise the fence before they accept (R118, R560); Hold and Watch begin their
entry, and the recheck of WAKE_MODE ends (R121). -/
def State.enterMode (s : State) (m : Mode) : State :=
  let m := if m == .full && s.inMode .quiesce && s.reshaping then .reshape else m
  let old := (s.md.mode.map modeN).getD 0
  if m == .hold || m == .watch then s.md' fun d => { d with
    entering := some m, dormantSaid := false, wakeCheck := none, wakePending := false }
  else
    let fresh := m == .takeover || (m == .solo && !s.inMode .takeover)
    let s := s.cond s.md.entering.isSome State.entryEnds
    let s := s.md' fun d => { d with
      mode := some m, drained := false, entering := none
      tideKept := if m == .tide then s.setting 0x02000002 else d.tideKept
      wakeCheck := none, wakePending := m == .quiesce && d.wakePending }
    let s := s.cond fresh (·.beginFence m)
    let s := if m == .solo || m == .takeover || m == .quiesce then s else s.pr' fun p => { p with confirmedSolo := false }
    -- a reshape that goes on does so from its last checkpoint (R120)
    let s := if m == .reshape then s.sp' fun p => { p with reshapes := p.reshapes.map fun r => { r with pendingOld := [], paused := false } } else s
    s.fillBuckets.ev0 0x021 .notice (le 1 old ++ le 1 (modeN m) ++ le 8 s.ck.tick)

/-- A mode change that the head decides by itself: a MODE_CHANGE record, in effect at the next tick (R109). -/
def State.autoModeThen (s : State) (m : Mode) (after : List After) : State :=
  (s.md' fun d => { d with auto := some m }).commit 0xFFFF (.modeChange m) after

/-- A mode change that answers no request (R109). -/
def State.autoMode (s : State) (m : Mode) : State := s.autoModeThen m []

/-! ## Judging items -/

/-- Targets a frame's scope admits (R99). -/
def State.targetOk (s : State) (pair : Bool) (t : Nat) : Bool :=
  if pair then 1 ≤ t && t ≤ 3 else t == 0 || t == 1 + sideN s.pr.side

/-- Settings that both heads must take together (R582). -/
def pairSetting (id : Nat) : Bool := 0x05000001 ≤ id && id ≤ 0x05000004

/-- FORAGE_UDP_PORT and FORAGE_PAYLOAD change in a pair-wide frame (R515). -/
def forageSetting (id : Nat) : Bool := id == 0x05000101 || id == 0x05000102

/-- Working combs of a hive (R204, R251). -/
def State.workingCombs (s : State) (h : Nat) : Nat := (s.workingLinks h).length

/-- Whether CFG_STAGE takes an item (R99, R251, R515, R582, R814). -/
def State.stageOk (s : State) (pair : Bool) (i : Item) : Bool :=
  match settingRow i.setting with
  | none => false
  | some r =>
    s.targetOk pair i.target && r.legal i.value && (!pairSetting i.setting || (pair && i.target == 3)) && (!forageSetting i.setting || pair) &&
      !(0x04010000 ≤ i.setting && i.setting < 0x04010008 && rdLe i.value > s.workingCombs (i.setting - 0x04010000))

/-- Frame order (R52, R105): by tick, then in the order in which the schedule records were written. -/
def Frame.upTo (a b : Frame) : Bool := a.tick < b.tick || (a.tick == b.tick && a.schedOrd ≤ b.schedOrd)

/-- The Scheduled frames in frame order. -/
def State.scheduledFrames (s : State) : List Frame := (s.vk.frames.filter (·.state == .scheduled)).sortBy Frame.upTo

/-- The items of frames for this side. -/
def State.itemsOf (s : State) (fs : List Frame) : List Item := fs.flatMap fun f => f.items.filter (·.forSide s.pr.side)

/-- The items of every frame Scheduled before, for this side, in frame order. -/
def State.priorItems (s : State) : List Item := s.itemsOf s.scheduledFrames

/-- The last value that items give a setting, or the one in force. -/
def State.settingAfter (s : State) (items : List Item) (id : Nat) : Nat :=
  match (items.filter (·.setting == id)).getLast? with
  | some i => rdLe i.value
  | none => s.setting id

/-- Item of an internal frame of SUPER_ATTACH: hive and slot mask (the number is the model's own, log 6). -/
def superItem : Nat := 0xFFFF0001
/-- Item of an internal frame of REBALANCE: giver side and units (the number is the model's own, log 6). -/
def rebalanceItem : Nat := 0xFFFF0002

/-- Slots of a hive whose combs work, or would after a SUPER_ATTACH of a mask: those that are up, and, while the hive has no power, those
of the mask (R9, R244). -/
def State.combsWith (s : State) (hive mask : Nat) : Nat :=
  ((List.range 16).filter fun i => (s.workingLinks hive).contains (16 * hive + i) ||
    (mask.testBit i && match s.link? (16 * hive + i) with
      | some l => l.comb != .failed && (l.state == .up || !s.hv.shelves.any fun x => x.hive == hive && x.block.power == 2)
      | none => !s.hv.shelves.any fun x => x.hive == hive && x.block.power == 2)).length

/-- Memory for one more hive in service: 64 GiB, and 64 GiB for each hive (R189, R191); eight channels. -/
def State.roomForHive (s : State) : Bool :=
  64 + 64 * ((s.hv.hives.filter (·.inService)).length + 1) ≤ (let own := 8 * s.dr.dimms * s.dr.dimmGiB; min own (s.dr.peerGiB.getD own))

/-- A SUPER_ATTACH begins a reshape of this head: of a hive that it serves, or of a new hive that comes into service under it (R9, R191,
R244, R245). The head of side `by_` took the request. -/
def State.superReshapes (s : State) (hive mask : Nat) (by_ : Side) : Bool :=
  match s.hive? hive with
  | some h => if h.inService then h.brood || s.owns (.honey hive) else
      s.roomForHive && 6 ≤ s.combsWith hive mask && (h.brood || by_ == s.pr.side)
  | none => hive < 8 && s.roomForHive && 6 ≤ s.combsWith hive mask && (hive ≤ 1 || by_ == s.pr.side)

/-- The side of the head that took the request of a frame. -/
def State.takenBy (s : State) (f : Frame) : Side := if f.peerMade then otherSide s.pr.side else s.pr.side

/-- The mode that an item of a frame leads to from a mode (R116, R120, R245, R570): a hive is reshaped by SUPER_ATTACH. -/
def State.modeStep (s : State) (by_ : Side) (cur : Option Mode) (i : Item) : Option Mode :=
  if i.setting = 0x02000001 then
    match modeOf (rdLe i.value) with
    | some .full => if cur == some .quiesce && s.reshaping then some .reshape else some .full
    | m => m
  else if i.setting = superItem then
    if cur == some .full && s.superReshapes (fld i.value 0 1) (fld i.value 1 2) by_ then some .reshape else cur
  else if i.setting = rebalanceItem then if cur == some .rejoin then some .full else cur
  else cur

/-- The mode after frames that begin in a mode. -/
def State.modeAfter (s : State) (cur : Option Mode) (fs : List Frame) : Option Mode :=
  fs.foldl (fun c f => (s.itemsOf [f]).foldl (s.modeStep (s.takenBy f)) c) cur

/-- A change that the head decided by itself in mode `old` still is one of R116 once the tick's frames have applied and left the mode
`now`: entry to Quiesce always, to Takeover from the modes that lead there, another where no frame has changed the mode. -/
def autoStands (old now : Option Mode) (m : Mode) : Bool := m == .quiesce || now == old || (m == .takeover && now.any takesOver)

/-- The mode that the head will hold after every frame already Scheduled (R117): of a head that enters Hold or Watch, that one; a change
that it has decided by itself follows the frames of the next tick, where they leave it in force (R109). -/
def State.modeToCome (s : State) : Option Mode :=
  let fs := s.scheduledFrames
  let cur := if s.md.entering.isSome then s.md.entering else s.md.mode
  let now := s.modeAfter cur (fs.filter fun f => f.tick ≤ s.ck.tick + 1)
  let next := match s.md.auto with
    | some m => if autoStands cur now m then some m else now
    | none => now
  s.modeAfter next (fs.filter fun f => s.ck.tick + 1 < f.tick)

/-- Whether a frame sets Tide and one TIDE_BROOD_HIVE on both sides (R117). -/
def tideMet (pair : Bool) (items : List Item) : Bool :=
  let on := fun (id side : Nat) =>
    ((items.filter fun i => i.setting == id && (i.target == 3 || i.target == side)).getLast?).map fun i => rdLe i.value
  pair && on 0x02000001 1 == some 10 && on 0x02000001 2 == some 10 &&
    (on 0x02000002 1).isSome && on 0x02000002 1 == on 0x02000002 2

/-- The TIDE_BROOD_HIVE of a frame names a brood hive in service, so that one stays powered (R16; the status of one that does not is the
model's choice, log 86). -/
def State.tideHiveOk (s : State) (items : List Item) : Bool :=
  (items.filter (·.setting == 0x02000002)).all fun i => (s.hive? (rdLe i.value)).any fun h => h.brood && h.inService

/-- A conflict: item number, the other item's number or 0xFFFF, status (R103). -/
abbrev Conflict := Nat × Nat × VStatus

/-- The two numbers of TIDE_BROOD_HIVE items that differ in a frame that enters Tide, later first. -/
def tideClash (items : List (Nat × Item)) : Option (Nat × Nat) :=
  match items.filter (·.2.setting == 0x02000002) with
  | a :: b :: _ => if a.2.value != b.2.value then some (b.1, a.1) else none
  | _ => none

/-- Two targets name a common side (R99). -/
def targetsMeet (a b : Nat) : Bool := a == b || a == 3 || b == 3 || a == 0 || b == 0

/-- The earlier items that give the same setting another value on a side (R103). -/
def setTwice (items : List (Nat × Item)) (n : Nat) (i : Item) : List Nat :=
  (items.filter fun e => e.1 < n && e.2.setting == i.setting && targetsMeet e.2.target i.target && e.2.value != i.value).map (·.1)

/-- The conflict of a HEAD_MODE item with the row of R117 for Tide. -/
def tideConflict (items : List (Nat × Item)) (n : Nat) : Conflict :=
  match tideClash items with
  | some (a, b) => (a, b, .frameConflict)
  | none => (n, 0xFFFF, .frameConflict)

/-- The conflicts of one item with the state after the frames before, `cur` being the mode then (R103, R117, R251, R813). Of a HEAD_MODE
item for the other side alone, this head judges the row for Tide; the other head judges the rest (R110). A class 0x03 item of a domain
that does not exist is refused like one of a domain of the other head (DESIGN CHOICE, log 86). -/
def State.judgeItem (s : State) (pair : Bool) (items : List (Nat × Item)) (cur : Option Mode) (prior : List Item) (n : Nat) (i : Item) :
    List Conflict :=
  let mine := i.forSide s.pr.side
  let tideOk := tideMet pair (items.map (·.2)) && s.tideHiveOk (items.map (·.2))
  if i.setting = 0x02000001 then
    match modeOf (rdLe i.value) with
    | none => [(n, 0xFFFF, .refusedMode)]
    | some m =>
      if !mine then (if m == .tide && !tideOk then [tideConflict items n] else [])
      else match cur with
        | none => [(n, 0xFFFF, .refusedMode)]
        | some c =>
          match s.judgeMode c m tideOk with
          | none => []
          | some st => if st == .frameConflict then [tideConflict items n] else [(n, 0xFFFF, st)]
  else if i.setting / 2 ^ 24 = 3 then
    match s.ownerOf (.domain (settingDomain i.setting)) with
    | some o =>
      if i.target == 3 || (i.target == 0 && o == s.pr.side) || i.target == 1 + sideN o then []
      else [(n, 0xFFFF, .refusedNotOwner)]
    | none => [(n, 0xFFFF, .refusedNotOwner)]
  else if 0x04010000 ≤ i.setting && i.setting < 0x04010008 then
    if mine && rdLe i.value > s.workingCombs (i.setting - 0x04010000) then [(n, 0xFFFF, .paramInvalid)] else []
  else if i.setting = 0x04000013 || i.setting = 0x04000012 then
    let all := prior ++ (items.map (·.2)).filter (·.forSide s.pr.side)
    if mine && s.settingAfter all 0x04000013 ≤ s.settingAfter all 0x04000012 then
      match items.find? fun e => e.1 != n && (e.2.setting == 0x04000012 || e.2.setting == 0x04000013) with
      | some e => [(n, e.1, .paramInvalid)]
      | none => [(n, 0xFFFF, .paramInvalid)]
    else []
  -- SUPER_ATTACH needs Full, and the peer's mirror for the Reshape that it begins (R28, R116)
  else if i.setting = superItem then if cur == some .full && s.pr.mirror then [] else [(n, 0xFFFF, .refusedMode)]
  else []

/-- Items with their numbers (R100). -/
def numbered (items : List Item) : List (Nat × Item) := (List.range items.length).zip items

/-- Every conflict of a frame's items with each other and with the state after the frames before, `cur` being the mode then (R103). -/
def State.conflictsWith (s : State) (pair : Bool) (items : List Item) (cur : Option Mode) (prior : List Item) : List Conflict :=
  let l := numbered items
  dedupBy (l.flatMap fun e =>
    ((setTwice l e.1 e.2).map fun n => (e.1, n, VStatus.frameConflict)) ++ s.judgeItem pair l cur prior e.1 e.2)

/-- Every conflict of a frame with its own items and with every frame already Scheduled (R103). -/
def State.conflicts (s : State) (f : Frame) : List Conflict := s.conflictsWith f.pair f.items s.modeToCome s.priorItems

/-- A conflict list as the reply carries it (R103). -/
def conflictBytes (l : List Conflict) : Bytes :=
  l.flatMap fun c => le 2 c.1 ++ le 2 c.2.1 ++ le 2 (vstat c.2.2) ++ [0#8, 0#8]

/-! ## The tick -/

/-- Item of the internal frame that makes a pending pair key current (R688; the number is the model's own, log 6). -/
def keyItem : Nat := 0xFFFF0003

/-- A hive that the apiary gains, not yet in service: hives 0 and 1 are brood hives, the rest honey hives (R14); its shelf has combs in
the slots of a mask (log 89). -/
def State.newHive (s : State) (hive mask : Nat) : State :=
  if (s.hive? hive).isSome || hive ≥ 8 then s
  else s.hv' fun v => { v with
    hives := v.hives ++ [{ (default : Hive) with id := hive, brood := hive ≤ 1, state := .dark, idleSince := s.ck.now }]
    shelves := if v.shelves.any (·.hive == hive) then v.shelves
      else v.shelves ++ [{ hive := hive, block := { resetBlock with hive := hive, populated := mask % 65536 }, inputOk := true
                           lastA := none, lastB := none, stateAt := s.ck.now }] }

/-- A whole hive comes into service at the tick of its SUPER_ATTACH: with memory for it, else E244, and with 6 working combs, or slots
whose combs come up once it has power (R9, R191); with fewer it stays out of service, and the spec names no status or event for that
(DESIGN CHOICE, log 93). The lease of a honey hive goes to the head that took the SUPER_ATTACH (R17; the choice is the model's, log 89).
Nothing is converted; the reshape lasts until its combs are up, and wakes a dark honey hive for it (R245, R364). Its checkpoint has the
old width 0, B 1 and E 0, for there is no old stripe (DESIGN CHOICE, log 93). -/
def State.attachHive (s : State) (hive mask : Nat) (brood : Bool) (by_ : Side) : State :=
  if !s.roomForHive then s.ev0 0x244 .error (le 1 hive)
  else if s.combsWith hive mask < 6 then s
  else
    let s := s.hive' hive fun x => { x with inService := true, owner := if brood then none else some by_ }
    let s := if brood then s else s.pr' fun p => { p with
      owners := assocSet p.owners (.honey hive) by_, homes := assocSet p.homes (.honey hive) by_ }
    if !brood && by_ != s.pr.side then s
    else
      let n := s.combsWith hive mask
      let s := s.journal 0x11 hive [0, n, 1, 0, 0, 0] []
      ((s.sp' fun p => { p with reshapes := p.reshapes.filter (·.hive != hive) ++
        [⟨hive, 0, n, 1, 0, 0, 0, [], false, [], s.ck.now⟩] }).hive' hive fun x => { x with reshapeNeed := !x.brood }).cond
          (s.inMode .full) (·.enterMode .reshape)

/-- A comb begins to work: its state is committed, and its first block sets are listed (R264, R304). -/
def State.combWorks (s : State) (l : Link) : State :=
  let s := (s.commit 0xFFFF (.combState l.link .working l.serial) []).link' l.link fun l => { l with comb := .working }
  let s := s.hive' l.hive fun x => { x with attach := x.attach &&& (0xFFFF ^^^ 2 ^ (l.link % 16)) }
  match s.link? l.link with
  | some l =>
    let items := s.firstSets l
    if items.isEmpty then s else (items.foldl (fun t i => t.mapItem t.pr.side t.ck.tick i) s).mapChange 0xFFFF items []
  | none => s

/-- What the tick of a SUPER_ATTACH frame does (R191, R203, R244, R245): the added combs that are up work, the others as they come up;
the reshape of the hive's older stripes begins, and the heads concerned enter Reshape. A stripe that is open at the tick is among the
older ones. The head of side `by_` took the request. -/
def State.superAttach (s : State) (hive mask : Nat) (by_ : Side) : State :=
  let s := s.newHive hive mask
  match s.hive? hive with
  | none => s
  | some h =>
    let s := (List.range 16).foldl (fun t i => if mask.testBit i then t.withLink (16 * hive + i) else t) s
    let oldN := s.width hive
    let newN := s.widthOf hive (s.combsWith hive mask)
    let s := s.hive' hive fun x => { x with attach := mask % 65536 }
    let s := (s.cl.links.filter fun l => l.link / 16 == hive && mask.testBit (l.link % 16) &&
      (l.comb == .absent || l.comb == .retired) && l.state == .up).foldl State.combWorks s
    if !h.inService then s.attachHive hive mask h.brood by_
    else if !h.brood && !s.owns (.honey hive) then s
    else
      let mine := ((s.sp.table.filter fun t => t.hive == hive && !t.released && t.openTick < s.ck.tick && s.minesStripe t).map (·.ord)) ++
        (s.sp.opens.filter fun o => o.hive == hive).map (·.ord)
      -- with no older stripe the boundary stands past the end from the start
      let lo := if mine.isEmpty then 1 else mine.foldl min (mine.headD 0)
      let hi := mine.foldl max 0
      let r : Reshape := ⟨hive, oldN, newN, lo, hi, 0, 0, [], false, [], s.ck.now⟩
      let s := s.journal 0x11 hive [oldN, r.newN, lo, hi, 0, 0] []
      ((s.sp' fun p => { p with reshapes := p.reshapes.filter (·.hive != hive) ++ [r] }).hive' hive fun x => { x with
        reshapeNeed := !x.brood }).cond (s.inMode .full) (·.enterMode .reshape)

/-- The units an item of REBALANCE carries, 3 bytes each: kind (0 domain, 1 honey hive, 2 brood half) and number. -/
def unitsOf (v : Bytes) : List OwnUnit :=
  (pieces 3 v).filterMap fun b =>
    if b.length < 3 then none
    else if fld b 0 1 = 0 then some (.domain (fld b 1 2))
    else if fld b 0 1 = 1 then some (.honey (fld b 1 2))
    else some (.brood (sideOf (fld b 1 2)))

/-- The bytes of units in an item of REBALANCE. -/
def bytesOfUnits (us : List OwnUnit) : Bytes :=
  us.flatMap fun u => match u with
    | .domain d => le 1 0 ++ le 2 d
    | .honey h => le 1 1 ++ le 2 h
    | .brood d => le 1 2 ++ le 2 (sideN d)

/-- What the tick of a REBALANCE frame does (R570, R572): the preparation begins, and a head in Rejoin leaves it for
Full. -/
def State.beginRebalance (s : State) (v : Bytes) : State :=
  let giver := sideOf (fld v 0 1) == s.pr.side
  let s := s.pr' fun p => { p with rebalance := some ⟨giver, unitsOf (v.drop 1), 1, s.ck.now, s.ck.tick, 0, false⟩ }
  if s.inMode .rejoin then s.enterMode .full else s

/-- Item of the internal frame that changes the apiary ID (R598, R601, R605, R607; its number and layout are the model's
own, log 6): kind (0 a worker's ID, 1 the colony is left, 2 the queen role is taken), apiary ID, queen epoch (4). -/
def apiaryItem : Nat := 0xFFFF0004

/-- The tick of such a frame: the new IDs from here on, and the record that keeps them (R601). -/
def State.changeApiary (s : State) (v : Bytes) : State :=
  if fld v 0 1 = 0 then (s.control 0xFFFF (.colonyJoin (fld v 1 1) (fld v 2 4)) []).takeApiary (fld v 1 1)
  else if fld v 0 1 = 1 then (s.control 0xFFFF .colonyLeave []).takeApiary 0
  else
    let s := if s.setting 0x06000004 != 0 then (s.bump 0x0C04 0 1 1).ev0 0xC07 .error (le 4 (s.setting 0x06000004)) else s
    (s.control 0xFFFF .colonyForm []).takeApiary 0

/-- Item of the internal frame that changes a head's written formats (R665; its number and layout are the model's own, log 6): the head's
side, then the formats. -/
def formatItem : Nat := 0xFFFF0007

/-- The tick of such a frame: the head whose side it names writes these formats from here on (R665). -/
def State.takeFormats (s : State) (v : Bytes) : State :=
  if fld v 0 1 = sideN s.pr.side then s.up' fun u => { u with written := (v.drop 1).map (·.toNat) } else s

/-- Put a frame's settings and mode in force on this head, and begin what an internal frame asks for. -/
def State.applyFrame (s : State) (f : Frame) : State :=
  (f.items.filter (·.forSide s.pr.side)).foldl (fun t i =>
    if i.setting = superItem then t.superAttach (fld i.value 0 1) (fld i.value 1 2) (t.takenBy f)
    else if i.setting = rebalanceItem then t.beginRebalance i.value
    else if i.setting = apiaryItem then t.changeApiary i.value
    else if i.setting = formatItem then t.takeFormats i.value
    else if i.setting = keyItem then (t.ks' fun k => { k with pair := k.pair.promote t.ck.now }).reseal
    else
      let t := t.applySetting i
      if i.setting = 0x02000001 then
        match modeOf (rdLe i.value) with
        | some m => t.enterMode m
        | none => t
      else t) s

/-- E020 of a frame's end. -/
def State.frameEvent (s : State) (f : Frame) (status : Nat) : State :=
  s.ev0 0x020 .notice (le 4 f.id ++ le 8 f.tick ++ le 2 status)

/-- The final reply of CFG_APPLY with wait 1 (R106); that of the frame which orders Hold or Watch waits until entry is complete (R95). -/
def State.frameReply (s : State) (f : Frame) (st : VStatus) : State :=
  match f.waiter with
  | some w =>
    if s.md.entering.isSome && st == .success && s.ordersSleep f then s
    else (s.replyTo w st (if st == .success then le 8 f.tick else [])).frame' f.id f.peerMade fun g => { g with waiter := none }
  | none => s

/-- The hosts of a domain have changed: commands of hosts that lost it and that are not accepted end with Invalid
Namespace or Format, and the Namespace Attribute notice is raised (R425, R429). -/
def State.hostAccess (s : State) (d : Nat) : State :=
  let nsids := (s.vo.nss.filter (·.domain == d)).map (·.nsid)
  let reaches := fun (c : HostCmd) => (s.nv.ctrls.find? (·.id == c.ctrl)).any fun x => s.admits d x.nqn
  let names := fun (c : HostCmd) => match c.kind with
    | .write n _ _ _ => nsids.contains n
    | .writeData n _ _ _ => nsids.contains n
    | .read n _ _ => nsids.contains n
    | .deallocate n _ => nsids.contains n
    | _ => false
  let gone := s.nv.cmds.filter fun c => names c && !reaches c
  let s := gone.foldl (fun t c => t.failCmd c.ctrl c.qid c.cid 0 0x0B true) s
  let s := s.keepGather fun g => !gone.any fun c => g.isOf c.ctrl c.qid c.cid
  nsids.foldl (fun t n => t.raiseNs d n) s

/-- Domains whose HOST_ACCESS a frame changes on this head. -/
def State.accessDomains (s : State) (f : Frame) : List Nat :=
  dedupBy ((f.items.filter fun i => i.forSide s.pr.side && i.setting / 2 ^ 24 == 3 && 0x10 ≤ i.setting % 256 &&
    i.setting % 256 < 0x50).map fun i => settingDomain i.setting)

/-- Colony settings with their generation, for every worker head, and the apiary list (R587, R590): an item numbered
0xFFFF0005 lists the apiaries, each by ID, both head IDs, 1 for a vacated one, and its fabric addresses of 16 bytes with their number before
them (log 6). -/
def apiaryListItem : Nat := 0xFFFF0005

/-- An item of SETTINGS that names the apiary to which a planned QUEEN_ASSIGN gives the queen role, and its epoch (4); its number and
layout are the model's own (R598, log 6). -/
def queenItem : Nat := 0xFFFF0006

/-- The class 0x06 settings that are set (R587). -/
def State.classSix (s : State) : List (Nat × Bytes) := s.vk.settings.filter fun e => e.1 / 2 ^ 24 == 6

/-- SETTINGS as the queen sends it. -/
def State.settingsMsg (s : State) (c : ColonyPart) : ColMsg :=
  let list := c.members.flatMap fun m => le 1 m.apiary ++ le 2 m.headA ++ le 2 m.headB ++ le 1 (b2n m.vacated) ++
    le 1 m.addrs.length ++ m.addrs.flatMap (fit 16)
  .settings c.settingsGen (s.classSix ++ [(apiaryListItem, list)])
    ((s.ks.colony.cur.map (·.1)).getD 0)

/-- Heads of the workers in the catalogue. -/
def ColonyPart.workerHeads (c : ColonyPart) : List Nat :=
  (c.members.filter fun m => m.apiary != 0 && !m.vacated).flatMap fun m => [m.headA, m.headB]

/-- Class 0x06 settings change on the queen head: a new settings generation goes to every worker; staging ROLLOUT_VERSION
begins, resumes or ends a rollout (R585, R588, R608, R609). -/
def State.colonySettings (s : State) (items : List Item) : State :=
  if !s.co.queenHead || !(items.any fun i => i.setting / 2 ^ 24 == 6) then s
  else
    let s := s.co' fun c => { c with settingsGen := c.settingsGen + 1 }
    let s := if items.any (·.setting == 0x06000004) then
        let on := s.setting 0x06000004 != 0
        let s := s.control 0xFFFF (.queenRollout (b2n on) false) []
        if on then s.ev0 0xC08 .notice (le 1 0) else s
      else s
    s.co.workerHeads.foldl (fun t h => t.send (.col h (t.settingsMsg t.co))) s

/-- A frame applies: its items in force, FRAME_END, E020, the reply (R106, R107). -/
def State.doApply (s : State) (f : Frame) : State :=
  let ds := s.accessDomains f
  let s := ds.foldl State.hostAccess (((s.applyFrame f).endFrame f.id 0).colonySettings f.items)
  ((s.commit 0xFFFF (.frameEnd f.id 0) []).frameEvent f 0).frameReply f .success

/-- A frame ends aborted (R107, R111, R113). One by which this head gives the apiary another ID is scheduled anew, for what it follows
from stands (DESIGN CHOICE, log 86). -/
def State.doAbort (s : State) (f : Frame) (st : VStatus) : State :=
  let s := s.endFrame f.id (vstat st)
  let s := ((s.commit 0xFFFF (.frameEnd f.id (vstat st)) []).frameEvent f (vstat st)).frameReply f st
  s.cond (f.internal && !f.peerMade) fun s => s.vk' fun v => { v with
    waitFrames := v.waitFrames ++ (f.items.filter (·.setting == apiaryItem)).map fun i => (f.pair, i, []) }

/-- The brood hive that Tide keeps dark (R380). -/
def State.tideDark (s : State) : Option Nat :=
  (s.hv.hives.find? fun h => h.brood && h.id != s.md.tideKept).map (·.id)

/-- A frame that takes this head out of Tide (R383). -/
def State.leavesTide (s : State) (f : Frame) : Bool :=
  s.inMode .tide && s.co.member && f.items.any fun i => i.setting == 0x02000001 && rdLe i.value != 10

/-- The token for the dark brood hive that R383 asks for has been granted. -/
def State.tideToken (s : State) : Bool :=
  match s.tideDark with
  | some h => ((s.hive? h).bind (·.token)).isSome
  | none => true

/-- A frame of SUPER_ATTACH. -/
def Frame.isSuper (f : Frame) : Bool := f.items.any (·.setting == superItem)

/-- The shadow holds the go record of a frame that the peer coordinates, applied or not (R113). -/
def State.shadowGo (s : State) (id : Nat) : Bool :=
  s.wx.shadow.any fun r => !r.torn && match r.body with
    | .frameGo g => g == id
    | _ => false

/-- One Scheduled frame whose tick has come. False when it waits: for its go record (R114), or, of SUPER_ATTACH, for a head that is being
started to take its mode. The internal frames that apply on both heads go by the same records (R98, R112, R113). -/
def State.tickFrame (s : State) (f : Frame) : State × Bool :=
  if f.isSuper && s.md.mode.isNone then (s, false)
  else if f.pair then
    if f.go = 2 || (f.peerMade && s.shadowGo f.id) then (s.doApply f, true)
    else if !f.peerMade && f.go = 1 then
      if s.pr.declared then (s.doAbort f .frameAbortedPeer, true) else (s, false)
    else (s.doAbort f .frameAbortedPeer, true)
  else if s.leavesTide f && !s.tideToken then (s.doAbort f .frameAbortedRecheck, true)
  else if (s.conflictsWith f.pair f.items s.md.mode []).isEmpty then (s.doApply f, true)
  else (s.doAbort f .frameAbortedRecheck, true)

/-- Frames whose tick has come, in frame order (R52, R105). -/
def State.dueFrames (s : State) : List Frame := s.scheduledFrames.filter (·.tick ≤ s.ck.tick)

/-- Apply or abort due frames in order, stopping at one that waits. -/
def State.tickFrames (s : State) : List Frame → State
  | [] => s
  | f :: l => let (t, go) := s.tickFrame f; if go then t.tickFrames l else t

/-- A frame whose schedule record is not accepted before tick T − 1 begins is refused and not scheduled (R104); it is Checked again, or
discarded where its session has closed meanwhile (R102). -/
def State.refuseLate (s : State) : State :=
  (s.vk.frames.filter fun f => f.state == .scheduling && !f.internal && !f.peerMade && f.tick ≤ s.ck.tick + 1).foldl (fun t f =>
    let t := match f.waiter with
      | some w => t.replyTo w .refusedTick []
      | none => t
    let t := if t.vk.sessions.any (·.handle == f.session) then
        t.frame' f.id false fun g => { g with state := .checked, waiter := none }
      else t.vk' fun v => { v with frames := v.frames.filter fun g => !(g.id == f.id && !g.peerMade) }
    t.commit 0xFFFF (.frameEnd f.id (vstat .refusedTick)) []) s

/-- The copy of a frame of the peer whose own schedule record is not accepted by its tick ends as the peer's does, which has had no
readiness (R111). -/
def State.lateCopies (s : State) : State :=
  (s.vk.frames.filter fun f => f.peerMade && f.state == .scheduling && f.tick ≤ s.ck.tick).foldl (fun t f => t.doAbort f .frameAbortedPeer) s

/-- The frames that are Scheduled or about to be: at most 64 (R101). -/
def State.framesFull (s : State) : Bool :=
  64 ≤ (s.vk.frames.filter fun g => g.state == .scheduled || g.state == .scheduling).length

/-- Schedule an internal frame at the second tick ahead (03, R98): its ID and the reply once it is scheduled. With the peer away it is
this head's alone. -/
def State.internalFrame (s : State) (pair : Bool) (item : Item) (after : List After) : State :=
  let id := s.vk.nextFrame + sideN s.pr.side * 2 ^ 31
  let f : Frame :=
    { id := id, pair := pair && !s.peerAway, internal := true, peerMade := false, session := 0, state := .scheduling, items := [item]
      tick := s.ck.tick + 2, lastReq := s.ck.now, wait := false, waiter := none, ready := false, go := 0, abort := 0
      endAt := 0, schedOrd := s.wx.nextOrd, owed := false }
  (s.vk' fun v => { v with frames := v.frames ++ [f], nextFrame := v.nextFrame + 1 }).commit 0xFFFF
    (.frameSchedule { f with state := .scheduled }) (.scheduled id s.wx.nextOrd :: after)

/-- Schedule an internal frame for a request, or refuse it with NO_FRAME_SLOT while 64 frames are Scheduled (R101, log 86). -/
def State.askFrame (s : State) (w : Waiter) (pair : Bool) (item : Item) (after : List After) : State :=
  if s.framesFull then s.replyTo w .noFrameSlot [] else s.internalFrame pair item after

/-- Schedule an internal frame of the head's own; it waits for a place while 64 frames are Scheduled (R101, log 86). -/
def State.ownInternal (s : State) (pair : Bool) (item : Item) (after : List After) : State :=
  if s.framesFull then s.vk' fun v => { v with waitFrames := v.waitFrames ++ [(pair, item, after)] } else s.internalFrame pair item after

/-- Schedule what waits for a place. -/
def State.waitingFrames (s : State) : State :=
  s.vk.waitFrames.foldl (fun t e => t.ownInternal e.1 e.2.1 e.2.2) (s.vk' fun v => { v with waitFrames := [] })

/-- What a tick does to frames and modes: late schedules, due frames, then the change of mode the head decided by
itself (R104 to R109, R116). -/
def State.frameTick (s : State) : State :=
  let old := s.md.mode
  let s := s.refuseLate.lateCopies.waitingFrames
  let s := s.tickFrames s.dueFrames
  match s.md.auto with
  | some m => (s.md' fun d => { d with auto := none }).cond (autoStands old s.md.mode m) (·.enterMode m)
  | none => s

end Sys2Proof.Machine
end

