-- ==== Sys2Proof/Machine/Volumes.lean ====
section
/-! DEFINITION. Domains, namespaces and snapshots (R98, R135, R278 to R280, R401, R419 to R421, R689). -/

namespace Sys2Proof.Machine

/-- A fresh domain key record: salt, data and locator generation 1 (R689); its keys and salt come from the DRBG
(R135, R687) and are free values. -/
def State.freshKeys (s : State) (d : Nat) : DomainKeys :=
  let b := s.drawn 128
  { domain := d, salt := b.take 32, data := [(1, slice b 32 64)], locs := [(1, slice b 96 32)], newestData := 1
    newestLoc := 1, onChip := true, lastUse := s.ck.now, dramBad := false, durableBad := false }

/-- Count a DRBG request: it is reseeded after every 2^20 (R687). -/
def State.drawKeys (s : State) : State :=
  s.afterDraw.ks' fun k => { k with drbg := if k.drbg + 1 ≥ 2 ^ 20 then 0 else k.drbg + 1 }

/-- The wrap counter of a wrapping secret: 0 the vault root key, 1 the pair key, 3 the escrow secret, 4 the key seal
key; its bit 63 is the head's side (R692). -/
def State.wrapCtr (s : State) (w : Nat) : Nat :=
  ((s.ks.wrapCtrs.find? (·.1 == w)).map (·.2)).getD 0 + sideN s.pr.side * 2 ^ 63

/-- Use a wrap counter value: none is used twice (R692). -/
def State.useWrap (s : State) (w : Nat) : State :=
  s.ks' fun k => { k with
    wrapCtrs := assocSet k.wrapCtrs w (((k.wrapCtrs.find? (·.1 == w)).map (·.2)).getD 0 + 1) }

/-- DOMAIN_CREATE's own part (R98, R537, R689): KEY_CHANGE and ACCEPT_CONTROL. -/
def State.domainCreate (s : State) (q : VReq) : State :=
  let d := q.num 1 0
  if (s.domain? d).isSome then s.reply q 0x0301 .exists []
  else if s.vo.domains.length ≥ 65536 then s.reply q 0x0301 .noCapacity []
  else
    let r := s.freshKeys d
    let ctr := s.wrapCtr 0
    let s := (s.drawKeys.useWrap 0).commit d (.keyChange .domainCreate 6 d 1 1 ctr (some r) []) []
    s.control d (.domainCreate d (sideOf (q.num 2 0)) (q.num 3 24)) [.reply (q.waiter 0x0301) .success []]

/-- DOMAIN_CREATE (R98). -/
def execDomainCreate (q : VReq) (s : State) : Host.Outcome State Fault Refusal :=
  ok (s.virkan 0x0301 q (·.domainCreate q))

/-- DOMAIN_DELETE's own part (R98, R471). -/
def State.domainDelete (s : State) (q : VReq) : State :=
  let d := q.num 1 0
  if (s.domain? d).isNone then s.reply q 0x0302 .notFound []
  else if !s.owns (.domain d) then s.reply q 0x0302 .refusedNotOwner []
  else s.control d (.domainDelete d) [.reply (q.waiter 0x0302) .success []]

/-- DOMAIN_DELETE (R96, R98, R471). -/
def execDomainDelete (q : VReq) (s : State) : Host.Outcome State Fault Refusal :=
  ok (s.virkan 0x0302 q (·.domainDelete q))

/-- DOMAIN_LIST's payload: domain (2), owner side (1), reserved (1), namespaces (4) (log 6). -/
def State.domainList (s : State) : Bytes :=
  s.vo.domains.flatMap fun d =>
    le 2 d.id ++ le 1 (sideN ((s.ownerOf (.domain d.id)).getD d.side)) ++ [0#8] ++
      le 4 (s.vo.nss.filter (·.domain == d.id)).length

/-- DOMAIN_LIST (R98). -/
def execDomainList (q : VReq) (s : State) : Host.Outcome State Fault Refusal :=
  ok (s.virkan 0x0303 q fun s => s.reply q 0x0303 .success s.domainList)

/-- NS_CREATE's own part (R98, R401). -/
def State.nsCreate (s : State) (q : VReq) : State :=
  let d := q.num 1 0
  let nsid := q.num 2 0
  let size := q.num 3 0
  if nsid > 16384 || size % 16384 != 0 then s.reply q 0x0304 .paramInvalid []
  else if (s.ns? nsid).isSome then s.reply q 0x0304 .exists []
  else if !s.owns (.domain d) then s.reply q 0x0304 .refusedNotOwner []
  else if s.vo.nss.length ≥ 16384 then s.reply q 0x0304 .noCapacity []
  else s.control d (.nsCreate d nsid size (if q.num 4 0 == 1 then .zero else .hint))
    [.reply (q.waiter 0x0304) .success []]

/-- NS_CREATE (R98, R401). -/
def execNsCreate (q : VReq) (s : State) : Host.Outcome State Fault Refusal := ok (s.virkan 0x0304 q (·.nsCreate q))

/-- A Virkan request for a namespace this head owns: absent ends NOT_FOUND, another's REFUSED_NOT_OWNER. -/
def State.withNs (s : State) (q : VReq) (op nsid : Nat) (f : Namespace → State) : State :=
  match s.ns? nsid with
  | none => s.reply q op .notFound []
  | some n => if s.owns (.domain n.domain) then f n else s.reply q op .refusedNotOwner []

/-- NS_DELETE: the namespace goes together with its snapshots (R421). -/
def execNsDelete (q : VReq) (s : State) : Host.Outcome State Fault Refusal :=
  ok (s.virkan 0x0305 q fun s => s.withNs q 0x0305 (q.num 1 0) fun n =>
    s.control n.domain (.nsDelete n.nsid) [.reply (q.waiter 0x0305) .success []])

/-- NS_RESIZE: the size is a multiple of 16 KiB and not below the current one (R98, R421). -/
def execNsResize (q : VReq) (s : State) : Host.Outcome State Fault Refusal :=
  ok (s.virkan 0x0306 q fun s => s.withNs q 0x0306 (q.num 1 0) fun n =>
    if q.num 2 0 % 16384 != 0 || q.num 2 0 < n.size then s.reply q 0x0306 .paramInvalid []
    else s.control n.domain (.nsResize n.nsid (q.num 2 0)) [.reply (q.waiter 0x0306) .success []])

/-- NS_LIST's payload: NSID (4), size (8), discard mode (1), reserved (3), snapshots (4) (log 6). -/
def State.nsList (s : State) (d : Option Nat) : Bytes :=
  (s.vo.nss.filter fun n => (d.map (· == n.domain)).getD true).flatMap fun n =>
    le 4 n.nsid ++ le 8 n.size ++ le 1 (if n.discard == .zero then 1 else 0) ++ zeros 3 ++
      le 4 (s.vo.snaps.filter (·.nsid == n.nsid)).length

/-- NS_LIST (R98). -/
def execNsList (q : VReq) (s : State) : Host.Outcome State Fault Refusal :=
  ok (s.virkan 0x0307 q fun s => s.reply q 0x0307 .success (s.nsList ((q.param 1).map rdLe)))

/-- The next snapshot ID of a namespace: its next generation number past those waiting (DESIGN CHOICE, log 9). -/
def State.nextSnap (s : State) (n : Namespace) : Nat :=
  n.nextGen + (s.rd.snapWait.filter (·.1 == n.nsid)).length

/-- SNAP_CREATE's own part (R278, R419): the ACCEPT_CONTROL record fixes the instant; SNAP_FREEZE and the reply
follow when the earlier writes' map items are committed. -/
def State.snapCreate (s : State) (q : VReq) : State :=
  s.withNs q 0x0308 (q.num 1 0) fun n =>
    let waiting := (s.rd.snapWait.filter (·.1 == n.nsid)).length
    if (s.vo.snaps.filter (·.nsid == n.nsid)).length + waiting ≥ 1024 ||
        s.vo.snaps.length + s.rd.snapWait.length ≥ 65536 then s.reply q 0x0308 .noCapacity []
    else
      let id := s.nextSnap n
      let label := fit 16 ((q.param 2).getD [])
      let s := s.rd' fun r => { r with
        snapWait := r.snapWait ++ [(n.nsid, id, label, s.wx.nextOrd, q.waiter 0x0308)] }
      (s.reply q 0x0308 .pending []).control n.domain (.snapCreate n.nsid id label) []

/-- SNAP_CREATE (R278, R419). -/
def execSnapCreate (q : VReq) (s : State) : Host.Outcome State Fault Refusal := ok (s.virkan 0x0308 q (·.snapCreate q))

/-- SNAP_DELETE (R98, R279): TREE_DROP. -/
def execSnapDelete (q : VReq) (s : State) : Host.Outcome State Fault Refusal :=
  ok (s.virkan 0x0309 q fun s => s.withNs q 0x0309 (q.num 1 0) fun n =>
    if (s.snap? n.nsid (q.num 2 0)).isNone then s.reply q 0x0309 .notFound []
    else s.mapChange n.domain [.treeDrop n.nsid (q.num 2 0)] [.reply (q.waiter 0x0309) .success []])

/-- SNAP_CLONE (R280, R420). -/
def execSnapClone (q : VReq) (s : State) : Host.Outcome State Fault Refusal :=
  ok (s.virkan 0x030A q fun s => s.withNs q 0x030A (q.num 1 0) fun n =>
    if (s.snap? n.nsid (q.num 2 0)).isNone then s.reply q 0x030A .notFound []
    else if q.num 3 0 > 16384 then s.reply q 0x030A .paramInvalid []
    else if (s.ns? (q.num 3 0)).isSome then s.reply q 0x030A .exists []
    else if s.vo.nss.length ≥ 16384 then s.reply q 0x030A .noCapacity []
    else s.mapChange n.domain [.nsClone n.nsid (q.num 2 0) (q.num 3 0)] [.reply (q.waiter 0x030A) .success []])

/-- A drop whose PAGE_DROP is written and not yet accepted. -/
def State.dropWritten (s : State) (d key : Nat) : Bool :=
  s.wx.own.any fun r => !r.accepted && match r.body with
    | .mapChange items => items.any fun i => match i with
      | .pageDrop d' k' => d' == d && k' == key
      | _ => false
    | _ => false

/-- One record of the background drop of trees: up to 4,096 PAGE_DROP items of one domain (R279). -/
def execTreeDropCascade (s : State) : Host.Outcome State Fault Refusal :=
  let todo := s.vo.drops.filter fun e => !s.dropWritten e.1 e.2.1 && s.owns (.domain e.1)
  ok (match todo with
    | [] => s
    | e :: _ => s.mapChange e.1 (((todo.filter (·.1 == e.1)).take 4096).map fun x => .pageDrop x.1 x.2.1) [])

end Sys2Proof.Machine
end

