-- ==== Sys2Proof/Machine/KeyOps.lean ====
section
/-! DEFINITION. The key vault (R686 to R698) and key blobs (R699 to R703): check values, the vault digest, wrapped
records, escrow blobs, the keys of the fused seed, and the measurement log as bytes (R639, R641). -/

namespace Sys2Proof.Machine

/-! ## Contents of the vault -/

/-- The content of a domain key record (R689). -/
def DomainKeys.bytes (r : DomainKeys) : Bytes :=
  fit 32 r.salt ++ le 1 r.data.length ++ le 1 r.locs.length ++ le 2 r.newestData ++ le 2 r.newestLoc ++ zeros 26 ++
    (r.data.flatMap fun g => le 2 g.1 ++ zeros 14 ++ fit 64 g.2) ++ r.locs.flatMap fun g => le 2 g.1 ++ zeros 14 ++ fit 32 g.2

/-- The record that a content of R689 spells. -/
def domainKeys (d now : Nat) (b : Bytes) : DomainKeys :=
  let n := fld b 32 1
  let m := fld b 33 1
  { domain := d, salt := b.take 32
    data := (List.range n).map fun i => (fld b (64 + 80 * i) 2, slice b (80 + 80 * i) 64)
    locs := (List.range m).map fun i => (fld b (64 + 80 * n + 48 * i) 2, slice b (80 + 80 * n + 48 * i) 32)
    newestData := fld b 34 2, newestLoc := fld b 36 2, onChip := true, lastUse := now, dramBad := false, durableBad := false }

/-- A vault key or record: class, index, generation and bytes (R686, R695). -/
structure VaultEntry where
  /-- Class (R686). -/
  cls : Nat
  /-- Domain ID or 0. -/
  idx : Nat
  /-- Generation; a domain record's is that of its newest data key (R695). -/
  gen : Nat
  /-- Key bytes or record content. -/
  key : Bytes
  deriving DecidableEq, Repr

/-- The generations of a class key in ascending order (R688, R695). -/
def ClassKey.entries (k : ClassKey) (cls : Nat) : List VaultEntry :=
  ((k.prev.toList ++ k.cur.toList ++ k.pend.toList).sortBy fun a b => a.1 ≤ b.1).map fun g => ⟨cls, 0, g.1, g.2⟩

/-- The keys of classes 0 to 5 (R686). Keys kept in one generation have generation 0 (DESIGN CHOICE, log 32). -/
def State.classEntries (s : State) : List VaultEntry :=
  s.ks.pair.entries 0 ++ s.ks.colony.entries 1 ++ s.ks.mgmt.entries 2 ++ (s.ks.metaK.toList.map fun k => ⟨3, 0, 0, k⟩) ++
    (s.ks.root.toList.map fun k => ⟨4, 0, 0, k⟩) ++ s.ks.wax.toList.map fun k => ⟨5, 0, 0, k⟩

/-- The domain key records, in ascending order of domain. -/
def State.recordEntries (s : State) : List VaultEntry :=
  (s.ks.recs.sortBy fun a b => a.domain ≤ b.domain).map fun r => ⟨6, r.domain, r.newestData, r.bytes⟩

/-- The check value of a key (R695). -/
def checkValue (key : Bytes) : Bytes := (sha256 (ascii "TA7214 key check" ++ key)).take 16

/-- The vault digest (R695). -/
def State.vaultDigest (s : State) : Bytes :=
  sha256 (((s.classEntries ++ s.recordEntries).filter (·.cls != 5)).flatMap fun e =>
    le 1 e.cls ++ le 2 e.idx ++ le 2 e.gen ++ checkValue e.key)

/-- The classes held: bit c for class c, 0 to 5 (R704). -/
def State.classesHeld (s : State) : Nat :=
  let h := fun (k : ClassKey) => k.cur.isSome || k.pend.isSome || k.prev.isSome
  b2n (h s.ks.pair) + 2 * b2n (h s.ks.colony) + 4 * b2n (h s.ks.mgmt) + 8 * b2n s.ks.metaK.isSome + 16 * b2n s.ks.root.isSome +
    32 * b2n s.ks.wax.isSome

/-- The vault state of KEY_STATUS: 0 EMPTY, 1 PARTIAL, 2 READY, 3 ERASED (R704). A vault that holds a wax key alone is
EMPTY (DEDUCED, log 32). -/
def State.vaultState (s : State) : Nat :=
  let h := s.classesHeld
  if s.ks.sealState = 2 then 3
  else if h / 4 = 15 && h % 2 = 1 then 2
  else if h % 32 = 0 then 0
  else 1

/-! ## The keys of the seed (R696) -/

/-- A P-384 private key from the seed. -/
def State.seedScalar (s : State) (label : String) : Nat := rdBe (kdfH s.bt.seed label [] 56) % (p384N - 1) + 1

/-- The identity key. -/
def State.identityKey (s : State) : Nat := s.ks.identity.getD (s.seedScalar "TA7214-identity")

/-- The exchange key. -/
def State.exchangeKey (s : State) : Nat := s.ks.exchange.getD (s.seedScalar "TA7214-exchange")

/-- Sign bytes with the identity key. The per-message secret is a free value (log 3). -/
def State.identitySign (s : State) (b : Bytes) : Bytes := p384Sign s.identityKey (sha384 b) (rdLe (s.drawn 48))

/-! ## Wrapped records (R691) -/

/-- A wrapped record under a wrapping secret. -/
def wrapRecord (w : Bytes) (kind ctr : Nat) (e : VaultEntry) : Bytes :=
  let n := max 16 (roundUp e.key.length 16)
  let b := le 4 0x50415257 ++ [1#8] ++ le 1 kind ++ le 1 e.cls ++ [0#8] ++ le 2 e.idx ++ le 2 e.gen ++ le 4 n ++ le 8 ctr ++ zeros 8 ++
    xts true (kdfC w "TA7214-wrap-xts" [] 64) ctr (fit n e.key)
  b ++ aesCmac (kdfC w "TA7214-wrap-mac" [] 32) b

/-- The length of the wrapped record that bytes begin with, if its header is one. -/
def wrapLength (b : Bytes) : Option Nat :=
  let n := fld b 12 4
  if fld b 0 4 = 0x50415257 && fld b 4 1 = 1 && n % 16 = 0 && 16 ≤ n && n ≤ 4096 && 48 + n ≤ b.length then some (48 + n) else none

/-- Open a wrapped record: nothing is decrypted unless its tag passes. -/
def unwrapRecord (w : Bytes) (b : Bytes) : Option VaultEntry :=
  let n := fld b 12 4
  if aesCmac (kdfC w "TA7214-wrap-mac" [] 32) (b.take (32 + n)) == slice b (32 + n) 16 then
    some ⟨fld b 6 1, fld b 8 2, fld b 10 2, xts false (kdfC w "TA7214-wrap-xts" [] 64) (fld b 16 8) (slice b 32 n)⟩
  else none

/-! ## Key blobs (R699, R700) -/

/-- Cut the body of a blob into its wrapped records. -/
def blobRecords : Nat → Bytes → Option (List Bytes)
  | 0, b => if b.isEmpty then some [] else none
  | n + 1, b => match wrapLength b with
    | some k => (blobRecords n (b.drop k)).map (b.take k :: ·)
    | none => none

/-- A blob whose layout is right: its records, still wrapped (R699). -/
def parseBlob (b : Bytes) : Option (List Bytes) :=
  let n := fld b 28 4
  if fld b 0 4 = 0x52435345 && fld b 4 1 = 1 && fld b 5 1 = 1 && b.length = 240 + n then
    blobRecords (fld b 24 4) (slice b 144 n)
  else none

/-- The escrow secret of a pair of keys (R700). -/
def escrowSecret (d : Nat) (other ephemeral recipient : Bytes) : Bytes :=
  kdfH (p384Ecdh d other) "TA7214-escrow" (ephemeral ++ recipient) 32

/-- Open an import blob: addressed to this head, of classes `ok` admits, signed by the owner, every tag passing, in the
order of R701. A blob whose layout is not that of R699 is refused with PARAM_INVALID (DESIGN CHOICE, log 33). -/
def State.openBlob (s : State) (b : Bytes) (admits : List Nat → Bool) : Except VStatus (List VaultEntry) :=
  match parseBlob b with
  | none => .error .paramInvalid
  | some recs =>
    if fld b 8 8 != s.bt.serial || fld b 6 2 != s.headId then .error .paramInvalid
    else if !admits (recs.map fun r => fld r 6 1) then .error .paramInvalid
    else match s.ks.owner with
      | none => .error .signatureInvalid
      | some key =>
        if !p384Verify key (sha384 (b.take (b.length - 96))) (b.drop (b.length - 96)) then .error .signatureInvalid
        else
          let x := s.exchangeKey
          let w := escrowSecret x (slice b 32 97) (slice b 32 97) (p384Public x)
          match recs.mapM (unwrapRecord w) with
          | some es => if recs.all fun r => fld r 5 1 = 3 then .ok es else .error .signatureInvalid
          | none => .error .signatureInvalid

/-- An export blob to an escrow key (R702). The ephemeral key is drawn (log 3); the wrap counters are those of the escrow
secret (R692). -/
def State.exportBlob (s : State) (escrow : Bytes) : State × Bytes :=
  let d := rdLe (s.drawn 56) % (p384N - 1) + 1
  let eph := p384Public d
  let w := escrowSecret d escrow eph escrow
  let es := s.classEntries ++ s.recordEntries
  let s := s.drawKeys
  let (s, body) := es.foldl (fun (x : State × Bytes) e =>
    (x.1.useWrap 3, x.2 ++ wrapRecord w 3 (x.1.wrapCtr 3) e)) (s, [])
  let b := le 4 0x52435345 ++ [1#8, 0#8] ++ le 2 s.headId ++ le 8 s.bt.serial ++ le 8 s.stamp ++ le 4 es.length ++
    le 4 body.length ++ eph ++ zeros 15 ++ body
  (s.afterDraw, b ++ s.identitySign b)

/-! ## ATTEST (R639, R641) -/

/-- A measurement log entry. -/
def MeasEntry.bytes (e : MeasEntry) : Bytes := le 1 e.tally ++ le 1 e.step ++ le 2 e.source ++ le 4 e.index ++ fit 48 e.m

/-- The payload of an ATTEST reply before its signature. -/
def State.attestBody (s : State) (nonce : Bytes) : Bytes :=
  le 4 0x54535441 ++ [1#8] ++
    le 1 (b2n s.md.recovery + 2 * b2n s.md.safe + 4 * b2n (s.ks.sealState == 2) + 8 * b2n s.ks.owner.isSome) ++
    le 2 s.headId ++ le 8 s.bt.startNum ++ le 8 s.ck.rtc ++ fit 32 nonce ++ le 4 s.up.version ++ le 1 s.bt.executing ++ [0#8] ++
    le 2 s.bt.log.length ++ (s.bt.tallies.flatMap (fit 48 ·)) ++ le 8 s.bt.serial ++ le 4 s.bt.fusedMin ++
    le 2 s.bt.cert.length ++ zeros 2 ++ (s.bt.log.flatMap (·.bytes)) ++ fit (roundUp s.bt.cert.length 4) s.bt.cert

/-- The payload of an ATTEST reply, signed by the identity key (R641 to R643). -/
def State.attest (s : State) (nonce : Bytes) : State × Bytes :=
  let b := s.attestBody nonce
  (s.afterDraw, b ++ s.identitySign b)

end Sys2Proof.Machine
end

