-- ==== Sys2Proof/Machine/FenceOps.lean ====
section
/-! DEFINITION. The fencing round of a takeover or of Solo by frame (R65, R69 to R72, R118, R344, R560): the arbiter
hive, its raises, and what wins or loses it. -/

namespace Sys2Proof.Machine

/-- Brood hives in service, ascending. -/
def State.broodIds (s : State) : List Nat :=
  ((s.hv.hives.filter fun h => h.brood && h.inService).map (·.id)).sortBy (· ≤ ·)

/-- A hive's shelf reports it DARK, POWERING, POWERING_DOWN or FAULT; one that has not answered for 100 ms counts as powered
(R71, R355). -/
def State.shelfDark (s : State) (h : Nat) : Bool :=
  (s.hive? h).any fun x => s.ck.now < x.lastReply + 100 * milli &&
    x.block.any fun b => b.power == 0 || b.power == 1 || b.power == 3 || b.power == 5

/-- Combs in service of a hive whose bridge can store a fence epoch (R70, R343). -/
def State.fenceCombs (s : State) (h : Nat) : List Nat :=
  (s.workingLinks h).filter fun l => (s.link? l).any fun x => !x.noFence

/-- The epoch of a comb when the peer was declared failed, or when Solo was entered: the raise of the round starts from it, so that a
raise of the peer in the same round is found (R70, R72). -/
def State.seenEpoch (s : State) (l : Link) : Nat := ((s.pr.fenceEpochs.find? (·.1 == l.link)).map (·.2)).getD l.epoch

/-- A comb that this head itself has raised since the declaration. -/
def State.raisedMine (s : State) (l : Link) : Bool := s.isMine l.owner && s.seenEpoch l < l.epoch

/-- Send a raise to a comb (R70, R341): of the arbiter hive from the epoch seen at the declaration, so that a raise of the peer in this
round is found (R72); of another hive, once the arbiter is won, from the epoch the comb has now. -/
def State.raiseComb (s : State) (link : Nat) : State :=
  match s.link? link with
  | some l =>
    if l.state == .up then
      let e := if s.pr.fence = 2 || l.hive == s.pr.arbiter then s.seenEpoch l else l.epoch
      (s.sendTask link .fenceRaise 0xFF 0 0 (BitVec.ofNat 32 e) (.fence 1) [] []).pr' fun p => { p with
        fenceWait := p.fenceWait.filter (· != link) ++ [link] }
    else s
  | none => s

/-- Send the raises of a hive to the combs that this head has not raised yet; a comb whose link is not up does not answer. -/
def State.raiseHive (s : State) (h : Nat) : State :=
  ((s.fenceCombs h).filter fun l => !s.pr.won.contains l && !s.pr.fenceWait.contains l).foldl State.raiseComb s

/-- Begin a round: the first brood hive is the arbiter unless its shelf reports it without power; then the other one is
(R71). With none to serve, the round is repeated after 100 ms. -/
def State.beginRound (s : State) : State :=
  let ids := s.broodIds
  let first := ids.headD 0
  let dark := s.shelfDark first
  let arb := if dark then ids.find? fun h => h != first && !s.shelfDark h else ids.head?
  let s := s.pr' fun p => { p with
    fence := 2, arbPolls := some (b2n dark), won := (s.cl.links.filter s.raisedMine).map (·.link), lost := [], fenceWait := []
    retryAt := none, pollWait := false }
  match arb with
  | some h => (s.pr' fun p => { p with arbiter := h }).raiseHive h
  | none => s.pr' fun p => { p with retryAt := some (s.ck.now + 100 * milli) }

/-- The round is lost: the head stops raising the fence and enters Quiesce (R72, R109). -/
def State.loseRound (s : State) : State :=
  let s := (s.vo.domains.filter (·.replaying)).foldl (fun t d =>
    (t.domain' d.id fun x => { x with replaying := false }).raiseAna d.id) s
  (s.pr' fun p => { p with fence := 0, fencedOff := true, raiseLater := [], fenceWait := [], retryAt := none, pollWait := false }).autoMode .quiesce

/-- The hives whose combs the round raises after the arbiter hive: the other brood hive and the peer's honey hives
(R69). -/
def State.otherFenceHives (s : State) : List Nat :=
  (s.hv.hives.filter fun h => h.inService && h.id != s.pr.arbiter &&
    (h.brood || s.ownerOf (.honey h.id) == some (otherSide s.pr.side))).map (·.id)

/-- The hives whose combs R69 names: the arbiter hive and the others; a hive whose shelf reports it without power has no comb that could
be raised, and its combs are raised as they come up (`raiseLater`). -/
def State.fenceHives (s : State) : List Nat := (s.pr.arbiter :: s.otherFenceHives).filter fun h => !s.shelfDark h

/-- Every comb of a hive that can be raised has been raised by this head. -/
def State.hiveRaised (s : State) (h : Nat) : Bool := (s.fenceCombs h).all s.pr.won.contains

/-- The arbiter hive is won: E607, and the raises of every other comb of R69 (R70, R560 step 3); those of a hive without power follow as
they come up. -/
def State.winRound (s : State) : State :=
  let dark := (s.pr.arbiter :: s.otherFenceHives).filter s.shelfDark
  let s := (s.pr' fun p => { p with fence := 3, lost := [], raiseLater := dark, phaseAt := p.phaseAt ++ [s.ck.now] }).ev0 0x607 .notice
    (le 1 s.pr.arbiter)
  s.fenceHives.foldl State.raiseHive s

/-- Judge the raises of the arbiter hive: the round is lost at once when the peer raised any comb of it (R72). When every comb has
answered, or passed its deadline, the poll after the round is awaited (R71). -/
def State.judgeRound (s : State) : State :=
  if s.pr.fence != 2 || s.pr.retryAt.isSome || s.pr.pollWait then s
  else
    let combs := s.fenceCombs s.pr.arbiter
    if combs.any s.pr.lost.contains then s.loseRound
    else if combs.any s.pr.fenceWait.contains then s
    else s.pr' fun p => { p with pollWait := true }

/-- The shelf of the first brood hive has answered the poll after a round, or has not answered at all: when it answered otherwise before,
the round is repeated; it is won with more than half of the arbiter's combs in service, and lost else (R70 to R72). -/
def State.endRound (s : State) : State :=
  if s.pr.fence != 2 || !s.pr.pollWait then s
  else
    let s := s.pr' fun p => { p with pollWait := false }
    let combs := s.fenceCombs s.pr.arbiter
    if s.pr.arbPolls != some (b2n (s.shelfDark (s.broodIds.headD 0))) then s.beginRound.judgeRound
    else if (combs.filter s.pr.won.contains).length * 2 > combs.length then s.winRound
    else s.loseRound

/-- The poll of a shelf ends a round that waits for it. -/
def State.polled (s : State) (h : Nat) : State := if s.broodIds.head? == some h then s.endRound else s

/-- A comb has answered the raise of a round, or not answered it in time: won, lost to the peer, or neither. After the arbiter is won, a
comb of it that the peer raised still loses the round (R72), and a hive wholly raised gives E607 (R344). -/
def State.fenceAnswer (s : State) (link : Nat) (won lost : Bool) : State :=
  if !s.pr.fenceWait.contains link then s
  else
    let s := s.pr' fun p => { p with
      fenceWait := p.fenceWait.filter (· != link)
      won := if won then p.won ++ [link] else p.won
      lost := if lost then p.lost ++ [link] else p.lost }
    if s.pr.fence = 3 then
      if lost && (s.fenceCombs s.pr.arbiter).contains link then s.loseRound
      else match s.otherFenceHives.find? fun h => (s.fenceCombs h).contains link with
        | some h => if won && s.hiveRaised h then s.ev0 0x607 .notice (le 1 h) else s
        | none => s
    else s.judgeRound

/-- The shelf of a hive has not answered for 100 ms (R355). -/
def State.shelfMute (s : State) (h : Nat) : Bool := (s.hive? h).any fun x => x.lastReply + 100 * milli ≤ s.ck.now

/-- In each tick a comb that did not answer, or whose link was down, is raised again until every comb of R69 is raised, and a round whose
poll a silent shelf leaves unanswered ends: such a shelf counts as powered (R71). -/
def State.retryRaises (s : State) : State :=
  if s.pr.fence = 3 then
    let s := s.pr' fun p => { p with won := p.won ++ ((s.cl.links.filter s.raisedMine).map (·.link)).filter fun l => !p.won.contains l }
    s.fenceHives.foldl State.raiseHive s
  else if s.pr.pollWait && s.shelfMute (s.broodIds.headD 0) then s.endRound
  else s

end Sys2Proof.Machine
end

