-- ==== Sys2Proof/Machine/LinkEndOps.lean ====
section
/-! DEFINITION. The head's end of a comb link: what it accepts (R312 to R314), its faults (R319), its bring-up (R316,
R344, R345), and what the end of a task means (R220, R305, R328, R330, R334). -/

namespace Sys2Proof.Machine

/-! ## Receiving -/

/-- An acknowledgement of what the head expects next (R313). -/
def State.headAck (s : State) (link : Nat) : State :=
  match s.link? link with
  | some l => s.lane link false s.pr.side { bareFrame 0x11 with ackValid := true, ack := l.rxSeq, owner := s.headId }
  | none => s

/-- The head accepts the next sequenced frame and acknowledges it (R312, R313). -/
def State.headTook (s : State) (link : Nat) : State :=
  ((s.link' link fun l => { l with rxSeq := l.rxSeq + 1, nakSent := false }).stat 0x0601 link 1 1).headAck link

/-- The link goes down: E603, and a full bring-up is tried every second (R319). Tasks without a DONE are kept for R345;
the bridge discards the frames it has not sent. -/
def State.linkDown (s : State) (link : Nat) : State :=
  let s := s.link' link fun l => { l with
    state := .down, since := s.ck.now, downSince := some (l.downSince.getD s.ck.now), unacked := [], waiting := [], crcTimes := []
    retrainTimes := [] }
  let s := s.bridge' link fun b => b.port' s.pr.side fun p => { p.emptied with up := false }
  (s.bump 0x0607 link 1 1).ev0 0x603 .error (le 1 link)

/-- Whether a bring-up runs at half rate: the setting forces it, or step 1 has failed 3 times at full rate, or step 10 of this start runs
by its alternative, which a failed start leads to (R319, R320, R612, R618). -/
def State.halfRate (s : State) (l : Link) : Bool :=
  s.setting (0x04020000 + l.link) == 1 || l.stepFails ≥ 3 || (s.bt.step != 0 && s.bt.ledger.any fun r =>
    r.kind == 0x01 && r.start == s.bt.startNum && r.step == 10 && (r.attempt == 1 || r.attempt == 2))

/-- The HELLO of an end (R316). -/
def helloFrame (role port rate kind : Nat) (next : BitVec 12) (head : Nat) : LFrame :=
  { bareFrame 0x10 with
    owner := head, body := le 1 role ++ le 1 port ++ le 1 rate ++ le 1 kind ++ le 2 next.toNat ++ zeros 10 }

/-- The head's end begins a bring-up (kind 0) or a retrain (kind 1): its receiver adapts, and it sends its HELLO (R316, R318). -/
def State.headHello (s : State) (link kind : Nat) : State :=
  match s.link? link with
  | none => s
  | some l => (s.send (.adapt link)).lane link false s.pr.side (if kind = 1 then helloFrame 0 (sideN s.pr.side) (b2n l.half) 1 l.rxSeq s.headId
      else helloFrame 0 (sideN s.pr.side) (b2n (s.halfRate l)) 0 0 s.headId)

/-- The HELLO of a bridge's port (R309, R316, R318). -/
def State.bridgeHello (s : State) (link : Nat) (port : Side) (rate kind : Nat) : State :=
  match s.bridge? link with
  | none => s
  | some b => s.lane link true port { helloFrame 1 (sideN port) rate kind (if kind = 1 then (b.port port).rxSeq else 0) b.owner with
      epoch := BitVec.ofNat 32 b.epoch }

/-- A retrain begins (R318, R319): after three within 60 s the link runs at half rate, E602; after three more it goes
down. -/
def State.startRetrain (s : State) (link : Nat) : State :=
  match s.link? link with
  | none => s
  | some l =>
    if l.state != .up then s
    else
      let times := l.retrainTimes.filter (fun t => s.ck.now < t + 60 * second) ++ [s.ck.now]
      let s := (s.link' link fun l => { l with
        state := .retraining, since := s.ck.now, resends := 0, crcTimes := [], retrainTimes := times }).bump 0x0607 link 0 1
      if times.length < 3 then s.headHello link 1
      else if l.half then s.linkDown link
      else ((s.link' link fun l => { l with half := true, retrainTimes := [] }).ev0 0x602 .warn (le 1 link)).headHello link 1

/-- A CRC error at the head: counted; more than 64 within 1 s retrain the link (R312, R319). -/
def State.crcError (s : State) (link : Nat) : State :=
  let s := (s.link' link fun l => { l with
    crcTimes := l.crcTimes.filter (fun t => s.ck.now < t + second) ++ [s.ck.now] }).bump 0x0606 link 0 1
  if (s.link? link).any fun l => l.crcTimes.length > 64 then s.startRetrain link else s

/-- One NAK that names the expected sequence, on a link whose frames are in sequence (R312). -/
def State.headNak (s : State) (link : Nat) : State :=
  match s.link? link with
  | none => s
  | some l =>
    if l.nakSent || (l.state != .up && l.state != .registers) then s
    else (s.link' link fun l => { l with nakSent := true }).lane link false s.pr.side
      { bareFrame 0x12 with ackValid := true, ack := l.rxSeq, owner := s.headId }

/-- A frame arrives at the head: one that is not sound is discarded, counted and asked for again (R308, R310, R312, R319); the Ack field of
a sound one with ACK_VALID frees frames, and what waits for the window goes out after what the frame itself asks for (R313, R314). -/
def State.headHears (s : State) (link : Nat) (f : LFrame) (act : State → State) : State :=
  if (s.link? link).isNone then s
  else if !f.sound then (s.crcError link).headNak link
  else if f.ackValid then (act (s.link' link (·.acked f.ack))).headPump link
  else act s

/-- A sequenced frame arrives at the head (R310, R312): what it does when it is accepted. -/
def State.headFrame (s : State) (link : Nat) (f : LFrame) (act : State → State) : State :=
  s.headHears link f fun s => match s.link? link with
    | none => s
    | some l =>
      if l.state != .up && l.state != .registers then s
      else if f.seq == l.rxSeq then
        act ((s.headTook link).link' link fun l => { l with epoch := f.epoch.toNat, owner := f.owner })
      else if 1 ≤ seqDist l.rxSeq f.seq && seqDist l.rxSeq f.seq ≤ 2047 then s.headAck link
      else s.headNak link

/-! ## Tasks of the head that have ended -/

/-- A member's program has failed, once or for the second time (R221). -/
def State.progFailed (s : State) (ord m : Nat) : State :=
  s.open' ord fun t =>
    if t.failed.contains m then { t with prog := t.prog.set m .failedTwice }
    else { t with prog := t.prog.set m .failedOnce, failed := t.failed ++ [m] }

/-- A member's program has passed; of a tall unit, one of its two parts (R202, R219). -/
def State.progPassed (s : State) (ord m page : Nat) : State :=
  match s.open? ord with
  | none => s
  | some t => match t.members[m]? with
    | none => s
    | some e =>
      if t.region == .tall && page == e.page then
        (s.open' ord fun t => { t with prog := t.prog.set m .half }).sendProgram t m 1
      else s.open' ord fun t => { t with prog := t.prog.set m .passed }

/-- This head has been fenced out of a hive by the peer: it issues no further task there and holds new work (R220). -/
def State.fencedFrom (s : State) (h : Nat) : State :=
  s.sp' fun p => { p with fencedOut := if p.fencedOut.contains h then p.fencedOut else p.fencedOut ++ [h] }

/-- The erases that a committed FREE_DIRTY asks for, sent where the die is free (R255, R256). -/
def State.issueErases (s : State) : State :=
  s.me.sets.foldl (fun t b =>
    if b.erasing && !b.erased && b.state == .freeDirty then
      match t.link? b.link with
      | some l =>
        if l.dieFree b.die && t.mayProgram l.hive && l.epoch == t.hiveEpoch l.hive then
          t.sendTask b.link .erase b.die b.block 0 (if t.eraseMode b then 0x1F else 0xF) (.blockErase b.block) [] []
        else t
      | none => t
    else t) s

/-- An erase has failed: its block set is RETIRED at once (R305). -/
def State.eraseFailed (s : State) (link die block : Nat) : State :=
  (s.set' link die block fun b => { b with erasing := false }).retireSet link die block

/-- An erase of a block set has passed (R256). -/
def State.erasePassed (s : State) (link die block : Nat) : State :=
  s.set' link die block fun b => { b with erased := true }

/-- Bring a comb's epoch up to its hive's: adopted by one never fenced, raised step by step else (R344). A comb of a hive that had no
power in the round of R69 is raised once as well. -/
def State.levelEpoch (s : State) (link : Nat) : State :=
  match s.link? link with
  | none => s
  | some l =>
    let e := s.hiveEpoch l.hive
    if l.noFence then s
    else if l.epoch < e && l.epoch == 0 && l.owner == 0xFFFF then
      s.sendTask link .fenceAdopt 0xFF 0 0 (BitVec.ofNat 32 e) .adopt [] []
    else if l.epoch < e || (s.pr.raiseLater.contains l.hive && !s.raisedMine l) then
      s.sendTask link .fenceRaise 0xFF 0 0 (BitVec.ofNat 32 l.epoch) (.fence 0) [] []
    else s

/-- A raise or an adoption has been answered: E608 for a raise lost, the next step of R344, and the round of R70. -/
def State.fenceDone (s : State) (link : Nat) (use : TaskUse) (st : Option StatusType) : State :=
  let byPeer := (s.link? link).any fun l => !s.isMine l.owner && l.owner != 0xFFFF
  let lost := st == some .fenceLost
  match use with
  | .fence 0 => (s.cond lost fun t => t.ev0 0x608 .warn (le 1 link)).levelEpoch link
  | .fence _ => (s.cond lost fun t => t.ev0 0x608 .warn (le 1 link)).fenceAnswer link (st == some .pass) (lost && byPeer)
  | _ => s.levelEpoch link

/-- The answer of a diagnostic read: status word, then page data if any; FENCED as its own refusal (R98). -/
def State.diagDone (s : State) (t : DieTask) (w : BitVec 32) (wt : Waiter) : State :=
  if statusType w == some .fenced then s.replyTo wt .fenced []
  else s.replyTo wt .success (le 4 w.toNat ++ t.data.flatten)

/-- The stripe that a page of a die belongs to. -/
def State.stripeAt (s : State) (link die block page : Nat) : Option Nat :=
  (s.sp.table.find? fun t => t.members.any fun m =>
    m.link == link && m.die == die && m.block == block && (unitPages t.region m.page).any (·.2 == page)).map (·.ord)

/-- What the head does when a read or another task of a stripe unit or block set ends uncorrected or marginal (R305,
R334). -/
def State.readFinding (s : State) (link : Nat) (t : DieTask) (st : Option StatusType) : State :=
  let ord := match t.use with
    | .unitRead o _ => some o
    | .readBack o _ => some o
    | _ => s.stripeAt link t.hdr.die t.hdr.block t.hdr.page
  match st, ord with
  | some .passMarginal, some o => s.scheduleRewrite o
  | some .uncorrectable, _ => s.grownFault link t.hdr.die t.hdr.block
  | _, _ => s

/-- A task is issued again no sooner than a time from now (R328). -/
def State.holdTask (s : State) (link tag wait : Nat) : State :=
  let till := some (s.ck.now + wait)
  s.link' link fun l => { l with tasks := updFirst (·.hdr.tag == tag) (fun k => { k with reissueAt := till }) l.tasks }

/-- A task was refused as busy: the time that remains is kept (R328). -/
def State.refusedBusy (s : State) (link tag wait : Nat) : State :=
  let till := s.ck.now + wait
  (s.holdTask link tag wait).link' link fun l => { l with
    tasks := updFirst (·.hdr.tag == tag) (fun k => { k with notBefore := till }) l.tasks }

/-- A fence task is sent under no lease (R69, R340). -/
def TaskOp.isFence (o : TaskOp) : Bool := o == .fenceRaise || o == .fenceAdopt

/-- A task is sent again; one that needs the lease waits for the next grant once it has ended (R64, R541). -/
def State.sendLeased (s : State) (link : Nat) (k : DieTask) : State :=
  if k.hdr.op.isFence || s.tasksAllowed then s.sendTask link k.hdr.op k.hdr.die k.hdr.block k.hdr.page k.hdr.arg k.use [] []
  else s.link' link fun l => { l with tasks := l.tasks ++ [{ k with reissueAt := some (s.ck.now + milli) }] }

/-- A read found an erase on its die: the head suspends it, unless a suspension is under way (R338) or its lease has ended (R541). -/
def State.suspendFor (s : State) (link die : Nat) : State :=
  if !s.tasksAllowed || (s.link? link).any fun l => l.tasks.any fun k => k.hdr.die == die && k.use == .suspend then s
  else s.sendTask link .eraseSuspend die 0 0 0 .suspend [] []

/-- A read of this head waits for a die: refused as busy, or not sent yet. -/
def Link.readWaits (l : Link) (die : Nat) : Bool :=
  l.tasks.any fun k => k.hdr.die == die && (k.hdr.op == .read || k.hdr.op == .seqRead) && k.reissueAt.isSome

/-- The erase of a die is suspended: the first read that waits is sent (R336, R338); one that was refused as busy only once the time of
its status word has passed (R328). -/
def State.sendWaiting (s : State) (link die : Nat) : State :=
  match s.link? link with
  | none => s
  | some l =>
    (l.tasks.filter fun k => k.hdr.die == die && (k.hdr.op == .read || k.hdr.op == .seqRead) && k.reissueAt.isSome &&
        decide (k.notBefore ≤ s.ck.now)).take 1
      |>.foldl (fun t k => (t.link' link (·.dropTask k.hdr.tag)).sendLeased link k) s

/-- A read has ended while the die holds a suspended erase: the next read that waits is sent, and with none the erase is
resumed (R338). -/
def State.afterRead (s : State) (link die : Nat) (w : BitVec 32) : State :=
  if !w.getLsbD 8 then s
  else if (s.link? link).any (·.readWaits die) then s.sendWaiting link die
  else if !s.tasksAllowed then s
  else s.sendTask link .eraseResume die 0 0 0 .resume [] []

/-- A task's DONE with its status, the comb's epoch and owner known (R220, R256, R305, R328, R334, R344). -/
def State.taskDone (s : State) (link : Nat) (t : DieTask) (w : BitVec 32) : State :=
  match s.link? link with
  | none => s
  | some l =>
    let st := statusType w
    let mine := s.isMine l.owner
    let gone := s.link' link (·.dropTask t.hdr.tag)
    match st with
    | some .busyRead | some .busyProgram | some .busyErase =>
      -- issued again no sooner than the time that remains (R328)
      let wait := (w.extractLsb' 22 10).toNat * 16000
      let s := (s.refusedBusy link t.hdr.tag wait).stat 0x0603 link 0 1
      s.cond (st == some .busyErase && (t.hdr.op == .read || t.hdr.op == .seqRead)) fun s => s.suspendFor link t.hdr.die
    | _ =>
      let gone := if st == some .fenced then gone.stat 0x0603 link 1 1 else gone
      match t.use with
      | .unitProgram ord m =>
        match st with
        | some .pass => gone.progPassed ord m t.hdr.page
        | some .fenced =>
          if mine then (gone.open' ord fun x => { x with prog := x.prog.set m (x.again m t.hdr.page .fenced) }).issuePrograms ord
          else gone.fencedFrom l.hive
        | some .epochAhead => (gone.open' ord fun x => { x with prog := x.prog.set m (x.again m t.hdr.page .idle) }).levelEpoch link
        | _ => gone.progFailed ord m
      | .blockErase block =>
        match st with
        | some .pass => gone.erasePassed link t.hdr.die block
        | some .fenced => if mine then gone.issueErases else gone.fencedFrom l.hive
        | some .epochAhead => gone.levelEpoch link
        | some .suspendConflict => gone
        | _ => gone.eraseFailed link t.hdr.die block
      | .fence r => gone.fenceDone link (.fence r) st
      | .adopt => gone.fenceDone link .adopt st
      | .diag wt => ((gone.readFinding link t st).diagDone t w wt).afterRead link t.hdr.die w
      | .suspend => if st == some .suspendLimit then gone else gone.sendWaiting link t.hdr.die
      | .resume => gone
      | _ => match st with
        | some .fenced => if mine then gone else gone.fencedFrom l.hive
        | _ => (gone.readFinding link t st).afterRead link t.hdr.die w

/-- A task that waits must still wait for another of its die: one executing task on a die (R328); a suspended or executing erase does not
keep a suspend or a resume back (R335, R337). -/
def Link.heldBack (l : Link) (k : DieTask) : Bool :=
  l.tasks.any fun x => x.hdr.die == k.hdr.die && x.reissueAt.isNone &&
    !(x.hdr.op == .erase && (k.hdr.op == .eraseSuspend || k.hdr.op == .eraseResume))

/-- Tasks whose time has come are issued again, in their order (R328). -/
def State.reissueBusy (s : State) (link : Nat) : State :=
  let due := ((s.link? link).map fun l => l.tasks.filter fun k => k.reissueAt.any (· ≤ s.ck.now)).getD []
  due.foldl (fun t k => match t.link? link with
    | none => t
    | some l =>
      if !l.tasks.any fun x => x.hdr.tag == k.hdr.tag && x.reissueAt.isSome then t
      else if l.heldBack k then
        -- an erase is suspended for a read that waits (R338)
        (t.holdTask link k.hdr.tag (16 * milli)).cond ((k.hdr.op == .read || k.hdr.op == .seqRead) &&
            l.tasks.any fun x => x.hdr.die == k.hdr.die && x.hdr.op == .erase) fun t => t.suspendFor link k.hdr.die
      else
      let t := t.link' link (·.dropTask k.hdr.tag)
      match k.use with
      | .unitProgram ord m => (t.open' ord fun x => { x with prog := x.prog.set m (x.again m k.hdr.page .idle) }).issuePrograms ord
      | .blockErase _ => t.issueErases
      | _ => t.sendLeased link k) s

/-- A read task that a second try is owed, a program or an erase that was never accepted: issued again (R345). -/
def State.reissueTask (s : State) (link : Nat) (k : DieTask) : State :=
  let t := s.link' link (·.dropTask k.hdr.tag)
  match k.use with
  | .unitProgram ord m => (t.open' ord fun x => { x with prog := x.prog.set m (x.again m k.hdr.page .idle) }).issuePrograms ord
  | .blockErase _ => t.issueErases
  | _ => t.sendLeased link k

/-- What a die window tells of a task without a DONE after a bring-up (R345). -/
def State.windowTells (s : State) (link : Nat) (k : DieTask) (op status : BitVec 32) : State :=
  if op.toNat / 65536 != k.hdr.tag then s.reissueTask link k
  else if statusType status == some k.hdr.op.busy then s.sendRegRead link (0x10000 + 32 * k.hdr.die) 6
  else if k.hdr.op == .read || k.hdr.op == .seqRead then s.reissueTask link k
  else s.taskDone link k status

/-! ## Bring-up (R12, R316, R317, R344, R345) -/

/-- The comb of a link that has come up takes its place: the first combs of a hive without stripes work at once, and so does one that a
SUPER_ATTACH has added; others wait for theirs (R244). -/
def State.admitComb (s : State) (link : Nat) : State :=
  match s.link? link with
  | none => s
  | some l =>
    let added := (s.hive? l.hive).any fun x => x.attach.testBit (link % 16)
    if (l.comb == .absent && s.hiveEmpty l.hive) || ((l.comb == .absent || l.comb == .retired) && added) then s.combWorks l
    else s

/-- The bridge sends its standing events again at a bring-up (R347). -/
def State.bridgeEventFrame (s : State) (link : Nat) (port : Side) (e : Nat × Nat × Nat) : State :=
  s.toHead link port { bareFrame 7 with body := le 2 e.1 ++ le 1 e.2.1 ++ [0#8] ++ le 8 e.2.2 ++ zeros 4 }

/-- CB_INFO as this head's port gave it (R321). -/
def Link.info (l : Link) (port : Side) : Nat :=
  1 + 2 ^ 8 * l.dieCount + 2 ^ 16 * l.hive + 2 ^ 20 * l.slot + 2 ^ 24 * sideN port

/-- The comb is measured into T6 at its link's first bring-up since the start (R638). -/
def State.measureComb (s : State) (link : Nat) : State :=
  match s.link? link with
  | none => s
  | some l =>
    if s.bt.log.any fun e => e.tally == 6 && e.source == link then s
    else s.extend 6 s.bt.step link 0 (le 1 link ++ le 4 (l.info s.pr.side) ++ le 4 l.serial ++ le 4 (l.serial / 2 ^ 32) ++ le 4 l.version.toNat)

/-- The link is up: the comb's measurement and E600 (R316, R638). -/
def State.linkIsUp (s : State) (link : Nat) : State :=
  let s := s.link' link fun l => { l with
    state := .up, bridgeSeen := true, half := s.halfRate l, resends := 0, rxSinceAck := 0, crcTimes := [], retrainTimes := []
    stepFails := 0, since := s.ck.now, downSince := none }
  (s.measureComb link).ev0 0x600 .info (le 1 link ++ le 1 (b2n ((s.link? link).any (·.half))))

/-- Both ends of a link start their sequences at 0 (R316). -/
def State.linkStarts (s : State) (link : Nat) : State :=
  (s.link' link fun l => { l with txSeq := 0, rxSeq := 0, nakSent := false, unacked := [], waiting := [] }).bridge' link fun b =>
    b.port' s.pr.side fun p => { p.emptied with up := true, txSeq := 0, rxSeq := 0, nakSent := false }

/-- A bring-up whose every step passes at once: both HELLOs, what the registers and descriptors of the comb say, E600 and the bridge's
standing events (R316, R321, R322, R347). -/
def State.linkRises (s : State) (link : Nat) (b : Bridge) : State :=
  let s := (s.headHello link 0).bridgeHello link s.pr.side (b2n ((s.link? link).any s.halfRate)) 0
  let s := s.linkStarts link
  let s := s.link' link fun l => { l with
    hive := b.hive, slot := b.slot, serial := b.serial, version := b.version, dieCount := b.dies.length
    descs := b.dies.map (·.desc), epoch := b.epoch, owner := b.owner, noFence := b.storeFault }
  b.events.foldl (fun t e => t.bridgeEventFrame link s.pr.side e) (s.linkIsUp link)

/-- The epoch and the owner that the fence registers show, as the DONE of a raise or an adoption without one (R341, R342,
R345). -/
def State.fenceOutcome (s : State) (h : TaskHdr) (epoch owner : Nat) : BitVec 32 :=
  if epoch == (if h.op == .fenceRaise then h.arg.toNat + 1 else h.arg.toNat) && s.isMine owner then 0 else 0x32

/-- A comb that answers takes its place in its hive and is brought to the hive's epoch (R244, R344). -/
def State.linkJoins (s : State) (link : Nat) : State := (s.admitComb link).levelEpoch link

/-- What the link's head does with a comb that answers: its place, its epoch, and the tasks without a DONE (R344, R345). A FENCE_ADOPT
without a DONE is settled by the fence registers as a FENCE_RAISE is (DESIGN CHOICE, log 93). -/
def State.linkServes (s : State) (link : Nat) (b : Bridge) : State :=
  let s := s.linkJoins link
  let tasks := ((s.link? link).map (·.tasks)).getD []
  let s := tasks.foldl (fun t k =>
    if k.reissueAt.isSome then t
    else if k.hdr.op == .fenceRaise || k.hdr.op == .fenceAdopt then
      t.taskDone link k (t.fenceOutcome k.hdr b.epoch b.owner)
    else match b.die? k.hdr.die with
      | some d => t.windowTells link k (d.win t.pr.side).op (d.win t.pr.side).status
      | none => t) s
  -- a die that shows itself idle takes tasks again, and one that executes is read again (R330)
  let s := s.link' link fun l => { l with blockedDies := l.blockedDies.filter fun d => (b.die? d).any (·.exec.isSome) }
  let s := (((s.link? link).map (·.blockedDies)).getD []).foldl (fun t d => t.sendRegRead link (0x10000 + 32 * d) 6) s
  (s.judgeHive b.hive).issueAll

/-- The registers that the head reads once a link is up again: the fence registers for a fence task without a DONE, and the window of every
die with a task without a DONE or that has to show itself idle (R330, R345). -/
def Link.windowsToRead (l : Link) : List (Nat × Nat) :=
  (if l.tasks.any (·.hdr.op.isFence) then [(0x20, 2)] else []) ++
    (dedupBy (((l.tasks.filter fun k => !k.hdr.op.isFence && k.reissueAt.isNone).map (·.hdr.die)) ++ l.blockedDies)).map fun d =>
      (0x10000 + 32 * d, 6)

/-- A bring-up comes to its end (R316). -/
def State.linkUp (s : State) (link : Nat) (b : Bridge) : State := (s.linkRises link b).linkServes link b

/-- A bring-up attempt fails (R319): after three at full rate the next runs at half rate, E602. -/
def State.bringUpFails (s : State) (link : Nat) : State :=
  let half := (s.link? link).any s.halfRate
  let s := s.link' link fun l => { l with
    state := if l.bridgeSeen then .down else .powerDown, since := s.ck.now
    downSince := if l.bridgeSeen then some (l.downSince.getD s.ck.now) else none
    stepFails := if half then l.stepFails else l.stepFails + 1 }
  if (s.link? link).any fun l => !half && l.bridgeSeen && l.stepFails == 3 then s.ev0 0x602 .warn (le 1 link) else s

/-- A comb is not where its link number says, or the peer has found its serial number behind another link (R12). -/
def State.misplaced (s : State) (link hive slot serial : Nat) : Bool :=
  16 * hive + slot != link || s.cl.peerSerials.any fun e => e.2 == serial && e.1 != link

/-- A link that is kept down by R12: E604. -/
def State.holdLink (s : State) (link hive slot : Nat) : State :=
  (s.link' link fun l => { l with state := .held, since := s.ck.now, bridgeSeen := true }).ev0 0x604 .error
    (le 1 link ++ le 1 hive ++ le 1 slot)

end Sys2Proof.Machine
end

