-- ==== Sys2Proof/Machine/Zstd.lean ====
section
/-! DEFINITION. Zstandard frames of the subset of R149 to R152: the frames a compressor emits, and the decompressor of
R151, which reads every block form of RFC 8878. -/

namespace Sys2Proof.Machine

/-! ## Bit streams -/

/-- The highest set bit of a number, 0 for 0. -/
def hiBit (n : Nat) : Nat := Nat.log2 n

/-- A backward bit stream: the bytes as one little-endian number and the number of unread bits. -/
abbrev BackBits := Nat × Nat

/-- Open a backward stream: the final byte is not 0 and its highest set bit marks the end. -/
def backOpen (bs : Bytes) : Option BackBits :=
  match bs.getLast? with
  | none => none
  | some b => if b = 0 then none else some (rdLe bs, 8 * (bs.length - 1) + hiBit b.toNat)

/-- Read `n` bits; past the start they are zeros. The flag tells that they ran past it. -/
def backRead (b : BackBits) (n : Nat) : Nat × BackBits × Bool :=
  if n ≤ b.2 then (b.1 / 2 ^ (b.2 - n) % 2 ^ n, (b.1, b.2 - n), false)
  else (b.1 % 2 ^ b.2 * 2 ^ (n - b.2) % 2 ^ n, (b.1, 0), true)

/-! ## FSE tables -/

/-- A decoding table: accuracy log and, for each state, symbol, bits to read and base of the next state. -/
structure FseTable where
  /-- Accuracy log. -/
  log : Nat
  /-- Symbol, bits, base of each state. -/
  cells : Array (Nat × Nat × Nat)

/-- The zero-run after a probability of 0: how many further zeros, and the bit position after it. -/
def fseZeros (v : Nat) : Nat → Nat → Nat → Nat × Nat
  | 0, pos, n => (n, pos)
  | f + 1, pos, n =>
    let r := v / 2 ^ pos % 4
    if r = 3 then fseZeros v f (pos + 2) (n + 3) else (n + r, pos + 2)

/-- The probabilities of a table description; −1 stands for "less than 1". -/
def fseProbs (v : Nat) (maxSym : Nat) : Nat → Nat → Nat → List Int → Option (List Int × Nat)
  | 0, _, _, _ => none
  | f + 1, rem, pos, acc =>
    if rem = 0 then (if acc.length ≤ maxSym then some (acc.reverse, pos) else none)
    else if acc.length ≥ maxSym then none
    else
      let bits := hiBit (rem + 1) + 1
      let val := v / 2 ^ pos % 2 ^ bits
      let low := 2 ^ (bits - 1) - 1
      let thr := 2 ^ bits - 1 - (rem + 1)
      let lowVal := val % 2 ^ (bits - 1)
      let (x, pos) := if lowVal < thr then (lowVal, pos + bits - 1)
        else if val > low then (val - thr, pos + bits) else (val, pos + bits)
      let p : Int := (x : Int) - 1
      let used := if p < 0 then 1 else p.toNat
      if used > rem then none
      else if p = 0 then
        let (z, pos) := fseZeros v 200 pos 0
        fseProbs v maxSym f rem pos (List.replicate z 0 ++ 0 :: acc)
      else fseProbs v maxSym f (rem - used) pos (p :: acc)

/-- Spread one symbol over the table. -/
def fseSpread (size high step s : Nat) : Nat → Nat → Array Nat → Nat × Array Nat
  | 0, pos, t => (pos, t)
  | n + 1, pos, t =>
    let t := t.set! pos s
    -- at most `size` steps lead past the cells of the symbols of least probability
    let next := (List.range size).foldl (fun p _ => if p.2 then p else
      let q := (p.1 + step) % size
      (q, q < high)) (pos, false)
    fseSpread size high step s n next.1 t

/-- Build the decoding table of a distribution. -/
def fseBuild (log : Nat) (probs : List Int) : FseTable :=
  let size := 2 ^ log
  let syms := (List.range probs.length).zip probs
  let (high, t) := syms.foldl (fun a p => if p.2 < 0 then (a.1 - 1, a.2.set! (a.1 - 1) p.1) else a)
    (size, Array.replicate size 0)
  let step := size / 2 + size / 8 + 3
  let (_, t) := syms.foldl (fun a p => if p.2 > 0 then fseSpread size high step p.1 p.2.toNat a.1 a.2 else a) (0, t)
  let next := (probs.map fun p => if p < 0 then 1 else p.toNat).toArray
  let (cells, _) := (List.range size).foldl (fun a i =>
    let s := t.getD i 0
    let n := a.2.getD s 1
    let bits := log - hiBit n
    (a.1.push (s, bits, n * 2 ^ bits - size), a.2.set! s (n + 1))) ((#[] : Array (Nat × Nat × Nat)), next)
  ⟨log, cells⟩

/-- Read a table description: the table and the bytes it took. -/
def fseRead (bs : Bytes) (maxLog maxSym : Nat) : Option (FseTable × Nat) :=
  let v := rdLe (bs.take 256)
  let log := v % 16 + 5
  if log > maxLog then none
  else match fseProbs v maxSym 300 (2 ^ log) 4 [] with
    | none => none
    | some (ps, pos) =>
      let used := (pos + 7) / 8
      if used > bs.length then none else some (fseBuild log ps, used)

/-- The table of one symbol (RLE mode). -/
def fseRle (s : Nat) : FseTable := ⟨0, #[(s, 0, 0)]⟩

/-- A state's cell. -/
def FseTable.cell (t : FseTable) (st : Nat) : Nat × Nat × Nat := t.cells.getD st (0, 0, 0)

/-! ## Huffman literals -/

/-- A Huffman table: longest code and, for each prefix of that length, symbol and code length. -/
structure HufTable where
  /-- Longest code. -/
  bits : Nat
  /-- Symbol and length of each prefix. -/
  cells : Array (Nat × Nat)

/-- The weights coded by FSE: two states take turns until the stream runs out. -/
def hufWeights (t : FseTable) : Nat → BackBits → Nat → Nat → List Nat → Option (List Nat)
  | 0, _, _, _, _ => none
  | f + 1, b, s1, s2, acc =>
    let c := t.cell s1
    let (v, b, past) := backRead b c.2.1
    if past then some ((t.cell s2).1 :: c.1 :: acc).reverse
    else hufWeights t f b s2 (c.2.2 + v) (c.1 :: acc)

/-- Build a Huffman table from weights; the last weight is what completes the sum to a power of two. -/
def hufBuild (ws : List Nat) : Option HufTable :=
  let sum := (ws.map fun w => if w = 0 then 0 else 2 ^ (w - 1)).sum
  if sum = 0 || ws.length > 255 then none
  else
    let bits := hiBit sum + 1
    let left := 2 ^ bits - sum
    if bits > 11 || left ≠ 2 ^ hiBit left then none
    else
      let all := ws ++ [hiBit left + 1]
      let syms := (List.range all.length).zip all
      let cells := (List.range bits).foldl (fun a w =>
        (syms.filter (·.2 == w + 1)).foldl (fun a p =>
          (List.range (2 ^ w)).foldl (fun a _ => a.push (p.1, bits - w)) a) a) (#[] : Array (Nat × Nat))
      some ⟨bits, cells⟩

/-- Read a Huffman tree description: the table and the bytes it took. -/
def hufRead (bs : Bytes) : Option (HufTable × Nat) :=
  match bs with
  | [] => none
  | h :: rest =>
    let n := h.toNat
    if n ≥ 128 then
      let k := n - 127
      let len := (k + 1) / 2
      if len > rest.length then none
      else
        let ws := (List.range k).map fun i =>
          let b := (rest.getD (i / 2) 0).toNat
          if i % 2 = 0 then b / 16 else b % 16
        (hufBuild ws).map fun t => (t, 1 + len)
    else if n > rest.length then none
    else
      let body := rest.take n
      match fseRead body 6 13 with
      | none => none
      | some (t, used) => match backOpen (body.drop used) with
        | none => none
        | some b =>
          let (s1, b, p1) := backRead b t.log
          let (s2, b, p2) := backRead b t.log
          if p1 || p2 then none
          else (hufWeights t 256 b s1 s2 []).bind fun ws => (hufBuild ws).map fun h => (h, 1 + n)

/-- Decode one Huffman stream until its bits are used up; the fuel bounds the symbols. -/
def hufStream (t : HufTable) : Nat → BackBits → Array Byte → Option (Array Byte)
  | 0, b, out => if b.2 = 0 then some out else none
  | f + 1, b, out =>
    if b.2 = 0 then some out
    else
      let (p, _, _) := backRead b t.bits
      let c := t.cells.getD p (0, 0)
      if c.2 = 0 || c.2 > b.2 then none
      else hufStream t f (b.1, b.2 - c.2) (out.push (BitVec.ofNat 8 c.1))

/-- Decode the four streams, or the one, of a literals section of `n` bytes. -/
def hufLiterals (t : HufTable) (four : Bool) (bs : Bytes) (n : Nat) : Option (Array Byte) :=
  let one := fun (bs : Bytes) (k : Nat) => (backOpen bs).bind fun b =>
    (hufStream t k b #[]).bind fun o => if o.size = k then some o else none
  if !four then one bs n
  else
    let a := fld bs 0 2
    let b := fld bs 2 2
    let c := fld bs 4 2
    let d := bs.drop 6
    if a + b + c + 1 > d.length || bs.length < 10 then none
    else
      let k := (n + 3) / 4
      if 3 * k > n then none
      else (one (d.take a) k).bind fun w => (one (slice d a b) k).bind fun x => (one (slice d (a + b) c) k).bind fun y =>
        (one (d.drop (a + b + c)) (n - 3 * k)).map fun z => w ++ x ++ y ++ z

/-! ## Sequences -/

/-- Base and extra bits of a literals length code. -/
def llCode (c : Nat) : Nat × Nat :=
  if c < 16 then (c, 0)
  else ([(16, 1), (18, 1), (20, 1), (22, 1), (24, 2), (28, 2), (32, 3), (40, 3), (48, 4), (64, 6), (128, 7), (256, 8),
    (512, 9), (1024, 10), (2048, 11), (4096, 12), (8192, 13), (16384, 14), (32768, 15), (65536, 16)]).getD (c - 16) (0, 0)

/-- Base and extra bits of a match length code. -/
def mlCode (c : Nat) : Nat × Nat :=
  if c < 32 then (c + 3, 0)
  else ([(35, 1), (37, 1), (39, 1), (41, 1), (43, 2), (47, 2), (51, 3), (59, 3), (67, 4), (83, 4), (99, 5), (131, 7),
    (259, 8), (515, 9), (1027, 10), (2051, 11), (4099, 12), (8195, 13), (16387, 14), (32771, 15), (65539, 16)]).getD
    (c - 32) (0, 0)

/-- Predefined literals length distribution. -/
def llDefault : List Int := [4, 3] ++ List.replicate 11 2 ++ [1, 1, 1] ++ List.replicate 9 2 ++ [3, 2] ++
  List.replicate 5 1 ++ List.replicate 4 (-1)
/-- Predefined match length distribution. -/
def mlDefault : List Int := [1, 4, 3] ++ List.replicate 6 2 ++ List.replicate 37 1 ++ List.replicate 7 (-1)
/-- Predefined offset distribution. -/
def ofDefault : List Int := List.replicate 6 1 ++ [2, 2, 2] ++ List.replicate 15 1 ++ List.replicate 5 (-1)

/-- What a frame carries from block to block. -/
structure ZState where
  /-- Content produced so far. -/
  out : Array Byte
  /-- The three repeated offsets. -/
  reps : Nat × Nat × Nat
  /-- Last Huffman table. -/
  huf : Option HufTable
  /-- Last literals length, offset and match length tables. -/
  ll : Option FseTable
  /-- Last offset table. -/
  off : Option FseTable
  /-- Last match length table. -/
  ml : Option FseTable

/-- Read the table of one code by its mode: predefined, RLE, FSE, repeat. The bytes left. -/
def seqTable (mode : Nat) (dflt : FseTable) (maxLog maxSym : Nat) (last : Option FseTable) (bs : Bytes) :
    Option (FseTable × Bytes) :=
  match mode with
  | 0 => some (dflt, bs)
  | 1 => match bs with
    | b :: r => if b.toNat < maxSym then some (fseRle b.toNat, r) else none
    | [] => none
  | 2 => (fseRead bs maxLog maxSym).map fun t => (t.1, bs.drop t.2)
  | _ => last.map fun t => (t, bs)

/-- The offset of a sequence and the repeated offsets after it. -/
def seqOffset (v ll : Nat) (r : Nat × Nat × Nat) : Option (Nat × (Nat × Nat × Nat)) :=
  if v > 3 then some (v - 3, (v - 3, r.1, r.2.1))
  else
    let i := v - 1 + (if ll = 0 then 1 else 0)
    match i with
    | 0 => some (r.1, r)
    | 1 => some (r.2.1, (r.2.1, r.1, r.2.2))
    | 2 => some (r.2.2, (r.2.2, r.1, r.2.1))
    | _ => if r.1 ≤ 1 then none else some (r.1 - 1, (r.1 - 1, r.1, r.2.1))

/-- Copy `n` bytes from `off` back. -/
def copyMatch (off : Nat) : Nat → Array Byte → Array Byte
  | 0, a => a
  | n + 1, a => copyMatch off n (a.push (a.getD (a.size - off) 0))

/-- Execute the sequences: literals copied, matches copied; `k` is the position in the literals. -/
def seqRun (lits : Array Byte) (tl tf tm : FseTable) : Nat → BackBits → Nat → Nat → Nat → Nat → ZState →
    Option (ZState × Nat)
  | 0, b, _, _, _, k, z => if b.2 = 0 then some (z, k) else none
  | n + 1, b, sl, so, sm, k, z =>
    let cl := tl.cell sl
    let co := tf.cell so
    let cm := tm.cell sm
    if co.1 > 31 then none
    else
      let (vo, b, p1) := backRead b co.1
      let (vm, b, p2) := backRead b (mlCode cm.1).2
      let (vl, b, p3) := backRead b (llCode cl.1).2
      let ll := (llCode cl.1).1 + vl
      let ml := (mlCode cm.1).1 + vm
      match seqOffset (2 ^ co.1 + vo) ll z.reps with
      | none => none
      | some (off, reps) =>
        if p1 || p2 || p3 || k + ll > lits.size then none
        else
          let out := z.out ++ lits.extract k (k + ll)
          if off = 0 || off > out.size then none
          else
            let z := { z with out := copyMatch off ml out, reps := reps }
            if n = 0 then seqRun lits tl tf tm 0 b 0 0 0 (k + ll) z
            else
              let (xl, b, q1) := backRead b cl.2.1
              let (xm, b, q2) := backRead b cm.2.1
              let (xo, b, q3) := backRead b co.2.1
              if q1 || q2 || q3 then none
              else seqRun lits tl tf tm n b (cl.2.2 + xl) (co.2.2 + xo) (cm.2.2 + xm) (k + ll) z

/-- A literals section: the literals, the Huffman table in force, the bytes left. -/
def readLiterals (bs : Bytes) (last : Option HufTable) : Option (Array Byte × Option HufTable × Bytes) :=
  match bs with
  | [] => none
  | b0 :: _ =>
    let ty := b0.toNat % 4
    let sf := b0.toNat / 4 % 4
    if ty < 2 then
      let (hl, n) := if sf % 2 = 0 then (1, b0.toNat / 8) else if sf = 1 then (2, fld bs 0 2 / 16) else (3, fld bs 0 3 / 16)
      let r := bs.drop hl
      if bs.length < hl || n > 131072 then none
      else if ty = 0 then (if n ≤ r.length then some ((r.take n).toArray, last, r.drop n) else none)
      else match r with
        | x :: r => some (Array.replicate n x, last, r)
        | [] => none
    else
      let (hl, w) := if sf < 2 then (3, 10) else if sf = 2 then (4, 14) else (5, 18)
      let v := fld bs 0 hl / 16
      let n := v % 2 ^ w
      let c := v / 2 ^ w % 2 ^ w
      let r := bs.drop hl
      if bs.length < hl || c > r.length || n > 131072 then none
      else
        let body := r.take c
        let tab := if ty = 2 then hufRead body else last.map fun t => (t, 0)
        tab.bind fun t => (hufLiterals t.1 (sf ≠ 0) (body.drop t.2) n).map fun a => (a, some t.1, r.drop c)

/-- The number of sequences and the bytes left. -/
def readCount (bs : Bytes) : Option (Nat × Bytes) :=
  match bs with
  | [] => none
  | a :: r =>
    if a.toNat < 128 then some (a.toNat, r)
    else match r with
      | [] => none
      | b :: r =>
        if a.toNat < 255 then some ((a.toNat - 128) * 256 + b.toNat, r)
        else match r with
          | [] => none
          | c :: r => some (b.toNat + c.toNat * 256 + 0x7F00, r)

/-- A Compressed block. -/
def zBlock (bs : Bytes) (z : ZState) : Option ZState :=
  match readLiterals bs z.huf with
  | none => none
  | some (lits, huf, r) =>
    let z := { z with huf := huf }
    match readCount r with
    | none => none
    | some (0, r) => if r.isEmpty then some { z with out := z.out ++ lits } else none
    | some (n, r) => match r with
      | [] => none
      | m :: r =>
        if m.toNat % 4 ≠ 0 then none
        else
          (seqTable (m.toNat / 64) (fseBuild 6 llDefault) 9 36 z.ll r).bind fun (tl, r) =>
          (seqTable (m.toNat / 16 % 4) (fseBuild 5 ofDefault) 8 32 z.off r).bind fun (tf, r) =>
          (seqTable (m.toNat / 4 % 4) (fseBuild 6 mlDefault) 9 53 z.ml r).bind fun (tm, r) =>
          (backOpen r).bind fun b =>
            let (sl, b, p1) := backRead b tl.log
            let (so, b, p2) := backRead b tf.log
            let (sm, b, p3) := backRead b tm.log
            if p1 || p2 || p3 then none
            else (seqRun lits tl tf tm n b sl so sm 0 { z with ll := some tl, off := some tf, ml := some tm }).map
              fun (z, k) => { z with out := z.out ++ lits.extract k lits.size }

/-- The blocks of a frame: the content and the bytes left. -/
def zBlocks : Nat → Bytes → Nat → ZState → Option (ZState × Bytes)
  | 0, _, _, _ => none
  | f + 1, bs, limit, z =>
    if bs.length < 3 then none
    else
      let h := fld bs 0 3
      let size := h / 8
      let r := bs.drop 3
      let had := z.out.size
      let got : Option (ZState × Bytes) := match h / 2 % 4 with
        | 0 => if size ≤ 131072 && size ≤ r.length then some ({ z with out := z.out ++ (r.take size).toArray }, r.drop size) else none
        | 1 => match r with
          | x :: r => if size ≤ 131072 then some ({ z with out := z.out ++ Array.replicate size x }, r) else none
          | [] => none
        | 2 => if size ≤ 131072 && size ≤ r.length then (zBlock (r.take size) z).map fun z => (z, r.drop size) else none
        | _ => none
      match got with
      | none => none
      | some (z, r) =>
        -- the decompressor stops at one byte more than the content length (R156)
        if z.out.size > limit || z.out.size > had + 131072 then none
        else if h % 2 = 1 then some (z, r)
        else zBlocks f r limit z

/-- Length of the Frame_Content_Size field and its least and greatest content, by descriptor (R149). -/
def fcsOf (d : Nat) : Option (Nat × Nat × Nat) :=
  if d = 0x24 then some (1, 1, 255)
  else if d = 0x64 then some (2, 256, 65791)
  else if d = 0xA4 then some (4, 65792, 262144)
  else none

/-- Decompress a frame of the subset of R149: its content, or none when it is unreadable (R151, R156). -/
def zstdDecode (frame : Bytes) : Option Bytes :=
  if slice frame 0 4 != [0x28#8, 0xB5#8, 0x2F#8, 0xFD#8] then none
  else match fcsOf (fld frame 4 1) with
    | none => none
    | some (n, lo, hi) =>
      let size := fld frame 5 n + (if n = 2 then 256 else 0)
      if frame.length < 5 + n || size < lo || hi < size then none
      else match zBlocks 262144 (frame.drop (5 + n)) size ⟨#[], (1, 4, 8), none, none, none, none⟩ with
        | none => none
        | some (z, r) =>
          let out := z.out.toList
          if z.out.size = size && r == le 4 ((xxh64 0 out).toNat % 2 ^ 32) then some out else none

/-! ## The frames a compressor emits (R149, R150, R152) -/

/-- Frame header of a content length (R149). -/
def frameHead (n : Nat) : Bytes :=
  [0x28#8, 0xB5#8, 0x2F#8, 0xFD#8] ++
    (if n < 256 then 0x24#8 :: le 1 n else if n < 65792 then 0x64#8 :: le 2 (n - 256) else 0xA4#8 :: le 4 n)

/-- A Raw or an RLE block: RLE when every byte of the block is the same (R150). -/
def plainBlock (last : Bool) (b : Bytes) : Bytes :=
  match b with
  | [] => le 3 (b2n last)
  | x :: r =>
    if r.all (· == x) then le 3 (b2n last + 2 + 8 * b.length) ++ [x]
    else le 3 (b2n last + 8 * b.length) ++ b

/-- The blocks of a content, of at most 131,072 bytes each. -/
def plainBlocks (content : Bytes) : Bytes :=
  let ps := (pieces 131072 content).filter (!·.isEmpty)
  ((List.range ps.length).zip ps).flatMap fun p => plainBlock (p.1 + 1 == ps.length) p.2

/-- The frame of Raw and RLE blocks (profile STORED, COMPRESSION 0, and R152's fall-back). -/
def storedFrame (content : Bytes) : Bytes :=
  frameHead content.length ++ plainBlocks content ++ le 4 ((xxh64 0 content).toNat % 2 ^ 32)

/-- The blocks of a frame are as R150 says for the blocks of its content: RLE where every byte is the same, Compressed only where that is
smaller than the content, else Raw; the checksum follows. -/
def blocksObey : List Bytes → Bytes → Bool
  | [], r => r.length == 4
  | p :: ps, r =>
    let h := fld r 0 3
    let size := h / 8
    h % 2 == b2n ps.isEmpty &&
      (if p.all (· == p.headD 0) then h / 2 % 4 == 1 && size == p.length && blocksObey ps (r.drop 4)
      else if h / 2 % 4 == 0 then size == p.length && blocksObey ps (r.drop (3 + size))
      else h / 2 % 4 == 2 && size < p.length && blocksObey ps (r.drop (3 + size)))

/-- The frame of a chunk: the compressor's, which R150 and R151 bind block by block; what it puts in a Compressed block is not in the
spec (a free value, log 20). -/
def makeFrame (profile : Nat) (content : Bytes) : Bytes :=
  if profile = 0 then storedFrame content
  else
    let c := Config.compress profile content
    let head := frameHead content.length
    if c.take head.length == head && blocksObey ((pieces 131072 content).filter (!·.isEmpty)) (c.drop head.length) &&
      zstdDecode c == some content then c
    else storedFrame content

end Sys2Proof.Machine
end

