-- ==== Sys2Proof/Machine/ReadOps.lean ====
section
/-! DEFINITION. Chunk envelopes (R153 to R155), what a stripe has erased or must wait for (R229, R231), erases suspended for reads (R335
to R338), and reading envelopes back from flash (R156 to R158, R211, R229, R230). -/

namespace Sys2Proof.Machine

/-! ## Sealing -/

/-- The XTS tweak of a chunk (R154). -/
def chunkTweak (domain chunk : Nat) : Nat := chunk % 2 ^ 48 + domain % 65536 * 2 ^ 48

/-- Seal a frame into its envelope (R153, R154). -/
def sealEnvelope (fmt : Nat) (key : Bytes) (domain chunk gen profile flags : Nat) (content frame : Bytes) : Bytes :=
  let sealLen := max 16 (roundUp frame.length 16)
  let body := xts true key (chunkTweak domain chunk) (fit sealLen frame)
  let h := le 4 0x4B484354 ++ le 1 fmt ++ le 1 flags ++ le 2 domain ++ le 6 chunk ++ le 2 gen ++ le 4 content.length ++
    le 4 frame.length ++ le 4 sealLen ++ le 1 profile ++ zeros 27 ++ crcBytes body
  let h := h ++ crcBytes h
  fit (roundUp (64 + sealLen) 64) (h ++ body)

/-- A domain's data key of a generation (R154, R689). -/
def State.dataKey (s : State) (domain gen : Nat) : Option Bytes :=
  (s.ks.recs.find? (·.domain == domain)).bind fun r => (r.data.find? (·.1 == gen)).map (·.2)

/-- The checks of R156 on an envelope, up to the content. -/
def State.openEnvelope (s : State) (domain chunk : Nat) (env : Bytes) : Option Bytes :=
  let clen := fld env 16 4
  let flen := fld env 20 4
  let slen := fld env 24 4
  let body := slice env 64 slen
  if fld env 0 4 != 0x4B484354 || !s.readsFmt .envelope (fld env 4 1) || slice env 60 4 != crcBytes (env.take 60) then none
  else if fld env 6 2 != domain || fld env 8 6 != chunk then none
  else if clen == 0 || clen > 262144 then none
  else if flen > clen + 19 then none
  else if slen != max 16 (roundUp flen 16) then none
  else if body.length != slen || slice env 56 4 != crcBytes body then none
  else match s.dataKey domain (fld env 14 2) with
    | none => none
    | some k => match zstdDecode ((xts false k (chunkTweak domain chunk) body).take flen) with
      | some c => if c.length == clen then some c else none
      | none => none

/-! ## Units on flash -/

/-- A unit's footer is whole and names the stripe, the member and the head that opened the stripe (R210, R211). -/
def footerNames (spare : Bytes) (ord i head : Nat) : Bool :=
  slice spare 124 4 == crcBytes (spare.take 124) && fld spare 8 6 == ord && fld spare 14 1 == i && fld spare 6 2 == head

/-- A comb answers the tasks of this head: its link is up, and its fence epoch is the one that the head's tasks carry (R220, R340, R345). -/
def State.answers (s : State) (l : Link) : Bool := l.state == .up && (s.bridge? l.link).any (·.epoch == l.epoch)

/-- Every comb of a hive that holds units of it answers: a rebuild or a move waits while one does not (R229, R345; log 27). -/
def State.allAnswer (s : State) (h : Nat) : Bool := (s.workingLinks h).all fun k => (s.link? k).any s.answers

/-- Tasks that this head sends to a hive find a comb's epoch other than they carry: the frame that refuses them tells the epoch and the
owner. One below the hive's is raised, and an owner on the peer fences this head out of the hive (R66, R67, R220, R344). -/
def State.heed (s : State) (h : Nat) : State :=
  if !s.tasksAllowed || s.sp.fencedOut.contains h then s
  else (s.cl.links.filter fun l => l.hive == h && l.state == .up).foldl (fun t l => match t.bridge? l.link with
    | none => t
    | some b =>
      if b.epoch == l.epoch then t
      else
        let t := t.link' l.link fun x => { x with epoch := b.epoch, owner := b.owner }
        if b.epoch < l.epoch then t.levelEpoch l.link
        else if s.isMine b.owner || b.owner == 0xFFFF then t
        else t.fencedFrom h) s

/-- A member is erased as a whole (R229): its comb is failed or retired, its die has failed, or the footer of its first page, when that
page can be read, is not the one the stripe expects (R211). -/
def State.memberErased (s : State) (t : Stripe) (i : Nat) : Bool :=
  match t.members[i]? with
  | none => true
  | some m =>
    match s.link? m.link with
    | none => true
    | some l =>
      l.comb == .failed || l.comb == .retired || s.dieDead l m.die || m.state == 1 ||
        (s.answers l && match (s.unitNand t.region m).head? with
          | some (some p) => !p.bad && !footerNames p.spare t.ord i t.opener
          | _ => true)

/-- A member gives nothing: it is erased, its read has been given up (R231), or its comb does not answer; a move waits while a comb of
the hive does not (R229, log 27). -/
def State.memberGone (s : State) (t : Stripe) (i : Nat) : Bool :=
  s.memberErased t i || s.sp.givenUp.contains (t.ord, i) ||
    ((t.members[i]?).bind fun m => s.link? m.link).all fun l => !s.answers l

/-- A member's comb does not answer and its read has not been given up: a host read waits for it (R229, R231). -/
def State.silent (s : State) (t : Stripe) (i : Nat) : Bool :=
  !s.memberErased t i && !s.sp.givenUp.contains (t.ord, i) && ((t.members[i]?).bind fun m => s.link? m.link).any fun l => !s.answers l

/-- Reads go to a hive: its shelf serves, this head has not been fenced out of it, and its lease runs (R64, R220, R229, R541). -/
def State.readable (s : State) (h : Nat) : Bool :=
  (s.hive? h).any Hive.serves && !s.sp.fencedOut.contains h && s.tasksAllowed

/-- One page position of a member as it is read; none when it is erased there. -/
def State.rawPage (s : State) (t : Stripe) (i pos : Nat) : Option Bytes :=
  if s.memberGone t i then none
  else match t.members[i]? with
    | none => none
    | some m => match (s.unitNand t.region m)[pos]? with
      | some (some p) => if p.bad then none else some p.data
      | _ => none

/-- Page positions of a unit (R229). -/
def positions (r : Region) : Nat := unitBytes r / 16384

/-- One page position of a data member, read, or reconstructed from the others; `out` are members taken as erased too
(R214, R230). -/
def State.dataPage (s : State) (t : Stripe) (out : List Nat) (i pos : Nat) : Option Bytes :=
  let get := fun j => if out.contains j then none else s.rawPage t j pos
  match get i with
  | some b => some b
  | none =>
    let k := t.members.length - 2
    (solve 16384 ((List.range k).map get) (get k) (get (k + 1))).map fun ds => ds.getD i []

/-- Page positions of the data members that an envelope touches: member and position. -/
def envPages (r : Region) (off len : Nat) : List (Nat × Nat) :=
  let per := unitBytes r / 16384
  (List.range ((64 * (off + len) + 16383) / 16384 - 64 * off / 16384)).map fun i =>
    let p := 64 * off / 16384 + i
    (p / per, p % per)

/-- A unit that can be read whole and fails the unit CRC of the commit record (R211). -/
def State.unitFails (s : State) (t : Stripe) (i : Nat) : Bool :=
  (((List.range (positions t.region)).mapM (s.rawPage t i)).map (·.flatten)).any fun u =>
    (t.members[i]?).any fun m => crc32c u != m.crc

/-- The positions that reading some pages takes from a member, where those of the erased ones are reconstructed (R230). -/
def State.readOf (s : State) (t : Stripe) (out : List Nat) (ps : List (Nat × Nat)) (j : Nat) : List Nat :=
  dedupBy ((ps.filter fun p => p.1 == j || out.contains p.1 || (s.rawPage t p.1 p.2).isNone).map (·.2))

/-- Members that are read whole for some pages and fail their unit CRC: unreadable for that read (R211). -/
def State.failsWhole (s : State) (t : Stripe) (out : List Nat) (ps : List (Nat × Nat)) : List Nat :=
  let bad := fun (gone : List Nat) => (List.range t.members.length).filter fun j =>
    !out.contains j && (s.readOf t gone ps j).length == positions t.region && s.unitFails t j
  bad (out ++ bad out)

/-- The bytes of an envelope of a stripe, with some members taken as erased; none when a position cannot be had. -/
def State.envBytes (s : State) (t : Stripe) (out : List Nat) (off len : Nat) : Option Bytes :=
  let ps := envPages t.region off len
  (ps.mapM fun p => s.dataPage t (out ++ s.failsWhole t out ps) p.1 p.2).map fun ps =>
    slice ps.flatten (64 * off % 16384) (64 * len)

/-- The read of an envelope waits: for the hive, the lease, or a comb that does not answer and whose bytes it needs (R229, R231). -/
def State.readWaits (s : State) (t : Stripe) (off len : Nat) : Bool :=
  !s.readable t.hive || ((envPages t.region off len).any fun p => s.silent t p.1) ||
    ((s.envBytes t [] off len).isNone && (List.range t.members.length).any (s.silent t))

/-- A read of some members finds an erase that executes on their dies: the head suspends it, reads and resumes it, all in this command
(R335 to R338; log 27). None while one erase has been suspended 16 times: the read waits for its end (R337). -/
def State.overErases (s : State) (t : Stripe) (js : List Nat) : Option State :=
  (dedupBy (js.filterMap fun j => t.members[j]?)).foldl (fun acc m => match acc with
    | none => none
    | some u => match (u.bridge? m.link).bind (·.die? m.die) with
      | none => some u
      | some d => match d.exec with
        | none => some u
        | some e =>
          let n := (d.eraseRun.map (·.count)).getD 0
          if e.hdr.op != .erase then some u
          else if n ≥ 16 then none
          else some (u.die' m.link m.die fun d => { d with eraseRun := some ⟨e.hdr, e.port, n + 1, u.ck.now⟩ })) (some s)

/-- What pages tell as they are read, by member and position: one that needs as many corrected bits as the refresh threshold has its
stripe rewritten, and a page that reads UNCORRECTABLE is a grown fault of its block set (R305, R334). -/
def State.heedPages (s : State) (t : Stripe) (ps : List (Nat × Nat)) : State :=
  let met := (ps.filter fun p => !s.memberGone t p.1).filterMap fun p => (t.members[p.1]?).bind fun m =>
    (((s.unitNand t.region m)[p.2]?).join).map fun x => (m, x)
  let worn := met.any fun x => !x.2.bad && (((s.bridge? x.1.link).bind (·.die? x.1.die)).any fun d => x.2.corrected ≥ d.desc.refresh)
  let bad := dedupBy ((met.filter (·.2.bad)).map (·.1))
  bad.foldl (fun u m => u.grownFault m.link m.die m.block) (if worn then s.scheduleRewrite t.ord else s)

/-- Every page position of some members. -/
def wholePages (r : Region) (js : List Nat) : List (Nat × Nat) := js.flatMap fun j => (List.range (positions r)).map fun p => (j, p)

/-- The pages of a stripe that reading some of them takes, with those of the members read for a reconstruction (R230). -/
def State.pagesFor (s : State) (t : Stripe) (ps : List (Nat × Nat)) : List (Nat × Nat) :=
  let gone := (ps.filter fun p => (s.rawPage t p.1 p.2).isNone).map (·.2)
  dedupBy (ps ++ (dedupBy gone).flatMap fun pos => (List.range t.members.length).map fun j => (j, pos))

/-- The tries of R157 after the first: each single unit that the envelope touches, then each pair. -/
def tries (members : List Nat) : List (List Nat) :=
  members.map (fun m => [m]) ++
    members.flatMap fun a => (members.filter (a < ·)).map fun b => [a, b]

/-- What reading a chunk gives. -/
inductive ChunkRead where
  /-- The content. -/
  | content (b : Bytes)
  /-- The chunk is lost (R41). -/
  | lost
  /-- No such chunk, or no bytes to be had now. -/
  | absent
  /-- The read waits for the hive (R229). -/
  | waits (hive : Nat)
  deriving DecidableEq, Repr

/-- Where a chunk's bytes lie: its own entry, where it stands for another. -/
def State.target (s : State) (chunk : Nat) : Nat := s.resolveAlias 8 chunk

/-- The hive in which a chunk's envelope lies; none while it is not in a committed stripe. -/
def State.hiveOfChunk (s : State) (chunk : Nat) : Option Nat :=
  match s.chunk? (s.target chunk) with
  | some c => if c.state == .stored then some c.hive else none
  | none => none

/-- A chunk is recorded lost: LOSS, E414 (R158, R239). -/
def State.loseChunk (s : State) (ord hive : Nat) (c : Chunk) : State :=
  let r := ((s.stripe? ord).map (·.region)).getD .brood
  let e : EnvEntry := ⟨c.id, c.domain, c.place.off, c.len, c.manifest, c.deferred⟩
  ((s.commit 0xFFFF (.stripeCommit ord hive r .loss [] 0 0 [e] 0) []).event 0x414 .critical c.domain
    (le 6 c.id ++ le 6 ord)).bump 0x0409 0 0 1

/-- The header of the envelope at a place of a stripe: read, or rebuilt, with a magic, format and header CRC that pass (R153, R156,
R157). -/
def State.envHead (s : State) (t : Stripe) (off : Nat) : Option Bytes :=
  if t.used ≤ off then none
  else ([] :: tries (dedupBy ((envPages t.region off 1).map (·.1)))).findSome? fun out =>
    (s.envBytes t out off 1).filter fun b => fld b 0 4 == 0x4B484354 && s.readsFmt .envelope (fld b 4 1) && slice b 60 4 == crcBytes (b.take 60)

/-- Read an envelope from its stripe: the checks of R156, then the rebuilds of R157; what passes schedules a rewrite,
what does not is lost (R158). What the pages tell as they are read is heeded (R305, R334). -/
def State.readStored (s : State) (c : Chunk) : State × ChunkRead :=
  match s.stripe? c.place.ordinal with
  | none => (s, .absent)
  | some t =>
    let heard := fun (u : State) => u.heedPages t (s.pagesFor t (envPages t.region c.place.off c.len))
    let tryOut := fun (out : List Nat) => (s.envBytes t out c.place.off c.len).bind (s.openEnvelope c.domain c.id)
    let ps := envPages t.region c.place.off c.len
    let bad := s.failsWhole t [] ps
    let gone := ps.filter fun p => (s.rawPage t p.1 p.2).isNone || bad.contains p.1
    match tryOut [] with
    | some b =>
      if gone.isEmpty then (heard s, .content b)
      else
        -- every erasure that the read met, the members read for the reconstruction among them
        let met := (List.range t.members.length).filter fun j => bad.contains j || (gone.any fun p => (s.rawPage t j p.2).isNone)
        -- one due to a comb marked failed is the rebuild's, also once the slot has a replacement (R230, R242)
        let due := met.all fun j => (t.members[j]?).any fun m => (s.link? m.link).any (·.comb == .failed) || s.needsRebuild t m.link
        let s := (s.stat 0x0404 0 0 1).stat 0x0404 0 1 gone.length
        (heard (if due then s else s.scheduleRewrite t.ord), .content b)
    | none =>
      let s := (s.event 0x330 .error c.domain (le 6 c.id ++ le 6 t.ord)).bump 0x0309 0 0 1
      let touched := dedupBy ((envPages t.region c.place.off c.len).map (·.1))
      match (tries touched).findSome? tryOut with
      | some b => (heard ((s.scheduleRewrite t.ord).stat 0x0404 0 0 1), .content b)
      | none =>
        if (s.ks.recs.find? (·.domain == c.domain)).isNone then (s, .absent)
        else (heard ((s.loseChunk t.ord t.hive c).scheduleRewrite t.ord), .lost)

/-- Read a chunk's content: from flash once its stripe is committed, before that from the pipeline (R156, R37); a domain whose keys are
erased has none (R698). -/
def State.readChunk (s : State) (chunk : Nat) : State × ChunkRead :=
  let id := s.target chunk
  match s.chunk? id with
  | some c => match c.state with
    | .stored =>
      if (s.domain? c.domain).any (·.keysErased) then (s, .absent)
      else
        let s := if s.readable c.hive then s.heed c.hive else s
        match s.stripe? c.place.ordinal with
        | none => s.readStored c
        | some t =>
          if s.readWaits t c.place.off c.len then (s, .waits c.hive)
          else match s.overErases t (dedupBy ((s.pagesFor t (envPages t.region c.place.off c.len)).map (·.1))) with
            | none => (s, .waits c.hive)
            | some s => s.readStored c
    | .dataLost => (s, .lost)
    | _ => (s, .absent)
  | none => match s.stored? id with
    | some x => if (s.domain? (fld x.envelope 6 2)).any (·.keysErased) then (s, .absent) else (s, .content x.content)
    | none => (s, .absent)

end Sys2Proof.Machine
end

