-- ==== Sys2Proof/Machine/NvmeOps.lean ====
section
/-! DEFINITION. What the NVMe commands share: controllers and associations (R394 to R397), reads with the newest
accepted data (R37, R414 to R416), the acceptance of writes and deallocates (R403 to R412, R417, R418). -/

namespace Sys2Proof.Machine

/-! ## Statuses -/

/-- Status code type, status code and Do Not Retry. The numbers of the standard's statuses are the standard's
(PRESUMED, log 40); those of type 7 are R428's. -/
abbrev NvStatus := Nat × Nat × Bool

/-- Invalid Command Opcode. -/
def nvBadOpcode : NvStatus := (0, 0x01, true)
/-- Invalid Field in Command. -/
def nvBadField : NvStatus := (0, 0x02, true)
/-- Command Aborted by Request. -/
def nvAborted : NvStatus := (0, 0x07, false)
/-- Invalid Namespace or Format. -/
def nvBadNs : NvStatus := (0, 0x0B, true)
/-- Transient Transport Error. -/
def nvTransport : NvStatus := (0, 0x22, false)
/-- Namespace is Write Protected (R519). -/
def nvWriteProt : NvStatus := (0, 0x20, true)
/-- LBA Out of Range. -/
def nvRange : NvStatus := (0, 0x80, true)
/-- Namespace Not Ready, DNR clear (R407). -/
def nvNotReady : NvStatus := (0, 0x82, false)
/-- Connect Controller Busy (R396). -/
def nvBusy : NvStatus := (1, 0x81, false)
/-- Connect Invalid Parameters (R398). -/
def nvBadParams : NvStatus := (1, 0x82, true)
/-- Connect Invalid Host (R396). -/
def nvBadHost : NvStatus := (1, 0x84, true)
/-- Unrecovered Read Error, DNR 1 (R407, R416). -/
def nvUnread : NvStatus := (2, 0x81, true)
/-- Asymmetric Access Inaccessible. -/
def nvInaccessible : NvStatus := (3, 0x02, false)
/-- Asymmetric Access Transition. -/
def nvTransition : NvStatus := (3, 0x03, false)
/-- WOULD_WAIT (R428). -/
def nvWouldWait : NvStatus := (7, 0xC0, false)
/-- NO_TOKEN (R428). -/
def nvNoToken : NvStatus := (7, 0xC1, false)
/-- GATHER_FULL (R428). -/
def nvGatherFull : NvStatus := (7, 0xC2, false)
/-- ORDINAL_EXHAUSTED (R428). -/
def nvExhausted : NvStatus := (7, 0xC3, true)
/-- STREAM_BROKEN (R428). -/
def nvStreamBroken : NvStatus := (7, 0xC4, false)
/-- STREAM_QUEUE_MISMATCH (R428). -/
def nvStreamQueue : NvStatus := (7, 0xC5, false)
/-- STREAM_LIMIT (R428). -/
def nvStreamLimit : NvStatus := (7, 0xC6, false)

/-- End a command that is not held with a status. -/
def State.nvEnd (s : State) (e : Sqe) (st : NvStatus) : State := s.cqe e.ctrl e.qid e.cid st.1 st.2.1 st.2.2 0 []

/-- Complete a command that is not held with success. -/
def State.nvDone (s : State) (e : Sqe) (dw0 : Nat) (data : Bytes) : State :=
  s.cqe e.ctrl e.qid e.cid 0 0 false (BitVec.ofNat 32 dw0) data

/-! ## Controllers -/

/-- A controller. -/
def State.ctrl? (s : State) (id : Nat) : Option Ctrl := s.nv.ctrls.find? (·.id == id)

/-- A command from a controller: counted, and served unless the head has stopped (R194). One from no controller of this
head changes nothing. -/
def State.nvme (s : State) (e : Sqe) (body : Ctrl → State → State) : State :=
  match s.ctrl? e.ctrl with
  | none => s
  | some c => if s.md.stopped then s else body c (s.stat 0x0801 (idx2 e.opc e.ctrl) 0 1)

/-- The namespace a command names, if its host may reach it (R397). -/
def State.nsOf (s : State) (c : Ctrl) (nsid : Nat) : Option Namespace :=
  (s.ns? nsid).filter fun n => s.admits n.domain c.nqn

/-- Domains a controller's host reaches (R397). -/
def State.reached (s : State) (c : Ctrl) : List Nat :=
  ((s.vo.domains.filter fun d => s.admits d.id c.nqn).map (·.id)).sortBy (· ≤ ·)

/-- Drop commands that are not accepted, and their places in gather lists. -/
def State.forgetCmds (s : State) (p : HostCmd → Bool) : State :=
  let gone := s.nv.cmds.filter fun c => p c && (match c.kind with | .accepted _ => false | .zeroing _ _ => false | _ => true)
  let s := gone.foldl (fun t c => t.dropCmd c.ctrl c.qid c.cid) s
  s.keepGather fun g => !gone.any fun c => g.isOf c.ctrl c.qid c.cid

/-- An association ends: its connections are closed, its sessions end, what it held before acceptance is not accepted
(R91, R394, R395). -/
def State.endAssoc (s : State) (id : Nat) : State :=
  match s.ctrl? id with
  | none => s
  | some _ =>
    let mine := s.nv.conns.filter fun c => c.ctrl == some id
    let s := mine.foldl (fun t c => t.send (.tcpClose c.id)) s
    let s := (s.forgetCmds (·.ctrl == id)).closeVia (.nvme id)
    let s := s.nv' fun n => { n with
      conns := n.conns.filter fun c => c.ctrl != some id
      ctrls := n.ctrls.filter (·.id != id)
      ended := n.ended.filter (·.1 != id) ++ [(id, s.ck.now)] }
    (s.vk' fun v => { v with held := v.held.filter fun h => h.via != .nvme id }).send (.ctrlEnd id)

/-- A connection ends: an admin queue takes its association with it, an I/O queue is no longer connected; commands of it
that were not wholly received are not accepted (R394). -/
def State.endConn (s : State) (id : Nat) : State :=
  match s.nv.conns.find? (·.id == id) with
  | none => s
  | some c =>
    let s := s.nv' fun n => { n with conns := n.conns.filter (·.id != id) }
    match c.ctrl with
    | none => s
    | some k =>
      if c.qid = 0 then s.endAssoc k
      else
        let s := s.forgetCmds fun x => x.ctrl == k && x.qid == c.qid
        s.ctrl' k fun x => { x with queues := x.queues.filter (· != c.qid) }

/-- A fatal transport error: C2HTermReq, the connection is closed, E802 (R393). -/
def State.fatalConn (s : State) (id fes : Nat) : State :=
  if s.nv.conns.any (·.id == id) then
    let s := ((s.send (.termReq id fes)).send (.tcpClose id)).ev0 0x802 .warn (le 4 id ++ le 2 fes)
    (s.bump 0x0807 0 0 1).endConn id
  else s

/-! ## The newest accepted data of a namespace chunk (R37, R406, R414) -/

/-- The entry an item gives a namespace chunk. -/
def MapItem.entry (nsid k : Nat) : MapItem → Option (Nat × Bool)
  | .nsMap n j chunk zero => if n == nsid && j == k then some (chunk, zero) else none
  | .nsZero n first count => if n == nsid && first ≤ k && k < first + count then some (0, true) else none
  | _ => none

/-- Map items that are on their way to the map, oldest first, with the ordinals of their writes (0 once committed). -/
def State.comingItems (s : State) : List (Nat × MapItem) :=
  ((s.wx.own.filter fun r => !r.accepted).flatMap fun r => match r.body with
    | .mapChange is => is.map fun i => (0, i)
    | _ => []) ++ s.rd.pendingMap

/-- The chunk that a namespace chunk stands for, with the items on their way, and the ordinal of its write where that is
still waiting. -/
def State.nsEntry (s : State) (nsid k : Nat) : Nat × Nat :=
  match (s.comingItems.filterMap fun e => (MapItem.entry nsid k e.2).map fun x => (x.1, e.1)).getLast? with
  | some e => e
  | none => (((s.nsGet nsid k).map (·.chunk)).getD 0, 0)

/-- The bytes of accepted writes to a namespace chunk that are in no chunk yet and that came after an ordinal, oldest
first: offset in the chunk, and bytes. -/
def State.overlays (s : State) (nsid k after : Nat) : List (Nat × Bytes) :=
  s.sources.filterMap fun r => match r.body with
    | .acceptWrite n off _ _ data =>
      let lo := max off (16384 * k)
      let hi := min (off + data.length) (16384 * (k + 1))
      if n == nsid && r.live && r.accepted && (after == 0 || keyOrder after < keyOrder r.ordinal) && lo < hi &&
          (!s.rd.ingested.contains r.ordinal ||
            s.rd.merges.any fun m => m.ordinal == r.ordinal && m.nsid == nsid && m.k == k) then
        some (lo - 16384 * k, slice data (lo - off) (hi - lo))
      else none
    | _ => none

/-- What reading a namespace chunk gives. -/
inductive BlockRead where
  /-- Its 16,384 bytes. -/
  | bytes (b : Bytes)
  /-- Its chunk is lost. -/
  | lost
  /-- Its chunk lies in a hive whose combs do not answer now, or may not be read now (R229, R541). -/
  | dark (hive : Nat)
  deriving DecidableEq, Repr

/-- The content of a chunk by ID, or why it cannot be had now. -/
def State.chunkBytes (s : State) (chunk : Nat) : State × BlockRead :=
  match s.hiveOfChunk chunk with
  | some h =>
    if (s.hive? h).any Hive.serves then
      match s.readChunk chunk with
      | (s, .content b) => (s, .bytes b)
      | (s, .waits h) => (s, .dark h)
      | (s, _) => (s, .lost)
    else (s, .dark h)
  | none => match s.readChunk chunk with
    | (s, .content b) => (s, .bytes b)
    | (s, _) => (s, .lost)

/-- Read a namespace chunk: the newest accepted data of each of its blocks (R37, R414). -/
def State.nsBlock (s : State) (nsid k : Nat) : State × BlockRead :=
  let (chunk, ord) := s.nsEntry nsid k
  let above := s.overlays nsid k ord
  let put := fun (b : Bytes) => above.foldl (fun b o => splice b o.1 o.2) b
  if above.any fun o => o.2.length == 16384 then (s, .bytes (put (zeros 16384)))
  else if chunk = 0 then (s, .bytes (put (zeros 16384)))
  else match s.chunkBytes chunk with
    | (s, .bytes b) => (s, .bytes (put (fit 16384 b)))
    | r => r

/-- Read the namespace chunks of a byte range. -/
def State.readRange (s : State) (nsid off len : Nat) : State × List BlockRead :=
  let first := off / 16384
  let n := (off + len + 16383) / 16384 - first
  (List.range n).foldl (fun acc i =>
    let (t, r) := acc.1.nsBlock nsid (first + i)
    (t, acc.2 ++ [r])) (s, [])

/-- The hives that results wait for, with the bytes asked of each. -/
def darkOf (l : List BlockRead) : List (Nat × Nat) :=
  let hs := l.filterMap fun r => match r with | .dark h => some h | _ => none
  (dedupBy hs).map fun h => (h, 16384 * (hs.filter (· == h)).length)

/-- The bytes of results that are all there. -/
def bytesOf (l : List BlockRead) : Bytes := l.flatMap fun r => match r with | .bytes b => b | _ => []

/-! ## Waiting for dark hives (R369 to R372) -/

/-- Join the gather list of every hive that a read needs, or the refusal (R370, R372, R415). -/
def State.gather (s : State) (ctrl qid cid patience : Nat) (hs : List (Nat × Nat)) : State × Option NvStatus :=
  let waits := fun (h : Nat) => ((s.hive? h).map fun x => (s.wakeTime x, x.hostReads)).getD (0, 0)
  if hs.any fun h => patience < (waits h.1).1 then (s, some nvWouldWait)
  else if hs.any fun h => (waits h.1).2 ≥ 65536 then (s, some nvGatherFull)
  else (hs.foldl (fun t h => t.joinGather h.1
    ⟨ctrl, qid, cid, some (s.ck.now + patience), h.2, none, false⟩) s, none)

/-- Count a read that ended on a gather list (counters of 10). -/
def State.countWait (s : State) (nsid : Nat) (st : NvStatus) : State :=
  if st == nvWouldWait then s.stat 0x0804 nsid 0 1
  else if st == nvNoToken then s.stat 0x0804 nsid 1 1
  else if st == nvGatherFull then s.stat 0x0804 nsid 2 1
  else s

/-- Patience of a domain's reads in nanoseconds (R415, R459). -/
def State.patience (s : State) (domain : Nat) : Nat := s.setting (0x03000003 + domain * 0x100) * second

/-! ## Block reads (R414 to R416) -/

/-- A held read that needs other hives than those it waited for waits in their gather lists, with its deadline (R370, R372, R459). -/
def State.regather (s : State) (ctrl qid cid : Nat) (hs : List (Nat × Nat)) : State × Option NvStatus :=
  let waits := fun (h : Nat) => (s.hive? h).any fun x => x.gather.any (·.isOf ctrl qid cid)
  let new_ := hs.filter fun h => !waits h.1
  if new_.any (fun h => ((s.hive? h.1).map (·.hostReads)).getD 0 ≥ 65536) then (s, some nvGatherFull)
  else
    let s := s.hv' fun v => { v with hives := v.hives.map fun x =>
      (if hs.any fun h => h.1 == x.id then x else { x with gather := x.gather.filter fun g => !g.isOf ctrl qid cid }) }
    let due := (s.cmd? ctrl qid cid).map (·.deadline)
    (new_.foldl (fun t h => t.joinGather h.1 ⟨ctrl, qid, cid, due, h.2, none, false⟩) s, none)

/-- Try to complete a block read; `first` gives the patience of one that is not on a list yet. -/
def State.tryRead (s : State) (ctrl qid cid nsid slba nlb : Nat) (first : Option Nat) : State :=
  let off := 4096 * slba
  let len := 4096 * nlb
  let (s, rs) := s.readRange nsid off len
  let stop := fun (t : State) (st : NvStatus) =>
    (((t.leaveGather ctrl qid cid).cqe ctrl qid cid st.1 st.2.1 st.2.2 0 []).dropCmd ctrl qid cid).countWait nsid st
  if rs.any (· == .lost) then stop s nvUnread
  else if (darkOf rs).isEmpty then
    (((s.leaveGather ctrl qid cid).cqe ctrl qid cid 0 0 false 0 (slice (bytesOf rs) (off % 16384) len)).dropCmd ctrl qid
      cid).stat 0x0802 nsid 0 len
  else match first with
    | none => match s.regather ctrl qid cid (darkOf rs) with
      | (t, some st) => stop t st
      | (t, none) => t
    | some p => match s.gather ctrl qid cid p (darkOf rs) with
      | (t, some st) => stop t st
      | (t, none) => t.nv' fun n => { n with
          cmds := n.cmds ++ [⟨ctrl, qid, cid, .read nsid slba nlb, none, s.ck.now, s.ck.now + p, none⟩] }

/-- Whether a chunk of a range is recorded lost, by the map alone. -/
def State.rangeLost (s : State) (nsid off len : Nat) : Bool :=
  (List.range ((off + len + 16383) / 16384 - off / 16384)).any fun i =>
    let (chunk, ord) := s.nsEntry nsid (off / 16384 + i)
    chunk != 0 && !((s.overlays nsid (off / 16384 + i) ord).any fun o => o.2.length == 16384) &&
      (s.chunk? (s.target chunk)).any fun c => c.state == .dataLost

/-- The head's relation to a domain stops its host commands: not owned, or being replayed (R74, R407, R416). -/
def State.pathStatus (s : State) (domain : Nat) : Option NvStatus :=
  if (s.domain? domain).any (fun x => x.replaying || x.changing) then some nvTransition
  else if !s.owns (.domain domain) || s.inMode .rejoin then some nvInaccessible
  else none

/-- A Read (R414 to R416). -/
def State.nvRead (s : State) (c : Ctrl) (e : Sqe) : State :=
  let slba := e.cdw10.toNat + e.cdw11.toNat * 2 ^ 32
  let nlb := e.cdw12.toNat % 65536 + 1
  match s.nsOf c e.nsid with
  | none => s.nvEnd e nvBadNs
  | some n =>
    if (slba + nlb) * 4096 > n.size then s.nvEnd e nvRange
    else if nlb > 256 then s.nvEnd e nvBadField
    else match s.pathStatus n.domain with
      | some st => if s.rangeLost n.nsid (4096 * slba) (4096 * nlb) then s.nvEnd e nvUnread else s.nvEnd e st
      | none => s.tryRead e.ctrl e.qid e.cid n.nsid slba nlb (some (if e.cdw12.getLsbD 31 then 0 else s.patience n.domain))

/-! ## Ordered streams (R408 to R412) -/

/-- The put descriptor of a transfer's first bytes (R446). -/
def putDesc (b : Bytes) : PutDesc :=
  { token := b.take 16, domain := fld b 16 2, stream := fld b 18 2, part := fld b 20 4, objLen := fld b 24 8
    putLen := fld b 32 4, last := fld b 36 1 % 2 == 1, abort := fld b 36 1 / 2 % 2 == 1, reset := fld b 36 1 / 4 % 2 == 1 }

/-- The repeats that wait for a held put: they take its outcome (R57, R451). -/
def State.repeatsOf (s : State) (c : HostCmd) : List HostCmd :=
  let of : Option PutDesc := match c.kind with
    | .put d _ => some d
    | .loc e => if (e.opc == 0x81 || e.opc == 0x85) && c.deadline != 1 then some (putDesc e.data) else none
    | _ => none
  match of with
  | none => []
  | some d => s.nv.cmds.filter fun x => match x.kind with
    | .repeatPut y _ => !d.token.all (· == 0) && !d.abort && y.domain == d.domain && y.token == d.token && y.part == d.part
    | _ => false

/-- A stream is broken, E804; and the writes of it that are not accepted (R411). -/
def State.markBroken (s : State) (stream : Option (Nat × Nat)) : State × List HostCmd :=
  match stream.bind fun k => (s.stream? k.1 k.2).map fun t => (k, t) with
  | none => (s, [])
  | some (k, t) =>
    if t.broken then (s, [])
    else
      (((s.stream' k.1 k.2 fun t => { t with broken := true }).ev0 0x804 .notice (le 4 k.1 ++ le 2 k.2)).bump 0x0808 0 0 1,
        s.nv.cmds.filter fun c => c.stream == some k && c.done.isNone && (match c.kind with
          | .accepted _ => false
          | _ => true))

/-- End held commands with statuses. The repeats of a put that ends so end as it does (R57), and the stream of each is broken, which ends
what it still holds with STREAM_BROKEN (R411). The fuel bounds the number of commands. -/
def State.failHeld (s : State) : Nat → List (HostCmd × NvStatus) → State
  | _, [] => s
  | 0, _ => s
  | n + 1, (c, st) :: rest =>
    if (s.cmd? c.ctrl c.qid c.cid).isNone then s.failHeld n rest
    else
      let again := (s.repeatsOf c).map fun x => (x, st)
      let x := (s.failCmd c.ctrl c.qid c.cid st.1 st.2.1 st.2.2).markBroken c.stream
      x.1.failHeld n (again ++ x.2.map (fun y => (y, nvStreamBroken)) ++ rest)

/-- Fuel for `failHeld`: each command can come up once for itself, once as a repeat and once for its stream. -/
def State.heldFuel (s : State) : Nat := 3 * s.nv.cmds.length * (s.nv.cmds.length + 1) + 3

/-- A stream breaks (R411). -/
def State.breakStream (s : State) (key id : Nat) : State :=
  let x := s.markBroken (some (key, id))
  x.1.failHeld x.1.heldFuel (x.2.map fun c => (c, nvStreamBroken))

/-- A command that is held, or has just arrived, ends with a failure: so do the repeats that wait for it (R57), and its stream is broken
(R411). -/
def State.failStream (s : State) (ctrl qid cid : Nat) (stream : Option (Nat × Nat)) (st : NvStatus) : State :=
  let again := ((s.cmd? ctrl qid cid).map s.repeatsOf).getD []
  let x := (s.failCmd ctrl qid cid st.1 st.2.1 st.2.2).markBroken stream
  x.1.failHeld x.1.heldFuel (again.map (fun c => (c, st)) ++ x.2.map fun c => (c, nvStreamBroken))

/-- A write that names a stream which this head does not hold, or that cannot join it, ends with a failure: the stream of its host stands
broken from then on, so that no later write of it is accepted before the reset (R411, R412). -/
def State.spoilStream (s : State) (key id : Nat) (nqn : Bytes) (queue : Nat × Nat) : State :=
  match s.stream? key id with
  | some t => if t.nqn == nqn then s.breakStream key id else s
  | none => (((s.nv' fun n => { n with streams := n.streams ++ [⟨key, id, nqn, queue, [], true⟩] }).ev0 0x804 .notice
      (le 4 key ++ le 2 id)).bump 0x0808 0 0 1)

/-- Streams that have writes outstanding (R412). -/
def State.streamsOpen (s : State) : Nat := (s.nv.streams.filter fun t => !t.order.isEmpty).length

/-- A write joins its stream, or the refusal of R409, R411 or R412. -/
def State.joinStream (s : State) (key id : Nat) (nqn : Bytes) (ctrl qid cid : Nat) : State × Option NvStatus :=
  match s.stream? key id with
  | none =>
    if s.streamsOpen ≥ 65536 then (s.spoilStream key id nqn (ctrl, qid), some nvStreamLimit)
    else (s.nv' fun n => { n with
      streams := n.streams ++ [⟨key, id, nqn, (ctrl, qid), [(ctrl, qid, cid)], false⟩] }, none)
  | some t =>
    if t.broken then (s, some nvStreamBroken)
    else if t.nqn != nqn then (s, some nvBadField)
    else if !t.order.isEmpty && t.queue != (ctrl, qid) then (s.breakStream key id, some nvStreamQueue)
    else if t.order.isEmpty && s.streamsOpen ≥ 65536 then (s.breakStream key id, some nvStreamLimit)
    else (s.stream' key id fun t => { t with queue := (ctrl, qid), order := t.order ++ [(ctrl, qid, cid)] }, none)

/-! ## Writes (R403 to R407, R816) -/

/-- Chunks that a byte range covers only in part. -/
def partChunks (off len : Nat) : List Nat :=
  if len = 0 then [] else dedupBy ((if off % 16384 != 0 || len < 16384 - off % 16384 then [off / 16384] else []) ++
    (if (off + len) % 16384 != 0 then [(off + len) / 16384] else []))

/-- New work is refused for identifiers: chunks or stripes spent (R134, R209). -/
def State.idsSpent (s : State) : Bool :=
  idsLeft (alignId s.pr.side s.rd.nextChunk) < 67108864 || s.stripesSpent

/-- Hosts may not write a domain: a replica domain, or one whose keys are erased (R519, R698). -/
def State.readOnly (s : State) (d : Nat) : Bool := (s.domain? d).any fun x => x.replica || x.keysErased

/-- The refusals of R407, in its order. -/
def State.writeCheck (s : State) (n : Namespace) (off len : Nat) : Option NvStatus :=
  if off + len > n.size then some nvRange
  else if len > 1048576 then some nvBadField
  else if s.readOnly n.domain then some nvWriteProt
  else if s.inMode .quiesce then some nvNotReady
  else if (s.domain? n.domain).any (fun x => x.replaying || x.changing) then some nvTransition
  else if !s.owns (.domain n.domain) || s.inMode .rejoin then some nvInaccessible
  else if s.idsSpent || s.ordSpent then some nvExhausted
  else if (partChunks off len).any fun k => s.rangeLost n.nsid (16384 * k) 16384 then some nvUnread
  else none

/-- The chunks that a write covers in part and whose content lies in a dark hive: each is a merge that waits on it (R129). -/
def State.darkParts (s : State) (nsid off len : Nat) : List Nat :=
  (partChunks off len).filter fun k =>
    let (chunk, ord) := s.nsEntry nsid k
    chunk != 0 && !((s.overlays nsid k ord).any fun o => o.2.length == 16384) &&
      (match s.hiveOfChunk chunk with
        | some h => !(s.hive? h).any Hive.serves
        | none => false)

/-- The merges on dark hives that accepted writes will bring which the pipeline has not taken in, and the bytes of those writes (R130,
R175). -/
def State.darkComing (s : State) : Nat × Nat :=
  (s.sources.filter fun r => r.live && r.body.isData && !s.rd.ingested.contains r.ordinal).foldl (fun a r => match r.body with
    | .acceptWrite n off _ _ data =>
      let l := s.darkParts n off data.length
      if l.isEmpty then a else (a.1 + l.length, a.2 + 64 * r.units)
    | _ => a) (0, 0)

/-- Partial writes, each an offset and a length, would together add merges to dark hives beyond the 65,536 of R130, or come while those that
wait pin 512 MiB (R175). -/
def State.darkHolds (s : State) (nsid : Nat) (ws : List (Nat × Nat)) : Bool :=
  let parts := ws.flatMap fun w => s.darkParts nsid w.1 w.2
  !parts.isEmpty && (s.md.pinHeld || s.pinned + s.darkComing.2 ≥ 512 * 2 ^ 20 ||
    s.darkMerges + s.darkComing.1 + parts.length > 65536)

/-- One partial write would (R130, R175). -/
def State.darkHold (s : State) (nsid off len : Nat) : Bool := s.darkHolds nsid [(off, len)]

/-- The held commands of a stream before one: it is not accepted before them (R48). -/
def State.streamFirst (s : State) (c : HostCmd) : Bool :=
  match c.stream with
  | none => true
  | some (k, i) =>
    let waits := fun (x : Nat × Nat × Nat) => (s.cmd? x.1 x.2.1 x.2.2).any fun d => match d.kind with
      | .accepted _ => false
      | _ => true
    (((s.stream? k i).map (·.order)).getD []).find? waits == some (c.ctrl, c.qid, c.cid)

/-- Time a command waited before acceptance (counters of 10). -/
def State.countHeld (s : State) (c : HostCmd) : State := s.stat 0x0803 c.ctrl 0 ((s.ck.now - c.atNs) / 1000)

/-- Change a held command. -/
def State.cmd' (s : State) (ctrl qid cid : Nat) (f : HostCmd → HostCmd) : State :=
  s.nv' fun n => { n with cmds := updFirst (fun c => c.ctrl == ctrl && c.qid == qid && c.cid == cid) f n.cmds }

/-- Write the ACCEPT_WRITE records of a byte range; what follows is attached to the last (R165, R170, R404). -/
def State.writeRecs (s : State) (domain nsid off stream ctrl : Nat) (data : Bytes) (after : List After) : State :=
  let ps := (pieces maxBody data).filter (!·.isEmpty)
  s.commitChain domain after ((List.range ps.length).map fun i =>
    .acceptWrite nsid (off + maxBody * i) stream ctrl (ps.getD i []))

/-- A ZERO-mode deallocate enters: parts of chunks as writes of zeros, whole chunks as NS_ZERO items that wait their turn
(R275, R282). -/
def State.zeroRanges (s : State) (c : HostCmd) (n : Namespace) (rs : List (Nat × Nat)) : State :=
  let spans := (rs.filter (·.2 != 0)).map fun r => (4096 * r.1, 4096 * r.2)
  let whole := fun (p : Nat × Nat) => ((p.1 + 16383) / 16384, (p.1 + p.2) / 16384)
  let parts := spans.flatMap fun p =>
    let w := whole p
    if w.1 < w.2 then
      (if p.1 < 16384 * w.1 then [(p.1, 16384 * w.1 - p.1)] else []) ++
        (if 16384 * w.2 < p.1 + p.2 then [(16384 * w.2, p.1 + p.2 - 16384 * w.2)] else [])
    else [p]
  let items := (spans.map whole).filter fun w => w.1 < w.2
  let last := [After.complete c.ctrl c.qid c.cid 0]
  if items.isEmpty then
    match parts.getLast? with
    | none => (s.cqe c.ctrl c.qid c.cid 0 0 false 0 []).dropCmd c.ctrl c.qid c.cid
    | some p =>
      let s := parts.dropLast.foldl (fun t q => t.writeRecs n.domain n.nsid q.1 0 c.ctrl (zeros q.2) []) s
      let s := s.writeRecs n.domain n.nsid p.1 0 c.ctrl (zeros p.2) last
      s.cmd' c.ctrl c.qid c.cid fun x => { x with kind := .accepted (s.wx.nextOrd - 1) }
  else
    let s := parts.foldl (fun t q => t.writeRecs n.domain n.nsid q.1 0 c.ctrl (zeros q.2) []) s
    let o := s.wx.nextOrd
    let s := s.cmd' c.ctrl c.qid c.cid fun x => { x with kind := .zeroing n.nsid o }
    (s.addPending (items.map fun w => (o, .nsZero n.nsid w.1 (w.2 - w.1)))).flushMap

/-- Take held block work in, when nothing holds it (R405): a write or a deallocate is written to the data ring. -/
def State.admitBlock (s : State) (c : HostCmd) : State :=
  match c.kind with
  | .write nsid off data _ =>
    match s.ns? nsid with
    | none => s.failStream c.ctrl c.qid c.cid c.stream nvBadNs
    | some n => match s.writeCheck n off data.length with
      | some st => s.failStream c.ctrl c.qid c.cid c.stream st
      | none =>
        if s.holdsWork || s.rebHolds n.domain || s.darkHold nsid off data.length || !s.streamFirst c then s
        else
          let s := (s.countHeld c).writeRecs n.domain nsid off ((c.stream.map (·.2)).getD 0) c.ctrl data
            [.complete c.ctrl c.qid c.cid 0]
          (s.cmd' c.ctrl c.qid c.cid fun x => { x with kind := .accepted (s.wx.nextOrd - 1) }).judgeRings
  | .deallocate nsid rs =>
    match s.ns? nsid with
    | none => s.failStream c.ctrl c.qid c.cid none nvBadNs
    | some n => match s.writeCheck n 0 0 with
      | some st => s.failStream c.ctrl c.qid c.cid none st
      | none =>
        if s.holdsWork || s.rebHolds n.domain || s.darkHolds nsid (rs.map fun r => (4096 * r.1, 4096 * r.2)) then s
        else ((s.countHeld c).zeroRanges c n rs).judgeRings
  | _ => s

/-- A write of a namespace, of an ordered stream or of none, is judged (R399, R405); one with all of its data is taken in when nothing
holds it, one with a part of it asks for the rest. -/
def State.nvWriteIn (s : State) (e : Sqe) (n : Namespace) (stream : Option (Nat × Nat)) (zeroes : Bool) (off len : Nat) : State :=
  let add := fun (t : State) (k : CmdKind) => t.nv' fun v => { v with
    cmds := v.cmds ++ [⟨e.ctrl, e.qid, e.cid, k, stream, s.ck.now, 0, none⟩] }
  match s.writeCheck n off len with
  | some st => s.failStream e.ctrl e.qid e.cid stream st
  | none =>
    let whole := if zeroes then zeros len else e.data
    if whole.length == len then
      let s := add s (.write n.nsid off whole zeroes)
      match s.cmd? e.ctrl e.qid e.cid with
      | some h => s.admitBlock h
      | none => s
    else if e.data.length > 8192 || e.data.length > len then
      (s.failStream e.ctrl e.qid e.cid stream nvTransport).fatalConn e.conn (if e.data.length > 8192 then 5 else 4)
    else (add s (.writeData n.nsid off len e.data)).send (.r2t e.conn e.cid e.data.length (len - e.data.length))

/-- A write arrives whole or in part: it joins its stream (R399, R405). -/
def State.nvWrite (s : State) (c : Ctrl) (e : Sqe) (zeroes : Bool) : State :=
  let off := 4096 * (e.cdw10.toNat + e.cdw11.toNat * 2 ^ 32)
  let len := 4096 * (e.cdw12.toNat % 65536 + 1)
  let dtype := e.cdw12.toNat / 2 ^ 20 % 16
  let sid := e.cdw13.toNat / 65536
  match s.nsOf c e.nsid with
  | none => s.nvEnd e nvBadNs
  | some n =>
    if dtype = 0 then s.nvWriteIn e n none zeroes off len
    else if dtype != 0xF || !c.orderedWrite || sid == 0 then s.nvEnd e nvBadField
    else match s.joinStream n.nsid sid c.nqn e.ctrl e.qid e.cid with
      | (s, some st) => s.nvEnd e st
      | (s, none) => s.nvWriteIn e n (some (n.nsid, sid)) zeroes off len

/-- Try every held block command of a controller's stream again after one has gone on. -/
def State.admitStream (s : State) (stream : Option (Nat × Nat)) : State :=
  match stream with
  | none => s
  | some _ => (s.nv.cmds.filter fun c => c.stream == stream).foldl (fun t c => t.admitBlock c) s

/-! ## Deallocate (R281, R282, R417) -/

/-- The ranges of a Dataset Management command: first block and blocks. -/
def dsmRanges (data : Bytes) (n : Nat) : List (Nat × Nat) :=
  (List.range n).map fun i => (fld data (16 * i + 8) 8, fld data (16 * i + 4) 4)

/-- An accepted write to a namespace chunk has not been taken in by the pipeline yet. -/
def State.writeComing (s : State) (nsid k : Nat) : Bool :=
  s.sources.any fun r => r.live && r.body.isData && !s.rd.ingested.contains r.ordinal &&
    (r.span.map (spansMeet (nsid, k, k + 1))).getD false

/-- HINT mode: NS_MAP with chunk ID 0 for every chunk that a range covers wholly and that is mapped, or will be by an accepted write that
the pipeline has not taken in yet, after the earlier writes to it; whether the hints are dropped under load is a free value (R281, log
3). -/
def State.hint (s : State) (n : Namespace) (rs : List (Nat × Nat)) : State :=
  let ks := dedupBy (rs.flatMap fun r =>
    let lo := (4096 * r.1 + 16383) / 16384
    let hi := 4096 * (r.1 + r.2) / 16384
    ((List.range (hi - lo)).map (lo + ·)).filter fun k => (s.nsEntry n.nsid k).1 != 0 || s.writeComing n.nsid k)
  if s.drawnNat % 2 = 1 then s.afterDraw.stat 0x0506 n.nsid 0 rs.length
  else (s.afterDraw.addPending (ks.map fun k => (s.wx.nextOrd, .nsMap n.nsid k 0 false))).flushMap

/-- Dataset Management (R417, R418). -/
def State.nvDsm (s : State) (c : Ctrl) (e : Sqe) : State :=
  let rs := dsmRanges e.data (e.cdw10.toNat % 256 + 1)
  match s.nsOf c e.nsid with
  | none => s.nvEnd e nvBadNs
  | some n =>
    if !e.cdw11.getLsbD 2 then s.nvDone e 0 []
    else if rs.any fun r => 4096 * (r.1 + r.2) > n.size then s.nvEnd e nvRange
    else match n.discard with
      | .hint => match if s.readOnly n.domain then some nvWriteProt else s.pathStatus n.domain with
        | some st => s.nvEnd e st
        | none => if s.ordSpent then s.nvEnd e nvExhausted else (s.nvDone e 0 []).hint n rs
      | .zero =>
        let lost := rs.any fun r => r.2 != 0 && (partChunks (4096 * r.1) (4096 * r.2)).any fun k =>
          s.rangeLost n.nsid (16384 * k) 16384
        match s.writeCheck n 0 0 with
        | some st => s.nvEnd e st
        | none =>
          if lost then s.nvEnd e nvUnread
          else
            let h : HostCmd := ⟨e.ctrl, e.qid, e.cid, .deallocate n.nsid rs, none, s.ck.now, 0, none⟩
            (s.nv' fun v => { v with cmds := v.cmds ++ [h] }).admitBlock h

end Sys2Proof.Machine
end

