-- ==== Sys2Proof/Machine/IngestOps.lean ====
section
/-! DEFINITION. Reduction: chunk boundaries (R124 to R127), chunk IDs (R132 to R134), fingerprints and the summary
filter (R136 to R139), the duplicate decision (R142 to R147), landing of sealed chunks (R217, R219), merges (R128 to
R130, R816) and manifests (R433 to R436). -/

namespace Sys2Proof.Machine

/-! ## Chunk boundaries -/

/-- gear[i] (R124). -/
def gear (i : Nat) : Nat := rdLe ((sha256 (ascii "TA7214-gear" ++ le 1 i)).take 8)

/-- The gear table (R124). -/
def gearTable : Array Nat := ((List.range 256).map gear).toArray

/-- Whether the chunker cuts after a byte, by the hash and the length so far (R125). -/
def cutHere (h n : Nat) : Bool :=
  (16384 ≤ n && n < 40960 && h / 2 ^ 47 == 0) || (40960 ≤ n && h / 2 ^ 49 == 0) || n == 262144

/-- Cut a byte stream; `acc` holds the bytes since the last cut, newest first (R125, R126). -/
def cutAux (g : Array Nat) : Nat → Nat → Bytes → Bytes → List Bytes
  | _, _, acc, [] => if acc.isEmpty then [] else [acc.reverse]
  | h, n, acc, b :: bs =>
    let h' := (2 * h + g.getD b.toNat 0) % 2 ^ 64
    if cutHere h' (n + 1) then (b :: acc).reverse :: cutAux g 0 0 [] bs
    else cutAux g h' (n + 1) (b :: acc) bs

/-- The chunks of a byte stream (R125). -/
def cutStream (bs : Bytes) : List Bytes := cutAux gearTable 0 0 [] bs

/-! ## Chunk IDs (R132 to R134) -/

/-- Allocate the next chunk ID: a claim for a new block first, E340 once near the end. -/
def State.allocChunk (s : State) : State × Nat :=
  let o := alignId s.pr.side s.rd.nextChunk
  let s := if o ≥ s.rd.chunkClaim then
      (s.commit 0xFFFF (.chunkClaim (idBlock o)) []).rd' fun r => { r with chunkClaim := idBlock o + 1048576 }
    else s
  let s := s.rd' fun r => { r with nextChunk := o + 1 }
  let s := if alignId s.pr.side s.rd.nextChunk ≥ 0xFFFF00000000 && !s.rd.e340Said then
      (s.rd' fun r => { r with e340Said := true }).ev0 0x340 .critical []
    else s
  (s, o)

/-! ## Fingerprints and the filter -/

/-- The key record of a domain (R689). -/
def State.keyRec (s : State) (d : Nat) : Option DomainKeys := s.ks.recs.find? (·.domain == d)

/-- The fingerprint of content in a domain (R136). -/
def State.fingerprint (s : State) (d : Nat) (content : Bytes) : Bytes :=
  sha256 ((((s.keyRec d).map (·.salt)).getD []) ++ content)

/-- The block of a fingerprint in a filter of `n` blocks (R137). -/
def filterBlock (n : Nat) (fp : Bytes) : Nat := fld fp 0 8 % max 1 n

/-- The bits of a fingerprint in its block (R137). -/
def filterMask (fp : Bytes) : BitVec 512 :=
  (List.range 6).foldl (fun m i => m ||| (1#512 <<< (fld fp 8 8 / 2 ^ (9 * i) % 512))) 0#512

/-- A filter answers that a fingerprint is present. -/
def filterHas (f : List (Nat × BitVec 512)) (blk : Nat) (m : BitVec 512) : Bool :=
  (f.find? (·.1 == blk)).any fun e => e.2 &&& m == m

/-- Set the bits of a fingerprint. -/
def filterAdd (f : List (Nat × BitVec 512)) (blk : Nat) (m : BitVec 512) : List (Nat × BitVec 512) :=
  assocSet f blk ((((f.find? (·.1 == blk)).map (·.2)).getD 0) ||| m)

/-- The filter's answer; both filters are consulted while a new one is built (R137, R139). -/
def State.filterSays (s : State) (fp : Bytes) : Bool :=
  filterHas s.rd.filter (filterBlock s.rd.filterBlocks fp) (filterMask fp) ||
    s.rd.filterNew.any fun f => filterHas f (filterBlock s.rd.filterNewBlocks fp) (filterMask fp)

/-- Set a fingerprint's bits in every filter in use (R138). -/
def State.filterSet (s : State) (fp : Bytes) : State :=
  s.rd' fun r => { r with
    filter := filterAdd r.filter (filterBlock r.filterBlocks fp) (filterMask fp)
    filterNew := r.filterNew.map fun f => filterAdd f (filterBlock r.filterNewBlocks fp) (filterMask fp) }

/-- Count a positive answer; more than 5 % false ones among the last 1,048,576 start a build, and the count begins anew (R139). -/
def State.countPositive (s : State) (wrong : Bool) : State :=
  let s := (s.stat 0x0307 0 0 1).rd' fun r => { r with
    positives := r.positives + 1
    falseAt := (r.falseAt ++ if wrong then [r.positives + 1] else []).filter fun n => r.positives + 1 < n + 1048576 }
  let s := if wrong then s.stat 0x0307 0 1 1 else s
  if s.rd.positives < 1048576 || s.rd.falseAt.length * 100 ≤ 5 * 1048576 || s.rd.filterNew.isSome then s
  else (s.rd' fun r => { r with positives := 0, falseAt := [] }).beginFilter

/-! ## Sealing and landing -/

/-- The compression profile in force for a domain (R123, R159). -/
def State.profile (s : State) (d : Nat) : Nat :=
  if s.setting (0x03000002 + d * 0x100) = 0 then 0
  else match s.md.mode with
    | some .surge => 1
    | some .distil => 3
    | _ => 2

/-- Ingest lanes that are ungated (R123). -/
def State.lanes (s : State) : Nat := if s.inMode .tide then 2 else 8

/-- The open landing stripe that a lane fills. -/
def State.laneStripe (s : State) (lane : Nat) : Option OpenStripe :=
  s.sp.opens.find? fun t => t.purpose == .landing && t.lane == lane && !t.closed

/-- A sealed chunk goes into its lane's open landing stripe; when it does not fit, that stripe is closed, and the chunk
waits for the next one (R155, R217, R218). -/
def State.land (s : State) (key : Nat) (e : EnvEntry) (lane : Nat) : State :=
  let wait := fun (t : State) => t.rd' fun r => { r with landing := r.landing ++ [(key, e, lane)] }
  if s.rd.landing.any fun x => x.2.2 == lane then wait s
  else match s.laneStripe lane with
    | none => wait s
    | some t =>
      if e.len ≤ t.room then
        let s := s.placeEnv t.ord e [key] none (((s.stored? e.chunk).map (·.envelope)).getD [])
        if t.room == e.len then s.closeStripe t.ord else s
      else wait (s.closeStripe t.ord)

/-- What is stored of a new chunk beside its content. -/
structure StoreFlags where
  /-- MANIFEST. -/
  manifest : Bool
  /-- DEFERRED (R147). -/
  deferred : Bool
  /-- BYTE_COMPARE (R147). -/
  byteCompare : Bool
  deriving DecidableEq, Repr

/-- Seal a frame under a chunk ID, and land it (R153, R154). -/
def State.storeFrame (s : State) (key lane d id : Nat) (content frame fp : Bytes) (f : StoreFlags) : State :=
  match s.keyRec d with
  | none => s
  | some k =>
    let p := s.profile d
    let flags := b2n f.manifest + 2 * b2n f.deferred + 4 * b2n f.byteCompare
    let env := sealEnvelope (s.fmt .envelope) (((k.data.find? (·.1 == k.newestData)).map (·.2)).getD []) d id k.newestData p flags content frame
    let s := s.rd' fun r => { r with
      store := r.store.filter (·.id != id) ++ [⟨id, k.newestData, fp, content, env⟩]
      deferred := if f.deferred then r.deferred.filter (·.chunk != id) ++ [⟨id, d, fp, f.byteCompare⟩] else r.deferred }
    let s := (s.stat 0x0306 d 0 env.length).land key ⟨id, d, 0, env.length / 64, f.manifest, f.deferred⟩ lane
    if f.deferred then s.stat 0x0305 d 0 1 else s

/-- The frame of content, and E350 when the compressor's is too long (R152). -/
def State.frameOf (s : State) (d id : Nat) (content : Bytes) : State × Bytes :=
  let p := s.profile d
  let big := p != 0 && (Config.compress p content).length > content.length + 19
  (if big then (s.event 0x350 .error d (le 6 id)).bump 0x030A 0 0 1 else s,
    if big then storedFrame content else makeFrame p content)

/-- Compress and seal content under a chunk ID, and land it (R152 to R154). -/
def State.storeAs (s : State) (key lane d id : Nat) (content fp : Bytes) (f : StoreFlags) : State :=
  if (s.keyRec d).isNone then s
  else
    let (s, frame) := s.frameOf d id content
    s.storeFrame key lane d id content frame fp f

/-- Store content as new: a chunk ID, the index entry and the filter bits, or the deferred mark (R142, R145, R147). -/
def State.storeNew (s : State) (key lane d : Nat) (content fp : Bytes) (f : StoreFlags) (same : Bool) : State × Nat :=
  let (s, id) := s.allocChunk
  let s := if f.manifest then s else s.filterSet fp
  let s := if f.manifest || f.deferred then s
    else (s.rd' fun r => { r with fps := r.fps ++ [⟨d, fp, id, same⟩] }).addPending [(key, .fpInsert d id fp)]
  (s.storeAs key lane d id content fp f, id)

/-! ## The decision (R142 to R147) -/

/-- The compare-only unit compares the lane's fingerprint with a candidate's (R141): MATCH 0x3C/0xC3, MISMATCH 0x96/0x69, and the pair
0/0 when the read of the candidate fails ECC, which is free (R684, log 3). -/
def State.compareOnly (s : State) (lane entry : Bytes) : State × Nat :=
  let pair := if s.drawnNat % 16 == 1 then 0 else if fit 32 lane == fit 32 entry then 0xC33C else 0x6996
  ((s.afterDraw.stat 0x0106 0 0 1).cond (pair == 0xC33C) fun t => t.stat 0x0106 0 1 1, pair)

/-- Begin the self-test of the compare-only unit (R685). -/
def State.beginSelfTest (s : State) : State := s.se' fun v => { v with cmpBusy := 2, cmpStatus := 1#32 }

/-- A pair that is neither MATCH nor MISMATCH: E320, the self-test, and after three within 1 s deferring (R144). -/
def State.cmpFault (s : State) (pair : Nat) : State :=
  let recent := s.rd.cmpFaults.filter (fun t => s.ck.now < t + second) ++ [s.ck.now]
  let s := ((s.bump 0x0308 0 0 1).bump 0x0109 0 0 1).ev0 0x320 .severe (le 2 pair)
  let s := s.rd' fun r => { r with
    cmpFaults := recent, cmpDefer := if recent.length ≥ 3 then some (r.cmpDefer.getD s.ck.now) else r.cmpDefer }
  s.beginSelfTest

/-- What the decision answers. -/
inductive Dup where
  /-- No usable duplicate; the entries whose bytes differ under one fingerprint. -/
  | fresh (clash : List Nat)
  /-- A usable duplicate. -/
  | same (chunk : Nat)
  /-- A lost chunk that the content restores. -/
  | restore (chunk : Nat)
  /-- The candidate lies in a dark hive: deferred and marked for byte compare. -/
  | later
  /-- A compare fault: stored as new (R144). -/
  | fault
  deriving DecidableEq, Repr

/-- A candidate is usable (R143). -/
def State.usable (s : State) (id : Nat) : Bool :=
  match s.chunk? id with
  | none => (s.stored? id).isSome
  | some c => match c.state with
    | .stored => c.refs != 0 || !(s.stripe? c.place.ordinal).any (·.moving)
    | _ => false

/-- Walk the candidates of a fingerprint; in Distil, or for a chunk marked for it, with byte compare. A walk that meets no MATCH was a
false positive of the filter (R139, R142). -/
def State.walkEntries (s : State) (bytewise : Bool) (fp content : Bytes) : List FpEntry → Bool → List Nat → State × Dup
  | [], hit, clash => (s.countPositive !hit, .fresh clash)
  | e :: l, hit, clash =>
    let (s, pair) := s.compareOnly fp e.fp
    if pair == 0x6996 then s.walkEntries bytewise fp content l hit clash
    else if pair != 0xC33C then (s.cmpFault pair, .fault)
    else if (s.chunk? e.chunk).any (fun c => c.state == .dataLost) then (s.countPositive false, .restore e.chunk)
    else if !s.usable e.chunk then s.walkEntries bytewise fp content l true clash
    else if bytewise then match s.chunkBytes e.chunk with
      | (t, .bytes b) => if b == content then (t.countPositive false, .same e.chunk)
        else t.walkEntries bytewise fp content l true (clash ++ [e.chunk])
      | (t, .dark _) => (t.countPositive false, .later)
      | (t, .lost) => t.walkEntries bytewise fp content l true clash
    else (s.countPositive false, .same e.chunk)

/-- Decide a chunk by the filter and the index: the candidates are the entries whose first 8 bytes are those of the fingerprint (R141,
R142). -/
def State.findDup (s : State) (d : Nat) (fp content : Bytes) (bytewise : Bool) (but : Nat) : State × Dup :=
  if !s.filterSays fp then (s, .fresh [])
  else s.walkEntries bytewise fp content
    (s.rd.fps.filter fun e => e.domain == d && e.fp.take 8 == fp.take 8 && e.chunk != but) false []

/-- Chunks are stored as deferred now (R139, R144, R147). -/
def State.defers (s : State) : Bool := s.inMode .surge || !s.rd.filterReady || s.rd.cmpDefer.isSome

/-- A byte compare found different bytes under one fingerprint: VERIFIED_SAME on the entries, E321 (R146). -/
def State.clashes (s : State) (d id : Nat) (clash : List Nat) : State :=
  let s := s.rd' fun r => { r with
    fps := r.fps.map fun e => if clash.contains e.chunk then { e with verifiedSame := true } else e }
  clash.foldl (fun t c => t.event 0x321 .critical d (le 6 id ++ le 6 c)) s

/-- The SHA-256 lanes that are ungated: those that the self-test left, and in Tide 4 of them (R123, R625). -/
def State.shaLanes (s : State) : List Nat :=
  let l := (List.range 16).filter fun i => !s.md.gated.getLsbD (8 + i)
  if s.inMode .tide then l.take 4 else l

/-- A SHA-256 lane in FINGERPRINT mode computed a fingerprint and keeps it (R123, R680, R681); which of the ungated ones is free (log
3). -/
def State.laneKeeps (s : State) (fp : Bytes) : State :=
  let l := s.shaLanes.getD (s.drawnNat % max 1 s.shaLanes.length) 0
  (s.afterDraw.stat 0x0105 0x00001 0 1).se' fun v => { v with
    lanes := (List.range v.lanes.length).zip v.lanes |>.map fun x =>
      if x.1 = l then { x.2 with fp := fp, serial := x.2.serial + 1 } else x.2 }

/-- Take one chunk of a byte stream in: the chunk ID that stands for it (R142). -/
def State.ingestChunk (s : State) (key lane d : Nat) (content : Bytes) : State × Nat :=
  let fp := s.fingerprint d content
  let s := ((s.laneKeeps fp).stat 0x0301 lane 0 1).stat 0x0302 d 0 content.length
  if s.setting (0x03000001 + d * 0x100) = 0 then s.storeNew key lane d content fp ⟨false, false, false⟩ false
  else if s.defers then s.storeNew key lane d content fp ⟨false, true, false⟩ false
  else match s.findDup d fp content (s.inMode .distil) 0 with
    | (s, .same c) => (s.stat 0x0303 d 0 1, c)
    | (s, .restore c) => (s.storeAs key lane d c content fp ⟨false, false, false⟩, c)
    | (s, .later) => s.storeNew key lane d content fp ⟨false, true, true⟩ false
    | (s, .fault) => s.storeNew key lane d content fp ⟨false, false, false⟩ false
    | (s, .fresh clash) =>
      let (s, id) := s.storeNew key lane d content fp ⟨false, false, false⟩ (!clash.isEmpty)
      (s.clashes d id clash, id)

/-! ## Namespace writes (R127 to R131) -/

/-- The map item for one whole namespace chunk: ZERO, or the chunk that its content became (R131). -/
def State.ingestBlock (s : State) (key lane d nsid k : Nat) (content : Bytes) : State :=
  if content.all (· == 0) then s.addPending [(key, .nsMap nsid k 0 true)]
  else
    let (s, id) := s.ingestChunk key lane d content
    s.addPending [(key, .nsMap nsid k id false)]

/-- The chunk a namespace chunk stands for before the write of a record. -/
def State.entryBefore (s : State) (nsid k key : Nat) : Nat :=
  match ((s.comingItems.filter fun e => e.1 == 0 || keyOrder e.1 < keyOrder key).filterMap fun e => MapItem.entry nsid k e.2).getLast? with
  | some e => e.1
  | none => ((s.nsGet nsid k).map (·.chunk)).getD 0

/-- A merge whose chunk lies in a hive that does not serve waits in its gather list (R129, R130). -/
def State.waitMerge (s : State) (nsid k key hive : Nat) : State :=
  let mine := fun (m : Merge) => m.nsid == nsid && m.k == k && m.ordinal == key
  if s.rd.merges.any fun m => mine m && m.dark then s
  else (s.rd' fun r => { r with merges := r.merges.map fun m => if mine m then { m with dark := true } else m }).joinGather hive
    ⟨0, 0, 0, none, 16384, some (nsid, k), false⟩

/-- A partial write of a namespace chunk begins to wait for its merge (R128, R129). -/
def State.beginMerge (s : State) (nsid k key : Nat) : State :=
  let chunk := s.entryBefore nsid k key
  let s := s.rd' fun r => { r with merges := r.merges ++ [⟨nsid, k, key, false⟩] }
  match if chunk = 0 then none else s.hiveOfChunk chunk with
  | some h => if (s.hive? h).any Hive.serves then s else s.waitMerge nsid k key h
  | none => s

/-- Take an accepted write of a namespace in: whole chunks are decided, parts wait for their merges. -/
def State.ingestWrite (s : State) (key lane d nsid off : Nat) (data : Bytes) : State :=
  let first := off / 16384
  let n := (off + data.length + 16383) / 16384 - first
  (List.range n).foldl (fun t i =>
    let k := first + i
    if off ≤ 16384 * k && 16384 * (k + 1) ≤ off + data.length then
      t.ingestBlock key lane d nsid k (slice data (16384 * k - off) 16384)
    else t.beginMerge nsid k key) s

/-- The write of a record to a namespace chunk as it lies over it. -/
def State.writeOver (s : State) (nsid k key : Nat) (base : Bytes) : Bytes :=
  (s.sources.filter fun r => (s.chainOf key).contains r.ordinal).foldl (fun b r => match r.body with
    | .acceptWrite n off _ _ data =>
      let lo := max off (16384 * k)
      let hi := min (off + data.length) (16384 * (k + 1))
      if n == nsid && lo < hi then splice b (lo - 16384 * k) (slice data (lo - off) (hi - lo)) else b
    | _ => b) base

/-- The namespace range of a record's write within a chunk: first byte and length. -/
def State.writeSpan (s : State) (nsid k key : Nat) : Nat × Nat :=
  match s.sources.findSome? fun r => match r.body with
    | .acceptWrite n off _ _ data => if r.ordinal == key && n == nsid then
        some (max off (16384 * k), min (off + data.length) (16384 * (k + 1))) else none
    | _ => none with
  | some p => (p.1, p.2 - p.1)
  | none => (16384 * k, 0)

/-- Form the lowest merge of a namespace chunk and commit it, or wait for its hive; a chunk found lost loses the write
with it: E332, and the ring entry is released (R128, R129, R816). -/
def State.mergeCommit (s : State) (nsid k : Nat) : State :=
  let mine := (s.rd.merges.filter fun m => m.nsid == nsid && m.k == k).sortBy fun a b => keyOrder a.ordinal ≤ keyOrder b.ordinal
  match mine.head?, s.ns? nsid with
  | some m, some n =>
    let earlier := s.sources.any fun r => keyOrder r.ordinal < keyOrder m.ordinal && r.live && r.body.isData &&
      !s.rd.ingested.contains r.ordinal && (r.span.map (spansMeet (nsid, k, k + 1))).getD false
    if earlier then s
    else
      let chunk := s.entryBefore nsid k m.ordinal
      let (s, base) := if chunk = 0 then (s, BlockRead.bytes (zeros 16384)) else s.chunkBytes chunk
      let drop := fun (t : State) => (t.rd' fun r => { r with merges := r.merges.erase m }).keepGather
        fun g => g.merge != some (nsid, k) || t.rd.merges.any fun x => x.nsid == nsid && x.k == k && x.ordinal != m.ordinal && x.dark
      match base with
      | .dark h => s.waitMerge nsid k m.ordinal h
      | .lost =>
        let p := s.writeSpan nsid k m.ordinal
        let s := (drop s).event 0x332 .critical n.domain (le 6 chunk ++ le 4 nsid ++ le 8 p.1 ++ le 4 p.2)
        s.flushMap.releaseDone [m.ordinal]
      | .bytes b =>
        let s := (drop s).ingestBlock m.ordinal (m.ordinal % s.lanes) n.domain nsid k (s.writeOver nsid k m.ordinal (fit 16384 b))
        s.flushMap.releaseDone [m.ordinal]
  | _, _ => s

/-! ## Manifests (R433 to R436) -/

/-- Fields of a manifest header beside its entries. -/
structure ManHead where
  /-- 0 DIRECT, 1 INDEX, 2 PART. -/
  kind : Nat
  /-- Domain. -/
  domain : Nat
  /-- Content bytes covered. -/
  len : Nat
  /-- Part number, 0 unless PART. -/
  part : Nat
  /-- Request token. -/
  token : Bytes
  /-- Digest, its first 16 bytes. -/
  digest : Bytes
  deriving DecidableEq, Repr

/-- A manifest's content (R433). -/
def manifestBytes (fmt : Nat) (h : ManHead) (child : Bool) (es : List (Nat × Nat)) : Bytes :=
  let b := le 4 0x54464E4D ++ le 1 fmt ++ le 1 h.kind ++ le 2 h.domain ++ le 8 h.len ++ le 4 es.length ++ le 4 h.part ++
    fit 16 h.token ++ fit 16 h.digest ++ zeros 4
  b ++ crcBytes b ++ es.flatMap fun e => le 6 e.1 ++ le 2 (b2n child) ++ le 8 e.2

/-- The entries of a manifest: chunk ID, whether it names a manifest, length (R433). -/
def manifestEntries (m : Bytes) : List (Nat × Bool × Nat) :=
  (List.range (min 16380 (fld m 16 4))).map fun i =>
    (fld m (64 + 16 * i) 6, fld m (64 + 16 * i + 6) 2 % 2 == 1, fld m (64 + 16 * i + 8) 8)

/-- Store a manifest: never de-duplicated (R142, R433). -/
def State.storeManifest (s : State) (key lane : Nat) (h : ManHead) (child : Bool) (es : List (Nat × Nat)) : State × Nat :=
  let content := manifestBytes (s.fmt .manifest) h child es
  s.storeNew key lane h.domain content (s.fingerprint h.domain content) ⟨true, false, false⟩ false

/-- The part digest of chunks (R436). -/
def partDigest (fps : List Bytes) : Bytes := sha256 fps.flatten

/-- Put a part's pipeline results in its object, or keep them until it is accepted (R448, R454). -/
def State.putPart (s : State) (p : Part) : State :=
  if s.ob.objs.any fun o => o.parts.any (·.ordinal == p.ordinal) then
    s.ob' fun b => { b with objs := b.objs.map fun o => { o with
      parts := o.parts.map fun x => if x.ordinal == p.ordinal then
        { x with chunks := p.chunks, digest := p.digest, manifest := p.manifest } else x } }
  else s.rd' fun r => { r with built := r.built ++ [(p.ordinal, p)] }

/-- Take an accepted put in: its chunks by content, then its manifest (R122, R125, R126, R448, R454). -/
def State.ingestPut (s : State) (key lane : Nat) (d : PutDesc) (data : Bytes) : State :=
  let (s, es) := (cutStream data).foldl (fun (acc : State × List (Nat × Nat × Bytes)) c =>
    let fp := acc.1.fingerprint d.domain c
    let (t, id) := acc.1.ingestChunk key lane d.domain c
    (t, acc.2 ++ [(id, c.length, fp)])) (s, [])
  let digest := (partDigest (es.map (·.2.2))).take 16
  let entries := es.map fun e => (e.1, e.2.1)
  let (s, m) := s.storeManifest key lane ⟨if d.part = 0 then 0 else 2, d.domain, d.putLen, d.part, d.token, digest⟩ false entries
  s.putPart ⟨d.part, s.partKey key, d.putLen, false, entries, digest, m, false⟩

/-- The pipeline may take a record's stream in: live, not taken in, and accepted, or under the flash rule held locally
(R27, R33, R122). -/
def State.mayIngest (s : State) (r : WaxRec) : Bool :=
  r.live && r.body.isData && !r.continued && !s.rd.ingested.contains r.ordinal &&
    (r.accepted || (s.flashRule && r.localOk))

/-- A waiting reference counts on its chunk no longer: it was freed, or is recorded DATA_LOST and not on its way again (R143). -/
def State.refGone (s : State) (chunk : Nat) : Bool :=
  ((s.chunk? chunk).any fun c => c.state == .free || c.state == .dataLost) &&
    !(s.rd.landing.any fun x => x.2.1.chunk == chunk) && !(s.sp.opens.any fun t => t.envs.any (·.entry.chunk == chunk))

/-- Both outcomes of R143 are decided at commit: the references of a record that wait for a chunk which is usable no longer are decided
again from the record's bytes. -/
def State.redecide (s : State) (key lane : Nat) (r : WaxRec) (rs : List WaxRec) : State :=
  match (rs.head?.map (·.body)).getD r.body with
  | .acceptWrite nsid off _ _ _ =>
    let data := rs.flatMap fun x => match x.body with | .acceptWrite _ _ _ _ b => b | _ => []
    (s.rd.pendingMap.filter fun e => e.1 == key).foldl (fun t e => match e.2 with
      | .nsMap n k c false =>
        if n != nsid || !t.refGone c then t
        else
          let t := t.rd' fun x => { x with pendingMap := x.pendingMap.erase e }
          if off ≤ 16384 * k && 16384 * (k + 1) ≤ off + data.length then
            t.ingestBlock key lane r.domain nsid k (slice data (16384 * k - off) 16384)
          else t.beginMerge nsid k key
      | _ => t) s
  | .acceptPut d _ =>
    let data := rs.flatMap fun x => match x.body with | .acceptPut _ b => b | _ => []
    let parts := (s.rd.built.map (·.2)) ++ (s.ob.objs.filter fun o => o.multi || o.state != .live && o.state != .released).flatMap
      fun o => o.parts.filter (!·.added)
    if parts.any fun p => p.ordinal == s.partKey key && p.chunks.any fun c => s.refGone c.1 then
      (s.rd' fun x => { x with built := x.built.filter (·.1 != s.partKey key) }).ingestPut key lane d data
    else s
  | _ => s

/-- Take the byte stream whose last record has a key through an ingest lane; one taken in before has its waiting references judged again
(R122, R143). -/
def State.ingest (s : State) (key : Nat) : State :=
  match s.sources.find? (·.ordinal == key) with
  | none => s
  | some r =>
    if r.live && r.body.isData && !r.continued && s.rd.ingested.contains key then
      let keys := s.chainOf key
      ((s.redecide key (key % s.lanes) r (s.sources.filter fun x => keys.contains x.ordinal)).flushMap).releaseDone [key]
    else if !s.mayIngest r then s
    else
      let keys := s.chainOf key
      let rs := s.sources.filter fun x => keys.contains x.ordinal
      let lane := key % s.lanes
      let s := s.rd' fun x => { x with ingested := x.ingested ++ keys }
      let s :=
        if (s.keyRec r.domain).isNone then s
        else match (rs.head?.map (·.body)).getD r.body with
          | .acceptWrite nsid off _ _ _ =>
            let data := rs.flatMap fun x => match x.body with | .acceptWrite _ _ _ _ b => b | _ => []
            if (s.ns? nsid).isSome then s.ingestWrite key lane r.domain nsid off data else s
          | .acceptPut d _ =>
            let data := rs.flatMap fun x => match x.body with | .acceptPut _ b => b | _ => []
            if d.abort then s else s.ingestPut key lane d data
          | _ => s
      s.flushMap.releaseDone [key]

/-- A deferred chunk with no usable duplicate gains its index entry and loses its mark; the entry carries VERIFIED_SAME after a byte
compare that found different bytes (R146, R148). -/
def State.keepChunk (s : State) (d : Deferred) (same : Bool) : State :=
  ((s.filterSet d.fp).rd' fun r => { r with fps := r.fps ++ [⟨d.domain, d.fp, d.chunk, same⟩] }).mapChange d.domain [.fpInsert d.domain d.chunk d.fp, .chunkState d.chunk d.domain .stored false false] []

/-- A deferred chunk is marked for byte compare: bit 2 of its envelope's flags, as the pipeline holds it or as it lies in its stripe (R147,
R153). -/
def State.compareMark (s : State) (d : Deferred) : Bool :=
  d.byteCompare || ((s.chunk? d.chunk).bind fun c => (s.stripe? c.place.ordinal).bind fun t => s.envHead t c.place.off).any fun b =>
    fld b 5 1 / 4 % 2 == 1

/-- Build and commit what post-process decides of a deferred chunk; while DEDUP is off, no chunk has a duplicate (R148, R159). The chunks of
this head's domains are decided in chunk-ID order, those of a head that it has taken over among them. A reference waits until the stripe
of the chunk that it names is committed (R44, R145). -/
def State.postProcess (s : State) (chunk : Nat) : State :=
  let ready := s.rd.deferred.filter fun d => s.owns (.domain d.domain) && (s.chunk? d.chunk).any fun c => c.state == .stored
  let runs := s.md.mode.any fun m => acceptsMode m && m != .surge && m != .mend
  match ready.find? (·.chunk == chunk) with
  | none => s
  | some d =>
    if !runs || s.defers || ready.any (·.chunk < chunk) then s
    else match s.chunkBytes chunk with
      | (s, .lost) => s
      | (s, .dark h) => (s.hive' h fun x => { x with houseNeed := true }).askWake h 4
      | (s, .bytes content) =>
        let d := { d with fp := s.fingerprint d.domain content }
        let mark := s.compareMark d || s.inMode .distil
        if s.setting (0x03000001 + d.domain * 0x100) = 0 then s.keepChunk d false
        else match s.findDup d.domain d.fp content mark chunk with
        | (s, .later) => s
        | (s, .same c) =>
          if !s.placed c then s
          else ((s.refChange d.domain [⟨c, 1⟩]).mapChange d.domain [.chunkAlias chunk d.domain c] []).stat 0x0304 d.domain 0 1
        | (s, .restore _) => s.keepChunk d false
        | (s, .fault) => s.keepChunk d false
        | (s, .fresh clash) => (s.keepChunk d !clash.isEmpty).clashes d.domain chunk clash

/-! ## The walk of released manifests (R468) -/

/-- Walk a manifest whose count is 0: its entries give up theirs, and children that reach 0 are walked in their turn; one in a hive
that does not serve asks for its wake (R468). -/
def State.walkManifest (s : State) (domain chunk : Nat) : State :=
  match s.chunkBytes chunk with
  | (s, .bytes m) =>
    let es := manifestEntries m
    let s := s.refChange domain (es.map fun e => ⟨e.1, -1⟩)
    let last := es.filter fun e => e.2.1 && ((s.chunk? e.1).map (·.refs)) == some (es.filter (·.1 == e.1)).length
    s.ob' fun b => { b with
      walks := b.walks.filter (· != (domain, chunk)) ++ dedupBy (last.map fun e => (domain, e.1)) }
  | (s, .dark h) => (s.hive' h fun x => { x with houseNeed := true }).askWake h 4
  | (s, .lost) => s.ob' fun b => { b with walks := b.walks.filter (· != (domain, chunk)) }

/-- At the move of a stripe, the manifests of it that are still to be walked are walked; the fuel is the depth of a manifest tree
(R468). -/
def State.walkStripe (s : State) (t : Stripe) : Nat → State
  | 0 => s
  | n + 1 =>
    let here := s.ob.walks.filter fun w => s.owns (.domain w.1) && (s.chunk? w.2).any fun c =>
      c.state == .stored && c.place.ordinal == t.ord
    (here.foldl (fun u w => u.walkManifest w.1 w.2) s).walkStripe t n

end Sys2Proof.Machine
end

