-- ==== Sys2Proof/Machine/Seal.lean ====
section
/-! DEFINITION. The seal engine (R671 to R679, R690) and the compare-only unit (R683 to R685, R144). -/

namespace Sys2Proof.Machine

/-! ## Keys of handles (R673) -/

/-- A generation of a class key. -/
def ClassKey.gen? (k : ClassKey) (g : Nat) : Option Bytes :=
  ((k.cur.toList ++ k.prev.toList ++ k.pend.toList).find? (·.1 == g)).map (·.2)

/-- A class key by its class. -/
def State.classKey (s : State) (cls gen : Nat) : Option Bytes :=
  match cls with
  | 0 => s.ks.pair.gen? gen
  | 1 => s.ks.colony.gen? gen
  | 2 => s.ks.mgmt.gen? gen
  | 3 => s.ks.metaK
  | 4 => s.ks.root
  | 5 => s.ks.wax
  | 9 => s.ks.sealKey
  | _ => none

/-- Whether an operation is of the XTS pipes. -/
def SealOp.isXts : SealOp → Bool
  | .xtsEnc | .xtsDec => true
  | .cmacGen | .cmacVerify => false

/-- The key that a handle names, if it is held (R673, R691). -/
def State.handleKey (s : State) (r : SealReq) : Option Bytes :=
  if r.keyClass = 6 then
    match s.ks.recs.find? (·.domain == r.keyIndex) with
    | some d => ((if r.keyKind = 1 then d.locs else d.data).find? (·.1 == r.keyGen)).map (·.2)
    | none => none
  else match s.classKey r.keyClass r.keyGen with
    | some w =>
      if r.keyKind = 3 then
        some (if r.op.isXts then kdfC w "TA7214-wrap-xts" [] 64 else kdfC w "TA7214-wrap-mac" [] 32)
      else some w
    | none => none

/-- A request outside the limits of R672, of a class that R675 does not give, or of a handle kind that R673 does not give. -/
def SealReq.bad (r : SealReq) : Bool :=
  r.cls > 3 || r.keyKind > 3 ||
    (if r.op.isXts then r.len % 16 != 0 || r.len < 16 || r.len > 1048576
     else r.len > 1048576 || r.tagLen < 4 || r.tagLen > 16)

/-- A key that does not suit the operation, or an XTS key with equal halves, is refused (R673; BAD_REQUEST is DEDUCED,
log 34). -/
def SealReq.keyBad (r : SealReq) (k : Bytes) : Bool :=
  if r.op.isXts then k.length != 64 || k.take 32 == k.drop 32 else k.length != 32

/-! ## Completions (R674) -/

/-- The pipes of a kind. -/
def SealPart.pipes (v : SealPart) (x : Bool) : List (Option SealMsg) := if x then v.xts else v.cmac

/-- Set the pipes of a kind. -/
def SealPart.setPipes (v : SealPart) (x : Bool) (l : List (Option SealMsg)) : SealPart :=
  if x then { v with xts := l } else { v with cmac := l }

/-- Post finished messages whose queue has no earlier one left, lowest submission first. -/
def State.postAux (s : State) : Nat → State
  | 0 => s
  | n + 1 =>
    match s.se.finished.find? fun m => !(s.se.running ++ s.se.finished).any fun x => x.req.queue == m.req.queue && x.id < m.id with
    | some m =>
      let out := if m.req.op == .cmacVerify || m.status != some 0 then [] else s.bytesAt m.req.dst (if m.req.op.isXts then m.req.len else m.req.tagLen)
      let s := s.send (.sealDone m.req.cookie m.req.queue (m.status.getD 0) out)
      (s.se' fun v => { v with finished := v.finished.erase m }).postAux n
    | none => s

/-- Post what may be posted. -/
def State.post (s : State) : State := s.postAux s.se.finished.length

/-- A message ends with a status. -/
def State.endMsg (s : State) (m : SealMsg) (st : Nat) : State :=
  (s.se' fun v => { v with finished := v.finished ++ [{ m with status := some st, key := [] }] }).post

/-- The output of a message that has run: written where its descriptor says, or the status of its compare. -/
def State.sealOutput (s : State) (m : SealMsg) : State × Nat :=
  let r := m.req
  let data := s.bytesAt r.src r.len
  match r.op with
  | .xtsEnc => (s.putBytes r.dst (xts true m.key r.tweak.toNat data), 0)
  | .xtsDec => (s.putBytes r.dst (xts false m.key r.tweak.toNat data), 0)
  | .cmacGen => (s.putBytes r.dst ((aesCmac m.key data).take r.tagLen), 0)
  | .cmacVerify =>
    if (aesCmac m.key data).take r.tagLen == s.bytesAt r.dst r.tagLen then (s, 0) else (s.bump 0x0108 0 0 1, 1)

/-! ## Pipes and slots (R676 to R678) -/

/-- Change the first pipe whose message satisfies `p`. -/
def swapPipe (p : Option SealMsg → Bool) (m : Option SealMsg) : List (Option SealMsg) → List (Option SealMsg) :=
  updFirst p fun _ => m

/-- Put a message in a free pipe of its kind. -/
def State.runIn (s : State) (was : Option SealMsg) (m : SealMsg) : State :=
  let x := m.req.op.isXts
  s.se' fun v => { v.setPipes x (swapPipe (· == was) (some { m with started := v.startOrd }) (v.pipes x)) with startOrd := v.startOrd + 1 }

/-- The message that a request of class `c` suspends: the highest-numbered class above `c`, the one started last. -/
def victim (l : List (Option SealMsg)) (c : Nat) : Option SealMsg :=
  (l.filterMap id).foldl (fun best m =>
    if m.urgent || m.req.cls ≤ c then best
    else match best with
      | some b => if m.req.cls > b.req.cls || (m.req.cls == b.req.cls && m.started > b.started) then some m else best
      | none => some m) none

/-- A message as it goes to a slot: what it has done by its next block boundary is free (log 3). -/
def State.suspended (s : State) (m : SealMsg) : SealMsg :=
  { m with doneBytes := m.doneBytes + 16 * (s.drawnNat % ((m.req.len - m.doneBytes) / 16 + 1)), suspAt := s.ck.now }

/-- A request that has its key takes a pipe, suspends a message for one, or waits. -/
def State.dispatchMsg (s : State) (m : SealMsg) : State :=
  let l := s.se.pipes m.req.op.isXts
  if l.contains none then s.runIn none m
  else match victim l m.req.cls with
    | some v =>
      if s.se.slots.length < 64 then
        let w := s.suspended v
        (((s.afterDraw.runIn (some v) m).se' fun e => { e with slots := e.slots ++ [w] }).stat 0x0103 0 0 1)
      else
        let s := s.se' fun e => { e with queue := e.queue ++ [{ m with slotAt := some s.ck.now }] }
        if s.se.e100At.any (fun t => s.ck.now < t + second) then s
        else (s.se' fun e => { e with e100At := some s.ck.now }).ev0 0x100 .notice []
    | none => s.se' fun e => { e with queue := e.queue ++ [m] }

/-- Take a request on: its limits, its key, then a pipe. A domain record that is not on chip is fetched first (R690). -/
def State.takeMsg (s : State) (m : SealMsg) : State :=
  if m.req.bad then s.endMsg m 3
  else if m.req.keyClass = 6 && (s.ks.recs.find? (·.domain == m.req.keyIndex)).any (!·.onChip) then
    s.se' fun e => { e with queue := e.queue ++ [{ m with waitKey := true }] }
  else match s.handleKey m.req with
    | none => s.endMsg m 2
    | some k =>
      if m.req.keyBad k then s.endMsg m 3
      else
        let s := if m.req.keyClass = 6 then s.ks' fun v => { v with
            recs := updFirst (·.domain == m.req.keyIndex) (fun r => { r with lastUse := s.ck.now }) v.recs } else s
        s.dispatchMsg { m with key := k, waitKey := false }

/-- SEAL_REQUEST (R671). -/
def execSealRequest (r : SealReq) (s : State) : Host.Outcome State Fault Refusal :=
  let op := match r.op with
    | .xtsEnc => 1 | .xtsDec => 2 | .cmacGen => 3 | .cmacVerify => 4
  let m : SealMsg :=
    { id := s.se.nextId, req := r, doneBytes := 0, started := 0, urgent := false, urgentOrd := 0, suspAt := 0
      status := none, waitKey := false, slotAt := none, key := [] }
  ok (((s.se' fun v => { v with nextId := v.nextId + 1 }).stat 0x0101 (op + 65536 * r.cls) 0 1).takeMsg m)

/-- What takes a pipe that has become free: an urgent message, in the order of becoming urgent; else a waiting request of a
class more urgent than every suspended message; else a suspended message, most urgent class first (R678). -/
def State.nextMsg (s : State) (x : Bool) : Option SealMsg :=
  let best := fun (l : List SealMsg) => l.foldl (fun (b : Option SealMsg) m => match b with
    | some c => if m.req.cls < c.req.cls then some m else b
    | none => some m) none
  let sus := s.se.slots.filter (·.req.op.isXts == x)
  let urg := (sus.filter (·.urgent)).sortBy fun a b => a.urgentOrd ≤ b.urgentOrd
  let wait := s.se.queue.filter fun m => m.req.op.isXts == x && !m.waitKey
  match urg.head?, best (sus.filter (!·.urgent)), best wait with
  | some m, _, _ => some m
  | none, some a, some w => if w.req.cls < a.req.cls then some w else some a
  | none, some a, none => some a
  | none, none, w => w

/-- Fill a free pipe of a kind. -/
def State.refillPipe (s : State) (x : Bool) : State :=
  match s.nextMsg x with
  | some m =>
    let s := if m.urgent then s.stat 0x0103 0 1 1 else s
    let s := match m.slotAt with
      | some t => s.stat 0x0104 0 0 ((s.ck.now - t) / 1000)
      | none => s
    (s.se' fun v => { v with slots := v.slots.erase m, queue := v.queue.erase m }).runIn none { m with slotAt := none }
  | none => s

/-- SEAL_MESSAGE_DONE (R674): a running message has done its last byte. -/
def execSealMessageDone (id : Nat) (s : State) : Host.Outcome State Fault Refusal :=
  ok (match ((s.se.xts ++ s.se.cmac).filterMap (fun p => p)).find? (·.id == id) with
    | none => s
    | some m =>
      let x := m.req.op.isXts
      let op := match m.req.op with
        | .xtsEnc => 1 | .xtsDec => 2 | .cmacGen => 3 | .cmacVerify => 4
      let s := s.se' fun v => v.setPipes x (swapPipe (· == some m) none (v.pipes x))
      let (s, st) := s.sealOutput m
      ((s.stat 0x0102 op 0 m.req.len).endMsg { m with doneBytes := m.req.len } st).refillPipe x)

/-- SEAL_URGENT (R678): a message suspended for 400 µs becomes urgent. Which pipe of its kind reaches a block boundary first
is free (log 3); what it displaces takes its slot. -/
def execSealUrgent (id : Nat) (s : State) : Host.Outcome State Fault Refusal :=
  ok (match s.se.slots.find? fun m => m.id == id && !m.urgent with
    | none => s
    | some m =>
      let u := { m with urgent := true, urgentOrd := s.se.startOrd }
      let s := s.se' fun v => { v with startOrd := v.startOrd + 1, slots := v.slots.map fun a => if a == m then u else a }
      let run := (s.se.pipes m.req.op.isXts).filterMap fun p => p.filter (!·.urgent)
      match run[s.drawnNat % (max 1 run.length)]? with
      | none => s
      | some v =>
        let s := s.afterDraw
        let w := s.suspended v
        (((s.afterDraw.runIn (some v) u).se' fun e => { e with slots := e.slots.map fun a => if a == u then w else a }).stat
          0x0103 0 1 1).stat 0x0103 0 0 1)

/-- The chunks of a domain cannot be opened any more (R41, R690). -/
def State.loseDomain (s : State) (domain : Nat) : State :=
  (s.rd.chunks.filter fun c => c.domain == domain && c.state == .stored).foldl (fun t c => t.loseChunk c.place.ordinal c.hive c) s

/-- DOMAIN_KEY_FETCH (R690). -/
def execDomainKeyFetch (domain : Nat) (s : State) : Host.Outcome State Fault Refusal :=
  let mine := s.se.queue.filter fun m => m.waitKey && m.req.keyIndex == domain
  let s0 := s.se' fun v => { v with queue := v.queue.filter fun m => !(m.waitKey && m.req.keyIndex == domain) }
  ok (match s.ks.recs.find? (·.domain == domain) with
    | none => mine.foldl (fun t m => t.endMsg m 2) s0
    | some r =>
      if r.onChip then mine.foldl State.takeMsg s0
      else
        let t := if r.dramBad then (s0.bump 0x010A 0 0 1).event 0x121 .warn domain [] else s0
        if r.dramBad && r.durableBad then
          let t := mine.foldl (fun t m => t.endMsg m 2) (t.event 0x122 .critical domain [])
          if t.owns (.domain domain) then t.loseDomain domain else t
        else
          let t := t.ks' fun k => { k with recs := updFirst (·.domain == domain) (fun x => { x with
            onChip := true, dramBad := false, lastUse := s.ck.now }) k.recs }
          mine.foldl State.takeMsg ((t.stat 0x0107 0 0 1).evictKeys domain))

/-! ## The compare-only unit -/

/-- CMP_GO with COMPARE (R684). A write while the unit is busy starts nothing (DESIGN CHOICE, log 34). -/
def execCmpGoCompare (s : State) : Host.Outcome State Fault Refusal :=
  ok (if s.se.cmpBusy = 1 || s.se.cmpBusy = 2 then s
    else s.se' fun v => { v with
      cmpBusy := 1, cmpStatus := 1#32, cmpResult := 0
      cmpSerial := ((v.lanes[v.cmpLane.toNat % 16]?).map (·.serial)).getD 0 })

/-- CMP_GO with SELF_TEST (R685). -/
def execCmpGoSelfTest (s : State) : Host.Outcome State Fault Refusal :=
  ok (if s.se.cmpBusy = 1 || s.se.cmpBusy = 2 then s else s.beginSelfTest)

/-- COMPARE_DONE (R683, R684): the candidate's read may fail ECC, and the lane may have begun another message. -/
def execCompareDone (refFault : Bool) (s : State) : Host.Outcome State Fault Refusal :=
  ok (if s.se.cmpBusy != 1 then s
    else
      let lane := (s.se.lanes[s.se.cmpLane.toNat % 16]?).getD ⟨[], 0⟩
      let stale := lane.serial != s.se.cmpSerial
      let same := fit 32 lane.fp == s.bytesAt (s.se.cmpLo.toNat + s.se.cmpHi.toNat * 2 ^ 32) 32
      let status := 2 + (if refFault then 4 else 0) + (if stale then 8 else 0)
      let pair := if refFault || stale then 0 else if same then 0xC33C else 0x6996
      let s := (s.stat 0x0106 0 0 1).cond (pair == 0xC33C) fun t => t.stat 0x0106 0 1 1
      s.se' fun v => { v with cmpBusy := 3, cmpStatus := BitVec.ofNat 32 status, cmpResult := BitVec.ofNat 32 pair })

/-- CMP_RESULT: a read returns the pair and clears it; the read that follows DONE judges it (R684). -/
def execCmpResult (s : State) : Host.Outcome State Fault Refusal :=
  let p := s.se.cmpResult
  let t := (s.send (.cmp (p == 0xC33C#32))).se' fun v => { v with cmpResult := 0, cmpBusy := if v.cmpBusy = 3 then 0 else v.cmpBusy }
  ok (if s.se.cmpBusy = 3 && p != 0xC33C#32 && p != 0x6996#32 then t.cmpFault p.toNat else t)

/-- SELF_TEST_DONE (R685): a pass ends deferring for compare faults (R144). -/
def execSelfTestDone (pass : Bool) (s : State) : Host.Outcome State Fault Refusal :=
  ok (if s.se.cmpBusy != 2 then s
    else
      let s := s.se' fun v => { v with cmpBusy := 0, cmpStatus := if pass then 0x12#32 else 0x02#32 }
      if pass then s.rd' fun r => { r with cmpDefer := none } else s.ev0 0x111 .error [])

/-- COMPARE_SELFTEST_RETRY: while it defers for compare faults, the head runs the self-test every 1 s (R144). -/
def execCompareSelftestRetry (s : State) : Host.Outcome State Fault Refusal :=
  ok (match s.rd.cmpDefer with
    | some t => if s.ck.now < t + second || s.se.cmpBusy = 1 || s.se.cmpBusy = 2 then s
        else s.beginSelfTest.rd' fun r => { r with cmpDefer := some s.ck.now }
    | none => s)

/-- DIGEST_REGISTER_WRITE (R683): CMP_LANE, CMP_REF_LO, whose low five bits are zero, and CMP_REF_HI; other offsets of the
block take no write. -/
def execDigestRegisterWrite (off : Nat) (word : BitVec 32) (s : State) : Host.Outcome State Fault Refusal :=
  ok (s.se' fun v =>
    if off = 0 then { v with cmpLane := word &&& 0xF#32 }
    else if off = 4 then { v with cmpLo := word &&& 0xFFFFFFE0#32 }
    else if off = 8 then { v with cmpHi := word }
    else v)

end Sys2Proof.Machine
end

