-- ==== Sys2Proof/Machine/AlarmOps.lean ====
section
/-! DEFINITION. The propolis alarm (R705 to R707) and the loss of the device's clocks and supplies (R792, R793, R796). -/

namespace Sys2Proof.Machine

/-- The stages of R706, once an alarm latches: bit 0 mesh, 1 temperature, 2 supply glitch, 3 clock glitch. -/
def State.propolisAlarm (s : State) (cause : BitVec 4) : State :=
  let check := match s.ks.wax with
    | some k => checkValue k
    | none => s.ks.waxCheck
  let none_ : ClassKey := ⟨none, none, none, 0⟩
  let s := s.ks' fun k => { k with
    pair := none_, colony := none_, mgmt := none_, metaK := none, root := none, wax := none
    identity := none, exchange := none, sealKey := none, waxCheck := check, sealState := 2, sealSeq := k.sealSeq + 1
    recs := k.recs.map fun (r : DomainKeys) => { r with onChip := false } }
  let s := (s.se' fun v => { v with
    xts := [], cmac := [], slots := [], queue := []
    finished := v.finished ++ v.running.map fun (m : SealMsg) => { m with status := some 4, key := [] } }).post
  let s := (s.se' fun _ => State.reset.se).bt' fun b => { b with attestKey := false }
  let s := ((List.range 4).filter fun i => cause.getLsbD i).foldl (fun t i => t.bump 0x010B i 0 1) s
  let s := s.pw' fun p => { p with alarm := cause, alarmStands := p.alarmStands ||| cause, alarmClearSince := none, alarmAt := s.ck.rtc }
  let s := ((s.lastGasp 0x130 .fatal [BitVec.ofNat 8 cause.toNat]).silence).resetNow 5
  s.pw' fun p => { p with inReset := true, alarm := cause }

/-- The sentinel holds the device in reset until POWER_ON_RESET_RELEASE (R790, R793, R796). -/
def State.holdReset (s : State) (cause : Nat) : State := (s.resetDevice cause).pw' fun p => { p with inReset := true }

end Sys2Proof.Machine
end

