-- ==== Sys2Proof/Machine/LocOps.lean ====
section
/-! DEFINITION. Locators and objects: sealing and checking a locator (R430, R431, R442), resolving it (R299, R444),
puts and their repeats (R446 to R457), reading (R458 to R460), the status block (R461) and waiting (R450). -/

namespace Sys2Proof.Machine

/-! ## Statuses (R445) -/

/-- LOCATOR_INVALID. -/
def locInvalid : NvStatus := (7, 0xC8, true)
/-- LOCATOR_STALE. -/
def locStale : NvStatus := (7, 0xC9, true)
/-- LOCATOR_KEY_RETIRED. -/
def locRetired : NvStatus := (7, 0xCA, true)
/-- TOKEN_CONFLICT. -/
def locConflict : NvStatus := (7, 0xCB, true)
/-- ALREADY_RELEASED. -/
def locReleased : NvStatus := (7, 0xCC, true)
/-- RETENTION_LOCKED. -/
def locLocked : NvStatus := (7, 0xCD, true)
/-- LOCATOR_PENDING. -/
def locPending : NvStatus := (7, 0xCE, false)
/-- PART_MISMATCH. -/
def locMismatch : NvStatus := (7, 0xCF, true)
/-- UNKNOWN_TOKEN. -/
def locUnknown : NvStatus := (7, 0xD0, true)
/-- OPEN_OBJECT_LIMIT. -/
def locOpenLimit : NvStatus := (7, 0xD1, false)
/-- OBJECT_TOO_LARGE. -/
def locTooLarge : NvStatus := (7, 0xD2, true)

/-! ## The locator -/

/-- The 32 bytes of a presented locator (R441). -/
def Sqe.locator (e : Sqe) : Bytes :=
  [e.cdw2, e.cdw3, e.cdw10, e.cdw11, e.cdw12, e.cdw13, e.cdw14, e.cdw15].flatMap fun w => le 4 w.toNat

/-- The place a locator's bytes 8 to 15 hold (R5, R430). -/
def locPlace (l : Bytes) : Place := ⟨fld l 8 6, fld l 14 2⟩

/-- The tag of a locator under a key (R430, R431). -/
def locTag (key l : Bytes) : Bytes := (aesCmac key (l.take 24)).take 8

/-- The locator of a live object, sealed under the newest generation (R430 to R432). -/
def State.locatorOf (s : State) (o : Obj) : Bytes :=
  match s.chunk? o.top, s.keyRec o.domain with
  | some c, some k =>
    let l := [1#8] ++ le 1 (b2n o.multi) ++ le 2 o.domain ++ le 1 c.hive ++ le 1 (k.newestLoc % 256) ++ zeros 2 ++
      le 6 c.place.ordinal ++ le 2 c.place.off ++ le 8 o.len
    l ++ locTag (((k.locs.find? (·.1 == k.newestLoc)).map (·.2)).getD []) l
  | _, _ => zeros 32

/-- Where the steps of R442 before the command's own fields lead. -/
def State.locCheck (s : State) (c : Ctrl) (l : Bytes) : State × Option NvStatus :=
  let d := fld l 2 2
  if fld l 0 1 != 1 || fld l 1 1 > 1 || fld l 6 2 != 0 then (s, some locInvalid)
  else if (s.domain? d).isNone || !s.admits d c.nqn then (s, some locInvalid)
  else match s.pathStatus d with
    | some st => (s, some st)
    | none =>
      match ((s.keyRec d).map (·.locs)).bind fun ks => ks.find? fun k => k.1 % 256 == fld l 5 1 with
      | none => (s, some locRetired)
      | some k =>
        if locTag k.2 l == slice l 24 8 then (s, none)
        else ((s.event 0x811 .warn d (le 2 d ++ le 8 (fld l 8 8))).bump 0x1806 0 0 1, some locInvalid)

/-- What resolving a locator gives (R299, R444). -/
inductive LocRes where
  /-- The manifest's chunk, and the ledger entry that led to it. -/
  | found (chunk : Nat) (via : Option LedgerEntry)
  /-- The envelope header lies in a hive that is not READY. -/
  | wait (hive : Nat)
  /-- No manifest. -/
  | stale
  deriving DecidableEq, Repr

/-- Resolve a place of a domain (R299): by the ledger, or by the envelope header that lies there, which waits for its hive and combs. -/
def State.resolve (s : State) (d : Nat) (p : Place) : LocRes :=
  match s.vo.ledger.find? fun e => e.old == p && e.domain == d with
  | some e =>
    if (s.chunk? e.chunk).any fun c => c.state == .stored && c.manifest && c.domain == d then .found e.chunk (some e)
    else .stale
  | none => match s.stripe? p.ordinal with
    | none => .stale
    | some t =>
      if t.released then .stale
      else if !((s.hive? t.hive).any Hive.serves) || s.readWaits t p.off 1 then .wait t.hive
      else match (s.envHead t p.off).map fun b => fld b 8 6 with
        | some id => if (s.chunk? id).any fun c => c.state == .stored && c.manifest && c.domain == d && c.place == p then .found id none
          else .stale
        | none => .stale

/-- The object whose record names a top manifest (R437). -/
def State.objOfTop (s : State) (d chunk : Nat) : Option Obj :=
  s.ob.objs.find? fun o => o.domain == d && o.top == chunk && (o.state == ObjState.live || o.state == ObjState.released)

/-! ## Retention (R469, R470) -/

/-- A retention time in minutes lies in the future, or cannot be told to have passed (R470, R752). -/
def State.retained (s : State) (minutes : Nat) : Bool :=
  minutes != 0 && (!s.isAligned || s.ck.now ≤ minutes * 60 * second)

/-- An object as the OBJECT_STATE items already committed leave it (R472). -/
def State.objNow (s : State) (o : Obj) : Obj :=
  (s.wx.own.filter fun r => !r.accepted).foldl (fun o r => match r.body with
    | .mapChange is => is.foldl (fun o i => match i with
      | .objectState _ k rel retain => if k == o.key then
          { o with retain := retain, state := if rel then .released else o.state } else o
      | _ => o) o
    | _ => o) o

/-! ## The status block (R461) -/

/-- State codes (R437). -/
def ObjState.num : ObjState → Nat
  | .opened => 0 | .accepted => 1 | .live => 2 | .released => 3

/-- Ticks of a ledger entry's life (R300). -/
def State.ledgerLife (s : State) : Nat := s.setting 0x04000015 * 86400000

/-- The status block of an object (R461). -/
def State.objBlock (s : State) (o : Obj) (via : Option LedgerEntry) : Bytes :=
  let sealed := o.state == ObjState.live || o.state == ObjState.released
  let c := s.chunk? o.top
  let h := (c.bind fun c => if c.state == .stored then s.hive? c.hive else none)
  let folded := (c.bind fun c => s.stripe? c.place.ordinal).any fun t => t.region == .honey
  (if sealed then s.locatorOf o else zeros 32) ++ le 8 o.len ++ le 1 o.state.num ++
    le 1 (b2n via.isSome + 2 * b2n folded + 4 * b2n (s.retained o.retain) + 8 * b2n o.multi) ++
    le 1 ((h.map fun x => hiveStateN x.state).getD 0) ++ zeros 1 ++
    le 4 ((h.map fun x => (s.wakeTime x + second - 1) / second).getD 0) ++ le 8 o.retain ++ le 8 o.created ++
    le 4 (if o.multi then (o.parts.filter (·.accepted)).length else 0) ++ zeros 4 ++
    le 8 ((via.map fun e => e.created + s.ledgerLife).getD 0) ++ fit 16 o.token ++ zeros 32

/-! ## Reading an object (R458 to R460) -/

/-- The part of a leaf's content, which begins at byte `off` of the object, that lies in `[lo, hi)`. -/
def State.leafPart (s : State) (chunk off lo hi : Nat) : State × BlockRead :=
  match s.chunkBytes chunk with
  | (s, .bytes b) => (s, .bytes (slice b (lo - off) (min hi (off + b.length) - max lo off)))
  | r => r

/-- The leaves of a manifest within `[lo, hi)`, in tree order; the fuel bounds the depth of the tree (R434, R459). -/
def State.walkMan : Nat → State → Nat → Nat → Nat → Nat → State × List BlockRead
  | 0, s, _, _, _, _ => (s, [])
  | n + 1, s, chunk, off, lo, hi => match s.chunkBytes chunk with
    | (s, .bytes m) =>
      let r := (manifestEntries m).foldl (fun (acc : State × Nat × List BlockRead) e =>
        let (t, p, out) := acc
        if p + e.2.2 ≤ lo || hi ≤ p || e.2.2 = 0 then (t, p + e.2.2, out)
        else if e.2.1 then
          let (t, l) := State.walkMan n t e.1 p lo hi
          (t, p + e.2.2, out ++ l)
        else
          let (t, l) := t.leafPart e.1 p lo hi
          (t, p + e.2.2, out ++ [l])) (s, off, [])
      (r.1, r.2.2)
    | (s, r) => (s, [r])

/-- Complete a LOC_GET when every hive of its range serves; otherwise it joins or stays in their gather lists (R459,
R460). `first` gives the patience of one that is not on a list yet. -/
def State.tryGet (s : State) (ctrl qid cid : Nat) (o : Obj) (off len : Nat) (reloc : Bool) (first : Option Nat) : State :=
  let n := min len (o.len - off)
  let (s, rs) := if n = 0 then (s, []) else State.walkMan 4 s o.top 0 off (off + n)
  let stop := fun (t : State) (st : NvStatus) => (t.leaveGather ctrl qid cid).failCmd ctrl qid cid st.1 st.2.1 st.2.2
  if rs.any (· == .lost) then stop s nvUnread
  else if (darkOf rs).isEmpty then
    let s := (s.leaveGather ctrl qid cid).cqe ctrl qid cid 0 0 false (BitVec.ofNat 32 (n + 2 ^ 31 * b2n reloc)) (fit len (bytesOf rs))
    s.dropCmd ctrl qid cid
  else match first with
    | none => match s.regather ctrl qid cid (darkOf rs) with
      | (t, some st) => stop t st
      | (t, none) => t
    | some p => match s.gather ctrl qid cid p (darkOf rs) with
      | (t, some st) => stop t st
      | (t, none) => t.nv' fun v => { v with
          cmds := v.cmds ++ [⟨ctrl, qid, cid, .locGet o.key o.top off len reloc, none, s.ck.now, s.ck.now + p, none⟩] }

/-! ## Commands that present a locator -/

/-- The transfer length and the fields of a command that presents a locator (R440, R441); the offset of a LOC_GET does not pass the object,
whose length the locator gives (R430, R458). -/
def Sqe.locFields (e : Sqe) : Bool :=
  e.cdw4.toNat ≤ 86400 &&
    (match e.opc with
      | 0x82 => e.xfer % 4096 == 0 && e.xfer ≤ 1048576 && decide (4096 * e.cdw5.toNat ≤ fld e.locator 16 8)
      | 0x86 => e.xfer == 128
      | 0x8A => e.xfer == 128
      | _ => e.xfer == 0)

/-- Hold a locator command in a hive's gather list (R444). -/
def State.locWait (s : State) (e : Sqe) (hive : Nat) (first : Bool) : State :=
  let p := e.cdw4.toNat * second
  if !first then s
  else match s.gather e.ctrl e.qid e.cid p [(hive, 64)] with
    | (t, some st) => t.nvEnd e st
    | (t, none) => t.nv' fun v => { v with
        cmds := v.cmds ++ [⟨e.ctrl, e.qid, e.cid, .loc e, none, s.ck.now, s.ck.now + p, none⟩] }

/-- The command is no longer held. -/
def State.unhold (s : State) (e : Sqe) : State := (s.leaveGather e.ctrl e.qid e.cid).dropCmd e.ctrl e.qid e.cid

/-- LOC_RELEASE and LOC_SEAL are new work: refused in Quiesce and when the ordinals or the identifiers are spent (R134), and held before acceptance while new work
is held (R27, R45, R405, R407); what is held is tried again by ACCEPTANCE_RESUME. -/
def State.locChange (s : State) (e : Sqe) (o : Obj) (released : Bool) (retain : Nat) : State :=
  if s.inMode .quiesce then s.nvEnd e nvNotReady
  else if s.idsSpent || s.ordSpent then s.nvEnd e nvExhausted
  else if s.holdsWork || s.rebHolds o.domain then
    s.nv' fun v => { v with cmds := v.cmds ++ [⟨e.ctrl, e.qid, e.cid, .loc e, none, s.ck.now, 0, none⟩] }
  else s.mapChange o.domain [.objectState o.domain o.key released retain] [.complete e.ctrl e.qid e.cid 0]

/-- What a resolved command does to its object: step 9 of R442 and the effect. `patience` is what is left of the command's (R459). -/
def State.locDo (s : State) (e : Sqe) (o : Obj) (via : Option LedgerEntry) (patience : Nat) : State :=
  if o.state == ObjState.released then s.nvEnd e locReleased
  else match e.opc with
    | 0x82 =>
      let off := 4096 * e.cdw5.toNat
      if off > o.len then s.nvEnd e nvBadField
      else
        let s := s.stat 0x1803 o.domain 0 1
        (if via.isSome then s.stat 0x1803 o.domain 1 1 else s).tryGet e.ctrl e.qid e.cid o off e.xfer via.isSome
          (some patience)
    | 0x86 => s.nvDone e 0 (s.objBlock o via)
    | 0x8A =>
      let drops := via.isSome && !e.cdw5.getLsbD 0 && !s.inMode .quiesce
      -- the drop needs a commit record (R45)
      if drops && s.ordSpent then s.nvEnd e nvExhausted
      else
      let s := (s.nvDone e 0 (s.objBlock o via)).stat 0x1804 o.domain 0 1
      match via with
      | some v => if !drops then s
        else (s.mapChange o.domain [.ledgerDrop o.domain v.old] []).stat 0x1804 o.domain 1 1
      | none => s
    | 0x8C =>
      let n := s.objNow o
      if s.readOnly o.domain then s.nvEnd e nvWriteProt
      else if n.state == ObjState.released then s.nvEnd e locReleased
      else if s.retained n.retain then s.nvEnd e locLocked
      else s.locChange e o true n.retain
    | _ =>
      let n := s.objNow o
      let t := e.cdw5.toNat % 2 ^ 31
      if s.readOnly o.domain then s.nvEnd e nvWriteProt
      else if n.state == ObjState.released then s.nvEnd e locReleased
      else if t < n.retain then s.nvEnd e locLocked
      else if t == n.retain then s.nvDone e 0 []
      else s.locChange e o false t

/-- A command that presents a locator, from step 2 of R442 on. -/
def State.locRun (s : State) (c : Ctrl) (e : Sqe) (first : Bool) : State :=
  let l := e.locator
  match s.locCheck c l with
  | (s, some st) => (if first then s else s.unhold e).nvEnd e st
  | (s, none) =>
    if !e.locFields then (if first then s else s.unhold e).nvEnd e nvBadField
    else match s.resolve (fld l 2 2) (locPlace l) with
      | .wait h => s.locWait e h first
      | .stale => ((if first then s else s.unhold e).stat 0x1803 (fld l 2 2) 2 1).nvEnd e locStale
      | .found chunk via =>
        let patience := if first then e.cdw4.toNat * second
          else ((s.cmd? e.ctrl e.qid e.cid).map fun h => h.deadline - s.ck.now).getD 0
        let s := if first then s else s.unhold e
        match s.objOfTop (fld l 2 2) chunk with
        | none => (s.stat 0x1803 (fld l 2 2) 2 1).nvEnd e locStale
        | some o => s.locDo e o via patience

/-- LOC_STAT in token form (R450, R462). -/
def State.statToken (s : State) (c : Ctrl) (e : Sqe) (first : Bool) : State :=
  let d := e.cdw14.toNat % 65536
  let token := [e.cdw10, e.cdw11, e.cdw12, e.cdw13].flatMap fun w => le 4 w.toNat
  let free := fun (t : State) => if first then t else t.unhold e
  if (s.domain? d).isNone || !s.admits d c.nqn then (free s).nvEnd e nvBadField
  else match s.pathStatus d with
    | some st => (free s).nvEnd e st
    | none =>
      if !e.locFields then (free s).nvEnd e nvBadField
      else match s.objOfToken d token with
        | none => (free s).nvEnd e locUnknown
        | some o =>
          if o.state == ObjState.accepted then
            if !first then s
            else if e.cdw4 = 0 then s.nvEnd e locPending
            else s.nv' fun v => { v with cmds := v.cmds ++
              [⟨e.ctrl, e.qid, e.cid, .loc e, none, s.ck.now, s.ck.now + e.cdw4.toNat * second, none⟩] }
          else if o.state == ObjState.released then (free s).nvEnd e locReleased
          else (free s).nvDone e 0 (s.objBlock o none)

/-- Every locator command that is no put: the NSID, then its form (R440, R441). -/
def State.locCmd (s : State) (c : Ctrl) (e : Sqe) (first : Bool) : State :=
  if e.nsid != 0xFFFFFFFF then s.nvEnd e nvBadNs
  else if e.opc = 0x86 && e.cdw5.getLsbD 0 then s.statToken c e first
  else s.locRun c e first

/-! ## Puts (R446 to R457) -/

/-- A descriptor suits its command (R446, R447). -/
def putFields (e : Sqe) (d : PutDesc) : Bool :=
  e.xfer == 64 + d.putLen && e.xfer ≤ 1048576 && crcBytes (e.data.take 60) == slice e.data 60 4 &&
    d.domain == e.cdw10.toNat % 65536 &&
    (if e.opc = 0x81 then d.part == 0 && d.objLen == d.putLen && !d.last && !d.abort && !d.reset
      else if d.abort then d.part == 0 && d.putLen == 0 else 1 ≤ d.part && d.part ≤ 33554432)

/-- The refusals of R407 that apply to a put. -/
def State.putCheck (s : State) : Option NvStatus :=
  if s.inMode .quiesce then some nvNotReady
  else if s.idsSpent || s.ordSpent then some nvExhausted
  else none

/-- The original of a repeated put: object length, put length, and its digest once it can be compared (R451). -/
def State.original (s : State) (c : HostCmd) (d : PutDesc) : Option (Nat × Nat × Option Bytes) :=
  if d.token.all (· == 0) || d.abort then none
  else
    let same : PutDesc → Bool := fun x =>
      x.domain == d.domain && x.token == d.token && (d.part == 0 || x.part == d.part) && !x.abort
    let indexed : Option (Nat × Nat × Option Bytes) := match s.objOfToken d.domain d.token with
      | some o =>
        if d.part = 0 then
          some (o.len, o.len, if o.state == ObjState.live || o.state == ObjState.released then some o.digest else none)
        else (o.parts.find? fun p => p.num == d.part).map fun p =>
          (o.len, p.len, if p.manifest != 0 then some p.digest else none)
      | none => (none : Option (Nat × Nat × Option Bytes))
    match indexed with
    | some x => some x
    | none =>
      let flying : Option PutDesc := s.wx.own.findSome? fun r => match r.body with
        | .acceptPut x _ => if !r.accepted && same x then some x else none
        | _ => none
      let held : Option PutDesc := (s.nv.cmds.takeWhile fun x => !(x.ctrl == c.ctrl && x.qid == c.qid && x.cid == c.cid)).findSome? fun x =>
        match x.kind with
        | .put y _ => if same y then some y else none
        -- a put whose descriptor is here and whose data is still being collected
        | .loc e => if (e.opc == 0x81 || e.opc == 0x85) && x.deadline != 1 && same (putDesc e.data) then some (putDesc e.data) else none
        | _ => none
      (flying.orElse fun _ => held).map fun x => (x.objLen, x.putLen, none)

/-- The digest of a repeat, from its receive buffer (R451). -/
def State.repeatDigest (s : State) (d : PutDesc) (data : Bytes) : Bytes :=
  (partDigest ((cutStream data).map (s.fingerprint d.domain))).take 16

/-- The parts of objects whose records are written and not yet accepted. -/
def State.partsFlying (s : State) : List PutDesc :=
  s.wx.own.filterMap fun r => match r.body with
    | .acceptPut x _ => if !r.accepted && x.part != 0 then some x else none
    | _ => none

/-- What the object of a part refuses it for (R453, R455, R457): parts written and not yet accepted stand with those accepted, and a
part that comes while the finishing part is written meets the object finished. -/
def State.partCheck (s : State) (d : PutDesc) : Option NvStatus :=
  let o := if d.token.all (· == 0) then none else s.objOfToken d.domain d.token
  if d.abort then (if o.any fun o => o.state == ObjState.opened then none else some locUnknown)
  else
    let ps := (o.map (·.parts)).getD []
    let flying := s.partsFlying
    let same := if d.token.all (· == 0) then [] else flying.filter fun x => x.domain == d.domain && x.token == d.token
    let above := same.any fun x => x.part > d.part
    let opening := (dedupBy (flying.map fun x => (x.domain, x.token))).filter fun x => (s.objOfToken x.1 x.2).isNone
    if (o.any fun o => o.state != ObjState.opened || o.len != d.objLen) || same.any fun x => x.last || x.objLen != d.objLen then
      some locMismatch
    else if d.last then
      if ps.all (·.accepted) && ps.length + 1 == d.part && ps.all (·.num < d.part) && !above &&
          (ps.map (·.len)).sum + d.putLen == d.objLen then none
      else some locMismatch
    else if o.isNone && same.isEmpty && (s.ob.objs.filter fun o => o.state == ObjState.opened).length + opening.length ≥ 65536 then
      some locOpenLimit
    else none

/-- Write the ACCEPT_PUT records of a put (R448, R454). -/
def State.putRecs (s : State) (d : PutDesc) (data : Bytes) (after : List After) : State :=
  let ps := (pieces (maxBody - 64) data).filter (!·.isEmpty)
  s.commitChain d.domain after (if ps.isEmpty then [.acceptPut d []] else ps.map fun b => .acceptPut d b)

/-- Take a held put in: a repeat is compared, any other is written to the data ring when nothing holds it (R447 to R457). -/
def State.admitPut (s : State) (c : HostCmd) : State :=
  let put := match c.kind with
    | .put d data => some (d, data)
    | .repeatPut d data => some (d, data)
    | _ => none
  match put with
  | none => s
  | some (d, data) =>
    let fail := fun (t : State) (st : NvStatus) => t.failStream c.ctrl c.qid c.cid c.stream st
    match s.original c d with
    | some (olen, plen, dig) =>
      if olen != d.objLen || (d.part != 0 && plen != d.putLen) then fail (s.stat 0x1801 d.domain 3 1) locConflict
      else match dig with
        | none => s.cmd' c.ctrl c.qid c.cid fun x => { x with kind := .repeatPut d data }
        | some g =>
          if s.repeatDigest d data == g then (s.stat 0x1801 d.domain 2 1).endCmd c.ctrl c.qid c.cid 1
          else fail (s.stat 0x1801 d.domain 3 1) locConflict
    | none =>
      match if d.part = 0 && !d.abort then none else s.partCheck d with
      | some st => fail s st
      | none => match s.putCheck with
        | some st => fail s st
        | none =>
          if s.holdsWork || s.rebHolds d.domain || !s.streamFirst c then
            s.cmd' c.ctrl c.qid c.cid fun x => { x with kind := .put d data }
          else
            let s := ((s.countHeld c).stat 0x1801 d.domain (if d.part = 0 then 0 else 1) 1).putRecs d data
              [.complete c.ctrl c.qid c.cid 0]
            (s.cmd' c.ctrl c.qid c.cid fun x => { x with kind := .accepted (s.wx.nextOrd - 1) }).judgeRings

/-- A put that names a stream ends as it arrives: the stream is broken (R411, R452). -/
def State.refusePut (s : State) (c : Ctrl) (e : Sqe) (d : PutDesc) (st : NvStatus) : State :=
  let s := s.nvEnd e st
  if d.stream = 0 then s else s.spoilStream (65536 + e.cdw10.toNat % 65536) d.stream c.nqn (e.ctrl, e.qid)

/-- A put whose descriptor is here: its checks, its stream, and its data (R442, R446, R447, R452). -/
def State.putArrive (s : State) (c : Ctrl) (e : Sqe) : State :=
  let d := putDesc e.data
  let dom := e.cdw10.toNat % 65536
  let key := 65536 + dom
  if (s.domain? dom).isNone || !s.admits dom c.nqn then s.nvEnd e nvBadField
  else
    -- RESET_STREAM comes before the put's own checks: it is the stream's first put after the reset (R452)
    let s := if d.reset && (s.stream? key d.stream).any (·.nqn == c.nqn) then s.stream' key d.stream fun t => { t with broken := false } else s
    match s.pathStatus dom with
    | some st => s.refusePut c e d st
    | none =>
      if !putFields e d then s.refusePut c e d nvBadField
      else if (s.domain? dom).any (·.replica) then s.refusePut c e d nvWriteProt
      else if d.objLen > 2 ^ 44 then s.refusePut c e d locTooLarge
      else
        let stream := if d.stream = 0 then none else some (key, d.stream)
        match if d.stream = 0 then (s, none) else s.joinStream key d.stream c.nqn e.ctrl e.qid e.cid with
        | (s, some st) => s.nvEnd e st
        | (s, none) => match s.putCheck with
          | some st => s.failStream e.ctrl e.qid e.cid stream st
          | none =>
            let add := fun (t : State) (k : CmdKind) => t.nv' fun v => { v with
              cmds := v.cmds ++ [⟨e.ctrl, e.qid, e.cid, k, stream, s.ck.now, 0, none⟩] }
            if e.data.length == e.xfer then
              let s := add s (.put d (e.data.drop 64))
              match s.cmd? e.ctrl e.qid e.cid with
              | some h => s.admitPut h
              | none => s
            else (add s (.loc e)).send (.r2t e.conn e.cid e.data.length (e.xfer - e.data.length))

/-- LOC_PUT and LOC_PUT_PART as they arrive; one whose descriptor was not in the capsule waits for it, its deadline field being 1
(R392, R440). -/
def State.locPut (s : State) (c : Ctrl) (e : Sqe) : State :=
  if e.nsid != 0xFFFFFFFF then s.nvEnd e nvBadNs
  else if e.data.length > 8192 || e.data.length > e.xfer then (s.nvEnd e nvTransport).fatalConn e.conn (if e.data.length > 8192 then 5 else 4)
  else if 64 ≤ e.data.length || e.data.length == e.xfer || e.xfer > 1048576 then s.putArrive c e
  else (s.nv' fun v => { v with
    cmds := v.cmds ++ [⟨e.ctrl, e.qid, e.cid, .loc e, none, s.ck.now, 1, none⟩] }).send
      (.r2t e.conn e.cid e.data.length (e.xfer - e.data.length))

/-- More data of a put under an R2T (R392, R393). -/
def State.morePut (s : State) (h : HostCmd) (e : Sqe) (conn off : Nat) (data : Bytes) (digestOk : Bool) : State :=
  if !digestOk then
    let s := s.bump 0x0806 conn 1 1
    s.failStream h.ctrl h.qid h.cid h.stream nvTransport
  else if off != e.data.length || data.isEmpty || e.data.length + data.length > e.xfer || data.length > 131072 then
    s.fatalConn conn 2
  else
    let e' := { e with data := e.data ++ data }
    if e'.data.length < e.xfer then s.cmd' h.ctrl h.qid h.cid fun x => { x with kind := .loc e' }
    else if h.deadline == 1 then
      match s.ctrl? h.ctrl with
      | some c => (s.dropCmd h.ctrl h.qid h.cid).putArrive c e'
      | none => s
    else
      let d := putDesc e'.data
      if !putFields e' d then s.failStream h.ctrl h.qid h.cid h.stream nvBadField
      else
        let s := s.cmd' h.ctrl h.qid h.cid fun x => { x with kind := .put d (e'.data.drop 64) }
        match s.cmd? h.ctrl h.qid h.cid with
        | some x => s.admitPut x
        | none => s

/-! ## Going on -/

/-- A put command's opcode. -/
def Sqe.isPut (e : Sqe) : Bool := e.opc == 0x81 || e.opc == 0x85

/-- Try a held locator command again: a repeat, or a LOC_STAT that waits for OBJECT_CREATE (R450, R451). -/
def State.locAgain (s : State) (h : HostCmd) : State :=
  match h.kind with
  | .repeatPut _ _ => s.admitPut h
  | .loc e => if e.isPut then s else match s.ctrl? h.ctrl with
    | some c => if e.opc = 0x86 && e.cdw5.getLsbD 0 then s.statToken c e false else s
    | none => s
  | _ => s

/-- After acceptance: what waited for an original or for OBJECT_CREATE goes on. -/
def State.locWake (s : State) : State := s.nv.cmds.foldl State.locAgain s

/-- Accept whatever may be accepted, and let what waited for it go on. -/
def State.settle (s : State) : State := s.accept.locWake

/-- A hive serves: its gather list is served by deadline; a read leaves it when everything it needs is there (R370,
R371). -/
def State.serveGather (s : State) (hive : Nat) : State :=
  match s.hive? hive with
  | none => s
  | some x =>
    let list := gatherOrder x.gather
    let s := list.foldl (fun t g => match g.merge with
      | some (nsid, k) => (t.rd' fun r => { r with
          merges := r.merges.map fun m => if m.nsid == nsid && m.k == k then { m with dark := false } else m }).keepGather
            fun y => y.merge != some (nsid, k)
      | none => match t.cmd? g.ctrl g.qid g.cid with
        | some h => match h.kind with
          | .read nsid slba nlb => t.tryRead g.ctrl g.qid g.cid nsid slba nlb none
          | .locGet key _ off len reloc => match t.obj? key with
            | some o => t.tryGet g.ctrl g.qid g.cid o off len reloc none
            | none => t
          | .loc e => match t.ctrl? g.ctrl with
            | some c => if e.isPut then t else t.locRun c e false
            | none => t
          | _ => t
        | none => t) s
    let left := ((s.hive? hive).map (·.gather)).getD []
    -- the reads that members were given up for have been served (R231)
    let s := s.sp' fun p => { p with givenUp := p.givenUp.filter fun e => !(s.stripe? e.1).any (·.hive == hive) }
    s.stat 0x0704 hive 1 (list.length - left.length)

end Sys2Proof.Machine
end

