-- ==== Sys2Proof/Machine/Nvme.lean ====
section
/-! DEFINITION. NVMe/TCP: connections, controllers, admin and I/O commands (R388 to R429, R464, R731, R732). Offsets of
Identify structures and log pages are the standard's (PRESUMED, log 40). -/

namespace Sys2Proof.Machine

/-! ## Connections -/

/-- The next connection number of the model. -/
def State.nextConn (s : State) : Nat :=
  1 + ((s.nv.conns.map (·.id)) ++ s.vk.mgConns ++ s.vk.attConns).foldl max 0

/-- A TCP connection is asked for: accepted, or reset at a limit (R83, R390, R644); the fabric is served on the active port of each pair
alone (R20). -/
def execTcpConnectionRequest (svc : TcpSvc) (fpair : Nat × Nat) (s : State) : Host.Outcome State Fault Refusal :=
  ok (
    let id := s.nextConn
    if s.md.stopped || s.md.halted || s.pw.sleep.isSome || s.md.recovery || (s.md.keyErased && svc != .attestation) then s
    else match svc with
    | .mg => (s.vk' fun v => { v with mgConns := v.mgConns ++ [id] }).send (.tcpAccept id)
    | .attestation =>
      if s.vk.attConns.length ≥ 4 || !(s.bt.inService || s.md.keyErased) then s.send (.tcpReset svc)
      else (s.vk' fun v => { v with attConns := v.attConns ++ [id] }).send (.tcpAccept id)
    | .nvme | .discovery =>
      if !s.fabricOn fpair.1 fpair.2 then s
      else if s.nv.conns.length ≥ 16384 then
        let s := (s.send (.tcpReset svc)).stat 0x0805 0 1 1
        if s.nv.e801At.all fun t => t + 10 * second ≤ s.ck.now then
          (s.nv' fun n => { n with e801At := some s.ck.now }).ev0 0x801 .notice []
        else s
      else
        let c : Conn :=
          { id := id, disc := svc == .discovery, fpair := fpair.1, state := .open, hdgst := false, ddgst := false, hpda := 0
            maxR2t := 0, ctrl := none, qid := 0, unsent := 0 }
        ((s.nv' fun n => { n with conns := n.conns ++ [c] }).stat 0x0805 0 0 1).send (.tcpAccept id))

/-- ICReq: ICResp with the digests asked for; a PFV other than 0, an HPDA above 31 or a second ICReq ends the connection
(R391, R393). -/
def execIcreq (conn pfv hpda : Nat) (hdgst ddgst : Bool) (maxR2t : Nat) (s : State) : Host.Outcome State Fault Refusal :=
  ok (match s.nv.conns.find? (·.id == conn) with
    | none => s
    | some c =>
      if c.state == .ready then s.fatalConn conn 2
      else if pfv != 0 || hpda > 31 then s.fatalConn conn 6
      else (s.nv' fun n => { n with
        conns := updFirst (·.id == conn) (fun c => { c with
          state := .ready, hdgst := hdgst, ddgst := ddgst, hpda := hpda, maxR2t := maxR2t }) n.conns }).send
        (.icResp conn hdgst ddgst))

/-- A fatal transport error; a header digest error (fatal error status 3) is counted for its connection (R393). -/
def execFatalTransportError (conn fes : Nat) (s : State) : Host.Outcome State Fault Refusal :=
  ok ((if fes = 3 && s.nv.conns.any (·.id == conn) then s.bump 0x0806 conn 0 1 else s).fatalConn conn fes)

/-- H2CData for a command under an R2T: a data digest error ends the command; data out of sequence is fatal; the last
data brings the write in (R392, R393). -/
def execH2cdata (conn cid off : Nat) (data : Bytes) (digestOk : Bool) (s : State) : Host.Outcome State Fault Refusal :=
  ok (match s.nv.conns.find? (·.id == conn) with
    | none => s
    | some c =>
      match c.ctrl.bind fun k => s.cmd? k c.qid cid with
      | none => s.fatalConn conn 2
      | some h => match h.kind with
        | .writeData nsid o len got =>
          if !digestOk then
            (s.bump 0x0806 conn 1 1).failStream h.ctrl h.qid h.cid h.stream nvTransport
          else if off != got.length || data.isEmpty || got.length + data.length > len || data.length > 131072 then
            s.fatalConn conn 2
          else
            let all := got ++ data
            if all.length == len then
              let s := s.cmd' h.ctrl h.qid h.cid fun x => { x with kind := .write nsid o all false }
              match s.cmd? h.ctrl h.qid h.cid with
              | some h => (s.admitBlock h).admitStream h.stream
              | none => s
            else s.cmd' h.ctrl h.qid h.cid fun x => { x with kind := .writeData nsid o len all }
        | .loc e => if e.isPut then s.morePut h e conn off data digestOk else s.fatalConn conn 2
        | _ => s.fatalConn conn 2)

/-- The host or the network ends a connection: NVMe/TCP, Virkan on MG or attestation (R91, R394). -/
def execTcpConnectionEnd (conn : Nat) (s : State) : Host.Outcome State Fault Refusal :=
  ok (if s.nv.conns.any (·.id == conn) then s.endConn conn
    else (s.closeVia (.mg conn)).vk' fun v => { v with
      mgConns := v.mgConns.filter (· != conn), attConns := v.attConns.filter (· != conn) })

/-- TCP retransmits what it has sent and not had acknowledged; nothing of it is sent twice to the NVMe layer (R424). -/
def execTcpRetransmissionTimeout (conn : Nat) (s : State) : Host.Outcome State Fault Refusal :=
  ok (if s.nv.conns.any (·.id == conn) then s.send (.tcpResend conn) else s)

/-! ## Controllers -/

/-- Hexadecimal digits of a number, most significant first. -/
def hexDigits : Nat → Nat → Bytes
  | 0, _ => []
  | n + 1, v => hexDigits n (v / 16) ++ [BitVec.ofNat 8 (if v % 16 < 10 then 48 + v % 16 else 87 + v % 16)]

/-- The NVM subsystem's name (R397). -/
def State.subnqn (s : State) : Bytes := ascii "nqn.2019-07.com.drabomund:tiraita:" ++ hexDigits 16 s.nv.apiarySerial

/-- The name of every discovery subsystem (the standard's). -/
def discoveryNqn : Bytes := ascii "nqn.2014-08.org.nvmexpress.discovery"

/-- The first controller ID of this side (R395). -/
def State.firstCtrl (s : State) : Nat := 1 + 0x400 * sideN s.pr.side

/-- A controller ID that is free, and was not given up within 10 s (R395). -/
def State.freeCtrl (s : State) : Option Nat :=
  ((List.range 0x400).map (s.firstCtrl + ·)).find? fun i =>
    !s.nv.ctrls.any (·.id == i) && !s.nv.ended.any fun e => e.1 == i && s.ck.now < e.2 + 10 * second

/-- Some domain lists a host (R396). -/
def State.knownHost (s : State) (nqn : Bytes) : Bool := s.vo.domains.any fun d => s.admits d.id nqn

/-- No asynchronous events: nothing enabled, WARN selected for Tiraita events (R425, R731). -/
def freshAer : Aer :=
  { held := [], cfg := 0, nsPending := false, nsMasked := false, anaPending := false, anaMasked := false
    smartPending := false, smartMasked := false, evPending := false, evMasked := false, nsList := [], evList := []
    anaCount := 0, evFeature := 3 }

/-- Bind a connection to a queue of a controller. -/
def State.bindConn (s : State) (conn ctrl qid : Nat) : State :=
  s.nv' fun n => { n with
    conns := updFirst (·.id == conn) (fun c => { c with ctrl := some ctrl, qid := qid }) n.conns }

/-- CONNECT (R388, R395 to R398). -/
def State.nvConnect (s : State) (x : NvConnect) : State :=
  let fail := fun (t : State) (st : NvStatus) => t.cqe 0 x.qid x.cid st.1 st.2.1 st.2.2 0 []
  match s.nv.conns.find? (·.id == x.conn) with
  | none => s
  | some c =>
    if c.state != .ready then s.fatalConn x.conn 2
    else if c.ctrl.isSome then fail s (0, 0x0C, true)
    else if x.subnqn != (if c.disc then discoveryNqn else s.subnqn) then fail s nvBadParams
    else if x.qid = 0 then
      if x.cntlid != 0xFFFF then fail s nvBadParams
      else if x.kato < 5000 || x.kato > 120000 then fail s nvBadParams
      else if !c.disc && !s.knownHost x.nqn then fail s nvBadHost
      else if x.sqsize > 127 || s.nv.ctrls.length ≥ 1024 then fail s nvBusy
      else match s.freeCtrl with
        | none => fail s nvBusy
        | some id =>
          let k : Ctrl :=
            { id := id, nqn := x.nqn, kato := x.kato, kaAt := s.ck.now, queues := [], discovery := c.disc
              orderedWrite := false, aer := freshAer, features := [] }
          ((s.nv' fun n => { n with ctrls := n.ctrls ++ [k] }).bindConn x.conn id 0).cqe 0 0 x.cid 0 0 false
            (BitVec.ofNat 32 id) []
    else match s.ctrl? x.cntlid with
      | none => fail s nvBadParams
      | some k =>
        if k.discovery || k.nqn != x.nqn then fail s nvBadParams
        else if !s.knownHost x.nqn then fail s nvBadHost
        else if k.queues.contains x.qid then fail s (0, 0x0C, true)
        else if x.sqsize > 1023 || k.queues.length ≥ 64 then fail s nvBusy
        else ((s.ctrl' k.id fun k => { k with queues := k.queues ++ [x.qid] }).bindConn x.conn k.id x.qid).cqe 0 x.qid
          x.cid 0 0 false (BitVec.ofNat 32 k.id) []

/-- CONNECT (R396). -/
def execConnect (c : NvConnect) (s : State) : Host.Outcome State Fault Refusal := ok (s.nvConnect c)

/-- KEEP_ALIVE restarts the timer (R398). -/
def execKeepAlive (e : Sqe) (s : State) : Host.Outcome State Fault Refusal :=
  ok (s.nvme e fun c s => (s.ctrl' c.id fun c => { c with kaAt := s.ck.now }).nvDone e 0 [])

/-- The keep-alive timeout: the association ends, E805 (R398). -/
def execKeepAliveTimeout (ctrl : Nat) (s : State) : Host.Outcome State Fault Refusal :=
  ok (match s.ctrl? ctrl with
    | some c => if c.kaAt + c.kato * milli ≤ s.ck.now then (s.ev0 0x805 .warn (le 2 ctrl)).endAssoc ctrl else s
    | none => s)

/-! ## Identify (R402) -/

/-- Write fields into a structure of `n` bytes: offset and bytes. -/
def layOut (n : Nat) (fs : List (Nat × Bytes)) : Bytes := fs.foldl (fun b f => splice b f.1 f.2) (zeros n)

/-- Identify Controller (R402); ANACAP: Optimized, Inaccessible, Change, and an ANAGRPID that does not change. -/
def State.idCtrl (s : State) (c : Ctrl) : Bytes :=
  layOut 4096
    ([ (76, le 1 0x0B), (77, le 1 8), (78, le 2 c.id), (111, le 1 (if c.discovery then 2 else 1)), (259, le 1 7)
     , (320, le 2 1), (342, le 1 1), (343, le 1 0x55), (344, le 4 65536), (348, le 4 65536), (512, le 1 0x66)
     , (513, le 1 0x44), (516, le 4 16384), (520, le 2 0x000C), (525, le 1 0), (526, le 2 255), (528, le 2 255)
     , (768, fit 256 (if c.discovery then discoveryNqn else s.subnqn)), (1792, le 4 516), (1796, le 4 1) ])

/-- Map entries of a tree whose chunk ID is not 0; the levels bound the depth. -/
def State.treeCount (s : State) (d : Nat) : Nat → Nat → Nat
  | 0, key => (((s.page? d key).map (·.ents)).getD []).countP (·.chunk != 0)
  | n + 1, key => ((((s.page? d key).map (·.kids)).getD []).map fun k => s.treeCount d n k.2).sum

/-- Identify Namespace (R402). -/
def State.idNs (s : State) (n : Namespace) : Bytes :=
  layOut 4096
    ([ (0, le 8 (n.size / 4096)), (8, le 8 (n.size / 4096)), (16, le 8 (4 * s.treeCount n.domain n.depth n.root))
     , (24, le 1 0x13), (30, le 1 1), (33, le 1 (if n.discard == .zero then 0x09 else 0x08)), (34, le 2 255)
     , (36, le 2 255), (64, le 2 3), (66, le 2 3), (68, le 2 3), (70, le 2 3), (72, le 2 255)
     , (92, le 4 (n.domain + 1)), (128, le 4 0x000C0000) ])

/-- Namespaces a controller's host may reach, ascending (R397). -/
def State.nsReached (s : State) (c : Ctrl) : List Namespace :=
  (s.vo.nss.filter fun n => s.admits n.domain c.nqn).sortBy fun a b => a.nsid ≤ b.nsid

/-- IDENTIFY by CNS: 0 namespace, 1 controller, 2 active namespaces, 3 identifiers, 5 and 6 of the NVM command set, 8
namespace of any command set; the rest of the standard's CNS values are not supported (R388, R402). -/
def State.nvIdentify (s : State) (c : Ctrl) (e : Sqe) : State :=
  let cns := e.cdw10.toNat % 256
  let csi := e.cdw11.toNat / 2 ^ 24
  let ns := s.nsOf c e.nsid
  if cns = 1 then s.nvDone e 0 (s.idCtrl c)
  else if c.discovery then s.nvEnd e nvBadField
  else if cns = 0 then
    match ns with
    | some n => s.nvDone e 0 (s.idNs n)
    | none => if e.nsid = 0 || e.nsid > 16384 then s.nvEnd e nvBadNs else s.nvDone e 0 (zeros 4096)
  else if cns = 2 then
    if e.nsid ≥ 0xFFFFFFFE then s.nvEnd e nvBadNs
    else s.nvDone e 0 (fit 4096 ((((s.nsReached c).map (·.nsid)).filter (e.nsid < ·)).take 1024 |>.flatMap (le 4)))
  else if cns = 3 then
    match ns with
    | some n => s.nvDone e 0 (layOut 4096 [(0, [2#8, 16#8]), (4, le 8 s.nv.apiarySerial ++ le 8 n.nsid), (20, [4#8, 1#8])])
    | none => s.nvEnd e nvBadNs
  else if cns = 5 && csi = 0 then
    match ns with
    | some _ => s.nvDone e 0 (zeros 4096)
    | none => s.nvEnd e nvBadNs
  else if cns = 6 && csi = 0 then s.nvDone e 0 (layOut 4096 [(1, le 1 8)])
  else if cns = 8 then
    match ns with
    | some n => s.nvDone e 0 (layOut 4096 [(0, le 1 0x10), (1, le 1 1), (8, le 4 (n.domain + 1)), (14, le 1 1)])
    | none => s.nvEnd e nvBadNs
  else s.nvEnd e nvBadField

/-- IDENTIFY (R402). -/
def execIdentify (e : Sqe) (s : State) : Host.Outcome State Fault Refusal := ok (s.nvme e fun c s => s.nvIdentify c e)

/-! ## Log pages (R389, R422, R426, R427, R464, R732) -/

/-- An event record's 64 bytes (R713). -/
def Report0.record (r : Report0) (seq : Nat) : Bytes :=
  let b := le 8 seq ++ le 8 r.atNs ++ le 2 r.code ++ le 1 (sevN r.sev) ++ le 1 r.src ++ le 4 r.count ++ le 2 r.domain ++
    fit 34 r.detail
  b ++ crcBytes b

/-- E004, made for one reader (R730, R732). -/
def lostRecord (now n lo hi sev : Nat) : Bytes :=
  (Report0.mk 4 (sevOf sev) 0 0xFFFF n (fit 34 (le 8 lo ++ le 8 hi)) now).record (2 ^ 64 - 1)

/-- ANA state of a domain on this head: 1 Optimized, 3 Inaccessible, 15 Change (R422). -/
def State.anaState (s : State) (d : Domain) : Nat :=
  if s.inMode .rejoin then 3
  else if d.replaying || d.changing then 15
  else if s.owns (.domain d.id) then 1
  else if s.pr.declared && s.pr.fence != 0 && s.pr.fence != 5 && s.pr.fenceFor == 0 then 15
  else 3

/-- Log page 0x0C: a group for every domain the controller reaches. -/
def State.logAna (s : State) (c : Ctrl) : Bytes :=
  let ds := (s.reached c).filterMap s.domain?
  le 8 c.aer.anaCount ++ le 2 ds.length ++ zeros 6 ++ ds.flatMap fun d =>
    let ns := (s.nsReached c).filter (·.domain == d.id)
    le 4 (d.id + 1) ++ le 4 ns.length ++ le 8 c.aer.anaCount ++ le 1 (s.anaState d) ++ zeros 15 ++
      ns.flatMap fun n => le 4 n.nsid

/-- Log page 0x02: Tj in kelvins, and Critical Warning bit 2 while a reachable chunk is DATA_LOST (R427). -/
def State.logSmart (s : State) (c : Ctrl) : Bytes :=
  let lost := s.rd.chunks.any fun k => k.state == .dataLost && s.admits k.domain c.nqn
  layOut 512 [(0, le 1 (if lost then 4 else 0)), (1, le 2 (s.pw.tj / 16 + 273).toNat)]

/-- Log page 0xC0: E004 when records were lost or overwritten, then the records not yet read (R427, R732). -/
def State.logEvents (s : State) (c : Ctrl) : Bytes :=
  let have_ := c.aer.evList.filterMap fun q => s.ev.ring.find? (·.seq == q)
  let passed := c.aer.evList.filter fun q => !s.ev.ring.any (·.seq == q)
  let lost := s.ev.ctlLost.find? (·.1 == c.id)
  let n := ((lost.map (·.2.1)).getD 0) + passed.length
  let lo := ((passed ++ (lost.map (·.2.2.1)).toList).min?).getD 0
  let hi := (passed ++ (lost.map (·.2.2.2.1)).toList).foldl max 0
  (if n = 0 then [] else lostRecord s.stamp n lo hi ((lost.map (·.2.2.2.2)).getD 0)) ++
    (have_.sortBy fun a b => a.seq ≤ b.seq).flatMap fun r => r.rep.record r.seq

/-- The tick at which a ledger entry ages out (R464). -/
def State.ledgerEnd (s : State) (l : LedgerEntry) : Nat := l.created + s.setting 0x04000015 * 86400000

/-- Log page 0xC2: ledger entries created at or after a tick, of the domains reached (R464). -/
def State.logLedger (s : State) (c : Ctrl) (from_ : Nat) : Bytes :=
  let es := (s.vo.ledger.filter fun l => from_ ≤ l.created && s.admits l.domain c.nqn).sortBy fun a b =>
    a.created ≤ b.created
  es.flatMap fun l => le 2 l.domain ++ zeros 6 ++ le 6 l.old.ordinal ++ le 2 l.old.off ++ le 8 l.created ++
    le 8 (s.ledgerEnd l)

/-- The discovery log page: each head's four fabric pairs by IPv4 and IPv6; the addresses, which no rule gives the head a
register for, are free (R389, log 40). -/
def State.logDiscovery (s : State) : Bytes :=
  let recs := (List.range 16).map fun i =>
    layOut 1024 [(0, le 1 3), (1, le 1 (1 + i % 2)), (2, le 1 2), (3, le 1 2), (4, le 2 (i / 2)), (6, le 2 0xFFFF)
      , (8, le 2 128), (32, fit 32 (ascii "4420")), (256, fit 256 s.subnqn)
      , (512, fit 256 (ownAddrs.getD i [])), (768, le 1 0)]
  layOut 1024 [(8, le 8 16)] ++ recs.flatten

/-- The part of a page that a command asks for. -/
def logSlice (e : Sqe) (page : Bytes) : Bytes :=
  let n := 4 * (e.cdw10.toNat / 65536 + e.cdw11.toNat % 65536 * 65536 + 1)
  fit n (slice page (e.cdw12.toNat + e.cdw13.toNat * 2 ^ 32) n)

/-- GET_LOG_PAGE: reading with Retain Asynchronous Event clear re-arms the page's event (R426). -/
def State.nvGetLog (s : State) (c : Ctrl) (e : Sqe) : State :=
  let lid := e.cdw10.toNat % 256
  let arm := fun (t : State) (f : Aer → Aer) => if e.cdw10.getLsbD 15 then t else t.ctrl' c.id fun x => { x with aer := f x.aer }
  let n := 4 * (e.cdw10.toNat / 65536 + e.cdw11.toNat % 65536 * 65536 + 1)
  if lid = 0x70 && c.discovery then s.nvDone e 0 (logSlice e s.logDiscovery)
  else if c.discovery then s.nvEnd e (1, 0x09, true)
  else if lid = 0x01 || lid = 0x03 then s.nvDone e 0 (zeros n)
  else if lid = 0x02 then (arm s fun a => { a with smartMasked := false }).nvDone e 0 (logSlice e (s.logSmart c))
  else if lid = 0x04 then
    let page := fit 4096 (c.aer.nsList.flatMap (le 4))
    (arm s fun a => { a with nsMasked := false, nsPending := false, nsList := [] }).nvDone e 0 (logSlice e page)
  else if lid = 0x0C then (arm s fun a => { a with anaMasked := false }).nvDone e 0 (logSlice e (s.logAna c))
  else if lid = 0xC0 then
    let page := s.logEvents c
    let head := if page.length / 64 > (c.aer.evList.filter fun q => s.ev.ring.any (·.seq == q)).length then 1 else 0
    let took := n / 64 - head
    let have_ := (c.aer.evList.filter fun q => s.ev.ring.any (·.seq == q)).sortBy (· ≤ ·)
    let s := if n / 64 = 0 then s else (s.ctrl' c.id fun x => { x with
        aer := { x.aer with evList := have_.drop took, evMasked := x.aer.evMasked && e.cdw10.getLsbD 15 } }).ev' fun v =>
        { v with ctlLost := v.ctlLost.filter (·.1 != c.id) }
    s.nvDone e 0 (fit n (page.take (n / 64 * 64)))
  else if lid = 0xC2 then s.nvDone e 0 (fit n ((s.logLedger c (e.cdw12.toNat + e.cdw13.toNat * 2 ^ 32)).take (n / 32 * 32)))
  else s.nvEnd e (1, 0x09, true)

/-- GET_LOG_PAGE (R427). -/
def execGetLogPage (e : Sqe) (s : State) : Host.Outcome State Fault Refusal := ok (s.nvme e fun c s => s.nvGetLog c e)

/-! ## Features (R388, R398, R425, R731) -/

/-- SET_FEATURES: Number of Queues, Asynchronous Event Configuration, Keep Alive Timer and the vendor feature 0xC0. -/
def State.nvSetFeature (s : State) (c : Ctrl) (e : Sqe) : State :=
  let fid := e.cdw10.toNat % 256
  if fid = 0x07 then s.nvDone e (63 + 63 * 65536) []
  else if fid = 0x0B then
    ((s.ctrl' c.id fun x => { x with aer := { x.aer with cfg := e.cdw11 } }).nvDone e 0 []).aerPump
  else if fid = 0x0F then
    if e.cdw11.toNat < 5000 || e.cdw11.toNat > 120000 then s.nvEnd e nvBadField
    else (s.ctrl' c.id fun x => { x with kato := e.cdw11.toNat, kaAt := s.ck.now }).nvDone e 0 []
  else if fid = 0xC0 then
    (s.ctrl' c.id fun x => { x with aer := { x.aer with evFeature := e.cdw11 &&& 7 } }).nvDone e 0 []
  else s.nvEnd e nvBadField

/-- SET_FEATURES (R731). -/
def execSetFeatures (e : Sqe) (s : State) : Host.Outcome State Fault Refusal :=
  ok (s.nvme e fun c s => s.nvSetFeature c e)

/-- GET_FEATURES (R388). -/
def execGetFeatures (e : Sqe) (s : State) : Host.Outcome State Fault Refusal :=
  ok (s.nvme e fun c s =>
    let fid := e.cdw10.toNat % 256
    if fid = 0x07 then s.nvDone e (63 + 63 * 65536) []
    else if fid = 0x0B then s.nvDone e c.aer.cfg.toNat []
    else if fid = 0x0F then s.nvDone e c.kato []
    else if fid = 0xC0 then s.nvDone e c.aer.evFeature.toNat []
    else s.nvEnd e nvBadField)

/-! ## Asynchronous events, Abort, directives -/

/-- ASYNCHRONOUS_EVENT_REQUEST: held, at most 8, until there is something to report (R425, R426). -/
def execAsynchronousEventRequest (e : Sqe) (s : State) : Host.Outcome State Fault Refusal :=
  ok (s.nvme e fun c s =>
    if c.aer.held.length ≥ 8 then s.nvEnd e (1, 0x05, true)
    else (s.ctrl' c.id fun x => { x with aer := { x.aer with held := x.aer.held ++ [e.cid] } }).aerPump)

/-- Command Aborted by Request for a held command (R400). -/
def State.abortCmd (s : State) (h : HostCmd) : State :=
  (s.leaveGather h.ctrl h.qid h.cid).failStream h.ctrl h.qid h.cid h.stream nvAborted

/-- ABORT: DW0 bit 0 is 0 when the command was aborted (R400). -/
def execAbort (e : Sqe) (s : State) : Host.Outcome State Fault Refusal :=
  ok (s.nvme e fun c s =>
    let qid := e.cdw10.toNat % 65536
    let cid := e.cdw10.toNat / 65536
    if qid = 0 && c.aer.held.contains cid then
      ((s.ctrl' c.id fun x => { x with aer := { x.aer with held := x.aer.held.erase cid } }).cqe c.id 0 cid nvAborted.1
        nvAborted.2.1 nvAborted.2.2 0 []).nvDone e 0 []
    else match s.cmd? c.id qid cid with
      | none => s.nvDone e 1 []
      | some h => match h.kind with
        | .accepted _ => s.nvDone e 1 []
        | .zeroing _ _ => s.nvDone e 1 []
        | _ => (s.abortCmd h).nvDone e 0 [])

/-- DIRECTIVE_SEND: Enable Directive of type 0x0F, and Stream Reset (R408, R411). -/
def execDirectiveSend (e : Sqe) (s : State) : Host.Outcome State Fault Refusal :=
  ok (s.nvme e fun c s =>
    let dspec := e.cdw11.toNat / 65536
    let dtype := e.cdw11.toNat / 256 % 256
    let doper := e.cdw11.toNat % 256
    if dtype = 0 && doper = 1 && e.cdw12.toNat / 256 % 256 = 0x0F then
      (s.ctrl' c.id fun x => { x with orderedWrite := e.cdw12.getLsbD 0 }).nvDone e 0 []
    else if dtype = 0x0F && doper = 1 && c.orderedWrite && dspec != 0 then
      match s.nsOf c e.nsid with
      | none => s.nvEnd e nvBadNs
      | some n => (s.nv' fun v => { v with
          streams := v.streams.filter fun t => !(t.key == n.nsid && t.id == dspec && t.broken) }).nvDone e 0 []
    else s.nvEnd e nvBadField)

/-- DIRECTIVE_RECEIVE: the Identify directive's parameters (R388). -/
def execDirectiveReceive (e : Sqe) (s : State) : Host.Outcome State Fault Refusal :=
  ok (s.nvme e fun c s =>
    if e.cdw11.toNat % 65536 = 1 then
      s.nvDone e 0 (fit (4 * (e.cdw10.toNat + 1)) (layOut 4096
        [(0, le 2 0x8001), (32, le 2 (if c.orderedWrite then 0x8001 else 1))]))
    else s.nvEnd e nvBadField)

/-! ## I/O commands -/

/-- Read (R414 to R416). -/
def execNvmeRead (e : Sqe) (s : State) : Host.Outcome State Fault Refusal := ok (s.nvme e fun c s => s.nvRead c e)

/-- Write (R403 to R412). -/
def execNvmeWrite (e : Sqe) (s : State) : Host.Outcome State Fault Refusal := ok (s.nvme e fun c s => s.nvWrite c e false)

/-- Flush: completed at once (R399). -/
def execFlush (e : Sqe) (s : State) : Host.Outcome State Fault Refusal := ok (s.nvme e fun _ s => s.nvDone e 0 [])

/-- Write Zeroes: a write of zero bytes (R404). -/
def execWriteZeroes (e : Sqe) (s : State) : Host.Outcome State Fault Refusal := ok (s.nvme e fun c s => s.nvWrite c e true)

/-- Dataset Management (R417, R418). -/
def execDatasetManagement (e : Sqe) (s : State) : Host.Outcome State Fault Refusal := ok (s.nvme e fun c s => s.nvDsm c e)

/-- Admin opcodes that are supported (R388). -/
def supportedAdmin : List Nat := [0x02, 0x06, 0x08, 0x09, 0x0A, 0x0C, 0x18, 0x19, 0x1A, 0xC0, 0xC1]
/-- I/O opcodes that are supported: the NVM commands of R388 and the locator opcodes (R440). -/
def supportedIo : List Nat := [0x00, 0x01, 0x02, 0x08, 0x09, 0x81, 0x82, 0x85, 0x86, 0x8A, 0x8C, 0x90]

/-- A command outside the supported set: Invalid Command Opcode, or Invalid Field in Command for a supported opcode used
in an unsupported way (R388). -/
def execUnsupportedCommand (e : Sqe) (s : State) : Host.Outcome State Fault Refusal :=
  ok (s.nvme e fun _ s =>
    if (if e.qid = 0 then supportedAdmin.contains e.opc else supportedIo.contains e.opc)
    then s.nvEnd e nvBadField
    else s.nvEnd e nvBadOpcode)

end Sys2Proof.Machine
end

