-- ==== Sys2Proof/Machine/Frames.lean ====
section
/-! DEFINITION. The frame and mode opcodes (R98 to R115) and the frame timers. -/

namespace Sys2Proof.Machine

/-- Note a CFG request for a frame (R102). -/
def State.touchFrame (s : State) (id : Nat) : State := s.frame' id false fun f => { f with lastReq := s.ck.now }

/-- The frame a request addresses, when its session opened it (R101). -/
def State.ownFrame (s : State) (q : VReq) : Option Frame :=
  (s.frame? q.frame false).bind fun f => if f.session == q.session && !f.internal then some f else none

/-- A frame ID: a counter, with the head's side in bit 31 (DESIGN CHOICE, log 9). -/
def State.newFrameId (s : State) : Nat := s.vk.nextFrame + sideN s.pr.side * 2 ^ 31

/-- A fresh frame. -/
def State.freshFrame (s : State) (id session : Nat) (pair : Bool) : Frame :=
  { id := id, pair := pair, internal := false, peerMade := false, session := session, state := .opened, items := []
    tick := 0, lastReq := s.ck.now, wait := false, waiter := none, ready := false, go := 0, abort := 0, endAt := 0
    schedOrd := 0, owed := false }

/-- CFG_OPEN's own part (R98, R101); a frame whose schedule record is not accepted yet is still Checked. -/
def State.cfgOpen (s : State) (q : VReq) : State :=
  let pair := q.num 1 0 == 1
  if (s.vk.frames.filter fun f => !f.peerMade && !f.internal &&
      (f.state == .opened || f.state == .checked || f.state == .scheduling)).length ≥ 8 then
    s.reply q 0x0201 .noFrameSlot []
  else if pair && s.peerAway then s.reply q 0x0201 .refusedPeerState []
  else
    let id := s.newFrameId
    let s := s.vk' fun v => { v with
      frames := v.frames ++ [s.freshFrame id q.session pair], nextFrame := v.nextFrame + 1 }
    s.replyTo { (q.waiter 0x0201) with frame := id } .success []

/-- CFG_OPEN (R98, R101). -/
def execCfgOpen (q : VReq) (s : State) : Host.Outcome State Fault Refusal := ok (s.virkan 0x0201 q (·.cfgOpen q))

/-- A staged entry: an item, or the removal of one (value length 0xFFFF). -/
abbrev StagedItem := Nat × Nat × Option Bytes

/-- Read staged items; none when the payload is not a whole number of items; the fuel is the payload's length. -/
def parseItems : Nat → Bytes → Option (List StagedItem)
  | 0, bs => if bs.isEmpty then some [] else none
  | n + 1, bs =>
    if bs.isEmpty then some []
    else if bs.length < 8 then none
    else
      let id := fld bs 0 4
      let target := fld bs 4 1
      let len := fld bs 6 2
      if len = 0xFFFF then (parseItems n (bs.drop 8)).map ((id, target, none) :: ·)
      else if len > 1024 || bs.length < 8 + roundUp len 4 then none
      else (parseItems n (bs.drop (8 + roundUp len 4))).map ((id, target, some (slice bs 8 len)) :: ·)

/-- Stage one entry: a repeat of setting and target replaces the value and keeps the number (R100). The removal of an item renumbers the
items after it (DESIGN CHOICE, log 86). -/
def stageOne (items : List Item) (e : StagedItem) : List Item :=
  match e.2.2 with
  | none => items.filter fun i => !(i.setting == e.1 && i.target == e.2.1)
  | some v =>
    if items.any fun i => i.setting == e.1 && i.target == e.2.1 then
      items.map fun i => if i.setting == e.1 && i.target == e.2.1 then { i with value := v } else i
    else items ++ [⟨e.1, e.2.1, v⟩]

/-- Whether an entry may be staged (R99, R814); a removal is judged by its setting and target alone. -/
def State.entryOk (s : State) (pair : Bool) (e : StagedItem) : Bool :=
  match e.2.2 with
  | some v => s.stageOk pair ⟨e.1, e.2.1, v⟩
  | none => (settingRow e.1).isSome && s.targetOk pair e.2.1

/-- CFG_STAGE's own part (R99 to R101, R814). -/
def State.cfgStage (s : State) (q : VReq) : State :=
  match s.ownFrame q with
  | none => s.reply q 0x0202 .refusedFrameState []
  | some f =>
    let s := s.touchFrame f.id
    if f.state != .opened && f.state != .checked then s.reply q 0x0202 .refusedFrameState []
    else match parseItems (q.payload.length + 1) q.payload with
      | none => s.reply q 0x0202 .paramInvalid []
      | some es =>
        if !es.all (s.entryOk f.pair) then s.reply q 0x0202 .paramInvalid []
        else
          let items := es.foldl stageOne f.items
          if items.length > 4096 then s.reply q 0x0202 .frameFull []
          else (s.frame' f.id false fun f => { f with items := items, state := .opened }).reply q 0x0202 .success
            (le 2 items.length)

/-- CFG_STAGE (R99 to R101, R814). -/
def execCfgStage (q : VReq) (s : State) : Host.Outcome State Fault Refusal := ok (s.virkan 0x0202 q (·.cfgStage q))

/-- CFG_CHECK's own part (R103). -/
def State.cfgCheck (s : State) (q : VReq) : State :=
  match s.ownFrame q with
  | none => s.reply q 0x0203 .refusedFrameState []
  | some f =>
    let s := s.touchFrame f.id
    if f.state != .opened && f.state != .checked then s.reply q 0x0203 .refusedFrameState []
    else
      let l := s.conflicts f
      if l.isEmpty then (s.frame' f.id false fun f => { f with state := .checked }).reply q 0x0203 .success []
      else s.reply q 0x0203 .frameConflict (conflictBytes l)

/-- CFG_CHECK (R103). -/
def execCfgCheck (q : VReq) (s : State) : Host.Outcome State Fault Refusal := ok (s.virkan 0x0203 q (·.cfgCheck q))

/-- The refusal of CFG_APPLY for a tick, in the order R104, R53, R101, then the first conflict of R103 (DEDUCED, log
13). -/
def State.applyRefusal (s : State) (f : Frame) (tick : Nat) : Option VStatus :=
  if f.state != .checked then some .refusedFrameState
  else if tick < s.ck.tick + 2 || s.ck.tick + 3600000 < tick then some .refusedTick
  else if s.vk.frames.any fun g => (g.state == .scheduled || g.state == .scheduling) && tick < g.tick then
    some .refusedFrameOrder
  else if s.framesFull then some .noFrameSlot
  else match s.conflicts f with
    | c :: _ => some c.2.2
    | [] => none

/-- CFG_APPLY's own part (R104, R106, R110, R383): the schedule record. -/
def State.cfgApply (s : State) (q : VReq) : State :=
  match s.ownFrame q with
  | none => s.reply q 0x0204 .refusedFrameState []
  | some f =>
    let s := s.touchFrame f.id
    let tick := q.num 1 0
    match s.applyRefusal f tick with
    | some st => s.reply q 0x0204 st []
    | none =>
      let f := { f with
        state := .scheduling, tick := tick, wait := q.num 2 0 == 1, waiter := some (q.waiter 0x0204), lastReq := s.ck.now
        schedOrd := s.wx.nextOrd }
      let s := s.frame' f.id false fun _ => f
      let s := if s.leavesTide f then
          match s.tideDark with
          | some h => if s.tideToken then s else s.askToken h 1
          | none => s
        else s
      s.commit 0xFFFF (.frameSchedule { f with waiter := none }) [.scheduled f.id f.schedOrd]

/-- CFG_APPLY (R104 to R106, R110). -/
def execCfgApply (q : VReq) (s : State) : Host.Outcome State Fault Refusal := ok (s.virkan 0x0204 q (·.cfgApply q))

/-- CFG_CANCEL's own part (R108): up to tick T − 2; the cancel record takes the frame's place. A CFG_APPLY that still
waits is answered NO_CHANGE (DESIGN CHOICE, log 13). -/
def State.cfgCancel (s : State) (q : VReq) : State :=
  match s.ownFrame q with
  | none => s.reply q 0x0205 .refusedFrameState []
  | some f =>
    let s := s.touchFrame f.id
    if f.state != .scheduled then s.reply q 0x0205 .refusedFrameState []
    else if f.tick < s.ck.tick + 2 then s.reply q 0x0205 .refusedTick []
    else
      let s := s.endFrame f.id 0xFFFF
      let s := s.frameReply f .noChange
      s.commit 0xFFFF (.frameEnd f.id 0xFFFF) [.reply (q.waiter 0x0205) .success []]

/-- CFG_CANCEL (R108). -/
def execCfgCancel (q : VReq) (s : State) : Host.Outcome State Fault Refusal := ok (s.virkan 0x0205 q (·.cfgCancel q))

/-- Frame state codes of CFG_STATUS (log 6). -/
def frameStateN : FrameState → Nat
  | .opened => 0 | .checked => 1 | .scheduling => 1 | .scheduled => 2 | .applied => 3 | .aborted => 4 | .cancelled => 5

/-- CFG_STATUS's own part: state, tick, abort status (R98). -/
def State.cfgStatus (s : State) (q : VReq) : State :=
  match s.vk.frames.find? (·.id == q.frame) with
  | none => s.reply q 0x0206 .notFound []
  | some f =>
    if !f.pair && q.has 1 && q.num 1 0 != sideN s.pr.side then s.reply q 0x0206 .notFound []
    else (s.touchFrame f.id).reply q 0x0206 .success (le 1 (frameStateN f.state) ++ le 8 f.tick ++ le 2 f.abort)

/-- CFG_STATUS (R98). -/
def execCfgStatus (q : VReq) (s : State) : Host.Outcome State Fault Refusal := ok (s.virkan 0x0206 q (·.cfgStatus q))

/-- A setting's current value as an item; HEAD_MODE reads as the mode (R116). -/
def State.readItem (s : State) (id : Nat) : Bytes :=
  let v := if id = 0x02000001 then le 1 ((s.md.mode.map modeN).getD 0) else s.settingBytes id
  le 4 id ++ [0#8, 0#8] ++ le 2 v.length ++ fit (roundUp v.length 4) v

/-- CFG_READ's own part: current values as items (R98). -/
def State.cfgRead (s : State) (q : VReq) : State :=
  let ids := (q.all 1).map rdLe
  if ids.any fun id => (settingRow id).isNone then s.reply q 0x0207 .notFound []
  else s.reply q 0x0207 .success (ids.flatMap s.readItem)

/-- CFG_READ (R98). -/
def execCfgRead (q : VReq) (s : State) : Host.Outcome State Fault Refusal := ok (s.virkan 0x0207 q (·.cfgRead q))

/-- MODE_GET's payload: mode of side A and of side B, drained flag, next scheduled mode, its tick (R98, R119, log 6). -/
def State.modeReport (s : State) : Bytes :=
  let own := (s.md.mode.map modeN).getD 0
  let far := (s.pr.peerMode.map modeN).getD 0
  let (a, b) := if s.pr.side == .a then (own, far) else (far, own)
  let next := ((s.vk.frames.filter (·.state == .scheduled)).sortBy fun x y => x.tick ≤ y.tick).findSome? fun f =>
    (f.items.find? fun i => i.setting == 0x02000001 && i.forSide s.pr.side).map fun i => (rdLe i.value, f.tick)
  le 1 a ++ le 1 b ++ le 1 (b2n s.isDrained) ++ le 1 ((next.map (·.1)).getD 0) ++ le 8 ((next.map (·.2)).getD 0)

/-- MODE_GET (R98, R119). -/
def execModeGet (q : VReq) (s : State) : Host.Outcome State Fault Refusal :=
  ok (s.virkan 0x0208 q fun s => s.reply q 0x0208 .success s.modeReport)

/-- An Open or Checked frame without a CFG request for FRAME_IDLE_LIMIT is discarded (R102). -/
def execFrameIdleExpiry (frame : Nat) (s : State) : Host.Outcome State Fault Refusal :=
  ok (match s.frame? frame false with
    | some f =>
      if (f.state == .opened || f.state == .checked) && f.lastReq + s.setting 0x02000005 * second ≤ s.ck.now then
        s.vk' fun v => { v with frames := v.frames.filter fun g => !(g.id == frame && !g.peerMade) }
      else s
    | none => s)

/-- The peer's part of R110: check the coordinating head's frame, write the schedule record, confirm readiness. -/
def State.takePeerFrame (s : State) (id tick : Nat) (items : List Item) : State :=
  let f : Frame := { s.freshFrame id 0 true with
    peerMade := true, state := .scheduling, items := items, tick := tick, schedOrd := s.wx.nextOrd }
  let late := s.vk.frames.any fun g => (g.state == .scheduled || g.state == .scheduling) && tick < g.tick
  if (s.frame? id true).isSome then s
  else if late || s.framesFull || !(s.conflicts f).isEmpty then s.send (.readiness id false)
  else (s.vk' fun v => { v with frames := v.frames ++ [f] }).commit 0xFFFF (.frameSchedule f) [.readiness id]

/-- A pair-wide frame arrives from the coordinating head, or the peer's readiness arrives at it, in time or not (R110, R111). -/
def execFrameReadiness (fromCoord : Bool) (frame tick : Nat) (items : List Item) (yes : Bool) (s : State) :
    Host.Outcome State Fault Refusal :=
  ok (if fromCoord then s.takePeerFrame frame tick items
    else if yes && (s.frame? frame false).any fun f => s.ck.tick + 1 < f.tick then s.frame' frame false fun f => { f with ready := true }
    else s)

/-- Start of tick T − 1 at the coordinating head: the go record, or an abort record when readiness has not arrived
(R111, R112), or no token for leaving Tide has (R383). -/
def execFrameReadinessDeadline (frame : Nat) (s : State) : Host.Outcome State Fault Refusal :=
  ok (match s.frame? frame false with
    | some f =>
      if f.pair && f.state == .scheduled && f.go = 0 && f.tick ≤ s.ck.tick + 1 then
        if s.leavesTide f && !s.tideToken then s.doAbort f .frameAbortedRecheck
        else if f.ready then (s.frame' frame false fun f => { f with go := 1 }).commit 0xFFFF (.frameGo frame) []
        else s.doAbort f .frameAbortedPeer
      else s
    | none => s)

/-- A go record unconfirmed at T: the frame applies as soon as it is confirmed, or is aborted when the peer is
declared failed first (R114). -/
def execGoRecordLateConfirm (frame : Nat) (s : State) : Host.Outcome State Fault Refusal :=
  ok (match s.frame? frame false with
    | some f =>
      if f.pair && f.state == .scheduled && f.go ≠ 0 && f.tick ≤ s.ck.tick then s.tickFrames s.dueFrames else s
    | none => s)

/-- The peer is in Tide, or has come out of its sleep with a WAKE_MODE of Tide, and keeps the same brood hive, which is one (R16, R121).
What the peer's own settings are this head has from the records of its frames; a head that wakes in the same sleep of the pair wakes at
the same tick (DEDUCED, log 86). -/
def State.peerTides (s : State) : Bool :=
  let hive := s.setting 0x02000002
  (s.pr.peerMode == some .tide || (s.pr.peerMode == some .quiesce && s.pr.peerWoke && s.pr.peerWakeMode == some 10)) &&
    s.pr.peerTideHive.getD 0 == hive && (s.hive? hive).any fun h => h.brood && h.inService

/-- The change from Quiesce to WAKE_MODE is judged (R121); `none` allows it. -/
def State.judgeWake (s : State) : Option VStatus :=
  match modeOf (s.setting 0x02000003) with
  | none => none
  | some .quiesce => none
  | some m => s.judgeMode .quiesce m s.peerTides

/-- The wake's change: written as a commit record and in effect at the next tick (R109), or refused with E023 and judged again later
(R121). -/
def State.tryWake (s : State) : State :=
  match s.judgeWake with
  | some st =>
    (s.md' fun d => { d with wakeCheck := some s.ck.now, wakePending := false }).ev0 0x023 .warn
      (le 1 (s.setting 0x02000003) ++ le 2 (vstat st))
  | none =>
    let s := s.md' fun d => { d with wakeCheck := none, wakePending := false }
    match modeOf (s.setting 0x02000003) with
    | some .quiesce => s
    | some m => s.autoMode m
    | none => s

/-- WAKE_MODE is judged again every 100 ms (R121). -/
def execWakeModeRecheck (s : State) : Host.Outcome State Fault Refusal :=
  ok (match s.md.wakeCheck with
    | some t => if s.inMode .quiesce && t + 100 * milli ≤ s.ck.now then s.tryWake else s
    | none => s)

/-- The status of an ended frame is readable for 3,600 s (Life of a frame, R101). -/
def execFrameStatusExpiry (frame : Nat) (s : State) : Host.Outcome State Fault Refusal :=
  ok (s.vk' fun v => { v with frames := v.frames.filter fun f =>
    !(f.id == frame && (f.state == .applied || f.state == .aborted || f.state == .cancelled) &&
      f.endAt + 3600 * second ≤ s.ck.now) })

end Sys2Proof.Machine
end

