-- ==== Sys2Proof/Machine/ColonyOps.lean ====
section
/-! DEFINITION. The colony's shared operations: the queen's view of its state (R585), the budget and its tokens (R591 to
R595), the report of a worker (R587, R588), and the wave gates (R608, R610). -/

namespace Sys2Proof.Machine

/-! ## The queen's view -/

/-- Queen state with the changes that records not yet accepted hold: what the queen decides by, although it sends nothing
before the acceptance (R585). -/
def State.queen (s : State) : ColonyPart :=
  (s.wx.own.filter (!·.accepted)).foldl (fun c r => match r.body with
    | .acceptControl x => c.queenCtl x
    | _ => c) s.co

/-- The queen functions run on this head (R584). -/
def State.isQueen (s : State) : Bool := s.co.member && s.co.queenHead && !s.md.stopped

/-- The token of an apiary's hive in a table (R592). -/
def ColonyPart.tokenOf (c : ColonyPart) (a hive : Nat) : Option WakeToken :=
  c.qTokens.find? fun t => t.apiary == a && t.hive == hive

/-- An apiary of the list (R590). -/
def ColonyPart.member? (c : ColonyPart) (a : Nat) : Option Member7 := c.members.find? (·.apiary == a)

/-- Standing charges: the reported input power of powered hives that hold no token (R591). -/
def ColonyPart.standing (c : ColonyPart) : Nat :=
  (c.members.flatMap fun m => m.power.map fun p => if (c.tokenOf m.apiary p.1).isSome then 0 else p.2).sum

/-- Held costs: of every token of the table, a recalled one too until its dormancy reply (R591, R593). -/
def ColonyPart.heldCosts (c : ColonyPart) : Nat := (c.qTokens.map (·.cost)).sum

/-- Standing charges and held costs. -/
def ColonyPart.drawn (c : ColonyPart) : Nat := c.standing + c.heldCosts

/-- A sum fits the budget; a budget of 0 means no limit (R591). -/
def State.fits (s : State) (sum : Nat) : Bool := s.setting 0x06000001 == 0 || sum ≤ s.setting 0x06000001

/-- The cost of a token: the peak of the hive's last wake, or HIVE_DEFAULT_COST (R591). -/
def State.tokenCost (s : State) (c : ColonyPart) (a hive : Nat) : Nat :=
  (((c.member? a).bind fun m => m.peaks.find? (·.1 == hive)).map (·.2)).getD (s.setting 0x06000003)

/-- Tokens in the order of recall: the lowest priority first, the latest expiry first within one (R593). -/
def recallOrder (l : List WakeToken) : List WakeToken :=
  l.sortBy fun a b => a.prio > b.prio || (a.prio == b.prio && a.expiry ≥ b.expiry)

/-- The shortest run of tokens whose costs come to `need` watts or more. -/
def enough (need : Nat) : List WakeToken → List WakeToken
  | [] => []
  | t :: l => if need = 0 then [] else t :: enough (need - t.cost) l

/-- The head that holds a token (R592). -/
def WakeToken.holder (t : WakeToken) : Nat := t.apiary * 2 + sideN t.side

/-- Grant or renew a token: the record, and TOKEN_GRANT once it is accepted (R585, R587). -/
def State.grantToken (s : State) (head : Nat) (t : WakeToken) : State :=
  let t := { t with
    state := 1, expiry := s.ck.tick + 1000 * s.setting 0x06000002, granted := s.ck.tick, side := sideOf (head % 2) }
  (s.control 0xFFFF (.queenToken t) [.col head (.tokenGrant t (s.setting (0x06000010 + t.apiary)))]).stat 0x0C01 t.apiary 1 1

/-- Grant a new token (R592, R593). -/
def State.newToken (s : State) (a head hive prio : Nat) : State :=
  let c := s.queen
  s.grantToken head
    { id := c.nextToken, apiary := a, hive := hive, prio := prio, state := 1, expiry := 0, cost := s.tokenCost c a hive
      side := .a, granted := 0, lower := false }

/-- Recall a token (R593). -/
def State.recallToken (s : State) (t : WakeToken) : State :=
  (s.control 0xFFFF (.queenToken { t with state := 2 }) [.col t.holder (.tokenRecall t.id)]).stat 0x0C01 t.apiary 3 1

/-- NO_ROOM, the cause of a refusal (R593; its number is the model's own, log 6). -/
def noRoom : Nat := 1

/-- Refuse a request with NO_ROOM (R593). -/
def State.refuseToken (s : State) (a head num : Nat) : State :=
  ((s.send (.col head (.tokenRefuse num noRoom))).stat 0x0C01 a 2 1).ev0 0xC03 .notice (le 1 a ++ le 4 num ++ le 1 1)

/-- Recall tokens of a priority above `prio`, in order, until the sum of what is not recalled fits again (R593, R597). -/
def State.recallOver (s : State) (prio : Nat) : State :=
  let c := s.queen
  let kept := c.qTokens.filter (·.state != 2)
  let sum := c.standing + (kept.map (·.cost)).sum
  if s.fits sum then s
  else (enough (sum - s.setting 0x06000001) (recallOrder (kept.filter (·.prio > prio)))).foldl State.recallToken s

/-- A renewal (R594): a more urgent priority is taken over at once, a less urgent one at the second such renewal. -/
def State.renewToken (s : State) (head prio : Nat) (t : WakeToken) : State :=
  if t.state = 2 then s.send (.col head (.tokenRecall t.id))
  else if prio < t.prio then s.grantToken head { t with prio := prio, lower := false }
  else if prio > t.prio then
    s.grantToken head { t with prio := if t.lower then prio else t.prio, lower := !t.lower }
  else s.grantToken head { t with lower := false }

/-- A TOKEN_REQUEST at the queen (R593, R594). -/
def State.judgeToken (s : State) (a head hive prio num : Nat) : State :=
  let s := s.stat 0x0C01 a 0 1
  let c := s.queen
  match c.tokenOf a hive with
  | some t => s.renewToken head prio t
  | none =>
    let cost := s.tokenCost c a hive
    if s.fits (c.drawn + cost) then s.newToken a head hive prio
    else if prio = 0 then
      if !s.fits (c.standing + ((c.qTokens.filter (·.prio == 0)).map (·.cost)).sum + cost) then s.refuseToken a head num
      else ((s.newToken a head hive 0).ev0 0xC02 .warn (le 1 a ++ le 1 hive ++ le 4 (c.drawn + cost))).recallOver 0
    else
      let cand := recallOrder (c.qTokens.filter fun t => t.state == 1 && t.prio > prio)
      let need := c.drawn + cost - s.setting 0x06000001
      if (cand.map (·.cost)).sum < need then s.refuseToken a head num
      else
        let chosen := enough need cand
        let s := chosen.foldl State.recallToken s
        (s.co' fun c => { c with qHeld := c.qHeld ++ [⟨a, head, hive, prio, num, s.ck.now, chosen.map (·.id)⟩] }).ev0 0xC03
          .notice (le 1 a ++ le 4 num ++ le 1 0)

/-- A token ends with its DORMANT; a request that waits for no other is granted (R593, R595). -/
def State.tokenDormant (s : State) (id : Nat) : State :=
  let s := if s.queen.qTokens.any (·.id == id) then s.control 0xFFFF (.queenTokenEnd id) [] else s
  let s := s.co' fun c => { c with
    qHeld := c.qHeld.map fun h => { h with waits := h.waits.filter (· != id) } }
  let (due, rest) := s.co.qHeld.partition (·.waits.isEmpty)
  due.foldl (fun t h => t.newToken h.apiary h.head h.hive h.prio) (s.co' fun c => { c with qHeld := rest })

/-- The other head of a head's apiary (R8). -/
def otherHead (h : Nat) : Nat := if h % 2 = 0 then h + 1 else h - 1

/-! ## Reports -/

/-- Newest colony key generation held (R604). -/
def State.colonyGen (s : State) : Nat :=
  match s.ks.colony.pend, s.ks.colony.cur with
  | some p, _ => p.1
  | none, some c => c.1
  | none, none => 0

/-- The catalogue entry of a domain as its apiary reports it (R589). -/
def State.catEntry (s : State) (d : Domain) : CatEntry :=
  let rep := s.rp.replicas.find? (·.domains.contains d.id)
  { domain := d.id, apiary := s.pr.apiary
    role := if d.replica then (if rep.isSome then 1 else 2) else 0
    side := d.side
    targets := (s.rp.groups.filter (·.domains.contains d.id)).map (·.target)
    group := (rep.map (·.id)).getD 0, tick := 0 }

/-- What REPORT carries (R587). -/
def State.report7 (s : State) : Report7 :=
  { apiary := s.pr.apiary, head := s.headId, domains := s.vo.domains.map s.catEntry, tokens := s.co.tokens
    power := s.hv.hives.filterMap fun h => match h.block with
      | some b => if b.power != 0 && b.power != 5 then some (h.id, b.inputW) else none
      | none => none
    keyGen := s.colonyGen }

/-- Send REPORT (R588). -/
def State.sendReport (s : State) : State :=
  let r := s.report7
  (s.co' fun c => { c with lastReport := some r }).send (.col 0xFFFF (.report r))

/-- What the colony does at a tick: in each whole second a REPORT of what has changed (R588), and the time above budget. -/
def State.colonyTick (s : State) : State :=
  if !s.co.member then s
  else
    let s := if s.co.reachable && s.ck.now / second != (s.ck.now - milli) / second && s.co.lastReport != some s.report7 then
        s.sendReport
      else s
    if s.co.queenHead && !s.fits s.co.drawn then s.stat 0x0C02 0 0 1 else s

/-! ## Rollout waves (R608 to R610) -/

/-- The set of a wave: bit a for apiary a. -/
def State.waveSet (s : State) (w : Nat) : Nat := rdLe (s.settingBytes (0x06000100 + w))

/-- The last wave that is not empty; wave 0 when every one is. -/
def State.lastWave (s : State) : Nat := ((List.range 16).filter fun w => s.waveSet w != 0).foldl max 0

/-- The wave an apiary belongs to; the queen apiary and one named in no wave belong to the last (R608). -/
def State.waveOf (s : State) (a : Nat) : Nat :=
  if a = 0 then s.lastWave
  else ((List.range 16).find? fun w => (s.waveSet w).testBit a).getD s.lastWave

/-- The gate of an apiary (R608, R610). -/
def State.waveGate (s : State) (a : Nat) : Bool := !s.co.rolling || s.waveOf a < s.co.waves

end Sys2Proof.Machine
end

