-- ==== Sys2Proof/Machine/Locator.lean ====
section
/-! DEFINITION. The locator rows: the seven locator commands, OBJECT_CREATE_COMMIT, and the expiries and walks of
objects, tokens and ledger entries (R437 to R472). -/

namespace Sys2Proof.Machine

/-- LOC_PUT (R446 to R452). -/
def execLocPut (e : Sqe) (s : State) : Host.Outcome State Fault Refusal := ok (s.nvme e fun c s => s.locPut c e)
/-- LOC_PUT_PART (R453 to R457). -/
def execLocPutPart (e : Sqe) (s : State) : Host.Outcome State Fault Refusal := ok (s.nvme e fun c s => s.locPut c e)
/-- LOC_GET (R458 to R460). -/
def execLocGet (e : Sqe) (s : State) : Host.Outcome State Fault Refusal := ok (s.nvme e fun c s => s.locCmd c e true)
/-- LOC_STAT (R450, R461, R462). -/
def execLocStat (e : Sqe) (s : State) : Host.Outcome State Fault Refusal := ok (s.nvme e fun c s => s.locCmd c e true)
/-- LOC_REFRESH (R463). -/
def execLocRefresh (e : Sqe) (s : State) : Host.Outcome State Fault Refusal := ok (s.nvme e fun c s => s.locCmd c e true)
/-- LOC_RELEASE (R466). -/
def execLocRelease (e : Sqe) (s : State) : Host.Outcome State Fault Refusal := ok (s.nvme e fun c s => s.locCmd c e true)
/-- LOC_SEAL (R469). -/
def execLocSeal (e : Sqe) (s : State) : Host.Outcome State Fault Refusal := ok (s.nvme e fun c s => s.locCmd c e true)

/-! ## OBJECT_CREATE (R449, R454, R456) -/

/-- Map items of a kind already committed and not yet accepted. -/
def State.coming (s : State) (p : MapItem → Bool) : Bool :=
  s.wx.own.any fun r => !r.accepted && (match r.body with | .mapChange is => is.any p | _ => false)

/-- OBJECT_CREATE of a key is on its way. -/
def State.creating (s : State) (key : Nat) : Bool := s.coming fun i => match i with
  | .objectCreate _ k _ _ _ _ _ => k == key
  | _ => false

/-- PART_ADD of a part is on its way. -/
def State.adding (s : State) (key part : Nat) : Bool := s.coming fun i => match i with
  | .partAdd _ k p _ _ _ _ => k == key && p == part
  | _ => false

/-- Every chunk of a part, and its manifest, lies in a committed stripe. -/
def State.partPlaced (s : State) (p : Part) : Bool :=
  p.manifest != 0 && s.placed p.manifest && p.chunks.all fun c => s.placed c.1

/-- The record key behind a part. -/
def State.keyOfPart (s : State) (p : Part) : Nat :=
  if p.ordinal % 2 == sideN s.pr.side then p.ordinal / 2 else p.ordinal / 2 + 2 ^ 64

/-- Commit PART_ADD for every part that is stored and not yet added: its chunks and its manifest are counted (R435,
R454). -/
def State.addParts (s : State) (o : Obj) : State :=
  (o.parts.filter fun p => p.accepted && !p.added && s.partPlaced p && !s.adding o.key p.num).foldl (fun t p =>
    ((t.refChange o.domain (p.chunks.map (fun c => ⟨c.1, 1⟩) ++ [⟨p.manifest, 1⟩])).mapChange o.domain
      [.partAdd o.domain o.key p.num p.manifest p.len o.token p.digest] [.release [t.keyOfPart p]])) s

/-- Cut a list into runs of `n`; the fuel bounds their number. -/
def runs {α : Type} (n : Nat) : Nat → List α → List (List α)
  | 0, _ => []
  | f + 1, l => if l.isEmpty then [] else l.take n :: runs n f (l.drop n)

/-- Build the INDEX manifests above the PART manifests, or find the ones built: the top manifest, once there is one
(R434, R456). -/
def State.buildIndex (s : State) (o : Obj) (digest : Bytes) : State × Nat :=
  let es := (o.parts.sortBy fun a b => a.num ≤ b.num).map fun p => (p.manifest, p.len)
  let lane := 0
  let head := fun (l : List (Nat × Nat)) => (⟨1, o.domain, (l.map (·.2)).sum, 0, o.token, digest⟩ : ManHead)
  if es.length ≤ 16380 then s.storeManifest 0 lane (head es) true es
  else
    let (s, mid) := (runs 16380 es.length es).foldl (fun (acc : State × List (Nat × Nat)) l =>
      let (t, m) := acc.1.storeManifest 0 lane (head l) true l
      (t, acc.2 ++ [(m, (l.map (·.2)).sum)])) (s, [])
    s.storeManifest 0 lane (head mid) true mid

/-- Chunks that a manifest's content names. -/
def State.manKids (s : State) (chunk : Nat) : List Nat :=
  (manifestEntries (((s.stored? chunk).map (·.content)).getD [])).map (·.1)

/-- Commit OBJECT_CREATE of a LOC_PUT: its chunks are counted, and its manifest by the record (R435, R449). -/
def State.createDirect (s : State) (o : Obj) (p : Part) : State :=
  if !s.partPlaced p then s
  else (s.refChange o.domain (p.chunks.map (fun c => ⟨c.1, 1⟩) ++ [⟨p.manifest, 1⟩])).mapChange o.domain
    [.objectCreate o.domain o.key p.manifest o.len o.token p.digest false] [.release [s.keyOfPart p]]

/-- Commit OBJECT_CREATE of an object in parts: the entries of the INDEX manifests are counted, and the part list gives
up its own count of each PART manifest (R435, R456). -/
def State.createMulti (s : State) (o : Obj) : State :=
  if !o.parts.all (·.added) then s
  else
    let ps := o.parts.sortBy fun a b => a.num ≤ b.num
    let digest := (sha256 (ps.flatMap fun p => fit 16 p.digest)).take 16
    if o.top = 0 then
      let (s, top) := s.buildIndex o digest
      s.obj' o.key fun x => { x with top := top, digest := digest }
    else
      let kids := s.manKids o.top
      let deep := kids.filter fun k => !ps.any (·.manifest == k)
      let all := o.top :: deep
      if !all.all s.placed then s
      else
        let leaf := deep.flatMap s.manKids ++ kids.filter (!deep.contains ·)
        (s.refChange o.domain ((leaf ++ deep).map (fun c => ⟨c, 1⟩) ++ [⟨o.top, 1⟩] ++ ps.map fun p => ⟨p.manifest, -1⟩)).mapChange
          o.domain [.objectCreate o.domain o.key o.top o.len o.token o.digest true] []

/-- OBJECT_CREATE_COMMIT: PART_ADD for the parts that are stored, and for an ACCEPTED object, its OBJECT_CREATE (R449,
R454, R456). -/
def execObjectCreateCommit (key : Nat) (s : State) : Host.Outcome State Fault Refusal :=
  ok (match s.obj? key with
    | none => s
    | some o =>
      if !s.owns (.domain o.domain) || (s.keyRec o.domain).isNone then s
      else if o.multi then
        let s := if o.state == ObjState.opened || o.state == ObjState.accepted then s.addParts o else s
        if o.state == ObjState.accepted && !s.creating key then s.createMulti o else s
      else if o.state == ObjState.accepted && !s.creating key then
        match o.parts.head? with
        | some p => s.createDirect o p
        | none => s
      else s)

/-! ## Expiries -/

/-- The token horizon of a domain in nanoseconds (R55). -/
def State.horizon (s : State) (d : Nat) : Nat := ((s.domain? d).map fun x => x.horizon * 3600 * second).getD 0

/-- TOKEN_DROP of a token is on its way. -/
def State.tokenDropComing (s : State) (domain : Nat) (token : Bytes) : Bool := s.coming fun i => match i with
  | .tokenDrop d k => d == domain && k == token
  | _ => false

/-- OPEN_DROP of an object is on its way. -/
def State.openDropComing (s : State) (o : Obj) : Bool := s.coming fun i => match i with
  | .openDrop d k => d == o.domain && k == o.token
  | _ => false

/-- The record that gives up a released object's count is on its way. -/
def State.unrefComing (s : State) (o : Obj) : Bool := s.wx.own.any fun r => !r.accepted && (match r.body with
  | .refChange is => is.any fun i => i.chunk == o.top && i.delta == -1
  | _ => false)

/-- LEDGER_DROP of an entry is on its way. -/
def State.ledgerDropComing (s : State) (domain : Nat) (old : Place) : Bool := s.coming fun i => match i with
  | .ledgerDrop d o => d == domain && o == old
  | _ => false

/-- TOKEN_HORIZON_EXPIRY: TOKEN_DROP once the horizon has passed, but not while the object is OPEN or ACCEPTED (R439). -/
def execTokenHorizonExpiry (domain : Nat) (token : Bytes) (s : State) : Host.Outcome State Fault Refusal :=
  ok (match s.ob.tokens.find? fun t => t.domain == domain && t.token == token with
    | none => s
    | some t =>
      let busy := (s.obj? t.key).any fun o => o.state == ObjState.opened || o.state == ObjState.accepted
      if busy || !s.owns (.domain domain) || s.ck.now < t.atNs + s.horizon domain ||
          s.tokenDropComing domain token then s
      else s.mapChange domain [.tokenDrop domain token] [])

/-- OPEN_OBJECT_EXPIRY: an OPEN object that received no part for one horizon is dropped, E810 (R457). -/
def execOpenObjectExpiry (key : Nat) (s : State) : Host.Outcome State Fault Refusal :=
  ok (match s.obj? key with
    | none => s
    | some o =>
      if o.state != ObjState.opened || !s.owns (.domain o.domain) || s.ck.now < o.lastPart + s.horizon o.domain ||
          s.openDropComing o then s
      else (((s.mapChange o.domain [.openDrop o.domain o.token] [.release (o.parts.map s.keyOfPart)]).event 0x810 .notice
        o.domain (fit 16 o.token)).bump 0x1807 0 0 1))

/-- A LOC_GET that resolved an object has not ended (R467). -/
def State.getting (s : State) (key : Nat) : Bool := s.nv.cmds.any fun c => match c.kind with
  | .locGet k _ _ _ _ => k == key
  | _ => false

/-- RELEASED_OBJECT_EXPIRY: one horizon after the release, and after every get, the top manifest gives up its count
(R467). -/
def execReleasedObjectExpiry (key : Nat) (s : State) : Host.Outcome State Fault Refusal :=
  ok (match s.obj? key with
    | none => s
    | some o =>
      if o.state != ObjState.released || !s.owns (.domain o.domain) || s.getting key || s.unrefComing o ||
          s.ck.now < o.releasedAt + s.horizon o.domain then s
      else s.refChange o.domain [⟨o.top, -1⟩])

/-- LEDGER_ENTRY_EXPIRY: an entry older than LEDGER_LIFETIME is dropped; E812 for a LIVE object's manifest (R300, R465). -/
def execLedgerEntryExpiry (domain : Nat) (old : Place) (s : State) : Host.Outcome State Fault Refusal :=
  ok (match s.vo.ledger.find? fun e => e.domain == domain && e.old == old with
    | none => s
    | some e =>
      if !s.owns (.domain domain) || s.ck.tick < e.created + s.ledgerLife ||
          s.ledgerDropComing domain old then s
      else
        let s := s.mapChange domain [.ledgerDrop domain old] []
        if s.ob.objs.any fun o => o.domain == domain && o.top == e.chunk && o.state == ObjState.live then
          s.event 0x812 .notice domain (le 2 domain ++ le 6 e.chunk)
        else s)

/-- MANIFEST_RELEASE_WALK: the manifest is walked, and its own stripe may now be released (R468). -/
def execManifestReleaseWalk (domain chunk : Nat) (s : State) : Host.Outcome State Fault Refusal :=
  ok (if !s.ob.walks.contains (domain, chunk) || !s.owns (.domain domain) then s
    else
      let s := s.walkManifest domain chunk
      s.releaseEmpty (((s.chunk? chunk).map (·.place.ordinal)).toList))

/-- LOC_STAT_PATIENCE_EXPIRY: a LOC_STAT that waits for OBJECT_CREATE ends with LOCATOR_PENDING (R450). -/
def execLocStatPatienceExpiry (ctrl qid cid : Nat) (s : State) : Host.Outcome State Fault Refusal :=
  ok (match s.cmd? ctrl qid cid with
    | some h => match h.kind with
      | .loc e => if e.opc = 0x86 && e.cdw5.getLsbD 0 && h.deadline ≤ s.ck.now then
          s.failCmd ctrl qid cid locPending.1 locPending.2.1 locPending.2.2 else s
      | _ => s
    | none => s)

/-- ACCEPTANCE_RESUME: a command held before acceptance is tried again (R32, R405). -/
def execAcceptanceResume (ctrl qid cid : Nat) (s : State) : Host.Outcome State Fault Refusal :=
  ok (match s.cmd? ctrl qid cid with
    | none => s
    | some h => match h.kind with
      | .write _ _ _ _ => (s.admitBlock h).admitStream h.stream
      | .deallocate _ _ => s.admitBlock h
      | .put _ _ => s.admitPut h
      | .repeatPut _ _ => s.admitPut h
      -- LOC_RELEASE and LOC_SEAL
      | .loc e => if e.opc != 0x8C && e.opc != 0x90 then s else match s.ctrl? h.ctrl with
        | some c => s.locRun c e false
        | none => s
      | _ => s)

end Sys2Proof.Machine
end

