-- ==== Sys2Proof/Machine/ReplOps.lean ====
section
/-! DEFINITION. Replication's shared operations (13): shipping of batches and base passes (R520 to R529, R532), resuming
(R534), and the receiver's checks, staging and application (R525, R526, R528). -/

namespace Sys2Proof.Machine

/-! ## Groups -/

/-- A group's lead domain (R517). -/
def RGroup.lead (g : RGroup) : Nat := g.domains.foldl min (g.domains.headD 0)

/-- This head ships a group: it owns its domains (R517). -/
def State.leads (s : State) (g : RGroup) : Bool := s.owns (.domain g.lead)

/-- A group this apiary ships. -/
def State.group? (s : State) (g : Nat) : Option RGroup := s.rp.groups.find? (·.id == g)

/-- Change a group. -/
def State.group' (s : State) (g : Nat) (f : RGroup → RGroup) : State :=
  s.rp' fun r => { r with groups := updFirst (·.id == g) f r.groups }

/-- A group this apiary receives from the apiary of a head. -/
def State.replica? (s : State) (g source : Nat) : Option Replica :=
  s.rp.replicas.find? fun r => r.id == g && r.source == source

/-- Change a received group. -/
def State.replica' (s : State) (g source : Nat) (f : Replica → Replica) : State :=
  s.rp' fun r => { r with replicas := updFirst (fun x => x.id == g && x.source == source) f r.replicas }

/-! ## Keys in flight (R518, R520) -/

/-- The colony key that keys in flight are wrapped under. -/
def State.colonyWrap (s : State) : Bytes := fit 32 (((s.ks.colony.cur.map (·.2))).getD [])

/-- A domain's key record with its salt, wrapped under the colony key (R518, R691). -/
def State.wrapKeys (s : State) (d : Nat) : State × Bytes :=
  match s.keyRec d with
  | some r => (s.useWrap 2, wrapRecord s.colonyWrap 2 (s.wrapCtr 2) ⟨6, d, r.newestData, r.bytes⟩)
  | none => (s, [])

/-- A key that arrives wrapped: under the current colony key or the one before it (R478). -/
def State.unwrapKeys (s : State) (b : Bytes) : Option VaultEntry :=
  ((s.ks.colony.cur.toList ++ s.ks.colony.prev.toList ++ s.ks.colony.pend.toList).map (·.2)).findSome? fun k =>
    unwrapRecord (fit 32 k) b

/-- SETUP of a group (R518): the wrapped records stand for the keys and salts. -/
def State.setupMsg (s : State) (g : RGroup) : State × ReplMsg :=
  let (s, ws) := g.domains.foldl (fun (a : State × List Bytes) d =>
    let (t, w) := a.1.wrapKeys d
    (t, a.2 ++ [w])) (s, [])
  (s, .setup g.id s.pr.apiary (b2n (s.snapMode g.id)) g.domains ws)

/-- The items of an entry as they travel: a new key generation is wrapped (R520). -/
def State.wireItems (s : State) (l : List ShipItem) : State × List ShipItem :=
  l.foldl (fun (a : State × List ShipItem) i => match i with
    | .key d gen k => (a.1.useWrap 2, a.2 ++ [.key d gen (wrapRecord a.1.colonyWrap 2 (a.1.wrapCtr 2) ⟨6, d, gen, k⟩)])
    | i => (a.1, a.2 ++ [i])) (s, [])

/-- The entries of a batch as they travel. -/
def State.wireEntries (s : State) (l : List ShipEntry) : State × List ShipEntry :=
  l.foldl (fun (a : State × List ShipEntry) e =>
    let (t, is) := a.1.wireItems e.items
    (t, a.2 ++ [{ e with items := is }])) (s, [])

/-! ## Base passes (R528, R532) -/

/-- The entries of a map tree with their namespace chunk numbers. -/
def State.treeEntries (s : State) (d : Nat) : Nat → Nat → Nat → List (Nat × MapEnt)
  | 0, root, base => (((s.page? d root).map (·.ents)).getD []).map fun e => (base + e.k, e)
  | n + 1, root, base =>
    (((s.page? d root).map (·.kids)).getD []).flatMap fun k => s.treeEntries d n k.2 (base + k.1 * 2048 ^ (n + 1))

/-- What a manifest names: data chunks with lengths, by part number, the fuel being the levels (R433, R434). -/
def State.manParts (s : State) : Nat → Nat → List (Nat × List (Nat × Nat))
  | 0, _ => []
  | f + 1, m =>
    let c := ((s.stored? m).map (·.content)).getD []
    let es := manifestEntries c
    if fld c 5 1 = 1 then es.flatMap fun e => s.manParts f e.1 else [(fld c 20 4, es.map fun e => (e.1, e.2.2))]

/-- Every manifest and chunk below a manifest, itself first. -/
def State.manNames (s : State) : Nat → Nat → List Nat
  | 0, m => [m]
  | f + 1, m =>
    let c := ((s.stored? m).map (·.content)).getD []
    m :: (manifestEntries c).flatMap fun e => if e.2.1 then s.manNames f e.1 else [e.1]

/-- The shipped items of a map's entries, with the chunks they name. -/
def State.mapShip (s : State) (nsid : Nat) (es : List (Nat × MapEnt)) : List (ShipItem × List Nat) :=
  es.map fun e => (.nsMap nsid e.1 (s.fpOf e.2.chunk) (s.lenOf e.2.chunk) e.2.zero, if e.2.chunk = 0 then [] else [e.2.chunk])

/-- The namespaces and LIVE objects of a domain in the form of shipped items (R528). -/
def State.baseItems (s : State) (d : Nat) : List (ShipItem × List Nat) :=
  ((s.vk.settings.filter fun e => e.1 / 2 ^ 24 == 3 && settingDomain e.1 == d && e.1 % 0x100 < 0x10).map fun e =>
    (.setting e.1 e.2, [])) ++
  ((s.vo.nss.filter (·.domain == d)).flatMap fun n =>
    (.nsCreate d n.nsid n.size (n.discard == .zero), []) :: s.mapShip n.nsid (s.treeEntries d n.depth n.root 0)) ++
  ((s.ob.objs.filter fun o => o.domain == d && o.state == ObjState.live).flatMap fun o =>
    let ps := s.manParts 4 o.top
    let leaves := ps.flatMap (·.2)
    (.objCreate d o.token o.len o.digest o.multi (leaves.map fun c => (s.fpOf c.1, c.2)) (ps.map fun p => (p.1, p.2.length)),
        leaves.map (·.1)) ::
      (if o.retain = 0 then [] else [(.objState d o.token false o.retain, [])]))

/-- Items cut into ship entries at one sequence. -/
def State.baseEntries (s : State) (seq : Nat) (l : List (ShipItem × List Nat)) : List ShipEntry :=
  (runs 1024 (l.length + 1) l).map fun is =>
    { seq := seq, head := s.headId, ordinal := s.wx.lastApplied, tick := s.ck.tick, items := is.map (·.1)
      bytes := shipSize (is.map (·.1)), chunks := is.flatMap (·.2) }

/-- Begin to ship entries as BASE batches; the chunks they name are counted meanwhile, which holds the state of this
instant (R528). -/
def State.layBase (s : State) (g : Nat) (es : List ShipEntry) : State :=
  let s := s.dropBase g
  let s := (es.flatMap (·.chunks)).foldl (fun t c => t.addRef c 1) s
  s.group' g fun x => { x with baseLog := es, baseNext := 1, inFlight := x.inFlight.filter (!·.base), baseBytes := 0 }

/-- Start a base pass (R528): the base point is the next ship sequence. -/
def State.startBase (s : State) (id : Nat) : State :=
  match s.group? id with
  | none => s
  | some g =>
    let s := s.shipTrim id (g.nextSeq - 1)
    let es := s.baseEntries (g.nextSeq - 1) (g.domains.flatMap s.baseItems)
    -- a group with nothing in it still switches, by a batch of one empty entry
    let es := if es.isEmpty then [⟨g.nextSeq - 1, s.headId, s.wx.lastApplied, s.ck.tick, [], 32, []⟩] else es
    ((s.layBase id es).group' id fun x => { x with
      state := if x.state == .paused then .paused else .base
      basePoint := some g.nextSeq, inFlight := [], based := false }).ev0 0xA01 .notice (le 2 id ++ le 1 0)

/-- A group lapses (R525, R529). -/
def State.lapse (s : State) (g : Nat) : State :=
  ((s.bump 0x0A05 g 1 1).ev0 0xA03 .warn (le 2 g)).startBase g

/-! ## Batches (R524) -/

/-- An index entry of a chunk carries VERIFIED_SAME: the chunk is sent without an offer (R524). -/
def State.unoffered (s : State) (chunk : Nat) : Bool := s.rd.fps.any fun e => e.chunk == chunk && e.verifiedSame

/-- The domain of a chunk. -/
def State.domainOf (s : State) (chunk : Nat) : Nat := ((s.chunk? (s.target chunk)).map (·.domain)).getD 0xFFFF

/-- CHUNK of a chunk: the frame length in 4 bytes, then the sealed body as stored (R523, R524; log 6). -/
def State.chunkMsg (s : State) (g chunk : Nat) : Option ReplMsg :=
  let id := s.target chunk
  (s.stored? id).map fun x =>
    .chunk g (s.domainOf id) id x.gen x.content.length (slice x.envelope 20 4 ++ slice x.envelope 64 (fld x.envelope 24 4))

/-- Answer a REPAIR_ASK; one whose chunk lies in a hive that cannot be read now waits for it (R229, R536). -/
def State.answerAsk (s : State) (src domain : Nat) (fp : Bytes) (len : Nat) : State :=
  match s.chunkOfFp domain fp with
  | none => s.send (.repl src (.repairNone domain fp))
  | some c =>
    let (s, r) := s.readChunk c
    match r, s.chunkMsg 0 c with
    | .content b, some (.chunk _ d id gen clen body) =>
      if b.length == len && s.owns (.domain domain) then s.send (.repl src (.repairData d id gen clen body))
      else s.send (.repl src (.repairNone domain fp))
    | .waits _, _ => s.rp' fun p => { p with asks := p.asks.filter (· != (src, domain, fp, len)) ++ [(src, domain, fp, len)] }
    | _, _ => s.send (.repl src (.repairNone domain fp))

/-- A hive serves: the REPAIR_ASKs that waited are tried again. -/
def State.serveAsks (s : State) : State :=
  s.rp.asks.foldl (fun t a => t.answerAsk a.1 a.2.1 a.2.2.1 a.2.2.2) (s.rp' fun p => { p with asks := [] })

/-- Send a chunk. -/
def State.shipChunk (s : State) (g : RGroup) (chunk : Nat) : State :=
  match s.chunkMsg g.id chunk with
  | some (.chunk a b c d e body) =>
    let s := if g.basePoint.isSome then s.group' g.id fun x => { x with baseBytes := x.baseBytes + body.length } else s
    (s.stat 0x0A02 g.id 0 body.length).send (.repl g.targetHead (.chunk a b c d e body))
  | _ => s

/-- The hive that a chunk must be read from, when it does not serve. -/
def State.darkOf (s : State) (chunk : Nat) : Option Nat :=
  (s.hiveOfChunk chunk).bind fun h => if (s.hive? h).any Hive.serves then none else some h

/-- The entries that a batch carries. -/
def RGroup.entriesOf (g : RGroup) (b : Batch) : List ShipEntry :=
  if b.base then (g.baseLog.drop (b.first - 1)).take (b.last + 1 - b.first)
  else g.log.filter fun e => b.first ≤ e.seq && e.seq ≤ b.last

/-- Send the BATCH of a batch, after the chunks that are never offered (R524). -/
def State.sendBatch (s : State) (id : Nat) (b : Batch) : State :=
  match s.group? id with
  | none => s
  | some g =>
    let es := g.entriesOf b
    let s := (dedupBy ((es.flatMap (·.chunks)).filter s.unoffered)).foldl (fun t c => t.shipChunk g c) s
    let (s, wire) := s.wireEntries es
    let s := s.group' id fun x => { x with
      lastShipped := if b.base then x.lastShipped else max x.lastShipped b.last
      inFlight := x.inFlight.map fun y => if y.num == b.num then { y with sent := true, chunks := [] } else y }
    s.send (.repl g.targetHead (.batch id b.first b.last b.base (b.base && b.last == g.baseLog.length) wire))

/-- OFFER the next chunks of a batch, or send it when none is left (R524). -/
def State.offerBatch (s : State) (id : Nat) (b : Batch) : State :=
  match s.group? id with
  | none => s
  | some g =>
    let s := s.group' id fun x => { x with
      inFlight := x.inFlight.map fun y => if y.num == b.num then { y with wait := false } else y }
    if b.chunks.isEmpty then s.sendBatch id b
    else
      let l := b.chunks.take 8192
      (s.stat 0x0A01 id 0 l.length).send (.repl g.targetHead (.offer id b.num (l.map fun c => (s.fpOf c, s.domainOf c, s.lenOf c))))

/-- The first entries whose bytes come to 4 MiB, at least one (R524). -/
def upTo4M : Nat → List ShipEntry → List ShipEntry
  | _, [] => []
  | n, e :: l => if n != 0 && n + e.bytes > 4194304 then [] else e :: upTo4M (n + e.bytes) l

/-- One chunk for each fingerprint that a batch offers. -/
def State.offered (s : State) (es : List ShipEntry) : List Nat :=
  ((es.flatMap (·.chunks)).filter (!s.unoffered ·)).foldl (fun l c =>
    if l.any fun x => s.fpOf x == s.fpOf c && s.domainOf x == s.domainOf c then l else l ++ [c]) []

/-- Put a batch in flight. -/
def State.openBatch (s : State) (id first last : Nat) (base : Bool) (es : List ShipEntry) : State :=
  match s.group? id with
  | none => s
  | some g =>
    let b : Batch := { num := g.nextBatch, first := first, last := last, chunks := s.offered es, wait := false, base := base, sent := false }
    (s.group' id fun x => { x with
      nextBatch := x.nextBatch + 1, inFlight := x.inFlight ++ [b]
      baseNext := if base then last + 1 else x.baseNext
      openSince := if base then x.openSince else if x.log.any (last < ·.seq) then some s.ck.now else none }).offerBatch id b

/-- The sequence after which the next batch of the log begins. -/
def RGroup.cursor (g : RGroup) : Nat :=
  (((g.inFlight.filter (!·.base)).getLast?).map (·.last)).getD (max g.lastShipped g.confirmed)

/-- Close a batch when it is due: BASE batches first (R524, R528). -/
def State.closeBatch (s : State) (id : Nat) : State :=
  match s.group? id with
  | none => s
  | some g =>
    if !s.leads g || (g.state != .base && g.state != .shipping) then s
    else match g.inFlight.find? fun b => b.wait && b.chunks.all fun c => (s.darkOf c).isNone with
      | some b => s.offerBatch id b
      | none =>
        if g.inFlight.length ≥ s.setting (0x07000003 + id * 0x100) then s
        else if g.baseNext ≤ g.baseLog.length then
          let es := upTo4M 0 (g.baseLog.drop (g.baseNext - 1))
          s.openBatch id g.baseNext (g.baseNext + es.length - 1) true es
        else if g.state == .base then s
        else
          let left := g.log.filter (g.cursor < ·.seq)
          let es := upTo4M 0 left
          let due := g.openSince.any fun t => t + s.setting (0x07000002 + id * 0x100) * milli ≤ s.ck.now
          if es.isEmpty || !(due || (left.map (·.bytes)).sum ≥ 4194304) then s
          else s.openBatch id ((es.head?.map (·.seq)).getD 0) ((es.getLast?.map (·.seq)).getD 0) false es

/-! ## Resuming (R534) -/

/-- Bind again with the head that is tried: SETUP for a group whose base pass has not switched, else POSITION_QUERY (R534). -/
def State.askTarget (s : State) (g : RGroup) (head : Nat) : State :=
  let s := s.group' g.id fun x => { x with targetHead := head, queryAt := some s.ck.now }
  if g.based then s.send (.repl head (.positionQuery g.id))
  else
    let (s, m) := s.setupMsg g
    s.send (.repl head m)

/-- A group goes on after a restart, a takeover, a REBALANCE or a connection that broke (R534). -/
def State.resumeGroup (s : State) (id : Nat) : State :=
  match s.group? id with
  | none => s
  | some g =>
    if !s.leads g || g.state == .refused then s
    else
      let s := s.group' id fun x => { x with
        inFlight := [], state := if x.state == .paused then .paused else .connecting }
      s.askTarget g g.targetHead

/-- Resume every group after a restart, a takeover, a REBALANCE or a connection that broke (R534). -/
def State.resumeGroups (s : State) (p : RGroup → Bool) : State :=
  ((s.rp.groups.filter p).map (·.id)).foldl State.resumeGroup s

/-! ## The receiver (R525, R526, R528) -/

/-- Open a chunk that arrives: frame and content, when every check of R151 and R156 passes (R525). -/
def State.openChunk (s : State) (domain chunk gen clen : Nat) (body : Bytes) : Option (Bytes × Bytes) :=
  let flen := fld body 0 4
  let sealed := body.drop 4
  if clen == 0 || clen > 262144 || flen > clen + 19 || sealed.length != max 16 (roundUp flen 16) then none
  else match s.dataKey domain gen with
    | none => none
    | some k =>
      let frame := (xts false k (chunkTweak domain chunk) sealed).take flen
      match zstdDecode frame with
      | some c => if c.length == clen then some (frame, c) else none
      | none => none

/-- Land a checked chunk as new under a chunk ID of this head, unless it is a duplicate: decided as R142 decides any chunk, deferred where
R147 defers. It answers whether the chunk has landed: one that would need a new ID when few are left has not (R134, R525). -/
def State.landShipped (s : State) (d : Nat) (frame content fp : Bytes) (bytewise : Bool) : State × Bool :=
  let fresh := fun (t : State) (deferred compare : Bool) (clash : List Nat) =>
    if t.idsSpent || t.ordSpent then (t, false)
    else
      let (t, id) := t.allocChunk
      let t := t.filterSet fp
      let t := if deferred then t
        else (t.rd' fun r => { r with fps := r.fps ++ [⟨d, fp, id, !clash.isEmpty⟩] }).addPending [(0, .fpInsert d id fp)]
      (((t.storeFrame 0 0 d id content frame fp ⟨false, deferred, compare⟩).clashes d id clash).flushMap, true)
  if s.setting (0x03000001 + d * 0x100) = 0 then fresh s false false []
  else if s.defers then fresh s true bytewise []
  else match s.findDup d fp content (bytewise || s.inMode .distil) 0 with
    | (t, .same _) => (t.flushMap, true)
    | (t, .restore c) => if t.ordSpent then (t, false) else ((t.storeFrame 0 0 d c content frame fp ⟨false, false, false⟩).flushMap, true)
    | (t, .later) => fresh t true true []
    | (t, .fault) => fresh t false false []
    | (t, .fresh clash) => fresh t false false clash

/-- A fingerprint names a usable chunk of a replica domain that lies in a committed stripe (R143, R526). -/
def State.resolves (s : State) (d : Nat) (fp : Bytes) : Bool :=
  (s.chunkOfFp d fp).any fun c => s.usable c && (s.chunk? c).any fun x => x.state == .stored

/-- The domain of a shipped item, by its namespace. -/
def State.nsDomain (s : State) (nsid : Nat) (es : List ShipEntry) : Nat :=
  match s.ns? nsid with
  | some n => n.domain
  | none => (es.findSome? fun e => e.items.findSome? fun i => match i with
    | .nsCreate d n _ _ => if n == nsid then some d else none
    | .nsClone src _ n => if n == nsid then (s.ns? src).map (·.domain) else none
    | _ => none).getD 0xFFFF

/-- The fingerprints that entries name, with their domains. -/
def State.namedFps (s : State) (es : List ShipEntry) : List (Nat × Bytes) :=
  es.flatMap fun e => e.items.flatMap fun i => match i with
    | .nsMap n _ fp len _ => if len = 0 then [] else [(s.nsDomain n es, fp)]
    | .objCreate d _ _ _ _ leaves _ => leaves.map fun l => (d, l.1)
    | _ => []

/-- Cut the leaves of an object into its parts. -/
def cutLeaves (leaves : List (Nat × Nat)) : List (Nat × Nat) → List (Nat × List (Nat × Nat))
  | [] => []
  | c :: cs => (c.1, leaves.take c.2) :: cutLeaves (leaves.drop c.2) cs

/-- Build the manifests of a shipped object (R434, R520): every chunk they name, the top manifest first. -/
def State.buildTop (s : State) (d len : Nat) (token digest : Bytes) (multi : Bool) (leaves : List (Bytes × Nat))
    (cuts : List (Nat × Nat)) : State × List Nat :=
  let ids := leaves.map fun l => ((s.chunkOfFp d l.1).getD 0, l.2)
  let (s, top) :=
    if !multi then s.storeManifest 0 0 ⟨0, d, len, 0, token, digest⟩ false ids
    else
      let (s, ps) := (cutLeaves ids cuts).foldl (fun (a : State × List (Nat × Nat)) p =>
        let plen := (p.2.map (·.2)).sum
        let (t, m) := a.1.storeManifest 0 0 ⟨2, d, plen, p.1, token, (partDigest (p.2.map fun c => a.1.fpOf c.1)).take 16⟩ false p.2
        (t, a.2 ++ [(m, plen)])) (s, [])
      let index := fun (t : State) (l : List (Nat × Nat)) => t.storeManifest 0 0 ⟨1, d, (l.map (·.2)).sum, 0, token, digest⟩ true l
      if ps.length ≤ 16380 then index s ps
      else
        let (s, mid) := (runs 16380 ps.length ps).foldl (fun (a : State × List (Nat × Nat)) l =>
          let (t, m) := index a.1 l
          (t, a.2 ++ [(m, (l.map (·.2)).sum)])) (s, [])
        index s mid
  (s.flushMap, s.manNames 4 top)

/-- Build the manifests of every shipped object that has none yet. -/
def State.buildTops (s : State) (g source : Nat) (es : List ShipEntry) : State :=
  (es.flatMap (·.items)).foldl (fun t i => match i with
    | .objCreate d token len digest multi leaves cuts =>
      if (t.replica? g source).any fun r => r.tops.any (·.1 == token) then t
      else
        let (t, l) := t.buildTop d len token digest multi leaves cuts
        t.replica' g source fun r => { r with tops := r.tops ++ [(token, l)] }
    | _ => t) s

/-- Everything the entries need lies in committed stripes, manifests included. -/
def State.topsPlaced (s : State) (r : Replica) (es : List ShipEntry) : Bool :=
  (es.flatMap (·.items)).all fun i => match i with
    | .objCreate _ token _ _ _ _ _ => (r.tops.find? (·.1 == token)).any fun t => t.2.all s.placed
    | _ => true

/-- The records of a shipped item at the receiver (R520, R526). SNAP_FREEZE of a group in snapshot mode takes effect with
the shipped snapshot (R532). -/
def State.itemRecs (s : State) (r : Replica) (es : List ShipEntry) : ShipItem → List RecBody
  | .nsMap n k fp len zero =>
    [.mapChange [.nsMap n k (if len = 0 then 0 else (s.chunkOfFp (s.nsDomain n es) fp).getD 0) zero]]
  | .nsZero n first count => [.mapChange [.nsZero n first count]]
  | .snapFreeze n snap label => if r.mode = 1 then [] else [.mapChange [.snapFreeze n snap label]]
  | .nsClone src snap new => [.mapChange [.nsClone src snap new]]
  | .treeDrop n snap => [.mapChange [.treeDrop n snap]]
  | .objCreate d token len digest multi _ _ =>
    match r.tops.find? (·.1 == token) with
    | some t => [.refChange (t.2.map fun c => ⟨c, 1⟩),
        .mapChange [.objectCreate d (2 ^ 65 + t.2.headD 0) (t.2.headD 0) len token digest multi]]
    | none => []
  | .objState d token released retain =>
    match s.objOfToken d token with
    | some o => [.mapChange [.objectState d o.key released retain]]
    | none => match r.tops.find? (·.1 == token) with
      | some t => [.mapChange [.objectState d (2 ^ 65 + t.2.headD 0) released retain]]
      | none => []
  | .nsCreate d n size zero => [.acceptControl (.nsCreate d n size (if zero then .zero else .hint))]
  | .nsResize n size => [.acceptControl (.nsResize n size)]
  | .snapCreate .. => []
  | .setting .. => []
  | .key d gen wrapped =>
    match s.keyRec d, s.unwrapKeys wrapped with
    | some k, some e => [.keyChange .rotate 6 d gen k.newestLoc (s.wrapCtr 0)
        (some { k with data := k.data.filter (·.1 != gen) ++ [(gen, fit 64 e.key)], newestData := gen }) []]
    | _, _ => []

/-- Settings of entries: each is scheduled in an internal frame (R520). -/
def State.shipSettingsIn (s : State) (es : List ShipEntry) : State :=
  (es.flatMap (·.items)).foldl (fun t i => match i with
    | .setting id value => t.ownInternal false ⟨id, 0, value⟩ []
    | _ => t) s

/-- The last sequence applied or committed to be. -/
def State.appliedSeq (s : State) (r : Replica) : Nat :=
  (s.wx.own.filter (!·.accepted)).foldl (fun n x => match x.body with
    | .replProgress g role source seq _ _ _ => if g == r.id && source == r.source && role != 0 then max n seq else n
    | _ => n) r.applied

/-- A REPL_PROGRESS of this group waits for its acceptance. -/
def State.progressing (s : State) (r : Replica) : Bool :=
  s.wx.own.any fun x => !x.accepted && match x.body with
    | .replProgress g role source _ _ _ _ => g == r.id && source == r.source && role != 0
    | _ => false

/-- Apply a held batch whose turn it is: the whole batch as one chain that ends with REPL_PROGRESS of role 1 (R526). It is new work here,
and is not taken once the ordinals or the identifiers are spent (R45, R134). -/
def State.tryBatch (s : State) (g source : Nat) : State :=
  match s.replica? g source with
  | none => s
  | some r => match r.held.find? fun h => h.1 == s.appliedSeq r + 1 with
    | none => s
    | some (first, last, es) =>
      if s.progressing r || s.idsSpent || s.ordSpent then s
      else if !(s.namedFps es).all fun f => s.resolves f.1 f.2 then
        if r.need.isEmpty || r.offers.any (!·.2.isEmpty) then s
        else (s.replica' g source fun x => { x with held := x.held.filter (·.1 != first) }).send
          (.repl r.srcHead (.position g r.applied r.ordinal))
      else
        let s := s.buildTops g source es
        let r := (s.replica? g source).getD r
        if !s.topsPlaced r es then s
        else
          let e := es.getLast?.getD ⟨last, r.srcHead, 0, 0, [], 0, []⟩
          let head := if e.head = 0xFFFF then r.srcHead else e.head
          let bodies := es.flatMap fun x => x.items.flatMap (s.itemRecs r es)
          let s := s.shipSettingsIn es
          let s := s.replica' g source fun x => { x with held := x.held.filter (·.1 != first) }
          (s.commitChain (r.domains.headD 0xFFFF) [.repl r.srcHead (.applied g last)]
            (bodies ++ [.replProgress g 1 source last e.ordinal head e.tick])).stat 0x0A02 g 1 1

/-- Once the last BASE batch is staged and everything in it resolves: REPL_PROGRESS of role 2 (R528, R532). -/
def State.trySwitch (s : State) (g source : Nat) : State :=
  match s.replica? g source with
  | none => s
  | some r =>
    if !r.stageEnd || s.progressing r || s.idsSpent || s.ordSpent || !((s.namedFps r.staging).all fun f => s.resolves f.1 f.2) then s
    else
      let s := s.buildTops g source r.staging
      let r := (s.replica? g source).getD r
      if !s.topsPlaced r r.staging then s
      else
        let e := r.staging.getLast?.getD ⟨r.stageSeq, 0, 0, 0, [], 0, []⟩
        ((s.shipSettingsIn r.staging).commit (r.domains.headD 0xFFFF)
          (.replProgress g 2 source r.stageSeq e.ordinal e.head e.tick) [.repl r.srcHead (.applied g r.stageSeq)]).ev0 0xA01 .notice
            (le 2 g ++ le 1 1)

/-- The staging state lies on flash as it is received (R528, log 54). -/
def State.keepStaging (s : State) (g source : Nat) : State :=
  match s.replica? g source with
  | none => s
  | some r =>
    let l := s.fl.rp.replicas
    let same := fun (x : Replica) => x.id == g && x.source == source
    let l := if l.any same then updFirst same (fun x => { x with
        staging := r.staging, tops := r.tops, stageNext := r.stageNext, stageSeq := r.stageSeq, stageEnd := r.stageEnd }) l
      else l
    { s with fl := { s.fl with rp := { s.fl.rp with replicas := l } } }

/-- Held batches and staged base passes go on as soon as they can. -/
def State.replTick (s : State) : State :=
  s.rp.replicas.foldl (fun t r =>
    if r.domains.any fun d => t.owns (.domain d) then (t.tryBatch r.id r.source).trySwitch r.id r.source else t) s

end Sys2Proof.Machine
end

