-- ==== Sys2Proof/Machine/HivePower.lean ====
section
/-! DEFINITION. Hive power at the head: the hive control bus (R351 to R356), wakes (R371 to R373), darkening (R365, R366), member reads
given up (R231), gather deadlines (R372), wake tokens of a worker (R375 to R379). -/

namespace Sys2Proof.Machine

/-- The bus of a hive (R351). -/
def busOf (hive : Nat) : Nat := hive / 4

/-- Send a request on a hive control bus and await its reply (R353, R355). -/
def State.busSend (s : State) (hive cmd arg : Nat) : State :=
  let q : BusReq := ⟨busOf hive, hive, cmd, arg, s.hv.seq, 1⟩
  (s.hv' fun v => { v with reqs := v.reqs ++ [q], seq := (v.seq + 1) % 256 }).send (.hcb q.bus hive cmd arg q.seq)

/-- Send a vote (R361): what it begins at this head. -/
def State.sendVote (s : State) (hive : Nat) (up : Bool) : State :=
  (s.busSend hive 2 (b2n up)).hive' hive fun x => { x with
    voteUp := up
    wanted := none
    voteAt := if up then s.ck.now else x.voteAt
    warned15 := if up then false else x.warned15
    darkPoint := if up then false else x.darkPoint || x.darkDecided
    state := if up then (if x.state == .dark || x.state == .fault then .waking else x.state)
      else if x.state == .ready || x.state == .waking then .darkening else x.state }

/-- The head takes part on the buses. -/
def State.onBus (s : State) : Bool := !s.md.stopped && !s.pr.fencedOff

/-- This head may send a hive an up vote or a VOTE_CLEAR (R22): every brood hive, a honey hive it owns, one that a rebalance brings it
(R362), and once its fence is raised the hives of the peer it has declared failed (R363). -/
def State.mayVoteUp (s : State) (h : Nat) : Bool :=
  s.isBrood h || s.owns (.honey h) || (s.pr.declared && s.pr.confirmedSolo) ||
    s.pr.rebalance.any fun r => !r.giver && r.units.contains (.honey h)

/-- The next hive after `h` on a bus that is in service; the fuel is the number of hives of a bus. -/
def nextHive (l : List Nat) (bus : Nat) : Nat → Nat → Option Nat
  | 0, _ => none
  | n + 1, h => if l.contains h then some h else nextHive l bus n (4 * bus + (h + 1) % 4)

/-- One window of the head on a bus: a queued request, a vote to be sent, or STATUS to the next hive (R352, R356, R361). -/
def State.poll (s : State) (bus : Nat) : State :=
  if !s.onBus then s
  else match s.hv.reqs.find? fun q => q.bus == bus && q.tries == 0 with
    | some q =>
      let s := s.hv' fun v => { v with reqs := updFirst (· == q) (fun x => { x with tries := 1 }) v.reqs }
      s.send (.hcb bus q.hive q.cmd q.arg q.seq)
    | none => match s.hv.hives.find? fun h => busOf h.id == bus &&
        -- no up vote between the dark point and the report of DARK (R366)
        (h.wanted == some false || (h.wanted == some true && s.mayVoteUp h.id && !(h.state == .darkening && h.darkPoint))) with
      | some h => match h.wanted with
        | some up => if up == h.voteUp then s.hive' h.id fun x => { x with wanted := none } else s.sendVote h.id up
        | none => s
      | none =>
        let l := (s.hv.hives.filter fun h => h.inService).map (·.id)
        match nextHive l bus 4 (s.hv.pollNext.getD bus (4 * bus)) with
        | some h =>
          let s := s.hv' fun v => { v with
            pollNext := v.pollNext.set bus (4 * bus + (h + 1) % 4)
            reqs := v.reqs.filter fun q => !(q.hive == h && q.cmd == 1) }
          s.busSend h 1 0
        | none => s

/-- HCB_POLL (R356). -/
def execHcbPoll (bus : Nat) (s : State) : Host.Outcome State Fault Refusal := ok (if bus < 2 then s.poll bus else s)

/-- A shelf's reply to a request of this head: the hive is judged by its status block, and its gather list is served
once it serves (R349, R355, R371). A valid reply to the other head's request tells that the shelf answers (R355); a status that R353
does not give stands for a frame whose CRC fails, which is counted and discarded (log 7). -/
def execHcbReply (hive seq status : Nat) (b : ShelfBlock) (s : State) : Host.Outcome State Fault Refusal :=
  ok (match s.hv.reqs.find? fun q => q.hive == hive && q.seq == seq && q.tries != 0 with
    | none => if status ≤ 2 then s.hive' hive fun x => { x with lastReply := s.ck.now } else s.bump 0x0706 (busOf hive) 0 1
    | some q =>
      if status > 2 then s.bump 0x0706 (busOf hive) 0 1
      else
      let s := s.hv' fun v => { v with reqs := v.reqs.erase q }
      let s := (s.takeBlock hive b).polled hive
      if (s.hive? hive).any Hive.serves then (s.serveGather hive).serveAsks else s)

/-- HCB_REQUEST_RETRY (R355): an unanswered request goes out again with its sequence; an up vote on a hive that has passed to the other
head meanwhile is not sent again (R22). -/
def execHcbRequestRetry (bus seq : Nat) (s : State) : Host.Outcome State Fault Refusal :=
  ok (match s.hv.reqs.find? fun q => q.bus == bus && q.seq == seq && q.tries != 0 with
    | none => s
    | some q => if !s.onBus then s
      else if q.cmd == 2 && q.arg == 1 && !s.mayVoteUp q.hive then s.hv' fun v => { v with reqs := v.reqs.erase q }
      else ((s.hv' fun v => { v with
        reqs := updFirst (· == q) (fun x => { x with tries := x.tries + 1 }) v.reqs }).bump 0x0706 bus 1 1).send
          (.hcb bus q.hive q.cmd q.arg q.seq))

/-- SHELF_SILENT_TIMEOUT (R355): after 100 ms without a valid reply, E707 and FAULT. -/
def execShelfSilentTimeout (hive : Nat) (s : State) : Host.Outcome State Fault Refusal :=
  ok (match s.hive? hive with
    | none => s
    | some h => if !h.inService || s.ck.now < h.lastReply + 100 * milli then s
      -- a round of fencing that waits for the poll of a shelf that is silent already ends (R71)
      else if h.state == .fault then s.polled hive
      else ((((s.hive' hive fun x => { x with state := .fault }).ev0 0x707 .error (le 1 hive))).tideSwap hive).polled hive)

/-- A host read has waited in a hive's gather list for a time. -/
def State.readSince (s : State) (h wait : Nat) : Bool :=
  (s.hive? h).any fun x => x.gather.any fun g => g.merge.isNone && (s.cmd? g.ctrl g.qid g.cid).any fun c => c.atNs + wait ≤ s.ck.now

/-- How long a host read waits for a member that does not answer: 40 ms in a large configuration, and in a small one the deadline of a READ,
at which the comb link declares the task failed (R231, R324, R330). -/
def State.memberWait (s : State) : Nat := if s.large then 40 * milli else 100 * milli

/-- A timeout of a member in a large configuration: E402, and 16 of them within 10 s mark the comb failed (R231, R232). -/
def State.memberTimeout (s : State) (link ord member : Nat) : State :=
  let s := (s.ev0 0x402 .warn (le 1 link ++ le 6 ord ++ le 1 member)).bump 0x0407 link 0 1
  let s := s.link' link fun l => { l with timeouts := l.timeouts.filter (fun t => s.ck.now < t + 10 * second) ++ [s.ck.now] }
  if ((s.link? link).map (·.timeouts.length)).getD 0 ≥ 16 then s.markFailed link else s

/-- MEMBER_READ_TIMEOUT (R231, R232): the member is erased for the reads that wait for it, which this command serves; its late answer is
discarded. A hive that cannot be read is waited for (R229). -/
def execMemberReadTimeout (ord member : Nat) (s : State) : Host.Outcome State Fault Refusal :=
  ok (match s.stripe? ord with
    | none => s
    | some t =>
      if !s.readable t.hive || !s.silent t member || !s.readSince t.hive s.memberWait then s
      else
        let s := s.cond s.large fun s => s.memberTimeout ((t.members[member]?.map (·.link)).getD 0) ord member
        let s := s.sp' fun p => { p with givenUp := p.givenUp.filter (· != (ord, member)) ++ [(ord, member)] }
        s.serveAsks.serveGather t.hive)

/-- WAKE_TIMEOUT (R373): E702 at 15 s; at 30 s FAULT, E703, and for a honey hive the down vote. -/
def execWakeTimeout (hive : Nat) (s : State) : Host.Outcome State Fault Refusal :=
  ok (match s.hive? hive with
    | none => s
    | some h =>
      if h.state != .waking then s
      else if h.voteAt + 30 * second ≤ s.ck.now then
        let s := s.hive' hive fun x => { x with
          state := .fault, wakeFailedAt := some s.ck.now
          wanted := if x.brood then x.wanted else some false }
        ((s.ev0 0x703 .error (le 1 hive)).bump 0x0707 hive 0 1).tideSwap hive
      else if h.voteAt + 15 * second ≤ s.ck.now && !h.warned15 then
        (s.hive' hive fun x => { x with warned15 := true }).ev0 0x702 .warn (le 1 hive)
      else s)

/-- WAKE_RETRY (R373): a failed honey wake is tried again every 60 s while a need stands. -/
def execWakeRetry (hive : Nat) (s : State) : Host.Outcome State Fault Refusal :=
  ok (match s.hive? hive with
    | none => s
    | some h => match h.wakeFailedAt, s.topNeed h with
      | some t, some p =>
        if h.brood || h.voteUp || s.ck.now < t + 60 * second then s
        else (s.hive' hive fun x => { x with wakeFailedAt := none, warned15 := false }).askWake hive p
      | _, _ => s)

/-- HIVE_IDLE_DARK_EXPIRY (R365, R379): a honey hive without a need for HIVE_IDLE_DARK is to darken; at once after 24 h
without the queen. -/
def execHiveIdleDarkExpiry (hive : Nat) (s : State) : Host.Outcome State Fault Refusal :=
  ok (match s.hive? hive with
    | none => s
    | some h =>
      let wait := if s.co.member && s.co.autonomyDone then 0 else s.setting 0x04000020 * second
      if h.brood || !s.owns (.honey hive) || h.darkDecided || (h.state != .ready && h.state != .waking) ||
          (s.topNeed h).isSome || s.ck.now < h.idleSince + wait then s
      else s.decideDark hive)

/-- DARK_POINT (R365, R366): with no task, no gather entry, no REBUILD need and no fold row that is not placed (R292), the down vote is
sent. -/
def execDarkPoint (hive : Nat) (s : State) : Host.Outcome State Fault Refusal :=
  ok (match s.hive? hive with
    | none => s
    | some h =>
      if !h.darkDecided || h.darkPoint || !h.voteUp || s.busyHive hive || !h.gather.isEmpty || h.rebuildNeed ||
          (s.me.rows.any fun r => r.hive == hive) || s.hasOpen hive || !s.onBus then s
      else s.sendVote hive false)

/-- GATHER_WAKE_TRIGGER (R371). -/
def execGatherWakeTrigger (hive : Nat) (s : State) : Host.Outcome State Fault Refusal := ok (s.judgeGather hive)

/-- GATHER_DEADLINE (R372): WOULD_WAIT, or NO_TOKEN when the wake was refused for lack of a token. -/
def execGatherDeadline (ctrl qid cid : Nat) (s : State) : Host.Outcome State Fault Refusal :=
  ok (match s.cmd? ctrl qid cid with
    | none => s
    | some c =>
      let hs := s.hv.hives.filter fun h => h.gather.any fun g => g.isOf ctrl qid cid
      if hs.isEmpty || s.ck.now < c.deadline then s
      else
        let noTok := hs.any fun h => h.gather.any fun g => g.isOf ctrl qid cid && g.noToken
        let st := if noTok then nvNoToken else nvWouldWait
        let s := hs.foldl (fun t h => t.stat 0x0704 h.id (if noTok then 3 else 2) 1) s
        let s := match c.kind with
          | .read nsid _ _ => s.countWait nsid st
          | _ => s
        (s.leaveGather ctrl qid cid).failCmd ctrl qid cid st.1 st.2.1 st.2.2)

/-! ## Tokens of a worker -/

/-- TOKEN_RENEWAL (R376). -/
def execTokenRenewal (hive : Nat) (s : State) : Host.Outcome State Fault Refusal :=
  ok (match s.hive? hive with
    | none => s
    | some h => match h.token, s.topNeed h with
      | some (_, e), some p =>
        if s.co.reachable && h.tokenAsked.isNone && h.tokenGot + (e - h.tokenGot) * 3 / 4 ≤ s.ck.tick && !h.darkDecided then
          s.askToken hive p
        else s
      | _, _ => s)

/-- TOKEN_REQUEST_RETRY (R376): every 10 s while the need stands. -/
def execTokenRequestRetry (hive : Nat) (s : State) : Host.Outcome State Fault Refusal :=
  ok (match s.hive? hive with
    | none => s
    | some h => match h.tokenAsked, s.topNeed h with
      | some t, some p =>
        if h.tokenRefused && s.co.reachable && t + 10 * second ≤ s.ck.now then s.askToken hive p else s
      | _, _ => s)

/-- WORKER_TOKEN_EXPIRY (R378): the same effect as a recall; suspended while the queen is unreachable (R379). -/
def execWorkerTokenExpiry (hive : Nat) (s : State) : Host.Outcome State Fault Refusal :=
  ok (match s.hive? hive with
    | none => s
    | some h => match h.token with
      | some (_, e) =>
        if s.co.reachable && e ≤ s.ck.tick then
          ((s.hive' hive fun x => { x with token := none, tokenAsked := none, dormancyTo := 1 }).decideDark hive)
        else s
      | none => s)

/-- QUEEN_AUTONOMY_END (R379): E70B 24 h after the last contact. -/
def execQueenAutonomyEnd (s : State) : Host.Outcome State Fault Refusal :=
  ok (match s.co.lastContact with
    | some t =>
      if s.co.member && !s.co.reachable && !s.co.autonomyDone && t + 86400 * second ≤ s.ck.now then
        (s.co' fun c => { c with autonomyDone := true }).ev0 0x70B .error []
      else s
    | none => s)

end Sys2Proof.Machine
end

