-- ==== Sys2Proof/Machine/MoveOps.lean ====
section
/-! DEFINITION. Moves that one command carries out whole (log 27): a stripe programmed and committed, units copied or
rebuilt (R215, R233 to R243), and the copies that fold, garbage collection, reshape and wear moves make (R246, R286 to
R296, R302). -/

namespace Sys2Proof.Machine

/-! ## Programming and committing -/

/-- Write a unit and its footer to the pages a member entry names (R202, R210, R325). What a later read corrects is a free
value (log 3). -/
def State.programUnit (s : State) (r : Region) (m : Member) (foot unit : Bytes) : State :=
  let at_ := unitPages r m.page
  let ps := pieces 16384 unit
  let new := (List.range at_.length).map fun i =>
    let p := at_.getD i (0, 0)
    (⟨m.die, p.1, m.block, p.2, ps.getD i [], if i = 0 then foot else zeros 128, false, Config.freeNat (s.free + i) % 1024⟩ : NandPage)
  let mine := fun (p : NandPage) => p.die == m.die && p.block == m.block && at_.contains (p.plane, p.page)
  ((({ s with free := s.free + at_.length }).bridge' m.link fun b => { b with
    pages := b.pages.filter (fun p => !mine p) ++ new }).noteProg m.link m.die).unitSent r m (regionUnits r)

/-- The footer of a member of a stripe that this head writes now, with the head that opened the stripe. -/
def State.footerOf (s : State) (head : Nat) (r : Region) (p : Purpose) (hive ord i n used openTick : Nat) (m : Member) (unit : Bytes) : Bytes :=
  footer (s.fmt .footer) r head ord i n hive (m.link % 16) (purposeN p) (((s.link? m.link).map (·.epoch)).getD 0) s.wx.epoch
    (crc32c unit).toNat openTick used

/-- A unit read back as it stands where a member entry says: every page, its footer and its unit CRC (R215, R289). -/
def State.backReads (s : State) (r : Region) (ord i head : Nat) (m : Member) : Bool :=
  let ps := s.unitNand r m
  (ps.all fun p => p.any (!·.bad)) && crc32c (ps.flatMap fun p => (p.map (·.data)).getD []) == m.crc &&
    (ps.head?.join).any fun p => footerNames p.spare ord i head

/-- Every unit of a stripe that this head has just programmed reads back well (R38). -/
def State.stripeReads (s : State) (ord : Nat) : Bool :=
  match (s.open? ord).map (fun t => (t.region, t.members)) <|> (s.stripe? ord).map fun t => (t.region, t.members) with
  | some (r, ms) => ((List.range ms.length).zip ms).all fun x => s.backReads r ord x.1 s.headId x.2
  | none => false

/-- Write the STRIPE_COMMIT of a stripe whose members have all reported program pass (R219 step 4). -/
def State.commitStripe (s : State) (ord : Nat) : State :=
  match s.open? ord with
  | none => s
  | some t =>
    if !t.closed || t.commitOrd.isSome || t.prog.any (· != .passed) then s
    else
      let o := s.wx.nextOrd
      (s.commit 0xFFFF (.stripeCommit t.ord t.hive t.region t.purpose t.members t.used t.epoch (t.envs.map (·.entry))
        t.openTick) []).open' ord fun t => { t with commitOrd := some o }

/-- Close, program and commit an open stripe in one go. -/
def State.stripeNow (s : State) (ord : Nat) : State :=
  match s.open? ord with
  | none => s
  | some t =>
    let units := stripeUnits t.region t.members.length t.data
    let ms := (t.members.zip units).map fun p => { p.1 with crc := crc32c p.2 }
    let s := s.stat 0x0403 0 0 (64 * t.room)
    let s := ((List.range ms.length).zip (ms.zip units)).foldl (fun u x =>
      u.programUnit t.region x.2.1 (u.footerOf s.headId t.region t.purpose t.hive t.ord x.1 ms.length t.used t.openTick x.2.1 x.2.2) x.2.2) s
    let epoch := ms.foldl (fun e m => max e (((s.link? m.link).map (·.epoch)).getD 0)) t.epoch
    (s.open' ord fun t => { t with
      closed := true, units := units, members := ms, prog := List.replicate ms.length .passed, epoch := epoch }).commitStripe ord

/-- The head may finish work on a hive's combs: its tasks go there, its shelf serves, and every comb of it answers. A darkening that has
been decided does not stop what R365 lets go on: a rebuild, and the closing and read-back of an open row (R241, R292). -/
def State.mayFinish (s : State) (h : Nat) : Bool :=
  s.mayProgram h && s.allAnswer h && (s.hive? h).any fun x => x.inService && x.serves

/-- The head may begin work on a hive's combs: no darkening has been decided (R286, R296, R365). -/
def State.mayMove (s : State) (h : Nat) : Bool :=
  s.mayFinish h && (s.hive? h).any fun x => x.state == .ready && !x.darkDecided

/-! ## Units as they are read (R211, R215, R229) -/

/-- A member's unit read whole, its CRC right. -/
def State.unitOf (s : State) (t : Stripe) (i : Nat) : Option Bytes :=
  match t.members[i]? with
  | none => none
  | some m => (((List.range (positions t.region)).mapM (s.rawPage t i)).map (·.flatten)).filter fun u => crc32c u == m.crc

/-- A member's unit from the others, with some members taken as erased (R214). -/
def State.solvedUnit (s : State) (t : Stripe) (out : List Nat) (i : Nat) : Option Bytes :=
  let k := t.members.length - 2
  let page := fun (pos : Nat) =>
    if i < k then s.dataPage t (i :: out) i pos
    else ((List.range k).mapM fun j => s.dataPage t (i :: out) j pos).map fun ds =>
      if i = k then parityP 16384 ds else parityQ 16384 ds
  ((List.range (positions t.region)).mapM page).map (·.flatten)

/-- A solved unit that passes the unit CRC of the commit record (R215). -/
def State.soundUnit (s : State) (t : Stripe) (out : List Nat) (i : Nat) : Option Bytes :=
  match t.members[i]? with
  | none => none
  | some m => (s.solvedUnit t out i).filter fun u => crc32c u == m.crc

/-- The units to put in place of member `i`: itself, or, after trials with another member also taken as erased, both; with whether it took
trials (R215). -/
def State.rebuiltUnits (s : State) (t : Stripe) (gone : List Nat) (i : Nat) : Option (List (Nat × Bytes) × Bool) :=
  match s.soundUnit t gone i with
  | some u => some ([(i, u)], false)
  | none =>
    if gone.length ≥ 2 then none
    else ((List.range t.members.length).filter fun j => j != i && !gone.contains j).findSome? fun j =>
      match s.soundUnit t (j :: gone) i, s.soundUnit t (i :: j :: gone) j with
      | some u, some v => some ([(i, u), (j, v)], true)
      | _, _ => none

/-! ## Rebuild (R233 to R243, R306) -/

/-- A place for a member's unit: on its own comb when that is a replacement or works with another die, else on a working
comb that is not a member (R234, R306). -/
def State.rebuildTarget (s : State) (t : Stripe) (i : Nat) : State × Option Member :=
  let use := useOfPurpose t.purpose
  let qlc := t.region == .honey
  let need := regionUnits t.region
  let link := (t.members[i]?.map (·.link)).getD 0
  let others := (s.workingLinks t.hive).filter fun l => !t.members.any (·.link == l)
  let stays := (s.link? link).any fun l => (l.comb == .working || l.comb == .replacement) && !l.retired
  (if stays then [link] else []).foldl (fun acc l => match acc.2 with
    | some _ => acc
    | none => acc.1.takeUnit l use qlc need) (s, none) |> fun acc =>
  others.foldl (fun acc l => match acc.2 with
    | some _ => acc
    | none => acc.1.takeUnit l use qlc need) acc

/-- Program units of a stripe at new places, each read back and checked (R235 step 3); the new members, none when a unit finds no place or
does not read back well, and the places programmed. -/
def State.replaceUnits (s : State) (t : Stripe) : List (Nat × Bytes) → List Member → List Member → State × Option (List Member) × List Member
  | [], ms, at_ => (s, some ms, at_)
  | (i, u) :: us, ms, at_ => match s.rebuildTarget { t with members := ms } i with
    | (s, none) => (s, none, at_)
    | (s, some m) =>
      let m := { m with crc := crc32c u }
      let s := s.programUnit t.region m (s.footerOf t.opener t.region t.purpose t.hive t.ord i t.members.length t.used t.openTick m u) u
      if s.backReads t.region t.ord i t.opener m then s.replaceUnits t us (ms.set i m) (at_ ++ [m]) else (s, none, at_ ++ [m])

/-- The commit of a stripe's new members: purpose REBUILD, whose body is the member table alone (R223, R235 step 4). -/
def State.commitMembers (s : State) (t : Stripe) (ms : List Member) : State :=
  let epoch := ms.foldl (fun e m => max e (((s.link? m.link).map (·.epoch)).getD 0)) t.epoch
  s.commit 0xFFFF (.stripeCommit t.ord t.hive t.region .rebuild ms t.used epoch [] t.openTick) []

/-- Members of a stripe that are erased now. -/
def State.goneMembers (s : State) (t : Stripe) : List Nat := (List.range t.members.length).filter (s.memberGone t)

/-- Members that a rebuild or a move finds unreadable, reading them whole (R211, R237). -/
def State.unreadable (s : State) (t : Stripe) : List Nat :=
  (List.range t.members.length).filter fun i => s.memberGone t i || s.unitFails t i

/-- Members of a stripe whose units still need rebuild: on a comb marked failed, or on the replacement in its slot, and written before that
(R820), or on a die declared failed (R306). -/
def State.toRebuild (s : State) (t : Stripe) : List Nat :=
  (List.range t.members.length).filter fun i => match t.members[i]? with
    | none => false
    | some m => s.needsRebuild t m.link || (s.link? m.link).any fun l => s.dieDead l m.die

/-- Page positions with three or more erasures, and the data members erased there (R239). -/
def State.lostAt (s : State) (t : Stripe) : List (Nat × List Nat) :=
  (List.range (positions t.region)).filterMap fun pos =>
    let out := (List.range t.members.length).filter fun i => (s.rawPage t i pos).isNone
    if out.length ≥ 3 then some (pos, out.filter (· < t.members.length - 2)) else none

/-- The chunks of a stripe whose envelopes have bytes at a lost position of an erased data member are lost: LOSS, and
E414 for each (R239). -/
def State.loseAt (s : State) (t : Stripe) : State :=
  let bad := s.lostAt t
  if bad.isEmpty then s
  else
    let lost := t.envs.filter fun e =>
      ((s.chunk? e.chunk).any fun c => c.state == .stored && c.place == ⟨t.ord, e.off⟩) &&
        (envPages t.region e.off e.len).any fun p => bad.any fun b => b.1 == p.2 && b.2.contains p.1
    if lost.isEmpty then s
    else lost.foldl (fun u e => (u.event 0x414 .critical e.domain (le 6 e.chunk ++ le 6 t.ord)).bump 0x0409 0 0 1)
      (s.commit 0xFFFF (.stripeCommit t.ord t.hive t.region .loss [] 0 0 lost 0) [])

/-- Link time a rebuild or reshape may take in 100 ms, in payload bytes, at a share in percent (R240, R250). -/
def shareBytes (half : Bool) (share : Nat) : Nat := (if half then 165000000 else 330000000) * share / 100

/-- Payload of a rebuild or reshape on comb links: link, direction (true: to the comb), bytes (R240). -/
abbrev LinkLoad := List (Nat × Bool × Nat)

/-- On no link and in no direction does a load exceed its share of what the link carries in 100 ms at its present rate (R240, R250). -/
def State.shareHolds (s : State) (load : LinkLoad) (share : Nat) : Bool :=
  load.all fun e => ((load.filter fun x => x.1 == e.1 && x.2.1 == e.2.1).map (·.2.2)).sum ≤
    shareBytes ((s.link? e.1).any (·.half)) share

/-- What reading whole the members that a reconstruction needs takes from their links: as many as there are data members (R214), and every
surviving one where a trial had to be made (R215). -/
def readLoad (t : Stripe) (gone : List Nat) (trials : Bool) : LinkLoad :=
  let js := (List.range t.members.length).filter (!gone.contains ·)
  (if trials then js else js.take (t.members.length - 2)).map fun j => ((t.members[j]?.map (·.link)).getD 0, false, unitBytes t.region)

/-- What programming units and reading them back takes. -/
def progLoad (r : Region) (ms : List Member) : LinkLoad :=
  ms.flatMap fun m => [(m.link, true, unitBytes r), (m.link, false, unitBytes r)]

/-- Change the rebuild of a hive. -/
def State.rebuild' (s : State) (h : Nat) (f : Rebuild → Rebuild) : State :=
  s.sp' fun p => { p with rebuilds := updFirst (·.hive == h) f p.rebuilds }

/-- A REBUILD_CHECKPOINT entry (R235). -/
def State.rebuildCkpt (s : State) (r : Rebuild) : State :=
  s.journal 0x10 r.hive [r.pass, r.first, r.second.getD 0xFF, r.next, r.group, r.rebuilt, r.rewritten] []

/-- The stripes of a hive that this head rebuilds, in ordinal order. -/
def State.myStripes (s : State) (h : Nat) : List Stripe :=
  (s.sp.table.filter fun t => t.hive == h && !t.released && s.minesStripe t).sortBy fun a b => a.ord ≤ b.ord

/-- The next stripe of a rebuild's present group (R235): one that a rebuild has left to a rewrite is passed over. -/
def State.rebuildNext (s : State) (r : Rebuild) : Option Stripe :=
  (s.myStripes r.hive).find? fun t => r.next ≤ t.ord && !(s.toRebuild t).isEmpty && !t.left &&
    (r.group != 0 || (dedupBy (s.goneMembers t ++ s.toRebuild t)).length ≥ 2)

/-- The units of a stripe put in place, each once. -/
def onceEach (us : List (Nat × Bytes)) : List (Nat × Bytes) :=
  us.foldl (fun l x => if l.any (·.1 == x.1) then l else l ++ [x]) []

/-- A stripe of metadata is written anew by the next flush, because its members share a die, block set and unit (R261, R297; DESIGN CHOICE,
log 28). -/
def State.metaRewrite (s : State) (t : Stripe) : State :=
  (s.stripe' t.ord fun x => { x with moving := true }).me' fun m => { m with dirty := true }

/-- One stripe of a rebuild: its units solved, programmed, read back and committed, or the stripe left to a rewrite (R215, R234, R235, R237,
R239). Outside Mend it waits while it would take more than the share of the interval on a link. An interval of 100 ms begins with the
first stripe after the last one has run out (R240; DESIGN CHOICE, log 93). -/
def State.rebuildStripe (s : State) (r : Rebuild) (t : Stripe) : State :=
  let gone := s.unreadable t
  let found := (s.toRebuild t).mapM (s.rebuiltUnits t gone)
  let us := found.map fun l => onceEach (l.flatMap (·.1))
  let trials := found.all fun l => l.any (·.2)
  let reads := readLoad t gone trials
  let heard := s.heedPages t (wholePages t.region ((List.range t.members.length).filter (!gone.contains ·)))
  let done : State × Bool × LinkLoad :=
    if t.purpose == .metadata then (s.metaRewrite t, false, [])
    else match us with
    | none => (heard.loseAt t, false, reads)
    | some us => match heard.replaceUnits t us t.members [] with
      | (u, some ms, at_) => ((u.commitMembers t ms).stat 0x0405 0 0 us.length, true, reads ++ progLoad t.region at_)
      | (u, none, at_) => (u, false, reads ++ progLoad t.region at_)
  let fresh := s.ck.now ≥ r.shareFrom + 100 * milli
  let load := (if fresh then [] else r.shareUsed) ++ done.2.2
  if !s.inMode .mend && !s.shareHolds load (s.setting 0x04000002) then s
  else
    let s := if done.2.1 then done.1 else (done.1.leaveToRewrite t.ord).stat 0x0405 0 1 1
    let s := s.rebuild' r.hive fun r => { r with
      next := t.ord + 1, sinceCkpt := r.sinceCkpt + 1
      rebuilt := r.rebuilt + b2n done.2.1, rewritten := r.rewritten + b2n (!done.2.1)
      shareUsed := load, shareFrom := if fresh then s.ck.now else r.shareFrom }
    match s.sp.rebuilds.find? (·.hive == r.hive) with
    | some r => if r.sinceCkpt ≥ 256 then (s.rebuildCkpt r).rebuild' r.hive fun r => { r with sinceCkpt := 0 } else s
    | none => s

/-- A move's own new units, with every unit of the stripe that lies on a failed comb and can be solved (R820). -/
def State.withFailed (s : State) (t : Stripe) (us : List (Nat × Bytes)) : List (Nat × Bytes) :=
  onceEach (us ++ ((s.toRebuild t).filterMap (s.rebuiltUnits t (s.unreadable t))).flatMap (·.1))

/-- Links of a hive with units that this head still has to rebuild, other than by a rewrite: failed combs, replacements and failed dies
(R306, R820). -/
def State.rebuildLinks (s : State) (h : Nat) : List Nat :=
  dedupBy (((s.myStripes h).filter (!·.left)).flatMap fun t => (s.toRebuild t).filterMap fun i => t.members[i]?.map (·.link))

/-- The newest live checkpoint of a kind and hive in a half of the journal (R225). -/
def newestCkpt (es : List JournalEntry) (kind h : Nat) : Option JournalEntry :=
  (es.filter fun e => e.kind == kind && e.ord == h && e.live).foldl (fun a e => if a.all (·.seq < e.seq) then some e else a) none

/-- The newer of the newest checkpoints of the two halves: by tick, for their sequences are two (R236, R247). -/
def laterCkpt : Option JournalEntry → Option JournalEntry → Option JournalEntry
  | some a, some b => some (if a.tick < b.tick then b else a)
  | a, none => a
  | none, b => b

/-- A second comb of the hive that failed during the rebuild, by a MEMBER_STATE of either head: E413 (R238). -/
def State.secondFails (s : State) (r : Rebuild) : State :=
  if r.second.isSome then s
  else match (s.rebuildLinks r.hive).find? fun l => l != r.first && (s.link? l).any (·.comb == .failed) with
    | none => s
    | some l => (s.rebuild' r.hive fun r => { r with second := some l }).ev0 0x413 .severe (le 1 r.hive ++ le 1 l)

/-- A rebuild that stands open is taken up at its newest checkpoint; without one it starts with E411 (R233, R236). The shadow half counts
for what this head has taken over. -/
def State.resumeRebuild (s : State) (h : Nat) : State :=
  match s.sp.rebuilds.find? (·.hive == h) with
  | some r => s.secondFails r
  | none => match s.rebuildLinks h with
    | [] => s
    | l :: ls =>
      let taken := if s.isBrood h && !s.owns (.brood (otherSide s.pr.side)) then none else newestCkpt s.wx.shJournal 0x10 h
      let s := s.hive' h fun x => { x with rebuildNeed := true }
      -- a checkpoint that names neither of them is that of a rebuild which has ended
      let named := fun (e : JournalEntry) => (l :: ls).contains (e.body.getD 1 0) || (l :: ls).contains (e.body.getD 2 0xFF)
      match laterCkpt ((newestCkpt s.wx.journal 0x10 h).filter named) (taken.filter named) with
      | some e =>
        let b := fun (i : Nat) => e.body.getD i 0
        let second := if b 2 = 0xFF then (l :: ls).find? (· != b 1) else some (b 2)
        s.sp' fun p => { p with rebuilds := p.rebuilds ++ [⟨h, b 0, b 1, second, b 3, b 4, b 5, b 6, 0, [], s.ck.now⟩] }
      | none => (s.sp' fun p => { p with
          rebuilds := p.rebuilds ++ [⟨h, 1, l, ls.head?, 0, 0, 0, 0, 0, [], s.ck.now⟩] }).ev0 0x411 .notice (le 1 h ++ le 1 l)

/-- A position of a rebuild, group then ordinal, lies before another (R235). -/
def posBefore (g n g' n' : Nat) : Bool := g < g' || (g == g' && n < n')

/-- The stripes of a failed head join a rebuild that this head has under way: it goes on at the earlier of its own position and that of
the newest checkpoint in the shadow half, from the start where there is none; what has been rebuilt is skipped (R235, R236; the joining
is DEDUCED, log 28). -/
def State.joinRebuild (s : State) (h : Nat) : State :=
  match s.sp.rebuilds.find? (·.hive == h) with
  | none => s
  | some r =>
    let (p, n, g) := match newestCkpt s.wx.shJournal 0x10 h with
      | some e => (e.body.getD 0 1, e.body.getD 3 0, e.body.getD 4 0)
      | none => (1, 0, 0)
    s.rebuild' h fun x => { x with
      pass := min r.pass p, next := if posBefore g n r.group r.next then n else r.next, group := if posBefore g n r.group r.next then g else r.group }

/-- An unfinished reshape goes on at the newest checkpoint of a half of the journal (R247, R249). That of a whole new hive, which converts
nothing, stands until its last checkpoint gives B 2 (R245; the values are the model's, log 93). -/
def State.resumeReshape (s : State) (es : List JournalEntry) (h : Nat) : State :=
  match newestCkpt es 0x11 h with
  | none => s
  | some e =>
    let b := fun (i : Nat) => e.body.getD i 0
    match s.sp.reshapes.find? (·.hive == h) with
    | some _ => s.sp' fun p => { p with
        reshapes := updFirst (·.hive == h) (fun x => { x with bound := min x.bound (b 2), last := max x.last (b 3) }) p.reshapes }
    | none =>
      if b 3 < b 2 && !(b 0 = 0 && b 2 = 1) then s
      else (s.sp' fun p => { p with
        reshapes := p.reshapes ++ [⟨h, b 0, b 1, b 2, b 3, b 4, b 5, [], false, [], s.ck.now⟩] }).hive' h fun x => { x with
          reshapeNeed := !x.brood }

/-- An unfinished reshape that this head takes over: it goes on from the shadow half's newest checkpoint, which the head writes into its
own half, so that it is found there after a restart (R247, R249). -/
def State.takeReshape (s : State) (h : Nat) : State :=
  let had := (s.sp.reshapes.any (·.hive == h))
  let s := s.resumeReshape s.wx.shJournal h
  match s.sp.reshapes.find? (·.hive == h) with
  | some r => if had && (newestCkpt s.wx.shJournal 0x11 h).isNone then s
    else s.journal 0x11 h [r.oldN, r.newN, r.bound, r.last, r.converted, r.covering] []
  | none => s

/-- A reshape that starts again at B converts the old stripes above it anew: what new stripes past the covering ordinal hold of them goes
back to its old place, while that stripe stands, and the new stripes are released as orphaned space (R247). -/
def State.undoReshape (s : State) (h : Nat) : State :=
  match s.sp.reshapes.find? (·.hive == h) with
  | none => s
  | some r =>
    let past := s.sp.table.filter fun t => t.hive == h && t.purpose == .reshape && !t.released && s.minesStripe t && r.covering < t.commitOrd
    let olds := s.sp.table.filter fun t => t.hive == h && !t.released && s.minesStripe t && r.bound ≤ t.ord && t.ord ≤ r.last
    let back := past.flatMap fun t => t.envs.filterMap fun e => match s.chunk? e.chunk with
      | some c => if c.state == .stored && c.place == ⟨t.ord, e.off⟩ then
          olds.findSome? fun o => (o.envs.find? fun x => x.chunk == e.chunk).map fun x =>
            MapItem.chunkPlace e.chunk e.domain ⟨o.ord, x.off⟩ x.len o.hive c.place
        else none
      | none => none
    -- a stripe that still holds a chunk whose old stripe has gone is kept
    let kept := fun (t : Stripe) => t.envs.any fun e => (s.chunk? e.chunk).any (fun c => c.state == .stored && c.place == ⟨t.ord, e.off⟩) &&
      !back.any fun i => match i with
        | .chunkPlace c .. => c == e.chunk
        | _ => false
    s.mapChange 0xFFFF (back ++ (past.filter (!kept ·)).map fun t => .stripeRelease t.ord) []

/-- The end of a group, of a pass, or of the rebuild with E412 (R233, R235, R238). A pass that leaves units behind is followed by another
one. -/
def State.rebuildTurn (s : State) (r : Rebuild) : State :=
  if r.group = 0 then s.rebuild' r.hive fun r => { r with group := 1, next := 0 }
  else if (r.pass = 1 && r.second.isSome) || !(s.rebuildLinks r.hive).isEmpty then
    s.rebuild' r.hive fun r => { r with pass := 2, group := 1, next := 0 }
  else
    let s := (s.sp' fun p => { p with rebuilds := p.rebuilds.filter (·.hive != r.hive) }).hive' r.hive fun h => { h with
      rebuildNeed := false }
    let s := s.ev0 0x412 .notice (le 1 r.hive)
    s.sp' fun p => { p with reshapes := p.reshapes.map fun x => (if x.hive == r.hive then { x with paused := false } else x) }

/-- COMB_RETIRE: copy the next unit of the comb; after the last, the comb is retired and the request answered. It waits for the open
stripes with a member on the comb, and for the stripes of the other head there, which that head moves (R233, R243; log 88). -/
def State.retireStep (s : State) (h : Nat) : State :=
  match s.sp.retiring.find? fun e => (s.link? e.1).any (·.hive == h) with
  | none => s
  | some (link, w) =>
    let left := s.sp.table.filter fun t => t.hive == h && !t.released && t.members.any (·.link == link)
    match (left.filter fun t => s.minesStripe t && !t.left).sortBy (fun a b => a.ord ≤ b.ord) |>.head? with
    | some t =>
      if t.purpose == .metadata then (s.metaRewrite t).leaveToRewrite t.ord
      else
      let i := (t.members.findIdx? (·.link == link)).getD 0
      match s.unitOf t i with
      | none => (s.heedPages t (wholePages t.region [i])).leaveToRewrite t.ord
      | some u => match (s.heedPages t (wholePages t.region [i])).replaceUnits t (s.withFailed t [(i, u)]) t.members [] with
        | (s, some ms, _) => s.commitMembers t ms
        | (s, none, _) => s.leaveToRewrite t.ord
    | none =>
      if !left.isEmpty || s.sp.opens.any fun t => t.members.any (·.link == link) then s
      else
        let ser := ((s.link? link).map (·.serial)).getD 0
        let s := s.commit 0xFFFF (.combState link .retired ser) (match w with
          | some w => [.reply w .success []]
          | none => [])
        (s.sp' fun p => { p with retiring := p.retiring.filter (·.1 != link) }).link' link fun l => { l with
          comb := .retired, retired := false }

/-! ## Live envelopes and their copies -/

/-- A chunk lies in a stripe that is written and not yet placed (R290). -/
def State.inFlight (s : State) (c : Nat) : Bool :=
  (s.sp.table.any fun t => !t.released && !t.placed && (t.purpose == .fold || t.purpose == .gc || t.purpose == .reshape) &&
    t.envs.any (·.chunk == c)) ||
    s.sp.opens.any fun t => t.purpose != .landing && t.envs.any (·.entry.chunk == c)

/-- An envelope's bytes as they pass the checks of R156, after the rebuilds of R157 where it must; those of a domain
without keys are taken as they are read. -/
def State.soundEnv (s : State) (t : Stripe) (e : EnvEntry) : Option Bytes :=
  if (s.ks.recs.find? (·.domain == e.domain)).isNone then s.envBytes t [] e.off e.len
  else ([] :: tries (dedupBy ((envPages t.region e.off e.len).map (·.1)))).findSome? fun out =>
    (s.envBytes t out e.off e.len).filter fun b => (s.openEnvelope e.domain e.chunk b).isSome

/-- A stripe's envelope is the place of its chunk, which is counted or waited for (R270). -/
def State.liveEnv (s : State) (t : Stripe) (e : EnvEntry) : Bool :=
  (s.chunk? e.chunk).any fun c => c.state == .stored && c.place == ⟨t.ord, e.off⟩ && (c.refs > 0 || s.waitsFor e.chunk)

/-- The live envelopes of a stripe with their bytes: not under copy elsewhere (R270, R286, R296); manifests stay while
the ledger is full (R301). -/
def State.liveEnvs (s : State) (t : Stripe) : List (EnvEntry × Place × Bytes) :=
  t.envs.filterMap fun e =>
    if s.liveEnv t e && !s.inFlight e.chunk && !(e.manifest && s.ledgerFull) then
      (s.soundEnv t e).map fun b => (e, ⟨t.ord, e.off⟩, b)
    else none

/-- The pages of a stripe that copying its live envelopes reads, by member and position. -/
def State.copyPages (s : State) (t : Stripe) : List (Nat × Nat) :=
  s.pagesFor t (dedupBy ((s.liveEnvs t).flatMap fun e => envPages t.region e.1.off e.1.len))

/-- Before a stripe's envelopes move, each that no rebuild makes sound is read as R157 and R158 say: E330, and LOSS; what the pages of the
others tell as they are read is heeded (R305, R334). -/
def State.loseUnsound (s : State) (t : Stripe) : State :=
  let s := t.envs.foldl (fun u e => match u.chunk? e.chunk with
    | some c => if u.liveEnv t e && (u.soundEnv t e).isNone then (u.readStored c).1 else u
    | none => u) s
  s.heedPages t (s.copyPages t)

/-- The envelopes, from the front of a list, that fit in a number of units. -/
def takeFit {α : Type} (len : α → Nat) : List α → Nat → List α
  | [], _ => []
  | x :: l, room => if len x ≤ room then x :: takeFit len l (room - len x) else []

/-- Put envelopes in an open stripe, each with the place it is expected to leave. -/
def State.placeAll (s : State) (ord : Nat) (es : List (EnvEntry × Place × Bytes)) : State :=
  es.foldl (fun t e => t.placeEnv ord e.1 [] (some e.2.1) e.2.2) s

/-- Release stripes that are not to be placed (R291, R293). -/
def State.dropStripes (s : State) (ords : List Nat) : State :=
  s.mapChange 0xFFFF (ords.map .stripeRelease) []

/-- Copy envelopes of a brood hive into new stripes of a purpose in that hive, each programmed, committed and read back;
a tall stripe for an envelope that no other holds (R246, R296, R819). The ordinals that read back well; the others are released (R38). -/
def State.copySlc (s : State) (hive : Nat) (p : Purpose) : Nat → List (EnvEntry × Place × Bytes) → State × List Nat
  | 0, _ => (s, [])
  | _, [] => (s, [])
  | n + 1, es =>
    let w := s.width hive
    let tall := (es.head?.map (·.1.len)).getD 0 > dataSpace .brood w
    match s.openStripe hive 0 (if tall then .tall else .brood) p with
    | (s, none) => (s, [])
    | (s, some ord) =>
      let now := takeFit (fun (e : EnvEntry × Place × Bytes) => e.1.len) es (((s.open? ord).map (·.room)).getD 0)
      let s := (s.placeAll ord now).stripeNow ord
      let good := s.stripeReads ord
      let (s, rest) := (s.cond (!good) fun t => t.dropStripes [ord]).copySlc hive p n (es.drop now.length)
      (s, if good then ord :: rest else rest)

/-- CHUNK_PLACE items that move the chunks of new stripes, for chunks still at the place they were copied from (R271, R290); a manifest
that the ledger has no entry left for stays (R298, R301). -/
def State.placeItems (s : State) (ords : List Nat) : List MapItem :=
  ords.flatMap fun o => match s.open? o with
    | some t => t.envs.filterMap fun e => if e.entry.manifest && s.ledgerFull then none else e.old.map fun old =>
        .chunkPlace e.entry.chunk e.entry.domain ⟨o, e.entry.off⟩ e.entry.len t.hive old
    | none => match s.stripe? o with
      | some t => t.envs.filterMap fun e => match s.chunk? e.chunk with
        | some c => if c.state == .stored && c.place.ordinal != o && !(c.manifest && s.ledgerFull) then
            some (.chunkPlace e.chunk e.domain ⟨o, e.off⟩ e.len t.hive c.place) else none
        | none => none
      | none => []

/-! ## Rows of QLC block sets in a honey hive (R287 to R292) -/

/-- Block sets of the space a head collects in a hive, and those FREE: its own dies (R294). -/
def State.spaceSets (s : State) (h : Nat) : Nat × Nat :=
  (s.workingLinks h).foldl (fun acc n => match s.link? n with
    | none => acc
    | some l => (s.diesFor l).foldl (fun acc d =>
      let n := ((l.descs[d]?).map (·.blocks)).getD 0
      let bad := (((l.descs[d]?).map (·.factoryBad)).getD []).length
      let used := (s.me.sets.filter fun b => b.link == l.link && b.die == d && b.state != .free && b.state != .factoryBad).length
      (acc.1 + (n - bad), acc.2 + (n - bad - used))) acc) (0, 0)

/-- A head may take block sets of a hive for a row: in a brood hive only while more than BROOD_SLC_RESERVE of its own SLC block sets there
are FREE (R15, R253). -/
def State.rowAllowed (s : State) (h : Nat) : Bool :=
  let (all, free) := ((s.workingLinks h).filterMap s.link?).foldl (fun acc l => (acc.1 + (s.slcSets l).1, acc.2 + (s.slcSets l).2)) (0, 0)
  !s.isBrood h || (s.noHoney && s.setting 0x04000010 * all < 100 * free)

/-- The open row of a hive for a use. -/
def State.openRow (s : State) (h : Nat) (gc : Bool) : Option FoldRow :=
  s.me.rows.find? fun r => r.hive == h && !r.sealed &&
    r.sets.any fun x => (s.set? x.1 x.2.1 x.2.2).any fun b => (b.use == .gc) == gc

/-- The die of a comb on which a row takes a FREE block set of a mode, with the block: the idle die with the lowest P/E count, the lowest die
among equals, and with no idle one the die it would be if all were idle (R287, R302, R818). -/
def State.rowPick (s : State) (l : Link) (qlc : Bool) : Option (Nat × Nat × Nat) :=
  let with_ := fun (ds : List Nat) => ds.filterMap fun d => (s.freeSet l d qlc).map fun b => (l.link, d, b)
  let idle := with_ ((s.diesFor l).filter fun d => !l.tasks.any (·.hdr.die == d))
  (if idle.isEmpty then with_ (s.diesFor l) else idle).foldl (fun best p => match best with
    | some q => if s.peOf p.1 p.2.1 p.2.2 < s.peOf q.1 q.2.1 q.2.2 then some p else some q
    | none => some p) none

/-- In a brood hive a row takes block sets that are erased into QLC mode first: on each comb without a FREE one, and without one on its
way, a FREE SLC block set becomes FREE_DIRTY for that (R15, R253, R255). -/
def State.convertSets (s : State) (h : Nat) : State :=
  ((s.workingLinks h).filterMap s.link?).foldl (fun t l =>
    if (t.rowPick l true).isSome || t.me.sets.any fun b => b.link == l.link && b.toQlc then t
    else match t.rowPick l false with
      | none => t
      | some (k, d, b) =>
        let t := (t.blockState k d b .freeDirty false .none (t.peOf k d b) (t.grownOf k d b)).set' k d b fun x => { x with toQlc := true }
        match t.set? k d b with
        | some x => t.dirtySet x
        | none => t) s

/-- Open a row: one QLC block set on each working comb (R287). None when a comb has none; a brood hive has some erased for it first. -/
def State.newRow (s : State) (h : Nat) (use : BlockUse) : State :=
  let picks := (s.workingLinks h).map fun l => (s.link? l).bind fun x => s.rowPick x true
  if picks.length < 6 || !s.rowAllowed h then s
  else if picks.any (·.isNone) then s.cond (s.isBrood h) fun s => s.convertSets h
  else
    let sets := picks.filterMap id
    let s := sets.foldl (fun t p => (t.setBlock p.1 p.2.1 p.2.2 .opened true use).set' p.1 p.2.1 p.2.2 fun b => { b with
      nextUnit := 0, progUnit := 0, openTick := s.ck.tick, passed := false }) s
    s.me' fun m => { m with rows := m.rows ++ [⟨h, sets, 0, [], false⟩] }

/-- Change a hive's unsealed row that holds a block set. -/
def State.row' (s : State) (x : Nat × Nat × Nat) (f : FoldRow → FoldRow) : State :=
  s.me' fun m => { m with rows := updFirst (fun r => r.sets.contains x) f m.rows }

/-- A row's block set on a link takes a further wordline: it is OPEN, and its comb works. -/
def State.rowRoom (s : State) (r : FoldRow) (l : Nat) : Bool :=
  (s.workingLinks r.hive).contains l && (r.sets.find? (·.1 == l)).any fun x => (s.set? x.1 x.2.1 x.2.2).any fun b =>
    b.state == .opened && b.nextUnit < 384

/-- The combs of a row, in ascending order, and the width of its next stripe. -/
def State.rowShape (s : State) (r : FoldRow) : List Nat × Nat :=
  let combs := (r.sets.map (·.1)).sortBy (· ≤ ·)
  (combs, min (s.width r.hive) combs.length)

/-- The next ordinal of this head whose members' block sets all have room: those that a row's rotation (R205) leaves full are passed over
(DESIGN CHOICE, log 88). The fuel is the number of combs. -/
def State.rowOrd (s : State) (r : FoldRow) : Nat → Nat → Option Nat
  | 0, _ => none
  | f + 1, o =>
    if (memberLinks (s.rowShape r).1 o (s.rowShape r).2).all (s.rowRoom r) then some o else s.rowOrd r f (alignId s.pr.side (o + 1))

/-- No stripe fits in a row any more. -/
def State.rowSpent (s : State) (r : FoldRow) : Bool := (s.rowOrd r r.sets.length s.stripeOrd).isNone

/-- One stripe in a row: the next wordline of each member's block set (R205, R287); none when no stripe fits. -/
def State.rowStripe (s : State) (r : FoldRow) (p : Purpose) (es : List (EnvEntry × Place × Bytes)) : State × Bool :=
  let (combs, n) := s.rowShape r
  -- the last ordinals go to no fold (R209)
  if n < 6 || (s.stripesSpent && !p.toTheLast) then (s, false)
  else match s.rowOrd r combs.length s.stripeOrd with
    | none => (s, false)
    | some o => match (s.sp' fun p => { p with nextOrd := o }).allocStripe with
      | (s, none) => (s, false)
      | (s, some ord) =>
        let ms := (memberLinks combs ord n).filterMap fun l => (r.sets.find? (·.1 == l)).bind fun x =>
          (s.set? x.1 x.2.1 x.2.2).map fun b => (⟨x.1, x.2.1, x.2.2, 4 * b.nextUnit, 0, 0⟩ : Member)
        let jseq := s.wx.jSeq
        let s := s.journal 0x01 ord [r.hive, 1, purposeN p, n, s.hiveEpoch r.hive] ms
        let t : OpenStripe :=
          { ord := ord, hive := r.hive, region := .honey, purpose := p, lane := 0, members := ms
            prog := List.replicate n .idle, failed := [], epoch := s.hiveEpoch r.hive, openTick := s.ck.tick, firstAt := none, used := 0
            envs := [], data := [], closed := false, units := [], jseq := jseq, commitOrd := none }
        let s := ((s.sp' fun p => { p with opens := p.opens ++ [t] }).placeAll ord es).stripeNow ord
        let s := ms.foldl (fun u m => u.set' m.link m.die m.block fun b => { b with nextUnit := b.nextUnit + 1 }) s
        let s := ms.foldl (fun u m => match u.set? m.link m.die m.block with
          | some b => if b.nextUnit ≥ 384 && b.state == .opened then u.setBlock m.link m.die m.block .sealed true b.use else u
          | none => u) s
        (s.row' (r.sets.headD (0, 0, 0)) fun r => { r with next := r.next + 1, stripes := r.stripes ++ [ord] }, true)

/-- Put envelopes in a row's next stripes; what finds no room is left. -/
def State.copyRow (s : State) (x : Nat × Nat × Nat) (p : Purpose) : Nat → List (EnvEntry × Place × Bytes) → State
  | 0, _ => s
  | _, [] => s
  | n + 1, es => match s.me.rows.find? fun r => r.sets.contains x with
    | none => s
    | some r =>
      let now := takeFit (fun (e : EnvEntry × Place × Bytes) => e.1.len) es (dataSpace .honey (min (s.width r.hive) r.sets.length))
      match s.rowStripe r p now with
      | (s, true) => if now.isEmpty then s else s.copyRow x p n (es.drop now.length)
      | (s, false) => s

/-- Fill a row's remaining wordlines with stripes of used length 0 (R292). -/
def State.fillRow (s : State) (x : Nat × Nat × Nat) (p : Purpose) : Nat → State
  | 0 => s
  | n + 1 => match s.me.rows.find? fun r => r.sets.contains x with
    | none => s
    | some r => match s.rowStripe r p [] with
      | (s, true) => s.fillRow x p n
      | (s, false) => s

/-- The wordlines of a row that no stripe has taken: link, die, block and the first of them. None where a block set of the row can no longer
become full: nothing of such a row is placed (R288). -/
def State.rowRest (s : State) (r : FoldRow) : List (Nat × Nat × Nat × Nat) :=
  if r.sets.all fun x => s.rowRoom r x.1 || (s.set? x.1 x.2.1 x.2.2).any (·.nextUnit ≥ 384) then
    r.sets.filterMap fun x => (s.set? x.1 x.2.1 x.2.2).bind fun b => if b.nextUnit < 384 then some (x.1, x.2.1, x.2.2, b.nextUnit) else none
  else []

/-- Program a block set's remaining wordlines with filler that belongs to no stripe: a width that does not divide the row leaves a few,
and only a block set with all 384 units programmed is placed from (R288; DESIGN CHOICE, log 88). -/
def State.padSet (s : State) (x : Nat × Nat × Nat × Nat) : State :=
  let s := (List.range (384 - x.2.2.2)).foldl (fun u i =>
    u.programUnit .honey ⟨x.1, x.2.1, x.2.2.1, 4 * (x.2.2.2 + i), 0, 0⟩ (zeros 128) (zeros (unitBytes .honey))) s
  s.set' x.1 x.2.1 x.2.2.1 fun b => { b with nextUnit := 384 }

/-- What the filler of a row's last wordlines takes from the comb links. -/
def State.restLoad (s : State) (r : FoldRow) : LinkLoad :=
  (s.rowRest r).map fun x => (x.1, true, (384 - x.2.2.2) * unitBytes .honey)

/-- The row is closed: its last wordlines are filled, and every block set of it that is still OPEN is SEALED, full, or short where its comb
no longer works (R288, R292). -/
def State.sealRow (s : State) (x : Nat × Nat × Nat) : State :=
  match s.me.rows.find? fun r => r.sets.contains x with
  | none => s
  | some r =>
    let s := (s.rowRest r).foldl State.padSet s
    let s := r.sets.foldl (fun t p => match t.set? p.1 p.2.1 p.2.2 with
      | some b => if b.state == .opened then t.setBlock p.1 p.2.1 p.2.2 .sealed true b.use else t
      | none => t) s
    s.row' x fun r => { r with sealed := true }

/-- A row in which no stripe fits any more is closed. -/
def State.sealIfFull (s : State) (x : Nat × Nat × Nat) : State :=
  match s.me.rows.find? fun r => r.sets.contains x with
  | none => s
  | some r => if s.rowSpent r then s.sealRow x else s

/-- Own brood stripes that fold takes, in ordinal order, with the live envelopes whose domain this head owns (R286). -/
def State.foldable (s : State) : List (EnvEntry × Place × Bytes) :=
  ((s.sp.table.filter fun t => s.isBrood t.hive && t.region != .honey && !t.released && t.purpose != .metadata && s.minesStripe t &&
      s.hivePowered t.hive && s.allAnswer t.hive).sortBy fun a b => a.ord ≤ b.ord).flatMap fun t =>
    (s.liveEnvs t).filter fun e => s.owns (.domain e.1.domain) && (s.chunk? e.1.chunk).any (·.refs > 0)

/-- The fold backlog, in bytes (R286). -/
def State.foldBacklog (s : State) : Nat :=
  ((s.rd.chunks.filter fun c => c.state == .stored && s.isBrood c.hive && c.refs > 0 && s.owns (.domain c.domain) &&
    !(s.stripe? c.place.ordinal).any (·.region == .honey)).map (64 * ·.len)).sum

/-- The giver of a rebalance still has chunks of its units in brood stripes (R267, R572). -/
def State.rebFolds (s : State) : Bool :=
  s.pr.rebalance.any fun (r : Rebalance) => r.giver && r.phase < 3 &&
    s.rd.chunks.any fun c => c.state == .stored && r.units.contains (.domain c.domain) && s.isBrood c.hive

/-- The fold need of this head's honey hives: at 4 GiB of backlog, under R285, or for a rebalance (R267, R286, R364). -/
def State.judgeFold (s : State) : State :=
  if s.foldBacklog ≥ 4 * 2 ^ 30 || (s.broodBelow 20 && s.foldBacklog > 0) || (s.rebFolds && s.foldBacklog > 0) then
    (s.hv.hives.filter fun h => !h.brood && h.inService && s.owns (.honey h.id) && !h.foldNeed).foldl (fun t h =>
      (t.hive' h.id fun x => { x with foldNeed := true }).askWake h.id 2) s
  else s

/-! ## Garbage collection (R294, R295) -/

/-- Begin and end the collection of a hive by GC_START and GC_STOP; E541 below half of GC_START (R294). -/
def State.judgeGc (s : State) (h : Nat) : State :=
  let (all, free) := s.spaceSets h
  let start := s.setting 0x04000012
  let s := if free * 100 < start * all && !s.me.gcActive.contains h then
      s.me' fun m => { m with gcActive := m.gcActive ++ [h] }
    else if free * 100 ≥ s.setting 0x04000013 * all then s.me' fun m => { m with gcActive := m.gcActive.filter (· != h) }
    else s
  if free * 200 < start * all then
    if s.me.gcLow.contains h then s
    else (s.me' fun m => { m with gcLow := m.gcLow ++ [h] }).ev0 0x541 .warn (le 1 h)
  else s.me' fun m => { m with gcLow := m.gcLow.filter (· != h) }

/-- A stripe holds units on SUSPECT block sets (R295, R305). -/
def State.onSuspect (s : State) (t : Stripe) : Bool :=
  t.members.any fun m => (s.set? m.link m.die m.block).any (·.suspect)

/-- A stripe holds a live manifest chunk (R295). -/
def State.holdsManifest (s : State) (t : Stripe) : Bool :=
  t.envs.any fun e => e.manifest && (s.chunk? e.chunk).any fun c => c.state == .stored && c.place == ⟨t.ord, e.off⟩

/-- A hive has stripes to collect that only a wake would reach: the lowest need (R296, R364). -/
def State.gcWanted (s : State) (t : Stripe) : Bool :=
  s.me.gcActive.contains t.hive || t.rewrite || s.onSuspect t

/-- Stripes of a hive that this head may collect: scheduled or on SUSPECT block sets, or, while the hive is being
collected, any (R294, R295); those with a live manifest are passed over while the ledger is full. -/
def State.gcCandidates (s : State) (h : Nat) : List Stripe :=
  (s.myStripes h).filter fun t => s.gcWanted t && !t.moving && !t.waits && !(s.ledgerFull && s.holdsManifest t)

/-- The age of a stripe in ticks. -/
def State.ageOf (s : State) (t : Stripe) : Nat := s.ck.tick - t.openTick

/-- One candidate is collected before another: least live units per used unit times its share of the oldest age, the
common factor of the oldest age left out (R295). -/
def State.gcBefore (s : State) (a b : Stripe) : Bool :=
  decide (a.live * s.ageOf a * max 1 b.used < b.live * s.ageOf b * max 1 a.used)

/-- The stripe that a hive's collection takes next (R295). Among the stripes of the first class, and among equals of the second, it is the
one of lowest ordinal: the spec gives no order there (DESIGN CHOICE, log 93). -/
def State.gcPick (s : State) (h : Nat) : Option Stripe :=
  let cs := s.gcCandidates h
  match cs.find? fun t => t.rewrite || s.onSuspect t with
  | some t => some t
  | none => cs.foldl (fun best t => match best with
    | some b => if s.gcBefore t b then some t else some b
    | none => some t) none

/-- Garbage collection of a hive goes before new landing and fold programs there: below half of GC_START, while there is something to
collect (R294). -/
def State.gcFirst (s : State) (h : Nat) : Bool := s.me.gcLow.contains h && (s.gcPick h).isSome

/-- Fold goes before garbage collection: below 20 % of brood free space, while an awake honey hive can take chunks (R285); not where the
collection goes before it (R294). -/
def State.foldFirst (s : State) (h : Nat) : Bool :=
  s.broodBelow 20 && !s.gcFirst h && s.foldBacklog > 0 &&
    s.hv.hives.any fun x => !x.brood && s.owns (.honey x.id) && s.mayMove x.id && !s.gcFirst x.id

/-! ## Read-back (R289) -/

/-- A block set of a row has had all 384 units programmed (R288). -/
def State.setFull (s : State) (x : Nat × Nat × Nat) : Bool := (s.set? x.1 x.2.1 x.2.2).any (·.nextUnit ≥ 384)

/-- Every unit of the stripes that lie in a block set passes: footer and unit CRC (R289). -/
def State.setPasses (s : State) (x : Nat × Nat × Nat) (ords : List Nat) : Bool :=
  ords.all fun o => match s.stripe? o with
    | none => false
    | some t => (List.range t.members.length).all fun i => match t.members[i]? with
      | none => true
      | some m => !(m.link == x.1 && m.die == x.2.1 && m.block == x.2.2) || (s.unitOf t i).isSome

/-- Place the stripes of a row: CHUNK_PLACE for their chunks (R290), and the release of those that hold nothing to be placed, filler among
them (R273, R292). -/
def State.placeStripes (s : State) (ords : List Nat) : State :=
  let items := s.placeItems ords
  let bytes := (items.map fun i => match i with
    | .chunkPlace _ _ _ len _ _ => 64 * len
    | _ => 0).sum
  let h := ((ords.head?.bind s.stripe?).map (·.hive)).getD 0
  let fold := (ords.head?.bind s.stripe?).any (·.purpose == .fold)
  let idle := ords.filter fun o => !items.any fun i => match i with
    | .chunkPlace _ _ new _ _ _ => new.ordinal == o
    | _ => false
  (s.mapChange 0xFFFF (items ++ idle.map .stripeRelease) []).stat (if fold then 0x0501 else 0x0502) h 0 bytes

/-! ## Erases and wear (R256, R302, R303, R305) -/

/-- A block set that is kept for anchors (R264). -/
def State.anchorSet (s : State) (b : BlockSet) : Bool :=
  s.isBrood (b.link / 16) && b.block < 2 && ((s.link? b.link).bind s.anchorDie) == some b.die

/-- An erase has passed: FREE with P/E + 1 in the mode that it was erased into, or RETIRED by R303 and R305 (R253, R256). A block set of
the anchors is RESERVED again (R264). -/
def State.eraseEnds (s : State) (b : BlockSet) : State :=
  let pe := min 0xFFFFFF (b.pe + 1)
  let d := ((s.link? b.link).map (·.descs)).getD [] |>.getD b.die resetDesc
  let worn := pe ≥ (if b.qlc then d.peQlc else d.peSlc)
  let bad := b.suspect && b.grown ≥ 2
  let s := (s.set' b.link b.die b.block fun x => { x with erasing := false, erased := false, pe := pe }).stat 0x0504 b.link 0 1
  if worn || bad then s.retireSet b.link b.die b.block
  else
    let s := s.set' b.link b.die b.block fun x => { x with
      suspect := false, state := if s.anchorSet b then .reserved else .free, use := if s.anchorSet b then .anchor else .none
      nextUnit := 0, passed := false, qlc := s.eraseMode b, toQlc := false }
    s.mapChange 0xFFFF (.blockState b.link b.die b.block .free (s.eraseMode b) .none pe b.grown ::
      if s.anchorSet b then [.blockState b.link b.die b.block .reserved false .anchor pe b.grown] else []) []

/-- The block sets of one mode on a comb that R302 compares, those that were never erased here among them: these stand for one, the lowest,
of each die. -/
def State.wearSets (s : State) (link : Nat) (qlc : Bool) : List BlockSet :=
  let fresh := match s.link? link with
    | none => []
    | some l => if qlc == !s.isBrood l.hive then (s.diesFor l).filterMap fun d => (s.freshBlock l d).map fun b =>
        { (default : BlockSet) with link := link, die := d, block := b, state := .free, qlc := qlc } else []
  fresh ++ s.me.sets.filter fun b => b.link == link && b.qlc == qlc &&
    (b.state == .free || b.state == .sealed || b.state == .opened || b.state == .freeDirty)

/-- The spread of P/E counts of one mode on a comb, and its lowest SEALED block set, oldest open tick first, then the lowest-numbered
(R302, R818). -/
def State.wearPick (s : State) (link : Nat) (qlc : Bool) : Nat × Option BlockSet :=
  let sets := s.wearSets link qlc
  let hi := (sets.map (·.pe)).foldl max 0
  let lo := sets.foldl (fun a b => min a b.pe) hi
  (hi - lo, firstSet (fun b x => b.pe < x.pe || (b.pe == x.pe && (b.openTick < x.openTick || (b.openTick == x.openTick && b.before x))))
    (sets.filter (·.state == .sealed)))

/-- Housekeeping of a hive calls for it: garbage collection, stripes scheduled for rewrite, or wear moves (R294, R302, R364). -/
def State.houseCalls (s : State) (h : Nat) : Bool :=
  s.me.gcActive.contains h || ((s.myStripes h).any fun t => t.rewrite || s.onSuspect t) ||
    (s.workingLinks h).any fun l => [false, true].any fun q => (s.wearPick l q).1 >
      (if s.me.wearActive.contains l then s.setting 0x04000014 - 100 else s.setting 0x04000014)

end Sys2Proof.Machine
end

