-- ==== Sys2Proof/Machine/RecBytes.lean ====
section
/-! DEFINITION. The bytes of wax records and journal entries (R165, R169, R173, R179, R222 to R224, R270, R271, R438,
R446, R527, R543, R693). -/

namespace Sys2Proof.Machine

/-- An 8-byte place: ordinal in bits [47:0], offset in bits [63:48] (R271). -/
def Place.bytes (p : Place) : Bytes := le 6 p.ordinal ++ le 2 p.off

/-- A member entry (R222). -/
def Member.bytes (m : Member) : Bytes :=
  le 1 m.link ++ le 1 m.die ++ le 2 m.block ++ le 2 m.page ++ le 1 m.state ++ [0#8] ++ le 4 m.crc.toNat ++ zeros 4

/-- An envelope entry (R222). -/
def EnvEntry.bytes (e : EnvEntry) : Bytes :=
  le 6 e.chunk ++ le 2 e.domain ++ le 2 e.off ++ le 2 e.len ++ le 1 (b2n e.manifest + 2 * b2n e.deferred) ++ zeros 3

/-- Comb state codes of the comb state entry (R223). -/
def CombState.num : CombState → Nat
  | .working => 0 | .failed => 1 | .retired => 2 | .replacement => 3 | .absent => 4

/-- Chunk states (R268). -/
def ChunkState.num : ChunkState → Nat
  | .free => 0 | .stored => 1 | .aliased => 2 | .dataLost => 3

/-- Block uses (R255). -/
def BlockUse.num : BlockUse → Nat
  | .none => 0 | .landing => 1 | .metadata => 2 | .fold => 3 | .gc => 4 | .anchor => 5 | .wear => 6

/-- Object states (R437). -/
def ObjState.code : ObjState → Nat
  | .opened => 0 | .accepted => 1 | .live => 2 | .released => 3

/-- An item with its 4-byte header: type, length in units of 8 bytes, reserved (R271). -/
def itemBytes (type len : Nat) (body : Bytes) : Bytes := le 1 type ++ le 1 (len / 8) ++ zeros 2 ++ fit (len - 4) body

/-- The bytes of a MAP_CHANGE item (R271, R438). The label hash of SNAP_FREEZE is the CRC-32C of the label, and what an
item of an object names beside its key is the model's own (log 8). -/
def MapItem.bytes : MapItem → Bytes
  | .chunkPlace c d n len h o => itemBytes 0x01 32 (le 6 c ++ le 2 d ++ n.bytes ++ le 2 (len % 8192 + h * 8192) ++ o.bytes)
  | .chunkState c d st df mf => itemBytes 0x02 16 (le 6 c ++ le 2 d ++ le 1 (st.num + 8 * b2n df + 16 * b2n mf))
  | .chunkAlias c d t => itemBytes 0x03 24 (le 6 c ++ le 2 d ++ le 6 t)
  | .nsMap n k c z => itemBytes 0x04 24 (le 4 n ++ le 8 k ++ le 6 c ++ le 1 (b2n z))
  | .nsZero n f k => itemBytes 0x05 24 (le 4 n ++ le 8 f ++ le 4 k)
  | .fpInsert d c f => itemBytes 0x06 48 (le 2 d ++ zeros 2 ++ le 6 c ++ zeros 2 ++ f)
  | .fpRemove d c f => itemBytes 0x07 48 (le 2 d ++ zeros 2 ++ le 6 c ++ zeros 2 ++ f)
  | .ledgerDrop d p => itemBytes 0x08 16 (le 2 d ++ zeros 2 ++ p.bytes)
  | .blockState l di b st q u pe grown =>
    itemBytes 0x09 16 (le 1 l ++ le 1 di ++ le 2 b ++ le 1 (blockStateN st) ++ le 1 (b2n q + 2 * u.num + 16 * min grown 15) ++ zeros 2 ++ le 4 pe)
  | .stripeRelease o => itemBytes 0x0A 16 (le 6 o)
  | .snapFreeze n i label => itemBytes 0x0B 16 (le 4 n ++ le 4 i ++ crcBytes label)
  | .treeDrop n i => itemBytes 0x0C 16 (le 4 n ++ le 4 i)
  | .pageDrop d k => itemBytes 0x0D 16 (le 2 d ++ zeros 2 ++ le 8 k)
  | .nsClone a i b => itemBytes 0x0E 16 (le 4 a ++ le 4 i ++ le 4 b)
  | .seqClaim f => itemBytes 0x0F 16 (le 8 f)
  | .objectCreate d _ top len tok dig m =>
    itemBytes 0x10 56 (le 2 d ++ le 1 (b2n m) ++ zeros 1 ++ le 6 top ++ zeros 2 ++ le 8 len ++ fit 16 tok ++ fit 16 dig)
  | .objectState d k r t => itemBytes 0x11 24 (le 2 d ++ le 1 (if r then 3 else 2) ++ zeros 1 ++ le 6 k ++ zeros 2 ++ le 8 t)
  | .partAdd d k p m len tok dig =>
    itemBytes 0x12 56 (le 2 d ++ le 2 k ++ le 4 p ++ le 6 m ++ zeros 2 ++ le 4 len ++ fit 16 tok ++ fit 16 dig)
  | .tokenDrop d t => itemBytes 0x13 24 (le 2 d ++ zeros 2 ++ fit 16 t)
  | .openDrop d t => itemBytes 0x14 24 (le 2 d ++ zeros 2 ++ fit 16 t)

/-- A RING_RELEASE entry (R173). -/
def RelItem.bytes (r : RelItem) : Bytes := le 4 r.off ++ le 4 r.units ++ le 8 r.ordinal

/-- A unit entry of HANDOVER (R543). -/
def OwnUnit.bytes : OwnUnit → Bytes
  | .domain d => le 2 0 ++ le 2 d
  | .honey h => le 2 1 ++ le 2 h
  | .brood sd => le 2 2 ++ le 2 (sideN sd)

/-- The 64-byte put descriptor (R446). -/
def PutDesc.bytes (d : PutDesc) : Bytes :=
  let b := fit 16 d.token ++ le 2 d.domain ++ le 2 d.stream ++ le 4 d.part ++ le 8 d.objLen ++ le 4 d.putLen ++
    le 1 (b2n d.last + 2 * b2n d.abort + 4 * b2n d.reset) ++ zeros 23
  b ++ crcBytes b

/-- Record kinds (R169). -/
def RecBody.kind : RecBody → Nat
  | .acceptWrite .. => 0x01 | .acceptPut .. => 0x02 | .acceptControl _ => 0x03 | .stripeCommit .. => 0x10
  | .combState .. => 0x10 | .mapChange _ => 0x11 | .refChange _ => 0x12 | .chunkClaim _ => 0x13 | .ringRelease _ => 0x14
  | .checkpoint .. => 0x15 | .frameSchedule _ => 0x20 | .frameGo _ => 0x21 | .frameEnd .. => 0x22 | .modeChange _ => 0x23
  | .handover .. => 0x30 | .keyChange .. => 0x40 | .replProgress .. => 0x50 | .pad => 0x00

/-- Kind fields, bytes 40 to 59. -/
def RecBody.fields (b : RecBody) : Bytes :=
  fit 20 (match b with
    | .acceptWrite n off st c _ => le 4 n ++ le 8 off ++ le 2 st ++ le 2 c
    | .acceptPut d _ => fit 16 d.token ++ le 4 d.part
    | .stripeCommit o h r p ms u e envs _ =>
      le 6 o ++ le 1 h ++ le 1 (regionN r) ++ le 1 (purposeN p) ++ le 1 ms.length ++ le 2 u ++ le 4 e ++ le 4 envs.length
    | .combState link _ _ => zeros 6 ++ le 1 (link / 16) ++ zeros 1 ++ le 1 6
    | .mapChange is => le 4 is.length
    | .refChange is => le 4 is.length
    | .ringRelease _ => []
    | .checkpoint .. => []
    | .pad => []
    | .handover role other oo us => le 1 role ++ zeros 1 ++ le 2 other ++ le 8 oo ++ le 4 us.length
    | .keyChange k c d dg lg ctr _ _ => le 1 k.num ++ le 1 c ++ le 2 d ++ le 2 dg ++ le 2 lg ++ le 8 ctr
    | .replProgress g r src q o _ _ => le 2 g ++ le 1 r ++ le 1 src ++ le 8 q ++ le 8 o
    | b => Config.recBytes b)

/-- Body bytes. -/
def RecBody.bytes (b : RecBody) : Bytes :=
  match b with
  | .acceptWrite _ _ _ _ data => data
  | .acceptPut d data => d.bytes ++ data
  | .stripeCommit _ _ _ _ ms _ _ envs _ => ms.flatMap (·.bytes) ++ envs.flatMap (·.bytes)
  | .combState link st ser => le 1 link ++ le 1 st.num ++ zeros 2 ++ le 8 ser ++ zeros 4
  | .mapChange is => is.flatMap (·.bytes)
  | .refChange is => is.flatMap fun i => le 6 i.chunk ++ le 2 (i.delta % 65536).toNat
  | .ringRelease is => is.flatMap (·.bytes)
  | .checkpoint f cs ds ep ps => le 8 f ++ le 4 cs ++ le 4 ds ++ le 4 ep ++ le 4 ps.length ++ zeros 40 ++ ps.flatMap (·.bytes)
  | .handover _ _ _ us => us.flatMap (·.bytes)
  | .replProgress _ _ _ _ _ h t => le 2 h ++ le 8 t ++ zeros 6
  | b => fit b.size ((Config.recBytes b).drop 20)

/-- Bytes 0 to 59 of a record's header (R165). -/
def recHeader (fmt head ordinal epoch tick domain : Nat) (cont : Bool) (b : RecBody) : Bytes :=
  le 4 0x52435857 ++ le 1 fmt ++ le 1 b.kind ++ le 2 head ++ le 8 ordinal ++ le 4 (64 * b.units) ++ le 4 epoch ++ le 8 tick ++
    le 2 domain ++ le 2 (b2n cont) ++ le 4 b.size ++ b.fields

/-- A whole record (R165). -/
def recBytes (fmt head ordinal epoch tick domain : Nat) (cont : Bool) (b : RecBody) : Bytes :=
  let h := recHeader fmt head ordinal epoch tick domain cont b
  let r := fit (64 * b.units - 4) (h ++ crcBytes h ++ b.bytes)
  r ++ crcBytes r

/-- H(i): bytes 0 to 59 of a record's header, then its record CRC (R552). -/
def recMark (fmt head ordinal epoch tick domain : Nat) (cont : Bool) (b : RecBody) : Bytes :=
  let r := recBytes fmt head ordinal epoch tick domain cont b
  r.take 60 ++ r.drop (r.length - 4)

/-- A PAD record of some units (R165, R166). -/
def padBytes (fmt head units epoch tick : Nat) : Bytes :=
  let h := le 4 0x52435857 ++ le 1 fmt ++ [0#8] ++ le 2 head ++ le 8 0 ++ le 4 (64 * units) ++ le 4 epoch ++ le 8 tick ++
    le 2 0xFFFF ++ zeros 2 ++ le 4 0 ++ zeros 20
  let r := fit (64 * units - 4) (h ++ crcBytes h)
  r ++ crcBytes r

/-- Kind fields of a journal entry (R224). -/
def JournalEntry.fields (e : JournalEntry) : Bytes :=
  let b := fun (i : Nat) => e.body.getD i 0
  fit 28 (match e.kind with
    | 0x01 => le 6 e.ord ++ le 1 (b 0) ++ le 1 (b 1) ++ le 1 (b 2) ++ le 1 (b 3) ++ zeros 2 ++ le 4 (b 4)
    | 0x02 => le 6 e.ord ++ le 1 (b 0) ++ zeros 1 ++ le 8 (b 1)
    | 0x03 => le 6 e.ord ++ le 1 (b 0)
    | 0x10 => le 1 e.ord
    | 0x11 => le 1 e.ord
    | _ => [])

/-- Body of a journal entry: the member entries of STRIPE_OPEN with the CRC fields zero, the new place of UNIT_MOVE, or a checkpoint
(R224, R235, R244). -/
def JournalEntry.bodyBytes (e : JournalEntry) : Bytes :=
  let b := fun (i : Nat) => e.body.getD i 0
  match e.kind with
  | 0x01 => e.members.flatMap fun m => ({ m with crc := 0 } : Member).bytes
  | 0x03 => e.members.flatMap (·.bytes)
  | 0x10 => le 1 e.ord ++ le 1 (b 0) ++ le 1 (b 1) ++ le 1 (b 2) ++ le 6 (b 3) ++ le 1 (b 4) ++ zeros 5 ++ le 8 (b 5) ++ le 8 (b 6)
  | 0x11 => le 1 e.ord ++ le 1 (b 0) ++ le 1 (b 1) ++ zeros 1 ++ le 6 (b 2) ++ le 6 (b 3) ++ le 8 (b 4) ++ le 8 (b 5)
  | _ => []

/-- A whole journal entry (R224). -/
def JournalEntry.bytes (e : JournalEntry) : Bytes :=
  let h := le 4 0x4A545253 ++ le 1 e.fmt ++ le 1 e.kind ++ le 2 e.head ++ le 8 e.seq ++ le 4 (64 * e.units) ++ le 4 e.epoch ++
    le 8 e.tick ++ e.fields
  let r := fit (64 * e.units - 4) (h ++ crcBytes h ++ e.bodyBytes)
  r ++ crcBytes r

end Sys2Proof.Machine
end

