-- ==== Sys2Proof/Machine/MetaOps.lean ====
section
/-! DEFINITION. Metadata pages (R257 to R264): which pages a flush writes, metadata block rows and anchors, metadata stripes, the bytes of
the pages, the flush itself, and the pages that a takeover reads or a rebalance copies (log 15). -/

namespace Sys2Proof.Machine

/-! ## Names of pages (R259, R260) -/

/-- A page by its unit type, unit index, level and ID; a page table page is named by the digits that lead to it. -/
abbrev PageName := Nat × Nat × Nat × Nat

/-- The page ID of a structure and a key. -/
def pageId (code key : Nat) : Nat := code * 2 ^ 44 + key % 2 ^ 44

/-- The names of the pages whose entries differ between two tables; an entry whose page `held` does not name is new. -/
def changedNames {α : Type} [DecidableEq α] (held : PageName → Bool) (name : α → PageName) (a b : List α) : List PageName :=
  (a.filter (!b.contains ·) ++ b.filter fun x => !a.contains x || !held (name x)).map name

/-- The side of a die of a comb (R18). -/
def State.dieSide (s : State) (link die : Nat) : Nat :=
  if (s.link? link).any fun l => die < (l.dieCount + 1) / 2 then 0 else 1

/-- The metadata unit of a comb's hive: the honey hive, or the half of a brood hive (R259). -/
def State.hiveUnit (s : State) (hive side : Nat) : Nat × Nat := if s.isBrood hive then (2, side) else (1, hive)

/-- Buckets of a linear hashing of `n` entries at most 80 % full, 102 to a bucket (R140). -/
def bucketCount (n : Nat) : Nat := max 1 ((n * 100 + 8159) / 8160)

/-- The bucket of a fingerprint in an index of `b` buckets. -/
def bucketOfFp (b : Nat) (fp : Bytes) : Nat :=
  let h := fld fp 0 8
  let l := Nat.log2 b
  if h % 2 ^ (l + 1) < b then h % 2 ^ (l + 1) else h % 2 ^ l

/-- The entries of a domain's index with the number of the bucket that holds each: a bucket takes 102, and what goes beyond lies in its
overflow buckets, number i of bucket b at 2^40 × i + b (R140, R142; DESIGN CHOICE, log 15). -/
def fpSlots (mine : List FpEntry) : List (Nat × FpEntry) :=
  let n := bucketCount mine.length
  (dedupBy (mine.map fun e => bucketOfFp n e.fp)).flatMap fun b =>
    let es := mine.filter fun e => bucketOfFp n e.fp == b
    ((List.range es.length).zip es).map fun x => (2 ^ 40 * (x.1 / 102) + b, x.2)

/-- Entries of a fingerprint index with the page each lies in. -/
def fpPages (fps : List FpEntry) : List (PageName × FpEntry) :=
  (dedupBy (fps.map (·.domain))).flatMap fun d =>
    (fpSlots (fps.filter (·.domain == d))).map fun x => ((0, d, 0, pageId 3 (x.1 / 4)), x.2)

/-- The entries of a relocation ledger with the page each lies in: 512 to a page, in the order in which they stand (DESIGN CHOICE, log
15: the spec does not say how an entry's bucket is found). -/
def ledgerPages (es : List LedgerEntry) : List (PageName × LedgerEntry) :=
  (dedupBy (es.map (·.domain))).flatMap fun d =>
    let mine := es.filter (·.domain == d)
    ((List.range mine.length).zip mine).map fun x => ((0, d, 0, pageId 6 (x.1 / 512)), x.2)

/-- This head holds the lease of a page's unit (R259). -/
def State.ownsPage (s : State) (p : PageName) : Bool :=
  if p.1 = 0 then s.owns (.domain p.2.1) else if p.1 = 1 then s.owns (.honey p.2.1)
  else p.1 == 2 && s.owns (.brood (if p.2.1 = 0 then .a else .b))

/-- The pages that differ between the tables of a flush and the tables now, with those that the tables hold and `held` does not name. The
descriptors of a domain count as one page (DESIGN CHOICE, log 15). -/
def State.pagesSince (s : State) (held : PageName → Bool) (f : FlashMeta) : List PageName :=
  let chunks := changedNames held (fun (c : Chunk) => (0, c.domain, 0, pageId 2 (c.id / 1024))) f.rd.chunks s.rd.chunks
  let fps := changedNames held (fun (e : PageName × FpEntry) => e.1) (fpPages f.rd.fps) (fpPages s.rd.fps)
  let maps := changedNames held (fun (p : MapPage) => (0, p.domain, 0, pageId 4 p.key)) f.vo.pages s.vo.pages
  let shares := changedNames held (fun (p : Nat × Nat × Nat) => (0, p.1, 0, pageId 5 (p.2.1 / 4096)))
    (f.vo.pages.map fun p => (p.domain, p.key, p.share)) (s.vo.pages.map fun p => (p.domain, p.key, p.share))
  let ledger := changedNames held (fun (e : PageName × LedgerEntry) => e.1) (ledgerPages f.vo.ledger) (ledgerPages s.vo.ledger)
  let nss := changedNames held (fun (n : Namespace) => (0, n.domain, 0, pageId 7 0)) f.vo.nss s.vo.nss
  let objs := changedNames held (fun (o : Obj) => (0, o.domain, 0, pageId 7 0)) f.ob.objs s.ob.objs
  let snaps := changedNames held (fun (n : Snapshot) => (0, ((s.ns? n.nsid).map (·.domain)).getD 0xFFFF, 0, pageId 7 0)) f.vo.snaps s.vo.snaps
  let stripes := changedNames held (fun (t : Stripe) =>
    let u := s.hiveUnit t.hive (t.opener % 2)
    (u.1, u.2, 0, pageId 8 (t.ord / 32))) f.sp.table s.sp.table
  let sets := changedNames held (fun (b : BlockSet) =>
    let u := s.hiveUnit (b.link / 16) (s.dieSide b.link b.die)
    (u.1, u.2, 0, pageId 9 (b.link * 512 + b.die * 4 + b.block / 2048))) f.me.sets s.me.sets
  dedupBy (chunks ++ fps ++ maps ++ shares ++ ledger ++ nss ++ objs ++ snaps ++ stripes ++ sets)

/-- A page's name. -/
def MetaPage.name (p : MetaPage) : PageName := (p.ut, p.ui, p.level, p.id)

/-- The pages that a flush writes: those of the units this head owns that have changed since the newest flush, or that it does not hold
yet (R259, R263). -/
def State.changedPages (s : State) (f : FlashMeta) : List PageName :=
  (s.pagesSince (fun n => f.pages.any (·.name == n)) f).filter s.ownsPage

/-- Every page that the tables hold. -/
def State.pagesNow (s : State) : List PageName := s.pagesSince (fun _ => false) s.fl

/-- The page table pages above pages, lowest level first (R260): level 6 points to pages, level 1 is the unit root's page. -/
def tablePages (ps : List PageName) : List PageName :=
  [6, 5, 4, 3, 2, 1].flatMap fun l => dedupBy (ps.filterMap fun p =>
    let below := if p.2.2.1 = 0 then 7 else p.2.2.1
    if l < below then some (p.1, p.2.1, l, p.2.2.2 / 2 ^ (9 * (below - l))) else none)

/-- The root pages of a number of units, 341 entries each, then the root head page (R263). -/
def State.rootPages (s : State) (units : Nat) : List PageName :=
  ((List.range (max 1 ((units + 340) / 341))).map fun i => (3, sideN s.pr.side, 0, pageId 0xE i)) ++
    [(3, sideN s.pr.side, 0, pageId 0xF 0)]

/-! ## The entries of pages -/

/-- A pointer (R260). -/
def MetaPtr.bytes (p : MetaPtr) : Bytes :=
  le 1 p.hive ++ le 1 p.die ++ le 2 p.block ++ le 2 p.unit ++ le 2 p.mask ++ le 6 p.ord ++ le 2 p.off

/-- A pointer pair: all zeros for an absent page, the second pointer zero with one copy (R260). -/
def ptrPair (l : List MetaPtr) : Bytes := fit 32 (l.flatMap MetaPtr.bytes)

/-- A chunk table entry (R268). -/
def Chunk.bytes (c : Chunk) : Bytes :=
  le 6 (if c.state == .aliased then c.target else c.place.ordinal) ++ le 2 c.place.off ++ le 2 (c.len % 8192 + c.hive * 8192) ++
    le 2 c.domain ++ le 3 (min c.refs 0xFFFFFF) ++ le 1 (c.state.num + 8 * b2n c.deferred + 16 * b2n c.manifest)

/-- A fingerprint index entry (R140). -/
def FpEntry.bytes (e : FpEntry) : Bytes := fit 32 e.fp ++ le 6 e.chunk ++ le 1 (b2n e.verifiedSame) ++ zeros 1

/-- A bucket: its header and its entries, 102 at most (R140). -/
def bucketBytes (d b : Nat) (es : List FpEntry) : Bytes := fit 16 (Config.bucketHead d b) ++ fit 4080 (es.flatMap FpEntry.bytes)

/-- A map entry (R274). -/
def MapEnt.bytes (e : MapEnt) : Bytes := le 8 (e.chunk % 2 ^ 48 + b2n e.zero * 2 ^ 48)

/-- A map page: a leaf's entries, or an inner page's child keys (R274). -/
def MapPage.bytes (p : MapPage) : Bytes :=
  (List.range 2048).flatMap fun k =>
    if p.leaf then ((p.ents.find? (·.k == k)).map MapEnt.bytes).getD (zeros 8)
    else le 8 (((p.kids.find? (·.1 == k)).map (·.2)).getD 0)

/-- A relocation ledger entry (R298). -/
def LedgerEntry.bytes (e : LedgerEntry) : Bytes := e.old.bytes ++ le 6 e.chunk ++ le 2 e.domain ++ le 8 e.created ++ zeros 8

/-- A stripe table entry (R272). -/
def Stripe.bytes (t : Stripe) : Bytes :=
  le 6 t.ord ++ le 1 t.hive ++ le 1 (regionN t.region) ++ le 1 (purposeN t.purpose) ++ le 1 t.members.length ++ le 2 t.used ++
    le 4 t.epoch ++ le 4 t.live ++ le 1 (b2n t.released) ++ zeros 3 ++ le 8 t.openTick ++ le 8 t.commitOrd ++ le 8 t.rebuildOrd ++
    zeros 16 ++ fit 256 (t.members.flatMap Member.bytes) ++ zeros 192

/-- A media table entry (R255). -/
def BlockSet.bytes (b : BlockSet) : Bytes :=
  le 3 (min b.pe 0xFFFFFF) ++ le 1 (blockStateN b.state) ++ le 1 (b2n b.qlc + 2 * b.use.num + 16 * min b.grown 15) ++
    le 1 (b2n b.suspect) ++ le 2 b.held

/-- The body of a page of a page table: a pointer pair for each of its 512 children (R260). -/
def tableBody (ptr : PageName → List MetaPtr) (p : PageName) : Bytes :=
  (List.range 512).flatMap fun i => ptrPair (ptr (p.1, p.2.1, if p.2.2.1 = 6 then 0 else p.2.2.1 + 1, 512 * p.2.2.2 + i))

/-- A root page entry: unit type, unit index and unit root (R263). -/
def rootEntry (ptr : PageName → List MetaPtr) (u : Nat × Nat) : Bytes :=
  le 1 u.1 ++ zeros 1 ++ le 2 u.2 ++ zeros 12 ++ ptrPair (ptr (u.1, u.2, 1, 0))

/-- The body of a page, by its structure code (R140, R255, R259, R263, R268, R272, R274, R298); `ptr` gives the pointers of pages, `units`
the metadata units. The share table holds a count in 4 bytes for each map page. -/
def State.pageBody (s : State) (ptr : PageName → List MetaPtr) (units : List (Nat × Nat)) (p : PageName) (seq : Nat) : Bytes :=
  let (ut, ui, level, id) := p
  let key := id % 2 ^ 44
  if level != 0 then tableBody ptr p
  else match id / 2 ^ 44 with
    | 2 => (List.range 1024).flatMap fun i =>
        ((s.rd.chunks.find? fun c => c.domain == ui && c.id == 1024 * key + i).map Chunk.bytes).getD (zeros 16)
    | 3 =>
      let slots := fpSlots (s.rd.fps.filter (·.domain == ui))
      (List.range 4).flatMap fun i => bucketBytes ui (4 * key + i) ((slots.filter (·.1 == 4 * key + i)).map (·.2))
    | 4 => ((s.page? ui key).map MapPage.bytes).getD []
    | 5 => (List.range 4096).flatMap fun i => le 4 (((s.page? ui (4096 * key + i)).map (·.share)).getD 0)
    | 6 => ((ledgerPages s.vo.ledger).filter (·.1 == p)).flatMap fun x => x.2.bytes
    | 7 => Config.descBody ui key seq
    | 8 => (List.range 32).flatMap fun i =>
        ((s.sp.table.find? fun t => t.ord == 32 * key + i && s.hiveUnit t.hive (t.opener % 2) == (ut, ui)).map Stripe.bytes).getD (zeros 512)
    | 9 => (List.range 2048).flatMap fun i =>
        ((s.set? (key / 512) (key / 4 % 128) (2048 * (key % 4) + i)).map BlockSet.bytes).getD (zeros 8)
    | 0xE => ((units.drop (341 * key)).take 341).flatMap (rootEntry ptr)
    | _ =>
      let n := max 1 ((units.length + 340) / 341)
      le 8 s.wx.lastApplied ++ le 4 n ++ zeros 52 ++ (List.range n).flatMap fun i => ptrPair (ptr (3, sideN s.pr.side, 0, pageId 0xE i))

/-! ## The bytes of a page (R257) -/

/-- Seal a page's body under the metadata key; the tweak is the write sequence and the writer's head ID (R257). Without a metadata key
it is written in clear (DESIGN CHOICE, log 93). -/
def State.sealPage (s : State) (seq : Nat) (body : Bytes) : Bytes :=
  match s.ks.metaK with
  | some k => xts true k (seq % 2 ^ 64 + s.headId % 65536 * 2 ^ 64) (fit 16384 body)
  | none => fit 16384 body

/-- A metadata page: its clear header, then the sealed body (R257). The header of a page table page holds, as its Page ID, structure code
1 and the digits that lead to it (R260 says "held by parent page"; DESIGN CHOICE, log 93). -/
def State.pageBytes (s : State) (ptr : PageName → List MetaPtr) (units : List (Nat × Nat)) (p : PageName) (seq applied : Nat) : Bytes :=
  let body := s.sealPage seq (s.pageBody ptr units p seq)
  let id := if p.2.2.1 = 0 then p.2.2.2 else pageId 1 p.2.2.2
  let h := le 4 0x4147504D ++ le 1 (s.fmt .metaPage) ++ le 1 (id / 2 ^ 44) ++ le 2 s.headId ++ le 6 id ++ le 1 p.1 ++ le 1 p.2.2.1 ++ le 2 p.2.1 ++
    zeros 6 ++ le 8 seq ++ le 8 applied ++ zeros 16 ++ crcBytes body
  h ++ crcBytes h ++ body

/-! ## Reading pages back (R262) -/

/-- The bytes of a page are whole: magic, format, header CRC and body CRC (R257, R262). -/
def State.pageWhole (s : State) (b : Bytes) : Bool :=
  fld b 0 4 == 0x4147504D && s.readsFmt .metaPage (fld b 4 1) && slice b 60 4 == crcBytes (b.take 60) && slice b 56 4 == crcBytes (b.drop 64)

/-- The bytes are a page of a name: its page ID, its unit and its level (R257). -/
def State.pageNames (s : State) (n : PageName) (b : Bytes) : Bool :=
  s.pageWhole b && fld b 8 6 == (if n.2.2.1 = 0 then n.2.2.2 else pageId 1 n.2.2.2) % 2 ^ 48 && fld b 14 1 == n.1 &&
    fld b 15 1 == n.2.2.1 && fld b 16 2 == n.2.1

/-- The bytes of a copy are those of the page: header CRC, body CRC, page ID, unit, writer and write sequence (R262); sequence 0 stands for
a page of which only its place is known. -/
def State.pageSays (s : State) (p : MetaPage) (b : Bytes) : Bool :=
  s.pageNames p.name b && (p.seq == 0 || (fld b 6 2 == p.writer && fld b 24 8 == p.seq))

/-- The links of a row's combs, in ascending slot order. -/
def MetaRow.links (r : MetaRow) : List Nat := ((List.range 16).filter fun i => r.mask.testBit i).map fun i => 16 * r.hive + i

/-- The links of the combs of a pointer's slot mask (R260). -/
def MetaPtr.links (p : MetaPtr) : List Nat := (⟨p.hive, p.die, p.block, p.mask⟩ : MetaRow).links

/-- The footer that a comb holds where a pointer leads, when it names the pointer's stripe (R210). -/
def State.ptrFoot (s : State) (p : MetaPtr) (k : Nat) : Option Bytes :=
  ((((s.unitNand .brood ⟨k, p.die, p.block, p.unit, 0, 0⟩).head?).join).filter fun g =>
    !g.bad && slice g.spare 124 4 == crcBytes (g.spare.take 124) && fld g.spare 8 6 == p.ord).map (·.spare)

/-- The metadata stripe of a pointer: from the stripe table, or, where that does not know it, as the footers on the combs of the slot
mask tell it, every member at the pointer's die, block set and unit (R210, R261, R265). -/
def State.ptrStripe (s : State) (p : MetaPtr) : Option Stripe :=
  match s.stripe? p.ord with
  | some t => some t
  | none => (p.links.findSome? (s.ptrFoot p)).map fun f =>
    { (default : Stripe) with
      ord := p.ord, hive := p.hive, region := .brood, purpose := .metadata, used := fld f 40 4, opener := fld f 6 2, live := 1
      members := (memberLinks p.links p.ord (fld f 15 1)).map fun k =>
        ⟨k, p.die, p.block, p.unit, 0, ((s.ptrFoot p k).map fun g => BitVec.ofNat 32 (fld g 28 4)).getD 0⟩ }

/-- A page as one pointer finds it: read, or rebuilt from the other combs of its mask (R214, R262). -/
def State.ptrBytes (s : State) (ok : Bytes → Bool) (ptr : MetaPtr) : Option Bytes :=
  (s.ptrStripe ptr).bind fun t =>
    ([] :: tries (dedupBy ((envPages t.region ptr.off 257).map (·.1)))).findSome? fun out => (s.envBytes t out ptr.off 257).filter ok

/-- A copy cannot be tried now: the head may issue no comb tasks (R64), or a comb of its mask neither answers nor is gone. -/
def State.ptrWaits (s : State) (p : MetaPtr) : Bool :=
  !s.tasksAllowed || p.links.any fun k => (s.link? k).any fun l => !s.answers l && l.comb != .failed && l.comb != .retired

/-- Whether a copy can be read, as it is or rebuilt from the other combs of its mask; none while it cannot be tried. -/
def State.copyReads (s : State) (p : MetaPage) (ptr : MetaPtr) : Option Bool :=
  if s.ptrWaits ptr then none else some (s.ptrBytes (s.pageSays p) ptr).isSome

/-- The chunk ID that stands in map entries whose page is lost; no head allocates it (log 15). -/
def lostId : Nat := 0xFFFFFFFFFFFF

/-- R41 applies to every namespace range that a leaf of the map describes. -/
def State.loseLeaf (s : State) (d key : Nat) : State :=
  let s := if s.rd.chunks.any (·.id == lostId) then s
    else s.rd' fun r => { r with
      chunks := r.chunks ++ [{ (default : Chunk) with id := lostId, domain := d, state := .dataLost, refs := 0xFFFFFF }] }
  s.page' d key fun p => { p with ents := (List.range 2048).map fun k => ⟨k, lostId, false⟩ }

/-- R41 applies to what one page of no page table describes (R259): chunks of a chunk table or stripe table page, the ranges of a map page,
all of a domain for its descriptors, whose key record fails with them (R690). The entries of an index or a ledger page are gone. -/
def State.losePage (s : State) (n : PageName) : State :=
  let (_, ui, _, id) := n
  let key := id % 2 ^ 44
  let chunks := fun (f : Chunk → Bool) =>
    (s.rd.chunks.filter fun c => c.state == .stored && f c).foldl (fun t c => t.loseChunk c.place.ordinal c.hive c) s
  match id / 2 ^ 44 with
  | 2 => chunks fun c => c.domain == ui && c.id / 1024 == key
  | 3 => s.rd' fun r => { r with fps := r.fps.filter fun e => !((fpPages r.fps).any fun x => x.2 == e && x.1 == n) }
  | 4 => if (s.page? ui key).any (·.leaf) then s.loseLeaf ui key
    else (((s.page? ui key).map (·.kids)).getD []).foldl (fun t k => t.loseLeaf ui k.2) s
  | 6 => s.ledgerKeep fun e => !((ledgerPages s.vo.ledger).any fun x => x.2 == e && x.1 == n)
  | 7 =>
    let s := s.ks' fun k => { k with recs := updFirst (·.domain == ui) (fun r => { r with durableBad := true }) k.recs }
    (s.vo.pages.filter fun m => m.domain == ui && m.leaf).foldl (fun t m => t.loseLeaf ui m.key) s
  | 8 => chunks fun c => c.place.ordinal / 32 == key
  | _ => s

/-- What a page describes is lost: a page of a page table describes the pages below it. -/
def State.loseMeta (s : State) (p : MetaPage) : State :=
  if p.level = 0 then s.losePage p.name
  else (s.pagesNow.filter fun q => q.1 == p.ut && q.2.1 == p.ui && q.2.2.2 / 2 ^ (9 * (7 - p.level)) == p.id).foldl State.losePage s

/-- Read a page: E550 when one copy fails, E551 and R41 when both do. One that cannot be read now is read again later (R64, R262). -/
def State.readMeta (s : State) (p : MetaPage) : State :=
  match p.ptrs.map (s.copyReads p) with
  | [] => s
  | some true :: _ => s
  | l =>
    if l.contains none then s.me' fun m => { m with rereads := m.rereads.filter (· != p) ++ [p] }
    else if l.contains (some true) then s.ev0 0x550 .error (le 6 p.id)
    else (s.ev0 0x551 .critical (le 6 p.id)).loseMeta p

/-- The pages that wait for their combs are read again (R262). -/
def State.readAgain (s : State) : State :=
  s.me.rereads.foldl State.readMeta (s.me' fun m => { m with rereads := [] })

/-- Step 11 runs by its alternative: the second copy of each metadata page is read first (R612). -/
def State.secondFirst (s : State) : Bool := s.bt.ledger.getLast?.any fun r => r.kind == 0x01 && r.step == 11 && r.attempt != 0

/-- A start reads every page that the newest root head reaches (R188, R263). -/
def State.readMetas (s : State) : State :=
  (if s.secondFirst then s.fl.pages.map fun p => { p with ptrs := p.ptrs.reverse } else s.fl.pages).foldl State.readMeta s

/-! ## Rows and anchors (R254, R261, R264) -/

/-- Every comb of a row still has the row's block set FREE, in SLC mode (R253). -/
def State.rowFree (s : State) (r : MetaRow) : Bool :=
  r.links.all fun k => (s.link? k).any fun l => (s.diesFor l).contains r.die && s.isFree l r.die r.block &&
    (s.set? k r.die r.block).all fun b => !b.qlc

/-- The P/E counts of a row's block sets together (R302; that a row goes by their sum is a DESIGN CHOICE, log 90). -/
def State.rowWear (s : State) (r : MetaRow) : Nat := (r.links.map fun k => s.peOf k r.die r.block).sum

/-- The next free rows of a brood hive over every working comb, at most 64: lowest own die first, and on a die those of lowest P/E count,
the lowest index among equals (R302, R818). -/
def State.freeRows (s : State) (hive : Nat) : List MetaRow :=
  let ls := s.workingLinks hive
  let mask := (ls.map fun k => 2 ^ (k % 16)).sum
  let dies := ((ls.head?.bind s.link?).map s.diesFor).getD []
  let n := (((ls.head?.bind s.link?).bind fun l => l.descs[dies.headD 0]?).map (·.blocks)).getD 0
  let bound := min n ((s.me.sets.filter fun b => ls.contains b.link).length + 64)
  (dies.flatMap fun d =>
    let listed := ((s.me.sets.filter fun b => ls.contains b.link && b.die == d && b.state == .free).map (·.block)).filter (bound ≤ ·)
    (((List.range bound ++ dedupBy listed).map fun b => (⟨hive, d, b, mask⟩ : MetaRow)).filter s.rowFree).sortBy fun a b =>
      s.rowWear a < s.rowWear b || (s.rowWear a == s.rowWear b && a.block ≤ b.block)).take 64

/-- Write an anchor unit on one comb: the next unit of its anchor block set 0 or 1, the one under way first. Once a set is full and the
other has taken an anchor, the full one becomes FREE_DIRTY, and is RESERVED again after its erase (R255, R256, R264; that the two take
turns so is a DESIGN CHOICE, log 90). -/
def State.anchorUnit (s : State) (bytes : Bytes) (l : Link) : State :=
  match (s.anchorDie l).filter fun d => !s.dieDead l d with
  | none => s
  | some d =>
    let room := fun (b : Nat) => (s.set? l.link d b).any fun x => x.state == .reserved && x.nextUnit < 384
    let begun := fun (b : Nat) => (s.set? l.link d b).any fun x => x.nextUnit != 0
    match ([0, 1].find? fun b => room b && begun b) <|> [0, 1].find? room with
    | none => s
    | some blk =>
      let u := ((s.set? l.link d blk).map (·.nextUnit)).getD 0
      let s := (s.programUnit .brood ⟨l.link, d, blk, u, 0, 0⟩ (zeros 128) bytes).set' l.link d blk fun x => { x with nextUnit := u + 1 }
      match s.set? l.link d (1 - blk) with
      | some x => if x.state == .reserved && 384 ≤ x.nextUnit then s.dirtySet x else s
      | none => s

/-- The brood hives that a flush writes in: powered, with 6 working combs (R204, R261). -/
def State.metaHives (s : State) : List Nat :=
  ((s.hv.hives.filter fun h => h.brood && s.hivePowered h.id && (s.workingLinks h.id).length ≥ 6).map (·.id)).sortBy (· ≤ ·)

/-- An anchor's bytes (R264): its sequence, 64 rows of each brood hive, those that are missing zero, and a CRC in its last 4 bytes (the
places of the fields are a DESIGN CHOICE, log 15). -/
def anchorBytes (seq : Nat) (rows : List (List MetaRow)) : Bytes :=
  let body := fit 65532 (le 8 seq ++ rows.flatMap fun rs => fit 384 (rs.flatMap fun r => le 1 r.hive ++ le 1 r.die ++ le 2 r.block ++ le 2 r.mask))
  body ++ crcBytes body

/-- What an anchor unit says, when it is whole: its sequence and its rows (R264, R265). -/
def anchorSays (b : Bytes) : Option (Nat × List MetaRow) :=
  if b.length == 65536 && slice b 65532 4 == crcBytes (b.take 65532) && fld b 0 8 != 0 then
    some (fld b 0 8, ((List.range 128).map fun i =>
      (⟨fld b (8 + 6 * i) 1, fld b (9 + 6 * i) 1, fld b (10 + 6 * i) 2, fld b (12 + 6 * i) 2⟩ : MetaRow)).filter (·.mask != 0))
  else none

/-- Write a new anchor (R264): its sequence and the next 64 rows of each brood hive, on three combs of each, the combs taken in turn by
slot. -/
def State.writeAnchor (s : State) : State :=
  let seq := s.me.anchorSeq + 1
  let rows := s.metaHives.map s.freeRows
  let bytes := anchorBytes seq rows
  let s := s.me' fun m => { m with anchorSeq := seq, anchorRows := 0, anchors := rows.flatten }
  s.metaHives.foldl (fun t h =>
    let ls := t.workingLinks h
    (List.range 3).foldl (fun u i => match u.link? (ls.getD ((3 * seq + i) % ls.length) 0) with
      | some l => u.anchorUnit bytes l
      | none => u) t) s

/-- Set the block sets of a row with one record. -/
def State.setRow (s : State) (r : MetaRow) (st : BlockState) (f : BlockSet → BlockSet) : State :=
  let items := r.links.map fun k => MapItem.blockState k r.die r.block st false .metadata (s.peOf k r.die r.block) (s.grownOf k r.die r.block)
  let s := r.links.foldl (fun t k => (t.blockState k r.die r.block st false .metadata (t.peOf k r.die r.block) (t.grownOf k r.die r.block)).set' k r.die r.block f) s
  s.mapChange 0xFFFF items []

/-- The next unit of a row. -/
def State.rowUnit (s : State) (r : MetaRow) : Nat :=
  (r.links.map fun k => ((s.set? k r.die r.block).map (·.nextUnit)).getD 384).foldl max 0

/-- The row a hive's next metadata stripe goes to: the open one while its combs all work and it has room, else the next one that the
anchor lists, which is written anew when it lists none or 48 have been opened (R254, R264). -/
def State.takeRow (s : State) (hive : Nat) : State × Option MetaRow :=
  let works := fun (r : MetaRow) => r.links.all (s.workingLinks hive).contains && s.rowUnit r < 384 &&
    r.links.all fun k => (s.set? k r.die r.block).any (·.state == .opened)
  match s.me.metaOpen.find? fun r => r.hive == hive && works r with
  | some r => (s, some r)
  | none =>
    let listed := s.me.anchors.any fun r => r.hive == hive && s.rowFree r
    let s := if s.me.anchorRows ≥ 48 || !listed then s.writeAnchor else s
    match s.me.anchors.find? fun r => r.hive == hive && s.rowFree r with
    | none => (s, none)
    | some r =>
      let s := s.setRow r .opened fun x => { x with nextUnit := 0, progUnit := 0, openTick := s.ck.tick, passed := false }
      (s.me' fun m => { m with
        metaOpen := m.metaOpen.filter (·.hive != hive) ++ [r], anchorRows := m.anchorRows + 1 }, some r)

/-! ## Metadata stripes (R261) -/

/-- Open a metadata stripe of a hive for some pages: every member at the same die, block set and unit of a row (R261). -/
def State.openMeta (s : State) (hive : Nat) (pages : List Bytes) : State × Option (Nat × MetaRow × Nat) :=
  -- the last ordinals go to no metadata (R209)
  if s.stripesSpent then (s, none)
  else match s.takeRow hive with
  | (s, none) => (s, none)
  | (s, some r) =>
    match s.allocStripe with
    | (s, none) => (s, none)
    | (s, some ord) =>
      let u := s.rowUnit r
      let n := min (s.width hive) r.links.length
      let ms := (memberLinks r.links ord n).map fun k => (⟨k, r.die, r.block, u, 0, 0⟩ : Member)
      let s := r.links.foldl (fun t k => t.set' k r.die r.block fun x => { x with nextUnit := u + 1 }) s
      let s := if u + 1 ≥ 384 then (s.setRow r .sealed id).me' fun m => { m with metaOpen := m.metaOpen.erase r } else s
      let jseq := s.wx.jSeq
      let s := s.journal 0x01 ord [hive, 0, purposeN .metadata, n, s.hiveEpoch hive] ms
      let t : OpenStripe :=
        { ord := ord, hive := hive, region := .brood, purpose := .metadata, lane := 0, members := ms
          prog := List.replicate n .idle, failed := [], epoch := s.hiveEpoch hive, openTick := s.ck.tick, firstAt := none
          used := 257 * pages.length, envs := [], data := pages.flatten, closed := false, units := [], jseq := jseq, commitOrd := none }
      (s.sp' fun p => { p with opens := p.opens ++ [t] }, some (ord, r, u))

/-- Write pages in one metadata stripe of a hive: where each page lies. None where a unit does not read back well (R296, R297). -/
def State.metaStripe (s : State) (hive : Nat) (pages : List Bytes) : State × Option (List MetaPtr) :=
  match s.openMeta hive pages with
  | (s, none) => (s, none)
  | (s, some (ord, r, u)) =>
    let s := s.stripeNow ord
    (s, if s.stripeReads ord then
      some ((List.range pages.length).map fun i => ⟨hive, r.die, r.block, u, r.mask, ord, 257 * i⟩) else none)

/-- Pages that one metadata stripe of a hive holds. -/
def State.metaRoom (s : State) (hive : Nat) : Nat := dataSpace .brood (s.width hive) / 257

/-- Write pages in a hive, as many stripes as they take; the fuel is the number of pages. -/
def State.metaWrite (s : State) (hive : Nat) : Nat → List Bytes → List MetaPtr → State × Option (List MetaPtr)
  | _, [], acc => (s, some acc)
  | 0, _, _ => (s, none)
  | k + 1, ps, acc => match s.metaStripe hive (ps.take (s.metaRoom hive)) with
    | (t, some l) => t.metaWrite hive k (ps.drop (s.metaRoom hive)) (acc ++ l)
    | (t, none) => (t, none)

/-- Write pages in every hive of a list: the pointers of each page, first hive first; none when a hive has no room. -/
def State.metaCopies (s : State) (pages : List Bytes) : List Nat → List (List MetaPtr) → State × Option (List (List MetaPtr))
  | [], acc => (s, some acc)
  | h :: hs, acc => match s.metaWrite h pages.length pages [] with
    | (t, some l) => t.metaCopies pages hs (acc ++ [l])
    | (t, none) => (t, none)

/-! ## A flush (R258, R263) -/

/-- Claim the blocks of write sequences that the next `n` pages need (R258). -/
def State.claimSeqs (s : State) (n : Nat) : Nat → State
  | 0 => s
  | k + 1 =>
    if s.me.writeSeq + n ≤ s.me.seqClaim then s
    else
      let first := max s.me.seqClaim (s.me.writeSeq / 1048576 * 1048576)
      ((s.mapChange 0xFFFF [.seqClaim first] []).me' fun m => { m with seqClaim := first + 1048576 }).claimSeqs n k

/-- The tables as they are now, for a root head that covers every record applied. -/
def State.tablesNow (s : State) (pages : List MetaPage) : FlashMeta :=
  { covered := s.wx.lastApplied
    peerCovered := ((s.wx.shadow.filter (·.applied)).map (·.ordinal)).foldl max s.fl.peerCovered
    rd := s.rd, vo := s.vo, sp := s.sp, me := s.me, ob := s.ob, rp := s.rp, co := s.co, settings := s.vk.settings
    frames := s.vk.frames.filter fun f => f.state != .opened && f.state != .checked, recs := s.ks.recs, erased := s.ks.erased
    owners := s.pr.owners, homes := s.pr.homes, pages := pages, peerFrames := s.vk.peerFrames, tookOver := s.pr.tookOver }

/-- The metadata stripes under collection. -/
def State.metaMoving (s : State) : List Nat := (s.sp.table.filter fun t => t.purpose == .metadata && t.moving && !t.released).map (·.ord)

/-- A page's bytes as one of its copies holds them. -/
def State.copyBytes (s : State) (p : MetaPage) : Option Bytes := p.ptrs.findSome? (s.ptrBytes (s.pageSays p))

/-- The live pages of the stripes under collection, but for the root's (R297). -/
def State.pagesLeaving (s : State) : List MetaPage :=
  s.fl.pages.filter fun p => p.ut != 3 && p.ptrs.any fun q => s.metaMoving.contains q.ord

/-- A record that is no host data is not confirmed yet: its effect may stand in the tables already, so a flush waits for it (R263). -/
def State.unconfirmed (s : State) : Bool := s.joining || !s.wx.later.isEmpty || s.wx.own.any fun r => !r.accepted && !r.torn && r.ring != .data

/-- The units whose pages this head keeps: those that it owns, and those that a rebalance brings to it (R259, R267). -/
def State.keepsPage (s : State) (n : PageName) : Bool :=
  s.ownsPage n || s.pr.rebalance.any fun r => !r.giver && r.units.any fun u => match u with
    | .domain d => n.1 == 0 && n.2.1 == d
    | .honey h => n.1 == 1 && n.2.1 == h
    | .brood sd => n.1 == 2 && n.2.1 == sideN sd

/-- What a flush writes: the pages that it numbers and builds, the pages that it copies with their bytes, and the units of the root. -/
structure FlushPlan where
  /-- Pages written anew, in the order of R263. -/
  names : List PageName
  /-- Pages copied, header and body unchanged (R267, R297). -/
  copied : List (MetaPage × Bytes)
  /-- Metadata units that the root pages list (R263). -/
  units : List (Nat × Nat)

/-- The plan of a flush (R263): the changed pages, the page tables above them, the root pages and the root head. The live pages of the
metadata stripes that are collected go with them, their headers and bodies unchanged, and the page tables above them are written anew
(R297); so do the pages `extra` that come from the other head (R267). -/
def State.flushPlan (s : State) (extra : List (MetaPage × Bytes)) : FlushPlan :=
  let changed := s.changedPages s.fl
  let leaving := (s.pagesLeaving.filter fun p => s.keepsPage p.name).map fun p => (p, s.copyBytes p)
  -- a page of which no copy reads is written from the tables
  let leaf := changed ++ (leaving.filterMap fun x => if x.2.isNone && x.1.level == 0 && !changed.contains x.1.name then some x.1.name
    else none)
  let kept := s.fl.pages.filter fun p => s.keepsPage p.name
  let units := dedupBy ((kept.map fun p => (p.ut, p.ui)) ++ (leaf ++ extra.map (·.1.name)).map fun p => (p.1, p.2.1))
  let tables := dedupBy (tablePages (leaf ++ leaving.map (·.1.name) ++ extra.map (·.1.name)) ++
    leaving.filterMap fun x => if x.2.isNone && x.1.level != 0 then some x.1.name else none)
  let names := leaf ++ tables ++ s.rootPages units.length
  ⟨names, (leaving.filterMap fun x => x.2.map fun b => (x.1, b)).filter (fun x => !names.contains x.1.name) ++ extra, units⟩

/-- A flush (R263), in both brood hives where two are in service. It counts once its STRIPE_COMMITs are confirmed. It is left for later
while a record is not confirmed whose effect it could hold, while the block of write sequences that it needs is not claimed (R258), where a
hive cannot take programs now, and without room. -/
def State.flushWith (s : State) (extra : List (MetaPage × Bytes)) : State :=
  if s.unconfirmed || s.metaHives.isEmpty || !s.metaHives.all s.mayFinish then s else
  let x := s.flushPlan extra
  let s1 := s.claimSeqs x.names.length (x.names.length / 1048576 + 2)
  if s1.me.seqClaim != s.me.seqClaim then s1 else
  let hives := s.metaHives
  let seq := s.me.writeSeq
  let at_ := (List.range x.names.length).zip x.names
  -- where the pages come to lie does not depend on what they hold, so that a page can hold the pointers of the others
  let places := ((s.metaCopies ((x.names ++ x.copied.map (·.1.name)).map fun _ => zeros 16448) hives []).2).getD []
  let copyAt := (List.range x.copied.length).zip x.copied
  let ptr := fun (n : PageName) => match (at_.find? (·.2 == n)) with
    | some y => places.filterMap fun l => l[y.1]?
    | none => match copyAt.find? (·.2.1.name == n) with
      | some y => places.filterMap fun l => l[x.names.length + y.1]?
      | none => ((s.fl.pages.find? fun p => p.name == n && s.keepsPage n).map (·.ptrs)).getD []
  let pages := at_.map fun y => s.pageBytes ptr x.units y.2 (seq + y.1) s.wx.lastApplied
  match s.metaCopies (pages ++ x.copied.map (·.2)) hives [] with
  | (_, none) => s
  | (t, some ls) =>
    let new := (at_.map fun y => (⟨y.2.1, y.2.2.1, y.2.2.2.1, y.2.2.2.2, s.headId, seq + y.1, s.wx.lastApplied,
      ls.filterMap fun l => l[y.1]?⟩ : MetaPage)) ++
      copyAt.map fun y => { y.2.1 with ptrs := ls.filterMap fun l => l[x.names.length + y.1]? }
    let old := s.fl.pages.filter fun p => s.keepsPage p.name && !(new.any (·.name == p.name))
    let t := t.me' fun m => { m with
      writeSeq := seq + x.names.length, dirty := false
      root := some ⟨s.wx.lastApplied, seq + x.names.length - 1, (s.rootPages x.units.length).length - 1,
        dedupBy (new.flatMap fun p => p.ptrs.map (·.ord)), false⟩ }
    { t with flNext := some (t.wx.nextOrd - 1, s.tablesNow (old ++ new)) }.stat 0x0505 0 0 ((x.names.length + x.copied.length) * hives.length)

/-- A flush of what has changed (R263). -/
def State.flush (s : State) : State := s.flushWith []

/-! ## The other head's pages (R265, R267) -/

/-- A page's body, opened with the metadata key (R257). -/
def State.openPage (s : State) (b : Bytes) : Bytes :=
  match s.ks.metaK with
  | some k => xts false k (fld b 24 8 + fld b 6 2 * 2 ^ 64) (b.drop 64)
  | none => b.drop 64

/-- A pointer at a byte of a page's body (R260). -/
def MetaPtr.at_ (b : Bytes) (i : Nat) : MetaPtr :=
  ⟨fld b i 1, fld b (i + 1) 1, fld b (i + 2) 2, fld b (i + 4) 2, fld b (i + 6) 2, fld b (i + 8) 6, fld b (i + 14) 2⟩

/-- The pointer pair at a byte of a page's body: a pointer of all zeros is absent (R260). -/
def ptrsAt (b : Bytes) (i : Nat) : List MetaPtr :=
  ([i, i + 16].filter fun j => slice b j 16 != zeros 16).map (MetaPtr.at_ b)

/-- A page of a name as its pointers find it, with what its header tells, and its bytes; unread, its sequence is 0. -/
def State.pageFound (s : State) (n : PageName) (ptrs : List MetaPtr) : MetaPage × Option Bytes :=
  match ptrs.findSome? (s.ptrBytes (s.pageNames n)) with
  | some b => (⟨n.1, n.2.1, n.2.2.1, n.2.2.2, fld b 6 2, fld b 24 8, fld b 32 8, ptrs⟩, some b)
  | none => (⟨n.1, n.2.1, n.2.2.1, n.2.2.2, 0, 0, 0, ptrs⟩, none)

/-- The pages of a page table from one of its pages on (R260); the fuel is the number of levels. -/
def State.pagesBelow (s : State) (n : PageName) (ptrs : List MetaPtr) : Nat → List (MetaPage × Option Bytes)
  | 0 => []
  | k + 1 =>
    let x := s.pageFound n ptrs
    match x.2 with
    | none => [x]
    | some b =>
      if n.2.2.1 = 0 then [x]
      else
        let body := s.openPage b
        x :: ((List.range 512).filter fun i => !(ptrsAt body (32 * i)).isEmpty).flatMap fun i =>
          s.pagesBelow (n.1, n.2.1, if n.2.2.1 = 6 then 0 else n.2.2.1 + 1, 512 * n.2.2.2 + i) (ptrsAt body (32 * i)) k

/-- The pages in the metadata stripes that a side has opened, each with its pointer there. -/
def State.sidePages (s : State) (sd : Side) : List (Bytes × MetaPtr) :=
  (s.sp.table.filter fun t => t.purpose == .metadata && !t.released && t.opener % 2 == sideN sd).flatMap fun t =>
    match t.members.head? with
    | none => []
    | some m =>
      let mask := ((dedupBy (t.members.map (·.link))).map fun k => 2 ^ (k % 16)).sum
      (List.range (t.used / 257)).filterMap fun i =>
        let p : MetaPtr := ⟨t.hive, m.die, m.block, m.page, mask, t.ord, 257 * i⟩
        (s.ptrBytes s.pageWhole p).map fun b => (b, p)

/-- The newest root head that a side has written (R263, R265). -/
def State.rootOf (s : State) (sd : Side) : Option Bytes :=
  (((s.sidePages sd).filter fun x => fld x.1 14 1 == 3 && fld x.1 15 1 == 0 && fld x.1 5 1 == 0xF).map (·.1)).foldl
    (fun a b => if a.all fun x => fld x 24 8 < fld b 24 8 then some b else a) none

/-- The pages of the units that a side's newest root head reaches, page tables among them, with the bytes of those that can be read
(R260, R263, R265). -/
def State.treeOf (s : State) (sd : Side) : List (MetaPage × Option Bytes) :=
  match s.rootOf sd with
  | none => []
  | some h =>
    let head := s.openPage h
    (List.range (min 510 (fld head 8 4))).flatMap fun i =>
      let r := s.pageFound (3, sideN sd, 0, pageId 0xE i) (ptrsAt head (64 + 32 * i))
      match r.2 with
      | none => [r]
      | some b =>
        let body := s.openPage b
        ((List.range 341).filter fun j => !(ptrsAt body (48 * j + 16)).isEmpty).flatMap fun j =>
          s.pagesBelow (fld body (48 * j) 1, fld body (48 * j + 2) 2, 1, 0) (ptrsAt body (48 * j + 16)) 7

/-- The pages of units that the other head's newest root head reaches and that this head has not copied yet (R267). -/
def State.toCopy (s : State) (us : List OwnUnit) : List (MetaPage × Bytes) :=
  let of := fun (p : MetaPage) => us.any fun u => match u with
    | .domain d => p.ut == 0 && p.ui == d
    | .honey h => p.ut == 1 && p.ui == h
    | .brood sd => p.ut == 2 && p.ui == sideN sd
  ((s.treeOf (otherSide s.pr.side)).filterMap fun x => x.2.map fun b => (x.1, b)).filter fun x => x.1.level == 0 && of x.1 &&
    !(s.fl.pages.any fun q => q.name == x.1.name && q.writer == x.1.writer && q.seq == x.1.seq)

/-- A takeover finds the failed head's metadata as a start finds its own (R262, R265): every page that its newest root head reaches is read,
and this head holds the units from those pages (R267). -/
def State.takePages (s : State) : State :=
  let ps := (s.treeOf (otherSide s.pr.side)).map (·.1)
  let s := ps.foldl State.readMeta s
  let new := ps.filter fun p => p.ut != 3 && p.seq != 0
  { s with fl := { s.fl with pages := s.fl.pages.filter (fun p => !(new.any (·.name == p.name))) ++ new } }

end Sys2Proof.Machine
end

