-- ==== Sys2Proof/Machine/WalkOps.lean ====
section
/-! DEFINITION. The walks of a replay (R181): the newest CHECKPOINT of the slots, and the records that a walk of a data region and of a
commit half finds from it. A start walks the own rings, a takeover the mirror ring and the shadow half. -/

namespace Sys2Proof.Machine

/-- What a replay takes from a CHECKPOINT (R179). -/
structure CkRec where
  /-- Its ordinal. -/
  ordinal : Nat
  /-- Flush ordinal F. -/
  flush : Nat
  /-- Commit walk start, in units of the ring. -/
  commitStart : Nat
  /-- Data walk start, in units of the ring. -/
  dataStart : Nat
  /-- Ordinals of the pinned records. -/
  pinned : List Nat
  /-- The slot that holds it. -/
  slot : Nat
  deriving DecidableEq, Repr

/-- The slot number of a ring. -/
def WaxRing.slot : WaxRing → Nat
  | .slot1 => 1
  | .slot2 => 2
  | .slot3 => 3
  | _ => 0

/-- A record of a ring region that a slot holds. -/
def WaxRing.isSlot (r : WaxRing) : Bool := r != .data && r != .commit

/-- What a whole CHECKPOINT gives a replay. -/
def WaxRec.ck? (r : WaxRec) : Option CkRec :=
  match r.body with
  | .checkpoint f c d _ ps => if r.torn then none else some ⟨r.ordinal, f, c, d, ps.map (·.ordinal), r.ring.slot⟩
  | _ => none

/-- The newest CHECKPOINT of the four slots whose CRCs pass (R181). -/
def newestCk (recs : List WaxRec) : Option CkRec :=
  (recs.filterMap (·.ck?)).foldl (fun a c => if a.all fun x => x.ordinal < c.ordinal then some c else a) none

/-- A record that a walk takes: it is whole, its ordinal rises, and its epoch does not fall (R167, R181). -/
def WaxRec.follows (r : WaxRec) (last ep : Nat) : Bool := !r.torn && last < r.ordinal && ep ≤ r.epoch

/-- Where a walk that finds no record at `p` goes on: past the nearest record that the writer stepped past, when the record after it
follows. The writer leaves such a gap where a record did not fit before a live one (R171; DESIGN CHOICE, log 87). -/
def gapNext (recs : List WaxRec) (known : List Nat) (p last ep : Nat) : Option Nat :=
  let past := (recs.filter fun r => known.contains r.ordinal && p < r.off && r.off < p + 65536).foldl
    (fun (a : Option WaxRec) r => if a.all fun x => r.off < x.off then some r else a) none
  past.bind fun r => if recs.any fun x => x.off == r.off + r.units && x.follows last ep then some (r.off + r.units) else none

/-- A walk of one ring (R181): it passes PAD to the ring start, steps past the pinned records and those already found, and stops at the
first record that does not follow, or where it began. It answers the records found and where it stopped; the fuel bounds its steps. -/
def walkRing (recs : List WaxRec) (pads : List Nat) (pinned : List Nat) (size start : Nat) :
    Nat → Nat → Nat → Nat → List WaxRec → List WaxRec × Nat
  | 0, p, _, _, got => (got, p)
  | n + 1, p, last, ep, got =>
    let known := pinned ++ got.map (·.ordinal)
    let on := fun (q last ep : Nat) (got : List WaxRec) =>
      if q == start then (got, q) else walkRing recs pads pinned size start n q last ep got
    let stop : List WaxRec × Nat := match gapNext recs known p last ep with
      | some q => on q last ep got
      | none => (got, p)
    match recs.find? (·.off == p) with
    | some r =>
      if known.contains r.ordinal then on (p + r.units) last ep got
      else if r.follows last ep then on (p + r.units) r.ordinal r.epoch (got ++ [r])
      else stop
    | none => if size ≤ p || pads.contains p then on 0 last ep got else stop

/-- What the two walks of a replay give. -/
structure Walks where
  /-- Records of the data region. -/
  data : List WaxRec
  /-- Where the data walk stopped. -/
  dataAt : Nat
  /-- Records of the commit half. -/
  commit : List WaxRec
  /-- Where the commit walk stopped. -/
  commitAt : Nat
  deriving DecidableEq, Repr

/-- The PAD records of a ring, by offset. -/
def padsOf (pads : List (WaxRing × Nat × Nat)) (r : WaxRing) : List Nat := (pads.filter (·.1 == r)).map (·.2.1)

/-- Both walks from a checkpoint (R181). -/
def walks (recs : List WaxRec) (pads : List (WaxRing × Nat × Nat)) (c : CkRec) : Walks :=
  let fuel := 2 * recs.length + pads.length + 2
  let d := walkRing (recs.filter (·.ring == .data)) (padsOf pads .data) c.pinned dataRingUnits c.dataStart fuel c.dataStart 0 0 []
  let k := walkRing (recs.filter (·.ring == .commit)) (padsOf pads .commit) [] ownRingUnits c.commitStart fuel c.commitStart 0 0 []
  ⟨d.1, d.2, k.1, k.2⟩

/-- The records that a replay may apply: those of both walks, and the CHECKPOINTs of the slots (R181). -/
def Walks.pool (x : Walks) (recs : List WaxRec) : List WaxRec := x.data ++ x.commit ++ recs.filter fun r => r.ring.isSlot && !r.torn

/-- A wax line that a replay reads may read as corrected, or as failed, which raises E230 with its wax offset: a free value (R162, log
80). It answers whether the record or entry at the offset fails. -/
def State.lineFails (s : State) (off : Nat) : State × Bool :=
  let n := s.drawnNat
  let t := s.afterDraw.bump 0x0205 0 0 (n / 4)
  if n % 4 == 1 then ((t.ev0 0x230 .error (le 8 off)).bump 0x0205 0 1 1, true) else (t, false)

/-- The wax offset of a record of this head's own rings, or of the peer's in the mirror ring and the shadow half (R160). -/
def waxOff (own : Bool) (ring : WaxRing) (off : Nat) : Nat :=
  (match ring, own with
    | .data, true => 0
    | .data, false => 0x60000000
    | _, true => 0xC0000000
    | _, false => 0xD0000000) + regionOff ring off

/-- A shadow record in the form of a record of its own sequence. -/
def ShadowRec.asRec (r : ShadowRec) : WaxRec := { r.asOwn with ordinal := r.ordinal }

end Sys2Proof.Machine
end

