-- ==== Sys2Proof/Machine/PairOps.lean ====
section
/-! DEFINITION. The pair (14): confirmed ordinals and tick chains (R552 to R557), the shadow's application (R559), waggles
(R545 to R550), the declaration (R547), and the work of a commit tick. -/

namespace Sys2Proof.Machine

/-! ## Ordinals and chains (R545, R552) -/

/-- The highest confirmed ordinal of this head's sequence (R545); until the join has restored commit order, the end of its replay
(R183). -/
def State.confirmedOrd (s : State) : Nat :=
  if s.bt.step == 12 then s.wx.replayEnd
  else match s.wx.own.find? fun r => !s.recConfirmed r with
  | some r => r.ordinal - 1
  | none => s.wx.nextOrd - 1

/-- The highest ordinal of the peer's sequence in the shadow (R545). -/
def State.shadowTop (s : State) : Nat := ((s.wx.shadow.filter (!·.torn)).map (·.ordinal)).foldl max 0

/-- D(b) (R552). -/
def chainBase (head b n : Nat) : Bytes := sha256 (le 2 head ++ le 8 b ++ le 8 n)

/-- D(t) from D(t − 1) (R552). -/
def chainNext (d : Bytes) (t n : Nat) (marks : Bytes) : Bytes := sha256 (d ++ le 8 t ++ le 8 n ++ marks)

/-- The marks H(lo + 1) to H(hi) of this head's records. -/
def State.ownMarks (s : State) (lo hi : Nat) : Bytes :=
  (s.wx.own.filter fun r => lo < r.ordinal && r.ordinal ≤ hi).flatMap fun r =>
    recMark r.fmt s.headId r.ordinal r.epoch r.tick r.domain r.continued r.body

/-- The marks of the peer's records, from the shadow half and the mirror ring. -/
def State.shadowMarks (s : State) (lo hi : Nat) : Bytes :=
  ((s.wx.shadow.filter fun r => lo < r.ordinal && r.ordinal ≤ hi && !r.torn).sortBy fun a b => a.ordinal ≤ b.ordinal).flatMap
    fun r => recMark r.fmt s.peerId r.ordinal r.epoch r.tick r.domain r.continued r.body

/-! ## The shadow (R43, R138, R170, R559) -/

/-- The shadow records of the command that begins at an ordinal, if all are there and none is torn. -/
def shadowChain (l : List ShadowRec) : Nat → Nat → Option (List ShadowRec)
  | 0, _ => none
  | n + 1, o => match l.find? fun r => r.ordinal == o && !r.torn with
    | none => none
    | some r => if r.continued then (shadowChain l n (o + 1)).map (r :: ·) else some [r]

/-- A reshape stays with its hive: the head that no longer owns a honey hive lets go of it, its checkpoints ended, and a head in Reshape with
none left returns to Full (R109, R249). -/
def State.leaveReshapes (s : State) : State :=
  let gone := (s.sp.reshapes.map (·.hive)).filter fun h => !s.isBrood h && !s.owns (.honey h)
  if gone.isEmpty then s
  else
    let s := s.sp' fun p => { p with reshapes := p.reshapes.filter fun r => !gone.contains r.hive }
    let s := s.wx' fun w => { w with journal := w.journal.map fun e =>
      if e.kind == 0x11 && gone.contains e.ord then { e with live := false } else e }
    let s := gone.foldl (fun t h => t.hive' h fun x => { x with reshapeNeed := false }) s
    if s.inMode .reshape && s.sp.reshapes.isEmpty then s.autoMode .full else s

/-- What the application of a peer's record brings about beside its effect on the tables. -/
def State.shadowFollow (s : State) (r : ShadowRec) : State :=
  match r.body with
  | .mapChange items => items.foldl (fun t i => match i with
    | .fpInsert _ _ fp => t.filterSet fp
    | _ => t) s
  | .keyChange kind cls d _ _ _ _ _ => s.ev0 0x120 .notice (le 1 kind.num ++ le 1 cls ++ le 2 d)
  | .combState k .replacement _ => s.replaced k
  | .handover role _ _ us =>
    if role = 2 then
      ((((us.foldl (fun t u => match u with
        | .domain d => t.domain' d fun x => { x with changing := false }
        | _ => t) s).anaUnits us).stat 0x0B04 0 0 1).ev0 0xB0A .notice []).leaveReshapes
    else s
  | .checkpoint .. =>
    let f := ckFloor (s.wx.shadow.map (·.body))
    s.wx' fun w => { w with shadow := w.shadow.filter fun x => f < x.ordinal || x.live || (x.ring != .data && x.ring != .commit) }
  | _ => s

/-- Apply one record of the peer's sequence to the copy of its metadata. -/
def State.shadowApply (s : State) (r : ShadowRec) : State :=
  let s := s.wx' fun w => { w with shadow := updFirst (fun x => x.ordinal == r.ordinal) (fun x => { x with applied := true }) w.shadow }
  (s.applyBody (otherSide s.pr.side) r.ordinal r.tick r.domain r.continued r.body).shadowFollow r

/-- The ordinal after the last shadow record applied: the lowest one listed when none is. -/
def State.shadowNext (s : State) : Nat :=
  match ((s.wx.shadow.filter (·.applied)).map (·.ordinal)).max? with
  | some n => n + 1
  | none => ((s.wx.shadow.map (·.ordinal)).min?).getD 1

/-- Apply shadow records in ordinal order with no gap; the fuel bounds the number of commands. -/
def State.shadowAux (s : State) : Nat → State
  | 0 => s
  | n + 1 => match shadowChain s.wx.shadow s.wx.shadow.length s.shadowNext with
    | some rs => (rs.foldl State.shadowApply s).shadowAux n
    | none => s

/-- This head is the one that rejoins, not the one that serves (R565). -/
def State.comingBack (s : State) : Bool := s.inMode .rejoin || s.md.auto == some .rejoin

/-- Apply what has arrived of the peer's sequence (R559). While the Rejoin copy still comes, the stream runs ahead of it and nothing is
applied (R565). -/
def State.applyShadow (s : State) : State :=
  if s.pr.rejoin.isSome && s.comingBack then s else s.shadowAux s.wx.shadow.length

/-- The records of the mirror ring and the shadow half that a replay reads: one with a failed line counts as failing its CRC (R162). -/
def State.readShadow (s : State) : State :=
  s.wx.shadow.foldl (fun t r =>
    if r.torn || r.applied then t
    else
      let x := t.lineFails (waxOff false r.ring r.off)
      x.1.cond x.2 fun u => u.wx' fun w => { w with
        shadow := updFirst (·.ordinal == r.ordinal) (fun y => { y with torn := true }) w.shadow }) s

/-- Replay of the mirror ring and the shadow half from the newest shadow CHECKPOINT (R181, R560): what that covers, and what has been
applied already, is passed over (R266); a record that the walks do not reach is never applied. Without a checkpoint every record
listed is in reach. -/
def State.shadowReplay (s : State) : State :=
  let s := s.readShadow
  let recs := s.wx.shadow.map (·.asRec)
  match newestCk recs with
  | none => s.shadowAux s.wx.shadow.length
  | some c =>
    let pool := (walks recs s.wx.shPads c).pool recs
    let s := s.wx' fun w => { w with shadow := w.shadow.map fun r =>
      if r.ordinal ≤ c.flush || r.applied then { r with applied := true }
      else { r with torn := r.torn || !(pool.any (·.ordinal == r.ordinal)) } }
    s.shadowAux s.wx.shadow.length

/-- The last ordinal of the peer's sequence applied (R46). -/
def State.shadowLast (s : State) : Nat := s.shadowNext - 1

/-- The ordinal of the peer's sequence that a waggle names (R545); until the join has restored commit order, the end of the shadow's own
replay, which a torn record before others ends (R183; DEDUCED, log 87). -/
def State.shadowOrd (s : State) : Nat := if s.bt.step == 12 then s.shadowLast else s.shadowTop

/-! ## Waggles (R545, R548, R549) -/

/-- The pair has a working active port (R20, R575): in Hold and Watch every port is down (R754). -/
def FabricPair.works (p : FabricPair) : Bool := p.active.any fun a => if a = 0 then p.even.up else p.odd.up

/-- A byte of four flags, bits [3:0]. -/
def flags4 (l : List Bool) : Nat := (l.zip [1, 2, 4, 8]).foldl (fun a x => a + (if x.1 then x.2 else 0)) 0

/-- The waggle of a path now. -/
def State.waggleMsg (s : State) (fabric grant dormant : Bool) : WaggleMsg :=
  { head := s.headId, mode := (s.md.mode.map modeN).getD 0, grant := grant, dormant := dormant, declared := s.pr.declared
    yielding := s.pr.yielding, drained := s.isDrained, tick := s.ck.tick, grantTick := s.pr.lastGrant
    confirmed := s.confirmedOrd, shadow := s.shadowOrd, links := BitVec.ofNat 8 (flags4 s.pr.plUp)
    pairs := BitVec.ofNat 8 (flags4 (s.pr.fabric.map (·.works)) + 16 * flags4 (s.pr.fabric.map fun p => p.active == some 1))
    fabric := fabric, sendTime := s.ck.now }

/-- Send a waggle on a path; none leaves without the sentinel's enable, in sleep, or without a working port of the path. -/
def State.sendWaggle (s : State) (fabric grant dormant : Bool) : State :=
  let path := if fabric then s.pr.fabric.any (·.works) else s.pr.plUp.any id
  if s.pw.waggleEnable && s.pw.sleep.isNone && path then
    (s.send (.waggle fabric (s.waggleMsg fabric grant dormant))).stat 0x0B01 (b2n fabric) 0 1
  else s

/-- Waggles on both paths. -/
def State.sendWaggles (s : State) (grant dormant : Bool) : State := (s.sendWaggle false grant dormant).sendWaggle true grant dormant

/-- A head stops: no comb task, no new work, no waggle (R549 to R551). -/
def State.standDown (s : State) : State := (s.pr' fun p => { p with fencedOff := true }).silence

/-! ## Declaring the peer failed (R547, R568, R569, R573) -/

/-- End a rebalance that has not come to RECEIVE: the units stay with the giver, whose TAKEOVER record lists them after a GIVE (R573). -/
def State.dropRebalance (s : State) : State :=
  match s.pr.rebalance with
  | none => s
  | some r =>
    let s := s.pr' fun p => { p with
      rebalance := none, given := if r.giver && r.phase ≥ 3 then r.units else p.given }
    let s := r.units.foldl (fun t u => match u with
      | .domain d => if (t.domain? d).any (·.changing) then (t.domain' d fun x => { x with changing := false }).raiseAna d else t
      | _ => t) s.leaveReshapes
    (s.ev0 0xB0A .warn []).bump 0x0B08 0 2 1

/-- Declare the peer failed. -/
def State.declare (s : State) : State :=
  let mirrored := s.pr.mirror
  let rejoin := s.inMode .rejoin
  let s := s.ev0 0xB02 .error []
  let s := s.pr' fun p => { p with
    declared := true, mirror := false, fenceEpochs := s.cl.links.map (fun l => (l.link, l.epoch)), peerYielding := false, phaseAt := [s.ck.now], base := none, rejoin := none }
  let s := (s.wx' fun w => { w with tailTo := none, peerTo := none }).dropRebalance
  let s := if (s.md.mode.any takesOver) || (rejoin && mirrored) then
      let ds := (s.vo.domains.filter fun d => d.side != s.pr.side).map (·.id)
      ds.foldl (fun t d => (t.domain' d fun x => { x with replaying := true }).raiseAna d) s
    else s
  if rejoin && mirrored then
    s.ownInternal false ⟨rebalanceItem, 0, le 1 (sideN (otherSide s.pr.side))⟩ []
  else if rejoin then s.ev0 0xB09 .critical []
  else s

/-- The misses of a path at the end of a tick (R546). -/
def State.countMiss (s : State) (fabric : Bool) : State :=
  let got := if fabric then s.pr.gotFabric else s.pr.gotPeer
  let n := if got then 0 else (if fabric then s.pr.missFabric else s.pr.missPeer) + 1
  let s := if fabric then s.pr' fun p => { p with missFabric := n } else s.pr' fun p => { p with missPeer := n }
  if n = 8 then (s.ev0 0xB01 .notice [if fabric then 1#8 else 0#8, 0#8]).bump 0x0B06 (b2n fabric) 0 1 else s

/-- After a takeover the survivor renews the tokens of the failed head's hives that are awake, and sends REPORT (R363, R592). -/
def State.renewTaken (s : State) : State :=
  if !s.co.member || !s.co.reachable then s
  else
    ((s.hv.hives.filter fun h => !h.brood && h.inService && s.owns (.honey h.id) && (h.state == .ready || h.state == .waking) &&
      h.tokenAsked.isNone && s.pr.homes.any (· == (.honey h.id, otherSide s.pr.side))).foldl (fun t h =>
        t.askToken h.id ((t.topNeed h).getD 4)) s).sendReport

/-- The end of a tick of a head that has joined: misses, the declaration (R546, R547), and the hold that two mismatches
bring from the next tick on (R555). -/
def State.endTick (s : State) : State :=
  let s := (s.countMiss false).countMiss true
  let s := if !s.pr.declared && ((s.pr.missPeer ≥ 8 && s.pr.missFabric ≥ 8 && !s.pr.peerDormant) || s.pr.peerYielding) then s.declare else s
  let s := s.pr' fun p => { p with
    gotLast := (p.gotPeer || p.gotFabric) && !p.peerYielding && !p.peerDormant
    gotPeer := false, gotFabric := false, peerYielding := false }
  let s := if s.pr.mismatches ≥ 2 && !s.pr.mismatchHold then
      (s.pr' fun p => { p with mismatchHold := true }).ev0 0xB05 .critical []
    else s
  if s.pr.declared && s.md.mode.any takesOver && s.md.auto.isNone then
    (s.pr' fun p => { p with rebalance := none }).autoMode .takeover
  else if s.inMode .takeover && s.pr.fence = 5 && s.md.auto.isNone then s.renewTaken.autoMode .solo
  else s

/-! ## The start of a tick -/

/-- Both heads have joined: the mode at the next multiple of 5 (R564), EB00. A head in Solo by frame whose peer has joined without a
Rejoin goes to Full by the same rule (R116). -/
def State.joinMode (s : State) : State :=
  if !s.pr.joined || s.md.auto.isSome || s.ck.tick % 5 != 0 || s.pr.declared || s.joining then s
  else if s.md.mode.isNone then (s.enterMode .full).ev0 0xB00 .info []
  else if s.inMode .solo && s.pr.rejoin.isNone && s.pr.mirror then (s.autoMode .full).ev0 0xB00 .info []
  else s

/-- The tick chain of this head's sequence (R552). -/
def State.chainTick (s : State) : State :=
  if !s.pr.joined || s.pr.declared || !s.pr.mirror || s.ck.tickEpoch.isNone then s
  else
    let n := s.confirmedOrd
    match s.pr.base with
    | none => s.pr' fun p => { p with
        base := some s.ck.tick, ownCut := n, ownChain := chainBase s.headId s.ck.tick n, vaultCount := 0, mismatches := 0, vaultDiff := 0, matchCut := n, shMatchCut := 0 }
    | some _ => s.pr' fun p => { p with ownCut := n, ownChain := chainNext p.ownChain s.ck.tick n (s.ownMarks p.ownCut n) }

/-- The tick digest (R553). -/
def State.sendDigest (s : State) : State :=
  if s.pr.base.isSome && s.pr.joined && !s.pr.declared then
    s.send (.digest
      { head := s.headId, echoResult := s.pr.echoResult, vaultCount := s.pr.vaultCount, tick := s.ck.tick, cutoff := s.pr.ownCut
        own := s.pr.ownChain, echoTick := s.pr.echoTick, echo := s.pr.shChain, vault := s.vaultDigest })
  else s

/-- The DORMANT waggle of the tick at which the head begins to enter Hold or Watch; it sends none after it (R548). -/
def State.sendDormant (s : State) : State :=
  if s.md.dormantSaid then s else (s.sendWaggles false true).md' fun d => { d with dormantSaid := true }

/-- The grant of a tick (R540, R751), also that of the cut-over of Rejoin (R566), then the waggles of both paths. -/
def State.waggleTick (s : State) : State :=
  if s.md.entering.isSome then s.sendDormant
  else if !s.pr.joined && s.pr.joinSince.isNone then s
  else
    let cutOver := s.inMode .rejoin && s.pr.mirror && s.pr.base == some s.ck.tick
    let grant := s.pr.joined && (s.ck.tick % 5 = 0 || cutOver) && s.pr.gotLast && !s.pr.declared && s.ck.align != 3
    let s := if grant then (s.pr' fun p => { p with lastGrant := s.ck.tick }).stat 0x0B02 0 0 1 else s
    s.sendWaggles grant false

/-- A management key given becomes current at the next tick (R688). -/
def State.keyTick (s : State) : State :=
  let s := if s.ks.mgmt.pend.isSome then (s.ks' fun k => { k with mgmt := k.mgmt.promote s.ck.now }).reseal else s
  if s.ks.pair.pend.isNone then s
  else if !s.pr.joined then (s.ks' fun k => { k with pair := k.pair.promote s.ck.now }).reseal
  else
    let mine := s.wx.own.any fun r => r.accepted && r.ordinal ≤ s.pr.peerShadow && match r.body with
      | .keyChange .classKey 0 _ _ _ _ _ _ => true
      | _ => false
    if mine && !(s.vk.frames.any fun f => f.items.any (·.setting == keyItem) && (f.state == .scheduling || f.state == .scheduled)) then
      if s.framesFull then s else s.internalFrame true ⟨keyItem, 3, []⟩ []
    else s

/-- The written formats that the reports permit: of each structure the lowest of what the running firmware writes, what the peer's confirmed
firmware reads and, on trial, what the previous confirmed firmware wrote (R664). -/
def State.permitted (s : State) (f : Formats) : List Nat :=
  (List.range firstFormats.length).map fun i =>
    max 1 (min (min (s.up.formats.writes.getD i 1) (f.reads.getD i 1)) ((s.up.wroteBefore.map (·.getD i 1)).getD 255))

/-- A change of written format that the reports permit is scheduled as an internal pair-wide frame (R665). -/
def State.formatTick (s : State) : State :=
  match s.pr.peerFormats with
  | none => s
  | some f =>
    if !s.pr.joined || s.peerAway || s.permitted f == s.up.written || s.framesFull || (s.vk.frames.any fun g =>
        !g.peerMade && g.items.any (·.setting == formatItem) && (g.state == .scheduling || g.state == .scheduled)) then s
    else s.internalFrame true ⟨formatItem, 3, le 1 (sideN s.pr.side) ++ (s.permitted f).flatMap (le 1 ·)⟩ []

/-- Data generations that seal nothing any more are dropped (R689). -/
def State.genTick (s : State) : State :=
  s.ks.recs.foldl (fun t r =>
    if t.owns (.domain r.domain) && (r.data.any fun g => g.1 != r.newestData && t.genCount r.domain g.1 == 0) &&
        !(t.wx.own.any fun x => !x.accepted && match x.body with
          | .keyChange .genDrop _ d _ _ _ _ _ => d == r.domain
          | _ => false) then
      t.commit r.domain (.keyChange .genDrop 6 r.domain r.newestData r.newestLoc 0 none []) []
    else t) s

/-- What a hive's need asks for at a tick: a rebuild to take up (R233, R236), the wakes of
housekeeping (R294, R302, R364), the idle time (R365), and in each whole
second the time awake and the energy. -/
def State.hiveTick (s : State) (id : Nat) : State :=
  let s := (s.judgeGc id).resumeRebuild id
  match s.hive? id with
  | none => s
  | some h =>
    let gc := !h.brood && s.owns (.honey id) && s.houseCalls id
    -- the need keeps an awake hive awake, up to 60 s before its token expires
    let s := s.hive' id fun x => { x with houseNeed := gc && (h.isDark || !h.token.any fun t => t.2 ≤ s.ck.tick + 60000) }
    let s := if gc && h.isDark then s.askWake id 4 else s
    let s := if (s.topNeed ((s.hive? id).getD h)).isSome then s.hive' id fun x => { x with idleSince := s.ck.now } else s
    if s.ck.now / second = (s.ck.now - milli) / second then s
    else
      let s := if h.state == .ready then s.stat 0x0702 id 0 1 else s
      match h.block with
      | some b => s.stat 0x0703 id 0 b.inputW
      | none => s

/-- The tick of a head that is awake and runs; until the join has restored commit order, only its waggles and votes go out (R74). -/
def State.runTick (s : State) : State :=
  if s.joining then s.waggleTick.standingVotes
  else
  let s := if s.wx.later.isEmpty then s else s.writeLater
  let s := ((s.frameTick.keyTick.formatTick).joinMode.retryRaises).colonyTick
  let s := if s.md.wakePending && s.inMode .quiesce then s.tryWake else s
  let s := ((s.chainTick.waggleTick).sendDigest).standingVotes
  let s := (s.readAgain.judgeLanding.refill.judgeHolds.countHolds.judgeFold).genTick
  let s := (s.hv.hives.map (·.id)).foldl State.hiveTick s
  let s := (s.cl.links.map (·.link)).foldl State.reissueBusy (s.settle.issueErases.issueAll)
  s.replTick.askWaiting

end Sys2Proof.Machine
end

