-- ==== Sys2Proof/Machine/ReplayOps.lean ====
section
/-! DEFINITION. Start replay (R181 to R183, R227, R293, R812): the tables behind the newest root head that can be read (R265), the records
above it in commit order, and what the head takes up again afterwards. -/

namespace Sys2Proof.Machine

/-! ## What wax holds (R161, R165) -/

/-- A record that was not confirmed when the head went down may be whole or torn (R161), and a line of any record may read as corrected
or as failed, which raises E230 (R162): free values (log 80). -/
def State.tearRecords (s : State) : State :=
  s.wx.own.foldl (fun t r =>
    if r.torn then t
    else
      let whole := r.localOk || t.drawnNat % 4 != 0
      let x := t.lineFails (waxOff true r.ring r.off)
      x.1.wx' fun w => { w with
        own := updFirst (·.ordinal == r.ordinal) (fun y => { y with localOk := whole && !x.2, torn := !(whole && !x.2) }) w.own }) s

/-- The entries of a journal half that a walk takes: those whose lines read well (R162, R227). -/
def State.readJournal (s : State) (base : Nat) (es : List JournalEntry) : State × List JournalEntry :=
  es.foldl (fun a e =>
    let x := a.1.lineFails (base + 64 * e.off)
    (x.1, if x.2 then a.2 else a.2 ++ [e])) (s, [])


/-! ## The tables of flash (R188, R263) -/

/-- Tables as the newest root head that counts covers them. What only DRAM held is gone: open stripes, work in the pipeline, merges,
open fold rows, the summary filter; an accepted SNAP_CREATE whose freeze was still to be written stays so (log 80). -/
def State.loadFlash (s : State) : State :=
  let f := s.fl
  let z := State.reset
  { s with
    rd := { z.rd with
      store := s.rd.store, chunks := f.rd.chunks, fps := f.rd.fps, nextChunk := f.rd.nextChunk, chunkClaim := f.rd.chunkClaim
      deferred := f.rd.deferred, e340Said := f.rd.e340Said
      pendingMap := f.rd.pendingMap.filter fun e => match e.2 with
        | .snapFreeze .. => true
        | _ => false }
    vo := f.vo
    sp := { f.sp with
      opens := [], rebuilds := [], fencedOut := [], laneHive := [], avoid := [], givenUp := []
      retiring := f.sp.retiring.map fun x => (x.1, none)
      reshapes := [] }
    me := { f.me with
      rows := [], metaOpen := [], rereads := [], gcActive := [], gcLow := [], wearActive := [], lastProg := []
      sets := f.me.sets.map fun (b : BlockSet) => { b with erasing := false } }
    ob := f.ob
    rp := { f.rp with
      groups := f.rp.groups.map fun (g : RGroup) => { g with inFlight := [], queryAt := none, snapWait := [] }
      replicas := f.rp.replicas.map fun (r : Replica) => { r with need := [], fails := [], held := [], offers := [] } }
    co := { f.co with
      lastContact := none, reachable := f.co.member && s.pr.apiary == 0, joinWait := none, reqs := [], tokens := [], qHeld := []
      lastReport := none, arbiters := [] }
    vk := { s.vk with
      settings := f.settings
      frames := f.frames.map fun (x : Frame) => { x with waiter := none }, peerFrames := f.peerFrames }
    pr := { s.pr with owners := f.owners, homes := f.homes, tookOver := f.tookOver }
    flNext := none }

/-- The units that have been programmed in a block set in SLC mode: page u of a plane is unit u (R252). -/
def State.unitsIn (s : State) (link die block : Nat) : Nat :=
  ((s.bridge? link).map fun b => (b.pages.filter fun p => p.die == die && p.block == block).foldl (fun n p => max n (p.page + 1)) 0).getD 0

/-- The anchors that a block set holds, when its comb answers (R264). -/
def State.anchorsIn (s : State) (l : Link) (die block : Nat) : List (Nat × List MetaRow) :=
  if !s.answers l then []
  else (List.range (s.unitsIn l.link die block)).filterMap fun u =>
    ((s.unitNand .brood ⟨l.link, die, block, u, 0, 0⟩).mapM fun (p : Option NandPage) =>
      (p.filter fun x => !x.bad).map fun x => x.data).bind fun ps => anchorSays ps.flatten

/-- Step 1 of R265: the anchor units of the brood hives are read, and the valid one of highest sequence counts. The next anchor follows it,
in the first unit that has not been programmed (R254, R264). -/
def State.readAnchors (s : State) : State :=
  let ls := s.cl.links.filter fun l => s.isBrood l.hive
  let sets := ls.flatMap fun l => (((s.anchorDie l).toList).flatMap fun d => [(l, d, 0), (l, d, 1)])
  let best := (sets.flatMap fun x => s.anchorsIn x.1 x.2.1 x.2.2).foldl (fun a b => if a.1 < b.1 then b else a)
    (s.me.anchorSeq, s.me.anchors)
  let s := s.me' fun m => { m with anchorSeq := best.1, anchors := best.2 }
  sets.foldl (fun t x => t.set' x.1.link x.2.1 x.2.2 fun b =>
    if b.state == .reserved then { b with nextUnit := t.unitsIn x.1.link x.2.1 x.2.2 } else b) s

/-- Step 3 of R265: the newest root head whose pages all pass R262, as far as their combs answer, and whose covered ordinal is at least the
F of the checkpoint that the replay uses. Where none is so, the newest stays, and what cannot be read of it is lost (R41, R262). -/
def State.findFlash (s : State) : State :=
  let f := ((newestCk s.wx.own).map (·.flush)).getD 0
  let good := fun (g : FlashMeta) => f ≤ g.covered && g.pages.all fun p => p.ptrs.isEmpty || p.ptrs.any fun q => s.copyReads p q != some false
  match (s.fl :: s.flOld).find? good with
  | some g => { s with fl := g, flOld := s.flOld.filter fun h => h.covered < g.covered }
  | none => s

/-! ## Applying records (R43, R181) -/

/-- A Scheduled frame that a start replay applies: one of this head alone, or a pair-wide one whose go record the head holds; no record
of the sequence ends it (R54, R115). -/
def State.missed (s : State) (f : Frame) : Bool :=
  f.state == .scheduled && (!f.pair || f.go = 2 || (f.peerMade && s.shadowGo f.id)) &&
    !(s.wx.own.any fun r => !r.torn && f.schedOrd < r.ordinal && match r.body with
      | .frameEnd id _ => id == f.id
      | _ => false)

/-- Put in force, in a replay, what a frame that the head missed gives this side: a HEAD_MODE item changes no mode, for the mode of a head
that starts is the pair's (R564), and a REBALANCE whose heads have parted since does not begin (R573). -/
def State.replayFrame (s : State) (f : Frame) : State :=
  (f.items.filter (·.forSide s.pr.side)).foldl (fun t i =>
    if i.setting = superItem then t.superAttach (fld i.value 0 1) (fld i.value 1 2) (t.takenBy f)
    else if i.setting = rebalanceItem then t
    else if i.setting = apiaryItem then t.changeApiary i.value
    else if i.setting = formatItem then t.takeFormats i.value
    else if i.setting = keyItem then (t.ks' fun k => { k with pair := k.pair.promote t.ck.now }).reseal
    else t.applySetting i) s

/-- Apply the frames that the head missed before a tick, in frame order: they are in force from here on in the replay (R54). -/
def State.replayFrames (s : State) (tick : Nat) : State :=
  (s.scheduledFrames.filter fun f => f.tick < tick && s.missed f).foldl (fun t f =>
    ((t.replayFrame f).endFrame f.id 0).frame' f.id f.peerMade fun g => { g with owed := true }) s

/-- The FRAME_END records of the frames that the replay has applied (R54, R107). -/
def State.owedEnds (s : State) : State :=
  (s.vk.frames.filter (·.owed)).foldl (fun t f =>
    ((t.frame' f.id f.peerMade fun g => { g with owed := false }).commit 0xFFFF (.frameEnd f.id 0) []).frameEvent f 0) s

/-- Apply one record: a record at or below the covered ordinal has its effect in the tables already. The frames missed before its tick
come first. -/
def State.replayRec (s : State) (r : WaxRec) : State :=
  let s := if r.ordinal ≤ s.fl.covered then s else s.replayFrames r.tick
  let s := s.wx' fun w => { w with
    lastApplied := r.ordinal
    own := updFirst (·.ordinal == r.ordinal) (fun x => { x with accepted := true, localOk := true }) w.own }
  if r.ordinal ≤ s.fl.covered then
    -- what a RING_RELEASE frees lies in the rings, not in the tables (R173)
    match r.body with
    | .ringRelease items => s.wx' fun w => { w with
        own := w.own.map fun x => if x.ring == .data && items.any (·.ordinal == x.ordinal) then { x with live := false } else x }
    | _ => s
  else
    let s := (s.applyBody s.pr.side r.ordinal r.tick r.domain r.continued r.body).me' fun m => { m with dirty := true }
    match r.body with
    | .acceptControl (.snapCreate nsid snap label) => s.addPending [(r.ordinal, .snapFreeze nsid snap label)]
    | .mapChange items => s.rd' fun d => { d with pendingMap := d.pendingMap.filter fun e => !items.contains e.2 }
    | _ => s

/-- Apply every command from the next ordinal on whose records the walks and the slots gave, all there and whole (R170, R181); the fuel
bounds their number. -/
def State.replayAux (s : State) (pool : List WaxRec) : Nat → State
  | 0 => s
  | n + 1 => match chainFrom pool pool.length (s.wx.lastApplied + 1) with
    | none => s
    | some rs => (rs.foldl State.replayRec s).replayAux pool n

/-- Records beyond the replay's end leave the sequence; the peer's copy may bring them back (R182, R183). -/
def State.cutTail (s : State) : State :=
  s.wx' fun w => { w with
    own := w.own.filter fun r => r.ordinal ≤ w.lastApplied
    tail := w.own.filter fun r => w.lastApplied < r.ordinal }

/-- The end of a replay: E221 where a record beyond it stands, E220 with the checkpoint, the last ordinal applied and the records
applied. -/
def State.replayEnds (s : State) (ck first : Nat) : State :=
  let s := s.cond (!s.wx.tail.isEmpty) fun t => t.ev0 0x221 .notice (le 8 (((t.wx.tail.head?).map (64 * ·.off)).getD 0))
  s.ev0 0x220 .info (le 8 ck ++ le 8 s.wx.lastApplied ++ le 8 (s.wx.lastApplied + 1 - first))

/-- The next ordinal: one above the last applied; without a usable checkpoint also above every whole record and the covered ordinal
(R182, R812). -/
def State.nextAfter (s : State) (none_ : Bool) : Nat :=
  let base := s.wx.lastApplied + 1
  if none_ then ((s.wx.own ++ s.wx.tail).filter (!·.torn)).foldl (fun m r => max m (r.ordinal + 1)) (max base (s.fl.covered + 1)) else base

/-- Replay of a sequence that lies in the own rings, from a checkpoint on (R181): the pinned records are live again with those that the
walks find, what the walks and the slots hold is applied in order, and the next records go where the walks stopped (R182). -/
def State.replayFrom (s : State) (c : CkRec) : State :=
  let x := walks s.wx.own s.wx.pads c
  let pool := x.pool s.wx.own
  let s := s.wx' fun w => { w with
    lastApplied := c.flush
    own := w.own.map fun r =>
      { r with
        accepted := r.accepted || r.ordinal ≤ c.flush
        live := r.body.isData && (c.pinned.contains r.ordinal || x.data.any (·.ordinal == r.ordinal)) } }
  (s.replayAux pool pool.length).wx' fun w => { w with
    dataWp := x.dataAt, commitWp := x.commitAt, walkStart := c.commitStart, nextSlot := (c.slot + 1) % 4 }

/-- Replay of this head's sequence (R181, R812). -/
def State.replayOwn (s : State) : State :=
  match newestCk s.wx.own with
  | some c =>
    let s := ((s.replayFrom c).cutTail).replayEnds c.ordinal (c.flush + 1)
    s.wx' fun w => { w with nextOrd := s.nextAfter false, replayEnd := w.lastApplied }
  | none =>
    if s.wx.isNew || s.wx.own.isEmpty then
      -- the encrypted wax holds nothing of this sequence: nothing is applied
      let s := (s.wx' fun w => { w with own := [], pads := [], lastApplied := 0 }).replayEnds 0 1
      s.wx' fun w => { w with nextOrd := s.nextAfter true, lastApplied := s.nextAfter true - 1, replayEnd := s.fl.covered }
    else
      let s := s.wx' fun w => { w with lastApplied := s.fl.covered, lost := true }
      let s := (s.wx' fun w => { w with tail := w.own, own := [], pads := [] }).ev0 0x223 .critical []
      let n := s.nextAfter true
      s.wx' fun w => { w with nextOrd := n, lastApplied := n - 1, replayEnd := s.fl.covered, walkStart := w.commitWp }

/-- The identifiers of the blocks already claimed are not given out again (R133, R208, R258). -/
def State.resumeIds (s : State) : State :=
  ((s.rd' fun r => { r with nextChunk := max r.nextChunk r.chunkClaim }).sp' fun p => { p with nextOrd := max p.nextOrd p.claim }).me'
    fun m => { m with writeSeq := max m.writeSeq m.seqClaim }

/-- The records from the last one that replay applied, up to `top`, have all come from the peer: by themselves, or from a checkpoint
among them on, with the records that it pins (R183, R812); a head whose own copy cannot be replayed takes them from there alone. -/
def State.tailStart (s : State) (top : Nat) : Option Nat :=
  let whole := fun (lo : Nat) => (List.range (top - lo)).all fun i => s.wx.own.any fun r => r.ordinal == lo + 1 + i && !r.torn
  if !s.wx.lost && whole s.wx.replayEnd then some s.wx.replayEnd
  else match newestCk s.wx.own with
    | some c => if (s.wx.lost || s.wx.replayEnd < c.ordinal) && whole c.flush &&
        c.pinned.all (fun o => s.wx.own.any fun r => r.ordinal == o && !r.torn) then some c.flush else none
    | none => none

/-- The peer's copy of this head's sequence has come whole: the records between are applied in commit order, and the sequence goes on
above them (R183, R812, R208). -/
def State.tailDone (s : State) : State :=
  match s.wx.tailTo with
  | none => s
  | some top => match s.tailStart top with
    | none => s
    | some lo =>
      let after := fun (ring : WaxRing) (wp : Nat) =>
        ((s.wx.own.filter fun r => r.ring == ring && r.ordinal ≤ top).foldl (fun (a : Nat × Nat) r =>
          if a.1 ≤ r.ordinal then (r.ordinal, r.off + r.units) else a) (0, wp)).2
      let (dp, cp) := (after .data s.wx.dataWp, after .commit s.wx.commitWp)
      let next := max s.wx.nextOrd (top + 1)
      let pool := s.wx.own.filter (!·.torn)
      let s := (s.wx' fun w => { w with lastApplied := lo }).replayAux pool pool.length
      ((s.wx' fun w => { w with
        tailTo := none, lost := false, replayEnd := w.lastApplied, nextOrd := next, lastApplied := next - 1, dataWp := dp, commitWp := cp
        own := w.own.map fun r => if r.ordinal ≤ top then { r with peerOk := true } else r }).resumeIds).ev0 0x222 .notice
          (le 8 (lo + 1) ++ le 8 top)

/-- A record of this head's own sequence comes from the peer's shadow, to its own place (R183, R812). -/
def State.takeCopied (s : State) (r : ShadowRec) : State :=
  let s := s.overwrite r.ring r.off r.units
  if r.body == .pad then s.wx' fun w => { w with pads := w.pads ++ [(r.ring, r.off, r.units)] } else
  let x : WaxRec := { r.asRec with accepted := false, peerOk := true, live := r.body.isData && r.live }
  (s.wx' fun w => { w with own := (w.own.filter (·.ordinal != r.ordinal) ++ [x]).sortBy fun a b => a.ordinal ≤ b.ordinal }).tailDone

/-- The shadow after a start: what the flush holds of the peer's sequence has been applied, and the rest follows (R559). -/
def State.replayShadow (s : State) : State :=
  (s.wx' fun w => { w with shadow := w.shadow.map fun r => { r with applied := r.ordinal ≤ s.fl.peerCovered } }).shadowReplay

/-! ## What follows -/

/-- The footer on the first page of a unit is whole and names a stripe (R227). -/
def State.footerSays (s : State) (r : Region) (m : Member) (ord : Nat) : Bool :=
  (s.link? m.link).any (·.state == .up) && (((s.unitNand r m).head?).join).any fun p =>
    !p.bad && slice p.spare 124 4 == crcBytes (p.spare.take 124) && fld p.spare 8 6 == ord

/-- The block set of orphaned pages receives no further programs: one that is not SEALED yet is SEALED, and garbage collection erases it
(R227). -/
def State.barBlock (s : State) (m : Member) (r : Region) : State :=
  match s.set? m.link m.die m.block with
  | some b => if b.state == .free || b.state == .opened then s.setBlock m.link m.die m.block .sealed b.qlc (if b.state == .free then .landing else b.use) else s
  | none => s.setBlock m.link m.die m.block .sealed (r == .honey) .landing

/-- One stripe of the walk: the pages of its members and moved units whose footers name it are orphaned space; a live STRIPE_OPEN ends with
a STRIPE_DONE that says abandoned (R225, R227). -/
def State.orphanStripe (s : State) (es : List JournalEntry) (o : Nat) : State :=
  let mine := es.filter fun e => e.ord == o && (e.kind == 0x01 || e.kind == 0x03)
  let r := match ((mine.find? (·.kind == 0x01)).map fun e => e.body.getD 1 0).getD 0 with
    | 1 => Region.honey
    | 2 => .tall
    | _ => .brood
  let named := (mine.flatMap (·.members)).filter fun m => s.footerSays r m o
  let s := if mine.any fun e => e.kind == 0x01 && e.live then (s.journal 0x02 o [1, 0] []).stat 0x0402 0 0 1 else s
  if named.isEmpty then s
  else named.foldl (fun t m => t.barBlock m r) (s.sp' fun p => { p with orphans := p.orphans.filter (· != o) ++ [o] })

/-- The journal walk over a half, at its wax offset (R162, R227): every stripe with a STRIPE_OPEN and no STRIPE_COMMIT. -/
def State.orphanWalk (s : State) (base : Nat) (es : List JournalEntry) : State :=
  let (s, es) := s.readJournal base es
  let lost := dedupBy ((es.filter fun e => e.kind == 0x01 && (s.stripe? e.ord).isNone && !s.sp.opens.any (·.ord == e.ord)).map (·.ord))
  lost.foldl (fun t o => t.orphanStripe es o) s

/-- A block set lies in the space of a side: its half of a brood hive, or a honey hive it owns (R18). -/
def State.setOf (s : State) (sd : Side) (b : BlockSet) : Bool :=
  (s.link? b.link).any fun l => if s.isBrood l.hive then s.dieSide b.link b.die == sideN sd else s.ownerOf (.honey l.hive) == some sd

/-- A stripe was opened by a side, or lies in a honey hive that the side owns. -/
def State.stripeOf (s : State) (sd : Side) (t : Stripe) : Bool :=
  if s.isBrood t.hive then t.opener % 2 == sideN sd else s.ownerOf (.honey t.hive) == some sd

/-- A copy stripe whose chunks were placed: one of them lies in it. -/
def State.wasPlaced (s : State) (t : Stripe) : Bool :=
  t.placed || t.envs.any fun e => (s.chunk? e.chunk).any fun c => c.state == .stored && c.place == ⟨t.ord, e.off⟩

/-- The copy stripes of a side that are committed and not placed: those of rows whose block sets are all SEALED full wait for their
read-back again, the others are released (R293, R297). -/
def State.recoverRows (s : State) (sd : Side) : State :=
  let copies := s.sp.table.filter fun t => !t.released && s.stripeOf sd t && (t.purpose == .fold || t.purpose == .gc || t.purpose == .reshape)
  let (_, wait) := copies.partition s.wasPlaced
  let full := fun (t : Stripe) => t.region == .honey && t.members.all fun m => (s.set? m.link m.die m.block).any fun b =>
    b.state == .sealed && 384 ≤ b.nextUnit
  let (again, drop) := wait.partition full
  let ords := again.map (·.ord)
  let rows := (dedupBy (again.map (·.hive))).map fun h =>
    let ts := again.filter (·.hive == h)
    (⟨h, dedupBy (ts.flatMap fun t => t.members.map fun m => (m.link, m.die, m.block)), 384, ts.map (·.ord), true⟩ : FoldRow)
  let mark := fun (t : Stripe) => if copies.any (fun c => c.ord == t.ord) && !ords.contains t.ord then { t with placed := true } else t
  let s := (s.sp' fun p => { p with table := p.table.map mark }).me' fun m => { m with rows := m.rows ++ rows }
  s.mapChange 0xFFFF (drop.map fun t => .stripeRelease t.ord) []

/-- Every OPEN block set of a side is SEALED short (R293). -/
def State.sealShort (s : State) (sd : Side) : State :=
  let mine := s.me.sets.filter fun b => b.state == .opened && !(s.sp.opens.any fun t => t.members.any fun m =>
    m.link == b.link && m.die == b.die && m.block == b.block) && s.setOf sd b
  let s := mine.foldl (fun t b => t.blockState b.link b.die b.block .sealed b.qlc b.use b.pe b.grown) s
  s.mapChange 0xFFFF (mine.map fun b => .blockState b.link b.die b.block .sealed b.qlc b.use b.pe b.grown) []

/-- The puts that abort an open object, accepted and not yet carried out (R455). -/
def State.resumeAborts (s : State) : State :=
  (s.wx.own.filter fun r => r.accepted && r.live && !r.continued).foldl (fun t r => match r.body with
    | .acceptPut d _ =>
      if d.abort then
        let ords := match t.objOfToken d.domain d.token with
          | some o => (o.parts.filter fun p => p.ordinal % 2 == sideN t.pr.side).map (·.ordinal / 2)
          | none => []
        (t.rd' fun x => { x with ingested := x.ingested ++ [r.ordinal] }).mapChange d.domain
          [.openDrop d.domain d.token] [.release (r.ordinal :: ords)]
      else t
    | _ => t) s

/-- Work that the tables call for is begun again: rebuilds, reshapes, rows, releases, erases, map items, and groups; a new anchor is written
(R264). -/
def State.resumeWork (s : State) : State :=
  let s := (s.hv.hives.map (·.id)).foldl (fun t h =>
    let u := t.resumeRebuild h
    (if u.isBrood h || u.owns (.honey h) then u.resumeReshape u.wx.journal h else u).undoReshape h) s
  -- the erases of the FREE_DIRTY records that the replay has applied; those of this command follow their acceptance (R256)
  let s := (s.me.sets.filter (·.state == .freeDirty)).foldl (fun t b => t.set' b.link b.die b.block fun x => { x with erasing := true }) s
  let s := (((s.recoverRows s.pr.side).sealShort s.pr.side).releaseEmpty (s.sp.table.map (·.ord))).dirtySets.resumeAborts.writeAnchor
  let s := (s.cl.links.filter (·.state == .up)).foldl (fun t l => match t.bridge? l.link with
    | some b => t.linkServes l.link b
    | none => t) s
  ((s.flushMap.issueErases).resumeGroups fun _ => true).settle

/-- Step 11: the whole replay of a start (R181, R182, R227, R139). -/
def State.replay (s : State) : State :=
  let s := (s.tearRecords.findFlash).loadFlash.readAnchors.replayOwn.readMetas
  let s := s.resumeIds.wx' fun w => { w with epoch := w.epoch + 1, replayed := true, isNew := false }
  let s := (s.replayShadow.replayFrames (s.ck.tick + 1)).orphanWalk 0xF4000000 s.wx.journal
  s.restartFilter

end Sys2Proof.Machine
end

