-- ==== Sys2Proof/Machine/ForageOps.lean ====
section
/-! DEFINITION. The receiving side of Forage (12): arrival checks (R479 to R481), placement and visibility (R490 to R494),
acknowledgement (R495 to R497), the recent-ID table (R501, R502), the holding buffer and eviction (R504 to R506), bindings
(R484, R485), congestion (R512, R513) and the end of a connection (R499, R507, R508). -/

namespace Sys2Proof.Machine

/-! ## Order of message IDs -/

/-- A message ID at or after another, by serial order. -/
def idGe (a b : BitVec 32) : Bool := (a - b).toNat < 2 ^ 31

/-! ## Eviction (R504, R505) -/

/-- A resident context that may be evicted. -/
def State.evictable (s : State) (c : Ctx) : Bool :=
  c.resident && !c.pinned && !(s.fg.holding.any (·.dstCtx == c.id)) && c.placing.isEmpty &&
    (c.sent.isEmpty || s.ck.now + 100000 < c.rtoAt)

/-- Evict the least recently used context while more than 4,096 are resident (R1). -/
def State.evictOne (s : State) : State :=
  if (s.fg.ctxs.filter (·.resident)).length ≤ 4096 then s
  else
    let best := (s.fg.ctxs.filter s.evictable).foldl (fun (b : Option Ctx) c => match b with
      | none => some c
      | some x => if c.lastUse < x.lastUse then some c else b) none
    match best with
    | none => s
    | some c => (s.ctx' c.id fun x => { x with resident := false }).stat 0x0905 0 1 1

/-- Evict until no more than 4,096 contexts are resident (R1); at most 16 come at once. -/
def State.evictRest (s : State) : State := (List.range 16).foldl (fun t _ => t.evictOne) s

/-! ## Bindings (R482 to R485, R509) -/

/-- A context no rule has bound yet. -/
def freshCtx (id now : Nat) : Ctx :=
  { id := id, state := .free, pinned := id ≤ 255, resident := true, colonyKey := false, farHead := 0, farCtx := 0, nextSend := 1
    nextVisible := 1, memKey := 0, base := 0, len := 0, rx := 0, tx := 0, ring := [], ringSize := 65536, ringFullSaid := false, path := 0
    sq := [], sqSize := 12, sent := [], placing := [], farKey := 0, naks := [], reads := [], readWait := none, rto := 50000
    rtoAt := 0, rtos := 0, broken := false, lastUse := now, gaveUp := false }

/-- Length of the region of a pinned context: the wax region of contexts 2, 3 and 4 (R172, R224, R486), else one message of the
greatest length (log 60). -/
def pinnedLen (id : Nat) : Nat :=
  match id with
  | 2 => 64 * dataRingUnits
  | 3 => 256 * 2 ^ 20
  | 4 => 64 * journalUnits
  | _ => 4194304

/-- What a binding leaves of a context: it is bound to a far end, its order starts at the ID the far end named, its own IDs go on
(R484, R485). -/
def Ctx.bindTo (c : Ctx) (farHead farCtx : Nat) (first : BitVec 32) (farKey : BitVec 32) (colony : Bool) (path now : Nat) : Ctx :=
  { c with
    state := .bound, resident := true, colonyKey := colony, farHead := farHead, farCtx := farCtx, nextVisible := first, farKey := farKey
    path := path, placing := [], naks := [], readWait := none, rtos := 0, rto := 50000, broken := false, lastUse := now }

/-- Put a context into the table in place of its former entry. -/
def State.putCtx (s : State) (c : Ctx) : State :=
  s.fg' fun g => { g with ctxs := if g.ctxs.any (·.id == c.id) then updFirst (·.id == c.id) (fun _ => c) g.ctxs else g.ctxs ++ [c] }

/-- Records and entries the peer has not acknowledged are sent anew (R172, R183, R226); what the Rejoin copy carries is not (R565). -/
def State.pushUnconfirmed (s : State) : State :=
  if !s.streams then s
  else
    let s := s.wx.own.foldl (fun t r => if r.peerOk || s.pr.rejoin.any (fun c => r.ordinal ≤ c.1) then t else
      t.mirrorPush (if r.ring == .data then 2 else 3) r.ordinal (64 * r.units) (regionOff r.ring r.off)) s
    (s.liveJournal).foldl (fun t e => if e.peerOk || s.pr.rejoin.isSome then t else t.mirrorPush 4 e.seq (64 * e.units) (64 * e.off)) s

/-- Bind contexts 1 to 15 to the peer's contexts of the same number at pair join; memory keys are the context IDs and a head's
first ID after its reset is 1 (log 60). -/
def State.bindPinned (s : State) : State :=
  let ids := (List.range 15).map (· + 1)
  let s := ids.foldl (fun t i =>
    let (t, p) := t.pathFor t.peerId (i == 6)
    let c := (t.ctx? i).getD (freshCtx i t.ck.now)
    let c := { c.bindTo t.peerId i 1 (BitVec.ofNat 32 i) false (p.getD 0) t.ck.now with
      memKey := BitVec.ofNat 32 i, len := pinnedLen i, sent := [], sq := [], reads := [], gaveUp := false }
    (t.putCtx c).ev0 0x900 .info (le 2 t.headId ++ le 2 i ++ le 2 t.peerId ++ le 2 i)) s
  s.evictRest.pushUnconfirmed

/-- The body of a binding message: local context, far context, first message ID, memory key, region length, key class (R484; its
layout is DESIGN CHOICE, log 61). -/
def bindBytes (c : Ctx) : Bytes :=
  le 2 c.id ++ le 2 c.farCtx ++ le 4 c.nextSend.toNat ++ le 4 c.memKey.toNat ++ le 8 c.len ++ le 1 (b2n c.colonyKey)

/-- Send a binding message to context 1 of a far head. To the peer it goes through context 1's queue; to another head, with which
context 1 is not bound, it goes as one packet of its own (log 61). -/
def State.sendBind (s : State) (c : Ctx) : State :=
  if s.sameApiary c.farHead then s.postEntry 1 (plainEntry 2 21 (bindBytes c) 0 0 0)
  else
    let c1 := (s.ctx? 1).getD (freshCtx 1 s.ck.now)
    let via := { c1 with farHead := c.farHead, farCtx := 1, path := c.path, farKey := 1 }
    let s := (s.putCtx { c1 with nextSend := c1.nextSend + 1 }).evictOne
    s.sendPackets via { op := 2, id := c1.nextSend, len := 21, remote := 0, imm := 0, origin := s.ck.now, cuts := [(0, bindBytes c)]
                        again := false, solicit := true } fun _ => true

/-- The lowest context ID from 256 on that is free (R482). -/
def State.freeCtx (s : State) : Option Nat := findFrom (fun i => (s.ctx? (256 + i)).isNone) (List.range 65279) 0 |>.map (256 + ·)

/-- Send the binding message of a context that is being bound, once a path to the far head can be had (R484, R509). -/
def State.sendBinding (s : State) (id : Nat) : State :=
  match s.ctx? id with
  | none => s
  | some c =>
    let s := s.ensurePath c
    match s.ctx? id with
    | none => s
    | some c => if (s.path? c.path).any (·.farHead == c.farHead) then s.sendBind c else s

/-- Firmware binds a new context for the use of one that failed (R508); with no free path entry the binding waits (R509). -/
def State.rebind (s : State) (old : Ctx) : State :=
  if old.pinned then s
  else match s.freeCtx with
    | none => s
    | some i =>
      -- no entry has the index 8192 (R509)
      let c := { freshCtx i s.ck.now with
        state := .binding, pinned := false, farHead := old.farHead, farCtx := old.farCtx, memKey := BitVec.ofNat 32 s.drawnNat
        base := old.base, len := old.len, colonyKey := old.colonyKey, path := 8192, rtoAt := s.ck.now + 50000 }
      ((s.afterDraw.putCtx c).evictOne).sendBinding i

/-- A binding message on context 1 (R484, R485): it completes a binding this head began, or asks for one, which this head
accepts while a path can be had. -/
def State.bindMsg (s : State) (src : Nat) (b : Bytes) : State :=
  let far := fld b 0 2
  let mine := fld b 2 2
  let first := BitVec.ofNat 32 (fld b 4 4)
  let key := BitVec.ofNat 32 (fld b 8 4)
  let colony := fld b 20 1 == 1
  if mine == 0 || mine == 65535 || (mine ≤ 255 && src != s.peerId && mine < 16) then s
  else
    let (s, p) := s.pathFor src (!s.sameApiary src || mine == 6)
    match p with
    | none => s
    | some p =>
      let reply := (s.ctx? mine).any fun c => c.state == .binding && c.farHead == src
      let c := (s.ctx? mine).getD (freshCtx mine s.ck.now)
      let fresh := c.state == .free
      let c' := c.bindTo src far first key colony p s.ck.now
      let c' := if fresh then { c' with
          memKey := BitVec.ofNat 32 s.drawnNat, base := s.drawnNat, len := if mine ≤ 255 then pinnedLen mine else fld b 12 8 } else c'
      let s := (((if fresh then s.afterDraw else s).putCtx c').evictOne).ev0 0x900 .info (le 2 s.headId ++ le 2 mine ++ le 2 src ++ le 2 far)
      let s := if reply then s else s.sendBind c'
      s.pump mine

/-! ## Ends of a connection (R496, R499, R507, R508) -/

/-- The status of a local failure by time, beside the NAK codes: TIMEOUT 0x80, a DRAM error 0x81 (log 6). -/
def statusTimeout : Nat := 0x80

/-- A local completion entry (R493). -/
def Ctx.post (c : Ctx) (id : BitVec 32) (kind status len : Nat) (imm : BitVec 32) (counter : BitVec 64) : Ctx :=
  { c with ring := c.ring ++ [⟨id, c.farHead, c.farCtx, imm, len, kind, status, counter⟩] }

/-- Fail messages: those sent, then the entries queued, each with a kind 3 entry (R499). An entry not begun has the ID it would
have taken. -/
def Ctx.failAll (c : Ctx) (status : Nat) (sent : List SentMsg) : Ctx :=
  let c := sent.foldl (fun x m => x.post m.id 3 status m.entry.len 0 (BitVec.ofNat 64 c.tx)) c
  let c := ((List.range c.sq.length).zip c.sq).foldl (fun (x : Ctx) e =>
    x.post (c.nextSend + BitVec.ofNat 32 e.1) 3 status e.2.len 0 (BitVec.ofNat 64 c.tx)) c
  { c with sq := [], reads := [], sent := c.sent.filter fun m => !(sent.any (·.id == m.id)) }

/-- Groups whose messages went to a head go on over new bindings (R534). -/
def State.resumeTo (s : State) (head : Nat) : State := s.resumeGroups fun g => g.targetHead == head

/-- The connection is marked broken at its sender, from message `m` on (R496, R499). -/
def State.breakSend (s : State) (c : Ctx) (status : Nat) (ms : List SentMsg) : State :=
  let s := s.ctx' c.id fun x => { x.failAll status ms with state := .broken, gaveUp := true }
  ((s.ev0 0x901 .warn (le 2 c.id ++ le 2 c.farHead)).bump 0x090C 0 0 1).resumeTo c.farHead

/-- A context fails (R508): its queue ends with kind 3 entries, E905, and firmware binds a new one. -/
def State.failCtx (s : State) (c : Ctx) (status : Nat) : State :=
  let s := s.ctx' c.id fun x => { x.failAll status x.sent with
    state := .failed, broken := true, placing := [], gaveUp := true }
  (((s.ev0 0x905 .error (le 2 c.id)).bump 0x090C 0 1 1).rebind c).resumeTo c.farHead

/-! ## Answers (R495 to R497) -/

/-- The placed map: bit `i` for the message next visible ID + 1 + i (R495). -/
def Ctx.placedMap (c : Ctx) : BitVec 64 :=
  (List.range 64).foldl (fun m i =>
    let id := c.nextVisible + 1 + BitVec.ofNat 32 i
    if c.placing.any fun x => x.op != 4 && x.id == id && (x.ranges.map (·.2.length)).sum == x.len && !x.ranges.isEmpty then m ||| (1#64 <<< i)
    else m) 0

/-- Send the ACK of a connection (R495). The echoed send time is that of the packet placed last; the residence is 0, since the ACK
leaves within the command that placed it. -/
def State.sendAck (s : State) (id : Nat) (echo : Nat) : State :=
  match s.ctx? id with
  | none => s
  | some c => (s.send (.fack c.farHead c.farCtx c.nextVisible 0 c.placedMap echo)).stat 0x0901
      (b2n ((s.path? c.path).any (·.fabric))) 0 1

/-- Send a NAK for a packet (R496). -/
def State.sendNak (s : State) (p : FPkt) (code off len : Nat) : State :=
  (s.send (.fnak p.srcHead p.srcCtx p.msgId code off len)).stat 0x0901 (b2n (4 ≤ p.port)) 0 1

/-! ## Placement (R490 to R492, R497) -/

/-- Every byte of a message is placed. -/
def RxMsg.whole (m : RxMsg) : Bool := (m.ranges.map (·.2.length)).sum == m.len && !m.ranges.isEmpty || (m.op == 3 && !m.ranges.isEmpty)

/-- The bytes of a whole message. -/
def RxMsg.bytes (m : RxMsg) : Bytes := (m.ranges.sortBy fun a b => a.1 ≤ b.1).flatMap (·.2)

/-- The first byte of a message that is not placed. -/
def RxMsg.gap (m : RxMsg) : Nat :=
  (m.ranges.sortBy fun a b => a.1 ≤ b.1).foldl (fun e r => if r.1 == e then e + r.2.length else e) 0

/-- The end of the placed bytes. -/
def RxMsg.top (m : RxMsg) : Nat := m.ranges.foldl (fun e r => max e (r.1 + r.2.length)) 0

/-- The map of NAK MISSING (R496): a bit is clear for a packet that is missing before `limit`, and set for one that is placed or
is not due (DEDUCED from the worked example, log 62). -/
def missingMap (m : RxMsg) (off limit size : Nat) : Nat :=
  (List.range 64).foldl (fun a i =>
    let o := off + i * size
    if o < limit && !(m.ranges.any (·.1 == o)) then a else a + 2 ^ i) 0

/-- Send NAK MISSING for a gap, unless one was sent within the smoothed RTT (R497). -/
def State.nakMissing (s : State) (p : FPkt) (c : Ctx) (id : BitVec 32) (off map : Nat) : State :=
  let srtt := ((s.path? c.path).map (·.srtt)).getD 0
  if c.naks.any fun n => n.1 == id && n.2.1 == off && s.ck.now < n.2.2 + srtt then s
  else
    let s := s.ctx' c.id fun x => { x with naks := x.naks.filter (fun n => !(n.1 == id && n.2.1 == off)) ++ [(id, off, s.ck.now)] }
    s.sendNak { p with msgId := id } 1 off map

/-- Place a packet in the message it belongs to, and its bytes in the region; contexts 1 to 255 have regions of firmware and of
wax, whose bytes the structured fields stand for (R486, log 60). -/
def State.placePkt (s : State) (c : Ctx) (p : FPkt) (carried : Option ShadowRec) (journal : Option JournalEntry) : State :=
  let m := (c.placing.find? fun x => x.id == p.msgId && (x.op == 4) == (p.op == 4)).getD
    { id := p.msgId, op := p.op, len := p.mlen, imm := p.imm, remote := p.remote, origin := p.origin, ranges := [], solicit := false
      echo := 0, carried := none, journal := none }
  let m := { m with
    ranges := m.ranges.filter (·.1 != p.off) ++ [(p.off, p.payload)], solicit := m.solicit || p.solicit, echo := p.sendTime
    carried := carried.or m.carried, journal := journal.or m.journal }
  let s := s.ctx' c.id fun x => { x with
    placing := x.placing.filter (fun y => !(y.id == m.id && (y.op == 4) == (m.op == 4))) ++ [m], lastUse := s.ck.now }
  let base := if p.op = 4 then ((c.reads.find? (·.1 == p.msgId)).map (·.2.localAddr)).getD 0 else c.base + p.remote
  let s := if c.pinned then s else s.putBytes (base + p.off) p.payload
  s.stat 0x0902 c.id 0 p.payload.length

/-! ## Visibility (R490, R493, R494, R501, R502) -/

/-- Entries of the recent-ID table younger than 100 ms (R501). -/
def State.youngIds (s : State) : List RecentId := s.fg.recent.filter fun r => s.ck.now < r.atNs + 100 * milli

/-- No entry can be made (R502). -/
def State.recentIsFull (s : State) : Bool := s.fg.recent.length ≥ 1048576 && s.youngIds.length ≥ 1048576

/-- A packet that would complete a message while no entry can be made is dropped without an ACK: E906, once until entries age out (R502). -/
def State.dropFull (s : State) : State :=
  if s.fg.recentFull then s else (s.fg' fun g => { g with recentFull := true }).ev0 0x906 .warn []

/-- The completion ring of a context is full (R494). -/
def Ctx.ringFull (c : Ctx) : Bool := c.ringSize ≤ c.ring.length

/-- A record of the peer's sequence is written into the mirror ring or the shadow half at its offset, over what lay there; a PAD record
has no ordinal (R166, R172, R179). A taken-over mirror record that this head still has to land stays, even where a rejoined peer's record
has its lines: the spec does not say which of the two stands (R172, R177; DESIGN CHOICE, log 93). -/
def State.takeMirrored (s : State) (r : ShadowRec) : State :=
  -- what the tables that a rejoining head has taken over hold already is not applied again (R266, R565)
  let r := { r with applied := r.applied || (r.body != .pad && r.ordinal ≤ s.fl.peerCovered) }
  let s := s.wx' fun w => { w with
    shadow := (w.shadow.filter fun x => x.ordinal != r.ordinal && (x.mine && x.live || !(x.ring == r.ring && overlaps r.off r.units x.off x.units))) ++
      (if r.body == .pad then [] else [r])
    shPads := (w.shPads.filter fun p => !(p.1 == r.ring && overlaps r.off r.units p.2.1 p.2.2)) ++
      (if r.body == .pad then [(r.ring, r.off, r.units)] else []) }
  (s.stat 0x0202 (if r.ring == .data then 1 else 3) 0 (64 * r.units)).applyShadow

/-- A journal entry of the peer is written into the shadow half at its offset (R224). -/
def State.takeEntry (s : State) (e : JournalEntry) : State :=
  (s.wx' fun w => { w with
    shJournal := (w.shJournal.filter fun x => x.seq != e.seq && !overlaps e.off e.units x.off x.units) ++ [e] }).stat 0x0202 6 0 (64 * e.units)

/-- A context of the Rejoin copy and of the records sent at pair join (R183, R565). -/
def isCopyCtx (id : Nat) : Bool := 9 ≤ id && id ≤ 15

/-- What a message that becomes visible brings with it: a mirrored record or journal entry (R172, R224), one that is copied at pair join
or in Rejoin (R183, R185, R812), or a binding message. -/
def State.visibleEffect (s : State) (c : Ctx) (m : RxMsg) : State :=
  let copying := isCopyCtx c.id && s.pr.rejoin.isSome && s.comingBack
  let s := match m.carried with
    | some r =>
      if c.id == 2 || c.id == 3 || copying then s.takeMirrored r
      else if isCopyCtx c.id && s.wx.tailTo.isSome then s.takeCopied r
      else s
    | none => s
  let s := match m.journal with
    | some e => if c.id == 4 || copying then s.takeEntry e else s
    | none => s
  if c.id == 1 && m.op == 2 then s.bindMsg c.farHead m.bytes else s

/-- Send the READ_RESP of a READ_REQ (R493, R498): the bytes that were read of its range. -/
def State.sendResp (s : State) (c : Ctx) (m : RxMsg) (again : Bool) : State :=
  s.sendPackets c { op := 4, id := m.id, len := m.len, remote := 0, imm := 0, origin := m.origin
                    cuts := m.ranges, again := again, solicit := true } fun _ => true

/-- A READ_REQ became visible: its range is read and returned, and the connection waits for the acknowledgement (R493, R498). -/
def State.answerRead (s : State) (c : Ctx) (m : RxMsg) : State :=
  let size := s.payloadOf ((s.path? c.path).any (·.fabric))
  let m := { m with origin := s.ck.now, ranges := packetCuts size (s.bytesAt (c.base + m.remote) m.len) }
  let s := s.ctx' c.id fun x => { x with readWait := some m, rtoAt := if x.sent.isEmpty then s.ck.now + x.rto else x.rtoAt }
  s.sendResp c m false

/-- Make messages visible in order; the fuel bounds their number (R490). -/
def State.showAux (s : State) (id : Nat) : Nat → State
  | 0 => s
  | n + 1 => match s.ctx? id with
    | none => s
    | some c => match c.placing.find? fun m => m.op != 4 && m.id == c.nextVisible && m.whole with
      | none => s
      | some m =>
        if c.readWait.isSome || s.recentIsFull then s
        else if m.op == 2 && c.ringFull then s
        else
          let c' := { c with
            placing := c.placing.filter fun x => !(x.op != 4 && x.id == m.id), rx := c.rx + 1, nextVisible := c.nextVisible + 1
            naks := c.naks.filter fun k => k.1 != m.id }
          let c' := if m.op = 2 then c'.post m.id 0 0 m.len m.imm (BitVec.ofNat 64 c'.rx) else c'
          let s := s.putCtx c'
          let young := if s.fg.recent.length ≥ 1048576 then s.youngIds else s.fg.recent
          let s := s.fg' fun g => { g with recent := young ++ [⟨c.farHead, c.farCtx, m.id, s.ck.now⟩] }
          let s := (s.stat 0x0902 id 1 1).visibleEffect c m
          let s := if m.op = 3 then s.answerRead c' m else s
          s.showAux id n

/-- Make visible what may be, and acknowledge it when the next visible ID rose or a packet asked for it (R495). -/
def State.showMsgs (s : State) (id echo : Nat) (asked : Bool) : State :=
  match s.ctx? id with
  | none => s
  | some c =>
    let t := s.showAux id (c.placing.length + 1)
    let rose := (t.ctx? id).any fun x => x.nextVisible != c.nextVisible
    let t := if rose || asked then t.sendAck id echo else t
    if rose then t.pumpAll else t

/-- Firmware consumes the completion entries of every context once in a tick, and the rings have drained (R494; that it does so
then is DESIGN CHOICE, log 62). -/
def State.drainRings (s : State) : State :=
  let full := (s.fg.ctxs.filter (·.ringFull)).map (·.id)
  let s := s.fg' fun g => { g with ctxs := g.ctxs.map fun c => { c with ring := [], ringFullSaid := false } }
  full.foldl (fun t i => t.showMsgs i 0 false) s

/-! ## Arrival (R479 to R481) -/

/-- A head of this head's colony, or the peer (R479). -/
def State.knowsHead (s : State) (h : Nat) : Bool :=
  h == s.peerId || (s.co.member &&
    (if s.co.queenHead then s.co.members.any (fun m => !m.vacated && (m.headA == h || m.headB == h))
     else s.co.apiaries.any fun a => a.2.1 == h || a.2.2.1 == h))

/-- A packet is a stranger (R479). -/
def State.stranger (s : State) (p : FPkt) : Bool :=
  let k := s.classFor p.srcHead
  let keys := (k.cur.toList ++ k.prev.toList).map (·.2)
  !(keys.any fun x => p.cmac x == p.tag) || p.dstHead != s.headId || !s.knowsHead p.srcHead

/-- The payload fits its message, and every packet but the last is of a full payload (R476, R477, R480). -/
def FPkt.fits (p : FPkt) : Bool :=
  p.payload.length == p.plen && p.plen ≤ 8192 && p.mlen ≤ 4194304 &&
    (if p.op = 3 then p.plen == 0 && p.off == 0 && p.last
     else p.off + p.plen ≤ p.mlen &&
      (if p.last then p.off + p.plen == p.mlen else p.plen == 8192 || (4 ≤ p.port && (p.plen == 1024 || p.plen == 4096))))

/-- A packet that carries its body in one payload of 32 bytes, as ACK and NAK do (R495, R496). -/
def FPkt.fitsAnswer (p : FPkt) : Bool := p.payload.length == p.plen && p.plen == 32

/-- Checks 7 to 11, and placement (R480, R490). -/
def State.arrive7 (s : State) (p : FPkt) (carried : Option ShadowRec) (journal : Option JournalEntry) : State :=
  match s.ctx? p.dstCtx with
  | none => s.sendNak p 3 0 0
  | some c =>
    if c.state == .failed then s.sendNak p 8 0 0
    else if c.state == .free || c.state == .binding || c.farHead != p.srcHead || c.farCtx != p.srcCtx then s.sendNak p 3 0 0
    else if c.broken then s.sendNak p 4 0 0
    else if isMirrorCtx c.id && s.pr.declared then s
    else if p.op = 4 then
      match c.reads.find? (·.1 == p.msgId) with
      | none =>
        -- the READ_RESP of a READ_REQ that has its answer is a duplicate (R480, R501)
        if idGe p.msgId c.nextSend then s
        else (s.stat 0x0904 0 0 1).send (.fack c.farHead c.farCtx (p.msgId + 1) 0 0 p.sendTime)
      | some r =>
        if p.off + p.plen > r.2.len then s.sendNak p 2 0 0
        else
          let s := s.placePkt c p none none
          match (s.ctx? c.id).bind fun x => x.placing.find? fun m => m.op == 4 && m.id == p.msgId && m.whole with
          | none => s
          | some m =>
            if c.ringFull then
              let s := (s.sendNak p 7 0 (s.drawnNat % 2 ^ 32)).afterDraw
              if c.ringFullSaid then s
              else (s.ctx' c.id fun y => { y with ringFullSaid := true }).ev0 0x907 .warn (le 2 c.id)
            else
              let s := s.ctx' c.id fun x =>
                let y := { x with
                  placing := x.placing.filter fun k => !(k.op == 4 && k.id == m.id), reads := x.reads.filter (·.1 != m.id), rx := x.rx + 1 }
                y.post m.id 1 0 m.len 0 (BitVec.ofNat 64 y.rx)
              ((s.stat 0x0902 c.id 1 1).send (.fack c.farHead c.farCtx (m.id + 1) 0 0 p.sendTime)).pumpAll
    else if c.memKey == 0 || p.memKey != c.memKey || p.remote + p.mlen > c.len then (s.sendNak p 5 0 0).bump 0x090B 0 0 1
    else if !idGe p.msgId c.nextVisible then s.bump 0x090A 0 0 1
    else if (p.msgId - c.nextVisible).toNat ≥ 4096 then s.sendNak p 6 0 c.nextVisible.toNat
    else
      let before := (c.placing.find? fun x => x.op != 4 && x.id == p.msgId).map (·.ranges)
      let would := ((before.getD []).filter (·.1 != p.off)).map (·.2.length)
      if s.recentIsFull && (would.sum + p.plen == p.mlen || p.op == 3) then
        s.dropFull
      else
        let s := s.placePkt c p carried journal
        let size := s.payloadOf (4 ≤ p.port)
        let s := match (s.ctx? c.id).bind fun x => x.placing.find? fun m => m.op != 4 && m.id == p.msgId with
          | some m => if m.gap < p.off && !m.whole then s.nakMissing p c p.msgId m.gap (missingMap m m.gap m.top size) else s
          | none => s
        let s := if p.off = 0 && p.msgId != c.nextVisible then
            let prev := p.msgId - 1
            match c.placing.find? fun m => m.op != 4 && m.id == prev with
            | some m => if m.whole then s else s.nakMissing p c prev m.gap (missingMap m m.gap m.len size)
            | none => s.nakMissing p c prev 0 0
          else s
        let s := s.showMsgs c.id p.sendTime p.solicit
        match s.ctx? c.id with
        | none => s
        | some x =>
          if p.op == 2 && x.ringFull && x.placing.any (fun m => m.op != 4 && m.id == p.msgId) then
            let s := (s.sendNak p 7 0 (s.drawnNat % 2 ^ 32)).afterDraw
            if x.ringFullSaid then s
            else (s.ctx' c.id fun y => { y with ringFullSaid := true }).ev0 0x907 .warn (le 2 c.id)
          else s

/-- What a packet must be before the tables of contexts are asked (R20, R24, R480): of EtherType 0x88B5 on a peer link, on the active port
of its pair and of FORAGE_UDP_PORT on the fabric; then checks 1 to 4, `fits` being the third. A packet on a standby port is not taken, one
of another EtherType or UDP port counts as malformed (log 87). It answers whether the packet passes. -/
def State.checkPkt (s : State) (p : FPkt) (fits : Bool) : State × Bool :=
  let s := s.stat 0x0901 (b2n (4 ≤ p.port)) 1 1
  if 4 ≤ p.port && !s.fabricOn ((p.port - 4) / 2) ((p.port - 4) % 2) then (s, false)
  else if if 4 ≤ p.port then p.udp != s.setting 0x05000101 else p.ether != 0x88B5 then (s.bump 0x0909 0 0 1, false)
  else if !p.magicOk then (s.bump 0x0909 0 0 1, false)
  else if s.stranger p then ((s.bump 0x0908 p.port 0 1).ev0 0x903 .warn (le 2 p.srcHead ++ le 1 p.port), false)
  else if !fits then ((s.bump 0x0909 0 0 1).sendNak p 2 0 0, false)
  else if s.isAligned && p.origin + 100 * milli < s.ck.now then (s.bump 0x090A 0 0 1, false)
  else (s, true)

/-- A packet of op 0x01 to 0x04 arrives: the checks of R480 in their order. -/
def State.arrive (s : State) (p : FPkt) (carried : Option ShadowRec) (journal : Option JournalEntry) : State :=
  let (s, admitted) := s.checkPkt p p.fits
  if !admitted then s
  else if p.op != 4 && s.youngIds.any (fun r => r.head == p.srcHead && r.ctx == p.srcCtx && r.id == p.msgId) then
    (s.stat 0x0904 0 0 1).sendAck p.dstCtx p.sendTime
  else if p.dstCtx == 1 && p.srcHead != s.peerId && p.op == 2 && p.last && p.off == 0 then
    if s.recentIsFull then s.dropFull else
    let s := s.fg' fun g => { g with recent := s.youngIds ++ [⟨p.srcHead, p.srcCtx, p.msgId, s.ck.now⟩] }
    (s.send (.fack p.srcHead p.srcCtx (p.msgId + 1) 0 0 p.sendTime)).bindMsg p.srcHead p.payload
  else match s.ctx? p.dstCtx with
    | some c =>
      if c.resident then s.arrive7 p carried journal
      else if s.fg.holding.length ≥ 4096 || (s.fg.holding.filter (·.dstCtx == c.id)).length ≥ 512 then s.stat 0x0906 c.id 0 1
      else s.fg' fun g => { g with holding := g.holding ++ [p] }
    | none => s.arrive7 p carried journal

/-! ## Congestion (R512, R513) -/

/-- The window of R513 after an ACK: `d` queuing delay, `t` the target, `newly` bytes newly acknowledged, `may` no decrease within
the last smoothed RTT, `floor` one payload. The result is whole bytes, rounded down as in the worked example. -/
def windowNext (w d t newly : Nat) (may : Bool) (floor : Nat) : Nat :=
  let v := if d ≤ t then w + 8192 * newly / w
    else if may then max (w * (2 * d + 8 * t) / (10 * d)) (w / 2)
    else w
  min (max v floor) 4194304

/-- Target queuing delay T (R513). -/
def targetDelay : Nat := 20000

/-- An RTT sample and newly acknowledged bytes update a path (R512, R513). -/
def State.samplePath (s : State) (path rtt newly : Nat) : State :=
  match s.path? path with
  | none => s
  | some p =>
    let samples := (p.baseSamples.filter fun x => s.ck.now < x.1 + 10 * second) ++ [(s.ck.now, rtt)]
    let base := (samples.map (·.2)).foldl min rtt
    let srtt := if p.srtt = 0 then rtt else (7 * p.srtt + rtt) / 8
    let d := rtt - base
    let may := p.lastDec.all fun t => t + srtt ≤ s.ck.now
    let dec : Bool := targetDelay < d && may
    let s := s.path' path fun x => { x with
      srtt := srtt, baseSamples := samples, w := windowNext x.w d targetDelay newly may (s.payloadOf x.fabric)
      lastDec := if dec then some s.ck.now else x.lastDec, lastUse := s.ck.now }
    if dec then s.stat 0x0907 path 0 1 else s

/-- The RTO of a connection (R498). -/
def State.rtoOf (s : State) (path : Nat) : Nat := max 50000 (2 * ((s.path? path).map (·.srtt)).getD 0)

/-- Resend messages of a context with RETRANSMIT (R492, R498). -/
def State.resendMsgs (s : State) (c : Ctx) (ms : List SentMsg) : State :=
  ms.foldl (fun t m =>
    if isMirrorCtx c.id then t.send (if c.id = 4 then .mirrorEntry m.entry.cookie.toNat else .mirror m.entry.cookie.toNat)
    else t.sendPackets c (m.entry.msg m.id m.origin m.size true) fun _ => true) s

end Sys2Proof.Machine
end

