-- ==== Sys2Proof/Machine/UpdOps.lean ====
section
/-! DEFINITION. Field update (17): code flash banks (R631, R632), the update package and its assembly (R645 to R653), the refusals of
R654, and the fallback of a trial (R659, R660). -/

namespace Sys2Proof.Machine

/-! ## Code flash banks (R631, R632) -/

/-- Bytes of a bank (R631). -/
def bankSize : Nat := 134217728

/-- A bank as its bytes say (R631). -/
def parseBank (r : Bytes) : BankImg :=
  { magicOk := fld r 0 4 == 0x4B4E4142 && fld r 4 1 == 1, version := fld r 8 4, security := fld r 12 4, loaderOff := fld r 16 4
    loaderLen := fld r 20 4, mainOff := fld r 24 4, mainLen := fld r 28 4, loaderDigest := slice r 32 48, mainDigest := slice r 80 48
    sig := slice r 192 96, header := slice r 0 288, data := r }

/-- The loader and the main firmware lie within the bank and overlap neither the header nor each other (R631, R632). -/
def BankImg.layoutOk (b : BankImg) : Bool :=
  b.loaderOff % 4096 == 0 && b.mainOff % 4096 == 0 && 4096 ≤ b.loaderOff && 4096 ≤ b.mainOff && b.loaderLen ≤ 2 * 2 ^ 20 &&
    b.mainLen ≤ 120 * 2 ^ 20 && b.loaderOff + b.loaderLen ≤ bankSize && b.mainOff + b.mainLen ≤ bankSize &&
    (b.loaderOff + b.loaderLen ≤ b.mainOff || b.mainOff + b.mainLen ≤ b.loaderOff)

/-- Bytes of a bank; what was never programmed reads 0xFF (PRESUMED, log 70). -/
def BankImg.bytesAt (b : BankImg) (off n : Nat) : Bytes :=
  let have_ := slice b.data off n
  have_ ++ List.replicate (n - have_.length) 0xFF

/-- The five checks of R632. -/
def BankImg.checks (b : BankImg) (fusedMin : Nat) : Bool :=
  b.magicOk && b.layoutOk && fusedMin ≤ b.security && b.security ≤ 64 &&
    p384Verify Config.vendorKey (sha384 (b.header.take 192)) b.sig && sha384 (b.bytesAt b.loaderOff b.loaderLen) == b.loaderDigest

/-- The main digest holds (R632, R656). -/
def BankImg.mainOk (b : BankImg) : Bool := sha384 (b.bytesAt b.mainOff b.mainLen) == b.mainDigest

/-- A bank of the code flash. -/
def State.bank (s : State) (i : Nat) : BankImg := (s.bt.banks[i]?).getD default

/-- The bank that is not executing (R633). -/
def State.otherBank (s : State) : Nat := 1 - s.bt.executing % 2

/-! ## Assembly (R646, R647, R653) -/

/-- What is left of an assembly: operations, package bytes, and the result so far; `bad` when an operation is malformed. -/
structure Assembly where
  /-- Operations not yet wholly applied. -/
  left : Nat
  /-- Package bytes after those applied. -/
  rest : Bytes
  /-- Result bytes (R646). -/
  result : Bytes
  /-- An operation is malformed (R647). -/
  bad : Bool

/-- Apply operations in order as far as their bytes have arrived (R646, R653). -/
def assembleAux (bank : BankImg) (limit : Nat) : Nat → Bytes → Bytes → Assembly
  | 0, rest, acc => ⟨0, rest, acc, false⟩
  | n + 1, rest, acc =>
    if rest.length < 16 then ⟨n + 1, rest, acc, false⟩
    else
      let len := fld rest 4 4
      let arg := fld rest 8 4
      let after := rest.drop 16
      if len = 0 || limit < acc.length + len then ⟨n + 1, rest, acc, true⟩
      else match fld rest 0 1 with
        | 1 => if bankSize < arg + len then ⟨n + 1, rest, acc, true⟩
          else assembleAux bank limit n after (acc ++ bank.bytesAt arg len)
        | 2 => if after.length < roundUp len 4 then ⟨n + 1, rest, acc ++ after.take len, false⟩
          else assembleAux bank limit n (after.drop (roundUp len 4)) (acc ++ after.take len)
        | 3 => assembleAux bank limit n after (acc ++ List.replicate len (BitVec.ofNat 8 arg))
        | _ => ⟨n + 1, rest, acc, true⟩

/-- The assembly of the bytes received. -/
def assemble (bank : BankImg) (pkg : Bytes) : Assembly := assembleAux bank (fld pkg 64 4) (fld pkg 68 4) (pkg.drop 128) []

/-- Every operation is applied, their lengths sum to the result length, and they end 4 bytes before the package's end, where its CRC stands
(R645, R647, R656; that a package whose CRC fails is not complete is DEDUCED, log 70). -/
def Assembly.complete (a : Assembly) (pkg : Bytes) : Bool :=
  a.left == 0 && !a.bad && a.result.length == fld pkg 64 4 && a.rest.length == 4 && a.rest == crcBytes (pkg.take (pkg.length - 4))

/-- The package header's checks (R651). -/
def headerFits (pkg : Bytes) (base : Nat) (exec : BankImg) : Bool :=
  fld pkg 0 4 == 0x41445055 && fld pkg 4 1 == 1 && crcBytes (pkg.take 124) == slice pkg 124 4 &&
    (if base = 0 then fld pkg 5 1 == 1 else fld pkg 5 1 == 0 && slice pkg 16 48 == sha384 exec.header)

/-! ## Refusals (R654, R667) -/

/-- The peer is in a mode that accepts work. -/
def State.peerAccepts (s : State) : Bool := s.pr.peerMode.any acceptsMode && !s.peerAway

/-- This head is in a mode that accepts work. -/
def State.selfAccepts (s : State) : Bool := s.md.mode.any acceptsMode

/-- The pair lock (R667). -/
def State.pairLock (s : State) : Bool := s.pr.peerTrial || (!s.peerAccepts && !s.isDrained)

/-- The refusals of R654 in their order; a recovery start leaves the first two rows out. -/
def State.updRefusal (s : State) (begins activates : Bool) : Option VStatus :=
  if !s.md.recovery && (s.inMode .takeover || s.pr.peerMode == some .takeover) then some .refusedTakeover
  else if !s.md.recovery && s.reshaping then some .refusedReshape
  else if s.pw.holdup < s.setting 0x0A000001 then some .refusedHoldup
  else if (begins || activates) && s.up.lock then some .refusedOwnerLock
  else if begins && s.co.member && !s.co.gateOpen then some .refusedOwnerLock
  else if activates && s.pairLock then some .refusedOwnerLock
  else none

/-- This head runs its trial bank (R658). -/
def State.onTrial (s : State) : Bool := s.up.trial.any (·.1 == s.bt.executing)

/-- Tell the queen of an update's state (R660, R662, R669). -/
def State.tellUpdate (s : State) (version : Nat) (pend fallback : Bool) : State :=
  if s.co.member then s.send (.col 0xFFFF (.updateState version pend fallback)) else s

/-- The same once a record is accepted (R657). -/
def State.updateTold (s : State) (version : Nat) (pend fallback : Bool) : List After :=
  if s.co.member then [.col 0xFFFF (.updateState version pend fallback)] else []

/-! ## Fallback (R659, R660) -/

/-- The fallback of R660: BANK_SELECT of the other bank, EE04, UPDATE_STATE, silence and a reset; its reset cause is that of RESTART
(DESIGN CHOICE, log 70). -/
def State.fallBack (s : State) : State :=
  let b := s.otherBank
  let v := (s.bank b).version
  let s := s.bankSelect b 0 1 v s.ck.tick
  let s := s.up' fun u => { u with trial := none, fallbackDue := false }
  let s := ((s.ev0 0xE04 .error (le 1 b ++ le 4 v)).bump 0x0E05 0 1 1).tellUpdate v false true
  s.silence.resetNow 3

/-- A trial is to fall back: not while this head is the only one of the apiary that accepts work (R660). -/
def State.orderFallback (s : State) : State :=
  if s.selfAccepts && !s.peerAccepts then
    if s.up.fallbackDue then s else (s.up' fun u => { u with fallbackDue := true }).ev0 0xE05 .critical []
  else s.fallBack

/-- The first tick at which the peer accepts work again (R660). -/
def State.fallbackTick (s : State) : State := if s.up.fallbackDue && s.onTrial && s.peerAccepts then s.fallBack else s

end Sys2Proof.Machine
end

