-- ==== Sys2Proof/Machine/WireOps.lean ====
section
/-! DEFINITION. Virkan packets as bytes (R75 to R80), the replies that NVMe and SB hold until they are fetched (R76, R82, R94), and
the sideband's status word and interrupts (R773, R778). -/

namespace Sys2Proof.Machine

/-! ## Held replies as packets (R76, R94) -/

/-- Most payload bytes of a part on NVMe and SB (R76). -/
def maxPart : Nat := 1048576 - 36

/-- The next part of a reply: CONTINUED when more remains (R76). -/
def VReply.next (r : VReply) : Bytes := r.packet (r.payload.take maxPart) (maxPart < r.payload.length)

/-- The part of a held reply has been fetched: what remains stays held; when nothing does, it is gone, and a final reply ends its
request's being outstanding (R76, R94). -/
def State.fetched (s : State) (h : HeldReply) : State :=
  if maxPart < h.rep.payload.length then
    s.vk' fun v => { v with held := v.held.map fun x => if x == h then { h with rep := { h.rep with payload := h.rep.payload.drop maxPart } } else x }
  else
    let s := s.vk' fun v => { v with held := v.held.erase h }
    if !h.own || !h.rep.status.final then s
    else s.session' h.rep.session fun x => { x with outstanding := x.outstanding.erase h.rep.tag }

/-! ## Requests as packets (R77 to R80) -/

/-- The TLVs of a parameter block; none when they do not fill it (R78). -/
def parseTlvs : Nat → Bytes → Option (List Tlv)
  | _, [] => some []
  | 0, _ => none
  | n + 1, bs =>
    if bs.length < 4 then none
    else
      let len := fld bs 2 2
      let whole := 4 + roundUp len 4
      if bs.length < whole then none
      else (parseTlvs n (bs.drop whole)).map
        ((⟨fld bs 0 2 / 32768 == 1, fld bs 0 2 % 32768, slice bs 4 len⟩ : Tlv) :: ·)

/-- An MG trailer passes under the current management key, or under the previous one for 60 s after a change (R83, R688). -/
def State.mgTrailerOk (s : State) (body trailer : Bytes) : Bool :=
  let passes := fun (k : Bytes) => !k.isEmpty && (aesCmac k body).take 8 == trailer
  passes s.mgKey || (s.ck.now ≤ s.ks.mgmt.changedAt + 60 * second && s.ks.mgmt.prev.any fun g => passes g.2)

/-- Steps 1 of R77: the magic and the header CRC. -/
def headerFault (bs : Bytes) : Option VStatus :=
  if fld bs 0 2 != 0x564B then some .badMagic
  else if bs.length < 32 || crcBytes (bs.take 28) != slice bs 28 4 then some .badHeaderCrc
  else none

/-- Steps 2 to 5 of R77, or the request. -/
def State.parseRequest (s : State) (via : Transport) (bs : Bytes) : Except VStatus VReq :=
  let pl := fld bs 12 4
  let yl := fld bs 16 4
  let params := slice bs 32 pl
  let payload := slice bs (32 + pl) yl
  let body := 32 + pl + yl + 4
  if fld bs 2 1 != 1 then .error .badVersion
  else if 1048576 < bs.length then .error .tooLarge
  else match if bs.length != body + via.trailer || pl % 4 != 0 then none else parseTlvs params.length params with
    | none => .error .lengthMismatch
    | some ts =>
      if via.trailer != 0 && !s.mgTrailerOk (bs.take body) (bs.drop body) then .error .badCmac
      else if crcBytes (params ++ payload) != slice bs (32 + pl + yl) 4 then .error .badBodyCrc
      else .ok ⟨via, fld bs 24 4, fld bs 8 4, fld bs 20 4, ts, payload⟩

/-! ## The sideband's status and interrupts (R773, R778) -/

/-- SB_STATUS (R773). -/
def State.sbStatus (s : State) : BitVec 32 :=
  BitVec.ofNat 32 ((s.md.mode.map modeN).getD 0 + 2 ^ 4 * (s.bt.step % 16) + 2 ^ 8 * b2n s.md.recovery + 2 ^ 9 * b2n (s.ks.sealState == 2) +
    2 ^ 10 * b2n (s.pw.alarmStands != 0) + 2 ^ 11 * b2n s.md.halted + 2 ^ 12 * b2n s.pw.padsHeld +
    2 ^ 13 * b2n (!s.pw.waggleEnable) + 2 ^ 14 * s.ck.align + 2 ^ 16 * s.pw.alarm.toNat + 2 ^ 20 * (s.pw.resetCause % 8))

/-- A cause of SB_INT_STATUS rises; a new one that is enabled raises an in-band interrupt (R771, R778). -/
def State.sbCause (s : State) (bit : Nat) : State :=
  let m := 1#32 <<< bit
  if s.sb.intStatus &&& m != 0 then s
  else
    let s := s.sb' fun b => { b with intStatus := b.intStatus ||| m }
    if s.sb.intEn &&& m != 0 && s.sb.events.getLsbD 0 && s.sb.dynAddr.isSome then s.send (.ibi (s.sb.intStatus.extractLsb' 0 8)) else s

/-- STATUS_CHANGE rises when SB_STATUS is not what it was (R778). -/
def State.judgeStatus (s : State) : State :=
  let st := s.sbStatus
  if st == s.sb.lastStatus then s else (s.sb' fun b => { b with lastStatus := st }).sbCause 2

/-- The next value of a bank pointer in Gray code: 00, 01, 11, 10 (R775). -/
def grayNext (p : BitVec 2) : BitVec 2 := match p with
  | 0 => 1 | 1 => 3 | 3 => 2 | _ => 0

/-- The value before. -/
def grayPrev (p : BitVec 2) : BitVec 2 := match p with
  | 0 => 2 | 1 => 0 | 3 => 1 | _ => 3

/-- A mailbox fault (R776): its bit, MBX_ERROR, EF08 and its counter. -/
def State.mbxFault (s : State) (bit : Nat) : State :=
  let s := s.sb' fun b => { b with mbxError := b.mbxError ||| (1#32 <<< bit) }
  ((s.sbCause 3).ev0 0xF08 .warn (le 1 bit)).bump 0x0F08 bit 0 1

/-- Put the next held reply of SB into the reply FIFO when the FIFO is empty (R85, R774). -/
def State.sbLoad (s : State) : State :=
  if !s.sb.rsp.isEmpty || s.deaf .sb then s
  else match s.vk.held.find? (·.via == .sb) with
    | none => s
    | some h => (s.sb' fun b => { b with rsp := [h.rep.next], rspOf := some h, rspWptr := grayNext b.rspRptr }).sbCause 0

/-- The sentinel's reset (R769, R770): it silences the waggles, writes its last-gasp record and resets the device. -/
def State.sentinelReset (s : State) (code : Nat) (sev : Severity) (cause : Nat) : State :=
  (s.silence.lastGasp code sev []).resetNow cause

/-- A wake cause is latched while the head sleeps or enters a sleep (R756, R761, R764): bit 0 WAKE_N, 1 SB_WAKE, 2 Tj, 3 the
HOLDUP_SENSE reserve (log 72). -/
def State.latchWake (s : State) (bit : Nat) : State :=
  if s.pw.sleep.isSome || s.md.entering.isSome then s.pw' fun p => { p with wakeCause := p.wakeCause ||| (1#8 <<< bit) } else s

/-- The alignment state that the sources give now (R750): Sync within 2 s with the offset at or below 2 µs; else the peer's tick, by
a peer that is PTP_LOCKED or is side A, with a message on context 5 within 100 ms; else HOLDOVER for 30 s. A head that has had
neither since its start is FREE (log 80). -/
def State.alignNow (s : State) : Nat :=
  let ptp := (s.ck.lastSync.any fun t => s.ck.now ≤ t + 2 * second) && s.ck.offset.natAbs ≤ 2000
  let near := s.ck.lastCtx5.any fun t => s.ck.now ≤ t + 100 * milli
  if ptp then 0
  else if near && (s.ck.peerAlign == 0 || s.pr.side == .b) then 1
  else if s.ck.align == 3 || (s.ck.align == 2 && s.ck.alignSince + 30 * second < s.ck.now) then 3
  else 2

/-- Judge the alignment state: EF00 at each change, EF01 on HOLDOVER, EF02 on FREE (R750, R751). A head whose tick epoch was lost
takes it when its time is first aligned (R753). -/
def State.judgeAlign (s : State) : State :=
  let a := s.alignNow
  let s := if a = 0 && s.ck.epochLost && s.wx.replayed then
      s.ck' fun c => { c with tickEpoch := some (c.now / milli - c.tick), epochLost := false }
    else s
  if a = s.ck.align then s
  else
    let s := (s.ev0 0xF00 .info (le 1 s.ck.align ++ le 1 a ++ le 8 (s.ck.offset % 2 ^ 64).toNat)).ck' fun c => { c with
      align := a, alignSince := s.ck.now }
    if a = 2 then s.ev0 0xF01 .warn [] else if a = 3 then s.ev0 0xF02 .error [] else s

/-- A waggle on the peer path: what it tells of the peer's alignment state is a free value (log 80). -/
def State.peerAligned (s : State) : State :=
  let a := s.drawnNat % 4
  (s.afterDraw.ck' fun c => { c with peerAlign := a }).judgeAlign

/-- Release the latched pads (R766). -/
def State.releasePads (s : State) : State :=
  if s.pw.padsHeld then (s.pw' fun p => { p with padsHeld := false }).send (.pads false) else s

end Sys2Proof.Machine
end

