-- ==== Sys2Proof/Machine/StartOps.lean ====
section
/-! DEFINITION. A start (16): failure counts and attempts (R621, R622), the boot steps (R612 to R616, R623 to R627), the bank choice of
step 3 (R632, R658, R659), and what a start leaves to the ticks after it (R616, R624, R666, R769). -/

namespace Sys2Proof.Machine

/-! ## The ledger's account (R621, R622) -/

/-- Steps that are not optional (R612). -/
def mandatory (k : Nat) : Bool := k != 12 && k != 13

/-- Steps that have an alternative (R612). -/
def hasAlternative (k : Nat) : Bool := 3 ≤ k && k ≤ 11

/-- What a start's records say of a step: 0 it did not run, 1 it passed, 2 it failed, 3 it was skipped (R621). -/
def stepResult (rs : List LedgerRec) (k : Nat) : Nat :=
  let starts := (rs.filter fun r => r.kind == 0x01 && r.step == k).length
  let ends := rs.filter fun r => r.kind == 0x02 && r.step == k
  if (ends.filter (·.outcome != 2)).length < starts then 2
  else match ends.getLast? with
    | none => 0
    | some r => if r.outcome == 1 then 2 else if r.outcome == 2 then 3 else 1

/-- Consecutive starts, newest first, in which a step failed; one in which it was skipped neither adds nor ends (R621). -/
def failRun (rs : List LedgerRec) (k : Nat) : List Nat → Nat
  | [] => 0
  | n :: ns => match stepResult (rs.filter (·.start == n)) k with
    | 2 => 1 + failRun rs k ns
    | 3 => failRun rs k ns
    | _ => 0

/-- The failure count of a step: a CLEAR record sets it to 0 (R621, R628). -/
def failCount (ledger : List LedgerRec) (k : Nat) : Nat :=
  let rs := (ledger.reverse.takeWhile (·.kind != 0x06)).reverse
  failRun rs k (dedupBy (rs.map (·.start))).reverse

/-- The BOOT_BEGIN of the start in force. -/
def State.bootBegin (s : State) : Option LedgerRec := (s.bt.ledger.filter (·.kind == 0x00)).getLast?

/-- The failure count that the BOOT_BEGIN of this start gives a step (R622). -/
def State.countOf (s : State) (k : Nat) : Nat := fld (((s.bootBegin).map (·.detail)).getD []) (1 + k) 1

/-- The attempt of a step (R618, R622). -/
def State.attemptOf (s : State) (k : Nat) : Nat :=
  if s.md.safe then (if hasAlternative k then 2 else 0) else if s.countOf k = 1 && hasAlternative k then 1 else 0

/-- An optional step with a failure count is skipped (R622). -/
def State.skips (s : State) (k : Nat) : Bool := !mandatory k && s.countOf k ≥ 1

/-- What START said of a step; nothing said is a pass. -/
def State.planOf (s : State) (k : Nat) : StepPlan := (s.bt.plan.find? (·.step == k)).getD ⟨k, false, false, 0, 0⟩

/-! ## Steps (R612, R613, R620, R623) -/

/-- A STEP_FINISH record, and T5 extended by its bytes (R638, R639). -/
def State.finishStep (s : State) (k outcome attempt failCode dur : Nat) (detail : Bytes) : State :=
  let s := s.ledgerRec 0x02 k outcome attempt failCode dur detail
  match s.bt.ledger.getLast? with
  | some r => s.extend 5 k 0x02 (r.seq % 2 ^ 32) r.bytes
  | none => s

/-- A step begins: SB_STATUS shows it, and its STEP_START is written. -/
def State.beginStep (s : State) (k attempt : Nat) : State :=
  (s.bt' fun b => { b with step := k }).ledgerRec 0x01 k 0 attempt 0 0 []

/-- A mandatory step has failed: the watchdog resets the device, after the deadline or at the fail the step found itself (R613; the
latter is DEDUCED, log 80). -/
def State.bootReset (s : State) : State := s.sentinelReset 0xF06 .fatal 2

/-- A step fails by itself: its cause is a free value (log 80). -/
def State.stepFails (s : State) (k attempt dur : Nat) : State :=
  let code := 1 + s.drawnNat % 65535
  s.afterDraw.finishStep k 1 attempt code dur []

/-- A step passes: degraded by its alternative, in a safe start, or with a unit gated; ED02 from step 8 on (R623, R625). -/
def State.stepPasses (s : State) (k attempt dur : Nat) (detail : Bytes) : State :=
  let deg := (attempt == 1 || attempt == 2) || (k == 9 && s.md.gated != 0)
  let s := s.finishStep k (if deg then 3 else 0) attempt 0 dur detail
  if deg && 8 ≤ k && !s.md.safe then s.ev0 0xD02 .notice (le 1 k) else s

/-- Run a mandatory step of a start that is still alive: its action answers whether it holds. -/
def bootStep (x : State × Bool) (k : Nat) (act : State → State × Bool) (detail : State → Bytes) : State × Bool :=
  if !x.2 then x
  else
    let a := x.1.attemptOf k
    let p := x.1.planOf k
    let s := x.1.beginStep k a
    if p.fail && p.deadline then (s.bootReset, false)
    else
      let r := act s
      if r.1.md.halted then (r.1, false)
      else if !r.2 || p.fail then ((r.1.stepFails k a p.durUs).bootReset, false)
      else (r.1.stepPasses k a p.durUs (detail r.1), true)

/-! ## Steps 2 and 3 -/

/-- Step 2: T0, and the keys of the fused seed (R638, R643, R696). -/
def State.romStep (s : State) : State × Bool :=
  let s := s.extend 0 2 0 0 (le 4 s.bt.romVersion ++ fit 64 s.bt.fuses)
  let s := s.ks' fun k => { k with
    identity := some (s.seedScalar "TA7214-identity"), exchange := some (s.seedScalar "TA7214-exchange")
    sealKey := some (kdfH s.bt.seed "TA7214-keyseal" [] 32) }
  (s.bt' fun b => { b with attestKey := true }, true)

/-- No start from the trial bank holds a mandatory step that failed (R659). -/
def State.trialClean (s : State) (bank since : Nat) : Bool :=
  let rs := s.bt.ledger.filter fun r => since < r.seq && r.start != s.bt.startNum
  (dedupBy ((rs.filter (·.bank == bank)).map (·.start))).all fun n =>
    (List.range 15).all fun k => !mandatory k || stepResult (rs.filter (·.start == n)) k != 2

/-- The bank that the ledger names, after a fallback where the trial may not go on (R632, R658, R659). -/
def State.namedBank (s : State) : State × Nat :=
  match (s.bt.ledger.filter (·.kind == 0x03)).getLast? with
  | none => (s, 0)
  | some r =>
    let b := fld r.detail 0 1 % 2
    let window := match s.up.trial with
      | some (_, t) => t == 0 || s.ck.rtc < t
      | none => true
    if fld r.detail 1 1 != 1 then (s, b)
    else if window && s.trialClean b r.seq && !s.up.fallbackDue then (s, b)
    else
      let o := 1 - b
      let v := (s.bank o).version
      let s := (s.bankSelect o 0 1 v s.ck.tick).up' fun u => { u with trial := none, fallbackDue := false }
      ((s.ev0 0xE04 .error (le 1 o ++ le 4 v)).bump 0x0E05 0 1 1, o)

/-- The alternative of step 3, 4 or 8, or a recovery start for one of them, takes the other bank (R612, R626). -/
def State.takesOther (s : State) : Bool :=
  [3, 4, 8].any fun k => s.attemptOf k != 0 || (s.md.recovery && s.countOf k ≥ 3)

/-- What the firmware of an executing bank reads and writes (R664): that of a confirmed bank is the head's confirmed firmware, and at the
first start of a bank on trial the formats in force are those that the previous confirmed firmware wrote. Nothing is written in a format
that the firmware does not write. -/
def State.bankFormats (s : State) (b v : Nat) : State :=
  let f := if v = s.up.version then s.up.formats else Config.imgFormats v
  let s := s.up' fun u => { u with
    formats := f
    written := if v = u.version then u.written else ((u.written.zip f.writes).map fun x => max 1 (min x.1 x.2)) }
  s.up' fun u => if u.trial.any (·.1 == b) then { u with wroteBefore := some (u.wroteBefore.getD u.written) }
    else { u with confirmed := f, wroteBefore := none }

/-- Execute a bank: T1, T2, its formats, and the trial window that begins with its first start (R638, R658, R664). -/
def State.executeBank (s : State) (b : Nat) : State :=
  let img := s.bank b
  let s := s.bt' fun t => { t with executing := b }
  let s := ((s.extend 1 3 0 0 img.header).extend 2 3 0 0 (img.bytesAt img.loaderOff img.loaderLen)).bankFormats b img.version
  s.up' fun u => { u with
    version := img.version
    trial := u.trial.map fun t => if t.1 = b && t.2 = 0 then (b, ((s.bootBegin).map (·.rtc)).getD s.ck.rtc + 1800 * second) else t }

/-- Step 3: bank select and measure (R632). When neither bank passes, RECOVERY with cause 2 is written and the cores halt (R630). -/
def State.bankStep (s : State) : State × Bool :=
  let (s, b) := s.namedBank
  let first := if s.takesOther then 1 - b else b
  if (s.bank first).checks s.bt.fusedMin then (s.executeBank first, true)
  else if (s.bank (1 - first)).checks s.bt.fusedMin then (s.executeBank (1 - first), true)
  else
    let s := s.stepFails 3 (s.attemptOf 3) (s.planOf 3).durUs
    ((s.ledgerRec 0x04 0 0 0 0 0 [3#8, 2#8]).md' fun m => { m with halted := true }, false)

/-! ## Steps 6 to 10 -/

/-- Step 6: DRAM training (R612, R623), and the map window with an empty cache before it (R195, log 16). -/
def State.dramStep (s : State) : State × Bool :=
  let slow := s.attemptOf 6 != 0
  ((s.dr' fun d => { d with trained := true, mts := if slow then 4800 else 6400 }).mc' fun m => { m with
    base := Config.mapWindow.1 * 2 ^ 30, size := Config.mapWindow.2 * 2 ^ 30, lines := [] }, true)

/-- Step 7: the wax integrity scan; the imprint is marked empty, and a head that has no wax key yet generates it (R686, R805, R812). -/
def State.waxStep (s : State) : State × Bool :=
  let s := s.pw' fun p => { p with imprint := 0 }
  if s.ks.wax.isSome || s.ks.sealState == 2 then (s, true)
  else
    let k := s.drawn 64
    let s := (s.drawKeys.ks' fun x => { x with wax := some k, waxCheck := checkValue k }).reseal.wx' fun w => { w with
      own := [], shadow := [], journal := [], shJournal := [], isNew := true }
    (s, true)

/-- Step 8: the main digest, T3, T4, and what the ledger tells of earlier steps (R623, R632, R638); EE03 when the reset before it ended
an update that was not activated (R655). -/
def State.mainStep (s : State) : State × Bool :=
  let img := s.bank s.bt.executing
  if !img.mainOk then (s, false)
  else
    let s := (s.extend 3 8 0 0 (img.bytesAt img.mainOff img.mainLen)).extend 4 8 0 0 ((s.ks.owner.getD (zeros 97)) ++ le 4 s.bt.fusedMin)
    let before := s.bt.ledger.filter fun r => r.start + 1 == s.bt.startNum
    let s := ((List.range 15).filter fun k => stepResult before k == 2).foldl (fun t k =>
      (t.ev0 0xD01 .warn (le 1 k)).cond (mandatory k || !before.any fun r => r.kind == 0x02 && r.step == k) fun u => u.bump 0x0D03 k 0 1) s
    let mine := s.bt.ledger.filter fun r => r.start == s.bt.startNum && r.kind == 0x02 && r.outcome == 3
    let s := if s.md.safe then s.ev0 0xD02 .notice [0#8] else mine.foldl (fun t r => t.ev0 0xD02 .notice (le 1 r.step)) s
    (if s.up.ended then (s.up' fun u => { u with ended := false }).ev0 0xE03 .notice [] else s, true)

/-- Units of a kind that the self-test gates. -/
def gatedOf (g : BitVec 64) (first n : Nat) : Nat := ((List.range n).filter fun i => g.getLsbD (first + i)).length

/-- Step 9: the self-test (R625). Bits 0 to 7 stand for ingest lanes, 8 to 23 SHA-256 lanes, 24 and 25 SHA-384 lanes, 26 to 41
compressors, 42 to 57 decompressors, 58 and 59 the seal engine, 60 parity, 61 the compare-only unit (DESIGN CHOICE, log 80); the last three kinds and the digest lanes have events of their own. -/
def State.testStep (s : State) : State × Bool :=
  let g := (s.planOf 9).degraded
  let s := ((List.range 64).filter fun i => g.getLsbD i).foldl (fun t i =>
      let t := t.ev0 0xD05 .error (le 1 i)
      if 8 ≤ i && i < 26 then t.ev0 0x110 .error (le 1 i)
      else if i = 58 || i = 59 then t.ev0 0x101 .error (le 1 i)
      else if i = 61 then t.ev0 0x111 .error []
      else t)
    (s.md' fun m => { m with gated := g })
  (s, !(gatedOf g 58 4 != 0 || gatedOf g 24 2 == 2 || gatedOf g 0 8 > 4 || gatedOf g 8 16 > 8 || gatedOf g 26 16 > 8 || gatedOf g 42 16 > 8))

/-- The shelf of a hive reports POWERED (R356, R615). -/
def State.shelfPowered (s : State) (hive : Nat) : Bool := s.hv.shelves.any fun x => x.hive == hive && x.block.power == 2

/-- Step 10: the links of hives whose shelves report POWERED (R615), but for those that R12 keeps down. It fails when brood hives are
powered and none of them has 6 working combs. -/
def State.linkStep (s : State) : State × Bool :=
  let bs := s.cl.bridges.filter fun b => b.powered && s.shelfPowered b.hive
  let s := bs.foldl (fun t b =>
    let t := t.withLink b.link
    if t.misplaced b.link b.hive b.slot b.serial then t.holdLink b.link b.hive b.slot else t.linkRises b.link b) s
  -- a hive of fewer than 6 working combs is not brought into service (R9): one that is dark is judged by the combs it is known to have
  let short := fun (h : Hive) => (s.shelfPowered h.id || s.cl.links.any fun l => l.hive == h.id && l.comb != .absent) &&
    (s.workingLinks h.id).length < 6
  let s := s.hv' fun v => { v with hives := v.hives.map fun h => (if short h then { h with inService := false } else h) }
  let brood := s.hv.hives.filter fun h => h.brood && s.shelfPowered h.id
  (s, brood.isEmpty || brood.any fun h => 6 ≤ (s.cl.links.filter fun l => l.state == .up && l.hive == h.id).length)

/-- The hives that the DRAM serves, lowest first; E244 names each one left out (R190, R191; which ones is DESIGN CHOICE, log 80). -/
def State.admitHives (s : State) : State :=
  let own := 8 * s.dr.dimms * s.dr.dimmGiB
  let room := (min own (s.dr.peerGiB.getD own) - 64) / 64
  let ids := (s.hv.hives.map (·.id)).sortBy (· ≤ ·)
  (ids.drop room).foldl (fun t h => (t.hive' h fun x => { x with inService := false }).ev0 0x244 .error (le 1 h)) s

/-- The tick that a start sets before step 11, from the RTC and the tick epoch; without an epoch it comes from the records (R753). -/
def State.setTick (s : State) : State :=
  let top := (s.wx.own.map (·.tick)).foldl max 0
  s.ck' fun c => { c with
    now := c.rtc
    tick := match c.tickEpoch with
      | some e => c.rtc / milli - e
      | none => if c.epochLost then top + 1 else 0 }

/-! ## Steps 11 to 14 -/

/-- The settings that a new bank returns to their defaults (R666). -/
def tuned (id : Nat) : Bool :=
  id == 0x04000002 || id == 0x04000003 || id == 0x04000004 || id == 0x04000021 || id == 0x04000022 || id == 0x04000023 ||
    id / 2 ^ 24 == 9 || (0x07000000 ≤ id && id < 0x08000000 && (id % 0x100 == 2 || id % 0x100 == 3))

/-- The first start from a bank, or a fallback start (R659, R666). -/
def State.newBank (s : State) : Bool :=
  let before := (s.bt.ledger.filter fun r => r.start != s.bt.startNum && r.kind == 0x02 && r.step == 3 && r.outcome != 1).getLast?
  before.any (·.bank != s.bt.executing) ||
    (match (s.bt.ledger.filter (·.kind == 0x03)).getLast? with
    | some r => (fld r.detail 1 1 == 1 && fld r.detail 0 1 == s.bt.executing &&
        !(s.bt.ledger.any fun x => r.seq < x.seq && x.start != s.bt.startNum && x.bank == s.bt.executing)) ||
        (fld r.detail 2 1 == 1 && r.start == s.bt.startNum)
    | none => false)

/-- RESTORE is committed at the start that follows KEY_RESTORE (R703). -/
def State.commitRestore (s : State) : State :=
  if s.ks.restoreDue then
    (s.commit 0xFFFF (.keyChange .restore 0 0xFFFF 0 0 0 none []) []).ks' fun k => { k with restoreDue := false }
  else s

/-- Step 12 begins: contexts 1 to 15 are bound, waggles are sent, and the peer is awaited (R563, R616). -/
def State.beginJoin (s : State) (attempt : Nat) : State :=
  let s := s.beginStep 12 attempt
  if (s.planOf 12).fail then s.pr' fun p => { p with joinSince := none }
  else ((s.pw' fun p => { p with waggleEnable := true }).pr' fun p => { p with joinSince := some s.ck.now }).bindPinned

/-- Step 13: a worker reports to its queen; an unreachable queen is no failure (R616). -/
def State.colonyStep (s : State) (attempt : Nat) : State :=
  let s := s.beginStep 13 attempt
  let p := s.planOf 13
  if p.fail && p.deadline then s.bootReset
  else if p.fail then (s.stepFails 13 attempt p.durUs).bump 0x0D03 13 0 1
  else
    -- a fallback start is reported (R609, R669)
    let fell := s.bt.ledger.any fun r => r.kind == 0x03 && r.start == s.bt.startNum && fld r.detail 2 1 == 1
    ((s.cond s.co.member State.sendReport).cond fell (·.tellUpdate s.up.version false true)).finishStep 13 0 attempt 0 p.durUs []

/-- An optional step is skipped: ED04 (R622, R624). -/
def State.skipStep (s : State) (k : Nat) : State := (s.finishStep k 2 0 0 0 []).ev0 0xD04 .notice (le 1 k ++ [0#8])

/-- Steps 13 and 14 follow the end of step 12: the sequence goes on from here, and the work that the tables call for is resumed. -/
def State.afterJoin (s : State) : State :=
  let s := ((s.wx' fun w => { w with tail := [], tailTo := none, peerTo := none, lost := false }).bt' fun b => { b with step := 13 }).writeLater.owedEnds
  let s := s.commitRestore.resumeWork
  let s := if s.skips 13 then (s.skipStep 13).bt' fun b => { b with skippedColony := true } else s.colonyStep 0
  let p := s.planOf 14
  if s.pw.startDue then s
  else
  let s := s.beginStep 14 0
  if p.fail then (if p.deadline then s.bootReset else (s.stepFails 14 0 p.durUs).bootReset) else s

/-- Step 14 ends as the head enters its first mode: the service, ED00, the defaults of a new bank, and the watchdog (R616, R666, R769). -/
def State.serve (s : State) : State :=
  let s := s.finishStep 14 0 0 0 (s.planOf 14).durUs []
  let ids := (s.vk.settings.map (·.1)).filter tuned
  let s := if s.newBank && !ids.isEmpty then (s.control 0xFFFF (.settingsDefault ids) []).settle else s
  let dur := ((s.bt.ledger.filter fun r => r.start == s.bt.startNum && r.kind == 0x02).map (·.dur)).sum
  let s := s.bt' fun b => { b with step := 0, inService := true, service14At := s.ck.now }
  (s.pw' fun p => { p with wdArmed := some (s.ck.now + s.setting 0x0200000A * milli), wdSuspended := false }).ev0 0xD00 .info
    (le 8 s.bt.startNum ++ le 1 (b2n s.md.safe) ++ le 4 dur)

/-- Every record of this head's sequence that goes to the peer at pair join is in its copy (R183). -/
def State.allSent (s : State) : Bool := !s.streams || s.pr.rejoin.isSome || s.wx.own.all (·.peerOk)

/-- What the ticks of a start do: step 12 ends with the join or its timeout, step 14 with the first mode (R616). -/
def State.startTick (s : State) : State :=
  if s.bt.step = 12 && (s.pr.joined || s.pr.joinSince.isNone) && s.wx.tailTo.isNone && s.wx.peerTo.isNone && s.allSent then
    let a := s.attemptOf 12
    let p := s.planOf 12
    if p.fail && p.deadline then s.bootReset
    else
    let s := if p.fail then (s.stepFails 12 a p.durUs).bump 0x0D03 12 0 1 else s.finishStep 12 0 a 0 p.durUs []
    s.afterJoin
  else if s.bt.step = 14 && s.md.mode.isSome && !s.bt.inService then s.serve
  else s

/-- The watchdog is armed again at the wake's return to WAKE_MODE (R769). -/
def State.rearm (s : State) : State :=
  if s.pw.wdSuspended && s.pw.sleep.isNone && !s.md.wakePending && s.md.wakeCheck.isNone && s.md.entering.isNone then
    s.pw' fun p => { p with wdSuspended := false, wdArmed := some (s.ck.now + s.setting 0x0200000A * milli) }
  else s

end Sys2Proof.Machine
end

