-- ==== Sys2Proof/Machine/Pair.lean ====
section
/-! DEFINITION. The commands of the pair: the commit tick (R747), waggles and leases (R540, R541, R546, R550), digests and
self-checks (R554 to R558), takeover (R560, R70 to R72), joins and Rejoin (R563 to R566), rebalance phases (R572, R573),
fabric pairs (R574 to R576) and peer links (R580). -/

namespace Sys2Proof.Machine

/-- COMMIT_TICK: the end of one tick and the start of the next (R546, R747). A head that sleeps or has stopped only keeps
time. -/
def execCommitTick (s : State) : Host.Outcome State Fault Refusal :=
  let runs := s.pw.sleep.isNone && !s.md.stopped
  let s := if runs && s.pr.joined then s.endTick else s
  let s := (s.stat 0x0F04 s.ck.align 0 1).ck' fun c => { c with tick := c.tick + 1, now := c.now + milli, rtc := c.rtc + milli }
  ok (if runs then s.startTick.runTick.drainRings.fallbackTick.rearm.sbLoad.judgeStatus else s.judgeStatus)

/-- A path that was lost is restored by its first waggle (R546). -/
def State.pathBack (s : State) (fabric : Bool) : State :=
  let lost := (if fabric then s.pr.missFabric else s.pr.missPeer) ≥ 8
  let s := if fabric then s.pr' fun p => { p with missFabric := 0, gotFabric := true }
    else (s.pr' fun p => { p with missPeer := 0, gotPeer := true }).ck' fun c => { c with lastCtx5 := some s.ck.now }
  if lost then s.ev0 0xB01 .notice [if fabric then 1#8 else 0#8, 1#8] else s

/-- R550: a head that its peer has declared failed stops, silences its waggles and restarts once a peer link is up. -/
def State.declaredBy (s : State) : State :=
  let s := s.standDown
  if s.pr.plUp.any id then s.resetNow 3 else s

/-- WAGGLE: a waggle from the peer became visible (R540, R546, R547, R550). -/
def execWaggle (m : WaggleMsg) (s : State) : Host.Outcome State Fault Refusal :=
  ok (if m.head != s.peerId || s.pw.sleep.isSome || s.md.stopped then s
    else
      let s := (s.pathBack m.fabric).stat 0x0B01 (b2n m.fabric) 1 1
      let s := s.cond (!m.fabric) State.peerAligned
      let s := s.pr' fun p => { p with
        lastWaggle := s.ck.now, peerMode := modeOf m.mode, peerDormant := m.dormant, peerYielding := p.peerYielding || m.yielding
        peerDrained := m.drained, peerShadow := max p.peerShadow m.shadow
        peerWoke := modeOf m.mode == some .quiesce && !m.dormant && (p.peerWoke || p.peerDormant)
        leaseEnd := if m.grant && !s.inMode .rejoin then max p.leaseEnd (m.grantTick + 20) else p.leaseEnd }
      let s := if m.grant then s.stat 0x0B02 0 1 1 else s
      let s := s.cond (s.wx.peerTo.any (· ≤ m.confirmed)) fun t => t.wx' fun w => { w with peerTo := none }
      if m.declared && s.pr.joined && (!s.pr.declared || s.pr.fencedOff) then s.declaredBy else s)

/-- LEASE_END (R541): from here on no new task is issued on this head's units and new work is held; both follow from the
lease's end tick, so that the command itself only judges what holds work. -/
def execLeaseEnd (s : State) : Host.Outcome State Fault Refusal := ok (if s.pr.leaseEnd ≤ s.ck.tick then s.judgeHolds else s)

/-! ## Digests and self-checks -/

/-- TICK_DIGEST (R554). The first digest of a pair is that of the chain base tick. After a tick whose digest never came, and where the
first digest that arrives is a later one, the chain goes on from the peer's own value and that tick is not compared (DEDUCED, log 35). An echo of a mismatch counts as a mismatch of this tick (R554, log 35). -/
def State.tickDigest (s : State) (m : DigestMsg) : State :=
  let first := s.pr.shChain.isEmpty
  let d := if first then chainBase s.peerId m.tick m.cutoff
    else chainNext s.pr.shChain m.tick m.cutoff (s.shadowMarks s.pr.shCut m.cutoff)
  if (first && d != m.own && s.pr.base != some m.tick) || (!first && m.tick != s.pr.echoTick + 1) then
    s.pr' fun p => { p with shChain := m.own, shCut := m.cutoff, echoTick := m.tick, echoResult := 2 }
  else
    let counts := m.vaultCount == s.pr.vaultCount
    let diff := if counts then 0 else s.pr.vaultDiff + 1
    let bad := d != m.own || (counts && s.vaultDigest != m.vault) || diff ≥ 8
    let s := ((s.pr' fun p => { p with
      shChain := d, shCut := m.cutoff, echoTick := m.tick, echoResult := if bad then 1 else 0, vaultDiff := diff }).stat
      0x0B03 0 0 1)
    if bad || m.echoResult = 1 then
      let s := (s.pr' fun p => { p with
        mismatches := p.mismatches + 1
        mismatchAt := if p.mismatches = 1 then s.ck.now else p.mismatchAt
        unresolved := p.unresolved || p.mismatches = 1 }).bump 0x0B07 0 0 1
      let s := s.cond (s.pr.mismatches == 1) fun s => s.ev0 0xB04 .warn (le 8 m.tick)
      s.cond (s.pr.rebalance.any fun (r : Rebalance) => r.giver && r.phase < 3) State.dropRebalance
    else
      (s.stat 0x0B03 0 1 1).pr' fun p => { p with
        mismatches := 0, lastMatch := m.tick, matchCut := p.ownCut, shMatchCut := m.cutoff }

/-- TICK_DIGEST. -/
def execTickDigest (m : DigestMsg) (s : State) : Host.Outcome State Fault Refusal :=
  ok (if m.head != s.peerId || !s.pr.joined || s.pr.declared || s.md.stopped then s else s.tickDigest m)

/-- The heads resolve a mismatch: `some true` this head continues, `some false` the other does, `none` both enter Quiesce
(R557, R558). What `after` names follows the acceptance of the MODE_CHANGE record of a head that does not continue. -/
def State.endMismatchThen (s : State) (out : Option Bool) (after : List After) : State :=
  let s := s.ev0 0xB06 .notice [match out with
    | some true => 1#8
    | some false => 0#8
    | none => 2#8]
  match out with
  | some true => s.pr' fun p => { p with
      unresolved := false, mismatchHold := false, mismatches := 0, ownReport := none, peerReport := none, base := none
      shChain := [], shCut := 0, echoTick := 0, echoResult := 2 }
  | some false => ((s.pr' fun p => { p with unresolved := false, ownReport := none, peerReport := none }).autoModeThen .quiesce after).silence
  | none => (s.pr' fun p => { p with ownReport := none, peerReport := none }).autoModeThen .quiesce after

/-- The heads resolve a mismatch with no request to answer. -/
def State.endMismatch (s : State) (out : Option Bool) : State := s.endMismatchThen out []

/-- Domains that a side owns. -/
def State.domainCount (s : State) (d : Side) : Nat := (s.vo.domains.filter (·.side == d)).length

/-- Both reports are exchanged: the table of R557. In a colony the queen's choice by domains owned is what either head
computes from its own ownership table (DEDUCED, log 35). -/
def State.judgeReports (s : State) : State :=
  match s.pr.ownReport, s.pr.peerReport with
  | some a, some b =>
    if a.right != b.right then s.endMismatch (some a.right)
    else if a.right && s.co.member && s.co.reachable then
      let mine := s.domainCount s.pr.side
      let other := s.domainCount (otherSide s.pr.side)
      s.endMismatch (some (mine > other || (mine == other && s.pr.side == .a)))
    else s.endMismatch none
  | _, _ => s

/-- This head is shown right (R556): its digest lanes pass, its wax holds the whole span since the last match with nothing
torn (what it recomputes from that span is then what it published), every own record up to the cutoff is acknowledged, and
the acknowledgement chain of contexts 2 to 4 is unbroken. -/
def State.shownRight (s : State) (selfTestOk : Bool) : Bool :=
  selfTestOk &&
    ((List.range (s.pr.ownCut - s.pr.matchCut)).all fun i => s.wx.own.any fun r => r.ordinal == s.pr.matchCut + 1 + i && !r.torn) &&
    ((List.range (s.pr.shCut - s.pr.shMatchCut)).all fun i => s.wx.shadow.any fun r => r.ordinal == s.pr.shMatchCut + 1 + i && !r.torn) &&
    (s.wx.own.all fun r => s.pr.ownCut < r.ordinal || r.peerOk) &&
    !(s.fg.ctxs.any fun c => 2 ≤ c.id && c.id ≤ 4 && (c.gaveUp || c.broken))

/-- SELF_CHECK (R556): after the second mismatch; the report goes to the peer and, in a colony, to the queen. -/
def execSelfCheck (selfTestOk : Bool) (s : State) : Host.Outcome State Fault Refusal :=
  ok (if !s.pr.unresolved || s.pr.ownReport.isSome then s
    else
      let right := s.shownRight selfTestOk
      let s := (s.pr' fun p => { p with ownReport := some ⟨right, s.ck.now⟩ }).send (.selfReport right false)
      let s := if s.co.member then (s.send (.selfReport right true)).send (.col 0xFFFF (.arbitrate right)) else s
      s.judgeReports)

/-- SELF_CHECK_REPORT (R557). -/
def execSelfCheckReport (right : Bool) (s : State) : Host.Outcome State Fault Refusal :=
  ok (if !s.pr.unresolved then s
    else (s.pr' fun p => { p with peerReport := some ⟨right, s.ck.now⟩ }).judgeReports)

/-- SELF_CHECK_REPORT_TIMEOUT (R557): 500 ms after the second mismatch. -/
def execSelfCheckReportTimeout (s : State) : Host.Outcome State Fault Refusal :=
  ok (if !s.pr.unresolved || s.inMode .quiesce || s.ck.now < s.pr.mismatchAt + 500 * milli ||
      (s.pr.ownReport.isSome && s.pr.peerReport.isSome) then s
    else if s.co.member && s.co.reachable && s.pr.ownReport.any (·.right) then s.endMismatch (some true)
    else s.endMismatch none)

/-- PEER_ISOLATION_YIELD (R551). -/
def execPeerIsolationYield (s : State) : Host.Outcome State Fault Refusal :=
  let wait := s.setting 0x05000002 * second
  -- the fabric path still receives (R551)
  ok (if s.pr.side == .a || wait = 0 || !s.pr.joined || s.pr.yielding || s.pr.declared || 8 ≤ s.pr.missFabric ||
      s.ck.now < s.ck.lastCtx5.getD 0 + wait then s
    else
      let s := ((s.pr' fun p => { p with yielding := true }).ev0 0xB07 .warn []).bump 0x0B08 0 1 1
      (s.sendWaggle true false false).standDown)

/-! ## Takeover -/

/-- Note the end of a phase of the takeover (R562). -/
def State.phaseEnds (s : State) : State := s.pr' fun p => { p with phaseAt := p.phaseAt ++ [s.ck.now] }

/-- TAKEOVER_FENCE_WAIT (R65, R118, R560 step 1). -/
def execTakeoverFenceWait (s : State) : Host.Outcome State Fault Refusal :=
  ok (if s.pr.fence = 1 && s.pr.fenceAt ≤ s.ck.now && (s.inMode .takeover || s.inMode .solo) then s.phaseEnds.beginRound.judgeRound else s)

/-- ARBITER_FENCE_RESULT (R70, R72): a comb answered a raise; one not won whose owner is the peer is lost. -/
def execArbiterFenceResult (link : Nat) (won : Bool) (s : State) : Host.Outcome State Fault Refusal :=
  ok (s.fenceAnswer link won (!won && (s.link? link).any (·.owner == s.peerId)))

/-- ARBITER_RETRY (R71). -/
def execArbiterRetry (s : State) : Host.Outcome State Fault Refusal :=
  ok (if s.pr.retryAt.any (· ≤ s.ck.now) && (s.pr.fence = 1 || s.pr.fence = 2) then s.beginRound.judgeRound else s)

/-- Before VOTE_CLEAR, votes up on the peer's awake honey hives, each held awake for HIVE_IDLE_DARK (R363). -/
def State.holdPeerHives (s : State) : State :=
  (s.hv.hives.filter fun h => !h.brood && h.inService && s.ownerOf (.honey h.id) == some (otherSide s.pr.side) &&
    (h.state == .ready || h.state == .waking)).foldl (fun t h =>
      (t.sendVote h.id true).hive' h.id fun x => { x with wakeNeedUntil := some (s.ck.now + s.setting 0x04000020 * second) }) s

/-- FENCE_ALL_RAISED (R69, R560 step 4, R561): every comb of R69 is raised; the flash rule begins. -/
def execFenceAllRaised (s : State) : Host.Outcome State Fault Refusal :=
  ok (if s.pr.fence != 3 || !(s.fenceHives.all s.hiveRaised) then s
    else
      let take := s.pr.fenceFor = 0
      let s := s.pr' fun p => { p with confirmedSolo := true, fencedOff := false, fence := if take then 4 else 0 }
      let s := (s.cond take State.phaseEnds).holdPeerHives
      let s := s.hv.hives.foldl (fun t h => t.busSend h.id 3 (sideN (otherSide s.pr.side))) s
      (s.cond take State.shadowReplay).settle)

/-- The units of a side (R537, R560 step 5). -/
def State.unitsOf (s : State) (d : Side) : List OwnUnit :=
  ((s.vo.domains.filter (·.side == d)).map fun x => OwnUnit.domain x.id) ++
    ((s.hv.hives.filter fun h => !h.brood && s.ownerOf (.honey h.id) == some d).map fun h => OwnUnit.honey h.id) ++
    (([Side.a, Side.b].filter fun x => s.ownerOf (.brood x) == some d).map OwnUnit.brood)

/-- A HANDOVER record is on its way. -/
def State.handoverComing (s : State) : Bool := s.wx.own.any fun r => !r.accepted && match r.body with
  | .handover .. => true
  | _ => false

/-- TAKEOVER_REPLAY_END (R73, R177, R560 step 5): the peer's records are applied up to the first that is torn or missing, the live mirror
records among them become this head's work, and TAKEOVER is written. -/
def execTakeoverReplayEnd (s : State) : Host.Outcome State Fault Refusal :=
  ok (if !s.inMode .takeover || s.pr.fence != 4 || s.handoverComing then s
    else
      let s := s.shadowReplay.phaseEnds
      let s := (s.orphanWalk 0xF6000000 s.wx.shJournal).takePages
      let s := (s.hv.hives.map (·.id)).foldl (fun t h => (t.joinRebuild h).takeReshape h) s
      let s := (s.recoverRows (otherSide s.pr.side)).sealShort (otherSide s.pr.side)
      let last := s.shadowLast
      let s := s.wx' fun w => { w with shadow := w.shadow.map fun r =>
        if r.body.isData && r.live && !r.torn && r.applied && r.ordinal ≤ last then { r with mine := true } else r }
      let us := s.unitsOf (otherSide s.pr.side) ++ s.pr.given
      let s := s.co' fun c => { c with tokens := c.tokens.map fun t => { t with side := s.pr.side } }
      (s.commit 0xFFFF (.handover 0 s.peerId s.shadowLast us) [.takeoverDone]).settle)

/-! ## Joining and Rejoin -/

/-- The keys that PAIR_INIT gives a vault (R694); it fixes the tick epoch, whose first tick has number 0 (R747). -/
def State.pairInit (s : State) : State :=
  let k := s.drawn 96
  let ctr := s.wrapCtr 1
  let s := (s.drawKeys.useWrap 1).ck' fun c => { c with tickEpoch := some (s.ck.now / milli), tick := 0 }
  s.commit 0xFFFF (.keyChange .pairInit 4 0xFFFF 0 0 ctr none k) []

/-- A head whose peer does not answer forms its vault alone, once (R694, R747; that such a head is a standalone one is DEDUCED,
log 80). -/
def State.formAlone (s : State) : State :=
  if s.ks.pair.cur.isSome && s.ks.root.isNone && !(s.wx.own.any fun r => match r.body with
    | .keyChange .pairInit .. => true
    | _ => false) then s.pairInit.settle
  else s

/-- PAIR_JOIN_TIMEOUT (R563). -/
def execPairJoinTimeout (s : State) : Host.Outcome State Fault Refusal :=
  ok (match s.pr.joinSince with
    | some t =>
      if s.pr.joined || s.ck.epochLost || s.ck.now < t + s.setting 0x05000001 * second then s
      else (((s.pr' fun p => { p with joinSince := none }).autoMode .quiesce).ev0 0xB00 .warn []).formAlone
    | none => s)

/-- What a pair that has just joined begins with. -/
def State.joinedNow (s : State) (m : WaggleMsg) : State :=
  ((s.pr' fun p => { p with
    joined := true, joinSince := none, declared := false, fencedOff := false, yielding := false, peerYielding := false
    peerDormant := false, missPeer := 0, missFabric := 0, peerMode := modeOf m.mode, peerShadow := m.shadow, base := none
    peerWoke := false, confirmedSolo := p.confirmedSolo && s.inMode .solo, raiseLater := []
    lastWaggle := s.ck.now, shChain := [], shCut := 0, echoTick := 0, echoResult := 2, mismatches := 0, mismatchHold := false, unresolved := false, fence := if p.fence = 5 then 0 else p.fence })).bindPinned

/-- The vault is formed at the first join of two heads that hold the pair key and no root key: side A writes PAIR_INIT
(R694). -/
def State.formVault (s : State) : State :=
  if s.pr.side == .a && s.ks.pair.cur.isSome && s.ks.root.isNone then s.pairInit else s

/-- The records that the Rejoin copy carries (R185): the newest checkpoint, the own half from its commit walk start on, and every live
record of the data ring; without a checkpoint, the whole own half. -/
def State.copySet (s : State) : List WaxRec :=
  let ck := newestCk s.wx.own
  s.wx.own.filter fun r => match r.ring with
    | .data => r.live
    | .commit => ck.all fun c => c.flush < r.ordinal
    | _ => ck.any fun c => c.ordinal == r.ordinal

/-- This head serves and its peer comes back: the Rejoin copy begins at a cutoff ordinal; it carries the records of R185, the live journal
entries and the key vault (R565). The peer's wax is empty, so that no record counts as held by it; mirror records that this head took
over and has not landed stay (R177). -/
def State.beginCopy (s : State) (m : WaggleMsg) : State :=
  let recs := s.copySet
  let left := 64 * (recs.map (·.units)).sum + 64 * ((s.liveJournal).map (·.units)).sum
  let s := s.pr' fun p => { p with rejoin := some (s.wx.nextOrd - 1, left), mirror := false }
  let s := s.wx' fun w => { w with
    shadow := w.shadow.filter fun r => r.mine && r.live
    shPads := [], shJournal := []
    own := w.own.map fun r => { r with peerOk := false }
    journal := w.journal.map fun e => { e with peerOk := false } }
  let s := recs.foldl (fun t r => t.send (.copyRec true r.ordinal)) (s.joinedNow m)
  let s := s.wx.pads.foldl (fun t p => t.send (.copyPad true p.1 p.2.1 p.2.2)) s
  (((s.liveJournal).foldl (fun t e => t.send (.copyEntry e.seq)) s).send .copyVault).ev0 0xB08 .notice [0#8]

/-- The tables that a rejoining head begins with (R265, R267, R565, R813): those of the serving head's newest root head, which both heads read
on brood flash, with the values of class 0x03 in the domains' descriptors; its own settings, counters of identifiers and anchors stay. The
serving head's scheduled frames of the pair are this head's copies. -/
def State.adopt (s : State) (f : FlashMeta) (last : Nat) : FlashMeta :=
  let pairs := (f.frames.filter fun x => x.pair && !x.peerMade).map fun x => { x with peerMade := true, waiter := none }
  { f with
    covered := last, peerCovered := f.covered
    rd := { f.rd with nextChunk := s.rd.nextChunk, chunkClaim := s.rd.chunkClaim, e340Said := s.rd.e340Said }
    sp := { f.sp with nextOrd := s.sp.nextOrd, claim := s.sp.claim, e430Said := s.sp.e430Said }
    me := { f.me with
      writeSeq := s.me.writeSeq, seqClaim := s.me.seqClaim, root := s.me.root, anchorSeq := s.me.anchorSeq, anchors := s.me.anchors }
    settings := s.vk.settings.filter (·.1 / 2 ^ 24 != 3) ++ f.settings.filter (·.1 / 2 ^ 24 == 3)
    frames := (s.vk.frames.filter fun x => !([.opened, .checked, .scheduling, .scheduled] : List FrameState).contains x.state) ++ pairs, peerFrames := (f.frames.filter (!·.peerMade)).map fun x => (x.id, x.items)
    pages := [], tookOver := false }

/-- This head is placed in Rejoin: its wax counts as empty, none of its replayed records has an effect, its tables are those of the serving
head's flash, and it owns nothing, which its hosts are told (R184, R422, R565, R567). -/
def State.enterRejoin (s : State) (m : WaggleMsg) (f : FlashMeta) : State :=
  let other := otherSide s.pr.side
  let last := max (s.wx.nextOrd - 1) m.shadow
  let s := ({ s with fl := s.adopt f last, flOld := [] } : State).loadFlash
  let s := s.wx' fun w => { w with
    own := [], pads := [], shadow := [], shPads := [], journal := [], shJournal := [], lastApplied := last
    nextOrd := last + 1, walkStart := w.commitWp, tailTo := none, peerTo := none }
  let s := s.restartFilter.joinedNow m
  let us := s.unitsOf s.pr.side
  let s := (s.giveUnits us other).anaUnits us
  let s := s.pr' fun p => { p with mirror := false, handedOver := true, rejoin := some (0, 0) }
  ((s.autoMode .rejoin).ev0 0xB08 .notice [0#8])

/-- What the peer needs of its own sequence from this head's shadow (R183, R812): the records beyond its own end, up to where this head's
replay of the shadow ends; for a peer whose own copy cannot be replayed the newest shadow checkpoint, the shadow half from that
checkpoint's commit walk start on, and the live records of the mirror ring. The PAD records go with them. -/
def State.sendTail (s : State) (peerEnd : Nat) (lost : Bool) : State :=
  let top := s.shadowLast
  let ck := newestCk (s.wx.shadow.map (·.asRec))
  let rs := s.wx.shadow.filter fun r => !r.torn && if lost then
      ck.any (fun c => c.ordinal == r.ordinal || (c.flush < r.ordinal && r.ordinal ≤ top)) || r.live
    else peerEnd < r.ordinal && r.ordinal ≤ top
  if rs.isEmpty then s
  else
    let s := rs.foldl (fun t r => t.send (.copyRec false r.ordinal)) (s.wx' fun w => { w with peerTo := some top })
    (s.wx.shPads.foldl (fun t p => t.send (.copyPad false p.1 p.2.1 p.2.2)) s).ev0 0x222 .notice (le 8 (peerEnd + 1) ++ le 8 top)

/-- Reconcile the copies of both sequences (R183, R812). What the peer's shadow replays of this head's sequence is in its copy. Where that
reaches further than this head's replay, or this head's own copy cannot be replayed, its records are awaited; where it ends before, the
records beyond it are sent again. The next ordinal lies above every ordinal of this sequence that the peer holds. -/
def State.reconcile (s : State) (m : WaggleMsg) (r : HeadReport) : State :=
  let fresh := s.wx.nextOrd == s.wx.lastApplied + 1
  let s := s.wx' fun w => { w with
    own := w.own.map fun r => if r.ordinal ≤ m.shadow then { r with peerOk := true } else r
    tailTo := if fresh && (w.replayEnd < m.shadow || (w.lost && m.shadow != 0)) then some m.shadow else none
    nextOrd := if w.lost then max w.nextOrd (max m.shadow r.held + 1) else max w.nextOrd (m.shadow + 1) }
  let s := s.wx' fun w => { w with lastApplied := if fresh then w.nextOrd - 1 else w.lastApplied }
  let beyond := (s.wx.own.filter fun r => m.shadow < r.ordinal).map (·.ordinal)
  let s := match beyond.head?, beyond.getLast? with
    | some lo, some hi => s.ev0 0x222 .notice (le 8 lo ++ le 8 hi)
    | _, _ => s
  s.sendTail m.confirmed r.lost

/-- A head without a tick epoch takes its peer's tick (R747, R753). -/
def State.takeEpoch (s : State) (m : WaggleMsg) : State :=
  if s.ck.epochLost || (s.ck.tickEpoch.isNone && s.pr.side == .b && s.ks.root.isSome) then
    s.ck' fun c => { c with tick := m.tick, tickEpoch := some (c.now / milli - m.tick), epochLost := false }
  else s

/-- The reports of context 8 (R664, R665): the peer's is taken in, and this head's goes out. DRAM populations that differ give E243, and the smaller
one says which hives serve (R190). Tick epochs that differ become that of side A (R747). -/
def State.peerReports (s : State) (r : HeadReport) : State :=
  let own := 8 * s.dr.dimms * s.dr.dimmGiB
  let s := ((s.pr' fun p => { p with peerTrial := r.trial, peerFormats := some r.formats }).dr' fun d => { d with peerGiB := some r.dramGiB }).send
    (.headReport ⟨s.up.version, s.onTrial, own, s.ck.tickEpoch, s.pr.tookOver, s.shadowTop, s.wx.lost, s.fl, s.up.confirmed⟩)
  let s := if r.epoch.isSome && (s.pr.side == .b || s.ck.tickEpoch.isNone) then s.ck' fun c => { c with tickEpoch := r.epoch } else s
  if r.dramGiB = own then s else (s.ev0 0x243 .warn []).admitHives

/-- PAIR_JOIN: the peer answers at pair join. A head that the peer's TAKEOVER record names enters Rejoin, and a head that holds such a
record begins the Rejoin copy (R184, R185; that the peer's report tells of its record is DESIGN CHOICE, log 36); otherwise both join
(R183, R564). -/
def execPairJoin (peer : WaggleMsg) (r : HeadReport) (s : State) : Host.Outcome State Fault Refusal :=
  ok (if peer.head != s.peerId || (s.pr.joined && !s.pr.declared) || s.inMode .takeover || s.md.stopped then s
    else
      let s := ((s.pw' fun p => { p with waggleEnable := true }).takeEpoch peer).peerReports r
      if s.pr.tookOver then s.beginCopy peer
      else if s.pr.handedOver || r.tookOver then s.enterRejoin peer r.tables
      else
        let s := (s.reconcile peer r).pr' fun p => { p with mirror := p.plUp.any id }
        let s := s.joinedNow peer
        s.formVault.settle)

/-- REJOIN_COPY_COMPLETE (R566): the copy is complete, and the stream has covered every record above the cutoff. -/
def execRejoinCopyComplete (s : State) : Host.Outcome State Fault Refusal :=
  ok (let cut := (s.pr.rejoin.map (·.1)).getD 0
    let streamed := s.wx.own.all fun r => r.ordinal ≤ cut || r.peerOk
    if s.pr.rejoin.isNone || s.pr.declared || !s.pr.joined || !(streamed || s.inMode .rejoin) then s
    else
      let s := s.wx' fun w => { w with
        own := w.own.map fun r => { r with peerOk := true }
        journal := w.journal.map fun e => { e with peerOk := true } }
      let s := (s.pr' fun p => { p with
        rejoin := none, mirror := true, tookOver := false, base := none, shChain := [], shCut := 0, echoTick := 0, echoResult := 2 }).ev0
          0xB08 .notice [1#8]
      if s.comingBack then s.shadowReplay else if s.inMode .solo then s.autoMode .full else s)

/-! ## Rebalance -/

/-- The units' accepted work has left brood and is covered by a flush (R267, R572). -/
def State.unitsFolded (s : State) (us : List OwnUnit) : Bool :=
  let has := fun (d : Nat) => us.contains (.domain d)
  !(s.rd.chunks.any fun c => c.state == .stored && has c.domain && s.isBrood c.hive) &&
    !(s.liveData.any fun r => has r.domain) && !s.me.dirty && s.flNext.isNone

/-- The receiver writes RECEIVE: every page of the units lies in its own metadata stripes (R267, R572). It votes for the honey hives, and
takes up a reshape of theirs where the giver's newest checkpoint left it (R249). -/
def State.receive (s : State) (r : Rebalance) : State :=
  let s := s.pr' fun p => { p with rebalance := some { r with phase := 3 } }
  let s := r.units.foldl (fun t u => match u with
    | .honey h =>
      let t := if (t.hive? h).any (fun x => x.state == .ready || x.state == .waking) then t.sendVote h true else t
      t.takeReshape h
    | _ => t) s
  (s.commit 0xFFFF (.handover 2 s.peerId r.giveOrd r.units) []).settle

/-- REBALANCE_PHASE_END (R572): the receiver copies the giver's pages of the units, as its final flush left them, and writes RECEIVE once
the flush that holds the copies counts (R267; log 37). -/
def execRebalancePhaseEnd (s : State) : Host.Outcome State Fault Refusal :=
  ok (match s.pr.rebalance with
    | none => s
    | some r =>
      if r.giver then
        if r.phase = 1 then s.pr' fun p => { p with rebalance := some { r with phase := 2, holdAt := s.ck.now } }
        else if r.phase = 2 && s.unitsFolded r.units then
          let s := s.pr' fun p => { p with rebalance := some { r with phase := 3 } }
          let s := r.units.foldl (fun t u => match u with
            | .domain d => t.domain' d fun x => { x with changing := true }
            | _ => t) s
          ((s.anaUnits r.units).commit 0xFFFF (.handover 1 s.peerId 0 r.units) []).settle
        else s
      else if r.giveOrd != 0 && r.phase < 3 then
        let pages := s.toCopy r.units
        if s.flNext.isSome then s
        else if pages.isEmpty then s.receive r
        else
          let t := s.flushWith pages
          (if t.flNext.isSome then t.stat 0x0B04 0 1 (16448 * pages.length) else t).settle
      else s)

/-- REBALANCE_HOLD_TIMEOUT (R573). -/
def execRebalanceHoldTimeout (s : State) : Host.Outcome State Fault Refusal :=
  ok (match s.pr.rebalance with
    | some r =>
      if r.giver && r.phase = 2 && r.holdAt + s.setting 0x05000004 * second ≤ s.ck.now then s.dropRebalance else s
    | none => s)

/-! ## Fabric pairs and peer links -/

/-- Change a fabric pair. -/
def State.pair' (s : State) (i : Nat) (f : FabricPair → FabricPair) : State :=
  s.pr' fun p => { p with fabric := (List.range p.fabric.length).zip p.fabric |>.map fun x => if x.1 = i then f x.2 else x.2 }

/-- A port of a pair by its parity. -/
def FabricPair.port (p : FabricPair) (odd : Nat) : FabricPort := if odd = 0 then p.even else p.odd

/-- Set a port of a pair. -/
def FabricPair.setPort (p : FabricPair) (odd : Nat) (f : FabricPort → FabricPort) : FabricPair :=
  if odd = 0 then { p with even := f p.even } else { p with odd := f p.odd }

/-- The newly active port of a pair announces the pair's addresses, and TCP resends the unacknowledged segments of its
connections (R424). -/
def State.resendPair (s : State) (i : Nat) : State :=
  let s := match (s.pr.fabric[i]?).bind (·.active) with
    | some b => s.send (.announce (2 * i + b))
    | none => s
  (s.nv.conns.filter fun c => c.fpair == i && c.unsent != 0).foldl (fun t c => t.send (.tcpResend c.id)) s

/-- FABRIC_PORT_FAIL (R574, R575): the active port of a pair fails. -/
def execFabricPortFail (pair : Nat) (s : State) : Host.Outcome State Fault Refusal :=
  ok (match s.pr.fabric[pair]? with
    | none => s
    | some p => match p.active with
      | none => s
      | some a =>
        let fail := fun (q : FabricPair) => q.setPort a fun x => { x with up := false, failed := true, eligible := false }
        if (p.port (1 - a)).eligible then
          (((s.pair' pair fun q => { fail q with active := some (1 - a), lastSwap := some s.ck.now }).resendPair pair).ev0 0xB0B .warn
            (le 1 pair)).stat 0x0B05 pair 0 1
        else (s.pair' pair fun q => { fail q with active := none }).ev0 0xB0C .error (le 1 pair))

/-- STANDBY_ELIGIBLE (R574 to R576): a port that is not active has had 60 s of clean link. With no working port it becomes
active; which port of such a pair has come back is free (log 3). -/
def execStandbyEligible (pair : Nat) (s : State) : Host.Outcome State Fault Refusal :=
  let good := fun (x : FabricPort) => { x with up := true, failed := false, eligible := true }
  ok (match s.pr.fabric[pair]? with
    | none => s
    | some p => match p.active with
      | some a => s.pair' pair fun q => q.setPort (1 - a) good
      | none =>
        let b := s.drawnNat % 2
        (s.afterDraw.pair' pair fun q => { q.setPort b good with active := some b }).resendPair pair)

/-- The cables with a working link. -/
def cablesUp (l : List Bool) : Nat := b2n ((l.take 2).any id) + b2n ((l.drop 2).any id)

/-- Enter or leave the one-cable limit (R34), and take the mirror as unconfirmed while no cable works (R32). -/
def State.judgeCables (s : State) (before : Nat) : State :=
  let n := cablesUp s.pr.plUp
  let s := if n < before then
      (s.ev0 0xB0F .warn (le 1 n)).bump 0x0B09 0 1 1
    else s
  let limit := n == 1
  let s := if limit != s.md.cableLimit && n != 0 then
      (s.md' fun m => { m with cableLimit := limit }).ev0 0xB10 .notice [if limit then 1#8 else 0#8]
    else s
  if n = 0 && before != 0 then s.pr' fun p => { p with mirror := false }
  else if n != 0 && before = 0 && s.pr.joined && !s.pr.declared && s.pr.rejoin.isNone && !s.inMode .solo then
    s.pr' fun p => { p with mirror := true }
  else s

/-- PEER_LINK_DOWN (R580). -/
def execPeerLinkDown (link : Nat) (s : State) : Host.Outcome State Fault Refusal :=
  ok (if s.pr.plUp[link]? != some true then s
    else
      let before := cablesUp s.pr.plUp
      (s.pr' fun p => { p with plUp := p.plUp.set link false }).judgeCables before)

/-- PEER_LINK_UP (R550, R580): a head that stopped under R550 restarts once a peer link is up. -/
def execPeerLinkUp (link : Nat) (s : State) : Host.Outcome State Fault Refusal :=
  ok (if s.pr.plUp[link]? != some false then s
    else
      let before := cablesUp s.pr.plUp
      let s := (s.pr' fun p => { p with plUp := p.plUp.set link true }).judgeCables before
      if s.pr.fencedOff && !s.pw.waggleEnable && !s.pr.yielding then s.resetNow 3 else s)

end Sys2Proof.Machine
end

