-- ==== Sys2Proof/Machine/Colony.lean ====
section
/-! DEFINITION. Colony messages and timers on either end (R587 to R610). A head that is not the queen head does nothing
with a message for the queen. -/

namespace Sys2Proof.Machine

/-- Send something to every head of every worker. -/
def State.toWorkers (s : State) (f : Nat → ColMsg) : State :=
  s.co.workerHeads.foldl (fun t h => t.send (.col h (f h))) s

/-- Put a change of the apiary list in the sequence; every worker is sent the list once it is accepted (R585, R590). -/
def State.listChange (s : State) (c : CtlChange) (more : List After) : State :=
  let after := s.queen.queenCtl c
  s.control 0xFFFF c (more ++ after.workerHeads.map fun h => After.col h (s.settingsMsg after))

/-- A queen that meets a higher epoch stops acting as queen at once (R586). -/
def State.deposeBy (s : State) (epoch : Nat) : State :=
  s.co' fun c => { c with
    queenHead := false, deposed := true, epoch := epoch, members := [], catalogue := [], qTokens := [], qHeld := []
    rolling := false, haltedRollout := false, waves := 0 }

/-- Bits [23:0] of the queen epoch of this head, as the immediate of a colony message carries it (R587). -/
def State.epochLow (s : State) : Nat := s.co.epoch % 2 ^ 24

/-- The epoch that an immediate's 24 bits stand for, beside this head's own. -/
def State.epochOf (s : State) (ep : Nat) : Nat := s.co.epoch - s.epochLow + ep

/-- What a message does at the queen head; one of a higher epoch deposes it (R586). Another head does nothing with it. -/
def State.atQueen (s : State) (ep : Nat) (f : State → State) : State :=
  if !s.isQueen then s
  else if s.epochLow < ep then s.deposeBy (s.epochOf ep)
  else f s

/-- What a message of the queen does at a worker head, unless its epoch is below the highest seen (R586). -/
def State.atWorker (s : State) (ep : Nat) (f : State → State) : State :=
  if ep < s.epochLow then s
  else f (s.cond (s.epochLow < ep) fun s => s.co' fun c => { c with epoch := s.epochOf ep })

/-- JOIN at the queen (R605, R606). -/
def execJoin (ep apiary serial headA headB : Nat) (addrs : List Bytes) (s : State) : Host.Outcome State Fault Refusal :=
  ok (s.atQueen ep fun s =>
      let c := s.queen
      let taken := apiary = 0 || apiary > 127 || c.members.any fun m => m.apiary == apiary && !m.vacated
      if taken then s.send (.col headA (.joinReply false (vstat .exists) c.epoch []))
      else
        let m := { newMember apiary serial addrs false with headA := headA, headB := headB }
        (s.listChange (.queenMember m) [.col headA (.joinReply true 0 c.epoch s.classSix)]).ev0 0xC00 .notice (le 1 apiary ++ le 1 1))

/-- The class 0x06 settings that the queen sends are taken over (R587). -/
def State.takeSix (s : State) (items : List (Nat × Bytes)) : State :=
  s.vk' fun v => { v with
    settings := (items.filter fun e => e.1 / 2 ^ 24 == 6).foldl (fun l e => assocSet l e.1 e.2) v.settings }

/-- JOIN_REPLY at the worker (R586, R605, R606): on acceptance the apiary ID changes at an internal pair-wide frame. -/
def execJoinReply (accepted : Bool) (cause epoch : Nat) (items : List (Nat × Bytes)) (s : State) : Host.Outcome State Fault Refusal :=
  ok (match s.co.joinWait with
    | none => s
    | some (w, a, _) =>
      if epoch < s.co.epoch then s
      else
        let s := s.co' fun c => { c with joinWait := none }
        if accepted then
          ((s.takeSix items).co' fun c => { c with epoch := epoch }).ownInternal true ⟨apiaryItem, 3, le 1 0 ++ le 1 a ++ le 4 epoch⟩
            [.final w .success []]
        else s.replyTo w (if cause = vstat .paramInvalid then .paramInvalid else .exists) [])

/-- LEAVE at the queen (R596, R607): the worker's tokens and entries go with it. -/
def execLeave (ep apiary : Nat) (s : State) : Host.Outcome State Fault Refusal :=
  ok (s.atQueen ep fun s => if apiary = 0 || !(s.queen.members.any (·.apiary == apiary)) then s
    else
      ((s.listChange (.queenMemberEnd apiary) []).co' fun c => { c with qHeld := c.qHeld.filter (·.apiary != apiary) }).ev0
        0xC00 .notice (le 1 apiary ++ le 1 0))

/-- The queen is reachable again: the suspended tokens run on from where they stopped, and REPORT goes out with them marked
suspended (R379, R588, R597). -/
def State.queenBack (s : State) : State :=
  let pause := (s.ck.now - (s.co.lastContact.getD s.ck.now + 10 * second)) / milli
  let s := (s.sendReport.co' fun c => { c with
    reachable := true, autonomyDone := false
    tokens := c.tokens.map fun t => if t.state = 3 then { t with state := 1, expiry := t.expiry + pause } else t }).hv' fun v =>
      { v with hives := v.hives.map fun h => { h with token := h.token.map fun t => (t.1, t.2 + pause) } }
  s.ev0 0xC01 .notice (le 1 1)

/-- CONTACT at a worker head (R586, R588, R610), or at a queen of a lower epoch (R586, R602). -/
def execContact (src epoch settingsGen : Nat) (gateOpen : Bool) (s : State) : Host.Outcome State Fault Refusal :=
  ok (if !s.co.member || epoch < s.co.epoch then s
    else if s.co.queenHead then (if epoch > s.co.epoch then s.deposeBy epoch else s)
    else
      let s := s.stat 0x0C03 src 1 1
      let again := !s.co.reachable && s.co.lastContact.isSome
      let first := s.co.lastContact.isNone
      let s := if again then s.queenBack else s
      let changed := settingsGen != s.co.settingsGen
      let s := s.co' fun c => { c with
        lastContact := some s.ck.now, reachable := true, epoch := epoch, gateOpen := gateOpen, settingsGen := settingsGen }
      let s := if first then s.ev0 0xC01 .notice (le 1 1) else s
      if first || (changed && !again) then s.sendReport else s)

/-- CONTACT_SEND (R588): once per second, with each apiary's wave gate. -/
def execContactSend (s : State) : Host.Outcome State Fault Refusal :=
  ok (if !s.isQueen || s.ck.now < (s.co.lastContact.getD 0) + second then s
    else
      let s := s.co' fun c => { c with lastContact := some s.ck.now }
      s.co.workerHeads.foldl (fun t h =>
        (t.stat 0x0C03 h 0 1).send (.col h (.contact t.co.epoch t.headId t.co.settingsGen (t.waveGate (h / 2))))) s)

/-- QUEEN_UNREACHABLE (R379, R588): 10 s without CONTACT; the tokens held are suspended. -/
def execQueenUnreachable (s : State) : Host.Outcome State Fault Refusal :=
  ok (if !s.co.member || !s.co.reachable || s.co.queenHead || !(s.co.lastContact.any fun t => t + 10 * second ≤ s.ck.now) then s
    else
      ((s.co' fun c => { c with
        reachable := false
        tokens := c.tokens.map fun t => if t.state = 1 then { t with state := 3 } else t }).ev0 0xC01 .notice (le 1 0)).ev0
          0x70A .notice [])

/-- Peaks after a REPORT: the highest input power of a hive in its last wake (R591). -/
def newPeaks (m : Member7) (power : List (Nat × Nat)) : List (Nat × Nat) :=
  power.foldl (fun l p =>
    let on := m.power.any (·.1 == p.1)
    assocSet l p.1 (if on then max p.2 (((l.find? (·.1 == p.1)).map (·.2)).getD 0) else p.2)) m.peaks

/-- A token that a REPORT names and the queen takes over: the table lacks it, or it was suspended (R597, R600). -/
def State.adopts (s : State) (t : WakeToken) : Bool := t.state != 2 && (t.state == 3 || !(s.queen.qTokens.any (·.id == t.id)))

/-- A token that a REPORT names is adopted with a fresh expiry (R597, R600). -/
def State.adoptToken (s : State) (head : Nat) (t : WakeToken) : State :=
  if s.adopts t then
    s.grantToken head { t with cost := s.tokenCost s.queen t.apiary t.hive }
  else s

/-- The colony key generation that every apiary of the catalogue holds now is announced (R604). -/
def State.announceKey (s : State) : State :=
  let gens := (s.queen.members.filter (!·.vacated)).map (·.keyGen)
  let g := gens.headD 0
  match s.ks.colony.pend with
  | some p =>
    if gens.all (· == g) && p.1 == g then
      let s := (s.ks' fun k => { k with colony := k.colony.promote s.ck.now }).reseal
      s.toWorkers fun _ => s.settingsMsg s.co
    else s
  | none => s

/-- REPORT at the queen (R588, R589, R597, R604). -/
def execReport (ep : Nat) (r : Report7) (s : State) : Host.Outcome State Fault Refusal :=
  ok (s.atQueen ep fun s =>
      let m := (s.queen.member? r.apiary).getD (newMember r.apiary 0 [] false)
      let m := { m with power := r.power, peaks := newPeaks m r.power, keyGen := r.keyGen, vacated := false }
      let s := s.control 0xFFFF (.queenMember m) []
      let s := s.control 0xFFFF (.queenEntries r.apiary (r.domains.map fun e => { e with apiary := r.apiary, tick := s.ck.tick }))
        []
      let s := if r.keyGen > s.colonyGen && s.co.lagSince.isNone then s.co' fun c => { c with lagSince := some s.ck.now } else s
      let back := r.tokens.any s.adopts
      ((r.tokens.foldl (fun t k => t.adoptToken r.head { k with apiary := r.apiary }) s).cond back (·.recallOver 0)).announceKey)

/-- TOKEN_REQUEST at the queen (R593, R594). -/
def execTokenRequest (ep apiary head hive prio num : Nat) (s : State) : Host.Outcome State Fault Refusal :=
  ok (s.atQueen ep fun s => s.judgeToken apiary head hive prio num)

/-- HELD_TOKEN_REQUEST_TIMEOUT (R593): 60 s after its arrival; its recalls stand. -/
def execHeldTokenRequestTimeout (apiary num : Nat) (s : State) : Host.Outcome State Fault Refusal :=
  ok (match s.co.qHeld.find? fun h => h.apiary == apiary && h.num == num with
    | some h =>
      if s.isQueen && h.atNs + 60 * second ≤ s.ck.now then
        (s.co' fun c => { c with qHeld := c.qHeld.erase h }).refuseToken apiary h.head num
      else s
    | none => s)

/-- TOKEN_GRANT at the worker (R375, R376, R379): the hive may be voted up; a HIVE_WAKE that waited succeeds. -/
def execTokenGrant (ep : Nat) (t : WakeToken) (autonomy : Nat) (s : State) : Host.Outcome State Fault Refusal :=
  ok (s.atWorker ep fun s => if !s.co.member || t.apiary != s.pr.apiary then s
    else match s.hive? t.hive with
      | none => s
      | some h =>
        let s := s.co' fun c => { c with
          autonomy := autonomy, reqs := c.reqs.filter (·.2.1 != t.hive)
          tokens := tokenPut (c.tokens.filter (·.hive != t.hive)) t }
        let s := s.hive' t.hive fun x => { x with
          token := some (t.prio, t.expiry), tokenGot := t.granted, tokenAsked := none, tokenRefused := false
          gather := x.gather.map fun g => { g with noToken := false } }
        let (ws, rest) := h.waiters.partition (·.opcode == 0x0402)
        let s := ws.foldl (fun u w => u.replyTo w .success []) (s.hive' t.hive fun x => { x with waiters := rest })
        if (s.topNeed ((s.hive? t.hive).getD h)).isSome && !h.darkDecided then s.wantUp t.hive else s)

/-- TOKEN_REFUSE at the worker (R372, R376): E708, or E709 for a REBUILD request; the request is repeated after 10 s. -/
def execTokenRefuse (ep num cause : Nat) (s : State) : Host.Outcome State Fault Refusal :=
  ok (s.atWorker ep fun s => match s.co.reqs.find? (·.1 == num) with
    | none => s
    | some (_, hive, prio) =>
      let s := (s.co' fun c => { c with reqs := c.reqs.filter (·.1 != num) }).stat 0x0705 0 1 1
      let ws := (((s.hive? hive).map (·.waiters)).getD []).filter (·.opcode == 0x0402)
      let s := s.hive' hive fun x => { x with
        tokenRefused := true, waiters := x.waiters.filter (·.opcode != 0x0402)
        gather := x.gather.map fun g => { g with noToken := true } }
      let s := ws.foldl (fun u w => u.replyTo w .noToken []) s
      let detail := le 1 hive ++ le 1 prio ++ le 1 cause
      if prio = 0 then s.ev0 0x709 .warn detail else s.ev0 0x708 .notice detail)

/-- TOKEN_RECALL at the worker (R378). -/
def execTokenRecall (ep id : Nat) (s : State) : Host.Outcome State Fault Refusal :=
  ok (s.atWorker ep fun s => match s.co.tokens.find? (·.id == id) with
    | none => s
    | some t =>
      let s := (s.co' fun c => { c with
        tokens := updFirst (·.id == id) (fun t => { t with state := 2 }) c.tokens }).stat 0x0705 0 2 1
      (s.hive' t.hive fun x => { x with dormancyTo := 1 }).decideDark t.hive)

/-- COLONY_DORMANT: the queen receives a dormancy reply (R593, R595). -/
def execColonyDormant (ep id : Nat) (s : State) : Host.Outcome State Fault Refusal :=
  ok (s.atQueen ep (·.tokenDormant id))

/-- QUEEN_TOKEN_EXPIRY (R595). -/
def execQueenTokenExpiry (id : Nat) (s : State) : Host.Outcome State Fault Refusal :=
  ok (match s.queen.qTokens.find? (·.id == id) with
    | some t => if s.isQueen && t.expiry ≤ s.ck.tick then s.control 0xFFFF (.queenTokenEnd id) [] else s
    | none => s)

/-- The apiaries of a list: ID, head IDs, vacated, fabric addresses; the fuel bounds their number (R590). -/
def listEntries : Nat → Bytes → List (Nat × Nat × Nat × Bool × List Bytes)
  | 0, _ => []
  | n + 1, b =>
    if b.length < 7 then []
    else
      let k := fld b 6 1
      (fld b 0 1, fld b 1 2, fld b 3 2, fld b 5 1 != 0, (List.range k).map fun i => slice b (7 + 16 * i) 16) ::
        listEntries n (b.drop (7 + 16 * k))

/-- A deposed queen takes the ID that the new queen's catalogue records as vacated, or waits in Quiesce (R602). -/
def State.deposedCourse (s : State) (list : List (Nat × Nat × Nat × Bool × List Bytes)) : State :=
  match list.find? (·.2.2.2.1) with
  | some e =>
    (s.co' fun c => { c with deposed := false }).ownInternal true ⟨apiaryItem, 3, le 1 0 ++ le 1 e.1 ++ le 4 s.co.epoch⟩ []
  | none => ((s.control 0xFFFF .colonyLeave []).autoMode .quiesce).ev0 0xC05 .error (le 4 s.co.epoch)

/-- The apiary named by a planned QUEEN_ASSIGN takes the queen role at its own internal frame, on side A or on the side that
serves alone (R584, R598). -/
def State.planned (s : State) (a epoch : Nat) : State :=
  if a != s.pr.apiary || a = 0 || epoch ≤ s.co.epoch || (s.pr.side == .b && !s.peerAway) then s
  else (s.control 0xFFFF (.queenAssign a epoch true) []).ownInternal true ⟨apiaryItem, 3, le 1 2 ++ le 1 0 ++ le 4 epoch⟩ []

/-- COLONY_SETTINGS at a worker (R587, R590, R598, R600, R604): the class 0x06 settings, the apiary list, and the colony key
generation to send with. -/
def execColonySettings (ep gen : Nat) (items : List (Nat × Bytes)) (keyGen : Nat) (s : State) : Host.Outcome State Fault Refusal :=
  ok (s.atWorker ep fun s => if !s.co.member || s.co.queenHead then s
    else
      let s := (s.takeSix items).co' fun c => { c with settingsGen := gen }
      let list := (items.filter (·.1 == apiaryListItem)).flatMap fun e => listEntries 128 e.2
      let s := if items.any (·.1 == apiaryListItem) then s.co' fun c => { c with
            apiaries := (list.filter (!·.2.2.2.1)).map fun e => (e.1, e.2.1, e.2.2.1, e.2.2.2.2)
            vacated := (list.find? (·.2.2.2.1)).map (·.1) }
        else s
      let s := if s.ks.colony.pend.any (·.1 == keyGen) then
          (s.ks' fun k => { k with colony := k.colony.promote s.ck.now }).reseal
        else if keyGen > s.colonyGen && s.co.lagSince.isNone then s.co' fun c => { c with lagSince := some s.ck.now }
        else s
      let s := if s.co.deposed && items.any (·.1 == apiaryListItem) then s.deposedCourse list else s
      match (items.filter (·.1 == queenItem)).head? with
      | some e => s.planned (fld e.2 0 1) (fld e.2 1 4)
      | none => s)

/-- ARBITRATE at the queen (R557): it confirms the one head shown right; when both are, it elects the head that owns more
domains, side A on a tie; a report alone for 500 ms lets its head continue. The answer waits for the other report, which
this command's second call brings. -/
def execArbitrate (ep head : Nat) (shownRight : Bool) (s : State) : Host.Outcome State Fault Refusal :=
  ok (s.atQueen ep fun s => match s.co.arbiters.find? (·.1 == otherHead head) with
      | none => s.co' fun c => { c with arbiters := c.arbiters.filter (·.1 != head) ++ [(head, shownRight)] }
      | some o =>
        let owns := fun (h : Nat) => (s.queen.catalogue.filter fun e =>
          e.apiary == h / 2 && e.role == 0 && sideN e.side == h % 2).length
        let even := head - head % 2
        let winner :=
          if shownRight && !o.2 then head
          else if !shownRight && o.2 then o.1
          else if !shownRight && !o.2 then 0xFFFF
          else if owns (even + 1) > owns even then even + 1
          else even
        let s := s.co' fun c => { c with arbiters := c.arbiters.filter (·.1 != o.1) }
        (s.send (.col head (.elect winner))).send (.col o.1 (.elect winner)))

/-- UPDATE_STATE of a head at the queen (R608, R609): its apiary has confirmed a version once both of its heads have (R669). -/
def execUpdateState (ep head version : Nat) (pend fallback : Bool) (s : State) : Host.Outcome State Fault Refusal :=
  ok (s.atQueen ep fun s => match s.queen.member? (head / 2) with
      | none => s
      | some m =>
        let hs := m.heads.filter (·.1 != head % 2) ++ [(head % 2, version, !pend)]
        let all := [0, 1].all fun (i : Nat) => hs.any fun x => x.1 == i && x.2.1 == version && x.2.2
        let done := all && !(m.confirmed && m.version == version)
        let s := s.control 0xFFFF (.queenMember { m with
          version := version, heads := hs, confirmed := all, confirmedAt := if done then s.ck.now else m.confirmedAt }) []
        if fallback && s.co.rolling && !s.queen.haltedRollout then
          ((s.control 0xFFFF (.queenRollout s.queen.waves true) []).bump 0x0C04 0 1 1).ev0 0xC07 .error
            (le 1 (head / 2) ++ le 4 version)
        else s)

/-- ROLLOUT_WAVE_OPEN (R608): every apiary of the waves before has confirmed the version, and ROLLOUT_SOAK has passed since
the last of them. -/
def execRolloutWaveOpen (s : State) : Host.Outcome State Fault Refusal :=
  ok (
    let c := s.queen
    let target := s.setting 0x06000004
    let before := c.members.filter fun m => !m.vacated && s.waveOf m.apiary < c.waves
    let last := (before.map (·.confirmedAt)).foldl max 0
    if !s.isQueen || !c.rolling || c.haltedRollout || c.waves > s.lastWave ||
        !(before.all fun m => m.confirmed && m.version == target) ||
        (!before.isEmpty && s.ck.now < last + s.setting 0x06000005 * second) then s
    else (s.control 0xFFFF (.queenRollout (c.waves + 1) false) []).ev0 0xC08 .notice (le 1 c.waves))

end Sys2Proof.Machine
end

