-- ==== Sys2Proof/Machine/ColonyCtl.lean ====
section
/-! DEFINITION. The colony opcodes (R98, R589, R592, R598, R599, R605 to R607). -/

namespace Sys2Proof.Machine

/-- COLONY_STATUS (log 6): role (0 none, 1 worker, 2 queen), reachable, queen epoch, queen address, apiary ID, tokens held,
autonomy budget, seconds of autonomy left. -/
def execColonyStatus (q : VReq) (s : State) : Host.Outcome State Fault Refusal :=
  ok (s.virkan 0x0601 q fun s =>
    let c := s.co
    let left := if c.reachable then 86400
      else 86400 - (s.ck.now - c.lastContact.getD s.ck.now) / second
    s.reply q 0x0601 .success (le 1 (if !c.member then 0 else if c.queenHead then 2 else 1) ++ le 1 (b2n c.reachable) ++
      le 1 s.pr.apiary ++ le 1 c.autonomy ++ le 4 c.epoch ++ le 2 c.tokens.length ++ le 4 left ++ fit 16 c.queenAddr))

/-- COLONY_JOIN's own part (R605, R606). -/
def State.colonyAsk (s : State) (q : VReq) : State :=
  let a := q.num 2 0
  if s.co.member || s.co.joinWait.isSome then s.reply q 0x0602 .exists []
  else if s.ks.colony.cur.isNone && s.ks.colony.pend.isNone then s.reply q 0x0602 .paramInvalid []
  else if a = 0 then
    (s.control 0xFFFF .colonyForm [.reply (q.waiter 0x0602) .success []]).ev0 0xC00 .notice (le 1 0 ++ le 1 1)
  else
    let s := s.co' fun c => { c with
      queenAddr := (q.param 1).getD [], joinWait := some (q.waiter 0x0602, a, s.ck.now) }
    (s.reply q 0x0602 .pending []).send (.col 0xFFFF (.join a s.nv.apiarySerial (2 * a) (2 * a + 1) ownAddrs))

/-- COLONY_JOIN (R605). -/
def execColonyJoin (q : VReq) (s : State) : Host.Outcome State Fault Refusal := ok (s.virkan 0x0602 q (·.colonyAsk q))

/-- COLONY_JOIN_TIMEOUT (R606): no JOIN_REPLY within 10 s. -/
def execColonyJoinTimeout (s : State) : Host.Outcome State Fault Refusal :=
  ok (match s.co.joinWait with
    | some (w, _, t) =>
      if t + 10 * second ≤ s.ck.now then
        (s.co' fun c => { c with joinWait := none }).replyTo w .refusedPeerState []
      else s
    | none => s)

/-- COLONY_LEAVE's own part (R607): the leave takes effect at an internal pair-wide frame (R601). -/
def State.colonyQuit (s : State) (q : VReq) : State :=
  let w := q.waiter 0x0603
  if !s.co.member then s.replyTo w .noChange []
  else if s.pr.apiary = 0 && (s.queen.members.any fun m => m.apiary != 0 && !m.vacated) then s.replyTo w .refusedMode []
  else if !s.rp.groups.isEmpty || !s.rp.replicas.isEmpty then s.replyTo w .refusedMode []
  else s.askFrame w true ⟨apiaryItem, 3, le 1 1 ++ le 1 0 ++ le 4 0⟩
    [.col 0xFFFF (.leave s.pr.apiary), .reply w .success []]

/-- COLONY_LEAVE (R607). -/
def execColonyLeave (q : VReq) (s : State) : Host.Outcome State Fault Refusal := ok (s.virkan 0x0603 q (·.colonyQuit q))

/-- QUEEN_ASSIGN's own part (R598, R599): planned, on the queen for a worker, or in emergency, on the worker itself. -/
def State.queenAsk (s : State) (q : VReq) : State :=
  let a := q.num 1 0
  let w := q.waiter 0x0604
  let e := s.co.epoch + 1
  let told := fun (t : State) (v : Nat) =>
    (t.bump 0x0C04 0 0 1).ev0 0xC04 .critical (le 4 e ++ le 1 v)
  if s.framesFull then s.replyTo w .noFrameSlot []
  else if s.isQueen then
    if a = 0 || !(s.queen.members.any fun m => m.apiary == a && !m.vacated) then s.replyTo w .paramInvalid []
    else
      let six := s.classSix ++ [(queenItem, le 1 a ++ le 4 e)]
      let role := ColMsg.settings s.co.settingsGen six ((s.ks.colony.cur.map (·.1)).getD 0)
      let s := s.toWorkers fun _ => s.settingsMsg s.queen
      let s := (s.send (.col (2 * a) role)).send (.col (2 * a + 1) role)
      let s := s.control 0xFFFF (.queenAssign a e true) []
      told (s.internalFrame true ⟨apiaryItem, 3, le 1 0 ++ le 1 a ++ le 4 e⟩ [.reply w .success []]) a
  else if !s.co.member || a != s.pr.apiary || a = 0 then s.replyTo w .paramInvalid []
  else if s.co.lastContact.any (fun t => s.ck.now < t + 70 * second) || !s.peerLeased then
    s.replyTo w .refusedPeerState []
  else
    let s := s.control 0xFFFF (.queenAssign a e false) []
    told (s.internalFrame true ⟨apiaryItem, 3, le 1 2 ++ le 1 0 ++ le 4 e⟩ [.reply w .success []]) a

/-- QUEEN_ASSIGN (R598). -/
def execQueenAssign (q : VReq) (s : State) : Host.Outcome State Fault Refusal := ok (s.virkan 0x0604 q (·.queenAsk q))

/-- A token's entry of 32 bytes (R592). -/
def WakeToken.bytes (t : WakeToken) : Bytes :=
  le 4 t.id ++ le 1 t.apiary ++ le 1 t.hive ++ le 1 t.prio ++ le 1 t.state ++ le 8 t.expiry ++ le 2 t.cost ++
    le 1 (sideN t.side) ++ zeros 1 ++ le 8 t.granted ++ zeros 4

/-- TOKEN_STATUS (R592): the tokens of the apiary, and its requests not yet answered. -/
def execTokenStatus (q : VReq) (s : State) : Host.Outcome State Fault Refusal :=
  ok (s.virkan 0x0605 q fun s =>
    let asked := s.co.reqs.map fun r =>
      (⟨0, s.pr.apiary, r.2.1, r.2.2, 0, 0, 0, s.pr.side, 0, false⟩ : WakeToken)
    s.reply q 0x0605 .success ((s.co.tokens ++ asked).flatMap (·.bytes)))

/-- A catalogue entry of 32 bytes (R589). -/
def CatEntry.bytes (e : CatEntry) : Bytes :=
  le 2 e.domain ++ le 1 e.apiary ++ le 1 e.role ++ le 1 (sideN e.side) ++ le 1 e.targets.length ++
    (List.range 4).flatMap (fun i => le 1 ((e.targets[i]?).getD 0xFF)) ++ le 2 e.group ++ zeros 4 ++ le 8 e.tick ++ zeros 8

/-- CATALOGUE_READ (R589). -/
def execCatalogueRead (q : VReq) (s : State) : Host.Outcome State Fault Refusal :=
  ok (s.virkan 0x0606 q fun s =>
    let es := s.co.catalogue.filter fun e => !q.has 1 || e.domain == q.num 1 0
    if q.has 1 && es.isEmpty then s.reply q 0x0606 .notFound []
    else s.reply q 0x0606 .success (es.flatMap (·.bytes)))

end Sys2Proof.Machine
end

