-- ==== Sys2Proof/Machine/Diag.lean ====
section
/-! DEFINITION. The diagnostic opcodes (R98). What only hardware can give of them is free (log 23). -/

namespace Sys2Proof.Machine

/-- The only task of this head on a die is an erase. -/
def Link.erasing (l : Link) (die : Nat) : Bool :=
  (l.tasks.filter (·.hdr.die == die)).map (·.hdr.op) == [.erase] && !l.deadDies.contains die && !l.blockedDies.contains die

/-- A read that waits for a die: it is sent once the erase there is suspended (R338), or when its tick comes. -/
def State.waitRead (s : State) (link die block page : Nat) (arg : BitVec 32) (use : TaskUse) : State :=
  s.link' link fun l =>
    let h : TaskHdr :=
      { op := .read, die := die, tag := l.nextTag, epoch := l.epoch, block := block, page := page, arg := arg, head := s.headId }
    { l with nextTag := tagAfter l.nextTag, tasks := l.tasks ++
        [⟨h, use, s.ck.now, s.ck.now + taskDeadline h, [], [], [], some (s.ck.now + 16 * milli), 0⟩] }

/-- In a recovery start a diagnosis brings up the link that it names, alone and at half rate (R627). -/
def State.recoveryLink (s : State) (link : Nat) : State :=
  if !s.md.recovery || (s.link? link).any (·.state == .up) then s
  else match s.bridge? link with
    | some b => if b.powered then ((s.withLink link).linkRises link b).link' link fun l => { l with half := true } else s
    | none => s

/-- DIAG_DIE_READ (R98, R324): one page of plane 0 in SLC mode; an erase of this head on the die is suspended for it (R338). A die that cannot be given a task now answers BUSY, one behind a
link that is not up MEDIA_ERROR (DESIGN CHOICE, log 23). The reply is PENDING, for the comb of a hive is waited for, and the
final one is made when the task is done (R93). -/
def State.diagDieRead (s : State) (q : VReq) : State :=
  let link := q.num 1 0
  let die := q.num 2 0
  let addr := q.num 3 0
  let s := s.recoveryLink link
  match s.link? link with
  | none => s.reply q 0x0B01 .notFound []
  | some l =>
    if l.state != .up then s.reply q 0x0B01 .mediaError []
    else if l.dieCount ≤ die then s.reply q 0x0B01 .notFound []
    else if !s.tasksAllowed then s.reply q 0x0B01 .fenced []
    else if l.erasing die && (s.md.recovery || l.epoch == s.hiveEpoch l.hive) then
      ((s.replyTo (q.waiter 0x0B01) .pending []).waitRead link die (addr / 4096 % 65536) (addr % 4096) 1 (.diag (q.waiter 0x0B01))).suspendFor link
        die
    else if !l.dieFree die || !l.room 1 || (!s.md.recovery && l.epoch != s.hiveEpoch l.hive) then s.reply q 0x0B01 .busy []
    else (s.replyTo (q.waiter 0x0B01) .pending []).sendTask link .read die (addr / 4096 % 65536) (addr % 4096) 1 (.diag (q.waiter 0x0B01)) [] []

/-- DIAG_DIE_READ. -/
def execDiagDieRead (q : VReq) (s : State) : Host.Outcome State Fault Refusal := ok (s.virkan 0x0B01 q (·.diagDieRead q))

/-- DIAG_LINK_LOOP (R98): on a link of a hive this head does not own it is refused. The error counts are free. -/
def State.diagLinkLoop (s : State) (q : VReq) : State :=
  let link := q.num 1 0
  let s := s.recoveryLink link
  match s.link? link with
  | none => s.reply q 0x0B02 .notFound []
  | some l =>
    if !s.isBrood l.hive && !s.owns (.honey l.hive) then s.reply q 0x0B02 .refusedNotOwner []
    else
      let n := s.drawnNat
      (s.afterDraw).reply q 0x0B02 .success (le 4 (Config.diag 0 link n) ++ le 4 (Config.diag 0 link (n + 1)))

/-- DIAG_LINK_LOOP. -/
def execDiagLinkLoop (q : VReq) (s : State) : Host.Outcome State Fault Refusal := ok (s.virkan 0x0B02 q (·.diagLinkLoop q))

/-- DIAG_SELFTEST (R98): refused in a mode that accepts work (DEDUCED, log 23). One result byte for each engine of the mask, which is
free. -/
def State.diagSelftest (s : State) (q : VReq) : State :=
  if s.md.mode.any acceptsMode then s.reply q 0x0B03 .refusedMode []
  else
    let mask := q.num 1 0xFFFFFFFF
    let n := s.drawnNat
    (s.afterDraw).reply q 0x0B03 .success
      (((List.range 32).filter fun i => mask / 2 ^ i % 2 == 1).flatMap fun i => le 1 (Config.diag 1 i n))

/-- DIAG_SELFTEST. -/
def execDiagSelftest (q : VReq) (s : State) : Host.Outcome State Fault Refusal := ok (s.virkan 0x0B03 q (·.diagSelftest q))

/-- DIAG_DUMP (R98): the bytes of the region are free. -/
def execDiagDump (q : VReq) (s : State) : Host.Outcome State Fault Refusal :=
  ok (s.virkan 0x0B04 q fun s => s.afterDraw.reply q 0x0B04 .success (Config.dump (q.num 1 0) s.drawnNat))

end Sys2Proof.Machine
end

