-- ==== Sys2Proof/Machine/EvtCtl.lean ====
section
/-! DEFINITION. The Virkan opcodes of events and counters: EVT_READ (R728), EVT_SUBSCRIBE (R729, R730), CTR_READ (R736 to R739)
and CTR_CLEAR (R740). -/

namespace Sys2Proof.Machine

/-! ## Events -/

/-- EVT_READ (R728): the header names the oldest sequence in the ring, the next one while it holds none, and the next the writer
assigns. -/
def State.evtRead (s : State) (q : VReq) : State :=
  let all := s.recsBySeq
  let some_ := (all.filter fun r => q.num 1 0 ≤ r.seq).take (q.num 2 256)
  let oldest := ((all.head?).map (·.seq)).getD s.ev.nextSeq
  s.reply q 0x0901 .success (le 8 oldest ++ le 8 s.ev.nextSeq ++ some_.flatMap fun r => r.rep.record r.seq)

/-- EVT_READ. -/
def execEvtRead (q : VReq) (s : State) : Host.Outcome State Fault Refusal := ok (s.virkan 0x0901 q (·.evtRead q))

/-- Send what a session's subscription holds as one notice (R730). Its header names the first sequence in it, the records in it with
an E004 counted among them, and the notices lost (log 63). -/
def State.sendNotice (s : State) (x : Session) : State :=
  match x.sub with
  | none => s
  | some b =>
    let recs := b.queue.filterMap fun n => s.ev.ring.find? (·.seq == n)
    let lost := s.ev.subLost.find? (·.1 == x.handle)
    let head := match lost with
      | some (_, _, n, lo, hi, sv) => if n = 0 then [] else lostRecord s.stamp n lo hi sv
      | none => []
    let body := head ++ recs.flatMap fun r => r.rep.record r.seq
    let payload := le 8 (b.queue.headD 0) ++ le 4 (body.length / 64) ++ le 4 ((lost.map (·.2.1)).getD 0) ++ body
    let s := s.session' x.handle fun y => { y with sub := y.sub.map fun c => { c with queue := [] } }
    let s := if x.via.holds then s.freePlace x else s
    if x.via.holds && s.placesTaken x ≥ 32 then s.loseNotice x.handle payload
    else
      let s := s.ev' fun v => { v with subLost := v.subLost.filter (·.1 != x.handle) }
      (s.deliverAs false x.via ⟨0x0902, .success, 0, 0, x.handle, true, payload⟩).stat 6 x.handle 0 1

/-- EVT_SUBSCRIBE (R729): the records pending for a former subscription are sent first (R733). A minimum severity that is neither 0
to 7 nor 0xFF is refused (log 63). -/
def State.evtSubscribe (s : State) (q : VReq) : State :=
  let sev := q.num 1 0
  if 7 < sev && sev != 0xFF then s.reply q 0x0902 .paramInvalid []
  else
    let s := match s.sessionOf q.via q.session with
      | some x => if x.sub.any fun (b : Sub) => !b.queue.isEmpty then s.sendNotice x else s
      | none => s
    let s := s.session' q.session fun x => { x with
      sub := if sev = 0xFF then none else some ⟨sev, q.num 2 0, q.num 3 0xFFF, [], s.ck.now⟩ }
    s.reply q 0x0902 .success []

/-- EVT_SUBSCRIBE. -/
def execEvtSubscribe (q : VReq) (s : State) : Host.Outcome State Fault Refusal := ok (s.virkan 0x0902 q (·.evtSubscribe q))

/-! ## What an index names (R737) -/

/-- The event codes that a chapter defines (R715). -/
def eventCodes1 : List Nat :=
  [0x000, 0x001, 0x002, 0x003, 0x004, 0x020, 0x021, 0x022, 0x023, 0x0F0, 0x100, 0x101, 0x110, 0x111, 0x120, 0x121, 0x122, 0x130,
   0x131, 0x132, 0x210, 0x211, 0x212, 0x213, 0x220, 0x221, 0x222, 0x223, 0x230, 0x240, 0x241, 0x242, 0x243, 0x244, 0x250, 0x310,
   0x320, 0x321, 0x330, 0x331, 0x332, 0x340, 0x350, 0x402, 0x403, 0x405, 0x410, 0x411, 0x412, 0x413, 0x414, 0x416, 0x417, 0x420,
   0x421, 0x430, 0x431]

/-- The rest of the event codes. -/
def eventCodes2 : List Nat :=
  [0x501, 0x502, 0x503, 0x510, 0x520, 0x521, 0x522, 0x530, 0x531, 0x532, 0x541, 0x550, 0x551, 0x600, 0x601, 0x602, 0x603, 0x604,
   0x605, 0x606, 0x607, 0x608, 0x609, 0x700, 0x701, 0x702, 0x703, 0x704, 0x705, 0x706, 0x707, 0x708, 0x709, 0x70A, 0x70B, 0x70C,
   0x70D, 0x801, 0x802, 0x804, 0x805, 0x810, 0x811, 0x812, 0x900, 0x901, 0x903, 0x904, 0x905, 0x906, 0x907]

/-- The rest of the event codes. -/
def eventCodes3 : List Nat :=
  [0xA00, 0xA01, 0xA03, 0xA04, 0xA05, 0xA06, 0xB00, 0xB01, 0xB02, 0xB03, 0xB04, 0xB05, 0xB06, 0xB07, 0xB08, 0xB09, 0xB0A, 0xB0B,
   0xB0C, 0xB0D, 0xB0E, 0xB0F, 0xB10, 0xC00, 0xC01, 0xC02, 0xC03, 0xC04, 0xC05, 0xC06, 0xC07, 0xC08, 0xD00, 0xD01, 0xD02, 0xD03,
   0xD04, 0xD05, 0xD06, 0xE00, 0xE01, 0xE02, 0xE03, 0xE04, 0xE05, 0xE06, 0xF00, 0xF01, 0xF02, 0xF03, 0xF04, 0xF05, 0xF06, 0xF07,
   0xF08, 0xF09]

/-- Links that have been brought up since the start. -/
def State.linksSeen (s : State) : List Nat := (s.cl.links.filter fun l => l.bridgeSeen || l.state == .up).map (·.link)

/-- Heads this head knows of: itself, its peer, and the heads of its colony. -/
def State.headsKnown (s : State) : List Nat :=
  dedupBy ([s.headId, s.peerId] ++ s.co.apiaries.flatMap (fun a => [a.2.1, a.2.2.1]) ++ s.co.members.flatMap fun m => [m.headA, m.headB])

/-- The causes a class counts: alarms by the bits of R704, wakes by those of R761, mailbox faults by SB_MBX_ERROR. -/
def causesOf (cls : Nat) : List Nat := List.range (if cls = 0x0F08 then 3 else 4)

/-- The opcodes a class counts: bridge tasks (R324), NVMe commands (R388, R440). -/
def opcodesOf (cls : Nat) : List Nat :=
  if cls = 0x0602 then [1, 2, 3, 4, 5, 6, 7, 0x80, 0x81]
  else [0x00, 0x01, 0x02, 0x06, 0x08, 0x09, 0x0A, 0x0C, 0x18, 0x19, 0x1A, 0x7F, 0x81, 0x82, 0x85, 0x86, 0x8A, 0x8C, 0x90, 0xC0, 0xC1]

/-- Every index of a kind that exists now (R737). -/
def State.existing (s : State) (cls : Nat) (k : PerKind) : List Nat :=
  match k with
  | .lane => List.range 8
  | .domain => s.vo.domains.map (·.id)
  | .ring => List.range 3
  | .region => List.range 9
  | .channel => List.range 8
  | .purpose => List.range 9
  | .link => s.linksSeen
  | .hive => (s.hv.hives.filter (·.inService)).map (·.id)
  | .nspace => s.vo.nss.map (·.nsid)
  | .opcode => opcodesOf cls
  | .tier => List.range 4
  | .die => (s.cl.links.filter fun l => s.linksSeen.contains l.link).flatMap fun l => (List.range l.dieCount).map (dieIdx l.link)
  | .bus => List.range 2
  | .controller => s.nv.ctrls.map (·.id)
  | .connection => s.nv.conns.map (·.id)
  | .head => s.headsKnown
  | .carrier => List.range 2
  | .context => s.fg.ctxs.map (·.id)
  | .path => s.fg.paths.map (·.id)
  | .wpath => List.range 2
  | .port => List.range 12
  | .group => dedupBy (s.rp.groups.map (·.id) ++ s.rp.replicas.map (·.id))
  | .pair => List.range 4
  | .apiary => dedupBy (s.pr.apiary :: (s.co.apiaries.map (·.1) ++ s.co.members.map (·.apiary)))
  | .resetCause => List.range 6
  | .step => (List.range 14).map (· + 1)
  | .transport => List.range 3
  | .bank => List.range 2
  | .sealOp => [1, 2, 3, 4]
  | .sealClass => List.range 4
  | .digestMode => List.range 2
  | .laneKind => List.range 2
  | .cause => causesOf cls
  | .severity => List.range 8
  | .code => eventCodes1 ++ eventCodes2 ++ eventCodes3
  | .session => s.vk.sessions.map (·.handle)
  | .alignState => List.range 4
  | .direction => List.range 2

/-- Every index of a class that exists now. -/
def State.indices (s : State) (c : CtrClass) : List Nat :=
  match c.per with
  | [] => [0]
  | [k] => s.existing c.cls k
  | k :: l :: _ => (s.existing c.cls k).flatMap fun a => (s.existing c.cls l).map fun b => idx2 a b

/-! ## Counters -/

/-- Least of the samples of a path (R512). -/
def Path.baseRtt (p : Path) : Nat := ((p.baseSamples.map (·.2)).min?).getD 0

/-- The present number that some rows name, which is counted from the tables: ledger entries in use, objects LIVE and RELEASED, OPEN
objects (DEDUCED, log 63). -/
def State.present (s : State) (cls idx pos : Nat) : Option Nat :=
  let objs := fun (st : ObjState) => (s.ob.objs.filter fun o => o.state == st && (cls == 0x1805 || o.domain == idx)).length
  match cls, pos with
  | 0x0508, 0 => some s.vo.ledger.length
  | 0x1802, 0 => some (objs .live)
  | 0x1802, 1 => some (objs .released)
  | 0x1805, 0 => some (if idx = s.headId then objs .opened else 0)
  | _, _ => none

/-- One value of a counter: 8 bytes, SAT, 7 reserved bytes (R738). -/
def State.ctrEntry (s : State) (cls idx pos : Nat) : Bytes :=
  let c := ctrGet s.ct.vals cls idx pos
  match s.present cls idx pos with
  | some v => le 8 v ++ zeros 8
  | none => le 8 c.val ++ le 1 (b2n c.sat) ++ zeros 7

/-- The header of a block (R738). -/
def State.ctrHeader (s : State) (cls kind count idx : Nat) : Bytes := le 2 cls ++ le 1 kind ++ le 1 count ++ le 4 idx ++ le 8 s.ck.tick

/-- The block of one class and index (R738); a gauge of a path is class 0x0980 (R736). -/
def State.ctrBlock (s : State) (cls idx : Nat) : Option Bytes :=
  if cls = 0x0980 then
    (s.path? idx).map fun p => s.ctrHeader cls 2 3 idx ++ [p.srtt, p.baseRtt, p.w].flatMap fun v => le 8 v ++ zeros 8
  else match ctrClass cls with
    | none => none
    | some c =>
      if !(s.indices c).contains idx then none
      else some (s.ctrHeader cls (b2n c.fault) c.count idx ++ (List.range c.count).flatMap (s.ctrEntry cls idx))

/-- The blocks of a class and an index, 0xFFFF_FFFF standing for every one that exists (R737). -/
def State.ctrBlocks (s : State) (cls idx : Nat) : Option Bytes :=
  if idx != 0xFFFFFFFF then s.ctrBlock cls idx
  else if cls = 0x0980 then some ((s.fg.paths.map (·.id)).flatMap fun i => (s.ctrBlock cls i).getD [])
  else (ctrClass cls).map fun c => (s.indices c).flatMap fun i => (s.ctrBlock cls i).getD []

/-- CTR_READ (R738, R739). An absent index is 0. -/
def State.ctrRead (s : State) (q : VReq) : State :=
  let cls := q.num 1 0
  if cls = 0xFFFF then
    let es := pieces 8 q.payload |>.filter (!·.isEmpty)
    if es.isEmpty || q.payload.length % 8 != 0 || 256 < es.length then s.reply q 0x0903 .paramInvalid []
    else match es.mapM fun e => s.ctrBlocks (fld e 0 2) (fld e 4 4) with
      | some bs => s.reply q 0x0903 .success bs.flatten
      | none => s.reply q 0x0903 .notFound []
  else match s.ctrBlocks cls (q.num 2 0) with
    | some b => s.reply q 0x0903 .success b
    | none => s.reply q 0x0903 .notFound []

/-- CTR_READ. -/
def execCtrRead (q : VReq) (s : State) : Host.Outcome State Fault Refusal := ok (s.virkan 0x0903 q (·.ctrRead q))

/-- Classes whose clear needs owner privilege: starts and propolis alarms (R740). -/
def ownerClears (cls : Nat) : Bool := cls == 0x0D01 || cls == 0x010B

/-- CTR_CLEAR (R740): a cleared counter is 0, without SAT, and its E0F0 armed again: it is no longer listed. A gauge keeps its
value. -/
def State.ctrClear (s : State) (q : VReq) : State :=
  let cls := q.num 1 0
  let idx := q.num 2 0
  let owner := (s.sessionOf q.via q.session).any (·.priv == .owner)
  if (s.ctrBlocks cls idx).isNone then s.reply q 0x0904 .notFound []
  else if ownerClears cls && !owner then s.reply q 0x0904 .privilege []
  else
    let s := s.ct' fun t => { t with vals := t.vals.filter fun c => !(c.cls == cls && (idx == 0xFFFFFFFF || c.idx == idx)) }
    s.reply q 0x0904 .success []

/-- CTR_CLEAR. -/
def execCtrClear (q : VReq) (s : State) : Host.Outcome State Fault Refusal := ok (s.virkan 0x0904 q (·.ctrClear q))

end Sys2Proof.Machine
end

