-- ==== Sys2Proof/Machine/HiveCtl.lean ====
section
/-! DEFINITION. The hive and media opcodes: HIVE_STATUS, HIVE_WAKE, HIVE_DARK, SUPER_ATTACH, COMB_RETIRE,
STRIPE_ACCEPT_LOSS and MEDIA_STATS (R98, R243 to R245, R349, R364, R368). -/

namespace Sys2Proof.Machine

/-- HIVE_STATUS of one hive: number, role (1 brood), state, owner side (0xFF none), working combs, gather list length (4)
(log 6). -/
def State.hiveLine (s : State) (h : Hive) : Bytes :=
  le 1 h.id ++ le 1 (b2n h.brood) ++ le 1 (hiveStateN h.state) ++
    le 1 (if h.brood then 0xFF else ((s.ownerOf (.honey h.id)).map sideN).getD 0xFF) ++ le 1 (s.workingCombs h.id) ++
    le 4 h.gather.length

/-- HIVE_STATUS (R349). -/
def execHiveStatus (q : VReq) (s : State) : Host.Outcome State Fault Refusal :=
  ok (s.virkan 0x0401 q fun s =>
    let hs := s.hv.hives.filter fun h => h.inService && (!q.has 1 || h.id == q.num 1 0)
    s.reply q 0x0401 .success (hs.flatMap s.hiveLine))

/-- HIVE_WAKE's own part (R364, R368, R375, R379). -/
def State.hiveWake (s : State) (q : VReq) : State :=
  let h := q.num 1 0
  match s.hive? h with
  | none => s.reply q 0x0402 .notFound []
  | some x =>
    if x.brood then s.reply q 0x0402 .noChange []
    else if !s.owns (.honey h) then s.reply q 0x0402 .refusedNotOwner []
    else
      let s := (s.hive' h fun y => { y with wakeNeedUntil := some (s.ck.now + s.setting 0x04000020 * second) }).askWake h 1
      let asked := (s.hive? h).any fun y => y.tokenAsked.isSome && !y.tokenRefused && y.state == .dark
      let woken := (s.hive? h).any fun y => y.voteUp || y.wanted == some true
      if woken || !s.co.member then s.reply q 0x0402 .success []
      else if asked then
        (s.reply q 0x0402 .pending []).hive' h fun y => { y with waiters := y.waiters ++ [q.waiter 0x0402] }
      else s.reply q 0x0402 .noToken []

/-- HIVE_WAKE (R368). -/
def execHiveWake (q : VReq) (s : State) : Host.Outcome State Fault Refusal := ok (s.virkan 0x0402 q (·.hiveWake q))

/-- HIVE_DARK's own part (R365, R368). -/
def State.hiveDark (s : State) (q : VReq) : State :=
  let h := q.num 1 0
  match s.hive? h with
  | none => s.reply q 0x0403 .notFound []
  | some x =>
    if x.brood then s.reply q 0x0403 .refusedMode []
    else if !s.owns (.honey h) then s.reply q 0x0403 .refusedNotOwner []
    else if x.state == .dark && (s.topNeed x).isNone then s.reply q 0x0403 .noChange []
    else
      let s := s.hive' h fun y => { y with wakeNeedUntil := none }
      if x.state == .dark && !x.voteUp then
        (s.hive' h fun y => { y with wanted := if y.wanted == some true then none else y.wanted }).reply q 0x0403 .success []
      else
        ((s.reply q 0x0403 .pending []).hive' h fun y => { y with waiters := y.waiters ++ [q.waiter 0x0403] }).decideDark h

/-- HIVE_DARK (R368). -/
def execHiveDark (q : VReq) (s : State) : Host.Outcome State Fault Refusal := ok (s.virkan 0x0403 q (·.hiveDark q))

/-- SUPER_ATTACH's own part (R116, R244, R249): an internal frame at the second tick ahead, pair-wide for a brood hive. It is refused
while a bank is on trial on either head (R670). -/
def State.superAsk (s : State) (q : VReq) : State :=
  let h := q.num 1 0
  let old := (s.hive? h).any (·.inService)
  if h ≥ 8 then s.reply q 0x0404 .notFound []
  else if s.reshaping then s.reply q 0x0404 .refusedReshape []
  else if !s.inMode .full || !s.pr.mirror || s.onTrial || s.pr.peerTrial then s.reply q 0x0404 .refusedMode []
  else if old && !s.isBrood h && !s.owns (.honey h) then s.reply q 0x0404 .refusedNotOwner []
  -- both heads bring up the combs of a hive that is new, or that is theirs both
  else s.askFrame (q.waiter 0x0404) (!old || s.isBrood h) ⟨superItem, 3, le 1 h ++ le 2 (q.num 2 0)⟩
    [.reply (q.waiter 0x0404) .success (le 8 (s.ck.tick + 2))]

/-- SUPER_ATTACH (R244). -/
def execSuperAttach (q : VReq) (s : State) : Host.Outcome State Fault Refusal := ok (s.virkan 0x0404 q (·.superAsk q))

/-- A stripe of a hive has an erased member; in a hive that is not powered, only a failed or retired comb erases one (R229). -/
def State.hasErased (s : State) (h : Nat) : Bool :=
  s.sp.table.any fun t => t.hive == h && !t.released && (List.range t.members.length).any fun i =>
    (t.members[i]?).any (fun m => m.state == 1 || (s.link? m.link).any fun y => y.comb == .failed || y.comb == .retired) ||
      (s.hivePowered h && s.memberErased t i)

/-- The working combs that remain in a hive without one more: those under COMB_RETIRE go as well (R243). -/
def State.workLeft (s : State) (h l : Nat) : List Nat :=
  (s.workingLinks h).filter fun k => k != l && !(s.link? k).any (·.retired)

/-- COMB_RETIRE's own part (R243): refused while redundancy is short; otherwise the units are moved one stripe after the
other, and the reply follows the comb's retirement. -/
def State.combRetire (s : State) (q : VReq) : State :=
  let l := q.num 1 0
  match s.link? l with
  | none => s.reply q 0x0405 .notFound []
  | some x =>
    if x.comb == .retired || x.comb == .absent || x.retired then s.reply q 0x0405 .noChange []
    else if s.hasErased x.hive || (s.workLeft x.hive l).length < 6 then
      s.reply q 0x0405 .refusedRedundancy []
    else
      ((s.reply q 0x0405 .pending []).sp' fun p => { p with retiring := p.retiring ++ [(l, some (q.waiter 0x0405))] }).link' l
        fun y => { y with retired := true }

/-- COMB_RETIRE (R243). -/
def execCombRetire (q : VReq) (s : State) : Host.Outcome State Fault Refusal := ok (s.virkan 0x0405 q (·.combRetire q))

/-- STRIPE_ACCEPT_LOSS's own part: a STRIPE_COMMIT of purpose LOSS lists the chunks of the stripe, E414 for each (R41,
R98, R239). -/
def State.acceptLoss (s : State) (q : VReq) : State :=
  let o := q.num 1 0
  match s.stripe? o with
  | none => s.reply q 0x0406 .notFound []
  | some t =>
    let cs := s.rd.chunks.filter fun c => c.state == .stored && c.place.ordinal == o
    if t.released then s.reply q 0x0406 .notFound []
    else if cs.isEmpty then s.reply q 0x0406 .success (le 4 0)
    else
      let s := s.commit 0xFFFF (.stripeCommit o t.hive t.region .loss [] 0 0
          (cs.map fun c => ⟨c.id, c.domain, c.place.off, c.len, c.manifest, c.deferred⟩) 0)
        [.reply (q.waiter 0x0406) .success (le 4 cs.length)]
      cs.foldl (fun t c => (t.event 0x414 .critical c.domain (le 6 c.id ++ le 6 o)).bump 0x0409 0 0 1) s

/-- STRIPE_ACCEPT_LOSS (R98). -/
def execStripeAcceptLoss (q : VReq) (s : State) : Host.Outcome State Fault Refusal :=
  ok (s.virkan 0x0406 q (·.acceptLoss q))

/-- The media counters of a comb: link, then the values of the per-comb classes of chapters 06 and 07, 8 bytes each
(log 6). -/
def State.mediaLine (s : State) (l : Link) : Bytes :=
  le 1 l.link ++ ([0x0407, 0x0408, 0x0503, 0x0504, 0x0509, 0x050A].flatMap fun c => le 8 (ctrGet s.ct.vals c l.link 0).val)

/-- MEDIA_STATS (R98). -/
def execMediaStats (q : VReq) (s : State) : Host.Outcome State Fault Refusal :=
  ok (s.virkan 0x0407 q fun s =>
    let ls := s.cl.links.filter fun l => l.comb != .absent && (!q.has 1 || l.link == q.num 1 0)
    s.reply q 0x0407 .success (ls.flatMap s.mediaLine))

end Sys2Proof.Machine
end

