-- ==== Sys2Proof/Machine/KeyCtl.lean ====
section
/-! DEFINITION. The commands of keys (R90, R688, R689, R698, R701 to R704) and of attestation and the boot ledger (R620,
R641, R643). -/

namespace Sys2Proof.Machine

/-- OWNER_ENROLL: the key must be a point of P-384; the key enrolled already is refused with EXISTS, and another replaces it
(DEDUCED, log 31). T7 is extended by the new key (R90, R637, R638, R640). -/
def State.ownerEnroll (s : State) (q : VReq) : State :=
  let key := (q.param 1).getD []
  if (p384Dec key).isNone then s.reply q 0x0801 .signatureInvalid []
  else if s.ks.owner == some key then s.reply q 0x0801 .exists []
  else if s.logFull then s.reply q 0x0801 .noCapacity []
  else (s.extend 7 0 0x0801 0 key).control 0xFFFF (.ownerEnroll key) [.reply (q.waiter 0x0801) .success []]

/-- OWNER_ENROLL. -/
def execOwnerEnroll (q : VReq) (s : State) : Host.Outcome State Fault Refusal := ok (s.virkan 0x0801 q (·.ownerEnroll q))

/-- KEY_PROVISION: one entry of class 0, 1 or 2, the class that the request names; it becomes the pending generation
(R688, R701). -/
def State.keyProvision (s : State) (q : VReq) : State :=
  match s.openBlob ((q.param 2).getD []) (fun l => l.length == 1 && l.all fun c => c ≤ 2 && c == q.num 1 0) with
  | .error st => s.reply q 0x0802 st []
  | .ok es =>
    let e := es.headD ⟨0, 0, 0, []⟩
    (s.useWrap 0).commit 0xFFFF (.keyChange .classKey e.cls 0xFFFF e.gen 0 (s.wrapCtr 0) none (fit 32 e.key))
      [.reply (q.waiter 0x0802) .success []]

/-- KEY_PROVISION. -/
def execKeyProvision (q : VReq) (s : State) : Host.Outcome State Fault Refusal := ok (s.virkan 0x0802 q (·.keyProvision q))

/-- KEY_ESCROW_EXPORT (R702): a key that is no point of the curve is refused. -/
def State.keyExport (s : State) (q : VReq) : State :=
  let key := (q.param 1).getD []
  if (p384Dec key).isNone then s.reply q 0x0803 .paramInvalid []
  else
    let (s, b) := s.exportBlob key
    s.reply q 0x0803 .success b

/-- KEY_ESCROW_EXPORT. -/
def execKeyEscrowExport (q : VReq) (s : State) : Host.Outcome State Fault Refusal := ok (s.virkan 0x0803 q (·.keyExport q))

/-- The reply of a request that is followed by a reset: it goes out before the reset (R629, R703; log 30). -/
def State.lastReply (s : State) (q : VReq) (op : Nat) (st : VStatus) : State :=
  s.sendReply q.via ⟨op, st, q.tag, q.frame, q.session, false, []⟩

/-- The class key that a blob's entries give: the newest generation is current and the one before it previous (DESIGN CHOICE,
log 32). -/
def restoredClass (es : List VaultEntry) (cls now : Nat) : ClassKey :=
  match ((es.filter (·.cls == cls)).sortBy fun a b => a.gen ≥ b.gen).map fun e => (e.gen, fit 32 e.key) with
  | [] => { prev := none, cur := none, pend := none, changedAt := 0 }
  | a :: l => { prev := l.head?, cur := some a, pend := none, changedAt := now }

/-- Steps 1 to 4 of R703. -/
def State.restoreVault (s : State) (blob : Bytes) (es : List VaultEntry) : State :=
  let one := fun (c n : Nat) => ((es.find? (·.cls == c)).map fun e => e.key.take n)
  let waxOk := (one 5 64).any fun k => checkValue k == s.ks.waxCheck
  let wax := if waxOk then (one 5 64).getD [] else s.drawn 64
  let s := if waxOk then s else
    (s.drawKeys.ev0 0x132 .warn []).wx' fun w => { w with 
      own := [], tail := [], pads := [], shadow := [], shPads := [], journal := [], shJournal := [], isNew := true }
  let recs := s.ks.recs.map fun r =>
    match es.find? fun e => e.cls == 6 && e.idx == r.domain with
    | some e => if r.durableBad && !s.ks.erased.contains r.domain then domainKeys r.domain s.ck.now e.key else r
    | none => r
  let s := (s.ks' fun k => { k with
    pair := restoredClass es 0 s.ck.now, colony := restoredClass es 1 s.ck.now, mgmt := restoredClass es 2 s.ck.now
    metaK := one 3 64, root := one 4 32, wax := some wax, waxCheck := checkValue wax, recs := recs, restoreDue := true }).evictKeys 0xFFFF |>.reseal
  (s.extend 7 0 0x0804 0 blob).ev0 0x131 .notice []

/-- KEY_RESTORE (R703). The reset that follows counts as one of cause 3, RESTART (DESIGN CHOICE, log 30). -/
def State.keyRestore (s : State) (q : VReq) : State :=
  let blob := (q.param 1).getD []
  if s.vaultState = 1 || s.vaultState = 2 then s.reply q 0x0804 .exists []
  else match s.openBlob blob (fun l => l.all (· ≤ 6) && [0, 2, 3, 4].all l.contains) with
    | .error st => s.reply q 0x0804 st []
    | .ok es =>
      if s.logFull then s.reply q 0x0804 .noCapacity []
      else (((s.restoreVault blob es).lastReply q 0x0804 .success).silence).resetNow 3

/-- KEY_RESTORE. -/
def execKeyRestore (q : VReq) (s : State) : Host.Outcome State Fault Refusal := ok (s.virkan 0x0804 q (·.keyRestore q))

/-- A domain key record with the next generation of each kind; the fifth-newest locator generation is erased (R689). -/
def DomainKeys.rotated (r : DomainKeys) (b : Bytes) : DomainKeys :=
  { r with
    data := r.data ++ [(r.newestData + 1, b.take 64)]
    locs := (if r.locs.length ≥ 4 then r.locs.drop (r.locs.length - 3) else r.locs) ++ [(r.newestLoc + 1, slice b 64 32)]
    newestData := r.newestData + 1, newestLoc := r.newestLoc + 1 }

/-- KEY_ROTATE (R689). -/
def State.keyRotate (s : State) (q : VReq) : State :=
  let d := q.num 1 0
  match s.domain? d, s.ks.recs.find? (·.domain == d) with
  | some _, some r =>
    if !s.owns (.domain d) then s.reply q 0x0805 .refusedNotOwner []
    else if r.data.length ≥ 8 || r.newestData ≥ 65535 then s.reply q 0x0805 .noCapacity []
    else
      let n := r.rotated (s.drawn 96)
      (s.drawKeys.useWrap 0).commit d (.keyChange .rotate 6 d n.newestData n.newestLoc (s.wrapCtr 0) (some n) [])
        [.reply (q.waiter 0x0805) .success []]
  | _, _ => s.reply q 0x0805 .notFound []

/-- KEY_ROTATE. -/
def execKeyRotate (q : VReq) (s : State) : Host.Outcome State Fault Refusal := ok (s.virkan 0x0805 q (·.keyRotate q))

/-- KEY_ERASE (R698). -/
def State.keyErase (s : State) (q : VReq) : State :=
  let d := q.num 1 0
  match s.domain? d, s.ks.recs.find? (·.domain == d) with
  | some _, some r =>
    if !s.owns (.domain d) then s.reply q 0x0806 .refusedNotOwner []
    else s.commit d (.keyChange .erase 6 d r.newestData r.newestLoc 0 none []) [.reply (q.waiter 0x0806) .success []]
  | _, _ => s.reply q 0x0806 .notFound []

/-- KEY_ERASE. -/
def execKeyErase (q : VReq) (s : State) : Host.Outcome State Fault Refusal := ok (s.virkan 0x0806 q (·.keyErase q))

/-- The block of KEY_STATUS (R704). -/
def State.keyBlock (s : State) : Bytes :=
  let gen := fun (k : ClassKey) => (k.cur.map (·.1)).getD 0
  let pub := p384Public s.exchangeKey
  le 1 s.vaultState ++ le 1 s.pw.alarm.toNat ++ le 2 s.classesHeld ++ le 4 s.ks.recs.length ++ le 8 s.pw.alarmAt ++
    le 2 (gen s.ks.pair) ++ le 2 (gen s.ks.colony) ++ le 2 (gen s.ks.mgmt) ++ zeros 10 ++ pub ++ zeros 7 ++
    s.identitySign pub ++ zeros 24

/-- KEY_STATUS. -/
def execKeyStatus (q : VReq) (s : State) : Host.Outcome State Fault Refusal :=
  ok (s.virkan 0x0807 q fun s => s.afterDraw.reply q 0x0807 .success s.keyBlock)

/-- ATTEST: refused with KEYS_ERASED while the identity key is gone (R641, R643). -/
def State.attestReply (s : State) (q : VReq) : State :=
  if !s.bt.attestKey then s.reply q 0x0A01 .keysErased []
  else
    let (s, b) := s.attest ((q.param 1).getD [])
    (s.stat 0x0D04 q.via.num 0 1).reply q 0x0A01 .success b

/-- ATTEST. -/
def execAttest (q : VReq) (s : State) : Host.Outcome State Fault Refusal := ok (s.virkan 0x0A01 q (·.attestReply q))

/-- LEDGER_READ: every record of the ring in ascending sequence (R620). -/
def execLedgerRead (q : VReq) (s : State) : Host.Outcome State Fault Refusal :=
  ok (s.virkan 0x0A02 q fun s => s.reply q 0x0A02 .success (s.bt.ledger.flatMap (·.bytes)))

end Sys2Proof.Machine
end

