-- ==== Sys2Proof/Machine/PairCtl.lean ====
section
/-! DEFINITION. The Virkan opcodes of the pair: PAIR_STATUS (R581), REBALANCE (R570, R571), PATH_DRILL (R578, R579),
MIRROR_DISCARD and PAIR_ELECT (R98, R558). -/

namespace Sys2Proof.Machine

/-- The block of PAIR_STATUS (R581). -/
def State.pairBlock (s : State) : Bytes :=
  let mode := fun (m : Option Mode) => le 1 ((m.map modeN).getD 0)
  let mine := s.pr.side
  let fab := fun (f : FabricPair → Bool) => le 1 (flags4 (s.pr.fabric.map f))
  let phase := match s.pr.rebalance with
    | some r => r.phase
    | none => 0
  let honey := (s.hv.hives.filter fun h => !h.brood && s.owns (.honey h.id)).foldl (fun a h => a + 2 ^ h.id) 0
  let lease := s.ck.tick < s.pr.leaseEnd
  fit 128 (le 1 (sideN mine) ++ mode s.md.mode ++ mode s.pr.peerMode ++
    le 1 (b2n s.pr.declared + 2 * b2n s.pr.mirror + 4 * b2n s.pr.mismatchHold + 8 * b2n lease + 16 * b2n s.pr.yielding +
      32 * b2n s.pr.peerDormant) ++
    le 8 s.ck.tick ++ le 8 s.pr.leaseEnd ++ le 8 s.pr.lastGrant ++ le 2 (min 65535 s.pr.missPeer) ++ le 2 (min 65535 s.pr.missFabric) ++
    le 1 (flags4 s.pr.plUp) ++ fab (fun p => p.active == some 1) ++
    fab (fun p => p.active.any fun a => (p.port (1 - a)).eligible) ++ fab (fun p => p.active.isNone) ++
    le 8 s.confirmedOrd ++ le 8 s.shadowTop ++ le 8 s.pr.lastMatch ++ le 2 (min 65535 s.pr.mismatches) ++
    le 2 (s.domainCount mine) ++ le 2 honey ++
    le 1 (b2n (s.owns (.brood .a)) + 2 * b2n (s.owns (.brood .b))) ++ le 1 phase ++
    le 8 ((s.pr.rejoin.map (·.2)).getD 0) ++ le 8 s.pr.lastTakeover)

/-- PAIR_STATUS. -/
def execPairStatus (q : VReq) (s : State) : Host.Outcome State Fault Refusal :=
  ok (s.virkan 0x0501 q fun s => s.reply q 0x0501 .success s.pairBlock)

/-- What moves together with some units: domains whose data lies in a named hive, honey hives that hold data of a named domain,
domains of the same group (R570). -/
def State.closeUnits (s : State) : Nat → List OwnUnit → List OwnUnit
  | 0, us => us
  | n + 1, us =>
    let ds := us.flatMap fun u => match u with
      | .honey h => (s.rd.chunks.filter fun c => c.hive == h && c.state == .stored).map fun c => OwnUnit.domain c.domain
      | .domain d =>
        ((s.rd.chunks.filter fun c => c.domain == d && c.state == .stored && !s.isBrood c.hive).map fun c => OwnUnit.honey c.hive) ++
          (s.rp.groups.filter fun g => g.domains.contains d).flatMap fun g => g.domains.map OwnUnit.domain
      | .brood _ => []
    let all := dedupBy (us ++ ds)
    if all.length = us.length then us else s.closeUnits n all

/-- The units that are not on their home side (R570). -/
def State.offHome (s : State) : List OwnUnit :=
  let off := fun (u : OwnUnit) (home : Side) => s.ownerOf u != some home
  ((s.vo.domains.filter fun d => off (.domain d.id) d.home).map fun d => OwnUnit.domain d.id) ++
    ((s.pr.homes.filter fun e => match e.1 with
      | .domain _ => false
      | u => off u e.2).map (·.1)) ++
    (([Side.a, Side.b].filter fun d => off (.brood d) d && !(s.pr.homes.any (·.1 == .brood d))).map OwnUnit.brood)

/-- A mode that a giver may be in (R571). -/
def givesMode : Mode → Bool
  | .full | .surge | .distil | .mend | .tide => true
  | _ => false

/-- REBALANCE (R570, R571). Units named must belong to one head, the giver; a request whose units belong to both is refused with
REFUSED_NOT_OWNER (DESIGN CHOICE, log 37). -/
def State.rebalance (s : State) (q : VReq) : State :=
  let say := fun (st : VStatus) => s.reply q 0x0502 st []
  let ds := (q.all 1).map rdLe
  let hs := (q.all 2).map rdLe
  if (ds.any fun d => (s.domain? d).isNone) || (hs.any fun h => s.isBrood h || !(s.hive? h).any (·.inService)) then say .notFound
  else
    let named := if q.has 1 || q.has 2 then (ds.map OwnUnit.domain) ++ hs.map OwnUnit.honey else s.offHome
    let us := s.closeUnits (s.vo.domains.length + 9) (dedupBy named)
    let giver := match us.head? with
      | some u => s.ownerOf u
      | none => some s.pr.side
    let gives := giver == some s.pr.side
    let giverMode := if gives then s.md.mode else s.pr.peerMode
    let takerMode := if gives then s.pr.peerMode else s.md.mode
    if s.inMode .takeover then say .refusedTakeover
    else if !s.pr.mirror || !giverMode.any givesMode then say .refusedPeerState
    else if !takerMode.any (fun m => givesMode m || m == .rejoin) then say .refusedPeerState
    else if us.isEmpty || s.pr.rebalance.isSome then say .noChange
    else if us.any fun u => s.ownerOf u != giver then say .refusedNotOwner
    else
      s.askFrame (q.waiter 0x0502) true ⟨rebalanceItem, 3, le 1 (if gives then sideN s.pr.side else sideN (otherSide s.pr.side)) ++ bytesOfUnits us⟩
        [.reply (q.waiter 0x0502) .success (le 8 (s.ck.tick + 2))]

/-- REBALANCE. -/
def execRebalance (q : VReq) (s : State) : Host.Outcome State Fault Refusal := ok (s.virkan 0x0502 q (·.rebalance q))

/-- PATH_DRILL (R578, R579): the standby port becomes active and a WRITE_IMM that asks for an ACK goes to the peer. -/
def State.pathDrill (s : State) (q : VReq) : State :=
  let i := q.num 1 0
  match s.pr.fabric[i]? with
  | none => s.reply q 0x0503 .paramInvalid []
  | some p => match p.active with
    | none => s.reply q 0x0503 .refusedRedundancy []
    | some a =>
      if !(p.port (1 - a)).eligible || s.pr.missPeer ≥ 8 || !s.pr.joined || s.pr.drill.isSome ||
          p.lastSwap.any (fun t => s.ck.now < t + 60 * second) then
        s.reply q 0x0503 .refusedRedundancy []
      else
        let id := ((s.ctx? 6).map (·.nextSend)).getD 0
        let s := (s.pair' i fun x => { x with active := some (1 - a), lastSwap := some s.ck.now }).resendPair i
        let s := s.pr' fun x => { x with drill := some ⟨i, a, id, s.ck.now, some (q.waiter 0x0503)⟩ }
        ((s.postEntry 6 (plainEntry 2 0 [] 0 0 0)).stat 0x0B05 i 1 1).reply q 0x0503 .pending []

/-- PATH_DRILL. -/
def execPathDrill (q : VReq) (s : State) : Host.Outcome State Fault Refusal := ok (s.virkan 0x0503 q (·.pathDrill q))

/-- PATH_DRILL_ACK_TIMEOUT (R578 step 4). -/
def execPathDrillAckTimeout (s : State) : Host.Outcome State Fault Refusal :=
  ok (match s.pr.drill with
    | none => s
    | some d =>
      if s.ck.now < d.atNs + 100 * milli then s
      else
        let s := s.pair' d.pair fun p => { (p.setPort (1 - d.former) fun x => { x with failed := true, eligible := false }) with
          active := some d.former }
        let s := (((s.resendPair d.pair).pr' fun p => { p with drill := none }).ev0 0xB0E .error (le 1 d.pair)).bump 0x0B09 d.pair 0 1
        match d.waiter with
        | some w => s.replyTo w .noChange []
        | none => s)

/-- MIRROR_DISCARD: the mirror of the side named, held here, is discarded; only while its head is away (R98; what the row leaves
open is DESIGN CHOICE, log 38). -/
def State.mirrorDiscard (s : State) (q : VReq) : State :=
  let d := sideOf (q.num 1 0)
  if d == s.pr.side || !s.peerAway then s.reply q 0x0504 .refusedPeerState []
  else s.control 0xFFFF (.mirrorDiscard d) [.reply (q.waiter 0x0504) .success []]

/-- MIRROR_DISCARD. -/
def execMirrorDiscard (q : VReq) (s : State) : Host.Outcome State Fault Refusal := ok (s.virkan 0x0504 q (·.mirrorDiscard q))

/-- PAIR_ELECT: while a mismatch stands unresolved, the side named continues, and the other stops; the reply of the head that stops
follows the acceptance of its MODE_CHANGE record (R35, R558). -/
def execPairElect (q : VReq) (s : State) : Host.Outcome State Fault Refusal :=
  ok (s.virkan 0x0505 q fun s =>
    if !s.pr.unresolved then s.reply q 0x0505 .refusedMode []
    else if sideOf (q.num 1 0) == s.pr.side then (s.endMismatch (some true)).reply q 0x0505 .success []
    else s.endMismatchThen (some false) [.reply (q.waiter 0x0505) .success []])

end Sys2Proof.Machine
end

