-- ==== Sys2Proof/Machine/Repl.lean ====
section
/-! DEFINITION. Replication messages and timers on either end (R518 to R536). -/

namespace Sys2Proof.Machine

/-- A message of a group that this apiary has detached is refused with NAK NOT_BOUND (R531). -/
def State.detachedFrom (s : State) (src group : Nat) : Bool := s.rp.detached.contains (group + 1024 * (src / 2))

/-- The NAK NOT_BOUND of a detached group (R531). -/
def State.notBound (s : State) (src : Nat) : State := s.send (.fnak src 0 0 3 0 0)

/-! ## Setting up -/

/-- The side a replica's domains go to: the shipper's, or the other when that one does not serve (R518). -/
def State.replicaSide (s : State) (src : Nat) : Side :=
  let d := sideOf (src % 2)
  if d == s.pr.side || s.peerLeased then d else s.pr.side

/-- A domain stands in the way of a replica: an ordinary one, or a replica of another group (R518). -/
def State.domainTaken (s : State) (group source d : Nat) : Bool :=
  (s.domain? d).isSome && !((s.replica? group source).any fun r => r.domains.contains d)

/-- SETUP at the receiver (R518, R531). One that comes when the commit ordinals are spent is refused (R45; its cause 3 is a DESIGN CHOICE,
log 93). -/
def execSetup (src group source mode : Nat) (domains : List Nat) (salts : List Bytes) (s : State) :
    Host.Outcome State Fault Refusal :=
  ok (if domains.isEmpty then
      (if (s.replica? group source).isSome && !s.ordSpent then s.control 0xFFFF (.replicaOrphan group source) [] else s)
    else if s.detachedFrom src group then s.notBound src
    else if s.ordSpent then s.send (.repl src (.setupReply group false 3))
    else
      let es := salts.map s.unwrapKeys
      if domains.any (s.domainTaken group source) || es.any (·.isNone) || es.length != domains.length then
        (s.ev0 0xA05 .error (le 2 group ++ le 1 source)).send (.repl src (.setupReply group false 1))
      else
        let s := ((domains.zip (es.filterMap id)).filter fun p => (s.keyRec p.1).isNone).foldl (fun t p =>
          let k := domainKeys p.1 t.ck.now p.2.key
          (t.useWrap 0).commit p.1 (.keyChange .domainCreate 6 p.1 k.newestData k.newestLoc (t.wrapCtr 0) (some k) []) []) s
        let s := s.control 0xFFFF (.replicaSetup group source mode domains (s.replicaSide src)) [.repl src (.setupReply group true 0)]
        s.replica' group source fun r => { r with held := [], offers := [], srcHead := src })

/-- SETUP_REPLY at the shipper (R518, R525, R530): cause 2 is a chunk that failed three times (log 53). -/
def execSetupReply (group : Nat) (accepted : Bool) (cause : Nat) (s : State) : Host.Outcome State Fault Refusal :=
  ok (match s.group? group with
    | none => s
    | some g =>
      let s := s.group' group fun x => { x with queryAt := none }
      if !s.leads g then s
      else if !accepted then
        if cause = 2 then s.lapse group else s.group' group fun x => { x with state := .refused }
      else if g.state != .connecting && g.state != .paused then s
      else
        let s := s.ev0 0xA00 .info (le 2 s.headId ++ le 2 g.targetHead ++ le 2 group)
        if g.based then s.group' group fun x => { x with state := if x.state == .paused then .paused else .shipping }
        else s.startBase group)

/-! ## Positions (R534, R535) -/

/-- POSITION_QUERY at the receiver (R535). -/
def execPositionQuery (src group : Nat) (s : State) : Host.Outcome State Fault Refusal :=
  ok (if s.detachedFrom src group then s.notBound src
    else match s.replica? group (src / 2) with
      | none => s
      | some r =>
        (s.replica' group (src / 2) fun x => { x with held := [], offers := [] }).send (.repl src (.position group r.applied r.ordinal)))

/-- POSITION at the shipper (R534): it ships from one above the returned sequence. -/
def execPosition (group seq ordinal : Nat) (s : State) : Host.Outcome State Fault Refusal :=
  ok (match s.group? group with
    | none => s
    | some g =>
      if !s.leads g || g.state == .refused then s
      else
        let s := s.group' group fun x => { x with
          queryAt := none, inFlight := [], lastShipped := seq, openSince := if x.log.isEmpty then none else some s.ck.now }
        if !g.based then s.startBase group
        else
          let s := s.group' group fun x => { x with state := if x.state == .paused then .paused else .shipping }
          match g.log.find? (·.seq == seq) with
          | some e => if seq > g.confirmed then
              s.commit 0xFFFF (.replProgress group 0 s.pr.apiary seq ordinal e.head e.tick) []
            else s
          | none => s)

/-- POSITION_QUERY_TIMEOUT (R534): after 80 ms the other head of the target is tried. -/
def execPositionQueryTimeout (group : Nat) (s : State) : Host.Outcome State Fault Refusal :=
  ok (match s.group? group with
    | none => s
    | some g =>
      if g.queryAt.any fun t => t + 80 * milli ≤ s.ck.now then s.askTarget g (otherHead g.targetHead) else s)

/-! ## Shipping (R524 to R527) -/

/-- OFFER at the receiver (R524, R525): a chunk is needed when no usable one has its fingerprint, or when it failed before. -/
def execOffer (src group batch : Nat) (fps : List (Bytes × Nat × Nat)) (s : State) : Host.Outcome State Fault Refusal :=
  ok (if s.detachedFrom src group then s.notBound src
    else match s.replica? group (src / 2) with
      | none => s
      | some r =>
        let bits := fps.map fun f => r.need.contains f.1 ||
          !((s.rd.fps.any fun e => e.domain == f.2.1 && e.fp == f.1 && s.usable e.chunk) || s.resolves f.2.1 f.1)
        let wanted := ((fps.zip bits).filter (·.2)).map (·.1.1)
        (s.replica' group (src / 2) fun x => { x with
          offers := x.offers.filter (·.1 != batch) ++ [(batch, wanted)], srcHead := src }).send (.repl src (.need group batch bits)))

/-- NEED at the shipper (R524): the needed chunks are sent, but for those in a dark hive, which is woken for the read. -/
def execNeed (group batch : Nat) (bits : List Bool) (s : State) : Host.Outcome State Fault Refusal :=
  ok (match s.group? group with
    | none => s
    | some g => match g.inFlight.find? fun b => b.num == batch && !b.sent && !b.wait with
      | none => s
      | some b =>
        let now := b.chunks.take 8192
        let need := ((now.zip bits).filter (·.2)).map (·.1)
        let dark := need.filter fun c => (s.darkOf c).isSome
        let s := s.stat 0x0A01 group 1 need.length
        let s := (need.filter (!dark.contains ·)).foldl (fun t c => t.shipChunk g c) s
        let s := (dedupBy (dark.filterMap s.darkOf)).foldl (fun t h => (t.hive' h fun x => { x with
          wakeNeedUntil := some (t.ck.now + t.setting 0x04000020 * second) }).askWake h 1) s
        let rest := b.chunks.drop 8192
        let b := { b with chunks := rest ++ dark, wait := rest.isEmpty && !dark.isEmpty }
        let s := s.group' group fun x => { x with inFlight := x.inFlight.map fun y => if y.num == batch then b else y }
        if b.wait then s else s.offerBatch group b)

/-- A chunk has failed its checks: EA04; its fingerprint, the first one still awaited, is needed again; the third failure of
one chunk lapses the group (R525). -/
def State.chunkFails (s : State) (src : Nat) (r : Replica) : State :=
  let s := (s.bump 0x0A05 r.id 0 1).ev0 0xA04 .error (le 2 r.id ++ le 2 src)
  match (r.offers.flatMap (·.2)).head? with
  | none => s
  | some fp =>
    let n := (((r.fails.find? (·.1 == fp)).map (·.2)).getD 0) + 1
    let s := s.replica' r.id r.source fun x => { x with
      need := if x.need.contains fp then x.need else x.need ++ [fp]
      fails := assocSet x.fails fp n, offers := x.offers.map fun o => (o.1, o.2.erase fp) }
    if n ≥ 3 then (s.replica' r.id r.source fun x => { x with fails := assocDel x.fails fp }).send (.repl src (.setupReply r.id false 2))
    else s

/-- CHUNK at the receiver (R525). While an offered chunk is awaited, the fingerprint must be one of those; a chunk that comes
when none is awaited was sent without an offer, and is decided with a byte compare (log 52). -/
def execChunk (src group domain chunk gen clen : Nat) (body : Bytes) (s : State) : Host.Outcome State Fault Refusal :=
  ok (if s.detachedFrom src group then s.notBound src
    else match s.replica? group (src / 2) with
      | none => s
      | some r => match s.openChunk domain chunk gen clen body with
        | none => s.chunkFails src r
        | some (frame, content) =>
          let fp := s.fingerprint domain content
          let awaited := r.offers.flatMap (·.2)
          if !r.domains.contains domain || (!awaited.isEmpty && !awaited.contains fp) then s.chunkFails src r
          else
            let (s, landed) := s.landShipped domain frame content fp awaited.isEmpty
            if landed then s.replica' group (src / 2) fun x => { x with
              need := x.need.erase fp, fails := assocDel x.fails fp
              offers := x.offers.map fun o => (o.1, o.2.erase fp) }
            else s)

/-- BATCH at the receiver (R526, R528): entries already applied are discarded; a batch waits for its turn; BASE batches go to
the staging state. -/
def execBatch (src group first last : Nat) (base final : Bool) (es : List ShipEntry) (s : State) :
    Host.Outcome State Fault Refusal :=
  ok (if s.detachedFrom src group then s.notBound src
    else match s.replica? group (src / 2) with
      | none => s
      | some r =>
        let source := src / 2
        let s := s.replica' group source fun x => { x with srcHead := src, offers := x.offers.filter (!·.2.isEmpty) }
        if base then
          if first != 1 && first != r.stageNext then s
          else
            let s := s.replica' group source fun x => { x with
              staging := (if first = 1 then [] else x.staging) ++ es, stageNext := last + 1
              stageSeq := ((es.getLast?).map (·.seq)).getD x.stageSeq, stageEnd := final }
            let s := s.keepStaging group source
            if final then s.trySwitch group source else s.send (.repl src (.applied group r.applied))
        else
          let done := s.appliedSeq r
          let dup := (es.filter (·.seq ≤ done)).length
          let s := if dup = 0 then s else s.stat 0x0A03 group 0 dup
          if last ≤ done then s.send (.repl src (.applied group r.applied))
          else
            let h := (max first (done + (if first ≤ done then 1 else 0)), last, es.filter (done < ·.seq))
            let h := if first ≤ done then (done + 1, h.2) else (first, h.2)
            (s.replica' group source fun x => { x with held := x.held.filter (·.1 != h.1) ++ [h] }).tryBatch group source)

/-- The SNAP_SHIP requests of a continuous group whose SNAP_FREEZE has been applied (R533). -/
def State.answerSnaps (s : State) (g : RGroup) (seq : Nat) : State :=
  let waits := fun (n p : Nat) => g.log.any fun e => seq < e.seq && e.items.any fun i => match i with
    | .snapFreeze a b _ => a == n && b == p
    | _ => false
  let (rest, done) := g.snapWait.partition fun w => waits w.1 w.2.1
  done.foldl (fun t w => t.replyTo w.2.2 .noChange []) (s.group' g.id fun x => { x with snapWait := rest })

/-- A shipped snapshot is whole at the receiver (R532). -/
def State.snapShipped (s : State) (g : RGroup) : State :=
  g.snapWait.foldl (fun t w => t.control 0xFFFF (.snapShip g.id w.1 w.2.1) [.reply w.2.2 .success []])
    (s.group' g.id fun x => { x with snapWait := [] })

/-- APPLIED at the shipper (R527): REPL_PROGRESS of role 0; a BASE batch that is applied makes room for the next, and the
last one ends the base pass (R528). -/
def execApplied (group seq : Nat) (s : State) : Host.Outcome State Fault Refusal :=
  ok (match s.group? group with
    | none => s
    | some g =>
      if !s.leads g then s
      else match g.inFlight.find? fun b => b.base && b.sent with
        | some b =>
          let s := s.group' group fun x => { x with inFlight := x.inFlight.filter (·.num != b.num) }
          if b.last != g.baseLog.length then s
          else match g.basePoint with
            | some p =>
              (s.commit 0xFFFF (.replProgress group 0 s.pr.apiary (p - 1) s.wx.lastApplied s.headId s.ck.tick) []).ev0 0xA01 .notice
                (le 2 group ++ le 1 1)
            | none => s.snapShipped g
        | none =>
          let s := s.group' group fun x => { x with inFlight := x.inFlight.filter fun b => b.base || seq < b.last }
          let s := if s.snapMode group then s else s.answerSnaps g seq
          match g.log.find? (·.seq == seq) with
          | some e => if seq > g.confirmed then
              s.commit 0xFFFF (.replProgress group 0 s.pr.apiary seq e.ordinal e.head e.tick) []
            else s
          | none => s)

/-- BATCH_CLOSE (R524). -/
def execBatchClose (group : Nat) (s : State) : Host.Outcome State Fault Refusal := ok (s.closeBatch group)

/-- GROUP_LAPSE (R529): the ship log exceeds REPL_LOG_LIMIT. -/
def execGroupLapse (group : Nat) (s : State) : Host.Outcome State Fault Refusal :=
  ok (match s.group? group with
    | none => s
    | some g =>
      if s.leads g && (g.log.map (·.bytes)).sum > s.setting (0x07000004 + group * 0x100) * 2 ^ 30 then s.lapse group else s)

/-! ## Repair (R536) -/

/-- REPAIR_ASK: the other end's owner of the domain answers. -/
def execRepairAsk (src domain : Nat) (fp : Bytes) (len : Nat) (s : State) : Host.Outcome State Fault Refusal :=
  ok (s.answerAsk src domain fp len)

/-- No target can repair a chunk: EA06 (R536). -/
def State.repairFails (s : State) (r : Repair) : State :=
  (s.rp' fun p => { p with repairs := p.repairs.filter fun x => !(x.domain == r.domain && x.chunk == r.chunk) }).event 0xA06 .error
    r.domain (le 6 r.chunk)

/-- Ask the next target for a chunk, or give up (R536). -/
def State.repairNext (s : State) (r : Repair) : State :=
  match r.left with
  | [] => s.repairFails r
  | g :: rest =>
    let head := ((s.repairFrom r.domain).find? (·.1 == g)).map (·.2)
    let s := s.rp' fun p => { p with repairs := p.repairs.map fun x =>
      if x.domain == r.domain && x.chunk == r.chunk then { x with asked := x.asked ++ [g], left := rest } else x }
    match head with
    | some h => s.send (.repl h (.repairAsk r.domain r.fp (((s.stored? r.chunk).map (·.content.length)).getD 0)))
    | none => s

/-- REPAIR_DATA (R536): checked as R525 does, it is stored under the lost chunk ID and this apiary's own tweak; E331 follows
when it is on flash (R143). -/
def execRepairData (domain chunk gen clen : Nat) (body : Bytes) (s : State) : Host.Outcome State Fault Refusal :=
  ok (match s.openChunk domain chunk gen clen body with
    | none => match s.rp.repairs.find? (·.domain == domain) with
      | some r => ((s.bump 0x0A05 (r.asked.getLastD 0) 0 1).ev0 0xA04 .error (le 2 domain)).repairNext r
      | none => s
    | some (frame, content) =>
      let fp := s.fingerprint domain content
      match s.rp.repairs.find? fun r => r.domain == domain && r.fp == fp with
      | some r =>
        let s := (s.rp' fun p => { p with repairs := p.repairs.filter (· != r) }).stat 0x0A04 0 1 1
        (s.storeFrame 0 0 domain r.chunk content frame fp ⟨false, false, false⟩).flushMap
      | none => s)

/-- REPAIR_NONE (R536). -/
def execRepairNone (domain : Nat) (fp : Bytes) (s : State) : Host.Outcome State Fault Refusal :=
  ok (match s.rp.repairs.find? fun r => r.domain == domain && r.fp == fp with
    | some r => s.repairNext r
    | none => s)

/-- REPAIR_TIMEOUT (R536): 60 s. -/
def execRepairTimeout (domain chunk : Nat) (s : State) : Host.Outcome State Fault Refusal :=
  ok (match s.rp.repairs.find? fun r => r.domain == domain && r.chunk == chunk with
    | some r => if r.atNs + 60 * second ≤ s.ck.now then s.repairFails r else s
    | none => s)

end Sys2Proof.Machine
end

