-- ==== Sys2Proof/Machine/ReplCtl.lean ====
section
/-! DEFINITION. The replication opcodes (R98, R516, R530 to R533). -/

namespace Sys2Proof.Machine

/-- The apiaries of the colony catalogue that this head knows: the queen's list, or the copy a worker was sent (R590). -/
def State.knownApiary (s : State) (a : Nat) : Bool :=
  if s.co.queenHead then s.co.members.any fun m => m.apiary == a && !m.vacated else s.co.apiaries.any (·.1 == a)

/-- RG_CREATE's own part (R516). -/
def State.rgCreate (s : State) (q : VReq) : State :=
  let g := q.num 1 0
  let target := q.num 2 0
  let ds := dedupBy ((q.all 3).map rdLe)
  if (s.group? g).isSome then s.reply q 0x0701 .exists []
  else if !s.co.member || target == s.pr.apiary || !s.knownApiary target || ds.any (fun d => !s.owns (.domain d) || (s.domain? d).isNone) then
    s.reply q 0x0701 .paramInvalid []
  else if s.rp.groups.length ≥ 1023 || ds.length > 256 || ds.any (fun d =>
      let gs := s.rp.groups.filter (·.domains.contains d)
      gs.length ≥ 4 || gs.any (·.target == target)) then
    s.reply q 0x0701 .noCapacity []
  else
    let x := newGroup g target ds s.pr.side
    let (s, m) := s.setupMsg x
    s.control 0xFFFF (.rgCreate g target ds) [.reply (q.waiter 0x0701) .success [], .repl x.targetHead m]

/-- RG_CREATE (R516). -/
def execRgCreate (q : VReq) (s : State) : Host.Outcome State Fault Refusal := ok (s.virkan 0x0701 q (·.rgCreate q))

/-- RG_DELETE's own part (R531): on the shipper, a SETUP with no domains; on the receiver, the group is detached. A group ID
that this apiary both ships and receives names the one it ships (log 57). -/
def State.rgDelete (s : State) (q : VReq) : State :=
  let g := q.num 1 0
  let w := q.waiter 0x0702
  match s.group? g with
  | some x =>
    if !s.leads x then s.replyTo w .refusedNotOwner []
    else s.control 0xFFFF (.rgDelete g) [.reply w .success [], .repl x.targetHead (.setup g s.pr.apiary 0 [] [])]
  | none =>
    if s.rp.replicas.any (·.id == g) then s.control 0xFFFF (.replicaDetach g) [.reply w .success []]
    else s.replyTo w .notFound []

/-- RG_DELETE (R531). -/
def execRgDelete (q : VReq) (s : State) : Host.Outcome State Fault Refusal := ok (s.virkan 0x0702 q (·.rgDelete q))

/-- A group's state code (R530). -/
def rgStateN : RgState → Nat
  | .connecting => 0 | .base => 1 | .shipping => 2 | .paused => 3 | .lapsed => 4 | .refused => 5

/-- A group's 64 bytes of RG_STATUS (R530). -/
def State.rgLine (s : State) (g : RGroup) : Bytes :=
  let lag := if g.log.isEmpty then 0 else s.ck.tick - g.appliedTick
  le 2 g.id ++ le 1 (rgStateN g.state) ++ le 1 g.target ++ le 8 g.lastShipped ++ le 8 g.confirmed ++ le 8 g.appliedOrd ++
    le 4 (min lag 0xFFFFFFFF) ++ le 8 (g.log.map (·.bytes)).sum ++ le 8 (if g.basePoint.isSome then g.baseBytes else 0) ++
    le 2 (b2n (s.snapMode g.id)) ++ zeros 14

/-- RG_STATUS (R98, R530): its row lists no refusal of its own, so a group that is absent gives no line (log 6). -/
def execRgStatus (q : VReq) (s : State) : Host.Outcome State Fault Refusal :=
  ok (s.virkan 0x0703 q fun s =>
    s.reply q 0x0703 .success ((s.rp.groups.filter fun g => !q.has 1 || g.id == q.num 1 0).flatMap s.rgLine))

/-- RG_PAUSE's own part (R530). -/
def State.rgPause (s : State) (q : VReq) (op : Nat) (on : Bool) : State :=
  match s.group? (q.num 1 0) with
  | none => s.reply q op .notFound []
  | some g =>
    if !s.leads g then s.reply q op .refusedNotOwner []
    else if on == (g.state == .paused) then s.reply q op .noChange []
    else s.control 0xFFFF (.rgPause g.id on) [.reply (q.waiter op) .success []]

/-- RG_PAUSE (R530). -/
def execRgPause (q : VReq) (s : State) : Host.Outcome State Fault Refusal := ok (s.virkan 0x0704 q (·.rgPause q 0x0704 true))

/-- RG_RESUME (R530). -/
def execRgResume (q : VReq) (s : State) : Host.Outcome State Fault Refusal := ok (s.virkan 0x0705 q (·.rgPause q 0x0705 false))

/-- The items of a snapshot that differ from the last one of its namespace that was shipped, and its SNAP_FREEZE (R532). -/
def State.snapItems (s : State) (d : Nat) (p : Snapshot) (last : Option Snapshot) : List (ShipItem × List Nat) :=
  let new := s.treeEntries d p.depth p.root 0
  let old := match last with
    | some l => s.treeEntries d l.depth l.root 0
    | none => []
  let same := fun (l : List (Nat × MapEnt)) (e : Nat × MapEnt) => l.any fun x => x.1 == e.1 && x.2.chunk == e.2.chunk && x.2.zero == e.2.zero
  let gone := (old.filter fun e => !new.any (·.1 == e.1)).map fun e => ((.nsZero p.nsid e.1 1 : ShipItem), ([] : List Nat))
  s.mapShip p.nsid (new.filter (!same old ·)) ++ gone ++ [(.snapFreeze p.nsid p.id p.label, [])]

/-- SNAP_SHIP's own part (R532, R533). -/
def State.snapAsk (s : State) (q : VReq) : State :=
  let w := q.waiter 0x0706
  let nsid := q.num 2 0
  match s.group? (q.num 1 0), s.ns? nsid, s.snap? nsid (q.num 3 0) with
  | some g, some n, some p =>
    if !g.domains.contains n.domain then s.replyTo w .notFound []
    else if !s.leads g then s.replyTo w .refusedNotOwner []
    else if !s.snapMode g.id then
      let waits := g.log.any fun e => e.items.any fun i => match i with
        | .snapFreeze a b _ => a == nsid && b == p.id
        | _ => false
      if waits || g.basePoint.isSome then
        (s.replyTo w .pending []).group' g.id fun x => { x with snapWait := x.snapWait ++ [(nsid, p.id, w)] }
      else s.replyTo w .noChange []
    else
      let last := (g.shipped.find? (·.1 == nsid)).bind fun l => s.snap? nsid l.2
      if (g.shipped.find? (·.1 == nsid)).any (·.2 == p.id) then s.replyTo w .noChange []
      else if last.any fun l => p.gen < l.gen then s.replyTo w .paramInvalid []
      else if !g.baseLog.isEmpty then s.replyTo w .busy []
      else
        let s := (s.replyTo w .pending []).layBase g.id (s.baseEntries g.confirmed (s.snapItems n.domain p last))
        s.group' g.id fun x => { x with snapWait := [(nsid, p.id, w)] }
  | _, _, _ => s.replyTo w .notFound []

/-- SNAP_SHIP (R532). -/
def execSnapShip (q : VReq) (s : State) : Host.Outcome State Fault Refusal := ok (s.virkan 0x0706 q (·.snapAsk q))

end Sys2Proof.Machine
end

