-- ==== Sys2Proof/Machine/Update.lean ====
section
/-! DEFINITION. The commands of field update (17): UPD_BEGIN to UPD_LOCK, staging room, the end of the trial window, and RESTART
(R628, R629). -/

namespace Sys2Proof.Machine

/-- EE00: the stage and the versions, base then target (R715; layout log 70). -/
def State.updEvent (s : State) (stage base target : Nat) : State := s.ev0 0xE00 .notice (le 1 stage ++ le 4 base ++ le 4 target)

/-- UPD_BEGIN (R648, R649, R654). -/
def State.updBegin (s : State) (q : VReq) : State :=
  let len := q.num 1 0
  let base := q.num 2 0
  match s.updRefusal true false with
  | some st => s.reply q 0x0A03 st []
  | none =>
    if s.up.open_.isSome || 142606336 < len || (base != 0 && base != s.up.version) then s.reply q 0x0A03 .paramInvalid []
    else if s.onTrial then ((s.bump 0x0D05 0 0 1).ev0 0xD06 .warn (le 1 s.otherBank)).reply q 0x0A03 .bankSelfBusy []
    else
      let u : Update :=
        { len := len, base := base, received := 0, pkg := [], applied := 0, result := [], headerOk := false, verified := false
          staged := 0, heldBlocks := [] }
      ((s.up' fun x => { x with open_ := some u, inactive := [], sector0 := [] }).updEvent 0 base 0).reply q 0x0A03 .success []

/-- UPD_BEGIN. -/
def execUpdBegin (q : VReq) (s : State) : Host.Outcome State Fault Refusal := ok (s.virkan 0x0A03 q (·.updBegin q))

/-- Result bytes programmed so far: sector 0 is held until every other sector has gone (R653). -/
def programmedBytes (n : Nat) (complete : Bool) : Nat := if complete then n else n - 65536

/-- Write what the assembly has produced into the bank that does not execute: a sector is erased before its first write, sector 0
first of all and programmed last (R653). -/
def State.writeResult (s : State) (u : Update) (a : Assembly) : State :=
  let b := s.otherBank
  let before := u.result.length
  let now := a.result.length
  let done := a.complete u.pkg && u.received == u.len
  let sectors := (now + 65535) / 65536 - (before + 65535) / 65536
  let bytes := programmedBytes now done - programmedBytes before false
  let s := (s.stat 0x0E03 b 0 sectors).stat 0x0E02 b 0 bytes
  let img : BankImg := if done then parseBank (a.result ++ (s.bank b).data.drop now) else { s.bank b with magicOk := false }
  let s := if now = 0 then s else s.bt' fun t => { t with banks := t.banks.set b img }
  s.up' fun x => { x with
    inactive := a.result.drop 65536, sector0 := if done then [] else a.result.take 65536
    open_ := some { u with result := a.result, applied := u.received - a.rest.length } }

/-- A block that is to be recorded (R650 to R653). -/
def State.recordBlock (s : State) (w : Waiter) (u : Update) (data : Bytes) : State :=
  let pkg := u.pkg ++ data
  let exec := s.bank s.bt.executing
  let u := { u with pkg := pkg, received := pkg.length, staged := u.staged + data.length }
  if !u.headerOk && 128 ≤ pkg.length && !headerFits pkg u.base exec then
    (((s.up' fun x => { x with open_ := none, sector0 := [] }).ev0 0xE01 .warn []).stat 0x0E01 0 1 1).replyTo w .paramInvalid []
  else if pkg.length < 128 then
    ((s.up' fun x => { x with open_ := some u }).stat 0x0E01 0 0 1).replyTo w .success []
  else
    ((s.writeResult { u with headerOk := true } (assemble exec pkg)).stat 0x0E01 0 0 1).replyTo w .success []

/-- A block as R650 judges it; one for which the staging buffer lacks room is held without a reply (R652). With no update open it is
refused (log 70). -/
def State.judgeBlock (s : State) (w : Waiter) (off crc : Nat) (data : Bytes) : State :=
  let refuse := fun (st : VStatus) => (s.stat 0x0E01 0 1 1).replyTo w st []
  match s.up.open_ with
  | none => refuse .paramInvalid
  | some u =>
    if (crc32c data).toNat != crc then refuse .badBodyCrc
    else if u.len < off + data.length || 65536 < data.length then refuse .paramInvalid
    else if off = u.received then
      if 8 * 2 ^ 20 < u.staged + data.length then
        s.up' fun x => { x with open_ := some { u with heldBlocks := u.heldBlocks ++ [(w, off, crc, data)] } }
      else s.recordBlock w u data
    else if off + data.length ≤ u.received then s.replyTo w .noChange []
    else refuse .paramInvalid

/-- UPD_BLOCK. -/
def execUpdBlock (q : VReq) (s : State) : Host.Outcome State Fault Refusal :=
  ok (s.virkan 0x0A04 q fun s => s.judgeBlock (q.waiter 0x0A04) (q.num 1 0) (q.num 2 0) q.payload)

/-- UPDATE_STAGING_ROOM (R652): so many staged bytes have been applied, and held blocks go on in order. -/
def execUpdateStagingRoom (bytes : Nat) (s : State) : Host.Outcome State Fault Refusal :=
  ok (match s.up.open_ with
    | none => s
    | some u =>
      let held := u.heldBlocks
      let s := s.up' fun x => { x with open_ := some { u with staged := u.staged - bytes, heldBlocks := [] } }
      held.foldl (fun t h => t.judgeBlock h.1 h.2.1 h.2.2.1 h.2.2.2) s)

/-- UPD_VERIFY (R656). The read-back is done within the command: PENDING, then the final reply. -/
def State.updVerify (s : State) (q : VReq) : State :=
  match s.up.open_ with
  | none => s.reply q 0x0A05 .paramInvalid []
  | some u =>
    let b := s.bank s.otherBank
    if u.received != u.len || !(assemble (s.bank s.bt.executing) u.pkg).complete u.pkg then s.reply q 0x0A05 .paramInvalid []
    else if s.logFull then s.reply q 0x0A05 .noCapacity []
    else
      let s := s.reply q 0x0A05 .pending []
      if b.checks s.bt.fusedMin && b.mainOk && b.version == fld u.pkg 12 4 then
        (((s.extend 7 0 0x0A05 0 b.header).up' fun x => { x with open_ := some { u with verified := true } }).updEvent 1 u.base
          b.version).reply q 0x0A05 .success []
      else
        (((s.up' fun x => { x with open_ := none }).ev0 0xE02 .error []).bump 0x0E05 0 0 1).reply q 0x0A05 .signatureInvalid []

/-- UPD_VERIFY. -/
def execUpdVerify (q : VReq) (s : State) : Host.Outcome State Fault Refusal := ok (s.virkan 0x0A05 q (·.updVerify q))

/-- UPD_ACTIVATE (R657). UPDATE_STATE, the reply, the silence and the reset follow the record's acceptance. -/
def State.updActivate (s : State) (q : VReq) : State :=
  match s.updRefusal false true with
  | some st => s.reply q 0x0A06 st []
  | none => match s.up.open_ with
    | none => s.reply q 0x0A06 .paramInvalid []
    | some u =>
      if !u.verified then s.reply q 0x0A06 .paramInvalid []
      else
        let b := s.otherBank
        let v := (s.bank b).version
        let tick := s.ck.tick
        let told := s.updateTold v true false
        let s := (s.bankSelect b 1 0 v tick).up' fun x => { x with trial := some (b, 0) }
        let s := (s.updEvent 2 u.base v).bump 0x0E04 0 0 1
        s.control 0xFFFF (.updActivate b v tick) (told ++ [.reply (q.waiter 0x0A06) .success [], .activate])

/-- UPD_ACTIVATE. -/
def execUpdActivate (q : VReq) (s : State) : Host.Outcome State Fault Refusal := ok (s.virkan 0x0A06 q (·.updActivate q))

/-- UPD_CONFIRM (R662). A head whose trial bank does not run, or that has not reached step 14, is refused with PARAM_INVALID, as R657
refuses (DESIGN CHOICE, log 70). -/
def State.updConfirm (s : State) (q : VReq) : State :=
  match s.updRefusal false false with
  | some st => s.reply q 0x0A07 st []
  | none =>
    if s.up.trial.isNone then s.reply q 0x0A07 .noChange []
    else if !s.onTrial || !s.bt.inService then s.reply q 0x0A07 .paramInvalid []
    else s.control 0xFFFF (.updConfirm s.up.version) [.confirmBank, .reply (q.waiter 0x0A07) .success []]

/-- UPD_CONFIRM. -/
def execUpdConfirm (q : VReq) (s : State) : Host.Outcome State Fault Refusal := ok (s.virkan 0x0A07 q (·.updConfirm q))

/-- UPD_ABORT (R661). -/
def State.updAbort (s : State) (q : VReq) : State :=
  if s.up.open_.isSome then
    ((s.up' fun x => { x with open_ := none, sector0 := [] }).ev0 0xE03 .notice []).reply q 0x0A08 .success []
  else if s.onTrial then (s.reply q 0x0A08 .success []).orderFallback
  else s.reply q 0x0A08 .noChange []

/-- UPD_ABORT. -/
def execUpdAbort (q : VReq) (s : State) : Host.Outcome State Fault Refusal := ok (s.virkan 0x0A08 q (·.updAbort q))

/-- UPD_LOCK (R98). -/
def execUpdLock (q : VReq) (s : State) : Host.Outcome State Fault Refusal :=
  ok (s.virkan 0x0A09 q fun s =>
    let on := q.num 1 0 == 1
    if s.up.lock == on then s.reply q 0x0A09 .noChange []
    else s.control 0xFFFF (.updLock on) [.reply (q.waiter 0x0A09) .success []])

/-- TRIAL_WINDOW_END (R658, R660). -/
def execTrialWindowEnd (s : State) : Host.Outcome State Fault Refusal :=
  ok (match s.up.trial with
    | some (b, t) => if b = s.bt.executing && t != 0 && t ≤ s.ck.rtc && !s.md.stopped then s.orderFallback else s
    | none => s)

/-! ## RESTART -/

/-- RESTART (R628, R629). -/
def State.restart (s : State) (q : VReq) : State :=
  let kind := q.num 1 0
  if s.selfAccepts && !s.peerAccepts then s.reply q 0x0A0A .refusedPeerState []
  else
    let s := s.reply q 0x0A0A .success []
    let s := if kind = 1 then (s.ledgerRec 0x04 0 0 0 0 0 [0#8, 1#8]).pw' fun p => { p with nextRecovery := true }
      else if s.md.recovery then s.ledgerRec 0x06 0 0 0 0 0 []
      else s
    let s := s.pr' fun p => { p with fencedOff := true }
    let s := if s.md.recovery || s.md.keyErased then s
      else ((s.pr' fun p => { p with yielding := true }).sendWaggles false false)
    s.silence.resetNow 3

/-- RESTART. -/
def execRestart (q : VReq) (s : State) : Host.Outcome State Fault Refusal := ok (s.virkan 0x0A0A q (·.restart q))

end Sys2Proof.Machine
end

