-- ==== Sys2Proof/Machine/Virkan.lean ====
section
/-! DEFINITION. Sessions and privilege (R87 to R92): SESSION_OPEN, SESSION_AUTH, SESSION_CLOSE, SESSION_LIST and the
idle expiry. -/

namespace Sys2Proof.Machine

/-- The privilege a number names. -/
def privOf : Nat → Priv
  | 0 => .observer | 1 => .operator | _ => .owner

/-- A slot is free for a session of a transport: 64 in all, 16 on MG (R91). -/
def State.sessionSlot (s : State) (via : Transport) : Bool :=
  s.vk.sessions.length < 64 &&
    (via.holds || (s.vk.sessions.filter fun x => !x.via.holds).length < 16)

/-- SESSION_OPEN's own part (R87, R91): a session at observer privilege, its handle and a nonce. The tag of SESSION_OPEN itself is of no
request of the new session, whose tags on MG start afresh (R84; DESIGN CHOICE, log 86). -/
def State.openSession (s : State) (q : VReq) : State :=
  if !s.sessionSlot q.via then s.reply q 0x0101 .noSessionSlot []
  else
    let nonce := s.drawn 32
    let s := s.afterDraw
    let h := s.vk.nextHandle
    let x : Session :=
      { handle := h, via := q.via, opened := privOf (q.num 1 0), priv := .observer, nonce := nonce, fails := 0
        lastReq := s.ck.now, highTag := none, outstanding := if q.via.holds then [q.tag] else [], confirm := none
        sub := none }
    let s := s.vk' fun v => { v with
      sessions := v.sessions ++ [x], nextHandle := h + 1, opened := v.opened + 1 }
    s.deliver q.via ⟨0x0101, .success, q.tag, q.frame, h, false, nonce⟩

/-- SESSION_OPEN (R87). -/
def execSessionOpen (q : VReq) (s : State) : Host.Outcome State Fault Refusal := ok (s.virkan 0x0101 q (·.openSession q))

/-- The bytes a proof covers: nonce, head ID, privilege (R88). -/
def State.proofText (s : State) (x : Session) : Bytes := x.nonce ++ le 2 s.headId ++ le 1 (privN x.opened)

/-- A proof for the privilege a session was opened for is right (R88). The spec gives no proof for a session opened at observer: any
SESSION_AUTH there fails and counts toward the three (DESIGN CHOICE, log 93). -/
def State.proofOk (s : State) (x : Session) (proof : Bytes) : Bool :=
  match x.opened with
  | .observer => false
  | .operator => s.ks.mgmt.cur.isSome && proof == aesCmac s.mgKey (s.proofText x)
  | .owner => match s.ks.owner with
    | some k => proof.length == 96 && p384Verify k (sha384 (s.proofText x)) proof
    | none => false

/-- SESSION_AUTH's own part: the privilege rises, or the failure counts; the third closes the session (R88, R89). -/
def State.authSession (s : State) (q : VReq) : State :=
  match s.sessionOf q.via q.session with
  | none => s
  | some x =>
    if s.proofOk x ((q.param 1).getD []) then
      (s.session' x.handle fun x => { x with priv := x.opened }).reply q 0x0102 .success (le 1 (privN x.opened))
    else
      let s := (s.session' x.handle fun x => { x with fails := x.fails + 1 }).reply q 0x0102 .authFailed []
      if x.fails + 1 ≥ 3 then
        (s.ev0 0x022 .warn (le 1 q.via.num ++ le 1 (privN x.opened))).closeSession x.handle
      else s

/-- SESSION_AUTH (R88, R89). -/
def execSessionAuth (q : VReq) (s : State) : Host.Outcome State Fault Refusal := ok (s.virkan 0x0102 q (·.authSession q))

/-- SESSION_CLOSE (R98, R102). -/
def execSessionClose (q : VReq) (s : State) : Host.Outcome State Fault Refusal :=
  ok (s.virkan 0x0103 q fun s => (s.reply q 0x0103 .success []).closeSession q.session)

/-- SESSION_LIST's payload: handle (4), transport (1), privilege (1), idle seconds (4) for each session (log 6). -/
def State.sessionList (s : State) : Bytes :=
  s.vk.sessions.flatMap fun x =>
    le 4 x.handle ++ le 1 x.via.num ++ le 1 (privN x.priv) ++ le 4 ((s.ck.now - x.lastReq) / second)

/-- SESSION_LIST (R98). -/
def execSessionList (q : VReq) (s : State) : Host.Outcome State Fault Refusal :=
  ok (s.virkan 0x0104 q fun s => s.reply q 0x0104 .success s.sessionList)

/-- A session is closed after 900 s without a request (R91). -/
def execSessionIdleExpiry (handle : Nat) (s : State) : Host.Outcome State Fault Refusal :=
  ok (match s.vk.sessions.find? (·.handle == handle) with
    | some x => if x.lastReq + 900 * second ≤ s.ck.now then s.closeSession handle else s
    | none => s)

end Sys2Proof.Machine
end

