-- ==== Sys2Proof/Machine/VirkanWire.lean ====
section
/-! DEFINITION. Virkan packets as they arrive (R77, R81 to R85), the lapse of held replies (R94) and of confirmation codes (R96), and
the attestation service (R644). -/

namespace Sys2Proof.Machine

/-- The meaning of an opcode of the catalogue. -/
abbrev OpMeaning := Nat × (VReq → State → Host.Outcome State Fault Refusal)

/-- Sessions, frames and modes. -/
def opsA : List OpMeaning :=
  [(0x0101, execSessionOpen), (0x0102, execSessionAuth), (0x0103, execSessionClose), (0x0104, execSessionList),
   (0x0201, execCfgOpen), (0x0202, execCfgStage), (0x0203, execCfgCheck), (0x0204, execCfgApply), (0x0205, execCfgCancel),
   (0x0206, execCfgStatus), (0x0207, execCfgRead), (0x0208, execModeGet)]
/-- Domains, namespaces, snapshots and hives. -/
def opsB : List OpMeaning :=
  [(0x0301, execDomainCreate), (0x0302, execDomainDelete), (0x0303, execDomainList), (0x0304, execNsCreate), (0x0305, execNsDelete),
   (0x0306, execNsResize), (0x0307, execNsList), (0x0308, execSnapCreate), (0x0309, execSnapDelete), (0x030A, execSnapClone),
   (0x0401, execHiveStatus), (0x0402, execHiveWake), (0x0403, execHiveDark), (0x0404, execSuperAttach), (0x0405, execCombRetire),
   (0x0406, execStripeAcceptLoss), (0x0407, execMediaStats)]
/-- The pair, the colony and replication. -/
def opsC : List OpMeaning :=
  [(0x0501, execPairStatus), (0x0502, execRebalance), (0x0503, execPathDrill), (0x0504, execMirrorDiscard), (0x0505, execPairElect),
   (0x0601, execColonyStatus), (0x0602, execColonyJoin), (0x0603, execColonyLeave), (0x0604, execQueenAssign),
   (0x0605, execTokenStatus), (0x0606, execCatalogueRead), (0x0701, execRgCreate), (0x0702, execRgDelete), (0x0703, execRgStatus),
   (0x0704, execRgPause), (0x0705, execRgResume), (0x0706, execSnapShip)]
/-- Keys, events, attestation, update and diagnosis. -/
def opsD : List OpMeaning :=
  [(0x0801, execOwnerEnroll), (0x0802, execKeyProvision), (0x0803, execKeyEscrowExport), (0x0804, execKeyRestore),
   (0x0805, execKeyRotate), (0x0806, execKeyErase), (0x0807, execKeyStatus), (0x0901, execEvtRead), (0x0902, execEvtSubscribe),
   (0x0903, execCtrRead), (0x0904, execCtrClear), (0x0A01, execAttest), (0x0A02, execLedgerRead), (0x0A03, execUpdBegin),
   (0x0A04, execUpdBlock), (0x0A05, execUpdVerify), (0x0A06, execUpdActivate), (0x0A07, execUpdConfirm), (0x0A08, execUpdAbort),
   (0x0A09, execUpdLock), (0x0A0A, execRestart), (0x0B01, execDiagDieRead), (0x0B02, execDiagLinkLoop), (0x0B03, execDiagSelftest),
   (0x0B04, execDiagDump)]

/-- Run a request that passed steps 1 to 5 of R77; an opcode of no row is refused at step 7. -/
def State.runOp (s : State) (op : Nat) (q : VReq) : State :=
  match (opsA ++ opsB ++ opsC ++ opsD).find? (·.1 == op) with
  | some (_, f) => match f q s with
    | .next t => t
    | _ => s
  | none => s.virkan op q id

/-- A packet of a transport, whole (R77). On MG a header that fails ends the connection (R83); elsewhere its reply carries tag 0 and
session 0 (R97). -/
def State.wire (s : State) (via : Transport) (bs : Bytes) : State :=
  if s.deaf via then s else
  match headerFault bs with
  | some st => match via with
    | .mg conn => ((s.closeVia via).vk' fun v => { v with mgConns := v.mgConns.erase conn }).send (.mgClose conn)
    | _ => s.deliverAs false via ⟨fld bs 4 2, st, 0, fld bs 20 4, 0, false, []⟩
  | none => match s.parseRequest via bs with
    | .error st =>
      let s := if st == .badCmac then s.vk' fun v => { v with badCmac := v.badCmac + 1 } else s
      s.deliverAs false via ⟨fld bs 4 2, st, fld bs 8 4, fld bs 20 4, fld bs 24 4, false, []⟩
    | .ok q => s.runOp (fld bs 4 2) q

/-! ## NVMe (R81, R82) -/

/-- ADMIN_C0H_SUBMIT (R81). A CDW10 that is no multiple of 4 or above 1,048,576 completes with Invalid Field in Command, and no Virkan reply
follows (DESIGN CHOICE, log 86). -/
def execAdminC0hSubmit (e : Sqe) (s : State) : Host.Outcome State Fault Refusal :=
  ok (s.nvme e fun _ s =>
    let n := e.cdw10.toNat
    if n % 4 != 0 || 1048576 < n || n != e.data.length then s.nvEnd e nvBadField
    else (s.nvDone e (fld e.data 8 4) []).wire (.nvme e.ctrl) e.data)

/-- ADMIN_C1H_FETCH (R82). -/
def execAdminC1hFetch (e : Sqe) (s : State) : Host.Outcome State Fault Refusal :=
  ok (s.nvme e fun _ s =>
    let tag := e.cdw11.toNat
    match s.vk.held.find? fun h => h.via == .nvme e.ctrl && (tag == 0xFFFFFFFF || h.rep.tag == tag) with
    | none => s.nvDone e 0 []
    | some h =>
      let p := h.rep.next
      if e.cdw10.toNat < p.length then s.nvDone e (2 ^ 31 + p.length) [] else (s.nvDone e p.length p).fetched h)

/-! ## MG (R83, R644) -/

/-- MG_VIRKAN_PACKET (R83). -/
def execMgVirkanPacket (conn : Nat) (bytes : Bytes) (s : State) : Host.Outcome State Fault Refusal :=
  ok (if s.vk.mgConns.contains conn then s.wire (.mg conn) bytes else s)

/-- ATTESTATION_SERVICE_REQUEST (R644). -/
def execAttestationServiceRequest (conn : Nat) (bytes : Bytes) (s : State) : Host.Outcome State Fault Refusal :=
  ok (if !s.vk.attConns.contains conn || bytes.length != 32 || s.md.stopped || s.md.halted || s.pw.sleep.isSome ||
        !(s.bt.inService || s.md.keyErased) || !s.bt.attestKey then s
    else
      let (s, b) := s.attest bytes
      let s := (s.send (.attReply conn (le 4 b.length ++ b))).send (.mgClose conn)
      (s.vk' fun v => { v with attConns := v.attConns.erase conn }).stat 0x0D04 1 0 1)

/-! ## Lapses -/

/-- VIRKAN_REPLY_EXPIRY (R94): a final or PENDING reply that has stayed unfetched for 120 s is discarded and counted; after a final
one its request is no longer outstanding. -/
def execVirkanReplyExpiry (via : Transport) (session tag : Nat) (s : State) : Host.Outcome State Fault Refusal :=
  ok (match s.vk.held.find? fun h => h.via == via && h.rep.session == session && h.rep.tag == tag && !h.rep.notice &&
        h.atNs + 120 * second ≤ s.ck.now with
    | none => s
    | some h =>
      let s := s.vk' fun v => { v with held := v.held.erase h, discarded := v.discarded + 1 }
      if h.own && h.rep.status.final then s.session' session fun x => { x with outstanding := x.outstanding.erase tag } else s)

/-- CONFIRM_CODE_EXPIRY (R96). -/
def execConfirmCodeExpiry (handle : Nat) (s : State) : Host.Outcome State Fault Refusal :=
  ok (s.session' handle fun x => { x with confirm := x.confirm.filter fun (c : Confirm) => s.ck.now ≤ c.atNs + 60 * second })

end Sys2Proof.Machine
end

