-- ==== Sys2Proof/Machine/Sideband.lean ====
section
/-! DEFINITION. The sideband port's commands (R770 to R778). The sentinel serves them in every state while the always-on supply
holds (R767). -/

namespace Sys2Proof.Machine

/-- An access of the sideband: nothing happens without the always-on supply; the register offset is left at `off`, and a change of
SB_STATUS is judged (R767, R772, R778). -/
def State.sbOp (s : State) (off : Nat) (f : State → State) : Host.Outcome State Fault Refusal :=
  ok (if s.pw.aonOk then (f (s.sb' fun b => { b with offset := off })).judgeStatus else s)

/-! ## Requests (R774 to R776) -/

/-- Bytes of a bank. -/
def bankBytes : Nat := 4096

/-- Firmware drains the request banks: a start has passed step 8 and the head runs (R616, R764, R774). -/
def State.sbDrains (s : State) : Bool := s.bt.executing != 0xFF && !s.deaf .sb

/-- FULL of the request FIFO (R775). -/
def State.reqFull (s : State) : Bool := s.sb.reqWptr == ~~~s.sb.reqRptr

/-- Firmware takes every bank that has passed, and with it each packet capped; REQ_SPACE rises when FULL clears (R774, R778). -/
def State.sbDrain (s : State) : State :=
  if !s.sbDrains then s
  else
    let full := s.reqFull
    let qs := s.sb.queued
    let s := s.sb' fun b => { b with reqRptr := b.reqWptr, queued := [] }
    let s := if full then s.sbCause 1 else s
    (qs.foldl (fun t bs => (t.stat 0x0F06 0 0 1).wire .sb bs) s).sbLoad

/-- SB_REQ_DATA (R776): a bank passes when it is full; a word written while FULL is dropped. -/
def execSbReqData (word : BitVec 32) (s : State) : Host.Outcome State Fault Refusal :=
  s.sbOp 0x100 fun s =>
    if s.reqFull then (s.sb' fun b => { b with reqOverrun := true }).mbxFault 1
    else
      let n := s.sb.req.length
      let s := s.sb' fun b => { b with req := b.req ++ le 4 word.toNat }
      let s := if (n + 4) % bankBytes == 0 then (s.sb' fun b => { b with reqWptr := grayNext b.reqWptr }).sbDrain else s
      if n == 1048576 then s.mbxFault 2 else s

/-- Bytes of the packet without the padding of its final word, which its own lengths tell (R776, log 72). -/
def unpadded (bs : Bytes) : Bytes :=
  let n := 36 + fld bs 12 4 + fld bs 16 4
  if n ≤ bs.length && bs.length < n + 4 then bs.take n else bs

/-- The write pointer back at the packet's first byte (R776); banks that firmware has taken are given back with it. -/
def State.reqRewind (s : State) : State :=
  let p := (List.range (s.sb.req.length / bankBytes % 4)).foldl (fun p _ => grayPrev p) s.sb.reqWptr
  s.sb' fun b => { b with reqWptr := p, reqRptr := if s.sbDrains then p else b.reqRptr, req := [], reqOverrun := false }

/-- SB_REQ_CAP (R776). -/
def execSbReqCap (word : BitVec 32) (s : State) : Host.Outcome State Fault Refusal :=
  s.sbOp 0x108 fun s =>
    let bs := unpadded s.sb.req
    if s.sb.reqOverrun || crc32c bs != word then s.reqRewind.mbxFault 0
    else if 1048576 < s.sb.req.length then s.reqRewind
    else
      let part := s.sb.req.length % bankBytes != 0
      (s.sb' fun b => { b with
        req := [], queued := b.queued ++ [bs], reqWptr := if part then grayNext b.reqWptr else b.reqWptr }).sbDrain

/-! ## Replies (R777) -/

/-- SB_RSP_DATA: up to three bytes with their count, LAST and VALID; 0 when none are readable. -/
def execSbRspData (s : State) : Host.Outcome State Fault Refusal :=
  s.sbOp 0x110 fun s =>
    let s := s.sbLoad
    match s.sb.rsp with
    | [] => s.send (.sbRead 0)
    | p :: ps =>
      let part := p.take 3
      let last := p.length ≤ 3
      let word := BitVec.ofNat 32 (rdLe part + 2 ^ 24 * part.length + 2 ^ 26 * b2n last + 2 ^ 31)
      let s := s.send (.sbRead word)
      if last then
        let h := s.sb.rspOf
        let s := (s.sb' fun b => { b with rsp := ps, rspOf := none, rspRptr := b.rspWptr }).stat 0x0F06 1 0 1
        match h with
        | some h => (s.fetched h).sbLoad
        | none => s.sbLoad
      else s.sb' fun b => { b with rsp := p.drop 3 :: ps }

/-! ## The other registers -/

/-- Bytes that the BMC may read from the reader's bank of the reply FIFO (R773, R774). -/
def State.rspReadable (s : State) : Nat := min bankBytes ((s.sb.rsp.map (·.length)).sum)

/-- Words free in the bank that the BMC writes (R773). -/
def State.reqWordsFree (s : State) : Nat := if s.reqFull then 0 else 1024 - s.sb.req.length / 4 % 1024

/-- What a private read returns from a register that a read leaves as it is (R772, R773); the reads with an effect, SB_RTC_LO and
SB_RSP_DATA, are commands. A register that may only be written has nothing to read. -/
def State.sbReg (s : State) (off : Nat) : Option (BitVec 32) :=
  match off with
  | 0x0000 => some (BitVec.ofNat 32 (0x5441 + 2 ^ 16 * 0xB0 + 2 ^ 24 * 0x01))
  | 0x0004 => some s.sbStatus
  | 0x0008 => some (BitVec.ofNat 32 ((s.pw.tj % 2 ^ 16).toNat + 2 ^ 16 * s.pw.holdup))
  | 0x0010 => some s.sb.rtcHi
  | 0x0014 => some (BitVec.ofNat 32 s.bt.startNum)
  | 0x0030 => some s.sb.intEn
  | 0x0034 => some s.sb.intStatus
  | 0x0108 => some (BitVec.ofNat 32 (b2n s.reqFull + 2 * b2n (!s.sb.req.isEmpty) + 4 * s.reqWordsFree))
  | 0x010C => some s.sb.mbxError
  | 0x0114 => some (BitVec.ofNat 32 (b2n s.sb.rsp.isEmpty + 2 * s.rspReadable))
  | _ => none

/-! ## Pins (R765, R803) -/

/-- PAD_HOLD_OUT: high while the pads are latched (R765, R766). -/
def State.padHoldOut (s : State) : Bool := s.pw.padsHeld

/-- MG_PHY_RESET_N: low from every reset until main firmware starts at step 8 (R803). -/
def State.mgPhyResetN (s : State) : Bool := s.bt.executing != 0xFF && !s.md.recovery && !s.md.halted

/-- SB_RTC_LO: a read latches SB_RTC_HI (R773). -/
def execSbRtcLo (s : State) : Host.Outcome State Fault Refusal :=
  s.sbOp 0x010 fun s =>
    (s.sb' fun b => { b with rtcHi := BitVec.ofNat 32 (s.ck.rtc / 2 ^ 32) }).send (.sbRead (BitVec.ofNat 32 s.ck.rtc))

/-- SB_SENTINEL_RESET (R770): 0xA5, then 0x5A within 1 ms; any other write voids the first. -/
def execSbSentinelReset (word : BitVec 32) (s : State) : Host.Outcome State Fault Refusal :=
  s.sbOp 0x024 fun s =>
    let armed := s.sb.resetArm.any fun t => s.ck.now ≤ t + milli
    let s := s.sb' fun b => { b with resetArm := none }
    if word == 0xA5 then s.sb' fun b => { b with resetArm := some s.ck.now }
    else if word == 0x5A && armed then s.sentinelReset 0xF07 .notice 4 else s

/-- SENTINEL_RESET_ARM_EXPIRY: a gap of more than 1 ms voids the first write (R770). -/
def execSentinelResetArmExpiry (s : State) : Host.Outcome State Fault Refusal :=
  ok (s.sb' fun b => { b with resetArm := b.resetArm.filter fun t => s.ck.now ≤ t + milli })

/-- SB_WAKE: 1 acts as WAKE_N (R756, R761, R773). -/
def execSbWake (word : BitVec 32) (s : State) : Host.Outcome State Fault Refusal :=
  s.sbOp 0x028 fun s => if word.getLsbD 0 then s.latchWake 1 else s

/-- SB_PAD_RELEASE: 1 releases held pads (R766), and EF09. -/
def execSbPadRelease (word : BitVec 32) (s : State) : Host.Outcome State Fault Refusal :=
  s.sbOp 0x02C fun s => if word.getLsbD 0 && s.pw.padsHeld then s.releasePads.ev0 0xF09 .notice [] else s

/-- SB_INT_STATUS: a write of 1 clears (R773). -/
def execSbIntStatus (word : BitVec 32) (s : State) : Host.Outcome State Fault Refusal :=
  s.sbOp 0x038 fun s => s.sb' fun b => { b with intStatus := b.intStatus &&& ~~~word }

/-- SB_MBX_ERROR: a write of 1 clears (R773). -/
def execSbMbxError (word : BitVec 32) (s : State) : Host.Outcome State Fault Refusal :=
  s.sbOp 0x110 fun s => s.sb' fun b => { b with mbxError := b.mbxError &&& ~~~word }

/-- SB_REGISTER_WRITE: SB_INT_EN is the one register with no row of its own that takes a write; its bits [31:4] are reserved (R772,
R773). -/
def execSbRegisterWrite (off : Nat) (word : BitVec 32) (s : State) : Host.Outcome State Fault Refusal :=
  s.sbOp (off + 4) fun s => if off == 0x030 then s.sb' fun b => { b with intEn := word &&& 0xF } else s

end Sys2Proof.Machine
end

