-- ==== Sys2Proof/Machine/Clock.lean ====
section
/-! DEFINITION. Time and sleep (20, 21): PTP and alignment (R746, R749 to R752), Hold and Watch (R754 to R765), WAKE_N, the watchdog
(R769), CHIP_RESET_N (R799) and the release of power-on reset (R790). -/

namespace Sys2Proof.Machine

/-! ## Time -/

/-- A fabric pair has a working port, over which PTP runs (R749). -/
def State.ptpRuns (s : State) : Bool := s.pw.sleep.isNone && !s.md.stopped && s.pr.fabric.any (·.works)

/-- The tick is adjusted towards the master by 0 to 10 periods; how many is a free value (R748, log 80). -/
def State.adjustTick (s : State) : State :=
  let n := s.drawnNat % 11
  (s.afterDraw.ck' fun c => { c with tickAdjust := c.tickAdjust + n }).stat 0x0F05 0 0 n

/-- PTP_MESSAGE: 0 Sync, 1 Follow_Up, 2 Delay_Resp, 3 Announce (R749). The best master is the source of the lowest number (DESIGN CHOICE,
log 80); messages of another source are left. -/
def execPtpMessage (kind src : Nat) (offset : Int) (s : State) : Host.Outcome State Fault Refusal :=
  ok (if !s.ptpRuns then s
    else if kind = 3 then s.ck' fun c => { c with master := some (min src (c.master.getD src)) }
    else if s.ck.master != some src then s
    else if kind = 0 then (((s.ck' fun c => { c with lastSync := some c.now, offset := offset }).send .ptpReq).adjustTick).judgeAlign
    else if kind ≤ 2 then ((s.ck' fun c => { c with offset := offset }).adjustTick).judgeAlign
    else s)

/-- ALIGNMENT_TIMEOUT (R750): Sync or the peer's messages have not come in their time. -/
def execAlignmentTimeout (s : State) : Host.Outcome State Fault Refusal := ok s.judgeAlign

/-- RTC_DISCIPLINE (R746): once per second while the head's time is aligned. -/
def execRtcDiscipline (s : State) : Host.Outcome State Fault Refusal :=
  ok (if s.isAligned && s.ck.rtcDiscAt + second ≤ s.ck.now then s.ck' fun c => { c with rtc := c.now, rtcDiscAt := c.now } else s)

/-! ## Entry to Hold and Watch (R754, R758) -/

/-- Step 1: the DORMANT waggle, and the end of every NVMe/TCP and MG connection. -/
def State.quietHosts (s : State) : State :=
  let s := s.sendDormant
  let s := (s.nv.conns.map (·.id)).foldl (fun t c => (t.send (.tcpClose c)).endConn c) s
  let s := (s.vk.mgConns ++ s.vk.attConns).foldl (fun t c => (t.send (.mgClose c)).closeVia (.mg c)) s
  s.vk' fun v => { v with mgConns := [], attConns := [] }

/-- Step 2: votes down on every hive (R361). -/
def State.votesDown (s : State) : State :=
  (s.hv.hives.filter (·.voteUp)).foldl (fun t h => t.sendVote h.id false) s

/-- A Virkan request is in progress: outstanding, its final reply neither sent nor held, and not that of the frame that ordered the
sleep (R92, R95). -/
def State.requestOpen (s : State) : Bool :=
  s.vk.sessions.any fun x => x.outstanding.any fun tag =>
    !(s.vk.held.any fun h => h.own && h.rep.session == x.handle && h.rep.tag == tag && h.rep.status.final) &&
      !(s.vk.frames.any fun f => f.state == .applied && f.waiter.any fun w => w.session == x.handle && w.tag == tag)

/-- Step 3 is over: the reserved lane is empty, no CRITICAL report waits for it, and every Virkan request in progress has been answered
(R95, R733, R754). -/
def State.mayComplete (s : State) : Bool := s.ev.lane.isEmpty && s.ev.waiting.isEmpty && !s.requestOpen

/-- Bytes of imprint (R757). -/
def imprintLength : Nat := 81 * 2 ^ 20

/-- Change both ports of a pair. -/
def FabricPair.eachPort (p : FabricPair) (f : FabricPort → FabricPort) : FabricPair := { p with even := f p.even, odd := f p.odd }

/-- The rest of the entry: the frame's final reply, EF03, the pads, and every service link but SB down (R754, R758, R765). -/
def State.fallAsleep (s : State) (m : Mode) : State :=
  let old := (s.md.mode.map modeN).getD 0
  let s := s.md' fun d => { d with mode := some m, entering := none, drained := false }
  let s := (s.vk.frames.filter fun f => f.state == .applied && f.waiter.isSome).foldl (fun t f => t.frameReply f .success) s
  let s := (s.ev0 0x021 .notice (le 1 old ++ le 1 (modeN m) ++ le 8 s.ck.tick)).ev0 0xF03 .notice
    (le 4 (if m == .watch then imprintLength else 0))
  let s := (s.stat 0x0F01 0 (b2n (m == .watch)) 1).pw' fun p => { p with padsHeld := true, sleep := some m, wdSuspended := true, wdArmed := none }
  let s := (s.send (.pads true)).cl' fun c => { c with links := c.links.map (·.afterReset) }
  s.pr' fun p => { p with
    plUp := [false, false, false, false]
    fabric := p.fabric.map fun f => f.eachPort fun x => { x with up := false, eligible := false } }

/-- HOLD_ENTRY (R754, R755): it goes as far as step 3 while the lane is not empty. -/
def execHoldEntry (s : State) : Host.Outcome State Fault Refusal :=
  ok (if s.md.entering != some .hold || s.md.stopped then s
    else
      let s := s.quietHosts.votesDown
      if s.mayComplete then (s.fallAsleep .hold).dr' fun d => { d with selfRefresh := true } else s)

/-- WATCH_ENTRY (R758): the imprint is written, DRAM loses its contents and the map SRAM cache is invalidated (R757). -/
def execWatchEntry (s : State) : Host.Outcome State Fault Refusal :=
  ok (if s.md.entering != some .watch || s.md.stopped then s
    else
      let s := s.quietHosts.votesDown
      if s.mayComplete then
        (((s.fallAsleep .watch).pw' fun p => { p with
          imprint := 1, imprintTick := s.ck.tick, imprintBad := false, lastSample := s.ck.rtc }).mc' fun m => { m with lines := [] }).dr'
          fun d => { d with mem := [], trained := false }
      else s)

/-! ## Wakes (R756, R761, R762) -/

/-- The last steps of a wake: Quiesce, the WAKE record, EF04, and the change to WAKE_MODE at the next tick (R121, R756, R762). The time
to WAKE_MODE that EF04 gives is a free value (log 80). The ports that have not failed are up again. -/
def State.wakeUp (s : State) (left : Mode) : State :=
  let causes := s.pw.wakeCause
  let time := s.drawnNat % 2 ^ 32
  let s := (s.afterDraw.releasePads).pw' fun p => { p with sleep := none, wakeCause := 0 }
  let s := s.pr' fun p => { p with fabric := p.fabric.map fun f => f.eachPort fun x => { x with up := !x.failed } }
  let s := ((List.range 4).filter fun i => causes.getLsbD i).foldl (fun t i => t.stat 0x0F02 i 0 1) s
  let s := (s.autoMode .quiesce).ledgerRec 0x05 0 0 0 0 0 (le 1 (modeN left))
  ((s.ev0 0xF04 .notice ([BitVec.ofNat 8 causes.toNat] ++ le 4 time)).md' fun d => { d with wakePending := true }).sbDrain

/-- HOLD_WAKE (R756). -/
def execHoldWake (s : State) : Host.Outcome State Fault Refusal :=
  ok (if s.pw.sleep != some .hold || s.pw.wakeCause = 0 then s
    else (s.dr' fun d => { d with selfRefresh := false }).wakeUp .hold)

/-- The imprint fails its CRC (R763): EF05 as a last-gasp record, and a start with reset cause 5. -/
def State.imprintFails (s : State) : State :=
  (((s.bump 0x0F07 1 0 1).pw' fun p => { p with imprintBad := true }).lastGasp 0xF05 .fatal []).resetNow 5

/-- WATCH_WAKE (R726, R762, R763): the imprint is restored, DRAM trained again, the ring scanned, and the filter build begun. -/
def execWatchWake (imprintOk : Bool) (s : State) : Host.Outcome State Fault Refusal :=
  ok (if s.pw.sleep != some .watch || s.pw.wakeCause = 0 then s
    else if !imprintOk || s.pw.imprint != 1 then s.imprintFails
    else
      let s := (s.pw' fun p => { p with imprint := 2 }).dr' fun d => { d with trained := true }
      let s := s.firstRecord
      let s := (s.rd' fun r => { r with filter := [] }).restartFilter
      s.wakeUp .watch)

/-- WATCH_SAMPLE (R760, R761): Tj in 1/16 °C and the reserve in ms; in Watch once per WATCH_INTERVAL, otherwise the sentinel's running
reading (R800, log 71). Tj beyond the propolis limits is an alarm and no wake (R705). -/
def execWatchSample (tj : Int) (holdup : Nat) (s : State) : Host.Outcome State Fault Refusal :=
  let alarm := tj < -720 || 1920 < tj
  let read := fun (t : State) => (t.pw' fun p => { p with tj := tj, holdup := min holdup 1200 }).stat 0x0F03 0 0 1
  ok (if !s.pw.aonOk then s
    else if s.pw.sleep != some .watch then (if alarm then (read s).propolisAlarm 2 else read s)
    else if s.ck.rtc < s.pw.lastSample + s.setting 0x02000004 * second then s
    else
      let s := (read s).pw' fun p => { p with lastSample := s.ck.rtc }
      if alarm then s.propolisAlarm 2
      else
        let s := if s.settingInt 0x02000006 * 16 < tj || tj < s.settingInt 0x02000007 * 16 then s.latchWake 2 else s
        if s.setting 0x02000008 != 0 && s.pw.holdup < s.setting 0x02000008 then s.latchWake 3 else s)

/-- WAKE_N low for at least 100 µs is a wake cause (R756, R761, R799). -/
def execWakeN (us : Nat) (s : State) : Host.Outcome State Fault Refusal := ok (if 100 ≤ us && s.pw.aonOk then s.latchWake 0 else s)

/-! ## The watchdog and the resets (R768, R769, R790, R799) -/

/-- WATCHDOG_KICK (R769): firmware that has stopped kicks nothing. -/
def execWatchdogKick (s : State) : Host.Outcome State Fault Refusal :=
  ok (if s.pw.wdArmed.isNone || s.pw.wdSuspended || s.md.stopped then s
    else s.pw' fun p => { p with wdArmed := some (s.ck.now + s.setting 0x0200000A * milli) })

/-- WATCHDOG_EXPIRY (R769). -/
def execWatchdogExpiry (s : State) : Host.Outcome State Fault Refusal :=
  ok (match s.pw.wdArmed with
    | some t => if s.ck.now < t || s.pw.wdSuspended then s else (s.bump 0x0F07 0 0 1).sentinelReset 0xF06 .fatal 2
    | none => s)

/-- CHIP_RESET_N low for a time (R799): from 1 µs on a reset, below 500 ns nothing; between the two either, a free value (log 3). -/
def execChipResetN (ns : Nat) (s : State) : Host.Outcome State Fault Refusal :=
  ok (if ns < 500 || !s.pw.aonOk then s
    else if 1000 ≤ ns then s.resetDevice 1
    else
      let takes := s.drawnNat % 2 == 1
      if takes then s.afterDraw.resetDevice 1 else s.afterDraw)

/-- POWER_ON_RESET_RELEASE (R707, R790): crystal, supplies and reference are good; an alarm condition that stands keeps the reset. -/
def execPowerOnResetRelease (s : State) : Host.Outcome State Fault Refusal :=
  ok (if s.pw.alarmStands != 0 then s
    else s.pw' fun p => { p with
      aonOk := true, suppliesOk := true, xtalOk := true, refOk := true
      startDue := p.startDue || p.inReset, inReset := false, waxStopped := false })

end Sys2Proof.Machine
end

