-- ==== Sys2Proof/Machine/Forage.lean ====
section
/-! DEFINITION. The commands of Forage (12): packets that arrive, acknowledgements, the send queues, the timers of a
connection, contexts and paths. -/

namespace Sys2Proof.Machine

/-! ## Packets -/

/-- FORAGE_WRITE (R480, R490): a WRITE packet; on contexts 2 and 3 its message carries a wax record, on context 4 a journal
entry. -/
def execForageWrite (p : FPkt) (carried : Option ShadowRec) (journal : Option JournalEntry) (s : State) :
    Host.Outcome State Fault Refusal :=
  ok (if s.md.stopped then s else s.arrive { p with op := 1 } carried journal)

/-- WRITE_IMM (R480, R490). -/
def execWriteImm (p : FPkt) (s : State) : Host.Outcome State Fault Refusal :=
  ok (if s.md.stopped then s else s.arrive { p with op := 2 } none none)

/-- READ_REQ (R493). -/
def execReadReq (p : FPkt) (s : State) : Host.Outcome State Fault Refusal :=
  ok (if s.md.stopped then s else s.arrive { p with op := 3 } none none)

/-- READ_RESP (R493). -/
def execReadResp (p : FPkt) (s : State) : Host.Outcome State Fault Refusal :=
  ok (if s.md.stopped then s else s.arrive { p with op := 4 } none none)

/-! ## Acknowledgement -/

/-- Messages of contexts 2 to 4 that the peer acknowledged: the copies they carried are confirmed (R30, R226). -/
def State.confirmMirror (s : State) (ctx : Nat) (ms : List SentMsg) : State :=
  let ids := ms.map (·.entry.cookie.toNat)
  if ctx = 4 then s.wx' fun w => { w with journal := w.journal.map fun e => if ids.contains e.seq then { e with peerOk := true } else e }
  else s.wx' fun w => { w with own := w.own.map fun r => if ids.contains r.ordinal then { r with peerOk := true } else r }

/-- The packet of a PATH_DRILL was acknowledged: the drill passes (R578). -/
def State.drillAcked (s : State) (ctx : Nat) (ms : List SentMsg) : State :=
  match s.pr.drill with
  | none => s
  | some d =>
    if ctx != 6 || !(ms.any (·.id == d.msg)) then s
    else
      let s := (s.pr' fun p => { p with drill := none }).ev0 0xB0D .notice (le 1 d.pair)
      match d.waiter with
      | some w => s.replyTo w .success []
      | none => s

/-- What an ACK brings (R495, R496, R512, R513). An ACK that names the ID after the READ_REQ whose READ_RESP is out acknowledges
that READ_RESP (DESIGN CHOICE, log 62). -/
def State.forageAck (s : State) (c : Ctx) (id : BitVec 32) (residence : Nat) (map : BitVec 64) (echo : Nat) : State :=
  if c.readWait.any fun m => m.id == id - 1 then
    (s.ctx' c.id fun x => { x with readWait := none, lastUse := s.ck.now }).showMsgs c.id echo false
  else
    let done := c.sent.filter fun m => !idGe m.id id
    let newly := (done.map (·.entry.len)).sum
    let left := (c.sent.filter fun m => idGe m.id id).map fun m =>
      { m with placed := m.placed || (1 ≤ (m.id - id).toNat && (m.id - id).toNat ≤ 64 && map.getLsbD ((m.id - id).toNat - 1)) }
    let s := if c.rtos = 0 && !done.isEmpty then s.samplePath c.path (s.ck.now - echo - residence) newly else s
    let c' := { c with sent := left, lastUse := s.ck.now, resident := true }
    let c' := done.foldl (fun (x : Ctx) m =>
      let y := { x with tx := x.tx + 1 }
      if m.entry.signal then y.post m.id 2 0 m.entry.len 0 m.entry.cookie else y) c'
    let c' := if done.isEmpty then c' else
      { c' with rto := s.rtoOf c.path, rtos := 0, rtoAt := s.ck.now + s.rtoOf c.path }
    let s := ((s.putCtx c').evictOne).drillAcked c.id done
    let s := if isMirrorCtx c.id && !done.isEmpty then (s.confirmMirror c.id done).settle.issueAll else s
    s.pumpAll

/-- The packet of an ACK of a context: its body after R495, its reserved bytes as they have come, which the CMAC covers and the head ignores
(R7). -/
def FPkt.ackOf (p : FPkt) (ctx : Nat) (id : BitVec 32) (rx : Nat) (map : BitVec 64) (echo : Nat) : FPkt :=
  { p with op := 0x10, dstCtx := ctx, payload := le 4 id.toNat ++ le 8 map.toNat ++ le 8 echo ++ le 4 rx ++ fit 8 (slice p.payload 24 8) }

/-- The packet of a NAK of a context: its body after R496, its reserved bytes as they have come, which the CMAC covers and the head ignores
(R7). -/
def FPkt.nakOf (p : FPkt) (ctx : Nat) (id : BitVec 32) (code off map : Nat) : FPkt :=
  { p with op := 0x11, dstCtx := ctx, payload := le 2 code ++ fit 2 (slice p.payload 2 2) ++ le 4 id.toNat ++ le 4 off ++ le 8 map ++ fit 12 (slice p.payload 20 12) }

/-- FORAGE_ACK (R480, R495, R496): the packet passes checks 1 to 4 and comes from the far end of its context. -/
def execForageAck (p : FPkt) (ctx : Nat) (id : BitVec 32) (rx : Nat) (map : BitVec 64) (echo : Nat) (s : State) :
    Host.Outcome State Fault Refusal :=
  if s.md.stopped then ok s
  else
    let p := p.ackOf ctx id rx map echo
    let (s, admitted) := s.checkPkt p p.fitsAnswer
    ok (match s.ctx? p.dstCtx with
      | some c =>
        if !admitted || c.farHead != p.srcHead || c.farCtx != p.srcCtx || (c.state != .bound && c.state != .broken) ||
          (isMirrorCtx c.id && s.pr.declared) then s
        else s.forageAck c (BitVec.ofNat 32 (fld p.payload 0 4)) (fld p.payload 20 4) (BitVec.ofNat 64 (fld p.payload 4 8)) (fld p.payload 12 8)
      | none => s)

/-- Packets of one message whose bits are clear are sent again (R496). -/
def State.resendMissing (s : State) (c : Ctx) (m : SentMsg) (off map : Nat) : State :=
  if isMirrorCtx c.id then s.resendMsgs c [m]
  else s.sendPackets c (m.entry.msg m.id m.origin m.size true) fun o =>
    off ≤ o && (o - off) % m.size == 0 && (o - off) / m.size < 64 && map / 2 ^ ((o - off) / m.size) % 2 == 0

/-- What a NAK of a code brings, by its body (R496): the message ID of MISSING and REMOTE_ACCESS follows the code; RNR names by its own
message ID the message that waits. -/
def State.forageNak (s : State) (c : Ctx) (p : FPkt) : State :=
  let ctx := c.id
  let id := BitVec.ofNat 32 (fld p.payload 4 4)
  match fld p.payload 0 2 with
        | 1 => match c.sent.find? (·.id == id) with
          | some m => s.resendMissing c m (fld p.payload 8 4) (fld p.payload 12 8)
          | none => s
        | 5 =>
          let ms := c.sent.filter fun m => idGe m.id id
          if ms.isEmpty then s
          else
            let s := s.ctx' ctx fun x => ms.foldl (fun y m => if m.id == id then y.post m.id 3 5 m.entry.len 0 (BitVec.ofNat 64 y.tx) else y)
              { x with sent := x.sent.filter (·.id != id) }
            s.breakSend c 5 (ms.filter (·.id != id))
        | 6 => s
        | 7 => s.ctx' ctx fun x => { x with
            sent := updFirst (fun (m : SentMsg) => m.id == p.msgId) (fun m => { m with
              rnrUntil := some (s.ck.now + fld p.payload 4 4 * 1000) }) x.sent }
        | 2 => s.failCtx c 2
        | 3 => s.failCtx c 3
        | 4 => s.failCtx c 4
        | 8 => s.failCtx c 8
        | _ => s

/-- FORAGE_NAK (R480, R496): the packet passes checks 1 to 4 and comes from the far end of its context. -/
def execForageNak (p : FPkt) (ctx : Nat) (id : BitVec 32) (code off map : Nat) (s : State) : Host.Outcome State Fault Refusal :=
  if s.md.stopped then ok s
  else
    let p := p.nakOf ctx id code off map
    let (s, admitted) := s.checkPkt p p.fitsAnswer
    ok (match s.ctx? p.dstCtx with
      | some c => if !admitted || c.farHead != p.srcHead || c.farCtx != p.srcCtx || c.state != .bound then s else s.forageNak c p
      | none => s)

/-! ## Sending -/

/-- SEND_QUEUE_POST (R487): entries are taken while the queue has room for them. -/
def execSendQueuePost (ctx : Nat) (es : List WorkEntry) (s : State) : Host.Outcome State Fault Refusal :=
  ok (match s.ctx? ctx with
    | some c =>
      if s.md.stopped then s
      else (s.ctx' ctx fun x => { x with sq := x.sq ++ es.take (2 ^ c.sqSize - c.sq.length) }).pump ctx
    | none => s)

/-- Messages that a retransmission sends: unacknowledged, not shown placed, not in a back-off. -/
def Ctx.toResend (c : Ctx) : List SentMsg := c.sent.filter fun m => !m.placed && m.rnrUntil.isNone

/-- The timer of a context that is being bound with a head of another apiary: its binding message is sent again, or for the first time where
it waited for a path; to the peer it goes through context 1, which has its own timer (R498, R509). -/
def State.rebindTimeout (s : State) (c : Ctx) : State :=
  if s.sameApiary c.farHead && (s.path? c.path).any (·.farHead == c.farHead) then s
  else
    let rto := min (2 * c.rto) (10 * milli)
    (s.ctx' c.id fun x => { x with rto := rto, rtos := x.rtos + 1, rtoAt := s.ck.now + rto }).sendBinding c.id

/-- RETRANSMISSION_TIMEOUT (R498, R511): what is sent and not acknowledged is sent again, a READ_RESP with it; so is a binding message. A
timer of 1 ms or more must have run (log 7). -/
def execRetransmissionTimeout (ctx : Nat) (s : State) : Host.Outcome State Fault Refusal :=
  ok (match s.ctx? ctx with
    | none => s
    | some c =>
      if s.md.stopped || (milli ≤ c.rto && s.ck.now < c.rtoAt) then s
      else if c.state == .binding then s.rebindTimeout c
      else if (c.sent.isEmpty && c.readWait.isNone) || c.state != .bound then s
      else
        let rto := min (2 * c.rto) (10 * milli)
        let s := s.ctx' ctx fun x => { x with rto := rto, rtos := x.rtos + 1, rtoAt := s.ck.now + rto }
        let fabric := (s.path? c.path).any (·.fabric)
        let s := if fabric && (c.rtos + 1) % 2 = 0 then
            (s.path' c.path fun p => { p with which := (p.which + 1) % 4 }).ev0 0x904 .notice (le 2 ctx)
          else s
        let s := s.resendMsgs c c.toResend
        match c.readWait with
        | some m => s.sendResp c m true
        | none => s)

/-- MESSAGE_GIVE_UP (R499): 80 ms after its origin time the oldest message is given up, and every later one with it; so are a READ_RESP
and a binding that no reply has answered (R509). -/
def execMessageGiveUp (ctx : Nat) (s : State) : Host.Outcome State Fault Refusal :=
  ok (match s.ctx? ctx with
    | none => s
    | some c =>
      let late := fun (origin : Nat) => decide (origin + 80 * milli ≤ s.ck.now)
      let binding := c.state == .binding && late c.lastUse
      if s.md.stopped || !((c.sent.head?.any fun m => late m.origin) || c.readWait.any (fun m => late m.origin) || binding) then s
      else s.breakSend c statusTimeout c.sent)

/-- CONNECTION_BREAK (R507): a whole message has waited 100 ms past its origin time behind an incomplete one. -/
def execConnectionBreak (ctx : Nat) (s : State) : Host.Outcome State Fault Refusal :=
  ok (match s.ctx? ctx with
    | none => s
    | some c =>
      let next := c.placing.find? fun m => m.op != 4 && m.id == c.nextVisible
      let waits := c.placing.any fun m => m.op != 4 && m.whole && m.id != c.nextVisible && m.origin + 100 * milli ≤ s.ck.now
      if s.md.stopped || c.broken || !waits || next.any (·.whole) then s
      else
        let s := s.ctx' ctx fun x => { x with placing := x.placing.filter (·.op == 4), naks := [], broken := true, gaveUp := true }
        ((s.ev0 0x901 .warn (le 2 ctx ++ le 2 c.farHead)).bump 0x090C 0 0 1).resumeTo c.farHead)

/-- RNR_BACKOFF_EXPIRY (R496): messages whose back-off ends are sent again. -/
def execRnrBackoffExpiry (ctx : Nat) (s : State) : Host.Outcome State Fault Refusal :=
  ok (match s.ctx? ctx with
    | none => s
    | some c =>
      let due := c.sent.filter fun m => m.rnrUntil.isSome
      if s.md.stopped || c.state != .bound || due.isEmpty then s
      else
        let s := s.ctx' ctx fun x => { x with sent := x.sent.map fun m => { m with rnrUntil := none } }
        s.resendMsgs c due)

/-! ## Tables -/

/-- RECENT_ID_AGING (R501, R502): entries of 100 ms and more leave the table, and a full one resumes. -/
def execRecentIdAging (s : State) : Host.Outcome State Fault Refusal :=
  ok (let young := s.youngIds
    let s := s.fg' fun g => { g with recent := young, recentFull := g.recentFull && 1048576 ≤ young.length }
    if s.fg.recentFull then s
    else (s.fg.ctxs.filter (!·.placing.isEmpty)).foldl (fun t c => t.showMsgs c.id 0 false) s)

/-- CONTEXT_FETCH_DONE (R505): the context is resident, and its held packets take checks 7 to 11 in order of arrival. -/
def execContextFetchDone (ctx : Nat) (s : State) : Host.Outcome State Fault Refusal :=
  ok (match s.ctx? ctx with
    | none => s
    | some c =>
      if c.resident || s.md.stopped then s
      else
        let held := s.fg.holding.filter (·.dstCtx == ctx)
        let s := (s.ctx' ctx fun x => { x with resident := true, lastUse := s.ck.now }).stat 0x0905 0 0 1
        let s := (s.fg' fun g => { g with holding := g.holding.filter (·.dstCtx != ctx) }).evictOne
        held.foldl (fun t p => t.arrive7 p none none) s)

/-- CONTEXT_FAIL (R508): the evicted image of a context met an uncorrectable DRAM error; a pinned or resident context has none. -/
def execContextFail (ctx : Nat) (s : State) : Host.Outcome State Fault Refusal :=
  ok (match s.ctx? ctx with
    | none => s
    | some c => if c.pinned || c.resident || s.md.stopped then s else s.failCtx c 0x81)

/-- PATH_IDLE_FREE (R509): a path with no traffic for 1 s is freed. The waggles of each tick are traffic of the two paths of a pair
that has joined. -/
def execPathIdleFree (path : Nat) (s : State) : Host.Outcome State Fault Refusal :=
  ok (match s.path? path with
    | none => s
    | some p =>
      let waggles := s.pr.joined && p.farHead == s.peerId
      if waggles || 0 < s.pathInFlight path || s.ck.now < p.lastUse + second then s
      else s.fg' fun g => { g with paths := g.paths.filter (·.id != path) })

end Sys2Proof.Machine
end

