-- ==== Sys2Proof/Machine/DramUnit.lean ====
section
/-! DEFINITION. DRAM errors (R192 to R194) and the map SRAM cache (R195 to R200). -/

namespace Sys2Proof.Machine

/-- Bytes of installed DRAM (R189). -/
def State.dramBytes (s : State) : Nat := 8 * s.dr.dimms * s.dr.dimmGiB * 2 ^ 30

/-! ## Scrub and errors -/

/-- Corrections of a channel in the last hour. -/
def State.corrected (s : State) (ch : Nat) : Nat := ((s.dr.corrections.filter (·.1 == ch)).map (·.2.2)).sum

/-- Corrections found on a channel: counted, with E240 when the hour's pass 1,000. -/
def State.scrubChannel (s : State) (ch : Nat) : State :=
  let n := s.drawnNat
  let s := s.afterDraw.dr' fun d => { d with
    corrections := (d.corrections.filter fun c => s.ck.now < c.2.1 + 3600 * second) }
  let before := s.corrected ch
  if n = 0 then s
  else
    let s := (s.dr' fun d => { d with corrections := d.corrections ++ [(ch, s.ck.now, n)] }).bump 0x0206 ch 0 n
    if before ≤ 1000 && 1000 < before + n then s.ev0 0x240 .warn (le 1 ch) else s

/-- DRAM_SCRUB (R192): every 24 h; how many errors a channel's lines hold is a free value (log 3). -/
def execDramScrub (s : State) : Host.Outcome State Fault Refusal :=
  ok (if !s.dr.trained || s.dr.selfRefresh || s.md.stopped || s.ck.now < s.dr.scrubAt + 86400 * second then s
    else ((List.range 8).foldl State.scrubChannel s).dr' fun d => { d with scrubAt := s.ck.now })

/-- A channel has failed (R194): E242 as the last-gasp record, silence, and the head stops. -/
def State.channelFailed (s : State) (ch : Nat) : State := s.fatalStop 0x242 (le 1 ch)

/-- What is done about an uncorrectable error at an address, by what lies there (R193). A page of a table
is read again (R262), and a wrapped key is read from its durable copy when its record is fetched next (R690). -/
def State.repairLine (s : State) (ch addr : Nat) : State :=
  if s.mc.base ≤ addr && addr < s.mc.base + s.mc.size then
    match s.fl.pages[(Config.dramUse addr).2 % max 1 s.fl.pages.length]? with
    | some p => s.readMeta p
    | none => s
  else match Config.dramUse addr with
    | (0, i) =>
      let blk := i % max 1 s.rd.filterBlocks
      s.rd' fun r => { r with filter := r.filter.filter (·.1 != blk) ++ [(blk, BitVec.allOnes 512)] }
    | (1, i) => match s.sp.opens[i % max 1 s.sp.opens.length]? with
      | some t => s.abandonStripe t.ord none
      | none => s
    | (2, i) => match (s.fg.ctxs.filter fun c => !c.pinned && !c.resident)[i % max 1 (s.fg.ctxs.filter fun c => !c.pinned && !c.resident).length]? with
      | some c => s.failCtx c 0x81
      | none => s
    | (3, i) => match s.ks.recs[i % max 1 s.ks.recs.length]? with
      | some r => s.ks' fun k => { k with recs := updFirst (·.domain == r.domain) (fun x => { x with dramBad := true }) k.recs }
      | none => s
    | (4, _) => s.channelFailed ch
    | _ => s

/-- DRAM_UNCORRECTABLE (R193, R194): the 17th within a second fails the channel, and so does the loss of its training. -/
def execDramUncorrectable (channel : Nat) (addr : Option Nat) (s : State) : Host.Outcome State Fault Refusal :=
  ok (if 8 ≤ channel || !s.dr.trained || s.md.stopped || s.pw.sleep.isSome then s
    else match addr with
    | none => s.channelFailed channel
    | some addr =>
      if s.dramBytes ≤ addr then s else
      let s := (s.ev0 0x241 .error (le 1 channel ++ le 8 addr)).bump 0x0207 channel 0 1
      let s := s.dr' fun d => { d with uncorr := (d.uncorr.filter fun e => s.ck.now < e.2 + second) ++ [(channel, s.ck.now)] }
      if 16 < (s.dr.uncorr.filter (·.1 == channel)).length then s.channelFailed channel else s.repairLine channel addr)

/-! ## The map SRAM cache -/

/-- Set and tag of an address in the window (R195). -/
def State.cacheAt (s : State) (addr : Nat) : Nat × Nat :=
  let l := (addr - s.mc.base) / 256
  (l % cacheSets, l / cacheSets)

/-- One step of the replacement LFSR (R197). -/
def lfsrStep (x : BitVec 16) : BitVec 16 :=
  let b := x.getLsbD 15 ^^ x.getLsbD 13 ^^ x.getLsbD 12 ^^ x.getLsbD 10
  (x <<< 1) ||| (BitVec.ofBool b).setWidth 16

/-- Allocate a line with its bytes: the lowest invalid way, else the one the LFSR gives (R197). -/
def MapCachePart.alloc (m : MapCachePart) (set tag : Nat) (bytes : Bytes) : MapCachePart :=
  match findFrom (fun w => !m.lines.any fun l => l.1 == set && l.2.1 == w) (List.range 16) 0 with
  | some w => { m with lines := m.lines ++ [(set, w, tag, bytes)] }
  | none =>
    let x := lfsrStep m.lfsr
    let w := (x &&& 0xF).toNat
    { m with lfsr := x, lines := m.lines.filter (fun l => !(l.1 == set && l.2.1 == w)) ++ [(set, w, tag, bytes)] }

/-- The address of a line's first byte. -/
def State.lineStart (s : State) (addr : Nat) : Nat := s.mc.base + (addr - s.mc.base) / 256 * 256

/-- An address lies in the map window. -/
def State.inWindow (s : State) (addr : Nat) : Bool := s.mc.base ≤ addr && addr < s.mc.base + s.mc.size

/-- Write bytes to DRAM. -/
def State.dramWrite (s : State) (addr : Nat) (bytes : Bytes) : State := s.dr' fun d => { d with mem := memWrite d.mem addr bytes }

/-- A read in the window (R196). A line in which R200 finds an error is not fetched again by that access.
Such an access counts as a hit in class 0x0208, which R200 leaves open (DESIGN CHOICE, log 90). -/
def State.cacheRead (s : State) (addr : Nat) : State :=
  let set := (s.cacheAt addr).1
  let tag := (s.cacheAt addr).2
  let b := memRead s.dr.mem (s.lineStart addr) 256
  match s.readLine set tag with
  | (t, some l) => (t.stat 0x0208 0 0 1).send (.cached true l)
  | (t, none) =>
    if (s.mc.line set tag).isSome then (t.stat 0x0208 0 0 1).send (.cached false b)
    else ((t.mc' fun m => m.alloc set tag b).stat 0x0208 0 1 1).send (.cached false b)

/-- A write of bytes that lie in one line (R196): always to DRAM, and to the line when it is present. -/
def State.cacheWrite (s : State) (addr : Nat) (bytes : Bytes) : State :=
  let set := (s.cacheAt addr).1
  let tag := (s.cacheAt addr).2
  let s1 := s.dramWrite addr bytes
  match s1.readLine set tag with
  | (t, some _) => (t.mc' fun m => m.setLine set tag (memRead s1.dr.mem (s.lineStart addr) 256)).stat 0x0208 0 0 1
  | (t, none) => t.stat 0x0208 0 (if (s.mc.line set tag).isSome then 0 else 1) 1

/-- MAP_CACHE_ACCESS (R195 to R197): a write stays in the line of its address. What lies outside the window does not pass through
the cache; where no DRAM is installed, the access faults. -/
def execMapCacheAccess (write : Bool) (addr : Nat) (data : Bytes) (s : State) : Host.Outcome State Fault Refusal :=
  if s.dramBytes ≤ addr then .fault (.noSuchAddress addr)
  else if !s.inWindow addr then
    if write then ok (s.dramWrite addr (data.take (256 - addr % 256))) else ok (s.send (.cached false (memRead s.dr.mem (addr / 256 * 256) 256)))
  else if write then ok (s.cacheWrite addr (data.take (256 - (addr - s.mc.base) % 256)))
  else ok (s.cacheRead addr)

/-- ZERO_LINE (R198). A line that is present and holds an error is invalidated, and the line is allocated anew (R200). -/
def execZeroLine (addr : Nat) (s : State) : Host.Outcome State Fault Refusal :=
  if s.dramBytes ≤ addr then .fault (.noSuchAddress addr)
  else if !s.inWindow addr then ok (s.dramWrite (addr / 256 * 256) (zeros 256))
  else
    let set := (s.cacheAt addr).1
    let tag := (s.cacheAt addr).2
    ok (match ((s.dramWrite (s.lineStart addr) (zeros 256)).stat 0x0208 0 2 1).readLine set tag with
      | (t, some _) => t.mc' (·.setLine set tag (zeros 256))
      | (t, none) => t.mc' (·.alloc set tag (zeros 256)))

end Sys2Proof.Machine
end

