-- ==== Sys2Proof/Machine/Event.lean ====
section
/-! DEFINITION. The event recorder's commands (19): reports, the writer, buckets and their windows, summaries and notices. -/

namespace Sys2Proof.Machine

/-- EVENT_REPORT (R711): a block raises a report. -/
def execEventReport (r : Report0) (s : State) : Host.Outcome State Fault Refusal :=
  ok (s.report { r with detail := fit 34 r.detail })

/-- A raiser that waits for the reserved lane enters it when an entry frees, and its wait is counted (R721). -/
def State.laneFrees (s : State) : State :=
  match s.ev.waiting with
  | [] => s
  | r :: rest =>
    if s.ev.lane.length ≥ 64 then s
    else (s.ev' fun v => { v with waiting := rest, lane := v.lane ++ [r] }).stat 8 0 0 ((s.stamp - r.atNs) / 1000)

/-- EVENT_WRITE (R712, R719, R723): the writer takes the oldest entry of the reserved lane, else of the FIFO. -/
def execEventWrite (s : State) : Host.Outcome State Fault Refusal :=
  ok (match s.ev.lane, s.ev.fifo with
    | r :: rest, _ => ((s.ev' fun v => { v with lane := rest }).writeRec r).laneFrees
    | [], r :: rest => (s.ev' fun v => { v with fifo := rest }).writeRec r
    | [], [] => s)

/-- BUCKET_WINDOW_CLOSE (R718): 1 s after a code's window opened, one E001 gives its count. -/
def execBucketWindowClose (code : Nat) (s : State) : Host.Outcome State Fault Refusal :=
  ok (match s.ev.buckets.find? (·.code == code) with
    | none => s
    | some b => match b.winOpen with
      | none => s
      | some t =>
        if s.ck.now < t + second then s
        else
          let s := s.ev' fun v => { v with buckets := bucketPut v.buckets { b with winOpen := none, winCount := 0 } }
          s.report ⟨1, b.winSev, 0x00, 0xFFFF, b.winCount, fit 34 (le 2 code ++ le 8 b.winFirst ++ le 8 b.winLast), s.stamp⟩)

/-- BUCKET_REFILL (R717): one token every 1 / EVT_RATE s, counted from when the bucket last fell below full; a smaller burst takes
effect here (R743). -/
def execBucketRefill (code : Nat) (s : State) : Host.Outcome State Fault Refusal :=
  ok (match s.ev.buckets.find? (·.code == code) with
    | none => s
    | some b =>
      let rate := s.setting (0x09010000 + code)
      let burst := s.setting (0x09020000 + code)
      if rate = 0 || b.tokens = burst || s.ck.now < b.belowSince + second / rate then s
      else s.ev' fun v => { v with
        buckets := bucketPut v.buckets { b with tokens := min (b.tokens + 1) burst, belowSince := b.belowSince + second / rate } })

/-- The highest severity with a count above 0. -/
def topSev (l : List Nat) : Severity := sevOf (((List.range l.length).filter fun i => 0 < l.getD i 0).foldl max 0)

/-- E002 (R720): the drops since the last one. -/
def State.dropSummary (s : State) : State :=
  if s.ev.dropSince.isNone then s
  else
    let d := s.ev.drops
    let s := s.ev' fun v => { v with drops := [0, 0, 0, 0, 0, 0], dropSince := none }
    s.report ⟨2, topSev d, 0x00, 0xFFFF, d.sum, fit 34 (d.flatMap (le 4)), s.stamp⟩

/-- E003 (R725): the refusals since the last one. -/
def State.refusalSummary (s : State) : State :=
  if s.ev.refuseSince.isNone then s
  else
    let d := s.ev.refusals
    let s := s.ev' fun v => { v with refusals := [0, 0, 0, 0, 0, 0, 0], refuseSince := none }
    s.report ⟨3, topSev d, 0x00, 0xFFFF, d.sum, fit 34 (d.flatMap (le 4)), s.stamp⟩

/-- DROP_SUMMARY_TIMER (R720, R725): at each second, the summaries due, and the kept ones are offered again. -/
def execDropSummaryTimer (s : State) : Host.Outcome State Fault Refusal :=
  ok (if s.ck.now < s.ev.lastRetry + second then s
    else
      let kept := s.ev.kept
      let s := s.ev' fun v => { v with lastRetry := s.ck.now, kept := [] }
      ((kept.foldl State.intake s).dropSummary).refusalSummary)

/-- EVENT_NOTICE_SEND (R730): at 256 records pending, or 100 ms after the first of them. -/
def execEventNoticeSend (handle : Nat) (s : State) : Host.Outcome State Fault Refusal :=
  ok (match s.vk.sessions.find? (·.handle == handle) with
    | none => s
    | some x =>
      if x.sub.any fun (b : Sub) => !b.queue.isEmpty && (b.queue.length ≥ 256 || b.since + 100 * milli ≤ s.ck.now) then s.sendNotice x else s)

end Sys2Proof.Machine
end

