-- ==== Sys2Proof/Machine/I3c.lean ====
section
/-! DEFINITION. The I3C common command codes of the sideband target (R771). What MIPI I3C Basic gives and the spec does not print is
PRESUMED (log 22). -/

namespace Sys2Proof.Machine

/-- A CCC: nothing happens without the always-on supply (R767). -/
def State.ccc (s : State) (f : State → State) : Host.Outcome State Fault Refusal := ok (if s.pw.aonOk then f s else s)

/-- A CCC that asks the target for bytes: it answers at its dynamic address. -/
def State.cccGet (s : State) (bytes : Bytes) : Host.Outcome State Fault Refusal :=
  s.ccc fun s => if s.sb.dynAddr.isSome then s.send (.i3c bytes) else s

/-- ENTDAA: a target without a dynamic address takes the one assigned. -/
def execEntdaa (addr : Nat) (s : State) : Host.Outcome State Fault Refusal :=
  s.ccc fun s => s.sb' fun b => { b with dynAddr := some (b.dynAddr.getD (addr % 128)) }

/-- SETDASA: the dynamic address in place of static address 0x3A. -/
def execSetdasa (addr : Nat) (s : State) : Host.Outcome State Fault Refusal :=
  s.ccc fun s => s.sb' fun b => { b with dynAddr := some (b.dynAddr.getD (addr % 128)) }

/-- RSTDAA: the dynamic address is reset. -/
def execRstdaa (s : State) : Host.Outcome State Fault Refusal := s.ccc fun s => s.sb' fun b => { b with dynAddr := none }

/-- SETNEWDA: a dynamic address that is held changes. -/
def execSetnewda (addr : Nat) (s : State) : Host.Outcome State Fault Refusal :=
  s.ccc fun s => s.sb' fun b => { b with dynAddr := b.dynAddr.map fun _ => addr % 128 }

/-- The one target event that the port supports: in-band interrupts (R771). -/
def sbEvents : BitVec 8 := 1

/-- ENEC: target events are enabled. -/
def execEnec (bits : BitVec 8) (s : State) : Host.Outcome State Fault Refusal :=
  s.ccc fun s => s.sb' fun b => { b with events := b.events ||| (bits &&& sbEvents) }

/-- DISEC: target events are disabled. -/
def execDisec (bits : BitVec 8) (s : State) : Host.Outcome State Fault Refusal :=
  s.ccc fun s => s.sb' fun b => { b with events := b.events &&& ~~~bits }

/-- GETPID: six bytes that the part fixes. -/
def execGetpid (s : State) : Host.Outcome State Fault Refusal := s.cccGet (Config.i3cId 0)

/-- GETBCR: a byte that the part fixes. -/
def execGetbcr (s : State) : Host.Outcome State Fault Refusal := s.cccGet (Config.i3cId 1)

/-- GETDCR: a byte that the part fixes. -/
def execGetdcr (s : State) : Host.Outcome State Fault Refusal := s.cccGet (Config.i3cId 2)

/-- GETSTATUS: two bytes that the spec does not state, free values. -/
def execGetstatus (s : State) : Host.Outcome State Fault Refusal :=
  s.ccc fun s => if s.sb.dynAddr.isSome then s.afterDraw.send (.i3c (s.drawn 2)) else s

/-- SETMWL. -/
def execSetmwl (len : BitVec 16) (s : State) : Host.Outcome State Fault Refusal :=
  s.ccc fun s => s.sb' fun b => { b with mwl := len.toNat }

/-- SETMRL. -/
def execSetmrl (len : BitVec 16) (s : State) : Host.Outcome State Fault Refusal :=
  s.ccc fun s => s.sb' fun b => { b with mrl := len.toNat }

/-- GETMWL: the length, most significant byte first. -/
def execGetmwl (s : State) : Host.Outcome State Fault Refusal := s.cccGet (le 2 s.sb.mwl).reverse

/-- GETMRL: the length, most significant byte first. -/
def execGetmrl (s : State) : Host.Outcome State Fault Refusal := s.cccGet (le 2 s.sb.mrl).reverse

end Sys2Proof.Machine
end

