-- ==== Sys2Proof/Machine/LinkEnd.lean ====
section
/-! DEFINITION. The LinkEnd family: frames, faults and bring-up of the comb links, and the deadlines of tasks (08). -/

namespace Sys2Proof.Machine

/-- A register among the values of a REG_DATA frame. -/
def regIn (first : Nat) (vals : List (BitVec 32)) (off : Nat) : Option (BitVec 32) :=
  if first ≤ off && (off - first) % 4 == 0 then vals[(off - first) / 4]? else none

/-- A register's new value, or what stood before. -/
def regOr (first : Nat) (vals : List (BitVec 32)) (off old : Nat) : Nat := ((regIn first vals off).map (·.toNat)).getD old

/-- A die descriptor from its bytes (R322). -/
def descOf (b : Bytes) : DieDesc :=
  { blocks := fld b 2 2, failed := fld b 1 1 == 1, peQlc := fld b 8 4, peSlc := fld b 12 4, refresh := fld b 16 2
    maxima := (List.range 6).map fun i => fld b (20 + 4 * i) 4
    factoryBad := (List.range 8192).filter fun i => (b.getD (64 + i / 8) 0).getLsbD (i % 8) }

/-- The die descriptors that register values hold whole (R321). -/
def descsIn (first : Nat) (vals : List (BitVec 32)) : List (Nat × DieDesc) :=
  (List.range 128).filterMap fun d =>
    let base := 0x100000 + 0x800 * d
    if (regIn first vals base).isSome && (regIn first vals (base + 4 * 271)).isSome then
      some (d, descOf ((List.range 272).flatMap fun i => le 4 (regOr first vals (base + 4 * i) 0)))
    else none

/-- What DIE_STATE tells of a die that the head has given no task since one failed: idle, it takes tasks again; executing 1 s past the
deadline, it is declared failed, and until then it is read again (R330). -/
def State.dieStateTells (s : State) (link die : Nat) (w : BitVec 32) : State :=
  if !w.getLsbD 0 then s.link' link fun l => { l with blockedDies := l.blockedDies.filter (· != die) }
  else match s.link? link with
    | none => s
    | some l =>
      if !l.blockedDies.contains die then s
      else if l.failedTasks.any fun e => e.1 == die && e.2 + second ≤ s.ck.now then s.failDie link die
      else if l.tasks.any (·.hdr.die == die) then s
      else s.sendRegRead link (0x10000 + 32 * die) 6

/-- What register values tell the head of a comb (R12, R316, R321, R322). -/
def Link.regsTaken (l : Link) (first : Nat) (vals : List (BitVec 32)) : Link :=
  let at_ := regIn first vals
  { l with
    hive := ((at_ 4).map fun w => (w.extractLsb' 16 3).toNat).getD l.hive
    slot := ((at_ 4).map fun w => (w.extractLsb' 20 4).toNat).getD l.slot
    dieCount := ((at_ 4).map fun w => (w.extractLsb' 8 8).toNat).getD l.dieCount
    serial := regOr first vals 8 (l.serial % 2 ^ 32) + regOr first vals 0xC (l.serial / 2 ^ 32) * 2 ^ 32
    epoch := regOr first vals 0x20 l.epoch
    owner := regOr first vals 0x24 l.owner
    version := (at_ 0x10).getD l.version
    noFence := ((at_ 0x28).map (·.getLsbD 1)).getD l.noFence
    descs := (descsIn first vals).foldl (fun ds d => (ds ++ List.replicate (d.1 + 1 - ds.length) resetDesc).set d.1 d.2) l.descs }

/-- A fence task without a DONE is settled by the fence registers (R345). -/
def State.fenceRegsTell (s : State) (link first : Nat) (vals : List (BitVec 32)) (tasks : List DieTask) : State :=
  if (regIn first vals 0x20).isSome && (regIn first vals 0x24).isSome then
    (tasks.filter fun k => k.hdr.op == .fenceRaise || k.hdr.op == .fenceAdopt).foldl (fun t k =>
      t.taskDone link k (t.fenceOutcome k.hdr (regOr first vals 0x20 0) (regOr first vals 0x24 0))) s
  else s

/-- What the registers of a die tell: its window settles the tasks without a DONE, and DIE_STATE frees a blocked die (R330, R345). -/
def State.dieRegsTell (s : State) (link first : Nat) (vals : List (BitVec 32)) (tasks : List DieTask) (d : Nat) : State :=
  let at_ := regIn first vals
  let base := 0x10000 + 32 * d
  let s := match at_ base, at_ (base + 16) with
    | some op, some st => (tasks.filter fun k => k.hdr.die == d && k.reissueAt.isNone).foldl (fun t k => t.windowTells link k op st) s
    | _, _ => s
  match at_ (base + 20) with
  | some w => s.dieStateTells link d w
  | none => s

/-- The comb registers of a bring-up have arrived: the die descriptors are read (R316). -/
def State.askDescs (s : State) (link first : Nat) (vals : List (BitVec 32)) : State :=
  if (regIn first vals 4).isNone then s
  else (List.range (((s.link? link).map (·.dieCount)).getD 0)).foldl (fun t d => t.sendRegRead link (0x100000 + 0x800 * d) 272) s

/-- The registers and every die descriptor of a bring-up have arrived: a comb out of its place is held, E604; else the link is up, its
comb takes its place, and the windows of the dies with tasks without a DONE are read (R12, R316, R345). -/
def State.regsEnd (s : State) (link : Nat) : State :=
  match s.link? link with
  | none => s
  | some l =>
    if l.state != .registers || l.dieCount = 0 || l.descs.length < l.dieCount then s
    else if s.misplaced link l.hive l.slot l.serial then s.holdLink link l.hive l.slot
    else
      let s := l.windowsToRead.foldl (fun t r => t.sendRegRead link r.1 r.2) ((s.linkIsUp link).linkJoins link)
      (s.judgeHive l.hive).issueAll

/-- Register values arrive in sequence: the head takes them (R321), sets what bring-up asks for (R12, R316, R322), learns the epoch and a
failed bridge (R232, R344), and settles tasks without a DONE (R330, R345). -/
def State.regsArrive (s : State) (link first : Nat) (vals : List (BitVec 32)) : State :=
  match s.link? link with
  | none => s
  | some l0 =>
    let s := s.link' link (·.regsTaken first vals)
    let s := if (regIn first vals 0x28).any (·.getLsbD 0) then s.markFailed link else s
    let s := (List.range 128).foldl (fun t d => t.dieRegsTell link first vals l0.tasks d) (s.fenceRegsTell link first vals l0.tasks)
    if l0.state == .registers then (s.askDescs link first vals).regsEnd link else s

/-- REG_DATA: the head takes the values in sequence (R312, R321); `vals` are the registers of the payload. -/
def execRegData (link : Nat) (f : LFrame) (vals : List (BitVec 32)) (s : State) : Host.Outcome State Fault Refusal :=
  let f := { f with body := vals.flatMap fun w => le 4 w.toNat }
  ok (if f.type != 6 then s else s.headFrame link f fun t => t.regsArrive link f.off vals)

/-- A page fragment of a read arrives at the head (R310). -/
def Link.readData (l : Link) (f : LFrame) : Link :=
  { l with tasks := updFirst (fun k => k.hdr.tag == f.tag) (fun k => { k with part := k.part ++ f.body }) l.tasks }

/-- A frame type that R309 does not give. -/
def unknownFrame (type : Nat) : Bool := !(([1, 2, 3, 4, 5, 6, 7, 0x10, 0x11, 0x12] : List Nat).contains type)

/-- A bridge ignores a frame of an unknown type and counts it (R310). -/
def State.bridgeUnknown (s : State) (link : Nat) (port : Side) (f : LFrame) : State :=
  if !f.sound then s.bridgeHears link port f id
  else s.bridge' link fun b => if b.powered then b.port' port fun p => { p with unknownFrames := p.unknownFrames + 1 } else b

/-- DATA: a fragment of a page of a read at the head, or of a program at the bridge (R310, R312, R325). A frame that carries a
type which R309 does not give comes to a bridge by this command too, and is ignored and counted. -/
def execDataFrame (link : Nat) (atHead : Bool) (port : Side) (f : LFrame) (s : State) : Host.Outcome State Fault Refusal :=
  ok (if !atHead && unknownFrame f.type then s.bridgeUnknown link port f
    else if f.type != 2 then s
    else if atHead then s.headFrame link f fun t => t.link' link (·.readData f)
    else s.bridgeFrame link port f fun t => t.bridgeData link port f)

/-- The end of a page of a read at the head (R310), counted by tier, marginal or uncorrectable. -/
def State.pageRead (s : State) (link : Nat) (f : LFrame) : State :=
  let tier := (f.status.extractLsb' 10 2).toNat
  let die := dieIdx link f.die
  let s := s.stat 0x0604 (idx2 tier die) 0 1
  let s := match statusType f.status with
    | some .passMarginal => s.stat 0x0605 die 0 1
    | some .uncorrectable => s.bump 0x0608 die 0 1
    | _ => s
  s.link' link fun l => { l with tasks := updFirst (fun k => k.hdr.tag == f.tag) (fun k => { k with
    data := k.data ++ [k.part], part := [], spares := k.spares ++ [f.body] }) l.tasks }

/-- PAGE_END: a page with its head spare bytes is whole (R310, R312). -/
def execPageEnd (link : Nat) (atHead : Bool) (port : Side) (f : LFrame) (s : State) : Host.Outcome State Fault Refusal :=
  ok (if f.type != 3 then s
    else if atHead then s.headFrame link f fun t => t.pageRead link f
    else s.bridgeFrame link port f fun t => t.bridgeData link port f)

/-- DONE: the head acts on the status of the task it ends; a DONE of no task it holds is a late answer and is discarded
(R231, R330, R331). -/
def execDoneFrame (link : Nat) (f : LFrame) (s : State) : Host.Outcome State Fault Refusal :=
  ok (if f.type != 4 then s else s.headFrame link f fun t =>
    match ((t.link? link).map (·.tasks)).getD [] |>.find? (·.hdr.tag == f.tag) with
    | some k => (t.taskDone link k f.status).issueAll
    | none => t)

/-- EVENT of a bridge: E609, and what its code asks for (R232, R306, R343, R347). -/
def execBridgeEvent (link : Nat) (f : LFrame) (s : State) : Host.Outcome State Fault Refusal :=
  let code := fld f.body 0 2
  let die := fld f.body 2 1
  ok (if f.type != 7 then s else s.headFrame link f fun t =>
    let t := t.ev0 0x609 (if code == 1 || code == 2 || code == 4 then .error else .warn) (le 2 code ++ le 1 link ++ le 1 die)
    match code with
    | 1 => t.failDie link die
    | 2 => t.markFailed link
    | 4 => t.link' link fun l => { l with noFence := true }
    | _ => t)

/-- A retrain is complete at the head's end: every frame before the other end's Next expected counts as acknowledged, the rest is resent;
E601 (R318). -/
def State.retrained (s : State) (link : Nat) (next : BitVec 12) : State :=
  match s.link? link with
  | none => s
  | some l =>
    if l.state != .retraining then s
    else
      let s := (s.link' link fun l => { (l.acked next) with state := .up, since := s.ck.now, resends := 0 }).ev0 0x601 .notice
        (le 1 link)
      (s.resendFrames link (((s.link? link).map (·.unacked)).getD [])).headPump link

/-- A retrain is complete at a bridge's end: counted, and its frames are acknowledged and resent from the Next expected of the head's HELLO
(R318, R321). -/
def State.bridgeRetrained (s : State) (link : Nat) (port : Side) (next : BitVec 12) : State :=
  let s := s.bridge' link fun b => b.port' port fun p => { (p.acked next) with retrains := satUp p.retrains, tries := 0 }
  (s.bridgeResend link port next).bridgePump link port

/-- HELLO at the head: the wrong port keeps the link down, E605; the right one leads to the register reads, or ends a
retrain, which it begins where the bridge began it (R316 to R318). -/
def State.helloAtHead (s : State) (link : Nat) (f : LFrame) : State :=
  match s.link? link with
  | none => s
  | some l =>
    if fld f.body 0 1 != 1 then s
    else if fld f.body 1 1 != sideN s.pr.side then
      (s.link' link fun l => { l with state := .held, since := s.ck.now }).ev0 0x605 .error (le 1 link)
    else if fld f.body 3 1 == 1 then (s.startRetrain link).retrained link (BitVec.ofNat 12 (fld f.body 4 2))
    else if l.state == .adapting || l.state == .hello then
      (s.link' link fun l => { l with
        state := .registers, since := s.ck.now, bridgeSeen := true, txSeq := 0, rxSeq := 0, nakSent := false
        unacked := [], waiting := [], dieCount := 0, descs := [], epoch := f.epoch.toNat, owner := f.owner }).sendRegRead link 0 15
    else s

/-- HELLO at a bridge: a bring-up starts both sequences at 0 and brings its standing events again, a retrain keeps the sequences and
resends; the bridge answers as the port it is (R316 to R318, R347). -/
def State.helloAtBridge (s : State) (link : Nat) (port : Side) (f : LFrame) : State :=
  match s.bridge? link with
  | none => s
  | some b =>
    if fld f.body 0 1 != 0 then s
    else if fld f.body 3 1 == 1 then
      (s.bridgeHello link port (fld f.body 2 1) 1).bridgeRetrained link port (BitVec.ofNat 12 (fld f.body 4 2))
    else
      let s := s.bridge' link fun b => b.port' port fun p => { p.emptied with up := true, txSeq := 0, rxSeq := 0, nakSent := false }
      b.events.foldl (fun t e => t.bridgeEventFrame link port e) (s.bridgeHello link port (fld f.body 2 1) 0)

/-- HELLO (R316 to R318). -/
def execHello (link : Nat) (atHead : Bool) (port : Side) (f : LFrame) (s : State) : Host.Outcome State Fault Refusal :=
  ok (if f.type != 0x10 then s
    else if atHead then s.headHears link f (·.helloAtHead link f) else s.bridgeHears link port f (·.helloAtBridge link port f))

/-- ACK: frames before the named sequence are acknowledged, and what waits for the window goes out (R311, R313). -/
def execLinkAck (link : Nat) (atHead : Bool) (port : Side) (f : LFrame) (s : State) : Host.Outcome State Fault Refusal :=
  ok (if f.type != 0x11 then s else if atHead then s.headHears link f id else s.bridgeHears link port f id)

/-- A bridge sends again from a sequence on; after 8 resends without an advance it begins a retrain (R314, R319). -/
def State.bridgeAgain (s : State) (link : Nat) (port : Side) (from_ : BitVec 12) : State :=
  match s.bridge? link with
  | none => s
  | some b =>
    if (b.port port).tries ≥ 8 then
      (s.bridgeHello link port (b2n ((s.link? link).any (·.half))) 1).cond (port == s.pr.side) (·.startRetrain link)
    else s.bridgeResend link port from_

/-- A NAK at the head: the frames before the named one are acknowledged, and the rest is sent again, in order (R314). -/
def State.headAgain (s : State) (link : Nat) (from_ : BitVec 12) : State :=
  let s := (s.link' link (·.acked from_)).bump 0x0606 link 2 1
  match s.link? link with
  | none => s
  | some l =>
    if l.state != .up && l.state != .registers then s
    else if l.resends ≥ 8 then s.startRetrain link
    else (s.link' link fun l => { l with resends := if l.unacked.isEmpty then 0 else l.resends + 1 }).resendFrames link l.unacked

/-- NAK: every unacknowledged frame from the named sequence is sent again, in order, before anything new (R314). -/
def execLinkNak (link : Nat) (atHead : Bool) (port : Side) (f : LFrame) (s : State) : Host.Outcome State Fault Refusal :=
  ok (if f.type != 0x12 then s
    else if atHead then s.headHears link f fun s => (s.headAgain link f.ack).headPump link
    else s.bridgeHears link port f fun s =>
      ((s.bridge' link fun b => b.port' port (·.acked f.ack)).bridgeAgain link port f.ack).bridgePump link port)

/-- The resend timer of a bridge toward this head (R314). -/
def State.bridgeTimer (s : State) (link : Nat) : State :=
  match s.bridge? link with
  | none => s
  | some b => match (b.port s.pr.side).unacked with
    | [] => s
    | f :: _ => if b.powered && (b.port s.pr.side).up then s.bridgeAgain link s.pr.side f.seq else s

/-- 16 µs without an advance while frames are unacknowledged: they are resent from the oldest; after 8 resends the link
is retrained (R314). The timer is the head's while it holds unacknowledged frames, else the bridge's (DESIGN CHOICE, log 91). -/
def execLinkResendTimer (link : Nat) (s : State) : Host.Outcome State Fault Refusal :=
  ok (match s.link? link with
    | none => s
    | some l =>
      if l.state != .up then s
      else if l.unacked.isEmpty then s.bridgeTimer link
      else if l.resends ≥ 8 then s.startRetrain link
      else (s.link' link fun l => { l with resends := l.resends + 1 }).resendFrames link l.unacked)

/-- Block lock is lost: a retrain (R319). -/
def execBlockLockLost (link : Nat) (s : State) : Host.Outcome State Fault Refusal := ok (s.startRetrain link)

/-- RETRAIN: begun where none runs, and complete at both ends, the bridge's Next expected given (R318). -/
def execRetrain (link : Nat) (peerNext : BitVec 12) (s : State) : Host.Outcome State Fault Refusal :=
  let s := s.startRetrain link
  ok (match s.link? link with
    | none => s
    | some l =>
      if l.state != .retraining then s
      else ((s.bridgeHello link s.pr.side (b2n l.half) 1).retrained link peerNext).bridgeRetrained link s.pr.side l.rxSeq)

/-- A retrain is not complete in 10 ms: the link goes down (R318, R319). -/
def execRetrainTimeout (link : Nat) (s : State) : Host.Outcome State Fault Refusal :=
  ok (if (s.link? link).any fun l => l.state == .retraining && decide (l.since + 10 * milli ≤ s.ck.now) then s.linkDown link else s)

/-- COMB_LINK_BRING_UP: the steps of R316 to their end; `good` tells that the lane adapted and HELLO came. A link with no
bridge stays powered down (R13); a comb whose position is not its link's, or whose serial number the peer has found behind another link,
is held, E604 (R12). -/
def execCombLinkBringUp (link : Nat) (good : Bool) (s : State) : Host.Outcome State Fault Refusal :=
  let s := s.withLink link
  ok (match s.link? link, s.bridge? link with
    | some l, some b =>
      if l.state == .up || l.state == .retraining then s
      else if !b.powered then s.link' link fun l => { l with state := if l.bridgeSeen then .down else .powerDown }
      else if !good then (s.link' link fun l => { l with bridgeSeen := true }).bringUpFails link
      else if s.misplaced link b.hive b.slot b.serial then s.holdLink link b.hive b.slot
      else s.linkUp link b
    | _, _ => s)

/-- A full bring-up of a down link is tried every second (R319). -/
def execLinkRetryTimer (link : Nat) (s : State) : Host.Outcome State Fault Refusal :=
  ok (match s.link? link with
    | none => s
    | some l =>
      if l.state == .down && decide (l.since + second ≤ s.ck.now) then
        (s.link' link fun l => { l with state := .adapting, since := s.ck.now }).headHello link 0
      else s)

/-- What becomes of the work of a task that has failed without a DONE (R221, R330, R346). -/
def State.failOutcome (s : State) (link : Nat) (k : DieTask) : State :=
  match k.use with
  | .unitProgram ord m => s.progFailed ord m
  | .fence r => if r = 0 then s else s.fenceAnswer link false false
  | .diag w => s.replyTo w .mediaError []
  | _ => s

/-- A link that has been down for more than 5 s, in a hive whose shelf reports POWERED, marks its comb failed (R232,
R319, R360). -/
def execLinkDownTimeout (link : Nat) (s : State) : Host.Outcome State Fault Refusal :=
  ok (match s.link? link with
    | none => s
    | some l =>
      if l.state != .up && (l.downSince.any fun t => t + 5 * second < s.ck.now) &&
          ((s.hive? l.hive).bind (·.block)).any (·.power == 2) then
        -- no bring-up will tell of the tasks that have no DONE: they have failed
        let s := (s.markFailed link).link' link fun l => { l with tasks := [] }
        (l.tasks.foldl (fun t k => t.failOutcome link k) s).judgeHive l.hive
      else s)

/-- A task has failed by its deadline (R330): E606; the die gets no task until DIE_STATE shows it idle, and three failed
tasks within 60 s declare it failed. -/
def State.taskFailed (s : State) (link : Nat) (k : DieTask) : State :=
  let s := ((s.link' link (·.dropTask k.hdr.tag)).ev0 0x606 .warn (le 1 link ++ le 1 k.hdr.die ++ le 2 k.hdr.tag)).bump 0x0609
    (dieIdx link k.hdr.die) 0 1
  let s := if k.hdr.die == 0xFF then s
    else (s.link' link fun l => { l with
      blockedDies := if l.blockedDies.contains k.hdr.die then l.blockedDies else l.blockedDies ++ [k.hdr.die]
      failedTasks := (l.failedTasks.filter fun e => s.ck.now < e.2 + 60 * second) ++
        [(k.hdr.die, s.ck.now)] }).sendRegRead link (0x10000 + 32 * k.hdr.die) 6
  let s := s.failOutcome link k
  if (s.link? link).any fun l => (l.failedTasks.filter (·.1 == k.hdr.die)).length ≥ 3 then s.failDie link k.hdr.die else s

/-- TASK_DEADLINE: a task without a DONE at its deadline is failed; time in which an erase is suspended does not count (R324, R330). A task
whose link is down or whose shelf is not POWERED waits for the bring-up or the power that settles it (R345, R346). -/
def execTaskDeadline (link tag : Nat) (s : State) : Host.Outcome State Fault Refusal :=
  ok (match s.link? link with
    | none => s
    | some l => match l.tasks.find? (·.hdr.tag == tag) with
      | none => s
      | some k =>
        let held := match k.use with
          | .blockErase _ => ((s.bridge? link).bind (·.die? k.hdr.die)).any (·.susp.isSome)
          | _ => false
        let counts := l.state == .up && ((s.hive? l.hive).bind (·.block)).any (·.power == 2)
        if decide (k.deadline ≤ s.ck.now) && !held && k.reissueAt.isNone && counts then s.taskFailed link k else s)

/-- A die whose comb has just got power (R346). -/
def Die.poweredUp (d : Die) (now : Nat) : Die :=
  { d with
    exec := none, susp := none, eraseRun := none, winA := resetWindow, winB := resetWindow, refusedPort := none
    favoured := none, favUntil := 0, idleSince := now }

/-- A bridge whose supply becomes good: every register but the fence registers at its reset value, its link at step 1 of
bring-up; the head's tasks there without a DONE have failed (R316, R346). -/
def execBridgePowerUp (link : Nat) (s : State) : Host.Outcome State Fault Refusal :=
  ok (if (s.bridge? link).any (·.powered) || (s.bridge? link).isNone then s
    else
      let s := s.bridge' link fun b => { b with
        powered := true, failed := false, storeFault := false, events := [], portA := resetPort, portB := resetPort
        dies := b.dies.map (·.poweredUp s.ck.now) }
      let lost := ((s.link? link).map (·.tasks)).getD []
      let s := (s.withLink link).link' link fun l =>
        { l with state := .adapting, since := s.ck.now, unacked := [], waiting := [], txSeq := 0, rxSeq := 0, tasks := [] }
      (lost.foldl (fun t k => t.failOutcome link k) s).headHello link 0)

/-- A bridge's health changes: one EVENT frame on each port that is up, again at each later bring-up while it stands
(R343, R347). -/
def execBridgeHealthChange (link code die detail : Nat) (s : State) : Host.Outcome State Fault Refusal :=
  ok (if !(s.bridge? link).any (·.powered) || code = 0 || code > 5 then s
    else
      let e := (code, if code = 1 then die else 0xFF, detail)
      let s := s.bridge' link fun b => { b with
        events := b.events.filter (fun x => !(x.1 == e.1 && x.2.1 == e.2.1)) ++ [e]
        failed := b.failed || code == 2
        storeFault := b.storeFault || code == 4
        temp := if code = 3 then BitVec.ofNat 8 detail else b.temp
        dies := b.dies.map fun d =>
          (if code == 1 && d.index == die then { d with desc := { d.desc with failed := true } } else d) }
      (s.bridgeEventFrame link .a e).bridgeEventFrame link .b e)

end Sys2Proof.Machine
end

