-- ==== Sys2Proof/Machine/Stripes.lean ====
section
/-! DEFINITION. The commands of stripes: opening, closing, committing and abandoning (R217 to R221), read timeouts and
failed combs (R231, R232), rebuild (R233 to R243), replacement combs (R242) and reshape (R244 to R250). -/

namespace Sys2Proof.Machine

/-! ## Landing stripes -/

/-- The brood hives a lane's next envelope may go to: those whose ordinary stripes hold it, or every one, with a tall
stripe, when none does (R217, R819). -/
def State.lanePlaces (s : State) (lane : Nat) : List Nat × Bool :=
  let hs := s.landingHives
  match s.rd.landing.find? (·.2.2 == lane) with
  | none => (hs, false)
  | some x =>
    -- an envelope that lands again keeps out of the hive in which it failed (R221)
    let hs := hs.filter fun h => (s.landsBut x.2.1.chunk h).1
    let held := hs.filter fun h => x.2.1.len ≤ dataSpace .brood (s.width h)
    if held.isEmpty then (hs, true) else (held, false)

/-- A landing stripe of a lane may be opened in a hive: none is open there, the lane's newest one lies in the other
hive, the last 2 % of the block sets are left, and no collection goes first (R217, R285, R294). -/
def State.landsIn (s : State) (hive lane : Nat) : Bool :=
  let hs := (s.lanePlaces lane).1
  lane < (if s.inMode .tide then 2 else 8) && hs.contains hive && !s.broodBelow 2 && !s.gcFirst hive &&
    !(s.sp.opens.any fun t => t.purpose == .landing && t.lane == lane && t.hive == hive && !t.closed) &&
    (hs.length < 2 || !(s.sp.laneHive.any fun e => e.1 == lane && e.2 == hive))

/-- A chunk may enter an open stripe: one that lands again not in the hive of its failure, or not over the failing comb (R221). -/
def State.landsWith (s : State) (t : OpenStripe) (chunk : Nat) : Bool :=
  match s.landsBut chunk t.hive with
  | (ok, none) => ok
  | (ok, some l) => ok && (!t.members.any (·.link == l) || (s.workingLinks t.hive).length ≤ 6)

/-- Put a lane's waiting envelopes in its open stripe, in order; it closes when the next one does not fit or no room is
left (R218). -/
def State.fillLanding (s : State) (ord lane : Nat) : Nat → State
  | 0 => s
  | n + 1 => match s.rd.landing.find? (·.2.2 == lane), s.open? ord with
    | some x, some t =>
      if t.closed then s
      else if x.2.1.len ≤ t.room && s.landsWith t x.2.1.chunk then
        let bytes := ((s.stored? x.2.1.chunk).map (·.envelope)).getD []
        let s := (s.rd' fun r => { r with landing := r.landing.erase x }).sp' fun p => { p with
          avoid := p.avoid.filter (·.1 != x.2.1.chunk) }
        let s := s.placeEnv ord x.2.1 [x.1] none bytes
        if t.room == x.2.1.len then s.closeStripe ord else s.fillLanding ord lane n
      else s.closeStripe ord
    | _, _ => s

/-- Open a landing stripe of a lane in a hive. -/
def State.openLanding (s : State) (hive lane : Nat) : State :=
  if s.landsIn hive lane then
    let but := (s.rd.landing.find? (·.2.2 == lane)).bind fun x => (s.landsBut x.2.1.chunk hive).2
    match s.openStripeBut hive lane (if (s.lanePlaces lane).2 then .tall else .brood) .landing but with
    | (s, none) => s
    | (s, some ord) =>
      (s.sp' fun p => { p with laneHive := p.laneHive.filter (·.1 != lane) ++ [(lane, hive)] }).fillLanding ord lane
        s.rd.landing.length
  else s

/-- STRIPE_OPEN (R203 to R205, R207, R217, R219). Stripes of the other purposes are opened, filled and closed by the move
they belong to (log 27); opened by this command they stay empty until they are closed. -/
def execStripeOpen (hive lane : Nat) (purpose : Purpose) (s : State) : Host.Outcome State Fault Refusal :=
  ok (match purpose with
    | .landing => s.openLanding hive lane
    | .fold => if s.hivePowered hive && !s.isBrood hive then (s.openStripe hive lane .honey .fold).1 else s
    | .gc => if s.hivePowered hive then (s.openStripe hive lane (if s.isBrood hive then .brood else .honey) .gc).1 else s
    | .reshape => if s.hivePowered hive then (s.openStripe hive lane (if s.isBrood hive then .brood else .honey) .reshape).1 else s
    | .metadata => if s.hivePowered hive && s.isBrood hive then (s.openMeta hive []).1 else s
    | .rebuild | .loss | .memberState | .claim => s)

/-- STRIPE_CLOSE_TIMER (R218): STRIPE_CLOSE_TIME after the first envelope, in whole milliseconds of the model's clock
(log 7). -/
def execStripeCloseTimer (ord : Nat) (s : State) : Host.Outcome State Fault Refusal :=
  ok (match (s.open? ord).bind (·.firstAt) with
    | some f => if f + s.setting 0x04000001 * 1000 / milli * milli ≤ s.ck.now then s.closeStripe ord else s
    | none => s)

/-- STRIPE_PROGRAM_DONE (R219 step 4): nothing until every member has reported program pass. -/
def execStripeProgramDone (ord : Nat) (s : State) : Host.Outcome State Fault Refusal := ok (s.commitStripe ord)

/-! ## Program failures and read timeouts (R221, R231, R232) -/

/-- Count a program failure of a comb: E403, and the comb is marked failed beyond 64 within 1 h (R221, R232). -/
def State.countProgFail (s : State) (link ord m : Nat) : State :=
  let s := (s.ev0 0x403 .warn (le 1 link ++ le 6 ord ++ le 1 m)).bump 0x0408 link 0 1
  let s := s.link' link fun l => { l with
    progFails := l.progFails.filter (fun t => s.ck.now < t + 3600 * second) ++ [s.ck.now] }
  if ((s.link? link).map (·.progFails.length)).getD 0 > 64 then s.markFailed link else s

/-- A fresh block of the same comb: on the same die where it has one, else on another (R221). -/
def State.freshUnit (s : State) (e : Member) (r : Region) (p : Purpose) : State × Option Member :=
  match s.link? e.link with
  | none => (s, none)
  | some l =>
    let one := if (s.diesFor l).contains e.die then s.takeOn l e.die (useOfPurpose p) (r == .honey) (regionUnits r) else (s, none)
    match one with
    | (t, some m) => (t, some m)
    | (_, none) => s.takeUnit e.link (useOfPurpose p) (r == .honey) (regionUnits r)

/-- MEMBER_PROGRAM_FAIL (R221, R305): the unit once more in a fresh block of the comb, recorded as a UNIT_MOVE; after a
second failure the stripe is abandoned. -/
def execMemberProgramFail (ord member : Nat) (s : State) : Host.Outcome State Fault Refusal :=
  ok (match s.open? ord with
    | none => s
    | some t => match t.members[member]?, t.prog[member]? with
      | some e, some .failedOnce =>
        let s := (s.grownFault e.link e.die e.block).countProgFail e.link ord member
        -- no program goes to a hive that runs on hold-up (R385)
        if ((s.hive? t.hive).bind (·.block)).any (·.power == 4) then s.abandonStripe ord (some e.link)
        else match s.freshUnit e t.region t.purpose with
        | (s, some m) =>
          let m := { m with crc := e.crc }
          ((s.journal 0x03 ord [member] [m]).open' ord fun t => { t with
            members := t.members.set member m, prog := t.prog.set member .idle }).issuePrograms ord
        | (s, none) => s.abandonStripe ord (some e.link)
      | some e, some .failedTwice =>
        let s := (s.grownFault e.link e.die e.block).countProgFail e.link ord member
        s.abandonStripe ord (some e.link)
      | _, _ => s)

/-- COMB_MARK_FAILED (R204, R232, R233). -/
def execCombMarkFailed (link : Nat) (s : State) : Host.Outcome State Fault Refusal := ok (s.markFailed link)

/-! ## Rebuild (R233 to R243) -/

/-- REBUILD_STRIPE: one stripe of the hive's rebuild, the turn of its group or pass, or, with no rebuild, one unit of a
retiring comb. Nothing while the hive is not powered or a comb of it does not answer (R229, R241); a decided darkening does not stop it
(R365), and rebuildStripe waits while the share of the interval is spent (R240). -/
def execRebuildStripe (hive : Nat) (s : State) : Host.Outcome State Fault Refusal :=
  let s := s.heed hive
  ok (if !s.mayFinish hive then s
    else match s.sp.rebuilds.find? (·.hive == hive) with
      | some r =>
        match s.rebuildNext r with
        | some t => s.rebuildStripe r t
        | none => s.rebuildTurn r
      | none => s.retireStep hive)

/-- A comb's record of replacement waits for its acceptance. -/
def State.replacing (s : State) (link : Nat) : Bool := s.wx.own.any fun r => !r.accepted && match r.body with
  | .combState k .replacement _ => k == link
  | _ => false

/-- REPLACEMENT_COMB (R242): a comb brought up in the slot of one marked failed. It takes units once its MEMBER_STATE is accepted, which
clears the block sets of the slot. -/
def execReplacementComb (link : Nat) (s : State) : Host.Outcome State Fault Refusal :=
  ok (match s.link? link with
    | none => s
    | some l =>
      if l.comb == .failed && l.state == .up && !((s.bridge? link).any (·.failed)) && !s.replacing link then
        (s.commit 0xFFFF (.combState link .replacement l.serial) []).ev0 0x417 .notice (le 1 link)
      else s)

/-! ## Reshape (R244 to R250) -/

/-- Change the reshape of a hive. -/
def State.reshape' (s : State) (h : Nat) (f : Reshape → Reshape) : State :=
  s.sp' fun p => { p with reshapes := updFirst (·.hive == h) f p.reshapes }

/-- Reshape pauses (R248): a stripe of the hive has an erased member and its rebuild has not ended, the ledger is full, or the honey hive is
dark. -/
def State.reshapePauses (s : State) (h : Nat) : Bool :=
  s.ledgerFull || (!s.isBrood h && (s.hive? h).any Hive.isDark) || s.sp.rebuilds.any (·.hive == h) ||
    s.sp.table.any fun t => t.hive == h && !t.released && t.members.any fun m => m.state == 1 || s.needsRebuild t m.link ||
      (s.link? m.link).any fun l => l.comb == .failed || l.comb == .retired

/-- The next old stripe to convert (R246). -/
def State.reshapeNext (s : State) (r : Reshape) : Option Stripe :=
  (s.myStripes r.hive).find? fun t => r.bound ≤ t.ord && t.ord ≤ r.last && !r.pendingOld.contains t.ord

/-- A head converts stripes: not in Quiesce, where only accepted work drains, nor asleep or in Rejoin (R116, R119, R120; log 88). -/
def State.reshapeRuns (s : State) : Bool :=
  !(s.inMode .quiesce || s.inMode .hold || s.inMode .watch || s.inMode .rejoin)

/-- What the stripes opened between two states take from the comb links. -/
def State.newLoad (s u : State) : LinkLoad :=
  let new := (u.sp.opens.map fun x => (x.ord, x.region, x.members)) ++ u.sp.table.map fun x => (x.ord, x.region, x.members)
  (new.filter fun x => s.stripeOrd ≤ x.1 && x.1 < u.stripeOrd && x.1 / 2 ^ 24 % 2 == sideN s.pr.side).flatMap fun x => progLoad x.2.1 x.2.2

/-- What the conversion of an old stripe takes from the comb links: the pages of its live envelopes, and the units of the stripes that it
has opened since (R250). -/
def State.reshapeLoad (s u : State) (t : Stripe) : LinkLoad :=
  ((s.copyPages t).map fun p => ((t.members[p.1]?.map (·.link)).getD 0, false, 16384)) ++ s.newLoad u

/-- Charge a reshape with a load and go on to a state, while the share of the interval of 100 ms allows it on every link; wait otherwise
(R240, R250; the interval as at rebuildStripe, log 93). -/
def State.reshapeCharge (s : State) (r : Reshape) (load : LinkLoad) (u : State) : State :=
  let fresh := s.ck.now ≥ r.shareFrom + 100 * milli
  let all := (if fresh then [] else r.shareUsed) ++ load
  if !s.shareHolds all (s.setting 0x04000004) then s
  else u.reshape' r.hive fun x => { x with shareUsed := all, shareFrom := if fresh then s.ck.now else r.shareFrom }

/-- Put a stripe's live envelopes in the hive's open row of moves, opening one when there is none (R287, R296). -/
def State.copyHoney (s : State) (h : Nat) (p : Purpose) (es : List (EnvEntry × Place × Bytes)) : State :=
  if es.isEmpty then s
  else
    let s := if (s.openRow h true).isSome then s else s.newRow h .gc
    match (s.openRow h true).bind (·.sets.head?) with
    | none => s
    | some x => (s.copyRow x p es.length es).sealIfFull x

/-- Convert one old stripe (R246); a metadata stripe is left by the next flush (R297). It waits while the conversion would take more than
the share of the interval on a link (R250). -/
def State.reshapeOne (s0 : State) (r : Reshape) (t : Stripe) : State :=
  let s := s0.loseUnsound t
  let s := if t.purpose == .metadata then s.metaRewrite t
    else if t.region != .honey then
      let es := s.liveEnvs t
      let (s, ords) := s.copySlc r.hive .reshape es.length es
      if ords.isEmpty then s else s.placeStripes ords
    else s.copyHoney r.hive .reshape (s.liveEnvs t)
  s0.reshapeCharge r (s0.reshapeLoad s t)
    (((s.reshape' r.hive fun r => { r with
      converted := r.converted + 1, pendingOld := r.pendingOld ++ [t.ord], paused := false }).hive' r.hive fun x => { x with
        reshapeNeed := !x.brood }).stat 0x0406 0 0 1)

/-- The newest new-geometry commit of the hive (R244). -/
def State.covering (s : State) (r : Reshape) : Nat :=
  ((s.sp.table.filter fun t => t.hive == r.hive && t.purpose == .reshape && t.ord > r.last).map (·.commitOrd)).foldl max 0

/-- Something of an old stripe is still to be placed elsewhere (R246). -/
def State.staysLive (s : State) (t : Stripe) : Bool := t.live > 0 && !t.released && !s.spentStripe t

/-- An old stripe is still open: it may hold chunks to convert once it is committed (R244). -/
def State.oldOpen (s : State) (r : Reshape) : Option Nat :=
  ((s.sp.opens.filter fun t => t.hive == r.hive && r.bound ≤ t.ord && t.ord ≤ r.last).map (·.ord)).foldl (fun a o => some (min (a.getD o) o)) none

/-- Checkpoint the converted stripes once nothing of them is live, and release them (R246). -/
def State.reshapeCkpt (s : State) (r : Reshape) : State :=
  if r.pendingOld.any fun o => (s.stripe? o).any s.staysLive then s
  else
    let next := ((s.reshapeNext r).map (·.ord)).getD (r.last + 1)
    let b := min next ((s.oldOpen r).getD next)
    let s := s.journal 0x11 r.hive [r.oldN, r.newN, b, r.last, r.converted, s.covering r] []
    let s := s.reshape' r.hive fun r => { r with bound := b, covering := s.covering r, pendingOld := [] }
    s.judgeJournal.releaseIf true r.pendingOld

/-- A stripe whose conversion failed, a program or a read-back, is converted again: once nothing of the conversions is still open
or waiting to be accepted, what is still live in an old stripe has not been placed (R221, R246, R290). -/
def State.reshapeAgain (s : State) (r : Reshape) : State :=
  if s.me.rows.any (·.hive == r.hive) || s.wx.own.any (!·.accepted) then s
  else s.reshape' r.hive fun r => { r with
    pendingOld := r.pendingOld.filter fun o => !((s.stripe? o).any fun t => s.staysLive t && !t.moving) }

/-- Toward a checkpoint: what lies in an open row can be placed only once the row is closed and read back (R288), so that a row is filled,
one stripe a turn and within the share (R250); without an open row the checkpoint is written (R246). -/
def State.reshapeClose (s : State) (r : Reshape) : State :=
  match s.openRow r.hive true with
  | some row =>
    let x := row.sets.headD (0, 0, 0)
    let (u, more) := s.rowStripe row .reshape []
    let u := if more then u else s.sealRow x
    s.reshapeCharge r (s.newLoad u ++ if more then [] else s.restLoad row) u
  | none =>
    let s := s.reshapeAgain r
    match s.sp.reshapes.find? (·.hive == r.hive) with
    | some r => s.reshapeCkpt r
    | none => s

/-- A reshape pauses: E421; it resumes at B, so that what was converted above it is converted again (R248). -/
def State.reshapePause (s : State) (h : Nat) : State :=
  ((s.reshape' h fun r => { r with paused := true, converted := r.converted - r.pendingOld.length, pendingOld := [] }).hive' h fun x => { x with
    reshapeNeed := false }).ev0 0x421 .warn (le 1 h)

/-- The reshape of a hive is over: E420, and a head in Reshape returns to Full (R109, R249). -/
def State.reshapeEnd (s : State) (h : Nat) : State :=
  let s := (s.sp' fun p => { p with reshapes := p.reshapes.filter (·.hive != h) }).ev0 0x420 .notice (le 1 h)
  let s := s.hive' h fun x => { x with reshapeNeed := false }
  if s.inMode .reshape && s.sp.reshapes.isEmpty then s.autoMode .full else s

/-- RESHAPE_STRIPES: one old stripe, a step toward a checkpoint, or the end. -/
def execReshapeStripes (hive : Nat) (s : State) : Host.Outcome State Fault Refusal :=
  let s := s.heed hive
  ok (match s.sp.reshapes.find? (·.hive == hive) with
    | none => s
    | some r =>
      if !s.reshapeRuns || !(s.isBrood hive || s.owns (.honey hive)) then s
      else if s.reshapePauses hive then
        if r.paused then s else s.reshapePause hive
      else if !s.mayMove hive then s
      else if r.pendingOld.length ≥ 256 then s.reshapeClose r
      else match s.reshapeNext r with
        | some t => s.reshapeOne r t
        | none =>
          if !r.pendingOld.isEmpty then s.reshapeClose r
          else if (s.oldOpen r).isSome then s
          -- a whole new hive converts nothing: its combs come up, and a last checkpoint gives B 2 (R245; log 93)
          else if r.oldN = 0 && r.last < r.bound then
            if (s.workingLinks hive).any fun k => (s.link? k).any (·.state != .up) then s
            else (s.journal 0x11 hive [0, r.newN, 2, 0, 0, 0] []).reshapeEnd hive
          else s.reshapeEnd hive)

end Sys2Proof.Machine
end

