-- ==== Sys2Proof/Machine/Media.lean ====
section
/-! DEFINITION. The commands of brood, honey and media management: fold rows and their read-back (R286 to R293), garbage
collection (R294 to R297), wear moves (R302) and erases (R256). -/

namespace Sys2Proof.Machine

/-! ## Fold (R286, R287, R292) -/

/-- Fill and close every open row of a hive (R292). -/
def State.closeRows (s : State) (h : Nat) : State :=
  (s.me.rows.filter fun r => r.hive == h && !r.sealed).foldl (fun t r => match r.sets.head? with
    | none => t
    | some x =>
      let gc := (t.set? x.1 x.2.1 x.2.2).any (·.use == .gc)
      (t.fillRow x (if gc then .gc else .fold) 1100).sealRow x) s

/-- Envelopes of the brood that can no longer be read are lost before fold takes them (R157, R158). -/
def State.checkFold (s : State) : State :=
  (s.sp.table.filter fun t => s.isBrood t.hive && t.region != .honey && !t.released && t.purpose != .metadata && s.minesStripe t &&
    s.hivePowered t.hive && s.allAnswer t.hive).foldl State.loseUnsound s

/-- A turn of fold in a honey hive: the open row, or a new one, takes what it can, unless a collection there goes first (R294); it closes
full when the brood holds no more chunks or a dark is decided (R292). -/
def State.foldRow (s : State) (h : Nat) : State :=
  if (s.hive? h).any (·.darkDecided) then (s.closeRows h).hive' h fun x => { x with foldNeed := false }
  else if s.gcFirst h || !s.mayMove h then s
  else
    let s := s.checkFold
    let es := s.foldable
    if es.isEmpty then (s.closeRows h).hive' h fun x => { x with foldNeed := false }
    else
      let s := if (s.openRow h false).isSome then s else s.newRow h .fold
      match (s.openRow h false).bind (·.sets.head?) with
      | none => s
      | some x =>
        let s := (s.copyRow x .fold es.length es).sealIfFull x
        if s.foldable.isEmpty then (s.closeRows h).hive' h fun x => { x with foldNeed := false } else s

/-- FOLD_ROW: into an awake honey hive that this head owns, or, in an apiary without one, into a brood hive (R15). An open row is closed
also while the hive darkens, before its dark point (R292, R365). -/
def execFoldRow (hive : Nat) (s : State) : Host.Outcome State Fault Refusal :=
  let s := (s.hv.hives.filter (·.brood)).foldl (fun (t : State) h => t.heed h.id) (s.heed hive)
  ok (if (if s.isBrood hive then s.noHoney else s.owns (.honey hive)) && s.mayFinish hive then s.foldRow hive else s)

/-! ## Read-back (R288 to R291) -/

/-- The block sets of a row that do not pass read-back (R289). -/
def State.failedSets (s : State) (r : FoldRow) : List (Nat × Nat × Nat) := r.sets.filter fun x => !s.setPasses x r.stripes

/-- A stripe has a unit in one of some block sets. -/
def State.touches (s : State) (bad : List (Nat × Nat × Nat)) (o : Nat) : Bool :=
  (s.stripe? o).any fun t => t.members.any fun m => bad.contains (m.link, m.die, m.block)

/-- End the read-back of a row: what lies wholly in full block sets that passed is placed, the rest released to be moved
again (R288, R293); each failing block set gains a grown fault, with E503 (R290, R291, R305). -/
def State.endReadBack (s : State) (r : FoldRow) (bad : List (Nat × Nat × Nat)) : State :=
  let lost := r.stripes.filter (s.touches (bad ++ r.sets.filter (!s.setFull ·)))
  let good := r.stripes.filter (!lost.contains ·)
  let s := s.me' fun m => { m with rows := m.rows.filter (· != r) }
  let s := r.sets.foldl (fun t x => t.set' x.1 x.2.1 x.2.2 fun b => { b with passed := !bad.contains x }) s
  let s := bad.foldl (fun t x => ((t.grownFault x.1 x.2.1 x.2.2).ev0 0x503 .notice (le 1 x.1 ++ le 1 x.2.1 ++ le 2 x.2.2)).bump
    0x050A x.1 0 1) s
  let s := if good.isEmpty then s else s.placeStripes good
  let s := if lost.isEmpty then s
    else ((lost.foldl (fun t o => t.stripe' o fun x => { x with placed := true }) s).dropStripes lost).sp' fun p => { p with
      table := p.table.map fun t => if t.hive == r.hive then { t with moving := false } else t }
  s.dirtySets

/-- The first row of a hive that is closed and waits for its read-back. -/
def State.sealedRow (s : State) (h : Nat) : Option FoldRow := s.me.rows.find? fun r => r.hive == h && r.sealed

/-- READ_BACK_DONE: the row's block sets have been read; those whose units fail, fail (R289, R290). -/
def execReadBackDone (hive : Nat) (s : State) : Host.Outcome State Fault Refusal :=
  ok (match s.sealedRow hive with
    | some r => if (s.heed hive).mayFinish hive then (s.heed hive).endReadBack r ((s.heed hive).failedSets r) else s.heed hive
    | none => s)

/-- READ_BACK_FAIL: at least one block set fails; where the pages do not show which, a free value says it (log 3). -/
def execReadBackFail (hive : Nat) (s : State) : Host.Outcome State Fault Refusal :=
  let s := s.heed hive
  ok (match s.sealedRow hive with
    | some r =>
      if !s.mayFinish hive then s
      else if (s.failedSets r).isEmpty then
        s.afterDraw.endReadBack r ((r.sets[s.drawnNat % max 1 r.sets.length]?).toList)
      else s.endReadBack r (s.failedSets r)
    | none => s)

/-! ## Garbage collection (R294 to R297) -/

/-- After a copy, what of a stripe is neither in flight nor moved is left for a later turn. -/
def State.restStays (s : State) (t : Stripe) : State :=
  if (s.liveEnvs t).isEmpty then s else s.stripe' t.ord fun x => { x with moving := false }

/-- Collect one stripe: its manifests that are to be walked first (R296, R297, R468). -/
def State.collect (s : State) (t : Stripe) : State :=
  let s := s.walkStripe t 4
  if s.walkWaits t then s
  else if t.live == 0 then s.releaseEmpty [t.ord]
  else if t.purpose == .metadata then s.metaRewrite t
  else
    let s := s.loseUnsound t
    let es := s.liveEnvs t
    if s.spentStripe t then s.releaseIf true [t.ord]
    else
    let s := s.stripe' t.ord fun x => { x with moving := true }
    if t.region != .honey then
      let (s, ords) := s.copySlc t.hive .gc es.length es
      (if ords.isEmpty then s else s.placeStripes ords).restStays t
    else
      let s := (s.copyHoney t.hive .gc es).restStays t
      if (s.gcPick t.hive).isNone then
        match (s.openRow t.hive true).bind (·.sets.head?) with
        | some x => (s.fillRow x .gc 1100).sealRow x
        | none => s
      else s

/-- GC_MOVE: the stripe that the order of R295 gives, in a hive this head may work on, unless fold goes first (R285). -/
def execGcMove (ord : Nat) (s : State) : Host.Outcome State Fault Refusal :=
  ok (match s.stripe? ord with
    | none => s
    | some t =>
      let s := (s.heed t.hive).judgeGc t.hive
      if s.mayMove t.hive && (s.gcPick t.hive).any (·.ord == ord) && !s.foldFirst t.hive then s.collect t else s)

/-! ## Wear moves (R302) -/

/-- The FREE block set of highest P/E count of a comb in a mode, by die and block, the lowest-numbered among equals; one that was never
erased here counts as 0 (R302, R818). -/
def State.wornFree (s : State) (l : Link) (qlc : Bool) : Option (Nat × Nat) :=
  (firstSet (fun b x => x.pe < b.pe || (b.pe == x.pe && (b.die < x.die || (b.die == x.die && b.block < x.block))))
    ((s.wearSets l.link qlc).filter fun b => b.state == .free && (s.diesFor l).contains b.die)).map fun b => (b.die, b.block)

/-- Move one unit into a block set opened for wear moves, read it back, and commit the stripe's new member, with every unit of the stripe on
a failed comb that can be solved (R302, R820). -/
def State.wearUnit (s : State) (die block : Nat) (t : Stripe) (i : Nat) : State :=
  if t.purpose == .metadata then s.metaRewrite t
  else match t.members[i]?, s.unitOf t i with
  | some m, some u => match s.set? m.link die block with
    | none => s
    | some b =>
      let need := regionUnits t.region
      if b.nextUnit + need > 384 then s
      else
        let page := if b.qlc then 4 * b.nextUnit else b.nextUnit
        let m' : Member := { m with die := die, block := block, page := page, state := 0 }
        let s := (s.heedPages t (wholePages t.region [i])).set' m.link die block fun x => { x with nextUnit := b.nextUnit + need }
        let others := (s.withFailed t [(i, u)]).filter (·.1 != i)
        let s := s.programUnit t.region m' (s.footerOf t.opener t.region t.purpose t.hive t.ord i t.members.length t.used t.openTick m' u) u
        if !s.backReads t.region t.ord i t.opener m' then s.scheduleRewrite t.ord
        else match s.replaceUnits t others (t.members.set i m') [] with
          | (s, some ms, _) => (s.commitMembers t ms).stat 0x0503 m.link 0 (unitBytes t.region)
          | (s, none, _) => s.scheduleRewrite t.ord
  | _, _ => (s.heedPages t (wholePages t.region [i])).scheduleRewrite t.ord

/-- Move the data of one SEALED block set into the FREE one of highest P/E count. -/
def State.wearSet (s : State) (l : Link) (b : BlockSet) : State :=
  match s.wornFree l b.qlc with
  | none => s
  | some (die, block) =>
    let s := (s.setBlock l.link die block .opened b.qlc .wear).set' l.link die block fun x => { x with
      nextUnit := 0, progUnit := 0, openTick := s.ck.tick, passed := false }
    let ts := (s.myStripes l.hive).filter fun t => t.members.any fun m => m.link == b.link && m.die == b.die && m.block == b.block
    let s := ts.foldl (fun u t => match t.members.findIdx? fun m => m.link == b.link && m.die == b.die && m.block == b.block with
      | some i => u.wearUnit die block t i
      | none => u) s
    s.setBlock l.link die block .sealed b.qlc .wear

/-- The spread above which moves go on: WEAR_SPREAD, less 100 once they have begun (R302). -/
def State.wearLimit (s : State) (link : Nat) : Nat :=
  if s.me.wearActive.contains link then s.setting 0x04000014 - 100 else s.setting 0x04000014

/-- WEAR_MOVE: one block set of a comb, in a hive this head may work on; E510 at the start and at the end. -/
def execWearMove (link : Nat) (s : State) : Host.Outcome State Fault Refusal :=
  let s := s.heed (link / 16)
  ok (match s.link? link with
    | none => s
    | some l =>
      if !s.mayMove l.hive || !(l.comb == .working || l.comb == .replacement) then s
      else
        let lim := s.wearLimit link
        let due := [false, true].findSome? fun qlc =>
          if (s.wearPick link qlc).1 > lim then (s.wearPick link qlc).2 else none
        match due with
        | some b =>
          let s := if s.me.wearActive.contains link then s
            else (s.me' fun m => { m with wearActive := m.wearActive ++ [link] }).ev0 0x510 .info (le 1 link ++ [1])
          s.wearSet l b
        | none =>
          if s.me.wearActive.contains link then
            (s.me' fun m => { m with wearActive := m.wearActive.filter (· != link) }).ev0 0x510 .info (le 1 link ++ [0])
          else s)

/-! ## Erases (R256) -/

/-- BLOCK_ERASE_DONE: nothing until the erase of a FREE_DIRTY block set has passed. -/
def execBlockEraseDone (link die block : Nat) (s : State) : Host.Outcome State Fault Refusal :=
  ok (match s.set? link die block with
    | some b => if b.erased && b.state == .freeDirty then s.eraseEnds b else s
    | none => s)

end Sys2Proof.Machine
end

