-- ==== Sys2Proof/Machine/Reduction.lean ====
section
/-! DEFINITION. The reduction rows: CHUNK_INGEST, POST_PROCESS, FILTER_REBUILD, MERGE_COMMIT and ENVELOPE_READ. -/

namespace Sys2Proof.Machine

/-- CHUNK_INGEST (R122, R142). -/
def execChunkIngest (ordinal : Nat) (s : State) : Host.Outcome State Fault Refusal := ok (s.ingest ordinal)

/-- POST_PROCESS (R148). -/
def execPostProcess (chunk : Nat) (s : State) : Host.Outcome State Fault Refusal := ok (s.postProcess chunk)

/-- FILTER_REBUILD (R139): begins the build that a start asks for, or ends the one in progress: the new filter holds
every index entry, and the fingerprints set while it was built. -/
def State.filterRebuild (s : State) : State :=
  match s.rd.filterNew with
  | some f =>
    let built := s.rd.fps.foldl (fun g e => filterAdd g (filterBlock s.rd.filterNewBlocks e.fp) (filterMask e.fp)) f
    (s.rd' fun r => { r with
      filter := built, filterBlocks := r.filterNewBlocks, filterNew := none, filterReady := true }).ev0 0x310 .notice [1#8]
  | none => if s.rd.filterReady then s else s.beginFilter

/-- FILTER_REBUILD (R139). -/
def execFilterRebuild (s : State) : Host.Outcome State Fault Refusal := ok s.filterRebuild

/-- MERGE_COMMIT (R128, R129, R816). -/
def execMergeCommit (nsid k : Nat) (s : State) : Host.Outcome State Fault Refusal := ok (s.mergeCommit nsid k)

/-- ENVELOPE_READ (R156 to R158): the checks, the rebuilds and what they bring about. -/
def execEnvelopeRead (chunk : Nat) (s : State) : Host.Outcome State Fault Refusal := ok (s.chunkBytes chunk).1

end Sys2Proof.Machine
end

