-- ==== Sys2Proof/Machine/Shelf.lean ====
section
/-! DEFINITION. The shelf controllers on the hive control buses (R354, R356, R358, R359, R384), and what the loss of
slot power leaves in the combs (R288, R346). -/

namespace Sys2Proof.Machine

/-! ## Combs that lose power -/

/-- A page of a program that power loss cut short: erased, unreadable or whole, the spec does not say which (R288, a
free value). -/
def Bridge.cutPage (b : Bridge) (free : Nat) (p : NandPage) : Bridge :=
  match free % 3 with
  | 0 => b
  | 1 => { b with pages := b.pages ++ [{ p with bad := true }] }
  | _ => { b with pages := b.pages ++ [p] }

/-- The pages that a program task was to write, with the data that has arrived. -/
def progPages (die : Nat) (e : DieExec) : List NandPage :=
  let at_ := fun (i : Nat) => e.hdr.pages.getD i (0, 0)
  (List.range e.data.length).map fun i =>
    ⟨die, (at_ i).1, e.hdr.block, (at_ i).2, e.data.getD i [], e.spares.getD i (zeros 128), false, 0⟩

/-- What power loss does to a task that a die executes: a program's pages and, for a wordline, the two before it may be
damaged; a block being erased holds what it held or nothing (R288; free values). -/
def Bridge.cutTask (b : Bridge) (free : Nat → Nat) (die : Nat) (e : DieExec) : Bridge :=
  match e.hdr.op with
  | .programSlc => (progPages die e).foldl (fun b p => b.cutPage (free p.plane) p) b
  | .programQlc =>
    let b := (progPages die e).foldl (fun b p => b.cutPage (free (4 * p.plane + p.page)) p) b
    let w := e.hdr.page / 4
    { b with pages := b.pages.map fun p =>
        if p.die == die && p.block == e.hdr.block && p.page / 4 < w && w ≤ p.page / 4 + 2 && free (100 + p.page) % 2 == 1 then
          { p with bad := true }
        else p }
  | .erase => if free 0 % 2 == 0 then b else
      { b with pages := b.pages.filter fun p => !(p.die == die && p.block == e.hdr.block && (planesOf e.hdr.mask).contains p.plane) }
  | _ => b

/-- A die after its comb has been without power (R346). -/
def Die.powerLost (d : Die) : Die :=
  { d with
    exec := none, susp := none, eraseRun := none, winA := resetWindow, winB := resetWindow, refusedPort := none
    favoured := none, favUntil := 0, idleSince := 0 }

/-- A comb whose supply is gone: every register but the fence registers is at its reset value (R339, R346). -/
def Bridge.powerLost (b : Bridge) (free : Nat → Nat) : Bridge :=
  let b := b.dies.foldl (fun c d => match d.exec, d.susp with
    | some e, _ => c.cutTask free d.index e
    | none, some r => c.cutTask free d.index ⟨r.port, r.hdr, 0, [], [], [], false⟩
    | none, none => c) b
  { b with
    powered := false, failed := false, storeFault := false, temp := 0, events := []
    portA := resetPort, portB := resetPort, dies := b.dies.map (·.powerLost) }

/-- Slot power of a hive goes. -/
def State.combsOff (s : State) (h : Nat) : State :=
  let f := fun i => Config.freeNat (s.free + i)
  let s := s.cl' fun c => { c with bridges := c.bridges.map fun b => if b.hive == h && b.powered then b.powerLost f else b }
  { s with free := s.free + 4096 }

/-! ## The shelf -/

/-- A shelf of a number. -/
def State.shelf? (s : State) (h : Nat) : Option Shelf := s.hv.shelves.find? (·.hive == h)

/-- Change a shelf. -/
def State.shelf' (s : State) (h : Nat) (f : Shelf → Shelf) : State :=
  s.hv' fun v => { v with shelves := updFirst (·.hive == h) f v.shelves }

/-- Take a power state (R356). -/
def Shelf.power (x : Shelf) (p now : Nat) : Shelf :=
  if x.block.power == p then x else { x with block := { x.block with power := p, secs := 0 }, stateAt := now }

/-- The status block as it stands, with its seconds in state (R356). -/
def Shelf.status (x : Shelf) (now : Nat) : ShelfBlock :=
  { x.block with hive := x.hive, secs := min 0xFFFFFFFF ((now - x.stateAt) / second) }

/-- What the votes ask of the slots: power while either vote is up, none while both are down; POWERING_DOWN returns to
POWERED at once (R358, R359). -/
def Shelf.heed (x : Shelf) (now : Nat) : Shelf :=
  if x.block.voteA || x.block.voteB then
    if x.block.power == 0 && x.inputOk then x.power 1 now
    else if x.block.power == 3 then x.power 2 now
    else x
  else if x.block.power == 1 || x.block.power == 2 || (x.block.power == 4 && x.block.good != 0) then x.power 3 now
  else x

/-- Set one side's vote (R358). -/
def Shelf.vote (x : Shelf) (sd : Side) (up : Bool) (now : Nat) : Shelf :=
  let b := match sd with
    | .a => { x.block with voteA := up }
    | .b => { x.block with voteB := up }
  { x with block := b }.heed now

/-- Answer a request of a head: a repeat of its last sequence gets the stored reply and is not executed again, any other
is executed and its reply stored (R354). -/
def State.shelfAnswer (s : State) (h : Nat) (src : Side) (seq : Nat) (f : Shelf → Shelf) : State :=
  match s.shelf? h with
  | none => s
  | some x =>
    let last := match src with
      | .a => x.lastA
      | .b => x.lastB
    match last.filter (·.seq == seq) with
    | some r => s.send (.shelfReply h src r)
    | none =>
      let x := f x
      let r : ShelfReply := ⟨seq, 0, x.status s.ck.now⟩
      let x := match src with
        | .a => { x with lastA := some r }
        | .b => { x with lastB := some r }
      (s.shelf' h fun _ => x).send (.shelfReply h src r)

/-- STATUS at a shelf (R354, R356). -/
def execHcbStatus (hive : Nat) (src : Side) (seq : Nat) (s : State) : Host.Outcome State Fault Refusal :=
  ok (s.shelfAnswer hive src seq id)

/-- VOTE at a shelf (R358, R359). -/
def execHcbVote (hive : Nat) (src : Side) (seq : Nat) (up : Bool) (s : State) : Host.Outcome State Fault Refusal :=
  ok (s.shelfAnswer hive src seq fun x => x.vote src up s.ck.now)

/-- VOTE_CLEAR at a shelf: it clears the named side's vote (R354, R358). -/
def execHcbVoteClear (hive : Nat) (src : Side) (seq : Nat) (side : Side) (s : State) : Host.Outcome State Fault Refusal :=
  ok (s.shelfAnswer hive src seq fun x => x.vote side false s.ck.now)

/-- A shelf's input fails: INPUT_LOST; its slots stay powered from the reserve (R384). A shelf that is removing power
goes on doing so. -/
def execShelfInputFailure (hive : Nat) (s : State) : Host.Outcome State Fault Refusal :=
  ok (s.shelf' hive fun x =>
    let x := { x with inputOk := false, block := { x.block with inputMv := 0, inputMa10 := 0, inputW := 0 } }
    if x.block.power == 3 then x else x.power 4 s.ck.now)

/-- The reserve is spent while the input is lost: DARK, reserve 0, HOLDUP_OK clear; the combs lose power (R384). -/
def execHoldupReserveSpent (hive : Nat) (s : State) : Host.Outcome State Fault Refusal :=
  ok (match s.shelf? hive with
    | none => s
    | some x =>
      if x.inputOk then s
      else (s.shelf' hive fun x => { x with block := { x.block with
          good := 0, holdupMs := 0, holdupFlags := x.block.holdupFlags &&& 0xFE#8 } }.power 0 s.ck.now).combsOff hive)

/-- A shelf's input returns: power as the stored votes say (R358, R384). -/
def execShelfInputReturn (hive : Nat) (s : State) : Host.Outcome State Fault Refusal :=
  ok (s.shelf' hive fun x =>
    if x.inputOk then x
    else
      let x := { x with inputOk := true }
      if x.block.voteA || x.block.voteB then x.power 1 s.ck.now
      else if x.block.power == 3 then x
      else x.power 0 s.ck.now)

/-- A POWERING shelf has powered its populated slots: POWERED (R358, R359). -/
def execSlotsPowered (hive : Nat) (good : BitVec 16) (s : State) : Host.Outcome State Fault Refusal :=
  ok (s.shelf' hive fun x =>
    if x.block.power == 1 then { x with block := { x.block with good := good &&& x.block.populated } }.power 2 s.ck.now else x)

/-- A POWERING_DOWN shelf has removed power: DARK (R359). -/
def execSlotsPowerRemoved (hive : Nat) (s : State) : Host.Outcome State Fault Refusal :=
  ok (match s.shelf? hive with
    | none => s
    | some x =>
      if x.block.power == 3 then
        (s.shelf' hive fun x => { x with block := { x.block with good := 0 } }.power 0 s.ck.now).combsOff hive
      else s)

end Sys2Proof.Machine
end

