-- ==== Sys2Proof/Machine/Start.lean ====
section
/-! DEFINITION. The commands of a start and of the faults that lead to one (16, 18, 21): START, the late run of optional steps, the loss
of the crystal, the reference or a supply, the propolis alarm and its end; the lag of a colony key, and the frames of MG that are
no TCP (R25). -/

namespace Sys2Proof.Machine

/-! ## START (R611 to R627) -/

/-- BOOT_BEGIN: the counts, the start mode, and tallies and log that begin anew (R618, R619, R622, R636). -/
def State.bootStart (s : State) (plan : List StepPlan) : State :=
  let counts := (List.range 14).map fun i => failCount s.bt.ledger (i + 1)
  let count := fun (k : Nat) => counts.getD (k - 1) 0
  let ks := (List.range 14).map (· + 1)
  let recovery := s.pw.nextRecovery || ks.any fun k => mandatory k && 3 ≤ count k
  let safe := !recovery && ks.any fun k => count k = 2
  let mode := if recovery then 2 else if safe then 1 else 0
  let s := s.bt' fun b => { b with
    startNum := b.startNum + 1, tallies := zeroTallies, log := [], step := 1, executing := 0xFF, plan := plan, inService := false }
  let s := s.ledgerRec 0x00 0 0 0 0 0 (le 1 s.pw.resetCause ++ le 1 mode ++ counts.flatMap fun c => le 1 (min c 255))
  let s := (s.pw' fun p => { p with startDue := false, nextRecovery := false }).md' fun m => { m with recovery := recovery, safe := safe }
  let s := (s.bump 0x0D01 s.pw.resetCause 0 1).cond safe fun t => t.bump 0x0D02 0 0 1
  (s.cond recovery fun t => t.bump 0x0D02 0 1 1).firstRecord

/-- The recovery service in place of steps 6 to 14 (R626, R628, R638). A recovery start that RESTART asked for has its RECOVERY record
already. -/
def State.recover (s : State) : State :=
  let k := ((List.range 15).find? fun k => mandatory k && 3 ≤ s.countOf k).getD 0
  let s := if k = 0 then s else s.ledgerRec 0x04 0 0 0 0 0 (le 1 k ++ [0#8])
  ((((s.ev0 0xD03 .critical (le 1 k)).extend 7 5 0 0 (ascii "TA7214-recovery")).bt' fun b => { b with step := 0 }).sbDrain).judgeStatus

/-- Key-erased service in place of steps 11 to 14 (R708). -/
def State.serveErased (s : State) : State :=
  let s := [11, 12, 13, 14].foldl (fun t k => t.finishStep k 2 0 0 0 []) s
  ((((s.md' fun m => { m with keyErased := true }).bt' fun b => { b with step := 0 }).sbDrain).judgeStatus)

/-- Steps 11 and 12 of a start: replay, then the join, which its ticks end (R181, R563, R616, R624). -/
def State.replayAndJoin (s : State) : State :=
  let x := bootStep (s.setTick.admitHives, true) 11 (fun t => (t.replay, true)) fun _ => []
  if !x.2 then x.1
  else
    let s := x.1.sbDrain
    if s.skips 12 then
      let s := (s.skipStep 12).bt' fun b => { b with skippedJoin := true }
      (((s.autoMode .quiesce).ev0 0xB00 .warn []).afterJoin).judgeStatus
    else (s.beginJoin (s.attemptOf 12)).judgeStatus

/-- The channels trained and the speed of step 6, the mask of step 9, the links of step 10 (R619, log 80). -/
def State.linksUp (s : State) : Bytes :=
  let up := s.cl.links.filter (·.state == .up)
  le 1 up.length ++ le 1 (up.filter (·.half)).length

/-- A recovery start whose cause is step 5 does without its lock: the service runs on the reference clock (R626). -/
def State.lockFails (s : State) : Bool := s.md.recovery && 3 ≤ s.countOf 5 && (s.planOf 5).fail

/-- Step 5 of such a start: it fails, and the start goes on. -/
def State.noLock (s : State) : State :=
  let a := s.attemptOf 5
  (s.beginStep 5 a).stepFails 5 a (s.planOf 5).durUs

/-- A start (R612): every step in order; a mandatory one that fails ends it. -/
def State.start (s : State) (plan : List StepPlan) : State :=
  let x := (s.bootStart plan, true)
  let x := bootStep x 1 (fun t => (t, true)) fun _ => []
  let x := bootStep x 2 State.romStep fun _ => []
  let x := bootStep x 3 State.bankStep fun _ => []
  let x := bootStep x 4 (fun t => (t, true)) fun _ => []
  let x := if x.1.lockFails then (if x.2 then x.1.noLock else x.1, x.2) else bootStep x 5 (fun t => (t, true)) fun _ => []
  if !x.2 then x.1
  else if x.1.md.recovery then x.1.recover
  else
    let x := bootStep x 6 State.dramStep fun t => le 1 8 ++ [0#8] ++ le 2 t.dr.mts
    let x := bootStep x 7 State.waxStep fun _ => []
    let x := bootStep x 8 State.mainStep fun _ => []
    let x := bootStep x 9 State.testStep fun t => le 8 t.md.gated.toNat
    let x := bootStep x 10 State.linkStep State.linksUp
    if !x.2 then x.1
    else if x.1.ks.sealState == 2 then x.1.serveErased
    else x.1.replayAndJoin

/-- Power is on, every clock and supply is good, and nothing holds the device in reset (R611, R707, R790). -/
def State.mayStart (s : State) : Bool :=
  s.pw.startDue && s.pw.aonOk && s.pw.suppliesOk && s.pw.xtalOk && s.pw.refOk && !s.pw.inReset && s.pw.alarmStands == 0

/-- START: the plan says what the hardware outside this model does in each step (R611). -/
def execStart (plan : List StepPlan) (s : State) : Host.Outcome State Fault Refusal := ok (if s.mayStart then s.start plan else s)

/-- OPTIONAL_STEP_LATE_RUN (R624): 60 s after step 14, each skipped optional step once, with attempt late. -/
def execOptionalStepLateRun (s : State) : Host.Outcome State Fault Refusal :=
  ok (if !s.bt.inService || s.ck.now < s.bt.service14At + 60 * second || s.md.stopped || s.pw.sleep.isSome then s
    else
      let s := if !s.bt.skippedJoin then s
        else
          let s := (s.beginStep 12 3).bt' fun b => { b with skippedJoin := false, step := 0 }
          let s := ((s.pw' fun p => { p with waggleEnable := true }).pr' fun p => { p with joinSince := some s.ck.now }).bindPinned
          (s.finishStep 12 0 3 0 0 []).ev0 0xD04 .notice (le 1 12 ++ [1#8])
      if !s.bt.skippedColony then s
      else
        let s := (s.colonyStep 3).bt' fun b => { b with skippedColony := false, step := 0 }
        s.ev0 0xD04 .notice (le 1 13 ++ [1#8]))

/-! ## Clocks and supplies (R790, R792, R793, R794, R796) -/

/-- CRYSTAL_LOSS (R796): no edge for 1 ms. The start after it counts as one of power-on (DESIGN CHOICE, log 80). -/
def execCrystalLoss (s : State) : Host.Outcome State Fault Refusal :=
  ok (if !s.pw.aonOk || !s.pw.xtalOk then s
    else ((s.holdReset 0).pw' fun p => { p with xtalOk := false }).bt' fun b => { b with step := 1 })

/-- REFERENCE_CLOCK_STOP (R705, R759, R794): outside Watch a reset. -/
def execReferenceClockStop (s : State) : Host.Outcome State Fault Refusal :=
  ok (if s.pw.sleep == some .watch || !s.pw.refOk then s
    else (s.holdReset 0).pw' fun p => { p with refOk := false })

/-- Nominal voltage of a supply in mV (R788): AON, CORE, SRAM, SD, VDDA_SD, VDDQ_DDR, WAX, FLASH, IO, HCB. -/
def nominalMv : List Nat := [1800, 750, 850, 850, 1200, 1100, 1200, 1800, 1800, 3300]

/-- A supply stays below 90 % of its nominal: the wax controller stops, and the device is held in reset; without the always-on supply
the RTC and the tick epoch are lost as well (R746, R753, R767, R792, R793). -/
def State.powerLoss (s : State) (aon : Bool) : State :=
  let s := (s.holdReset 0).pw' fun p => { p with suppliesOk := false, waxStopped := true }
  if aon then
    -- the counters of starts and of alarms are lost with the always-on supply (R741)
    let s := s.ct' fun c => { c with vals := [] }
    (((s.pw' fun p => { p with
        aonOk := false, padsHeld := false, imprint := p.imprint, alarm := 0, alarmStands := 0, alarmClearSince := none, alarmAt := 0 }).ck'
      fun c => { c with rtc := 0, epochLost := c.tickEpoch.isSome || c.epochLost, tickEpoch := none }).sb' fun _ => State.reset.sb).bt' fun b => { b with
        tallies := zeroTallies }
  else s

/-- SUPPLY_FALL: a supply reaches a voltage and stays there for a time, or returns (R705, R793). In Watch only the always-on supply is
watched. Within ±10 %, or above it up to 15 % for longer than 10 µs, nothing is detected (the latter DEDUCED, log 80). -/
def execSupplyFall (rail mv us : Nat) (s : State) : Host.Outcome State Fault Refusal :=
  let nom := nominalMv.getD rail 0
  ok (if nom = 0 || !s.pw.aonOk || (s.pw.sleep == some .watch && rail != 0) then s
    else if nom * 115 < mv * 100 then s.propolisAlarm 4
    else if nom * 90 ≤ mv * 100 && mv * 100 ≤ nom * 110 then s
    else if us ≤ 10 then s.propolisAlarm 4
    else if mv * 100 < nom * 90 then s.powerLoss (rail = 0)
    else s)

/-! ## Propolis (R705 to R707) -/

/-- PROPOLIS_ALARM (R706). In Watch the mesh and the temperature are seen at samples, the rest at once (R705): the command is the moment of
detection. -/
def execPropolisAlarm (cause : BitVec 4) (s : State) : Host.Outcome State Fault Refusal :=
  ok (if cause = 0 || !s.pw.aonOk then s else s.propolisAlarm cause)

/-- ALARM_CLEAR (R707): every condition is clear; the reset is released once that has held for 1 s. -/
def execAlarmClear (s : State) : Host.Outcome State Fault Refusal :=
  ok (if s.pw.alarmStands = 0 then s
    else match s.pw.alarmClearSince with
      | none => s.pw' fun p => { p with alarmClearSince := some s.ck.now }
      | some t =>
        if s.ck.now < t + second then s
        else s.pw' fun p => { p with
          alarmStands := 0, alarmClearSince := none
          inReset := !(p.suppliesOk && p.xtalOk && p.refOk) })

/-! ## Colony keys (R604) -/

/-- COLONY_KEY_LAG_TIMEOUT (R604): EC06, once. -/
def execColonyKeyLagTimeout (s : State) : Host.Outcome State Fault Refusal :=
  ok (if (s.co.lagSince.any fun t => t + 86400 * second ≤ s.ck.now) && !s.co.lagSaid && !s.md.stopped then
      (s.co' fun c => { c with lagSaid := true }).ev0 0xC06 .warn []
    else s)

/-! ## Frames of MG (R25) -/

/-- The ones' complement checksum of bytes (RFC 1071). -/
def inetSum (b : Bytes) : Bytes :=
  let n := ((pieces 2 b).map fun w => rdBe (fit 2 w)).sum
  let n := n % 65536 + n / 65536
  let n := n % 65536 + n / 65536
  be 2 (65535 - n % 65536)

/-- ICMPv6 with its checksum over the pseudo-header (RFC 4443). -/
def icmp6 (src dst b : Bytes) : Bytes :=
  let sum := inetSum (src ++ dst ++ be 4 b.length ++ [0#8, 0#8, 0#8, 58#8] ++ b.take 2 ++ zeros 2 ++ b.drop 4)
  b.take 2 ++ sum ++ b.drop 4

/-- The answer to an ARP request for MG's address. -/
def arpReply (f : Bytes) : Option Bytes :=
  if rdBe (slice f 20 2) = 1 && slice f 38 4 == fit 4 Config.mgIp4 then
    some (fit 60 (slice f 6 6 ++ fit 6 Config.mgMac ++ slice f 12 8 ++ [0#8, 2#8] ++ fit 6 Config.mgMac ++ slice f 38 4 ++ slice f 22 10))
  else none

/-- The answer to an ICMP echo request. -/
def echoReply (f : Bytes) : Option Bytes :=
  let ip := slice f 14 20
  let n := rdBe (slice ip 2 2) - 20
  let m := slice f 34 n
  if slice ip 16 4 == fit 4 Config.mgIp4 && slice ip 9 1 == [1#8] && m.take 2 == [8#8, 0#8] then
    some (slice f 6 6 ++ fit 6 Config.mgMac ++ slice f 12 2 ++ ip.take 12 ++ slice ip 16 4 ++ slice ip 12 4 ++
      [0#8, 0#8] ++ inetSum ([0#8, 0#8, 0#8, 0#8] ++ m.drop 4) ++ m.drop 4)
  else none

/-- The answer to an IPv6 neighbour solicitation or an ICMPv6 echo request. -/
def sixReply (f : Bytes) : Option Bytes :=
  let src := slice f 22 16
  let own := fit 16 Config.mgIp6
  let m := slice f 54 (rdBe (slice f 18 2))
  let out := fun (b : Bytes) => slice f 6 6 ++ fit 6 Config.mgMac ++ slice f 12 2 ++ slice f 14 4 ++ be 2 b.length ++ [58#8, 255#8] ++
    own ++ src ++ icmp6 own src b
  if slice f 20 1 != [58#8] then none
  else if m.take 1 == [135#8] && slice m 8 16 == own then
    some (out ([136#8, 0#8, 0#8, 0#8, 0x60#8, 0#8, 0#8, 0#8] ++ own ++ [2#8, 1#8] ++ fit 6 Config.mgMac))
  else if m.take 1 == [128#8] && slice f 38 16 == own then some (out ([129#8] ++ m.drop 1))
  else none

/-- A TCP segment to the Virkan or the attestation port, which has its own commands. The spec calls the MG Virkan port configurable and gives
no setting for it: the model leaves that port at its default (DESIGN CHOICE, log 93). -/
def tcpFrame (f : Bytes) : Bool :=
  let port := fun (b : Bytes) => rdBe (slice b 2 2) == 28612 || rdBe (slice b 2 2) == 28613
  (rdBe (slice f 12 2) == 0x0800 && slice f 23 1 == [6#8] && port (f.drop 34)) ||
    (rdBe (slice f 12 2) == 0x86DD && slice f 20 1 == [6#8] && port (f.drop 54))

/-- MG_NETWORK_FRAME (R25): answered, or dropped and counted. -/
def execMgNetworkFrame (frame : Bytes) (s : State) : Host.Outcome State Fault Refusal :=
  let reply := match rdBe (slice frame 12 2) with
    | 0x0806 => arpReply frame
    | 0x0800 => echoReply frame
    | 0x86DD => sixReply frame
    | _ => none
  ok (if s.md.stopped || s.md.halted || s.md.recovery || s.pw.sleep.isSome || tcpFrame frame then s
    else match reply with
      | some r => s.send (.net r)
      | none => s.vk' fun v => { v with mgDropped := v.mgDropped + 1 })

end Sys2Proof.Machine
end

