-- ==== Sys2Proof/Machine/Wax.lean ====
section
/-! DEFINITION. The commands of wax: confirmations (R29, R168), checkpoints (R178 to R180) and metadata flushes (R263). -/

namespace Sys2Proof.Machine

/-- The head runs: it is awake, it has not stopped, and its start has replayed. -/
def State.running (s : State) : Bool := !s.md.stopped && !s.md.halted && s.pw.sleep.isNone && s.wx.replayed

/-- WAX_RECORD_CONFIRMED (R168): the record and every one of lower ordinal have been written completely. -/
def execWaxRecordConfirmed (ordinal : Nat) (s : State) : Host.Outcome State Fault Refusal :=
  ok (if s.pw.waxStopped || !(s.wx.own.any (·.ordinal == ordinal)) then s
    else
      let s := s.wx' fun w => { w with own := w.own.map fun r => if r.ordinal ≤ ordinal && !r.torn then { r with localOk := true } else r }
      if s.running then s.settle.issueErases else s)

/-! ## Checkpoints -/

/-- A live data record that a merge pins: only merges on dark hives still wait for it (R175, R178). -/
def State.pinnedRec (s : State) (r : WaxRec) : Bool :=
  r.live && r.body.isData && s.rd.merges.any fun m => m.ordinal == r.ordinal && m.dark

/-- The flush ordinal now (R178): no further than the newest root head that counts (R263), and below every live data record that
is not pinned. -/
def State.flushOrdinal (s : State) : Nat :=
  ((s.liveData.filter fun r => !s.pinnedRec r).map fun r => r.ordinal - 1).foldl min (min s.fl.covered s.wx.lastApplied)

/-- The place of the lowest-ordinal record of a ring above F, or where its next record goes. -/
def State.walkFrom (s : State) (ring : WaxRing) (f wp : Nat) : Nat :=
  match (s.wx.own.filter fun r => r.ring == ring && f < r.ordinal).head? with
  | some r => r.off
  | none => wp

/-- The ordinal of the checkpoint that a slot holds. -/
def State.slotOrd (s : State) (n : Nat) : Nat := ((s.wx.own.filter (·.ring == slotRing n)).map (·.ordinal)).foldl max 0

/-- Write a checkpoint in the next slot, in place of the one it holds (R179). -/
def State.writeCheckpoint (s : State) : State :=
  let f := s.flushOrdinal
  let pins := ((s.wx.own.filter fun r => r.ordinal ≤ f && s.pinnedRec r).map fun r => (⟨r.off, r.units, r.ordinal⟩ : RelItem)).take 65536
  let body := RecBody.checkpoint f (s.walkFrom .commit f s.wx.commitWp) (s.walkFrom .data f s.wx.dataWp) s.wx.epoch pins
  let ring := slotRing s.wx.nextSlot
  let s := (s.wx' fun w => { w with own := w.own.filter (·.ring != ring) }).commit 0xFFFF body []
  (s.wx' fun w => { w with nextSlot := (w.nextSlot + 1) % 4, ckptAt := s.ck.now, sinceCkpt := 0 }).stat 0x0203 0 0 1

/-- CHECKPOINT_DUE (R179, R180): 64 MiB of records, 1 s, or less than 96 MiB free; never more than one in 8 ms, and only with a
flush ordinal that reaches the checkpoint the slot holds; none while the pair join restores commit order (R74). -/
def execCheckpointDue (s : State) : Host.Outcome State Fault Refusal :=
  let due := 67108864 ≤ s.wx.sinceCkpt || s.wx.ckptAt + second ≤ s.ck.now || s.ownFree < 96 * 2 ^ 20
  ok (if !s.running || s.joining || !due || s.ck.now < s.wx.ckptAt + 8 * milli || s.flushOrdinal < s.slotOrd s.wx.nextSlot then s
    else s.writeCheckpoint.settle)

/-- FLUSH_METADATA (R263): when records have been applied since the newest root head; one flush at a time. -/
def execFlushMetadata (s : State) : Host.Outcome State Fault Refusal :=
  ok (if !s.running || s.flNext.isSome || s.metaHives.isEmpty || !s.tasksAllowed || (s.wx.lastApplied ≤ s.fl.covered && s.metaMoving.isEmpty) then s
    else s.flush.settle)

end Sys2Proof.Machine
end

