-- ==== Sys2Proof/Machine/Dispatch.lean ====
section
/-! DEFINITION. One arm for each constructor of Instr: the meaning of each row of the opcode table. -/

namespace Sys2Proof.Machine

/-- The effect of a command on everything but the queue. -/
def exec (i : Instr) (s : State) : Host.Outcome State Fault Refusal :=
  match i with
  | .sessionOpen q => Sys2Proof.Machine.execSessionOpen q s
  | .sessionAuth q => Sys2Proof.Machine.execSessionAuth q s
  | .sessionClose q => Sys2Proof.Machine.execSessionClose q s
  | .sessionList q => Sys2Proof.Machine.execSessionList q s
  | .sessionIdleExpiry handle => Sys2Proof.Machine.execSessionIdleExpiry handle s
  | .cfgOpen q => Sys2Proof.Machine.execCfgOpen q s
  | .cfgStage q => Sys2Proof.Machine.execCfgStage q s
  | .cfgCheck q => Sys2Proof.Machine.execCfgCheck q s
  | .cfgApply q => Sys2Proof.Machine.execCfgApply q s
  | .cfgCancel q => Sys2Proof.Machine.execCfgCancel q s
  | .cfgStatus q => Sys2Proof.Machine.execCfgStatus q s
  | .cfgRead q => Sys2Proof.Machine.execCfgRead q s
  | .modeGet q => Sys2Proof.Machine.execModeGet q s
  | .frameIdleExpiry frame => Sys2Proof.Machine.execFrameIdleExpiry frame s
  | .frameReadiness fromCoord frame tick items ok => Sys2Proof.Machine.execFrameReadiness fromCoord frame tick items ok s
  | .frameReadinessDeadline frame => Sys2Proof.Machine.execFrameReadinessDeadline frame s
  | .goRecordLateConfirm frame => Sys2Proof.Machine.execGoRecordLateConfirm frame s
  | .wakeModeRecheck => Sys2Proof.Machine.execWakeModeRecheck s
  | .domainCreate q => Sys2Proof.Machine.execDomainCreate q s
  | .domainDelete q => Sys2Proof.Machine.execDomainDelete q s
  | .domainList q => Sys2Proof.Machine.execDomainList q s
  | .nsCreate q => Sys2Proof.Machine.execNsCreate q s
  | .nsDelete q => Sys2Proof.Machine.execNsDelete q s
  | .nsResize q => Sys2Proof.Machine.execNsResize q s
  | .nsList q => Sys2Proof.Machine.execNsList q s
  | .snapCreate q => Sys2Proof.Machine.execSnapCreate q s
  | .snapDelete q => Sys2Proof.Machine.execSnapDelete q s
  | .snapClone q => Sys2Proof.Machine.execSnapClone q s
  | .hiveStatus q => Sys2Proof.Machine.execHiveStatus q s
  | .hiveWake q => Sys2Proof.Machine.execHiveWake q s
  | .hiveDark q => Sys2Proof.Machine.execHiveDark q s
  | .superAttach q => Sys2Proof.Machine.execSuperAttach q s
  | .combRetire q => Sys2Proof.Machine.execCombRetire q s
  | .stripeAcceptLoss q => Sys2Proof.Machine.execStripeAcceptLoss q s
  | .mediaStats q => Sys2Proof.Machine.execMediaStats q s
  | .pairStatus q => Sys2Proof.Machine.execPairStatus q s
  | .rebalance q => Sys2Proof.Machine.execRebalance q s
  | .pathDrill q => Sys2Proof.Machine.execPathDrill q s
  | .pathDrillAckTimeout => Sys2Proof.Machine.execPathDrillAckTimeout s
  | .mirrorDiscard q => Sys2Proof.Machine.execMirrorDiscard q s
  | .pairElect q => Sys2Proof.Machine.execPairElect q s
  | .colonyStatus q => Sys2Proof.Machine.execColonyStatus q s
  | .colonyJoin q => Sys2Proof.Machine.execColonyJoin q s
  | .colonyJoinTimeout => Sys2Proof.Machine.execColonyJoinTimeout s
  | .colonyLeave q => Sys2Proof.Machine.execColonyLeave q s
  | .queenAssign q => Sys2Proof.Machine.execQueenAssign q s
  | .tokenStatus q => Sys2Proof.Machine.execTokenStatus q s
  | .catalogueRead q => Sys2Proof.Machine.execCatalogueRead q s
  | .rgCreate q => Sys2Proof.Machine.execRgCreate q s
  | .rgDelete q => Sys2Proof.Machine.execRgDelete q s
  | .rgStatus q => Sys2Proof.Machine.execRgStatus q s
  | .rgPause q => Sys2Proof.Machine.execRgPause q s
  | .rgResume q => Sys2Proof.Machine.execRgResume q s
  | .snapShip q => Sys2Proof.Machine.execSnapShip q s
  | .ownerEnroll q => Sys2Proof.Machine.execOwnerEnroll q s
  | .keyProvision q => Sys2Proof.Machine.execKeyProvision q s
  | .keyEscrowExport q => Sys2Proof.Machine.execKeyEscrowExport q s
  | .keyRestore q => Sys2Proof.Machine.execKeyRestore q s
  | .keyRotate q => Sys2Proof.Machine.execKeyRotate q s
  | .keyErase q => Sys2Proof.Machine.execKeyErase q s
  | .keyStatus q => Sys2Proof.Machine.execKeyStatus q s
  | .evtRead q => Sys2Proof.Machine.execEvtRead q s
  | .evtSubscribe q => Sys2Proof.Machine.execEvtSubscribe q s
  | .ctrRead q => Sys2Proof.Machine.execCtrRead q s
  | .ctrClear q => Sys2Proof.Machine.execCtrClear q s
  | .attest q => Sys2Proof.Machine.execAttest q s
  | .ledgerRead q => Sys2Proof.Machine.execLedgerRead q s
  | .updBegin q => Sys2Proof.Machine.execUpdBegin q s
  | .updBlock q => Sys2Proof.Machine.execUpdBlock q s
  | .updVerify q => Sys2Proof.Machine.execUpdVerify q s
  | .updActivate q => Sys2Proof.Machine.execUpdActivate q s
  | .updConfirm q => Sys2Proof.Machine.execUpdConfirm q s
  | .updAbort q => Sys2Proof.Machine.execUpdAbort q s
  | .updLock q => Sys2Proof.Machine.execUpdLock q s
  | .updateStagingRoom bytes => Sys2Proof.Machine.execUpdateStagingRoom bytes s
  | .trialWindowEnd => Sys2Proof.Machine.execTrialWindowEnd s
  | .restart q => Sys2Proof.Machine.execRestart q s
  | .diagDieRead q => Sys2Proof.Machine.execDiagDieRead q s
  | .diagLinkLoop q => Sys2Proof.Machine.execDiagLinkLoop q s
  | .diagSelftest q => Sys2Proof.Machine.execDiagSelftest q s
  | .diagDump q => Sys2Proof.Machine.execDiagDump q s
  | .virkanReplyExpiry via session tag => Sys2Proof.Machine.execVirkanReplyExpiry via session tag s
  | .confirmCodeExpiry handle => Sys2Proof.Machine.execConfirmCodeExpiry handle s
  | .adminC0hSubmit e => Sys2Proof.Machine.execAdminC0hSubmit e s
  | .adminC1hFetch e => Sys2Proof.Machine.execAdminC1hFetch e s
  | .mgVirkanPacket conn bytes => Sys2Proof.Machine.execMgVirkanPacket conn bytes s
  | .attestationServiceRequest conn bytes => Sys2Proof.Machine.execAttestationServiceRequest conn bytes s
  | .sbReqData word => Sys2Proof.Machine.execSbReqData word s
  | .sbReqCap word => Sys2Proof.Machine.execSbReqCap word s
  | .sbRspData => Sys2Proof.Machine.execSbRspData s
  | .sbRtcLo => Sys2Proof.Machine.execSbRtcLo s
  | .sbSentinelReset word => Sys2Proof.Machine.execSbSentinelReset word s
  | .sentinelResetArmExpiry => Sys2Proof.Machine.execSentinelResetArmExpiry s
  | .sbWake word => Sys2Proof.Machine.execSbWake word s
  | .sbPadRelease word => Sys2Proof.Machine.execSbPadRelease word s
  | .sbIntStatus word => Sys2Proof.Machine.execSbIntStatus word s
  | .sbMbxError word => Sys2Proof.Machine.execSbMbxError word s
  | .sbRegisterWrite off word => Sys2Proof.Machine.execSbRegisterWrite off word s
  | .entdaa addr => Sys2Proof.Machine.execEntdaa addr s
  | .setdasa addr => Sys2Proof.Machine.execSetdasa addr s
  | .rstdaa => Sys2Proof.Machine.execRstdaa s
  | .setnewda addr => Sys2Proof.Machine.execSetnewda addr s
  | .enec bits => Sys2Proof.Machine.execEnec bits s
  | .disec bits => Sys2Proof.Machine.execDisec bits s
  | .getpid => Sys2Proof.Machine.execGetpid s
  | .getbcr => Sys2Proof.Machine.execGetbcr s
  | .getdcr => Sys2Proof.Machine.execGetdcr s
  | .getstatus => Sys2Proof.Machine.execGetstatus s
  | .setmwl len => Sys2Proof.Machine.execSetmwl len s
  | .setmrl len => Sys2Proof.Machine.execSetmrl len s
  | .getmwl => Sys2Proof.Machine.execGetmwl s
  | .getmrl => Sys2Proof.Machine.execGetmrl s
  | .tcpConnectionRequest svc fpair => Sys2Proof.Machine.execTcpConnectionRequest svc fpair s
  | .icreq conn pfv hpda hdgst ddgst maxR2t => Sys2Proof.Machine.execIcreq conn pfv hpda hdgst ddgst maxR2t s
  | .fatalTransportError conn fes => Sys2Proof.Machine.execFatalTransportError conn fes s
  | .h2cdata conn cid off data digestOk => Sys2Proof.Machine.execH2cdata conn cid off data digestOk s
  | .connect c => Sys2Proof.Machine.execConnect c s
  | .keepAlive e => Sys2Proof.Machine.execKeepAlive e s
  | .keepAliveTimeout ctrl => Sys2Proof.Machine.execKeepAliveTimeout ctrl s
  | .identify e => Sys2Proof.Machine.execIdentify e s
  | .getLogPage e => Sys2Proof.Machine.execGetLogPage e s
  | .setFeatures e => Sys2Proof.Machine.execSetFeatures e s
  | .getFeatures e => Sys2Proof.Machine.execGetFeatures e s
  | .asynchronousEventRequest e => Sys2Proof.Machine.execAsynchronousEventRequest e s
  | .abort e => Sys2Proof.Machine.execAbort e s
  | .directiveSend e => Sys2Proof.Machine.execDirectiveSend e s
  | .directiveReceive e => Sys2Proof.Machine.execDirectiveReceive e s
  | .nvmeRead e => Sys2Proof.Machine.execNvmeRead e s
  | .nvmeWrite e => Sys2Proof.Machine.execNvmeWrite e s
  | .flush e => Sys2Proof.Machine.execFlush e s
  | .writeZeroes e => Sys2Proof.Machine.execWriteZeroes e s
  | .datasetManagement e => Sys2Proof.Machine.execDatasetManagement e s
  | .acceptanceResume ctrl qid cid => Sys2Proof.Machine.execAcceptanceResume ctrl qid cid s
  | .locPut e => Sys2Proof.Machine.execLocPut e s
  | .locPutPart e => Sys2Proof.Machine.execLocPutPart e s
  | .locGet e => Sys2Proof.Machine.execLocGet e s
  | .locStat e => Sys2Proof.Machine.execLocStat e s
  | .locRefresh e => Sys2Proof.Machine.execLocRefresh e s
  | .locRelease e => Sys2Proof.Machine.execLocRelease e s
  | .locSeal e => Sys2Proof.Machine.execLocSeal e s
  | .objectCreateCommit key => Sys2Proof.Machine.execObjectCreateCommit key s
  | .tokenHorizonExpiry domain token => Sys2Proof.Machine.execTokenHorizonExpiry domain token s
  | .openObjectExpiry key => Sys2Proof.Machine.execOpenObjectExpiry key s
  | .releasedObjectExpiry key => Sys2Proof.Machine.execReleasedObjectExpiry key s
  | .ledgerEntryExpiry domain old => Sys2Proof.Machine.execLedgerEntryExpiry domain old s
  | .manifestReleaseWalk domain chunk => Sys2Proof.Machine.execManifestReleaseWalk domain chunk s
  | .chunkIngest ordinal => Sys2Proof.Machine.execChunkIngest ordinal s
  | .postProcess chunk => Sys2Proof.Machine.execPostProcess chunk s
  | .filterRebuild => Sys2Proof.Machine.execFilterRebuild s
  | .compareSelftestRetry => Sys2Proof.Machine.execCompareSelftestRetry s
  | .mergeCommit nsid k => Sys2Proof.Machine.execMergeCommit nsid k s
  | .envelopeRead chunk => Sys2Proof.Machine.execEnvelopeRead chunk s
  | .cmpGoCompare => Sys2Proof.Machine.execCmpGoCompare s
  | .cmpGoSelfTest => Sys2Proof.Machine.execCmpGoSelfTest s
  | .compareDone refFault => Sys2Proof.Machine.execCompareDone refFault s
  | .selfTestDone pass => Sys2Proof.Machine.execSelfTestDone pass s
  | .cmpResult => Sys2Proof.Machine.execCmpResult s
  | .digestRegisterWrite off word => Sys2Proof.Machine.execDigestRegisterWrite off word s
  | .sealRequest r => Sys2Proof.Machine.execSealRequest r s
  | .sealMessageDone id => Sys2Proof.Machine.execSealMessageDone id s
  | .sealUrgent id => Sys2Proof.Machine.execSealUrgent id s
  | .domainKeyFetch domain => Sys2Proof.Machine.execDomainKeyFetch domain s
  | .waxRecordConfirmed ordinal => Sys2Proof.Machine.execWaxRecordConfirmed ordinal s
  | .checkpointDue => Sys2Proof.Machine.execCheckpointDue s
  | .flushMetadata => Sys2Proof.Machine.execFlushMetadata s
  | .dramScrub => Sys2Proof.Machine.execDramScrub s
  | .dramUncorrectable channel addr => Sys2Proof.Machine.execDramUncorrectable channel addr s
  | .mapCacheAccess write addr data => Sys2Proof.Machine.execMapCacheAccess write addr data s
  | .zeroLine addr => Sys2Proof.Machine.execZeroLine addr s
  | .stripeOpen hive lane purpose => Sys2Proof.Machine.execStripeOpen hive lane purpose s
  | .stripeCloseTimer ord => Sys2Proof.Machine.execStripeCloseTimer ord s
  | .stripeProgramDone ord => Sys2Proof.Machine.execStripeProgramDone ord s
  | .memberProgramFail ord member => Sys2Proof.Machine.execMemberProgramFail ord member s
  | .memberReadTimeout ord member => Sys2Proof.Machine.execMemberReadTimeout ord member s
  | .combMarkFailed link => Sys2Proof.Machine.execCombMarkFailed link s
  | .rebuildStripe hive => Sys2Proof.Machine.execRebuildStripe hive s
  | .replacementComb link => Sys2Proof.Machine.execReplacementComb link s
  | .reshapeStripes hive => Sys2Proof.Machine.execReshapeStripes hive s
  | .foldRow hive => Sys2Proof.Machine.execFoldRow hive s
  | .readBackDone hive => Sys2Proof.Machine.execReadBackDone hive s
  | .readBackFail hive => Sys2Proof.Machine.execReadBackFail hive s
  | .gcMove ord => Sys2Proof.Machine.execGcMove ord s
  | .wearMove link => Sys2Proof.Machine.execWearMove link s
  | .blockEraseDone link die block => Sys2Proof.Machine.execBlockEraseDone link die block s
  | .taskRead link port f => Sys2Proof.Machine.execTaskRead link port f s
  | .taskSeqRead link port f => Sys2Proof.Machine.execTaskSeqRead link port f s
  | .taskProgramSlc link port f => Sys2Proof.Machine.execTaskProgramSlc link port f s
  | .taskProgramQlc link port f => Sys2Proof.Machine.execTaskProgramQlc link port f s
  | .taskErase link port f => Sys2Proof.Machine.execTaskErase link port f s
  | .eraseSuspend link port f => Sys2Proof.Machine.execEraseSuspend link port f s
  | .eraseResume link port f => Sys2Proof.Machine.execEraseResume link port f s
  | .eraseAutoResume link die => Sys2Proof.Machine.execEraseAutoResume link die s
  | .fenceRaise link port f => Sys2Proof.Machine.execFenceRaise link port f s
  | .fenceAdopt link port f => Sys2Proof.Machine.execFenceAdopt link port f s
  | .dieTaskDone link die ok => Sys2Proof.Machine.execDieTaskDone link die ok s
  | .favouredPortExpiry link die => Sys2Proof.Machine.execFavouredPortExpiry link die s
  | .regRead link port f count => Sys2Proof.Machine.execRegRead link port f count s
  | .regData link f vals => Sys2Proof.Machine.execRegData link f vals s
  | .dataFrame link atHead port f => Sys2Proof.Machine.execDataFrame link atHead port f s
  | .pageEnd link atHead port f => Sys2Proof.Machine.execPageEnd link atHead port f s
  | .doneFrame link f => Sys2Proof.Machine.execDoneFrame link f s
  | .bridgeEvent link f => Sys2Proof.Machine.execBridgeEvent link f s
  | .hello link atHead port f => Sys2Proof.Machine.execHello link atHead port f s
  | .linkAck link atHead port f => Sys2Proof.Machine.execLinkAck link atHead port f s
  | .linkNak link atHead port f => Sys2Proof.Machine.execLinkNak link atHead port f s
  | .linkResendTimer link => Sys2Proof.Machine.execLinkResendTimer link s
  | .blockLockLost link => Sys2Proof.Machine.execBlockLockLost link s
  | .retrain link peerNext => Sys2Proof.Machine.execRetrain link peerNext s
  | .combLinkBringUp link ok => Sys2Proof.Machine.execCombLinkBringUp link ok s
  | .linkRetryTimer link => Sys2Proof.Machine.execLinkRetryTimer link s
  | .linkDownTimeout link => Sys2Proof.Machine.execLinkDownTimeout link s
  | .taskDeadline link tag => Sys2Proof.Machine.execTaskDeadline link tag s
  | .bridgePowerUp link => Sys2Proof.Machine.execBridgePowerUp link s
  | .hcbStatus hive src seq => Sys2Proof.Machine.execHcbStatus hive src seq s
  | .hcbVote hive src seq up => Sys2Proof.Machine.execHcbVote hive src seq up s
  | .hcbVoteClear hive src seq side => Sys2Proof.Machine.execHcbVoteClear hive src seq side s
  | .hcbReply hive seq status b => Sys2Proof.Machine.execHcbReply hive seq status b s
  | .hcbPoll bus => Sys2Proof.Machine.execHcbPoll bus s
  | .hcbRequestRetry bus seq => Sys2Proof.Machine.execHcbRequestRetry bus seq s
  | .shelfSilentTimeout hive => Sys2Proof.Machine.execShelfSilentTimeout hive s
  | .wakeTimeout hive => Sys2Proof.Machine.execWakeTimeout hive s
  | .wakeRetry hive => Sys2Proof.Machine.execWakeRetry hive s
  | .hiveIdleDarkExpiry hive => Sys2Proof.Machine.execHiveIdleDarkExpiry hive s
  | .darkPoint hive => Sys2Proof.Machine.execDarkPoint hive s
  | .gatherWakeTrigger hive => Sys2Proof.Machine.execGatherWakeTrigger hive s
  | .gatherDeadline ctrl qid cid => Sys2Proof.Machine.execGatherDeadline ctrl qid cid s
  | .tokenRenewal hive => Sys2Proof.Machine.execTokenRenewal hive s
  | .tokenRequestRetry hive => Sys2Proof.Machine.execTokenRequestRetry hive s
  | .workerTokenExpiry hive => Sys2Proof.Machine.execWorkerTokenExpiry hive s
  | .queenAutonomyEnd => Sys2Proof.Machine.execQueenAutonomyEnd s
  | .join ep apiary serial headA headB addrs => Sys2Proof.Machine.execJoin ep apiary serial headA headB addrs s
  | .joinReply accepted cause epoch items => Sys2Proof.Machine.execJoinReply accepted cause epoch items s
  | .leave ep apiary => Sys2Proof.Machine.execLeave ep apiary s
  | .contact src epoch settingsGen gateOpen => Sys2Proof.Machine.execContact src epoch settingsGen gateOpen s
  | .contactSend => Sys2Proof.Machine.execContactSend s
  | .queenUnreachable => Sys2Proof.Machine.execQueenUnreachable s
  | .report ep r => Sys2Proof.Machine.execReport ep r s
  | .tokenRequest ep apiary head hive prio num => Sys2Proof.Machine.execTokenRequest ep apiary head hive prio num s
  | .heldTokenRequestTimeout apiary num => Sys2Proof.Machine.execHeldTokenRequestTimeout apiary num s
  | .tokenGrant ep t autonomy => Sys2Proof.Machine.execTokenGrant ep t autonomy s
  | .tokenRefuse ep num cause => Sys2Proof.Machine.execTokenRefuse ep num cause s
  | .tokenRecall ep id => Sys2Proof.Machine.execTokenRecall ep id s
  | .colonyDormant ep id => Sys2Proof.Machine.execColonyDormant ep id s
  | .queenTokenExpiry id => Sys2Proof.Machine.execQueenTokenExpiry id s
  | .colonySettings ep gen items keyGen => Sys2Proof.Machine.execColonySettings ep gen items keyGen s
  | .arbitrate ep head shownRight => Sys2Proof.Machine.execArbitrate ep head shownRight s
  | .updateState ep head version pend fallback => Sys2Proof.Machine.execUpdateState ep head version pend fallback s
  | .rolloutWaveOpen => Sys2Proof.Machine.execRolloutWaveOpen s
  | .forageWrite p carried journal => Sys2Proof.Machine.execForageWrite p carried journal s
  | .writeImm p => Sys2Proof.Machine.execWriteImm p s
  | .readReq p => Sys2Proof.Machine.execReadReq p s
  | .readResp p => Sys2Proof.Machine.execReadResp p s
  | .forageAck p ctx id rx map echo => Sys2Proof.Machine.execForageAck p ctx id rx map echo s
  | .forageNak p ctx id code off map => Sys2Proof.Machine.execForageNak p ctx id code off map s
  | .sendQueuePost ctx es => Sys2Proof.Machine.execSendQueuePost ctx es s
  | .retransmissionTimeout ctx => Sys2Proof.Machine.execRetransmissionTimeout ctx s
  | .messageGiveUp ctx => Sys2Proof.Machine.execMessageGiveUp ctx s
  | .connectionBreak ctx => Sys2Proof.Machine.execConnectionBreak ctx s
  | .rnrBackoffExpiry ctx => Sys2Proof.Machine.execRnrBackoffExpiry ctx s
  | .recentIdAging => Sys2Proof.Machine.execRecentIdAging s
  | .contextFetchDone ctx => Sys2Proof.Machine.execContextFetchDone ctx s
  | .contextFail ctx => Sys2Proof.Machine.execContextFail ctx s
  | .pathIdleFree path => Sys2Proof.Machine.execPathIdleFree path s
  | .setup src group source mode domains salts => Sys2Proof.Machine.execSetup src group source mode domains salts s
  | .setupReply group accepted cause => Sys2Proof.Machine.execSetupReply group accepted cause s
  | .positionQuery src group => Sys2Proof.Machine.execPositionQuery src group s
  | .position group seq ordinal => Sys2Proof.Machine.execPosition group seq ordinal s
  | .positionQueryTimeout group => Sys2Proof.Machine.execPositionQueryTimeout group s
  | .offer src group batch fps => Sys2Proof.Machine.execOffer src group batch fps s
  | .need group batch bits => Sys2Proof.Machine.execNeed group batch bits s
  | .chunk src group domain chunk gen clen body => Sys2Proof.Machine.execChunk src group domain chunk gen clen body s
  | .batch src group first last base final es => Sys2Proof.Machine.execBatch src group first last base final es s
  | .applied group seq => Sys2Proof.Machine.execApplied group seq s
  | .batchClose group => Sys2Proof.Machine.execBatchClose group s
  | .groupLapse group => Sys2Proof.Machine.execGroupLapse group s
  | .repairAsk src domain fp len => Sys2Proof.Machine.execRepairAsk src domain fp len s
  | .repairData domain chunk gen clen body => Sys2Proof.Machine.execRepairData domain chunk gen clen body s
  | .repairNone domain fp => Sys2Proof.Machine.execRepairNone domain fp s
  | .repairTimeout domain chunk => Sys2Proof.Machine.execRepairTimeout domain chunk s
  | .commitTick => Sys2Proof.Machine.execCommitTick s
  | .waggle m => Sys2Proof.Machine.execWaggle m s
  | .leaseEnd => Sys2Proof.Machine.execLeaseEnd s
  | .tickDigest m => Sys2Proof.Machine.execTickDigest m s
  | .selfCheck selfTestOk => Sys2Proof.Machine.execSelfCheck selfTestOk s
  | .selfCheckReport right => Sys2Proof.Machine.execSelfCheckReport right s
  | .selfCheckReportTimeout => Sys2Proof.Machine.execSelfCheckReportTimeout s
  | .peerIsolationYield => Sys2Proof.Machine.execPeerIsolationYield s
  | .takeoverFenceWait => Sys2Proof.Machine.execTakeoverFenceWait s
  | .arbiterFenceResult link won => Sys2Proof.Machine.execArbiterFenceResult link won s
  | .arbiterRetry => Sys2Proof.Machine.execArbiterRetry s
  | .fenceAllRaised => Sys2Proof.Machine.execFenceAllRaised s
  | .takeoverReplayEnd => Sys2Proof.Machine.execTakeoverReplayEnd s
  | .pairJoinTimeout => Sys2Proof.Machine.execPairJoinTimeout s
  | .pairJoin peer r => Sys2Proof.Machine.execPairJoin peer r s
  | .rejoinCopyComplete => Sys2Proof.Machine.execRejoinCopyComplete s
  | .rebalancePhaseEnd => Sys2Proof.Machine.execRebalancePhaseEnd s
  | .rebalanceHoldTimeout => Sys2Proof.Machine.execRebalanceHoldTimeout s
  | .fabricPortFail pair => Sys2Proof.Machine.execFabricPortFail pair s
  | .standbyEligible pair => Sys2Proof.Machine.execStandbyEligible pair s
  | .peerLinkDown link => Sys2Proof.Machine.execPeerLinkDown link s
  | .peerLinkUp link => Sys2Proof.Machine.execPeerLinkUp link s
  | .ptpMessage kind src offset => Sys2Proof.Machine.execPtpMessage kind src offset s
  | .alignmentTimeout => Sys2Proof.Machine.execAlignmentTimeout s
  | .rtcDiscipline => Sys2Proof.Machine.execRtcDiscipline s
  | .holdEntry => Sys2Proof.Machine.execHoldEntry s
  | .holdWake => Sys2Proof.Machine.execHoldWake s
  | .watchEntry => Sys2Proof.Machine.execWatchEntry s
  | .watchSample tj holdup => Sys2Proof.Machine.execWatchSample tj holdup s
  | .watchWake imprintOk => Sys2Proof.Machine.execWatchWake imprintOk s
  | .wakeN us => Sys2Proof.Machine.execWakeN us s
  | .watchdogKick => Sys2Proof.Machine.execWatchdogKick s
  | .watchdogExpiry => Sys2Proof.Machine.execWatchdogExpiry s
  | .chipResetN ns => Sys2Proof.Machine.execChipResetN ns s
  | .powerOnResetRelease => Sys2Proof.Machine.execPowerOnResetRelease s
  | .start plan => Sys2Proof.Machine.execStart plan s
  | .optionalStepLateRun => Sys2Proof.Machine.execOptionalStepLateRun s
  | .crystalLoss => Sys2Proof.Machine.execCrystalLoss s
  | .supplyFall rail mv us => Sys2Proof.Machine.execSupplyFall rail mv us s
  | .propolisAlarm cause => Sys2Proof.Machine.execPropolisAlarm cause s
  | .alarmClear => Sys2Proof.Machine.execAlarmClear s
  | .eventReport r => Sys2Proof.Machine.execEventReport r s
  | .eventWrite => Sys2Proof.Machine.execEventWrite s
  | .bucketWindowClose code => Sys2Proof.Machine.execBucketWindowClose code s
  | .bucketRefill code => Sys2Proof.Machine.execBucketRefill code s
  | .dropSummaryTimer => Sys2Proof.Machine.execDropSummaryTimer s
  | .eventNoticeSend handle => Sys2Proof.Machine.execEventNoticeSend handle s
  | .shelfInputFailure hive => Sys2Proof.Machine.execShelfInputFailure hive s
  | .holdupReserveSpent hive => Sys2Proof.Machine.execHoldupReserveSpent hive s
  | .shelfInputReturn hive => Sys2Proof.Machine.execShelfInputReturn hive s
  | .slotsPowered hive good => Sys2Proof.Machine.execSlotsPowered hive good s
  | .slotsPowerRemoved hive => Sys2Proof.Machine.execSlotsPowerRemoved hive s
  | .bridgeHealthChange link code die detail => Sys2Proof.Machine.execBridgeHealthChange link code die detail s
  | .retrainTimeout link => Sys2Proof.Machine.execRetrainTimeout link s
  | .tcpConnectionEnd conn => Sys2Proof.Machine.execTcpConnectionEnd conn s
  | .unsupportedCommand e => Sys2Proof.Machine.execUnsupportedCommand e s
  | .mgNetworkFrame frame => Sys2Proof.Machine.execMgNetworkFrame frame s
  | .treeDropCascade => Sys2Proof.Machine.execTreeDropCascade s
  | .locStatPatienceExpiry ctrl qid cid => Sys2Proof.Machine.execLocStatPatienceExpiry ctrl qid cid s
  | .frameStatusExpiry frame => Sys2Proof.Machine.execFrameStatusExpiry frame s
  | .referenceClockStop => Sys2Proof.Machine.execReferenceClockStop s
  | .tcpRetransmissionTimeout conn => Sys2Proof.Machine.execTcpRetransmissionTimeout conn s
  | .colonyKeyLagTimeout => Sys2Proof.Machine.execColonyKeyLagTimeout s

end Sys2Proof.Machine
end

