-- ==== Sys2Proof/WellFormed.lean ====
section
/-! DEFINITION. Well-formed commands: every number that a command carries is of the width the spec gives it. A command that is not
well-formed is none that a sender can send; the machine answers it like any other. -/

namespace Sys2Proof

open Sys2Proof.Machine

/-- A hive number (R9). -/
def hiveOk (n : Nat) : Bool := n < 8

/-- A comb link number (R10). -/
def linkOk (n : Nat) : Bool := n < 128

/-- A die of a comb (R321). -/
def dieOk (n : Nat) : Bool := n < 128

/-- A block of a die (R322, R323). -/
def blockOk (n : Nat) : Bool := n < 65536

/-- A peer link or a fabric pair (R20, R23). -/
def planeOk (n : Nat) : Bool := n < 4

/-- A hive control bus (R352). -/
def busOk (n : Nat) : Bool := n < 2

/-- An ingest lane (R122). -/
def laneOk (n : Nat) : Bool := n < 8

/-- A DRAM channel (R189). -/
def channelOk (n : Nat) : Bool := n < 8

/-- A frame ID, a session handle or another number of 32 bits (R91, R98). -/
def word32Ok (n : Nat) : Bool := n < 2 ^ 32

/-- A domain ID (R98). -/
def domainOk (n : Nat) : Bool := n < 65536

/-- A namespace ID (R401). -/
def nsidOk (n : Nat) : Bool := 1 ≤ n && n ≤ 16384

/-- A chunk ID or a stripe ordinal (R132, R207). -/
def chunkOk (n : Nat) : Bool := n < 2 ^ 48

/-- A record key: a commit ordinal, or one of the mirror ring (R42, log 25). -/
def ordinalOk (n : Nat) : Bool := n < 2 ^ 65

/-- A context ID (R482). -/
def ctxOk (n : Nat) : Bool := n < 65536

/-- A path table entry (R509). -/
def pathOk (n : Nat) : Bool := n < 8192

/-- An apiary ID (R583). -/
def apiaryOk (n : Nat) : Bool := n < 128

/-- A head ID (R8). -/
def headOk (n : Nat) : Bool := n < 65536

/-- A group ID (R516). -/
def groupOk (n : Nat) : Bool := n < 65536

/-- An event code (R712). -/
def codeOk (n : Nat) : Bool := n < 65536

/-- A request sequence of a hive control bus (R353). -/
def seqOk (n : Nat) : Bool := n < 256

/-- A 7-bit I3C address that the standard leaves to targets (R771). -/
def i3cOk (n : Nat) : Bool := 8 ≤ n && n < 128

/-- A register offset of the sideband or of the digest engine (R683, R772). -/
def offsetOk (n : Nat) : Bool := n < 65536

/-- A bridge register number (R321). -/
def regOk (n : Nat) : Bool := n < 0x140000

/-- A PTP message kind (R749). -/
def ptpOk (n : Nat) : Bool := n < 4

/-- A supply (R788). -/
def railOk (n : Nat) : Bool := n < 10

/-- A controller ID (R395). -/
def ctrlOk (n : Nat) : Bool := n < 65536

/-- A submission queue entry (R394). -/
def sqeOk (e : Sqe) : Bool := e.opc < 256 && e.cid < 65536

/-- The fields of a comb-link frame fit their widths, and its type is the row's (R309). -/
def frameOk (f : LFrame) (type : Nat) : Bool :=
  f.type == type && f.die < 256 && f.tag < 65536 && f.op < 256 && f.off < 2 ^ 32 && f.owner < 65536 && f.len < 65536 && f.resv < 2 ^ 30

/-- A TASK frame of the row's opcode (R324). -/
def taskOk (f : LFrame) (op : Nat) : Bool := frameOk f 1 && f.op == op

/-- A TASK frame of READ, or of an opcode that R324 does not give (R810). -/
def readOk (f : LFrame) : Bool := frameOk f 1 && !(([2, 3, 4, 5, 6, 7, 0x80, 0x81] : List Nat).contains f.op)

/-- A DATA frame, or, at a bridge, one of a type that R309 does not give (R310). -/
def dataOk (f : LFrame) (atHead : Bool) : Bool :=
  frameOk f f.type && (f.type == 2 || (!atHead && !(([1, 3, 4, 5, 6, 7, 0x10, 0x11, 0x12] : List Nat).contains f.type) && f.type < 256))

/-- A Forage packet (R476). -/
def packetOk (p : FPkt) : Bool := p.plen < 65536 && p.port < 12

/-- A task tag (R326). -/
def tagOk (n : Nat) : Bool := n < 65536

/-- A TLV parameter: a position of 15 bits and a value length of 16 bits (R79). -/
def tlvOk (t : Tlv) : Bool := t.pos < 2 ^ 15 && t.value.length < 2 ^ 16

/-- A Virkan request: a session, a tag and a frame ID of 32 bits (R75), and its parameters. -/
def requestOk (q : VReq) : Bool := q.session < 2 ^ 32 && q.tag < 2 ^ 32 && q.frame < 2 ^ 32 && q.params.all tlvOk

/-- Whether a command is well-formed. -/
def wellFormed (i : Instr) : Bool :=
  match i with
  | .sessionOpen q => requestOk q
  | .sessionAuth q => requestOk q
  | .sessionClose q => requestOk q
  | .sessionList q => requestOk q
  | .sessionIdleExpiry handle => word32Ok handle
  | .cfgOpen q => requestOk q
  | .cfgStage q => requestOk q
  | .cfgCheck q => requestOk q
  | .cfgApply q => requestOk q
  | .cfgCancel q => requestOk q
  | .cfgStatus q => requestOk q
  | .cfgRead q => requestOk q
  | .modeGet q => requestOk q
  | .frameIdleExpiry frame => word32Ok frame
  | .frameReadiness _ frame _ _ _ => word32Ok frame
  | .frameReadinessDeadline frame => word32Ok frame
  | .goRecordLateConfirm frame => word32Ok frame
  | .wakeModeRecheck => true
  | .domainCreate q => requestOk q
  | .domainDelete q => requestOk q
  | .domainList q => requestOk q
  | .nsCreate q => requestOk q
  | .nsDelete q => requestOk q
  | .nsResize q => requestOk q
  | .nsList q => requestOk q
  | .snapCreate q => requestOk q
  | .snapDelete q => requestOk q
  | .snapClone q => requestOk q
  | .hiveStatus q => requestOk q
  | .hiveWake q => requestOk q
  | .hiveDark q => requestOk q
  | .superAttach q => requestOk q
  | .combRetire q => requestOk q
  | .stripeAcceptLoss q => requestOk q
  | .mediaStats q => requestOk q
  | .pairStatus q => requestOk q
  | .rebalance q => requestOk q
  | .pathDrill q => requestOk q
  | .pathDrillAckTimeout => true
  | .mirrorDiscard q => requestOk q
  | .pairElect q => requestOk q
  | .colonyStatus q => requestOk q
  | .colonyJoin q => requestOk q
  | .colonyJoinTimeout => true
  | .colonyLeave q => requestOk q
  | .queenAssign q => requestOk q
  | .tokenStatus q => requestOk q
  | .catalogueRead q => requestOk q
  | .rgCreate q => requestOk q
  | .rgDelete q => requestOk q
  | .rgStatus q => requestOk q
  | .rgPause q => requestOk q
  | .rgResume q => requestOk q
  | .snapShip q => requestOk q
  | .ownerEnroll q => requestOk q
  | .keyProvision q => requestOk q
  | .keyEscrowExport q => requestOk q
  | .keyRestore q => requestOk q
  | .keyRotate q => requestOk q
  | .keyErase q => requestOk q
  | .keyStatus q => requestOk q
  | .evtRead q => requestOk q
  | .evtSubscribe q => requestOk q
  | .ctrRead q => requestOk q
  | .ctrClear q => requestOk q
  | .attest q => requestOk q
  | .ledgerRead q => requestOk q
  | .updBegin q => requestOk q
  | .updBlock q => requestOk q
  | .updVerify q => requestOk q
  | .updActivate q => requestOk q
  | .updConfirm q => requestOk q
  | .updAbort q => requestOk q
  | .updLock q => requestOk q
  | .updateStagingRoom _ => true
  | .trialWindowEnd => true
  | .restart q => requestOk q
  | .diagDieRead q => requestOk q
  | .diagLinkLoop q => requestOk q
  | .diagSelftest q => requestOk q
  | .diagDump q => requestOk q
  | .virkanReplyExpiry _ _ tag => word32Ok tag
  | .confirmCodeExpiry handle => word32Ok handle
  | .adminC0hSubmit e => sqeOk e
  | .adminC1hFetch e => sqeOk e
  | .mgVirkanPacket _ _ => true
  | .attestationServiceRequest _ _ => true
  | .sbReqData _ => true
  | .sbReqCap _ => true
  | .sbRspData => true
  | .sbRtcLo => true
  | .sbSentinelReset _ => true
  | .sentinelResetArmExpiry => true
  | .sbWake _ => true
  | .sbPadRelease _ => true
  | .sbIntStatus _ => true
  | .sbMbxError _ => true
  | .sbRegisterWrite off _ => offsetOk off
  | .entdaa addr => i3cOk addr
  | .setdasa addr => i3cOk addr
  | .rstdaa => true
  | .setnewda addr => i3cOk addr
  | .enec _ => true
  | .disec _ => true
  | .getpid => true
  | .getbcr => true
  | .getdcr => true
  | .getstatus => true
  | .setmwl _ => true
  | .setmrl _ => true
  | .getmwl => true
  | .getmrl => true
  | .tcpConnectionRequest _ fpair => planeOk fpair.1 && fpair.2 < 2
  | .icreq _ _ _ _ _ _ => true
  | .fatalTransportError _ _ => true
  | .h2cdata _ _ _ _ _ => true
  | .connect _ => true
  | .keepAlive e => sqeOk e
  | .keepAliveTimeout ctrl => ctrlOk ctrl
  | .identify e => sqeOk e
  | .getLogPage e => sqeOk e
  | .setFeatures e => sqeOk e
  | .getFeatures e => sqeOk e
  | .asynchronousEventRequest e => sqeOk e
  | .abort e => sqeOk e
  | .directiveSend e => sqeOk e
  | .directiveReceive e => sqeOk e
  | .nvmeRead e => sqeOk e
  | .nvmeWrite e => sqeOk e
  | .flush e => sqeOk e
  | .writeZeroes e => sqeOk e
  | .datasetManagement e => sqeOk e
  | .acceptanceResume ctrl _ _ => ctrlOk ctrl
  | .locPut e => sqeOk e
  | .locPutPart e => sqeOk e
  | .locGet e => sqeOk e
  | .locStat e => sqeOk e
  | .locRefresh e => sqeOk e
  | .locRelease e => sqeOk e
  | .locSeal e => sqeOk e
  | .objectCreateCommit _ => true
  | .tokenHorizonExpiry domain _ => domainOk domain
  | .openObjectExpiry _ => true
  | .releasedObjectExpiry _ => true
  | .ledgerEntryExpiry domain _ => domainOk domain
  | .manifestReleaseWalk domain chunk => domainOk domain && chunkOk chunk
  | .chunkIngest ordinal => ordinalOk ordinal
  | .postProcess chunk => chunkOk chunk
  | .filterRebuild => true
  | .compareSelftestRetry => true
  | .mergeCommit nsid _ => nsidOk nsid
  | .envelopeRead chunk => chunkOk chunk
  | .cmpGoCompare => true
  | .cmpGoSelfTest => true
  | .compareDone _ => true
  | .selfTestDone _ => true
  | .cmpResult => true
  | .digestRegisterWrite off _ => offsetOk off
  | .sealRequest _ => true
  | .sealMessageDone _ => true
  | .sealUrgent _ => true
  | .domainKeyFetch domain => domainOk domain
  | .waxRecordConfirmed ordinal => ordinalOk ordinal
  | .checkpointDue => true
  | .flushMetadata => true
  | .dramScrub => true
  | .dramUncorrectable channel _ => channelOk channel
  | .mapCacheAccess _ _ _ => true
  | .zeroLine _ => true
  | .stripeOpen hive lane _ => hiveOk hive && laneOk lane
  | .stripeCloseTimer ord => chunkOk ord
  | .stripeProgramDone ord => chunkOk ord
  | .memberProgramFail ord _ => chunkOk ord
  | .memberReadTimeout ord _ => chunkOk ord
  | .combMarkFailed link => linkOk link
  | .rebuildStripe hive => hiveOk hive
  | .replacementComb link => linkOk link
  | .reshapeStripes hive => hiveOk hive
  | .foldRow hive => hiveOk hive
  | .readBackDone hive => hiveOk hive
  | .readBackFail hive => hiveOk hive
  | .gcMove ord => chunkOk ord
  | .wearMove link => linkOk link
  | .blockEraseDone link die block => linkOk link && dieOk die && blockOk block
  | .taskRead link _ f => linkOk link && readOk f
  | .taskSeqRead link _ f => linkOk link && taskOk f 2
  | .taskProgramSlc link _ f => linkOk link && taskOk f 3
  | .taskProgramQlc link _ f => linkOk link && taskOk f 4
  | .taskErase link _ f => linkOk link && taskOk f 5
  | .eraseSuspend link _ f => linkOk link && taskOk f 6
  | .eraseResume link _ f => linkOk link && taskOk f 7
  | .eraseAutoResume link die => linkOk link && dieOk die
  | .fenceRaise link _ f => linkOk link && taskOk f 0x80
  | .fenceAdopt link _ f => linkOk link && taskOk f 0x81
  | .dieTaskDone link die _ => linkOk link && dieOk die
  | .favouredPortExpiry link die => linkOk link && dieOk die
  | .regRead link _ f count => linkOk link && frameOk f 5 && regOk f.off && count < 2 ^ 32
  | .regData link f vals => linkOk link && frameOk f 6 && vals.length ≤ 1024
  | .dataFrame link atHead _ f => linkOk link && dataOk f atHead
  | .pageEnd link _ _ f => linkOk link && frameOk f 3
  | .doneFrame link f => linkOk link && frameOk f 4
  | .bridgeEvent link f => linkOk link && frameOk f 7
  | .hello link _ _ f => linkOk link && frameOk f 0x10
  | .linkAck link _ _ f => linkOk link && frameOk f 0x11
  | .linkNak link _ _ f => linkOk link && frameOk f 0x12
  | .linkResendTimer link => linkOk link
  | .blockLockLost link => linkOk link
  | .retrain link _ => linkOk link
  | .combLinkBringUp link _ => linkOk link
  | .linkRetryTimer link => linkOk link
  | .linkDownTimeout link => linkOk link
  | .taskDeadline link tag => linkOk link && tagOk tag
  | .bridgePowerUp link => linkOk link
  | .hcbStatus hive _ seq => hiveOk hive && seqOk seq
  | .hcbVote hive _ seq _ => hiveOk hive && seqOk seq
  | .hcbVoteClear hive _ seq _ => hiveOk hive && seqOk seq
  | .hcbReply hive seq _ _ => hiveOk hive && seqOk seq
  | .hcbPoll bus => busOk bus
  | .hcbRequestRetry bus seq => busOk bus && seqOk seq
  | .shelfSilentTimeout hive => hiveOk hive
  | .wakeTimeout hive => hiveOk hive
  | .wakeRetry hive => hiveOk hive
  | .hiveIdleDarkExpiry hive => hiveOk hive
  | .darkPoint hive => hiveOk hive
  | .gatherWakeTrigger hive => hiveOk hive
  | .gatherDeadline ctrl _ _ => ctrlOk ctrl
  | .tokenRenewal hive => hiveOk hive
  | .tokenRequestRetry hive => hiveOk hive
  | .workerTokenExpiry hive => hiveOk hive
  | .queenAutonomyEnd => true
  | .join _ apiary _ headA headB _ => apiaryOk apiary && headOk headA && headOk headB
  | .joinReply _ _ _ _ => true
  | .leave _ apiary => apiaryOk apiary
  | .contact _ _ _ _ => true
  | .contactSend => true
  | .queenUnreachable => true
  | .report _ _ => true
  | .tokenRequest _ apiary head hive _ _ => apiaryOk apiary && headOk head && hiveOk hive
  | .heldTokenRequestTimeout apiary _ => apiaryOk apiary
  | .tokenGrant _ _ _ => true
  | .tokenRefuse _ _ _ => true
  | .tokenRecall _ _ => true
  | .colonyDormant _ _ => true
  | .queenTokenExpiry _ => true
  | .colonySettings _ _ _ _ => true
  | .arbitrate _ head _ => headOk head
  | .updateState _ head _ _ _ => headOk head
  | .rolloutWaveOpen => true
  | .forageWrite p _ _ => packetOk p
  | .writeImm p => packetOk p
  | .readReq p => packetOk p
  | .readResp p => packetOk p
  | .forageAck p ctx _ _ _ _ => packetOk p && ctxOk ctx
  | .forageNak p ctx _ _ _ _ => packetOk p && ctxOk ctx
  | .sendQueuePost ctx _ => ctxOk ctx
  | .retransmissionTimeout ctx => ctxOk ctx
  | .messageGiveUp ctx => ctxOk ctx
  | .connectionBreak ctx => ctxOk ctx
  | .rnrBackoffExpiry ctx => ctxOk ctx
  | .recentIdAging => true
  | .contextFetchDone ctx => ctxOk ctx
  | .contextFail ctx => ctxOk ctx
  | .pathIdleFree path => pathOk path
  | .setup _ group _ _ _ _ => groupOk group
  | .setupReply group _ _ => groupOk group
  | .positionQuery _ group => groupOk group
  | .position group _ ordinal => groupOk group && ordinalOk ordinal
  | .positionQueryTimeout group => groupOk group
  | .offer _ group _ _ => groupOk group
  | .need group _ _ => groupOk group
  | .chunk _ group domain chunk _ _ _ => groupOk group && domainOk domain && chunkOk chunk
  | .batch _ group _ _ _ _ _ => groupOk group
  | .applied group _ => groupOk group
  | .batchClose group => groupOk group
  | .groupLapse group => groupOk group
  | .repairAsk _ domain _ _ => domainOk domain
  | .repairData domain chunk _ _ _ => domainOk domain && chunkOk chunk
  | .repairNone domain _ => domainOk domain
  | .repairTimeout domain chunk => domainOk domain && chunkOk chunk
  | .commitTick => true
  | .waggle _ => true
  | .leaseEnd => true
  | .tickDigest _ => true
  | .selfCheck _ => true
  | .selfCheckReport _ => true
  | .selfCheckReportTimeout => true
  | .peerIsolationYield => true
  | .takeoverFenceWait => true
  | .arbiterFenceResult link _ => linkOk link
  | .arbiterRetry => true
  | .fenceAllRaised => true
  | .takeoverReplayEnd => true
  | .pairJoinTimeout => true
  | .pairJoin _ _ => true
  | .rejoinCopyComplete => true
  | .rebalancePhaseEnd => true
  | .rebalanceHoldTimeout => true
  | .fabricPortFail pair => planeOk pair
  | .standbyEligible pair => planeOk pair
  | .peerLinkDown link => planeOk link
  | .peerLinkUp link => planeOk link
  | .ptpMessage kind _ _ => ptpOk kind
  | .alignmentTimeout => true
  | .rtcDiscipline => true
  | .holdEntry => true
  | .holdWake => true
  | .watchEntry => true
  | .watchSample _ _ => true
  | .watchWake _ => true
  | .wakeN _ => true
  | .watchdogKick => true
  | .watchdogExpiry => true
  | .chipResetN _ => true
  | .powerOnResetRelease => true
  | .start _ => true
  | .optionalStepLateRun => true
  | .crystalLoss => true
  | .supplyFall rail _ _ => railOk rail
  | .propolisAlarm _ => true
  | .alarmClear => true
  | .eventReport _ => true
  | .eventWrite => true
  | .bucketWindowClose code => codeOk code
  | .bucketRefill code => codeOk code
  | .dropSummaryTimer => true
  | .eventNoticeSend handle => word32Ok handle
  | .shelfInputFailure hive => hiveOk hive
  | .holdupReserveSpent hive => hiveOk hive
  | .shelfInputReturn hive => hiveOk hive
  | .slotsPowered hive _ => hiveOk hive
  | .slotsPowerRemoved hive => hiveOk hive
  | .bridgeHealthChange link code die _ => linkOk link && codeOk code && dieOk die
  | .retrainTimeout link => linkOk link
  | .tcpConnectionEnd _ => true
  | .unsupportedCommand e => sqeOk e
  | .mgNetworkFrame _ => true
  | .treeDropCascade => true
  | .locStatPatienceExpiry ctrl _ _ => ctrlOk ctrl
  | .frameStatusExpiry frame => word32Ok frame
  | .referenceClockStop => true
  | .tcpRetransmissionTimeout _ => true
  | .colonyKeyLagTimeout => true

end Sys2Proof
end

