-- ==== Sys2Proof/Safety.lean ====
section
/-! DEFINITION. What the statements mean by a step that completes, by a Virkan request that passes its checks, and the
invariants that they speak of. -/

namespace Sys2Proof.Machine

/-- A command completes: it answers a next state. -/
def Completes (c : Instr) (s : State) : Prop := ∃ t, exec c s = .next t

/-- A step is safe: it neither faults nor is refused. -/
def SafeStep (s : State) : Prop := ∃ t, step s = .next t

/-- The memory invariant: installed DRAM is listed in its canonical form (log 12). -/
def MemInv (s : State) : Prop := Memory.wf s.dr.mem = true

/-- A Virkan request passes checks 6 to 9 of R77 on a head that takes requests, and a discarding action carries its code (R96). -/
def Passes (s : State) (op : Nat) (q : VReq) : Prop :=
  s.deaf q.via = false ∧ s.checkSession op q = none ∧ (s.takeIn op q).checkOp op q = none ∧
    ((vop op).any (·.confirm) = true → (vop op).any (fun o => (s.takeIn op q).confirmed o q) = true)

/-- The state in which the opcode's own part of a request that passes runs: the request is outstanding, and the code of a discarding
action is used (R84, R91, R96). -/
def State.taken (s : State) (op : Nat) (q : VReq) : State :=
  if (vop op).any (·.confirm) then (s.takeIn op q).session' q.session fun x => { x with confirm := none } else s.takeIn op q

/-- A request passes its checks, and its own part runs in the state `u`. -/
def Runs (s : State) (op : Nat) (q : VReq) (u : State) : Prop := Passes s op q ∧ u = s.taken op q

/-- An NVMe command reaches its controller on a head that runs, and is counted (R395, R743): its own part runs in the state `u`. -/
def Reaches (s : State) (e : Sqe) (c : Ctrl) (u : State) : Prop :=
  s.ctrl? e.ctrl = some c ∧ s.md.stopped = false ∧ u = s.stat 0x0801 (idx2 e.opc e.ctrl) 0 1

/-- A frame arrives sound and in sequence at the port of a powered bridge whose link is up, and acknowledges nothing (R308 to R312). -/
def AtBridge (s : State) (n : Nat) (p : Side) (f : LFrame) (b : Bridge) : Prop :=
  s.bridge? n = some b ∧ b.powered = true ∧ (b.port p).up = true ∧ f.sound = true ∧ f.ackValid = false ∧ f.seq = (b.port p).rxSeq

/-- A frame arrives sound and in sequence at the head on a link that is up, and acknowledges nothing: its own part runs in the state `u`,
where it is acknowledged and the comb's epoch and owner are known (R308 to R313, R340). -/
def AtHead (s : State) (n : Nat) (f : LFrame) (l : Link) (u : State) : Prop :=
  s.link? n = some l ∧ l.state = .up ∧ f.sound = true ∧ f.ackValid = false ∧ f.seq = l.rxSeq ∧
    u = (s.headTook n).link' n fun l => { l with epoch := f.epoch.toNat, owner := f.owner }

/-- An access of the sideband takes place while the always-on supply holds, and leaves the register offset at `off` (R767, R772): its own
part runs in the state `u`. -/
def OnSideband (s : State) (off : Nat) (u : State) : Prop :=
  s.pw.aonOk = true ∧ u = s.sb' fun b => { b with offset := off }

/-- A namespace that is in the table and whose domain this head owns (R401, R421). -/
def State.ownsNs (s : State) (n : Namespace) : Prop := s.ns? n.nsid = some n ∧ s.owns (.domain n.domain) = true

/-! ## Invariants that every step keeps -/

/-- Sessions stay within R91 and R92: at most 64, at most 16 of them on MG, no two of one handle, none of a handle that is still to
come, and in each at most 32 requests outstanding, no two of one tag. -/
def SessionsOk (s : State) : Prop :=
  s.vk.sessions.length ≤ 64 ∧ (s.vk.sessions.filter fun x => !x.via.holds).length ≤ 16 ∧
    (s.vk.sessions.map (·.handle)).Nodup ∧
    ∀ x ∈ s.vk.sessions, x.handle < s.vk.nextHandle ∧ x.outstanding.length ≤ 32 ∧ x.outstanding.Nodup

/-- The address of the first byte of a cached line: its set and its tag give its number (R195). -/
def lineAddr (base set tag : Nat) : Nat := base + (tag * cacheSets + set) * 256

/-- The map SRAM cache has 24,576 sets of 16 ways, each way with at most one line and no line twice (R195), and is write-through (R196):
each line it holds lies whole in the map window and holds the bytes that DRAM holds. -/
def CacheOk (s : State) : Prop :=
  Memory.wf s.dr.mem = true ∧ s.mc.base % 256 = 0 ∧ s.mc.size % 256 = 0 ∧
    (s.mc.lines.map fun l => (l.1, l.2.1)).Nodup ∧ (s.mc.lines.map fun l => (l.1, l.2.2.1)).Nodup ∧
    ∀ l ∈ s.mc.lines, l.1 < cacheSets ∧ l.2.1 < 16 ∧
      lineAddr s.mc.base l.1 l.2.2.1 + 256 ≤ s.mc.base + s.mc.size ∧
      l.2.2.2 = memRead s.dr.mem (lineAddr s.mc.base l.1 l.2.2.1) 256

/-- The event recorder keeps its sizes and its order: at most 1,024 entries in the FIFO, none of them CRITICAL or FATAL but a summary's;
at most 64 in the reserved lane, all of them CRITICAL or FATAL, and a raiser waits only while the lane is full (R719 to R721); the ring's
records in rising slots below 1,048,576 (R723), each with a sequence of its own that has been given (R712). -/
def RecorderOk (s : State) : Prop :=
  s.ev.fifo.length ≤ 1024 ∧ (∀ r ∈ s.ev.fifo, sevN r.sev < 6 ∨ isSummary r.code = true) ∧
    s.ev.lane.length ≤ 64 ∧ (∀ r ∈ s.ev.lane, 6 ≤ sevN r.sev) ∧ (∀ r ∈ s.ev.waiting, 6 ≤ sevN r.sev) ∧
    (s.ev.waiting ≠ [] → s.ev.lane.length = 64) ∧
    (s.ev.ring.map (·.slot)).Pairwise (· < ·) ∧ (s.ev.ring.map (·.seq)).Nodup ∧
    ∀ r ∈ s.ev.ring, r.slot < 1048576 ∧ r.seq < s.ev.nextSeq

/-- Counters stay at or below the limit of their kind, and one that is saturated stands at it (R734). -/
def CountersOk (s : State) : Prop :=
  ∀ c ∈ s.ct.vals, c.val ≤ ctrLimit c.cls ∧ (c.sat = true → c.val = ctrLimit c.cls)

/-- The eight tallies are of 48 bytes (R636), and the boot ledger holds at most 16,384 records whose sequences rise by one up to the
newest (R617). -/
def LedgerOk (s : State) : Prop :=
  s.bt.tallies.length = 8 ∧ (∀ t ∈ s.bt.tallies, t.length = 48) ∧ s.bt.ledger.length ≤ 16384 ∧
    ∀ i (h : i < s.bt.ledger.length), (s.bt.ledger[i]).seq + (s.bt.ledger.length - i) = s.bt.ledgerSeq

/-- Registers hold their implemented bits alone: SB_INT_EN and SB_INT_STATUS [3:0], SB_MBX_ERROR [2:0] (R773); CMP_LANE [3:0],
CMP_REF_LO with [4:0] zero, CMP_STATUS [4:0], CMP_RESULT [15:0] (R683); a dynamic address of 7 bits, and lengths of 16 bits (R771). -/
def RegsOk (s : State) : Prop :=
  s.sb.intEn.toNat < 2 ^ 4 ∧ s.sb.intStatus.toNat < 2 ^ 4 ∧ s.sb.mbxError.toNat < 2 ^ 3 ∧ s.se.cmpLane.toNat < 2 ^ 4 ∧
    s.se.cmpLo.toNat % 32 = 0 ∧ s.se.cmpStatus.toNat < 2 ^ 5 ∧ s.se.cmpResult.toNat < 2 ^ 16 ∧
    (∀ a, s.sb.dynAddr = some a → a < 128) ∧ s.sb.mwl < 65536 ∧ s.sb.mrl < 65536

/-! ## What a command may write -/

/-- The rows that store bytes in DRAM: writes of the map window, outputs of the seal engine, and packets placed in a region. -/
def storesBytes (c : Instr) : Prop :=
  (∃ w a d, c = .mapCacheAccess w a d) ∨ (∃ a, c = .zeroLine a) ∨ (∃ n, c = .sealMessageDone n) ∨ (∃ p r j, c = .forageWrite p r j) ∨
    (∃ p, c = .writeImm p) ∨ (∃ p, c = .readReq p) ∨ (∃ p, c = .readResp p) ∨ ∃ n, c = .contextFetchDone n

/-- What a request that executes nothing may change: its session, the replies and notices held, the notices lost with their records, the
counters, the free values drawn, and what has been sent. -/
def AnswerOnly (s t : State) : Prop :=
  t = { s with
    vk := { s.vk with sessions := t.vk.sessions, held := t.vk.held, noticesLost := t.vk.noticesLost }
    ev := { s.ev with subLost := t.ev.subLost }, ct := t.ct, free := t.free, out := t.out }

/-! ## Requests as packets -/

/-- A TLV as bytes: its type with bit 15, the length of its value, and the value, padded with zeros to a multiple of 4 (R79). -/
def tlvBytes (t : Tlv) : Bytes :=
  le 2 (2 ^ 15 * b2n t.required + t.pos) ++ le 2 t.value.length ++ t.value ++ zeros (roundUp t.value.length 4 - t.value.length)

/-- A request as a packet without a trailer (R75): the header with its CRC, the parameters, the payload, and the body CRC. -/
def requestPacket (op : Nat) (q : VReq) : Bytes :=
  let params := q.params.flatMap tlvBytes
  let header := le 2 0x564B ++ [1#8, 0#8] ++ le 2 op ++ le 2 0 ++ le 4 q.tag ++ le 4 params.length ++ le 4 q.payload.length ++
    le 4 q.frame ++ le 4 q.session
  header ++ crcBytes header ++ params ++ q.payload ++ crcBytes (params ++ q.payload)

/-- The packet with the trailer that MG asks for: the first 8 bytes of the CMAC of all before it (R75, R83). -/
def mgPacket (key : Bytes) (op : Nat) (q : VReq) : Bytes := requestPacket op q ++ (aesCmac key (requestPacket op q)).take 8

/-- The command of each opcode of R98, whose request a packet carries. -/
def requestRows : List (Nat × (VReq → Instr)) :=
  [(0x0101, .sessionOpen), (0x0102, .sessionAuth), (0x0103, .sessionClose), (0x0104, .sessionList)] ++
  [(0x0201, .cfgOpen), (0x0202, .cfgStage), (0x0203, .cfgCheck), (0x0204, .cfgApply), (0x0205, .cfgCancel), (0x0206, .cfgStatus),
   (0x0207, .cfgRead), (0x0208, .modeGet)] ++
  [(0x0301, .domainCreate), (0x0302, .domainDelete), (0x0303, .domainList), (0x0304, .nsCreate), (0x0305, .nsDelete),
   (0x0306, .nsResize), (0x0307, .nsList), (0x0308, .snapCreate), (0x0309, .snapDelete), (0x030A, .snapClone)] ++
  [(0x0401, .hiveStatus), (0x0402, .hiveWake), (0x0403, .hiveDark), (0x0404, .superAttach), (0x0405, .combRetire),
   (0x0406, .stripeAcceptLoss), (0x0407, .mediaStats)] ++
  [(0x0501, .pairStatus), (0x0502, .rebalance), (0x0503, .pathDrill), (0x0504, .mirrorDiscard), (0x0505, .pairElect)] ++
  [(0x0601, .colonyStatus), (0x0602, .colonyJoin), (0x0603, .colonyLeave), (0x0604, .queenAssign), (0x0605, .tokenStatus),
   (0x0606, .catalogueRead)] ++
  [(0x0701, .rgCreate), (0x0702, .rgDelete), (0x0703, .rgStatus), (0x0704, .rgPause), (0x0705, .rgResume), (0x0706, .snapShip)] ++
  [(0x0801, .ownerEnroll), (0x0802, .keyProvision), (0x0803, .keyEscrowExport), (0x0804, .keyRestore), (0x0805, .keyRotate),
   (0x0806, .keyErase), (0x0807, .keyStatus)] ++
  [(0x0901, .evtRead), (0x0902, .evtSubscribe), (0x0903, .ctrRead), (0x0904, .ctrClear)] ++
  [(0x0A01, .attest), (0x0A02, .ledgerRead), (0x0A03, .updBegin), (0x0A04, .updBlock), (0x0A05, .updVerify), (0x0A06, .updActivate),
   (0x0A07, .updConfirm), (0x0A08, .updAbort), (0x0A09, .updLock), (0x0A0A, .restart)] ++
  [(0x0B01, .diagDieRead), (0x0B02, .diagLinkLoop), (0x0B03, .diagSelftest), (0x0B04, .diagDump)]

end Sys2Proof.Machine
end

