-- ==== Sys2Proof/Certificates/Slice0/Obligations.lean ====
section
/-! DEFINITION. The statements for the provers: what each command does where it completes, whole-machine rules and invariants. -/

open Sys2Proof Sys2Proof.Machine

/-- R77: a request is checked in order, and the first check that fails gives the reply's status; nothing of the opcode's own part
runs. Stated for every opcode by its own part `body`. -/
def Obligations.VirkanGate : Prop :=
  (∀ (s : State) (op : Nat) (q : VReq) (body : State → State) (st : VStatus),
    s.deaf q.via = false → s.checkSession op q = some st → s.virkan op q body = s.turnAway q op st) ∧
  (∀ (s : State) (op : Nat) (q : VReq) (body : State → State) (st : VStatus),
    s.deaf q.via = false → s.checkSession op q = none → (s.takeIn op q).checkOp op q = some st →
    s.virkan op q body = (s.takeIn op q).reply q op st []) ∧
  (∀ (s : State) (op : Nat) (q : VReq), op ≠ 0x0101 → s.sessionOf q.via q.session = none →
    s.checkSession op q = some .sessionUnknown) ∧
  (∀ (s : State) (op : Nat) (q : VReq) (x : Session), op ≠ 0x0101 → s.sessionOf q.via q.session = some x →
    q.tag ≠ 0 → q.tag ≠ 0xFFFFFFFF → (q.via.holds = true ∨ x.highTag = none) → x.outstanding.contains q.tag = true →
    s.checkSession op q = some .tagInUse) ∧
  (∀ (s : State) (op : Nat) (q : VReq), vop op = none → s.checkOp op q = some .unknownOpcode) ∧
  (∀ (s : State) (op : Nat) (q : VReq) (o : VOp), vop op = some o → s.md.recovery = true → servedInRecovery op = false →
    s.checkOp op q = some .refusedRecovery) ∧
  (∀ (s : State) (op : Nat) (q : VReq) (o : VOp), vop op = some o → s.md.recovery = false → s.ks.sealState = 2 →
    servedErased op = false → s.checkOp op q = some .keysErased) ∧
  (∀ (s : State) (op : Nat) (q : VReq) (o : VOp) (st : VStatus), vop op = some o → s.md.recovery = false → s.ks.sealState ≠ 2 →
    s.checkPriv o q = some st → s.checkOp op q = some st) ∧
  (∀ (s : State) (op : Nat) (q : VReq) (o : VOp) (st : VStatus), vop op = some o → s.md.recovery = false → s.ks.sealState ≠ 2 →
    s.checkPriv o q = none → o.checkParams q = some st → s.checkOp op q = some st)

/-- R87 to R91, R98: a session is opened at observer privilege with a fresh handle and a nonce of 32 bytes; a right proof raises it to
the privilege it was opened for; a wrong one counts, and the third closes the session with E022; SESSION_CLOSE and 900 s without a
request close it. -/
def Obligations.SessionsComplete : Prop :=
  (∀ (s : State) (q : VReq) (u : State), Runs s 0x0101 q u → u.sessionSlot q.via = true →
    ∃ t x, exec (.sessionOpen q) s = .next t ∧ t.vk.sessions = u.vk.sessions ++ [x] ∧ x.handle = u.vk.nextHandle ∧ x.via = q.via ∧
      x.priv = .observer ∧ x.opened = privOf (q.num 1 0) ∧ x.nonce = u.drawn 32 ∧ x.lastReq = u.ck.now ∧
      t.vk.nextHandle = u.vk.nextHandle + 1 ∧
      (if q.via.holds then ∃ h ∈ t.vk.held, h.via = q.via ∧ h.rep = ⟨0x0101, .success, q.tag, q.frame, x.handle, false, x.nonce⟩
        else ∃ v : State, v.out = u.out ∧ v.ks = u.ks ∧ t.out = (v.sendReply q.via ⟨0x0101, .success, q.tag, q.frame, x.handle, false, x.nonce⟩).out)) ∧
  (∀ (s : State) (q : VReq) (u : State) (x : Session), Runs s 0x0102 q u → u.sessionOf q.via q.session = some x →
    u.proofOk x ((q.param 1).getD []) = true →
    exec (.sessionAuth q) s =
      .next ((u.session' x.handle fun y => { y with priv := y.opened }).reply q 0x0102 .success (le 1 (privN x.opened)))) ∧
  (∀ (s : State) (q : VReq) (u : State) (x : Session), Runs s 0x0102 q u → u.sessionOf q.via q.session = some x →
    u.proofOk x ((q.param 1).getD []) = false → x.fails + 1 < 3 →
    exec (.sessionAuth q) s = .next ((u.session' x.handle fun y => { y with fails := y.fails + 1 }).reply q 0x0102 .authFailed [])) ∧
  (∀ (s : State) (q : VReq) (u : State) (x : Session), Runs s 0x0102 q u → u.sessionOf q.via q.session = some x →
    u.proofOk x ((q.param 1).getD []) = false → 3 ≤ x.fails + 1 →
    exec (.sessionAuth q) s = .next ((((u.session' x.handle fun y => { y with fails := y.fails + 1 }).reply q 0x0102 .authFailed []).ev0
      0x022 .warn (le 1 q.via.num ++ le 1 (privN x.opened))).closeSession x.handle)) ∧
  (∀ (s : State) (q : VReq) (u : State), Runs s 0x0103 q u →
    ∃ t, exec (.sessionClose q) s = .next t ∧ t = (u.reply q 0x0103 .success []).closeSession q.session ∧
      ∀ x ∈ t.vk.sessions, x.handle ≠ q.session) ∧
  (∀ (s : State) (q : VReq) (u : State), Runs s 0x0104 q u →
    exec (.sessionList q) s = .next (u.reply q 0x0104 .success u.sessionList)) ∧
  (∀ (s : State) (h : Nat) (x : Session), s.vk.sessions.find? (·.handle == h) = some x → x.lastReq + 900 * second ≤ s.ck.now →
    ∃ t, exec (.sessionIdleExpiry h) s = .next t ∧ t = s.closeSession h ∧ ∀ y ∈ t.vk.sessions, y.handle ≠ h)

/-- R98 to R108: a frame is opened for the session, staged, checked, applied by a schedule record and cancelled by a cancel record;
CFG_STATUS, CFG_READ and MODE_GET answer without changing a frame. -/
def Obligations.FramesComplete : Prop :=
  (∀ (s : State) (q : VReq) (u : State), Runs s 0x0201 q u →
    (u.vk.frames.filter fun f => !f.peerMade && !f.internal &&
      (f.state == .opened || f.state == .checked || f.state == .scheduling)).length < 8 → (q.num 1 0 = 1 → u.peerAway = false) →
    ∃ t, exec (.cfgOpen q) s = .next t ∧ t = (u.vk' fun v => { v with
        frames := v.frames ++ [u.freshFrame u.newFrameId q.session (q.num 1 0 == 1)], nextFrame := v.nextFrame + 1 }).replyTo
          { (q.waiter 0x0201) with frame := u.newFrameId } .success [] ∧
      t.vk.frames = u.vk.frames ++ [u.freshFrame u.newFrameId q.session (q.num 1 0 == 1)]) ∧
  (∀ (s : State) (q : VReq) (u : State) (f : Frame) (es : List StagedItem), Runs s 0x0202 q u → u.ownFrame q = some f →
    (f.state = .opened ∨ f.state = .checked) → parseItems (q.payload.length + 1) q.payload = some es →
    es.all ((u.touchFrame f.id).entryOk f.pair) = true → (es.foldl stageOne f.items).length ≤ 4096 →
    exec (.cfgStage q) s = .next (((u.touchFrame f.id).frame' f.id false fun g => { g with
      items := es.foldl stageOne f.items, state := .opened }).reply q 0x0202 .success (le 2 (es.foldl stageOne f.items).length))) ∧
  (∀ (s : State) (q : VReq) (u : State) (f : Frame), Runs s 0x0203 q u → u.ownFrame q = some f →
    (f.state = .opened ∨ f.state = .checked) → (u.touchFrame f.id).conflicts f = [] →
    exec (.cfgCheck q) s = .next (((u.touchFrame f.id).frame' f.id false fun g => { g with state := .checked }).reply q 0x0203
      .success [])) ∧
  (∀ (s : State) (q : VReq) (u : State) (f : Frame), Runs s 0x0203 q u → u.ownFrame q = some f →
    (f.state = .opened ∨ f.state = .checked) → (u.touchFrame f.id).conflicts f ≠ [] →
    exec (.cfgCheck q) s = .next ((u.touchFrame f.id).reply q 0x0203 .frameConflict (conflictBytes ((u.touchFrame f.id).conflicts f)))) ∧
  (∀ (s : State) (q : VReq) (u : State) (f : Frame), Runs s 0x0204 q u → u.ownFrame q = some f →
    (u.touchFrame f.id).applyRefusal f (q.num 1 0) = none →
    ∃ g v, g = { f with
        state := .scheduling, tick := q.num 1 0, wait := q.num 2 0 == 1, waiter := some (q.waiter 0x0204), lastReq := (u.touchFrame f.id).ck.now
        schedOrd := u.wx.nextOrd } ∧
      v = (u.touchFrame f.id).frame' f.id false (fun _ => g) ∧
      (v.leavesTide g = false ∨ v.tideToken = true →
        exec (.cfgApply q) s = .next (v.commit 0xFFFF (.frameSchedule { g with waiter := none }) [.scheduled f.id g.schedOrd])) ∧
      (∀ h, v.leavesTide g = true → v.tideToken = false → v.tideDark = some h →
        exec (.cfgApply q) s = .next ((v.askToken h 1).commit 0xFFFF (.frameSchedule { g with waiter := none })
          [.scheduled f.id g.schedOrd]))) ∧
  (∀ (s : State) (q : VReq) (u : State) (f : Frame), Runs s 0x0205 q u → u.ownFrame q = some f → f.state = .scheduled →
    u.ck.tick + 2 ≤ f.tick →
    exec (.cfgCancel q) s = .next ((((u.touchFrame f.id).endFrame f.id 0xFFFF).frameReply f .noChange).commit 0xFFFF
      (.frameEnd f.id 0xFFFF) [.reply (q.waiter 0x0205) .success []])) ∧
  (∀ (s : State) (q : VReq) (u : State) (f : Frame), Runs s 0x0206 q u → u.vk.frames.find? (·.id == q.frame) = some f →
    (f.pair = true ∨ q.has 1 = false ∨ q.num 1 0 = sideN u.pr.side) →
    exec (.cfgStatus q) s = .next ((u.touchFrame f.id).reply q 0x0206 .success
      (le 1 (frameStateN f.state) ++ le 8 f.tick ++ le 2 f.abort))) ∧
  (∀ (s : State) (q : VReq) (u : State), Runs s 0x0207 q u → (∀ id ∈ (q.all 1).map rdLe, (settingRow id).isSome = true) →
    exec (.cfgRead q) s = .next (u.reply q 0x0207 .success (((q.all 1).map rdLe).flatMap u.readItem))) ∧
  (∀ (s : State) (q : VReq) (u : State), Runs s 0x0208 q u →
    exec (.modeGet q) s = .next (u.reply q 0x0208 .success u.modeReport))

/-- R98, R278 to R280, R401, R419 to R421, R471, R689: each of these opcodes, on an object that it may act on, writes the record of its
row, and its reply follows that record's acceptance. -/
def Obligations.VolumesComplete : Prop :=
  (∀ (s : State) (q : VReq) (u : State), Runs s 0x0301 q u → (u.domain? (q.num 1 0)).isSome = false → u.vo.domains.length < 65536 →
    exec (.domainCreate q) s = .next (((u.drawKeys.useWrap 0).commit (q.num 1 0)
      (.keyChange .domainCreate 6 (q.num 1 0) 1 1 (u.wrapCtr 0) (some (u.freshKeys (q.num 1 0))) []) []).control (q.num 1 0)
        (.domainCreate (q.num 1 0) (sideOf (q.num 2 0)) (q.num 3 24)) [.reply (q.waiter 0x0301) .success []])) ∧
  (∀ (s : State) (q : VReq) (u : State), Runs s 0x0302 q u → (u.domain? (q.num 1 0)).isNone = false →
    u.owns (.domain (q.num 1 0)) = true →
    exec (.domainDelete q) s = .next (u.control (q.num 1 0) (.domainDelete (q.num 1 0)) [.reply (q.waiter 0x0302) .success []])) ∧
  (∀ (s : State) (q : VReq) (u : State), Runs s 0x0304 q u → q.num 2 0 ≤ 16384 → q.num 3 0 % 16384 = 0 →
    (u.ns? (q.num 2 0)).isSome = false → u.owns (.domain (q.num 1 0)) = true → u.vo.nss.length < 16384 →
    exec (.nsCreate q) s = .next (u.control (q.num 1 0)
      (.nsCreate (q.num 1 0) (q.num 2 0) (q.num 3 0) (if q.num 4 0 = 1 then .zero else .hint)) [.reply (q.waiter 0x0304) .success []])) ∧
  (∀ (s : State) (q : VReq) (u : State) (n : Namespace), Runs s 0x0305 q u → u.ns? (q.num 1 0) = some n →
    u.owns (.domain n.domain) = true →
    exec (.nsDelete q) s = .next (u.control n.domain (.nsDelete n.nsid) [.reply (q.waiter 0x0305) .success []])) ∧
  (∀ (s : State) (q : VReq) (u : State) (n : Namespace), Runs s 0x0306 q u → u.ns? (q.num 1 0) = some n →
    u.owns (.domain n.domain) = true → q.num 2 0 % 16384 = 0 → n.size ≤ q.num 2 0 →
    exec (.nsResize q) s = .next (u.control n.domain (.nsResize n.nsid (q.num 2 0)) [.reply (q.waiter 0x0306) .success []])) ∧
  (∀ (s : State) (q : VReq) (u : State) (n : Namespace), Runs s 0x0308 q u → u.ns? (q.num 1 0) = some n →
    u.owns (.domain n.domain) = true →
    (u.vo.snaps.filter (·.nsid == n.nsid)).length + (u.rd.snapWait.filter (·.1 == n.nsid)).length < 1024 →
    u.vo.snaps.length + u.rd.snapWait.length < 65536 →
    exec (.snapCreate q) s = .next (((u.rd' fun r => { r with
        snapWait := r.snapWait ++ [(n.nsid, u.nextSnap n, fit 16 ((q.param 2).getD []), u.wx.nextOrd, q.waiter 0x0308)] }).reply q 0x0308
      .pending []).control n.domain (.snapCreate n.nsid (u.nextSnap n) (fit 16 ((q.param 2).getD []))) [])) ∧
  (∀ (s : State) (q : VReq) (u : State) (n : Namespace), Runs s 0x0309 q u → u.ns? (q.num 1 0) = some n →
    u.owns (.domain n.domain) = true → (u.snap? n.nsid (q.num 2 0)).isNone = false →
    exec (.snapDelete q) s = .next (u.commit n.domain (.mapChange [.treeDrop n.nsid (q.num 2 0)])
      [.reply (q.waiter 0x0309) .success []])) ∧
  (∀ (s : State) (q : VReq) (u : State) (n : Namespace), Runs s 0x030A q u → u.ns? (q.num 1 0) = some n →
    u.owns (.domain n.domain) = true → (u.snap? n.nsid (q.num 2 0)).isNone = false → q.num 3 0 ≤ 16384 →
    (u.ns? (q.num 3 0)).isSome = false → u.vo.nss.length < 16384 →
    exec (.snapClone q) s = .next (u.commit n.domain (.mapChange [.nsClone n.nsid (q.num 2 0) (q.num 3 0)])
      [.reply (q.waiter 0x030A) .success []])) ∧
  (∀ (s : State) (d key : Nat) (more : Nat) (rest : List (Nat × Nat × Nat)),
    (s.vo.drops.filter fun e => !s.dropWritten e.1 e.2.1 && s.owns (.domain e.1)) = (d, key, more) :: rest →
    ∃ items, exec .treeDropCascade s = .next (s.commit d (.mapChange (.pageDrop d key :: items)) []) ∧ items.length < 4096)

/-- R98, R530, R581, R589, R592, R620, R704, R728, R739: a request of an opcode that only reads, once it passes the checks of R77, is answered
SUCCESS with the block named here, and nothing else happens than that reply (KEY_STATUS draws the secret of its signature besides). A
filter leaves the lines of what it names; CATALOGUE_READ of a domain, CTR_READ of a class or index and CTR_READ of a list that names
nothing the head has are answered NOT_FOUND, a list that is not whole entries PARAM_INVALID. The form of a line is the model's where
the spec gives none (log 6), and so is an empty block for a hive, comb, domain or group that is absent. -/
def Obligations.VirkanListings : Prop :=
  (∀ (s : State) (q : VReq) (u : State), Runs s 0x0303 q u → exec (.domainList q) s = .next (u.reply q 0x0303 .success
    (u.vo.domains.flatMap fun d => le 2 d.id ++ le 1 (sideN ((u.ownerOf (.domain d.id)).getD d.side)) ++ [0#8] ++
      le 4 (u.vo.nss.filter (·.domain == d.id)).length))) ∧
  (∀ (s : State) (q : VReq) (u : State), Runs s 0x0307 q u → exec (.nsList q) s = .next (u.reply q 0x0307 .success
    ((u.vo.nss.filter fun n => ((q.param 1).map fun b => rdLe b == n.domain).getD true).flatMap fun n => le 4 n.nsid ++ le 8 n.size ++
      le 1 (if n.discard == .zero then 1 else 0) ++ zeros 3 ++ le 4 (u.vo.snaps.filter (·.nsid == n.nsid)).length))) ∧
  (∀ (s : State) (q : VReq) (u : State), Runs s 0x0401 q u → exec (.hiveStatus q) s = .next (u.reply q 0x0401 .success
    ((u.hv.hives.filter fun h => h.inService && (!q.has 1 || h.id == q.num 1 0)).flatMap u.hiveLine))) ∧
  (∀ (s : State) (q : VReq) (u : State), Runs s 0x0407 q u → exec (.mediaStats q) s = .next (u.reply q 0x0407 .success
    ((u.cl.links.filter fun l => l.comb != .absent && (!q.has 1 || l.link == q.num 1 0)).flatMap u.mediaLine))) ∧
  (∀ (s : State) (q : VReq) (u : State), Runs s 0x0501 q u →
    exec (.pairStatus q) s = .next (u.reply q 0x0501 .success u.pairBlock) ∧ u.pairBlock.length = 128) ∧
  (∀ (s : State) (q : VReq) (u : State), Runs s 0x0601 q u → exec (.colonyStatus q) s = .next (u.reply q 0x0601 .success
    (le 1 (if !u.co.member then 0 else if u.co.queenHead then 2 else 1) ++ le 1 (b2n u.co.reachable) ++ le 1 u.pr.apiary ++
      le 1 u.co.autonomy ++ le 4 u.co.epoch ++ le 2 u.co.tokens.length ++
      le 4 (if u.co.reachable then 86400 else 86400 - (u.ck.now - u.co.lastContact.getD u.ck.now) / second) ++ fit 16 u.co.queenAddr))) ∧
  (∀ (s : State) (q : VReq) (u : State), Runs s 0x0605 q u → exec (.tokenStatus q) s = .next (u.reply q 0x0605 .success
    (u.co.tokens.flatMap (·.bytes) ++ u.co.reqs.flatMap fun r =>
      (⟨0, u.pr.apiary, r.2.1, r.2.2, 0, 0, 0, u.pr.side, 0, false⟩ : WakeToken).bytes))) ∧
  (∀ (s : State) (q : VReq) (u : State), Runs s 0x0606 q u → q.has 1 = false →
    exec (.catalogueRead q) s = .next (u.reply q 0x0606 .success (u.co.catalogue.flatMap (·.bytes)))) ∧
  (∀ (s : State) (q : VReq) (u : State), Runs s 0x0606 q u → q.has 1 = true → u.co.catalogue.any (·.domain == q.num 1 0) = true →
    exec (.catalogueRead q) s = .next (u.reply q 0x0606 .success ((u.co.catalogue.filter (·.domain == q.num 1 0)).flatMap (·.bytes)))) ∧
  (∀ (s : State) (q : VReq) (u : State), Runs s 0x0606 q u → q.has 1 = true → u.co.catalogue.any (·.domain == q.num 1 0) = false →
    exec (.catalogueRead q) s = .next (u.reply q 0x0606 .notFound [])) ∧
  (∀ (s : State) (q : VReq) (u : State), Runs s 0x0703 q u → exec (.rgStatus q) s = .next (u.reply q 0x0703 .success
    ((u.rp.groups.filter fun g => !q.has 1 || g.id == q.num 1 0).flatMap u.rgLine))) ∧
  (∀ (s : State) (q : VReq) (u : State), Runs s 0x0807 q u →
    exec (.keyStatus q) s = .next ({ u with free := u.free + 1 }.reply q 0x0807 .success u.keyBlock)) ∧
  (∀ (s : State) (q : VReq) (u : State), Runs s 0x0901 q u → exec (.evtRead q) s = .next (u.reply q 0x0901 .success
    (le 8 (((u.recsBySeq.head?).map (·.seq)).getD u.ev.nextSeq) ++ le 8 u.ev.nextSeq ++
      ((u.recsBySeq.filter fun r => q.num 1 0 ≤ r.seq).take (q.num 2 256)).flatMap fun r => r.rep.record r.seq))) ∧
  (∀ (s : State) (q : VReq) (u : State), Runs s 0x0A02 q u →
    exec (.ledgerRead q) s = .next (u.reply q 0x0A02 .success (u.bt.ledger.flatMap (·.bytes)))) ∧
  (∀ (s : State) (q : VReq) (u : State) (b : Bytes), Runs s 0x0903 q u → q.num 1 0 ≠ 0xFFFF →
    u.ctrBlocks (q.num 1 0) (q.num 2 0) = some b → exec (.ctrRead q) s = .next (u.reply q 0x0903 .success b)) ∧
  (∀ (s : State) (q : VReq) (u : State), Runs s 0x0903 q u → q.num 1 0 ≠ 0xFFFF →
    u.ctrBlocks (q.num 1 0) (q.num 2 0) = none → exec (.ctrRead q) s = .next (u.reply q 0x0903 .notFound [])) ∧
  (∀ (s : State) (q : VReq) (u : State) (es : List Bytes) (bs : List Bytes), Runs s 0x0903 q u → q.num 1 0 = 0xFFFF →
    es = (pieces 8 q.payload).filter (!·.isEmpty) → es ≠ [] → q.payload.length % 8 = 0 → es.length ≤ 256 →
    es.mapM (fun e => u.ctrBlocks (fld e 0 2) (fld e 4 4)) = some bs → exec (.ctrRead q) s = .next (u.reply q 0x0903 .success bs.flatten)) ∧
  (∀ (s : State) (q : VReq) (u : State) (es : List Bytes), Runs s 0x0903 q u → q.num 1 0 = 0xFFFF →
    es = (pieces 8 q.payload).filter (!·.isEmpty) → es ≠ [] → q.payload.length % 8 = 0 → es.length ≤ 256 →
    es.mapM (fun e => u.ctrBlocks (fld e 0 2) (fld e 4 4)) = none → exec (.ctrRead q) s = .next (u.reply q 0x0903 .notFound [])) ∧
  (∀ (s : State) (q : VReq) (u : State) (es : List Bytes), Runs s 0x0903 q u → q.num 1 0 = 0xFFFF →
    es = (pieces 8 q.payload).filter (!·.isEmpty) → es = [] ∨ q.payload.length % 8 ≠ 0 ∨ 256 < es.length →
    exec (.ctrRead q) s = .next (u.reply q 0x0903 .paramInvalid []))

/-- R239, R243, R244, R364, R368, R375: HIVE_WAKE of a head without a colony asks for the hive and answers SUCCESS; HIVE_DARK of a dark
hive with no vote ends the need, of a hive that is up answers PENDING and decides the dark; SUPER_ATTACH schedules an internal frame;
COMB_RETIRE answers PENDING and retires the link; STRIPE_ACCEPT_LOSS writes the LOSS record, with E414 for each chunk. -/
def Obligations.HiveOpcodesComplete : Prop :=
  (∀ (s : State) (q : VReq) (u : State) (x : Hive), Runs s 0x0402 q u → u.hive? (q.num 1 0) = some x → x.brood = false →
    u.owns (.honey (q.num 1 0)) = true →
    ∀ v, v = (u.hive' (q.num 1 0) fun y => { y with
        wakeNeedUntil := some (u.ck.now + u.setting 0x04000020 * second) }).askWake (q.num 1 0) 1 →
    (((v.hive? (q.num 1 0)).any fun y => y.voteUp || y.wanted == some true) = true ∨ v.co.member = false) →
    exec (.hiveWake q) s = .next (v.reply q 0x0402 .success [])) ∧
  (∀ (s : State) (q : VReq) (u : State) (x : Hive), Runs s 0x0403 q u → u.hive? (q.num 1 0) = some x → x.brood = false →
    u.owns (.honey (q.num 1 0)) = true → x.state = .dark → x.voteUp = false → (u.topNeed x).isNone = false →
    exec (.hiveDark q) s = .next (((u.hive' (q.num 1 0) fun y => { y with wakeNeedUntil := none }).hive' (q.num 1 0) fun y => { y with
      wanted := if y.wanted == some true then none else y.wanted }).reply q 0x0403 .success [])) ∧
  (∀ (s : State) (q : VReq) (u : State) (x : Hive), Runs s 0x0403 q u → u.hive? (q.num 1 0) = some x → x.brood = false →
    u.owns (.honey (q.num 1 0)) = true → x.state ≠ .dark →
    exec (.hiveDark q) s = .next ((((u.hive' (q.num 1 0) fun y => { y with wakeNeedUntil := none }).reply q 0x0403 .pending []).hive'
      (q.num 1 0) fun y => { y with waiters := y.waiters ++ [q.waiter 0x0403] }).decideDark (q.num 1 0))) ∧
  (∀ (s : State) (q : VReq) (u : State), Runs s 0x0404 q u → q.num 1 0 < 8 → u.reshaping = false → u.inMode .full = true →
    u.pr.mirror = true → u.onTrial = false → u.pr.peerTrial = false → u.framesFull = false →
    ((u.hive? (q.num 1 0)).any (·.inService) = false ∨ u.isBrood (q.num 1 0) = true) →
    exec (.superAttach q) s = .next (u.internalFrame true ⟨superItem, 3, le 1 (q.num 1 0) ++ le 2 (q.num 2 0)⟩
      [.reply (q.waiter 0x0404) .success (le 8 (u.ck.tick + 2))])) ∧
  (∀ (s : State) (q : VReq) (u : State), Runs s 0x0404 q u → q.num 1 0 < 8 → u.reshaping = false → u.inMode .full = true →
    u.pr.mirror = true → u.onTrial = false → u.pr.peerTrial = false → u.framesFull = false →
    (u.hive? (q.num 1 0)).any (·.inService) = true → u.isBrood (q.num 1 0) = false → u.owns (.honey (q.num 1 0)) = true →
    exec (.superAttach q) s = .next (u.internalFrame false ⟨superItem, 3, le 1 (q.num 1 0) ++ le 2 (q.num 2 0)⟩
      [.reply (q.waiter 0x0404) .success (le 8 (u.ck.tick + 2))])) ∧
  (∀ (s : State) (q : VReq) (u : State) (x : Link), Runs s 0x0405 q u → u.link? (q.num 1 0) = some x →
    x.comb ≠ .retired → x.comb ≠ .absent → x.retired = false →
    u.hasErased x.hive = false → 6 ≤ (u.workLeft x.hive (q.num 1 0)).length →
    exec (.combRetire q) s = .next (((u.reply q 0x0405 .pending []).sp' fun p => { p with
      retiring := p.retiring ++ [(q.num 1 0, some (q.waiter 0x0405))] }).link' (q.num 1 0) fun y => { y with retired := true })) ∧
  (∀ (s : State) (q : VReq) (u : State) (t : Stripe) (cs : List Chunk), Runs s 0x0406 q u → u.stripe? (q.num 1 0) = some t →
    t.released = false → cs = (u.rd.chunks.filter fun c => c.state == .stored && c.place.ordinal == q.num 1 0) → cs ≠ [] →
    exec (.stripeAcceptLoss q) s = .next (cs.foldl
      (fun v c => (v.event 0x414 .critical c.domain (le 6 c.id ++ le 6 (q.num 1 0))).bump 0x0409 0 0 1)
      (u.commit 0xFFFF (.stripeCommit (q.num 1 0) t.hive t.region .loss [] 0 0
        (cs.map fun c => ⟨c.id, c.domain, c.place.off, c.len, c.manifest, c.deferred⟩) 0)
        [.reply (q.waiter 0x0406) .success (le 4 cs.length)])))

/-- R98, R558, R570, R571, R578: REBALANCE schedules a pair-wide internal frame that names giver and units; PATH_DRILL makes the eligible
standby port active, posts the WRITE_IMM and answers PENDING; its ACK timeout makes the former port active again; MIRROR_DISCARD writes
its record; PAIR_ELECT ends the mismatch, and the head that it does not name answers once its change to Quiesce is accepted (R35). -/
def Obligations.PairOpcodesComplete : Prop :=
  (∀ (s : State) (q : VReq) (u : State) (us : List OwnUnit), Runs s 0x0502 q u →
    (((q.all 1).map rdLe).any fun d => (u.domain? d).isNone) = false →
    (((q.all 2).map rdLe).any fun h => u.isBrood h || !(u.hive? h).any (·.inService)) = false →
    us = u.closeUnits (u.vo.domains.length + 9) (dedupBy (if q.has 1 || q.has 2 then
      (((q.all 1).map rdLe).map OwnUnit.domain) ++ ((q.all 2).map rdLe).map OwnUnit.honey else u.offHome)) →
    u.inMode .takeover = false → u.pr.mirror = true → u.pr.rebalance = none → us ≠ [] →
    (us.any fun x => u.ownerOf x != some u.pr.side) = false →
    u.md.mode.any givesMode = true → (u.pr.peerMode.any fun m => givesMode m || m == .rejoin) = true → u.framesFull = false →
    exec (.rebalance q) s = .next (u.internalFrame true ⟨rebalanceItem, 3, le 1 (sideN u.pr.side) ++ bytesOfUnits us⟩
      [.reply (q.waiter 0x0502) .success (le 8 (u.ck.tick + 2))])) ∧
  (∀ (s : State) (q : VReq) (u : State) (p : FabricPair) (a : Nat), Runs s 0x0503 q u → u.pr.fabric[q.num 1 0]? = some p →
    p.active = some a → (p.port (1 - a)).eligible = true → u.pr.missPeer < 8 → u.pr.joined = true → u.pr.drill = none →
    (p.lastSwap.any fun t => u.ck.now < t + 60 * second) = false →
    ∀ v, v = ((u.pair' (q.num 1 0) fun x => { x with active := some (1 - a), lastSwap := some u.ck.now }).resendPair (q.num 1 0)) →
    exec (.pathDrill q) s = .next ((((v.pr' fun x => { x with
      drill := some ⟨q.num 1 0, a, ((u.ctx? 6).map (·.nextSend)).getD 0, v.ck.now, some (q.waiter 0x0503)⟩ }).postEntry
        6 (plainEntry 2 0 [] 0 0 0)).stat 0x0B05 (q.num 1 0) 1 1).reply q 0x0503 .pending [])) ∧
  (∀ (s : State) (d : Drill) (w : Waiter), s.pr.drill = some d → d.atNs + 100 * milli ≤ s.ck.now → d.waiter = some w →
    exec .pathDrillAckTimeout s = .next ((((((s.pair' d.pair fun p => { (p.setPort (1 - d.former) fun x => { x with
        failed := true, eligible := false }) with active := some d.former }).resendPair d.pair).pr' fun p => { p with
        drill := none }).ev0 0xB0E .error (le 1 d.pair)).bump 0x0B09 d.pair 0 1).replyTo w .noChange [])) ∧
  (∀ (s : State) (q : VReq) (u : State), Runs s 0x0504 q u → sideOf (q.num 1 0) ≠ u.pr.side → u.peerAway = true →
    exec (.mirrorDiscard q) s = .next (u.control 0xFFFF (.mirrorDiscard (sideOf (q.num 1 0))) [.reply (q.waiter 0x0504) .success []])) ∧
  (∀ (s : State) (q : VReq) (u : State), Runs s 0x0505 q u → u.pr.unresolved = true → sideOf (q.num 1 0) = u.pr.side →
    exec (.pairElect q) s = .next ((u.endMismatch (some true)).reply q 0x0505 .success [])) ∧
  (∀ (s : State) (q : VReq) (u : State), Runs s 0x0505 q u → u.pr.unresolved = true → sideOf (q.num 1 0) ≠ u.pr.side →
    exec (.pairElect q) s = .next (u.endMismatchThen (some false) [.reply (q.waiter 0x0505) .success []]))

/-- R598, R599, R605 to R607: COLONY_JOIN of apiary ID 0 forms a colony, of another asks the queen and answers PENDING; with no JOIN_REPLY
in 10 s the request ends REFUSED_PEER_STATE; COLONY_LEAVE schedules the leave; QUEEN_ASSIGN hands the role on, by the queen or in an
emergency by the worker itself, with EC04. -/
def Obligations.ColonyOpcodesComplete : Prop :=
  (∀ (s : State) (q : VReq) (u : State), Runs s 0x0602 q u → u.co.member = false → u.co.joinWait = none →
    (u.ks.colony.cur.isSome = true ∨ u.ks.colony.pend.isSome = true) → q.num 2 0 = 0 →
    exec (.colonyJoin q) s = .next ((u.control 0xFFFF .colonyForm [.reply (q.waiter 0x0602) .success []]).ev0 0xC00 .notice
      (le 1 0 ++ le 1 1))) ∧
  (∀ (s : State) (q : VReq) (u : State), Runs s 0x0602 q u → u.co.member = false → u.co.joinWait = none →
    (u.ks.colony.cur.isSome = true ∨ u.ks.colony.pend.isSome = true) → q.num 2 0 ≠ 0 →
    ∃ v, v = u.co' (fun c => { c with queenAddr := (q.param 1).getD [], joinWait := some (q.waiter 0x0602, q.num 2 0, u.ck.now) }) ∧
      exec (.colonyJoin q) s = .next ((v.reply q 0x0602 .pending []).send
        (.col 0xFFFF (.join (q.num 2 0) v.nv.apiarySerial (2 * q.num 2 0) (2 * q.num 2 0 + 1) ownAddrs)))) ∧
  (∀ (s : State) (w : Waiter) (a t : Nat), s.co.joinWait = some (w, a, t) → t + 10 * second ≤ s.ck.now →
    exec .colonyJoinTimeout s = .next ((s.co' fun c => { c with joinWait := none }).replyTo w .refusedPeerState [])) ∧
  (∀ (s : State) (q : VReq) (u : State), Runs s 0x0603 q u → u.co.member = true →
    (u.pr.apiary = 0 → (u.queen.members.any fun m => m.apiary != 0 && !m.vacated) = false) → u.rp.groups = [] → u.rp.replicas = [] →
    u.framesFull = false →
    exec (.colonyLeave q) s = .next (u.internalFrame true ⟨apiaryItem, 3, le 1 1 ++ le 1 0 ++ le 4 0⟩
      [.col 0xFFFF (.leave u.pr.apiary), .reply (q.waiter 0x0603) .success []])) ∧
  (∀ (s : State) (q : VReq) (u : State), Runs s 0x0604 q u → u.framesFull = false → u.isQueen = true → q.num 1 0 ≠ 0 →
    (u.queen.members.any fun m => m.apiary == q.num 1 0 && !m.vacated) = true →
    ∃ role, role = ColMsg.settings u.co.settingsGen (u.classSix ++ [(queenItem, le 1 (q.num 1 0) ++ le 4 (u.co.epoch + 1))])
        ((u.ks.colony.cur.map (·.1)).getD 0) ∧
    exec (.queenAssign q) s = .next ((((((((u.toWorkers fun _ => u.settingsMsg u.queen).send (.col (2 * q.num 1 0) role)).send
      (.col (2 * q.num 1 0 + 1) role)).control 0xFFFF (.queenAssign (q.num 1 0) (u.co.epoch + 1) true) []).internalFrame true
        ⟨apiaryItem, 3, le 1 0 ++ le 1 (q.num 1 0) ++ le 4 (u.co.epoch + 1)⟩ [.reply (q.waiter 0x0604) .success []]).bump 0x0C04 0 0 1).ev0
          0xC04 .critical (le 4 (u.co.epoch + 1) ++ le 1 (q.num 1 0))))) ∧
  (∀ (s : State) (q : VReq) (u : State), Runs s 0x0604 q u → u.framesFull = false → u.isQueen = false → u.co.member = true →
    q.num 1 0 = u.pr.apiary →
    q.num 1 0 ≠ 0 → (u.co.lastContact.any fun t => u.ck.now < t + 70 * second) = false → u.peerLeased = true →
    exec (.queenAssign q) s = .next (((((u.control 0xFFFF (.queenAssign (q.num 1 0) (u.co.epoch + 1) false) []).internalFrame true
      ⟨apiaryItem, 3, le 1 2 ++ le 1 0 ++ le 4 (u.co.epoch + 1)⟩ [.reply (q.waiter 0x0604) .success []]).bump 0x0C04 0 0 1).ev0
        0xC04 .critical (le 4 (u.co.epoch + 1) ++ le 1 (q.num 1 0)))))

/-- R516, R530 to R532: RG_CREATE writes the group's record and sends SETUP once it is accepted; RG_DELETE on the shipper sends a SETUP
with no domains, on the receiver detaches the group; RG_PAUSE and RG_RESUME write the new state; SNAP_SHIP of a group in snapshot mode
lays the snapshot's items out as a base pass and answers PENDING. -/
def Obligations.GroupOpcodesComplete : Prop :=
  (∀ (s : State) (q : VReq) (u : State) (ds : List Nat), Runs s 0x0701 q u → ds = dedupBy ((q.all 3).map rdLe) →
    (u.group? (q.num 1 0)).isSome = false → u.co.member = true → q.num 2 0 ≠ u.pr.apiary → u.knownApiary (q.num 2 0) = true →
    (ds.any fun d => !u.owns (.domain d) || (u.domain? d).isNone) = false → u.rp.groups.length < 1023 → ds.length ≤ 256 →
    (ds.any fun d => decide (4 ≤ (u.rp.groups.filter (·.domains.contains d)).length) ||
      (u.rp.groups.filter (·.domains.contains d)).any (·.target == q.num 2 0)) = false →
    exec (.rgCreate q) s = .next ((u.setupMsg (newGroup (q.num 1 0) (q.num 2 0) ds u.pr.side)).1.control 0xFFFF
      (.rgCreate (q.num 1 0) (q.num 2 0) ds) [.reply (q.waiter 0x0701) .success [],
        .repl (newGroup (q.num 1 0) (q.num 2 0) ds u.pr.side).targetHead (u.setupMsg (newGroup (q.num 1 0) (q.num 2 0) ds u.pr.side)).2])) ∧
  (∀ (s : State) (q : VReq) (u : State) (x : RGroup), Runs s 0x0702 q u → u.group? (q.num 1 0) = some x → u.leads x = true →
    exec (.rgDelete q) s = .next (u.control 0xFFFF (.rgDelete (q.num 1 0)) [.reply (q.waiter 0x0702) .success [],
      .repl x.targetHead (.setup (q.num 1 0) u.pr.apiary 0 [] [])])) ∧
  (∀ (s : State) (q : VReq) (u : State), Runs s 0x0702 q u → u.group? (q.num 1 0) = none →
    (u.rp.replicas.any (·.id == q.num 1 0)) = true →
    exec (.rgDelete q) s = .next (u.control 0xFFFF (.replicaDetach (q.num 1 0)) [.reply (q.waiter 0x0702) .success []])) ∧
  (∀ (s : State) (q : VReq) (u : State) (g : RGroup), Runs s 0x0704 q u → u.group? (q.num 1 0) = some g → u.leads g = true →
    g.state ≠ .paused →
    exec (.rgPause q) s = .next (u.control 0xFFFF (.rgPause g.id true) [.reply (q.waiter 0x0704) .success []])) ∧
  (∀ (s : State) (q : VReq) (u : State) (g : RGroup), Runs s 0x0705 q u → u.group? (q.num 1 0) = some g → u.leads g = true →
    g.state = .paused →
    exec (.rgResume q) s = .next (u.control 0xFFFF (.rgPause g.id false) [.reply (q.waiter 0x0705) .success []])) ∧
  (∀ (s : State) (q : VReq) (u : State) (g : RGroup) (n : Namespace) (p : Snapshot), Runs s 0x0706 q u →
    u.group? (q.num 1 0) = some g → u.ns? (q.num 2 0) = some n → u.snap? (q.num 2 0) (q.num 3 0) = some p →
    g.domains.contains n.domain = true → u.leads g = true → u.snapMode g.id = true → g.shipped.find? (·.1 == q.num 2 0) = none →
    g.baseLog = [] →
    exec (.snapShip q) s = .next ((((u.replyTo (q.waiter 0x0706) .pending []).layBase g.id
      (u.baseEntries g.confirmed (u.snapItems n.domain p none))).group' g.id fun x => { x with
          snapWait := [(q.num 2 0, p.id, q.waiter 0x0706)] })))

/-- R90, R641, R643, R688, R689, R698, R701 to R703: each of these opcodes, where its conditions hold, writes its record with the wrap counter
that is used once, or answers with the blob or the attestation block; KEY_RESTORE takes the vault from the blob, answers, falls silent and
resets. A blob that does not open is answered with what is wrong with it. -/
def Obligations.KeyOpcodesComplete : Prop :=
  (∀ (s : State) (q : VReq) (u : State), Runs s 0x0801 q u → (p384Dec ((q.param 1).getD [])).isNone = false →
    u.ks.owner ≠ some ((q.param 1).getD []) → u.logFull = false →
    exec (.ownerEnroll q) s = .next ((u.extend 7 0 0x0801 0 ((q.param 1).getD [])).control 0xFFFF (.ownerEnroll ((q.param 1).getD []))
      [.reply (q.waiter 0x0801) .success []])) ∧
  (∀ (s : State) (q : VReq) (u : State) (e : VaultEntry), Runs s 0x0802 q u →
    u.openBlob ((q.param 2).getD []) (fun l => l.length == 1 && l.all fun c => c ≤ 2 && c == q.num 1 0) = .ok [e] →
    exec (.keyProvision q) s = .next ((u.useWrap 0).commit 0xFFFF
      (.keyChange .classKey e.cls 0xFFFF e.gen 0 (u.wrapCtr 0) none (fit 32 e.key)) [.reply (q.waiter 0x0802) .success []])) ∧
  (∀ (s : State) (q : VReq) (u : State), Runs s 0x0803 q u → (p384Dec ((q.param 1).getD [])).isNone = false →
    exec (.keyEscrowExport q) s = .next ((u.exportBlob ((q.param 1).getD [])).1.reply q 0x0803 .success
      (u.exportBlob ((q.param 1).getD [])).2)) ∧
  (∀ (s : State) (q : VReq) (u : State) (es : List VaultEntry), Runs s 0x0804 q u → u.vaultState ≠ 1 → u.vaultState ≠ 2 →
    u.openBlob ((q.param 1).getD []) (fun l => l.all (· ≤ 6) && [0, 2, 3, 4].all l.contains) = .ok es → u.logFull = false →
    exec (.keyRestore q) s = .next ((((u.restoreVault ((q.param 1).getD []) es).lastReply q 0x0804 .success).silence).resetNow 3)) ∧
  (∀ (s : State) (q : VReq) (u : State) (st : VStatus), Runs s 0x0802 q u →
    u.openBlob ((q.param 2).getD []) (fun l => l.length == 1 && l.all fun c => c ≤ 2 && c == q.num 1 0) = .error st →
    exec (.keyProvision q) s = .next (u.reply q 0x0802 st [])) ∧
  (∀ (s : State) (q : VReq) (u : State) (st : VStatus), Runs s 0x0804 q u → u.vaultState ≠ 1 → u.vaultState ≠ 2 →
    u.openBlob ((q.param 1).getD []) (fun l => l.all (· ≤ 6) && [0, 2, 3, 4].all l.contains) = .error st →
    exec (.keyRestore q) s = .next (u.reply q 0x0804 st [])) ∧
  (∀ (s : State) (q : VReq) (u : State) (d : Domain) (r : DomainKeys), Runs s 0x0805 q u → u.domain? (q.num 1 0) = some d →
    u.ks.recs.find? (·.domain == q.num 1 0) = some r → u.owns (.domain (q.num 1 0)) = true → r.data.length < 8 → r.newestData < 65535 →
    exec (.keyRotate q) s = .next ((u.drawKeys.useWrap 0).commit (q.num 1 0)
      (.keyChange .rotate 6 (q.num 1 0) (r.newestData + 1) (r.newestLoc + 1) (u.wrapCtr 0) (some (r.rotated (u.drawn 96))) [])
        [.reply (q.waiter 0x0805) .success []])) ∧
  (∀ (s : State) (q : VReq) (u : State) (d : Domain) (r : DomainKeys), Runs s 0x0806 q u → u.domain? (q.num 1 0) = some d →
    u.ks.recs.find? (·.domain == q.num 1 0) = some r → u.owns (.domain (q.num 1 0)) = true →
    exec (.keyErase q) s = .next (u.commit (q.num 1 0) (.keyChange .erase 6 (q.num 1 0) r.newestData r.newestLoc 0 none [])
      [.reply (q.waiter 0x0806) .success []])) ∧
  (∀ (s : State) (q : VReq) (u : State), Runs s 0x0A01 q u → u.bt.attestKey = true →
    exec (.attest q) s = .next (((u.attest ((q.param 1).getD [])).1.stat 0x0D04 q.via.num 0 1).reply q 0x0A01 .success
      (u.attest ((q.param 1).getD [])).2)) ∧
  (∀ (s : State) (q : VReq) (u : State), Runs s 0x0A01 q u → u.bt.attestKey = false →
    exec (.attest q) s = .next (u.reply q 0x0A01 .keysErased []))

/-- R628, R629, R648 to R662: an update is begun, its blocks are judged and recorded, held blocks go on when the staging buffer has room,
the assembled bank is verified, activated by a record that the reply, the silence and the reset follow, confirmed and aborted; a bank that
fails its checks ends the update with SIGNATURE_INVALID; UPD_LOCK writes the lock; the end of the trial window orders the fallback; RESTART answers, falls silent and resets. -/
def Obligations.UpdateComplete : Prop :=
  (∀ (s : State) (q : VReq) (u : State), Runs s 0x0A03 q u → u.updRefusal true false = none → u.up.open_ = none →
    q.num 1 0 ≤ 142606336 → (q.num 2 0 = 0 ∨ q.num 2 0 = u.up.version) → u.onTrial = false →
    exec (.updBegin q) s = .next (((u.up' fun x => { x with
      open_ := some { len := q.num 1 0, base := q.num 2 0, received := 0, pkg := [], applied := 0, result := [], headerOk := false
                      verified := false, staged := 0, heldBlocks := [] }, inactive := [], sector0 := [] }).updEvent 0 (q.num 2 0) 0).reply
        q 0x0A03 .success [])) ∧
  (∀ (s : State) (q : VReq) (u : State) (x : Update), Runs s 0x0A04 q u → u.up.open_ = some x → (crc32c q.payload).toNat = q.num 2 0 →
    x.received + q.payload.length ≤ x.len → q.payload.length ≤ 65536 → q.num 1 0 = x.received →
    x.staged + q.payload.length ≤ 8 * 2 ^ 20 →
    exec (.updBlock q) s = .next (u.recordBlock (q.waiter 0x0A04) x q.payload)) ∧
  (∀ (s : State) (bytes : Nat) (x : Update), s.up.open_ = some x →
    exec (.updateStagingRoom bytes) s = .next (x.heldBlocks.foldl (fun t h => t.judgeBlock h.1 h.2.1 h.2.2.1 h.2.2.2)
      (s.up' fun y => { y with open_ := some { x with staged := x.staged - bytes, heldBlocks := [] } }))) ∧
  (∀ (s : State) (q : VReq) (u : State) (x : Update), Runs s 0x0A05 q u → u.up.open_ = some x → x.received = x.len →
    (assemble (u.bank u.bt.executing) x.pkg).complete x.pkg = true → u.logFull = false →
    ((u.bank u.otherBank).checks u.bt.fusedMin && (u.bank u.otherBank).mainOk && (u.bank u.otherBank).version == fld x.pkg 12 4) = true →
    exec (.updVerify q) s = .next (((((u.reply q 0x0A05 .pending []).extend 7 0 0x0A05 0 (u.bank u.otherBank).header).up' fun y => { y with
      open_ := some { x with verified := true } }).updEvent 1 x.base (u.bank u.otherBank).version).reply q 0x0A05 .success [])) ∧
  (∀ (s : State) (q : VReq) (u : State) (x : Update), Runs s 0x0A05 q u → u.up.open_ = some x → x.received = x.len →
    (assemble (u.bank u.bt.executing) x.pkg).complete x.pkg = true → u.logFull = false →
    ((u.bank u.otherBank).checks u.bt.fusedMin && (u.bank u.otherBank).mainOk && (u.bank u.otherBank).version == fld x.pkg 12 4) = false →
    exec (.updVerify q) s = .next (((((u.reply q 0x0A05 .pending []).up' fun y => { y with open_ := none }).ev0 0xE02 .error []).bump
      0x0E05 0 0 1).reply q 0x0A05 .signatureInvalid [])) ∧
  (∀ (s : State) (q : VReq) (u : State) (x : Update), Runs s 0x0A06 q u → u.updRefusal false true = none → u.up.open_ = some x →
    x.verified = true →
    exec (.updActivate q) s = .next (((((u.bankSelect u.otherBank 1 0 (u.bank u.otherBank).version u.ck.tick).up' fun y => { y with
      trial := some (u.otherBank, 0) }).updEvent 2 x.base (u.bank u.otherBank).version).bump 0x0E04 0 0 1).control 0xFFFF
        (.updActivate u.otherBank (u.bank u.otherBank).version u.ck.tick)
          (u.updateTold (u.bank u.otherBank).version true false ++ [.reply (q.waiter 0x0A06) .success [], .activate]))) ∧
  (∀ (s : State) (q : VReq) (u : State), Runs s 0x0A07 q u → u.updRefusal false false = none → u.up.trial.isNone = false →
    u.onTrial = true → u.bt.inService = true →
    exec (.updConfirm q) s = .next (u.control 0xFFFF (.updConfirm u.up.version) [.confirmBank, .reply (q.waiter 0x0A07) .success []])) ∧
  (∀ (s : State) (q : VReq) (u : State), Runs s 0x0A08 q u → u.up.open_.isSome = true →
    exec (.updAbort q) s = .next (((u.up' fun x => { x with open_ := none, sector0 := [] }).ev0 0xE03 .notice []).reply q 0x0A08
      .success [])) ∧
  (∀ (s : State) (q : VReq) (u : State), Runs s 0x0A08 q u → u.up.open_ = none → u.onTrial = true →
    exec (.updAbort q) s = .next ((u.reply q 0x0A08 .success []).orderFallback)) ∧
  (∀ (s : State) (q : VReq) (u : State), Runs s 0x0A09 q u → u.up.lock ≠ (q.num 1 0 == 1) →
    exec (.updLock q) s = .next (u.control 0xFFFF (.updLock (q.num 1 0 == 1)) [.reply (q.waiter 0x0A09) .success []])) ∧
  (∀ (s : State) (t : Nat), s.up.trial = some (s.bt.executing, t) → t ≠ 0 → t ≤ s.ck.rtc → s.md.stopped = false →
    exec .trialWindowEnd s = .next s.orderFallback) ∧
  (∀ (s : State) (q : VReq) (u : State), Runs s 0x0A0A q u → (u.selfAccepts = false ∨ u.peerAccepts = true) → q.num 1 0 ≠ 1 →
    u.md.recovery = false → u.md.keyErased = false →
    ∃ v, v = ((u.reply q 0x0A0A .success []).pr' fun p => { p with fencedOff := true }).pr' (fun p => { p with yielding := true }) ∧
      exec (.restart q) s = .next (((v.sendWaggles false false).silence).resetNow 3))

/-- R101, R108, R110, R111, R114, R121: an idle frame that is open or checked is cancelled; a readiness is noted; at tick T − 1 the
coordinating head writes the go record, or an abort record without readiness; a go record that is late is judged again; WAKE_MODE is
judged every 100 ms; an ended frame's status lapses after 3,600 s. -/
def Obligations.FrameTimersComplete : Prop :=
  (∀ (s : State) (n : Nat) (f : Frame), s.frame? n false = some f → (f.state == .opened || f.state == .checked) = true →
    f.lastReq + s.setting 0x02000005 * second ≤ s.ck.now →
    exec (.frameIdleExpiry n) s = .next (s.vk' fun v => { v with frames := v.frames.filter fun g => !(g.id == n && !g.peerMade) })) ∧
  (∀ (s : State) (n t : Nat) (is : List Item) (f : Frame), s.frame? n false = some f → s.ck.tick + 1 < f.tick →
    exec (.frameReadiness false n t is true) s = .next (s.frame' n false fun f => { f with ready := true })) ∧
  (∀ (s : State) (n t : Nat) (is : List Item),
    exec (.frameReadiness true n t is true) s = .next (s.takePeerFrame n t is)) ∧
  (∀ (s : State) (n : Nat) (f : Frame), s.frame? n false = some f → (f.pair && f.state == .scheduled && f.go = 0) = true →
    f.tick ≤ s.ck.tick + 1 → s.leavesTide f = false → f.ready = true →
    exec (.frameReadinessDeadline n) s = .next ((s.frame' n false fun f => { f with go := 1 }).commit 0xFFFF (.frameGo n) [])) ∧
  (∀ (s : State) (n : Nat) (f : Frame), s.frame? n false = some f → (f.pair && f.state == .scheduled && f.go = 0) = true →
    f.tick ≤ s.ck.tick + 1 → s.leavesTide f = false → f.ready = false →
    exec (.frameReadinessDeadline n) s = .next (s.doAbort f .frameAbortedPeer)) ∧
  (∀ (s : State) (n : Nat) (f : Frame), s.frame? n false = some f → (f.pair && f.state == .scheduled) = true → f.go ≠ 0 →
    f.tick ≤ s.ck.tick → exec (.goRecordLateConfirm n) s = .next (s.tickFrames s.dueFrames)) ∧
  (∀ (s : State) (t : Nat), s.md.wakeCheck = some t → s.inMode .quiesce = true → t + 100 * milli ≤ s.ck.now →
    exec .wakeModeRecheck s = .next s.tryWake) ∧
  (∀ (s : State) (n : Nat),
    exec (.frameStatusExpiry n) s = .next (s.vk' fun v => { v with frames := v.frames.filter fun f =>
      !(f.id == n && (f.state == .applied || f.state == .aborted || f.state == .cancelled) && f.endAt + 3600 * second ≤ s.ck.now) }))

/-- R81 to R83, R94, R96, R644: C0h submits a packet of its own length and completes with the packet's tag; C1h hands over a held reply that
fits, or says how long it is; a packet of an open MG connection is taken in; a held reply lapses after 120 s and a confirmation code after
60 s; the attestation service answers a nonce of 32 bytes and closes. -/
def Obligations.WireCommandsComplete : Prop :=
  (∀ (s : State) (e : Sqe) (c : Ctrl) (u : State), Reaches s e c u → e.cdw10.toNat = e.data.length → e.data.length % 4 = 0 →
    e.data.length ≤ 1048576 → exec (.adminC0hSubmit e) s = .next ((u.nvDone e (fld e.data 8 4) []).wire (.nvme e.ctrl) e.data)) ∧
  (∀ (s : State) (e : Sqe) (c : Ctrl) (u : State), Reaches s e c u → (e.cdw10.toNat % 4 ≠ 0 ∨ 1048576 < e.cdw10.toNat ∨
    e.cdw10.toNat ≠ e.data.length) → exec (.adminC0hSubmit e) s = .next (u.nvEnd e nvBadField)) ∧
  (∀ (s : State) (e : Sqe) (c : Ctrl) (u : State) (h : HeldReply), Reaches s e c u →
    (u.vk.held.find? fun h => h.via == .nvme e.ctrl && (e.cdw11.toNat == 0xFFFFFFFF || h.rep.tag == e.cdw11.toNat)) = some h →
    h.rep.next.length ≤ e.cdw10.toNat →
    exec (.adminC1hFetch e) s = .next ((u.nvDone e h.rep.next.length h.rep.next).fetched h)) ∧
  (∀ (s : State) (e : Sqe) (c : Ctrl) (u : State) (h : HeldReply), Reaches s e c u →
    (u.vk.held.find? fun h => h.via == .nvme e.ctrl && (e.cdw11.toNat == 0xFFFFFFFF || h.rep.tag == e.cdw11.toNat)) = some h →
    e.cdw10.toNat < h.rep.next.length →
    exec (.adminC1hFetch e) s = .next (u.nvDone e (2 ^ 31 + h.rep.next.length) [])) ∧
  (∀ (s : State) (conn : Nat) (bs : Bytes), s.vk.mgConns.contains conn = true →
    exec (.mgVirkanPacket conn bs) s = .next (s.wire (.mg conn) bs)) ∧
  (∀ (s : State) (conn : Nat) (bs : Bytes), s.vk.attConns.contains conn = true → bs.length = 32 → s.md.stopped = false →
    s.md.halted = false → s.pw.sleep.isSome = false → (s.bt.inService || s.md.keyErased) = true → s.bt.attestKey = true →
    exec (.attestationServiceRequest conn bs) s = .next (((((s.attest bs).1.send
      (.attReply conn (le 4 (s.attest bs).2.length ++ (s.attest bs).2))).send (.mgClose conn)).vk' fun v => { v with
        attConns := v.attConns.erase conn }).stat 0x0D04 1 0 1)) ∧
  (∀ (s : State) (via : Transport) (ss tag : Nat) (h : HeldReply),
    (s.vk.held.find? fun h => h.via == via && h.rep.session == ss && h.rep.tag == tag && !h.rep.notice &&
      h.atNs + 120 * second ≤ s.ck.now) = some h → h.own = true → h.rep.status.final = true →
    exec (.virkanReplyExpiry via ss tag) s = .next ((s.vk' fun v => { v with held := v.held.erase h, discarded := v.discarded + 1 }).session' ss
      fun x => { x with outstanding := x.outstanding.erase tag })) ∧
  (∀ (s : State) (n : Nat), exec (.confirmCodeExpiry n) s = .next (s.session' n fun x => { x with
    confirm := x.confirm.filter fun (c : Confirm) => s.ck.now ≤ c.atNs + 60 * second }))

/-- R770, R773, R775 to R778: a request word enters the FIFO while it is not FULL; SB_REQ_CAP hands on a packet whose CRC-32C is right and
rewinds one whose CRC is wrong; SB_RSP_DATA gives up to three bytes; SB_RTC_LO latches SB_RTC_HI; 0x5A within 1 ms of 0xA5 resets; the
others act on their own bits.
R771; what MIPI I3C Basic gives and the spec does not print is the model's (log 22): the address codes assign, reset and change the dynamic
address; ENEC and DISEC set and clear in-band interrupts; the Get codes answer at a dynamic address. -/
def Obligations.SidebandComplete : Prop :=
  (∀ (s : State) (w : BitVec 32) (u : State), OnSideband s 0x100 u → u.reqFull = false → (u.sb.req.length + 4) % 4096 ≠ 0 →
    u.sb.req.length ≠ 1048576 → exec (.sbReqData w) s = .next (u.sb' fun b => { b with req := b.req ++ le 4 w.toNat }).judgeStatus) ∧
  (∀ (s : State) (w : BitVec 32) (u : State), OnSideband s 0x100 u → u.reqFull = true →
    exec (.sbReqData w) s = .next ((u.sb' fun b => { b with reqOverrun := true }).mbxFault 1).judgeStatus) ∧
  (∀ (s : State) (w : BitVec 32) (u : State), OnSideband s 0x108 u → u.sb.reqOverrun = false → crc32c (unpadded u.sb.req) = w →
    u.sb.req.length ≤ 1048576 → exec (.sbReqCap w) s = .next ((u.sb' fun b => { b with
      req := [], queued := b.queued ++ [unpadded u.sb.req]
      reqWptr := if u.sb.req.length % 4096 != 0 then grayNext b.reqWptr else b.reqWptr }).sbDrain).judgeStatus) ∧
  (∀ (s : State) (w : BitVec 32) (u : State), OnSideband s 0x108 u → crc32c (unpadded u.sb.req) ≠ w →
    exec (.sbReqCap w) s = .next (u.reqRewind.mbxFault 0).judgeStatus) ∧
  (∀ (s : State) (u : State), OnSideband s 0x110 u → u.sbLoad.sb.rsp = [] →
    exec .sbRspData s = .next (u.sbLoad.send (.sbRead 0)).judgeStatus) ∧
  (∀ (s : State) (u : State) (p : Bytes) (ps : List Bytes), OnSideband s 0x110 u → u.sbLoad.sb.rsp = p :: ps → 3 < p.length →
    exec .sbRspData s = .next ((u.sbLoad.send (.sbRead (BitVec.ofNat 32 (rdLe (p.take 3) + 2 ^ 24 * 3 + 2 ^ 31)))).sb' fun b => { b with
      rsp := p.drop 3 :: ps }).judgeStatus) ∧
  (∀ (s : State) (u : State), OnSideband s 0x010 u →
    exec .sbRtcLo s = .next ((u.sb' fun b => { b with rtcHi := BitVec.ofNat 32 (u.ck.rtc / 2 ^ 32) }).send
      (.sbRead (BitVec.ofNat 32 u.ck.rtc))).judgeStatus) ∧
  (∀ (s : State) (u : State), OnSideband s 0x024 u →
    exec (.sbSentinelReset 0xA5) s = .next (u.sb' fun b => { b with resetArm := some u.ck.now }).judgeStatus) ∧
  (∀ (s : State) (u : State) (t : Nat), OnSideband s 0x024 u → u.sb.resetArm = some t → u.ck.now ≤ t + milli →
    exec (.sbSentinelReset 0x5A) s = .next ((u.sb' fun b => { b with resetArm := none }).sentinelReset 0xF07 .notice 4).judgeStatus) ∧
  (∀ (s : State), exec .sentinelResetArmExpiry s = .next (s.sb' fun b => { b with resetArm := b.resetArm.filter fun t => s.ck.now ≤ t + milli })) ∧
  (∀ (s : State) (w : BitVec 32) (u : State), OnSideband s 0x028 u → w.getLsbD 0 = true →
    exec (.sbWake w) s = .next (u.latchWake 1).judgeStatus) ∧
  (∀ (s : State) (w : BitVec 32) (u : State), OnSideband s 0x02C u → w.getLsbD 0 = true → u.pw.padsHeld = true →
    exec (.sbPadRelease w) s = .next (u.releasePads.ev0 0xF09 .notice []).judgeStatus) ∧
  (∀ (s : State) (w : BitVec 32) (u : State), OnSideband s 0x038 u →
    exec (.sbIntStatus w) s = .next (u.sb' fun b => { b with intStatus := b.intStatus &&& ~~~w }).judgeStatus) ∧
  (∀ (s : State) (w : BitVec 32) (u : State), OnSideband s 0x110 u →
    exec (.sbMbxError w) s = .next (u.sb' fun b => { b with mbxError := b.mbxError &&& ~~~w }).judgeStatus) ∧
  (∀ (s : State) (w : BitVec 32) (u : State), OnSideband s 0x034 u →
    exec (.sbRegisterWrite 0x030 w) s = .next (u.sb' fun b => { b with intEn := w &&& 0xF }).judgeStatus) ∧
  (∀ (s : State) (off : Nat) (w : BitVec 32) (u : State), OnSideband s (off + 4) u → off ≠ 0x030 →
    exec (.sbRegisterWrite off w) s = .next u.judgeStatus) ∧
  (∀ (s : State) (a : Nat), s.pw.aonOk = true → s.sb.dynAddr = none →
    exec (.entdaa a) s = .next (s.sb' fun b => { b with dynAddr := some (b.dynAddr.getD (a % 128)) }) ∧
    exec (.setdasa a) s = .next (s.sb' fun b => { b with dynAddr := some (b.dynAddr.getD (a % 128)) })) ∧
  (∀ (s : State) (a x : Nat), s.pw.aonOk = true → s.sb.dynAddr = some x →
    exec (.setnewda a) s = .next (s.sb' fun b => { b with dynAddr := b.dynAddr.map fun _ => a % 128 })) ∧
  (∀ (s : State), s.pw.aonOk = true → exec .rstdaa s = .next (s.sb' fun b => { b with dynAddr := none })) ∧
  (∀ (s : State) (w : BitVec 8), s.pw.aonOk = true →
    exec (.enec w) s = .next (s.sb' fun b => { b with events := b.events ||| (w &&& 1) }) ∧
    exec (.disec w) s = .next (s.sb' fun b => { b with events := b.events &&& ~~~w })) ∧
  (∀ (s : State) (x : Nat), s.pw.aonOk = true → s.sb.dynAddr = some x →
    exec .getpid s = .next (s.send (.i3c (Config.i3cId 0))) ∧
    exec .getbcr s = .next (s.send (.i3c (Config.i3cId 1))) ∧
    exec .getdcr s = .next (s.send (.i3c (Config.i3cId 2))) ∧
    exec .getstatus s = .next (s.afterDraw.send (.i3c (s.drawn 2))) ∧
    exec .getmwl s = .next (s.send (.i3c (le 2 s.sb.mwl).reverse)) ∧
    exec .getmrl s = .next (s.send (.i3c (le 2 s.sb.mrl).reverse))) ∧
  (∀ (s : State) (n : BitVec 16), s.pw.aonOk = true →
    exec (.setmwl n) s = .next (s.sb' fun b => { b with mwl := n.toNat }) ∧
    exec (.setmrl n) s = .next (s.sb' fun b => { b with mrl := n.toNat }))

/-- R711, R712, R717 to R721, R725, R730: a report is taken in; the writer takes the reserved lane first, then the FIFO; a bucket's window
gives E001 after 1 s; a bucket gains a token each 1 / EVT_RATE s; each second the summaries are due and what was kept is offered again; a
notice goes out at 256 records or after 100 ms.
R98, R729, R740: EVT_SUBSCRIBE sets or ends the session's subscription; CTR_CLEAR zeroes the counters named, and no other; a diagnostic
answers with what the hardware gives, or sends its task and is answered when it is done. -/
def Obligations.EventsComplete : Prop :=
  (∀ (s : State) (r : Report0), exec (.eventReport r) s = .next (s.report { r with detail := fit 34 r.detail })) ∧
  (∀ (s : State) (r : Report0) (rest : List Report0), s.ev.lane = r :: rest →
    exec .eventWrite s = .next ((s.ev' fun v => { v with lane := rest }).writeRec r).laneFrees) ∧
  (∀ (s : State) (r : Report0) (rest : List Report0), s.ev.lane = [] → s.ev.fifo = r :: rest →
    exec .eventWrite s = .next ((s.ev' fun v => { v with fifo := rest }).writeRec r)) ∧
  (∀ (s : State) (code : Nat) (b : Bucket) (t : Nat), s.ev.buckets.find? (·.code == code) = some b → b.winOpen = some t →
    t + second ≤ s.ck.now →
    exec (.bucketWindowClose code) s = .next ((s.ev' fun v => { v with buckets := bucketPut v.buckets { b with
      winOpen := none, winCount := 0 } }).report ⟨1, b.winSev, 0x00, 0xFFFF, b.winCount,
        fit 34 (le 2 code ++ le 8 b.winFirst ++ le 8 b.winLast), s.stamp⟩)) ∧
  (∀ (s : State) (code : Nat) (b : Bucket), s.ev.buckets.find? (·.code == code) = some b → s.setting (0x09010000 + code) ≠ 0 →
    b.tokens ≠ s.setting (0x09020000 + code) → b.belowSince + second / s.setting (0x09010000 + code) ≤ s.ck.now →
    exec (.bucketRefill code) s = .next (s.ev' fun v => { v with buckets := bucketPut v.buckets { b with
      tokens := min (b.tokens + 1) (s.setting (0x09020000 + code))
      belowSince := b.belowSince + second / s.setting (0x09010000 + code) } })) ∧
  (∀ (s : State), s.ev.lastRetry + second ≤ s.ck.now →
    exec .dropSummaryTimer s = .next ((s.ev.kept.foldl State.intake (s.ev' fun v => { v with
      lastRetry := s.ck.now, kept := [] })).dropSummary).refusalSummary) ∧
  (∀ (s : State) (n : Nat) (x : Session) (b : Sub), s.vk.sessions.find? (·.handle == n) = some x → x.sub = some b → b.queue ≠ [] →
    (256 ≤ b.queue.length ∨ b.since + 100 * milli ≤ s.ck.now) → exec (.eventNoticeSend n) s = .next (s.sendNotice x)) ∧
  (∀ (s : State) (q : VReq) (u : State) (x : Session), Runs s 0x0902 q u → (q.num 1 0 ≤ 7 ∨ q.num 1 0 = 0xFF) →
    u.sessionOf q.via q.session = some x → (x.sub.any fun (b : Sub) => !b.queue.isEmpty) = false →
    exec (.evtSubscribe q) s = .next ((u.session' q.session fun y => { y with
      sub := if q.num 1 0 = 0xFF then none else some ⟨q.num 1 0, q.num 2 0, q.num 3 0xFFF, [], u.ck.now⟩ }).reply q 0x0902 .success [])) ∧
  (∀ (s : State) (q : VReq) (u : State), Runs s 0x0904 q u → (u.ctrBlocks (q.num 1 0) (q.num 2 0)).isNone = false →
    (ownerClears (q.num 1 0) = false ∨ ((u.sessionOf q.via q.session).any (·.priv == .owner)) = true) →
    ∃ v, exec (.ctrClear q) s = .next (v.reply q 0x0904 .success []) ∧ v = u.ct' (fun t => { t with vals := v.ct.vals }) ∧
      (∀ c ∈ v.ct.vals, c ∈ u.ct.vals) ∧
      (∀ c ∈ u.ct.vals, c ∈ v.ct.vals ↔ ¬(c.cls = q.num 1 0 ∧ (q.num 2 0 = 0xFFFFFFFF ∨ c.idx = q.num 2 0)))) ∧
  (∀ (s : State) (q : VReq) (t u : State) (l : Link), Runs s 0x0B01 q t → u = t.recoveryLink (q.num 1 0) → u.link? (q.num 1 0) = some l → l.state = .up →
    q.num 2 0 < l.dieCount → u.tasksAllowed = true → l.dieFree (q.num 2 0) = true → l.room 1 = true → l.erasing (q.num 2 0) = false →
    (u.md.recovery = true ∨ l.epoch = u.hiveEpoch l.hive) →
    exec (.diagDieRead q) s = .next ((u.replyTo (q.waiter 0x0B01) .pending []).sendTask (q.num 1 0) .read (q.num 2 0) (q.num 3 0 / 4096 % 65536) (q.num 3 0 % 4096) 1
      (.diag (q.waiter 0x0B01)) [] [])) ∧
  (∀ (s : State) (q : VReq) (t u : State) (l : Link), Runs s 0x0B02 q t → u = t.recoveryLink (q.num 1 0) → u.link? (q.num 1 0) = some l →
    (u.isBrood l.hive = true ∨ u.owns (.honey l.hive) = true) →
    exec (.diagLinkLoop q) s = .next (u.afterDraw.reply q 0x0B02 .success
      (le 4 (Config.diag 0 (q.num 1 0) u.drawnNat) ++ le 4 (Config.diag 0 (q.num 1 0) (u.drawnNat + 1))))) ∧
  (∀ (s : State) (q : VReq) (u : State), Runs s 0x0B03 q u → u.md.mode.any acceptsMode = false →
    exec (.diagSelftest q) s = .next (u.afterDraw.reply q 0x0B03 .success
      (((List.range 32).filter fun i => q.num 1 0xFFFFFFFF / 2 ^ i % 2 == 1).flatMap fun i => le 1 (Config.diag 1 i u.drawnNat)))) ∧
  (∀ (s : State) (q : VReq) (u : State), Runs s 0x0B04 q u →
    exec (.diagDump q) s = .next (u.afterDraw.reply q 0x0B04 .success (Config.dump (q.num 1 0) u.drawnNat)))

/-- R168, R178 to R180, R263: a confirmation confirms the record and every one of lower ordinal, and what it makes acceptable is accepted;
a checkpoint is written when it is due, at most one in 8 ms, and only where its flush ordinal reaches that of the slot it replaces; a
metadata flush runs where records were applied since the newest root head.
R192 to R200: a scrub visits the eight channels each 24 h; an uncorrectable error gives E241, and the seventeenth of a channel within a
second fails it, as one that comes of lost training does; a read and a write in the window pass through the cache; ZERO_LINE zeroes a line and allocates it. Outside the window an
access goes to DRAM; an address beyond the installed DRAM, which R189 does not give, faults (log 12). -/
def Obligations.WaxAndDramComplete : Prop :=
  (∀ (s : State) (o : Nat), s.pw.waxStopped = false → (s.wx.own.any (·.ordinal == o)) = true → s.running = true →
    exec (.waxRecordConfirmed o) s = .next ((s.wx' fun w => { w with own := w.own.map fun r =>
      if r.ordinal ≤ o && !r.torn then { r with localOk := true } else r }).settle.issueErases)) ∧
  (∀ (s : State), s.running = true → s.joining = false → (67108864 ≤ s.wx.sinceCkpt ∨ s.wx.ckptAt + second ≤ s.ck.now ∨ s.ownFree < 96 * 2 ^ 20) →
    s.wx.ckptAt + 8 * milli ≤ s.ck.now → s.slotOrd s.wx.nextSlot ≤ s.flushOrdinal →
    exec .checkpointDue s = .next s.writeCheckpoint.settle) ∧
  (∀ (s : State), s.running = true → s.flNext = none → s.metaHives ≠ [] → s.tasksAllowed = true → s.fl.covered < s.wx.lastApplied →
    exec .flushMetadata s = .next s.flush.settle) ∧
  (∀ (s : State), s.dr.trained = true → s.dr.selfRefresh = false → s.md.stopped = false → s.dr.scrubAt + 86400 * second ≤ s.ck.now →
    exec .dramScrub s = .next (((List.range 8).foldl State.scrubChannel s).dr' fun d => { d with scrubAt := s.ck.now })) ∧
  (∀ (s : State) (ch a : Nat) (u : State), ch < 8 → a < s.dramBytes → s.dr.trained = true → s.md.stopped = false → s.pw.sleep = none →
    u = (((s.ev0 0x241 .error (le 1 ch ++ le 8 a)).bump 0x0207 ch 0 1).dr' fun d => { d with
      uncorr := (d.uncorr.filter fun e => ((s.ev0 0x241 .error (le 1 ch ++ le 8 a)).bump 0x0207 ch 0 1).ck.now < e.2 + second) ++
        [(ch, ((s.ev0 0x241 .error (le 1 ch ++ le 8 a)).bump 0x0207 ch 0 1).ck.now)] }) →
    exec (.dramUncorrectable ch (some a)) s = .next (if 16 < (u.dr.uncorr.filter (·.1 == ch)).length then u.channelFailed ch
      else u.repairLine ch a)) ∧
  (∀ (s : State) (ch : Nat), ch < 8 → s.dr.trained = true → s.md.stopped = false → s.pw.sleep = none →
    exec (.dramUncorrectable ch none) s = .next (s.channelFailed ch)) ∧
  (∀ (s : State) (a : Nat) (d : Bytes), a < s.dramBytes → s.inWindow a = true → exec (.mapCacheAccess false a d) s = .next (s.cacheRead a)) ∧
  (∀ (s : State) (a : Nat) (d : Bytes), a < s.dramBytes → s.inWindow a = true →
    exec (.mapCacheAccess true a d) s = .next (s.cacheWrite a (d.take (256 - (a - s.mc.base) % 256)))) ∧
  (∀ (s : State) (a : Nat) (d : Bytes), a < s.dramBytes → s.inWindow a = false →
    exec (.mapCacheAccess true a d) s = .next (s.dramWrite a (d.take (256 - a % 256))) ∧
    exec (.mapCacheAccess false a d) s = .next (s.send (.cached false (memRead s.dr.mem (a / 256 * 256) 256)))) ∧
  (∀ (s : State) (a : Nat), a < s.dramBytes → s.inWindow a = true →
    exec (.zeroLine a) s = .next (
      match ((s.dramWrite (s.lineStart a) (zeros 256)).stat 0x0208 0 2 1).readLine (s.cacheAt a).1 (s.cacheAt a).2 with
      | (t, some _) => t.mc' fun m => m.setLine (s.cacheAt a).1 (s.cacheAt a).2 (zeros 256)
      | (t, none) => t.mc' fun m => m.alloc (s.cacheAt a).1 (s.cacheAt a).2 (zeros 256))) ∧
  (∀ (s : State) (a : Nat), a < s.dramBytes → s.inWindow a = false →
    exec (.zeroLine a) s = .next (s.dramWrite (a / 256 * 256) (zeros 256))) ∧
  (∀ (s : State) (a : Nat) (w : Bool) (d : Bytes), s.dramBytes ≤ a →
    exec (.mapCacheAccess w a d) s = .fault (.noSuchAddress a) ∧ exec (.zeroLine a) s = .fault (.noSuchAddress a))

/-- R122, R127, R131, R142: CHUNK_INGEST takes the byte stream of the record that is due: a write of whole namespace chunks is decided chunk
by chunk, zeros becoming a ZERO entry and other content the chunk that stands for it (a duplicate, or one stored as new); a put becomes
chunks and a manifest; the record of a domain without keys is only released.
R128, R129, R816: MERGE_COMMIT lays the write over the chunk and decides the result, or raises E332 where the chunk is lost. R139: the filter
rebuild begins and ends with E310. R144: the self-test runs every second while the head defers. R148: POST_PROCESS decides a deferred chunk.
R156 to R158: ENVELOPE_READ returns what passes the checks and heeds what its pages tell; an envelope that no rebuild makes sound is lost. -/
def Obligations.ReductionComplete : Prop :=
  (∀ (s : State) (o : Nat) (r : WaxRec), s.sources.find? (·.ordinal == o) = some r → s.mayIngest r = true →
    (s.keyRec r.domain).isNone = true →
    exec (.chunkIngest o) s = .next ((s.rd' fun x => { x with ingested := x.ingested ++ s.chainOf o }).flushMap.releaseDone [o])) ∧
  (∀ (s u : State) (o n off o' fl : Nat) (r : WaxRec) (data : Bytes), s.sources.find? (·.ordinal == o) = some r → s.mayIngest r = true →
    (s.keyRec r.domain).isNone = false → (s.sources.filter fun x => (s.chainOf o).contains x.ordinal) = [r] →
    u = (s.rd' fun x => { x with ingested := x.ingested ++ s.chainOf o }) →
    r.body = .acceptWrite n off o' fl data → (s.ns? n).isSome = true →
    exec (.chunkIngest o) s = .next ((u.ingestWrite o (o % s.lanes) r.domain n off data).flushMap.releaseDone [o])) ∧
  (∀ (s : State) (o l d n k : Nat) (data : Bytes), data.length = 16384 →
    s.ingestWrite o l d n (16384 * k) data = (if data.all (· == 0) then s.addPending [(o, .nsMap n k 0 true)]
      else (s.ingestChunk o l d data).1.addPending [(o, .nsMap n k (s.ingestChunk o l d data).2 false)])) ∧
  (∀ (s u t : State) (o l d : Nat) (data : Bytes) (r : Dup),
    u = (((s.laneKeeps (s.fingerprint d data)).stat 0x0301 l 0 1).stat 0x0302 d 0 data.length) → u.setting (0x03000001 + d * 0x100) ≠ 0 →
    u.defers = false → u.findDup d (s.fingerprint d data) data (u.inMode .distil) 0 = (t, r) →
    (∀ c, r = .same c → s.ingestChunk o l d data = (t.stat 0x0303 d 0 1, c)) ∧
    (∀ c, r = .restore c → s.ingestChunk o l d data = (t.storeAs o l d c data (s.fingerprint d data) ⟨false, false, false⟩, c)) ∧
    (r = .fresh [] → s.ingestChunk o l d data = t.storeNew o l d data (s.fingerprint d data) ⟨false, false, false⟩ false) ∧
    (r = .fault → s.ingestChunk o l d data = t.storeNew o l d data (s.fingerprint d data) ⟨false, false, false⟩ false) ∧
    (r = .later → s.ingestChunk o l d data = t.storeNew o l d data (s.fingerprint d data) ⟨false, true, true⟩ false)) ∧
  (∀ (s u : State) (o : Nat) (r : WaxRec) (d : PutDesc) (data : Bytes), s.sources.find? (·.ordinal == o) = some r → s.mayIngest r = true →
    (s.keyRec r.domain).isNone = false → (s.sources.filter fun x => (s.chainOf o).contains x.ordinal) = [r] →
    u = (s.rd' fun x => { x with ingested := x.ingested ++ s.chainOf o }) →
    r.body = .acceptPut d data → d.abort = false →
    exec (.chunkIngest o) s = .next ((u.ingestPut o (o % s.lanes) d data).flushMap.releaseDone [o])) ∧
  (∀ (s t w : State) (c : Nat) (d e : Deferred) (b : Bytes) (r : Dup), ((s.rd.deferred.filter fun d => s.owns (.domain d.domain) && (s.chunk? d.chunk).any fun c => c.state == .stored).find?
      (·.chunk == c)) = some d → (s.md.mode.any fun m => acceptsMode m && m != .surge && m != .mend) = true → s.defers = false →
    ((s.rd.deferred.filter fun d => s.owns (.domain d.domain) && (s.chunk? d.chunk).any fun c => c.state == .stored).any
      (·.chunk < c)) = false → s.chunkBytes c = (t, .bytes b) →
    e = { d with fp := t.fingerprint d.domain b } → t.setting (0x03000001 + d.domain * 256) ≠ 0 →
    t.findDup d.domain e.fp b (t.compareMark e || t.inMode .distil) c = (w, r) →
    (∀ x, r = .same x → w.placed x = true → exec (.postProcess c) s =
      .next (((w.refChange d.domain [⟨x, 1⟩]).mapChange d.domain [.chunkAlias c d.domain x] []).stat 0x0304 d.domain 0 1)) ∧
    (∀ x, r = .same x → w.placed x = false → exec (.postProcess c) s = .next w) ∧
    (r = .later → exec (.postProcess c) s = .next w) ∧
    (∀ l, r = .fresh l → exec (.postProcess c) s = .next ((w.keepChunk e !l.isEmpty).clashes d.domain c l)) ∧
    (∀ x, r = .restore x → exec (.postProcess c) s = .next (w.keepChunk e false)) ∧
    (r = .fault → exec (.postProcess c) s = .next (w.keepChunk e false))) ∧
  (∀ (s t : State) (c : Nat) (d : Deferred) (b : Bytes), ((s.rd.deferred.filter fun d => s.owns (.domain d.domain) && (s.chunk? d.chunk).any fun c => c.state == .stored).find?
      (·.chunk == c)) = some d → (s.md.mode.any fun m => acceptsMode m && m != .surge && m != .mend) = true → s.defers = false →
    ((s.rd.deferred.filter fun d => s.owns (.domain d.domain) && (s.chunk? d.chunk).any fun c => c.state == .stored).any
      (·.chunk < c)) = false → s.chunkBytes c = (t, .bytes b) →
    t.setting (0x03000001 + d.domain * 256) = 0 →
    exec (.postProcess c) s = .next (t.keepChunk { d with fp := t.fingerprint d.domain b } false)) ∧
  (∀ (s : State), s.rd.filterNew = none → s.rd.filterReady = false →
    exec .filterRebuild s = .next ((s.rd' fun r => { r with filterNew := some [], filterNewBlocks := s.filterSize }).ev0 0x310 .notice [0#8])) ∧
  (∀ (s : State) (f : List (Nat × BitVec 512)), s.rd.filterNew = some f →
    exec .filterRebuild s = .next ((s.rd' fun r => { r with
      filter := s.rd.fps.foldl (fun g e => filterAdd g (filterBlock s.rd.filterNewBlocks e.fp) (filterMask e.fp)) f,
      filterBlocks := s.rd.filterNewBlocks, filterNew := none, filterReady := true }).ev0 0x310 .notice [1#8])) ∧
  (∀ (s t v : State) (n k : Nat) (m : Merge) (x : Namespace) (b : Bytes), ((s.rd.merges.filter fun m => m.nsid == n && m.k == k).sortBy fun a b => keyOrder a.ordinal ≤ keyOrder b.ordinal).head? = some m →
    s.ns? n = some x → (s.sources.any fun r => keyOrder r.ordinal < keyOrder m.ordinal && r.live && r.body.isData &&
      !s.rd.ingested.contains r.ordinal && (r.span.map (spansMeet (n, k, k + 1))).getD false) = false →
    (if s.entryBefore n k m.ordinal = 0 then (s, BlockRead.bytes (zeros 16384)) else s.chunkBytes (s.entryBefore n k m.ordinal)) = (t, .bytes b) →
    v = ((t.rd' fun r => { r with merges := r.merges.erase m }).keepGather fun g => g.merge != some (n, k) ||
      t.rd.merges.any fun x => x.nsid == n && x.k == k && x.ordinal != m.ordinal && x.dark) →
    exec (.mergeCommit n k) s = .next ((v.ingestBlock m.ordinal (m.ordinal % t.lanes) x.domain n k
      (t.writeOver n k m.ordinal (fit 16384 b))).flushMap.releaseDone [m.ordinal])) ∧
  (∀ (s t v : State) (n k : Nat) (m : Merge) (x : Namespace), ((s.rd.merges.filter fun m => m.nsid == n && m.k == k).sortBy fun a b => keyOrder a.ordinal ≤ keyOrder b.ordinal).head? = some m →
    s.ns? n = some x → (s.sources.any fun r => keyOrder r.ordinal < keyOrder m.ordinal && r.live && r.body.isData &&
      !s.rd.ingested.contains r.ordinal && (r.span.map (spansMeet (n, k, k + 1))).getD false) = false →
    s.entryBefore n k m.ordinal ≠ 0 → s.chunkBytes (s.entryBefore n k m.ordinal) = (t, .lost) →
    v = ((t.rd' fun r => { r with merges := r.merges.erase m }).keepGather fun g => g.merge != some (n, k) ||
      t.rd.merges.any fun x => x.nsid == n && x.k == k && x.ordinal != m.ordinal && x.dark) →
    exec (.mergeCommit n k) s = .next ((v.event 0x332 .critical x.domain (le 6 (s.entryBefore n k m.ordinal) ++ le 4 n ++
      le 8 (t.writeSpan n k m.ordinal).1 ++ le 4 (t.writeSpan n k m.ordinal).2)).flushMap.releaseDone [m.ordinal])) ∧
  (∀ (s t : State) (n k h : Nat) (m : Merge) (x : Namespace), ((s.rd.merges.filter fun m => m.nsid == n && m.k == k).sortBy fun a b => keyOrder a.ordinal ≤ keyOrder b.ordinal).head? = some m →
    s.ns? n = some x → (s.sources.any fun r => keyOrder r.ordinal < keyOrder m.ordinal && r.live && r.body.isData &&
      !s.rd.ingested.contains r.ordinal && (r.span.map (spansMeet (n, k, k + 1))).getD false) = false →
    s.entryBefore n k m.ordinal ≠ 0 → s.chunkBytes (s.entryBefore n k m.ordinal) = (t, .dark h) →
    exec (.mergeCommit n k) s = .next (t.waitMerge n k m.ordinal h)) ∧
  (∀ (s u v : State) (i : Nat) (c : Chunk) (t : Stripe), s.chunk? (s.target i) = some c → c.state = .stored →
    (s.hive? c.hive).any Hive.serves = true → (s.domain? c.domain).any (·.keysErased) = false →
    u = (if s.readable c.hive then s.heed c.hive else s) → u.stripe? c.place.ordinal = some t → u.readWaits t c.place.off c.len = false →
    u.overErases t (dedupBy ((u.pagesFor t (envPages t.region c.place.off c.len)).map (·.1))) = some v → v.stripe? c.place.ordinal = some t →
    (∀ b, (v.envBytes t [] c.place.off c.len).bind (v.openEnvelope c.domain c.id) = some b →
      v.failsWhole t [] (envPages t.region c.place.off c.len) = [] →
      ((envPages t.region c.place.off c.len).all fun p => (v.rawPage t p.1 p.2).isSome) = true →
      (s.chunkBytes i).2 = .bytes b ∧ exec (.envelopeRead i) s = .next (v.heedPages t (v.pagesFor t (envPages t.region c.place.off c.len)))) ∧
    (∀ w, (v.envBytes t [] c.place.off c.len).bind (v.openEnvelope c.domain c.id) = none →
      w = ((v.event 0x330 .error c.domain (le 6 c.id ++ le 6 t.ord)).bump 0x0309 0 0 1) →
      ((tries (dedupBy ((envPages t.region c.place.off c.len).map (·.1)))).findSome? fun out =>
        (v.envBytes t out c.place.off c.len).bind (v.openEnvelope c.domain c.id)) = none →
      (w.ks.recs.find? (·.domain == c.domain)).isNone = false →
      exec (.envelopeRead i) s = .next (((w.loseChunk t.ord t.hive c).scheduleRewrite t.ord).heedPages t
        (v.pagesFor t (envPages t.region c.place.off c.len))))) ∧
  (∀ (s : State) (t : Nat), s.rd.cmpDefer = some t → t + second ≤ s.ck.now → s.se.cmpBusy ≠ 1 → s.se.cmpBusy ≠ 2 →
    exec .compareSelftestRetry s = .next (s.beginSelfTest.rd' fun r => { r with cmpDefer := some s.ck.now }))

/-- R671, R674, R678, R683 to R685, R690: a request takes the next number, is counted and taken on; a message that has run writes its output
and leaves its pipe to the next; a suspended message becomes urgent; a record is fetched on chip; the compare unit compares, tests itself,
and gives MATCH or MISMATCH once. -/
def Obligations.SealComplete : Prop :=
  (∀ (s : State) (r : SealReq), r.op = .xtsEnc →
    exec (.sealRequest r) s = .next (((s.se' fun v => { v with nextId := v.nextId + 1 }).stat 0x0101 (1 + 65536 * r.cls) 0 1).takeMsg
      { id := s.se.nextId, req := r, doneBytes := 0, started := 0, urgent := false, urgentOrd := 0, suspAt := 0, status := none
        waitKey := false, slotAt := none, key := [] })) ∧
  (∀ (s : State) (r : SealReq), r.op = .cmacVerify →
    exec (.sealRequest r) s = .next (((s.se' fun v => { v with nextId := v.nextId + 1 }).stat 0x0101 (4 + 65536 * r.cls) 0 1).takeMsg
      { id := s.se.nextId, req := r, doneBytes := 0, started := 0, urgent := false, urgentOrd := 0, suspAt := 0, status := none
        waitKey := false, slotAt := none, key := [] })) ∧
  (∀ (s : State) (m : SealMsg), m.req.bad = false → m.req.keyClass ≠ 6 → s.handleKey m.req = none → s.takeMsg m = s.endMsg m 2) ∧
  (∀ (s : State) (n : Nat) (m : SealMsg), ((s.se.xts ++ s.se.cmac).filterMap (fun p => p)).find? (·.id == n) = some m →
    m.req.op = .xtsEnc →
    exec (.sealMessageDone n) s = .next ((((((s.se' fun v => v.setPipes true (swapPipe (· == some m) none (v.pipes true))).sealOutput m).1.stat
      0x0102 1 0 m.req.len).endMsg { m with doneBytes := m.req.len } 0).refillPipe true))) ∧
  (∀ (s : State) (n : Nat) (m : SealMsg), (s.se.slots.find? fun m => m.id == n && !m.urgent) = some m →
    ((s.se.pipes m.req.op.isXts).filterMap fun p => p.filter (!·.urgent)) = [] →
    exec (.sealUrgent n) s = .next (s.se' fun v => { v with
      startOrd := v.startOrd + 1
      slots := v.slots.map fun a => if a == m then { m with urgent := true, urgentOrd := s.se.startOrd } else a })) ∧
  (∀ (s : State) (d : Nat) (r : DomainKeys), s.ks.recs.find? (·.domain == d) = some r → r.onChip = true →
    exec (.domainKeyFetch d) s = .next ((s.se.queue.filter fun m => m.waitKey && m.req.keyIndex == d).foldl State.takeMsg
      (s.se' fun v => { v with queue := v.queue.filter fun m => !(m.waitKey && m.req.keyIndex == d) }))) ∧
  (∀ (s : State) (d : Nat) (r : DomainKeys), s.ks.recs.find? (·.domain == d) = some r → r.onChip = false → r.dramBad = false →
    exec (.domainKeyFetch d) s = .next ((s.se.queue.filter fun m => m.waitKey && m.req.keyIndex == d).foldl State.takeMsg
      ((((s.se' fun v => { v with queue := v.queue.filter fun m => !(m.waitKey && m.req.keyIndex == d) }).ks' fun k => { k with
        recs := updFirst (·.domain == d) (fun x => { x with onChip := true, dramBad := false, lastUse := s.ck.now }) k.recs }).stat
          0x0107 0 0 1).evictKeys d))) ∧
  (∀ (s : State), s.se.cmpBusy ≠ 1 → s.se.cmpBusy ≠ 2 → exec .cmpGoCompare s = .next (s.se' fun v => { v with
    cmpBusy := 1, cmpStatus := 1#32, cmpResult := 0, cmpSerial := ((v.lanes[v.cmpLane.toNat % 16]?).map (·.serial)).getD 0 })) ∧
  (∀ (s : State), s.se.cmpBusy ≠ 1 → s.se.cmpBusy ≠ 2 → exec .cmpGoSelfTest s = .next s.beginSelfTest) ∧
  (∀ (s : State) (l : LaneSt), s.se.cmpBusy = 1 → s.se.lanes[s.se.cmpLane.toNat % 16]? = some l → l.serial = s.se.cmpSerial →
    (fit 32 l.fp == s.bytesAt (s.se.cmpLo.toNat + s.se.cmpHi.toNat * 2 ^ 32) 32) = true →
    exec (.compareDone false) s = .next (((s.stat 0x0106 0 0 1).stat 0x0106 0 1 1).se' fun v => { v with
      cmpBusy := 3, cmpStatus := 2#32, cmpResult := 0xC33C#32 })) ∧
  (∀ (s : State) (l : LaneSt), s.se.cmpBusy = 1 → s.se.lanes[s.se.cmpLane.toNat % 16]? = some l → l.serial = s.se.cmpSerial →
    (fit 32 l.fp == s.bytesAt (s.se.cmpLo.toNat + s.se.cmpHi.toNat * 2 ^ 32) 32) = false →
    exec (.compareDone false) s = .next ((s.stat 0x0106 0 0 1).se' fun v => { v with
      cmpBusy := 3, cmpStatus := 2#32, cmpResult := 0x6996#32 })) ∧
  (∀ (s : State), s.se.cmpBusy = 2 → exec (.selfTestDone true) s = .next ((s.se' fun v => { v with cmpBusy := 0, cmpStatus := 0x12#32 }).rd'
    fun r => { r with cmpDefer := none })) ∧
  (∀ (s : State), s.se.cmpBusy = 2 → exec (.selfTestDone false) s = .next ((s.se' fun v => { v with
    cmpBusy := 0, cmpStatus := 0x02#32 }).ev0 0x111 .error [])) ∧
  (∀ (s : State), s.se.cmpBusy = 3 → (s.se.cmpResult = 0xC33C#32 ∨ s.se.cmpResult = 0x6996#32) →
    exec .cmpResult s = .next ((s.send (.cmp (s.se.cmpResult == 0xC33C#32))).se' fun v => { v with
      cmpResult := 0, cmpBusy := if v.cmpBusy = 3 then 0 else v.cmpBusy })) ∧
  (∀ (s : State) (w : BitVec 32),
    exec (.digestRegisterWrite 0 w) s = .next (s.se' fun v => { v with cmpLane := w &&& 0xF#32 }) ∧
    exec (.digestRegisterWrite 4 w) s = .next (s.se' fun v => { v with cmpLo := w &&& 0xFFFFFFE0#32 }) ∧
    exec (.digestRegisterWrite 8 w) s = .next (s.se' fun v => { v with cmpHi := w }))

/-- R390 to R398, R424: a connection is accepted below the limit and reset at it; ICReq is answered with the digests asked for; a fatal error
ends the connection; data under an R2T is appended in sequence; Connect makes a controller of the first free ID; Keep Alive restarts the
timer, and the timeout ends the association. -/
def Obligations.NvmeConnectionsComplete : Prop :=
  (∀ (s : State) (fp odd : Nat), s.md.stopped = false → s.md.halted = false → s.pw.sleep = none → s.md.recovery = false → s.md.keyErased = false →
    s.nv.conns.length < 16384 → s.fabricOn fp odd = true →
    exec (.tcpConnectionRequest .nvme (fp, odd)) s = .next (((s.nv' fun n => { n with conns := n.conns ++
      [⟨s.nextConn, false, fp, .open, false, false, 0, 0, none, 0, 0⟩] }).stat 0x0805 0 0 1).send
        (.tcpAccept s.nextConn))) ∧
  (∀ (s : State) (conn hpda r2t : Nat) (h d : Bool) (c : Conn), s.nv.conns.find? (·.id == conn) = some c → (c.state == .ready) = false →
    hpda ≤ 31 → exec (.icreq conn 0 hpda h d r2t) s = .next ((s.nv' fun n => { n with
      conns := updFirst (·.id == conn) (fun c => { c with state := .ready, hdgst := h, ddgst := d, hpda := hpda, maxR2t := r2t }) n.conns }).send
        (.icResp conn h d))) ∧
  (∀ (s : State) (conn hpda r2t pfv : Nat) (h d : Bool) (c : Conn), s.nv.conns.find? (·.id == conn) = some c →
    (c.state == .ready) = false → (pfv ≠ 0 ∨ 31 < hpda) → exec (.icreq conn pfv hpda h d r2t) s = .next (s.fatalConn conn 6)) ∧
  (∀ (s : State) (conn : Nat), s.nv.conns.any (·.id == conn) = true →
    exec (.fatalTransportError conn 3) s = .next ((s.bump 0x0806 conn 0 1).fatalConn conn 3) ∧
    exec (.fatalTransportError conn 2) s = .next (s.fatalConn conn 2)) ∧
  (∀ (s : State) (conn cid off : Nat) (data got : Bytes) (c : Conn) (k n o len : Nat) (h : HostCmd),
    s.nv.conns.find? (·.id == conn) = some c → c.ctrl = some k → s.cmd? k c.qid cid = some h → h.kind = .writeData n o len got →
    off = got.length → data ≠ [] → got.length + data.length < len → data.length ≤ 131072 →
    exec (.h2cdata conn cid off data true) s = .next (s.cmd' h.ctrl h.qid h.cid fun x => { x with kind := .writeData n o len (got ++ data) })) ∧
  (∀ (s : State) (conn cid off : Nat) (data got : Bytes) (c : Conn) (k n o len : Nat) (h : HostCmd),
    s.nv.conns.find? (·.id == conn) = some c → c.ctrl = some k → s.cmd? k c.qid cid = some h → h.kind = .writeData n o len got →
    exec (.h2cdata conn cid off data false) s = .next ((s.bump 0x0806 conn 1 1).failStream h.ctrl h.qid h.cid h.stream nvTransport)) ∧
  (∀ (s : State) (conn : Nat), s.nv.conns.any (·.id == conn) = true →
    exec (.tcpConnectionEnd conn) s = .next (s.endConn conn) ∧
    exec (.tcpRetransmissionTimeout conn) s = .next (s.send (.tcpResend conn))) ∧
  (∀ (s : State) (conn : Nat), s.nv.conns.any (·.id == conn) = false →
    exec (.tcpConnectionEnd conn) s = .next ((s.closeVia (.mg conn)).vk' fun v => { v with
      mgConns := v.mgConns.filter (· != conn), attConns := v.attConns.filter (· != conn) })) ∧
  (∀ (s : State) (x : NvConnect) (c : Conn) (id : Nat), s.nv.conns.find? (·.id == x.conn) = some c → (c.state == .ready) = true →
    c.ctrl = none → c.disc = false → (x.subnqn == s.subnqn) = true → x.qid = 0 → x.cntlid = 0xFFFF → 5000 ≤ x.kato → x.kato ≤ 120000 →
    s.knownHost x.nqn = true → x.sqsize ≤ 127 → s.nv.ctrls.length < 1024 → s.freeCtrl = some id →
    exec (.connect x) s = .next (((s.nv' fun n => { n with ctrls := n.ctrls ++
      [⟨id, x.nqn, x.kato, s.ck.now, [], false, false, freshAer, []⟩] }).bindConn x.conn id 0).cqe 0 0 x.cid 0 0 false
        (BitVec.ofNat 32 id) [])) ∧
  (∀ (s : State) (e : Sqe) (c : Ctrl) (u : State), Reaches s e c u →
    exec (.keepAlive e) s = .next ((u.ctrl' c.id fun c => { c with kaAt := u.ck.now }).nvDone e 0 [])) ∧
  (∀ (s : State) (k : Nat) (c : Ctrl), s.ctrl? k = some c → c.kaAt + c.kato * milli ≤ s.ck.now →
    exec (.keepAliveTimeout k) s = .next ((s.ev0 0x805 .warn (le 2 k)).endAssoc k))

/-- R388, R400, R402, R408, R411, R425 to R427, R731: Identify, Get Log Page, Set and Get Features, an asynchronous event request, Abort,
the directives, and a command outside the supported set. -/
def Obligations.NvmeAdminComplete : Prop :=
  (∀ (s : State) (e : Sqe) (c : Ctrl) (u : State), Reaches s e c u → e.cdw10.toNat % 256 = 1 →
    exec (.identify e) s = .next (u.nvDone e 0 (u.idCtrl c))) ∧
  (∀ (s : State) (e : Sqe) (c : Ctrl) (u : State) (n : Namespace), Reaches s e c u → e.cdw10.toNat % 256 = 0 → c.discovery = false →
    u.nsOf c e.nsid = some n → exec (.identify e) s = .next (u.nvDone e 0 (u.idNs n))) ∧
  (∀ (s : State) (e : Sqe) (c : Ctrl) (u : State), Reaches s e c u → c.discovery = false → e.cdw10.toNat % 256 = 0x02 → e.cdw10.getLsbD 15 = false →
    exec (.getLogPage e) s = .next ((u.ctrl' c.id fun x => { x with aer := { x.aer with smartMasked := false } }).nvDone e 0
      (logSlice e (u.logSmart c)))) ∧
  (∀ (s : State) (e : Sqe) (c : Ctrl) (u : State), Reaches s e c u → e.cdw10.toNat % 256 = 0x07 →
    exec (.setFeatures e) s = .next (u.nvDone e (63 + 63 * 65536) []) ∧ exec (.getFeatures e) s = .next (u.nvDone e (63 + 63 * 65536) [])) ∧
  (∀ (s : State) (e : Sqe) (c : Ctrl) (u : State), Reaches s e c u → e.cdw10.toNat % 256 = 0x0F → 5000 ≤ e.cdw11.toNat → e.cdw11.toNat ≤ 120000 →
    exec (.setFeatures e) s = .next ((u.ctrl' c.id fun x => { x with kato := e.cdw11.toNat, kaAt := u.ck.now }).nvDone e 0 [])) ∧
  (∀ (s : State) (e : Sqe) (c : Ctrl) (u : State), Reaches s e c u → e.cdw10.toNat % 256 = 0xC0 →
    exec (.setFeatures e) s = .next ((u.ctrl' c.id fun x => { x with aer := { x.aer with evFeature := e.cdw11 &&& 7 } }).nvDone e 0 []) ∧
    exec (.getFeatures e) s = .next (u.nvDone e c.aer.evFeature.toNat [])) ∧
  (∀ (s : State) (e : Sqe) (c : Ctrl) (u : State), Reaches s e c u → c.aer.held.length < 8 →
    exec (.asynchronousEventRequest e) s = .next (u.ctrl' c.id fun x => { x with aer := { x.aer with held := x.aer.held ++ [e.cid] } }).aerPump) ∧
  (∀ (s : State) (e : Sqe) (c : Ctrl) (u : State), Reaches s e c u → 8 ≤ c.aer.held.length →
    exec (.asynchronousEventRequest e) s = .next (u.nvEnd e (1, 0x05, true))) ∧
  (∀ (s : State) (e : Sqe) (c : Ctrl) (u : State) (h : HostCmd) (n a b : Nat), Reaches s e c u → e.cdw10.toNat % 65536 ≠ 0 →
    u.cmd? c.id (e.cdw10.toNat % 65536) (e.cdw10.toNat / 65536) = some h → h.kind = .read n a b →
    exec (.abort e) s = .next ((u.abortCmd h).nvDone e 0 [])) ∧
  (∀ (s : State) (e : Sqe) (c : Ctrl) (u : State), Reaches s e c u → e.cdw10.toNat % 65536 ≠ 0 →
    u.cmd? c.id (e.cdw10.toNat % 65536) (e.cdw10.toNat / 65536) = none → exec (.abort e) s = .next (u.nvDone e 1 [])) ∧
  (∀ (s : State) (e : Sqe) (c : Ctrl) (u : State), Reaches s e c u → e.cdw11.toNat / 256 % 256 = 0 → e.cdw11.toNat % 256 = 1 →
    e.cdw12.toNat / 256 % 256 = 0x0F →
    exec (.directiveSend e) s = .next ((u.ctrl' c.id fun x => { x with orderedWrite := e.cdw12.getLsbD 0 }).nvDone e 0 [])) ∧
  (∀ (s : State) (e : Sqe) (c : Ctrl) (u : State), Reaches s e c u → e.cdw11.toNat % 65536 = 1 →
    exec (.directiveReceive e) s = .next (u.nvDone e 0 (fit (4 * (e.cdw10.toNat + 1)) (layOut 4096
      [(0, le 2 0x8001), (32, le 2 (if c.orderedWrite then 0x8001 else 1))])))) ∧
  (∀ (s : State) (e : Sqe) (c : Ctrl) (u : State), Reaches s e c u → e.qid = 0 → supportedAdmin.contains e.opc = false →
    exec (.unsupportedCommand e) s = .next (u.nvEnd e nvBadOpcode)) ∧
  (∀ (s : State) (e : Sqe) (c : Ctrl) (u : State), Reaches s e c u → e.qid ≠ 0 → supportedIo.contains e.opc = true →
    exec (.unsupportedCommand e) s = .next (u.nvEnd e nvBadField))

/-- R32, R399, R403 to R407, R414, R417: a read of a namespace on this head's path reads its range; a write that its checks let pass joins the
commands and is admitted when nothing holds it, or is refused with the status of its first failing check; Flush completes at once;
deallocation without zeroing is a hint; a held command is tried again. -/
def Obligations.NvmeIoComplete : Prop :=
  (∀ (s : State) (e : Sqe) (c : Ctrl) (u : State) (n : Namespace) (slba nlb : Nat), Reaches s e c u →
    slba = e.cdw10.toNat + e.cdw11.toNat * 2 ^ 32 → nlb = e.cdw12.toNat % 65536 + 1 → u.nsOf c e.nsid = some n →
    (slba + nlb) * 4096 ≤ n.size → nlb ≤ 256 → u.pathStatus n.domain = none →
    exec (.nvmeRead e) s = .next (u.tryRead e.ctrl e.qid e.cid n.nsid slba nlb (some (if e.cdw12.getLsbD 31 then 0 else u.patience n.domain)))) ∧
  (∀ (s : State) (e : Sqe) (c : Ctrl) (u : State) (n : Namespace) (slba nlb : Nat), Reaches s e c u →
    slba = e.cdw10.toNat + e.cdw11.toNat * 2 ^ 32 → nlb = e.cdw12.toNat % 65536 + 1 → u.nsOf c e.nsid = some n →
    n.size < (slba + nlb) * 4096 → exec (.nvmeRead e) s = .next (u.nvEnd e nvRange)) ∧
  (∀ (s : State) (e : Sqe) (c : Ctrl) (u t : State) (n : Namespace) (off : Nat) (h : HostCmd), Reaches s e c u →
    off = 4096 * (e.cdw10.toNat + e.cdw11.toNat * 2 ^ 32) → u.nsOf c e.nsid = some n → e.cdw12.toNat / 2 ^ 20 % 16 = 0 →
    e.data.length = 4096 * (e.cdw12.toNat % 65536 + 1) → u.writeCheck n off e.data.length = none →
    t = u.nv' (fun v => { v with cmds := v.cmds ++ [⟨e.ctrl, e.qid, e.cid, .write n.nsid off e.data false, none, u.ck.now, 0, none⟩] }) →
    t.cmd? e.ctrl e.qid e.cid = some h → exec (.nvmeWrite e) s = .next (t.admitBlock h)) ∧
  (∀ (s : State) (e : Sqe) (c : Ctrl) (u : State) (n : Namespace) (st : NvStatus), Reaches s e c u →
    u.nsOf c e.nsid = some n → e.cdw12.toNat / 2 ^ 20 % 16 = 0 →
    u.writeCheck n (4096 * (e.cdw10.toNat + e.cdw11.toNat * 2 ^ 32)) (4096 * (e.cdw12.toNat % 65536 + 1)) = some st →
    exec (.nvmeWrite e) s = .next (u.failStream e.ctrl e.qid e.cid none st) ∧
    exec (.writeZeroes e) s = .next (u.failStream e.ctrl e.qid e.cid none st)) ∧
  (∀ (s : State) (e : Sqe) (c : Ctrl) (u t : State) (n : Namespace) (off len : Nat) (h : HostCmd), Reaches s e c u →
    off = 4096 * (e.cdw10.toNat + e.cdw11.toNat * 2 ^ 32) → len = 4096 * (e.cdw12.toNat % 65536 + 1) → (zeros len).length = len →
    u.nsOf c e.nsid = some n → e.cdw12.toNat / 2 ^ 20 % 16 = 0 → u.writeCheck n off len = none →
    t = u.nv' (fun v => { v with cmds := v.cmds ++ [⟨e.ctrl, e.qid, e.cid, .write n.nsid off (zeros len) true, none, u.ck.now, 0, none⟩] }) →
    t.cmd? e.ctrl e.qid e.cid = some h → exec (.writeZeroes e) s = .next (t.admitBlock h)) ∧
  (∀ (s : State) (e : Sqe) (c : Ctrl) (u : State), Reaches s e c u → exec (.flush e) s = .next (u.nvDone e 0 [])) ∧
  (∀ (s : State) (e : Sqe) (c : Ctrl) (u : State) (n : Namespace), Reaches s e c u → u.nsOf c e.nsid = some n → e.cdw11.getLsbD 2 = true →
    ((dsmRanges e.data (e.cdw10.toNat % 256 + 1)).any fun r => 4096 * (r.1 + r.2) > n.size) = false → n.discard = .hint →
    u.pathStatus n.domain = none → u.readOnly n.domain = false →
    exec (.datasetManagement e) s = .next ((u.nvDone e 0 []).hint n (dsmRanges e.data (e.cdw10.toNat % 256 + 1)))) ∧
  (∀ (s : State) (k q i n off : Nat) (data : Bytes) (z : Bool) (h : HostCmd), s.cmd? k q i = some h → h.kind = .write n off data z →
    exec (.acceptanceResume k q i) s = .next ((s.admitBlock h).admitStream h.stream)) ∧
  (∀ (s : State) (k q i : Nat) (d : PutDesc) (data : Bytes) (h : HostCmd), s.cmd? k q i = some h → h.kind = .put d data →
    exec (.acceptanceResume k q i) s = .next (s.admitPut h)) ∧
  (∀ (s : State) (k q i : Nat) (e : Sqe) (h : HostCmd), s.cmd? k q i = some h → h.kind = .loc e → e.opc = 0x86 → e.cdw5.getLsbD 0 = true →
    h.deadline ≤ s.ck.now → exec (.locStatPatienceExpiry k q i) s = .next (s.failCmd k q i locPending.1 locPending.2.1 locPending.2.2))

/-- R440 to R454: LOC_PUT and LOC_PUT_PART, with all their data in the capsule and no stream, write the ACCEPT_PUT records whose acceptance
completes them; a repeat whose bytes are those of the original completes at once with Dword 0 of 1, one that differs in length or bytes
ends with TOKEN_CONFLICT; a put whose descriptor has not come is asked for it.
R299, R442 to R444, R458 to R470: a command that presents a locator of an object which is not released: LOC_GET returns the bytes of its
range, ends with Unrecovered Read Error where one is lost, and joins the gather lists of the dark hives it needs; LOC_STAT answers the
status block; LOC_REFRESH answers it, and writes LEDGER_DROP where the locator was resolved by the ledger and Dword 5 [0] is 0; LOC_RELEASE
and LOC_SEAL write OBJECT_STATE, whose acceptance completes them, or end with the status of what forbids it. LOC_STAT in token form answers
the block, LOCATOR_PENDING, UNKNOWN_TOKEN, or waits. A locator that fails a check or resolves to nothing ends the command with the status of
that; one whose header lies in a dark hive is held in its gather list.
R435, R439, R449, R454, R457, R465, R467, R468: the object of a put whose chunks are placed is created, and stored parts are added; a token,
an open object, a released object and a ledger entry lapse in their time; a manifest of count 0 gives up its entries. -/
def Obligations.LocatorComplete : Prop :=
  (∀ (s : State) (e : Sqe) (c : Ctrl) (u v w : State) (d : PutDesc) (h : HostCmd), Reaches s e c u → e.nsid = 0xFFFFFFFF → d = putDesc e.data →
    64 ≤ e.data.length → e.data.length = e.xfer → e.data.length ≤ 8192 → (u.domain? (e.cdw10.toNat % 65536)).isNone = false →
    u.admits (e.cdw10.toNat % 65536) c.nqn = true → u.pathStatus (e.cdw10.toNat % 65536) = none → putFields e d = true →
    (u.domain? (e.cdw10.toNat % 65536)).any (·.replica) = false → d.objLen ≤ 2 ^ 44 → d.stream = 0 → d.reset = false → u.putCheck = none →
    h = ⟨e.ctrl, e.qid, e.cid, .put d (e.data.drop 64), none, u.ck.now, 0, none⟩ →
    v = (u.nv' fun v => { v with cmds := v.cmds ++ [h] }) → v.cmd? e.ctrl e.qid e.cid = some h →
    v.original h d = none → (d.part = 0 ∧ d.abort = false ∨ v.partCheck d = none) → v.putCheck = none → v.holdsWork = false →
    v.rebHolds d.domain = false → w = ((v.countHeld h).stat 0x1801 d.domain (if d.part = 0 then 0 else 1) 1).putRecs d (e.data.drop 64)
      [.complete e.ctrl e.qid e.cid 0] → ∀ i ∈ [Instr.locPut e, .locPutPart e],
    exec i s = .next (w.cmd' e.ctrl e.qid e.cid fun x => { x with kind := .accepted (w.wx.nextOrd - 1) }).judgeRings) ∧
  (∀ (s : State) (e : Sqe) (c : Ctrl) (u v : State) (d : PutDesc) (h : HostCmd) (k : Nat) (g : Bytes), Reaches s e c u → e.nsid = 0xFFFFFFFF → d = putDesc e.data →
    64 ≤ e.data.length → e.data.length = e.xfer → e.data.length ≤ 8192 → (u.domain? (e.cdw10.toNat % 65536)).isNone = false →
    u.admits (e.cdw10.toNat % 65536) c.nqn = true → u.pathStatus (e.cdw10.toNat % 65536) = none → putFields e d = true →
    (u.domain? (e.cdw10.toNat % 65536)).any (·.replica) = false → d.objLen ≤ 2 ^ 44 → d.stream = 0 → d.reset = false → u.putCheck = none →
    h = ⟨e.ctrl, e.qid, e.cid, .put d (e.data.drop 64), none, u.ck.now, 0, none⟩ →
    v = (u.nv' fun v => { v with cmds := v.cmds ++ [h] }) → v.cmd? e.ctrl e.qid e.cid = some h →
    v.original h d = some (d.objLen, k, some g) → (d.part = 0 ∨ k = d.putLen) → ∀ i ∈ [Instr.locPut e, .locPutPart e],
    (v.repeatDigest d (e.data.drop 64) = g → exec i s = .next ((v.stat 0x1801 d.domain 2 1).endCmd e.ctrl e.qid e.cid 1)) ∧
    (v.repeatDigest d (e.data.drop 64) ≠ g →
      exec i s = .next ((v.stat 0x1801 d.domain 3 1).failStream e.ctrl e.qid e.cid none locConflict))) ∧
  (∀ (s : State) (e : Sqe) (c : Ctrl) (u v : State) (d : PutDesc) (h : HostCmd) (l k : Nat) (g : Option Bytes), Reaches s e c u → e.nsid = 0xFFFFFFFF →
    d = putDesc e.data → 64 ≤ e.data.length → e.data.length = e.xfer → e.data.length ≤ 8192 → (u.domain? (e.cdw10.toNat % 65536)).isNone = false →
    u.admits (e.cdw10.toNat % 65536) c.nqn = true → u.pathStatus (e.cdw10.toNat % 65536) = none → putFields e d = true →
    (u.domain? (e.cdw10.toNat % 65536)).any (·.replica) = false → d.objLen ≤ 2 ^ 44 → d.stream = 0 → d.reset = false → u.putCheck = none →
    h = ⟨e.ctrl, e.qid, e.cid, .put d (e.data.drop 64), none, u.ck.now, 0, none⟩ →
    v = (u.nv' fun v => { v with cmds := v.cmds ++ [h] }) → v.cmd? e.ctrl e.qid e.cid = some h →
    v.original h d = some (l, k, g) → (l ≠ d.objLen ∨ d.part ≠ 0 ∧ k ≠ d.putLen) → ∀ i ∈ [Instr.locPut e, .locPutPart e],
    exec i s = .next ((v.stat 0x1801 d.domain 3 1).failStream e.ctrl e.qid e.cid none locConflict)) ∧
  (∀ (s : State) (e : Sqe) (c : Ctrl) (u : State), Reaches s e c u → e.nsid = 0xFFFFFFFF → e.data.length < 64 → e.data.length < e.xfer →
    e.xfer ≤ 1048576 → ∀ i ∈ [Instr.locPut e, .locPutPart e],
    exec i s = .next ((u.nv' fun v => { v with cmds := v.cmds ++ [⟨e.ctrl, e.qid, e.cid, .loc e, none, u.ck.now, 1, none⟩] }).send
      (.r2t e.conn e.cid e.data.length (e.xfer - e.data.length)))) ∧
  (∀ (s : State) (e : Sqe) (c : Ctrl) (u v w x : State) (ch off n : Nat) (via : Option LedgerEntry) (o : Obj) (rs : List BlockRead), Reaches s e c u → e.nsid = 0xFFFFFFFF → u.locCheck c e.locator = (v, none) → e.locFields = true →
    v.resolve (fld e.locator 2 2) (locPlace e.locator) = .found ch via → v.objOfTop (fld e.locator 2 2) ch = some o → o.state ≠ .released →
    e.opc = 0x82 → off = 4096 * e.cdw5.toNat → off ≤ o.len → n = min e.xfer (o.len - off) →
    w = (if via.isSome then (v.stat 0x1803 o.domain 0 1).stat 0x1803 o.domain 1 1 else v.stat 0x1803 o.domain 0 1) →
    (if n = 0 then (w, []) else State.walkMan 4 w o.top 0 off (off + n)) = (x, rs) →
    (rs.any (· == .lost) = false → darkOf rs = [] → exec (.locGet e) s = .next (((x.leaveGather e.ctrl e.qid e.cid).cqe e.ctrl e.qid e.cid 0 0 false
      (BitVec.ofNat 32 (n + 2 ^ 31 * b2n via.isSome)) (fit e.xfer (bytesOf rs))).dropCmd e.ctrl e.qid e.cid)) ∧
    (rs.any (· == .lost) = true → exec (.locGet e) s =
      .next ((x.leaveGather e.ctrl e.qid e.cid).failCmd e.ctrl e.qid e.cid nvUnread.1 nvUnread.2.1 nvUnread.2.2)) ∧
    (∀ y, rs.any (· == .lost) = false → darkOf rs ≠ [] → x.gather e.ctrl e.qid e.cid (e.cdw4.toNat * second) (darkOf rs) = (y, none) →
      exec (.locGet e) s = .next (y.nv' fun v => { v with cmds := v.cmds ++ [⟨e.ctrl, e.qid, e.cid, .locGet o.key o.top off e.xfer via.isSome, none,
        x.ck.now, x.ck.now + e.cdw4.toNat * second, none⟩] }))) ∧
  (∀ (s : State) (e : Sqe) (c : Ctrl) (u v : State) (ch : Nat) (via : Option LedgerEntry) (o : Obj), Reaches s e c u → e.nsid = 0xFFFFFFFF → u.locCheck c e.locator = (v, none) → e.locFields = true →
    v.resolve (fld e.locator 2 2) (locPlace e.locator) = .found ch via → v.objOfTop (fld e.locator 2 2) ch = some o → o.state ≠ .released → e.opc = 0x82 → o.len < 4096 * e.cdw5.toNat →
    exec (.locGet e) s = .next (v.nvEnd e nvBadField)) ∧
  (∀ (s : State) (e : Sqe) (c : Ctrl) (u v : State) (ch : Nat) (via : Option LedgerEntry) (o : Obj), Reaches s e c u → e.nsid = 0xFFFFFFFF → u.locCheck c e.locator = (v, none) → e.locFields = true →
    v.resolve (fld e.locator 2 2) (locPlace e.locator) = .found ch via → v.objOfTop (fld e.locator 2 2) ch = some o → o.state ≠ .released →
    e.opc = 0x86 → e.cdw5.getLsbD 0 = false → exec (.locStat e) s = .next (v.nvDone e 0 (v.objBlock o via))) ∧
  (∀ (s : State) (e : Sqe) (c : Ctrl) (u : State) (d : Nat) (r : Option Obj), Reaches s e c u → e.nsid = 0xFFFFFFFF → e.opc = 0x86 →
    e.cdw5.getLsbD 0 = true → d = e.cdw14.toNat % 65536 → (u.domain? d).isNone = false → u.admits d c.nqn = true → u.pathStatus d = none →
    e.locFields = true → u.objOfToken d ([e.cdw10, e.cdw11, e.cdw12, e.cdw13].flatMap fun w => le 4 w.toNat) = r →
    (r = none → exec (.locStat e) s = .next (u.nvEnd e locUnknown)) ∧
    (∀ o, r = some o → o.state = .accepted → e.cdw4 = 0 → exec (.locStat e) s = .next (u.nvEnd e locPending)) ∧
    (∀ o, r = some o → o.state = .accepted → e.cdw4 ≠ 0 → exec (.locStat e) s = .next (u.nv' fun v => { v with
      cmds := v.cmds ++ [⟨e.ctrl, e.qid, e.cid, .loc e, none, u.ck.now, u.ck.now + e.cdw4.toNat * second, none⟩] })) ∧
    (∀ o, r = some o → o.state ≠ .accepted → o.state ≠ .released → exec (.locStat e) s = .next (u.nvDone e 0 (u.objBlock o none))) ∧
    (∀ o, r = some o → o.state = .released → exec (.locStat e) s = .next (u.nvEnd e locReleased))) ∧
  (∀ (s : State) (e : Sqe) (c : Ctrl) (u v : State) (ch : Nat) (via : Option LedgerEntry) (o : Obj), Reaches s e c u → e.nsid = 0xFFFFFFFF → u.locCheck c e.locator = (v, none) → e.locFields = true →
    v.resolve (fld e.locator 2 2) (locPlace e.locator) = .found ch via → v.objOfTop (fld e.locator 2 2) ch = some o → o.state ≠ .released → e.opc = 0x8A →
    (via = none ∨ e.cdw5.getLsbD 0 = true → exec (.locRefresh e) s = .next ((v.nvDone e 0 (v.objBlock o via)).stat 0x1804 o.domain 0 1)) ∧
    (∀ l, via = some l → e.cdw5.getLsbD 0 = false → v.inMode .quiesce = false → v.ordSpent = false → exec (.locRefresh e) s =
      .next ((((v.nvDone e 0 (v.objBlock o via)).stat 0x1804 o.domain 0 1).mapChange o.domain [.ledgerDrop o.domain l.old] []).stat
        0x1804 o.domain 1 1))) ∧
  (∀ (s : State) (e : Sqe) (c : Ctrl) (u v : State) (ch : Nat) (via : Option LedgerEntry) (o : Obj), Reaches s e c u → e.nsid = 0xFFFFFFFF → u.locCheck c e.locator = (v, none) → e.locFields = true →
    v.resolve (fld e.locator 2 2) (locPlace e.locator) = .found ch via → v.objOfTop (fld e.locator 2 2) ch = some o → o.state ≠ .released → e.opc = 0x8C → v.readOnly o.domain = false →
    ((v.objNow o).state = .released → exec (.locRelease e) s = .next (v.nvEnd e locReleased)) ∧
    ((v.objNow o).state ≠ .released → v.retained (v.objNow o).retain = true → exec (.locRelease e) s = .next (v.nvEnd e locLocked)) ∧
    ((v.objNow o).state ≠ .released → v.retained (v.objNow o).retain = false → v.inMode .quiesce = false → v.idsSpent = false →
      v.ordSpent = false → v.holdsWork = false → v.rebHolds o.domain = false → exec (.locRelease e) s =
        .next (v.mapChange o.domain [.objectState o.domain o.key true (v.objNow o).retain] [.complete e.ctrl e.qid e.cid 0]))) ∧
  (∀ (s : State) (e : Sqe) (c : Ctrl) (u v : State) (ch : Nat) (via : Option LedgerEntry) (o : Obj), Reaches s e c u → e.nsid = 0xFFFFFFFF → u.locCheck c e.locator = (v, none) → e.locFields = true →
    v.resolve (fld e.locator 2 2) (locPlace e.locator) = .found ch via → v.objOfTop (fld e.locator 2 2) ch = some o → o.state ≠ .released → e.opc = 0x90 → v.readOnly o.domain = false →
    ((v.objNow o).state ≠ .released → e.cdw5.toNat % 2 ^ 31 < (v.objNow o).retain → exec (.locSeal e) s = .next (v.nvEnd e locLocked)) ∧
    ((v.objNow o).state ≠ .released → e.cdw5.toNat % 2 ^ 31 = (v.objNow o).retain → exec (.locSeal e) s = .next (v.nvDone e 0 [])) ∧
    ((v.objNow o).state ≠ .released → (v.objNow o).retain < e.cdw5.toNat % 2 ^ 31 → v.inMode .quiesce = false → v.idsSpent = false →
      v.ordSpent = false → v.holdsWork = false → v.rebHolds o.domain = false → exec (.locSeal e) s =
        .next (v.mapChange o.domain [.objectState o.domain o.key false (e.cdw5.toNat % 2 ^ 31)] [.complete e.ctrl e.qid e.cid 0]))) ∧
  (∀ (s : State) (e : Sqe) (c : Ctrl) (u v : State) (st : NvStatus), Reaches s e c u → e.nsid = 0xFFFFFFFF →
    (e.opc ≠ 0x86 ∨ e.cdw5.getLsbD 0 = false) → u.locCheck c e.locator = (v, some st) →
    ∀ i ∈ [Instr.locGet e, .locStat e, .locRefresh e, .locRelease e, .locSeal e], exec i s = .next (v.nvEnd e st)) ∧
  (∀ (s : State) (e : Sqe) (c : Ctrl) (u v : State), Reaches s e c u → e.nsid = 0xFFFFFFFF → u.locCheck c e.locator = (v, none) → e.locFields = true →
    (e.opc ≠ 0x86 ∨ e.cdw5.getLsbD 0 = false) → ∀ i ∈ [Instr.locGet e, .locStat e, .locRefresh e, .locRelease e, .locSeal e],
    (v.resolve (fld e.locator 2 2) (locPlace e.locator) = .stale →
      exec i s = .next ((v.stat 0x1803 (fld e.locator 2 2) 2 1).nvEnd e locStale)) ∧
    (∀ h y, v.resolve (fld e.locator 2 2) (locPlace e.locator) = .wait h →
      v.gather e.ctrl e.qid e.cid (e.cdw4.toNat * second) [(h, 64)] = (y, none) → exec i s = .next (y.nv' fun x => { x with
        cmds := x.cmds ++ [⟨e.ctrl, e.qid, e.cid, .loc e, none, v.ck.now, v.ck.now + e.cdw4.toNat * second, none⟩] }))) ∧
  (∀ (s : State) (e : Sqe) (c : Ctrl) (u : State), Reaches s e c u → e.nsid ≠ 0xFFFFFFFF →
    ∀ i ∈ [Instr.locPut e, .locPutPart e, .locGet e, .locStat e, .locRefresh e, .locRelease e, .locSeal e],
    exec i s = .next (u.nvEnd e nvBadNs)) ∧
  (∀ (s : State) (k : Nat) (o : Obj) (p : Part), s.obj? k = some o → s.owns (.domain o.domain) = true → (s.keyRec o.domain).isNone = false →
    o.multi = false → o.state = .accepted → s.creating k = false → o.parts.head? = some p → s.partPlaced p = true →
    exec (.objectCreateCommit k) s = .next ((s.refChange o.domain (p.chunks.map (fun c => ⟨c.1, 1⟩) ++ [⟨p.manifest, 1⟩])).mapChange o.domain
      [.objectCreate o.domain o.key p.manifest o.len o.token p.digest false] [.release [s.keyOfPart p]])) ∧
  (∀ (s : State) (k : Nat) (o : Obj) (p : Part), s.obj? k = some o → s.owns (.domain o.domain) = true → (s.keyRec o.domain).isNone = false →
    o.multi = true → o.state = .opened →
    (o.parts.filter fun p => p.accepted && !p.added && s.partPlaced p && !s.adding o.key p.num) = [p] →
    exec (.objectCreateCommit k) s = .next ((s.refChange o.domain (p.chunks.map (fun c => ⟨c.1, 1⟩) ++ [⟨p.manifest, 1⟩])).mapChange o.domain
      [.partAdd o.domain o.key p.num p.manifest p.len o.token p.digest] [.release [s.keyOfPart p]])) ∧
  (∀ (s : State) (d : Nat) (tok : Bytes) (t : TokenEntry), (s.ob.tokens.find? fun t => t.domain == d && t.token == tok) = some t →
    ((s.obj? t.key).any fun o => o.state == ObjState.opened || o.state == ObjState.accepted) = false → s.owns (.domain d) = true →
    t.atNs + s.horizon d ≤ s.ck.now →
    s.tokenDropComing d tok = false →
    exec (.tokenHorizonExpiry d tok) s = .next (s.mapChange d [.tokenDrop d tok] [])) ∧
  (∀ (s : State) (k : Nat) (o : Obj), s.obj? k = some o → (o.state == ObjState.opened) = true → s.owns (.domain o.domain) = true →
    o.lastPart + s.horizon o.domain ≤ s.ck.now →
    s.openDropComing o = false →
    exec (.openObjectExpiry k) s = .next (((s.mapChange o.domain [.openDrop o.domain o.token] [.release (o.parts.map s.keyOfPart)]).event 0x810
      .notice o.domain (fit 16 o.token)).bump 0x1807 0 0 1)) ∧
  (∀ (s : State) (k : Nat) (o : Obj), s.obj? k = some o → (o.state == ObjState.released) = true → s.owns (.domain o.domain) = true →
    s.getting k = false → o.releasedAt + s.horizon o.domain ≤ s.ck.now →
    s.unrefComing o = false → exec (.releasedObjectExpiry k) s = .next (s.refChange o.domain [⟨o.top, -1⟩])) ∧
  (∀ (s u : State) (d : Nat) (p : Place) (e : LedgerEntry), (s.vo.ledger.find? fun e => e.domain == d && e.old == p) = some e →
    s.owns (.domain d) = true → e.created + s.ledgerLife ≤ s.ck.tick → s.ledgerDropComing d p = false →
    u = s.mapChange d [.ledgerDrop d p] [] →
    exec (.ledgerEntryExpiry d p) s = .next (if u.ob.objs.any fun o => o.domain == d && o.top == e.chunk && o.state == ObjState.live then
      u.event 0x812 .notice d (le 2 d ++ le 6 e.chunk) else u)) ∧
  (∀ (s t u v : State) (d c : Nat) (m : Bytes), s.ob.walks.contains (d, c) = true → s.owns (.domain d) = true → s.chunkBytes c = (t, .bytes m) →
    u = t.refChange d ((manifestEntries m).map fun e => ⟨e.1, -1⟩) →
    v = (u.ob' fun b => { b with walks := b.walks.filter (· != (d, c)) ++ dedupBy (((manifestEntries m).filter fun e => e.2.1 &&
      ((u.chunk? e.1).map (·.refs)) == some ((manifestEntries m).filter (·.1 == e.1)).length).map fun e => (d, e.1)) }) →
    exec (.manifestReleaseWalk d c) s = .next (v.releaseEmpty (((v.chunk? c).map (·.place.ordinal)).toList))) ∧
  (∀ (s t v : State) (d c : Nat), s.ob.walks.contains (d, c) = true → s.owns (.domain d) = true → s.chunkBytes c = (t, .lost) →
    v = (t.ob' fun b => { b with walks := b.walks.filter (· != (d, c)) }) →
    exec (.manifestReleaseWalk d c) s = .next (v.releaseEmpty (((v.chunk? c).map (·.place.ordinal)).toList)))

/-- R203 to R207, R217, R219, R261: a landing stripe opens in its lane's hive and takes the waiting envelopes; a stripe of another purpose
opens over the working combs of a powered hive, one for metadata in a row of a single die, block set and unit.
R218, R219: a stripe closes STRIPE_CLOSE_TIME after its first envelope: its members get their unit CRCs and their programs go out; it commits
when every member has passed. R221: a unit that failed once is written once more elsewhere, and a second failure abandons the stripe.
R229, R231, R232: a member that is silent past its time is given up for the reads that wait, which are served; a comb marked failed has
MEMBER_STATE written, E410, and its rebuild. R233 to R243: a rebuild solves, programs, reads back and commits the units of a stripe within
its share, and goes on by groups and passes; a retired comb has its record written when nothing of it is left; a comb brought up for a failed
one is a replacement.
R244 to R250: a reshape pauses with E421, converts old stripes within its share, checkpoints what is placed, and ends with E420. -/
def Obligations.StripesComplete : Prop :=
  (∀ (s u : State) (h l o : Nat), s.landsIn h l = true →
    s.openStripeBut h l (if (s.lanePlaces l).2 then .tall else .brood) .landing
      ((s.rd.landing.find? (·.2.2 == l)).bind fun x => (s.landsBut x.2.1.chunk h).2) = (u, some o) →
    exec (.stripeOpen h l .landing) s = .next ((u.sp' fun p => { p with
      laneHive := p.laneHive.filter (·.1 != l) ++ [(l, h)] }).fillLanding o l u.rd.landing.length)) ∧
  (∀ (s : State) (h l : Nat), s.hivePowered h = true →
    exec (.stripeOpen h l .gc) s = .next (s.openStripe h l (if s.isBrood h then .brood else .honey) .gc).1 ∧
    exec (.stripeOpen h l .reshape) s = .next (s.openStripe h l (if s.isBrood h then .brood else .honey) .reshape).1 ∧
    (s.isBrood h = false → exec (.stripeOpen h l .fold) s = .next (s.openStripe h l .honey .fold).1) ∧
    (s.isBrood h = true → exec (.stripeOpen h l .metadata) s = .next (s.openMeta h []).1)) ∧
  (∀ (s : State) (o f : Nat) (t : OpenStripe) (ms : List Member), s.open? o = some t → t.firstAt = some f → t.closed = false →
    f + s.setting 0x04000001 * 1000 / milli * milli ≤ s.ck.now →
    ms = ((t.members.zip (stripeUnits t.region t.members.length t.data)).map fun p => { p.1 with crc := crc32c p.2 }) →
    exec (.stripeCloseTimer o) s = .next (((s.stat 0x0403 0 0 (64 * t.room)).open' o fun x => { x with
      closed := true, units := stripeUnits t.region t.members.length t.data, members := ms }).issuePrograms o)) ∧
  (∀ (s : State) (o : Nat) (t : OpenStripe), s.open? o = some t → t.closed = true → t.commitOrd = none → (t.prog.any (· != .passed)) = false →
    exec (.stripeProgramDone o) s = .next ((s.commit 0xFFFF (.stripeCommit t.ord t.hive t.region t.purpose t.members t.used t.epoch
      (t.envs.map (·.entry)) t.openTick) []).open' o fun t => { t with commitOrd := some s.wx.nextOrd })) ∧
  (∀ (s u v : State) (o m : Nat) (t : OpenStripe) (e x : Member), s.open? o = some t → t.members[m]? = some e → t.prog[m]? = some .failedOnce →
    u = (s.grownFault e.link e.die e.block).countProgFail e.link o m → ((u.hive? t.hive).bind (·.block)).any (·.power == 4) = false →
    u.freshUnit e t.region t.purpose = (v, some x) →
    exec (.memberProgramFail o m) s = .next (((v.journal 0x03 o [m] [{ x with crc := e.crc }]).open' o fun t => { t with
      members := t.members.set m { x with crc := e.crc }, prog := t.prog.set m .idle }).issuePrograms o)) ∧
  (∀ (s u : State) (o m : Nat) (t : OpenStripe) (e : Member), s.open? o = some t → t.members[m]? = some e → t.prog[m]? = some .failedTwice →
    u = (s.grownFault e.link e.die e.block).countProgFail e.link o m →
    exec (.memberProgramFail o m) s = .next (u.abandonStripe o (some e.link))) ∧
  (∀ (s u v : State) (o m : Nat) (t : Stripe), s.stripe? o = some t → s.readable t.hive = true → s.silent t m = true →
    s.readSince t.hive s.memberWait = true →
    u = (if s.large then s.memberTimeout ((t.members[m]?.map (·.link)).getD 0) o m else s) →
    v = (u.sp' fun p => { p with givenUp := p.givenUp.filter (· != (o, m)) ++ [(o, m)] }) →
    exec (.memberReadTimeout o m) s = .next (v.serveAsks.serveGather t.hive)) ∧
  (∀ (s u v : State) (n : Nat) (l : Link), s.link? n = some l → (l.comb == .failed || l.comb == .retired || l.comb == .absent) = false →
    u = (((s.commit 0xFFFF (.combState n .failed l.serial) []).ev0 0x410 .error (le 1 n)).link' n fun l => { l with comb := .failed }) →
    v = (if (u.workingLinks l.hive).length < 6 then u.ev0 0x416 .error (le 1 l.hive) else u) →
    exec (.combMarkFailed n) s = .next (v.startRebuild l.hive n)) ∧
  (∀ (s u : State) (h : Nat) (r : Rebuild), u = s.heed h → u.mayFinish h = true → u.sp.rebuilds.find? (·.hive == h) = some r →
    (∀ t, u.rebuildNext r = some t → exec (.rebuildStripe h) s = .next (u.rebuildStripe r t)) ∧
    (u.rebuildNext r = none → r.group = 0 →
      exec (.rebuildStripe h) s = .next (u.rebuild' r.hive fun r => { r with group := 1, next := 0 }))) ∧
  (∀ (s v w x y : State) (r z : Rebuild) (t : Stripe) (l : List (List (Nat × Bytes) × Bool)) (ms at_ : List Member) (load : LinkLoad),
    t.purpose ≠ .metadata → (s.toRebuild t).mapM (s.rebuiltUnits t (s.unreadable t)) = some l →
    v = s.heedPages t (wholePages t.region ((List.range t.members.length).filter (!(s.unreadable t).contains ·))) →
    v.replaceUnits t (onceEach (l.flatMap (·.1))) t.members [] = (w, some ms, at_) →
    load = (if s.ck.now ≥ r.shareFrom + 100 * milli then [] else r.shareUsed) ++
      (readLoad t (s.unreadable t) (l.any (·.2)) ++ progLoad t.region at_) →
    (s.inMode .mend = true ∨ s.shareHolds load (s.setting 0x04000002) = true) →
    x = (w.commitMembers t ms).stat 0x0405 0 0 (onceEach (l.flatMap (·.1))).length →
    y = (x.rebuild' r.hive fun r' => { r' with
      next := t.ord + 1, sinceCkpt := r'.sinceCkpt + 1, rebuilt := r'.rebuilt + 1, shareUsed := load,
      shareFrom := if s.ck.now ≥ r.shareFrom + 100 * milli then x.ck.now else r'.shareFrom }) →
    y.sp.rebuilds.find? (·.hive == r.hive) = some z → z.sinceCkpt < 256 → s.rebuildStripe r t = y) ∧
  (∀ (s u v : State) (h k : Nat) (w : Waiter), u = s.heed h → u.mayFinish h = true → u.sp.rebuilds.find? (·.hive == h) = none →
    (u.sp.retiring.find? fun e => (u.link? e.1).any (·.hive == h)) = some (k, some w) →
    (u.sp.table.filter fun t => t.hive == h && !t.released && t.members.any (·.link == k)) = [] →
    (u.sp.opens.any fun t => t.members.any (·.link == k)) = false →
    v = u.commit 0xFFFF (.combState k .retired (((u.link? k).map (·.serial)).getD 0)) [.reply w .success []] →
    exec (.rebuildStripe h) s = .next ((v.sp' fun p => { p with retiring := p.retiring.filter (·.1 != k) }).link' k fun l => { l with
      comb := .retired, retired := false })) ∧
  (∀ (s : State) (n : Nat) (l : Link), s.link? n = some l → (l.comb == .failed && l.state == .up) = true → (s.bridge? n).any (·.failed) = false →
    s.replacing n = false →
    exec (.replacementComb n) s = .next ((s.commit 0xFFFF (.combState n .replacement l.serial) []).ev0 0x417 .notice (le 1 n))) ∧
  (∀ (s u : State) (h : Nat) (r : Reshape), u = s.heed h → u.sp.reshapes.find? (·.hive == h) = some r → u.reshapeRuns = true →
    (u.isBrood h || u.owns (.honey h)) = true → u.reshapePauses h = true → r.paused = false →
    exec (.reshapeStripes h) s = .next (((u.reshape' h fun r => { r with
      paused := true, converted := r.converted - r.pendingOld.length, pendingOld := [] }).hive' h fun x => { x with
        reshapeNeed := false }).ev0 0x421 .warn (le 1 h))) ∧
  (∀ (s u v w : State) (h : Nat) (r : Reshape) (t : Stripe) (os : List Nat), u = s.heed h → u.sp.reshapes.find? (·.hive == h) = some r → u.reshapeRuns = true →
    (u.isBrood h || u.owns (.honey h)) = true → u.reshapePauses h = false →
    u.mayMove h = true → r.pendingOld.length < 256 → u.reshapeNext r = some t → t.purpose ≠ .metadata → t.region ≠ .honey →
    (u.loseUnsound t).copySlc r.hive .reshape ((u.loseUnsound t).liveEnvs t).length ((u.loseUnsound t).liveEnvs t) = (v, os) →
    w = (if os = [] then v else v.placeStripes os) →
    exec (.reshapeStripes h) s = .next (u.reshapeCharge r (u.reshapeLoad w t) (((w.reshape' r.hive fun r => { r with
      converted := r.converted + 1, pendingOld := r.pendingOld ++ [t.ord], paused := false }).hive' r.hive fun x => { x with
        reshapeNeed := !x.brood }).stat 0x0406 0 0 1))) ∧
  (∀ (s u : State) (r : Reshape) (load : LinkLoad) (all : LinkLoad),
    all = (if s.ck.now ≥ r.shareFrom + 100 * milli then [] else r.shareUsed) ++ load → s.shareHolds all (s.setting 0x04000004) = true →
    s.reshapeCharge r load u = u.reshape' r.hive fun x => { x with
      shareUsed := all, shareFrom := if s.ck.now ≥ r.shareFrom + 100 * milli then s.ck.now else r.shareFrom }) ∧
  (∀ (s u : State) (h : Nat) (r : Reshape), u = s.heed h → u.sp.reshapes.find? (·.hive == h) = some r → u.reshapeRuns = true →
    (u.isBrood h || u.owns (.honey h)) = true → u.reshapePauses h = false →
    u.mayMove h = true → r.pendingOld = [] → u.reshapeNext r = none → u.oldOpen r = none → (r.oldN ≠ 0 ∨ r.bound ≤ r.last) →
    exec (.reshapeStripes h) s = .next (u.reshapeEnd h))

/-- R286, R287, R292: fold takes the live envelopes of the brood into the open row of an honey hive on which this head may work, a new row
where none is open, and closes the rows when the brood holds no more or a dark is decided.
R288 to R291, R305: the stripes of a row whose block sets all pass are placed; a failing block set gains a grown fault with E503, and what lies
in it is released to be moved again.
R294 to R297: GC_MOVE takes the stripe that R295 gives: an empty one is released, a metadata stripe is left to the next flush, and the live
envelopes of another are copied.
R302: wear moves go on above the spread, from the SEALED block set of lowest P/E count to the FREE one of highest, and end below it with E510.
R256, R303, R305: a block set is FREE with P/E + 1 once its erase has passed, unless it is retired. -/
def Obligations.MediaComplete : Prop :=
  (∀ (s u v w : State) (h : Nat) (x : Nat × Nat × Nat) (r : FoldRow), u = (s.hv.hives.filter (·.brood)).foldl (fun (t : State) x => t.heed x.id) (s.heed h) →
    (if u.isBrood h then u.noHoney else u.owns (.honey h)) = true → u.mayFinish h = true →
    (u.hive? h).any (·.darkDecided) = false → u.gcFirst h = false → u.mayMove h = true → v = u.checkFold → v.foldable ≠ [] →
    w = (if (v.openRow h false).isSome then v else v.newRow h .fold) → w.openRow h false = some r → r.sets.head? = some x →
    exec (.foldRow h) s = .next (if ((w.copyRow x .fold v.foldable.length v.foldable).sealIfFull x).foldable = [] then
      (((w.copyRow x .fold v.foldable.length v.foldable).sealIfFull x).closeRows h).hive' h fun y => { y with foldNeed := false }
      else (w.copyRow x .fold v.foldable.length v.foldable).sealIfFull x)) ∧
  (∀ (s u v : State) (h : Nat), u = (s.hv.hives.filter (·.brood)).foldl (fun (t : State) x => t.heed x.id) (s.heed h) →
    (if u.isBrood h then u.noHoney else u.owns (.honey h)) = true → u.mayFinish h = true →
    (u.hive? h).any (·.darkDecided) = false → u.gcFirst h = false → u.mayMove h = true → v = u.checkFold → v.foldable = [] →
    exec (.foldRow h) s = .next ((v.closeRows h).hive' h fun y => { y with foldNeed := false })) ∧
  (∀ (s u : State) (h : Nat), u = (s.hv.hives.filter (·.brood)).foldl (fun (t : State) x => t.heed x.id) (s.heed h) →
    (if u.isBrood h then u.noHoney else u.owns (.honey h)) = true → u.mayFinish h = true → (u.hive? h).any (·.darkDecided) = true →
    exec (.foldRow h) s = .next ((u.closeRows h).hive' h fun y => { y with foldNeed := false })) ∧
  (∀ (s u : State) (h : Nat) (r : FoldRow), s.sealedRow h = some r → u = s.heed h → u.mayFinish h = true → u.failedSets r = [] →
    (∀ x ∈ r.sets, u.setFull x = true) → r.stripes ≠ [] →
    exec (.readBackDone h) s = .next ((((r.sets.foldl (fun t x => t.set' x.1 x.2.1 x.2.2 fun b => { b with passed := true })
      (u.me' fun m => { m with rows := m.rows.filter (· != r) })).placeStripes r.stripes).dirtySets))) ∧
  (∀ (s u : State) (h : Nat) (r : FoldRow), s.sealedRow h = some r → u = s.heed h → u.mayFinish h = true →
    exec (.readBackDone h) s = .next (u.endReadBack r (u.failedSets r))) ∧
  (∀ (s u : State) (h : Nat) (r : FoldRow), u = s.heed h → u.sealedRow h = some r → u.mayFinish h = true →
    (u.failedSets r ≠ [] → exec (.readBackFail h) s = .next (u.endReadBack r (u.failedSets r))) ∧
    (u.failedSets r = [] →
      exec (.readBackFail h) s = .next (u.afterDraw.endReadBack r ((r.sets[u.drawnNat % max 1 r.sets.length]?).toList)))) ∧
  (∀ (s u v : State) (r : FoldRow) (x : Nat × Nat × Nat), (r.stripes.all fun o => s.touches [x] o) = true → x ∈ r.sets → r.stripes ≠ [] →
    u = r.sets.foldl (fun t y => t.set' y.1 y.2.1 y.2.2 fun b => { b with passed := !([x].contains y) })
      (s.me' fun m => { m with rows := m.rows.filter (· != r) }) →
    v = (((u.grownFault x.1 x.2.1 x.2.2).ev0 0x503 .notice (le 1 x.1 ++ le 1 x.2.1 ++ le 2 x.2.2)).bump 0x050A x.1 0 1) →
    s.endReadBack r [x] = ((((r.stripes.foldl (fun t o => t.stripe' o fun y => { y with placed := true }) v).dropStripes r.stripes).sp' fun p =>
      { p with table := p.table.map fun t => if t.hive == r.hive then { t with moving := false } else t }).dirtySets)) ∧
  (∀ (s u v : State) (o : Nat) (t : Stripe), s.stripe? o = some t → u = ((s.heed t.hive).judgeGc t.hive) → u.mayMove t.hive = true →
    (u.gcPick t.hive).any (·.ord == o) = true → u.foldFirst t.hive = false → v = u.walkStripe t 4 → v.walkWaits t = false → t.live = 0 → exec (.gcMove o) s = .next (v.releaseEmpty [t.ord])) ∧
  (∀ (s u v : State) (o : Nat) (t : Stripe), s.stripe? o = some t → u = ((s.heed t.hive).judgeGc t.hive) → u.mayMove t.hive = true →
    (u.gcPick t.hive).any (·.ord == o) = true → u.foldFirst t.hive = false → v = u.walkStripe t 4 → v.walkWaits t = false → t.live ≠ 0 → t.purpose = .metadata → exec (.gcMove o) s =
    .next ((v.stripe' t.ord fun x => { x with moving := true }).me' fun m => { m with dirty := true })) ∧
  (∀ (s u v w x : State) (o : Nat) (t : Stripe), s.stripe? o = some t → u = ((s.heed t.hive).judgeGc t.hive) → u.mayMove t.hive = true →
    (u.gcPick t.hive).any (·.ord == o) = true → u.foldFirst t.hive = false → v = u.walkStripe t 4 → v.walkWaits t = false → t.live ≠ 0 → t.purpose ≠ .metadata →
    w = v.loseUnsound t → w.spentStripe t = false → x = (w.stripe' t.ord fun y => { y with moving := true }) →
    (∀ y os, t.region ≠ .honey → x.copySlc t.hive .gc (w.liveEnvs t).length (w.liveEnvs t) = (y, os) → os ≠ [] →
      exec (.gcMove o) s = .next ((y.placeStripes os).restStays t)) ∧
    (∀ y, t.region = .honey → y = (x.copyHoney t.hive .gc (w.liveEnvs t)).restStays t → (y.gcPick t.hive).isSome = true →
      exec (.gcMove o) s = .next y)) ∧
  (∀ (s u v : State) (n d k : Nat) (l : Link) (b : BlockSet), u = s.heed (n / 16) → u.link? n = some l → u.mayMove l.hive = true →
    (l.comb == .working || l.comb == .replacement) = true →
    ([false, true].findSome? fun qlc => if (u.wearPick n qlc).1 > u.wearLimit n then (u.wearPick n qlc).2 else none) = some b →
    v = (if u.me.wearActive.contains n then u
      else (u.me' fun m => { m with wearActive := m.wearActive ++ [n] }).ev0 0x510 .info (le 1 n ++ [1])) →
    v.wornFree l b.qlc = some (d, k) →
    exec (.wearMove n) s = .next (((((v.setBlock l.link d k .opened b.qlc .wear).set' l.link d k fun x => { x with
        nextUnit := 0, progUnit := 0, openTick := (v.setBlock l.link d k .opened b.qlc .wear).ck.tick, passed := false }).myStripes l.hive).filter
          fun t => t.members.any fun m => m.link == b.link && m.die == b.die && m.block == b.block) |>.foldl
      (fun x t => match t.members.findIdx? fun m => m.link == b.link && m.die == b.die && m.block == b.block with
        | some i => x.wearUnit d k t i
        | none => x) ((v.setBlock l.link d k .opened b.qlc .wear).set' l.link d k fun x => { x with
          nextUnit := 0, progUnit := 0, openTick := (v.setBlock l.link d k .opened b.qlc .wear).ck.tick, passed := false })
      |>.setBlock l.link d k .sealed b.qlc .wear)) ∧
  (∀ (s u : State) (n : Nat) (l : Link), u = s.heed (n / 16) → u.link? n = some l → u.mayMove l.hive = true →
    (l.comb == .working || l.comb == .replacement) = true →
    ([false, true].findSome? fun qlc => if (u.wearPick n qlc).1 > u.wearLimit n then (u.wearPick n qlc).2 else none) = none → u.me.wearActive.contains n = true →
    exec (.wearMove n) s = .next ((u.me' fun m => { m with wearActive := m.wearActive.filter (· != n) }).ev0 0x510 .info (le 1 n ++ [0]))) ∧
  (∀ (s t u : State) (l d k pe : Nat) (b : BlockSet), s.set? l d k = some b → b.erased = true → b.state = .freeDirty → s.anchorSet b = false →
    pe = min 0xFFFFFF (b.pe + 1) →
    pe < (if b.qlc then ((((s.link? b.link).map (·.descs)).getD []).getD b.die resetDesc).peQlc
      else ((((s.link? b.link).map (·.descs)).getD []).getD b.die resetDesc).peSlc) → (b.suspect && b.grown ≥ 2) = false →
    t = (s.set' b.link b.die b.block fun x => { x with erasing := false, erased := false, pe := pe }).stat 0x0504 b.link 0 1 →
    t.anchorSet b = false → u = (t.set' b.link b.die b.block fun x => { x with
      suspect := false, state := .free, use := .none, nextUnit := 0, passed := false, qlc := t.eraseMode b, toQlc := false }) →
    u.anchorSet b = false →
    exec (.blockEraseDone l d k) s = .next (u.mapChange 0xFFFF [.blockState b.link b.die b.block .free (u.eraseMode b) .none pe b.grown] [])) ∧
  (∀ (s : State) (l d k : Nat) (b : BlockSet), s.set? l d k = some b → b.erased = true → (b.state == .freeDirty) = true →
    exec (.blockEraseDone l d k) s = .next (s.eraseEnds b))

/-- R324 to R329, R335 to R343, R810: a TASK frame that a bridge accepts and that passes the checks of R810 begins its task on the die, or
suspends or resumes its erase; one of no known opcode is refused, with BAD_OP where its epoch is the comb's and neither the bridge nor the
die has failed; a raise and an adoption take effect under their conditions, and a raise from another epoch is lost; a die ends its read,
program or erase; an erase resumes by itself; the favoured time ends; registers are read. -/
def Obligations.BridgeComplete : Prop :=
  (∀ (s u : State) (n : Nat) (p : Side) (f : LFrame) (b c : Bridge) (i : Instr) (op : TaskOp), AtBridge s n p f b → f.type = 1 → f.op = op.num →
    (i, op) ∈ [(Instr.taskRead n p f, TaskOp.read), (.taskSeqRead n p f, .seqRead), (.taskProgramSlc n p f, .programSlc),
      (.taskProgramQlc n p f, .programQlc), (.taskErase n p f, .erase)] →
    u = (s.bridgeTook n p).cutProgram n p (f.task op) → u.bridge? n = some c → u.judgeTask c p (f.task op) true = none →
    exec i s = .next (u.die' n f.die fun d => (d.unfavour p).begin p (f.task op) u.ck.now)) ∧
  (∀ (s u : State) (n : Nat) (p : Side) (f : LFrame) (b c : Bridge), AtBridge s n p f b → f.type = 1 → f.op = 6 →
    u = (s.bridgeTook n p).cutProgram n p (f.task .eraseSuspend) → u.bridge? n = some c → u.judgeTask c p (f.task .eraseSuspend) true = none →
    exec (.eraseSuspend n p f) s = .next ((u.die' n f.die fun d => (d.unfavour p).suspendBy p (f.task .eraseSuspend) u.ck.now).bridgeDone n p
      (f.task .eraseSuspend) (plainStatus .pass true))) ∧
  (∀ (s u : State) (n : Nat) (p : Side) (f : LFrame) (b c : Bridge) (d : Die) (r : SuspErase), AtBridge s n p f b → f.type = 1 → f.op = 7 →
    u = (s.bridgeTook n p).cutProgram n p (f.task .eraseResume) → u.bridge? n = some c → u.judgeTask c p (f.task .eraseResume) true = none →
    c.die? f.die = some d → d.susp = some r →
    exec (.eraseResume n p f) s = .next (((u.eraseGoesOn n r).die' n f.die fun d =>
      (d.unfavour p).resumeBy p (f.task .eraseResume) u.ck.now).bridgeDone n p (f.task .eraseResume) (plainStatus .pass false))) ∧
  (∀ (s u : State) (n : Nat) (p : Side) (f : LFrame) (b c : Bridge), AtBridge s n p f b → f.type = 1 → taskOpOf f.op = none →
    u = (s.bridgeTook n p).cutProgram n p (f.task .read) → u.bridge? n = some c → f.epoch.toNat = c.epoch → c.failed = false →
    (c.die? f.die).any (·.desc.failed) = false →
    exec (.taskRead n p f) s = .next (u.toHead n p { doneFrame (f.task .read) (plainStatus .badOp ((c.die? f.die).any (·.susp.isSome))).bits with
      op := f.op })) ∧
  (∀ (s u : State) (n : Nat) (p : Side) (f : LFrame) (b c : Bridge) (w : StatusWord) (i : Instr) (op : TaskOp), AtBridge s n p f b → f.type = 1 →
    f.op = op.num →
    (i, op) ∈ [(Instr.taskRead n p f, TaskOp.read), (.taskSeqRead n p f, .seqRead), (.taskProgramSlc n p f, .programSlc),
      (.taskProgramQlc n p f, .programQlc), (.taskErase n p f, .erase), (.eraseSuspend n p f, .eraseSuspend), (.eraseResume n p f, .eraseResume)] →
    u = (s.bridgeTook n p).cutProgram n p (f.task op) → u.bridge? n = some c → u.judgeTask c p (f.task op) true = some w →
    exec i s = .next (u.dieRefuses n p (f.task op) w)) ∧
  (∀ (s : State) (n : Nat) (p : Side) (f : LFrame) (b : Bridge), AtBridge s n p f b → f.type = 1 → f.op = 0x80 →
    b.epoch = f.arg.toNat → b.epoch < 0xFFFFFFFF → b.failed = false → b.storeFault = false →
    exec (.fenceRaise n p f) s = .next (((s.bridgeTook n p).bridge' n fun b => { b with epoch := f.arg.toNat + 1, owner := f.owner }).bridgeDone n p
      (f.task .fenceRaise) (plainStatus .pass false))) ∧
  (∀ (s : State) (n : Nat) (p : Side) (f : LFrame) (b : Bridge), AtBridge s n p f b → f.type = 1 → f.op = 0x81 →
    b.epoch = 0 → b.owner = 0xFFFF → b.failed = false → b.storeFault = false →
    exec (.fenceAdopt n p f) s = .next (((s.bridgeTook n p).bridge' n fun b => { b with epoch := f.arg.toNat, owner := f.owner }).bridgeDone n p
      (f.task .fenceAdopt) (plainStatus .pass false))) ∧
  (∀ (s : State) (n : Nat) (p : Side) (f : LFrame) (b : Bridge), AtBridge s n p f b → f.type = 1 → f.op = 0x80 → b.epoch ≠ f.arg.toNat →
    exec (.fenceRaise n p f) s = .next ((s.bridgeTook n p).bridgeDone n p (f.task .fenceRaise) (plainStatus .fenceLost false))) ∧
  (∀ (s : State) (n d : Nat) (good : Bool) (b : Bridge) (x : Die) (e : DieExec), s.bridge? n = some b → b.powered = true → b.die? d = some x →
    x.exec = some e → e.hdr.op = .read → exec (.dieTaskDone n d good) s = .next (s.endRead n b x e good)) ∧
  (∀ (s : State) (n d : Nat) (good : Bool) (b : Bridge) (x : Die) (e : DieExec), s.bridge? n = some b → b.powered = true → b.die? d = some x →
    x.exec = some e → e.hdr.op = .programSlc → e.hdr.pages.length ≤ e.data.length →
    exec (.dieTaskDone n d good) s = .next (s.endProgram n x e good)) ∧
  (∀ (s : State) (n d : Nat) (good : Bool) (b : Bridge) (x : Die) (e : DieExec), s.bridge? n = some b → b.powered = true → b.die? d = some x →
    x.exec = some e → e.hdr.op = .erase → exec (.dieTaskDone n d good) s = .next (s.endErase n x e good)) ∧
  (∀ (s : State) (n d : Nat) (b : Bridge) (x : Die) (w : SuspErase), s.bridge? n = some b → b.powered = true → b.die? d = some x →
    x.susp = some w → x.exec = none → x.idleSince + 10 * milli ≤ s.ck.now →
    exec (.eraseAutoResume n d) s = .next ((s.eraseGoesOn n w).die' n d (·.resume s.ck.now))) ∧
  (∀ (s : State) (n d : Nat), exec (.favouredPortExpiry n d) s = .next (s.die' n d fun d => { d with favoured := none })) ∧
  (∀ (s u : State) (n count : Nat) (p : Side) (f g : LFrame) (b c : Bridge), f.type = 5 → g = { f with arg := BitVec.ofNat 32 count } →
    AtBridge s n p g b → 1 ≤ count → count ≤ 1024 → u = s.bridgeTook n p → u.bridge? n = some c →
    exec (.regRead n p f count) s = .next (u.toHead n p { bareFrame 6 with
      off := f.off, body := (List.range count).flatMap fun i => le 4 (c.reg p (f.off + 4 * i)).toNat }))

/-- R310 to R319, R330, R346, R347: a frame at the head is taken in sequence and acted on; ACK and NAK free and resend; the resend timer
resends, then retrains; a retrain ends with the other end's Next expected, or the link goes down; a link comes up, or is held where the comb
is not in its place; a deadline fails its task; a bridge starts anew with its supply and reports what befalls it. -/
def Obligations.LinkEndComplete : Prop :=
  (∀ (s u : State) (n : Nat) (f g : LFrame) (vals : List (BitVec 32)) (l : Link), f.type = 6 → g = { f with body := vals.flatMap fun w => le 4 w.toNat } →
    AtHead s n g l u → (regIn f.off vals 0x28).any (·.getLsbD 0) = false →
    exec (.regData n f vals) s = .next ((List.range 128).foldl (fun t d => t.dieRegsTell n f.off vals l.tasks d)
      ((u.link' n (·.regsTaken f.off vals)).fenceRegsTell n f.off vals l.tasks))) ∧
  (∀ (l : Link) (w : BitVec 32), (l.regsTaken 4 [w]).hive = (w.extractLsb' 16 3).toNat ∧ (l.regsTaken 4 [w]).slot = (w.extractLsb' 20 4).toNat ∧
    (l.regsTaken 4 [w]).dieCount = (w.extractLsb' 8 8).toNat) ∧
  (∀ (s u : State) (n : Nat) (p : Side) (f : LFrame) (l : Link), AtHead s n f l u →
    (f.type = 2 → exec (.dataFrame n true p f) s = .next (u.link' n (·.readData f))) ∧
    (f.type = 3 → exec (.pageEnd n true p f) s = .next (u.pageRead n f))) ∧
  (∀ (s : State) (n : Nat) (p : Side) (f : LFrame) (b : Bridge), AtBridge s n p f b →
    (f.type = 2 → exec (.dataFrame n false p f) s = .next ((s.bridgeTook n p).bridgeData n p f)) ∧
    (unknownFrame f.type = true → exec (.dataFrame n false p f) s = .next (s.bridgeUnknown n p f)) ∧
    (f.type = 3 → exec (.pageEnd n false p f) s = .next ((s.bridgeTook n p).bridgeData n p f))) ∧
  (∀ (s : State) (n : Nat) (p : Side) (f : LFrame) (b : Bridge), s.bridge? n = some b → b.powered = true → f.sound = false →
    ∀ act, s.bridgeFrame n p f act = (s.bridge' n fun b => b.port' p fun q => { q with crcErrors := satUp q.crcErrors }).bridgeNak n p) ∧
  (∀ (s u : State) (n : Nat) (f : LFrame) (l : Link) (act : State → State), AtHead s n f l u → s.headFrame n f act = act u) ∧
  (∀ (s u : State) (n : Nat) (f : LFrame) (l : Link) (k : DieTask), AtHead s n f l u → f.type = 4 →
    (((u.link? n).map fun l => l.tasks).getD []).find? (·.hdr.tag == f.tag) = some k →
    exec (.doneFrame n f) s = .next ((u.taskDone n k f.status).issueAll)) ∧
  (∀ (s u : State) (n : Nat) (f : LFrame) (l : Link), AtHead s n f l u → f.type = 7 → fld f.body 0 2 = 2 →
    exec (.bridgeEvent n f) s = .next ((u.ev0 0x609 .error (le 2 2 ++ le 1 n ++ le 1 (fld f.body 2 1))).markFailed n)) ∧
  (∀ (s : State) (n : Nat) (p : Side) (f : LFrame) (l : Link) (b : Bridge), f.type = 0x10 → f.sound = true → f.ackValid = false →
    (s.link? n = some l → exec (.hello n true p f) s = .next (s.helloAtHead n f)) ∧
    (s.bridge? n = some b → b.powered = true → exec (.hello n false p f) s = .next (s.helloAtBridge n p f))) ∧
  (∀ (s : State) (n : Nat) (f : LFrame) (l : Link), s.link? n = some l → fld f.body 0 1 = 1 → fld f.body 1 1 ≠ sideN s.pr.side →
    s.helloAtHead n f = (s.link' n fun l => { l with state := .held, since := s.ck.now }).ev0 0x605 .error (le 1 n)) ∧
  (∀ (s : State) (n : Nat) (p : Side) (f : LFrame) (l : Link) (b : Bridge), f.type = 0x11 → f.sound = true → f.ackValid = true →
    (s.link? n = some l → exec (.linkAck n true p f) s = .next ((s.link' n (·.acked f.ack)).headPump n)) ∧
    (s.bridge? n = some b → b.powered = true →
      exec (.linkAck n false p f) s = .next ((s.bridge' n fun b => b.port' p (·.acked f.ack)).bridgePump n p))) ∧
  (∀ (s : State) (n : Nat) (p : Side) (f : LFrame) (l : Link) (b : Bridge), f.type = 0x12 → f.sound = true → f.ackValid = false →
    (s.link? n = some l → exec (.linkNak n true p f) s = .next ((s.headAgain n f.ack).headPump n)) ∧
    (s.bridge? n = some b → b.powered = true → exec (.linkNak n false p f) s =
      .next (((s.bridge' n fun b => b.port' p (·.acked f.ack)).bridgeAgain n p f.ack).bridgePump n p))) ∧
  (∀ (s : State) (n : Nat) (l : Link), s.link? n = some l → l.state = .up → l.unacked ≠ [] → l.resends < 8 →
    exec (.linkResendTimer n) s = .next ((s.link' n fun l => { l with resends := l.resends + 1 }).resendFrames n l.unacked)) ∧
  (∀ (s : State) (n : Nat) (l : Link), s.link? n = some l → l.state = .up → l.unacked ≠ [] → 8 ≤ l.resends →
    exec (.linkResendTimer n) s = .next (s.startRetrain n)) ∧
  (∀ (s : State) (n : Nat), exec (.blockLockLost n) s = .next (s.startRetrain n)) ∧
  (∀ (s : State) (n : Nat) (x : BitVec 12) (l : Link), s.link? n = some l → l.state = .retraining →
    exec (.retrain n x) s = .next (((s.bridgeHello n s.pr.side (b2n l.half) 1).retrained n x).bridgeRetrained n s.pr.side l.rxSeq)) ∧
  (∀ (s : State) (n : Nat) (l : Link), s.link? n = some l → l.state = .retraining → l.since + 10 * milli ≤ s.ck.now →
    exec (.retrainTimeout n) s = .next (s.linkDown n)) ∧
  (∀ (s : State) (n : Nat) (l : Link) (b : Bridge), n < 128 → s.link? n = some l → s.bridge? n = some b → l.state = .down → b.powered = true →
    16 * b.hive + b.slot = n → (s.cl.peerSerials.any fun e => e.2 == b.serial && e.1 != n) = false →
    exec (.combLinkBringUp n true) s = .next (s.linkUp n b)) ∧
  (∀ (s : State) (n : Nat) (l : Link) (b : Bridge), n < 128 → s.link? n = some l → s.bridge? n = some b → l.state = .down → b.powered = true →
    (16 * b.hive + b.slot ≠ n ∨ (s.cl.peerSerials.any fun e => e.2 == b.serial && e.1 != n) = true) → exec (.combLinkBringUp n true) s = .next ((s.link' n fun l => { l with
      state := .held, since := s.ck.now, bridgeSeen := true }).ev0 0x604 .error (le 1 n ++ le 1 b.hive ++ le 1 b.slot))) ∧
  (∀ (s : State) (n : Nat) (l : Link), s.link? n = some l → l.state = .down → l.since + second ≤ s.ck.now →
    exec (.linkRetryTimer n) s = .next ((s.link' n fun l => { l with state := .adapting, since := s.ck.now }).headHello n 0)) ∧
  (∀ (s : State) (n t : Nat) (l : Link), s.link? n = some l → l.state = .down → l.downSince = some t → t + 5 * second < s.ck.now →
    ((s.hive? l.hive).bind (·.block)).any (·.power == 2) = true → l.tasks = [] →
    exec (.linkDownTimeout n) s = .next (((s.markFailed n).link' n fun l => { l with tasks := [] }).judgeHive l.hive)) ∧
  (∀ (s : State) (n tag : Nat) (l : Link) (k : DieTask), s.link? n = some l → l.tasks.find? (·.hdr.tag == tag) = some k →
    k.deadline ≤ s.ck.now → k.use = .suspend → k.reissueAt = none → l.state = .up → ((s.hive? l.hive).bind (·.block)).any (·.power == 2) = true →
    exec (.taskDeadline n tag) s = .next (s.taskFailed n k)) ∧
  (∀ (s : State) (n : Nat) (b : Bridge) (l : Link), s.bridge? n = some b → b.powered = false → s.link? n = some l → l.tasks = [] →
    exec (.bridgePowerUp n) s = .next ((((s.bridge' n fun b => { b with
      powered := true, failed := false, storeFault := false, events := [], portA := resetPort, portB := resetPort
      dies := b.dies.map (·.poweredUp s.ck.now) }).withLink n).link' n fun l => { l with
        state := .adapting, since := s.ck.now, unacked := [], waiting := [], txSeq := 0, rxSeq := 0, tasks := [] }).headHello n 0)) ∧
  (∀ (s : State) (n detail : Nat) (b : Bridge), s.bridge? n = some b → b.powered = true →
    exec (.bridgeHealthChange n 2 0 detail) s = .next (((s.bridge' n fun b => { b with
      events := b.events.filter (fun x => !(x.1 == 2 && x.2.1 == 0xFF)) ++ [(2, 0xFF, detail)]
      failed := true, storeFault := b.storeFault || false, temp := b.temp, dies := b.dies.map fun d => d }).bridgeEventFrame n .a
        (2, 0xFF, detail)).bridgeEventFrame n .b (2, 0xFF, detail)))

/-- R354, R356, R358, R359, R384: a request with a new sequence is executed and its reply stored, a repeat gets the stored reply; a lost input
leaves the slots on the reserve until that is spent; the input's return and the end of powering follow the votes; slots without power leave
their combs dark. -/
def Obligations.ShelvesComplete : Prop :=
  (∀ (s : State) (h q : Nat) (x : Shelf), s.shelf? h = some x → (x.lastA.filter (·.seq == q)) = none →
    exec (.hcbStatus h .a q) s = .next ((s.shelf' h fun _ => { x with lastA := some ⟨q, 0, x.status s.ck.now⟩ }).send
      (.shelfReply h .a ⟨q, 0, x.status s.ck.now⟩))) ∧
  (∀ (s : State) (h q : Nat) (up : Bool) (x y : Shelf), s.shelf? h = some x → (x.lastA.filter (·.seq == q)) = none → y = x.vote .a up s.ck.now →
    exec (.hcbVote h .a q up) s = .next ((s.shelf' h fun _ => { y with lastA := some ⟨q, 0, y.status s.ck.now⟩ }).send
      (.shelfReply h .a ⟨q, 0, y.status s.ck.now⟩))) ∧
  (∀ (s : State) (h q : Nat) (sd : Side) (x y : Shelf), s.shelf? h = some x → (x.lastB.filter (·.seq == q)) = none →
    y = x.vote sd false s.ck.now →
    exec (.hcbVoteClear h .b q sd) s = .next ((s.shelf' h fun _ => { y with lastB := some ⟨q, 0, y.status s.ck.now⟩ }).send
      (.shelfReply h .b ⟨q, 0, y.status s.ck.now⟩))) ∧
  (∀ (s : State) (h q : Nat) (up : Bool) (sd : Side) (x : Shelf) (r : ShelfReply), s.shelf? h = some x → (x.lastA.filter (·.seq == q)) = some r →
    exec (.hcbStatus h .a q) s = .next (s.send (.shelfReply h .a r)) ∧ exec (.hcbVote h .a q up) s = .next (s.send (.shelfReply h .a r)) ∧
    exec (.hcbVoteClear h .a q sd) s = .next (s.send (.shelfReply h .a r))) ∧
  (∀ (x : Shelf) (now : Nat), (x.block.voteA || x.block.voteB) = true → x.block.power = 0 → x.inputOk = true → x.heed now = x.power 1 now) ∧
  (∀ (x : Shelf) (now : Nat), (x.block.voteA || x.block.voteB) = true → x.block.power = 3 → x.heed now = x.power 2 now) ∧
  (∀ (x : Shelf) (now : Nat), (x.block.voteA || x.block.voteB) = false → x.block.power = 2 → x.heed now = x.power 3 now) ∧
  (∀ (s : State) (h : Nat), exec (.shelfInputFailure h) s = .next (s.shelf' h fun x =>
    if x.block.power == 3 then { x with inputOk := false, block := { x.block with inputMv := 0, inputMa10 := 0, inputW := 0 } }
    else { x with inputOk := false, block := { x.block with inputMv := 0, inputMa10 := 0, inputW := 0 } }.power 4 s.ck.now)) ∧
  (∀ (s : State) (h : Nat) (x : Shelf), s.shelf? h = some x → x.inputOk = false →
    exec (.holdupReserveSpent h) s = .next ((s.shelf' h fun x => { x with block := { x.block with
      good := 0, holdupMs := 0, holdupFlags := x.block.holdupFlags &&& 0xFE#8 } }.power 0 s.ck.now).combsOff h)) ∧
  (∀ (s : State) (h : Nat), exec (.shelfInputReturn h) s = .next (s.shelf' h fun x =>
    if x.inputOk then x
    else if x.block.voteA || x.block.voteB then { x with inputOk := true }.power 1 s.ck.now
    else if x.block.power == 3 then { x with inputOk := true }
    else { x with inputOk := true }.power 0 s.ck.now)) ∧
  (∀ (s : State) (h : Nat) (g : BitVec 16), exec (.slotsPowered h g) s = .next (s.shelf' h fun x =>
    if x.block.power == 1 then { x with block := { x.block with good := g &&& x.block.populated } }.power 2 s.ck.now else x)) ∧
  (∀ (s : State) (h : Nat) (x : Shelf), s.shelf? h = some x → x.block.power = 3 →
    exec (.slotsPowerRemoved h) s = .next ((s.shelf' h fun x => { x with block := { x.block with good := 0 } }.power 0 s.ck.now).combsOff h))

/-- R352 to R379: a poll sends what is queued, a vote that is wanted, or STATUS to the next hive; a reply is taken as the hive's block; an
unanswered request is sent again with its sequence; a silent shelf is a FAULT after 100 ms; a wake fails at 30 s and is tried again after
60 s; an idle hive darkens; gather reads end at their deadline; tokens are renewed, asked for again, and lapse. -/
def Obligations.HivePowerComplete : Prop :=
  (∀ (s : State) (b : Nat) (q : BusReq), b < 2 → s.onBus = true → (s.hv.reqs.find? fun q => q.bus == b && q.tries == 0) = some q →
    exec (.hcbPoll b) s = .next ((s.hv' fun v => { v with reqs := updFirst (· == q) (fun x => { x with tries := 1 }) v.reqs }).send
      (.hcb b q.hive q.cmd q.arg q.seq))) ∧
  (∀ (s : State) (b h : Nat), b < 2 → s.onBus = true → (s.hv.reqs.find? fun q => q.bus == b && q.tries == 0) = none →
    (s.hv.hives.find? fun h => busOf h.id == b && (h.wanted == some false || (h.wanted == some true && s.mayVoteUp h.id &&
      !(h.state == .darkening && h.darkPoint)))) = none →
    nextHive ((s.hv.hives.filter fun h => h.inService).map (·.id)) b 4 (s.hv.pollNext.getD b (4 * b)) = some h →
    exec (.hcbPoll b) s = .next ((s.hv' fun v => { v with
      pollNext := v.pollNext.set b (4 * b + (h + 1) % 4), reqs := v.reqs.filter fun q => !(q.hive == h && q.cmd == 1) }).busSend h 1 0)) ∧
  (∀ (s u : State) (h q st : Nat) (b : ShelfBlock) (r : BusReq), (s.hv.reqs.find? fun r => r.hive == h && r.seq == q && r.tries != 0) = some r →
    (st = 0 ∨ st = 1 ∨ st = 2) → u = ((s.hv' fun v => { v with reqs := v.reqs.erase r }).takeBlock h b).polled h →
    (u.hive? h).any Hive.serves = true →
    exec (.hcbReply h q st b) s = .next (u.serveGather h).serveAsks) ∧
  (∀ (s : State) (b q : Nat) (r : BusReq), (s.hv.reqs.find? fun r => r.bus == b && r.seq == q && r.tries != 0) = some r → s.onBus = true →
    (r.cmd == 2 && r.arg == 1 && !s.mayVoteUp r.hive) = false →
    exec (.hcbRequestRetry b q) s = .next (((s.hv' fun v => { v with
      reqs := updFirst (· == r) (fun x => { x with tries := x.tries + 1 }) v.reqs }).bump 0x0706 b 1 1).send (.hcb b r.hive r.cmd r.arg r.seq))) ∧
  (∀ (s : State) (n : Nat) (h : Hive), s.hive? n = some h → (h.state == .fault) = false → h.inService = true →
    h.lastReply + 100 * milli ≤ s.ck.now →
    exec (.shelfSilentTimeout n) s = .next ((((s.hive' n fun x => { x with state := .fault }).ev0 0x707 .error (le 1 n)).tideSwap n).polled n)) ∧
  (∀ (s : State) (n : Nat) (h : Hive), s.hive? n = some h → (h.state == .waking) = true → h.voteAt + 30 * second ≤ s.ck.now →
    exec (.wakeTimeout n) s = .next ((((s.hive' n fun x => { x with
      state := .fault, wakeFailedAt := some s.ck.now, wanted := if x.brood then x.wanted else some false }).ev0 0x703 .error (le 1 n)).bump
        0x0707 n 0 1).tideSwap n)) ∧
  (∀ (s : State) (n t p : Nat) (h : Hive), s.hive? n = some h → h.wakeFailedAt = some t → s.topNeed h = some p → h.brood = false →
    h.voteUp = false → t + 60 * second ≤ s.ck.now →
    exec (.wakeRetry n) s = .next ((s.hive' n fun x => { x with wakeFailedAt := none, warned15 := false }).askWake n p)) ∧
  (∀ (s : State) (n : Nat) (h : Hive), s.hive? n = some h → h.brood = false → s.owns (.honey n) = true → h.darkDecided = false →
    (h.state == .ready) = true → s.topNeed h = none →
    h.idleSince + (if s.co.member && s.co.autonomyDone then 0 else s.setting 0x04000020 * second) ≤ s.ck.now →
    exec (.hiveIdleDarkExpiry n) s = .next (s.decideDark n)) ∧
  (∀ (s : State) (n : Nat) (h : Hive), s.hive? n = some h → h.darkDecided = true → h.darkPoint = false → h.voteUp = true →
    s.busyHive n = false → h.gather = [] → h.rebuildNeed = false → (s.me.rows.any fun r => r.hive == n) = false →
    s.hasOpen n = false → s.onBus = true → exec (.darkPoint n) s = .next (s.sendVote n false)) ∧
  (∀ (s : State) (n : Nat), exec (.gatherWakeTrigger n) s = .next (s.judgeGather n)) ∧
  (∀ (s u : State) (k q i nsid a b : Nat) (c : HostCmd) (hs : List Hive), s.cmd? k q i = some c → c.deadline ≤ s.ck.now → c.kind = .read nsid a b →
    hs = (s.hv.hives.filter fun h => h.gather.any fun g => g.isOf k q i) → hs ≠ [] →
    (hs.any fun h => h.gather.any fun g => g.isOf k q i && g.noToken) = false → u = hs.foldl (fun t h => t.stat 0x0704 h.id 2 1) s →
    exec (.gatherDeadline k q i) s = .next (((u.countWait nsid nvWouldWait).leaveGather k q i).failCmd k q i nvWouldWait.1 nvWouldWait.2.1
      nvWouldWait.2.2)) ∧
  (∀ (s : State) (n a e p : Nat) (h : Hive), s.hive? n = some h → h.token = some (a, e) → s.topNeed h = some p → s.co.reachable = true →
    h.tokenAsked = none → h.tokenGot + (e - h.tokenGot) * 3 / 4 ≤ s.ck.tick → h.darkDecided = false →
    exec (.tokenRenewal n) s = .next (s.askToken n p)) ∧
  (∀ (s : State) (n t p : Nat) (h : Hive), s.hive? n = some h → h.tokenAsked = some t → s.topNeed h = some p → h.tokenRefused = true →
    s.co.reachable = true → t + 10 * second ≤ s.ck.now → exec (.tokenRequestRetry n) s = .next (s.askToken n p)) ∧
  (∀ (s : State) (n a e : Nat) (h : Hive), s.hive? n = some h → h.token = some (a, e) → s.co.reachable = true → e ≤ s.ck.tick →
    exec (.workerTokenExpiry n) s = .next ((s.hive' n fun x => { x with token := none, tokenAsked := none, dormancyTo := 1 }).decideDark n)) ∧
  (∀ (s : State) (t : Nat), s.co.lastContact = some t → s.co.member = true → s.co.reachable = false → s.co.autonomyDone = false →
    t + 86400 * second ≤ s.ck.now →
    exec .queenAutonomyEnd s = .next ((s.co' fun c => { c with autonomyDone := true }).ev0 0x70B .error []))

/-- R557, R588 to R609 at the queen: JOIN takes a free apiary ID; LEAVE drops a member; CONTACT goes to every worker head each second; REPORT
is taken in; a request is judged for a token, and a held one refused after 60 s; a dormancy reply and an expiry end a token; two reports
of a pair give one winner; a version is noted, and a fallback halts the rollout; the next wave opens after the soak; any message of a higher
epoch deposes the queen. -/
def Obligations.ColonyQueenComplete : Prop :=
  (∀ (s : State) (a ser ha hb : Nat) (ads : List Bytes), s.isQueen = true → a ≠ 0 → a ≤ 127 →
    (s.queen.members.any fun m => m.apiary == a && !m.vacated) = false →
    exec (.join s.epochLow a ser ha hb ads) s = .next ((s.listChange (.queenMember { newMember a ser ads false with headA := ha, headB := hb })
      [.col ha (.joinReply true 0 s.queen.epoch s.classSix)]).ev0 0xC00 .notice (le 1 a ++ le 1 1))) ∧
  (∀ (s : State) (a ser ha hb : Nat) (ads : List Bytes), s.isQueen = true → (s.queen.members.any fun m => m.apiary == a && !m.vacated) = true →
    exec (.join s.epochLow a ser ha hb ads) s = .next (s.send (.col ha (.joinReply false (vstat .exists) s.queen.epoch [])))) ∧
  (∀ (s : State) (a : Nat), s.isQueen = true → a ≠ 0 → s.queen.members.any (·.apiary == a) = true →
    exec (.leave s.epochLow a) s = .next (((s.listChange (.queenMemberEnd a) []).co' fun c => { c with qHeld := c.qHeld.filter (·.apiary != a) }).ev0
      0xC00 .notice (le 1 a ++ le 1 0))) ∧
  (∀ (s u : State), s.isQueen = true → (s.co.lastContact.getD 0) + second ≤ s.ck.now → u = s.co' (fun c => { c with lastContact := some s.ck.now }) →
    exec .contactSend s = .next (u.co.workerHeads.foldl (fun t h =>
      (t.stat 0x0C03 h 0 1).send (.col h (.contact t.co.epoch t.headId t.co.settingsGen (t.waveGate (h / 2))))) u)) ∧
  (∀ (s t : State) (r : Report7) (m : Member7), s.isQueen = true → s.queen.member? r.apiary = some m → r.keyGen ≤ s.colonyGen → r.tokens = [] →
    t = (s.control 0xFFFF (.queenMember { m with power := r.power, peaks := newPeaks m r.power, keyGen := r.keyGen, vacated := false }) []) →
    r.keyGen ≤ (t.control 0xFFFF (.queenEntries r.apiary (r.domains.map fun e => { e with apiary := r.apiary, tick := t.ck.tick })) []).colonyGen →
    exec (.report s.epochLow r) s = .next ((t.control 0xFFFF (.queenEntries r.apiary (r.domains.map fun e => { e with
        apiary := r.apiary, tick := t.ck.tick })) []).announceKey)) ∧
  (∀ (s : State) (a h v p n : Nat), s.isQueen = true → exec (.tokenRequest s.epochLow a h v p n) s = .next (s.judgeToken a h v p n)) ∧
  (∀ (s : State) (a n : Nat) (h : HeldReq), (s.co.qHeld.find? fun h => h.apiary == a && h.num == n) = some h → s.isQueen = true →
    h.atNs + 60 * second ≤ s.ck.now →
    exec (.heldTokenRequestTimeout a n) s = .next ((s.co' fun c => { c with qHeld := c.qHeld.erase h }).refuseToken a h.head n)) ∧
  (∀ (s : State) (i : Nat), s.isQueen = true → exec (.colonyDormant s.epochLow i) s = .next (s.tokenDormant i)) ∧
  (∀ (s : State) (i : Nat) (t : WakeToken), s.queen.qTokens.find? (·.id == i) = some t → s.isQueen = true → t.expiry ≤ s.ck.tick →
    exec (.queenTokenExpiry i) s = .next (s.control 0xFFFF (.queenTokenEnd i) [])) ∧
  (∀ (s : State) (h : Nat) (r : Bool), s.isQueen = true → s.co.arbiters.find? (·.1 == otherHead h) = none →
    exec (.arbitrate s.epochLow h r) s = .next (s.co' fun c => { c with arbiters := c.arbiters.filter (·.1 != h) ++ [(h, r)] })) ∧
  (∀ (s : State) (h : Nat) (o : Nat × Bool), s.isQueen = true → s.co.arbiters.find? (·.1 == otherHead h) = some o → o.2 = false →
    exec (.arbitrate s.epochLow h true) s = .next (((s.co' fun c => { c with arbiters := c.arbiters.filter (·.1 != o.1) }).send (.col h (.elect h))).send
      (.col o.1 (.elect h)))) ∧
  (∀ (s : State) (h v : Nat) (m : Member7) (hs : List (Nat × Nat × Bool)), s.isQueen = true → s.queen.member? (h / 2) = some m →
    hs = m.heads.filter (·.1 != h % 2) ++ [(h % 2, v, false)] →
    ([0, 1].all fun (i : Nat) => hs.any fun x => x.1 == i && x.2.1 == v && x.2.2) = false →
    exec (.updateState s.epochLow h v true false) s = .next (s.control 0xFFFF (.queenMember { m with
      version := v, heads := hs, confirmed := false, confirmedAt := m.confirmedAt }) [])) ∧
  (∀ (s : State), s.isQueen = true → s.queen.rolling = true → s.queen.haltedRollout = false → s.queen.waves ≤ s.lastWave →
    (s.queen.members.filter fun m => !m.vacated && s.waveOf m.apiary < s.queen.waves) = [] →
    exec .rolloutWaveOpen s = .next ((s.control 0xFFFF (.queenRollout (s.queen.waves + 1) false) []).ev0 0xC08 .notice (le 1 s.queen.waves))) ∧
  (∀ (s : State) (ep a ser ha hb h v p n : Nat) (ads : List Bytes) (r : Report7) (b d : Bool), s.isQueen = true → s.epochLow < ep →
    ∀ c ∈ [Instr.join ep a ser ha hb ads, .leave ep a, .report ep r, .tokenRequest ep a h v p n, .colonyDormant ep n, .arbitrate ep h b,
      .updateState ep a v b d], exec c s = .next (s.deposeBy (s.epochOf ep)))

/-- R372 to R379, R586 to R606 at a worker: a JOIN_REPLY of the epoch accepts or ends the join; CONTACT makes the queen reachable, and 10 s
without it unreachable, its tokens suspended; a grant gives the hive its token and a refusal is noted with E708 or E709; a recall darkens the
hive; settings of class 0x06 and the apiary list are taken over; a colony key that lags a day gives EC06 once; a message of a lower epoch
changes nothing. -/
def Obligations.ColonyWorkerComplete : Prop :=
  (∀ (s u : State) (w : Waiter) (is : List (Nat × Bytes)) (a t c e : Nat), s.co.joinWait = some (w, a, t) → s.co.epoch ≤ e →
    u = s.co' (fun c => { c with joinWait := none }) →
    exec (.joinReply true c e is) s = .next (((u.takeSix is).co' fun c => { c with epoch := e }).ownInternal true
      ⟨apiaryItem, 3, le 1 0 ++ le 1 a ++ le 4 e⟩ [.final w .success []])) ∧
  (∀ (s u : State) (w : Waiter) (is : List (Nat × Bytes)) (a t c e : Nat), s.co.joinWait = some (w, a, t) → s.co.epoch ≤ e → c ≠ vstat .paramInvalid →
    u = s.co' (fun c => { c with joinWait := none }) → exec (.joinReply false c e is) s = .next (u.replyTo w .exists [])) ∧
  (∀ (s : State) (src e g : Nat) (o : Bool), s.co.member = true → s.co.epoch ≤ e → s.co.queenHead = false → s.co.reachable = true →
    s.co.lastContact.isNone = false → g = s.co.settingsGen →
    exec (.contact src e g o) s = .next ((s.stat 0x0C03 src 1 1).co' fun c => { c with
      lastContact := some (s.stat 0x0C03 src 1 1).ck.now, reachable := true, epoch := e, gateOpen := o, settingsGen := g })) ∧
  (∀ (s : State) (src e g : Nat) (o : Bool), s.co.member = true → s.co.epoch < e → s.co.queenHead = true →
    exec (.contact src e g o) s = .next (s.deposeBy e)) ∧
  (∀ (s : State) (t : Nat), s.co.member = true → s.co.reachable = true → s.co.queenHead = false → s.co.lastContact = some t →
    t + 10 * second ≤ s.ck.now → exec .queenUnreachable s = .next (((s.co' fun c => { c with
      reachable := false, tokens := c.tokens.map fun t => if t.state = 1 then { t with state := 3 } else t }).ev0 0xC01 .notice (le 1 0)).ev0
        0x70A .notice [])) ∧
  (∀ (s u : State) (t : WakeToken) (aut : Nat) (h : Hive), s.co.member = true → t.apiary = s.pr.apiary → s.hive? t.hive = some h → h.waiters = [] →
    h.darkDecided = true → u = (s.co' fun c => { c with
      autonomy := aut, reqs := c.reqs.filter (·.2.1 != t.hive), tokens := tokenPut (c.tokens.filter (·.hive != t.hive)) t }) →
    exec (.tokenGrant s.epochLow t aut) s = .next ((u.hive' t.hive fun x => { x with
      token := some (t.prio, t.expiry), tokenGot := t.granted, tokenAsked := none, tokenRefused := false
      gather := x.gather.map fun g => { g with noToken := false } }).hive' t.hive fun x => { x with waiters := [] })) ∧
  (∀ (s : State) (n c h : Nat) (v : Hive), s.co.reqs.find? (·.1 == n) = some (n, h, 0) → 
    (((s.co' fun c => { c with reqs := c.reqs.filter (·.1 != n) }).stat 0x0705 0 1 1).hive? h) = some v → v.waiters = [] →
    exec (.tokenRefuse s.epochLow n c) s = .next ((((s.co' fun c => { c with reqs := c.reqs.filter (·.1 != n) }).stat 0x0705 0 1 1).hive' h fun x => { x with
      tokenRefused := true, waiters := x.waiters.filter (·.opcode != 0x0402)
      gather := x.gather.map fun g => { g with noToken := true } }).ev0 0x709 .warn (le 1 h ++ le 1 0 ++ le 1 c))) ∧
  (∀ (s : State) (i : Nat) (t : WakeToken), s.co.tokens.find? (·.id == i) = some t →
    exec (.tokenRecall s.epochLow i) s = .next ((((s.co' fun c => { c with
      tokens := updFirst (·.id == i) (fun t => { t with state := 2 }) c.tokens }).stat 0x0705 0 2 1).hive' t.hive fun x => { x with
        dormancyTo := 1 }).decideDark t.hive)) ∧
  (∀ (s t : State) (g k : Nat) (is : List (Nat × Bytes)), s.co.member = true → s.co.queenHead = false → is.any (·.1 == apiaryListItem) = false →
    is.filter (·.1 == queenItem) = [] →
    s.ks.colony.pend = none → k ≤ s.colonyGen → t.colonyGen = s.colonyGen → t = ((s.takeSix is).co' fun c => { c with settingsGen := g }) →
    exec (.colonySettings s.epochLow g is k) s = .next t) ∧
  (∀ (s : State) (t : Nat), s.co.lagSince = some t → t + 86400 * second ≤ s.ck.now → s.co.lagSaid = false → s.md.stopped = false →
    exec .colonyKeyLagTimeout s = .next ((s.co' fun c => { c with lagSaid := true }).ev0 0xC06 .warn [])) ∧
  (∀ (s : State) (ep n d : Nat) (t : WakeToken) (is : List (Nat × Bytes)), ep < s.epochLow →
    ∀ c ∈ [Instr.tokenGrant ep t n, .tokenRefuse ep n d, .tokenRecall ep n, .colonySettings ep n is d], exec c s = .next s)

/-- R480 to R512: a packet of any operation is taken in by the checks of the arrival; an acknowledgement frees what it names, counts, and
samples the path; each NAK code has its action; posted entries enter the queue while it has room; the timers resend with twice the timeout,
give a message up at 80 ms and break a connection at 100 ms; tables age; a fetched context takes its held packets; an idle path is freed. -/
def Obligations.ForageComplete : Prop :=
  (∀ (s : State) (p : FPkt) (c : Option ShadowRec) (j : Option JournalEntry), s.md.stopped = false →
    exec (.forageWrite p c j) s = .next (s.arrive { p with op := 1 } c j) ∧
    exec (.writeImm p) s = .next (s.arrive { p with op := 2 } none none) ∧
    exec (.readReq p) s = .next (s.arrive { p with op := 3 } none none) ∧
    exec (.readResp p) s = .next (s.arrive { p with op := 4 } none none)) ∧
  (∀ (s : State) (p : FPkt) (c : Option ShadowRec) (j : Option JournalEntry), p.port < 4 → p.magicOk = false →
    s.arrive p c j = (s.stat 0x0901 0 1 1).bump 0x0909 0 0 1) ∧
  (∀ (s u : State) (p g : FPkt) (n rx echo : Nat) (id : BitVec 32) (map : BitVec 64) (c : Ctx), s.md.stopped = false →
    g = p.ackOf n id rx map echo → s.checkPkt g g.fitsAnswer = (u, true) →
    u.ctx? n = some c → c.farHead = g.srcHead → c.farCtx = g.srcCtx → (c.state == .bound) = true → u.pr.declared = false →
    exec (.forageAck p n id rx map echo) s = .next (u.forageAck c (BitVec.ofNat 32 (fld g.payload 0 4)) (fld g.payload 20 4)
      (BitVec.ofNat 64 (fld g.payload 4 8)) (fld g.payload 12 8))) ∧
  (∀ (s u : State) (p g : FPkt) (n rx echo : Nat) (id : BitVec 32) (map : BitVec 64), s.md.stopped = false →
    g = p.ackOf n id rx map echo → s.checkPkt g g.fitsAnswer = (u, false) → exec (.forageAck p n id rx map echo) s = .next u) ∧
  (∀ (s u : State) (p g : FPkt) (n code off map : Nat) (id : BitVec 32) (c : Ctx), s.md.stopped = false →
    g = p.nakOf n id code off map → s.checkPkt g g.fitsAnswer = (u, true) →
    u.ctx? n = some c → c.farHead = g.srcHead → c.farCtx = g.srcCtx → (c.state == .bound) = true →
    (∀ m, fld g.payload 0 2 = 1 → c.sent.find? (·.id == BitVec.ofNat 32 (fld g.payload 4 4)) = some m →
      exec (.forageNak p n id code off map) s = .next (u.resendMissing c m (fld g.payload 8 4) (fld g.payload 12 8))) ∧
    (fld g.payload 0 2 = 7 → exec (.forageNak p n id code off map) s = .next (u.ctx' c.id fun x => { x with
      sent := updFirst (fun (m : SentMsg) => m.id == p.msgId) (fun m => { m with rnrUntil := some (u.ck.now + fld g.payload 4 4 * 1000) }) x.sent })) ∧
    ((fld g.payload 0 2 = 2 ∨ fld g.payload 0 2 = 3 ∨ fld g.payload 0 2 = 4 ∨ fld g.payload 0 2 = 8) →
      exec (.forageNak p n id code off map) s = .next (u.failCtx c (fld g.payload 0 2))) ∧
    (fld g.payload 0 2 = 6 → exec (.forageNak p n id code off map) s = .next u)) ∧
  (∀ (s : State) (n : Nat) (es : List WorkEntry) (c : Ctx), s.ctx? n = some c → s.md.stopped = false →
    exec (.sendQueuePost n es) s = .next ((s.ctx' n fun x => { x with sq := x.sq ++ es.take (2 ^ c.sqSize - c.sq.length) }).pump n)) ∧
  (∀ (s u : State) (n : Nat) (c : Ctx), s.ctx? n = some c → s.md.stopped = false → c.sent ≠ [] → c.readWait = none → (c.state == .bound) = true →
    (c.rto < milli ∨ c.rtoAt ≤ s.ck.now) → u = s.ctx' n (fun x => { x with rto := min (2 * c.rto) (10 * milli), rtos := x.rtos + 1, rtoAt := s.ck.now + min (2 * c.rto) (10 * milli) }) →
    (u.path? c.path).any (·.fabric) = false → exec (.retransmissionTimeout n) s = .next (u.resendMsgs c c.toResend)) ∧
  (∀ (s : State) (n : Nat) (c : Ctx) (m : SentMsg) (ms : List SentMsg), s.ctx? n = some c → c.sent = m :: ms → s.md.stopped = false →
    m.origin + 80 * milli ≤ s.ck.now → exec (.messageGiveUp n) s = .next (s.breakSend c statusTimeout c.sent)) ∧
  (∀ (s : State) (n : Nat) (c : Ctx), s.ctx? n = some c → s.md.stopped = false → c.broken = false →
    (c.placing.any fun m => m.op != 4 && m.whole && m.id != c.nextVisible && m.origin + 100 * milli ≤ s.ck.now) = true →
    (c.placing.find? fun m => m.op != 4 && m.id == c.nextVisible) = none →
    exec (.connectionBreak n) s = .next ((((s.ctx' n fun x => { x with
      placing := x.placing.filter (·.op == 4), naks := [], broken := true, gaveUp := true }).ev0 0x901 .warn (le 2 n ++ le 2 c.farHead)).bump
        0x090C 0 0 1).resumeTo c.farHead)) ∧
  (∀ (s : State) (n : Nat) (c : Ctx), s.ctx? n = some c → s.md.stopped = false → (c.state == .bound) = true →
    (c.sent.filter fun m => m.rnrUntil.isSome) ≠ [] →
    exec (.rnrBackoffExpiry n) s = .next ((s.ctx' n fun x => { x with sent := x.sent.map fun m => { m with rnrUntil := none } }).resendMsgs c
      (c.sent.filter fun m => m.rnrUntil.isSome))) ∧
  (∀ (s u : State), u = s.fg' (fun g => { g with recent := s.youngIds, recentFull := g.recentFull && 1048576 ≤ s.youngIds.length }) →
    u.fg.recentFull = false →
    exec .recentIdAging s = .next ((u.fg.ctxs.filter (!·.placing.isEmpty)).foldl (fun t c => t.showMsgs c.id 0 false) u)) ∧
  (∀ (s : State) (n : Nat) (c : Ctx), s.ctx? n = some c → c.resident = false → s.md.stopped = false →
    exec (.contextFetchDone n) s = .next ((s.fg.holding.filter (·.dstCtx == n)).foldl (fun t p => t.arrive7 p none none)
      ((((s.ctx' n fun x => { x with resident := true, lastUse := s.ck.now }).stat 0x0905 0 0 1).fg' fun g => { g with
        holding := g.holding.filter (·.dstCtx != n) }).evictOne))) ∧
  (∀ (s : State) (n : Nat) (c : Ctx), s.ctx? n = some c → c.pinned = false → c.resident = false → s.md.stopped = false →
    exec (.contextFail n) s = .next (s.failCtx c 0x81)) ∧
  (∀ (s : State) (n : Nat) (p : Path), s.path? n = some p → s.pr.joined = false → s.pathInFlight n = 0 → p.lastUse + second ≤ s.ck.now →
    exec (.pathIdleFree n) s = .next (s.fg' fun g => { g with paths := g.paths.filter (·.id != n) }))

/-- R518 to R536: a set-up that nothing stands in the way of makes a replica; its reply starts the base pass; positions are asked and told;
chunks are offered, asked for, sent and checked; batches are applied in their turn and confirmed; a group lapses beyond its log's limit; a
repair asks the targets in turn. -/
def Obligations.ReplicationComplete : Prop :=
  (∀ (s : State) (src g so mode : Nat) (ds : List Nat), ds ≠ [] → s.detachedFrom src g = true →
    exec (.setup src g so mode ds []) s = .next (s.notBound src)) ∧
  (∀ (s : State) (src g so mode d : Nat) (ds : List Nat), s.detachedFrom src g = false → s.ordSpent = false →
    exec (.setup src g so mode (d :: ds) []) s = .next ((s.ev0 0xA05 .error (le 2 g ++ le 1 so)).send (.repl src (.setupReply g false 1)))) ∧
  (∀ (s : State) (src g so mode d : Nat) (salt : Bytes) (k : VaultEntry), s.detachedFrom src g = false → s.ordSpent = false →
    s.domainTaken g so d = false →
    s.unwrapKeys salt = some k → (s.keyRec d).isNone = false →
    exec (.setup src g so mode [d] [salt]) s = .next ((s.control 0xFFFF (.replicaSetup g so mode [d] (s.replicaSide src))
      [.repl src (.setupReply g true 0)]).replica' g so fun r => { r with held := [], offers := [], srcHead := src })) ∧
  (∀ (s : State) (n c : Nat) (g : RGroup), s.group? n = some g → s.leads g = true → (g.state == .connecting || g.state == .paused) = true →
    g.based = false →
    exec (.setupReply n true c) s = .next (((s.group' n fun x => { x with queryAt := none }).ev0 0xA00 .info
      (le 2 s.headId ++ le 2 g.targetHead ++ le 2 n)).startBase n)) ∧
  (∀ (s : State) (n c : Nat) (g : RGroup), s.group? n = some g → s.leads g = true → c ≠ 2 →
    exec (.setupReply n false c) s = .next ((s.group' n fun x => { x with queryAt := none }).group' n fun x => { x with state := .refused })) ∧
  (∀ (s : State) (src n : Nat) (r : Replica), s.detachedFrom src n = false → s.replica? n (src / 2) = some r →
    exec (.positionQuery src n) s = .next ((s.replica' n (src / 2) fun x => { x with held := [], offers := [] }).send
      (.repl src (.position n r.applied r.ordinal)))) ∧
  (∀ (s : State) (n q o : Nat) (g : RGroup), s.group? n = some g → s.leads g = true → (g.state == .refused) = false → g.based = true →
    g.log.find? (·.seq == q) = none →
    exec (.position n q o) s = .next ((s.group' n fun x => { x with
      queryAt := none, inFlight := [], lastShipped := q, openSince := if x.log.isEmpty then none else some s.ck.now }).group' n fun x => { x with
        state := if x.state == .paused then .paused else .shipping })) ∧
  (∀ (s : State) (n t : Nat) (g : RGroup), s.group? n = some g → g.queryAt = some t → t + 80 * milli ≤ s.ck.now →
    exec (.positionQueryTimeout n) s = .next (s.askTarget g (otherHead g.targetHead)) ∧
    (g.based = true → s.askTarget g (otherHead g.targetHead) = ((s.group' g.id fun x => { x with
      targetHead := otherHead g.targetHead, queryAt := some s.ck.now }).send (.repl (otherHead g.targetHead) (.positionQuery g.id))))) ∧
  (∀ (s : State) (src n b : Nat) (r : Replica), s.detachedFrom src n = false → s.replica? n (src / 2) = some r →
    exec (.offer src n b []) s = .next ((s.replica' n (src / 2) fun x => { x with
      offers := x.offers.filter (·.1 != b) ++ [(b, [])], srcHead := src }).send (.repl src (.need n b [])))) ∧
  (∀ (s u : State) (n b : Nat) (g : RGroup) (f x : Batch), s.group? n = some g →
    (g.inFlight.find? fun x => x.num == b && !x.sent && !x.wait) = some f → u = s.stat 0x0A01 n 1 0 →
    x = { f with chunks := f.chunks.drop 8192 ++ [], wait := false } →
    exec (.need n b []) s = .next ((u.group' n fun x' => { x' with inFlight := x'.inFlight.map fun y => if y.num == b then x else y }).offerBatch n x)) ∧
  (∀ (s : State) (src n d c gen cl : Nat) (body : Bytes) (r : Replica), s.detachedFrom src n = false → s.replica? n (src / 2) = some r →
    s.openChunk d c gen cl body = none → exec (.chunk src n d c gen cl body) s = .next (s.chunkFails src r)) ∧
  (∀ (s u : State) (src n d c gen cl : Nat) (body frame content : Bytes) (r : Replica) (landed : Bool), s.detachedFrom src n = false →
    s.replica? n (src / 2) = some r → s.openChunk d c gen cl body = some (frame, content) → r.domains.contains d = true → r.offers = [] →
    s.landShipped d frame content (s.fingerprint d content) true = (u, landed) →
    exec (.chunk src n d c gen cl body) s = .next (if landed then u.replica' n (src / 2) fun x => { x with
      need := x.need.erase (s.fingerprint d content), fails := assocDel x.fails (s.fingerprint d content)
      offers := x.offers.map fun o => (o.1, o.2.erase (s.fingerprint d content)) } else u)) ∧
  (∀ (s u : State) (src n a b : Nat) (fin : Bool) (r : Replica), s.detachedFrom src n = false → s.replica? n (src / 2) = some r →
    u = s.replica' n (src / 2) (fun x => { x with srcHead := src, offers := x.offers.filter (!·.2.isEmpty) }) → b ≤ u.appliedSeq r →
    exec (.batch src n a b false fin []) s = .next (u.send (.repl src (.applied n r.applied)))) ∧
  (∀ (s u : State) (n q : Nat) (g : RGroup) (e : ShipEntry), s.group? n = some g → s.leads g = true →
    (g.inFlight.find? fun b => b.base && b.sent) = none → g.log.find? (·.seq == q) = some e → g.confirmed < q →
    u = s.group' n (fun x => { x with inFlight := x.inFlight.filter fun b => b.base || q < b.last }) → u.snapMode n = true →
    exec (.applied n q) s = .next (u.commit 0xFFFF (.replProgress n 0 u.pr.apiary q e.ordinal e.head e.tick) [])) ∧
  (∀ (s : State) (n : Nat), exec (.batchClose n) s = .next (s.closeBatch n)) ∧
  (∀ (s : State) (n : Nat) (g : RGroup), s.group? n = some g → s.leads g = true →
    s.setting (0x07000004 + n * 0x100) * 2 ^ 30 < (g.log.map (·.bytes)).sum → exec (.groupLapse n) s = .next (s.lapse n)) ∧
  (∀ (s : State) (src d len : Nat) (fp : Bytes), s.chunkOfFp d fp = none →
    exec (.repairAsk src d fp len) s = .next (s.send (.repl src (.repairNone d fp)))) ∧
  (∀ (s t : State) (src d c x i gen cl len : Nat) (fp b body : Bytes), s.chunkOfFp d fp = some c → s.readChunk c = (t, .content b) →
    t.chunkMsg 0 c = some (.chunk x d i gen cl body) → b.length = len → t.owns (.domain d) = true →
    exec (.repairAsk src d fp len) s = .next (t.send (.repl src (.repairData d i gen cl body)))) ∧
  (∀ (s : State) (d c gen cl : Nat) (body frame content : Bytes) (r : Repair), s.openChunk d c gen cl body = some (frame, content) →
    (s.rp.repairs.find? fun r => r.domain == d && r.fp == s.fingerprint d content) = some r →
    exec (.repairData d c gen cl body) s = .next ((((s.rp' fun p => { p with repairs := p.repairs.filter (· != r) }).stat 0x0A04 0 1 1).storeFrame
      0 0 d r.chunk content frame (s.fingerprint d content) ⟨false, false, false⟩).flushMap)) ∧
  (∀ (s : State) (d : Nat) (fp : Bytes) (r : Repair), (s.rp.repairs.find? fun r => r.domain == d && r.fp == fp) = some r →
    exec (.repairNone d fp) s = .next (s.repairNext r)) ∧
  (∀ (s : State) (d c : Nat) (r : Repair), (s.rp.repairs.find? fun r => r.domain == d && r.chunk == c) = some r →
    r.atNs + 60 * second ≤ s.ck.now → exec (.repairTimeout d c) s = .next (s.repairFails r))

/-- R540 to R558, R747: COMMIT_TICK ends one tick and starts the next, 1 ms later; a waggle of the peer renews what it tells; the end of a
lease judges what is held; a digest is compared and echoed; a mismatch is checked, reported, exchanged and resolved, or ends in Quiesce;
side B yields where the peer is isolated. -/
def Obligations.PairTicksComplete : Prop :=
  (∀ (s : State), (s.pw.sleep.isNone && !s.md.stopped) = false →
    exec .commitTick s = .next ((s.stat 0x0F04 s.ck.align 0 1).ck' fun c => { c with
      tick := c.tick + 1, now := c.now + milli, rtc := c.rtc + milli }).judgeStatus) ∧
  (∀ (s : State), (s.pw.sleep.isNone && !s.md.stopped) = true → s.pr.joined = true →
    exec .commitTick s = .next ((((((s.endTick.stat 0x0F04 s.endTick.ck.align 0 1).ck' fun c => { c with
      tick := c.tick + 1, now := c.now + milli, rtc := c.rtc + milli }).startTick.runTick.drainRings).fallbackTick.rearm).sbLoad).judgeStatus)) ∧
  (∀ (s u : State) (m : WaggleMsg), m.head = s.peerId → s.pw.sleep = none → s.md.stopped = false → m.grant = false → m.declared = false →
    m.fabric = true → s.wx.peerTo = none → u = (s.pathBack true).stat 0x0B01 1 1 1 →
    exec (.waggle m) s = .next (u.pr' fun p => { p with
      lastWaggle := u.ck.now, peerMode := modeOf m.mode, peerDormant := m.dormant, peerYielding := p.peerYielding || m.yielding
      peerDrained := m.drained, peerShadow := max p.peerShadow m.shadow
      peerWoke := modeOf m.mode == some .quiesce && !m.dormant && (p.peerWoke || p.peerDormant), leaseEnd := p.leaseEnd })) ∧
  (∀ (s : State), s.pr.leaseEnd ≤ s.ck.tick → exec .leaseEnd s = .next s.judgeHolds) ∧
  (∀ (s : State) (m : DigestMsg), m.head = s.peerId → s.pr.joined = true → s.pr.declared = false → s.md.stopped = false →
    exec (.tickDigest m) s = .next (s.tickDigest m)) ∧
  (∀ (s : State) (m : DigestMsg), s.pr.shChain ≠ [] → m.tick = s.pr.echoTick + 1 → m.echoResult ≠ 1 → m.vaultCount ≠ s.pr.vaultCount →
    s.pr.vaultDiff + 1 < 8 → m.own = chainNext s.pr.shChain m.tick m.cutoff (s.shadowMarks s.pr.shCut m.cutoff) →
    s.tickDigest m = (((((s.pr' fun p => { p with
      shChain := m.own, shCut := m.cutoff, echoTick := m.tick, echoResult := 0, vaultDiff := s.pr.vaultDiff + 1 }).stat 0x0B03 0 0 1).stat
        0x0B03 0 1 1).pr' fun p => { p with mismatches := 0, lastMatch := m.tick, matchCut := p.ownCut, shMatchCut := m.cutoff }))) ∧
  (∀ (s : State) (ok : Bool), s.pr.unresolved = true → s.pr.ownReport = none → s.co.member = false →
    exec (.selfCheck ok) s = .next ((s.pr' fun p => { p with ownReport := some ⟨s.shownRight ok, s.ck.now⟩ }).send
      (.selfReport (s.shownRight ok) false)).judgeReports) ∧
  (∀ (s : State) (r : Bool), s.pr.unresolved = true →
    exec (.selfCheckReport r) s = .next (s.pr' fun p => { p with peerReport := some ⟨r, s.ck.now⟩ }).judgeReports) ∧
  (∀ (s : State) (a b : SelfReport), s.pr.ownReport = some a → s.pr.peerReport = some b → a.right ≠ b.right →
    s.judgeReports = s.endMismatch (some a.right)) ∧
  (∀ (s : State), s.pr.unresolved = true → s.inMode .quiesce = false → s.pr.mismatchAt + 500 * milli ≤ s.ck.now → s.pr.ownReport = none →
    exec .selfCheckReportTimeout s = .next (s.endMismatch none)) ∧
  (∀ (s : State), s.pr.side = .b → s.setting 0x05000002 * second ≠ 0 → s.pr.joined = true → s.pr.yielding = false → s.pr.declared = false →
    s.pr.missFabric < 8 → s.ck.lastCtx5.getD 0 + s.setting 0x05000002 * second ≤ s.ck.now →
    exec .peerIsolationYield s = .next ((((((s.pr' fun p => { p with yielding := true }).ev0 0xB07 .warn []).bump 0x0B08 0 1 1).sendWaggle
      true false false).standDown)))

/-- R65, R70 to R72, R177, R560 to R573: the fence begins 3 ticks after; a comb's answer is counted, and a lost round tried again; with every
raise answered the flash rule begins; the peer's records are applied and TAKEOVER written; a pair joins, or a head begins the Rejoin copy or
enters Rejoin; the copy ends; the phases of a rebalance follow one another, or it is dropped. -/
def Obligations.TakeoverComplete : Prop :=
  (∀ (s : State), s.pr.fence = 1 → s.pr.fenceAt ≤ s.ck.now → (s.inMode .takeover || s.inMode .solo) = true →
    exec .takeoverFenceWait s = .next s.phaseEnds.beginRound.judgeRound) ∧
  (∀ (s : State) (n : Nat), exec (.arbiterFenceResult n true) s = .next (s.fenceAnswer n true false)) ∧
  (∀ (s : State) (n : Nat) (l : Link), s.link? n = some l →
    exec (.arbiterFenceResult n false) s = .next (s.fenceAnswer n false (l.owner == s.peerId))) ∧
  (∀ (s : State) (t : Nat), s.pr.retryAt = some t → t ≤ s.ck.now → s.pr.fence = 2 → exec .arbiterRetry s = .next s.beginRound.judgeRound) ∧
  (∀ (s u : State), s.pr.fence = 3 → s.fenceHives.all s.hiveRaised = true → s.pr.fenceFor = 0 →
    u = ((s.pr' fun p => { p with confirmedSolo := true, fencedOff := false, fence := 4 }).phaseEnds).holdPeerHives →
    exec .fenceAllRaised s = .next ((u.hv.hives.foldl (fun t h => t.busSend h.id 3 (sideN (otherSide u.pr.side))) u).shadowReplay.settle)) ∧
  (∀ (s u v x w : State), s.inMode .takeover = true → s.pr.fence = 4 → s.handoverComing = false →
    u = (s.shadowReplay.phaseEnds.orphanWalk 0xF6000000 s.shadowReplay.phaseEnds.wx.shJournal).takePages →
    v = (u.hv.hives.map (·.id)).foldl (fun t h => (t.joinRebuild h).takeReshape h) u →
    x = (v.recoverRows (otherSide v.pr.side)).sealShort (otherSide v.pr.side) →
    w = (x.wx' fun w => { w with shadow := w.shadow.map fun r =>
      if r.body.isData && r.live && !r.torn && r.applied && r.ordinal ≤ x.shadowLast then { r with mine := true } else r }) →
    exec .takeoverReplayEnd s = .next (((w.co' fun c => { c with tokens := c.tokens.map fun t => { t with side := w.pr.side } }).commit 0xFFFF
      (.handover 0 (w.co' fun c => { c with tokens := c.tokens.map fun t => { t with side := w.pr.side } }).peerId
        (w.co' fun c => { c with tokens := c.tokens.map fun t => { t with side := w.pr.side } }).shadowLast
        (w.unitsOf (otherSide w.pr.side) ++ w.pr.given)) [.takeoverDone]).settle)) ∧
  (∀ (s : State) (t : Nat), s.pr.joinSince = some t → s.pr.joined = false → s.ck.epochLost = false →
    t + s.setting 0x05000001 * second ≤ s.ck.now →
    exec .pairJoinTimeout s = .next ((((s.pr' fun p => { p with joinSince := none }).autoMode .quiesce).ev0 0xB00 .warn []).formAlone)) ∧
  (∀ (s u : State) (m : WaggleMsg) (r : HeadReport), m.head = s.peerId → s.pr.joined = false → s.inMode .takeover = false → s.md.stopped = false →
    u = ((s.pw' fun p => { p with waggleEnable := true }).takeEpoch m).peerReports r → u.pr.tookOver = true →
    exec (.pairJoin m r) s = .next (u.beginCopy m)) ∧
  (∀ (s u : State) (m : WaggleMsg) (r : HeadReport), m.head = s.peerId → s.pr.joined = false → s.inMode .takeover = false → s.md.stopped = false →
    u = ((s.pw' fun p => { p with waggleEnable := true }).takeEpoch m).peerReports r → u.pr.tookOver = false →
    (u.pr.handedOver = true ∨ r.tookOver = true) → exec (.pairJoin m r) s = .next (u.enterRejoin m r.tables)) ∧
  (∀ (s u v : State) (m : WaggleMsg) (r : HeadReport), m.head = s.peerId → s.pr.joined = false → s.inMode .takeover = false → s.md.stopped = false →
    u = ((s.pw' fun p => { p with waggleEnable := true }).takeEpoch m).peerReports r → u.pr.tookOver = false → u.pr.handedOver = false → r.tookOver = false →
    v = ((u.reconcile m r).pr' fun p => { p with mirror := p.plUp.any id }).joinedNow m →
    exec (.pairJoin m r) s = .next v.formVault.settle) ∧
  (∀ (s u : State) (c l : Nat), s.pr.rejoin = some (c, l) → s.pr.declared = false → s.pr.joined = true →
    (s.wx.own.all fun r => r.ordinal ≤ c || r.peerOk) = true →
    u = (((s.wx' fun w => { w with
      own := w.own.map fun r => { r with peerOk := true }, journal := w.journal.map fun e => { e with peerOk := true } }).pr' fun p => { p with
      rejoin := none, mirror := true, tookOver := false, base := none, shChain := [], shCut := 0, echoTick := 0, echoResult := 2 }).ev0 0xB08 .notice [1#8]) →
    exec .rejoinCopyComplete s = .next (if u.comingBack then u.shadowReplay else if u.inMode .solo then u.autoMode .full else u)) ∧
  (∀ (s : State) (r : Rebalance), s.pr.rebalance = some r → r.giver = true → r.phase = 1 →
    exec .rebalancePhaseEnd s = .next (s.pr' fun p => { p with rebalance := some { r with phase := 2, holdAt := s.ck.now } })) ∧
  (∀ (s : State) (r : Rebalance), s.pr.rebalance = some r → r.giver = true → r.phase = 2 →
    r.holdAt + s.setting 0x05000004 * second ≤ s.ck.now → exec .rebalanceHoldTimeout s = .next s.dropRebalance)

/-- R34, R424, R550, R574 to R580: where the active port fails the standby takes over, or none is active; a standby with 60 s of clean link is
eligible; peer links that go down or come up change the cables, and a head that stopped under R550 restarts with one. -/
def Obligations.PortsComplete : Prop :=
  (∀ (s : State) (i a : Nat) (p : FabricPair), s.pr.fabric[i]? = some p → p.active = some a → (p.port (1 - a)).eligible = true →
    exec (.fabricPortFail i) s = .next ((((s.pair' i fun q => { q.setPort a (fun x => { x with
      up := false, failed := true, eligible := false }) with active := some (1 - a), lastSwap := some s.ck.now }).resendPair
        i).ev0 0xB0B .warn (le 1 i)).stat 0x0B05 i 0 1)) ∧
  (∀ (s : State) (i a : Nat) (p : FabricPair), s.pr.fabric[i]? = some p → p.active = some a → (p.port (1 - a)).eligible = false →
    exec (.fabricPortFail i) s = .next ((s.pair' i fun q => { q.setPort a (fun x => { x with
      up := false, failed := true, eligible := false }) with active := none }).ev0 0xB0C .error (le 1 i))) ∧
  (∀ (s : State) (i a : Nat) (p : FabricPair), s.pr.fabric[i]? = some p → p.active = some a →
    exec (.standbyEligible i) s = .next (s.pair' i fun q => q.setPort (1 - a) fun x => { x with
      up := true, failed := false, eligible := true })) ∧
  (∀ (s : State) (i : Nat) (p : FabricPair), s.pr.fabric[i]? = some p → p.active = none →
    exec (.standbyEligible i) s = .next ((s.afterDraw.pair' i fun q => { q.setPort (s.drawnNat % 2) (fun x => { x with
      up := true, failed := false, eligible := true }) with active := some (s.drawnNat % 2) }).resendPair i)) ∧
  (∀ (s : State) (n : Nat), s.pr.plUp[n]? = some true →
    exec (.peerLinkDown n) s = .next ((s.pr' fun p => { p with
      plUp := p.plUp.set n false }).judgeCables (cablesUp s.pr.plUp))) ∧
  (∀ (s u : State) (n : Nat), s.pr.plUp[n]? = some false →
    u = (s.pr' fun p => { p with plUp := p.plUp.set n true }).judgeCables (cablesUp s.pr.plUp) →
    u.pr.fencedOff = false → exec (.peerLinkUp n) s = .next u) ∧
  (∀ (s u : State) (n : Nat), s.pr.plUp[n]? = some false →
    u = (s.pr' fun p => { p with plUp := p.plUp.set n true }).judgeCables (cablesUp s.pr.plUp) →
    u.pr.fencedOff = true → u.pw.waggleEnable = false → u.pr.yielding = false → exec (.peerLinkUp n) s = .next (u.resetNow 3))

/-- R746, R749, R750, R754 to R763, R769, R790, R799: PTP messages of the master set the offset; the RTC follows the head's time; Hold and
Watch are entered once the lane is empty, and left at a wake cause; Watch samples; the watchdog is kicked, and expires into a reset;
CHIP_RESET_N resets from 1 µs on. -/
def Obligations.TimeAndSleepComplete : Prop :=
  (∀ (s : State) (src : Nat) (o : Int), s.ptpRuns = true →
    exec (.ptpMessage 3 src o) s = .next (s.ck' fun c => { c with master := some (min src (c.master.getD src)) })) ∧
  (∀ (s : State) (src : Nat) (o : Int), s.ptpRuns = true → s.ck.master = some src →
    exec (.ptpMessage 0 src o) s = .next ((((s.ck' fun c => { c with lastSync := some c.now, offset := o }).send .ptpReq).adjustTick).judgeAlign) ∧
    exec (.ptpMessage 1 src o) s = .next (((s.ck' fun c => { c with offset := o }).adjustTick).judgeAlign) ∧
    exec (.ptpMessage 2 src o) s = .next (((s.ck' fun c => { c with offset := o }).adjustTick).judgeAlign)) ∧
  (∀ (s : State), exec .alignmentTimeout s = .next s.judgeAlign) ∧
  (∀ (s : State), s.isAligned = true → s.ck.rtcDiscAt + second ≤ s.ck.now →
    exec .rtcDiscipline s = .next (s.ck' fun c => { c with rtc := c.now, rtcDiscAt := c.now })) ∧
  (∀ (s : State), s.md.entering = some .hold → s.md.stopped = false → s.quietHosts.votesDown.mayComplete = true →
    exec .holdEntry s = .next ((s.quietHosts.votesDown.fallAsleep .hold).dr' fun d => { d with selfRefresh := true })) ∧
  (∀ (s : State), s.md.entering = some .hold → s.md.stopped = false → s.quietHosts.votesDown.mayComplete = false →
    exec .holdEntry s = .next s.quietHosts.votesDown) ∧
  (∀ (s : State), s.md.entering = some .watch → s.md.stopped = false → s.quietHosts.votesDown.mayComplete = true →
    exec .watchEntry s = .next (((((s.quietHosts.votesDown.fallAsleep .watch).pw' fun p => { p with
      imprint := 1, imprintTick := s.quietHosts.votesDown.ck.tick, imprintBad := false, lastSample := s.quietHosts.votesDown.ck.rtc }).mc' fun m =>
        { m with lines := [] }).dr' fun d => { d with mem := [], trained := false }))) ∧
  (∀ (s : State), s.pw.sleep = some .hold → s.pw.wakeCause ≠ 0 →
    exec .holdWake s = .next ((s.dr' fun d => { d with selfRefresh := false }).wakeUp .hold)) ∧
  (∀ (s : State), s.pw.sleep = some .watch → s.pw.wakeCause ≠ 0 → s.pw.imprint = 1 →
    exec (.watchWake false) s = .next s.imprintFails) ∧
  (∀ (s u : State), s.pw.sleep = some .watch → s.pw.wakeCause ≠ 0 → s.pw.imprint = 1 →
    u = ((s.pw' fun p => { p with imprint := 2 }).dr' fun d => { d with trained := true }) →
    exec (.watchWake true) s = .next ((((u.firstRecord).rd' fun r => { r with
      filter := [] }).restartFilter).wakeUp .watch)) ∧
  (∀ (s : State) (tj : Int) (h : Nat), s.pw.aonOk = true → -720 ≤ tj → tj ≤ 1920 → s.pw.sleep ≠ some .watch →
    exec (.watchSample tj h) s = .next ((s.pw' fun p => { p with tj := tj, holdup := min h 1200 }).stat 0x0F03 0 0 1)) ∧
  (∀ (s : State) (us : Nat), 100 ≤ us → s.pw.aonOk = true → exec (.wakeN us) s = .next (s.latchWake 0)) ∧
  (∀ (s : State) (t : Nat), s.pw.wdArmed = some t → s.pw.wdSuspended = false → s.md.stopped = false →
    exec .watchdogKick s = .next (s.pw' fun p => { p with wdArmed := some (s.ck.now + s.setting 0x0200000A * milli) })) ∧
  (∀ (s : State) (t : Nat), s.pw.wdArmed = some t → s.pw.wdSuspended = false → t ≤ s.ck.now →
    exec .watchdogExpiry s = .next ((s.bump 0x0F07 0 0 1).sentinelReset 0xF06 .fatal 2)) ∧
  (∀ (s : State) (ns : Nat), s.pw.aonOk = true → 1000 ≤ ns → exec (.chipResetN ns) s = .next (s.resetDevice 1)) ∧
  (∀ (s : State) (ns : Nat), ns < 500 → exec (.chipResetN ns) s = .next s) ∧
  (∀ (s : State), s.pw.alarmStands = 0 → exec .powerOnResetRelease s = .next (s.pw' fun p => { p with
    aonOk := true, suppliesOk := true, xtalOk := true, refOk := true, startDue := p.startDue || p.inReset, inReset := false
    waxStopped := false }))

/-- R25, R611 to R628, R705 to R708, R790 to R796: START runs the steps where nothing holds the device in reset; the skipped optional steps run
once 60 s after step 14; a lost crystal, a stopped reference and a fallen supply hold the device in reset; an alarm zeroizes, and is cleared
after 1 s without a condition; a frame of MG is answered, or dropped and counted. -/
def Obligations.StartComplete : Prop :=
  (∀ (s : State) (p : List StepPlan), s.mayStart = true → exec (.start p) s = .next (s.start p)) ∧
  (∀ (s : State) (p : List StepPlan), s.mayStart = false → exec (.start p) s = .next s) ∧
  (∀ (s u : State), s.bt.inService = true → s.bt.service14At + 60 * second ≤ s.ck.now → s.md.stopped = false → s.pw.sleep = none →
    s.bt.skippedJoin = false → s.bt.skippedColony = true →
    u = (s.colonyStep 3).bt' (fun b => { b with skippedColony := false, step := 0 }) →
    exec .optionalStepLateRun s = .next (u.ev0 0xD04 .notice (le 1 13 ++ [1#8]))) ∧
  (∀ (s : State), s.pw.aonOk = true → s.pw.xtalOk = true →
    exec .crystalLoss s = .next (((s.holdReset 0).pw' fun p => { p with xtalOk := false }).bt' fun b => { b with step := 1 })) ∧
  (∀ (s : State), s.pw.sleep ≠ some .watch → s.pw.refOk = true →
    exec .referenceClockStop s = .next ((s.holdReset 0).pw' fun p => { p with refOk := false })) ∧
  (∀ (s : State) (us : Nat), s.pw.aonOk = true → 10 < us → exec (.supplyFall 0 1619 us) s = .next (s.powerLoss true)) ∧
  (∀ (s : State) (us : Nat), s.pw.aonOk = true → s.pw.sleep = none → 10 < us → exec (.supplyFall 1 674 us) s = .next (s.powerLoss false)) ∧
  (∀ (s : State) (r mv us : Nat), s.pw.aonOk = true → s.pw.sleep = none → nominalMv.getD r 0 ≠ 0 → nominalMv.getD r 0 * 115 < mv * 100 →
    exec (.supplyFall r mv us) s = .next (s.propolisAlarm 4)) ∧
  (∀ (s : State) (c : BitVec 4), c ≠ 0 → s.pw.aonOk = true → exec (.propolisAlarm c) s = .next (s.propolisAlarm c)) ∧
  (∀ (s : State), s.pw.alarmStands ≠ 0 → s.pw.alarmClearSince = none →
    exec .alarmClear s = .next (s.pw' fun p => { p with alarmClearSince := some s.ck.now })) ∧
  (∀ (s : State) (t : Nat), s.pw.alarmStands ≠ 0 → s.pw.alarmClearSince = some t → t + second ≤ s.ck.now →
    exec .alarmClear s = .next (s.pw' fun p => { p with
      alarmStands := 0, alarmClearSince := none, inReset := !(p.suppliesOk && p.xtalOk && p.refOk) })) ∧
  (∀ (s : State) (f r : Bytes), s.md.stopped = false → s.md.halted = false → s.md.recovery = false → s.pw.sleep = none → tcpFrame f = false →
    rdBe (slice f 12 2) = 0x0806 → arpReply f = some r → exec (.mgNetworkFrame f) s = .next (s.send (.net r))) ∧
  (∀ (s : State) (f : Bytes), s.md.stopped = false → s.md.halted = false → s.md.recovery = false → s.pw.sleep = none → tcpFrame f = false →
    rdBe (slice f 12 2) = 0x0806 → arpReply f = none →
    exec (.mgNetworkFrame f) s = .next (s.vk' fun v => { v with mgDropped := v.mgDropped + 1 }))

/-! ## Whole-machine rules, invariants and frames -/

/-- Log 7: a step runs the command at the front of the queue on the state whose queue holds the rest, and a block with nothing to do
idles. The queue is the model's own; the order is R92's. -/
def Obligations.StepServesFront : Prop :=
  (∀ (s : State) (c : Instr) (rest : List Instr), s.pending = c :: rest → step s = exec c { s with pending := rest }) ∧
  (∀ (s : State), s.pending = [] → step s = .next s)

/-- The values that the spec gives for reset: the sideband registers of R773, the compare-only unit's registers of R683, the first
ordinal (R42), the replacement LFSR (R197), the tallies (R636), the counters (R741), and a full bucket for every code (R717). The
invariants of this file hold there. The queue of commands is empty (log 7), and no session is open. -/
def Obligations.ResetState : Prop :=
  State.reset.pending = [] ∧ State.reset.vk.sessions = [] ∧
  (State.reset.sbReg 0x0000 = some 0x01B05441#32 ∧ State.reset.sbReg 0x0030 = some 0#32 ∧ State.reset.sbReg 0x0034 = some 0#32 ∧
    State.reset.sbReg 0x0108 = some 0x1000#32 ∧ State.reset.sbReg 0x010C = some 0#32 ∧ State.reset.sbReg 0x0114 = some 1#32) ∧
  (State.reset.se.cmpLane = 0 ∧ State.reset.se.cmpLo = 0 ∧ State.reset.se.cmpHi = 0 ∧ State.reset.se.cmpStatus = 0 ∧
    State.reset.se.cmpResult = 0) ∧
  State.reset.wx.nextOrd = 1 ∧ State.reset.mc.lfsr = 0xACE1#16 ∧
  State.reset.bt.tallies = List.replicate 8 (List.replicate 48 0) ∧ State.reset.ct.vals = [] ∧
  (∀ code burst now : Nat, (bucketOf State.reset.ev.buckets code burst now).tokens = burst) ∧
  MemInv State.reset ∧ SessionsOk State.reset ∧ CacheOk State.reset ∧ RecorderOk State.reset ∧ CountersOk State.reset ∧
  LedgerOk State.reset ∧ RegsOk State.reset

/-- R75, R78, R79, R83, R98: a request laid out as a packet is read back as that request, with every field at every value that its width
admits; on MG the packet with its trailer passes, under a management key of 32 bytes, and on an open connection the packet runs the
opcode's meaning. A packet and the command of its opcode have one effect, for every row of the catalogue; an opcode of no row runs
nothing but the checks. -/
def Obligations.PacketsRoundTrip : Prop :=
  (∀ (op : Nat) (q : VReq), op < 65536 → requestOk q = true → (requestPacket op q).length ≤ 1048576 →
    headerFault (requestPacket op q) = none ∧ fld (requestPacket op q) 4 2 = op ∧ fld (requestPacket op q) 8 4 = q.tag) ∧
  (∀ (s : State) (op : Nat) (q : VReq), op < 65536 → requestOk q = true → (requestPacket op q).length ≤ 1048576 →
    q.via.trailer = 0 → s.parseRequest q.via (requestPacket op q) = .ok q ∧
      (s.deaf q.via = false → s.wire q.via (requestPacket op q) = s.runOp op q)) ∧
  (∀ (s : State) (op : Nat) (q : VReq) (conn : Nat), op < 65536 → requestOk q = true →
    (requestPacket op q).length + 8 ≤ 1048576 → q.via = .mg conn → s.mgKey.length = 32 →
    s.parseRequest q.via (mgPacket s.mgKey op q) = .ok q ∧
      (s.deaf q.via = false → s.vk.mgConns.contains conn = true →
        exec (.mgVirkanPacket conn (mgPacket s.mgKey op q)) s = .next (s.runOp op q))) ∧
  (∀ r ∈ requestRows, ∀ (s : State) (q : VReq), exec (r.2 q) s = .next (s.runOp r.1 q)) ∧
  (∀ (s : State) (op : Nat) (q : VReq), (∀ r ∈ requestRows, r.1 ≠ op) → s.runOp op q = s.virkan op q id ∧ vop op = none)

/-- R195, R196, and log 12 for the form of the list: DRAM stays listed in its canonical form, and the map SRAM cache keeps its sets and ways,
holds no line twice, and holds in each line what DRAM holds: served from the cache or from DRAM, a read gives the same bytes. -/
def Obligations.DramAndMapCacheAgree : Prop :=
  (∀ (s t : State), MemInv s → step s = .next t → MemInv t) ∧ (∀ (s t : State), CacheOk s → step s = .next t → CacheOk t)

/-- R91, R92: sessions stay within their number, their handles stay their own, and each keeps at most 32 requests outstanding. -/
def Obligations.SessionsStayWithinLimits : Prop := ∀ (s t : State), SessionsOk s → step s = .next t → SessionsOk t

/-- R617, R636, R712, R719 to R721, R723, R734: the recorder's intake and ring keep their sizes, their severities and their order, the boot
ledger and the tallies keep their form, and every counter stays at or below its limit. -/
def Obligations.RecordsStayInForm : Prop :=
  (∀ (s t : State), RecorderOk s → step s = .next t → RecorderOk t) ∧
  (∀ (s t : State), LedgerOk s → step s = .next t → LedgerOk t) ∧
  (∀ (s t : State), CountersOk s → step s = .next t → CountersOk t)

/-- R683, R771, R773: registers keep to their implemented bits. -/
def Obligations.RegistersKeepReservedBits : Prop := ∀ (s t : State), RegsOk s → step s = .next t → RegsOk t

/-- R339, R341, R342: a comb keeps its place, its serial number, its fence epoch and its owner through every command but FENCE_RAISE,
which raises the epoch it names by one, and FENCE_ADOPT, which sets the epoch of a comb that has never been fenced. -/
def Obligations.FenceEpochsMoveOnlyByFenceTasks : Prop :=
  ∀ (c : Instr) (s t : State), exec c s = .next t →
    List.Forall₂ (fun b d => d.link = b.link ∧ d.hive = b.hive ∧ d.slot = b.slot ∧ d.serial = b.serial ∧
      ((d.epoch = b.epoch ∧ d.owner = b.owner) ∨
        (∃ n p f, c = .fenceRaise n p f ∧ b.epoch = f.arg.toNat ∧ d.epoch = b.epoch + 1 ∧ d.owner = f.owner) ∨
        (∃ n p f, c = .fenceAdopt n p f ∧ b.epoch = 0 ∧ b.owner = 0xFFFF ∧ d.epoch = f.arg.toNat ∧ d.owner = f.owner)))
      s.cl.bridges t.cl.bridges

/-- R638, R641, R91, R663, R697, R712, R618: what names the device never changes, and the numbers that must not be used twice never
fall: session handles, ledger sequences, start numbers, event sequences, the sequence of the key seal header, and the fused minimum. -/
def Obligations.IdentityStaysAndNumbersRise : Prop :=
  ∀ (c : Instr) (s t : State), exec c s = .next t →
    t.bt.serial = s.bt.serial ∧ t.bt.cert = s.bt.cert ∧ t.bt.seed = s.bt.seed ∧ t.bt.romVersion = s.bt.romVersion ∧
    t.bt.fuses = s.bt.fuses ∧ t.pr.side = s.pr.side ∧ t.dr.dimms = s.dr.dimms ∧ t.dr.dimmGiB = s.dr.dimmGiB ∧
    s.vk.nextHandle ≤ t.vk.nextHandle ∧ s.bt.ledgerSeq ≤ t.bt.ledgerSeq ∧ s.bt.startNum ≤ t.bt.startNum ∧
    s.ev.nextSeq ≤ t.ev.nextSeq ∧ s.ks.sealSeq ≤ t.ks.sealSeq ∧ s.bt.fusedMin ≤ t.bt.fusedMin

/-- Every command completes in every state, and each is named here: there is a next state, whatever the state and the operands. The two
commands of the map window complete where DRAM is installed at their address and fault under their name where none is (R188, R189), and no other command faults. -/
def Obligations.EveryCommandCompletes : Prop :=
  (∀ (s : State), ∀ c ∈ [
      Instr.wakeModeRecheck, .pathDrillAckTimeout, .colonyJoinTimeout, .trialWindowEnd, .sbRspData, .sbRtcLo,
      .sentinelResetArmExpiry, .rstdaa, .getpid, .getbcr, .getdcr, .getstatus, .getmwl, .getmrl, .filterRebuild,
      .compareSelftestRetry, .cmpGoCompare, .cmpGoSelfTest, .cmpResult, .checkpointDue, .flushMetadata, .dramScrub,
      .queenAutonomyEnd, .contactSend, .queenUnreachable, .rolloutWaveOpen, .recentIdAging, .commitTick, .leaseEnd,
      .selfCheckReportTimeout, .peerIsolationYield, .takeoverFenceWait, .arbiterRetry, .fenceAllRaised, .takeoverReplayEnd,
      .pairJoinTimeout, .rejoinCopyComplete, .rebalancePhaseEnd, .rebalanceHoldTimeout, .alignmentTimeout, .rtcDiscipline,
      .holdEntry, .holdWake, .watchEntry, .watchdogKick, .watchdogExpiry, .powerOnResetRelease, .optionalStepLateRun,
      .crystalLoss, .alarmClear, .eventWrite, .dropSummaryTimer, .treeDropCascade, .referenceClockStop, .colonyKeyLagTimeout],
    ∃ t, exec c s = .next t) ∧
  (∀ (s : State) (q : VReq), ∀ c ∈ [
      Instr.sessionOpen q, .sessionAuth q, .sessionClose q, .sessionList q, .cfgOpen q, .cfgStage q, .cfgCheck q, .cfgApply q,
      .cfgCancel q, .cfgStatus q, .cfgRead q, .modeGet q, .domainCreate q, .domainDelete q, .domainList q, .nsCreate q,
      .nsDelete q, .nsResize q, .nsList q, .snapCreate q, .snapDelete q, .snapClone q, .hiveStatus q, .hiveWake q, .hiveDark q,
      .superAttach q, .combRetire q, .stripeAcceptLoss q, .mediaStats q, .pairStatus q, .rebalance q, .pathDrill q,
      .mirrorDiscard q, .pairElect q, .colonyStatus q, .colonyJoin q, .colonyLeave q, .queenAssign q, .tokenStatus q,
      .catalogueRead q, .rgCreate q, .rgDelete q, .rgStatus q, .rgPause q, .rgResume q, .snapShip q, .ownerEnroll q,
      .keyProvision q, .keyEscrowExport q, .keyRestore q, .keyRotate q, .keyErase q, .keyStatus q, .evtRead q, .evtSubscribe q,
      .ctrRead q, .ctrClear q, .attest q, .ledgerRead q, .updBegin q, .updBlock q, .updVerify q, .updActivate q, .updConfirm q,
      .updAbort q, .updLock q, .restart q, .diagDieRead q, .diagLinkLoop q, .diagSelftest q, .diagDump q],
    ∃ t, exec c s = .next t) ∧
  (∀ (s : State) (n₁ n₂ n₃ n₄ n₅ n₆ : Nat) (b₁ b₂ : Bool), ∀ c ∈ [
      Instr.sessionIdleExpiry n₁, .frameIdleExpiry n₁, .frameReadinessDeadline n₁, .goRecordLateConfirm n₁, .updateStagingRoom n₁,
      .confirmCodeExpiry n₁, .entdaa n₁, .setdasa n₁, .setnewda n₁, .icreq n₁ n₂ n₃ b₁ b₂ n₄, .fatalTransportError n₁ n₂,
      .keepAliveTimeout n₁, .acceptanceResume n₁ n₂ n₃, .objectCreateCommit n₁, .openObjectExpiry n₁, .releasedObjectExpiry n₁,
      .manifestReleaseWalk n₁ n₂, .chunkIngest n₁, .postProcess n₁, .mergeCommit n₁ n₂, .envelopeRead n₁, .compareDone b₁,
      .selfTestDone b₁, .sealMessageDone n₁, .sealUrgent n₁, .domainKeyFetch n₁, .waxRecordConfirmed n₁, .stripeCloseTimer n₁,
      .stripeProgramDone n₁, .memberProgramFail n₁ n₂, .memberReadTimeout n₁ n₂, .combMarkFailed n₁, .rebuildStripe n₁,
      .replacementComb n₁, .reshapeStripes n₁, .foldRow n₁, .readBackDone n₁, .readBackFail n₁, .gcMove n₁, .wearMove n₁,
      .blockEraseDone n₁ n₂ n₃, .eraseAutoResume n₁ n₂, .dieTaskDone n₁ n₂ b₁, .favouredPortExpiry n₁ n₂, .linkResendTimer n₁,
      .blockLockLost n₁, .combLinkBringUp n₁ b₁, .linkRetryTimer n₁, .linkDownTimeout n₁, .taskDeadline n₁ n₂, .bridgePowerUp n₁,
      .hcbPoll n₁, .hcbRequestRetry n₁ n₂, .shelfSilentTimeout n₁, .wakeTimeout n₁, .wakeRetry n₁, .hiveIdleDarkExpiry n₁,
      .darkPoint n₁, .gatherWakeTrigger n₁, .gatherDeadline n₁ n₂ n₃, .tokenRenewal n₁, .tokenRequestRetry n₁,
      .workerTokenExpiry n₁, .leave n₁ n₂, .contact n₁ n₂ n₃ b₁, .tokenRequest n₁ n₂ n₃ n₄ n₅ n₆, .heldTokenRequestTimeout n₁ n₂,
      .tokenRefuse n₁ n₂ n₃, .tokenRecall n₁ n₂, .colonyDormant n₁ n₂, .queenTokenExpiry n₁, .arbitrate n₁ n₂ b₁,
      .updateState n₁ n₂ n₃ b₁ b₂, .retransmissionTimeout n₁, .messageGiveUp n₁, .connectionBreak n₁, .rnrBackoffExpiry n₁,
      .contextFetchDone n₁, .contextFail n₁, .pathIdleFree n₁, .setupReply n₁ b₁ n₂, .positionQuery n₁ n₂, .position n₁ n₂ n₃,
      .positionQueryTimeout n₁, .applied n₁ n₂, .batchClose n₁, .groupLapse n₁, .repairTimeout n₁ n₂, .selfCheck b₁,
      .selfCheckReport b₁, .arbiterFenceResult n₁ b₁, .fabricPortFail n₁, .standbyEligible n₁, .peerLinkDown n₁, .peerLinkUp n₁,
      .watchWake b₁, .wakeN n₁, .chipResetN n₁, .supplyFall n₁ n₂ n₃, .bucketWindowClose n₁, .bucketRefill n₁,
      .eventNoticeSend n₁, .shelfInputFailure n₁, .holdupReserveSpent n₁, .shelfInputReturn n₁, .slotsPowerRemoved n₁,
      .bridgeHealthChange n₁ n₂ n₃ n₄, .retrainTimeout n₁, .tcpConnectionEnd n₁, .locStatPatienceExpiry n₁ n₂ n₃,
      .frameStatusExpiry n₁, .tcpRetransmissionTimeout n₁],
    ∃ t, exec c s = .next t) ∧
  (∀ (s : State) (n count : Nat) (i : Side) (f : LFrame), ∀ c ∈ [
      Instr.taskRead n i f, .taskSeqRead n i f, .taskProgramSlc n i f, .taskProgramQlc n i f, .taskErase n i f,
      .eraseSuspend n i f, .eraseResume n i f, .fenceRaise n i f, .fenceAdopt n i f, .regRead n i f count],
    ∃ t, exec c s = .next t) ∧
  (∀ (s : State) (e : Sqe), ∀ c ∈ [
      Instr.adminC0hSubmit e, .adminC1hFetch e, .keepAlive e, .identify e, .getLogPage e, .setFeatures e, .getFeatures e,
      .asynchronousEventRequest e, .abort e, .directiveSend e, .directiveReceive e, .nvmeRead e, .nvmeWrite e, .flush e,
      .writeZeroes e, .datasetManagement e, .locPut e, .locPutPart e, .locGet e, .locStat e, .locRefresh e, .locRelease e,
      .locSeal e, .unsupportedCommand e],
    ∃ t, exec c s = .next t) ∧
  (∀ (s : State) (p : FPkt) (o : Option ShadowRec) (j : Option JournalEntry) (n₁ n₂ n₃ n₄ : Nat) (w : BitVec 32) (x : BitVec 64), ∀ c ∈ [
      Instr.forageWrite p o j, .writeImm p, .readReq p, .readResp p, .forageAck p n₁ w n₂ x n₃, .forageNak p n₁ w n₂ n₃ n₄],
    ∃ t, exec c s = .next t) ∧
  (∀ (s : State) (n₁ n₂ n₃ n₄ n₅ n₆ : Nat) (d : Bytes) (w : BitVec 32) (z : BitVec 8) (y : BitVec 16) (b : Bool) (i₁ i₂ : Side), ∀ c ∈ [
      Instr.mgVirkanPacket n₁ d, .attestationServiceRequest n₁ d, .sbReqData w, .sbReqCap w, .sbSentinelReset w, .sbWake w,
      .sbPadRelease w, .sbIntStatus w, .sbMbxError w, .sbRegisterWrite n₁ w, .enec z, .disec z, .setmwl y, .setmrl y,
      .h2cdata n₁ n₂ n₃ d b, .tokenHorizonExpiry n₁ d, .digestRegisterWrite n₁ w, .hcbStatus n₁ i₁ n₂,
      .hcbVote n₁ i₁ n₂ b, .hcbVoteClear n₁ i₁ n₂ i₂, .chunk n₁ n₂ n₃ n₄ n₅ n₆ d, .repairAsk n₁ n₂ d n₃,
      .repairData n₁ n₂ n₃ n₄ d, .repairNone n₁ d, .slotsPowered n₁ y, .mgNetworkFrame d],
    ∃ t, exec c s = .next t) ∧
  (∀ (s : State) (b₁ b₂ : Bool) (n₁ n₂ : Nat) (is : List Item) (v : Transport) (svc : TcpSvc) (f : Nat × Nat) (nc : NvConnect)
      (pl : Place) (rq : SealReq) (a : Option Nat) (pu : Purpose), ∀ c ∈ [
      Instr.frameReadiness b₁ n₁ n₂ is b₂, .virkanReplyExpiry v n₁ n₂, .tcpConnectionRequest svc f, .connect nc,
      .ledgerEntryExpiry n₁ pl, .sealRequest rq, .dramUncorrectable n₁ a, .stripeOpen n₁ n₂ pu],
    ∃ t, exec c s = .next t) ∧
  (∀ (s : State) (n₁ : Nat) (ws : List (BitVec 32)) (b : Bool) (i : Side) (l : LFrame), ∀ c ∈ [
      Instr.regData n₁ l ws, .dataFrame n₁ b i l, .pageEnd n₁ b i l, .doneFrame n₁ l, .bridgeEvent n₁ l, .hello n₁ b i l,
      .linkAck n₁ b i l, .linkNak n₁ b i l],
    ∃ t, exec c s = .next t) ∧
  (∀ (s : State) (n₁ n₂ n₃ n₄ n₅ : Nat) (m : BitVec 12) (k : ShelfBlock) (ds : List Bytes) (b : Bool) (is : List (Nat × Bytes))
      (r : Report7) (k2 : WakeToken) (es : List WorkEntry), ∀ c ∈ [
      Instr.retrain n₁ m, .hcbReply n₁ n₂ n₃ k, .join n₁ n₂ n₃ n₄ n₅ ds, .joinReply b n₁ n₂ is, .report n₁ r,
      .tokenGrant n₁ k2 n₂, .colonySettings n₁ n₂ is n₃, .sendQueuePost n₁ es],
    ∃ t, exec c s = .next t) ∧
  (∀ (s : State) (n₁ n₂ n₃ n₄ : Nat) (ns : List Nat) (ds : List Bytes) (fs : List (Bytes × Nat × Nat)) (bs : List Bool) (b₁ b₂ : Bool)
      (es : List ShipEntry) (g : WaggleMsg) (dg : DigestMsg) (r : HeadReport) (z : Int), ∀ c ∈ [
      Instr.setup n₁ n₂ n₃ n₄ ns ds, .offer n₁ n₂ n₃ fs, .need n₁ n₂ bs, .batch n₁ n₂ n₃ n₄ b₁ b₂ es, .waggle g, .tickDigest dg,
      .pairJoin g r, .ptpMessage n₁ n₂ z],
    ∃ t, exec c s = .next t) ∧
  (∀ (s : State) (z : Int) (n : Nat) (ps : List StepPlan) (x : BitVec 4) (r : Report0), ∀ c ∈ [
      Instr.watchSample z n, .start ps, .propolisAlarm x, .eventReport r],
    ∃ t, exec c s = .next t) ∧
  (∀ (s : State) (b : Bool) (a : Nat) (d : Bytes), a < s.dramBytes → ∀ c ∈ [Instr.mapCacheAccess b a d, .zeroLine a], ∃ t, exec c s = .next t) ∧
  (∀ (s : State) (b : Bool) (a : Nat) (d : Bytes), s.dramBytes ≤ a → ∀ c ∈ [Instr.mapCacheAccess b a d, .zeroLine a],
    exec c s = .fault (.noSuchAddress a)) ∧
  (∀ (c : Instr) (s : State), Completes c s ∨
    ∃ a, exec c s = .fault (.noSuchAddress a) ∧ s.dramBytes ≤ a ∧ ((∃ w d, c = .mapCacheAccess w a d) ∨ c = .zeroLine a))

/-- R77, R98: a request that fails a check executes nothing: whatever its opcode, it changes at most its session and the replies held, the
notices lost for want of a place, the counters, the free values drawn and what has been sent. The opcodes that read change no more even
where they succeed; CFG_STATUS restarts the idle time of its frame besides. -/
def Obligations.RequestFrames : Prop :=
  (∀ r ∈ requestRows, ∀ (s t : State) (q : VReq), ¬ Passes s r.1 q → exec (r.2 q) s = .next t → AnswerOnly s t) ∧
  (∀ (s t : State) (q : VReq), ∀ c ∈ [Instr.sessionList q, .cfgRead q, .modeGet q, .domainList q, .nsList q, .hiveStatus q, .mediaStats q,
      .pairStatus q, .colonyStatus q, .tokenStatus q, .catalogueRead q, .rgStatus q, .keyStatus q, .evtRead q, .ctrRead q, .ledgerRead q],
    exec c s = .next t → AnswerOnly s t) ∧
  (∀ (s t : State) (q : VReq), exec (.cfgStatus q) s = .next t → AnswerOnly { s with vk := { s.vk with frames := t.vk.frames } } t)

/-- R196, R198: which commands store in DRAM, and where. Every byte of DRAM reads as before after a command that stores nothing, unless the
whole of DRAM is lost to a reset or to Watch (R757); a write through the map cache stores at its own address and in its own line, and
ZERO_LINE in its line. -/
def Obligations.MemoryFrame : Prop :=
  (∀ (c : Instr) (s t : State), ¬ storesBytes c → exec c s = .next t → t.dr.mem = s.dr.mem ∨ t.dr.mem = []) ∧
  (∀ (s t : State) (a : Nat) (d : Bytes) (x : Nat), MemInv s → exec (.mapCacheAccess true a d) s = .next t →
    (x < a ∨ a + d.length ≤ x) → memGet t.dr.mem x = memGet s.dr.mem x) ∧
  (∀ (s t : State) (a : Nat) (d : Bytes) (x : Nat), MemInv s → s.inWindow a = true → exec (.mapCacheAccess true a d) s = .next t →
    (x < s.lineStart a ∨ s.lineStart a + 256 ≤ x) → memGet t.dr.mem x = memGet s.dr.mem x) ∧
  (∀ (s t : State) (a : Nat) (d : Bytes), exec (.mapCacheAccess false a d) s = .next t → t.dr.mem = s.dr.mem)

/-- R144, R683 to R685, R770, R773: the compare-only unit's commands change the seal and digest engines alone, but for the counters and for what a
compare fault sets off; an access of a sideband register
that acts on no other unit changes the sideband and what has been sent alone. -/
def Obligations.RegisterFrames : Prop :=
  (∀ (s t : State) (off : Nat) (w : BitVec 32), ∀ c ∈ [Instr.cmpGoCompare, .cmpGoSelfTest, .digestRegisterWrite off w],
    exec c s = .next t → t = { s with se := t.se }) ∧
  (∀ (s t : State) (f : Bool), exec (.compareDone f) s = .next t → t = { s with se := t.se, ct := t.ct }) ∧
  (∀ (s t : State), exec .cmpResult s = .next t → t = { s with
    se := t.se, out := t.out, ct := t.ct, ev := t.ev, rd := { s.rd with cmpFaults := t.rd.cmpFaults, cmpDefer := t.rd.cmpDefer } }) ∧
  (∀ (s t : State) (off addr : Nat) (w : BitVec 32) (n : BitVec 16) (b : BitVec 8), ∀ c ∈ [Instr.sbRtcLo, .sbIntStatus w, .sbMbxError w,
      .sbRegisterWrite off w, .sentinelResetArmExpiry, .entdaa addr, .setdasa addr, .rstdaa, .setnewda addr, .enec b, .disec b, .getpid,
      .getbcr, .getdcr, .setmwl n, .setmrl n, .getmwl, .getmrl],
    exec c s = .next t → t = { s with sb := t.sb, out := t.out }) ∧
  (∀ (s t : State), exec .getstatus s = .next t → t = { s with free := t.free, out := t.out }) ∧
  (∀ (s t : State) (w : BitVec 32), exec (.sbWake w) s = .next t →
    t = { s with sb := t.sb, out := t.out, pw := { s.pw with wakeCause := t.pw.wakeCause } })

/-- R92: the requests of one session start in the order of their arrival; at most 32 may be outstanding, a further one is refused with
OUTSTANDING_LIMIT, and a tag that is outstanding with TAG_IN_USE. -/
def Obligations.SessionRequestsInOrder : Prop :=
  (∀ (s : State) (c : Instr) (rest : List Instr), s.pending = c :: rest → step s = exec c { s with pending := rest }) ∧
  (∀ (s t : State) (c : Instr) (rest : List Instr), s.pending = c :: rest → step s = .next t → t.pending = rest) ∧
  (∀ (s : State) (op : Nat) (q : VReq) (x : Session) (body : State → State), op ≠ 0x0101 → s.deaf q.via = false →
    s.sessionOf q.via q.session = some x → q.tag ≠ 0 → q.tag ≠ 0xFFFFFFFF →
    (q.via.holds = true ∨ ∀ h, x.highTag = some h → serialAbove q.tag h = true) →
    (x.outstanding.contains q.tag = true → s.virkan op q body = s.turnAway q op .tagInUse) ∧
    (x.outstanding.contains q.tag = false → 32 ≤ x.outstanding.length → s.virkan op q body = s.turnAway q op .outstandingLimit) ∧
    (x.outstanding.contains q.tag = false → x.outstanding.length < 32 → SessionsOk s →
      ∃ y, (s.takeIn op q).sessionOf q.via q.session = some y ∧ y.outstanding = x.outstanding ++ [q.tag])) ∧
  (∀ (s : State) (op : Nat) (q : VReq) (st : VStatus), (s.turnAway q op st).vk.sessions = s.vk.sessions)

/-- R86: in a recovery start Virkan is served on SB alone, and of the opcodes only these; every other opcode of the catalogue is refused
with REFUSED_RECOVERY whatever its privilege and parameters, and one that is not defined with UNKNOWN_OPCODE. -/
def Obligations.RecoveryServesItsOpcodes : Prop :=
  (∀ (s : State) (op : Nat) (q : VReq) (body : State → State), s.md.recovery = true → q.via ≠ .sb → s.virkan op q body = s) ∧
  (∀ (s : State) (via : Transport) (bs : Bytes), s.md.recovery = true → via ≠ .sb → s.wire via bs = s) ∧
  (∀ (s : State) (op : Nat) (q : VReq) (body : State → State), s.md.recovery = true → q.via = .sb → s.deaf .sb = false →
    s.checkSession op q = none →
    (vop op = none → s.virkan op q body = (s.takeIn op q).reply q op .unknownOpcode []) ∧
    ((vop op).isSome = true → op ∉ [0x0101, 0x0102, 0x0103, 0x0104, 0x0A01, 0x0A02, 0x0A03, 0x0A04, 0x0A05, 0x0A06, 0x0A07, 0x0A08, 0x0A09,
        0x0A0A, 0x0807, 0x0804, 0x0901, 0x0903, 0x0B01, 0x0B02, 0x0B03, 0x0B04] →
      s.virkan op q body = (s.takeIn op q).reply q op .refusedRecovery []) ∧
    (op ∈ [0x0101, 0x0102, 0x0103, 0x0104, 0x0A01, 0x0A02, 0x0A03, 0x0A04, 0x0A05, 0x0A06, 0x0A07, 0x0A08, 0x0A09, 0x0A0A, 0x0807, 0x0804,
        0x0901, 0x0903, 0x0B01, 0x0B02, 0x0B03, 0x0B04] →
      (s.takeIn op q).checkOp op q ≠ some .refusedRecovery ∧ (s.takeIn op q).checkOp op q ≠ some .unknownOpcode))

/-- R89: a session starts with no failure; each failed SESSION_AUTH counts, and the third closes the session with the WARN event E022. -/
def Obligations.ThreeFailuresCloseSession : Prop :=
  (∀ (s : State) (q : VReq) (u : State), SessionsOk s → Runs s 0x0101 q u → u.sessionSlot q.via = true →
    ∃ t x, exec (.sessionOpen q) s = .next t ∧ t.sessionOf q.via u.vk.nextHandle = some x ∧ x.fails = 0) ∧
  (∀ (s : State) (q : VReq) (u : State) (x : Session), SessionsOk s → Runs s 0x0102 q u → s.sessionOf q.via q.session = some x →
    u.proofOk x ((q.param 1).getD []) = false → x.fails < 2 →
    ∃ t y, exec (.sessionAuth q) s = .next t ∧ t.sessionOf q.via q.session = some y ∧ y.fails = x.fails + 1 ∧ y.priv = x.priv) ∧
  (∀ (s : State) (q : VReq) (u : State) (x : Session), SessionsOk s → Runs s 0x0102 q u → s.sessionOf q.via q.session = some x →
    u.proofOk x ((q.param 1).getD []) = false → x.fails = 2 →
    ∃ (t v : State) (d : Bytes), exec (.sessionAuth q) s = .next t ∧ t = (v.ev0 0x022 .warn d).closeSession q.session ∧ t.sessionOf q.via q.session = none)

/-- R198: ZERO_LINE leaves the line of its address present and zero, overwriting it where it was present, and 256 zero bytes in DRAM;
no byte of DRAM outside the line changes. A line that was present and whole stays in its way; one whose error ECC cannot correct, a free
value, is allocated anew (R200). -/
def Obligations.ZeroLineAllocatesAndWrites : Prop :=
  ∀ (s : State) (a : Nat), MemInv s → a < s.dramBytes → s.inWindow a = true →
    ∃ t, exec (.zeroLine a) s = .next t ∧ t.mc.line (s.cacheAt a).1 (s.cacheAt a).2 = some (zeros 256) ∧
      (∀ i < 256, memGet t.dr.mem (s.lineStart a + i) = 0) ∧
      (∀ x, (x < s.lineStart a ∨ s.lineStart a + 256 ≤ x) → memGet t.dr.mem x = memGet s.dr.mem x) ∧
      ((s.mc.line (s.cacheAt a).1 (s.cacheAt a).2).isSome = true → t.mc.lines.length ≤ s.mc.lines.length ∧
        (s.drawnNat = 0 → t.mc.lines.length = s.mc.lines.length ∧ t.mc.lfsr = s.mc.lfsr))

/-- R799: a pulse of CHIP_RESET_N of 1 µs or longer resets the device, one shorter than 500 ns does nothing, and one between the two either
resets the device wholly or does nothing; WAKE_N is a wake only after 100 µs low. Without the always-on supply there is no sentinel that
sees either. -/
def Obligations.ResetAndWakePulses : Prop :=
  (∀ (s : State) (ns : Nat), s.pw.aonOk = true → 1000 ≤ ns → exec (.chipResetN ns) s = .next (s.resetDevice 1)) ∧
  (∀ (s : State) (ns : Nat), ns < 500 → exec (.chipResetN ns) s = .next s) ∧
  (∀ (s : State) (ns : Nat), s.pw.aonOk = true → 500 ≤ ns → ns < 1000 →
    exec (.chipResetN ns) s = .next s.afterDraw ∨ exec (.chipResetN ns) s = .next (s.afterDraw.resetDevice 1)) ∧
  (∀ (s : State) (us : Nat), us < 100 → exec (.wakeN us) s = .next s) ∧
  (∀ (s : State) (us : Nat), s.pw.aonOk = true → 100 ≤ us → (s.pw.sleep.isSome = true ∨ s.md.entering.isSome = true) →
    ∃ t, exec (.wakeN us) s = .next t ∧ t.pw.wakeCause.getLsbD 0 = true ∧ t = { s with pw := { s.pw with wakeCause := t.pw.wakeCause } })

/-- R719: the FIFO holds 1,024 entries of TRACE to SEVERE and the reserved lane 64 of CRITICAL and FATAL; the writer takes from the lane
first, and from each in the order of arrival. -/
def Obligations.IntakeHoldsAndServesInOrder : Prop :=
  (∀ (s t : State), RecorderOk s → step s = .next t → t.ev.fifo.length ≤ 1024 ∧ t.ev.lane.length ≤ 64) ∧
  (∀ (s : State) (r : Report0), sevN r.sev < 6 → s.ev.fifo.length < 1024 → (s.intake r).ev = { s.ev with fifo := s.ev.fifo ++ [r] }) ∧
  (∀ (s : State) (r : Report0), 6 ≤ sevN r.sev → isSummary r.code = false → s.ev.lane.length < 64 →
    (s.intake r).ev = { s.ev with lane := s.ev.lane ++ [r] }) ∧
  (∀ (s : State) (r : Report0) (rest : List Report0), s.ev.lane = r :: rest →
    ∃ t, exec .eventWrite s = .next t ∧ t = ((s.ev' fun v => { v with lane := rest }).writeRec r).laneFrees ∧ t.ev.fifo = s.ev.fifo ∧
      (s.ev.waiting = [] → t.ev.lane = rest)) ∧
  (∀ (s : State) (r : Report0) (rest : List Report0), s.ev.lane = [] → s.ev.fifo = r :: rest →
    ∃ t, exec .eventWrite s = .next t ∧ t = (s.ev' fun v => { v with fifo := rest }).writeRec r ∧ t.ev.lane = [] ∧ t.ev.fifo = rest)

/-- R735: the increment that saturates a fault counter raises E0F0 with the counter's class, index and position; no later increment
does, until CTR_CLEAR makes the counter 0 and armed again. -/
def Obligations.SaturationRaisedOnce : Prop :=
  (∀ (s : State) (cls idx pos n : Nat), ctrFault cls = true → (ctrGet s.ct.vals cls idx pos).sat = false →
    (ctrGet s.ct.vals cls idx pos).armed = true → 0xFFFFFFFF < (ctrGet s.ct.vals cls idx pos).val + n →
    ∃ v : State, s.bump cls idx pos n = v.ev0 0x0F0 .warn (le 2 cls ++ le 4 idx ++ le 1 pos) ∧
      v = s.ct' (fun _ => v.ct) ∧ (ctrGet v.ct.vals cls idx pos).sat = true ∧ (ctrGet v.ct.vals cls idx pos).armed = false) ∧
  (∀ (s : State) (cls idx pos n : Nat), ((ctrGet s.ct.vals cls idx pos).armed = false ∨ (ctrGet s.ct.vals cls idx pos).sat = true ∨
      (ctrGet s.ct.vals cls idx pos).val + n ≤ 0xFFFFFFFF) → ctrFault cls = true →
    s.bump cls idx pos n = s.ct' (fun _ => (s.bump cls idx pos n).ct) ∧
      (ctrGet (s.bump cls idx pos n).ct.vals cls idx pos).armed = (ctrGet s.ct.vals cls idx pos).armed) ∧
  (∀ (s : State) (q : VReq) (u : State) (idx pos : Nat), Runs s 0x0904 q u → (u.ctrBlocks (q.num 1 0) (q.num 2 0)).isSome = true →
    (ownerClears (q.num 1 0) = true → (u.sessionOf q.via q.session).any (·.priv == .owner) = true) →
    (q.num 2 0 = idx ∨ q.num 2 0 = 0xFFFFFFFF) →
    ∃ t, exec (.ctrClear q) s = .next t ∧ (ctrGet t.ct.vals (q.num 1 0) idx pos).armed = true ∧
      (ctrGet t.ct.vals (q.num 1 0) idx pos).sat = false ∧ (ctrGet t.ct.vals (q.num 1 0) idx pos).val = 0)

/-- R84: on MG a request whose tag is not above every earlier tag of its session is refused with REPLAYED and executes nothing; one that
passes step 6 raises the highest tag whatever a later check decides; a packet refused before step 6 raises none. -/
def Obligations.MgTagsRise : Prop :=
  (∀ (s : State) (op : Nat) (q : VReq) (x : Session) (h : Nat) (body : State → State), op ≠ 0x0101 → s.deaf q.via = false →
    q.via.holds = false → s.sessionOf q.via q.session = some x → q.tag ≠ 0 → q.tag ≠ 0xFFFFFFFF → x.highTag = some h →
    serialAbove q.tag h = false → s.virkan op q body = s.turnAway q op .replayed) ∧
  (∀ (s : State) (op : Nat) (q : VReq) (x : Session) (st : VStatus) (body : State → State), SessionsOk s → op ≠ 0x0101 →
    s.deaf q.via = false → q.via.holds = false → s.sessionOf q.via q.session = some x → s.checkSession op q = none →
    (s.takeIn op q).checkOp op q = some st →
    ∃ y, (s.virkan op q body).sessionOf q.via q.session = some y ∧ y.highTag = some q.tag) ∧
  (∀ (s : State) (conn : Nat) (bs : Bytes) (st : VStatus), headerFault bs = none → s.parseRequest (.mg conn) bs = .error st →
    (s.wire (.mg conn) bs).vk.sessions = s.vk.sessions) ∧
  (∀ (a b : Nat), a < 2 ^ 32 → b < 2 ^ 32 →
    (serialAbove a b = true ↔ (BitVec.ofNat 32 a - BitVec.ofNat 32 b) ≠ 0 ∧ (BitVec.ofNat 32 a - BitVec.ofNat 32 b).toNat < 2 ^ 31))

/-- R67: a comb refuses with FENCED each die task whose epoch is below its own: it writes no page, begins nothing on a die and takes up no
suspended erase; a raise of the epoch leaves what its dies
execute alone, and a task that executes ends by its own rule, whatever the epoch. -/
def Obligations.FencedTasksDoNothing : Prop :=
  (∀ (s : State) (n : Nat) (p : Side) (f : LFrame) (b : Bridge), AtBridge s n p f b → f.type = 1 → f.epoch.toNat < b.epoch →
    (b.port p).waiting = [] → (b.port p).unacked.length < 255 → ∀ c ∈ [(Instr.taskRead n p f, TaskOp.read), (.taskSeqRead n p f, .seqRead),
      (.taskProgramSlc n p f, .programSlc), (.taskProgramQlc n p f, .programQlc), (.taskErase n p f, .erase),
      (.eraseSuspend n p f, .eraseSuspend), (.eraseResume n p f, .eraseResume)], f.op = c.2.num →
    ∃ t d g, exec c.1 s = .next t ∧ t.bridge? n = some d ∧ d.pages = b.pages ∧ d.epoch = b.epoch ∧ d.owner = b.owner ∧
      (∀ i x, b.die? i = some x → ∃ y, d.die? i = some y ∧ (y.exec = x.exec ∨ y.exec = none) ∧ y.susp = x.susp) ∧
      t.out.getLast? = some (.link n true p g) ∧ g.tag = f.tag ∧ g.epoch = BitVec.ofNat 32 b.epoch ∧ g.owner = b.owner ∧
      g.status = (plainStatus .fenced ((b.die? f.die).any (·.susp.isSome))).bits) ∧
  (∀ (s t : State) (n : Nat) (p : Side) (f : LFrame), ∀ c ∈ [Instr.fenceRaise n p f, .fenceAdopt n p f], exec c s = .next t →
    List.Forall₂ (fun b d => d.dies = b.dies ∧ d.pages = b.pages) s.cl.bridges t.cl.bridges) ∧
  (∀ (s : State) (n d : Nat) (good : Bool) (b : Bridge) (x : Die) (e : DieExec), s.bridge? n = some b → b.powered = true → b.die? d = some x →
    x.exec = some e →
    ((e.hdr.op = .read ∨ e.hdr.op = .seqRead) → exec (.dieTaskDone n d good) s = .next (s.endRead n b x e good)) ∧
    ((e.hdr.op = .programSlc ∨ e.hdr.op = .programQlc) → (e.malformed = true ∨ e.hdr.pages.length ≤ e.data.length) →
      exec (.dieTaskDone n d good) s = .next (s.endProgram n x e good)) ∧
    (e.hdr.op = .erase → exec (.dieTaskDone n d good) s = .next (s.endErase n x e good)))

/-- R342: FENCE_ADOPT sets the epoch it names and records the owner on a comb that has never been fenced; on any other it answers
FENCE_LOST and changes neither. -/
def Obligations.FenceAdoptOnlyUnfenced : Prop :=
  ∀ (s : State) (n : Nat) (p : Side) (f : LFrame) (b : Bridge), AtBridge s n p f b → f.type = 1 → f.op = 0x81 →
    (b.port p).waiting = [] → (b.port p).unacked.length < 256 → b.failed = false → b.storeFault = false →
    ∃ t d g, exec (.fenceAdopt n p f) s = .next t ∧ t.bridge? n = some d ∧ t.out.getLast? = some (.link n true p g) ∧
      (b.epoch = 0 ∧ b.owner = 0xFFFF → d.epoch = f.arg.toNat ∧ d.owner = f.owner ∧ g.status = (plainStatus .pass false).bits) ∧
      (¬ (b.epoch = 0 ∧ b.owner = 0xFFFF) → d.epoch = b.epoch ∧ d.owner = b.owner ∧ g.status = (plainStatus .fenceLost false).bits)
end

