-- ==== Sys2Proof/Laws/Dispatch.lean ====
section
/-! SUPPORT. What each command runs: one lemma per constructor. -/

namespace Sys2Proof.Machine

@[simp] theorem exec_sessionOpen (q : VReq) (s : State) :
    exec (.sessionOpen q) s = execSessionOpen q s := rfl
@[simp] theorem exec_sessionAuth (q : VReq) (s : State) :
    exec (.sessionAuth q) s = execSessionAuth q s := rfl
@[simp] theorem exec_sessionClose (q : VReq) (s : State) :
    exec (.sessionClose q) s = execSessionClose q s := rfl
@[simp] theorem exec_sessionList (q : VReq) (s : State) :
    exec (.sessionList q) s = execSessionList q s := rfl
@[simp] theorem exec_sessionIdleExpiry (handle : Nat) (s : State) :
    exec (.sessionIdleExpiry handle) s = execSessionIdleExpiry handle s := rfl
@[simp] theorem exec_cfgOpen (q : VReq) (s : State) :
    exec (.cfgOpen q) s = execCfgOpen q s := rfl
@[simp] theorem exec_cfgStage (q : VReq) (s : State) :
    exec (.cfgStage q) s = execCfgStage q s := rfl
@[simp] theorem exec_cfgCheck (q : VReq) (s : State) :
    exec (.cfgCheck q) s = execCfgCheck q s := rfl
@[simp] theorem exec_cfgApply (q : VReq) (s : State) :
    exec (.cfgApply q) s = execCfgApply q s := rfl
@[simp] theorem exec_cfgCancel (q : VReq) (s : State) :
    exec (.cfgCancel q) s = execCfgCancel q s := rfl
@[simp] theorem exec_cfgStatus (q : VReq) (s : State) :
    exec (.cfgStatus q) s = execCfgStatus q s := rfl
@[simp] theorem exec_cfgRead (q : VReq) (s : State) :
    exec (.cfgRead q) s = execCfgRead q s := rfl
@[simp] theorem exec_modeGet (q : VReq) (s : State) :
    exec (.modeGet q) s = execModeGet q s := rfl
@[simp] theorem exec_frameIdleExpiry (frame : Nat) (s : State) :
    exec (.frameIdleExpiry frame) s = execFrameIdleExpiry frame s := rfl
@[simp] theorem exec_frameReadiness (fromCoord : Bool) (frame tick : Nat) (items : List Item) (ok : Bool) (s : State) :
    exec (.frameReadiness fromCoord frame tick items ok) s = execFrameReadiness fromCoord frame tick items ok s := rfl
@[simp] theorem exec_frameReadinessDeadline (frame : Nat) (s : State) :
    exec (.frameReadinessDeadline frame) s = execFrameReadinessDeadline frame s := rfl
@[simp] theorem exec_goRecordLateConfirm (frame : Nat) (s : State) :
    exec (.goRecordLateConfirm frame) s = execGoRecordLateConfirm frame s := rfl
@[simp] theorem exec_wakeModeRecheck (s : State) :
    exec .wakeModeRecheck s = execWakeModeRecheck s := rfl
@[simp] theorem exec_domainCreate (q : VReq) (s : State) :
    exec (.domainCreate q) s = execDomainCreate q s := rfl
@[simp] theorem exec_domainDelete (q : VReq) (s : State) :
    exec (.domainDelete q) s = execDomainDelete q s := rfl
@[simp] theorem exec_domainList (q : VReq) (s : State) :
    exec (.domainList q) s = execDomainList q s := rfl
@[simp] theorem exec_nsCreate (q : VReq) (s : State) :
    exec (.nsCreate q) s = execNsCreate q s := rfl
@[simp] theorem exec_nsDelete (q : VReq) (s : State) :
    exec (.nsDelete q) s = execNsDelete q s := rfl
@[simp] theorem exec_nsResize (q : VReq) (s : State) :
    exec (.nsResize q) s = execNsResize q s := rfl
@[simp] theorem exec_nsList (q : VReq) (s : State) :
    exec (.nsList q) s = execNsList q s := rfl
@[simp] theorem exec_snapCreate (q : VReq) (s : State) :
    exec (.snapCreate q) s = execSnapCreate q s := rfl
@[simp] theorem exec_snapDelete (q : VReq) (s : State) :
    exec (.snapDelete q) s = execSnapDelete q s := rfl
@[simp] theorem exec_snapClone (q : VReq) (s : State) :
    exec (.snapClone q) s = execSnapClone q s := rfl
@[simp] theorem exec_hiveStatus (q : VReq) (s : State) :
    exec (.hiveStatus q) s = execHiveStatus q s := rfl
@[simp] theorem exec_hiveWake (q : VReq) (s : State) :
    exec (.hiveWake q) s = execHiveWake q s := rfl
@[simp] theorem exec_hiveDark (q : VReq) (s : State) :
    exec (.hiveDark q) s = execHiveDark q s := rfl
@[simp] theorem exec_superAttach (q : VReq) (s : State) :
    exec (.superAttach q) s = execSuperAttach q s := rfl
@[simp] theorem exec_combRetire (q : VReq) (s : State) :
    exec (.combRetire q) s = execCombRetire q s := rfl
@[simp] theorem exec_stripeAcceptLoss (q : VReq) (s : State) :
    exec (.stripeAcceptLoss q) s = execStripeAcceptLoss q s := rfl
@[simp] theorem exec_mediaStats (q : VReq) (s : State) :
    exec (.mediaStats q) s = execMediaStats q s := rfl
@[simp] theorem exec_pairStatus (q : VReq) (s : State) :
    exec (.pairStatus q) s = execPairStatus q s := rfl
@[simp] theorem exec_rebalance (q : VReq) (s : State) :
    exec (.rebalance q) s = execRebalance q s := rfl
@[simp] theorem exec_pathDrill (q : VReq) (s : State) :
    exec (.pathDrill q) s = execPathDrill q s := rfl
@[simp] theorem exec_pathDrillAckTimeout (s : State) :
    exec .pathDrillAckTimeout s = execPathDrillAckTimeout s := rfl
@[simp] theorem exec_mirrorDiscard (q : VReq) (s : State) :
    exec (.mirrorDiscard q) s = execMirrorDiscard q s := rfl
@[simp] theorem exec_pairElect (q : VReq) (s : State) :
    exec (.pairElect q) s = execPairElect q s := rfl
@[simp] theorem exec_colonyStatus (q : VReq) (s : State) :
    exec (.colonyStatus q) s = execColonyStatus q s := rfl
@[simp] theorem exec_colonyJoin (q : VReq) (s : State) :
    exec (.colonyJoin q) s = execColonyJoin q s := rfl
@[simp] theorem exec_colonyJoinTimeout (s : State) :
    exec .colonyJoinTimeout s = execColonyJoinTimeout s := rfl
@[simp] theorem exec_colonyLeave (q : VReq) (s : State) :
    exec (.colonyLeave q) s = execColonyLeave q s := rfl
@[simp] theorem exec_queenAssign (q : VReq) (s : State) :
    exec (.queenAssign q) s = execQueenAssign q s := rfl
@[simp] theorem exec_tokenStatus (q : VReq) (s : State) :
    exec (.tokenStatus q) s = execTokenStatus q s := rfl
@[simp] theorem exec_catalogueRead (q : VReq) (s : State) :
    exec (.catalogueRead q) s = execCatalogueRead q s := rfl
@[simp] theorem exec_rgCreate (q : VReq) (s : State) :
    exec (.rgCreate q) s = execRgCreate q s := rfl
@[simp] theorem exec_rgDelete (q : VReq) (s : State) :
    exec (.rgDelete q) s = execRgDelete q s := rfl
@[simp] theorem exec_rgStatus (q : VReq) (s : State) :
    exec (.rgStatus q) s = execRgStatus q s := rfl
@[simp] theorem exec_rgPause (q : VReq) (s : State) :
    exec (.rgPause q) s = execRgPause q s := rfl
@[simp] theorem exec_rgResume (q : VReq) (s : State) :
    exec (.rgResume q) s = execRgResume q s := rfl
@[simp] theorem exec_snapShip (q : VReq) (s : State) :
    exec (.snapShip q) s = execSnapShip q s := rfl
@[simp] theorem exec_ownerEnroll (q : VReq) (s : State) :
    exec (.ownerEnroll q) s = execOwnerEnroll q s := rfl
@[simp] theorem exec_keyProvision (q : VReq) (s : State) :
    exec (.keyProvision q) s = execKeyProvision q s := rfl
@[simp] theorem exec_keyEscrowExport (q : VReq) (s : State) :
    exec (.keyEscrowExport q) s = execKeyEscrowExport q s := rfl
@[simp] theorem exec_keyRestore (q : VReq) (s : State) :
    exec (.keyRestore q) s = execKeyRestore q s := rfl
@[simp] theorem exec_keyRotate (q : VReq) (s : State) :
    exec (.keyRotate q) s = execKeyRotate q s := rfl
@[simp] theorem exec_keyErase (q : VReq) (s : State) :
    exec (.keyErase q) s = execKeyErase q s := rfl
@[simp] theorem exec_keyStatus (q : VReq) (s : State) :
    exec (.keyStatus q) s = execKeyStatus q s := rfl
@[simp] theorem exec_evtRead (q : VReq) (s : State) :
    exec (.evtRead q) s = execEvtRead q s := rfl
@[simp] theorem exec_evtSubscribe (q : VReq) (s : State) :
    exec (.evtSubscribe q) s = execEvtSubscribe q s := rfl
@[simp] theorem exec_ctrRead (q : VReq) (s : State) :
    exec (.ctrRead q) s = execCtrRead q s := rfl
@[simp] theorem exec_ctrClear (q : VReq) (s : State) :
    exec (.ctrClear q) s = execCtrClear q s := rfl
@[simp] theorem exec_attest (q : VReq) (s : State) :
    exec (.attest q) s = execAttest q s := rfl
@[simp] theorem exec_ledgerRead (q : VReq) (s : State) :
    exec (.ledgerRead q) s = execLedgerRead q s := rfl
@[simp] theorem exec_updBegin (q : VReq) (s : State) :
    exec (.updBegin q) s = execUpdBegin q s := rfl
@[simp] theorem exec_updBlock (q : VReq) (s : State) :
    exec (.updBlock q) s = execUpdBlock q s := rfl
@[simp] theorem exec_updVerify (q : VReq) (s : State) :
    exec (.updVerify q) s = execUpdVerify q s := rfl
@[simp] theorem exec_updActivate (q : VReq) (s : State) :
    exec (.updActivate q) s = execUpdActivate q s := rfl
@[simp] theorem exec_updConfirm (q : VReq) (s : State) :
    exec (.updConfirm q) s = execUpdConfirm q s := rfl
@[simp] theorem exec_updAbort (q : VReq) (s : State) :
    exec (.updAbort q) s = execUpdAbort q s := rfl
@[simp] theorem exec_updLock (q : VReq) (s : State) :
    exec (.updLock q) s = execUpdLock q s := rfl
@[simp] theorem exec_updateStagingRoom (bytes : Nat) (s : State) :
    exec (.updateStagingRoom bytes) s = execUpdateStagingRoom bytes s := rfl
@[simp] theorem exec_trialWindowEnd (s : State) :
    exec .trialWindowEnd s = execTrialWindowEnd s := rfl
@[simp] theorem exec_restart (q : VReq) (s : State) :
    exec (.restart q) s = execRestart q s := rfl
@[simp] theorem exec_diagDieRead (q : VReq) (s : State) :
    exec (.diagDieRead q) s = execDiagDieRead q s := rfl
@[simp] theorem exec_diagLinkLoop (q : VReq) (s : State) :
    exec (.diagLinkLoop q) s = execDiagLinkLoop q s := rfl
@[simp] theorem exec_diagSelftest (q : VReq) (s : State) :
    exec (.diagSelftest q) s = execDiagSelftest q s := rfl
@[simp] theorem exec_diagDump (q : VReq) (s : State) :
    exec (.diagDump q) s = execDiagDump q s := rfl
@[simp] theorem exec_virkanReplyExpiry (via : Transport) (session tag : Nat) (s : State) :
    exec (.virkanReplyExpiry via session tag) s = execVirkanReplyExpiry via session tag s := rfl
@[simp] theorem exec_confirmCodeExpiry (handle : Nat) (s : State) :
    exec (.confirmCodeExpiry handle) s = execConfirmCodeExpiry handle s := rfl
@[simp] theorem exec_adminC0hSubmit (e : Sqe) (s : State) :
    exec (.adminC0hSubmit e) s = execAdminC0hSubmit e s := rfl
@[simp] theorem exec_adminC1hFetch (e : Sqe) (s : State) :
    exec (.adminC1hFetch e) s = execAdminC1hFetch e s := rfl
@[simp] theorem exec_mgVirkanPacket (conn : Nat) (bytes : Bytes) (s : State) :
    exec (.mgVirkanPacket conn bytes) s = execMgVirkanPacket conn bytes s := rfl
@[simp] theorem exec_attestationServiceRequest (conn : Nat) (bytes : Bytes) (s : State) :
    exec (.attestationServiceRequest conn bytes) s = execAttestationServiceRequest conn bytes s := rfl
@[simp] theorem exec_sbReqData (word : BitVec 32) (s : State) :
    exec (.sbReqData word) s = execSbReqData word s := rfl
@[simp] theorem exec_sbReqCap (word : BitVec 32) (s : State) :
    exec (.sbReqCap word) s = execSbReqCap word s := rfl
@[simp] theorem exec_sbRspData (s : State) :
    exec .sbRspData s = execSbRspData s := rfl
@[simp] theorem exec_sbRtcLo (s : State) :
    exec .sbRtcLo s = execSbRtcLo s := rfl
@[simp] theorem exec_sbSentinelReset (word : BitVec 32) (s : State) :
    exec (.sbSentinelReset word) s = execSbSentinelReset word s := rfl
@[simp] theorem exec_sentinelResetArmExpiry (s : State) :
    exec .sentinelResetArmExpiry s = execSentinelResetArmExpiry s := rfl
@[simp] theorem exec_sbWake (word : BitVec 32) (s : State) :
    exec (.sbWake word) s = execSbWake word s := rfl
@[simp] theorem exec_sbPadRelease (word : BitVec 32) (s : State) :
    exec (.sbPadRelease word) s = execSbPadRelease word s := rfl
@[simp] theorem exec_sbIntStatus (word : BitVec 32) (s : State) :
    exec (.sbIntStatus word) s = execSbIntStatus word s := rfl
@[simp] theorem exec_sbMbxError (word : BitVec 32) (s : State) :
    exec (.sbMbxError word) s = execSbMbxError word s := rfl
@[simp] theorem exec_sbRegisterWrite (off : Nat) (word : BitVec 32) (s : State) :
    exec (.sbRegisterWrite off word) s = execSbRegisterWrite off word s := rfl
@[simp] theorem exec_entdaa (addr : Nat) (s : State) :
    exec (.entdaa addr) s = execEntdaa addr s := rfl
@[simp] theorem exec_setdasa (addr : Nat) (s : State) :
    exec (.setdasa addr) s = execSetdasa addr s := rfl
@[simp] theorem exec_rstdaa (s : State) :
    exec .rstdaa s = execRstdaa s := rfl
@[simp] theorem exec_setnewda (addr : Nat) (s : State) :
    exec (.setnewda addr) s = execSetnewda addr s := rfl
@[simp] theorem exec_enec (bits : BitVec 8) (s : State) :
    exec (.enec bits) s = execEnec bits s := rfl
@[simp] theorem exec_disec (bits : BitVec 8) (s : State) :
    exec (.disec bits) s = execDisec bits s := rfl
@[simp] theorem exec_getpid (s : State) :
    exec .getpid s = execGetpid s := rfl
@[simp] theorem exec_getbcr (s : State) :
    exec .getbcr s = execGetbcr s := rfl
@[simp] theorem exec_getdcr (s : State) :
    exec .getdcr s = execGetdcr s := rfl
@[simp] theorem exec_getstatus (s : State) :
    exec .getstatus s = execGetstatus s := rfl
@[simp] theorem exec_setmwl (len : BitVec 16) (s : State) :
    exec (.setmwl len) s = execSetmwl len s := rfl
@[simp] theorem exec_setmrl (len : BitVec 16) (s : State) :
    exec (.setmrl len) s = execSetmrl len s := rfl
@[simp] theorem exec_getmwl (s : State) :
    exec .getmwl s = execGetmwl s := rfl
@[simp] theorem exec_getmrl (s : State) :
    exec .getmrl s = execGetmrl s := rfl
@[simp] theorem exec_tcpConnectionRequest (svc : TcpSvc) (fpair : Nat × Nat) (s : State) :
    exec (.tcpConnectionRequest svc fpair) s = execTcpConnectionRequest svc fpair s := rfl
@[simp] theorem exec_icreq (conn pfv hpda : Nat) (hdgst ddgst : Bool) (maxR2t : Nat) (s : State) :
    exec (.icreq conn pfv hpda hdgst ddgst maxR2t) s = execIcreq conn pfv hpda hdgst ddgst maxR2t s := rfl
@[simp] theorem exec_fatalTransportError (conn fes : Nat) (s : State) :
    exec (.fatalTransportError conn fes) s = execFatalTransportError conn fes s := rfl
@[simp] theorem exec_h2cdata (conn cid off : Nat) (data : Bytes) (digestOk : Bool) (s : State) :
    exec (.h2cdata conn cid off data digestOk) s = execH2cdata conn cid off data digestOk s := rfl
@[simp] theorem exec_connect (c : NvConnect) (s : State) :
    exec (.connect c) s = execConnect c s := rfl
@[simp] theorem exec_keepAlive (e : Sqe) (s : State) :
    exec (.keepAlive e) s = execKeepAlive e s := rfl
@[simp] theorem exec_keepAliveTimeout (ctrl : Nat) (s : State) :
    exec (.keepAliveTimeout ctrl) s = execKeepAliveTimeout ctrl s := rfl
@[simp] theorem exec_identify (e : Sqe) (s : State) :
    exec (.identify e) s = execIdentify e s := rfl
@[simp] theorem exec_getLogPage (e : Sqe) (s : State) :
    exec (.getLogPage e) s = execGetLogPage e s := rfl
@[simp] theorem exec_setFeatures (e : Sqe) (s : State) :
    exec (.setFeatures e) s = execSetFeatures e s := rfl
@[simp] theorem exec_getFeatures (e : Sqe) (s : State) :
    exec (.getFeatures e) s = execGetFeatures e s := rfl
@[simp] theorem exec_asynchronousEventRequest (e : Sqe) (s : State) :
    exec (.asynchronousEventRequest e) s = execAsynchronousEventRequest e s := rfl
@[simp] theorem exec_abort (e : Sqe) (s : State) :
    exec (.abort e) s = execAbort e s := rfl
@[simp] theorem exec_directiveSend (e : Sqe) (s : State) :
    exec (.directiveSend e) s = execDirectiveSend e s := rfl
@[simp] theorem exec_directiveReceive (e : Sqe) (s : State) :
    exec (.directiveReceive e) s = execDirectiveReceive e s := rfl
@[simp] theorem exec_nvmeRead (e : Sqe) (s : State) :
    exec (.nvmeRead e) s = execNvmeRead e s := rfl
@[simp] theorem exec_nvmeWrite (e : Sqe) (s : State) :
    exec (.nvmeWrite e) s = execNvmeWrite e s := rfl
@[simp] theorem exec_flush (e : Sqe) (s : State) :
    exec (.flush e) s = execFlush e s := rfl
@[simp] theorem exec_writeZeroes (e : Sqe) (s : State) :
    exec (.writeZeroes e) s = execWriteZeroes e s := rfl
@[simp] theorem exec_datasetManagement (e : Sqe) (s : State) :
    exec (.datasetManagement e) s = execDatasetManagement e s := rfl
@[simp] theorem exec_acceptanceResume (ctrl qid cid : Nat) (s : State) :
    exec (.acceptanceResume ctrl qid cid) s = execAcceptanceResume ctrl qid cid s := rfl
@[simp] theorem exec_locPut (e : Sqe) (s : State) :
    exec (.locPut e) s = execLocPut e s := rfl
@[simp] theorem exec_locPutPart (e : Sqe) (s : State) :
    exec (.locPutPart e) s = execLocPutPart e s := rfl
@[simp] theorem exec_locGet (e : Sqe) (s : State) :
    exec (.locGet e) s = execLocGet e s := rfl
@[simp] theorem exec_locStat (e : Sqe) (s : State) :
    exec (.locStat e) s = execLocStat e s := rfl
@[simp] theorem exec_locRefresh (e : Sqe) (s : State) :
    exec (.locRefresh e) s = execLocRefresh e s := rfl
@[simp] theorem exec_locRelease (e : Sqe) (s : State) :
    exec (.locRelease e) s = execLocRelease e s := rfl
@[simp] theorem exec_locSeal (e : Sqe) (s : State) :
    exec (.locSeal e) s = execLocSeal e s := rfl
@[simp] theorem exec_objectCreateCommit (key : Nat) (s : State) :
    exec (.objectCreateCommit key) s = execObjectCreateCommit key s := rfl
@[simp] theorem exec_tokenHorizonExpiry (domain : Nat) (token : Bytes) (s : State) :
    exec (.tokenHorizonExpiry domain token) s = execTokenHorizonExpiry domain token s := rfl
@[simp] theorem exec_openObjectExpiry (key : Nat) (s : State) :
    exec (.openObjectExpiry key) s = execOpenObjectExpiry key s := rfl
@[simp] theorem exec_releasedObjectExpiry (key : Nat) (s : State) :
    exec (.releasedObjectExpiry key) s = execReleasedObjectExpiry key s := rfl
@[simp] theorem exec_ledgerEntryExpiry (domain : Nat) (old : Place) (s : State) :
    exec (.ledgerEntryExpiry domain old) s = execLedgerEntryExpiry domain old s := rfl
@[simp] theorem exec_manifestReleaseWalk (domain chunk : Nat) (s : State) :
    exec (.manifestReleaseWalk domain chunk) s = execManifestReleaseWalk domain chunk s := rfl
@[simp] theorem exec_chunkIngest (ordinal : Nat) (s : State) :
    exec (.chunkIngest ordinal) s = execChunkIngest ordinal s := rfl
@[simp] theorem exec_postProcess (chunk : Nat) (s : State) :
    exec (.postProcess chunk) s = execPostProcess chunk s := rfl
@[simp] theorem exec_filterRebuild (s : State) :
    exec .filterRebuild s = execFilterRebuild s := rfl
@[simp] theorem exec_compareSelftestRetry (s : State) :
    exec .compareSelftestRetry s = execCompareSelftestRetry s := rfl
@[simp] theorem exec_mergeCommit (nsid k : Nat) (s : State) :
    exec (.mergeCommit nsid k) s = execMergeCommit nsid k s := rfl
@[simp] theorem exec_envelopeRead (chunk : Nat) (s : State) :
    exec (.envelopeRead chunk) s = execEnvelopeRead chunk s := rfl
@[simp] theorem exec_cmpGoCompare (s : State) :
    exec .cmpGoCompare s = execCmpGoCompare s := rfl
@[simp] theorem exec_cmpGoSelfTest (s : State) :
    exec .cmpGoSelfTest s = execCmpGoSelfTest s := rfl
@[simp] theorem exec_compareDone (refFault : Bool) (s : State) :
    exec (.compareDone refFault) s = execCompareDone refFault s := rfl
@[simp] theorem exec_selfTestDone (pass : Bool) (s : State) :
    exec (.selfTestDone pass) s = execSelfTestDone pass s := rfl
@[simp] theorem exec_cmpResult (s : State) :
    exec .cmpResult s = execCmpResult s := rfl
@[simp] theorem exec_digestRegisterWrite (off : Nat) (word : BitVec 32) (s : State) :
    exec (.digestRegisterWrite off word) s = execDigestRegisterWrite off word s := rfl
@[simp] theorem exec_sealRequest (r : SealReq) (s : State) :
    exec (.sealRequest r) s = execSealRequest r s := rfl
@[simp] theorem exec_sealMessageDone (id : Nat) (s : State) :
    exec (.sealMessageDone id) s = execSealMessageDone id s := rfl
@[simp] theorem exec_sealUrgent (id : Nat) (s : State) :
    exec (.sealUrgent id) s = execSealUrgent id s := rfl
@[simp] theorem exec_domainKeyFetch (domain : Nat) (s : State) :
    exec (.domainKeyFetch domain) s = execDomainKeyFetch domain s := rfl
@[simp] theorem exec_waxRecordConfirmed (ordinal : Nat) (s : State) :
    exec (.waxRecordConfirmed ordinal) s = execWaxRecordConfirmed ordinal s := rfl
@[simp] theorem exec_checkpointDue (s : State) :
    exec .checkpointDue s = execCheckpointDue s := rfl
@[simp] theorem exec_flushMetadata (s : State) :
    exec .flushMetadata s = execFlushMetadata s := rfl
@[simp] theorem exec_dramScrub (s : State) :
    exec .dramScrub s = execDramScrub s := rfl
@[simp] theorem exec_dramUncorrectable (channel : Nat) (addr : Option Nat) (s : State) :
    exec (.dramUncorrectable channel addr) s = execDramUncorrectable channel addr s := rfl
@[simp] theorem exec_mapCacheAccess (write : Bool) (addr : Nat) (data : Bytes) (s : State) :
    exec (.mapCacheAccess write addr data) s = execMapCacheAccess write addr data s := rfl
@[simp] theorem exec_zeroLine (addr : Nat) (s : State) :
    exec (.zeroLine addr) s = execZeroLine addr s := rfl
@[simp] theorem exec_stripeOpen (hive lane : Nat) (purpose : Purpose) (s : State) :
    exec (.stripeOpen hive lane purpose) s = execStripeOpen hive lane purpose s := rfl
@[simp] theorem exec_stripeCloseTimer (ord : Nat) (s : State) :
    exec (.stripeCloseTimer ord) s = execStripeCloseTimer ord s := rfl
@[simp] theorem exec_stripeProgramDone (ord : Nat) (s : State) :
    exec (.stripeProgramDone ord) s = execStripeProgramDone ord s := rfl
@[simp] theorem exec_memberProgramFail (ord member : Nat) (s : State) :
    exec (.memberProgramFail ord member) s = execMemberProgramFail ord member s := rfl
@[simp] theorem exec_memberReadTimeout (ord member : Nat) (s : State) :
    exec (.memberReadTimeout ord member) s = execMemberReadTimeout ord member s := rfl
@[simp] theorem exec_combMarkFailed (link : Nat) (s : State) :
    exec (.combMarkFailed link) s = execCombMarkFailed link s := rfl
@[simp] theorem exec_rebuildStripe (hive : Nat) (s : State) :
    exec (.rebuildStripe hive) s = execRebuildStripe hive s := rfl
@[simp] theorem exec_replacementComb (link : Nat) (s : State) :
    exec (.replacementComb link) s = execReplacementComb link s := rfl
@[simp] theorem exec_reshapeStripes (hive : Nat) (s : State) :
    exec (.reshapeStripes hive) s = execReshapeStripes hive s := rfl
@[simp] theorem exec_foldRow (hive : Nat) (s : State) :
    exec (.foldRow hive) s = execFoldRow hive s := rfl
@[simp] theorem exec_readBackDone (hive : Nat) (s : State) :
    exec (.readBackDone hive) s = execReadBackDone hive s := rfl
@[simp] theorem exec_readBackFail (hive : Nat) (s : State) :
    exec (.readBackFail hive) s = execReadBackFail hive s := rfl
@[simp] theorem exec_gcMove (ord : Nat) (s : State) :
    exec (.gcMove ord) s = execGcMove ord s := rfl
@[simp] theorem exec_wearMove (link : Nat) (s : State) :
    exec (.wearMove link) s = execWearMove link s := rfl
@[simp] theorem exec_blockEraseDone (link die block : Nat) (s : State) :
    exec (.blockEraseDone link die block) s = execBlockEraseDone link die block s := rfl
@[simp] theorem exec_taskRead (link : Nat) (port : Side) (f : LFrame) (s : State) :
    exec (.taskRead link port f) s = execTaskRead link port f s := rfl
@[simp] theorem exec_taskSeqRead (link : Nat) (port : Side) (f : LFrame) (s : State) :
    exec (.taskSeqRead link port f) s = execTaskSeqRead link port f s := rfl
@[simp] theorem exec_taskProgramSlc (link : Nat) (port : Side) (f : LFrame) (s : State) :
    exec (.taskProgramSlc link port f) s = execTaskProgramSlc link port f s := rfl
@[simp] theorem exec_taskProgramQlc (link : Nat) (port : Side) (f : LFrame) (s : State) :
    exec (.taskProgramQlc link port f) s = execTaskProgramQlc link port f s := rfl
@[simp] theorem exec_taskErase (link : Nat) (port : Side) (f : LFrame) (s : State) :
    exec (.taskErase link port f) s = execTaskErase link port f s := rfl
@[simp] theorem exec_eraseSuspend (link : Nat) (port : Side) (f : LFrame) (s : State) :
    exec (.eraseSuspend link port f) s = execEraseSuspend link port f s := rfl
@[simp] theorem exec_eraseResume (link : Nat) (port : Side) (f : LFrame) (s : State) :
    exec (.eraseResume link port f) s = execEraseResume link port f s := rfl
@[simp] theorem exec_eraseAutoResume (link die : Nat) (s : State) :
    exec (.eraseAutoResume link die) s = execEraseAutoResume link die s := rfl
@[simp] theorem exec_fenceRaise (link : Nat) (port : Side) (f : LFrame) (s : State) :
    exec (.fenceRaise link port f) s = execFenceRaise link port f s := rfl
@[simp] theorem exec_fenceAdopt (link : Nat) (port : Side) (f : LFrame) (s : State) :
    exec (.fenceAdopt link port f) s = execFenceAdopt link port f s := rfl
@[simp] theorem exec_dieTaskDone (link die : Nat) (ok : Bool) (s : State) :
    exec (.dieTaskDone link die ok) s = execDieTaskDone link die ok s := rfl
@[simp] theorem exec_favouredPortExpiry (link die : Nat) (s : State) :
    exec (.favouredPortExpiry link die) s = execFavouredPortExpiry link die s := rfl
@[simp] theorem exec_regRead (link : Nat) (port : Side) (f : LFrame) (count : Nat) (s : State) :
    exec (.regRead link port f count) s = execRegRead link port f count s := rfl
@[simp] theorem exec_regData (link : Nat) (f : LFrame) (vals : List (BitVec 32)) (s : State) :
    exec (.regData link f vals) s = execRegData link f vals s := rfl
@[simp] theorem exec_dataFrame (link : Nat) (atHead : Bool) (port : Side) (f : LFrame) (s : State) :
    exec (.dataFrame link atHead port f) s = execDataFrame link atHead port f s := rfl
@[simp] theorem exec_pageEnd (link : Nat) (atHead : Bool) (port : Side) (f : LFrame) (s : State) :
    exec (.pageEnd link atHead port f) s = execPageEnd link atHead port f s := rfl
@[simp] theorem exec_doneFrame (link : Nat) (f : LFrame) (s : State) :
    exec (.doneFrame link f) s = execDoneFrame link f s := rfl
@[simp] theorem exec_bridgeEvent (link : Nat) (f : LFrame) (s : State) :
    exec (.bridgeEvent link f) s = execBridgeEvent link f s := rfl
@[simp] theorem exec_hello (link : Nat) (atHead : Bool) (port : Side) (f : LFrame) (s : State) :
    exec (.hello link atHead port f) s = execHello link atHead port f s := rfl
@[simp] theorem exec_linkAck (link : Nat) (atHead : Bool) (port : Side) (f : LFrame) (s : State) :
    exec (.linkAck link atHead port f) s = execLinkAck link atHead port f s := rfl
@[simp] theorem exec_linkNak (link : Nat) (atHead : Bool) (port : Side) (f : LFrame) (s : State) :
    exec (.linkNak link atHead port f) s = execLinkNak link atHead port f s := rfl
@[simp] theorem exec_linkResendTimer (link : Nat) (s : State) :
    exec (.linkResendTimer link) s = execLinkResendTimer link s := rfl
@[simp] theorem exec_blockLockLost (link : Nat) (s : State) :
    exec (.blockLockLost link) s = execBlockLockLost link s := rfl
@[simp] theorem exec_retrain (link : Nat) (peerNext : BitVec 12) (s : State) :
    exec (.retrain link peerNext) s = execRetrain link peerNext s := rfl
@[simp] theorem exec_combLinkBringUp (link : Nat) (ok : Bool) (s : State) :
    exec (.combLinkBringUp link ok) s = execCombLinkBringUp link ok s := rfl
@[simp] theorem exec_linkRetryTimer (link : Nat) (s : State) :
    exec (.linkRetryTimer link) s = execLinkRetryTimer link s := rfl
@[simp] theorem exec_linkDownTimeout (link : Nat) (s : State) :
    exec (.linkDownTimeout link) s = execLinkDownTimeout link s := rfl
@[simp] theorem exec_taskDeadline (link tag : Nat) (s : State) :
    exec (.taskDeadline link tag) s = execTaskDeadline link tag s := rfl
@[simp] theorem exec_bridgePowerUp (link : Nat) (s : State) :
    exec (.bridgePowerUp link) s = execBridgePowerUp link s := rfl
@[simp] theorem exec_hcbStatus (hive : Nat) (src : Side) (seq : Nat) (s : State) :
    exec (.hcbStatus hive src seq) s = execHcbStatus hive src seq s := rfl
@[simp] theorem exec_hcbVote (hive : Nat) (src : Side) (seq : Nat) (up : Bool) (s : State) :
    exec (.hcbVote hive src seq up) s = execHcbVote hive src seq up s := rfl
@[simp] theorem exec_hcbVoteClear (hive : Nat) (src : Side) (seq : Nat) (side : Side) (s : State) :
    exec (.hcbVoteClear hive src seq side) s = execHcbVoteClear hive src seq side s := rfl
@[simp] theorem exec_hcbReply (hive : Nat) (seq status : Nat) (b : ShelfBlock) (s : State) :
    exec (.hcbReply hive seq status b) s = execHcbReply hive seq status b s := rfl
@[simp] theorem exec_hcbPoll (bus : Nat) (s : State) :
    exec (.hcbPoll bus) s = execHcbPoll bus s := rfl
@[simp] theorem exec_hcbRequestRetry (bus seq : Nat) (s : State) :
    exec (.hcbRequestRetry bus seq) s = execHcbRequestRetry bus seq s := rfl
@[simp] theorem exec_shelfSilentTimeout (hive : Nat) (s : State) :
    exec (.shelfSilentTimeout hive) s = execShelfSilentTimeout hive s := rfl
@[simp] theorem exec_wakeTimeout (hive : Nat) (s : State) :
    exec (.wakeTimeout hive) s = execWakeTimeout hive s := rfl
@[simp] theorem exec_wakeRetry (hive : Nat) (s : State) :
    exec (.wakeRetry hive) s = execWakeRetry hive s := rfl
@[simp] theorem exec_hiveIdleDarkExpiry (hive : Nat) (s : State) :
    exec (.hiveIdleDarkExpiry hive) s = execHiveIdleDarkExpiry hive s := rfl
@[simp] theorem exec_darkPoint (hive : Nat) (s : State) :
    exec (.darkPoint hive) s = execDarkPoint hive s := rfl
@[simp] theorem exec_gatherWakeTrigger (hive : Nat) (s : State) :
    exec (.gatherWakeTrigger hive) s = execGatherWakeTrigger hive s := rfl
@[simp] theorem exec_gatherDeadline (ctrl qid cid : Nat) (s : State) :
    exec (.gatherDeadline ctrl qid cid) s = execGatherDeadline ctrl qid cid s := rfl
@[simp] theorem exec_tokenRenewal (hive : Nat) (s : State) :
    exec (.tokenRenewal hive) s = execTokenRenewal hive s := rfl
@[simp] theorem exec_tokenRequestRetry (hive : Nat) (s : State) :
    exec (.tokenRequestRetry hive) s = execTokenRequestRetry hive s := rfl
@[simp] theorem exec_workerTokenExpiry (hive : Nat) (s : State) :
    exec (.workerTokenExpiry hive) s = execWorkerTokenExpiry hive s := rfl
@[simp] theorem exec_queenAutonomyEnd (s : State) :
    exec .queenAutonomyEnd s = execQueenAutonomyEnd s := rfl
@[simp] theorem exec_join (ep apiary serial headA headB : Nat) (addrs : List Bytes) (s : State) :
    exec (.join ep apiary serial headA headB addrs) s = execJoin ep apiary serial headA headB addrs s := rfl
@[simp] theorem exec_joinReply (accepted : Bool) (cause epoch : Nat) (items : List (Nat × Bytes)) (s : State) :
    exec (.joinReply accepted cause epoch items) s = execJoinReply accepted cause epoch items s := rfl
@[simp] theorem exec_leave (ep apiary : Nat) (s : State) :
    exec (.leave ep apiary) s = execLeave ep apiary s := rfl
@[simp] theorem exec_contact (src epoch settingsGen : Nat) (gateOpen : Bool) (s : State) :
    exec (.contact src epoch settingsGen gateOpen) s = execContact src epoch settingsGen gateOpen s := rfl
@[simp] theorem exec_contactSend (s : State) :
    exec .contactSend s = execContactSend s := rfl
@[simp] theorem exec_queenUnreachable (s : State) :
    exec .queenUnreachable s = execQueenUnreachable s := rfl
@[simp] theorem exec_report (ep : Nat) (r : Report7) (s : State) :
    exec (.report ep r) s = execReport ep r s := rfl
@[simp] theorem exec_tokenRequest (ep apiary head hive prio num : Nat) (s : State) :
    exec (.tokenRequest ep apiary head hive prio num) s = execTokenRequest ep apiary head hive prio num s := rfl
@[simp] theorem exec_heldTokenRequestTimeout (apiary num : Nat) (s : State) :
    exec (.heldTokenRequestTimeout apiary num) s = execHeldTokenRequestTimeout apiary num s := rfl
@[simp] theorem exec_tokenGrant (ep : Nat) (t : WakeToken) (autonomy : Nat) (s : State) :
    exec (.tokenGrant ep t autonomy) s = execTokenGrant ep t autonomy s := rfl
@[simp] theorem exec_tokenRefuse (ep num cause : Nat) (s : State) :
    exec (.tokenRefuse ep num cause) s = execTokenRefuse ep num cause s := rfl
@[simp] theorem exec_tokenRecall (ep id : Nat) (s : State) :
    exec (.tokenRecall ep id) s = execTokenRecall ep id s := rfl
@[simp] theorem exec_colonyDormant (ep id : Nat) (s : State) :
    exec (.colonyDormant ep id) s = execColonyDormant ep id s := rfl
@[simp] theorem exec_queenTokenExpiry (id : Nat) (s : State) :
    exec (.queenTokenExpiry id) s = execQueenTokenExpiry id s := rfl
@[simp] theorem exec_colonySettings (ep gen : Nat) (items : List (Nat × Bytes)) (keyGen : Nat) (s : State) :
    exec (.colonySettings ep gen items keyGen) s = execColonySettings ep gen items keyGen s := rfl
@[simp] theorem exec_arbitrate (ep head : Nat) (shownRight : Bool) (s : State) :
    exec (.arbitrate ep head shownRight) s = execArbitrate ep head shownRight s := rfl
@[simp] theorem exec_updateState (ep head version : Nat) (pend fallback : Bool) (s : State) :
    exec (.updateState ep head version pend fallback) s = execUpdateState ep head version pend fallback s := rfl
@[simp] theorem exec_rolloutWaveOpen (s : State) :
    exec .rolloutWaveOpen s = execRolloutWaveOpen s := rfl
@[simp] theorem exec_forageWrite (p : FPkt) (carried : Option ShadowRec) (journal : Option JournalEntry) (s : State) :
    exec (.forageWrite p carried journal) s = execForageWrite p carried journal s := rfl
@[simp] theorem exec_writeImm (p : FPkt) (s : State) :
    exec (.writeImm p) s = execWriteImm p s := rfl
@[simp] theorem exec_readReq (p : FPkt) (s : State) :
    exec (.readReq p) s = execReadReq p s := rfl
@[simp] theorem exec_readResp (p : FPkt) (s : State) :
    exec (.readResp p) s = execReadResp p s := rfl
@[simp] theorem exec_forageAck (p : FPkt) (ctx : Nat) (id : BitVec 32) (rx : Nat) (map : BitVec 64) (echo : Nat) (s : State) :
    exec (.forageAck p ctx id rx map echo) s = execForageAck p ctx id rx map echo s := rfl
@[simp] theorem exec_forageNak (p : FPkt) (ctx : Nat) (id : BitVec 32) (code off map : Nat) (s : State) :
    exec (.forageNak p ctx id code off map) s = execForageNak p ctx id code off map s := rfl
@[simp] theorem exec_sendQueuePost (ctx : Nat) (es : List WorkEntry) (s : State) :
    exec (.sendQueuePost ctx es) s = execSendQueuePost ctx es s := rfl
@[simp] theorem exec_retransmissionTimeout (ctx : Nat) (s : State) :
    exec (.retransmissionTimeout ctx) s = execRetransmissionTimeout ctx s := rfl
@[simp] theorem exec_messageGiveUp (ctx : Nat) (s : State) :
    exec (.messageGiveUp ctx) s = execMessageGiveUp ctx s := rfl
@[simp] theorem exec_connectionBreak (ctx : Nat) (s : State) :
    exec (.connectionBreak ctx) s = execConnectionBreak ctx s := rfl
@[simp] theorem exec_rnrBackoffExpiry (ctx : Nat) (s : State) :
    exec (.rnrBackoffExpiry ctx) s = execRnrBackoffExpiry ctx s := rfl
@[simp] theorem exec_recentIdAging (s : State) :
    exec .recentIdAging s = execRecentIdAging s := rfl
@[simp] theorem exec_contextFetchDone (ctx : Nat) (s : State) :
    exec (.contextFetchDone ctx) s = execContextFetchDone ctx s := rfl
@[simp] theorem exec_contextFail (ctx : Nat) (s : State) :
    exec (.contextFail ctx) s = execContextFail ctx s := rfl
@[simp] theorem exec_pathIdleFree (path : Nat) (s : State) :
    exec (.pathIdleFree path) s = execPathIdleFree path s := rfl
@[simp] theorem exec_setup (src group source mode : Nat) (domains : List Nat) (salts : List Bytes) (s : State) :
    exec (.setup src group source mode domains salts) s = execSetup src group source mode domains salts s := rfl
@[simp] theorem exec_setupReply (group : Nat) (accepted : Bool) (cause : Nat) (s : State) :
    exec (.setupReply group accepted cause) s = execSetupReply group accepted cause s := rfl
@[simp] theorem exec_positionQuery (src group : Nat) (s : State) :
    exec (.positionQuery src group) s = execPositionQuery src group s := rfl
@[simp] theorem exec_position (group seq ordinal : Nat) (s : State) :
    exec (.position group seq ordinal) s = execPosition group seq ordinal s := rfl
@[simp] theorem exec_positionQueryTimeout (group : Nat) (s : State) :
    exec (.positionQueryTimeout group) s = execPositionQueryTimeout group s := rfl
@[simp] theorem exec_offer (src group batch : Nat) (fps : List (Bytes × Nat × Nat)) (s : State) :
    exec (.offer src group batch fps) s = execOffer src group batch fps s := rfl
@[simp] theorem exec_need (group batch : Nat) (bits : List Bool) (s : State) :
    exec (.need group batch bits) s = execNeed group batch bits s := rfl
@[simp] theorem exec_chunk (src group domain chunk gen clen : Nat) (body : Bytes) (s : State) :
    exec (.chunk src group domain chunk gen clen body) s = execChunk src group domain chunk gen clen body s := rfl
@[simp] theorem exec_batch (src group first last : Nat) (base final : Bool) (es : List ShipEntry) (s : State) :
    exec (.batch src group first last base final es) s = execBatch src group first last base final es s := rfl
@[simp] theorem exec_applied (group seq : Nat) (s : State) :
    exec (.applied group seq) s = execApplied group seq s := rfl
@[simp] theorem exec_batchClose (group : Nat) (s : State) :
    exec (.batchClose group) s = execBatchClose group s := rfl
@[simp] theorem exec_groupLapse (group : Nat) (s : State) :
    exec (.groupLapse group) s = execGroupLapse group s := rfl
@[simp] theorem exec_repairAsk (src domain : Nat) (fp : Bytes) (len : Nat) (s : State) :
    exec (.repairAsk src domain fp len) s = execRepairAsk src domain fp len s := rfl
@[simp] theorem exec_repairData (domain chunk gen clen : Nat) (body : Bytes) (s : State) :
    exec (.repairData domain chunk gen clen body) s = execRepairData domain chunk gen clen body s := rfl
@[simp] theorem exec_repairNone (domain : Nat) (fp : Bytes) (s : State) :
    exec (.repairNone domain fp) s = execRepairNone domain fp s := rfl
@[simp] theorem exec_repairTimeout (domain chunk : Nat) (s : State) :
    exec (.repairTimeout domain chunk) s = execRepairTimeout domain chunk s := rfl
@[simp] theorem exec_commitTick (s : State) :
    exec .commitTick s = execCommitTick s := rfl
@[simp] theorem exec_waggle (m : WaggleMsg) (s : State) :
    exec (.waggle m) s = execWaggle m s := rfl
@[simp] theorem exec_leaseEnd (s : State) :
    exec .leaseEnd s = execLeaseEnd s := rfl
@[simp] theorem exec_tickDigest (m : DigestMsg) (s : State) :
    exec (.tickDigest m) s = execTickDigest m s := rfl
@[simp] theorem exec_selfCheck (selfTestOk : Bool) (s : State) :
    exec (.selfCheck selfTestOk) s = execSelfCheck selfTestOk s := rfl
@[simp] theorem exec_selfCheckReport (right : Bool) (s : State) :
    exec (.selfCheckReport right) s = execSelfCheckReport right s := rfl
@[simp] theorem exec_selfCheckReportTimeout (s : State) :
    exec .selfCheckReportTimeout s = execSelfCheckReportTimeout s := rfl
@[simp] theorem exec_peerIsolationYield (s : State) :
    exec .peerIsolationYield s = execPeerIsolationYield s := rfl
@[simp] theorem exec_takeoverFenceWait (s : State) :
    exec .takeoverFenceWait s = execTakeoverFenceWait s := rfl
@[simp] theorem exec_arbiterFenceResult (link : Nat) (won : Bool) (s : State) :
    exec (.arbiterFenceResult link won) s = execArbiterFenceResult link won s := rfl
@[simp] theorem exec_arbiterRetry (s : State) :
    exec .arbiterRetry s = execArbiterRetry s := rfl
@[simp] theorem exec_fenceAllRaised (s : State) :
    exec .fenceAllRaised s = execFenceAllRaised s := rfl
@[simp] theorem exec_takeoverReplayEnd (s : State) :
    exec .takeoverReplayEnd s = execTakeoverReplayEnd s := rfl
@[simp] theorem exec_pairJoinTimeout (s : State) :
    exec .pairJoinTimeout s = execPairJoinTimeout s := rfl
@[simp] theorem exec_pairJoin (peer : WaggleMsg) (r : HeadReport) (s : State) :
    exec (.pairJoin peer r) s = execPairJoin peer r s := rfl
@[simp] theorem exec_rejoinCopyComplete (s : State) :
    exec .rejoinCopyComplete s = execRejoinCopyComplete s := rfl
@[simp] theorem exec_rebalancePhaseEnd (s : State) :
    exec .rebalancePhaseEnd s = execRebalancePhaseEnd s := rfl
@[simp] theorem exec_rebalanceHoldTimeout (s : State) :
    exec .rebalanceHoldTimeout s = execRebalanceHoldTimeout s := rfl
@[simp] theorem exec_fabricPortFail (pair : Nat) (s : State) :
    exec (.fabricPortFail pair) s = execFabricPortFail pair s := rfl
@[simp] theorem exec_standbyEligible (pair : Nat) (s : State) :
    exec (.standbyEligible pair) s = execStandbyEligible pair s := rfl
@[simp] theorem exec_peerLinkDown (link : Nat) (s : State) :
    exec (.peerLinkDown link) s = execPeerLinkDown link s := rfl
@[simp] theorem exec_peerLinkUp (link : Nat) (s : State) :
    exec (.peerLinkUp link) s = execPeerLinkUp link s := rfl
@[simp] theorem exec_ptpMessage (kind src : Nat) (offset : Int) (s : State) :
    exec (.ptpMessage kind src offset) s = execPtpMessage kind src offset s := rfl
@[simp] theorem exec_alignmentTimeout (s : State) :
    exec .alignmentTimeout s = execAlignmentTimeout s := rfl
@[simp] theorem exec_rtcDiscipline (s : State) :
    exec .rtcDiscipline s = execRtcDiscipline s := rfl
@[simp] theorem exec_holdEntry (s : State) :
    exec .holdEntry s = execHoldEntry s := rfl
@[simp] theorem exec_holdWake (s : State) :
    exec .holdWake s = execHoldWake s := rfl
@[simp] theorem exec_watchEntry (s : State) :
    exec .watchEntry s = execWatchEntry s := rfl
@[simp] theorem exec_watchSample (tj : Int) (holdup : Nat) (s : State) :
    exec (.watchSample tj holdup) s = execWatchSample tj holdup s := rfl
@[simp] theorem exec_watchWake (imprintOk : Bool) (s : State) :
    exec (.watchWake imprintOk) s = execWatchWake imprintOk s := rfl
@[simp] theorem exec_wakeN (us : Nat) (s : State) :
    exec (.wakeN us) s = execWakeN us s := rfl
@[simp] theorem exec_watchdogKick (s : State) :
    exec .watchdogKick s = execWatchdogKick s := rfl
@[simp] theorem exec_watchdogExpiry (s : State) :
    exec .watchdogExpiry s = execWatchdogExpiry s := rfl
@[simp] theorem exec_chipResetN (ns : Nat) (s : State) :
    exec (.chipResetN ns) s = execChipResetN ns s := rfl
@[simp] theorem exec_powerOnResetRelease (s : State) :
    exec .powerOnResetRelease s = execPowerOnResetRelease s := rfl
@[simp] theorem exec_start (plan : List StepPlan) (s : State) :
    exec (.start plan) s = execStart plan s := rfl
@[simp] theorem exec_optionalStepLateRun (s : State) :
    exec .optionalStepLateRun s = execOptionalStepLateRun s := rfl
@[simp] theorem exec_crystalLoss (s : State) :
    exec .crystalLoss s = execCrystalLoss s := rfl
@[simp] theorem exec_supplyFall (rail mv us : Nat) (s : State) :
    exec (.supplyFall rail mv us) s = execSupplyFall rail mv us s := rfl
@[simp] theorem exec_propolisAlarm (cause : BitVec 4) (s : State) :
    exec (.propolisAlarm cause) s = execPropolisAlarm cause s := rfl
@[simp] theorem exec_alarmClear (s : State) :
    exec .alarmClear s = execAlarmClear s := rfl
@[simp] theorem exec_eventReport (r : Report0) (s : State) :
    exec (.eventReport r) s = execEventReport r s := rfl
@[simp] theorem exec_eventWrite (s : State) :
    exec .eventWrite s = execEventWrite s := rfl
@[simp] theorem exec_bucketWindowClose (code : Nat) (s : State) :
    exec (.bucketWindowClose code) s = execBucketWindowClose code s := rfl
@[simp] theorem exec_bucketRefill (code : Nat) (s : State) :
    exec (.bucketRefill code) s = execBucketRefill code s := rfl
@[simp] theorem exec_dropSummaryTimer (s : State) :
    exec .dropSummaryTimer s = execDropSummaryTimer s := rfl
@[simp] theorem exec_eventNoticeSend (handle : Nat) (s : State) :
    exec (.eventNoticeSend handle) s = execEventNoticeSend handle s := rfl
@[simp] theorem exec_shelfInputFailure (hive : Nat) (s : State) :
    exec (.shelfInputFailure hive) s = execShelfInputFailure hive s := rfl
@[simp] theorem exec_holdupReserveSpent (hive : Nat) (s : State) :
    exec (.holdupReserveSpent hive) s = execHoldupReserveSpent hive s := rfl
@[simp] theorem exec_shelfInputReturn (hive : Nat) (s : State) :
    exec (.shelfInputReturn hive) s = execShelfInputReturn hive s := rfl
@[simp] theorem exec_slotsPowered (hive : Nat) (good : BitVec 16) (s : State) :
    exec (.slotsPowered hive good) s = execSlotsPowered hive good s := rfl
@[simp] theorem exec_slotsPowerRemoved (hive : Nat) (s : State) :
    exec (.slotsPowerRemoved hive) s = execSlotsPowerRemoved hive s := rfl
@[simp] theorem exec_bridgeHealthChange (link code die detail : Nat) (s : State) :
    exec (.bridgeHealthChange link code die detail) s = execBridgeHealthChange link code die detail s := rfl
@[simp] theorem exec_retrainTimeout (link : Nat) (s : State) :
    exec (.retrainTimeout link) s = execRetrainTimeout link s := rfl
@[simp] theorem exec_tcpConnectionEnd (conn : Nat) (s : State) :
    exec (.tcpConnectionEnd conn) s = execTcpConnectionEnd conn s := rfl
@[simp] theorem exec_unsupportedCommand (e : Sqe) (s : State) :
    exec (.unsupportedCommand e) s = execUnsupportedCommand e s := rfl
@[simp] theorem exec_mgNetworkFrame (frame : Bytes) (s : State) :
    exec (.mgNetworkFrame frame) s = execMgNetworkFrame frame s := rfl
@[simp] theorem exec_treeDropCascade (s : State) :
    exec .treeDropCascade s = execTreeDropCascade s := rfl
@[simp] theorem exec_locStatPatienceExpiry (ctrl qid cid : Nat) (s : State) :
    exec (.locStatPatienceExpiry ctrl qid cid) s = execLocStatPatienceExpiry ctrl qid cid s := rfl
@[simp] theorem exec_frameStatusExpiry (frame : Nat) (s : State) :
    exec (.frameStatusExpiry frame) s = execFrameStatusExpiry frame s := rfl
@[simp] theorem exec_referenceClockStop (s : State) :
    exec .referenceClockStop s = execReferenceClockStop s := rfl
@[simp] theorem exec_tcpRetransmissionTimeout (conn : Nat) (s : State) :
    exec (.tcpRetransmissionTimeout conn) s = execTcpRetransmissionTimeout conn s := rfl
@[simp] theorem exec_colonyKeyLagTimeout (s : State) :
    exec .colonyKeyLagTimeout s = execColonyKeyLagTimeout s := rfl

end Sys2Proof.Machine
end

