-- ==== Sys2Proof/Laws/Gates.lean ====
section
/-! SUPPORT. What the gates of colony messages let through, and a form of `Option.any` on a value that keeps large literals out of the kernel's
own evaluation. -/

namespace Sys2Proof.Machine

/-- `Option.any` on a value, as a lemma that is not proved by `rfl`: with it, and without `Option.any_some`, simp leaves no definitional
equation over large numbers to the kernel. -/
theorem any_some_eq {α : Type} (p : α → Bool) (a : α) : (some a).any p = p a := by cases h : p a <;> simp [Option.any, h]

/-- A message of this head's own epoch reaches the worker. -/
theorem atWorker_same (s : State) (f : State → State) : s.atWorker s.epochLow f = f s := by
  simp [State.atWorker, State.cond]

/-- A message of a lower epoch changes nothing at a worker (R586). -/
theorem atWorker_lower {s : State} {ep : Nat} (h : ep < s.epochLow) (f : State → State) : s.atWorker ep f = s := by
  simp [State.atWorker, h]

/-- A message of the queen's own epoch reaches the queen. -/
theorem atQueen_same {s : State} (h : s.isQueen = true) (f : State → State) : s.atQueen s.epochLow f = f s := by
  simp [State.atQueen, h]

/-- A message of a higher epoch deposes the queen (R586). -/
theorem atQueen_higher {s : State} {ep : Nat} (h : s.isQueen = true) (he : s.epochLow < ep) (f : State → State) :
    s.atQueen ep f = s.deposeBy (s.epochOf ep) := by
  simp [State.atQueen, h, he]

/-- A head that is not the queen head does nothing with a message for the queen. -/
theorem atQueen_other {s : State} (h : s.isQueen = false) (ep : Nat) (f : State → State) : s.atQueen ep f = s := by
  simp [State.atQueen, h]

end Sys2Proof.Machine
end

