-- ==== Sys2Proof/Laws/Host.lean ====
section
/-! SUPPORT. What the gates of the host ports let through: an NVMe command that reaches its controller, and an access of the sideband. -/

namespace Sys2Proof.Machine

/-- A command that reaches its controller runs its own part. -/
theorem nvme_reaches {s u : State} {e : Sqe} {c : Ctrl} {body : Ctrl → State → State} (h : Reaches s e c u) : s.nvme e body = body c u := by
  obtain ⟨h1, h2, rfl⟩ := h
  simp [State.nvme, h1, h2]

/-- A command of no controller has no effect. -/
theorem nvme_of_no_ctrl {s : State} {e : Sqe} {body : Ctrl → State → State} (h : s.ctrl? e.ctrl = none) : s.nvme e body = s := by
  simp [State.nvme, h]

/-- A write without a directive joins no stream (R399). -/
theorem nvWrite_plain {s : State} {c : Ctrl} {e : Sqe} {n : Namespace} {z : Bool} {off len : Nat} (hn : s.nsOf c e.nsid = some n)
    (hd : e.cdw12.toNat / 2 ^ 20 % 16 = 0) (ho : off = 4096 * (e.cdw10.toNat + e.cdw11.toNat * 2 ^ 32))
    (hl : len = 4096 * (e.cdw12.toNat % 65536 + 1)) : s.nvWrite c e z = s.nvWriteIn e n none z off len := by
  unfold State.nvWrite
  rw [← ho, ← hl]
  simp only [hn, if_pos hd]

/-- A write that the checks turn away ends its command (R399, R405). -/
theorem nvWriteIn_refused {s : State} {e : Sqe} {n : Namespace} {k : Option (Nat × Nat)} {z : Bool} {off len : Nat} {st : NvStatus}
    (h : s.writeCheck n off len = some st) : s.nvWriteIn e n k z off len = s.failStream e.ctrl e.qid e.cid k st := by
  unfold State.nvWriteIn
  simp only [h]

/-- A write that passes the checks with all of its data is admitted (R399, R405). -/
theorem nvWriteIn_whole {s t : State} {e : Sqe} {n : Namespace} {k : Option (Nat × Nat)} {z : Bool} {off len : Nat} {d : Bytes} {h : HostCmd}
    (hw : d = if z then zeros len else e.data) (hlen : d.length = len) (hc : s.writeCheck n off len = none)
    (ht : t = s.nv' fun v => { v with cmds := v.cmds ++ [⟨e.ctrl, e.qid, e.cid, .write n.nsid off d z, k, s.ck.now, 0, none⟩] })
    (hh : t.cmd? e.ctrl e.qid e.cid = some h) : s.nvWriteIn e n k z off len = t.admitBlock h := by
  unfold State.nvWriteIn
  simp only [hc, ← hw, hlen]
  rw [if_pos (beq_self_eq_true len), ← ht]
  simp only [hh]

/-- An access of the sideband runs its own part, and SB_STATUS is judged. -/
theorem sbOp_on {s u : State} {off : Nat} {f : State → State} (h : OnSideband s off u) : s.sbOp off f = .next (f u).judgeStatus := by
  obtain ⟨h1, rfl⟩ := h
  simp [State.sbOp, h1, ok]

/-- Without the always-on supply an access has no effect. -/
theorem sbOp_off {s : State} {off : Nat} {f : State → State} (h : s.pw.aonOk = false) : s.sbOp off f = .next s := by
  simp [State.sbOp, h, ok]

end Sys2Proof.Machine
end

