-- ==== Sys2Proof/Laws/State.lean ====
section
/-! SUPPORT. One lemma per field of State and per update: an update changes its own part and leaves every other field. -/

namespace Sys2Proof.Machine

/-! ## Updates of `vk` -/

@[simp] theorem State.vk'_vk (s : State) (f : VirkanPart → VirkanPart) : (s.vk' f).vk = f s.vk := rfl
@[simp] theorem State.vk'_md (s : State) (f : VirkanPart → VirkanPart) : (s.vk' f).md = s.md := rfl
@[simp] theorem State.vk'_ck (s : State) (f : VirkanPart → VirkanPart) : (s.vk' f).ck = s.ck := rfl
@[simp] theorem State.vk'_pw (s : State) (f : VirkanPart → VirkanPart) : (s.vk' f).pw = s.pw := rfl
@[simp] theorem State.vk'_sb (s : State) (f : VirkanPart → VirkanPart) : (s.vk' f).sb = s.sb := rfl
@[simp] theorem State.vk'_ev (s : State) (f : VirkanPart → VirkanPart) : (s.vk' f).ev = s.ev := rfl
@[simp] theorem State.vk'_ct (s : State) (f : VirkanPart → VirkanPart) : (s.vk' f).ct = s.ct := rfl
@[simp] theorem State.vk'_wx (s : State) (f : VirkanPart → VirkanPart) : (s.vk' f).wx = s.wx := rfl
@[simp] theorem State.vk'_dr (s : State) (f : VirkanPart → VirkanPart) : (s.vk' f).dr = s.dr := rfl
@[simp] theorem State.vk'_mc (s : State) (f : VirkanPart → VirkanPart) : (s.vk' f).mc = s.mc := rfl
@[simp] theorem State.vk'_rd (s : State) (f : VirkanPart → VirkanPart) : (s.vk' f).rd = s.rd := rfl
@[simp] theorem State.vk'_vo (s : State) (f : VirkanPart → VirkanPart) : (s.vk' f).vo = s.vo := rfl
@[simp] theorem State.vk'_sp (s : State) (f : VirkanPart → VirkanPart) : (s.vk' f).sp = s.sp := rfl
@[simp] theorem State.vk'_me (s : State) (f : VirkanPart → VirkanPart) : (s.vk' f).me = s.me := rfl
@[simp] theorem State.vk'_cl (s : State) (f : VirkanPart → VirkanPart) : (s.vk' f).cl = s.cl := rfl
@[simp] theorem State.vk'_hv (s : State) (f : VirkanPart → VirkanPart) : (s.vk' f).hv = s.hv := rfl
@[simp] theorem State.vk'_nv (s : State) (f : VirkanPart → VirkanPart) : (s.vk' f).nv = s.nv := rfl
@[simp] theorem State.vk'_ob (s : State) (f : VirkanPart → VirkanPart) : (s.vk' f).ob = s.ob := rfl
@[simp] theorem State.vk'_fg (s : State) (f : VirkanPart → VirkanPart) : (s.vk' f).fg = s.fg := rfl
@[simp] theorem State.vk'_rp (s : State) (f : VirkanPart → VirkanPart) : (s.vk' f).rp = s.rp := rfl
@[simp] theorem State.vk'_pr (s : State) (f : VirkanPart → VirkanPart) : (s.vk' f).pr = s.pr := rfl
@[simp] theorem State.vk'_co (s : State) (f : VirkanPart → VirkanPart) : (s.vk' f).co = s.co := rfl
@[simp] theorem State.vk'_bt (s : State) (f : VirkanPart → VirkanPart) : (s.vk' f).bt = s.bt := rfl
@[simp] theorem State.vk'_up (s : State) (f : VirkanPart → VirkanPart) : (s.vk' f).up = s.up := rfl
@[simp] theorem State.vk'_se (s : State) (f : VirkanPart → VirkanPart) : (s.vk' f).se = s.se := rfl
@[simp] theorem State.vk'_ks (s : State) (f : VirkanPart → VirkanPart) : (s.vk' f).ks = s.ks := rfl
@[simp] theorem State.vk'_fl (s : State) (f : VirkanPart → VirkanPart) : (s.vk' f).fl = s.fl := rfl
@[simp] theorem State.vk'_flNext (s : State) (f : VirkanPart → VirkanPart) : (s.vk' f).flNext = s.flNext := rfl
@[simp] theorem State.vk'_flOld (s : State) (f : VirkanPart → VirkanPart) : (s.vk' f).flOld = s.flOld := rfl
@[simp] theorem State.vk'_free (s : State) (f : VirkanPart → VirkanPart) : (s.vk' f).free = s.free := rfl
@[simp] theorem State.vk'_out (s : State) (f : VirkanPart → VirkanPart) : (s.vk' f).out = s.out := rfl
@[simp] theorem State.vk'_pending (s : State) (f : VirkanPart → VirkanPart) : (s.vk' f).pending = s.pending := rfl

/-! ## Updates of `md` -/

@[simp] theorem State.md'_vk (s : State) (f : ModeStPart → ModeStPart) : (s.md' f).vk = s.vk := rfl
@[simp] theorem State.md'_md (s : State) (f : ModeStPart → ModeStPart) : (s.md' f).md = f s.md := rfl
@[simp] theorem State.md'_ck (s : State) (f : ModeStPart → ModeStPart) : (s.md' f).ck = s.ck := rfl
@[simp] theorem State.md'_pw (s : State) (f : ModeStPart → ModeStPart) : (s.md' f).pw = s.pw := rfl
@[simp] theorem State.md'_sb (s : State) (f : ModeStPart → ModeStPart) : (s.md' f).sb = s.sb := rfl
@[simp] theorem State.md'_ev (s : State) (f : ModeStPart → ModeStPart) : (s.md' f).ev = s.ev := rfl
@[simp] theorem State.md'_ct (s : State) (f : ModeStPart → ModeStPart) : (s.md' f).ct = s.ct := rfl
@[simp] theorem State.md'_wx (s : State) (f : ModeStPart → ModeStPart) : (s.md' f).wx = s.wx := rfl
@[simp] theorem State.md'_dr (s : State) (f : ModeStPart → ModeStPart) : (s.md' f).dr = s.dr := rfl
@[simp] theorem State.md'_mc (s : State) (f : ModeStPart → ModeStPart) : (s.md' f).mc = s.mc := rfl
@[simp] theorem State.md'_rd (s : State) (f : ModeStPart → ModeStPart) : (s.md' f).rd = s.rd := rfl
@[simp] theorem State.md'_vo (s : State) (f : ModeStPart → ModeStPart) : (s.md' f).vo = s.vo := rfl
@[simp] theorem State.md'_sp (s : State) (f : ModeStPart → ModeStPart) : (s.md' f).sp = s.sp := rfl
@[simp] theorem State.md'_me (s : State) (f : ModeStPart → ModeStPart) : (s.md' f).me = s.me := rfl
@[simp] theorem State.md'_cl (s : State) (f : ModeStPart → ModeStPart) : (s.md' f).cl = s.cl := rfl
@[simp] theorem State.md'_hv (s : State) (f : ModeStPart → ModeStPart) : (s.md' f).hv = s.hv := rfl
@[simp] theorem State.md'_nv (s : State) (f : ModeStPart → ModeStPart) : (s.md' f).nv = s.nv := rfl
@[simp] theorem State.md'_ob (s : State) (f : ModeStPart → ModeStPart) : (s.md' f).ob = s.ob := rfl
@[simp] theorem State.md'_fg (s : State) (f : ModeStPart → ModeStPart) : (s.md' f).fg = s.fg := rfl
@[simp] theorem State.md'_rp (s : State) (f : ModeStPart → ModeStPart) : (s.md' f).rp = s.rp := rfl
@[simp] theorem State.md'_pr (s : State) (f : ModeStPart → ModeStPart) : (s.md' f).pr = s.pr := rfl
@[simp] theorem State.md'_co (s : State) (f : ModeStPart → ModeStPart) : (s.md' f).co = s.co := rfl
@[simp] theorem State.md'_bt (s : State) (f : ModeStPart → ModeStPart) : (s.md' f).bt = s.bt := rfl
@[simp] theorem State.md'_up (s : State) (f : ModeStPart → ModeStPart) : (s.md' f).up = s.up := rfl
@[simp] theorem State.md'_se (s : State) (f : ModeStPart → ModeStPart) : (s.md' f).se = s.se := rfl
@[simp] theorem State.md'_ks (s : State) (f : ModeStPart → ModeStPart) : (s.md' f).ks = s.ks := rfl
@[simp] theorem State.md'_fl (s : State) (f : ModeStPart → ModeStPart) : (s.md' f).fl = s.fl := rfl
@[simp] theorem State.md'_flNext (s : State) (f : ModeStPart → ModeStPart) : (s.md' f).flNext = s.flNext := rfl
@[simp] theorem State.md'_flOld (s : State) (f : ModeStPart → ModeStPart) : (s.md' f).flOld = s.flOld := rfl
@[simp] theorem State.md'_free (s : State) (f : ModeStPart → ModeStPart) : (s.md' f).free = s.free := rfl
@[simp] theorem State.md'_out (s : State) (f : ModeStPart → ModeStPart) : (s.md' f).out = s.out := rfl
@[simp] theorem State.md'_pending (s : State) (f : ModeStPart → ModeStPart) : (s.md' f).pending = s.pending := rfl

/-! ## Updates of `ck` -/

@[simp] theorem State.ck'_vk (s : State) (f : ClockPart → ClockPart) : (s.ck' f).vk = s.vk := rfl
@[simp] theorem State.ck'_md (s : State) (f : ClockPart → ClockPart) : (s.ck' f).md = s.md := rfl
@[simp] theorem State.ck'_ck (s : State) (f : ClockPart → ClockPart) : (s.ck' f).ck = f s.ck := rfl
@[simp] theorem State.ck'_pw (s : State) (f : ClockPart → ClockPart) : (s.ck' f).pw = s.pw := rfl
@[simp] theorem State.ck'_sb (s : State) (f : ClockPart → ClockPart) : (s.ck' f).sb = s.sb := rfl
@[simp] theorem State.ck'_ev (s : State) (f : ClockPart → ClockPart) : (s.ck' f).ev = s.ev := rfl
@[simp] theorem State.ck'_ct (s : State) (f : ClockPart → ClockPart) : (s.ck' f).ct = s.ct := rfl
@[simp] theorem State.ck'_wx (s : State) (f : ClockPart → ClockPart) : (s.ck' f).wx = s.wx := rfl
@[simp] theorem State.ck'_dr (s : State) (f : ClockPart → ClockPart) : (s.ck' f).dr = s.dr := rfl
@[simp] theorem State.ck'_mc (s : State) (f : ClockPart → ClockPart) : (s.ck' f).mc = s.mc := rfl
@[simp] theorem State.ck'_rd (s : State) (f : ClockPart → ClockPart) : (s.ck' f).rd = s.rd := rfl
@[simp] theorem State.ck'_vo (s : State) (f : ClockPart → ClockPart) : (s.ck' f).vo = s.vo := rfl
@[simp] theorem State.ck'_sp (s : State) (f : ClockPart → ClockPart) : (s.ck' f).sp = s.sp := rfl
@[simp] theorem State.ck'_me (s : State) (f : ClockPart → ClockPart) : (s.ck' f).me = s.me := rfl
@[simp] theorem State.ck'_cl (s : State) (f : ClockPart → ClockPart) : (s.ck' f).cl = s.cl := rfl
@[simp] theorem State.ck'_hv (s : State) (f : ClockPart → ClockPart) : (s.ck' f).hv = s.hv := rfl
@[simp] theorem State.ck'_nv (s : State) (f : ClockPart → ClockPart) : (s.ck' f).nv = s.nv := rfl
@[simp] theorem State.ck'_ob (s : State) (f : ClockPart → ClockPart) : (s.ck' f).ob = s.ob := rfl
@[simp] theorem State.ck'_fg (s : State) (f : ClockPart → ClockPart) : (s.ck' f).fg = s.fg := rfl
@[simp] theorem State.ck'_rp (s : State) (f : ClockPart → ClockPart) : (s.ck' f).rp = s.rp := rfl
@[simp] theorem State.ck'_pr (s : State) (f : ClockPart → ClockPart) : (s.ck' f).pr = s.pr := rfl
@[simp] theorem State.ck'_co (s : State) (f : ClockPart → ClockPart) : (s.ck' f).co = s.co := rfl
@[simp] theorem State.ck'_bt (s : State) (f : ClockPart → ClockPart) : (s.ck' f).bt = s.bt := rfl
@[simp] theorem State.ck'_up (s : State) (f : ClockPart → ClockPart) : (s.ck' f).up = s.up := rfl
@[simp] theorem State.ck'_se (s : State) (f : ClockPart → ClockPart) : (s.ck' f).se = s.se := rfl
@[simp] theorem State.ck'_ks (s : State) (f : ClockPart → ClockPart) : (s.ck' f).ks = s.ks := rfl
@[simp] theorem State.ck'_fl (s : State) (f : ClockPart → ClockPart) : (s.ck' f).fl = s.fl := rfl
@[simp] theorem State.ck'_flNext (s : State) (f : ClockPart → ClockPart) : (s.ck' f).flNext = s.flNext := rfl
@[simp] theorem State.ck'_flOld (s : State) (f : ClockPart → ClockPart) : (s.ck' f).flOld = s.flOld := rfl
@[simp] theorem State.ck'_free (s : State) (f : ClockPart → ClockPart) : (s.ck' f).free = s.free := rfl
@[simp] theorem State.ck'_out (s : State) (f : ClockPart → ClockPart) : (s.ck' f).out = s.out := rfl
@[simp] theorem State.ck'_pending (s : State) (f : ClockPart → ClockPart) : (s.ck' f).pending = s.pending := rfl

/-! ## Updates of `pw` -/

@[simp] theorem State.pw'_vk (s : State) (f : PowerPart → PowerPart) : (s.pw' f).vk = s.vk := rfl
@[simp] theorem State.pw'_md (s : State) (f : PowerPart → PowerPart) : (s.pw' f).md = s.md := rfl
@[simp] theorem State.pw'_ck (s : State) (f : PowerPart → PowerPart) : (s.pw' f).ck = s.ck := rfl
@[simp] theorem State.pw'_pw (s : State) (f : PowerPart → PowerPart) : (s.pw' f).pw = f s.pw := rfl
@[simp] theorem State.pw'_sb (s : State) (f : PowerPart → PowerPart) : (s.pw' f).sb = s.sb := rfl
@[simp] theorem State.pw'_ev (s : State) (f : PowerPart → PowerPart) : (s.pw' f).ev = s.ev := rfl
@[simp] theorem State.pw'_ct (s : State) (f : PowerPart → PowerPart) : (s.pw' f).ct = s.ct := rfl
@[simp] theorem State.pw'_wx (s : State) (f : PowerPart → PowerPart) : (s.pw' f).wx = s.wx := rfl
@[simp] theorem State.pw'_dr (s : State) (f : PowerPart → PowerPart) : (s.pw' f).dr = s.dr := rfl
@[simp] theorem State.pw'_mc (s : State) (f : PowerPart → PowerPart) : (s.pw' f).mc = s.mc := rfl
@[simp] theorem State.pw'_rd (s : State) (f : PowerPart → PowerPart) : (s.pw' f).rd = s.rd := rfl
@[simp] theorem State.pw'_vo (s : State) (f : PowerPart → PowerPart) : (s.pw' f).vo = s.vo := rfl
@[simp] theorem State.pw'_sp (s : State) (f : PowerPart → PowerPart) : (s.pw' f).sp = s.sp := rfl
@[simp] theorem State.pw'_me (s : State) (f : PowerPart → PowerPart) : (s.pw' f).me = s.me := rfl
@[simp] theorem State.pw'_cl (s : State) (f : PowerPart → PowerPart) : (s.pw' f).cl = s.cl := rfl
@[simp] theorem State.pw'_hv (s : State) (f : PowerPart → PowerPart) : (s.pw' f).hv = s.hv := rfl
@[simp] theorem State.pw'_nv (s : State) (f : PowerPart → PowerPart) : (s.pw' f).nv = s.nv := rfl
@[simp] theorem State.pw'_ob (s : State) (f : PowerPart → PowerPart) : (s.pw' f).ob = s.ob := rfl
@[simp] theorem State.pw'_fg (s : State) (f : PowerPart → PowerPart) : (s.pw' f).fg = s.fg := rfl
@[simp] theorem State.pw'_rp (s : State) (f : PowerPart → PowerPart) : (s.pw' f).rp = s.rp := rfl
@[simp] theorem State.pw'_pr (s : State) (f : PowerPart → PowerPart) : (s.pw' f).pr = s.pr := rfl
@[simp] theorem State.pw'_co (s : State) (f : PowerPart → PowerPart) : (s.pw' f).co = s.co := rfl
@[simp] theorem State.pw'_bt (s : State) (f : PowerPart → PowerPart) : (s.pw' f).bt = s.bt := rfl
@[simp] theorem State.pw'_up (s : State) (f : PowerPart → PowerPart) : (s.pw' f).up = s.up := rfl
@[simp] theorem State.pw'_se (s : State) (f : PowerPart → PowerPart) : (s.pw' f).se = s.se := rfl
@[simp] theorem State.pw'_ks (s : State) (f : PowerPart → PowerPart) : (s.pw' f).ks = s.ks := rfl
@[simp] theorem State.pw'_fl (s : State) (f : PowerPart → PowerPart) : (s.pw' f).fl = s.fl := rfl
@[simp] theorem State.pw'_flNext (s : State) (f : PowerPart → PowerPart) : (s.pw' f).flNext = s.flNext := rfl
@[simp] theorem State.pw'_flOld (s : State) (f : PowerPart → PowerPart) : (s.pw' f).flOld = s.flOld := rfl
@[simp] theorem State.pw'_free (s : State) (f : PowerPart → PowerPart) : (s.pw' f).free = s.free := rfl
@[simp] theorem State.pw'_out (s : State) (f : PowerPart → PowerPart) : (s.pw' f).out = s.out := rfl
@[simp] theorem State.pw'_pending (s : State) (f : PowerPart → PowerPart) : (s.pw' f).pending = s.pending := rfl

/-! ## Updates of `sb` -/

@[simp] theorem State.sb'_vk (s : State) (f : SidebandPart → SidebandPart) : (s.sb' f).vk = s.vk := rfl
@[simp] theorem State.sb'_md (s : State) (f : SidebandPart → SidebandPart) : (s.sb' f).md = s.md := rfl
@[simp] theorem State.sb'_ck (s : State) (f : SidebandPart → SidebandPart) : (s.sb' f).ck = s.ck := rfl
@[simp] theorem State.sb'_pw (s : State) (f : SidebandPart → SidebandPart) : (s.sb' f).pw = s.pw := rfl
@[simp] theorem State.sb'_sb (s : State) (f : SidebandPart → SidebandPart) : (s.sb' f).sb = f s.sb := rfl
@[simp] theorem State.sb'_ev (s : State) (f : SidebandPart → SidebandPart) : (s.sb' f).ev = s.ev := rfl
@[simp] theorem State.sb'_ct (s : State) (f : SidebandPart → SidebandPart) : (s.sb' f).ct = s.ct := rfl
@[simp] theorem State.sb'_wx (s : State) (f : SidebandPart → SidebandPart) : (s.sb' f).wx = s.wx := rfl
@[simp] theorem State.sb'_dr (s : State) (f : SidebandPart → SidebandPart) : (s.sb' f).dr = s.dr := rfl
@[simp] theorem State.sb'_mc (s : State) (f : SidebandPart → SidebandPart) : (s.sb' f).mc = s.mc := rfl
@[simp] theorem State.sb'_rd (s : State) (f : SidebandPart → SidebandPart) : (s.sb' f).rd = s.rd := rfl
@[simp] theorem State.sb'_vo (s : State) (f : SidebandPart → SidebandPart) : (s.sb' f).vo = s.vo := rfl
@[simp] theorem State.sb'_sp (s : State) (f : SidebandPart → SidebandPart) : (s.sb' f).sp = s.sp := rfl
@[simp] theorem State.sb'_me (s : State) (f : SidebandPart → SidebandPart) : (s.sb' f).me = s.me := rfl
@[simp] theorem State.sb'_cl (s : State) (f : SidebandPart → SidebandPart) : (s.sb' f).cl = s.cl := rfl
@[simp] theorem State.sb'_hv (s : State) (f : SidebandPart → SidebandPart) : (s.sb' f).hv = s.hv := rfl
@[simp] theorem State.sb'_nv (s : State) (f : SidebandPart → SidebandPart) : (s.sb' f).nv = s.nv := rfl
@[simp] theorem State.sb'_ob (s : State) (f : SidebandPart → SidebandPart) : (s.sb' f).ob = s.ob := rfl
@[simp] theorem State.sb'_fg (s : State) (f : SidebandPart → SidebandPart) : (s.sb' f).fg = s.fg := rfl
@[simp] theorem State.sb'_rp (s : State) (f : SidebandPart → SidebandPart) : (s.sb' f).rp = s.rp := rfl
@[simp] theorem State.sb'_pr (s : State) (f : SidebandPart → SidebandPart) : (s.sb' f).pr = s.pr := rfl
@[simp] theorem State.sb'_co (s : State) (f : SidebandPart → SidebandPart) : (s.sb' f).co = s.co := rfl
@[simp] theorem State.sb'_bt (s : State) (f : SidebandPart → SidebandPart) : (s.sb' f).bt = s.bt := rfl
@[simp] theorem State.sb'_up (s : State) (f : SidebandPart → SidebandPart) : (s.sb' f).up = s.up := rfl
@[simp] theorem State.sb'_se (s : State) (f : SidebandPart → SidebandPart) : (s.sb' f).se = s.se := rfl
@[simp] theorem State.sb'_ks (s : State) (f : SidebandPart → SidebandPart) : (s.sb' f).ks = s.ks := rfl
@[simp] theorem State.sb'_fl (s : State) (f : SidebandPart → SidebandPart) : (s.sb' f).fl = s.fl := rfl
@[simp] theorem State.sb'_flNext (s : State) (f : SidebandPart → SidebandPart) : (s.sb' f).flNext = s.flNext := rfl
@[simp] theorem State.sb'_flOld (s : State) (f : SidebandPart → SidebandPart) : (s.sb' f).flOld = s.flOld := rfl
@[simp] theorem State.sb'_free (s : State) (f : SidebandPart → SidebandPart) : (s.sb' f).free = s.free := rfl
@[simp] theorem State.sb'_out (s : State) (f : SidebandPart → SidebandPart) : (s.sb' f).out = s.out := rfl
@[simp] theorem State.sb'_pending (s : State) (f : SidebandPart → SidebandPart) : (s.sb' f).pending = s.pending := rfl

/-! ## Updates of `ev` -/

@[simp] theorem State.ev'_vk (s : State) (f : RecorderPart → RecorderPart) : (s.ev' f).vk = s.vk := rfl
@[simp] theorem State.ev'_md (s : State) (f : RecorderPart → RecorderPart) : (s.ev' f).md = s.md := rfl
@[simp] theorem State.ev'_ck (s : State) (f : RecorderPart → RecorderPart) : (s.ev' f).ck = s.ck := rfl
@[simp] theorem State.ev'_pw (s : State) (f : RecorderPart → RecorderPart) : (s.ev' f).pw = s.pw := rfl
@[simp] theorem State.ev'_sb (s : State) (f : RecorderPart → RecorderPart) : (s.ev' f).sb = s.sb := rfl
@[simp] theorem State.ev'_ev (s : State) (f : RecorderPart → RecorderPart) : (s.ev' f).ev = f s.ev := rfl
@[simp] theorem State.ev'_ct (s : State) (f : RecorderPart → RecorderPart) : (s.ev' f).ct = s.ct := rfl
@[simp] theorem State.ev'_wx (s : State) (f : RecorderPart → RecorderPart) : (s.ev' f).wx = s.wx := rfl
@[simp] theorem State.ev'_dr (s : State) (f : RecorderPart → RecorderPart) : (s.ev' f).dr = s.dr := rfl
@[simp] theorem State.ev'_mc (s : State) (f : RecorderPart → RecorderPart) : (s.ev' f).mc = s.mc := rfl
@[simp] theorem State.ev'_rd (s : State) (f : RecorderPart → RecorderPart) : (s.ev' f).rd = s.rd := rfl
@[simp] theorem State.ev'_vo (s : State) (f : RecorderPart → RecorderPart) : (s.ev' f).vo = s.vo := rfl
@[simp] theorem State.ev'_sp (s : State) (f : RecorderPart → RecorderPart) : (s.ev' f).sp = s.sp := rfl
@[simp] theorem State.ev'_me (s : State) (f : RecorderPart → RecorderPart) : (s.ev' f).me = s.me := rfl
@[simp] theorem State.ev'_cl (s : State) (f : RecorderPart → RecorderPart) : (s.ev' f).cl = s.cl := rfl
@[simp] theorem State.ev'_hv (s : State) (f : RecorderPart → RecorderPart) : (s.ev' f).hv = s.hv := rfl
@[simp] theorem State.ev'_nv (s : State) (f : RecorderPart → RecorderPart) : (s.ev' f).nv = s.nv := rfl
@[simp] theorem State.ev'_ob (s : State) (f : RecorderPart → RecorderPart) : (s.ev' f).ob = s.ob := rfl
@[simp] theorem State.ev'_fg (s : State) (f : RecorderPart → RecorderPart) : (s.ev' f).fg = s.fg := rfl
@[simp] theorem State.ev'_rp (s : State) (f : RecorderPart → RecorderPart) : (s.ev' f).rp = s.rp := rfl
@[simp] theorem State.ev'_pr (s : State) (f : RecorderPart → RecorderPart) : (s.ev' f).pr = s.pr := rfl
@[simp] theorem State.ev'_co (s : State) (f : RecorderPart → RecorderPart) : (s.ev' f).co = s.co := rfl
@[simp] theorem State.ev'_bt (s : State) (f : RecorderPart → RecorderPart) : (s.ev' f).bt = s.bt := rfl
@[simp] theorem State.ev'_up (s : State) (f : RecorderPart → RecorderPart) : (s.ev' f).up = s.up := rfl
@[simp] theorem State.ev'_se (s : State) (f : RecorderPart → RecorderPart) : (s.ev' f).se = s.se := rfl
@[simp] theorem State.ev'_ks (s : State) (f : RecorderPart → RecorderPart) : (s.ev' f).ks = s.ks := rfl
@[simp] theorem State.ev'_fl (s : State) (f : RecorderPart → RecorderPart) : (s.ev' f).fl = s.fl := rfl
@[simp] theorem State.ev'_flNext (s : State) (f : RecorderPart → RecorderPart) : (s.ev' f).flNext = s.flNext := rfl
@[simp] theorem State.ev'_flOld (s : State) (f : RecorderPart → RecorderPart) : (s.ev' f).flOld = s.flOld := rfl
@[simp] theorem State.ev'_free (s : State) (f : RecorderPart → RecorderPart) : (s.ev' f).free = s.free := rfl
@[simp] theorem State.ev'_out (s : State) (f : RecorderPart → RecorderPart) : (s.ev' f).out = s.out := rfl
@[simp] theorem State.ev'_pending (s : State) (f : RecorderPart → RecorderPart) : (s.ev' f).pending = s.pending := rfl

/-! ## Updates of `ct` -/

@[simp] theorem State.ct'_vk (s : State) (f : CountersPart → CountersPart) : (s.ct' f).vk = s.vk := rfl
@[simp] theorem State.ct'_md (s : State) (f : CountersPart → CountersPart) : (s.ct' f).md = s.md := rfl
@[simp] theorem State.ct'_ck (s : State) (f : CountersPart → CountersPart) : (s.ct' f).ck = s.ck := rfl
@[simp] theorem State.ct'_pw (s : State) (f : CountersPart → CountersPart) : (s.ct' f).pw = s.pw := rfl
@[simp] theorem State.ct'_sb (s : State) (f : CountersPart → CountersPart) : (s.ct' f).sb = s.sb := rfl
@[simp] theorem State.ct'_ev (s : State) (f : CountersPart → CountersPart) : (s.ct' f).ev = s.ev := rfl
@[simp] theorem State.ct'_ct (s : State) (f : CountersPart → CountersPart) : (s.ct' f).ct = f s.ct := rfl
@[simp] theorem State.ct'_wx (s : State) (f : CountersPart → CountersPart) : (s.ct' f).wx = s.wx := rfl
@[simp] theorem State.ct'_dr (s : State) (f : CountersPart → CountersPart) : (s.ct' f).dr = s.dr := rfl
@[simp] theorem State.ct'_mc (s : State) (f : CountersPart → CountersPart) : (s.ct' f).mc = s.mc := rfl
@[simp] theorem State.ct'_rd (s : State) (f : CountersPart → CountersPart) : (s.ct' f).rd = s.rd := rfl
@[simp] theorem State.ct'_vo (s : State) (f : CountersPart → CountersPart) : (s.ct' f).vo = s.vo := rfl
@[simp] theorem State.ct'_sp (s : State) (f : CountersPart → CountersPart) : (s.ct' f).sp = s.sp := rfl
@[simp] theorem State.ct'_me (s : State) (f : CountersPart → CountersPart) : (s.ct' f).me = s.me := rfl
@[simp] theorem State.ct'_cl (s : State) (f : CountersPart → CountersPart) : (s.ct' f).cl = s.cl := rfl
@[simp] theorem State.ct'_hv (s : State) (f : CountersPart → CountersPart) : (s.ct' f).hv = s.hv := rfl
@[simp] theorem State.ct'_nv (s : State) (f : CountersPart → CountersPart) : (s.ct' f).nv = s.nv := rfl
@[simp] theorem State.ct'_ob (s : State) (f : CountersPart → CountersPart) : (s.ct' f).ob = s.ob := rfl
@[simp] theorem State.ct'_fg (s : State) (f : CountersPart → CountersPart) : (s.ct' f).fg = s.fg := rfl
@[simp] theorem State.ct'_rp (s : State) (f : CountersPart → CountersPart) : (s.ct' f).rp = s.rp := rfl
@[simp] theorem State.ct'_pr (s : State) (f : CountersPart → CountersPart) : (s.ct' f).pr = s.pr := rfl
@[simp] theorem State.ct'_co (s : State) (f : CountersPart → CountersPart) : (s.ct' f).co = s.co := rfl
@[simp] theorem State.ct'_bt (s : State) (f : CountersPart → CountersPart) : (s.ct' f).bt = s.bt := rfl
@[simp] theorem State.ct'_up (s : State) (f : CountersPart → CountersPart) : (s.ct' f).up = s.up := rfl
@[simp] theorem State.ct'_se (s : State) (f : CountersPart → CountersPart) : (s.ct' f).se = s.se := rfl
@[simp] theorem State.ct'_ks (s : State) (f : CountersPart → CountersPart) : (s.ct' f).ks = s.ks := rfl
@[simp] theorem State.ct'_fl (s : State) (f : CountersPart → CountersPart) : (s.ct' f).fl = s.fl := rfl
@[simp] theorem State.ct'_flNext (s : State) (f : CountersPart → CountersPart) : (s.ct' f).flNext = s.flNext := rfl
@[simp] theorem State.ct'_flOld (s : State) (f : CountersPart → CountersPart) : (s.ct' f).flOld = s.flOld := rfl
@[simp] theorem State.ct'_free (s : State) (f : CountersPart → CountersPart) : (s.ct' f).free = s.free := rfl
@[simp] theorem State.ct'_out (s : State) (f : CountersPart → CountersPart) : (s.ct' f).out = s.out := rfl
@[simp] theorem State.ct'_pending (s : State) (f : CountersPart → CountersPart) : (s.ct' f).pending = s.pending := rfl

/-! ## Updates of `wx` -/

@[simp] theorem State.wx'_vk (s : State) (f : WaxPart → WaxPart) : (s.wx' f).vk = s.vk := rfl
@[simp] theorem State.wx'_md (s : State) (f : WaxPart → WaxPart) : (s.wx' f).md = s.md := rfl
@[simp] theorem State.wx'_ck (s : State) (f : WaxPart → WaxPart) : (s.wx' f).ck = s.ck := rfl
@[simp] theorem State.wx'_pw (s : State) (f : WaxPart → WaxPart) : (s.wx' f).pw = s.pw := rfl
@[simp] theorem State.wx'_sb (s : State) (f : WaxPart → WaxPart) : (s.wx' f).sb = s.sb := rfl
@[simp] theorem State.wx'_ev (s : State) (f : WaxPart → WaxPart) : (s.wx' f).ev = s.ev := rfl
@[simp] theorem State.wx'_ct (s : State) (f : WaxPart → WaxPart) : (s.wx' f).ct = s.ct := rfl
@[simp] theorem State.wx'_wx (s : State) (f : WaxPart → WaxPart) : (s.wx' f).wx = f s.wx := rfl
@[simp] theorem State.wx'_dr (s : State) (f : WaxPart → WaxPart) : (s.wx' f).dr = s.dr := rfl
@[simp] theorem State.wx'_mc (s : State) (f : WaxPart → WaxPart) : (s.wx' f).mc = s.mc := rfl
@[simp] theorem State.wx'_rd (s : State) (f : WaxPart → WaxPart) : (s.wx' f).rd = s.rd := rfl
@[simp] theorem State.wx'_vo (s : State) (f : WaxPart → WaxPart) : (s.wx' f).vo = s.vo := rfl
@[simp] theorem State.wx'_sp (s : State) (f : WaxPart → WaxPart) : (s.wx' f).sp = s.sp := rfl
@[simp] theorem State.wx'_me (s : State) (f : WaxPart → WaxPart) : (s.wx' f).me = s.me := rfl
@[simp] theorem State.wx'_cl (s : State) (f : WaxPart → WaxPart) : (s.wx' f).cl = s.cl := rfl
@[simp] theorem State.wx'_hv (s : State) (f : WaxPart → WaxPart) : (s.wx' f).hv = s.hv := rfl
@[simp] theorem State.wx'_nv (s : State) (f : WaxPart → WaxPart) : (s.wx' f).nv = s.nv := rfl
@[simp] theorem State.wx'_ob (s : State) (f : WaxPart → WaxPart) : (s.wx' f).ob = s.ob := rfl
@[simp] theorem State.wx'_fg (s : State) (f : WaxPart → WaxPart) : (s.wx' f).fg = s.fg := rfl
@[simp] theorem State.wx'_rp (s : State) (f : WaxPart → WaxPart) : (s.wx' f).rp = s.rp := rfl
@[simp] theorem State.wx'_pr (s : State) (f : WaxPart → WaxPart) : (s.wx' f).pr = s.pr := rfl
@[simp] theorem State.wx'_co (s : State) (f : WaxPart → WaxPart) : (s.wx' f).co = s.co := rfl
@[simp] theorem State.wx'_bt (s : State) (f : WaxPart → WaxPart) : (s.wx' f).bt = s.bt := rfl
@[simp] theorem State.wx'_up (s : State) (f : WaxPart → WaxPart) : (s.wx' f).up = s.up := rfl
@[simp] theorem State.wx'_se (s : State) (f : WaxPart → WaxPart) : (s.wx' f).se = s.se := rfl
@[simp] theorem State.wx'_ks (s : State) (f : WaxPart → WaxPart) : (s.wx' f).ks = s.ks := rfl
@[simp] theorem State.wx'_fl (s : State) (f : WaxPart → WaxPart) : (s.wx' f).fl = s.fl := rfl
@[simp] theorem State.wx'_flNext (s : State) (f : WaxPart → WaxPart) : (s.wx' f).flNext = s.flNext := rfl
@[simp] theorem State.wx'_flOld (s : State) (f : WaxPart → WaxPart) : (s.wx' f).flOld = s.flOld := rfl
@[simp] theorem State.wx'_free (s : State) (f : WaxPart → WaxPart) : (s.wx' f).free = s.free := rfl
@[simp] theorem State.wx'_out (s : State) (f : WaxPart → WaxPart) : (s.wx' f).out = s.out := rfl
@[simp] theorem State.wx'_pending (s : State) (f : WaxPart → WaxPart) : (s.wx' f).pending = s.pending := rfl

/-! ## Updates of `dr` -/

@[simp] theorem State.dr'_vk (s : State) (f : DramPart → DramPart) : (s.dr' f).vk = s.vk := rfl
@[simp] theorem State.dr'_md (s : State) (f : DramPart → DramPart) : (s.dr' f).md = s.md := rfl
@[simp] theorem State.dr'_ck (s : State) (f : DramPart → DramPart) : (s.dr' f).ck = s.ck := rfl
@[simp] theorem State.dr'_pw (s : State) (f : DramPart → DramPart) : (s.dr' f).pw = s.pw := rfl
@[simp] theorem State.dr'_sb (s : State) (f : DramPart → DramPart) : (s.dr' f).sb = s.sb := rfl
@[simp] theorem State.dr'_ev (s : State) (f : DramPart → DramPart) : (s.dr' f).ev = s.ev := rfl
@[simp] theorem State.dr'_ct (s : State) (f : DramPart → DramPart) : (s.dr' f).ct = s.ct := rfl
@[simp] theorem State.dr'_wx (s : State) (f : DramPart → DramPart) : (s.dr' f).wx = s.wx := rfl
@[simp] theorem State.dr'_dr (s : State) (f : DramPart → DramPart) : (s.dr' f).dr = f s.dr := rfl
@[simp] theorem State.dr'_mc (s : State) (f : DramPart → DramPart) : (s.dr' f).mc = s.mc := rfl
@[simp] theorem State.dr'_rd (s : State) (f : DramPart → DramPart) : (s.dr' f).rd = s.rd := rfl
@[simp] theorem State.dr'_vo (s : State) (f : DramPart → DramPart) : (s.dr' f).vo = s.vo := rfl
@[simp] theorem State.dr'_sp (s : State) (f : DramPart → DramPart) : (s.dr' f).sp = s.sp := rfl
@[simp] theorem State.dr'_me (s : State) (f : DramPart → DramPart) : (s.dr' f).me = s.me := rfl
@[simp] theorem State.dr'_cl (s : State) (f : DramPart → DramPart) : (s.dr' f).cl = s.cl := rfl
@[simp] theorem State.dr'_hv (s : State) (f : DramPart → DramPart) : (s.dr' f).hv = s.hv := rfl
@[simp] theorem State.dr'_nv (s : State) (f : DramPart → DramPart) : (s.dr' f).nv = s.nv := rfl
@[simp] theorem State.dr'_ob (s : State) (f : DramPart → DramPart) : (s.dr' f).ob = s.ob := rfl
@[simp] theorem State.dr'_fg (s : State) (f : DramPart → DramPart) : (s.dr' f).fg = s.fg := rfl
@[simp] theorem State.dr'_rp (s : State) (f : DramPart → DramPart) : (s.dr' f).rp = s.rp := rfl
@[simp] theorem State.dr'_pr (s : State) (f : DramPart → DramPart) : (s.dr' f).pr = s.pr := rfl
@[simp] theorem State.dr'_co (s : State) (f : DramPart → DramPart) : (s.dr' f).co = s.co := rfl
@[simp] theorem State.dr'_bt (s : State) (f : DramPart → DramPart) : (s.dr' f).bt = s.bt := rfl
@[simp] theorem State.dr'_up (s : State) (f : DramPart → DramPart) : (s.dr' f).up = s.up := rfl
@[simp] theorem State.dr'_se (s : State) (f : DramPart → DramPart) : (s.dr' f).se = s.se := rfl
@[simp] theorem State.dr'_ks (s : State) (f : DramPart → DramPart) : (s.dr' f).ks = s.ks := rfl
@[simp] theorem State.dr'_fl (s : State) (f : DramPart → DramPart) : (s.dr' f).fl = s.fl := rfl
@[simp] theorem State.dr'_flNext (s : State) (f : DramPart → DramPart) : (s.dr' f).flNext = s.flNext := rfl
@[simp] theorem State.dr'_flOld (s : State) (f : DramPart → DramPart) : (s.dr' f).flOld = s.flOld := rfl
@[simp] theorem State.dr'_free (s : State) (f : DramPart → DramPart) : (s.dr' f).free = s.free := rfl
@[simp] theorem State.dr'_out (s : State) (f : DramPart → DramPart) : (s.dr' f).out = s.out := rfl
@[simp] theorem State.dr'_pending (s : State) (f : DramPart → DramPart) : (s.dr' f).pending = s.pending := rfl

/-! ## Updates of `mc` -/

@[simp] theorem State.mc'_vk (s : State) (f : MapCachePart → MapCachePart) : (s.mc' f).vk = s.vk := rfl
@[simp] theorem State.mc'_md (s : State) (f : MapCachePart → MapCachePart) : (s.mc' f).md = s.md := rfl
@[simp] theorem State.mc'_ck (s : State) (f : MapCachePart → MapCachePart) : (s.mc' f).ck = s.ck := rfl
@[simp] theorem State.mc'_pw (s : State) (f : MapCachePart → MapCachePart) : (s.mc' f).pw = s.pw := rfl
@[simp] theorem State.mc'_sb (s : State) (f : MapCachePart → MapCachePart) : (s.mc' f).sb = s.sb := rfl
@[simp] theorem State.mc'_ev (s : State) (f : MapCachePart → MapCachePart) : (s.mc' f).ev = s.ev := rfl
@[simp] theorem State.mc'_ct (s : State) (f : MapCachePart → MapCachePart) : (s.mc' f).ct = s.ct := rfl
@[simp] theorem State.mc'_wx (s : State) (f : MapCachePart → MapCachePart) : (s.mc' f).wx = s.wx := rfl
@[simp] theorem State.mc'_dr (s : State) (f : MapCachePart → MapCachePart) : (s.mc' f).dr = s.dr := rfl
@[simp] theorem State.mc'_mc (s : State) (f : MapCachePart → MapCachePart) : (s.mc' f).mc = f s.mc := rfl
@[simp] theorem State.mc'_rd (s : State) (f : MapCachePart → MapCachePart) : (s.mc' f).rd = s.rd := rfl
@[simp] theorem State.mc'_vo (s : State) (f : MapCachePart → MapCachePart) : (s.mc' f).vo = s.vo := rfl
@[simp] theorem State.mc'_sp (s : State) (f : MapCachePart → MapCachePart) : (s.mc' f).sp = s.sp := rfl
@[simp] theorem State.mc'_me (s : State) (f : MapCachePart → MapCachePart) : (s.mc' f).me = s.me := rfl
@[simp] theorem State.mc'_cl (s : State) (f : MapCachePart → MapCachePart) : (s.mc' f).cl = s.cl := rfl
@[simp] theorem State.mc'_hv (s : State) (f : MapCachePart → MapCachePart) : (s.mc' f).hv = s.hv := rfl
@[simp] theorem State.mc'_nv (s : State) (f : MapCachePart → MapCachePart) : (s.mc' f).nv = s.nv := rfl
@[simp] theorem State.mc'_ob (s : State) (f : MapCachePart → MapCachePart) : (s.mc' f).ob = s.ob := rfl
@[simp] theorem State.mc'_fg (s : State) (f : MapCachePart → MapCachePart) : (s.mc' f).fg = s.fg := rfl
@[simp] theorem State.mc'_rp (s : State) (f : MapCachePart → MapCachePart) : (s.mc' f).rp = s.rp := rfl
@[simp] theorem State.mc'_pr (s : State) (f : MapCachePart → MapCachePart) : (s.mc' f).pr = s.pr := rfl
@[simp] theorem State.mc'_co (s : State) (f : MapCachePart → MapCachePart) : (s.mc' f).co = s.co := rfl
@[simp] theorem State.mc'_bt (s : State) (f : MapCachePart → MapCachePart) : (s.mc' f).bt = s.bt := rfl
@[simp] theorem State.mc'_up (s : State) (f : MapCachePart → MapCachePart) : (s.mc' f).up = s.up := rfl
@[simp] theorem State.mc'_se (s : State) (f : MapCachePart → MapCachePart) : (s.mc' f).se = s.se := rfl
@[simp] theorem State.mc'_ks (s : State) (f : MapCachePart → MapCachePart) : (s.mc' f).ks = s.ks := rfl
@[simp] theorem State.mc'_fl (s : State) (f : MapCachePart → MapCachePart) : (s.mc' f).fl = s.fl := rfl
@[simp] theorem State.mc'_flNext (s : State) (f : MapCachePart → MapCachePart) : (s.mc' f).flNext = s.flNext := rfl
@[simp] theorem State.mc'_flOld (s : State) (f : MapCachePart → MapCachePart) : (s.mc' f).flOld = s.flOld := rfl
@[simp] theorem State.mc'_free (s : State) (f : MapCachePart → MapCachePart) : (s.mc' f).free = s.free := rfl
@[simp] theorem State.mc'_out (s : State) (f : MapCachePart → MapCachePart) : (s.mc' f).out = s.out := rfl
@[simp] theorem State.mc'_pending (s : State) (f : MapCachePart → MapCachePart) : (s.mc' f).pending = s.pending := rfl

/-! ## Updates of `rd` -/

@[simp] theorem State.rd'_vk (s : State) (f : ReducePart → ReducePart) : (s.rd' f).vk = s.vk := rfl
@[simp] theorem State.rd'_md (s : State) (f : ReducePart → ReducePart) : (s.rd' f).md = s.md := rfl
@[simp] theorem State.rd'_ck (s : State) (f : ReducePart → ReducePart) : (s.rd' f).ck = s.ck := rfl
@[simp] theorem State.rd'_pw (s : State) (f : ReducePart → ReducePart) : (s.rd' f).pw = s.pw := rfl
@[simp] theorem State.rd'_sb (s : State) (f : ReducePart → ReducePart) : (s.rd' f).sb = s.sb := rfl
@[simp] theorem State.rd'_ev (s : State) (f : ReducePart → ReducePart) : (s.rd' f).ev = s.ev := rfl
@[simp] theorem State.rd'_ct (s : State) (f : ReducePart → ReducePart) : (s.rd' f).ct = s.ct := rfl
@[simp] theorem State.rd'_wx (s : State) (f : ReducePart → ReducePart) : (s.rd' f).wx = s.wx := rfl
@[simp] theorem State.rd'_dr (s : State) (f : ReducePart → ReducePart) : (s.rd' f).dr = s.dr := rfl
@[simp] theorem State.rd'_mc (s : State) (f : ReducePart → ReducePart) : (s.rd' f).mc = s.mc := rfl
@[simp] theorem State.rd'_rd (s : State) (f : ReducePart → ReducePart) : (s.rd' f).rd = f s.rd := rfl
@[simp] theorem State.rd'_vo (s : State) (f : ReducePart → ReducePart) : (s.rd' f).vo = s.vo := rfl
@[simp] theorem State.rd'_sp (s : State) (f : ReducePart → ReducePart) : (s.rd' f).sp = s.sp := rfl
@[simp] theorem State.rd'_me (s : State) (f : ReducePart → ReducePart) : (s.rd' f).me = s.me := rfl
@[simp] theorem State.rd'_cl (s : State) (f : ReducePart → ReducePart) : (s.rd' f).cl = s.cl := rfl
@[simp] theorem State.rd'_hv (s : State) (f : ReducePart → ReducePart) : (s.rd' f).hv = s.hv := rfl
@[simp] theorem State.rd'_nv (s : State) (f : ReducePart → ReducePart) : (s.rd' f).nv = s.nv := rfl
@[simp] theorem State.rd'_ob (s : State) (f : ReducePart → ReducePart) : (s.rd' f).ob = s.ob := rfl
@[simp] theorem State.rd'_fg (s : State) (f : ReducePart → ReducePart) : (s.rd' f).fg = s.fg := rfl
@[simp] theorem State.rd'_rp (s : State) (f : ReducePart → ReducePart) : (s.rd' f).rp = s.rp := rfl
@[simp] theorem State.rd'_pr (s : State) (f : ReducePart → ReducePart) : (s.rd' f).pr = s.pr := rfl
@[simp] theorem State.rd'_co (s : State) (f : ReducePart → ReducePart) : (s.rd' f).co = s.co := rfl
@[simp] theorem State.rd'_bt (s : State) (f : ReducePart → ReducePart) : (s.rd' f).bt = s.bt := rfl
@[simp] theorem State.rd'_up (s : State) (f : ReducePart → ReducePart) : (s.rd' f).up = s.up := rfl
@[simp] theorem State.rd'_se (s : State) (f : ReducePart → ReducePart) : (s.rd' f).se = s.se := rfl
@[simp] theorem State.rd'_ks (s : State) (f : ReducePart → ReducePart) : (s.rd' f).ks = s.ks := rfl
@[simp] theorem State.rd'_fl (s : State) (f : ReducePart → ReducePart) : (s.rd' f).fl = s.fl := rfl
@[simp] theorem State.rd'_flNext (s : State) (f : ReducePart → ReducePart) : (s.rd' f).flNext = s.flNext := rfl
@[simp] theorem State.rd'_flOld (s : State) (f : ReducePart → ReducePart) : (s.rd' f).flOld = s.flOld := rfl
@[simp] theorem State.rd'_free (s : State) (f : ReducePart → ReducePart) : (s.rd' f).free = s.free := rfl
@[simp] theorem State.rd'_out (s : State) (f : ReducePart → ReducePart) : (s.rd' f).out = s.out := rfl
@[simp] theorem State.rd'_pending (s : State) (f : ReducePart → ReducePart) : (s.rd' f).pending = s.pending := rfl

/-! ## Updates of `vo` -/

@[simp] theorem State.vo'_vk (s : State) (f : VolumesPart → VolumesPart) : (s.vo' f).vk = s.vk := rfl
@[simp] theorem State.vo'_md (s : State) (f : VolumesPart → VolumesPart) : (s.vo' f).md = s.md := rfl
@[simp] theorem State.vo'_ck (s : State) (f : VolumesPart → VolumesPart) : (s.vo' f).ck = s.ck := rfl
@[simp] theorem State.vo'_pw (s : State) (f : VolumesPart → VolumesPart) : (s.vo' f).pw = s.pw := rfl
@[simp] theorem State.vo'_sb (s : State) (f : VolumesPart → VolumesPart) : (s.vo' f).sb = s.sb := rfl
@[simp] theorem State.vo'_ev (s : State) (f : VolumesPart → VolumesPart) : (s.vo' f).ev = s.ev := rfl
@[simp] theorem State.vo'_ct (s : State) (f : VolumesPart → VolumesPart) : (s.vo' f).ct = s.ct := rfl
@[simp] theorem State.vo'_wx (s : State) (f : VolumesPart → VolumesPart) : (s.vo' f).wx = s.wx := rfl
@[simp] theorem State.vo'_dr (s : State) (f : VolumesPart → VolumesPart) : (s.vo' f).dr = s.dr := rfl
@[simp] theorem State.vo'_mc (s : State) (f : VolumesPart → VolumesPart) : (s.vo' f).mc = s.mc := rfl
@[simp] theorem State.vo'_rd (s : State) (f : VolumesPart → VolumesPart) : (s.vo' f).rd = s.rd := rfl
@[simp] theorem State.vo'_vo (s : State) (f : VolumesPart → VolumesPart) : (s.vo' f).vo = f s.vo := rfl
@[simp] theorem State.vo'_sp (s : State) (f : VolumesPart → VolumesPart) : (s.vo' f).sp = s.sp := rfl
@[simp] theorem State.vo'_me (s : State) (f : VolumesPart → VolumesPart) : (s.vo' f).me = s.me := rfl
@[simp] theorem State.vo'_cl (s : State) (f : VolumesPart → VolumesPart) : (s.vo' f).cl = s.cl := rfl
@[simp] theorem State.vo'_hv (s : State) (f : VolumesPart → VolumesPart) : (s.vo' f).hv = s.hv := rfl
@[simp] theorem State.vo'_nv (s : State) (f : VolumesPart → VolumesPart) : (s.vo' f).nv = s.nv := rfl
@[simp] theorem State.vo'_ob (s : State) (f : VolumesPart → VolumesPart) : (s.vo' f).ob = s.ob := rfl
@[simp] theorem State.vo'_fg (s : State) (f : VolumesPart → VolumesPart) : (s.vo' f).fg = s.fg := rfl
@[simp] theorem State.vo'_rp (s : State) (f : VolumesPart → VolumesPart) : (s.vo' f).rp = s.rp := rfl
@[simp] theorem State.vo'_pr (s : State) (f : VolumesPart → VolumesPart) : (s.vo' f).pr = s.pr := rfl
@[simp] theorem State.vo'_co (s : State) (f : VolumesPart → VolumesPart) : (s.vo' f).co = s.co := rfl
@[simp] theorem State.vo'_bt (s : State) (f : VolumesPart → VolumesPart) : (s.vo' f).bt = s.bt := rfl
@[simp] theorem State.vo'_up (s : State) (f : VolumesPart → VolumesPart) : (s.vo' f).up = s.up := rfl
@[simp] theorem State.vo'_se (s : State) (f : VolumesPart → VolumesPart) : (s.vo' f).se = s.se := rfl
@[simp] theorem State.vo'_ks (s : State) (f : VolumesPart → VolumesPart) : (s.vo' f).ks = s.ks := rfl
@[simp] theorem State.vo'_fl (s : State) (f : VolumesPart → VolumesPart) : (s.vo' f).fl = s.fl := rfl
@[simp] theorem State.vo'_flNext (s : State) (f : VolumesPart → VolumesPart) : (s.vo' f).flNext = s.flNext := rfl
@[simp] theorem State.vo'_flOld (s : State) (f : VolumesPart → VolumesPart) : (s.vo' f).flOld = s.flOld := rfl
@[simp] theorem State.vo'_free (s : State) (f : VolumesPart → VolumesPart) : (s.vo' f).free = s.free := rfl
@[simp] theorem State.vo'_out (s : State) (f : VolumesPart → VolumesPart) : (s.vo' f).out = s.out := rfl
@[simp] theorem State.vo'_pending (s : State) (f : VolumesPart → VolumesPart) : (s.vo' f).pending = s.pending := rfl

/-! ## Updates of `sp` -/

@[simp] theorem State.sp'_vk (s : State) (f : StripesPart → StripesPart) : (s.sp' f).vk = s.vk := rfl
@[simp] theorem State.sp'_md (s : State) (f : StripesPart → StripesPart) : (s.sp' f).md = s.md := rfl
@[simp] theorem State.sp'_ck (s : State) (f : StripesPart → StripesPart) : (s.sp' f).ck = s.ck := rfl
@[simp] theorem State.sp'_pw (s : State) (f : StripesPart → StripesPart) : (s.sp' f).pw = s.pw := rfl
@[simp] theorem State.sp'_sb (s : State) (f : StripesPart → StripesPart) : (s.sp' f).sb = s.sb := rfl
@[simp] theorem State.sp'_ev (s : State) (f : StripesPart → StripesPart) : (s.sp' f).ev = s.ev := rfl
@[simp] theorem State.sp'_ct (s : State) (f : StripesPart → StripesPart) : (s.sp' f).ct = s.ct := rfl
@[simp] theorem State.sp'_wx (s : State) (f : StripesPart → StripesPart) : (s.sp' f).wx = s.wx := rfl
@[simp] theorem State.sp'_dr (s : State) (f : StripesPart → StripesPart) : (s.sp' f).dr = s.dr := rfl
@[simp] theorem State.sp'_mc (s : State) (f : StripesPart → StripesPart) : (s.sp' f).mc = s.mc := rfl
@[simp] theorem State.sp'_rd (s : State) (f : StripesPart → StripesPart) : (s.sp' f).rd = s.rd := rfl
@[simp] theorem State.sp'_vo (s : State) (f : StripesPart → StripesPart) : (s.sp' f).vo = s.vo := rfl
@[simp] theorem State.sp'_sp (s : State) (f : StripesPart → StripesPart) : (s.sp' f).sp = f s.sp := rfl
@[simp] theorem State.sp'_me (s : State) (f : StripesPart → StripesPart) : (s.sp' f).me = s.me := rfl
@[simp] theorem State.sp'_cl (s : State) (f : StripesPart → StripesPart) : (s.sp' f).cl = s.cl := rfl
@[simp] theorem State.sp'_hv (s : State) (f : StripesPart → StripesPart) : (s.sp' f).hv = s.hv := rfl
@[simp] theorem State.sp'_nv (s : State) (f : StripesPart → StripesPart) : (s.sp' f).nv = s.nv := rfl
@[simp] theorem State.sp'_ob (s : State) (f : StripesPart → StripesPart) : (s.sp' f).ob = s.ob := rfl
@[simp] theorem State.sp'_fg (s : State) (f : StripesPart → StripesPart) : (s.sp' f).fg = s.fg := rfl
@[simp] theorem State.sp'_rp (s : State) (f : StripesPart → StripesPart) : (s.sp' f).rp = s.rp := rfl
@[simp] theorem State.sp'_pr (s : State) (f : StripesPart → StripesPart) : (s.sp' f).pr = s.pr := rfl
@[simp] theorem State.sp'_co (s : State) (f : StripesPart → StripesPart) : (s.sp' f).co = s.co := rfl
@[simp] theorem State.sp'_bt (s : State) (f : StripesPart → StripesPart) : (s.sp' f).bt = s.bt := rfl
@[simp] theorem State.sp'_up (s : State) (f : StripesPart → StripesPart) : (s.sp' f).up = s.up := rfl
@[simp] theorem State.sp'_se (s : State) (f : StripesPart → StripesPart) : (s.sp' f).se = s.se := rfl
@[simp] theorem State.sp'_ks (s : State) (f : StripesPart → StripesPart) : (s.sp' f).ks = s.ks := rfl
@[simp] theorem State.sp'_fl (s : State) (f : StripesPart → StripesPart) : (s.sp' f).fl = s.fl := rfl
@[simp] theorem State.sp'_flNext (s : State) (f : StripesPart → StripesPart) : (s.sp' f).flNext = s.flNext := rfl
@[simp] theorem State.sp'_flOld (s : State) (f : StripesPart → StripesPart) : (s.sp' f).flOld = s.flOld := rfl
@[simp] theorem State.sp'_free (s : State) (f : StripesPart → StripesPart) : (s.sp' f).free = s.free := rfl
@[simp] theorem State.sp'_out (s : State) (f : StripesPart → StripesPart) : (s.sp' f).out = s.out := rfl
@[simp] theorem State.sp'_pending (s : State) (f : StripesPart → StripesPart) : (s.sp' f).pending = s.pending := rfl

/-! ## Updates of `me` -/

@[simp] theorem State.me'_vk (s : State) (f : MediaPart → MediaPart) : (s.me' f).vk = s.vk := rfl
@[simp] theorem State.me'_md (s : State) (f : MediaPart → MediaPart) : (s.me' f).md = s.md := rfl
@[simp] theorem State.me'_ck (s : State) (f : MediaPart → MediaPart) : (s.me' f).ck = s.ck := rfl
@[simp] theorem State.me'_pw (s : State) (f : MediaPart → MediaPart) : (s.me' f).pw = s.pw := rfl
@[simp] theorem State.me'_sb (s : State) (f : MediaPart → MediaPart) : (s.me' f).sb = s.sb := rfl
@[simp] theorem State.me'_ev (s : State) (f : MediaPart → MediaPart) : (s.me' f).ev = s.ev := rfl
@[simp] theorem State.me'_ct (s : State) (f : MediaPart → MediaPart) : (s.me' f).ct = s.ct := rfl
@[simp] theorem State.me'_wx (s : State) (f : MediaPart → MediaPart) : (s.me' f).wx = s.wx := rfl
@[simp] theorem State.me'_dr (s : State) (f : MediaPart → MediaPart) : (s.me' f).dr = s.dr := rfl
@[simp] theorem State.me'_mc (s : State) (f : MediaPart → MediaPart) : (s.me' f).mc = s.mc := rfl
@[simp] theorem State.me'_rd (s : State) (f : MediaPart → MediaPart) : (s.me' f).rd = s.rd := rfl
@[simp] theorem State.me'_vo (s : State) (f : MediaPart → MediaPart) : (s.me' f).vo = s.vo := rfl
@[simp] theorem State.me'_sp (s : State) (f : MediaPart → MediaPart) : (s.me' f).sp = s.sp := rfl
@[simp] theorem State.me'_me (s : State) (f : MediaPart → MediaPart) : (s.me' f).me = f s.me := rfl
@[simp] theorem State.me'_cl (s : State) (f : MediaPart → MediaPart) : (s.me' f).cl = s.cl := rfl
@[simp] theorem State.me'_hv (s : State) (f : MediaPart → MediaPart) : (s.me' f).hv = s.hv := rfl
@[simp] theorem State.me'_nv (s : State) (f : MediaPart → MediaPart) : (s.me' f).nv = s.nv := rfl
@[simp] theorem State.me'_ob (s : State) (f : MediaPart → MediaPart) : (s.me' f).ob = s.ob := rfl
@[simp] theorem State.me'_fg (s : State) (f : MediaPart → MediaPart) : (s.me' f).fg = s.fg := rfl
@[simp] theorem State.me'_rp (s : State) (f : MediaPart → MediaPart) : (s.me' f).rp = s.rp := rfl
@[simp] theorem State.me'_pr (s : State) (f : MediaPart → MediaPart) : (s.me' f).pr = s.pr := rfl
@[simp] theorem State.me'_co (s : State) (f : MediaPart → MediaPart) : (s.me' f).co = s.co := rfl
@[simp] theorem State.me'_bt (s : State) (f : MediaPart → MediaPart) : (s.me' f).bt = s.bt := rfl
@[simp] theorem State.me'_up (s : State) (f : MediaPart → MediaPart) : (s.me' f).up = s.up := rfl
@[simp] theorem State.me'_se (s : State) (f : MediaPart → MediaPart) : (s.me' f).se = s.se := rfl
@[simp] theorem State.me'_ks (s : State) (f : MediaPart → MediaPart) : (s.me' f).ks = s.ks := rfl
@[simp] theorem State.me'_fl (s : State) (f : MediaPart → MediaPart) : (s.me' f).fl = s.fl := rfl
@[simp] theorem State.me'_flNext (s : State) (f : MediaPart → MediaPart) : (s.me' f).flNext = s.flNext := rfl
@[simp] theorem State.me'_flOld (s : State) (f : MediaPart → MediaPart) : (s.me' f).flOld = s.flOld := rfl
@[simp] theorem State.me'_free (s : State) (f : MediaPart → MediaPart) : (s.me' f).free = s.free := rfl
@[simp] theorem State.me'_out (s : State) (f : MediaPart → MediaPart) : (s.me' f).out = s.out := rfl
@[simp] theorem State.me'_pending (s : State) (f : MediaPart → MediaPart) : (s.me' f).pending = s.pending := rfl

/-! ## Updates of `cl` -/

@[simp] theorem State.cl'_vk (s : State) (f : CombLinksPart → CombLinksPart) : (s.cl' f).vk = s.vk := rfl
@[simp] theorem State.cl'_md (s : State) (f : CombLinksPart → CombLinksPart) : (s.cl' f).md = s.md := rfl
@[simp] theorem State.cl'_ck (s : State) (f : CombLinksPart → CombLinksPart) : (s.cl' f).ck = s.ck := rfl
@[simp] theorem State.cl'_pw (s : State) (f : CombLinksPart → CombLinksPart) : (s.cl' f).pw = s.pw := rfl
@[simp] theorem State.cl'_sb (s : State) (f : CombLinksPart → CombLinksPart) : (s.cl' f).sb = s.sb := rfl
@[simp] theorem State.cl'_ev (s : State) (f : CombLinksPart → CombLinksPart) : (s.cl' f).ev = s.ev := rfl
@[simp] theorem State.cl'_ct (s : State) (f : CombLinksPart → CombLinksPart) : (s.cl' f).ct = s.ct := rfl
@[simp] theorem State.cl'_wx (s : State) (f : CombLinksPart → CombLinksPart) : (s.cl' f).wx = s.wx := rfl
@[simp] theorem State.cl'_dr (s : State) (f : CombLinksPart → CombLinksPart) : (s.cl' f).dr = s.dr := rfl
@[simp] theorem State.cl'_mc (s : State) (f : CombLinksPart → CombLinksPart) : (s.cl' f).mc = s.mc := rfl
@[simp] theorem State.cl'_rd (s : State) (f : CombLinksPart → CombLinksPart) : (s.cl' f).rd = s.rd := rfl
@[simp] theorem State.cl'_vo (s : State) (f : CombLinksPart → CombLinksPart) : (s.cl' f).vo = s.vo := rfl
@[simp] theorem State.cl'_sp (s : State) (f : CombLinksPart → CombLinksPart) : (s.cl' f).sp = s.sp := rfl
@[simp] theorem State.cl'_me (s : State) (f : CombLinksPart → CombLinksPart) : (s.cl' f).me = s.me := rfl
@[simp] theorem State.cl'_cl (s : State) (f : CombLinksPart → CombLinksPart) : (s.cl' f).cl = f s.cl := rfl
@[simp] theorem State.cl'_hv (s : State) (f : CombLinksPart → CombLinksPart) : (s.cl' f).hv = s.hv := rfl
@[simp] theorem State.cl'_nv (s : State) (f : CombLinksPart → CombLinksPart) : (s.cl' f).nv = s.nv := rfl
@[simp] theorem State.cl'_ob (s : State) (f : CombLinksPart → CombLinksPart) : (s.cl' f).ob = s.ob := rfl
@[simp] theorem State.cl'_fg (s : State) (f : CombLinksPart → CombLinksPart) : (s.cl' f).fg = s.fg := rfl
@[simp] theorem State.cl'_rp (s : State) (f : CombLinksPart → CombLinksPart) : (s.cl' f).rp = s.rp := rfl
@[simp] theorem State.cl'_pr (s : State) (f : CombLinksPart → CombLinksPart) : (s.cl' f).pr = s.pr := rfl
@[simp] theorem State.cl'_co (s : State) (f : CombLinksPart → CombLinksPart) : (s.cl' f).co = s.co := rfl
@[simp] theorem State.cl'_bt (s : State) (f : CombLinksPart → CombLinksPart) : (s.cl' f).bt = s.bt := rfl
@[simp] theorem State.cl'_up (s : State) (f : CombLinksPart → CombLinksPart) : (s.cl' f).up = s.up := rfl
@[simp] theorem State.cl'_se (s : State) (f : CombLinksPart → CombLinksPart) : (s.cl' f).se = s.se := rfl
@[simp] theorem State.cl'_ks (s : State) (f : CombLinksPart → CombLinksPart) : (s.cl' f).ks = s.ks := rfl
@[simp] theorem State.cl'_fl (s : State) (f : CombLinksPart → CombLinksPart) : (s.cl' f).fl = s.fl := rfl
@[simp] theorem State.cl'_flNext (s : State) (f : CombLinksPart → CombLinksPart) : (s.cl' f).flNext = s.flNext := rfl
@[simp] theorem State.cl'_flOld (s : State) (f : CombLinksPart → CombLinksPart) : (s.cl' f).flOld = s.flOld := rfl
@[simp] theorem State.cl'_free (s : State) (f : CombLinksPart → CombLinksPart) : (s.cl' f).free = s.free := rfl
@[simp] theorem State.cl'_out (s : State) (f : CombLinksPart → CombLinksPart) : (s.cl' f).out = s.out := rfl
@[simp] theorem State.cl'_pending (s : State) (f : CombLinksPart → CombLinksPart) : (s.cl' f).pending = s.pending := rfl

/-! ## Updates of `hv` -/

@[simp] theorem State.hv'_vk (s : State) (f : Power2Part → Power2Part) : (s.hv' f).vk = s.vk := rfl
@[simp] theorem State.hv'_md (s : State) (f : Power2Part → Power2Part) : (s.hv' f).md = s.md := rfl
@[simp] theorem State.hv'_ck (s : State) (f : Power2Part → Power2Part) : (s.hv' f).ck = s.ck := rfl
@[simp] theorem State.hv'_pw (s : State) (f : Power2Part → Power2Part) : (s.hv' f).pw = s.pw := rfl
@[simp] theorem State.hv'_sb (s : State) (f : Power2Part → Power2Part) : (s.hv' f).sb = s.sb := rfl
@[simp] theorem State.hv'_ev (s : State) (f : Power2Part → Power2Part) : (s.hv' f).ev = s.ev := rfl
@[simp] theorem State.hv'_ct (s : State) (f : Power2Part → Power2Part) : (s.hv' f).ct = s.ct := rfl
@[simp] theorem State.hv'_wx (s : State) (f : Power2Part → Power2Part) : (s.hv' f).wx = s.wx := rfl
@[simp] theorem State.hv'_dr (s : State) (f : Power2Part → Power2Part) : (s.hv' f).dr = s.dr := rfl
@[simp] theorem State.hv'_mc (s : State) (f : Power2Part → Power2Part) : (s.hv' f).mc = s.mc := rfl
@[simp] theorem State.hv'_rd (s : State) (f : Power2Part → Power2Part) : (s.hv' f).rd = s.rd := rfl
@[simp] theorem State.hv'_vo (s : State) (f : Power2Part → Power2Part) : (s.hv' f).vo = s.vo := rfl
@[simp] theorem State.hv'_sp (s : State) (f : Power2Part → Power2Part) : (s.hv' f).sp = s.sp := rfl
@[simp] theorem State.hv'_me (s : State) (f : Power2Part → Power2Part) : (s.hv' f).me = s.me := rfl
@[simp] theorem State.hv'_cl (s : State) (f : Power2Part → Power2Part) : (s.hv' f).cl = s.cl := rfl
@[simp] theorem State.hv'_hv (s : State) (f : Power2Part → Power2Part) : (s.hv' f).hv = f s.hv := rfl
@[simp] theorem State.hv'_nv (s : State) (f : Power2Part → Power2Part) : (s.hv' f).nv = s.nv := rfl
@[simp] theorem State.hv'_ob (s : State) (f : Power2Part → Power2Part) : (s.hv' f).ob = s.ob := rfl
@[simp] theorem State.hv'_fg (s : State) (f : Power2Part → Power2Part) : (s.hv' f).fg = s.fg := rfl
@[simp] theorem State.hv'_rp (s : State) (f : Power2Part → Power2Part) : (s.hv' f).rp = s.rp := rfl
@[simp] theorem State.hv'_pr (s : State) (f : Power2Part → Power2Part) : (s.hv' f).pr = s.pr := rfl
@[simp] theorem State.hv'_co (s : State) (f : Power2Part → Power2Part) : (s.hv' f).co = s.co := rfl
@[simp] theorem State.hv'_bt (s : State) (f : Power2Part → Power2Part) : (s.hv' f).bt = s.bt := rfl
@[simp] theorem State.hv'_up (s : State) (f : Power2Part → Power2Part) : (s.hv' f).up = s.up := rfl
@[simp] theorem State.hv'_se (s : State) (f : Power2Part → Power2Part) : (s.hv' f).se = s.se := rfl
@[simp] theorem State.hv'_ks (s : State) (f : Power2Part → Power2Part) : (s.hv' f).ks = s.ks := rfl
@[simp] theorem State.hv'_fl (s : State) (f : Power2Part → Power2Part) : (s.hv' f).fl = s.fl := rfl
@[simp] theorem State.hv'_flNext (s : State) (f : Power2Part → Power2Part) : (s.hv' f).flNext = s.flNext := rfl
@[simp] theorem State.hv'_flOld (s : State) (f : Power2Part → Power2Part) : (s.hv' f).flOld = s.flOld := rfl
@[simp] theorem State.hv'_free (s : State) (f : Power2Part → Power2Part) : (s.hv' f).free = s.free := rfl
@[simp] theorem State.hv'_out (s : State) (f : Power2Part → Power2Part) : (s.hv' f).out = s.out := rfl
@[simp] theorem State.hv'_pending (s : State) (f : Power2Part → Power2Part) : (s.hv' f).pending = s.pending := rfl

/-! ## Updates of `nv` -/

@[simp] theorem State.nv'_vk (s : State) (f : FrontPart → FrontPart) : (s.nv' f).vk = s.vk := rfl
@[simp] theorem State.nv'_md (s : State) (f : FrontPart → FrontPart) : (s.nv' f).md = s.md := rfl
@[simp] theorem State.nv'_ck (s : State) (f : FrontPart → FrontPart) : (s.nv' f).ck = s.ck := rfl
@[simp] theorem State.nv'_pw (s : State) (f : FrontPart → FrontPart) : (s.nv' f).pw = s.pw := rfl
@[simp] theorem State.nv'_sb (s : State) (f : FrontPart → FrontPart) : (s.nv' f).sb = s.sb := rfl
@[simp] theorem State.nv'_ev (s : State) (f : FrontPart → FrontPart) : (s.nv' f).ev = s.ev := rfl
@[simp] theorem State.nv'_ct (s : State) (f : FrontPart → FrontPart) : (s.nv' f).ct = s.ct := rfl
@[simp] theorem State.nv'_wx (s : State) (f : FrontPart → FrontPart) : (s.nv' f).wx = s.wx := rfl
@[simp] theorem State.nv'_dr (s : State) (f : FrontPart → FrontPart) : (s.nv' f).dr = s.dr := rfl
@[simp] theorem State.nv'_mc (s : State) (f : FrontPart → FrontPart) : (s.nv' f).mc = s.mc := rfl
@[simp] theorem State.nv'_rd (s : State) (f : FrontPart → FrontPart) : (s.nv' f).rd = s.rd := rfl
@[simp] theorem State.nv'_vo (s : State) (f : FrontPart → FrontPart) : (s.nv' f).vo = s.vo := rfl
@[simp] theorem State.nv'_sp (s : State) (f : FrontPart → FrontPart) : (s.nv' f).sp = s.sp := rfl
@[simp] theorem State.nv'_me (s : State) (f : FrontPart → FrontPart) : (s.nv' f).me = s.me := rfl
@[simp] theorem State.nv'_cl (s : State) (f : FrontPart → FrontPart) : (s.nv' f).cl = s.cl := rfl
@[simp] theorem State.nv'_hv (s : State) (f : FrontPart → FrontPart) : (s.nv' f).hv = s.hv := rfl
@[simp] theorem State.nv'_nv (s : State) (f : FrontPart → FrontPart) : (s.nv' f).nv = f s.nv := rfl
@[simp] theorem State.nv'_ob (s : State) (f : FrontPart → FrontPart) : (s.nv' f).ob = s.ob := rfl
@[simp] theorem State.nv'_fg (s : State) (f : FrontPart → FrontPart) : (s.nv' f).fg = s.fg := rfl
@[simp] theorem State.nv'_rp (s : State) (f : FrontPart → FrontPart) : (s.nv' f).rp = s.rp := rfl
@[simp] theorem State.nv'_pr (s : State) (f : FrontPart → FrontPart) : (s.nv' f).pr = s.pr := rfl
@[simp] theorem State.nv'_co (s : State) (f : FrontPart → FrontPart) : (s.nv' f).co = s.co := rfl
@[simp] theorem State.nv'_bt (s : State) (f : FrontPart → FrontPart) : (s.nv' f).bt = s.bt := rfl
@[simp] theorem State.nv'_up (s : State) (f : FrontPart → FrontPart) : (s.nv' f).up = s.up := rfl
@[simp] theorem State.nv'_se (s : State) (f : FrontPart → FrontPart) : (s.nv' f).se = s.se := rfl
@[simp] theorem State.nv'_ks (s : State) (f : FrontPart → FrontPart) : (s.nv' f).ks = s.ks := rfl
@[simp] theorem State.nv'_fl (s : State) (f : FrontPart → FrontPart) : (s.nv' f).fl = s.fl := rfl
@[simp] theorem State.nv'_flNext (s : State) (f : FrontPart → FrontPart) : (s.nv' f).flNext = s.flNext := rfl
@[simp] theorem State.nv'_flOld (s : State) (f : FrontPart → FrontPart) : (s.nv' f).flOld = s.flOld := rfl
@[simp] theorem State.nv'_free (s : State) (f : FrontPart → FrontPart) : (s.nv' f).free = s.free := rfl
@[simp] theorem State.nv'_out (s : State) (f : FrontPart → FrontPart) : (s.nv' f).out = s.out := rfl
@[simp] theorem State.nv'_pending (s : State) (f : FrontPart → FrontPart) : (s.nv' f).pending = s.pending := rfl

/-! ## Updates of `ob` -/

@[simp] theorem State.ob'_vk (s : State) (f : ObjectsPart → ObjectsPart) : (s.ob' f).vk = s.vk := rfl
@[simp] theorem State.ob'_md (s : State) (f : ObjectsPart → ObjectsPart) : (s.ob' f).md = s.md := rfl
@[simp] theorem State.ob'_ck (s : State) (f : ObjectsPart → ObjectsPart) : (s.ob' f).ck = s.ck := rfl
@[simp] theorem State.ob'_pw (s : State) (f : ObjectsPart → ObjectsPart) : (s.ob' f).pw = s.pw := rfl
@[simp] theorem State.ob'_sb (s : State) (f : ObjectsPart → ObjectsPart) : (s.ob' f).sb = s.sb := rfl
@[simp] theorem State.ob'_ev (s : State) (f : ObjectsPart → ObjectsPart) : (s.ob' f).ev = s.ev := rfl
@[simp] theorem State.ob'_ct (s : State) (f : ObjectsPart → ObjectsPart) : (s.ob' f).ct = s.ct := rfl
@[simp] theorem State.ob'_wx (s : State) (f : ObjectsPart → ObjectsPart) : (s.ob' f).wx = s.wx := rfl
@[simp] theorem State.ob'_dr (s : State) (f : ObjectsPart → ObjectsPart) : (s.ob' f).dr = s.dr := rfl
@[simp] theorem State.ob'_mc (s : State) (f : ObjectsPart → ObjectsPart) : (s.ob' f).mc = s.mc := rfl
@[simp] theorem State.ob'_rd (s : State) (f : ObjectsPart → ObjectsPart) : (s.ob' f).rd = s.rd := rfl
@[simp] theorem State.ob'_vo (s : State) (f : ObjectsPart → ObjectsPart) : (s.ob' f).vo = s.vo := rfl
@[simp] theorem State.ob'_sp (s : State) (f : ObjectsPart → ObjectsPart) : (s.ob' f).sp = s.sp := rfl
@[simp] theorem State.ob'_me (s : State) (f : ObjectsPart → ObjectsPart) : (s.ob' f).me = s.me := rfl
@[simp] theorem State.ob'_cl (s : State) (f : ObjectsPart → ObjectsPart) : (s.ob' f).cl = s.cl := rfl
@[simp] theorem State.ob'_hv (s : State) (f : ObjectsPart → ObjectsPart) : (s.ob' f).hv = s.hv := rfl
@[simp] theorem State.ob'_nv (s : State) (f : ObjectsPart → ObjectsPart) : (s.ob' f).nv = s.nv := rfl
@[simp] theorem State.ob'_ob (s : State) (f : ObjectsPart → ObjectsPart) : (s.ob' f).ob = f s.ob := rfl
@[simp] theorem State.ob'_fg (s : State) (f : ObjectsPart → ObjectsPart) : (s.ob' f).fg = s.fg := rfl
@[simp] theorem State.ob'_rp (s : State) (f : ObjectsPart → ObjectsPart) : (s.ob' f).rp = s.rp := rfl
@[simp] theorem State.ob'_pr (s : State) (f : ObjectsPart → ObjectsPart) : (s.ob' f).pr = s.pr := rfl
@[simp] theorem State.ob'_co (s : State) (f : ObjectsPart → ObjectsPart) : (s.ob' f).co = s.co := rfl
@[simp] theorem State.ob'_bt (s : State) (f : ObjectsPart → ObjectsPart) : (s.ob' f).bt = s.bt := rfl
@[simp] theorem State.ob'_up (s : State) (f : ObjectsPart → ObjectsPart) : (s.ob' f).up = s.up := rfl
@[simp] theorem State.ob'_se (s : State) (f : ObjectsPart → ObjectsPart) : (s.ob' f).se = s.se := rfl
@[simp] theorem State.ob'_ks (s : State) (f : ObjectsPart → ObjectsPart) : (s.ob' f).ks = s.ks := rfl
@[simp] theorem State.ob'_fl (s : State) (f : ObjectsPart → ObjectsPart) : (s.ob' f).fl = s.fl := rfl
@[simp] theorem State.ob'_flNext (s : State) (f : ObjectsPart → ObjectsPart) : (s.ob' f).flNext = s.flNext := rfl
@[simp] theorem State.ob'_flOld (s : State) (f : ObjectsPart → ObjectsPart) : (s.ob' f).flOld = s.flOld := rfl
@[simp] theorem State.ob'_free (s : State) (f : ObjectsPart → ObjectsPart) : (s.ob' f).free = s.free := rfl
@[simp] theorem State.ob'_out (s : State) (f : ObjectsPart → ObjectsPart) : (s.ob' f).out = s.out := rfl
@[simp] theorem State.ob'_pending (s : State) (f : ObjectsPart → ObjectsPart) : (s.ob' f).pending = s.pending := rfl

/-! ## Updates of `fg` -/

@[simp] theorem State.fg'_vk (s : State) (f : ForagePart → ForagePart) : (s.fg' f).vk = s.vk := rfl
@[simp] theorem State.fg'_md (s : State) (f : ForagePart → ForagePart) : (s.fg' f).md = s.md := rfl
@[simp] theorem State.fg'_ck (s : State) (f : ForagePart → ForagePart) : (s.fg' f).ck = s.ck := rfl
@[simp] theorem State.fg'_pw (s : State) (f : ForagePart → ForagePart) : (s.fg' f).pw = s.pw := rfl
@[simp] theorem State.fg'_sb (s : State) (f : ForagePart → ForagePart) : (s.fg' f).sb = s.sb := rfl
@[simp] theorem State.fg'_ev (s : State) (f : ForagePart → ForagePart) : (s.fg' f).ev = s.ev := rfl
@[simp] theorem State.fg'_ct (s : State) (f : ForagePart → ForagePart) : (s.fg' f).ct = s.ct := rfl
@[simp] theorem State.fg'_wx (s : State) (f : ForagePart → ForagePart) : (s.fg' f).wx = s.wx := rfl
@[simp] theorem State.fg'_dr (s : State) (f : ForagePart → ForagePart) : (s.fg' f).dr = s.dr := rfl
@[simp] theorem State.fg'_mc (s : State) (f : ForagePart → ForagePart) : (s.fg' f).mc = s.mc := rfl
@[simp] theorem State.fg'_rd (s : State) (f : ForagePart → ForagePart) : (s.fg' f).rd = s.rd := rfl
@[simp] theorem State.fg'_vo (s : State) (f : ForagePart → ForagePart) : (s.fg' f).vo = s.vo := rfl
@[simp] theorem State.fg'_sp (s : State) (f : ForagePart → ForagePart) : (s.fg' f).sp = s.sp := rfl
@[simp] theorem State.fg'_me (s : State) (f : ForagePart → ForagePart) : (s.fg' f).me = s.me := rfl
@[simp] theorem State.fg'_cl (s : State) (f : ForagePart → ForagePart) : (s.fg' f).cl = s.cl := rfl
@[simp] theorem State.fg'_hv (s : State) (f : ForagePart → ForagePart) : (s.fg' f).hv = s.hv := rfl
@[simp] theorem State.fg'_nv (s : State) (f : ForagePart → ForagePart) : (s.fg' f).nv = s.nv := rfl
@[simp] theorem State.fg'_ob (s : State) (f : ForagePart → ForagePart) : (s.fg' f).ob = s.ob := rfl
@[simp] theorem State.fg'_fg (s : State) (f : ForagePart → ForagePart) : (s.fg' f).fg = f s.fg := rfl
@[simp] theorem State.fg'_rp (s : State) (f : ForagePart → ForagePart) : (s.fg' f).rp = s.rp := rfl
@[simp] theorem State.fg'_pr (s : State) (f : ForagePart → ForagePart) : (s.fg' f).pr = s.pr := rfl
@[simp] theorem State.fg'_co (s : State) (f : ForagePart → ForagePart) : (s.fg' f).co = s.co := rfl
@[simp] theorem State.fg'_bt (s : State) (f : ForagePart → ForagePart) : (s.fg' f).bt = s.bt := rfl
@[simp] theorem State.fg'_up (s : State) (f : ForagePart → ForagePart) : (s.fg' f).up = s.up := rfl
@[simp] theorem State.fg'_se (s : State) (f : ForagePart → ForagePart) : (s.fg' f).se = s.se := rfl
@[simp] theorem State.fg'_ks (s : State) (f : ForagePart → ForagePart) : (s.fg' f).ks = s.ks := rfl
@[simp] theorem State.fg'_fl (s : State) (f : ForagePart → ForagePart) : (s.fg' f).fl = s.fl := rfl
@[simp] theorem State.fg'_flNext (s : State) (f : ForagePart → ForagePart) : (s.fg' f).flNext = s.flNext := rfl
@[simp] theorem State.fg'_flOld (s : State) (f : ForagePart → ForagePart) : (s.fg' f).flOld = s.flOld := rfl
@[simp] theorem State.fg'_free (s : State) (f : ForagePart → ForagePart) : (s.fg' f).free = s.free := rfl
@[simp] theorem State.fg'_out (s : State) (f : ForagePart → ForagePart) : (s.fg' f).out = s.out := rfl
@[simp] theorem State.fg'_pending (s : State) (f : ForagePart → ForagePart) : (s.fg' f).pending = s.pending := rfl

/-! ## Updates of `rp` -/

@[simp] theorem State.rp'_vk (s : State) (f : ReplPart → ReplPart) : (s.rp' f).vk = s.vk := rfl
@[simp] theorem State.rp'_md (s : State) (f : ReplPart → ReplPart) : (s.rp' f).md = s.md := rfl
@[simp] theorem State.rp'_ck (s : State) (f : ReplPart → ReplPart) : (s.rp' f).ck = s.ck := rfl
@[simp] theorem State.rp'_pw (s : State) (f : ReplPart → ReplPart) : (s.rp' f).pw = s.pw := rfl
@[simp] theorem State.rp'_sb (s : State) (f : ReplPart → ReplPart) : (s.rp' f).sb = s.sb := rfl
@[simp] theorem State.rp'_ev (s : State) (f : ReplPart → ReplPart) : (s.rp' f).ev = s.ev := rfl
@[simp] theorem State.rp'_ct (s : State) (f : ReplPart → ReplPart) : (s.rp' f).ct = s.ct := rfl
@[simp] theorem State.rp'_wx (s : State) (f : ReplPart → ReplPart) : (s.rp' f).wx = s.wx := rfl
@[simp] theorem State.rp'_dr (s : State) (f : ReplPart → ReplPart) : (s.rp' f).dr = s.dr := rfl
@[simp] theorem State.rp'_mc (s : State) (f : ReplPart → ReplPart) : (s.rp' f).mc = s.mc := rfl
@[simp] theorem State.rp'_rd (s : State) (f : ReplPart → ReplPart) : (s.rp' f).rd = s.rd := rfl
@[simp] theorem State.rp'_vo (s : State) (f : ReplPart → ReplPart) : (s.rp' f).vo = s.vo := rfl
@[simp] theorem State.rp'_sp (s : State) (f : ReplPart → ReplPart) : (s.rp' f).sp = s.sp := rfl
@[simp] theorem State.rp'_me (s : State) (f : ReplPart → ReplPart) : (s.rp' f).me = s.me := rfl
@[simp] theorem State.rp'_cl (s : State) (f : ReplPart → ReplPart) : (s.rp' f).cl = s.cl := rfl
@[simp] theorem State.rp'_hv (s : State) (f : ReplPart → ReplPart) : (s.rp' f).hv = s.hv := rfl
@[simp] theorem State.rp'_nv (s : State) (f : ReplPart → ReplPart) : (s.rp' f).nv = s.nv := rfl
@[simp] theorem State.rp'_ob (s : State) (f : ReplPart → ReplPart) : (s.rp' f).ob = s.ob := rfl
@[simp] theorem State.rp'_fg (s : State) (f : ReplPart → ReplPart) : (s.rp' f).fg = s.fg := rfl
@[simp] theorem State.rp'_rp (s : State) (f : ReplPart → ReplPart) : (s.rp' f).rp = f s.rp := rfl
@[simp] theorem State.rp'_pr (s : State) (f : ReplPart → ReplPart) : (s.rp' f).pr = s.pr := rfl
@[simp] theorem State.rp'_co (s : State) (f : ReplPart → ReplPart) : (s.rp' f).co = s.co := rfl
@[simp] theorem State.rp'_bt (s : State) (f : ReplPart → ReplPart) : (s.rp' f).bt = s.bt := rfl
@[simp] theorem State.rp'_up (s : State) (f : ReplPart → ReplPart) : (s.rp' f).up = s.up := rfl
@[simp] theorem State.rp'_se (s : State) (f : ReplPart → ReplPart) : (s.rp' f).se = s.se := rfl
@[simp] theorem State.rp'_ks (s : State) (f : ReplPart → ReplPart) : (s.rp' f).ks = s.ks := rfl
@[simp] theorem State.rp'_fl (s : State) (f : ReplPart → ReplPart) : (s.rp' f).fl = s.fl := rfl
@[simp] theorem State.rp'_flNext (s : State) (f : ReplPart → ReplPart) : (s.rp' f).flNext = s.flNext := rfl
@[simp] theorem State.rp'_flOld (s : State) (f : ReplPart → ReplPart) : (s.rp' f).flOld = s.flOld := rfl
@[simp] theorem State.rp'_free (s : State) (f : ReplPart → ReplPart) : (s.rp' f).free = s.free := rfl
@[simp] theorem State.rp'_out (s : State) (f : ReplPart → ReplPart) : (s.rp' f).out = s.out := rfl
@[simp] theorem State.rp'_pending (s : State) (f : ReplPart → ReplPart) : (s.rp' f).pending = s.pending := rfl

/-! ## Updates of `pr` -/

@[simp] theorem State.pr'_vk (s : State) (f : PairPart → PairPart) : (s.pr' f).vk = s.vk := rfl
@[simp] theorem State.pr'_md (s : State) (f : PairPart → PairPart) : (s.pr' f).md = s.md := rfl
@[simp] theorem State.pr'_ck (s : State) (f : PairPart → PairPart) : (s.pr' f).ck = s.ck := rfl
@[simp] theorem State.pr'_pw (s : State) (f : PairPart → PairPart) : (s.pr' f).pw = s.pw := rfl
@[simp] theorem State.pr'_sb (s : State) (f : PairPart → PairPart) : (s.pr' f).sb = s.sb := rfl
@[simp] theorem State.pr'_ev (s : State) (f : PairPart → PairPart) : (s.pr' f).ev = s.ev := rfl
@[simp] theorem State.pr'_ct (s : State) (f : PairPart → PairPart) : (s.pr' f).ct = s.ct := rfl
@[simp] theorem State.pr'_wx (s : State) (f : PairPart → PairPart) : (s.pr' f).wx = s.wx := rfl
@[simp] theorem State.pr'_dr (s : State) (f : PairPart → PairPart) : (s.pr' f).dr = s.dr := rfl
@[simp] theorem State.pr'_mc (s : State) (f : PairPart → PairPart) : (s.pr' f).mc = s.mc := rfl
@[simp] theorem State.pr'_rd (s : State) (f : PairPart → PairPart) : (s.pr' f).rd = s.rd := rfl
@[simp] theorem State.pr'_vo (s : State) (f : PairPart → PairPart) : (s.pr' f).vo = s.vo := rfl
@[simp] theorem State.pr'_sp (s : State) (f : PairPart → PairPart) : (s.pr' f).sp = s.sp := rfl
@[simp] theorem State.pr'_me (s : State) (f : PairPart → PairPart) : (s.pr' f).me = s.me := rfl
@[simp] theorem State.pr'_cl (s : State) (f : PairPart → PairPart) : (s.pr' f).cl = s.cl := rfl
@[simp] theorem State.pr'_hv (s : State) (f : PairPart → PairPart) : (s.pr' f).hv = s.hv := rfl
@[simp] theorem State.pr'_nv (s : State) (f : PairPart → PairPart) : (s.pr' f).nv = s.nv := rfl
@[simp] theorem State.pr'_ob (s : State) (f : PairPart → PairPart) : (s.pr' f).ob = s.ob := rfl
@[simp] theorem State.pr'_fg (s : State) (f : PairPart → PairPart) : (s.pr' f).fg = s.fg := rfl
@[simp] theorem State.pr'_rp (s : State) (f : PairPart → PairPart) : (s.pr' f).rp = s.rp := rfl
@[simp] theorem State.pr'_pr (s : State) (f : PairPart → PairPart) : (s.pr' f).pr = f s.pr := rfl
@[simp] theorem State.pr'_co (s : State) (f : PairPart → PairPart) : (s.pr' f).co = s.co := rfl
@[simp] theorem State.pr'_bt (s : State) (f : PairPart → PairPart) : (s.pr' f).bt = s.bt := rfl
@[simp] theorem State.pr'_up (s : State) (f : PairPart → PairPart) : (s.pr' f).up = s.up := rfl
@[simp] theorem State.pr'_se (s : State) (f : PairPart → PairPart) : (s.pr' f).se = s.se := rfl
@[simp] theorem State.pr'_ks (s : State) (f : PairPart → PairPart) : (s.pr' f).ks = s.ks := rfl
@[simp] theorem State.pr'_fl (s : State) (f : PairPart → PairPart) : (s.pr' f).fl = s.fl := rfl
@[simp] theorem State.pr'_flNext (s : State) (f : PairPart → PairPart) : (s.pr' f).flNext = s.flNext := rfl
@[simp] theorem State.pr'_flOld (s : State) (f : PairPart → PairPart) : (s.pr' f).flOld = s.flOld := rfl
@[simp] theorem State.pr'_free (s : State) (f : PairPart → PairPart) : (s.pr' f).free = s.free := rfl
@[simp] theorem State.pr'_out (s : State) (f : PairPart → PairPart) : (s.pr' f).out = s.out := rfl
@[simp] theorem State.pr'_pending (s : State) (f : PairPart → PairPart) : (s.pr' f).pending = s.pending := rfl

/-! ## Updates of `co` -/

@[simp] theorem State.co'_vk (s : State) (f : ColonyPart → ColonyPart) : (s.co' f).vk = s.vk := rfl
@[simp] theorem State.co'_md (s : State) (f : ColonyPart → ColonyPart) : (s.co' f).md = s.md := rfl
@[simp] theorem State.co'_ck (s : State) (f : ColonyPart → ColonyPart) : (s.co' f).ck = s.ck := rfl
@[simp] theorem State.co'_pw (s : State) (f : ColonyPart → ColonyPart) : (s.co' f).pw = s.pw := rfl
@[simp] theorem State.co'_sb (s : State) (f : ColonyPart → ColonyPart) : (s.co' f).sb = s.sb := rfl
@[simp] theorem State.co'_ev (s : State) (f : ColonyPart → ColonyPart) : (s.co' f).ev = s.ev := rfl
@[simp] theorem State.co'_ct (s : State) (f : ColonyPart → ColonyPart) : (s.co' f).ct = s.ct := rfl
@[simp] theorem State.co'_wx (s : State) (f : ColonyPart → ColonyPart) : (s.co' f).wx = s.wx := rfl
@[simp] theorem State.co'_dr (s : State) (f : ColonyPart → ColonyPart) : (s.co' f).dr = s.dr := rfl
@[simp] theorem State.co'_mc (s : State) (f : ColonyPart → ColonyPart) : (s.co' f).mc = s.mc := rfl
@[simp] theorem State.co'_rd (s : State) (f : ColonyPart → ColonyPart) : (s.co' f).rd = s.rd := rfl
@[simp] theorem State.co'_vo (s : State) (f : ColonyPart → ColonyPart) : (s.co' f).vo = s.vo := rfl
@[simp] theorem State.co'_sp (s : State) (f : ColonyPart → ColonyPart) : (s.co' f).sp = s.sp := rfl
@[simp] theorem State.co'_me (s : State) (f : ColonyPart → ColonyPart) : (s.co' f).me = s.me := rfl
@[simp] theorem State.co'_cl (s : State) (f : ColonyPart → ColonyPart) : (s.co' f).cl = s.cl := rfl
@[simp] theorem State.co'_hv (s : State) (f : ColonyPart → ColonyPart) : (s.co' f).hv = s.hv := rfl
@[simp] theorem State.co'_nv (s : State) (f : ColonyPart → ColonyPart) : (s.co' f).nv = s.nv := rfl
@[simp] theorem State.co'_ob (s : State) (f : ColonyPart → ColonyPart) : (s.co' f).ob = s.ob := rfl
@[simp] theorem State.co'_fg (s : State) (f : ColonyPart → ColonyPart) : (s.co' f).fg = s.fg := rfl
@[simp] theorem State.co'_rp (s : State) (f : ColonyPart → ColonyPart) : (s.co' f).rp = s.rp := rfl
@[simp] theorem State.co'_pr (s : State) (f : ColonyPart → ColonyPart) : (s.co' f).pr = s.pr := rfl
@[simp] theorem State.co'_co (s : State) (f : ColonyPart → ColonyPart) : (s.co' f).co = f s.co := rfl
@[simp] theorem State.co'_bt (s : State) (f : ColonyPart → ColonyPart) : (s.co' f).bt = s.bt := rfl
@[simp] theorem State.co'_up (s : State) (f : ColonyPart → ColonyPart) : (s.co' f).up = s.up := rfl
@[simp] theorem State.co'_se (s : State) (f : ColonyPart → ColonyPart) : (s.co' f).se = s.se := rfl
@[simp] theorem State.co'_ks (s : State) (f : ColonyPart → ColonyPart) : (s.co' f).ks = s.ks := rfl
@[simp] theorem State.co'_fl (s : State) (f : ColonyPart → ColonyPart) : (s.co' f).fl = s.fl := rfl
@[simp] theorem State.co'_flNext (s : State) (f : ColonyPart → ColonyPart) : (s.co' f).flNext = s.flNext := rfl
@[simp] theorem State.co'_flOld (s : State) (f : ColonyPart → ColonyPart) : (s.co' f).flOld = s.flOld := rfl
@[simp] theorem State.co'_free (s : State) (f : ColonyPart → ColonyPart) : (s.co' f).free = s.free := rfl
@[simp] theorem State.co'_out (s : State) (f : ColonyPart → ColonyPart) : (s.co' f).out = s.out := rfl
@[simp] theorem State.co'_pending (s : State) (f : ColonyPart → ColonyPart) : (s.co' f).pending = s.pending := rfl

/-! ## Updates of `bt` -/

@[simp] theorem State.bt'_vk (s : State) (f : BootPart → BootPart) : (s.bt' f).vk = s.vk := rfl
@[simp] theorem State.bt'_md (s : State) (f : BootPart → BootPart) : (s.bt' f).md = s.md := rfl
@[simp] theorem State.bt'_ck (s : State) (f : BootPart → BootPart) : (s.bt' f).ck = s.ck := rfl
@[simp] theorem State.bt'_pw (s : State) (f : BootPart → BootPart) : (s.bt' f).pw = s.pw := rfl
@[simp] theorem State.bt'_sb (s : State) (f : BootPart → BootPart) : (s.bt' f).sb = s.sb := rfl
@[simp] theorem State.bt'_ev (s : State) (f : BootPart → BootPart) : (s.bt' f).ev = s.ev := rfl
@[simp] theorem State.bt'_ct (s : State) (f : BootPart → BootPart) : (s.bt' f).ct = s.ct := rfl
@[simp] theorem State.bt'_wx (s : State) (f : BootPart → BootPart) : (s.bt' f).wx = s.wx := rfl
@[simp] theorem State.bt'_dr (s : State) (f : BootPart → BootPart) : (s.bt' f).dr = s.dr := rfl
@[simp] theorem State.bt'_mc (s : State) (f : BootPart → BootPart) : (s.bt' f).mc = s.mc := rfl
@[simp] theorem State.bt'_rd (s : State) (f : BootPart → BootPart) : (s.bt' f).rd = s.rd := rfl
@[simp] theorem State.bt'_vo (s : State) (f : BootPart → BootPart) : (s.bt' f).vo = s.vo := rfl
@[simp] theorem State.bt'_sp (s : State) (f : BootPart → BootPart) : (s.bt' f).sp = s.sp := rfl
@[simp] theorem State.bt'_me (s : State) (f : BootPart → BootPart) : (s.bt' f).me = s.me := rfl
@[simp] theorem State.bt'_cl (s : State) (f : BootPart → BootPart) : (s.bt' f).cl = s.cl := rfl
@[simp] theorem State.bt'_hv (s : State) (f : BootPart → BootPart) : (s.bt' f).hv = s.hv := rfl
@[simp] theorem State.bt'_nv (s : State) (f : BootPart → BootPart) : (s.bt' f).nv = s.nv := rfl
@[simp] theorem State.bt'_ob (s : State) (f : BootPart → BootPart) : (s.bt' f).ob = s.ob := rfl
@[simp] theorem State.bt'_fg (s : State) (f : BootPart → BootPart) : (s.bt' f).fg = s.fg := rfl
@[simp] theorem State.bt'_rp (s : State) (f : BootPart → BootPart) : (s.bt' f).rp = s.rp := rfl
@[simp] theorem State.bt'_pr (s : State) (f : BootPart → BootPart) : (s.bt' f).pr = s.pr := rfl
@[simp] theorem State.bt'_co (s : State) (f : BootPart → BootPart) : (s.bt' f).co = s.co := rfl
@[simp] theorem State.bt'_bt (s : State) (f : BootPart → BootPart) : (s.bt' f).bt = f s.bt := rfl
@[simp] theorem State.bt'_up (s : State) (f : BootPart → BootPart) : (s.bt' f).up = s.up := rfl
@[simp] theorem State.bt'_se (s : State) (f : BootPart → BootPart) : (s.bt' f).se = s.se := rfl
@[simp] theorem State.bt'_ks (s : State) (f : BootPart → BootPart) : (s.bt' f).ks = s.ks := rfl
@[simp] theorem State.bt'_fl (s : State) (f : BootPart → BootPart) : (s.bt' f).fl = s.fl := rfl
@[simp] theorem State.bt'_flNext (s : State) (f : BootPart → BootPart) : (s.bt' f).flNext = s.flNext := rfl
@[simp] theorem State.bt'_flOld (s : State) (f : BootPart → BootPart) : (s.bt' f).flOld = s.flOld := rfl
@[simp] theorem State.bt'_free (s : State) (f : BootPart → BootPart) : (s.bt' f).free = s.free := rfl
@[simp] theorem State.bt'_out (s : State) (f : BootPart → BootPart) : (s.bt' f).out = s.out := rfl
@[simp] theorem State.bt'_pending (s : State) (f : BootPart → BootPart) : (s.bt' f).pending = s.pending := rfl

/-! ## Updates of `up` -/

@[simp] theorem State.up'_vk (s : State) (f : UpdPart → UpdPart) : (s.up' f).vk = s.vk := rfl
@[simp] theorem State.up'_md (s : State) (f : UpdPart → UpdPart) : (s.up' f).md = s.md := rfl
@[simp] theorem State.up'_ck (s : State) (f : UpdPart → UpdPart) : (s.up' f).ck = s.ck := rfl
@[simp] theorem State.up'_pw (s : State) (f : UpdPart → UpdPart) : (s.up' f).pw = s.pw := rfl
@[simp] theorem State.up'_sb (s : State) (f : UpdPart → UpdPart) : (s.up' f).sb = s.sb := rfl
@[simp] theorem State.up'_ev (s : State) (f : UpdPart → UpdPart) : (s.up' f).ev = s.ev := rfl
@[simp] theorem State.up'_ct (s : State) (f : UpdPart → UpdPart) : (s.up' f).ct = s.ct := rfl
@[simp] theorem State.up'_wx (s : State) (f : UpdPart → UpdPart) : (s.up' f).wx = s.wx := rfl
@[simp] theorem State.up'_dr (s : State) (f : UpdPart → UpdPart) : (s.up' f).dr = s.dr := rfl
@[simp] theorem State.up'_mc (s : State) (f : UpdPart → UpdPart) : (s.up' f).mc = s.mc := rfl
@[simp] theorem State.up'_rd (s : State) (f : UpdPart → UpdPart) : (s.up' f).rd = s.rd := rfl
@[simp] theorem State.up'_vo (s : State) (f : UpdPart → UpdPart) : (s.up' f).vo = s.vo := rfl
@[simp] theorem State.up'_sp (s : State) (f : UpdPart → UpdPart) : (s.up' f).sp = s.sp := rfl
@[simp] theorem State.up'_me (s : State) (f : UpdPart → UpdPart) : (s.up' f).me = s.me := rfl
@[simp] theorem State.up'_cl (s : State) (f : UpdPart → UpdPart) : (s.up' f).cl = s.cl := rfl
@[simp] theorem State.up'_hv (s : State) (f : UpdPart → UpdPart) : (s.up' f).hv = s.hv := rfl
@[simp] theorem State.up'_nv (s : State) (f : UpdPart → UpdPart) : (s.up' f).nv = s.nv := rfl
@[simp] theorem State.up'_ob (s : State) (f : UpdPart → UpdPart) : (s.up' f).ob = s.ob := rfl
@[simp] theorem State.up'_fg (s : State) (f : UpdPart → UpdPart) : (s.up' f).fg = s.fg := rfl
@[simp] theorem State.up'_rp (s : State) (f : UpdPart → UpdPart) : (s.up' f).rp = s.rp := rfl
@[simp] theorem State.up'_pr (s : State) (f : UpdPart → UpdPart) : (s.up' f).pr = s.pr := rfl
@[simp] theorem State.up'_co (s : State) (f : UpdPart → UpdPart) : (s.up' f).co = s.co := rfl
@[simp] theorem State.up'_bt (s : State) (f : UpdPart → UpdPart) : (s.up' f).bt = s.bt := rfl
@[simp] theorem State.up'_up (s : State) (f : UpdPart → UpdPart) : (s.up' f).up = f s.up := rfl
@[simp] theorem State.up'_se (s : State) (f : UpdPart → UpdPart) : (s.up' f).se = s.se := rfl
@[simp] theorem State.up'_ks (s : State) (f : UpdPart → UpdPart) : (s.up' f).ks = s.ks := rfl
@[simp] theorem State.up'_fl (s : State) (f : UpdPart → UpdPart) : (s.up' f).fl = s.fl := rfl
@[simp] theorem State.up'_flNext (s : State) (f : UpdPart → UpdPart) : (s.up' f).flNext = s.flNext := rfl
@[simp] theorem State.up'_flOld (s : State) (f : UpdPart → UpdPart) : (s.up' f).flOld = s.flOld := rfl
@[simp] theorem State.up'_free (s : State) (f : UpdPart → UpdPart) : (s.up' f).free = s.free := rfl
@[simp] theorem State.up'_out (s : State) (f : UpdPart → UpdPart) : (s.up' f).out = s.out := rfl
@[simp] theorem State.up'_pending (s : State) (f : UpdPart → UpdPart) : (s.up' f).pending = s.pending := rfl

/-! ## Updates of `se` -/

@[simp] theorem State.se'_vk (s : State) (f : SealPart → SealPart) : (s.se' f).vk = s.vk := rfl
@[simp] theorem State.se'_md (s : State) (f : SealPart → SealPart) : (s.se' f).md = s.md := rfl
@[simp] theorem State.se'_ck (s : State) (f : SealPart → SealPart) : (s.se' f).ck = s.ck := rfl
@[simp] theorem State.se'_pw (s : State) (f : SealPart → SealPart) : (s.se' f).pw = s.pw := rfl
@[simp] theorem State.se'_sb (s : State) (f : SealPart → SealPart) : (s.se' f).sb = s.sb := rfl
@[simp] theorem State.se'_ev (s : State) (f : SealPart → SealPart) : (s.se' f).ev = s.ev := rfl
@[simp] theorem State.se'_ct (s : State) (f : SealPart → SealPart) : (s.se' f).ct = s.ct := rfl
@[simp] theorem State.se'_wx (s : State) (f : SealPart → SealPart) : (s.se' f).wx = s.wx := rfl
@[simp] theorem State.se'_dr (s : State) (f : SealPart → SealPart) : (s.se' f).dr = s.dr := rfl
@[simp] theorem State.se'_mc (s : State) (f : SealPart → SealPart) : (s.se' f).mc = s.mc := rfl
@[simp] theorem State.se'_rd (s : State) (f : SealPart → SealPart) : (s.se' f).rd = s.rd := rfl
@[simp] theorem State.se'_vo (s : State) (f : SealPart → SealPart) : (s.se' f).vo = s.vo := rfl
@[simp] theorem State.se'_sp (s : State) (f : SealPart → SealPart) : (s.se' f).sp = s.sp := rfl
@[simp] theorem State.se'_me (s : State) (f : SealPart → SealPart) : (s.se' f).me = s.me := rfl
@[simp] theorem State.se'_cl (s : State) (f : SealPart → SealPart) : (s.se' f).cl = s.cl := rfl
@[simp] theorem State.se'_hv (s : State) (f : SealPart → SealPart) : (s.se' f).hv = s.hv := rfl
@[simp] theorem State.se'_nv (s : State) (f : SealPart → SealPart) : (s.se' f).nv = s.nv := rfl
@[simp] theorem State.se'_ob (s : State) (f : SealPart → SealPart) : (s.se' f).ob = s.ob := rfl
@[simp] theorem State.se'_fg (s : State) (f : SealPart → SealPart) : (s.se' f).fg = s.fg := rfl
@[simp] theorem State.se'_rp (s : State) (f : SealPart → SealPart) : (s.se' f).rp = s.rp := rfl
@[simp] theorem State.se'_pr (s : State) (f : SealPart → SealPart) : (s.se' f).pr = s.pr := rfl
@[simp] theorem State.se'_co (s : State) (f : SealPart → SealPart) : (s.se' f).co = s.co := rfl
@[simp] theorem State.se'_bt (s : State) (f : SealPart → SealPart) : (s.se' f).bt = s.bt := rfl
@[simp] theorem State.se'_up (s : State) (f : SealPart → SealPart) : (s.se' f).up = s.up := rfl
@[simp] theorem State.se'_se (s : State) (f : SealPart → SealPart) : (s.se' f).se = f s.se := rfl
@[simp] theorem State.se'_ks (s : State) (f : SealPart → SealPart) : (s.se' f).ks = s.ks := rfl
@[simp] theorem State.se'_fl (s : State) (f : SealPart → SealPart) : (s.se' f).fl = s.fl := rfl
@[simp] theorem State.se'_flNext (s : State) (f : SealPart → SealPart) : (s.se' f).flNext = s.flNext := rfl
@[simp] theorem State.se'_flOld (s : State) (f : SealPart → SealPart) : (s.se' f).flOld = s.flOld := rfl
@[simp] theorem State.se'_free (s : State) (f : SealPart → SealPart) : (s.se' f).free = s.free := rfl
@[simp] theorem State.se'_out (s : State) (f : SealPart → SealPart) : (s.se' f).out = s.out := rfl
@[simp] theorem State.se'_pending (s : State) (f : SealPart → SealPart) : (s.se' f).pending = s.pending := rfl

/-! ## Updates of `ks` -/

@[simp] theorem State.ks'_vk (s : State) (f : KeysPart → KeysPart) : (s.ks' f).vk = s.vk := rfl
@[simp] theorem State.ks'_md (s : State) (f : KeysPart → KeysPart) : (s.ks' f).md = s.md := rfl
@[simp] theorem State.ks'_ck (s : State) (f : KeysPart → KeysPart) : (s.ks' f).ck = s.ck := rfl
@[simp] theorem State.ks'_pw (s : State) (f : KeysPart → KeysPart) : (s.ks' f).pw = s.pw := rfl
@[simp] theorem State.ks'_sb (s : State) (f : KeysPart → KeysPart) : (s.ks' f).sb = s.sb := rfl
@[simp] theorem State.ks'_ev (s : State) (f : KeysPart → KeysPart) : (s.ks' f).ev = s.ev := rfl
@[simp] theorem State.ks'_ct (s : State) (f : KeysPart → KeysPart) : (s.ks' f).ct = s.ct := rfl
@[simp] theorem State.ks'_wx (s : State) (f : KeysPart → KeysPart) : (s.ks' f).wx = s.wx := rfl
@[simp] theorem State.ks'_dr (s : State) (f : KeysPart → KeysPart) : (s.ks' f).dr = s.dr := rfl
@[simp] theorem State.ks'_mc (s : State) (f : KeysPart → KeysPart) : (s.ks' f).mc = s.mc := rfl
@[simp] theorem State.ks'_rd (s : State) (f : KeysPart → KeysPart) : (s.ks' f).rd = s.rd := rfl
@[simp] theorem State.ks'_vo (s : State) (f : KeysPart → KeysPart) : (s.ks' f).vo = s.vo := rfl
@[simp] theorem State.ks'_sp (s : State) (f : KeysPart → KeysPart) : (s.ks' f).sp = s.sp := rfl
@[simp] theorem State.ks'_me (s : State) (f : KeysPart → KeysPart) : (s.ks' f).me = s.me := rfl
@[simp] theorem State.ks'_cl (s : State) (f : KeysPart → KeysPart) : (s.ks' f).cl = s.cl := rfl
@[simp] theorem State.ks'_hv (s : State) (f : KeysPart → KeysPart) : (s.ks' f).hv = s.hv := rfl
@[simp] theorem State.ks'_nv (s : State) (f : KeysPart → KeysPart) : (s.ks' f).nv = s.nv := rfl
@[simp] theorem State.ks'_ob (s : State) (f : KeysPart → KeysPart) : (s.ks' f).ob = s.ob := rfl
@[simp] theorem State.ks'_fg (s : State) (f : KeysPart → KeysPart) : (s.ks' f).fg = s.fg := rfl
@[simp] theorem State.ks'_rp (s : State) (f : KeysPart → KeysPart) : (s.ks' f).rp = s.rp := rfl
@[simp] theorem State.ks'_pr (s : State) (f : KeysPart → KeysPart) : (s.ks' f).pr = s.pr := rfl
@[simp] theorem State.ks'_co (s : State) (f : KeysPart → KeysPart) : (s.ks' f).co = s.co := rfl
@[simp] theorem State.ks'_bt (s : State) (f : KeysPart → KeysPart) : (s.ks' f).bt = s.bt := rfl
@[simp] theorem State.ks'_up (s : State) (f : KeysPart → KeysPart) : (s.ks' f).up = s.up := rfl
@[simp] theorem State.ks'_se (s : State) (f : KeysPart → KeysPart) : (s.ks' f).se = s.se := rfl
@[simp] theorem State.ks'_ks (s : State) (f : KeysPart → KeysPart) : (s.ks' f).ks = f s.ks := rfl
@[simp] theorem State.ks'_fl (s : State) (f : KeysPart → KeysPart) : (s.ks' f).fl = s.fl := rfl
@[simp] theorem State.ks'_flNext (s : State) (f : KeysPart → KeysPart) : (s.ks' f).flNext = s.flNext := rfl
@[simp] theorem State.ks'_flOld (s : State) (f : KeysPart → KeysPart) : (s.ks' f).flOld = s.flOld := rfl
@[simp] theorem State.ks'_free (s : State) (f : KeysPart → KeysPart) : (s.ks' f).free = s.free := rfl
@[simp] theorem State.ks'_out (s : State) (f : KeysPart → KeysPart) : (s.ks' f).out = s.out := rfl
@[simp] theorem State.ks'_pending (s : State) (f : KeysPart → KeysPart) : (s.ks' f).pending = s.pending := rfl

/-! ## send -/

@[simp] theorem State.send_vk (s : State) (x : Out) : (s.send x).vk = s.vk := rfl
@[simp] theorem State.send_md (s : State) (x : Out) : (s.send x).md = s.md := rfl
@[simp] theorem State.send_ck (s : State) (x : Out) : (s.send x).ck = s.ck := rfl
@[simp] theorem State.send_pw (s : State) (x : Out) : (s.send x).pw = s.pw := rfl
@[simp] theorem State.send_sb (s : State) (x : Out) : (s.send x).sb = s.sb := rfl
@[simp] theorem State.send_ev (s : State) (x : Out) : (s.send x).ev = s.ev := rfl
@[simp] theorem State.send_ct (s : State) (x : Out) : (s.send x).ct = s.ct := rfl
@[simp] theorem State.send_wx (s : State) (x : Out) : (s.send x).wx = s.wx := rfl
@[simp] theorem State.send_dr (s : State) (x : Out) : (s.send x).dr = s.dr := rfl
@[simp] theorem State.send_mc (s : State) (x : Out) : (s.send x).mc = s.mc := rfl
@[simp] theorem State.send_rd (s : State) (x : Out) : (s.send x).rd = s.rd := rfl
@[simp] theorem State.send_vo (s : State) (x : Out) : (s.send x).vo = s.vo := rfl
@[simp] theorem State.send_sp (s : State) (x : Out) : (s.send x).sp = s.sp := rfl
@[simp] theorem State.send_me (s : State) (x : Out) : (s.send x).me = s.me := rfl
@[simp] theorem State.send_cl (s : State) (x : Out) : (s.send x).cl = s.cl := rfl
@[simp] theorem State.send_hv (s : State) (x : Out) : (s.send x).hv = s.hv := rfl
@[simp] theorem State.send_nv (s : State) (x : Out) : (s.send x).nv = s.nv := rfl
@[simp] theorem State.send_ob (s : State) (x : Out) : (s.send x).ob = s.ob := rfl
@[simp] theorem State.send_fg (s : State) (x : Out) : (s.send x).fg = s.fg := rfl
@[simp] theorem State.send_rp (s : State) (x : Out) : (s.send x).rp = s.rp := rfl
@[simp] theorem State.send_pr (s : State) (x : Out) : (s.send x).pr = s.pr := rfl
@[simp] theorem State.send_co (s : State) (x : Out) : (s.send x).co = s.co := rfl
@[simp] theorem State.send_bt (s : State) (x : Out) : (s.send x).bt = s.bt := rfl
@[simp] theorem State.send_up (s : State) (x : Out) : (s.send x).up = s.up := rfl
@[simp] theorem State.send_se (s : State) (x : Out) : (s.send x).se = s.se := rfl
@[simp] theorem State.send_ks (s : State) (x : Out) : (s.send x).ks = s.ks := rfl
@[simp] theorem State.send_fl (s : State) (x : Out) : (s.send x).fl = s.fl := rfl
@[simp] theorem State.send_flNext (s : State) (x : Out) : (s.send x).flNext = s.flNext := rfl
@[simp] theorem State.send_flOld (s : State) (x : Out) : (s.send x).flOld = s.flOld := rfl
@[simp] theorem State.send_free (s : State) (x : Out) : (s.send x).free = s.free := rfl
@[simp] theorem State.send_pending (s : State) (x : Out) : (s.send x).pending = s.pending := rfl

@[simp] theorem State.send_out (s : State) (x : Out) : (s.send x).out = s.out ++ [x] := rfl

/-! ## afterDraw -/

@[simp] theorem State.afterDraw_vk (s : State) : (s.afterDraw).vk = s.vk := rfl
@[simp] theorem State.afterDraw_md (s : State) : (s.afterDraw).md = s.md := rfl
@[simp] theorem State.afterDraw_ck (s : State) : (s.afterDraw).ck = s.ck := rfl
@[simp] theorem State.afterDraw_pw (s : State) : (s.afterDraw).pw = s.pw := rfl
@[simp] theorem State.afterDraw_sb (s : State) : (s.afterDraw).sb = s.sb := rfl
@[simp] theorem State.afterDraw_ev (s : State) : (s.afterDraw).ev = s.ev := rfl
@[simp] theorem State.afterDraw_ct (s : State) : (s.afterDraw).ct = s.ct := rfl
@[simp] theorem State.afterDraw_wx (s : State) : (s.afterDraw).wx = s.wx := rfl
@[simp] theorem State.afterDraw_dr (s : State) : (s.afterDraw).dr = s.dr := rfl
@[simp] theorem State.afterDraw_mc (s : State) : (s.afterDraw).mc = s.mc := rfl
@[simp] theorem State.afterDraw_rd (s : State) : (s.afterDraw).rd = s.rd := rfl
@[simp] theorem State.afterDraw_vo (s : State) : (s.afterDraw).vo = s.vo := rfl
@[simp] theorem State.afterDraw_sp (s : State) : (s.afterDraw).sp = s.sp := rfl
@[simp] theorem State.afterDraw_me (s : State) : (s.afterDraw).me = s.me := rfl
@[simp] theorem State.afterDraw_cl (s : State) : (s.afterDraw).cl = s.cl := rfl
@[simp] theorem State.afterDraw_hv (s : State) : (s.afterDraw).hv = s.hv := rfl
@[simp] theorem State.afterDraw_nv (s : State) : (s.afterDraw).nv = s.nv := rfl
@[simp] theorem State.afterDraw_ob (s : State) : (s.afterDraw).ob = s.ob := rfl
@[simp] theorem State.afterDraw_fg (s : State) : (s.afterDraw).fg = s.fg := rfl
@[simp] theorem State.afterDraw_rp (s : State) : (s.afterDraw).rp = s.rp := rfl
@[simp] theorem State.afterDraw_pr (s : State) : (s.afterDraw).pr = s.pr := rfl
@[simp] theorem State.afterDraw_co (s : State) : (s.afterDraw).co = s.co := rfl
@[simp] theorem State.afterDraw_bt (s : State) : (s.afterDraw).bt = s.bt := rfl
@[simp] theorem State.afterDraw_up (s : State) : (s.afterDraw).up = s.up := rfl
@[simp] theorem State.afterDraw_se (s : State) : (s.afterDraw).se = s.se := rfl
@[simp] theorem State.afterDraw_ks (s : State) : (s.afterDraw).ks = s.ks := rfl
@[simp] theorem State.afterDraw_fl (s : State) : (s.afterDraw).fl = s.fl := rfl
@[simp] theorem State.afterDraw_flNext (s : State) : (s.afterDraw).flNext = s.flNext := rfl
@[simp] theorem State.afterDraw_flOld (s : State) : (s.afterDraw).flOld = s.flOld := rfl
@[simp] theorem State.afterDraw_out (s : State) : (s.afterDraw).out = s.out := rfl
@[simp] theorem State.afterDraw_pending (s : State) : (s.afterDraw).pending = s.pending := rfl

@[simp] theorem State.afterDraw_free (s : State) : s.afterDraw.free = s.free + 1 := rfl

/-! ## stat -/

@[simp] theorem State.stat_vk (s : State) (cls idx pos n : Nat) : (s.stat cls idx pos n).vk = s.vk := rfl
@[simp] theorem State.stat_md (s : State) (cls idx pos n : Nat) : (s.stat cls idx pos n).md = s.md := rfl
@[simp] theorem State.stat_ck (s : State) (cls idx pos n : Nat) : (s.stat cls idx pos n).ck = s.ck := rfl
@[simp] theorem State.stat_pw (s : State) (cls idx pos n : Nat) : (s.stat cls idx pos n).pw = s.pw := rfl
@[simp] theorem State.stat_sb (s : State) (cls idx pos n : Nat) : (s.stat cls idx pos n).sb = s.sb := rfl
@[simp] theorem State.stat_ev (s : State) (cls idx pos n : Nat) : (s.stat cls idx pos n).ev = s.ev := rfl
@[simp] theorem State.stat_wx (s : State) (cls idx pos n : Nat) : (s.stat cls idx pos n).wx = s.wx := rfl
@[simp] theorem State.stat_dr (s : State) (cls idx pos n : Nat) : (s.stat cls idx pos n).dr = s.dr := rfl
@[simp] theorem State.stat_mc (s : State) (cls idx pos n : Nat) : (s.stat cls idx pos n).mc = s.mc := rfl
@[simp] theorem State.stat_rd (s : State) (cls idx pos n : Nat) : (s.stat cls idx pos n).rd = s.rd := rfl
@[simp] theorem State.stat_vo (s : State) (cls idx pos n : Nat) : (s.stat cls idx pos n).vo = s.vo := rfl
@[simp] theorem State.stat_sp (s : State) (cls idx pos n : Nat) : (s.stat cls idx pos n).sp = s.sp := rfl
@[simp] theorem State.stat_me (s : State) (cls idx pos n : Nat) : (s.stat cls idx pos n).me = s.me := rfl
@[simp] theorem State.stat_cl (s : State) (cls idx pos n : Nat) : (s.stat cls idx pos n).cl = s.cl := rfl
@[simp] theorem State.stat_hv (s : State) (cls idx pos n : Nat) : (s.stat cls idx pos n).hv = s.hv := rfl
@[simp] theorem State.stat_nv (s : State) (cls idx pos n : Nat) : (s.stat cls idx pos n).nv = s.nv := rfl
@[simp] theorem State.stat_ob (s : State) (cls idx pos n : Nat) : (s.stat cls idx pos n).ob = s.ob := rfl
@[simp] theorem State.stat_fg (s : State) (cls idx pos n : Nat) : (s.stat cls idx pos n).fg = s.fg := rfl
@[simp] theorem State.stat_rp (s : State) (cls idx pos n : Nat) : (s.stat cls idx pos n).rp = s.rp := rfl
@[simp] theorem State.stat_pr (s : State) (cls idx pos n : Nat) : (s.stat cls idx pos n).pr = s.pr := rfl
@[simp] theorem State.stat_co (s : State) (cls idx pos n : Nat) : (s.stat cls idx pos n).co = s.co := rfl
@[simp] theorem State.stat_bt (s : State) (cls idx pos n : Nat) : (s.stat cls idx pos n).bt = s.bt := rfl
@[simp] theorem State.stat_up (s : State) (cls idx pos n : Nat) : (s.stat cls idx pos n).up = s.up := rfl
@[simp] theorem State.stat_se (s : State) (cls idx pos n : Nat) : (s.stat cls idx pos n).se = s.se := rfl
@[simp] theorem State.stat_ks (s : State) (cls idx pos n : Nat) : (s.stat cls idx pos n).ks = s.ks := rfl
@[simp] theorem State.stat_fl (s : State) (cls idx pos n : Nat) : (s.stat cls idx pos n).fl = s.fl := rfl
@[simp] theorem State.stat_flNext (s : State) (cls idx pos n : Nat) : (s.stat cls idx pos n).flNext = s.flNext := rfl
@[simp] theorem State.stat_flOld (s : State) (cls idx pos n : Nat) : (s.stat cls idx pos n).flOld = s.flOld := rfl
@[simp] theorem State.stat_free (s : State) (cls idx pos n : Nat) : (s.stat cls idx pos n).free = s.free := rfl
@[simp] theorem State.stat_out (s : State) (cls idx pos n : Nat) : (s.stat cls idx pos n).out = s.out := rfl
@[simp] theorem State.stat_pending (s : State) (cls idx pos n : Nat) : (s.stat cls idx pos n).pending = s.pending := rfl

/-! ## session' -/

@[simp] theorem State.session'_md (s : State) (h : Nat) (f : Session → Session) : (s.session' h f).md = s.md := rfl
@[simp] theorem State.session'_ck (s : State) (h : Nat) (f : Session → Session) : (s.session' h f).ck = s.ck := rfl
@[simp] theorem State.session'_pw (s : State) (h : Nat) (f : Session → Session) : (s.session' h f).pw = s.pw := rfl
@[simp] theorem State.session'_sb (s : State) (h : Nat) (f : Session → Session) : (s.session' h f).sb = s.sb := rfl
@[simp] theorem State.session'_ev (s : State) (h : Nat) (f : Session → Session) : (s.session' h f).ev = s.ev := rfl
@[simp] theorem State.session'_ct (s : State) (h : Nat) (f : Session → Session) : (s.session' h f).ct = s.ct := rfl
@[simp] theorem State.session'_wx (s : State) (h : Nat) (f : Session → Session) : (s.session' h f).wx = s.wx := rfl
@[simp] theorem State.session'_dr (s : State) (h : Nat) (f : Session → Session) : (s.session' h f).dr = s.dr := rfl
@[simp] theorem State.session'_mc (s : State) (h : Nat) (f : Session → Session) : (s.session' h f).mc = s.mc := rfl
@[simp] theorem State.session'_rd (s : State) (h : Nat) (f : Session → Session) : (s.session' h f).rd = s.rd := rfl
@[simp] theorem State.session'_vo (s : State) (h : Nat) (f : Session → Session) : (s.session' h f).vo = s.vo := rfl
@[simp] theorem State.session'_sp (s : State) (h : Nat) (f : Session → Session) : (s.session' h f).sp = s.sp := rfl
@[simp] theorem State.session'_me (s : State) (h : Nat) (f : Session → Session) : (s.session' h f).me = s.me := rfl
@[simp] theorem State.session'_cl (s : State) (h : Nat) (f : Session → Session) : (s.session' h f).cl = s.cl := rfl
@[simp] theorem State.session'_hv (s : State) (h : Nat) (f : Session → Session) : (s.session' h f).hv = s.hv := rfl
@[simp] theorem State.session'_nv (s : State) (h : Nat) (f : Session → Session) : (s.session' h f).nv = s.nv := rfl
@[simp] theorem State.session'_ob (s : State) (h : Nat) (f : Session → Session) : (s.session' h f).ob = s.ob := rfl
@[simp] theorem State.session'_fg (s : State) (h : Nat) (f : Session → Session) : (s.session' h f).fg = s.fg := rfl
@[simp] theorem State.session'_rp (s : State) (h : Nat) (f : Session → Session) : (s.session' h f).rp = s.rp := rfl
@[simp] theorem State.session'_pr (s : State) (h : Nat) (f : Session → Session) : (s.session' h f).pr = s.pr := rfl
@[simp] theorem State.session'_co (s : State) (h : Nat) (f : Session → Session) : (s.session' h f).co = s.co := rfl
@[simp] theorem State.session'_bt (s : State) (h : Nat) (f : Session → Session) : (s.session' h f).bt = s.bt := rfl
@[simp] theorem State.session'_up (s : State) (h : Nat) (f : Session → Session) : (s.session' h f).up = s.up := rfl
@[simp] theorem State.session'_se (s : State) (h : Nat) (f : Session → Session) : (s.session' h f).se = s.se := rfl
@[simp] theorem State.session'_ks (s : State) (h : Nat) (f : Session → Session) : (s.session' h f).ks = s.ks := rfl
@[simp] theorem State.session'_fl (s : State) (h : Nat) (f : Session → Session) : (s.session' h f).fl = s.fl := rfl
@[simp] theorem State.session'_flNext (s : State) (h : Nat) (f : Session → Session) : (s.session' h f).flNext = s.flNext := rfl
@[simp] theorem State.session'_flOld (s : State) (h : Nat) (f : Session → Session) : (s.session' h f).flOld = s.flOld := rfl
@[simp] theorem State.session'_free (s : State) (h : Nat) (f : Session → Session) : (s.session' h f).free = s.free := rfl
@[simp] theorem State.session'_out (s : State) (h : Nat) (f : Session → Session) : (s.session' h f).out = s.out := rfl
@[simp] theorem State.session'_pending (s : State) (h : Nat) (f : Session → Session) : (s.session' h f).pending = s.pending := rfl

/-! ## Reports -/

/-- The intake of a report changes the recorder and counters and nothing else. -/
theorem State.intake_frame (s : State) (r : Report0) :
    s.intake r = { s with ev := (s.intake r).ev, ct := (s.intake r).ct } := by
  simp only [State.intake]
  repeat' split
  all_goals rfl

/-- A report changes the recorder and counters and nothing else (R717 to R722). -/
theorem State.report_frame (s : State) (r : Report0) :
    s.report r = { s with ev := (s.report r).ev, ct := (s.report r).ct } := by
  simp only [State.report]
  split
  · exact State.intake_frame s r
  · split
    · rfl
    · split
      · rw [State.intake_frame]; rfl
      · rfl

/-! ## event -/

@[simp] theorem State.event_vk (s : State) (code : Nat) (sev : Severity) (d : Nat) (b : Bytes) : (s.event code sev d b).vk = s.vk := by rw [State.event, State.report_frame]
@[simp] theorem State.event_md (s : State) (code : Nat) (sev : Severity) (d : Nat) (b : Bytes) : (s.event code sev d b).md = s.md := by rw [State.event, State.report_frame]
@[simp] theorem State.event_ck (s : State) (code : Nat) (sev : Severity) (d : Nat) (b : Bytes) : (s.event code sev d b).ck = s.ck := by rw [State.event, State.report_frame]
@[simp] theorem State.event_pw (s : State) (code : Nat) (sev : Severity) (d : Nat) (b : Bytes) : (s.event code sev d b).pw = s.pw := by rw [State.event, State.report_frame]
@[simp] theorem State.event_sb (s : State) (code : Nat) (sev : Severity) (d : Nat) (b : Bytes) : (s.event code sev d b).sb = s.sb := by rw [State.event, State.report_frame]
@[simp] theorem State.event_wx (s : State) (code : Nat) (sev : Severity) (d : Nat) (b : Bytes) : (s.event code sev d b).wx = s.wx := by rw [State.event, State.report_frame]
@[simp] theorem State.event_dr (s : State) (code : Nat) (sev : Severity) (d : Nat) (b : Bytes) : (s.event code sev d b).dr = s.dr := by rw [State.event, State.report_frame]
@[simp] theorem State.event_mc (s : State) (code : Nat) (sev : Severity) (d : Nat) (b : Bytes) : (s.event code sev d b).mc = s.mc := by rw [State.event, State.report_frame]
@[simp] theorem State.event_rd (s : State) (code : Nat) (sev : Severity) (d : Nat) (b : Bytes) : (s.event code sev d b).rd = s.rd := by rw [State.event, State.report_frame]
@[simp] theorem State.event_vo (s : State) (code : Nat) (sev : Severity) (d : Nat) (b : Bytes) : (s.event code sev d b).vo = s.vo := by rw [State.event, State.report_frame]
@[simp] theorem State.event_sp (s : State) (code : Nat) (sev : Severity) (d : Nat) (b : Bytes) : (s.event code sev d b).sp = s.sp := by rw [State.event, State.report_frame]
@[simp] theorem State.event_me (s : State) (code : Nat) (sev : Severity) (d : Nat) (b : Bytes) : (s.event code sev d b).me = s.me := by rw [State.event, State.report_frame]
@[simp] theorem State.event_cl (s : State) (code : Nat) (sev : Severity) (d : Nat) (b : Bytes) : (s.event code sev d b).cl = s.cl := by rw [State.event, State.report_frame]
@[simp] theorem State.event_hv (s : State) (code : Nat) (sev : Severity) (d : Nat) (b : Bytes) : (s.event code sev d b).hv = s.hv := by rw [State.event, State.report_frame]
@[simp] theorem State.event_nv (s : State) (code : Nat) (sev : Severity) (d : Nat) (b : Bytes) : (s.event code sev d b).nv = s.nv := by rw [State.event, State.report_frame]
@[simp] theorem State.event_ob (s : State) (code : Nat) (sev : Severity) (d : Nat) (b : Bytes) : (s.event code sev d b).ob = s.ob := by rw [State.event, State.report_frame]
@[simp] theorem State.event_fg (s : State) (code : Nat) (sev : Severity) (d : Nat) (b : Bytes) : (s.event code sev d b).fg = s.fg := by rw [State.event, State.report_frame]
@[simp] theorem State.event_rp (s : State) (code : Nat) (sev : Severity) (d : Nat) (b : Bytes) : (s.event code sev d b).rp = s.rp := by rw [State.event, State.report_frame]
@[simp] theorem State.event_pr (s : State) (code : Nat) (sev : Severity) (d : Nat) (b : Bytes) : (s.event code sev d b).pr = s.pr := by rw [State.event, State.report_frame]
@[simp] theorem State.event_co (s : State) (code : Nat) (sev : Severity) (d : Nat) (b : Bytes) : (s.event code sev d b).co = s.co := by rw [State.event, State.report_frame]
@[simp] theorem State.event_bt (s : State) (code : Nat) (sev : Severity) (d : Nat) (b : Bytes) : (s.event code sev d b).bt = s.bt := by rw [State.event, State.report_frame]
@[simp] theorem State.event_up (s : State) (code : Nat) (sev : Severity) (d : Nat) (b : Bytes) : (s.event code sev d b).up = s.up := by rw [State.event, State.report_frame]
@[simp] theorem State.event_se (s : State) (code : Nat) (sev : Severity) (d : Nat) (b : Bytes) : (s.event code sev d b).se = s.se := by rw [State.event, State.report_frame]
@[simp] theorem State.event_ks (s : State) (code : Nat) (sev : Severity) (d : Nat) (b : Bytes) : (s.event code sev d b).ks = s.ks := by rw [State.event, State.report_frame]
@[simp] theorem State.event_fl (s : State) (code : Nat) (sev : Severity) (d : Nat) (b : Bytes) : (s.event code sev d b).fl = s.fl := by rw [State.event, State.report_frame]
@[simp] theorem State.event_flNext (s : State) (code : Nat) (sev : Severity) (d : Nat) (b : Bytes) : (s.event code sev d b).flNext = s.flNext := by rw [State.event, State.report_frame]
@[simp] theorem State.event_flOld (s : State) (code : Nat) (sev : Severity) (d : Nat) (b : Bytes) : (s.event code sev d b).flOld = s.flOld := by rw [State.event, State.report_frame]
@[simp] theorem State.event_free (s : State) (code : Nat) (sev : Severity) (d : Nat) (b : Bytes) : (s.event code sev d b).free = s.free := by rw [State.event, State.report_frame]
@[simp] theorem State.event_out (s : State) (code : Nat) (sev : Severity) (d : Nat) (b : Bytes) : (s.event code sev d b).out = s.out := by rw [State.event, State.report_frame]
@[simp] theorem State.event_pending (s : State) (code : Nat) (sev : Severity) (d : Nat) (b : Bytes) : (s.event code sev d b).pending = s.pending := by rw [State.event, State.report_frame]

/-! ## ev0 -/

@[simp] theorem State.ev0_vk (s : State) (code : Nat) (sev : Severity) (b : Bytes) : (s.ev0 code sev b).vk = s.vk := by rw [State.ev0, State.event, State.report_frame]
@[simp] theorem State.ev0_md (s : State) (code : Nat) (sev : Severity) (b : Bytes) : (s.ev0 code sev b).md = s.md := by rw [State.ev0, State.event, State.report_frame]
@[simp] theorem State.ev0_ck (s : State) (code : Nat) (sev : Severity) (b : Bytes) : (s.ev0 code sev b).ck = s.ck := by rw [State.ev0, State.event, State.report_frame]
@[simp] theorem State.ev0_pw (s : State) (code : Nat) (sev : Severity) (b : Bytes) : (s.ev0 code sev b).pw = s.pw := by rw [State.ev0, State.event, State.report_frame]
@[simp] theorem State.ev0_sb (s : State) (code : Nat) (sev : Severity) (b : Bytes) : (s.ev0 code sev b).sb = s.sb := by rw [State.ev0, State.event, State.report_frame]
@[simp] theorem State.ev0_wx (s : State) (code : Nat) (sev : Severity) (b : Bytes) : (s.ev0 code sev b).wx = s.wx := by rw [State.ev0, State.event, State.report_frame]
@[simp] theorem State.ev0_dr (s : State) (code : Nat) (sev : Severity) (b : Bytes) : (s.ev0 code sev b).dr = s.dr := by rw [State.ev0, State.event, State.report_frame]
@[simp] theorem State.ev0_mc (s : State) (code : Nat) (sev : Severity) (b : Bytes) : (s.ev0 code sev b).mc = s.mc := by rw [State.ev0, State.event, State.report_frame]
@[simp] theorem State.ev0_rd (s : State) (code : Nat) (sev : Severity) (b : Bytes) : (s.ev0 code sev b).rd = s.rd := by rw [State.ev0, State.event, State.report_frame]
@[simp] theorem State.ev0_vo (s : State) (code : Nat) (sev : Severity) (b : Bytes) : (s.ev0 code sev b).vo = s.vo := by rw [State.ev0, State.event, State.report_frame]
@[simp] theorem State.ev0_sp (s : State) (code : Nat) (sev : Severity) (b : Bytes) : (s.ev0 code sev b).sp = s.sp := by rw [State.ev0, State.event, State.report_frame]
@[simp] theorem State.ev0_me (s : State) (code : Nat) (sev : Severity) (b : Bytes) : (s.ev0 code sev b).me = s.me := by rw [State.ev0, State.event, State.report_frame]
@[simp] theorem State.ev0_cl (s : State) (code : Nat) (sev : Severity) (b : Bytes) : (s.ev0 code sev b).cl = s.cl := by rw [State.ev0, State.event, State.report_frame]
@[simp] theorem State.ev0_hv (s : State) (code : Nat) (sev : Severity) (b : Bytes) : (s.ev0 code sev b).hv = s.hv := by rw [State.ev0, State.event, State.report_frame]
@[simp] theorem State.ev0_nv (s : State) (code : Nat) (sev : Severity) (b : Bytes) : (s.ev0 code sev b).nv = s.nv := by rw [State.ev0, State.event, State.report_frame]
@[simp] theorem State.ev0_ob (s : State) (code : Nat) (sev : Severity) (b : Bytes) : (s.ev0 code sev b).ob = s.ob := by rw [State.ev0, State.event, State.report_frame]
@[simp] theorem State.ev0_fg (s : State) (code : Nat) (sev : Severity) (b : Bytes) : (s.ev0 code sev b).fg = s.fg := by rw [State.ev0, State.event, State.report_frame]
@[simp] theorem State.ev0_rp (s : State) (code : Nat) (sev : Severity) (b : Bytes) : (s.ev0 code sev b).rp = s.rp := by rw [State.ev0, State.event, State.report_frame]
@[simp] theorem State.ev0_pr (s : State) (code : Nat) (sev : Severity) (b : Bytes) : (s.ev0 code sev b).pr = s.pr := by rw [State.ev0, State.event, State.report_frame]
@[simp] theorem State.ev0_co (s : State) (code : Nat) (sev : Severity) (b : Bytes) : (s.ev0 code sev b).co = s.co := by rw [State.ev0, State.event, State.report_frame]
@[simp] theorem State.ev0_bt (s : State) (code : Nat) (sev : Severity) (b : Bytes) : (s.ev0 code sev b).bt = s.bt := by rw [State.ev0, State.event, State.report_frame]
@[simp] theorem State.ev0_up (s : State) (code : Nat) (sev : Severity) (b : Bytes) : (s.ev0 code sev b).up = s.up := by rw [State.ev0, State.event, State.report_frame]
@[simp] theorem State.ev0_se (s : State) (code : Nat) (sev : Severity) (b : Bytes) : (s.ev0 code sev b).se = s.se := by rw [State.ev0, State.event, State.report_frame]
@[simp] theorem State.ev0_ks (s : State) (code : Nat) (sev : Severity) (b : Bytes) : (s.ev0 code sev b).ks = s.ks := by rw [State.ev0, State.event, State.report_frame]
@[simp] theorem State.ev0_fl (s : State) (code : Nat) (sev : Severity) (b : Bytes) : (s.ev0 code sev b).fl = s.fl := by rw [State.ev0, State.event, State.report_frame]
@[simp] theorem State.ev0_flNext (s : State) (code : Nat) (sev : Severity) (b : Bytes) : (s.ev0 code sev b).flNext = s.flNext := by rw [State.ev0, State.event, State.report_frame]
@[simp] theorem State.ev0_flOld (s : State) (code : Nat) (sev : Severity) (b : Bytes) : (s.ev0 code sev b).flOld = s.flOld := by rw [State.ev0, State.event, State.report_frame]
@[simp] theorem State.ev0_free (s : State) (code : Nat) (sev : Severity) (b : Bytes) : (s.ev0 code sev b).free = s.free := by rw [State.ev0, State.event, State.report_frame]
@[simp] theorem State.ev0_out (s : State) (code : Nat) (sev : Severity) (b : Bytes) : (s.ev0 code sev b).out = s.out := by rw [State.ev0, State.event, State.report_frame]
@[simp] theorem State.ev0_pending (s : State) (code : Nat) (sev : Severity) (b : Bytes) : (s.ev0 code sev b).pending = s.pending := by rw [State.ev0, State.event, State.report_frame]

/-- A counter's increment changes the counters, and the recorder where it saturates a fault counter (R734, R735). -/
theorem State.bump_frame (s : State) (cls idx pos n : Nat) :
    s.bump cls idx pos n = { s with ev := (s.bump cls idx pos n).ev, ct := (s.bump cls idx pos n).ct } := by
  simp only [State.bump]
  split
  · simp only [State.ev0, State.event]
    rw [State.report_frame]
    rfl
  · rfl

/-! ## bump -/

@[simp] theorem State.bump_vk (s : State) (cls idx pos n : Nat) : (s.bump cls idx pos n).vk = s.vk := by rw [State.bump_frame]
@[simp] theorem State.bump_md (s : State) (cls idx pos n : Nat) : (s.bump cls idx pos n).md = s.md := by rw [State.bump_frame]
@[simp] theorem State.bump_ck (s : State) (cls idx pos n : Nat) : (s.bump cls idx pos n).ck = s.ck := by rw [State.bump_frame]
@[simp] theorem State.bump_pw (s : State) (cls idx pos n : Nat) : (s.bump cls idx pos n).pw = s.pw := by rw [State.bump_frame]
@[simp] theorem State.bump_sb (s : State) (cls idx pos n : Nat) : (s.bump cls idx pos n).sb = s.sb := by rw [State.bump_frame]
@[simp] theorem State.bump_wx (s : State) (cls idx pos n : Nat) : (s.bump cls idx pos n).wx = s.wx := by rw [State.bump_frame]
@[simp] theorem State.bump_dr (s : State) (cls idx pos n : Nat) : (s.bump cls idx pos n).dr = s.dr := by rw [State.bump_frame]
@[simp] theorem State.bump_mc (s : State) (cls idx pos n : Nat) : (s.bump cls idx pos n).mc = s.mc := by rw [State.bump_frame]
@[simp] theorem State.bump_rd (s : State) (cls idx pos n : Nat) : (s.bump cls idx pos n).rd = s.rd := by rw [State.bump_frame]
@[simp] theorem State.bump_vo (s : State) (cls idx pos n : Nat) : (s.bump cls idx pos n).vo = s.vo := by rw [State.bump_frame]
@[simp] theorem State.bump_sp (s : State) (cls idx pos n : Nat) : (s.bump cls idx pos n).sp = s.sp := by rw [State.bump_frame]
@[simp] theorem State.bump_me (s : State) (cls idx pos n : Nat) : (s.bump cls idx pos n).me = s.me := by rw [State.bump_frame]
@[simp] theorem State.bump_cl (s : State) (cls idx pos n : Nat) : (s.bump cls idx pos n).cl = s.cl := by rw [State.bump_frame]
@[simp] theorem State.bump_hv (s : State) (cls idx pos n : Nat) : (s.bump cls idx pos n).hv = s.hv := by rw [State.bump_frame]
@[simp] theorem State.bump_nv (s : State) (cls idx pos n : Nat) : (s.bump cls idx pos n).nv = s.nv := by rw [State.bump_frame]
@[simp] theorem State.bump_ob (s : State) (cls idx pos n : Nat) : (s.bump cls idx pos n).ob = s.ob := by rw [State.bump_frame]
@[simp] theorem State.bump_fg (s : State) (cls idx pos n : Nat) : (s.bump cls idx pos n).fg = s.fg := by rw [State.bump_frame]
@[simp] theorem State.bump_rp (s : State) (cls idx pos n : Nat) : (s.bump cls idx pos n).rp = s.rp := by rw [State.bump_frame]
@[simp] theorem State.bump_pr (s : State) (cls idx pos n : Nat) : (s.bump cls idx pos n).pr = s.pr := by rw [State.bump_frame]
@[simp] theorem State.bump_co (s : State) (cls idx pos n : Nat) : (s.bump cls idx pos n).co = s.co := by rw [State.bump_frame]
@[simp] theorem State.bump_bt (s : State) (cls idx pos n : Nat) : (s.bump cls idx pos n).bt = s.bt := by rw [State.bump_frame]
@[simp] theorem State.bump_up (s : State) (cls idx pos n : Nat) : (s.bump cls idx pos n).up = s.up := by rw [State.bump_frame]
@[simp] theorem State.bump_se (s : State) (cls idx pos n : Nat) : (s.bump cls idx pos n).se = s.se := by rw [State.bump_frame]
@[simp] theorem State.bump_ks (s : State) (cls idx pos n : Nat) : (s.bump cls idx pos n).ks = s.ks := by rw [State.bump_frame]
@[simp] theorem State.bump_fl (s : State) (cls idx pos n : Nat) : (s.bump cls idx pos n).fl = s.fl := by rw [State.bump_frame]
@[simp] theorem State.bump_flNext (s : State) (cls idx pos n : Nat) : (s.bump cls idx pos n).flNext = s.flNext := by rw [State.bump_frame]
@[simp] theorem State.bump_flOld (s : State) (cls idx pos n : Nat) : (s.bump cls idx pos n).flOld = s.flOld := by rw [State.bump_frame]
@[simp] theorem State.bump_free (s : State) (cls idx pos n : Nat) : (s.bump cls idx pos n).free = s.free := by rw [State.bump_frame]
@[simp] theorem State.bump_out (s : State) (cls idx pos n : Nat) : (s.bump cls idx pos n).out = s.out := by rw [State.bump_frame]
@[simp] theorem State.bump_pending (s : State) (cls idx pos n : Nat) : (s.bump cls idx pos n).pending = s.pending := by rw [State.bump_frame]

/-! ## Replies -/

/-- A reply's packets are sent, on MG each with a trailer that may draw a free value, and nothing else changes (R75, R76, R83). -/
theorem State.sendReply_frame (s : State) (via : Transport) (r : VReply) :
    s.sendReply via r = { s with free := (s.sendReply via r).free, out := (s.sendReply via r).out } := by
  simp only [State.sendReply]
  generalize r.packets via.maxPart = ps
  induction ps generalizing s with
  | nil => rfl
  | cons p ps ih =>
    rw [List.foldl_cons, ih]
    split <;> rfl

/-- A reply is held, or sent: it changes the held replies and the sessions, or what is sent, and nothing else (R94). -/
theorem State.deliver_frame (s : State) (via : Transport) (r : VReply) :
    s.deliver via r = { s with vk := (s.deliver via r).vk, free := (s.deliver via r).free, out := (s.deliver via r).out } := by
  simp only [State.deliver, State.deliverAs]
  split
  · rfl
  · rw [State.sendReply_frame]

/-- The same for a reply to a request. -/
theorem State.replyTo_frame (s : State) (w : Waiter) (st : VStatus) (p : Bytes) :
    s.replyTo w st p = { s with vk := (s.replyTo w st p).vk, free := (s.replyTo w st p).free, out := (s.replyTo w st p).out } := by
  simp only [State.replyTo]
  split
  · rw [State.deliver_frame]; rfl
  · rw [State.deliver_frame]

/-! ## deliver -/

@[simp] theorem State.deliver_md (s : State) (via : Transport) (r : VReply) : (s.deliver via r).md = s.md := by rw [State.deliver_frame]
@[simp] theorem State.deliver_ck (s : State) (via : Transport) (r : VReply) : (s.deliver via r).ck = s.ck := by rw [State.deliver_frame]
@[simp] theorem State.deliver_pw (s : State) (via : Transport) (r : VReply) : (s.deliver via r).pw = s.pw := by rw [State.deliver_frame]
@[simp] theorem State.deliver_sb (s : State) (via : Transport) (r : VReply) : (s.deliver via r).sb = s.sb := by rw [State.deliver_frame]
@[simp] theorem State.deliver_ev (s : State) (via : Transport) (r : VReply) : (s.deliver via r).ev = s.ev := by rw [State.deliver_frame]
@[simp] theorem State.deliver_ct (s : State) (via : Transport) (r : VReply) : (s.deliver via r).ct = s.ct := by rw [State.deliver_frame]
@[simp] theorem State.deliver_wx (s : State) (via : Transport) (r : VReply) : (s.deliver via r).wx = s.wx := by rw [State.deliver_frame]
@[simp] theorem State.deliver_dr (s : State) (via : Transport) (r : VReply) : (s.deliver via r).dr = s.dr := by rw [State.deliver_frame]
@[simp] theorem State.deliver_mc (s : State) (via : Transport) (r : VReply) : (s.deliver via r).mc = s.mc := by rw [State.deliver_frame]
@[simp] theorem State.deliver_rd (s : State) (via : Transport) (r : VReply) : (s.deliver via r).rd = s.rd := by rw [State.deliver_frame]
@[simp] theorem State.deliver_vo (s : State) (via : Transport) (r : VReply) : (s.deliver via r).vo = s.vo := by rw [State.deliver_frame]
@[simp] theorem State.deliver_sp (s : State) (via : Transport) (r : VReply) : (s.deliver via r).sp = s.sp := by rw [State.deliver_frame]
@[simp] theorem State.deliver_me (s : State) (via : Transport) (r : VReply) : (s.deliver via r).me = s.me := by rw [State.deliver_frame]
@[simp] theorem State.deliver_cl (s : State) (via : Transport) (r : VReply) : (s.deliver via r).cl = s.cl := by rw [State.deliver_frame]
@[simp] theorem State.deliver_hv (s : State) (via : Transport) (r : VReply) : (s.deliver via r).hv = s.hv := by rw [State.deliver_frame]
@[simp] theorem State.deliver_nv (s : State) (via : Transport) (r : VReply) : (s.deliver via r).nv = s.nv := by rw [State.deliver_frame]
@[simp] theorem State.deliver_ob (s : State) (via : Transport) (r : VReply) : (s.deliver via r).ob = s.ob := by rw [State.deliver_frame]
@[simp] theorem State.deliver_fg (s : State) (via : Transport) (r : VReply) : (s.deliver via r).fg = s.fg := by rw [State.deliver_frame]
@[simp] theorem State.deliver_rp (s : State) (via : Transport) (r : VReply) : (s.deliver via r).rp = s.rp := by rw [State.deliver_frame]
@[simp] theorem State.deliver_pr (s : State) (via : Transport) (r : VReply) : (s.deliver via r).pr = s.pr := by rw [State.deliver_frame]
@[simp] theorem State.deliver_co (s : State) (via : Transport) (r : VReply) : (s.deliver via r).co = s.co := by rw [State.deliver_frame]
@[simp] theorem State.deliver_bt (s : State) (via : Transport) (r : VReply) : (s.deliver via r).bt = s.bt := by rw [State.deliver_frame]
@[simp] theorem State.deliver_up (s : State) (via : Transport) (r : VReply) : (s.deliver via r).up = s.up := by rw [State.deliver_frame]
@[simp] theorem State.deliver_se (s : State) (via : Transport) (r : VReply) : (s.deliver via r).se = s.se := by rw [State.deliver_frame]
@[simp] theorem State.deliver_ks (s : State) (via : Transport) (r : VReply) : (s.deliver via r).ks = s.ks := by rw [State.deliver_frame]
@[simp] theorem State.deliver_fl (s : State) (via : Transport) (r : VReply) : (s.deliver via r).fl = s.fl := by rw [State.deliver_frame]
@[simp] theorem State.deliver_flNext (s : State) (via : Transport) (r : VReply) : (s.deliver via r).flNext = s.flNext := by rw [State.deliver_frame]
@[simp] theorem State.deliver_flOld (s : State) (via : Transport) (r : VReply) : (s.deliver via r).flOld = s.flOld := by rw [State.deliver_frame]
@[simp] theorem State.deliver_pending (s : State) (via : Transport) (r : VReply) : (s.deliver via r).pending = s.pending := by rw [State.deliver_frame]

/-! ## replyTo -/

@[simp] theorem State.replyTo_md (s : State) (w : Waiter) (st : VStatus) (p : Bytes) : (s.replyTo w st p).md = s.md := by rw [State.replyTo_frame]
@[simp] theorem State.replyTo_ck (s : State) (w : Waiter) (st : VStatus) (p : Bytes) : (s.replyTo w st p).ck = s.ck := by rw [State.replyTo_frame]
@[simp] theorem State.replyTo_pw (s : State) (w : Waiter) (st : VStatus) (p : Bytes) : (s.replyTo w st p).pw = s.pw := by rw [State.replyTo_frame]
@[simp] theorem State.replyTo_sb (s : State) (w : Waiter) (st : VStatus) (p : Bytes) : (s.replyTo w st p).sb = s.sb := by rw [State.replyTo_frame]
@[simp] theorem State.replyTo_ev (s : State) (w : Waiter) (st : VStatus) (p : Bytes) : (s.replyTo w st p).ev = s.ev := by rw [State.replyTo_frame]
@[simp] theorem State.replyTo_ct (s : State) (w : Waiter) (st : VStatus) (p : Bytes) : (s.replyTo w st p).ct = s.ct := by rw [State.replyTo_frame]
@[simp] theorem State.replyTo_wx (s : State) (w : Waiter) (st : VStatus) (p : Bytes) : (s.replyTo w st p).wx = s.wx := by rw [State.replyTo_frame]
@[simp] theorem State.replyTo_dr (s : State) (w : Waiter) (st : VStatus) (p : Bytes) : (s.replyTo w st p).dr = s.dr := by rw [State.replyTo_frame]
@[simp] theorem State.replyTo_mc (s : State) (w : Waiter) (st : VStatus) (p : Bytes) : (s.replyTo w st p).mc = s.mc := by rw [State.replyTo_frame]
@[simp] theorem State.replyTo_rd (s : State) (w : Waiter) (st : VStatus) (p : Bytes) : (s.replyTo w st p).rd = s.rd := by rw [State.replyTo_frame]
@[simp] theorem State.replyTo_vo (s : State) (w : Waiter) (st : VStatus) (p : Bytes) : (s.replyTo w st p).vo = s.vo := by rw [State.replyTo_frame]
@[simp] theorem State.replyTo_sp (s : State) (w : Waiter) (st : VStatus) (p : Bytes) : (s.replyTo w st p).sp = s.sp := by rw [State.replyTo_frame]
@[simp] theorem State.replyTo_me (s : State) (w : Waiter) (st : VStatus) (p : Bytes) : (s.replyTo w st p).me = s.me := by rw [State.replyTo_frame]
@[simp] theorem State.replyTo_cl (s : State) (w : Waiter) (st : VStatus) (p : Bytes) : (s.replyTo w st p).cl = s.cl := by rw [State.replyTo_frame]
@[simp] theorem State.replyTo_hv (s : State) (w : Waiter) (st : VStatus) (p : Bytes) : (s.replyTo w st p).hv = s.hv := by rw [State.replyTo_frame]
@[simp] theorem State.replyTo_nv (s : State) (w : Waiter) (st : VStatus) (p : Bytes) : (s.replyTo w st p).nv = s.nv := by rw [State.replyTo_frame]
@[simp] theorem State.replyTo_ob (s : State) (w : Waiter) (st : VStatus) (p : Bytes) : (s.replyTo w st p).ob = s.ob := by rw [State.replyTo_frame]
@[simp] theorem State.replyTo_fg (s : State) (w : Waiter) (st : VStatus) (p : Bytes) : (s.replyTo w st p).fg = s.fg := by rw [State.replyTo_frame]
@[simp] theorem State.replyTo_rp (s : State) (w : Waiter) (st : VStatus) (p : Bytes) : (s.replyTo w st p).rp = s.rp := by rw [State.replyTo_frame]
@[simp] theorem State.replyTo_pr (s : State) (w : Waiter) (st : VStatus) (p : Bytes) : (s.replyTo w st p).pr = s.pr := by rw [State.replyTo_frame]
@[simp] theorem State.replyTo_co (s : State) (w : Waiter) (st : VStatus) (p : Bytes) : (s.replyTo w st p).co = s.co := by rw [State.replyTo_frame]
@[simp] theorem State.replyTo_bt (s : State) (w : Waiter) (st : VStatus) (p : Bytes) : (s.replyTo w st p).bt = s.bt := by rw [State.replyTo_frame]
@[simp] theorem State.replyTo_up (s : State) (w : Waiter) (st : VStatus) (p : Bytes) : (s.replyTo w st p).up = s.up := by rw [State.replyTo_frame]
@[simp] theorem State.replyTo_se (s : State) (w : Waiter) (st : VStatus) (p : Bytes) : (s.replyTo w st p).se = s.se := by rw [State.replyTo_frame]
@[simp] theorem State.replyTo_ks (s : State) (w : Waiter) (st : VStatus) (p : Bytes) : (s.replyTo w st p).ks = s.ks := by rw [State.replyTo_frame]
@[simp] theorem State.replyTo_fl (s : State) (w : Waiter) (st : VStatus) (p : Bytes) : (s.replyTo w st p).fl = s.fl := by rw [State.replyTo_frame]
@[simp] theorem State.replyTo_flNext (s : State) (w : Waiter) (st : VStatus) (p : Bytes) : (s.replyTo w st p).flNext = s.flNext := by rw [State.replyTo_frame]
@[simp] theorem State.replyTo_flOld (s : State) (w : Waiter) (st : VStatus) (p : Bytes) : (s.replyTo w st p).flOld = s.flOld := by rw [State.replyTo_frame]
@[simp] theorem State.replyTo_pending (s : State) (w : Waiter) (st : VStatus) (p : Bytes) : (s.replyTo w st p).pending = s.pending := by rw [State.replyTo_frame]

/-! ## reply -/

@[simp] theorem State.reply_md (s : State) (q : VReq) (op : Nat) (st : VStatus) (p : Bytes) : (s.reply q op st p).md = s.md := by rw [State.reply, State.replyTo_frame]
@[simp] theorem State.reply_ck (s : State) (q : VReq) (op : Nat) (st : VStatus) (p : Bytes) : (s.reply q op st p).ck = s.ck := by rw [State.reply, State.replyTo_frame]
@[simp] theorem State.reply_pw (s : State) (q : VReq) (op : Nat) (st : VStatus) (p : Bytes) : (s.reply q op st p).pw = s.pw := by rw [State.reply, State.replyTo_frame]
@[simp] theorem State.reply_sb (s : State) (q : VReq) (op : Nat) (st : VStatus) (p : Bytes) : (s.reply q op st p).sb = s.sb := by rw [State.reply, State.replyTo_frame]
@[simp] theorem State.reply_ev (s : State) (q : VReq) (op : Nat) (st : VStatus) (p : Bytes) : (s.reply q op st p).ev = s.ev := by rw [State.reply, State.replyTo_frame]
@[simp] theorem State.reply_ct (s : State) (q : VReq) (op : Nat) (st : VStatus) (p : Bytes) : (s.reply q op st p).ct = s.ct := by rw [State.reply, State.replyTo_frame]
@[simp] theorem State.reply_wx (s : State) (q : VReq) (op : Nat) (st : VStatus) (p : Bytes) : (s.reply q op st p).wx = s.wx := by rw [State.reply, State.replyTo_frame]
@[simp] theorem State.reply_dr (s : State) (q : VReq) (op : Nat) (st : VStatus) (p : Bytes) : (s.reply q op st p).dr = s.dr := by rw [State.reply, State.replyTo_frame]
@[simp] theorem State.reply_mc (s : State) (q : VReq) (op : Nat) (st : VStatus) (p : Bytes) : (s.reply q op st p).mc = s.mc := by rw [State.reply, State.replyTo_frame]
@[simp] theorem State.reply_rd (s : State) (q : VReq) (op : Nat) (st : VStatus) (p : Bytes) : (s.reply q op st p).rd = s.rd := by rw [State.reply, State.replyTo_frame]
@[simp] theorem State.reply_vo (s : State) (q : VReq) (op : Nat) (st : VStatus) (p : Bytes) : (s.reply q op st p).vo = s.vo := by rw [State.reply, State.replyTo_frame]
@[simp] theorem State.reply_sp (s : State) (q : VReq) (op : Nat) (st : VStatus) (p : Bytes) : (s.reply q op st p).sp = s.sp := by rw [State.reply, State.replyTo_frame]
@[simp] theorem State.reply_me (s : State) (q : VReq) (op : Nat) (st : VStatus) (p : Bytes) : (s.reply q op st p).me = s.me := by rw [State.reply, State.replyTo_frame]
@[simp] theorem State.reply_cl (s : State) (q : VReq) (op : Nat) (st : VStatus) (p : Bytes) : (s.reply q op st p).cl = s.cl := by rw [State.reply, State.replyTo_frame]
@[simp] theorem State.reply_hv (s : State) (q : VReq) (op : Nat) (st : VStatus) (p : Bytes) : (s.reply q op st p).hv = s.hv := by rw [State.reply, State.replyTo_frame]
@[simp] theorem State.reply_nv (s : State) (q : VReq) (op : Nat) (st : VStatus) (p : Bytes) : (s.reply q op st p).nv = s.nv := by rw [State.reply, State.replyTo_frame]
@[simp] theorem State.reply_ob (s : State) (q : VReq) (op : Nat) (st : VStatus) (p : Bytes) : (s.reply q op st p).ob = s.ob := by rw [State.reply, State.replyTo_frame]
@[simp] theorem State.reply_fg (s : State) (q : VReq) (op : Nat) (st : VStatus) (p : Bytes) : (s.reply q op st p).fg = s.fg := by rw [State.reply, State.replyTo_frame]
@[simp] theorem State.reply_rp (s : State) (q : VReq) (op : Nat) (st : VStatus) (p : Bytes) : (s.reply q op st p).rp = s.rp := by rw [State.reply, State.replyTo_frame]
@[simp] theorem State.reply_pr (s : State) (q : VReq) (op : Nat) (st : VStatus) (p : Bytes) : (s.reply q op st p).pr = s.pr := by rw [State.reply, State.replyTo_frame]
@[simp] theorem State.reply_co (s : State) (q : VReq) (op : Nat) (st : VStatus) (p : Bytes) : (s.reply q op st p).co = s.co := by rw [State.reply, State.replyTo_frame]
@[simp] theorem State.reply_bt (s : State) (q : VReq) (op : Nat) (st : VStatus) (p : Bytes) : (s.reply q op st p).bt = s.bt := by rw [State.reply, State.replyTo_frame]
@[simp] theorem State.reply_up (s : State) (q : VReq) (op : Nat) (st : VStatus) (p : Bytes) : (s.reply q op st p).up = s.up := by rw [State.reply, State.replyTo_frame]
@[simp] theorem State.reply_se (s : State) (q : VReq) (op : Nat) (st : VStatus) (p : Bytes) : (s.reply q op st p).se = s.se := by rw [State.reply, State.replyTo_frame]
@[simp] theorem State.reply_ks (s : State) (q : VReq) (op : Nat) (st : VStatus) (p : Bytes) : (s.reply q op st p).ks = s.ks := by rw [State.reply, State.replyTo_frame]
@[simp] theorem State.reply_fl (s : State) (q : VReq) (op : Nat) (st : VStatus) (p : Bytes) : (s.reply q op st p).fl = s.fl := by rw [State.reply, State.replyTo_frame]
@[simp] theorem State.reply_flNext (s : State) (q : VReq) (op : Nat) (st : VStatus) (p : Bytes) : (s.reply q op st p).flNext = s.flNext := by rw [State.reply, State.replyTo_frame]
@[simp] theorem State.reply_flOld (s : State) (q : VReq) (op : Nat) (st : VStatus) (p : Bytes) : (s.reply q op st p).flOld = s.flOld := by rw [State.reply, State.replyTo_frame]
@[simp] theorem State.reply_pending (s : State) (q : VReq) (op : Nat) (st : VStatus) (p : Bytes) : (s.reply q op st p).pending = s.pending := by rw [State.reply, State.replyTo_frame]

end Sys2Proof.Machine
end

