-- ==== Sys2Proof/Laws/Memory.lean ====
section
/-! SUPPORT. The laws of memory: every operation keeps the canonical form, a read after a write gives what was written, a write leaves
every other byte alone, and memories that read alike are equal. -/

namespace Sys2Proof.Machine

/-- A list whose addresses start at a bound starts at every lower one. -/
theorem memFrom_mono {lo hi : Nat} (h : lo ≤ hi) : ∀ {m : List Host.Cell}, memFrom hi m = true → memFrom lo m = true
  | [], _ => rfl
  | c :: m, hm => by
    simp only [memFrom, Bool.and_eq_true, decide_eq_true_eq] at hm ⊢
    exact ⟨⟨h.trans hm.1.1, hm.1.2⟩, hm.2⟩

/-- Below the bound nothing is listed. -/
theorem memGet_below {lo a : Nat} (h : a < lo) : ∀ {m : List Host.Cell}, memFrom lo m = true → memGet m a = emptyByte
  | [], _ => rfl
  | c :: m, hm => by
    simp only [memFrom, Bool.and_eq_true, decide_eq_true_eq] at hm
    have hne : c.1 ≠ a := by omega
    simp only [memGet, if_neg hne]
    exact memGet_below (by omega) hm.2

/-- Writing a byte keeps the canonical form. -/
theorem memSet_from {lo a : Nat} {b : Byte} (ha : lo ≤ a) : ∀ {m : List Host.Cell}, memFrom lo m = true → memFrom lo (memSet m a b) = true
  | [], _ => by
    by_cases hb : b = emptyByte
    · simp [memSet, hb, memFrom]
    · simp [memSet, hb, memFrom, ha]
  | c :: m, hm => by
    simp only [memFrom, Bool.and_eq_true, decide_eq_true_eq] at hm
    obtain ⟨⟨h1, h2⟩, h3⟩ := hm
    by_cases hlt : c.1 < a
    · simp only [memSet, if_pos hlt, memFrom, Bool.and_eq_true, decide_eq_true_eq]
      exact ⟨⟨h1, h2⟩, memSet_from (by omega) h3⟩
    · by_cases heq : c.1 = a
      · subst heq
        by_cases hb : b = emptyByte
        · simp only [memSet, if_neg hlt, if_true, if_pos hb]
          exact memFrom_mono (by omega) h3
        · simp [memSet, hb, memFrom, h1, h3]
      · have hgt : a + 1 ≤ c.1 := by omega
        by_cases hb : b = emptyByte
        · simp [memSet, hlt, heq, hb, memFrom, h1, h3]
          simpa using h2
        · simp only [memSet, if_neg hlt, if_neg heq, if_neg hb, memFrom, Bool.and_eq_true, decide_eq_true_eq]
          exact ⟨⟨ha, by simpa using hb⟩, ⟨hgt, h2⟩, h3⟩

/-- The byte written reads as what was written. -/
theorem memGet_memSet_same {lo a : Nat} (b : Byte) : ∀ {m : List Host.Cell}, memFrom lo m = true → memGet (memSet m a b) a = b
  | [], _ => by
    by_cases hb : b = emptyByte <;> simp [memSet, hb, memGet]
  | c :: m, hm => by
    simp only [memFrom, Bool.and_eq_true, decide_eq_true_eq] at hm
    by_cases hlt : c.1 < a
    · have hne : c.1 ≠ a := by omega
      simp only [memSet, if_pos hlt, memGet, if_neg hne]
      exact memGet_memSet_same b hm.2
    · by_cases hb : b = emptyByte
      · subst hb
        by_cases heq : c.1 = a
        · simp only [memSet, if_neg hlt, if_pos heq, if_true]
          exact memGet_below (by omega) hm.2
        · simp only [memSet, if_neg hlt, if_neg heq, if_true, memGet]
          exact memGet_below (by omega) hm.2
      · simp [memSet, hlt, hb, memGet]

/-- A write of one byte leaves every other byte alone. -/
theorem memGet_memSet_other {a x : Nat} (b : Byte) (h : x ≠ a) : ∀ (m : List Host.Cell), memGet (memSet m a b) x = memGet m x
  | [] => by
    by_cases hb : b = emptyByte <;> simp [memSet, hb, memGet, Ne.symm h]
  | c :: m => by
    by_cases hlt : c.1 < a
    · simp only [memSet, if_pos hlt, memGet]
      rw [memGet_memSet_other b h m]
    · by_cases heq : c.1 = a
      · have hne : c.1 ≠ x := by omega
        by_cases hb : b = emptyByte <;> simp [memSet, heq, hb, memGet, Ne.symm h]
      · by_cases hb : b = emptyByte <;> simp [memSet, hlt, heq, hb, memGet, Ne.symm h]

/-- Writing bytes keeps the canonical form. -/
theorem memWrite_wf : ∀ (bs : Bytes) (a : Nat) {m : List Host.Cell}, Memory.wf m = true → Memory.wf (memWrite m a bs) = true
  | [], _, _, hm => hm
  | _ :: bs, a, _, hm => memWrite_wf bs (a + 1) (memSet_from (Nat.zero_le a) hm)

/-- A write leaves every byte outside it alone. -/
theorem memGet_memWrite_other {x : Nat} : ∀ (bs : Bytes) (a : Nat) (m : List Host.Cell), x < a ∨ a + bs.length ≤ x →
    memGet (memWrite m a bs) x = memGet m x
  | [], _, _, _ => rfl
  | b :: bs, a, m, h => by
    simp only [List.length_cons] at h
    simp only [memWrite]
    rw [memGet_memWrite_other bs (a + 1) _ (by omega), memGet_memSet_other b (by omega)]

/-- A byte that was written reads as what was written. -/
theorem memGet_memWrite_in : ∀ (bs : Bytes) (a i : Nat) {m : List Host.Cell}, Memory.wf m = true → (h : i < bs.length) →
    memGet (memWrite m a bs) (a + i) = bs[i]
  | b :: bs, a, 0, _, hm, _ => by
    simp only [memWrite, Nat.add_zero, List.getElem_cons_zero]
    rw [memGet_memWrite_other bs (a + 1) _ (by omega)]
    exact memGet_memSet_same b hm
  | b :: bs, a, i + 1, m, hm, h => by
    have := memGet_memWrite_in bs (a + 1) i (m := memSet m a b) (memSet_from (Nat.zero_le a) hm) (by simpa using h)
    simp only [memWrite, List.getElem_cons_succ]
    rw [← this]
    congr 1
    omega

/-- What was written reads back. -/
theorem memRead_memWrite {m : List Host.Cell} (hm : Memory.wf m = true) (a : Nat) (bs : Bytes) : memRead (memWrite m a bs) a bs.length = bs := by
  apply List.ext_getElem
  · simp [memRead]
  · intro i h1 h2
    simp only [memRead, List.getElem_map, List.getElem_range]
    exact memGet_memWrite_in bs a i hm h2

/-- A read that a write does not meet gives what it gave before. -/
theorem memRead_memWrite_apart (m : List Host.Cell) {a x n : Nat} (bs : Bytes) (h : x + n ≤ a ∨ a + bs.length ≤ x) :
    memRead (memWrite m a bs) x n = memRead m x n := by
  unfold memRead
  apply List.map_congr_left
  intro i hi
  rw [List.mem_range] at hi
  exact memGet_memWrite_other bs a m (by omega)

/-- In the canonical form, memories that read alike are equal. -/
theorem mem_ext {lo : Nat} : ∀ {m n : List Host.Cell}, memFrom lo m = true → memFrom lo n = true → (∀ a, memGet m a = memGet n a) → m = n
  | [], [], _, _, _ => rfl
  | [], d :: n, _, hn, h => by
    simp only [memFrom, Bool.and_eq_true] at hn
    have := h d.1
    simp only [memGet, if_true] at this
    simp [← this] at hn
  | c :: m, [], hm, _, h => by
    simp only [memFrom, Bool.and_eq_true] at hm
    have := h c.1
    simp only [memGet, if_true] at this
    simp [this] at hm
  | c :: m, d :: n, hm, hn, h => by
    simp only [memFrom, Bool.and_eq_true, decide_eq_true_eq] at hm hn
    have hc := h c.1
    have hd := h d.1
    simp only [memGet, if_true] at hc hd
    have hcd : c.1 = d.1 := by
      rcases Nat.lt_trichotomy c.1 d.1 with hlt | heq | hgt
      · rw [if_neg (by omega), memGet_below (by omega) hn.2] at hc
        exact absurd hc (by simpa using hm.1.2)
      · exact heq
      · rw [if_neg (by omega), memGet_below (by omega) hm.2] at hd
        exact absurd hd.symm (by simpa using hn.1.2)
    rw [if_pos hcd.symm] at hc
    obtain ⟨ca, cb⟩ := c
    obtain ⟨da, db⟩ := d
    simp only at hcd hc
    subst hcd hc
    congr 1
    refine mem_ext hm.2 hn.2 fun a => ?_
    by_cases ha : a = ca
    · subst ha
      rw [memGet_below (Nat.lt_succ_self a) hm.2, memGet_below (Nat.lt_succ_self a) hn.2]
    · have := h a
      simpa [memGet, Ne.symm ha] using this

/-- A write into DRAM past the map cache keeps the canonical form. -/
theorem dramWrite_wf {s : State} (h : Memory.wf s.dr.mem = true) (a : Nat) (bs : Bytes) : Memory.wf (s.dramWrite a bs).dr.mem = true :=
  memWrite_wf bs a h

/-- Meeting a line of the map cache changes nothing in DRAM. -/
@[simp] theorem readLine_dr (s : State) (a b : Nat) : (s.readLine a b).1.dr = s.dr := by
  unfold State.readLine
  split
  · rfl
  · split
    · rfl
    · rw [State.bump_dr, State.ev0_dr]; rfl

/-- A line takes its bytes from DRAM and changes none of it. -/
@[simp] theorem refreshLine_dr (s : State) (l : Nat × Nat × Nat × Bytes) : (s.refreshLine l).dr = s.dr := by
  have h := readLine_dr s l.1 l.2.2.1
  unfold State.refreshLine
  split <;> simp_all

/-- The lines that a write refreshes take their bytes from DRAM and change none of it. -/
theorem refreshLines_dr (s : State) (a n : Nat) : (s.refreshLines a n).dr = s.dr := by
  have go : ∀ (ls : List (Nat × Nat × Nat × Bytes)) (t : State), (ls.foldl State.refreshLine t).dr = t.dr := by
    intro ls
    induction ls with
    | nil => exact fun _ => rfl
    | cons x ls ih => intro t; rw [List.foldl_cons, ih, refreshLine_dr]
  exact go _ s

/-- A write through the map cache keeps the canonical form. -/
theorem putBytes_wf {s : State} (h : Memory.wf s.dr.mem = true) (a : Nat) (bs : Bytes) : Memory.wf (s.putBytes a bs).dr.mem = true := by
  unfold State.putBytes
  rw [refreshLines_dr]
  exact memWrite_wf bs a h

end Sys2Proof.Machine
end

