-- ==== Sys2Proof/Laws/Virkan.lean ====
section
/-! SUPPORT. A Virkan request that passes its checks runs the opcode's own part (R77). -/

namespace Sys2Proof.Machine

/-- A row of the catalogue is found where a request passes. -/
theorem vop_of_checkOp {s : State} {op : Nat} {q : VReq} (h : s.checkOp op q = none) : ∃ o, vop op = some o := by
  unfold State.checkOp at h
  split at h
  · cases h
  · exact ⟨_, ‹_›⟩

/-- The opcode's own part runs on the state in which the request is outstanding. -/
theorem virkan_of_passes {s : State} {op : Nat} {q : VReq} (body : State → State) (h : Passes s op q) :
    s.virkan op q body = body (s.taken op q) := by
  obtain ⟨h1, h2, h3, h4⟩ := h
  obtain ⟨o, ho⟩ := vop_of_checkOp h3
  cases hc : o.confirm <;> simp_all [State.virkan, State.taken]

/-- The same for a request that runs in a named state. -/
theorem virkan_runs {s u : State} {op : Nat} {q : VReq} {body : State → State} (h : Runs s op q u) :
    s.virkan op q body = body u := by
  obtain ⟨h1, rfl⟩ := h
  exact virkan_of_passes body h1

end Sys2Proof.Machine
end

