-- ==== Sys2Proof/Machine/Balls.lean ====
section
/-! DEFINITION. The ball map of the package (R779 to R786): where the balls of the comb links, the lanes, the DRAM channels and row BJ
lie, and what each ball of the array carries. -/

namespace Sys2Proof.Machine

/-- A ball: row 1 to 64 and column 1 to 64 (R779, R780). -/
structure Ball where
  /-- Row number. -/
  row : Nat
  /-- Column number. -/
  col : Nat
  deriving DecidableEq, Repr

/-- Signals of a differential block (R781). -/
inductive PairPin where
  /-- TX_P. -/
  | txP
  /-- TX_N. -/
  | txN
  /-- RX_P. -/
  | rxP
  /-- RX_N. -/
  | rxN
  deriving DecidableEq, Repr

/-- The second letters of a row name in order (R780). -/
def secondLetters : List Char := ['A', 'B', 'C', 'D', 'E', 'F', 'G', 'H', 'J', 'K', 'M', 'N', 'P', 'T', 'U', 'V']

/-- The two letters of a row: AA is row 1, DV row 64 (R780). -/
def rowName (row : Nat) : Option (Char × Char) :=
  if row = 0 then none
  else match ['A', 'B', 'C', 'D'][(row - 1) / 16]?, secondLetters[(row - 1) % 16]? with
    | some a, some b => some (a, b)
    | _, _ => none

/-- A signal of a block of 2 columns and 4 rows whose first ball is given: the outer rows are GND, and the _P ball is in the lower
column (R781). -/
def blockPin (first : Ball) : PairPin → Ball
  | .txP => ⟨first.row + 1, first.col⟩
  | .txN => ⟨first.row + 1, first.col + 1⟩
  | .rxP => ⟨first.row + 2, first.col⟩
  | .rxN => ⟨first.row + 2, first.col + 1⟩

/-- The block of comb link n, 0 to 127 (R782). -/
def combBlock (n : Nat) : Ball :=
  let m := n % 64
  ⟨(if n < 64 then 1 else 57) + (if m < 32 then 0 else 4), 2 * (m % 32) + 1⟩

/-- A ball of comb link n: CLnnn_TX_P and the others (R782). -/
def combBall (n : Nat) (p : PairPin) : Ball := blockPin (combBlock n) p

/-- The block of lane j, 0 to 23, of the left or the right side (R783). -/
def laneBlock (right : Bool) (j : Nat) : Ball :=
  ⟨9 + 4 * (j % 12), if right then 63 - 2 * (j / 12) else 1 + 2 * (j / 12)⟩

/-- A ball of a lane of fabric port f, 0 to 7 (R783). -/
def fabricBall (f lane : Nat) (p : PairPin) : Ball :=
  blockPin (if f < 6 then laneBlock false (4 * f + lane) else laneBlock true (4 * (f - 6) + lane)) p

/-- A ball of a lane of peer link l, 0 to 3 (R783). -/
def peerBall (l lane : Nat) (p : PairPin) : Ball := blockPin (laneBlock true (8 + 4 * l + lane)) p

/-- The ball of a place of a DRAM channel's block: block row 0 to 15, block column 0 to 5, subchannel A or B (R785). -/
def dramBall (channel : Nat) (subB : Bool) (r c : Nat) : Ball :=
  let first := 9 + 12 * (channel % 4)
  ⟨if channel < 4 then 24 - r else 41 + r, if subB then first + 11 - c else first + c⟩

/-- The block row of nibble i, 0 to 9 (R785). -/
def nibbleRow (i : Nat) : Nat := if i < 5 then 4 + i else 5 + i

/-- Data bit n of a subchannel: 0 to 31 DQ, 32 to 39 CB (R785). -/
def dqBall (channel : Nat) (subB : Bool) (n : Nat) : Ball :=
  dramBall channel subB (nibbleRow (n / 4)) ([0, 1, 4, 5].getD (n % 4) 0)

/-- A strobe of nibble i (R785). -/
def dqsBall (channel : Nat) (subB neg : Bool) (i : Nat) : Ball := dramBall channel subB (nibbleRow i) (if neg then 3 else 2)

/-- Signals of a DRAM channel's block (R785). -/
inductive DramPin where
  /-- CA0 to CA6 of a subchannel. -/
  | ca (subB : Bool) (n : Nat)
  /-- PAR of a subchannel. -/
  | par (subB : Bool)
  /-- CS_N0 to CS_N3 of a subchannel. -/
  | csN (subB : Bool) (n : Nat)
  /-- CK_P0, CK_N0, CK_P1, CK_N1 of a subchannel. -/
  | ck (subB neg : Bool) (n : Nat)
  /-- DQ of a subchannel, or from 32 its CB. -/
  | dq (subB : Bool) (n : Nat)
  /-- DQS_P or DQS_N of a nibble. -/
  | dqs (subB neg : Bool) (i : Nat)
  /-- RESET_N, one per channel. -/
  | resetN
  /-- ALERT_N, one per channel. -/
  | alertN
  /-- ZQ, one per channel. -/
  | zq
  deriving DecidableEq, Repr

/-- The supplies of the package (R788). -/
inductive Rail where
  /-- VDD_AON. -/
  | aon
  /-- VDD_CORE. -/
  | core
  /-- VDD_SRAM. -/
  | sram
  /-- VDD_SD. -/
  | sd
  /-- VDDA_SD. -/
  | sdA
  /-- VDDQ_DDR. -/
  | ddr
  /-- VDD_WAX. -/
  | wax
  /-- VDD_FLASH. -/
  | flash
  /-- VDD_IO. -/
  | io
  /-- VDD_HCB. -/
  | hcb
  deriving DecidableEq, Repr

/-- The signals of row BJ (R786). -/
inductive CorePin where
  /-- CHIP_RESET_N. -/
  | chipResetN
  /-- WAKE_N. -/
  | wakeN
  /-- PAD_HOLD_OUT. -/
  | padHoldOut
  /-- HOLDUP_SENSE. -/
  | holdupSense
  /-- TAMPER_MESH_A. -/
  | tamperMeshA
  /-- TAMPER_RET. -/
  | tamperRet
  /-- TAMPER_MESH_B. -/
  | tamperMeshB
  /-- XTAL_IN. -/
  | xtalIn
  /-- XTAL_OUT. -/
  | xtalOut
  /-- SB_SCL. -/
  | sbScl
  /-- SB_SDA. -/
  | sbSda
  /-- REFCLK_P, REFCLK_N. -/
  | refclk (neg : Bool)
  /-- HCB0_P, HCB0_N, HCB1_P, HCB1_N. -/
  | hcb (bus : Nat) (neg : Bool)
  /-- MG_TX_P, MG_TX_N, MG_RX_P, MG_RX_N. -/
  | mg (p : PairPin)
  /-- MG_MDC. -/
  | mgMdc
  /-- MG_MDIO. -/
  | mgMdio
  /-- MG_PHY_RESET_N. -/
  | mgPhyResetN
  /-- MG_INT_N. -/
  | mgIntN
  /-- TCK. -/
  | tck
  /-- TMS. -/
  | tms
  /-- TDI. -/
  | tdi
  /-- TDO. -/
  | tdo
  /-- TRST_N. -/
  | trstN
  deriving DecidableEq, Repr

/-- What a ball carries (R781 to R787). -/
inductive BallUse where
  /-- A serial lane signal: the first ball of its block, and the signal. -/
  | lane (block : Ball) (p : PairPin)
  /-- A signal of a DRAM channel. -/
  | dram (channel : Nat) (p : DramPin)
  /-- A signal of row BJ. -/
  | core (p : CorePin)
  /-- A supply. -/
  | supply (r : Rail)
  /-- GND. -/
  | gnd
  /-- Reserved: the board leaves it unconnected (R787). -/
  | reserved
  deriving DecidableEq, Repr

/-- A ball of a serial block whose first ball is given (R781). -/
def laneUse (first b : Ball) : BallUse :=
  match b.row - first.row, b.col - first.col with
  | 1, 0 => .lane first .txP
  | 1, _ => .lane first .txN
  | 2, 0 => .lane first .rxP
  | 2, _ => .lane first .rxN
  | _, _ => .gnd

/-- A lane supply column (R784). -/
def laneSupply (b : Ball) : BallUse :=
  if b.col = 6 || b.col = 59 then .supply .sd
  else if b.col = 7 || b.col = 58 then if b.row < 25 then .supply .sd else if b.row < 41 then .supply .sdA else .gnd
  else .gnd

/-- A ball of a nibble row (R785). -/
def nibbleUse (subB : Bool) (i : Nat) : Nat → DramPin
  | 0 => .dq subB (4 * i)
  | 1 => .dq subB (4 * i + 1)
  | 2 => .dqs subB false i
  | 3 => .dqs subB true i
  | 4 => .dq subB (4 * i + 2)
  | _ => .dq subB (4 * i + 3)

/-- The table of a subchannel, by block row and block column (R785). -/
def dramUse (k : Nat) (subB : Bool) (r c : Nat) : BallUse :=
  let power := fun (gnd : Bool) => if gnd then BallUse.gnd else .supply .ddr
  match r with
  | 0 => .dram k (.ca subB c)
  | 1 => .dram k (if c = 0 then .ca subB 6 else if c = 1 then .par subB else .csN subB (c - 2))
  | 2 => if c < 4 then .dram k (.ck subB (c % 2 == 1) (c / 2))
    else if subB then if c = 4 then .dram k .alertN else .reserved
    else .dram k (if c = 4 then .resetN else .zq)
  | 3 => power (c % 2 == 0)
  | 9 => power (c % 2 == 1)
  | 15 => power (c != 2 && c != 3)
  | _ => .dram k (nibbleUse subB (if r < 9 then r - 4 else r - 5) c)

/-- A ball of the DRAM blocks (R785). -/
def dramAt (b : Ball) : BallUse :=
  let k := (b.col - 9) / 12 + if b.row < 25 then 0 else 4
  let c := (b.col - 9) % 12
  dramUse k (6 ≤ c) (if b.row < 25 then 24 - b.row else b.row - 41) (if c < 6 then c else 11 - c)

/-- Row BJ from column 9 (R786). -/
def rowBJ : List BallUse :=
  [.supply .aon, .core .chipResetN, .core .wakeN, .core .padHoldOut, .core .holdupSense, .core .tamperMeshA, .core .tamperRet,
    .core .tamperMeshB] ++
  [.supply .aon, .core .xtalIn, .core .xtalOut, .supply .aon, .core .sbScl, .core .sbSda, .supply .aon, .core (.refclk false),
    .core (.refclk true)] ++
  [.supply .hcb, .core (.hcb 0 false), .core (.hcb 0 true), .supply .hcb, .core (.hcb 1 false), .core (.hcb 1 true), .supply .hcb,
    .supply .hcb] ++
  [.core (.mg .txP), .core (.mg .txN), .core (.mg .rxP), .core (.mg .rxN), .supply .io, .core .mgMdc, .core .mgMdio,
    .core .mgPhyResetN, .core .mgIntN, .supply .io] ++
  [.core .tck, .core .tms, .core .tdi, .core .tdo, .core .trstN, .supply .io, .supply .io] ++
  [.supply .flash, .supply .flash, .supply .flash, .supply .flash, .reserved, .reserved]

/-- A ball of the core region: row BJ is row 25, CG 39 and CH 40 (R786). -/
def coreAt (b : Ball) : BallUse :=
  if b.row = 25 then rowBJ.getD (b.col - 9) .reserved
  else if b.row = 39 then .supply .sram
  else if b.row = 40 && b.col < 25 then .supply .wax
  else if (b.row + b.col) % 2 = 0 then .supply .core
  else .gnd

/-- What a ball of the array carries (R780 to R786). -/
def ballUse (b : Ball) : BallUse :=
  if b.row < 9 || 56 < b.row then
    laneUse ⟨(if b.row < 9 then 1 else 57) + 4 * ((b.row - 1) / 4 % 2), 2 * ((b.col - 1) / 2) + 1⟩ b
  else if b.col < 5 || 60 < b.col then laneUse ⟨9 + 4 * ((b.row - 9) / 4), 2 * ((b.col - 1) / 2) + 1⟩ b
  else if b.col < 9 || 56 < b.col then laneSupply b
  else if b.row < 25 || 40 < b.row then dramAt b
  else coreAt b

/-- How many of the 4,096 balls carry what the test says (R786). -/
def ballCount (p : BallUse → Bool) : Nat :=
  (List.range 4096).countP fun i => p (ballUse ⟨i / 64 + 1, i % 64 + 1⟩)

end Sys2Proof.Machine
end

