-- ==== Sys2Proof/Machine/WaxLines.lean ====
section
/-! DEFINITION. Wax by bytes: its fixed regions (R160), the 64-byte lines that the records, journal entries, event records and ledger
records fill (R161), and the lines as the wax controller stores them, encrypted under the wax key (R163, R164). -/

namespace Sys2Proof.Machine

/-- The fixed regions of wax (R160). -/
inductive WaxRegion where
  /-- Local data ring. -/
  | dataRing
  /-- Peer mirror ring. -/
  | mirrorRing
  /-- Commit ring, own half. -/
  | ownHalf
  /-- Commit ring, shadow half. -/
  | shadowHalf
  /-- Imprint area. -/
  | imprint
  /-- Event log. -/
  | eventLog
  /-- Stripe and reshape journal: own half, then shadow half. -/
  | journal
  /-- Boot ledger. -/
  | ledger
  /-- Key seal. -/
  | keySeal
  /-- Reserved. -/
  | reserved
  deriving DecidableEq, Repr

/-- The regions in the order of their offsets, with their offsets and their sizes in MiB (R160). -/
def waxRegions : List (WaxRegion × Nat × Nat) :=
  [(.dataRing, 0x00000000, 1536), (.mirrorRing, 0x60000000, 1536), (.ownHalf, 0xC0000000, 256), (.shadowHalf, 0xD0000000, 256),
    (.imprint, 0xE0000000, 256), (.eventLog, 0xF0000000, 64), (.journal, 0xF4000000, 64), (.ledger, 0xF8000000, 1),
    (.keySeal, 0xF8100000, 1), (.reserved, 0xF8200000, 126)]

/-- The region of a wax byte offset; none at or above 4 GiB (R160). -/
def waxRegion (off : Nat) : Option WaxRegion :=
  (waxRegions.find? fun r => r.2.1 ≤ off && off < r.2.1 + r.2.2 * 2 ^ 20).map (·.1)

/-- The wax controller encrypts the lines of a region (R163). -/
def WaxRegion.encrypted : WaxRegion → Bool
  | .dataRing => true
  | .mirrorRing => true
  | .ownHalf => true
  | .shadowHalf => true
  | .imprint => true
  | .journal => true
  | .eventLog => false
  | .ledger => false
  | .keySeal => false
  | .reserved => false

/-- What lies in wax: its first byte offset, its length, and its bytes; none where its lines are torn or failed (R161, R162). -/
structure WaxItem where
  /-- First byte offset. -/
  off : Nat
  /-- Bytes it takes. -/
  len : Nat
  /-- Its bytes. -/
  body : Option Bytes
  deriving DecidableEq, Repr

/-- A record in wax, of a head's own rings or of the peer's copy in the mirror ring and the shadow half (R160, R165, R172). -/
def recItem (own : Bool) (head : Nat) (r : WaxRec) : WaxItem :=
  ⟨waxOff own r.ring r.off, 64 * r.units,
    if r.torn then none else some (recBytes r.fmt head r.ordinal r.epoch r.tick r.domain r.continued r.body)⟩

/-- A PAD record in wax; the epoch and the tick it was written with are no state of the model (R166, log 90). -/
def padItem (own : Bool) (p : WaxRing × Nat × Nat) : WaxItem := ⟨waxOff own p.1 p.2.1, 64 * p.2.2, none⟩

/-- A journal entry in wax, own half or shadow half (R224). -/
def journalItem (own : Bool) (e : JournalEntry) : WaxItem :=
  ⟨(if own then 0xF4000000 else 0xF6000000) + 64 * e.off, 64 * e.units, some e.bytes⟩

/-- The imprint header (R757); empty when nothing was written since the start. -/
def State.imprintHeader (s : State) : Bytes :=
  let h := le 4 0x50524D49 ++ [1#8] ++ le 1 s.pw.imprint ++ le 2 s.headId ++ le 8 s.bt.startNum ++ le 8 s.pw.imprintTick ++
    le 4 (80 * 2 ^ 20) ++ zeros 32
  h ++ crcBytes h

/-- Everything that State says lies in wax, newer things first where a later one has been written over an earlier one (R160). -/
def State.waxItems (s : State) : List WaxItem :=
  s.wx.own.reverse.map (recItem true s.headId) ++ s.wx.tail.map (recItem true s.headId) ++ s.wx.pads.map (padItem true) ++
    s.wx.shadow.reverse.map (fun r => recItem false s.peerId r.asRec) ++ s.wx.shPads.map (padItem false) ++
    s.wx.journal.reverse.map (journalItem true) ++ s.wx.shJournal.reverse.map (journalItem false) ++
    [⟨0xE0000000, 64, if s.pw.imprintBad then none else some s.imprintHeader⟩] ++
    s.ev.ring.map (fun r => ⟨0xF0000000 + 64 * r.slot, 64, some (r.rep.record r.seq)⟩) ++
    s.bt.ledger.map fun r => ⟨0xF8000000 + 64 * (r.seq % 16384), 64, some r.bytes⟩

/-- The clear 64 bytes of the wax line at an offset: those of what State says lies there, and otherwise a free value (R161, log 90). -/
def State.clearLine (s : State) (off : Nat) : Bytes :=
  match s.waxItems.find? fun i => i.off ≤ off && off < i.off + i.len with
  | some i => match i.body with
    | some b => fit 64 (b.drop (off - i.off))
    | none => Config.waxLine off
  | none => Config.waxLine off

/-- A line as the wax controller stores it at an offset: AES-256-XTS under the wax key with the data unit of one line and the line's
wax byte offset as tweak, in the regions that it encrypts (R163). -/
def sealLine (key : Bytes) (off : Nat) (line : Bytes) : Bytes :=
  if (waxRegion off).any (·.encrypted) then xts true key off line else line

/-- A stored line as the wax controller reads it (R163). -/
def openLine (key : Bytes) (off : Nat) (line : Bytes) : Bytes :=
  if (waxRegion off).any (·.encrypted) then xts false key off line else line

/-- The stored 64 bytes of the wax line at an offset; an encrypted region is written under the wax key, and without it nothing can be
told of its lines (R163, R164). -/
def State.storedWaxLine (s : State) (off : Nat) : Option Bytes :=
  match waxRegion off, s.ks.wax with
  | none, _ => none
  | some r, key => if r.encrypted then key.map fun k => sealLine k off (s.clearLine off) else some (s.clearLine off)

/-- What the wax controller reads at a line: nothing in an encrypted region while the head has no wax key (R164). -/
def State.readWaxLine (s : State) (off : Nat) (stored : Bytes) : Option Bytes :=
  match waxRegion off, s.ks.wax with
  | none, _ => none
  | some r, key => if r.encrypted then key.map fun k => openLine k off stored else some stored

end Sys2Proof.Machine
end

