-- ==== Sys2Proof/Tests/Slice0.lean ====
section
/-! SUPPORT. Tests: what well-formedness refuses, a few results that the rules of spec/ give, and for each obligation states and operands
that meet its hypotheses. -/

open Sys2Proof Sys2Proof.Machine

namespace Sys2Proof.Tests

set_option maxRecDepth 20000
set_option Elab.async false
set_option linter.unusedVariables false

/-! ## Evidence -/

/-- The state that a next outcome holds. -/
def nextOf (s : State) : Host.Outcome State Fault Refusal → State
  | .next t => t
  | _ => s

/-- The outcome is a next state. -/
def isNext : Host.Outcome State Fault Refusal → Bool
  | .next _ => true
  | _ => false

theorem next_of {o : Host.Outcome State Fault Refusal} (h : isNext o = true) : o = .next (nextOf default o) := by
  cases o <;> simp_all [isNext, nextOf]

theorem some_of {α : Type} {o : Option α} (h : o.isSome = true) : o = some (o.get h) := (Option.some_get h).symm

theorem cons_of {α : Type} {l : List α} (h : l ≠ []) : l = l.head h :: l.tail := (List.cons_head_tail h).symm

theorem cons3_of {α β γ : Type} {l : List (α × β × γ)} (h : l ≠ []) : l = ((l.head h).1, (l.head h).2.1, (l.head h).2.2) :: l.tail :=
  cons_of h

theorem pair_of {α β : Type} (p : α × β) : p = (p.1, p.2) := rfl

theorem pair_of2 {α β : Type} {p : α × β} {b : β} (h : p.2 = b) : p = (p.1, b) := by subst h; rfl

theorem pair_some {α β : Type} {p : α × Option β} (h : p.2.isSome = true) : p = (p.1, some (p.2.get h)) := by
  rw [Option.some_get]

/-- The error that a result holds. -/
def errOf {α : Type} : Except VStatus α → Option VStatus
  | .error e => some e
  | .ok _ => none

theorem error_of {α : Type} {x : Except VStatus α} (h : (errOf x).isSome = true) : x = .error ((errOf x).get h) := by
  cases x with
  | error e => rfl
  | ok a => cases h

theorem some2_of {α β : Type} {o : Option (α × β)} (h : o.isSome = true) : o = some ((o.get h).1, (o.get h).2) := some_of h

theorem some3_of {α β γ : Type} {o : Option (α × β × γ)} (h : o.isSome = true) :
    o = some ((o.get h).1, (o.get h).2.1, (o.get h).2.2) := some_of h

/-- The checks of `Passes` as a test. -/
def passesB (s : State) (op : Nat) (q : VReq) : Bool :=
  !s.deaf q.via && s.checkSession op q == none && (s.takeIn op q).checkOp op q == none &&
    (!(vop op).any (·.confirm) || (vop op).any fun o => (s.takeIn op q).confirmed o q)

theorem runs_of {s : State} {op : Nat} {q : VReq} (h : passesB s op q = true) : Runs s op q (s.taken op q) := by
  simp only [passesB, Bool.and_eq_true, Bool.not_eq_true', Bool.or_eq_true, beq_iff_eq] at h
  obtain ⟨⟨⟨h1, h2⟩, h3⟩, h4⟩ := h
  exact ⟨⟨h1, h2, h3, fun h5 => h4.resolve_left (by simp [h5])⟩, rfl⟩

theorem reaches_of {s : State} {e : Sqe} (h : (s.ctrl? e.ctrl).isSome = true) (h2 : s.md.stopped = false) :
    Reaches s e ((s.ctrl? e.ctrl).get h) (s.stat 0x0801 (idx2 e.opc e.ctrl) 0 1) := ⟨some_of h, h2, rfl⟩

/-- A decided conjunction before what follows it. -/
theorem pre2 {a b z : Prop} (u : a ∧ b) (v : z) : a ∧ b ∧ z := ⟨u.1, u.2, v⟩

theorem pre3 {a b c z : Prop} (u : a ∧ b ∧ c) (v : z) : a ∧ b ∧ c ∧ z := ⟨u.1, pre2 u.2 v⟩

theorem pre4 {a b c d z : Prop} (u : a ∧ b ∧ c ∧ d) (v : z) : a ∧ b ∧ c ∧ d ∧ z := ⟨u.1, pre3 u.2 v⟩

theorem pre5 {a b c d e z : Prop} (u : a ∧ b ∧ c ∧ d ∧ e) (v : z) : a ∧ b ∧ c ∧ d ∧ e ∧ z := ⟨u.1, pre4 u.2 v⟩

theorem pre6 {a b c d e f z : Prop} (u : a ∧ b ∧ c ∧ d ∧ e ∧ f) (v : z) : a ∧ b ∧ c ∧ d ∧ e ∧ f ∧ z := ⟨u.1, pre5 u.2 v⟩

theorem pre7 {a b c d e f g z : Prop} (u : a ∧ b ∧ c ∧ d ∧ e ∧ f ∧ g) (v : z) : a ∧ b ∧ c ∧ d ∧ e ∧ f ∧ g ∧ z := ⟨u.1, pre6 u.2 v⟩

theorem pre8 {a b c d e f g h z : Prop} (u : a ∧ b ∧ c ∧ d ∧ e ∧ f ∧ g ∧ h) (v : z) : a ∧ b ∧ c ∧ d ∧ e ∧ f ∧ g ∧ h ∧ z := ⟨u.1, pre7 u.2 v⟩

theorem pre9 {a b c d e f g h i z : Prop} (u : a ∧ b ∧ c ∧ d ∧ e ∧ f ∧ g ∧ h ∧ i) (v : z) : a ∧ b ∧ c ∧ d ∧ e ∧ f ∧ g ∧ h ∧ i ∧ z := ⟨u.1, pre8 u.2 v⟩

theorem pre10 {a b c d e f g h i j z : Prop} (u : a ∧ b ∧ c ∧ d ∧ e ∧ f ∧ g ∧ h ∧ i ∧ j) (v : z) : a ∧ b ∧ c ∧ d ∧ e ∧ f ∧ g ∧ h ∧ i ∧ j ∧ z := ⟨u.1, pre9 u.2 v⟩

theorem pre11 {a b c d e f g h i j k z : Prop} (u : a ∧ b ∧ c ∧ d ∧ e ∧ f ∧ g ∧ h ∧ i ∧ j ∧ k) (v : z) : a ∧ b ∧ c ∧ d ∧ e ∧ f ∧ g ∧ h ∧ i ∧ j ∧ k ∧ z := ⟨u.1, pre10 u.2 v⟩

/-! ## A head that runs -/

/-- An owner's session on the sideband. -/
def sess : Session := ⟨7, .sb, .owner, .owner, [], 0, 0, none, [], none, none⟩
/-- A session on MG. -/
def sessMg : Session := ⟨6, .mg 2, .owner, .owner, [], 0, 0, some 9, [], none, none⟩
/-- A domain of side A. -/
def dom : Domain := { (default : Domain) with id := 1, side := .a, home := .a, horizon := 24 }
/-- A namespace of it. -/
def nsp : Namespace := ⟨1, 1, 65536, .hint, 0, 1, 1⟩
/-- A snapshot of it. -/
def snp : Snapshot := { (default : Snapshot) with nsid := 1, id := 1, size := 65536, depth := 1 }
/-- The domain's keys. -/
def dkeys : DomainKeys := ⟨1, List.replicate 16 0, [(1, List.replicate 64 1)], [(1, List.replicate 32 2)], 1, 1, true, 0, false, false⟩
/-- A shelf block of power state On. -/
def blk (h : Nat) : ShelfBlock := { resetBlock with hive := h, power := 2 }
/-- The brood hive 0 and the honey hive 1, ready. -/
def hiv (n : Nat) : Hive :=
  { (default : Hive) with id := n, brood := n == 0, inService := true, owner := if n = 0 then none else some .a, state := .ready,
                          block := some (blk n), poweredAt := some 0 }
/-- A comb link that is up. -/
def lnk (n : Nat) : Link :=
  { (default : Link) with link := n, state := .up, bridgeSeen := true, hive := n / 16, slot := n % 16, dieCount := 2, descs := [resetDesc, resetDesc],
                          owner := 0xFFFF, comb := .working, nextTag := 1 }
/-- A powered bridge with both ports up. -/
def brg (n : Nat) : Bridge :=
  { resetBridge n with powered := true, hive := n / 16, slot := n % 16, portA := { resetPort with up := true },
                       portB := { resetPort with up := true } }
/-- A frame of the session. -/
def frm : Frame := { (default : Frame) with id := 5, session := 7, state := .opened }
/-- A host controller. -/
def ctl : Ctrl := { (default : Ctrl) with id := 3, nqn := [1], kato := 5000, queues := [0, 1] }
/-- A head in Full that has started. -/
def hub : State :=
  { State.reset with
    vk := { State.reset.vk with sessions := [sess, sessMg], nextHandle := 8, nextFrame := 6, frames := [frm], mgConns := [2], attConns := [4], settings := [(0x03000110, [1])] }
    md := { State.reset.md with mode := some .full }
    ck := { State.reset.ck with now := 10 ^ 15, tick := 10 ^ 9 }
    wx := { State.reset.wx with replayed := true }
    dr := { State.reset.dr with trained := true }
    mc := { State.reset.mc with base := 4096, size := 8192 }
    vo := { State.reset.vo with domains := [dom], nss := [nsp], snaps := [snp] }
    ks := { State.reset.ks with sealState := 1, recs := [dkeys], colony := { prev := none, cur := some (1, [1]), pend := none, changedAt := 0 } }
    hv := { State.reset.hv with hives := [hiv 0, hiv 1] }
    cl := { State.reset.cl with links := (List.range 8).map lnk ++ [lnk 16], bridges := (List.range 8).map brg ++ [brg 16] }
    nv := { State.reset.nv with ctrls := [ctl], conns := [{ (default : Conn) with id := 1, state := .ready, ctrl := some 3, qid := 1 }] }
    bt := { State.reset.bt with executing := 0, inService := true, attestKey := true } }

/-- The head while it accepts new work. -/
def serving : State :=
  (hub.md' fun m => { m with bucket := 1, landBucket := 1 }).pr' fun p => { p with joined := true, mirror := true, leaseEnd := 10 ^ 9 + 20 }

/-- The head with a chain over its shadow. -/
def chained : State := hub.pr' fun p => { p with shChain := [1] }
/-- A digest that continues it, with another count of the vault. -/
def digestOn : DigestMsg := ⟨1, 0, 3, 1, 0, chainNext chained.pr.shChain 1 0 (chained.shadowMarks chained.pr.shCut 0), 0, [], []⟩

theorem digestOn_own :
    digestOn.own = chainNext chained.pr.shChain digestOn.tick digestOn.cutoff (chained.shadowMarks chained.pr.shCut digestOn.cutoff) := by
  simp only [digestOn]

/-- The head whose open stripe 4 has a member that failed to program once, with a free block set beside it. -/
def failing : State :=
  { hub with
    sp := { hub.sp with opens := [{ (default : OpenStripe) with ord := 4, members := [⟨0, 0, 0, 0, 0, 0⟩], prog := [.failedOnce] }] }
    me := { hub.me with sets := [{ (default : BlockSet) with link := 0, die := 0, block := 1, state := .free }] } }
/-- A request of the session. -/
def ask (ps : List (Nat × Bytes)) : VReq := ⟨.sb, 7, 1, 0, ps.map fun p => ⟨true, p.1, p.2⟩, []⟩
/-- The base point of P-384 as a public key. -/
def pointG : Bytes := p384Enc (some p384G)
/-- A confirmation code. -/
def code : Bytes := [1, 2, 3, 4, 5, 6, 7, 8]
/-- The same request with the code at a position. -/
def askCode (pos : Nat) (ps : List (Nat × Bytes)) : VReq := ask (ps ++ [(pos, code)])
/-- The code issued for such a request. -/
def coded (s : State) (op : Nat) (ps : List (Nat × Bytes)) : State :=
  s.session' 7 fun x => { x with confirm := some ⟨op, 0, (ask ps).params.map fun t => { t with required := false }, [], code, s.ck.now⟩ }
/-- A submission queue entry of the controller. -/
def sqe (opc : Nat) : Sqe := { (default : Sqe) with conn := 1, ctrl := 3, qid := 1, cid := 9, opc := opc, nsid := 1 }
/-- A host command of the controller. -/
def hcmd (k : CmdKind) : HostCmd := ⟨3, 1, 9, k, none, 0, 0, none⟩
/-- A frame of a type, sound as its sender completes it. -/
def frame (type : Nat) (g : LFrame → LFrame) : LFrame := (g { (default : LFrame) with type := type, tag := 1 }).sealed
/-- Chunk 5 of domain 1 as it lies in its envelope: the byte 1 in a Zstandard frame, sealed under the domain's key. -/
def env5 : Bytes :=
  let body := [69, 73, 190, 199, 80, 47, 196, 22, 100, 236, 181, 118, 236, 179, 20, 218]
  let h := le 4 0x4B484354 ++ [1, 0] ++ le 2 1 ++ le 6 5 ++ le 2 1 ++ le 4 1 ++ le 4 14 ++ le 4 16 ++ zeros 28 ++ crcBytes body
  h ++ crcBytes h ++ body ++ zeros 48
/-- Stripe 4 of the brood hive, with one member. -/
def str4 : Stripe := { (default : Stripe) with ord := 4, members := [⟨0, 0, 0, 0, 0, 0⟩], used := 2, live := 1, placed := true, envs := [⟨5, 1, 0, 2, true, false⟩] }
/-- The head with that envelope at offset 0 of the stripe. -/
def flashed : State :=
  { serving with
    sp := { serving.sp with table := [str4] }
    rd := { serving.rd with
      filterReady := true
      chunks := [{ (default : Chunk) with id := 5, domain := 1, state := .stored, manifest := true, place := ⟨4, 0⟩, len := 2, refs := 1 }] }
    cl := { serving.cl with
      bridges := serving.cl.bridges.map fun b =>
        if b.link = 0 then { b with pages := [⟨0, 0, 0, 0, env5, footer 1 .brood 0 4 0 1 0 0 0 0 0 0 0 2, false, 0⟩] } else b } }
/-- A task header. -/
def hdr (op : TaskOp) : TaskHdr := ⟨op, 0, 1, 0, 0, 0, 0, 0⟩
/-- A locator of domain 1, key generation 1, stripe 4, offset 0 and length 16,384, without its tag. -/
def locHead : Bytes := [1, 0] ++ le 2 1 ++ [0, 1, 0, 0] ++ le 6 4 ++ le 2 0 ++ le 8 16384
/-- The locator's tag under the domain's locator key. -/
def locMac : Bytes := [205, 20, 121, 102, 232, 86, 221, 111]
/-- An entry that names the locator. -/
def locE (opc xfer c5 : Nat) : Sqe :=
  let w := fun i => BitVec.ofNat 32 (fld (locHead ++ locMac) (4 * i) 4)
  { (default : Sqe) with conn := 1, ctrl := 3, qid := 1, cid := 9, opc := opc, nsid := 0xFFFFFFFF, cdw5 := BitVec.ofNat 32 c5, xfer := xfer
                         cdw2 := w 0, cdw3 := w 1, cdw10 := w 2, cdw11 := w 3, cdw12 := w 4, cdw13 := w 5, cdw14 := w 6, cdw15 := w 7 }

/-- A put of four bytes, with a length that its descriptor names for the object. -/
def putE (opc part len : Nat) : Sqe :=
  let h := zeros 15 ++ [7] ++ le 2 1 ++ le 2 0 ++ le 4 part ++ le 8 len ++ le 4 4 ++ zeros 24
  { (default : Sqe) with conn := 1, ctrl := 3, qid := 1, cid := 9, opc := opc, nsid := 0xFFFFFFFF, cdw10 := 1, xfer := 68
                         data := h ++ crcBytes h ++ zeros 4 }

/-- The checks of a locator but its tag, as a test: the key under which the tag is right. -/
def locB (s : State) (c : Ctrl) (l key : Bytes) : Bool :=
  !(fld l 0 1 != 1 || fld l 1 1 > 1 || fld l 6 2 != 0) && !((s.domain? (fld l 2 2)).isNone || !s.admits (fld l 2 2) c.nqn) &&
    (s.pathStatus (fld l 2 2)).isNone &&
    (((s.keyRec (fld l 2 2)).map (·.locs)).bind fun ks => ks.find? fun k => k.1 % 256 == fld l 5 1) == some (1, key)

theorem locCheck_of {s : State} {c : Ctrl} {l key : Bytes} (ht : locTag key l = slice l 24 8) (h : locB s c l key = true) :
    s.locCheck c l = (s, none) := by
  simp only [locB, Bool.and_eq_true, Bool.not_eq_true', beq_iff_eq, Option.isNone_iff_eq_none] at h
  obtain ⟨⟨⟨h1, h2⟩, h3⟩, h4⟩ := h
  simp [State.locCheck, h1, h2, h3, h4, ht]

/-! ## Ill-formed commands -/

theorem test_refuses_hive : wellFormed (.foldRow 8) = false ∧ wellFormed (.foldRow 7) = true := by decide
theorem test_refuses_link : wellFormed (.wearMove 128) = false ∧ wellFormed (.wearMove 127) = true := by decide
theorem test_refuses_die : wellFormed (.dieTaskDone 0 128 true) = false ∧ wellFormed (.dieTaskDone 0 127 true) = true := by decide
theorem test_refuses_block : wellFormed (.blockEraseDone 0 0 65536) = false ∧ wellFormed (.blockEraseDone 0 0 65535) = true := by decide
theorem test_refuses_plane : wellFormed (.fabricPortFail 4) = false ∧ wellFormed (.fabricPortFail 3) = true := by decide
theorem test_refuses_bus : wellFormed (.hcbPoll 2) = false ∧ wellFormed (.hcbPoll 1) = true := by decide
theorem test_refuses_lane : wellFormed (.stripeOpen 0 8 .landing) = false ∧ wellFormed (.stripeOpen 0 7 .landing) = true := by decide
theorem test_refuses_channel : wellFormed (.dramUncorrectable 8 (some 0)) = false ∧ wellFormed (.dramUncorrectable 7 (some 0)) = true := by decide
theorem test_refuses_word32 : wellFormed (.sessionIdleExpiry (2 ^ 32)) = false ∧ wellFormed (.sessionIdleExpiry (2 ^ 32 - 1)) = true := by
  decide
theorem test_refuses_domain : wellFormed (.domainKeyFetch 65536) = false ∧ wellFormed (.domainKeyFetch 65535) = true := by decide
theorem test_refuses_nsid : wellFormed (.mergeCommit 0 0) = false ∧ wellFormed (.mergeCommit 16385 0) = false ∧
    wellFormed (.mergeCommit 16384 0) = true := by decide
theorem test_refuses_chunk : wellFormed (.postProcess (2 ^ 48)) = false ∧ wellFormed (.postProcess (2 ^ 48 - 1)) = true := by decide
theorem test_refuses_ordinal : wellFormed (.chunkIngest (2 ^ 65)) = false ∧ wellFormed (.chunkIngest (2 ^ 65 - 1)) = true := by decide
theorem test_refuses_ctx : wellFormed (.contextFail 65536) = false ∧ wellFormed (.contextFail 65535) = true := by decide
theorem test_refuses_path : wellFormed (.pathIdleFree 8192) = false ∧ wellFormed (.pathIdleFree 8191) = true := by decide
theorem test_refuses_apiary : wellFormed (.leave 0 128) = false ∧ wellFormed (.leave 0 127) = true := by decide
theorem test_refuses_head : wellFormed (.arbitrate 0 65536 true) = false ∧ wellFormed (.arbitrate 0 65535 true) = true := by decide
theorem test_refuses_group : wellFormed (.groupLapse 65536) = false ∧ wellFormed (.groupLapse 65535) = true := by decide
theorem test_refuses_code : wellFormed (.bucketRefill 65536) = false ∧ wellFormed (.bucketRefill 65535) = true := by decide
theorem test_refuses_seq : wellFormed (.hcbStatus 0 .a 256) = false ∧ wellFormed (.hcbStatus 0 .a 255) = true := by decide
theorem test_refuses_i3c : wellFormed (.entdaa 7) = false ∧ wellFormed (.entdaa 128) = false ∧ wellFormed (.entdaa 8) = true := by decide
theorem test_refuses_offset : wellFormed (.sbRegisterWrite 65536 0) = false ∧ wellFormed (.sbRegisterWrite 65535 0) = true := by decide
theorem test_refuses_register : wellFormed (.regRead 0 .a (frame 5 fun f => { f with off := 0x140000 }) 1) = false ∧
    wellFormed (.regRead 0 .a (frame 5 fun f => { f with off := 0x13FFFC }) 1) = true := by decide +kernel
theorem test_refuses_ptp : wellFormed (.ptpMessage 4 0 0) = false ∧ wellFormed (.ptpMessage 3 0 0) = true := by decide
theorem test_refuses_rail : wellFormed (.supplyFall 10 0 0) = false ∧ wellFormed (.supplyFall 9 0 0) = true := by decide
theorem test_refuses_ctrl : wellFormed (.keepAliveTimeout 65536) = false ∧ wellFormed (.keepAliveTimeout 65535) = true := by decide
theorem test_refuses_sqe : wellFormed (.flush (sqe 256)) = false ∧ wellFormed (.flush { sqe 0 with cid := 65536 }) = false ∧
    wellFormed (.flush (sqe 0)) = true := by decide
theorem test_refuses_frame : wellFormed (.taskRead 0 .a (frame 1 fun f => { f with op := 1, die := 256 })) = false ∧
    wellFormed (.taskRead 0 .a (frame 1 fun f => { f with op := 1, die := 255 })) = true ∧
    wellFormed (.taskErase 0 .a (frame 1 fun f => { f with op := 1 })) = false ∧ wellFormed (.doneFrame 0 (frame 3 id)) = false := by
  decide +kernel
theorem test_refuses_packet : wellFormed (.writeImm { (default : FPkt) with plen := 65536 }) = false ∧
    wellFormed (.writeImm { (default : FPkt) with port := 12 }) = false ∧ wellFormed (.writeImm default) = true := by decide
theorem test_refuses_tag : wellFormed (.taskDeadline 0 65536) = false ∧ wellFormed (.taskDeadline 0 65535) = true := by decide
theorem test_refuses_tlv : wellFormed (.modeGet (ask [(2 ^ 15, [])])) = false ∧ wellFormed (.modeGet (ask [(1, [])])) = true := by decide
theorem test_refuses_request : wellFormed (.modeGet { ask [] with tag := 2 ^ 32 }) = false ∧
    wellFormed (.modeGet { ask [] with session := 2 ^ 32 }) = false ∧ wellFormed (.modeGet { ask [] with frame := 2 ^ 32 }) = false := by
  decide

/-! ## Results that the rules give -/

/-- R8: a head ID is the apiary ID × 2 plus the side. -/
theorem test_head_id : (hub.pr' fun p => { p with apiary := 3, side := .b }).headId = 7 := by decide +kernel
/-- R197: from 0xACE1, bits 15, 13 and 10 are 1 and bit 12 is 0, so b is 1 and the LFSR goes to 0x59C3; there b is 1 again, and then 1. -/
theorem test_lfsr : lfsrStep 0xACE1 = 0x59C3 ∧ lfsrStep 0x59C3 = 0xB387 ∧ lfsrStep 0xB387 = 0x670F := by decide
/-- R195: line 3 × 24,576 + 837 of the window lies in set 837 with tag 3. -/
theorem test_cache_line : hub.cacheAt (4096 + (3 * 24576 + 837) * 256) = (837, 3) := by decide +kernel
/-- R84: serial numbers wrap: 0 is above 0xFFFF_FFFF, and no tag is above itself. -/
theorem test_tags_wrap : serialAbove 0 0xFFFFFFFF = true ∧ serialAbove 7 7 = false ∧ serialAbove 0x80000007 7 = false := by decide
/-- R205: with 8 working combs, member 3 of stripe 14 lies on the comb at position (14 + 3) mod 8 = 1. -/
theorem test_member_link : (memberLinks (List.range 8) 14 6)[3]? = some 1 := by decide
/-- R75: a packet begins with the magic and the version, and the opcode follows at byte 4. -/
theorem test_packet_head : (requestPacket 0x0208 (ask [])).take 8 = [0x4B, 0x56, 1, 0, 0x08, 0x02, 0, 0] := by decide +kernel
/-- R773: SB_INT_EN holds [3:0] of what is written. -/
theorem test_int_en : (nextOf default (exec (.sbRegisterWrite 0x030 0xFFFFFFFF) hub)).sb.intEn = 0xF := by decide +kernel
/-- R198: ZERO_LINE leaves 256 zero bytes in the line of its address. -/
theorem test_zero_line : (nextOf default (exec (.zeroLine 4100) hub)).mc.lines = [(0, 0, 0, zeros 256)] := by decide +kernel
/-- R196: a write through the cache reaches DRAM. -/
theorem test_write_through : (nextOf default (exec (.mapCacheAccess true 4100 [9]) hub)).dr.mem.map (·.2) = [9] := by decide +kernel
/-- R342: FENCE_ADOPT takes the epoch of its argument on a comb that has never been fenced. -/
theorem test_adopt : ((nextOf default (exec (.fenceAdopt 0 .a (frame 1 fun f => { f with op := 0x81, arg := 3 })) hub)).bridge? 0).map (·.epoch) = some 3 := by
  decide +kernel
/-- R91: the handle of a session is fresh, and SESSION_CLOSE takes it away. -/
theorem test_close : ((nextOf default (exec (.sessionClose (ask [])) hub)).vk.sessions.map (·.handle)) = [6] := by decide +kernel
/-- R799: 499 ns of CHIP_RESET_N do nothing, and 1 µs resets. -/
theorem test_reset_pulse : (nextOf default (exec (.chipResetN 499) hub)).md.mode = some .full ∧
    (nextOf default (exec (.chipResetN 1000) hub)).md.mode = none := by decide +kernel
/-- The CRC-32C of the nine digits is 0xE306_9283, the check value of the Castagnoli polynomial. -/
theorem test_crc32c : crc32c (ascii "123456789") = 0xE3069283 := by decide +kernel
/-- The opcode table gives no row bits, so no word spells a command (log 2). -/
theorem test_no_word : decodeTableWord 16 0x0101 = none := by decide
/-- R786: 704 balls carry serial lane signals, 328 VDD_CORE and 1,416 GND. -/
theorem test_ball_counts : ballCount (fun u => match u with | .lane _ _ => true | _ => false) = 704 ∧
    ballCount (· == .supply .core) = 328 ∧ ballCount (· == .gnd) = 1416 := by decide +kernel
/-- R160: the imprint begins at 0xE000_0000, the event log at 0xF000_0000, and 4 GiB lies past the end. -/
theorem test_wax_regions : waxRegion 0xE0000000 = some .imprint ∧ waxRegion 0xEFFFFFFF = some .imprint ∧
    waxRegion 0xF0000000 = some .eventLog ∧ waxRegion 0x100000000 = none := by decide +kernel

/-! ## Hypotheses that cryptography enters -/

theorem tag_base : locTag (List.replicate 32 2) (locE 0 0 0).locator = slice (locE 0 0 0).locator 24 8 := by decide +kernel

theorem tag_right (opc xfer c5 : Nat) :
    locTag (List.replicate 32 2) (locE opc xfer c5).locator = slice (locE opc xfer c5).locator 24 8 := tag_base

/-- A head with a management key, and a session opened for operator privilege. -/
def proving : State :=
  (hub.session' 7 fun x => { x with opened := .operator, priv := .observer }).ks' fun k =>
    { k with mgmt := { k.mgmt with cur := some (1, zeros 32) } }
/-- A request that proves the key. -/
def proof : VReq := ask [(1, aesCmac (zeros 32) (zeros 2 ++ [1]))]

theorem proof_fits : passesB proving 0x0102 proof = true := by decide +kernel

theorem proof_right {s : State} {x : Session} {p : Bytes} (ho : x.opened = .operator) (hc : s.ks.mgmt.cur.isSome = true)
    (hk : s.mgKey = zeros 32) (ht : s.proofText x = zeros 2 ++ [1]) (hp : p = aesCmac (zeros 32) (zeros 2 ++ [1])) :
    s.proofOk x p = true := by
  subst hp
  simp [State.proofOk, ho, hc, hk, ht]

theorem aesCmac_length (k m : Bytes) : (aesCmac k m).length ≤ 16 := by
  unfold aesCmac
  generalize xorBytes _ _ = x
  simp only [aesEncWith, xorBytes, List.length_zipWith, shiftRows, pick, List.length_map]
  exact Nat.le_trans (Nat.min_le_left _ _) (by simp)

/-- A key record of no bytes, wrapped under a colony key. -/
def salt (k : Bytes) : Bytes := zeros 32 ++ aesCmac (kdfC (fit 32 k) "TA7214-wrap-mac" [] 32) (zeros 32)

theorem unwraps_of (w x : Bytes) (h : aesCmac (kdfC w "TA7214-wrap-mac" [] 32) (zeros 32) = x) (hx : x.length ≤ 16) :
    (unwrapRecord w (zeros 32 ++ x)).isSome = true := by
  have hn : fld (zeros 32 ++ x) 12 4 = 0 := rfl
  have ht : (zeros 32 ++ x).take 32 = zeros 32 := rfl
  have hs : slice (zeros 32 ++ x) 32 16 = x.take 16 := rfl
  simp [unwrapRecord, hn, ht, hs, List.take_of_length_le hx, h]

theorem salt_opens (k : Bytes) : (unwrapRecord (fit 32 k) (salt k)).isSome = true :=
  unwraps_of _ _ rfl (aesCmac_length _ _)

theorem salt_unwraps {s : State} {n : Nat} {k : Bytes} (h : s.ks.colony.cur = some (n, k)) : (s.unwrapKeys (salt k)).isSome = true := by
  obtain ⟨e, he⟩ := Option.isSome_iff_exists.mp (salt_opens k)
  simp [State.unwrapKeys, h, he]

/-- A shipped chunk: the frame's length, and the frame under the key of domain 1. -/
def shipped : Bytes := [14, 0, 0, 0, 69, 73, 190, 199, 80, 47, 196, 22, 100, 236, 181, 118, 236, 179, 20, 218]
/-- A Zstandard frame of one raw block, the byte 1. -/
def frame1 : Bytes := [0x28, 0xB5, 0x2F, 0xFD, 0x24, 1, 9, 0, 0, 1, 48, 231, 33, 27]

theorem shipped_plain : xts false (List.replicate 64 1) (chunkTweak 1 5) (shipped.drop 4) = frame1 ++ [0#8, 0#8] := by decide +kernel

theorem frame1_decodes : zstdDecode frame1 = some [1] := by decide +kernel

theorem opens_of {s : State} {key : Bytes} (hk : s.dataKey 1 1 = some key)
    (hx : xts false key (chunkTweak 1 5) (shipped.drop 4) = frame1 ++ [0#8, 0#8]) : s.openChunk 1 5 1 1 shipped = some (frame1, [1]) := by
  have h1 : fld shipped 0 4 = 14 := by decide
  have h2 : (shipped.drop 4).length = 16 := rfl
  have h3 : (frame1 ++ [0#8, 0#8]).take 14 = frame1 := rfl
  simp [State.openChunk, h1, h2, hk, hx, h3, frame1_decodes, roundUp]

theorem shipped_opens {s : State} (hk : s.dataKey 1 1 = some (List.replicate 64 1)) :
    s.openChunk 1 5 1 1 shipped = some (frame1, [1]) := opens_of hk shipped_plain

theorem env5_opens_of {s : State} {key : Bytes} (hk : s.dataKey 1 1 = some key) (hf : s.readsFmt .envelope 1 = true)
    (hx : xts false key (chunkTweak 1 5) (shipped.drop 4) = frame1 ++ [0#8, 0#8]) : s.openEnvelope 1 5 env5 = some [1] := by
  have h : fld env5 0 4 = 0x4B484354 ∧ fld env5 4 1 = 1 ∧ slice env5 60 4 = crcBytes (env5.take 60) ∧ fld env5 6 2 = 1 ∧ fld env5 8 6 = 5 ∧
    fld env5 16 4 = 1 ∧ fld env5 20 4 = 14 ∧ fld env5 24 4 = 16 ∧ slice env5 64 16 = shipped.drop 4 ∧
    slice env5 56 4 = crcBytes (shipped.drop 4) ∧ fld env5 14 2 = 1 ∧ (shipped.drop 4).length = 16 := by decide +kernel
  obtain ⟨h0, h1, h2, h3, h4, h5, h6, h7, h8, h9, h10, h11⟩ := h
  have h12 : (frame1 ++ [0#8, 0#8]).take 14 = frame1 := rfl
  simp [State.openEnvelope, h0, h1, h2, h3, h4, h5, h6, h7, h8, h9, h10, h11, hf, hk, hx, h12, frame1_decodes, roundUp]

theorem env5_opens {s : State} (hk : s.dataKey 1 1 = some (List.replicate 64 1)) (hf : s.readsFmt .envelope 1 = true) :
    s.openEnvelope 1 5 env5 = some [1] := env5_opens_of hk hf shipped_plain

/-- A head that finds the envelope of chunk 5, by evaluation. -/
def finds5 (s : State) : Bool :=
  let u := if s.readable 0 then s.heed 0 else s
  s.hiveOfChunk 5 == some 0 && (s.hive? 0).any Hive.serves && s.target 5 == 5 && !(s.domain? 1).any (·.keysErased) &&
    (s.chunk? 5).any (fun c => c.state == .stored && c.place == ⟨4, 0⟩ && c.len == 2 && c.domain == 1 && c.id == 5 && c.hive == 0) &&
    u.stripe? 4 == some str4 && !u.readWaits str4 0 2 &&
    (u.overErases str4 (dedupBy ((u.pagesFor str4 (envPages str4.region 0 2)).map (·.1)))).any fun v =>
      v.stripe? 4 == some str4 && v.envBytes str4 [] 0 2 == some env5 && v.dataKey 1 1 == some (List.replicate 64 1) &&
        v.readsFmt .envelope 1 && ((envPages str4.region 0 2).filter fun p =>
          (v.rawPage str4 p.1 p.2).isNone || (v.failsWhole str4 [] (envPages str4.region 0 2)).contains p.1).isEmpty
/-- The head once it has read it. -/
def after5 (s : State) : State :=
  let u := if s.readable 0 then s.heed 0 else s
  let v := (u.overErases str4 (dedupBy ((u.pagesFor str4 (envPages str4.region 0 2)).map (·.1)))).getD u
  v.heedPages str4 (v.pagesFor str4 (envPages str4.region 0 2))

theorem reads5 {s : State} (h : finds5 s = true) : s.chunkBytes 5 = (after5 s, .bytes [1]) := by
  simp only [finds5, Bool.and_eq_true, beq_iff_eq, Bool.not_eq_true', Option.any_eq_true] at h
  obtain ⟨⟨⟨⟨⟨⟨⟨h1, ⟨hv, h2a, h2⟩⟩, h3⟩, h4⟩, ⟨c, h5, ⟨⟨⟨⟨⟨c1, c2⟩, c3⟩, c4⟩, c5⟩, c6⟩⟩⟩, h6⟩, h7⟩, ⟨v, h8, ⟨⟨⟨⟨v1, v2⟩, v3⟩, v4⟩, v5⟩⟩⟩ := h
  have ho := env5_opens v3 v4
  have hw : v.readStored c = (v.heedPages str4 (v.pagesFor str4 (envPages str4.region 0 2)), .content [1]) := by
    simp only [State.readStored, c2, v1, c3, c4, c5, v2, Option.bind_some, ho, v5, if_true]
  simp only [State.chunkBytes, h1, h2a, Option.any_some, h2, if_true, State.readChunk, h3, h5, c1, c2, c3, c4, c6, h4, Bool.false_eq_true,
    if_false, h6, h7, h8, hw, after5, Option.getD_some]

/-- A repair of the byte 1. -/
def rep1 : Repair := { (default : Repair) with domain := 1, chunk := 2, fp := hub.fingerprint 1 [1] }
/-- The head while it waits for that repair. -/
def repairing : State := hub.rp' fun r => { r with repairs := [rep1] }

theorem repairing_finds :
    (repairing.rp.repairs.find? fun r => r.domain == 1 && r.fp == repairing.fingerprint 1 [1]) = some rep1 := by
  show List.find? (fun r => r.domain == 1 && r.fp == hub.fingerprint 1 [1]) [rep1] = some rep1
  simp [rep1]

/-- An acknowledgement of context 8 from the peer, under a pair key of zeros. -/
def ackPkt : FPkt :=
  { (default : FPkt) with magicOk := true, ether := 0x88B5, srcHead := 1, plen := 32, tag := [104, 71, 191, 11, 36, 51, 153, 140] }
/-- A refusal with code MISSING, of message 1. -/
def nakPkt : FPkt := { ackPkt with tag := [238, 36, 193, 45, 141, 97, 124, 165] }

/-- An answer of a context is taken in, by evaluation. -/
def takenB (s : State) (g : FPkt) (n : Nat) : Bool :=
  (s.checkPkt g g.fitsAnswer).2 && !(s.checkPkt g g.fitsAnswer).1.pr.declared && ((s.checkPkt g g.fitsAnswer).1.ctx? n).any fun c =>
    c.farHead == g.srcHead && c.farCtx == g.srcCtx && c.state == .bound

theorem taken_of {s : State} {g : FPkt} {n : Nat} (h : takenB s g n = true) : ∃ u c, s.checkPkt g g.fitsAnswer = (u, true) ∧
    u.ctx? n = some c ∧ c.farHead = g.srcHead ∧ c.farCtx = g.srcCtx ∧ (c.state == .bound) = true ∧ u.pr.declared = false := by
  simp only [takenB, Bool.and_eq_true, Option.any_eq_true, beq_iff_eq, Bool.not_eq_true'] at h
  obtain ⟨⟨h1, h2⟩, c, hc, ⟨h3, h4⟩, h5⟩ := h
  exact ⟨_, c, pair_of2 h1, hc, h3, h4, by simpa using h5, h2⟩

/-- The head with context 8 bound to the peer and a pair key of zeros. -/
def bound : State := (hub.fg' fun g => { g with ctxs := [{ (default : Ctx) with id := 8, state := .bound, farHead := 1 }] }).ks' fun k =>
  { k with pair := { k.pair with cur := some (0, zeros 32) } }

theorem ack_taken : takenB bound (ackPkt.ackOf 8 0 0 0 0) 8 = true := by decide +kernel

theorem nak_taken : takenB bound (nakPkt.nakOf 8 1 1 0 0) 8 = true := by decide +kernel

theorem ack_refused (p : FPkt) (h : p = { ackPkt with tag := [] }) :
    (bound.checkPkt (p.ackOf 8 0 0 0 0) (p.ackOf 8 0 0 0 0).fitsAnswer).2 = false := by subst h; decide +kernel

/-- An ARP request for the address of MG. -/
def arp : Bytes := zeros 12 ++ [8, 6] ++ zeros 6 ++ [0, 1] ++ zeros 16 ++ fit 4 Config.mgIp4

theorem arp_answered : (arpReply arp).isSome = true := by
  have h1 : rdBe (slice arp 20 2) = 1 := rfl
  have h2 : slice arp 38 4 = fit 4 Config.mgIp4 := by
    show (fit 4 Config.mgIp4).take 4 = _
    simp [fit]
  simp [arpReply, h1, h2]

/-! ## What the obligations assume can hold -/

/-- What `VirkanGate` assumes can hold, clause by clause. -/
theorem witness_VirkanGate :
    (∃ (s : State) (op : Nat) (q : VReq) (body : State → State) (st : VStatus), s.deaf q.via = false ∧ s.checkSession op q = some st) ∧
    (∃ (s : State) (op : Nat) (q : VReq) (body : State → State) (st : VStatus), s.deaf q.via = false ∧ s.checkSession op q = none ∧
      (s.takeIn op q).checkOp op q = some st) ∧
    (∃ (s : State) (op : Nat) (q : VReq), op ≠ 0x0101 ∧ s.sessionOf q.via q.session = none) ∧
    (∃ (s : State) (op : Nat) (q : VReq) (x : Session), op ≠ 0x0101 ∧ s.sessionOf q.via q.session = some x ∧ q.tag ≠ 0 ∧ q.tag ≠ 0xFFFFFFFF ∧
      (q.via.holds = true ∨ x.highTag = none) ∧ x.outstanding.contains q.tag = true) ∧
    (∃ (s : State) (op : Nat) (q : VReq), vop op = none) ∧
    (∃ (s : State) (op : Nat) (q : VReq) (o : VOp), vop op = some o ∧ s.md.recovery = true ∧ servedInRecovery op = false) ∧
    (∃ (s : State) (op : Nat) (q : VReq) (o : VOp), vop op = some o ∧ s.md.recovery = false ∧ s.ks.sealState = 2 ∧ servedErased op = false) ∧
    (∃ (s : State) (op : Nat) (q : VReq) (o : VOp) (st : VStatus), vop op = some o ∧ s.md.recovery = false ∧ s.ks.sealState ≠ 2 ∧
      s.checkPriv o q = some st) ∧
    (∃ (s : State) (op : Nat) (q : VReq) (o : VOp) (st : VStatus), vop op = some o ∧ s.md.recovery = false ∧ s.ks.sealState ≠ 2 ∧
      s.checkPriv o q = none ∧ o.checkParams q = some st) :=
  ⟨⟨hub, 0x0103, { ask [] with session := 9 }, id, _,
    by decide +kernel,
    some_of (by decide +kernel)⟩,
  ⟨hub, 0x9999, ask [], id, _,
    by decide +kernel,
    by decide +kernel,
    some_of (by decide +kernel)⟩,
  ⟨hub, 0x0103, { ask [] with session := 9 },
    by decide +kernel⟩,
  ⟨hub.session' 7 fun x => { x with outstanding := [1] }, 0x0103, ask [], _,
    by decide +kernel,
    some_of (by decide +kernel),
    by decide +kernel⟩,
  ⟨hub, 0x9999, ask [],
    by decide +kernel⟩,
  ⟨hub.md' fun m => { m with recovery := true }, 0x0301, ask [], _,
    some_of (by decide +kernel),
    by decide +kernel⟩,
  ⟨hub.ks' fun k => { k with sealState := 2 }, 0x0301, ask [], _,
    some_of (by decide +kernel),
    by decide +kernel⟩,
  ⟨hub.session' 7 fun x => { x with priv := .observer }, 0x0301, ask [], _, _,
    some_of (by decide +kernel),
    by decide +kernel,
    by decide +kernel,
    some_of (by decide +kernel)⟩,
  ⟨hub, 0x0301, ask [], _, _,
    some_of (by decide +kernel),
    pre3 (by decide +kernel) (some_of (by decide +kernel))⟩⟩

/-- What `SessionsComplete` assumes can hold, clause by clause. -/
theorem witness_SessionsComplete :
    (∃ (s : State) (q : VReq) (u : State), Runs s 0x0101 q u ∧ u.sessionSlot q.via = true) ∧
    (∃ (s : State) (q : VReq) (u : State) (x : Session), Runs s 0x0102 q u ∧ u.sessionOf q.via q.session = some x ∧
      u.proofOk x ((q.param 1).getD []) = true) ∧
    (∃ (s : State) (q : VReq) (u : State) (x : Session), Runs s 0x0102 q u ∧ u.sessionOf q.via q.session = some x ∧
      u.proofOk x ((q.param 1).getD []) = false ∧ x.fails + 1 < 3) ∧
    (∃ (s : State) (q : VReq) (u : State) (x : Session), Runs s 0x0102 q u ∧ u.sessionOf q.via q.session = some x ∧
      u.proofOk x ((q.param 1).getD []) = false ∧ 3 ≤ x.fails + 1) ∧
    (∃ (s : State) (q : VReq) (u : State), Runs s 0x0103 q u) ∧
    (∃ (s : State) (q : VReq) (u : State), Runs s 0x0104 q u) ∧
    (∃ (s : State) (h : Nat) (x : Session), s.vk.sessions.find? (·.handle == h) = some x ∧ x.lastReq + 900 * second ≤ s.ck.now) :=
  ⟨⟨hub, ask [(1, [1])], _,
    runs_of (by decide +kernel),
    by decide +kernel⟩,
  ⟨proving, proof, _, _,
    runs_of proof_fits,
    some_of (by decide +kernel),
    proof_right (by decide +kernel) (by decide +kernel) (by decide +kernel) (by decide +kernel) rfl⟩,
  ⟨hub, ask [(1, zeros 16)], _, _,
    runs_of (by decide +kernel),
    some_of (by decide +kernel),
    by decide +kernel⟩,
  ⟨hub.session' 7 fun x => { x with fails := 2 }, ask [(1, zeros 16)], _, _,
    runs_of (by decide +kernel),
    some_of (by decide +kernel),
    by decide +kernel⟩,
  ⟨hub, ask [], _,
    runs_of (by decide +kernel)⟩,
  ⟨hub, ask [], _,
    runs_of (by decide +kernel)⟩,
  ⟨hub, 7, _,
    some_of (by decide +kernel),
    by decide +kernel⟩⟩

/-- What `FramesComplete` assumes can hold, clause by clause. -/
theorem witness_FramesComplete :
    (∃ (s : State) (q : VReq) (u : State), Runs s 0x0201 q u ∧
      (u.vk.frames.filter fun f => !f.peerMade && !f.internal && (f.state == .opened || f.state == .checked || f.state == .scheduling)).length < 8 ∧
      (q.num 1 0 = 1 → u.peerAway = false)) ∧
    (∃ (s : State) (q : VReq) (u : State) (f : Frame) (es : List StagedItem), Runs s 0x0202 q u ∧ u.ownFrame q = some f ∧
      (f.state = .opened ∨ f.state = .checked) ∧ parseItems (q.payload.length + 1) q.payload = some es ∧
      es.all ((u.touchFrame f.id).entryOk f.pair) = true ∧ (es.foldl stageOne f.items).length ≤ 4096) ∧
    (∃ (s : State) (q : VReq) (u : State) (f : Frame), Runs s 0x0203 q u ∧ u.ownFrame q = some f ∧ (f.state = .opened ∨ f.state = .checked) ∧
      (u.touchFrame f.id).conflicts f = []) ∧
    (∃ (s : State) (q : VReq) (u : State) (f : Frame), Runs s 0x0203 q u ∧ u.ownFrame q = some f ∧ (f.state = .opened ∨ f.state = .checked) ∧
      (u.touchFrame f.id).conflicts f ≠ []) ∧
    (∃ (s : State) (q : VReq) (u : State) (f : Frame), Runs s 0x0204 q u ∧ u.ownFrame q = some f ∧
      (u.touchFrame f.id).applyRefusal f (q.num 1 0) = none) ∧
    (∃ (s : State) (q : VReq) (u : State) (f : Frame), Runs s 0x0205 q u ∧ u.ownFrame q = some f ∧ f.state = .scheduled ∧
      u.ck.tick + 2 ≤ f.tick) ∧
    (∃ (s : State) (q : VReq) (u : State) (f : Frame), Runs s 0x0206 q u ∧ u.vk.frames.find? (·.id == q.frame) = some f ∧
      (f.pair = true ∨ q.has 1 = false ∨ q.num 1 0 = sideN u.pr.side)) ∧
    (∃ (s : State) (q : VReq) (u : State), Runs s 0x0207 q u ∧ (∀ id ∈ (q.all 1).map rdLe, (settingRow id).isSome = true)) ∧
    (∃ (s : State) (q : VReq) (u : State), Runs s 0x0208 q u) :=
  ⟨⟨hub, ask [(1, [0])], _,
    runs_of (by decide +kernel),
    by decide +kernel⟩,
  ⟨hub, { ask [] with frame := 5, payload := le 4 0x02000005 ++ [0, 0] ++ le 2 0xFFFF }, _, _, _,
    runs_of (by decide +kernel),
    some_of (by decide +kernel),
    by decide +kernel,
    some_of (by decide +kernel),
    by decide +kernel⟩,
  ⟨hub, { ask [] with frame := 5 }, _, _,
    runs_of (by decide +kernel),
    some_of (by decide +kernel),
    by decide +kernel⟩,
  ⟨hub.frame' 5 false fun f => { f with items := [⟨0x02000001, 0, [12]⟩] }, { ask [] with frame := 5 }, _, _,
    runs_of (by decide +kernel),
    some_of (by decide +kernel),
    by decide +kernel⟩,
  ⟨hub.frame' 5 false fun f => { f with state := .checked }, { ask [(1, le 8 (10 ^ 9 + 100))] with frame := 5 }, _, _,
    runs_of (by decide +kernel),
    some_of (by decide +kernel),
    by decide +kernel⟩,
  ⟨hub.frame' 5 false fun f => { f with state := .scheduled, tick := 10 ^ 9 + 100 }, { ask [] with frame := 5 }, _, _,
    runs_of (by decide +kernel),
    some_of (by decide +kernel),
    by decide +kernel⟩,
  ⟨hub, { ask [] with frame := 5 }, _, _,
    runs_of (by decide +kernel),
    some_of (by decide +kernel),
    by decide +kernel⟩,
  ⟨hub, ask [(1, le 4 0x02000005)], _,
    runs_of (by decide +kernel),
    by decide +kernel⟩,
  ⟨hub, ask [], _,
    runs_of (by decide +kernel)⟩⟩

/-- What `VolumesComplete` assumes can hold, clause by clause. -/
theorem witness_VolumesComplete :
    (∃ (s : State) (q : VReq) (u : State), Runs s 0x0301 q u ∧ (u.domain? (q.num 1 0)).isSome = false ∧ u.vo.domains.length < 65536) ∧
    (∃ (s : State) (q : VReq) (u : State), Runs s 0x0302 q u ∧ (u.domain? (q.num 1 0)).isNone = false ∧ u.owns (.domain (q.num 1 0)) = true) ∧
    (∃ (s : State) (q : VReq) (u : State), Runs s 0x0304 q u ∧ q.num 2 0 ≤ 16384 ∧ q.num 3 0 % 16384 = 0 ∧
      (u.ns? (q.num 2 0)).isSome = false ∧ u.owns (.domain (q.num 1 0)) = true ∧ u.vo.nss.length < 16384) ∧
    (∃ (s : State) (q : VReq) (u : State) (n : Namespace), Runs s 0x0305 q u ∧ u.ns? (q.num 1 0) = some n ∧ u.owns (.domain n.domain) = true) ∧
    (∃ (s : State) (q : VReq) (u : State) (n : Namespace), Runs s 0x0306 q u ∧ u.ns? (q.num 1 0) = some n ∧
      u.owns (.domain n.domain) = true ∧ q.num 2 0 % 16384 = 0 ∧ n.size ≤ q.num 2 0) ∧
    (∃ (s : State) (q : VReq) (u : State) (n : Namespace), Runs s 0x0308 q u ∧ u.ns? (q.num 1 0) = some n ∧
      u.owns (.domain n.domain) = true ∧
      (u.vo.snaps.filter (·.nsid == n.nsid)).length + (u.rd.snapWait.filter (·.1 == n.nsid)).length < 1024 ∧
      u.vo.snaps.length + u.rd.snapWait.length < 65536) ∧
    (∃ (s : State) (q : VReq) (u : State) (n : Namespace), Runs s 0x0309 q u ∧ u.ns? (q.num 1 0) = some n ∧
      u.owns (.domain n.domain) = true ∧ (u.snap? n.nsid (q.num 2 0)).isNone = false) ∧
    (∃ (s : State) (q : VReq) (u : State) (n : Namespace), Runs s 0x030A q u ∧ u.ns? (q.num 1 0) = some n ∧
      u.owns (.domain n.domain) = true ∧ (u.snap? n.nsid (q.num 2 0)).isNone = false ∧ q.num 3 0 ≤ 16384 ∧
      (u.ns? (q.num 3 0)).isSome = false ∧ u.vo.nss.length < 16384) ∧
    (∃ (s : State) (d : Nat) (key : Nat) (more : Nat) (rest : List (Nat × Nat × Nat)), (s.vo.drops.filter fun e => !s.dropWritten e.1 e.2.1 && s.owns (.domain e.1)) = (d, key, more) :: rest) :=
  ⟨⟨hub, ask [(1, le 2 9), (2, [0])], _,
    runs_of (by decide +kernel),
    by decide +kernel⟩,
  ⟨coded hub 0x0302 [(1, le 2 1)], askCode 2 [(1, le 2 1)], _,
    runs_of (by decide +kernel),
    by decide +kernel⟩,
  ⟨hub, ask [(1, le 2 1), (2, le 4 9), (3, le 8 16384)], _,
    runs_of (by decide +kernel),
    by decide +kernel⟩,
  ⟨coded hub 0x0305 [(1, le 4 1)], askCode 2 [(1, le 4 1)], _, _,
    runs_of (by decide +kernel),
    some_of (by decide +kernel),
    by decide +kernel⟩,
  ⟨hub, ask [(1, le 4 1), (2, le 8 131072)], _, _,
    runs_of (by decide +kernel),
    some_of (by decide +kernel),
    by decide +kernel⟩,
  ⟨hub, ask [(1, le 4 1)], _, _,
    runs_of (by decide +kernel),
    some_of (by decide +kernel),
    by decide +kernel⟩,
  ⟨coded hub 0x0309 [(1, le 4 1), (2, le 4 1)], askCode 3 [(1, le 4 1), (2, le 4 1)], _, _,
    runs_of (by decide +kernel),
    some_of (by decide +kernel),
    by decide +kernel⟩,
  ⟨hub, ask [(1, le 4 1), (2, le 4 1), (3, le 4 9)], _, _,
    runs_of (by decide +kernel),
    some_of (by decide +kernel),
    by decide +kernel⟩,
  ⟨hub.vo' fun v => { v with drops := [(1, 4, 1)] }, _, _, 1, _,
    cons3_of (by decide +kernel)⟩⟩

/-- What `VirkanListings` assumes can hold, clause by clause; the further ones follow. -/
theorem witness_VirkanListings :
    (∃ (s : State) (q : VReq) (u : State), Runs s 0x0303 q u) ∧
    (∃ (s : State) (q : VReq) (u : State), Runs s 0x0307 q u) ∧
    (∃ (s : State) (q : VReq) (u : State), Runs s 0x0401 q u) ∧
    (∃ (s : State) (q : VReq) (u : State), Runs s 0x0407 q u) ∧
    (∃ (s : State) (q : VReq) (u : State), Runs s 0x0501 q u) ∧
    (∃ (s : State) (q : VReq) (u : State), Runs s 0x0601 q u) ∧
    (∃ (s : State) (q : VReq) (u : State), Runs s 0x0605 q u) ∧
    (∃ (s : State) (q : VReq) (u : State), Runs s 0x0606 q u ∧ q.has 1 = false) :=
  ⟨⟨hub, ask [], _,
    runs_of (by decide +kernel)⟩,
  ⟨hub, ask [], _,
    runs_of (by decide +kernel)⟩,
  ⟨hub, ask [], _,
    runs_of (by decide +kernel)⟩,
  ⟨hub, ask [], _,
    runs_of (by decide +kernel)⟩,
  ⟨hub, ask [], _,
    runs_of (by decide +kernel)⟩,
  ⟨hub, ask [], _,
    runs_of (by decide +kernel)⟩,
  ⟨hub, ask [], _,
    runs_of (by decide +kernel)⟩,
  ⟨hub, ask [], _,
    runs_of (by decide +kernel),
    by decide +kernel⟩⟩

/-- The same of `VirkanListings`, further clauses. -/
theorem witness_VirkanListings_b :
    (∃ (s : State) (q : VReq) (u : State), Runs s 0x0606 q u ∧ q.has 1 = true ∧ u.co.catalogue.any (·.domain == q.num 1 0) = true) ∧
    (∃ (s : State) (q : VReq) (u : State), Runs s 0x0606 q u ∧ q.has 1 = true ∧ u.co.catalogue.any (·.domain == q.num 1 0) = false) ∧
    (∃ (s : State) (q : VReq) (u : State), Runs s 0x0703 q u) ∧
    (∃ (s : State) (q : VReq) (u : State), Runs s 0x0807 q u) ∧
    (∃ (s : State) (q : VReq) (u : State), Runs s 0x0901 q u) ∧
    (∃ (s : State) (q : VReq) (u : State), Runs s 0x0A02 q u) ∧
    (∃ (s : State) (q : VReq) (u : State) (b : Bytes), Runs s 0x0903 q u ∧ q.num 1 0 ≠ 0xFFFF ∧ u.ctrBlocks (q.num 1 0) (q.num 2 0) = some b) ∧
    (∃ (s : State) (q : VReq) (u : State), Runs s 0x0903 q u ∧ q.num 1 0 ≠ 0xFFFF ∧ u.ctrBlocks (q.num 1 0) (q.num 2 0) = none) :=
  ⟨⟨hub.co' fun c => { c with catalogue := [{ (default : CatEntry) with domain := 1 }] }, ask [(1, le 2 1)], _,
    runs_of (by decide +kernel),
    by decide +kernel⟩,
  ⟨hub, ask [(1, le 2 1)], _,
    runs_of (by decide +kernel),
    by decide +kernel⟩,
  ⟨hub, ask [], _,
    runs_of (by decide +kernel)⟩,
  ⟨hub, ask [], _,
    runs_of (by decide +kernel)⟩,
  ⟨hub, ask [], _,
    runs_of (by decide +kernel)⟩,
  ⟨hub, ask [], _,
    runs_of (by decide +kernel)⟩,
  ⟨hub, ask [(1, le 2 0x0301), (2, le 4 1)], _, _,
    runs_of (by decide +kernel),
    by decide +kernel,
    some_of (by decide +kernel)⟩,
  ⟨hub, ask [(1, le 2 0x1234)], _,
    runs_of (by decide +kernel),
    by decide +kernel⟩⟩

/-- The same of `VirkanListings`, further clauses. -/
theorem witness_VirkanListings_c :
    (∃ (s : State) (q : VReq) (u : State) (es : List Bytes) (bs : List Bytes), Runs s 0x0903 q u ∧ q.num 1 0 = 0xFFFF ∧
      es = (pieces 8 q.payload).filter (!·.isEmpty) ∧ es ≠ [] ∧ q.payload.length % 8 = 0 ∧ es.length ≤ 256 ∧
      es.mapM (fun e => u.ctrBlocks (fld e 0 2) (fld e 4 4)) = some bs) ∧
    (∃ (s : State) (q : VReq) (u : State) (es : List Bytes), Runs s 0x0903 q u ∧ q.num 1 0 = 0xFFFF ∧
      es = (pieces 8 q.payload).filter (!·.isEmpty) ∧ es ≠ [] ∧ q.payload.length % 8 = 0 ∧ es.length ≤ 256 ∧
      es.mapM (fun e => u.ctrBlocks (fld e 0 2) (fld e 4 4)) = none) ∧
    (∃ (s : State) (q : VReq) (u : State) (es : List Bytes), Runs s 0x0903 q u ∧ q.num 1 0 = 0xFFFF ∧
      es = (pieces 8 q.payload).filter (!·.isEmpty) ∧ (es = [] ∨ q.payload.length % 8 ≠ 0 ∨ 256 < es.length)) :=
  ⟨⟨hub, { ask [(1, le 2 0xFFFF)] with payload := le 2 0x0301 ++ [0, 0] ++ le 4 0xFFFFFFFF }, _, _, _,
    runs_of (by decide +kernel),
    by decide +kernel,
    rfl,
    pre3 (by decide +kernel) (some_of (by decide +kernel))⟩,
  ⟨hub, { ask [(1, le 2 0xFFFF)] with payload := le 2 0x1234 ++ [0, 0] ++ le 4 0xFFFFFFFF }, _, _,
    runs_of (by decide +kernel),
    by decide +kernel,
    rfl,
    by decide +kernel⟩,
  ⟨hub, ask [(1, le 2 0xFFFF)], _, _,
    runs_of (by decide +kernel),
    by decide +kernel,
    rfl,
    Or.inl (by decide +kernel)⟩⟩

/-- What `HiveOpcodesComplete` assumes can hold, clause by clause. -/
theorem witness_HiveOpcodesComplete :
    (∃ (s : State) (q : VReq) (u : State) (x : Hive) (v : State), Runs s 0x0402 q u ∧ u.hive? (q.num 1 0) = some x ∧ x.brood = false ∧
      u.owns (.honey (q.num 1 0)) = true ∧
      v = (u.hive' (q.num 1 0) fun y => { y with wakeNeedUntil := some (u.ck.now + u.setting 0x04000020 * second) }).askWake (q.num 1 0) 1 ∧
      (((v.hive? (q.num 1 0)).any fun y => y.voteUp || y.wanted == some true) = true ∨ v.co.member = false)) ∧
    (∃ (s : State) (q : VReq) (u : State) (x : Hive), Runs s 0x0403 q u ∧ u.hive? (q.num 1 0) = some x ∧ x.brood = false ∧
      u.owns (.honey (q.num 1 0)) = true ∧ x.state = .dark ∧ x.voteUp = false ∧ (u.topNeed x).isNone = false) ∧
    (∃ (s : State) (q : VReq) (u : State) (x : Hive), Runs s 0x0403 q u ∧ u.hive? (q.num 1 0) = some x ∧ x.brood = false ∧
      u.owns (.honey (q.num 1 0)) = true ∧ x.state ≠ .dark) ∧
    (∃ (s : State) (q : VReq) (u : State), Runs s 0x0404 q u ∧ q.num 1 0 < 8 ∧ u.reshaping = false ∧ u.inMode .full = true ∧
      u.pr.mirror = true ∧ u.onTrial = false ∧ u.pr.peerTrial = false ∧ u.framesFull = false ∧
      ((u.hive? (q.num 1 0)).any (·.inService) = false ∨ u.isBrood (q.num 1 0) = true)) ∧
    (∃ (s : State) (q : VReq) (u : State), Runs s 0x0404 q u ∧ q.num 1 0 < 8 ∧ u.reshaping = false ∧ u.inMode .full = true ∧
      u.pr.mirror = true ∧ u.onTrial = false ∧ u.pr.peerTrial = false ∧ u.framesFull = false ∧
      (u.hive? (q.num 1 0)).any (·.inService) = true ∧ u.isBrood (q.num 1 0) = false ∧ u.owns (.honey (q.num 1 0)) = true) ∧
    (∃ (s : State) (q : VReq) (u : State) (x : Link), Runs s 0x0405 q u ∧ u.link? (q.num 1 0) = some x ∧ x.comb ≠ .retired ∧
      x.comb ≠ .absent ∧ x.retired = false ∧ u.hasErased x.hive = false ∧ 6 ≤ (u.workLeft x.hive (q.num 1 0)).length) ∧
    (∃ (s : State) (q : VReq) (u : State) (t : Stripe) (cs : List Chunk), Runs s 0x0406 q u ∧ u.stripe? (q.num 1 0) = some t ∧
      t.released = false ∧ cs = (u.rd.chunks.filter fun c => c.state == .stored && c.place.ordinal == q.num 1 0) ∧ cs ≠ []) :=
  ⟨⟨hub.hive' 1 fun h => { h with state := .dark, voteUp := true }, ask [(1, [1])], _, _, _,
    runs_of (by decide +kernel),
    some_of (by decide +kernel),
    by decide +kernel,
    by decide +kernel,
    rfl,
    by decide +kernel⟩,
  ⟨hub.hive' 1 fun h => { h with state := .dark, houseNeed := true }, ask [(1, [1])], _, _,
    runs_of (by decide +kernel),
    some_of (by decide +kernel),
    by decide +kernel⟩,
  ⟨hub, ask [(1, [1])], _, _,
    runs_of (by decide +kernel),
    some_of (by decide +kernel),
    by decide +kernel⟩,
  ⟨hub.pr' fun p => { p with mirror := true }, ask [(1, [2]), (2, le 2 3)], _,
    runs_of (by decide +kernel),
    by decide +kernel⟩,
  ⟨hub.pr' fun p => { p with mirror := true }, ask [(1, [1]), (2, le 2 3)], _,
    runs_of (by decide +kernel),
    by decide +kernel⟩,
  ⟨hub, ask [(1, [2])], _, _,
    runs_of (by decide +kernel),
    some_of (by decide +kernel),
    by decide +kernel⟩,
  ⟨coded ((hub.sp' fun p => { p with table := [{ (default : Stripe) with ord := 4, hive := 0, members := [⟨0, 0, 0, 0, 0, 0⟩] }] }).rd' fun r => { r with chunks := [{ (default : Chunk) with id := 2, domain := 1, state := .stored, place := ⟨4, 0⟩ }] }) 0x0406 [(1, le 8 4)], askCode 2 [(1, le 8 4)], _, _, _,
    runs_of (by decide +kernel),
    some_of (by decide +kernel),
    by decide +kernel,
    rfl,
    by decide +kernel⟩⟩

/-- What `PairOpcodesComplete` assumes can hold, clause by clause. -/
theorem witness_PairOpcodesComplete :
    (∃ (s : State) (q : VReq) (u : State) (us : List OwnUnit), Runs s 0x0502 q u ∧
      (((q.all 1).map rdLe).any fun d => (u.domain? d).isNone) = false ∧
      (((q.all 2).map rdLe).any fun h => u.isBrood h || !(u.hive? h).any (·.inService)) = false ∧
      us = u.closeUnits (u.vo.domains.length + 9) (dedupBy (if q.has 1 || q.has 2 then (((q.all 1).map rdLe).map OwnUnit.domain) ++ ((q.all 2).map rdLe).map OwnUnit.honey else u.offHome)) ∧
      u.inMode .takeover = false ∧ u.pr.mirror = true ∧ u.pr.rebalance = none ∧ us ≠ [] ∧
      (us.any fun x => u.ownerOf x != some u.pr.side) = false ∧ u.md.mode.any givesMode = true ∧
      (u.pr.peerMode.any fun m => givesMode m || m == .rejoin) = true ∧ u.framesFull = false) ∧
    (∃ (s : State) (q : VReq) (u : State) (p : FabricPair) (a : Nat) (v : State), Runs s 0x0503 q u ∧ u.pr.fabric[q.num 1 0]? = some p ∧
      p.active = some a ∧ (p.port (1 - a)).eligible = true ∧ u.pr.missPeer < 8 ∧ u.pr.joined = true ∧ u.pr.drill = none ∧
      (p.lastSwap.any fun t => u.ck.now < t + 60 * second) = false ∧
      v = ((u.pair' (q.num 1 0) fun x => { x with active := some (1 - a), lastSwap := some u.ck.now }).resendPair (q.num 1 0))) ∧
    (∃ (s : State) (d : Drill) (w : Waiter), s.pr.drill = some d ∧ d.atNs + 100 * milli ≤ s.ck.now ∧ d.waiter = some w) ∧
    (∃ (s : State) (q : VReq) (u : State), Runs s 0x0504 q u ∧ sideOf (q.num 1 0) ≠ u.pr.side ∧ u.peerAway = true) ∧
    (∃ (s : State) (q : VReq) (u : State), Runs s 0x0505 q u ∧ u.pr.unresolved = true ∧ sideOf (q.num 1 0) = u.pr.side) ∧
    (∃ (s : State) (q : VReq) (u : State), Runs s 0x0505 q u ∧ u.pr.unresolved = true ∧ sideOf (q.num 1 0) ≠ u.pr.side) :=
  ⟨⟨hub.pr' fun p => { p with joined := true, leaseEnd := 10 ^ 9 + 20, mirror := true, peerMode := some .full }, ask [(1, le 2 1)], _, _,
    runs_of (by decide +kernel),
    by decide +kernel,
    by decide +kernel,
    rfl,
    by decide +kernel⟩,
  ⟨hub.pr' fun p => { p with joined := true, fabric := p.fabric.map fun x => { x with odd := { x.odd with eligible := true } } }, ask [(1, [1])], _, _, _, _,
    runs_of (by decide +kernel),
    some_of (by decide +kernel),
    some_of (by decide +kernel),
    pre5 (by decide +kernel) (rfl)⟩,
  ⟨hub.pr' fun p => { p with drill := some ⟨1, 0, 5, 0, some (Waiter.mk .sb 7 1 0x0503 0)⟩ }, _, _,
    some_of (by decide +kernel),
    by decide +kernel,
    some_of (by decide +kernel)⟩,
  ⟨coded hub 0x0504 [(1, [1])], askCode 2 [(1, [1])], _,
    runs_of (by decide +kernel),
    by decide +kernel⟩,
  ⟨coded (hub.pr' fun p => { p with unresolved := true }) 0x0505 [(1, [0])], askCode 2 [(1, [0])], _,
    runs_of (by decide +kernel),
    by decide +kernel⟩,
  ⟨coded (hub.pr' fun p => { p with unresolved := true }) 0x0505 [(1, [1])], askCode 2 [(1, [1])], _,
    runs_of (by decide +kernel),
    by decide +kernel⟩⟩

/-- What `ColonyOpcodesComplete` assumes can hold, clause by clause. -/
theorem witness_ColonyOpcodesComplete :
    (∃ (s : State) (q : VReq) (u : State), Runs s 0x0602 q u ∧ u.co.member = false ∧ u.co.joinWait = none ∧
      (u.ks.colony.cur.isSome = true ∨ u.ks.colony.pend.isSome = true) ∧ q.num 2 0 = 0) ∧
    (∃ (s : State) (q : VReq) (u : State), Runs s 0x0602 q u ∧ u.co.member = false ∧ u.co.joinWait = none ∧
      (u.ks.colony.cur.isSome = true ∨ u.ks.colony.pend.isSome = true) ∧ q.num 2 0 ≠ 0) ∧
    (∃ (s : State) (w : Waiter) (a : Nat) (t : Nat), s.co.joinWait = some (w, a, t) ∧ t + 10 * second ≤ s.ck.now) ∧
    (∃ (s : State) (q : VReq) (u : State), Runs s 0x0603 q u ∧ u.co.member = true ∧
      (u.pr.apiary = 0 → (u.queen.members.any fun m => m.apiary != 0 && !m.vacated) = false) ∧ u.rp.groups = [] ∧ u.rp.replicas = [] ∧
      u.framesFull = false) ∧
    (∃ (s : State) (q : VReq) (u : State), Runs s 0x0604 q u ∧ u.framesFull = false ∧ u.isQueen = true ∧ q.num 1 0 ≠ 0 ∧
      (u.queen.members.any fun m => m.apiary == q.num 1 0 && !m.vacated) = true) ∧
    (∃ (s : State) (q : VReq) (u : State), Runs s 0x0604 q u ∧ u.framesFull = false ∧ u.isQueen = false ∧ u.co.member = true ∧
      q.num 1 0 = u.pr.apiary ∧ q.num 1 0 ≠ 0 ∧ (u.co.lastContact.any fun t => u.ck.now < t + 70 * second) = false ∧ u.peerLeased = true) :=
  ⟨⟨hub, ask [(1, zeros 16), (2, [0])], _,
    runs_of (by decide +kernel),
    by decide +kernel⟩,
  ⟨hub, ask [(1, zeros 16), (2, [3])], _,
    runs_of (by decide +kernel),
    by decide +kernel⟩,
  ⟨hub.co' fun c => { c with joinWait := some (Waiter.mk .sb 7 1 0x0602 0, 3, 0) }, _, _, _,
    some3_of (by decide +kernel),
    by decide +kernel⟩,
  ⟨(hub.co' fun c => { c with member := true, epoch := 5, reachable := true }).pr' fun p => { p with apiary := 3 }, ask [], _,
    runs_of (by decide +kernel),
    by decide +kernel⟩,
  ⟨hub.co' fun c => { c with member := true, queenHead := true, epoch := 5, members := [{ (default : Member7) with apiary := 3 }], apiaries := [(3, 6, 7, [])] }, ask [(1, [3])], _,
    runs_of (by decide +kernel),
    by decide +kernel⟩,
  ⟨(hub.co' fun c => { c with member := true, epoch := 5, reachable := true }).pr' fun p => { p with apiary := 3, joined := true, leaseEnd := 10 ^ 9 + 20, lastGrant := 10 ^ 9 }, ask [(1, [3])], _,
    runs_of (by decide +kernel),
    by decide +kernel⟩⟩

/-- What `GroupOpcodesComplete` assumes can hold, clause by clause. -/
theorem witness_GroupOpcodesComplete :
    (∃ (s : State) (q : VReq) (u : State) (ds : List Nat), Runs s 0x0701 q u ∧ ds = dedupBy ((q.all 3).map rdLe) ∧
      (u.group? (q.num 1 0)).isSome = false ∧ u.co.member = true ∧ q.num 2 0 ≠ u.pr.apiary ∧ u.knownApiary (q.num 2 0) = true ∧
      (ds.any fun d => !u.owns (.domain d) || (u.domain? d).isNone) = false ∧ u.rp.groups.length < 1023 ∧ ds.length ≤ 256 ∧
      (ds.any fun d => decide (4 ≤ (u.rp.groups.filter (·.domains.contains d)).length) || (u.rp.groups.filter (·.domains.contains d)).any (·.target == q.num 2 0)) = false) ∧
    (∃ (s : State) (q : VReq) (u : State) (x : RGroup), Runs s 0x0702 q u ∧ u.group? (q.num 1 0) = some x ∧ u.leads x = true) ∧
    (∃ (s : State) (q : VReq) (u : State), Runs s 0x0702 q u ∧ u.group? (q.num 1 0) = none ∧ (u.rp.replicas.any (·.id == q.num 1 0)) = true) ∧
    (∃ (s : State) (q : VReq) (u : State) (g : RGroup), Runs s 0x0704 q u ∧ u.group? (q.num 1 0) = some g ∧ u.leads g = true ∧
      g.state ≠ .paused) ∧
    (∃ (s : State) (q : VReq) (u : State) (g : RGroup), Runs s 0x0705 q u ∧ u.group? (q.num 1 0) = some g ∧ u.leads g = true ∧
      g.state = .paused) ∧
    (∃ (s : State) (q : VReq) (u : State) (g : RGroup) (n : Namespace) (p : Snapshot), Runs s 0x0706 q u ∧ u.group? (q.num 1 0) = some g ∧
      u.ns? (q.num 2 0) = some n ∧ u.snap? (q.num 2 0) (q.num 3 0) = some p ∧ g.domains.contains n.domain = true ∧ u.leads g = true ∧
      u.snapMode g.id = true ∧ g.shipped.find? (·.1 == q.num 2 0) = none ∧ g.baseLog = []) :=
  ⟨⟨hub.co' fun c => { c with member := true, queenHead := true, epoch := 5, members := [{ (default : Member7) with apiary := 3 }], apiaries := [(3, 6, 7, [])] }, ask [(1, le 2 4), (2, [3]), (3, le 2 1)], _, _,
    runs_of (by decide +kernel),
    rfl,
    by decide +kernel⟩,
  ⟨hub.rp' fun r => { r with groups := [{ (default : RGroup) with id := 4, domains := [1], target := 9, state := .shipping }] }, ask [(1, le 2 4)], _, _,
    runs_of (by decide +kernel),
    some_of (by decide +kernel),
    by decide +kernel⟩,
  ⟨hub.rp' fun r => { r with replicas := [{ (default : Replica) with id := 4, source := 3, domains := [1] }] }, ask [(1, le 2 4)], _,
    runs_of (by decide +kernel),
    by decide +kernel⟩,
  ⟨hub.rp' fun r => { r with groups := [{ (default : RGroup) with id := 4, domains := [1], target := 9, state := .shipping }] }, ask [(1, le 2 4)], _, _,
    runs_of (by decide +kernel),
    some_of (by decide +kernel),
    by decide +kernel⟩,
  ⟨hub.rp' fun r => { r with groups := [{ (default : RGroup) with id := 4, domains := [1], target := 9, state := .paused }] }, ask [(1, le 2 4)], _, _,
    runs_of (by decide +kernel),
    some_of (by decide +kernel),
    by decide +kernel⟩,
  ⟨(hub.rp' fun r => { r with groups := [{ (default : RGroup) with id := 4, domains := [1], target := 9, state := .shipping }] }).vk' fun v => { v with settings := v.settings ++ [(0x07000401, [1])] }, ask [(1, le 2 4), (2, le 4 1), (3, le 4 1)], _, _, _, _,
    runs_of (by decide +kernel),
    some_of (by decide +kernel),
    some_of (by decide +kernel),
    some_of (by decide +kernel),
    by decide +kernel⟩⟩

/-- What `KeyOpcodesComplete` assumes can hold: clause 1, 3, 5, 6, 7, 8, 9, 10. No evaluation reaches clauses 2 and 4 (NOTES.md). -/
theorem witness_KeyOpcodesComplete :
    (∃ (s : State) (q : VReq) (u : State), Runs s 0x0801 q u ∧ (p384Dec ((q.param 1).getD [])).isNone = false ∧
      u.ks.owner ≠ some ((q.param 1).getD []) ∧ u.logFull = false) ∧
    (∃ (s : State) (q : VReq) (u : State), Runs s 0x0803 q u ∧ (p384Dec ((q.param 1).getD [])).isNone = false) ∧
    (∃ (s : State) (q : VReq) (u : State) (st : VStatus), Runs s 0x0802 q u ∧
      u.openBlob ((q.param 2).getD []) (fun l => l.length == 1 && l.all fun c => c ≤ 2 && c == q.num 1 0) = .error st) ∧
    (∃ (s : State) (q : VReq) (u : State) (st : VStatus), Runs s 0x0804 q u ∧ u.vaultState ≠ 1 ∧ u.vaultState ≠ 2 ∧
      u.openBlob ((q.param 1).getD []) (fun l => l.all (· ≤ 6) && [0, 2, 3, 4].all l.contains) = .error st) ∧
    (∃ (s : State) (q : VReq) (u : State) (d : Domain) (r : DomainKeys), Runs s 0x0805 q u ∧ u.domain? (q.num 1 0) = some d ∧
      u.ks.recs.find? (·.domain == q.num 1 0) = some r ∧ u.owns (.domain (q.num 1 0)) = true ∧ r.data.length < 8 ∧ r.newestData < 65535) ∧
    (∃ (s : State) (q : VReq) (u : State) (d : Domain) (r : DomainKeys), Runs s 0x0806 q u ∧ u.domain? (q.num 1 0) = some d ∧
      u.ks.recs.find? (·.domain == q.num 1 0) = some r ∧ u.owns (.domain (q.num 1 0)) = true) ∧
    (∃ (s : State) (q : VReq) (u : State), Runs s 0x0A01 q u ∧ u.bt.attestKey = true) ∧
    (∃ (s : State) (q : VReq) (u : State), Runs s 0x0A01 q u ∧ u.bt.attestKey = false) :=
  ⟨⟨hub, ask [(1, pointG)], _,
    runs_of (by decide +kernel),
    by decide +kernel⟩,
  ⟨hub, ask [(1, pointG)], _,
    runs_of (by decide +kernel),
    by decide +kernel⟩,
  ⟨hub, ask [(1, [0]), (2, [])], _, _,
    runs_of (by decide +kernel),
    error_of (by decide +kernel)⟩,
  ⟨hub.ks' fun k => { k with colony := { k.colony with cur := none }, recs := [] }, ask [(1, [])], _, _,
    runs_of (by decide +kernel),
    by decide +kernel,
    by decide +kernel,
    error_of (by decide +kernel)⟩,
  ⟨hub, ask [(1, le 2 1)], _, _, _,
    runs_of (by decide +kernel),
    some_of (by decide +kernel),
    some_of (by decide +kernel),
    by decide +kernel⟩,
  ⟨coded hub 0x0806 [(1, le 2 1)], askCode 2 [(1, le 2 1)], _, _, _,
    runs_of (by decide +kernel),
    some_of (by decide +kernel),
    some_of (by decide +kernel),
    by decide +kernel⟩,
  ⟨hub, ask [(1, zeros 32)], _,
    runs_of (by decide +kernel),
    by decide +kernel⟩,
  ⟨hub.bt' fun b => { b with attestKey := false }, ask [(1, zeros 32)], _,
    runs_of (by decide +kernel),
    by decide +kernel⟩⟩

/-- What `UpdateComplete` assumes can hold: clause 1, 2, 3, 5, 6, 7, 8, 9, 10, 11, 12. No evaluation reaches clause 4 (NOTES.md). -/
theorem witness_UpdateComplete :
    (∃ (s : State) (q : VReq) (u : State), Runs s 0x0A03 q u ∧ u.updRefusal true false = none ∧ u.up.open_ = none ∧ q.num 1 0 ≤ 142606336 ∧
      (q.num 2 0 = 0 ∨ q.num 2 0 = u.up.version) ∧ u.onTrial = false) ∧
    (∃ (s : State) (q : VReq) (u : State) (x : Update), Runs s 0x0A04 q u ∧ u.up.open_ = some x ∧ (crc32c q.payload).toNat = q.num 2 0 ∧
      x.received + q.payload.length ≤ x.len ∧ q.payload.length ≤ 65536 ∧ q.num 1 0 = x.received ∧
      x.staged + q.payload.length ≤ 8 * 2 ^ 20) ∧
    (∃ (s : State) (bytes : Nat) (x : Update), s.up.open_ = some x) ∧
    (∃ (s : State) (q : VReq) (u : State) (x : Update), Runs s 0x0A05 q u ∧ u.up.open_ = some x ∧ x.received = x.len ∧
      (assemble (u.bank u.bt.executing) x.pkg).complete x.pkg = true ∧ u.logFull = false ∧
      ((u.bank u.otherBank).checks u.bt.fusedMin && (u.bank u.otherBank).mainOk && (u.bank u.otherBank).version == fld x.pkg 12 4) = false) ∧
    (∃ (s : State) (q : VReq) (u : State) (x : Update), Runs s 0x0A06 q u ∧ u.updRefusal false true = none ∧ u.up.open_ = some x ∧
      x.verified = true) ∧
    (∃ (s : State) (q : VReq) (u : State), Runs s 0x0A07 q u ∧ u.updRefusal false false = none ∧ u.up.trial.isNone = false ∧
      u.onTrial = true ∧ u.bt.inService = true) ∧
    (∃ (s : State) (q : VReq) (u : State), Runs s 0x0A08 q u ∧ u.up.open_.isSome = true) ∧
    (∃ (s : State) (q : VReq) (u : State), Runs s 0x0A08 q u ∧ u.up.open_ = none ∧ u.onTrial = true) :=
  ⟨⟨hub.pw' fun p => { p with holdup := 10 ^ 6 }, ask [(1, le 4 0), (2, le 4 0)], _,
    runs_of (by decide +kernel),
    by decide +kernel⟩,
  ⟨hub.up' fun p => { p with open_ := some { (default : Update) with len := 100, verified := true } }, ask [(1, le 4 0), (2, le 4 0)], _, _,
    runs_of (by decide +kernel),
    some_of (by decide +kernel),
    by decide +kernel⟩,
  ⟨hub.up' fun p => { p with open_ := some { (default : Update) with len := 100, verified := true } }, 5, _,
    some_of (by decide +kernel)⟩,
  ⟨hub.up' fun p => { p with open_ := some { (default : Update) with len := 132, received := 132, pkg := zeros 128 ++ [219, 100, 39, 8] } }, ask [], _, _,
    runs_of (by decide +kernel),
    some_of (by decide +kernel),
    by decide +kernel⟩,
  ⟨((hub.up' fun p => { p with open_ := some { (default : Update) with len := 100, verified := true } }).pw' fun p => { p with holdup := 10 ^ 6 }).pr' fun p => { p with joined := true, leaseEnd := 10 ^ 9 + 20, peerMode := some .full }, ask [], _, _,
    runs_of (by decide +kernel),
    by decide +kernel,
    some_of (by decide +kernel),
    by decide +kernel⟩,
  ⟨(hub.up' fun p => { p with trial := some (0, 5) }).pw' fun p => { p with holdup := 10 ^ 6 }, ask [], _,
    runs_of (by decide +kernel),
    by decide +kernel⟩,
  ⟨hub.up' fun p => { p with open_ := some { (default : Update) with len := 100, verified := true } }, ask [], _,
    runs_of (by decide +kernel),
    by decide +kernel⟩,
  ⟨hub.up' fun p => { p with trial := some (0, 5) }, ask [], _,
    runs_of (by decide +kernel),
    by decide +kernel⟩⟩

/-- The same of `UpdateComplete`, further clauses. -/
theorem witness_UpdateComplete_b :
    (∃ (s : State) (q : VReq) (u : State), Runs s 0x0A09 q u ∧ u.up.lock ≠ (q.num 1 0 == 1)) ∧
    (∃ (s : State) (t : Nat), s.up.trial = some (s.bt.executing, t) ∧ t ≠ 0 ∧ t ≤ s.ck.rtc ∧ s.md.stopped = false) ∧
    (∃ (s : State) (q : VReq) (u : State), Runs s 0x0A0A q u ∧ (u.selfAccepts = false ∨ u.peerAccepts = true) ∧ q.num 1 0 ≠ 1 ∧
      u.md.recovery = false ∧ u.md.keyErased = false) :=
  ⟨⟨hub, ask [(1, [1])], _,
    runs_of (by decide +kernel),
    by decide +kernel⟩,
  ⟨(hub.up' fun p => { p with trial := some (0, 5) }).ck' fun c => { c with rtc := 9 }, _,
    some_of (by decide +kernel),
    by decide +kernel⟩,
  ⟨hub.md' fun m => { m with mode := none }, ask [], _,
    runs_of (by decide +kernel),
    by decide +kernel⟩⟩

/-- What `FrameTimersComplete` assumes can hold: clause 1, 2, 4, 5, 6, 7. -/
theorem witness_FrameTimersComplete :
    (∃ (s : State) (n : Nat) (f : Frame), s.frame? n false = some f ∧ (f.state == .opened || f.state == .checked) = true ∧
      f.lastReq + s.setting 0x02000005 * second ≤ s.ck.now) ∧
    (∃ (s : State) (n : Nat) (t : Nat) (is : List Item) (f : Frame), s.frame? n false = some f ∧ s.ck.tick + 1 < f.tick) ∧
    (∃ (s : State) (n : Nat) (f : Frame), s.frame? n false = some f ∧ (f.pair && f.state == .scheduled && f.go = 0) = true ∧
      f.tick ≤ s.ck.tick + 1 ∧ s.leavesTide f = false ∧ f.ready = true) ∧
    (∃ (s : State) (n : Nat) (f : Frame), s.frame? n false = some f ∧ (f.pair && f.state == .scheduled && f.go = 0) = true ∧
      f.tick ≤ s.ck.tick + 1 ∧ s.leavesTide f = false ∧ f.ready = false) ∧
    (∃ (s : State) (n : Nat) (f : Frame), s.frame? n false = some f ∧ (f.pair && f.state == .scheduled) = true ∧ f.go ≠ 0 ∧
      f.tick ≤ s.ck.tick) ∧
    (∃ (s : State) (t : Nat), s.md.wakeCheck = some t ∧ s.inMode .quiesce = true ∧ t + 100 * milli ≤ s.ck.now) :=
  ⟨⟨hub, 5, _,
    some_of (by decide +kernel),
    by decide +kernel⟩,
  ⟨hub.frame' 5 false fun f => { f with pair := true, state := .scheduled, tick := 10 ^ 9 + 9 }, 5, default, default, _,
    some_of (by decide +kernel),
    by decide +kernel⟩,
  ⟨hub.frame' 5 false fun f => { f with pair := true, state := .scheduled, tick := 10 ^ 9 + 1, ready := true }, 5, _,
    some_of (by decide +kernel),
    by decide +kernel⟩,
  ⟨hub.frame' 5 false fun f => { f with pair := true, state := .scheduled, tick := 10 ^ 9 + 1 }, 5, _,
    some_of (by decide +kernel),
    by decide +kernel⟩,
  ⟨hub.frame' 5 false fun f => { f with pair := true, state := .scheduled, tick := 9, go := 1 }, 5, _,
    some_of (by decide +kernel),
    by decide +kernel⟩,
  ⟨hub.md' fun m => { m with mode := some .quiesce, wakeCheck := some 0 }, _,
    some_of (by decide +kernel),
    by decide +kernel⟩⟩

/-- What `WireCommandsComplete` assumes can hold: clause 1, 2, 3, 4, 5, 6, 7. -/
theorem witness_WireCommandsComplete :
    (∃ (s : State) (e : Sqe) (c : Ctrl) (u : State), Reaches s e c u ∧ e.cdw10.toNat = e.data.length ∧ e.data.length % 4 = 0 ∧
      e.data.length ≤ 1048576) ∧
    (∃ (s : State) (e : Sqe) (c : Ctrl) (u : State), Reaches s e c u ∧
      (e.cdw10.toNat % 4 ≠ 0 ∨ 1048576 < e.cdw10.toNat ∨ e.cdw10.toNat ≠ e.data.length)) ∧
    (∃ (s : State) (e : Sqe) (c : Ctrl) (u : State) (h : HeldReply), Reaches s e c u ∧
      (u.vk.held.find? fun h => h.via == .nvme e.ctrl && (e.cdw11.toNat == 0xFFFFFFFF || h.rep.tag == e.cdw11.toNat)) = some h ∧
      h.rep.next.length ≤ e.cdw10.toNat) ∧
    (∃ (s : State) (e : Sqe) (c : Ctrl) (u : State) (h : HeldReply), Reaches s e c u ∧
      (u.vk.held.find? fun h => h.via == .nvme e.ctrl && (e.cdw11.toNat == 0xFFFFFFFF || h.rep.tag == e.cdw11.toNat)) = some h ∧
      e.cdw10.toNat < h.rep.next.length) ∧
    (∃ (s : State) (conn : Nat) (bs : Bytes), s.vk.mgConns.contains conn = true) ∧
    (∃ (s : State) (conn : Nat) (bs : Bytes), s.vk.attConns.contains conn = true ∧ bs.length = 32 ∧ s.md.stopped = false ∧
      s.md.halted = false ∧ s.pw.sleep.isSome = false ∧ (s.bt.inService || s.md.keyErased) = true ∧ s.bt.attestKey = true) ∧
    (∃ (s : State) (via : Transport) (ss : Nat) (tag : Nat) (h : HeldReply), (s.vk.held.find? fun h => h.via == via && h.rep.session == ss && h.rep.tag == tag && !h.rep.notice && h.atNs + 120 * second ≤ s.ck.now) = some h ∧
      h.own = true ∧ h.rep.status.final = true) :=
  ⟨⟨hub, sqe 0xC0, _, _,
    reaches_of (by decide +kernel) (by decide +kernel),
    by decide +kernel⟩,
  ⟨hub, { sqe 0xC0 with cdw10 := 1 }, _, _,
    reaches_of (by decide +kernel) (by decide +kernel),
    by decide +kernel⟩,
  ⟨hub.vk' fun v => { v with held := [⟨.nvme 3, ⟨0x0103, .success, 1, 0, 7, false, []⟩, 0, true⟩] }, { sqe 0xC1 with cdw10 := 4096, cdw11 := 0xFFFFFFFF }, _, _, _,
    reaches_of (by decide +kernel) (by decide +kernel),
    some_of (by decide +kernel),
    by decide +kernel⟩,
  ⟨hub.vk' fun v => { v with held := [⟨.nvme 3, ⟨0x0103, .success, 1, 0, 7, false, []⟩, 0, true⟩] }, { sqe 0xC1 with cdw10 := 0, cdw11 := 0xFFFFFFFF }, _, _, _,
    reaches_of (by decide +kernel) (by decide +kernel),
    some_of (by decide +kernel),
    by decide +kernel⟩,
  ⟨hub, 2, [],
    by decide +kernel⟩,
  ⟨hub, 4, zeros 32,
    by decide +kernel⟩,
  ⟨hub.vk' fun v => { v with held := [⟨.sb, ⟨0x0103, .success, 1, 0, 7, false, []⟩, 0, true⟩] }, .sb, 7, 1, _,
    some_of (by decide +kernel),
    by decide +kernel⟩⟩

/-- What `SidebandComplete` assumes can hold: clause 1, 2, 3, 4, 5, 6, 7, 8, 9, 11, 12, 13, 14, 15, 16, 17, 18, 19, 20, 21, 22. -/
theorem witness_SidebandComplete :
    (∃ (s : State) (w : BitVec 32) (u : State), OnSideband s 0x100 u ∧ u.reqFull = false ∧ (u.sb.req.length + 4) % 4096 ≠ 0 ∧
      u.sb.req.length ≠ 1048576) ∧
    (∃ (s : State) (w : BitVec 32) (u : State), OnSideband s 0x100 u ∧ u.reqFull = true) ∧
    (∃ (s : State) (w : BitVec 32) (u : State), OnSideband s 0x108 u ∧ u.sb.reqOverrun = false ∧ crc32c (unpadded u.sb.req) = w ∧
      u.sb.req.length ≤ 1048576) ∧
    (∃ (s : State) (w : BitVec 32) (u : State), OnSideband s 0x108 u ∧ crc32c (unpadded u.sb.req) ≠ w) ∧
    (∃ (s : State) (u : State), OnSideband s 0x110 u ∧ u.sbLoad.sb.rsp = []) ∧
    (∃ (s : State) (u : State) (p : Bytes) (ps : List Bytes), OnSideband s 0x110 u ∧ u.sbLoad.sb.rsp = p :: ps ∧ 3 < p.length) ∧
    (∃ (s : State) (u : State), OnSideband s 0x010 u) ∧
    (∃ (s : State) (u : State), OnSideband s 0x024 u) :=
  ⟨⟨hub, 5, _,
    ⟨by decide +kernel, rfl⟩,
    by decide +kernel⟩,
  ⟨hub.sb' fun b => { b with reqWptr := 3 }, 5, _,
    ⟨by decide +kernel, rfl⟩,
    by decide +kernel⟩,
  ⟨hub, crc32c [], _,
    ⟨by decide +kernel, rfl⟩,
    by decide +kernel⟩,
  ⟨hub, 5, _,
    ⟨by decide +kernel, rfl⟩,
    by decide +kernel⟩,
  ⟨hub, _,
    ⟨by decide +kernel, rfl⟩,
    by decide +kernel⟩,
  ⟨hub.sb' fun b => { b with rsp := [[1, 2, 3, 4, 5]] }, _, _, _,
    ⟨by decide +kernel, rfl⟩,
    cons_of (by decide +kernel),
    by decide +kernel⟩,
  ⟨hub, _,
    ⟨by decide +kernel, rfl⟩⟩,
  ⟨hub, _,
    ⟨by decide +kernel, rfl⟩⟩⟩

/-- The same of `SidebandComplete`, further clauses. -/
theorem witness_SidebandComplete_b :
    (∃ (s : State) (u : State) (t : Nat), OnSideband s 0x024 u ∧ u.sb.resetArm = some t ∧ u.ck.now ≤ t + milli) ∧
    (∃ (s : State) (w : BitVec 32) (u : State), OnSideband s 0x028 u ∧ w.getLsbD 0 = true) ∧
    (∃ (s : State) (w : BitVec 32) (u : State), OnSideband s 0x02C u ∧ w.getLsbD 0 = true ∧ u.pw.padsHeld = true) ∧
    (∃ (s : State) (w : BitVec 32) (u : State), OnSideband s 0x038 u) ∧
    (∃ (s : State) (w : BitVec 32) (u : State), OnSideband s 0x110 u) ∧
    (∃ (s : State) (w : BitVec 32) (u : State), OnSideband s 0x034 u) ∧
    (∃ (s : State) (off : Nat) (w : BitVec 32) (u : State), OnSideband s (off + 4) u ∧ off ≠ 0x030) ∧
    (∃ (s : State) (a : Nat), s.pw.aonOk = true ∧ s.sb.dynAddr = none) :=
  ⟨⟨hub.sb' fun b => { b with resetArm := some (10 ^ 15) }, _, _,
    ⟨by decide +kernel, rfl⟩,
    some_of (by decide +kernel),
    by decide +kernel⟩,
  ⟨hub, 1, _,
    ⟨by decide +kernel, rfl⟩,
    by decide +kernel⟩,
  ⟨hub.pw' fun p => { p with padsHeld := true }, 1, _,
    ⟨by decide +kernel, rfl⟩,
    by decide +kernel⟩,
  ⟨hub, 5, _,
    ⟨by decide +kernel, rfl⟩⟩,
  ⟨hub, 5, _,
    ⟨by decide +kernel, rfl⟩⟩,
  ⟨hub, 5, _,
    ⟨by decide +kernel, rfl⟩⟩,
  ⟨hub, 0x038, 5, _,
    ⟨by decide +kernel, rfl⟩,
    by decide +kernel⟩,
  ⟨hub, 9,
    by decide +kernel⟩⟩

/-- The same of `SidebandComplete`, further clauses. -/
theorem witness_SidebandComplete_c :
    (∃ (s : State) (a : Nat) (x : Nat), s.pw.aonOk = true ∧ s.sb.dynAddr = some x) ∧
    (∃ (s : State), s.pw.aonOk = true) ∧
    (∃ (s : State) (w : BitVec 8), s.pw.aonOk = true) ∧
    (∃ (s : State) (x : Nat), s.pw.aonOk = true ∧ s.sb.dynAddr = some x) ∧
    (∃ (s : State) (n : BitVec 16), s.pw.aonOk = true) :=
  ⟨⟨hub.sb' fun b => { b with dynAddr := some 9 }, 10, _,
    by decide +kernel,
    some_of (by decide +kernel)⟩,
  ⟨hub,
    by decide +kernel⟩,
  ⟨hub, 1,
    by decide +kernel⟩,
  ⟨hub.sb' fun b => { b with dynAddr := some 9 }, _,
    by decide +kernel,
    some_of (by decide +kernel)⟩,
  ⟨hub, 64,
    by decide +kernel⟩⟩

/-- What `EventsComplete` assumes can hold: clause 2, 3, 4, 5, 6, 7, 8, 9, 10, 11, 12, 13. -/
theorem witness_EventsComplete :
    (∃ (s : State) (r : Report0) (rest : List Report0), s.ev.lane = r :: rest) ∧
    (∃ (s : State) (r : Report0) (rest : List Report0), s.ev.lane = [] ∧ s.ev.fifo = r :: rest) ∧
    (∃ (s : State) (code : Nat) (b : Bucket) (t : Nat), s.ev.buckets.find? (·.code == code) = some b ∧ b.winOpen = some t ∧
      t + second ≤ s.ck.now) ∧
    (∃ (s : State) (code : Nat) (b : Bucket), s.ev.buckets.find? (·.code == code) = some b ∧ s.setting (0x09010000 + code) ≠ 0 ∧
      b.tokens ≠ s.setting (0x09020000 + code) ∧ b.belowSince + second / s.setting (0x09010000 + code) ≤ s.ck.now) ∧
    (∃ (s : State), s.ev.lastRetry + second ≤ s.ck.now) ∧
    (∃ (s : State) (n : Nat) (x : Session) (b : Sub), s.vk.sessions.find? (·.handle == n) = some x ∧ x.sub = some b ∧ b.queue ≠ [] ∧
      (256 ≤ b.queue.length ∨ b.since + 100 * milli ≤ s.ck.now)) ∧
    (∃ (s : State) (q : VReq) (u : State) (x : Session), Runs s 0x0902 q u ∧ (q.num 1 0 ≤ 7 ∨ q.num 1 0 = 0xFF) ∧
      u.sessionOf q.via q.session = some x ∧ (x.sub.any fun (b : Sub) => !b.queue.isEmpty) = false) ∧
    (∃ (s : State) (q : VReq) (u : State), Runs s 0x0904 q u ∧ (u.ctrBlocks (q.num 1 0) (q.num 2 0)).isNone = false ∧
      (ownerClears (q.num 1 0) = false ∨ ((u.sessionOf q.via q.session).any (·.priv == .owner)) = true)) :=
  ⟨⟨hub.ev' fun v => { v with lane := [⟨0x022, .fatal, 0, 0, 1, [], 0⟩] }, _, _,
    cons_of (by decide +kernel)⟩,
  ⟨hub.ev' fun v => { v with fifo := [⟨0x022, .warn, 0, 0, 1, [], 0⟩] }, _, _,
    by decide +kernel,
    cons_of (by decide +kernel)⟩,
  ⟨hub.ev' fun v => { v with buckets := [{ (default : Bucket) with code := 0x022, winOpen := some 0 }] }, 0x022, _, _,
    some_of (by decide +kernel),
    some_of (by decide +kernel),
    by decide +kernel⟩,
  ⟨hub.ev' fun v => { v with buckets := [{ (default : Bucket) with code := 0x022, winOpen := some 0 }] }, 0x022, _,
    some_of (by decide +kernel),
    by decide +kernel⟩,
  ⟨hub,
    by decide +kernel⟩,
  ⟨hub.session' 7 fun x => { x with sub := some ⟨0, 0, 0xFFF, [1], 0⟩ }, 7, _, _,
    some_of (by decide +kernel),
    some_of (by decide +kernel),
    by decide +kernel⟩,
  ⟨hub, ask [], _, _,
    runs_of (by decide +kernel),
    by decide +kernel,
    some_of (by decide +kernel),
    by decide +kernel⟩,
  ⟨hub, ask [(1, le 2 0x0301), (2, le 4 1)], _,
    runs_of (by decide +kernel),
    by decide +kernel⟩⟩

/-- The same of `EventsComplete`, further clauses. -/
theorem witness_EventsComplete_b :
    (∃ (s : State) (q : VReq) (t : State) (u : State) (l : Link), Runs s 0x0B01 q t ∧ u = t.recoveryLink (q.num 1 0) ∧
      u.link? (q.num 1 0) = some l ∧ l.state = .up ∧ q.num 2 0 < l.dieCount ∧ u.tasksAllowed = true ∧ l.dieFree (q.num 2 0) = true ∧
      l.room 1 = true ∧ l.erasing (q.num 2 0) = false ∧ (u.md.recovery = true ∨ l.epoch = u.hiveEpoch l.hive)) ∧
    (∃ (s : State) (q : VReq) (t : State) (u : State) (l : Link), Runs s 0x0B02 q t ∧ u = t.recoveryLink (q.num 1 0) ∧
      u.link? (q.num 1 0) = some l ∧ (u.isBrood l.hive = true ∨ u.owns (.honey l.hive) = true)) ∧
    (∃ (s : State) (q : VReq) (u : State), Runs s 0x0B03 q u ∧ u.md.mode.any acceptsMode = false) ∧
    (∃ (s : State) (q : VReq) (u : State), Runs s 0x0B04 q u) :=
  ⟨⟨hub, ask [(1, [0]), (2, [0]), (3, le 4 0)], _, _, _,
    runs_of (by decide +kernel),
    rfl,
    some_of (by decide +kernel),
    by decide +kernel⟩,
  ⟨hub, ask [(1, [0])], _, _, _,
    runs_of (by decide +kernel),
    rfl,
    some_of (by decide +kernel),
    by decide +kernel⟩,
  ⟨hub.md' fun m => { m with mode := some .quiesce }, ask [], _,
    runs_of (by decide +kernel),
    by decide +kernel⟩,
  ⟨hub, ask [(1, [0])], _,
    runs_of (by decide +kernel)⟩⟩

/-- What `WaxAndDramComplete` assumes can hold, clause by clause; the further ones follow. -/
theorem witness_WaxAndDramComplete :
    (∃ (s : State) (o : Nat), s.pw.waxStopped = false ∧ (s.wx.own.any (·.ordinal == o)) = true ∧ s.running = true) ∧
    (∃ (s : State), s.running = true ∧ s.joining = false ∧
      (67108864 ≤ s.wx.sinceCkpt ∨ s.wx.ckptAt + second ≤ s.ck.now ∨ s.ownFree < 96 * 2 ^ 20) ∧ s.wx.ckptAt + 8 * milli ≤ s.ck.now ∧
      s.slotOrd s.wx.nextSlot ≤ s.flushOrdinal) ∧
    (∃ (s : State), s.running = true ∧ s.flNext = none ∧ s.metaHives ≠ [] ∧ s.tasksAllowed = true ∧ s.fl.covered < s.wx.lastApplied) ∧
    (∃ (s : State), s.dr.trained = true ∧ s.dr.selfRefresh = false ∧ s.md.stopped = false ∧ s.dr.scrubAt + 86400 * second ≤ s.ck.now) ∧
    (∃ (s : State) (ch : Nat) (a : Nat) (u : State), ch < 8 ∧ a < s.dramBytes ∧ s.dr.trained = true ∧ s.md.stopped = false ∧
      s.pw.sleep = none ∧
      u = (((s.ev0 0x241 .error (le 1 ch ++ le 8 a)).bump 0x0207 ch 0 1).dr' fun d => { d with uncorr := (d.uncorr.filter fun e => ((s.ev0 0x241 .error (le 1 ch ++ le 8 a)).bump 0x0207 ch 0 1).ck.now < e.2 + second) ++ [(ch, ((s.ev0 0x241 .error (le 1 ch ++ le 8 a)).bump 0x0207 ch 0 1).ck.now)] })) ∧
    (∃ (s : State) (ch : Nat), ch < 8 ∧ s.dr.trained = true ∧ s.md.stopped = false ∧ s.pw.sleep = none) ∧
    (∃ (s : State) (a : Nat) (d : Bytes), a < s.dramBytes ∧ s.inWindow a = true) ∧
    (∃ (s : State) (a : Nat) (d : Bytes), a < s.dramBytes ∧ s.inWindow a = true) :=
  ⟨⟨hub.wx' fun w => { w with own := [{ (default : WaxRec) with ordinal := 3, live := true, accepted := true, domain := 1, body := .acceptWrite 1 0 0 3 [] }] }, 3,
    by decide +kernel⟩,
  ⟨hub,
    by decide +kernel⟩,
  ⟨hub.wx' fun w => { w with lastApplied := 1 },
    by decide +kernel⟩,
  ⟨hub,
    by decide +kernel⟩,
  ⟨hub, 7, 0, _,
    pre5 (by decide +kernel) (rfl)⟩,
  ⟨hub, 7,
    by decide +kernel⟩,
  ⟨hub, 12287, [1],
    by decide +kernel⟩,
  ⟨hub, 4096, [1],
    by decide +kernel⟩⟩

/-- The same of `WaxAndDramComplete`, further clauses. -/
theorem witness_WaxAndDramComplete_b :
    (∃ (s : State) (a : Nat) (d : Bytes), a < s.dramBytes ∧ s.inWindow a = false) ∧
    (∃ (s : State) (a : Nat), a < s.dramBytes ∧ s.inWindow a = true) ∧
    (∃ (s : State) (a : Nat), a < s.dramBytes ∧ s.inWindow a = false) ∧
    (∃ (s : State) (a : Nat) (w : Bool) (d : Bytes), s.dramBytes ≤ a) :=
  ⟨⟨hub, 12288, [1],
    by decide +kernel⟩,
  ⟨hub, 4096,
    by decide +kernel⟩,
  ⟨hub, 4095,
    by decide +kernel⟩,
  ⟨hub, 2 ^ 38, true, [1],
    by decide +kernel⟩⟩

/-- What `ReductionComplete` assumes can hold, clause by clause; the further ones follow. -/
theorem witness_ReductionComplete :
    (∃ (s : State) (o : Nat) (r : WaxRec), s.sources.find? (·.ordinal == o) = some r ∧ s.mayIngest r = true ∧
      (s.keyRec r.domain).isNone = true) ∧
    (∃ (s : State) (u : State) (o : Nat) (n : Nat) (off : Nat) (o' : Nat) (fl : Nat) (r : WaxRec) (data : Bytes), s.sources.find? (·.ordinal == o) = some r ∧
      s.mayIngest r = true ∧ (s.keyRec r.domain).isNone = false ∧ (s.sources.filter fun x => (s.chainOf o).contains x.ordinal) = [r] ∧
      u = (s.rd' fun x => { x with ingested := x.ingested ++ s.chainOf o }) ∧ r.body = .acceptWrite n off o' fl data ∧
      (s.ns? n).isSome = true) ∧
    (∃ (s : State) (o : Nat) (l : Nat) (d : Nat) (n : Nat) (k : Nat) (data : Bytes), data.length = 16384) ∧
    (∃ (s : State) (u : State) (t : State) (o : Nat) (l : Nat) (d : Nat) (data : Bytes) (r : Dup), u = (((s.laneKeeps (s.fingerprint d data)).stat 0x0301 l 0 1).stat 0x0302 d 0 data.length) ∧
      u.setting (0x03000001 + d * 0x100) ≠ 0 ∧ u.defers = false ∧ u.findDup d (s.fingerprint d data) data (u.inMode .distil) 0 = (t, r)) ∧
    (∃ (s : State) (u : State) (o : Nat) (r : WaxRec) (d : PutDesc) (data : Bytes), s.sources.find? (·.ordinal == o) = some r ∧
      s.mayIngest r = true ∧ (s.keyRec r.domain).isNone = false ∧ (s.sources.filter fun x => (s.chainOf o).contains x.ordinal) = [r] ∧
      u = (s.rd' fun x => { x with ingested := x.ingested ++ s.chainOf o }) ∧ r.body = .acceptPut d data ∧ d.abort = false) ∧
    (∃ (s : State) (t : State) (w : State) (c : Nat) (d : Deferred) (e : Deferred) (b : Bytes) (r : Dup), ((s.rd.deferred.filter fun d => s.owns (.domain d.domain) && (s.chunk? d.chunk).any fun c => c.state == .stored).find? (·.chunk == c)) = some d ∧
      (s.md.mode.any fun m => acceptsMode m && m != .surge && m != .mend) = true ∧ s.defers = false ∧
      ((s.rd.deferred.filter fun d => s.owns (.domain d.domain) && (s.chunk? d.chunk).any fun c => c.state == .stored).any (·.chunk < c)) = false ∧
      s.chunkBytes c = (t, .bytes b) ∧ e = { d with fp := t.fingerprint d.domain b } ∧ t.setting (0x03000001 + d.domain * 256) ≠ 0 ∧
      t.findDup d.domain e.fp b (t.compareMark e || t.inMode .distil) c = (w, r)) ∧
    (∃ (s : State) (t : State) (c : Nat) (d : Deferred) (b : Bytes), ((s.rd.deferred.filter fun d => s.owns (.domain d.domain) && (s.chunk? d.chunk).any fun c => c.state == .stored).find? (·.chunk == c)) = some d ∧
      (s.md.mode.any fun m => acceptsMode m && m != .surge && m != .mend) = true ∧ s.defers = false ∧
      ((s.rd.deferred.filter fun d => s.owns (.domain d.domain) && (s.chunk? d.chunk).any fun c => c.state == .stored).any (·.chunk < c)) = false ∧
      s.chunkBytes c = (t, .bytes b) ∧ t.setting (0x03000001 + d.domain * 256) = 0) ∧
    (∃ (s : State), s.rd.filterNew = none ∧ s.rd.filterReady = false) :=
  ⟨⟨hub.wx' fun w => { w with own := [{ (default : WaxRec) with ordinal := 3, live := true, accepted := true, domain := 2, body := .acceptWrite 1 0 0 3 [] }] }, 3, _,
    some_of (by decide +kernel),
    by decide +kernel⟩,
  ⟨hub.wx' fun w => { w with own := [{ (default : WaxRec) with ordinal := 3, live := true, accepted := true, domain := 1, body := .acceptWrite 1 0 0 3 [] }] }, _, 3, 1, 0, 0, 3, _, [],
    some_of (by decide +kernel),
    pre3 (by decide +kernel) ⟨rfl,
    by decide +kernel⟩⟩,
  ⟨hub, 0, 0, 1, 1, 0, zeros 16384,
    by decide +kernel⟩,
  ⟨hub.rd' fun r => { r with filterReady := true }, _, _, 0, 0, 1, [9], _,
    rfl,
    by decide +kernel,
    by decide +kernel,
    pair_of _⟩,
  ⟨hub.wx' fun w => { w with own := [{ (default : WaxRec) with ordinal := 3, live := true, accepted := true, domain := 1, body := .acceptPut default [] }] }, _, 3, _, default, [],
    some_of (by decide +kernel),
    pre3 (by decide +kernel) ⟨rfl,
    by decide +kernel⟩⟩,
  ⟨flashed.rd' fun r => { r with deferred := [⟨5, 1, [], false⟩] }, after5 (flashed.rd' fun r => { r with deferred := [⟨5, 1, [], false⟩] }), _, 5, _, _, [1], _,
    some_of (by decide +kernel),
    pre3 (by decide +kernel) ⟨reads5 (by decide +kernel),
    rfl,
    by decide +kernel,
    pair_of _⟩⟩,
  ⟨(flashed.rd' fun r => { r with deferred := [⟨5, 1, [], false⟩] }).vk' fun v => { v with settings := (0x03000101, [0]) :: v.settings }, after5 ((flashed.rd' fun r => { r with deferred := [⟨5, 1, [], false⟩] }).vk' fun v => { v with settings := (0x03000101, [0]) :: v.settings }), 5, _, [1],
    some_of (by decide +kernel),
    pre3 (by decide +kernel) ⟨reads5 (by decide +kernel),
    by decide +kernel⟩⟩,
  ⟨hub,
    by decide +kernel⟩⟩

/-- The same of `ReductionComplete`, further clauses. -/
theorem witness_ReductionComplete_b :
    (∃ (s : State) (f : List (Nat × BitVec 512)), s.rd.filterNew = some f) ∧
    (∃ (s : State) (t : State) (v : State) (n : Nat) (k : Nat) (m : Merge) (x : Namespace) (b : Bytes), ((s.rd.merges.filter fun m => m.nsid == n && m.k == k).sortBy fun a b => keyOrder a.ordinal ≤ keyOrder b.ordinal).head? = some m ∧
      s.ns? n = some x ∧
      (s.sources.any fun r => keyOrder r.ordinal < keyOrder m.ordinal && r.live && r.body.isData && !s.rd.ingested.contains r.ordinal && (r.span.map (spansMeet (n, k, k + 1))).getD false) = false ∧
      (if s.entryBefore n k m.ordinal = 0 then (s, BlockRead.bytes (zeros 16384)) else s.chunkBytes (s.entryBefore n k m.ordinal)) = (t, .bytes b) ∧
      v = ((t.rd' fun r => { r with merges := r.merges.erase m }).keepGather fun g => g.merge != some (n, k) || t.rd.merges.any fun x => x.nsid == n && x.k == k && x.ordinal != m.ordinal && x.dark)) ∧
    (∃ (s : State) (t : State) (v : State) (n : Nat) (k : Nat) (m : Merge) (x : Namespace), ((s.rd.merges.filter fun m => m.nsid == n && m.k == k).sortBy fun a b => keyOrder a.ordinal ≤ keyOrder b.ordinal).head? = some m ∧
      s.ns? n = some x ∧
      (s.sources.any fun r => keyOrder r.ordinal < keyOrder m.ordinal && r.live && r.body.isData && !s.rd.ingested.contains r.ordinal && (r.span.map (spansMeet (n, k, k + 1))).getD false) = false ∧
      s.entryBefore n k m.ordinal ≠ 0 ∧ s.chunkBytes (s.entryBefore n k m.ordinal) = (t, .lost) ∧
      v = ((t.rd' fun r => { r with merges := r.merges.erase m }).keepGather fun g => g.merge != some (n, k) || t.rd.merges.any fun x => x.nsid == n && x.k == k && x.ordinal != m.ordinal && x.dark)) ∧
    (∃ (s : State) (t : State) (n : Nat) (k : Nat) (h : Nat) (m : Merge) (x : Namespace), ((s.rd.merges.filter fun m => m.nsid == n && m.k == k).sortBy fun a b => keyOrder a.ordinal ≤ keyOrder b.ordinal).head? = some m ∧
      s.ns? n = some x ∧
      (s.sources.any fun r => keyOrder r.ordinal < keyOrder m.ordinal && r.live && r.body.isData && !s.rd.ingested.contains r.ordinal && (r.span.map (spansMeet (n, k, k + 1))).getD false) = false ∧
      s.entryBefore n k m.ordinal ≠ 0 ∧ s.chunkBytes (s.entryBefore n k m.ordinal) = (t, .dark h)) ∧
    (∃ (s : State) (u : State) (v : State) (i : Nat) (c : Chunk) (t : Stripe), s.chunk? (s.target i) = some c ∧ c.state = .stored ∧
      (s.hive? c.hive).any Hive.serves = true ∧ (s.domain? c.domain).any (·.keysErased) = false ∧
      u = (if s.readable c.hive then s.heed c.hive else s) ∧ u.stripe? c.place.ordinal = some t ∧
      u.readWaits t c.place.off c.len = false ∧
      u.overErases t (dedupBy ((u.pagesFor t (envPages t.region c.place.off c.len)).map (·.1))) = some v ∧
      v.stripe? c.place.ordinal = some t) ∧
    (∃ (s : State) (t : Nat), s.rd.cmpDefer = some t ∧ t + second ≤ s.ck.now ∧ s.se.cmpBusy ≠ 1 ∧ s.se.cmpBusy ≠ 2) :=
  ⟨⟨hub.rd' fun r => { r with filterNew := some [] }, _,
    some_of (by decide +kernel)⟩,
  ⟨hub.rd' fun r => { r with merges := [⟨1, 0, 3, false⟩] }, _, _, 1, 0, _, _, zeros 16384,
    some_of (by decide +kernel),
    some_of (by decide +kernel),
    by decide +kernel,
    pair_of2 (by decide +kernel),
    rfl⟩,
  ⟨hub.rd' fun r => { r with merges := [⟨1, 0, 3, false⟩], pendingMap := [(0, .nsMap 1 0 5 false)], chunks := [{ (default : Chunk) with id := 5, domain := 1, state := .dataLost, hive := 1 }] }, _, _, 1, 0, _, _,
    some_of (by decide +kernel),
    some_of (by decide +kernel),
    by decide +kernel,
    by decide +kernel,
    pair_of2 (by decide +kernel),
    rfl⟩,
  ⟨(hub.rd' fun r => { r with merges := [⟨1, 0, 3, false⟩], pendingMap := [(0, .nsMap 1 0 5 false)], chunks := [{ (default : Chunk) with id := 5, domain := 1, state := .stored, hive := 1 }] }).hive' 1 fun h => { h with state := .dark }, _, 1, 0, 1, _, _,
    some_of (by decide +kernel),
    some_of (by decide +kernel),
    by decide +kernel,
    by decide +kernel,
    pair_of2 (by decide +kernel)⟩,
  ⟨flashed, _, _, 5, _, _,
    some_of (by decide +kernel),
    pre3 (by decide +kernel) ⟨rfl,
    some_of (by decide +kernel),
    by decide +kernel,
    some_of (by decide +kernel),
    by decide +kernel⟩⟩,
  ⟨hub.rd' fun r => { r with cmpDefer := some 0 }, _,
    some_of (by decide +kernel),
    by decide +kernel⟩⟩

/-- What `SealComplete` assumes can hold: clause 1, 2, 3, 4, 5, 6, 7, 8, 9, 10, 11, 12, 13, 14. -/
theorem witness_SealComplete :
    (∃ (s : State) (r : SealReq), r.op = .xtsEnc) ∧
    (∃ (s : State) (r : SealReq), r.op = .cmacVerify) ∧
    (∃ (s : State) (m : SealMsg), m.req.bad = false ∧ m.req.keyClass ≠ 6 ∧ s.handleKey m.req = none) ∧
    (∃ (s : State) (n : Nat) (m : SealMsg), ((s.se.xts ++ s.se.cmac).filterMap (fun p => p)).find? (·.id == n) = some m ∧ m.req.op = .xtsEnc) ∧
    (∃ (s : State) (n : Nat) (m : SealMsg), (s.se.slots.find? fun m => m.id == n && !m.urgent) = some m ∧
      ((s.se.pipes m.req.op.isXts).filterMap fun p => p.filter (!·.urgent)) = []) ∧
    (∃ (s : State) (d : Nat) (r : DomainKeys), s.ks.recs.find? (·.domain == d) = some r ∧ r.onChip = true) ∧
    (∃ (s : State) (d : Nat) (r : DomainKeys), s.ks.recs.find? (·.domain == d) = some r ∧ r.onChip = false ∧ r.dramBad = false) ∧
    (∃ (s : State), s.se.cmpBusy ≠ 1 ∧ s.se.cmpBusy ≠ 2) :=
  ⟨⟨hub, { (default : SealReq) with op := .xtsEnc },
    by decide +kernel⟩,
  ⟨hub, { (default : SealReq) with op := .cmacVerify },
    by decide +kernel⟩,
  ⟨hub, { (default : SealMsg) with req := { (default : SealReq) with len := 16 } },
    by decide +kernel⟩,
  ⟨hub.se' fun v => { v with xts := [some { (default : SealMsg) with id := 2 }] }, 2, _,
    some_of (by decide +kernel),
    by decide +kernel⟩,
  ⟨hub.se' fun v => { v with slots := [{ (default : SealMsg) with id := 2 }] }, 2, _,
    some_of (by decide +kernel),
    by decide +kernel⟩,
  ⟨hub, 1, _,
    some_of (by decide +kernel),
    by decide +kernel⟩,
  ⟨hub.ks' fun k => { k with recs := [{ dkeys with onChip := false }] }, 1, _,
    some_of (by decide +kernel),
    by decide +kernel⟩,
  ⟨hub,
    by decide +kernel⟩⟩

/-- The same of `SealComplete`, further clauses. -/
theorem witness_SealComplete_b :
    (∃ (s : State), s.se.cmpBusy ≠ 1 ∧ s.se.cmpBusy ≠ 2) ∧
    (∃ (s : State) (l : LaneSt), s.se.cmpBusy = 1 ∧ s.se.lanes[s.se.cmpLane.toNat % 16]? = some l ∧ l.serial = s.se.cmpSerial ∧
      (fit 32 l.fp == s.bytesAt (s.se.cmpLo.toNat + s.se.cmpHi.toNat * 2 ^ 32) 32) = true) ∧
    (∃ (s : State) (l : LaneSt), s.se.cmpBusy = 1 ∧ s.se.lanes[s.se.cmpLane.toNat % 16]? = some l ∧ l.serial = s.se.cmpSerial ∧
      (fit 32 l.fp == s.bytesAt (s.se.cmpLo.toNat + s.se.cmpHi.toNat * 2 ^ 32) 32) = false) ∧
    (∃ (s : State), s.se.cmpBusy = 2) ∧
    (∃ (s : State), s.se.cmpBusy = 2) ∧
    (∃ (s : State), s.se.cmpBusy = 3 ∧ (s.se.cmpResult = 0xC33C#32 ∨ s.se.cmpResult = 0x6996#32)) :=
  ⟨⟨hub,
    by decide +kernel⟩,
  ⟨hub.se' fun v => { v with cmpBusy := 1 }, _,
    by decide +kernel,
    some_of (by decide +kernel),
    by decide +kernel⟩,
  ⟨hub.se' fun v => { v with cmpBusy := 1, lanes := [⟨[1], 0⟩] }, _,
    by decide +kernel,
    some_of (by decide +kernel),
    by decide +kernel⟩,
  ⟨hub.se' fun v => { v with cmpBusy := 2 },
    by decide +kernel⟩,
  ⟨hub.se' fun v => { v with cmpBusy := 2 },
    by decide +kernel⟩,
  ⟨hub.se' fun v => { v with cmpBusy := 3, cmpResult := 0xC33C },
    by decide +kernel⟩⟩

/-- What `NvmeConnectionsComplete` assumes can hold, clause by clause; the further ones follow. -/
theorem witness_NvmeConnectionsComplete :
    (∃ (s : State) (fp : Nat) (odd : Nat), s.md.stopped = false ∧ s.md.halted = false ∧ s.pw.sleep = none ∧ s.md.recovery = false ∧
      s.md.keyErased = false ∧ s.nv.conns.length < 16384 ∧ s.fabricOn fp odd = true) ∧
    (∃ (s : State) (conn : Nat) (hpda : Nat) (r2t : Nat) (h : Bool) (d : Bool) (c : Conn), s.nv.conns.find? (·.id == conn) = some c ∧
      (c.state == .ready) = false ∧ hpda ≤ 31) ∧
    (∃ (s : State) (conn : Nat) (hpda : Nat) (r2t : Nat) (pfv : Nat) (h : Bool) (d : Bool) (c : Conn), s.nv.conns.find? (·.id == conn) = some c ∧
      (c.state == .ready) = false ∧ (pfv ≠ 0 ∨ 31 < hpda)) ∧
    (∃ (s : State) (conn : Nat), s.nv.conns.any (·.id == conn) = true) ∧
    (∃ (s : State) (conn : Nat) (cid : Nat) (off : Nat) (data : Bytes) (got : Bytes) (c : Conn) (k : Nat) (n : Nat) (o : Nat) (len : Nat) (h : HostCmd), s.nv.conns.find? (·.id == conn) = some c ∧
      c.ctrl = some k ∧ s.cmd? k c.qid cid = some h ∧ h.kind = .writeData n o len got ∧ off = got.length ∧ data ≠ [] ∧
      got.length + data.length < len ∧ data.length ≤ 131072) ∧
    (∃ (s : State) (conn : Nat) (cid : Nat) (off : Nat) (data : Bytes) (got : Bytes) (c : Conn) (k : Nat) (n : Nat) (o : Nat) (len : Nat) (h : HostCmd), s.nv.conns.find? (·.id == conn) = some c ∧
      c.ctrl = some k ∧ s.cmd? k c.qid cid = some h ∧ h.kind = .writeData n o len got) ∧
    (∃ (s : State) (conn : Nat), s.nv.conns.any (·.id == conn) = true) ∧
    (∃ (s : State) (conn : Nat), s.nv.conns.any (·.id == conn) = false) :=
  ⟨⟨hub, 0, 0,
    by decide +kernel⟩,
  ⟨hub.nv' fun v => { v with conns := [{ (default : Conn) with id := 1, state := .open }] }, 1, 31, 0, false, false, _,
    some_of (by decide +kernel),
    by decide +kernel⟩,
  ⟨hub.nv' fun v => { v with conns := [{ (default : Conn) with id := 1, state := .open }] }, 1, 0, 0, 1, false, false, _,
    some_of (by decide +kernel),
    by decide +kernel⟩,
  ⟨hub, 1,
    by decide +kernel⟩,
  ⟨hub.nv' fun v => { v with cmds := [hcmd (.writeData 1 0 4096 [])] }, 1, 9, 0, [1], [], _, _, 1, 0, 4096, _,
    some_of (by decide +kernel),
    some_of (by decide +kernel),
    some_of (by decide +kernel),
    by decide +kernel⟩,
  ⟨hub.nv' fun v => { v with cmds := [hcmd (.writeData 1 0 4096 [])] }, 1, 9, 0, [1], [], _, _, 1, 0, 4096, _,
    some_of (by decide +kernel),
    some_of (by decide +kernel),
    some_of (by decide +kernel),
    by decide +kernel⟩,
  ⟨hub, 1,
    by decide +kernel⟩,
  ⟨hub, 2,
    by decide +kernel⟩⟩

/-- The same of `NvmeConnectionsComplete`, further clauses. -/
theorem witness_NvmeConnectionsComplete_b :
    (∃ (s : State) (x : NvConnect) (c : Conn) (id : Nat), s.nv.conns.find? (·.id == x.conn) = some c ∧ (c.state == .ready) = true ∧
      c.ctrl = none ∧ c.disc = false ∧ (x.subnqn == s.subnqn) = true ∧ x.qid = 0 ∧ x.cntlid = 0xFFFF ∧ 5000 ≤ x.kato ∧ x.kato ≤ 120000 ∧
      s.knownHost x.nqn = true ∧ x.sqsize ≤ 127 ∧ s.nv.ctrls.length < 1024 ∧ s.freeCtrl = some id) ∧
    (∃ (s : State) (e : Sqe) (c : Ctrl) (u : State), Reaches s e c u) ∧
    (∃ (s : State) (k : Nat) (c : Ctrl), s.ctrl? k = some c ∧ c.kaAt + c.kato * milli ≤ s.ck.now) :=
  ⟨⟨hub.nv' fun v => { v with conns := [{ (default : Conn) with id := 1, state := .ready }] }, ⟨1, 9, 0, 100, 5000, 0xFFFF, [1], hub.subnqn⟩, _, _,
    some_of (by decide +kernel),
    pre11 (by decide +kernel) (some_of (by decide +kernel))⟩,
  ⟨hub, sqe 0x18, _, _,
    reaches_of (by decide +kernel) (by decide +kernel)⟩,
  ⟨hub, 3, _,
    some_of (by decide +kernel),
    by decide +kernel⟩⟩

/-- What `NvmeAdminComplete` assumes can hold, clause by clause; the further ones follow. -/
theorem witness_NvmeAdminComplete :
    (∃ (s : State) (e : Sqe) (c : Ctrl) (u : State), Reaches s e c u ∧ e.cdw10.toNat % 256 = 1) ∧
    (∃ (s : State) (e : Sqe) (c : Ctrl) (u : State) (n : Namespace), Reaches s e c u ∧ e.cdw10.toNat % 256 = 0 ∧ c.discovery = false ∧
      u.nsOf c e.nsid = some n) ∧
    (∃ (s : State) (e : Sqe) (c : Ctrl) (u : State), Reaches s e c u ∧ c.discovery = false ∧ e.cdw10.toNat % 256 = 0x02 ∧
      e.cdw10.getLsbD 15 = false) ∧
    (∃ (s : State) (e : Sqe) (c : Ctrl) (u : State), Reaches s e c u ∧ e.cdw10.toNat % 256 = 0x07) ∧
    (∃ (s : State) (e : Sqe) (c : Ctrl) (u : State), Reaches s e c u ∧ e.cdw10.toNat % 256 = 0x0F ∧ 5000 ≤ e.cdw11.toNat ∧
      e.cdw11.toNat ≤ 120000) ∧
    (∃ (s : State) (e : Sqe) (c : Ctrl) (u : State), Reaches s e c u ∧ e.cdw10.toNat % 256 = 0xC0) ∧
    (∃ (s : State) (e : Sqe) (c : Ctrl) (u : State), Reaches s e c u ∧ c.aer.held.length < 8) ∧
    (∃ (s : State) (e : Sqe) (c : Ctrl) (u : State), Reaches s e c u ∧ 8 ≤ c.aer.held.length) :=
  ⟨⟨hub, { sqe 6 with cdw10 := 1 }, _, _,
    reaches_of (by decide +kernel) (by decide +kernel),
    by decide +kernel⟩,
  ⟨hub, sqe 6, _, _, _,
    reaches_of (by decide +kernel) (by decide +kernel),
    by decide +kernel,
    by decide +kernel,
    some_of (by decide +kernel)⟩,
  ⟨hub, { sqe 2 with cdw10 := 2 }, _, _,
    reaches_of (by decide +kernel) (by decide +kernel),
    by decide +kernel⟩,
  ⟨hub, { sqe 9 with cdw10 := 7 }, _, _,
    reaches_of (by decide +kernel) (by decide +kernel),
    by decide +kernel⟩,
  ⟨hub, { sqe 9 with cdw10 := 15, cdw11 := 5000 }, _, _,
    reaches_of (by decide +kernel) (by decide +kernel),
    by decide +kernel⟩,
  ⟨hub, { sqe 9 with cdw10 := 0xC0 }, _, _,
    reaches_of (by decide +kernel) (by decide +kernel),
    by decide +kernel⟩,
  ⟨hub, sqe 12, _, _,
    reaches_of (by decide +kernel) (by decide +kernel),
    by decide +kernel⟩,
  ⟨hub.ctrl' 3 fun c => { c with aer := { c.aer with held := List.range 8 } }, sqe 12, _, _,
    reaches_of (by decide +kernel) (by decide +kernel),
    by decide +kernel⟩⟩

/-- The same of `NvmeAdminComplete`, further clauses. -/
theorem witness_NvmeAdminComplete_b :
    (∃ (s : State) (e : Sqe) (c : Ctrl) (u : State) (h : HostCmd) (n : Nat) (a : Nat) (b : Nat), Reaches s e c u ∧
      e.cdw10.toNat % 65536 ≠ 0 ∧ u.cmd? c.id (e.cdw10.toNat % 65536) (e.cdw10.toNat / 65536) = some h ∧ h.kind = .read n a b) ∧
    (∃ (s : State) (e : Sqe) (c : Ctrl) (u : State), Reaches s e c u ∧ e.cdw10.toNat % 65536 ≠ 0 ∧
      u.cmd? c.id (e.cdw10.toNat % 65536) (e.cdw10.toNat / 65536) = none) ∧
    (∃ (s : State) (e : Sqe) (c : Ctrl) (u : State), Reaches s e c u ∧ e.cdw11.toNat / 256 % 256 = 0 ∧ e.cdw11.toNat % 256 = 1 ∧
      e.cdw12.toNat / 256 % 256 = 0x0F) ∧
    (∃ (s : State) (e : Sqe) (c : Ctrl) (u : State), Reaches s e c u ∧ e.cdw11.toNat % 65536 = 1) ∧
    (∃ (s : State) (e : Sqe) (c : Ctrl) (u : State), Reaches s e c u ∧ e.qid = 0 ∧ supportedAdmin.contains e.opc = false) ∧
    (∃ (s : State) (e : Sqe) (c : Ctrl) (u : State), Reaches s e c u ∧ e.qid ≠ 0 ∧ supportedIo.contains e.opc = true) :=
  ⟨⟨hub.nv' fun v => { v with cmds := [hcmd (.read 1 0 1)] }, { sqe 8 with cdw10 := 9 * 65536 + 1 }, _, _, _, 1, 0, 1,
    reaches_of (by decide +kernel) (by decide +kernel),
    by decide +kernel,
    some_of (by decide +kernel),
    by decide +kernel⟩,
  ⟨hub, { sqe 8 with cdw10 := 1 }, _, _,
    reaches_of (by decide +kernel) (by decide +kernel),
    by decide +kernel⟩,
  ⟨hub, { sqe 0x19 with cdw11 := 1, cdw12 := 0x0F00 }, _, _,
    reaches_of (by decide +kernel) (by decide +kernel),
    by decide +kernel⟩,
  ⟨hub, { sqe 0x1A with cdw11 := 1 }, _, _,
    reaches_of (by decide +kernel) (by decide +kernel),
    by decide +kernel⟩,
  ⟨hub, { sqe 0xFF with qid := 0 }, _, _,
    reaches_of (by decide +kernel) (by decide +kernel),
    by decide +kernel⟩,
  ⟨hub, sqe 2, _, _,
    reaches_of (by decide +kernel) (by decide +kernel),
    by decide +kernel⟩⟩

/-- What `NvmeIoComplete` assumes can hold, clause by clause. -/
theorem witness_NvmeIoComplete :
    (∃ (s : State) (e : Sqe) (c : Ctrl) (u : State) (n : Namespace) (slba : Nat) (nlb : Nat), Reaches s e c u ∧
      slba = e.cdw10.toNat + e.cdw11.toNat * 2 ^ 32 ∧ nlb = e.cdw12.toNat % 65536 + 1 ∧ u.nsOf c e.nsid = some n ∧
      (slba + nlb) * 4096 ≤ n.size ∧ nlb ≤ 256 ∧ u.pathStatus n.domain = none) ∧
    (∃ (s : State) (e : Sqe) (c : Ctrl) (u : State) (n : Namespace) (slba : Nat) (nlb : Nat), Reaches s e c u ∧
      slba = e.cdw10.toNat + e.cdw11.toNat * 2 ^ 32 ∧ nlb = e.cdw12.toNat % 65536 + 1 ∧ u.nsOf c e.nsid = some n ∧
      n.size < (slba + nlb) * 4096) ∧
    (∃ (s : State) (e : Sqe) (c : Ctrl) (u : State) (t : State) (n : Namespace) (off : Nat) (h : HostCmd), Reaches s e c u ∧
      off = 4096 * (e.cdw10.toNat + e.cdw11.toNat * 2 ^ 32) ∧ u.nsOf c e.nsid = some n ∧ e.cdw12.toNat / 2 ^ 20 % 16 = 0 ∧
      e.data.length = 4096 * (e.cdw12.toNat % 65536 + 1) ∧ u.writeCheck n off e.data.length = none ∧
      t = u.nv' (fun v => { v with cmds := v.cmds ++ [⟨e.ctrl, e.qid, e.cid, .write n.nsid off e.data false, none, u.ck.now, 0, none⟩] }) ∧
      t.cmd? e.ctrl e.qid e.cid = some h) ∧
    (∃ (s : State) (e : Sqe) (c : Ctrl) (u : State) (n : Namespace) (st : NvStatus), Reaches s e c u ∧ u.nsOf c e.nsid = some n ∧
      e.cdw12.toNat / 2 ^ 20 % 16 = 0 ∧
      u.writeCheck n (4096 * (e.cdw10.toNat + e.cdw11.toNat * 2 ^ 32)) (4096 * (e.cdw12.toNat % 65536 + 1)) = some st) ∧
    (∃ (s : State) (e : Sqe) (c : Ctrl) (u : State) (t : State) (n : Namespace) (off : Nat) (len : Nat) (h : HostCmd), Reaches s e c u ∧
      off = 4096 * (e.cdw10.toNat + e.cdw11.toNat * 2 ^ 32) ∧ len = 4096 * (e.cdw12.toNat % 65536 + 1) ∧ (zeros len).length = len ∧
      u.nsOf c e.nsid = some n ∧ e.cdw12.toNat / 2 ^ 20 % 16 = 0 ∧ u.writeCheck n off len = none ∧
      t = u.nv' (fun v => { v with cmds := v.cmds ++ [⟨e.ctrl, e.qid, e.cid, .write n.nsid off (zeros len) true, none, u.ck.now, 0, none⟩] }) ∧
      t.cmd? e.ctrl e.qid e.cid = some h) ∧
    (∃ (s : State) (e : Sqe) (c : Ctrl) (u : State), Reaches s e c u) ∧
    (∃ (s : State) (e : Sqe) (c : Ctrl) (u : State) (n : Namespace), Reaches s e c u ∧ u.nsOf c e.nsid = some n ∧ e.cdw11.getLsbD 2 = true ∧
      ((dsmRanges e.data (e.cdw10.toNat % 256 + 1)).any fun r => 4096 * (r.1 + r.2) > n.size) = false ∧ n.discard = .hint ∧
      u.pathStatus n.domain = none ∧ u.readOnly n.domain = false) ∧
    (∃ (s : State) (k : Nat) (q : Nat) (i : Nat) (n : Nat) (off : Nat) (data : Bytes) (z : Bool) (h : HostCmd), s.cmd? k q i = some h ∧
      h.kind = .write n off data z) ∧
    (∃ (s : State) (k : Nat) (q : Nat) (i : Nat) (d : PutDesc) (data : Bytes) (h : HostCmd), s.cmd? k q i = some h ∧ h.kind = .put d data) ∧
    (∃ (s : State) (k : Nat) (q : Nat) (i : Nat) (e : Sqe) (h : HostCmd), s.cmd? k q i = some h ∧ h.kind = .loc e ∧ e.opc = 0x86 ∧
      e.cdw5.getLsbD 0 = true ∧ h.deadline ≤ s.ck.now) :=
  ⟨⟨hub, sqe 2, _, _, _, _, _,
    reaches_of (by decide +kernel) (by decide +kernel),
    rfl,
    rfl,
    some_of (by decide +kernel),
    by decide +kernel⟩,
  ⟨hub, { sqe 2 with cdw10 := 16 }, _, _, _, _, _,
    reaches_of (by decide +kernel) (by decide +kernel),
    rfl,
    rfl,
    some_of (by decide +kernel),
    by decide +kernel⟩,
  ⟨hub, { sqe 1 with data := zeros 4096 }, _, _, _, _, _, _,
    reaches_of (by decide +kernel) (by decide +kernel),
    rfl,
    some_of (by decide +kernel),
    pre3 (by decide +kernel) ⟨rfl,
    some_of (by decide +kernel)⟩⟩,
  ⟨hub, { sqe 1 with cdw10 := 16 }, _, _, _, _,
    reaches_of (by decide +kernel) (by decide +kernel),
    some_of (by decide +kernel),
    by decide +kernel,
    some_of (by decide +kernel)⟩,
  ⟨hub, sqe 8, _, _, _, _, _, _, _,
    reaches_of (by decide +kernel) (by decide +kernel),
    rfl,
    rfl,
    by decide +kernel,
    some_of (by decide +kernel),
    by decide +kernel,
    by decide +kernel,
    rfl,
    some_of (by decide +kernel)⟩,
  ⟨hub, sqe 0, _, _,
    reaches_of (by decide +kernel) (by decide +kernel)⟩,
  ⟨hub, { sqe 9 with cdw11 := 4, data := zeros 16 }, _, _, _,
    reaches_of (by decide +kernel) (by decide +kernel),
    some_of (by decide +kernel),
    by decide +kernel⟩,
  ⟨hub.nv' fun v => { v with cmds := [hcmd (.write 1 0 [] false)] }, 3, 1, 9, 1, 0, [], false, _,
    some_of (by decide +kernel),
    by decide +kernel⟩,
  ⟨hub.nv' fun v => { v with cmds := [hcmd (.put default [])] }, 3, 1, 9, default, [], _,
    some_of (by decide +kernel),
    by decide +kernel⟩,
  ⟨hub.nv' fun v => { v with cmds := [hcmd (.loc { sqe 0x86 with cdw5 := 1 })] }, 3, 1, 9, { sqe 0x86 with cdw5 := 1 }, _,
    some_of (by decide +kernel),
    by decide +kernel⟩⟩

/-- What `LocatorComplete` assumes can hold, clause by clause; the further ones follow. -/
theorem witness_LocatorComplete :
    (∃ (s : State) (e : Sqe) (c : Ctrl) (u : State) (v : State) (w : State) (d : PutDesc) (h : HostCmd), Reaches s e c u ∧
      e.nsid = 0xFFFFFFFF ∧ d = putDesc e.data ∧ 64 ≤ e.data.length ∧ e.data.length = e.xfer ∧ e.data.length ≤ 8192 ∧
      (u.domain? (e.cdw10.toNat % 65536)).isNone = false ∧ u.admits (e.cdw10.toNat % 65536) c.nqn = true ∧
      u.pathStatus (e.cdw10.toNat % 65536) = none ∧ putFields e d = true ∧ (u.domain? (e.cdw10.toNat % 65536)).any (·.replica) = false ∧
      d.objLen ≤ 2 ^ 44 ∧ d.stream = 0 ∧ d.reset = false ∧ u.putCheck = none ∧
      h = ⟨e.ctrl, e.qid, e.cid, .put d (e.data.drop 64), none, u.ck.now, 0, none⟩ ∧
      v = (u.nv' fun v => { v with cmds := v.cmds ++ [h] }) ∧ v.cmd? e.ctrl e.qid e.cid = some h ∧ v.original h d = none ∧ (d.part = 0 ∧
      d.abort = false ∨ v.partCheck d = none) ∧ v.putCheck = none ∧ v.holdsWork = false ∧ v.rebHolds d.domain = false ∧
      w = ((v.countHeld h).stat 0x1801 d.domain (if d.part = 0 then 0 else 1) 1).putRecs d (e.data.drop 64) [.complete e.ctrl e.qid e.cid 0]) ∧
    (∃ (s : State) (e : Sqe) (c : Ctrl) (u : State) (v : State) (d : PutDesc) (h : HostCmd) (k : Nat) (g : Bytes), Reaches s e c u ∧
      e.nsid = 0xFFFFFFFF ∧ d = putDesc e.data ∧ 64 ≤ e.data.length ∧ e.data.length = e.xfer ∧ e.data.length ≤ 8192 ∧
      (u.domain? (e.cdw10.toNat % 65536)).isNone = false ∧ u.admits (e.cdw10.toNat % 65536) c.nqn = true ∧
      u.pathStatus (e.cdw10.toNat % 65536) = none ∧ putFields e d = true ∧ (u.domain? (e.cdw10.toNat % 65536)).any (·.replica) = false ∧
      d.objLen ≤ 2 ^ 44 ∧ d.stream = 0 ∧ d.reset = false ∧ u.putCheck = none ∧
      h = ⟨e.ctrl, e.qid, e.cid, .put d (e.data.drop 64), none, u.ck.now, 0, none⟩ ∧
      v = (u.nv' fun v => { v with cmds := v.cmds ++ [h] }) ∧ v.cmd? e.ctrl e.qid e.cid = some h ∧
      v.original h d = some (d.objLen, k, some g) ∧ (d.part = 0 ∨ k = d.putLen)) ∧
    (∃ (s : State) (e : Sqe) (c : Ctrl) (u : State) (v : State) (d : PutDesc) (h : HostCmd) (l : Nat) (k : Nat) (g : Option Bytes), Reaches s e c u ∧
      e.nsid = 0xFFFFFFFF ∧ d = putDesc e.data ∧ 64 ≤ e.data.length ∧ e.data.length = e.xfer ∧ e.data.length ≤ 8192 ∧
      (u.domain? (e.cdw10.toNat % 65536)).isNone = false ∧ u.admits (e.cdw10.toNat % 65536) c.nqn = true ∧
      u.pathStatus (e.cdw10.toNat % 65536) = none ∧ putFields e d = true ∧ (u.domain? (e.cdw10.toNat % 65536)).any (·.replica) = false ∧
      d.objLen ≤ 2 ^ 44 ∧ d.stream = 0 ∧ d.reset = false ∧ u.putCheck = none ∧
      h = ⟨e.ctrl, e.qid, e.cid, .put d (e.data.drop 64), none, u.ck.now, 0, none⟩ ∧
      v = (u.nv' fun v => { v with cmds := v.cmds ++ [h] }) ∧ v.cmd? e.ctrl e.qid e.cid = some h ∧ v.original h d = some (l, k, g) ∧
      (l ≠ d.objLen ∨ d.part ≠ 0 ∧ k ≠ d.putLen)) ∧
    (∃ (s : State) (e : Sqe) (c : Ctrl) (u : State), Reaches s e c u ∧ e.nsid = 0xFFFFFFFF ∧ e.data.length < 64 ∧ e.data.length < e.xfer ∧
      e.xfer ≤ 1048576) ∧
    (∃ (s : State) (e : Sqe) (c : Ctrl) (u : State) (v : State) (w : State) (x : State) (ch : Nat) (off : Nat) (n : Nat) (via : Option LedgerEntry) (o : Obj) (rs : List BlockRead), Reaches s e c u ∧
      e.nsid = 0xFFFFFFFF ∧ u.locCheck c e.locator = (v, none) ∧ e.locFields = true ∧
      v.resolve (fld e.locator 2 2) (locPlace e.locator) = .found ch via ∧ v.objOfTop (fld e.locator 2 2) ch = some o ∧
      o.state ≠ .released ∧ e.opc = 0x82 ∧ off = 4096 * e.cdw5.toNat ∧ off ≤ o.len ∧ n = min e.xfer (o.len - off) ∧
      w = (if via.isSome then (v.stat 0x1803 o.domain 0 1).stat 0x1803 o.domain 1 1 else v.stat 0x1803 o.domain 0 1) ∧
      (if n = 0 then (w, []) else State.walkMan 4 w o.top 0 off (off + n)) = (x, rs)) ∧
    (∃ (s : State) (e : Sqe) (c : Ctrl) (u : State) (v : State) (ch : Nat) (via : Option LedgerEntry) (o : Obj), Reaches s e c u ∧
      e.nsid = 0xFFFFFFFF ∧ u.locCheck c e.locator = (v, none) ∧ e.locFields = true ∧
      v.resolve (fld e.locator 2 2) (locPlace e.locator) = .found ch via ∧ v.objOfTop (fld e.locator 2 2) ch = some o ∧
      o.state ≠ .released ∧ e.opc = 0x82 ∧ o.len < 4096 * e.cdw5.toNat) ∧
    (∃ (s : State) (e : Sqe) (c : Ctrl) (u : State) (v : State) (ch : Nat) (via : Option LedgerEntry) (o : Obj), Reaches s e c u ∧
      e.nsid = 0xFFFFFFFF ∧ u.locCheck c e.locator = (v, none) ∧ e.locFields = true ∧
      v.resolve (fld e.locator 2 2) (locPlace e.locator) = .found ch via ∧ v.objOfTop (fld e.locator 2 2) ch = some o ∧
      o.state ≠ .released ∧ e.opc = 0x86 ∧ e.cdw5.getLsbD 0 = false) ∧
    (∃ (s : State) (e : Sqe) (c : Ctrl) (u : State) (d : Nat) (r : Option Obj), Reaches s e c u ∧ e.nsid = 0xFFFFFFFF ∧ e.opc = 0x86 ∧
      e.cdw5.getLsbD 0 = true ∧ d = e.cdw14.toNat % 65536 ∧ (u.domain? d).isNone = false ∧ u.admits d c.nqn = true ∧
      u.pathStatus d = none ∧ e.locFields = true ∧
      u.objOfToken d ([e.cdw10, e.cdw11, e.cdw12, e.cdw13].flatMap fun w => le 4 w.toNat) = r) :=
  ⟨⟨serving, putE 0x81 0 4, _, _, _, _, _, _,
    reaches_of (by decide +kernel) (by decide +kernel),
    by decide +kernel,
    rfl,
    pre11 (by decide +kernel) ⟨by decide +kernel,
    rfl,
    rfl,
    by decide +kernel,
    by decide +kernel,
    Or.inl (by decide +kernel),
    pre3 (by decide +kernel) (rfl)⟩⟩,
  ⟨(hub.ob' fun o => { o with tokens := [{ (default : TokenEntry) with domain := 1, token := zeros 15 ++ [7], key := 7 }], objs := [{ (default : Obj) with domain := 1, key := 7, len := 4, state := .live, digest := [7] }] }), putE 0x81 0 4, _, _, _, _, _, 4, [7],
    reaches_of (by decide +kernel) (by decide +kernel),
    by decide +kernel,
    rfl,
    pre11 (by decide +kernel) ⟨by decide +kernel,
    rfl,
    rfl,
    by decide +kernel,
    by decide +kernel,
    Or.inl (by decide +kernel)⟩⟩,
  ⟨(hub.ob' fun o => { o with tokens := [{ (default : TokenEntry) with domain := 1, token := zeros 15 ++ [7], key := 7 }], objs := [{ (default : Obj) with domain := 1, key := 7, len := 5, state := .live, digest := [7] }] }), putE 0x81 0 4, _, _, _, _, _, 5, 5, some [7],
    reaches_of (by decide +kernel) (by decide +kernel),
    by decide +kernel,
    rfl,
    pre11 (by decide +kernel) ⟨by decide +kernel,
    rfl,
    rfl,
    by decide +kernel,
    by decide +kernel,
    Or.inl (by decide +kernel)⟩⟩,
  ⟨hub, { putE 0x81 0 4 with data := [] }, _, _,
    reaches_of (by decide +kernel) (by decide +kernel),
    by decide +kernel⟩,
  ⟨((hub.rd' fun r => { r with chunks := [{ (default : Chunk) with id := 5, domain := 1, state := .stored, manifest := true, place := ⟨4, 0⟩, refs := 1 }] }).ob' (fun o => { o with objs := [{ (default : Obj) with domain := 1, top := 5, state := .live, key := 1, len := 8192 }] })).vo' fun v => { v with ledger := [⟨⟨4, 0⟩, 5, 1, 0⟩] }, locE 0x82 4096 2, _, _, _, _, _, 5, _, _, some ⟨⟨4, 0⟩, 5, 1, 0⟩, _, _,
    reaches_of (by decide +kernel) (by decide +kernel),
    by decide +kernel,
    locCheck_of (tag_right _ _ _) (by decide +kernel),
    by decide +kernel,
    by decide +kernel,
    some_of (by decide +kernel),
    by decide +kernel,
    by decide +kernel,
    rfl,
    by decide +kernel,
    rfl,
    rfl,
    pair_of _⟩,
  ⟨((hub.rd' fun r => { r with chunks := [{ (default : Chunk) with id := 5, domain := 1, state := .stored, manifest := true, place := ⟨4, 0⟩, refs := 1 }] }).ob' (fun o => { o with objs := [{ (default : Obj) with domain := 1, top := 5, state := .live, key := 1, len := 8192 }] })).vo' fun v => { v with ledger := [⟨⟨4, 0⟩, 5, 1, 0⟩] }, locE 0x82 4096 3, _, _, _, 5, some ⟨⟨4, 0⟩, 5, 1, 0⟩, _,
    reaches_of (by decide +kernel) (by decide +kernel),
    by decide +kernel,
    locCheck_of (tag_right _ _ _) (by decide +kernel),
    by decide +kernel,
    by decide +kernel,
    some_of (by decide +kernel),
    by decide +kernel⟩,
  ⟨((hub.rd' fun r => { r with chunks := [{ (default : Chunk) with id := 5, domain := 1, state := .stored, manifest := true, place := ⟨4, 0⟩, refs := 1 }] }).ob' (fun o => { o with objs := [{ (default : Obj) with domain := 1, top := 5, state := .live, key := 1, len := 8192 }] })).vo' fun v => { v with ledger := [⟨⟨4, 0⟩, 5, 1, 0⟩] }, locE 0x86 128 0, _, _, _, 5, some ⟨⟨4, 0⟩, 5, 1, 0⟩, _,
    reaches_of (by decide +kernel) (by decide +kernel),
    by decide +kernel,
    locCheck_of (tag_right _ _ _) (by decide +kernel),
    by decide +kernel,
    by decide +kernel,
    some_of (by decide +kernel),
    by decide +kernel⟩,
  ⟨hub, { locE 0x86 128 1 with cdw14 := 1 }, _, _, _, _,
    reaches_of (by decide +kernel) (by decide +kernel),
    pre3 (by decide +kernel) ⟨rfl,
    pre4 (by decide +kernel) (rfl)⟩⟩⟩

/-- The same of `LocatorComplete`, further clauses. -/
theorem witness_LocatorComplete_b :
    (∃ (s : State) (e : Sqe) (c : Ctrl) (u : State) (v : State) (ch : Nat) (via : Option LedgerEntry) (o : Obj), Reaches s e c u ∧
      e.nsid = 0xFFFFFFFF ∧ u.locCheck c e.locator = (v, none) ∧ e.locFields = true ∧
      v.resolve (fld e.locator 2 2) (locPlace e.locator) = .found ch via ∧ v.objOfTop (fld e.locator 2 2) ch = some o ∧
      o.state ≠ .released ∧ e.opc = 0x8A) ∧
    (∃ (s : State) (e : Sqe) (c : Ctrl) (u : State) (v : State) (ch : Nat) (via : Option LedgerEntry) (o : Obj), Reaches s e c u ∧
      e.nsid = 0xFFFFFFFF ∧ u.locCheck c e.locator = (v, none) ∧ e.locFields = true ∧
      v.resolve (fld e.locator 2 2) (locPlace e.locator) = .found ch via ∧ v.objOfTop (fld e.locator 2 2) ch = some o ∧
      o.state ≠ .released ∧ e.opc = 0x8C ∧ v.readOnly o.domain = false) ∧
    (∃ (s : State) (e : Sqe) (c : Ctrl) (u : State) (v : State) (ch : Nat) (via : Option LedgerEntry) (o : Obj), Reaches s e c u ∧
      e.nsid = 0xFFFFFFFF ∧ u.locCheck c e.locator = (v, none) ∧ e.locFields = true ∧
      v.resolve (fld e.locator 2 2) (locPlace e.locator) = .found ch via ∧ v.objOfTop (fld e.locator 2 2) ch = some o ∧
      o.state ≠ .released ∧ e.opc = 0x90 ∧ v.readOnly o.domain = false) ∧
    (∃ (s : State) (e : Sqe) (c : Ctrl) (u : State) (v : State) (st : NvStatus), Reaches s e c u ∧ e.nsid = 0xFFFFFFFF ∧
      (e.opc ≠ 0x86 ∨ e.cdw5.getLsbD 0 = false) ∧ u.locCheck c e.locator = (v, some st)) ∧
    (∃ (s : State) (e : Sqe) (c : Ctrl) (u : State) (v : State), Reaches s e c u ∧ e.nsid = 0xFFFFFFFF ∧ u.locCheck c e.locator = (v, none) ∧
      e.locFields = true ∧ (e.opc ≠ 0x86 ∨ e.cdw5.getLsbD 0 = false)) ∧
    (∃ (s : State) (e : Sqe) (c : Ctrl) (u : State), Reaches s e c u ∧ e.nsid ≠ 0xFFFFFFFF) ∧
    (∃ (s : State) (k : Nat) (o : Obj) (p : Part), s.obj? k = some o ∧ s.owns (.domain o.domain) = true ∧
      (s.keyRec o.domain).isNone = false ∧ o.multi = false ∧ o.state = .accepted ∧ s.creating k = false ∧ o.parts.head? = some p ∧
      s.partPlaced p = true) ∧
    (∃ (s : State) (k : Nat) (o : Obj) (p : Part), s.obj? k = some o ∧ s.owns (.domain o.domain) = true ∧
      (s.keyRec o.domain).isNone = false ∧ o.multi = true ∧ o.state = .opened ∧
      (o.parts.filter fun p => p.accepted && !p.added && s.partPlaced p && !s.adding o.key p.num) = [p]) :=
  ⟨⟨((hub.rd' fun r => { r with chunks := [{ (default : Chunk) with id := 5, domain := 1, state := .stored, manifest := true, place := ⟨4, 0⟩, refs := 1 }] }).ob' (fun o => { o with objs := [{ (default : Obj) with domain := 1, top := 5, state := .live, key := 1, len := 8192 }] })).vo' fun v => { v with ledger := [⟨⟨4, 0⟩, 5, 1, 0⟩] }, locE 0x8A 128 1, _, _, _, 5, some ⟨⟨4, 0⟩, 5, 1, 0⟩, _,
    reaches_of (by decide +kernel) (by decide +kernel),
    by decide +kernel,
    locCheck_of (tag_right _ _ _) (by decide +kernel),
    by decide +kernel,
    by decide +kernel,
    some_of (by decide +kernel),
    by decide +kernel⟩,
  ⟨((serving.rd' fun r => { r with chunks := [{ (default : Chunk) with id := 5, domain := 1, state := .stored, manifest := true, place := ⟨4, 0⟩, refs := 1 }] }).ob' (fun o => { o with objs := [{ (default : Obj) with domain := 1, top := 5, state := .live, key := 1, len := 8192 }] })).vo' fun v => { v with ledger := [⟨⟨4, 0⟩, 5, 1, 0⟩] }, locE 0x8C 0 0, _, _, _, 5, some ⟨⟨4, 0⟩, 5, 1, 0⟩, _,
    reaches_of (by decide +kernel) (by decide +kernel),
    by decide +kernel,
    locCheck_of (tag_right _ _ _) (by decide +kernel),
    by decide +kernel,
    by decide +kernel,
    some_of (by decide +kernel),
    by decide +kernel⟩,
  ⟨((serving.rd' fun r => { r with chunks := [{ (default : Chunk) with id := 5, domain := 1, state := .stored, manifest := true, place := ⟨4, 0⟩, refs := 1 }] }).ob' (fun o => { o with objs := [{ (default : Obj) with domain := 1, top := 5, state := .live, key := 1, len := 8192 }] })).vo' fun v => { v with ledger := [⟨⟨4, 0⟩, 5, 1, 0⟩] }, locE 0x90 0 1, _, _, _, 5, some ⟨⟨4, 0⟩, 5, 1, 0⟩, _,
    reaches_of (by decide +kernel) (by decide +kernel),
    by decide +kernel,
    locCheck_of (tag_right _ _ _) (by decide +kernel),
    by decide +kernel,
    by decide +kernel,
    some_of (by decide +kernel),
    by decide +kernel⟩,
  ⟨hub, { locE 0x82 4096 0 with cdw2 := 0 }, _, _, _, _,
    reaches_of (by decide +kernel) (by decide +kernel),
    by decide +kernel,
    Or.inl (by decide +kernel),
    pair_some (by decide +kernel)⟩,
  ⟨((hub.rd' fun r => { r with chunks := [{ (default : Chunk) with id := 5, domain := 1, state := .stored, manifest := true, place := ⟨4, 0⟩, refs := 1 }] }).ob' (fun o => { o with objs := [{ (default : Obj) with domain := 1, top := 5, state := .live, key := 1, len := 8192 }] })).vo' fun v => { v with ledger := [⟨⟨4, 0⟩, 5, 1, 0⟩] }, locE 0x82 4096 0, _, _, _,
    reaches_of (by decide +kernel) (by decide +kernel),
    by decide +kernel,
    locCheck_of (tag_right _ _ _) (by decide +kernel),
    by decide +kernel,
    Or.inl (by decide +kernel)⟩,
  ⟨hub, sqe 0x81, _, _,
    reaches_of (by decide +kernel) (by decide +kernel),
    by decide +kernel⟩,
  ⟨(hub.ob' fun o => { o with objs := [{ (default : Obj) with domain := 1, key := 1, multi := false, state := .accepted, parts := [{ (default : Part) with num := 0, accepted := true, manifest := 5 }] }] }).rd' fun r => { r with chunks := [{ (default : Chunk) with id := 5, domain := 1, state := .stored, refs := 1 }] }, 1, _, _,
    some_of (by decide +kernel),
    pre5 (by decide +kernel) ⟨some_of (by decide +kernel),
    by decide +kernel⟩⟩,
  ⟨(hub.ob' fun o => { o with objs := [{ (default : Obj) with domain := 1, key := 1, multi := true, state := .opened, parts := [{ (default : Part) with num := 1, accepted := true, manifest := 5 }] }] }).rd' fun r => { r with chunks := [{ (default : Chunk) with id := 5, domain := 1, state := .stored, refs := 1 }] }, 1, _, _,
    some_of (by decide +kernel),
    pre4 (by decide +kernel) (rfl)⟩⟩

/-- The same of `LocatorComplete`, further clauses. -/
theorem witness_LocatorComplete_c :
    (∃ (s : State) (d : Nat) (tok : Bytes) (t : TokenEntry), (s.ob.tokens.find? fun t => t.domain == d && t.token == tok) = some t ∧
      ((s.obj? t.key).any fun o => o.state == ObjState.opened || o.state == ObjState.accepted) = false ∧ s.owns (.domain d) = true ∧
      t.atNs + s.horizon d ≤ s.ck.now ∧ s.tokenDropComing d tok = false) ∧
    (∃ (s : State) (k : Nat) (o : Obj), s.obj? k = some o ∧ (o.state == ObjState.opened) = true ∧ s.owns (.domain o.domain) = true ∧
      o.lastPart + s.horizon o.domain ≤ s.ck.now ∧ s.openDropComing o = false) ∧
    (∃ (s : State) (k : Nat) (o : Obj), s.obj? k = some o ∧ (o.state == ObjState.released) = true ∧ s.owns (.domain o.domain) = true ∧
      s.getting k = false ∧ o.releasedAt + s.horizon o.domain ≤ s.ck.now ∧ s.unrefComing o = false) ∧
    (∃ (s : State) (u : State) (d : Nat) (p : Place) (e : LedgerEntry), (s.vo.ledger.find? fun e => e.domain == d && e.old == p) = some e ∧
      s.owns (.domain d) = true ∧ e.created + s.ledgerLife ≤ s.ck.tick ∧ s.ledgerDropComing d p = false ∧
      u = s.mapChange d [.ledgerDrop d p] []) ∧
    (∃ (s : State) (t : State) (u : State) (v : State) (d : Nat) (c : Nat) (m : Bytes), s.ob.walks.contains (d, c) = true ∧
      s.owns (.domain d) = true ∧ s.chunkBytes c = (t, .bytes m) ∧ u = t.refChange d ((manifestEntries m).map fun e => ⟨e.1, -1⟩) ∧
      v = (u.ob' fun b => { b with walks := b.walks.filter (· != (d, c)) ++ dedupBy (((manifestEntries m).filter fun e => e.2.1 && ((u.chunk? e.1).map (·.refs)) == some ((manifestEntries m).filter (·.1 == e.1)).length).map fun e => (d, e.1)) })) ∧
    (∃ (s : State) (t : State) (v : State) (d : Nat) (c : Nat), s.ob.walks.contains (d, c) = true ∧ s.owns (.domain d) = true ∧
      s.chunkBytes c = (t, .lost) ∧ v = (t.ob' fun b => { b with walks := b.walks.filter (· != (d, c)) })) :=
  ⟨⟨hub.ob' fun o => { o with tokens := [{ (default : TokenEntry) with domain := 1, token := [1], key := 7 }] }, 1, [1], _,
    some_of (by decide +kernel),
    by decide +kernel⟩,
  ⟨hub.ob' fun o => { o with objs := [{ (default : Obj) with domain := 1, key := 1, state := .opened, parts := [default] }] }, 1, _,
    some_of (by decide +kernel),
    by decide +kernel⟩,
  ⟨hub.ob' fun o => { o with objs := [{ (default : Obj) with domain := 1, key := 1, state := .released, parts := [default] }] }, 1, _,
    some_of (by decide +kernel),
    by decide +kernel⟩,
  ⟨(((hub.rd' fun r => { r with chunks := [{ (default : Chunk) with id := 5, domain := 1, state := .stored, manifest := true, place := ⟨4, 0⟩, refs := 1 }] }).ob' (fun o => { o with objs := [{ (default : Obj) with domain := 1, top := 5, state := .released, key := 1, len := 8192 }] })).vo' fun v => { v with ledger := [⟨⟨4, 0⟩, 5, 1, 0⟩] }).ck' fun c => { c with tick := 10 ^ 14 }, _, 1, ⟨4, 0⟩, _,
    some_of (by decide +kernel),
    pre3 (by decide +kernel) (rfl)⟩,
  ⟨(hub.ob' fun o => { o with walks := [(1, 5)] }).rd' fun r => { r with store := [⟨5, 1, [9], zeros 64, zeros 8⟩] }, _, _, _, 1, 5, zeros 64,
    by decide +kernel,
    by decide +kernel,
    pair_of2 (by decide +kernel),
    rfl,
    rfl⟩,
  ⟨(hub.ob' fun o => { o with walks := [(1, 5)] }).rd' fun r => { r with chunks := [{ (default : Chunk) with id := 5, domain := 1, state := .dataLost }] }, _, _, 1, 5,
    by decide +kernel,
    by decide +kernel,
    pair_of2 (by decide +kernel),
    rfl⟩⟩

/-- What `StripesComplete` assumes can hold, clause by clause; the further ones follow. -/
theorem witness_StripesComplete :
    (∃ (s : State) (u : State) (h : Nat) (l : Nat) (o : Nat), s.landsIn h l = true ∧
      s.openStripeBut h l (if (s.lanePlaces l).2 then .tall else .brood) .landing ((s.rd.landing.find? (·.2.2 == l)).bind fun x => (s.landsBut x.2.1.chunk h).2) = (u, some o)) ∧
    (∃ (s : State) (h : Nat) (l : Nat), s.hivePowered h = true) ∧
    (∃ (s : State) (o : Nat) (f : Nat) (t : OpenStripe) (ms : List Member), s.open? o = some t ∧ t.firstAt = some f ∧ t.closed = false ∧
      f + s.setting 0x04000001 * 1000 / milli * milli ≤ s.ck.now ∧
      ms = ((t.members.zip (stripeUnits t.region t.members.length t.data)).map fun p => { p.1 with crc := crc32c p.2 })) ∧
    (∃ (s : State) (o : Nat) (t : OpenStripe), s.open? o = some t ∧ t.closed = true ∧ t.commitOrd = none ∧
      (t.prog.any (· != .passed)) = false) ∧
    (∃ (s : State) (u : State) (v : State) (o : Nat) (m : Nat) (t : OpenStripe) (e : Member) (x : Member), s.open? o = some t ∧
      t.members[m]? = some e ∧ t.prog[m]? = some .failedOnce ∧ u = (s.grownFault e.link e.die e.block).countProgFail e.link o m ∧
      ((u.hive? t.hive).bind (·.block)).any (·.power == 4) = false ∧ u.freshUnit e t.region t.purpose = (v, some x)) ∧
    (∃ (s : State) (u : State) (o : Nat) (m : Nat) (t : OpenStripe) (e : Member), s.open? o = some t ∧ t.members[m]? = some e ∧
      t.prog[m]? = some .failedTwice ∧ u = (s.grownFault e.link e.die e.block).countProgFail e.link o m) ∧
    (∃ (s : State) (u : State) (v : State) (o : Nat) (m : Nat) (t : Stripe), s.stripe? o = some t ∧ s.readable t.hive = true ∧
      s.silent t m = true ∧ s.readSince t.hive s.memberWait = true ∧
      u = (if s.large then s.memberTimeout ((t.members[m]?.map (·.link)).getD 0) o m else s) ∧
      v = (u.sp' fun p => { p with givenUp := p.givenUp.filter (· != (o, m)) ++ [(o, m)] })) ∧
    (∃ (s : State) (u : State) (v : State) (n : Nat) (l : Link), s.link? n = some l ∧
      (l.comb == .failed || l.comb == .retired || l.comb == .absent) = false ∧
      u = (((s.commit 0xFFFF (.combState n .failed l.serial) []).ev0 0x410 .error (le 1 n)).link' n fun l => { l with comb := .failed }) ∧
      v = (if (u.workingLinks l.hive).length < 6 then u.ev0 0x416 .error (le 1 l.hive) else u)) :=
  ⟨⟨serving, _, 0, 0, _,
    by decide +kernel,
    pair_some (by decide +kernel)⟩,
  ⟨hub, 0, 0,
    by decide +kernel⟩,
  ⟨hub.sp' fun p => { p with opens := [{ (default : OpenStripe) with ord := 4, firstAt := some 0 }] }, 4, _, _, _,
    some_of (by decide +kernel),
    some_of (by decide +kernel),
    by decide +kernel,
    by decide +kernel,
    rfl⟩,
  ⟨hub.sp' fun p => { p with opens := [{ (default : OpenStripe) with ord := 4, closed := true }] }, 4, _,
    some_of (by decide +kernel),
    by decide +kernel⟩,
  ⟨failing, _, _, 4, 0, _, _, _,
    some_of (by decide +kernel),
    some_of (by decide +kernel),
    by decide +kernel,
    rfl,
    by decide +kernel,
    pair_some (by decide +kernel)⟩,
  ⟨hub.sp' fun p => { p with opens := [{ (default : OpenStripe) with ord := 4, members := [⟨0, 0, 0, 0, 0, 0⟩], prog := [.failedTwice] }] }, _, 4, 0, _, _,
    some_of (by decide +kernel),
    some_of (by decide +kernel),
    by decide +kernel,
    rfl⟩,
  ⟨(((serving.sp' fun p => { p with table := [{ (default : Stripe) with ord := 4, hive := 0, members := [⟨0, 0, 0, 0, 0, 0⟩] }] }).link' 0 fun l => { l with state := .down }).hive' 0 fun h => { h with gather := [⟨3, 1, 9, none, 4096, none, false⟩] }).nv' fun v => { v with cmds := [hcmd (.read 1 0 1)] }, _, _, 4, 0, _,
    some_of (by decide +kernel),
    pre3 (by decide +kernel) ⟨rfl,
    rfl⟩⟩,
  ⟨hub, _, _, 0, _,
    some_of (by decide +kernel),
    by decide +kernel,
    rfl,
    rfl⟩⟩

/-- The same of `StripesComplete`, further clauses. -/
theorem witness_StripesComplete_b :
    (∃ (s : State) (u : State) (h : Nat) (r : Rebuild), u = s.heed h ∧ u.mayFinish h = true ∧ u.sp.rebuilds.find? (·.hive == h) = some r) ∧
    (∃ (s : State) (v : State) (w : State) (x : State) (y : State) (r : Rebuild) (z : Rebuild) (t : Stripe) (l : List (List (Nat × Bytes) × Bool)) (ms : List Member) (at_ : List Member) (load : LinkLoad), t.purpose ≠ .metadata ∧
      (s.toRebuild t).mapM (s.rebuiltUnits t (s.unreadable t)) = some l ∧
      v = s.heedPages t (wholePages t.region ((List.range t.members.length).filter (!(s.unreadable t).contains ·))) ∧
      v.replaceUnits t (onceEach (l.flatMap (·.1))) t.members [] = (w, some ms, at_) ∧
      load = (if s.ck.now ≥ r.shareFrom + 100 * milli then [] else r.shareUsed) ++ (readLoad t (s.unreadable t) (l.any (·.2)) ++ progLoad t.region at_) ∧
      (s.inMode .mend = true ∨ s.shareHolds load (s.setting 0x04000002) = true) ∧
      x = (w.commitMembers t ms).stat 0x0405 0 0 (onceEach (l.flatMap (·.1))).length ∧
      y = (x.rebuild' r.hive fun r' => { r' with next := t.ord + 1, sinceCkpt := r'.sinceCkpt + 1, rebuilt := r'.rebuilt + 1, shareUsed := load, shareFrom := if s.ck.now ≥ r.shareFrom + 100 * milli then x.ck.now else r'.shareFrom }) ∧
      y.sp.rebuilds.find? (·.hive == r.hive) = some z ∧ z.sinceCkpt < 256) ∧
    (∃ (s : State) (u : State) (v : State) (h : Nat) (k : Nat) (w : Waiter), u = s.heed h ∧ u.mayFinish h = true ∧
      u.sp.rebuilds.find? (·.hive == h) = none ∧ (u.sp.retiring.find? fun e => (u.link? e.1).any (·.hive == h)) = some (k, some w) ∧
      (u.sp.table.filter fun t => t.hive == h && !t.released && t.members.any (·.link == k)) = [] ∧
      (u.sp.opens.any fun t => t.members.any (·.link == k)) = false ∧
      v = u.commit 0xFFFF (.combState k .retired (((u.link? k).map (·.serial)).getD 0)) [.reply w .success []]) ∧
    (∃ (s : State) (n : Nat) (l : Link), s.link? n = some l ∧ (l.comb == .failed && l.state == .up) = true ∧
      (s.bridge? n).any (·.failed) = false ∧ s.replacing n = false) ∧
    (∃ (s : State) (u : State) (h : Nat) (r : Reshape), u = s.heed h ∧ u.sp.reshapes.find? (·.hive == h) = some r ∧ u.reshapeRuns = true ∧
      (u.isBrood h || u.owns (.honey h)) = true ∧ u.reshapePauses h = true ∧ r.paused = false) ∧
    (∃ (s : State) (u : State) (v : State) (w : State) (h : Nat) (r : Reshape) (t : Stripe) (os : List Nat), u = s.heed h ∧
      u.sp.reshapes.find? (·.hive == h) = some r ∧ u.reshapeRuns = true ∧ (u.isBrood h || u.owns (.honey h)) = true ∧
      u.reshapePauses h = false ∧ u.mayMove h = true ∧ r.pendingOld.length < 256 ∧ u.reshapeNext r = some t ∧ t.purpose ≠ .metadata ∧
      t.region ≠ .honey ∧
      (u.loseUnsound t).copySlc r.hive .reshape ((u.loseUnsound t).liveEnvs t).length ((u.loseUnsound t).liveEnvs t) = (v, os) ∧
      w = (if os = [] then v else v.placeStripes os)) ∧
    (∃ (s : State) (u : State) (r : Reshape) (load : LinkLoad) (all : LinkLoad), all = (if s.ck.now ≥ r.shareFrom + 100 * milli then [] else r.shareUsed) ++ load ∧
      s.shareHolds all (s.setting 0x04000004) = true) ∧
    (∃ (s : State) (u : State) (h : Nat) (r : Reshape), u = s.heed h ∧ u.sp.reshapes.find? (·.hive == h) = some r ∧ u.reshapeRuns = true ∧
      (u.isBrood h || u.owns (.honey h)) = true ∧ u.reshapePauses h = false ∧ u.mayMove h = true ∧ r.pendingOld = [] ∧
      u.reshapeNext r = none ∧ u.oldOpen r = none ∧ (r.oldN ≠ 0 ∨ r.bound ≤ r.last)) :=
  ⟨⟨serving.sp' fun p => { p with rebuilds := [{ (default : Rebuild) with hive := 0 }] }, _, 0, _,
    rfl,
    by decide +kernel,
    some_of (by decide +kernel)⟩,
  ⟨serving.sp' fun p => { p with rebuilds := [{ (default : Rebuild) with hive := 0 }] }, _, _, _, _, { (default : Rebuild) with hive := 0 }, _, default, [], [], [], [],
    by decide +kernel,
    rfl,
    rfl,
    pair_of2 (by decide +kernel),
    by decide +kernel,
    Or.inr (by decide +kernel),
    rfl,
    rfl,
    some_of (by decide +kernel),
    by decide +kernel⟩,
  ⟨serving.sp' fun p => { p with retiring := [(0, some ⟨.sb, 7, 1, 0x0405, 0⟩)] }, _, _, 0, 0, ⟨.sb, 7, 1, 0x0405, 0⟩,
    rfl,
    pre5 (by decide +kernel) (rfl)⟩,
  ⟨(hub).link' 0 fun l => { l with comb := .failed }, 0, _,
    some_of (by decide +kernel),
    by decide +kernel⟩,
  ⟨serving.sp' fun p => { p with table := [{ (default : Stripe) with ord := 4, hive := 0, members := [⟨0, 0, 0, 0, 0, 0⟩] }], reshapes := [{ (default : Reshape) with hive := 0, last := 10 }], rebuilds := [{ (default : Rebuild) with hive := 0 }] }, _, 0, _,
    rfl,
    some_of (by decide +kernel),
    by decide +kernel⟩,
  ⟨serving.sp' fun p => { p with table := [{ (default : Stripe) with ord := 4, hive := 0, members := [⟨0, 0, 0, 0, 0, 0⟩] }], reshapes := [{ (default : Reshape) with hive := 0, last := 10 }] }, _, _, _, 0, _, _, _,
    rfl,
    some_of (by decide +kernel),
    pre5 (by decide +kernel) ⟨some_of (by decide +kernel),
    by decide +kernel,
    by decide +kernel,
    pair_of _,
    rfl⟩⟩,
  ⟨hub, default, default, [], _,
    rfl,
    by decide +kernel⟩,
  ⟨serving.sp' fun p => { p with reshapes := [{ (default : Reshape) with hive := 0, last := 10 }] }, _, 0, _,
    rfl,
    some_of (by decide +kernel),
    pre7 (by decide +kernel) (Or.inr (by decide +kernel))⟩⟩

/-- What `MediaComplete` assumes can hold, clause by clause; the further ones follow. -/
theorem witness_MediaComplete :
    (∃ (s : State) (u : State) (v : State) (w : State) (h : Nat) (x : Nat × Nat × Nat) (r : FoldRow), u = (s.hv.hives.filter (·.brood)).foldl (fun (t : State) x => t.heed x.id) (s.heed h) ∧
      (if u.isBrood h then u.noHoney else u.owns (.honey h)) = true ∧ u.mayFinish h = true ∧ (u.hive? h).any (·.darkDecided) = false ∧
      u.gcFirst h = false ∧ u.mayMove h = true ∧ v = u.checkFold ∧ v.foldable ≠ [] ∧
      w = (if (v.openRow h false).isSome then v else v.newRow h .fold) ∧ w.openRow h false = some r ∧ r.sets.head? = some x) ∧
    (∃ (s : State) (u : State) (v : State) (h : Nat), u = (s.hv.hives.filter (·.brood)).foldl (fun (t : State) x => t.heed x.id) (s.heed h) ∧
      (if u.isBrood h then u.noHoney else u.owns (.honey h)) = true ∧ u.mayFinish h = true ∧ (u.hive? h).any (·.darkDecided) = false ∧
      u.gcFirst h = false ∧ u.mayMove h = true ∧ v = u.checkFold ∧ v.foldable = []) ∧
    (∃ (s : State) (u : State) (h : Nat), u = (s.hv.hives.filter (·.brood)).foldl (fun (t : State) x => t.heed x.id) (s.heed h) ∧
      (if u.isBrood h then u.noHoney else u.owns (.honey h)) = true ∧ u.mayFinish h = true ∧ (u.hive? h).any (·.darkDecided) = true) ∧
    (∃ (s : State) (u : State) (h : Nat) (r : FoldRow), s.sealedRow h = some r ∧ u = s.heed h ∧ u.mayFinish h = true ∧ u.failedSets r = [] ∧
      (∀ x ∈ r.sets, u.setFull x = true) ∧ r.stripes ≠ []) ∧
    (∃ (s : State) (u : State) (h : Nat) (r : FoldRow), s.sealedRow h = some r ∧ u = s.heed h ∧ u.mayFinish h = true) ∧
    (∃ (s : State) (u : State) (h : Nat) (r : FoldRow), u = s.heed h ∧ u.sealedRow h = some r ∧ u.mayFinish h = true) ∧
    (∃ (s : State) (u : State) (v : State) (r : FoldRow) (x : Nat × Nat × Nat), (r.stripes.all fun o => s.touches [x] o) = true ∧
      x ∈ r.sets ∧ r.stripes ≠ [] ∧
      u = r.sets.foldl (fun t y => t.set' y.1 y.2.1 y.2.2 fun b => { b with passed := !([x].contains y) }) (s.me' fun m => { m with rows := m.rows.filter (· != r) }) ∧
      v = (((u.grownFault x.1 x.2.1 x.2.2).ev0 0x503 .notice (le 1 x.1 ++ le 1 x.2.1 ++ le 2 x.2.2)).bump 0x050A x.1 0 1)) ∧
    (∃ (s : State) (u : State) (v : State) (o : Nat) (t : Stripe), s.stripe? o = some t ∧ u = ((s.heed t.hive).judgeGc t.hive) ∧
      u.mayMove t.hive = true ∧ (u.gcPick t.hive).any (·.ord == o) = true ∧ u.foldFirst t.hive = false ∧ v = u.walkStripe t 4 ∧
      v.walkWaits t = false ∧ t.live = 0) :=
  ⟨⟨{ flashed with ks := { flashed.ks with recs := [] }, me := { flashed.me with rows := [{ (default : FoldRow) with hive := 1, sets := [(16, 0, 0)] }], sets := [{ (default : BlockSet) with link := 16, state := .opened, use := .fold, qlc := true }] } }, _, _, _, 1, (16, 0, 0), _,
    rfl,
    pre5 (by decide +kernel) ⟨rfl,
    by decide +kernel,
    rfl,
    some_of (by decide +kernel),
    by decide +kernel⟩⟩,
  ⟨serving, _, _, 1,
    rfl,
    pre5 (by decide +kernel) ⟨rfl,
    by decide +kernel⟩⟩,
  ⟨serving.hive' 1 fun h => { h with darkDecided := true }, _, 1,
    rfl,
    by decide +kernel⟩,
  ⟨serving.me' fun m => { m with rows := [{ (default : FoldRow) with hive := 1, sealed := true, stripes := [99] }] }, _, 1, _,
    some_of (by decide +kernel),
    rfl,
    by decide +kernel⟩,
  ⟨serving.me' fun m => { m with rows := [{ (default : FoldRow) with hive := 1, sealed := true }] }, _, 1, _,
    some_of (by decide +kernel),
    rfl,
    by decide +kernel⟩,
  ⟨serving.me' fun m => { m with rows := [{ (default : FoldRow) with hive := 1, sealed := true }] }, _, 1, _,
    rfl,
    some_of (by decide +kernel),
    by decide +kernel⟩,
  ⟨hub.sp' fun p => { p with table := [{ (default : Stripe) with ord := 4, hive := 0, members := [⟨0, 0, 0, 0, 0, 0⟩] }] }, _, _, { (default : FoldRow) with sets := [(0, 0, 0)], stripes := [4] }, (0, 0, 0),
    pre3 (by decide +kernel) ⟨rfl,
    rfl⟩⟩,
  ⟨serving.sp' fun p => { p with table := [{ (default : Stripe) with ord := 4, hive := 0, members := [⟨0, 0, 0, 0, 0, 0⟩], rewrite := true, placed := true }] }, _, _, 4, _,
    some_of (by decide +kernel),
    rfl,
    pre3 (by decide +kernel) ⟨rfl,
    by decide +kernel⟩⟩⟩

/-- The same of `MediaComplete`, further clauses. -/
theorem witness_MediaComplete_b :
    (∃ (s : State) (u : State) (v : State) (o : Nat) (t : Stripe), s.stripe? o = some t ∧ u = ((s.heed t.hive).judgeGc t.hive) ∧
      u.mayMove t.hive = true ∧ (u.gcPick t.hive).any (·.ord == o) = true ∧ u.foldFirst t.hive = false ∧ v = u.walkStripe t 4 ∧
      v.walkWaits t = false ∧ t.live ≠ 0 ∧ t.purpose = .metadata) ∧
    (∃ (s : State) (u : State) (v : State) (w : State) (x : State) (o : Nat) (t : Stripe), s.stripe? o = some t ∧
      u = ((s.heed t.hive).judgeGc t.hive) ∧ u.mayMove t.hive = true ∧ (u.gcPick t.hive).any (·.ord == o) = true ∧
      u.foldFirst t.hive = false ∧ v = u.walkStripe t 4 ∧ v.walkWaits t = false ∧ t.live ≠ 0 ∧ t.purpose ≠ .metadata ∧
      w = v.loseUnsound t ∧ w.spentStripe t = false ∧ x = (w.stripe' t.ord fun y => { y with moving := true })) ∧
    (∃ (s : State) (u : State) (v : State) (n : Nat) (d : Nat) (k : Nat) (l : Link) (b : BlockSet), u = s.heed (n / 16) ∧
      u.link? n = some l ∧ u.mayMove l.hive = true ∧ (l.comb == .working || l.comb == .replacement) = true ∧
      ([false, true].findSome? fun qlc => if (u.wearPick n qlc).1 > u.wearLimit n then (u.wearPick n qlc).2 else none) = some b ∧
      v = (if u.me.wearActive.contains n then u else (u.me' fun m => { m with wearActive := m.wearActive ++ [n] }).ev0 0x510 .info (le 1 n ++ [1])) ∧
      v.wornFree l b.qlc = some (d, k)) ∧
    (∃ (s : State) (u : State) (n : Nat) (l : Link), u = s.heed (n / 16) ∧ u.link? n = some l ∧ u.mayMove l.hive = true ∧
      (l.comb == .working || l.comb == .replacement) = true ∧
      ([false, true].findSome? fun qlc => if (u.wearPick n qlc).1 > u.wearLimit n then (u.wearPick n qlc).2 else none) = none ∧
      u.me.wearActive.contains n = true) ∧
    (∃ (s : State) (t : State) (u : State) (l : Nat) (d : Nat) (k : Nat) (pe : Nat) (b : BlockSet), s.set? l d k = some b ∧ b.erased = true ∧
      b.state = .freeDirty ∧ s.anchorSet b = false ∧ pe = min 0xFFFFFF (b.pe + 1) ∧
      pe < (if b.qlc then ((((s.link? b.link).map (·.descs)).getD []).getD b.die resetDesc).peQlc else ((((s.link? b.link).map (·.descs)).getD []).getD b.die resetDesc).peSlc) ∧
      (b.suspect && b.grown ≥ 2) = false ∧
      t = (s.set' b.link b.die b.block fun x => { x with erasing := false, erased := false, pe := pe }).stat 0x0504 b.link 0 1 ∧
      t.anchorSet b = false ∧
      u = (t.set' b.link b.die b.block fun x => { x with suspect := false, state := .free, use := .none, nextUnit := 0, passed := false, qlc := t.eraseMode b, toQlc := false }) ∧
      u.anchorSet b = false) ∧
    (∃ (s : State) (l : Nat) (d : Nat) (k : Nat) (b : BlockSet), s.set? l d k = some b ∧ b.erased = true ∧ (b.state == .freeDirty) = true) :=
  ⟨⟨serving.sp' fun p => { p with table := [{ (default : Stripe) with ord := 4, hive := 0, members := [⟨0, 0, 0, 0, 0, 0⟩], rewrite := true, placed := true, live := 1, purpose := .metadata }] }, _, _, 4, _,
    some_of (by decide +kernel),
    rfl,
    pre3 (by decide +kernel) ⟨rfl,
    by decide +kernel⟩⟩,
  ⟨{ flashed with ks := { flashed.ks with recs := [] }, sp := { flashed.sp with table := [{ str4 with rewrite := true }] } }, _, _, _, _, 4, _,
    some_of (by decide +kernel),
    rfl,
    pre3 (by decide +kernel) ⟨rfl,
    pre3 (by decide +kernel) ⟨rfl,
    by decide +kernel,
    rfl⟩⟩⟩,
  ⟨serving.me' fun m => { m with sets := [{ (default : BlockSet) with block := 7, state := .sealed }, { (default : BlockSet) with block := 6, pe := 5000 }] }, _, _, 0, _, _, _, _,
    rfl,
    some_of (by decide +kernel),
    by decide +kernel,
    by decide +kernel,
    some_of (by decide +kernel),
    rfl,
    some2_of (by decide +kernel)⟩,
  ⟨serving.me' fun m => { m with wearActive := [0] }, _, 0, _,
    rfl,
    some_of (by decide +kernel),
    by decide +kernel⟩,
  ⟨hub.me' fun m => { m with sets := [{ (default : BlockSet) with block := 5, state := .freeDirty, erased := true }] }, _, _, 0, 0, 5, _, _,
    some_of (by decide +kernel),
    pre3 (by decide +kernel) ⟨rfl,
    by decide +kernel,
    by decide +kernel,
    rfl,
    by decide +kernel,
    rfl,
    by decide +kernel⟩⟩,
  ⟨hub.me' fun m => { m with sets := [{ (default : BlockSet) with state := .freeDirty, erased := true }] }, 0, 0, 0, _,
    some_of (by decide +kernel),
    by decide +kernel⟩⟩

/-- What `BridgeComplete` assumes can hold: clause 1, 2, 3, 4, 5, 6, 7, 8, 9, 10, 11, 12, 14. -/
theorem witness_BridgeComplete :
    (∃ (s : State) (u : State) (n : Nat) (p : Side) (f : LFrame) (b : Bridge) (c : Bridge) (i : Instr) (op : TaskOp), AtBridge s n p f b ∧
      f.type = 1 ∧ f.op = op.num ∧
      (i, op) ∈ [(Instr.taskRead n p f, TaskOp.read), (.taskSeqRead n p f, .seqRead), (.taskProgramSlc n p f, .programSlc), (.taskProgramQlc n p f, .programQlc), (.taskErase n p f, .erase)] ∧
      u = (s.bridgeTook n p).cutProgram n p (f.task op) ∧ u.bridge? n = some c ∧ u.judgeTask c p (f.task op) true = none) ∧
    (∃ (s : State) (u : State) (n : Nat) (p : Side) (f : LFrame) (b : Bridge) (c : Bridge), AtBridge s n p f b ∧ f.type = 1 ∧ f.op = 6 ∧
      u = (s.bridgeTook n p).cutProgram n p (f.task .eraseSuspend) ∧ u.bridge? n = some c ∧
      u.judgeTask c p (f.task .eraseSuspend) true = none) ∧
    (∃ (s : State) (u : State) (n : Nat) (p : Side) (f : LFrame) (b : Bridge) (c : Bridge) (d : Die) (r : SuspErase), AtBridge s n p f b ∧
      f.type = 1 ∧ f.op = 7 ∧ u = (s.bridgeTook n p).cutProgram n p (f.task .eraseResume) ∧ u.bridge? n = some c ∧
      u.judgeTask c p (f.task .eraseResume) true = none ∧ c.die? f.die = some d ∧ d.susp = some r) ∧
    (∃ (s : State) (u : State) (n : Nat) (p : Side) (f : LFrame) (b : Bridge) (c : Bridge), AtBridge s n p f b ∧ f.type = 1 ∧
      taskOpOf f.op = none ∧ u = (s.bridgeTook n p).cutProgram n p (f.task .read) ∧ u.bridge? n = some c ∧ f.epoch.toNat = c.epoch ∧
      c.failed = false ∧ (c.die? f.die).any (·.desc.failed) = false) ∧
    (∃ (s : State) (u : State) (n : Nat) (p : Side) (f : LFrame) (b : Bridge) (c : Bridge) (w : StatusWord) (i : Instr) (op : TaskOp), AtBridge s n p f b ∧
      f.type = 1 ∧ f.op = op.num ∧
      (i, op) ∈ [(Instr.taskRead n p f, TaskOp.read), (.taskSeqRead n p f, .seqRead), (.taskProgramSlc n p f, .programSlc), (.taskProgramQlc n p f, .programQlc), (.taskErase n p f, .erase), (.eraseSuspend n p f, .eraseSuspend), (.eraseResume n p f, .eraseResume)] ∧
      u = (s.bridgeTook n p).cutProgram n p (f.task op) ∧ u.bridge? n = some c ∧ u.judgeTask c p (f.task op) true = some w) ∧
    (∃ (s : State) (n : Nat) (p : Side) (f : LFrame) (b : Bridge), AtBridge s n p f b ∧ f.type = 1 ∧ f.op = 0x80 ∧ b.epoch = f.arg.toNat ∧
      b.epoch < 0xFFFFFFFF ∧ b.failed = false ∧ b.storeFault = false) ∧
    (∃ (s : State) (n : Nat) (p : Side) (f : LFrame) (b : Bridge), AtBridge s n p f b ∧ f.type = 1 ∧ f.op = 0x81 ∧ b.epoch = 0 ∧
      b.owner = 0xFFFF ∧ b.failed = false ∧ b.storeFault = false) ∧
    (∃ (s : State) (n : Nat) (p : Side) (f : LFrame) (b : Bridge), AtBridge s n p f b ∧ f.type = 1 ∧ f.op = 0x80 ∧ b.epoch ≠ f.arg.toNat) :=
  ⟨⟨hub, _, 0, .a, frame 1 fun f => { f with op := 1, arg := 1 }, _, _, .taskRead 0 .a (frame 1 fun f => { f with op := 1, arg := 1 }), .read,
    ⟨some_of (by decide +kernel), by decide +kernel⟩,
    by decide +kernel,
    by decide +kernel,
    by simp,
    rfl,
    some_of (by decide +kernel),
    by decide +kernel⟩,
  ⟨hub.bridge' 0 fun b => { b with dies := [{ resetDie 0 with exec := some { (default : DieExec) with hdr := hdr .erase } }] }, _, 0, .a, frame 1 fun f => { f with op := 6, arg := 1 }, _, _,
    ⟨some_of (by decide +kernel), by decide +kernel⟩,
    by decide +kernel,
    by decide +kernel,
    rfl,
    some_of (by decide +kernel),
    by decide +kernel⟩,
  ⟨hub.bridge' 0 fun b => { b with dies := [{ resetDie 0 with susp := some { (default : SuspErase) with hdr := hdr .erase } }] }, _, 0, .a, frame 1 fun f => { f with op := 7 }, _, _, _, _,
    ⟨some_of (by decide +kernel), by decide +kernel⟩,
    by decide +kernel,
    by decide +kernel,
    rfl,
    some_of (by decide +kernel),
    by decide +kernel,
    some_of (by decide +kernel),
    some_of (by decide +kernel)⟩,
  ⟨hub, _, 0, .a, frame 1 fun f => { f with op := 0x33 }, _, _,
    ⟨some_of (by decide +kernel), by decide +kernel⟩,
    by decide +kernel,
    by decide +kernel,
    rfl,
    some_of (by decide +kernel),
    by decide +kernel⟩,
  ⟨hub, _, 0, .a, frame 1 fun f => { f with op := 1, arg := 1, epoch := 2 }, _, _, _, .taskRead 0 .a (frame 1 fun f => { f with op := 1, arg := 1, epoch := 2 }), .read,
    ⟨some_of (by decide +kernel), by decide +kernel⟩,
    by decide +kernel,
    by decide +kernel,
    by simp,
    rfl,
    some_of (by decide +kernel),
    some_of (by decide +kernel)⟩,
  ⟨hub, 0, .a, frame 1 fun f => { f with op := 0x80 }, _,
    ⟨some_of (by decide +kernel), by decide +kernel⟩,
    by decide +kernel⟩,
  ⟨hub, 0, .b, frame 1 fun f => { f with op := 0x81, arg := 3 }, _,
    ⟨some_of (by decide +kernel), by decide +kernel⟩,
    by decide +kernel⟩,
  ⟨hub, 0, .a, frame 1 fun f => { f with op := 0x80, arg := 1 }, _,
    ⟨some_of (by decide +kernel), by decide +kernel⟩,
    by decide +kernel⟩⟩

/-- The same of `BridgeComplete`, further clauses. -/
theorem witness_BridgeComplete_b :
    (∃ (s : State) (n : Nat) (d : Nat) (good : Bool) (b : Bridge) (x : Die) (e : DieExec), s.bridge? n = some b ∧ b.powered = true ∧
      b.die? d = some x ∧ x.exec = some e ∧ e.hdr.op = .read) ∧
    (∃ (s : State) (n : Nat) (d : Nat) (good : Bool) (b : Bridge) (x : Die) (e : DieExec), s.bridge? n = some b ∧ b.powered = true ∧
      b.die? d = some x ∧ x.exec = some e ∧ e.hdr.op = .programSlc ∧ e.hdr.pages.length ≤ e.data.length) ∧
    (∃ (s : State) (n : Nat) (d : Nat) (good : Bool) (b : Bridge) (x : Die) (e : DieExec), s.bridge? n = some b ∧ b.powered = true ∧
      b.die? d = some x ∧ x.exec = some e ∧ e.hdr.op = .erase) ∧
    (∃ (s : State) (n : Nat) (d : Nat) (b : Bridge) (x : Die) (w : SuspErase), s.bridge? n = some b ∧ b.powered = true ∧ b.die? d = some x ∧
      x.susp = some w ∧ x.exec = none ∧ x.idleSince + 10 * milli ≤ s.ck.now) ∧
    (∃ (s : State) (u : State) (n : Nat) (count : Nat) (p : Side) (f : LFrame) (g : LFrame) (b : Bridge) (c : Bridge), f.type = 5 ∧
      g = { f with arg := BitVec.ofNat 32 count } ∧ AtBridge s n p g b ∧ 1 ≤ count ∧ count ≤ 1024 ∧ u = s.bridgeTook n p ∧
      u.bridge? n = some c) :=
  ⟨⟨hub.bridge' 0 fun b => { b with dies := [{ resetDie 0 with exec := some { (default : DieExec) with hdr := hdr .read } }] }, 0, 0, true, _, _, _,
    some_of (by decide +kernel),
    by decide +kernel,
    some_of (by decide +kernel),
    some_of (by decide +kernel),
    by decide +kernel⟩,
  ⟨hub.bridge' 0 fun b => { b with dies := [{ resetDie 0 with exec := some { (default : DieExec) with hdr := hdr .programSlc } }] }, 0, 0, true, _, _, _,
    some_of (by decide +kernel),
    by decide +kernel,
    some_of (by decide +kernel),
    some_of (by decide +kernel),
    by decide +kernel⟩,
  ⟨hub.bridge' 0 fun b => { b with dies := [{ resetDie 0 with exec := some { (default : DieExec) with hdr := hdr .erase } }] }, 0, 0, true, _, _, _,
    some_of (by decide +kernel),
    by decide +kernel,
    some_of (by decide +kernel),
    some_of (by decide +kernel),
    by decide +kernel⟩,
  ⟨hub.bridge' 0 fun b => { b with dies := [{ resetDie 0 with susp := some { (default : SuspErase) with hdr := hdr .erase } }] }, 0, 0, _, _, _,
    some_of (by decide +kernel),
    by decide +kernel,
    some_of (by decide +kernel),
    some_of (by decide +kernel),
    by decide +kernel⟩,
  ⟨hub, _, 0, 1024, .a, ({ (default : LFrame) with type := 5, arg := 1024 } : LFrame).sealed, _, _, _,
    by decide +kernel,
    rfl,
    ⟨some_of (by decide +kernel), by decide +kernel⟩,
    by decide +kernel,
    by decide +kernel,
    rfl,
    some_of (by decide +kernel)⟩⟩

/-- What `LinkEndComplete` assumes can hold: clause 1, 3, 4, 5, 6, 7, 8, 9, 10, 11, 12, 13, 14, 16, 17, 18, 19, 20, 21, 22, 23, 24. -/
theorem witness_LinkEndComplete :
    (∃ (s : State) (u : State) (n : Nat) (f : LFrame) (g : LFrame) (vals : List (BitVec 32)) (l : Link), f.type = 6 ∧
      g = { f with body := vals.flatMap fun w => le 4 w.toNat } ∧ AtHead s n g l u ∧ (regIn f.off vals 0x28).any (·.getLsbD 0) = false) ∧
    (∃ (s : State) (u : State) (n : Nat) (p : Side) (f : LFrame) (l : Link), AtHead s n f l u) ∧
    (∃ (s : State) (n : Nat) (p : Side) (f : LFrame) (b : Bridge), AtBridge s n p f b) ∧
    (∃ (s : State) (n : Nat) (p : Side) (f : LFrame) (b : Bridge), s.bridge? n = some b ∧ b.powered = true ∧ f.sound = false) ∧
    (∃ (s : State) (u : State) (n : Nat) (f : LFrame) (l : Link) (act : State → State), AtHead s n f l u) ∧
    (∃ (s : State) (u : State) (n : Nat) (f : LFrame) (l : Link) (k : DieTask), AtHead s n f l u ∧ f.type = 4 ∧
      (((u.link? n).map fun l => l.tasks).getD []).find? (·.hdr.tag == f.tag) = some k) ∧
    (∃ (s : State) (u : State) (n : Nat) (f : LFrame) (l : Link), AtHead s n f l u ∧ f.type = 7 ∧ fld f.body 0 2 = 2) ∧
    (∃ (s : State) (n : Nat) (p : Side) (f : LFrame) (l : Link) (b : Bridge), f.type = 0x10 ∧ f.sound = true ∧ f.ackValid = false) :=
  ⟨⟨hub, _, 0, { (default : LFrame) with type := 6, crc := (frame 6 id).crc, tag := 1 }, _, [], _,
    by decide +kernel,
    rfl,
    ⟨some_of (by decide +kernel), by decide +kernel, by decide +kernel, by decide +kernel, by decide +kernel, rfl⟩,
    by decide +kernel⟩,
  ⟨hub, _, 0, .a, frame 2 fun f => { f with body := [9] }, _,
    ⟨some_of (by decide +kernel), by decide +kernel, by decide +kernel, by decide +kernel, by decide +kernel, rfl⟩⟩,
  ⟨hub, 0, .a, frame 2 fun f => { f with body := [9] }, _,
    ⟨some_of (by decide +kernel), by decide +kernel⟩⟩,
  ⟨hub, 0, .a, default, _,
    some_of (by decide +kernel),
    by decide +kernel⟩,
  ⟨hub, _, 0, frame 2 fun f => { f with body := [9] }, _, id,
    ⟨some_of (by decide +kernel), by decide +kernel, by decide +kernel, by decide +kernel, by decide +kernel, rfl⟩⟩,
  ⟨hub.link' 0 fun l => { l with tasks := [{ (default : DieTask) with hdr := hdr .read, use := .suspend }] }, _, 0, frame 4 id, _, _,
    ⟨some_of (by decide +kernel), by decide +kernel, by decide +kernel, by decide +kernel, by decide +kernel, rfl⟩,
    by decide +kernel,
    some_of (by decide +kernel)⟩,
  ⟨hub, _, 0, frame 7 fun f => { f with body := 2 :: zeros 15 }, _,
    ⟨some_of (by decide +kernel), by decide +kernel, by decide +kernel, by decide +kernel, by decide +kernel, rfl⟩,
    by decide +kernel⟩,
  ⟨hub, 0, .a, frame 0x10 fun f => { f with body := zeros 16 }, default, default,
    by decide +kernel⟩⟩

/-- The same of `LinkEndComplete`, further clauses. -/
theorem witness_LinkEndComplete_b :
    (∃ (s : State) (n : Nat) (f : LFrame) (l : Link), s.link? n = some l ∧ fld f.body 0 1 = 1 ∧ fld f.body 1 1 ≠ sideN s.pr.side) ∧
    (∃ (s : State) (n : Nat) (p : Side) (f : LFrame) (l : Link) (b : Bridge), f.type = 0x11 ∧ f.sound = true ∧ f.ackValid = true) ∧
    (∃ (s : State) (n : Nat) (p : Side) (f : LFrame) (l : Link) (b : Bridge), f.type = 0x12 ∧ f.sound = true ∧ f.ackValid = false) ∧
    (∃ (s : State) (n : Nat) (l : Link), s.link? n = some l ∧ l.state = .up ∧ l.unacked ≠ [] ∧ l.resends < 8) ∧
    (∃ (s : State) (n : Nat) (l : Link), s.link? n = some l ∧ l.state = .up ∧ l.unacked ≠ [] ∧ 8 ≤ l.resends) ∧
    (∃ (s : State) (n : Nat) (x : BitVec 12) (l : Link), s.link? n = some l ∧ l.state = .retraining) ∧
    (∃ (s : State) (n : Nat) (l : Link), s.link? n = some l ∧ l.state = .retraining ∧ l.since + 10 * milli ≤ s.ck.now) ∧
    (∃ (s : State) (n : Nat) (l : Link) (b : Bridge), n < 128 ∧ s.link? n = some l ∧ s.bridge? n = some b ∧ l.state = .down ∧
      b.powered = true ∧ 16 * b.hive + b.slot = n ∧ (s.cl.peerSerials.any fun e => e.2 == b.serial && e.1 != n) = false) :=
  ⟨⟨hub, 0, frame 0x10 fun f => { f with body := [1, 1] }, _,
    some_of (by decide +kernel),
    by decide +kernel⟩,
  ⟨hub, 0, .a, frame 0x11 fun f => { f with ackValid := true }, default, default,
    by decide +kernel⟩,
  ⟨hub, 0, .a, frame 0x12 id, default, default,
    by decide +kernel⟩,
  ⟨hub.link' 0 fun l => { l with unacked := [{ (default : LFrame) with seq := 0 }], resends := 7 }, 0, _,
    some_of (by decide +kernel),
    by decide +kernel⟩,
  ⟨hub.link' 0 fun l => { l with unacked := [{ (default : LFrame) with seq := 0 }], resends := 8 }, 0, _,
    some_of (by decide +kernel),
    by decide +kernel⟩,
  ⟨hub.link' 0 fun l => { l with state := .retraining }, 0, default, _,
    some_of (by decide +kernel),
    by decide +kernel⟩,
  ⟨hub.link' 0 fun l => { l with state := .retraining }, 0, _,
    some_of (by decide +kernel),
    by decide +kernel⟩,
  ⟨hub.link' 0 fun l => { l with state := .down }, 0, _, _,
    by decide +kernel,
    some_of (by decide +kernel),
    some_of (by decide +kernel),
    by decide +kernel⟩⟩

/-- The same of `LinkEndComplete`, further clauses. -/
theorem witness_LinkEndComplete_c :
    (∃ (s : State) (n : Nat) (l : Link) (b : Bridge), n < 128 ∧ s.link? n = some l ∧ s.bridge? n = some b ∧ l.state = .down ∧
      b.powered = true ∧ (16 * b.hive + b.slot ≠ n ∨ (s.cl.peerSerials.any fun e => e.2 == b.serial && e.1 != n) = true)) ∧
    (∃ (s : State) (n : Nat) (l : Link), s.link? n = some l ∧ l.state = .down ∧ l.since + second ≤ s.ck.now) ∧
    (∃ (s : State) (n : Nat) (t : Nat) (l : Link), s.link? n = some l ∧ l.state = .down ∧ l.downSince = some t ∧ t + 5 * second < s.ck.now ∧
      ((s.hive? l.hive).bind (·.block)).any (·.power == 2) = true ∧ l.tasks = []) ∧
    (∃ (s : State) (n : Nat) (tag : Nat) (l : Link) (k : DieTask), s.link? n = some l ∧ l.tasks.find? (·.hdr.tag == tag) = some k ∧
      k.deadline ≤ s.ck.now ∧ k.use = .suspend ∧ k.reissueAt = none ∧ l.state = .up ∧
      ((s.hive? l.hive).bind (·.block)).any (·.power == 2) = true) ∧
    (∃ (s : State) (n : Nat) (b : Bridge) (l : Link), s.bridge? n = some b ∧ b.powered = false ∧ s.link? n = some l ∧ l.tasks = []) ∧
    (∃ (s : State) (n : Nat) (detail : Nat) (b : Bridge), s.bridge? n = some b ∧ b.powered = true) :=
  ⟨⟨(hub.link' 0 fun l => { l with state := .down }).bridge' 0 fun b => { b with slot := 5 }, 0, _, _,
    by decide +kernel,
    some_of (by decide +kernel),
    some_of (by decide +kernel),
    by decide +kernel⟩,
  ⟨hub.link' 0 fun l => { l with state := .down }, 0, _,
    some_of (by decide +kernel),
    by decide +kernel⟩,
  ⟨hub.link' 0 fun l => { l with state := .down, downSince := some 0 }, 0, _, _,
    some_of (by decide +kernel),
    by decide +kernel,
    some_of (by decide +kernel),
    by decide +kernel⟩,
  ⟨hub.link' 0 fun l => { l with tasks := [{ (default : DieTask) with hdr := hdr .read, use := .suspend }] }, 0, 1, _, _,
    some_of (by decide +kernel),
    some_of (by decide +kernel),
    by decide +kernel⟩,
  ⟨hub.bridge' 0 fun b => { b with powered := false }, 0, _, _,
    some_of (by decide +kernel),
    by decide +kernel,
    some_of (by decide +kernel),
    by decide +kernel⟩,
  ⟨hub, 0, 1, _,
    some_of (by decide +kernel),
    by decide +kernel⟩⟩

/-- What `ShelvesComplete` assumes can hold: clause 1, 2, 3, 4, 5, 6, 7, 9, 12. -/
theorem witness_ShelvesComplete :
    (∃ (s : State) (h : Nat) (q : Nat) (x : Shelf), s.shelf? h = some x ∧ (x.lastA.filter (·.seq == q)) = none) ∧
    (∃ (s : State) (h : Nat) (q : Nat) (up : Bool) (x : Shelf) (y : Shelf), s.shelf? h = some x ∧ (x.lastA.filter (·.seq == q)) = none ∧
      y = x.vote .a up s.ck.now) ∧
    (∃ (s : State) (h : Nat) (q : Nat) (sd : Side) (x : Shelf) (y : Shelf), s.shelf? h = some x ∧ (x.lastB.filter (·.seq == q)) = none ∧
      y = x.vote sd false s.ck.now) ∧
    (∃ (s : State) (h : Nat) (q : Nat) (up : Bool) (sd : Side) (x : Shelf) (r : ShelfReply), s.shelf? h = some x ∧
      (x.lastA.filter (·.seq == q)) = some r) ∧
    (∃ (x : Shelf) (now : Nat), (x.block.voteA || x.block.voteB) = true ∧ x.block.power = 0 ∧ x.inputOk = true) ∧
    (∃ (x : Shelf) (now : Nat), (x.block.voteA || x.block.voteB) = true ∧ x.block.power = 3) ∧
    (∃ (x : Shelf) (now : Nat), (x.block.voteA || x.block.voteB) = false ∧ x.block.power = 2) ∧
    (∃ (s : State) (h : Nat) (x : Shelf), s.shelf? h = some x ∧ x.inputOk = false) ∧
    (∃ (s : State) (h : Nat) (x : Shelf), s.shelf? h = some x ∧ x.block.power = 3) :=
  ⟨⟨hub, 0, 1, _,
    some_of (by decide +kernel),
    by decide +kernel⟩,
  ⟨hub, 0, 1, true, _, _,
    some_of (by decide +kernel),
    by decide +kernel,
    rfl⟩,
  ⟨hub, 0, 1, .a, _, _,
    some_of (by decide +kernel),
    by decide +kernel,
    rfl⟩,
  ⟨hub.hv' fun v => { v with shelves := [{ (default : Shelf) with hive := 0, lastA := some ⟨1, 0, resetBlock⟩ }] }, 0, 1, true, .b, _, _,
    some_of (by decide +kernel),
    some_of (by decide +kernel)⟩,
  ⟨{ (default : Shelf) with inputOk := true, block := { resetBlock with power := 0, voteA := true } }, 0,
    by decide +kernel⟩,
  ⟨{ (default : Shelf) with inputOk := true, block := { resetBlock with power := 3, voteA := true } }, 0,
    by decide +kernel⟩,
  ⟨{ (default : Shelf) with inputOk := true, block := { resetBlock with power := 2, voteA := false } }, 0,
    by decide +kernel⟩,
  ⟨hub.hv' fun v => { v with shelves := [{ (default : Shelf) with hive := 0, inputOk := false }] }, 0, _,
    some_of (by decide +kernel),
    by decide +kernel⟩,
  ⟨hub.hv' fun v => { v with shelves := [{ (default : Shelf) with hive := 0, block := { resetBlock with power := 3 } }] }, 0, _,
    some_of (by decide +kernel),
    by decide +kernel⟩⟩

/-- What `HivePowerComplete` assumes can hold: clause 1, 2, 3, 4, 5, 6, 7, 8, 9, 11, 12, 13, 14, 15. -/
theorem witness_HivePowerComplete :
    (∃ (s : State) (b : Nat) (q : BusReq), b < 2 ∧ s.onBus = true ∧ (s.hv.reqs.find? fun q => q.bus == b && q.tries == 0) = some q) ∧
    (∃ (s : State) (b : Nat) (h : Nat), b < 2 ∧ s.onBus = true ∧ (s.hv.reqs.find? fun q => q.bus == b && q.tries == 0) = none ∧
      (s.hv.hives.find? fun h => busOf h.id == b && (h.wanted == some false || (h.wanted == some true && s.mayVoteUp h.id && !(h.state == .darkening && h.darkPoint)))) = none ∧
      nextHive ((s.hv.hives.filter fun h => h.inService).map (·.id)) b 4 (s.hv.pollNext.getD b (4 * b)) = some h) ∧
    (∃ (s : State) (u : State) (h : Nat) (q : Nat) (st : Nat) (b : ShelfBlock) (r : BusReq), (s.hv.reqs.find? fun r => r.hive == h && r.seq == q && r.tries != 0) = some r ∧
      (st = 0 ∨ st = 1 ∨ st = 2) ∧ u = ((s.hv' fun v => { v with reqs := v.reqs.erase r }).takeBlock h b).polled h ∧
      (u.hive? h).any Hive.serves = true) ∧
    (∃ (s : State) (b : Nat) (q : Nat) (r : BusReq), (s.hv.reqs.find? fun r => r.bus == b && r.seq == q && r.tries != 0) = some r ∧
      s.onBus = true ∧ (r.cmd == 2 && r.arg == 1 && !s.mayVoteUp r.hive) = false) ∧
    (∃ (s : State) (n : Nat) (h : Hive), s.hive? n = some h ∧ (h.state == .fault) = false ∧ h.inService = true ∧
      h.lastReply + 100 * milli ≤ s.ck.now) ∧
    (∃ (s : State) (n : Nat) (h : Hive), s.hive? n = some h ∧ (h.state == .waking) = true ∧ h.voteAt + 30 * second ≤ s.ck.now) ∧
    (∃ (s : State) (n : Nat) (t : Nat) (p : Nat) (h : Hive), s.hive? n = some h ∧ h.wakeFailedAt = some t ∧ s.topNeed h = some p ∧
      h.brood = false ∧ h.voteUp = false ∧ t + 60 * second ≤ s.ck.now) ∧
    (∃ (s : State) (n : Nat) (h : Hive), s.hive? n = some h ∧ h.brood = false ∧ s.owns (.honey n) = true ∧ h.darkDecided = false ∧
      (h.state == .ready) = true ∧ s.topNeed h = none ∧
      h.idleSince + (if s.co.member && s.co.autonomyDone then 0 else s.setting 0x04000020 * second) ≤ s.ck.now) :=
  ⟨⟨hub.hv' fun v => { v with reqs := [⟨0, 0, 0, 0, 1, 0⟩] }, 0, _,
    by decide +kernel,
    by decide +kernel,
    some_of (by decide +kernel)⟩,
  ⟨hub, 0, _,
    pre4 (by decide +kernel) (some_of (by decide +kernel))⟩,
  ⟨hub.hv' fun v => { v with reqs := [⟨0, 0, 0, 0, 1, 1⟩] }, _, 0, 1, 0, blk 0, _,
    some_of (by decide +kernel),
    by decide +kernel,
    rfl,
    by decide +kernel⟩,
  ⟨hub.hv' fun v => { v with reqs := [⟨0, 0, 0, 0, 1, 1⟩] }, 0, 1, _,
    some_of (by decide +kernel),
    by decide +kernel⟩,
  ⟨hub, 0, _,
    some_of (by decide +kernel),
    by decide +kernel⟩,
  ⟨hub.hive' 1 fun h => { h with state := .waking }, 1, _,
    some_of (by decide +kernel),
    by decide +kernel⟩,
  ⟨hub.hive' 1 fun h => { h with wakeFailedAt := some 0, houseNeed := true }, 1, _, _, _,
    some_of (by decide +kernel),
    some_of (by decide +kernel),
    some_of (by decide +kernel),
    by decide +kernel⟩,
  ⟨hub, 1, _,
    some_of (by decide +kernel),
    by decide +kernel⟩⟩

/-- The same of `HivePowerComplete`, further clauses. -/
theorem witness_HivePowerComplete_b :
    (∃ (s : State) (n : Nat) (h : Hive), s.hive? n = some h ∧ h.darkDecided = true ∧ h.darkPoint = false ∧ h.voteUp = true ∧
      s.busyHive n = false ∧ h.gather = [] ∧ h.rebuildNeed = false ∧ (s.me.rows.any fun r => r.hive == n) = false ∧ s.hasOpen n = false ∧
      s.onBus = true) ∧
    (∃ (s : State) (u : State) (k : Nat) (q : Nat) (i : Nat) (nsid : Nat) (a : Nat) (b : Nat) (c : HostCmd) (hs : List Hive), s.cmd? k q i = some c ∧
      c.deadline ≤ s.ck.now ∧ c.kind = .read nsid a b ∧ hs = (s.hv.hives.filter fun h => h.gather.any fun g => g.isOf k q i) ∧ hs ≠ [] ∧
      (hs.any fun h => h.gather.any fun g => g.isOf k q i && g.noToken) = false ∧ u = hs.foldl (fun t h => t.stat 0x0704 h.id 2 1) s) ∧
    (∃ (s : State) (n : Nat) (a : Nat) (e : Nat) (p : Nat) (h : Hive), s.hive? n = some h ∧ h.token = some (a, e) ∧ s.topNeed h = some p ∧
      s.co.reachable = true ∧ h.tokenAsked = none ∧ h.tokenGot + (e - h.tokenGot) * 3 / 4 ≤ s.ck.tick ∧ h.darkDecided = false) ∧
    (∃ (s : State) (n : Nat) (t : Nat) (p : Nat) (h : Hive), s.hive? n = some h ∧ h.tokenAsked = some t ∧ s.topNeed h = some p ∧
      h.tokenRefused = true ∧ s.co.reachable = true ∧ t + 10 * second ≤ s.ck.now) ∧
    (∃ (s : State) (n : Nat) (a : Nat) (e : Nat) (h : Hive), s.hive? n = some h ∧ h.token = some (a, e) ∧ s.co.reachable = true ∧
      e ≤ s.ck.tick) ∧
    (∃ (s : State) (t : Nat), s.co.lastContact = some t ∧ s.co.member = true ∧ s.co.reachable = false ∧ s.co.autonomyDone = false ∧
      t + 86400 * second ≤ s.ck.now) :=
  ⟨⟨hub.hive' 1 fun h => { h with darkDecided := true, voteUp := true }, 1, _,
    some_of (by decide +kernel),
    by decide +kernel⟩,
  ⟨(hub.hive' 1 fun h => { h with gather := [{ (default : GatherEntry) with ctrl := 3, qid := 1, cid := 9 }] }).nv' fun v => { v with cmds := [hcmd (.read 1 0 1)] }, _, 3, 1, 9, 1, 0, 1, _, _,
    some_of (by decide +kernel),
    by decide +kernel,
    by decide +kernel,
    rfl,
    by decide +kernel,
    by decide +kernel,
    rfl⟩,
  ⟨(hub.hive' 1 fun h => { h with token := some (5, 100), houseNeed := true }).co' fun c => { c with member := true, reachable := true }, 1, _, _, _, _,
    some_of (by decide +kernel),
    some2_of (by decide +kernel),
    some_of (by decide +kernel),
    by decide +kernel⟩,
  ⟨(hub.hive' 1 fun h => { h with tokenAsked := some 0, tokenRefused := true, houseNeed := true }).co' fun c => { c with member := true, reachable := true }, 1, _, _, _,
    some_of (by decide +kernel),
    some_of (by decide +kernel),
    some_of (by decide +kernel),
    by decide +kernel⟩,
  ⟨(hub.hive' 1 fun h => { h with token := some (5, 100) }).co' fun c => { c with member := true, reachable := true }, 1, _, _, _,
    some_of (by decide +kernel),
    some2_of (by decide +kernel),
    by decide +kernel⟩,
  ⟨hub.co' fun c => { c with member := true, lastContact := some 0 }, _,
    some_of (by decide +kernel),
    by decide +kernel⟩⟩

/-- What `ColonyQueenComplete` assumes can hold, clause by clause; the further ones follow. -/
theorem witness_ColonyQueenComplete :
    (∃ (s : State) (a : Nat) (ser : Nat) (ha : Nat) (hb : Nat) (ads : List Bytes), s.isQueen = true ∧ a ≠ 0 ∧ a ≤ 127 ∧
      (s.queen.members.any fun m => m.apiary == a && !m.vacated) = false) ∧
    (∃ (s : State) (a : Nat) (ser : Nat) (ha : Nat) (hb : Nat) (ads : List Bytes), s.isQueen = true ∧
      (s.queen.members.any fun m => m.apiary == a && !m.vacated) = true) ∧
    (∃ (s : State) (a : Nat), s.isQueen = true ∧ a ≠ 0 ∧ s.queen.members.any (·.apiary == a) = true) ∧
    (∃ (s : State) (u : State), s.isQueen = true ∧ (s.co.lastContact.getD 0) + second ≤ s.ck.now ∧
      u = s.co' (fun c => { c with lastContact := some s.ck.now })) ∧
    (∃ (s : State) (t : State) (r : Report7) (m : Member7), s.isQueen = true ∧ s.queen.member? r.apiary = some m ∧ r.keyGen ≤ s.colonyGen ∧
      r.tokens = [] ∧
      t = (s.control 0xFFFF (.queenMember { m with power := r.power, peaks := newPeaks m r.power, keyGen := r.keyGen, vacated := false }) []) ∧
      r.keyGen ≤ (t.control 0xFFFF (.queenEntries r.apiary (r.domains.map fun e => { e with apiary := r.apiary, tick := t.ck.tick })) []).colonyGen) ∧
    (∃ (s : State) (a : Nat) (h : Nat) (v : Nat) (p : Nat) (n : Nat), s.isQueen = true) ∧
    (∃ (s : State) (a : Nat) (n : Nat) (h : HeldReq), (s.co.qHeld.find? fun h => h.apiary == a && h.num == n) = some h ∧ s.isQueen = true ∧
      h.atNs + 60 * second ≤ s.ck.now) ∧
    (∃ (s : State) (i : Nat), s.isQueen = true) :=
  ⟨⟨hub.co' fun c => { c with member := true, queenHead := true, epoch := 5, members := [{ (default : Member7) with apiary := 3 }], apiaries := [(3, 6, 7, [])] }, 5, 9, 10, 11, [],
    by decide +kernel⟩,
  ⟨hub.co' fun c => { c with member := true, queenHead := true, epoch := 5, members := [{ (default : Member7) with apiary := 3 }], apiaries := [(3, 6, 7, [])] }, 3, 9, 10, 11, [],
    by decide +kernel⟩,
  ⟨hub.co' fun c => { c with member := true, queenHead := true, epoch := 5, members := [{ (default : Member7) with apiary := 3 }], apiaries := [(3, 6, 7, [])] }, 3,
    by decide +kernel⟩,
  ⟨hub.co' fun c => { c with member := true, queenHead := true, epoch := 5, members := [{ (default : Member7) with apiary := 3 }], apiaries := [(3, 6, 7, [])] }, _,
    by decide +kernel,
    by decide +kernel,
    rfl⟩,
  ⟨hub.co' fun c => { c with member := true, queenHead := true, epoch := 5, members := [{ (default : Member7) with apiary := 3 }], apiaries := [(3, 6, 7, [])] }, _, { (default : Report7) with apiary := 3 }, _,
    by decide +kernel,
    some_of (by decide +kernel),
    by decide +kernel,
    by decide +kernel,
    rfl,
    by decide +kernel⟩,
  ⟨hub.co' fun c => { c with member := true, queenHead := true, epoch := 5, members := [{ (default : Member7) with apiary := 3 }], apiaries := [(3, 6, 7, [])] }, 3, 6, 1, 1, 1,
    by decide +kernel⟩,
  ⟨hub.co' fun c => { c with member := true, queenHead := true, epoch := 5, members := [{ (default : Member7) with apiary := 3 }], apiaries := [(3, 6, 7, [])], qHeld := [{ (default : HeldReq) with apiary := 3, num := 1 }] }, 3, 1, _,
    some_of (by decide +kernel),
    by decide +kernel⟩,
  ⟨hub.co' fun c => { c with member := true, queenHead := true, epoch := 5, members := [{ (default : Member7) with apiary := 3 }], apiaries := [(3, 6, 7, [])] }, 1,
    by decide +kernel⟩⟩

/-- The same of `ColonyQueenComplete`, further clauses. -/
theorem witness_ColonyQueenComplete_b :
    (∃ (s : State) (i : Nat) (t : WakeToken), s.queen.qTokens.find? (·.id == i) = some t ∧ s.isQueen = true ∧ t.expiry ≤ s.ck.tick) ∧
    (∃ (s : State) (h : Nat) (r : Bool), s.isQueen = true ∧ s.co.arbiters.find? (·.1 == otherHead h) = none) ∧
    (∃ (s : State) (h : Nat) (o : Nat × Bool), s.isQueen = true ∧ s.co.arbiters.find? (·.1 == otherHead h) = some o ∧ o.2 = false) ∧
    (∃ (s : State) (h : Nat) (v : Nat) (m : Member7) (hs : List (Nat × Nat × Bool)), s.isQueen = true ∧ s.queen.member? (h / 2) = some m ∧
      hs = m.heads.filter (·.1 != h % 2) ++ [(h % 2, v, false)] ∧
      ([0, 1].all fun (i : Nat) => hs.any fun x => x.1 == i && x.2.1 == v && x.2.2) = false) ∧
    (∃ (s : State), s.isQueen = true ∧ s.queen.rolling = true ∧ s.queen.haltedRollout = false ∧ s.queen.waves ≤ s.lastWave ∧
      (s.queen.members.filter fun m => !m.vacated && s.waveOf m.apiary < s.queen.waves) = []) ∧
    (∃ (s : State) (ep : Nat) (a : Nat) (ser : Nat) (ha : Nat) (hb : Nat) (h : Nat) (v : Nat) (p : Nat) (n : Nat) (ads : List Bytes) (r : Report7) (b : Bool) (d : Bool), s.isQueen = true ∧
      s.epochLow < ep) :=
  ⟨⟨hub.co' fun c => { c with member := true, queenHead := true, epoch := 5, members := [{ (default : Member7) with apiary := 3 }], apiaries := [(3, 6, 7, [])], qTokens := [{ (default : WakeToken) with id := 1 }] }, 1, _,
    some_of (by decide +kernel),
    by decide +kernel⟩,
  ⟨hub.co' fun c => { c with member := true, queenHead := true, epoch := 5, members := [{ (default : Member7) with apiary := 3 }], apiaries := [(3, 6, 7, [])] }, 6, true,
    by decide +kernel⟩,
  ⟨hub.co' fun c => { c with member := true, queenHead := true, epoch := 5, members := [{ (default : Member7) with apiary := 3 }], apiaries := [(3, 6, 7, [])], arbiters := [(7, false)] }, 6, _,
    by decide +kernel,
    some_of (by decide +kernel),
    by decide +kernel⟩,
  ⟨hub.co' fun c => { c with member := true, queenHead := true, epoch := 5, members := [{ (default : Member7) with apiary := 3 }], apiaries := [(3, 6, 7, [])] }, 6, 1, _, _,
    by decide +kernel,
    some_of (by decide +kernel),
    rfl,
    by decide +kernel⟩,
  ⟨hub.co' fun c => { c with member := true, queenHead := true, epoch := 5, members := [{ (default : Member7) with apiary := 3 }], apiaries := [(3, 6, 7, [])], rolling := true, waves := 0 },
    by decide +kernel⟩,
  ⟨hub.co' fun c => { c with member := true, queenHead := true, epoch := 5, members := [{ (default : Member7) with apiary := 3 }], apiaries := [(3, 6, 7, [])] }, 6, 3, 1, 1, 1, 6, 1, 1, 1, [], default, true, true,
    by decide +kernel⟩⟩

/-- What `ColonyWorkerComplete` assumes can hold, clause by clause; the further ones follow. -/
theorem witness_ColonyWorkerComplete :
    (∃ (s : State) (u : State) (w : Waiter) (is : List (Nat × Bytes)) (a : Nat) (t : Nat) (c : Nat) (e : Nat), s.co.joinWait = some (w, a, t) ∧
      s.co.epoch ≤ e ∧ u = s.co' (fun c => { c with joinWait := none })) ∧
    (∃ (s : State) (u : State) (w : Waiter) (is : List (Nat × Bytes)) (a : Nat) (t : Nat) (c : Nat) (e : Nat), s.co.joinWait = some (w, a, t) ∧
      s.co.epoch ≤ e ∧ c ≠ vstat .paramInvalid ∧ u = s.co' (fun c => { c with joinWait := none })) ∧
    (∃ (s : State) (src : Nat) (e : Nat) (g : Nat) (o : Bool), s.co.member = true ∧ s.co.epoch ≤ e ∧ s.co.queenHead = false ∧
      s.co.reachable = true ∧ s.co.lastContact.isNone = false ∧ g = s.co.settingsGen) ∧
    (∃ (s : State) (src : Nat) (e : Nat) (g : Nat) (o : Bool), s.co.member = true ∧ s.co.epoch < e ∧ s.co.queenHead = true) ∧
    (∃ (s : State) (t : Nat), s.co.member = true ∧ s.co.reachable = true ∧ s.co.queenHead = false ∧ s.co.lastContact = some t ∧
      t + 10 * second ≤ s.ck.now) ∧
    (∃ (s : State) (u : State) (t : WakeToken) (aut : Nat) (h : Hive), s.co.member = true ∧ t.apiary = s.pr.apiary ∧
      s.hive? t.hive = some h ∧ h.waiters = [] ∧ h.darkDecided = true ∧
      u = (s.co' fun c => { c with autonomy := aut, reqs := c.reqs.filter (·.2.1 != t.hive), tokens := tokenPut (c.tokens.filter (·.hive != t.hive)) t })) ∧
    (∃ (s : State) (n : Nat) (c : Nat) (h : Nat) (v : Hive), s.co.reqs.find? (·.1 == n) = some (n, h, 0) ∧
      (((s.co' fun c => { c with reqs := c.reqs.filter (·.1 != n) }).stat 0x0705 0 1 1).hive? h) = some v ∧ v.waiters = []) ∧
    (∃ (s : State) (i : Nat) (t : WakeToken), s.co.tokens.find? (·.id == i) = some t) :=
  ⟨⟨hub.co' fun c => { c with joinWait := some (Waiter.mk .sb 7 1 0x0602 0, 3, 0) }, _, _, [], _, _, 0, 5,
    some3_of (by decide +kernel),
    by decide +kernel,
    rfl⟩,
  ⟨hub.co' fun c => { c with joinWait := some (Waiter.mk .sb 7 1 0x0602 0, 3, 0) }, _, _, [], _, _, 0, 5,
    some3_of (by decide +kernel),
    by decide +kernel,
    by decide +kernel,
    rfl⟩,
  ⟨hub.co' fun c => { c with member := true, epoch := 5, reachable := true, lastContact := some 0 }, 6, 5, _, true,
    pre5 (by decide +kernel) (rfl)⟩,
  ⟨hub.co' fun c => { c with member := true, queenHead := true, epoch := 5, members := [{ (default : Member7) with apiary := 3 }], apiaries := [(3, 6, 7, [])] }, 6, 6, 1, true,
    by decide +kernel⟩,
  ⟨hub.co' fun c => { c with member := true, epoch := 5, reachable := true, lastContact := some 0 }, _,
    pre3 (by decide +kernel) ⟨some_of (by decide +kernel),
    by decide +kernel⟩⟩,
  ⟨(hub.co' fun c => { c with member := true, epoch := 5, reachable := true }).hive' 1 fun h => { h with darkDecided := true }, _, { (default : WakeToken) with hive := 1 }, 1, _,
    by decide +kernel,
    by decide +kernel,
    some_of (by decide +kernel),
    by decide +kernel,
    by decide +kernel,
    rfl⟩,
  ⟨hub.co' fun c => { c with member := true, epoch := 5, reachable := true, reqs := [(1, 1, 0)] }, 1, 2, 1, _,
    by decide +kernel,
    some_of (by decide +kernel),
    by decide +kernel⟩,
  ⟨hub.co' fun c => { c with member := true, epoch := 5, reachable := true, tokens := [{ (default : WakeToken) with id := 1 }] }, 1, _,
    some_of (by decide +kernel)⟩⟩

/-- The same of `ColonyWorkerComplete`, further clauses. -/
theorem witness_ColonyWorkerComplete_b :
    (∃ (s : State) (t : State) (g : Nat) (k : Nat) (is : List (Nat × Bytes)), s.co.member = true ∧ s.co.queenHead = false ∧
      is.any (·.1 == apiaryListItem) = false ∧ is.filter (·.1 == queenItem) = [] ∧ s.ks.colony.pend = none ∧ k ≤ s.colonyGen ∧
      t.colonyGen = s.colonyGen ∧ t = ((s.takeSix is).co' fun c => { c with settingsGen := g })) ∧
    (∃ (s : State) (t : Nat), s.co.lagSince = some t ∧ t + 86400 * second ≤ s.ck.now ∧ s.co.lagSaid = false ∧ s.md.stopped = false) ∧
    (∃ (s : State) (ep : Nat) (n : Nat) (d : Nat) (t : WakeToken) (is : List (Nat × Bytes)), ep < s.epochLow) :=
  ⟨⟨hub.co' fun c => { c with member := true, epoch := 5, reachable := true }, _, 4, 1, [],
    pre7 (by decide +kernel) (rfl)⟩,
  ⟨hub.co' fun c => { c with member := true, epoch := 5, reachable := true, lagSince := some 0 }, _,
    some_of (by decide +kernel),
    by decide +kernel⟩,
  ⟨hub.co' fun c => { c with member := true, epoch := 5, reachable := true }, 4, 1, 1, default, [],
    by decide +kernel⟩⟩

/-- What `ForageComplete` assumes can hold, clause by clause; the further ones follow. -/
theorem witness_ForageComplete :
    (∃ (s : State) (p : FPkt) (c : Option ShadowRec) (j : Option JournalEntry), s.md.stopped = false) ∧
    (∃ (s : State) (p : FPkt) (c : Option ShadowRec) (j : Option JournalEntry), p.port < 4 ∧ p.magicOk = false) ∧
    (∃ (s : State) (u : State) (p : FPkt) (g : FPkt) (n : Nat) (rx : Nat) (echo : Nat) (id : BitVec 32) (map : BitVec 64) (c : Ctx), s.md.stopped = false ∧
      g = p.ackOf n id rx map echo ∧ s.checkPkt g g.fitsAnswer = (u, true) ∧ u.ctx? n = some c ∧ c.farHead = g.srcHead ∧
      c.farCtx = g.srcCtx ∧ (c.state == .bound) = true ∧ u.pr.declared = false) ∧
    (∃ (s : State) (u : State) (p : FPkt) (g : FPkt) (n : Nat) (rx : Nat) (echo : Nat) (id : BitVec 32) (map : BitVec 64), s.md.stopped = false ∧
      g = p.ackOf n id rx map echo ∧ s.checkPkt g g.fitsAnswer = (u, false)) ∧
    (∃ (s : State) (u : State) (p : FPkt) (g : FPkt) (n : Nat) (code : Nat) (off : Nat) (map : Nat) (id : BitVec 32) (c : Ctx), s.md.stopped = false ∧
      g = p.nakOf n id code off map ∧ s.checkPkt g g.fitsAnswer = (u, true) ∧ u.ctx? n = some c ∧ c.farHead = g.srcHead ∧
      c.farCtx = g.srcCtx ∧ (c.state == .bound) = true) ∧
    (∃ (s : State) (n : Nat) (es : List WorkEntry) (c : Ctx), s.ctx? n = some c ∧ s.md.stopped = false) ∧
    (∃ (s : State) (u : State) (n : Nat) (c : Ctx), s.ctx? n = some c ∧ s.md.stopped = false ∧ c.sent ≠ [] ∧ c.readWait = none ∧
      (c.state == .bound) = true ∧ (c.rto < milli ∨ c.rtoAt ≤ s.ck.now) ∧
      u = s.ctx' n (fun x => { x with rto := min (2 * c.rto) (10 * milli), rtos := x.rtos + 1, rtoAt := s.ck.now + min (2 * c.rto) (10 * milli) }) ∧
      (u.path? c.path).any (·.fabric) = false) ∧
    (∃ (s : State) (n : Nat) (c : Ctx) (m : SentMsg) (ms : List SentMsg), s.ctx? n = some c ∧ c.sent = m :: ms ∧ s.md.stopped = false ∧
      m.origin + 80 * milli ≤ s.ck.now) :=
  ⟨⟨hub, default, none, none,
    by decide +kernel⟩,
  ⟨hub, default, none, none,
    by decide +kernel⟩,
  by
    obtain ⟨u, c, h1, h2, h3, h4, h5, h6⟩ := taken_of ack_taken
    exact ⟨bound, u, ackPkt, _, 8, 0, 0, 0, 0, c, rfl, rfl, h1, h2, h3, h4, h5, h6⟩,
  ⟨bound, _, _, _, 8, 0, 0, 0, 0, rfl, rfl, pair_of2 (ack_refused _ rfl)⟩,
  by
    obtain ⟨u, c, h1, h2, h3, h4, h5, _⟩ := taken_of nak_taken
    exact ⟨bound, u, nakPkt, _, 8, 1, 0, 0, 1, c, rfl, rfl, h1, h2, h3, h4, h5⟩,
  ⟨hub.fg' fun g => { g with ctxs := [{ (default : Ctx) with id := 8, state := .bound, farHead := 1 }] }, 8, [], _,
    some_of (by decide +kernel),
    by decide +kernel⟩,
  ⟨hub.fg' fun g => { g with ctxs := [{ (default : Ctx) with id := 8, state := .bound, farHead := 1, sent := [{ (default : SentMsg) with id := 2 }] }] }, _, 8, _,
    some_of (by decide +kernel),
    pre5 (by decide +kernel) ⟨rfl,
    by decide +kernel⟩⟩,
  ⟨hub.fg' fun g => { g with ctxs := [{ (default : Ctx) with id := 8, state := .bound, farHead := 1, sent := [{ (default : SentMsg) with id := 2 }] }] }, 8, _, _, _,
    some_of (by decide +kernel),
    cons_of (by decide +kernel),
    by decide +kernel⟩⟩

/-- The same of `ForageComplete`, further clauses. -/
theorem witness_ForageComplete_b :
    (∃ (s : State) (n : Nat) (c : Ctx), s.ctx? n = some c ∧ s.md.stopped = false ∧ c.broken = false ∧
      (c.placing.any fun m => m.op != 4 && m.whole && m.id != c.nextVisible && m.origin + 100 * milli ≤ s.ck.now) = true ∧
      (c.placing.find? fun m => m.op != 4 && m.id == c.nextVisible) = none) ∧
    (∃ (s : State) (n : Nat) (c : Ctx), s.ctx? n = some c ∧ s.md.stopped = false ∧ (c.state == .bound) = true ∧
      (c.sent.filter fun m => m.rnrUntil.isSome) ≠ []) ∧
    (∃ (s : State) (u : State), u = s.fg' (fun g => { g with recent := s.youngIds, recentFull := g.recentFull && 1048576 ≤ s.youngIds.length }) ∧
      u.fg.recentFull = false) ∧
    (∃ (s : State) (n : Nat) (c : Ctx), s.ctx? n = some c ∧ c.resident = false ∧ s.md.stopped = false) ∧
    (∃ (s : State) (n : Nat) (c : Ctx), s.ctx? n = some c ∧ c.pinned = false ∧ c.resident = false ∧ s.md.stopped = false) ∧
    (∃ (s : State) (n : Nat) (p : Path), s.path? n = some p ∧ s.pr.joined = false ∧ s.pathInFlight n = 0 ∧ p.lastUse + second ≤ s.ck.now) :=
  ⟨⟨hub.fg' fun g => { g with ctxs := [{ (default : Ctx) with id := 8, state := .bound, farHead := 1, placing := [{ (default : RxMsg) with id := 5, len := 1, ranges := [(0, [1])] }] }] }, 8, _,
    some_of (by decide +kernel),
    by decide +kernel⟩,
  ⟨hub.fg' fun g => { g with ctxs := [{ (default : Ctx) with id := 8, state := .bound, farHead := 1, sent := [{ (default : SentMsg) with id := 2, rnrUntil := some 0 }] }] }, 8, _,
    some_of (by decide +kernel),
    by decide +kernel⟩,
  ⟨hub, _,
    rfl,
    by decide +kernel⟩,
  ⟨hub.fg' fun g => { g with ctxs := [{ (default : Ctx) with id := 8, state := .bound, farHead := 1 }] }, 8, _,
    some_of (by decide +kernel),
    by decide +kernel⟩,
  ⟨hub.fg' fun g => { g with ctxs := [{ (default : Ctx) with id := 8, state := .bound, farHead := 1 }] }, 8, _,
    some_of (by decide +kernel),
    by decide +kernel⟩,
  ⟨hub.fg' fun g => { g with paths := [{ (default : Path) with id := 1 }] }, 1, _,
    some_of (by decide +kernel),
    by decide +kernel⟩⟩

/-- What `ReplicationComplete` assumes can hold: clause 1, 2, 3, 4, 5, 6, 7, 8, 9, 10, 11, 12, 13, 14, 16, 17, 18, 19, 20, 21. -/
theorem witness_ReplicationComplete :
    (∃ (s : State) (src : Nat) (g : Nat) (so : Nat) (mode : Nat) (ds : List Nat), ds ≠ [] ∧ s.detachedFrom src g = true) ∧
    (∃ (s : State) (src : Nat) (g : Nat) (so : Nat) (mode : Nat) (d : Nat) (ds : List Nat), s.detachedFrom src g = false ∧ s.ordSpent = false) ∧
    (∃ (s : State) (src : Nat) (g : Nat) (so : Nat) (mode : Nat) (d : Nat) (salt : Bytes) (k : VaultEntry), s.detachedFrom src g = false ∧
      s.ordSpent = false ∧ s.domainTaken g so d = false ∧ s.unwrapKeys salt = some k ∧ (s.keyRec d).isNone = false) ∧
    (∃ (s : State) (n : Nat) (c : Nat) (g : RGroup), s.group? n = some g ∧ s.leads g = true ∧
      (g.state == .connecting || g.state == .paused) = true ∧ g.based = false) ∧
    (∃ (s : State) (n : Nat) (c : Nat) (g : RGroup), s.group? n = some g ∧ s.leads g = true ∧ c ≠ 2) ∧
    (∃ (s : State) (src : Nat) (n : Nat) (r : Replica), s.detachedFrom src n = false ∧ s.replica? n (src / 2) = some r) ∧
    (∃ (s : State) (n : Nat) (q : Nat) (o : Nat) (g : RGroup), s.group? n = some g ∧ s.leads g = true ∧ (g.state == .refused) = false ∧
      g.based = true ∧ g.log.find? (·.seq == q) = none) ∧
    (∃ (s : State) (n : Nat) (t : Nat) (g : RGroup), s.group? n = some g ∧ g.queryAt = some t ∧ t + 80 * milli ≤ s.ck.now) :=
  ⟨⟨hub.rp' fun r => { r with detached := [3076] }, 6, 4, 3, 0, [1],
    by decide +kernel⟩,
  ⟨hub, 6, 4, 3, 0, 1, [],
    by decide +kernel⟩,
  ⟨hub.rp' fun r => { r with replicas := [{ (default : Replica) with id := 4, source := 3, domains := [1] }] }, 6, 4, 3, 0, 1, salt [1], _,
    pre3 (by decide +kernel) ⟨some_of (salt_unwraps rfl),
    by decide +kernel⟩⟩,
  ⟨hub.rp' fun r => { r with groups := [{ (default : RGroup) with id := 4, domains := [1], target := 9, state := .connecting }] }, 4, 0, _,
    some_of (by decide +kernel),
    by decide +kernel⟩,
  ⟨hub.rp' fun r => { r with groups := [{ (default : RGroup) with id := 4, domains := [1], target := 9, state := .shipping }] }, 4, 0, _,
    some_of (by decide +kernel),
    by decide +kernel⟩,
  ⟨hub.rp' fun r => { r with replicas := [{ (default : Replica) with id := 4, source := 3, domains := [1] }] }, 6, 4, _,
    by decide +kernel,
    some_of (by decide +kernel)⟩,
  ⟨hub.rp' fun r => { r with groups := [{ (default : RGroup) with id := 4, domains := [1], target := 9, state := .shipping, based := true }] }, 4, 1, 1, _,
    some_of (by decide +kernel),
    by decide +kernel⟩,
  ⟨hub.rp' fun r => { r with groups := [{ (default : RGroup) with id := 4, domains := [1], target := 9, state := .shipping, queryAt := some 0 }] }, 4, _, _,
    some_of (by decide +kernel),
    some_of (by decide +kernel),
    by decide +kernel⟩⟩

/-- The same of `ReplicationComplete`, further clauses. -/
theorem witness_ReplicationComplete_b :
    (∃ (s : State) (src : Nat) (n : Nat) (b : Nat) (r : Replica), s.detachedFrom src n = false ∧ s.replica? n (src / 2) = some r) ∧
    (∃ (s : State) (u : State) (n : Nat) (b : Nat) (g : RGroup) (f : Batch) (x : Batch), s.group? n = some g ∧
      (g.inFlight.find? fun x => x.num == b && !x.sent && !x.wait) = some f ∧ u = s.stat 0x0A01 n 1 0 ∧
      x = { f with chunks := f.chunks.drop 8192 ++ [], wait := false }) ∧
    (∃ (s : State) (src : Nat) (n : Nat) (d : Nat) (c : Nat) (gen : Nat) (cl : Nat) (body : Bytes) (r : Replica), s.detachedFrom src n = false ∧
      s.replica? n (src / 2) = some r ∧ s.openChunk d c gen cl body = none) ∧
    (∃ (s : State) (u : State) (src : Nat) (n : Nat) (d : Nat) (c : Nat) (gen : Nat) (cl : Nat) (body : Bytes) (frame : Bytes) (content : Bytes) (r : Replica) (landed : Bool), s.detachedFrom src n = false ∧
      s.replica? n (src / 2) = some r ∧ s.openChunk d c gen cl body = some (frame, content) ∧ r.domains.contains d = true ∧
      r.offers = [] ∧ s.landShipped d frame content (s.fingerprint d content) true = (u, landed)) ∧
    (∃ (s : State) (u : State) (src : Nat) (n : Nat) (a : Nat) (b : Nat) (fin : Bool) (r : Replica), s.detachedFrom src n = false ∧
      s.replica? n (src / 2) = some r ∧
      u = s.replica' n (src / 2) (fun x => { x with srcHead := src, offers := x.offers.filter (!·.2.isEmpty) }) ∧ b ≤ u.appliedSeq r) ∧
    (∃ (s : State) (u : State) (n : Nat) (q : Nat) (g : RGroup) (e : ShipEntry), s.group? n = some g ∧ s.leads g = true ∧
      (g.inFlight.find? fun b => b.base && b.sent) = none ∧ g.log.find? (·.seq == q) = some e ∧ g.confirmed < q ∧
      u = s.group' n (fun x => { x with inFlight := x.inFlight.filter fun b => b.base || q < b.last }) ∧ u.snapMode n = true) ∧
    (∃ (s : State) (n : Nat) (g : RGroup), s.group? n = some g ∧ s.leads g = true ∧
      s.setting (0x07000004 + n * 0x100) * 2 ^ 30 < (g.log.map (·.bytes)).sum) ∧
    (∃ (s : State) (src : Nat) (d : Nat) (len : Nat) (fp : Bytes), s.chunkOfFp d fp = none) :=
  ⟨⟨hub.rp' fun r => { r with replicas := [{ (default : Replica) with id := 4, source := 3, domains := [1] }] }, 6, 4, 1, _,
    by decide +kernel,
    some_of (by decide +kernel)⟩,
  ⟨hub.rp' fun r => { r with groups := [{ (default : RGroup) with id := 4, domains := [1], target := 9, state := .shipping, inFlight := [{ (default : Batch) with num := 1 }] }] }, _, 4, 1, _, _, _,
    some_of (by decide +kernel),
    some_of (by decide +kernel),
    rfl,
    rfl⟩,
  ⟨hub.rp' fun r => { r with replicas := [{ (default : Replica) with id := 4, source := 3, domains := [1] }] }, 6, 4, 1, 1, 1, 0, [], _,
    by decide +kernel,
    some_of (by decide +kernel),
    by decide +kernel⟩,
  ⟨hub.rp' fun r => { r with replicas := [{ (default : Replica) with id := 4, source := 3, domains := [1] }] }, _, 6, 4, 1, 5, 1, 1, shipped, frame1, [1], _, _,
    by decide +kernel,
    some_of (by decide +kernel),
    shipped_opens rfl,
    by decide +kernel,
    by decide +kernel,
    pair_of _⟩,
  ⟨hub.rp' fun r => { r with replicas := [{ (default : Replica) with id := 4, source := 3, domains := [1] }] }, _, 6, 4, 0, 0, true, _,
    by decide +kernel,
    some_of (by decide +kernel),
    rfl,
    by decide +kernel⟩,
  ⟨(hub.rp' fun r => { r with groups := [{ (default : RGroup) with id := 4, domains := [1], target := 9, state := .shipping, log := [{ (default : ShipEntry) with seq := 5 }] }] }).vk' fun v => { v with settings := v.settings ++ [(0x07000401, [1])] }, _, 4, 5, _, _,
    some_of (by decide +kernel),
    by decide +kernel,
    by decide +kernel,
    some_of (by decide +kernel),
    by decide +kernel,
    rfl,
    by decide +kernel⟩,
  ⟨hub.rp' fun r => { r with groups := [{ (default : RGroup) with id := 4, domains := [1], target := 9, state := .shipping, log := [{ (default : ShipEntry) with bytes := 2 ^ 70 }] }] }, 4, _,
    some_of (by decide +kernel),
    by decide +kernel⟩,
  ⟨hub, 6, 1, 0, [9],
    by decide +kernel⟩⟩

/-- The same of `ReplicationComplete`, further clauses. -/
theorem witness_ReplicationComplete_c :
    (∃ (s : State) (t : State) (src : Nat) (d : Nat) (c : Nat) (x : Nat) (i : Nat) (gen : Nat) (cl : Nat) (len : Nat) (fp : Bytes) (b : Bytes) (body : Bytes), s.chunkOfFp d fp = some c ∧
      s.readChunk c = (t, .content b) ∧ t.chunkMsg 0 c = some (.chunk x d i gen cl body) ∧ b.length = len ∧ t.owns (.domain d) = true) ∧
    (∃ (s : State) (d : Nat) (c : Nat) (gen : Nat) (cl : Nat) (body : Bytes) (frame : Bytes) (content : Bytes) (r : Repair), s.openChunk d c gen cl body = some (frame, content) ∧
      (s.rp.repairs.find? fun r => r.domain == d && r.fp == s.fingerprint d content) = some r) ∧
    (∃ (s : State) (d : Nat) (fp : Bytes) (r : Repair), (s.rp.repairs.find? fun r => r.domain == d && r.fp == fp) = some r) ∧
    (∃ (s : State) (d : Nat) (c : Nat) (r : Repair), (s.rp.repairs.find? fun r => r.domain == d && r.chunk == c) = some r ∧
      r.atNs + 60 * second ≤ s.ck.now) :=
  ⟨⟨(hub.rd' fun r => { r with fps := [⟨0xFFFF, [9], 5, true⟩], store := [⟨5, 1, [9], [1], zeros 64⟩] }).pr' fun p => { p with owners := [(.domain 0xFFFF, .a)] }, _, 6, 0xFFFF, _, 0, 5, 1, 1, 1, [9], [1], zeros 4,
    some_of (by decide +kernel),
    pair_of2 (by decide +kernel),
    by decide +kernel⟩,
  ⟨repairing, 1, 5, 1, 1, shipped, frame1, [1], rep1,
    shipped_opens rfl,
    repairing_finds⟩,
  ⟨hub.rp' fun r => { r with repairs := [{ (default : Repair) with domain := 1, chunk := 2, fp := [9] }] }, 1, [9], _,
    some_of (by decide +kernel)⟩,
  ⟨hub.rp' fun r => { r with repairs := [{ (default : Repair) with domain := 1, chunk := 2, fp := [9] }] }, 1, 2, _,
    some_of (by decide +kernel),
    by decide +kernel⟩⟩

/-- What `PairTicksComplete` assumes can hold, clause by clause; the further ones follow. -/
theorem witness_PairTicksComplete :
    (∃ (s : State), (s.pw.sleep.isNone && !s.md.stopped) = false) ∧
    (∃ (s : State), (s.pw.sleep.isNone && !s.md.stopped) = true ∧ s.pr.joined = true) ∧
    (∃ (s : State) (u : State) (m : WaggleMsg), m.head = s.peerId ∧ s.pw.sleep = none ∧ s.md.stopped = false ∧ m.grant = false ∧
      m.declared = false ∧ m.fabric = true ∧ s.wx.peerTo = none ∧ u = (s.pathBack true).stat 0x0B01 1 1 1) ∧
    (∃ (s : State), s.pr.leaseEnd ≤ s.ck.tick) ∧
    (∃ (s : State) (m : DigestMsg), m.head = s.peerId ∧ s.pr.joined = true ∧ s.pr.declared = false ∧ s.md.stopped = false) ∧
    (∃ (s : State) (m : DigestMsg), s.pr.shChain ≠ [] ∧ m.tick = s.pr.echoTick + 1 ∧ m.echoResult ≠ 1 ∧ m.vaultCount ≠ s.pr.vaultCount ∧
      s.pr.vaultDiff + 1 < 8 ∧ m.own = chainNext s.pr.shChain m.tick m.cutoff (s.shadowMarks s.pr.shCut m.cutoff)) ∧
    (∃ (s : State) (ok : Bool), s.pr.unresolved = true ∧ s.pr.ownReport = none ∧ s.co.member = false) ∧
    (∃ (s : State) (r : Bool), s.pr.unresolved = true) :=
  ⟨⟨hub.md' fun m => { m with stopped := true },
    by decide +kernel⟩,
  ⟨hub.pr' fun p => { p with joined := true },
    by decide +kernel⟩,
  ⟨hub, _, { (default : WaggleMsg) with head := 1, fabric := true },
    pre7 (by decide +kernel) (rfl)⟩,
  ⟨hub,
    by decide +kernel⟩,
  ⟨hub.pr' fun p => { p with joined := true }, { (default : DigestMsg) with head := 1 },
    by decide +kernel⟩,
  ⟨chained, digestOn,
    pre5 (by decide +kernel) (digestOn_own)⟩,
  ⟨hub.pr' fun p => { p with unresolved := true }, true,
    by decide +kernel⟩,
  ⟨hub.pr' fun p => { p with unresolved := true }, true,
    by decide +kernel⟩⟩

/-- The same of `PairTicksComplete`, further clauses. -/
theorem witness_PairTicksComplete_b :
    (∃ (s : State) (a : SelfReport) (b : SelfReport), s.pr.ownReport = some a ∧ s.pr.peerReport = some b ∧ a.right ≠ b.right) ∧
    (∃ (s : State), s.pr.unresolved = true ∧ s.inMode .quiesce = false ∧ s.pr.mismatchAt + 500 * milli ≤ s.ck.now ∧ s.pr.ownReport = none) ∧
    (∃ (s : State), s.pr.side = .b ∧ s.setting 0x05000002 * second ≠ 0 ∧ s.pr.joined = true ∧ s.pr.yielding = false ∧ s.pr.declared = false ∧
      s.pr.missFabric < 8 ∧ s.ck.lastCtx5.getD 0 + s.setting 0x05000002 * second ≤ s.ck.now) :=
  ⟨⟨hub.pr' fun p => { p with unresolved := true, ownReport := some ⟨true, 0⟩, peerReport := some ⟨false, 0⟩ }, _, _,
    some_of (by decide +kernel),
    some_of (by decide +kernel),
    by decide +kernel⟩,
  ⟨hub.pr' fun p => { p with unresolved := true },
    by decide +kernel⟩,
  ⟨hub.pr' fun p => { p with joined := true, side := .b },
    by decide +kernel⟩⟩

/-- What `TakeoverComplete` assumes can hold: clause 1, 3, 4, 5, 6, 7, 8, 9, 10, 11, 12, 13. -/
theorem witness_TakeoverComplete :
    (∃ (s : State), s.pr.fence = 1 ∧ s.pr.fenceAt ≤ s.ck.now ∧ (s.inMode .takeover || s.inMode .solo) = true) ∧
    (∃ (s : State) (n : Nat) (l : Link), s.link? n = some l) ∧
    (∃ (s : State) (t : Nat), s.pr.retryAt = some t ∧ t ≤ s.ck.now ∧ s.pr.fence = 2) ∧
    (∃ (s : State) (u : State), s.pr.fence = 3 ∧ s.fenceHives.all s.hiveRaised = true ∧ s.pr.fenceFor = 0 ∧
      u = ((s.pr' fun p => { p with confirmedSolo := true, fencedOff := false, fence := 4 }).phaseEnds).holdPeerHives) ∧
    (∃ (s : State) (u : State) (v : State) (x : State) (w : State), s.inMode .takeover = true ∧ s.pr.fence = 4 ∧ s.handoverComing = false ∧
      u = (s.shadowReplay.phaseEnds.orphanWalk 0xF6000000 s.shadowReplay.phaseEnds.wx.shJournal).takePages ∧
      v = (u.hv.hives.map (·.id)).foldl (fun t h => (t.joinRebuild h).takeReshape h) u ∧
      x = (v.recoverRows (otherSide v.pr.side)).sealShort (otherSide v.pr.side) ∧
      w = (x.wx' fun w => { w with shadow := w.shadow.map fun r => if r.body.isData && r.live && !r.torn && r.applied && r.ordinal ≤ x.shadowLast then { r with mine := true } else r })) ∧
    (∃ (s : State) (t : Nat), s.pr.joinSince = some t ∧ s.pr.joined = false ∧ s.ck.epochLost = false ∧
      t + s.setting 0x05000001 * second ≤ s.ck.now) ∧
    (∃ (s : State) (u : State) (m : WaggleMsg) (r : HeadReport), m.head = s.peerId ∧ s.pr.joined = false ∧ s.inMode .takeover = false ∧
      s.md.stopped = false ∧ u = ((s.pw' fun p => { p with waggleEnable := true }).takeEpoch m).peerReports r ∧ u.pr.tookOver = true) ∧
    (∃ (s : State) (u : State) (m : WaggleMsg) (r : HeadReport), m.head = s.peerId ∧ s.pr.joined = false ∧ s.inMode .takeover = false ∧
      s.md.stopped = false ∧ u = ((s.pw' fun p => { p with waggleEnable := true }).takeEpoch m).peerReports r ∧ u.pr.tookOver = false ∧
      (u.pr.handedOver = true ∨ r.tookOver = true)) :=
  ⟨⟨(hub.md' fun m => { m with mode := some .takeover }).pr' fun p => { p with fence := 1 },
    by decide +kernel⟩,
  ⟨hub, 0, _,
    some_of (by decide +kernel)⟩,
  ⟨(hub.md' fun m => { m with mode := some .takeover }).pr' fun p => { p with fence := 2, retryAt := some 0 }, _,
    some_of (by decide +kernel),
    by decide +kernel⟩,
  ⟨(hub.md' fun m => { m with mode := some .takeover }).pr' fun p => { p with fence := 3, won := [0, 1, 2, 3, 4, 5, 6, 7, 16] }, _,
    pre3 (by decide +kernel) (rfl)⟩,
  ⟨(hub.md' fun m => { m with mode := some .takeover }).pr' fun p => { p with fence := 4 }, _, _, _, _,
    pre3 (by decide +kernel) ⟨rfl,
    rfl,
    rfl,
    rfl⟩⟩,
  ⟨hub.pr' fun p => { p with joinSince := some 0 }, _,
    some_of (by decide +kernel),
    by decide +kernel⟩,
  ⟨hub.pr' fun p => { p with tookOver := true }, _, { (default : WaggleMsg) with head := 1 }, default,
    pre4 (by decide +kernel) ⟨rfl,
    by decide +kernel⟩⟩,
  ⟨hub.pr' fun p => { p with handedOver := true }, _, { (default : WaggleMsg) with head := 1 }, default,
    pre4 (by decide +kernel) ⟨rfl,
    by decide +kernel⟩⟩⟩

/-- The same of `TakeoverComplete`, further clauses. -/
theorem witness_TakeoverComplete_b :
    (∃ (s : State) (u : State) (v : State) (m : WaggleMsg) (r : HeadReport), m.head = s.peerId ∧ s.pr.joined = false ∧
      s.inMode .takeover = false ∧ s.md.stopped = false ∧
      u = ((s.pw' fun p => { p with waggleEnable := true }).takeEpoch m).peerReports r ∧ u.pr.tookOver = false ∧
      u.pr.handedOver = false ∧ r.tookOver = false ∧ v = ((u.reconcile m r).pr' fun p => { p with mirror := p.plUp.any id }).joinedNow m) ∧
    (∃ (s : State) (u : State) (c : Nat) (l : Nat), s.pr.rejoin = some (c, l) ∧ s.pr.declared = false ∧ s.pr.joined = true ∧
      (s.wx.own.all fun r => r.ordinal ≤ c || r.peerOk) = true ∧
      u = (((s.wx' fun w => { w with own := w.own.map fun r => { r with peerOk := true }, journal := w.journal.map fun e => { e with peerOk := true } }).pr' fun p => { p with rejoin := none, mirror := true, tookOver := false, base := none, shChain := [], shCut := 0, echoTick := 0, echoResult := 2 }).ev0 0xB08 .notice [1#8])) ∧
    (∃ (s : State) (r : Rebalance), s.pr.rebalance = some r ∧ r.giver = true ∧ r.phase = 1) ∧
    (∃ (s : State) (r : Rebalance), s.pr.rebalance = some r ∧ r.giver = true ∧ r.phase = 2 ∧
      r.holdAt + s.setting 0x05000004 * second ≤ s.ck.now) :=
  ⟨⟨hub, _, _, { (default : WaggleMsg) with head := 1 }, default,
    pre4 (by decide +kernel) ⟨rfl,
    pre3 (by decide +kernel) (rfl)⟩⟩,
  ⟨hub.pr' fun p => { p with joined := true, rejoin := some (0, 0) }, _, _, _,
    some2_of (by decide +kernel),
    pre3 (by decide +kernel) (rfl)⟩,
  ⟨hub.pr' fun p => { p with joined := true, rebalance := some { (default : Rebalance) with giver := true, phase := 1 } }, _,
    some_of (by decide +kernel),
    by decide +kernel⟩,
  ⟨hub.pr' fun p => { p with joined := true, rebalance := some { (default : Rebalance) with giver := true, phase := 2 } }, _,
    some_of (by decide +kernel),
    by decide +kernel⟩⟩

/-- What `PortsComplete` assumes can hold, clause by clause. -/
theorem witness_PortsComplete :
    (∃ (s : State) (i : Nat) (a : Nat) (p : FabricPair), s.pr.fabric[i]? = some p ∧ p.active = some a ∧ (p.port (1 - a)).eligible = true) ∧
    (∃ (s : State) (i : Nat) (a : Nat) (p : FabricPair), s.pr.fabric[i]? = some p ∧ p.active = some a ∧ (p.port (1 - a)).eligible = false) ∧
    (∃ (s : State) (i : Nat) (a : Nat) (p : FabricPair), s.pr.fabric[i]? = some p ∧ p.active = some a) ∧
    (∃ (s : State) (i : Nat) (p : FabricPair), s.pr.fabric[i]? = some p ∧ p.active = none) ∧
    (∃ (s : State) (n : Nat), s.pr.plUp[n]? = some true) ∧
    (∃ (s : State) (u : State) (n : Nat), s.pr.plUp[n]? = some false ∧
      u = (s.pr' fun p => { p with plUp := p.plUp.set n true }).judgeCables (cablesUp s.pr.plUp) ∧ u.pr.fencedOff = false) ∧
    (∃ (s : State) (u : State) (n : Nat), s.pr.plUp[n]? = some false ∧
      u = (s.pr' fun p => { p with plUp := p.plUp.set n true }).judgeCables (cablesUp s.pr.plUp) ∧ u.pr.fencedOff = true ∧
      u.pw.waggleEnable = false ∧ u.pr.yielding = false) :=
  ⟨⟨hub.pr' fun p => { p with fabric := p.fabric.map fun x => { x with odd := { x.odd with eligible := true } } }, 0, _, _,
    some_of (by decide +kernel),
    some_of (by decide +kernel),
    by decide +kernel⟩,
  ⟨hub, 3, _, _,
    some_of (by decide +kernel),
    some_of (by decide +kernel),
    by decide +kernel⟩,
  ⟨hub, 0, _, _,
    some_of (by decide +kernel),
    some_of (by decide +kernel)⟩,
  ⟨hub.pr' fun p => { p with fabric := p.fabric.map fun x => { x with active := none } }, 0, _,
    some_of (by decide +kernel),
    by decide +kernel⟩,
  ⟨hub.pr' fun p => { p with plUp := [true, true, true, true] }, 3,
    by decide +kernel⟩,
  ⟨hub.pr' fun p => { p with plUp := [false, false, false, false] }, _, 0,
    by decide +kernel,
    rfl,
    by decide +kernel⟩,
  ⟨(hub.pr' fun p => { p with plUp := [false, false, false, false], fencedOff := true }).pw' fun p => { p with waggleEnable := false }, _, 0,
    by decide +kernel,
    rfl,
    by decide +kernel⟩⟩

/-- What `TimeAndSleepComplete` assumes can hold: clause 1, 2, 4, 5, 6, 7, 8, 9, 10, 11, 12, 13, 14, 15, 16, 17. -/
theorem witness_TimeAndSleepComplete :
    (∃ (s : State) (src : Nat) (o : Int), s.ptpRuns = true) ∧
    (∃ (s : State) (src : Nat) (o : Int), s.ptpRuns = true ∧ s.ck.master = some src) ∧
    (∃ (s : State), s.isAligned = true ∧ s.ck.rtcDiscAt + second ≤ s.ck.now) ∧
    (∃ (s : State), s.md.entering = some .hold ∧ s.md.stopped = false ∧ s.quietHosts.votesDown.mayComplete = true) ∧
    (∃ (s : State), s.md.entering = some .hold ∧ s.md.stopped = false ∧ s.quietHosts.votesDown.mayComplete = false) ∧
    (∃ (s : State), s.md.entering = some .watch ∧ s.md.stopped = false ∧ s.quietHosts.votesDown.mayComplete = true) ∧
    (∃ (s : State), s.pw.sleep = some .hold ∧ s.pw.wakeCause ≠ 0) ∧
    (∃ (s : State), s.pw.sleep = some .watch ∧ s.pw.wakeCause ≠ 0 ∧ s.pw.imprint = 1) :=
  ⟨⟨hub, 5, 0,
    by decide +kernel⟩,
  ⟨hub.ck' fun c => { c with master := some 5 }, 5, 0,
    by decide +kernel⟩,
  ⟨hub.ck' fun c => { c with align := 0 },
    by decide +kernel⟩,
  ⟨hub.md' fun m => { m with entering := some .hold },
    by decide +kernel⟩,
  ⟨(hub.md' fun m => { m with entering := some .hold }).ev' fun v => { v with lane := [⟨0x022, .fatal, 0, 0, 1, [], 0⟩] },
    by decide +kernel⟩,
  ⟨hub.md' fun m => { m with entering := some .watch },
    by decide +kernel⟩,
  ⟨hub.pw' fun p => { p with sleep := some .hold, wakeCause := 1, imprint := 1 },
    by decide +kernel⟩,
  ⟨hub.pw' fun p => { p with sleep := some .watch, wakeCause := 1, imprint := 1 },
    by decide +kernel⟩⟩

/-- The same of `TimeAndSleepComplete`, further clauses. -/
theorem witness_TimeAndSleepComplete_b :
    (∃ (s : State) (u : State), s.pw.sleep = some .watch ∧ s.pw.wakeCause ≠ 0 ∧ s.pw.imprint = 1 ∧
      u = ((s.pw' fun p => { p with imprint := 2 }).dr' fun d => { d with trained := true })) ∧
    (∃ (s : State) (tj : Int) (h : Nat), s.pw.aonOk = true ∧ -720 ≤ tj ∧ tj ≤ 1920 ∧ s.pw.sleep ≠ some .watch) ∧
    (∃ (s : State) (us : Nat), 100 ≤ us ∧ s.pw.aonOk = true) ∧
    (∃ (s : State) (t : Nat), s.pw.wdArmed = some t ∧ s.pw.wdSuspended = false ∧ s.md.stopped = false) ∧
    (∃ (s : State) (t : Nat), s.pw.wdArmed = some t ∧ s.pw.wdSuspended = false ∧ t ≤ s.ck.now) ∧
    (∃ (s : State) (ns : Nat), s.pw.aonOk = true ∧ 1000 ≤ ns) ∧
    (∃ (s : State) (ns : Nat), ns < 500) ∧
    (∃ (s : State), s.pw.alarmStands = 0) :=
  ⟨⟨hub.pw' fun p => { p with sleep := some .watch, wakeCause := 1, imprint := 1 }, _,
    pre3 (by decide +kernel) (rfl)⟩,
  ⟨hub, 0, 0,
    by decide +kernel⟩,
  ⟨hub, 100,
    by decide +kernel⟩,
  ⟨hub.pw' fun p => { p with wdArmed := some 0 }, _,
    some_of (by decide +kernel),
    by decide +kernel⟩,
  ⟨hub.pw' fun p => { p with wdArmed := some 0 }, _,
    some_of (by decide +kernel),
    by decide +kernel⟩,
  ⟨hub, 1000,
    by decide +kernel⟩,
  ⟨hub, 499,
    by decide +kernel⟩,
  ⟨hub,
    by decide +kernel⟩⟩

/-- What `StartComplete` assumes can hold, clause by clause; the further ones follow. -/
theorem witness_StartComplete :
    (∃ (s : State) (p : List StepPlan), s.mayStart = true) ∧
    (∃ (s : State) (p : List StepPlan), s.mayStart = false) ∧
    (∃ (s : State) (u : State), s.bt.inService = true ∧ s.bt.service14At + 60 * second ≤ s.ck.now ∧ s.md.stopped = false ∧
      s.pw.sleep = none ∧ s.bt.skippedJoin = false ∧ s.bt.skippedColony = true ∧
      u = (s.colonyStep 3).bt' (fun b => { b with skippedColony := false, step := 0 })) ∧
    (∃ (s : State), s.pw.aonOk = true ∧ s.pw.xtalOk = true) ∧
    (∃ (s : State), s.pw.sleep ≠ some .watch ∧ s.pw.refOk = true) ∧
    (∃ (s : State) (us : Nat), s.pw.aonOk = true ∧ 10 < us) ∧
    (∃ (s : State) (us : Nat), s.pw.aonOk = true ∧ s.pw.sleep = none ∧ 10 < us) ∧
    (∃ (s : State) (r : Nat) (mv : Nat) (us : Nat), s.pw.aonOk = true ∧ s.pw.sleep = none ∧ nominalMv.getD r 0 ≠ 0 ∧
      nominalMv.getD r 0 * 115 < mv * 100) :=
  ⟨⟨hub, [],
    by decide +kernel⟩,
  ⟨hub.pw' fun p => { p with startDue := false }, [],
    by decide +kernel⟩,
  ⟨hub.bt' fun b => { b with skippedColony := true }, _,
    pre6 (by decide +kernel) (rfl)⟩,
  ⟨hub,
    by decide +kernel⟩,
  ⟨hub,
    by decide +kernel⟩,
  ⟨hub, 11,
    by decide +kernel⟩,
  ⟨hub, 11,
    by decide +kernel⟩,
  ⟨hub, 1, 863, 0,
    by decide +kernel⟩⟩

/-- The same of `StartComplete`, further clauses. -/
theorem witness_StartComplete_b :
    (∃ (s : State) (c : BitVec 4), c ≠ 0 ∧ s.pw.aonOk = true) ∧
    (∃ (s : State), s.pw.alarmStands ≠ 0 ∧ s.pw.alarmClearSince = none) ∧
    (∃ (s : State) (t : Nat), s.pw.alarmStands ≠ 0 ∧ s.pw.alarmClearSince = some t ∧ t + second ≤ s.ck.now) ∧
    (∃ (s : State) (f : Bytes) (r : Bytes), s.md.stopped = false ∧ s.md.halted = false ∧ s.md.recovery = false ∧ s.pw.sleep = none ∧
      tcpFrame f = false ∧ rdBe (slice f 12 2) = 0x0806 ∧ arpReply f = some r) ∧
    (∃ (s : State) (f : Bytes), s.md.stopped = false ∧ s.md.halted = false ∧ s.md.recovery = false ∧ s.pw.sleep = none ∧ tcpFrame f = false ∧
      rdBe (slice f 12 2) = 0x0806 ∧ arpReply f = none) :=
  ⟨⟨hub, 1,
    by decide +kernel⟩,
  ⟨hub.pw' fun p => { p with alarmStands := 1 },
    by decide +kernel⟩,
  ⟨hub.pw' fun p => { p with alarmStands := 1, alarmClearSince := some 0 }, _,
    by decide +kernel,
    some_of (by decide +kernel),
    by decide +kernel⟩,
  ⟨hub, arp, _,
    pre6 (by decide +kernel) (some_of arp_answered)⟩,
  ⟨hub, zeros 12 ++ [8, 6] ++ zeros 30,
    by decide +kernel⟩⟩

/-- What `StepServesFront` assumes can hold, clause by clause. -/
theorem witness_StepServesFront :
    (∃ (s : State) (c : Instr) (rest : List Instr), s.pending = c :: rest) ∧
    (∃ (s : State), s.pending = []) :=
  ⟨⟨{ hub with pending := [.commitTick, .dramScrub] }, _, _,
    cons_of (by decide +kernel)⟩,
  ⟨hub,
    by decide +kernel⟩⟩

/-- What `PacketsRoundTrip` assumes can hold: clause 1, 2, 3, 5. -/
theorem witness_PacketsRoundTrip :
    (∃ (op : Nat) (q : VReq), op < 65536 ∧ requestOk q = true ∧ (requestPacket op q).length ≤ 1048576) ∧
    (∃ (s : State) (op : Nat) (q : VReq), op < 65536 ∧ requestOk q = true ∧ (requestPacket op q).length ≤ 1048576 ∧ q.via.trailer = 0) ∧
    (∃ (s : State) (op : Nat) (q : VReq) (conn : Nat), op < 65536 ∧ requestOk q = true ∧ (requestPacket op q).length + 8 ≤ 1048576 ∧
      q.via = .mg conn ∧ s.mgKey.length = 32) ∧
    (∃ (s : State) (op : Nat) (q : VReq), (∀ r ∈ requestRows, r.1 ≠ op)) :=
  ⟨⟨0x0301, ask [(1, le 2 9), (2, [0])],
    by decide +kernel⟩,
  ⟨hub, 0x0301, ask [(1, le 2 9), (2, [0])],
    by decide +kernel⟩,
  ⟨proving, 0x0301, { ask [(1, le 2 9)] with via := .mg 2, session := 6, tag := 12 }, 2,
    by decide +kernel⟩,
  ⟨hub, 0x9999, ask [],
    by decide +kernel⟩⟩

/-- What `DramAndMapCacheAgree` assumes can hold, clause by clause. -/
theorem witness_DramAndMapCacheAgree :
    (∃ (s : State) (t : State), MemInv s ∧ step s = .next t) ∧
    (∃ (s : State) (t : State), CacheOk s ∧ step s = .next t) :=
  ⟨⟨{ hub with pending := [.zeroLine 4096] }, _,
    by unfold MemInv; decide +kernel,
    next_of (by decide +kernel)⟩,
  ⟨{ hub with mc := { hub.mc with lines := [(16, 0, 0, zeros 256)] }, pending := [.mapCacheAccess true 4100 [7]] }, _,
    by unfold CacheOk; decide +kernel,
    next_of (by decide +kernel)⟩⟩

/-- What `SessionsStayWithinLimits` assumes can hold, clause by clause. -/
theorem witness_SessionsStayWithinLimits :
    ∃ (s : State) (t : State), SessionsOk s ∧ step s = .next t :=
  ⟨{ hub with pending := [.sessionOpen (ask [(1, [1])])] }, _,
    by unfold SessionsOk; decide +kernel,
    next_of (by decide +kernel)⟩

/-- What `RecordsStayInForm` assumes can hold, clause by clause. -/
theorem witness_RecordsStayInForm :
    (∃ (s : State) (t : State), RecorderOk s ∧ step s = .next t) ∧
    (∃ (s : State) (t : State), LedgerOk s ∧ step s = .next t) ∧
    (∃ (s : State) (t : State), CountersOk s ∧ step s = .next t) :=
  ⟨⟨{ hub with ev := { hub.ev with lane := [⟨0x022, .fatal, 0, 0, 1, [], 0⟩] }, pending := [.eventWrite] }, _,
    by unfold RecorderOk; decide +kernel,
    next_of (by decide +kernel)⟩,
  ⟨{ hub with bt := { hub.bt with ledger := [{ (default : LedgerRec) with seq := 4 }], ledgerSeq := 5 }, pending := [.commitTick] }, _,
    by unfold LedgerOk; decide +kernel,
    next_of (by decide +kernel)⟩,
  ⟨{ hub with ct := ⟨[⟨0x0301, 1, 0, 7, false, true⟩] ⟩, pending := [.commitTick] }, _,
    by unfold CountersOk; decide +kernel,
    next_of (by decide +kernel)⟩⟩

/-- What `RegistersKeepReservedBits` assumes can hold, clause by clause. -/
theorem witness_RegistersKeepReservedBits :
    ∃ (s : State) (t : State), RegsOk s ∧ step s = .next t :=
  ⟨{ hub with pending := [.entdaa 9] }, _,
    by unfold RegsOk; decide +kernel,
    next_of (by decide +kernel)⟩

/-- What `FenceEpochsMoveOnlyByFenceTasks` assumes can hold, clause by clause. -/
theorem witness_FenceEpochsMoveOnlyByFenceTasks :
    ∃ (c : Instr) (s : State) (t : State), exec c s = .next t :=
  ⟨.commitTick, hub, _,
    next_of (by decide +kernel)⟩

/-- What `IdentityStaysAndNumbersRise` assumes can hold, clause by clause. -/
theorem witness_IdentityStaysAndNumbersRise :
    ∃ (c : Instr) (s : State) (t : State), exec c s = .next t :=
  ⟨.commitTick, hub, _,
    next_of (by decide +kernel)⟩

/-- What `EveryCommandCompletes` assumes can hold: clause 13, 14. -/
theorem witness_EveryCommandCompletes :
    (∃ (s : State) (b : Bool) (a : Nat) (d : Bytes), a < s.dramBytes) ∧
    (∃ (s : State) (b : Bool) (a : Nat) (d : Bytes), s.dramBytes ≤ a) :=
  ⟨⟨hub, false, 0, [],
    by decide +kernel⟩,
  ⟨hub, false, 2 ^ 50, [],
    by decide +kernel⟩⟩

/-- What `RequestFrames` assumes can hold, clause by clause. -/
theorem witness_RequestFrames :
    (∃ r ∈ requestRows, ∃ (s t : State) (q : VReq), ¬ Passes s r.1 q ∧ exec (r.2 q) s = .next t) ∧
    (∃ (s t : State) (q : VReq), ∃ c ∈ [Instr.sessionList q, .cfgRead q, .modeGet q], exec c s = .next t) ∧
    (∃ (s : State) (t : State) (q : VReq), exec (.cfgStatus q) s = .next t) :=
  ⟨⟨(0x0103, .sessionClose), by simp [requestRows], hub, _, { ask [] with session := 9 },
    fun h => absurd h.2.1 (by decide +kernel),
    next_of (by decide +kernel)⟩,
  ⟨hub, _, ask [], .modeGet (ask []), by simp, next_of (by decide +kernel)⟩,
  ⟨hub, _, { ask [] with frame := 5 },
    next_of (by decide +kernel)⟩⟩

/-- What `MemoryFrame` assumes can hold, clause by clause. -/
theorem witness_MemoryFrame :
    (∃ (c : Instr) (s : State) (t : State), ¬ storesBytes c ∧ exec c s = .next t) ∧
    (∃ (s : State) (t : State) (a : Nat) (d : Bytes) (x : Nat), MemInv s ∧ exec (.mapCacheAccess true a d) s = .next t ∧
      (x < a ∨ a + d.length ≤ x)) ∧
    (∃ (s : State) (t : State) (a : Nat) (d : Bytes) (x : Nat), MemInv s ∧ s.inWindow a = true ∧
      exec (.mapCacheAccess true a d) s = .next t ∧ (x < s.lineStart a ∨ s.lineStart a + 256 ≤ x)) ∧
    (∃ (s : State) (t : State) (a : Nat) (d : Bytes), exec (.mapCacheAccess false a d) s = .next t) :=
  ⟨⟨.commitTick, hub, _,
    by simp [storesBytes],
    next_of (by decide +kernel)⟩,
  ⟨hub, _, 4096, [7], 4097,
    by unfold MemInv; decide +kernel,
    next_of (by decide +kernel),
    by decide +kernel⟩,
  ⟨hub, _, 4096, [7], 4352,
    by unfold MemInv; decide +kernel,
    by decide +kernel,
    next_of (by decide +kernel),
    by decide +kernel⟩,
  ⟨hub, _, 4096, [],
    next_of (by decide +kernel)⟩⟩

/-- What `RegisterFrames` assumes can hold, clause by clause. -/
theorem witness_RegisterFrames :
    (∃ (s t : State) (off : Nat) (w : BitVec 32), ∃ c ∈ [Instr.cmpGoCompare, .cmpGoSelfTest, .digestRegisterWrite off w], exec c s = .next t) ∧
    (∃ (s : State) (t : State) (f : Bool), exec (.compareDone f) s = .next t) ∧
    (∃ s t : State, s.se.cmpBusy = 3 ∧ exec .cmpResult s = .next t) ∧
    (∃ (s t : State) (addr : Nat), ∃ c ∈ [Instr.sbRtcLo, .entdaa addr, .rstdaa], exec c s = .next t) ∧
    (∃ s t : State, exec .getstatus s = .next t) ∧
    (∃ (s : State) (t : State) (w : BitVec 32), exec (.sbWake w) s = .next t) :=
  ⟨⟨hub, _, 0x44, 5, .digestRegisterWrite 0x44 5, by simp, next_of (by decide +kernel)⟩,
  ⟨hub.se' fun v => { v with cmpBusy := 1 }, _, false,
    next_of (by decide +kernel)⟩,
  ⟨hub.se' fun v => { v with cmpBusy := 3, cmpResult := 0xC33C }, _, by decide +kernel, next_of (by decide +kernel)⟩,
  ⟨hub, _, 9, .entdaa 9, by simp, next_of (by decide +kernel)⟩,
  ⟨hub, _, next_of (by decide +kernel)⟩,
  ⟨hub, _, 1,
    next_of (by decide +kernel)⟩⟩

/-- What `SessionRequestsInOrder` assumes can hold: clause 1, 2, 3. -/
theorem witness_SessionRequestsInOrder :
    (∃ (s : State) (c : Instr) (rest : List Instr), s.pending = c :: rest) ∧
    (∃ (s : State) (t : State) (c : Instr) (rest : List Instr), s.pending = c :: rest ∧ step s = .next t) ∧
    (∃ (s : State) (op : Nat) (q : VReq) (x : Session) (body : State → State), op ≠ 0x0101 ∧ s.deaf q.via = false ∧
      s.sessionOf q.via q.session = some x ∧ q.tag ≠ 0 ∧ q.tag ≠ 0xFFFFFFFF ∧
      (q.via.holds = true ∨ ∀ h, x.highTag = some h → serialAbove q.tag h = true)) :=
  ⟨⟨{ hub with pending := [.commitTick, .dramScrub] }, _, _,
    cons_of (by decide +kernel)⟩,
  ⟨{ hub with pending := [.commitTick, .dramScrub] }, _, _, _,
    cons_of (by decide +kernel),
    next_of (by decide +kernel)⟩,
  ⟨hub, 0x0103, ask [], _, id,
    by decide +kernel,
    by decide +kernel,
    some_of (by decide +kernel),
    by decide +kernel⟩⟩

/-- What `RecoveryServesItsOpcodes` assumes can hold, clause by clause. -/
theorem witness_RecoveryServesItsOpcodes :
    (∃ (s : State) (op : Nat) (q : VReq) (body : State → State), s.md.recovery = true ∧ q.via ≠ .sb) ∧
    (∃ (s : State) (via : Transport) (bs : Bytes), s.md.recovery = true ∧ via ≠ .sb) ∧
    (∃ (s : State) (op : Nat) (q : VReq) (body : State → State), s.md.recovery = true ∧ q.via = .sb ∧ s.deaf .sb = false ∧
      s.checkSession op q = none) :=
  ⟨⟨hub.md' fun m => { m with recovery := true }, 0x0103, { ask [] with via := .mg 2, session := 6, tag := 12 }, id,
    by decide +kernel⟩,
  ⟨hub.md' fun m => { m with recovery := true }, .mg 2, [],
    by decide +kernel⟩,
  ⟨hub.md' fun m => { m with recovery := true }, 0x0103, ask [], id,
    by decide +kernel⟩⟩

/-- What `ThreeFailuresCloseSession` assumes can hold, clause by clause. -/
theorem witness_ThreeFailuresCloseSession :
    (∃ (s : State) (q : VReq) (u : State), SessionsOk s ∧ Runs s 0x0101 q u ∧ u.sessionSlot q.via = true) ∧
    (∃ (s : State) (q : VReq) (u : State) (x : Session), SessionsOk s ∧ Runs s 0x0102 q u ∧ s.sessionOf q.via q.session = some x ∧
      u.proofOk x ((q.param 1).getD []) = false ∧ x.fails < 2) ∧
    (∃ (s : State) (q : VReq) (u : State) (x : Session), SessionsOk s ∧ Runs s 0x0102 q u ∧ s.sessionOf q.via q.session = some x ∧
      u.proofOk x ((q.param 1).getD []) = false ∧ x.fails = 2) :=
  ⟨⟨hub, ask [(1, [1])], _,
    by unfold SessionsOk; decide +kernel,
    runs_of (by decide +kernel),
    by decide +kernel⟩,
  ⟨hub.session' 7 fun x => { x with fails := 1 }, ask [(1, zeros 16)], _, _,
    by unfold SessionsOk; decide +kernel,
    runs_of (by decide +kernel),
    some_of (by decide +kernel),
    by decide +kernel⟩,
  ⟨hub.session' 7 fun x => { x with fails := 2 }, ask [(1, zeros 16)], _, _,
    by unfold SessionsOk; decide +kernel,
    runs_of (by decide +kernel),
    some_of (by decide +kernel),
    by decide +kernel⟩⟩

/-- What `ZeroLineAllocatesAndWrites` assumes can hold, clause by clause. -/
theorem witness_ZeroLineAllocatesAndWrites :
    ∃ (s : State) (a : Nat), MemInv s ∧ a < s.dramBytes ∧ s.inWindow a = true :=
  ⟨hub, 12287,
    by unfold MemInv; decide +kernel,
    by decide +kernel⟩

/-- What `ResetAndWakePulses` assumes can hold, clause by clause. -/
theorem witness_ResetAndWakePulses :
    (∃ (s : State) (ns : Nat), s.pw.aonOk = true ∧ 1000 ≤ ns) ∧
    (∃ (s : State) (ns : Nat), ns < 500) ∧
    (∃ (s : State) (ns : Nat), s.pw.aonOk = true ∧ 500 ≤ ns ∧ ns < 1000) ∧
    (∃ (s : State) (us : Nat), us < 100) ∧
    (∃ (s : State) (us : Nat), s.pw.aonOk = true ∧ 100 ≤ us ∧ (s.pw.sleep.isSome = true ∨ s.md.entering.isSome = true)) :=
  ⟨⟨hub, 1000,
    by decide +kernel⟩,
  ⟨hub, 499,
    by decide +kernel⟩,
  ⟨hub, 500,
    by decide +kernel⟩,
  ⟨hub, 99,
    by decide +kernel⟩,
  ⟨hub.pw' fun p => { p with sleep := some .hold }, 100,
    by decide +kernel⟩⟩

/-- What `IntakeHoldsAndServesInOrder` assumes can hold, clause by clause. -/
theorem witness_IntakeHoldsAndServesInOrder :
    (∃ (s : State) (t : State), RecorderOk s ∧ step s = .next t) ∧
    (∃ (s : State) (r : Report0), sevN r.sev < 6 ∧ s.ev.fifo.length < 1024) ∧
    (∃ (s : State) (r : Report0), 6 ≤ sevN r.sev ∧ isSummary r.code = false ∧ s.ev.lane.length < 64) ∧
    (∃ (s : State) (r : Report0) (rest : List Report0), s.ev.lane = r :: rest) ∧
    (∃ (s : State) (r : Report0) (rest : List Report0), s.ev.lane = [] ∧ s.ev.fifo = r :: rest) :=
  ⟨⟨{ hub with ev := { hub.ev with lane := [⟨0x022, .fatal, 0, 0, 1, [], 0⟩] }, pending := [.eventWrite] }, _,
    by unfold RecorderOk; decide +kernel,
    next_of (by decide +kernel)⟩,
  ⟨hub, ⟨0x022, .severe, 0, 0, 1, [], 0⟩,
    by decide +kernel⟩,
  ⟨hub, ⟨0x022, .critical, 0, 0, 1, [], 0⟩,
    by decide +kernel⟩,
  ⟨hub.ev' fun v => { v with lane := [⟨0x022, .fatal, 0, 0, 1, [], 0⟩] }, _, _,
    cons_of (by decide +kernel)⟩,
  ⟨hub.ev' fun v => { v with fifo := [⟨0x022, .warn, 0, 0, 1, [], 0⟩] }, _, _,
    by decide +kernel,
    cons_of (by decide +kernel)⟩⟩

/-- What `SaturationRaisedOnce` assumes can hold, clause by clause. -/
theorem witness_SaturationRaisedOnce :
    (∃ (s : State) (cls : Nat) (idx : Nat) (pos : Nat) (n : Nat), ctrFault cls = true ∧ (ctrGet s.ct.vals cls idx pos).sat = false ∧
      (ctrGet s.ct.vals cls idx pos).armed = true ∧ 0xFFFFFFFF < (ctrGet s.ct.vals cls idx pos).val + n) ∧
    (∃ (s : State) (cls : Nat) (idx : Nat) (pos : Nat) (n : Nat), ((ctrGet s.ct.vals cls idx pos).armed = false ∨ (ctrGet s.ct.vals cls idx pos).sat = true ∨ (ctrGet s.ct.vals cls idx pos).val + n ≤ 0xFFFFFFFF) ∧
      ctrFault cls = true) ∧
    (∃ (s : State) (q : VReq) (u : State) (idx : Nat) (pos : Nat), Runs s 0x0904 q u ∧ (u.ctrBlocks (q.num 1 0) (q.num 2 0)).isSome = true ∧
      (ownerClears (q.num 1 0) = true → (u.sessionOf q.via q.session).any (·.priv == .owner) = true) ∧
      (q.num 2 0 = idx ∨ q.num 2 0 = 0xFFFFFFFF)) :=
  ⟨⟨hub, 0x0407, 0, 0, 2 ^ 32,
    by decide +kernel⟩,
  ⟨hub, 0x0407, 0, 0, 2 ^ 32 - 1,
    by decide +kernel⟩,
  ⟨hub, ask [(1, le 2 0x0407), (2, le 4 1)], _, 1, 0,
    runs_of (by decide +kernel),
    by decide +kernel⟩⟩

/-- What `MgTagsRise` assumes can hold, clause by clause. -/
theorem witness_MgTagsRise :
    (∃ (s : State) (op : Nat) (q : VReq) (x : Session) (h : Nat) (body : State → State), op ≠ 0x0101 ∧ s.deaf q.via = false ∧
      q.via.holds = false ∧ s.sessionOf q.via q.session = some x ∧ q.tag ≠ 0 ∧ q.tag ≠ 0xFFFFFFFF ∧ x.highTag = some h ∧
      serialAbove q.tag h = false) ∧
    (∃ (s : State) (op : Nat) (q : VReq) (x : Session) (st : VStatus) (body : State → State), SessionsOk s ∧ op ≠ 0x0101 ∧
      s.deaf q.via = false ∧ q.via.holds = false ∧ s.sessionOf q.via q.session = some x ∧ s.checkSession op q = none ∧
      (s.takeIn op q).checkOp op q = some st) ∧
    (∃ (s : State) (conn : Nat) (bs : Bytes) (st : VStatus), headerFault bs = none ∧ s.parseRequest (.mg conn) bs = .error st) ∧
    (∃ (a : Nat) (b : Nat), a < 2 ^ 32 ∧ b < 2 ^ 32) :=
  ⟨⟨hub, 0x0103, { ask [] with via := .mg 2, session := 6, tag := 9 }, _, 9, id,
    pre3 (by decide +kernel) ⟨some_of (by decide +kernel),
    by decide +kernel⟩⟩,
  ⟨hub, 0x9999, { ask [] with via := .mg 2, session := 6, tag := 10 }, _, _, id,
    by unfold SessionsOk; decide +kernel,
    pre3 (by decide +kernel) ⟨some_of (by decide +kernel),
    by decide +kernel,
    some_of (by decide +kernel)⟩⟩,
  ⟨proving, 2, requestPacket 0x0103 (ask []), _,
    by decide +kernel,
    error_of (by decide +kernel)⟩,
  ⟨0, 2 ^ 31,
    by decide +kernel⟩⟩

/-- What `FencedTasksDoNothing` assumes can hold, clause by clause. -/
theorem witness_FencedTasksDoNothing :
    (∃ (s : State) (n : Nat) (p : Side) (f : LFrame) (b : Bridge), AtBridge s n p f b ∧ f.type = 1 ∧ f.epoch.toNat < b.epoch ∧
      (b.port p).waiting = [] ∧ (b.port p).unacked.length < 255 ∧ f.op = TaskOp.read.num) ∧
    (∃ (s t : State) (n : Nat) (p : Side) (f : LFrame), ∃ c ∈ [Instr.fenceRaise n p f, .fenceAdopt n p f], exec c s = .next t) ∧
    (∃ (s : State) (n : Nat) (d : Nat) (good : Bool) (b : Bridge) (x : Die) (e : DieExec), s.bridge? n = some b ∧ b.powered = true ∧
      b.die? d = some x ∧ x.exec = some e) :=
  ⟨⟨hub.bridge' 0 fun b => { b with epoch := 5 }, 0, .a, frame 1 fun f => { f with op := 1, arg := 1 }, _, ⟨some_of (by decide +kernel), by decide +kernel⟩, by decide +kernel⟩,
  ⟨hub, _, 0, .a, frame 1 fun f => { f with op := 0x81, arg := 3 }, .fenceAdopt 0 .a (frame 1 fun f => { f with op := 0x81, arg := 3 }), by simp, next_of (by decide +kernel)⟩,
  ⟨hub.bridge' 0 fun b => { b with dies := [{ resetDie 0 with exec := some { (default : DieExec) with hdr := hdr .erase } }] }, 0, 0, true, _, _, _,
    some_of (by decide +kernel),
    by decide +kernel,
    some_of (by decide +kernel),
    some_of (by decide +kernel)⟩⟩

/-- What `FenceAdoptOnlyUnfenced` assumes can hold, clause by clause. -/
theorem witness_FenceAdoptOnlyUnfenced :
    ∃ (s : State) (n : Nat) (p : Side) (f : LFrame) (b : Bridge), AtBridge s n p f b ∧ f.type = 1 ∧ f.op = 0x81 ∧ (b.port p).waiting = [] ∧
      (b.port p).unacked.length < 256 ∧ b.failed = false ∧ b.storeFault = false :=
  ⟨hub, 0, .a, frame 1 fun f => { f with op := 0x81, arg := 3 }, _,
    ⟨some_of (by decide +kernel), by decide +kernel⟩,
    by decide +kernel⟩

end Sys2Proof.Tests
end

/-! PROOFS. Tasks and fences at a comb's bridge (08): a refused die task, the fence tasks, and the end of what a die executes. -/

namespace Sys2Proof.Machine

/-! ## Lists and the first element that is changed -/

/-- Two lists that agree element by element answer a search for a common key alike. -/
theorem find?_rel_of_forall₂ {α : Type} {R : α → α → Prop} {p : α → Bool} (hp : ∀ a b, R a b → p b = p a) {l m : List α}
    (h : List.Forall₂ R l m) : Option.Rel R (l.find? p) (m.find? p) := by
  induction h with
  | nil => exact .none
  | @cons a b l m hab _ ih =>
    rw [List.find?_cons, List.find?_cons, hp a b hab]
    cases p a
    · exact ih
    · exact .some hab

/-- Changing the first match by a step of `R` relates each element to the one in its place. -/
theorem forall₂_updFirst {α : Type} {R : α → α → Prop} (hr : ∀ a, R a a) {p : α → Bool} {f : α → α} (hf : ∀ a, R a (f a)) :
    ∀ l : List α, List.Forall₂ R l (updFirst p f l)
  | [] => .nil
  | a :: l => by
    unfold updFirst
    split
    · exact .cons (hf a) (List.forall₂_same.2 fun x _ => hr x)
    · exact .cons (hr a) (forall₂_updFirst hr hf l)

theorem find?_updFirst {α : Type} {p : α → Bool} {f : α → α} (hf : ∀ a, p (f a) = p a) (l : List α) :
    (updFirst p f l).find? p = (l.find? p).map f := by
  induction l with
  | nil => rfl
  | cons a l ih => cases h : p a <;> simp [updFirst, h, hf, ih]

theorem forall₂_trans {α : Type} {R : α → α → Prop} (hr : ∀ a b c, R a b → R b c → R a c) :
    ∀ {k l m : List α}, List.Forall₂ R k l → List.Forall₂ R l m → List.Forall₂ R k m
  | _, _, _, .nil, .nil => .nil
  | _, _, _, .cons hab hkl, .cons hbc hlm => .cons (hr _ _ _ hab hbc) (forall₂_trans hr hkl hlm)

/-! ## A bridge and its ports -/

@[simp] theorem Bridge.port'_link (b : Bridge) (p : Side) (f : BridgePort → BridgePort) : (b.port' p f).link = b.link := by
  cases p <;> rfl
@[simp] theorem Bridge.port'_epoch (b : Bridge) (p : Side) (f : BridgePort → BridgePort) : (b.port' p f).epoch = b.epoch := by
  cases p <;> rfl
@[simp] theorem Bridge.port'_owner (b : Bridge) (p : Side) (f : BridgePort → BridgePort) : (b.port' p f).owner = b.owner := by
  cases p <;> rfl
@[simp] theorem Bridge.port'_dies (b : Bridge) (p : Side) (f : BridgePort → BridgePort) : (b.port' p f).dies = b.dies := by
  cases p <;> rfl
@[simp] theorem Bridge.port'_pages (b : Bridge) (p : Side) (f : BridgePort → BridgePort) : (b.port' p f).pages = b.pages := by
  cases p <;> rfl
@[simp] theorem Bridge.port_port' (b : Bridge) (p : Side) (f : BridgePort → BridgePort) : (b.port' p f).port p = f (b.port p) := by
  cases p <;> rfl
@[simp] theorem Bridge.port'_die? (b : Bridge) (p : Side) (f : BridgePort → BridgePort) (i : Nat) :
    (b.port' p f).die? i = b.die? i := by cases p <;> rfl
@[simp] theorem Bridge.port_withDies (b : Bridge) (p : Side) (ds : List Die) : ({ b with dies := ds } : Bridge).port p = b.port p := by
  cases p <;> rfl

theorem State.bridge?_bridge' {s : State} {n : Nat} {b : Bridge} {f : Bridge → Bridge} (hf : ∀ x, (f x).link = x.link)
    (hb : s.bridge? n = some b) : (s.bridge' n f).bridge? n = some (f b) := by
  have hfind := find?_updFirst (p := (·.link == n)) (f := f) (fun x => by simp [hf]) s.cl.bridges
  unfold State.bridge? at hb
  simp [State.bridge?, State.bridge', hfind, hb]

theorem State.bridge?_port' {s : State} {n : Nat} {b : Bridge} (hb : s.bridge? n = some b) (p : Side) (f : BridgePort → BridgePort) :
    (s.bridge' n fun x => x.port' p f).bridge? n = some (b.port' p f) :=
  State.bridge?_bridge' (fun x => x.port'_link p f) hb

theorem State.bridge?_die' {s : State} {n : Nat} {b : Bridge} (hb : s.bridge? n = some b) (i : Nat) (f : Die → Die) :
    (s.die' n i f).bridge? n = some { b with dies := updFirst (·.index == i) f b.dies } :=
  State.bridge?_bridge' (fun _ => rfl) hb

@[simp] theorem State.lane_bridge? (s : State) (n m : Nat) (up : Bool) (p : Side) (f : LFrame) :
    (s.lane n up p f).bridge? m = s.bridge? m := rfl

/-! ## What a bridge sends -/

/-- A port is up, no frame waits for its window, and fewer than `k` frames are unacknowledged (R311). -/
structure BridgePort.Room (q : BridgePort) (k : Nat) : Prop where
  up : q.up = true
  waiting : q.waiting = []
  unacked : q.unacked.length < k

/-- A frame as a bridge sends it: numbered by its port, with the comb's fence epoch and owner (R309, R311). -/
def Bridge.stamp (b : Bridge) (p : Side) (f : LFrame) : LFrame :=
  { f with seq := (b.port p).txSeq, epoch := BitVec.ofNat 32 b.epoch, owner := b.owner }

/-- A port after it has sent a sequenced frame (R311). -/
def BridgePort.sent (q : BridgePort) (f : LFrame) : BridgePort := { q with txSeq := q.txSeq + 1, unacked := q.unacked ++ [f] }

theorem BridgePort.Room.sent {q : BridgePort} {k : Nat} (h : q.Room k) (f : LFrame) : (q.sent f).Room (k + 1) :=
  ⟨h.up, h.waiting, by simpa [BridgePort.sent] using h.unacked⟩

/-- A port after it has discarded frames of program data (R326). -/
def BridgePort.discards (q : BridgePort) (k : Nat) : BridgePort := { q with discardedData := q.discardedData + k }

theorem BridgePort.Room.discards {q : BridgePort} {k : Nat} (h : q.Room k) (m : Nat) : (q.discards m).Room k :=
  ⟨h.up, h.waiting, h.unacked⟩

theorem BridgePort.Room.mono {q : BridgePort} {j k : Nat} (h : q.Room j) (hjk : j ≤ k) : q.Room k :=
  ⟨h.up, h.waiting, h.unacked.trans_le hjk⟩

theorem State.toHead_of_room {s : State} {n : Nat} {p : Side} {b : Bridge} (hb : s.bridge? n = some b) (hr : (b.port p).Room 256)
    (f : LFrame) : s.toHead n p f = (s.bridge' n fun x => x.port' p (·.sent (b.stamp p f))).lane n true p (b.stamp p f) := by
  have hopen : (b.port p).open = true := by simp [BridgePort.open, hr.waiting, hr.unacked]
  unfold State.toHead
  simp only [hb, hr.up, hopen]
  rfl

/-- A frame that finds room at its port leaves the bridge as it was but for that port. -/
theorem State.bridge?_toHead_of_room {s : State} {n : Nat} {p : Side} {b : Bridge} (hb : s.bridge? n = some b)
    (hr : (b.port p).Room 256) (f : LFrame) :
    (s.toHead n p f).bridge? n = some (b.port' p (·.sent (b.stamp p f))) := by
  rw [State.toHead_of_room hb hr, State.lane_bridge?, State.bridge?_port' hb]

theorem State.toHead_out_of_room {s : State} {n : Nat} {p : Side} {b : Bridge} (hb : s.bridge? n = some b)
    (hr : (b.port p).Room 256) (f : LFrame) :
    (s.toHead n p f).out.getLast? = some (.link n true p (b.stamp p f).sealed) := by
  rw [State.toHead_of_room hb hr]
  exact List.getLast?_concat

/-! ## A frame in sequence -/

/-- A port after it has accepted a frame (R312). -/
def BridgePort.took (q : BridgePort) : BridgePort := { q with rxSeq := q.rxSeq + 1, nakSent := false }

@[simp] theorem State.bridge?_bridgeAck (s : State) (n m : Nat) (p : Side) : (s.bridgeAck n p).bridge? m = s.bridge? m := by
  unfold State.bridgeAck
  split <;> rfl

theorem State.bridge?_bridgeTook {s : State} {n : Nat} {b : Bridge} (hb : s.bridge? n = some b) (p : Side) :
    (s.bridgeTook n p).bridge? n = some (b.port' p BridgePort.took) :=
  (State.bridge?_bridgeAck _ n n p).trans (State.bridge?_port' hb p BridgePort.took)

theorem State.bridgeFrame_of_atBridge {s : State} {n : Nat} {p : Side} {f : LFrame} {b : Bridge} (h : AtBridge s n p f b)
    (act : State → State) : s.bridgeFrame n p f act = act (s.bridgeTook n p) := by
  obtain ⟨hb, hpow, hup, hsound, hack, hseq⟩ := h
  simp [State.bridgeFrame, State.bridgeHears, hb, hpow, hup, hsound, hack, hseq]

/-! ## What a refused task leaves alone -/

/-- A die keeps its suspended erase, and executes what it executed or nothing. -/
structure Die.Spared (x y : Die) : Prop where
  index : y.index = x.index
  exec : y.exec = x.exec ∨ y.exec = none
  susp : y.susp = x.susp

theorem Die.Spared.refl (x : Die) : x.Spared x := ⟨rfl, .inl rfl, rfl⟩

/-- A bridge keeps its pages, its fence and its dies' erases, and no die begins a task. -/
structure Bridge.Spared (b d : Bridge) : Prop where
  pages : d.pages = b.pages
  epoch : d.epoch = b.epoch
  owner : d.owner = b.owner
  dies : List.Forall₂ Die.Spared b.dies d.dies

theorem Bridge.Spared.refl (b : Bridge) : b.Spared b :=
  ⟨rfl, rfl, rfl, List.forall₂_same.2 fun x _ => .refl x⟩

theorem Bridge.Spared.port' {b d : Bridge} (h : b.Spared d) (p : Side) (f : BridgePort → BridgePort) : b.Spared (d.port' p f) :=
  ⟨by simp [h.pages], by simp [h.epoch], by simp [h.owner], by simpa using h.dies⟩

theorem Bridge.Spared.of_port' {b d : Bridge} {p : Side} {f : BridgePort → BridgePort} (h : (b.port' p f).Spared d) : b.Spared d :=
  ⟨by simpa using h.pages, by simpa using h.epoch, by simpa using h.owner, by simpa using h.dies⟩

theorem Bridge.Spared.die? {b d : Bridge} (h : b.Spared d) (i : Nat) : Option.Rel Die.Spared (b.die? i) (d.die? i) :=
  find?_rel_of_forall₂ (fun x y hxy => by simp [hxy.index]) h.dies

theorem Bridge.Spared.exists_die {b d : Bridge} (h : b.Spared d) {i : Nat} {x : Die} (hx : b.die? i = some x) :
    ∃ y, d.die? i = some y ∧ x.Spared y := by
  have hrel := h.die? i
  rw [hx] at hrel
  generalize hy : d.die? i = o at hrel
  cases hrel with
  | some hxy => exact ⟨_, rfl, hxy⟩

theorem Bridge.Spared.die?_any_susp {b d : Bridge} (h : b.Spared d) (i : Nat) :
    (d.die? i).any (·.susp.isSome) = (b.die? i).any (·.susp.isSome) := by
  have hrel := h.die? i
  generalize b.die? i = o at hrel
  generalize d.die? i = o' at hrel
  cases hrel with
  | none => rfl
  | some hxy => simp [hxy.susp]

/-- Ending what a die executes spares its bridge: the die begins nothing and keeps a suspended erase. -/
theorem Bridge.spared_finish (b : Bridge) (i : Nat) (p : Side) (h : TaskHdr) (w : BitVec 32) (busy : StatusType) (now : Nat) :
    b.Spared { b with dies := updFirst (·.index == i) (fun d => (d.ended p h w).finish p busy now) b.dies } := by
  refine ⟨rfl, rfl, rfl, forall₂_updFirst Die.Spared.refl (fun d => ?_) b.dies⟩
  have hended : (d.ended p h w).index = d.index ∧ (d.ended p h w).susp = d.susp := by
    unfold Die.ended
    split <;> cases p <;> exact ⟨rfl, rfl⟩
  exact ⟨hended.1, .inr rfl, hended.2⟩

/-! ## A die task of a stale epoch (R67, R810) -/

/-- The cut of a program whose data never came whole spares the bridge, and takes one place in the window of its port at most. -/
theorem State.cutProgram_spares {s : State} {n : Nat} {p : Side} {b : Bridge} (hb : s.bridge? n = some b) (hr : (b.port p).Room 255)
    (h : TaskHdr) : ∃ d, (s.cutProgram n p h).bridge? n = some d ∧ b.Spared d ∧ (d.port p).Room 256 := by
  have hsame : ∃ d, s.bridge? n = some d ∧ b.Spared d ∧ (d.port p).Room 256 := ⟨b, hb, .refl b, hr.mono (by decide)⟩
  unfold State.cutProgram
  split
  next => exact hsame
  next x _ =>
    split
    next => exact hsame
    next e _ =>
      split
      · have hended := State.bridge?_die' hb h.die fun y =>
          (y.ended p e.hdr (plainStatus .protocolError x.susp.isSome).bits).finish p .busyProgram s.ck.now
        have hcut := State.bridge?_port' hended p (·.discards (4 * e.data.length))
        have hroom := hr.discards (4 * e.data.length)
        refine ⟨_, State.bridge?_toHead_of_room hcut ?_ _, ((b.spared_finish ..).port' ..).port' .., ?_⟩
        · simpa using hroom.mono (by decide)
        · simpa using hroom.sent _
      · exact hsame

theorem State.judgeTask_of_stale {b : Bridge} {h : TaskHdr} (he : h.epoch < b.epoch) (s : State) (p : Side) (known : Bool) :
    s.judgeTask b p h known = some (plainStatus .fenced ((b.die? h.die).any (·.susp.isSome))) :=
  if_pos he

/-- A refusal with FENCED is its DONE and nothing else. -/
theorem State.dieRefuses_fenced (s : State) (n : Nat) (p : Side) (h : TaskHdr) (susp : Bool) :
    s.dieRefuses n p h (plainStatus .fenced susp) = s.bridgeDone n p h (plainStatus .fenced susp) := rfl

/-- The frame that refuses a task of a stale epoch: DONE with FENCED, under the task's tag, with the comb's epoch and owner. -/
structure RefusesFenced (b : Bridge) (h : TaskHdr) (g : LFrame) : Prop where
  tag : g.tag = h.tag
  epoch : g.epoch = BitVec.ofNat 32 b.epoch
  owner : g.owner = b.owner
  status : g.status = (plainStatus .fenced ((b.die? h.die).any (·.susp.isSome))).bits

theorem RefusesFenced.of_port' {b : Bridge} {p : Side} {f : BridgePort → BridgePort} {h : TaskHdr} {g : LFrame}
    (hg : RefusesFenced (b.port' p f) h g) : RefusesFenced b h g :=
  ⟨hg.tag, by simpa using hg.epoch, by simpa using hg.owner, by simpa using hg.status⟩

theorem State.dieTask_of_stale {s : State} {n : Nat} {p : Side} {b : Bridge} {h : TaskHdr} (hb : s.bridge? n = some b)
    (hr : (b.port p).Room 255) (he : h.epoch < b.epoch) :
    ∃ d g, (s.dieTask n p h).bridge? n = some d ∧ b.Spared d ∧ (s.dieTask n p h).out.getLast? = some (.link n true p g) ∧
      RefusesFenced b h g := by
  obtain ⟨d, hd, hsp, hroom⟩ := State.cutProgram_spares hb hr h
  have hrun : s.dieTask n p h =
      (s.cutProgram n p h).bridgeDone n p h (plainStatus .fenced ((d.die? h.die).any (·.susp.isSome))) := by
    have hj := State.judgeTask_of_stale (hsp.epoch ▸ he : h.epoch < d.epoch) (s.cutProgram n p h) p true
    simp only [State.dieTask, hd, hj, State.dieRefuses_fenced]
  rw [hrun]
  exact ⟨_, _, State.bridge?_toHead_of_room hd hroom _, hsp.port' _ _, State.toHead_out_of_room hd hroom _, rfl,
    by rw [← hsp.epoch]; rfl, by rw [← hsp.owner]; rfl, by rw [← hsp.die?_any_susp]; rfl⟩

theorem State.taskFrame_of_atBridge {s : State} {n : Nat} {p : Side} {f : LFrame} {b : Bridge} (h : AtBridge s n p f b)
    (ht : f.type = 1) {op : TaskOp} (hop : f.op = op.num) :
    s.taskFrame n p f op = (s.bridgeTook n p).dieTask n p (f.task op) := by
  simp [State.taskFrame, ht, hop, State.bridgeFrame_of_atBridge h]

/-- The commands of the die tasks, each with its opcode (R324). -/
def dieTaskInstrs (n : Nat) (p : Side) (f : LFrame) : List (Instr × TaskOp) :=
  [(.taskRead n p f, .read), (.taskSeqRead n p f, .seqRead), (.taskProgramSlc n p f, .programSlc),
    (.taskProgramQlc n p f, .programQlc), (.taskErase n p f, .erase), (.eraseSuspend n p f, .eraseSuspend),
    (.eraseResume n p f, .eraseResume)]

theorem exec_dieTaskInstr {s : State} {n : Nat} {p : Side} {f : LFrame} {c : Instr × TaskOp} (hc : c ∈ dieTaskInstrs n p f)
    (hop : f.op = c.2.num) : exec c.1 s = .next (s.taskFrame n p f c.2) := by
  simp only [dieTaskInstrs, List.mem_cons, List.not_mem_nil, or_false] at hc
  obtain rfl | rfl | rfl | rfl | rfl | rfl | rfl := hc
  case inl =>
    have hknown : (taskOpOf f.op).isNone = false := by rw [hop]; rfl
    simp [execTaskRead, hknown]
  all_goals rfl

/-- A die task of a stale epoch that arrives in sequence begins nothing and is answered FENCED. -/
theorem exec_dieTask_of_stale {s : State} {n : Nat} {p : Side} {f : LFrame} {b : Bridge} {c : Instr × TaskOp} (h : AtBridge s n p f b)
    (ht : f.type = 1) (he : f.epoch.toNat < b.epoch) (hwait : (b.port p).waiting = []) (hun : (b.port p).unacked.length < 255)
    (hc : c ∈ dieTaskInstrs n p f) (hop : f.op = c.2.num) :
    ∃ t d g, exec c.1 s = .next t ∧ t.bridge? n = some d ∧ b.Spared d ∧ t.out.getLast? = some (.link n true p g) ∧
      RefusesFenced b (f.task c.2) g := by
  have ⟨hb, _, hup, _⟩ := h
  have hroom : ((b.port' p BridgePort.took).port p).Room 255 := by
    rw [Bridge.port_port']
    exact ⟨hup, hwait, hun⟩
  have hstale : (f.task c.2).epoch < (b.port' p BridgePort.took).epoch := by
    rw [Bridge.port'_epoch]
    exact he
  obtain ⟨d, g, hd, hsp, hout, hg⟩ := State.dieTask_of_stale (State.bridge?_bridgeTook hb p) hroom hstale
  have hrun := exec_dieTaskInstr (s := s) hc hop
  rw [State.taskFrame_of_atBridge h ht hop] at hrun
  exact ⟨_, d, g, hrun, hd, hsp.of_port', hout, hg.of_port'⟩

/-! ## A fence task leaves the dies and their pages alone (R341, R342) -/

/-- Every bridge has the dies, with what they execute and hold suspended, and the pages that it had. -/
def SameMedia (s t : State) : Prop := List.Forall₂ (fun b d => d.dies = b.dies ∧ d.pages = b.pages) s.cl.bridges t.cl.bridges

theorem SameMedia.refl (s : State) : SameMedia s s := List.forall₂_same.2 fun _ _ => ⟨rfl, rfl⟩

theorem SameMedia.trans {s t u : State} (h : SameMedia s t) (h' : SameMedia t u) : SameMedia s u :=
  forall₂_trans (fun _ _ _ hab hbc => ⟨hbc.1.trans hab.1, hbc.2.trans hab.2⟩) h h'

theorem sameMedia_bridge' (s : State) (n : Nat) {f : Bridge → Bridge} (hf : ∀ b, (f b).dies = b.dies ∧ (f b).pages = b.pages) :
    SameMedia s (s.bridge' n f) := forall₂_updFirst (fun _ => ⟨rfl, rfl⟩) hf _

theorem sameMedia_port' (s : State) (n : Nat) (p : Side) (f : BridgePort → BridgePort) :
    SameMedia s (s.bridge' n fun b => b.port' p f) :=
  sameMedia_bridge' s n fun b => ⟨b.port'_dies p f, b.port'_pages p f⟩

theorem sameMedia_toHead (s : State) (n : Nat) (p : Side) (f : LFrame) : SameMedia s (s.toHead n p f) := by
  unfold State.toHead
  split
  · exact .refl s
  · split
    · exact .refl s
    · split
      · exact sameMedia_port' s n p _
      · exact sameMedia_port' s n p _

theorem sameMedia_bridgePump (s : State) (n : Nat) (p : Side) : SameMedia s (s.bridgePump n p) := by
  have hsend (fs : List LFrame) : ∀ t, SameMedia t (fs.foldl (fun t f => t.toHead n p f) t) := by
    induction fs with
    | nil => exact .refl
    | cons f fs ih => exact fun t => (sameMedia_toHead t n p f).trans (ih _)
  unfold State.bridgePump
  split
  · exact .refl s
  · exact (sameMedia_port' s n p _).trans (hsend _ _)

theorem sameMedia_bridgeAck (s : State) (n : Nat) (p : Side) : SameMedia s (s.bridgeAck n p) := by
  unfold State.bridgeAck
  split <;> exact .refl s

theorem sameMedia_bridgeNak (s : State) (n : Nat) (p : Side) : SameMedia s (s.bridgeNak n p) := by
  unfold State.bridgeNak
  split
  · exact .refl s
  · split
    · exact .refl s
    · exact sameMedia_port' s n p _

theorem sameMedia_bridgeTook (s : State) (n : Nat) (p : Side) : SameMedia s (s.bridgeTook n p) :=
  (sameMedia_port' s n p _).trans (sameMedia_bridgeAck _ n p)

section
variable {act : State → State} (hact : ∀ t, SameMedia t (act t))
include hact

theorem sameMedia_bridgeHears (s : State) (n : Nat) (p : Side) (f : LFrame) : SameMedia s (s.bridgeHears n p f act) := by
  unfold State.bridgeHears
  split
  · exact .refl s
  · split
    · exact .refl s
    · split
      · exact (sameMedia_port' s n p _).trans (sameMedia_bridgeNak _ n p)
      · split
        · exact ((sameMedia_port' s n p _).trans (hact _)).trans (sameMedia_bridgePump _ n p)
        · exact hact s

theorem sameMedia_bridgeFrame (s : State) (n : Nat) (p : Side) (f : LFrame) : SameMedia s (s.bridgeFrame n p f act) := by
  refine sameMedia_bridgeHears (fun t => ?_) s n p f
  split
  · exact .refl t
  · dsimp only
    split
    · exact .refl t
    · split
      · exact (sameMedia_bridgeTook t n p).trans (hact _)
      · split
        · exact sameMedia_bridgeAck t n p
        · exact sameMedia_bridgeNak t n p
end

theorem sameMedia_fenceTask (s : State) (n : Nat) (p : Side) (h : TaskHdr) (wins : Bridge → Bool) (e : Nat) :
    SameMedia s (s.fenceTask n p h wins e) := by
  unfold State.fenceTask
  split
  · exact .refl s
  · split
    · exact (sameMedia_bridge' s n (f := fun b => { b with epoch := e, owner := h.head }) fun _ => ⟨rfl, rfl⟩).trans
        (sameMedia_toHead _ n p _)
    · exact sameMedia_toHead s n p _

theorem exec_fenceInstr_sameMedia {s t : State} {n : Nat} {p : Side} {f : LFrame} {c : Instr}
    (hc : c ∈ [Instr.fenceRaise n p f, .fenceAdopt n p f]) (h : exec c s = .next t) : SameMedia s t := by
  simp only [List.mem_cons, List.not_mem_nil, or_false] at hc
  have hfence (h : TaskHdr) (wins : Bridge → Bool) (e : Nat) :
      SameMedia s (s.bridgeFrame n p f fun t => t.fenceTask n p h wins e) :=
    sameMedia_bridgeFrame (fun t => sameMedia_fenceTask t n p h wins e) s n p f
  obtain rfl | rfl := hc
  · obtain rfl := Host.Outcome.next.inj h
    split
    · exact hfence ..
    · exact .refl s
  · obtain rfl := Host.Outcome.next.inj h
    split
    · exact hfence ..
    · exact .refl s

/-! ## The end of the task that a die executes -/

section
variable {s : State} {n d : Nat} {b : Bridge} {x : Die} {e : DieExec} (hb : s.bridge? n = some b) (hpow : b.powered = true)
  (hx : b.die? d = some x) (he : x.exec = some e) (good : Bool)
include hb hpow hx he

theorem exec_dieTaskDone_of_read (hop : e.hdr.op = .read ∨ e.hdr.op = .seqRead) :
    exec (.dieTaskDone n d good) s = .next (s.endRead n b x e good) := by
  obtain hop | hop := hop <;> simp [execDieTaskDone, hb, hpow, hx, he, hop]

theorem exec_dieTaskDone_of_program (hop : e.hdr.op = .programSlc ∨ e.hdr.op = .programQlc)
    (hall : e.malformed = true ∨ e.hdr.pages.length ≤ e.data.length) :
    exec (.dieTaskDone n d good) s = .next (s.endProgram n x e good) := by
  obtain hop | hop := hop <;> simp [execDieTaskDone, hb, hpow, hx, he, hop, hall]

theorem exec_dieTaskDone_of_erase (hop : e.hdr.op = .erase) :
    exec (.dieTaskDone n d good) s = .next (s.endErase n x e good) := by
  simp [execDieTaskDone, hb, hpow, hx, he, hop]
end

/-- Settles O59: a stale epoch is the first check of R810, before which only a program of the same port whose data never came whole is
ended (R326); the answer is then a DONE and nothing else. Fence tasks change no die, and the end of a task reads no epoch. -/
theorem fencedTasksDoNothing : Obligations.FencedTasksDoNothing := by
  refine ⟨?_, fun s t n p f c hc => exec_fenceInstr_sameMedia hc, fun s n d good b x e hb hpow hx he =>
    ⟨exec_dieTaskDone_of_read hb hpow hx he good, exec_dieTaskDone_of_program hb hpow hx he good,
      exec_dieTaskDone_of_erase hb hpow hx he good⟩⟩
  intro s n p f b h ht he hwait hun c hc hop
  obtain ⟨t, d, g, hrun, hd, hsp, hout, hg⟩ := exec_dieTask_of_stale h ht he hwait hun hc hop
  have hdies (i : Nat) (x : Die) (hx : b.die? i = some x) :
      ∃ y, d.die? i = some y ∧ (y.exec = x.exec ∨ y.exec = none) ∧ y.susp = x.susp := by
    obtain ⟨y, hy, hxy⟩ := hsp.exists_die hx
    exact ⟨y, hy, hxy.exec, hxy.susp⟩
  exact ⟨t, d, g, hrun, hd, hsp.pages, hsp.epoch, hsp.owner, hdies, hout, hg.tag, hg.epoch, hg.owner, hg.status⟩

end Sys2Proof.Machine

/-! PROOFS. Virkan requests and sessions (03): the checks of R77, the tags of a session, its failures, and a recovery start. -/

namespace Sys2Proof.Machine

/-! ## The gate of R77 -/

section
variable {s : State} {op : Nat} {q : VReq} {st : VStatus}

theorem virkan_of_deaf (h : s.deaf q.via = true) (body : State → State) : s.virkan op q body = s := by
  simp [State.virkan, h]

theorem virkan_of_checkSession (hd : s.deaf q.via = false) (h : s.checkSession op q = some st) (body : State → State) :
    s.virkan op q body = s.turnAway q op st := by
  simp [State.virkan, hd, h]

theorem virkan_of_checkOp (hd : s.deaf q.via = false) (hs : s.checkSession op q = none)
    (h : (s.takeIn op q).checkOp op q = some st) (body : State → State) :
    s.virkan op q body = (s.takeIn op q).reply q op st [] := by
  simp [State.virkan, hd, hs, h]

/-! ## Step 6: the session and the tag -/

theorem checkSession_of_no_session (hop : op ≠ 0x0101) (h : s.sessionOf q.via q.session = none) :
    s.checkSession op q = some .sessionUnknown := by
  simp [State.checkSession, hop, h]

/-- A request of a session passes the checks on its tag that come before TAG_IN_USE: the tag is none of those kept back, and on MG it is
not below an earlier one (R84, R815). -/
structure FreshTag (q : VReq) (x : Session) : Prop where
  ne_zero : q.tag ≠ 0
  ne_ones : q.tag ≠ 0xFFFFFFFF
  above : q.via.holds = true ∨ ∀ h, x.highTag = some h → serialAbove q.tag h = true

variable {x : Session}

theorem checkSession_of_replayed (hop : op ≠ 0x0101) (hx : s.sessionOf q.via q.session = some x) (h0 : q.tag ≠ 0)
    (h1 : q.tag ≠ 0xFFFFFFFF) (hmg : q.via.holds = false) {h : Nat} (hh : x.highTag = some h) (hab : serialAbove q.tag h = false) :
    s.checkSession op q = some .replayed := by
  simp [State.checkSession, hop, hx, h0, h1, hmg, hh, hab]

theorem checkSession_of_freshTag (hop : op ≠ 0x0101) (hx : s.sessionOf q.via q.session = some x) (ht : FreshTag q x) :
    s.checkSession op q = if x.outstanding.contains q.tag then some .tagInUse
      else if x.outstanding.length ≥ 32 then some .outstandingLimit else none := by
  have hnot : (!q.via.holds && (x.highTag.map fun h => !serialAbove q.tag h).getD false) = false := by
    obtain h | h := ht.above
    · simp [h]
    · cases hh : x.highTag with
      | none => simp
      | some t => simp [h t hh]
  simp [State.checkSession, hop, hx, ht.ne_zero, ht.ne_ones, hnot]

/-! ## Steps 7 to 9 -/

theorem checkOp_of_unknown (h : vop op = none) : s.checkOp op q = some .unknownOpcode := by
  simp [State.checkOp, h]

variable {o : VOp}

theorem checkOp_of_refusedRecovery (ho : vop op = some o) (hr : s.md.recovery = true) (h : servedInRecovery op = false) :
    s.checkOp op q = some .refusedRecovery := by
  simp [State.checkOp, ho, hr, h]

theorem checkOp_of_keysErased (ho : vop op = some o) (hr : s.md.recovery = false) (he : s.ks.sealState = 2)
    (h : servedErased op = false) : s.checkOp op q = some .keysErased := by
  simp [State.checkOp, ho, hr, he, h]

theorem checkOp_of_checkPriv (ho : vop op = some o) (hr : s.md.recovery = false) (he : s.ks.sealState ≠ 2)
    (h : s.checkPriv o q = some st) : s.checkOp op q = some st := by
  simp [State.checkOp, ho, hr, he, h]

theorem checkOp_of_checkParams (ho : vop op = some o) (hr : s.md.recovery = false) (he : s.ks.sealState ≠ 2)
    (hp : s.checkPriv o q = none) (h : o.checkParams q = some st) : s.checkOp op q = some st := by
  simp [State.checkOp, ho, hr, he, hp, h]
end

/-- Settles O1: each check of R77 by the lemma that names its status; TAG_IN_USE comes last of step 6 but for the limit (log 86). -/
theorem virkanGate : Obligations.VirkanGate := by
  refine ⟨fun s op q body st hd h => virkan_of_checkSession hd h body, fun s op q body st hd hs h => virkan_of_checkOp hd hs h body,
    fun s op q hop h => checkSession_of_no_session hop h, fun s op q x hop hx h0 h1 hab hin => ?_, fun s op q h => checkOp_of_unknown h,
    fun s op q o ho hr h => checkOp_of_refusedRecovery ho hr h, fun s op q o ho hr he h => checkOp_of_keysErased ho hr he h,
    fun s op q o st ho hr he h => checkOp_of_checkPriv ho hr he h, fun s op q o st ho hr he hp h => checkOp_of_checkParams ho hr he hp h⟩
  have ht : FreshTag q x := ⟨h0, h1, hab.imp_right fun hn h hh => by simp [hn] at hh⟩
  rw [checkSession_of_freshTag hop hx ht, if_pos hin]

/-! ## What refusing and taking in leave of the sessions -/

@[simp] theorem sendReply_sessions (s : State) (via : Transport) (r : VReply) : (s.sendReply via r).vk.sessions = s.vk.sessions := by
  rw [State.sendReply_frame]

@[simp] theorem deliverAs_sessions (s : State) (own : Bool) (via : Transport) (r : VReply) :
    (s.deliverAs own via r).vk.sessions = s.vk.sessions := by
  unfold State.deliverAs
  split
  · rfl
  · exact sendReply_sessions s via r

@[simp] theorem deliver_sessions (s : State) (via : Transport) (r : VReply) : (s.deliver via r).vk.sessions = s.vk.sessions :=
  deliverAs_sessions s true via r

@[simp] theorem turnAway_sessions (s : State) (q : VReq) (op : Nat) (st : VStatus) :
    (s.turnAway q op st).vk.sessions = s.vk.sessions :=
  deliverAs_sessions s false q.via _

/-- Room for a reply is made at the cost of a notice, and of no session (R94). -/
@[simp] theorem freePlace_sessions (s : State) (x : Session) : (s.freePlace x).vk.sessions = s.vk.sessions := by
  unfold State.freePlace
  split
  · rfl
  · split <;> rfl

@[simp] theorem freePlace_md (s : State) (x : Session) : (s.freePlace x).md = s.md := by
  unfold State.freePlace
  split
  · rfl
  · split <;> rfl

@[simp] theorem takeIn_md (s : State) (op : Nat) (q : VReq) : (s.takeIn op q).md = s.md := by
  unfold State.takeIn
  split <;> simp

/-! ## The session of a handle -/

section
variable {s : State} {via : Transport} {h : Nat} {x : Session}

theorem sessionOf_mem (hx : s.sessionOf via h = some x) : x ∈ s.vk.sessions := List.mem_of_find?_eq_some hx

/-- What a search for a session's handle and transport finds has them. -/
theorem find?_session {l : List Session} (hx : l.find? (fun y => y.handle == h && y.via == via) = some x) :
    x.handle = h ∧ x.via = via := by
  simpa using List.find?_some hx

theorem sessionOf_handle (hx : s.sessionOf via h = some x) : x.handle = h := (find?_session hx).1

theorem sessionOf_congr {t : State} (h' : t.vk.sessions = s.vk.sessions) (via : Transport) (h : Nat) :
    t.sessionOf via h = s.sessionOf via h := by
  unfold State.sessionOf
  rw [h']

/-- No two sessions have one handle. -/
def HandlesNodup (s : State) : Prop := (s.vk.sessions.map (·.handle)).Nodup

theorem SessionsOk.handlesNodup (hok : SessionsOk s) : HandlesNodup s := hok.2.2.1

/-- A change of the session of a handle changes the session that a request of its transport names. -/
theorem find?_updFirst_of_nodup {via : Transport} {f : Session → Session} (hf : ∀ y, (f y).handle = y.handle ∧ (f y).via = y.via) :
    ∀ {l : List Session}, (l.map (·.handle)).Nodup → l.find? (fun y => y.handle == h && y.via == via) = some x →
      (updFirst (·.handle == h) f l).find? (fun y => y.handle == h && y.via == via) = some (f x)
  | [], _, hx => by cases hx
  | a :: l, hnd, hx => by
    obtain ⟨hna, hnd⟩ := List.nodup_cons.1 (List.map_cons ▸ hnd)
    by_cases ha : a.handle = h
    · have hax : a = x := by
        by_contra hne
        have hxl : x ∈ l := (List.mem_cons.1 (List.mem_of_find?_eq_some hx)).resolve_left (Ne.symm hne)
        exact hna (ha.trans (find?_session hx).1.symm ▸ List.mem_map_of_mem hxl)
      subst hax
      simp [updFirst, ha, (find?_session hx).2, hf a]
    · rw [List.find?_cons_of_neg (by simp [ha])] at hx
      simpa [updFirst, ha] using find?_updFirst_of_nodup hf hnd hx

theorem sessionOf_session' {f : Session → Session} (hf : ∀ y, (f y).handle = y.handle ∧ (f y).via = y.via) (hnd : HandlesNodup s)
    (hx : s.sessionOf via h = some x) : (s.session' h f).sessionOf via h = some (f x) :=
  find?_updFirst_of_nodup hf hnd hx

theorem map_handle_updFirst {p : Session → Bool} {f : Session → Session} (hf : ∀ y, (f y).handle = y.handle) (l : List Session) :
    (updFirst p f l).map (·.handle) = l.map (·.handle) := by
  induction l with
  | nil => rfl
  | cons a l ih =>
    unfold updFirst
    split <;> simp [hf, ih]

theorem HandlesNodup.session' {f : Session → Session} (hf : ∀ y, (f y).handle = y.handle) (hnd : HandlesNodup s) (k : Nat) :
    HandlesNodup (s.session' k f) := by
  unfold HandlesNodup
  exact (map_handle_updFirst hf s.vk.sessions).symm ▸ hnd

theorem HandlesNodup.congr {t : State} (h' : t.vk.sessions = s.vk.sessions) (hnd : HandlesNodup s) : HandlesNodup t := by
  unfold HandlesNodup
  rwa [h']

/-- Closing a session leaves none of its handle (R91). -/
theorem sessionOf_closeSession (s : State) (via : Transport) (h : Nat) : (s.closeSession h).sessionOf via h = none := by
  refine List.find?_eq_none.2 fun y hy => ?_
  have hne : y.handle ≠ h := by simpa using (List.mem_filter.1 hy).2
  simp [hne]
end

/-! ## A request that is taken in, and its reply -/

section
variable {s : State} {op : Nat} {q : VReq} {x : Session}

/-- A session that has taken in a request: the tag is outstanding, on MG it is the highest, and the proof's failures stand. -/
structure TookTag (q : VReq) (x y : Session) : Prop where
  outstanding : y.outstanding = x.outstanding ++ [q.tag]
  highTag : y.highTag = if q.via.holds then x.highTag else some q.tag
  fails : y.fails = x.fails
  priv : y.priv = x.priv
  opened : y.opened = x.opened
  nonce : y.nonce = x.nonce

theorem sessionOf_takeIn (hnd : HandlesNodup s) (hop : op ≠ 0x0101) (hx : s.sessionOf q.via q.session = some x) :
    HandlesNodup (s.takeIn op q) ∧ ∃ y, (s.takeIn op q).sessionOf q.via q.session = some y ∧ TookTag q x y := by
  have hx' : (s.freePlace x).sessionOf q.via q.session = some x := by rw [sessionOf_congr (freePlace_sessions s x), hx]
  have hnd' : HandlesNodup (s.freePlace x) := hnd.congr (freePlace_sessions s x)
  simp only [State.takeIn, if_neg hop, hx]
  refine ⟨hnd'.session' ?_ _, _, sessionOf_session' (fun _ => ⟨rfl, rfl⟩) hnd' hx', rfl, rfl, rfl, rfl, rfl, rfl⟩
  exact fun _ => rfl

/-- A reply changes nothing of its session but the outstanding requests (R94). -/
theorem sessionOf_reply (hnd : HandlesNodup s) (hx : s.sessionOf q.via q.session = some x) (op : Nat) (st : VStatus) (p : Bytes) :
    ∃ l, (s.reply q op st p).sessionOf q.via q.session = some { x with outstanding := l } := by
  unfold State.reply State.replyTo
  split
  · refine ⟨x.outstanding.erase q.tag, ?_⟩
    rw [sessionOf_congr (deliver_sessions _ _ _)]
    exact sessionOf_session' (f := fun y => { y with outstanding := y.outstanding.erase q.tag }) (fun _ => ⟨rfl, rfl⟩) hnd hx
  · exact ⟨x.outstanding, by rw [sessionOf_congr (deliver_sessions _ _ _), hx]⟩
end

/-! ## Tags on MG (R84) -/

/-- The serial-number arithmetic of the model is subtraction of words. -/
theorem serialAbove_iff {a b : Nat} (ha : a < 2 ^ 32) (_ : b < 2 ^ 32) :
    serialAbove a b = true ↔
      (BitVec.ofNat 32 a - BitVec.ofNat 32 b) ≠ 0 ∧ (BitVec.ofNat 32 a - BitVec.ofNat 32 b).toNat < 2 ^ 31 := by
  have hd : (BitVec.ofNat 32 a - BitVec.ofNat 32 b).toNat = (a + 2 ^ 32 - b % 2 ^ 32) % 2 ^ 32 := by
    simp only [BitVec.toNat_sub, BitVec.toNat_ofNat]
    omega
  simp only [serialAbove, Bool.and_eq_true, bne_iff_ne, decide_eq_true_eq, ← hd]
  exact and_congr_left fun _ => not_congr ⟨fun h => BitVec.eq_of_toNat_eq h, fun h => congrArg BitVec.toNat h⟩

/-- A packet on MG that fails at steps 2 to 5 leaves the sessions alone (R77, R84). -/
theorem wire_sessions_of_parse_error {s : State} {conn : Nat} {bs : Bytes} {st : VStatus} (hh : headerFault bs = none)
    (hp : s.parseRequest (.mg conn) bs = .error st) : (s.wire (.mg conn) bs).vk.sessions = s.vk.sessions := by
  unfold State.wire
  split
  · rfl
  · simp only [hh, hp, deliverAs_sessions]
    split <;> rfl

/-- Settles O58. -/
theorem mgTagsRise : Obligations.MgTagsRise := by
  refine ⟨fun s op q x h body hop hd hmg hx h0 h1 hh hab =>
      virkan_of_checkSession hd (checkSession_of_replayed hop hx h0 h1 hmg hh hab) body, ?_,
    fun s conn bs st hh hp => wire_sessions_of_parse_error hh hp, fun a b ha hb => serialAbove_iff ha hb⟩
  intro s op q x st body hok hop hd hmg hx hs h
  obtain ⟨hnd, y, hy, htook⟩ := sessionOf_takeIn hok.handlesNodup hop hx
  obtain ⟨l, hl⟩ := sessionOf_reply hnd hy op st []
  rw [virkan_of_checkOp hd hs h body]
  exact ⟨_, hl, by rw [htook.highTag, if_neg (by simp [hmg])]⟩

/-! ## A recovery start (R86) -/

/-- The opcodes that R86 lists. -/
def recoveryOps : List Nat :=
  [0x0101, 0x0102, 0x0103, 0x0104, 0x0A01, 0x0A02, 0x0A03, 0x0A04, 0x0A05, 0x0A06, 0x0A07, 0x0A08, 0x0A09, 0x0A0A, 0x0807, 0x0804, 0x0901,
    0x0903, 0x0B01, 0x0B02, 0x0B03, 0x0B04]

theorem vop_op {op : Nat} {o : VOp} (h : vop op = some o) : o ∈ vops ∧ o.op = op :=
  ⟨List.mem_of_find?_eq_some h, by simpa using List.find?_some h⟩

/-- Of the catalogue, a recovery start serves what R86 lists. -/
theorem servedInRecovery_iff_of_mem_vops : ∀ o ∈ vops, servedInRecovery o.op = true ↔ o.op ∈ recoveryOps := by decide +kernel

theorem recoveryOps_defined : ∀ op ∈ recoveryOps, (vop op).isSome = true := by decide +kernel

theorem checkPriv_status {s : State} {o : VOp} {q : VReq} {st : VStatus} (h : s.checkPriv o q = some st) :
    st = .sessionUnknown ∨ st = .authRequired ∨ st = .privilege := by
  unfold State.checkPriv at h
  grind

theorem checkParams_status {o : VOp} {q : VReq} {st : VStatus} (h : o.checkParams q = some st) :
    st = .paramUnknown ∨ st = .paramMissing ∨ st = .paramInvalid := by
  unfold VOp.checkParams at h
  grind

theorem checkOp_of_served {s : State} {op : Nat} {q : VReq} {o : VOp} (ho : vop op = some o) (h : servedInRecovery op = true) :
    s.checkOp op q ≠ some .refusedRecovery ∧ s.checkOp op q ≠ some .unknownOpcode := by
  have hpriv (st : VStatus) (hst : s.checkPriv o q = some st) := checkPriv_status hst
  have hparams (st : VStatus) (hst : o.checkParams q = some st) := checkParams_status hst
  unfold State.checkOp
  grind

theorem deaf_of_recovery {s : State} {via : Transport} (hr : s.md.recovery = true) (hv : via ≠ .sb) : s.deaf via = true := by
  simp [State.deaf, hr, hv]

/-- Settles O52. -/
theorem recoveryServesItsOpcodes : Obligations.RecoveryServesItsOpcodes := by
  refine ⟨fun s op q body hr hv => virkan_of_deaf (deaf_of_recovery hr hv) body, fun s via bs hr hv => ?_,
    fun s op q body hr hv hd hs => ?_⟩
  · unfold State.wire
    rw [if_pos (deaf_of_recovery hr hv)]
  · rw [← hv] at hd
    have hr' : (s.takeIn op q).md.recovery = true := by rw [takeIn_md, hr]
    refine ⟨fun h => virkan_of_checkOp hd hs (checkOp_of_unknown h) body, fun h hnot => ?_, fun hin => ?_⟩
    · obtain ⟨o, ho⟩ := Option.isSome_iff_exists.1 h
      obtain ⟨hmem, rfl⟩ := vop_op ho
      have hserved : servedInRecovery o.op = false :=
        Bool.eq_false_iff.2 fun hs => hnot ((servedInRecovery_iff_of_mem_vops o hmem).1 hs)
      exact virkan_of_checkOp hd hs (checkOp_of_refusedRecovery ho hr' hserved) body
    · obtain ⟨o, ho⟩ := Option.isSome_iff_exists.1 (recoveryOps_defined op hin)
      obtain ⟨hmem, rfl⟩ := vop_op ho
      exact checkOp_of_served ho ((servedInRecovery_iff_of_mem_vops o hmem).2 hin)

/-! ## Failed proofs (R89) -/

theorem taken_sessionAuth (s : State) (q : VReq) : s.taken 0x0102 q = s.takeIn 0x0102 q :=
  if_neg (by decide +kernel)

theorem taken_sessionOpen (s : State) (q : VReq) : s.taken 0x0101 q = s := by
  have hconfirm : (vop 0x0101).any (·.confirm) = false := by decide +kernel
  simp [State.taken, hconfirm, State.takeIn]

theorem proofOk_congr {x y : Session} (ho : y.opened = x.opened) (hn : y.nonce = x.nonce) (s : State) (p : Bytes) :
    s.proofOk y p = s.proofOk x p := by
  simp [State.proofOk, State.proofText, ho, hn]

/-- A failed proof is counted and answered, and the third closes the session (R89). -/
theorem authSession_of_failure {u : State} {q : VReq} {y : Session} (hnd : HandlesNodup u) (hy : u.sessionOf q.via q.session = some y)
    (hp : u.proofOk y ((q.param 1).getD []) = false) :
    ∃ v z, v.sessionOf q.via q.session = some z ∧ z.fails = y.fails + 1 ∧ z.priv = y.priv ∧
      u.authSession q = if y.fails + 1 ≥ 3 then
        (v.ev0 0x022 .warn (le 1 q.via.num ++ le 1 (privN y.opened))).closeSession q.session else v := by
  have hcount := sessionOf_session' (f := fun z => { z with fails := z.fails + 1 }) (fun _ => ⟨rfl, rfl⟩) hnd hy
  obtain ⟨l, hl⟩ := sessionOf_reply (hnd.session' (f := fun z => { z with fails := z.fails + 1 }) (fun _ => rfl) _) hcount 0x0102 .authFailed []
  refine ⟨_, _, hl, rfl, rfl, ?_⟩
  simp [State.authSession, hy, hp, sessionOf_handle hy]

section
variable {s u : State} {q : VReq} {x : Session}

theorem exec_sessionAuth_of_failure (hok : SessionsOk s) (hr : Runs s 0x0102 q u) (hx : s.sessionOf q.via q.session = some x)
    (hp : u.proofOk x ((q.param 1).getD []) = false) :
    ∃ v z d, v.sessionOf q.via q.session = some z ∧ z.fails = x.fails + 1 ∧ z.priv = x.priv ∧
      exec (.sessionAuth q) s = .next (if x.fails + 1 ≥ 3 then (v.ev0 0x022 .warn d).closeSession q.session else v) := by
  have hbody : exec (.sessionAuth q) s = .next (u.authSession q) := congrArg Host.Outcome.next (virkan_runs hr)
  obtain rfl : u = s.takeIn 0x0102 q := hr.2.trans (taken_sessionAuth s q)
  obtain ⟨hnd, y, hy, htook⟩ := sessionOf_takeIn hok.handlesNodup (show 0x0102 ≠ 0x0101 by decide) hx
  obtain ⟨v, z, hz, hfails, hpriv, hrun⟩ :=
    authSession_of_failure hnd hy ((proofOk_congr htook.opened htook.nonce _ _).trans hp)
  exact ⟨v, z, le 1 q.via.num ++ le 1 (privN y.opened), hz, htook.fails ▸ hfails, htook.priv ▸ hpriv, by rw [hbody, hrun, htook.fails]⟩

/-- A session that is opened stands last, under the handle that came next, with no failure (R87, R89). -/
theorem openSession_sessions (hslot : u.sessionSlot q.via = true) :
    ∃ y, (u.openSession q).vk.sessions = u.vk.sessions ++ [y] ∧ y.handle = u.vk.nextHandle ∧ y.via = q.via ∧ y.fails = 0 := by
  unfold State.openSession
  rw [if_neg (by simp [hslot])]
  exact ⟨_, deliver_sessions .., rfl, rfl, rfl⟩

theorem exec_sessionOpen_of_slot (hok : SessionsOk s) (hr : Runs s 0x0101 q u) (hslot : u.sessionSlot q.via = true) :
    ∃ t y, exec (.sessionOpen q) s = .next t ∧ t.sessionOf q.via u.vk.nextHandle = some y ∧ y.fails = 0 := by
  have hbody : exec (.sessionOpen q) s = .next (u.openSession q) := congrArg Host.Outcome.next (virkan_runs hr)
  obtain rfl : u = s := hr.2.trans (taken_sessionOpen s q)
  obtain ⟨y, hy, hhandle, hvia, hfails⟩ := openSession_sessions hslot
  have hnew : u.vk.sessions.find? (fun z => z.handle == u.vk.nextHandle && z.via == q.via) = none := by
    obtain ⟨_, _, _, hbelow⟩ := hok
    exact List.find?_eq_none.2 fun z hz => by simp [(hbelow z hz).1.ne]
  refine ⟨_, y, hbody, ?_, hfails⟩
  simp [State.sessionOf, hy, List.find?_append, hnew, hhandle, hvia]
end

/-- Settles O53. -/
theorem threeFailuresCloseSession : Obligations.ThreeFailuresCloseSession := by
  refine ⟨fun s q u hok hr hslot => exec_sessionOpen_of_slot hok hr hslot, fun s q u x hok hr hx hp hlt => ?_,
    fun s q u x hok hr hx hp htwo => ?_⟩
  · obtain ⟨v, z, d, hz, hfails, hpriv, hrun⟩ := exec_sessionAuth_of_failure hok hr hx hp
    rw [if_neg (by omega)] at hrun
    exact ⟨v, z, hrun, hz, hfails, hpriv⟩
  · obtain ⟨v, z, d, hz, hfails, hpriv, hrun⟩ := exec_sessionAuth_of_failure hok hr hx hp
    rw [if_pos (by omega)] at hrun
    exact ⟨_, v, d, hrun, rfl, sessionOf_closeSession _ _ _⟩

end Sys2Proof.Machine

/-! PROOFS. The queue of commands, and the requests of a session in their order (R92).

`step` takes the head of the queue and runs it on a state that holds the rest; a session's requests start in the order of their arrival
because no operation of a command touches that rest. Each operation of the model is a function of the whole state, so this frame is one
`simp` lemma for each of them, in the model's own order: a lemma names the operation's branches, and the lemmas before it close them. -/

namespace Sys2Proof.Machine

/-! ## What it says that the queue is left alone -/

/-- A command that completes leaves the queue `p`. -/
def QueueKept (r : Host.Outcome State Fault Refusal) (p : List Instr) : Prop := ∀ t, r = .next t → t.pending = p

@[simp] theorem queueKept_next (t : State) (p : List Instr) : QueueKept (.next t) p ↔ t.pending = p := by simp [QueueKept]
@[simp] theorem queueKept_ok (t : State) (p : List Instr) : QueueKept (ok t) p ↔ t.pending = p := by simp [QueueKept, ok]
@[simp] theorem queueKept_fault (r : Fault) (p : List Instr) : QueueKept (.fault r) p := by simp [QueueKept]
@[simp] theorem queueKept_refused (r : Refusal) (p : List Instr) : QueueKept (.refused r) p := by simp [QueueKept]
@[simp] theorem State.ite_pending (c : Prop) [Decidable c] (s t : State) :
    (if c then s else t).pending = if c then s.pending else t.pending := apply_ite State.pending c s t
@[simp] theorem fst_ite_pending {α : Type} (c : Prop) [Decidable c] (x y : State × α) :
    (if c then x else y).1.pending = if c then x.1.pending else y.1.pending := apply_ite (fun z : State × α => z.1.pending) c x y

/-- A change of the state that leaves the queue alone. -/
def KeepsQueue (f : State → State) : Prop := ∀ t, (f t).pending = t.pending

theorem KeepsQueue.pending {f : State → State} (h : KeepsQueue f) (t : State) : (f t).pending = t.pending := h t

@[simp] theorem keepsQueue_iff (f : State → State) : KeepsQueue f ↔ ∀ t, (f t).pending = t.pending := ⟨fun h => h, fun h => h⟩

@[simp] theorem foldl_pending {α : Type} {f : State → α → State} (hf : ∀ a, KeepsQueue (f · a)) (l : List α) (s : State) :
    (l.foldl f s).pending = s.pending := by
  induction l generalizing s with
  | nil => rfl
  | cons a l ih => rw [List.foldl_cons, ih, hf]

/-- What a helper that answers a pair leaves of the queue, read off where the pair is taken apart. -/
theorem pending_of_eq {α : Type} {x : State × α} {t : State} {a : α} {p : List Instr} (h : x = (t, a)) (hx : x.1.pending = p) :
    t.pending = p := by rwa [h] at hx

theorem pending_ite_of {c : Prop} [Decidable c] {a b : State} {p : List Instr} (ha : a.pending = p) (hb : b.pending = p) :
    (if c then a else b).pending = p := by
  split
  · exact ha
  · exact hb

/-- `foldl_pending` for `refine`, where the body of the fold is a case split. -/
theorem foldl_pending_of {α : Type} {f : State → α → State} (hf : ∀ t a, (f t a).pending = t.pending) (l : List α) (s : State) :
    (l.foldl f s).pending = s.pending := foldl_pending (fun a t => hf t a) l s

/-- The fold over a state and an answer, which the model uses where it counts or collects as it goes. -/
theorem foldl_fst_pending {α β : Type} {f : State × β → α → State × β} (hf : ∀ x a, (f x a).1.pending = x.1.pending) (l : List α)
    (x : State × β) : (l.foldl f x).1.pending = x.1.pending := by
  induction l generalizing x with
  | nil => rfl
  | cons a l ih => rw [List.foldl_cons, ih, hf]

/-! ## The operations of Machine/Ops -/

@[simp] theorem State.intake_pending (s : State) (r : Report0) : (s.intake r).pending = s.pending := by
  unfold State.intake
  (repeat' split) <;> simp
@[simp] theorem State.report_pending (s : State) (r : Report0) : (s.report r).pending = s.pending := by simp [State.report]
@[simp] theorem State.writeRec_pending (s : State) (r : Report0) : (s.writeRec r).pending = s.pending := by
  simp only [State.writeRec]
  split <;> simp
@[simp] theorem State.lastGasp_pending (s : State) (code : Nat) (sev : Severity) (detail : Bytes) :
    (s.lastGasp code sev detail).pending = s.pending := by simp [State.lastGasp]
@[simp] theorem State.firstRecord_pending (s : State) : s.firstRecord.pending = s.pending := by simp [State.firstRecord]
@[simp] theorem State.hive'_pending (s : State) (h : Nat) (f : Hive → Hive) : (s.hive' h f).pending = s.pending := rfl
@[simp] theorem State.link'_pending (s : State) (l : Nat) (f : Link → Link) : (s.link' l f).pending = s.pending := rfl
@[simp] theorem State.bridge'_pending (s : State) (l : Nat) (f : Bridge → Bridge) : (s.bridge' l f).pending = s.pending := rfl
@[simp] theorem State.cond_pending (s : State) (c : Bool) (f : State → State) (hf : KeepsQueue f) : (s.cond c f).pending = s.pending := by
  simp [State.cond, hf.pending]

/-! ## The operations of Machine/Memory -/

@[simp] theorem State.readLine_pending (s : State) (set tag : Nat) : (s.readLine set tag).1.pending = s.pending := by
  unfold State.readLine
  split <;> simp
@[simp] theorem State.refreshLine_pending (s : State) (l : Nat × Nat × Nat × Bytes) : (s.refreshLine l).pending = s.pending := by
  simp only [State.refreshLine]
  repeat' split
  any_goals simp
  all_goals exact pending_of_eq ‹_› (by simp)
@[simp] theorem State.refreshLines_pending (s : State) (a n : Nat) : (s.refreshLines a n).pending = s.pending := by
  simp [State.refreshLines]
@[simp] theorem State.putBytes_pending (s : State) (a : Nat) (bs : Bytes) : (s.putBytes a bs).pending = s.pending := by
  simp [State.putBytes]

/-! ## The operations of Machine/ForageSend -/

@[simp] theorem State.ctx'_pending (s : State) (id : Nat) (f : Ctx → Ctx) : (s.ctx' id f).pending = s.pending := rfl
@[simp] theorem State.path'_pending (s : State) (id : Nat) (f : Path → Path) : (s.path' id f).pending = s.pending := rfl
@[simp] theorem State.pathFor_pending (s : State) (head : Nat) (fabric : Bool) : (s.pathFor head fabric).1.pending = s.pending := by
  unfold State.pathFor
  (repeat' split) <;> simp
@[simp] theorem State.sendPackets_pending (s : State) (c : Ctx) (m : MsgOut) (pick : Nat → Bool) :
    (s.sendPackets c m pick).pending = s.pending := by
  unfold State.sendPackets
  (repeat' split) <;> simp
@[simp] theorem State.beginEntry_pending (s : State) (c : Ctx) (e : WorkEntry) : (s.beginEntry c e).pending = s.pending := by
  simp [State.beginEntry]
@[simp] theorem State.ensurePath_pending (s : State) (c : Ctx) : (s.ensurePath c).pending = s.pending := by
  simp only [State.ensurePath]
  repeat' split
  any_goals simp
  all_goals exact pending_of_eq ‹_› (by simp)
@[simp] theorem State.pumpAux_pending (s : State) (id n : Nat) : (s.pumpAux id n).pending = s.pending := by
  induction n generalizing s with
  | zero => rfl
  | succ n ih =>
    simp only [State.pumpAux]
    (repeat' split) <;> simp [ih]
@[simp] theorem State.pump_pending (s : State) (id : Nat) : (s.pump id).pending = s.pending := by
  unfold State.pump
  split <;> simp
@[simp] theorem State.pumpAll_pending (s : State) : s.pumpAll.pending = s.pending := by simp [State.pumpAll]
@[simp] theorem State.postEntry_pending (s : State) (id : Nat) (e : WorkEntry) : (s.postEntry id e).pending = s.pending := by
  unfold State.postEntry
  split <;> simp

/-! ## The operations of Machine/VOps -/

@[simp] theorem State.sendReply_pending (s : State) (via : Transport) (r : VReply) : (s.sendReply via r).pending = s.pending := by
  simp [State.sendReply]
@[simp] theorem State.deliverAs_pending (s : State) (own : Bool) (via : Transport) (r : VReply) :
    (s.deliverAs own via r).pending = s.pending := by simp [State.deliverAs]
@[simp] theorem State.turnAway_pending (s : State) (q : VReq) (op : Nat) (st : VStatus) : (s.turnAway q op st).pending = s.pending := by
  simp [State.turnAway]
@[simp] theorem State.loseNotice_pending (s : State) (handle : Nat) (payload : Bytes) :
    (s.loseNotice handle payload).pending = s.pending := rfl
@[simp] theorem State.freePlace_pending (s : State) (x : Session) : (s.freePlace x).pending = s.pending := by
  unfold State.freePlace
  (repeat' split) <;> simp
@[simp] theorem State.takeIn_pending (s : State) (op : Nat) (q : VReq) : (s.takeIn op q).pending = s.pending := by
  unfold State.takeIn
  split <;> simp
@[simp] theorem State.issueConfirm_pending (s : State) (o : VOp) (q : VReq) : (s.issueConfirm o q).pending = s.pending := by
  simp [State.issueConfirm]
@[simp] theorem State.virkan_pending (s : State) (op : Nat) (q : VReq) (body : State → State) (hbody : KeepsQueue body) :
    (s.virkan op q body).pending = s.pending := by
  simp only [State.virkan]
  (repeat' split) <;> simp [hbody.pending]
@[simp] theorem State.closeSession_pending (s : State) (h : Nat) : (s.closeSession h).pending = s.pending := rfl
@[simp] theorem State.closeVia_pending (s : State) (via : Transport) : (s.closeVia via).pending = s.pending := by simp [State.closeVia]

/-! ## The operations of Machine/WaxOps -/

@[simp] theorem State.mirrorPush_pending (s : State) (ctx cookie len off : Nat) :
    (s.mirrorPush ctx cookie len off).pending = s.pending := by simp [State.mirrorPush]
@[simp] theorem State.owe_pending (s : State) (n : After) : (s.owe n).pending = s.pending := by
  unfold State.owe
  split <;> simp
@[simp] theorem State.overwrite_pending (s : State) (ring : WaxRing) (off u : Nat) : (s.overwrite ring off u).pending = s.pending := rfl
@[simp] theorem State.writePad_pending (s : State) (ring : WaxRing) (off u : Nat) : (s.writePad ring off u).pending = s.pending := by
  simp [State.writePad]
@[simp] theorem State.putRec_pending (s : State) (domain : Nat) (cont : Bool) (body : RecBody) (after : List After) :
    (s.putRec domain cont body after).pending = s.pending := by
  simp only [State.putRec]
  (repeat' split) <;> simp
@[simp] theorem State.commitRec_pending (s : State) (domain : Nat) (cont : Bool) (body : RecBody) (after : List After) :
    (s.commitRec domain cont body after).pending = s.pending := by simp [State.commitRec]
@[simp] theorem State.writeLater_pending (s : State) : s.writeLater.pending = s.pending := by simp [State.writeLater]
@[simp] theorem State.commit_pending (s : State) (domain : Nat) (body : RecBody) (after : List After) :
    (s.commit domain body after).pending = s.pending := by simp [State.commit]
@[simp] theorem State.control_pending (s : State) (domain : Nat) (c : CtlChange) (after : List After) :
    (s.control domain c after).pending = s.pending := by simp [State.control]
@[simp] theorem State.mapChange_pending (s : State) (domain : Nat) (items : List MapItem) (after : List After) :
    (s.mapChange domain items after).pending = s.pending := by simp [State.mapChange]
@[simp] theorem State.refChange_pending (s : State) (domain : Nat) (items : List RefItem) :
    (s.refChange domain items).pending = s.pending := by simp [State.refChange]
@[simp] theorem State.ringRelease_pending (s : State) (ords : List Nat) : (s.ringRelease ords).pending = s.pending := by
  simp [State.ringRelease]
@[simp] theorem State.commitChain_pending (s : State) (domain : Nat) (after : List After) (l : List RecBody) :
    (s.commitChain domain after l).pending = s.pending := by
  fun_induction State.commitChain s domain after l <;> simp [*]
@[simp] theorem State.writeEntry_pending (s : State) (e : JournalEntry) : (s.writeEntry e).pending = s.pending := by
  simp [State.writeEntry]
@[simp] theorem State.journal_pending (s : State) (kind ord : Nat) (body : List Nat) (members : List Member) :
    (s.journal kind ord body members).pending = s.pending := by
  simp only [State.journal]
  split <;> simp
@[simp] theorem State.judgeRings_pending (s : State) : s.judgeRings.pending = s.pending := by simp [State.judgeRings]

/-! ## The operations of Machine/Tables2 -/

@[simp] theorem State.chunk'_pending (s : State) (id : Nat) (f : Chunk → Chunk) : (s.chunk' id f).pending = s.pending := rfl
@[simp] theorem State.putChunk_pending (s : State) (c : Chunk) : (s.putChunk c).pending = s.pending := rfl
@[simp] theorem State.addRef_pending (s : State) (id : Nat) (delta : Int) : (s.addRef id delta).pending = s.pending := by
  simp [State.addRef]
@[simp] theorem State.stripe'_pending (s : State) (ord : Nat) (f : Stripe → Stripe) : (s.stripe' ord f).pending = s.pending := rfl
@[simp] theorem State.addLive_pending (s : State) (ord : Nat) (n : Int) : (s.addLive ord n).pending = s.pending := rfl
@[simp] theorem State.set'_pending (s : State) (link die block : Nat) (f : BlockSet → BlockSet) :
    (s.set' link die block f).pending = s.pending := rfl
@[simp] theorem State.holdUnits_pending (s : State) (ms : List Member) (n : Int) : (s.holdUnits ms n).pending = s.pending := by
  simp [State.holdUnits]
@[simp] theorem State.dropFp_pending (s : State) (chunk : Nat) : (s.dropFp chunk).pending = s.pending := rfl
@[simp] theorem State.evictKeys_pending (s : State) (keep : Nat) : (s.evictKeys keep).pending = s.pending := by simp [State.evictKeys]
@[simp] theorem State.beginFilter_pending (s : State) : s.beginFilter.pending = s.pending := by simp [State.beginFilter]
@[simp] theorem State.restartFilter_pending (s : State) : s.restartFilter.pending = s.pending := by simp [State.restartFilter]
@[simp] theorem State.releaseStripe_pending (s : State) (ord : Nat) : (s.releaseStripe ord).pending = s.pending := by
  unfold State.releaseStripe
  split <;> simp
@[simp] theorem State.page'_pending (s : State) (d key : Nat) (f : MapPage → MapPage) : (s.page' d key f).pending = s.pending := rfl
@[simp] theorem State.addPage_pending (s : State) (p : MapPage) : (s.addPage p).pending = s.pending := rfl
@[simp] theorem State.shareKids_pending (s : State) (d : Nat) (kids : List (Nat × Nat)) : (s.shareKids d kids).pending = s.pending := by
  simp [State.shareKids]
@[simp] theorem State.ownPage_pending (s : State) (d key : Nat) : (s.ownPage d key).1.pending = s.pending := by
  unfold State.ownPage
  split <;> simp
@[simp] theorem State.setLeaf_pending (s : State) (d key k chunk : Nat) (zero : Bool) :
    (s.setLeaf d key k chunk zero).pending = s.pending := by
  unfold State.setLeaf
  split <;> simp
@[simp] theorem State.mapSet_pending (s : State) (d n key k chunk : Nat) (zero : Bool) :
    (s.mapSet d n key k chunk zero).1.pending = s.pending := by
  induction n generalizing s key with
  | zero => simp [State.mapSet]
  | succ n ih =>
    simp only [State.mapSet, ih, State.page'_pending]
    split <;> simp
@[simp] theorem State.ns'_pending (s : State) (nsid : Nat) (f : Namespace → Namespace) : (s.ns' nsid f).pending = s.pending := rfl
@[simp] theorem State.domain'_pending (s : State) (d : Nat) (f : Domain → Domain) : (s.domain' d f).pending = s.pending := rfl
@[simp] theorem State.nsSet_pending (s : State) (nsid k chunk : Nat) (zero : Bool) : (s.nsSet nsid k chunk zero).pending = s.pending := by
  unfold State.nsSet
  split <;> simp
@[simp] theorem State.growTree_pending (s : State) (d n n' : Nat) : (s.growTree d n n').1.pending = s.pending := by
  fun_induction State.growTree s d n n' <;> simp [*]
@[simp] theorem State.copyRoot_pending (s : State) (d root : Nat) : (s.copyRoot d root).1.pending = s.pending := by
  unfold State.copyRoot
  split <;> simp
@[simp] theorem State.snapFreeze_pending (s : State) (nsid snap tick : Nat) (label : Bytes) :
    (s.snapFreeze nsid snap tick label).pending = s.pending := by
  unfold State.snapFreeze
  split <;> simp
@[simp] theorem State.nsClone_pending (s : State) (src snap new : Nat) : (s.nsClone src snap new).pending = s.pending := by
  unfold State.nsClone
  split <;> simp
@[simp] theorem State.treeDrop_pending (s : State) (nsid snap : Nat) : (s.treeDrop nsid snap).pending = s.pending := by
  unfold State.treeDrop
  (repeat' split) <;> simp
@[simp] theorem State.pageDrop_pending (s : State) (d key : Nat) : (s.pageDrop d key).pending = s.pending := by
  unfold State.pageDrop
  split <;> simp
@[simp] theorem State.ledgerAdd_pending (s : State) (e : LedgerEntry) : (s.ledgerAdd e).pending = s.pending := by simp [State.ledgerAdd]
@[simp] theorem State.ledgerKeep_pending (s : State) (p : LedgerEntry → Bool) : (s.ledgerKeep p).pending = s.pending := by
  simp [State.ledgerKeep]
@[simp] theorem State.ledgerDrop_pending (s : State) (d : Nat) (old : Place) : (s.ledgerDrop d old).pending = s.pending := by
  simp [State.ledgerDrop]
@[simp] theorem State.withLink_pending (s : State) (link : Nat) : (s.withLink link).pending = s.pending := by simp [State.withLink]

/-! ## The operations of Machine/Apply -/

@[simp] theorem State.obj'_pending (s : State) (key : Nat) (f : Obj → Obj) : (s.obj' key f).pending = s.pending := rfl
@[simp] theorem State.shipAppend_pending (s : State) (head ord tick domain : Nat) (items : List ShipItem) (chunks : List Nat) :
    (s.shipAppend head ord tick domain items chunks).pending = s.pending := by simp [State.shipAppend]
@[simp] theorem State.shipTrim_pending (s : State) (g seq : Nat) : (s.shipTrim g seq).pending = s.pending := by
  unfold State.shipTrim
  split <;> simp
@[simp] theorem State.dropBase_pending (s : State) (g : Nat) : (s.dropBase g).pending = s.pending := by
  unfold State.dropBase
  split <;> simp
@[simp] theorem State.addNs_pending (s : State) (domain nsid size : Nat) (mode : Discard) :
    (s.addNs domain nsid size mode).pending = s.pending := by simp [State.addNs]
@[simp] theorem State.resizeNs_pending (s : State) (nsid size : Nat) : (s.resizeNs nsid size).pending = s.pending := by
  unfold State.resizeNs
  split <;> simp
@[simp] theorem State.dropObjs_pending (s : State) (d : Nat) : (s.dropObjs d).pending = s.pending := by simp [State.dropObjs]
@[simp] theorem State.dropDomain_pending (s : State) (d : Nat) : (s.dropDomain d).pending = s.pending := by simp [State.dropDomain]
@[simp] theorem State.addDomain_pending (s : State) (d : Nat) (side : Side) (horizon : Nat) (replica : Bool) :
    (s.addDomain d side horizon replica).pending = s.pending := by simp [State.addDomain]
@[simp] theorem State.unlive_pending (s : State) (c : Chunk) : (s.unlive c).pending = s.pending := by simp [State.unlive]
@[simp] theorem State.placeChunk_pending (s : State) (id domain tick : Nat) (new : Place) (len hive : Nat) (old : Place) :
    (s.placeChunk id domain tick new len hive old).pending = s.pending := by
  simp only [State.placeChunk]
  split <;> simp
@[simp] theorem State.objectCreate_pending (s : State) (d key top len tick : Nat) (token digest : Bytes) (multi : Bool) :
    (s.objectCreate d key top len tick token digest multi).pending = s.pending := by simp [State.objectCreate]
@[simp] theorem State.nsZeros_pending (s : State) (nsid n n' : Nat) : (s.nsZeros nsid n n').pending = s.pending := by
  fun_induction State.nsZeros s nsid n n' <;> simp [*]
@[simp] theorem State.blockState_pending (s : State) (link die block : Nat) (st : BlockState) (qlc : Bool) (use : BlockUse)
    (pe grown : Nat) : (s.blockState link die block st qlc use pe grown).pending = s.pending := by simp [State.blockState]
@[simp] theorem State.mapItem_pending (s : State) (sd : Side) (tick : Nat) (n : MapItem) : (s.mapItem sd tick n).pending = s.pending := by
  unfold State.mapItem
  (repeat' split) <;> simp
@[simp] theorem State.shipItem_pending (s : State) (tick : Nat) (tops : List (Bytes × List Nat)) (n : ShipItem) :
    (s.shipItem tick tops n).pending = s.pending := by
  unfold State.shipItem
  (repeat' split) <;> simp
@[simp] theorem State.switchBase_pending (s : State) (r : Replica) (seq ord src tick : Nat) :
    (s.switchBase r seq ord src tick).pending = s.pending := by
  simp only [State.switchBase]
  (repeat' split) <;> simp (disch := (simp only [keepsQueue_iff]; intros; (repeat' split) <;> simp))
@[simp] theorem State.applySetting_pending (s : State) (i : Item) : (s.applySetting i).pending = s.pending := by simp [State.applySetting]
@[simp] theorem State.shipSettings_pending (s : State) (head ord tick : Nat) (items : List Item) :
    (s.shipSettings head ord tick items).pending = s.pending := by simp [State.shipSettings]
@[simp] theorem State.reseal_pending (s : State) : s.reseal.pending = s.pending := rfl
@[simp] theorem State.takeApiary_pending (s : State) (a : Nat) : (s.takeApiary a).pending = s.pending := by simp [State.takeApiary]
@[simp] theorem State.applyCtl_pending (s : State) (sd : Side) (ord tick : Nat) (n : CtlChange) :
    (s.applyCtl sd ord tick n).pending = s.pending := by
  unfold State.applyCtl
  (repeat' split) <;> simp
@[simp] theorem State.applyKey_pending (s : State) (ord tick : Nat) (sd : Side) (kind : KeyChangeKind) (cls domain dgen : Nat)
    (body : Option DomainKeys) (ckey : Bytes) : (s.applyKey ord tick sd kind cls domain dgen body ckey).pending = s.pending := by
  simp only [State.applyKey]
  (repeat' split) <;> simp
@[simp] theorem State.applyPut_pending (s : State) (sd : Side) (ord tick : Nat) (d : PutDesc) :
    (s.applyPut sd ord tick d).pending = s.pending := by
  simp only [State.applyPut]
  (repeat' split) <;> simp
@[simp] theorem State.enterChunk_pending (s : State) (ord hive : Nat) (e : EnvEntry) : (s.enterChunk ord hive e).pending = s.pending := by
  simp [State.enterChunk]
@[simp] theorem State.addStripe_pending (s : State) (sd : Side) (ord hive : Nat) (region : Region) (purpose : Purpose) (ms : List Member)
    (used epoch live openTick commitOrd tick : Nat) (envs : List EnvEntry) :
    (s.addStripe sd ord hive region purpose ms used epoch live openTick commitOrd tick envs).pending = s.pending := by
  simp [State.addStripe]
@[simp] theorem State.applyStripe_pending (s : State) (sd : Side) (rec tick ord hive : Nat) (region : Region) (purpose : Purpose)
    (ms : List Member) (used epoch : Nat) (envs : List EnvEntry) (openTick : Nat) :
    (s.applyStripe sd rec tick ord hive region purpose ms used epoch envs openTick).pending = s.pending := by
  simp only [State.applyStripe]
  (repeat' split) <;> simp (disch := (simp only [keepsQueue_iff]; intros; (repeat' split) <;> simp))
@[simp] theorem State.giveUnits_pending (s : State) (units : List OwnUnit) (sd : Side) : (s.giveUnits units sd).pending = s.pending := by
  unfold State.giveUnits
  refine foldl_pending_of (fun _ _ => ?_) _ _
  (repeat' split) <;> simp
@[simp] theorem State.endFrame_pending (s : State) (id status : Nat) : (s.endFrame id status).pending = s.pending := rfl
@[simp] theorem State.notePeer_pending (s : State) (items : List Item) : (s.notePeer items).pending = s.pending := by simp [State.notePeer]
@[simp] theorem State.peerSchedules_pending (s : State) (f : Frame) : (s.peerSchedules f).pending = s.pending := rfl
@[simp] theorem State.peerFrameEnds_pending (s : State) (head ord tick id status : Nat) :
    (s.peerFrameEnds head ord tick id status).pending = s.pending := by simp [State.peerFrameEnds]
@[simp] theorem State.endReleased_pending (s : State) (chunk : Nat) (delta : Int) : (s.endReleased chunk delta).pending = s.pending := by
  unfold State.endReleased
  split <;> simp
@[simp] theorem State.shipMap_pending (s : State) (sd : Side) (ord tick domain : Nat) (items : List MapItem) :
    (s.shipMap sd ord tick domain items).pending = s.pending := by simp [State.shipMap]
@[simp] theorem State.applyBody_pending (s : State) (sd : Side) (ord tick domain : Nat) (continued : Bool) (n : RecBody) :
    (s.applyBody sd ord tick domain continued n).pending = s.pending := by
  unfold State.applyBody
  (repeat' split) <;> simp

/-! ## The operations of Machine/BootOps -/

@[simp] theorem State.ledgerRec_pending (s : State) (kind step outcome attempt failCode dur : Nat) (detail : Bytes) :
    (s.ledgerRec kind step outcome attempt failCode dur detail).pending = s.pending := rfl
@[simp] theorem State.bankSelect_pending (s : State) (bank state fallback version tick : Nat) :
    (s.bankSelect bank state fallback version tick).pending = s.pending := rfl
@[simp] theorem State.extend_pending (s : State) (tally step source index : Nat) (obj : Bytes) :
    (s.extend tally step source index obj).pending = s.pending := rfl
@[simp] theorem State.silence_pending (s : State) : s.silence.pending = s.pending := rfl
@[simp] theorem State.resetDevice_pending (s : State) (cause : Nat) : (s.resetDevice cause).pending = s.pending := rfl
@[simp] theorem State.resetNow_pending (s : State) (cause : Nat) : (s.resetNow cause).pending = s.pending := rfl
@[simp] theorem State.fatalStop_pending (s : State) (code : Nat) (detail : Bytes) : (s.fatalStop code detail).pending = s.pending := by
  simp [State.fatalStop]

/-! ## The operations of Machine/NvOps -/

@[simp] theorem State.cqe_pending (s : State) (ctrl qid cid sct sc : Nat) (dnr : Bool) (dw0 : BitVec 32) (data : Bytes) :
    (s.cqe ctrl qid cid sct sc dnr dw0 data).pending = s.pending := by simp [State.cqe]
@[simp] theorem State.dropCmd_pending (s : State) (ctrl qid cid : Nat) : (s.dropCmd ctrl qid cid).pending = s.pending := rfl
@[simp] theorem State.stream'_pending (s : State) (key id : Nat) (f : OStream → OStream) : (s.stream' key id f).pending = s.pending := rfl
@[simp] theorem State.drainStream_pending (s : State) (key id n : Nat) : (s.drainStream key id n).pending = s.pending := by
  fun_induction State.drainStream s key id n <;> simp [*]
@[simp] theorem State.endCmd_pending (s : State) (ctrl qid cid dw0 : Nat) : (s.endCmd ctrl qid cid dw0).pending = s.pending := by
  unfold State.endCmd
  (repeat' split) <;> simp
@[simp] theorem State.failCmd_pending (s : State) (ctrl qid cid sct sc : Nat) (dnr : Bool) :
    (s.failCmd ctrl qid cid sct sc dnr).pending = s.pending := by simp [State.failCmd]
@[simp] theorem State.ctrl'_pending (s : State) (id : Nat) (f : Ctrl → Ctrl) : (s.ctrl' id f).pending = s.pending := rfl
@[simp] theorem State.aerOne_pending (s : State) (id n : Nat) : (s.aerOne id n).pending = s.pending := by
  fun_induction State.aerOne s id n <;> simp [*]
@[simp] theorem State.aerPump_pending (s : State) : s.aerPump.pending = s.pending := by simp [State.aerPump]
@[simp] theorem State.aerDomain_pending (s : State) (domain : Nat) (f : Aer → Aer) : (s.aerDomain domain f).pending = s.pending := rfl
@[simp] theorem State.raiseNs_pending (s : State) (domain nsid : Nat) : (s.raiseNs domain nsid).pending = s.pending := by
  simp [State.raiseNs]
@[simp] theorem State.raiseAna_pending (s : State) (domain : Nat) : (s.raiseAna domain).pending = s.pending := by simp [State.raiseAna]
@[simp] theorem State.raiseSmart_pending (s : State) (domain : Nat) : (s.raiseSmart domain).pending = s.pending := by
  simp [State.raiseSmart]

/-! ## The operations of Machine/Accept -/

@[simp] theorem State.judgeFlash_pending (s : State) : s.judgeFlash.pending = s.pending := rfl
@[simp] theorem State.releaseDone_pending (s : State) (ords : List Nat) : (s.releaseDone ords).pending = s.pending := by
  simp [State.releaseDone]
@[simp] theorem State.addPending_pending (s : State) (items : List (Nat × MapItem)) : (s.addPending items).pending = s.pending := rfl
@[simp] theorem State.flushMap_pending (s : State) : s.flushMap.pending = s.pending := by simp [State.flushMap]
@[simp] theorem State.judgeJournal_pending (s : State) : s.judgeJournal.pending = s.pending := rfl
@[simp] theorem State.frame'_pending (s : State) (id : Nat) (peer : Bool) (f : Frame → Frame) :
    (s.frame' id peer f).pending = s.pending := rfl
@[simp] theorem State.frameScheduled_pending (s : State) (id ord : Nat) : (s.frameScheduled id ord).pending = s.pending := by
  unfold State.frameScheduled
  (repeat' split) <;> simp
@[simp] theorem State.confirmBank_pending (s : State) : s.confirmBank.pending = s.pending := by simp [State.confirmBank]
@[simp] theorem State.anaUnits_pending (s : State) (us : List OwnUnit) : (s.anaUnits us).pending = s.pending := by
  unfold State.anaUnits
  refine foldl_pending_of (fun _ _ => ?_) _ _
  (repeat' split) <;> simp
@[simp] theorem State.takeoverEnds_pending (s : State) : s.takeoverEnds.pending = s.pending := by simp [State.takeoverEnds]
@[simp] theorem State.followOne_pending (s : State) (n : After) : (s.followOne n).pending = s.pending := by
  unfold State.followOne
  split <;> simp
@[simp] theorem State.landed_pending (s : State) (ord rec : Nat) : (s.landed ord rec).pending = s.pending := by simp [State.landed]
@[simp] theorem State.charge_pending (s : State) (n : Nat) : (s.charge n).pending = s.pending := rfl
@[simp] theorem State.releaseIf_pending (s : State) (moves : Bool) (ords : List Nat) : (s.releaseIf moves ords).pending = s.pending := by
  simp [State.releaseIf]
@[simp] theorem State.releaseEmpty_pending (s : State) (ords : List Nat) : (s.releaseEmpty ords).pending = s.pending := by
  simp [State.releaseEmpty]
@[simp] theorem State.dirtySet_pending (s : State) (b : BlockSet) : (s.dirtySet b).pending = s.pending := by simp [State.dirtySet]
@[simp] theorem State.dirtySets_pending (s : State) : s.dirtySets.pending = s.pending := by simp [State.dirtySets]
@[simp] theorem State.askRepair_pending (s : State) (e : EnvEntry) : (s.askRepair e).pending = s.pending := by
  unfold State.askRepair
  split <;> simp
@[simp] theorem State.promote_pending (s : State) (rec : Nat) : (s.promote rec).pending = s.pending := by
  unfold State.promote
  split <;> simp
@[simp] theorem State.replaced_pending (s : State) (link : Nat) : (s.replaced link).pending = s.pending := by
  unfold State.replaced
  split <;> simp
@[simp] theorem State.follow_pending (s : State) (r : WaxRec) : (s.follow r).pending = s.pending := by
  simp only [State.follow]
  (repeat' split) <;> simp (disch := (simp only [keepsQueue_iff]; intros; (repeat' split) <;> simp))
@[simp] theorem State.acceptRec_pending (s : State) (r : WaxRec) : (s.acceptRec r).pending = s.pending := by simp [State.acceptRec]
@[simp] theorem State.acceptAux_pending (s : State) (n : Nat) : (s.acceptAux n).pending = s.pending := by
  induction n generalizing s with
  | zero => rfl
  | succ n ih =>
    unfold State.acceptAux
    (repeat' split) <;> simp [ih]
@[simp] theorem State.accept_pending (s : State) : s.accept.pending = s.pending := by simp [State.accept]

/-! ## The operations of Machine/LinkOps -/

@[simp] theorem State.lane_pending (s : State) (link : Nat) (toHead : Bool) (port : Side) (f : LFrame) :
    (s.lane link toHead port f).pending = s.pending := rfl
@[simp] theorem State.resendFrames_pending (s : State) (link : Nat) (fs : List LFrame) : (s.resendFrames link fs).pending = s.pending := by
  simp [State.resendFrames]
@[simp] theorem State.fromHead_pending (s : State) (link : Nat) (f : LFrame) : (s.fromHead link f).pending = s.pending := by
  unfold State.fromHead
  split <;> simp
@[simp] theorem State.headPump_pending (s : State) (link : Nat) : (s.headPump link).pending = s.pending := by
  unfold State.headPump
  split <;> simp
@[simp] theorem State.sendRegRead_pending (s : State) (link first count : Nat) : (s.sendRegRead link first count).pending = s.pending := by
  simp [State.sendRegRead]
@[simp] theorem State.sendTask_pending (s : State) (link : Nat) (op : TaskOp) (die block page : Nat) (arg : BitVec 32) (use : TaskUse)
    (data spares : List Bytes) : (s.sendTask link op die block page arg use data spares).pending = s.pending := by
  unfold State.sendTask
  split <;> simp

/-! ## The operations of Machine/BridgeOps -/

@[simp] theorem State.die'_pending (s : State) (link die : Nat) (f : Die → Die) : (s.die' link die f).pending = s.pending := rfl
@[simp] theorem State.toHead_pending (s : State) (link : Nat) (port : Side) (f : LFrame) : (s.toHead link port f).pending = s.pending := by
  unfold State.toHead
  split <;> simp
@[simp] theorem State.bridgePump_pending (s : State) (link : Nat) (port : Side) : (s.bridgePump link port).pending = s.pending := by
  unfold State.bridgePump
  split <;> simp
@[simp] theorem State.bridgeDone_pending (s : State) (link : Nat) (port : Side) (h : TaskHdr) (w : StatusWord) :
    (s.bridgeDone link port h w).pending = s.pending := by simp [State.bridgeDone]
@[simp] theorem State.bridgeAck_pending (s : State) (link : Nat) (port : Side) : (s.bridgeAck link port).pending = s.pending := by
  unfold State.bridgeAck
  split <;> simp
@[simp] theorem State.bridgeNak_pending (s : State) (link : Nat) (port : Side) : (s.bridgeNak link port).pending = s.pending := by
  unfold State.bridgeNak
  split <;> simp
@[simp] theorem State.bridgeTook_pending (s : State) (link : Nat) (port : Side) : (s.bridgeTook link port).pending = s.pending := by
  simp [State.bridgeTook]
@[simp] theorem State.bridgeResend_pending (s : State) (link : Nat) (port : Side) (from_ : BitVec 12) :
    (s.bridgeResend link port from_).pending = s.pending := by
  unfold State.bridgeResend
  split <;> simp
@[simp] theorem State.cutProgram_pending (s : State) (link : Nat) (port : Side) (h : TaskHdr) :
    (s.cutProgram link port h).pending = s.pending := by
  unfold State.cutProgram
  (repeat' split) <;> simp
@[simp] theorem State.eraseGoesOn_pending (s : State) (link : Nat) (r : SuspErase) : (s.eraseGoesOn link r).pending = s.pending := by
  simp [State.eraseGoesOn]
@[simp] theorem State.dieAccepts_pending (s : State) (link : Nat) (port : Side) (h : TaskHdr) :
    (s.dieAccepts link port h).pending = s.pending := by
  unfold State.dieAccepts
  (repeat' split) <;> simp
@[simp] theorem State.dieRefuses_pending (s : State) (link : Nat) (port : Side) (h : TaskHdr) (w : StatusWord) :
    (s.dieRefuses link port h w).pending = s.pending := by simp [State.dieRefuses]
@[simp] theorem State.dieTask_pending (s : State) (link : Nat) (port : Side) (h : TaskHdr) :
    (s.dieTask link port h).pending = s.pending := by
  simp only [State.dieTask]
  (repeat' split) <;> simp
@[simp] theorem State.fenceTask_pending (s : State) (link : Nat) (port : Side) (h : TaskHdr) (wins : Bridge → Bool) (epoch : Nat) :
    (s.fenceTask link port h wins epoch).pending = s.pending := by
  unfold State.fenceTask
  split <;> simp
@[simp] theorem State.badTask_pending (s : State) (link : Nat) (port : Side) (f : LFrame) :
    (s.badTask link port f).pending = s.pending := by
  simp only [State.badTask]
  split <;> simp
@[simp] theorem State.sendPage_pending (s : State) (link : Nat) (port : Side) (h : TaskHdr) (plane : Nat) (p : Option NandPage)
    (w : StatusWord) : (s.sendPage link port h plane p w).pending = s.pending := by
  unfold State.sendPage
  split <;> simp
@[simp] theorem State.endRead_pending (s : State) (link : Nat) (b : Bridge) (d : Die) (e : DieExec) (good : Bool) :
    (s.endRead link b d e good).pending = s.pending := by simp [State.endRead]
@[simp] theorem State.endProgram_pending (s : State) (link : Nat) (d : Die) (e : DieExec) (good : Bool) :
    (s.endProgram link d e good).pending = s.pending := by simp [State.endProgram]
@[simp] theorem State.endErase_pending (s : State) (link : Nat) (d : Die) (e : DieExec) (good : Bool) :
    (s.endErase link d e good).pending = s.pending := by simp [State.endErase]
@[simp] theorem State.bridgeData_pending (s : State) (link : Nat) (port : Side) (f : LFrame) :
    (s.bridgeData link port f).pending = s.pending := by simp [State.bridgeData]
@[simp] theorem State.bridgeHears_pending (s : State) (link : Nat) (port : Side) (f : LFrame) (act : State → State)
    (hact : KeepsQueue act) : (s.bridgeHears link port f act).pending = s.pending := by
  unfold State.bridgeHears
  (repeat' split) <;> simp [hact.pending]
@[simp] theorem State.bridgeFrame_pending (s : State) (link : Nat) (port : Side) (f : LFrame) (act : State → State) (hact : KeepsQueue act) :
    (s.bridgeFrame link port f act).pending = s.pending := by
  refine State.bridgeHears_pending _ _ _ _ _ fun t => ?_
  split
  · rfl
  · simp [hact.pending]
@[simp] theorem State.taskFrame_pending (s : State) (link : Nat) (port : Side) (f : LFrame) (op : TaskOp) :
    (s.taskFrame link port f op).pending = s.pending := by simp [State.taskFrame]

/-! ## The operations of Machine/Bridge -/

@[simp] theorem execTaskRead_queueKept (link : Nat) (port : Side) (f : LFrame) (s : State) :
    QueueKept (execTaskRead link port f s) s.pending := by simp [execTaskRead]
@[simp] theorem execTaskSeqRead_queueKept (link : Nat) (port : Side) (f : LFrame) (s : State) :
    QueueKept (execTaskSeqRead link port f s) s.pending := by simp [execTaskSeqRead]
@[simp] theorem execTaskProgramSlc_queueKept (link : Nat) (port : Side) (f : LFrame) (s : State) :
    QueueKept (execTaskProgramSlc link port f s) s.pending := by simp [execTaskProgramSlc]
@[simp] theorem execTaskProgramQlc_queueKept (link : Nat) (port : Side) (f : LFrame) (s : State) :
    QueueKept (execTaskProgramQlc link port f s) s.pending := by simp [execTaskProgramQlc]
@[simp] theorem execTaskErase_queueKept (link : Nat) (port : Side) (f : LFrame) (s : State) :
    QueueKept (execTaskErase link port f s) s.pending := by simp [execTaskErase]
@[simp] theorem execEraseSuspend_queueKept (link : Nat) (port : Side) (f : LFrame) (s : State) :
    QueueKept (execEraseSuspend link port f s) s.pending := by simp [execEraseSuspend]
@[simp] theorem execEraseResume_queueKept (link : Nat) (port : Side) (f : LFrame) (s : State) :
    QueueKept (execEraseResume link port f s) s.pending := by simp [execEraseResume]
@[simp] theorem execEraseAutoResume_queueKept (link die : Nat) (s : State) : QueueKept (execEraseAutoResume link die s) s.pending := by
  unfold execEraseAutoResume
  (repeat' split) <;> simp
@[simp] theorem execFenceRaise_queueKept (link : Nat) (port : Side) (f : LFrame) (s : State) :
    QueueKept (execFenceRaise link port f s) s.pending := by simp [execFenceRaise]
@[simp] theorem execFenceAdopt_queueKept (link : Nat) (port : Side) (f : LFrame) (s : State) :
    QueueKept (execFenceAdopt link port f s) s.pending := by simp [execFenceAdopt]
@[simp] theorem execDieTaskDone_queueKept (link die : Nat) (good : Bool) (s : State) :
    QueueKept (execDieTaskDone link die good s) s.pending := by
  unfold execDieTaskDone
  (repeat' split) <;> simp
@[simp] theorem execFavouredPortExpiry_queueKept (link die : Nat) (s : State) :
    QueueKept (execFavouredPortExpiry link die s) s.pending := by simp [execFavouredPortExpiry]
@[simp] theorem execRegRead_queueKept (link : Nat) (port : Side) (f : LFrame) (count : Nat) (s : State) :
    QueueKept (execRegRead link port f count s) s.pending := by
  simp only [execRegRead]
  (repeat' split) <;> simp (disch := (simp only [keepsQueue_iff]; intros; (repeat' split) <;> simp))

/-! ## The operations of Machine/StripeOps -/

@[simp] theorem State.allocStripe_pending (s : State) : s.allocStripe.1.pending = s.pending := by simp [State.allocStripe]
@[simp] theorem State.noteProg_pending (s : State) (link die : Nat) : (s.noteProg link die).pending = s.pending := rfl
@[simp] theorem State.setBlock_pending (s : State) (link die block : Nat) (st : BlockState) (qlc : Bool) (use : BlockUse) :
    (s.setBlock link die block st qlc use).pending = s.pending := by simp [State.setBlock]
@[simp] theorem State.takeOn_pending (s : State) (l : Link) (die : Nat) (use : BlockUse) (qlc : Bool) (need : Nat) :
    (s.takeOn l die use qlc need).1.pending = s.pending := by
  delta State.takeOn
  extract_lets old t pick
  have hpick : pick.1.pending = s.pending := by
    have ht : t.pending = s.pending := by
      unfold t
      clear_value old
      split <;> simp
    unfold pick
    clear_value old t
    (repeat' split) <;> simp [ht]
  clear_value pick
  obtain ⟨u, _ | blk⟩ := pick
  · exact hpick
  · simpa using hpick
@[simp] theorem State.takeFirst_pending (s : State) (l : Link) (use : BlockUse) (qlc : Bool) (need : Nat) (ds : List Nat) :
    (s.takeFirst l use qlc need ds).1.pending = s.pending := by
  induction ds generalizing s with
  | nil => rfl
  | cons d ds ih =>
    unfold State.takeFirst
    split
    · exact pending_of_eq ‹_› (State.takeOn_pending ..)
    · exact ih s
@[simp] theorem State.takeUnit_pending (s : State) (link : Nat) (use : BlockUse) (qlc : Bool) (need : Nat) :
    (s.takeUnit link use qlc need).1.pending = s.pending := by
  unfold State.takeUnit
  split <;> simp
@[simp] theorem State.takeAll_pending (s : State) (use : BlockUse) (qlc : Bool) (need : Nat) (ls : List Nat) (acc : List Member) :
    (s.takeAll use qlc need ls acc).1.pending = s.pending := by
  induction ls generalizing s acc with
  | nil => rfl
  | cons l ls ih =>
    unfold State.takeAll
    split
    · rw [ih]; exact pending_of_eq ‹_› (State.takeUnit_pending ..)
    · exact pending_of_eq ‹_› (State.takeUnit_pending ..)
@[simp] theorem State.openStripeBut_pending (s : State) (hive lane : Nat) (region : Region) (purpose : Purpose) (avoid : Option Nat) :
    (s.openStripeBut hive lane region purpose avoid).1.pending = s.pending := by
  delta State.openStripeBut
  extract_lets combs avoid n u
  have hu : u.pending = s.pending := by
    unfold u
    clear_value avoid n
    split <;> simp
  clear_value u
  split
  · simp
  split
  · rfl
  split
  · exact pending_of_eq ‹_› (by simp [hu])
  have hord := pending_of_eq ‹u.allocStripe = _› (State.allocStripe_pending u)
  split
  · exact pending_of_eq ‹_› (by simp [hord, hu])
  · have hms := pending_of_eq ‹State.takeAll .. = _› (State.takeAll_pending ..)
    simp [hms, hord, hu]
@[simp] theorem State.openStripe_pending (s : State) (hive lane : Nat) (region : Region) (purpose : Purpose) :
    (s.openStripe hive lane region purpose).1.pending = s.pending := by simp [State.openStripe]
@[simp] theorem State.open'_pending (s : State) (ord : Nat) (f : OpenStripe → OpenStripe) : (s.open' ord f).pending = s.pending := rfl
@[simp] theorem State.placeEnv_pending (s : State) (ord : Nat) (e : EnvEntry) (recs : List Nat) (old : Option Place) (bytes : Bytes) :
    (s.placeEnv ord e recs old bytes).pending = s.pending := by simp [State.placeEnv]
@[simp] theorem State.unitSent_pending (s : State) (r : Region) (m : Member) (n : Nat) : (s.unitSent r m n).pending = s.pending := rfl
@[simp] theorem State.replaceUnit_pending (s : State) (t : OpenStripe) (m : Nat) : (s.replaceUnit t m).1.pending = s.pending := by
  simp only [State.replaceUnit]
  repeat' split
  any_goals simp
  all_goals exact pending_of_eq ‹_› (by simp)
@[simp] theorem State.sendProgram_pending (s : State) (t : OpenStripe) (m part : Nat) : (s.sendProgram t m part).pending = s.pending := by
  unfold State.sendProgram
  (repeat' split) <;> simp
@[simp] theorem State.issuePrograms_pending (s : State) (ord : Nat) : (s.issuePrograms ord).pending = s.pending := by
  unfold State.issuePrograms
  split
  · rfl
  split
  · refine foldl_pending_of (fun _ _ => ?_) _ _
    repeat' split
    any_goals simp
    all_goals exact pending_of_eq ‹_› (State.replaceUnit_pending ..)
  · rfl
@[simp] theorem State.issueAll_pending (s : State) : s.issueAll.pending = s.pending := by simp [State.issueAll]
@[simp] theorem State.closeStripe_pending (s : State) (ord : Nat) : (s.closeStripe ord).pending = s.pending := by
  unfold State.closeStripe
  split <;> simp
@[simp] theorem State.abandonStripe_pending (s : State) (ord : Nat) (link : Option Nat) :
    (s.abandonStripe ord link).pending = s.pending := by
  unfold State.abandonStripe
  split <;> simp
@[simp] theorem State.hiveLost_pending (s : State) (h : Nat) : (s.hiveLost h).pending = s.pending := by simp [State.hiveLost]
@[simp] theorem State.startRebuild_pending (s : State) (h link : Nat) : (s.startRebuild h link).pending = s.pending := by
  simp only [State.startRebuild]
  (repeat' split) <;> simp
@[simp] theorem State.markFailed_pending (s : State) (link : Nat) : (s.markFailed link).pending = s.pending := by
  unfold State.markFailed
  split <;> simp
@[simp] theorem State.grownFault_pending (s : State) (link die block : Nat) : (s.grownFault link die block).pending = s.pending := by
  unfold State.grownFault
  split <;> simp
@[simp] theorem State.failDie_pending (s : State) (link die : Nat) : (s.failDie link die).pending = s.pending := by
  simp only [State.failDie]
  (repeat' split) <;> simp (disch := (simp only [keepsQueue_iff]; intros; (repeat' split) <;> simp))
@[simp] theorem State.retireSet_pending (s : State) (link die block : Nat) : (s.retireSet link die block).pending = s.pending := by
  unfold State.retireSet
  split <;> simp
@[simp] theorem State.scheduleRewrite_pending (s : State) (ord : Nat) : (s.scheduleRewrite ord).pending = s.pending := rfl
@[simp] theorem State.leaveToRewrite_pending (s : State) (ord : Nat) : (s.leaveToRewrite ord).pending = s.pending := rfl

/-! ## The operations of Machine/HiveOps -/

@[simp] theorem State.askToken_pending (s : State) (h prio : Nat) : (s.askToken h prio).pending = s.pending := rfl
@[simp] theorem State.decideDark_pending (s : State) (h : Nat) : (s.decideDark h).pending = s.pending := rfl
@[simp] theorem State.wantUp_pending (s : State) (h : Nat) : (s.wantUp h).pending = s.pending := rfl
@[simp] theorem State.wakeWithin_pending (s : State) (h prio budget : Nat) (awake : List Hive) :
    (s.wakeWithin h prio budget awake).pending = s.pending := by
  unfold State.wakeWithin
  (repeat' split) <;> simp
@[simp] theorem State.askWake_pending (s : State) (h prio : Nat) : (s.askWake h prio).pending = s.pending := by
  unfold State.askWake
  split <;> simp
@[simp] theorem State.askWaiting_pending (s : State) : s.askWaiting.pending = s.pending := by
  unfold State.askWaiting
  refine foldl_pending_of (fun _ _ => ?_) _ _
  (repeat' split) <;> simp
@[simp] theorem State.judgeGather_pending (s : State) (h : Nat) : (s.judgeGather h).pending = s.pending := by
  unfold State.judgeGather
  split <;> simp
@[simp] theorem State.joinGather_pending (s : State) (h : Nat) (e : GatherEntry) : (s.joinGather h e).pending = s.pending := by
  simp [State.joinGather]
@[simp] theorem State.keepGather_pending (s : State) (p : GatherEntry → Bool) : (s.keepGather p).pending = s.pending := rfl
@[simp] theorem State.leaveGather_pending (s : State) (ctrl qid cid : Nat) : (s.leaveGather ctrl qid cid).pending = s.pending := rfl
@[simp] theorem State.hiveReady_pending (s : State) (h : Nat) : (s.hiveReady h).pending = s.pending := by
  unfold State.hiveReady
  split <;> simp
@[simp] theorem State.dormancyReply_pending (s : State) (h : Hive) : (s.dormancyReply h).pending = s.pending := by
  unfold State.dormancyReply
  split <;> simp
@[simp] theorem State.hiveGoneDark_pending (s : State) (h : Nat) : (s.hiveGoneDark h).pending = s.pending := by
  unfold State.hiveGoneDark
  split <;> simp
@[simp] theorem State.tideSwap_pending (s : State) (h : Nat) : (s.tideSwap h).pending = s.pending := by
  unfold State.tideSwap
  (repeat' split) <;> simp
@[simp] theorem State.hiveUnpowered_pending (s : State) (h : Nat) : (s.hiveUnpowered h).pending = s.pending := by
  simp [State.hiveUnpowered]
@[simp] theorem State.shelfOnHoldup_pending (s : State) (h : Nat) : (s.shelfOnHoldup h).pending = s.pending := by
  simp [State.shelfOnHoldup]
@[simp] theorem State.alarmEvents_pending (s : State) (h : Nat) (old new : BitVec 8) : (s.alarmEvents h old new).pending = s.pending := by
  simp [State.alarmEvents]
@[simp] theorem State.judgeHive_pending (s : State) (h : Nat) : (s.judgeHive h).pending = s.pending := by
  unfold State.judgeHive
  (repeat' split) <;> simp
@[simp] theorem State.takeBlock_pending (s : State) (h : Nat) (b : ShelfBlock) : (s.takeBlock h b).pending = s.pending := by
  unfold State.takeBlock
  split <;> simp
@[simp] theorem State.standingVotes_pending (s : State) : s.standingVotes.pending = s.pending := by simp [State.standingVotes]

/-! ## The operations of Machine/Limits -/

@[simp] theorem State.fillBuckets_pending (s : State) : s.fillBuckets.pending = s.pending := rfl
@[simp] theorem State.refill_pending (s : State) : s.refill.pending = s.pending := rfl
@[simp] theorem State.judgeBrood_pending (s : State) : s.judgeBrood.pending = s.pending := by simp [State.judgeBrood]
@[simp] theorem State.judgeLanding_pending (s : State) : s.judgeLanding.pending = s.pending := by simp [State.judgeLanding]
@[simp] theorem State.judgePins_pending (s : State) : s.judgePins.pending = s.pending := by simp [State.judgePins]
@[simp] theorem State.judgeHolds_pending (s : State) : s.judgeHolds.pending = s.pending := by simp [State.judgeHolds]
@[simp] theorem State.countHolds_pending (s : State) : s.countHolds.pending = s.pending := by simp [State.countHolds]

/-! ## The operations of Machine/FrameOps -/

@[simp] theorem State.entryEnds_pending (s : State) : s.entryEnds.pending = s.pending := by
  unfold State.entryEnds
  refine foldl_pending_of (fun _ _ => ?_) _ _
  (repeat' split) <;> simp
@[simp] theorem State.beginFence_pending (s : State) (m : Mode) : (s.beginFence m).pending = s.pending := rfl
@[simp] theorem State.enterMode_pending (s : State) (m : Mode) : (s.enterMode m).pending = s.pending := by simp [State.enterMode]
@[simp] theorem State.autoModeThen_pending (s : State) (m : Mode) (after : List After) : (s.autoModeThen m after).pending = s.pending := by
  simp [State.autoModeThen]
@[simp] theorem State.autoMode_pending (s : State) (m : Mode) : (s.autoMode m).pending = s.pending := by simp [State.autoMode]
@[simp] theorem State.newHive_pending (s : State) (hive mask : Nat) : (s.newHive hive mask).pending = s.pending := by simp [State.newHive]
@[simp] theorem State.attachHive_pending (s : State) (hive mask : Nat) (brood : Bool) (by_ : Side) :
    (s.attachHive hive mask brood by_).pending = s.pending := by simp [State.attachHive]
@[simp] theorem State.combWorks_pending (s : State) (l : Link) : (s.combWorks l).pending = s.pending := by
  simp only [State.combWorks]
  split <;> simp
@[simp] theorem State.superAttach_pending (s : State) (hive mask : Nat) (by_ : Side) :
    (s.superAttach hive mask by_).pending = s.pending := by
  simp only [State.superAttach]
  split <;> simp
@[simp] theorem State.beginRebalance_pending (s : State) (v : Bytes) : (s.beginRebalance v).pending = s.pending := by
  simp [State.beginRebalance]
@[simp] theorem State.changeApiary_pending (s : State) (v : Bytes) : (s.changeApiary v).pending = s.pending := by simp [State.changeApiary]
@[simp] theorem State.takeFormats_pending (s : State) (v : Bytes) : (s.takeFormats v).pending = s.pending := by simp [State.takeFormats]
@[simp] theorem State.applyFrame_pending (s : State) (f : Frame) : (s.applyFrame f).pending = s.pending := by
  unfold State.applyFrame
  refine foldl_pending_of (fun _ _ => ?_) _ _
  (repeat' split) <;> simp
@[simp] theorem State.frameEvent_pending (s : State) (f : Frame) (status : Nat) : (s.frameEvent f status).pending = s.pending := by
  simp [State.frameEvent]
@[simp] theorem State.frameReply_pending (s : State) (f : Frame) (st : VStatus) : (s.frameReply f st).pending = s.pending := by
  unfold State.frameReply
  split <;> simp
@[simp] theorem State.hostAccess_pending (s : State) (d : Nat) : (s.hostAccess d).pending = s.pending := by simp [State.hostAccess]
@[simp] theorem State.colonySettings_pending (s : State) (items : List Item) : (s.colonySettings items).pending = s.pending := by
  simp [State.colonySettings]
@[simp] theorem State.doApply_pending (s : State) (f : Frame) : (s.doApply f).pending = s.pending := by simp [State.doApply]
@[simp] theorem State.doAbort_pending (s : State) (f : Frame) (st : VStatus) : (s.doAbort f st).pending = s.pending := by
  simp [State.doAbort]
@[simp] theorem State.tickFrame_pending (s : State) (f : Frame) : (s.tickFrame f).1.pending = s.pending := by simp [State.tickFrame]
@[simp] theorem State.tickFrames_pending (s : State) (l : List Frame) : (s.tickFrames l).pending = s.pending := by
  induction l generalizing s with
  | nil => rfl
  | cons f l ih => simp [State.tickFrames, ih]
@[simp] theorem State.refuseLate_pending (s : State) : s.refuseLate.pending = s.pending := by
  unfold State.refuseLate
  refine foldl_pending_of (fun _ _ => ?_) _ _
  (repeat' split) <;> simp
@[simp] theorem State.lateCopies_pending (s : State) : s.lateCopies.pending = s.pending := by simp [State.lateCopies]
@[simp] theorem State.internalFrame_pending (s : State) (pair : Bool) (item : Item) (after : List After) :
    (s.internalFrame pair item after).pending = s.pending := by simp [State.internalFrame]
@[simp] theorem State.askFrame_pending (s : State) (w : Waiter) (pair : Bool) (item : Item) (after : List After) :
    (s.askFrame w pair item after).pending = s.pending := by simp [State.askFrame]
@[simp] theorem State.ownInternal_pending (s : State) (pair : Bool) (item : Item) (after : List After) :
    (s.ownInternal pair item after).pending = s.pending := by simp [State.ownInternal]
@[simp] theorem State.waitingFrames_pending (s : State) : s.waitingFrames.pending = s.pending := by simp [State.waitingFrames]
@[simp] theorem State.frameTick_pending (s : State) : s.frameTick.pending = s.pending := by
  simp only [State.frameTick]
  split <;> simp

/-! ## The operations of Machine/Volumes -/

@[simp] theorem State.drawKeys_pending (s : State) : s.drawKeys.pending = s.pending := rfl
@[simp] theorem State.useWrap_pending (s : State) (w : Nat) : (s.useWrap w).pending = s.pending := rfl
@[simp] theorem State.domainCreate_pending (s : State) (q : VReq) : (s.domainCreate q).pending = s.pending := by simp [State.domainCreate]
@[simp] theorem execDomainCreate_queueKept (q : VReq) (s : State) : QueueKept (execDomainCreate q s) s.pending := by
  simp [execDomainCreate]
@[simp] theorem State.domainDelete_pending (s : State) (q : VReq) : (s.domainDelete q).pending = s.pending := by simp [State.domainDelete]
@[simp] theorem execDomainDelete_queueKept (q : VReq) (s : State) : QueueKept (execDomainDelete q s) s.pending := by
  simp [execDomainDelete]
@[simp] theorem execDomainList_queueKept (q : VReq) (s : State) : QueueKept (execDomainList q s) s.pending := by simp [execDomainList]
@[simp] theorem State.nsCreate_pending (s : State) (q : VReq) : (s.nsCreate q).pending = s.pending := by simp [State.nsCreate]
@[simp] theorem execNsCreate_queueKept (q : VReq) (s : State) : QueueKept (execNsCreate q s) s.pending := by simp [execNsCreate]
@[simp] theorem State.withNs_pending (s : State) (q : VReq) (op nsid : Nat) (f : Namespace → State)
    (hf : ∀ n, (f n).pending = s.pending) : (s.withNs q op nsid f).pending = s.pending := by
  unfold State.withNs
  (repeat' split) <;> simp [hf]
@[simp] theorem execNsDelete_queueKept (q : VReq) (s : State) : QueueKept (execNsDelete q s) s.pending := by simp [execNsDelete]
@[simp] theorem execNsResize_queueKept (q : VReq) (s : State) : QueueKept (execNsResize q s) s.pending := by simp [execNsResize]
@[simp] theorem execNsList_queueKept (q : VReq) (s : State) : QueueKept (execNsList q s) s.pending := by simp [execNsList]
@[simp] theorem State.snapCreate_pending (s : State) (q : VReq) : (s.snapCreate q).pending = s.pending := by simp [State.snapCreate]
@[simp] theorem execSnapCreate_queueKept (q : VReq) (s : State) : QueueKept (execSnapCreate q s) s.pending := by simp [execSnapCreate]
@[simp] theorem execSnapDelete_queueKept (q : VReq) (s : State) : QueueKept (execSnapDelete q s) s.pending := by simp [execSnapDelete]
@[simp] theorem execSnapClone_queueKept (q : VReq) (s : State) : QueueKept (execSnapClone q s) s.pending := by simp [execSnapClone]
@[simp] theorem execTreeDropCascade_queueKept (s : State) : QueueKept (execTreeDropCascade s) s.pending := by
  simp only [execTreeDropCascade]
  split <;> simp

/-! ## The operations of Machine/KeyOps -/

@[simp] theorem State.exportBlob_pending (s : State) (escrow : Bytes) : (s.exportBlob escrow).1.pending = s.pending := by
  simp only [State.exportBlob, State.afterDraw_pending]
  exact (foldl_fst_pending (fun _ _ => by simp) _ _).trans (State.drawKeys_pending s)
@[simp] theorem State.attest_pending (s : State) (nonce : Bytes) : (s.attest nonce).1.pending = s.pending := rfl

/-! ## The operations of Machine/FenceOps -/

@[simp] theorem State.raiseComb_pending (s : State) (link : Nat) : (s.raiseComb link).pending = s.pending := by
  unfold State.raiseComb
  split <;> simp
@[simp] theorem State.raiseHive_pending (s : State) (h : Nat) : (s.raiseHive h).pending = s.pending := by simp [State.raiseHive]
@[simp] theorem State.beginRound_pending (s : State) : s.beginRound.pending = s.pending := by
  simp only [State.beginRound]
  split <;> simp
@[simp] theorem State.loseRound_pending (s : State) : s.loseRound.pending = s.pending := by simp [State.loseRound]
@[simp] theorem State.winRound_pending (s : State) : s.winRound.pending = s.pending := by simp [State.winRound]
@[simp] theorem State.judgeRound_pending (s : State) : s.judgeRound.pending = s.pending := by simp [State.judgeRound]
@[simp] theorem State.endRound_pending (s : State) : s.endRound.pending = s.pending := by simp [State.endRound]
@[simp] theorem State.polled_pending (s : State) (h : Nat) : (s.polled h).pending = s.pending := by simp [State.polled]
@[simp] theorem State.fenceAnswer_pending (s : State) (link : Nat) (won lost : Bool) :
    (s.fenceAnswer link won lost).pending = s.pending := by
  simp only [State.fenceAnswer]
  (repeat' split) <;> simp
@[simp] theorem State.retryRaises_pending (s : State) : s.retryRaises.pending = s.pending := by simp [State.retryRaises]

/-! ## The operations of Machine/LinkEndOps -/

@[simp] theorem State.headAck_pending (s : State) (link : Nat) : (s.headAck link).pending = s.pending := by
  unfold State.headAck
  split <;> simp
@[simp] theorem State.headTook_pending (s : State) (link : Nat) : (s.headTook link).pending = s.pending := by simp [State.headTook]
@[simp] theorem State.linkDown_pending (s : State) (link : Nat) : (s.linkDown link).pending = s.pending := by simp [State.linkDown]
@[simp] theorem State.headHello_pending (s : State) (link kind : Nat) : (s.headHello link kind).pending = s.pending := by
  unfold State.headHello
  split <;> simp
@[simp] theorem State.bridgeHello_pending (s : State) (link : Nat) (port : Side) (rate kind : Nat) :
    (s.bridgeHello link port rate kind).pending = s.pending := by
  unfold State.bridgeHello
  split <;> simp
@[simp] theorem State.startRetrain_pending (s : State) (link : Nat) : (s.startRetrain link).pending = s.pending := by
  unfold State.startRetrain
  split <;> simp
@[simp] theorem State.crcError_pending (s : State) (link : Nat) : (s.crcError link).pending = s.pending := by simp [State.crcError]
@[simp] theorem State.headNak_pending (s : State) (link : Nat) : (s.headNak link).pending = s.pending := by
  unfold State.headNak
  split <;> simp
@[simp] theorem State.headHears_pending (s : State) (link : Nat) (f : LFrame) (act : State → State) (hact : KeepsQueue act) :
    (s.headHears link f act).pending = s.pending := by simp [State.headHears, hact.pending]
@[simp] theorem State.headFrame_pending (s : State) (link : Nat) (f : LFrame) (act : State → State) (hact : KeepsQueue act) :
    (s.headFrame link f act).pending = s.pending := by
  refine State.headHears_pending _ _ _ _ fun t => ?_
  split
  · rfl
  · simp [hact.pending]
@[simp] theorem State.progFailed_pending (s : State) (ord m : Nat) : (s.progFailed ord m).pending = s.pending := rfl
@[simp] theorem State.progPassed_pending (s : State) (ord m page : Nat) : (s.progPassed ord m page).pending = s.pending := by
  unfold State.progPassed
  (repeat' split) <;> simp
@[simp] theorem State.fencedFrom_pending (s : State) (h : Nat) : (s.fencedFrom h).pending = s.pending := rfl
@[simp] theorem State.issueErases_pending (s : State) : s.issueErases.pending = s.pending := by
  unfold State.issueErases
  refine foldl_pending_of (fun _ _ => ?_) _ _
  (repeat' split) <;> simp
@[simp] theorem State.eraseFailed_pending (s : State) (link die block : Nat) : (s.eraseFailed link die block).pending = s.pending := by
  simp [State.eraseFailed]
@[simp] theorem State.erasePassed_pending (s : State) (link die block : Nat) : (s.erasePassed link die block).pending = s.pending := rfl
@[simp] theorem State.levelEpoch_pending (s : State) (link : Nat) : (s.levelEpoch link).pending = s.pending := by
  unfold State.levelEpoch
  split <;> simp
@[simp] theorem State.fenceDone_pending (s : State) (link : Nat) (use : TaskUse) (st : Option StatusType) :
    (s.fenceDone link use st).pending = s.pending := by
  unfold State.fenceDone
  split <;> simp
@[simp] theorem State.diagDone_pending (s : State) (t : DieTask) (w : BitVec 32) (wt : Waiter) :
    (s.diagDone t w wt).pending = s.pending := by simp [State.diagDone]
@[simp] theorem State.readFinding_pending (s : State) (link : Nat) (t : DieTask) (st : Option StatusType) :
    (s.readFinding link t st).pending = s.pending := by
  simp only [State.readFinding]
  split <;> simp
@[simp] theorem State.holdTask_pending (s : State) (link tag wait : Nat) : (s.holdTask link tag wait).pending = s.pending := rfl
@[simp] theorem State.refusedBusy_pending (s : State) (link tag wait : Nat) : (s.refusedBusy link tag wait).pending = s.pending := rfl
@[simp] theorem State.sendLeased_pending (s : State) (link : Nat) (k : DieTask) : (s.sendLeased link k).pending = s.pending := by
  simp [State.sendLeased]
@[simp] theorem State.suspendFor_pending (s : State) (link die : Nat) : (s.suspendFor link die).pending = s.pending := by
  simp [State.suspendFor]
@[simp] theorem State.sendWaiting_pending (s : State) (link die : Nat) : (s.sendWaiting link die).pending = s.pending := by
  unfold State.sendWaiting
  split <;> simp
@[simp] theorem State.afterRead_pending (s : State) (link die : Nat) (w : BitVec 32) : (s.afterRead link die w).pending = s.pending := by
  simp [State.afterRead]
@[simp] theorem State.taskDone_pending (s : State) (link : Nat) (t : DieTask) (w : BitVec 32) :
    (s.taskDone link t w).pending = s.pending := by
  simp only [State.taskDone]
  (repeat' split) <;> simp
@[simp] theorem State.reissueBusy_pending (s : State) (link : Nat) : (s.reissueBusy link).pending = s.pending := by
  unfold State.reissueBusy
  refine foldl_pending_of (fun _ _ => ?_) _ _
  (repeat' split) <;> simp
@[simp] theorem State.reissueTask_pending (s : State) (link : Nat) (k : DieTask) : (s.reissueTask link k).pending = s.pending := by
  unfold State.reissueTask
  split <;> simp
@[simp] theorem State.windowTells_pending (s : State) (link : Nat) (k : DieTask) (op status : BitVec 32) :
    (s.windowTells link k op status).pending = s.pending := by simp [State.windowTells]
@[simp] theorem State.admitComb_pending (s : State) (link : Nat) : (s.admitComb link).pending = s.pending := by
  unfold State.admitComb
  split <;> simp
@[simp] theorem State.bridgeEventFrame_pending (s : State) (link : Nat) (port : Side) (e : Nat × Nat × Nat) :
    (s.bridgeEventFrame link port e).pending = s.pending := by simp [State.bridgeEventFrame]
@[simp] theorem State.measureComb_pending (s : State) (link : Nat) : (s.measureComb link).pending = s.pending := by
  unfold State.measureComb
  split <;> simp
@[simp] theorem State.linkIsUp_pending (s : State) (link : Nat) : (s.linkIsUp link).pending = s.pending := by simp [State.linkIsUp]
@[simp] theorem State.linkStarts_pending (s : State) (link : Nat) : (s.linkStarts link).pending = s.pending := rfl
@[simp] theorem State.linkRises_pending (s : State) (link : Nat) (b : Bridge) : (s.linkRises link b).pending = s.pending := by
  simp [State.linkRises]
@[simp] theorem State.linkJoins_pending (s : State) (link : Nat) : (s.linkJoins link).pending = s.pending := by simp [State.linkJoins]
@[simp] theorem State.linkServes_pending (s : State) (link : Nat) (b : Bridge) : (s.linkServes link b).pending = s.pending := by
  simp only [State.linkServes]
  simp (disch := (simp only [keepsQueue_iff]; intros; (repeat' split) <;> simp))
@[simp] theorem State.linkUp_pending (s : State) (link : Nat) (b : Bridge) : (s.linkUp link b).pending = s.pending := by
  simp [State.linkUp]
@[simp] theorem State.bringUpFails_pending (s : State) (link : Nat) : (s.bringUpFails link).pending = s.pending := by
  simp [State.bringUpFails]
@[simp] theorem State.holdLink_pending (s : State) (link hive slot : Nat) : (s.holdLink link hive slot).pending = s.pending := by
  simp [State.holdLink]

/-! ## The operations of Machine/ReadOps -/

@[simp] theorem State.heed_pending (s : State) (h : Nat) : (s.heed h).pending = s.pending := by
  simp only [State.heed]
  (repeat' split) <;> simp (disch := (simp only [keepsQueue_iff]; intros; (repeat' split) <;> simp))
theorem State.overErases_pending {s u : State} {t : Stripe} {js : List Nat} (h : s.overErases t js = some u) : u.pending = s.pending := by
  refine List.foldlRecOn (motive := fun acc : Option State => ∀ u ∈ acc, u.pending = s.pending) _ _ (by simp) ?_ u h
  intro acc hacc m _ u hu
  cases acc with
  | none => exact absurd hu (by simp)
  | some v =>
    have hv : v.pending = s.pending := hacc v rfl
    dsimp only at hu
    (repeat' split at hu) <;> simp only [Option.mem_def, Option.some.injEq, reduceCtorEq] at hu <;> subst hu <;> simp [hv]
@[simp] theorem State.heedPages_pending (s : State) (t : Stripe) (ps : List (Nat × Nat)) : (s.heedPages t ps).pending = s.pending := by
  simp [State.heedPages]
@[simp] theorem State.loseChunk_pending (s : State) (ord hive : Nat) (c : Chunk) : (s.loseChunk ord hive c).pending = s.pending := by
  simp [State.loseChunk]
@[simp] theorem State.readStored_pending (s : State) (c : Chunk) : (s.readStored c).1.pending = s.pending := by
  simp only [State.readStored]
  (repeat' split) <;> simp
@[simp] theorem State.readChunk_pending (s : State) (chunk : Nat) : (s.readChunk chunk).1.pending = s.pending := by
  unfold State.readChunk
  extract_lets id
  split
  · split
    · split
      · rfl
      · extract_lets u
        have hu : u.pending = s.pending := by
          unfold u
          split <;> simp
        clear_value u
        split
        · simp [hu]
        · split
          · exact hu
          · split
            · exact hu
            · simp [State.overErases_pending ‹_›, hu]
    · rfl
    · rfl
  · repeat' split
    all_goals rfl

/-! ## The operations of Machine/NvmeOps -/

@[simp] theorem State.nvEnd_pending (s : State) (e : Sqe) (st : NvStatus) : (s.nvEnd e st).pending = s.pending := by simp [State.nvEnd]
@[simp] theorem State.nvDone_pending (s : State) (e : Sqe) (dw0 : Nat) (data : Bytes) : (s.nvDone e dw0 data).pending = s.pending := by
  simp [State.nvDone]
@[simp] theorem State.nvme_pending (s : State) (e : Sqe) (body : Ctrl → State → State) (hbody : ∀ a, KeepsQueue (body a)) :
    (s.nvme e body).pending = s.pending := by
  unfold State.nvme
  split
  · rfl
  · simp [(hbody _).pending]
@[simp] theorem State.forgetCmds_pending (s : State) (p : HostCmd → Bool) : (s.forgetCmds p).pending = s.pending := by
  simp [State.forgetCmds]
@[simp] theorem State.endAssoc_pending (s : State) (id : Nat) : (s.endAssoc id).pending = s.pending := by
  unfold State.endAssoc
  split <;> simp
@[simp] theorem State.endConn_pending (s : State) (id : Nat) : (s.endConn id).pending = s.pending := by
  unfold State.endConn
  (repeat' split) <;> simp
@[simp] theorem State.fatalConn_pending (s : State) (id fes : Nat) : (s.fatalConn id fes).pending = s.pending := by simp [State.fatalConn]
@[simp] theorem State.chunkBytes_pending (s : State) (chunk : Nat) : (s.chunkBytes chunk).1.pending = s.pending := by
  simp only [State.chunkBytes]
  repeat' split
  any_goals simp
  all_goals exact pending_of_eq ‹_› (by simp)
@[simp] theorem State.nsBlock_pending (s : State) (nsid k : Nat) : (s.nsBlock nsid k).1.pending = s.pending := by
  simp only [State.nsBlock]
  repeat' split
  any_goals simp
  all_goals exact pending_of_eq ‹_› (by simp)
@[simp] theorem State.readRange_pending (s : State) (nsid off len : Nat) : (s.readRange nsid off len).1.pending = s.pending :=
  foldl_fst_pending (fun _ _ => by simp) _ _
@[simp] theorem State.gather_pending (s : State) (ctrl qid cid patience : Nat) (hs : List (Nat × Nat)) :
    (s.gather ctrl qid cid patience hs).1.pending = s.pending := by simp [State.gather]
@[simp] theorem State.countWait_pending (s : State) (nsid : Nat) (st : NvStatus) : (s.countWait nsid st).pending = s.pending := by
  simp [State.countWait]
@[simp] theorem State.regather_pending (s : State) (ctrl qid cid : Nat) (hs : List (Nat × Nat)) :
    (s.regather ctrl qid cid hs).1.pending = s.pending := by simp [State.regather]
@[simp] theorem State.tryRead_pending (s : State) (ctrl qid cid nsid slba nlb : Nat) (first : Option Nat) :
    (s.tryRead ctrl qid cid nsid slba nlb first).pending = s.pending := by
  simp only [State.tryRead]
  repeat' split
  any_goals simp
  all_goals exact pending_of_eq ‹_› (by simp)
@[simp] theorem State.nvRead_pending (s : State) (c : Ctrl) (e : Sqe) : (s.nvRead c e).pending = s.pending := by
  unfold State.nvRead
  (repeat' split) <;> simp
@[simp] theorem State.markBroken_pending (s : State) (stream : Option (Nat × Nat)) : (s.markBroken stream).1.pending = s.pending := by
  unfold State.markBroken
  split <;> simp
@[simp] theorem State.failHeld_pending (s : State) (n : Nat) (l : List (HostCmd × NvStatus)) :
    (s.failHeld n l).pending = s.pending := by
  induction n generalizing s l with
  | zero => cases l <;> rfl
  | succ n ih => cases l with
    | nil => rfl
    | cons x l => simp [State.failHeld, ih]
@[simp] theorem State.breakStream_pending (s : State) (key id : Nat) : (s.breakStream key id).pending = s.pending := by
  simp [State.breakStream]
@[simp] theorem State.failStream_pending (s : State) (ctrl qid cid : Nat) (stream : Option (Nat × Nat)) (st : NvStatus) :
    (s.failStream ctrl qid cid stream st).pending = s.pending := by simp [State.failStream]
@[simp] theorem State.spoilStream_pending (s : State) (key id : Nat) (nqn : Bytes) (queue : Nat × Nat) :
    (s.spoilStream key id nqn queue).pending = s.pending := by
  unfold State.spoilStream
  split <;> simp
@[simp] theorem State.joinStream_pending (s : State) (key id : Nat) (nqn : Bytes) (ctrl qid cid : Nat) :
    (s.joinStream key id nqn ctrl qid cid).1.pending = s.pending := by
  unfold State.joinStream
  split <;> simp
@[simp] theorem State.countHeld_pending (s : State) (c : HostCmd) : (s.countHeld c).pending = s.pending := rfl
@[simp] theorem State.cmd'_pending (s : State) (ctrl qid cid : Nat) (f : HostCmd → HostCmd) :
    (s.cmd' ctrl qid cid f).pending = s.pending := rfl
@[simp] theorem State.writeRecs_pending (s : State) (domain nsid off stream ctrl : Nat) (data : Bytes) (after : List After) :
    (s.writeRecs domain nsid off stream ctrl data after).pending = s.pending := by simp [State.writeRecs]
@[simp] theorem State.zeroRanges_pending (s : State) (c : HostCmd) (n : Namespace) (rs : List (Nat × Nat)) :
    (s.zeroRanges c n rs).pending = s.pending := by
  simp only [State.zeroRanges]
  (repeat' split) <;> simp
@[simp] theorem State.admitBlock_pending (s : State) (c : HostCmd) : (s.admitBlock c).pending = s.pending := by
  unfold State.admitBlock
  (repeat' split) <;> simp
@[simp] theorem State.nvWriteIn_pending (s : State) (e : Sqe) (n : Namespace) (stream : Option (Nat × Nat)) (zeroes : Bool)
    (off len : Nat) : (s.nvWriteIn e n stream zeroes off len).pending = s.pending := by
  simp only [State.nvWriteIn]
  (repeat' split) <;> simp
@[simp] theorem State.nvWrite_pending (s : State) (c : Ctrl) (e : Sqe) (zeroes : Bool) : (s.nvWrite c e zeroes).pending = s.pending := by
  simp only [State.nvWrite]
  repeat' split
  any_goals simp
  all_goals exact pending_of_eq ‹_› (by simp)
@[simp] theorem State.admitStream_pending (s : State) (stream : Option (Nat × Nat)) : (s.admitStream stream).pending = s.pending := by
  unfold State.admitStream
  split <;> simp
@[simp] theorem State.hint_pending (s : State) (n : Namespace) (rs : List (Nat × Nat)) : (s.hint n rs).pending = s.pending := by
  simp [State.hint]
@[simp] theorem State.nvDsm_pending (s : State) (c : Ctrl) (e : Sqe) : (s.nvDsm c e).pending = s.pending := by
  unfold State.nvDsm
  (repeat' split) <;> simp

/-! ## The operations of Machine/IngestOps -/

@[simp] theorem State.allocChunk_pending (s : State) : s.allocChunk.1.pending = s.pending := by simp [State.allocChunk]
@[simp] theorem State.filterSet_pending (s : State) (fp : Bytes) : (s.filterSet fp).pending = s.pending := rfl
@[simp] theorem State.countPositive_pending (s : State) (wrong : Bool) : (s.countPositive wrong).pending = s.pending := by
  simp [State.countPositive]
@[simp] theorem State.land_pending (s : State) (key : Nat) (e : EnvEntry) (lane : Nat) : (s.land key e lane).pending = s.pending := by
  unfold State.land
  (repeat' split) <;> simp
@[simp] theorem State.storeFrame_pending (s : State) (key lane d id : Nat) (content frame fp : Bytes) (f : StoreFlags) :
    (s.storeFrame key lane d id content frame fp f).pending = s.pending := by
  unfold State.storeFrame
  split <;> simp
@[simp] theorem State.frameOf_pending (s : State) (d id : Nat) (content : Bytes) : (s.frameOf d id content).1.pending = s.pending := by
  simp [State.frameOf]
@[simp] theorem State.storeAs_pending (s : State) (key lane d id : Nat) (content fp : Bytes) (f : StoreFlags) :
    (s.storeAs key lane d id content fp f).pending = s.pending := by simp [State.storeAs]
@[simp] theorem State.storeNew_pending (s : State) (key lane d : Nat) (content fp : Bytes) (f : StoreFlags) (same : Bool) :
    (s.storeNew key lane d content fp f same).1.pending = s.pending := by simp [State.storeNew]
@[simp] theorem State.compareOnly_pending (s : State) (lane entry : Bytes) : (s.compareOnly lane entry).1.pending = s.pending := by
  simp [State.compareOnly]
@[simp] theorem State.beginSelfTest_pending (s : State) : s.beginSelfTest.pending = s.pending := rfl
@[simp] theorem State.cmpFault_pending (s : State) (pair : Nat) : (s.cmpFault pair).pending = s.pending := by simp [State.cmpFault]
@[simp] theorem State.walkEntries_pending (s : State) (bytewise : Bool) (fp content : Bytes) (l : List FpEntry) (hit : Bool)
    (clash : List Nat) : (s.walkEntries bytewise fp content l hit clash).1.pending = s.pending := by
  induction l generalizing s hit clash with
  | nil => simp [State.walkEntries]
  | cons e l ih =>
    simp only [State.walkEntries]
    repeat' split
    any_goals simp [ih]
    all_goals rw [pending_of_eq ‹_› (State.chunkBytes_pending ..), State.compareOnly_pending]
@[simp] theorem State.findDup_pending (s : State) (d : Nat) (fp content : Bytes) (bytewise : Bool) (but : Nat) :
    (s.findDup d fp content bytewise but).1.pending = s.pending := by simp [State.findDup]
@[simp] theorem State.clashes_pending (s : State) (d id : Nat) (clash : List Nat) : (s.clashes d id clash).pending = s.pending := by
  simp [State.clashes]
@[simp] theorem State.laneKeeps_pending (s : State) (fp : Bytes) : (s.laneKeeps fp).pending = s.pending := rfl
@[simp] theorem State.ingestChunk_pending (s : State) (key lane d : Nat) (content : Bytes) :
    (s.ingestChunk key lane d content).1.pending = s.pending := by
  simp only [State.ingestChunk]
  repeat' split
  any_goals simp
  all_goals exact pending_of_eq ‹_› (by simp)
@[simp] theorem State.ingestBlock_pending (s : State) (key lane d nsid k : Nat) (content : Bytes) :
    (s.ingestBlock key lane d nsid k content).pending = s.pending := by simp [State.ingestBlock]
@[simp] theorem State.waitMerge_pending (s : State) (nsid k key hive : Nat) : (s.waitMerge nsid k key hive).pending = s.pending := by
  simp [State.waitMerge]
@[simp] theorem State.beginMerge_pending (s : State) (nsid k key : Nat) : (s.beginMerge nsid k key).pending = s.pending := by
  simp only [State.beginMerge]
  split <;> simp
@[simp] theorem State.ingestWrite_pending (s : State) (key lane d nsid off : Nat) (data : Bytes) :
    (s.ingestWrite key lane d nsid off data).pending = s.pending := by simp [State.ingestWrite]
@[simp] theorem State.mergeCommit_pending (s : State) (nsid k : Nat) : (s.mergeCommit nsid k).pending = s.pending := by
  simp only [State.mergeCommit]
  (repeat' split) <;> simp
@[simp] theorem State.storeManifest_pending (s : State) (key lane : Nat) (h : ManHead) (child : Bool) (es : List (Nat × Nat)) :
    (s.storeManifest key lane h child es).1.pending = s.pending := by simp [State.storeManifest]
@[simp] theorem State.putPart_pending (s : State) (p : Part) : (s.putPart p).pending = s.pending := by simp [State.putPart]
@[simp] theorem State.ingestPut_pending (s : State) (key lane : Nat) (d : PutDesc) (data : Bytes) :
    (s.ingestPut key lane d data).pending = s.pending := by
  simp only [State.ingestPut, State.putPart_pending, State.storeManifest_pending]
  exact foldl_fst_pending (fun _ _ => by simp) _ _
@[simp] theorem State.redecide_pending (s : State) (key lane : Nat) (r : WaxRec) (rs : List WaxRec) :
    (s.redecide key lane r rs).pending = s.pending := by
  simp only [State.redecide]
  (repeat' split) <;> simp (disch := (simp only [keepsQueue_iff]; intros; (repeat' split) <;> simp))
@[simp] theorem State.ingest_pending (s : State) (key : Nat) : (s.ingest key).pending = s.pending := by
  simp only [State.ingest]
  (repeat' split) <;> simp
@[simp] theorem State.keepChunk_pending (s : State) (d : Deferred) (same : Bool) : (s.keepChunk d same).pending = s.pending := by
  simp [State.keepChunk]
@[simp] theorem State.postProcess_pending (s : State) (chunk : Nat) : (s.postProcess chunk).pending = s.pending := by
  simp only [State.postProcess]
  split
  · rfl
  split
  · rfl
  split
  · exact pending_of_eq ‹_› (by simp)
  · simpa using pending_of_eq ‹State.chunkBytes .. = _› (State.chunkBytes_pending ..)
  have hread := pending_of_eq ‹State.chunkBytes .. = _› (State.chunkBytes_pending ..)
  split
  · simp [hread]
  split
  all_goals
    have hdup := pending_of_eq ‹State.findDup .. = _› (State.findDup_pending ..)
    simp [hdup, hread]
@[simp] theorem State.walkManifest_pending (s : State) (domain chunk : Nat) : (s.walkManifest domain chunk).pending = s.pending := by
  simp only [State.walkManifest]
  repeat' split
  any_goals simp
  all_goals exact pending_of_eq ‹_› (by simp)
@[simp] theorem State.walkStripe_pending (s : State) (t : Stripe) (n : Nat) : (s.walkStripe t n).pending = s.pending := by
  fun_induction State.walkStripe s t n <;> simp [*]

/-! ## The operations of Machine/Seal -/

@[simp] theorem State.postAux_pending (s : State) (n : Nat) : (s.postAux n).pending = s.pending := by
  induction n generalizing s with
  | zero => rfl
  | succ n ih =>
    unfold State.postAux
    split <;> simp [ih]
@[simp] theorem State.post_pending (s : State) : s.post.pending = s.pending := by simp [State.post]
@[simp] theorem State.endMsg_pending (s : State) (m : SealMsg) (st : Nat) : (s.endMsg m st).pending = s.pending := by simp [State.endMsg]
@[simp] theorem State.sealOutput_pending (s : State) (m : SealMsg) : (s.sealOutput m).1.pending = s.pending := by
  simp only [State.sealOutput]
  split <;> simp
@[simp] theorem State.runIn_pending (s : State) (was : Option SealMsg) (m : SealMsg) : (s.runIn was m).pending = s.pending := rfl
@[simp] theorem State.dispatchMsg_pending (s : State) (m : SealMsg) : (s.dispatchMsg m).pending = s.pending := by
  simp only [State.dispatchMsg]
  (repeat' split) <;> simp
@[simp] theorem State.takeMsg_pending (s : State) (m : SealMsg) : (s.takeMsg m).pending = s.pending := by
  unfold State.takeMsg
  (repeat' split) <;> simp
@[simp] theorem execSealRequest_queueKept (r : SealReq) (s : State) : QueueKept (execSealRequest r s) s.pending := by
  simp [execSealRequest]
@[simp] theorem State.refillPipe_pending (s : State) (x : Bool) : (s.refillPipe x).pending = s.pending := by
  unfold State.refillPipe
  (repeat' split) <;> simp
@[simp] theorem execSealMessageDone_queueKept (id : Nat) (s : State) : QueueKept (execSealMessageDone id s) s.pending := by
  unfold execSealMessageDone
  split <;> simp
@[simp] theorem execSealUrgent_queueKept (id : Nat) (s : State) : QueueKept (execSealUrgent id s) s.pending := by
  simp only [execSealUrgent]
  (repeat' split) <;> simp
@[simp] theorem State.loseDomain_pending (s : State) (domain : Nat) : (s.loseDomain domain).pending = s.pending := by
  simp [State.loseDomain]
@[simp] theorem execDomainKeyFetch_queueKept (domain : Nat) (s : State) : QueueKept (execDomainKeyFetch domain s) s.pending := by
  unfold execDomainKeyFetch
  split <;> simp
@[simp] theorem execCmpGoCompare_queueKept (s : State) : QueueKept (execCmpGoCompare s) s.pending := by simp [execCmpGoCompare]
@[simp] theorem execCmpGoSelfTest_queueKept (s : State) : QueueKept (execCmpGoSelfTest s) s.pending := by simp [execCmpGoSelfTest]
@[simp] theorem execCompareDone_queueKept (refFault : Bool) (s : State) : QueueKept (execCompareDone refFault s) s.pending := by
  simp [execCompareDone]
@[simp] theorem execCmpResult_queueKept (s : State) : QueueKept (execCmpResult s) s.pending := by simp [execCmpResult]
@[simp] theorem execSelfTestDone_queueKept (pass : Bool) (s : State) : QueueKept (execSelfTestDone pass s) s.pending := by
  simp [execSelfTestDone]
@[simp] theorem execCompareSelftestRetry_queueKept (s : State) : QueueKept (execCompareSelftestRetry s) s.pending := by
  unfold execCompareSelftestRetry
  split <;> simp
@[simp] theorem execDigestRegisterWrite_queueKept (off : Nat) (word : BitVec 32) (s : State) :
    QueueKept (execDigestRegisterWrite off word s) s.pending := by simp [execDigestRegisterWrite]

/-! ## The operations of Machine/AlarmOps -/

@[simp] theorem State.propolisAlarm_pending (s : State) (cause : BitVec 4) : (s.propolisAlarm cause).pending = s.pending := by
  simp [State.propolisAlarm]
@[simp] theorem State.holdReset_pending (s : State) (cause : Nat) : (s.holdReset cause).pending = s.pending := rfl

/-! ## The operations of Machine/LocOps -/

@[simp] theorem State.locCheck_pending (s : State) (c : Ctrl) (l : Bytes) : (s.locCheck c l).1.pending = s.pending := by
  simp only [State.locCheck]
  (repeat' split) <;> simp
@[simp] theorem State.leafPart_pending (s : State) (chunk off lo hi : Nat) : (s.leafPart chunk off lo hi).1.pending = s.pending := by
  simp only [State.leafPart]
  repeat' split
  any_goals simp
  all_goals exact pending_of_eq ‹_› (by simp)
@[simp] theorem State.walkMan_pending (n : Nat) (s : State) (chunk off lo hi : Nat) :
    (State.walkMan n s chunk off lo hi).1.pending = s.pending := by
  induction n generalizing s chunk off with
  | zero => rfl
  | succ n ih =>
    unfold State.walkMan
    split
    · have hread := pending_of_eq ‹State.chunkBytes .. = _› (State.chunkBytes_pending ..)
      refine (foldl_fst_pending (fun _ _ => ?_) _ _).trans hread
      simp [ih]
    · exact pending_of_eq ‹_› (by simp)
@[simp] theorem State.tryGet_pending (s : State) (ctrl qid cid : Nat) (o : Obj) (off len : Nat) (reloc : Bool) (first : Option Nat) :
    (s.tryGet ctrl qid cid o off len reloc first).pending = s.pending := by
  simp only [State.tryGet]
  repeat' split
  any_goals simp
  all_goals exact pending_of_eq ‹_› (by simp)
@[simp] theorem State.locWait_pending (s : State) (e : Sqe) (hive : Nat) (first : Bool) : (s.locWait e hive first).pending = s.pending :=
  by
  simp only [State.locWait]
  repeat' split
  any_goals simp
  all_goals exact pending_of_eq ‹_› (by simp)
@[simp] theorem State.unhold_pending (s : State) (e : Sqe) : (s.unhold e).pending = s.pending := rfl
@[simp] theorem State.locChange_pending (s : State) (e : Sqe) (o : Obj) (released : Bool) (retain : Nat) :
    (s.locChange e o released retain).pending = s.pending := by simp [State.locChange]
@[simp] theorem State.locDo_pending (s : State) (e : Sqe) (o : Obj) (via : Option LedgerEntry) (patience : Nat) :
    (s.locDo e o via patience).pending = s.pending := by
  unfold State.locDo
  (repeat' split) <;> simp
@[simp] theorem State.locRun_pending (s : State) (c : Ctrl) (e : Sqe) (first : Bool) : (s.locRun c e first).pending = s.pending := by
  simp only [State.locRun]
  repeat' split
  any_goals simp
  all_goals exact pending_of_eq ‹_› (by simp)
@[simp] theorem State.statToken_pending (s : State) (c : Ctrl) (e : Sqe) (first : Bool) : (s.statToken c e first).pending = s.pending := by
  simp only [State.statToken]
  (repeat' split) <;> simp
@[simp] theorem State.locCmd_pending (s : State) (c : Ctrl) (e : Sqe) (first : Bool) : (s.locCmd c e first).pending = s.pending := by
  simp [State.locCmd]
@[simp] theorem State.putRecs_pending (s : State) (d : PutDesc) (data : Bytes) (after : List After) :
    (s.putRecs d data after).pending = s.pending := by simp [State.putRecs]
@[simp] theorem State.admitPut_pending (s : State) (c : HostCmd) : (s.admitPut c).pending = s.pending := by
  simp only [State.admitPut]
  (repeat' split) <;> simp
@[simp] theorem State.refusePut_pending (s : State) (c : Ctrl) (e : Sqe) (d : PutDesc) (st : NvStatus) :
    (s.refusePut c e d st).pending = s.pending := by simp [State.refusePut]
@[simp] theorem State.putArrive_pending (s : State) (c : Ctrl) (e : Sqe) : (s.putArrive c e).pending = s.pending := by
  simp only [State.putArrive]
  repeat' split
  any_goals simp
  all_goals exact pending_of_eq ‹_› (by simp)
@[simp] theorem State.locPut_pending (s : State) (c : Ctrl) (e : Sqe) : (s.locPut c e).pending = s.pending := by simp [State.locPut]
@[simp] theorem State.morePut_pending (s : State) (h : HostCmd) (e : Sqe) (conn off : Nat) (data : Bytes) (digestOk : Bool) :
    (s.morePut h e conn off data digestOk).pending = s.pending := by
  simp only [State.morePut]
  (repeat' split) <;> simp
@[simp] theorem State.locAgain_pending (s : State) (h : HostCmd) : (s.locAgain h).pending = s.pending := by
  unfold State.locAgain
  (repeat' split) <;> simp
@[simp] theorem State.locWake_pending (s : State) : s.locWake.pending = s.pending := by simp [State.locWake]
@[simp] theorem State.settle_pending (s : State) : s.settle.pending = s.pending := by simp [State.settle]
@[simp] theorem State.serveGather_pending (s : State) (hive : Nat) : (s.serveGather hive).pending = s.pending := by
  simp only [State.serveGather]
  (repeat' split) <;> simp (disch := (simp only [keepsQueue_iff]; intros; (repeat' split) <;> simp))

/-! ## The operations of Machine/Nvme -/

@[simp] theorem execTcpConnectionRequest_queueKept (svc : TcpSvc) (fpair : Nat × Nat) (s : State) :
    QueueKept (execTcpConnectionRequest svc fpair s) s.pending := by
  simp only [execTcpConnectionRequest]
  (repeat' split) <;> simp
@[simp] theorem execIcreq_queueKept (conn pfv hpda : Nat) (hdgst ddgst : Bool) (maxR2t : Nat) (s : State) :
    QueueKept (execIcreq conn pfv hpda hdgst ddgst maxR2t s) s.pending := by
  unfold execIcreq
  split <;> simp
@[simp] theorem execFatalTransportError_queueKept (conn fes : Nat) (s : State) :
    QueueKept (execFatalTransportError conn fes s) s.pending := by simp [execFatalTransportError]
@[simp] theorem execH2cdata_queueKept (conn cid off : Nat) (data : Bytes) (digestOk : Bool) (s : State) :
    QueueKept (execH2cdata conn cid off data digestOk s) s.pending := by
  simp only [execH2cdata]
  (repeat' split) <;> simp
@[simp] theorem execTcpConnectionEnd_queueKept (conn : Nat) (s : State) : QueueKept (execTcpConnectionEnd conn s) s.pending := by
  simp [execTcpConnectionEnd]
@[simp] theorem execTcpRetransmissionTimeout_queueKept (conn : Nat) (s : State) :
    QueueKept (execTcpRetransmissionTimeout conn s) s.pending := by simp [execTcpRetransmissionTimeout]
@[simp] theorem State.bindConn_pending (s : State) (conn ctrl qid : Nat) : (s.bindConn conn ctrl qid).pending = s.pending := rfl
@[simp] theorem State.nvConnect_pending (s : State) (x : NvConnect) : (s.nvConnect x).pending = s.pending := by
  unfold State.nvConnect
  (repeat' split) <;> simp
@[simp] theorem execConnect_queueKept (c : NvConnect) (s : State) : QueueKept (execConnect c s) s.pending := by simp [execConnect]
@[simp] theorem execKeepAlive_queueKept (e : Sqe) (s : State) : QueueKept (execKeepAlive e s) s.pending := by simp [execKeepAlive]
@[simp] theorem execKeepAliveTimeout_queueKept (ctrl : Nat) (s : State) : QueueKept (execKeepAliveTimeout ctrl s) s.pending := by
  unfold execKeepAliveTimeout
  split <;> simp
@[simp] theorem State.nvIdentify_pending (s : State) (c : Ctrl) (e : Sqe) : (s.nvIdentify c e).pending = s.pending := by
  simp only [State.nvIdentify]
  (repeat' split) <;> simp
@[simp] theorem execIdentify_queueKept (e : Sqe) (s : State) : QueueKept (execIdentify e s) s.pending := by simp [execIdentify]
@[simp] theorem State.nvGetLog_pending (s : State) (c : Ctrl) (e : Sqe) : (s.nvGetLog c e).pending = s.pending := by simp [State.nvGetLog]
@[simp] theorem execGetLogPage_queueKept (e : Sqe) (s : State) : QueueKept (execGetLogPage e s) s.pending := by simp [execGetLogPage]
@[simp] theorem State.nvSetFeature_pending (s : State) (c : Ctrl) (e : Sqe) : (s.nvSetFeature c e).pending = s.pending := by
  simp [State.nvSetFeature]
@[simp] theorem execSetFeatures_queueKept (e : Sqe) (s : State) : QueueKept (execSetFeatures e s) s.pending := by simp [execSetFeatures]
@[simp] theorem execGetFeatures_queueKept (e : Sqe) (s : State) : QueueKept (execGetFeatures e s) s.pending := by simp [execGetFeatures]
@[simp] theorem execAsynchronousEventRequest_queueKept (e : Sqe) (s : State) : QueueKept (execAsynchronousEventRequest e s) s.pending := by
  simp [execAsynchronousEventRequest]
@[simp] theorem State.abortCmd_pending (s : State) (h : HostCmd) : (s.abortCmd h).pending = s.pending := by simp [State.abortCmd]
@[simp] theorem execAbort_queueKept (e : Sqe) (s : State) :
    QueueKept (execAbort e s) s.pending := by
  simp only [execAbort, queueKept_ok]
  refine State.nvme_pending _ _ _ fun _ _ => ?_
  (repeat' split) <;> simp
@[simp] theorem execDirectiveSend_queueKept (e : Sqe) (s : State) : QueueKept (execDirectiveSend e s) s.pending := by
  simp only [execDirectiveSend, queueKept_ok]
  refine State.nvme_pending _ _ _ fun _ _ => ?_
  (repeat' split) <;> simp
@[simp] theorem execDirectiveReceive_queueKept (e : Sqe) (s : State) : QueueKept (execDirectiveReceive e s) s.pending := by
  simp [execDirectiveReceive]
@[simp] theorem execNvmeRead_queueKept (e : Sqe) (s : State) : QueueKept (execNvmeRead e s) s.pending := by simp [execNvmeRead]
@[simp] theorem execNvmeWrite_queueKept (e : Sqe) (s : State) : QueueKept (execNvmeWrite e s) s.pending := by simp [execNvmeWrite]
@[simp] theorem execFlush_queueKept (e : Sqe) (s : State) : QueueKept (execFlush e s) s.pending := by simp [execFlush]
@[simp] theorem execWriteZeroes_queueKept (e : Sqe) (s : State) : QueueKept (execWriteZeroes e s) s.pending := by simp [execWriteZeroes]
@[simp] theorem execDatasetManagement_queueKept (e : Sqe) (s : State) : QueueKept (execDatasetManagement e s) s.pending := by
  simp [execDatasetManagement]
@[simp] theorem execUnsupportedCommand_queueKept (e : Sqe) (s : State) : QueueKept (execUnsupportedCommand e s) s.pending := by
  simp [execUnsupportedCommand]

/-! ## The operations of Machine/Frames -/

@[simp] theorem State.touchFrame_pending (s : State) (id : Nat) : (s.touchFrame id).pending = s.pending := rfl
@[simp] theorem State.cfgOpen_pending (s : State) (q : VReq) : (s.cfgOpen q).pending = s.pending := by simp [State.cfgOpen]
@[simp] theorem execCfgOpen_queueKept (q : VReq) (s : State) : QueueKept (execCfgOpen q s) s.pending := by simp [execCfgOpen]
@[simp] theorem State.cfgStage_pending (s : State) (q : VReq) : (s.cfgStage q).pending = s.pending := by
  unfold State.cfgStage
  (repeat' split) <;> simp
@[simp] theorem execCfgStage_queueKept (q : VReq) (s : State) : QueueKept (execCfgStage q s) s.pending := by simp [execCfgStage]
@[simp] theorem State.cfgCheck_pending (s : State) (q : VReq) : (s.cfgCheck q).pending = s.pending := by
  unfold State.cfgCheck
  split <;> simp
@[simp] theorem execCfgCheck_queueKept (q : VReq) (s : State) : QueueKept (execCfgCheck q s) s.pending := by simp [execCfgCheck]
@[simp] theorem State.cfgApply_pending (s : State) (q : VReq) : (s.cfgApply q).pending = s.pending := by
  simp only [State.cfgApply]
  (repeat' split) <;> simp
@[simp] theorem execCfgApply_queueKept (q : VReq) (s : State) : QueueKept (execCfgApply q s) s.pending := by simp [execCfgApply]
@[simp] theorem State.cfgCancel_pending (s : State) (q : VReq) : (s.cfgCancel q).pending = s.pending := by
  unfold State.cfgCancel
  split <;> simp
@[simp] theorem execCfgCancel_queueKept (q : VReq) (s : State) : QueueKept (execCfgCancel q s) s.pending := by simp [execCfgCancel]
@[simp] theorem State.cfgStatus_pending (s : State) (q : VReq) : (s.cfgStatus q).pending = s.pending := by
  unfold State.cfgStatus
  split <;> simp
@[simp] theorem execCfgStatus_queueKept (q : VReq) (s : State) : QueueKept (execCfgStatus q s) s.pending := by simp [execCfgStatus]
@[simp] theorem State.cfgRead_pending (s : State) (q : VReq) : (s.cfgRead q).pending = s.pending := by simp [State.cfgRead]
@[simp] theorem execCfgRead_queueKept (q : VReq) (s : State) : QueueKept (execCfgRead q s) s.pending := by simp [execCfgRead]
@[simp] theorem execModeGet_queueKept (q : VReq) (s : State) : QueueKept (execModeGet q s) s.pending := by simp [execModeGet]
@[simp] theorem execFrameIdleExpiry_queueKept (frame : Nat) (s : State) : QueueKept (execFrameIdleExpiry frame s) s.pending := by
  unfold execFrameIdleExpiry
  split <;> simp
@[simp] theorem State.takePeerFrame_pending (s : State) (id tick : Nat) (items : List Item) :
    (s.takePeerFrame id tick items).pending = s.pending := by simp [State.takePeerFrame]
@[simp] theorem execFrameReadiness_queueKept (fromCoord : Bool) (frame tick : Nat) (items : List Item) (yes : Bool) (s : State) :
    QueueKept (execFrameReadiness fromCoord frame tick items yes s) s.pending := by simp [execFrameReadiness]
@[simp] theorem execFrameReadinessDeadline_queueKept (frame : Nat) (s : State) :
    QueueKept (execFrameReadinessDeadline frame s) s.pending := by
  unfold execFrameReadinessDeadline
  split <;> simp
@[simp] theorem execGoRecordLateConfirm_queueKept (frame : Nat) (s : State) : QueueKept (execGoRecordLateConfirm frame s) s.pending := by
  unfold execGoRecordLateConfirm
  split <;> simp
@[simp] theorem State.tryWake_pending (s : State) : s.tryWake.pending = s.pending := by
  simp only [State.tryWake]
  (repeat' split) <;> simp
@[simp] theorem execWakeModeRecheck_queueKept (s : State) : QueueKept (execWakeModeRecheck s) s.pending := by
  unfold execWakeModeRecheck
  split <;> simp
@[simp] theorem execFrameStatusExpiry_queueKept (frame : Nat) (s : State) : QueueKept (execFrameStatusExpiry frame s) s.pending := by
  simp [execFrameStatusExpiry]

/-! ## The operations of Machine/ColonyOps -/

@[simp] theorem State.grantToken_pending (s : State) (head : Nat) (t : WakeToken) : (s.grantToken head t).pending = s.pending := by
  simp [State.grantToken]
@[simp] theorem State.newToken_pending (s : State) (a head hive prio : Nat) : (s.newToken a head hive prio).pending = s.pending := by
  simp [State.newToken]
@[simp] theorem State.recallToken_pending (s : State) (t : WakeToken) : (s.recallToken t).pending = s.pending := by
  simp [State.recallToken]
@[simp] theorem State.refuseToken_pending (s : State) (a head num : Nat) : (s.refuseToken a head num).pending = s.pending := by
  simp [State.refuseToken]
@[simp] theorem State.recallOver_pending (s : State) (prio : Nat) : (s.recallOver prio).pending = s.pending := by simp [State.recallOver]
@[simp] theorem State.renewToken_pending (s : State) (head prio : Nat) (t : WakeToken) :
    (s.renewToken head prio t).pending = s.pending := by simp [State.renewToken]
@[simp] theorem State.judgeToken_pending (s : State) (a head hive prio num : Nat) :
    (s.judgeToken a head hive prio num).pending = s.pending := by
  simp only [State.judgeToken]
  split <;> simp
@[simp] theorem State.tokenDormant_pending (s : State) (id : Nat) : (s.tokenDormant id).pending = s.pending := by simp [State.tokenDormant]
@[simp] theorem State.sendReport_pending (s : State) : s.sendReport.pending = s.pending := rfl
@[simp] theorem State.colonyTick_pending (s : State) : s.colonyTick.pending = s.pending := by simp [State.colonyTick]

/-! ## The operations of Machine/Locator -/

@[simp] theorem execLocPut_queueKept (e : Sqe) (s : State) : QueueKept (execLocPut e s) s.pending := by simp [execLocPut]
@[simp] theorem execLocPutPart_queueKept (e : Sqe) (s : State) : QueueKept (execLocPutPart e s) s.pending := by simp [execLocPutPart]
@[simp] theorem execLocGet_queueKept (e : Sqe) (s : State) : QueueKept (execLocGet e s) s.pending := by simp [execLocGet]
@[simp] theorem execLocStat_queueKept (e : Sqe) (s : State) : QueueKept (execLocStat e s) s.pending := by simp [execLocStat]
@[simp] theorem execLocRefresh_queueKept (e : Sqe) (s : State) : QueueKept (execLocRefresh e s) s.pending := by simp [execLocRefresh]
@[simp] theorem execLocRelease_queueKept (e : Sqe) (s : State) : QueueKept (execLocRelease e s) s.pending := by simp [execLocRelease]
@[simp] theorem execLocSeal_queueKept (e : Sqe) (s : State) : QueueKept (execLocSeal e s) s.pending := by simp [execLocSeal]
@[simp] theorem State.addParts_pending (s : State) (o : Obj) : (s.addParts o).pending = s.pending := by simp [State.addParts]
@[simp] theorem State.buildIndex_pending (s : State) (o : Obj) (digest : Bytes) : (s.buildIndex o digest).1.pending = s.pending := by
  simp only [State.buildIndex]
  split
  · simp
  · rw [State.storeManifest_pending]
    exact foldl_fst_pending (fun _ _ => by simp) _ _
@[simp] theorem State.createDirect_pending (s : State) (o : Obj) (p : Part) : (s.createDirect o p).pending = s.pending := by
  simp [State.createDirect]
@[simp] theorem State.createMulti_pending (s : State) (o : Obj) : (s.createMulti o).pending = s.pending := by simp [State.createMulti]
@[simp] theorem execObjectCreateCommit_queueKept (key : Nat) (s : State) : QueueKept (execObjectCreateCommit key s) s.pending := by
  unfold execObjectCreateCommit
  (repeat' split) <;> simp
@[simp] theorem execTokenHorizonExpiry_queueKept (domain : Nat) (token : Bytes) (s : State) :
    QueueKept (execTokenHorizonExpiry domain token s) s.pending := by
  unfold execTokenHorizonExpiry
  split <;> simp
@[simp] theorem execOpenObjectExpiry_queueKept (key : Nat) (s : State) : QueueKept (execOpenObjectExpiry key s) s.pending := by
  unfold execOpenObjectExpiry
  split <;> simp
@[simp] theorem execReleasedObjectExpiry_queueKept (key : Nat) (s : State) : QueueKept (execReleasedObjectExpiry key s) s.pending := by
  unfold execReleasedObjectExpiry
  split <;> simp
@[simp] theorem execLedgerEntryExpiry_queueKept (domain : Nat) (old : Place) (s : State) :
    QueueKept (execLedgerEntryExpiry domain old s) s.pending := by
  unfold execLedgerEntryExpiry
  split <;> simp
@[simp] theorem execManifestReleaseWalk_queueKept (domain chunk : Nat) (s : State) :
    QueueKept (execManifestReleaseWalk domain chunk s) s.pending := by simp [execManifestReleaseWalk]
@[simp] theorem execLocStatPatienceExpiry_queueKept (ctrl qid cid : Nat) (s : State) :
    QueueKept (execLocStatPatienceExpiry ctrl qid cid s) s.pending := by
  unfold execLocStatPatienceExpiry
  (repeat' split) <;> simp
@[simp] theorem execAcceptanceResume_queueKept (ctrl qid cid : Nat) (s : State) :
    QueueKept (execAcceptanceResume ctrl qid cid s) s.pending := by
  unfold execAcceptanceResume
  (repeat' split) <;> simp

/-! ## The operations of Machine/ReplOps -/

@[simp] theorem State.group'_pending (s : State) (g : Nat) (f : RGroup → RGroup) : (s.group' g f).pending = s.pending := rfl
@[simp] theorem State.replica'_pending (s : State) (g source : Nat) (f : Replica → Replica) :
    (s.replica' g source f).pending = s.pending := rfl
@[simp] theorem State.wrapKeys_pending (s : State) (d : Nat) : (s.wrapKeys d).1.pending = s.pending := by
  unfold State.wrapKeys
  split <;> simp
@[simp] theorem State.setupMsg_pending (s : State) (g : RGroup) : (s.setupMsg g).1.pending = s.pending :=
  foldl_fst_pending (fun _ _ => by simp) _ _
@[simp] theorem State.wireItems_pending (s : State) (l : List ShipItem) : (s.wireItems l).1.pending = s.pending := by
  refine foldl_fst_pending (fun _ _ => ?_) _ _
  split <;> simp
@[simp] theorem State.wireEntries_pending (s : State) (l : List ShipEntry) : (s.wireEntries l).1.pending = s.pending :=
  foldl_fst_pending (fun _ _ => by simp) _ _
@[simp] theorem State.layBase_pending (s : State) (g : Nat) (es : List ShipEntry) : (s.layBase g es).pending = s.pending := by
  simp [State.layBase]
@[simp] theorem State.startBase_pending (s : State) (id : Nat) : (s.startBase id).pending = s.pending := by
  unfold State.startBase
  split <;> simp
@[simp] theorem State.lapse_pending (s : State) (g : Nat) : (s.lapse g).pending = s.pending := by simp [State.lapse]
@[simp] theorem State.answerAsk_pending (s : State) (src domain : Nat) (fp : Bytes) (len : Nat) :
    (s.answerAsk src domain fp len).pending = s.pending := by
  simp only [State.answerAsk]
  (repeat' split) <;> simp
@[simp] theorem State.serveAsks_pending (s : State) : s.serveAsks.pending = s.pending := by simp [State.serveAsks]
@[simp] theorem State.shipChunk_pending (s : State) (g : RGroup) (chunk : Nat) : (s.shipChunk g chunk).pending = s.pending := by
  unfold State.shipChunk
  split <;> simp
@[simp] theorem State.sendBatch_pending (s : State) (id : Nat) (b : Batch) : (s.sendBatch id b).pending = s.pending := by
  unfold State.sendBatch
  split <;> simp
@[simp] theorem State.offerBatch_pending (s : State) (id : Nat) (b : Batch) : (s.offerBatch id b).pending = s.pending := by
  unfold State.offerBatch
  split <;> simp
@[simp] theorem State.openBatch_pending (s : State) (id first last : Nat) (base : Bool) (es : List ShipEntry) :
    (s.openBatch id first last base es).pending = s.pending := by
  unfold State.openBatch
  split <;> simp
@[simp] theorem State.closeBatch_pending (s : State) (id : Nat) : (s.closeBatch id).pending = s.pending := by
  unfold State.closeBatch
  (repeat' split) <;> simp
@[simp] theorem State.askTarget_pending (s : State) (g : RGroup) (head : Nat) : (s.askTarget g head).pending = s.pending := by
  simp [State.askTarget]
@[simp] theorem State.resumeGroup_pending (s : State) (id : Nat) : (s.resumeGroup id).pending = s.pending := by
  unfold State.resumeGroup
  split <;> simp
@[simp] theorem State.resumeGroups_pending (s : State) (p : RGroup → Bool) : (s.resumeGroups p).pending = s.pending := by
  simp [State.resumeGroups]
@[simp] theorem State.landShipped_pending (s : State) (d : Nat) (frame content fp : Bytes) (bytewise : Bool) :
    (s.landShipped d frame content fp bytewise).1.pending = s.pending := by
  simp only [State.landShipped]
  repeat' split
  any_goals simp
  all_goals exact pending_of_eq ‹_› (by simp)
@[simp] theorem State.buildTop_pending (s : State) (d len : Nat) (token digest : Bytes) (multi : Bool) (leaves : List (Bytes × Nat))
    (cuts : List (Nat × Nat)) : (s.buildTop d len token digest multi leaves cuts).1.pending = s.pending := by
  simp only [State.buildTop, State.flushMap_pending]
  split
  · simp
  · split
    · rw [State.storeManifest_pending]
      exact foldl_fst_pending (fun _ _ => by simp) _ _
    · rw [State.storeManifest_pending]
      exact (foldl_fst_pending (fun _ _ => by simp) _ _).trans (foldl_fst_pending (fun _ _ => by simp) _ _)
@[simp] theorem State.buildTops_pending (s : State) (g source : Nat) (es : List ShipEntry) :
    (s.buildTops g source es).pending = s.pending := by
  simp (disch := (simp only [keepsQueue_iff]; intros; (repeat' split) <;> simp)) [State.buildTops]
@[simp] theorem State.shipSettingsIn_pending (s : State) (es : List ShipEntry) : (s.shipSettingsIn es).pending = s.pending := by
  unfold State.shipSettingsIn
  refine foldl_pending_of (fun _ _ => ?_) _ _
  (repeat' split) <;> simp
@[simp] theorem State.tryBatch_pending (s : State) (g source : Nat) : (s.tryBatch g source).pending = s.pending := by
  unfold State.tryBatch
  (repeat' split) <;> simp
@[simp] theorem State.trySwitch_pending (s : State) (g source : Nat) : (s.trySwitch g source).pending = s.pending := by
  unfold State.trySwitch
  split <;> simp
@[simp] theorem State.keepStaging_pending (s : State) (g source : Nat) : (s.keepStaging g source).pending = s.pending := by
  unfold State.keepStaging
  split <;> simp
@[simp] theorem State.replTick_pending (s : State) : s.replTick.pending = s.pending := by simp [State.replTick]

/-! ## The operations of Machine/HivePower -/

@[simp] theorem State.busSend_pending (s : State) (hive cmd arg : Nat) : (s.busSend hive cmd arg).pending = s.pending := rfl
@[simp] theorem State.sendVote_pending (s : State) (hive : Nat) (up : Bool) : (s.sendVote hive up).pending = s.pending := rfl
@[simp] theorem State.poll_pending (s : State) (bus : Nat) : (s.poll bus).pending = s.pending := by
  simp only [State.poll]
  (repeat' split) <;> simp
@[simp] theorem execHcbPoll_queueKept (bus : Nat) (s : State) : QueueKept (execHcbPoll bus s) s.pending := by simp [execHcbPoll]
@[simp] theorem execHcbReply_queueKept (hive seq status : Nat) (b : ShelfBlock) (s : State) :
    QueueKept (execHcbReply hive seq status b s) s.pending := by
  unfold execHcbReply
  split <;> simp
@[simp] theorem execHcbRequestRetry_queueKept (bus seq : Nat) (s : State) : QueueKept (execHcbRequestRetry bus seq s) s.pending := by
  unfold execHcbRequestRetry
  split <;> simp
@[simp] theorem execShelfSilentTimeout_queueKept (hive : Nat) (s : State) : QueueKept (execShelfSilentTimeout hive s) s.pending := by
  unfold execShelfSilentTimeout
  split <;> simp
@[simp] theorem State.memberTimeout_pending (s : State) (link ord member : Nat) :
    (s.memberTimeout link ord member).pending = s.pending := by simp [State.memberTimeout]
@[simp] theorem execMemberReadTimeout_queueKept (ord member : Nat) (s : State) :
    QueueKept (execMemberReadTimeout ord member s) s.pending := by
  unfold execMemberReadTimeout
  split <;> simp
@[simp] theorem execWakeTimeout_queueKept (hive : Nat) (s : State) : QueueKept (execWakeTimeout hive s) s.pending := by
  unfold execWakeTimeout
  split <;> simp
@[simp] theorem execWakeRetry_queueKept (hive : Nat) (s : State) : QueueKept (execWakeRetry hive s) s.pending := by
  unfold execWakeRetry
  (repeat' split) <;> simp
@[simp] theorem execHiveIdleDarkExpiry_queueKept (hive : Nat) (s : State) : QueueKept (execHiveIdleDarkExpiry hive s) s.pending := by
  unfold execHiveIdleDarkExpiry
  split <;> simp
@[simp] theorem execDarkPoint_queueKept (hive : Nat) (s : State) : QueueKept (execDarkPoint hive s) s.pending := by
  unfold execDarkPoint
  split <;> simp
@[simp] theorem execGatherWakeTrigger_queueKept (hive : Nat) (s : State) : QueueKept (execGatherWakeTrigger hive s) s.pending := by
  simp [execGatherWakeTrigger]
@[simp] theorem execGatherDeadline_queueKept (ctrl qid cid : Nat) (s : State) :
    QueueKept (execGatherDeadline ctrl qid cid s) s.pending := by
  unfold execGatherDeadline
  (repeat' split) <;> simp
@[simp] theorem execTokenRenewal_queueKept (hive : Nat) (s : State) : QueueKept (execTokenRenewal hive s) s.pending := by
  unfold execTokenRenewal
  (repeat' split) <;> simp
@[simp] theorem execTokenRequestRetry_queueKept (hive : Nat) (s : State) : QueueKept (execTokenRequestRetry hive s) s.pending := by
  unfold execTokenRequestRetry
  (repeat' split) <;> simp
@[simp] theorem execWorkerTokenExpiry_queueKept (hive : Nat) (s : State) : QueueKept (execWorkerTokenExpiry hive s) s.pending := by
  unfold execWorkerTokenExpiry
  (repeat' split) <;> simp
@[simp] theorem execQueenAutonomyEnd_queueKept (s : State) : QueueKept (execQueenAutonomyEnd s) s.pending := by
  unfold execQueenAutonomyEnd
  split <;> simp

/-! ## The operations of Machine/MoveOps -/

@[simp] theorem State.programUnit_pending (s : State) (r : Region) (m : Member) (foot unit : Bytes) :
    (s.programUnit r m foot unit).pending = s.pending := rfl
@[simp] theorem State.commitStripe_pending (s : State) (ord : Nat) : (s.commitStripe ord).pending = s.pending := by
  unfold State.commitStripe
  split <;> simp
@[simp] theorem State.stripeNow_pending (s : State) (ord : Nat) : (s.stripeNow ord).pending = s.pending := by
  unfold State.stripeNow
  split <;> simp
@[simp] theorem State.rebuildTarget_pending (s : State) (t : Stripe) (i : Nat) : (s.rebuildTarget t i).1.pending = s.pending := by
  have htake (l : Nat) (x : State × Option Member) (use : BlockUse) (qlc : Bool) (need : Nat) : (match x.2 with
      | some _ => x
      | none => x.1.takeUnit l use qlc need).1.pending = x.1.pending := by
    split <;> simp
  unfold State.rebuildTarget
  exact (foldl_fst_pending (fun x l => htake l x ..) _ _).trans (foldl_fst_pending (fun x l => htake l x ..) _ _)
@[simp] theorem State.replaceUnits_pending (s : State) (t : Stripe) (us : List (Nat × Bytes)) (ms at_ : List Member) :
    (s.replaceUnits t us ms at_).1.pending = s.pending := by
  induction us generalizing s ms at_ with
  | nil => rfl
  | cons x us ih =>
    unfold State.replaceUnits
    split
    · exact pending_of_eq ‹_› (by simp)
    · have htarget := pending_of_eq ‹State.rebuildTarget .. = _› (State.rebuildTarget_pending ..)
      simp [ih, htarget]
@[simp] theorem State.commitMembers_pending (s : State) (t : Stripe) (ms : List Member) : (s.commitMembers t ms).pending = s.pending := by
  simp [State.commitMembers]
@[simp] theorem State.loseAt_pending (s : State) (t : Stripe) : (s.loseAt t).pending = s.pending := by simp [State.loseAt]
@[simp] theorem State.rebuild'_pending (s : State) (h : Nat) (f : Rebuild → Rebuild) : (s.rebuild' h f).pending = s.pending := rfl
@[simp] theorem State.rebuildCkpt_pending (s : State) (r : Rebuild) : (s.rebuildCkpt r).pending = s.pending := by simp [State.rebuildCkpt]
@[simp] theorem State.metaRewrite_pending (s : State) (t : Stripe) : (s.metaRewrite t).pending = s.pending := rfl
@[simp] theorem State.rebuildStripe_pending (s : State) (r : Rebuild) (t : Stripe) : (s.rebuildStripe r t).pending = s.pending := by
  simp only [State.rebuildStripe]
  repeat' split
  any_goals simp
  all_goals exact pending_of_eq ‹_› (by simp)
@[simp] theorem State.secondFails_pending (s : State) (r : Rebuild) : (s.secondFails r).pending = s.pending := by
  unfold State.secondFails
  (repeat' split) <;> simp
@[simp] theorem State.resumeRebuild_pending (s : State) (h : Nat) : (s.resumeRebuild h).pending = s.pending := by
  simp only [State.resumeRebuild]
  (repeat' split) <;> simp
@[simp] theorem State.joinRebuild_pending (s : State) (h : Nat) : (s.joinRebuild h).pending = s.pending := by
  unfold State.joinRebuild
  split <;> simp
@[simp] theorem State.resumeReshape_pending (s : State) (es : List JournalEntry) (h : Nat) :
    (s.resumeReshape es h).pending = s.pending := by
  unfold State.resumeReshape
  (repeat' split) <;> simp
@[simp] theorem State.takeReshape_pending (s : State) (h : Nat) : (s.takeReshape h).pending = s.pending := by
  simp only [State.takeReshape]
  split <;> simp
@[simp] theorem State.undoReshape_pending (s : State) (h : Nat) : (s.undoReshape h).pending = s.pending := by
  unfold State.undoReshape
  split <;> simp
@[simp] theorem State.rebuildTurn_pending (s : State) (r : Rebuild) : (s.rebuildTurn r).pending = s.pending := by simp [State.rebuildTurn]
@[simp] theorem State.retireStep_pending (s : State) (h : Nat) : (s.retireStep h).pending = s.pending := by
  simp only [State.retireStep]
  repeat' split
  any_goals simp
  all_goals exact pending_of_eq ‹_› (by simp)
@[simp] theorem State.loseUnsound_pending (s : State) (t : Stripe) : (s.loseUnsound t).pending = s.pending := by
  simp only [State.loseUnsound]
  simp (disch := (simp only [keepsQueue_iff]; intros; (repeat' split) <;> simp))
@[simp] theorem State.placeAll_pending (s : State) (ord : Nat) (es : List (EnvEntry × Place × Bytes)) :
    (s.placeAll ord es).pending = s.pending := by simp [State.placeAll]
@[simp] theorem State.dropStripes_pending (s : State) (ords : List Nat) : (s.dropStripes ords).pending = s.pending := by
  simp [State.dropStripes]
@[simp] theorem State.copySlc_pending (s : State) (hive : Nat) (p : Purpose) (n : Nat) (es : List (EnvEntry × Place × Bytes)) :
    (s.copySlc hive p n es).1.pending = s.pending := by
  induction n generalizing s es with
  | zero => cases es <;> rfl
  | succ n ih => cases es with
    | nil => rfl
    | cons e es =>
      unfold State.copySlc
      dsimp only
      split
      · exact pending_of_eq ‹_› (by simp)
      · have hopen := pending_of_eq ‹State.openStripe .. = _› (State.openStripe_pending ..)
        simp [ih, hopen]
@[simp] theorem State.convertSets_pending (s : State) (h : Nat) : (s.convertSets h).pending = s.pending := by
  simp (disch := (simp only [keepsQueue_iff]; intros; (repeat' split) <;> simp)) [State.convertSets]
@[simp] theorem State.newRow_pending (s : State) (h : Nat) (use : BlockUse) : (s.newRow h use).pending = s.pending := by
  simp [State.newRow]
@[simp] theorem State.row'_pending (s : State) (x : Nat × Nat × Nat) (f : FoldRow → FoldRow) : (s.row' x f).pending = s.pending := rfl
@[simp] theorem State.rowStripe_pending (s : State) (r : FoldRow) (p : Purpose) (es : List (EnvEntry × Place × Bytes)) :
    (s.rowStripe r p es).1.pending = s.pending := by
  unfold State.rowStripe
  dsimp only
  split
  · rfl
  split
  · rfl
  split
  · exact pending_of_eq ‹_› (by simp)
  · have hord := pending_of_eq ‹State.allocStripe _ = _› (State.allocStripe_pending _)
    simp (disch := (simp only [keepsQueue_iff]; intros; (repeat' split) <;> simp)) [hord]
@[simp] theorem State.copyRow_pending (s : State) (x : Nat × Nat × Nat) (p : Purpose) (n : Nat) (es : List (EnvEntry × Place × Bytes)) :
    (s.copyRow x p n es).pending = s.pending := by
  induction n generalizing s es with
  | zero => cases es <;> rfl
  | succ n ih => cases es with
    | nil => rfl
    | cons e es =>
      unfold State.copyRow
      split
      · rfl
      dsimp only
      split
      · have hrow := pending_of_eq ‹State.rowStripe .. = _› (State.rowStripe_pending ..)
        simp [ih, hrow]
      · exact pending_of_eq ‹_› (by simp)
@[simp] theorem State.fillRow_pending (s : State) (x : Nat × Nat × Nat) (p : Purpose) (n : Nat) :
    (s.fillRow x p n).pending = s.pending := by
  induction n generalizing s with
  | zero => rfl
  | succ n ih =>
    unfold State.fillRow
    split
    · rfl
    split
    · rw [ih]
      exact pending_of_eq ‹_› (by simp)
    · exact pending_of_eq ‹_› (by simp)
@[simp] theorem State.padSet_pending (s : State) (x : Nat × Nat × Nat × Nat) : (s.padSet x).pending = s.pending := by simp [State.padSet]
@[simp] theorem State.sealRow_pending (s : State) (x : Nat × Nat × Nat) : (s.sealRow x).pending = s.pending := by
  simp only [State.sealRow]
  (repeat' split) <;> simp (disch := (simp only [keepsQueue_iff]; intros; (repeat' split) <;> simp))
@[simp] theorem State.sealIfFull_pending (s : State) (x : Nat × Nat × Nat) : (s.sealIfFull x).pending = s.pending := by
  unfold State.sealIfFull
  split <;> simp
@[simp] theorem State.judgeFold_pending (s : State) : s.judgeFold.pending = s.pending := by simp [State.judgeFold]
@[simp] theorem State.judgeGc_pending (s : State) (h : Nat) : (s.judgeGc h).pending = s.pending := by simp [State.judgeGc]
@[simp] theorem State.placeStripes_pending (s : State) (ords : List Nat) : (s.placeStripes ords).pending = s.pending := by
  simp [State.placeStripes]
@[simp] theorem State.eraseEnds_pending (s : State) (b : BlockSet) : (s.eraseEnds b).pending = s.pending := by simp [State.eraseEnds]

/-! ## The operations of Machine/MetaOps -/

@[simp] theorem State.loseLeaf_pending (s : State) (d key : Nat) : (s.loseLeaf d key).pending = s.pending := by simp [State.loseLeaf]
@[simp] theorem State.losePage_pending (s : State) (n : PageName) : (s.losePage n).pending = s.pending := by
  unfold State.losePage
  (repeat' split) <;> simp
@[simp] theorem State.loseMeta_pending (s : State) (p : MetaPage) : (s.loseMeta p).pending = s.pending := by simp [State.loseMeta]
@[simp] theorem State.readMeta_pending (s : State) (p : MetaPage) : (s.readMeta p).pending = s.pending := by
  unfold State.readMeta
  split <;> simp
@[simp] theorem State.readAgain_pending (s : State) : s.readAgain.pending = s.pending := by simp [State.readAgain]
@[simp] theorem State.readMetas_pending (s : State) : s.readMetas.pending = s.pending := by simp [State.readMetas]
@[simp] theorem State.anchorUnit_pending (s : State) (bytes : Bytes) (l : Link) : (s.anchorUnit bytes l).pending = s.pending := by
  simp only [State.anchorUnit]
  (repeat' split) <;> simp
@[simp] theorem State.writeAnchor_pending (s : State) : s.writeAnchor.pending = s.pending := by
  unfold State.writeAnchor
  refine (foldl_pending_of (fun _ _ => foldl_pending_of (fun _ _ => ?_) _ _) _ _).trans (State.me'_pending ..)
  split <;> simp
@[simp] theorem State.setRow_pending (s : State) (r : MetaRow) (st : BlockState) (f : BlockSet → BlockSet) :
    (s.setRow r st f).pending = s.pending := by simp [State.setRow]
@[simp] theorem State.takeRow_pending (s : State) (hive : Nat) : (s.takeRow hive).1.pending = s.pending := by
  simp only [State.takeRow]
  (repeat' split) <;> simp
@[simp] theorem State.openMeta_pending (s : State) (hive : Nat) (pages : List Bytes) :
    (s.openMeta hive pages).1.pending = s.pending := by
  unfold State.openMeta
  split
  · rfl
  split
  · exact pending_of_eq ‹_› (by simp)
  have hrow := pending_of_eq ‹State.takeRow .. = _› (State.takeRow_pending ..)
  split
  · exact pending_of_eq ‹_› (by simp [hrow])
  · have hord := pending_of_eq ‹State.allocStripe _ = _› (State.allocStripe_pending _)
    simp [hord, hrow]
@[simp] theorem State.metaStripe_pending (s : State) (hive : Nat) (pages : List Bytes) :
    (s.metaStripe hive pages).1.pending = s.pending := by
  simp only [State.metaStripe]
  repeat' split
  any_goals simp
  all_goals exact pending_of_eq ‹_› (by simp)
@[simp] theorem State.metaWrite_pending (s : State) (hive n : Nat) (ps : List Bytes) (acc : List MetaPtr) :
    (s.metaWrite hive n ps acc).1.pending = s.pending := by
  induction n generalizing s ps acc with
  | zero => cases ps <;> rfl
  | succ n ih => cases ps with
    | nil => rfl
    | cons p ps =>
      unfold State.metaWrite
      split
      · rw [ih]
        exact pending_of_eq ‹_› (by simp)
      · exact pending_of_eq ‹_› (by simp)
@[simp] theorem State.metaCopies_pending (s : State) (pages : List Bytes) (hs : List Nat) (acc : List (List MetaPtr)) :
    (s.metaCopies pages hs acc).1.pending = s.pending := by
  induction hs generalizing s acc with
  | nil => rfl
  | cons h hs ih =>
    unfold State.metaCopies
    split
    · rw [ih]
      exact pending_of_eq ‹_› (by simp)
    · exact pending_of_eq ‹_› (by simp)
@[simp] theorem State.claimSeqs_pending (s : State) (n n' : Nat) : (s.claimSeqs n n').pending = s.pending := by
  fun_induction State.claimSeqs s n n' <;> simp [*]
@[simp] theorem State.flushWith_pending (s : State) (extra : List (MetaPage × Bytes)) : (s.flushWith extra).pending = s.pending := by
  simp only [State.flushWith]
  repeat' split
  any_goals simp
  all_goals exact pending_of_eq ‹_› (by simp)
@[simp] theorem State.flush_pending (s : State) : s.flush.pending = s.pending := by simp [State.flush]
@[simp] theorem State.takePages_pending (s : State) : s.takePages.pending = s.pending := by simp [State.takePages]

/-! ## The operations of Machine/WalkOps -/

@[simp] theorem State.lineFails_pending (s : State) (off : Nat) : (s.lineFails off).1.pending = s.pending := by simp [State.lineFails]

/-! ## The operations of Machine/PairOps -/

@[simp] theorem State.leaveReshapes_pending (s : State) : s.leaveReshapes.pending = s.pending := by simp [State.leaveReshapes]
@[simp] theorem State.shadowFollow_pending (s : State) (r : ShadowRec) : (s.shadowFollow r).pending = s.pending := by
  simp only [State.shadowFollow]
  (repeat' split) <;> simp (disch := (simp only [keepsQueue_iff]; intros; (repeat' split) <;> simp))
@[simp] theorem State.shadowApply_pending (s : State) (r : ShadowRec) : (s.shadowApply r).pending = s.pending := by
  simp [State.shadowApply]
@[simp] theorem State.shadowAux_pending (s : State) (n : Nat) : (s.shadowAux n).pending = s.pending := by
  fun_induction State.shadowAux s n <;> simp [*]
@[simp] theorem State.applyShadow_pending (s : State) : s.applyShadow.pending = s.pending := by simp [State.applyShadow]
@[simp] theorem State.readShadow_pending (s : State) : s.readShadow.pending = s.pending := by simp [State.readShadow]
@[simp] theorem State.shadowReplay_pending (s : State) : s.shadowReplay.pending = s.pending := by
  simp only [State.shadowReplay]
  split <;> simp
@[simp] theorem State.sendWaggle_pending (s : State) (fabric grant dormant : Bool) :
    (s.sendWaggle fabric grant dormant).pending = s.pending := by simp [State.sendWaggle]
@[simp] theorem State.sendWaggles_pending (s : State) (grant dormant : Bool) : (s.sendWaggles grant dormant).pending = s.pending := by
  simp [State.sendWaggles]
@[simp] theorem State.standDown_pending (s : State) : s.standDown.pending = s.pending := rfl
@[simp] theorem State.dropRebalance_pending (s : State) : s.dropRebalance.pending = s.pending := by
  simp only [State.dropRebalance]
  (repeat' split) <;> simp (disch := (simp only [keepsQueue_iff]; intros; (repeat' split) <;> simp))
@[simp] theorem State.declare_pending (s : State) : s.declare.pending = s.pending := by simp [State.declare]
@[simp] theorem State.countMiss_pending (s : State) (fabric : Bool) : (s.countMiss fabric).pending = s.pending := by simp [State.countMiss]
@[simp] theorem State.renewTaken_pending (s : State) : s.renewTaken.pending = s.pending := by simp [State.renewTaken]
@[simp] theorem State.endTick_pending (s : State) : s.endTick.pending = s.pending := by simp [State.endTick]
@[simp] theorem State.joinMode_pending (s : State) : s.joinMode.pending = s.pending := by simp [State.joinMode]
@[simp] theorem State.chainTick_pending (s : State) : s.chainTick.pending = s.pending := by
  unfold State.chainTick
  (repeat' split) <;> simp
@[simp] theorem State.sendDigest_pending (s : State) : s.sendDigest.pending = s.pending := by simp [State.sendDigest]
@[simp] theorem State.sendDormant_pending (s : State) : s.sendDormant.pending = s.pending := by simp [State.sendDormant]
@[simp] theorem State.waggleTick_pending (s : State) : s.waggleTick.pending = s.pending := by simp [State.waggleTick]
@[simp] theorem State.keyTick_pending (s : State) : s.keyTick.pending = s.pending := by simp [State.keyTick]
@[simp] theorem State.formatTick_pending (s : State) : s.formatTick.pending = s.pending := by
  unfold State.formatTick
  split <;> simp
@[simp] theorem State.genTick_pending (s : State) : s.genTick.pending = s.pending := by simp [State.genTick]
@[simp] theorem State.hiveTick_pending (s : State) (id : Nat) : (s.hiveTick id).pending = s.pending := by
  simp only [State.hiveTick]
  (repeat' split) <;> simp
@[simp] theorem State.runTick_pending (s : State) : s.runTick.pending = s.pending := by simp [State.runTick]

/-! ## The operations of Machine/ReplayOps -/

@[simp] theorem State.tearRecords_pending (s : State) : s.tearRecords.pending = s.pending := by simp [State.tearRecords]
@[simp] theorem State.readJournal_pending (s : State) (base : Nat) (es : List JournalEntry) :
    (s.readJournal base es).1.pending = s.pending :=
  foldl_fst_pending (fun _ _ => by simp) _ _
@[simp] theorem State.loadFlash_pending (s : State) : s.loadFlash.pending = s.pending := rfl
@[simp] theorem State.readAnchors_pending (s : State) : s.readAnchors.pending = s.pending := by simp [State.readAnchors]
@[simp] theorem State.findFlash_pending (s : State) : s.findFlash.pending = s.pending := by
  simp only [State.findFlash]
  split <;> simp
@[simp] theorem State.replayFrame_pending (s : State) (f : Frame) : (s.replayFrame f).pending = s.pending := by simp [State.replayFrame]
@[simp] theorem State.replayFrames_pending (s : State) (tick : Nat) : (s.replayFrames tick).pending = s.pending := by
  simp [State.replayFrames]
@[simp] theorem State.owedEnds_pending (s : State) : s.owedEnds.pending = s.pending := by simp [State.owedEnds]
@[simp] theorem State.replayRec_pending (s : State) (r : WaxRec) : (s.replayRec r).pending = s.pending := by
  simp only [State.replayRec]
  (repeat' split) <;> simp
@[simp] theorem State.replayAux_pending (s : State) (pool : List WaxRec) (n : Nat) : (s.replayAux pool n).pending = s.pending := by
  fun_induction State.replayAux s pool n <;> simp [*]
@[simp] theorem State.cutTail_pending (s : State) : s.cutTail.pending = s.pending := rfl
@[simp] theorem State.replayEnds_pending (s : State) (ck first : Nat) : (s.replayEnds ck first).pending = s.pending := by
  simp [State.replayEnds]
@[simp] theorem State.replayFrom_pending (s : State) (c : CkRec) : (s.replayFrom c).pending = s.pending := by simp [State.replayFrom]
@[simp] theorem State.replayOwn_pending (s : State) : s.replayOwn.pending = s.pending := by
  unfold State.replayOwn
  split <;> simp
@[simp] theorem State.resumeIds_pending (s : State) : s.resumeIds.pending = s.pending := rfl
@[simp] theorem State.tailDone_pending (s : State) : s.tailDone.pending = s.pending := by
  unfold State.tailDone
  (repeat' split) <;> simp
@[simp] theorem State.takeCopied_pending (s : State) (r : ShadowRec) : (s.takeCopied r).pending = s.pending := by simp [State.takeCopied]
@[simp] theorem State.replayShadow_pending (s : State) : s.replayShadow.pending = s.pending := by simp [State.replayShadow]
@[simp] theorem State.barBlock_pending (s : State) (m : Member) (r : Region) : (s.barBlock m r).pending = s.pending := by
  unfold State.barBlock
  split <;> simp
@[simp] theorem State.orphanStripe_pending (s : State) (es : List JournalEntry) (o : Nat) : (s.orphanStripe es o).pending = s.pending := by
  simp [State.orphanStripe]
@[simp] theorem State.orphanWalk_pending (s : State) (base : Nat) (es : List JournalEntry) :
    (s.orphanWalk base es).pending = s.pending := by simp [State.orphanWalk]
@[simp] theorem State.recoverRows_pending (s : State) (sd : Side) : (s.recoverRows sd).pending = s.pending := by simp [State.recoverRows]
@[simp] theorem State.sealShort_pending (s : State) (sd : Side) : (s.sealShort sd).pending = s.pending := by simp [State.sealShort]
@[simp] theorem State.resumeAborts_pending (s : State) : s.resumeAborts.pending = s.pending := by
  unfold State.resumeAborts
  refine foldl_pending_of (fun _ _ => ?_) _ _
  (repeat' split) <;> simp
@[simp] theorem State.resumeWork_pending (s : State) : s.resumeWork.pending = s.pending := by
  simp only [State.resumeWork]
  simp (disch := (simp only [keepsQueue_iff]; intros; (repeat' split) <;> simp))
@[simp] theorem State.replay_pending (s : State) : s.replay.pending = s.pending := by simp [State.replay]

/-! ## The operations of Machine/ForageOps -/

@[simp] theorem State.evictOne_pending (s : State) : s.evictOne.pending = s.pending := by
  simp only [State.evictOne]
  (repeat' split) <;> simp
@[simp] theorem State.evictRest_pending (s : State) : s.evictRest.pending = s.pending := by simp [State.evictRest]
@[simp] theorem State.putCtx_pending (s : State) (c : Ctx) : (s.putCtx c).pending = s.pending := rfl
@[simp] theorem State.pushUnconfirmed_pending (s : State) : s.pushUnconfirmed.pending = s.pending := by simp [State.pushUnconfirmed]
@[simp] theorem State.bindPinned_pending (s : State) : s.bindPinned.pending = s.pending := by simp [State.bindPinned]
@[simp] theorem State.sendBind_pending (s : State) (c : Ctx) : (s.sendBind c).pending = s.pending := by simp [State.sendBind]
@[simp] theorem State.sendBinding_pending (s : State) (id : Nat) : (s.sendBinding id).pending = s.pending := by
  simp only [State.sendBinding]
  (repeat' split) <;> simp
@[simp] theorem State.rebind_pending (s : State) (old : Ctx) : (s.rebind old).pending = s.pending := by
  unfold State.rebind
  (repeat' split) <;> simp
@[simp] theorem State.bindMsg_pending (s : State) (src : Nat) (b : Bytes) : (s.bindMsg src b).pending = s.pending := by
  simp only [State.bindMsg]
  (repeat' split) <;> simp
@[simp] theorem State.resumeTo_pending (s : State) (head : Nat) : (s.resumeTo head).pending = s.pending := by simp [State.resumeTo]
@[simp] theorem State.breakSend_pending (s : State) (c : Ctx) (status : Nat) (ms : List SentMsg) :
    (s.breakSend c status ms).pending = s.pending := by simp [State.breakSend]
@[simp] theorem State.failCtx_pending (s : State) (c : Ctx) (status : Nat) : (s.failCtx c status).pending = s.pending := by
  simp [State.failCtx]
@[simp] theorem State.sendAck_pending (s : State) (id echo : Nat) : (s.sendAck id echo).pending = s.pending := by
  unfold State.sendAck
  split <;> simp
@[simp] theorem State.sendNak_pending (s : State) (p : FPkt) (code off len : Nat) : (s.sendNak p code off len).pending = s.pending := rfl
@[simp] theorem State.nakMissing_pending (s : State) (p : FPkt) (c : Ctx) (id : BitVec 32) (off map : Nat) :
    (s.nakMissing p c id off map).pending = s.pending := by simp [State.nakMissing]
@[simp] theorem State.placePkt_pending (s : State) (c : Ctx) (p : FPkt) (carried : Option ShadowRec) (journal : Option JournalEntry) :
    (s.placePkt c p carried journal).pending = s.pending := by simp [State.placePkt]
@[simp] theorem State.dropFull_pending (s : State) : s.dropFull.pending = s.pending := by simp [State.dropFull]
@[simp] theorem State.takeMirrored_pending (s : State) (r : ShadowRec) : (s.takeMirrored r).pending = s.pending := by
  simp [State.takeMirrored]
@[simp] theorem State.takeEntry_pending (s : State) (e : JournalEntry) : (s.takeEntry e).pending = s.pending := rfl
@[simp] theorem State.visibleEffect_pending (s : State) (c : Ctx) (m : RxMsg) : (s.visibleEffect c m).pending = s.pending := by
  unfold State.visibleEffect
  (repeat' split) <;> simp
@[simp] theorem State.sendResp_pending (s : State) (c : Ctx) (m : RxMsg) (again : Bool) : (s.sendResp c m again).pending = s.pending := by
  simp [State.sendResp]
@[simp] theorem State.answerRead_pending (s : State) (c : Ctx) (m : RxMsg) : (s.answerRead c m).pending = s.pending := by
  simp [State.answerRead]
@[simp] theorem State.showAux_pending (s : State) (id n : Nat) : (s.showAux id n).pending = s.pending := by
  induction n generalizing s with
  | zero => rfl
  | succ n ih =>
    unfold State.showAux
    split
    · rfl
    split
    · rfl
    split
    · rfl
    split
    · rfl
    extract_lets c1 c2 u young v w z
    have hw : w.pending = s.pending := by simp [w, v, u]
    have hz : z.pending = w.pending := by
      unfold z
      split <;> simp
    rw [ih, hz, hw]
@[simp] theorem State.showMsgs_pending (s : State) (id echo : Nat) (asked : Bool) : (s.showMsgs id echo asked).pending = s.pending := by
  unfold State.showMsgs
  split <;> simp
@[simp] theorem State.drainRings_pending (s : State) : s.drainRings.pending = s.pending := by simp [State.drainRings]
@[simp] theorem State.arrive7_pending (s : State) (p : FPkt) (carried : Option ShadowRec) (journal : Option JournalEntry) :
    (s.arrive7 p carried journal).pending = s.pending := by
  unfold State.arrive7
  split
  · simp
  refine pending_ite_of (by simp) (pending_ite_of (by simp) (pending_ite_of (by simp) (pending_ite_of rfl (pending_ite_of ?_ ?_))))
  · split
    · exact pending_ite_of rfl (by simp)
    refine pending_ite_of (by simp) ?_
    extract_lets u v
    have hu : u.pending = s.pending := by simp [u]
    have hv : v.pending = s.pending := by simp [v, hu]
    clear_value u v
    split
    · exact hu
    · (repeat' split) <;> simp [hu, hv]
  refine pending_ite_of (by simp) (pending_ite_of (by simp) (pending_ite_of (by simp) ?_))
  extract_lets before would u size v prev w z y
  refine pending_ite_of (by simp) ?_
  have hu : u.pending = s.pending := State.placePkt_pending ..
  clear_value u before would
  have hv : v.pending = s.pending := by
    unfold v
    (repeat' split) <;> simp [hu]
  clear_value v
  have hw : w.pending = s.pending := by
    unfold w
    (repeat' split) <;> simp [hv]
  clear_value w
  have hz : z.pending = s.pending := by simp [z, hw]
  have hy : y.pending = s.pending := by simp [y, hz]
  clear_value y z
  (repeat' split) <;> simp [hy, hz]
@[simp] theorem State.checkPkt_pending (s : State) (p : FPkt) (fits : Bool) : (s.checkPkt p fits).1.pending = s.pending := by
  simp [State.checkPkt]
@[simp] theorem State.arrive_pending (s : State) (p : FPkt) (carried : Option ShadowRec) (journal : Option JournalEntry) :
    (s.arrive p carried journal).pending = s.pending := by
  simp only [State.arrive]
  (repeat' split) <;> simp
@[simp] theorem State.samplePath_pending (s : State) (path rtt newly : Nat) : (s.samplePath path rtt newly).pending = s.pending := by
  unfold State.samplePath
  split <;> simp
@[simp] theorem State.resendMsgs_pending (s : State) (c : Ctx) (ms : List SentMsg) : (s.resendMsgs c ms).pending = s.pending := by
  simp [State.resendMsgs]

/-! ## The operations of Machine/UpdOps -/

@[simp] theorem State.tellUpdate_pending (s : State) (version : Nat) (pend fallback : Bool) :
    (s.tellUpdate version pend fallback).pending = s.pending := by simp [State.tellUpdate]
@[simp] theorem State.fallBack_pending (s : State) : s.fallBack.pending = s.pending := by simp [State.fallBack]
@[simp] theorem State.orderFallback_pending (s : State) : s.orderFallback.pending = s.pending := by simp [State.orderFallback]
@[simp] theorem State.fallbackTick_pending (s : State) : s.fallbackTick.pending = s.pending := by simp [State.fallbackTick]

/-! ## The operations of Machine/WireOps -/

@[simp] theorem State.fetched_pending (s : State) (h : HeldReply) : (s.fetched h).pending = s.pending := by simp [State.fetched]
@[simp] theorem State.sbCause_pending (s : State) (bit : Nat) : (s.sbCause bit).pending = s.pending := by simp [State.sbCause]
@[simp] theorem State.judgeStatus_pending (s : State) : s.judgeStatus.pending = s.pending := by simp [State.judgeStatus]
@[simp] theorem State.mbxFault_pending (s : State) (bit : Nat) : (s.mbxFault bit).pending = s.pending := by simp [State.mbxFault]
@[simp] theorem State.sbLoad_pending (s : State) : s.sbLoad.pending = s.pending := by
  unfold State.sbLoad
  (repeat' split) <;> simp
@[simp] theorem State.sentinelReset_pending (s : State) (code : Nat) (sev : Severity) (cause : Nat) :
    (s.sentinelReset code sev cause).pending = s.pending := by simp [State.sentinelReset]
@[simp] theorem State.latchWake_pending (s : State) (bit : Nat) : (s.latchWake bit).pending = s.pending := by simp [State.latchWake]
@[simp] theorem State.judgeAlign_pending (s : State) : s.judgeAlign.pending = s.pending := by simp [State.judgeAlign]
@[simp] theorem State.peerAligned_pending (s : State) : s.peerAligned.pending = s.pending := by simp [State.peerAligned]
@[simp] theorem State.releasePads_pending (s : State) : s.releasePads.pending = s.pending := by simp [State.releasePads]

/-! ## The operations of Machine/StartOps -/

@[simp] theorem State.finishStep_pending (s : State) (k outcome attempt failCode dur : Nat) (detail : Bytes) :
    (s.finishStep k outcome attempt failCode dur detail).pending = s.pending := by
  simp only [State.finishStep]
  split <;> simp
@[simp] theorem State.beginStep_pending (s : State) (k attempt : Nat) : (s.beginStep k attempt).pending = s.pending := rfl
@[simp] theorem State.bootReset_pending (s : State) : s.bootReset.pending = s.pending := by simp [State.bootReset]
@[simp] theorem State.stepFails_pending (s : State) (k attempt dur : Nat) : (s.stepFails k attempt dur).pending = s.pending := by
  simp [State.stepFails]
@[simp] theorem State.stepPasses_pending (s : State) (k attempt dur : Nat) (detail : Bytes) :
    (s.stepPasses k attempt dur detail).pending = s.pending := by simp [State.stepPasses]
theorem bootStep_pending {act : State → State × Bool} (hact : ∀ t, (act t).1.pending = t.pending) (x : State × Bool) (k : Nat)
    (detail : State → Bytes) : (bootStep x k act detail).1.pending = x.1.pending := by
  simp only [bootStep]
  (repeat' split) <;> simp [hact]
@[simp] theorem State.romStep_pending (s : State) : s.romStep.1.pending = s.pending := rfl
@[simp] theorem State.namedBank_pending (s : State) : s.namedBank.1.pending = s.pending := by
  unfold State.namedBank
  split <;> simp
@[simp] theorem State.bankFormats_pending (s : State) (b v : Nat) : (s.bankFormats b v).pending = s.pending := rfl
@[simp] theorem State.executeBank_pending (s : State) (b : Nat) : (s.executeBank b).pending = s.pending := by simp [State.executeBank]
@[simp] theorem State.bankStep_pending (s : State) : s.bankStep.1.pending = s.pending := by simp [State.bankStep]
@[simp] theorem State.dramStep_pending (s : State) : s.dramStep.1.pending = s.pending := rfl
@[simp] theorem State.waxStep_pending (s : State) : s.waxStep.1.pending = s.pending := by simp [State.waxStep]
@[simp] theorem State.mainStep_pending (s : State) : s.mainStep.1.pending = s.pending := by simp [State.mainStep]
@[simp] theorem State.testStep_pending (s : State) : s.testStep.1.pending = s.pending := by simp [State.testStep]
@[simp] theorem State.linkStep_pending (s : State) : s.linkStep.1.pending = s.pending := by simp [State.linkStep]
@[simp] theorem State.admitHives_pending (s : State) : s.admitHives.pending = s.pending := by simp [State.admitHives]
@[simp] theorem State.setTick_pending (s : State) : s.setTick.pending = s.pending := rfl
@[simp] theorem State.commitRestore_pending (s : State) : s.commitRestore.pending = s.pending := by simp [State.commitRestore]
@[simp] theorem State.beginJoin_pending (s : State) (attempt : Nat) : (s.beginJoin attempt).pending = s.pending := by
  simp [State.beginJoin]
@[simp] theorem State.colonyStep_pending (s : State) (attempt : Nat) : (s.colonyStep attempt).pending = s.pending := by
  simp [State.colonyStep]
@[simp] theorem State.skipStep_pending (s : State) (k : Nat) : (s.skipStep k).pending = s.pending := by simp [State.skipStep]
@[simp] theorem State.afterJoin_pending (s : State) : s.afterJoin.pending = s.pending := by simp [State.afterJoin]
@[simp] theorem State.serve_pending (s : State) : s.serve.pending = s.pending := by simp [State.serve]
@[simp] theorem State.startTick_pending (s : State) : s.startTick.pending = s.pending := by simp [State.startTick]
@[simp] theorem State.rearm_pending (s : State) : s.rearm.pending = s.pending := by simp [State.rearm]

/-! ## The operations of Machine/Pair -/

@[simp] theorem execCommitTick_queueKept (s : State) : QueueKept (execCommitTick s) s.pending := by simp [execCommitTick]
@[simp] theorem State.pathBack_pending (s : State) (fabric : Bool) : (s.pathBack fabric).pending = s.pending := by simp [State.pathBack]
@[simp] theorem State.declaredBy_pending (s : State) : s.declaredBy.pending = s.pending := by simp [State.declaredBy]
@[simp] theorem execWaggle_queueKept (m : WaggleMsg) (s : State) : QueueKept (execWaggle m s) s.pending := by simp [execWaggle]
@[simp] theorem execLeaseEnd_queueKept (s : State) : QueueKept (execLeaseEnd s) s.pending := by simp [execLeaseEnd]
@[simp] theorem State.tickDigest_pending (s : State) (m : DigestMsg) : (s.tickDigest m).pending = s.pending := by simp [State.tickDigest]
@[simp] theorem execTickDigest_queueKept (m : DigestMsg) (s : State) : QueueKept (execTickDigest m s) s.pending := by simp [execTickDigest]
@[simp] theorem State.endMismatchThen_pending (s : State) (out : Option Bool) (after : List After) :
    (s.endMismatchThen out after).pending = s.pending := by
  unfold State.endMismatchThen
  split <;> simp
@[simp] theorem State.endMismatch_pending (s : State) (out : Option Bool) : (s.endMismatch out).pending = s.pending := by
  simp [State.endMismatch]
@[simp] theorem State.judgeReports_pending (s : State) : s.judgeReports.pending = s.pending := by
  unfold State.judgeReports
  split <;> simp
@[simp] theorem execSelfCheck_queueKept (selfTestOk : Bool) (s : State) : QueueKept (execSelfCheck selfTestOk s) s.pending := by
  simp only [execSelfCheck]
  (repeat' split) <;> simp
@[simp] theorem execSelfCheckReport_queueKept (right : Bool) (s : State) : QueueKept (execSelfCheckReport right s) s.pending := by
  simp [execSelfCheckReport]
@[simp] theorem execSelfCheckReportTimeout_queueKept (s : State) : QueueKept (execSelfCheckReportTimeout s) s.pending := by
  simp [execSelfCheckReportTimeout]
@[simp] theorem execPeerIsolationYield_queueKept (s : State) : QueueKept (execPeerIsolationYield s) s.pending := by
  simp [execPeerIsolationYield]
@[simp] theorem State.phaseEnds_pending (s : State) : s.phaseEnds.pending = s.pending := rfl
@[simp] theorem execTakeoverFenceWait_queueKept (s : State) : QueueKept (execTakeoverFenceWait s) s.pending := by
  simp [execTakeoverFenceWait]
@[simp] theorem execArbiterFenceResult_queueKept (link : Nat) (won : Bool) (s : State) :
    QueueKept (execArbiterFenceResult link won s) s.pending := by simp [execArbiterFenceResult]
@[simp] theorem execArbiterRetry_queueKept (s : State) : QueueKept (execArbiterRetry s) s.pending := by simp [execArbiterRetry]
@[simp] theorem State.holdPeerHives_pending (s : State) : s.holdPeerHives.pending = s.pending := by simp [State.holdPeerHives]
@[simp] theorem execFenceAllRaised_queueKept (s : State) : QueueKept (execFenceAllRaised s) s.pending := by simp [execFenceAllRaised]
@[simp] theorem execTakeoverReplayEnd_queueKept (s : State) : QueueKept (execTakeoverReplayEnd s) s.pending := by
  simp [execTakeoverReplayEnd]
@[simp] theorem State.pairInit_pending (s : State) : s.pairInit.pending = s.pending := by simp [State.pairInit]
@[simp] theorem State.formAlone_pending (s : State) : s.formAlone.pending = s.pending := by simp [State.formAlone]
@[simp] theorem execPairJoinTimeout_queueKept (s : State) : QueueKept (execPairJoinTimeout s) s.pending := by
  unfold execPairJoinTimeout
  split <;> simp
@[simp] theorem State.joinedNow_pending (s : State) (m : WaggleMsg) : (s.joinedNow m).pending = s.pending := by simp [State.joinedNow]
@[simp] theorem State.formVault_pending (s : State) : s.formVault.pending = s.pending := by simp [State.formVault]
@[simp] theorem State.beginCopy_pending (s : State) (m : WaggleMsg) : (s.beginCopy m).pending = s.pending := by simp [State.beginCopy]
@[simp] theorem State.enterRejoin_pending (s : State) (m : WaggleMsg) (f : FlashMeta) : (s.enterRejoin m f).pending = s.pending := by
  simp [State.enterRejoin]
@[simp] theorem State.sendTail_pending (s : State) (peerEnd : Nat) (lost : Bool) : (s.sendTail peerEnd lost).pending = s.pending := by
  simp [State.sendTail]
@[simp] theorem State.reconcile_pending (s : State) (m : WaggleMsg) (r : HeadReport) : (s.reconcile m r).pending = s.pending := by
  simp only [State.reconcile]
  split <;> simp
@[simp] theorem State.takeEpoch_pending (s : State) (m : WaggleMsg) : (s.takeEpoch m).pending = s.pending := by simp [State.takeEpoch]
@[simp] theorem State.peerReports_pending (s : State) (r : HeadReport) : (s.peerReports r).pending = s.pending := by
  simp [State.peerReports]
@[simp] theorem execPairJoin_queueKept (peer : WaggleMsg) (r : HeadReport) (s : State) : QueueKept (execPairJoin peer r s) s.pending := by
  unfold execPairJoin
  split <;> simp
@[simp] theorem execRejoinCopyComplete_queueKept (s : State) : QueueKept (execRejoinCopyComplete s) s.pending := by
  simp [execRejoinCopyComplete]
@[simp] theorem State.receive_pending (s : State) (r : Rebalance) : (s.receive r).pending = s.pending := by
  simp only [State.receive]
  simp (disch := (simp only [keepsQueue_iff]; intros; (repeat' split) <;> simp))
@[simp] theorem execRebalancePhaseEnd_queueKept (s : State) : QueueKept (execRebalancePhaseEnd s) s.pending := by
  simp only [execRebalancePhaseEnd]
  (repeat' split) <;> simp (disch := (simp only [keepsQueue_iff]; intros; (repeat' split) <;> simp))
@[simp] theorem execRebalanceHoldTimeout_queueKept (s : State) : QueueKept (execRebalanceHoldTimeout s) s.pending := by
  unfold execRebalanceHoldTimeout
  split <;> simp
@[simp] theorem State.pair'_pending (s : State) (i : Nat) (f : FabricPair → FabricPair) : (s.pair' i f).pending = s.pending := rfl
@[simp] theorem State.resendPair_pending (s : State) (i : Nat) : (s.resendPair i).pending = s.pending := by
  unfold State.resendPair
  split <;> simp
@[simp] theorem execFabricPortFail_queueKept (pair : Nat) (s : State) : QueueKept (execFabricPortFail pair s) s.pending := by
  unfold execFabricPortFail
  (repeat' split) <;> simp
@[simp] theorem execStandbyEligible_queueKept (pair : Nat) (s : State) : QueueKept (execStandbyEligible pair s) s.pending := by
  unfold execStandbyEligible
  (repeat' split) <;> simp
@[simp] theorem State.judgeCables_pending (s : State) (before : Nat) : (s.judgeCables before).pending = s.pending := by
  simp [State.judgeCables]
@[simp] theorem execPeerLinkDown_queueKept (link : Nat) (s : State) : QueueKept (execPeerLinkDown link s) s.pending := by
  simp [execPeerLinkDown]
@[simp] theorem execPeerLinkUp_queueKept (link : Nat) (s : State) : QueueKept (execPeerLinkUp link s) s.pending := by simp [execPeerLinkUp]

/-! ## The operations of Machine/Colony -/

@[simp] theorem State.toWorkers_pending (s : State) (f : Nat → ColMsg) : (s.toWorkers f).pending = s.pending := by simp [State.toWorkers]
@[simp] theorem State.listChange_pending (s : State) (c : CtlChange) (more : List After) : (s.listChange c more).pending = s.pending := by
  simp [State.listChange]
@[simp] theorem State.deposeBy_pending (s : State) (epoch : Nat) : (s.deposeBy epoch).pending = s.pending := rfl
@[simp] theorem State.atQueen_pending (s : State) (ep : Nat) (f : State → State) (hf : KeepsQueue f) :
    (s.atQueen ep f).pending = s.pending := by simp [State.atQueen, hf.pending]
@[simp] theorem State.atWorker_pending (s : State) (ep : Nat) (f : State → State) (hf : KeepsQueue f) :
    (s.atWorker ep f).pending = s.pending := by simp [State.atWorker, hf.pending]
@[simp] theorem execJoin_queueKept (ep apiary serial headA headB : Nat) (addrs : List Bytes) (s : State) :
    QueueKept (execJoin ep apiary serial headA headB addrs s) s.pending := by simp [execJoin]
@[simp] theorem State.takeSix_pending (s : State) (items : List (Nat × Bytes)) : (s.takeSix items).pending = s.pending := rfl
@[simp] theorem execJoinReply_queueKept (accepted : Bool) (cause epoch : Nat) (items : List (Nat × Bytes)) (s : State) :
    QueueKept (execJoinReply accepted cause epoch items s) s.pending := by
  unfold execJoinReply
  split <;> simp
@[simp] theorem execLeave_queueKept (ep apiary : Nat) (s : State) : QueueKept (execLeave ep apiary s) s.pending := by simp [execLeave]
@[simp] theorem State.queenBack_pending (s : State) : s.queenBack.pending = s.pending := by simp [State.queenBack]
@[simp] theorem execContact_queueKept (src epoch settingsGen : Nat) (gateOpen : Bool) (s : State) :
    QueueKept (execContact src epoch settingsGen gateOpen s) s.pending := by simp [execContact]
@[simp] theorem execContactSend_queueKept (s : State) : QueueKept (execContactSend s) s.pending := by simp [execContactSend]
@[simp] theorem execQueenUnreachable_queueKept (s : State) : QueueKept (execQueenUnreachable s) s.pending := by simp [execQueenUnreachable]
@[simp] theorem State.adoptToken_pending (s : State) (head : Nat) (t : WakeToken) : (s.adoptToken head t).pending = s.pending := by
  simp [State.adoptToken]
@[simp] theorem State.announceKey_pending (s : State) : s.announceKey.pending = s.pending := by
  unfold State.announceKey
  split <;> simp
@[simp] theorem execReport_queueKept (ep : Nat) (r : Report7) (s : State) : QueueKept (execReport ep r s) s.pending := by simp [execReport]
@[simp] theorem execTokenRequest_queueKept (ep apiary head hive prio num : Nat) (s : State) :
    QueueKept (execTokenRequest ep apiary head hive prio num s) s.pending := by simp [execTokenRequest]
@[simp] theorem execHeldTokenRequestTimeout_queueKept (apiary num : Nat) (s : State) :
    QueueKept (execHeldTokenRequestTimeout apiary num s) s.pending := by
  unfold execHeldTokenRequestTimeout
  split <;> simp
@[simp] theorem execTokenGrant_queueKept (ep : Nat) (t : WakeToken) (autonomy : Nat) (s : State) :
    QueueKept (execTokenGrant ep t autonomy s) s.pending := by
  simp only [execTokenGrant, queueKept_ok]
  refine State.atWorker_pending _ _ _ fun _ => ?_
  (repeat' split) <;> simp
@[simp] theorem execTokenRefuse_queueKept (ep num cause : Nat) (s : State) :
    QueueKept (execTokenRefuse ep num cause s) s.pending := by
  simp only [execTokenRefuse, queueKept_ok]
  refine State.atWorker_pending _ _ _ fun _ => ?_
  (repeat' split) <;> simp
@[simp] theorem execTokenRecall_queueKept (ep id : Nat) (s : State) :
    QueueKept (execTokenRecall ep id s) s.pending := by
  simp only [execTokenRecall, queueKept_ok]
  refine State.atWorker_pending _ _ _ fun _ => ?_
  (repeat' split) <;> simp
@[simp] theorem execColonyDormant_queueKept (ep id : Nat) (s : State) : QueueKept (execColonyDormant ep id s) s.pending := by
  simp [execColonyDormant]
@[simp] theorem execQueenTokenExpiry_queueKept (id : Nat) (s : State) : QueueKept (execQueenTokenExpiry id s) s.pending := by
  unfold execQueenTokenExpiry
  split <;> simp
@[simp] theorem State.deposedCourse_pending (s : State) (list : List (Nat × Nat × Nat × Bool × List Bytes)) :
    (s.deposedCourse list).pending = s.pending := by
  unfold State.deposedCourse
  split <;> simp
@[simp] theorem State.planned_pending (s : State) (a epoch : Nat) : (s.planned a epoch).pending = s.pending := by simp [State.planned]
@[simp] theorem execColonySettings_queueKept (ep gen : Nat) (items : List (Nat × Bytes)) (keyGen : Nat) (s : State) :
    QueueKept (execColonySettings ep gen items keyGen s) s.pending := by
  simp only [execColonySettings]
  split <;> simp
@[simp] theorem execArbitrate_queueKept (ep head : Nat) (shownRight : Bool) (s : State) :
    QueueKept (execArbitrate ep head shownRight s) s.pending := by
  simp only [execArbitrate, queueKept_ok]
  refine State.atQueen_pending _ _ _ fun _ => ?_
  (repeat' split) <;> simp
@[simp] theorem execUpdateState_queueKept (ep head version : Nat) (pend fallback : Bool) (s : State) :
    QueueKept (execUpdateState ep head version pend fallback s) s.pending := by
  simp only [execUpdateState, queueKept_ok]
  refine State.atQueen_pending _ _ _ fun _ => ?_
  (repeat' split) <;> simp
@[simp] theorem execRolloutWaveOpen_queueKept (s : State) : QueueKept (execRolloutWaveOpen s) s.pending := by simp [execRolloutWaveOpen]

/-! ## The operations of Machine/ColonyCtl -/

@[simp] theorem execColonyStatus_queueKept (q : VReq) (s : State) : QueueKept (execColonyStatus q s) s.pending := by
  simp [execColonyStatus]
@[simp] theorem State.colonyAsk_pending (s : State) (q : VReq) : (s.colonyAsk q).pending = s.pending := by simp [State.colonyAsk]
@[simp] theorem execColonyJoin_queueKept (q : VReq) (s : State) : QueueKept (execColonyJoin q s) s.pending := by simp [execColonyJoin]
@[simp] theorem execColonyJoinTimeout_queueKept (s : State) : QueueKept (execColonyJoinTimeout s) s.pending := by
  unfold execColonyJoinTimeout
  split <;> simp
@[simp] theorem State.colonyQuit_pending (s : State) (q : VReq) : (s.colonyQuit q).pending = s.pending := by simp [State.colonyQuit]
@[simp] theorem execColonyLeave_queueKept (q : VReq) (s : State) : QueueKept (execColonyLeave q s) s.pending := by simp [execColonyLeave]
@[simp] theorem State.queenAsk_pending (s : State) (q : VReq) : (s.queenAsk q).pending = s.pending := by simp [State.queenAsk]
@[simp] theorem execQueenAssign_queueKept (q : VReq) (s : State) : QueueKept (execQueenAssign q s) s.pending := by simp [execQueenAssign]
@[simp] theorem execTokenStatus_queueKept (q : VReq) (s : State) : QueueKept (execTokenStatus q s) s.pending := by simp [execTokenStatus]
@[simp] theorem execCatalogueRead_queueKept (q : VReq) (s : State) : QueueKept (execCatalogueRead q s) s.pending := by
  simp [execCatalogueRead]

/-! ## The operations of Machine/Diag -/

@[simp] theorem State.waitRead_pending (s : State) (link die block page : Nat) (arg : BitVec 32) (use : TaskUse) :
    (s.waitRead link die block page arg use).pending = s.pending := rfl
@[simp] theorem State.recoveryLink_pending (s : State) (link : Nat) : (s.recoveryLink link).pending = s.pending := by
  unfold State.recoveryLink
  (repeat' split) <;> simp
@[simp] theorem State.diagDieRead_pending (s : State) (q : VReq) : (s.diagDieRead q).pending = s.pending := by
  simp only [State.diagDieRead]
  split <;> simp
@[simp] theorem execDiagDieRead_queueKept (q : VReq) (s : State) : QueueKept (execDiagDieRead q s) s.pending := by simp [execDiagDieRead]
@[simp] theorem State.diagLinkLoop_pending (s : State) (q : VReq) : (s.diagLinkLoop q).pending = s.pending := by
  simp only [State.diagLinkLoop]
  split <;> simp
@[simp] theorem execDiagLinkLoop_queueKept (q : VReq) (s : State) : QueueKept (execDiagLinkLoop q s) s.pending := by
  simp [execDiagLinkLoop]
@[simp] theorem State.diagSelftest_pending (s : State) (q : VReq) : (s.diagSelftest q).pending = s.pending := by simp [State.diagSelftest]
@[simp] theorem execDiagSelftest_queueKept (q : VReq) (s : State) : QueueKept (execDiagSelftest q s) s.pending := by
  simp [execDiagSelftest]
@[simp] theorem execDiagDump_queueKept (q : VReq) (s : State) : QueueKept (execDiagDump q s) s.pending := by simp [execDiagDump]

/-! ## The operations of Machine/EvtCtl -/

@[simp] theorem State.evtRead_pending (s : State) (q : VReq) : (s.evtRead q).pending = s.pending := by simp [State.evtRead]
@[simp] theorem execEvtRead_queueKept (q : VReq) (s : State) : QueueKept (execEvtRead q s) s.pending := by simp [execEvtRead]
@[simp] theorem State.sendNotice_pending (s : State) (x : Session) : (s.sendNotice x).pending = s.pending := by
  unfold State.sendNotice
  split <;> simp
@[simp] theorem State.evtSubscribe_pending (s : State) (q : VReq) : (s.evtSubscribe q).pending = s.pending := by
  unfold State.evtSubscribe
  split <;> simp
@[simp] theorem execEvtSubscribe_queueKept (q : VReq) (s : State) : QueueKept (execEvtSubscribe q s) s.pending := by
  simp [execEvtSubscribe]
@[simp] theorem State.ctrRead_pending (s : State) (q : VReq) : (s.ctrRead q).pending = s.pending := by
  simp only [State.ctrRead]
  (repeat' split) <;> simp
@[simp] theorem execCtrRead_queueKept (q : VReq) (s : State) : QueueKept (execCtrRead q s) s.pending := by simp [execCtrRead]
@[simp] theorem State.ctrClear_pending (s : State) (q : VReq) : (s.ctrClear q).pending = s.pending := by simp [State.ctrClear]
@[simp] theorem execCtrClear_queueKept (q : VReq) (s : State) : QueueKept (execCtrClear q s) s.pending := by simp [execCtrClear]

/-! ## The operations of Machine/HiveCtl -/

@[simp] theorem execHiveStatus_queueKept (q : VReq) (s : State) : QueueKept (execHiveStatus q s) s.pending := by simp [execHiveStatus]
@[simp] theorem State.hiveWake_pending (s : State) (q : VReq) : (s.hiveWake q).pending = s.pending := by
  simp only [State.hiveWake]
  split <;> simp
@[simp] theorem execHiveWake_queueKept (q : VReq) (s : State) : QueueKept (execHiveWake q s) s.pending := by simp [execHiveWake]
@[simp] theorem State.hiveDark_pending (s : State) (q : VReq) : (s.hiveDark q).pending = s.pending := by
  simp only [State.hiveDark]
  split <;> simp
@[simp] theorem execHiveDark_queueKept (q : VReq) (s : State) : QueueKept (execHiveDark q s) s.pending := by simp [execHiveDark]
@[simp] theorem State.superAsk_pending (s : State) (q : VReq) : (s.superAsk q).pending = s.pending := by simp [State.superAsk]
@[simp] theorem execSuperAttach_queueKept (q : VReq) (s : State) : QueueKept (execSuperAttach q s) s.pending := by simp [execSuperAttach]
@[simp] theorem State.combRetire_pending (s : State) (q : VReq) : (s.combRetire q).pending = s.pending := by
  simp only [State.combRetire]
  split <;> simp
@[simp] theorem execCombRetire_queueKept (q : VReq) (s : State) : QueueKept (execCombRetire q s) s.pending := by simp [execCombRetire]
@[simp] theorem State.acceptLoss_pending (s : State) (q : VReq) : (s.acceptLoss q).pending = s.pending := by
  simp only [State.acceptLoss]
  split <;> simp
@[simp] theorem execStripeAcceptLoss_queueKept (q : VReq) (s : State) : QueueKept (execStripeAcceptLoss q s) s.pending := by
  simp [execStripeAcceptLoss]
@[simp] theorem execMediaStats_queueKept (q : VReq) (s : State) : QueueKept (execMediaStats q s) s.pending := by simp [execMediaStats]

/-! ## The operations of Machine/KeyCtl -/

@[simp] theorem State.ownerEnroll_pending (s : State) (q : VReq) : (s.ownerEnroll q).pending = s.pending := by simp [State.ownerEnroll]
@[simp] theorem execOwnerEnroll_queueKept (q : VReq) (s : State) : QueueKept (execOwnerEnroll q s) s.pending := by simp [execOwnerEnroll]
@[simp] theorem State.keyProvision_pending (s : State) (q : VReq) : (s.keyProvision q).pending = s.pending := by
  unfold State.keyProvision
  split <;> simp
@[simp] theorem execKeyProvision_queueKept (q : VReq) (s : State) : QueueKept (execKeyProvision q s) s.pending := by
  simp [execKeyProvision]
@[simp] theorem State.keyExport_pending (s : State) (q : VReq) : (s.keyExport q).pending = s.pending := by simp [State.keyExport]
@[simp] theorem execKeyEscrowExport_queueKept (q : VReq) (s : State) : QueueKept (execKeyEscrowExport q s) s.pending := by
  simp [execKeyEscrowExport]
@[simp] theorem State.lastReply_pending (s : State) (q : VReq) (op : Nat) (st : VStatus) : (s.lastReply q op st).pending = s.pending := by
  simp [State.lastReply]
@[simp] theorem State.restoreVault_pending (s : State) (blob : Bytes) (es : List VaultEntry) :
    (s.restoreVault blob es).pending = s.pending := by
  delta State.restoreVault
  extract_lets one waxOk wax t recs u
  have ht : t.pending = s.pending := by
    unfold t
    split
    · rfl
    · rw [State.wx'_pending, State.ev0_pending, State.drawKeys_pending]
  have hu : u.pending = t.pending := by
    unfold u
    rw [State.reseal_pending, State.evictKeys_pending, State.ks'_pending]
  rw [State.ev0_pending, State.extend_pending, hu, ht]
@[simp] theorem State.keyRestore_pending (s : State) (q : VReq) : (s.keyRestore q).pending = s.pending := by
  simp only [State.keyRestore]
  (repeat' split) <;> simp
@[simp] theorem execKeyRestore_queueKept (q : VReq) (s : State) : QueueKept (execKeyRestore q s) s.pending := by simp [execKeyRestore]
@[simp] theorem State.keyRotate_pending (s : State) (q : VReq) : (s.keyRotate q).pending = s.pending := by
  simp only [State.keyRotate]
  split <;> simp
@[simp] theorem execKeyRotate_queueKept (q : VReq) (s : State) : QueueKept (execKeyRotate q s) s.pending := by simp [execKeyRotate]
@[simp] theorem State.keyErase_pending (s : State) (q : VReq) : (s.keyErase q).pending = s.pending := by
  simp only [State.keyErase]
  split <;> simp
@[simp] theorem execKeyErase_queueKept (q : VReq) (s : State) : QueueKept (execKeyErase q s) s.pending := by simp [execKeyErase]
@[simp] theorem execKeyStatus_queueKept (q : VReq) (s : State) : QueueKept (execKeyStatus q s) s.pending := by simp [execKeyStatus]
@[simp] theorem State.attestReply_pending (s : State) (q : VReq) : (s.attestReply q).pending = s.pending := by simp [State.attestReply]
@[simp] theorem execAttest_queueKept (q : VReq) (s : State) : QueueKept (execAttest q s) s.pending := by simp [execAttest]
@[simp] theorem execLedgerRead_queueKept (q : VReq) (s : State) : QueueKept (execLedgerRead q s) s.pending := by simp [execLedgerRead]

/-! ## The operations of Machine/PairCtl -/

@[simp] theorem execPairStatus_queueKept (q : VReq) (s : State) : QueueKept (execPairStatus q s) s.pending := by simp [execPairStatus]
@[simp] theorem State.rebalance_pending (s : State) (q : VReq) : (s.rebalance q).pending = s.pending := by simp [State.rebalance]
@[simp] theorem execRebalance_queueKept (q : VReq) (s : State) : QueueKept (execRebalance q s) s.pending := by simp [execRebalance]
@[simp] theorem State.pathDrill_pending (s : State) (q : VReq) : (s.pathDrill q).pending = s.pending := by
  simp only [State.pathDrill]
  (repeat' split) <;> simp
@[simp] theorem execPathDrill_queueKept (q : VReq) (s : State) : QueueKept (execPathDrill q s) s.pending := by simp [execPathDrill]
@[simp] theorem execPathDrillAckTimeout_queueKept (s : State) : QueueKept (execPathDrillAckTimeout s) s.pending := by
  unfold execPathDrillAckTimeout
  (repeat' split) <;> simp
@[simp] theorem State.mirrorDiscard_pending (s : State) (q : VReq) : (s.mirrorDiscard q).pending = s.pending := by
  simp [State.mirrorDiscard]
@[simp] theorem execMirrorDiscard_queueKept (q : VReq) (s : State) : QueueKept (execMirrorDiscard q s) s.pending := by
  simp [execMirrorDiscard]
@[simp] theorem execPairElect_queueKept (q : VReq) (s : State) : QueueKept (execPairElect q s) s.pending := by simp [execPairElect]

/-! ## The operations of Machine/Repl -/

@[simp] theorem State.notBound_pending (s : State) (src : Nat) : (s.notBound src).pending = s.pending := rfl
@[simp] theorem execSetup_queueKept (src group source mode : Nat) (domains : List Nat) (salts : List Bytes) (s : State) :
    QueueKept (execSetup src group source mode domains salts s) s.pending := by simp [execSetup]
@[simp] theorem execSetupReply_queueKept (group : Nat) (accepted : Bool) (cause : Nat) (s : State) :
    QueueKept (execSetupReply group accepted cause s) s.pending := by
  unfold execSetupReply
  split <;> simp
@[simp] theorem execPositionQuery_queueKept (src group : Nat) (s : State) : QueueKept (execPositionQuery src group s) s.pending := by
  unfold execPositionQuery
  (repeat' split) <;> simp
@[simp] theorem execPosition_queueKept (group seq ordinal : Nat) (s : State) : QueueKept (execPosition group seq ordinal s) s.pending := by
  unfold execPosition
  (repeat' split) <;> simp
@[simp] theorem execPositionQueryTimeout_queueKept (group : Nat) (s : State) : QueueKept (execPositionQueryTimeout group s) s.pending := by
  unfold execPositionQueryTimeout
  split <;> simp
@[simp] theorem execOffer_queueKept (src group batch : Nat) (fps : List (Bytes × Nat × Nat)) (s : State) :
    QueueKept (execOffer src group batch fps s) s.pending := by
  unfold execOffer
  (repeat' split) <;> simp
@[simp] theorem execNeed_queueKept (group batch : Nat) (bits : List Bool) (s : State) :
    QueueKept (execNeed group batch bits s) s.pending := by
  unfold execNeed
  (repeat' split) <;> simp
@[simp] theorem State.chunkFails_pending (s : State) (src : Nat) (r : Replica) : (s.chunkFails src r).pending = s.pending := by
  unfold State.chunkFails
  split <;> simp
@[simp] theorem execChunk_queueKept (src group domain chunk gen clen : Nat) (body : Bytes) (s : State) :
    QueueKept (execChunk src group domain chunk gen clen body s) s.pending := by
  unfold execChunk
  (repeat' split) <;> simp
@[simp] theorem execBatch_queueKept (src group first last : Nat) (base final : Bool) (es : List ShipEntry) (s : State) :
    QueueKept (execBatch src group first last base final es s) s.pending := by
  unfold execBatch
  (repeat' split) <;> simp
@[simp] theorem State.answerSnaps_pending (s : State) (g : RGroup) (seq : Nat) : (s.answerSnaps g seq).pending = s.pending := by
  simp [State.answerSnaps]
@[simp] theorem State.snapShipped_pending (s : State) (g : RGroup) : (s.snapShipped g).pending = s.pending := by simp [State.snapShipped]
@[simp] theorem execApplied_queueKept (group seq : Nat) (s : State) : QueueKept (execApplied group seq s) s.pending := by
  unfold execApplied
  (repeat' split) <;> simp
@[simp] theorem execBatchClose_queueKept (group : Nat) (s : State) : QueueKept (execBatchClose group s) s.pending := by
  simp [execBatchClose]
@[simp] theorem execGroupLapse_queueKept (group : Nat) (s : State) : QueueKept (execGroupLapse group s) s.pending := by
  unfold execGroupLapse
  split <;> simp
@[simp] theorem execRepairAsk_queueKept (src domain : Nat) (fp : Bytes) (len : Nat) (s : State) :
    QueueKept (execRepairAsk src domain fp len s) s.pending := by simp [execRepairAsk]
@[simp] theorem State.repairFails_pending (s : State) (r : Repair) : (s.repairFails r).pending = s.pending := by simp [State.repairFails]
@[simp] theorem State.repairNext_pending (s : State) (r : Repair) : (s.repairNext r).pending = s.pending := by
  simp only [State.repairNext]
  (repeat' split) <;> simp
@[simp] theorem execRepairData_queueKept (domain chunk gen clen : Nat) (body : Bytes) (s : State) :
    QueueKept (execRepairData domain chunk gen clen body s) s.pending := by
  simp only [execRepairData]
  (repeat' split) <;> simp
@[simp] theorem execRepairNone_queueKept (domain : Nat) (fp : Bytes) (s : State) : QueueKept (execRepairNone domain fp s) s.pending := by
  unfold execRepairNone
  split <;> simp
@[simp] theorem execRepairTimeout_queueKept (domain chunk : Nat) (s : State) : QueueKept (execRepairTimeout domain chunk s) s.pending := by
  unfold execRepairTimeout
  split <;> simp

/-! ## The operations of Machine/ReplCtl -/

@[simp] theorem State.rgCreate_pending (s : State) (q : VReq) : (s.rgCreate q).pending = s.pending := by simp [State.rgCreate]
@[simp] theorem execRgCreate_queueKept (q : VReq) (s : State) : QueueKept (execRgCreate q s) s.pending := by simp [execRgCreate]
@[simp] theorem State.rgDelete_pending (s : State) (q : VReq) : (s.rgDelete q).pending = s.pending := by
  simp only [State.rgDelete]
  split <;> simp
@[simp] theorem execRgDelete_queueKept (q : VReq) (s : State) : QueueKept (execRgDelete q s) s.pending := by simp [execRgDelete]
@[simp] theorem execRgStatus_queueKept (q : VReq) (s : State) : QueueKept (execRgStatus q s) s.pending := by simp [execRgStatus]
@[simp] theorem State.rgPause_pending (s : State) (q : VReq) (op : Nat) (on : Bool) : (s.rgPause q op on).pending = s.pending := by
  unfold State.rgPause
  split <;> simp
@[simp] theorem execRgPause_queueKept (q : VReq) (s : State) : QueueKept (execRgPause q s) s.pending := by simp [execRgPause]
@[simp] theorem execRgResume_queueKept (q : VReq) (s : State) : QueueKept (execRgResume q s) s.pending := by simp [execRgResume]
@[simp] theorem State.snapAsk_pending (s : State) (q : VReq) : (s.snapAsk q).pending = s.pending := by
  simp only [State.snapAsk]
  split <;> simp
@[simp] theorem execSnapShip_queueKept (q : VReq) (s : State) : QueueKept (execSnapShip q s) s.pending := by simp [execSnapShip]

/-! ## The operations of Machine/Update -/

@[simp] theorem State.updEvent_pending (s : State) (stage base target : Nat) : (s.updEvent stage base target).pending = s.pending := by
  simp [State.updEvent]
@[simp] theorem State.updBegin_pending (s : State) (q : VReq) : (s.updBegin q).pending = s.pending := by
  unfold State.updBegin
  split <;> simp
@[simp] theorem execUpdBegin_queueKept (q : VReq) (s : State) : QueueKept (execUpdBegin q s) s.pending := by simp [execUpdBegin]
@[simp] theorem State.writeResult_pending (s : State) (u : Update) (a : Assembly) : (s.writeResult u a).pending = s.pending := by
  simp [State.writeResult]
@[simp] theorem State.recordBlock_pending (s : State) (w : Waiter) (u : Update) (data : Bytes) :
    (s.recordBlock w u data).pending = s.pending := by simp [State.recordBlock]
@[simp] theorem State.judgeBlock_pending (s : State) (w : Waiter) (off crc : Nat) (data : Bytes) :
    (s.judgeBlock w off crc data).pending = s.pending := by
  unfold State.judgeBlock
  split <;> simp
@[simp] theorem execUpdBlock_queueKept (q : VReq) (s : State) : QueueKept (execUpdBlock q s) s.pending := by simp [execUpdBlock]
@[simp] theorem execUpdateStagingRoom_queueKept (bytes : Nat) (s : State) : QueueKept (execUpdateStagingRoom bytes s) s.pending := by
  unfold execUpdateStagingRoom
  split <;> simp
@[simp] theorem State.updVerify_pending (s : State) (q : VReq) : (s.updVerify q).pending = s.pending := by
  unfold State.updVerify
  split <;> simp
@[simp] theorem execUpdVerify_queueKept (q : VReq) (s : State) : QueueKept (execUpdVerify q s) s.pending := by simp [execUpdVerify]
@[simp] theorem State.updActivate_pending (s : State) (q : VReq) : (s.updActivate q).pending = s.pending := by
  unfold State.updActivate
  (repeat' split) <;> simp
@[simp] theorem execUpdActivate_queueKept (q : VReq) (s : State) : QueueKept (execUpdActivate q s) s.pending := by simp [execUpdActivate]
@[simp] theorem State.updConfirm_pending (s : State) (q : VReq) : (s.updConfirm q).pending = s.pending := by
  unfold State.updConfirm
  split <;> simp
@[simp] theorem execUpdConfirm_queueKept (q : VReq) (s : State) : QueueKept (execUpdConfirm q s) s.pending := by simp [execUpdConfirm]
@[simp] theorem State.updAbort_pending (s : State) (q : VReq) : (s.updAbort q).pending = s.pending := by simp [State.updAbort]
@[simp] theorem execUpdAbort_queueKept (q : VReq) (s : State) : QueueKept (execUpdAbort q s) s.pending := by simp [execUpdAbort]
@[simp] theorem execUpdLock_queueKept (q : VReq) (s : State) : QueueKept (execUpdLock q s) s.pending := by simp [execUpdLock]
@[simp] theorem execTrialWindowEnd_queueKept (s : State) : QueueKept (execTrialWindowEnd s) s.pending := by
  unfold execTrialWindowEnd
  split <;> simp
@[simp] theorem State.restart_pending (s : State) (q : VReq) : (s.restart q).pending = s.pending := by simp [State.restart]
@[simp] theorem execRestart_queueKept (q : VReq) (s : State) : QueueKept (execRestart q s) s.pending := by simp [execRestart]

/-! ## The operations of Machine/Virkan -/

@[simp] theorem State.openSession_pending (s : State) (q : VReq) : (s.openSession q).pending = s.pending := by simp [State.openSession]
@[simp] theorem execSessionOpen_queueKept (q : VReq) (s : State) : QueueKept (execSessionOpen q s) s.pending := by simp [execSessionOpen]
@[simp] theorem State.authSession_pending (s : State) (q : VReq) : (s.authSession q).pending = s.pending := by
  unfold State.authSession
  split <;> simp
@[simp] theorem execSessionAuth_queueKept (q : VReq) (s : State) : QueueKept (execSessionAuth q s) s.pending := by simp [execSessionAuth]
@[simp] theorem execSessionClose_queueKept (q : VReq) (s : State) : QueueKept (execSessionClose q s) s.pending := by
  simp [execSessionClose]
@[simp] theorem execSessionList_queueKept (q : VReq) (s : State) : QueueKept (execSessionList q s) s.pending := by simp [execSessionList]
@[simp] theorem execSessionIdleExpiry_queueKept (handle : Nat) (s : State) : QueueKept (execSessionIdleExpiry handle s) s.pending := by
  unfold execSessionIdleExpiry
  split <;> simp

/-! ## The operations of Machine/VirkanWire -/

/-- Each meaning of the catalogue's opcodes leaves the queue alone. -/
theorem ops_queueKept : ∀ e ∈ opsA ++ opsB ++ opsC ++ opsD, ∀ (q : VReq) (s : State), QueueKept (e.2 q s) s.pending := by
  simp [opsA, opsB, opsC, opsD]
@[simp] theorem State.runOp_pending (s : State) (op : Nat) (q : VReq) : (s.runOp op q).pending = s.pending := by
  unfold State.runOp
  split
  · next f hf =>
    have hkept := ops_queueKept _ (List.mem_of_find?_eq_some hf) q s
    split
    · exact hkept _ ‹_›
    · rfl
  · simp
@[simp] theorem State.wire_pending (s : State) (via : Transport) (bs : Bytes) : (s.wire via bs).pending = s.pending := by
  unfold State.wire
  (repeat' split) <;> simp
@[simp] theorem execAdminC0hSubmit_queueKept (e : Sqe) (s : State) : QueueKept (execAdminC0hSubmit e s) s.pending := by
  simp [execAdminC0hSubmit]
@[simp] theorem execAdminC1hFetch_queueKept (e : Sqe) (s : State) :
    QueueKept (execAdminC1hFetch e s) s.pending := by
  simp only [execAdminC1hFetch, queueKept_ok]
  refine State.nvme_pending _ _ _ fun _ _ => ?_
  (repeat' split) <;> simp
@[simp] theorem execMgVirkanPacket_queueKept (conn : Nat) (bytes : Bytes) (s : State) :
    QueueKept (execMgVirkanPacket conn bytes s) s.pending := by simp [execMgVirkanPacket]
@[simp] theorem execAttestationServiceRequest_queueKept (conn : Nat) (bytes : Bytes) (s : State) :
    QueueKept (execAttestationServiceRequest conn bytes s) s.pending := by simp [execAttestationServiceRequest]
@[simp] theorem execVirkanReplyExpiry_queueKept (via : Transport) (session tag : Nat) (s : State) :
    QueueKept (execVirkanReplyExpiry via session tag s) s.pending := by
  unfold execVirkanReplyExpiry
  split <;> simp
@[simp] theorem execConfirmCodeExpiry_queueKept (handle : Nat) (s : State) : QueueKept (execConfirmCodeExpiry handle s) s.pending := by
  simp [execConfirmCodeExpiry]

/-! ## The operations of Machine/Sideband -/

@[simp] theorem State.sbOp_queueKept (s : State) (off : Nat) (f : State → State) (hf : KeepsQueue f) :
    QueueKept (s.sbOp off f) s.pending := by simp [State.sbOp, hf.pending]
@[simp] theorem State.sbDrain_pending (s : State) : s.sbDrain.pending = s.pending := by simp [State.sbDrain]
@[simp] theorem execSbReqData_queueKept (word : BitVec 32) (s : State) : QueueKept (execSbReqData word s) s.pending := by
  simp [execSbReqData]
@[simp] theorem State.reqRewind_pending (s : State) : s.reqRewind.pending = s.pending := rfl
@[simp] theorem execSbReqCap_queueKept (word : BitVec 32) (s : State) : QueueKept (execSbReqCap word s) s.pending := by simp [execSbReqCap]
@[simp] theorem execSbRspData_queueKept (s : State) : QueueKept (execSbRspData s) s.pending := by
  refine State.sbOp_queueKept _ _ _ fun _ => ?_
  dsimp only
  (repeat' split) <;> simp
@[simp] theorem execSbRtcLo_queueKept (s : State) : QueueKept (execSbRtcLo s) s.pending := by simp [execSbRtcLo]
@[simp] theorem execSbSentinelReset_queueKept (word : BitVec 32) (s : State) : QueueKept (execSbSentinelReset word s) s.pending := by
  simp [execSbSentinelReset]
@[simp] theorem execSentinelResetArmExpiry_queueKept (s : State) : QueueKept (execSentinelResetArmExpiry s) s.pending := by
  simp [execSentinelResetArmExpiry]
@[simp] theorem execSbWake_queueKept (word : BitVec 32) (s : State) : QueueKept (execSbWake word s) s.pending := by simp [execSbWake]
@[simp] theorem execSbPadRelease_queueKept (word : BitVec 32) (s : State) : QueueKept (execSbPadRelease word s) s.pending := by
  simp [execSbPadRelease]
@[simp] theorem execSbIntStatus_queueKept (word : BitVec 32) (s : State) : QueueKept (execSbIntStatus word s) s.pending := by
  simp [execSbIntStatus]
@[simp] theorem execSbMbxError_queueKept (word : BitVec 32) (s : State) : QueueKept (execSbMbxError word s) s.pending := by
  simp [execSbMbxError]
@[simp] theorem execSbRegisterWrite_queueKept (off : Nat) (word : BitVec 32) (s : State) :
    QueueKept (execSbRegisterWrite off word s) s.pending := by simp [execSbRegisterWrite]

/-! ## The operations of Machine/Clock -/

@[simp] theorem State.adjustTick_pending (s : State) : s.adjustTick.pending = s.pending := rfl
@[simp] theorem execPtpMessage_queueKept (kind src : Nat) (offset : Int) (s : State) :
    QueueKept (execPtpMessage kind src offset s) s.pending := by simp [execPtpMessage]
@[simp] theorem execAlignmentTimeout_queueKept (s : State) : QueueKept (execAlignmentTimeout s) s.pending := by simp [execAlignmentTimeout]
@[simp] theorem execRtcDiscipline_queueKept (s : State) : QueueKept (execRtcDiscipline s) s.pending := by simp [execRtcDiscipline]
@[simp] theorem State.quietHosts_pending (s : State) : s.quietHosts.pending = s.pending := by simp [State.quietHosts]
@[simp] theorem State.votesDown_pending (s : State) : s.votesDown.pending = s.pending := by simp [State.votesDown]
@[simp] theorem State.fallAsleep_pending (s : State) (m : Mode) : (s.fallAsleep m).pending = s.pending := by simp [State.fallAsleep]
@[simp] theorem execHoldEntry_queueKept (s : State) : QueueKept (execHoldEntry s) s.pending := by simp [execHoldEntry]
@[simp] theorem execWatchEntry_queueKept (s : State) : QueueKept (execWatchEntry s) s.pending := by simp [execWatchEntry]
@[simp] theorem State.wakeUp_pending (s : State) (left : Mode) : (s.wakeUp left).pending = s.pending := by simp [State.wakeUp]
@[simp] theorem execHoldWake_queueKept (s : State) : QueueKept (execHoldWake s) s.pending := by
  unfold execHoldWake
  split <;> simp
@[simp] theorem State.imprintFails_pending (s : State) : s.imprintFails.pending = s.pending := by simp [State.imprintFails]
@[simp] theorem execWatchWake_queueKept (imprintOk : Bool) (s : State) : QueueKept (execWatchWake imprintOk s) s.pending := by
  unfold execWatchWake
  split <;> simp
@[simp] theorem execWatchSample_queueKept (tj : Int) (holdup : Nat) (s : State) : QueueKept (execWatchSample tj holdup s) s.pending := by
  simp [execWatchSample]
@[simp] theorem execWakeN_queueKept (us : Nat) (s : State) : QueueKept (execWakeN us s) s.pending := by simp [execWakeN]
@[simp] theorem execWatchdogKick_queueKept (s : State) : QueueKept (execWatchdogKick s) s.pending := by simp [execWatchdogKick]
@[simp] theorem execWatchdogExpiry_queueKept (s : State) : QueueKept (execWatchdogExpiry s) s.pending := by
  unfold execWatchdogExpiry
  split <;> simp
@[simp] theorem execChipResetN_queueKept (ns : Nat) (s : State) : QueueKept (execChipResetN ns s) s.pending := by simp [execChipResetN]
@[simp] theorem execPowerOnResetRelease_queueKept (s : State) : QueueKept (execPowerOnResetRelease s) s.pending := by
  simp [execPowerOnResetRelease]

/-! ## The operations of Machine/Forage -/

@[simp] theorem execForageWrite_queueKept (p : FPkt) (carried : Option ShadowRec) (journal : Option JournalEntry) (s : State) :
    QueueKept (execForageWrite p carried journal s) s.pending := by simp [execForageWrite]
@[simp] theorem execWriteImm_queueKept (p : FPkt) (s : State) : QueueKept (execWriteImm p s) s.pending := by simp [execWriteImm]
@[simp] theorem execReadReq_queueKept (p : FPkt) (s : State) : QueueKept (execReadReq p s) s.pending := by simp [execReadReq]
@[simp] theorem execReadResp_queueKept (p : FPkt) (s : State) : QueueKept (execReadResp p s) s.pending := by simp [execReadResp]
@[simp] theorem State.confirmMirror_pending (s : State) (ctx : Nat) (ms : List SentMsg) : (s.confirmMirror ctx ms).pending = s.pending := by
  simp [State.confirmMirror]
@[simp] theorem State.drillAcked_pending (s : State) (ctx : Nat) (ms : List SentMsg) : (s.drillAcked ctx ms).pending = s.pending := by
  unfold State.drillAcked
  (repeat' split) <;> simp
@[simp] theorem State.forageAck_pending (s : State) (c : Ctx) (id : BitVec 32) (residence : Nat) (map : BitVec 64) (echo : Nat) :
    (s.forageAck c id residence map echo).pending = s.pending := by simp [State.forageAck]
@[simp] theorem execForageAck_queueKept (p : FPkt) (ctx : Nat) (id : BitVec 32) (rx : Nat) (map : BitVec 64) (echo : Nat) (s : State) :
    QueueKept (execForageAck p ctx id rx map echo s) s.pending := by
  simp only [execForageAck]
  (repeat' split) <;> simp
@[simp] theorem State.resendMissing_pending (s : State) (c : Ctx) (m : SentMsg) (off map : Nat) :
    (s.resendMissing c m off map).pending = s.pending := by simp [State.resendMissing]
@[simp] theorem State.forageNak_pending (s : State) (c : Ctx) (p : FPkt) : (s.forageNak c p).pending = s.pending := by
  simp only [State.forageNak]
  (repeat' split) <;> simp
@[simp] theorem execForageNak_queueKept (p : FPkt) (ctx : Nat) (id : BitVec 32) (code off map : Nat) (s : State) :
    QueueKept (execForageNak p ctx id code off map s) s.pending := by
  simp only [execForageNak]
  (repeat' split) <;> simp
@[simp] theorem execSendQueuePost_queueKept (ctx : Nat) (es : List WorkEntry) (s : State) :
    QueueKept (execSendQueuePost ctx es s) s.pending := by
  unfold execSendQueuePost
  split <;> simp
@[simp] theorem State.rebindTimeout_pending (s : State) (c : Ctx) : (s.rebindTimeout c).pending = s.pending := by
  simp [State.rebindTimeout]
@[simp] theorem execRetransmissionTimeout_queueKept (ctx : Nat) (s : State) : QueueKept (execRetransmissionTimeout ctx s) s.pending := by
  unfold execRetransmissionTimeout
  (repeat' split) <;> simp
@[simp] theorem execMessageGiveUp_queueKept (ctx : Nat) (s : State) : QueueKept (execMessageGiveUp ctx s) s.pending := by
  unfold execMessageGiveUp
  split <;> simp
@[simp] theorem execConnectionBreak_queueKept (ctx : Nat) (s : State) : QueueKept (execConnectionBreak ctx s) s.pending := by
  unfold execConnectionBreak
  split <;> simp
@[simp] theorem execRnrBackoffExpiry_queueKept (ctx : Nat) (s : State) : QueueKept (execRnrBackoffExpiry ctx s) s.pending := by
  unfold execRnrBackoffExpiry
  split <;> simp
@[simp] theorem execRecentIdAging_queueKept (s : State) : QueueKept (execRecentIdAging s) s.pending := by simp [execRecentIdAging]
@[simp] theorem execContextFetchDone_queueKept (ctx : Nat) (s : State) : QueueKept (execContextFetchDone ctx s) s.pending := by
  unfold execContextFetchDone
  split <;> simp
@[simp] theorem execContextFail_queueKept (ctx : Nat) (s : State) : QueueKept (execContextFail ctx s) s.pending := by
  unfold execContextFail
  split <;> simp
@[simp] theorem execPathIdleFree_queueKept (path : Nat) (s : State) : QueueKept (execPathIdleFree path s) s.pending := by
  unfold execPathIdleFree
  split <;> simp

/-! ## The operations of Machine/DramUnit -/

@[simp] theorem State.scrubChannel_pending (s : State) (ch : Nat) : (s.scrubChannel ch).pending = s.pending := by simp [State.scrubChannel]
@[simp] theorem execDramScrub_queueKept (s : State) : QueueKept (execDramScrub s) s.pending := by simp [execDramScrub]
@[simp] theorem State.channelFailed_pending (s : State) (ch : Nat) : (s.channelFailed ch).pending = s.pending := by
  simp [State.channelFailed]
@[simp] theorem State.repairLine_pending (s : State) (ch addr : Nat) : (s.repairLine ch addr).pending = s.pending := by
  unfold State.repairLine
  (repeat' split) <;> simp
@[simp] theorem execDramUncorrectable_queueKept (channel : Nat) (addr : Option Nat) (s : State) :
    QueueKept (execDramUncorrectable channel addr s) s.pending := by
  unfold execDramUncorrectable
  (repeat' split) <;> simp
@[simp] theorem State.dramWrite_pending (s : State) (addr : Nat) (bytes : Bytes) : (s.dramWrite addr bytes).pending = s.pending := rfl
@[simp] theorem State.cacheRead_pending (s : State) (addr : Nat) : (s.cacheRead addr).pending = s.pending := by
  simp only [State.cacheRead]
  repeat' split
  any_goals simp
  all_goals exact pending_of_eq ‹_› (by simp)
@[simp] theorem State.cacheWrite_pending (s : State) (addr : Nat) (bytes : Bytes) : (s.cacheWrite addr bytes).pending = s.pending := by
  simp only [State.cacheWrite]
  repeat' split
  any_goals simp
  all_goals exact pending_of_eq ‹_› (by simp)
@[simp] theorem execMapCacheAccess_queueKept (write : Bool) (addr : Nat) (data : Bytes) (s : State) :
    QueueKept (execMapCacheAccess write addr data s) s.pending := by
  unfold execMapCacheAccess
  (repeat' split) <;> simp
@[simp] theorem execZeroLine_queueKept (addr : Nat) (s : State) : QueueKept (execZeroLine addr s) s.pending := by
  simp only [execZeroLine]
  repeat' split
  any_goals simp
  all_goals exact pending_of_eq ‹_› (by simp)

/-! ## The operations of Machine/Event -/

@[simp] theorem execEventReport_queueKept (r : Report0) (s : State) : QueueKept (execEventReport r s) s.pending := by
  simp [execEventReport]
@[simp] theorem State.laneFrees_pending (s : State) : s.laneFrees.pending = s.pending := by
  unfold State.laneFrees
  split <;> simp
@[simp] theorem execEventWrite_queueKept (s : State) : QueueKept (execEventWrite s) s.pending := by
  unfold execEventWrite
  split <;> simp
@[simp] theorem execBucketWindowClose_queueKept (code : Nat) (s : State) : QueueKept (execBucketWindowClose code s) s.pending := by
  unfold execBucketWindowClose
  (repeat' split) <;> simp
@[simp] theorem execBucketRefill_queueKept (code : Nat) (s : State) : QueueKept (execBucketRefill code s) s.pending := by
  unfold execBucketRefill
  split <;> simp
@[simp] theorem State.dropSummary_pending (s : State) : s.dropSummary.pending = s.pending := by simp [State.dropSummary]
@[simp] theorem State.refusalSummary_pending (s : State) : s.refusalSummary.pending = s.pending := by simp [State.refusalSummary]
@[simp] theorem execDropSummaryTimer_queueKept (s : State) : QueueKept (execDropSummaryTimer s) s.pending := by simp [execDropSummaryTimer]
@[simp] theorem execEventNoticeSend_queueKept (handle : Nat) (s : State) : QueueKept (execEventNoticeSend handle s) s.pending := by
  unfold execEventNoticeSend
  split <;> simp

/-! ## The operations of Machine/I3c -/

@[simp] theorem State.ccc_queueKept (s : State) (f : State → State) (hf : KeepsQueue f) : QueueKept (s.ccc f) s.pending := by
  simp [State.ccc, hf.pending]
@[simp] theorem State.cccGet_queueKept (s : State) (bytes : Bytes) : QueueKept (s.cccGet bytes) s.pending := by simp [State.cccGet]
@[simp] theorem execEntdaa_queueKept (addr : Nat) (s : State) : QueueKept (execEntdaa addr s) s.pending := by simp [execEntdaa]
@[simp] theorem execSetdasa_queueKept (addr : Nat) (s : State) : QueueKept (execSetdasa addr s) s.pending := by simp [execSetdasa]
@[simp] theorem execRstdaa_queueKept (s : State) : QueueKept (execRstdaa s) s.pending := by simp [execRstdaa]
@[simp] theorem execSetnewda_queueKept (addr : Nat) (s : State) : QueueKept (execSetnewda addr s) s.pending := by simp [execSetnewda]
@[simp] theorem execEnec_queueKept (bits : BitVec 8) (s : State) : QueueKept (execEnec bits s) s.pending := by simp [execEnec]
@[simp] theorem execDisec_queueKept (bits : BitVec 8) (s : State) : QueueKept (execDisec bits s) s.pending := by simp [execDisec]
@[simp] theorem execGetpid_queueKept (s : State) : QueueKept (execGetpid s) s.pending := by simp [execGetpid]
@[simp] theorem execGetbcr_queueKept (s : State) : QueueKept (execGetbcr s) s.pending := by simp [execGetbcr]
@[simp] theorem execGetdcr_queueKept (s : State) : QueueKept (execGetdcr s) s.pending := by simp [execGetdcr]
@[simp] theorem execGetstatus_queueKept (s : State) : QueueKept (execGetstatus s) s.pending := by simp [execGetstatus]
@[simp] theorem execSetmwl_queueKept (len : BitVec 16) (s : State) : QueueKept (execSetmwl len s) s.pending := by simp [execSetmwl]
@[simp] theorem execSetmrl_queueKept (len : BitVec 16) (s : State) : QueueKept (execSetmrl len s) s.pending := by simp [execSetmrl]
@[simp] theorem execGetmwl_queueKept (s : State) : QueueKept (execGetmwl s) s.pending := by simp [execGetmwl]
@[simp] theorem execGetmrl_queueKept (s : State) : QueueKept (execGetmrl s) s.pending := by simp [execGetmrl]

/-! ## The operations of Machine/LinkEnd -/

@[simp] theorem State.dieStateTells_pending (s : State) (link die : Nat) (w : BitVec 32) :
    (s.dieStateTells link die w).pending = s.pending := by
  unfold State.dieStateTells
  (repeat' split) <;> simp
@[simp] theorem State.fenceRegsTell_pending (s : State) (link first : Nat) (vals : List (BitVec 32)) (tasks : List DieTask) :
    (s.fenceRegsTell link first vals tasks).pending = s.pending := by simp [State.fenceRegsTell]
@[simp] theorem State.dieRegsTell_pending (s : State) (link first : Nat) (vals : List (BitVec 32)) (tasks : List DieTask) (d : Nat) :
    (s.dieRegsTell link first vals tasks d).pending = s.pending := by
  simp only [State.dieRegsTell]
  (repeat' split) <;> simp
@[simp] theorem State.askDescs_pending (s : State) (link first : Nat) (vals : List (BitVec 32)) :
    (s.askDescs link first vals).pending = s.pending := by simp [State.askDescs]
@[simp] theorem State.regsEnd_pending (s : State) (link : Nat) : (s.regsEnd link).pending = s.pending := by
  unfold State.regsEnd
  split <;> simp
@[simp] theorem State.regsArrive_pending (s : State) (link first : Nat) (vals : List (BitVec 32)) :
    (s.regsArrive link first vals).pending = s.pending := by
  unfold State.regsArrive
  split <;> simp
@[simp] theorem execRegData_queueKept (link : Nat) (f : LFrame) (vals : List (BitVec 32)) (s : State) :
    QueueKept (execRegData link f vals s) s.pending := by simp [execRegData]
@[simp] theorem State.bridgeUnknown_pending (s : State) (link : Nat) (port : Side) (f : LFrame) :
    (s.bridgeUnknown link port f).pending = s.pending := by simp [State.bridgeUnknown]
@[simp] theorem execDataFrame_queueKept (link : Nat) (atHead : Bool) (port : Side) (f : LFrame) (s : State) :
    QueueKept (execDataFrame link atHead port f s) s.pending := by simp [execDataFrame]
@[simp] theorem State.pageRead_pending (s : State) (link : Nat) (f : LFrame) : (s.pageRead link f).pending = s.pending := by
  unfold State.pageRead
  split <;> simp
@[simp] theorem execPageEnd_queueKept (link : Nat) (atHead : Bool) (port : Side) (f : LFrame) (s : State) :
    QueueKept (execPageEnd link atHead port f s) s.pending := by simp [execPageEnd]
@[simp] theorem execDoneFrame_queueKept (link : Nat) (f : LFrame) (s : State) : QueueKept (execDoneFrame link f s) s.pending := by
  simp only [execDoneFrame]
  (repeat' split) <;> simp (disch := (simp only [keepsQueue_iff]; intros; (repeat' split) <;> simp))
@[simp] theorem execBridgeEvent_queueKept (link : Nat) (f : LFrame) (s : State) : QueueKept (execBridgeEvent link f s) s.pending := by
  simp only [execBridgeEvent]
  (repeat' split) <;> simp
@[simp] theorem State.retrained_pending (s : State) (link : Nat) (next : BitVec 12) : (s.retrained link next).pending = s.pending := by
  unfold State.retrained
  split <;> simp
@[simp] theorem State.bridgeRetrained_pending (s : State) (link : Nat) (port : Side) (next : BitVec 12) :
    (s.bridgeRetrained link port next).pending = s.pending := by simp [State.bridgeRetrained]
@[simp] theorem State.helloAtHead_pending (s : State) (link : Nat) (f : LFrame) : (s.helloAtHead link f).pending = s.pending := by
  unfold State.helloAtHead
  split <;> simp
@[simp] theorem State.helloAtBridge_pending (s : State) (link : Nat) (port : Side) (f : LFrame) :
    (s.helloAtBridge link port f).pending = s.pending := by
  unfold State.helloAtBridge
  split <;> simp
@[simp] theorem execHello_queueKept (link : Nat) (atHead : Bool) (port : Side) (f : LFrame) (s : State) :
    QueueKept (execHello link atHead port f s) s.pending := by simp [execHello]
@[simp] theorem execLinkAck_queueKept (link : Nat) (atHead : Bool) (port : Side) (f : LFrame) (s : State) :
    QueueKept (execLinkAck link atHead port f s) s.pending := by simp [execLinkAck]
@[simp] theorem State.bridgeAgain_pending (s : State) (link : Nat) (port : Side) (from_ : BitVec 12) :
    (s.bridgeAgain link port from_).pending = s.pending := by
  unfold State.bridgeAgain
  split <;> simp
@[simp] theorem State.headAgain_pending (s : State) (link : Nat) (from_ : BitVec 12) : (s.headAgain link from_).pending = s.pending := by
  simp only [State.headAgain]
  split <;> simp
@[simp] theorem execLinkNak_queueKept (link : Nat) (atHead : Bool) (port : Side) (f : LFrame) (s : State) :
    QueueKept (execLinkNak link atHead port f s) s.pending := by simp [execLinkNak]
@[simp] theorem State.bridgeTimer_pending (s : State) (link : Nat) : (s.bridgeTimer link).pending = s.pending := by
  unfold State.bridgeTimer
  (repeat' split) <;> simp
@[simp] theorem execLinkResendTimer_queueKept (link : Nat) (s : State) : QueueKept (execLinkResendTimer link s) s.pending := by
  unfold execLinkResendTimer
  split <;> simp
@[simp] theorem execBlockLockLost_queueKept (link : Nat) (s : State) : QueueKept (execBlockLockLost link s) s.pending := by
  simp [execBlockLockLost]
@[simp] theorem execRetrain_queueKept (link : Nat) (peerNext : BitVec 12) (s : State) :
    QueueKept (execRetrain link peerNext s) s.pending := by
  simp only [execRetrain]
  split <;> simp
@[simp] theorem execRetrainTimeout_queueKept (link : Nat) (s : State) : QueueKept (execRetrainTimeout link s) s.pending := by
  simp [execRetrainTimeout]
@[simp] theorem execCombLinkBringUp_queueKept (link : Nat) (good : Bool) (s : State) :
    QueueKept (execCombLinkBringUp link good s) s.pending := by
  simp only [execCombLinkBringUp]
  split <;> simp
@[simp] theorem execLinkRetryTimer_queueKept (link : Nat) (s : State) : QueueKept (execLinkRetryTimer link s) s.pending := by
  unfold execLinkRetryTimer
  split <;> simp
@[simp] theorem State.failOutcome_pending (s : State) (link : Nat) (k : DieTask) : (s.failOutcome link k).pending = s.pending := by
  unfold State.failOutcome
  split <;> simp
@[simp] theorem execLinkDownTimeout_queueKept (link : Nat) (s : State) : QueueKept (execLinkDownTimeout link s) s.pending := by
  unfold execLinkDownTimeout
  split <;> simp
@[simp] theorem State.taskFailed_pending (s : State) (link : Nat) (k : DieTask) : (s.taskFailed link k).pending = s.pending := by
  simp [State.taskFailed]
@[simp] theorem execTaskDeadline_queueKept (link tag : Nat) (s : State) : QueueKept (execTaskDeadline link tag s) s.pending := by
  unfold execTaskDeadline
  (repeat' split) <;> simp
@[simp] theorem execBridgePowerUp_queueKept (link : Nat) (s : State) : QueueKept (execBridgePowerUp link s) s.pending := by
  simp [execBridgePowerUp]
@[simp] theorem execBridgeHealthChange_queueKept (link code die detail : Nat) (s : State) :
    QueueKept (execBridgeHealthChange link code die detail s) s.pending := by simp [execBridgeHealthChange]

/-! ## The operations of Machine/Stripes -/

@[simp] theorem State.fillLanding_pending (s : State) (ord lane n : Nat) : (s.fillLanding ord lane n).pending = s.pending := by
  induction n generalizing s with
  | zero => rfl
  | succ n ih =>
    unfold State.fillLanding
    (repeat' split) <;> simp [ih]
@[simp] theorem State.openLanding_pending (s : State) (hive lane : Nat) : (s.openLanding hive lane).pending = s.pending := by
  simp only [State.openLanding]
  repeat' split
  any_goals simp
  all_goals exact pending_of_eq ‹_› (by simp)
@[simp] theorem execStripeOpen_queueKept (hive lane : Nat) (purpose : Purpose) (s : State) :
    QueueKept (execStripeOpen hive lane purpose s) s.pending := by
  unfold execStripeOpen
  split <;> simp
@[simp] theorem execStripeCloseTimer_queueKept (ord : Nat) (s : State) : QueueKept (execStripeCloseTimer ord s) s.pending := by
  unfold execStripeCloseTimer
  split <;> simp
@[simp] theorem execStripeProgramDone_queueKept (ord : Nat) (s : State) : QueueKept (execStripeProgramDone ord s) s.pending := by
  simp [execStripeProgramDone]
@[simp] theorem State.countProgFail_pending (s : State) (link ord m : Nat) : (s.countProgFail link ord m).pending = s.pending := by
  simp [State.countProgFail]
@[simp] theorem State.freshUnit_pending (s : State) (e : Member) (r : Region) (p : Purpose) :
    (s.freshUnit e r p).1.pending = s.pending := by
  simp only [State.freshUnit]
  repeat' split
  any_goals simp
  all_goals exact pending_of_eq ‹_› (by simp)
@[simp] theorem execMemberProgramFail_queueKept (ord member : Nat) (s : State) :
    QueueKept (execMemberProgramFail ord member s) s.pending := by
  simp only [execMemberProgramFail]
  repeat' split
  any_goals simp
  all_goals exact pending_of_eq ‹_› (by simp)
@[simp] theorem execCombMarkFailed_queueKept (link : Nat) (s : State) : QueueKept (execCombMarkFailed link s) s.pending := by
  simp [execCombMarkFailed]
@[simp] theorem execRebuildStripe_queueKept (hive : Nat) (s : State) : QueueKept (execRebuildStripe hive s) s.pending := by
  simp only [execRebuildStripe]
  (repeat' split) <;> simp
@[simp] theorem execReplacementComb_queueKept (link : Nat) (s : State) : QueueKept (execReplacementComb link s) s.pending := by
  unfold execReplacementComb
  split <;> simp
@[simp] theorem State.reshape'_pending (s : State) (h : Nat) (f : Reshape → Reshape) : (s.reshape' h f).pending = s.pending := rfl
@[simp] theorem State.reshapeCharge_pending (s : State) (r : Reshape) (load : LinkLoad) (u : State) (hu : u.pending = s.pending) :
    (s.reshapeCharge r load u).pending = s.pending := by
  unfold State.reshapeCharge
  extract_lets fresh all
  split
  · rfl
  · simpa using hu
@[simp] theorem State.copyHoney_pending (s : State) (h : Nat) (p : Purpose) (es : List (EnvEntry × Place × Bytes)) :
    (s.copyHoney h p es).pending = s.pending := by
  simp only [State.copyHoney]
  (repeat' split) <;> simp
@[simp] theorem State.reshapeOne_pending (s0 : State) (r : Reshape) (t : Stripe) : (State.reshapeOne s0 r t).pending = s0.pending := by
  simp [State.reshapeOne]
@[simp] theorem State.reshapeCkpt_pending (s : State) (r : Reshape) : (s.reshapeCkpt r).pending = s.pending := by simp [State.reshapeCkpt]
@[simp] theorem State.reshapeAgain_pending (s : State) (r : Reshape) : (s.reshapeAgain r).pending = s.pending := by
  simp [State.reshapeAgain]
@[simp] theorem State.reshapeClose_pending (s : State) (r : Reshape) : (s.reshapeClose r).pending = s.pending := by
  simp only [State.reshapeClose]
  (repeat' split) <;> simp
@[simp] theorem State.reshapePause_pending (s : State) (h : Nat) : (s.reshapePause h).pending = s.pending := by simp [State.reshapePause]
@[simp] theorem State.reshapeEnd_pending (s : State) (h : Nat) : (s.reshapeEnd h).pending = s.pending := by simp [State.reshapeEnd]
@[simp] theorem execReshapeStripes_queueKept (hive : Nat) (s : State) : QueueKept (execReshapeStripes hive s) s.pending := by
  simp only [execReshapeStripes]
  (repeat' split) <;> simp

/-! ## The operations of Machine/Media -/

@[simp] theorem State.closeRows_pending (s : State) (h : Nat) : (s.closeRows h).pending = s.pending := by
  unfold State.closeRows
  refine foldl_pending_of (fun _ _ => ?_) _ _
  (repeat' split) <;> simp
@[simp] theorem State.checkFold_pending (s : State) : s.checkFold.pending = s.pending := by simp [State.checkFold]
@[simp] theorem State.foldRow_pending (s : State) (h : Nat) : (s.foldRow h).pending = s.pending := by
  simp only [State.foldRow]
  (repeat' split) <;> simp
@[simp] theorem execFoldRow_queueKept (hive : Nat) (s : State) : QueueKept (execFoldRow hive s) s.pending := by simp [execFoldRow]
@[simp] theorem State.endReadBack_pending (s : State) (r : FoldRow) (bad : List (Nat × Nat × Nat)) :
    (s.endReadBack r bad).pending = s.pending := by simp [State.endReadBack]
@[simp] theorem execReadBackDone_queueKept (hive : Nat) (s : State) : QueueKept (execReadBackDone hive s) s.pending := by
  unfold execReadBackDone
  split <;> simp
@[simp] theorem execReadBackFail_queueKept (hive : Nat) (s : State) : QueueKept (execReadBackFail hive s) s.pending := by
  simp only [execReadBackFail]
  split <;> simp
@[simp] theorem State.restStays_pending (s : State) (t : Stripe) : (s.restStays t).pending = s.pending := by simp [State.restStays]
@[simp] theorem State.collect_pending (s : State) (t : Stripe) : (s.collect t).pending = s.pending := by
  simp only [State.collect]
  (repeat' split) <;> simp
@[simp] theorem execGcMove_queueKept (ord : Nat) (s : State) : QueueKept (execGcMove ord s) s.pending := by
  unfold execGcMove
  split <;> simp
@[simp] theorem State.wearUnit_pending (s : State) (die block : Nat) (t : Stripe) (i : Nat) :
    (s.wearUnit die block t i).pending = s.pending := by
  simp only [State.wearUnit]
  repeat' split
  any_goals simp
  all_goals exact pending_of_eq ‹_› (by simp)
@[simp] theorem State.wearSet_pending (s : State) (l : Link) (b : BlockSet) : (s.wearSet l b).pending = s.pending := by
  simp only [State.wearSet]
  (repeat' split) <;> simp (disch := (simp only [keepsQueue_iff]; intros; (repeat' split) <;> simp))
@[simp] theorem execWearMove_queueKept (link : Nat) (s : State) : QueueKept (execWearMove link s) s.pending := by
  simp only [execWearMove]
  (repeat' split) <;> simp
@[simp] theorem execBlockEraseDone_queueKept (link die block : Nat) (s : State) :
    QueueKept (execBlockEraseDone link die block s) s.pending := by
  unfold execBlockEraseDone
  split <;> simp

/-! ## The operations of Machine/Reduction -/

@[simp] theorem execChunkIngest_queueKept (ordinal : Nat) (s : State) : QueueKept (execChunkIngest ordinal s) s.pending := by
  simp [execChunkIngest]
@[simp] theorem execPostProcess_queueKept (chunk : Nat) (s : State) : QueueKept (execPostProcess chunk s) s.pending := by
  simp [execPostProcess]
@[simp] theorem State.filterRebuild_pending (s : State) : s.filterRebuild.pending = s.pending := by
  unfold State.filterRebuild
  split <;> simp
@[simp] theorem execFilterRebuild_queueKept (s : State) : QueueKept (execFilterRebuild s) s.pending := by simp [execFilterRebuild]
@[simp] theorem execMergeCommit_queueKept (nsid k : Nat) (s : State) : QueueKept (execMergeCommit nsid k s) s.pending := by
  simp [execMergeCommit]
@[simp] theorem execEnvelopeRead_queueKept (chunk : Nat) (s : State) : QueueKept (execEnvelopeRead chunk s) s.pending := by
  simp [execEnvelopeRead]

/-! ## The operations of Machine/Shelf -/

@[simp] theorem State.combsOff_pending (s : State) (h : Nat) : (s.combsOff h).pending = s.pending := rfl
@[simp] theorem State.shelf'_pending (s : State) (h : Nat) (f : Shelf → Shelf) : (s.shelf' h f).pending = s.pending := rfl
@[simp] theorem State.shelfAnswer_pending (s : State) (h : Nat) (src : Side) (seq : Nat) (f : Shelf → Shelf) :
    (s.shelfAnswer h src seq f).pending = s.pending := by
  simp only [State.shelfAnswer]
  (repeat' split) <;> simp
@[simp] theorem execHcbStatus_queueKept (hive : Nat) (src : Side) (seq : Nat) (s : State) :
    QueueKept (execHcbStatus hive src seq s) s.pending := by simp [execHcbStatus]
@[simp] theorem execHcbVote_queueKept (hive : Nat) (src : Side) (seq : Nat) (up : Bool) (s : State) :
    QueueKept (execHcbVote hive src seq up s) s.pending := by simp [execHcbVote]
@[simp] theorem execHcbVoteClear_queueKept (hive : Nat) (src : Side) (seq : Nat) (side : Side) (s : State) :
    QueueKept (execHcbVoteClear hive src seq side s) s.pending := by simp [execHcbVoteClear]
@[simp] theorem execShelfInputFailure_queueKept (hive : Nat) (s : State) : QueueKept (execShelfInputFailure hive s) s.pending := by
  simp [execShelfInputFailure]
@[simp] theorem execHoldupReserveSpent_queueKept (hive : Nat) (s : State) : QueueKept (execHoldupReserveSpent hive s) s.pending := by
  unfold execHoldupReserveSpent
  split <;> simp
@[simp] theorem execShelfInputReturn_queueKept (hive : Nat) (s : State) : QueueKept (execShelfInputReturn hive s) s.pending := by
  simp [execShelfInputReturn]
@[simp] theorem execSlotsPowered_queueKept (hive : Nat) (good : BitVec 16) (s : State) :
    QueueKept (execSlotsPowered hive good s) s.pending := by simp [execSlotsPowered]
@[simp] theorem execSlotsPowerRemoved_queueKept (hive : Nat) (s : State) : QueueKept (execSlotsPowerRemoved hive s) s.pending := by
  unfold execSlotsPowerRemoved
  split <;> simp

/-! ## The operations of Machine/Start -/

@[simp] theorem State.bootStart_pending (s : State) (plan : List StepPlan) : (s.bootStart plan).pending = s.pending := by
  simp [State.bootStart]
@[simp] theorem State.recover_pending (s : State) : s.recover.pending = s.pending := by simp [State.recover]
@[simp] theorem State.serveErased_pending (s : State) : s.serveErased.pending = s.pending := by simp [State.serveErased]
@[simp] theorem State.replayAndJoin_pending (s : State) : s.replayAndJoin.pending = s.pending := by
  delta State.replayAndJoin
  extract_lets x u v
  have hx : x.1.pending = s.pending := (bootStep_pending (by simp) ..).trans (by simp)
  clear_value x
  split
  · exact hx
  · split <;> simp [v, u, hx]
@[simp] theorem State.noLock_pending (s : State) : s.noLock.pending = s.pending := by simp [State.noLock]
@[simp] theorem State.start_pending (s : State) (plan : List StepPlan) : (s.start plan).pending = s.pending := by
  delta State.start
  extract_lets x0 x1 x2 x3 x4 x5 x6 x7 x8 x9 x10
  have h4 : x4.1.pending = s.pending :=
    calc x4.1.pending = x3.1.pending := bootStep_pending (by simp) ..
      _ = x2.1.pending := bootStep_pending State.bankStep_pending ..
      _ = x1.1.pending := bootStep_pending State.romStep_pending ..
      _ = x0.1.pending := bootStep_pending (by simp) ..
      _ = s.pending := State.bootStart_pending s plan
  have h5 : x5.1.pending = s.pending := by
    unfold x5
    split
    · split <;> simp [h4]
    · exact (bootStep_pending (by simp) ..).trans h4
  have h10 : x10.1.pending = x5.1.pending :=
    calc x10.1.pending = x9.1.pending := bootStep_pending State.linkStep_pending ..
      _ = x8.1.pending := bootStep_pending State.testStep_pending ..
      _ = x7.1.pending := bootStep_pending State.mainStep_pending ..
      _ = x6.1.pending := bootStep_pending State.waxStep_pending ..
      _ = x5.1.pending := bootStep_pending State.dramStep_pending ..
  clear_value x10 x5
  (repeat' split) <;> simp [h10, h5]
@[simp] theorem execStart_queueKept (plan : List StepPlan) (s : State) : QueueKept (execStart plan s) s.pending := by
  unfold execStart
  split <;> simp
@[simp] theorem execOptionalStepLateRun_queueKept (s : State) : QueueKept (execOptionalStepLateRun s) s.pending := by
  simp [execOptionalStepLateRun]
@[simp] theorem execCrystalLoss_queueKept (s : State) : QueueKept (execCrystalLoss s) s.pending := by simp [execCrystalLoss]
@[simp] theorem execReferenceClockStop_queueKept (s : State) : QueueKept (execReferenceClockStop s) s.pending := by
  simp [execReferenceClockStop]
@[simp] theorem State.powerLoss_pending (s : State) (aon : Bool) : (s.powerLoss aon).pending = s.pending := by simp [State.powerLoss]
@[simp] theorem execSupplyFall_queueKept (rail mv us : Nat) (s : State) : QueueKept (execSupplyFall rail mv us s) s.pending := by
  simp [execSupplyFall]
@[simp] theorem execPropolisAlarm_queueKept (cause : BitVec 4) (s : State) : QueueKept (execPropolisAlarm cause s) s.pending := by
  simp [execPropolisAlarm]
@[simp] theorem execAlarmClear_queueKept (s : State) : QueueKept (execAlarmClear s) s.pending := by
  unfold execAlarmClear
  (repeat' split) <;> simp
@[simp] theorem execColonyKeyLagTimeout_queueKept (s : State) : QueueKept (execColonyKeyLagTimeout s) s.pending := by
  simp [execColonyKeyLagTimeout]
@[simp] theorem execMgNetworkFrame_queueKept (frame : Bytes) (s : State) : QueueKept (execMgNetworkFrame frame s) s.pending := by
  simp only [execMgNetworkFrame]
  (repeat' split) <;> simp

/-! ## The operations of Machine/Wax -/

@[simp] theorem execWaxRecordConfirmed_queueKept (ordinal : Nat) (s : State) : QueueKept (execWaxRecordConfirmed ordinal s) s.pending := by
  simp [execWaxRecordConfirmed]
@[simp] theorem State.writeCheckpoint_pending (s : State) : s.writeCheckpoint.pending = s.pending := by simp [State.writeCheckpoint]
@[simp] theorem execCheckpointDue_queueKept (s : State) : QueueKept (execCheckpointDue s) s.pending := by simp [execCheckpointDue]
@[simp] theorem execFlushMetadata_queueKept (s : State) : QueueKept (execFlushMetadata s) s.pending := by simp [execFlushMetadata]

/-! ## The operations of Machine/Dispatch -/

@[simp] theorem exec_queueKept (i : Instr) (s : State) : QueueKept (exec i s) s.pending := by
  unfold exec
  split <;> simp

/-! ## The operations of Safety -/

@[simp] theorem State.taken_pending (s : State) (op : Nat) (q : VReq) : (s.taken op q).pending = s.pending := by simp [State.taken]

/-! ## The step, and the requests of a session -/

theorem step_of_pending {s : State} {c : Instr} {rest : List Instr} (h : s.pending = c :: rest) :
    step s = exec c { s with pending := rest } := by simp [step, h]

theorem step_pending {s t : State} {c : Instr} {rest : List Instr} (h : s.pending = c :: rest) (ht : step s = .next t) :
    t.pending = rest := exec_queueKept c { s with pending := rest } t (step_of_pending h ▸ ht)

/-- Settles O51, by the frame `exec_queueKept` of the queue (log 7) and the checks of step 6 on a tag that is fresh, where TAG_IN_USE
comes before OUTSTANDING_LIMIT (log 86). -/
theorem sessionRequestsInOrder : Obligations.SessionRequestsInOrder := by
  refine ⟨fun s c rest h => step_of_pending h, fun s t c rest h ht => step_pending h ht, ?_,
    fun s op q st => turnAway_sessions s q op st⟩
  intro s op q x body hop hd hx h0 h1 hab
  have hcheck := checkSession_of_freshTag hop hx ⟨h0, h1, hab⟩
  refine ⟨fun hin => ?_, fun hout hfull => ?_, fun _ _ hok => ?_⟩
  · exact virkan_of_checkSession hd (by rw [hcheck, if_pos hin]) body
  · exact virkan_of_checkSession hd (by rw [hcheck, hout, if_neg Bool.false_ne_true, if_pos hfull]) body
  · obtain ⟨-, y, hy, hyx⟩ := sessionOf_takeIn hok.handlesNodup hop hx
    exact ⟨y, hy, hyx.outstanding⟩

end Sys2Proof.Machine

/-! PROOFS. ZERO_LINE in the map window (R198, R200): what an access finds in the map SRAM cache, and what the zeros make of it. -/

namespace Sys2Proof.Machine

/-! ## The lines of the map SRAM cache -/

/-- A line lies in a set and has a tag. -/
def isLineOf (set tag : Nat) (l : Nat × Nat × Nat × Bytes) : Bool := l.1 == set && l.2.2.1 == tag

/-- A line with new bytes where it lies in the set and has the tag, else as it is. -/
def withBytes (set tag : Nat) (bytes : Bytes) (l : Nat × Nat × Nat × Bytes) : Nat × Nat × Nat × Bytes :=
  if isLineOf set tag l then (l.1, l.2.1, l.2.2.1, bytes) else l

/-- The cache after the line of a set and tag is invalidated (R200). -/
def MapCachePart.drop (m : MapCachePart) (set tag : Nat) : MapCachePart :=
  { m with lines := m.lines.filter fun l => !isLineOf set tag l }

theorem isLineOf_withBytes (set tag : Nat) (bytes : Bytes) (l : Nat × Nat × Nat × Bytes) :
    isLineOf set tag (withBytes set tag bytes l) = isLineOf set tag l := by
  unfold withBytes
  split <;> rfl

section
variable {m : MapCachePart} {set tag : Nat} (bytes : Bytes)

theorem MapCachePart.line_eq_find? : m.line set tag = (m.lines.find? (isLineOf set tag)).map (·.2.2.2) := rfl

theorem MapCachePart.setLine_lines : (m.setLine set tag bytes).lines = m.lines.map (withBytes set tag bytes) := rfl

/-- An invalid way, or the way of a line that is evicted, takes the new line, which comes last. -/
theorem MapCachePart.alloc_lines : ∃ (w : Nat) (keep : Nat × Nat × Nat × Bytes → Bool),
    (m.alloc set tag bytes).lines = m.lines.filter keep ++ [(set, w, tag, bytes)] := by
  unfold MapCachePart.alloc
  split
  next w _ => exact ⟨w, fun _ => true, by simp⟩
  · exact ⟨_, _, rfl⟩

theorem MapCachePart.line_eq_none : m.line set tag = none ↔ ∀ l ∈ m.lines, ¬ isLineOf set tag l := by
  rw [MapCachePart.line_eq_find?, Option.map_eq_none_iff, List.find?_eq_none]

theorem MapCachePart.line_isSome : (m.line set tag).isSome = true ↔ ∃ l ∈ m.lines, isLineOf set tag l := by
  rw [MapCachePart.line_eq_find?, Option.isSome_map, List.find?_isSome]

theorem MapCachePart.line_drop (m : MapCachePart) (set tag : Nat) : (m.drop set tag).line set tag = none :=
  MapCachePart.line_eq_none.mpr fun l hl => by simpa using (List.mem_filter.mp hl).2

theorem MapCachePart.line_setLine (h : (m.line set tag).isSome = true) : (m.setLine set tag bytes).line set tag = some bytes := by
  rw [MapCachePart.line_eq_find?, Option.isSome_map] at h
  obtain ⟨l, hl⟩ := Option.isSome_iff_exists.mp h
  have htest : isLineOf set tag ∘ withBytes set tag bytes = isLineOf set tag := funext (isLineOf_withBytes set tag bytes)
  rw [MapCachePart.line_eq_find?, MapCachePart.setLine_lines, List.find?_map, htest, hl]
  simp [withBytes, List.find?_some hl]

theorem MapCachePart.line_alloc (h : m.line set tag = none) : (m.alloc set tag bytes).line set tag = some bytes := by
  obtain ⟨w, keep, hl⟩ := MapCachePart.alloc_lines (m := m) (set := set) (tag := tag) bytes
  have hkept : (m.lines.filter keep).find? (isLineOf set tag) = none :=
    List.find?_eq_none.mpr fun l hmem => MapCachePart.line_eq_none.mp h l (List.mem_of_mem_filter hmem)
  simp [MapCachePart.line_eq_find?, hl, List.find?_append, hkept, isLineOf]

theorem MapCachePart.length_setLine : (m.setLine set tag bytes).lines.length = m.lines.length := List.length_map ..

theorem MapCachePart.length_alloc_le : (m.alloc set tag bytes).lines.length ≤ m.lines.length + 1 := by
  obtain ⟨w, keep, hl⟩ := MapCachePart.alloc_lines (m := m) (set := set) (tag := tag) bytes
  simpa [hl] using List.length_filter_le keep m.lines

theorem MapCachePart.length_drop_lt (h : (m.line set tag).isSome = true) : (m.drop set tag).lines.length < m.lines.length := by
  obtain ⟨l, hmem, hl⟩ := MapCachePart.line_isSome.mp h
  exact List.length_filter_lt_length_iff_exists.mpr ⟨l, hmem, by simpa using hl⟩

end

/-! ## What an access finds, and what ZERO_LINE makes of it -/

@[simp] theorem State.dramWrite_mem (s : State) (a : Nat) (bs : Bytes) : (s.dramWrite a bs).dr.mem = memWrite s.dr.mem a bs := rfl
@[simp] theorem State.dramWrite_mc (s : State) (a : Nat) (bs : Bytes) : (s.dramWrite a bs).mc = s.mc := rfl
@[simp] theorem State.dramWrite_free (s : State) (a : Nat) (bs : Bytes) : (s.dramWrite a bs).free = s.free := rfl

/-- An access finds no line, a line that is whole, or one with an error that ECC cannot correct, which it invalidates (R200). -/
theorem State.readLine_cases (s : State) (set tag : Nat) :
    (s.mc.line set tag = none ∧ s.readLine set tag = (s, none)) ∨
    (∃ b, s.mc.line set tag = some b ∧ s.drawnNat = 0 ∧ s.readLine set tag = (s.afterDraw, some b)) ∨
    (∃ b u, s.mc.line set tag = some b ∧ s.drawnNat ≠ 0 ∧ s.readLine set tag = (u, none) ∧ u.mc = s.mc.drop set tag) := by
  unfold State.readLine
  split
  next h => exact .inl ⟨h, rfl⟩
  next b h =>
    split
    next h0 => exact .inr (.inl ⟨b, h, h0, rfl⟩)
    next h0 => exact .inr (.inr ⟨b, _, h, h0, rfl, by rw [State.bump_mc, State.ev0_mc]; rfl⟩)

/-- What ZERO_LINE makes of the map SRAM cache: a line that is absent is allocated, one that is whole takes the zeros in its place, and
one that fails its ECC is invalidated and allocated anew (R198, R200, log 90). -/
inductive ZeroedCache (s : State) (set tag : Nat) : MapCachePart → Prop
  | absent (h : s.mc.line set tag = none) : ZeroedCache s set tag (s.mc.alloc set tag (zeros 256))
  | whole (h : (s.mc.line set tag).isSome = true) (h0 : s.drawnNat = 0) : ZeroedCache s set tag (s.mc.setLine set tag (zeros 256))
  | failed (h : (s.mc.line set tag).isSome = true) (h0 : s.drawnNat ≠ 0) :
      ZeroedCache s set tag ((s.mc.drop set tag).alloc set tag (zeros 256))

/-- ZERO_LINE in the window writes its zeros to DRAM, and to the cache by what it finds there. -/
theorem exec_zeroLine_inWindow {s : State} {a : Nat} (ha : a < s.dramBytes) (hw : s.inWindow a = true) :
    ∃ t, exec (.zeroLine a) s = .next t ∧ t.dr.mem = memWrite s.dr.mem (s.lineStart a) (zeros 256) ∧
      ZeroedCache s (s.cacheAt a).1 (s.cacheAt a).2 t.mc := by
  simp only [exec_zeroLine, execZeroLine, if_neg (Nat.not_le.mpr ha), hw, Bool.not_true, Bool.false_eq_true, if_false]
  generalize hu : (s.dramWrite (s.lineStart a) (zeros 256)).stat 0x0208 0 2 1 = u
  have hmem : u.dr.mem = memWrite s.dr.mem (s.lineStart a) (zeros 256) := by rw [← hu, State.stat_dr, State.dramWrite_mem]
  have hmc : u.mc = s.mc := by rw [← hu, State.stat_mc, State.dramWrite_mc]
  have hfree : u.drawnNat = s.drawnNat := by rw [State.drawnNat, ← hu, State.stat_free, State.dramWrite_free, State.drawnNat]
  have hdr := readLine_dr u (s.cacheAt a).1 (s.cacheAt a).2
  have hcases := u.readLine_cases (s.cacheAt a).1 (s.cacheAt a).2
  rw [hmc, hfree] at hcases
  obtain ⟨h, hr⟩ | ⟨b, h, h0, hr⟩ | ⟨b, v, h, h0, hr, hv⟩ := hcases <;> rw [hr] at hdr ⊢
  · exact ⟨_, rfl, hmem, by rw [State.mc'_mc, hmc]; exact .absent h⟩
  · exact ⟨_, rfl, hmem, by rw [State.mc'_mc, State.afterDraw_mc, hmc]; exact .whole (Option.isSome_of_eq_some h) h0⟩
  · exact ⟨_, rfl, by rw [State.mc'_dr, hdr, hmem], by rw [State.mc'_mc, hv]; exact .failed (Option.isSome_of_eq_some h) h0⟩

section
variable {s : State} {set tag : Nat} {m : MapCachePart} (hm : ZeroedCache s set tag m)
include hm

theorem ZeroedCache.line : m.line set tag = some (zeros 256) := by
  cases hm with
  | absent h => exact MapCachePart.line_alloc _ h
  | whole h => exact MapCachePart.line_setLine _ h
  | failed => exact MapCachePart.line_alloc _ (MapCachePart.line_drop ..)

theorem ZeroedCache.length_le (hs : (s.mc.line set tag).isSome = true) : m.lines.length ≤ s.mc.lines.length := by
  cases hm with
  | absent h => simp [h] at hs
  | whole => exact (MapCachePart.length_setLine _).le
  | failed => exact (MapCachePart.length_alloc_le _).trans (MapCachePart.length_drop_lt hs)

theorem ZeroedCache.eq_setLine (hs : (s.mc.line set tag).isSome = true) (h0 : s.drawnNat = 0) :
    m = s.mc.setLine set tag (zeros 256) := by
  cases hm with
  | absent h => simp [h] at hs
  | whole => rfl
  | failed _ hne => exact absurd h0 hne

end

/-- Settles O54, by what ZERO_LINE finds in the cache: no line, a whole one, or one that it allocates anew (R200, log 90). -/
theorem zeroLineAllocatesAndWrites : Obligations.ZeroLineAllocatesAndWrites := by
  intro s a hwf ha hw
  obtain ⟨t, ht, hmem, hmc⟩ := exec_zeroLine_inWindow ha hw
  have hlen : (zeros 256).length = 256 := List.length_replicate
  refine ⟨t, ht, hmc.line, fun i hi => ?_, fun x hx => ?_, fun hs => ⟨hmc.length_le hs, fun h0 => ?_⟩⟩
  · rw [hmem, memGet_memWrite_in (zeros 256) _ i hwf (by rwa [hlen])]
    exact List.getElem_replicate ..
  · rw [hmem]
    exact memGet_memWrite_other _ _ _ (by rwa [hlen])
  · rw [hmc.eq_setLine hs h0]
    exact ⟨MapCachePart.length_setLine _, rfl⟩

end Sys2Proof.Machine

/-! PROOFS. Adoption of a comb at its bridge (08): what a fence task stores and answers, and FENCE_ADOPT by the comb's fence. -/

namespace Sys2Proof.Machine

/-! ## What a fence task stores and answers (R341, R342) -/

@[simp] theorem Bridge.port'_failed (b : Bridge) (p : Side) (f : BridgePort → BridgePort) : (b.port' p f).failed = b.failed := by
  cases p <;> rfl
@[simp] theorem Bridge.port'_storeFault (b : Bridge) (p : Side) (f : BridgePort → BridgePort) :
    (b.port' p f).storeFault = b.storeFault := by cases p <;> rfl

/-- A bridge with another fence epoch and owner. -/
def Bridge.withFence (b : Bridge) (epoch owner : Nat) : Bridge := { b with epoch := epoch, owner := owner }

@[simp] theorem Bridge.port_withFence (b : Bridge) (epoch owner : Nat) (p : Side) : (b.withFence epoch owner).port p = b.port p := by
  cases p <;> rfl

/-- The comb of link `n` has this fence epoch and owner, and the last thing sent is a frame of its port `p` with this status. -/
def AnswersWithFence (t : State) (n : Nat) (p : Side) (epoch owner : Nat) (w : StatusWord) : Prop :=
  ∃ d g, t.bridge? n = some d ∧ t.out.getLast? = some (.link n true p g) ∧ d.epoch = epoch ∧ d.owner = owner ∧ g.status = w.bits

section
variable {s : State} {n : Nat} {p : Side} {b : Bridge} (hb : s.bridge? n = some b) (hr : (b.port p).Room 256)
include hb hr

/-- A DONE that finds room is sent, and leaves the fence of the comb as it is. -/
theorem State.bridgeDone_answersWithFence (h : TaskHdr) (w : StatusWord) :
    AnswersWithFence (s.bridgeDone n p h w) n p b.epoch b.owner w :=
  ⟨_, _, State.bridge?_toHead_of_room hb hr _, State.toHead_out_of_room hb hr _, Bridge.port'_epoch .., Bridge.port'_owner .., rfl⟩

theorem State.fenceTask_of_wins {wins : Bridge → Bool} (hwins : wins b = true) (hfailed : b.failed = false)
    (hstore : b.storeFault = false) (h : TaskHdr) (epoch : Nat) :
    AnswersWithFence (s.fenceTask n p h wins epoch) n p epoch h.head (plainStatus .pass false) := by
  have hrun : s.fenceTask n p h wins epoch =
      (s.bridge' n (·.withFence epoch h.head)).bridgeDone n p h (plainStatus .pass false) := by
    simp only [State.fenceTask, hb, hwins, hfailed, hstore]
    rfl
  have hstored : (s.bridge' n (·.withFence epoch h.head)).bridge? n = some (b.withFence epoch h.head) :=
    State.bridge?_bridge' (fun _ => rfl) hb
  rw [hrun]
  exact State.bridgeDone_answersWithFence hstored (by rwa [Bridge.port_withFence]) h _

theorem State.fenceTask_of_loses {wins : Bridge → Bool} (hwins : wins b = false) (h : TaskHdr) (epoch : Nat) :
    AnswersWithFence (s.fenceTask n p h wins epoch) n p b.epoch b.owner (plainStatus .fenceLost false) := by
  have hrun : s.fenceTask n p h wins epoch = s.bridgeDone n p h (plainStatus .fenceLost false) := by
    simp [State.fenceTask, hb, hwins]
  rw [hrun]
  exact State.bridgeDone_answersWithFence hb hr h _

end

/-! ## FENCE_ADOPT (R342) -/

/-- A comb has never been fenced: epoch 0 and no owner (R342). -/
def Bridge.neverFenced (b : Bridge) : Bool := b.epoch == 0 && b.owner == 0xFFFF

theorem Bridge.neverFenced_iff (b : Bridge) : b.neverFenced = true ↔ b.epoch = 0 ∧ b.owner = 0xFFFF := by
  simp [Bridge.neverFenced]

@[simp] theorem Bridge.port'_neverFenced (b : Bridge) (p : Side) (f : BridgePort → BridgePort) :
    (b.port' p f).neverFenced = b.neverFenced := by simp [Bridge.neverFenced]

section
variable {s : State} {n : Nat} {p : Side} {f : LFrame} {b : Bridge} (h : AtBridge s n p f b) (ht : f.type = 1) (hop : f.op = 0x81)
include h ht hop

/-- FENCE_ADOPT in sequence is the fence task that a comb without a fence lets win, once the frame is accepted. -/
theorem exec_fenceAdopt_of_atBridge : exec (.fenceAdopt n p f) s =
    .next ((s.bridgeTook n p).fenceTask n p (f.task .fenceAdopt) Bridge.neverFenced f.arg.toNat) := by
  have hnum : (f.op == TaskOp.fenceAdopt.num) = true := by rw [hop]; rfl
  rw [exec_fenceAdopt, execFenceAdopt, ht, hnum, State.bridgeFrame_of_atBridge h]
  rfl

variable (hwait : (b.port p).waiting = []) (hun : (b.port p).unacked.length < 256)
include hwait hun

omit ht hop in
theorem AtBridge.room_took : ((b.port' p BridgePort.took).port p).Room 256 := by
  have ⟨_, _, hup, _⟩ := h
  rw [Bridge.port_port']
  exact ⟨hup, hwait, hun⟩

theorem exec_fenceAdopt_of_neverFenced (hfailed : b.failed = false) (hstore : b.storeFault = false) (hnew : b.neverFenced = true) :
    ∃ t, exec (.fenceAdopt n p f) s = .next t ∧ AnswersWithFence t n p f.arg.toNat f.owner (plainStatus .pass false) := by
  have ⟨hb, _⟩ := h
  exact ⟨_, exec_fenceAdopt_of_atBridge h ht hop, State.fenceTask_of_wins (State.bridge?_bridgeTook hb p) (h.room_took hwait hun)
    (by simpa using hnew) (by simpa using hfailed) (by simpa using hstore) ..⟩

theorem exec_fenceAdopt_of_fenced (hold : b.neverFenced = false) :
    ∃ t, exec (.fenceAdopt n p f) s = .next t ∧ AnswersWithFence t n p b.epoch b.owner (plainStatus .fenceLost false) := by
  have ⟨hb, _⟩ := h
  have hlost := State.fenceTask_of_loses (State.bridge?_bridgeTook hb p) (h.room_took hwait hun)
    (wins := Bridge.neverFenced) (by simpa using hold) (f.task .fenceAdopt) f.arg.toNat
  rw [Bridge.port'_epoch, Bridge.port'_owner] at hlost
  exact ⟨_, exec_fenceAdopt_of_atBridge h ht hop, hlost⟩

end

/-- Settles O60, by whether the comb has ever been fenced: its fence decides the fence task, and the DONE that answers it
leaves that fence as it is. -/
theorem fenceAdoptOnlyUnfenced : Obligations.FenceAdoptOnlyUnfenced := by
  intro s n p f b h ht hop hwait hun hfailed hstore
  cases hcase : b.neverFenced with
  | true =>
    obtain ⟨t, hrun, d, g, hd, hout, hepoch, howner, hstatus⟩ :=
      exec_fenceAdopt_of_neverFenced h ht hop hwait hun hfailed hstore hcase
    have hnew := b.neverFenced_iff.mp hcase
    exact ⟨t, d, g, hrun, hd, hout, fun _ => ⟨hepoch, howner, hstatus⟩, fun hold => absurd hnew hold⟩
  | false =>
    obtain ⟨t, hrun, d, g, hd, hout, hepoch, howner, hstatus⟩ := exec_fenceAdopt_of_fenced h ht hop hwait hun hcase
    have hold : ¬ (b.epoch = 0 ∧ b.owner = 0xFFFF) := by simp [← b.neverFenced_iff, hcase]
    exact ⟨t, d, g, hrun, hd, hout, fun hnew => absurd hnew hold, fun _ => ⟨hepoch, howner, hstatus⟩⟩

end Sys2Proof.Machine

/-! PROOFS. Counters (19): what an increment makes of a counter, and what CTR_CLEAR leaves of it (R734, R735, R740). -/

namespace Sys2Proof.Machine

/-! ## A counter and its entry (R734) -/

/-- Class, index and position: what names a counter. -/
def CtrVal.key (c : CtrVal) : Nat × Nat × Nat := (c.cls, c.idx, c.pos)

theorem CtrVal.key_eq_iff (c : CtrVal) (cls idx pos : Nat) :
    c.key = (cls, idx, pos) ↔ (c.cls == cls && c.idx == idx && c.pos == pos) = true := by simp [CtrVal.key, and_assoc]

theorem ctrGet_key (l : List CtrVal) (cls idx pos : Nat) : (ctrGet l cls idx pos).key = (cls, idx, pos) := by
  unfold ctrGet
  cases h : l.find? fun c => c.cls == cls && c.idx == idx && c.pos == pos with
  | none => rfl
  | some c =>
    have hfound := List.find?_some h
    exact (c.key_eq_iff ..).2 hfound

/-- An entry is read back where it was put. -/
theorem ctrGet_ctrPut {c : CtrVal} {cls idx pos : Nat} (h : c.key = (cls, idx, pos)) (l : List CtrVal) :
    ctrGet (ctrPut l c) cls idx pos = c := by
  obtain ⟨rfl, rfl, rfl⟩ := h
  have hold : (l.filter fun d => !(d.cls == c.cls && d.idx == c.idx && d.pos == c.pos)).find?
      (fun d => d.cls == c.cls && d.idx == c.idx && d.pos == c.pos) = none :=
    List.find?_eq_none.2 fun d hd => by simpa only [Bool.not_eq_true, Bool.not_eq_true'] using (List.mem_filter.1 hd).2
  rw [ctrGet, ctrPut, List.find?_append, hold]
  simp

/-- A counter of no entry is 0 and armed (R735, R741). -/
theorem ctrGet_of_unlisted {l : List CtrVal} {cls idx : Nat} (h : ∀ c ∈ l, c.cls = cls → c.idx ≠ idx) (pos : Nat) :
    ctrGet l cls idx pos = ⟨cls, idx, pos, 0, false, true⟩ := by
  have hnone : (l.find? fun c => c.cls == cls && c.idx == idx && c.pos == pos) = none :=
    List.find?_eq_none.2 fun c hc hp => by
      obtain ⟨hcls, hidx, -⟩ := Prod.ext_iff.1 ((c.key_eq_iff ..).2 hp) |>.imp_right Prod.ext_iff.1
      exact h c hc hcls hidx
  rw [ctrGet, hnone, Option.getD_none]

theorem ctrLimit_of_ctrFault {cls : Nat} (h : ctrFault cls = true) : ctrLimit cls = 0xFFFFFFFF := by
  unfold ctrFault at h
  unfold ctrLimit
  cases hc : ctrClass cls with
  | none => simp [hc] at h
  | some c => simp_all

/-! ## An increment (R734, R735) -/

theorem CtrVal.add_key (c : CtrVal) (n : Nat) : (c.add n).key = c.key := by
  unfold CtrVal.add
  split
  · rfl
  · split <;> rfl

theorem CtrVal.add_armed (c : CtrVal) (n : Nat) : (c.add n).armed = c.armed := by
  unfold CtrVal.add
  split
  · rfl
  · split <;> rfl

/-- An increment leaves a counter with SAT where it had it or goes past the limit (R734). -/
theorem CtrVal.add_sat (c : CtrVal) (n : Nat) : (c.add n).sat = (c.sat || decide (ctrLimit c.cls < c.val + n)) := by
  unfold CtrVal.add
  split
  · simp_all
  · split <;> simp_all

theorem ctrGet_add_key (l : List CtrVal) (cls idx pos n : Nat) : ((ctrGet l cls idx pos).add n).key = (cls, idx, pos) :=
  (CtrVal.add_key ..).trans (ctrGet_key ..)

/-- The counter after the increment that raises its E0F0 (R735). -/
def CtrVal.disarmed (c : CtrVal) : CtrVal := { c with armed := false }

/-- Put a counter's entry in its place. -/
def State.putCtr (s : State) (c : CtrVal) : State := s.ct' fun t => { t with vals := ctrPut t.vals c }

theorem State.ctrGet_putCtr {c : CtrVal} {cls idx pos : Nat} (h : c.key = (cls, idx, pos)) (s : State) :
    ctrGet (s.putCtr c).ct.vals cls idx pos = c := ctrGet_ctrPut h _

section
variable {s : State} {cls idx pos n : Nat} (hfault : ctrFault cls = true)
include hfault

/-- A fault counter has SAT after an increment that would take it above 0xFFFF_FFFF (R734). -/
theorem ctrGet_add_sat (l : List CtrVal) (idx pos n : Nat) : ((ctrGet l cls idx pos).add n).sat =
    ((ctrGet l cls idx pos).sat || decide (0xFFFFFFFF < (ctrGet l cls idx pos).val + n)) := by
  have hcls : (ctrGet l cls idx pos).cls = cls := congrArg Prod.fst (ctrGet_key ..)
  rw [CtrVal.add_sat, hcls, ctrLimit_of_ctrFault hfault]

theorem bump_of_saturating (hsat : (ctrGet s.ct.vals cls idx pos).sat = false) (harmed : (ctrGet s.ct.vals cls idx pos).armed = true)
    (hlimit : 0xFFFFFFFF < (ctrGet s.ct.vals cls idx pos).val + n) :
    s.bump cls idx pos n = (s.putCtr ((ctrGet s.ct.vals cls idx pos).add n).disarmed).ev0 0x0F0 .warn
      (le 2 cls ++ le 4 idx ++ le 1 pos) := by
  have hnew := ctrGet_add_sat hfault s.ct.vals idx pos n
  rw [State.bump, if_pos (by simp [hfault, hnew, hsat, harmed, hlimit])]
  rfl

theorem bump_of_quiet (hquiet : (ctrGet s.ct.vals cls idx pos).armed = false ∨ (ctrGet s.ct.vals cls idx pos).sat = true ∨
    (ctrGet s.ct.vals cls idx pos).val + n ≤ 0xFFFFFFFF) :
    s.bump cls idx pos n = s.putCtr ((ctrGet s.ct.vals cls idx pos).add n) := by
  have hnew := ctrGet_add_sat hfault s.ct.vals idx pos n
  rw [State.bump, if_neg]
  · rfl
  · obtain h | h | h := hquiet
    · simp [h]
    · simp [h]
    · simp [hnew, Nat.not_lt.2 h]
end

/-! ## CTR_CLEAR (R740) -/

theorem exec_ctrClear_of_runs {s u : State} {q : VReq} (hr : Runs s 0x0904 q u)
    (hfound : (u.ctrBlocks (q.num 1 0) (q.num 2 0)).isSome = true)
    (howner : ownerClears (q.num 1 0) = true → (u.sessionOf q.via q.session).any (·.priv == .owner) = true) :
    ∃ t, exec (.ctrClear q) s = .next t ∧
      t.ct.vals = u.ct.vals.filter fun c => !(c.cls == q.num 1 0 && (q.num 2 0 == 0xFFFFFFFF || c.idx == q.num 2 0)) := by
  refine ⟨u.ctrClear q, congrArg Host.Outcome.next (virkan_runs hr), ?_⟩
  rw [State.ctrClear, if_neg (by simp [Option.isNone_eq_false_iff.2 hfound]), if_neg (by simpa using howner), State.reply_ct]
  rfl

/-- Settles O57: the two forms of an increment by whether E0F0 is raised, and a counter that CTR_CLEAR clears is listed no more. -/
theorem saturationRaisedOnce : Obligations.SaturationRaisedOnce := by
  refine ⟨fun s cls idx pos n hfault hsat harmed hlimit => ?_, fun s cls idx pos n hquiet hfault => ?_,
    fun s q u idx pos hr hfound howner hidx => ?_⟩
  · refine ⟨_, bump_of_saturating hfault hsat harmed hlimit, rfl, ?_⟩
    rw [State.ctrGet_putCtr (c := CtrVal.disarmed _) (ctrGet_add_key ..)]
    exact ⟨by simp [CtrVal.disarmed, ctrGet_add_sat hfault, hlimit], rfl⟩
  · rw [bump_of_quiet hfault hquiet, State.ctrGet_putCtr (ctrGet_add_key ..)]
    exact ⟨rfl, CtrVal.add_armed ..⟩
  · obtain ⟨t, hrun, hvals⟩ := exec_ctrClear_of_runs hr hfound howner
    have hget : ctrGet t.ct.vals (q.num 1 0) idx pos = ⟨q.num 1 0, idx, pos, 0, false, true⟩ := by
      refine ctrGet_of_unlisted (fun c hc hcls hcidx => ?_) pos
      rw [hvals, List.mem_filter] at hc
      obtain h | h := hidx <;> simp [hcls, hcidx, h] at hc
    exact ⟨t, hrun, by rw [hget], by rw [hget], by rw [hget]⟩

end Sys2Proof.Machine

/-! PROOFS. The intake FIFO and the reserved lane of the event recorder (19): every command keeps their sizes, and the writer serves
the lane first (R712, R719 to R721).

A report enters the intake in one operation of the model (`State.intake`), and every unit may report; so the sizes are a frame over all
operations, one `simp` lemma for each, in the model's own order. Most of them neither start nor reset the recorder, and after them the
intake fits exactly where it fitted before (`_intakeFits`, an equation that `simp` uses under any branch). An operation that may reset
the device empties the intake, and of it the frame is an implication (`_fits`). -/

namespace Sys2Proof.Machine

/-! ## The sizes of the intake, and what leaves them as they are -/

/-- The intake FIFO and the reserved lane are within their sizes (R719). -/
def RecorderPart.intakeFits (v : RecorderPart) : Bool := decide (v.fifo.length ≤ 1024) && decide (v.lane.length ≤ 64)

theorem RecorderPart.intakeFits_iff (v : RecorderPart) : v.intakeFits = true ↔ v.fifo.length ≤ 1024 ∧ v.lane.length ≤ 64 := by
  simp [RecorderPart.intakeFits]

/-- The sizes are read off the FIFO and the lane alone. -/
@[simp] theorem RecorderPart.intakeFits_mk (v : RecorderPart) (nextSeq : Nat) (ring : List EvRec) (waiting : List Report0)
    (buckets : List Bucket) (drops : List Nat) (dropSince : Option Nat) (refusals : List Nat) (refuseSince : Option Nat)
    (kept : List Report0) (lastRetry : Nat) (subLost : List (Nat × Nat × Nat × Nat × Nat × Nat))
    (ctlLost : List (Nat × Nat × Nat × Nat × Nat)) :
    RecorderPart.intakeFits ⟨nextSeq, ring, v.fifo, v.lane, waiting, buckets, drops, dropSince, refusals, refuseSince, kept, lastRetry,
      subLost, ctlLost⟩ = v.intakeFits := rfl

/-- A command that completes leaves an intake that fits, where it found one. -/
def IntakeKept (r : Host.Outcome State Fault Refusal) (b : Bool) : Prop := ∀ t, r = .next t → b = true → t.ev.intakeFits = true

@[simp] theorem intakeKept_next (t : State) (b : Bool) : IntakeKept (.next t) b ↔ (b = true → t.ev.intakeFits = true) := by
  simp [IntakeKept]
@[simp] theorem intakeKept_ok (t : State) (b : Bool) : IntakeKept (ok t) b ↔ (b = true → t.ev.intakeFits = true) := intakeKept_next t b
@[simp] theorem intakeKept_fault (r : Fault) (b : Bool) : IntakeKept (.fault r) b := by simp [IntakeKept]
@[simp] theorem State.ite_intakeFits (c : Prop) [Decidable c] (s t : State) :
    (if c then s else t).ev.intakeFits = if c then s.ev.intakeFits else t.ev.intakeFits :=
      apply_ite (fun x : State => x.ev.intakeFits) c s t
@[simp] theorem fst_ite_intakeFits {α : Type} (c : Prop) [Decidable c] (x y : State × α) :
    (if c then x else y).1.ev.intakeFits = if c then x.1.ev.intakeFits else y.1.ev.intakeFits :=
  apply_ite (fun z : State × α => z.1.ev.intakeFits) c x y

/-- A change of the state after which the intake fits exactly where it fitted before. -/
def KeepsIntake (f : State → State) : Prop := ∀ t, (f t).ev.intakeFits = t.ev.intakeFits

theorem KeepsIntake.intakeFits {f : State → State} (h : KeepsIntake f) (t : State) : (f t).ev.intakeFits = t.ev.intakeFits := h t

@[simp] theorem keepsIntake_iff (f : State → State) : KeepsIntake f ↔ ∀ t, (f t).ev.intakeFits = t.ev.intakeFits :=
  ⟨fun h => h, fun h => h⟩

/-- A change of the state after which the intake fits where it fitted before. -/
def FitsAfter (f : State → State) : Prop := ∀ t, t.ev.intakeFits = true → (f t).ev.intakeFits = true

@[simp] theorem fitsAfter_iff (f : State → State) : FitsAfter f ↔ ∀ t, t.ev.intakeFits = true → (f t).ev.intakeFits = true :=
  ⟨fun h => h, fun h => h⟩

theorem foldl_fits {α : Type} {f : State → α → State} (hf : ∀ t a, t.ev.intakeFits = true → (f t a).ev.intakeFits = true) (l : List α)
    {s : State} (h : s.ev.intakeFits = true) : (l.foldl f s).ev.intakeFits = true := by
  induction l generalizing s with
  | nil => exact h
  | cons a l ih => exact ih (hf s a h)

@[simp] theorem foldl_intakeFits {α : Type} {f : State → α → State} (hf : ∀ a, KeepsIntake (f · a)) (l : List α) (s : State) :
    (l.foldl f s).ev.intakeFits = s.ev.intakeFits := by
  induction l generalizing s with
  | nil => rfl
  | cons a l ih => rw [List.foldl_cons, ih, hf]

/-- What a helper that answers a pair leaves of the intake, read off where the pair is taken apart. -/
theorem intakeFits_of_eq {α : Type} {x : State × α} {t : State} {a : α} {b : Bool} (h : x = (t, a)) (hx : x.1.ev.intakeFits = b) :
    t.ev.intakeFits = b := by rwa [h] at hx

theorem intakeFits_ite_of {c : Prop} [Decidable c] {s t : State} {b : Bool} (hs : s.ev.intakeFits = b) (ht : t.ev.intakeFits = b) :
    (if c then s else t).ev.intakeFits = b := by
  split
  · exact hs
  · exact ht

/-- `foldl_intakeFits` for `refine`, where the body of the fold is a case split. -/
theorem foldl_intakeFits_of {α : Type} {f : State → α → State} (hf : ∀ t a, (f t a).ev.intakeFits = t.ev.intakeFits) (l : List α)
    (s : State) : (l.foldl f s).ev.intakeFits = s.ev.intakeFits := foldl_intakeFits (fun a t => hf t a) l s

/-- The fold over a state and an answer, which the model uses where it counts or collects as it goes. -/
theorem foldl_fst_intakeFits {α β : Type} {f : State × β → α → State × β} (hf : ∀ x a, (f x a).1.ev.intakeFits = x.1.ev.intakeFits)
    (l : List α) (x : State × β) : (l.foldl f x).1.ev.intakeFits = x.1.ev.intakeFits := by
  induction l generalizing x with
  | nil => rfl
  | cons a l ih => rw [List.foldl_cons, ih, hf]

/-! ## A report in the intake (R719 to R721) -/

theorem length_dropNewest {l : List Report0} {low : Nat} (h : lowestSev l = some low) (r : Report0) :
    (dropNewest l low ++ [r]).length = l.length := by
  obtain ⟨x, hx, hlow⟩ := List.mem_map.1 (List.min?_mem h)
  obtain ⟨hx, hnot⟩ := List.mem_filter.1 hx
  have hlen := List.length_eraseP_of_mem (p := fun r => !isSummary r.code && sevN r.sev == low) (List.mem_reverse.2 hx) (by simp_all)
  have hpos := List.length_pos_of_mem hx
  simp only [dropNewest, List.length_append, List.length_reverse, hlen, List.length_singleton]
  omega

section
variable {s : State} {r : Report0}

/-- A CRITICAL or FATAL report that is no summary enters the reserved lane, or waits for it (R719, R721). -/
theorem State.intake_of_urgent (h : 6 ≤ sevN r.sev) (hs : isSummary r.code = false) :
    s.intake r = s.ev' fun v => if v.lane.length < 64 then { v with lane := v.lane ++ [r] } else { v with waiting := v.waiting ++ [r] } :=
  if_pos (by simp [h, hs])

/-- Any other report enters the FIFO while there is room (R719). -/
theorem State.intake_of_room (h : sevN r.sev < 6 ∨ isSummary r.code = true) (hroom : s.ev.fifo.length < 1024) :
    s.intake r = s.ev' fun v => { v with fifo := v.fifo ++ [r] } :=
  (if_neg (by simpa [imp_iff_not_or] using h)).trans (if_pos hroom)

/-- In a full FIFO it takes the place of the newest entry of the lowest severity, or is dropped or kept for later (R720). -/
theorem State.intake_sizes_of_full (h : sevN r.sev < 6 ∨ isSummary r.code = true) (hfull : ¬ s.ev.fifo.length < 1024) :
    (s.intake r).ev.fifo.length = s.ev.fifo.length ∧ (s.intake r).ev.lane = s.ev.lane := by
  rw [State.intake, if_neg (by simpa [imp_iff_not_or] using h), if_neg hfull]
  split
  · split
    · exact ⟨length_dropNewest ‹_› r, rfl⟩
    · split <;> exact ⟨rfl, rfl⟩
  · split <;> exact ⟨rfl, rfl⟩
end

@[simp] theorem State.intake_intakeFits (s : State) (r : Report0) : (s.intake r).ev.intakeFits = s.ev.intakeFits := by
  rw [Bool.eq_iff_iff, RecorderPart.intakeFits_iff, RecorderPart.intakeFits_iff]
  by_cases h : sevN r.sev < 6 ∨ isSummary r.code = true
  · by_cases hroom : s.ev.fifo.length < 1024
    · simp only [State.intake_of_room h hroom, State.ev'_ev, List.length_append, List.length_singleton]
      omega
    · obtain ⟨hfifo, hlane⟩ := State.intake_sizes_of_full h hroom
      rw [hfifo, hlane]
  · obtain ⟨hsev, hsum⟩ := not_or.1 h
    rw [State.intake_of_urgent (Nat.not_lt.1 hsev) (Bool.not_eq_true _ ▸ hsum), State.ev'_ev]
    split
    · simp only [List.length_append, List.length_singleton]
      omega
    · rfl
@[simp] theorem State.report_intakeFits (s : State) (r : Report0) : (s.report r).ev.intakeFits = s.ev.intakeFits := by
  simp [State.report]
@[simp] theorem State.event_intakeFits (s : State) (code : Nat) (sev : Severity) (domain : Nat) (detail : Bytes) :
    (s.event code sev domain detail).ev.intakeFits = s.ev.intakeFits := by simp [State.event]
@[simp] theorem State.ev0_intakeFits (s : State) (code : Nat) (sev : Severity) (detail : Bytes) :
    (s.ev0 code sev detail).ev.intakeFits = s.ev.intakeFits := by simp [State.ev0]
@[simp] theorem State.bump_intakeFits (s : State) (cls idx pos n : Nat) : (s.bump cls idx pos n).ev.intakeFits = s.ev.intakeFits := by
  simp [State.bump]

/-! ## The operations of Machine/Ops -/

@[simp] theorem State.writeRec_intakeFits (s : State) (r : Report0) : (s.writeRec r).ev.intakeFits = s.ev.intakeFits := by
  simp only [State.writeRec]
  split <;> simp
@[simp] theorem State.lastGasp_intakeFits (s : State) (code : Nat) (sev : Severity) (detail : Bytes) :
    (s.lastGasp code sev detail).ev.intakeFits = s.ev.intakeFits := by simp [State.lastGasp]
@[simp] theorem State.firstRecord_intakeFits (s : State) : s.firstRecord.ev.intakeFits = s.ev.intakeFits := by simp [State.firstRecord]
@[simp] theorem State.hive'_intakeFits (s : State) (h : Nat) (f : Hive → Hive) : (s.hive' h f).ev.intakeFits = s.ev.intakeFits := rfl
@[simp] theorem State.link'_intakeFits (s : State) (l : Nat) (f : Link → Link) : (s.link' l f).ev.intakeFits = s.ev.intakeFits := rfl
@[simp] theorem State.bridge'_intakeFits (s : State) (l : Nat) (f : Bridge → Bridge) :
    (s.bridge' l f).ev.intakeFits = s.ev.intakeFits := rfl
@[simp] theorem State.cond_intakeFits (s : State) (c : Bool) (f : State → State) (hf : KeepsIntake f) :
    (s.cond c f).ev.intakeFits = s.ev.intakeFits := by
  simp [State.cond, hf.intakeFits]

/-! ## The operations of Machine/Memory -/

@[simp] theorem State.readLine_intakeFits (s : State) (set tag : Nat) : (s.readLine set tag).1.ev.intakeFits = s.ev.intakeFits := by
  unfold State.readLine
  split <;> simp
@[simp] theorem State.refreshLine_intakeFits (s : State) (l : Nat × Nat × Nat × Bytes) :
    (s.refreshLine l).ev.intakeFits = s.ev.intakeFits := by
  simp only [State.refreshLine]
  repeat' split
  any_goals simp
  all_goals exact intakeFits_of_eq ‹_› (by simp)
@[simp] theorem State.refreshLines_intakeFits (s : State) (a n : Nat) : (s.refreshLines a n).ev.intakeFits = s.ev.intakeFits := by
  simp [State.refreshLines]
@[simp] theorem State.putBytes_intakeFits (s : State) (a : Nat) (bs : Bytes) : (s.putBytes a bs).ev.intakeFits = s.ev.intakeFits := by
  simp [State.putBytes]

/-! ## The operations of Machine/ForageSend -/

@[simp] theorem State.ctx'_intakeFits (s : State) (id : Nat) (f : Ctx → Ctx) : (s.ctx' id f).ev.intakeFits = s.ev.intakeFits := rfl
@[simp] theorem State.path'_intakeFits (s : State) (id : Nat) (f : Path → Path) : (s.path' id f).ev.intakeFits = s.ev.intakeFits := rfl
@[simp] theorem State.pathFor_intakeFits (s : State) (head : Nat) (fabric : Bool) :
    (s.pathFor head fabric).1.ev.intakeFits = s.ev.intakeFits := by
  unfold State.pathFor
  (repeat' split) <;> simp
@[simp] theorem State.sendPackets_intakeFits (s : State) (c : Ctx) (m : MsgOut) (pick : Nat → Bool) :
    (s.sendPackets c m pick).ev.intakeFits = s.ev.intakeFits := by
  unfold State.sendPackets
  (repeat' split) <;> simp
@[simp] theorem State.beginEntry_intakeFits (s : State) (c : Ctx) (e : WorkEntry) : (s.beginEntry c e).ev.intakeFits = s.ev.intakeFits := by
  simp [State.beginEntry]
@[simp] theorem State.ensurePath_intakeFits (s : State) (c : Ctx) : (s.ensurePath c).ev.intakeFits = s.ev.intakeFits := by
  simp only [State.ensurePath]
  repeat' split
  any_goals simp
  all_goals exact intakeFits_of_eq ‹_› (by simp)
@[simp] theorem State.pumpAux_intakeFits (s : State) (id n : Nat) : (s.pumpAux id n).ev.intakeFits = s.ev.intakeFits := by
  induction n generalizing s with
  | zero => rfl
  | succ n ih =>
    simp only [State.pumpAux]
    (repeat' split) <;> simp [ih]
@[simp] theorem State.pump_intakeFits (s : State) (id : Nat) : (s.pump id).ev.intakeFits = s.ev.intakeFits := by
  unfold State.pump
  split <;> simp
@[simp] theorem State.pumpAll_intakeFits (s : State) : s.pumpAll.ev.intakeFits = s.ev.intakeFits := by simp [State.pumpAll]
@[simp] theorem State.postEntry_intakeFits (s : State) (id : Nat) (e : WorkEntry) : (s.postEntry id e).ev.intakeFits = s.ev.intakeFits := by
  unfold State.postEntry
  split <;> simp

/-! ## The operations of Machine/VOps -/

@[simp] theorem State.sendReply_intakeFits (s : State) (via : Transport) (r : VReply) :
    (s.sendReply via r).ev.intakeFits = s.ev.intakeFits := by
  simp [State.sendReply]
@[simp] theorem State.deliverAs_intakeFits (s : State) (own : Bool) (via : Transport) (r : VReply) :
    (s.deliverAs own via r).ev.intakeFits = s.ev.intakeFits := by simp [State.deliverAs]
@[simp] theorem State.turnAway_intakeFits (s : State) (q : VReq) (op : Nat) (st : VStatus) :
    (s.turnAway q op st).ev.intakeFits = s.ev.intakeFits := by
  simp [State.turnAway]
@[simp] theorem State.loseNotice_intakeFits (s : State) (handle : Nat) (payload : Bytes) :
    (s.loseNotice handle payload).ev.intakeFits = s.ev.intakeFits := rfl
@[simp] theorem State.freePlace_intakeFits (s : State) (x : Session) : (s.freePlace x).ev.intakeFits = s.ev.intakeFits := by
  unfold State.freePlace
  (repeat' split) <;> simp
@[simp] theorem State.takeIn_intakeFits (s : State) (op : Nat) (q : VReq) : (s.takeIn op q).ev.intakeFits = s.ev.intakeFits := by
  unfold State.takeIn
  split <;> simp
@[simp] theorem State.issueConfirm_intakeFits (s : State) (o : VOp) (q : VReq) : (s.issueConfirm o q).ev.intakeFits = s.ev.intakeFits := by
  simp [State.issueConfirm]
@[simp] theorem State.virkan_intakeFits (s : State) (op : Nat) (q : VReq) (body : State → State) (hbody : KeepsIntake body) :
    (s.virkan op q body).ev.intakeFits = s.ev.intakeFits := by
  simp only [State.virkan]
  (repeat' split) <;> simp [hbody.intakeFits]
theorem State.virkan_fits {s : State} {op : Nat} {q : VReq} {body : State → State} (hbody : FitsAfter body)
    (h : s.ev.intakeFits = true) : (s.virkan op q body).ev.intakeFits = true := by
  unfold State.virkan
  split
  · exact h
  split
  · simp [h]
  dsimp only
  split
  · simp [h]
  split
  · simp [h]
  split
  · simp [h]
  · exact hbody _ (by split <;> simp [h])
@[simp] theorem State.closeSession_intakeFits (s : State) (h : Nat) : (s.closeSession h).ev.intakeFits = s.ev.intakeFits := rfl
@[simp] theorem State.closeVia_intakeFits (s : State) (via : Transport) : (s.closeVia via).ev.intakeFits = s.ev.intakeFits := by
  simp [State.closeVia]

/-! ## The operations of Machine/WaxOps -/

@[simp] theorem State.mirrorPush_intakeFits (s : State) (ctx cookie len off : Nat) :
    (s.mirrorPush ctx cookie len off).ev.intakeFits = s.ev.intakeFits := by simp [State.mirrorPush]
@[simp] theorem State.owe_intakeFits (s : State) (n : After) : (s.owe n).ev.intakeFits = s.ev.intakeFits := by
  unfold State.owe
  split <;> simp
@[simp] theorem State.overwrite_intakeFits (s : State) (ring : WaxRing) (off u : Nat) :
    (s.overwrite ring off u).ev.intakeFits = s.ev.intakeFits := rfl
@[simp] theorem State.writePad_intakeFits (s : State) (ring : WaxRing) (off u : Nat) :
    (s.writePad ring off u).ev.intakeFits = s.ev.intakeFits := by
  simp [State.writePad]
@[simp] theorem State.putRec_intakeFits (s : State) (domain : Nat) (cont : Bool) (body : RecBody) (after : List After) :
    (s.putRec domain cont body after).ev.intakeFits = s.ev.intakeFits := by
  simp only [State.putRec]
  (repeat' split) <;> simp
@[simp] theorem State.commitRec_intakeFits (s : State) (domain : Nat) (cont : Bool) (body : RecBody) (after : List After) :
    (s.commitRec domain cont body after).ev.intakeFits = s.ev.intakeFits := by simp [State.commitRec]
@[simp] theorem State.writeLater_intakeFits (s : State) : s.writeLater.ev.intakeFits = s.ev.intakeFits := by simp [State.writeLater]
@[simp] theorem State.commit_intakeFits (s : State) (domain : Nat) (body : RecBody) (after : List After) :
    (s.commit domain body after).ev.intakeFits = s.ev.intakeFits := by simp [State.commit]
@[simp] theorem State.control_intakeFits (s : State) (domain : Nat) (c : CtlChange) (after : List After) :
    (s.control domain c after).ev.intakeFits = s.ev.intakeFits := by simp [State.control]
@[simp] theorem State.mapChange_intakeFits (s : State) (domain : Nat) (items : List MapItem) (after : List After) :
    (s.mapChange domain items after).ev.intakeFits = s.ev.intakeFits := by simp [State.mapChange]
@[simp] theorem State.refChange_intakeFits (s : State) (domain : Nat) (items : List RefItem) :
    (s.refChange domain items).ev.intakeFits = s.ev.intakeFits := by simp [State.refChange]
@[simp] theorem State.ringRelease_intakeFits (s : State) (ords : List Nat) : (s.ringRelease ords).ev.intakeFits = s.ev.intakeFits := by
  simp [State.ringRelease]
@[simp] theorem State.commitChain_intakeFits (s : State) (domain : Nat) (after : List After) (l : List RecBody) :
    (s.commitChain domain after l).ev.intakeFits = s.ev.intakeFits := by
  fun_induction State.commitChain s domain after l <;> simp [*]
@[simp] theorem State.writeEntry_intakeFits (s : State) (e : JournalEntry) : (s.writeEntry e).ev.intakeFits = s.ev.intakeFits := by
  simp [State.writeEntry]
@[simp] theorem State.journal_intakeFits (s : State) (kind ord : Nat) (body : List Nat) (members : List Member) :
    (s.journal kind ord body members).ev.intakeFits = s.ev.intakeFits := by
  simp only [State.journal]
  split <;> simp
@[simp] theorem State.judgeRings_intakeFits (s : State) : s.judgeRings.ev.intakeFits = s.ev.intakeFits := by simp [State.judgeRings]

/-! ## The operations of Machine/Tables2 -/

@[simp] theorem State.chunk'_intakeFits (s : State) (id : Nat) (f : Chunk → Chunk) : (s.chunk' id f).ev.intakeFits = s.ev.intakeFits := rfl
@[simp] theorem State.putChunk_intakeFits (s : State) (c : Chunk) : (s.putChunk c).ev.intakeFits = s.ev.intakeFits := rfl
@[simp] theorem State.addRef_intakeFits (s : State) (id : Nat) (delta : Int) : (s.addRef id delta).ev.intakeFits = s.ev.intakeFits := by
  simp [State.addRef]
@[simp] theorem State.stripe'_intakeFits (s : State) (ord : Nat) (f : Stripe → Stripe) :
    (s.stripe' ord f).ev.intakeFits = s.ev.intakeFits := rfl
@[simp] theorem State.addLive_intakeFits (s : State) (ord : Nat) (n : Int) : (s.addLive ord n).ev.intakeFits = s.ev.intakeFits := rfl
@[simp] theorem State.set'_intakeFits (s : State) (link die block : Nat) (f : BlockSet → BlockSet) :
    (s.set' link die block f).ev.intakeFits = s.ev.intakeFits := rfl
@[simp] theorem State.holdUnits_intakeFits (s : State) (ms : List Member) (n : Int) :
    (s.holdUnits ms n).ev.intakeFits = s.ev.intakeFits := by
  simp [State.holdUnits]
@[simp] theorem State.dropFp_intakeFits (s : State) (chunk : Nat) : (s.dropFp chunk).ev.intakeFits = s.ev.intakeFits := rfl
@[simp] theorem State.evictKeys_intakeFits (s : State) (keep : Nat) : (s.evictKeys keep).ev.intakeFits = s.ev.intakeFits := by
  simp [State.evictKeys]
@[simp] theorem State.beginFilter_intakeFits (s : State) : s.beginFilter.ev.intakeFits = s.ev.intakeFits := by simp [State.beginFilter]
@[simp] theorem State.restartFilter_intakeFits (s : State) : s.restartFilter.ev.intakeFits = s.ev.intakeFits := by
  simp [State.restartFilter]
@[simp] theorem State.releaseStripe_intakeFits (s : State) (ord : Nat) : (s.releaseStripe ord).ev.intakeFits = s.ev.intakeFits := by
  unfold State.releaseStripe
  split <;> simp
@[simp] theorem State.page'_intakeFits (s : State) (d key : Nat) (f : MapPage → MapPage) :
    (s.page' d key f).ev.intakeFits = s.ev.intakeFits := rfl
@[simp] theorem State.addPage_intakeFits (s : State) (p : MapPage) : (s.addPage p).ev.intakeFits = s.ev.intakeFits := rfl
@[simp] theorem State.shareKids_intakeFits (s : State) (d : Nat) (kids : List (Nat × Nat)) :
    (s.shareKids d kids).ev.intakeFits = s.ev.intakeFits := by
  simp [State.shareKids]
@[simp] theorem State.ownPage_intakeFits (s : State) (d key : Nat) : (s.ownPage d key).1.ev.intakeFits = s.ev.intakeFits := by
  unfold State.ownPage
  split <;> simp
@[simp] theorem State.setLeaf_intakeFits (s : State) (d key k chunk : Nat) (zero : Bool) :
    (s.setLeaf d key k chunk zero).ev.intakeFits = s.ev.intakeFits := by
  unfold State.setLeaf
  split <;> simp
@[simp] theorem State.mapSet_intakeFits (s : State) (d n key k chunk : Nat) (zero : Bool) :
    (s.mapSet d n key k chunk zero).1.ev.intakeFits = s.ev.intakeFits := by
  induction n generalizing s key with
  | zero => simp [State.mapSet]
  | succ n ih =>
    simp only [State.mapSet, ih, State.page'_intakeFits]
    split <;> simp
@[simp] theorem State.ns'_intakeFits (s : State) (nsid : Nat) (f : Namespace → Namespace) :
    (s.ns' nsid f).ev.intakeFits = s.ev.intakeFits := rfl
@[simp] theorem State.domain'_intakeFits (s : State) (d : Nat) (f : Domain → Domain) :
    (s.domain' d f).ev.intakeFits = s.ev.intakeFits := rfl
@[simp] theorem State.nsSet_intakeFits (s : State) (nsid k chunk : Nat) (zero : Bool) :
    (s.nsSet nsid k chunk zero).ev.intakeFits = s.ev.intakeFits := by
  unfold State.nsSet
  split <;> simp
@[simp] theorem State.growTree_intakeFits (s : State) (d n n' : Nat) : (s.growTree d n n').1.ev.intakeFits = s.ev.intakeFits := by
  fun_induction State.growTree s d n n' <;> simp [*]
@[simp] theorem State.copyRoot_intakeFits (s : State) (d root : Nat) : (s.copyRoot d root).1.ev.intakeFits = s.ev.intakeFits := by
  unfold State.copyRoot
  split <;> simp
@[simp] theorem State.snapFreeze_intakeFits (s : State) (nsid snap tick : Nat) (label : Bytes) :
    (s.snapFreeze nsid snap tick label).ev.intakeFits = s.ev.intakeFits := by
  unfold State.snapFreeze
  split <;> simp
@[simp] theorem State.nsClone_intakeFits (s : State) (src snap new : Nat) : (s.nsClone src snap new).ev.intakeFits = s.ev.intakeFits := by
  unfold State.nsClone
  split <;> simp
@[simp] theorem State.treeDrop_intakeFits (s : State) (nsid snap : Nat) : (s.treeDrop nsid snap).ev.intakeFits = s.ev.intakeFits := by
  unfold State.treeDrop
  (repeat' split) <;> simp
@[simp] theorem State.pageDrop_intakeFits (s : State) (d key : Nat) : (s.pageDrop d key).ev.intakeFits = s.ev.intakeFits := by
  unfold State.pageDrop
  split <;> simp
@[simp] theorem State.ledgerAdd_intakeFits (s : State) (e : LedgerEntry) : (s.ledgerAdd e).ev.intakeFits = s.ev.intakeFits := by
  simp [State.ledgerAdd]
@[simp] theorem State.ledgerKeep_intakeFits (s : State) (p : LedgerEntry → Bool) : (s.ledgerKeep p).ev.intakeFits = s.ev.intakeFits := by
  simp [State.ledgerKeep]
@[simp] theorem State.ledgerDrop_intakeFits (s : State) (d : Nat) (old : Place) : (s.ledgerDrop d old).ev.intakeFits = s.ev.intakeFits := by
  simp [State.ledgerDrop]
@[simp] theorem State.withLink_intakeFits (s : State) (link : Nat) : (s.withLink link).ev.intakeFits = s.ev.intakeFits := by
  simp [State.withLink]

/-! ## The operations of Machine/Apply -/

@[simp] theorem State.obj'_intakeFits (s : State) (key : Nat) (f : Obj → Obj) : (s.obj' key f).ev.intakeFits = s.ev.intakeFits := rfl
@[simp] theorem State.shipAppend_intakeFits (s : State) (head ord tick domain : Nat) (items : List ShipItem) (chunks : List Nat) :
    (s.shipAppend head ord tick domain items chunks).ev.intakeFits = s.ev.intakeFits := by simp [State.shipAppend]
@[simp] theorem State.shipTrim_intakeFits (s : State) (g seq : Nat) : (s.shipTrim g seq).ev.intakeFits = s.ev.intakeFits := by
  unfold State.shipTrim
  split <;> simp
@[simp] theorem State.dropBase_intakeFits (s : State) (g : Nat) : (s.dropBase g).ev.intakeFits = s.ev.intakeFits := by
  unfold State.dropBase
  split <;> simp
@[simp] theorem State.addNs_intakeFits (s : State) (domain nsid size : Nat) (mode : Discard) :
    (s.addNs domain nsid size mode).ev.intakeFits = s.ev.intakeFits := by simp [State.addNs]
@[simp] theorem State.resizeNs_intakeFits (s : State) (nsid size : Nat) : (s.resizeNs nsid size).ev.intakeFits = s.ev.intakeFits := by
  unfold State.resizeNs
  split <;> simp
@[simp] theorem State.dropObjs_intakeFits (s : State) (d : Nat) : (s.dropObjs d).ev.intakeFits = s.ev.intakeFits := by simp [State.dropObjs]
@[simp] theorem State.dropDomain_intakeFits (s : State) (d : Nat) : (s.dropDomain d).ev.intakeFits = s.ev.intakeFits := by
  simp [State.dropDomain]
@[simp] theorem State.addDomain_intakeFits (s : State) (d : Nat) (side : Side) (horizon : Nat) (replica : Bool) :
    (s.addDomain d side horizon replica).ev.intakeFits = s.ev.intakeFits := by simp [State.addDomain]
@[simp] theorem State.unlive_intakeFits (s : State) (c : Chunk) : (s.unlive c).ev.intakeFits = s.ev.intakeFits := by simp [State.unlive]
@[simp] theorem State.placeChunk_intakeFits (s : State) (id domain tick : Nat) (new : Place) (len hive : Nat) (old : Place) :
    (s.placeChunk id domain tick new len hive old).ev.intakeFits = s.ev.intakeFits := by
  simp only [State.placeChunk]
  split <;> simp
@[simp] theorem State.objectCreate_intakeFits (s : State) (d key top len tick : Nat) (token digest : Bytes) (multi : Bool) :
    (s.objectCreate d key top len tick token digest multi).ev.intakeFits = s.ev.intakeFits := by simp [State.objectCreate]
@[simp] theorem State.nsZeros_intakeFits (s : State) (nsid n n' : Nat) : (s.nsZeros nsid n n').ev.intakeFits = s.ev.intakeFits := by
  fun_induction State.nsZeros s nsid n n' <;> simp [*]
@[simp] theorem State.blockState_intakeFits (s : State) (link die block : Nat) (st : BlockState) (qlc : Bool) (use : BlockUse)
    (pe grown : Nat) : (s.blockState link die block st qlc use pe grown).ev.intakeFits = s.ev.intakeFits := by simp [State.blockState]
@[simp] theorem State.mapItem_intakeFits (s : State) (sd : Side) (tick : Nat) (n : MapItem) :
    (s.mapItem sd tick n).ev.intakeFits = s.ev.intakeFits := by
  unfold State.mapItem
  (repeat' split) <;> simp
@[simp] theorem State.shipItem_intakeFits (s : State) (tick : Nat) (tops : List (Bytes × List Nat)) (n : ShipItem) :
    (s.shipItem tick tops n).ev.intakeFits = s.ev.intakeFits := by
  unfold State.shipItem
  (repeat' split) <;> simp
@[simp] theorem State.switchBase_intakeFits (s : State) (r : Replica) (seq ord src tick : Nat) :
    (s.switchBase r seq ord src tick).ev.intakeFits = s.ev.intakeFits := by
  simp only [State.switchBase]
  (repeat' split) <;> simp (disch := (simp only [keepsIntake_iff]; intros; (repeat' split) <;> simp))
@[simp] theorem State.applySetting_intakeFits (s : State) (i : Item) : (s.applySetting i).ev.intakeFits = s.ev.intakeFits := by
  simp [State.applySetting]
@[simp] theorem State.shipSettings_intakeFits (s : State) (head ord tick : Nat) (items : List Item) :
    (s.shipSettings head ord tick items).ev.intakeFits = s.ev.intakeFits := by simp [State.shipSettings]
@[simp] theorem State.reseal_intakeFits (s : State) : s.reseal.ev.intakeFits = s.ev.intakeFits := rfl
@[simp] theorem State.takeApiary_intakeFits (s : State) (a : Nat) : (s.takeApiary a).ev.intakeFits = s.ev.intakeFits := by
  simp [State.takeApiary]
@[simp] theorem State.applyCtl_intakeFits (s : State) (sd : Side) (ord tick : Nat) (n : CtlChange) :
    (s.applyCtl sd ord tick n).ev.intakeFits = s.ev.intakeFits := by
  unfold State.applyCtl
  (repeat' split) <;> simp
@[simp] theorem State.applyKey_intakeFits (s : State) (ord tick : Nat) (sd : Side) (kind : KeyChangeKind) (cls domain dgen : Nat)
    (body : Option DomainKeys) (ckey : Bytes) :
    (s.applyKey ord tick sd kind cls domain dgen body ckey).ev.intakeFits = s.ev.intakeFits := by
  simp only [State.applyKey]
  (repeat' split) <;> simp
@[simp] theorem State.applyPut_intakeFits (s : State) (sd : Side) (ord tick : Nat) (d : PutDesc) :
    (s.applyPut sd ord tick d).ev.intakeFits = s.ev.intakeFits := by
  simp only [State.applyPut]
  (repeat' split) <;> simp
@[simp] theorem State.enterChunk_intakeFits (s : State) (ord hive : Nat) (e : EnvEntry) :
    (s.enterChunk ord hive e).ev.intakeFits = s.ev.intakeFits := by
  simp [State.enterChunk]
@[simp] theorem State.addStripe_intakeFits (s : State) (sd : Side) (ord hive : Nat) (region : Region) (purpose : Purpose) (ms : List Member)
    (used epoch live openTick commitOrd tick : Nat) (envs : List EnvEntry) :
    (s.addStripe sd ord hive region purpose ms used epoch live openTick commitOrd tick envs).ev.intakeFits = s.ev.intakeFits := by
  simp [State.addStripe]
@[simp] theorem State.applyStripe_intakeFits (s : State) (sd : Side) (rec tick ord hive : Nat) (region : Region) (purpose : Purpose)
    (ms : List Member) (used epoch : Nat) (envs : List EnvEntry) (openTick : Nat) :
    (s.applyStripe sd rec tick ord hive region purpose ms used epoch envs openTick).ev.intakeFits = s.ev.intakeFits := by
  simp only [State.applyStripe]
  (repeat' split) <;> simp (disch := (simp only [keepsIntake_iff]; intros; (repeat' split) <;> simp))
@[simp] theorem State.giveUnits_intakeFits (s : State) (units : List OwnUnit) (sd : Side) :
    (s.giveUnits units sd).ev.intakeFits = s.ev.intakeFits := by
  unfold State.giveUnits
  refine foldl_intakeFits_of (fun _ _ => ?_) _ _
  (repeat' split) <;> simp
@[simp] theorem State.endFrame_intakeFits (s : State) (id status : Nat) : (s.endFrame id status).ev.intakeFits = s.ev.intakeFits := rfl
@[simp] theorem State.notePeer_intakeFits (s : State) (items : List Item) : (s.notePeer items).ev.intakeFits = s.ev.intakeFits := by
  simp [State.notePeer]
@[simp] theorem State.peerSchedules_intakeFits (s : State) (f : Frame) : (s.peerSchedules f).ev.intakeFits = s.ev.intakeFits := rfl
@[simp] theorem State.peerFrameEnds_intakeFits (s : State) (head ord tick id status : Nat) :
    (s.peerFrameEnds head ord tick id status).ev.intakeFits = s.ev.intakeFits := by simp [State.peerFrameEnds]
@[simp] theorem State.endReleased_intakeFits (s : State) (chunk : Nat) (delta : Int) :
    (s.endReleased chunk delta).ev.intakeFits = s.ev.intakeFits := by
  unfold State.endReleased
  split <;> simp
@[simp] theorem State.shipMap_intakeFits (s : State) (sd : Side) (ord tick domain : Nat) (items : List MapItem) :
    (s.shipMap sd ord tick domain items).ev.intakeFits = s.ev.intakeFits := by simp [State.shipMap]
@[simp] theorem State.applyBody_intakeFits (s : State) (sd : Side) (ord tick domain : Nat) (continued : Bool) (n : RecBody) :
    (s.applyBody sd ord tick domain continued n).ev.intakeFits = s.ev.intakeFits := by
  unfold State.applyBody
  (repeat' split) <;> simp

/-! ## The operations of Machine/BootOps -/

@[simp] theorem State.ledgerRec_intakeFits (s : State) (kind step outcome attempt failCode dur : Nat) (detail : Bytes) :
    (s.ledgerRec kind step outcome attempt failCode dur detail).ev.intakeFits = s.ev.intakeFits := rfl
@[simp] theorem State.bankSelect_intakeFits (s : State) (bank state fallback version tick : Nat) :
    (s.bankSelect bank state fallback version tick).ev.intakeFits = s.ev.intakeFits := rfl
@[simp] theorem State.extend_intakeFits (s : State) (tally step source index : Nat) (obj : Bytes) :
    (s.extend tally step source index obj).ev.intakeFits = s.ev.intakeFits := rfl
@[simp] theorem State.silence_intakeFits (s : State) : s.silence.ev.intakeFits = s.ev.intakeFits := rfl
/-- A reset leaves the intake empty (R39). -/
@[simp] theorem State.resetDevice_fits (s : State) (cause : Nat) : (s.resetDevice cause).ev.intakeFits = true := rfl
@[simp] theorem State.resetNow_fits (s : State) (cause : Nat) : (s.resetNow cause).ev.intakeFits = true := rfl
@[simp] theorem State.fatalStop_intakeFits (s : State) (code : Nat) (detail : Bytes) :
    (s.fatalStop code detail).ev.intakeFits = s.ev.intakeFits := by
  simp [State.fatalStop]

/-! ## The operations of Machine/NvOps -/

@[simp] theorem State.cqe_intakeFits (s : State) (ctrl qid cid sct sc : Nat) (dnr : Bool) (dw0 : BitVec 32) (data : Bytes) :
    (s.cqe ctrl qid cid sct sc dnr dw0 data).ev.intakeFits = s.ev.intakeFits := by simp [State.cqe]
@[simp] theorem State.dropCmd_intakeFits (s : State) (ctrl qid cid : Nat) : (s.dropCmd ctrl qid cid).ev.intakeFits = s.ev.intakeFits := rfl
@[simp] theorem State.stream'_intakeFits (s : State) (key id : Nat) (f : OStream → OStream) :
    (s.stream' key id f).ev.intakeFits = s.ev.intakeFits := rfl
@[simp] theorem State.drainStream_intakeFits (s : State) (key id n : Nat) : (s.drainStream key id n).ev.intakeFits = s.ev.intakeFits := by
  fun_induction State.drainStream s key id n <;> simp [*]
@[simp] theorem State.endCmd_intakeFits (s : State) (ctrl qid cid dw0 : Nat) :
    (s.endCmd ctrl qid cid dw0).ev.intakeFits = s.ev.intakeFits := by
  unfold State.endCmd
  (repeat' split) <;> simp
@[simp] theorem State.failCmd_intakeFits (s : State) (ctrl qid cid sct sc : Nat) (dnr : Bool) :
    (s.failCmd ctrl qid cid sct sc dnr).ev.intakeFits = s.ev.intakeFits := by simp [State.failCmd]
@[simp] theorem State.ctrl'_intakeFits (s : State) (id : Nat) (f : Ctrl → Ctrl) : (s.ctrl' id f).ev.intakeFits = s.ev.intakeFits := rfl
@[simp] theorem State.aerOne_intakeFits (s : State) (id n : Nat) : (s.aerOne id n).ev.intakeFits = s.ev.intakeFits := by
  fun_induction State.aerOne s id n <;> simp [*]
@[simp] theorem State.aerPump_intakeFits (s : State) : s.aerPump.ev.intakeFits = s.ev.intakeFits := by simp [State.aerPump]
@[simp] theorem State.aerDomain_intakeFits (s : State) (domain : Nat) (f : Aer → Aer) :
    (s.aerDomain domain f).ev.intakeFits = s.ev.intakeFits := rfl
@[simp] theorem State.raiseNs_intakeFits (s : State) (domain nsid : Nat) : (s.raiseNs domain nsid).ev.intakeFits = s.ev.intakeFits := by
  simp [State.raiseNs]
@[simp] theorem State.raiseAna_intakeFits (s : State) (domain : Nat) : (s.raiseAna domain).ev.intakeFits = s.ev.intakeFits := by
  simp [State.raiseAna]
@[simp] theorem State.raiseSmart_intakeFits (s : State) (domain : Nat) : (s.raiseSmart domain).ev.intakeFits = s.ev.intakeFits := by
  simp [State.raiseSmart]

/-! ## The operations of Machine/Accept -/

@[simp] theorem State.judgeFlash_intakeFits (s : State) : s.judgeFlash.ev.intakeFits = s.ev.intakeFits := rfl
@[simp] theorem State.releaseDone_intakeFits (s : State) (ords : List Nat) : (s.releaseDone ords).ev.intakeFits = s.ev.intakeFits := by
  simp [State.releaseDone]
@[simp] theorem State.addPending_intakeFits (s : State) (items : List (Nat × MapItem)) :
    (s.addPending items).ev.intakeFits = s.ev.intakeFits := rfl
@[simp] theorem State.flushMap_intakeFits (s : State) : s.flushMap.ev.intakeFits = s.ev.intakeFits := by simp [State.flushMap]
@[simp] theorem State.judgeJournal_intakeFits (s : State) : s.judgeJournal.ev.intakeFits = s.ev.intakeFits := rfl
@[simp] theorem State.frame'_intakeFits (s : State) (id : Nat) (peer : Bool) (f : Frame → Frame) :
    (s.frame' id peer f).ev.intakeFits = s.ev.intakeFits := rfl
@[simp] theorem State.frameScheduled_intakeFits (s : State) (id ord : Nat) : (s.frameScheduled id ord).ev.intakeFits = s.ev.intakeFits := by
  unfold State.frameScheduled
  (repeat' split) <;> simp
@[simp] theorem State.confirmBank_intakeFits (s : State) : s.confirmBank.ev.intakeFits = s.ev.intakeFits := by simp [State.confirmBank]
@[simp] theorem State.anaUnits_intakeFits (s : State) (us : List OwnUnit) : (s.anaUnits us).ev.intakeFits = s.ev.intakeFits := by
  unfold State.anaUnits
  refine foldl_intakeFits_of (fun _ _ => ?_) _ _
  (repeat' split) <;> simp
@[simp] theorem State.takeoverEnds_intakeFits (s : State) : s.takeoverEnds.ev.intakeFits = s.ev.intakeFits := by simp [State.takeoverEnds]
@[simp] theorem State.followOne_fits {s : State} (h : s.ev.intakeFits = true) (n : After) : (s.followOne n).ev.intakeFits = true := by
  unfold State.followOne
  split <;> simp [h]
@[simp] theorem State.landed_intakeFits (s : State) (ord rec : Nat) : (s.landed ord rec).ev.intakeFits = s.ev.intakeFits := by
  simp [State.landed]
@[simp] theorem State.charge_intakeFits (s : State) (n : Nat) : (s.charge n).ev.intakeFits = s.ev.intakeFits := rfl
@[simp] theorem State.releaseIf_intakeFits (s : State) (moves : Bool) (ords : List Nat) :
    (s.releaseIf moves ords).ev.intakeFits = s.ev.intakeFits := by
  simp [State.releaseIf]
@[simp] theorem State.releaseEmpty_intakeFits (s : State) (ords : List Nat) : (s.releaseEmpty ords).ev.intakeFits = s.ev.intakeFits := by
  simp [State.releaseEmpty]
@[simp] theorem State.dirtySet_intakeFits (s : State) (b : BlockSet) : (s.dirtySet b).ev.intakeFits = s.ev.intakeFits := by
  simp [State.dirtySet]
@[simp] theorem State.dirtySets_intakeFits (s : State) : s.dirtySets.ev.intakeFits = s.ev.intakeFits := by simp [State.dirtySets]
@[simp] theorem State.askRepair_intakeFits (s : State) (e : EnvEntry) : (s.askRepair e).ev.intakeFits = s.ev.intakeFits := by
  unfold State.askRepair
  split <;> simp
@[simp] theorem State.promote_intakeFits (s : State) (rec : Nat) : (s.promote rec).ev.intakeFits = s.ev.intakeFits := by
  unfold State.promote
  split <;> simp
@[simp] theorem State.replaced_intakeFits (s : State) (link : Nat) : (s.replaced link).ev.intakeFits = s.ev.intakeFits := by
  unfold State.replaced
  split <;> simp
@[simp] theorem State.follow_fits {s : State} (h : s.ev.intakeFits = true) (r : WaxRec) : (s.follow r).ev.intakeFits = true := by
  unfold State.follow
  refine foldl_fits (fun t n ht => State.followOne_fits ht n) _ (Eq.trans ?_ h)
  (repeat' split) <;> simp (disch := (simp only [keepsIntake_iff]; intros; (repeat' split) <;> simp))
@[simp] theorem State.acceptRec_fits {s : State} (h : s.ev.intakeFits = true) (r : WaxRec) :
    (s.acceptRec r).ev.intakeFits = true := by simp [State.acceptRec, h]
@[simp] theorem State.acceptAux_fits {s : State} (h : s.ev.intakeFits = true) (n : Nat) : (s.acceptAux n).ev.intakeFits = true := by
  induction n generalizing s with
  | zero => exact h
  | succ n ih =>
    have hrun (rs : List WaxRec) := foldl_fits (fun t r ht => State.acceptRec_fits ht r) rs h
    unfold State.acceptAux
    (repeat' split) <;> simp [ih, hrun, h]
@[simp] theorem State.accept_fits {s : State} (h : s.ev.intakeFits = true) : s.accept.ev.intakeFits = true := by simp [State.accept, h]

/-! ## The operations of Machine/LinkOps -/

@[simp] theorem State.lane_intakeFits (s : State) (link : Nat) (toHead : Bool) (port : Side) (f : LFrame) :
    (s.lane link toHead port f).ev.intakeFits = s.ev.intakeFits := rfl
@[simp] theorem State.resendFrames_intakeFits (s : State) (link : Nat) (fs : List LFrame) :
    (s.resendFrames link fs).ev.intakeFits = s.ev.intakeFits := by
  simp [State.resendFrames]
@[simp] theorem State.fromHead_intakeFits (s : State) (link : Nat) (f : LFrame) : (s.fromHead link f).ev.intakeFits = s.ev.intakeFits := by
  unfold State.fromHead
  split <;> simp
@[simp] theorem State.headPump_intakeFits (s : State) (link : Nat) : (s.headPump link).ev.intakeFits = s.ev.intakeFits := by
  unfold State.headPump
  split <;> simp
@[simp] theorem State.sendRegRead_intakeFits (s : State) (link first count : Nat) :
    (s.sendRegRead link first count).ev.intakeFits = s.ev.intakeFits := by
  simp [State.sendRegRead]
@[simp] theorem State.sendTask_intakeFits (s : State) (link : Nat) (op : TaskOp) (die block page : Nat) (arg : BitVec 32) (use : TaskUse)
    (data spares : List Bytes) : (s.sendTask link op die block page arg use data spares).ev.intakeFits = s.ev.intakeFits := by
  unfold State.sendTask
  split <;> simp

/-! ## The operations of Machine/BridgeOps -/

@[simp] theorem State.die'_intakeFits (s : State) (link die : Nat) (f : Die → Die) :
    (s.die' link die f).ev.intakeFits = s.ev.intakeFits := rfl
@[simp] theorem State.toHead_intakeFits (s : State) (link : Nat) (port : Side) (f : LFrame) :
    (s.toHead link port f).ev.intakeFits = s.ev.intakeFits := by
  unfold State.toHead
  split <;> simp
@[simp] theorem State.bridgePump_intakeFits (s : State) (link : Nat) (port : Side) :
    (s.bridgePump link port).ev.intakeFits = s.ev.intakeFits := by
  unfold State.bridgePump
  split <;> simp
@[simp] theorem State.bridgeDone_intakeFits (s : State) (link : Nat) (port : Side) (h : TaskHdr) (w : StatusWord) :
    (s.bridgeDone link port h w).ev.intakeFits = s.ev.intakeFits := by simp [State.bridgeDone]
@[simp] theorem State.bridgeAck_intakeFits (s : State) (link : Nat) (port : Side) :
    (s.bridgeAck link port).ev.intakeFits = s.ev.intakeFits := by
  unfold State.bridgeAck
  split <;> simp
@[simp] theorem State.bridgeNak_intakeFits (s : State) (link : Nat) (port : Side) :
    (s.bridgeNak link port).ev.intakeFits = s.ev.intakeFits := by
  unfold State.bridgeNak
  split <;> simp
@[simp] theorem State.bridgeTook_intakeFits (s : State) (link : Nat) (port : Side) :
    (s.bridgeTook link port).ev.intakeFits = s.ev.intakeFits := by
  simp [State.bridgeTook]
@[simp] theorem State.bridgeResend_intakeFits (s : State) (link : Nat) (port : Side) (from_ : BitVec 12) :
    (s.bridgeResend link port from_).ev.intakeFits = s.ev.intakeFits := by
  unfold State.bridgeResend
  split <;> simp
@[simp] theorem State.cutProgram_intakeFits (s : State) (link : Nat) (port : Side) (h : TaskHdr) :
    (s.cutProgram link port h).ev.intakeFits = s.ev.intakeFits := by
  unfold State.cutProgram
  (repeat' split) <;> simp
@[simp] theorem State.eraseGoesOn_intakeFits (s : State) (link : Nat) (r : SuspErase) :
    (s.eraseGoesOn link r).ev.intakeFits = s.ev.intakeFits := by
  simp [State.eraseGoesOn]
@[simp] theorem State.dieAccepts_intakeFits (s : State) (link : Nat) (port : Side) (h : TaskHdr) :
    (s.dieAccepts link port h).ev.intakeFits = s.ev.intakeFits := by
  unfold State.dieAccepts
  (repeat' split) <;> simp
@[simp] theorem State.dieRefuses_intakeFits (s : State) (link : Nat) (port : Side) (h : TaskHdr) (w : StatusWord) :
    (s.dieRefuses link port h w).ev.intakeFits = s.ev.intakeFits := by simp [State.dieRefuses]
@[simp] theorem State.dieTask_intakeFits (s : State) (link : Nat) (port : Side) (h : TaskHdr) :
    (s.dieTask link port h).ev.intakeFits = s.ev.intakeFits := by
  simp only [State.dieTask]
  (repeat' split) <;> simp
@[simp] theorem State.fenceTask_intakeFits (s : State) (link : Nat) (port : Side) (h : TaskHdr) (wins : Bridge → Bool) (epoch : Nat) :
    (s.fenceTask link port h wins epoch).ev.intakeFits = s.ev.intakeFits := by
  unfold State.fenceTask
  split <;> simp
@[simp] theorem State.badTask_intakeFits (s : State) (link : Nat) (port : Side) (f : LFrame) :
    (s.badTask link port f).ev.intakeFits = s.ev.intakeFits := by
  simp only [State.badTask]
  split <;> simp
@[simp] theorem State.sendPage_intakeFits (s : State) (link : Nat) (port : Side) (h : TaskHdr) (plane : Nat) (p : Option NandPage)
    (w : StatusWord) : (s.sendPage link port h plane p w).ev.intakeFits = s.ev.intakeFits := by
  unfold State.sendPage
  split <;> simp
@[simp] theorem State.endRead_intakeFits (s : State) (link : Nat) (b : Bridge) (d : Die) (e : DieExec) (good : Bool) :
    (s.endRead link b d e good).ev.intakeFits = s.ev.intakeFits := by simp [State.endRead]
@[simp] theorem State.endProgram_intakeFits (s : State) (link : Nat) (d : Die) (e : DieExec) (good : Bool) :
    (s.endProgram link d e good).ev.intakeFits = s.ev.intakeFits := by simp [State.endProgram]
@[simp] theorem State.endErase_intakeFits (s : State) (link : Nat) (d : Die) (e : DieExec) (good : Bool) :
    (s.endErase link d e good).ev.intakeFits = s.ev.intakeFits := by simp [State.endErase]
@[simp] theorem State.bridgeData_intakeFits (s : State) (link : Nat) (port : Side) (f : LFrame) :
    (s.bridgeData link port f).ev.intakeFits = s.ev.intakeFits := by simp [State.bridgeData]
@[simp] theorem State.bridgeHears_intakeFits (s : State) (link : Nat) (port : Side) (f : LFrame) (act : State → State)
    (hact : KeepsIntake act) : (s.bridgeHears link port f act).ev.intakeFits = s.ev.intakeFits := by
  unfold State.bridgeHears
  (repeat' split) <;> simp [hact.intakeFits]
@[simp] theorem State.bridgeFrame_intakeFits (s : State) (link : Nat) (port : Side) (f : LFrame) (act : State → State)
    (hact : KeepsIntake act) :
    (s.bridgeFrame link port f act).ev.intakeFits = s.ev.intakeFits := by
  refine State.bridgeHears_intakeFits _ _ _ _ _ fun t => ?_
  split
  · rfl
  · simp [hact.intakeFits]
@[simp] theorem State.taskFrame_intakeFits (s : State) (link : Nat) (port : Side) (f : LFrame) (op : TaskOp) :
    (s.taskFrame link port f op).ev.intakeFits = s.ev.intakeFits := by simp [State.taskFrame]

/-! ## The operations of Machine/Bridge -/

@[simp] theorem execTaskRead_intakeKept (link : Nat) (port : Side) (f : LFrame) (s : State) :
    IntakeKept (execTaskRead link port f s) s.ev.intakeFits := by simp [execTaskRead]
@[simp] theorem execTaskSeqRead_intakeKept (link : Nat) (port : Side) (f : LFrame) (s : State) :
    IntakeKept (execTaskSeqRead link port f s) s.ev.intakeFits := by simp [execTaskSeqRead]
@[simp] theorem execTaskProgramSlc_intakeKept (link : Nat) (port : Side) (f : LFrame) (s : State) :
    IntakeKept (execTaskProgramSlc link port f s) s.ev.intakeFits := by simp [execTaskProgramSlc]
@[simp] theorem execTaskProgramQlc_intakeKept (link : Nat) (port : Side) (f : LFrame) (s : State) :
    IntakeKept (execTaskProgramQlc link port f s) s.ev.intakeFits := by simp [execTaskProgramQlc]
@[simp] theorem execTaskErase_intakeKept (link : Nat) (port : Side) (f : LFrame) (s : State) :
    IntakeKept (execTaskErase link port f s) s.ev.intakeFits := by simp [execTaskErase]
@[simp] theorem execEraseSuspend_intakeKept (link : Nat) (port : Side) (f : LFrame) (s : State) :
    IntakeKept (execEraseSuspend link port f s) s.ev.intakeFits := by simp [execEraseSuspend]
@[simp] theorem execEraseResume_intakeKept (link : Nat) (port : Side) (f : LFrame) (s : State) :
    IntakeKept (execEraseResume link port f s) s.ev.intakeFits := by simp [execEraseResume]
@[simp] theorem execEraseAutoResume_intakeKept (link die : Nat) (s : State) :
    IntakeKept (execEraseAutoResume link die s) s.ev.intakeFits := by
  unfold execEraseAutoResume
  (repeat' split) <;> simp
@[simp] theorem execFenceRaise_intakeKept (link : Nat) (port : Side) (f : LFrame) (s : State) :
    IntakeKept (execFenceRaise link port f s) s.ev.intakeFits := by simp [execFenceRaise]
@[simp] theorem execFenceAdopt_intakeKept (link : Nat) (port : Side) (f : LFrame) (s : State) :
    IntakeKept (execFenceAdopt link port f s) s.ev.intakeFits := by simp [execFenceAdopt]
@[simp] theorem execDieTaskDone_intakeKept (link die : Nat) (good : Bool) (s : State) :
    IntakeKept (execDieTaskDone link die good s) s.ev.intakeFits := by
  unfold execDieTaskDone
  (repeat' split) <;> simp
@[simp] theorem execFavouredPortExpiry_intakeKept (link die : Nat) (s : State) :
    IntakeKept (execFavouredPortExpiry link die s) s.ev.intakeFits := by simp [execFavouredPortExpiry]
@[simp] theorem execRegRead_intakeKept (link : Nat) (port : Side) (f : LFrame) (count : Nat) (s : State) :
    IntakeKept (execRegRead link port f count s) s.ev.intakeFits := by
  simp only [execRegRead]
  (repeat' split) <;> simp (disch := (simp only [keepsIntake_iff]; intros; (repeat' split) <;> simp))

/-! ## The operations of Machine/StripeOps -/

@[simp] theorem State.allocStripe_intakeFits (s : State) : s.allocStripe.1.ev.intakeFits = s.ev.intakeFits := by simp [State.allocStripe]
@[simp] theorem State.noteProg_intakeFits (s : State) (link die : Nat) : (s.noteProg link die).ev.intakeFits = s.ev.intakeFits := rfl
@[simp] theorem State.setBlock_intakeFits (s : State) (link die block : Nat) (st : BlockState) (qlc : Bool) (use : BlockUse) :
    (s.setBlock link die block st qlc use).ev.intakeFits = s.ev.intakeFits := by simp [State.setBlock]
@[simp] theorem State.takeOn_intakeFits (s : State) (l : Link) (die : Nat) (use : BlockUse) (qlc : Bool) (need : Nat) :
    (s.takeOn l die use qlc need).1.ev.intakeFits = s.ev.intakeFits := by
  delta State.takeOn
  extract_lets old t pick
  have hpick : pick.1.ev.intakeFits = s.ev.intakeFits := by
    have ht : t.ev.intakeFits = s.ev.intakeFits := by
      unfold t
      clear_value old
      split <;> simp
    unfold pick
    clear_value old t
    (repeat' split) <;> simp [ht]
  clear_value pick
  obtain ⟨u, _ | blk⟩ := pick
  · exact hpick
  · simpa using hpick
@[simp] theorem State.takeFirst_intakeFits (s : State) (l : Link) (use : BlockUse) (qlc : Bool) (need : Nat) (ds : List Nat) :
    (s.takeFirst l use qlc need ds).1.ev.intakeFits = s.ev.intakeFits := by
  induction ds generalizing s with
  | nil => rfl
  | cons d ds ih =>
    unfold State.takeFirst
    split
    · exact intakeFits_of_eq ‹_› (State.takeOn_intakeFits ..)
    · exact ih s
@[simp] theorem State.takeUnit_intakeFits (s : State) (link : Nat) (use : BlockUse) (qlc : Bool) (need : Nat) :
    (s.takeUnit link use qlc need).1.ev.intakeFits = s.ev.intakeFits := by
  unfold State.takeUnit
  split <;> simp
@[simp] theorem State.takeAll_intakeFits (s : State) (use : BlockUse) (qlc : Bool) (need : Nat) (ls : List Nat) (acc : List Member) :
    (s.takeAll use qlc need ls acc).1.ev.intakeFits = s.ev.intakeFits := by
  induction ls generalizing s acc with
  | nil => rfl
  | cons l ls ih =>
    unfold State.takeAll
    split
    · rw [ih]; exact intakeFits_of_eq ‹_› (State.takeUnit_intakeFits ..)
    · exact intakeFits_of_eq ‹_› (State.takeUnit_intakeFits ..)
@[simp] theorem State.openStripeBut_intakeFits (s : State) (hive lane : Nat) (region : Region) (purpose : Purpose) (avoid : Option Nat) :
    (s.openStripeBut hive lane region purpose avoid).1.ev.intakeFits = s.ev.intakeFits := by
  delta State.openStripeBut
  extract_lets combs avoid n u
  have hu : u.ev.intakeFits = s.ev.intakeFits := by
    unfold u
    clear_value avoid n
    split <;> simp
  clear_value u
  split
  · simp
  split
  · rfl
  split
  · exact intakeFits_of_eq ‹_› (by simp [hu])
  have hord := intakeFits_of_eq ‹u.allocStripe = _› (State.allocStripe_intakeFits u)
  split
  · exact intakeFits_of_eq ‹_› (by simp [hord, hu])
  · have hms := intakeFits_of_eq ‹State.takeAll .. = _› (State.takeAll_intakeFits ..)
    simp [hms, hord, hu]
@[simp] theorem State.openStripe_intakeFits (s : State) (hive lane : Nat) (region : Region) (purpose : Purpose) :
    (s.openStripe hive lane region purpose).1.ev.intakeFits = s.ev.intakeFits := by simp [State.openStripe]
@[simp] theorem State.open'_intakeFits (s : State) (ord : Nat) (f : OpenStripe → OpenStripe) :
    (s.open' ord f).ev.intakeFits = s.ev.intakeFits := rfl
@[simp] theorem State.placeEnv_intakeFits (s : State) (ord : Nat) (e : EnvEntry) (recs : List Nat) (old : Option Place) (bytes : Bytes) :
    (s.placeEnv ord e recs old bytes).ev.intakeFits = s.ev.intakeFits := by simp [State.placeEnv]
@[simp] theorem State.unitSent_intakeFits (s : State) (r : Region) (m : Member) (n : Nat) :
    (s.unitSent r m n).ev.intakeFits = s.ev.intakeFits := rfl
@[simp] theorem State.replaceUnit_intakeFits (s : State) (t : OpenStripe) (m : Nat) :
    (s.replaceUnit t m).1.ev.intakeFits = s.ev.intakeFits := by
  simp only [State.replaceUnit]
  repeat' split
  any_goals simp
  all_goals exact intakeFits_of_eq ‹_› (by simp)
@[simp] theorem State.sendProgram_intakeFits (s : State) (t : OpenStripe) (m part : Nat) :
    (s.sendProgram t m part).ev.intakeFits = s.ev.intakeFits := by
  unfold State.sendProgram
  (repeat' split) <;> simp
@[simp] theorem State.issuePrograms_intakeFits (s : State) (ord : Nat) : (s.issuePrograms ord).ev.intakeFits = s.ev.intakeFits := by
  unfold State.issuePrograms
  split
  · rfl
  split
  · refine foldl_intakeFits_of (fun _ _ => ?_) _ _
    repeat' split
    any_goals simp
    all_goals exact intakeFits_of_eq ‹_› (State.replaceUnit_intakeFits ..)
  · rfl
@[simp] theorem State.issueAll_intakeFits (s : State) : s.issueAll.ev.intakeFits = s.ev.intakeFits := by simp [State.issueAll]
@[simp] theorem State.closeStripe_intakeFits (s : State) (ord : Nat) : (s.closeStripe ord).ev.intakeFits = s.ev.intakeFits := by
  unfold State.closeStripe
  split <;> simp
@[simp] theorem State.abandonStripe_intakeFits (s : State) (ord : Nat) (link : Option Nat) :
    (s.abandonStripe ord link).ev.intakeFits = s.ev.intakeFits := by
  unfold State.abandonStripe
  split <;> simp
@[simp] theorem State.hiveLost_intakeFits (s : State) (h : Nat) : (s.hiveLost h).ev.intakeFits = s.ev.intakeFits := by simp [State.hiveLost]
@[simp] theorem State.startRebuild_intakeFits (s : State) (h link : Nat) : (s.startRebuild h link).ev.intakeFits = s.ev.intakeFits := by
  simp only [State.startRebuild]
  (repeat' split) <;> simp
@[simp] theorem State.markFailed_intakeFits (s : State) (link : Nat) : (s.markFailed link).ev.intakeFits = s.ev.intakeFits := by
  unfold State.markFailed
  split <;> simp
@[simp] theorem State.grownFault_intakeFits (s : State) (link die block : Nat) :
    (s.grownFault link die block).ev.intakeFits = s.ev.intakeFits := by
  unfold State.grownFault
  split <;> simp
@[simp] theorem State.failDie_intakeFits (s : State) (link die : Nat) : (s.failDie link die).ev.intakeFits = s.ev.intakeFits := by
  simp only [State.failDie]
  (repeat' split) <;> simp (disch := (simp only [keepsIntake_iff]; intros; (repeat' split) <;> simp))
@[simp] theorem State.retireSet_intakeFits (s : State) (link die block : Nat) :
    (s.retireSet link die block).ev.intakeFits = s.ev.intakeFits := by
  unfold State.retireSet
  split <;> simp
@[simp] theorem State.scheduleRewrite_intakeFits (s : State) (ord : Nat) : (s.scheduleRewrite ord).ev.intakeFits = s.ev.intakeFits := rfl
@[simp] theorem State.leaveToRewrite_intakeFits (s : State) (ord : Nat) : (s.leaveToRewrite ord).ev.intakeFits = s.ev.intakeFits := rfl

/-! ## The operations of Machine/HiveOps -/

@[simp] theorem State.askToken_intakeFits (s : State) (h prio : Nat) : (s.askToken h prio).ev.intakeFits = s.ev.intakeFits := rfl
@[simp] theorem State.decideDark_intakeFits (s : State) (h : Nat) : (s.decideDark h).ev.intakeFits = s.ev.intakeFits := rfl
@[simp] theorem State.wantUp_intakeFits (s : State) (h : Nat) : (s.wantUp h).ev.intakeFits = s.ev.intakeFits := rfl
@[simp] theorem State.wakeWithin_intakeFits (s : State) (h prio budget : Nat) (awake : List Hive) :
    (s.wakeWithin h prio budget awake).ev.intakeFits = s.ev.intakeFits := by
  unfold State.wakeWithin
  (repeat' split) <;> simp
@[simp] theorem State.askWake_intakeFits (s : State) (h prio : Nat) : (s.askWake h prio).ev.intakeFits = s.ev.intakeFits := by
  unfold State.askWake
  split <;> simp
@[simp] theorem State.askWaiting_intakeFits (s : State) : s.askWaiting.ev.intakeFits = s.ev.intakeFits := by
  unfold State.askWaiting
  refine foldl_intakeFits_of (fun _ _ => ?_) _ _
  (repeat' split) <;> simp
@[simp] theorem State.judgeGather_intakeFits (s : State) (h : Nat) : (s.judgeGather h).ev.intakeFits = s.ev.intakeFits := by
  unfold State.judgeGather
  split <;> simp
@[simp] theorem State.joinGather_intakeFits (s : State) (h : Nat) (e : GatherEntry) :
    (s.joinGather h e).ev.intakeFits = s.ev.intakeFits := by
  simp [State.joinGather]
@[simp] theorem State.keepGather_intakeFits (s : State) (p : GatherEntry → Bool) : (s.keepGather p).ev.intakeFits = s.ev.intakeFits := rfl
@[simp] theorem State.leaveGather_intakeFits (s : State) (ctrl qid cid : Nat) :
    (s.leaveGather ctrl qid cid).ev.intakeFits = s.ev.intakeFits := rfl
@[simp] theorem State.hiveReady_intakeFits (s : State) (h : Nat) : (s.hiveReady h).ev.intakeFits = s.ev.intakeFits := by
  unfold State.hiveReady
  split <;> simp
@[simp] theorem State.dormancyReply_intakeFits (s : State) (h : Hive) : (s.dormancyReply h).ev.intakeFits = s.ev.intakeFits := by
  unfold State.dormancyReply
  split <;> simp
@[simp] theorem State.hiveGoneDark_intakeFits (s : State) (h : Nat) : (s.hiveGoneDark h).ev.intakeFits = s.ev.intakeFits := by
  unfold State.hiveGoneDark
  split <;> simp
@[simp] theorem State.tideSwap_intakeFits (s : State) (h : Nat) : (s.tideSwap h).ev.intakeFits = s.ev.intakeFits := by
  unfold State.tideSwap
  (repeat' split) <;> simp
@[simp] theorem State.hiveUnpowered_intakeFits (s : State) (h : Nat) : (s.hiveUnpowered h).ev.intakeFits = s.ev.intakeFits := by
  simp [State.hiveUnpowered]
@[simp] theorem State.shelfOnHoldup_intakeFits (s : State) (h : Nat) : (s.shelfOnHoldup h).ev.intakeFits = s.ev.intakeFits := by
  simp [State.shelfOnHoldup]
@[simp] theorem State.alarmEvents_intakeFits (s : State) (h : Nat) (old new : BitVec 8) :
    (s.alarmEvents h old new).ev.intakeFits = s.ev.intakeFits := by
  simp [State.alarmEvents]
@[simp] theorem State.judgeHive_intakeFits (s : State) (h : Nat) : (s.judgeHive h).ev.intakeFits = s.ev.intakeFits := by
  unfold State.judgeHive
  (repeat' split) <;> simp
@[simp] theorem State.takeBlock_intakeFits (s : State) (h : Nat) (b : ShelfBlock) : (s.takeBlock h b).ev.intakeFits = s.ev.intakeFits := by
  unfold State.takeBlock
  split <;> simp
@[simp] theorem State.standingVotes_intakeFits (s : State) : s.standingVotes.ev.intakeFits = s.ev.intakeFits := by
  simp [State.standingVotes]

/-! ## The operations of Machine/Limits -/

@[simp] theorem State.fillBuckets_intakeFits (s : State) : s.fillBuckets.ev.intakeFits = s.ev.intakeFits := rfl
@[simp] theorem State.refill_intakeFits (s : State) : s.refill.ev.intakeFits = s.ev.intakeFits := rfl
@[simp] theorem State.judgeBrood_intakeFits (s : State) : s.judgeBrood.ev.intakeFits = s.ev.intakeFits := by simp [State.judgeBrood]
@[simp] theorem State.judgeLanding_intakeFits (s : State) : s.judgeLanding.ev.intakeFits = s.ev.intakeFits := by simp [State.judgeLanding]
@[simp] theorem State.judgePins_intakeFits (s : State) : s.judgePins.ev.intakeFits = s.ev.intakeFits := by simp [State.judgePins]
@[simp] theorem State.judgeHolds_intakeFits (s : State) : s.judgeHolds.ev.intakeFits = s.ev.intakeFits := by simp [State.judgeHolds]
@[simp] theorem State.countHolds_intakeFits (s : State) : s.countHolds.ev.intakeFits = s.ev.intakeFits := by simp [State.countHolds]

/-! ## The operations of Machine/FrameOps -/

@[simp] theorem State.entryEnds_intakeFits (s : State) : s.entryEnds.ev.intakeFits = s.ev.intakeFits := by
  unfold State.entryEnds
  refine foldl_intakeFits_of (fun _ _ => ?_) _ _
  (repeat' split) <;> simp
@[simp] theorem State.beginFence_intakeFits (s : State) (m : Mode) : (s.beginFence m).ev.intakeFits = s.ev.intakeFits := rfl
@[simp] theorem State.enterMode_intakeFits (s : State) (m : Mode) : (s.enterMode m).ev.intakeFits = s.ev.intakeFits := by
  simp [State.enterMode]
@[simp] theorem State.autoModeThen_intakeFits (s : State) (m : Mode) (after : List After) :
    (s.autoModeThen m after).ev.intakeFits = s.ev.intakeFits := by
  simp [State.autoModeThen]
@[simp] theorem State.autoMode_intakeFits (s : State) (m : Mode) : (s.autoMode m).ev.intakeFits = s.ev.intakeFits := by
  simp [State.autoMode]
@[simp] theorem State.newHive_intakeFits (s : State) (hive mask : Nat) : (s.newHive hive mask).ev.intakeFits = s.ev.intakeFits := by
  simp [State.newHive]
@[simp] theorem State.attachHive_intakeFits (s : State) (hive mask : Nat) (brood : Bool) (by_ : Side) :
    (s.attachHive hive mask brood by_).ev.intakeFits = s.ev.intakeFits := by simp [State.attachHive]
@[simp] theorem State.combWorks_intakeFits (s : State) (l : Link) : (s.combWorks l).ev.intakeFits = s.ev.intakeFits := by
  simp only [State.combWorks]
  split <;> simp
@[simp] theorem State.superAttach_intakeFits (s : State) (hive mask : Nat) (by_ : Side) :
    (s.superAttach hive mask by_).ev.intakeFits = s.ev.intakeFits := by
  simp only [State.superAttach]
  split <;> simp
@[simp] theorem State.beginRebalance_intakeFits (s : State) (v : Bytes) : (s.beginRebalance v).ev.intakeFits = s.ev.intakeFits := by
  simp [State.beginRebalance]
@[simp] theorem State.changeApiary_intakeFits (s : State) (v : Bytes) : (s.changeApiary v).ev.intakeFits = s.ev.intakeFits := by
  simp [State.changeApiary]
@[simp] theorem State.takeFormats_intakeFits (s : State) (v : Bytes) : (s.takeFormats v).ev.intakeFits = s.ev.intakeFits := by
  simp [State.takeFormats]
@[simp] theorem State.applyFrame_intakeFits (s : State) (f : Frame) : (s.applyFrame f).ev.intakeFits = s.ev.intakeFits := by
  unfold State.applyFrame
  refine foldl_intakeFits_of (fun _ _ => ?_) _ _
  (repeat' split) <;> simp
@[simp] theorem State.frameEvent_intakeFits (s : State) (f : Frame) (status : Nat) :
    (s.frameEvent f status).ev.intakeFits = s.ev.intakeFits := by
  simp [State.frameEvent]
@[simp] theorem State.frameReply_intakeFits (s : State) (f : Frame) (st : VStatus) :
    (s.frameReply f st).ev.intakeFits = s.ev.intakeFits := by
  unfold State.frameReply
  split <;> simp
@[simp] theorem State.hostAccess_intakeFits (s : State) (d : Nat) : (s.hostAccess d).ev.intakeFits = s.ev.intakeFits := by
  simp [State.hostAccess]
@[simp] theorem State.colonySettings_intakeFits (s : State) (items : List Item) :
    (s.colonySettings items).ev.intakeFits = s.ev.intakeFits := by
  simp [State.colonySettings]
@[simp] theorem State.doApply_intakeFits (s : State) (f : Frame) : (s.doApply f).ev.intakeFits = s.ev.intakeFits := by simp [State.doApply]
@[simp] theorem State.doAbort_intakeFits (s : State) (f : Frame) (st : VStatus) : (s.doAbort f st).ev.intakeFits = s.ev.intakeFits := by
  simp [State.doAbort]
@[simp] theorem State.tickFrame_intakeFits (s : State) (f : Frame) : (s.tickFrame f).1.ev.intakeFits = s.ev.intakeFits := by
  simp [State.tickFrame]
@[simp] theorem State.tickFrames_intakeFits (s : State) (l : List Frame) : (s.tickFrames l).ev.intakeFits = s.ev.intakeFits := by
  induction l generalizing s with
  | nil => rfl
  | cons f l ih => simp [State.tickFrames, ih]
@[simp] theorem State.refuseLate_intakeFits (s : State) : s.refuseLate.ev.intakeFits = s.ev.intakeFits := by
  unfold State.refuseLate
  refine foldl_intakeFits_of (fun _ _ => ?_) _ _
  (repeat' split) <;> simp
@[simp] theorem State.lateCopies_intakeFits (s : State) : s.lateCopies.ev.intakeFits = s.ev.intakeFits := by simp [State.lateCopies]
@[simp] theorem State.internalFrame_intakeFits (s : State) (pair : Bool) (item : Item) (after : List After) :
    (s.internalFrame pair item after).ev.intakeFits = s.ev.intakeFits := by simp [State.internalFrame]
@[simp] theorem State.askFrame_intakeFits (s : State) (w : Waiter) (pair : Bool) (item : Item) (after : List After) :
    (s.askFrame w pair item after).ev.intakeFits = s.ev.intakeFits := by simp [State.askFrame]
@[simp] theorem State.ownInternal_intakeFits (s : State) (pair : Bool) (item : Item) (after : List After) :
    (s.ownInternal pair item after).ev.intakeFits = s.ev.intakeFits := by simp [State.ownInternal]
@[simp] theorem State.waitingFrames_intakeFits (s : State) : s.waitingFrames.ev.intakeFits = s.ev.intakeFits := by
  simp [State.waitingFrames]
@[simp] theorem State.frameTick_intakeFits (s : State) : s.frameTick.ev.intakeFits = s.ev.intakeFits := by
  simp only [State.frameTick]
  split <;> simp

/-! ## The operations of Machine/Volumes -/

@[simp] theorem State.drawKeys_intakeFits (s : State) : s.drawKeys.ev.intakeFits = s.ev.intakeFits := rfl
@[simp] theorem State.useWrap_intakeFits (s : State) (w : Nat) : (s.useWrap w).ev.intakeFits = s.ev.intakeFits := rfl
@[simp] theorem State.domainCreate_intakeFits (s : State) (q : VReq) : (s.domainCreate q).ev.intakeFits = s.ev.intakeFits := by
  simp [State.domainCreate]
@[simp] theorem execDomainCreate_intakeKept (q : VReq) (s : State) : IntakeKept (execDomainCreate q s) s.ev.intakeFits := by
  simp [execDomainCreate]
@[simp] theorem State.domainDelete_intakeFits (s : State) (q : VReq) : (s.domainDelete q).ev.intakeFits = s.ev.intakeFits := by
  simp [State.domainDelete]
@[simp] theorem execDomainDelete_intakeKept (q : VReq) (s : State) : IntakeKept (execDomainDelete q s) s.ev.intakeFits := by
  simp [execDomainDelete]
@[simp] theorem execDomainList_intakeKept (q : VReq) (s : State) : IntakeKept (execDomainList q s) s.ev.intakeFits := by
  simp [execDomainList]
@[simp] theorem State.nsCreate_intakeFits (s : State) (q : VReq) : (s.nsCreate q).ev.intakeFits = s.ev.intakeFits := by
  simp [State.nsCreate]
@[simp] theorem execNsCreate_intakeKept (q : VReq) (s : State) : IntakeKept (execNsCreate q s) s.ev.intakeFits := by simp [execNsCreate]
@[simp] theorem State.withNs_intakeFits (s : State) (q : VReq) (op nsid : Nat) (f : Namespace → State)
    (hf : ∀ n, (f n).ev.intakeFits = s.ev.intakeFits) : (s.withNs q op nsid f).ev.intakeFits = s.ev.intakeFits := by
  unfold State.withNs
  (repeat' split) <;> simp [hf]
@[simp] theorem execNsDelete_intakeKept (q : VReq) (s : State) : IntakeKept (execNsDelete q s) s.ev.intakeFits := by simp [execNsDelete]
@[simp] theorem execNsResize_intakeKept (q : VReq) (s : State) : IntakeKept (execNsResize q s) s.ev.intakeFits := by simp [execNsResize]
@[simp] theorem execNsList_intakeKept (q : VReq) (s : State) : IntakeKept (execNsList q s) s.ev.intakeFits := by simp [execNsList]
@[simp] theorem State.snapCreate_intakeFits (s : State) (q : VReq) : (s.snapCreate q).ev.intakeFits = s.ev.intakeFits := by
  simp [State.snapCreate]
@[simp] theorem execSnapCreate_intakeKept (q : VReq) (s : State) : IntakeKept (execSnapCreate q s) s.ev.intakeFits := by
  simp [execSnapCreate]
@[simp] theorem execSnapDelete_intakeKept (q : VReq) (s : State) : IntakeKept (execSnapDelete q s) s.ev.intakeFits := by
  simp [execSnapDelete]
@[simp] theorem execSnapClone_intakeKept (q : VReq) (s : State) : IntakeKept (execSnapClone q s) s.ev.intakeFits := by simp [execSnapClone]
@[simp] theorem execTreeDropCascade_intakeKept (s : State) : IntakeKept (execTreeDropCascade s) s.ev.intakeFits := by
  simp only [execTreeDropCascade]
  split <;> simp

/-! ## The operations of Machine/KeyOps -/

@[simp] theorem State.exportBlob_intakeFits (s : State) (escrow : Bytes) : (s.exportBlob escrow).1.ev.intakeFits = s.ev.intakeFits := by
  simp only [State.exportBlob, State.afterDraw_ev]
  exact (foldl_fst_intakeFits (fun _ _ => by simp) _ _).trans (State.drawKeys_intakeFits s)
@[simp] theorem State.attest_intakeFits (s : State) (nonce : Bytes) : (s.attest nonce).1.ev.intakeFits = s.ev.intakeFits := rfl

/-! ## The operations of Machine/FenceOps -/

@[simp] theorem State.raiseComb_intakeFits (s : State) (link : Nat) : (s.raiseComb link).ev.intakeFits = s.ev.intakeFits := by
  unfold State.raiseComb
  split <;> simp
@[simp] theorem State.raiseHive_intakeFits (s : State) (h : Nat) : (s.raiseHive h).ev.intakeFits = s.ev.intakeFits := by
  simp [State.raiseHive]
@[simp] theorem State.beginRound_intakeFits (s : State) : s.beginRound.ev.intakeFits = s.ev.intakeFits := by
  simp only [State.beginRound]
  split <;> simp
@[simp] theorem State.loseRound_intakeFits (s : State) : s.loseRound.ev.intakeFits = s.ev.intakeFits := by simp [State.loseRound]
@[simp] theorem State.winRound_intakeFits (s : State) : s.winRound.ev.intakeFits = s.ev.intakeFits := by simp [State.winRound]
@[simp] theorem State.judgeRound_intakeFits (s : State) : s.judgeRound.ev.intakeFits = s.ev.intakeFits := by simp [State.judgeRound]
@[simp] theorem State.endRound_intakeFits (s : State) : s.endRound.ev.intakeFits = s.ev.intakeFits := by simp [State.endRound]
@[simp] theorem State.polled_intakeFits (s : State) (h : Nat) : (s.polled h).ev.intakeFits = s.ev.intakeFits := by simp [State.polled]
@[simp] theorem State.fenceAnswer_intakeFits (s : State) (link : Nat) (won lost : Bool) :
    (s.fenceAnswer link won lost).ev.intakeFits = s.ev.intakeFits := by
  simp only [State.fenceAnswer]
  (repeat' split) <;> simp
@[simp] theorem State.retryRaises_intakeFits (s : State) : s.retryRaises.ev.intakeFits = s.ev.intakeFits := by simp [State.retryRaises]

/-! ## The operations of Machine/LinkEndOps -/

@[simp] theorem State.headAck_intakeFits (s : State) (link : Nat) : (s.headAck link).ev.intakeFits = s.ev.intakeFits := by
  unfold State.headAck
  split <;> simp
@[simp] theorem State.headTook_intakeFits (s : State) (link : Nat) : (s.headTook link).ev.intakeFits = s.ev.intakeFits := by
  simp [State.headTook]
@[simp] theorem State.linkDown_intakeFits (s : State) (link : Nat) : (s.linkDown link).ev.intakeFits = s.ev.intakeFits := by
  simp [State.linkDown]
@[simp] theorem State.headHello_intakeFits (s : State) (link kind : Nat) : (s.headHello link kind).ev.intakeFits = s.ev.intakeFits := by
  unfold State.headHello
  split <;> simp
@[simp] theorem State.bridgeHello_intakeFits (s : State) (link : Nat) (port : Side) (rate kind : Nat) :
    (s.bridgeHello link port rate kind).ev.intakeFits = s.ev.intakeFits := by
  unfold State.bridgeHello
  split <;> simp
@[simp] theorem State.startRetrain_intakeFits (s : State) (link : Nat) : (s.startRetrain link).ev.intakeFits = s.ev.intakeFits := by
  unfold State.startRetrain
  split <;> simp
@[simp] theorem State.crcError_intakeFits (s : State) (link : Nat) : (s.crcError link).ev.intakeFits = s.ev.intakeFits := by
  simp [State.crcError]
@[simp] theorem State.headNak_intakeFits (s : State) (link : Nat) : (s.headNak link).ev.intakeFits = s.ev.intakeFits := by
  unfold State.headNak
  split <;> simp
@[simp] theorem State.headHears_intakeFits (s : State) (link : Nat) (f : LFrame) (act : State → State) (hact : KeepsIntake act) :
    (s.headHears link f act).ev.intakeFits = s.ev.intakeFits := by simp [State.headHears, hact.intakeFits]
@[simp] theorem State.headFrame_intakeFits (s : State) (link : Nat) (f : LFrame) (act : State → State) (hact : KeepsIntake act) :
    (s.headFrame link f act).ev.intakeFits = s.ev.intakeFits := by
  refine State.headHears_intakeFits _ _ _ _ fun t => ?_
  split
  · rfl
  · simp [hact.intakeFits]
@[simp] theorem State.progFailed_intakeFits (s : State) (ord m : Nat) : (s.progFailed ord m).ev.intakeFits = s.ev.intakeFits := rfl
@[simp] theorem State.progPassed_intakeFits (s : State) (ord m page : Nat) : (s.progPassed ord m page).ev.intakeFits = s.ev.intakeFits := by
  unfold State.progPassed
  (repeat' split) <;> simp
@[simp] theorem State.fencedFrom_intakeFits (s : State) (h : Nat) : (s.fencedFrom h).ev.intakeFits = s.ev.intakeFits := rfl
@[simp] theorem State.issueErases_intakeFits (s : State) : s.issueErases.ev.intakeFits = s.ev.intakeFits := by
  unfold State.issueErases
  refine foldl_intakeFits_of (fun _ _ => ?_) _ _
  (repeat' split) <;> simp
@[simp] theorem State.eraseFailed_intakeFits (s : State) (link die block : Nat) :
    (s.eraseFailed link die block).ev.intakeFits = s.ev.intakeFits := by
  simp [State.eraseFailed]
@[simp] theorem State.erasePassed_intakeFits (s : State) (link die block : Nat) :
    (s.erasePassed link die block).ev.intakeFits = s.ev.intakeFits := rfl
@[simp] theorem State.levelEpoch_intakeFits (s : State) (link : Nat) : (s.levelEpoch link).ev.intakeFits = s.ev.intakeFits := by
  unfold State.levelEpoch
  split <;> simp
@[simp] theorem State.fenceDone_intakeFits (s : State) (link : Nat) (use : TaskUse) (st : Option StatusType) :
    (s.fenceDone link use st).ev.intakeFits = s.ev.intakeFits := by
  unfold State.fenceDone
  split <;> simp
@[simp] theorem State.diagDone_intakeFits (s : State) (t : DieTask) (w : BitVec 32) (wt : Waiter) :
    (s.diagDone t w wt).ev.intakeFits = s.ev.intakeFits := by simp [State.diagDone]
@[simp] theorem State.readFinding_intakeFits (s : State) (link : Nat) (t : DieTask) (st : Option StatusType) :
    (s.readFinding link t st).ev.intakeFits = s.ev.intakeFits := by
  simp only [State.readFinding]
  split <;> simp
@[simp] theorem State.holdTask_intakeFits (s : State) (link tag wait : Nat) :
    (s.holdTask link tag wait).ev.intakeFits = s.ev.intakeFits := rfl
@[simp] theorem State.refusedBusy_intakeFits (s : State) (link tag wait : Nat) :
    (s.refusedBusy link tag wait).ev.intakeFits = s.ev.intakeFits := rfl
@[simp] theorem State.sendLeased_intakeFits (s : State) (link : Nat) (k : DieTask) :
    (s.sendLeased link k).ev.intakeFits = s.ev.intakeFits := by
  simp [State.sendLeased]
@[simp] theorem State.suspendFor_intakeFits (s : State) (link die : Nat) : (s.suspendFor link die).ev.intakeFits = s.ev.intakeFits := by
  simp [State.suspendFor]
@[simp] theorem State.sendWaiting_intakeFits (s : State) (link die : Nat) : (s.sendWaiting link die).ev.intakeFits = s.ev.intakeFits := by
  unfold State.sendWaiting
  split <;> simp
@[simp] theorem State.afterRead_intakeFits (s : State) (link die : Nat) (w : BitVec 32) :
    (s.afterRead link die w).ev.intakeFits = s.ev.intakeFits := by
  simp [State.afterRead]
@[simp] theorem State.taskDone_intakeFits (s : State) (link : Nat) (t : DieTask) (w : BitVec 32) :
    (s.taskDone link t w).ev.intakeFits = s.ev.intakeFits := by
  simp only [State.taskDone]
  (repeat' split) <;> simp
@[simp] theorem State.reissueBusy_intakeFits (s : State) (link : Nat) : (s.reissueBusy link).ev.intakeFits = s.ev.intakeFits := by
  unfold State.reissueBusy
  refine foldl_intakeFits_of (fun _ _ => ?_) _ _
  (repeat' split) <;> simp
@[simp] theorem State.reissueTask_intakeFits (s : State) (link : Nat) (k : DieTask) :
    (s.reissueTask link k).ev.intakeFits = s.ev.intakeFits := by
  unfold State.reissueTask
  split <;> simp
@[simp] theorem State.windowTells_intakeFits (s : State) (link : Nat) (k : DieTask) (op status : BitVec 32) :
    (s.windowTells link k op status).ev.intakeFits = s.ev.intakeFits := by simp [State.windowTells]
@[simp] theorem State.admitComb_intakeFits (s : State) (link : Nat) : (s.admitComb link).ev.intakeFits = s.ev.intakeFits := by
  unfold State.admitComb
  split <;> simp
@[simp] theorem State.bridgeEventFrame_intakeFits (s : State) (link : Nat) (port : Side) (e : Nat × Nat × Nat) :
    (s.bridgeEventFrame link port e).ev.intakeFits = s.ev.intakeFits := by simp [State.bridgeEventFrame]
@[simp] theorem State.measureComb_intakeFits (s : State) (link : Nat) : (s.measureComb link).ev.intakeFits = s.ev.intakeFits := by
  unfold State.measureComb
  split <;> simp
@[simp] theorem State.linkIsUp_intakeFits (s : State) (link : Nat) : (s.linkIsUp link).ev.intakeFits = s.ev.intakeFits := by
  simp [State.linkIsUp]
@[simp] theorem State.linkStarts_intakeFits (s : State) (link : Nat) : (s.linkStarts link).ev.intakeFits = s.ev.intakeFits := rfl
@[simp] theorem State.linkRises_intakeFits (s : State) (link : Nat) (b : Bridge) :
    (s.linkRises link b).ev.intakeFits = s.ev.intakeFits := by
  simp [State.linkRises]
@[simp] theorem State.linkJoins_intakeFits (s : State) (link : Nat) : (s.linkJoins link).ev.intakeFits = s.ev.intakeFits := by
  simp [State.linkJoins]
@[simp] theorem State.linkServes_intakeFits (s : State) (link : Nat) (b : Bridge) :
    (s.linkServes link b).ev.intakeFits = s.ev.intakeFits := by
  simp only [State.linkServes]
  simp (disch := (simp only [keepsIntake_iff]; intros; (repeat' split) <;> simp))
@[simp] theorem State.linkUp_intakeFits (s : State) (link : Nat) (b : Bridge) : (s.linkUp link b).ev.intakeFits = s.ev.intakeFits := by
  simp [State.linkUp]
@[simp] theorem State.bringUpFails_intakeFits (s : State) (link : Nat) : (s.bringUpFails link).ev.intakeFits = s.ev.intakeFits := by
  simp [State.bringUpFails]
@[simp] theorem State.holdLink_intakeFits (s : State) (link hive slot : Nat) :
    (s.holdLink link hive slot).ev.intakeFits = s.ev.intakeFits := by
  simp [State.holdLink]

/-! ## The operations of Machine/ReadOps -/

@[simp] theorem State.heed_intakeFits (s : State) (h : Nat) : (s.heed h).ev.intakeFits = s.ev.intakeFits := by
  simp only [State.heed]
  (repeat' split) <;> simp (disch := (simp only [keepsIntake_iff]; intros; (repeat' split) <;> simp))
theorem State.overErases_intakeFits {s u : State} {t : Stripe} {js : List Nat} (h : s.overErases t js = some u) :
    u.ev.intakeFits = s.ev.intakeFits := by
  refine List.foldlRecOn (motive := fun acc : Option State => ∀ u ∈ acc, u.ev.intakeFits = s.ev.intakeFits) _ _ (by simp) ?_ u h
  intro acc hacc m _ u hu
  cases acc with
  | none => exact absurd hu (by simp)
  | some v =>
    have hv : v.ev.intakeFits = s.ev.intakeFits := hacc v rfl
    dsimp only at hu
    (repeat' split at hu) <;> simp only [Option.mem_def, Option.some.injEq, reduceCtorEq] at hu <;> subst hu <;> simp [hv]
@[simp] theorem State.heedPages_intakeFits (s : State) (t : Stripe) (ps : List (Nat × Nat)) :
    (s.heedPages t ps).ev.intakeFits = s.ev.intakeFits := by
  simp [State.heedPages]
@[simp] theorem State.loseChunk_intakeFits (s : State) (ord hive : Nat) (c : Chunk) :
    (s.loseChunk ord hive c).ev.intakeFits = s.ev.intakeFits := by
  simp [State.loseChunk]
@[simp] theorem State.readStored_intakeFits (s : State) (c : Chunk) : (s.readStored c).1.ev.intakeFits = s.ev.intakeFits := by
  simp only [State.readStored]
  (repeat' split) <;> simp
@[simp] theorem State.readChunk_intakeFits (s : State) (chunk : Nat) : (s.readChunk chunk).1.ev.intakeFits = s.ev.intakeFits := by
  unfold State.readChunk
  extract_lets id
  split
  · split
    · split
      · rfl
      · extract_lets u
        have hu : u.ev.intakeFits = s.ev.intakeFits := by
          unfold u
          split <;> simp
        clear_value u
        split
        · simp [hu]
        · split
          · exact hu
          · split
            · exact hu
            · simp [State.overErases_intakeFits ‹_›, hu]
    · rfl
    · rfl
  · repeat' split
    all_goals rfl

/-! ## The operations of Machine/NvmeOps -/

@[simp] theorem State.nvEnd_intakeFits (s : State) (e : Sqe) (st : NvStatus) : (s.nvEnd e st).ev.intakeFits = s.ev.intakeFits := by
  simp [State.nvEnd]
@[simp] theorem State.nvDone_intakeFits (s : State) (e : Sqe) (dw0 : Nat) (data : Bytes) :
    (s.nvDone e dw0 data).ev.intakeFits = s.ev.intakeFits := by
  simp [State.nvDone]
@[simp] theorem State.nvme_intakeFits (s : State) (e : Sqe) (body : Ctrl → State → State) (hbody : ∀ a, KeepsIntake (body a)) :
    (s.nvme e body).ev.intakeFits = s.ev.intakeFits := by
  unfold State.nvme
  split
  · rfl
  · simp [(hbody _).intakeFits]
theorem State.nvme_fits {s : State} {e : Sqe} {body : Ctrl → State → State} (hbody : ∀ c, FitsAfter (body c))
    (h : s.ev.intakeFits = true) : (s.nvme e body).ev.intakeFits = true := by
  unfold State.nvme
  split
  · exact h
  · split
    · exact h
    · exact hbody _ _ h
@[simp] theorem State.forgetCmds_intakeFits (s : State) (p : HostCmd → Bool) : (s.forgetCmds p).ev.intakeFits = s.ev.intakeFits := by
  simp [State.forgetCmds]
@[simp] theorem State.endAssoc_intakeFits (s : State) (id : Nat) : (s.endAssoc id).ev.intakeFits = s.ev.intakeFits := by
  unfold State.endAssoc
  split <;> simp
@[simp] theorem State.endConn_intakeFits (s : State) (id : Nat) : (s.endConn id).ev.intakeFits = s.ev.intakeFits := by
  unfold State.endConn
  (repeat' split) <;> simp
@[simp] theorem State.fatalConn_intakeFits (s : State) (id fes : Nat) : (s.fatalConn id fes).ev.intakeFits = s.ev.intakeFits := by
  simp [State.fatalConn]
@[simp] theorem State.chunkBytes_intakeFits (s : State) (chunk : Nat) : (s.chunkBytes chunk).1.ev.intakeFits = s.ev.intakeFits := by
  simp only [State.chunkBytes]
  repeat' split
  any_goals simp
  all_goals exact intakeFits_of_eq ‹_› (by simp)
@[simp] theorem State.nsBlock_intakeFits (s : State) (nsid k : Nat) : (s.nsBlock nsid k).1.ev.intakeFits = s.ev.intakeFits := by
  simp only [State.nsBlock]
  repeat' split
  any_goals simp
  all_goals exact intakeFits_of_eq ‹_› (by simp)
@[simp] theorem State.readRange_intakeFits (s : State) (nsid off len : Nat) :
    (s.readRange nsid off len).1.ev.intakeFits = s.ev.intakeFits :=
  foldl_fst_intakeFits (fun _ _ => by simp) _ _
@[simp] theorem State.gather_intakeFits (s : State) (ctrl qid cid patience : Nat) (hs : List (Nat × Nat)) :
    (s.gather ctrl qid cid patience hs).1.ev.intakeFits = s.ev.intakeFits := by simp [State.gather]
@[simp] theorem State.countWait_intakeFits (s : State) (nsid : Nat) (st : NvStatus) :
    (s.countWait nsid st).ev.intakeFits = s.ev.intakeFits := by
  simp [State.countWait]
@[simp] theorem State.regather_intakeFits (s : State) (ctrl qid cid : Nat) (hs : List (Nat × Nat)) :
    (s.regather ctrl qid cid hs).1.ev.intakeFits = s.ev.intakeFits := by simp [State.regather]
@[simp] theorem State.tryRead_intakeFits (s : State) (ctrl qid cid nsid slba nlb : Nat) (first : Option Nat) :
    (s.tryRead ctrl qid cid nsid slba nlb first).ev.intakeFits = s.ev.intakeFits := by
  simp only [State.tryRead]
  repeat' split
  any_goals simp
  all_goals exact intakeFits_of_eq ‹_› (by simp)
@[simp] theorem State.nvRead_intakeFits (s : State) (c : Ctrl) (e : Sqe) : (s.nvRead c e).ev.intakeFits = s.ev.intakeFits := by
  unfold State.nvRead
  (repeat' split) <;> simp
@[simp] theorem State.markBroken_intakeFits (s : State) (stream : Option (Nat × Nat)) :
    (s.markBroken stream).1.ev.intakeFits = s.ev.intakeFits := by
  unfold State.markBroken
  split <;> simp
@[simp] theorem State.failHeld_intakeFits (s : State) (n : Nat) (l : List (HostCmd × NvStatus)) :
    (s.failHeld n l).ev.intakeFits = s.ev.intakeFits := by
  induction n generalizing s l with
  | zero => cases l <;> rfl
  | succ n ih => cases l with
    | nil => rfl
    | cons x l => simp [State.failHeld, ih]
@[simp] theorem State.breakStream_intakeFits (s : State) (key id : Nat) : (s.breakStream key id).ev.intakeFits = s.ev.intakeFits := by
  simp [State.breakStream]
@[simp] theorem State.failStream_intakeFits (s : State) (ctrl qid cid : Nat) (stream : Option (Nat × Nat)) (st : NvStatus) :
    (s.failStream ctrl qid cid stream st).ev.intakeFits = s.ev.intakeFits := by simp [State.failStream]
@[simp] theorem State.spoilStream_intakeFits (s : State) (key id : Nat) (nqn : Bytes) (queue : Nat × Nat) :
    (s.spoilStream key id nqn queue).ev.intakeFits = s.ev.intakeFits := by
  unfold State.spoilStream
  split <;> simp
@[simp] theorem State.joinStream_intakeFits (s : State) (key id : Nat) (nqn : Bytes) (ctrl qid cid : Nat) :
    (s.joinStream key id nqn ctrl qid cid).1.ev.intakeFits = s.ev.intakeFits := by
  unfold State.joinStream
  split <;> simp
@[simp] theorem State.countHeld_intakeFits (s : State) (c : HostCmd) : (s.countHeld c).ev.intakeFits = s.ev.intakeFits := rfl
@[simp] theorem State.cmd'_intakeFits (s : State) (ctrl qid cid : Nat) (f : HostCmd → HostCmd) :
    (s.cmd' ctrl qid cid f).ev.intakeFits = s.ev.intakeFits := rfl
@[simp] theorem State.writeRecs_intakeFits (s : State) (domain nsid off stream ctrl : Nat) (data : Bytes) (after : List After) :
    (s.writeRecs domain nsid off stream ctrl data after).ev.intakeFits = s.ev.intakeFits := by simp [State.writeRecs]
@[simp] theorem State.zeroRanges_intakeFits (s : State) (c : HostCmd) (n : Namespace) (rs : List (Nat × Nat)) :
    (s.zeroRanges c n rs).ev.intakeFits = s.ev.intakeFits := by
  simp only [State.zeroRanges]
  (repeat' split) <;> simp
@[simp] theorem State.admitBlock_intakeFits (s : State) (c : HostCmd) : (s.admitBlock c).ev.intakeFits = s.ev.intakeFits := by
  unfold State.admitBlock
  (repeat' split) <;> simp
@[simp] theorem State.nvWriteIn_intakeFits (s : State) (e : Sqe) (n : Namespace) (stream : Option (Nat × Nat)) (zeroes : Bool)
    (off len : Nat) : (s.nvWriteIn e n stream zeroes off len).ev.intakeFits = s.ev.intakeFits := by
  simp only [State.nvWriteIn]
  (repeat' split) <;> simp
@[simp] theorem State.nvWrite_intakeFits (s : State) (c : Ctrl) (e : Sqe) (zeroes : Bool) :
    (s.nvWrite c e zeroes).ev.intakeFits = s.ev.intakeFits := by
  simp only [State.nvWrite]
  repeat' split
  any_goals simp
  all_goals exact intakeFits_of_eq ‹_› (by simp)
@[simp] theorem State.admitStream_intakeFits (s : State) (stream : Option (Nat × Nat)) :
    (s.admitStream stream).ev.intakeFits = s.ev.intakeFits := by
  unfold State.admitStream
  split <;> simp
@[simp] theorem State.hint_intakeFits (s : State) (n : Namespace) (rs : List (Nat × Nat)) :
    (s.hint n rs).ev.intakeFits = s.ev.intakeFits := by
  simp [State.hint]
@[simp] theorem State.nvDsm_intakeFits (s : State) (c : Ctrl) (e : Sqe) : (s.nvDsm c e).ev.intakeFits = s.ev.intakeFits := by
  unfold State.nvDsm
  (repeat' split) <;> simp

/-! ## The operations of Machine/IngestOps -/

@[simp] theorem State.allocChunk_intakeFits (s : State) : s.allocChunk.1.ev.intakeFits = s.ev.intakeFits := by simp [State.allocChunk]
@[simp] theorem State.filterSet_intakeFits (s : State) (fp : Bytes) : (s.filterSet fp).ev.intakeFits = s.ev.intakeFits := rfl
@[simp] theorem State.countPositive_intakeFits (s : State) (wrong : Bool) : (s.countPositive wrong).ev.intakeFits = s.ev.intakeFits := by
  simp [State.countPositive]
@[simp] theorem State.land_intakeFits (s : State) (key : Nat) (e : EnvEntry) (lane : Nat) :
    (s.land key e lane).ev.intakeFits = s.ev.intakeFits := by
  unfold State.land
  (repeat' split) <;> simp
@[simp] theorem State.storeFrame_intakeFits (s : State) (key lane d id : Nat) (content frame fp : Bytes) (f : StoreFlags) :
    (s.storeFrame key lane d id content frame fp f).ev.intakeFits = s.ev.intakeFits := by
  unfold State.storeFrame
  split <;> simp
@[simp] theorem State.frameOf_intakeFits (s : State) (d id : Nat) (content : Bytes) :
    (s.frameOf d id content).1.ev.intakeFits = s.ev.intakeFits := by
  simp [State.frameOf]
@[simp] theorem State.storeAs_intakeFits (s : State) (key lane d id : Nat) (content fp : Bytes) (f : StoreFlags) :
    (s.storeAs key lane d id content fp f).ev.intakeFits = s.ev.intakeFits := by simp [State.storeAs]
@[simp] theorem State.storeNew_intakeFits (s : State) (key lane d : Nat) (content fp : Bytes) (f : StoreFlags) (same : Bool) :
    (s.storeNew key lane d content fp f same).1.ev.intakeFits = s.ev.intakeFits := by simp [State.storeNew]
@[simp] theorem State.compareOnly_intakeFits (s : State) (lane entry : Bytes) :
    (s.compareOnly lane entry).1.ev.intakeFits = s.ev.intakeFits := by
  simp [State.compareOnly]
@[simp] theorem State.beginSelfTest_intakeFits (s : State) : s.beginSelfTest.ev.intakeFits = s.ev.intakeFits := rfl
@[simp] theorem State.cmpFault_intakeFits (s : State) (pair : Nat) : (s.cmpFault pair).ev.intakeFits = s.ev.intakeFits := by
  simp [State.cmpFault]
@[simp] theorem State.walkEntries_intakeFits (s : State) (bytewise : Bool) (fp content : Bytes) (l : List FpEntry) (hit : Bool)
    (clash : List Nat) : (s.walkEntries bytewise fp content l hit clash).1.ev.intakeFits = s.ev.intakeFits := by
  induction l generalizing s hit clash with
  | nil => simp [State.walkEntries]
  | cons e l ih =>
    simp only [State.walkEntries]
    repeat' split
    any_goals simp [ih]
    all_goals rw [intakeFits_of_eq ‹_› (State.chunkBytes_intakeFits ..), State.compareOnly_intakeFits]
@[simp] theorem State.findDup_intakeFits (s : State) (d : Nat) (fp content : Bytes) (bytewise : Bool) (but : Nat) :
    (s.findDup d fp content bytewise but).1.ev.intakeFits = s.ev.intakeFits := by simp [State.findDup]
@[simp] theorem State.clashes_intakeFits (s : State) (d id : Nat) (clash : List Nat) :
    (s.clashes d id clash).ev.intakeFits = s.ev.intakeFits := by
  simp [State.clashes]
@[simp] theorem State.laneKeeps_intakeFits (s : State) (fp : Bytes) : (s.laneKeeps fp).ev.intakeFits = s.ev.intakeFits := rfl
@[simp] theorem State.ingestChunk_intakeFits (s : State) (key lane d : Nat) (content : Bytes) :
    (s.ingestChunk key lane d content).1.ev.intakeFits = s.ev.intakeFits := by
  simp only [State.ingestChunk]
  repeat' split
  any_goals simp
  all_goals exact intakeFits_of_eq ‹_› (by simp)
@[simp] theorem State.ingestBlock_intakeFits (s : State) (key lane d nsid k : Nat) (content : Bytes) :
    (s.ingestBlock key lane d nsid k content).ev.intakeFits = s.ev.intakeFits := by simp [State.ingestBlock]
@[simp] theorem State.waitMerge_intakeFits (s : State) (nsid k key hive : Nat) :
    (s.waitMerge nsid k key hive).ev.intakeFits = s.ev.intakeFits := by
  simp [State.waitMerge]
@[simp] theorem State.beginMerge_intakeFits (s : State) (nsid k key : Nat) : (s.beginMerge nsid k key).ev.intakeFits = s.ev.intakeFits := by
  simp only [State.beginMerge]
  split <;> simp
@[simp] theorem State.ingestWrite_intakeFits (s : State) (key lane d nsid off : Nat) (data : Bytes) :
    (s.ingestWrite key lane d nsid off data).ev.intakeFits = s.ev.intakeFits := by simp [State.ingestWrite]
@[simp] theorem State.mergeCommit_intakeFits (s : State) (nsid k : Nat) : (s.mergeCommit nsid k).ev.intakeFits = s.ev.intakeFits := by
  simp only [State.mergeCommit]
  (repeat' split) <;> simp
@[simp] theorem State.storeManifest_intakeFits (s : State) (key lane : Nat) (h : ManHead) (child : Bool) (es : List (Nat × Nat)) :
    (s.storeManifest key lane h child es).1.ev.intakeFits = s.ev.intakeFits := by simp [State.storeManifest]
@[simp] theorem State.putPart_intakeFits (s : State) (p : Part) : (s.putPart p).ev.intakeFits = s.ev.intakeFits := by simp [State.putPart]
@[simp] theorem State.ingestPut_intakeFits (s : State) (key lane : Nat) (d : PutDesc) (data : Bytes) :
    (s.ingestPut key lane d data).ev.intakeFits = s.ev.intakeFits := by
  simp only [State.ingestPut, State.putPart_intakeFits, State.storeManifest_intakeFits]
  exact foldl_fst_intakeFits (fun _ _ => by simp) _ _
@[simp] theorem State.redecide_intakeFits (s : State) (key lane : Nat) (r : WaxRec) (rs : List WaxRec) :
    (s.redecide key lane r rs).ev.intakeFits = s.ev.intakeFits := by
  simp only [State.redecide]
  (repeat' split) <;> simp (disch := (simp only [keepsIntake_iff]; intros; (repeat' split) <;> simp))
@[simp] theorem State.ingest_intakeFits (s : State) (key : Nat) : (s.ingest key).ev.intakeFits = s.ev.intakeFits := by
  simp only [State.ingest]
  (repeat' split) <;> simp
@[simp] theorem State.keepChunk_intakeFits (s : State) (d : Deferred) (same : Bool) :
    (s.keepChunk d same).ev.intakeFits = s.ev.intakeFits := by
  simp [State.keepChunk]
@[simp] theorem State.postProcess_intakeFits (s : State) (chunk : Nat) : (s.postProcess chunk).ev.intakeFits = s.ev.intakeFits := by
  simp only [State.postProcess]
  split
  · rfl
  split
  · rfl
  split
  · exact intakeFits_of_eq ‹_› (by simp)
  · simpa using intakeFits_of_eq ‹State.chunkBytes .. = _› (State.chunkBytes_intakeFits ..)
  have hread := intakeFits_of_eq ‹State.chunkBytes .. = _› (State.chunkBytes_intakeFits ..)
  split
  · simp [hread]
  split
  all_goals
    have hdup := intakeFits_of_eq ‹State.findDup .. = _› (State.findDup_intakeFits ..)
    simp [hdup, hread]
@[simp] theorem State.walkManifest_intakeFits (s : State) (domain chunk : Nat) :
    (s.walkManifest domain chunk).ev.intakeFits = s.ev.intakeFits := by
  simp only [State.walkManifest]
  repeat' split
  any_goals simp
  all_goals exact intakeFits_of_eq ‹_› (by simp)
@[simp] theorem State.walkStripe_intakeFits (s : State) (t : Stripe) (n : Nat) : (s.walkStripe t n).ev.intakeFits = s.ev.intakeFits := by
  fun_induction State.walkStripe s t n <;> simp [*]

/-! ## The operations of Machine/Seal -/

@[simp] theorem State.postAux_intakeFits (s : State) (n : Nat) : (s.postAux n).ev.intakeFits = s.ev.intakeFits := by
  induction n generalizing s with
  | zero => rfl
  | succ n ih =>
    unfold State.postAux
    split <;> simp [ih]
@[simp] theorem State.post_intakeFits (s : State) : s.post.ev.intakeFits = s.ev.intakeFits := by simp [State.post]
@[simp] theorem State.endMsg_intakeFits (s : State) (m : SealMsg) (st : Nat) : (s.endMsg m st).ev.intakeFits = s.ev.intakeFits := by
  simp [State.endMsg]
@[simp] theorem State.sealOutput_intakeFits (s : State) (m : SealMsg) : (s.sealOutput m).1.ev.intakeFits = s.ev.intakeFits := by
  simp only [State.sealOutput]
  split <;> simp
@[simp] theorem State.runIn_intakeFits (s : State) (was : Option SealMsg) (m : SealMsg) :
    (s.runIn was m).ev.intakeFits = s.ev.intakeFits := rfl
@[simp] theorem State.dispatchMsg_intakeFits (s : State) (m : SealMsg) : (s.dispatchMsg m).ev.intakeFits = s.ev.intakeFits := by
  simp only [State.dispatchMsg]
  (repeat' split) <;> simp
@[simp] theorem State.takeMsg_intakeFits (s : State) (m : SealMsg) : (s.takeMsg m).ev.intakeFits = s.ev.intakeFits := by
  unfold State.takeMsg
  (repeat' split) <;> simp
@[simp] theorem execSealRequest_intakeKept (r : SealReq) (s : State) : IntakeKept (execSealRequest r s) s.ev.intakeFits := by
  simp [execSealRequest]
@[simp] theorem State.refillPipe_intakeFits (s : State) (x : Bool) : (s.refillPipe x).ev.intakeFits = s.ev.intakeFits := by
  unfold State.refillPipe
  (repeat' split) <;> simp
@[simp] theorem execSealMessageDone_intakeKept (id : Nat) (s : State) : IntakeKept (execSealMessageDone id s) s.ev.intakeFits := by
  unfold execSealMessageDone
  split <;> simp
@[simp] theorem execSealUrgent_intakeKept (id : Nat) (s : State) : IntakeKept (execSealUrgent id s) s.ev.intakeFits := by
  simp only [execSealUrgent]
  (repeat' split) <;> simp
@[simp] theorem State.loseDomain_intakeFits (s : State) (domain : Nat) : (s.loseDomain domain).ev.intakeFits = s.ev.intakeFits := by
  simp [State.loseDomain]
@[simp] theorem execDomainKeyFetch_intakeKept (domain : Nat) (s : State) : IntakeKept (execDomainKeyFetch domain s) s.ev.intakeFits := by
  unfold execDomainKeyFetch
  split <;> simp
@[simp] theorem execCmpGoCompare_intakeKept (s : State) : IntakeKept (execCmpGoCompare s) s.ev.intakeFits := by simp [execCmpGoCompare]
@[simp] theorem execCmpGoSelfTest_intakeKept (s : State) : IntakeKept (execCmpGoSelfTest s) s.ev.intakeFits := by simp [execCmpGoSelfTest]
@[simp] theorem execCompareDone_intakeKept (refFault : Bool) (s : State) : IntakeKept (execCompareDone refFault s) s.ev.intakeFits := by
  simp [execCompareDone]
@[simp] theorem execCmpResult_intakeKept (s : State) : IntakeKept (execCmpResult s) s.ev.intakeFits := by simp [execCmpResult]
@[simp] theorem execSelfTestDone_intakeKept (pass : Bool) (s : State) : IntakeKept (execSelfTestDone pass s) s.ev.intakeFits := by
  simp [execSelfTestDone]
@[simp] theorem execCompareSelftestRetry_intakeKept (s : State) : IntakeKept (execCompareSelftestRetry s) s.ev.intakeFits := by
  unfold execCompareSelftestRetry
  split <;> simp
@[simp] theorem execDigestRegisterWrite_intakeKept (off : Nat) (word : BitVec 32) (s : State) :
    IntakeKept (execDigestRegisterWrite off word s) s.ev.intakeFits := by simp [execDigestRegisterWrite]

/-! ## The operations of Machine/AlarmOps -/

@[simp] theorem State.propolisAlarm_fits (s : State) (cause : BitVec 4) : (s.propolisAlarm cause).ev.intakeFits = true := by
  simp [State.propolisAlarm]
@[simp] theorem State.holdReset_fits (s : State) (cause : Nat) : (s.holdReset cause).ev.intakeFits = true := rfl

/-! ## The operations of Machine/LocOps -/

@[simp] theorem State.locCheck_intakeFits (s : State) (c : Ctrl) (l : Bytes) : (s.locCheck c l).1.ev.intakeFits = s.ev.intakeFits := by
  simp only [State.locCheck]
  (repeat' split) <;> simp
@[simp] theorem State.leafPart_intakeFits (s : State) (chunk off lo hi : Nat) :
    (s.leafPart chunk off lo hi).1.ev.intakeFits = s.ev.intakeFits := by
  simp only [State.leafPart]
  repeat' split
  any_goals simp
  all_goals exact intakeFits_of_eq ‹_› (by simp)
@[simp] theorem State.walkMan_intakeFits (n : Nat) (s : State) (chunk off lo hi : Nat) :
    (State.walkMan n s chunk off lo hi).1.ev.intakeFits = s.ev.intakeFits := by
  induction n generalizing s chunk off with
  | zero => rfl
  | succ n ih =>
    unfold State.walkMan
    split
    · have hread := intakeFits_of_eq ‹State.chunkBytes .. = _› (State.chunkBytes_intakeFits ..)
      refine (foldl_fst_intakeFits (fun _ _ => ?_) _ _).trans hread
      simp [ih]
    · exact intakeFits_of_eq ‹_› (by simp)
@[simp] theorem State.tryGet_intakeFits (s : State) (ctrl qid cid : Nat) (o : Obj) (off len : Nat) (reloc : Bool) (first : Option Nat) :
    (s.tryGet ctrl qid cid o off len reloc first).ev.intakeFits = s.ev.intakeFits := by
  simp only [State.tryGet]
  repeat' split
  any_goals simp
  all_goals exact intakeFits_of_eq ‹_› (by simp)
@[simp] theorem State.locWait_intakeFits (s : State) (e : Sqe) (hive : Nat) (first : Bool) :
    (s.locWait e hive first).ev.intakeFits = s.ev.intakeFits := by
  simp only [State.locWait]
  repeat' split
  any_goals simp
  all_goals exact intakeFits_of_eq ‹_› (by simp)
@[simp] theorem State.unhold_intakeFits (s : State) (e : Sqe) : (s.unhold e).ev.intakeFits = s.ev.intakeFits := rfl
@[simp] theorem State.locChange_intakeFits (s : State) (e : Sqe) (o : Obj) (released : Bool) (retain : Nat) :
    (s.locChange e o released retain).ev.intakeFits = s.ev.intakeFits := by simp [State.locChange]
@[simp] theorem State.locDo_intakeFits (s : State) (e : Sqe) (o : Obj) (via : Option LedgerEntry) (patience : Nat) :
    (s.locDo e o via patience).ev.intakeFits = s.ev.intakeFits := by
  unfold State.locDo
  (repeat' split) <;> simp
@[simp] theorem State.locRun_intakeFits (s : State) (c : Ctrl) (e : Sqe) (first : Bool) :
    (s.locRun c e first).ev.intakeFits = s.ev.intakeFits := by
  simp only [State.locRun]
  repeat' split
  any_goals simp
  all_goals exact intakeFits_of_eq ‹_› (by simp)
@[simp] theorem State.statToken_intakeFits (s : State) (c : Ctrl) (e : Sqe) (first : Bool) :
    (s.statToken c e first).ev.intakeFits = s.ev.intakeFits := by
  simp only [State.statToken]
  (repeat' split) <;> simp
@[simp] theorem State.locCmd_intakeFits (s : State) (c : Ctrl) (e : Sqe) (first : Bool) :
    (s.locCmd c e first).ev.intakeFits = s.ev.intakeFits := by
  simp [State.locCmd]
@[simp] theorem State.putRecs_intakeFits (s : State) (d : PutDesc) (data : Bytes) (after : List After) :
    (s.putRecs d data after).ev.intakeFits = s.ev.intakeFits := by simp [State.putRecs]
@[simp] theorem State.admitPut_intakeFits (s : State) (c : HostCmd) : (s.admitPut c).ev.intakeFits = s.ev.intakeFits := by
  simp only [State.admitPut]
  (repeat' split) <;> simp
@[simp] theorem State.refusePut_intakeFits (s : State) (c : Ctrl) (e : Sqe) (d : PutDesc) (st : NvStatus) :
    (s.refusePut c e d st).ev.intakeFits = s.ev.intakeFits := by simp [State.refusePut]
@[simp] theorem State.putArrive_intakeFits (s : State) (c : Ctrl) (e : Sqe) : (s.putArrive c e).ev.intakeFits = s.ev.intakeFits := by
  simp only [State.putArrive]
  repeat' split
  any_goals simp
  all_goals exact intakeFits_of_eq ‹_› (by simp)
@[simp] theorem State.locPut_intakeFits (s : State) (c : Ctrl) (e : Sqe) : (s.locPut c e).ev.intakeFits = s.ev.intakeFits := by
  simp [State.locPut]
@[simp] theorem State.morePut_intakeFits (s : State) (h : HostCmd) (e : Sqe) (conn off : Nat) (data : Bytes) (digestOk : Bool) :
    (s.morePut h e conn off data digestOk).ev.intakeFits = s.ev.intakeFits := by
  simp only [State.morePut]
  (repeat' split) <;> simp
@[simp] theorem State.locAgain_intakeFits (s : State) (h : HostCmd) : (s.locAgain h).ev.intakeFits = s.ev.intakeFits := by
  unfold State.locAgain
  (repeat' split) <;> simp
@[simp] theorem State.locWake_intakeFits (s : State) : s.locWake.ev.intakeFits = s.ev.intakeFits := by simp [State.locWake]
@[simp] theorem State.settle_fits {s : State} (h : s.ev.intakeFits = true) : s.settle.ev.intakeFits = true := by simp [State.settle, h]
@[simp] theorem State.serveGather_intakeFits (s : State) (hive : Nat) : (s.serveGather hive).ev.intakeFits = s.ev.intakeFits := by
  simp only [State.serveGather]
  (repeat' split) <;> simp (disch := (simp only [keepsIntake_iff]; intros; (repeat' split) <;> simp))

/-! ## The operations of Machine/Nvme -/

@[simp] theorem execTcpConnectionRequest_intakeKept (svc : TcpSvc) (fpair : Nat × Nat) (s : State) :
    IntakeKept (execTcpConnectionRequest svc fpair s) s.ev.intakeFits := by
  simp only [execTcpConnectionRequest]
  (repeat' split) <;> simp
@[simp] theorem execIcreq_intakeKept (conn pfv hpda : Nat) (hdgst ddgst : Bool) (maxR2t : Nat) (s : State) :
    IntakeKept (execIcreq conn pfv hpda hdgst ddgst maxR2t s) s.ev.intakeFits := by
  unfold execIcreq
  split <;> simp
@[simp] theorem execFatalTransportError_intakeKept (conn fes : Nat) (s : State) :
    IntakeKept (execFatalTransportError conn fes s) s.ev.intakeFits := by simp [execFatalTransportError]
@[simp] theorem execH2cdata_intakeKept (conn cid off : Nat) (data : Bytes) (digestOk : Bool) (s : State) :
    IntakeKept (execH2cdata conn cid off data digestOk s) s.ev.intakeFits := by
  simp only [execH2cdata]
  (repeat' split) <;> simp
@[simp] theorem execTcpConnectionEnd_intakeKept (conn : Nat) (s : State) : IntakeKept (execTcpConnectionEnd conn s) s.ev.intakeFits := by
  simp [execTcpConnectionEnd]
@[simp] theorem execTcpRetransmissionTimeout_intakeKept (conn : Nat) (s : State) :
    IntakeKept (execTcpRetransmissionTimeout conn s) s.ev.intakeFits := by simp [execTcpRetransmissionTimeout]
@[simp] theorem State.bindConn_intakeFits (s : State) (conn ctrl qid : Nat) :
    (s.bindConn conn ctrl qid).ev.intakeFits = s.ev.intakeFits := rfl
@[simp] theorem State.nvConnect_intakeFits (s : State) (x : NvConnect) : (s.nvConnect x).ev.intakeFits = s.ev.intakeFits := by
  unfold State.nvConnect
  (repeat' split) <;> simp
@[simp] theorem execConnect_intakeKept (c : NvConnect) (s : State) : IntakeKept (execConnect c s) s.ev.intakeFits := by simp [execConnect]
@[simp] theorem execKeepAlive_intakeKept (e : Sqe) (s : State) : IntakeKept (execKeepAlive e s) s.ev.intakeFits := by simp [execKeepAlive]
@[simp] theorem execKeepAliveTimeout_intakeKept (ctrl : Nat) (s : State) : IntakeKept (execKeepAliveTimeout ctrl s) s.ev.intakeFits := by
  unfold execKeepAliveTimeout
  split <;> simp
@[simp] theorem State.nvIdentify_intakeFits (s : State) (c : Ctrl) (e : Sqe) : (s.nvIdentify c e).ev.intakeFits = s.ev.intakeFits := by
  simp only [State.nvIdentify]
  (repeat' split) <;> simp
@[simp] theorem execIdentify_intakeKept (e : Sqe) (s : State) : IntakeKept (execIdentify e s) s.ev.intakeFits := by simp [execIdentify]
@[simp] theorem State.nvGetLog_intakeFits (s : State) (c : Ctrl) (e : Sqe) : (s.nvGetLog c e).ev.intakeFits = s.ev.intakeFits := by
  simp [State.nvGetLog]
@[simp] theorem execGetLogPage_intakeKept (e : Sqe) (s : State) : IntakeKept (execGetLogPage e s) s.ev.intakeFits := by
  simp [execGetLogPage]
@[simp] theorem State.nvSetFeature_intakeFits (s : State) (c : Ctrl) (e : Sqe) : (s.nvSetFeature c e).ev.intakeFits = s.ev.intakeFits := by
  simp [State.nvSetFeature]
@[simp] theorem execSetFeatures_intakeKept (e : Sqe) (s : State) : IntakeKept (execSetFeatures e s) s.ev.intakeFits := by
  simp [execSetFeatures]
@[simp] theorem execGetFeatures_intakeKept (e : Sqe) (s : State) : IntakeKept (execGetFeatures e s) s.ev.intakeFits := by
  simp [execGetFeatures]
@[simp] theorem execAsynchronousEventRequest_intakeKept (e : Sqe) (s : State) :
    IntakeKept (execAsynchronousEventRequest e s) s.ev.intakeFits := by
  simp [execAsynchronousEventRequest]
@[simp] theorem State.abortCmd_intakeFits (s : State) (h : HostCmd) : (s.abortCmd h).ev.intakeFits = s.ev.intakeFits := by
  simp [State.abortCmd]
@[simp] theorem execAbort_intakeKept (e : Sqe) (s : State) :
    IntakeKept (execAbort e s) s.ev.intakeFits := by
  simp only [execAbort, intakeKept_ok]
  refine fun h => (State.nvme_intakeFits _ _ _ fun _ _ => ?_).trans h
  (repeat' split) <;> simp
@[simp] theorem execDirectiveSend_intakeKept (e : Sqe) (s : State) : IntakeKept (execDirectiveSend e s) s.ev.intakeFits := by
  simp only [execDirectiveSend, intakeKept_ok]
  refine fun h => (State.nvme_intakeFits _ _ _ fun _ _ => ?_).trans h
  (repeat' split) <;> simp
@[simp] theorem execDirectiveReceive_intakeKept (e : Sqe) (s : State) : IntakeKept (execDirectiveReceive e s) s.ev.intakeFits := by
  simp [execDirectiveReceive]
@[simp] theorem execNvmeRead_intakeKept (e : Sqe) (s : State) : IntakeKept (execNvmeRead e s) s.ev.intakeFits := by simp [execNvmeRead]
@[simp] theorem execNvmeWrite_intakeKept (e : Sqe) (s : State) : IntakeKept (execNvmeWrite e s) s.ev.intakeFits := by simp [execNvmeWrite]
@[simp] theorem execFlush_intakeKept (e : Sqe) (s : State) : IntakeKept (execFlush e s) s.ev.intakeFits := by simp [execFlush]
@[simp] theorem execWriteZeroes_intakeKept (e : Sqe) (s : State) : IntakeKept (execWriteZeroes e s) s.ev.intakeFits := by
  simp [execWriteZeroes]
@[simp] theorem execDatasetManagement_intakeKept (e : Sqe) (s : State) : IntakeKept (execDatasetManagement e s) s.ev.intakeFits := by
  simp [execDatasetManagement]
@[simp] theorem execUnsupportedCommand_intakeKept (e : Sqe) (s : State) : IntakeKept (execUnsupportedCommand e s) s.ev.intakeFits := by
  simp [execUnsupportedCommand]

/-! ## The operations of Machine/Frames -/

@[simp] theorem State.touchFrame_intakeFits (s : State) (id : Nat) : (s.touchFrame id).ev.intakeFits = s.ev.intakeFits := rfl
@[simp] theorem State.cfgOpen_intakeFits (s : State) (q : VReq) : (s.cfgOpen q).ev.intakeFits = s.ev.intakeFits := by simp [State.cfgOpen]
@[simp] theorem execCfgOpen_intakeKept (q : VReq) (s : State) : IntakeKept (execCfgOpen q s) s.ev.intakeFits := by simp [execCfgOpen]
@[simp] theorem State.cfgStage_intakeFits (s : State) (q : VReq) : (s.cfgStage q).ev.intakeFits = s.ev.intakeFits := by
  unfold State.cfgStage
  (repeat' split) <;> simp
@[simp] theorem execCfgStage_intakeKept (q : VReq) (s : State) : IntakeKept (execCfgStage q s) s.ev.intakeFits := by simp [execCfgStage]
@[simp] theorem State.cfgCheck_intakeFits (s : State) (q : VReq) : (s.cfgCheck q).ev.intakeFits = s.ev.intakeFits := by
  unfold State.cfgCheck
  split <;> simp
@[simp] theorem execCfgCheck_intakeKept (q : VReq) (s : State) : IntakeKept (execCfgCheck q s) s.ev.intakeFits := by simp [execCfgCheck]
@[simp] theorem State.cfgApply_intakeFits (s : State) (q : VReq) : (s.cfgApply q).ev.intakeFits = s.ev.intakeFits := by
  simp only [State.cfgApply]
  (repeat' split) <;> simp
@[simp] theorem execCfgApply_intakeKept (q : VReq) (s : State) : IntakeKept (execCfgApply q s) s.ev.intakeFits := by simp [execCfgApply]
@[simp] theorem State.cfgCancel_intakeFits (s : State) (q : VReq) : (s.cfgCancel q).ev.intakeFits = s.ev.intakeFits := by
  unfold State.cfgCancel
  split <;> simp
@[simp] theorem execCfgCancel_intakeKept (q : VReq) (s : State) : IntakeKept (execCfgCancel q s) s.ev.intakeFits := by simp [execCfgCancel]
@[simp] theorem State.cfgStatus_intakeFits (s : State) (q : VReq) : (s.cfgStatus q).ev.intakeFits = s.ev.intakeFits := by
  unfold State.cfgStatus
  split <;> simp
@[simp] theorem execCfgStatus_intakeKept (q : VReq) (s : State) : IntakeKept (execCfgStatus q s) s.ev.intakeFits := by simp [execCfgStatus]
@[simp] theorem State.cfgRead_intakeFits (s : State) (q : VReq) : (s.cfgRead q).ev.intakeFits = s.ev.intakeFits := by simp [State.cfgRead]
@[simp] theorem execCfgRead_intakeKept (q : VReq) (s : State) : IntakeKept (execCfgRead q s) s.ev.intakeFits := by simp [execCfgRead]
@[simp] theorem execModeGet_intakeKept (q : VReq) (s : State) : IntakeKept (execModeGet q s) s.ev.intakeFits := by simp [execModeGet]
@[simp] theorem execFrameIdleExpiry_intakeKept (frame : Nat) (s : State) : IntakeKept (execFrameIdleExpiry frame s) s.ev.intakeFits := by
  unfold execFrameIdleExpiry
  split <;> simp
@[simp] theorem State.takePeerFrame_intakeFits (s : State) (id tick : Nat) (items : List Item) :
    (s.takePeerFrame id tick items).ev.intakeFits = s.ev.intakeFits := by simp [State.takePeerFrame]
@[simp] theorem execFrameReadiness_intakeKept (fromCoord : Bool) (frame tick : Nat) (items : List Item) (yes : Bool) (s : State) :
    IntakeKept (execFrameReadiness fromCoord frame tick items yes s) s.ev.intakeFits := by simp [execFrameReadiness]
@[simp] theorem execFrameReadinessDeadline_intakeKept (frame : Nat) (s : State) :
    IntakeKept (execFrameReadinessDeadline frame s) s.ev.intakeFits := by
  unfold execFrameReadinessDeadline
  split <;> simp
@[simp] theorem execGoRecordLateConfirm_intakeKept (frame : Nat) (s : State) :
    IntakeKept (execGoRecordLateConfirm frame s) s.ev.intakeFits := by
  unfold execGoRecordLateConfirm
  split <;> simp
@[simp] theorem State.tryWake_intakeFits (s : State) : s.tryWake.ev.intakeFits = s.ev.intakeFits := by
  simp only [State.tryWake]
  (repeat' split) <;> simp
@[simp] theorem execWakeModeRecheck_intakeKept (s : State) : IntakeKept (execWakeModeRecheck s) s.ev.intakeFits := by
  unfold execWakeModeRecheck
  split <;> simp
@[simp] theorem execFrameStatusExpiry_intakeKept (frame : Nat) (s : State) :
    IntakeKept (execFrameStatusExpiry frame s) s.ev.intakeFits := by
  simp [execFrameStatusExpiry]

/-! ## The operations of Machine/ColonyOps -/

@[simp] theorem State.grantToken_intakeFits (s : State) (head : Nat) (t : WakeToken) :
    (s.grantToken head t).ev.intakeFits = s.ev.intakeFits := by
  simp [State.grantToken]
@[simp] theorem State.newToken_intakeFits (s : State) (a head hive prio : Nat) :
    (s.newToken a head hive prio).ev.intakeFits = s.ev.intakeFits := by
  simp [State.newToken]
@[simp] theorem State.recallToken_intakeFits (s : State) (t : WakeToken) : (s.recallToken t).ev.intakeFits = s.ev.intakeFits := by
  simp [State.recallToken]
@[simp] theorem State.refuseToken_intakeFits (s : State) (a head num : Nat) :
    (s.refuseToken a head num).ev.intakeFits = s.ev.intakeFits := by
  simp [State.refuseToken]
@[simp] theorem State.recallOver_intakeFits (s : State) (prio : Nat) : (s.recallOver prio).ev.intakeFits = s.ev.intakeFits := by
  simp [State.recallOver]
@[simp] theorem State.renewToken_intakeFits (s : State) (head prio : Nat) (t : WakeToken) :
    (s.renewToken head prio t).ev.intakeFits = s.ev.intakeFits := by simp [State.renewToken]
@[simp] theorem State.judgeToken_intakeFits (s : State) (a head hive prio num : Nat) :
    (s.judgeToken a head hive prio num).ev.intakeFits = s.ev.intakeFits := by
  simp only [State.judgeToken]
  split <;> simp
@[simp] theorem State.tokenDormant_intakeFits (s : State) (id : Nat) : (s.tokenDormant id).ev.intakeFits = s.ev.intakeFits := by
  simp [State.tokenDormant]
@[simp] theorem State.sendReport_intakeFits (s : State) : s.sendReport.ev.intakeFits = s.ev.intakeFits := rfl
@[simp] theorem State.colonyTick_intakeFits (s : State) : s.colonyTick.ev.intakeFits = s.ev.intakeFits := by simp [State.colonyTick]

/-! ## The operations of Machine/Locator -/

@[simp] theorem execLocPut_intakeKept (e : Sqe) (s : State) : IntakeKept (execLocPut e s) s.ev.intakeFits := by simp [execLocPut]
@[simp] theorem execLocPutPart_intakeKept (e : Sqe) (s : State) : IntakeKept (execLocPutPart e s) s.ev.intakeFits := by
  simp [execLocPutPart]
@[simp] theorem execLocGet_intakeKept (e : Sqe) (s : State) : IntakeKept (execLocGet e s) s.ev.intakeFits := by simp [execLocGet]
@[simp] theorem execLocStat_intakeKept (e : Sqe) (s : State) : IntakeKept (execLocStat e s) s.ev.intakeFits := by simp [execLocStat]
@[simp] theorem execLocRefresh_intakeKept (e : Sqe) (s : State) : IntakeKept (execLocRefresh e s) s.ev.intakeFits := by
  simp [execLocRefresh]
@[simp] theorem execLocRelease_intakeKept (e : Sqe) (s : State) : IntakeKept (execLocRelease e s) s.ev.intakeFits := by
  simp [execLocRelease]
@[simp] theorem execLocSeal_intakeKept (e : Sqe) (s : State) : IntakeKept (execLocSeal e s) s.ev.intakeFits := by simp [execLocSeal]
@[simp] theorem State.addParts_intakeFits (s : State) (o : Obj) : (s.addParts o).ev.intakeFits = s.ev.intakeFits := by simp [State.addParts]
@[simp] theorem State.buildIndex_intakeFits (s : State) (o : Obj) (digest : Bytes) :
    (s.buildIndex o digest).1.ev.intakeFits = s.ev.intakeFits := by
  simp only [State.buildIndex]
  split
  · simp
  · rw [State.storeManifest_intakeFits]
    exact foldl_fst_intakeFits (fun _ _ => by simp) _ _
@[simp] theorem State.createDirect_intakeFits (s : State) (o : Obj) (p : Part) : (s.createDirect o p).ev.intakeFits = s.ev.intakeFits := by
  simp [State.createDirect]
@[simp] theorem State.createMulti_intakeFits (s : State) (o : Obj) : (s.createMulti o).ev.intakeFits = s.ev.intakeFits := by
  simp [State.createMulti]
@[simp] theorem execObjectCreateCommit_intakeKept (key : Nat) (s : State) : IntakeKept (execObjectCreateCommit key s) s.ev.intakeFits := by
  unfold execObjectCreateCommit
  (repeat' split) <;> simp
@[simp] theorem execTokenHorizonExpiry_intakeKept (domain : Nat) (token : Bytes) (s : State) :
    IntakeKept (execTokenHorizonExpiry domain token s) s.ev.intakeFits := by
  unfold execTokenHorizonExpiry
  split <;> simp
@[simp] theorem execOpenObjectExpiry_intakeKept (key : Nat) (s : State) : IntakeKept (execOpenObjectExpiry key s) s.ev.intakeFits := by
  unfold execOpenObjectExpiry
  split <;> simp
@[simp] theorem execReleasedObjectExpiry_intakeKept (key : Nat) (s : State) :
    IntakeKept (execReleasedObjectExpiry key s) s.ev.intakeFits := by
  unfold execReleasedObjectExpiry
  split <;> simp
@[simp] theorem execLedgerEntryExpiry_intakeKept (domain : Nat) (old : Place) (s : State) :
    IntakeKept (execLedgerEntryExpiry domain old s) s.ev.intakeFits := by
  unfold execLedgerEntryExpiry
  split <;> simp
@[simp] theorem execManifestReleaseWalk_intakeKept (domain chunk : Nat) (s : State) :
    IntakeKept (execManifestReleaseWalk domain chunk s) s.ev.intakeFits := by simp [execManifestReleaseWalk]
@[simp] theorem execLocStatPatienceExpiry_intakeKept (ctrl qid cid : Nat) (s : State) :
    IntakeKept (execLocStatPatienceExpiry ctrl qid cid s) s.ev.intakeFits := by
  unfold execLocStatPatienceExpiry
  (repeat' split) <;> simp
@[simp] theorem execAcceptanceResume_intakeKept (ctrl qid cid : Nat) (s : State) :
    IntakeKept (execAcceptanceResume ctrl qid cid s) s.ev.intakeFits := by
  unfold execAcceptanceResume
  (repeat' split) <;> simp

/-! ## The operations of Machine/ReplOps -/

@[simp] theorem State.group'_intakeFits (s : State) (g : Nat) (f : RGroup → RGroup) : (s.group' g f).ev.intakeFits = s.ev.intakeFits := rfl
@[simp] theorem State.replica'_intakeFits (s : State) (g source : Nat) (f : Replica → Replica) :
    (s.replica' g source f).ev.intakeFits = s.ev.intakeFits := rfl
@[simp] theorem State.wrapKeys_intakeFits (s : State) (d : Nat) : (s.wrapKeys d).1.ev.intakeFits = s.ev.intakeFits := by
  unfold State.wrapKeys
  split <;> simp
@[simp] theorem State.setupMsg_intakeFits (s : State) (g : RGroup) : (s.setupMsg g).1.ev.intakeFits = s.ev.intakeFits :=
  foldl_fst_intakeFits (fun _ _ => by simp) _ _
@[simp] theorem State.wireItems_intakeFits (s : State) (l : List ShipItem) : (s.wireItems l).1.ev.intakeFits = s.ev.intakeFits := by
  refine foldl_fst_intakeFits (fun _ _ => ?_) _ _
  split <;> simp
@[simp] theorem State.wireEntries_intakeFits (s : State) (l : List ShipEntry) : (s.wireEntries l).1.ev.intakeFits = s.ev.intakeFits :=
  foldl_fst_intakeFits (fun _ _ => by simp) _ _
@[simp] theorem State.layBase_intakeFits (s : State) (g : Nat) (es : List ShipEntry) :
    (s.layBase g es).ev.intakeFits = s.ev.intakeFits := by
  simp [State.layBase]
@[simp] theorem State.startBase_intakeFits (s : State) (id : Nat) : (s.startBase id).ev.intakeFits = s.ev.intakeFits := by
  unfold State.startBase
  split <;> simp
@[simp] theorem State.lapse_intakeFits (s : State) (g : Nat) : (s.lapse g).ev.intakeFits = s.ev.intakeFits := by simp [State.lapse]
@[simp] theorem State.answerAsk_intakeFits (s : State) (src domain : Nat) (fp : Bytes) (len : Nat) :
    (s.answerAsk src domain fp len).ev.intakeFits = s.ev.intakeFits := by
  simp only [State.answerAsk]
  (repeat' split) <;> simp
@[simp] theorem State.serveAsks_intakeFits (s : State) : s.serveAsks.ev.intakeFits = s.ev.intakeFits := by simp [State.serveAsks]
@[simp] theorem State.shipChunk_intakeFits (s : State) (g : RGroup) (chunk : Nat) :
    (s.shipChunk g chunk).ev.intakeFits = s.ev.intakeFits := by
  unfold State.shipChunk
  split <;> simp
@[simp] theorem State.sendBatch_intakeFits (s : State) (id : Nat) (b : Batch) : (s.sendBatch id b).ev.intakeFits = s.ev.intakeFits := by
  unfold State.sendBatch
  split <;> simp
@[simp] theorem State.offerBatch_intakeFits (s : State) (id : Nat) (b : Batch) : (s.offerBatch id b).ev.intakeFits = s.ev.intakeFits := by
  unfold State.offerBatch
  split <;> simp
@[simp] theorem State.openBatch_intakeFits (s : State) (id first last : Nat) (base : Bool) (es : List ShipEntry) :
    (s.openBatch id first last base es).ev.intakeFits = s.ev.intakeFits := by
  unfold State.openBatch
  split <;> simp
@[simp] theorem State.closeBatch_intakeFits (s : State) (id : Nat) : (s.closeBatch id).ev.intakeFits = s.ev.intakeFits := by
  unfold State.closeBatch
  (repeat' split) <;> simp
@[simp] theorem State.askTarget_intakeFits (s : State) (g : RGroup) (head : Nat) :
    (s.askTarget g head).ev.intakeFits = s.ev.intakeFits := by
  simp [State.askTarget]
@[simp] theorem State.resumeGroup_intakeFits (s : State) (id : Nat) : (s.resumeGroup id).ev.intakeFits = s.ev.intakeFits := by
  unfold State.resumeGroup
  split <;> simp
@[simp] theorem State.resumeGroups_intakeFits (s : State) (p : RGroup → Bool) : (s.resumeGroups p).ev.intakeFits = s.ev.intakeFits := by
  simp [State.resumeGroups]
@[simp] theorem State.landShipped_intakeFits (s : State) (d : Nat) (frame content fp : Bytes) (bytewise : Bool) :
    (s.landShipped d frame content fp bytewise).1.ev.intakeFits = s.ev.intakeFits := by
  simp only [State.landShipped]
  repeat' split
  any_goals simp
  all_goals exact intakeFits_of_eq ‹_› (by simp)
@[simp] theorem State.buildTop_intakeFits (s : State) (d len : Nat) (token digest : Bytes) (multi : Bool) (leaves : List (Bytes × Nat))
    (cuts : List (Nat × Nat)) : (s.buildTop d len token digest multi leaves cuts).1.ev.intakeFits = s.ev.intakeFits := by
  simp only [State.buildTop, State.flushMap_intakeFits]
  split
  · simp
  · split
    · rw [State.storeManifest_intakeFits]
      exact foldl_fst_intakeFits (fun _ _ => by simp) _ _
    · rw [State.storeManifest_intakeFits]
      exact (foldl_fst_intakeFits (fun _ _ => by simp) _ _).trans (foldl_fst_intakeFits (fun _ _ => by simp) _ _)
@[simp] theorem State.buildTops_intakeFits (s : State) (g source : Nat) (es : List ShipEntry) :
    (s.buildTops g source es).ev.intakeFits = s.ev.intakeFits := by
  simp (disch := (simp only [keepsIntake_iff]; intros; (repeat' split) <;> simp)) [State.buildTops]
@[simp] theorem State.shipSettingsIn_intakeFits (s : State) (es : List ShipEntry) :
    (s.shipSettingsIn es).ev.intakeFits = s.ev.intakeFits := by
  unfold State.shipSettingsIn
  refine foldl_intakeFits_of (fun _ _ => ?_) _ _
  (repeat' split) <;> simp
@[simp] theorem State.tryBatch_intakeFits (s : State) (g source : Nat) : (s.tryBatch g source).ev.intakeFits = s.ev.intakeFits := by
  unfold State.tryBatch
  (repeat' split) <;> simp
@[simp] theorem State.trySwitch_intakeFits (s : State) (g source : Nat) : (s.trySwitch g source).ev.intakeFits = s.ev.intakeFits := by
  unfold State.trySwitch
  split <;> simp
@[simp] theorem State.keepStaging_intakeFits (s : State) (g source : Nat) : (s.keepStaging g source).ev.intakeFits = s.ev.intakeFits := by
  unfold State.keepStaging
  split <;> simp
@[simp] theorem State.replTick_intakeFits (s : State) : s.replTick.ev.intakeFits = s.ev.intakeFits := by simp [State.replTick]

/-! ## The operations of Machine/HivePower -/

@[simp] theorem State.busSend_intakeFits (s : State) (hive cmd arg : Nat) : (s.busSend hive cmd arg).ev.intakeFits = s.ev.intakeFits := rfl
@[simp] theorem State.sendVote_intakeFits (s : State) (hive : Nat) (up : Bool) : (s.sendVote hive up).ev.intakeFits = s.ev.intakeFits := rfl
@[simp] theorem State.poll_intakeFits (s : State) (bus : Nat) : (s.poll bus).ev.intakeFits = s.ev.intakeFits := by
  simp only [State.poll]
  (repeat' split) <;> simp
@[simp] theorem execHcbPoll_intakeKept (bus : Nat) (s : State) : IntakeKept (execHcbPoll bus s) s.ev.intakeFits := by simp [execHcbPoll]
@[simp] theorem execHcbReply_intakeKept (hive seq status : Nat) (b : ShelfBlock) (s : State) :
    IntakeKept (execHcbReply hive seq status b s) s.ev.intakeFits := by
  unfold execHcbReply
  split <;> simp
@[simp] theorem execHcbRequestRetry_intakeKept (bus seq : Nat) (s : State) :
    IntakeKept (execHcbRequestRetry bus seq s) s.ev.intakeFits := by
  unfold execHcbRequestRetry
  split <;> simp
@[simp] theorem execShelfSilentTimeout_intakeKept (hive : Nat) (s : State) :
    IntakeKept (execShelfSilentTimeout hive s) s.ev.intakeFits := by
  unfold execShelfSilentTimeout
  split <;> simp
@[simp] theorem State.memberTimeout_intakeFits (s : State) (link ord member : Nat) :
    (s.memberTimeout link ord member).ev.intakeFits = s.ev.intakeFits := by simp [State.memberTimeout]
@[simp] theorem execMemberReadTimeout_intakeKept (ord member : Nat) (s : State) :
    IntakeKept (execMemberReadTimeout ord member s) s.ev.intakeFits := by
  unfold execMemberReadTimeout
  split <;> simp
@[simp] theorem execWakeTimeout_intakeKept (hive : Nat) (s : State) : IntakeKept (execWakeTimeout hive s) s.ev.intakeFits := by
  unfold execWakeTimeout
  split <;> simp
@[simp] theorem execWakeRetry_intakeKept (hive : Nat) (s : State) : IntakeKept (execWakeRetry hive s) s.ev.intakeFits := by
  unfold execWakeRetry
  (repeat' split) <;> simp
@[simp] theorem execHiveIdleDarkExpiry_intakeKept (hive : Nat) (s : State) :
    IntakeKept (execHiveIdleDarkExpiry hive s) s.ev.intakeFits := by
  unfold execHiveIdleDarkExpiry
  split <;> simp
@[simp] theorem execDarkPoint_intakeKept (hive : Nat) (s : State) : IntakeKept (execDarkPoint hive s) s.ev.intakeFits := by
  unfold execDarkPoint
  split <;> simp
@[simp] theorem execGatherWakeTrigger_intakeKept (hive : Nat) (s : State) : IntakeKept (execGatherWakeTrigger hive s) s.ev.intakeFits := by
  simp [execGatherWakeTrigger]
@[simp] theorem execGatherDeadline_intakeKept (ctrl qid cid : Nat) (s : State) :
    IntakeKept (execGatherDeadline ctrl qid cid s) s.ev.intakeFits := by
  unfold execGatherDeadline
  (repeat' split) <;> simp
@[simp] theorem execTokenRenewal_intakeKept (hive : Nat) (s : State) : IntakeKept (execTokenRenewal hive s) s.ev.intakeFits := by
  unfold execTokenRenewal
  (repeat' split) <;> simp
@[simp] theorem execTokenRequestRetry_intakeKept (hive : Nat) (s : State) : IntakeKept (execTokenRequestRetry hive s) s.ev.intakeFits := by
  unfold execTokenRequestRetry
  (repeat' split) <;> simp
@[simp] theorem execWorkerTokenExpiry_intakeKept (hive : Nat) (s : State) : IntakeKept (execWorkerTokenExpiry hive s) s.ev.intakeFits := by
  unfold execWorkerTokenExpiry
  (repeat' split) <;> simp
@[simp] theorem execQueenAutonomyEnd_intakeKept (s : State) : IntakeKept (execQueenAutonomyEnd s) s.ev.intakeFits := by
  unfold execQueenAutonomyEnd
  split <;> simp

/-! ## The operations of Machine/MoveOps -/

@[simp] theorem State.programUnit_intakeFits (s : State) (r : Region) (m : Member) (foot unit : Bytes) :
    (s.programUnit r m foot unit).ev.intakeFits = s.ev.intakeFits := rfl
@[simp] theorem State.commitStripe_intakeFits (s : State) (ord : Nat) : (s.commitStripe ord).ev.intakeFits = s.ev.intakeFits := by
  unfold State.commitStripe
  split <;> simp
@[simp] theorem State.stripeNow_intakeFits (s : State) (ord : Nat) : (s.stripeNow ord).ev.intakeFits = s.ev.intakeFits := by
  unfold State.stripeNow
  split <;> simp
@[simp] theorem State.rebuildTarget_intakeFits (s : State) (t : Stripe) (i : Nat) :
    (s.rebuildTarget t i).1.ev.intakeFits = s.ev.intakeFits := by
  have htake (l : Nat) (x : State × Option Member) (use : BlockUse) (qlc : Bool) (need : Nat) : (match x.2 with
      | some _ => x
      | none => x.1.takeUnit l use qlc need).1.ev.intakeFits = x.1.ev.intakeFits := by
    split <;> simp
  unfold State.rebuildTarget
  exact (foldl_fst_intakeFits (fun x l => htake l x ..) _ _).trans (foldl_fst_intakeFits (fun x l => htake l x ..) _ _)
@[simp] theorem State.replaceUnits_intakeFits (s : State) (t : Stripe) (us : List (Nat × Bytes)) (ms at_ : List Member) :
    (s.replaceUnits t us ms at_).1.ev.intakeFits = s.ev.intakeFits := by
  induction us generalizing s ms at_ with
  | nil => rfl
  | cons x us ih =>
    unfold State.replaceUnits
    split
    · exact intakeFits_of_eq ‹_› (by simp)
    · have htarget := intakeFits_of_eq ‹State.rebuildTarget .. = _› (State.rebuildTarget_intakeFits ..)
      simp [ih, htarget]
@[simp] theorem State.commitMembers_intakeFits (s : State) (t : Stripe) (ms : List Member) :
    (s.commitMembers t ms).ev.intakeFits = s.ev.intakeFits := by
  simp [State.commitMembers]
@[simp] theorem State.loseAt_intakeFits (s : State) (t : Stripe) : (s.loseAt t).ev.intakeFits = s.ev.intakeFits := by simp [State.loseAt]
@[simp] theorem State.rebuild'_intakeFits (s : State) (h : Nat) (f : Rebuild → Rebuild) :
    (s.rebuild' h f).ev.intakeFits = s.ev.intakeFits := rfl
@[simp] theorem State.rebuildCkpt_intakeFits (s : State) (r : Rebuild) : (s.rebuildCkpt r).ev.intakeFits = s.ev.intakeFits := by
  simp [State.rebuildCkpt]
@[simp] theorem State.metaRewrite_intakeFits (s : State) (t : Stripe) : (s.metaRewrite t).ev.intakeFits = s.ev.intakeFits := rfl
@[simp] theorem State.rebuildStripe_intakeFits (s : State) (r : Rebuild) (t : Stripe) :
    (s.rebuildStripe r t).ev.intakeFits = s.ev.intakeFits := by
  simp only [State.rebuildStripe]
  repeat' split
  any_goals simp
  all_goals exact intakeFits_of_eq ‹_› (by simp)
@[simp] theorem State.secondFails_intakeFits (s : State) (r : Rebuild) : (s.secondFails r).ev.intakeFits = s.ev.intakeFits := by
  unfold State.secondFails
  (repeat' split) <;> simp
@[simp] theorem State.resumeRebuild_intakeFits (s : State) (h : Nat) : (s.resumeRebuild h).ev.intakeFits = s.ev.intakeFits := by
  simp only [State.resumeRebuild]
  (repeat' split) <;> simp
@[simp] theorem State.joinRebuild_intakeFits (s : State) (h : Nat) : (s.joinRebuild h).ev.intakeFits = s.ev.intakeFits := by
  unfold State.joinRebuild
  split <;> simp
@[simp] theorem State.resumeReshape_intakeFits (s : State) (es : List JournalEntry) (h : Nat) :
    (s.resumeReshape es h).ev.intakeFits = s.ev.intakeFits := by
  unfold State.resumeReshape
  (repeat' split) <;> simp
@[simp] theorem State.takeReshape_intakeFits (s : State) (h : Nat) : (s.takeReshape h).ev.intakeFits = s.ev.intakeFits := by
  simp only [State.takeReshape]
  split <;> simp
@[simp] theorem State.undoReshape_intakeFits (s : State) (h : Nat) : (s.undoReshape h).ev.intakeFits = s.ev.intakeFits := by
  unfold State.undoReshape
  split <;> simp
@[simp] theorem State.rebuildTurn_intakeFits (s : State) (r : Rebuild) : (s.rebuildTurn r).ev.intakeFits = s.ev.intakeFits := by
  simp [State.rebuildTurn]
@[simp] theorem State.retireStep_intakeFits (s : State) (h : Nat) : (s.retireStep h).ev.intakeFits = s.ev.intakeFits := by
  simp only [State.retireStep]
  repeat' split
  any_goals simp
  all_goals exact intakeFits_of_eq ‹_› (by simp)
@[simp] theorem State.loseUnsound_intakeFits (s : State) (t : Stripe) : (s.loseUnsound t).ev.intakeFits = s.ev.intakeFits := by
  simp only [State.loseUnsound]
  simp (disch := (simp only [keepsIntake_iff]; intros; (repeat' split) <;> simp))
@[simp] theorem State.placeAll_intakeFits (s : State) (ord : Nat) (es : List (EnvEntry × Place × Bytes)) :
    (s.placeAll ord es).ev.intakeFits = s.ev.intakeFits := by simp [State.placeAll]
@[simp] theorem State.dropStripes_intakeFits (s : State) (ords : List Nat) : (s.dropStripes ords).ev.intakeFits = s.ev.intakeFits := by
  simp [State.dropStripes]
@[simp] theorem State.copySlc_intakeFits (s : State) (hive : Nat) (p : Purpose) (n : Nat) (es : List (EnvEntry × Place × Bytes)) :
    (s.copySlc hive p n es).1.ev.intakeFits = s.ev.intakeFits := by
  induction n generalizing s es with
  | zero => cases es <;> rfl
  | succ n ih => cases es with
    | nil => rfl
    | cons e es =>
      unfold State.copySlc
      dsimp only
      split
      · exact intakeFits_of_eq ‹_› (by simp)
      · have hopen := intakeFits_of_eq ‹State.openStripe .. = _› (State.openStripe_intakeFits ..)
        simp [ih, hopen]
@[simp] theorem State.convertSets_intakeFits (s : State) (h : Nat) : (s.convertSets h).ev.intakeFits = s.ev.intakeFits := by
  simp (disch := (simp only [keepsIntake_iff]; intros; (repeat' split) <;> simp)) [State.convertSets]
@[simp] theorem State.newRow_intakeFits (s : State) (h : Nat) (use : BlockUse) : (s.newRow h use).ev.intakeFits = s.ev.intakeFits := by
  simp [State.newRow]
@[simp] theorem State.row'_intakeFits (s : State) (x : Nat × Nat × Nat) (f : FoldRow → FoldRow) :
    (s.row' x f).ev.intakeFits = s.ev.intakeFits := rfl
@[simp] theorem State.rowStripe_intakeFits (s : State) (r : FoldRow) (p : Purpose) (es : List (EnvEntry × Place × Bytes)) :
    (s.rowStripe r p es).1.ev.intakeFits = s.ev.intakeFits := by
  unfold State.rowStripe
  dsimp only
  split
  · rfl
  split
  · rfl
  split
  · exact intakeFits_of_eq ‹_› (by simp)
  · have hord := intakeFits_of_eq ‹State.allocStripe _ = _› (State.allocStripe_intakeFits _)
    simp (disch := (simp only [keepsIntake_iff]; intros; (repeat' split) <;> simp)) [hord]
@[simp] theorem State.copyRow_intakeFits (s : State) (x : Nat × Nat × Nat) (p : Purpose) (n : Nat) (es : List (EnvEntry × Place × Bytes)) :
    (s.copyRow x p n es).ev.intakeFits = s.ev.intakeFits := by
  induction n generalizing s es with
  | zero => cases es <;> rfl
  | succ n ih => cases es with
    | nil => rfl
    | cons e es =>
      unfold State.copyRow
      split
      · rfl
      dsimp only
      split
      · have hrow := intakeFits_of_eq ‹State.rowStripe .. = _› (State.rowStripe_intakeFits ..)
        simp [ih, hrow]
      · exact intakeFits_of_eq ‹_› (by simp)
@[simp] theorem State.fillRow_intakeFits (s : State) (x : Nat × Nat × Nat) (p : Purpose) (n : Nat) :
    (s.fillRow x p n).ev.intakeFits = s.ev.intakeFits := by
  induction n generalizing s with
  | zero => rfl
  | succ n ih =>
    unfold State.fillRow
    split
    · rfl
    split
    · rw [ih]
      exact intakeFits_of_eq ‹_› (by simp)
    · exact intakeFits_of_eq ‹_› (by simp)
@[simp] theorem State.padSet_intakeFits (s : State) (x : Nat × Nat × Nat × Nat) : (s.padSet x).ev.intakeFits = s.ev.intakeFits := by
  simp [State.padSet]
@[simp] theorem State.sealRow_intakeFits (s : State) (x : Nat × Nat × Nat) : (s.sealRow x).ev.intakeFits = s.ev.intakeFits := by
  simp only [State.sealRow]
  (repeat' split) <;> simp (disch := (simp only [keepsIntake_iff]; intros; (repeat' split) <;> simp))
@[simp] theorem State.sealIfFull_intakeFits (s : State) (x : Nat × Nat × Nat) : (s.sealIfFull x).ev.intakeFits = s.ev.intakeFits := by
  unfold State.sealIfFull
  split <;> simp
@[simp] theorem State.judgeFold_intakeFits (s : State) : s.judgeFold.ev.intakeFits = s.ev.intakeFits := by simp [State.judgeFold]
@[simp] theorem State.judgeGc_intakeFits (s : State) (h : Nat) : (s.judgeGc h).ev.intakeFits = s.ev.intakeFits := by simp [State.judgeGc]
@[simp] theorem State.placeStripes_intakeFits (s : State) (ords : List Nat) : (s.placeStripes ords).ev.intakeFits = s.ev.intakeFits := by
  simp [State.placeStripes]
@[simp] theorem State.eraseEnds_intakeFits (s : State) (b : BlockSet) : (s.eraseEnds b).ev.intakeFits = s.ev.intakeFits := by
  simp [State.eraseEnds]

/-! ## The operations of Machine/MetaOps -/

@[simp] theorem State.loseLeaf_intakeFits (s : State) (d key : Nat) : (s.loseLeaf d key).ev.intakeFits = s.ev.intakeFits := by
  simp [State.loseLeaf]
@[simp] theorem State.losePage_intakeFits (s : State) (n : PageName) : (s.losePage n).ev.intakeFits = s.ev.intakeFits := by
  unfold State.losePage
  (repeat' split) <;> simp
@[simp] theorem State.loseMeta_intakeFits (s : State) (p : MetaPage) : (s.loseMeta p).ev.intakeFits = s.ev.intakeFits := by
  simp [State.loseMeta]
@[simp] theorem State.readMeta_intakeFits (s : State) (p : MetaPage) : (s.readMeta p).ev.intakeFits = s.ev.intakeFits := by
  unfold State.readMeta
  split <;> simp
@[simp] theorem State.readAgain_intakeFits (s : State) : s.readAgain.ev.intakeFits = s.ev.intakeFits := by simp [State.readAgain]
@[simp] theorem State.readMetas_intakeFits (s : State) : s.readMetas.ev.intakeFits = s.ev.intakeFits := by simp [State.readMetas]
@[simp] theorem State.anchorUnit_intakeFits (s : State) (bytes : Bytes) (l : Link) :
    (s.anchorUnit bytes l).ev.intakeFits = s.ev.intakeFits := by
  simp only [State.anchorUnit]
  (repeat' split) <;> simp
@[simp] theorem State.writeAnchor_intakeFits (s : State) : s.writeAnchor.ev.intakeFits = s.ev.intakeFits := by
  unfold State.writeAnchor
  refine (foldl_intakeFits_of (fun _ _ => foldl_intakeFits_of (fun _ _ => ?_) _ _) _ _).trans (congrArg _ (State.me'_ev ..))
  split <;> simp
@[simp] theorem State.setRow_intakeFits (s : State) (r : MetaRow) (st : BlockState) (f : BlockSet → BlockSet) :
    (s.setRow r st f).ev.intakeFits = s.ev.intakeFits := by simp [State.setRow]
@[simp] theorem State.takeRow_intakeFits (s : State) (hive : Nat) : (s.takeRow hive).1.ev.intakeFits = s.ev.intakeFits := by
  simp only [State.takeRow]
  (repeat' split) <;> simp
@[simp] theorem State.openMeta_intakeFits (s : State) (hive : Nat) (pages : List Bytes) :
    (s.openMeta hive pages).1.ev.intakeFits = s.ev.intakeFits := by
  unfold State.openMeta
  split
  · rfl
  split
  · exact intakeFits_of_eq ‹_› (by simp)
  have hrow := intakeFits_of_eq ‹State.takeRow .. = _› (State.takeRow_intakeFits ..)
  split
  · exact intakeFits_of_eq ‹_› (by simp [hrow])
  · have hord := intakeFits_of_eq ‹State.allocStripe _ = _› (State.allocStripe_intakeFits _)
    simp [hord, hrow]
@[simp] theorem State.metaStripe_intakeFits (s : State) (hive : Nat) (pages : List Bytes) :
    (s.metaStripe hive pages).1.ev.intakeFits = s.ev.intakeFits := by
  simp only [State.metaStripe]
  repeat' split
  any_goals simp
  all_goals exact intakeFits_of_eq ‹_› (by simp)
@[simp] theorem State.metaWrite_intakeFits (s : State) (hive n : Nat) (ps : List Bytes) (acc : List MetaPtr) :
    (s.metaWrite hive n ps acc).1.ev.intakeFits = s.ev.intakeFits := by
  induction n generalizing s ps acc with
  | zero => cases ps <;> rfl
  | succ n ih => cases ps with
    | nil => rfl
    | cons p ps =>
      unfold State.metaWrite
      split
      · rw [ih]
        exact intakeFits_of_eq ‹_› (by simp)
      · exact intakeFits_of_eq ‹_› (by simp)
@[simp] theorem State.metaCopies_intakeFits (s : State) (pages : List Bytes) (hs : List Nat) (acc : List (List MetaPtr)) :
    (s.metaCopies pages hs acc).1.ev.intakeFits = s.ev.intakeFits := by
  induction hs generalizing s acc with
  | nil => rfl
  | cons h hs ih =>
    unfold State.metaCopies
    split
    · rw [ih]
      exact intakeFits_of_eq ‹_› (by simp)
    · exact intakeFits_of_eq ‹_› (by simp)
@[simp] theorem State.claimSeqs_intakeFits (s : State) (n n' : Nat) : (s.claimSeqs n n').ev.intakeFits = s.ev.intakeFits := by
  fun_induction State.claimSeqs s n n' <;> simp [*]
@[simp] theorem State.flushWith_intakeFits (s : State) (extra : List (MetaPage × Bytes)) :
    (s.flushWith extra).ev.intakeFits = s.ev.intakeFits := by
  simp only [State.flushWith]
  repeat' split
  any_goals simp
  all_goals exact intakeFits_of_eq ‹_› (by simp)
@[simp] theorem State.flush_intakeFits (s : State) : s.flush.ev.intakeFits = s.ev.intakeFits := by simp [State.flush]
@[simp] theorem State.takePages_intakeFits (s : State) : s.takePages.ev.intakeFits = s.ev.intakeFits := by simp [State.takePages]

/-! ## The operations of Machine/WalkOps -/

@[simp] theorem State.lineFails_intakeFits (s : State) (off : Nat) : (s.lineFails off).1.ev.intakeFits = s.ev.intakeFits := by
  simp [State.lineFails]

/-! ## The operations of Machine/PairOps -/

@[simp] theorem State.leaveReshapes_intakeFits (s : State) : s.leaveReshapes.ev.intakeFits = s.ev.intakeFits := by
  simp [State.leaveReshapes]
@[simp] theorem State.shadowFollow_intakeFits (s : State) (r : ShadowRec) : (s.shadowFollow r).ev.intakeFits = s.ev.intakeFits := by
  simp only [State.shadowFollow]
  (repeat' split) <;> simp (disch := (simp only [keepsIntake_iff]; intros; (repeat' split) <;> simp))
@[simp] theorem State.shadowApply_intakeFits (s : State) (r : ShadowRec) : (s.shadowApply r).ev.intakeFits = s.ev.intakeFits := by
  simp [State.shadowApply]
@[simp] theorem State.shadowAux_intakeFits (s : State) (n : Nat) : (s.shadowAux n).ev.intakeFits = s.ev.intakeFits := by
  fun_induction State.shadowAux s n <;> simp [*]
@[simp] theorem State.applyShadow_intakeFits (s : State) : s.applyShadow.ev.intakeFits = s.ev.intakeFits := by simp [State.applyShadow]
@[simp] theorem State.readShadow_intakeFits (s : State) : s.readShadow.ev.intakeFits = s.ev.intakeFits := by simp [State.readShadow]
@[simp] theorem State.shadowReplay_intakeFits (s : State) : s.shadowReplay.ev.intakeFits = s.ev.intakeFits := by
  simp only [State.shadowReplay]
  split <;> simp
@[simp] theorem State.sendWaggle_intakeFits (s : State) (fabric grant dormant : Bool) :
    (s.sendWaggle fabric grant dormant).ev.intakeFits = s.ev.intakeFits := by simp [State.sendWaggle]
@[simp] theorem State.sendWaggles_intakeFits (s : State) (grant dormant : Bool) :
    (s.sendWaggles grant dormant).ev.intakeFits = s.ev.intakeFits := by
  simp [State.sendWaggles]
@[simp] theorem State.standDown_intakeFits (s : State) : s.standDown.ev.intakeFits = s.ev.intakeFits := rfl
@[simp] theorem State.dropRebalance_intakeFits (s : State) : s.dropRebalance.ev.intakeFits = s.ev.intakeFits := by
  simp only [State.dropRebalance]
  (repeat' split) <;> simp (disch := (simp only [keepsIntake_iff]; intros; (repeat' split) <;> simp))
@[simp] theorem State.declare_intakeFits (s : State) : s.declare.ev.intakeFits = s.ev.intakeFits := by simp [State.declare]
@[simp] theorem State.countMiss_intakeFits (s : State) (fabric : Bool) : (s.countMiss fabric).ev.intakeFits = s.ev.intakeFits := by
  simp [State.countMiss]
@[simp] theorem State.renewTaken_intakeFits (s : State) : s.renewTaken.ev.intakeFits = s.ev.intakeFits := by simp [State.renewTaken]
@[simp] theorem State.endTick_intakeFits (s : State) : s.endTick.ev.intakeFits = s.ev.intakeFits := by simp [State.endTick]
@[simp] theorem State.joinMode_intakeFits (s : State) : s.joinMode.ev.intakeFits = s.ev.intakeFits := by simp [State.joinMode]
@[simp] theorem State.chainTick_intakeFits (s : State) : s.chainTick.ev.intakeFits = s.ev.intakeFits := by
  unfold State.chainTick
  (repeat' split) <;> simp
@[simp] theorem State.sendDigest_intakeFits (s : State) : s.sendDigest.ev.intakeFits = s.ev.intakeFits := by simp [State.sendDigest]
@[simp] theorem State.sendDormant_intakeFits (s : State) : s.sendDormant.ev.intakeFits = s.ev.intakeFits := by simp [State.sendDormant]
@[simp] theorem State.waggleTick_intakeFits (s : State) : s.waggleTick.ev.intakeFits = s.ev.intakeFits := by simp [State.waggleTick]
@[simp] theorem State.keyTick_intakeFits (s : State) : s.keyTick.ev.intakeFits = s.ev.intakeFits := by simp [State.keyTick]
@[simp] theorem State.formatTick_intakeFits (s : State) : s.formatTick.ev.intakeFits = s.ev.intakeFits := by
  unfold State.formatTick
  split <;> simp
@[simp] theorem State.genTick_intakeFits (s : State) : s.genTick.ev.intakeFits = s.ev.intakeFits := by simp [State.genTick]
@[simp] theorem State.hiveTick_intakeFits (s : State) (id : Nat) : (s.hiveTick id).ev.intakeFits = s.ev.intakeFits := by
  simp only [State.hiveTick]
  (repeat' split) <;> simp
@[simp] theorem State.runTick_fits {s : State} (h : s.ev.intakeFits = true) : s.runTick.ev.intakeFits = true := by
  simp [State.runTick, h]

/-! ## The operations of Machine/ReplayOps -/

@[simp] theorem State.tearRecords_intakeFits (s : State) : s.tearRecords.ev.intakeFits = s.ev.intakeFits := by simp [State.tearRecords]
@[simp] theorem State.readJournal_intakeFits (s : State) (base : Nat) (es : List JournalEntry) :
    (s.readJournal base es).1.ev.intakeFits = s.ev.intakeFits :=
  foldl_fst_intakeFits (fun _ _ => by simp) _ _
@[simp] theorem State.loadFlash_intakeFits (s : State) : s.loadFlash.ev.intakeFits = s.ev.intakeFits := rfl
@[simp] theorem State.readAnchors_intakeFits (s : State) : s.readAnchors.ev.intakeFits = s.ev.intakeFits := by simp [State.readAnchors]
@[simp] theorem State.findFlash_intakeFits (s : State) : s.findFlash.ev.intakeFits = s.ev.intakeFits := by
  simp only [State.findFlash]
  split <;> simp
@[simp] theorem State.replayFrame_intakeFits (s : State) (f : Frame) : (s.replayFrame f).ev.intakeFits = s.ev.intakeFits := by
  simp [State.replayFrame]
@[simp] theorem State.replayFrames_intakeFits (s : State) (tick : Nat) : (s.replayFrames tick).ev.intakeFits = s.ev.intakeFits := by
  simp [State.replayFrames]
@[simp] theorem State.owedEnds_intakeFits (s : State) : s.owedEnds.ev.intakeFits = s.ev.intakeFits := by simp [State.owedEnds]
@[simp] theorem State.replayRec_intakeFits (s : State) (r : WaxRec) : (s.replayRec r).ev.intakeFits = s.ev.intakeFits := by
  simp only [State.replayRec]
  (repeat' split) <;> simp
@[simp] theorem State.replayAux_intakeFits (s : State) (pool : List WaxRec) (n : Nat) :
    (s.replayAux pool n).ev.intakeFits = s.ev.intakeFits := by
  fun_induction State.replayAux s pool n <;> simp [*]
@[simp] theorem State.cutTail_intakeFits (s : State) : s.cutTail.ev.intakeFits = s.ev.intakeFits := rfl
@[simp] theorem State.replayEnds_intakeFits (s : State) (ck first : Nat) : (s.replayEnds ck first).ev.intakeFits = s.ev.intakeFits := by
  simp [State.replayEnds]
@[simp] theorem State.replayFrom_intakeFits (s : State) (c : CkRec) : (s.replayFrom c).ev.intakeFits = s.ev.intakeFits := by
  simp [State.replayFrom]
@[simp] theorem State.replayOwn_intakeFits (s : State) : s.replayOwn.ev.intakeFits = s.ev.intakeFits := by
  unfold State.replayOwn
  split <;> simp
@[simp] theorem State.resumeIds_intakeFits (s : State) : s.resumeIds.ev.intakeFits = s.ev.intakeFits := rfl
@[simp] theorem State.tailDone_intakeFits (s : State) : s.tailDone.ev.intakeFits = s.ev.intakeFits := by
  unfold State.tailDone
  (repeat' split) <;> simp
@[simp] theorem State.takeCopied_intakeFits (s : State) (r : ShadowRec) : (s.takeCopied r).ev.intakeFits = s.ev.intakeFits := by
  simp [State.takeCopied]
@[simp] theorem State.replayShadow_intakeFits (s : State) : s.replayShadow.ev.intakeFits = s.ev.intakeFits := by simp [State.replayShadow]
@[simp] theorem State.barBlock_intakeFits (s : State) (m : Member) (r : Region) : (s.barBlock m r).ev.intakeFits = s.ev.intakeFits := by
  unfold State.barBlock
  split <;> simp
@[simp] theorem State.orphanStripe_intakeFits (s : State) (es : List JournalEntry) (o : Nat) :
    (s.orphanStripe es o).ev.intakeFits = s.ev.intakeFits := by
  simp [State.orphanStripe]
@[simp] theorem State.orphanWalk_intakeFits (s : State) (base : Nat) (es : List JournalEntry) :
    (s.orphanWalk base es).ev.intakeFits = s.ev.intakeFits := by simp [State.orphanWalk]
@[simp] theorem State.recoverRows_intakeFits (s : State) (sd : Side) : (s.recoverRows sd).ev.intakeFits = s.ev.intakeFits := by
  simp [State.recoverRows]
@[simp] theorem State.sealShort_intakeFits (s : State) (sd : Side) : (s.sealShort sd).ev.intakeFits = s.ev.intakeFits := by
  simp [State.sealShort]
@[simp] theorem State.resumeAborts_intakeFits (s : State) : s.resumeAborts.ev.intakeFits = s.ev.intakeFits := by
  unfold State.resumeAborts
  refine foldl_intakeFits_of (fun _ _ => ?_) _ _
  (repeat' split) <;> simp
@[simp] theorem State.resumeWork_fits {s : State} (h : s.ev.intakeFits = true) : s.resumeWork.ev.intakeFits = true := by
  simp only [State.resumeWork]
  refine State.settle_fits (Eq.trans ?_ h)
  simp (disch := (simp only [keepsIntake_iff]; intros; (repeat' split) <;> simp))
@[simp] theorem State.replay_intakeFits (s : State) : s.replay.ev.intakeFits = s.ev.intakeFits := by simp [State.replay]

/-! ## The operations of Machine/ForageOps -/

@[simp] theorem State.evictOne_intakeFits (s : State) : s.evictOne.ev.intakeFits = s.ev.intakeFits := by
  simp only [State.evictOne]
  (repeat' split) <;> simp
@[simp] theorem State.evictRest_intakeFits (s : State) : s.evictRest.ev.intakeFits = s.ev.intakeFits := by simp [State.evictRest]
@[simp] theorem State.putCtx_intakeFits (s : State) (c : Ctx) : (s.putCtx c).ev.intakeFits = s.ev.intakeFits := rfl
@[simp] theorem State.pushUnconfirmed_intakeFits (s : State) : s.pushUnconfirmed.ev.intakeFits = s.ev.intakeFits := by
  simp [State.pushUnconfirmed]
@[simp] theorem State.bindPinned_intakeFits (s : State) : s.bindPinned.ev.intakeFits = s.ev.intakeFits := by simp [State.bindPinned]
@[simp] theorem State.sendBind_intakeFits (s : State) (c : Ctx) : (s.sendBind c).ev.intakeFits = s.ev.intakeFits := by simp [State.sendBind]
@[simp] theorem State.sendBinding_intakeFits (s : State) (id : Nat) : (s.sendBinding id).ev.intakeFits = s.ev.intakeFits := by
  simp only [State.sendBinding]
  (repeat' split) <;> simp
@[simp] theorem State.rebind_intakeFits (s : State) (old : Ctx) : (s.rebind old).ev.intakeFits = s.ev.intakeFits := by
  unfold State.rebind
  (repeat' split) <;> simp
@[simp] theorem State.bindMsg_intakeFits (s : State) (src : Nat) (b : Bytes) : (s.bindMsg src b).ev.intakeFits = s.ev.intakeFits := by
  simp only [State.bindMsg]
  (repeat' split) <;> simp
@[simp] theorem State.resumeTo_intakeFits (s : State) (head : Nat) : (s.resumeTo head).ev.intakeFits = s.ev.intakeFits := by
  simp [State.resumeTo]
@[simp] theorem State.breakSend_intakeFits (s : State) (c : Ctx) (status : Nat) (ms : List SentMsg) :
    (s.breakSend c status ms).ev.intakeFits = s.ev.intakeFits := by simp [State.breakSend]
@[simp] theorem State.failCtx_intakeFits (s : State) (c : Ctx) (status : Nat) : (s.failCtx c status).ev.intakeFits = s.ev.intakeFits := by
  simp [State.failCtx]
@[simp] theorem State.sendAck_intakeFits (s : State) (id echo : Nat) : (s.sendAck id echo).ev.intakeFits = s.ev.intakeFits := by
  unfold State.sendAck
  split <;> simp
@[simp] theorem State.sendNak_intakeFits (s : State) (p : FPkt) (code off len : Nat) :
    (s.sendNak p code off len).ev.intakeFits = s.ev.intakeFits := rfl
@[simp] theorem State.nakMissing_intakeFits (s : State) (p : FPkt) (c : Ctx) (id : BitVec 32) (off map : Nat) :
    (s.nakMissing p c id off map).ev.intakeFits = s.ev.intakeFits := by simp [State.nakMissing]
@[simp] theorem State.placePkt_intakeFits (s : State) (c : Ctx) (p : FPkt) (carried : Option ShadowRec) (journal : Option JournalEntry) :
    (s.placePkt c p carried journal).ev.intakeFits = s.ev.intakeFits := by simp [State.placePkt]
@[simp] theorem State.dropFull_intakeFits (s : State) : s.dropFull.ev.intakeFits = s.ev.intakeFits := by simp [State.dropFull]
@[simp] theorem State.takeMirrored_intakeFits (s : State) (r : ShadowRec) : (s.takeMirrored r).ev.intakeFits = s.ev.intakeFits := by
  simp [State.takeMirrored]
@[simp] theorem State.takeEntry_intakeFits (s : State) (e : JournalEntry) : (s.takeEntry e).ev.intakeFits = s.ev.intakeFits := rfl
@[simp] theorem State.visibleEffect_intakeFits (s : State) (c : Ctx) (m : RxMsg) :
    (s.visibleEffect c m).ev.intakeFits = s.ev.intakeFits := by
  unfold State.visibleEffect
  (repeat' split) <;> simp
@[simp] theorem State.sendResp_intakeFits (s : State) (c : Ctx) (m : RxMsg) (again : Bool) :
    (s.sendResp c m again).ev.intakeFits = s.ev.intakeFits := by
  simp [State.sendResp]
@[simp] theorem State.answerRead_intakeFits (s : State) (c : Ctx) (m : RxMsg) : (s.answerRead c m).ev.intakeFits = s.ev.intakeFits := by
  simp [State.answerRead]
@[simp] theorem State.showAux_intakeFits (s : State) (id n : Nat) : (s.showAux id n).ev.intakeFits = s.ev.intakeFits := by
  induction n generalizing s with
  | zero => rfl
  | succ n ih =>
    unfold State.showAux
    split
    · rfl
    split
    · rfl
    split
    · rfl
    split
    · rfl
    extract_lets c1 c2 u young v w z
    have hw : w.ev.intakeFits = s.ev.intakeFits := by simp [w, v, u]
    have hz : z.ev.intakeFits = w.ev.intakeFits := by
      unfold z
      split <;> simp
    rw [ih, hz, hw]
@[simp] theorem State.showMsgs_intakeFits (s : State) (id echo : Nat) (asked : Bool) :
    (s.showMsgs id echo asked).ev.intakeFits = s.ev.intakeFits := by
  unfold State.showMsgs
  split <;> simp
@[simp] theorem State.drainRings_intakeFits (s : State) : s.drainRings.ev.intakeFits = s.ev.intakeFits := by simp [State.drainRings]
@[simp] theorem State.arrive7_intakeFits (s : State) (p : FPkt) (carried : Option ShadowRec) (journal : Option JournalEntry) :
    (s.arrive7 p carried journal).ev.intakeFits = s.ev.intakeFits := by
  unfold State.arrive7
  split
  · simp
  refine intakeFits_ite_of (by simp) (intakeFits_ite_of (by simp) (intakeFits_ite_of (by simp)
      (intakeFits_ite_of rfl (intakeFits_ite_of ?_ ?_))))
  · split
    · exact intakeFits_ite_of rfl (by simp)
    refine intakeFits_ite_of (by simp) ?_
    extract_lets u v
    have hu : u.ev.intakeFits = s.ev.intakeFits := by simp [u]
    have hv : v.ev.intakeFits = s.ev.intakeFits := by simp [v, hu]
    clear_value u v
    split
    · exact hu
    · (repeat' split) <;> simp [hu, hv]
  refine intakeFits_ite_of (by simp) (intakeFits_ite_of (by simp) (intakeFits_ite_of (by simp) ?_))
  extract_lets before would u size v prev w z y
  refine intakeFits_ite_of (by simp) ?_
  have hu : u.ev.intakeFits = s.ev.intakeFits := State.placePkt_intakeFits ..
  clear_value u before would
  have hv : v.ev.intakeFits = s.ev.intakeFits := by
    unfold v
    (repeat' split) <;> simp [hu]
  clear_value v
  have hw : w.ev.intakeFits = s.ev.intakeFits := by
    unfold w
    (repeat' split) <;> simp [hv]
  clear_value w
  have hz : z.ev.intakeFits = s.ev.intakeFits := by simp [z, hw]
  have hy : y.ev.intakeFits = s.ev.intakeFits := by simp [y, hz]
  clear_value y z
  (repeat' split) <;> simp [hy, hz]
@[simp] theorem State.checkPkt_intakeFits (s : State) (p : FPkt) (fits : Bool) : (s.checkPkt p fits).1.ev.intakeFits = s.ev.intakeFits := by
  simp [State.checkPkt]
@[simp] theorem State.arrive_intakeFits (s : State) (p : FPkt) (carried : Option ShadowRec) (journal : Option JournalEntry) :
    (s.arrive p carried journal).ev.intakeFits = s.ev.intakeFits := by
  simp only [State.arrive]
  (repeat' split) <;> simp
@[simp] theorem State.samplePath_intakeFits (s : State) (path rtt newly : Nat) :
    (s.samplePath path rtt newly).ev.intakeFits = s.ev.intakeFits := by
  unfold State.samplePath
  split <;> simp
@[simp] theorem State.resendMsgs_intakeFits (s : State) (c : Ctx) (ms : List SentMsg) :
    (s.resendMsgs c ms).ev.intakeFits = s.ev.intakeFits := by
  simp [State.resendMsgs]

/-! ## The operations of Machine/UpdOps -/

@[simp] theorem State.tellUpdate_intakeFits (s : State) (version : Nat) (pend fallback : Bool) :
    (s.tellUpdate version pend fallback).ev.intakeFits = s.ev.intakeFits := by simp [State.tellUpdate]
@[simp] theorem State.fallBack_fits (s : State) : s.fallBack.ev.intakeFits = true := by simp [State.fallBack]
@[simp] theorem State.orderFallback_fits {s : State} (h : s.ev.intakeFits = true) : s.orderFallback.ev.intakeFits = true := by
  simp [State.orderFallback, h]
@[simp] theorem State.fallbackTick_fits {s : State} (h : s.ev.intakeFits = true) : s.fallbackTick.ev.intakeFits = true := by
  simp [State.fallbackTick, h]

/-! ## The operations of Machine/WireOps -/

@[simp] theorem State.fetched_intakeFits (s : State) (h : HeldReply) : (s.fetched h).ev.intakeFits = s.ev.intakeFits := by
  simp [State.fetched]
@[simp] theorem State.sbCause_intakeFits (s : State) (bit : Nat) : (s.sbCause bit).ev.intakeFits = s.ev.intakeFits := by
  simp [State.sbCause]
@[simp] theorem State.judgeStatus_intakeFits (s : State) : s.judgeStatus.ev.intakeFits = s.ev.intakeFits := by simp [State.judgeStatus]
@[simp] theorem State.mbxFault_intakeFits (s : State) (bit : Nat) : (s.mbxFault bit).ev.intakeFits = s.ev.intakeFits := by
  simp [State.mbxFault]
@[simp] theorem State.sbLoad_intakeFits (s : State) : s.sbLoad.ev.intakeFits = s.ev.intakeFits := by
  unfold State.sbLoad
  (repeat' split) <;> simp
@[simp] theorem State.sentinelReset_fits (s : State) (code : Nat) (sev : Severity) (cause : Nat) :
    (s.sentinelReset code sev cause).ev.intakeFits = true := by simp [State.sentinelReset]
@[simp] theorem State.latchWake_intakeFits (s : State) (bit : Nat) : (s.latchWake bit).ev.intakeFits = s.ev.intakeFits := by
  simp [State.latchWake]
@[simp] theorem State.judgeAlign_intakeFits (s : State) : s.judgeAlign.ev.intakeFits = s.ev.intakeFits := by simp [State.judgeAlign]
@[simp] theorem State.peerAligned_intakeFits (s : State) : s.peerAligned.ev.intakeFits = s.ev.intakeFits := by simp [State.peerAligned]
@[simp] theorem State.releasePads_intakeFits (s : State) : s.releasePads.ev.intakeFits = s.ev.intakeFits := by simp [State.releasePads]

/-! ## The operations of Machine/StartOps -/

@[simp] theorem State.finishStep_intakeFits (s : State) (k outcome attempt failCode dur : Nat) (detail : Bytes) :
    (s.finishStep k outcome attempt failCode dur detail).ev.intakeFits = s.ev.intakeFits := by
  simp only [State.finishStep]
  split <;> simp
@[simp] theorem State.beginStep_intakeFits (s : State) (k attempt : Nat) : (s.beginStep k attempt).ev.intakeFits = s.ev.intakeFits := rfl
@[simp] theorem State.bootReset_fits (s : State) : s.bootReset.ev.intakeFits = true := by simp [State.bootReset]
@[simp] theorem State.stepFails_intakeFits (s : State) (k attempt dur : Nat) :
    (s.stepFails k attempt dur).ev.intakeFits = s.ev.intakeFits := by
  simp [State.stepFails]
@[simp] theorem State.stepPasses_intakeFits (s : State) (k attempt dur : Nat) (detail : Bytes) :
    (s.stepPasses k attempt dur detail).ev.intakeFits = s.ev.intakeFits := by simp [State.stepPasses]
theorem bootStep_fits {act : State → State × Bool} (hact : ∀ t, (act t).1.ev.intakeFits = t.ev.intakeFits) {x : State × Bool}
    (h : x.1.ev.intakeFits = true) (k : Nat) (detail : State → Bytes) : (bootStep x k act detail).1.ev.intakeFits = true := by
  simp only [bootStep]
  (repeat' split) <;> simp [hact, h]
@[simp] theorem State.romStep_intakeFits (s : State) : s.romStep.1.ev.intakeFits = s.ev.intakeFits := rfl
@[simp] theorem State.namedBank_intakeFits (s : State) : s.namedBank.1.ev.intakeFits = s.ev.intakeFits := by
  unfold State.namedBank
  split <;> simp
@[simp] theorem State.bankFormats_intakeFits (s : State) (b v : Nat) : (s.bankFormats b v).ev.intakeFits = s.ev.intakeFits := rfl
@[simp] theorem State.executeBank_intakeFits (s : State) (b : Nat) : (s.executeBank b).ev.intakeFits = s.ev.intakeFits := by
  simp [State.executeBank]
@[simp] theorem State.bankStep_intakeFits (s : State) : s.bankStep.1.ev.intakeFits = s.ev.intakeFits := by simp [State.bankStep]
@[simp] theorem State.dramStep_intakeFits (s : State) : s.dramStep.1.ev.intakeFits = s.ev.intakeFits := rfl
@[simp] theorem State.waxStep_intakeFits (s : State) : s.waxStep.1.ev.intakeFits = s.ev.intakeFits := by simp [State.waxStep]
@[simp] theorem State.mainStep_intakeFits (s : State) : s.mainStep.1.ev.intakeFits = s.ev.intakeFits := by simp [State.mainStep]
@[simp] theorem State.testStep_intakeFits (s : State) : s.testStep.1.ev.intakeFits = s.ev.intakeFits := by simp [State.testStep]
@[simp] theorem State.linkStep_intakeFits (s : State) : s.linkStep.1.ev.intakeFits = s.ev.intakeFits := by simp [State.linkStep]
@[simp] theorem State.admitHives_intakeFits (s : State) : s.admitHives.ev.intakeFits = s.ev.intakeFits := by simp [State.admitHives]
@[simp] theorem State.setTick_intakeFits (s : State) : s.setTick.ev.intakeFits = s.ev.intakeFits := rfl
@[simp] theorem State.commitRestore_intakeFits (s : State) : s.commitRestore.ev.intakeFits = s.ev.intakeFits := by
  simp [State.commitRestore]
@[simp] theorem State.beginJoin_intakeFits (s : State) (attempt : Nat) : (s.beginJoin attempt).ev.intakeFits = s.ev.intakeFits := by
  simp [State.beginJoin]
@[simp] theorem State.colonyStep_fits {s : State} (h : s.ev.intakeFits = true) (attempt : Nat) :
    (s.colonyStep attempt).ev.intakeFits = true := by simp [State.colonyStep, h]
@[simp] theorem State.skipStep_intakeFits (s : State) (k : Nat) : (s.skipStep k).ev.intakeFits = s.ev.intakeFits := by simp [State.skipStep]
@[simp] theorem State.afterJoin_fits {s : State} (h : s.ev.intakeFits = true) : s.afterJoin.ev.intakeFits = true := by
  simp [State.afterJoin, h]
@[simp] theorem State.serve_fits {s : State} (h : s.ev.intakeFits = true) : s.serve.ev.intakeFits = true := by
  simp [State.serve, h]
@[simp] theorem State.startTick_fits {s : State} (h : s.ev.intakeFits = true) : s.startTick.ev.intakeFits = true := by
  simp [State.startTick, h]
@[simp] theorem State.rearm_intakeFits (s : State) : s.rearm.ev.intakeFits = s.ev.intakeFits := by simp [State.rearm]

/-! ## The operations of Machine/Pair -/

@[simp] theorem execCommitTick_intakeKept (s : State) : IntakeKept (execCommitTick s) s.ev.intakeFits := by
  have hticks (t : State) (ht : t.ev.intakeFits = true) : t.startTick.runTick.drainRings.fallbackTick.ev.intakeFits = true :=
    State.fallbackTick_fits (by simpa using State.runTick_fits (State.startTick_fits ht))
  simp only [execCommitTick, intakeKept_ok]
  intro h
  split
  · simpa using hticks _ (by split <;> simp [h])
  · split <;> simp [h]
@[simp] theorem State.pathBack_intakeFits (s : State) (fabric : Bool) : (s.pathBack fabric).ev.intakeFits = s.ev.intakeFits := by
  simp [State.pathBack]
@[simp] theorem State.declaredBy_fits {s : State} (h : s.ev.intakeFits = true) : s.declaredBy.ev.intakeFits = true := by
  simp [State.declaredBy, h]
@[simp] theorem execWaggle_intakeKept (m : WaggleMsg) (s : State) : IntakeKept (execWaggle m s) s.ev.intakeFits := by
  simp +contextual [execWaggle]
@[simp] theorem execLeaseEnd_intakeKept (s : State) : IntakeKept (execLeaseEnd s) s.ev.intakeFits := by simp [execLeaseEnd]
@[simp] theorem State.tickDigest_intakeFits (s : State) (m : DigestMsg) : (s.tickDigest m).ev.intakeFits = s.ev.intakeFits := by
  simp [State.tickDigest]
@[simp] theorem execTickDigest_intakeKept (m : DigestMsg) (s : State) : IntakeKept (execTickDigest m s) s.ev.intakeFits := by
  simp [execTickDigest]
@[simp] theorem State.endMismatchThen_intakeFits (s : State) (out : Option Bool) (after : List After) :
    (s.endMismatchThen out after).ev.intakeFits = s.ev.intakeFits := by
  unfold State.endMismatchThen
  split <;> simp
@[simp] theorem State.endMismatch_intakeFits (s : State) (out : Option Bool) : (s.endMismatch out).ev.intakeFits = s.ev.intakeFits := by
  simp [State.endMismatch]
@[simp] theorem State.judgeReports_intakeFits (s : State) : s.judgeReports.ev.intakeFits = s.ev.intakeFits := by
  unfold State.judgeReports
  split <;> simp
@[simp] theorem execSelfCheck_intakeKept (selfTestOk : Bool) (s : State) : IntakeKept (execSelfCheck selfTestOk s) s.ev.intakeFits := by
  simp only [execSelfCheck]
  (repeat' split) <;> simp
@[simp] theorem execSelfCheckReport_intakeKept (right : Bool) (s : State) : IntakeKept (execSelfCheckReport right s) s.ev.intakeFits := by
  simp [execSelfCheckReport]
@[simp] theorem execSelfCheckReportTimeout_intakeKept (s : State) : IntakeKept (execSelfCheckReportTimeout s) s.ev.intakeFits := by
  simp [execSelfCheckReportTimeout]
@[simp] theorem execPeerIsolationYield_intakeKept (s : State) : IntakeKept (execPeerIsolationYield s) s.ev.intakeFits := by
  simp [execPeerIsolationYield]
@[simp] theorem State.phaseEnds_intakeFits (s : State) : s.phaseEnds.ev.intakeFits = s.ev.intakeFits := rfl
@[simp] theorem execTakeoverFenceWait_intakeKept (s : State) : IntakeKept (execTakeoverFenceWait s) s.ev.intakeFits := by
  simp [execTakeoverFenceWait]
@[simp] theorem execArbiterFenceResult_intakeKept (link : Nat) (won : Bool) (s : State) :
    IntakeKept (execArbiterFenceResult link won s) s.ev.intakeFits := by simp [execArbiterFenceResult]
@[simp] theorem execArbiterRetry_intakeKept (s : State) : IntakeKept (execArbiterRetry s) s.ev.intakeFits := by simp [execArbiterRetry]
@[simp] theorem State.holdPeerHives_intakeFits (s : State) : s.holdPeerHives.ev.intakeFits = s.ev.intakeFits := by
  simp [State.holdPeerHives]
@[simp] theorem execFenceAllRaised_intakeKept (s : State) : IntakeKept (execFenceAllRaised s) s.ev.intakeFits := by
  simp +contextual [execFenceAllRaised]
@[simp] theorem execTakeoverReplayEnd_intakeKept (s : State) : IntakeKept (execTakeoverReplayEnd s) s.ev.intakeFits := by
  simp +contextual [execTakeoverReplayEnd]
@[simp] theorem State.pairInit_intakeFits (s : State) : s.pairInit.ev.intakeFits = s.ev.intakeFits := by simp [State.pairInit]
@[simp] theorem State.formAlone_fits {s : State} (h : s.ev.intakeFits = true) : s.formAlone.ev.intakeFits = true := by
  simp [State.formAlone, h]
@[simp] theorem execPairJoinTimeout_intakeKept (s : State) : IntakeKept (execPairJoinTimeout s) s.ev.intakeFits := by
  unfold execPairJoinTimeout
  split <;> simp +contextual
@[simp] theorem State.joinedNow_intakeFits (s : State) (m : WaggleMsg) : (s.joinedNow m).ev.intakeFits = s.ev.intakeFits := by
  simp [State.joinedNow]
@[simp] theorem State.formVault_intakeFits (s : State) : s.formVault.ev.intakeFits = s.ev.intakeFits := by simp [State.formVault]
@[simp] theorem State.beginCopy_intakeFits (s : State) (m : WaggleMsg) : (s.beginCopy m).ev.intakeFits = s.ev.intakeFits := by
  simp [State.beginCopy]
@[simp] theorem State.enterRejoin_intakeFits (s : State) (m : WaggleMsg) (f : FlashMeta) :
    (s.enterRejoin m f).ev.intakeFits = s.ev.intakeFits := by
  simp [State.enterRejoin]
@[simp] theorem State.sendTail_intakeFits (s : State) (peerEnd : Nat) (lost : Bool) :
    (s.sendTail peerEnd lost).ev.intakeFits = s.ev.intakeFits := by
  simp [State.sendTail]
@[simp] theorem State.reconcile_intakeFits (s : State) (m : WaggleMsg) (r : HeadReport) :
    (s.reconcile m r).ev.intakeFits = s.ev.intakeFits := by
  simp only [State.reconcile]
  split <;> simp
@[simp] theorem State.takeEpoch_intakeFits (s : State) (m : WaggleMsg) : (s.takeEpoch m).ev.intakeFits = s.ev.intakeFits := by
  simp [State.takeEpoch]
@[simp] theorem State.peerReports_intakeFits (s : State) (r : HeadReport) : (s.peerReports r).ev.intakeFits = s.ev.intakeFits := by
  simp [State.peerReports]
@[simp] theorem execPairJoin_intakeKept (peer : WaggleMsg) (r : HeadReport) (s : State) :
    IntakeKept (execPairJoin peer r s) s.ev.intakeFits := by
  unfold execPairJoin
  split <;> simp +contextual
@[simp] theorem execRejoinCopyComplete_intakeKept (s : State) : IntakeKept (execRejoinCopyComplete s) s.ev.intakeFits := by
  simp [execRejoinCopyComplete]
@[simp] theorem State.receive_fits {s : State} (h : s.ev.intakeFits = true) (r : Rebalance) : (s.receive r).ev.intakeFits = true := by
  simp only [State.receive]
  refine State.settle_fits (Eq.trans ?_ h)
  simp (disch := (simp only [keepsIntake_iff]; intros; (repeat' split) <;> simp))
@[simp] theorem execRebalancePhaseEnd_intakeKept (s : State) : IntakeKept (execRebalancePhaseEnd s) s.ev.intakeFits := by
  simp only [execRebalancePhaseEnd, intakeKept_ok]
  intro h
  split
  · exact h
  split
  · split
    · exact h
    split
    · refine State.settle_fits (Eq.trans ?_ h)
      simp (disch := (simp only [keepsIntake_iff]; intros; (repeat' split) <;> simp))
    · exact h
  split
  · split
    · exact h
    split
    · exact State.receive_fits h _
    · refine State.settle_fits (Eq.trans ?_ h)
      split <;> simp
  · exact h
@[simp] theorem execRebalanceHoldTimeout_intakeKept (s : State) : IntakeKept (execRebalanceHoldTimeout s) s.ev.intakeFits := by
  unfold execRebalanceHoldTimeout
  split <;> simp
@[simp] theorem State.pair'_intakeFits (s : State) (i : Nat) (f : FabricPair → FabricPair) :
    (s.pair' i f).ev.intakeFits = s.ev.intakeFits := rfl
@[simp] theorem State.resendPair_intakeFits (s : State) (i : Nat) : (s.resendPair i).ev.intakeFits = s.ev.intakeFits := by
  unfold State.resendPair
  split <;> simp
@[simp] theorem execFabricPortFail_intakeKept (pair : Nat) (s : State) : IntakeKept (execFabricPortFail pair s) s.ev.intakeFits := by
  unfold execFabricPortFail
  (repeat' split) <;> simp
@[simp] theorem execStandbyEligible_intakeKept (pair : Nat) (s : State) : IntakeKept (execStandbyEligible pair s) s.ev.intakeFits := by
  unfold execStandbyEligible
  (repeat' split) <;> simp
@[simp] theorem State.judgeCables_intakeFits (s : State) (before : Nat) : (s.judgeCables before).ev.intakeFits = s.ev.intakeFits := by
  simp [State.judgeCables]
@[simp] theorem execPeerLinkDown_intakeKept (link : Nat) (s : State) : IntakeKept (execPeerLinkDown link s) s.ev.intakeFits := by
  simp [execPeerLinkDown]
@[simp] theorem execPeerLinkUp_intakeKept (link : Nat) (s : State) : IntakeKept (execPeerLinkUp link s) s.ev.intakeFits := by
  simp +contextual [execPeerLinkUp]

/-! ## The operations of Machine/Colony -/

@[simp] theorem State.toWorkers_intakeFits (s : State) (f : Nat → ColMsg) : (s.toWorkers f).ev.intakeFits = s.ev.intakeFits := by
  simp [State.toWorkers]
@[simp] theorem State.listChange_intakeFits (s : State) (c : CtlChange) (more : List After) :
    (s.listChange c more).ev.intakeFits = s.ev.intakeFits := by
  simp [State.listChange]
@[simp] theorem State.deposeBy_intakeFits (s : State) (epoch : Nat) : (s.deposeBy epoch).ev.intakeFits = s.ev.intakeFits := rfl
@[simp] theorem State.atQueen_intakeFits (s : State) (ep : Nat) (f : State → State) (hf : KeepsIntake f) :
    (s.atQueen ep f).ev.intakeFits = s.ev.intakeFits := by simp [State.atQueen, hf.intakeFits]
@[simp] theorem State.atWorker_intakeFits (s : State) (ep : Nat) (f : State → State) (hf : KeepsIntake f) :
    (s.atWorker ep f).ev.intakeFits = s.ev.intakeFits := by simp [State.atWorker, hf.intakeFits]
@[simp] theorem execJoin_intakeKept (ep apiary serial headA headB : Nat) (addrs : List Bytes) (s : State) :
    IntakeKept (execJoin ep apiary serial headA headB addrs s) s.ev.intakeFits := by simp [execJoin]
@[simp] theorem State.takeSix_intakeFits (s : State) (items : List (Nat × Bytes)) : (s.takeSix items).ev.intakeFits = s.ev.intakeFits := rfl
@[simp] theorem execJoinReply_intakeKept (accepted : Bool) (cause epoch : Nat) (items : List (Nat × Bytes)) (s : State) :
    IntakeKept (execJoinReply accepted cause epoch items s) s.ev.intakeFits := by
  unfold execJoinReply
  split <;> simp
@[simp] theorem execLeave_intakeKept (ep apiary : Nat) (s : State) : IntakeKept (execLeave ep apiary s) s.ev.intakeFits := by
  simp [execLeave]
@[simp] theorem State.queenBack_intakeFits (s : State) : s.queenBack.ev.intakeFits = s.ev.intakeFits := by simp [State.queenBack]
@[simp] theorem execContact_intakeKept (src epoch settingsGen : Nat) (gateOpen : Bool) (s : State) :
    IntakeKept (execContact src epoch settingsGen gateOpen s) s.ev.intakeFits := by simp [execContact]
@[simp] theorem execContactSend_intakeKept (s : State) : IntakeKept (execContactSend s) s.ev.intakeFits := by simp [execContactSend]
@[simp] theorem execQueenUnreachable_intakeKept (s : State) : IntakeKept (execQueenUnreachable s) s.ev.intakeFits := by
  simp [execQueenUnreachable]
@[simp] theorem State.adoptToken_intakeFits (s : State) (head : Nat) (t : WakeToken) :
    (s.adoptToken head t).ev.intakeFits = s.ev.intakeFits := by
  simp [State.adoptToken]
@[simp] theorem State.announceKey_intakeFits (s : State) : s.announceKey.ev.intakeFits = s.ev.intakeFits := by
  unfold State.announceKey
  split <;> simp
@[simp] theorem execReport_intakeKept (ep : Nat) (r : Report7) (s : State) : IntakeKept (execReport ep r s) s.ev.intakeFits := by
  simp [execReport]
@[simp] theorem execTokenRequest_intakeKept (ep apiary head hive prio num : Nat) (s : State) :
    IntakeKept (execTokenRequest ep apiary head hive prio num s) s.ev.intakeFits := by simp [execTokenRequest]
@[simp] theorem execHeldTokenRequestTimeout_intakeKept (apiary num : Nat) (s : State) :
    IntakeKept (execHeldTokenRequestTimeout apiary num s) s.ev.intakeFits := by
  unfold execHeldTokenRequestTimeout
  split <;> simp
@[simp] theorem execTokenGrant_intakeKept (ep : Nat) (t : WakeToken) (autonomy : Nat) (s : State) :
    IntakeKept (execTokenGrant ep t autonomy s) s.ev.intakeFits := by
  simp only [execTokenGrant, intakeKept_ok]
  refine fun h => (State.atWorker_intakeFits _ _ _ fun _ => ?_).trans h
  (repeat' split) <;> simp
@[simp] theorem execTokenRefuse_intakeKept (ep num cause : Nat) (s : State) :
    IntakeKept (execTokenRefuse ep num cause s) s.ev.intakeFits := by
  simp only [execTokenRefuse, intakeKept_ok]
  refine fun h => (State.atWorker_intakeFits _ _ _ fun _ => ?_).trans h
  (repeat' split) <;> simp
@[simp] theorem execTokenRecall_intakeKept (ep id : Nat) (s : State) :
    IntakeKept (execTokenRecall ep id s) s.ev.intakeFits := by
  simp only [execTokenRecall, intakeKept_ok]
  refine fun h => (State.atWorker_intakeFits _ _ _ fun _ => ?_).trans h
  (repeat' split) <;> simp
@[simp] theorem execColonyDormant_intakeKept (ep id : Nat) (s : State) : IntakeKept (execColonyDormant ep id s) s.ev.intakeFits := by
  simp [execColonyDormant]
@[simp] theorem execQueenTokenExpiry_intakeKept (id : Nat) (s : State) : IntakeKept (execQueenTokenExpiry id s) s.ev.intakeFits := by
  unfold execQueenTokenExpiry
  split <;> simp
@[simp] theorem State.deposedCourse_intakeFits (s : State) (list : List (Nat × Nat × Nat × Bool × List Bytes)) :
    (s.deposedCourse list).ev.intakeFits = s.ev.intakeFits := by
  unfold State.deposedCourse
  split <;> simp
@[simp] theorem State.planned_intakeFits (s : State) (a epoch : Nat) : (s.planned a epoch).ev.intakeFits = s.ev.intakeFits := by
  simp [State.planned]
@[simp] theorem execColonySettings_intakeKept (ep gen : Nat) (items : List (Nat × Bytes)) (keyGen : Nat) (s : State) :
    IntakeKept (execColonySettings ep gen items keyGen s) s.ev.intakeFits := by
  simp only [execColonySettings]
  split <;> simp
@[simp] theorem execArbitrate_intakeKept (ep head : Nat) (shownRight : Bool) (s : State) :
    IntakeKept (execArbitrate ep head shownRight s) s.ev.intakeFits := by
  simp only [execArbitrate, intakeKept_ok]
  refine fun h => (State.atQueen_intakeFits _ _ _ fun _ => ?_).trans h
  (repeat' split) <;> simp
@[simp] theorem execUpdateState_intakeKept (ep head version : Nat) (pend fallback : Bool) (s : State) :
    IntakeKept (execUpdateState ep head version pend fallback s) s.ev.intakeFits := by
  simp only [execUpdateState, intakeKept_ok]
  refine fun h => (State.atQueen_intakeFits _ _ _ fun _ => ?_).trans h
  (repeat' split) <;> simp
@[simp] theorem execRolloutWaveOpen_intakeKept (s : State) : IntakeKept (execRolloutWaveOpen s) s.ev.intakeFits := by
  simp [execRolloutWaveOpen]

/-! ## The operations of Machine/ColonyCtl -/

@[simp] theorem execColonyStatus_intakeKept (q : VReq) (s : State) : IntakeKept (execColonyStatus q s) s.ev.intakeFits := by
  simp [execColonyStatus]
@[simp] theorem State.colonyAsk_intakeFits (s : State) (q : VReq) : (s.colonyAsk q).ev.intakeFits = s.ev.intakeFits := by
  simp [State.colonyAsk]
@[simp] theorem execColonyJoin_intakeKept (q : VReq) (s : State) : IntakeKept (execColonyJoin q s) s.ev.intakeFits := by
  simp [execColonyJoin]
@[simp] theorem execColonyJoinTimeout_intakeKept (s : State) : IntakeKept (execColonyJoinTimeout s) s.ev.intakeFits := by
  unfold execColonyJoinTimeout
  split <;> simp
@[simp] theorem State.colonyQuit_intakeFits (s : State) (q : VReq) : (s.colonyQuit q).ev.intakeFits = s.ev.intakeFits := by
  simp [State.colonyQuit]
@[simp] theorem execColonyLeave_intakeKept (q : VReq) (s : State) : IntakeKept (execColonyLeave q s) s.ev.intakeFits := by
  simp [execColonyLeave]
@[simp] theorem State.queenAsk_intakeFits (s : State) (q : VReq) : (s.queenAsk q).ev.intakeFits = s.ev.intakeFits := by
  simp [State.queenAsk]
@[simp] theorem execQueenAssign_intakeKept (q : VReq) (s : State) : IntakeKept (execQueenAssign q s) s.ev.intakeFits := by
  simp [execQueenAssign]
@[simp] theorem execTokenStatus_intakeKept (q : VReq) (s : State) : IntakeKept (execTokenStatus q s) s.ev.intakeFits := by
  simp [execTokenStatus]
@[simp] theorem execCatalogueRead_intakeKept (q : VReq) (s : State) : IntakeKept (execCatalogueRead q s) s.ev.intakeFits := by
  simp [execCatalogueRead]

/-! ## The operations of Machine/Diag -/

@[simp] theorem State.waitRead_intakeFits (s : State) (link die block page : Nat) (arg : BitVec 32) (use : TaskUse) :
    (s.waitRead link die block page arg use).ev.intakeFits = s.ev.intakeFits := rfl
@[simp] theorem State.recoveryLink_intakeFits (s : State) (link : Nat) : (s.recoveryLink link).ev.intakeFits = s.ev.intakeFits := by
  unfold State.recoveryLink
  (repeat' split) <;> simp
@[simp] theorem State.diagDieRead_intakeFits (s : State) (q : VReq) : (s.diagDieRead q).ev.intakeFits = s.ev.intakeFits := by
  simp only [State.diagDieRead]
  split <;> simp
@[simp] theorem execDiagDieRead_intakeKept (q : VReq) (s : State) : IntakeKept (execDiagDieRead q s) s.ev.intakeFits := by
  simp [execDiagDieRead]
@[simp] theorem State.diagLinkLoop_intakeFits (s : State) (q : VReq) : (s.diagLinkLoop q).ev.intakeFits = s.ev.intakeFits := by
  simp only [State.diagLinkLoop]
  split <;> simp
@[simp] theorem execDiagLinkLoop_intakeKept (q : VReq) (s : State) : IntakeKept (execDiagLinkLoop q s) s.ev.intakeFits := by
  simp [execDiagLinkLoop]
@[simp] theorem State.diagSelftest_intakeFits (s : State) (q : VReq) : (s.diagSelftest q).ev.intakeFits = s.ev.intakeFits := by
  simp [State.diagSelftest]
@[simp] theorem execDiagSelftest_intakeKept (q : VReq) (s : State) : IntakeKept (execDiagSelftest q s) s.ev.intakeFits := by
  simp [execDiagSelftest]
@[simp] theorem execDiagDump_intakeKept (q : VReq) (s : State) : IntakeKept (execDiagDump q s) s.ev.intakeFits := by simp [execDiagDump]

/-! ## The operations of Machine/EvtCtl -/

@[simp] theorem State.evtRead_intakeFits (s : State) (q : VReq) : (s.evtRead q).ev.intakeFits = s.ev.intakeFits := by simp [State.evtRead]
@[simp] theorem execEvtRead_intakeKept (q : VReq) (s : State) : IntakeKept (execEvtRead q s) s.ev.intakeFits := by simp [execEvtRead]
@[simp] theorem State.sendNotice_intakeFits (s : State) (x : Session) : (s.sendNotice x).ev.intakeFits = s.ev.intakeFits := by
  unfold State.sendNotice
  split <;> simp
@[simp] theorem State.evtSubscribe_intakeFits (s : State) (q : VReq) : (s.evtSubscribe q).ev.intakeFits = s.ev.intakeFits := by
  unfold State.evtSubscribe
  split <;> simp
@[simp] theorem execEvtSubscribe_intakeKept (q : VReq) (s : State) : IntakeKept (execEvtSubscribe q s) s.ev.intakeFits := by
  simp [execEvtSubscribe]
@[simp] theorem State.ctrRead_intakeFits (s : State) (q : VReq) : (s.ctrRead q).ev.intakeFits = s.ev.intakeFits := by
  simp only [State.ctrRead]
  (repeat' split) <;> simp
@[simp] theorem execCtrRead_intakeKept (q : VReq) (s : State) : IntakeKept (execCtrRead q s) s.ev.intakeFits := by simp [execCtrRead]
@[simp] theorem State.ctrClear_intakeFits (s : State) (q : VReq) : (s.ctrClear q).ev.intakeFits = s.ev.intakeFits := by
  simp [State.ctrClear]
@[simp] theorem execCtrClear_intakeKept (q : VReq) (s : State) : IntakeKept (execCtrClear q s) s.ev.intakeFits := by simp [execCtrClear]

/-! ## The operations of Machine/HiveCtl -/

@[simp] theorem execHiveStatus_intakeKept (q : VReq) (s : State) : IntakeKept (execHiveStatus q s) s.ev.intakeFits := by
  simp [execHiveStatus]
@[simp] theorem State.hiveWake_intakeFits (s : State) (q : VReq) : (s.hiveWake q).ev.intakeFits = s.ev.intakeFits := by
  simp only [State.hiveWake]
  split <;> simp
@[simp] theorem execHiveWake_intakeKept (q : VReq) (s : State) : IntakeKept (execHiveWake q s) s.ev.intakeFits := by simp [execHiveWake]
@[simp] theorem State.hiveDark_intakeFits (s : State) (q : VReq) : (s.hiveDark q).ev.intakeFits = s.ev.intakeFits := by
  simp only [State.hiveDark]
  split <;> simp
@[simp] theorem execHiveDark_intakeKept (q : VReq) (s : State) : IntakeKept (execHiveDark q s) s.ev.intakeFits := by simp [execHiveDark]
@[simp] theorem State.superAsk_intakeFits (s : State) (q : VReq) : (s.superAsk q).ev.intakeFits = s.ev.intakeFits := by
  simp [State.superAsk]
@[simp] theorem execSuperAttach_intakeKept (q : VReq) (s : State) : IntakeKept (execSuperAttach q s) s.ev.intakeFits := by
  simp [execSuperAttach]
@[simp] theorem State.combRetire_intakeFits (s : State) (q : VReq) : (s.combRetire q).ev.intakeFits = s.ev.intakeFits := by
  simp only [State.combRetire]
  split <;> simp
@[simp] theorem execCombRetire_intakeKept (q : VReq) (s : State) : IntakeKept (execCombRetire q s) s.ev.intakeFits := by
  simp [execCombRetire]
@[simp] theorem State.acceptLoss_intakeFits (s : State) (q : VReq) : (s.acceptLoss q).ev.intakeFits = s.ev.intakeFits := by
  simp only [State.acceptLoss]
  split <;> simp
@[simp] theorem execStripeAcceptLoss_intakeKept (q : VReq) (s : State) : IntakeKept (execStripeAcceptLoss q s) s.ev.intakeFits := by
  simp [execStripeAcceptLoss]
@[simp] theorem execMediaStats_intakeKept (q : VReq) (s : State) : IntakeKept (execMediaStats q s) s.ev.intakeFits := by
  simp [execMediaStats]

/-! ## The operations of Machine/KeyCtl -/

@[simp] theorem State.ownerEnroll_intakeFits (s : State) (q : VReq) : (s.ownerEnroll q).ev.intakeFits = s.ev.intakeFits := by
  simp [State.ownerEnroll]
@[simp] theorem execOwnerEnroll_intakeKept (q : VReq) (s : State) : IntakeKept (execOwnerEnroll q s) s.ev.intakeFits := by
  simp [execOwnerEnroll]
@[simp] theorem State.keyProvision_intakeFits (s : State) (q : VReq) : (s.keyProvision q).ev.intakeFits = s.ev.intakeFits := by
  unfold State.keyProvision
  split <;> simp
@[simp] theorem execKeyProvision_intakeKept (q : VReq) (s : State) : IntakeKept (execKeyProvision q s) s.ev.intakeFits := by
  simp [execKeyProvision]
@[simp] theorem State.keyExport_intakeFits (s : State) (q : VReq) : (s.keyExport q).ev.intakeFits = s.ev.intakeFits := by
  simp [State.keyExport]
@[simp] theorem execKeyEscrowExport_intakeKept (q : VReq) (s : State) : IntakeKept (execKeyEscrowExport q s) s.ev.intakeFits := by
  simp [execKeyEscrowExport]
@[simp] theorem State.keyRestore_fits {s : State} (h : s.ev.intakeFits = true) (q : VReq) :
    (s.keyRestore q).ev.intakeFits = true := by
  simp only [State.keyRestore]
  (repeat' split) <;> simp [h]
@[simp] theorem execKeyRestore_intakeKept (q : VReq) (s : State) : IntakeKept (execKeyRestore q s) s.ev.intakeFits := by
  simp only [execKeyRestore, intakeKept_ok]
  exact State.virkan_fits fun _ ht => State.keyRestore_fits ht q
@[simp] theorem State.keyRotate_intakeFits (s : State) (q : VReq) : (s.keyRotate q).ev.intakeFits = s.ev.intakeFits := by
  simp only [State.keyRotate]
  split <;> simp
@[simp] theorem execKeyRotate_intakeKept (q : VReq) (s : State) : IntakeKept (execKeyRotate q s) s.ev.intakeFits := by simp [execKeyRotate]
@[simp] theorem State.keyErase_intakeFits (s : State) (q : VReq) : (s.keyErase q).ev.intakeFits = s.ev.intakeFits := by
  simp only [State.keyErase]
  split <;> simp
@[simp] theorem execKeyErase_intakeKept (q : VReq) (s : State) : IntakeKept (execKeyErase q s) s.ev.intakeFits := by simp [execKeyErase]
@[simp] theorem execKeyStatus_intakeKept (q : VReq) (s : State) : IntakeKept (execKeyStatus q s) s.ev.intakeFits := by simp [execKeyStatus]
@[simp] theorem State.attestReply_intakeFits (s : State) (q : VReq) : (s.attestReply q).ev.intakeFits = s.ev.intakeFits := by
  simp [State.attestReply]
@[simp] theorem execAttest_intakeKept (q : VReq) (s : State) : IntakeKept (execAttest q s) s.ev.intakeFits := by simp [execAttest]
@[simp] theorem execLedgerRead_intakeKept (q : VReq) (s : State) : IntakeKept (execLedgerRead q s) s.ev.intakeFits := by
  simp [execLedgerRead]

/-! ## The operations of Machine/PairCtl -/

@[simp] theorem execPairStatus_intakeKept (q : VReq) (s : State) : IntakeKept (execPairStatus q s) s.ev.intakeFits := by
  simp [execPairStatus]
@[simp] theorem State.rebalance_intakeFits (s : State) (q : VReq) : (s.rebalance q).ev.intakeFits = s.ev.intakeFits := by
  simp [State.rebalance]
@[simp] theorem execRebalance_intakeKept (q : VReq) (s : State) : IntakeKept (execRebalance q s) s.ev.intakeFits := by simp [execRebalance]
@[simp] theorem State.pathDrill_intakeFits (s : State) (q : VReq) : (s.pathDrill q).ev.intakeFits = s.ev.intakeFits := by
  simp only [State.pathDrill]
  (repeat' split) <;> simp
@[simp] theorem execPathDrill_intakeKept (q : VReq) (s : State) : IntakeKept (execPathDrill q s) s.ev.intakeFits := by simp [execPathDrill]
@[simp] theorem execPathDrillAckTimeout_intakeKept (s : State) : IntakeKept (execPathDrillAckTimeout s) s.ev.intakeFits := by
  unfold execPathDrillAckTimeout
  (repeat' split) <;> simp
@[simp] theorem State.mirrorDiscard_intakeFits (s : State) (q : VReq) : (s.mirrorDiscard q).ev.intakeFits = s.ev.intakeFits := by
  simp [State.mirrorDiscard]
@[simp] theorem execMirrorDiscard_intakeKept (q : VReq) (s : State) : IntakeKept (execMirrorDiscard q s) s.ev.intakeFits := by
  simp [execMirrorDiscard]
@[simp] theorem execPairElect_intakeKept (q : VReq) (s : State) : IntakeKept (execPairElect q s) s.ev.intakeFits := by simp [execPairElect]

/-! ## The operations of Machine/Repl -/

@[simp] theorem State.notBound_intakeFits (s : State) (src : Nat) : (s.notBound src).ev.intakeFits = s.ev.intakeFits := rfl
@[simp] theorem execSetup_intakeKept (src group source mode : Nat) (domains : List Nat) (salts : List Bytes) (s : State) :
    IntakeKept (execSetup src group source mode domains salts s) s.ev.intakeFits := by simp [execSetup]
@[simp] theorem execSetupReply_intakeKept (group : Nat) (accepted : Bool) (cause : Nat) (s : State) :
    IntakeKept (execSetupReply group accepted cause s) s.ev.intakeFits := by
  unfold execSetupReply
  split <;> simp
@[simp] theorem execPositionQuery_intakeKept (src group : Nat) (s : State) :
    IntakeKept (execPositionQuery src group s) s.ev.intakeFits := by
  unfold execPositionQuery
  (repeat' split) <;> simp
@[simp] theorem execPosition_intakeKept (group seq ordinal : Nat) (s : State) :
    IntakeKept (execPosition group seq ordinal s) s.ev.intakeFits := by
  unfold execPosition
  (repeat' split) <;> simp
@[simp] theorem execPositionQueryTimeout_intakeKept (group : Nat) (s : State) :
    IntakeKept (execPositionQueryTimeout group s) s.ev.intakeFits := by
  unfold execPositionQueryTimeout
  split <;> simp
@[simp] theorem execOffer_intakeKept (src group batch : Nat) (fps : List (Bytes × Nat × Nat)) (s : State) :
    IntakeKept (execOffer src group batch fps s) s.ev.intakeFits := by
  unfold execOffer
  (repeat' split) <;> simp
@[simp] theorem execNeed_intakeKept (group batch : Nat) (bits : List Bool) (s : State) :
    IntakeKept (execNeed group batch bits s) s.ev.intakeFits := by
  unfold execNeed
  (repeat' split) <;> simp
@[simp] theorem State.chunkFails_intakeFits (s : State) (src : Nat) (r : Replica) :
    (s.chunkFails src r).ev.intakeFits = s.ev.intakeFits := by
  unfold State.chunkFails
  split <;> simp
@[simp] theorem execChunk_intakeKept (src group domain chunk gen clen : Nat) (body : Bytes) (s : State) :
    IntakeKept (execChunk src group domain chunk gen clen body s) s.ev.intakeFits := by
  unfold execChunk
  (repeat' split) <;> simp
@[simp] theorem execBatch_intakeKept (src group first last : Nat) (base final : Bool) (es : List ShipEntry) (s : State) :
    IntakeKept (execBatch src group first last base final es s) s.ev.intakeFits := by
  unfold execBatch
  (repeat' split) <;> simp
@[simp] theorem State.answerSnaps_intakeFits (s : State) (g : RGroup) (seq : Nat) :
    (s.answerSnaps g seq).ev.intakeFits = s.ev.intakeFits := by
  simp [State.answerSnaps]
@[simp] theorem State.snapShipped_intakeFits (s : State) (g : RGroup) : (s.snapShipped g).ev.intakeFits = s.ev.intakeFits := by
  simp [State.snapShipped]
@[simp] theorem execApplied_intakeKept (group seq : Nat) (s : State) : IntakeKept (execApplied group seq s) s.ev.intakeFits := by
  unfold execApplied
  (repeat' split) <;> simp
@[simp] theorem execBatchClose_intakeKept (group : Nat) (s : State) : IntakeKept (execBatchClose group s) s.ev.intakeFits := by
  simp [execBatchClose]
@[simp] theorem execGroupLapse_intakeKept (group : Nat) (s : State) : IntakeKept (execGroupLapse group s) s.ev.intakeFits := by
  unfold execGroupLapse
  split <;> simp
@[simp] theorem execRepairAsk_intakeKept (src domain : Nat) (fp : Bytes) (len : Nat) (s : State) :
    IntakeKept (execRepairAsk src domain fp len s) s.ev.intakeFits := by simp [execRepairAsk]
@[simp] theorem State.repairFails_intakeFits (s : State) (r : Repair) : (s.repairFails r).ev.intakeFits = s.ev.intakeFits := by
  simp [State.repairFails]
@[simp] theorem State.repairNext_intakeFits (s : State) (r : Repair) : (s.repairNext r).ev.intakeFits = s.ev.intakeFits := by
  simp only [State.repairNext]
  (repeat' split) <;> simp
@[simp] theorem execRepairData_intakeKept (domain chunk gen clen : Nat) (body : Bytes) (s : State) :
    IntakeKept (execRepairData domain chunk gen clen body s) s.ev.intakeFits := by
  simp only [execRepairData]
  (repeat' split) <;> simp
@[simp] theorem execRepairNone_intakeKept (domain : Nat) (fp : Bytes) (s : State) :
    IntakeKept (execRepairNone domain fp s) s.ev.intakeFits := by
  unfold execRepairNone
  split <;> simp
@[simp] theorem execRepairTimeout_intakeKept (domain chunk : Nat) (s : State) :
    IntakeKept (execRepairTimeout domain chunk s) s.ev.intakeFits := by
  unfold execRepairTimeout
  split <;> simp

/-! ## The operations of Machine/ReplCtl -/

@[simp] theorem State.rgCreate_intakeFits (s : State) (q : VReq) : (s.rgCreate q).ev.intakeFits = s.ev.intakeFits := by
  simp [State.rgCreate]
@[simp] theorem execRgCreate_intakeKept (q : VReq) (s : State) : IntakeKept (execRgCreate q s) s.ev.intakeFits := by simp [execRgCreate]
@[simp] theorem State.rgDelete_intakeFits (s : State) (q : VReq) : (s.rgDelete q).ev.intakeFits = s.ev.intakeFits := by
  simp only [State.rgDelete]
  split <;> simp
@[simp] theorem execRgDelete_intakeKept (q : VReq) (s : State) : IntakeKept (execRgDelete q s) s.ev.intakeFits := by simp [execRgDelete]
@[simp] theorem execRgStatus_intakeKept (q : VReq) (s : State) : IntakeKept (execRgStatus q s) s.ev.intakeFits := by simp [execRgStatus]
@[simp] theorem State.rgPause_intakeFits (s : State) (q : VReq) (op : Nat) (on : Bool) :
    (s.rgPause q op on).ev.intakeFits = s.ev.intakeFits := by
  unfold State.rgPause
  split <;> simp
@[simp] theorem execRgPause_intakeKept (q : VReq) (s : State) : IntakeKept (execRgPause q s) s.ev.intakeFits := by simp [execRgPause]
@[simp] theorem execRgResume_intakeKept (q : VReq) (s : State) : IntakeKept (execRgResume q s) s.ev.intakeFits := by simp [execRgResume]
@[simp] theorem State.snapAsk_intakeFits (s : State) (q : VReq) : (s.snapAsk q).ev.intakeFits = s.ev.intakeFits := by
  simp only [State.snapAsk]
  split <;> simp
@[simp] theorem execSnapShip_intakeKept (q : VReq) (s : State) : IntakeKept (execSnapShip q s) s.ev.intakeFits := by simp [execSnapShip]

/-! ## The operations of Machine/Update -/

@[simp] theorem State.updEvent_intakeFits (s : State) (stage base target : Nat) :
    (s.updEvent stage base target).ev.intakeFits = s.ev.intakeFits := by
  simp [State.updEvent]
@[simp] theorem State.updBegin_intakeFits (s : State) (q : VReq) : (s.updBegin q).ev.intakeFits = s.ev.intakeFits := by
  unfold State.updBegin
  split <;> simp
@[simp] theorem execUpdBegin_intakeKept (q : VReq) (s : State) : IntakeKept (execUpdBegin q s) s.ev.intakeFits := by simp [execUpdBegin]
@[simp] theorem State.writeResult_intakeFits (s : State) (u : Update) (a : Assembly) :
    (s.writeResult u a).ev.intakeFits = s.ev.intakeFits := by
  simp [State.writeResult]
@[simp] theorem State.recordBlock_intakeFits (s : State) (w : Waiter) (u : Update) (data : Bytes) :
    (s.recordBlock w u data).ev.intakeFits = s.ev.intakeFits := by simp [State.recordBlock]
@[simp] theorem State.judgeBlock_intakeFits (s : State) (w : Waiter) (off crc : Nat) (data : Bytes) :
    (s.judgeBlock w off crc data).ev.intakeFits = s.ev.intakeFits := by
  unfold State.judgeBlock
  split <;> simp
@[simp] theorem execUpdBlock_intakeKept (q : VReq) (s : State) : IntakeKept (execUpdBlock q s) s.ev.intakeFits := by simp [execUpdBlock]
@[simp] theorem execUpdateStagingRoom_intakeKept (bytes : Nat) (s : State) :
    IntakeKept (execUpdateStagingRoom bytes s) s.ev.intakeFits := by
  unfold execUpdateStagingRoom
  split <;> simp
@[simp] theorem State.updVerify_intakeFits (s : State) (q : VReq) : (s.updVerify q).ev.intakeFits = s.ev.intakeFits := by
  unfold State.updVerify
  split <;> simp
@[simp] theorem execUpdVerify_intakeKept (q : VReq) (s : State) : IntakeKept (execUpdVerify q s) s.ev.intakeFits := by simp [execUpdVerify]
@[simp] theorem State.updActivate_intakeFits (s : State) (q : VReq) : (s.updActivate q).ev.intakeFits = s.ev.intakeFits := by
  unfold State.updActivate
  (repeat' split) <;> simp
@[simp] theorem execUpdActivate_intakeKept (q : VReq) (s : State) : IntakeKept (execUpdActivate q s) s.ev.intakeFits := by
  simp [execUpdActivate]
@[simp] theorem State.updConfirm_intakeFits (s : State) (q : VReq) : (s.updConfirm q).ev.intakeFits = s.ev.intakeFits := by
  unfold State.updConfirm
  split <;> simp
@[simp] theorem execUpdConfirm_intakeKept (q : VReq) (s : State) : IntakeKept (execUpdConfirm q s) s.ev.intakeFits := by
  simp [execUpdConfirm]
@[simp] theorem State.updAbort_fits {s : State} (h : s.ev.intakeFits = true) (q : VReq) : (s.updAbort q).ev.intakeFits = true := by
  simp [State.updAbort, h]
@[simp] theorem execUpdAbort_intakeKept (q : VReq) (s : State) : IntakeKept (execUpdAbort q s) s.ev.intakeFits := by
  simp only [execUpdAbort, intakeKept_ok]
  exact State.virkan_fits fun _ ht => State.updAbort_fits ht q
@[simp] theorem execUpdLock_intakeKept (q : VReq) (s : State) : IntakeKept (execUpdLock q s) s.ev.intakeFits := by simp [execUpdLock]
@[simp] theorem execTrialWindowEnd_intakeKept (s : State) : IntakeKept (execTrialWindowEnd s) s.ev.intakeFits := by
  unfold execTrialWindowEnd
  split <;> simp +contextual
@[simp] theorem State.restart_fits {s : State} (h : s.ev.intakeFits = true) (q : VReq) : (s.restart q).ev.intakeFits = true := by
  simp [State.restart, h]
@[simp] theorem execRestart_intakeKept (q : VReq) (s : State) : IntakeKept (execRestart q s) s.ev.intakeFits := by
  simp only [execRestart, intakeKept_ok]
  exact State.virkan_fits fun _ ht => State.restart_fits ht q

/-! ## The operations of Machine/Virkan -/

@[simp] theorem State.openSession_intakeFits (s : State) (q : VReq) : (s.openSession q).ev.intakeFits = s.ev.intakeFits := by
  simp [State.openSession]
@[simp] theorem execSessionOpen_intakeKept (q : VReq) (s : State) : IntakeKept (execSessionOpen q s) s.ev.intakeFits := by
  simp [execSessionOpen]
@[simp] theorem State.authSession_intakeFits (s : State) (q : VReq) : (s.authSession q).ev.intakeFits = s.ev.intakeFits := by
  unfold State.authSession
  split <;> simp
@[simp] theorem execSessionAuth_intakeKept (q : VReq) (s : State) : IntakeKept (execSessionAuth q s) s.ev.intakeFits := by
  simp [execSessionAuth]
@[simp] theorem execSessionClose_intakeKept (q : VReq) (s : State) : IntakeKept (execSessionClose q s) s.ev.intakeFits := by
  simp [execSessionClose]
@[simp] theorem execSessionList_intakeKept (q : VReq) (s : State) : IntakeKept (execSessionList q s) s.ev.intakeFits := by
  simp [execSessionList]
@[simp] theorem execSessionIdleExpiry_intakeKept (handle : Nat) (s : State) :
    IntakeKept (execSessionIdleExpiry handle s) s.ev.intakeFits := by
  unfold execSessionIdleExpiry
  split <;> simp

/-! ## The operations of Machine/VirkanWire -/

/-- Each meaning of the catalogue's opcodes leaves an intake that fits. -/
theorem ops_intakeKept : ∀ e ∈ opsA ++ opsB ++ opsC ++ opsD, ∀ (q : VReq) (s : State), IntakeKept (e.2 q s) s.ev.intakeFits := by
  simp [opsA, opsB, opsC, opsD]
@[simp] theorem State.runOp_fits {s : State} (h : s.ev.intakeFits = true) (op : Nat) (q : VReq) :
    (s.runOp op q).ev.intakeFits = true := by
  unfold State.runOp
  split
  · next f hf =>
    have hkept := ops_intakeKept _ (List.mem_of_find?_eq_some hf) q s
    split
    · exact hkept _ ‹_› h
    · exact h
  · simp [h]
@[simp] theorem State.wire_fits {s : State} (h : s.ev.intakeFits = true) (via : Transport) (bs : Bytes) :
    (s.wire via bs).ev.intakeFits = true := by
  unfold State.wire
  (repeat' split) <;> simp [h]
@[simp] theorem execAdminC0hSubmit_intakeKept (e : Sqe) (s : State) : IntakeKept (execAdminC0hSubmit e s) s.ev.intakeFits := by
  simp only [execAdminC0hSubmit, intakeKept_ok]
  refine State.nvme_fits fun _ t ht => ?_
  split <;> simp [ht]
@[simp] theorem execAdminC1hFetch_intakeKept (e : Sqe) (s : State) :
    IntakeKept (execAdminC1hFetch e s) s.ev.intakeFits := by
  simp only [execAdminC1hFetch, intakeKept_ok]
  refine fun h => (State.nvme_intakeFits _ _ _ fun _ _ => ?_).trans h
  (repeat' split) <;> simp
@[simp] theorem execMgVirkanPacket_intakeKept (conn : Nat) (bytes : Bytes) (s : State) :
    IntakeKept (execMgVirkanPacket conn bytes s) s.ev.intakeFits := by simp +contextual [execMgVirkanPacket]
@[simp] theorem execAttestationServiceRequest_intakeKept (conn : Nat) (bytes : Bytes) (s : State) :
    IntakeKept (execAttestationServiceRequest conn bytes s) s.ev.intakeFits := by simp [execAttestationServiceRequest]
@[simp] theorem execVirkanReplyExpiry_intakeKept (via : Transport) (session tag : Nat) (s : State) :
    IntakeKept (execVirkanReplyExpiry via session tag s) s.ev.intakeFits := by
  unfold execVirkanReplyExpiry
  split <;> simp
@[simp] theorem execConfirmCodeExpiry_intakeKept (handle : Nat) (s : State) :
    IntakeKept (execConfirmCodeExpiry handle s) s.ev.intakeFits := by
  simp [execConfirmCodeExpiry]

/-! ## The operations of Machine/Sideband -/

@[simp] theorem State.sbOp_intakeKept {s : State} {off : Nat} {f : State → State} (hf : FitsAfter f) :
    IntakeKept (s.sbOp off f) s.ev.intakeFits := by
  simp only [State.sbOp, intakeKept_ok]
  split
  · intro h
    simpa using hf (s.sb' _) h
  · exact id
@[simp] theorem State.sbDrain_fits {s : State} (h : s.ev.intakeFits = true) : s.sbDrain.ev.intakeFits = true := by
  simp only [State.sbDrain]
  split
  · exact h
  · rw [State.sbLoad_intakeFits]
    refine foldl_fits (fun t bs ht => State.wire_fits (by simpa using ht) ..) _ ?_
    split <;> simp [h]
@[simp] theorem execSbReqData_intakeKept (word : BitVec 32) (s : State) : IntakeKept (execSbReqData word s) s.ev.intakeFits := by
  refine State.sbOp_intakeKept fun t ht => ?_
  dsimp only
  (repeat' split) <;> simp [ht]
@[simp] theorem State.reqRewind_intakeFits (s : State) : s.reqRewind.ev.intakeFits = s.ev.intakeFits := rfl
@[simp] theorem execSbReqCap_intakeKept (word : BitVec 32) (s : State) : IntakeKept (execSbReqCap word s) s.ev.intakeFits := by
  refine State.sbOp_intakeKept fun t ht => ?_
  dsimp only
  (repeat' split) <;> simp [ht]
@[simp] theorem execSbRspData_intakeKept (s : State) : IntakeKept (execSbRspData s) s.ev.intakeFits := by
  refine State.sbOp_intakeKept fun t ht => ?_
  dsimp only
  (repeat' split) <;> simp [ht]
@[simp] theorem execSbRtcLo_intakeKept (s : State) : IntakeKept (execSbRtcLo s) s.ev.intakeFits := by simp [execSbRtcLo]
@[simp] theorem execSbSentinelReset_intakeKept (word : BitVec 32) (s : State) :
    IntakeKept (execSbSentinelReset word s) s.ev.intakeFits := by
  refine State.sbOp_intakeKept fun t ht => ?_
  dsimp only
  (repeat' split) <;> simp [ht]
@[simp] theorem execSentinelResetArmExpiry_intakeKept (s : State) : IntakeKept (execSentinelResetArmExpiry s) s.ev.intakeFits := by
  simp [execSentinelResetArmExpiry]
@[simp] theorem execSbWake_intakeKept (word : BitVec 32) (s : State) : IntakeKept (execSbWake word s) s.ev.intakeFits := by
  simp [execSbWake]
@[simp] theorem execSbPadRelease_intakeKept (word : BitVec 32) (s : State) : IntakeKept (execSbPadRelease word s) s.ev.intakeFits := by
  simp [execSbPadRelease]
@[simp] theorem execSbIntStatus_intakeKept (word : BitVec 32) (s : State) : IntakeKept (execSbIntStatus word s) s.ev.intakeFits := by
  simp [execSbIntStatus]
@[simp] theorem execSbMbxError_intakeKept (word : BitVec 32) (s : State) : IntakeKept (execSbMbxError word s) s.ev.intakeFits := by
  simp [execSbMbxError]
@[simp] theorem execSbRegisterWrite_intakeKept (off : Nat) (word : BitVec 32) (s : State) :
    IntakeKept (execSbRegisterWrite off word s) s.ev.intakeFits := by simp [execSbRegisterWrite]

/-! ## The operations of Machine/Clock -/

@[simp] theorem State.adjustTick_intakeFits (s : State) : s.adjustTick.ev.intakeFits = s.ev.intakeFits := rfl
@[simp] theorem execPtpMessage_intakeKept (kind src : Nat) (offset : Int) (s : State) :
    IntakeKept (execPtpMessage kind src offset s) s.ev.intakeFits := by simp [execPtpMessage]
@[simp] theorem execAlignmentTimeout_intakeKept (s : State) : IntakeKept (execAlignmentTimeout s) s.ev.intakeFits := by
  simp [execAlignmentTimeout]
@[simp] theorem execRtcDiscipline_intakeKept (s : State) : IntakeKept (execRtcDiscipline s) s.ev.intakeFits := by simp [execRtcDiscipline]
@[simp] theorem State.quietHosts_intakeFits (s : State) : s.quietHosts.ev.intakeFits = s.ev.intakeFits := by simp [State.quietHosts]
@[simp] theorem State.votesDown_intakeFits (s : State) : s.votesDown.ev.intakeFits = s.ev.intakeFits := by simp [State.votesDown]
@[simp] theorem State.fallAsleep_intakeFits (s : State) (m : Mode) : (s.fallAsleep m).ev.intakeFits = s.ev.intakeFits := by
  simp [State.fallAsleep]
@[simp] theorem execHoldEntry_intakeKept (s : State) : IntakeKept (execHoldEntry s) s.ev.intakeFits := by simp [execHoldEntry]
@[simp] theorem execWatchEntry_intakeKept (s : State) : IntakeKept (execWatchEntry s) s.ev.intakeFits := by simp [execWatchEntry]
@[simp] theorem State.wakeUp_fits {s : State} (h : s.ev.intakeFits = true) (left : Mode) : (s.wakeUp left).ev.intakeFits = true := by
  simp [State.wakeUp, h]
@[simp] theorem execHoldWake_intakeKept (s : State) : IntakeKept (execHoldWake s) s.ev.intakeFits := by
  unfold execHoldWake
  split <;> simp +contextual
@[simp] theorem State.imprintFails_fits (s : State) : s.imprintFails.ev.intakeFits = true := by simp [State.imprintFails]
@[simp] theorem execWatchWake_intakeKept (imprintOk : Bool) (s : State) : IntakeKept (execWatchWake imprintOk s) s.ev.intakeFits := by
  unfold execWatchWake
  split <;> simp +contextual
@[simp] theorem execWatchSample_intakeKept (tj : Int) (holdup : Nat) (s : State) :
    IntakeKept (execWatchSample tj holdup s) s.ev.intakeFits := by
  simp only [execWatchSample, intakeKept_ok]
  intro h
  split
  · exact h
  split
  · split <;> simp [h]
  split
  · exact h
  split
  · simp
  · simp [h]
@[simp] theorem execWakeN_intakeKept (us : Nat) (s : State) : IntakeKept (execWakeN us s) s.ev.intakeFits := by simp [execWakeN]
@[simp] theorem execWatchdogKick_intakeKept (s : State) : IntakeKept (execWatchdogKick s) s.ev.intakeFits := by simp [execWatchdogKick]
@[simp] theorem execWatchdogExpiry_intakeKept (s : State) : IntakeKept (execWatchdogExpiry s) s.ev.intakeFits := by
  unfold execWatchdogExpiry
  split <;> simp +contextual
@[simp] theorem execChipResetN_intakeKept (ns : Nat) (s : State) : IntakeKept (execChipResetN ns s) s.ev.intakeFits := by
  simp +contextual [execChipResetN]
@[simp] theorem execPowerOnResetRelease_intakeKept (s : State) : IntakeKept (execPowerOnResetRelease s) s.ev.intakeFits := by
  simp [execPowerOnResetRelease]

/-! ## The operations of Machine/Forage -/

@[simp] theorem execForageWrite_intakeKept (p : FPkt) (carried : Option ShadowRec) (journal : Option JournalEntry) (s : State) :
    IntakeKept (execForageWrite p carried journal s) s.ev.intakeFits := by simp [execForageWrite]
@[simp] theorem execWriteImm_intakeKept (p : FPkt) (s : State) : IntakeKept (execWriteImm p s) s.ev.intakeFits := by simp [execWriteImm]
@[simp] theorem execReadReq_intakeKept (p : FPkt) (s : State) : IntakeKept (execReadReq p s) s.ev.intakeFits := by simp [execReadReq]
@[simp] theorem execReadResp_intakeKept (p : FPkt) (s : State) : IntakeKept (execReadResp p s) s.ev.intakeFits := by simp [execReadResp]
@[simp] theorem State.confirmMirror_intakeFits (s : State) (ctx : Nat) (ms : List SentMsg) :
    (s.confirmMirror ctx ms).ev.intakeFits = s.ev.intakeFits := by
  simp [State.confirmMirror]
@[simp] theorem State.drillAcked_intakeFits (s : State) (ctx : Nat) (ms : List SentMsg) :
    (s.drillAcked ctx ms).ev.intakeFits = s.ev.intakeFits := by
  unfold State.drillAcked
  (repeat' split) <;> simp
@[simp] theorem State.forageAck_fits {s : State} (h : s.ev.intakeFits = true) (c : Ctx) (id : BitVec 32) (residence : Nat)
    (map : BitVec 64) (echo : Nat) : (s.forageAck c id residence map echo).ev.intakeFits = true := by simp [State.forageAck, h]
@[simp] theorem execForageAck_intakeKept (p : FPkt) (ctx : Nat) (id : BitVec 32) (rx : Nat) (map : BitVec 64) (echo : Nat) (s : State) :
    IntakeKept (execForageAck p ctx id rx map echo s) s.ev.intakeFits := by
  simp only [execForageAck]
  (repeat' split) <;> simp +contextual
@[simp] theorem State.resendMissing_intakeFits (s : State) (c : Ctx) (m : SentMsg) (off map : Nat) :
    (s.resendMissing c m off map).ev.intakeFits = s.ev.intakeFits := by simp [State.resendMissing]
@[simp] theorem State.forageNak_intakeFits (s : State) (c : Ctx) (p : FPkt) : (s.forageNak c p).ev.intakeFits = s.ev.intakeFits := by
  simp only [State.forageNak]
  (repeat' split) <;> simp
@[simp] theorem execForageNak_intakeKept (p : FPkt) (ctx : Nat) (id : BitVec 32) (code off map : Nat) (s : State) :
    IntakeKept (execForageNak p ctx id code off map s) s.ev.intakeFits := by
  simp only [execForageNak]
  (repeat' split) <;> simp
@[simp] theorem execSendQueuePost_intakeKept (ctx : Nat) (es : List WorkEntry) (s : State) :
    IntakeKept (execSendQueuePost ctx es s) s.ev.intakeFits := by
  unfold execSendQueuePost
  split <;> simp
@[simp] theorem State.rebindTimeout_intakeFits (s : State) (c : Ctx) : (s.rebindTimeout c).ev.intakeFits = s.ev.intakeFits := by
  simp [State.rebindTimeout]
@[simp] theorem execRetransmissionTimeout_intakeKept (ctx : Nat) (s : State) :
    IntakeKept (execRetransmissionTimeout ctx s) s.ev.intakeFits := by
  unfold execRetransmissionTimeout
  (repeat' split) <;> simp
@[simp] theorem execMessageGiveUp_intakeKept (ctx : Nat) (s : State) : IntakeKept (execMessageGiveUp ctx s) s.ev.intakeFits := by
  unfold execMessageGiveUp
  split <;> simp
@[simp] theorem execConnectionBreak_intakeKept (ctx : Nat) (s : State) : IntakeKept (execConnectionBreak ctx s) s.ev.intakeFits := by
  unfold execConnectionBreak
  split <;> simp
@[simp] theorem execRnrBackoffExpiry_intakeKept (ctx : Nat) (s : State) : IntakeKept (execRnrBackoffExpiry ctx s) s.ev.intakeFits := by
  unfold execRnrBackoffExpiry
  split <;> simp
@[simp] theorem execRecentIdAging_intakeKept (s : State) : IntakeKept (execRecentIdAging s) s.ev.intakeFits := by simp [execRecentIdAging]
@[simp] theorem execContextFetchDone_intakeKept (ctx : Nat) (s : State) : IntakeKept (execContextFetchDone ctx s) s.ev.intakeFits := by
  unfold execContextFetchDone
  split <;> simp
@[simp] theorem execContextFail_intakeKept (ctx : Nat) (s : State) : IntakeKept (execContextFail ctx s) s.ev.intakeFits := by
  unfold execContextFail
  split <;> simp
@[simp] theorem execPathIdleFree_intakeKept (path : Nat) (s : State) : IntakeKept (execPathIdleFree path s) s.ev.intakeFits := by
  unfold execPathIdleFree
  split <;> simp

/-! ## The operations of Machine/DramUnit -/

@[simp] theorem State.scrubChannel_intakeFits (s : State) (ch : Nat) : (s.scrubChannel ch).ev.intakeFits = s.ev.intakeFits := by
  simp [State.scrubChannel]
@[simp] theorem execDramScrub_intakeKept (s : State) : IntakeKept (execDramScrub s) s.ev.intakeFits := by simp [execDramScrub]
@[simp] theorem State.channelFailed_intakeFits (s : State) (ch : Nat) : (s.channelFailed ch).ev.intakeFits = s.ev.intakeFits := by
  simp [State.channelFailed]
@[simp] theorem State.repairLine_intakeFits (s : State) (ch addr : Nat) : (s.repairLine ch addr).ev.intakeFits = s.ev.intakeFits := by
  unfold State.repairLine
  (repeat' split) <;> simp
@[simp] theorem execDramUncorrectable_intakeKept (channel : Nat) (addr : Option Nat) (s : State) :
    IntakeKept (execDramUncorrectable channel addr s) s.ev.intakeFits := by
  unfold execDramUncorrectable
  (repeat' split) <;> simp
@[simp] theorem State.dramWrite_intakeFits (s : State) (addr : Nat) (bytes : Bytes) :
    (s.dramWrite addr bytes).ev.intakeFits = s.ev.intakeFits := rfl
@[simp] theorem State.cacheRead_intakeFits (s : State) (addr : Nat) : (s.cacheRead addr).ev.intakeFits = s.ev.intakeFits := by
  simp only [State.cacheRead]
  repeat' split
  any_goals simp
  all_goals exact intakeFits_of_eq ‹_› (by simp)
@[simp] theorem State.cacheWrite_intakeFits (s : State) (addr : Nat) (bytes : Bytes) :
    (s.cacheWrite addr bytes).ev.intakeFits = s.ev.intakeFits := by
  simp only [State.cacheWrite]
  repeat' split
  any_goals simp
  all_goals exact intakeFits_of_eq ‹_› (by simp)
@[simp] theorem execMapCacheAccess_intakeKept (write : Bool) (addr : Nat) (data : Bytes) (s : State) :
    IntakeKept (execMapCacheAccess write addr data s) s.ev.intakeFits := by
  unfold execMapCacheAccess
  (repeat' split) <;> simp
@[simp] theorem execZeroLine_intakeKept (addr : Nat) (s : State) : IntakeKept (execZeroLine addr s) s.ev.intakeFits := by
  simp only [execZeroLine]
  repeat' split
  any_goals simp
  all_goals exact fun h => (intakeFits_of_eq ‹_› (by simp)).trans h

/-! ## The operations of Machine/Event -/

@[simp] theorem execEventReport_intakeKept (r : Report0) (s : State) : IntakeKept (execEventReport r s) s.ev.intakeFits := by
  simp [execEventReport]
@[simp] theorem State.laneFrees_intakeFits (s : State) : s.laneFrees.ev.intakeFits = s.ev.intakeFits := by
  unfold State.laneFrees
  split
  · rfl
  split
  · rfl
  · rw [Bool.eq_iff_iff, RecorderPart.intakeFits_iff, RecorderPart.intakeFits_iff]
    simp only [State.stat_ev, State.ev'_ev, List.length_append, List.length_singleton]
    omega
/-- The writer takes an entry out of the lane or the FIFO (R719). -/
@[simp] theorem execEventWrite_intakeKept (s : State) : IntakeKept (execEventWrite s) s.ev.intakeFits := by
  simp only [execEventWrite, intakeKept_ok]
  split
  · next r rest _ hlane =>
    simp only [State.laneFrees_intakeFits, State.writeRec_intakeFits, RecorderPart.intakeFits_iff, hlane, State.ev'_ev, List.length_cons]
    omega
  · next r rest hlane hfifo =>
    simp only [State.writeRec_intakeFits, RecorderPart.intakeFits_iff, hfifo, State.ev'_ev, List.length_cons]
    omega
  · exact id
@[simp] theorem execBucketWindowClose_intakeKept (code : Nat) (s : State) : IntakeKept (execBucketWindowClose code s) s.ev.intakeFits := by
  unfold execBucketWindowClose
  (repeat' split) <;> simp
@[simp] theorem execBucketRefill_intakeKept (code : Nat) (s : State) : IntakeKept (execBucketRefill code s) s.ev.intakeFits := by
  unfold execBucketRefill
  split <;> simp
@[simp] theorem State.dropSummary_intakeFits (s : State) : s.dropSummary.ev.intakeFits = s.ev.intakeFits := by simp [State.dropSummary]
@[simp] theorem State.refusalSummary_intakeFits (s : State) : s.refusalSummary.ev.intakeFits = s.ev.intakeFits := by
  simp [State.refusalSummary]
@[simp] theorem execDropSummaryTimer_intakeKept (s : State) : IntakeKept (execDropSummaryTimer s) s.ev.intakeFits := by
  simp [execDropSummaryTimer]
@[simp] theorem execEventNoticeSend_intakeKept (handle : Nat) (s : State) : IntakeKept (execEventNoticeSend handle s) s.ev.intakeFits := by
  unfold execEventNoticeSend
  split <;> simp

/-! ## The operations of Machine/I3c -/

@[simp] theorem State.ccc_intakeKept (s : State) (f : State → State) (hf : KeepsIntake f) : IntakeKept (s.ccc f) s.ev.intakeFits := by
  simp [State.ccc, hf.intakeFits]
@[simp] theorem State.cccGet_intakeKept (s : State) (bytes : Bytes) : IntakeKept (s.cccGet bytes) s.ev.intakeFits := by simp [State.cccGet]
@[simp] theorem execEntdaa_intakeKept (addr : Nat) (s : State) : IntakeKept (execEntdaa addr s) s.ev.intakeFits := by simp [execEntdaa]
@[simp] theorem execSetdasa_intakeKept (addr : Nat) (s : State) : IntakeKept (execSetdasa addr s) s.ev.intakeFits := by simp [execSetdasa]
@[simp] theorem execRstdaa_intakeKept (s : State) : IntakeKept (execRstdaa s) s.ev.intakeFits := by simp [execRstdaa]
@[simp] theorem execSetnewda_intakeKept (addr : Nat) (s : State) : IntakeKept (execSetnewda addr s) s.ev.intakeFits := by
  simp [execSetnewda]
@[simp] theorem execEnec_intakeKept (bits : BitVec 8) (s : State) : IntakeKept (execEnec bits s) s.ev.intakeFits := by simp [execEnec]
@[simp] theorem execDisec_intakeKept (bits : BitVec 8) (s : State) : IntakeKept (execDisec bits s) s.ev.intakeFits := by simp [execDisec]
@[simp] theorem execGetpid_intakeKept (s : State) : IntakeKept (execGetpid s) s.ev.intakeFits := by simp [execGetpid]
@[simp] theorem execGetbcr_intakeKept (s : State) : IntakeKept (execGetbcr s) s.ev.intakeFits := by simp [execGetbcr]
@[simp] theorem execGetdcr_intakeKept (s : State) : IntakeKept (execGetdcr s) s.ev.intakeFits := by simp [execGetdcr]
@[simp] theorem execGetstatus_intakeKept (s : State) : IntakeKept (execGetstatus s) s.ev.intakeFits := by simp [execGetstatus]
@[simp] theorem execSetmwl_intakeKept (len : BitVec 16) (s : State) : IntakeKept (execSetmwl len s) s.ev.intakeFits := by simp [execSetmwl]
@[simp] theorem execSetmrl_intakeKept (len : BitVec 16) (s : State) : IntakeKept (execSetmrl len s) s.ev.intakeFits := by simp [execSetmrl]
@[simp] theorem execGetmwl_intakeKept (s : State) : IntakeKept (execGetmwl s) s.ev.intakeFits := by simp [execGetmwl]
@[simp] theorem execGetmrl_intakeKept (s : State) : IntakeKept (execGetmrl s) s.ev.intakeFits := by simp [execGetmrl]

/-! ## The operations of Machine/LinkEnd -/

@[simp] theorem State.dieStateTells_intakeFits (s : State) (link die : Nat) (w : BitVec 32) :
    (s.dieStateTells link die w).ev.intakeFits = s.ev.intakeFits := by
  unfold State.dieStateTells
  (repeat' split) <;> simp
@[simp] theorem State.fenceRegsTell_intakeFits (s : State) (link first : Nat) (vals : List (BitVec 32)) (tasks : List DieTask) :
    (s.fenceRegsTell link first vals tasks).ev.intakeFits = s.ev.intakeFits := by simp [State.fenceRegsTell]
@[simp] theorem State.dieRegsTell_intakeFits (s : State) (link first : Nat) (vals : List (BitVec 32)) (tasks : List DieTask) (d : Nat) :
    (s.dieRegsTell link first vals tasks d).ev.intakeFits = s.ev.intakeFits := by
  simp only [State.dieRegsTell]
  (repeat' split) <;> simp
@[simp] theorem State.askDescs_intakeFits (s : State) (link first : Nat) (vals : List (BitVec 32)) :
    (s.askDescs link first vals).ev.intakeFits = s.ev.intakeFits := by simp [State.askDescs]
@[simp] theorem State.regsEnd_intakeFits (s : State) (link : Nat) : (s.regsEnd link).ev.intakeFits = s.ev.intakeFits := by
  unfold State.regsEnd
  split <;> simp
@[simp] theorem State.regsArrive_intakeFits (s : State) (link first : Nat) (vals : List (BitVec 32)) :
    (s.regsArrive link first vals).ev.intakeFits = s.ev.intakeFits := by
  unfold State.regsArrive
  split <;> simp
@[simp] theorem execRegData_intakeKept (link : Nat) (f : LFrame) (vals : List (BitVec 32)) (s : State) :
    IntakeKept (execRegData link f vals s) s.ev.intakeFits := by simp [execRegData]
@[simp] theorem State.bridgeUnknown_intakeFits (s : State) (link : Nat) (port : Side) (f : LFrame) :
    (s.bridgeUnknown link port f).ev.intakeFits = s.ev.intakeFits := by simp [State.bridgeUnknown]
@[simp] theorem execDataFrame_intakeKept (link : Nat) (atHead : Bool) (port : Side) (f : LFrame) (s : State) :
    IntakeKept (execDataFrame link atHead port f s) s.ev.intakeFits := by simp [execDataFrame]
@[simp] theorem State.pageRead_intakeFits (s : State) (link : Nat) (f : LFrame) : (s.pageRead link f).ev.intakeFits = s.ev.intakeFits := by
  unfold State.pageRead
  split <;> simp
@[simp] theorem execPageEnd_intakeKept (link : Nat) (atHead : Bool) (port : Side) (f : LFrame) (s : State) :
    IntakeKept (execPageEnd link atHead port f s) s.ev.intakeFits := by simp [execPageEnd]
@[simp] theorem execDoneFrame_intakeKept (link : Nat) (f : LFrame) (s : State) : IntakeKept (execDoneFrame link f s) s.ev.intakeFits := by
  simp only [execDoneFrame]
  (repeat' split) <;> simp (disch := (simp only [keepsIntake_iff]; intros; (repeat' split) <;> simp))
@[simp] theorem execBridgeEvent_intakeKept (link : Nat) (f : LFrame) (s : State) :
    IntakeKept (execBridgeEvent link f s) s.ev.intakeFits := by
  simp only [execBridgeEvent]
  (repeat' split) <;> simp
@[simp] theorem State.retrained_intakeFits (s : State) (link : Nat) (next : BitVec 12) :
    (s.retrained link next).ev.intakeFits = s.ev.intakeFits := by
  unfold State.retrained
  split <;> simp
@[simp] theorem State.bridgeRetrained_intakeFits (s : State) (link : Nat) (port : Side) (next : BitVec 12) :
    (s.bridgeRetrained link port next).ev.intakeFits = s.ev.intakeFits := by simp [State.bridgeRetrained]
@[simp] theorem State.helloAtHead_intakeFits (s : State) (link : Nat) (f : LFrame) :
    (s.helloAtHead link f).ev.intakeFits = s.ev.intakeFits := by
  unfold State.helloAtHead
  split <;> simp
@[simp] theorem State.helloAtBridge_intakeFits (s : State) (link : Nat) (port : Side) (f : LFrame) :
    (s.helloAtBridge link port f).ev.intakeFits = s.ev.intakeFits := by
  unfold State.helloAtBridge
  split <;> simp
@[simp] theorem execHello_intakeKept (link : Nat) (atHead : Bool) (port : Side) (f : LFrame) (s : State) :
    IntakeKept (execHello link atHead port f s) s.ev.intakeFits := by simp [execHello]
@[simp] theorem execLinkAck_intakeKept (link : Nat) (atHead : Bool) (port : Side) (f : LFrame) (s : State) :
    IntakeKept (execLinkAck link atHead port f s) s.ev.intakeFits := by simp [execLinkAck]
@[simp] theorem State.bridgeAgain_intakeFits (s : State) (link : Nat) (port : Side) (from_ : BitVec 12) :
    (s.bridgeAgain link port from_).ev.intakeFits = s.ev.intakeFits := by
  unfold State.bridgeAgain
  split <;> simp
@[simp] theorem State.headAgain_intakeFits (s : State) (link : Nat) (from_ : BitVec 12) :
    (s.headAgain link from_).ev.intakeFits = s.ev.intakeFits := by
  simp only [State.headAgain]
  split <;> simp
@[simp] theorem execLinkNak_intakeKept (link : Nat) (atHead : Bool) (port : Side) (f : LFrame) (s : State) :
    IntakeKept (execLinkNak link atHead port f s) s.ev.intakeFits := by simp [execLinkNak]
@[simp] theorem State.bridgeTimer_intakeFits (s : State) (link : Nat) : (s.bridgeTimer link).ev.intakeFits = s.ev.intakeFits := by
  unfold State.bridgeTimer
  (repeat' split) <;> simp
@[simp] theorem execLinkResendTimer_intakeKept (link : Nat) (s : State) : IntakeKept (execLinkResendTimer link s) s.ev.intakeFits := by
  unfold execLinkResendTimer
  split <;> simp
@[simp] theorem execBlockLockLost_intakeKept (link : Nat) (s : State) : IntakeKept (execBlockLockLost link s) s.ev.intakeFits := by
  simp [execBlockLockLost]
@[simp] theorem execRetrain_intakeKept (link : Nat) (peerNext : BitVec 12) (s : State) :
    IntakeKept (execRetrain link peerNext s) s.ev.intakeFits := by
  simp only [execRetrain]
  split <;> simp
@[simp] theorem execRetrainTimeout_intakeKept (link : Nat) (s : State) : IntakeKept (execRetrainTimeout link s) s.ev.intakeFits := by
  simp [execRetrainTimeout]
@[simp] theorem execCombLinkBringUp_intakeKept (link : Nat) (good : Bool) (s : State) :
    IntakeKept (execCombLinkBringUp link good s) s.ev.intakeFits := by
  simp only [execCombLinkBringUp]
  split <;> simp
@[simp] theorem execLinkRetryTimer_intakeKept (link : Nat) (s : State) : IntakeKept (execLinkRetryTimer link s) s.ev.intakeFits := by
  unfold execLinkRetryTimer
  split <;> simp
@[simp] theorem State.failOutcome_intakeFits (s : State) (link : Nat) (k : DieTask) :
    (s.failOutcome link k).ev.intakeFits = s.ev.intakeFits := by
  unfold State.failOutcome
  split <;> simp
@[simp] theorem execLinkDownTimeout_intakeKept (link : Nat) (s : State) : IntakeKept (execLinkDownTimeout link s) s.ev.intakeFits := by
  unfold execLinkDownTimeout
  split <;> simp
@[simp] theorem State.taskFailed_intakeFits (s : State) (link : Nat) (k : DieTask) :
    (s.taskFailed link k).ev.intakeFits = s.ev.intakeFits := by
  simp [State.taskFailed]
@[simp] theorem execTaskDeadline_intakeKept (link tag : Nat) (s : State) : IntakeKept (execTaskDeadline link tag s) s.ev.intakeFits := by
  unfold execTaskDeadline
  (repeat' split) <;> simp
@[simp] theorem execBridgePowerUp_intakeKept (link : Nat) (s : State) : IntakeKept (execBridgePowerUp link s) s.ev.intakeFits := by
  simp [execBridgePowerUp]
@[simp] theorem execBridgeHealthChange_intakeKept (link code die detail : Nat) (s : State) :
    IntakeKept (execBridgeHealthChange link code die detail s) s.ev.intakeFits := by simp [execBridgeHealthChange]

/-! ## The operations of Machine/Stripes -/

@[simp] theorem State.fillLanding_intakeFits (s : State) (ord lane n : Nat) :
    (s.fillLanding ord lane n).ev.intakeFits = s.ev.intakeFits := by
  induction n generalizing s with
  | zero => rfl
  | succ n ih =>
    unfold State.fillLanding
    (repeat' split) <;> simp [ih]
@[simp] theorem State.openLanding_intakeFits (s : State) (hive lane : Nat) : (s.openLanding hive lane).ev.intakeFits = s.ev.intakeFits := by
  simp only [State.openLanding]
  repeat' split
  any_goals simp
  all_goals exact intakeFits_of_eq ‹_› (by simp)
@[simp] theorem execStripeOpen_intakeKept (hive lane : Nat) (purpose : Purpose) (s : State) :
    IntakeKept (execStripeOpen hive lane purpose s) s.ev.intakeFits := by
  unfold execStripeOpen
  split <;> simp
@[simp] theorem execStripeCloseTimer_intakeKept (ord : Nat) (s : State) : IntakeKept (execStripeCloseTimer ord s) s.ev.intakeFits := by
  unfold execStripeCloseTimer
  split <;> simp
@[simp] theorem execStripeProgramDone_intakeKept (ord : Nat) (s : State) : IntakeKept (execStripeProgramDone ord s) s.ev.intakeFits := by
  simp [execStripeProgramDone]
@[simp] theorem State.countProgFail_intakeFits (s : State) (link ord m : Nat) :
    (s.countProgFail link ord m).ev.intakeFits = s.ev.intakeFits := by
  simp [State.countProgFail]
@[simp] theorem State.freshUnit_intakeFits (s : State) (e : Member) (r : Region) (p : Purpose) :
    (s.freshUnit e r p).1.ev.intakeFits = s.ev.intakeFits := by
  simp only [State.freshUnit]
  repeat' split
  any_goals simp
  all_goals exact intakeFits_of_eq ‹_› (by simp)
@[simp] theorem execMemberProgramFail_intakeKept (ord member : Nat) (s : State) :
    IntakeKept (execMemberProgramFail ord member s) s.ev.intakeFits := by
  simp only [execMemberProgramFail]
  repeat' split
  any_goals simp
  all_goals exact fun h => (intakeFits_of_eq ‹_› (by simp)).trans h
@[simp] theorem execCombMarkFailed_intakeKept (link : Nat) (s : State) : IntakeKept (execCombMarkFailed link s) s.ev.intakeFits := by
  simp [execCombMarkFailed]
@[simp] theorem execRebuildStripe_intakeKept (hive : Nat) (s : State) : IntakeKept (execRebuildStripe hive s) s.ev.intakeFits := by
  simp only [execRebuildStripe]
  (repeat' split) <;> simp
@[simp] theorem execReplacementComb_intakeKept (link : Nat) (s : State) : IntakeKept (execReplacementComb link s) s.ev.intakeFits := by
  unfold execReplacementComb
  split <;> simp
@[simp] theorem State.reshape'_intakeFits (s : State) (h : Nat) (f : Reshape → Reshape) :
    (s.reshape' h f).ev.intakeFits = s.ev.intakeFits := rfl
@[simp] theorem State.reshapeCharge_intakeFits (s : State) (r : Reshape) (load : LinkLoad) (u : State)
    (hu : u.ev.intakeFits = s.ev.intakeFits) :
    (s.reshapeCharge r load u).ev.intakeFits = s.ev.intakeFits := by
  unfold State.reshapeCharge
  extract_lets fresh all
  split
  · rfl
  · simpa using hu
@[simp] theorem State.copyHoney_intakeFits (s : State) (h : Nat) (p : Purpose) (es : List (EnvEntry × Place × Bytes)) :
    (s.copyHoney h p es).ev.intakeFits = s.ev.intakeFits := by
  simp only [State.copyHoney]
  (repeat' split) <;> simp
@[simp] theorem State.reshapeOne_intakeFits (s0 : State) (r : Reshape) (t : Stripe) :
    (State.reshapeOne s0 r t).ev.intakeFits = s0.ev.intakeFits := by
  simp [State.reshapeOne]
@[simp] theorem State.reshapeCkpt_intakeFits (s : State) (r : Reshape) : (s.reshapeCkpt r).ev.intakeFits = s.ev.intakeFits := by
  simp [State.reshapeCkpt]
@[simp] theorem State.reshapeAgain_intakeFits (s : State) (r : Reshape) : (s.reshapeAgain r).ev.intakeFits = s.ev.intakeFits := by
  simp [State.reshapeAgain]
@[simp] theorem State.reshapeClose_intakeFits (s : State) (r : Reshape) : (s.reshapeClose r).ev.intakeFits = s.ev.intakeFits := by
  simp only [State.reshapeClose]
  (repeat' split) <;> simp
@[simp] theorem State.reshapePause_intakeFits (s : State) (h : Nat) : (s.reshapePause h).ev.intakeFits = s.ev.intakeFits := by
  simp [State.reshapePause]
@[simp] theorem State.reshapeEnd_intakeFits (s : State) (h : Nat) : (s.reshapeEnd h).ev.intakeFits = s.ev.intakeFits := by
  simp [State.reshapeEnd]
@[simp] theorem execReshapeStripes_intakeKept (hive : Nat) (s : State) : IntakeKept (execReshapeStripes hive s) s.ev.intakeFits := by
  simp only [execReshapeStripes]
  (repeat' split) <;> simp

/-! ## The operations of Machine/Media -/

@[simp] theorem State.closeRows_intakeFits (s : State) (h : Nat) : (s.closeRows h).ev.intakeFits = s.ev.intakeFits := by
  unfold State.closeRows
  refine foldl_intakeFits_of (fun _ _ => ?_) _ _
  (repeat' split) <;> simp
@[simp] theorem State.checkFold_intakeFits (s : State) : s.checkFold.ev.intakeFits = s.ev.intakeFits := by simp [State.checkFold]
@[simp] theorem State.foldRow_intakeFits (s : State) (h : Nat) : (s.foldRow h).ev.intakeFits = s.ev.intakeFits := by
  simp only [State.foldRow]
  (repeat' split) <;> simp
@[simp] theorem execFoldRow_intakeKept (hive : Nat) (s : State) : IntakeKept (execFoldRow hive s) s.ev.intakeFits := by simp [execFoldRow]
@[simp] theorem State.endReadBack_intakeFits (s : State) (r : FoldRow) (bad : List (Nat × Nat × Nat)) :
    (s.endReadBack r bad).ev.intakeFits = s.ev.intakeFits := by simp [State.endReadBack]
@[simp] theorem execReadBackDone_intakeKept (hive : Nat) (s : State) : IntakeKept (execReadBackDone hive s) s.ev.intakeFits := by
  unfold execReadBackDone
  split <;> simp
@[simp] theorem execReadBackFail_intakeKept (hive : Nat) (s : State) : IntakeKept (execReadBackFail hive s) s.ev.intakeFits := by
  simp only [execReadBackFail]
  split <;> simp
@[simp] theorem State.restStays_intakeFits (s : State) (t : Stripe) : (s.restStays t).ev.intakeFits = s.ev.intakeFits := by
  simp [State.restStays]
@[simp] theorem State.collect_intakeFits (s : State) (t : Stripe) : (s.collect t).ev.intakeFits = s.ev.intakeFits := by
  simp only [State.collect]
  (repeat' split) <;> simp
@[simp] theorem execGcMove_intakeKept (ord : Nat) (s : State) : IntakeKept (execGcMove ord s) s.ev.intakeFits := by
  unfold execGcMove
  split <;> simp
@[simp] theorem State.wearUnit_intakeFits (s : State) (die block : Nat) (t : Stripe) (i : Nat) :
    (s.wearUnit die block t i).ev.intakeFits = s.ev.intakeFits := by
  simp only [State.wearUnit]
  repeat' split
  any_goals simp
  all_goals exact intakeFits_of_eq ‹_› (by simp)
@[simp] theorem State.wearSet_intakeFits (s : State) (l : Link) (b : BlockSet) : (s.wearSet l b).ev.intakeFits = s.ev.intakeFits := by
  simp only [State.wearSet]
  (repeat' split) <;> simp (disch := (simp only [keepsIntake_iff]; intros; (repeat' split) <;> simp))
@[simp] theorem execWearMove_intakeKept (link : Nat) (s : State) : IntakeKept (execWearMove link s) s.ev.intakeFits := by
  simp only [execWearMove]
  (repeat' split) <;> simp
@[simp] theorem execBlockEraseDone_intakeKept (link die block : Nat) (s : State) :
    IntakeKept (execBlockEraseDone link die block s) s.ev.intakeFits := by
  unfold execBlockEraseDone
  split <;> simp

/-! ## The operations of Machine/Reduction -/

@[simp] theorem execChunkIngest_intakeKept (ordinal : Nat) (s : State) : IntakeKept (execChunkIngest ordinal s) s.ev.intakeFits := by
  simp [execChunkIngest]
@[simp] theorem execPostProcess_intakeKept (chunk : Nat) (s : State) : IntakeKept (execPostProcess chunk s) s.ev.intakeFits := by
  simp [execPostProcess]
@[simp] theorem State.filterRebuild_intakeFits (s : State) : s.filterRebuild.ev.intakeFits = s.ev.intakeFits := by
  unfold State.filterRebuild
  split <;> simp
@[simp] theorem execFilterRebuild_intakeKept (s : State) : IntakeKept (execFilterRebuild s) s.ev.intakeFits := by simp [execFilterRebuild]
@[simp] theorem execMergeCommit_intakeKept (nsid k : Nat) (s : State) : IntakeKept (execMergeCommit nsid k s) s.ev.intakeFits := by
  simp [execMergeCommit]
@[simp] theorem execEnvelopeRead_intakeKept (chunk : Nat) (s : State) : IntakeKept (execEnvelopeRead chunk s) s.ev.intakeFits := by
  simp [execEnvelopeRead]

/-! ## The operations of Machine/Shelf -/

@[simp] theorem State.combsOff_intakeFits (s : State) (h : Nat) : (s.combsOff h).ev.intakeFits = s.ev.intakeFits := rfl
@[simp] theorem State.shelf'_intakeFits (s : State) (h : Nat) (f : Shelf → Shelf) : (s.shelf' h f).ev.intakeFits = s.ev.intakeFits := rfl
@[simp] theorem State.shelfAnswer_intakeFits (s : State) (h : Nat) (src : Side) (seq : Nat) (f : Shelf → Shelf) :
    (s.shelfAnswer h src seq f).ev.intakeFits = s.ev.intakeFits := by
  simp only [State.shelfAnswer]
  (repeat' split) <;> simp
@[simp] theorem execHcbStatus_intakeKept (hive : Nat) (src : Side) (seq : Nat) (s : State) :
    IntakeKept (execHcbStatus hive src seq s) s.ev.intakeFits := by simp [execHcbStatus]
@[simp] theorem execHcbVote_intakeKept (hive : Nat) (src : Side) (seq : Nat) (up : Bool) (s : State) :
    IntakeKept (execHcbVote hive src seq up s) s.ev.intakeFits := by simp [execHcbVote]
@[simp] theorem execHcbVoteClear_intakeKept (hive : Nat) (src : Side) (seq : Nat) (side : Side) (s : State) :
    IntakeKept (execHcbVoteClear hive src seq side s) s.ev.intakeFits := by simp [execHcbVoteClear]
@[simp] theorem execShelfInputFailure_intakeKept (hive : Nat) (s : State) : IntakeKept (execShelfInputFailure hive s) s.ev.intakeFits := by
  simp [execShelfInputFailure]
@[simp] theorem execHoldupReserveSpent_intakeKept (hive : Nat) (s : State) :
    IntakeKept (execHoldupReserveSpent hive s) s.ev.intakeFits := by
  unfold execHoldupReserveSpent
  split <;> simp
@[simp] theorem execShelfInputReturn_intakeKept (hive : Nat) (s : State) : IntakeKept (execShelfInputReturn hive s) s.ev.intakeFits := by
  simp [execShelfInputReturn]
@[simp] theorem execSlotsPowered_intakeKept (hive : Nat) (good : BitVec 16) (s : State) :
    IntakeKept (execSlotsPowered hive good s) s.ev.intakeFits := by simp [execSlotsPowered]
@[simp] theorem execSlotsPowerRemoved_intakeKept (hive : Nat) (s : State) : IntakeKept (execSlotsPowerRemoved hive s) s.ev.intakeFits := by
  unfold execSlotsPowerRemoved
  split <;> simp

/-! ## The operations of Machine/Start -/

@[simp] theorem State.bootStart_intakeFits (s : State) (plan : List StepPlan) : (s.bootStart plan).ev.intakeFits = s.ev.intakeFits := by
  simp [State.bootStart]
@[simp] theorem State.recover_fits {s : State} (h : s.ev.intakeFits = true) : s.recover.ev.intakeFits = true := by
  simp [State.recover, h]
@[simp] theorem State.serveErased_fits {s : State} (h : s.ev.intakeFits = true) : s.serveErased.ev.intakeFits = true := by
  simp [State.serveErased, h]
@[simp] theorem State.replayAndJoin_fits {s : State} (h : s.ev.intakeFits = true) : s.replayAndJoin.ev.intakeFits = true := by
  delta State.replayAndJoin
  extract_lets x u v
  have hx : x.1.ev.intakeFits = true := bootStep_fits (by simp) (by simp [h]) ..
  clear_value x
  split
  · exact hx
  · split <;> simp [v, u, hx]
@[simp] theorem State.noLock_intakeFits (s : State) : s.noLock.ev.intakeFits = s.ev.intakeFits := by simp [State.noLock]
@[simp] theorem State.start_fits {s : State} (h : s.ev.intakeFits = true) (plan : List StepPlan) :
    (s.start plan).ev.intakeFits = true := by
  delta State.start
  extract_lets x0 x1 x2 x3 x4 x5 x6 x7 x8 x9 x10
  have h0 : x0.1.ev.intakeFits = true := (State.bootStart_intakeFits s plan).trans h
  have h1 : x1.1.ev.intakeFits = true := bootStep_fits (by simp) h0 ..
  have h2 : x2.1.ev.intakeFits = true := bootStep_fits State.romStep_intakeFits h1 ..
  have h3 : x3.1.ev.intakeFits = true := bootStep_fits State.bankStep_intakeFits h2 ..
  have h4 : x4.1.ev.intakeFits = true := bootStep_fits (by simp) h3 ..
  have h5 : x5.1.ev.intakeFits = true := by
    unfold x5
    split
    · split <;> simp [h4]
    · exact bootStep_fits (by simp) h4 ..
  have h6 : x6.1.ev.intakeFits = true := bootStep_fits State.dramStep_intakeFits h5 ..
  have h7 : x7.1.ev.intakeFits = true := bootStep_fits State.waxStep_intakeFits h6 ..
  have h8 : x8.1.ev.intakeFits = true := bootStep_fits State.mainStep_intakeFits h7 ..
  have h9 : x9.1.ev.intakeFits = true := bootStep_fits State.testStep_intakeFits h8 ..
  have h10 : x10.1.ev.intakeFits = true := bootStep_fits State.linkStep_intakeFits h9 ..
  clear_value x10 x5
  (repeat' split) <;> simp [h10, h5]
@[simp] theorem execStart_intakeKept (plan : List StepPlan) (s : State) : IntakeKept (execStart plan s) s.ev.intakeFits := by
  unfold execStart
  split <;> simp +contextual
@[simp] theorem execOptionalStepLateRun_intakeKept (s : State) : IntakeKept (execOptionalStepLateRun s) s.ev.intakeFits := by
  simp +contextual [execOptionalStepLateRun]
@[simp] theorem execCrystalLoss_intakeKept (s : State) : IntakeKept (execCrystalLoss s) s.ev.intakeFits := by
  simp +contextual [execCrystalLoss]
@[simp] theorem execReferenceClockStop_intakeKept (s : State) : IntakeKept (execReferenceClockStop s) s.ev.intakeFits := by
  simp +contextual [execReferenceClockStop]
@[simp] theorem State.powerLoss_fits (s : State) (aon : Bool) : (s.powerLoss aon).ev.intakeFits = true := by simp [State.powerLoss]
@[simp] theorem execSupplyFall_intakeKept (rail mv us : Nat) (s : State) : IntakeKept (execSupplyFall rail mv us s) s.ev.intakeFits := by
  simp +contextual [execSupplyFall]
@[simp] theorem execPropolisAlarm_intakeKept (cause : BitVec 4) (s : State) : IntakeKept (execPropolisAlarm cause s) s.ev.intakeFits := by
  simp +contextual [execPropolisAlarm]
@[simp] theorem execAlarmClear_intakeKept (s : State) : IntakeKept (execAlarmClear s) s.ev.intakeFits := by
  unfold execAlarmClear
  (repeat' split) <;> simp
@[simp] theorem execColonyKeyLagTimeout_intakeKept (s : State) : IntakeKept (execColonyKeyLagTimeout s) s.ev.intakeFits := by
  simp [execColonyKeyLagTimeout]
@[simp] theorem execMgNetworkFrame_intakeKept (frame : Bytes) (s : State) : IntakeKept (execMgNetworkFrame frame s) s.ev.intakeFits := by
  simp only [execMgNetworkFrame]
  (repeat' split) <;> simp

/-! ## The operations of Machine/Wax -/

@[simp] theorem execWaxRecordConfirmed_intakeKept (ordinal : Nat) (s : State) :
    IntakeKept (execWaxRecordConfirmed ordinal s) s.ev.intakeFits := by
  simp +contextual [execWaxRecordConfirmed]
@[simp] theorem State.writeCheckpoint_intakeFits (s : State) : s.writeCheckpoint.ev.intakeFits = s.ev.intakeFits := by
  simp [State.writeCheckpoint]
@[simp] theorem execCheckpointDue_intakeKept (s : State) : IntakeKept (execCheckpointDue s) s.ev.intakeFits := by
  simp +contextual [execCheckpointDue]
@[simp] theorem execFlushMetadata_intakeKept (s : State) : IntakeKept (execFlushMetadata s) s.ev.intakeFits := by
  simp +contextual [execFlushMetadata]

/-! ## The operations of Machine/Dispatch -/

@[simp] theorem exec_intakeKept (i : Instr) (s : State) : IntakeKept (exec i s) s.ev.intakeFits := by
  unfold exec
  split <;> simp

/-! ## The writer (R712, R719, R721) -/

/-- What waits for the writer: the FIFO, the reserved lane, and the raisers that wait for it. -/
def RecorderPart.queues (v : RecorderPart) : List Report0 × List Report0 × List Report0 := (v.fifo, v.lane, v.waiting)

/-- Writing a record, or refusing it, leaves what waits for the writer alone. -/
theorem State.writeRec_queues (s : State) (r : Report0) : (s.writeRec r).ev.queues = s.ev.queues := by
  unfold State.writeRec
  dsimp only
  split
  · exact List.foldlRecOn (motive := fun t : State => t.ev.queues = s.ev.queues) _ _ rfl fun _ ht _ _ => ht
  · split <;> rfl

/-- An entry of the lane that frees goes to a raiser that waits, and the FIFO stays (R721). -/
theorem State.laneFrees_fifo (s : State) : s.laneFrees.ev.fifo = s.ev.fifo := by
  unfold State.laneFrees
  split
  · rfl
  · split <;> rfl

theorem State.laneFrees_of_no_waiting {s : State} (h : s.ev.waiting = []) : s.laneFrees = s := by
  simp [State.laneFrees, h]

section
variable {s : State} {r : Report0} {rest : List Report0}

theorem exec_eventWrite_of_lane (h : s.ev.lane = r :: rest) :
    exec .eventWrite s = .next ((s.ev' fun v => { v with lane := rest }).writeRec r).laneFrees := by
  simp [execEventWrite, h]

theorem exec_eventWrite_of_fifo (hlane : s.ev.lane = []) (h : s.ev.fifo = r :: rest) :
    exec .eventWrite s = .next ((s.ev' fun v => { v with fifo := rest }).writeRec r) := by
  simp [execEventWrite, hlane, h]
end

theorem step_intakeKept (s : State) : IntakeKept (step s) s.ev.intakeFits := by
  unfold step
  split
  · exact intakeKept_next .. |>.2 id
  · next c rest _ => exact exec_intakeKept c { s with pending := rest }

/-- Settles O56: the sizes by the frame `exec_intakeKept`, what enters by the forms of `State.intake`, and what leaves by those of
EVENT_WRITE. -/
theorem intakeHoldsAndServesInOrder : Obligations.IntakeHoldsAndServesInOrder := by
  refine ⟨fun s t hok ht => ?_, fun s r hsev hroom => ?_, fun s r hsev hsum hroom => ?_, fun s r rest hlane => ?_,
    fun s r rest hlane hfifo => ?_⟩
  · obtain ⟨hfifo, -, hlane, -⟩ := hok
    exact t.ev.intakeFits_iff.1 (step_intakeKept s t ht (s.ev.intakeFits_iff.2 ⟨hfifo, hlane⟩))
  · rw [State.intake_of_room (.inl hsev) hroom, State.ev'_ev]
  · rw [State.intake_of_urgent hsev hsum, State.ev'_ev, if_pos hroom]
  · have hqueues := (s.ev' fun v => { v with lane := rest }).writeRec_queues r
    simp only [RecorderPart.queues, Prod.mk.injEq, State.ev'_ev] at hqueues
    obtain ⟨hfifo, hrest, hwaiting⟩ := hqueues
    refine ⟨_, exec_eventWrite_of_lane hlane, rfl, by rw [State.laneFrees_fifo, hfifo], fun hnone => ?_⟩
    rw [State.laneFrees_of_no_waiting (hwaiting.trans hnone), hrest]
  · have hqueues := (s.ev' fun v => { v with fifo := rest }).writeRec_queues r
    simp only [RecorderPart.queues, Prod.mk.injEq, State.ev'_ev] at hqueues
    obtain ⟨hrest, hempty, -⟩ := hqueues
    exact ⟨_, exec_eventWrite_of_fifo hlane hfifo, rfl, hempty.trans hlane, hrest⟩

end Sys2Proof.Machine

/-! PROOFS. Pulses of CHIP_RESET_N and of WAKE_N (21): what the sentinel makes of one by its length (R799). -/

namespace Sys2Proof.Machine

/-! ## CHIP_RESET_N (R799) -/

section
variable {s : State} {ns : Nat}

theorem exec_chipResetN_of_long (hsupply : s.pw.aonOk = true) (hlong : 1000 ≤ ns) :
    exec (.chipResetN ns) s = .next (s.resetDevice 1) := by
  have hnot : ¬ ns < 500 := by omega
  simp [execChipResetN, hsupply, hlong, hnot]

theorem exec_chipResetN_of_short (hshort : ns < 500) : exec (.chipResetN ns) s = .next s := by
  simp [execChipResetN, hshort]

/-- Between the two lengths a free value says whether the pulse takes effect (log 3). -/
theorem exec_chipResetN_of_between (hsupply : s.pw.aonOk = true) (hnot : 500 ≤ ns) (hless : ns < 1000) :
    exec (.chipResetN ns) s = .next (if s.drawnNat % 2 = 1 then s.afterDraw.resetDevice 1 else s.afterDraw) := by
  simp [execChipResetN, hsupply, Nat.not_lt.2 hnot, Nat.not_le.2 hless]
end

/-! ## WAKE_N (R756, R761) -/

section
variable {s : State} {us : Nat}

theorem exec_wakeN_of_short (hshort : us < 100) : exec (.wakeN us) s = .next s := by
  simp [execWakeN, Nat.not_le.2 hshort]

theorem exec_wakeN_of_long (hsupply : s.pw.aonOk = true) (hlong : 100 ≤ us) : exec (.wakeN us) s = .next (s.latchWake 0) := by
  simp [execWakeN, hsupply, hlong]

/-- A head that sleeps or enters a sleep latches the cause (R761, R764). -/
theorem State.latchWake_of_asleep (hasleep : s.pw.sleep.isSome = true ∨ s.md.entering.isSome = true) (bit : Nat) :
    s.latchWake bit = s.pw' fun p => { p with wakeCause := p.wakeCause ||| 1#8 <<< bit } :=
  if_pos (by simpa using hasleep)
end

/-- Settles O55, by the lengths at which the sentinel takes a pulse; the wake cause of WAKE_N is bit 0 (log 72). -/
theorem resetAndWakePulses : Obligations.ResetAndWakePulses := by
  refine ⟨fun s ns => exec_chipResetN_of_long, fun s ns => exec_chipResetN_of_short, fun s ns hsupply hnot hless => ?_,
    fun s us => exec_wakeN_of_short, fun s us hsupply hlong hasleep => ?_⟩
  · rw [exec_chipResetN_of_between hsupply hnot hless]
    split
    · exact .inr rfl
    · exact .inl rfl
  · refine ⟨_, exec_wakeN_of_long hsupply hlong, ?_, ?_⟩ <;> rw [State.latchWake_of_asleep hasleep]
    · simp
    · rfl

end Sys2Proof.Machine

/-! PROOFS. What every command keeps: the relation `Kept`, and each part of the state it looks at.

The invariants that a step keeps and the numbers that never fall are read off a few fields; so a state is related to a later one once, and
every operation of the model is shown to keep that relation, in the model's own order. -/

namespace Sys2Proof.Machine

-- A default argument that is a tactic is run once the kernel is done with all before it: theorem by theorem, no thread waits for that.
set_option Elab.async false

/-! ## The relation -/

/-- A comb that is the same comb under the same fence (R339). -/
structure SameComb (b d : Bridge) : Prop where
  link : d.link = b.link
  hive : d.hive = b.hive
  slot : d.slot = b.slot
  serial : d.serial = b.serial
  epoch : d.epoch = b.epoch
  owner : d.owner = b.owner

theorem SameComb.refl (b : Bridge) : SameComb b b := ⟨rfl, rfl, rfl, rfl, rfl, rfl⟩

theorem SameComb.trans {a b c : Bridge} (h : SameComb a b) (k : SameComb b c) : SameComb a c :=
  ⟨k.link.trans h.link, k.hive.trans h.hive, k.slot.trans h.slot, k.serial.trans h.serial, k.epoch.trans h.epoch, k.owner.trans h.owner⟩

/-- What names the device (R638, R641, R663, R696), with the installed DRAM (R189). -/
def State.device (s : State) : Nat × Bytes × Bytes × Nat × Bytes × Side × Nat × Nat :=
  (s.bt.serial, s.bt.cert, s.bt.seed, s.bt.romVersion, s.bt.fuses, s.pr.side, s.dr.dimms, s.dr.dimmGiB)

/-- The numbers that are not to be used twice: session handles, ledger sequences, start numbers, event sequences, sequences of the key seal
header, fuses of the fused minimum. -/
def State.numbers (s : State) : Nat × Nat × Nat × Nat × Nat × Nat :=
  (s.vk.nextHandle, s.bt.ledgerSeq, s.bt.startNum, s.ev.nextSeq, s.ks.sealSeq, s.bt.fusedMin)

/-- `RecorderOk`, with `n` places of the reserved lane that a raiser may still wait for: while the writer has taken a report of the lane
and the next one that waits has not entered it yet, there is one (R720). -/
def RecorderAt (n : Nat) (s : State) : Prop :=
  s.ev.fifo.length ≤ 1024 ∧ (∀ r ∈ s.ev.fifo, sevN r.sev < 6 ∨ isSummary r.code = true) ∧
    s.ev.lane.length ≤ 64 ∧ (∀ r ∈ s.ev.lane, 6 ≤ sevN r.sev) ∧ (∀ r ∈ s.ev.waiting, 6 ≤ sevN r.sev) ∧
    (s.ev.waiting ≠ [] → 64 ≤ s.ev.lane.length + n) ∧
    (s.ev.ring.map (·.slot)).Pairwise (· < ·) ∧ (s.ev.ring.map (·.seq)).Nodup ∧
    ∀ r ∈ s.ev.ring, r.slot < 1048576 ∧ r.seq < s.ev.nextSeq

theorem recorderAt_zero (s : State) : RecorderAt 0 s ↔ RecorderOk s := by
  unfold RecorderAt RecorderOk
  constructor
  · rintro ⟨h1, h2, h3, h4, h5, h6, h7⟩
    exact ⟨h1, h2, h3, h4, h5, fun hw => le_antisymm h3 (h6 hw), h7⟩
  · rintro ⟨h1, h2, h3, h4, h5, h6, h7⟩
    exact ⟨h1, h2, h3, h4, h5, fun hw => (h6 hw).ge, h7⟩

/-- A later state keeps every invariant that held but that of the map cache, the device, and the order of its numbers. -/
structure KeptPastCache (s t : State) : Prop where
  sessions : SessionsOk s → SessionsOk t
  memory : MemInv s → MemInv t
  recorder : ∀ n, RecorderAt n s → RecorderAt n t
  ledger : LedgerOk s → LedgerOk t
  counters : CountersOk s → CountersOk t
  regs : RegsOk s → RegsOk t
  device : t.device = s.device
  numbers : s.numbers ≤ t.numbers

theorem KeptPastCache.trans {s t u : State} (h : KeptPastCache s t) (k : KeptPastCache t u) : KeptPastCache s u :=
  ⟨k.sessions ∘ h.sessions, k.memory ∘ h.memory, fun n => k.recorder n ∘ h.recorder n, k.ledger ∘ h.ledger, k.counters ∘ h.counters,
    k.regs ∘ h.regs, k.device.trans h.device, h.numbers.trans k.numbers⟩

/-- The same, and what the map SRAM cache holds still agrees with DRAM. -/
structure KeptAtHead (s t : State) : Prop extends KeptPastCache s t where
  cache : CacheOk s → CacheOk t

theorem KeptAtHead.trans {s t u : State} (h : KeptAtHead s t) (k : KeptAtHead t u) : KeptAtHead s u :=
  ⟨h.toKeptPastCache.trans k.toKeptPastCache, k.cache ∘ h.cache⟩

/-- The same, and each comb is the one that stood in its place, under the same fence. -/
structure Kept (s t : State) : Prop extends KeptAtHead s t where
  combs : List.Forall₂ SameComb s.cl.bridges t.cl.bridges

theorem Kept.refl (s : State) : Kept s s :=
  ⟨⟨⟨id, id, fun _ => id, id, id, id, rfl, le_rfl⟩, id⟩, List.forall₂_same.2 fun b _ => .refl b⟩

theorem Kept.trans {s t u : State} (h : Kept s t) (k : Kept t u) : Kept s u :=
  ⟨h.toKeptAtHead.trans k.toKeptAtHead, forall₂_trans (R := SameComb) (fun _ _ _ => .trans) h.combs k.combs⟩

/-- A command that completes keeps what `s` has. -/
def Keeps (s : State) (r : Host.Outcome State Fault Refusal) : Prop := ∀ t, r = .next t → Kept s t

theorem Keeps.ok {s t : State} (h : Kept s t) : Keeps s (ok t) := fun u hu => by
  cases hu
  exact h

theorem Keeps.fault (s : State) (f : Fault) : Keeps s (.fault f) := fun _ h => nomatch h

theorem Keeps.ite {s : State} {c : Prop} [Decidable c] {a b : Host.Outcome State Fault Refusal} (ha : Keeps s a) (hb : Keeps s b) :
    Keeps s (if c then a else b) := by
  split
  · exact ha
  · exact hb

/-! ## What an invariant looks at -/

theorem SessionsOk.congr {s t : State} (hs : t.vk.sessions = s.vk.sessions) (hn : t.vk.nextHandle = s.vk.nextHandle) (h : SessionsOk s) :
    SessionsOk t := by
  unfold SessionsOk
  rwa [hs, hn]

theorem CacheOk.congr {s t : State} (hd : t.dr.mem = s.dr.mem) (hm : t.mc = s.mc) (h : CacheOk s) : CacheOk t := by
  unfold CacheOk
  rwa [hd, hm]

theorem RecorderAt.congr {n : Nat} {s t : State} (hf : t.ev.fifo = s.ev.fifo) (hl : t.ev.lane = s.ev.lane) (hw : t.ev.waiting = s.ev.waiting)
    (hr : t.ev.ring = s.ev.ring) (hn : t.ev.nextSeq = s.ev.nextSeq) (h : RecorderAt n s) : RecorderAt n t := by
  unfold RecorderAt
  rwa [hf, hl, hw, hr, hn]

theorem LedgerOk.congr {s t : State} (ht : t.bt.tallies = s.bt.tallies) (hl : t.bt.ledger = s.bt.ledger)
    (hs : t.bt.ledgerSeq = s.bt.ledgerSeq) (h : LedgerOk s) : LedgerOk t := by
  unfold LedgerOk
  obtain ⟨h1, h2, h3, h4⟩ := h
  exact ⟨ht ▸ h1, ht ▸ h2, hl ▸ h3, fun i hi => by
    have := h4 i (hl ▸ hi)
    simp only [hl, hs, this]⟩

/-- The sideband's registers keep to their bits (R771, R773). -/
def SidebandPart.InBits (b : SidebandPart) : Prop :=
  b.intEn.toNat < 2 ^ 4 ∧ b.intStatus.toNat < 2 ^ 4 ∧ b.mbxError.toNat < 2 ^ 3 ∧ (∀ a, b.dynAddr = some a → a < 128) ∧
    b.mwl < 65536 ∧ b.mrl < 65536

/-- The compare-only unit's registers keep to their bits (R683). -/
def SealPart.InBits (v : SealPart) : Prop :=
  v.cmpLane.toNat < 2 ^ 4 ∧ v.cmpLo.toNat % 32 = 0 ∧ v.cmpStatus.toNat < 2 ^ 5 ∧ v.cmpResult.toNat < 2 ^ 16

theorem regsOk_iff (s : State) : RegsOk s ↔ s.sb.InBits ∧ s.se.InBits := by
  unfold RegsOk SidebandPart.InBits SealPart.InBits
  tauto

/-! ## Updates of one part -/

namespace Kept

variable {s₀ s : State}

theorem ite {c : Prop} [Decidable c] {a b : State} (ha : Kept s₀ a) (hb : Kept s₀ b) : Kept s₀ (if c then a else b) := by
  split
  · exact ha
  · exact hb

/-- What a helper that answers a pair keeps, read off where the pair is taken apart. -/
theorem of_eq {α : Type} {x : State × α} {t : State} {a : α} (h : x = (t, a)) (hx : Kept s₀ x.1) : Kept s₀ t := by
  rwa [h] at hx

theorem pair {α : Type} {a : α} (h : Kept s₀ s) : Kept s₀ (s, a).1 := h

theorem fst_ite {α : Type} {c : Prop} [Decidable c] {x y : State × α} (hx : Kept s₀ x.1) (hy : Kept s₀ y.1) :
    Kept s₀ (if c then x else y).1 := by
  split
  · exact hx
  · exact hy

theorem foldl {α : Type} {f : State → α → State} (h : Kept s₀ s) (hf : ∀ t a, Kept s₀ t → Kept s₀ (f t a)) (l : List α) :
    Kept s₀ (l.foldl f s) := by
  induction l generalizing s with
  | nil => exact h
  | cons a l ih => exact ih (hf s a h)

/-- The fold over a state and an answer, which the model uses where it counts or collects as it goes. -/
theorem foldl_fst {α β : Type} {f : State × β → α → State × β} {x : State × β} (h : Kept s₀ x.1)
    (hf : ∀ x a, Kept s₀ x.1 → Kept s₀ (f x a).1) (l : List α) : Kept s₀ (l.foldl f x).1 := by
  induction l generalizing x with
  | nil => exact h
  | cons a l ih => exact ih (hf x a h)

theorem cond (h : Kept s₀ s) {f : State → State} (hf : ∀ t, Kept s₀ t → Kept s₀ (f t)) (c : Bool) : Kept s₀ (s.cond c f) := by
  unfold State.cond
  split
  · exact hf s h
  · exact h

section
variable (h : Kept s₀ s)
include h

/-- A state that differs only where `Kept` does not look. -/
theorem of_same {t : State} (hvk : t.vk = s.vk := by rfl) (hsb : t.sb = s.sb := by rfl) (hev : t.ev = s.ev := by rfl)
    (hct : t.ct = s.ct := by rfl) (hdr : t.dr = s.dr := by rfl) (hmc : t.mc = s.mc := by rfl) (hcl : t.cl = s.cl := by rfl)
    (hpr : t.pr = s.pr := by rfl) (hbt : t.bt = s.bt := by rfl) (hse : t.se = s.se := by rfl) (hks : t.ks = s.ks := by rfl) :
    Kept s₀ t := by
  obtain ⟨⟨⟨h1, h2, h4, h5, h6, h7, h8, h9⟩, h3⟩, h10⟩ := h
  refine ⟨⟨⟨fun x => (h1 x).congr (by rw [hvk]) (by rw [hvk]), fun x => ?_, fun n x => (h4 n x).congr (by rw [hev]) (by rw [hev]) (by rw [hev]) (by rw [hev]) (by rw [hev]),
    fun x => (h5 x).congr (by rw [hbt]) (by rw [hbt]) (by rw [hbt]), fun x => ?_, fun x => ?_, ?_, ?_⟩,
    fun x => (h3 x).congr (by rw [hdr]) hmc⟩, by rwa [hcl]⟩
  · unfold MemInv
    rw [hdr]
    exact h2 x
  · unfold CountersOk
    rw [hct]
    exact h6 x
  · rw [regsOk_iff, hsb, hse]
    exact (regsOk_iff s).1 (h7 x)
  · unfold State.device
    rw [hbt, hpr, hdr]
    exact h8
  · unfold State.numbers
    rw [hvk, hbt, hev, hks]
    exact h9

/-- The flash's record, the free values, what has been sent and the queue may be anything. -/
theorem outer {fl : FlashMeta} {next : Option (Nat × FlashMeta)} {old : List FlashMeta} {free : Nat} {out : List Out}
    {pending : List Instr} :
    Kept s₀ { s with fl := fl, flNext := next, flOld := old, free := free, out := out, pending := pending } := h.of_same

theorem md' {f : ModeStPart → ModeStPart} : Kept s₀ (s.md' f) := h.of_same
theorem ck' {f : ClockPart → ClockPart} : Kept s₀ (s.ck' f) := h.of_same
theorem pw' {f : PowerPart → PowerPart} : Kept s₀ (s.pw' f) := h.of_same
theorem wx' {f : WaxPart → WaxPart} : Kept s₀ (s.wx' f) := h.of_same
theorem rd' {f : ReducePart → ReducePart} : Kept s₀ (s.rd' f) := h.of_same
theorem vo' {f : VolumesPart → VolumesPart} : Kept s₀ (s.vo' f) := h.of_same
theorem sp' {f : StripesPart → StripesPart} : Kept s₀ (s.sp' f) := h.of_same
theorem me' {f : MediaPart → MediaPart} : Kept s₀ (s.me' f) := h.of_same
theorem hv' {f : Power2Part → Power2Part} : Kept s₀ (s.hv' f) := h.of_same
theorem nv' {f : FrontPart → FrontPart} : Kept s₀ (s.nv' f) := h.of_same
theorem ob' {f : ObjectsPart → ObjectsPart} : Kept s₀ (s.ob' f) := h.of_same
theorem fg' {f : ForagePart → ForagePart} : Kept s₀ (s.fg' f) := h.of_same
theorem rp' {f : ReplPart → ReplPart} : Kept s₀ (s.rp' f) := h.of_same
theorem co' {f : ColonyPart → ColonyPart} : Kept s₀ (s.co' f) := h.of_same
theorem up' {f : UpdPart → UpdPart} : Kept s₀ (s.up' f) := h.of_same
theorem send {o : Out} : Kept s₀ (s.send o) := h.of_same
theorem afterDraw : Kept s₀ s.afterDraw := h.of_same

theorem vk'_of {f : VirkanPart → VirkanPart} (hs : SessionsOk s → SessionsOk (s.vk' f)) (hn : s.vk.nextHandle ≤ (f s.vk).nextHandle) :
    Kept s₀ (s.vk' f) :=
  ⟨⟨⟨hs ∘ h.sessions, h.memory, h.recorder, h.ledger, h.counters, h.regs, h.device, h.numbers.trans ⟨hn, le_rfl⟩⟩, h.cache⟩, h.combs⟩

/-- The sessions and the next handle stay. -/
theorem vk' {f : VirkanPart → VirkanPart} (hs : ∀ v, (f v).sessions = v.sessions := by exact fun _ => rfl) (hn : ∀ v, (f v).nextHandle = v.nextHandle := by exact fun _ => rfl) :
    Kept s₀ (s.vk' f) := h.vk'_of (·.congr (hs _) (hn _)) (hn _).ge

theorem sb'_of {f : SidebandPart → SidebandPart} (hf : s.sb.InBits → (f s.sb).InBits) : Kept s₀ (s.sb' f) :=
  ⟨⟨⟨h.sessions, h.memory, h.recorder, h.ledger, h.counters,
    fun x => (regsOk_iff _).2 (((regsOk_iff s).1 (h.regs x)).imp_left hf), h.device, h.numbers⟩, h.cache⟩, h.combs⟩

theorem se'_of {f : SealPart → SealPart} (hf : s.se.InBits → (f s.se).InBits) : Kept s₀ (s.se' f) :=
  ⟨⟨⟨h.sessions, h.memory, h.recorder, h.ledger, h.counters,
    fun x => (regsOk_iff _).2 (((regsOk_iff s).1 (h.regs x)).imp_right hf), h.device, h.numbers⟩, h.cache⟩, h.combs⟩

/-- The registers that keep to their bits stay. -/
theorem sb' {f : SidebandPart → SidebandPart} (h1 : ∀ v, (f v).intEn = v.intEn := by exact fun _ => rfl) (h2 : ∀ v, (f v).intStatus = v.intStatus := by exact fun _ => rfl)
    (h3 : ∀ v, (f v).mbxError = v.mbxError := by exact fun _ => rfl) (h4 : ∀ v, (f v).dynAddr = v.dynAddr := by exact fun _ => rfl) (h5 : ∀ v, (f v).mwl = v.mwl := by exact fun _ => rfl)
    (h6 : ∀ v, (f v).mrl = v.mrl := by exact fun _ => rfl) : Kept s₀ (s.sb' f) :=
  h.sb'_of fun hb => by
    unfold SidebandPart.InBits
    rwa [h1, h2, h3, h4, h5, h6]

/-- The compare-only unit's registers stay. -/
theorem se' {f : SealPart → SealPart} (h1 : ∀ v, (f v).cmpLane = v.cmpLane := by exact fun _ => rfl) (h2 : ∀ v, (f v).cmpLo = v.cmpLo := by exact fun _ => rfl)
    (h3 : ∀ v, (f v).cmpStatus = v.cmpStatus := by exact fun _ => rfl) (h4 : ∀ v, (f v).cmpResult = v.cmpResult := by exact fun _ => rfl) : Kept s₀ (s.se' f) :=
  h.se'_of fun hb => by
    unfold SealPart.InBits
    rwa [h1, h2, h3, h4]

theorem ev'_of {f : RecorderPart → RecorderPart} (hf : ∀ n, RecorderAt n s → RecorderAt n (s.ev' f)) (hn : s.ev.nextSeq ≤ (f s.ev).nextSeq) :
    Kept s₀ (s.ev' f) :=
  ⟨⟨⟨h.sessions, h.memory, fun n => hf n ∘ h.recorder n, h.ledger, h.counters, h.regs, h.device,
    h.numbers.trans ⟨le_rfl, le_rfl, le_rfl, hn, le_rfl⟩⟩, h.cache⟩, h.combs⟩

/-- The intake, the ring and the next sequence stay. -/
theorem ev' {f : RecorderPart → RecorderPart} (hf : ∀ v, (f v).fifo = v.fifo := by exact fun _ => rfl) (hl : ∀ v, (f v).lane = v.lane := by exact fun _ => rfl)
    (hw : ∀ v, (f v).waiting = v.waiting := by exact fun _ => rfl) (hr : ∀ v, (f v).ring = v.ring := by exact fun _ => rfl) (hn : ∀ v, (f v).nextSeq = v.nextSeq := by exact fun _ => rfl) : Kept s₀ (s.ev' f) :=
  h.ev'_of (fun _ => (·.congr (hf _) (hl _) (hw _) (hr _) (hn _))) (hn _).ge

theorem ct' {f : CountersPart → CountersPart} (hf : CountersOk s → CountersOk (s.ct' f)) : Kept s₀ (s.ct' f) :=
  ⟨⟨⟨h.sessions, h.memory, h.recorder, h.ledger, hf ∘ h.counters, h.regs, h.device, h.numbers⟩, h.cache⟩, h.combs⟩

theorem dr'_of {f : DramPart → DramPart} (hm : MemInv s → MemInv (s.dr' f)) (hc : CacheOk s → CacheOk (s.dr' f))
    (hd : ∀ v, (f v).dimms = v.dimms := by exact fun _ => rfl) (hg : ∀ v, (f v).dimmGiB = v.dimmGiB := by exact fun _ => rfl) : Kept s₀ (s.dr' f) :=
  ⟨⟨⟨h.sessions, hm ∘ h.memory, h.recorder, h.ledger, h.counters, h.regs,
    .trans (by simp [State.device, hd, hg]) h.device, h.numbers⟩, hc ∘ h.cache⟩, h.combs⟩

/-- The bytes of DRAM and what is installed stay. -/
theorem dr' {f : DramPart → DramPart} (hm : ∀ v, (f v).mem = v.mem := by exact fun _ => rfl) (hd : ∀ v, (f v).dimms = v.dimms := by exact fun _ => rfl)
    (hg : ∀ v, (f v).dimmGiB = v.dimmGiB := by exact fun _ => rfl) : Kept s₀ (s.dr' f) :=
  h.dr'_of (fun x => by unfold MemInv; rwa [State.dr'_dr, hm]) (·.congr (hm _) rfl) hd hg

theorem mc' {f : MapCachePart → MapCachePart} (hf : CacheOk s → CacheOk (s.mc' f)) : Kept s₀ (s.mc' f) :=
  ⟨⟨⟨h.sessions, h.memory, h.recorder, h.ledger, h.counters, h.regs, h.device, h.numbers⟩, hf ∘ h.cache⟩, h.combs⟩

theorem cl'_of {f : CombLinksPart → CombLinksPart} (hf : List.Forall₂ SameComb s.cl.bridges (f s.cl).bridges) : Kept s₀ (s.cl' f) :=
  ⟨⟨⟨h.sessions, h.memory, h.recorder, h.ledger, h.counters, h.regs, h.device, h.numbers⟩, h.cache⟩,
    forall₂_trans (R := SameComb) (fun _ _ _ => .trans) h.combs hf⟩

/-- The bridges stay. -/
theorem cl' {f : CombLinksPart → CombLinksPart} (hf : ∀ v, (f v).bridges = v.bridges := by exact fun _ => rfl) : Kept s₀ (s.cl' f) :=
  ⟨⟨⟨h.sessions, h.memory, h.recorder, h.ledger, h.counters, h.regs, h.device, h.numbers⟩, h.cache⟩, by rw [State.cl'_cl, hf]; exact h.combs⟩

theorem pr' {f : PairPart → PairPart} (hf : ∀ v, (f v).side = v.side := by exact fun _ => rfl) : Kept s₀ (s.pr' f) :=
  ⟨⟨⟨h.sessions, h.memory, h.recorder, h.ledger, h.counters, h.regs, .trans (by simp [State.device, hf]) h.device, h.numbers⟩, h.cache⟩,
    h.combs⟩

theorem ks'_of {f : KeysPart → KeysPart} (hf : s.ks.sealSeq ≤ (f s.ks).sealSeq) : Kept s₀ (s.ks' f) :=
  ⟨⟨⟨h.sessions, h.memory, h.recorder, h.ledger, h.counters, h.regs, h.device,
    h.numbers.trans ⟨le_rfl, le_rfl, le_rfl, le_rfl, hf, le_rfl⟩⟩, h.cache⟩, h.combs⟩

/-- The sequence of the key seal header stays. -/
theorem ks' {f : KeysPart → KeysPart} (hf : ∀ v, (f v).sealSeq = v.sealSeq := by exact fun _ => rfl) : Kept s₀ (s.ks' f) := h.ks'_of (hf _).ge

end
end Kept

theorem Kept.bt'_of {s₀ s : State} (h : Kept s₀ s) {f : BootPart → BootPart} (hl : LedgerOk s → LedgerOk (s.bt' f))
    (hs : s.bt.ledgerSeq ≤ (f s.bt).ledgerSeq) (hn : s.bt.startNum ≤ (f s.bt).startNum) (hm : s.bt.fusedMin ≤ (f s.bt).fusedMin)
    (hf : ∀ v, ((f v).serial, (f v).cert, (f v).seed, (f v).romVersion, (f v).fuses) = (v.serial, v.cert, v.seed, v.romVersion, v.fuses) := by
      exact fun _ => rfl) :
    Kept s₀ (s.bt' f) := by
  refine ⟨⟨⟨h.sessions, h.memory, h.recorder, hl ∘ h.ledger, h.counters, h.regs, .trans ?_ h.device,
    h.numbers.trans ⟨le_rfl, hs, hn, le_rfl, le_rfl, hm⟩⟩, h.cache⟩, h.combs⟩
  have hnames := hf s.bt
  simp only [Prod.mk.injEq] at hnames
  simp [State.device, hnames]

/-- The ledger, the tallies and the fuses stay. -/
theorem Kept.bt' {s₀ s : State} (h : Kept s₀ s) {f : BootPart → BootPart} (ht : ∀ v, (f v).tallies = v.tallies := by exact fun _ => rfl)
    (hl : ∀ v, (f v).ledger = v.ledger := by exact fun _ => rfl) (hs : ∀ v, (f v).ledgerSeq = v.ledgerSeq := by exact fun _ => rfl)
    (hn : ∀ v, (f v).startNum = v.startNum := by exact fun _ => rfl) (hm : ∀ v, (f v).fusedMin = v.fusedMin := by exact fun _ => rfl)
    (hf : ∀ v, ((f v).serial, (f v).cert, (f v).seed, (f v).romVersion, (f v).fuses) = (v.serial, v.cert, v.seed, v.romVersion, v.fuses) := by
      exact fun _ => rfl) :
    Kept s₀ (s.bt' f) :=
  h.bt'_of (·.congr (ht _) (hl _) (hs _)) (hs _).ge (hn _).ge (hm _).ge hf

end Sys2Proof.Machine

/-! PROOFS. What is kept by the counters, the recorder, the sessions and the replies. -/

namespace Sys2Proof.Machine

-- A default argument that is a tactic is run once the kernel is done with all before it: theorem by theorem, no thread waits for that.
set_option Elab.async false

/-! ## Counters (R734) -/

/-- A counter stays at or below its limit, and a saturated one stands at it. -/
def CtrVal.Bounded (c : CtrVal) : Prop := c.val ≤ ctrLimit c.cls ∧ (c.sat = true → c.val = ctrLimit c.cls)

theorem CtrVal.Bounded.add {c : CtrVal} (h : c.Bounded) (n : Nat) : (c.add n).Bounded := by
  unfold CtrVal.add
  split
  · exact h
  · split
    · exact ⟨le_rfl, fun _ => rfl⟩
    · exact ⟨Nat.not_lt.1 ‹_›, fun hs => absurd hs ‹_›⟩

theorem ctrGet_bounded {l : List CtrVal} (h : ∀ c ∈ l, c.Bounded) (cls idx pos : Nat) : (ctrGet l cls idx pos).Bounded := by
  unfold ctrGet
  cases hf : l.find? fun c => c.cls == cls && c.idx == idx && c.pos == pos with
  | none => exact ⟨Nat.zero_le _, fun hs => nomatch hs⟩
  | some c => exact h c (List.mem_of_find?_eq_some hf)

theorem ctrPut_bounded {l : List CtrVal} {c : CtrVal} (h : ∀ c ∈ l, c.Bounded) (hc : c.Bounded) : ∀ d ∈ ctrPut l c, d.Bounded := by
  intro d hd
  obtain hd | hd := List.mem_append.1 hd
  · exact h d (List.mem_of_mem_filter hd)
  · rwa [List.mem_singleton.1 hd]

theorem Kept.ctrPut {s₀ s : State} (h : Kept s₀ s) {c : CtrVal} (hc : CountersOk s → c.Bounded) :
    Kept s₀ (s.ct' fun t => { t with vals := ctrPut t.vals c }) :=
  h.ct' fun hs => ctrPut_bounded hs (hc hs)

theorem Kept.stat {s₀ s : State} (h : Kept s₀ s) {cls idx pos n : Nat} : Kept s₀ (s.stat cls idx pos n) :=
  h.ctrPut fun hs => (ctrGet_bounded hs cls idx pos).add n

/-! ## Reports (R711, R719 to R721) -/

theorem mem_dropNewest {l : List Report0} {sv : Nat} {r : Report0} (h : r ∈ dropNewest l sv) : r ∈ l :=
  List.mem_reverse.1 (List.mem_of_mem_eraseP (List.mem_reverse.1 h))

/-- The FIFO may be any one of its size that holds no CRITICAL or FATAL report but a summary. -/
theorem RecorderAt.fifo {n : Nat} {s : State} (h : RecorderAt n s) {f : RecorderPart → RecorderPart} (hlen : (f s.ev).fifo.length ≤ 1024)
    (hsev : ∀ r ∈ (f s.ev).fifo, sevN r.sev < 6 ∨ isSummary r.code = true) (hl : (f s.ev).lane = s.ev.lane := by rfl)
    (hw : (f s.ev).waiting = s.ev.waiting := by rfl) (hr : (f s.ev).ring = s.ev.ring := by rfl)
    (hn : (f s.ev).nextSeq = s.ev.nextSeq := by rfl) : RecorderAt n (s.ev' f) := by
  obtain ⟨-, -, h⟩ := h
  refine ⟨hlen, hsev, ?_⟩
  rwa [State.ev'_ev, hl, hw, hr, hn]

theorem RecorderAt.intakeUrgent {n : Nat} {s : State} {r : Report0} (h : RecorderAt n s) (hr : 6 ≤ sevN r.sev) :
    RecorderAt n (s.ev' fun v => if v.lane.length < 64 then { v with lane := v.lane ++ [r] } else { v with waiting := v.waiting ++ [r] }) := by
  obtain ⟨h1, h2, h3, h4, h5, h6, h7⟩ := h
  by_cases hlane : s.ev.lane.length < 64
  · refine ⟨by simpa [hlane] using h1, by simpa [hlane] using h2, ?_, ?_, by simpa [hlane] using h5, fun hw => ?_, by simpa [hlane] using h7⟩
    · simp only [State.ev'_ev, if_pos hlane, List.length_append, List.length_singleton]
      omega
    · simpa [hlane, or_imp, forall_and] using ⟨h4, hr⟩
    · simp only [State.ev'_ev, if_pos hlane] at hw
      have := h6 hw
      simp only [State.ev'_ev, if_pos hlane, List.length_append, List.length_singleton]
      omega
  · refine ⟨by simpa [hlane] using h1, by simpa [hlane] using h2, by simpa [hlane] using h3, by simpa [hlane] using h4, ?_, ?_,
      by simpa [hlane] using h7⟩
    · simpa [hlane, or_imp, forall_and] using ⟨h5, hr⟩
    · simp only [State.ev'_ev, if_neg hlane]
      omega

theorem Kept.ev'_fifo {s₀ s : State} (h : Kept s₀ s) {f : RecorderPart → RecorderPart}
    (hlen : s.ev.fifo.length ≤ 1024 → (f s.ev).fifo.length ≤ 1024)
    (hsev : (∀ r ∈ s.ev.fifo, sevN r.sev < 6 ∨ isSummary r.code = true) → ∀ r ∈ (f s.ev).fifo, sevN r.sev < 6 ∨ isSummary r.code = true)
    (hl : (f s.ev).lane = s.ev.lane := by rfl) (hw : (f s.ev).waiting = s.ev.waiting := by rfl)
    (hr : (f s.ev).ring = s.ev.ring := by rfl) (hn : (f s.ev).nextSeq = s.ev.nextSeq := by rfl) : Kept s₀ (s.ev' f) :=
  h.ev'_of (fun _ hok => hok.fifo (hlen hok.1) (hsev hok.2.1) hl hw hr hn) hn.ge

theorem Kept.intake {s₀ s : State} (h : Kept s₀ s) {r : Report0} : Kept s₀ (s.intake r) := by
  by_cases hr : sevN r.sev < 6 ∨ isSummary r.code = true
  · rw [State.intake, if_neg (by simpa [imp_iff_not_or] using hr)]
    split
    · refine h.ev'_fifo (fun _ => by simp only [List.length_append, List.length_singleton]; omega) fun hall x hx => ?_
      obtain hx | hx := List.mem_append.1 hx
      · exact hall x hx
      · rwa [List.mem_singleton.1 hx]
    · split
      · split
        · refine (h.ev'_fifo (fun hlen => ?_) fun hall x hx => ?_).stat
          · exact (length_dropNewest ‹_› r).trans_le hlen
          · obtain hx | hx := List.mem_append.1 hx
            · exact hall x (mem_dropNewest hx)
            · rwa [List.mem_singleton.1 hx]
        · split
          · exact h.ev'
          · exact (h.ev').stat
      · split
        · exact h.ev'
        · exact (h.ev').stat
  · obtain ⟨hsev, hsum⟩ := not_or.1 hr
    rw [State.intake_of_urgent (Nat.not_lt.1 hsev) (Bool.not_eq_true _ ▸ hsum)]
    exact h.ev'_of (fun _ => (·.intakeUrgent (Nat.not_lt.1 hsev))) (by split <;> exact le_rfl)

theorem Kept.report {s₀ s : State} (h : Kept s₀ s) {r : Report0} : Kept s₀ (s.report r) := by
  simp only [State.report]
  split
  · exact h.intake
  · split
    · exact h.stat
    · split
      · exact (h.ev').intake
      · exact (h.ev').stat

theorem Kept.event {s₀ s : State} (h : Kept s₀ s) {code : Nat} {sev : Severity} {domain : Nat} {detail : Bytes} :
    Kept s₀ (s.event code sev domain detail) := h.report

theorem Kept.ev0 {s₀ s : State} (h : Kept s₀ s) {code : Nat} {sev : Severity} {detail : Bytes} : Kept s₀ (s.ev0 code sev detail) := h.event

theorem Kept.bump {s₀ s : State} (h : Kept s₀ s) {cls idx pos n : Nat} : Kept s₀ (s.bump cls idx pos n) := by
  have hadd (hs : CountersOk s) := (ctrGet_bounded hs cls idx pos).add n
  simp only [State.bump]
  split
  · exact (h.ctrPut (c := { (ctrGet s.ct.vals cls idx pos).add n with armed := false }) hadd).ev0
  · exact h.ctrPut hadd

/-! ## Sessions -/

/-- A session that keeps its name and takes no further request. -/
structure Session.Trimmed (x y : Session) : Prop where
  handle : y.handle = x.handle
  via : y.via = x.via
  outstanding : y.outstanding.Sublist x.outstanding

theorem Session.Trimmed.refl (x : Session) : x.Trimmed x := ⟨rfl, rfl, .refl _⟩

theorem map_handle_of_trimmed {l m : List Session} (h : List.Forall₂ Session.Trimmed l m) : m.map (·.handle) = l.map (·.handle) := by
  induction h with
  | nil => rfl
  | cons hab _ ih => simp [hab.handle, ih]

theorem length_mg_of_trimmed {l m : List Session} (h : List.Forall₂ Session.Trimmed l m) :
    (m.filter fun x => !x.via.holds).length = (l.filter fun x => !x.via.holds).length := by
  induction h with
  | nil => rfl
  | @cons a b l m hab _ ih =>
    rw [List.filter_cons, List.filter_cons, hab.via]
    split <;> simp [ih]

theorem exists_of_mem_trimmed {l m : List Session} (h : List.Forall₂ Session.Trimmed l m) {y : Session} (hy : y ∈ m) :
    ∃ x ∈ l, x.Trimmed y := by
  induction h with
  | nil => cases hy
  | @cons a b l m hab _ ih =>
    obtain rfl | hy := List.mem_cons.1 hy
    · exact ⟨a, List.mem_cons_self, hab⟩
    · obtain ⟨x, hx, hxy⟩ := ih hy
      exact ⟨x, List.mem_cons_of_mem _ hx, hxy⟩

theorem SessionsOk.trimmed {s t : State} (h : SessionsOk s) (hs : List.Forall₂ Session.Trimmed s.vk.sessions t.vk.sessions)
    (hn : t.vk.nextHandle = s.vk.nextHandle) : SessionsOk t := by
  obtain ⟨h1, h2, h3, h4⟩ := h
  refine ⟨hs.length_eq ▸ h1, (length_mg_of_trimmed hs).trans_le h2, (map_handle_of_trimmed hs).symm ▸ h3, fun y hy => ?_⟩
  obtain ⟨x, hx, hxy⟩ := exists_of_mem_trimmed hs hy
  obtain ⟨hlt, hlen, hnd⟩ := h4 x hx
  exact ⟨hxy.handle ▸ hn ▸ hlt, hxy.outstanding.length_le.trans hlen, hnd.sublist hxy.outstanding⟩

/-- A session of those that stood: the limits hold of it (R91, R92). -/
theorem SessionsOk.sublist {s t : State} (h : SessionsOk s) (hs : t.vk.sessions.Sublist s.vk.sessions)
    (hn : t.vk.nextHandle = s.vk.nextHandle) : SessionsOk t := by
  obtain ⟨h1, h2, h3, h4⟩ := h
  exact ⟨hs.length_le.trans h1, (hs.filter _).length_le.trans h2, h3.sublist (hs.map _), fun y hy => hn ▸ h4 y (hs.subset hy)⟩

theorem Kept.session' {s₀ s : State} (h : Kept s₀ s) {n : Nat} {f : Session → Session} (hf : ∀ x, Session.Trimmed x (f x)) :
    Kept s₀ (s.session' n f) :=
  h.vk'_of (fun hs => hs.trimmed (forall₂_updFirst Session.Trimmed.refl hf _) rfl) le_rfl

theorem Kept.closeSession {s₀ s : State} (h : Kept s₀ s) {n : Nat} : Kept s₀ (s.closeSession n) :=
  h.vk'_of (fun hs => hs.sublist List.filter_sublist rfl) le_rfl

theorem Kept.closeVia {s₀ s : State} (h : Kept s₀ s) {via : Transport} : Kept s₀ (s.closeVia via) :=
  h.foldl (fun _ _ ht => ht.closeSession) _

/-! ## The ring (R712, R723) -/

theorem freeSlot_ge (l : List EvRec) (k : Nat) : k ≤ freeSlot l k := by
  induction l generalizing k with
  | nil => exact le_rfl
  | cons r l ih =>
    unfold freeSlot
    split
    · exact (Nat.le_succ k).trans (ih (k + 1))
    · exact le_rfl

theorem mem_putSlot {l : List EvRec} {r x : EvRec} (h : x ∈ putSlot l r) : x = r ∨ x ∈ l := by
  simp only [putSlot, List.mem_append, List.mem_filter, List.mem_singleton] at h
  tauto

theorem putSlot_rising {l : List EvRec} (h : (l.map (·.slot)).Pairwise (· < ·)) (r : EvRec) :
    ((putSlot l r).map (·.slot)).Pairwise (· < ·) := by
  have hl : l.Pairwise fun a b => a.slot < b.slot := List.pairwise_map.1 h
  rw [List.pairwise_map, putSlot, List.append_assoc, List.pairwise_append]
  refine ⟨hl.filter _, ?_, fun a ha b hb => ?_⟩
  · simp only [List.singleton_append, List.pairwise_cons, List.mem_filter, decide_eq_true_eq]
    exact ⟨fun b hb => hb.2, hl.filter _⟩
  · have ha : a.slot < r.slot := by simpa using (List.mem_filter.1 ha).2
    obtain hb | hb := List.mem_append.1 hb
    · rwa [List.mem_singleton.1 hb]
    · exact ha.trans (by simpa using (List.mem_filter.1 hb).2)

theorem filter_slot_sublist (l : List EvRec) (k : Nat) (h : l.Pairwise fun a b => a.slot < b.slot) :
    (l.filter (·.slot < k) ++ l.filter (k < ·.slot)).Sublist l := by
  induction l with
  | nil => exact .refl _
  | cons a l ih =>
    obtain ⟨ha, hl⟩ := List.pairwise_cons.1 h
    by_cases hlt : a.slot < k
    · have : ¬ k < a.slot := by omega
      simpa [hlt, this] using (ih hl).cons_cons a
    · have hnil : l.filter (·.slot < k) = [] := List.filter_eq_nil_iff.2 fun b hb => by
        have := ha b hb
        simp only [decide_eq_true_eq]
        omega
      simp [hlt, hnil]

theorem putSlot_seq_nodup {l : List EvRec} {r : EvRec} (h : (l.map (·.slot)).Pairwise (· < ·)) (hnd : (l.map (·.seq)).Nodup)
    (hr : ∀ x ∈ l, x.seq < r.seq) : ((putSlot l r).map (·.seq)).Nodup := by
  have hsub := filter_slot_sublist l r.slot (List.pairwise_map.1 h)
  have hperm : (putSlot l r).Perm (r :: (l.filter (·.slot < r.slot) ++ l.filter (r.slot < ·.slot))) := by
    rw [putSlot, List.append_assoc]
    exact List.perm_middle
  rw [(hperm.map _).nodup_iff, List.map_cons, List.nodup_cons]
  refine ⟨fun hin => ?_, hnd.sublist (hsub.map _)⟩
  obtain ⟨x, hx, hxr⟩ := List.mem_map.1 hin
  exact (hr x (hsub.subset hx)).ne hxr

theorem oldestAtMost_mem {l : List EvRec} {sv : Nat} {r : EvRec} (h : oldestAtMost l sv = some r) : r ∈ l := by
  have key : ∀ (m : List EvRec) (best : Option EvRec), (∀ b, best = some b → b ∈ l) → (∀ x ∈ m, x ∈ l) →
      ∀ b, m.foldl (fun best r => match best with
        | none => some r
        | some b => if r.seq < b.seq then some r else best) best = some b → b ∈ l := by
    intro m
    induction m with
    | nil => exact fun best hb _ b h => hb b h
    | cons x m ih =>
      intro best hb hm b h
      refine ih _ (fun b' hb' => ?_) (fun y hy => hm y (List.mem_cons_of_mem _ hy)) b h
      have hx := hm x List.mem_cons_self
      cases best with
      | none => exact Option.some.inj hb' ▸ hx
      | some b0 =>
        simp only at hb'
        split at hb'
        · exact Option.some.inj hb' ▸ hx
        · exact hb b' hb'
  exact key _ none (fun _ h => nomatch h) (fun _ hx => List.mem_of_mem_filter hx) r h

theorem slotFor_lt {l : List EvRec} {sv slot : Nat} (h : slotFor l sv = some slot) (hl : ∀ r ∈ l, r.slot < 1048576) : slot < 1048576 := by
  unfold slotFor at h
  split at h
  · exact Option.some.inj h ▸ ‹_›
  · obtain ⟨r, hr, rfl⟩ := Option.map_eq_some_iff.1 h
    exact hl r (oldestAtMost_mem hr)

/-- A record written in its slot under the next sequence keeps the ring's order (R712, R723). -/
theorem RecorderAt.putSlot {n : Nat} {s : State} (h : RecorderAt n s) {slot : Nat} {r : Report0} (hslot : slotFor s.ev.ring (sevN r.sev) = some slot) :
    RecorderAt n (s.ev' fun v => { v with ring := Machine.putSlot v.ring ⟨slot, s.ev.nextSeq, r⟩, nextSeq := s.ev.nextSeq + 1 }) := by
  obtain ⟨h1, h2, h3, h4, h5, h6, h7, h8, h9⟩ := h
  refine ⟨h1, h2, h3, h4, h5, h6, putSlot_rising h7 _, putSlot_seq_nodup h7 h8 fun x hx => (h9 x hx).2, fun x hx => ?_⟩
  obtain rfl | hx := mem_putSlot hx
  · exact ⟨slotFor_lt hslot fun r hr => (h9 r hr).1, Nat.lt_succ_self _⟩
  · exact ⟨(h9 x hx).1, Nat.lt_succ_of_lt (h9 x hx).2⟩

theorem Session.deliver_trimmed (x : Session) (seq now : Nat) (r : Report0) : x.Trimmed (x.deliver seq now r) := by
  unfold Session.deliver
  split
  · split <;> exact ⟨rfl, rfl, .refl _⟩
  · exact .refl x

theorem Kept.writeRec {s₀ s : State} (h : Kept s₀ s) {r : Report0} : Kept s₀ (s.writeRec r) := by
  simp only [State.writeRec]
  split
  next slot hslot =>
    have hput := h.ev'_of (fun _ hok => hok.putSlot hslot) (Nat.le_succ _)
    have hsess := hput.stat (cls := 1) (idx := sevN r.sev) (pos := 0) (n := 1) |>.stat (cls := 0x0202) (idx := 5) (pos := 0) (n := 64) |>.vk'_of
      (f := fun v => { v with sessions := v.sessions.map (·.deliver s.ev.nextSeq s.ck.now r) })
      (fun hs => hs.trimmed (List.forall₂_map_right_iff.2 (List.forall₂_same.2 fun x _ => x.deliver_trimmed _ _ _)) rfl) le_rfl
    exact (hsess.foldl (fun _ _ ht => (ht.ev').stat) _).nv'
  next =>
    split
    · exact h.ev'
    · exact (h.ev').stat

/-! ## Replies -/

theorem Kept.sendReply {s₀ s : State} (h : Kept s₀ s) {via : Transport} {r : VReply} : Kept s₀ (s.sendReply via r) :=
  h.foldl (fun _ _ ht => .ite ht.send ht.send.afterDraw) _

theorem Kept.deliverAs {s₀ s : State} (h : Kept s₀ s) {own : Bool} {via : Transport} {r : VReply} : Kept s₀ (s.deliverAs own via r) :=
  .ite (h.vk') h.sendReply

theorem Kept.deliver {s₀ s : State} (h : Kept s₀ s) {via : Transport} {r : VReply} : Kept s₀ (s.deliver via r) := h.deliverAs

theorem Kept.turnAway {s₀ s : State} (h : Kept s₀ s) {q : VReq} {op : Nat} {st : VStatus} : Kept s₀ (s.turnAway q op st) := h.deliverAs

theorem Kept.replyTo {s₀ s : State} (h : Kept s₀ s) {w : Waiter} {st : VStatus} {p : Bytes} : Kept s₀ (s.replyTo w st p) :=
  Kept.deliver (.ite (h.session' (f := fun x => { x with outstanding := x.outstanding.erase w.tag }) fun _ => ⟨rfl, rfl, List.erase_sublist⟩) h)

theorem Kept.reply {s₀ s : State} (h : Kept s₀ s) {q : VReq} {op : Nat} {st : VStatus} {p : Bytes} : Kept s₀ (s.reply q op st p) := h.replyTo

theorem Kept.loseNotice {s₀ s : State} (h : Kept s₀ s) {n : Nat} {p : Bytes} : Kept s₀ (s.loseNotice n p) :=
  ((h.ev').vk').stat

theorem Kept.freePlace {s₀ s : State} (h : Kept s₀ s) {x : Session} : Kept s₀ (s.freePlace x) := by
  unfold State.freePlace
  split
  · exact h
  · split
    · exact (h.vk').loseNotice
    · exact h

theorem Kept.issueConfirm {s₀ s : State} (h : Kept s₀ s) {o : VOp} {q : VReq} : Kept s₀ (s.issueConfirm o q) := by
  unfold State.issueConfirm
  refine Kept.reply (Kept.session' h.afterDraw ?_)
  exact fun _ => ⟨rfl, rfl, .refl _⟩

/-! ## A request that is taken in (R84, R92) -/

theorem freePlace_nextHandle (s : State) (x : Session) : (s.freePlace x).vk.nextHandle = s.vk.nextHandle := by
  unfold State.freePlace
  split
  · rfl
  · split <;> rfl

/-- The session that a request names is the first of its handle. -/
theorem find?_handle_of_nodup {h : Nat} {via : Transport} {x : Session} : ∀ {l : List Session}, (l.map (·.handle)).Nodup →
    l.find? (fun y => y.handle == h && y.via == via) = some x → l.find? (·.handle == h) = some x
  | [], _, hx => by cases hx
  | a :: l, hnd, hx => by
    obtain ⟨hna, hnd⟩ := List.nodup_cons.1 (List.map_cons ▸ hnd)
    by_cases ha : a.handle = h
    · rw [List.find?_cons_of_pos (by simp [ha])]
      by_contra hne
      have hxl : x ∈ l := (List.mem_cons.1 (List.mem_of_find?_eq_some hx)).resolve_left fun e => hne (e ▸ rfl)
      exact hna (ha.trans (find?_session hx).1.symm ▸ List.mem_map_of_mem hxl)
    · rw [List.find?_cons_of_neg (by simp [ha])] at hx ⊢
      exact find?_handle_of_nodup hnd hx

/-- What an update of the first match gives has either stood or is made of that match. -/
theorem mem_updFirst {α : Type} {p : α → Bool} {f : α → α} {y : α} : ∀ {l : List α}, y ∈ updFirst p f l →
    y ∈ l ∨ ∃ x, l.find? p = some x ∧ y = f x
  | [], hy => by cases hy
  | a :: l, hy => by
    unfold updFirst at hy
    split at hy
    · obtain rfl | hy := List.mem_cons.1 hy
      · exact .inr ⟨a, by simp [*], rfl⟩
      · exact .inl (List.mem_cons_of_mem _ hy)
    · obtain rfl | hy := List.mem_cons.1 hy
      · exact .inl List.mem_cons_self
      · obtain hy | ⟨x, hx, hyx⟩ := mem_updFirst hy
        · exact .inl (List.mem_cons_of_mem _ hy)
        · exact .inr ⟨x, by simp [*], hyx⟩

theorem map_updFirst_eq {α β : Type} {p : α → Bool} {f : α → α} {g : α → β} (hf : ∀ x, g (f x) = g x) (l : List α) :
    (updFirst p f l).map g = l.map g := by
  induction l with
  | nil => rfl
  | cons a l ih =>
    unfold updFirst
    split <;> simp [hf, ih]

theorem length_filter_via (l : List Session) :
    (l.filter fun x => !x.via.holds).length = ((l.map (·.via)).filter fun v => !v.holds).length := by
  rw [List.filter_map, List.length_map]
  rfl

/-- A change of the session of a handle that leaves its name, and at most 32 requests of different tags. -/
theorem SessionsOk.session'_of {s : State} (h : SessionsOk s) {n : Nat} {f : Session → Session} (hh : ∀ x, (f x).handle = x.handle)
    (hv : ∀ x, (f x).via = x.via)
    (ho : ∀ x, s.vk.sessions.find? (·.handle == n) = some x → (f x).outstanding.length ≤ 32 ∧ (f x).outstanding.Nodup) :
    SessionsOk (s.session' n f) := by
  obtain ⟨h1, h2, h3, h4⟩ := h
  refine ⟨?_, ?_, (map_updFirst_eq (g := Session.handle) hh s.vk.sessions).symm ▸ h3, fun y hy => ?_⟩
  · exact (forall₂_updFirst (R := fun _ _ => True) (fun _ => trivial) (fun _ => trivial) s.vk.sessions).length_eq ▸ h1
  · rw [length_filter_via] at h2 ⊢
    exact (map_updFirst_eq (g := Session.via) hv s.vk.sessions).symm ▸ h2
  · obtain hy | ⟨x, hx, rfl⟩ := mem_updFirst hy
    · exact h4 y hy
    · exact ⟨(hh x).trans_lt (h4 x (List.mem_of_find?_eq_some hx)).1, ho x hx⟩

theorem checkSession_none {s : State} {op : Nat} {q : VReq} {x : Session} (hop : op ≠ 0x0101) (hx : s.sessionOf q.via q.session = some x)
    (hc : s.checkSession op q = none) : x.outstanding.length < 32 ∧ q.tag ∉ x.outstanding := by
  simp only [State.checkSession, if_neg hop, hx] at hc
  grind

theorem Kept.takeIn {s₀ s : State} (h : Kept s₀ s) {op : Nat} {q : VReq} (hc : s.checkSession op q = none) :
    Kept s₀ (s.takeIn op q) := by
  unfold State.takeIn
  split
  next => exact h
  next x hx =>
    have hop : op ≠ 0x0101 := fun e => by simp [e] at hx
    rw [if_neg hop] at hx
    obtain ⟨hlen, hnew⟩ := checkSession_none hop hx hc
    refine h.freePlace.vk'_of (fun hs => hs.session'_of (fun _ => rfl) (fun _ => rfl) fun y hy => ?_) le_rfl
    have hfind : (s.freePlace x).vk.sessions.find? (·.handle == q.session) = some x :=
      find?_handle_of_nodup hs.handlesNodup (via := q.via) (by rwa [freePlace_sessions])
    cases hfind.symm.trans hy
    obtain ⟨-, -, -, hall⟩ := hs
    refine ⟨by simpa using hlen, List.nodup_append.2 ⟨(hall x (List.mem_of_find?_eq_some hfind)).2.2, by simp, ?_⟩⟩
    simp only [List.mem_singleton, forall_eq]
    exact fun a ha e => hnew (e ▸ ha)

/-- A request keeps what its opcode's own part keeps (R77). -/
theorem Kept.virkan {s₀ s : State} (h : Kept s₀ s) {op : Nat} {q : VReq} {body : State → State}
    (hb : ∀ t, Kept s₀ t → Kept s₀ (body t)) : Kept s₀ (s.virkan op q body) := by
  unfold State.virkan
  split
  · exact h
  split
  · exact h.turnAway
  next hc =>
    have ht := h.takeIn hc
    dsimp only
    split
    · exact ht.reply
    split
    · exact ht
    split
    · exact ht.issueConfirm
    · exact hb _ (.ite (ht.session' fun _ => ⟨rfl, rfl, .refl _⟩) ht)

/-! ## SESSION_OPEN (R87, R91) -/

theorem SessionsOk.push {s t : State} (h : SessionsOk s) {x : Session} (hslot : s.sessionSlot x.via = true)
    (hx : x.handle = s.vk.nextHandle) (ho : x.outstanding.length ≤ 32 ∧ x.outstanding.Nodup)
    (hs : t.vk.sessions = s.vk.sessions ++ [x]) (hn : t.vk.nextHandle = s.vk.nextHandle + 1) : SessionsOk t := by
  obtain ⟨h1, h2, h3, h4⟩ := h
  obtain ⟨hroom, hmg⟩ : s.vk.sessions.length < 64 ∧
      (x.via.holds = false → (s.vk.sessions.filter fun x => !x.via.holds).length < 16) := by
    simp only [State.sessionSlot, Bool.and_eq_true, Bool.or_eq_true, decide_eq_true_eq] at hslot
    exact ⟨hslot.1, fun hf => hslot.2.resolve_left (by simp [hf])⟩
  unfold SessionsOk
  rw [hs, hn]
  refine ⟨by simpa using hroom, ?_, ?_, fun y hy => ?_⟩
  · cases hv : x.via.holds with
    | true => simpa [List.filter_append, hv] using h2
    | false => simpa [List.filter_append, hv] using hmg hv
  · rw [List.map_append, List.nodup_append]
    refine ⟨h3, by simp, fun a ha b hb => ?_⟩
    obtain ⟨y, hy, rfl⟩ := List.mem_map.1 ha
    obtain rfl : b = x.handle := List.mem_singleton.1 hb
    rw [hx]
    exact (h4 y hy).1.ne
  · obtain hy | hy := List.mem_append.1 hy
    · exact ⟨Nat.lt_succ_of_lt (h4 y hy).1, (h4 y hy).2⟩
    · rw [List.mem_singleton.1 hy, hx]
      exact ⟨Nat.lt_succ_self _, ho⟩

theorem Kept.openSession {s₀ s : State} (h : Kept s₀ s) {q : VReq} : Kept s₀ (s.openSession q) := by
  unfold State.openSession
  split
  · exact h.reply
  next hfull =>
    have hslot : s.sessionSlot q.via = true := by simpa using hfull
    refine Kept.deliver (h.afterDraw.vk'_of (fun hs => hs.push (by exact hslot) rfl ?_ rfl rfl) (Nat.le_succ _))
    dsimp only
    split <;> simp

end Sys2Proof.Machine

/-! PROOFS. What is kept by the map SRAM cache. -/

namespace Sys2Proof.Machine

-- A default argument that is a tactic is run once the kernel is done with all before it: theorem by theorem, no thread waits for that.
set_option Elab.async false

/-! ## The map SRAM cache and DRAM (R195 to R200) -/

/-- The cache keeps its sets and ways, and no line stands in it twice or outside the window (R195). -/
structure MapCachePart.Shaped (m : MapCachePart) : Prop where
  base : m.base % 256 = 0
  size : m.size % 256 = 0
  ways : (m.lines.map fun l => (l.1, l.2.1)).Nodup
  tags : (m.lines.map fun l => (l.1, l.2.2.1)).Nodup
  inside : ∀ l ∈ m.lines, l.1 < cacheSets ∧ l.2.1 < 16 ∧ lineAddr m.base l.1 l.2.2.1 + 256 ≤ m.base + m.size

/-- A line holds what DRAM holds (R196). -/
def LineAgrees (mem : List Host.Cell) (base : Nat) (l : Nat × Nat × Nat × Bytes) : Prop :=
  l.2.2.2 = memRead mem (lineAddr base l.1 l.2.2.1) 256

theorem cacheOk_iff (s : State) :
    CacheOk s ↔ Memory.wf s.dr.mem = true ∧ s.mc.Shaped ∧ ∀ l ∈ s.mc.lines, LineAgrees s.dr.mem s.mc.base l := by
  refine ⟨fun ⟨h1, h2, h3, h4, h5, h6⟩ => ⟨h1, ⟨h2, h3, h4, h5, fun l hl => ?_⟩, fun l hl => ?_⟩,
    fun ⟨h1, ⟨h2, h3, h4, h5, h6⟩, h7⟩ => ⟨h1, h2, h3, h4, h5, fun l hl => ?_⟩⟩
  · obtain ⟨a, b, c, -⟩ := h6 l hl
    exact ⟨a, b, c⟩
  · obtain ⟨-, -, -, d⟩ := h6 l hl
    exact d
  · obtain ⟨a, b, c⟩ := h6 l hl
    exact ⟨a, b, c, h7 l hl⟩

theorem isLineOf_iff (set tag : Nat) (l : Nat × Nat × Nat × Bytes) : isLineOf set tag l = true ↔ l.1 = set ∧ l.2.2.1 = tag := by
  simp [isLineOf]

theorem withBytes_keys (set tag : Nat) (b : Bytes) (l : Nat × Nat × Nat × Bytes) :
    (withBytes set tag b l).1 = l.1 ∧ (withBytes set tag b l).2.1 = l.2.1 ∧ (withBytes set tag b l).2.2.1 = l.2.2.1 := by
  unfold withBytes
  split <;> exact ⟨rfl, rfl, rfl⟩

section
variable {m : MapCachePart} (h : m.Shaped)
include h

theorem MapCachePart.Shaped.filter (p : Nat × Nat × Nat × Bytes → Bool) : ({ m with lines := m.lines.filter p } : MapCachePart).Shaped :=
  ⟨h.base, h.size, h.ways.sublist (List.filter_sublist.map _), h.tags.sublist (List.filter_sublist.map _),
    fun l hl => h.inside l (List.mem_of_mem_filter hl)⟩

theorem MapCachePart.Shaped.setLine (set tag : Nat) (b : Bytes) : (m.setLine set tag b).Shaped := by
  have hk (l : Nat × Nat × Nat × Bytes) := withBytes_keys set tag b l
  refine ⟨h.base, h.size, ?_, ?_, fun l hl => ?_⟩
  · rw [MapCachePart.setLine_lines, List.map_map]
    simpa [Function.comp_def, hk] using h.ways
  · rw [MapCachePart.setLine_lines, List.map_map]
    simpa [Function.comp_def, hk] using h.tags
  · rw [MapCachePart.setLine_lines] at hl
    obtain ⟨k, hkl, rfl⟩ := List.mem_map.1 hl
    obtain ⟨h1, h2, h3⟩ := hk k
    rw [h1, h2, h3]
    exact h.inside k hkl

/-- A line that is not present is put in a way of its set that no other line holds. -/
theorem MapCachePart.Shaped.push {set w tag : Nat} (b : Bytes) (hset : set < cacheSets) (hw : w < 16)
    (hin : lineAddr m.base set tag + 256 ≤ m.base + m.size) (hway : ∀ l ∈ m.lines, ¬ (l.1 = set ∧ l.2.1 = w))
    (htag : ∀ l ∈ m.lines, ¬ (l.1 = set ∧ l.2.2.1 = tag)) :
    ({ m with lines := m.lines ++ [(set, w, tag, b)] } : MapCachePart).Shaped := by
  refine ⟨h.base, h.size, ?_, ?_, fun l hl => ?_⟩
  · rw [List.map_append, List.nodup_append]
    refine ⟨h.ways, by simp, fun a ha c hc => ?_⟩
    obtain ⟨l, hl, rfl⟩ := List.mem_map.1 ha
    obtain rfl : c = (set, w) := List.mem_singleton.1 hc
    exact fun e => hway l hl (Prod.mk.inj e)
  · rw [List.map_append, List.nodup_append]
    refine ⟨h.tags, by simp, fun a ha c hc => ?_⟩
    obtain ⟨l, hl, rfl⟩ := List.mem_map.1 ha
    obtain rfl : c = (set, tag) := List.mem_singleton.1 hc
    exact fun e => htag l hl (Prod.mk.inj e)
  · obtain hl | hl := List.mem_append.1 hl
    · exact h.inside l hl
    · obtain rfl := List.mem_singleton.1 hl
      exact ⟨hset, hw, hin⟩
end

theorem findFrom_range {p : Nat → Bool} {n w : Nat} : ∀ (k : Nat), findFrom p (List.range' k n) k = some w → k ≤ w ∧ w < k + n ∧ p w = true := by
  induction n with
  | zero => exact fun _ h => nomatch h
  | succ n ih =>
    intro k h
    rw [List.range'_succ, findFrom] at h
    split at h
    · cases h
      exact ⟨le_rfl, by omega, ‹_›⟩
    · obtain ⟨h1, h2, h3⟩ := ih (k + 1) h
      exact ⟨by omega, by omega, h3⟩

/-- The line that is allocated takes a way of its set that is invalid, or that the eviction empties (R197). -/
theorem MapCachePart.Shaped.alloc {m : MapCachePart} (h : m.Shaped) {set tag : Nat} (b : Bytes) (hset : set < cacheSets)
    (hin : lineAddr m.base set tag + 256 ≤ m.base + m.size) (hno : m.line set tag = none) : (m.alloc set tag b).Shaped := by
  have htag (l) (hl : l ∈ m.lines) : ¬ (l.1 = set ∧ l.2.2.1 = tag) := by
    simpa [isLineOf] using MapCachePart.line_eq_none.1 hno l hl
  unfold MapCachePart.alloc
  split
  next w hw =>
    rw [List.range_eq_range'] at hw
    obtain ⟨-, hlt, hfree⟩ := findFrom_range 0 hw
    exact h.push b hset (by omega) hin (by simpa using hfree) htag
  next =>
    have hf := (h.filter fun l => !(l.1 == set && l.2.1 == (lfsrStep m.lfsr &&& 0xF).toNat)).push b hset
      (w := (lfsrStep m.lfsr &&& 0xF).toNat) (tag := tag) ?_ hin (fun l hl => by simpa [← imp_iff_not_or] using (List.mem_filter.1 hl).2)
      (fun l hl => htag l (List.mem_of_mem_filter hl))
    · exact ⟨hf.base, hf.size, hf.ways, hf.tags, hf.inside⟩
    · rw [BitVec.toNat_and]
      exact (Nat.and_le_right).trans_lt (by decide)

/-! ## A write in DRAM, and the line it falls in -/

theorem lineAddr_le_of_ne {base set set' tag tag' : Nat} (hs : set < cacheSets) (hs' : set' < cacheSets)
    (hne : ¬ (set = set' ∧ tag = tag')) :
    lineAddr base set tag + 256 ≤ lineAddr base set' tag' ∨ lineAddr base set' tag' + 256 ≤ lineAddr base set tag := by
  unfold lineAddr
  unfold cacheSets at *
  omega

/-- The bytes of a write lie in the line of a set and tag. -/
structure InLine (base set tag a n : Nat) : Prop where
  first : lineAddr base set tag ≤ a
  last : a + n ≤ lineAddr base set tag + 256

/-- After a write in one line, the lines that are not that line hold what DRAM holds. -/
theorem lineAgrees_memWrite {mem : List Host.Cell} {base set tag a : Nat} {bs : Bytes} (hin : InLine base set tag a bs.length)
    (hset : set < cacheSets) {l : Nat × Nat × Nat × Bytes} (hl : l.1 < cacheSets) (hne : ¬ (l.1 = set ∧ l.2.2.1 = tag))
    (h : LineAgrees mem base l) : LineAgrees (memWrite mem a bs) base l := by
  obtain ⟨h1, h2⟩ := hin
  rw [LineAgrees, memRead_memWrite_apart]
  · exact h
  · have := lineAddr_le_of_ne (base := base) hl hset hne
    omega

theorem State.lineStart_eq (s : State) (a : Nat) : s.lineStart a = Machine.lineAddr s.mc.base (s.cacheAt a).1 (s.cacheAt a).2 := by
  simp only [State.lineStart, State.cacheAt, Machine.lineAddr]
  generalize (a - s.mc.base) / 256 = n
  rw [Nat.mul_comm (n / cacheSets), Nat.div_add_mod]

theorem State.cacheAt_lt (s : State) (a : Nat) : (s.cacheAt a).1 < cacheSets := Nat.mod_lt _ (by decide)

/-- The line of an address in the window lies whole in the window. -/
theorem State.lineStart_inside {s : State} {a : Nat} (h : s.inWindow a = true) (hsz : s.mc.size % 256 = 0) :
    Machine.lineAddr s.mc.base (s.cacheAt a).1 (s.cacheAt a).2 + 256 ≤ s.mc.base + s.mc.size := by
  rw [← State.lineStart_eq, State.lineStart]
  simp only [State.inWindow, Bool.and_eq_true, decide_eq_true_eq] at h
  omega

namespace KeptPastCache

variable {s₀ s : State}

theorem mc' (h : KeptPastCache s₀ s) {f : MapCachePart → MapCachePart} : KeptPastCache s₀ (s.mc' f) :=
  ⟨h.sessions, h.memory, h.recorder, h.ledger, h.counters, h.regs, h.device, h.numbers⟩

theorem memWrite (h : KeptPastCache s₀ s) {a : Nat} {bs : Bytes} : KeptPastCache s₀ (s.dramWrite a bs) :=
  ⟨h.sessions, fun hm => memWrite_wf bs a (h.memory hm), h.recorder, h.ledger, h.counters, h.regs, h.device, h.numbers⟩

theorem kept {t : State} (h : KeptPastCache s₀ s) (k : Kept s t) : KeptPastCache s₀ t := h.trans k.toKeptPastCache

theorem foldl {α : Type} {f : State → α → State} (h : KeptPastCache s₀ s) (hf : ∀ t a, KeptPastCache t (f t a)) (l : List α) :
    KeptPastCache s₀ (l.foldl f s) := by
  induction l generalizing s with
  | nil => exact h
  | cons a l ih => exact ih (h.trans (hf s a))

end KeptPastCache

/-- The combs are where they were, and the map cache is as it was or has lost a line. -/
theorem readLine_cl (s : State) (set tag : Nat) : (s.readLine set tag).1.cl = s.cl := by
  unfold State.readLine
  split
  · rfl
  · split
    · rfl
    · rw [State.bump_cl, State.ev0_cl]
      rfl

theorem Kept.readLine {s₀ s : State} (h : Kept s₀ s) {set tag : Nat} : Kept s₀ (s.readLine set tag).1 := by
  unfold State.readLine
  split
  · exact h
  · split
    · exact h.afterDraw
    · refine ((h.afterDraw.mc' fun hc => ?_).ev0).bump
      obtain ⟨hwf, hsh, hall⟩ := (cacheOk_iff _).1 hc
      exact (cacheOk_iff _).2 ⟨hwf, hsh.filter _, fun l hl => hall l (List.mem_of_mem_filter hl)⟩

/-- What meeting a line makes of the cache: nothing, where it is absent or whole; else the line is gone (R200). -/
theorem readLine_mc (s : State) (set tag : Nat) :
    ((s.readLine set tag).1.mc = s.mc ∧ ((s.readLine set tag).2 = none → s.mc.line set tag = none)) ∨
    ((s.readLine set tag).1.mc = s.mc.drop set tag ∧ (s.readLine set tag).2 = none) := by
  obtain ⟨h, hr⟩ | ⟨b, h, h0, hr⟩ | ⟨b, u, h, h0, hr, hu⟩ := s.readLine_cases set tag <;> rw [hr]
  · exact .inl ⟨rfl, fun _ => h⟩
  · exact .inl ⟨rfl, fun h => nomatch h⟩
  · exact .inr ⟨hu, rfl⟩

/-- Where an access has found no line to serve it, the cache holds none. -/
theorem line_of_readLine_none {s : State} {set tag : Nat} (h : (s.readLine set tag).2 = none) :
    (s.readLine set tag).1.mc.line set tag = none := by
  obtain ⟨hm, hn⟩ | ⟨hm, -⟩ := readLine_mc s set tag <;> rw [hm]
  · exact hn h
  · exact MapCachePart.line_drop _ _ _

theorem readLine_base (s : State) (set tag : Nat) :
    (s.readLine set tag).1.mc.base = s.mc.base ∧ (s.readLine set tag).1.mc.size = s.mc.size := by
  obtain ⟨hm, -⟩ | ⟨hm, -⟩ := readLine_mc s set tag <;> rw [hm] <;> exact ⟨rfl, rfl⟩

theorem mem_readLine {s : State} {set tag : Nat} {l : Nat × Nat × Nat × Bytes} (h : l ∈ (s.readLine set tag).1.mc.lines) :
    l ∈ s.mc.lines := by
  obtain ⟨hm, -⟩ | ⟨hm, -⟩ := readLine_mc s set tag <;> rw [hm] at h
  · exact h
  · exact List.mem_of_mem_filter h

theorem MapCachePart.Shaped.readLine {s : State} (h : s.mc.Shaped) (set tag : Nat) : (s.readLine set tag).1.mc.Shaped := by
  obtain ⟨hm, -⟩ | ⟨hm, -⟩ := readLine_mc s set tag <;> rw [hm]
  · exact h
  · exact h.filter _

/-- Every line but that of a set and tag holds what DRAM holds. -/
def AgreesBut (s : State) (set tag : Nat) : Prop :=
  ∀ l ∈ s.mc.lines, ¬ (l.1 = set ∧ l.2.2.1 = tag) → LineAgrees s.dr.mem s.mc.base l

theorem AgreesBut.all_of_none {s : State} {set tag : Nat} (h : AgreesBut s set tag) (hno : s.mc.line set tag = none) :
    ∀ l ∈ s.mc.lines, LineAgrees s.dr.mem s.mc.base l := fun l hl =>
  h l hl (by simpa [isLineOf] using MapCachePart.line_eq_none.1 hno l hl)

theorem AgreesBut.readLine {s : State} {set tag : Nat} (h : AgreesBut s set tag) (set' tag' : Nat) :
    AgreesBut (s.readLine set' tag').1 set tag := fun l hl hne => by
  rw [readLine_dr, (readLine_base s set' tag').1]
  exact h l (mem_readLine hl) hne

/-- The line that was left out takes the bytes of DRAM. -/
theorem AgreesBut.setLine {s : State} {set tag : Nat} (h : AgreesBut s set tag) :
    ∀ l ∈ (s.mc.setLine set tag (memRead s.dr.mem (lineAddr s.mc.base set tag) 256)).lines, LineAgrees s.dr.mem s.mc.base l := by
  intro l hl
  rw [MapCachePart.setLine_lines] at hl
  obtain ⟨k, hkl, rfl⟩ := List.mem_map.1 hl
  unfold withBytes
  split
  next hk =>
    obtain ⟨rfl, rfl⟩ := (isLineOf_iff _ _ _).1 hk
    rfl
  next hk => exact h k hkl fun e => hk ((isLineOf_iff _ _ _).2 e)

theorem AgreesBut.alloc {s : State} {set tag : Nat} (h : AgreesBut s set tag) (hno : s.mc.line set tag = none) {b : Bytes}
    (hb : b = memRead s.dr.mem (lineAddr s.mc.base set tag) 256) :
    ∀ l ∈ (s.mc.alloc set tag b).lines, LineAgrees s.dr.mem s.mc.base l := by
  obtain ⟨w, keep, hl⟩ := MapCachePart.alloc_lines (m := s.mc) (set := set) (tag := tag) b
  intro l hmem
  rw [hl] at hmem
  obtain hmem | hmem := List.mem_append.1 hmem
  · exact h.all_of_none hno l (List.mem_of_mem_filter hmem)
  · obtain rfl := List.mem_singleton.1 hmem
    exact hb

theorem alloc_base (m : MapCachePart) (set tag : Nat) (b : Bytes) : (m.alloc set tag b).base = m.base := by
  unfold MapCachePart.alloc
  split <;> rfl

/-- A write in one line leaves the other lines as DRAM has them. -/
theorem AgreesBut.dramWrite {s : State} (h : CacheOk s) {set tag a : Nat} {bs : Bytes} (hin : InLine s.mc.base set tag a bs.length)
    (hset : set < cacheSets) : AgreesBut (s.dramWrite a bs) set tag := by
  obtain ⟨-, hsh, hall⟩ := (cacheOk_iff s).1 h
  exact fun l hl hne => lineAgrees_memWrite hin hset (hsh.inside l hl).1 hne (hall l hl)

end Sys2Proof.Machine

/-! PROOFS. What is kept by writes and reads of DRAM. -/

namespace Sys2Proof.Machine

-- A default argument that is a tactic is run once the kernel is done with all before it: theorem by theorem, no thread waits for that.
set_option Elab.async false

/-! ## Writes of any block (R196) -/

/-- Every line agrees with DRAM but those of a list that is still to be refreshed. -/
def AgreesButFor (s : State) (ls : List (Nat × Nat × Nat × Bytes)) : Prop :=
  ∀ l ∈ s.mc.lines, LineAgrees s.dr.mem s.mc.base l ∨ ∃ k ∈ ls, l.1 = k.1 ∧ l.2.2.1 = k.2.2.1

theorem refreshLine_step {s : State} {k : Nat × Nat × Nat × Bytes} {ls : List (Nat × Nat × Nat × Bytes)} (hsh : s.mc.Shaped)
    (h : AgreesButFor s (k :: ls)) :
    (s.refreshLine k).mc.Shaped ∧ AgreesButFor (s.refreshLine k) ls ∧ KeptPastCache s (s.refreshLine k) ∧
      (s.refreshLine k).cl = s.cl := by
  have hsh' := hsh.readLine k.1 k.2.2.1
  have hkept := (Kept.refl s).readLine (set := k.1) (tag := k.2.2.1)
  have hcl := readLine_cl s k.1 k.2.2.1
  have hdr := readLine_dr s k.1 k.2.2.1
  have hbase := (readLine_base s k.1 k.2.2.1).1
  have hmem (l) (hl : l ∈ (s.readLine k.1 k.2.2.1).1.mc.lines) := h l (mem_readLine hl)
  have hline := @line_of_readLine_none s k.1 k.2.2.1
  unfold State.refreshLine
  generalize s.readLine k.1 k.2.2.1 = x at *
  obtain ⟨u, _ | b⟩ := x
  · refine ⟨hsh', fun l hl => ?_, hkept.toKeptPastCache, hcl⟩
    rw [hdr, hbase]
    obtain hl' | ⟨j, hj, hjl⟩ := hmem l hl
    · exact .inl hl'
    · obtain rfl | hj := List.mem_cons.1 hj
      · exact absurd ((isLineOf_iff _ _ _).2 hjl) (MapCachePart.line_eq_none.1 (hline rfl) l hl)
      · exact .inr ⟨j, hj, hjl⟩
  · refine ⟨hsh'.setLine _ _ _, fun l hl => ?_, hkept.toKeptPastCache.mc', hcl⟩
    rw [State.mc'_mc, MapCachePart.setLine_lines] at hl
    obtain ⟨j, hj, rfl⟩ := List.mem_map.1 hl
    rw [State.mc'_dr, State.mc'_mc, hdr]
    change LineAgrees _ u.mc.base _ ∨ _
    rw [hbase]
    unfold withBytes
    split
    next hjk =>
      obtain ⟨h1, h2⟩ := (isLineOf_iff _ _ _).1 hjk
      refine .inl ?_
      simp only [LineAgrees, h1, h2]
      rfl
    next hjk =>
      obtain hl' | ⟨i, hi, hij⟩ := hmem j hj
      · exact .inl hl'
      · obtain rfl | hi := List.mem_cons.1 hi
        · exact absurd ((isLineOf_iff _ _ _).2 hij) hjk
        · exact .inr ⟨i, hi, hij⟩

theorem foldl_refreshLine {s : State} {ls : List (Nat × Nat × Nat × Bytes)} (hsh : s.mc.Shaped) (h : AgreesButFor s ls) :
    (ls.foldl State.refreshLine s).mc.Shaped ∧ AgreesButFor (ls.foldl State.refreshLine s) [] := by
  induction ls generalizing s with
  | nil => exact ⟨hsh, h⟩
  | cons k ls ih =>
    obtain ⟨hsh', h', -, -⟩ := refreshLine_step hsh h
    exact ih hsh' h'

theorem refreshLine_kept (s : State) (k : Nat × Nat × Nat × Bytes) :
    KeptPastCache s (s.refreshLine k) ∧ (s.refreshLine k).cl = s.cl := by
  have hkept := (Kept.refl s).readLine (set := k.1) (tag := k.2.2.1)
  have hcl := readLine_cl s k.1 k.2.2.1
  unfold State.refreshLine
  generalize s.readLine k.1 k.2.2.1 = x at *
  obtain ⟨u, _ | b⟩ := x
  · exact ⟨hkept.toKeptPastCache, hcl⟩
  · exact ⟨hkept.toKeptPastCache.mc', hcl⟩

theorem foldl_cl {α : Type} {f : State → α → State} (hf : ∀ t a, (f t a).cl = t.cl) (l : List α) (s : State) : (l.foldl f s).cl = s.cl := by
  induction l generalizing s with
  | nil => rfl
  | cons a l ih => rw [List.foldl_cons, ih, hf]

theorem CacheOk.putBytes {s : State} (h : CacheOk s) (a : Nat) (bs : Bytes) : CacheOk (s.putBytes a bs) := by
  obtain ⟨hwf, hsh, hall⟩ := (cacheOk_iff s).1 h
  have hsplit : AgreesButFor (s.dramWrite a bs)
      (s.mc.lines.filter fun l => s.lineAddr l < a + bs.length && a < s.lineAddr l + 256) := fun l hl => by
    by_cases hmeet : s.lineAddr l < a + bs.length ∧ a < s.lineAddr l + 256
    · exact .inr ⟨l, List.mem_filter.2 ⟨hl, by simpa using hmeet⟩, rfl, rfl⟩
    · refine .inl ((hall l hl).trans (memRead_memWrite_apart _ bs ?_).symm)
      change s.lineAddr l + 256 ≤ a ∨ a + bs.length ≤ s.lineAddr l
      omega
  obtain ⟨hsh', h'⟩ := foldl_refreshLine (s := s.dramWrite a bs) hsh hsplit
  exact (cacheOk_iff _).2 ⟨putBytes_wf hwf a bs, hsh', fun l hl => (h' l hl).resolve_right (by simp)⟩

theorem Kept.putBytes {s₀ s : State} (h : Kept s₀ s) {a : Nat} {bs : Bytes} : Kept s₀ (s.putBytes a bs) := by
  have hrest : KeptPastCache s (s.putBytes a bs) :=
    (KeptPastCache.memWrite (Kept.refl s).toKeptPastCache).foldl (fun t k => (refreshLine_kept t k).1) _
  have hcl : (s.putBytes a bs).cl = s.cl := foldl_cl (fun t k => (refreshLine_kept t k).2) _ _
  exact h.trans ⟨⟨hrest, (·.putBytes a bs)⟩, by rw [hcl]; exact (Kept.refl s).combs⟩

/-! ## Accesses of the map window -/

/-- A write that stays in its line of 256 bytes, and of DRAM that the window does not hold. -/
theorem CacheOk.dramWrite_outside {s : State} (h : CacheOk s) {a : Nat} {bs : Bytes} (hout : s.inWindow a = false)
    (hlen : a % 256 + bs.length ≤ 256) : CacheOk (s.dramWrite a bs) := by
  obtain ⟨hwf, hsh, hall⟩ := (cacheOk_iff s).1 h
  refine (cacheOk_iff _).2 ⟨memWrite_wf bs a hwf, hsh, fun l hl => (hall l hl).trans (memRead_memWrite_apart _ bs ?_).symm⟩
  have hb := hsh.base
  have hin := (hsh.inside l hl).2.2
  simp only [State.inWindow, Bool.and_eq_false_iff, decide_eq_false_iff_not] at hout
  unfold lineAddr at *
  omega

theorem Kept.dramWrite_outside {s₀ s : State} (h : Kept s₀ s) {a : Nat} {bs : Bytes} (hout : s.inWindow a = false)
    (hlen : a % 256 + bs.length ≤ 256) : Kept s₀ (s.dramWrite a bs) :=
  h.dr'_of (fun hm => memWrite_wf bs a hm) (fun hc => hc.dramWrite_outside hout hlen)

/-- Every line agrees again once the line that a write met is gone. -/
theorem cacheOk_of_agreesBut_none {s : State} {set tag : Nat} (hwf : Memory.wf s.dr.mem = true) (hsh : s.mc.Shaped)
    (h : AgreesBut s set tag) (hno : s.mc.line set tag = none) : CacheOk s :=
  (cacheOk_iff s).2 ⟨hwf, hsh, h.all_of_none hno⟩

/-- Every line agrees again once the line that a write met has the bytes of DRAM. -/
theorem cacheOk_setLine {s : State} {set tag : Nat} {b : Bytes} (hwf : Memory.wf s.dr.mem = true) (hsh : s.mc.Shaped)
    (h : AgreesBut s set tag) (hb : b = memRead s.dr.mem (lineAddr s.mc.base set tag) 256) :
    CacheOk (s.mc' fun m => m.setLine set tag b) :=
  (cacheOk_iff _).2 ⟨hwf, hsh.setLine _ _ _, hb ▸ h.setLine⟩

theorem cacheOk_alloc {s : State} {set tag : Nat} {b : Bytes} (hwf : Memory.wf s.dr.mem = true) (hsh : s.mc.Shaped)
    (h : AgreesBut s set tag) (hset : set < cacheSets) (hin : lineAddr s.mc.base set tag + 256 ≤ s.mc.base + s.mc.size)
    (hno : s.mc.line set tag = none) (hb : b = memRead s.dr.mem (lineAddr s.mc.base set tag) 256) :
    CacheOk (s.mc' fun m => m.alloc set tag b) := by
  refine (cacheOk_iff _).2 ⟨hwf, hsh.alloc _ hset hin hno, fun l hl => ?_⟩
  rw [State.mc'_mc, alloc_base]
  exact h.alloc hno hb l hl

/-- What a write in the window leaves for its line, once the access has met it. -/
structure MetLine (s : State) (set tag a : Nat) (bs : Bytes) (u : State) : Prop where
  kept : KeptPastCache s u
  cl : u.cl = s.cl
  mem : u.dr.mem = memWrite s.dr.mem a bs
  base : u.mc.base = s.mc.base
  size : u.mc.size = s.mc.size
  agrees : CacheOk s → Memory.wf u.dr.mem = true ∧ u.mc.Shaped ∧ AgreesBut u set tag

theorem metLine {s v : State} {set tag a : Nat} {bs : Bytes} (hin : InLine s.mc.base set tag a bs.length) (hset : set < cacheSets)
    (hv : Kept (s.dramWrite a bs) v) (hcl : v.cl = s.cl) (hdr : v.dr = (s.dramWrite a bs).dr) (hmc : v.mc = s.mc) :
    MetLine s set tag a bs (v.readLine set tag).1 := by
  obtain ⟨hb, hs⟩ := readLine_base v set tag
  have hmem : (v.readLine set tag).1.dr.mem = memWrite s.dr.mem a bs := by rw [readLine_dr, hdr]; rfl
  refine ⟨?_, (readLine_cl v set tag).trans hcl, hmem, hb.trans (by rw [hmc]), hs.trans (by rw [hmc]), fun hc => ?_⟩
  · exact (KeptPastCache.memWrite (Kept.refl s).toKeptPastCache).kept (hv.readLine)
  · obtain ⟨hwf, hsh, -⟩ := (cacheOk_iff s).1 hc
    have hagree := AgreesBut.dramWrite hc hin hset
    refine ⟨hmem ▸ memWrite_wf bs a hwf, MapCachePart.Shaped.readLine (hmc ▸ hsh) set tag, AgreesBut.readLine ?_ set tag⟩
    unfold AgreesBut at *
    rw [hdr, hmc]
    exact hagree

theorem Kept.of_metLine {s₀ s u : State} (h : Kept s₀ s) {set tag a : Nat} {bs : Bytes} (hu : MetLine s set tag a bs u)
    {f : MapCachePart → MapCachePart} (hc : CacheOk s → CacheOk (u.mc' f)) : Kept s₀ (u.mc' f) :=
  h.trans ⟨⟨hu.kept.mc', hc⟩, by rw [State.mc'_cl, hu.cl]; exact (Kept.refl s).combs⟩

theorem Kept.cacheWrite {s₀ s : State} (h : Kept s₀ s) {a : Nat} {bs : Bytes} (hw : s.inWindow a = true)
    (hlen : (a - s.mc.base) % 256 + bs.length ≤ 256) : Kept s₀ (s.cacheWrite a bs) := by
  have hin : InLine s.mc.base (s.cacheAt a).1 (s.cacheAt a).2 a bs.length := by
    simp only [State.inWindow, Bool.and_eq_true, decide_eq_true_eq] at hw
    constructor <;> rw [← State.lineStart_eq, State.lineStart] <;> omega
  have hmet := metLine (v := s.dramWrite a bs) hin (s.cacheAt_lt a) (Kept.refl _) rfl rfl rfl
  have hno := @line_of_readLine_none (s.dramWrite a bs) (s.cacheAt a).1 (s.cacheAt a).2
  simp only [State.cacheWrite]
  generalize hx : (s.dramWrite a bs).readLine (s.cacheAt a).1 (s.cacheAt a).2 = x at hmet hno ⊢
  obtain ⟨u, _ | b⟩ := x
  · refine Kept.stat (h.of_metLine hmet (f := id) fun hc => ?_)
    obtain ⟨hwf, hsh, hag⟩ := hmet.agrees hc
    exact cacheOk_of_agreesBut_none hwf hsh hag (hno rfl)
  · refine Kept.stat (h.of_metLine hmet fun hc => ?_)
    obtain ⟨hwf, hsh, hag⟩ := hmet.agrees hc
    refine cacheOk_setLine hwf hsh hag ?_
    rw [hmet.mem, hmet.base, State.lineStart_eq]
    rfl

theorem Kept.cacheRead {s₀ s : State} (h : Kept s₀ s) {a : Nat} (hw : s.inWindow a = true) : Kept s₀ (s.cacheRead a) := by
  have hkept := h.readLine (set := (s.cacheAt a).1) (tag := (s.cacheAt a).2)
  have hno := @line_of_readLine_none s (s.cacheAt a).1 (s.cacheAt a).2
  obtain ⟨hb, hs⟩ := readLine_base s (s.cacheAt a).1 (s.cacheAt a).2
  have hdr := readLine_dr s (s.cacheAt a).1 (s.cacheAt a).2
  simp only [State.cacheRead]
  generalize s.readLine (s.cacheAt a).1 (s.cacheAt a).2 = x at hkept hno hb hs hdr ⊢
  obtain ⟨u, _ | b⟩ := x
  · dsimp only at hkept hno hb hs hdr ⊢
    split
    · exact hkept.stat.send
    · refine Kept.send (Kept.stat (hkept.mc' fun hc => ?_))
      obtain ⟨hwf, hsh, hall⟩ := (cacheOk_iff u).1 hc
      refine cacheOk_alloc hwf hsh (fun l hl _ => hall l hl) (s.cacheAt_lt a) ?_ (hno rfl) ?_
      · rw [hb, hs]
        exact State.lineStart_inside hw (by rw [← hs]; exact hsh.size)
      · rw [hdr, hb, State.lineStart_eq]
  · exact hkept.stat.send

theorem execMapCacheAccess_keeps (write : Bool) (a : Nat) (d : Bytes) (s : State) : Keeps s (execMapCacheAccess write a d s) := by
  have h := Kept.refl s
  unfold execMapCacheAccess
  split
  · exact .fault s _
  split
  next hout =>
    split
    · refine .ok (h.dramWrite_outside (by simpa using hout) ?_)
      rw [List.length_take]
      omega
    · exact .ok h.send
  next hin =>
    have hw : s.inWindow a = true := by simpa using hin
    split
    · refine .ok (h.cacheWrite hw ?_)
      rw [List.length_take]
      omega
    · exact .ok (h.cacheRead hw)

/-- A whole line written in the window, which is then present (R198). -/
theorem Kept.wholeLine {s₀ s : State} (h : Kept s₀ s) {a : Nat} {bs : Bytes} (hw : s.inWindow a = true) (hlen : bs.length = 256) :
    Kept s₀ (match ((s.dramWrite (s.lineStart a) bs).stat 0x0208 0 2 1).readLine (s.cacheAt a).1 (s.cacheAt a).2 with
      | (t, some _) => t.mc' (·.setLine (s.cacheAt a).1 (s.cacheAt a).2 bs)
      | (t, none) => t.mc' (·.alloc (s.cacheAt a).1 (s.cacheAt a).2 bs)) := by
  have hline : InLine s.mc.base (s.cacheAt a).1 (s.cacheAt a).2 (s.lineStart a) bs.length := by
    constructor <;> rw [State.lineStart_eq]
    rw [hlen]
  have hmet := metLine hline (s.cacheAt_lt a) (Kept.refl (s.dramWrite (s.lineStart a) bs) |>.stat (cls := 0x0208) (idx := 0) (pos := 2) (n := 1))
    (State.stat_cl ..) (State.stat_dr ..) (State.stat_mc ..)
  have hno := @line_of_readLine_none ((s.dramWrite (s.lineStart a) bs).stat 0x0208 0 2 1) (s.cacheAt a).1 (s.cacheAt a).2
  have hread (hwf : Memory.wf s.dr.mem = true) : bs = memRead (memWrite s.dr.mem (s.lineStart a) bs) (s.lineStart a) 256 := by
    rw [← hlen, memRead_memWrite hwf]
  generalize ((s.dramWrite (s.lineStart a) bs).stat 0x0208 0 2 1).readLine (s.cacheAt a).1 (s.cacheAt a).2 = x at hmet hno ⊢
  obtain ⟨u, _ | b⟩ := x
  · refine h.of_metLine hmet fun hc => ?_
    obtain ⟨hwf, hsh, hag⟩ := hmet.agrees hc
    refine cacheOk_alloc hwf hsh hag (s.cacheAt_lt a) ?_ (hno rfl) ?_
    · rw [hmet.base, hmet.size]
      exact State.lineStart_inside hw ((cacheOk_iff s).1 hc).2.1.size
    · rw [hmet.mem, hmet.base, ← State.lineStart_eq]
      exact hread hc.1
  · refine h.of_metLine hmet fun hc => ?_
    obtain ⟨hwf, hsh, hag⟩ := hmet.agrees hc
    refine cacheOk_setLine hwf hsh hag ?_
    rw [hmet.mem, hmet.base, ← State.lineStart_eq]
    exact hread hc.1

theorem Kept.dramLine_outside {s₀ s : State} (h : Kept s₀ s) {a : Nat} {bs : Bytes} (hout : s.inWindow a = false) (hlen : bs.length = 256) :
    Kept s₀ (s.dramWrite (a / 256 * 256) bs) := by
  refine h.dr'_of (fun hm => memWrite_wf bs _ hm) (fun hc => hc.dramWrite_outside ?_ (by rw [hlen]; omega))
  have hb := ((cacheOk_iff s).1 hc).2.1.base
  have hs := ((cacheOk_iff s).1 hc).2.1.size
  simp only [State.inWindow, Bool.and_eq_false_iff, decide_eq_false_iff_not] at hout ⊢
  omega

theorem execZeroLine_keeps (a : Nat) (s : State) : Keeps s (execZeroLine a s) := by
  have h := Kept.refl s
  have hz : (zeros 256).length = 256 := List.length_replicate
  unfold execZeroLine
  split
  · exact .fault s _
  split
  next hout => exact .ok (h.dramLine_outside (by simpa using hout) hz)
  next hin => exact .ok (h.wholeLine (by simpa using hin) hz)

end Sys2Proof.Machine

/-! PROOFS. What every command keeps, operation by operation, in the order of the model. -/

namespace Sys2Proof.Machine

-- A default argument that is a tactic is run once the kernel is done with all before it: theorem by theorem, no thread waits for that.
set_option Elab.async false

/-! ## The operations of Machine/Ops -/

theorem Kept.lastGasp {s₀ s : State} (h : Kept s₀ s) {code : Nat} {sev : Severity} {detail : Bytes} :
    Kept s₀ (s.lastGasp code sev detail) :=
  .send (.writeRec h)

theorem Kept.firstRecord {s₀ s : State} (h : Kept s₀ s) : Kept s₀ s.firstRecord := .writeRec h

theorem Kept.hive' {s₀ s : State} (hk : Kept s₀ s) {h : Nat} {f : Hive → Hive} : Kept s₀ (s.hive' h f) := .hv' hk

theorem Kept.link' {s₀ s : State} (h : Kept s₀ s) {l : Nat} {f : Link → Link} : Kept s₀ (s.link' l f) := .cl' h

theorem Kept.bridge' {s₀ s : State} (h : Kept s₀ s) {l : Nat} {f : Bridge → Bridge} (hf : ∀ b, SameComb b (f b)) :
    Kept s₀ (s.bridge' l f) :=
  h.cl'_of (forall₂_updFirst SameComb.refl hf _)

/-- What a port of a bridge is set to leaves its comb. -/
theorem SameComb.port' (b : Bridge) (d : Side) (f : BridgePort → BridgePort) : SameComb b (b.port' d f) := by
  cases d <;> exact ⟨rfl, rfl, rfl, rfl, rfl, rfl⟩

/-! ## The operations of Machine/ForageSend -/

theorem Kept.ctx' {s₀ s : State} (h : Kept s₀ s) {id : Nat} {f : Ctx → Ctx} : Kept s₀ (s.ctx' id f) := .fg' h

theorem Kept.path' {s₀ s : State} (h : Kept s₀ s) {id : Nat} {f : Path → Path} : Kept s₀ (s.path' id f) := .fg' h

theorem Kept.pathFor {s₀ s : State} (h : Kept s₀ s) {head : Nat} {fabric : Bool} : Kept s₀ (s.pathFor head fabric).1 := by
  unfold State.pathFor
  split
  · exact h
  · split
    · exact h
    · exact .pair (.fg' (.afterDraw h))

theorem Kept.sendPackets {s₀ s : State} (h : Kept s₀ s) {c : Ctx} {m : MsgOut} {pick : Nat → Bool} :
    Kept s₀ (s.sendPackets c m pick) := by
  unfold State.sendPackets
  split
  · exact h
  · split
    · exact .path' (.ite (.stat (.stat (.foldl h (fun _ _ h => .send h) _))) (.stat (.foldl h (fun _ _ h => .send h) _)))
    · exact h

theorem Kept.beginEntry {s₀ s : State} (h : Kept s₀ s) {c : Ctx} {e : WorkEntry} : Kept s₀ (s.beginEntry c e) :=
  .ite (.send (.path' (.ctx' h))) (.sendPackets (.ctx' h))

theorem Kept.ensurePath {s₀ s : State} (h : Kept s₀ s) {c : Ctx} : Kept s₀ (s.ensurePath c) := by
  unfold State.ensurePath
  refine .ite h ?_
  split
  · exact .ctx' (.of_eq ‹_› (.pathFor h))
  · exact .of_eq ‹_› (.pathFor h)

theorem Kept.pumpAux {s₀ s : State} (h : Kept s₀ s) {id n : Nat} : Kept s₀ (s.pumpAux id n) := by
  induction n generalizing s with
  | zero =>
    unfold State.pumpAux
    exact h
  | succ n ih =>
    unfold State.pumpAux
    split
    · exact h
    · split
      · exact h
      · dsimp only
        split
        · exact .ensurePath h
        · exact .ite (ih (.beginEntry (.ensurePath h))) (.ensurePath h)

theorem Kept.pump {s₀ s : State} (h : Kept s₀ s) {id : Nat} : Kept s₀ (s.pump id) := by
  unfold State.pump
  split
  · exact h
  · exact .pumpAux h

theorem Kept.pumpAll {s₀ s : State} (h : Kept s₀ s) : Kept s₀ s.pumpAll := .foldl h (fun _ _ h => .pumpAux h) _

theorem Kept.postEntry {s₀ s : State} (h : Kept s₀ s) {id : Nat} {e : WorkEntry} : Kept s₀ (s.postEntry id e) := by
  unfold State.postEntry
  split
  · exact h
  · exact .pump (.ctx' h)

/-! ## The operations of Machine/WaxOps -/

theorem Kept.mirrorPush {s₀ s : State} (h : Kept s₀ s) {ctx cookie len off : Nat} : Kept s₀ (s.mirrorPush ctx cookie len off) :=
  .postEntry h

theorem Kept.owe {s₀ s : State} (h : Kept s₀ s) {n : After} : Kept s₀ (s.owe n) := by
  unfold State.owe
  split
  · exact .replyTo h
  · exact h

theorem Kept.overwrite {s₀ s : State} (h : Kept s₀ s) {ring : WaxRing} {off u : Nat} : Kept s₀ (s.overwrite ring off u) := .wx' h

theorem Kept.writePad {s₀ s : State} (h : Kept s₀ s) {ring : WaxRing} {off u : Nat} : Kept s₀ (s.writePad ring off u) :=
  .ite (.mirrorPush (.stat (.stat (.wx' (.overwrite h))))) (.stat (.stat (.wx' (.overwrite h))))

theorem Kept.putRec {s₀ s : State} (h : Kept s₀ s) {domain : Nat} {cont : Bool} {body : RecBody} {after : List After} :
    Kept s₀ (s.putRec domain cont body after) := by
  unfold State.putRec
  refine .ite h (.ite (.mirrorPush (.stat (.stat (.wx' (.overwrite (.ite h ?_)))))) (.stat (.stat (.wx' (.overwrite (.ite h ?_))))))
  · split
    · exact .writePad h
    · exact h
  · split
    · exact .writePad h
    · exact h

theorem Kept.commitRec {s₀ s : State} (h : Kept s₀ s) {domain : Nat} {cont : Bool} {body : RecBody} {after : List After} :
    Kept s₀ (s.commitRec domain cont body after) :=
  .ite h (.ite (.wx' (.foldl h (fun _ _ h => .owe h) _)) (.putRec (.foldl h (fun _ _ h => .owe h) _)))

theorem Kept.writeLater {s₀ s : State} (h : Kept s₀ s) : Kept s₀ s.writeLater := .foldl (.wx' h) (fun _ _ h => .putRec h) _

theorem Kept.commit {s₀ s : State} (h : Kept s₀ s) {domain : Nat} {body : RecBody} {after : List After} :
    Kept s₀ (s.commit domain body after) :=
  .commitRec h

theorem Kept.control {s₀ s : State} (h : Kept s₀ s) {domain : Nat} {c : CtlChange} {after : List After} :
    Kept s₀ (s.control domain c after) :=
  .commit h

theorem Kept.mapChange {s₀ s : State} (h : Kept s₀ s) {domain : Nat} {items : List MapItem} {after : List After} :
    Kept s₀ (s.mapChange domain items after) :=
  .ite h (.commit h)

theorem Kept.refChange {s₀ s : State} (h : Kept s₀ s) {domain : Nat} {items : List RefItem} : Kept s₀ (s.refChange domain items) :=
  .ite h (.commit h)

theorem Kept.ringRelease {s₀ s : State} (h : Kept s₀ s) {ords : List Nat} : Kept s₀ (s.ringRelease ords) := .ite h (.commit h)

theorem Kept.commitChain {s₀ s : State} (h : Kept s₀ s) {domain : Nat} {after : List After} {l : List RecBody} :
    Kept s₀ (s.commitChain domain after l) := by
  induction l generalizing s with
  | nil => exact h
  | cons b l ih =>
    cases l with
    | nil => exact h.commitRec
    | cons c l => exact ih h.commitRec

theorem Kept.writeEntry {s₀ s : State} (h : Kept s₀ s) {e : JournalEntry} : Kept s₀ (s.writeEntry e) :=
  .ite (.mirrorPush (.stat (.wx' h))) (.stat (.wx' h))

theorem Kept.journal {s₀ s : State} (h : Kept s₀ s) {kind ord : Nat} {body : List Nat} {members : List Member} :
    Kept s₀ (s.journal kind ord body members) := by
  unfold State.journal
  refine .writeEntry ?_
  split
  · exact .writeEntry h
  · exact h

theorem Kept.judgeRings {s₀ s : State} (h : Kept s₀ s) : Kept s₀ s.judgeRings :=
  .ite (.ev0 (.md' (.ite (.ev0 (.md' h)) (.ite (.ev0 (.md' h)) h)))) (.ite (.md' (.ite (.ev0 (.md' h)) (.ite (.ev0 (.md' h)) h))) (.ite
    (.ev0 (.md' h)) (.ite (.ev0 (.md' h)) h)))

/-! ## The operations of Machine/Tables2 -/

theorem Kept.chunk' {s₀ s : State} (h : Kept s₀ s) {id : Nat} {f : Chunk → Chunk} : Kept s₀ (s.chunk' id f) := .rd' h

theorem Kept.putChunk {s₀ s : State} (h : Kept s₀ s) {c : Chunk} : Kept s₀ (s.putChunk c) := .rd' h

theorem Kept.addRef {s₀ s : State} (h : Kept s₀ s) {id : Nat} {delta : Int} : Kept s₀ (s.addRef id delta) := .ite h (.chunk' h)

theorem Kept.stripe' {s₀ s : State} (h : Kept s₀ s) {ord : Nat} {f : Stripe → Stripe} : Kept s₀ (s.stripe' ord f) := .sp' h

theorem Kept.addLive {s₀ s : State} (h : Kept s₀ s) {ord : Nat} {n : Int} : Kept s₀ (s.addLive ord n) := .stripe' h

theorem Kept.set' {s₀ s : State} (h : Kept s₀ s) {link die block : Nat} {f : BlockSet → BlockSet} :
    Kept s₀ (s.set' link die block f) :=
  .me' h

theorem Kept.holdUnits {s₀ s : State} (h : Kept s₀ s) {ms : List Member} {n : Int} : Kept s₀ (s.holdUnits ms n) :=
  .foldl h (fun _ _ h => .set' h) _

theorem Kept.dropFp {s₀ s : State} (h : Kept s₀ s) {chunk : Nat} : Kept s₀ (s.dropFp chunk) := .rd' h

theorem Kept.evictKeys {s₀ s : State} (h : Kept s₀ s) {keep : Nat} : Kept s₀ (s.evictKeys keep) := by
  unfold State.evictKeys
  exact .ite h (.stat (.ks' h))

theorem Kept.beginFilter {s₀ s : State} (h : Kept s₀ s) : Kept s₀ s.beginFilter := .ev0 (.rd' h)

theorem Kept.restartFilter {s₀ s : State} (h : Kept s₀ s) : Kept s₀ s.restartFilter := .beginFilter (.rd' h)

theorem Kept.releaseStripe {s₀ s : State} (h : Kept s₀ s) {ord : Nat} : Kept s₀ (s.releaseStripe ord) := by
  unfold State.releaseStripe
  split
  · exact h
  · exact .ite h (.rd' (.stripe' (.holdUnits h)))

theorem Kept.page' {s₀ s : State} (h : Kept s₀ s) {d key : Nat} {f : MapPage → MapPage} : Kept s₀ (s.page' d key f) := .vo' h

theorem Kept.addPage {s₀ s : State} (h : Kept s₀ s) {p : MapPage} : Kept s₀ (s.addPage p) := .vo' h

theorem Kept.shareKids {s₀ s : State} (h : Kept s₀ s) {d : Nat} {kids : List (Nat × Nat)} : Kept s₀ (s.shareKids d kids) :=
  .foldl h (fun _ _ h => .page' h) _

theorem Kept.ownPage {s₀ s : State} (h : Kept s₀ s) {d key : Nat} : Kept s₀ (s.ownPage d key).1 := by
  unfold State.ownPage
  split
  · exact h
  · exact .fst_ite h (.pair (.ite (.foldl (.addPage (.page' h)) (fun _ _ h => .addRef h) _) (.shareKids (.addPage (.page' h)))))

theorem Kept.setLeaf {s₀ s : State} (h : Kept s₀ s) {d key k chunk : Nat} {zero : Bool} : Kept s₀ (s.setLeaf d key k chunk zero) := by
  unfold State.setLeaf
  split
  · exact h
  · exact .addRef (.addRef (.page' h))

theorem Kept.mapSet {s₀ s : State} (h : Kept s₀ s) {d n key k chunk : Nat} {zero : Bool} :
    Kept s₀ (s.mapSet d n key k chunk zero).1 := by
  induction n generalizing s key with
  | zero =>
    unfold State.mapSet
    split
    · exact .pair (.setLeaf (.of_eq ‹_› (.ownPage h)))
  | succ n ih =>
    unfold State.mapSet
    split
    · dsimp only
      refine .page' (ih ?_)
      split
      · exact .pair (.of_eq ‹_› (.ownPage h))
      · exact .pair (.addPage (.of_eq ‹_› (.ownPage h)))

theorem Kept.ns' {s₀ s : State} (h : Kept s₀ s) {nsid : Nat} {f : Namespace → Namespace} : Kept s₀ (s.ns' nsid f) := .vo' h

theorem Kept.domain' {s₀ s : State} (h : Kept s₀ s) {d : Nat} {f : Domain → Domain} : Kept s₀ (s.domain' d f) := .vo' h

theorem Kept.nsSet {s₀ s : State} (h : Kept s₀ s) {nsid k chunk : Nat} {zero : Bool} : Kept s₀ (s.nsSet nsid k chunk zero) := by
  unfold State.nsSet
  split
  · exact h
  · split
    · exact .ns' (.of_eq ‹_› (.mapSet h))

theorem Kept.growTree {s₀ s : State} (h : Kept s₀ s) {d n n' : Nat} : Kept s₀ (s.growTree d n n').1 := by
  induction n generalizing s n' with
  | zero =>
    unfold State.growTree
    exact h
  | succ n ih =>
    unfold State.growTree
    exact ih (.addPage h)

theorem Kept.copyRoot {s₀ s : State} (h : Kept s₀ s) {d root : Nat} : Kept s₀ (s.copyRoot d root).1 := by
  unfold State.copyRoot
  split
  · exact h
  · exact .pair (.shareKids (.addPage h))

theorem Kept.snapFreeze {s₀ s : State} (h : Kept s₀ s) {nsid snap tick : Nat} {label : Bytes} :
    Kept s₀ (s.snapFreeze nsid snap tick label) := by
  unfold State.snapFreeze
  split
  · exact h
  · refine .ite h ?_
    split
    · exact .ns' (.vo' (.of_eq ‹_› (.copyRoot h)))

theorem Kept.nsClone {s₀ s : State} (h : Kept s₀ s) {src snap new : Nat} : Kept s₀ (s.nsClone src snap new) := by
  unfold State.nsClone
  split
  · refine .ite h ?_
    split
    · exact .vo' (.of_eq ‹_› (.copyRoot h))
  · exact h

theorem Kept.treeDrop {s₀ s : State} (h : Kept s₀ s) {nsid snap : Nat} : Kept s₀ (s.treeDrop nsid snap) := by
  unfold State.treeDrop
  split
  · exact h
  · refine .ite (.vo' h) ?_
    split
    · exact .vo' h
    · exact h

theorem Kept.pageDrop {s₀ s : State} (h : Kept s₀ s) {d key : Nat} : Kept s₀ (s.pageDrop d key) := by
  unfold State.pageDrop
  split
  · exact .ite (.page' (.vo' h)) (.ite (.foldl (.vo' (.vo' h)) (fun _ _ h => .addRef h) _) (.vo' (.vo' (.vo' h))))
  · exact .vo' h
  · exact h

theorem Kept.ledgerAdd {s₀ s : State} (h : Kept s₀ s) {e : LedgerEntry} : Kept s₀ (s.ledgerAdd e) :=
  .ite (.ev0 (.ite (.ev0 (.vo' (.vo' h))) (.vo' h))) (.ite (.ev0 (.vo' (.vo' h))) (.vo' h))

theorem Kept.ledgerKeep {s₀ s : State} (h : Kept s₀ s) {p : LedgerEntry → Bool} : Kept s₀ (s.ledgerKeep p) :=
  .ite (.ev0 (.vo' (.vo' h))) (.vo' h)

theorem Kept.ledgerDrop {s₀ s : State} (h : Kept s₀ s) {d : Nat} {old : Place} : Kept s₀ (s.ledgerDrop d old) := .ledgerKeep h

theorem Kept.withLink {s₀ s : State} (h : Kept s₀ s) {link : Nat} : Kept s₀ (s.withLink link) := .ite h (.cl' h)

/-! ## The operations of Machine/Apply -/

theorem Kept.obj' {s₀ s : State} (h : Kept s₀ s) {key : Nat} {f : Obj → Obj} : Kept s₀ (s.obj' key f) := .ob' h

theorem Kept.shipAppend {s₀ s : State} (h : Kept s₀ s) {head ord tick domain : Nat} {items : List ShipItem} {chunks : List Nat} :
    Kept s₀ (s.shipAppend head ord tick domain items chunks) :=
  .foldl h (fun _ _ h => .ite (.ite h (.rp' (.foldl h (fun _ _ h => .addRef h) _))) h) _

theorem Kept.shipTrim {s₀ s : State} (h : Kept s₀ s) {g seq : Nat} : Kept s₀ (s.shipTrim g seq) := by
  unfold State.shipTrim
  split
  · exact h
  · exact .rp' (.foldl h (fun _ _ h => .addRef h) _)

theorem Kept.dropBase {s₀ s : State} (h : Kept s₀ s) {g : Nat} : Kept s₀ (s.dropBase g) := by
  unfold State.dropBase
  split
  · exact h
  · exact .rp' (.foldl h (fun _ _ h => .addRef h) _)

theorem Kept.addNs {s₀ s : State} (h : Kept s₀ s) {domain nsid size : Nat} {mode : Discard} :
    Kept s₀ (s.addNs domain nsid size mode) := by
  unfold State.addNs
  refine .ite h ?_
  dsimp only
  exact .vo' (.growTree (.addPage h))

theorem Kept.resizeNs {s₀ s : State} (h : Kept s₀ s) {nsid size : Nat} : Kept s₀ (s.resizeNs nsid size) := by
  unfold State.resizeNs
  split
  · exact h
  · dsimp only
    exact .ns' (.growTree h)

theorem Kept.dropObjs {s₀ s : State} (h : Kept s₀ s) {d : Nat} : Kept s₀ (s.dropObjs d) := by
  unfold State.dropObjs
  exact .ob' (.foldl h (fun _ _ h => .addRef h) _)

theorem Kept.dropDomain {s₀ s : State} (h : Kept s₀ s) {d : Nat} : Kept s₀ (s.dropDomain d) := by
  unfold State.dropDomain
  exact .pr' (.vk' (.ledgerKeep (.vo' (.dropObjs (.foldl h (fun _ _ h => .treeDrop (.foldl h (fun _ _ h => .treeDrop h) _)) _)))))

theorem Kept.addDomain {s₀ s : State} (h : Kept s₀ s) {d : Nat} {side : Side} {horizon : Nat} {replica : Bool} :
    Kept s₀ (s.addDomain d side horizon replica) :=
  .ite h (.pr' (.vo' h))

theorem Kept.unlive {s₀ s : State} (h : Kept s₀ s) {c : Chunk} : Kept s₀ (s.unlive c) := .ite (.addLive h) h

theorem Kept.placeChunk {s₀ s : State} (h : Kept s₀ s) {id domain tick : Nat} {new : Place} {len hive : Nat} {old : Place} :
    Kept s₀ (s.placeChunk id domain tick new len hive old) := by
  unfold State.placeChunk
  dsimp only
  split
  · exact .stripe' h
  · exact .ite (.ite (.ledgerAdd (.chunk' (.addLive (.addLive (.stripe' h))))) (.chunk' (.addLive (.addLive (.stripe' h))))) (.stripe' h)

theorem Kept.objectCreate {s₀ s : State} (h : Kept s₀ s) {d key top len tick : Nat} {token digest : Bytes} {multi : Bool} :
    Kept s₀ (s.objectCreate d key top len tick token digest multi) :=
  .ite (.obj' h) (.ob' h)

theorem Kept.nsZeros {s₀ s : State} (h : Kept s₀ s) {nsid n n' : Nat} : Kept s₀ (s.nsZeros nsid n n') := by
  induction n' generalizing s n with
  | zero =>
    unfold State.nsZeros
    exact h
  | succ n' ih =>
    unfold State.nsZeros
    exact ih (.nsSet h)

theorem Kept.blockState {s₀ s : State} (h : Kept s₀ s) {link die block : Nat} {st : BlockState} {qlc : Bool} {use : BlockUse} {pe grown :
  Nat} :
    Kept s₀ (s.blockState link die block st qlc use pe grown) :=
  .ite (.set' h) (.me' h)

theorem Kept.mapItem {s₀ s : State} (h : Kept s₀ s) {sd : Side} {tick : Nat} {n : MapItem} : Kept s₀ (s.mapItem sd tick n) := by
  unfold State.mapItem
  split
  · exact .placeChunk h
  · split
    · exact h
    · exact .ite (.rd' (.dropFp (.chunk' (.ite h (.unlive h))))) (.ite (.rd' (.chunk' (.ite h (.unlive h)))) (.chunk' (.ite h (.unlive
        h))))
  · split
    · exact h
    · exact .rd' (.chunk' (.unlive h))
  · exact .nsSet h
  · exact .nsZeros h
  · exact .ite h (.rd' h)
  · exact .rd' h
  · exact .ledgerDrop h
  · exact .blockState h
  · exact .releaseStripe h
  · exact .snapFreeze h
  · exact .treeDrop h
  · exact .pageDrop h
  · exact .nsClone h
  · exact .ite (.me' h) h
  · exact .objectCreate h
  · exact .obj' h
  · exact .obj' h
  · refine .ob' ?_
    split
    · exact .ite (.obj' h) h
    · exact h
  · split
    · exact h
    · exact .ob' (.foldl h (fun _ _ h => .addRef h) _)

theorem Kept.shipItem {s₀ s : State} (h : Kept s₀ s) {tick : Nat} {tops : List (Bytes × List Nat)} {n : ShipItem} :
    Kept s₀ (s.shipItem tick tops n) := by
  unfold State.shipItem
  split
  · split
    · exact .nsSet h
    · exact .ite (.nsSet h) h
  · exact .nsZeros h
  · exact .snapFreeze h
  · exact .nsClone h
  · exact .treeDrop h
  · split
    · exact .foldl (.objectCreate h) (fun _ _ h => .addRef h) _
    · exact h
  · split
    · exact .mapItem h
    · exact h
  · exact .addNs h
  · exact .resizeNs h
  · exact h
  · exact .vk' h
  · exact .ks' h

theorem Kept.switchBase {s₀ s : State} (h : Kept s₀ s) {r : Replica} {seq ord src tick : Nat} :
    Kept s₀ (s.switchBase r seq ord src tick) := by
  unfold State.switchBase
  exact .rp' (.foldl (.ite (.foldl h (fun _ _ h => .dropObjs (.foldl h (fun _ _ h => .treeDrop (.foldl h (fun _ _ h => .treeDrop h) _))
    _)) _) h) (fun _ _ h => .foldl h (fun _ _ h => .shipItem h) _) _)

theorem Kept.applySetting {s₀ s : State} (h : Kept s₀ s) {i : Item} : Kept s₀ (s.applySetting i) := .ite h (.vk' h)

theorem Kept.shipSettings {s₀ s : State} (h : Kept s₀ s) {head ord tick : Nat} {items : List Item} :
    Kept s₀ (s.shipSettings head ord tick items) :=
  .foldl h (fun _ _ h => .ite (.shipAppend h) h) _

theorem Kept.reseal {s₀ s : State} (h : Kept s₀ s) : Kept s₀ s.reseal := (h.ks'_of (Nat.le_succ _)).stat

theorem Kept.takeApiary {s₀ s : State} (h : Kept s₀ s) {a : Nat} : Kept s₀ (s.takeApiary a) := .ite h (.fg' (.pr' h))

theorem Kept.applyCtl {s₀ s : State} (h : Kept s₀ s) {sd : Side} {ord tick : Nat} {n : CtlChange} :
    Kept s₀ (s.applyCtl sd ord tick n) := by
  unfold State.applyCtl
  split
  · exact .addDomain h
  · exact .dropDomain h
  · exact .shipAppend (.addNs h)
  · exact .treeDrop (.foldl h (fun _ _ h => .treeDrop h) _)
  · exact .shipAppend (.resizeNs h)
  · exact .shipAppend h
  · exact .ite (.stat (.ks' (.reseal h))) h
  · exact .ite (.wx' h) h
  · exact .rp' h
  · exact .rp' (.dropBase (.shipTrim h))
  · exact .rp' h
  · exact .rp' (.dropBase h)
  · exact .rp' (.foldl h (fun _ _ h => .addDomain h) _)
  · exact .rp' h
  · split
    · exact h
    · exact .rp' (.foldl h (fun _ _ h => .domain' h) _)
  · exact .ite h (.pr' h)
  · exact .ite h (.pr' h)
  · exact .up' h
  · exact .takeApiary (.co' h)
  · exact .takeApiary (.co' h)
  · exact .takeApiary (.co' h)
  · exact .co' h
  · exact .co' h
  · exact .co' h
  · exact .co' h
  · exact .co' h
  · exact .co' h
  · exact .co' h
  · exact .vk' h

theorem Kept.applyKey {s₀ s : State} (h : Kept s₀ s) {ord tick : Nat} {sd : Side} {kind : KeyChangeKind} {cls domain dgen : Nat} {body :
  Option DomainKeys} {ckey : Bytes} :
    Kept s₀ (s.applyKey ord tick sd kind cls domain dgen body ckey) := by
  have hcount := h.pr' (f := fun p => { p with vaultCount := p.vaultCount + 1 })
  unfold State.applyKey
  dsimp only
  split
  · split
    · exact .evictKeys (hcount.ks')
    · exact hcount
  · split
    · exact .shipAppend (.evictKeys (hcount.ks'))
    · exact hcount
  · exact .domain' (hcount.ks')
  · exact hcount.ks'
  · refine .reseal (.ks' hcount.co' fun _ => ?_)
    split
    · rfl
    split
    · rfl
    split <;> rfl
  · exact hcount
  · exact .reseal (.ks' (.ite hcount.ck' hcount))

theorem Kept.applyPut {s₀ s : State} (h : Kept s₀ s) {sd : Side} {ord tick : Nat} {d : PutDesc} :
    Kept s₀ (s.applyPut sd ord tick d) := by
  unfold State.applyPut
  refine .ite (.rd' h) (.ite (.ob' (.rd' h)) (.ite (.ob' (.obj' ?_)) ?_))
  · split
    · exact .obj' (.rd' h)
    · exact .ob' (.rd' h)
  · split
    · exact .obj' (.rd' h)
    · exact .ob' (.rd' h)

theorem Kept.enterChunk {s₀ s : State} (h : Kept s₀ s) {ord hive : Nat} {e : EnvEntry} : Kept s₀ (s.enterChunk ord hive e) :=
  .ite (.rd' (.putChunk h)) (.putChunk h)

theorem Kept.addStripe {s₀ s : State} (h : Kept s₀ s) {sd : Side} {ord hive : Nat} {region : Region} {purpose : Purpose} {ms : List
  Member} {used epoch live openTick commitOrd tick : Nat} {envs : List EnvEntry} :
    Kept s₀ (s.addStripe sd ord hive region purpose ms used epoch live openTick commitOrd tick envs) :=
  .holdUnits (.sp' h)

theorem Kept.applyStripe {s₀ s : State} (h : Kept s₀ s) {sd : Side} {rec tick ord hive : Nat} {region : Region} {purpose : Purpose} {ms :
  List Member} {used epoch : Nat} {envs : List EnvEntry} {openTick : Nat} :
    Kept s₀ (s.applyStripe sd rec tick ord hive region purpose ms used epoch envs openTick) := by
  unfold State.applyStripe
  split
  · exact .foldl (.addStripe h) (fun _ _ h => .enterChunk h) _
  · exact .addStripe h
  · exact .addStripe h
  · exact .addStripe h
  · exact .addStripe h
  · split
    · exact h
    · exact .stripe' (.holdUnits (.holdUnits h))
  · refine .foldl (.stripe' h) (fun _ _ h => ?_) _
    split
    · exact .chunk' (.unlive h)
    · exact h
  · exact .ite (.sp' h) h
  · exact h

theorem Kept.giveUnits {s₀ s : State} (h : Kept s₀ s) {units : List OwnUnit} {sd : Side} : Kept s₀ (s.giveUnits units sd) := by
  unfold State.giveUnits
  refine .foldl h (fun _ _ h => ?_) _
  split
  · exact .domain' (.pr' h)
  · exact .ite (.hive' (.pr' h)) (.hv' (.hive' (.pr' h)))
  · exact .pr' h

theorem Kept.endFrame {s₀ s : State} (h : Kept s₀ s) {id status : Nat} : Kept s₀ (s.endFrame id status) := .vk' h

theorem Kept.notePeer {s₀ s : State} (h : Kept s₀ s) {items : List Item} : Kept s₀ (s.notePeer items) :=
  .foldl h (fun _ _ h => .ite (.pr' h) (.ite (.pr' h) h)) _

theorem Kept.peerSchedules {s₀ s : State} (h : Kept s₀ s) {f : Frame} : Kept s₀ (s.peerSchedules f) := .vk' h

theorem Kept.peerFrameEnds {s₀ s : State} (h : Kept s₀ s) {head ord tick id status : Nat} :
    Kept s₀ (s.peerFrameEnds head ord tick id status) :=
  .ite (.shipSettings (.notePeer (.foldl (.vk' h) (fun _ _ h => .applySetting h) _))) (.ite (.endFrame (.vk' h)) (.vk' h))

theorem Kept.endReleased {s₀ s : State} (h : Kept s₀ s) {chunk : Nat} {delta : Int} : Kept s₀ (s.endReleased chunk delta) := by
  unfold State.endReleased
  split
  · exact h
  · exact .ite (.ob' (.ob' h)) (.ob' h)

theorem Kept.shipMap {s₀ s : State} (h : Kept s₀ s) {sd : Side} {ord tick domain : Nat} {items : List MapItem} :
    Kept s₀ (s.shipMap sd ord tick domain items) :=
  .shipAppend h

theorem Kept.applyBody {s₀ s : State} (h : Kept s₀ s) {sd : Side} {ord tick domain : Nat} {continued : Bool} {n : RecBody} :
    Kept s₀ (s.applyBody sd ord tick domain continued n) := by
  unfold State.applyBody
  split
  · exact h
  · exact .ite h (.applyPut h)
  · exact .applyCtl h
  · exact .applyStripe h
  · exact .sp' (.link' (.ite (.link' (.ite (.ite (.me' h) h) (.cl' (.ite (.me' h) h)))) (.ite (.ite (.me' h) h) (.cl' (.ite (.me' h)
      h)))))
  · exact .foldl (.shipMap h) (fun _ _ h => .mapItem h) _
  · exact .foldl h (fun _ _ h => .endReleased (.addRef h)) _
  · exact .ite (.rd' h) h
  · exact .ite (.wx' h) (.wx' h)
  · exact h
  · exact .ite (.vk' h) (.peerSchedules h)
  · exact .vk' h
  · refine .ite ?_ (.peerFrameEnds h)
    split
    · exact h
    · exact .endFrame (.ite (.shipSettings (.ite (.foldl h (fun _ _ h => .applySetting h) _) h)) (.ite (.foldl h (fun _ _ h =>
        .applySetting h) _) h))
  · exact .ite (.pr' h) h
  · exact h
  · exact .pr' (.ite (.co' (.ite h (.giveUnits h))) (.ite (.co' (.ite h (.giveUnits h))) (.ite h (.giveUnits h))))
  · exact .applyKey h
  · refine .ite (.rp' (.shipTrim (.ite (.dropBase h) h))) (.ite (.rp' h) ?_)
    split
    · exact .switchBase h
    · exact h

/-! ## The operations of Machine/BootOps -/

/-- The ledger takes a record of the next sequence, and lets its oldest go where it is full (R617). -/
theorem LedgerOk.push {s t : State} {r : LedgerRec} (h : LedgerOk s) (hr : r.seq = s.bt.ledgerSeq) (ht : t.bt.tallies = s.bt.tallies)
    (hl : t.bt.ledger = (if s.bt.ledger.length ≥ 16384 then s.bt.ledger.drop 1 else s.bt.ledger) ++ [r])
    (hs : t.bt.ledgerSeq = s.bt.ledgerSeq + 1 := by rfl) : LedgerOk t := by
  obtain ⟨h1, h2, h3, h4⟩ := h
  refine ⟨ht ▸ h1, ht ▸ h2, ?_, fun i hi => ?_⟩
  · rw [hl]
    split <;> simp <;> omega
  · simp only [hl, hs] at hi ⊢
    split at hi
    next hfull =>
      simp only [if_pos hfull, List.length_append, List.length_drop, List.length_singleton] at hi ⊢
      obtain hlt | heq : i < s.bt.ledger.length - 1 ∨ i = s.bt.ledger.length - 1 := by omega
      · rw [List.getElem_append_left (by simpa using hlt), List.getElem_drop]
        have := h4 (1 + i) (by omega)
        omega
      · rw [List.getElem_append_right (by simp [heq])]
        simp only [List.length_drop, heq, Nat.sub_self, List.getElem_singleton, hr]
        omega
    next hroom =>
      simp only [if_neg hroom, List.length_append, List.length_singleton] at hi ⊢
      obtain hlt | heq : i < s.bt.ledger.length ∨ i = s.bt.ledger.length := by omega
      · rw [List.getElem_append_left hlt]
        have := h4 i hlt
        omega
      · subst heq
        rw [List.getElem_append_right le_rfl]
        simp only [Nat.sub_self, List.getElem_singleton, hr]
        omega

theorem Kept.ledgerRec {s₀ s : State} (h : Kept s₀ s) {kind step outcome attempt failCode dur : Nat} {detail : Bytes} :
    Kept s₀ (s.ledgerRec kind step outcome attempt failCode dur detail) := by
  refine Kept.stat (h.bt'_of (fun hs => ?_) (Nat.le_succ _) le_rfl le_rfl)
  exact hs.push rfl rfl rfl

theorem Kept.bankSelect {s₀ s : State} (h : Kept s₀ s) {bank state fallback version tick : Nat} :
    Kept s₀ (s.bankSelect bank state fallback version tick) :=
  .ledgerRec h

/-! ## The tallies (R636) -/

theorem length_shaRound {w : Nat} (f g : BitVec w → BitVec w) (v : List (BitVec w)) (k : BitVec w) :
    (shaRound f g v k).length = v.length := by
  unfold shaRound
  split <;> rfl

theorem length_sha512Block {h : List (BitVec 64)} (hh : h.length = 8) (b : Bytes) : (sha512Block h b).length = 8 := by
  unfold sha512Block
  simp only [List.length_zipWith, hh]
  refine (Nat.min_eq_right (le_of_eq ?_)).trans ?_ <;>
    exact List.foldlRecOn (motive := fun v : List (BitVec 64) => v.length = 8) _ _ hh fun v hv k _ => (length_shaRound _ _ v k).trans hv

theorem length_sha384 (m : Bytes) : (sha384 m).length = 48 := by
  have hlen : ((pieces 128 (shaPad 128 16 m)).foldl sha512Block sha384H).length = 8 :=
    List.foldlRecOn (motive := fun v : List (BitVec 64) => v.length = 8) _ _ (by decide +kernel) fun v hv b _ => length_sha512Block hv b
  have hword (x : BitVec 64) : (be 8 x.toNat).length = 8 := by simp [be, le]
  simp [sha384, List.length_flatMap, hword, hlen]

theorem Kept.extend {s₀ s : State} (h : Kept s₀ s) {tally step source index : Nat} {obj : Bytes} :
    Kept s₀ (s.extend tally step source index obj) := by
  simp only [State.extend]
  refine h.bt'_of (fun hok => ?_) le_rfl le_rfl le_rfl
  obtain ⟨h1, h2, h3⟩ := hok
  refine ⟨?_, fun t ht => ?_, h3⟩
  · exact (List.length_set ..).trans h1
  · obtain ht | rfl := List.mem_or_eq_of_mem_set ht
    · exact h2 t ht
    · exact length_sha384 _

theorem Kept.silence {s₀ s : State} (h : Kept s₀ s) : Kept s₀ s.silence := .pw' h

theorem SealPart.reset_inBits : SealPart.reset.InBits := by
  unfold SealPart.InBits
  decide

theorem SidebandPart.reset_inBits : SidebandPart.reset.InBits := by
  unfold SidebandPart.InBits
  decide

/-- A reset empties what the invariants look at, or leaves it (R617, R712, R741). -/
theorem resetDevice_kept (s : State) (cause : Nat) : Kept s (s.resetDevice cause) where
  sessions _ := ⟨Nat.zero_le _, Nat.zero_le _, List.nodup_nil, nofun⟩
  memory _ := rfl
  recorder _ := fun ⟨_, _, _, _, _, _, h⟩ => ⟨Nat.zero_le _, nofun, Nat.zero_le _, nofun, nofun, fun hw => absurd rfl hw, h⟩
  ledger h := h.congr rfl rfl rfl
  counters h c hc := h c (List.mem_of_mem_filter hc)
  regs h := (regsOk_iff _).2 ⟨((regsOk_iff s).1 h).1, SealPart.reset_inBits⟩
  device := rfl
  numbers := le_rfl
  cache _ := ⟨rfl, rfl, rfl, List.nodup_nil, List.nodup_nil, nofun⟩
  combs := List.forall₂_same.2 fun b _ => .refl b

theorem Kept.resetDevice {s₀ s : State} (h : Kept s₀ s) {cause : Nat} : Kept s₀ (s.resetDevice cause) :=
  h.trans (resetDevice_kept s cause)

theorem Kept.resetNow {s₀ s : State} (h : Kept s₀ s) {cause : Nat} : Kept s₀ (s.resetNow cause) := .resetDevice (.send h)

theorem Kept.fatalStop {s₀ s : State} (h : Kept s₀ s) {code : Nat} {detail : Bytes} : Kept s₀ (s.fatalStop code detail) :=
  .md' (.silence (.lastGasp h))

/-! ## The operations of Machine/NvOps -/

theorem Kept.cqe {s₀ s : State} (h : Kept s₀ s) {ctrl qid cid sct sc : Nat} {dnr : Bool} {dw0 : BitVec 32} {data : Bytes} :
    Kept s₀ (s.cqe ctrl qid cid sct sc dnr dw0 data) :=
  .ite (.send h) h

theorem Kept.dropCmd {s₀ s : State} (h : Kept s₀ s) {ctrl qid cid : Nat} : Kept s₀ (s.dropCmd ctrl qid cid) := .nv' h

theorem Kept.stream' {s₀ s : State} (h : Kept s₀ s) {key id : Nat} {f : OStream → OStream} : Kept s₀ (s.stream' key id f) := .nv' h

theorem Kept.drainStream {s₀ s : State} (h : Kept s₀ s) {key id n : Nat} : Kept s₀ (s.drainStream key id n) := by
  induction n generalizing s with
  | zero =>
    unfold State.drainStream
    exact h
  | succ n ih =>
    unfold State.drainStream
    split
    · exact h
    · split
      · exact ih (.dropCmd (.cqe h))
      · exact h

theorem Kept.endCmd {s₀ s : State} (h : Kept s₀ s) {ctrl qid cid dw0 : Nat} : Kept s₀ (s.endCmd ctrl qid cid dw0) := by
  unfold State.endCmd
  split
  · exact .cqe h
  · split
    · exact .dropCmd (.cqe h)
    · split
      · exact .dropCmd (.cqe h)
      · exact .ite (.drainStream (.dropCmd (.cqe h))) (.nv' h)

theorem Kept.failCmd {s₀ s : State} (h : Kept s₀ s) {ctrl qid cid sct sc : Nat} {dnr : Bool} :
    Kept s₀ (s.failCmd ctrl qid cid sct sc dnr) :=
  .dropCmd (.cqe h)

theorem Kept.ctrl' {s₀ s : State} (h : Kept s₀ s) {id : Nat} {f : Ctrl → Ctrl} : Kept s₀ (s.ctrl' id f) := .nv' h

theorem Kept.aerOne {s₀ s : State} (h : Kept s₀ s) {id n : Nat} : Kept s₀ (s.aerOne id n) := by
  induction n generalizing s with
  | zero =>
    unfold State.aerOne
    exact h
  | succ n ih =>
    unfold State.aerOne
    split
    · exact h
    · split
      · exact ih (.cqe (.ctrl' h))
      · exact h

theorem Kept.aerPump {s₀ s : State} (h : Kept s₀ s) : Kept s₀ s.aerPump := .foldl h (fun _ _ h => .aerOne h) _

theorem Kept.aerDomain {s₀ s : State} (h : Kept s₀ s) {domain : Nat} {f : Aer → Aer} : Kept s₀ (s.aerDomain domain f) := .nv' h

theorem Kept.raiseNs {s₀ s : State} (h : Kept s₀ s) {domain nsid : Nat} : Kept s₀ (s.raiseNs domain nsid) := .aerPump (.aerDomain h)

theorem Kept.raiseAna {s₀ s : State} (h : Kept s₀ s) {domain : Nat} : Kept s₀ (s.raiseAna domain) := .aerPump (.aerDomain h)

theorem Kept.raiseSmart {s₀ s : State} (h : Kept s₀ s) {domain : Nat} : Kept s₀ (s.raiseSmart domain) := .aerPump (.aerDomain h)

/-! ## The operations of Machine/Accept -/

theorem Kept.judgeFlash {s₀ s : State} (h : Kept s₀ s) : Kept s₀ s.judgeFlash := by
  unfold State.judgeFlash
  exact .wx' h

theorem Kept.releaseDone {s₀ s : State} (h : Kept s₀ s) {ords : List Nat} : Kept s₀ (s.releaseDone ords) := .ringRelease (.wx' h)

theorem Kept.addPending {s₀ s : State} (h : Kept s₀ s) {items : List (Nat × MapItem)} : Kept s₀ (s.addPending items) := .rd' h

theorem Kept.flushMap {s₀ s : State} (h : Kept s₀ s) : Kept s₀ s.flushMap := by
  unfold State.flushMap
  split
  · exact .foldl (.rd' h) (fun _ _ h => .rd' (.mapChange h)) _

theorem Kept.judgeJournal {s₀ s : State} (h : Kept s₀ s) : Kept s₀ s.judgeJournal := by
  unfold State.judgeJournal
  exact .wx' h

theorem Kept.frame' {s₀ s : State} (h : Kept s₀ s) {id : Nat} {peer : Bool} {f : Frame → Frame} : Kept s₀ (s.frame' id peer f) := .vk' h

theorem Kept.frameScheduled {s₀ s : State} (h : Kept s₀ s) {id ord : Nat} : Kept s₀ (s.frameScheduled id ord) := by
  unfold State.frameScheduled
  split
  · exact h
  · refine .ite h (.ite (.send ?_) ?_)
    · split
      · exact .ite (.replyTo (.frame' h)) (.frame' (.replyTo (.frame' h)))
      · exact .frame' h
    · split
      · exact .ite (.replyTo (.frame' h)) (.frame' (.replyTo (.frame' h)))
      · exact .frame' h

theorem Kept.confirmBank {s₀ s : State} (h : Kept s₀ s) : Kept s₀ s.confirmBank := by
  have hbank := h.bankSelect (bank := s.bt.executing) (state := 0) (fallback := 0) (version := s.up.version) (tick := s.ck.tick)
  simp only [State.confirmBank]
  have hfuse {t : State} (ht : Kept s₀ t) (n : Nat) : Kept s₀ (if t.bt.fusedMin < n then
      (t.bt' fun b => { b with fusedMin := n }).ev0 0xE06 .notice (le 1 n) else t) := by
    split
    next hlt =>
      refine .ev0 (ht.bt'_of (f := fun b => { b with fusedMin := n }) ?_ le_rfl le_rfl hlt.le)
      exact (·.congr rfl rfl rfl)
    · exact ht
  have hdone := hfuse hbank
  exact .ite (.send (.bump (.ev0 (.up' (hdone _))))) (.bump (.ev0 (.up' (hdone _))))

theorem Kept.anaUnits {s₀ s : State} (h : Kept s₀ s) {us : List OwnUnit} : Kept s₀ (s.anaUnits us) := by
  unfold State.anaUnits
  refine .foldl h (fun _ _ h => ?_) _
  split
  · exact .raiseAna h
  · exact h

theorem Kept.takeoverEnds {s₀ s : State} (h : Kept s₀ s) : Kept s₀ s.takeoverEnds :=
  .ev0 (.bump (.pr' (.foldl h (fun _ _ h => .raiseAna (.domain' h)) _)))

theorem Kept.followOne {s₀ s : State} (h : Kept s₀ s) {n : After} : Kept s₀ (s.followOne n) := by
  unfold State.followOne
  split
  · exact .replyTo h
  · exact .replyTo h
  · exact .endCmd h
  · exact .send h
  · exact .send h
  · exact .resetNow (.silence h)
  · exact .confirmBank h
  · exact .frameScheduled h
  · exact .ite (.send (.frame' h)) h
  · exact .takeoverEnds h
  · exact .releaseDone h
  · exact .set' h

theorem Kept.landed {s₀ s : State} (h : Kept s₀ s) {ord rec : Nat} : Kept s₀ (s.landed ord rec) :=
  .judgeJournal (.releaseDone (.flushMap (.sp' (.journal h))))

theorem Kept.charge {s₀ s : State} (h : Kept s₀ s) {n : Nat} : Kept s₀ (s.charge n) := .md' h

theorem Kept.releaseIf {s₀ s : State} (h : Kept s₀ s) {moves : Bool} {ords : List Nat} : Kept s₀ (s.releaseIf moves ords) := .mapChange h

theorem Kept.releaseEmpty {s₀ s : State} (h : Kept s₀ s) {ords : List Nat} : Kept s₀ (s.releaseEmpty ords) := .releaseIf h

theorem Kept.dirtySet {s₀ s : State} (h : Kept s₀ s) {b : BlockSet} : Kept s₀ (s.dirtySet b) := .mapChange (.set' h)

theorem Kept.dirtySets {s₀ s : State} (h : Kept s₀ s) : Kept s₀ s.dirtySets := .foldl h (fun _ _ h => .dirtySet h) _

theorem Kept.askRepair {s₀ s : State} (h : Kept s₀ s) {e : EnvEntry} : Kept s₀ (s.askRepair e) := by
  unfold State.askRepair
  split
  · exact h
  · exact .ite h (.send (.stat (.rp' h)))

theorem Kept.promote {s₀ s : State} (h : Kept s₀ s) {rec : Nat} : Kept s₀ (s.promote rec) := by
  unfold State.promote
  split
  · exact h
  · exact .ite h (.releaseEmpty (.foldl (.foldl (.me' (.outer h)) (fun _ _ h => .stripe' h) _) (fun _ _ h => .stripe' h) _))

theorem Kept.replaced {s₀ s : State} (h : Kept s₀ s) {link : Nat} : Kept s₀ (s.replaced link) := by
  unfold State.replaced
  split
  · exact .mapChange h
  · exact h

theorem Kept.follow {s₀ s : State} (h : Kept s₀ s) {r : WaxRec} : Kept s₀ (s.follow r) := by
  unfold State.follow
  refine .foldl ?_ (fun _ _ h => .followOne h) _
  split
  · exact .foldl (.foldl (.stat h) (fun _ _ h => .raiseSmart h) _) (fun _ _ h => .askRepair h) _
  · exact .ite (.landed (.ite (.promote (.stat h)) (.stat h))) (.ite (.dirtySets (.ite (.promote (.stat h)) (.stat h))) (.ite (.promote
      (.stat h)) (.stat h)))
  · exact .charge (.stat h)
  · exact .ite (.mapChange (.rd' (.charge h))) (.charge h)
  · exact .raiseNs h
  · exact .raiseNs h
  · exact .raiseNs h
  · exact .flushMap (.addPending h)
  · refine .dirtySets (.releaseEmpty (.foldl h (fun _ _ h => ?_) _))
    split
    · exact .raiseNs h
    · exact h
  · exact .replaced h
  · refine .ite (.ev0 (.stat (.anaUnits (.foldl h (fun _ _ h => ?_) _)))) h
    split
    · exact .domain' h
    · exact h
  · exact .ev0 h
  · exact .wx' h
  · exact h

theorem Kept.acceptRec {s₀ s : State} (h : Kept s₀ s) {r : WaxRec} : Kept s₀ (s.acceptRec r) :=
  .foldl (.follow (.me' (.applyBody (.wx' h)))) (fun _ _ h => .event h) _

theorem Kept.acceptAux {s₀ s : State} (h : Kept s₀ s) {n : Nat} : Kept s₀ (s.acceptAux n) := by
  induction n generalizing s with
  | zero =>
    unfold State.acceptAux
    exact h
  | succ n ih =>
    unfold State.acceptAux
    split
    · exact h
    · exact .ite (.ite (ih (.foldl h (fun _ _ h => .acceptRec h) _)) (.foldl h (fun _ _ h => .acceptRec h) _)) h

theorem Kept.accept {s₀ s : State} (h : Kept s₀ s) : Kept s₀ s.accept := .acceptAux (.judgeFlash h)

/-! ## The operations of Machine/LinkOps -/

theorem Kept.lane {s₀ s : State} (h : Kept s₀ s) {link : Nat} {toHead : Bool} {port : Side} {f : LFrame} :
    Kept s₀ (s.lane link toHead port f) :=
  .send h

theorem Kept.resendFrames {s₀ s : State} (h : Kept s₀ s) {link : Nat} {fs : List LFrame} : Kept s₀ (s.resendFrames link fs) :=
  .ite (.foldl h (fun _ _ h => .lane h) _) (.bump (.foldl h (fun _ _ h => .lane h) _))

theorem Kept.fromHead {s₀ s : State} (h : Kept s₀ s) {link : Nat} {f : LFrame} : Kept s₀ (s.fromHead link f) := by
  unfold State.fromHead
  split
  · exact h
  · exact .ite (.lane (.stat (.link' h))) (.link' h)

theorem Kept.headPump {s₀ s : State} (h : Kept s₀ s) {link : Nat} : Kept s₀ (s.headPump link) := by
  unfold State.headPump
  split
  · exact h
  · exact .foldl (.link' h) (fun _ _ h => .fromHead h) _

theorem Kept.sendRegRead {s₀ s : State} (h : Kept s₀ s) {link first count : Nat} : Kept s₀ (s.sendRegRead link first count) :=
  .fromHead h

theorem Kept.sendTask {s₀ s : State} (h : Kept s₀ s) {link : Nat} {op : TaskOp} {die block page : Nat} {arg : BitVec 32} {use : TaskUse}
  {data spares : List Bytes} :
    Kept s₀ (s.sendTask link op die block page arg use data spares) := by
  unfold State.sendTask
  split
  · exact h
  · exact .ite (.link' h) (.stat (.foldl (.link' h) (fun _ _ h => .fromHead h) _))

/-! ## The operations of Machine/BridgeOps -/

theorem Kept.die' {s₀ s : State} (h : Kept s₀ s) {link die : Nat} {f : Die → Die} : Kept s₀ (s.die' link die f) := by
  unfold State.die'
  refine .bridge' h ?_
  exact fun _ => ⟨rfl, rfl, rfl, rfl, rfl, rfl⟩

theorem Kept.toHead {s₀ s : State} (h : Kept s₀ s) {link : Nat} {port : Side} {f : LFrame} : Kept s₀ (s.toHead link port f) := by
  unfold State.toHead
  split
  · exact h
  · refine .ite h (.ite (.bridge' h ?_) (.lane (.bridge' h ?_)))
    · exact (SameComb.port' · _ _)
    · exact (SameComb.port' · _ _)

theorem Kept.bridgePump {s₀ s : State} (h : Kept s₀ s) {link : Nat} {port : Side} : Kept s₀ (s.bridgePump link port) := by
  unfold State.bridgePump
  split
  · exact h
  · refine .foldl (.bridge' h ?_) (fun _ _ h => .toHead h) _
    exact (SameComb.port' · _ _)

theorem Kept.bridgeDone {s₀ s : State} (hk : Kept s₀ s) {link : Nat} {port : Side} {h : TaskHdr} {w : StatusWord} :
    Kept s₀ (s.bridgeDone link port h w) :=
  .toHead hk

theorem Kept.bridgeAck {s₀ s : State} (h : Kept s₀ s) {link : Nat} {port : Side} : Kept s₀ (s.bridgeAck link port) := by
  unfold State.bridgeAck
  split
  · exact h
  · exact .lane h

theorem Kept.bridgeNak {s₀ s : State} (h : Kept s₀ s) {link : Nat} {port : Side} : Kept s₀ (s.bridgeNak link port) := by
  unfold State.bridgeNak
  split
  · exact h
  · refine .ite h (.lane (.bridge' h ?_))
    exact (SameComb.port' · _ _)

theorem Kept.bridgeTook {s₀ s : State} (h : Kept s₀ s) {link : Nat} {port : Side} : Kept s₀ (s.bridgeTook link port) := by
  unfold State.bridgeTook
  refine .bridgeAck (.bridge' h ?_)
  exact (SameComb.port' · _ _)

theorem Kept.bridgeResend {s₀ s : State} (h : Kept s₀ s) {link : Nat} {port : Side} {from_ : BitVec 12} :
    Kept s₀ (s.bridgeResend link port from_) := by
  unfold State.bridgeResend
  split
  · exact h
  · refine .foldl (.bridge' h ?_) (fun _ _ h => .lane h) _
    exact (SameComb.port' · _ _)

theorem Kept.cutProgram {s₀ s : State} (hk : Kept s₀ s) {link : Nat} {port : Side} {h : TaskHdr} :
    Kept s₀ (s.cutProgram link port h) := by
  unfold State.cutProgram
  split
  · exact hk
  · split
    · exact hk
    · refine .ite (.bridgeDone (.bridge' (.die' hk) ?_)) hk
      exact (SameComb.port' · _ _)

theorem Kept.eraseGoesOn {s₀ s : State} (h : Kept s₀ s) {link : Nat} {r : SuspErase} : Kept s₀ (s.eraseGoesOn link r) :=
  .ite h (.link' h)

theorem Kept.dieAccepts {s₀ s : State} (hk : Kept s₀ s) {link : Nat} {port : Side} {h : TaskHdr} :
    Kept s₀ (s.dieAccepts link port h) := by
  unfold State.dieAccepts
  split
  · exact .bridgeDone (.die' hk)
  · refine .bridgeDone (.die' ?_)
    split
    · exact .eraseGoesOn hk
    · exact hk
  · exact .die' hk

theorem Kept.dieRefuses {s₀ s : State} (hk : Kept s₀ s) {link : Nat} {port : Side} {h : TaskHdr} {w : StatusWord} :
    Kept s₀ (s.dieRefuses link port h w) :=
  .bridgeDone (.cond hk (fun _ h => .afterDraw (.die' h)) _)

theorem Kept.dieTask {s₀ s : State} (hk : Kept s₀ s) {link : Nat} {port : Side} {h : TaskHdr} : Kept s₀ (s.dieTask link port h) := by
  unfold State.dieTask
  dsimp only
  split
  · exact .cutProgram hk
  · split
    · exact .dieRefuses (.cutProgram hk)
    · exact .dieAccepts (.cutProgram hk)

theorem Kept.badTask {s₀ s : State} (h : Kept s₀ s) {link : Nat} {port : Side} {f : LFrame} : Kept s₀ (s.badTask link port f) := by
  unfold State.badTask
  dsimp only
  split
  · exact .toHead (.cutProgram h)
  · exact .cutProgram h

theorem Kept.sendPage {s₀ s : State} (hk : Kept s₀ s) {link : Nat} {port : Side} {h : TaskHdr} {plane : Nat} {p : Option NandPage} {w :
  StatusWord} :
    Kept s₀ (s.sendPage link port h plane p w) := by
  unfold State.sendPage
  split
  · exact .toHead (.foldl hk (fun _ _ h => .toHead h) _)
  · exact .toHead (.foldl hk (fun _ _ h => .toHead h) _)
  · exact .toHead hk

theorem Kept.endRead {s₀ s : State} (h : Kept s₀ s) {link : Nat} {b : Bridge} {d : Die} {e : DieExec} {good : Bool} :
    Kept s₀ (s.endRead link b d e good) :=
  .bridgeDone (.die' (.foldl (.outer h) (fun _ _ h => .sendPage h) _))

theorem Kept.endProgram {s₀ s : State} (h : Kept s₀ s) {link : Nat} {d : Die} {e : DieExec} {good : Bool} :
    Kept s₀ (s.endProgram link d e good) := by
  unfold State.endProgram
  refine .bridgeDone (.die' (.ite (.bridge' h ?_) (.outer (.bridge' h ?_))))
  · exact (SameComb.port' · _ _)
  · exact fun _ => ⟨rfl, rfl, rfl, rfl, rfl, rfl⟩

theorem Kept.endErase {s₀ s : State} (h : Kept s₀ s) {link : Nat} {d : Die} {e : DieExec} {good : Bool} :
    Kept s₀ (s.endErase link d e good) := by
  unfold State.endErase
  refine .bridgeDone (.die' (.outer (.bridge' h ?_)))
  exact fun _ => ⟨rfl, rfl, rfl, rfl, rfl, rfl⟩

theorem Kept.bridgeData {s₀ s : State} (h : Kept s₀ s) {link : Nat} {port : Side} {f : LFrame} :
    Kept s₀ (s.bridgeData link port f) := by
  unfold State.bridgeData
  refine .ite (.die' h) (.bridge' h ?_)
  exact (SameComb.port' · _ _)

theorem Kept.bridgeHears {s₀ s : State} (h : Kept s₀ s) {link : Nat} {port : Side} {f : LFrame} {act : State → State} (hact : ∀ t, Kept s₀
  t → Kept s₀ (act t)) :
    Kept s₀ (s.bridgeHears link port f act) := by
  unfold State.bridgeHears
  split
  · exact h
  · refine .ite h (.ite (.bridgeNak (.bridge' h ?_)) (.ite (.bridgePump (hact _ (.bridge' h ?_))) (hact _ h)))
    · exact (SameComb.port' · _ _)
    · exact (SameComb.port' · _ _)

theorem Kept.bridgeFrame {s₀ s : State} (h : Kept s₀ s) {link : Nat} {port : Side} {f : LFrame} {act : State → State} (hact : ∀ t, Kept s₀
  t → Kept s₀ (act t)) :
    Kept s₀ (s.bridgeFrame link port f act) := by
  unfold State.bridgeFrame
  refine .bridgeHears h (fun _ h => ?_)
  split
  · exact h
  · exact .ite h (.ite (hact _ (.bridgeTook h)) (.ite (.bridgeAck h) (.bridgeNak h)))

theorem Kept.taskFrame {s₀ s : State} (h : Kept s₀ s) {link : Nat} {port : Side} {f : LFrame} {op : TaskOp} :
    Kept s₀ (s.taskFrame link port f op) :=
  .ite (.bridgeFrame h (fun _ h => .dieTask h)) h

/-! ## The operations of Machine/Bridge -/

theorem execTaskRead_keeps (link : Nat) (port : Side) (f : LFrame) (s : State) : Keeps s (execTaskRead link port f s) := by
  have h := Kept.refl s
  unfold execTaskRead
  exact .ok (.ite (.bridgeFrame h (fun _ h => .badTask h)) (.taskFrame h))

theorem execTaskSeqRead_keeps (link : Nat) (port : Side) (f : LFrame) (s : State) : Keeps s (execTaskSeqRead link port f s) :=
  .ok (.taskFrame (.refl s))

theorem execTaskProgramSlc_keeps (link : Nat) (port : Side) (f : LFrame) (s : State) : Keeps s (execTaskProgramSlc link port f s) :=
  .ok (.taskFrame (.refl s))

theorem execTaskProgramQlc_keeps (link : Nat) (port : Side) (f : LFrame) (s : State) : Keeps s (execTaskProgramQlc link port f s) :=
  .ok (.taskFrame (.refl s))

theorem execTaskErase_keeps (link : Nat) (port : Side) (f : LFrame) (s : State) : Keeps s (execTaskErase link port f s) :=
  .ok (.taskFrame (.refl s))

theorem execEraseSuspend_keeps (link : Nat) (port : Side) (f : LFrame) (s : State) : Keeps s (execEraseSuspend link port f s) :=
  .ok (.taskFrame (.refl s))

theorem execEraseResume_keeps (link : Nat) (port : Side) (f : LFrame) (s : State) : Keeps s (execEraseResume link port f s) :=
  .ok (.taskFrame (.refl s))

theorem execEraseAutoResume_keeps (link die : Nat) (s : State) : Keeps s (execEraseAutoResume link die s) := by
  have h := Kept.refl s
  unfold execEraseAutoResume
  refine .ok ?_
  split
  · split
    · exact .ite (.die' (.eraseGoesOn h)) h
    · exact h
  · exact h

theorem execDieTaskDone_keeps (link die : Nat) (good : Bool) (s : State) : Keeps s (execDieTaskDone link die good s) := by
  have h := Kept.refl s
  unfold execDieTaskDone
  refine .ok ?_
  split
  · exact h
  · split
    · exact h
    · split
      · exact h
      · split
        · exact .endRead h
        · exact .endRead h
        · exact .ite (.endProgram h) h
        · exact .ite (.endProgram h) h
        · exact .endErase h
        · exact h

theorem execFavouredPortExpiry_keeps (link die : Nat) (s : State) : Keeps s (execFavouredPortExpiry link die s) := .ok (.die' (.refl s))

theorem execRegRead_keeps (link : Nat) (port : Side) (f : LFrame) (count : Nat) (s : State) :
    Keeps s (execRegRead link port f count s) := by
  have h := Kept.refl s
  unfold execRegRead
  refine .ok (.ite h (.bridgeFrame h (fun _ h => ?_)))
  split
  · exact h
  · exact .ite h (.toHead h)

/-! ## The operations of Machine/StripeOps -/

theorem Kept.allocStripe {s₀ s : State} (h : Kept s₀ s) : Kept s₀ s.allocStripe.1 :=
  .fst_ite (.pair (.ev0 h)) (.pair (.ite (.ev0 (.sp' (.sp' (.ite (.sp' (.commit h)) h)))) (.sp' (.ite (.sp' (.commit h)) h))))

theorem Kept.noteProg {s₀ s : State} (h : Kept s₀ s) {link die : Nat} : Kept s₀ (s.noteProg link die) := .me' h

theorem Kept.setBlock {s₀ s : State} (h : Kept s₀ s) {link die block : Nat} {st : BlockState} {qlc : Bool} {use : BlockUse} :
    Kept s₀ (s.setBlock link die block st qlc use) :=
  .mapChange (.blockState h)

theorem Kept.takeOn {s₀ s : State} (h : Kept s₀ s) {l : Link} {die : Nat} {use : BlockUse} {qlc : Bool} {need : Nat} :
    Kept s₀ (s.takeOn l die use qlc need).1 := by
  unfold State.takeOn
  split
  · split
    · dsimp only
      split
      · refine .pair (.of_eq ‹_› ?_)
        split
        · exact h
        · refine .pair (.set' (.setBlock ?_))
          split
          · exact .setBlock h
          · exact h
      · refine .pair (.ite (.setBlock (.noteProg (.set' (.of_eq ‹_› ?_)))) (.noteProg (.set' (.of_eq ‹_› ?_))))
        · split
          · exact h
          · refine .pair (.set' (.setBlock ?_))
            split
            · exact .setBlock h
            · exact h
        · split
          · exact h
          · refine .pair (.set' (.setBlock ?_))
            split
            · exact .setBlock h
            · exact h
    · dsimp only
      split
      · refine .pair (.of_eq ‹_› ?_)
        split
        · exact h
        · refine .pair (.set' (.setBlock ?_))
          split
          · exact .setBlock h
          · exact h
      · refine .pair (.ite (.setBlock (.noteProg (.set' (.of_eq ‹_› ?_)))) (.noteProg (.set' (.of_eq ‹_› ?_))))
        · split
          · exact h
          · refine .pair (.set' (.setBlock ?_))
            split
            · exact .setBlock h
            · exact h
        · split
          · exact h
          · refine .pair (.set' (.setBlock ?_))
            split
            · exact .setBlock h
            · exact h
  · split
    · dsimp only
      split
      · refine .pair (.of_eq ‹_› ?_)
        split
        · exact h
        · exact h
      · refine .pair (.ite (.setBlock (.noteProg (.set' (.of_eq ‹_› ?_)))) (.noteProg (.set' (.of_eq ‹_› ?_))))
        · split
          · exact h
          · exact h
        · split
          · exact h
          · exact h
    · dsimp only
      split
      · refine .pair (.of_eq ‹_› ?_)
        split
        · exact h
        · exact h
      · refine .pair (.ite (.setBlock (.noteProg (.set' (.of_eq ‹_› ?_)))) (.noteProg (.set' (.of_eq ‹_› ?_))))
        · split
          · exact h
          · exact h
        · split
          · exact h
          · exact h

theorem Kept.takeFirst {s₀ s : State} (h : Kept s₀ s) {l : Link} {use : BlockUse} {qlc : Bool} {need : Nat} {ds : List Nat} :
    Kept s₀ (s.takeFirst l use qlc need ds).1 := by
  induction ds generalizing s with
  | nil =>
    unfold State.takeFirst
    exact h
  | cons d ds ih =>
    unfold State.takeFirst
    split
    · exact .pair (.of_eq ‹_› (.takeOn h))
    · exact ih h

theorem Kept.takeUnit {s₀ s : State} (h : Kept s₀ s) {link : Nat} {use : BlockUse} {qlc : Bool} {need : Nat} :
    Kept s₀ (s.takeUnit link use qlc need).1 := by
  unfold State.takeUnit
  split
  · exact h
  · exact .takeFirst h

theorem Kept.takeAll {s₀ s : State} (h : Kept s₀ s) {use : BlockUse} {qlc : Bool} {need : Nat} {ls : List Nat} {acc : List Member} :
    Kept s₀ (s.takeAll use qlc need ls acc).1 := by
  induction ls generalizing s acc with
  | nil =>
    unfold State.takeAll
    exact h
  | cons x ls ih =>
    unfold State.takeAll
    split
    · exact ih (.of_eq ‹_› (.takeUnit h))
    · exact .pair (.of_eq ‹_› (.takeUnit h))

theorem Kept.openStripeBut {s₀ s : State} (h : Kept s₀ s) {hive lane : Nat} {region : Region} {purpose : Purpose} {avoid : Option Nat} :
    Kept s₀ (s.openStripeBut hive lane region purpose avoid).1 := by
  unfold State.openStripeBut
  refine .fst_ite (.pair (.ev0 h)) (.fst_ite h ?_)
  split
  · dsimp only
    split
    · refine .pair (.of_eq ‹_› (.allocStripe ?_))
      split
      · exact .sp' h
      · exact h
    · split
      · refine .pair (.of_eq ‹_› (.takeAll (.of_eq ‹_› (.allocStripe ?_))))
        split
        · exact .sp' h
        · exact h
      · refine .pair (.sp' (.journal (.of_eq ‹_› (.takeAll (.of_eq ‹_› (.allocStripe ?_))))))
        split
        · exact .sp' h
        · exact h
  · dsimp only
    split
    · refine .pair (.of_eq ‹_› (.allocStripe ?_))
      split
      · exact .sp' h
      · exact h
    · split
      · refine .pair (.of_eq ‹_› (.takeAll (.of_eq ‹_› (.allocStripe ?_))))
        split
        · exact .sp' h
        · exact h
      · refine .pair (.sp' (.journal (.of_eq ‹_› (.takeAll (.of_eq ‹_› (.allocStripe ?_))))))
        split
        · exact .sp' h
        · exact h

theorem Kept.openStripe {s₀ s : State} (h : Kept s₀ s) {hive lane : Nat} {region : Region} {purpose : Purpose} :
    Kept s₀ (s.openStripe hive lane region purpose).1 :=
  .openStripeBut h

theorem Kept.open' {s₀ s : State} (h : Kept s₀ s) {ord : Nat} {f : OpenStripe → OpenStripe} : Kept s₀ (s.open' ord f) := .sp' h

theorem Kept.placeEnv {s₀ s : State} (h : Kept s₀ s) {ord : Nat} {e : EnvEntry} {recs : List Nat} {old : Option Place} {bytes : Bytes} :
    Kept s₀ (s.placeEnv ord e recs old bytes) :=
  .open' (.ite (.md' h) h)

theorem Kept.unitSent {s₀ s : State} (h : Kept s₀ s) {r : Region} {m : Member} {n : Nat} : Kept s₀ (s.unitSent r m n) := .set' h

theorem Kept.replaceUnit {s₀ s : State} (h : Kept s₀ s) {t : OpenStripe} {m : Nat} : Kept s₀ (s.replaceUnit t m).1 := by
  unfold State.replaceUnit
  split
  · exact h
  · refine .fst_ite h ?_
    split
    · exact h
    · exact .pair (.open' (.journal (.of_eq ‹_› (.takeUnit h))))

theorem Kept.sendProgram {s₀ s : State} (h : Kept s₀ s) {t : OpenStripe} {m part : Nat} : Kept s₀ (s.sendProgram t m part) := by
  unfold State.sendProgram
  split
  · split
    · exact h
    · exact .ite h (.noteProg (.open' (.unitSent (.sendTask h))))
  · exact h

theorem Kept.issuePrograms {s₀ s : State} (h : Kept s₀ s) {ord : Nat} : Kept s₀ (s.issuePrograms ord) := by
  unfold State.issuePrograms
  split
  · exact h
  · refine .ite (.foldl h (fun _ _ h => .ite ?_ (.ite ?_ h)) _) h
    · split
      · split
        · exact .sendProgram (.of_eq ‹_› (.replaceUnit h))
        · exact .of_eq ‹_› (.replaceUnit h)
      · exact h
    · split
      · exact .sendProgram h
      · exact h

theorem Kept.issueAll {s₀ s : State} (h : Kept s₀ s) : Kept s₀ s.issueAll := .foldl h (fun _ _ h => .issuePrograms h) _

theorem Kept.closeStripe {s₀ s : State} (h : Kept s₀ s) {ord : Nat} : Kept s₀ (s.closeStripe ord) := by
  unfold State.closeStripe
  split
  · exact h
  · exact .ite h (.issuePrograms (.open' (.stat h)))

theorem Kept.abandonStripe {s₀ s : State} (h : Kept s₀ s) {ord : Nat} {link : Option Nat} : Kept s₀ (s.abandonStripe ord link) := by
  unfold State.abandonStripe
  split
  · exact h
  · exact .judgeJournal (.sp' (.rd' (.ev0 (.stat (.journal h)))))

theorem Kept.hiveLost {s₀ s : State} (hk : Kept s₀ s) {h : Nat} : Kept s₀ (s.hiveLost h) :=
  .foldl (.foldl (.cl' hk) (fun _ _ h => .replyTo h) _) (fun _ _ h => .abandonStripe h) _

theorem Kept.startRebuild {s₀ s : State} (hk : Kept s₀ s) {h link : Nat} : Kept s₀ (s.startRebuild h link) := by
  unfold State.startRebuild
  refine .ite hk ?_
  dsimp only
  split
  · exact .ite (.hive' hk) (.ev0 (.sp' (.hive' hk)))
  · exact .ev0 (.sp' (.hive' hk))

theorem Kept.markFailed {s₀ s : State} (h : Kept s₀ s) {link : Nat} : Kept s₀ (s.markFailed link) := by
  unfold State.markFailed
  split
  · exact h
  · exact .ite h (.startRebuild (.ite (.ev0 (.link' (.ev0 (.commit h)))) (.link' (.ev0 (.commit h)))))

theorem Kept.grownFault {s₀ s : State} (h : Kept s₀ s) {link die block : Nat} : Kept s₀ (s.grownFault link die block) := by
  unfold State.grownFault
  split
  · exact h
  · exact .setBlock (.set' h)

theorem Kept.failDie {s₀ s : State} (h : Kept s₀ s) {link die : Nat} : Kept s₀ (s.failDie link die) := by
  unfold State.failDie
  split
  · exact h
  · refine .ite h (.ite (.mapChange (.foldl (.ev0 (.link' h)) (fun _ _ h => ?_) _)) (.ev0 (.hive' (.sp' (.mapChange (.foldl (.ev0 (.link'
      h)) (fun _ _ h => ?_) _))))))
    · split
      · exact .blockState h
      · exact h
    · split
      · exact .blockState h
      · exact h

theorem Kept.retireSet {s₀ s : State} (h : Kept s₀ s) {link die block : Nat} : Kept s₀ (s.retireSet link die block) := by
  unfold State.retireSet
  split
  · exact h
  · exact .ite (.failDie (.bump (.ev0 (.setBlock h)))) (.bump (.ev0 (.setBlock h)))

theorem Kept.scheduleRewrite {s₀ s : State} (h : Kept s₀ s) {ord : Nat} : Kept s₀ (s.scheduleRewrite ord) := .stripe' h

theorem Kept.leaveToRewrite {s₀ s : State} (h : Kept s₀ s) {ord : Nat} : Kept s₀ (s.leaveToRewrite ord) := .stripe' h

/-! ## The operations of Machine/HiveOps -/

theorem Kept.askToken {s₀ s : State} (hk : Kept s₀ s) {h prio : Nat} : Kept s₀ (s.askToken h prio) := .send (.stat (.hive' (.co' hk)))

theorem Kept.decideDark {s₀ s : State} (hk : Kept s₀ s) {h : Nat} : Kept s₀ (s.decideDark h) := .hive' hk

theorem Kept.wantUp {s₀ s : State} (hk : Kept s₀ s) {h : Nat} : Kept s₀ (s.wantUp h) := .hive' hk

theorem Kept.wakeWithin {s₀ s : State} (hk : Kept s₀ s) {h prio budget : Nat} {awake : List Hive} :
    Kept s₀ (s.wakeWithin h prio budget awake) := by
  unfold State.wakeWithin
  refine .ite (.wantUp hk) ?_
  split
  · exact .ite (.decideDark hk) hk
  · exact hk

theorem Kept.askWake {s₀ s : State} (hk : Kept s₀ s) {h prio : Nat} : Kept s₀ (s.askWake h prio) := by
  unfold State.askWake
  split
  · exact hk
  · exact .ite (.wantUp hk) (.ite hk (.ite hk (.ite hk (.ite (.ite hk (.ite (.wantUp hk) (.ite (.ite hk (.askToken hk)) (.wakeWithin
      hk)))) (.wakeWithin hk)))))

theorem Kept.askWaiting {s₀ s : State} (h : Kept s₀ s) : Kept s₀ s.askWaiting := by
  unfold State.askWaiting
  refine .foldl h (fun _ _ h => ?_) _
  split
  · exact .ite (.askWake h) h
  · exact h

theorem Kept.judgeGather {s₀ s : State} (hk : Kept s₀ s) {h : Nat} : Kept s₀ (s.judgeGather h) := by
  unfold State.judgeGather
  split
  · exact .ite (.askWake hk) hk
  · exact hk

theorem Kept.joinGather {s₀ s : State} (hk : Kept s₀ s) {h : Nat} {e : GatherEntry} : Kept s₀ (s.joinGather h e) :=
  .judgeGather (.stat (.hive' hk))

theorem Kept.keepGather {s₀ s : State} (h : Kept s₀ s) {p : GatherEntry → Bool} : Kept s₀ (s.keepGather p) := .hv' h

theorem Kept.leaveGather {s₀ s : State} (h : Kept s₀ s) {ctrl qid cid : Nat} : Kept s₀ (s.leaveGather ctrl qid cid) := .keepGather h

theorem Kept.hiveReady {s₀ s : State} (hk : Kept s₀ s) {h : Nat} : Kept s₀ (s.hiveReady h) := by
  unfold State.hiveReady
  split
  · exact hk
  · exact .stat (.ev0 (.cond (.hive' hk) (fun _ h => .hive' h) _))

theorem Kept.dormancyReply {s₀ s : State} (hk : Kept s₀ s) {h : Hive} : Kept s₀ (s.dormancyReply h) := by
  unfold State.dormancyReply
  split
  · exact .hive' (.co' (.foldl hk (fun _ _ h => .send h) _))
  · exact .send hk
  · exact hk

theorem Kept.hiveGoneDark {s₀ s : State} (hk : Kept s₀ s) {h : Nat} : Kept s₀ (s.hiveGoneDark h) := by
  unfold State.hiveGoneDark
  split
  · exact hk
  · split
    · exact .askWaiting (.hive' (.foldl (.dormancyReply (.stat (.ev0 hk))) (fun _ _ h => .replyTo h) _))

theorem Kept.tideSwap {s₀ s : State} (hk : Kept s₀ s) {h : Nat} : Kept s₀ (s.tideSwap h) := by
  unfold State.tideSwap
  refine .ite ?_ hk
  split
  · exact .hive' (.hive' (.md' hk))
  · exact hk

theorem Kept.hiveUnpowered {s₀ s : State} (hk : Kept s₀ s) {h : Nat} : Kept s₀ (s.hiveUnpowered h) :=
  .tideSwap (.hiveLost (.bump (.ev0 hk)))

theorem Kept.shelfOnHoldup {s₀ s : State} (hk : Kept s₀ s) {h : Nat} : Kept s₀ (s.shelfOnHoldup h) :=
  .foldl (.ev0 hk) (fun _ _ h => .abandonStripe h) _

theorem Kept.alarmEvents {s₀ s : State} (hk : Kept s₀ s) {h : Nat} {old new : BitVec 8} : Kept s₀ (s.alarmEvents h old new) :=
  .foldl hk (fun _ _ h => .ite (.ev0 h) (.ite (.ev0 h) h)) _

theorem Kept.judgeHive {s₀ s : State} (hk : Kept s₀ s) {h : Nat} : Kept s₀ (s.judgeHive h) := by
  unfold State.judgeHive
  split
  · exact hk
  · split
    · exact hk
    · exact .ite (.hive' (.hive' hk)) (.ite (.hiveReady (.hive' (.hive' hk))) (.ite (.hiveReady (.hive' (.hive' hk))) (.ite (.hiveGoneDark
        (.hive' (.hive' hk))) (.ite (.hiveUnpowered (.hive' (.hive' hk))) (.ite (.tideSwap (.hive' (.hive' hk))) (.hive' (.hive' hk)))))))

theorem Kept.takeBlock {s₀ s : State} (hk : Kept s₀ s) {h : Nat} {b : ShelfBlock} : Kept s₀ (s.takeBlock h b) := by
  unfold State.takeBlock
  split
  · exact hk
  · exact .ite (.issueAll (.judgeHive (.ite (.shelfOnHoldup (.ite (.ev0 (.alarmEvents (.hive' hk))) (.alarmEvents (.hive' hk)))) (.ite
      (.ev0 (.alarmEvents (.hive' hk))) (.alarmEvents (.hive' hk)))))) (.judgeHive (.ite (.shelfOnHoldup (.ite (.ev0 (.alarmEvents (.hive'
      hk))) (.alarmEvents (.hive' hk)))) (.ite (.ev0 (.alarmEvents (.hive' hk))) (.alarmEvents (.hive' hk)))))

theorem Kept.standingVotes {s₀ s : State} (h : Kept s₀ s) : Kept s₀ s.standingVotes :=
  .foldl h (fun _ _ h => .ite (.ite (.ite (.hive' h) h) (.ite (.hive' h) h)) (.ite (.hive' h) h)) _

/-! ## The operations of Machine/Limits -/

theorem Kept.fillBuckets {s₀ s : State} (h : Kept s₀ s) : Kept s₀ s.fillBuckets := .md' h

theorem Kept.refill {s₀ s : State} (h : Kept s₀ s) : Kept s₀ s.refill := by
  unfold State.refill
  exact .md' h

theorem Kept.judgeBrood {s₀ s : State} (h : Kept s₀ s) : Kept s₀ s.judgeBrood := .ite h (.ite (.ev0 (.md' h)) (.ite (.ev0 (.md' h)) h))

theorem Kept.judgeLanding {s₀ s : State} (h : Kept s₀ s) : Kept s₀ s.judgeLanding := .ite (.ev0 (.md' h)) (.ite (.ev0 (.md' h)) h)

theorem Kept.judgePins {s₀ s : State} (h : Kept s₀ s) : Kept s₀ s.judgePins :=
  .ite h (.ite (.foldl (.ev0 (.md' h)) (fun _ _ h => .judgeGather h) _) (.ev0 (.md' h)))

theorem Kept.judgeHolds {s₀ s : State} (h : Kept s₀ s) : Kept s₀ s.judgeHolds := .judgePins (.judgeLanding (.judgeBrood (.judgeRings h)))

theorem Kept.countHolds {s₀ s : State} (h : Kept s₀ s) : Kept s₀ s.countHolds :=
  .ite (.stat (.ite (.stat (.ite (.stat h) h)) (.ite (.stat h) h))) (.ite (.stat (.ite (.stat h) h)) (.ite (.stat h) h))

/-! ## The operations of Machine/FrameOps -/

theorem Kept.entryEnds {s₀ s : State} (h : Kept s₀ s) : Kept s₀ s.entryEnds := by
  unfold State.entryEnds
  refine .foldl h (fun _ _ h => ?_) _
  split
  · exact .frame' (.replyTo h)
  · exact h

theorem Kept.beginFence {s₀ s : State} (h : Kept s₀ s) {m : Mode} : Kept s₀ (s.beginFence m) := .pr' h

theorem Kept.enterMode {s₀ s : State} (h : Kept s₀ s) {m : Mode} : Kept s₀ (s.enterMode m) :=
  .ite (.md' h) (.ev0 (.fillBuckets (.ite (.sp' (.ite (.cond (.md' (.cond h (fun _ h => .entryEnds h) _)) (fun _ h => .beginFence h) _)
    (.pr' (.cond (.md' (.cond h (fun _ h => .entryEnds h) _)) (fun _ h => .beginFence h) _)))) (.ite (.cond (.md' (.cond h (fun _ h =>
    .entryEnds h) _)) (fun _ h => .beginFence h) _) (.pr' (.cond (.md' (.cond h (fun _ h => .entryEnds h) _)) (fun _ h => .beginFence h)
    _))))))

theorem Kept.autoModeThen {s₀ s : State} (h : Kept s₀ s) {m : Mode} {after : List After} : Kept s₀ (s.autoModeThen m after) :=
  .commit (.md' h)

theorem Kept.autoMode {s₀ s : State} (h : Kept s₀ s) {m : Mode} : Kept s₀ (s.autoMode m) := .autoModeThen h

theorem Kept.newHive {s₀ s : State} (h : Kept s₀ s) {hive mask : Nat} : Kept s₀ (s.newHive hive mask) := .ite h (.hv' h)

theorem Kept.attachHive {s₀ s : State} (h : Kept s₀ s) {hive mask : Nat} {brood : Bool} {by_ : Side} :
    Kept s₀ (s.attachHive hive mask brood by_) :=
  .ite (.ev0 h) (.ite h (.ite (.ite (.hive' h) (.pr' (.hive' h))) (.cond (.hive' (.sp' (.journal (.ite (.hive' h) (.pr' (.hive' h))))))
    (fun _ h => .enterMode h) _)))

theorem Kept.combWorks {s₀ s : State} (h : Kept s₀ s) {l : Link} : Kept s₀ (s.combWorks l) := by
  unfold State.combWorks
  dsimp only
  split
  · exact .ite (.hive' (.link' (.commit h))) (.mapChange (.foldl (.hive' (.link' (.commit h))) (fun _ _ h => .mapItem h) _))
  · exact .hive' (.link' (.commit h))

theorem Kept.superAttach {s₀ s : State} (h : Kept s₀ s) {hive mask : Nat} {by_ : Side} : Kept s₀ (s.superAttach hive mask by_) := by
  unfold State.superAttach
  dsimp only
  split
  · exact .newHive h
  · exact .ite (.attachHive (.foldl (.hive' (.foldl (.newHive h) (fun _ _ h => .ite (.withLink h) h) _)) (fun _ _ h => .combWorks h) _))
      (.ite (.foldl (.hive' (.foldl (.newHive h) (fun _ _ h => .ite (.withLink h) h) _)) (fun _ _ h => .combWorks h) _) (.cond (.hive'
      (.sp' (.journal (.foldl (.hive' (.foldl (.newHive h) (fun _ _ h => .ite (.withLink h) h) _)) (fun _ _ h => .combWorks h) _)))) (fun
      _ h => .enterMode h) _))

theorem Kept.beginRebalance {s₀ s : State} (h : Kept s₀ s) {v : Bytes} : Kept s₀ (s.beginRebalance v) :=
  .ite (.enterMode (.pr' h)) (.pr' h)

theorem Kept.changeApiary {s₀ s : State} (h : Kept s₀ s) {v : Bytes} : Kept s₀ (s.changeApiary v) :=
  .ite (.takeApiary (.control h)) (.ite (.takeApiary (.control h)) (.takeApiary (.control (.ite (.ev0 (.bump h)) h))))

theorem Kept.takeFormats {s₀ s : State} (h : Kept s₀ s) {v : Bytes} : Kept s₀ (s.takeFormats v) := .ite (.up' h) h

theorem Kept.applyFrame {s₀ s : State} (h : Kept s₀ s) {f : Frame} : Kept s₀ (s.applyFrame f) := by
  unfold State.applyFrame
  refine .foldl h (fun _ _ h => .ite (.superAttach h) (.ite (.beginRebalance h) (.ite (.changeApiary h) (.ite (.takeFormats h) (.ite
    (.reseal (.ks' h)) (.ite ?_ (.applySetting h))))))) _
  split
  · exact .enterMode (.applySetting h)
  · exact .applySetting h

theorem Kept.frameEvent {s₀ s : State} (h : Kept s₀ s) {f : Frame} {status : Nat} : Kept s₀ (s.frameEvent f status) := .ev0 h

theorem Kept.frameReply {s₀ s : State} (h : Kept s₀ s) {f : Frame} {st : VStatus} : Kept s₀ (s.frameReply f st) := by
  unfold State.frameReply
  split
  · exact .ite h (.frame' (.replyTo h))
  · exact h

theorem Kept.hostAccess {s₀ s : State} (h : Kept s₀ s) {d : Nat} : Kept s₀ (s.hostAccess d) :=
  .foldl (.keepGather (.foldl h (fun _ _ h => .failCmd h) _)) (fun _ _ h => .raiseNs h) _

theorem Kept.colonySettings {s₀ s : State} (h : Kept s₀ s) {items : List Item} : Kept s₀ (s.colonySettings items) :=
  .ite h (.foldl (.ite (.ite (.ev0 (.control (.co' h))) (.control (.co' h))) (.co' h)) (fun _ _ h => .send h) _)

theorem Kept.doApply {s₀ s : State} (h : Kept s₀ s) {f : Frame} : Kept s₀ (s.doApply f) :=
  .frameReply (.frameEvent (.commit (.foldl (.colonySettings (.endFrame (.applyFrame h))) (fun _ _ h => .hostAccess h) _)))

theorem Kept.doAbort {s₀ s : State} (h : Kept s₀ s) {f : Frame} {st : VStatus} : Kept s₀ (s.doAbort f st) :=
  .cond (.frameReply (.frameEvent (.commit (.endFrame h)))) (fun _ h => .vk' h) _

theorem Kept.tickFrame {s₀ s : State} (h : Kept s₀ s) {f : Frame} : Kept s₀ (s.tickFrame f).1 :=
  .fst_ite h (.fst_ite (.fst_ite (.pair (.doApply h)) (.fst_ite (.fst_ite (.pair (.doAbort h)) h) (.pair (.doAbort h)))) (.fst_ite (.pair
    (.doAbort h)) (.fst_ite (.pair (.doApply h)) (.pair (.doAbort h)))))

theorem Kept.tickFrames {s₀ s : State} (h : Kept s₀ s) {l : List Frame} : Kept s₀ (s.tickFrames l) := by
  induction l generalizing s with
  | nil =>
    unfold State.tickFrames
    exact h
  | cons f l ih =>
    unfold State.tickFrames
    split
    · exact .ite (ih (.of_eq ‹_› (.tickFrame h))) (.of_eq ‹_› (.tickFrame h))

theorem Kept.refuseLate {s₀ s : State} (h : Kept s₀ s) : Kept s₀ s.refuseLate := by
  unfold State.refuseLate
  refine .foldl h (fun _ _ h => .commit (.ite (.frame' ?_) (.vk' ?_))) _
  · split
    · exact .replyTo h
    · exact h
  · split
    · exact .replyTo h
    · exact h

theorem Kept.lateCopies {s₀ s : State} (h : Kept s₀ s) : Kept s₀ s.lateCopies := .foldl h (fun _ _ h => .doAbort h) _

theorem Kept.internalFrame {s₀ s : State} (h : Kept s₀ s) {pair : Bool} {item : Item} {after : List After} :
    Kept s₀ (s.internalFrame pair item after) :=
  .commit (.vk' h)

theorem Kept.askFrame {s₀ s : State} (h : Kept s₀ s) {w : Waiter} {pair : Bool} {item : Item} {after : List After} :
    Kept s₀ (s.askFrame w pair item after) :=
  .ite (.replyTo h) (.internalFrame h)

theorem Kept.ownInternal {s₀ s : State} (h : Kept s₀ s) {pair : Bool} {item : Item} {after : List After} :
    Kept s₀ (s.ownInternal pair item after) :=
  .ite (.vk' h) (.internalFrame h)

theorem Kept.waitingFrames {s₀ s : State} (h : Kept s₀ s) : Kept s₀ s.waitingFrames := .foldl (.vk' h) (fun _ _ h => .ownInternal h) _

theorem Kept.frameTick {s₀ s : State} (h : Kept s₀ s) : Kept s₀ s.frameTick := by
  unfold State.frameTick
  dsimp only
  split
  · exact .cond (.md' (.tickFrames (.waitingFrames (.lateCopies (.refuseLate h))))) (fun _ h => .enterMode h) _
  · exact .tickFrames (.waitingFrames (.lateCopies (.refuseLate h)))

/-! ## The operations of Machine/Volumes -/

theorem Kept.drawKeys {s₀ s : State} (h : Kept s₀ s) : Kept s₀ s.drawKeys := .ks' (.afterDraw h)

theorem Kept.useWrap {s₀ s : State} (h : Kept s₀ s) {w : Nat} : Kept s₀ (s.useWrap w) := .ks' h

theorem Kept.domainCreate {s₀ s : State} (h : Kept s₀ s) {q : VReq} : Kept s₀ (s.domainCreate q) :=
  .ite (.reply h) (.ite (.reply h) (.control (.commit (.useWrap (.drawKeys h)))))

theorem execDomainCreate_keeps (q : VReq) (s : State) : Keeps s (execDomainCreate q s) :=
  .ok (.virkan (.refl s) (fun _ h => .domainCreate h))

theorem Kept.domainDelete {s₀ s : State} (h : Kept s₀ s) {q : VReq} : Kept s₀ (s.domainDelete q) :=
  .ite (.reply h) (.ite (.reply h) (.control h))

theorem execDomainDelete_keeps (q : VReq) (s : State) : Keeps s (execDomainDelete q s) :=
  .ok (.virkan (.refl s) (fun _ h => .domainDelete h))

theorem execDomainList_keeps (q : VReq) (s : State) : Keeps s (execDomainList q s) := .ok (.virkan (.refl s) (fun _ h => .reply h))

theorem Kept.nsCreate {s₀ s : State} (h : Kept s₀ s) {q : VReq} : Kept s₀ (s.nsCreate q) :=
  .ite (.reply h) (.ite (.reply h) (.ite (.reply h) (.ite (.reply h) (.control h))))

theorem execNsCreate_keeps (q : VReq) (s : State) : Keeps s (execNsCreate q s) := .ok (.virkan (.refl s) (fun _ h => .nsCreate h))

theorem Kept.withNs {s₀ s : State} (h : Kept s₀ s) {q : VReq} {op nsid : Nat} {f : Namespace → State} (hf : ∀ n, Kept s₀ (f n)) :
    Kept s₀ (s.withNs q op nsid f) := by
  unfold State.withNs
  split
  · exact .reply h
  · exact .ite (hf _) (.reply h)

theorem execNsDelete_keeps (q : VReq) (s : State) : Keeps s (execNsDelete q s) :=
  .ok (.virkan (.refl s) (fun _ h => .withNs h (fun _ => .control h)))

theorem execNsResize_keeps (q : VReq) (s : State) : Keeps s (execNsResize q s) :=
  .ok (.virkan (.refl s) (fun _ h => .withNs h (fun _ => .ite (.reply h) (.control h))))

theorem execNsList_keeps (q : VReq) (s : State) : Keeps s (execNsList q s) := .ok (.virkan (.refl s) (fun _ h => .reply h))

theorem Kept.snapCreate {s₀ s : State} (h : Kept s₀ s) {q : VReq} : Kept s₀ (s.snapCreate q) :=
  .withNs h (fun _ => .ite (.reply h) (.control (.reply (.rd' h))))

theorem execSnapCreate_keeps (q : VReq) (s : State) : Keeps s (execSnapCreate q s) := .ok (.virkan (.refl s) (fun _ h => .snapCreate h))

theorem execSnapDelete_keeps (q : VReq) (s : State) : Keeps s (execSnapDelete q s) :=
  .ok (.virkan (.refl s) (fun _ h => .withNs h (fun _ => .ite (.reply h) (.mapChange h))))

theorem execSnapClone_keeps (q : VReq) (s : State) : Keeps s (execSnapClone q s) :=
  .ok (.virkan (.refl s) (fun _ h => .withNs h (fun _ => .ite (.reply h) (.ite (.reply h) (.ite (.reply h) (.ite (.reply h) (.mapChange
    h)))))))

theorem execTreeDropCascade_keeps (s : State) : Keeps s (execTreeDropCascade s) := by
  have h := Kept.refl s
  unfold execTreeDropCascade
  refine .ok ?_
  split
  · exact h
  · exact .mapChange h

/-! ## The operations of Machine/KeyOps -/

theorem Kept.exportBlob {s₀ s : State} (h : Kept s₀ s) {escrow : Bytes} : Kept s₀ (s.exportBlob escrow).1 := by
  unfold State.exportBlob
  dsimp only
  exact .afterDraw (.foldl_fst (.pair (.drawKeys h)) (fun _ _ h => .pair (.useWrap h)) _)

theorem Kept.attest {s₀ s : State} (h : Kept s₀ s) {nonce : Bytes} : Kept s₀ (s.attest nonce).1 := .pair (.afterDraw h)

/-! ## The operations of Machine/FenceOps -/

theorem Kept.raiseComb {s₀ s : State} (h : Kept s₀ s) {link : Nat} : Kept s₀ (s.raiseComb link) := by
  unfold State.raiseComb
  split
  · exact .ite (.pr' (.sendTask h)) h
  · exact h

theorem Kept.raiseHive {s₀ s : State} (hk : Kept s₀ s) {h : Nat} : Kept s₀ (s.raiseHive h) := .foldl hk (fun _ _ h => .raiseComb h) _

theorem Kept.beginRound {s₀ s : State} (h : Kept s₀ s) : Kept s₀ s.beginRound := by
  unfold State.beginRound
  dsimp only
  split
  · exact .raiseHive (.pr' (.pr' h))
  · exact .pr' (.pr' h)

theorem Kept.loseRound {s₀ s : State} (h : Kept s₀ s) : Kept s₀ s.loseRound :=
  .autoMode (.pr' (.foldl h (fun _ _ h => .raiseAna (.domain' h)) _))

theorem Kept.winRound {s₀ s : State} (h : Kept s₀ s) : Kept s₀ s.winRound := .foldl (.ev0 (.pr' h)) (fun _ _ h => .raiseHive h) _

theorem Kept.judgeRound {s₀ s : State} (h : Kept s₀ s) : Kept s₀ s.judgeRound := .ite h (.ite (.loseRound h) (.ite h (.pr' h)))

theorem Kept.endRound {s₀ s : State} (h : Kept s₀ s) : Kept s₀ s.endRound :=
  .ite h (.ite (.judgeRound (.beginRound (.pr' h))) (.ite (.winRound (.pr' h)) (.loseRound (.pr' h))))

theorem Kept.polled {s₀ s : State} (hk : Kept s₀ s) {h : Nat} : Kept s₀ (s.polled h) := .ite (.endRound hk) hk

theorem Kept.fenceAnswer {s₀ s : State} (h : Kept s₀ s) {link : Nat} {won lost : Bool} : Kept s₀ (s.fenceAnswer link won lost) := by
  unfold State.fenceAnswer
  refine .ite h (.ite (.ite (.loseRound (.pr' h)) ?_) (.judgeRound (.pr' h)))
  split
  · exact .ite (.ev0 (.pr' h)) (.pr' h)
  · exact .pr' h

theorem Kept.retryRaises {s₀ s : State} (h : Kept s₀ s) : Kept s₀ s.retryRaises :=
  .ite (.foldl (.pr' h) (fun _ _ h => .raiseHive h) _) (.ite (.endRound h) h)

/-! ## The operations of Machine/LinkEndOps -/

theorem Kept.headAck {s₀ s : State} (h : Kept s₀ s) {link : Nat} : Kept s₀ (s.headAck link) := by
  unfold State.headAck
  split
  · exact .lane h
  · exact h

theorem Kept.headTook {s₀ s : State} (h : Kept s₀ s) {link : Nat} : Kept s₀ (s.headTook link) := .headAck (.stat (.link' h))

theorem Kept.linkDown {s₀ s : State} (h : Kept s₀ s) {link : Nat} : Kept s₀ (s.linkDown link) := by
  unfold State.linkDown
  refine .ev0 (.bump (.bridge' (.link' h) ?_))
  exact (SameComb.port' · _ _)

theorem Kept.headHello {s₀ s : State} (h : Kept s₀ s) {link kind : Nat} : Kept s₀ (s.headHello link kind) := by
  unfold State.headHello
  split
  · exact h
  · exact .lane (.send h)

theorem Kept.bridgeHello {s₀ s : State} (h : Kept s₀ s) {link : Nat} {port : Side} {rate kind : Nat} :
    Kept s₀ (s.bridgeHello link port rate kind) := by
  unfold State.bridgeHello
  split
  · exact h
  · exact .lane h

theorem Kept.startRetrain {s₀ s : State} (h : Kept s₀ s) {link : Nat} : Kept s₀ (s.startRetrain link) := by
  unfold State.startRetrain
  split
  · exact h
  · exact .ite h (.ite (.headHello (.bump (.link' h))) (.ite (.linkDown (.bump (.link' h))) (.headHello (.ev0 (.link' (.bump (.link'
      h)))))))

theorem Kept.crcError {s₀ s : State} (h : Kept s₀ s) {link : Nat} : Kept s₀ (s.crcError link) :=
  .ite (.startRetrain (.bump (.link' h))) (.bump (.link' h))

theorem Kept.headNak {s₀ s : State} (h : Kept s₀ s) {link : Nat} : Kept s₀ (s.headNak link) := by
  unfold State.headNak
  split
  · exact h
  · exact .ite h (.lane (.link' h))

theorem Kept.headHears {s₀ s : State} (h : Kept s₀ s) {link : Nat} {f : LFrame} {act : State → State} (hact : ∀ t, Kept s₀ t → Kept s₀
  (act t)) :
    Kept s₀ (s.headHears link f act) :=
  .ite h (.ite (.headNak (.crcError h)) (.ite (.headPump (hact _ (.link' h))) (hact _ h)))

theorem Kept.headFrame {s₀ s : State} (h : Kept s₀ s) {link : Nat} {f : LFrame} {act : State → State} (hact : ∀ t, Kept s₀ t → Kept s₀
  (act t)) :
    Kept s₀ (s.headFrame link f act) := by
  unfold State.headFrame
  refine .headHears h (fun _ h => ?_)
  split
  · exact h
  · exact .ite h (.ite (hact _ (.link' (.headTook h))) (.ite (.headAck h) (.headNak h)))

theorem Kept.progFailed {s₀ s : State} (h : Kept s₀ s) {ord m : Nat} : Kept s₀ (s.progFailed ord m) := .open' h

theorem Kept.progPassed {s₀ s : State} (h : Kept s₀ s) {ord m page : Nat} : Kept s₀ (s.progPassed ord m page) := by
  unfold State.progPassed
  split
  · exact h
  · split
    · exact h
    · exact .ite (.sendProgram (.open' h)) (.open' h)

theorem Kept.fencedFrom {s₀ s : State} (hk : Kept s₀ s) {h : Nat} : Kept s₀ (s.fencedFrom h) := .sp' hk

theorem Kept.issueErases {s₀ s : State} (h : Kept s₀ s) : Kept s₀ s.issueErases := by
  unfold State.issueErases
  refine .foldl h (fun _ _ h => .ite ?_ h) _
  split
  · exact .ite (.sendTask h) h
  · exact h

theorem Kept.eraseFailed {s₀ s : State} (h : Kept s₀ s) {link die block : Nat} : Kept s₀ (s.eraseFailed link die block) :=
  .retireSet (.set' h)

theorem Kept.erasePassed {s₀ s : State} (h : Kept s₀ s) {link die block : Nat} : Kept s₀ (s.erasePassed link die block) := .set' h

theorem Kept.levelEpoch {s₀ s : State} (h : Kept s₀ s) {link : Nat} : Kept s₀ (s.levelEpoch link) := by
  unfold State.levelEpoch
  split
  · exact h
  · exact .ite h (.ite (.sendTask h) (.ite (.sendTask h) h))

theorem Kept.fenceDone {s₀ s : State} (h : Kept s₀ s) {link : Nat} {use : TaskUse} {st : Option StatusType} :
    Kept s₀ (s.fenceDone link use st) := by
  unfold State.fenceDone
  split
  · exact .levelEpoch (.cond h (fun _ h => .ev0 h) _)
  · exact .fenceAnswer (.cond h (fun _ h => .ev0 h) _)
  · exact .levelEpoch h

theorem Kept.diagDone {s₀ s : State} (h : Kept s₀ s) {t : DieTask} {w : BitVec 32} {wt : Waiter} : Kept s₀ (s.diagDone t w wt) :=
  .ite (.replyTo h) (.replyTo h)

theorem Kept.readFinding {s₀ s : State} (h : Kept s₀ s) {link : Nat} {t : DieTask} {st : Option StatusType} :
    Kept s₀ (s.readFinding link t st) := by
  unfold State.readFinding
  split
  · dsimp only
    split
    · exact .scheduleRewrite h
    · exact .grownFault h
    · exact h
  · dsimp only
    split
    · exact .scheduleRewrite h
    · exact .grownFault h
    · exact h
  · dsimp only
    split
    · exact .scheduleRewrite h
    · exact .grownFault h
    · exact h

theorem Kept.holdTask {s₀ s : State} (h : Kept s₀ s) {link tag wait : Nat} : Kept s₀ (s.holdTask link tag wait) := .link' h

theorem Kept.refusedBusy {s₀ s : State} (h : Kept s₀ s) {link tag wait : Nat} : Kept s₀ (s.refusedBusy link tag wait) :=
  .link' (.holdTask h)

theorem Kept.sendLeased {s₀ s : State} (h : Kept s₀ s) {link : Nat} {k : DieTask} : Kept s₀ (s.sendLeased link k) :=
  .ite (.sendTask h) (.link' h)

theorem Kept.suspendFor {s₀ s : State} (h : Kept s₀ s) {link die : Nat} : Kept s₀ (s.suspendFor link die) := .ite h (.sendTask h)

theorem Kept.sendWaiting {s₀ s : State} (h : Kept s₀ s) {link die : Nat} : Kept s₀ (s.sendWaiting link die) := by
  unfold State.sendWaiting
  split
  · exact h
  · exact .foldl h (fun _ _ h => .sendLeased (.link' h)) _

theorem Kept.afterRead {s₀ s : State} (h : Kept s₀ s) {link die : Nat} {w : BitVec 32} : Kept s₀ (s.afterRead link die w) :=
  .ite h (.ite (.sendWaiting h) (.ite h (.sendTask h)))

theorem Kept.taskDone {s₀ s : State} (h : Kept s₀ s) {link : Nat} {t : DieTask} {w : BitVec 32} : Kept s₀ (s.taskDone link t w) := by
  unfold State.taskDone
  split
  · exact h
  · split
    · dsimp only
      split
      · exact .cond (.stat (.refusedBusy h)) (fun _ h => .suspendFor h) _
      · exact .cond (.stat (.refusedBusy h)) (fun _ h => .suspendFor h) _
      · exact .cond (.stat (.refusedBusy h)) (fun _ h => .suspendFor h) _
      · split
        · exact .progPassed (.ite (.stat (.link' h)) (.link' h))
        · exact .ite (.issuePrograms (.open' (.ite (.stat (.link' h)) (.link' h)))) (.fencedFrom (.ite (.stat (.link' h)) (.link' h)))
        · exact .levelEpoch (.open' (.ite (.stat (.link' h)) (.link' h)))
        · exact .progFailed (.ite (.stat (.link' h)) (.link' h))
    · dsimp only
      split
      · exact .cond (.stat (.refusedBusy h)) (fun _ h => .suspendFor h) _
      · exact .cond (.stat (.refusedBusy h)) (fun _ h => .suspendFor h) _
      · exact .cond (.stat (.refusedBusy h)) (fun _ h => .suspendFor h) _
      · split
        · exact .erasePassed (.ite (.stat (.link' h)) (.link' h))
        · exact .ite (.issueErases (.ite (.stat (.link' h)) (.link' h))) (.fencedFrom (.ite (.stat (.link' h)) (.link' h)))
        · exact .levelEpoch (.ite (.stat (.link' h)) (.link' h))
        · exact .ite (.stat (.link' h)) (.link' h)
        · exact .eraseFailed (.ite (.stat (.link' h)) (.link' h))
    · dsimp only
      split
      · exact .cond (.stat (.refusedBusy h)) (fun _ h => .suspendFor h) _
      · exact .cond (.stat (.refusedBusy h)) (fun _ h => .suspendFor h) _
      · exact .cond (.stat (.refusedBusy h)) (fun _ h => .suspendFor h) _
      · exact .fenceDone (.ite (.stat (.link' h)) (.link' h))
    · dsimp only
      split
      · exact .cond (.stat (.refusedBusy h)) (fun _ h => .suspendFor h) _
      · exact .cond (.stat (.refusedBusy h)) (fun _ h => .suspendFor h) _
      · exact .cond (.stat (.refusedBusy h)) (fun _ h => .suspendFor h) _
      · exact .fenceDone (.ite (.stat (.link' h)) (.link' h))
    · dsimp only
      split
      · exact .cond (.stat (.refusedBusy h)) (fun _ h => .suspendFor h) _
      · exact .cond (.stat (.refusedBusy h)) (fun _ h => .suspendFor h) _
      · exact .cond (.stat (.refusedBusy h)) (fun _ h => .suspendFor h) _
      · exact .afterRead (.diagDone (.readFinding (.ite (.stat (.link' h)) (.link' h))))
    · dsimp only
      split
      · exact .cond (.stat (.refusedBusy h)) (fun _ h => .suspendFor h) _
      · exact .cond (.stat (.refusedBusy h)) (fun _ h => .suspendFor h) _
      · exact .cond (.stat (.refusedBusy h)) (fun _ h => .suspendFor h) _
      · exact .ite (.ite (.stat (.link' h)) (.link' h)) (.sendWaiting (.ite (.stat (.link' h)) (.link' h)))
    · dsimp only
      split
      · exact .cond (.stat (.refusedBusy h)) (fun _ h => .suspendFor h) _
      · exact .cond (.stat (.refusedBusy h)) (fun _ h => .suspendFor h) _
      · exact .cond (.stat (.refusedBusy h)) (fun _ h => .suspendFor h) _
      · exact .ite (.stat (.link' h)) (.link' h)
    · dsimp only
      split
      · exact .cond (.stat (.refusedBusy h)) (fun _ h => .suspendFor h) _
      · exact .cond (.stat (.refusedBusy h)) (fun _ h => .suspendFor h) _
      · exact .cond (.stat (.refusedBusy h)) (fun _ h => .suspendFor h) _
      · split
        · exact .ite (.ite (.stat (.link' h)) (.link' h)) (.fencedFrom (.ite (.stat (.link' h)) (.link' h)))
        · exact .afterRead (.readFinding (.ite (.stat (.link' h)) (.link' h)))

theorem Kept.reissueBusy {s₀ s : State} (h : Kept s₀ s) {link : Nat} : Kept s₀ (s.reissueBusy link) := by
  unfold State.reissueBusy
  refine .foldl h (fun _ _ h => ?_) _
  split
  · exact h
  · refine .ite h (.ite (.cond (.holdTask h) (fun _ h => .suspendFor h) _) ?_)
    split
    · exact .issuePrograms (.open' (.link' h))
    · exact .issueErases (.link' h)
    · exact .sendLeased (.link' h)

theorem Kept.reissueTask {s₀ s : State} (h : Kept s₀ s) {link : Nat} {k : DieTask} : Kept s₀ (s.reissueTask link k) := by
  unfold State.reissueTask
  split
  · exact .issuePrograms (.open' (.link' h))
  · exact .issueErases (.link' h)
  · exact .sendLeased (.link' h)

theorem Kept.windowTells {s₀ s : State} (h : Kept s₀ s) {link : Nat} {k : DieTask} {op status : BitVec 32} :
    Kept s₀ (s.windowTells link k op status) :=
  .ite (.reissueTask h) (.ite (.sendRegRead h) (.ite (.reissueTask h) (.taskDone h)))

theorem Kept.admitComb {s₀ s : State} (h : Kept s₀ s) {link : Nat} : Kept s₀ (s.admitComb link) := by
  unfold State.admitComb
  split
  · exact h
  · exact .ite (.combWorks h) h

theorem Kept.bridgeEventFrame {s₀ s : State} (h : Kept s₀ s) {link : Nat} {port : Side} {e : Nat × Nat × Nat} :
    Kept s₀ (s.bridgeEventFrame link port e) :=
  .toHead h

theorem Kept.measureComb {s₀ s : State} (h : Kept s₀ s) {link : Nat} : Kept s₀ (s.measureComb link) := by
  unfold State.measureComb
  split
  · exact h
  · exact .ite h (.extend h)

theorem Kept.linkIsUp {s₀ s : State} (h : Kept s₀ s) {link : Nat} : Kept s₀ (s.linkIsUp link) := .ev0 (.measureComb (.link' h))

theorem Kept.linkStarts {s₀ s : State} (h : Kept s₀ s) {link : Nat} : Kept s₀ (s.linkStarts link) := by
  unfold State.linkStarts
  refine .bridge' (.link' h) ?_
  exact (SameComb.port' · _ _)

theorem Kept.linkRises {s₀ s : State} (h : Kept s₀ s) {link : Nat} {b : Bridge} : Kept s₀ (s.linkRises link b) :=
  .foldl (.linkIsUp (.link' (.linkStarts (.bridgeHello (.headHello h))))) (fun _ _ h => .bridgeEventFrame h) _

theorem Kept.linkJoins {s₀ s : State} (h : Kept s₀ s) {link : Nat} : Kept s₀ (s.linkJoins link) := .levelEpoch (.admitComb h)

theorem Kept.linkServes {s₀ s : State} (h : Kept s₀ s) {link : Nat} {b : Bridge} : Kept s₀ (s.linkServes link b) := by
  unfold State.linkServes
  refine .issueAll (.judgeHive (.foldl (.link' (.foldl (.linkJoins h) (fun _ _ h => .ite h (.ite (.taskDone h) ?_)) _)) (fun _ _ h =>
    .sendRegRead h) _))
  split
  · exact .windowTells h
  · exact h

theorem Kept.linkUp {s₀ s : State} (h : Kept s₀ s) {link : Nat} {b : Bridge} : Kept s₀ (s.linkUp link b) := .linkServes (.linkRises h)

theorem Kept.bringUpFails {s₀ s : State} (h : Kept s₀ s) {link : Nat} : Kept s₀ (s.bringUpFails link) :=
  .ite (.ev0 (.link' h)) (.link' h)

theorem Kept.holdLink {s₀ s : State} (h : Kept s₀ s) {link hive slot : Nat} : Kept s₀ (s.holdLink link hive slot) := .ev0 (.link' h)

/-! ## The operations of Machine/ReadOps -/

theorem Kept.heed {s₀ s : State} (hk : Kept s₀ s) {h : Nat} : Kept s₀ (s.heed h) := by
  unfold State.heed
  refine .ite hk (.foldl hk (fun _ _ h => ?_) _)
  split
  · exact h
  · exact .ite h (.ite (.levelEpoch (.link' h)) (.ite (.link' h) (.fencedFrom (.link' h))))

theorem Kept.overErases {s₀ s u : State} (h : Kept s₀ s) {t : Stripe} {js : List Nat} (hu : s.overErases t js = some u) :
    Kept s₀ u := by
  refine List.foldlRecOn (motive := fun acc : Option State => ∀ u ∈ acc, Kept s₀ u) _ _ (fun _ he => Option.some.inj he ▸ h) ?_ u hu
  intro acc hacc m _ u hu
  cases acc with
  | none => exact nomatch hu
  | some v =>
    have hv : Kept s₀ v := hacc v rfl
    dsimp only at hu
    split at hu
    · exact Option.some.inj hu ▸ hv
    · split at hu
      · exact Option.some.inj hu ▸ hv
      · split at hu
        · exact Option.some.inj hu ▸ hv
        · split at hu
          · exact nomatch hu
          · exact Option.some.inj hu ▸ hv.die'

theorem Kept.heedPages {s₀ s : State} (h : Kept s₀ s) {t : Stripe} {ps : List (Nat × Nat)} : Kept s₀ (s.heedPages t ps) :=
  .foldl (.ite (.scheduleRewrite h) h) (fun _ _ h => .grownFault h) _

theorem Kept.loseChunk {s₀ s : State} (h : Kept s₀ s) {ord hive : Nat} {c : Chunk} : Kept s₀ (s.loseChunk ord hive c) :=
  .bump (.event (.commit h))

theorem Kept.readStored {s₀ s : State} (h : Kept s₀ s) {c : Chunk} : Kept s₀ (s.readStored c).1 := by
  unfold State.readStored
  split
  · exact h
  · dsimp only
    split
    · exact .fst_ite (.pair (.heedPages h)) (.pair (.heedPages (.ite (.stat (.stat h)) (.scheduleRewrite (.stat (.stat h))))))
    · split
      · exact .pair (.heedPages (.stat (.scheduleRewrite (.bump (.event h)))))
      · exact .fst_ite (.pair (.bump (.event h))) (.pair (.heedPages (.scheduleRewrite (.loseChunk (.bump (.event h))))))

theorem Kept.readChunk {s₀ s : State} (h : Kept s₀ s) {chunk : Nat} : Kept s₀ (s.readChunk chunk).1 := by
  have hread {t u : State} (ht : Kept s₀ t) {c : Chunk} {st : Stripe} {js : List Nat} (hu : t.overErases st js = some u) :
      Kept s₀ (u.readStored c).1 := .readStored (ht.overErases hu)
  simp only [State.readChunk]
  split
  · split
    · refine .fst_ite (.pair h) ?_
      split
      · exact .readStored (.ite h.heed h)
      · refine .fst_ite (.pair (.ite h.heed h)) ?_
        split
        · exact .pair (.ite h.heed h)
        · exact hread (.ite h.heed h) ‹_›
    · exact .pair h
    · exact .pair h
  · split
    · exact .fst_ite (.pair h) (.pair h)
    · exact .pair h

/-! ## The operations of Machine/NvmeOps -/

theorem Kept.nvEnd {s₀ s : State} (h : Kept s₀ s) {e : Sqe} {st : NvStatus} : Kept s₀ (s.nvEnd e st) := .cqe h

theorem Kept.nvDone {s₀ s : State} (h : Kept s₀ s) {e : Sqe} {dw0 : Nat} {data : Bytes} : Kept s₀ (s.nvDone e dw0 data) := .cqe h

theorem Kept.nvme {s₀ s : State} (h : Kept s₀ s) {e : Sqe} {body : Ctrl → State → State} (hbody : ∀ a t, Kept s₀ t → Kept s₀ ((body a) t))
  :
    Kept s₀ (s.nvme e body) := by
  unfold State.nvme
  split
  · exact h
  · exact .ite h (hbody _ _ (.stat h))

theorem Kept.forgetCmds {s₀ s : State} (h : Kept s₀ s) {p : HostCmd → Bool} : Kept s₀ (s.forgetCmds p) :=
  .keepGather (.foldl h (fun _ _ h => .dropCmd h) _)

theorem Kept.endAssoc {s₀ s : State} (h : Kept s₀ s) {id : Nat} : Kept s₀ (s.endAssoc id) := by
  unfold State.endAssoc
  split
  · exact h
  · exact .send (.vk' (.nv' (.closeVia (.forgetCmds (.foldl h (fun _ _ h => .send h) _)))))

theorem Kept.endConn {s₀ s : State} (h : Kept s₀ s) {id : Nat} : Kept s₀ (s.endConn id) := by
  unfold State.endConn
  split
  · exact h
  · split
    · exact .nv' h
    · exact .ite (.endAssoc (.nv' h)) (.ctrl' (.forgetCmds (.nv' h)))

theorem Kept.fatalConn {s₀ s : State} (h : Kept s₀ s) {id fes : Nat} : Kept s₀ (s.fatalConn id fes) :=
  .ite (.endConn (.bump (.ev0 (.send (.send h))))) h

theorem Kept.chunkBytes {s₀ s : State} (h : Kept s₀ s) {chunk : Nat} : Kept s₀ (s.chunkBytes chunk).1 := by
  unfold State.chunkBytes
  split
  · refine .fst_ite ?_ h
    split
    · exact .pair (.of_eq ‹_› (.readChunk h))
    · exact .pair (.of_eq ‹_› (.readChunk h))
    · exact .pair (.of_eq ‹_› (.readChunk h))
  · split
    · exact .pair (.of_eq ‹_› (.readChunk h))
    · exact .pair (.of_eq ‹_› (.readChunk h))

theorem Kept.nsBlock {s₀ s : State} (h : Kept s₀ s) {nsid k : Nat} : Kept s₀ (s.nsBlock nsid k).1 := by
  unfold State.nsBlock
  split
  · refine .fst_ite h (.fst_ite h ?_)
    split
    · exact .pair (.of_eq ‹_› (.chunkBytes h))
    · exact .chunkBytes h

theorem Kept.readRange {s₀ s : State} (h : Kept s₀ s) {nsid off len : Nat} : Kept s₀ (s.readRange nsid off len).1 := by
  unfold State.readRange
  refine .foldl_fst h (fun _ _ h => ?_) _
  split
  · exact .pair (.of_eq ‹_› (.nsBlock h))

theorem Kept.gather {s₀ s : State} (h : Kept s₀ s) {ctrl qid cid patience : Nat} {hs : List (Nat × Nat)} :
    Kept s₀ (s.gather ctrl qid cid patience hs).1 :=
  .fst_ite h (.fst_ite h (.pair (.foldl h (fun _ _ h => .joinGather h) _)))

theorem Kept.countWait {s₀ s : State} (h : Kept s₀ s) {nsid : Nat} {st : NvStatus} : Kept s₀ (s.countWait nsid st) :=
  .ite (.stat h) (.ite (.stat h) (.ite (.stat h) h))

theorem Kept.regather {s₀ s : State} (h : Kept s₀ s) {ctrl qid cid : Nat} {hs : List (Nat × Nat)} :
    Kept s₀ (s.regather ctrl qid cid hs).1 :=
  .fst_ite h (.pair (.foldl (.hv' h) (fun _ _ h => .joinGather h) _))

theorem Kept.tryRead {s₀ s : State} (h : Kept s₀ s) {ctrl qid cid nsid slba nlb : Nat} {first : Option Nat} :
    Kept s₀ (s.tryRead ctrl qid cid nsid slba nlb first) := by
  unfold State.tryRead
  split
  · dsimp only
    refine .ite (.countWait (.dropCmd (.cqe (.leaveGather (.readRange h))))) (.ite (.stat (.dropCmd (.cqe (.leaveGather (.readRange h)))))
      ?_)
    split
    · exact .countWait (.dropCmd (.cqe (.leaveGather (.of_eq ‹_› (.regather (.readRange h))))))
    · exact .of_eq ‹_› (.regather (.readRange h))
  · dsimp only
    refine .ite (.countWait (.dropCmd (.cqe (.leaveGather (.readRange h))))) (.ite (.stat (.dropCmd (.cqe (.leaveGather (.readRange h)))))
      ?_)
    split
    · exact .countWait (.dropCmd (.cqe (.leaveGather (.of_eq ‹_› (.gather (.readRange h))))))
    · exact .nv' (.of_eq ‹_› (.gather (.readRange h)))

theorem Kept.nvRead {s₀ s : State} (h : Kept s₀ s) {c : Ctrl} {e : Sqe} : Kept s₀ (s.nvRead c e) := by
  unfold State.nvRead
  split
  · exact .nvEnd h
  · refine .ite (.nvEnd h) (.ite (.nvEnd h) ?_)
    split
    · exact .ite (.nvEnd h) (.nvEnd h)
    · exact .tryRead h

theorem Kept.markBroken {s₀ s : State} (h : Kept s₀ s) {stream : Option (Nat × Nat)} : Kept s₀ (s.markBroken stream).1 := by
  unfold State.markBroken
  split
  · exact h
  · exact .fst_ite h (.pair (.bump (.ev0 (.stream' h))))

theorem Kept.failHeld {s₀ s : State} (h : Kept s₀ s) {n : Nat} {l : List (HostCmd × NvStatus)} : Kept s₀ (s.failHeld n l) := by
  induction n generalizing s l with
  | zero => cases l <;> exact h
  | succ n ih =>
    cases l with
    | nil => exact h
    | cons x l =>
      unfold State.failHeld
      exact .ite (ih h) (ih (.markBroken (.failCmd h)))

theorem Kept.breakStream {s₀ s : State} (h : Kept s₀ s) {key id : Nat} : Kept s₀ (s.breakStream key id) := .failHeld (.markBroken h)

theorem Kept.failStream {s₀ s : State} (h : Kept s₀ s) {ctrl qid cid : Nat} {stream : Option (Nat × Nat)} {st : NvStatus} :
    Kept s₀ (s.failStream ctrl qid cid stream st) :=
  .failHeld (.markBroken (.failCmd h))

theorem Kept.spoilStream {s₀ s : State} (h : Kept s₀ s) {key id : Nat} {nqn : Bytes} {queue : Nat × Nat} :
    Kept s₀ (s.spoilStream key id nqn queue) := by
  unfold State.spoilStream
  split
  · exact .ite (.breakStream h) h
  · exact .bump (.ev0 (.nv' h))

theorem Kept.joinStream {s₀ s : State} (h : Kept s₀ s) {key id : Nat} {nqn : Bytes} {ctrl qid cid : Nat} :
    Kept s₀ (s.joinStream key id nqn ctrl qid cid).1 := by
  unfold State.joinStream
  split
  · exact .fst_ite (.pair (.spoilStream h)) (.pair (.nv' h))
  · exact .fst_ite h (.fst_ite h (.fst_ite (.pair (.breakStream h)) (.fst_ite (.pair (.breakStream h)) (.pair (.stream' h)))))

theorem Kept.countHeld {s₀ s : State} (h : Kept s₀ s) {c : HostCmd} : Kept s₀ (s.countHeld c) := .stat h

theorem Kept.cmd' {s₀ s : State} (h : Kept s₀ s) {ctrl qid cid : Nat} {f : HostCmd → HostCmd} : Kept s₀ (s.cmd' ctrl qid cid f) := .nv' h

theorem Kept.writeRecs {s₀ s : State} (h : Kept s₀ s) {domain nsid off stream ctrl : Nat} {data : Bytes} {after : List After} :
    Kept s₀ (s.writeRecs domain nsid off stream ctrl data after) :=
  .commitChain h

theorem Kept.zeroRanges {s₀ s : State} (h : Kept s₀ s) {c : HostCmd} {n : Namespace} {rs : List (Nat × Nat)} :
    Kept s₀ (s.zeroRanges c n rs) := by
  unfold State.zeroRanges
  refine .ite ?_ (.flushMap (.addPending (.cmd' (.foldl h (fun _ _ h => .writeRecs h) _))))
  split
  · exact .dropCmd (.cqe h)
  · exact .cmd' (.writeRecs (.foldl h (fun _ _ h => .writeRecs h) _))

theorem Kept.admitBlock {s₀ s : State} (h : Kept s₀ s) {c : HostCmd} : Kept s₀ (s.admitBlock c) := by
  unfold State.admitBlock
  split
  · split
    · exact .failStream h
    · split
      · exact .failStream h
      · exact .ite h (.judgeRings (.cmd' (.writeRecs (.countHeld h))))
  · split
    · exact .failStream h
    · split
      · exact .failStream h
      · exact .ite h (.judgeRings (.zeroRanges (.countHeld h)))
  · exact h

theorem Kept.nvWriteIn {s₀ s : State} (h : Kept s₀ s) {e : Sqe} {n : Namespace} {stream : Option (Nat × Nat)} {zeroes : Bool} {off len :
  Nat} :
    Kept s₀ (s.nvWriteIn e n stream zeroes off len) := by
  unfold State.nvWriteIn
  split
  · exact .failStream h
  · refine .ite ?_ (.ite (.fatalConn (.failStream h)) (.send (.nv' h)))
    split
    · dsimp only
      split
      · exact .admitBlock (.nv' h)
      · exact .nv' h
    · dsimp only
      split
      · exact .admitBlock (.nv' h)
      · exact .nv' h

theorem Kept.nvWrite {s₀ s : State} (h : Kept s₀ s) {c : Ctrl} {e : Sqe} {zeroes : Bool} : Kept s₀ (s.nvWrite c e zeroes) := by
  unfold State.nvWrite
  split
  · exact .nvEnd h
  · refine .ite (.nvWriteIn h) (.ite (.nvEnd h) ?_)
    split
    · exact .nvEnd (.of_eq ‹_› (.joinStream h))
    · exact .nvWriteIn (.of_eq ‹_› (.joinStream h))

theorem Kept.admitStream {s₀ s : State} (h : Kept s₀ s) {stream : Option (Nat × Nat)} : Kept s₀ (s.admitStream stream) := by
  unfold State.admitStream
  split
  · exact h
  · exact .foldl h (fun _ _ h => .admitBlock h) _

theorem Kept.hint {s₀ s : State} (h : Kept s₀ s) {n : Namespace} {rs : List (Nat × Nat)} : Kept s₀ (s.hint n rs) :=
  .ite (.stat (.afterDraw h)) (.flushMap (.addPending (.afterDraw h)))

theorem Kept.nvDsm {s₀ s : State} (h : Kept s₀ s) {c : Ctrl} {e : Sqe} : Kept s₀ (s.nvDsm c e) := by
  unfold State.nvDsm
  split
  · exact .nvEnd h
  · refine .ite (.nvDone h) (.ite (.nvEnd h) ?_)
    split
    · split
      · exact .nvEnd h
      · exact .ite (.nvEnd h) (.hint (.nvDone h))
    · split
      · exact .nvEnd h
      · exact .ite (.nvEnd h) (.admitBlock (.nv' h))

/-! ## The operations of Machine/IngestOps -/

theorem Kept.allocChunk {s₀ s : State} (h : Kept s₀ s) : Kept s₀ s.allocChunk.1 :=
  .pair (.ite (.ev0 (.rd' (.rd' (.ite (.rd' (.commit h)) h)))) (.rd' (.ite (.rd' (.commit h)) h)))

theorem Kept.filterSet {s₀ s : State} (h : Kept s₀ s) {fp : Bytes} : Kept s₀ (s.filterSet fp) := .rd' h

theorem Kept.countPositive {s₀ s : State} (h : Kept s₀ s) {wrong : Bool} : Kept s₀ (s.countPositive wrong) :=
  .ite (.ite (.stat (.rd' (.stat h))) (.rd' (.stat h))) (.beginFilter (.rd' (.ite (.stat (.rd' (.stat h))) (.rd' (.stat h)))))

theorem Kept.land {s₀ s : State} (h : Kept s₀ s) {key : Nat} {e : EnvEntry} {lane : Nat} : Kept s₀ (s.land key e lane) := by
  unfold State.land
  refine .ite (.rd' h) ?_
  split
  · exact .rd' h
  · exact .ite (.ite (.closeStripe (.placeEnv h)) (.placeEnv h)) (.rd' (.closeStripe h))

theorem Kept.storeFrame {s₀ s : State} (h : Kept s₀ s) {key lane d id : Nat} {content frame fp : Bytes} {f : StoreFlags} :
    Kept s₀ (s.storeFrame key lane d id content frame fp f) := by
  unfold State.storeFrame
  split
  · exact h
  · exact .ite (.stat (.land (.stat (.rd' h)))) (.land (.stat (.rd' h)))

theorem Kept.frameOf {s₀ s : State} (h : Kept s₀ s) {d id : Nat} {content : Bytes} : Kept s₀ (s.frameOf d id content).1 :=
  .pair (.ite (.bump (.event h)) h)

theorem Kept.storeAs {s₀ s : State} (h : Kept s₀ s) {key lane d id : Nat} {content fp : Bytes} {f : StoreFlags} :
    Kept s₀ (s.storeAs key lane d id content fp f) := by
  unfold State.storeAs
  refine .ite h ?_
  split
  · exact .storeFrame (.of_eq ‹_› (.frameOf h))

theorem Kept.storeNew {s₀ s : State} (h : Kept s₀ s) {key lane d : Nat} {content fp : Bytes} {f : StoreFlags} {same : Bool} :
    Kept s₀ (s.storeNew key lane d content fp f same).1 := by
  unfold State.storeNew
  split
  · exact .pair (.storeAs (.ite (.ite (.of_eq ‹_› (.allocChunk h)) (.filterSet (.of_eq ‹_› (.allocChunk h)))) (.addPending (.rd' (.ite
      (.of_eq ‹_› (.allocChunk h)) (.filterSet (.of_eq ‹_› (.allocChunk h))))))))

theorem Kept.compareOnly {s₀ s : State} (h : Kept s₀ s) {lane entry : Bytes} : Kept s₀ (s.compareOnly lane entry).1 :=
  .pair (.cond (.stat (.afterDraw h)) (fun _ h => .stat h) _)

theorem Kept.beginSelfTest {s₀ s : State} (h : Kept s₀ s) : Kept s₀ s.beginSelfTest := h.se'_of fun ⟨h1, h2, _, h4⟩ => ⟨h1, h2, (by decide
  : (1#32).toNat < 2 ^ 5), h4⟩

theorem Kept.cmpFault {s₀ s : State} (h : Kept s₀ s) {pair : Nat} : Kept s₀ (s.cmpFault pair) :=
  .beginSelfTest (.rd' (.ev0 (.bump (.bump h))))

theorem Kept.walkEntries {s₀ s : State} (h : Kept s₀ s) {bytewise : Bool} {fp content : Bytes} {l : List FpEntry} {hit : Bool} {clash :
  List Nat} :
    Kept s₀ (s.walkEntries bytewise fp content l hit clash).1 := by
  induction l generalizing s hit clash with
  | nil =>
    unfold State.walkEntries
    exact .pair (.countPositive h)
  | cons e l ih =>
    unfold State.walkEntries
    split
    · refine .fst_ite (ih (.of_eq ‹_› (.compareOnly h))) (.fst_ite (.pair (.cmpFault (.of_eq ‹_› (.compareOnly h)))) (.fst_ite (.pair
        (.countPositive (.of_eq ‹_› (.compareOnly h)))) (.fst_ite (ih (.of_eq ‹_› (.compareOnly h))) (.fst_ite ?_ (.pair (.countPositive
        (.of_eq ‹_› (.compareOnly h))))))))
      split
      · exact .fst_ite (.pair (.countPositive (.of_eq ‹_› (.chunkBytes (.of_eq ‹_› (.compareOnly h)))))) (ih (.of_eq ‹_› (.chunkBytes
          (.of_eq ‹_› (.compareOnly h)))))
      · exact .pair (.countPositive (.of_eq ‹_› (.chunkBytes (.of_eq ‹_› (.compareOnly h)))))
      · exact ih (.of_eq ‹_› (.chunkBytes (.of_eq ‹_› (.compareOnly h))))

theorem Kept.findDup {s₀ s : State} (h : Kept s₀ s) {d : Nat} {fp content : Bytes} {bytewise : Bool} {but : Nat} :
    Kept s₀ (s.findDup d fp content bytewise but).1 :=
  .fst_ite h (.walkEntries h)

theorem Kept.clashes {s₀ s : State} (h : Kept s₀ s) {d id : Nat} {clash : List Nat} : Kept s₀ (s.clashes d id clash) :=
  .foldl (.rd' h) (fun _ _ h => .event h) _

theorem Kept.laneKeeps {s₀ s : State} (h : Kept s₀ s) {fp : Bytes} : Kept s₀ (s.laneKeeps fp) := by
  unfold State.laneKeeps
  exact .se' (.stat (.afterDraw h))

theorem Kept.ingestChunk {s₀ s : State} (h : Kept s₀ s) {key lane d : Nat} {content : Bytes} :
    Kept s₀ (s.ingestChunk key lane d content).1 := by
  unfold State.ingestChunk
  refine .fst_ite (.storeNew (.stat (.stat (.laneKeeps h)))) (.fst_ite (.storeNew (.stat (.stat (.laneKeeps h)))) ?_)
  split
  · exact .pair (.stat (.of_eq ‹_› (.findDup (.stat (.stat (.laneKeeps h))))))
  · exact .pair (.storeAs (.of_eq ‹_› (.findDup (.stat (.stat (.laneKeeps h))))))
  · exact .storeNew (.of_eq ‹_› (.findDup (.stat (.stat (.laneKeeps h)))))
  · exact .storeNew (.of_eq ‹_› (.findDup (.stat (.stat (.laneKeeps h)))))
  · split
    · exact .pair (.clashes (.of_eq ‹_› (.storeNew (.of_eq ‹_› (.findDup (.stat (.stat (.laneKeeps h))))))))

theorem Kept.ingestBlock {s₀ s : State} (h : Kept s₀ s) {key lane d nsid k : Nat} {content : Bytes} :
    Kept s₀ (s.ingestBlock key lane d nsid k content) := by
  unfold State.ingestBlock
  refine .ite (.addPending h) ?_
  split
  · exact .addPending (.of_eq ‹_› (.ingestChunk h))

theorem Kept.waitMerge {s₀ s : State} (h : Kept s₀ s) {nsid k key hive : Nat} : Kept s₀ (s.waitMerge nsid k key hive) :=
  .ite h (.joinGather (.rd' h))

theorem Kept.beginMerge {s₀ s : State} (h : Kept s₀ s) {nsid k key : Nat} : Kept s₀ (s.beginMerge nsid k key) := by
  unfold State.beginMerge
  dsimp only
  split
  · exact .ite (.rd' h) (.waitMerge (.rd' h))
  · exact .rd' h

theorem Kept.ingestWrite {s₀ s : State} (h : Kept s₀ s) {key lane d nsid off : Nat} {data : Bytes} :
    Kept s₀ (s.ingestWrite key lane d nsid off data) :=
  .foldl h (fun _ _ h => .ite (.ingestBlock h) (.beginMerge h)) _

theorem Kept.mergeCommit {s₀ s : State} (h : Kept s₀ s) {nsid k : Nat} : Kept s₀ (s.mergeCommit nsid k) := by
  unfold State.mergeCommit
  dsimp only
  split
  · refine .ite h ?_
    split
    · exact .waitMerge (.fst_ite h (.chunkBytes h))
    · exact .releaseDone (.flushMap (.event (.keepGather (.rd' (.fst_ite h (.chunkBytes h))))))
    · exact .releaseDone (.flushMap (.ingestBlock (.keepGather (.rd' (.fst_ite h (.chunkBytes h))))))
  · exact h

theorem Kept.storeManifest {s₀ s : State} (hk : Kept s₀ s) {key lane : Nat} {h : ManHead} {child : Bool} {es : List (Nat × Nat)} :
    Kept s₀ (s.storeManifest key lane h child es).1 :=
  .storeNew hk

theorem Kept.putPart {s₀ s : State} (h : Kept s₀ s) {p : Part} : Kept s₀ (s.putPart p) := .ite (.ob' h) (.rd' h)

theorem Kept.ingestPut {s₀ s : State} (h : Kept s₀ s) {key lane : Nat} {d : PutDesc} {data : Bytes} :
    Kept s₀ (s.ingestPut key lane d data) := by
  unfold State.ingestPut
  split
  · split
    · dsimp only
      refine .putPart (.storeManifest (.of_eq ‹_› (.foldl_fst h (fun _ _ h => ?_) _)))
      split
      · exact .pair (.of_eq ‹_› (.ingestChunk h))
    · dsimp only
      refine .putPart (.storeManifest (.of_eq ‹_› (.foldl_fst h (fun _ _ h => ?_) _)))
      split
      · exact .pair (.of_eq ‹_› (.ingestChunk h))

theorem Kept.redecide {s₀ s : State} (h : Kept s₀ s) {key lane : Nat} {r : WaxRec} {rs : List WaxRec} :
    Kept s₀ (s.redecide key lane r rs) := by
  unfold State.redecide
  split
  · refine .foldl h (fun _ _ h => ?_) _
    split
    · exact .ite h (.ite (.ingestBlock (.rd' h)) (.beginMerge (.rd' h)))
    · exact h
  · exact .ite (.ingestPut (.rd' h)) h
  · exact h

theorem Kept.ingest {s₀ s : State} (h : Kept s₀ s) {key : Nat} : Kept s₀ (s.ingest key) := by
  unfold State.ingest
  split
  · exact h
  · refine .ite (.releaseDone (.flushMap (.redecide h))) (.ite h (.releaseDone (.flushMap (.ite (.rd' h) ?_))))
    split
    · exact .ite (.ingestWrite (.rd' h)) (.rd' h)
    · exact .ite (.rd' h) (.ingestPut (.rd' h))
    · exact .rd' h

theorem Kept.keepChunk {s₀ s : State} (h : Kept s₀ s) {d : Deferred} {same : Bool} : Kept s₀ (s.keepChunk d same) :=
  .mapChange (.rd' (.filterSet h))

theorem Kept.postProcess {s₀ s : State} (h : Kept s₀ s) {chunk : Nat} : Kept s₀ (s.postProcess chunk) := by
  unfold State.postProcess
  split
  · dsimp only
    split
    · exact h
    · exact .ite h (.of_eq ‹_› (.chunkBytes h))
  · dsimp only
    split
    · exact h
    · exact .ite h (.askWake (.hive' (.of_eq ‹_› (.chunkBytes h))))
  · dsimp only
    split
    · exact h
    · refine .ite h (.ite (.keepChunk (.of_eq ‹_› (.chunkBytes h))) ?_)
      split
      · exact .of_eq ‹_› (.findDup (.of_eq ‹_› (.chunkBytes h)))
      · exact .ite (.of_eq ‹_› (.findDup (.of_eq ‹_› (.chunkBytes h)))) (.stat (.mapChange (.refChange (.of_eq ‹_› (.findDup (.of_eq ‹_›
          (.chunkBytes h)))))))
      · exact .keepChunk (.of_eq ‹_› (.findDup (.of_eq ‹_› (.chunkBytes h))))
      · exact .keepChunk (.of_eq ‹_› (.findDup (.of_eq ‹_› (.chunkBytes h))))
      · exact .clashes (.keepChunk (.of_eq ‹_› (.findDup (.of_eq ‹_› (.chunkBytes h)))))

theorem Kept.walkManifest {s₀ s : State} (h : Kept s₀ s) {domain chunk : Nat} : Kept s₀ (s.walkManifest domain chunk) := by
  unfold State.walkManifest
  split
  · exact .ob' (.refChange (.of_eq ‹_› (.chunkBytes h)))
  · exact .askWake (.hive' (.of_eq ‹_› (.chunkBytes h)))
  · exact .ob' (.of_eq ‹_› (.chunkBytes h))

theorem Kept.walkStripe {s₀ s : State} (h : Kept s₀ s) {t : Stripe} {n : Nat} : Kept s₀ (s.walkStripe t n) := by
  induction n generalizing s with
  | zero =>
    unfold State.walkStripe
    exact h
  | succ n ih =>
    unfold State.walkStripe
    exact ih (.foldl h (fun _ _ h => .walkManifest h) _)

/-! ## The operations of Machine/Seal -/

theorem Kept.postAux {s₀ s : State} (h : Kept s₀ s) {n : Nat} : Kept s₀ (s.postAux n) := by
  induction n generalizing s with
  | zero =>
    unfold State.postAux
    exact h
  | succ n ih =>
    unfold State.postAux
    split
    · exact ih (.se' (.send h))
    · exact h

theorem Kept.post {s₀ s : State} (h : Kept s₀ s) : Kept s₀ s.post := .postAux h

theorem Kept.endMsg {s₀ s : State} (h : Kept s₀ s) {m : SealMsg} {st : Nat} : Kept s₀ (s.endMsg m st) := .post (.se' h)

theorem Kept.sealOutput {s₀ s : State} (h : Kept s₀ s) {m : SealMsg} : Kept s₀ (s.sealOutput m).1 := by
  unfold State.sealOutput
  dsimp only
  split
  · exact .pair (.putBytes h)
  · exact .pair (.putBytes h)
  · exact .pair (.putBytes h)
  · exact .fst_ite h (.pair (.bump h))

theorem SealPart.setPipes_inBits (v : SealPart) (x : Bool) (l : List (Option SealMsg)) : (v.setPipes x l).InBits ↔ v.InBits := by
  unfold SealPart.setPipes
  split <;> rfl

theorem Kept.runIn {s₀ s : State} (h : Kept s₀ s) {was : Option SealMsg} {m : SealMsg} : Kept s₀ (s.runIn was m) := by
  unfold State.runIn
  exact h.se'_of (SealPart.setPipes_inBits s.se m.req.op.isXts _).2

theorem Kept.dispatchMsg {s₀ s : State} (h : Kept s₀ s) {m : SealMsg} : Kept s₀ (s.dispatchMsg m) := by
  unfold State.dispatchMsg
  refine .ite (.runIn h) ?_
  split
  · exact .ite (.stat (.se' (.runIn (.afterDraw h)))) (.ite (.se' h) (.ev0 (.se' (.se' h))))
  · exact .se' h

theorem Kept.takeMsg {s₀ s : State} (h : Kept s₀ s) {m : SealMsg} : Kept s₀ (s.takeMsg m) := by
  unfold State.takeMsg
  refine .ite (.endMsg h) (.ite (.se' h) ?_)
  split
  · exact .endMsg h
  · exact .ite (.endMsg h) (.dispatchMsg (.ite (.ks' h) h))

theorem execSealRequest_keeps (r : SealReq) (s : State) : Keeps s (execSealRequest r s) := .ok (.takeMsg (.stat (.se' (.refl s))))

theorem Kept.refillPipe {s₀ s : State} (h : Kept s₀ s) {x : Bool} : Kept s₀ (s.refillPipe x) := by
  unfold State.refillPipe
  split
  · refine .runIn (.se' ?_)
    split
    · exact .stat (.ite (.stat h) h)
    · exact .ite (.stat h) h
  · exact h

theorem execSealMessageDone_keeps (id : Nat) (s : State) : Keeps s (execSealMessageDone id s) := by
  have h := Kept.refl s
  unfold execSealMessageDone
  refine .ok ?_
  split
  · exact h
  next m _ =>
    have hfree := h.se'_of (f := fun v => v.setPipes m.req.op.isXts (swapPipe (· == some m) none (v.pipes m.req.op.isXts)))
      (SealPart.setPipes_inBits ..).2
    exact .refillPipe (.endMsg (.stat hfree.sealOutput))

theorem execSealUrgent_keeps (id : Nat) (s : State) : Keeps s (execSealUrgent id s) := by
  have h := Kept.refl s
  unfold execSealUrgent
  refine .ok ?_
  split
  · exact h
  · dsimp only
    split
    · exact .se' h
    · exact .stat (.stat (.se' (.runIn (.afterDraw (.afterDraw (.se' h))))))

theorem Kept.loseDomain {s₀ s : State} (h : Kept s₀ s) {domain : Nat} : Kept s₀ (s.loseDomain domain) :=
  .foldl h (fun _ _ h => .loseChunk h) _

theorem execDomainKeyFetch_keeps (domain : Nat) (s : State) : Keeps s (execDomainKeyFetch domain s) := by
  have h := Kept.refl s
  unfold execDomainKeyFetch
  refine .ok ?_
  split
  · exact .foldl (.se' h) (fun _ _ h => .endMsg h) _
  · exact .ite (.foldl (.se' h) (fun _ _ h => .takeMsg h) _) (.ite (.ite (.loseDomain (.foldl (.event (.ite (.event (.bump (.se' h)))
      (.se' h))) (fun _ _ h => .endMsg h) _)) (.foldl (.event (.ite (.event (.bump (.se' h))) (.se' h))) (fun _ _ h => .endMsg h) _))
      (.foldl (.evictKeys (.stat (.ks' (.ite (.event (.bump (.se' h))) (.se' h))))) (fun _ _ h => .takeMsg h) _))

theorem execCmpGoCompare_keeps (s : State) : Keeps s (execCmpGoCompare s) := by
  have h := Kept.refl s
  unfold execCmpGoCompare
  exact .ok (.ite h (h.se'_of fun ⟨h1, h2, _, _⟩ => ⟨h1, h2, (by decide : (1#32).toNat < 2 ^ 5), (by decide : (0#32).toNat < 2 ^ 16)⟩))

theorem execCmpGoSelfTest_keeps (s : State) : Keeps s (execCmpGoSelfTest s) := .ok (.ite (.refl s) (.beginSelfTest (.refl s)))

theorem execCompareDone_keeps (refFault : Bool) (s : State) : Keeps s (execCompareDone refFault s) := by
  have h := Kept.refl s
  unfold execCompareDone
  refine .ok (.ite h (Kept.se'_of (.cond h.stat (fun _ h => h.stat) _) fun ⟨h1, h2, _, _⟩ => ⟨h1, h2, ?_, ?_⟩))
  · dsimp only
    rw [BitVec.toNat_ofNat]
    refine (Nat.mod_le _ _).trans_lt ?_
    split <;> split <;> decide
  · dsimp only
    rw [BitVec.toNat_ofNat]
    refine (Nat.mod_le _ _).trans_lt ?_
    split
    · decide
    · split <;> decide

theorem execCmpResult_keeps (s : State) : Keeps s (execCmpResult s) := by
  have h := Kept.refl s
  unfold execCmpResult
  have hread := h.send (o := .cmp (s.se.cmpResult == 0xC33C#32)) |>.se'_of (f := fun v => { v with
    cmpResult := 0, cmpBusy := if v.cmpBusy = 3 then 0 else v.cmpBusy }) fun ⟨h1, h2, h3, _⟩ => ⟨h1, h2, h3, (by decide : (0#32).toNat < 2
      ^ 16)⟩
  exact .ok (.ite hread.cmpFault hread)

theorem execSelfTestDone_keeps (pass : Bool) (s : State) : Keeps s (execSelfTestDone pass s) := by
  have h := Kept.refl s
  unfold execSelfTestDone
  have hdone := h.se'_of (f := fun v => { v with cmpBusy := 0, cmpStatus := if pass then 0x12#32 else 0x02#32 })
    fun ⟨h1, h2, _, h4⟩ => ⟨h1, h2, by cases pass <;> exact of_decide_eq_true rfl, h4⟩
  exact .ok (.ite h (.ite hdone.rd' hdone.ev0))

theorem execCompareSelftestRetry_keeps (s : State) : Keeps s (execCompareSelftestRetry s) := by
  have h := Kept.refl s
  unfold execCompareSelftestRetry
  refine .ok ?_
  split
  · exact .ite h (.rd' (.beginSelfTest h))
  · exact h

theorem execDigestRegisterWrite_keeps (off : Nat) (word : BitVec 32) (s : State) : Keeps s (execDigestRegisterWrite off word s) := by
  have h := Kept.refl s
  unfold execDigestRegisterWrite
  refine .ok (h.se'_of fun hb => ?_)
  split
  · obtain ⟨-, h2, h3, h4⟩ := hb
    exact ⟨BitVec.toNat_and _ _ ▸ Nat.and_lt_two_pow _ (by decide), h2, h3, h4⟩
  split
  · obtain ⟨h1, -, h3, h4⟩ := hb
    refine ⟨h1, ?_, h3, h4⟩
    rw [BitVec.toNat_and, Nat.and_mod_two_pow (n := 5)]
    exact Nat.and_zero _
  split
  · exact hb
  · exact hb

/-! ## The operations of Machine/AlarmOps -/

theorem Kept.propolisAlarm {s₀ s : State} (h : Kept s₀ s) {cause : BitVec 4} : Kept s₀ (s.propolisAlarm cause) := by
  simp only [State.propolisAlarm]
  exact .pw' (.resetNow (.silence (.lastGasp (.pw' (.foldl (.bt' (Kept.se'_of (.post (.se' (h.ks'_of (Nat.le_succ _))))
    fun _ => SealPart.reset_inBits)) (fun _ _ h => h.bump) _)))))

theorem Kept.holdReset {s₀ s : State} (h : Kept s₀ s) {cause : Nat} : Kept s₀ (s.holdReset cause) := .pw' (.resetDevice h)

/-! ## The operations of Machine/LocOps -/

theorem Kept.locCheck {s₀ s : State} (h : Kept s₀ s) {c : Ctrl} {l : Bytes} : Kept s₀ (s.locCheck c l).1 := by
  unfold State.locCheck
  refine .fst_ite h (.fst_ite h ?_)
  split
  · exact h
  · split
    · exact h
    · exact .fst_ite h (.pair (.bump (.event h)))

theorem Kept.leafPart {s₀ s : State} (h : Kept s₀ s) {chunk off lo hi : Nat} : Kept s₀ (s.leafPart chunk off lo hi).1 := by
  unfold State.leafPart
  split
  · exact .pair (.of_eq ‹_› (.chunkBytes h))
  · exact .chunkBytes h

theorem Kept.walkMan {s₀ s : State} (h : Kept s₀ s) {n : Nat} {chunk off lo hi : Nat} :
    Kept s₀ (State.walkMan n s chunk off lo hi).1 := by
  induction n generalizing s chunk off with
  | zero => exact h
  | succ n ih =>
    unfold State.walkMan
    split
    · refine .pair (.foldl_fst (.pair (.of_eq ‹_› (.chunkBytes h))) (fun _ _ h => ?_) _)
      split
      · refine .fst_ite h (.fst_ite ?_ ?_)
        · split
          · exact .pair (.of_eq ‹_› (ih h))
        · split
          · exact .pair (.of_eq ‹_› (.leafPart h))
    · exact .pair (.of_eq ‹_› (.chunkBytes h))

theorem Kept.tryGet {s₀ s : State} (h : Kept s₀ s) {ctrl qid cid : Nat} {o : Obj} {off len : Nat} {reloc : Bool} {first : Option Nat} :
    Kept s₀ (s.tryGet ctrl qid cid o off len reloc first) := by
  unfold State.tryGet
  split
  · dsimp only
    refine .ite (.failCmd (.leaveGather (.fst_ite h (.walkMan h)))) (.ite (.dropCmd (.cqe (.leaveGather (.fst_ite h (.walkMan h))))) ?_)
    split
    · exact .failCmd (.leaveGather (.of_eq ‹_› (.regather (.fst_ite h (.walkMan h)))))
    · exact .of_eq ‹_› (.regather (.fst_ite h (.walkMan h)))
  · dsimp only
    refine .ite (.failCmd (.leaveGather (.fst_ite h (.walkMan h)))) (.ite (.dropCmd (.cqe (.leaveGather (.fst_ite h (.walkMan h))))) ?_)
    split
    · exact .failCmd (.leaveGather (.of_eq ‹_› (.gather (.fst_ite h (.walkMan h)))))
    · exact .nv' (.of_eq ‹_› (.gather (.fst_ite h (.walkMan h))))

theorem Kept.locWait {s₀ s : State} (h : Kept s₀ s) {e : Sqe} {hive : Nat} {first : Bool} : Kept s₀ (s.locWait e hive first) := by
  unfold State.locWait
  refine .ite h ?_
  split
  · exact .nvEnd (.of_eq ‹_› (.gather h))
  · exact .nv' (.of_eq ‹_› (.gather h))

theorem Kept.unhold {s₀ s : State} (h : Kept s₀ s) {e : Sqe} : Kept s₀ (s.unhold e) := .dropCmd (.leaveGather h)

theorem Kept.locChange {s₀ s : State} (h : Kept s₀ s) {e : Sqe} {o : Obj} {released : Bool} {retain : Nat} :
    Kept s₀ (s.locChange e o released retain) :=
  .ite (.nvEnd h) (.ite (.nvEnd h) (.ite (.nv' h) (.mapChange h)))

theorem Kept.locDo {s₀ s : State} (h : Kept s₀ s) {e : Sqe} {o : Obj} {via : Option LedgerEntry} {patience : Nat} :
    Kept s₀ (s.locDo e o via patience) := by
  unfold State.locDo
  refine .ite (.nvEnd h) ?_
  split
  · exact .ite (.nvEnd h) (.tryGet (.ite (.stat (.stat h)) (.stat h)))
  · exact .nvDone h
  · refine .ite (.nvEnd h) ?_
    split
    · exact .ite (.stat (.nvDone h)) (.stat (.mapChange (.stat (.nvDone h))))
    · exact .stat (.nvDone h)
  · exact .ite (.nvEnd h) (.ite (.nvEnd h) (.ite (.nvEnd h) (.locChange h)))
  · exact .ite (.nvEnd h) (.ite (.nvEnd h) (.ite (.nvEnd h) (.ite (.nvDone h) (.locChange h))))

theorem Kept.locRun {s₀ s : State} (h : Kept s₀ s) {c : Ctrl} {e : Sqe} {first : Bool} : Kept s₀ (s.locRun c e first) := by
  unfold State.locRun
  split
  · split
    · dsimp only
      split
      · exact .nvEnd (.of_eq ‹_› (.locCheck h))
      · exact .nvEnd (.of_eq ‹_› (.locCheck h))
    · dsimp only
      split
      · exact .nvEnd (.of_eq ‹_› (.locCheck h))
      · split
        · exact .locWait (.of_eq ‹_› (.locCheck h))
        · exact .nvEnd (.stat (.of_eq ‹_› (.locCheck h)))
        · split
          · exact .nvEnd (.stat (.of_eq ‹_› (.locCheck h)))
          · exact .locDo (.of_eq ‹_› (.locCheck h))
  · split
    · dsimp only
      split
      · exact .nvEnd (.unhold (.of_eq ‹_› (.locCheck h)))
      · exact .nvEnd (.unhold (.of_eq ‹_› (.locCheck h)))
    · dsimp only
      split
      · exact .nvEnd (.unhold (.of_eq ‹_› (.locCheck h)))
      · split
        · exact .locWait (.of_eq ‹_› (.locCheck h))
        · exact .nvEnd (.stat (.unhold (.of_eq ‹_› (.locCheck h))))
        · split
          · exact .nvEnd (.stat (.unhold (.of_eq ‹_› (.locCheck h))))
          · exact .locDo (.unhold (.of_eq ‹_› (.locCheck h)))

theorem Kept.statToken {s₀ s : State} (h : Kept s₀ s) {c : Ctrl} {e : Sqe} {first : Bool} : Kept s₀ (s.statToken c e first) := by
  unfold State.statToken
  refine .ite (.nvEnd (.ite h (.unhold h))) ?_
  split
  · exact .nvEnd (.ite h (.unhold h))
  · refine .ite (.nvEnd (.ite h (.unhold h))) ?_
    split
    · exact .nvEnd (.ite h (.unhold h))
    · exact .ite (.ite h (.ite (.nvEnd h) (.nv' h))) (.ite (.nvEnd (.ite h (.unhold h))) (.nvDone (.ite h (.unhold h))))

theorem Kept.locCmd {s₀ s : State} (h : Kept s₀ s) {c : Ctrl} {e : Sqe} {first : Bool} : Kept s₀ (s.locCmd c e first) :=
  .ite (.nvEnd h) (.ite (.statToken h) (.locRun h))

theorem Kept.putRecs {s₀ s : State} (h : Kept s₀ s) {d : PutDesc} {data : Bytes} {after : List After} :
    Kept s₀ (s.putRecs d data after) :=
  .commitChain h

theorem Kept.admitPut {s₀ s : State} (h : Kept s₀ s) {c : HostCmd} : Kept s₀ (s.admitPut c) := by
  unfold State.admitPut
  split
  · split
    · dsimp only
      split
      · refine .ite (.failStream (.stat h)) ?_
        split
        · exact .cmd' h
        · exact .ite (.endCmd (.stat h)) (.failStream (.stat h))
      · split
        · exact .failStream h
        · exact .failStream h
    · dsimp only
      split
      · refine .ite (.failStream (.stat h)) ?_
        split
        · exact .cmd' h
        · exact .ite (.endCmd (.stat h)) (.failStream (.stat h))
      · split
        · exact .failStream h
        · exact .ite (.cmd' h) (.judgeRings (.cmd' (.putRecs (.stat (.countHeld h)))))
  · split
    · dsimp only
      split
      · refine .ite (.failStream (.stat h)) ?_
        split
        · exact .cmd' h
        · exact .ite (.endCmd (.stat h)) (.failStream (.stat h))
      · split
        · exact .failStream h
        · exact .failStream h
    · dsimp only
      split
      · refine .ite (.failStream (.stat h)) ?_
        split
        · exact .cmd' h
        · exact .ite (.endCmd (.stat h)) (.failStream (.stat h))
      · split
        · exact .failStream h
        · exact .ite (.cmd' h) (.judgeRings (.cmd' (.putRecs (.stat (.countHeld h)))))
  · split
    · dsimp only
      exact h
    · dsimp only
      exact h

theorem Kept.refusePut {s₀ s : State} (h : Kept s₀ s) {c : Ctrl} {e : Sqe} {d : PutDesc} {st : NvStatus} :
    Kept s₀ (s.refusePut c e d st) :=
  .ite (.nvEnd h) (.spoilStream (.nvEnd h))

theorem Kept.putArrive {s₀ s : State} (h : Kept s₀ s) {c : Ctrl} {e : Sqe} : Kept s₀ (s.putArrive c e) := by
  unfold State.putArrive
  refine .ite (.nvEnd h) ?_
  split
  · split
    · dsimp only
      split
      · exact .refusePut (.stream' h)
      · exact .refusePut (.stream' h)
    · split
      · dsimp only
        split
        · exact .refusePut (.stream' h)
        · exact .ite (.refusePut (.stream' h)) (.refusePut (.stream' h))
      · split
        · split
          · dsimp only
            split
            · exact .refusePut (.stream' h)
            · refine .ite (.refusePut (.stream' h)) ?_
              split
              · exact .failStream (.stream' h)
              · split
                · exact .admitPut (.nv' (.stream' h))
                · exact .nv' (.stream' h)
          · dsimp only
            split
            · exact .refusePut (.stream' h)
            · refine .ite (.refusePut (.stream' h)) ?_
              split
              · exact .failStream (.stream' h)
              · exact .send (.nv' (.stream' h))
        · split
          · dsimp only
            split
            · exact .refusePut (.stream' h)
            · refine .ite (.refusePut (.stream' h)) ?_
              split
              · exact .nvEnd (.of_eq ‹_› (.joinStream (.stream' h)))
              · split
                · exact .failStream (.of_eq ‹_› (.joinStream (.stream' h)))
                · split
                  · exact .admitPut (.nv' (.of_eq ‹_› (.joinStream (.stream' h))))
                  · exact .nv' (.of_eq ‹_› (.joinStream (.stream' h)))
          · dsimp only
            split
            · exact .refusePut (.stream' h)
            · refine .ite (.refusePut (.stream' h)) ?_
              split
              · exact .nvEnd (.of_eq ‹_› (.joinStream (.stream' h)))
              · split
                · exact .failStream (.of_eq ‹_› (.joinStream (.stream' h)))
                · exact .send (.nv' (.of_eq ‹_› (.joinStream (.stream' h))))
  · split
    · dsimp only
      split
      · exact .refusePut h
      · exact .refusePut h
    · split
      · dsimp only
        split
        · exact .refusePut h
        · exact .ite (.refusePut h) (.refusePut h)
      · split
        · split
          · dsimp only
            split
            · exact .refusePut h
            · refine .ite (.refusePut h) ?_
              split
              · exact .failStream h
              · split
                · exact .admitPut (.nv' h)
                · exact .nv' h
          · dsimp only
            split
            · exact .refusePut h
            · refine .ite (.refusePut h) ?_
              split
              · exact .failStream h
              · exact .send (.nv' h)
        · split
          · dsimp only
            split
            · exact .refusePut h
            · refine .ite (.refusePut h) ?_
              split
              · exact .nvEnd (.of_eq ‹_› (.joinStream h))
              · split
                · exact .failStream (.of_eq ‹_› (.joinStream h))
                · split
                  · exact .admitPut (.nv' (.of_eq ‹_› (.joinStream h)))
                  · exact .nv' (.of_eq ‹_› (.joinStream h))
          · dsimp only
            split
            · exact .refusePut h
            · refine .ite (.refusePut h) ?_
              split
              · exact .nvEnd (.of_eq ‹_› (.joinStream h))
              · split
                · exact .failStream (.of_eq ‹_› (.joinStream h))
                · exact .send (.nv' (.of_eq ‹_› (.joinStream h)))

theorem Kept.locPut {s₀ s : State} (h : Kept s₀ s) {c : Ctrl} {e : Sqe} : Kept s₀ (s.locPut c e) :=
  .ite (.nvEnd h) (.ite (.fatalConn (.nvEnd h)) (.ite (.putArrive h) (.send (.nv' h))))

theorem Kept.morePut {s₀ s : State} (hk : Kept s₀ s) {h : HostCmd} {e : Sqe} {conn off : Nat} {data : Bytes} {digestOk : Bool} :
    Kept s₀ (s.morePut h e conn off data digestOk) := by
  unfold State.morePut
  refine .ite (.failStream (.bump hk)) (.ite (.fatalConn hk) (.ite (.cmd' hk) (.ite ?_ (.ite (.failStream hk) ?_))))
  · split
    · exact .putArrive (.dropCmd hk)
    · exact hk
  · dsimp only
    split
    · exact .admitPut (.cmd' hk)
    · exact .cmd' hk

theorem Kept.locAgain {s₀ s : State} (hk : Kept s₀ s) {h : HostCmd} : Kept s₀ (s.locAgain h) := by
  unfold State.locAgain
  split
  · exact .admitPut hk
  · refine .ite hk ?_
    split
    · exact .ite (.statToken hk) hk
    · exact hk
  · exact hk

theorem Kept.locWake {s₀ s : State} (h : Kept s₀ s) : Kept s₀ s.locWake := .foldl h (fun _ _ h => .locAgain h) _

theorem Kept.settle {s₀ s : State} (h : Kept s₀ s) : Kept s₀ s.settle := .locWake (.accept h)

theorem Kept.serveGather {s₀ s : State} (h : Kept s₀ s) {hive : Nat} : Kept s₀ (s.serveGather hive) := by
  unfold State.serveGather
  split
  · exact h
  · refine .stat (.sp' (.foldl h (fun _ _ h => ?_) _))
    split
    · exact .keepGather (.rd' h)
    · split
      · split
        · exact .tryRead h
        · split
          · exact .tryGet h
          · exact h
        · split
          · exact .ite h (.locRun h)
          · exact h
        · exact h
      · exact h

/-! ## The operations of Machine/Nvme -/

theorem execTcpConnectionRequest_keeps (svc : TcpSvc) (fpair : Nat × Nat) (s : State) :
    Keeps s (execTcpConnectionRequest svc fpair s) := by
  have h := Kept.refl s
  unfold execTcpConnectionRequest
  refine .ok (.ite h ?_)
  split
  · exact .send (.vk' h)
  · exact .ite (.send h) (.send (.vk' h))
  · exact .ite h (.ite (.ite (.ev0 (.nv' (.stat (.send h)))) (.stat (.send h))) (.send (.stat (.nv' h))))
  · exact .ite h (.ite (.ite (.ev0 (.nv' (.stat (.send h)))) (.stat (.send h))) (.send (.stat (.nv' h))))

theorem execIcreq_keeps (conn pfv hpda : Nat) (hdgst ddgst : Bool) (maxR2t : Nat) (s : State) :
    Keeps s (execIcreq conn pfv hpda hdgst ddgst maxR2t s) := by
  have h := Kept.refl s
  unfold execIcreq
  refine .ok ?_
  split
  · exact h
  · exact .ite (.fatalConn h) (.ite (.fatalConn h) (.send (.nv' h)))

theorem execFatalTransportError_keeps (conn fes : Nat) (s : State) : Keeps s (execFatalTransportError conn fes s) :=
  .ok (.fatalConn (.ite (.bump (.refl s)) (.refl s)))

theorem execH2cdata_keeps (conn cid off : Nat) (data : Bytes) (digestOk : Bool) (s : State) :
    Keeps s (execH2cdata conn cid off data digestOk s) := by
  have h := Kept.refl s
  unfold execH2cdata
  refine .ok ?_
  split
  · exact h
  · split
    · exact .fatalConn h
    · split
      · refine .ite (.failStream (.bump h)) (.ite (.fatalConn h) (.ite ?_ (.cmd' h)))
        dsimp only
        split
        · exact .admitStream (.admitBlock (.cmd' h))
        · exact .cmd' h
      · exact .ite (.morePut h) (.fatalConn h)
      · exact .fatalConn h

theorem execTcpConnectionEnd_keeps (conn : Nat) (s : State) : Keeps s (execTcpConnectionEnd conn s) :=
  .ok (.ite (.endConn (.refl s)) (.vk' (.closeVia (.refl s))))

theorem execTcpRetransmissionTimeout_keeps (conn : Nat) (s : State) : Keeps s (execTcpRetransmissionTimeout conn s) :=
  .ok (.ite (.send (.refl s)) (.refl s))

theorem Kept.bindConn {s₀ s : State} (h : Kept s₀ s) {conn ctrl qid : Nat} : Kept s₀ (s.bindConn conn ctrl qid) := .nv' h

theorem Kept.nvConnect {s₀ s : State} (h : Kept s₀ s) {x : NvConnect} : Kept s₀ (s.nvConnect x) := by
  unfold State.nvConnect
  split
  · exact h
  · refine .ite (.fatalConn h) (.ite (.cqe h) (.ite (.cqe h) (.ite (.ite (.cqe h) (.ite (.cqe h) (.ite (.cqe h) (.ite (.cqe h) ?_))))
      ?_)))
    · split
      · exact .cqe h
      · exact .cqe (.bindConn (.nv' h))
    · split
      · exact .cqe h
      · exact .ite (.cqe h) (.ite (.cqe h) (.ite (.cqe h) (.ite (.cqe h) (.cqe (.bindConn (.ctrl' h))))))

theorem execConnect_keeps (c : NvConnect) (s : State) : Keeps s (execConnect c s) := .ok (.nvConnect (.refl s))

theorem execKeepAlive_keeps (e : Sqe) (s : State) : Keeps s (execKeepAlive e s) :=
  .ok (.nvme (.refl s) (fun _ _ h => .nvDone (.ctrl' h)))

theorem execKeepAliveTimeout_keeps (ctrl : Nat) (s : State) : Keeps s (execKeepAliveTimeout ctrl s) := by
  have h := Kept.refl s
  unfold execKeepAliveTimeout
  refine .ok ?_
  split
  · exact .ite (.endAssoc (.ev0 h)) h
  · exact h

theorem Kept.nvIdentify {s₀ s : State} (h : Kept s₀ s) {c : Ctrl} {e : Sqe} : Kept s₀ (s.nvIdentify c e) := by
  unfold State.nvIdentify
  refine .ite (.nvDone h) (.ite (.nvEnd h) (.ite ?_ (.ite (.ite (.nvEnd h) (.nvDone h)) (.ite ?_ (.ite ?_ (.ite (.nvDone h) (.ite ?_
    (.nvEnd h))))))))
  · split
    · exact .nvDone h
    · exact .ite (.nvEnd h) (.nvDone h)
  · split
    · exact .nvDone h
    · exact .nvEnd h
  · split
    · exact .nvDone h
    · exact .nvEnd h
  · split
    · exact .nvDone h
    · exact .nvEnd h

theorem execIdentify_keeps (e : Sqe) (s : State) : Keeps s (execIdentify e s) := .ok (.nvme (.refl s) (fun _ _ h => .nvIdentify h))

theorem Kept.nvGetLog {s₀ s : State} (h : Kept s₀ s) {c : Ctrl} {e : Sqe} : Kept s₀ (s.nvGetLog c e) :=
  .ite (.nvDone h) (.ite (.nvEnd h) (.ite (.nvDone h) (.ite (.nvDone (.ite h (.ctrl' h))) (.ite (.nvDone (.ite h (.ctrl' h))) (.ite
    (.nvDone (.ite h (.ctrl' h))) (.ite (.nvDone (.ite h (.ev' (.ctrl' h)))) (.ite (.nvDone h) (.nvEnd h))))))))

theorem execGetLogPage_keeps (e : Sqe) (s : State) : Keeps s (execGetLogPage e s) := .ok (.nvme (.refl s) (fun _ _ h => .nvGetLog h))

theorem Kept.nvSetFeature {s₀ s : State} (h : Kept s₀ s) {c : Ctrl} {e : Sqe} : Kept s₀ (s.nvSetFeature c e) :=
  .ite (.nvDone h) (.ite (.aerPump (.nvDone (.ctrl' h))) (.ite (.ite (.nvEnd h) (.nvDone (.ctrl' h))) (.ite (.nvDone (.ctrl' h)) (.nvEnd
    h))))

theorem execSetFeatures_keeps (e : Sqe) (s : State) : Keeps s (execSetFeatures e s) :=
  .ok (.nvme (.refl s) (fun _ _ h => .nvSetFeature h))

theorem execGetFeatures_keeps (e : Sqe) (s : State) : Keeps s (execGetFeatures e s) :=
  .ok (.nvme (.refl s) (fun _ _ h => .ite (.nvDone h) (.ite (.nvDone h) (.ite (.nvDone h) (.ite (.nvDone h) (.nvEnd h))))))

theorem execAsynchronousEventRequest_keeps (e : Sqe) (s : State) : Keeps s (execAsynchronousEventRequest e s) :=
  .ok (.nvme (.refl s) (fun _ _ h => .ite (.nvEnd h) (.aerPump (.ctrl' h))))

theorem Kept.abortCmd {s₀ s : State} (hk : Kept s₀ s) {h : HostCmd} : Kept s₀ (s.abortCmd h) := .failStream (.leaveGather hk)

theorem execAbort_keeps (e : Sqe) (s : State) : Keeps s (execAbort e s) := by
  have h := Kept.refl s
  unfold execAbort
  refine .ok (.nvme h (fun _ _ h => .ite (.nvDone (.cqe (.ctrl' h))) ?_))
  split
  · exact .nvDone h
  · split
    · exact .nvDone h
    · exact .nvDone h
    · exact .nvDone (.abortCmd h)

theorem execDirectiveSend_keeps (e : Sqe) (s : State) : Keeps s (execDirectiveSend e s) := by
  have h := Kept.refl s
  unfold execDirectiveSend
  refine .ok (.nvme h (fun _ _ h => .ite (.nvDone (.ctrl' h)) (.ite ?_ (.nvEnd h))))
  split
  · exact .nvEnd h
  · exact .nvDone (.nv' h)

theorem execDirectiveReceive_keeps (e : Sqe) (s : State) : Keeps s (execDirectiveReceive e s) :=
  .ok (.nvme (.refl s) (fun _ _ h => .ite (.nvDone h) (.nvEnd h)))

theorem execNvmeRead_keeps (e : Sqe) (s : State) : Keeps s (execNvmeRead e s) := .ok (.nvme (.refl s) (fun _ _ h => .nvRead h))

theorem execNvmeWrite_keeps (e : Sqe) (s : State) : Keeps s (execNvmeWrite e s) := .ok (.nvme (.refl s) (fun _ _ h => .nvWrite h))

theorem execFlush_keeps (e : Sqe) (s : State) : Keeps s (execFlush e s) := .ok (.nvme (.refl s) (fun _ _ h => .nvDone h))

theorem execWriteZeroes_keeps (e : Sqe) (s : State) : Keeps s (execWriteZeroes e s) := .ok (.nvme (.refl s) (fun _ _ h => .nvWrite h))

theorem execDatasetManagement_keeps (e : Sqe) (s : State) : Keeps s (execDatasetManagement e s) :=
  .ok (.nvme (.refl s) (fun _ _ h => .nvDsm h))

theorem execUnsupportedCommand_keeps (e : Sqe) (s : State) : Keeps s (execUnsupportedCommand e s) :=
  .ok (.nvme (.refl s) (fun _ _ h => .ite (.nvEnd h) (.nvEnd h)))

/-! ## The operations of Machine/Frames -/

theorem Kept.touchFrame {s₀ s : State} (h : Kept s₀ s) {id : Nat} : Kept s₀ (s.touchFrame id) := .frame' h

theorem Kept.cfgOpen {s₀ s : State} (h : Kept s₀ s) {q : VReq} : Kept s₀ (s.cfgOpen q) :=
  .ite (.reply h) (.ite (.reply h) (.replyTo (.vk' h)))

theorem execCfgOpen_keeps (q : VReq) (s : State) : Keeps s (execCfgOpen q s) := .ok (.virkan (.refl s) (fun _ h => .cfgOpen h))

theorem Kept.cfgStage {s₀ s : State} (h : Kept s₀ s) {q : VReq} : Kept s₀ (s.cfgStage q) := by
  unfold State.cfgStage
  split
  · exact .reply h
  · refine .ite (.reply (.touchFrame h)) ?_
    split
    · exact .reply (.touchFrame h)
    · exact .ite (.reply (.touchFrame h)) (.ite (.reply (.touchFrame h)) (.reply (.frame' (.touchFrame h))))

theorem execCfgStage_keeps (q : VReq) (s : State) : Keeps s (execCfgStage q s) := .ok (.virkan (.refl s) (fun _ h => .cfgStage h))

theorem Kept.cfgCheck {s₀ s : State} (h : Kept s₀ s) {q : VReq} : Kept s₀ (s.cfgCheck q) := by
  unfold State.cfgCheck
  split
  · exact .reply h
  · exact .ite (.reply (.touchFrame h)) (.ite (.reply (.frame' (.touchFrame h))) (.reply (.touchFrame h)))

theorem execCfgCheck_keeps (q : VReq) (s : State) : Keeps s (execCfgCheck q s) := .ok (.virkan (.refl s) (fun _ h => .cfgCheck h))

theorem Kept.cfgApply {s₀ s : State} (h : Kept s₀ s) {q : VReq} : Kept s₀ (s.cfgApply q) := by
  unfold State.cfgApply
  split
  · exact .reply h
  · dsimp only
    split
    · exact .reply (.touchFrame h)
    · refine .commit (.ite ?_ (.frame' (.touchFrame h)))
      split
      · exact .ite (.frame' (.touchFrame h)) (.askToken (.frame' (.touchFrame h)))
      · exact .frame' (.touchFrame h)

theorem execCfgApply_keeps (q : VReq) (s : State) : Keeps s (execCfgApply q s) := .ok (.virkan (.refl s) (fun _ h => .cfgApply h))

theorem Kept.cfgCancel {s₀ s : State} (h : Kept s₀ s) {q : VReq} : Kept s₀ (s.cfgCancel q) := by
  unfold State.cfgCancel
  split
  · exact .reply h
  · exact .ite (.reply (.touchFrame h)) (.ite (.reply (.touchFrame h)) (.commit (.frameReply (.endFrame (.touchFrame h)))))

theorem execCfgCancel_keeps (q : VReq) (s : State) : Keeps s (execCfgCancel q s) := .ok (.virkan (.refl s) (fun _ h => .cfgCancel h))

theorem Kept.cfgStatus {s₀ s : State} (h : Kept s₀ s) {q : VReq} : Kept s₀ (s.cfgStatus q) := by
  unfold State.cfgStatus
  split
  · exact .reply h
  · exact .ite (.reply h) (.reply (.touchFrame h))

theorem execCfgStatus_keeps (q : VReq) (s : State) : Keeps s (execCfgStatus q s) := .ok (.virkan (.refl s) (fun _ h => .cfgStatus h))

theorem Kept.cfgRead {s₀ s : State} (h : Kept s₀ s) {q : VReq} : Kept s₀ (s.cfgRead q) := .ite (.reply h) (.reply h)

theorem execCfgRead_keeps (q : VReq) (s : State) : Keeps s (execCfgRead q s) := .ok (.virkan (.refl s) (fun _ h => .cfgRead h))

theorem execModeGet_keeps (q : VReq) (s : State) : Keeps s (execModeGet q s) := .ok (.virkan (.refl s) (fun _ h => .reply h))

theorem execFrameIdleExpiry_keeps (frame : Nat) (s : State) : Keeps s (execFrameIdleExpiry frame s) := by
  have h := Kept.refl s
  unfold execFrameIdleExpiry
  refine .ok ?_
  split
  · exact .ite (.vk' h) h
  · exact h

theorem Kept.takePeerFrame {s₀ s : State} (h : Kept s₀ s) {id tick : Nat} {items : List Item} :
    Kept s₀ (s.takePeerFrame id tick items) :=
  .ite h (.ite (.send h) (.commit (.vk' h)))

theorem execFrameReadiness_keeps (fromCoord : Bool) (frame tick : Nat) (items : List Item) (yes : Bool) (s : State) :
    Keeps s (execFrameReadiness fromCoord frame tick items yes s) := by
  have h := Kept.refl s
  unfold execFrameReadiness
  exact .ok (.ite (.takePeerFrame h) (.ite (.frame' h) h))

theorem execFrameReadinessDeadline_keeps (frame : Nat) (s : State) : Keeps s (execFrameReadinessDeadline frame s) := by
  have h := Kept.refl s
  unfold execFrameReadinessDeadline
  refine .ok ?_
  split
  · exact .ite (.ite (.doAbort h) (.ite (.commit (.frame' h)) (.doAbort h))) h
  · exact h

theorem execGoRecordLateConfirm_keeps (frame : Nat) (s : State) : Keeps s (execGoRecordLateConfirm frame s) := by
  have h := Kept.refl s
  unfold execGoRecordLateConfirm
  refine .ok ?_
  split
  · exact .ite (.tickFrames h) h
  · exact h

theorem Kept.tryWake {s₀ s : State} (h : Kept s₀ s) : Kept s₀ s.tryWake := by
  unfold State.tryWake
  split
  · exact .ev0 (.md' h)
  · dsimp only
    split
    · exact .md' h
    · exact .autoMode (.md' h)
    · exact .md' h

theorem execWakeModeRecheck_keeps (s : State) : Keeps s (execWakeModeRecheck s) := by
  have h := Kept.refl s
  unfold execWakeModeRecheck
  refine .ok ?_
  split
  · exact .ite (.tryWake h) h
  · exact h

theorem execFrameStatusExpiry_keeps (frame : Nat) (s : State) : Keeps s (execFrameStatusExpiry frame s) := .ok (.vk' (.refl s))

/-! ## The operations of Machine/ColonyOps -/

theorem Kept.grantToken {s₀ s : State} (h : Kept s₀ s) {head : Nat} {t : WakeToken} : Kept s₀ (s.grantToken head t) := .stat (.control h)

theorem Kept.newToken {s₀ s : State} (h : Kept s₀ s) {a head hive prio : Nat} : Kept s₀ (s.newToken a head hive prio) := .grantToken h

theorem Kept.recallToken {s₀ s : State} (h : Kept s₀ s) {t : WakeToken} : Kept s₀ (s.recallToken t) := .stat (.control h)

theorem Kept.refuseToken {s₀ s : State} (h : Kept s₀ s) {a head num : Nat} : Kept s₀ (s.refuseToken a head num) := .ev0 (.stat (.send h))

theorem Kept.recallOver {s₀ s : State} (h : Kept s₀ s) {prio : Nat} : Kept s₀ (s.recallOver prio) :=
  .ite h (.foldl h (fun _ _ h => .recallToken h) _)

theorem Kept.renewToken {s₀ s : State} (h : Kept s₀ s) {head prio : Nat} {t : WakeToken} : Kept s₀ (s.renewToken head prio t) :=
  .ite (.send h) (.ite (.grantToken h) (.ite (.grantToken h) (.grantToken h)))

theorem Kept.judgeToken {s₀ s : State} (h : Kept s₀ s) {a head hive prio num : Nat} : Kept s₀ (s.judgeToken a head hive prio num) := by
  unfold State.judgeToken
  split
  · dsimp only
    split
    · exact .renewToken (.stat h)
    · exact .ite (.newToken (.stat h)) (.ite (.refuseToken (.stat h)) (.recallOver (.ev0 (.newToken (.stat h)))))
  · dsimp only
    split
    · exact .renewToken (.stat h)
    · exact .ite (.newToken (.stat h)) (.ite (.refuseToken (.stat h)) (.ev0 (.co' (.foldl (.stat h) (fun _ _ h => .recallToken h) _))))

theorem Kept.tokenDormant {s₀ s : State} (h : Kept s₀ s) {id : Nat} : Kept s₀ (s.tokenDormant id) := by
  unfold State.tokenDormant
  split
  · dsimp only
    exact .foldl (.co' (.co' (.control h))) (fun _ _ h => .newToken h) _
  · dsimp only
    exact .foldl (.co' (.co' h)) (fun _ _ h => .newToken h) _

theorem Kept.sendReport {s₀ s : State} (h : Kept s₀ s) : Kept s₀ s.sendReport := .send (.co' h)

theorem Kept.colonyTick {s₀ s : State} (h : Kept s₀ s) : Kept s₀ s.colonyTick :=
  .ite h (.ite (.stat (.ite (.sendReport h) h)) (.ite (.sendReport h) h))

/-! ## The operations of Machine/Locator -/

theorem execLocPut_keeps (e : Sqe) (s : State) : Keeps s (execLocPut e s) := .ok (.nvme (.refl s) (fun _ _ h => .locPut h))

theorem execLocPutPart_keeps (e : Sqe) (s : State) : Keeps s (execLocPutPart e s) := .ok (.nvme (.refl s) (fun _ _ h => .locPut h))

theorem execLocGet_keeps (e : Sqe) (s : State) : Keeps s (execLocGet e s) := .ok (.nvme (.refl s) (fun _ _ h => .locCmd h))

theorem execLocStat_keeps (e : Sqe) (s : State) : Keeps s (execLocStat e s) := .ok (.nvme (.refl s) (fun _ _ h => .locCmd h))

theorem execLocRefresh_keeps (e : Sqe) (s : State) : Keeps s (execLocRefresh e s) := .ok (.nvme (.refl s) (fun _ _ h => .locCmd h))

theorem execLocRelease_keeps (e : Sqe) (s : State) : Keeps s (execLocRelease e s) := .ok (.nvme (.refl s) (fun _ _ h => .locCmd h))

theorem execLocSeal_keeps (e : Sqe) (s : State) : Keeps s (execLocSeal e s) := .ok (.nvme (.refl s) (fun _ _ h => .locCmd h))

theorem Kept.addParts {s₀ s : State} (h : Kept s₀ s) {o : Obj} : Kept s₀ (s.addParts o) :=
  .foldl h (fun _ _ h => .mapChange (.refChange h)) _

theorem Kept.buildIndex {s₀ s : State} (h : Kept s₀ s) {o : Obj} {digest : Bytes} : Kept s₀ (s.buildIndex o digest).1 := by
  unfold State.buildIndex
  refine .fst_ite (.storeManifest h) ?_
  split
  · refine .storeManifest (.of_eq ‹_› (.foldl_fst h (fun _ _ h => ?_) _))
    split
    · exact .pair (.of_eq ‹_› (.storeManifest h))

theorem Kept.createDirect {s₀ s : State} (h : Kept s₀ s) {o : Obj} {p : Part} : Kept s₀ (s.createDirect o p) :=
  .ite h (.mapChange (.refChange h))

theorem Kept.createMulti {s₀ s : State} (h : Kept s₀ s) {o : Obj} : Kept s₀ (s.createMulti o) := by
  unfold State.createMulti
  refine .ite h (.ite ?_ (.ite h (.mapChange (.refChange h))))
  split
  · exact .obj' (.of_eq ‹_› (.buildIndex h))

theorem execObjectCreateCommit_keeps (key : Nat) (s : State) : Keeps s (execObjectCreateCommit key s) := by
  have h := Kept.refl s
  unfold execObjectCreateCommit
  refine .ok ?_
  split
  · exact h
  · refine .ite h (.ite (.ite (.createMulti (.ite (.addParts h) h)) (.ite (.addParts h) h)) (.ite ?_ h))
    split
    · exact .createDirect h
    · exact h

theorem execTokenHorizonExpiry_keeps (domain : Nat) (token : Bytes) (s : State) : Keeps s (execTokenHorizonExpiry domain token s) := by
  have h := Kept.refl s
  unfold execTokenHorizonExpiry
  refine .ok ?_
  split
  · exact h
  · exact .ite h (.mapChange h)

theorem execOpenObjectExpiry_keeps (key : Nat) (s : State) : Keeps s (execOpenObjectExpiry key s) := by
  have h := Kept.refl s
  unfold execOpenObjectExpiry
  refine .ok ?_
  split
  · exact h
  · exact .ite h (.bump (.event (.mapChange h)))

theorem execReleasedObjectExpiry_keeps (key : Nat) (s : State) : Keeps s (execReleasedObjectExpiry key s) := by
  have h := Kept.refl s
  unfold execReleasedObjectExpiry
  refine .ok ?_
  split
  · exact h
  · exact .ite h (.refChange h)

theorem execLedgerEntryExpiry_keeps (domain : Nat) (old : Place) (s : State) : Keeps s (execLedgerEntryExpiry domain old s) := by
  have h := Kept.refl s
  unfold execLedgerEntryExpiry
  refine .ok ?_
  split
  · exact h
  · exact .ite h (.ite (.event (.mapChange h)) (.mapChange h))

theorem execManifestReleaseWalk_keeps (domain chunk : Nat) (s : State) : Keeps s (execManifestReleaseWalk domain chunk s) :=
  .ok (.ite (.refl s) (.releaseEmpty (.walkManifest (.refl s))))

theorem execLocStatPatienceExpiry_keeps (ctrl qid cid : Nat) (s : State) : Keeps s (execLocStatPatienceExpiry ctrl qid cid s) := by
  have h := Kept.refl s
  unfold execLocStatPatienceExpiry
  refine .ok ?_
  split
  · split
    · exact .ite (.failCmd h) h
    · exact h
  · exact h

theorem execAcceptanceResume_keeps (ctrl qid cid : Nat) (s : State) : Keeps s (execAcceptanceResume ctrl qid cid s) := by
  have h := Kept.refl s
  unfold execAcceptanceResume
  refine .ok ?_
  split
  · exact h
  · split
    · exact .admitStream (.admitBlock h)
    · exact .admitBlock h
    · exact .admitPut h
    · exact .admitPut h
    · refine .ite h ?_
      split
      · exact .locRun h
      · exact h
    · exact h

/-! ## The operations of Machine/ReplOps -/

theorem Kept.group' {s₀ s : State} (h : Kept s₀ s) {g : Nat} {f : RGroup → RGroup} : Kept s₀ (s.group' g f) := .rp' h

theorem Kept.replica' {s₀ s : State} (h : Kept s₀ s) {g source : Nat} {f : Replica → Replica} : Kept s₀ (s.replica' g source f) := .rp' h

theorem Kept.wrapKeys {s₀ s : State} (h : Kept s₀ s) {d : Nat} : Kept s₀ (s.wrapKeys d).1 := by
  unfold State.wrapKeys
  split
  · exact .pair (.useWrap h)
  · exact h

theorem Kept.setupMsg {s₀ s : State} (h : Kept s₀ s) {g : RGroup} : Kept s₀ (s.setupMsg g).1 := by
  unfold State.setupMsg
  split
  · refine .pair (.of_eq ‹_› (.foldl_fst h (fun _ _ h => ?_) _))
    split
    · exact .pair (.of_eq ‹_› (.wrapKeys h))

theorem Kept.wireItems {s₀ s : State} (h : Kept s₀ s) {l : List ShipItem} : Kept s₀ (s.wireItems l).1 := by
  unfold State.wireItems
  refine .foldl_fst h (fun _ _ h => ?_) _
  split
  · exact .pair (.useWrap h)
  · exact h

theorem Kept.wireEntries {s₀ s : State} (h : Kept s₀ s) {l : List ShipEntry} : Kept s₀ (s.wireEntries l).1 := by
  unfold State.wireEntries
  refine .foldl_fst h (fun _ _ h => ?_) _
  split
  · exact .pair (.of_eq ‹_› (.wireItems h))

theorem Kept.layBase {s₀ s : State} (h : Kept s₀ s) {g : Nat} {es : List ShipEntry} : Kept s₀ (s.layBase g es) :=
  .group' (.foldl (.dropBase h) (fun _ _ h => .addRef h) _)

theorem Kept.startBase {s₀ s : State} (h : Kept s₀ s) {id : Nat} : Kept s₀ (s.startBase id) := by
  unfold State.startBase
  split
  · exact h
  · exact .ev0 (.group' (.layBase (.shipTrim h)))

theorem Kept.lapse {s₀ s : State} (h : Kept s₀ s) {g : Nat} : Kept s₀ (s.lapse g) := .startBase (.ev0 (.bump h))

theorem Kept.answerAsk {s₀ s : State} (h : Kept s₀ s) {src domain : Nat} {fp : Bytes} {len : Nat} :
    Kept s₀ (s.answerAsk src domain fp len) := by
  unfold State.answerAsk
  split
  · exact .send h
  · split
    · split
      · exact .ite (.send (.of_eq ‹_› (.readChunk h))) (.send (.of_eq ‹_› (.readChunk h)))
      · exact .rp' (.of_eq ‹_› (.readChunk h))
      · exact .send (.of_eq ‹_› (.readChunk h))

theorem Kept.serveAsks {s₀ s : State} (h : Kept s₀ s) : Kept s₀ s.serveAsks := .foldl (.rp' h) (fun _ _ h => .answerAsk h) _

theorem Kept.shipChunk {s₀ s : State} (h : Kept s₀ s) {g : RGroup} {chunk : Nat} : Kept s₀ (s.shipChunk g chunk) := by
  unfold State.shipChunk
  split
  · exact .send (.stat (.ite (.group' h) h))
  · exact h

theorem Kept.sendBatch {s₀ s : State} (h : Kept s₀ s) {id : Nat} {b : Batch} : Kept s₀ (s.sendBatch id b) := by
  unfold State.sendBatch
  split
  · exact h
  · split
    · dsimp only
      exact .send (.group' (.wireEntries (.foldl h (fun _ _ h => .shipChunk h) _)))
    · dsimp only
      exact .send (.group' (.wireEntries (.foldl h (fun _ _ h => .shipChunk h) _)))

theorem Kept.offerBatch {s₀ s : State} (h : Kept s₀ s) {id : Nat} {b : Batch} : Kept s₀ (s.offerBatch id b) := by
  unfold State.offerBatch
  split
  · exact h
  · exact .ite (.sendBatch (.group' h)) (.send (.stat (.group' h)))

theorem Kept.openBatch {s₀ s : State} (h : Kept s₀ s) {id first last : Nat} {base : Bool} {es : List ShipEntry} :
    Kept s₀ (s.openBatch id first last base es) := by
  unfold State.openBatch
  split
  · exact h
  · exact .offerBatch (.group' h)

theorem Kept.closeBatch {s₀ s : State} (h : Kept s₀ s) {id : Nat} : Kept s₀ (s.closeBatch id) := by
  unfold State.closeBatch
  split
  · exact h
  · refine .ite h ?_
    split
    · exact .offerBatch h
    · exact .ite h (.ite (.openBatch h) (.ite h (.ite h (.openBatch h))))

theorem Kept.askTarget {s₀ s : State} (h : Kept s₀ s) {g : RGroup} {head : Nat} : Kept s₀ (s.askTarget g head) := by
  unfold State.askTarget
  refine .ite (.send (.group' h)) ?_
  split
  · exact .send (.of_eq ‹_› (.setupMsg (.group' h)))

theorem Kept.resumeGroup {s₀ s : State} (h : Kept s₀ s) {id : Nat} : Kept s₀ (s.resumeGroup id) := by
  unfold State.resumeGroup
  split
  · exact h
  · exact .ite h (.askTarget (.group' h))

theorem Kept.resumeGroups {s₀ s : State} (h : Kept s₀ s) {p : RGroup → Bool} : Kept s₀ (s.resumeGroups p) :=
  .foldl h (fun _ _ h => .resumeGroup h) _

theorem Kept.landShipped {s₀ s : State} (h : Kept s₀ s) {d : Nat} {frame content fp : Bytes} {bytewise : Bool} :
    Kept s₀ (s.landShipped d frame content fp bytewise).1 := by
  unfold State.landShipped
  refine .fst_ite (.fst_ite h ?_) (.fst_ite (.fst_ite h ?_) ?_)
  · split
    · exact .pair (.flushMap (.clashes (.storeFrame (.ite (.filterSet (.of_eq ‹_› (.allocChunk h))) (.addPending (.rd' (.filterSet (.of_eq
        ‹_› (.allocChunk h)))))))))
  · split
    · exact .pair (.flushMap (.clashes (.storeFrame (.ite (.filterSet (.of_eq ‹_› (.allocChunk h))) (.addPending (.rd' (.filterSet (.of_eq
        ‹_› (.allocChunk h)))))))))
  · split
    · exact .pair (.flushMap (.of_eq ‹_› (.findDup h)))
    · exact .fst_ite (.pair (.of_eq ‹_› (.findDup h))) (.pair (.flushMap (.storeFrame (.of_eq ‹_› (.findDup h)))))
    · refine .fst_ite (.pair (.of_eq ‹_› (.findDup h))) ?_
      split
      · exact .pair (.flushMap (.clashes (.storeFrame (.ite (.filterSet (.of_eq ‹_› (.allocChunk (.of_eq ‹_› (.findDup h))))) (.addPending
          (.rd' (.filterSet (.of_eq ‹_› (.allocChunk (.of_eq ‹_› (.findDup h)))))))))))
    · refine .fst_ite (.pair (.of_eq ‹_› (.findDup h))) ?_
      split
      · exact .pair (.flushMap (.clashes (.storeFrame (.ite (.filterSet (.of_eq ‹_› (.allocChunk (.of_eq ‹_› (.findDup h))))) (.addPending
          (.rd' (.filterSet (.of_eq ‹_› (.allocChunk (.of_eq ‹_› (.findDup h)))))))))))
    · refine .fst_ite (.pair (.of_eq ‹_› (.findDup h))) ?_
      split
      · exact .pair (.flushMap (.clashes (.storeFrame (.ite (.filterSet (.of_eq ‹_› (.allocChunk (.of_eq ‹_› (.findDup h))))) (.addPending
          (.rd' (.filterSet (.of_eq ‹_› (.allocChunk (.of_eq ‹_› (.findDup h)))))))))))

theorem Kept.buildTop {s₀ s : State} (h : Kept s₀ s) {d len : Nat} {token digest : Bytes} {multi : Bool} {leaves : List (Bytes × Nat)}
  {cuts : List (Nat × Nat)} :
    Kept s₀ (s.buildTop d len token digest multi leaves cuts).1 := by
  unfold State.buildTop
  split
  · dsimp only
    exact .flushMap (.storeManifest h)
  · dsimp only
    exact .flushMap (.fst_ite (.storeManifest (.foldl_fst h (fun _ _ h => .pair (.storeManifest h)) _)) (.storeManifest (.foldl_fst (.pair
      (.foldl_fst h (fun _ _ h => .pair (.storeManifest h)) _)) (fun _ _ h => .pair (.storeManifest h)) _)))

theorem Kept.buildTops {s₀ s : State} (h : Kept s₀ s) {g source : Nat} {es : List ShipEntry} : Kept s₀ (s.buildTops g source es) := by
  unfold State.buildTops
  refine .foldl h (fun _ _ h => ?_) _
  split
  · refine .ite h ?_
    split
    · exact .replica' (.of_eq ‹_› (.buildTop h))
  · exact h

theorem Kept.shipSettingsIn {s₀ s : State} (h : Kept s₀ s) {es : List ShipEntry} : Kept s₀ (s.shipSettingsIn es) := by
  unfold State.shipSettingsIn
  refine .foldl h (fun _ _ h => ?_) _
  split
  · exact .ownInternal h
  · exact h

theorem Kept.tryBatch {s₀ s : State} (h : Kept s₀ s) {g source : Nat} : Kept s₀ (s.tryBatch g source) := by
  unfold State.tryBatch
  split
  · exact h
  · split
    · exact h
    · exact .ite h (.ite (.ite h (.send (.replica' h))) (.ite (.buildTops h) (.stat (.commitChain (.replica' (.shipSettingsIn (.buildTops
        h)))))))

theorem Kept.trySwitch {s₀ s : State} (h : Kept s₀ s) {g source : Nat} : Kept s₀ (s.trySwitch g source) := by
  unfold State.trySwitch
  split
  · exact h
  · exact .ite h (.ite (.buildTops h) (.ev0 (.commit (.shipSettingsIn (.buildTops h)))))

theorem Kept.keepStaging {s₀ s : State} (h : Kept s₀ s) {g source : Nat} : Kept s₀ (s.keepStaging g source) := by
  unfold State.keepStaging
  split
  · exact h
  · exact .outer h

theorem Kept.replTick {s₀ s : State} (h : Kept s₀ s) : Kept s₀ s.replTick := .foldl h (fun _ _ h => .ite (.trySwitch (.tryBatch h)) h) _

/-! ## The operations of Machine/HivePower -/

theorem Kept.busSend {s₀ s : State} (h : Kept s₀ s) {hive cmd arg : Nat} : Kept s₀ (s.busSend hive cmd arg) := .send (.hv' h)

theorem Kept.sendVote {s₀ s : State} (h : Kept s₀ s) {hive : Nat} {up : Bool} : Kept s₀ (s.sendVote hive up) := .hive' (.busSend h)

theorem Kept.poll {s₀ s : State} (h : Kept s₀ s) {bus : Nat} : Kept s₀ (s.poll bus) := by
  unfold State.poll
  refine .ite h ?_
  split
  · exact .send (.hv' h)
  · split
    · split
      · exact .ite (.hive' h) (.sendVote h)
      · exact h
    · dsimp only
      split
      · exact .busSend (.hv' h)
      · exact h

theorem execHcbPoll_keeps (bus : Nat) (s : State) : Keeps s (execHcbPoll bus s) := .ok (.ite (.poll (.refl s)) (.refl s))

theorem execHcbReply_keeps (hive seq status : Nat) (b : ShelfBlock) (s : State) : Keeps s (execHcbReply hive seq status b s) := by
  have h := Kept.refl s
  unfold execHcbReply
  refine .ok ?_
  split
  · exact .ite (.hive' h) (.bump h)
  · exact .ite (.bump h) (.ite (.serveAsks (.serveGather (.polled (.takeBlock (.hv' h))))) (.polled (.takeBlock (.hv' h))))

theorem execHcbRequestRetry_keeps (bus seq : Nat) (s : State) : Keeps s (execHcbRequestRetry bus seq s) := by
  have h := Kept.refl s
  unfold execHcbRequestRetry
  refine .ok ?_
  split
  · exact h
  · exact .ite h (.ite (.hv' h) (.send (.bump (.hv' h))))

theorem execShelfSilentTimeout_keeps (hive : Nat) (s : State) : Keeps s (execShelfSilentTimeout hive s) := by
  have h := Kept.refl s
  unfold execShelfSilentTimeout
  refine .ok ?_
  split
  · exact h
  · exact .ite h (.ite (.polled h) (.polled (.tideSwap (.ev0 (.hive' h)))))

theorem Kept.memberTimeout {s₀ s : State} (h : Kept s₀ s) {link ord member : Nat} : Kept s₀ (s.memberTimeout link ord member) :=
  .ite (.markFailed (.link' (.bump (.ev0 h)))) (.link' (.bump (.ev0 h)))

theorem execMemberReadTimeout_keeps (ord member : Nat) (s : State) : Keeps s (execMemberReadTimeout ord member s) := by
  have h := Kept.refl s
  unfold execMemberReadTimeout
  refine .ok ?_
  split
  · exact h
  · exact .ite h (.serveGather (.serveAsks (.sp' (.cond h (fun _ h => .memberTimeout h) _))))

theorem execWakeTimeout_keeps (hive : Nat) (s : State) : Keeps s (execWakeTimeout hive s) := by
  have h := Kept.refl s
  unfold execWakeTimeout
  refine .ok ?_
  split
  · exact h
  · exact .ite h (.ite (.tideSwap (.bump (.ev0 (.hive' h)))) (.ite (.ev0 (.hive' h)) h))

theorem execWakeRetry_keeps (hive : Nat) (s : State) : Keeps s (execWakeRetry hive s) := by
  have h := Kept.refl s
  unfold execWakeRetry
  refine .ok ?_
  split
  · exact h
  · split
    · exact .ite h (.askWake (.hive' h))
    · exact h

theorem execHiveIdleDarkExpiry_keeps (hive : Nat) (s : State) : Keeps s (execHiveIdleDarkExpiry hive s) := by
  have h := Kept.refl s
  unfold execHiveIdleDarkExpiry
  refine .ok ?_
  split
  · exact h
  · exact .ite h (.decideDark h)

theorem execDarkPoint_keeps (hive : Nat) (s : State) : Keeps s (execDarkPoint hive s) := by
  have h := Kept.refl s
  unfold execDarkPoint
  refine .ok ?_
  split
  · exact h
  · exact .ite h (.sendVote h)

theorem execGatherWakeTrigger_keeps (hive : Nat) (s : State) : Keeps s (execGatherWakeTrigger hive s) := .ok (.judgeGather (.refl s))

theorem execGatherDeadline_keeps (ctrl qid cid : Nat) (s : State) : Keeps s (execGatherDeadline ctrl qid cid s) := by
  have h := Kept.refl s
  unfold execGatherDeadline
  refine .ok ?_
  split
  · exact h
  · refine .ite h (.failCmd (.leaveGather ?_))
    split
    · exact .countWait (.foldl h (fun _ _ h => .stat h) _)
    · exact .foldl h (fun _ _ h => .stat h) _

theorem execTokenRenewal_keeps (hive : Nat) (s : State) : Keeps s (execTokenRenewal hive s) := by
  have h := Kept.refl s
  unfold execTokenRenewal
  refine .ok ?_
  split
  · exact h
  · split
    · exact .ite (.askToken h) h
    · exact h

theorem execTokenRequestRetry_keeps (hive : Nat) (s : State) : Keeps s (execTokenRequestRetry hive s) := by
  have h := Kept.refl s
  unfold execTokenRequestRetry
  refine .ok ?_
  split
  · exact h
  · split
    · exact .ite (.askToken h) h
    · exact h

theorem execWorkerTokenExpiry_keeps (hive : Nat) (s : State) : Keeps s (execWorkerTokenExpiry hive s) := by
  have h := Kept.refl s
  unfold execWorkerTokenExpiry
  refine .ok ?_
  split
  · exact h
  · split
    · exact .ite (.decideDark (.hive' h)) h
    · exact h

theorem execQueenAutonomyEnd_keeps (s : State) : Keeps s (execQueenAutonomyEnd s) := by
  have h := Kept.refl s
  unfold execQueenAutonomyEnd
  refine .ok ?_
  split
  · exact .ite (.ev0 (.co' h)) h
  · exact h

/-! ## The operations of Machine/MoveOps -/

theorem Kept.programUnit {s₀ s : State} (h : Kept s₀ s) {r : Region} {m : Member} {foot unit : Bytes} :
    Kept s₀ (s.programUnit r m foot unit) := by
  unfold State.programUnit
  refine .unitSent (.noteProg (.bridge' (.outer h) ?_))
  exact fun _ => ⟨rfl, rfl, rfl, rfl, rfl, rfl⟩

theorem Kept.commitStripe {s₀ s : State} (h : Kept s₀ s) {ord : Nat} : Kept s₀ (s.commitStripe ord) := by
  unfold State.commitStripe
  split
  · exact h
  · exact .ite h (.open' (.commit h))

theorem Kept.stripeNow {s₀ s : State} (h : Kept s₀ s) {ord : Nat} : Kept s₀ (s.stripeNow ord) := by
  unfold State.stripeNow
  split
  · exact h
  · exact .commitStripe (.open' (.foldl (.stat h) (fun _ _ h => .programUnit h) _))

theorem Kept.rebuildTarget {s₀ s : State} (h : Kept s₀ s) {t : Stripe} {i : Nat} : Kept s₀ (s.rebuildTarget t i).1 := by
  unfold State.rebuildTarget
  refine .foldl_fst (.foldl_fst h (fun _ _ h => ?_) _) (fun _ _ h => ?_) _
  · split
    · exact h
    · exact .takeUnit h
  · split
    · exact h
    · exact .takeUnit h

theorem Kept.replaceUnits {s₀ s : State} (h : Kept s₀ s) {t : Stripe} {us : List (Nat × Bytes)} {ms at_ : List Member} :
    Kept s₀ (s.replaceUnits t us ms at_).1 := by
  induction us generalizing s ms at_ with
  | nil =>
    unfold State.replaceUnits
    exact h
  | cons x us ih =>
    unfold State.replaceUnits
    split
    · exact .pair (.of_eq ‹_› (.rebuildTarget h))
    · exact .fst_ite (ih (.programUnit (.of_eq ‹_› (.rebuildTarget h)))) (.pair (.programUnit (.of_eq ‹_› (.rebuildTarget h))))

theorem Kept.commitMembers {s₀ s : State} (h : Kept s₀ s) {t : Stripe} {ms : List Member} : Kept s₀ (s.commitMembers t ms) := .commit h

theorem Kept.loseAt {s₀ s : State} (h : Kept s₀ s) {t : Stripe} : Kept s₀ (s.loseAt t) :=
  .ite h (.ite h (.foldl (.commit h) (fun _ _ h => .bump (.event h)) _))

theorem Kept.rebuild' {s₀ s : State} (hk : Kept s₀ s) {h : Nat} {f : Rebuild → Rebuild} : Kept s₀ (s.rebuild' h f) := .sp' hk

theorem Kept.rebuildCkpt {s₀ s : State} (h : Kept s₀ s) {r : Rebuild} : Kept s₀ (s.rebuildCkpt r) := .journal h

theorem Kept.metaRewrite {s₀ s : State} (h : Kept s₀ s) {t : Stripe} : Kept s₀ (s.metaRewrite t) := .me' (.stripe' h)

theorem Kept.rebuildStripe {s₀ s : State} (h : Kept s₀ s) {r : Rebuild} {t : Stripe} : Kept s₀ (s.rebuildStripe r t) := by
  unfold State.rebuildStripe
  refine .ite h ?_
  split
  · split
    · split
      · dsimp only
        split
        · exact .ite (.rebuild' (.rebuildCkpt (.rebuild' (.metaRewrite h)))) (.rebuild' (.metaRewrite h))
        · exact .rebuild' (.metaRewrite h)
      · dsimp only
        split
        · exact .ite (.rebuild' (.rebuildCkpt (.rebuild' (.metaRewrite h)))) (.rebuild' (.metaRewrite h))
        · exact .rebuild' (.metaRewrite h)
    · split
      · dsimp only
        split
        · exact .ite (.rebuild' (.rebuildCkpt (.rebuild' (.stat (.leaveToRewrite (.metaRewrite h)))))) (.rebuild' (.stat (.leaveToRewrite
            (.metaRewrite h))))
        · exact .rebuild' (.stat (.leaveToRewrite (.metaRewrite h)))
      · dsimp only
        split
        · exact .ite (.rebuild' (.rebuildCkpt (.rebuild' (.stat (.leaveToRewrite (.metaRewrite h)))))) (.rebuild' (.stat (.leaveToRewrite
            (.metaRewrite h))))
        · exact .rebuild' (.stat (.leaveToRewrite (.metaRewrite h)))
  · split
    · split
      · split
        · dsimp only
          split
          · exact .ite (.rebuild' (.rebuildCkpt (.rebuild' (.loseAt (.heedPages h))))) (.rebuild' (.loseAt (.heedPages h)))
          · exact .rebuild' (.loseAt (.heedPages h))
        · dsimp only
          split
          · exact .ite (.rebuild' (.rebuildCkpt (.rebuild' (.loseAt (.heedPages h))))) (.rebuild' (.loseAt (.heedPages h)))
          · exact .rebuild' (.loseAt (.heedPages h))
      · split
        · dsimp only
          split
          · exact .ite (.rebuild' (.rebuildCkpt (.rebuild' (.stat (.leaveToRewrite (.loseAt (.heedPages h))))))) (.rebuild' (.stat
              (.leaveToRewrite (.loseAt (.heedPages h)))))
          · exact .rebuild' (.stat (.leaveToRewrite (.loseAt (.heedPages h))))
        · dsimp only
          split
          · exact .ite (.rebuild' (.rebuildCkpt (.rebuild' (.stat (.leaveToRewrite (.loseAt (.heedPages h))))))) (.rebuild' (.stat
              (.leaveToRewrite (.loseAt (.heedPages h)))))
          · exact .rebuild' (.stat (.leaveToRewrite (.loseAt (.heedPages h))))
    · split
      · split
        · split
          · dsimp only
            split
            · exact .ite (.rebuild' (.rebuildCkpt (.rebuild' (.stat (.commitMembers (.of_eq ‹_› (.replaceUnits (.heedPages h))))))))
                (.rebuild' (.stat (.commitMembers (.of_eq ‹_› (.replaceUnits (.heedPages h))))))
            · exact .rebuild' (.stat (.commitMembers (.of_eq ‹_› (.replaceUnits (.heedPages h)))))
          · dsimp only
            split
            · exact .ite (.rebuild' (.rebuildCkpt (.rebuild' (.stat (.commitMembers (.of_eq ‹_› (.replaceUnits (.heedPages h))))))))
                (.rebuild' (.stat (.commitMembers (.of_eq ‹_› (.replaceUnits (.heedPages h))))))
            · exact .rebuild' (.stat (.commitMembers (.of_eq ‹_› (.replaceUnits (.heedPages h)))))
        · split
          · dsimp only
            split
            · exact .ite (.rebuild' (.rebuildCkpt (.rebuild' (.stat (.leaveToRewrite (.stat (.commitMembers (.of_eq ‹_› (.replaceUnits
                (.heedPages h)))))))))) (.rebuild' (.stat (.leaveToRewrite (.stat (.commitMembers (.of_eq ‹_› (.replaceUnits (.heedPages
                h))))))))
            · exact .rebuild' (.stat (.leaveToRewrite (.stat (.commitMembers (.of_eq ‹_› (.replaceUnits (.heedPages h)))))))
          · dsimp only
            split
            · exact .ite (.rebuild' (.rebuildCkpt (.rebuild' (.stat (.leaveToRewrite (.stat (.commitMembers (.of_eq ‹_› (.replaceUnits
                (.heedPages h)))))))))) (.rebuild' (.stat (.leaveToRewrite (.stat (.commitMembers (.of_eq ‹_› (.replaceUnits (.heedPages
                h))))))))
            · exact .rebuild' (.stat (.leaveToRewrite (.stat (.commitMembers (.of_eq ‹_› (.replaceUnits (.heedPages h)))))))
      · split
        · split
          · dsimp only
            split
            · exact .ite (.rebuild' (.rebuildCkpt (.rebuild' (.of_eq ‹_› (.replaceUnits (.heedPages h)))))) (.rebuild' (.of_eq ‹_›
                (.replaceUnits (.heedPages h))))
            · exact .rebuild' (.of_eq ‹_› (.replaceUnits (.heedPages h)))
          · dsimp only
            split
            · exact .ite (.rebuild' (.rebuildCkpt (.rebuild' (.of_eq ‹_› (.replaceUnits (.heedPages h)))))) (.rebuild' (.of_eq ‹_›
                (.replaceUnits (.heedPages h))))
            · exact .rebuild' (.of_eq ‹_› (.replaceUnits (.heedPages h)))
        · split
          · dsimp only
            split
            · exact .ite (.rebuild' (.rebuildCkpt (.rebuild' (.stat (.leaveToRewrite (.of_eq ‹_› (.replaceUnits (.heedPages h))))))))
                (.rebuild' (.stat (.leaveToRewrite (.of_eq ‹_› (.replaceUnits (.heedPages h))))))
            · exact .rebuild' (.stat (.leaveToRewrite (.of_eq ‹_› (.replaceUnits (.heedPages h)))))
          · dsimp only
            split
            · exact .ite (.rebuild' (.rebuildCkpt (.rebuild' (.stat (.leaveToRewrite (.of_eq ‹_› (.replaceUnits (.heedPages h))))))))
                (.rebuild' (.stat (.leaveToRewrite (.of_eq ‹_› (.replaceUnits (.heedPages h))))))
            · exact .rebuild' (.stat (.leaveToRewrite (.of_eq ‹_› (.replaceUnits (.heedPages h)))))

theorem Kept.secondFails {s₀ s : State} (h : Kept s₀ s) {r : Rebuild} : Kept s₀ (s.secondFails r) := by
  unfold State.secondFails
  refine .ite h ?_
  split
  · exact h
  · exact .ev0 (.rebuild' h)

theorem Kept.resumeRebuild {s₀ s : State} (hk : Kept s₀ s) {h : Nat} : Kept s₀ (s.resumeRebuild h) := by
  unfold State.resumeRebuild
  split
  · exact .secondFails hk
  · split
    · exact hk
    · split
      · dsimp only
        split
        · exact .sp' (.hive' hk)
        · exact .ev0 (.sp' (.hive' hk))
      · dsimp only
        split
        · exact .sp' (.hive' hk)
        · exact .ev0 (.sp' (.hive' hk))

theorem Kept.joinRebuild {s₀ s : State} (hk : Kept s₀ s) {h : Nat} : Kept s₀ (s.joinRebuild h) := by
  unfold State.joinRebuild
  split
  · exact hk
  · split
    · exact .rebuild' hk

theorem Kept.resumeReshape {s₀ s : State} (hk : Kept s₀ s) {es : List JournalEntry} {h : Nat} : Kept s₀ (s.resumeReshape es h) := by
  unfold State.resumeReshape
  split
  · exact hk
  · split
    · exact .sp' hk
    · exact .ite hk (.hive' (.sp' hk))

theorem Kept.takeReshape {s₀ s : State} (hk : Kept s₀ s) {h : Nat} : Kept s₀ (s.takeReshape h) := by
  unfold State.takeReshape
  dsimp only
  split
  · exact .ite (.resumeReshape hk) (.journal (.resumeReshape hk))
  · exact .resumeReshape hk

theorem Kept.undoReshape {s₀ s : State} (hk : Kept s₀ s) {h : Nat} : Kept s₀ (s.undoReshape h) := by
  unfold State.undoReshape
  split
  · exact hk
  · exact .mapChange hk

theorem Kept.rebuildTurn {s₀ s : State} (h : Kept s₀ s) {r : Rebuild} : Kept s₀ (s.rebuildTurn r) :=
  .ite (.rebuild' h) (.ite (.rebuild' h) (.sp' (.ev0 (.hive' (.sp' h)))))

theorem Kept.retireStep {s₀ s : State} (hk : Kept s₀ s) {h : Nat} : Kept s₀ (s.retireStep h) := by
  unfold State.retireStep
  split
  · exact hk
  · split
    · dsimp only
      split
      · refine .ite (.leaveToRewrite (.metaRewrite hk)) ?_
        split
        · exact .leaveToRewrite (.heedPages hk)
        · split
          · exact .commitMembers (.of_eq ‹_› (.replaceUnits (.heedPages hk)))
          · exact .leaveToRewrite (.of_eq ‹_› (.replaceUnits (.heedPages hk)))
      · exact .ite hk (.link' (.sp' (.commit hk)))
    · dsimp only
      split
      · refine .ite (.leaveToRewrite (.metaRewrite hk)) ?_
        split
        · exact .leaveToRewrite (.heedPages hk)
        · split
          · exact .commitMembers (.of_eq ‹_› (.replaceUnits (.heedPages hk)))
          · exact .leaveToRewrite (.of_eq ‹_› (.replaceUnits (.heedPages hk)))
      · exact .ite hk (.link' (.sp' (.commit hk)))

theorem Kept.loseUnsound {s₀ s : State} (h : Kept s₀ s) {t : Stripe} : Kept s₀ (s.loseUnsound t) := by
  unfold State.loseUnsound
  refine .heedPages (.foldl h (fun _ _ h => ?_) _)
  split
  · exact .ite (.readStored h) h
  · exact h

theorem Kept.placeAll {s₀ s : State} (h : Kept s₀ s) {ord : Nat} {es : List (EnvEntry × Place × Bytes)} :
    Kept s₀ (s.placeAll ord es) :=
  .foldl h (fun _ _ h => .placeEnv h) _

theorem Kept.dropStripes {s₀ s : State} (h : Kept s₀ s) {ords : List Nat} : Kept s₀ (s.dropStripes ords) := .mapChange h

theorem Kept.copySlc {s₀ s : State} (h : Kept s₀ s) {hive : Nat} {p : Purpose} {n : Nat} {es : List (EnvEntry × Place × Bytes)} :
    Kept s₀ (s.copySlc hive p n es).1 := by
  induction n generalizing s es with
  | zero => cases es <;> exact h
  | succ n ih =>
    cases es with
    | nil => exact h
    | cons x es =>
      unfold State.copySlc
      dsimp only
      split
      · exact .pair (.of_eq ‹_› (.openStripe h))
      · exact .pair (ih (.cond (.stripeNow (.placeAll (.of_eq ‹_› (.openStripe h)))) (fun _ h => .dropStripes h) _))

theorem Kept.convertSets {s₀ s : State} (hk : Kept s₀ s) {h : Nat} : Kept s₀ (s.convertSets h) := by
  unfold State.convertSets
  refine .foldl hk (fun _ _ h => .ite h ?_) _
  split
  · exact h
  · dsimp only
    split
    · exact .dirtySet (.set' (.blockState h))
    · exact .set' (.blockState h)

theorem Kept.newRow {s₀ s : State} (hk : Kept s₀ s) {h : Nat} {use : BlockUse} : Kept s₀ (s.newRow h use) :=
  .ite hk (.ite (.cond hk (fun _ h => .convertSets h) _) (.me' (.foldl hk (fun _ _ h => .set' (.setBlock h)) _)))

theorem Kept.row' {s₀ s : State} (h : Kept s₀ s) {x : Nat × Nat × Nat} {f : FoldRow → FoldRow} : Kept s₀ (s.row' x f) := .me' h

theorem Kept.rowStripe {s₀ s : State} (h : Kept s₀ s) {r : FoldRow} {p : Purpose} {es : List (EnvEntry × Place × Bytes)} :
    Kept s₀ (s.rowStripe r p es).1 := by
  unfold State.rowStripe
  split
  · refine .fst_ite h ?_
    split
    · exact h
    · split
      · exact .pair (.of_eq ‹_› (.allocStripe (.sp' h)))
      · refine .pair (.row' (.foldl (.foldl (.stripeNow (.placeAll (.sp' (.journal (.of_eq ‹_› (.allocStripe (.sp' h))))))) (fun _ _ h =>
          .set' h) _) (fun _ _ h => ?_) _))
        split
        · exact .ite (.setBlock h) h
        · exact h

theorem Kept.copyRow {s₀ s : State} (h : Kept s₀ s) {x : Nat × Nat × Nat} {p : Purpose} {n : Nat} {es : List (EnvEntry × Place × Bytes)} :
    Kept s₀ (s.copyRow x p n es) := by
  induction n generalizing s es with
  | zero => cases es <;> exact h
  | succ n ih =>
    cases es with
    | nil => exact h
    | cons x es =>
      unfold State.copyRow
      split
      · exact h
      · dsimp only
        split
        · exact .ite (.of_eq ‹_› (.rowStripe h)) (ih (.of_eq ‹_› (.rowStripe h)))
        · exact .of_eq ‹_› (.rowStripe h)

theorem Kept.fillRow {s₀ s : State} (h : Kept s₀ s) {x : Nat × Nat × Nat} {p : Purpose} {n : Nat} : Kept s₀ (s.fillRow x p n) := by
  induction n generalizing s with
  | zero =>
    unfold State.fillRow
    exact h
  | succ n ih =>
    unfold State.fillRow
    split
    · exact h
    · split
      · exact ih (.of_eq ‹_› (.rowStripe h))
      · exact .of_eq ‹_› (.rowStripe h)

theorem Kept.padSet {s₀ s : State} (h : Kept s₀ s) {x : Nat × Nat × Nat × Nat} : Kept s₀ (s.padSet x) :=
  .set' (.foldl h (fun _ _ h => .programUnit h) _)

theorem Kept.sealRow {s₀ s : State} (h : Kept s₀ s) {x : Nat × Nat × Nat} : Kept s₀ (s.sealRow x) := by
  unfold State.sealRow
  split
  · exact h
  · refine .row' (.foldl (.foldl h (fun _ _ h => .padSet h) _) (fun _ _ h => ?_) _)
    split
    · exact .ite (.setBlock h) h
    · exact h

theorem Kept.sealIfFull {s₀ s : State} (h : Kept s₀ s) {x : Nat × Nat × Nat} : Kept s₀ (s.sealIfFull x) := by
  unfold State.sealIfFull
  split
  · exact h
  · exact .ite (.sealRow h) h

theorem Kept.judgeFold {s₀ s : State} (h : Kept s₀ s) : Kept s₀ s.judgeFold := .ite (.foldl h (fun _ _ h => .askWake (.hive' h)) _) h

theorem Kept.judgeGc {s₀ s : State} (hk : Kept s₀ s) {h : Nat} : Kept s₀ (s.judgeGc h) := by
  unfold State.judgeGc
  split
  · exact .ite (.ite (.ite (.me' hk) (.ite (.me' hk) hk)) (.ev0 (.me' (.ite (.me' hk) (.ite (.me' hk) hk))))) (.me' (.ite (.me' hk) (.ite
      (.me' hk) hk)))

theorem Kept.placeStripes {s₀ s : State} (h : Kept s₀ s) {ords : List Nat} : Kept s₀ (s.placeStripes ords) := .stat (.mapChange h)

theorem Kept.eraseEnds {s₀ s : State} (h : Kept s₀ s) {b : BlockSet} : Kept s₀ (s.eraseEnds b) :=
  .ite (.retireSet (.stat (.set' h))) (.mapChange (.set' (.stat (.set' h))))

/-! ## The operations of Machine/MetaOps -/

theorem Kept.loseLeaf {s₀ s : State} (h : Kept s₀ s) {d key : Nat} : Kept s₀ (s.loseLeaf d key) := .page' (.ite h (.rd' h))

theorem Kept.losePage {s₀ s : State} (h : Kept s₀ s) {n : PageName} : Kept s₀ (s.losePage n) := by
  unfold State.losePage
  split
  · split
    · exact .foldl h (fun _ _ h => .loseChunk h) _
    · exact .rd' h
    · exact .ite (.loseLeaf h) (.foldl h (fun _ _ h => .loseLeaf h) _)
    · exact .ledgerKeep h
    · exact .foldl (.ks' h) (fun _ _ h => .loseLeaf h) _
    · exact .foldl h (fun _ _ h => .loseChunk h) _
    · exact h

theorem Kept.loseMeta {s₀ s : State} (h : Kept s₀ s) {p : MetaPage} : Kept s₀ (s.loseMeta p) :=
  .ite (.losePage h) (.foldl h (fun _ _ h => .losePage h) _)

theorem Kept.readMeta {s₀ s : State} (h : Kept s₀ s) {p : MetaPage} : Kept s₀ (s.readMeta p) := by
  unfold State.readMeta
  split
  · exact h
  · exact h
  · exact .ite (.me' h) (.ite (.ev0 h) (.loseMeta (.ev0 h)))

theorem Kept.readAgain {s₀ s : State} (h : Kept s₀ s) : Kept s₀ s.readAgain := .foldl (.me' h) (fun _ _ h => .readMeta h) _

theorem Kept.readMetas {s₀ s : State} (h : Kept s₀ s) : Kept s₀ s.readMetas := .foldl h (fun _ _ h => .readMeta h) _

theorem Kept.anchorUnit {s₀ s : State} (h : Kept s₀ s) {bytes : Bytes} {l : Link} : Kept s₀ (s.anchorUnit bytes l) := by
  unfold State.anchorUnit
  split
  · exact h
  · dsimp only
    split
    · exact h
    · split
      · exact .ite (.dirtySet (.set' (.programUnit h))) (.set' (.programUnit h))
      · exact .set' (.programUnit h)

theorem Kept.writeAnchor {s₀ s : State} (h : Kept s₀ s) : Kept s₀ s.writeAnchor := by
  unfold State.writeAnchor
  refine .foldl (.me' h) (fun _ _ h => .foldl h (fun _ _ h => ?_) _) _
  split
  · exact .anchorUnit h
  · exact h

theorem Kept.setRow {s₀ s : State} (h : Kept s₀ s) {r : MetaRow} {st : BlockState} {f : BlockSet → BlockSet} :
    Kept s₀ (s.setRow r st f) :=
  .mapChange (.foldl h (fun _ _ h => .set' (.blockState h)) _)

theorem Kept.takeRow {s₀ s : State} (h : Kept s₀ s) {hive : Nat} : Kept s₀ (s.takeRow hive).1 := by
  unfold State.takeRow
  dsimp only
  split
  · exact h
  · split
    · exact .pair (.ite (.writeAnchor h) h)
    · exact .pair (.me' (.setRow (.ite (.writeAnchor h) h)))

theorem Kept.openMeta {s₀ s : State} (h : Kept s₀ s) {hive : Nat} {pages : List Bytes} : Kept s₀ (s.openMeta hive pages).1 := by
  unfold State.openMeta
  refine .fst_ite h ?_
  split
  · exact .pair (.of_eq ‹_› (.takeRow h))
  · split
    · exact .pair (.of_eq ‹_› (.allocStripe (.of_eq ‹_› (.takeRow h))))
    · exact .pair (.sp' (.journal (.ite (.me' (.setRow (.foldl (.of_eq ‹_› (.allocStripe (.of_eq ‹_› (.takeRow h)))) (fun _ _ h => .set'
        h) _))) (.foldl (.of_eq ‹_› (.allocStripe (.of_eq ‹_› (.takeRow h)))) (fun _ _ h => .set' h) _))))

theorem Kept.metaStripe {s₀ s : State} (h : Kept s₀ s) {hive : Nat} {pages : List Bytes} : Kept s₀ (s.metaStripe hive pages).1 := by
  unfold State.metaStripe
  split
  · exact .pair (.of_eq ‹_› (.openMeta h))
  · exact .pair (.stripeNow (.of_eq ‹_› (.openMeta h)))

theorem Kept.metaWrite {s₀ s : State} (h : Kept s₀ s) {hive n : Nat} {ps : List Bytes} {acc : List MetaPtr} :
    Kept s₀ (s.metaWrite hive n ps acc).1 := by
  induction n generalizing s ps acc with
  | zero => cases ps <;> exact h
  | succ n ih =>
    cases ps with
    | nil => exact h
    | cons x ps =>
      unfold State.metaWrite
      split
      · exact ih (.of_eq ‹_› (.metaStripe h))
      · exact .pair (.of_eq ‹_› (.metaStripe h))

theorem Kept.metaCopies {s₀ s : State} (h : Kept s₀ s) {pages : List Bytes} {hs : List Nat} {acc : List (List MetaPtr)} :
    Kept s₀ (s.metaCopies pages hs acc).1 := by
  induction hs generalizing s acc with
  | nil =>
    unfold State.metaCopies
    exact h
  | cons x hs ih =>
    unfold State.metaCopies
    split
    · exact ih (.of_eq ‹_› (.metaWrite h))
    · exact .pair (.of_eq ‹_› (.metaWrite h))

theorem Kept.claimSeqs {s₀ s : State} (h : Kept s₀ s) {n n' : Nat} : Kept s₀ (s.claimSeqs n n') := by
  induction n' generalizing s n with
  | zero =>
    unfold State.claimSeqs
    exact h
  | succ n' ih =>
    unfold State.claimSeqs
    exact .ite h (ih (.me' (.mapChange h)))

theorem Kept.flushWith {s₀ s : State} (h : Kept s₀ s) {extra : List (MetaPage × Bytes)} : Kept s₀ (s.flushWith extra) := by
  unfold State.flushWith
  refine .ite h (.ite (.claimSeqs h) ?_)
  dsimp only
  split
  · exact h
  · exact .stat (.outer (.me' (.of_eq ‹_› (.metaCopies h))))

theorem Kept.flush {s₀ s : State} (h : Kept s₀ s) : Kept s₀ s.flush := .flushWith h

theorem Kept.takePages {s₀ s : State} (h : Kept s₀ s) : Kept s₀ s.takePages := .outer (.foldl h (fun _ _ h => .readMeta h) _)

/-! ## The operations of Machine/WalkOps -/

theorem Kept.lineFails {s₀ s : State} (h : Kept s₀ s) {off : Nat} : Kept s₀ (s.lineFails off).1 :=
  .fst_ite (.pair (.bump (.ev0 (.bump (.afterDraw h))))) (.pair (.bump (.afterDraw h)))

/-! ## The operations of Machine/PairOps -/

theorem Kept.leaveReshapes {s₀ s : State} (h : Kept s₀ s) : Kept s₀ s.leaveReshapes :=
  .ite h (.ite (.autoMode (.foldl (.wx' (.sp' h)) (fun _ _ h => .hive' h) _)) (.foldl (.wx' (.sp' h)) (fun _ _ h => .hive' h) _))

theorem Kept.shadowFollow {s₀ s : State} (h : Kept s₀ s) {r : ShadowRec} : Kept s₀ (s.shadowFollow r) := by
  unfold State.shadowFollow
  split
  · refine .foldl h (fun _ _ h => ?_) _
    split
    · exact .filterSet h
    · exact h
  · exact .ev0 h
  · exact .replaced h
  · refine .ite (.leaveReshapes (.ev0 (.stat (.anaUnits (.foldl h (fun _ _ h => ?_) _))))) h
    split
    · exact .domain' h
    · exact h
  · exact .wx' h
  · exact h

theorem Kept.shadowApply {s₀ s : State} (h : Kept s₀ s) {r : ShadowRec} : Kept s₀ (s.shadowApply r) :=
  .shadowFollow (.applyBody (.wx' h))

theorem Kept.shadowAux {s₀ s : State} (h : Kept s₀ s) {n : Nat} : Kept s₀ (s.shadowAux n) := by
  induction n generalizing s with
  | zero =>
    unfold State.shadowAux
    exact h
  | succ n ih =>
    unfold State.shadowAux
    split
    · exact ih (.foldl h (fun _ _ h => .shadowApply h) _)
    · exact h

theorem Kept.applyShadow {s₀ s : State} (h : Kept s₀ s) : Kept s₀ s.applyShadow := .ite h (.shadowAux h)

theorem Kept.readShadow {s₀ s : State} (h : Kept s₀ s) : Kept s₀ s.readShadow :=
  .foldl h (fun _ _ h => .ite h (.cond (.lineFails h) (fun _ h => .wx' h) _)) _

theorem Kept.shadowReplay {s₀ s : State} (h : Kept s₀ s) : Kept s₀ s.shadowReplay := by
  unfold State.shadowReplay
  dsimp only
  split
  · exact .shadowAux (.readShadow h)
  · exact .shadowAux (.wx' (.readShadow h))

theorem Kept.sendWaggle {s₀ s : State} (h : Kept s₀ s) {fabric grant dormant : Bool} : Kept s₀ (s.sendWaggle fabric grant dormant) :=
  .ite (.stat (.send h)) h

theorem Kept.sendWaggles {s₀ s : State} (h : Kept s₀ s) {grant dormant : Bool} : Kept s₀ (s.sendWaggles grant dormant) :=
  .sendWaggle (.sendWaggle h)

theorem Kept.standDown {s₀ s : State} (h : Kept s₀ s) : Kept s₀ s.standDown := .silence (.pr' h)

theorem Kept.dropRebalance {s₀ s : State} (h : Kept s₀ s) : Kept s₀ s.dropRebalance := by
  unfold State.dropRebalance
  split
  · exact h
  · refine .bump (.ev0 (.foldl (.leaveReshapes (.pr' h)) (fun _ _ h => ?_) _))
    split
    · exact .ite (.raiseAna (.domain' h)) h
    · exact h

theorem Kept.declare {s₀ s : State} (h : Kept s₀ s) : Kept s₀ s.declare :=
  .ite (.ownInternal (.ite (.foldl (.dropRebalance (.wx' (.pr' (.ev0 h)))) (fun _ _ h => .raiseAna (.domain' h)) _) (.dropRebalance (.wx'
    (.pr' (.ev0 h)))))) (.ite (.ev0 (.ite (.foldl (.dropRebalance (.wx' (.pr' (.ev0 h)))) (fun _ _ h => .raiseAna (.domain' h)) _)
    (.dropRebalance (.wx' (.pr' (.ev0 h)))))) (.ite (.foldl (.dropRebalance (.wx' (.pr' (.ev0 h)))) (fun _ _ h => .raiseAna (.domain' h))
    _) (.dropRebalance (.wx' (.pr' (.ev0 h))))))

theorem Kept.countMiss {s₀ s : State} (h : Kept s₀ s) {fabric : Bool} : Kept s₀ (s.countMiss fabric) :=
  .ite (.bump (.ev0 (.ite (.pr' h) (.pr' h)))) (.ite (.pr' h) (.pr' h))

theorem Kept.renewTaken {s₀ s : State} (h : Kept s₀ s) : Kept s₀ s.renewTaken :=
  .ite h (.sendReport (.foldl h (fun _ _ h => .askToken h) _))

theorem Kept.endTick {s₀ s : State} (h : Kept s₀ s) : Kept s₀ s.endTick :=
  .ite (.autoMode (.pr' (.ite (.ev0 (.pr' (.pr' (.ite (.declare (.countMiss (.countMiss h))) (.countMiss (.countMiss h)))))) (.pr' (.ite
    (.declare (.countMiss (.countMiss h))) (.countMiss (.countMiss h))))))) (.ite (.autoMode (.renewTaken (.ite (.ev0 (.pr' (.pr' (.ite
    (.declare (.countMiss (.countMiss h))) (.countMiss (.countMiss h)))))) (.pr' (.ite (.declare (.countMiss (.countMiss h))) (.countMiss
    (.countMiss h))))))) (.ite (.ev0 (.pr' (.pr' (.ite (.declare (.countMiss (.countMiss h))) (.countMiss (.countMiss h)))))) (.pr' (.ite
    (.declare (.countMiss (.countMiss h))) (.countMiss (.countMiss h))))))

theorem Kept.joinMode {s₀ s : State} (h : Kept s₀ s) : Kept s₀ s.joinMode :=
  .ite h (.ite (.ev0 (.enterMode h)) (.ite (.ev0 (.autoMode h)) h))

theorem Kept.chainTick {s₀ s : State} (h : Kept s₀ s) : Kept s₀ s.chainTick := by
  unfold State.chainTick
  refine .ite h ?_
  split
  · exact .pr' h
  · exact .pr' h

theorem Kept.sendDigest {s₀ s : State} (h : Kept s₀ s) : Kept s₀ s.sendDigest := .ite (.send h) h

theorem Kept.sendDormant {s₀ s : State} (h : Kept s₀ s) : Kept s₀ s.sendDormant := .ite h (.md' (.sendWaggles h))

theorem Kept.waggleTick {s₀ s : State} (h : Kept s₀ s) : Kept s₀ s.waggleTick :=
  .ite (.sendDormant h) (.ite h (.sendWaggles (.ite (.stat (.pr' h)) h)))

theorem Kept.keyTick {s₀ s : State} (h : Kept s₀ s) : Kept s₀ s.keyTick :=
  .ite (.ite (.reseal (.ks' h)) h) (.ite (.reseal (.ks' (.ite (.reseal (.ks' h)) h))) (.ite (.ite (.ite (.reseal (.ks' h)) h)
    (.internalFrame (.ite (.reseal (.ks' h)) h))) (.ite (.reseal (.ks' h)) h)))

theorem Kept.formatTick {s₀ s : State} (h : Kept s₀ s) : Kept s₀ s.formatTick := by
  unfold State.formatTick
  split
  · exact h
  · exact .ite h (.internalFrame h)

theorem Kept.genTick {s₀ s : State} (h : Kept s₀ s) : Kept s₀ s.genTick := .foldl h (fun _ _ h => .ite (.commit h) h) _

theorem Kept.hiveTick {s₀ s : State} (h : Kept s₀ s) {id : Nat} : Kept s₀ (s.hiveTick id) := by
  unfold State.hiveTick
  dsimp only
  split
  · exact .resumeRebuild (.judgeGc h)
  · refine .ite (.ite (.hive' (.ite (.askWake (.hive' (.resumeRebuild (.judgeGc h)))) (.hive' (.resumeRebuild (.judgeGc h))))) (.ite
      (.askWake (.hive' (.resumeRebuild (.judgeGc h)))) (.hive' (.resumeRebuild (.judgeGc h))))) ?_
    split
    · exact .stat (.ite (.stat (.ite (.hive' (.ite (.askWake (.hive' (.resumeRebuild (.judgeGc h)))) (.hive' (.resumeRebuild (.judgeGc
        h))))) (.ite (.askWake (.hive' (.resumeRebuild (.judgeGc h)))) (.hive' (.resumeRebuild (.judgeGc h)))))) (.ite (.hive' (.ite
        (.askWake (.hive' (.resumeRebuild (.judgeGc h)))) (.hive' (.resumeRebuild (.judgeGc h))))) (.ite (.askWake (.hive' (.resumeRebuild
        (.judgeGc h)))) (.hive' (.resumeRebuild (.judgeGc h))))))
    · exact .ite (.stat (.ite (.hive' (.ite (.askWake (.hive' (.resumeRebuild (.judgeGc h)))) (.hive' (.resumeRebuild (.judgeGc h)))))
        (.ite (.askWake (.hive' (.resumeRebuild (.judgeGc h)))) (.hive' (.resumeRebuild (.judgeGc h)))))) (.ite (.hive' (.ite (.askWake
        (.hive' (.resumeRebuild (.judgeGc h)))) (.hive' (.resumeRebuild (.judgeGc h))))) (.ite (.askWake (.hive' (.resumeRebuild (.judgeGc
        h)))) (.hive' (.resumeRebuild (.judgeGc h)))))

theorem Kept.runTick {s₀ s : State} (h : Kept s₀ s) : Kept s₀ s.runTick :=
  .ite (.standingVotes (.waggleTick h)) (.askWaiting (.replTick (.foldl (.issueAll (.issueErases (.settle (.foldl (.genTick (.judgeFold
    (.countHolds (.judgeHolds (.refill (.judgeLanding (.readAgain (.standingVotes (.sendDigest (.waggleTick (.chainTick (.ite (.tryWake
    (.colonyTick (.retryRaises (.joinMode (.formatTick (.keyTick (.frameTick (.ite h (.writeLater h))))))))) (.colonyTick (.retryRaises
    (.joinMode (.formatTick (.keyTick (.frameTick (.ite h (.writeLater h)))))))))))))))))))) (fun _ _ h => .hiveTick h) _)))) (fun _ _ h
    => .reissueBusy h) _)))

/-! ## The operations of Machine/ReplayOps -/

theorem Kept.tearRecords {s₀ s : State} (h : Kept s₀ s) : Kept s₀ s.tearRecords := .foldl h (fun _ _ h => .ite h (.wx' (.lineFails h))) _

theorem Kept.readJournal {s₀ s : State} (h : Kept s₀ s) {base : Nat} {es : List JournalEntry} : Kept s₀ (s.readJournal base es).1 :=
  .foldl_fst h (fun _ _ h => .pair (.lineFails h)) _

/-- The tables of the flash take the place of those that the invariants do not look at. -/
theorem loadFlash_kept (s : State) : Kept s s.loadFlash where
  sessions h := h.congr rfl rfl
  memory h := h
  recorder _ h := h.congr rfl rfl rfl rfl rfl
  ledger h := h.congr rfl rfl rfl
  counters h := h
  regs h := h
  device := rfl
  numbers := le_rfl
  cache h := h.congr rfl rfl
  combs := List.forall₂_same.2 fun b _ => .refl b

theorem Kept.loadFlash {s₀ s : State} (h : Kept s₀ s) : Kept s₀ s.loadFlash :=
  h.trans (loadFlash_kept s)

theorem Kept.readAnchors {s₀ s : State} (h : Kept s₀ s) : Kept s₀ s.readAnchors := .foldl (.me' h) (fun _ _ h => .set' h) _

theorem Kept.findFlash {s₀ s : State} (h : Kept s₀ s) : Kept s₀ s.findFlash := by
  unfold State.findFlash
  dsimp only
  split
  · exact .outer h
  · exact h

theorem Kept.replayFrame {s₀ s : State} (h : Kept s₀ s) {f : Frame} : Kept s₀ (s.replayFrame f) :=
  .foldl h (fun _ _ h => .ite (.superAttach h) (.ite h (.ite (.changeApiary h) (.ite (.takeFormats h) (.ite (.reseal (.ks' h))
    (.applySetting h)))))) _

theorem Kept.replayFrames {s₀ s : State} (h : Kept s₀ s) {tick : Nat} : Kept s₀ (s.replayFrames tick) :=
  .foldl h (fun _ _ h => .frame' (.endFrame (.replayFrame h))) _

theorem Kept.owedEnds {s₀ s : State} (h : Kept s₀ s) : Kept s₀ s.owedEnds := .foldl h (fun _ _ h => .frameEvent (.commit (.frame' h))) _

theorem Kept.replayRec {s₀ s : State} (h : Kept s₀ s) {r : WaxRec} : Kept s₀ (s.replayRec r) := by
  unfold State.replayRec
  refine .ite ?_ ?_
  · split
    · exact .wx' (.wx' (.ite h (.replayFrames h)))
    · exact .wx' (.ite h (.replayFrames h))
  · split
    · split
      · exact .addPending (.me' (.applyBody (.wx' h)))
      · exact .rd' (.me' (.applyBody (.wx' h)))
      · exact .me' (.applyBody (.wx' h))
    · split
      · exact .addPending (.me' (.applyBody (.wx' (.replayFrames h))))
      · exact .rd' (.me' (.applyBody (.wx' (.replayFrames h))))
      · exact .me' (.applyBody (.wx' (.replayFrames h)))

theorem Kept.replayAux {s₀ s : State} (h : Kept s₀ s) {pool : List WaxRec} {n : Nat} : Kept s₀ (s.replayAux pool n) := by
  induction n generalizing s with
  | zero =>
    unfold State.replayAux
    exact h
  | succ n ih =>
    unfold State.replayAux
    split
    · exact h
    · exact ih (.foldl h (fun _ _ h => .replayRec h) _)

theorem Kept.cutTail {s₀ s : State} (h : Kept s₀ s) : Kept s₀ s.cutTail := .wx' h

theorem Kept.replayEnds {s₀ s : State} (h : Kept s₀ s) {ck first : Nat} : Kept s₀ (s.replayEnds ck first) :=
  .ev0 (.cond h (fun _ h => .ev0 h) _)

theorem Kept.replayFrom {s₀ s : State} (h : Kept s₀ s) {c : CkRec} : Kept s₀ (s.replayFrom c) := by
  unfold State.replayFrom
  exact .wx' (.replayAux (.wx' h))

theorem Kept.replayOwn {s₀ s : State} (h : Kept s₀ s) : Kept s₀ s.replayOwn := by
  unfold State.replayOwn
  split
  · exact .wx' (.replayEnds (.cutTail (.replayFrom h)))
  · exact .ite (.wx' (.replayEnds (.wx' h))) (.wx' (.ev0 (.wx' (.wx' h))))

theorem Kept.resumeIds {s₀ s : State} (h : Kept s₀ s) : Kept s₀ s.resumeIds := .me' (.sp' (.rd' h))

theorem Kept.tailDone {s₀ s : State} (h : Kept s₀ s) : Kept s₀ s.tailDone := by
  unfold State.tailDone
  split
  · exact h
  · split
    · exact h
    · dsimp only
      exact .ev0 (.resumeIds (.wx' (.replayAux (.wx' h))))

theorem Kept.takeCopied {s₀ s : State} (h : Kept s₀ s) {r : ShadowRec} : Kept s₀ (s.takeCopied r) :=
  .ite (.wx' (.overwrite h)) (.tailDone (.wx' (.overwrite h)))

theorem Kept.replayShadow {s₀ s : State} (h : Kept s₀ s) : Kept s₀ s.replayShadow := .shadowReplay (.wx' h)

theorem Kept.barBlock {s₀ s : State} (h : Kept s₀ s) {m : Member} {r : Region} : Kept s₀ (s.barBlock m r) := by
  unfold State.barBlock
  split
  · exact .ite (.setBlock h) h
  · exact .setBlock h

theorem Kept.orphanStripe {s₀ s : State} (h : Kept s₀ s) {es : List JournalEntry} {o : Nat} : Kept s₀ (s.orphanStripe es o) :=
  .ite (.ite (.stat (.journal h)) h) (.foldl (.sp' (.ite (.stat (.journal h)) h)) (fun _ _ h => .barBlock h) _)

theorem Kept.orphanWalk {s₀ s : State} (h : Kept s₀ s) {base : Nat} {es : List JournalEntry} : Kept s₀ (s.orphanWalk base es) := by
  unfold State.orphanWalk
  split
  · exact .foldl (.of_eq ‹_› (.readJournal h)) (fun _ _ h => .orphanStripe h) _

theorem Kept.recoverRows {s₀ s : State} (h : Kept s₀ s) {sd : Side} : Kept s₀ (s.recoverRows sd) := by
  unfold State.recoverRows
  dsimp only
  exact .mapChange (.me' (.sp' h))

theorem Kept.sealShort {s₀ s : State} (h : Kept s₀ s) {sd : Side} : Kept s₀ (s.sealShort sd) :=
  .mapChange (.foldl h (fun _ _ h => .blockState h) _)

theorem Kept.resumeAborts {s₀ s : State} (h : Kept s₀ s) : Kept s₀ s.resumeAborts := by
  unfold State.resumeAborts
  refine .foldl h (fun _ _ h => ?_) _
  split
  · exact .ite (.mapChange (.rd' h)) h
  · exact h

theorem Kept.resumeWork {s₀ s : State} (h : Kept s₀ s) : Kept s₀ s.resumeWork := by
  unfold State.resumeWork
  refine .settle (.resumeGroups (.issueErases (.flushMap (.foldl (.writeAnchor (.resumeAborts (.dirtySets (.releaseEmpty (.sealShort
    (.recoverRows (.foldl (.foldl h (fun _ _ h => .undoReshape (.ite (.resumeReshape (.resumeRebuild h)) (.resumeRebuild h))) _) (fun _ _
    h => .set' h) _))))))) (fun _ _ h => ?_) _))))
  split
  · exact .linkServes h
  · exact h

theorem Kept.replay {s₀ s : State} (h : Kept s₀ s) : Kept s₀ s.replay :=
  .restartFilter (.orphanWalk (.replayFrames (.replayShadow (.wx' (.resumeIds (.readMetas (.replayOwn (.readAnchors (.loadFlash
    (.findFlash (.tearRecords h)))))))))))

/-! ## The operations of Machine/ForageOps -/

theorem Kept.evictOne {s₀ s : State} (h : Kept s₀ s) : Kept s₀ s.evictOne := by
  unfold State.evictOne
  refine .ite h ?_
  dsimp only
  split
  · exact h
  · exact .stat (.ctx' h)

theorem Kept.evictRest {s₀ s : State} (h : Kept s₀ s) : Kept s₀ s.evictRest := .foldl h (fun _ _ h => .evictOne h) _

theorem Kept.putCtx {s₀ s : State} (h : Kept s₀ s) {c : Ctx} : Kept s₀ (s.putCtx c) := .fg' h

theorem Kept.pushUnconfirmed {s₀ s : State} (h : Kept s₀ s) : Kept s₀ s.pushUnconfirmed :=
  .ite h (.foldl (.foldl h (fun _ _ h => .ite h (.mirrorPush h)) _) (fun _ _ h => .ite h (.mirrorPush h)) _)

theorem Kept.bindPinned {s₀ s : State} (h : Kept s₀ s) : Kept s₀ s.bindPinned := by
  unfold State.bindPinned
  refine .pushUnconfirmed (.evictRest (.foldl h (fun _ _ h => ?_) _))
  split
  · exact .ev0 (.putCtx (.of_eq ‹_› (.pathFor h)))

theorem Kept.sendBind {s₀ s : State} (h : Kept s₀ s) {c : Ctx} : Kept s₀ (s.sendBind c) :=
  .ite (.postEntry h) (.sendPackets (.evictOne (.putCtx h)))

theorem Kept.sendBinding {s₀ s : State} (h : Kept s₀ s) {id : Nat} : Kept s₀ (s.sendBinding id) := by
  unfold State.sendBinding
  split
  · exact h
  · dsimp only
    split
    · exact .ensurePath h
    · exact .ite (.sendBind (.ensurePath h)) (.ensurePath h)

theorem Kept.rebind {s₀ s : State} (h : Kept s₀ s) {old : Ctx} : Kept s₀ (s.rebind old) := by
  unfold State.rebind
  refine .ite h ?_
  split
  · exact h
  · exact .sendBinding (.evictOne (.putCtx (.afterDraw h)))

theorem Kept.bindMsg {s₀ s : State} (h : Kept s₀ s) {src : Nat} {b : Bytes} : Kept s₀ (s.bindMsg src b) := by
  unfold State.bindMsg
  refine .ite h ?_
  split
  · split
    · exact .of_eq ‹_› (.pathFor h)
    · exact .pump (.ite (.ev0 (.evictOne (.putCtx (.ite (.afterDraw (.of_eq ‹_› (.pathFor h))) (.of_eq ‹_› (.pathFor h)))))) (.sendBind
        (.ev0 (.evictOne (.putCtx (.ite (.afterDraw (.of_eq ‹_› (.pathFor h))) (.of_eq ‹_› (.pathFor h))))))))

theorem Kept.resumeTo {s₀ s : State} (h : Kept s₀ s) {head : Nat} : Kept s₀ (s.resumeTo head) := .resumeGroups h

theorem Kept.breakSend {s₀ s : State} (h : Kept s₀ s) {c : Ctx} {status : Nat} {ms : List SentMsg} :
    Kept s₀ (s.breakSend c status ms) :=
  .resumeTo (.bump (.ev0 (.ctx' h)))

theorem Kept.failCtx {s₀ s : State} (h : Kept s₀ s) {c : Ctx} {status : Nat} : Kept s₀ (s.failCtx c status) :=
  .resumeTo (.rebind (.bump (.ev0 (.ctx' h))))

theorem Kept.sendAck {s₀ s : State} (h : Kept s₀ s) {id echo : Nat} : Kept s₀ (s.sendAck id echo) := by
  unfold State.sendAck
  split
  · exact h
  · exact .stat (.send h)

theorem Kept.sendNak {s₀ s : State} (h : Kept s₀ s) {p : FPkt} {code off len : Nat} : Kept s₀ (s.sendNak p code off len) :=
  .stat (.send h)

theorem Kept.nakMissing {s₀ s : State} (h : Kept s₀ s) {p : FPkt} {c : Ctx} {id : BitVec 32} {off map : Nat} :
    Kept s₀ (s.nakMissing p c id off map) :=
  .ite h (.sendNak (.ctx' h))

theorem Kept.placePkt {s₀ s : State} (h : Kept s₀ s) {c : Ctx} {p : FPkt} {carried : Option ShadowRec} {journal : Option JournalEntry} :
    Kept s₀ (s.placePkt c p carried journal) :=
  .stat (.ite (.ctx' h) (.putBytes (.ctx' h)))

theorem Kept.dropFull {s₀ s : State} (h : Kept s₀ s) : Kept s₀ s.dropFull := .ite h (.ev0 (.fg' h))

theorem Kept.takeMirrored {s₀ s : State} (h : Kept s₀ s) {r : ShadowRec} : Kept s₀ (s.takeMirrored r) := .applyShadow (.stat (.wx' h))

theorem Kept.takeEntry {s₀ s : State} (h : Kept s₀ s) {e : JournalEntry} : Kept s₀ (s.takeEntry e) := .stat (.wx' h)

theorem Kept.visibleEffect {s₀ s : State} (h : Kept s₀ s) {c : Ctx} {m : RxMsg} : Kept s₀ (s.visibleEffect c m) := by
  unfold State.visibleEffect
  refine .ite (.bindMsg ?_) ?_
  · split
    · refine .ite (.takeEntry ?_) ?_
      · split
        · exact .ite (.takeMirrored h) (.ite (.takeCopied h) h)
        · exact h
      · split
        · exact .ite (.takeMirrored h) (.ite (.takeCopied h) h)
        · exact h
    · split
      · exact .ite (.takeMirrored h) (.ite (.takeCopied h) h)
      · exact h
  · split
    · refine .ite (.takeEntry ?_) ?_
      · split
        · exact .ite (.takeMirrored h) (.ite (.takeCopied h) h)
        · exact h
      · split
        · exact .ite (.takeMirrored h) (.ite (.takeCopied h) h)
        · exact h
    · split
      · exact .ite (.takeMirrored h) (.ite (.takeCopied h) h)
      · exact h

theorem Kept.sendResp {s₀ s : State} (h : Kept s₀ s) {c : Ctx} {m : RxMsg} {again : Bool} : Kept s₀ (s.sendResp c m again) :=
  .sendPackets h

theorem Kept.answerRead {s₀ s : State} (h : Kept s₀ s) {c : Ctx} {m : RxMsg} : Kept s₀ (s.answerRead c m) := .sendResp (.ctx' h)

theorem Kept.showAux {s₀ s : State} (h : Kept s₀ s) {id n : Nat} : Kept s₀ (s.showAux id n) := by
  induction n generalizing s with
  | zero =>
    unfold State.showAux
    exact h
  | succ n ih =>
    unfold State.showAux
    split
    · exact h
    · split
      · exact h
      · exact .ite h (.ite h (ih (.ite (.answerRead (.visibleEffect (.stat (.fg' (.putCtx h))))) (.visibleEffect (.stat (.fg' (.putCtx
          h)))))))

theorem Kept.showMsgs {s₀ s : State} (h : Kept s₀ s) {id echo : Nat} {asked : Bool} : Kept s₀ (s.showMsgs id echo asked) := by
  unfold State.showMsgs
  split
  · exact h
  · exact .ite (.pumpAll (.ite (.sendAck (.showAux h)) (.showAux h))) (.ite (.sendAck (.showAux h)) (.showAux h))

theorem Kept.drainRings {s₀ s : State} (h : Kept s₀ s) : Kept s₀ s.drainRings := .foldl (.fg' h) (fun _ _ h => .showMsgs h) _

theorem Kept.arrive7 {s₀ s : State} (h : Kept s₀ s) {p : FPkt} {carried : Option ShadowRec} {journal : Option JournalEntry} :
    Kept s₀ (s.arrive7 p carried journal) := by
  unfold State.arrive7
  split
  · exact .sendNak h
  · refine .ite (.sendNak h) (.ite (.sendNak h) (.ite (.sendNak h) (.ite h (.ite ?_ (.ite (.bump (.sendNak h)) (.ite (.bump h) (.ite
      (.sendNak h) (.ite (.dropFull h) ?_))))))))
    · split
      · exact .ite h (.send (.stat h))
      · refine .ite (.sendNak h) ?_
        split
        · split
          · dsimp only
            split
            · exact .placePkt h
            · exact .afterDraw (.sendNak (.placePkt h))
          · dsimp only
            split
            · exact .placePkt h
            · exact .ev0 (.ctx' (.afterDraw (.sendNak (.placePkt h))))
        · dsimp only
          split
          · exact .placePkt h
          · exact .pumpAll (.send (.stat (.ctx' (.placePkt h))))
    · split
      · dsimp only
        split
        · refine .showMsgs ?_
          split
          · refine .ite ?_ (.nakMissing ?_)
            · split
              · exact .ite (.nakMissing (.placePkt h)) (.placePkt h)
              · exact .placePkt h
            · split
              · exact .ite (.nakMissing (.placePkt h)) (.placePkt h)
              · exact .placePkt h
          · refine .nakMissing ?_
            split
            · exact .ite (.nakMissing (.placePkt h)) (.placePkt h)
            · exact .placePkt h
        · refine .ite (.ite (.afterDraw (.sendNak (.showMsgs ?_))) (.ev0 (.ctx' (.afterDraw (.sendNak (.showMsgs ?_)))))) (.showMsgs ?_)
          · split
            · refine .ite ?_ (.nakMissing ?_)
              · split
                · exact .ite (.nakMissing (.placePkt h)) (.placePkt h)
                · exact .placePkt h
              · split
                · exact .ite (.nakMissing (.placePkt h)) (.placePkt h)
                · exact .placePkt h
            · refine .nakMissing ?_
              split
              · exact .ite (.nakMissing (.placePkt h)) (.placePkt h)
              · exact .placePkt h
          · split
            · refine .ite ?_ (.nakMissing ?_)
              · split
                · exact .ite (.nakMissing (.placePkt h)) (.placePkt h)
                · exact .placePkt h
              · split
                · exact .ite (.nakMissing (.placePkt h)) (.placePkt h)
                · exact .placePkt h
            · refine .nakMissing ?_
              split
              · exact .ite (.nakMissing (.placePkt h)) (.placePkt h)
              · exact .placePkt h
          · split
            · refine .ite ?_ (.nakMissing ?_)
              · split
                · exact .ite (.nakMissing (.placePkt h)) (.placePkt h)
                · exact .placePkt h
              · split
                · exact .ite (.nakMissing (.placePkt h)) (.placePkt h)
                · exact .placePkt h
            · refine .nakMissing ?_
              split
              · exact .ite (.nakMissing (.placePkt h)) (.placePkt h)
              · exact .placePkt h
      · dsimp only
        split
        · refine .showMsgs ?_
          split
          · exact .ite (.nakMissing (.placePkt h)) (.placePkt h)
          · exact .placePkt h
        · refine .ite (.ite (.afterDraw (.sendNak (.showMsgs ?_))) (.ev0 (.ctx' (.afterDraw (.sendNak (.showMsgs ?_)))))) (.showMsgs ?_)
          · split
            · exact .ite (.nakMissing (.placePkt h)) (.placePkt h)
            · exact .placePkt h
          · split
            · exact .ite (.nakMissing (.placePkt h)) (.placePkt h)
            · exact .placePkt h
          · split
            · exact .ite (.nakMissing (.placePkt h)) (.placePkt h)
            · exact .placePkt h

theorem Kept.checkPkt {s₀ s : State} (h : Kept s₀ s) {p : FPkt} {fits : Bool} : Kept s₀ (s.checkPkt p fits).1 :=
  .fst_ite (.pair (.stat h)) (.fst_ite (.pair (.bump (.stat h))) (.fst_ite (.pair (.bump (.stat h))) (.fst_ite (.pair (.ev0 (.bump (.stat
    h)))) (.fst_ite (.pair (.sendNak (.bump (.stat h)))) (.fst_ite (.pair (.bump (.stat h))) (.pair (.stat h)))))))

theorem Kept.arrive {s₀ s : State} (h : Kept s₀ s) {p : FPkt} {carried : Option ShadowRec} {journal : Option JournalEntry} :
    Kept s₀ (s.arrive p carried journal) := by
  unfold State.arrive
  split
  · refine .ite (.of_eq ‹_› (.checkPkt h)) (.ite (.sendAck (.stat (.of_eq ‹_› (.checkPkt h)))) (.ite (.ite (.dropFull (.of_eq ‹_›
      (.checkPkt h))) (.bindMsg (.send (.fg' (.of_eq ‹_› (.checkPkt h)))))) ?_))
    split
    · exact .ite (.arrive7 (.of_eq ‹_› (.checkPkt h))) (.ite (.stat (.of_eq ‹_› (.checkPkt h))) (.fg' (.of_eq ‹_› (.checkPkt h))))
    · exact .arrive7 (.of_eq ‹_› (.checkPkt h))

theorem Kept.samplePath {s₀ s : State} (h : Kept s₀ s) {path rtt newly : Nat} : Kept s₀ (s.samplePath path rtt newly) := by
  unfold State.samplePath
  split
  · exact h
  · exact .ite (.stat (.path' h)) (.path' h)

theorem Kept.resendMsgs {s₀ s : State} (h : Kept s₀ s) {c : Ctx} {ms : List SentMsg} : Kept s₀ (s.resendMsgs c ms) :=
  .foldl h (fun _ _ h => .ite (.send h) (.sendPackets h)) _

/-! ## The operations of Machine/UpdOps -/

theorem Kept.tellUpdate {s₀ s : State} (h : Kept s₀ s) {version : Nat} {pend fallback : Bool} :
    Kept s₀ (s.tellUpdate version pend fallback) :=
  .ite (.send h) h

theorem Kept.fallBack {s₀ s : State} (h : Kept s₀ s) : Kept s₀ s.fallBack :=
  .resetNow (.silence (.tellUpdate (.bump (.ev0 (.up' (.bankSelect h))))))

theorem Kept.orderFallback {s₀ s : State} (h : Kept s₀ s) : Kept s₀ s.orderFallback := .ite (.ite h (.ev0 (.up' h))) (.fallBack h)

theorem Kept.fallbackTick {s₀ s : State} (h : Kept s₀ s) : Kept s₀ s.fallbackTick := .ite (.fallBack h) h

/-! ## The operations of Machine/WireOps -/

theorem Kept.fetched {s₀ s : State} (hk : Kept s₀ s) {h : HeldReply} : Kept s₀ (s.fetched h) := by
  unfold State.fetched
  refine .ite (.vk' hk) (.ite (.vk' hk) (.session' (.vk' hk) ?_))
  exact fun _ => ⟨rfl, rfl, List.erase_sublist⟩

theorem one_shiftLeft_lt {i n : Nat} (hi : i < n) (hn : n ≤ 32) : (1#32 <<< i).toNat < 2 ^ n := by
  rw [BitVec.toNat_shiftLeft, BitVec.toNat_ofNat, Nat.shiftLeft_eq]
  have := Nat.pow_lt_pow_right (a := 2) (by decide) hi
  have := Nat.pow_le_pow_right (n := 2) (by decide) hn
  omega

theorem or_shiftLeft_lt {x : BitVec 32} {i n : Nat} (hx : x.toNat < 2 ^ n) (hi : i < n) (hn : n ≤ 32) :
    (x ||| 1#32 <<< i).toNat < 2 ^ n := by
  rw [BitVec.toNat_or]
  exact Nat.or_lt_two_pow hx (one_shiftLeft_lt hi hn)

theorem Kept.sbCause {s₀ s : State} (h : Kept s₀ s) {bit : Nat} (hbit : bit < 4 := by decide) : Kept s₀ (s.sbCause bit) := by
  have hset : Kept s₀ (s.sb' fun b => { b with intStatus := b.intStatus ||| 1#32 <<< bit }) :=
    h.sb'_of fun ⟨h1, h2, h3⟩ => ⟨h1, or_shiftLeft_lt h2 hbit (by decide), h3⟩
  unfold State.sbCause
  exact .ite h (.ite hset.send hset)

theorem Kept.judgeStatus {s₀ s : State} (h : Kept s₀ s) : Kept s₀ s.judgeStatus := .ite h (.sbCause (.sb' h))

theorem Kept.mbxFault {s₀ s : State} (h : Kept s₀ s) {bit : Nat} (hbit : bit < 3 := by decide) : Kept s₀ (s.mbxFault bit) :=
  .bump (.ev0 (.sbCause (h.sb'_of fun ⟨h1, h2, h3, h4⟩ => ⟨h1, h2, or_shiftLeft_lt h3 hbit (by decide), h4⟩)))

theorem Kept.sbLoad {s₀ s : State} (h : Kept s₀ s) : Kept s₀ s.sbLoad := by
  unfold State.sbLoad
  refine .ite h ?_
  split
  · exact h
  · exact .sbCause (.sb' h)

theorem Kept.sentinelReset {s₀ s : State} (h : Kept s₀ s) {code : Nat} {sev : Severity} {cause : Nat} :
    Kept s₀ (s.sentinelReset code sev cause) :=
  .resetNow (.lastGasp (.silence h))

theorem Kept.latchWake {s₀ s : State} (h : Kept s₀ s) {bit : Nat} : Kept s₀ (s.latchWake bit) := .ite (.pw' h) h

theorem Kept.judgeAlign {s₀ s : State} (h : Kept s₀ s) : Kept s₀ s.judgeAlign :=
  .ite (.ite (.ck' h) h) (.ite (.ev0 (.ck' (.ev0 (.ite (.ck' h) h)))) (.ite (.ev0 (.ck' (.ev0 (.ite (.ck' h) h)))) (.ck' (.ev0 (.ite (.ck'
    h) h)))))

theorem Kept.peerAligned {s₀ s : State} (h : Kept s₀ s) : Kept s₀ s.peerAligned := .judgeAlign (.ck' (.afterDraw h))

theorem Kept.releasePads {s₀ s : State} (h : Kept s₀ s) : Kept s₀ s.releasePads := .ite (.send (.pw' h)) h

/-! ## The operations of Machine/StartOps -/

theorem Kept.finishStep {s₀ s : State} (h : Kept s₀ s) {k outcome attempt failCode dur : Nat} {detail : Bytes} :
    Kept s₀ (s.finishStep k outcome attempt failCode dur detail) := by
  unfold State.finishStep
  dsimp only
  split
  · exact .extend (.ledgerRec h)
  · exact .ledgerRec h

theorem Kept.beginStep {s₀ s : State} (h : Kept s₀ s) {k attempt : Nat} : Kept s₀ (s.beginStep k attempt) := .ledgerRec (.bt' h)

theorem Kept.bootReset {s₀ s : State} (h : Kept s₀ s) : Kept s₀ s.bootReset := .sentinelReset h

theorem Kept.stepFails {s₀ s : State} (h : Kept s₀ s) {k attempt dur : Nat} : Kept s₀ (s.stepFails k attempt dur) :=
  .finishStep (.afterDraw h)

theorem Kept.stepPasses {s₀ s : State} (h : Kept s₀ s) {k attempt dur : Nat} {detail : Bytes} :
    Kept s₀ (s.stepPasses k attempt dur detail) :=
  .ite (.ev0 (.finishStep h)) (.finishStep h)

theorem Kept.bootStep {s₀ : State} {x : State × Bool} (h : Kept s₀ x.1) {k : Nat} {act : State → State × Bool}
    {detail : State → Bytes} (hact : ∀ t, Kept s₀ t → Kept s₀ (act t).1) : Kept s₀ (Machine.bootStep x k act detail).1 := by
  unfold Machine.bootStep
  refine .fst_ite h (.fst_ite (.pair (.bootReset h.beginStep)) ?_)
  have hstep := hact _ (h.beginStep (k := k) (attempt := x.1.attemptOf k))
  exact .fst_ite (.pair hstep) (.fst_ite (.pair (.bootReset hstep.stepFails)) (.pair hstep.stepPasses))

theorem Kept.romStep {s₀ s : State} (h : Kept s₀ s) : Kept s₀ s.romStep.1 := .pair (.bt' (.ks' (.extend h)))

theorem Kept.namedBank {s₀ s : State} (h : Kept s₀ s) : Kept s₀ s.namedBank.1 := by
  unfold State.namedBank
  split
  · exact h
  · exact .fst_ite h (.fst_ite h (.pair (.bump (.ev0 (.up' (.bankSelect h))))))

theorem Kept.bankFormats {s₀ s : State} (h : Kept s₀ s) {b v : Nat} : Kept s₀ (s.bankFormats b v) := by
  unfold State.bankFormats
  exact .up' (.up' h)

theorem Kept.executeBank {s₀ s : State} (h : Kept s₀ s) {b : Nat} : Kept s₀ (s.executeBank b) := by
  unfold State.executeBank
  exact .up' (.bankFormats (.extend (.extend (.bt' h))))

theorem Kept.bankStep {s₀ s : State} (h : Kept s₀ s) : Kept s₀ s.bankStep.1 := by
  unfold State.bankStep
  split
  · exact .fst_ite (.pair (.executeBank (.of_eq ‹_› (.namedBank h)))) (.fst_ite (.pair (.executeBank (.of_eq ‹_› (.namedBank h)))) (.pair
      (.md' (.ledgerRec (.stepFails (.of_eq ‹_› (.namedBank h)))))))

theorem Kept.dramStep {s₀ s : State} (h : Kept s₀ s) : Kept s₀ s.dramStep.1 := by
  have hdr : Kept s₀ (s.dr' fun d => { d with trained := true, mts := if s.attemptOf 6 != 0 then 4800 else 6400 }) := h.dr'
  exact .pair (hdr.mc' fun ⟨hwf, _⟩ => ⟨hwf, Nat.mod_eq_zero_of_dvd (Dvd.dvd.mul_left (by decide) _),
    Nat.mod_eq_zero_of_dvd (Dvd.dvd.mul_left (by decide) _), List.nodup_nil, List.nodup_nil, nofun⟩)

theorem Kept.waxStep {s₀ s : State} (h : Kept s₀ s) : Kept s₀ s.waxStep.1 :=
  .fst_ite (.pair (.pw' h)) (.pair (.wx' (.reseal (.ks' (.drawKeys (.pw' h))))))

theorem Kept.mainStep {s₀ s : State} (h : Kept s₀ s) : Kept s₀ s.mainStep.1 :=
  .fst_ite h (.pair (.ite (.ev0 (.up' (.ite (.ev0 (.foldl (.extend (.extend h)) (fun _ _ h => .cond (.ev0 h) (fun _ h => .bump h) _) _))
    (.foldl (.foldl (.extend (.extend h)) (fun _ _ h => .cond (.ev0 h) (fun _ h => .bump h) _) _) (fun _ _ h => .ev0 h) _)))) (.ite (.ev0
    (.foldl (.extend (.extend h)) (fun _ _ h => .cond (.ev0 h) (fun _ h => .bump h) _) _)) (.foldl (.foldl (.extend (.extend h)) (fun _ _
    h => .cond (.ev0 h) (fun _ h => .bump h) _) _) (fun _ _ h => .ev0 h) _))))

theorem Kept.testStep {s₀ s : State} (h : Kept s₀ s) : Kept s₀ s.testStep.1 :=
  .pair (.foldl (.md' h) (fun _ _ h => .ite (.ev0 (.ev0 h)) (.ite (.ev0 (.ev0 h)) (.ite (.ev0 (.ev0 h)) (.ev0 h)))) _)

theorem Kept.linkStep {s₀ s : State} (h : Kept s₀ s) : Kept s₀ s.linkStep.1 :=
  .pair (.hv' (.foldl h (fun _ _ h => .ite (.holdLink (.withLink h)) (.linkRises (.withLink h))) _))

theorem Kept.admitHives {s₀ s : State} (h : Kept s₀ s) : Kept s₀ s.admitHives := .foldl h (fun _ _ h => .ev0 (.hive' h)) _

theorem Kept.setTick {s₀ s : State} (h : Kept s₀ s) : Kept s₀ s.setTick := by
  unfold State.setTick
  exact .ck' h

theorem Kept.commitRestore {s₀ s : State} (h : Kept s₀ s) : Kept s₀ s.commitRestore := .ite (.ks' (.commit h)) h

theorem Kept.beginJoin {s₀ s : State} (h : Kept s₀ s) {attempt : Nat} : Kept s₀ (s.beginJoin attempt) :=
  .ite (.pr' (.beginStep h)) (.bindPinned (.pr' (.pw' (.beginStep h))))

theorem Kept.colonyStep {s₀ s : State} (h : Kept s₀ s) {attempt : Nat} : Kept s₀ (s.colonyStep attempt) :=
  .ite (.bootReset (.beginStep h)) (.ite (.bump (.stepFails (.beginStep h))) (.finishStep (.cond (.cond (.beginStep h) (fun _ h =>
    .sendReport h) _) (fun _ h => .tellUpdate h) _)))

theorem Kept.skipStep {s₀ s : State} (h : Kept s₀ s) {k : Nat} : Kept s₀ (s.skipStep k) := .ev0 (.finishStep h)

theorem Kept.afterJoin {s₀ s : State} (h : Kept s₀ s) : Kept s₀ s.afterJoin := by
  unfold State.afterJoin
  exact .ite (.ite (.bt' (.skipStep (.resumeWork (.commitRestore (.owedEnds (.writeLater (.bt' (.wx' h)))))))) (.colonyStep (.resumeWork
    (.commitRestore (.owedEnds (.writeLater (.bt' (.wx' h)))))))) (.ite (.ite (.bootReset (.beginStep (.ite (.bt' (.skipStep (.resumeWork
    (.commitRestore (.owedEnds (.writeLater (.bt' (.wx' h)))))))) (.colonyStep (.resumeWork (.commitRestore (.owedEnds (.writeLater (.bt'
    (.wx' h)))))))))) (.bootReset (.stepFails (.beginStep (.ite (.bt' (.skipStep (.resumeWork (.commitRestore (.owedEnds (.writeLater
    (.bt' (.wx' h)))))))) (.colonyStep (.resumeWork (.commitRestore (.owedEnds (.writeLater (.bt' (.wx' h)))))))))))) (.beginStep (.ite
    (.bt' (.skipStep (.resumeWork (.commitRestore (.owedEnds (.writeLater (.bt' (.wx' h)))))))) (.colonyStep (.resumeWork (.commitRestore
    (.owedEnds (.writeLater (.bt' (.wx' h))))))))))

theorem Kept.serve {s₀ s : State} (h : Kept s₀ s) : Kept s₀ s.serve :=
  .ev0 (.pw' (.bt' (.ite (.settle (.control (.finishStep h))) (.finishStep h))))

theorem Kept.startTick {s₀ s : State} (h : Kept s₀ s) : Kept s₀ s.startTick := by
  unfold State.startTick
  exact .ite (.ite (.bootReset h) (.afterJoin (.ite (.bump (.stepFails h)) (.finishStep h)))) (.ite (.serve h) h)

theorem Kept.rearm {s₀ s : State} (h : Kept s₀ s) : Kept s₀ s.rearm := .ite (.pw' h) h

/-! ## The operations of Machine/Pair -/

theorem execCommitTick_keeps (s : State) : Keeps s (execCommitTick s) := by
  have h := Kept.refl s
  unfold execCommitTick
  exact .ok (.ite (.judgeStatus (.sbLoad (.rearm (.fallbackTick (.drainRings (.runTick (.startTick (.ck' (.stat (.ite (.endTick h)
    h)))))))))) (.judgeStatus (.ck' (.stat (.ite (.endTick h) h)))))

theorem Kept.pathBack {s₀ s : State} (h : Kept s₀ s) {fabric : Bool} : Kept s₀ (s.pathBack fabric) :=
  .ite (.ev0 (.ite (.pr' h) (.ck' (.pr' h)))) (.ite (.pr' h) (.ck' (.pr' h)))

theorem Kept.declaredBy {s₀ s : State} (h : Kept s₀ s) : Kept s₀ s.declaredBy := .ite (.resetNow (.standDown h)) (.standDown h)

theorem execWaggle_keeps (m : WaggleMsg) (s : State) : Keeps s (execWaggle m s) := by
  have h := Kept.refl s
  unfold execWaggle
  exact .ok (.ite h (.ite (.declaredBy (.cond (.ite (.stat (.pr' (.cond (.stat (.pathBack h)) (fun _ h => .peerAligned h) _))) (.pr'
    (.cond (.stat (.pathBack h)) (fun _ h => .peerAligned h) _))) (fun _ h => .wx' h) _)) (.cond (.ite (.stat (.pr' (.cond (.stat
    (.pathBack h)) (fun _ h => .peerAligned h) _))) (.pr' (.cond (.stat (.pathBack h)) (fun _ h => .peerAligned h) _))) (fun _ h => .wx'
    h) _)))

theorem execLeaseEnd_keeps (s : State) : Keeps s (execLeaseEnd s) := .ok (.ite (.judgeHolds (.refl s)) (.refl s))

theorem Kept.tickDigest {s₀ s : State} (h : Kept s₀ s) {m : DigestMsg} : Kept s₀ (s.tickDigest m) :=
  .ite (.pr' h) (.ite (.cond (.cond (.bump (.pr' (.stat (.pr' h)))) (fun _ h => .ev0 h) _) (fun _ h => .dropRebalance h) _) (.pr' (.stat
    (.stat (.pr' h)))))

theorem execTickDigest_keeps (m : DigestMsg) (s : State) : Keeps s (execTickDigest m s) := .ok (.ite (.refl s) (.tickDigest (.refl s)))

theorem Kept.endMismatchThen {s₀ s : State} (h : Kept s₀ s) {out : Option Bool} {after : List After} :
    Kept s₀ (s.endMismatchThen out after) := by
  unfold State.endMismatchThen
  split
  · exact .pr' (.ev0 h)
  · exact .silence (.autoModeThen (.pr' (.ev0 h)))
  · exact .autoModeThen (.pr' (.ev0 h))

theorem Kept.endMismatch {s₀ s : State} (h : Kept s₀ s) {out : Option Bool} : Kept s₀ (s.endMismatch out) := .endMismatchThen h

theorem Kept.judgeReports {s₀ s : State} (h : Kept s₀ s) : Kept s₀ s.judgeReports := by
  unfold State.judgeReports
  split
  · exact .ite (.endMismatch h) (.ite (.endMismatch h) (.endMismatch h))
  · exact h

theorem execSelfCheck_keeps (selfTestOk : Bool) (s : State) : Keeps s (execSelfCheck selfTestOk s) := by
  have h := Kept.refl s
  unfold execSelfCheck
  exact .ok (.ite h (.judgeReports (.ite (.send (.send (.send (.pr' h)))) (.send (.pr' h)))))

theorem execSelfCheckReport_keeps (right : Bool) (s : State) : Keeps s (execSelfCheckReport right s) :=
  .ok (.ite (.refl s) (.judgeReports (.pr' (.refl s))))

theorem execSelfCheckReportTimeout_keeps (s : State) : Keeps s (execSelfCheckReportTimeout s) := by
  have h := Kept.refl s
  unfold execSelfCheckReportTimeout
  exact .ok (.ite h (.ite (.endMismatch h) (.endMismatch h)))

theorem execPeerIsolationYield_keeps (s : State) : Keeps s (execPeerIsolationYield s) :=
  .ok (.ite (.refl s) (.standDown (.sendWaggle (.bump (.ev0 (.pr' (.refl s)))))))

theorem Kept.phaseEnds {s₀ s : State} (h : Kept s₀ s) : Kept s₀ s.phaseEnds := .pr' h

theorem execTakeoverFenceWait_keeps (s : State) : Keeps s (execTakeoverFenceWait s) :=
  .ok (.ite (.judgeRound (.beginRound (.phaseEnds (.refl s)))) (.refl s))

theorem execArbiterFenceResult_keeps (link : Nat) (won : Bool) (s : State) : Keeps s (execArbiterFenceResult link won s) :=
  .ok (.fenceAnswer (.refl s))

theorem execArbiterRetry_keeps (s : State) : Keeps s (execArbiterRetry s) := .ok (.ite (.judgeRound (.beginRound (.refl s))) (.refl s))

theorem Kept.holdPeerHives {s₀ s : State} (h : Kept s₀ s) : Kept s₀ s.holdPeerHives := .foldl h (fun _ _ h => .hive' (.sendVote h)) _

theorem execFenceAllRaised_keeps (s : State) : Keeps s (execFenceAllRaised s) := by
  have h := Kept.refl s
  unfold execFenceAllRaised
  exact .ok (.ite h (.settle (.cond (.foldl (.holdPeerHives (.cond (.pr' h) (fun _ h => .phaseEnds h) _)) (fun _ _ h => .busSend h) _)
    (fun _ h => .shadowReplay h) _)))

theorem execTakeoverReplayEnd_keeps (s : State) : Keeps s (execTakeoverReplayEnd s) := by
  have h := Kept.refl s
  unfold execTakeoverReplayEnd
  exact .ok (.ite h (.settle (.commit (.co' (.wx' (.sealShort (.recoverRows (.foldl (.takePages (.orphanWalk (.phaseEnds (.shadowReplay
    h)))) (fun _ _ h => .takeReshape (.joinRebuild h)) _))))))))

theorem Kept.pairInit {s₀ s : State} (h : Kept s₀ s) : Kept s₀ s.pairInit := .commit (.ck' (.useWrap (.drawKeys h)))

theorem Kept.formAlone {s₀ s : State} (h : Kept s₀ s) : Kept s₀ s.formAlone := .ite (.settle (.pairInit h)) h

theorem execPairJoinTimeout_keeps (s : State) : Keeps s (execPairJoinTimeout s) := by
  have h := Kept.refl s
  unfold execPairJoinTimeout
  refine .ok ?_
  split
  · exact .ite h (.formAlone (.ev0 (.autoMode (.pr' h))))
  · exact h

theorem Kept.joinedNow {s₀ s : State} (h : Kept s₀ s) {m : WaggleMsg} : Kept s₀ (s.joinedNow m) := .bindPinned (.pr' h)

theorem Kept.formVault {s₀ s : State} (h : Kept s₀ s) : Kept s₀ s.formVault := .ite (.pairInit h) h

theorem Kept.beginCopy {s₀ s : State} (h : Kept s₀ s) {m : WaggleMsg} : Kept s₀ (s.beginCopy m) :=
  .ev0 (.send (.foldl (.foldl (.foldl (.joinedNow (.wx' (.pr' h))) (fun _ _ h => .send h) _) (fun _ _ h => .send h) _) (fun _ _ h => .send
    h) _))

theorem Kept.enterRejoin {s₀ s : State} (h : Kept s₀ s) {m : WaggleMsg} {f : FlashMeta} : Kept s₀ (s.enterRejoin m f) :=
  .ev0 (.autoMode (.pr' (.anaUnits (.giveUnits (.joinedNow (.restartFilter (.wx' (.loadFlash (.outer h)))))))))

theorem Kept.sendTail {s₀ s : State} (h : Kept s₀ s) {peerEnd : Nat} {lost : Bool} : Kept s₀ (s.sendTail peerEnd lost) :=
  .ite h (.ev0 (.foldl (.foldl (.wx' h) (fun _ _ h => .send h) _) (fun _ _ h => .send h) _))

theorem Kept.reconcile {s₀ s : State} (h : Kept s₀ s) {m : WaggleMsg} {r : HeadReport} : Kept s₀ (s.reconcile m r) := by
  unfold State.reconcile
  refine .sendTail ?_
  split
  · exact .ev0 (.wx' (.wx' h))
  · exact .wx' (.wx' h)

theorem Kept.takeEpoch {s₀ s : State} (h : Kept s₀ s) {m : WaggleMsg} : Kept s₀ (s.takeEpoch m) := .ite (.ck' h) h

theorem Kept.peerReports {s₀ s : State} (h : Kept s₀ s) {r : HeadReport} : Kept s₀ (s.peerReports r) :=
  .ite (.ite (.ck' (.send (.dr' (.pr' h)))) (.send (.dr' (.pr' h)))) (.admitHives (.ev0 (.ite (.ck' (.send (.dr' (.pr' h)))) (.send (.dr'
    (.pr' h))))))

theorem execPairJoin_keeps (peer : WaggleMsg) (r : HeadReport) (s : State) : Keeps s (execPairJoin peer r s) := by
  have h := Kept.refl s
  unfold execPairJoin
  exact .ok (.ite h (.ite (.beginCopy (.peerReports (.takeEpoch (.pw' h)))) (.ite (.enterRejoin (.peerReports (.takeEpoch (.pw' h))))
    (.settle (.formVault (.joinedNow (.pr' (.reconcile (.peerReports (.takeEpoch (.pw' h)))))))))))

theorem execRejoinCopyComplete_keeps (s : State) : Keeps s (execRejoinCopyComplete s) := by
  have h := Kept.refl s
  unfold execRejoinCopyComplete
  exact .ok (.ite h (.ite (.shadowReplay (.ev0 (.pr' (.wx' h)))) (.ite (.autoMode (.ev0 (.pr' (.wx' h)))) (.ev0 (.pr' (.wx' h))))))

theorem Kept.receive {s₀ s : State} (h : Kept s₀ s) {r : Rebalance} : Kept s₀ (s.receive r) := by
  unfold State.receive
  refine .settle (.commit (.foldl (.pr' h) (fun _ _ h => ?_) _))
  split
  · exact .takeReshape (.ite (.sendVote h) h)
  · exact h

theorem execRebalancePhaseEnd_keeps (s : State) : Keeps s (execRebalancePhaseEnd s) := by
  have h := Kept.refl s
  unfold execRebalancePhaseEnd
  refine .ok ?_
  split
  · exact h
  · refine .ite (.ite (.pr' h) (.ite (.settle (.commit (.anaUnits (.foldl (.pr' h) (fun _ _ h => ?_) _)))) h)) (.ite (.ite h (.ite
      (.receive h) (.settle (.ite (.stat (.flushWith h)) (.flushWith h))))) h)
    split
    · exact .domain' h
    · exact h

theorem execRebalanceHoldTimeout_keeps (s : State) : Keeps s (execRebalanceHoldTimeout s) := by
  have h := Kept.refl s
  unfold execRebalanceHoldTimeout
  refine .ok ?_
  split
  · exact .ite (.dropRebalance h) h
  · exact h

theorem Kept.pair' {s₀ s : State} (h : Kept s₀ s) {i : Nat} {f : FabricPair → FabricPair} : Kept s₀ (s.pair' i f) := .pr' h

theorem Kept.resendPair {s₀ s : State} (h : Kept s₀ s) {i : Nat} : Kept s₀ (s.resendPair i) := by
  unfold State.resendPair
  refine .foldl ?_ (fun _ _ h => .send h) _
  split
  · exact .send h
  · exact h

theorem execFabricPortFail_keeps (pair : Nat) (s : State) : Keeps s (execFabricPortFail pair s) := by
  have h := Kept.refl s
  unfold execFabricPortFail
  refine .ok ?_
  split
  · exact h
  · split
    · exact h
    · exact .ite (.stat (.ev0 (.resendPair (.pair' h)))) (.ev0 (.pair' h))

theorem execStandbyEligible_keeps (pair : Nat) (s : State) : Keeps s (execStandbyEligible pair s) := by
  have h := Kept.refl s
  unfold execStandbyEligible
  refine .ok ?_
  split
  · exact h
  · split
    · exact .pair' h
    · exact .resendPair (.pair' (.afterDraw h))

theorem Kept.judgeCables {s₀ s : State} (h : Kept s₀ s) {before : Nat} : Kept s₀ (s.judgeCables before) :=
  .ite (.pr' (.ite (.ev0 (.md' (.ite (.bump (.ev0 h)) h))) (.ite (.bump (.ev0 h)) h))) (.ite (.pr' (.ite (.ev0 (.md' (.ite (.bump (.ev0
    h)) h))) (.ite (.bump (.ev0 h)) h))) (.ite (.ev0 (.md' (.ite (.bump (.ev0 h)) h))) (.ite (.bump (.ev0 h)) h)))

theorem execPeerLinkDown_keeps (link : Nat) (s : State) : Keeps s (execPeerLinkDown link s) :=
  .ok (.ite (.refl s) (.judgeCables (.pr' (.refl s))))

theorem execPeerLinkUp_keeps (link : Nat) (s : State) : Keeps s (execPeerLinkUp link s) := by
  have h := Kept.refl s
  unfold execPeerLinkUp
  exact .ok (.ite h (.ite (.resetNow (.judgeCables (.pr' h))) (.judgeCables (.pr' h))))

/-! ## The operations of Machine/Colony -/

theorem Kept.toWorkers {s₀ s : State} (h : Kept s₀ s) {f : Nat → ColMsg} : Kept s₀ (s.toWorkers f) := .foldl h (fun _ _ h => .send h) _

theorem Kept.listChange {s₀ s : State} (h : Kept s₀ s) {c : CtlChange} {more : List After} : Kept s₀ (s.listChange c more) := .control h

theorem Kept.deposeBy {s₀ s : State} (h : Kept s₀ s) {epoch : Nat} : Kept s₀ (s.deposeBy epoch) := .co' h

theorem Kept.atQueen {s₀ s : State} (h : Kept s₀ s) {ep : Nat} {f : State → State} (hf : ∀ t, Kept s₀ t → Kept s₀ (f t)) :
    Kept s₀ (s.atQueen ep f) :=
  .ite h (.ite (.deposeBy h) (hf _ h))

theorem Kept.atWorker {s₀ s : State} (h : Kept s₀ s) {ep : Nat} {f : State → State} (hf : ∀ t, Kept s₀ t → Kept s₀ (f t)) :
    Kept s₀ (s.atWorker ep f) :=
  .ite h (hf _ (.cond h (fun _ h => .co' h) _))

theorem execJoin_keeps (ep apiary serial headA headB : Nat) (addrs : List Bytes) (s : State) :
    Keeps s (execJoin ep apiary serial headA headB addrs s) :=
  .ok (.atQueen (.refl s) (fun _ h => .ite (.send h) (.ev0 (.listChange h))))

theorem Kept.takeSix {s₀ s : State} (h : Kept s₀ s) {items : List (Nat × Bytes)} : Kept s₀ (s.takeSix items) := .vk' h

theorem execJoinReply_keeps (accepted : Bool) (cause epoch : Nat) (items : List (Nat × Bytes)) (s : State) :
    Keeps s (execJoinReply accepted cause epoch items s) := by
  have h := Kept.refl s
  unfold execJoinReply
  refine .ok ?_
  split
  · exact h
  · exact .ite h (.ite (.ownInternal (.co' (.takeSix (.co' h)))) (.replyTo (.co' h)))

theorem execLeave_keeps (ep apiary : Nat) (s : State) : Keeps s (execLeave ep apiary s) :=
  .ok (.atQueen (.refl s) (fun _ h => .ite h (.ev0 (.co' (.listChange h)))))

theorem Kept.queenBack {s₀ s : State} (h : Kept s₀ s) : Kept s₀ s.queenBack := .ev0 (.hv' (.co' (.sendReport h)))

theorem execContact_keeps (src epoch settingsGen : Nat) (gateOpen : Bool) (s : State) :
    Keeps s (execContact src epoch settingsGen gateOpen s) := by
  have h := Kept.refl s
  unfold execContact
  exact .ok (.ite h (.ite (.ite (.deposeBy h) h) (.ite (.sendReport (.ite (.ev0 (.co' (.ite (.queenBack (.stat h)) (.stat h)))) (.co'
    (.ite (.queenBack (.stat h)) (.stat h))))) (.ite (.ev0 (.co' (.ite (.queenBack (.stat h)) (.stat h)))) (.co' (.ite (.queenBack (.stat
    h)) (.stat h)))))))

theorem execContactSend_keeps (s : State) : Keeps s (execContactSend s) := by
  have h := Kept.refl s
  unfold execContactSend
  exact .ok (.ite h (.foldl (.co' h) (fun _ _ h => .send (.stat h)) _))

theorem execQueenUnreachable_keeps (s : State) : Keeps s (execQueenUnreachable s) := .ok (.ite (.refl s) (.ev0 (.ev0 (.co' (.refl s)))))

theorem Kept.adoptToken {s₀ s : State} (h : Kept s₀ s) {head : Nat} {t : WakeToken} : Kept s₀ (s.adoptToken head t) :=
  .ite (.grantToken h) h

theorem Kept.announceKey {s₀ s : State} (h : Kept s₀ s) : Kept s₀ s.announceKey := by
  unfold State.announceKey
  split
  · exact .ite (.toWorkers (.reseal (.ks' h))) h
  · exact h

theorem execReport_keeps (ep : Nat) (r : Report7) (s : State) : Keeps s (execReport ep r s) :=
  .ok (.atQueen (.refl s) (fun _ h => .announceKey (.cond (.foldl (.ite (.co' (.control (.control h))) (.control (.control h))) (fun _ _ h
    => .adoptToken h) _) (fun _ h => .recallOver h) _)))

theorem execTokenRequest_keeps (ep apiary head hive prio num : Nat) (s : State) :
    Keeps s (execTokenRequest ep apiary head hive prio num s) :=
  .ok (.atQueen (.refl s) (fun _ h => .judgeToken h))

theorem execHeldTokenRequestTimeout_keeps (apiary num : Nat) (s : State) : Keeps s (execHeldTokenRequestTimeout apiary num s) := by
  have h := Kept.refl s
  unfold execHeldTokenRequestTimeout
  refine .ok ?_
  split
  · exact .ite (.refuseToken (.co' h)) h
  · exact h

theorem execTokenGrant_keeps (ep : Nat) (t : WakeToken) (autonomy : Nat) (s : State) : Keeps s (execTokenGrant ep t autonomy s) := by
  have h := Kept.refl s
  unfold execTokenGrant
  refine .ok (.atWorker h (fun _ h => .ite h ?_))
  split
  · exact h
  · split
    · exact .ite (.wantUp (.foldl (.hive' (.hive' (.co' h))) (fun _ _ h => .replyTo h) _)) (.foldl (.hive' (.hive' (.co' h))) (fun _ _ h
        => .replyTo h) _)

theorem execTokenRefuse_keeps (ep num cause : Nat) (s : State) : Keeps s (execTokenRefuse ep num cause s) := by
  have h := Kept.refl s
  unfold execTokenRefuse
  refine .ok (.atWorker h (fun _ h => ?_))
  split
  · exact h
  · exact .ite (.ev0 (.foldl (.hive' (.stat (.co' h))) (fun _ _ h => .replyTo h) _)) (.ev0 (.foldl (.hive' (.stat (.co' h))) (fun _ _ h =>
      .replyTo h) _))

theorem execTokenRecall_keeps (ep id : Nat) (s : State) : Keeps s (execTokenRecall ep id s) := by
  have h := Kept.refl s
  unfold execTokenRecall
  refine .ok (.atWorker h (fun _ h => ?_))
  split
  · exact h
  · exact .decideDark (.hive' (.stat (.co' h)))

theorem execColonyDormant_keeps (ep id : Nat) (s : State) : Keeps s (execColonyDormant ep id s) :=
  .ok (.atQueen (.refl s) (fun _ h => .tokenDormant h))

theorem execQueenTokenExpiry_keeps (id : Nat) (s : State) : Keeps s (execQueenTokenExpiry id s) := by
  have h := Kept.refl s
  unfold execQueenTokenExpiry
  refine .ok ?_
  split
  · exact .ite (.control h) h
  · exact h

theorem Kept.deposedCourse {s₀ s : State} (h : Kept s₀ s) {list : List (Nat × Nat × Nat × Bool × List Bytes)} :
    Kept s₀ (s.deposedCourse list) := by
  unfold State.deposedCourse
  split
  · exact .ownInternal (.co' h)
  · exact .ev0 (.autoMode (.control h))

theorem Kept.planned {s₀ s : State} (h : Kept s₀ s) {a epoch : Nat} : Kept s₀ (s.planned a epoch) := .ite h (.ownInternal (.control h))

theorem execColonySettings_keeps (ep gen : Nat) (items : List (Nat × Bytes)) (keyGen : Nat) (s : State) :
    Keeps s (execColonySettings ep gen items keyGen s) := by
  have h := Kept.refl s
  unfold execColonySettings
  refine .ok (.atWorker h (fun _ h => .ite h ?_))
  split
  · split
    · exact .planned (.ite (.deposedCourse (.ite (.reseal (.ks' (.co' (.co' (.takeSix h))))) (.ite (.co' (.co' (.co' (.takeSix h)))) (.co'
        (.co' (.takeSix h)))))) (.ite (.reseal (.ks' (.co' (.co' (.takeSix h))))) (.ite (.co' (.co' (.co' (.takeSix h)))) (.co' (.co'
        (.takeSix h))))))
    · exact .ite (.deposedCourse (.ite (.reseal (.ks' (.co' (.co' (.takeSix h))))) (.ite (.co' (.co' (.co' (.takeSix h)))) (.co' (.co'
        (.takeSix h)))))) (.ite (.reseal (.ks' (.co' (.co' (.takeSix h))))) (.ite (.co' (.co' (.co' (.takeSix h)))) (.co' (.co' (.takeSix
        h)))))
  · split
    · exact .planned (.ite (.deposedCourse (.ite (.reseal (.ks' (.co' (.takeSix h)))) (.ite (.co' (.co' (.takeSix h))) (.co' (.takeSix
        h))))) (.ite (.reseal (.ks' (.co' (.takeSix h)))) (.ite (.co' (.co' (.takeSix h))) (.co' (.takeSix h)))))
    · exact .ite (.deposedCourse (.ite (.reseal (.ks' (.co' (.takeSix h)))) (.ite (.co' (.co' (.takeSix h))) (.co' (.takeSix h))))) (.ite
        (.reseal (.ks' (.co' (.takeSix h)))) (.ite (.co' (.co' (.takeSix h))) (.co' (.takeSix h))))

theorem execArbitrate_keeps (ep head : Nat) (shownRight : Bool) (s : State) : Keeps s (execArbitrate ep head shownRight s) := by
  have h := Kept.refl s
  unfold execArbitrate
  refine .ok (.atQueen h (fun _ h => ?_))
  split
  · exact .co' h
  · exact .send (.send (.co' h))

theorem execUpdateState_keeps (ep head version : Nat) (pend fallback : Bool) (s : State) :
    Keeps s (execUpdateState ep head version pend fallback s) := by
  have h := Kept.refl s
  unfold execUpdateState
  refine .ok (.atQueen h (fun _ h => ?_))
  split
  · exact h
  · exact .ite (.ev0 (.bump (.control (.control h)))) (.control h)

theorem execRolloutWaveOpen_keeps (s : State) : Keeps s (execRolloutWaveOpen s) := .ok (.ite (.refl s) (.ev0 (.control (.refl s))))

/-! ## The operations of Machine/ColonyCtl -/

theorem execColonyStatus_keeps (q : VReq) (s : State) : Keeps s (execColonyStatus q s) := .ok (.virkan (.refl s) (fun _ h => .reply h))

theorem Kept.colonyAsk {s₀ s : State} (h : Kept s₀ s) {q : VReq} : Kept s₀ (s.colonyAsk q) :=
  .ite (.reply h) (.ite (.reply h) (.ite (.ev0 (.control h)) (.send (.reply (.co' h)))))

theorem execColonyJoin_keeps (q : VReq) (s : State) : Keeps s (execColonyJoin q s) := .ok (.virkan (.refl s) (fun _ h => .colonyAsk h))

theorem execColonyJoinTimeout_keeps (s : State) : Keeps s (execColonyJoinTimeout s) := by
  have h := Kept.refl s
  unfold execColonyJoinTimeout
  refine .ok ?_
  split
  · exact .ite (.replyTo (.co' h)) h
  · exact h

theorem Kept.colonyQuit {s₀ s : State} (h : Kept s₀ s) {q : VReq} : Kept s₀ (s.colonyQuit q) :=
  .ite (.replyTo h) (.ite (.replyTo h) (.ite (.replyTo h) (.askFrame h)))

theorem execColonyLeave_keeps (q : VReq) (s : State) : Keeps s (execColonyLeave q s) :=
  .ok (.virkan (.refl s) (fun _ h => .colonyQuit h))

theorem Kept.queenAsk {s₀ s : State} (h : Kept s₀ s) {q : VReq} : Kept s₀ (s.queenAsk q) :=
  .ite (.replyTo h) (.ite (.ite (.replyTo h) (.ev0 (.bump (.internalFrame (.control (.send (.send (.toWorkers h)))))))) (.ite (.replyTo h)
    (.ite (.replyTo h) (.ev0 (.bump (.internalFrame (.control h)))))))

theorem execQueenAssign_keeps (q : VReq) (s : State) : Keeps s (execQueenAssign q s) := .ok (.virkan (.refl s) (fun _ h => .queenAsk h))

theorem execTokenStatus_keeps (q : VReq) (s : State) : Keeps s (execTokenStatus q s) := .ok (.virkan (.refl s) (fun _ h => .reply h))

theorem execCatalogueRead_keeps (q : VReq) (s : State) : Keeps s (execCatalogueRead q s) :=
  .ok (.virkan (.refl s) (fun _ h => .ite (.reply h) (.reply h)))

/-! ## The operations of Machine/Diag -/

theorem Kept.waitRead {s₀ s : State} (h : Kept s₀ s) {link die block page : Nat} {arg : BitVec 32} {use : TaskUse} :
    Kept s₀ (s.waitRead link die block page arg use) :=
  .link' h

theorem Kept.recoveryLink {s₀ s : State} (h : Kept s₀ s) {link : Nat} : Kept s₀ (s.recoveryLink link) := by
  unfold State.recoveryLink
  refine .ite h ?_
  split
  · exact .ite (.link' (.linkRises (.withLink h))) h
  · exact h

theorem Kept.diagDieRead {s₀ s : State} (h : Kept s₀ s) {q : VReq} : Kept s₀ (s.diagDieRead q) := by
  unfold State.diagDieRead
  dsimp only
  split
  · exact .reply (.recoveryLink h)
  · exact .ite (.reply (.recoveryLink h)) (.ite (.reply (.recoveryLink h)) (.ite (.reply (.recoveryLink h)) (.ite (.suspendFor (.waitRead
      (.replyTo (.recoveryLink h)))) (.ite (.reply (.recoveryLink h)) (.sendTask (.replyTo (.recoveryLink h)))))))

theorem execDiagDieRead_keeps (q : VReq) (s : State) : Keeps s (execDiagDieRead q s) :=
  .ok (.virkan (.refl s) (fun _ h => .diagDieRead h))

theorem Kept.diagLinkLoop {s₀ s : State} (h : Kept s₀ s) {q : VReq} : Kept s₀ (s.diagLinkLoop q) := by
  unfold State.diagLinkLoop
  dsimp only
  split
  · exact .reply (.recoveryLink h)
  · exact .ite (.reply (.recoveryLink h)) (.reply (.afterDraw (.recoveryLink h)))

theorem execDiagLinkLoop_keeps (q : VReq) (s : State) : Keeps s (execDiagLinkLoop q s) :=
  .ok (.virkan (.refl s) (fun _ h => .diagLinkLoop h))

theorem Kept.diagSelftest {s₀ s : State} (h : Kept s₀ s) {q : VReq} : Kept s₀ (s.diagSelftest q) :=
  .ite (.reply h) (.reply (.afterDraw h))

theorem execDiagSelftest_keeps (q : VReq) (s : State) : Keeps s (execDiagSelftest q s) :=
  .ok (.virkan (.refl s) (fun _ h => .diagSelftest h))

theorem execDiagDump_keeps (q : VReq) (s : State) : Keeps s (execDiagDump q s) :=
  .ok (.virkan (.refl s) (fun _ h => .reply (.afterDraw h)))

/-! ## The operations of Machine/EvtCtl -/

theorem Kept.evtRead {s₀ s : State} (h : Kept s₀ s) {q : VReq} : Kept s₀ (s.evtRead q) := .reply h

theorem execEvtRead_keeps (q : VReq) (s : State) : Keeps s (execEvtRead q s) := .ok (.virkan (.refl s) (fun _ h => .evtRead h))

theorem Kept.sendNotice {s₀ s : State} (h : Kept s₀ s) {x : Session} : Kept s₀ (s.sendNotice x) := by
  unfold State.sendNotice
  split
  · exact h
  · refine .ite (.loseNotice (.ite (.freePlace (.session' h ?_)) (.session' h ?_))) (.stat (.deliverAs (.ev' (.ite (.freePlace (.session'
      h ?_)) (.session' h ?_)))))
    · exact fun _ => ⟨rfl, rfl, .refl _⟩
    · exact fun _ => ⟨rfl, rfl, .refl _⟩
    · exact fun _ => ⟨rfl, rfl, .refl _⟩
    · exact fun _ => ⟨rfl, rfl, .refl _⟩

theorem Kept.evtSubscribe {s₀ s : State} (h : Kept s₀ s) {q : VReq} : Kept s₀ (s.evtSubscribe q) := by
  unfold State.evtSubscribe
  refine .ite h.reply (.reply (.session' ?_ ?_))
  on_goal 2 => exact fun _ => ⟨rfl, rfl, .refl _⟩
  split
  · exact .ite h.sendNotice h
  · exact h

theorem execEvtSubscribe_keeps (q : VReq) (s : State) : Keeps s (execEvtSubscribe q s) :=
  .ok (.virkan (.refl s) (fun _ h => .evtSubscribe h))

theorem Kept.ctrRead {s₀ s : State} (h : Kept s₀ s) {q : VReq} : Kept s₀ (s.ctrRead q) := by
  unfold State.ctrRead
  refine .ite (.ite (.reply h) ?_) ?_
  · split
    · exact .reply h
    · exact .reply h
  · split
    · exact .reply h
    · exact .reply h

theorem execCtrRead_keeps (q : VReq) (s : State) : Keeps s (execCtrRead q s) := .ok (.virkan (.refl s) (fun _ h => .ctrRead h))

theorem Kept.ctrClear {s₀ s : State} (h : Kept s₀ s) {q : VReq} : Kept s₀ (s.ctrClear q) := by
  unfold State.ctrClear
  refine .ite h.reply (.ite h.reply (.reply (h.ct' ?_)))
  exact fun hs c hc => hs c (List.mem_of_mem_filter hc)

theorem execCtrClear_keeps (q : VReq) (s : State) : Keeps s (execCtrClear q s) := .ok (.virkan (.refl s) (fun _ h => .ctrClear h))

/-! ## The operations of Machine/HiveCtl -/

theorem execHiveStatus_keeps (q : VReq) (s : State) : Keeps s (execHiveStatus q s) := .ok (.virkan (.refl s) (fun _ h => .reply h))

theorem Kept.hiveWake {s₀ s : State} (h : Kept s₀ s) {q : VReq} : Kept s₀ (s.hiveWake q) := by
  unfold State.hiveWake
  dsimp only
  split
  · exact .reply h
  · exact .ite (.reply h) (.ite (.reply h) (.ite (.reply (.askWake (.hive' h))) (.ite (.hive' (.reply (.askWake (.hive' h)))) (.reply
      (.askWake (.hive' h))))))

theorem execHiveWake_keeps (q : VReq) (s : State) : Keeps s (execHiveWake q s) := .ok (.virkan (.refl s) (fun _ h => .hiveWake h))

theorem Kept.hiveDark {s₀ s : State} (h : Kept s₀ s) {q : VReq} : Kept s₀ (s.hiveDark q) := by
  unfold State.hiveDark
  dsimp only
  split
  · exact .reply h
  · exact .ite (.reply h) (.ite (.reply h) (.ite (.reply h) (.ite (.reply (.hive' (.hive' h))) (.decideDark (.hive' (.reply (.hive'
      h)))))))

theorem execHiveDark_keeps (q : VReq) (s : State) : Keeps s (execHiveDark q s) := .ok (.virkan (.refl s) (fun _ h => .hiveDark h))

theorem Kept.superAsk {s₀ s : State} (h : Kept s₀ s) {q : VReq} : Kept s₀ (s.superAsk q) :=
  .ite (.reply h) (.ite (.reply h) (.ite (.reply h) (.ite (.reply h) (.askFrame h))))

theorem execSuperAttach_keeps (q : VReq) (s : State) : Keeps s (execSuperAttach q s) := .ok (.virkan (.refl s) (fun _ h => .superAsk h))

theorem Kept.combRetire {s₀ s : State} (h : Kept s₀ s) {q : VReq} : Kept s₀ (s.combRetire q) := by
  unfold State.combRetire
  dsimp only
  split
  · exact .reply h
  · exact .ite (.reply h) (.ite (.reply h) (.link' (.sp' (.reply h))))

theorem execCombRetire_keeps (q : VReq) (s : State) : Keeps s (execCombRetire q s) := .ok (.virkan (.refl s) (fun _ h => .combRetire h))

theorem Kept.acceptLoss {s₀ s : State} (h : Kept s₀ s) {q : VReq} : Kept s₀ (s.acceptLoss q) := by
  unfold State.acceptLoss
  dsimp only
  split
  · exact .reply h
  · exact .ite (.reply h) (.ite (.reply h) (.foldl (.commit h) (fun _ _ h => .bump (.event h)) _))

theorem execStripeAcceptLoss_keeps (q : VReq) (s : State) : Keeps s (execStripeAcceptLoss q s) :=
  .ok (.virkan (.refl s) (fun _ h => .acceptLoss h))

theorem execMediaStats_keeps (q : VReq) (s : State) : Keeps s (execMediaStats q s) := .ok (.virkan (.refl s) (fun _ h => .reply h))

/-! ## The operations of Machine/KeyCtl -/

theorem Kept.ownerEnroll {s₀ s : State} (h : Kept s₀ s) {q : VReq} : Kept s₀ (s.ownerEnroll q) :=
  .ite (.reply h) (.ite (.reply h) (.ite (.reply h) (.control (.extend h))))

theorem execOwnerEnroll_keeps (q : VReq) (s : State) : Keeps s (execOwnerEnroll q s) :=
  .ok (.virkan (.refl s) (fun _ h => .ownerEnroll h))

theorem Kept.keyProvision {s₀ s : State} (h : Kept s₀ s) {q : VReq} : Kept s₀ (s.keyProvision q) := by
  unfold State.keyProvision
  split
  · exact .reply h
  · exact .commit (.useWrap h)

theorem execKeyProvision_keeps (q : VReq) (s : State) : Keeps s (execKeyProvision q s) :=
  .ok (.virkan (.refl s) (fun _ h => .keyProvision h))

theorem Kept.keyExport {s₀ s : State} (h : Kept s₀ s) {q : VReq} : Kept s₀ (s.keyExport q) := by
  unfold State.keyExport
  refine .ite (.reply h) ?_
  split
  · exact .reply (.of_eq ‹_› (.exportBlob h))

theorem execKeyEscrowExport_keeps (q : VReq) (s : State) : Keeps s (execKeyEscrowExport q s) :=
  .ok (.virkan (.refl s) (fun _ h => .keyExport h))

theorem Kept.lastReply {s₀ s : State} (h : Kept s₀ s) {q : VReq} {op : Nat} {st : VStatus} : Kept s₀ (s.lastReply q op st) :=
  .sendReply h

theorem Kept.restoreVault {s₀ s : State} (h : Kept s₀ s) {blob : Bytes} {es : List VaultEntry} : Kept s₀ (s.restoreVault blob es) := by
  unfold State.restoreVault
  exact .ev0 (.extend (.reseal (.evictKeys (.ks' (.ite h (.wx' (.ev0 (.drawKeys h))))))))

theorem Kept.keyRestore {s₀ s : State} (h : Kept s₀ s) {q : VReq} : Kept s₀ (s.keyRestore q) := by
  unfold State.keyRestore
  refine .ite (.reply h) ?_
  split
  · exact .reply h
  · exact .ite (.reply h) (.resetNow (.silence (.lastReply (.restoreVault h))))

theorem execKeyRestore_keeps (q : VReq) (s : State) : Keeps s (execKeyRestore q s) := .ok (.virkan (.refl s) (fun _ h => .keyRestore h))

theorem Kept.keyRotate {s₀ s : State} (h : Kept s₀ s) {q : VReq} : Kept s₀ (s.keyRotate q) := by
  unfold State.keyRotate
  dsimp only
  split
  · exact .ite (.reply h) (.ite (.reply h) (.commit (.useWrap (.drawKeys h))))
  · exact .reply h

theorem execKeyRotate_keeps (q : VReq) (s : State) : Keeps s (execKeyRotate q s) := .ok (.virkan (.refl s) (fun _ h => .keyRotate h))

theorem Kept.keyErase {s₀ s : State} (h : Kept s₀ s) {q : VReq} : Kept s₀ (s.keyErase q) := by
  unfold State.keyErase
  dsimp only
  split
  · exact .ite (.reply h) (.commit h)
  · exact .reply h

theorem execKeyErase_keeps (q : VReq) (s : State) : Keeps s (execKeyErase q s) := .ok (.virkan (.refl s) (fun _ h => .keyErase h))

theorem execKeyStatus_keeps (q : VReq) (s : State) : Keeps s (execKeyStatus q s) :=
  .ok (.virkan (.refl s) (fun _ h => .reply (.afterDraw h)))

theorem Kept.attestReply {s₀ s : State} (h : Kept s₀ s) {q : VReq} : Kept s₀ (s.attestReply q) := by
  unfold State.attestReply
  refine .ite (.reply h) ?_
  split
  · exact .reply (.stat (.of_eq ‹_› (.attest h)))

theorem execAttest_keeps (q : VReq) (s : State) : Keeps s (execAttest q s) := .ok (.virkan (.refl s) (fun _ h => .attestReply h))

theorem execLedgerRead_keeps (q : VReq) (s : State) : Keeps s (execLedgerRead q s) := .ok (.virkan (.refl s) (fun _ h => .reply h))

/-! ## The operations of Machine/PairCtl -/

theorem execPairStatus_keeps (q : VReq) (s : State) : Keeps s (execPairStatus q s) := .ok (.virkan (.refl s) (fun _ h => .reply h))

theorem Kept.rebalance {s₀ s : State} (h : Kept s₀ s) {q : VReq} : Kept s₀ (s.rebalance q) :=
  .ite (.reply h) (.ite (.reply h) (.ite (.reply h) (.ite (.reply h) (.ite (.reply h) (.ite (.reply h) (.askFrame h))))))

theorem execRebalance_keeps (q : VReq) (s : State) : Keeps s (execRebalance q s) := .ok (.virkan (.refl s) (fun _ h => .rebalance h))

theorem Kept.pathDrill {s₀ s : State} (h : Kept s₀ s) {q : VReq} : Kept s₀ (s.pathDrill q) := by
  unfold State.pathDrill
  dsimp only
  split
  · exact .reply h
  · split
    · exact .reply h
    · exact .ite (.reply h) (.reply (.stat (.postEntry (.pr' (.resendPair (.pair' h))))))

theorem execPathDrill_keeps (q : VReq) (s : State) : Keeps s (execPathDrill q s) := .ok (.virkan (.refl s) (fun _ h => .pathDrill h))

theorem execPathDrillAckTimeout_keeps (s : State) : Keeps s (execPathDrillAckTimeout s) := by
  have h := Kept.refl s
  unfold execPathDrillAckTimeout
  refine .ok ?_
  split
  · exact h
  · refine .ite h ?_
    split
    · exact .replyTo (.bump (.ev0 (.pr' (.resendPair (.pair' h)))))
    · exact .bump (.ev0 (.pr' (.resendPair (.pair' h))))

theorem Kept.mirrorDiscard {s₀ s : State} (h : Kept s₀ s) {q : VReq} : Kept s₀ (s.mirrorDiscard q) := .ite (.reply h) (.control h)

theorem execMirrorDiscard_keeps (q : VReq) (s : State) : Keeps s (execMirrorDiscard q s) :=
  .ok (.virkan (.refl s) (fun _ h => .mirrorDiscard h))

theorem execPairElect_keeps (q : VReq) (s : State) : Keeps s (execPairElect q s) :=
  .ok (.virkan (.refl s) (fun _ h => .ite (.reply h) (.ite (.reply (.endMismatch h)) (.endMismatchThen h))))

/-! ## The operations of Machine/Repl -/

theorem Kept.notBound {s₀ s : State} (h : Kept s₀ s) {src : Nat} : Kept s₀ (s.notBound src) := .send h

theorem execSetup_keeps (src group source mode : Nat) (domains : List Nat) (salts : List Bytes) (s : State) :
    Keeps s (execSetup src group source mode domains salts s) := by
  have h := Kept.refl s
  unfold execSetup
  exact .ok (.ite (.ite (.control h) h) (.ite (.notBound h) (.ite (.send h) (.ite (.send (.ev0 h)) (.replica' (.control (.foldl h (fun _ _
    h => .commit (.useWrap h)) _)))))))

theorem execSetupReply_keeps (group : Nat) (accepted : Bool) (cause : Nat) (s : State) :
    Keeps s (execSetupReply group accepted cause s) := by
  have h := Kept.refl s
  unfold execSetupReply
  refine .ok ?_
  split
  · exact h
  · exact .ite (.group' h) (.ite (.ite (.lapse (.group' h)) (.group' (.group' h))) (.ite (.group' h) (.ite (.group' (.ev0 (.group' h)))
      (.startBase (.ev0 (.group' h))))))

theorem execPositionQuery_keeps (src group : Nat) (s : State) : Keeps s (execPositionQuery src group s) := by
  have h := Kept.refl s
  unfold execPositionQuery
  refine .ok (.ite (.notBound h) ?_)
  split
  · exact h
  · exact .send (.replica' h)

theorem execPosition_keeps (group seq ordinal : Nat) (s : State) : Keeps s (execPosition group seq ordinal s) := by
  have h := Kept.refl s
  unfold execPosition
  refine .ok ?_
  split
  · exact h
  · refine .ite h (.ite (.startBase (.group' h)) ?_)
    split
    · exact .ite (.commit (.group' (.group' h))) (.group' (.group' h))
    · exact .group' (.group' h)

theorem execPositionQueryTimeout_keeps (group : Nat) (s : State) : Keeps s (execPositionQueryTimeout group s) := by
  have h := Kept.refl s
  unfold execPositionQueryTimeout
  refine .ok ?_
  split
  · exact h
  · exact .ite (.askTarget h) h

theorem execOffer_keeps (src group batch : Nat) (fps : List (Bytes × Nat × Nat)) (s : State) :
    Keeps s (execOffer src group batch fps s) := by
  have h := Kept.refl s
  unfold execOffer
  refine .ok (.ite (.notBound h) ?_)
  split
  · exact h
  · exact .send (.replica' h)

theorem execNeed_keeps (group batch : Nat) (bits : List Bool) (s : State) : Keeps s (execNeed group batch bits s) := by
  have h := Kept.refl s
  unfold execNeed
  refine .ok ?_
  split
  · exact h
  · split
    · exact h
    · exact .ite (.group' (.foldl (.foldl (.stat h) (fun _ _ h => .shipChunk h) _) (fun _ _ h => .askWake (.hive' h)) _)) (.offerBatch
        (.group' (.foldl (.foldl (.stat h) (fun _ _ h => .shipChunk h) _) (fun _ _ h => .askWake (.hive' h)) _)))

theorem Kept.chunkFails {s₀ s : State} (h : Kept s₀ s) {src : Nat} {r : Replica} : Kept s₀ (s.chunkFails src r) := by
  unfold State.chunkFails
  split
  · exact .ev0 (.bump h)
  · exact .ite (.send (.replica' (.replica' (.ev0 (.bump h))))) (.replica' (.ev0 (.bump h)))

theorem execChunk_keeps (src group domain chunk gen clen : Nat) (body : Bytes) (s : State) :
    Keeps s (execChunk src group domain chunk gen clen body s) := by
  have h := Kept.refl s
  unfold execChunk
  refine .ok (.ite (.notBound h) ?_)
  split
  · exact h
  · split
    · exact .chunkFails h
    · refine .ite (.chunkFails h) ?_
      split
      · exact .ite (.replica' (.of_eq ‹_› (.landShipped h))) (.of_eq ‹_› (.landShipped h))

theorem execBatch_keeps (src group first last : Nat) (base final : Bool) (es : List ShipEntry) (s : State) :
    Keeps s (execBatch src group first last base final es s) := by
  have h := Kept.refl s
  unfold execBatch
  refine .ok (.ite (.notBound h) ?_)
  split
  · exact h
  · exact .ite (.ite (.replica' h) (.ite (.trySwitch (.keepStaging (.replica' (.replica' h)))) (.send (.keepStaging (.replica' (.replica'
      h)))))) (.ite (.send (.ite (.replica' h) (.stat (.replica' h)))) (.tryBatch (.replica' (.ite (.replica' h) (.stat (.replica' h))))))

theorem Kept.answerSnaps {s₀ s : State} (h : Kept s₀ s) {g : RGroup} {seq : Nat} : Kept s₀ (s.answerSnaps g seq) := by
  unfold State.answerSnaps
  dsimp only
  exact .foldl (.group' h) (fun _ _ h => .replyTo h) _

theorem Kept.snapShipped {s₀ s : State} (h : Kept s₀ s) {g : RGroup} : Kept s₀ (s.snapShipped g) :=
  .foldl (.group' h) (fun _ _ h => .control h) _

theorem execApplied_keeps (group seq : Nat) (s : State) : Keeps s (execApplied group seq s) := by
  have h := Kept.refl s
  unfold execApplied
  refine .ok ?_
  split
  · exact h
  · refine .ite h ?_
    split
    · refine .ite (.group' h) ?_
      split
      · exact .ev0 (.commit (.group' h))
      · exact .snapShipped (.group' h)
    · split
      · exact .ite (.commit (.ite (.group' h) (.answerSnaps (.group' h)))) (.ite (.group' h) (.answerSnaps (.group' h)))
      · exact .ite (.group' h) (.answerSnaps (.group' h))

theorem execBatchClose_keeps (group : Nat) (s : State) : Keeps s (execBatchClose group s) := .ok (.closeBatch (.refl s))

theorem execGroupLapse_keeps (group : Nat) (s : State) : Keeps s (execGroupLapse group s) := by
  have h := Kept.refl s
  unfold execGroupLapse
  refine .ok ?_
  split
  · exact h
  · exact .ite (.lapse h) h

theorem execRepairAsk_keeps (src domain : Nat) (fp : Bytes) (len : Nat) (s : State) : Keeps s (execRepairAsk src domain fp len s) :=
  .ok (.answerAsk (.refl s))

theorem Kept.repairFails {s₀ s : State} (h : Kept s₀ s) {r : Repair} : Kept s₀ (s.repairFails r) := .event (.rp' h)

theorem Kept.repairNext {s₀ s : State} (h : Kept s₀ s) {r : Repair} : Kept s₀ (s.repairNext r) := by
  unfold State.repairNext
  split
  · exact .repairFails h
  · dsimp only
    split
    · exact .send (.rp' h)
    · exact .rp' h

theorem execRepairData_keeps (domain chunk gen clen : Nat) (body : Bytes) (s : State) :
    Keeps s (execRepairData domain chunk gen clen body s) := by
  have h := Kept.refl s
  unfold execRepairData
  refine .ok ?_
  split
  · split
    · exact .repairNext (.ev0 (.bump h))
    · exact h
  · dsimp only
    split
    · exact .flushMap (.storeFrame (.stat (.rp' h)))
    · exact h

theorem execRepairNone_keeps (domain : Nat) (fp : Bytes) (s : State) : Keeps s (execRepairNone domain fp s) := by
  have h := Kept.refl s
  unfold execRepairNone
  refine .ok ?_
  split
  · exact .repairNext h
  · exact h

theorem execRepairTimeout_keeps (domain chunk : Nat) (s : State) : Keeps s (execRepairTimeout domain chunk s) := by
  have h := Kept.refl s
  unfold execRepairTimeout
  refine .ok ?_
  split
  · exact .ite (.repairFails h) h
  · exact h

/-! ## The operations of Machine/ReplCtl -/

theorem Kept.rgCreate {s₀ s : State} (h : Kept s₀ s) {q : VReq} : Kept s₀ (s.rgCreate q) := by
  unfold State.rgCreate
  refine .ite (.reply h) (.ite (.reply h) (.ite (.reply h) ?_))
  dsimp only
  exact .control (.setupMsg h)

theorem execRgCreate_keeps (q : VReq) (s : State) : Keeps s (execRgCreate q s) := .ok (.virkan (.refl s) (fun _ h => .rgCreate h))

theorem Kept.rgDelete {s₀ s : State} (h : Kept s₀ s) {q : VReq} : Kept s₀ (s.rgDelete q) := by
  unfold State.rgDelete
  dsimp only
  split
  · exact .ite (.replyTo h) (.control h)
  · exact .ite (.control h) (.replyTo h)

theorem execRgDelete_keeps (q : VReq) (s : State) : Keeps s (execRgDelete q s) := .ok (.virkan (.refl s) (fun _ h => .rgDelete h))

theorem execRgStatus_keeps (q : VReq) (s : State) : Keeps s (execRgStatus q s) := .ok (.virkan (.refl s) (fun _ h => .reply h))

theorem Kept.rgPause {s₀ s : State} (h : Kept s₀ s) {q : VReq} {op : Nat} {on : Bool} : Kept s₀ (s.rgPause q op on) := by
  unfold State.rgPause
  split
  · exact .reply h
  · exact .ite (.reply h) (.ite (.reply h) (.control h))

theorem execRgPause_keeps (q : VReq) (s : State) : Keeps s (execRgPause q s) := .ok (.virkan (.refl s) (fun _ h => .rgPause h))

theorem execRgResume_keeps (q : VReq) (s : State) : Keeps s (execRgResume q s) := .ok (.virkan (.refl s) (fun _ h => .rgPause h))

theorem Kept.snapAsk {s₀ s : State} (h : Kept s₀ s) {q : VReq} : Kept s₀ (s.snapAsk q) := by
  unfold State.snapAsk
  dsimp only
  split
  · exact .ite (.replyTo h) (.ite (.replyTo h) (.ite (.ite (.group' (.replyTo h)) (.replyTo h)) (.ite (.replyTo h) (.ite (.replyTo h)
      (.ite (.replyTo h) (.group' (.layBase (.replyTo h))))))))
  · exact .replyTo h

theorem execSnapShip_keeps (q : VReq) (s : State) : Keeps s (execSnapShip q s) := .ok (.virkan (.refl s) (fun _ h => .snapAsk h))

/-! ## The operations of Machine/Update -/

theorem Kept.updEvent {s₀ s : State} (h : Kept s₀ s) {stage base target : Nat} : Kept s₀ (s.updEvent stage base target) := .ev0 h

theorem Kept.updBegin {s₀ s : State} (h : Kept s₀ s) {q : VReq} : Kept s₀ (s.updBegin q) := by
  unfold State.updBegin
  split
  · exact .reply h
  · exact .ite (.reply h) (.ite (.reply (.ev0 (.bump h))) (.reply (.updEvent (.up' h))))

theorem execUpdBegin_keeps (q : VReq) (s : State) : Keeps s (execUpdBegin q s) := .ok (.virkan (.refl s) (fun _ h => .updBegin h))

theorem Kept.writeResult {s₀ s : State} (h : Kept s₀ s) {u : Update} {a : Assembly} : Kept s₀ (s.writeResult u a) := by
  unfold State.writeResult
  exact .up' (.ite (.stat (.stat h)) (.bt' (.stat (.stat h))))

theorem Kept.recordBlock {s₀ s : State} (h : Kept s₀ s) {w : Waiter} {u : Update} {data : Bytes} :
    Kept s₀ (s.recordBlock w u data) :=
  .ite (.replyTo (.stat (.ev0 (.up' h)))) (.ite (.replyTo (.stat (.up' h))) (.replyTo (.stat (.writeResult h))))

theorem Kept.judgeBlock {s₀ s : State} (h : Kept s₀ s) {w : Waiter} {off crc : Nat} {data : Bytes} :
    Kept s₀ (s.judgeBlock w off crc data) := by
  unfold State.judgeBlock
  split
  · exact .replyTo (.stat h)
  · exact .ite (.replyTo (.stat h)) (.ite (.replyTo (.stat h)) (.ite (.ite (.up' h) (.recordBlock h)) (.ite (.replyTo h) (.replyTo (.stat
      h)))))

theorem execUpdBlock_keeps (q : VReq) (s : State) : Keeps s (execUpdBlock q s) := .ok (.virkan (.refl s) (fun _ h => .judgeBlock h))

theorem execUpdateStagingRoom_keeps (bytes : Nat) (s : State) : Keeps s (execUpdateStagingRoom bytes s) := by
  have h := Kept.refl s
  unfold execUpdateStagingRoom
  refine .ok ?_
  split
  · exact h
  · exact .foldl (.up' h) (fun _ _ h => .judgeBlock h) _

theorem Kept.updVerify {s₀ s : State} (h : Kept s₀ s) {q : VReq} : Kept s₀ (s.updVerify q) := by
  unfold State.updVerify
  split
  · exact .reply h
  · exact .ite (.reply h) (.ite (.reply h) (.ite (.reply (.updEvent (.up' (.extend (.reply h))))) (.reply (.bump (.ev0 (.up' (.reply
      h)))))))

theorem execUpdVerify_keeps (q : VReq) (s : State) : Keeps s (execUpdVerify q s) := .ok (.virkan (.refl s) (fun _ h => .updVerify h))

theorem Kept.updActivate {s₀ s : State} (h : Kept s₀ s) {q : VReq} : Kept s₀ (s.updActivate q) := by
  unfold State.updActivate
  split
  · exact .reply h
  · split
    · exact .reply h
    · exact .ite (.reply h) (.control (.bump (.updEvent (.up' (.bankSelect h)))))

theorem execUpdActivate_keeps (q : VReq) (s : State) : Keeps s (execUpdActivate q s) :=
  .ok (.virkan (.refl s) (fun _ h => .updActivate h))

theorem Kept.updConfirm {s₀ s : State} (h : Kept s₀ s) {q : VReq} : Kept s₀ (s.updConfirm q) := by
  unfold State.updConfirm
  split
  · exact .reply h
  · exact .ite (.reply h) (.ite (.reply h) (.control h))

theorem execUpdConfirm_keeps (q : VReq) (s : State) : Keeps s (execUpdConfirm q s) := .ok (.virkan (.refl s) (fun _ h => .updConfirm h))

theorem Kept.updAbort {s₀ s : State} (h : Kept s₀ s) {q : VReq} : Kept s₀ (s.updAbort q) :=
  .ite (.reply (.ev0 (.up' h))) (.ite (.orderFallback (.reply h)) (.reply h))

theorem execUpdAbort_keeps (q : VReq) (s : State) : Keeps s (execUpdAbort q s) := .ok (.virkan (.refl s) (fun _ h => .updAbort h))

theorem execUpdLock_keeps (q : VReq) (s : State) : Keeps s (execUpdLock q s) :=
  .ok (.virkan (.refl s) (fun _ h => .ite (.reply h) (.control h)))

theorem execTrialWindowEnd_keeps (s : State) : Keeps s (execTrialWindowEnd s) := by
  have h := Kept.refl s
  unfold execTrialWindowEnd
  refine .ok ?_
  split
  · exact .ite (.orderFallback h) h
  · exact h

theorem Kept.restart {s₀ s : State} (h : Kept s₀ s) {q : VReq} : Kept s₀ (s.restart q) :=
  .ite (.reply h) (.resetNow (.silence (.ite (.pr' (.ite (.pw' (.ledgerRec (.reply h))) (.ite (.ledgerRec (.reply h)) (.reply h))))
    (.sendWaggles (.pr' (.pr' (.ite (.pw' (.ledgerRec (.reply h))) (.ite (.ledgerRec (.reply h)) (.reply h)))))))))

theorem execRestart_keeps (q : VReq) (s : State) : Keeps s (execRestart q s) := .ok (.virkan (.refl s) (fun _ h => .restart h))

/-! ## The operations of Machine/Virkan -/

theorem execSessionOpen_keeps (q : VReq) (s : State) : Keeps s (execSessionOpen q s) :=
  .ok (.virkan (.refl s) (fun _ h => .openSession h))

theorem Kept.authSession {s₀ s : State} (h : Kept s₀ s) {q : VReq} : Kept s₀ (s.authSession q) := by
  unfold State.authSession
  split
  · exact h
  · refine .ite (.reply (.session' h ?_)) (.ite (.closeSession (.ev0 (.reply (.session' h ?_)))) (.reply (.session' h ?_)))
    · exact fun _ => ⟨rfl, rfl, .refl _⟩
    · exact fun _ => ⟨rfl, rfl, .refl _⟩
    · exact fun _ => ⟨rfl, rfl, .refl _⟩

theorem execSessionAuth_keeps (q : VReq) (s : State) : Keeps s (execSessionAuth q s) :=
  .ok (.virkan (.refl s) (fun _ h => .authSession h))

theorem execSessionClose_keeps (q : VReq) (s : State) : Keeps s (execSessionClose q s) :=
  .ok (.virkan (.refl s) (fun _ h => .closeSession (.reply h)))

theorem execSessionList_keeps (q : VReq) (s : State) : Keeps s (execSessionList q s) := .ok (.virkan (.refl s) (fun _ h => .reply h))

theorem execSessionIdleExpiry_keeps (handle : Nat) (s : State) : Keeps s (execSessionIdleExpiry handle s) := by
  have h := Kept.refl s
  unfold execSessionIdleExpiry
  refine .ok ?_
  split
  · exact .ite (.closeSession h) h
  · exact h

/-! ## The operations of Machine/VirkanWire -/

/-- The meanings of the session and frame opcodes. -/
theorem opsA_keep : ∀ e ∈ opsA, ∀ (q : VReq) (s : State), Keeps s (e.2 q s) := by
  simp only [opsA, List.forall_mem_cons]
  exact ⟨execSessionOpen_keeps, execSessionAuth_keeps, execSessionClose_keeps, execSessionList_keeps, execCfgOpen_keeps,
    execCfgStage_keeps, execCfgCheck_keeps, execCfgApply_keeps, execCfgCancel_keeps, execCfgStatus_keeps, execCfgRead_keeps,
    execModeGet_keeps, nofun⟩

/-- The meanings of the domain, namespace, snapshot and hive opcodes. -/
theorem opsB_keep : ∀ e ∈ opsB, ∀ (q : VReq) (s : State), Keeps s (e.2 q s) := by
  simp only [opsB, List.forall_mem_cons]
  exact ⟨execDomainCreate_keeps, execDomainDelete_keeps, execDomainList_keeps, execNsCreate_keeps, execNsDelete_keeps,
    execNsResize_keeps, execNsList_keeps, execSnapCreate_keeps, execSnapDelete_keeps, execSnapClone_keeps, execHiveStatus_keeps,
    execHiveWake_keeps, execHiveDark_keeps, execSuperAttach_keeps, execCombRetire_keeps, execStripeAcceptLoss_keeps,
    execMediaStats_keeps, nofun⟩

/-- The meanings of the pair, colony and replication opcodes. -/
theorem opsC_keep : ∀ e ∈ opsC, ∀ (q : VReq) (s : State), Keeps s (e.2 q s) := by
  simp only [opsC, List.forall_mem_cons]
  exact ⟨execPairStatus_keeps, execRebalance_keeps, execPathDrill_keeps, execMirrorDiscard_keeps, execPairElect_keeps,
    execColonyStatus_keeps, execColonyJoin_keeps, execColonyLeave_keeps, execQueenAssign_keeps, execTokenStatus_keeps,
    execCatalogueRead_keeps, execRgCreate_keeps, execRgDelete_keeps, execRgStatus_keeps, execRgPause_keeps, execRgResume_keeps,
    execSnapShip_keeps, nofun⟩

/-- The meanings of the other opcodes. -/
theorem opsD_keep : ∀ e ∈ opsD, ∀ (q : VReq) (s : State), Keeps s (e.2 q s) := by
  simp only [opsD, List.forall_mem_cons]
  exact ⟨execOwnerEnroll_keeps, execKeyProvision_keeps, execKeyEscrowExport_keeps, execKeyRestore_keeps, execKeyRotate_keeps,
    execKeyErase_keeps, execKeyStatus_keeps, execEvtRead_keeps, execEvtSubscribe_keeps, execCtrRead_keeps, execCtrClear_keeps,
    execAttest_keeps, execLedgerRead_keeps, execUpdBegin_keeps, execUpdBlock_keeps, execUpdVerify_keeps, execUpdActivate_keeps,
    execUpdConfirm_keeps, execUpdAbort_keeps, execUpdLock_keeps, execRestart_keeps, execDiagDieRead_keeps, execDiagLinkLoop_keeps,
    execDiagSelftest_keeps, execDiagDump_keeps, nofun⟩

theorem Kept.runOp {s₀ s : State} (h : Kept s₀ s) {op : Nat} {q : VReq} : Kept s₀ (s.runOp op q) := by
  unfold State.runOp
  split
  next f hf =>
    have hops : ∀ e ∈ opsA ++ opsB ++ opsC ++ opsD, ∀ (q : VReq) (s : State), Keeps s (e.2 q s) := by
      simp only [List.forall_mem_append]
      exact ⟨⟨⟨opsA_keep, opsB_keep⟩, opsC_keep⟩, opsD_keep⟩
    split
    · exact h.trans (hops _ (List.mem_of_find?_eq_some hf) q s _ ‹_›)
    · exact h
  · exact .virkan h fun _ h => h

theorem Kept.wire {s₀ s : State} (h : Kept s₀ s) {via : Transport} {bs : Bytes} : Kept s₀ (s.wire via bs) := by
  unfold State.wire
  refine .ite h ?_
  split
  · split
    · exact .send (.vk' (.closeVia h))
    · exact .deliverAs h
  · split
    · exact .deliverAs (.ite (.vk' h) h)
    · exact .runOp h

theorem execAdminC0hSubmit_keeps (e : Sqe) (s : State) : Keeps s (execAdminC0hSubmit e s) :=
  .ok (.nvme (.refl s) (fun _ _ h => .ite (.nvEnd h) (.wire (.nvDone h))))

theorem execAdminC1hFetch_keeps (e : Sqe) (s : State) : Keeps s (execAdminC1hFetch e s) := by
  have h := Kept.refl s
  unfold execAdminC1hFetch
  refine .ok (.nvme h (fun _ _ h => ?_))
  dsimp only
  split
  · exact .nvDone h
  · exact .ite (.nvDone h) (.fetched (.nvDone h))

theorem execMgVirkanPacket_keeps (conn : Nat) (bytes : Bytes) (s : State) : Keeps s (execMgVirkanPacket conn bytes s) :=
  .ok (.ite (.wire (.refl s)) (.refl s))

theorem execAttestationServiceRequest_keeps (conn : Nat) (bytes : Bytes) (s : State) :
    Keeps s (execAttestationServiceRequest conn bytes s) := by
  have h := Kept.refl s
  unfold execAttestationServiceRequest
  refine .ok (.ite h ?_)
  split
  · exact .stat (.vk' (.send (.send (.of_eq ‹_› (.attest h)))))

theorem execVirkanReplyExpiry_keeps (via : Transport) (session tag : Nat) (s : State) :
    Keeps s (execVirkanReplyExpiry via session tag s) := by
  have h := Kept.refl s
  unfold execVirkanReplyExpiry
  refine .ok ?_
  split
  · exact h
  · refine .ite (.session' (.vk' h) ?_) (.vk' h)
    exact fun _ => ⟨rfl, rfl, List.erase_sublist⟩

theorem execConfirmCodeExpiry_keeps (handle : Nat) (s : State) : Keeps s (execConfirmCodeExpiry handle s) := by
  have h := Kept.refl s
  unfold execConfirmCodeExpiry
  refine .ok (.session' h ?_)
  exact fun _ => ⟨rfl, rfl, .refl _⟩

/-! ## The operations of Machine/Sideband -/

theorem sbOp_keeps (s : State) (off : Nat) (f : State → State) (hf : ∀ t, Kept s t → Kept s (f t)) : Keeps s (s.sbOp off f) :=
  .ok (.ite (.judgeStatus (hf _ (.sb' (.refl s)))) (.refl s))

theorem Kept.sbDrain {s₀ s : State} (h : Kept s₀ s) : Kept s₀ s.sbDrain :=
  .ite h (.sbLoad (.foldl (.ite (.sbCause (.sb' h)) (.sb' h)) (fun _ _ h => .wire (.stat h)) _))

theorem execSbReqData_keeps (word : BitVec 32) (s : State) : Keeps s (execSbReqData word s) := by
  have h := Kept.refl s
  unfold execSbReqData
  refine sbOp_keeps _ _ _ (fun _ h => ?_)
  exact .ite (.mbxFault (.sb' h)) (.ite (.mbxFault (.ite (.sbDrain (.sb' (.sb' h))) (.sb' h))) (.ite (.sbDrain (.sb' (.sb' h))) (.sb' h)))

theorem Kept.reqRewind {s₀ s : State} (h : Kept s₀ s) : Kept s₀ s.reqRewind := by
  unfold State.reqRewind
  exact .sb' h

theorem execSbReqCap_keeps (word : BitVec 32) (s : State) : Keeps s (execSbReqCap word s) := by
  have h := Kept.refl s
  unfold execSbReqCap
  refine sbOp_keeps _ _ _ (fun _ h => ?_)
  exact .ite (.mbxFault (.reqRewind h)) (.ite (.reqRewind h) (.sbDrain (.sb' h)))

theorem execSbRspData_keeps (s : State) : Keeps s (execSbRspData s) := by
  have h := Kept.refl s
  unfold execSbRspData
  refine sbOp_keeps _ _ _ (fun _ h => ?_)
  dsimp only
  split
  · exact .send (.sbLoad h)
  · refine .ite ?_ (.sb' (.send (.sbLoad h)))
    split
    · exact .sbLoad (.fetched (.stat (.sb' (.send (.sbLoad h)))))
    · exact .sbLoad (.stat (.sb' (.send (.sbLoad h))))

theorem execSbRtcLo_keeps (s : State) : Keeps s (execSbRtcLo s) := by
  have h := Kept.refl s
  unfold execSbRtcLo
  refine sbOp_keeps _ _ _ (fun _ h => ?_)
  exact .send (.sb' h)

theorem execSbSentinelReset_keeps (word : BitVec 32) (s : State) : Keeps s (execSbSentinelReset word s) := by
  have h := Kept.refl s
  unfold execSbSentinelReset
  refine sbOp_keeps _ _ _ (fun _ h => ?_)
  exact .ite (.sb' (.sb' h)) (.ite (.sentinelReset (.sb' h)) (.sb' h))

theorem execSentinelResetArmExpiry_keeps (s : State) : Keeps s (execSentinelResetArmExpiry s) := .ok (.sb' (.refl s))

theorem execSbWake_keeps (word : BitVec 32) (s : State) : Keeps s (execSbWake word s) := by
  have h := Kept.refl s
  unfold execSbWake
  refine sbOp_keeps _ _ _ (fun _ h => ?_)
  exact .ite (.latchWake h) h

theorem execSbPadRelease_keeps (word : BitVec 32) (s : State) : Keeps s (execSbPadRelease word s) := by
  have h := Kept.refl s
  unfold execSbPadRelease
  refine sbOp_keeps _ _ _ (fun _ h => ?_)
  exact .ite (.ev0 (.releasePads h)) h

theorem execSbIntStatus_keeps (word : BitVec 32) (s : State) : Keeps s (execSbIntStatus word s) :=
  sbOp_keeps _ _ _ fun _ h => h.sb'_of fun ⟨h1, h2, h3⟩ => ⟨h1, (BitVec.toNat_and .. ▸ Nat.and_le_left).trans_lt h2, h3⟩

theorem execSbMbxError_keeps (word : BitVec 32) (s : State) : Keeps s (execSbMbxError word s) :=
  sbOp_keeps _ _ _ fun _ h => h.sb'_of fun ⟨h1, h2, h3, h4⟩ => ⟨h1, h2, (BitVec.toNat_and .. ▸ Nat.and_le_left).trans_lt h3, h4⟩

theorem execSbRegisterWrite_keeps (off : Nat) (word : BitVec 32) (s : State) : Keeps s (execSbRegisterWrite off word s) :=
  sbOp_keeps _ _ _ fun _ h => .ite (h.sb'_of fun ⟨_, h2⟩ => ⟨BitVec.toNat_and .. ▸ Nat.and_lt_two_pow _ (by decide), h2⟩) h

/-! ## The operations of Machine/Clock -/

theorem Kept.adjustTick {s₀ s : State} (h : Kept s₀ s) : Kept s₀ s.adjustTick := .stat (.ck' (.afterDraw h))

theorem execPtpMessage_keeps (kind src : Nat) (offset : Int) (s : State) : Keeps s (execPtpMessage kind src offset s) := by
  have h := Kept.refl s
  unfold execPtpMessage
  exact .ok (.ite h (.ite (.ck' h) (.ite h (.ite (.judgeAlign (.adjustTick (.send (.ck' h)))) (.ite (.judgeAlign (.adjustTick (.ck' h)))
    h)))))

theorem execAlignmentTimeout_keeps (s : State) : Keeps s (execAlignmentTimeout s) := .ok (.judgeAlign (.refl s))

theorem execRtcDiscipline_keeps (s : State) : Keeps s (execRtcDiscipline s) := .ok (.ite (.ck' (.refl s)) (.refl s))

theorem Kept.quietHosts {s₀ s : State} (h : Kept s₀ s) : Kept s₀ s.quietHosts := by
  unfold State.quietHosts
  exact .vk' (.foldl (.foldl (.sendDormant h) (fun _ _ h => .endConn (.send h)) _) (fun _ _ h => .closeVia (.send h)) _)

theorem Kept.votesDown {s₀ s : State} (h : Kept s₀ s) : Kept s₀ s.votesDown := .foldl h (fun _ _ h => .sendVote h) _

theorem Kept.fallAsleep {s₀ s : State} (h : Kept s₀ s) {m : Mode} : Kept s₀ (s.fallAsleep m) := by
  unfold State.fallAsleep
  exact .pr' (.cl' (.send (.pw' (.stat (.ev0 (.ev0 (.foldl (.md' h) (fun _ _ h => .frameReply h) _)))))))

theorem execHoldEntry_keeps (s : State) : Keeps s (execHoldEntry s) := by
  have h := Kept.refl s
  unfold execHoldEntry
  exact .ok (.ite h (.ite (.dr' (.fallAsleep (.votesDown (.quietHosts h)))) (.votesDown (.quietHosts h))))

/-- DRAM that loses its training loses its bytes, and the cache empties before. -/
theorem Kept.trainingLost {s₀ s : State} (h : Kept s₀ s) :
    Kept s₀ ((s.mc' fun m => { m with lines := [] }).dr' fun d => { d with mem := [], trained := false }) := by
  refine Kept.dr'_of (h.mc' ?_) (fun _ => rfl) ?_
  · exact fun ⟨hwf, hb, hz, _⟩ => ⟨hwf, hb, hz, List.nodup_nil, List.nodup_nil, nofun⟩
  · exact fun ⟨_, hb, hz, _⟩ => ⟨rfl, hb, hz, List.nodup_nil, List.nodup_nil, nofun⟩

theorem execWatchEntry_keeps (s : State) : Keeps s (execWatchEntry s) := by
  have h := (Kept.refl s).quietHosts.votesDown
  unfold execWatchEntry
  exact .ok (.ite (Kept.refl s) (.ite (.trainingLost (.pw' h.fallAsleep)) h))

theorem Kept.wakeUp {s₀ s : State} (h : Kept s₀ s) {left : Mode} : Kept s₀ (s.wakeUp left) :=
  .sbDrain (.md' (.ev0 (.ledgerRec (.autoMode (.foldl (.pr' (.pw' (.releasePads (.afterDraw h)))) (fun _ _ h => .stat h) _)))))

theorem execHoldWake_keeps (s : State) : Keeps s (execHoldWake s) := .ok (.ite (.refl s) (.wakeUp (.dr' (.refl s))))

theorem Kept.imprintFails {s₀ s : State} (h : Kept s₀ s) : Kept s₀ s.imprintFails := .resetNow (.lastGasp (.pw' (.bump h)))

theorem execWatchWake_keeps (imprintOk : Bool) (s : State) : Keeps s (execWatchWake imprintOk s) := by
  have h := Kept.refl s
  unfold execWatchWake
  exact .ok (.ite h (.ite (.imprintFails h) (.wakeUp (.restartFilter (.rd' (.firstRecord (.dr' (.pw' h))))))))

theorem execWatchSample_keeps (tj : Int) (holdup : Nat) (s : State) : Keeps s (execWatchSample tj holdup s) := by
  have h := Kept.refl s
  unfold execWatchSample
  exact .ok (.ite h (.ite (.ite (.propolisAlarm (.stat (.pw' h))) (.stat (.pw' h))) (.ite h (.ite (.propolisAlarm (.pw' (.stat (.pw' h))))
    (.ite (.latchWake (.ite (.latchWake (.pw' (.stat (.pw' h)))) (.pw' (.stat (.pw' h))))) (.ite (.latchWake (.pw' (.stat (.pw' h))))
    (.pw' (.stat (.pw' h)))))))))

theorem execWakeN_keeps (us : Nat) (s : State) : Keeps s (execWakeN us s) := .ok (.ite (.latchWake (.refl s)) (.refl s))

theorem execWatchdogKick_keeps (s : State) : Keeps s (execWatchdogKick s) := .ok (.ite (.refl s) (.pw' (.refl s)))

theorem execWatchdogExpiry_keeps (s : State) : Keeps s (execWatchdogExpiry s) := by
  have h := Kept.refl s
  unfold execWatchdogExpiry
  refine .ok ?_
  split
  · exact .ite h (.sentinelReset (.bump h))
  · exact h

theorem execChipResetN_keeps (ns : Nat) (s : State) : Keeps s (execChipResetN ns s) := by
  have h := Kept.refl s
  unfold execChipResetN
  exact .ok (.ite h (.ite (.resetDevice h) (.ite (.resetDevice (.afterDraw h)) (.afterDraw h))))

theorem execPowerOnResetRelease_keeps (s : State) : Keeps s (execPowerOnResetRelease s) := .ok (.ite (.refl s) (.pw' (.refl s)))

/-! ## The operations of Machine/Forage -/

theorem execForageWrite_keeps (p : FPkt) (carried : Option ShadowRec) (journal : Option JournalEntry) (s : State) :
    Keeps s (execForageWrite p carried journal s) :=
  .ok (.ite (.refl s) (.arrive (.refl s)))

theorem execWriteImm_keeps (p : FPkt) (s : State) : Keeps s (execWriteImm p s) := .ok (.ite (.refl s) (.arrive (.refl s)))

theorem execReadReq_keeps (p : FPkt) (s : State) : Keeps s (execReadReq p s) := .ok (.ite (.refl s) (.arrive (.refl s)))

theorem execReadResp_keeps (p : FPkt) (s : State) : Keeps s (execReadResp p s) := .ok (.ite (.refl s) (.arrive (.refl s)))

theorem Kept.confirmMirror {s₀ s : State} (h : Kept s₀ s) {ctx : Nat} {ms : List SentMsg} : Kept s₀ (s.confirmMirror ctx ms) :=
  .ite (.wx' h) (.wx' h)

theorem Kept.drillAcked {s₀ s : State} (h : Kept s₀ s) {ctx : Nat} {ms : List SentMsg} : Kept s₀ (s.drillAcked ctx ms) := by
  unfold State.drillAcked
  split
  · exact h
  · refine .ite h ?_
    split
    · exact .replyTo (.ev0 (.pr' h))
    · exact .ev0 (.pr' h)

theorem Kept.forageAck {s₀ s : State} (h : Kept s₀ s) {c : Ctx} {id : BitVec 32} {residence : Nat} {map : BitVec 64} {echo : Nat} :
    Kept s₀ (s.forageAck c id residence map echo) :=
  .ite (.showMsgs (.ctx' h)) (.pumpAll (.ite (.issueAll (.settle (.confirmMirror (.drillAcked (.evictOne (.putCtx (.ite (.samplePath h)
    h))))))) (.drillAcked (.evictOne (.putCtx (.ite (.samplePath h) h))))))

theorem execForageAck_keeps (p : FPkt) (ctx : Nat) (id : BitVec 32) (rx : Nat) (map : BitVec 64) (echo : Nat) (s : State) :
    Keeps s (execForageAck p ctx id rx map echo s) := by
  have h := Kept.refl s
  unfold execForageAck
  refine .ite (.ok h) ?_
  dsimp only
  refine .ok ?_
  split
  · exact .ite (.checkPkt h) (.forageAck (.checkPkt h))
  · exact .checkPkt h

theorem Kept.resendMissing {s₀ s : State} (h : Kept s₀ s) {c : Ctx} {m : SentMsg} {off map : Nat} :
    Kept s₀ (s.resendMissing c m off map) :=
  .ite (.resendMsgs h) (.sendPackets h)

theorem Kept.forageNak {s₀ s : State} (h : Kept s₀ s) {c : Ctx} {p : FPkt} : Kept s₀ (s.forageNak c p) := by
  unfold State.forageNak
  split
  · dsimp only
    split
    · exact .resendMissing h
    · exact h
  · exact .ite h (.breakSend (.ctx' h))
  · exact h
  · exact .ctx' h
  · exact .failCtx h
  · exact .failCtx h
  · exact .failCtx h
  · exact .failCtx h
  · exact h

theorem execForageNak_keeps (p : FPkt) (ctx : Nat) (id : BitVec 32) (code off map : Nat) (s : State) :
    Keeps s (execForageNak p ctx id code off map s) := by
  have h := Kept.refl s
  unfold execForageNak
  refine .ite (.ok h) ?_
  dsimp only
  refine .ok ?_
  split
  · exact .ite (.checkPkt h) (.forageNak (.checkPkt h))
  · exact .checkPkt h

theorem execSendQueuePost_keeps (ctx : Nat) (es : List WorkEntry) (s : State) : Keeps s (execSendQueuePost ctx es s) := by
  have h := Kept.refl s
  unfold execSendQueuePost
  refine .ok ?_
  split
  · exact .ite h (.pump (.ctx' h))
  · exact h

theorem Kept.rebindTimeout {s₀ s : State} (h : Kept s₀ s) {c : Ctx} : Kept s₀ (s.rebindTimeout c) := .ite h (.sendBinding (.ctx' h))

theorem execRetransmissionTimeout_keeps (ctx : Nat) (s : State) : Keeps s (execRetransmissionTimeout ctx s) := by
  have h := Kept.refl s
  unfold execRetransmissionTimeout
  refine .ok ?_
  split
  · exact h
  · refine .ite h (.ite (.rebindTimeout h) (.ite h ?_))
    split
    · exact .sendResp (.resendMsgs (.ite (.ev0 (.path' (.ctx' h))) (.ctx' h)))
    · exact .resendMsgs (.ite (.ev0 (.path' (.ctx' h))) (.ctx' h))

theorem execMessageGiveUp_keeps (ctx : Nat) (s : State) : Keeps s (execMessageGiveUp ctx s) := by
  have h := Kept.refl s
  unfold execMessageGiveUp
  refine .ok ?_
  split
  · exact h
  · exact .ite h (.breakSend h)

theorem execConnectionBreak_keeps (ctx : Nat) (s : State) : Keeps s (execConnectionBreak ctx s) := by
  have h := Kept.refl s
  unfold execConnectionBreak
  refine .ok ?_
  split
  · exact h
  · exact .ite h (.resumeTo (.bump (.ev0 (.ctx' h))))

theorem execRnrBackoffExpiry_keeps (ctx : Nat) (s : State) : Keeps s (execRnrBackoffExpiry ctx s) := by
  have h := Kept.refl s
  unfold execRnrBackoffExpiry
  refine .ok ?_
  split
  · exact h
  · exact .ite h (.resendMsgs (.ctx' h))

theorem execRecentIdAging_keeps (s : State) : Keeps s (execRecentIdAging s) := by
  have h := Kept.refl s
  unfold execRecentIdAging
  exact .ok (.ite (.fg' h) (.foldl (.fg' h) (fun _ _ h => .showMsgs h) _))

theorem execContextFetchDone_keeps (ctx : Nat) (s : State) : Keeps s (execContextFetchDone ctx s) := by
  have h := Kept.refl s
  unfold execContextFetchDone
  refine .ok ?_
  split
  · exact h
  · exact .ite h (.foldl (.evictOne (.fg' (.stat (.ctx' h)))) (fun _ _ h => .arrive7 h) _)

theorem execContextFail_keeps (ctx : Nat) (s : State) : Keeps s (execContextFail ctx s) := by
  have h := Kept.refl s
  unfold execContextFail
  refine .ok ?_
  split
  · exact h
  · exact .ite h (.failCtx h)

theorem execPathIdleFree_keeps (path : Nat) (s : State) : Keeps s (execPathIdleFree path s) := by
  have h := Kept.refl s
  unfold execPathIdleFree
  refine .ok ?_
  split
  · exact h
  · exact .ite h (.fg' h)

/-! ## The operations of Machine/DramUnit -/

theorem Kept.scrubChannel {s₀ s : State} (h : Kept s₀ s) {ch : Nat} : Kept s₀ (s.scrubChannel ch) :=
  .ite (.dr' (.afterDraw h)) (.ite (.ev0 (.bump (.dr' (.dr' (.afterDraw h))))) (.bump (.dr' (.dr' (.afterDraw h)))))

theorem execDramScrub_keeps (s : State) : Keeps s (execDramScrub s) := by
  have h := Kept.refl s
  unfold execDramScrub
  exact .ok (.ite h (.dr' (.foldl h (fun _ _ h => .scrubChannel h) _)))

theorem Kept.channelFailed {s₀ s : State} (h : Kept s₀ s) {ch : Nat} : Kept s₀ (s.channelFailed ch) := .fatalStop h

theorem Kept.repairLine {s₀ s : State} (h : Kept s₀ s) {ch addr : Nat} : Kept s₀ (s.repairLine ch addr) := by
  unfold State.repairLine
  refine .ite ?_ ?_
  · split
    · exact .readMeta h
    · exact h
  · split
    · exact .rd' h
    · split
      · exact .abandonStripe h
      · exact h
    · split
      · exact .failCtx h
      · exact h
    · split
      · exact .ks' h
      · exact h
    · exact .channelFailed h
    · exact h

theorem execDramUncorrectable_keeps (channel : Nat) (addr : Option Nat) (s : State) :
    Keeps s (execDramUncorrectable channel addr s) := by
  have h := Kept.refl s
  unfold execDramUncorrectable
  refine .ok (.ite h ?_)
  split
  · exact .channelFailed h
  · exact .ite h (.ite (.channelFailed (.dr' (.bump (.ev0 h)))) (.repairLine (.dr' (.bump (.ev0 h)))))

/-! ## The operations of Machine/Event -/

theorem execEventReport_keeps (r : Report0) (s : State) : Keeps s (execEventReport r s) := .ok (.report (.refl s))

theorem Kept.laneFrees {s₀ s : State} (h : Kept s₀ s) : Kept s₀ s.laneFrees := by
  unfold State.laneFrees
  split
  · exact h
  next hw =>
    split
    · exact h
    next hlane =>
      refine Kept.stat (h.ev'_of (fun n hok => ?_) le_rfl)
      obtain ⟨h1, h2, -, h4, h5, h6, h7⟩ := hok
      rw [hw] at h5
      obtain ⟨hr, hrest⟩ := List.forall_mem_cons.1 h5
      have hlen := h6 (by simp [hw])
      refine ⟨h1, h2, ?_, ?_, hrest, fun _ => ?_, h7⟩
      · simp only [State.ev'_ev, List.length_append, List.length_singleton]
        omega
      · exact fun x hx => (List.mem_append.1 hx).elim (h4 x) fun hx => List.mem_singleton.1 hx ▸ hr
      · simp only [State.ev'_ev, List.length_append, List.length_singleton]
        omega

/-- The report that waits longest enters the lane where it has room (R720). -/
theorem RecorderAt.laneFrees {n : Nat} {s : State} (h : RecorderAt (n + 1) s) : RecorderAt n s.laneFrees := by
  obtain ⟨h1, h2, h3, h4, h5, h6, h7⟩ := h
  unfold State.laneFrees
  split
  next hw => exact ⟨h1, h2, h3, h4, h5, fun hne => absurd hw hne, h7⟩
  next hw =>
    split
    · exact ⟨h1, h2, h3, h4, h5, fun _ => by omega, h7⟩
    · rw [hw] at h5
      obtain ⟨hr, hrest⟩ := List.forall_mem_cons.1 h5
      have hlen := h6 (by simp [hw])
      refine ⟨h1, h2, ?_, ?_, hrest, fun _ => ?_, h7⟩
      · simp only [State.stat_ev, State.ev'_ev, List.length_append, List.length_singleton]
        omega
      · exact fun x hx => (List.mem_append.1 hx).elim (h4 x) fun hx => List.mem_singleton.1 hx ▸ hr
      · simp only [State.stat_ev, State.ev'_ev, List.length_append, List.length_singleton]
        omega

theorem execEventWrite_keeps (s : State) : Keeps s (execEventWrite s) := by
  have h := Kept.refl s
  unfold execEventWrite
  refine .ok ?_
  cases hlane : s.ev.lane with
  | cons r rest =>
    have hwrite := (Kept.refl (s.ev' fun v => { v with lane := rest })).writeRec (r := r)
    have hfrees := hwrite.laneFrees
    refine ⟨⟨⟨hfrees.sessions, hfrees.memory, fun n hok => ?_, hfrees.ledger, hfrees.counters, hfrees.regs, hfrees.device,
      hfrees.numbers⟩, hfrees.cache⟩, hfrees.combs⟩
    refine RecorderAt.laneFrees (hwrite.recorder _ ?_)
    obtain ⟨h1, h2, h3, h4, h5, h6, h7⟩ := hok
    simp only [hlane, List.length_cons] at h3 h4 h6
    exact ⟨h1, h2, Nat.le_of_succ_le h3, (List.forall_mem_cons.1 h4).2, h5, fun hw => by
      have := h6 hw
      simp only [State.ev'_ev]
      omega, h7⟩
  | nil =>
    cases hfifo : s.ev.fifo with
    | cons r rest =>
      refine Kept.writeRec (h.ev'_fifo (fun hlen => ?_) fun hall x hx => hall x (by simpa [hfifo] using .inr hx))
      rw [hfifo] at hlen
      exact Nat.le_of_succ_le hlen
    | nil => exact h

theorem execBucketWindowClose_keeps (code : Nat) (s : State) : Keeps s (execBucketWindowClose code s) := by
  have h := Kept.refl s
  unfold execBucketWindowClose
  refine .ok ?_
  split
  · exact h
  · split
    · exact h
    · exact .ite h (.report (.ev' h))

theorem execBucketRefill_keeps (code : Nat) (s : State) : Keeps s (execBucketRefill code s) := by
  have h := Kept.refl s
  unfold execBucketRefill
  refine .ok ?_
  split
  · exact h
  · exact .ite h (.ev' h)

theorem Kept.dropSummary {s₀ s : State} (h : Kept s₀ s) : Kept s₀ s.dropSummary := .ite h (.report (.ev' h))

theorem Kept.refusalSummary {s₀ s : State} (h : Kept s₀ s) : Kept s₀ s.refusalSummary := .ite h (.report (.ev' h))

theorem execDropSummaryTimer_keeps (s : State) : Keeps s (execDropSummaryTimer s) := by
  have h := Kept.refl s
  unfold execDropSummaryTimer
  exact .ok (.ite h (.refusalSummary (.dropSummary (.foldl (.ev' h) (fun _ _ h => .intake h) _))))

theorem execEventNoticeSend_keeps (handle : Nat) (s : State) : Keeps s (execEventNoticeSend handle s) := by
  have h := Kept.refl s
  unfold execEventNoticeSend
  refine .ok ?_
  split
  · exact h
  · exact .ite (.sendNotice h) h

/-! ## The operations of Machine/I3c -/

theorem ccc_keeps (s : State) (f : State → State) (hf : ∀ t, Kept s t → Kept s (f t)) : Keeps s (s.ccc f) :=
  .ok (.ite (hf _ (.refl s)) (.refl s))

theorem cccGet_keeps (s : State) (bytes : Bytes) : Keeps s (s.cccGet bytes) := by
  have h := Kept.refl s
  unfold State.cccGet
  refine ccc_keeps _ _ (fun _ h => ?_)
  exact .ite (.send h) h

/-- An address of 7 bits is kept, or given (R771). -/
theorem SidebandPart.InBits.dynAddr_getD {b : SidebandPart} (h : b.InBits) (addr : Nat) :
    ({ b with dynAddr := some (b.dynAddr.getD (addr % 128)) } : SidebandPart).InBits := by
  obtain ⟨h1, h2, h3, h4, h5⟩ := h
  refine ⟨h1, h2, h3, fun a ha => ?_, h5⟩
  obtain rfl := Option.some.inj ha
  cases hd : b.dynAddr with
  | none => exact Nat.mod_lt _ (by decide)
  | some d => exact h4 d hd

theorem execEntdaa_keeps (addr : Nat) (s : State) : Keeps s (execEntdaa addr s) :=
  ccc_keeps _ _ fun _ h => h.sb'_of fun hb => hb.dynAddr_getD _

theorem execSetdasa_keeps (addr : Nat) (s : State) : Keeps s (execSetdasa addr s) :=
  ccc_keeps _ _ fun _ h => h.sb'_of fun hb => hb.dynAddr_getD _

theorem execRstdaa_keeps (s : State) : Keeps s (execRstdaa s) :=
  ccc_keeps _ _ fun _ h => h.sb'_of fun ⟨h1, h2, h3, _, h5⟩ => ⟨h1, h2, h3, nofun, h5⟩

theorem execSetnewda_keeps (addr : Nat) (s : State) : Keeps s (execSetnewda addr s) := by
  refine ccc_keeps _ _ fun _ h => h.sb'_of fun ⟨h1, h2, h3, _, h5⟩ => ⟨h1, h2, h3, fun a ha => ?_, h5⟩
  obtain ⟨_, _, rfl⟩ := Option.map_eq_some_iff.1 ha
  exact Nat.mod_lt _ (by decide)

theorem execEnec_keeps (bits : BitVec 8) (s : State) : Keeps s (execEnec bits s) := by
  have h := Kept.refl s
  unfold execEnec
  refine ccc_keeps _ _ (fun _ h => ?_)
  exact .sb' h

theorem execDisec_keeps (bits : BitVec 8) (s : State) : Keeps s (execDisec bits s) := by
  have h := Kept.refl s
  unfold execDisec
  refine ccc_keeps _ _ (fun _ h => ?_)
  exact .sb' h

theorem execGetpid_keeps (s : State) : Keeps s (execGetpid s) := cccGet_keeps _ _

theorem execGetbcr_keeps (s : State) : Keeps s (execGetbcr s) := cccGet_keeps _ _

theorem execGetdcr_keeps (s : State) : Keeps s (execGetdcr s) := cccGet_keeps _ _

theorem execGetstatus_keeps (s : State) : Keeps s (execGetstatus s) := by
  have h := Kept.refl s
  unfold execGetstatus
  refine ccc_keeps _ _ (fun _ h => ?_)
  exact .ite (.send (.afterDraw h)) h

theorem execSetmwl_keeps (len : BitVec 16) (s : State) : Keeps s (execSetmwl len s) :=
  ccc_keeps _ _ fun _ h => h.sb'_of fun ⟨h1, h2, h3, h4, _, h6⟩ => ⟨h1, h2, h3, h4, len.isLt, h6⟩

theorem execSetmrl_keeps (len : BitVec 16) (s : State) : Keeps s (execSetmrl len s) :=
  ccc_keeps _ _ fun _ h => h.sb'_of fun ⟨h1, h2, h3, h4, h5, _⟩ => ⟨h1, h2, h3, h4, h5, len.isLt⟩

theorem execGetmwl_keeps (s : State) : Keeps s (execGetmwl s) := cccGet_keeps _ _

theorem execGetmrl_keeps (s : State) : Keeps s (execGetmrl s) := cccGet_keeps _ _

/-! ## The operations of Machine/LinkEnd -/

theorem Kept.dieStateTells {s₀ s : State} (h : Kept s₀ s) {link die : Nat} {w : BitVec 32} : Kept s₀ (s.dieStateTells link die w) := by
  unfold State.dieStateTells
  refine .ite (.link' h) ?_
  split
  · exact h
  · exact .ite h (.ite (.failDie h) (.ite h (.sendRegRead h)))

theorem Kept.fenceRegsTell {s₀ s : State} (h : Kept s₀ s) {link first : Nat} {vals : List (BitVec 32)} {tasks : List DieTask} :
    Kept s₀ (s.fenceRegsTell link first vals tasks) :=
  .ite (.foldl h (fun _ _ h => .taskDone h) _) h

theorem Kept.dieRegsTell {s₀ s : State} (h : Kept s₀ s) {link first : Nat} {vals : List (BitVec 32)} {tasks : List DieTask} {d : Nat} :
    Kept s₀ (s.dieRegsTell link first vals tasks d) := by
  unfold State.dieRegsTell
  dsimp only
  split
  · refine .dieStateTells ?_
    split
    · exact .foldl h (fun _ _ h => .windowTells h) _
    · exact h
  · split
    · exact .foldl h (fun _ _ h => .windowTells h) _
    · exact h

theorem Kept.askDescs {s₀ s : State} (h : Kept s₀ s) {link first : Nat} {vals : List (BitVec 32)} :
    Kept s₀ (s.askDescs link first vals) :=
  .ite h (.foldl h (fun _ _ h => .sendRegRead h) _)

theorem Kept.regsEnd {s₀ s : State} (h : Kept s₀ s) {link : Nat} : Kept s₀ (s.regsEnd link) := by
  unfold State.regsEnd
  split
  · exact h
  · exact .ite h (.ite (.holdLink h) (.issueAll (.judgeHive (.foldl (.linkJoins (.linkIsUp h)) (fun _ _ h => .sendRegRead h) _))))

theorem Kept.regsArrive {s₀ s : State} (h : Kept s₀ s) {link first : Nat} {vals : List (BitVec 32)} :
    Kept s₀ (s.regsArrive link first vals) := by
  unfold State.regsArrive
  split
  · exact h
  · exact .ite (.regsEnd (.askDescs (.foldl (.fenceRegsTell (.ite (.markFailed (.link' h)) (.link' h))) (fun _ _ h => .dieRegsTell h) _)))
      (.foldl (.fenceRegsTell (.ite (.markFailed (.link' h)) (.link' h))) (fun _ _ h => .dieRegsTell h) _)

theorem execRegData_keeps (link : Nat) (f : LFrame) (vals : List (BitVec 32)) (s : State) : Keeps s (execRegData link f vals s) := by
  have h := Kept.refl s
  unfold execRegData
  exact .ok (.ite h (.headFrame h (fun _ h => .regsArrive h)))

theorem Kept.bridgeUnknown {s₀ s : State} (h : Kept s₀ s) {link : Nat} {port : Side} {f : LFrame} :
    Kept s₀ (s.bridgeUnknown link port f) := by
  unfold State.bridgeUnknown
  refine .ite (.bridgeHears h fun _ h => h) (h.bridge' fun b => ?_)
  split
  · exact SameComb.port' ..
  · exact .refl b

theorem execDataFrame_keeps (link : Nat) (atHead : Bool) (port : Side) (f : LFrame) (s : State) :
    Keeps s (execDataFrame link atHead port f s) := by
  have h := Kept.refl s
  unfold execDataFrame
  exact .ok (.ite (.bridgeUnknown h) (.ite h (.ite (.headFrame h (fun _ h => .link' h)) (.bridgeFrame h (fun _ h => .bridgeData h)))))

theorem Kept.pageRead {s₀ s : State} (h : Kept s₀ s) {link : Nat} {f : LFrame} : Kept s₀ (s.pageRead link f) := by
  unfold State.pageRead
  refine .link' ?_
  split
  · exact .stat (.stat h)
  · exact .bump (.stat h)
  · exact .stat h

theorem execPageEnd_keeps (link : Nat) (atHead : Bool) (port : Side) (f : LFrame) (s : State) :
    Keeps s (execPageEnd link atHead port f s) := by
  have h := Kept.refl s
  unfold execPageEnd
  exact .ok (.ite h (.ite (.headFrame h (fun _ h => .pageRead h)) (.bridgeFrame h (fun _ h => .bridgeData h))))

theorem execDoneFrame_keeps (link : Nat) (f : LFrame) (s : State) : Keeps s (execDoneFrame link f s) := by
  have h := Kept.refl s
  unfold execDoneFrame
  refine .ok (.ite h (.headFrame h (fun _ h => ?_)))
  split
  · exact .issueAll (.taskDone h)
  · exact h

theorem execBridgeEvent_keeps (link : Nat) (f : LFrame) (s : State) : Keeps s (execBridgeEvent link f s) := by
  have h := Kept.refl s
  unfold execBridgeEvent
  refine .ok (.ite h (.headFrame h (fun _ h => ?_)))
  split
  · split
    · exact .failDie (.ev0 h)
    · exact .markFailed (.ev0 h)
    · exact .link' (.ev0 h)
    · exact .ev0 h
  · split
    · exact .failDie (.ev0 h)
    · exact .markFailed (.ev0 h)
    · exact .link' (.ev0 h)
    · exact .ev0 h

theorem Kept.retrained {s₀ s : State} (h : Kept s₀ s) {link : Nat} {next : BitVec 12} : Kept s₀ (s.retrained link next) := by
  unfold State.retrained
  split
  · exact h
  · exact .ite h (.headPump (.resendFrames (.ev0 (.link' h))))

theorem Kept.bridgeRetrained {s₀ s : State} (h : Kept s₀ s) {link : Nat} {port : Side} {next : BitVec 12} :
    Kept s₀ (s.bridgeRetrained link port next) := by
  unfold State.bridgeRetrained
  refine .bridgePump (.bridgeResend (.bridge' h ?_))
  exact (SameComb.port' · _ _)

theorem Kept.helloAtHead {s₀ s : State} (h : Kept s₀ s) {link : Nat} {f : LFrame} : Kept s₀ (s.helloAtHead link f) := by
  unfold State.helloAtHead
  split
  · exact h
  · exact .ite h (.ite (.ev0 (.link' h)) (.ite (.retrained (.startRetrain h)) (.ite (.sendRegRead (.link' h)) h)))

theorem Kept.helloAtBridge {s₀ s : State} (h : Kept s₀ s) {link : Nat} {port : Side} {f : LFrame} :
    Kept s₀ (s.helloAtBridge link port f) := by
  unfold State.helloAtBridge
  split
  · exact h
  · refine .ite h (.ite (.bridgeRetrained (.bridgeHello h)) (.foldl (.bridgeHello (.bridge' h ?_)) (fun _ _ h => .bridgeEventFrame h) _))
    exact (SameComb.port' · _ _)

theorem execHello_keeps (link : Nat) (atHead : Bool) (port : Side) (f : LFrame) (s : State) :
    Keeps s (execHello link atHead port f s) := by
  have h := Kept.refl s
  unfold execHello
  exact .ok (.ite h (.ite (.headHears h (fun _ h => .helloAtHead h)) (.bridgeHears h (fun _ h => .helloAtBridge h))))

theorem execLinkAck_keeps (link : Nat) (atHead : Bool) (port : Side) (f : LFrame) (s : State) :
    Keeps s (execLinkAck link atHead port f s) := by
  have h := Kept.refl s
  unfold execLinkAck
  exact .ok (.ite h (.ite (.headHears h (fun _ h => h)) (.bridgeHears h (fun _ h => h))))

theorem Kept.bridgeAgain {s₀ s : State} (h : Kept s₀ s) {link : Nat} {port : Side} {from_ : BitVec 12} :
    Kept s₀ (s.bridgeAgain link port from_) := by
  unfold State.bridgeAgain
  split
  · exact h
  · exact .ite (.cond (.bridgeHello h) (fun _ h => .startRetrain h) _) (.bridgeResend h)

theorem Kept.headAgain {s₀ s : State} (h : Kept s₀ s) {link : Nat} {from_ : BitVec 12} : Kept s₀ (s.headAgain link from_) := by
  unfold State.headAgain
  dsimp only
  split
  · exact .bump (.link' h)
  · exact .ite (.bump (.link' h)) (.ite (.startRetrain (.bump (.link' h))) (.resendFrames (.link' (.bump (.link' h)))))

theorem execLinkNak_keeps (link : Nat) (atHead : Bool) (port : Side) (f : LFrame) (s : State) :
    Keeps s (execLinkNak link atHead port f s) := by
  have h := Kept.refl s
  unfold execLinkNak
  refine .ok (.ite h (.ite (.headHears h (fun _ h => .headPump (.headAgain h))) (.bridgeHears h (fun _ h => .bridgePump (.bridgeAgain
    (.bridge' h ?_))))))
  exact (SameComb.port' · _ _)

theorem Kept.bridgeTimer {s₀ s : State} (h : Kept s₀ s) {link : Nat} : Kept s₀ (s.bridgeTimer link) := by
  unfold State.bridgeTimer
  split
  · exact h
  · split
    · exact h
    · exact .ite (.bridgeAgain h) h

theorem execLinkResendTimer_keeps (link : Nat) (s : State) : Keeps s (execLinkResendTimer link s) := by
  have h := Kept.refl s
  unfold execLinkResendTimer
  refine .ok ?_
  split
  · exact h
  · exact .ite h (.ite (.bridgeTimer h) (.ite (.startRetrain h) (.resendFrames (.link' h))))

theorem execBlockLockLost_keeps (link : Nat) (s : State) : Keeps s (execBlockLockLost link s) := .ok (.startRetrain (.refl s))

theorem execRetrain_keeps (link : Nat) (peerNext : BitVec 12) (s : State) : Keeps s (execRetrain link peerNext s) := by
  have h := Kept.refl s
  unfold execRetrain
  refine .ok ?_
  split
  · exact .startRetrain h
  · exact .ite (.startRetrain h) (.bridgeRetrained (.retrained (.bridgeHello (.startRetrain h))))

theorem execRetrainTimeout_keeps (link : Nat) (s : State) : Keeps s (execRetrainTimeout link s) :=
  .ok (.ite (.linkDown (.refl s)) (.refl s))

theorem execCombLinkBringUp_keeps (link : Nat) (good : Bool) (s : State) : Keeps s (execCombLinkBringUp link good s) := by
  have h := Kept.refl s
  unfold execCombLinkBringUp
  refine .ok ?_
  split
  · exact .ite (.withLink h) (.ite (.link' (.withLink h)) (.ite (.bringUpFails (.link' (.withLink h))) (.ite (.holdLink (.withLink h))
      (.linkUp (.withLink h)))))
  · exact .withLink h

theorem execLinkRetryTimer_keeps (link : Nat) (s : State) : Keeps s (execLinkRetryTimer link s) := by
  have h := Kept.refl s
  unfold execLinkRetryTimer
  refine .ok ?_
  split
  · exact h
  · exact .ite (.headHello (.link' h)) h

theorem Kept.failOutcome {s₀ s : State} (h : Kept s₀ s) {link : Nat} {k : DieTask} : Kept s₀ (s.failOutcome link k) := by
  unfold State.failOutcome
  split
  · exact .progFailed h
  · exact .ite h (.fenceAnswer h)
  · exact .replyTo h
  · exact h

theorem execLinkDownTimeout_keeps (link : Nat) (s : State) : Keeps s (execLinkDownTimeout link s) := by
  have h := Kept.refl s
  unfold execLinkDownTimeout
  refine .ok ?_
  split
  · exact h
  · exact .ite (.judgeHive (.foldl (.link' (.markFailed h)) (fun _ _ h => .failOutcome h) _)) h

theorem Kept.taskFailed {s₀ s : State} (h : Kept s₀ s) {link : Nat} {k : DieTask} : Kept s₀ (s.taskFailed link k) :=
  .ite (.failDie (.failOutcome (.ite (.bump (.ev0 (.link' h))) (.sendRegRead (.link' (.bump (.ev0 (.link' h)))))))) (.failOutcome (.ite
    (.bump (.ev0 (.link' h))) (.sendRegRead (.link' (.bump (.ev0 (.link' h)))))))

theorem execTaskDeadline_keeps (link tag : Nat) (s : State) : Keeps s (execTaskDeadline link tag s) := by
  have h := Kept.refl s
  unfold execTaskDeadline
  refine .ok ?_
  split
  · exact h
  · split
    · exact h
    · exact .ite (.taskFailed h) h

theorem execBridgePowerUp_keeps (link : Nat) (s : State) : Keeps s (execBridgePowerUp link s) := by
  have h := Kept.refl s
  unfold execBridgePowerUp
  refine .ok (.ite h (.headHello (.foldl (.link' (.withLink (.bridge' h ?_))) (fun _ _ h => .failOutcome h) _)))
  exact fun _ => ⟨rfl, rfl, rfl, rfl, rfl, rfl⟩

theorem execBridgeHealthChange_keeps (link code die detail : Nat) (s : State) :
    Keeps s (execBridgeHealthChange link code die detail s) := by
  have h := Kept.refl s
  unfold execBridgeHealthChange
  refine .ok (.ite h (.bridgeEventFrame (.bridgeEventFrame (.bridge' h ?_))))
  exact fun _ => ⟨rfl, rfl, rfl, rfl, rfl, rfl⟩

/-! ## The operations of Machine/Stripes -/

theorem Kept.fillLanding {s₀ s : State} (h : Kept s₀ s) {ord lane n : Nat} : Kept s₀ (s.fillLanding ord lane n) := by
  induction n generalizing s with
  | zero =>
    unfold State.fillLanding
    exact h
  | succ n ih =>
    unfold State.fillLanding
    split
    · exact .ite h (.ite (.ite (.closeStripe (.placeEnv (.sp' (.rd' h)))) (ih (.placeEnv (.sp' (.rd' h))))) (.closeStripe h))
    · exact h

theorem Kept.openLanding {s₀ s : State} (h : Kept s₀ s) {hive lane : Nat} : Kept s₀ (s.openLanding hive lane) := by
  unfold State.openLanding
  refine .ite ?_ h
  split
  · dsimp only
    split
    · exact .of_eq ‹_› (.openStripeBut h)
    · exact .fillLanding (.sp' (.of_eq ‹_› (.openStripeBut h)))
  · dsimp only
    split
    · exact .of_eq ‹_› (.openStripeBut h)
    · exact .fillLanding (.sp' (.of_eq ‹_› (.openStripeBut h)))

theorem execStripeOpen_keeps (hive lane : Nat) (purpose : Purpose) (s : State) : Keeps s (execStripeOpen hive lane purpose s) := by
  have h := Kept.refl s
  unfold execStripeOpen
  refine .ok ?_
  split
  · exact .openLanding h
  · exact .ite (.openStripe h) h
  · exact .ite (.openStripe h) h
  · exact .ite (.openStripe h) h
  · exact .ite (.openMeta h) h
  · exact h
  · exact h
  · exact h
  · exact h

theorem execStripeCloseTimer_keeps (ord : Nat) (s : State) : Keeps s (execStripeCloseTimer ord s) := by
  have h := Kept.refl s
  unfold execStripeCloseTimer
  refine .ok ?_
  split
  · exact .ite (.closeStripe h) h
  · exact h

theorem execStripeProgramDone_keeps (ord : Nat) (s : State) : Keeps s (execStripeProgramDone ord s) := .ok (.commitStripe (.refl s))

theorem Kept.countProgFail {s₀ s : State} (h : Kept s₀ s) {link ord m : Nat} : Kept s₀ (s.countProgFail link ord m) :=
  .ite (.markFailed (.link' (.bump (.ev0 h)))) (.link' (.bump (.ev0 h)))

theorem Kept.freshUnit {s₀ s : State} (h : Kept s₀ s) {e : Member} {r : Region} {p : Purpose} : Kept s₀ (s.freshUnit e r p).1 := by
  unfold State.freshUnit
  split
  · exact h
  · split
    · dsimp only
      split
      · exact .pair (.of_eq ‹_› (.takeOn h))
      · exact .takeUnit h
    · dsimp only
      exact .takeUnit h

theorem execMemberProgramFail_keeps (ord member : Nat) (s : State) : Keeps s (execMemberProgramFail ord member s) := by
  have h := Kept.refl s
  unfold execMemberProgramFail
  refine .ok ?_
  split
  · exact h
  · split
    · refine .ite (.abandonStripe (.countProgFail (.grownFault h))) ?_
      split
      · exact .issuePrograms (.open' (.journal (.of_eq ‹_› (.freshUnit (.countProgFail (.grownFault h))))))
      · exact .abandonStripe (.of_eq ‹_› (.freshUnit (.countProgFail (.grownFault h))))
    · exact .abandonStripe (.countProgFail (.grownFault h))
    · exact h

theorem execCombMarkFailed_keeps (link : Nat) (s : State) : Keeps s (execCombMarkFailed link s) := .ok (.markFailed (.refl s))

theorem execRebuildStripe_keeps (hive : Nat) (s : State) : Keeps s (execRebuildStripe hive s) := by
  have h := Kept.refl s
  unfold execRebuildStripe
  refine .ok (.ite (.heed h) ?_)
  split
  · split
    · exact .rebuildStripe (.heed h)
    · exact .rebuildTurn (.heed h)
  · exact .retireStep (.heed h)

theorem execReplacementComb_keeps (link : Nat) (s : State) : Keeps s (execReplacementComb link s) := by
  have h := Kept.refl s
  unfold execReplacementComb
  refine .ok ?_
  split
  · exact h
  · exact .ite (.ev0 (.commit h)) h

theorem Kept.reshape' {s₀ s : State} (hk : Kept s₀ s) {h : Nat} {f : Reshape → Reshape} : Kept s₀ (s.reshape' h f) := .sp' hk

theorem Kept.reshapeCharge {s₀ s : State} (h : Kept s₀ s) {r : Reshape} {load : LinkLoad} {u : State} (hu : Kept s₀ u) :
    Kept s₀ (s.reshapeCharge r load u) :=
  .ite h (.reshape' hu)

theorem Kept.copyHoney {s₀ s : State} (hk : Kept s₀ s) {h : Nat} {p : Purpose} {es : List (EnvEntry × Place × Bytes)} :
    Kept s₀ (s.copyHoney h p es) := by
  unfold State.copyHoney
  refine .ite hk ?_
  split
  · dsimp only
    split
    · exact hk
    · exact .sealIfFull (.copyRow hk)
  · dsimp only
    split
    · exact .newRow hk
    · exact .sealIfFull (.copyRow (.newRow hk))

theorem Kept.reshapeOne {s₀ s0 : State} (h : Kept s₀ s0) {r : Reshape} {t : Stripe} : Kept s₀ (State.reshapeOne s0 r t) := by
  have hsound := h.loseUnsound (t := t)
  have hcharge {u : State} (hu : Kept s₀ u) := hu.reshape' (h := r.hive) (f := fun r => { r with
    converted := r.converted + 1, pendingOld := r.pendingOld ++ [t.ord], paused := false }) |>.hive' (h := r.hive) (f := fun x => { x with
      reshapeNeed := !x.brood }) |>.stat (cls := 0x0406) (idx := 0) (pos := 0) (n := 1)
  unfold State.reshapeOne
  refine .reshapeCharge h (hcharge (.ite hsound.metaRewrite (.ite ?_ hsound.copyHoney)))
  have hcopy := hsound.copySlc (hive := r.hive) (p := .reshape) (n := ((s0.loseUnsound t).liveEnvs t).length)
    (es := (s0.loseUnsound t).liveEnvs t)
  exact .ite hcopy hcopy.placeStripes

theorem Kept.reshapeCkpt {s₀ s : State} (h : Kept s₀ s) {r : Reshape} : Kept s₀ (s.reshapeCkpt r) :=
  .ite h (.releaseIf (.judgeJournal (.reshape' (.journal h))))

theorem Kept.reshapeAgain {s₀ s : State} (h : Kept s₀ s) {r : Reshape} : Kept s₀ (s.reshapeAgain r) := .ite h (.reshape' h)

theorem Kept.reshapeClose {s₀ s : State} (h : Kept s₀ s) {r : Reshape} : Kept s₀ (s.reshapeClose r) := by
  unfold State.reshapeClose
  split
  · split
    · exact .reshapeCharge h (.ite (.of_eq ‹_› (.rowStripe h)) (.sealRow h))
  · dsimp only
    split
    · exact .reshapeCkpt (.reshapeAgain h)
    · exact .reshapeAgain h

theorem Kept.reshapePause {s₀ s : State} (hk : Kept s₀ s) {h : Nat} : Kept s₀ (s.reshapePause h) := .ev0 (.hive' (.reshape' hk))

theorem Kept.reshapeEnd {s₀ s : State} (hk : Kept s₀ s) {h : Nat} : Kept s₀ (s.reshapeEnd h) :=
  .ite (.autoMode (.hive' (.ev0 (.sp' hk)))) (.hive' (.ev0 (.sp' hk)))

theorem execReshapeStripes_keeps (hive : Nat) (s : State) : Keeps s (execReshapeStripes hive s) := by
  have h := Kept.refl s
  unfold execReshapeStripes
  refine .ok ?_
  split
  · exact .heed h
  · refine .ite (.heed h) (.ite (.ite (.heed h) (.reshapePause (.heed h))) (.ite (.heed h) (.ite (.reshapeClose (.heed h)) ?_)))
    split
    · exact .reshapeOne (.heed h)
    · exact .ite (.reshapeClose (.heed h)) (.ite (.heed h) (.ite (.ite (.heed h) (.reshapeEnd (.journal (.heed h)))) (.reshapeEnd (.heed
        h))))

/-! ## The operations of Machine/Media -/

theorem Kept.closeRows {s₀ s : State} (hk : Kept s₀ s) {h : Nat} : Kept s₀ (s.closeRows h) := by
  unfold State.closeRows
  refine .foldl hk (fun _ _ h => ?_) _
  split
  · exact h
  · exact .sealRow (.fillRow h)

theorem Kept.checkFold {s₀ s : State} (h : Kept s₀ s) : Kept s₀ s.checkFold := .foldl h (fun _ _ h => .loseUnsound h) _

theorem Kept.foldRow {s₀ s : State} (hk : Kept s₀ s) {h : Nat} : Kept s₀ (s.foldRow h) := by
  unfold State.foldRow
  refine .ite (.hive' (.closeRows hk)) (.ite hk (.ite (.hive' (.closeRows (.checkFold hk))) ?_))
  split
  · dsimp only
    split
    · exact .checkFold hk
    · exact .ite (.hive' (.closeRows (.sealIfFull (.copyRow (.checkFold hk))))) (.sealIfFull (.copyRow (.checkFold hk)))
  · dsimp only
    split
    · exact .newRow (.checkFold hk)
    · exact .ite (.hive' (.closeRows (.sealIfFull (.copyRow (.newRow (.checkFold hk)))))) (.sealIfFull (.copyRow (.newRow (.checkFold
        hk))))

theorem execFoldRow_keeps (hive : Nat) (s : State) : Keeps s (execFoldRow hive s) := by
  have h := Kept.refl s
  unfold execFoldRow
  exact .ok (.ite (.foldRow (.foldl (.heed h) (fun _ _ h => .heed h) _)) (.foldl (.heed h) (fun _ _ h => .heed h) _))

theorem Kept.endReadBack {s₀ s : State} (h : Kept s₀ s) {r : FoldRow} {bad : List (Nat × Nat × Nat)} :
    Kept s₀ (s.endReadBack r bad) :=
  .dirtySets (.ite (.ite (.foldl (.foldl (.me' h) (fun _ _ h => .set' h) _) (fun _ _ h => .bump (.ev0 (.grownFault h))) _) (.placeStripes
    (.foldl (.foldl (.me' h) (fun _ _ h => .set' h) _) (fun _ _ h => .bump (.ev0 (.grownFault h))) _))) (.sp' (.dropStripes (.foldl (.ite
    (.foldl (.foldl (.me' h) (fun _ _ h => .set' h) _) (fun _ _ h => .bump (.ev0 (.grownFault h))) _) (.placeStripes (.foldl (.foldl (.me'
    h) (fun _ _ h => .set' h) _) (fun _ _ h => .bump (.ev0 (.grownFault h))) _))) (fun _ _ h => .stripe' h) _))))

theorem execReadBackDone_keeps (hive : Nat) (s : State) : Keeps s (execReadBackDone hive s) := by
  have h := Kept.refl s
  unfold execReadBackDone
  refine .ok ?_
  split
  · exact .ite (.endReadBack (.heed h)) (.heed h)
  · exact h

theorem execReadBackFail_keeps (hive : Nat) (s : State) : Keeps s (execReadBackFail hive s) := by
  have h := Kept.refl s
  unfold execReadBackFail
  refine .ok ?_
  split
  · exact .ite (.heed h) (.ite (.endReadBack (.afterDraw (.heed h))) (.endReadBack (.heed h)))
  · exact .heed h

theorem Kept.restStays {s₀ s : State} (h : Kept s₀ s) {t : Stripe} : Kept s₀ (s.restStays t) := .ite h (.stripe' h)

theorem Kept.collect {s₀ s : State} (h : Kept s₀ s) {t : Stripe} : Kept s₀ (s.collect t) := by
  unfold State.collect
  refine .ite (.walkStripe h) (.ite (.releaseEmpty (.walkStripe h)) (.ite (.metaRewrite (.walkStripe h)) (.ite (.releaseIf (.loseUnsound
    (.walkStripe h))) (.ite ?_ (.ite ?_ (.restStays (.copyHoney (.stripe' (.loseUnsound (.walkStripe h))))))))))
  · split
    · exact .restStays (.ite (.of_eq ‹_› (.copySlc (.stripe' (.loseUnsound (.walkStripe h))))) (.placeStripes (.of_eq ‹_› (.copySlc
        (.stripe' (.loseUnsound (.walkStripe h)))))))
  · split
    · exact .sealRow (.fillRow (.restStays (.copyHoney (.stripe' (.loseUnsound (.walkStripe h))))))
    · exact .restStays (.copyHoney (.stripe' (.loseUnsound (.walkStripe h))))

theorem execGcMove_keeps (ord : Nat) (s : State) : Keeps s (execGcMove ord s) := by
  have h := Kept.refl s
  unfold execGcMove
  refine .ok ?_
  split
  · exact h
  · exact .ite (.collect (.judgeGc (.heed h))) (.judgeGc (.heed h))

theorem Kept.wearUnit {s₀ s : State} (h : Kept s₀ s) {die block : Nat} {t : Stripe} {i : Nat} : Kept s₀ (s.wearUnit die block t i) := by
  unfold State.wearUnit
  refine .ite (.metaRewrite h) ?_
  split
  · split
    · exact h
    · refine .ite h (.ite (.scheduleRewrite (.programUnit (.set' (.heedPages h)))) ?_)
      split
      · exact .stat (.commitMembers (.of_eq ‹_› (.replaceUnits (.programUnit (.set' (.heedPages h))))))
      · exact .scheduleRewrite (.of_eq ‹_› (.replaceUnits (.programUnit (.set' (.heedPages h)))))
  · exact .scheduleRewrite (.heedPages h)

theorem Kept.wearSet {s₀ s : State} (h : Kept s₀ s) {l : Link} {b : BlockSet} : Kept s₀ (s.wearSet l b) := by
  unfold State.wearSet
  split
  · exact h
  · refine .setBlock (.foldl (.set' (.setBlock h)) (fun _ _ h => ?_) _)
    split
    · exact .wearUnit h
    · exact h

theorem execWearMove_keeps (link : Nat) (s : State) : Keeps s (execWearMove link s) := by
  have h := Kept.refl s
  unfold execWearMove
  refine .ok ?_
  split
  · exact .heed h
  · refine .ite (.heed h) ?_
    split
    · dsimp only
      split
      · exact .wearSet (.heed h)
      · exact .ev0 (.me' (.heed h))
    · dsimp only
      split
      · exact .wearSet (.ev0 (.me' (.heed h)))
      · exact .heed h

theorem execBlockEraseDone_keeps (link die block : Nat) (s : State) : Keeps s (execBlockEraseDone link die block s) := by
  have h := Kept.refl s
  unfold execBlockEraseDone
  refine .ok ?_
  split
  · exact .ite (.eraseEnds h) h
  · exact h

/-! ## The operations of Machine/Reduction -/

theorem execChunkIngest_keeps (ordinal : Nat) (s : State) : Keeps s (execChunkIngest ordinal s) := .ok (.ingest (.refl s))

theorem execPostProcess_keeps (chunk : Nat) (s : State) : Keeps s (execPostProcess chunk s) := .ok (.postProcess (.refl s))

theorem Kept.filterRebuild {s₀ s : State} (h : Kept s₀ s) : Kept s₀ s.filterRebuild := by
  unfold State.filterRebuild
  split
  · exact .ev0 (.rd' h)
  · exact .ite h (.beginFilter h)

theorem execFilterRebuild_keeps (s : State) : Keeps s (execFilterRebuild s) := .ok (.filterRebuild (.refl s))

theorem execMergeCommit_keeps (nsid k : Nat) (s : State) : Keeps s (execMergeCommit nsid k s) := .ok (.mergeCommit (.refl s))

theorem execEnvelopeRead_keeps (chunk : Nat) (s : State) : Keeps s (execEnvelopeRead chunk s) := .ok (.chunkBytes (.refl s))

/-! ## The operations of Machine/Shelf -/

theorem Bridge.cutPage_same (b : Bridge) (free : Nat) (p : NandPage) : SameComb b (b.cutPage free p) := by
  unfold Bridge.cutPage
  split <;> exact ⟨rfl, rfl, rfl, rfl, rfl, rfl⟩

theorem Bridge.cutTask_same (b : Bridge) (free : Nat → Nat) (die : Nat) (e : DieExec) : SameComb b (b.cutTask free die e) := by
  have hpages (g : NandPage → Nat) (l : List NandPage) : SameComb b (l.foldl (fun b p => b.cutPage (g p) p) b) :=
    List.foldlRecOn (motive := SameComb b) _ _ (.refl b) fun c hc p _ => hc.trans (c.cutPage_same _ p)
  unfold Bridge.cutTask
  split
  · exact hpages _ _
  · exact (hpages _ _).trans ⟨rfl, rfl, rfl, rfl, rfl, rfl⟩
  · split
    · exact .refl b
    · exact ⟨rfl, rfl, rfl, rfl, rfl, rfl⟩
  · exact .refl b

theorem Bridge.powerLost_same (b : Bridge) (free : Nat → Nat) : SameComb b (b.powerLost free) := by
  refine SameComb.trans (List.foldlRecOn (motive := SameComb b) _ _ (.refl b) fun c hc d _ => ?_) ⟨rfl, rfl, rfl, rfl, rfl, rfl⟩
  split
  · exact hc.trans (c.cutTask_same ..)
  · exact hc.trans (c.cutTask_same ..)
  · exact hc

theorem Kept.combsOff {s₀ s : State} (hk : Kept s₀ s) {h : Nat} : Kept s₀ (s.combsOff h) := by
  unfold State.combsOff
  refine .outer (hk.cl'_of (List.forall₂_map_right_iff.2 (List.forall₂_same.2 fun b _ => ?_)))
  split
  · exact b.powerLost_same _
  · exact .refl b

theorem Kept.shelf' {s₀ s : State} (hk : Kept s₀ s) {h : Nat} {f : Shelf → Shelf} : Kept s₀ (s.shelf' h f) := .hv' hk

theorem Kept.shelfAnswer {s₀ s : State} (hk : Kept s₀ s) {h : Nat} {src : Side} {seq : Nat} {f : Shelf → Shelf} :
    Kept s₀ (s.shelfAnswer h src seq f) := by
  unfold State.shelfAnswer
  split
  · exact hk
  · split
    · dsimp only
      split
      · exact .send hk
      · exact .send (.shelf' hk)
    · dsimp only
      split
      · exact .send hk
      · exact .send (.shelf' hk)

theorem execHcbStatus_keeps (hive : Nat) (src : Side) (seq : Nat) (s : State) : Keeps s (execHcbStatus hive src seq s) :=
  .ok (.shelfAnswer (.refl s))

theorem execHcbVote_keeps (hive : Nat) (src : Side) (seq : Nat) (up : Bool) (s : State) : Keeps s (execHcbVote hive src seq up s) :=
  .ok (.shelfAnswer (.refl s))

theorem execHcbVoteClear_keeps (hive : Nat) (src : Side) (seq : Nat) (side : Side) (s : State) :
    Keeps s (execHcbVoteClear hive src seq side s) :=
  .ok (.shelfAnswer (.refl s))

theorem execShelfInputFailure_keeps (hive : Nat) (s : State) : Keeps s (execShelfInputFailure hive s) := .ok (.shelf' (.refl s))

theorem execHoldupReserveSpent_keeps (hive : Nat) (s : State) : Keeps s (execHoldupReserveSpent hive s) := by
  have h := Kept.refl s
  unfold execHoldupReserveSpent
  refine .ok ?_
  split
  · exact h
  · exact .ite h (.combsOff (.shelf' h))

theorem execShelfInputReturn_keeps (hive : Nat) (s : State) : Keeps s (execShelfInputReturn hive s) := .ok (.shelf' (.refl s))

theorem execSlotsPowered_keeps (hive : Nat) (good : BitVec 16) (s : State) : Keeps s (execSlotsPowered hive good s) :=
  .ok (.shelf' (.refl s))

theorem execSlotsPowerRemoved_keeps (hive : Nat) (s : State) : Keeps s (execSlotsPowerRemoved hive s) := by
  have h := Kept.refl s
  unfold execSlotsPowerRemoved
  refine .ok ?_
  split
  · exact h
  · exact .ite (.combsOff (.shelf' h)) h

/-! ## The operations of Machine/Start -/

/-- The tallies stand at zero from a start on (R636). -/
theorem LedgerOk.zeroed {s t : State} (h : LedgerOk s) (ht : t.bt.tallies = zeroTallies := by rfl) (hl : t.bt.ledger = s.bt.ledger := by
  rfl)
    (hs : t.bt.ledgerSeq = s.bt.ledgerSeq := by rfl) : LedgerOk t := by
  obtain ⟨-, -, h⟩ := h
  refine ⟨ht ▸ rfl, ?_, ?_⟩
  · rw [ht]
    decide
  · rwa [hl, hs]

theorem Kept.bootStart {s₀ s : State} (h : Kept s₀ s) {plan : List StepPlan} : Kept s₀ (s.bootStart plan) := by
  have hstart : Kept s₀ (s.bt' fun b => { b with
      startNum := b.startNum + 1, tallies := zeroTallies, log := [], step := 1, executing := 0xFF, plan := plan, inService := false }) :=
    h.bt'_of (·.zeroed) le_rfl (Nat.le_succ _) le_rfl
  simp only [State.bootStart]
  exact .firstRecord (.cond (.cond (.bump (.md' (.pw' hstart.ledgerRec))) (fun _ h => h.bump) _) (fun _ h => h.bump) _)

theorem Kept.recover {s₀ s : State} (h : Kept s₀ s) : Kept s₀ s.recover :=
  .judgeStatus (.sbDrain (.bt' (.extend (.ev0 (.ite h (.ledgerRec h))))))

theorem Kept.serveErased {s₀ s : State} (h : Kept s₀ s) : Kept s₀ s.serveErased := by
  unfold State.serveErased
  exact .judgeStatus (.sbDrain (.bt' (.md' (.foldl h (fun _ _ h => .finishStep h) _))))

theorem Kept.replayAndJoin {s₀ s : State} (h : Kept s₀ s) : Kept s₀ s.replayAndJoin := by
  unfold State.replayAndJoin
  exact .ite (.bootStep (.pair (.admitHives (.setTick h))) (fun _ h => .pair (.replay h))) (.ite (.judgeStatus (.afterJoin (.ev0
    (.autoMode (.bt' (.skipStep (.sbDrain (.bootStep (.pair (.admitHives (.setTick h))) (fun _ h => .pair (.replay h))))))))))
    (.judgeStatus (.beginJoin (.sbDrain (.bootStep (.pair (.admitHives (.setTick h))) (fun _ h => .pair (.replay h)))))))

theorem Kept.noLock {s₀ s : State} (h : Kept s₀ s) : Kept s₀ s.noLock := .stepFails (.beginStep h)

theorem Kept.start {s₀ s : State} (h : Kept s₀ s) {plan : List StepPlan} : Kept s₀ (s.start plan) := by
  unfold State.start
  exact .ite (.fst_ite (.pair (.ite (.noLock (.bootStep (.bootStep (.bootStep (.bootStep (.pair (.bootStart h)) (fun _ h => h)) (fun _ h
    => .romStep h)) (fun _ h => .bankStep h)) (fun _ h => h))) (.bootStep (.bootStep (.bootStep (.bootStep (.pair (.bootStart h)) (fun _ h
    => h)) (fun _ h => .romStep h)) (fun _ h => .bankStep h)) (fun _ h => h)))) (.bootStep (.bootStep (.bootStep (.bootStep (.bootStep
    (.pair (.bootStart h)) (fun _ h => h)) (fun _ h => .romStep h)) (fun _ h => .bankStep h)) (fun _ h => h)) (fun _ h => h))) (.ite
    (.recover (.fst_ite (.pair (.ite (.noLock (.bootStep (.bootStep (.bootStep (.bootStep (.pair (.bootStart h)) (fun _ h => h)) (fun _ h
    => .romStep h)) (fun _ h => .bankStep h)) (fun _ h => h))) (.bootStep (.bootStep (.bootStep (.bootStep (.pair (.bootStart h)) (fun _ h
    => h)) (fun _ h => .romStep h)) (fun _ h => .bankStep h)) (fun _ h => h)))) (.bootStep (.bootStep (.bootStep (.bootStep (.bootStep
    (.pair (.bootStart h)) (fun _ h => h)) (fun _ h => .romStep h)) (fun _ h => .bankStep h)) (fun _ h => h)) (fun _ h => h)))) (.ite
    (.bootStep (.bootStep (.bootStep (.bootStep (.bootStep (.fst_ite (.pair (.ite (.noLock (.bootStep (.bootStep (.bootStep (.bootStep
    (.pair (.bootStart h)) (fun _ h => h)) (fun _ h => .romStep h)) (fun _ h => .bankStep h)) (fun _ h => h))) (.bootStep (.bootStep
    (.bootStep (.bootStep (.pair (.bootStart h)) (fun _ h => h)) (fun _ h => .romStep h)) (fun _ h => .bankStep h)) (fun _ h => h))))
    (.bootStep (.bootStep (.bootStep (.bootStep (.bootStep (.pair (.bootStart h)) (fun _ h => h)) (fun _ h => .romStep h)) (fun _ h =>
    .bankStep h)) (fun _ h => h)) (fun _ h => h))) (fun _ h => .dramStep h)) (fun _ h => .waxStep h)) (fun _ h => .mainStep h)) (fun _ h
    => .testStep h)) (fun _ h => .linkStep h)) (.ite (.serveErased (.bootStep (.bootStep (.bootStep (.bootStep (.bootStep (.fst_ite (.pair
    (.ite (.noLock (.bootStep (.bootStep (.bootStep (.bootStep (.pair (.bootStart h)) (fun _ h => h)) (fun _ h => .romStep h)) (fun _ h =>
    .bankStep h)) (fun _ h => h))) (.bootStep (.bootStep (.bootStep (.bootStep (.pair (.bootStart h)) (fun _ h => h)) (fun _ h => .romStep
    h)) (fun _ h => .bankStep h)) (fun _ h => h)))) (.bootStep (.bootStep (.bootStep (.bootStep (.bootStep (.pair (.bootStart h)) (fun _ h
    => h)) (fun _ h => .romStep h)) (fun _ h => .bankStep h)) (fun _ h => h)) (fun _ h => h))) (fun _ h => .dramStep h)) (fun _ h =>
    .waxStep h)) (fun _ h => .mainStep h)) (fun _ h => .testStep h)) (fun _ h => .linkStep h))) (.replayAndJoin (.bootStep (.bootStep
    (.bootStep (.bootStep (.bootStep (.fst_ite (.pair (.ite (.noLock (.bootStep (.bootStep (.bootStep (.bootStep (.pair (.bootStart h))
    (fun _ h => h)) (fun _ h => .romStep h)) (fun _ h => .bankStep h)) (fun _ h => h))) (.bootStep (.bootStep (.bootStep (.bootStep (.pair
    (.bootStart h)) (fun _ h => h)) (fun _ h => .romStep h)) (fun _ h => .bankStep h)) (fun _ h => h)))) (.bootStep (.bootStep (.bootStep
    (.bootStep (.bootStep (.pair (.bootStart h)) (fun _ h => h)) (fun _ h => .romStep h)) (fun _ h => .bankStep h)) (fun _ h => h)) (fun _
    h => h))) (fun _ h => .dramStep h)) (fun _ h => .waxStep h)) (fun _ h => .mainStep h)) (fun _ h => .testStep h)) (fun _ h => .linkStep
    h))))))

theorem execStart_keeps (plan : List StepPlan) (s : State) : Keeps s (execStart plan s) := .ok (.ite (.start (.refl s)) (.refl s))

theorem execOptionalStepLateRun_keeps (s : State) : Keeps s (execOptionalStepLateRun s) := by
  have h := Kept.refl s
  unfold execOptionalStepLateRun
  exact .ok (.ite h (.ite (.ite h (.ev0 (.finishStep (.bindPinned (.pr' (.pw' (.bt' (.beginStep h)))))))) (.ev0 (.bt' (.colonyStep (.ite h
    (.ev0 (.finishStep (.bindPinned (.pr' (.pw' (.bt' (.beginStep h)))))))))))))

theorem execCrystalLoss_keeps (s : State) : Keeps s (execCrystalLoss s) := .ok (.ite (.refl s) (.bt' (.pw' (.holdReset (.refl s)))))

theorem execReferenceClockStop_keeps (s : State) : Keeps s (execReferenceClockStop s) :=
  .ok (.ite (.refl s) (.pw' (.holdReset (.refl s))))

theorem Kept.powerLoss {s₀ s : State} (h : Kept s₀ s) {aon : Bool} : Kept s₀ (s.powerLoss aon) := by
  have hoff : Kept s₀ ((s.holdReset 0).pw' fun p => { p with suppliesOk := false, waxStopped := true }) := h.holdReset.pw'
  unfold State.powerLoss
  refine .ite ?_ hoff
  refine .bt'_of (.sb'_of (.ck' (.pw' (hoff.ct' ?_))) ?_) (·.zeroed) le_rfl le_rfl le_rfl
  · exact fun _ _ hc => nomatch hc
  · exact fun _ => SidebandPart.reset_inBits

theorem execSupplyFall_keeps (rail mv us : Nat) (s : State) : Keeps s (execSupplyFall rail mv us s) := by
  have h := Kept.refl s
  unfold execSupplyFall
  exact .ok (.ite h (.ite (.propolisAlarm h) (.ite h (.ite (.propolisAlarm h) (.ite (.powerLoss h) h)))))

theorem execPropolisAlarm_keeps (cause : BitVec 4) (s : State) : Keeps s (execPropolisAlarm cause s) :=
  .ok (.ite (.refl s) (.propolisAlarm (.refl s)))

theorem execAlarmClear_keeps (s : State) : Keeps s (execAlarmClear s) := by
  have h := Kept.refl s
  unfold execAlarmClear
  refine .ok (.ite h ?_)
  split
  · exact .pw' h
  · exact .ite h (.pw' h)

theorem execColonyKeyLagTimeout_keeps (s : State) : Keeps s (execColonyKeyLagTimeout s) := .ok (.ite (.ev0 (.co' (.refl s))) (.refl s))

theorem execMgNetworkFrame_keeps (frame : Bytes) (s : State) : Keeps s (execMgNetworkFrame frame s) := by
  have h := Kept.refl s
  unfold execMgNetworkFrame
  refine .ok (.ite h ?_)
  split
  · exact .send h
  · exact .vk' h

/-! ## The operations of Machine/Wax -/

theorem execWaxRecordConfirmed_keeps (ordinal : Nat) (s : State) : Keeps s (execWaxRecordConfirmed ordinal s) := by
  have h := Kept.refl s
  unfold execWaxRecordConfirmed
  exact .ok (.ite h (.ite (.issueErases (.settle (.wx' h))) (.wx' h)))

theorem Kept.writeCheckpoint {s₀ s : State} (h : Kept s₀ s) : Kept s₀ s.writeCheckpoint := .stat (.wx' (.commit (.wx' h)))

theorem execCheckpointDue_keeps (s : State) : Keeps s (execCheckpointDue s) :=
  .ok (.ite (.refl s) (.settle (.writeCheckpoint (.refl s))))

theorem execFlushMetadata_keeps (s : State) : Keeps s (execFlushMetadata s) := .ok (.ite (.refl s) (.settle (.flush (.refl s))))

end Sys2Proof.Machine

/-! PROOFS. The fence tasks, what every command keeps, and the invariants of a step. -/

namespace Sys2Proof.Machine

-- A default argument that is a tactic is run once the kernel is done with all before it: theorem by theorem, no thread waits for that.
set_option Elab.async false

/-! ## The fence tasks (R339, R341, R342) -/

theorem forall₂_comp_of {α β γ : Type} {R : α → β → Prop} {Q : β → γ → Prop} {P : α → γ → Prop} (h : ∀ a b c, R a b → Q b c → P a c) :
    ∀ {k : List α} {l : List β} {m : List γ}, List.Forall₂ R k l → List.Forall₂ Q l m → List.Forall₂ P k m
  | _, _, _, .nil, .nil => .nil
  | _, _, _, .cons hab hkl, .cons hbc hlm => .cons (h _ _ _ hab hbc) (forall₂_comp_of h hkl hlm)

/-- What the update of the first match gives is related to what stood, where that match is. -/
theorem forall₂_updFirst_of_find {α : Type} {R : α → α → Prop} {p : α → Bool} {f : α → α} (hrefl : ∀ a, R a a) : ∀ {l : List α},
    (∀ a, l.find? p = some a → R a (f a)) → List.Forall₂ R l (updFirst p f l)
  | [], _ => .nil
  | a :: l, h => by
    unfold updFirst
    split
    next ha => exact .cons (h a (List.find?_cons_of_pos ha)) (List.forall₂_same.2 fun b _ => hrefl b)
    next ha => exact .cons (hrefl a) (forall₂_updFirst_of_find hrefl fun b hb => h b (by rwa [List.find?_cons_of_neg ha]))

/-- A comb whose fence a task may have moved: where it wins, to an epoch and the task's head. -/
def Refenced (wins : Bridge → Bool) (epoch owner : Nat) (b d : Bridge) : Prop :=
  d.link = b.link ∧ d.hive = b.hive ∧ d.slot = b.slot ∧ d.serial = b.serial ∧
    ((d.epoch = b.epoch ∧ d.owner = b.owner) ∨ (wins b = true ∧ d.epoch = epoch ∧ d.owner = owner))

theorem SameComb.refenced {b d : Bridge} (h : SameComb b d) (wins : Bridge → Bool) (epoch owner : Nat) : Refenced wins epoch owner b d :=
  ⟨h.link, h.hive, h.slot, h.serial, .inl ⟨h.epoch, h.owner⟩⟩

/-- A fence task that wins judges the comb by its place and fence alone. -/
def JudgesFence (wins : Bridge → Bool) : Prop := ∀ b d, SameComb b d → wins d = wins b

theorem Refenced.of_same {wins : Bridge → Bool} {epoch owner : Nat} {a b c d : Bridge} (k : Refenced wins epoch owner b c)
    (hw : JudgesFence wins) (h : SameComb a b) (l : SameComb c d) : Refenced wins epoch owner a d := by
  obtain ⟨h1, h2, h3, h4, h5⟩ := k
  refine ⟨by rw [l.link, h1, h.link], by rw [l.hive, h2, h.hive], by rw [l.slot, h3, h.slot], by rw [l.serial, h4, h.serial], ?_⟩
  rw [l.epoch, l.owner, ← h.epoch, ← h.owner, ← hw a b h]
  exact h5

/-- A command that moves at most the fence of a comb that `wins`. -/
structure Fences (wins : Bridge → Bool) (epoch owner : Nat) (s t : State) : Prop extends KeptAtHead s t where
  combs : List.Forall₂ (Refenced wins epoch owner) s.cl.bridges t.cl.bridges

section Fencing
variable {wins : Bridge → Bool} {epoch owner : Nat}

theorem Kept.fences {s t : State} (h : Kept s t) : Fences wins epoch owner s t :=
  ⟨h.toKeptAtHead, h.combs.imp fun _ _ k => k.refenced wins epoch owner⟩

theorem Fences.kept_trans {s t u : State} (hw : JudgesFence wins) (h : Kept s t) (k : Fences wins epoch owner t u) :
    Fences wins epoch owner s u :=
  ⟨h.toKeptAtHead.trans k.toKeptAtHead, forall₂_comp_of (fun _ _ _ hab hbc => hbc.of_same hw hab (.refl _)) h.combs k.combs⟩

theorem Fences.trans_kept {s t u : State} (hw : JudgesFence wins) (h : Fences wins epoch owner s t) (k : Kept t u) :
    Fences wins epoch owner s u :=
  ⟨h.toKeptAtHead.trans k.toKeptAtHead, forall₂_comp_of (fun _ _ _ hab hbc => hab.of_same hw (.refl _) hbc) h.combs k.combs⟩

/-- A bridge update that moves a fence moves no more than the fence. -/
theorem Kept.bridge'_fences (s : State) {l : Nat} {f : Bridge → Bridge}
    (hf : ∀ b, s.bridge? l = some b → Refenced wins epoch owner b (f b)) : Fences wins epoch owner s (s.bridge' l f) :=
  ⟨⟨⟨id, id, fun _ => id, id, id, id, rfl, le_rfl⟩, id⟩, forall₂_updFirst_of_find (fun b => (SameComb.refl b).refenced ..) hf⟩

theorem fenceTask_fences (s : State) (hw : JudgesFence wins) (link : Nat) (port : Side) (h : TaskHdr) :
    Fences wins epoch h.head s (s.fenceTask link port h wins epoch) := by
  unfold State.fenceTask
  split
  · exact (Kept.refl s).fences
  next b hb =>
    split
    next hwin =>
      have hwins : wins b = true := by simp only [Bool.and_eq_true] at hwin; exact hwin.1.1
      refine .trans_kept hw (Kept.bridge'_fences s fun c hc => ?_) (Kept.refl _).bridgeDone
      obtain rfl := Option.some.inj (hb.symm.trans hc)
      exact ⟨rfl, rfl, rfl, rfl, .inr ⟨hwins, rfl, rfl⟩⟩
    · exact (Kept.refl s).bridgeDone.fences

/-- A frame at a bridge does at most what its act does, on a state kept so far. -/
theorem bridgeHears_fences {s : State} (hw : JudgesFence wins) {link : Nat} {port : Side} {f : LFrame} {act : State → State}
    (hact : ∀ t, Kept s t → Fences wins epoch owner s (act t)) : Fences wins epoch owner s (s.bridgeHears link port f act) := by
  have h := Kept.refl s
  unfold State.bridgeHears
  split
  · exact h.fences
  split
  · exact h.fences
  split
  · exact (h.bridge' (SameComb.port' · _ _)).bridgeNak.fences
  split
  · exact .trans_kept hw (hact _ (h.bridge' (SameComb.port' · _ _))) (Kept.refl _).bridgePump
  · exact hact _ h

theorem bridgeFrame_fences {s : State} (hw : JudgesFence wins) {link : Nat} {port : Side} {f : LFrame} {act : State → State}
    (hact : ∀ t, Fences wins epoch owner t (act t)) : Fences wins epoch owner s (s.bridgeFrame link port f act) := by
  refine bridgeHears_fences hw fun t ht => ?_
  split
  · exact ht.fences
  · dsimp only
    split
    · exact ht.fences
    split
    · exact .kept_trans hw ht.bridgeTook (hact _)
    split
    · exact ht.bridgeAck.fences
    · exact ht.bridgeNak.fences

/-- FENCE_RAISE wins where the comb stands at the epoch it names, below the greatest. -/
def raiseWins (f : LFrame) (b : Bridge) : Bool := b.epoch == f.arg.toNat && decide (b.epoch < 0xFFFFFFFF)

/-- FENCE_ADOPT wins where the comb has never been fenced. -/
def adoptWins (b : Bridge) : Bool := b.epoch == 0 && b.owner == 0xFFFF

theorem judgesFence_raiseWins (f : LFrame) : JudgesFence (raiseWins f) := fun b d hs => by simp only [raiseWins, hs.epoch]

theorem judgesFence_adoptWins : JudgesFence adoptWins := fun b d hs => by simp only [adoptWins, hs.epoch, hs.owner]

theorem execFenceRaise_fences {link : Nat} {port : Side} {f : LFrame} {s t : State} (h : execFenceRaise link port f s = .next t) :
    Fences (raiseWins f) (f.arg.toNat + 1) f.owner s t := by
  unfold execFenceRaise at h
  cases h
  split
  · exact bridgeFrame_fences (judgesFence_raiseWins f) fun t =>
      fenceTask_fences t (judgesFence_raiseWins f) link port (f.task .fenceRaise)
  · exact (Kept.refl s).fences

theorem execFenceAdopt_fences {link : Nat} {port : Side} {f : LFrame} {s t : State} (h : execFenceAdopt link port f s = .next t) :
    Fences adoptWins f.arg.toNat f.owner s t := by
  unfold execFenceAdopt at h
  cases h
  split
  · exact bridgeFrame_fences judgesFence_adoptWins fun t => fenceTask_fences t judgesFence_adoptWins link port (f.task .fenceAdopt)
  · exact (Kept.refl s).fences

end Fencing

/-! ## Every command -/

/-- What a command keeps: all, but for the fence that a fence task moves. -/
def KeepsButFence (c : Instr) (s t : State) : Prop :=
  match c with
  | .fenceRaise _ _ f => Fences (raiseWins f) (f.arg.toNat + 1) f.owner s t
  | .fenceAdopt _ _ f => Fences adoptWins f.arg.toNat f.owner s t
  | _ => Kept s t

theorem exec_keeps {c : Instr} {s u : State} (h : exec c s = .next u) : KeepsButFence c s u := by
  cases c with
  | sessionOpen q => exact execSessionOpen_keeps q s u h
  | sessionAuth q => exact execSessionAuth_keeps q s u h
  | sessionClose q => exact execSessionClose_keeps q s u h
  | sessionList q => exact execSessionList_keeps q s u h
  | sessionIdleExpiry handle => exact execSessionIdleExpiry_keeps handle s u h
  | cfgOpen q => exact execCfgOpen_keeps q s u h
  | cfgStage q => exact execCfgStage_keeps q s u h
  | cfgCheck q => exact execCfgCheck_keeps q s u h
  | cfgApply q => exact execCfgApply_keeps q s u h
  | cfgCancel q => exact execCfgCancel_keeps q s u h
  | cfgStatus q => exact execCfgStatus_keeps q s u h
  | cfgRead q => exact execCfgRead_keeps q s u h
  | modeGet q => exact execModeGet_keeps q s u h
  | frameIdleExpiry frame => exact execFrameIdleExpiry_keeps frame s u h
  | frameReadiness fromCoord frame tick items ok => exact execFrameReadiness_keeps fromCoord frame tick items ok s u h
  | frameReadinessDeadline frame => exact execFrameReadinessDeadline_keeps frame s u h
  | goRecordLateConfirm frame => exact execGoRecordLateConfirm_keeps frame s u h
  | wakeModeRecheck => exact execWakeModeRecheck_keeps s u h
  | domainCreate q => exact execDomainCreate_keeps q s u h
  | domainDelete q => exact execDomainDelete_keeps q s u h
  | domainList q => exact execDomainList_keeps q s u h
  | nsCreate q => exact execNsCreate_keeps q s u h
  | nsDelete q => exact execNsDelete_keeps q s u h
  | nsResize q => exact execNsResize_keeps q s u h
  | nsList q => exact execNsList_keeps q s u h
  | snapCreate q => exact execSnapCreate_keeps q s u h
  | snapDelete q => exact execSnapDelete_keeps q s u h
  | snapClone q => exact execSnapClone_keeps q s u h
  | hiveStatus q => exact execHiveStatus_keeps q s u h
  | hiveWake q => exact execHiveWake_keeps q s u h
  | hiveDark q => exact execHiveDark_keeps q s u h
  | superAttach q => exact execSuperAttach_keeps q s u h
  | combRetire q => exact execCombRetire_keeps q s u h
  | stripeAcceptLoss q => exact execStripeAcceptLoss_keeps q s u h
  | mediaStats q => exact execMediaStats_keeps q s u h
  | pairStatus q => exact execPairStatus_keeps q s u h
  | rebalance q => exact execRebalance_keeps q s u h
  | pathDrill q => exact execPathDrill_keeps q s u h
  | pathDrillAckTimeout => exact execPathDrillAckTimeout_keeps s u h
  | mirrorDiscard q => exact execMirrorDiscard_keeps q s u h
  | pairElect q => exact execPairElect_keeps q s u h
  | colonyStatus q => exact execColonyStatus_keeps q s u h
  | colonyJoin q => exact execColonyJoin_keeps q s u h
  | colonyJoinTimeout => exact execColonyJoinTimeout_keeps s u h
  | colonyLeave q => exact execColonyLeave_keeps q s u h
  | queenAssign q => exact execQueenAssign_keeps q s u h
  | tokenStatus q => exact execTokenStatus_keeps q s u h
  | catalogueRead q => exact execCatalogueRead_keeps q s u h
  | rgCreate q => exact execRgCreate_keeps q s u h
  | rgDelete q => exact execRgDelete_keeps q s u h
  | rgStatus q => exact execRgStatus_keeps q s u h
  | rgPause q => exact execRgPause_keeps q s u h
  | rgResume q => exact execRgResume_keeps q s u h
  | snapShip q => exact execSnapShip_keeps q s u h
  | ownerEnroll q => exact execOwnerEnroll_keeps q s u h
  | keyProvision q => exact execKeyProvision_keeps q s u h
  | keyEscrowExport q => exact execKeyEscrowExport_keeps q s u h
  | keyRestore q => exact execKeyRestore_keeps q s u h
  | keyRotate q => exact execKeyRotate_keeps q s u h
  | keyErase q => exact execKeyErase_keeps q s u h
  | keyStatus q => exact execKeyStatus_keeps q s u h
  | evtRead q => exact execEvtRead_keeps q s u h
  | evtSubscribe q => exact execEvtSubscribe_keeps q s u h
  | ctrRead q => exact execCtrRead_keeps q s u h
  | ctrClear q => exact execCtrClear_keeps q s u h
  | attest q => exact execAttest_keeps q s u h
  | ledgerRead q => exact execLedgerRead_keeps q s u h
  | updBegin q => exact execUpdBegin_keeps q s u h
  | updBlock q => exact execUpdBlock_keeps q s u h
  | updVerify q => exact execUpdVerify_keeps q s u h
  | updActivate q => exact execUpdActivate_keeps q s u h
  | updConfirm q => exact execUpdConfirm_keeps q s u h
  | updAbort q => exact execUpdAbort_keeps q s u h
  | updLock q => exact execUpdLock_keeps q s u h
  | updateStagingRoom bytes => exact execUpdateStagingRoom_keeps bytes s u h
  | trialWindowEnd => exact execTrialWindowEnd_keeps s u h
  | restart q => exact execRestart_keeps q s u h
  | diagDieRead q => exact execDiagDieRead_keeps q s u h
  | diagLinkLoop q => exact execDiagLinkLoop_keeps q s u h
  | diagSelftest q => exact execDiagSelftest_keeps q s u h
  | diagDump q => exact execDiagDump_keeps q s u h
  | virkanReplyExpiry via session tag => exact execVirkanReplyExpiry_keeps via session tag s u h
  | confirmCodeExpiry handle => exact execConfirmCodeExpiry_keeps handle s u h
  | adminC0hSubmit e => exact execAdminC0hSubmit_keeps e s u h
  | adminC1hFetch e => exact execAdminC1hFetch_keeps e s u h
  | mgVirkanPacket conn bytes => exact execMgVirkanPacket_keeps conn bytes s u h
  | attestationServiceRequest conn bytes => exact execAttestationServiceRequest_keeps conn bytes s u h
  | sbReqData word => exact execSbReqData_keeps word s u h
  | sbReqCap word => exact execSbReqCap_keeps word s u h
  | sbRspData => exact execSbRspData_keeps s u h
  | sbRtcLo => exact execSbRtcLo_keeps s u h
  | sbSentinelReset word => exact execSbSentinelReset_keeps word s u h
  | sentinelResetArmExpiry => exact execSentinelResetArmExpiry_keeps s u h
  | sbWake word => exact execSbWake_keeps word s u h
  | sbPadRelease word => exact execSbPadRelease_keeps word s u h
  | sbIntStatus word => exact execSbIntStatus_keeps word s u h
  | sbMbxError word => exact execSbMbxError_keeps word s u h
  | sbRegisterWrite off word => exact execSbRegisterWrite_keeps off word s u h
  | entdaa addr => exact execEntdaa_keeps addr s u h
  | setdasa addr => exact execSetdasa_keeps addr s u h
  | rstdaa => exact execRstdaa_keeps s u h
  | setnewda addr => exact execSetnewda_keeps addr s u h
  | enec bits => exact execEnec_keeps bits s u h
  | disec bits => exact execDisec_keeps bits s u h
  | getpid => exact execGetpid_keeps s u h
  | getbcr => exact execGetbcr_keeps s u h
  | getdcr => exact execGetdcr_keeps s u h
  | getstatus => exact execGetstatus_keeps s u h
  | setmwl len => exact execSetmwl_keeps len s u h
  | setmrl len => exact execSetmrl_keeps len s u h
  | getmwl => exact execGetmwl_keeps s u h
  | getmrl => exact execGetmrl_keeps s u h
  | tcpConnectionRequest svc fpair => exact execTcpConnectionRequest_keeps svc fpair s u h
  | icreq conn pfv hpda hdgst ddgst maxR2t => exact execIcreq_keeps conn pfv hpda hdgst ddgst maxR2t s u h
  | fatalTransportError conn fes => exact execFatalTransportError_keeps conn fes s u h
  | h2cdata conn cid off data digestOk => exact execH2cdata_keeps conn cid off data digestOk s u h
  | connect c => exact execConnect_keeps c s u h
  | keepAlive e => exact execKeepAlive_keeps e s u h
  | keepAliveTimeout ctrl => exact execKeepAliveTimeout_keeps ctrl s u h
  | identify e => exact execIdentify_keeps e s u h
  | getLogPage e => exact execGetLogPage_keeps e s u h
  | setFeatures e => exact execSetFeatures_keeps e s u h
  | getFeatures e => exact execGetFeatures_keeps e s u h
  | asynchronousEventRequest e => exact execAsynchronousEventRequest_keeps e s u h
  | abort e => exact execAbort_keeps e s u h
  | directiveSend e => exact execDirectiveSend_keeps e s u h
  | directiveReceive e => exact execDirectiveReceive_keeps e s u h
  | nvmeRead e => exact execNvmeRead_keeps e s u h
  | nvmeWrite e => exact execNvmeWrite_keeps e s u h
  | flush e => exact execFlush_keeps e s u h
  | writeZeroes e => exact execWriteZeroes_keeps e s u h
  | datasetManagement e => exact execDatasetManagement_keeps e s u h
  | acceptanceResume ctrl qid cid => exact execAcceptanceResume_keeps ctrl qid cid s u h
  | locPut e => exact execLocPut_keeps e s u h
  | locPutPart e => exact execLocPutPart_keeps e s u h
  | locGet e => exact execLocGet_keeps e s u h
  | locStat e => exact execLocStat_keeps e s u h
  | locRefresh e => exact execLocRefresh_keeps e s u h
  | locRelease e => exact execLocRelease_keeps e s u h
  | locSeal e => exact execLocSeal_keeps e s u h
  | objectCreateCommit key => exact execObjectCreateCommit_keeps key s u h
  | tokenHorizonExpiry domain token => exact execTokenHorizonExpiry_keeps domain token s u h
  | openObjectExpiry key => exact execOpenObjectExpiry_keeps key s u h
  | releasedObjectExpiry key => exact execReleasedObjectExpiry_keeps key s u h
  | ledgerEntryExpiry domain old => exact execLedgerEntryExpiry_keeps domain old s u h
  | manifestReleaseWalk domain chunk => exact execManifestReleaseWalk_keeps domain chunk s u h
  | chunkIngest ordinal => exact execChunkIngest_keeps ordinal s u h
  | postProcess chunk => exact execPostProcess_keeps chunk s u h
  | filterRebuild => exact execFilterRebuild_keeps s u h
  | compareSelftestRetry => exact execCompareSelftestRetry_keeps s u h
  | mergeCommit nsid k => exact execMergeCommit_keeps nsid k s u h
  | envelopeRead chunk => exact execEnvelopeRead_keeps chunk s u h
  | cmpGoCompare => exact execCmpGoCompare_keeps s u h
  | cmpGoSelfTest => exact execCmpGoSelfTest_keeps s u h
  | compareDone refFault => exact execCompareDone_keeps refFault s u h
  | selfTestDone pass => exact execSelfTestDone_keeps pass s u h
  | cmpResult => exact execCmpResult_keeps s u h
  | digestRegisterWrite off word => exact execDigestRegisterWrite_keeps off word s u h
  | sealRequest r => exact execSealRequest_keeps r s u h
  | sealMessageDone id => exact execSealMessageDone_keeps id s u h
  | sealUrgent id => exact execSealUrgent_keeps id s u h
  | domainKeyFetch domain => exact execDomainKeyFetch_keeps domain s u h
  | waxRecordConfirmed ordinal => exact execWaxRecordConfirmed_keeps ordinal s u h
  | checkpointDue => exact execCheckpointDue_keeps s u h
  | flushMetadata => exact execFlushMetadata_keeps s u h
  | dramScrub => exact execDramScrub_keeps s u h
  | dramUncorrectable channel addr => exact execDramUncorrectable_keeps channel addr s u h
  | mapCacheAccess write addr data => exact execMapCacheAccess_keeps write addr data s u h
  | zeroLine addr => exact execZeroLine_keeps addr s u h
  | stripeOpen hive lane purpose => exact execStripeOpen_keeps hive lane purpose s u h
  | stripeCloseTimer ord => exact execStripeCloseTimer_keeps ord s u h
  | stripeProgramDone ord => exact execStripeProgramDone_keeps ord s u h
  | memberProgramFail ord member => exact execMemberProgramFail_keeps ord member s u h
  | memberReadTimeout ord member => exact execMemberReadTimeout_keeps ord member s u h
  | combMarkFailed link => exact execCombMarkFailed_keeps link s u h
  | rebuildStripe hive => exact execRebuildStripe_keeps hive s u h
  | replacementComb link => exact execReplacementComb_keeps link s u h
  | reshapeStripes hive => exact execReshapeStripes_keeps hive s u h
  | foldRow hive => exact execFoldRow_keeps hive s u h
  | readBackDone hive => exact execReadBackDone_keeps hive s u h
  | readBackFail hive => exact execReadBackFail_keeps hive s u h
  | gcMove ord => exact execGcMove_keeps ord s u h
  | wearMove link => exact execWearMove_keeps link s u h
  | blockEraseDone link die block => exact execBlockEraseDone_keeps link die block s u h
  | taskRead link port f => exact execTaskRead_keeps link port f s u h
  | taskSeqRead link port f => exact execTaskSeqRead_keeps link port f s u h
  | taskProgramSlc link port f => exact execTaskProgramSlc_keeps link port f s u h
  | taskProgramQlc link port f => exact execTaskProgramQlc_keeps link port f s u h
  | taskErase link port f => exact execTaskErase_keeps link port f s u h
  | eraseSuspend link port f => exact execEraseSuspend_keeps link port f s u h
  | eraseResume link port f => exact execEraseResume_keeps link port f s u h
  | eraseAutoResume link die => exact execEraseAutoResume_keeps link die s u h
  | fenceRaise link port f => exact execFenceRaise_fences h
  | fenceAdopt link port f => exact execFenceAdopt_fences h
  | dieTaskDone link die ok => exact execDieTaskDone_keeps link die ok s u h
  | favouredPortExpiry link die => exact execFavouredPortExpiry_keeps link die s u h
  | regRead link port f count => exact execRegRead_keeps link port f count s u h
  | regData link f vals => exact execRegData_keeps link f vals s u h
  | dataFrame link atHead port f => exact execDataFrame_keeps link atHead port f s u h
  | pageEnd link atHead port f => exact execPageEnd_keeps link atHead port f s u h
  | doneFrame link f => exact execDoneFrame_keeps link f s u h
  | bridgeEvent link f => exact execBridgeEvent_keeps link f s u h
  | hello link atHead port f => exact execHello_keeps link atHead port f s u h
  | linkAck link atHead port f => exact execLinkAck_keeps link atHead port f s u h
  | linkNak link atHead port f => exact execLinkNak_keeps link atHead port f s u h
  | linkResendTimer link => exact execLinkResendTimer_keeps link s u h
  | blockLockLost link => exact execBlockLockLost_keeps link s u h
  | retrain link peerNext => exact execRetrain_keeps link peerNext s u h
  | combLinkBringUp link ok => exact execCombLinkBringUp_keeps link ok s u h
  | linkRetryTimer link => exact execLinkRetryTimer_keeps link s u h
  | linkDownTimeout link => exact execLinkDownTimeout_keeps link s u h
  | taskDeadline link tag => exact execTaskDeadline_keeps link tag s u h
  | bridgePowerUp link => exact execBridgePowerUp_keeps link s u h
  | hcbStatus hive src seq => exact execHcbStatus_keeps hive src seq s u h
  | hcbVote hive src seq up => exact execHcbVote_keeps hive src seq up s u h
  | hcbVoteClear hive src seq side => exact execHcbVoteClear_keeps hive src seq side s u h
  | hcbReply hive seq status b => exact execHcbReply_keeps hive seq status b s u h
  | hcbPoll bus => exact execHcbPoll_keeps bus s u h
  | hcbRequestRetry bus seq => exact execHcbRequestRetry_keeps bus seq s u h
  | shelfSilentTimeout hive => exact execShelfSilentTimeout_keeps hive s u h
  | wakeTimeout hive => exact execWakeTimeout_keeps hive s u h
  | wakeRetry hive => exact execWakeRetry_keeps hive s u h
  | hiveIdleDarkExpiry hive => exact execHiveIdleDarkExpiry_keeps hive s u h
  | darkPoint hive => exact execDarkPoint_keeps hive s u h
  | gatherWakeTrigger hive => exact execGatherWakeTrigger_keeps hive s u h
  | gatherDeadline ctrl qid cid => exact execGatherDeadline_keeps ctrl qid cid s u h
  | tokenRenewal hive => exact execTokenRenewal_keeps hive s u h
  | tokenRequestRetry hive => exact execTokenRequestRetry_keeps hive s u h
  | workerTokenExpiry hive => exact execWorkerTokenExpiry_keeps hive s u h
  | queenAutonomyEnd => exact execQueenAutonomyEnd_keeps s u h
  | join ep apiary serial headA headB addrs => exact execJoin_keeps ep apiary serial headA headB addrs s u h
  | joinReply accepted cause epoch items => exact execJoinReply_keeps accepted cause epoch items s u h
  | leave ep apiary => exact execLeave_keeps ep apiary s u h
  | contact src epoch settingsGen gateOpen => exact execContact_keeps src epoch settingsGen gateOpen s u h
  | contactSend => exact execContactSend_keeps s u h
  | queenUnreachable => exact execQueenUnreachable_keeps s u h
  | report ep r => exact execReport_keeps ep r s u h
  | tokenRequest ep apiary head hive prio num => exact execTokenRequest_keeps ep apiary head hive prio num s u h
  | heldTokenRequestTimeout apiary num => exact execHeldTokenRequestTimeout_keeps apiary num s u h
  | tokenGrant ep t autonomy => exact execTokenGrant_keeps ep t autonomy s u h
  | tokenRefuse ep num cause => exact execTokenRefuse_keeps ep num cause s u h
  | tokenRecall ep id => exact execTokenRecall_keeps ep id s u h
  | colonyDormant ep id => exact execColonyDormant_keeps ep id s u h
  | queenTokenExpiry id => exact execQueenTokenExpiry_keeps id s u h
  | colonySettings ep gen items keyGen => exact execColonySettings_keeps ep gen items keyGen s u h
  | arbitrate ep head shownRight => exact execArbitrate_keeps ep head shownRight s u h
  | updateState ep head version pend fallback => exact execUpdateState_keeps ep head version pend fallback s u h
  | rolloutWaveOpen => exact execRolloutWaveOpen_keeps s u h
  | forageWrite p carried journal => exact execForageWrite_keeps p carried journal s u h
  | writeImm p => exact execWriteImm_keeps p s u h
  | readReq p => exact execReadReq_keeps p s u h
  | readResp p => exact execReadResp_keeps p s u h
  | forageAck p ctx id rx map echo => exact execForageAck_keeps p ctx id rx map echo s u h
  | forageNak p ctx id code off map => exact execForageNak_keeps p ctx id code off map s u h
  | sendQueuePost ctx es => exact execSendQueuePost_keeps ctx es s u h
  | retransmissionTimeout ctx => exact execRetransmissionTimeout_keeps ctx s u h
  | messageGiveUp ctx => exact execMessageGiveUp_keeps ctx s u h
  | connectionBreak ctx => exact execConnectionBreak_keeps ctx s u h
  | rnrBackoffExpiry ctx => exact execRnrBackoffExpiry_keeps ctx s u h
  | recentIdAging => exact execRecentIdAging_keeps s u h
  | contextFetchDone ctx => exact execContextFetchDone_keeps ctx s u h
  | contextFail ctx => exact execContextFail_keeps ctx s u h
  | pathIdleFree path => exact execPathIdleFree_keeps path s u h
  | setup src group source mode domains salts => exact execSetup_keeps src group source mode domains salts s u h
  | setupReply group accepted cause => exact execSetupReply_keeps group accepted cause s u h
  | positionQuery src group => exact execPositionQuery_keeps src group s u h
  | position group seq ordinal => exact execPosition_keeps group seq ordinal s u h
  | positionQueryTimeout group => exact execPositionQueryTimeout_keeps group s u h
  | offer src group batch fps => exact execOffer_keeps src group batch fps s u h
  | need group batch bits => exact execNeed_keeps group batch bits s u h
  | chunk src group domain chunk gen clen body => exact execChunk_keeps src group domain chunk gen clen body s u h
  | batch src group first last base final es => exact execBatch_keeps src group first last base final es s u h
  | applied group seq => exact execApplied_keeps group seq s u h
  | batchClose group => exact execBatchClose_keeps group s u h
  | groupLapse group => exact execGroupLapse_keeps group s u h
  | repairAsk src domain fp len => exact execRepairAsk_keeps src domain fp len s u h
  | repairData domain chunk gen clen body => exact execRepairData_keeps domain chunk gen clen body s u h
  | repairNone domain fp => exact execRepairNone_keeps domain fp s u h
  | repairTimeout domain chunk => exact execRepairTimeout_keeps domain chunk s u h
  | commitTick => exact execCommitTick_keeps s u h
  | waggle m => exact execWaggle_keeps m s u h
  | leaseEnd => exact execLeaseEnd_keeps s u h
  | tickDigest m => exact execTickDigest_keeps m s u h
  | selfCheck selfTestOk => exact execSelfCheck_keeps selfTestOk s u h
  | selfCheckReport right => exact execSelfCheckReport_keeps right s u h
  | selfCheckReportTimeout => exact execSelfCheckReportTimeout_keeps s u h
  | peerIsolationYield => exact execPeerIsolationYield_keeps s u h
  | takeoverFenceWait => exact execTakeoverFenceWait_keeps s u h
  | arbiterFenceResult link won => exact execArbiterFenceResult_keeps link won s u h
  | arbiterRetry => exact execArbiterRetry_keeps s u h
  | fenceAllRaised => exact execFenceAllRaised_keeps s u h
  | takeoverReplayEnd => exact execTakeoverReplayEnd_keeps s u h
  | pairJoinTimeout => exact execPairJoinTimeout_keeps s u h
  | pairJoin peer r => exact execPairJoin_keeps peer r s u h
  | rejoinCopyComplete => exact execRejoinCopyComplete_keeps s u h
  | rebalancePhaseEnd => exact execRebalancePhaseEnd_keeps s u h
  | rebalanceHoldTimeout => exact execRebalanceHoldTimeout_keeps s u h
  | fabricPortFail pair => exact execFabricPortFail_keeps pair s u h
  | standbyEligible pair => exact execStandbyEligible_keeps pair s u h
  | peerLinkDown link => exact execPeerLinkDown_keeps link s u h
  | peerLinkUp link => exact execPeerLinkUp_keeps link s u h
  | ptpMessage kind src offset => exact execPtpMessage_keeps kind src offset s u h
  | alignmentTimeout => exact execAlignmentTimeout_keeps s u h
  | rtcDiscipline => exact execRtcDiscipline_keeps s u h
  | holdEntry => exact execHoldEntry_keeps s u h
  | holdWake => exact execHoldWake_keeps s u h
  | watchEntry => exact execWatchEntry_keeps s u h
  | watchSample tj holdup => exact execWatchSample_keeps tj holdup s u h
  | watchWake imprintOk => exact execWatchWake_keeps imprintOk s u h
  | wakeN us => exact execWakeN_keeps us s u h
  | watchdogKick => exact execWatchdogKick_keeps s u h
  | watchdogExpiry => exact execWatchdogExpiry_keeps s u h
  | chipResetN ns => exact execChipResetN_keeps ns s u h
  | powerOnResetRelease => exact execPowerOnResetRelease_keeps s u h
  | start plan => exact execStart_keeps plan s u h
  | optionalStepLateRun => exact execOptionalStepLateRun_keeps s u h
  | crystalLoss => exact execCrystalLoss_keeps s u h
  | supplyFall rail mv us => exact execSupplyFall_keeps rail mv us s u h
  | propolisAlarm cause => exact execPropolisAlarm_keeps cause s u h
  | alarmClear => exact execAlarmClear_keeps s u h
  | eventReport r => exact execEventReport_keeps r s u h
  | eventWrite => exact execEventWrite_keeps s u h
  | bucketWindowClose code => exact execBucketWindowClose_keeps code s u h
  | bucketRefill code => exact execBucketRefill_keeps code s u h
  | dropSummaryTimer => exact execDropSummaryTimer_keeps s u h
  | eventNoticeSend handle => exact execEventNoticeSend_keeps handle s u h
  | shelfInputFailure hive => exact execShelfInputFailure_keeps hive s u h
  | holdupReserveSpent hive => exact execHoldupReserveSpent_keeps hive s u h
  | shelfInputReturn hive => exact execShelfInputReturn_keeps hive s u h
  | slotsPowered hive good => exact execSlotsPowered_keeps hive good s u h
  | slotsPowerRemoved hive => exact execSlotsPowerRemoved_keeps hive s u h
  | bridgeHealthChange link code die detail => exact execBridgeHealthChange_keeps link code die detail s u h
  | retrainTimeout link => exact execRetrainTimeout_keeps link s u h
  | tcpConnectionEnd conn => exact execTcpConnectionEnd_keeps conn s u h
  | unsupportedCommand e => exact execUnsupportedCommand_keeps e s u h
  | mgNetworkFrame frame => exact execMgNetworkFrame_keeps frame s u h
  | treeDropCascade => exact execTreeDropCascade_keeps s u h
  | locStatPatienceExpiry ctrl qid cid => exact execLocStatPatienceExpiry_keeps ctrl qid cid s u h
  | frameStatusExpiry frame => exact execFrameStatusExpiry_keeps frame s u h
  | referenceClockStop => exact execReferenceClockStop_keeps s u h
  | tcpRetransmissionTimeout conn => exact execTcpRetransmissionTimeout_keeps conn s u h
  | colonyKeyLagTimeout => exact execColonyKeyLagTimeout_keeps s u h

theorem KeepsButFence.atHead {c : Instr} {s t : State} (h : KeepsButFence c s t) : KeptAtHead s t := by
  unfold KeepsButFence at h
  split at h
  · exact h.toKeptAtHead
  · exact h.toKeptAtHead
  · exact h.toKeptAtHead

theorem exec_keptAtHead {c : Instr} {s t : State} (h : exec c s = .next t) : KeptAtHead s t := (exec_keeps h).atHead

theorem step_keptAtHead {s t : State} (h : step s = .next t) : KeptAtHead s t := by
  unfold step at h
  split at h
  · cases h
    exact (Kept.refl s).toKeptAtHead
  · exact (Kept.refl s).outer.toKeptAtHead.trans (exec_keptAtHead h)

/-! ## The invariants -/

/-- Settles O41: every command keeps `MemInv` and `CacheOk`. -/
theorem dramAndMapCacheAgree : Obligations.DramAndMapCacheAgree :=
  ⟨fun _ _ hs h => (step_keptAtHead h).memory hs, fun _ _ hs h => (step_keptAtHead h).cache hs⟩

/-- Settles O42: every command keeps `SessionsOk`. -/
theorem sessionsStayWithinLimits : Obligations.SessionsStayWithinLimits := fun _ _ hs h => (step_keptAtHead h).sessions hs

/-- Settles O43: every command keeps `RecorderAt 0`, `LedgerOk` and `CountersOk`. -/
theorem recordsStayInForm : Obligations.RecordsStayInForm :=
  ⟨fun s t hs h => (recorderAt_zero t).1 ((step_keptAtHead h).recorder 0 ((recorderAt_zero s).2 hs)),
    fun _ _ hs h => (step_keptAtHead h).ledger hs, fun _ _ hs h => (step_keptAtHead h).counters hs⟩

/-- Settles O44: every command keeps `RegsOk`. -/
theorem registersKeepReservedBits : Obligations.RegistersKeepReservedBits := fun _ _ hs h => (step_keptAtHead h).regs hs

/-- Settles O45: a bridge's fence moves in the fence tasks alone, and there in the comb that wins. -/
theorem fenceEpochsMoveOnlyByFenceTasks : Obligations.FenceEpochsMoveOnlyByFenceTasks := by
  intro c s t h
  have hk := exec_keeps h
  unfold KeepsButFence at hk
  split at hk
  next n p f =>
    refine hk.combs.imp fun b d hbd => ?_
    obtain ⟨h1, h2, h3, h4, h5 | ⟨hw, he, ho⟩⟩ := hbd
    · exact ⟨h1, h2, h3, h4, .inl h5⟩
    · simp only [raiseWins, Bool.and_eq_true, beq_iff_eq] at hw
      exact ⟨h1, h2, h3, h4, .inr (.inl ⟨n, p, f, rfl, hw.1, hw.1 ▸ he, ho⟩)⟩
  next n p f =>
    refine hk.combs.imp fun b d hbd => ?_
    obtain ⟨h1, h2, h3, h4, h5 | ⟨hw, he, ho⟩⟩ := hbd
    · exact ⟨h1, h2, h3, h4, .inl h5⟩
    · simp only [adoptWins, Bool.and_eq_true, beq_iff_eq] at hw
      exact ⟨h1, h2, h3, h4, .inr (.inr ⟨n, p, f, rfl, hw.1, hw.2, he, ho⟩)⟩
  · exact hk.combs.imp fun b d hbd => ⟨hbd.link, hbd.hive, hbd.slot, hbd.serial, .inl ⟨hbd.epoch, hbd.owner⟩⟩

/-- Settles O46: `State.device` stays and `State.numbers` rise. -/
theorem identityStaysAndNumbersRise : Obligations.IdentityStaysAndNumbersRise := by
  intro c s t h
  have hk := exec_keptAtHead h
  have hdev := hk.device
  simp only [State.device, Prod.mk.injEq] at hdev
  obtain ⟨h1, h2, h3, h4, h5, h6, h7, h8⟩ := hdev
  obtain ⟨n1, n2, n3, n4, n5, n6⟩ := hk.numbers
  exact ⟨h1, h2, h3, h4, h5, h6, h7, h8, n1, n2, n3, n4, n5, n6⟩

end Sys2Proof.Machine

/-! PROOFS. Every command has a next state, but an access of the map window where no DRAM is installed. -/

namespace Sys2Proof.Machine

/-- The address that a command of the map window names. -/
def windowAddress : Instr → Option Nat
  | .mapCacheAccess _ a _ => some a
  | .zeroLine a => some a
  | _ => none

/-- A command that is not of the map window answers `ok`, whatever it does. -/
theorem exec_completes {c : Instr} (hc : windowAddress c = none) (s : State) : ∃ t, exec c s = .next t := by
  cases c with
  | mapCacheAccess => cases hc
  | zeroLine => cases hc
  | forageAck p ctx id rx map echo =>
    rw [exec_forageAck]
    unfold execForageAck
    split <;> exact ⟨_, rfl⟩
  | forageNak p ctx id code off map =>
    rw [exec_forageNak]
    unfold execForageNak
    split <;> exact ⟨_, rfl⟩
  | _ => exact ⟨_, rfl⟩

/-- The commands of a list complete where none of them is of the map window. -/
theorem exec_completes_of_all {l : List Instr} (hl : (l.all fun c => (windowAddress c).isNone) = true) (s : State) :
    ∀ c ∈ l, ∃ t, exec c s = .next t :=
  fun c hc => exec_completes (Option.isNone_iff_eq_none.1 (List.all_eq_true.1 hl c hc)) s

/-- Where DRAM is installed at its address, a command of the map window completes (R188). -/
theorem exec_window_completes {s : State} {c : Instr} {a : Nat} (hc : windowAddress c = some a) (ha : a < s.dramBytes) :
    ∃ t, exec c s = .next t := by
  have hin : ¬ s.dramBytes ≤ a := Nat.not_le.2 ha
  cases c with
  | mapCacheAccess w a d =>
    cases hc
    rw [exec_mapCacheAccess, execMapCacheAccess, if_neg hin]
    split <;> split <;> exact ⟨_, rfl⟩
  | zeroLine a =>
    cases hc
    rw [exec_zeroLine, execZeroLine, if_neg hin]
    split <;> exact ⟨_, rfl⟩
  | _ => cases hc

/-- Where none is installed it faults under its name (log 12). -/
theorem exec_window_faults {s : State} {c : Instr} {a : Nat} (hc : windowAddress c = some a) (ha : s.dramBytes ≤ a) :
    exec c s = .fault (.noSuchAddress a) := by
  cases c with
  | mapCacheAccess w a d =>
    cases hc
    exact if_pos ha
  | zeroLine a =>
    cases hc
    exact if_pos ha
  | _ => cases hc

theorem eq_of_windowAddress {c : Instr} {a : Nat} (hc : windowAddress c = some a) :
    (∃ w d, c = .mapCacheAccess w a d) ∨ c = .zeroLine a := by
  cases c with
  | mapCacheAccess w a d =>
    cases hc
    exact .inl ⟨w, d, rfl⟩
  | zeroLine a =>
    cases hc
    exact .inr rfl
  | _ => cases hc

/-- Settles O47: `exec` answers `ok` but for the two commands of the map window, which look at the installed DRAM first. -/
theorem everyCommandCompletes : Obligations.EveryCommandCompletes := by
  refine ⟨fun s => exec_completes_of_all rfl s, fun s _ => exec_completes_of_all rfl s,
    fun s _ _ _ _ _ _ _ _ => exec_completes_of_all rfl s, fun s _ _ _ _ => exec_completes_of_all rfl s,
    fun s _ => exec_completes_of_all rfl s, fun s _ _ _ _ _ _ _ _ _ => exec_completes_of_all rfl s,
    fun s _ _ _ _ _ _ _ _ _ _ _ _ _ => exec_completes_of_all rfl s, fun s _ _ _ _ _ _ _ _ _ _ _ _ _ => exec_completes_of_all rfl s,
    fun s _ _ _ _ _ => exec_completes_of_all rfl s, fun s _ _ _ _ _ _ _ _ _ _ _ _ _ => exec_completes_of_all rfl s,
    fun s _ _ _ _ _ _ _ _ _ _ _ _ _ _ _ => exec_completes_of_all rfl s, fun s _ _ _ _ _ => exec_completes_of_all rfl s,
    fun s b a d ha => ?_, fun s b a d ha => ?_, fun c s => ?_⟩
  · simp only [List.forall_mem_cons]
    exact ⟨exec_window_completes rfl ha, exec_window_completes rfl ha, List.forall_mem_nil _⟩
  · simp only [List.forall_mem_cons]
    exact ⟨exec_window_faults rfl ha, exec_window_faults rfl ha, List.forall_mem_nil _⟩
  · cases hc : windowAddress c with
    | none => exact .inl (exec_completes hc s)
    | some a =>
      obtain ha | ha := Nat.lt_or_ge a s.dramBytes
      · exact .inl (exec_window_completes hc ha)
      · exact .inr ⟨a, exec_window_faults hc ha, ha, eq_of_windowAddress hc⟩

end Sys2Proof.Machine

/-! PROOFS. What a request that is refused, or that only reads, leaves unchanged. -/

namespace Sys2Proof.Machine

/-! ## A request's answer -/

/-- `AnswerOnly` with the parts that may change named. -/
theorem answerOnly_iff (s t : State) : AnswerOnly s t ↔ ∃ sessions held lost sub ct free out, t = { s with
    vk := { s.vk with sessions := sessions, held := held, noticesLost := lost }
    ev := { s.ev with subLost := sub }, ct := ct, free := free, out := out } := by
  constructor
  · exact fun h => ⟨_, _, _, _, _, _, _, h⟩
  · rintro ⟨_, _, _, _, _, _, _, rfl⟩
    rfl

namespace AnswerOnly

variable {s₀ s t u : State}

theorem refl (s : State) : AnswerOnly s s := rfl

theorem trans (h : AnswerOnly s t) (k : AnswerOnly t u) : AnswerOnly s u := by
  obtain ⟨_, _, _, _, _, _, _, rfl⟩ := (answerOnly_iff s t).1 h
  obtain ⟨_, _, _, _, _, _, _, rfl⟩ := (answerOnly_iff _ u).1 k
  rfl

section
variable (h : AnswerOnly s₀ s)
include h

theorem stat {cls idx pos n : Nat} : AnswerOnly s₀ (s.stat cls idx pos n) := h.trans rfl
theorem send {o : Out} : AnswerOnly s₀ (s.send o) := h.trans rfl
theorem afterDraw : AnswerOnly s₀ s.afterDraw := h.trans rfl
theorem session' {n : Nat} {f : Session → Session} : AnswerOnly s₀ (s.session' n f) := h.trans rfl

theorem sendReply {via : Transport} {r : VReply} : AnswerOnly s₀ (s.sendReply via r) := h.trans (by
  rw [State.sendReply_frame]
  rfl)

theorem deliverAs {own : Bool} {via : Transport} {r : VReply} : AnswerOnly s₀ (s.deliverAs own via r) := by
  unfold State.deliverAs
  split
  · exact h.trans rfl
  · exact h.sendReply

theorem turnAway {q : VReq} {op : Nat} {st : VStatus} : AnswerOnly s₀ (s.turnAway q op st) := h.deliverAs

theorem replyTo {w : Waiter} {st : VStatus} {p : Bytes} : AnswerOnly s₀ (s.replyTo w st p) := by
  simp only [State.replyTo]
  split
  · exact h.session'.deliverAs
  · exact h.deliverAs

theorem reply {q : VReq} {op : Nat} {st : VStatus} {p : Bytes} : AnswerOnly s₀ (s.reply q op st p) := h.replyTo

theorem freePlace {x : Session} : AnswerOnly s₀ (s.freePlace x) := by
  unfold State.freePlace
  split
  · exact h
  · split
    · exact h.trans rfl
    · exact h

theorem takeIn {op : Nat} {q : VReq} : AnswerOnly s₀ (s.takeIn op q) := by
  unfold State.takeIn
  split
  · exact h
  · exact h.freePlace.session'

theorem taken {op : Nat} {q : VReq} : AnswerOnly s₀ (s.taken op q) := by
  unfold State.taken
  split
  · exact h.takeIn.session'
  · exact h.takeIn

theorem issueConfirm {o : VOp} {q : VReq} : AnswerOnly s₀ (s.issueConfirm o q) := h.afterDraw.session'.reply

end
end AnswerOnly

/-- A request that does not pass its checks is answered, or dropped, and no more (R77, R78, R96). -/
theorem virkan_answerOnly_of_not_passes {s : State} {op : Nat} {q : VReq} (h : ¬ Passes s op q) (body : State → State) :
    AnswerOnly s (s.virkan op q body) := by
  have hs := AnswerOnly.refl s
  unfold State.virkan
  split
  · exact hs
  next hdeaf =>
    split
    · exact hs.turnAway
    next hsession =>
      dsimp only
      split
      · exact hs.takeIn.reply
      next hop =>
        split
        · exact hs.takeIn
        next o ho =>
          split
          · exact hs.takeIn.issueConfirm
          next hconfirm =>
            refine absurd ⟨by simpa using hdeaf, hsession, hop, fun hc => ?_⟩ h
            simp only [ho, Option.any_some] at hc ⊢
            simpa [hc] using hconfirm

/-- A request whose own part is an answer changes no more than one that is refused. -/
theorem virkan_answerOnly {s : State} {op : Nat} {q : VReq} {body : State → State}
    (hb : ∀ t, AnswerOnly s t → AnswerOnly s (body t)) : AnswerOnly s (s.virkan op q body) := by
  by_cases h : Passes s op q
  · rw [virkan_of_passes body h]
    exact hb _ (AnswerOnly.refl s).taken
  · exact virkan_answerOnly_of_not_passes h body

/-- The command of a row is a request of its opcode. -/
theorem exec_row : ∀ r ∈ requestRows, ∀ (q : VReq) (s : State), ∃ body, exec (r.2 q) s = .next (s.virkan r.1 q body) := by
  simp only [requestRows, List.forall_mem_append, List.forall_mem_cons, List.not_mem_nil, false_imp_iff, implies_true, and_true]
  (repeat' apply And.intro) <;> exact fun q s => ⟨_, rfl⟩

theorem answerOnly_ctrRead {s₀ s : State} (h : AnswerOnly s₀ s) (q : VReq) : AnswerOnly s₀ (s.ctrRead q) := by
  simp only [State.ctrRead]
  split
  · split
    · exact h.reply
    · split <;> exact h.reply
  · split <;> exact h.reply

theorem answerOnly_cfgRead {s₀ s : State} (h : AnswerOnly s₀ s) (q : VReq) : AnswerOnly s₀ (s.cfgRead q) := by
  simp only [State.cfgRead]
  split <;> exact h.reply

/-- What an answer leaves of the frames is what stood. -/
theorem AnswerOnly.own_frames {s u : State} {fs : List Frame} (h : AnswerOnly { s with vk := { s.vk with frames := fs } } u) :
    AnswerOnly { s with vk := { s.vk with frames := u.vk.frames } } u := by
  obtain ⟨_, _, _, _, _, _, _, rfl⟩ := (answerOnly_iff _ u).1 h
  rfl

theorem AnswerOnly.frame' {s t : State} (h : AnswerOnly s t) (id : Nat) (f : Frame → Frame) :
    ∃ fs, AnswerOnly { s with vk := { s.vk with frames := fs } } (t.frame' id false f) := by
  obtain ⟨_, _, _, _, _, _, _, rfl⟩ := (answerOnly_iff s t).1 h
  exact ⟨_, rfl⟩

/-- CFG_STATUS answers, and restarts the idle time of its frame (R101). -/
theorem AnswerOnly.cfgStatus {s t : State} (h : AnswerOnly s t) (q : VReq) :
    ∃ fs, AnswerOnly { s with vk := { s.vk with frames := fs } } (t.cfgStatus q) := by
  have hsame {u : State} (hu : AnswerOnly s u) : ∃ fs, AnswerOnly { s with vk := { s.vk with frames := fs } } u := ⟨_, hu⟩
  unfold State.cfgStatus
  split
  · exact hsame h.reply
  · split
    · exact hsame h.reply
    · obtain ⟨fs, hfs⟩ := h.frame' _ _
      exact ⟨fs, hfs.reply⟩

/-- Settles O48: a request is answered by `State.reply` and the like, which `AnswerOnly` admits. -/
theorem requestFrames : Obligations.RequestFrames := by
  refine ⟨fun r hr s t q hq h => ?_, fun s t q => ?_, fun s t q h => ?_⟩
  · obtain ⟨body, hbody⟩ := exec_row r hr q s
    obtain rfl := Host.Outcome.next.inj (hbody.symm.trans h)
    exact virkan_answerOnly_of_not_passes hq body
  · have hreads {op : Nat} {body : State → State} {r : Host.Outcome State Fault Refusal} (hr : r = .next (s.virkan op q body))
        (hb : ∀ u, AnswerOnly s u → AnswerOnly s (body u)) (h : r = .next t) : AnswerOnly s t := by
      obtain rfl := Host.Outcome.next.inj (hr.symm.trans h)
      exact virkan_answerOnly hb
    simp only [List.forall_mem_cons]
    exact ⟨hreads rfl fun _ h => h.reply, hreads rfl fun _ h => answerOnly_cfgRead h q, hreads rfl fun _ h => h.reply,
      hreads rfl fun _ h => h.reply, hreads rfl fun _ h => h.reply, hreads rfl fun _ h => h.reply, hreads rfl fun _ h => h.reply,
      hreads rfl fun _ h => h.reply, hreads rfl fun _ h => h.reply, hreads rfl fun _ h => h.reply,
      hreads rfl fun _ h => by dsimp only; split <;> exact h.reply,
      hreads rfl fun _ h => h.reply, hreads rfl fun _ h => h.afterDraw.reply, hreads rfl fun _ h => h.reply,
      hreads rfl fun _ h => answerOnly_ctrRead h q, hreads rfl fun _ h => h.reply, List.forall_mem_nil _⟩
  · obtain rfl : s.virkan 0x0206 q (·.cfgStatus q) = t := Host.Outcome.next.inj h
    by_cases hq : Passes s 0x0206 q
    · rw [virkan_of_passes _ hq]
      obtain ⟨fs, hfs⟩ := ((AnswerOnly.refl s).taken (op := 0x0206) (q := q)).cfgStatus q
      exact hfs.own_frames
    · exact AnswerOnly.own_frames (fs := s.vk.frames) (virkan_answerOnly_of_not_passes hq _)

end Sys2Proof.Machine

/-! PROOFS. What the compare-only unit and the sideband registers leave unchanged. -/

namespace Sys2Proof.Machine

/-! ## The compare-only unit (R144, R683 to R685) -/

theorem State.cond_stat_frame (s : State) (c : Bool) (cls idx pos n : Nat) :
    s.cond c (·.stat cls idx pos n) = { s with ct := (s.cond c (·.stat cls idx pos n)).ct } := by
  cases c <;> rfl

/-- A compare fault changes the unit, what defers work, and the records of it (R144). -/
theorem State.cmpFault_frame (s : State) (pair : Nat) : s.cmpFault pair = { s with
    se := (s.cmpFault pair).se, ct := (s.cmpFault pair).ct, ev := (s.cmpFault pair).ev
    rd := { s.rd with cmpFaults := (s.cmpFault pair).rd.cmpFaults, cmpDefer := (s.cmpFault pair).rd.cmpDefer } } := by
  simp only [State.cmpFault, State.ev0, State.event]
  rw [State.report_frame, State.bump_frame (s.bump ..), State.bump_frame s]
  rfl

/-! ## The sideband (R770, R773) -/

/-- A command that changes the sideband and what has been sent alone. -/
def SidebandOnly (s t : State) : Prop := t = { s with sb := t.sb, out := t.out }

namespace SidebandOnly

variable {s₀ s t u : State}

theorem refl (s : State) : SidebandOnly s s := rfl

theorem trans (h : SidebandOnly s t) (k : SidebandOnly t u) : SidebandOnly s u := by
  have k' : u = { t with sb := u.sb, out := u.out } := k
  rw [show t = { s with sb := t.sb, out := t.out } from h] at k'
  exact k'

theorem sb' (h : SidebandOnly s₀ s) {f : SidebandPart → SidebandPart} : SidebandOnly s₀ (s.sb' f) := h.trans rfl
theorem send (h : SidebandOnly s₀ s) {o : Out} : SidebandOnly s₀ (s.send o) := h.trans rfl

theorem ite {c : Prop} [Decidable c] (ht : SidebandOnly s₀ t) (hu : SidebandOnly s₀ u) : SidebandOnly s₀ (if c then t else u) := by
  split
  · exact ht
  · exact hu

theorem sbCause (h : SidebandOnly s₀ s) {bit : Nat} : SidebandOnly s₀ (s.sbCause bit) := .ite h (.ite h.sb'.send h.sb')

theorem judgeStatus (h : SidebandOnly s₀ s) : SidebandOnly s₀ s.judgeStatus := .ite h h.sb'.sbCause

end SidebandOnly

/-- An access of the sideband changes it alone where what the access does is so. -/
theorem sbOp_sidebandOnly {s t : State} {off : Nat} {f : State → State} (hf : ∀ u, SidebandOnly s u → SidebandOnly s (f u))
    (h : s.sbOp off f = .next t) : SidebandOnly s t := by
  cases h
  exact .ite (hf _ (SidebandOnly.refl s).sb').judgeStatus (.refl s)

theorem ccc_sidebandOnly {s t : State} {f : State → State} (hf : ∀ u, SidebandOnly s u → SidebandOnly s (f u))
    (h : s.ccc f = .next t) : SidebandOnly s t := by
  cases h
  exact .ite (hf _ (.refl s)) (.refl s)

theorem cccGet_sidebandOnly {s t : State} {bytes : Bytes} (h : s.cccGet bytes = .next t) : SidebandOnly s t :=
  ccc_sidebandOnly (fun _ hu => .ite hu.send hu) h

/-- What a wake request leaves: it latches its cause besides (R761). -/
theorem sbWake_frame {s t : State} {w : BitVec 32} (h : exec (.sbWake w) s = .next t) :
    t = { s with sb := t.sb, out := t.out, pw := { s.pw with wakeCause := t.pw.wakeCause } } := by
  have hjudge (u : State) : u.judgeStatus = { u with sb := u.judgeStatus.sb, out := u.judgeStatus.out } :=
    (SidebandOnly.refl u).judgeStatus
  have hlatch (u : State) : (if w.getLsbD 0 then u.latchWake 1 else u) = { u with pw := { u.pw with
      wakeCause := (if w.getLsbD 0 then u.latchWake 1 else u).pw.wakeCause } } := by
    split
    · unfold State.latchWake
      split <;> rfl
    · rfl
  cases h
  split
  · rw [hjudge]
    dsimp only
    rw [hlatch]
    rfl
  · rfl

/-- Settles O50: each command is its own unit's update, and the records that a fault leaves. -/
theorem registerFrames : Obligations.RegisterFrames := by
  refine ⟨fun s t off w => ?_, fun s t f h => ?_, fun s t h => ?_, fun s t off addr w n b => ?_, fun s t h => ?_, fun s t w => sbWake_frame⟩
  · simp only [List.forall_mem_cons]
    refine ⟨fun h => ?_, fun h => ?_, fun h => ?_, List.forall_mem_nil _⟩
    · cases h
      split <;> rfl
    · cases h
      split <;> rfl
    · cases h
      rfl
  · cases h
    split
    · rfl
    · dsimp only
      rw [State.cond_stat_frame]
      rfl
  · cases h
    split
    · rw [State.cmpFault_frame]
      rfl
    · rfl
  · change ∀ c ∈ _, exec c s = .next t → SidebandOnly s t
    simp only [List.forall_mem_cons, exec_sbRtcLo, exec_sbIntStatus, exec_sbMbxError, exec_sbRegisterWrite,
      exec_sentinelResetArmExpiry, exec_entdaa, exec_setdasa, exec_rstdaa, exec_setnewda, exec_enec, exec_disec, exec_getpid,
      exec_getbcr, exec_getdcr, exec_setmwl, exec_setmrl, exec_getmwl, exec_getmrl]
    refine ⟨sbOp_sidebandOnly fun _ h => h.sb'.send, sbOp_sidebandOnly fun _ h => h.sb', sbOp_sidebandOnly fun _ h => h.sb',
      sbOp_sidebandOnly fun _ h => .ite h.sb' h, fun h => ?_, ccc_sidebandOnly fun _ h => h.sb', ccc_sidebandOnly fun _ h => h.sb',
      ccc_sidebandOnly fun _ h => h.sb', ccc_sidebandOnly fun _ h => h.sb', ccc_sidebandOnly fun _ h => h.sb',
      ccc_sidebandOnly fun _ h => h.sb', cccGet_sidebandOnly, cccGet_sidebandOnly, cccGet_sidebandOnly,
      ccc_sidebandOnly fun _ h => h.sb', ccc_sidebandOnly fun _ h => h.sb', cccGet_sidebandOnly, cccGet_sidebandOnly,
      List.forall_mem_nil _⟩
    cases h
    rfl
  · cases h
    split
    · dsimp only
      split <;> rfl
    · rfl

end Sys2Proof.Machine

/-! PROOFS. Requests as packets: what a request is laid out as is read back as that request (R75, R79, R83, R98). -/

namespace Sys2Proof.Machine

/-! ## Strings of bytes -/

theorem length_le : ∀ n v : Nat, (le n v).length = n
  | 0, _ => rfl
  | n + 1, v => congrArg (· + 1) (length_le n (v / 256))

theorem rdLe_le : ∀ {n v : Nat}, v < 256 ^ n → rdLe (le n v) = v
  | 0, v, h => by simp_all [le, rdLe]
  | n + 1, v, h => by
    have ih : rdLe (le n (v / 256)) = v / 256 := rdLe_le (Nat.div_lt_of_lt_mul (by rwa [Nat.mul_comm, ← Nat.pow_succ]))
    simp only [le, rdLe, ih, BitVec.toNat_ofNat]
    omega

theorem slice_append {a b : Bytes} {i n : Nat} (h : i + n ≤ a.length) : slice (a ++ b) i n = slice a i n := by
  simp only [slice]
  rw [List.drop_append_of_le_length (by omega), List.take_append_of_le_length (by simp; omega)]

theorem fld_append {a b : Bytes} {i n : Nat} (h : i + n ≤ a.length) : fld (a ++ b) i n = fld a i n := by
  rw [fld, slice_append h, fld]

theorem length_crcBytes (bs : Bytes) : (crcBytes bs).length = 4 := length_le 4 _

/-- Whole pieces of `k` bytes each. -/
theorem piecesAux_whole {k : Nat} (hk : 0 < k) : ∀ (m fuel : Nat) (bs : Bytes), bs.length = m * k → m ≤ fuel →
    (piecesAux k fuel bs).length = m ∧ ∀ p ∈ piecesAux k fuel bs, p.length = k
  | 0, fuel, bs, hl, _ => by
    obtain rfl : bs = [] := List.eq_nil_of_length_eq_zero (by omega)
    cases fuel <;> simp [piecesAux]
  | m + 1, 0, bs, _, hf => absurd hf (by omega)
  | m + 1, fuel + 1, bs, hl, hf => by
    have hlen : bs.length = m * k + k := by rw [hl, Nat.succ_mul]
    have hne : bs.isEmpty = false := by
      cases bs with
      | nil => simp at hlen; omega
      | cons b bs => rfl
    obtain ⟨h1, h2⟩ := piecesAux_whole hk m fuel (bs.drop k) (by rw [List.length_drop]; omega) (by omega)
    simp only [piecesAux, hne, Bool.false_eq_true, if_false, List.length_cons, h1, List.mem_cons, forall_eq_or_imp, true_and]
    exact ⟨by rw [List.length_take]; omega, h2⟩

theorem pieces_whole {k m : Nat} (hk : 0 < k) {bs : Bytes} (hl : bs.length = m * k) :
    (pieces k bs).length = m ∧ ∀ p ∈ pieces k bs, p.length = k :=
  piecesAux_whole hk m _ bs hl (by rw [hl, Nat.mul_div_cancel _ hk]; omega)

/-! ## The key expansion and the length of a CMAC -/

theorem length_xorBytes {a b : Bytes} {n : Nat} (ha : a.length = n) (hb : b.length = n) : (xorBytes a b).length = n := by
  simp [xorBytes, ha, hb]

theorem length_getD_of_words {l : List Bytes} {i : Nat} (hw : ∀ w ∈ l, w.length = 4) (hi : i < l.length) : (l.getD i []).length = 4 := by
  rw [List.getD_eq_getElem _ _ hi]
  exact hw _ (List.getElem_mem hi)

/-- The expansion gains a word of 4 bytes for each that is still to be made. -/
theorem aesExpand_words : ∀ (n i : Nat) (rc : Byte) (l : List Bytes), 8 ≤ l.length → (∀ w ∈ l, w.length = 4) →
    (aesExpand n i rc l).length = n + l.length ∧ ∀ w ∈ aesExpand n i rc l, w.length = 4
  | 0, i, rc, l, _, hw => by simpa [aesExpand] using hw
  | n + 1, i, rc, l, hl, hw => by
    have hprev := length_getD_of_words hw (i := 0) (by omega)
    have hback := length_getD_of_words hw (i := 7) (by omega)
    have hturn : ((l.getD 0 []).drop 1 ++ (l.getD 0 []).take 1).length = 4 := by
      rw [List.length_append, List.length_drop, List.length_take, hprev]
      rfl
    have step (i : Nat) (rc : Byte) (x : Bytes) (hx : x.length = 4) :
        (aesExpand n i rc (xorBytes x (l.getD 7 []) :: l)).length = n + 1 + l.length ∧
          ∀ w ∈ aesExpand n i rc (xorBytes x (l.getD 7 []) :: l), w.length = 4 := by
      obtain ⟨h1, h2⟩ := aesExpand_words n i rc (xorBytes x (l.getD 7 []) :: l) (by simp; omega)
        (List.forall_mem_cons.mpr ⟨length_xorBytes hx hback, hw⟩)
      exact ⟨by rw [h1, List.length_cons]; omega, h2⟩
    simp only [aesExpand]
    split
    · exact step _ _ _ (length_xorBytes (by rw [subBytes, List.length_map, hturn]) rfl)
    · split
      · exact step _ _ _ (by rw [subBytes, List.length_map, hprev])
      · exact step _ _ _ hprev

theorem length_flatten_words {l : List Bytes} (hw : ∀ w ∈ l, w.length = 4) : l.flatten.length = l.length * 4 := by
  induction l with
  | nil => rfl
  | cons w l ih =>
    obtain ⟨hw0, hws⟩ := List.forall_mem_cons.mp hw
    rw [List.flatten_cons, List.length_append, hw0, ih hws, List.length_cons]
    omega

theorem length_last_aesKey {k : Bytes} (hk : k.length = 32) : ((aesKeys k).getLastD []).length = 16 := by
  obtain ⟨hn, hw⟩ := pieces_whole (k := 4) (m := 8) (by omega) (bs := k) hk
  obtain ⟨hm, hv⟩ := aesExpand_words 52 8 1 (pieces 4 k).reverse (by rw [List.length_reverse]; omega)
    (fun w h => hw w (List.mem_reverse.mp h))
  obtain ⟨hc, hl⟩ := pieces_whole (k := 16) (m := 15) (by omega)
    (bs := (aesExpand 52 8 1 (pieces 4 k).reverse).reverse.flatten)
    (by rw [length_flatten_words fun w h => hv w (List.mem_reverse.mp h), List.length_reverse, hm, List.length_reverse, hn])
  change ((pieces 16 _).getLastD []).length = 16
  rw [List.getLastD_eq_getLast?, List.getLast?_eq_some_getLast (List.ne_nil_of_length_pos (by omega))]
  exact hl _ (List.getLast_mem _)

theorem length_aesCmac {k : Bytes} (hk : k.length = 32) (m : Bytes) : (aesCmac k m).length = 16 := by
  simp only [aesCmac, aesEncWith]
  exact length_xorBytes (by simp [shiftRows, pick]) (length_last_aesKey hk)

/-! ## The parameters -/

theorem length_tlvBytes (t : Tlv) : (tlvBytes t).length = 4 + roundUp t.value.length 4 := by
  have h : t.value.length ≤ roundUp t.value.length 4 := by simp only [roundUp]; omega
  simp only [tlvBytes, List.length_append, length_le, zeros, List.length_replicate]
  omega

/-- A string of a TLV and more gives that TLV, then what the rest gives. -/
theorem parseTlvs_cons {t : Tlv} (ht : tlvOk t = true) (n : Nat) (rest : Bytes) :
    parseTlvs (n + 1) (tlvBytes t ++ rest) = (parseTlvs n rest).map (t :: ·) := by
  simp only [tlvOk, Bool.and_eq_true, decide_eq_true_eq] at ht
  obtain ⟨hp, hv⟩ := ht
  have hl := length_tlvBytes t
  have hne : tlvBytes t ++ rest ≠ [] := List.ne_nil_of_length_pos (by rw [List.length_append]; omega)
  have htype : fld (tlvBytes t ++ rest) 0 2 = 2 ^ 15 * b2n t.required + t.pos :=
    rdLe_le (n := 2) (by have : b2n t.required ≤ 1 := by unfold b2n; split <;> omega
                         omega)
  have hlen : fld (tlvBytes t ++ rest) 2 2 = t.value.length := rdLe_le (n := 2) (by omega)
  have hval : slice (tlvBytes t ++ rest) 4 t.value.length = t.value := by
    rw [slice_append (by simp only [roundUp] at hl; omega)]
    simp only [tlvBytes, slice, List.append_assoc]
    rw [← List.append_assoc, List.drop_left' (by simp [length_le]), List.take_left' rfl]
  have hreq : ((2 ^ 15 * b2n t.required + t.pos) / 32768 == 1) = t.required := by
    cases t.required <;> simp [b2n] <;> omega
  have hpos : (2 ^ 15 * b2n t.required + t.pos) % 32768 = t.pos := by omega
  have h4 : ¬ (tlvBytes t ++ rest).length < 4 := by rw [List.length_append]; omega
  have hw : ¬ (tlvBytes t ++ rest).length < 4 + roundUp t.value.length 4 := by rw [List.length_append]; omega
  rw [parseTlvs.eq_3 _ _ hne]
  simp only [htype, hlen, hval, hreq, hpos, h4, hw, if_false, List.drop_left' hl]

theorem parseTlvs_tlvBytes : ∀ (ts : List Tlv) (n : Nat), ts.all tlvOk = true → (ts.flatMap tlvBytes).length ≤ n →
    parseTlvs n (ts.flatMap tlvBytes) = some ts
  | [], n, _, _ => by simp [parseTlvs]
  | t :: ts, n, hok, hn => by
    simp only [List.all_cons, Bool.and_eq_true] at hok
    obtain ⟨ht, hts⟩ := hok
    rw [List.flatMap_cons, List.length_append, length_tlvBytes] at hn
    obtain ⟨m, rfl⟩ : ∃ m, n = m + 1 := ⟨n - 1, by omega⟩
    rw [List.flatMap_cons, parseTlvs_cons ht, parseTlvs_tlvBytes ts m hts (by omega), Option.map_some]

theorem length_params_aligned (ts : List Tlv) : (ts.flatMap tlvBytes).length % 4 = 0 := by
  induction ts with
  | nil => rfl
  | cons t ts ih =>
    rw [List.flatMap_cons, List.length_append, length_tlvBytes]
    simp only [roundUp]
    omega

/-! ## The packet -/

theorem length_requestPacket (op : Nat) (q : VReq) :
    (requestPacket op q).length = 32 + (q.params.flatMap tlvBytes).length + q.payload.length + 4 := by
  simp only [requestPacket, List.length_append, length_le, length_crcBytes, List.length_cons, List.length_nil]

/-- The header of a request without its CRC (R75). -/
def requestHeader (op : Nat) (q : VReq) : Bytes :=
  le 2 0x564B ++ [1#8, 0#8] ++ le 2 op ++ le 2 0 ++ le 4 q.tag ++ le 4 (q.params.flatMap tlvBytes).length ++ le 4 q.payload.length ++
    le 4 q.frame ++ le 4 q.session

theorem requestPacket_eq (op : Nat) (q : VReq) : requestPacket op q = requestHeader op q ++ (crcBytes (requestHeader op q) ++
    (q.params.flatMap tlvBytes ++ (q.payload ++ crcBytes (q.params.flatMap tlvBytes ++ q.payload)))) := by
  simp only [← List.append_assoc]
  rfl

theorem length_requestHeader (op : Nat) (q : VReq) : (requestHeader op q).length = 28 := rfl

theorem slice_requestPacket_crc (op : Nat) (q : VReq) : slice (requestPacket op q) 28 4 = crcBytes ((requestPacket op q).take 28) := by
  rw [requestPacket_eq, slice, List.drop_left' (length_requestHeader op q), List.take_left' (length_crcBytes _),
    List.take_left' (length_requestHeader op q)]

theorem fld_requestPacket_magic (op : Nat) (q : VReq) : fld (requestPacket op q) 0 2 = 0x564B :=
  rdLe_le (n := 2) (by decide)

theorem fld_requestPacket_version (op : Nat) (q : VReq) : fld (requestPacket op q) 2 1 = 1 := rfl

theorem fld_requestPacket_op {op : Nat} (q : VReq) (h : op < 65536) : fld (requestPacket op q) 4 2 = op := rdLe_le (n := 2) h

theorem fld_requestPacket_tag (op : Nat) {q : VReq} (h : q.tag < 2 ^ 32) : fld (requestPacket op q) 8 4 = q.tag := rdLe_le (n := 4) h

theorem fld_requestPacket_params (op : Nat) {q : VReq} (h : (requestPacket op q).length ≤ 1048576) :
    fld (requestPacket op q) 12 4 = (q.params.flatMap tlvBytes).length :=
  rdLe_le (n := 4) (by rw [length_requestPacket] at h; omega)

theorem fld_requestPacket_payload (op : Nat) {q : VReq} (h : (requestPacket op q).length ≤ 1048576) :
    fld (requestPacket op q) 16 4 = q.payload.length :=
  rdLe_le (n := 4) (by rw [length_requestPacket] at h; omega)

theorem fld_requestPacket_frame (op : Nat) {q : VReq} (h : q.frame < 2 ^ 32) : fld (requestPacket op q) 20 4 = q.frame :=
  rdLe_le (n := 4) h

theorem fld_requestPacket_session (op : Nat) {q : VReq} (h : q.session < 2 ^ 32) : fld (requestPacket op q) 24 4 = q.session :=
  rdLe_le (n := 4) h

theorem drop_requestPacket (op : Nat) (q : VReq) : (requestPacket op q).drop 32 =
    q.params.flatMap tlvBytes ++ q.payload ++ crcBytes (q.params.flatMap tlvBytes ++ q.payload) := rfl

theorem slice_requestPacket_params (op : Nat) (q : VReq) :
    slice (requestPacket op q) 32 (q.params.flatMap tlvBytes).length = q.params.flatMap tlvBytes := by
  rw [slice, drop_requestPacket, List.append_assoc, List.take_left' rfl]

theorem slice_requestPacket_payload (op : Nat) (q : VReq) :
    slice (requestPacket op q) (32 + (q.params.flatMap tlvBytes).length) q.payload.length = q.payload := by
  rw [slice, ← List.drop_drop, drop_requestPacket, List.append_assoc, List.drop_left' rfl, List.take_left' rfl]

theorem slice_requestPacket_body (op : Nat) (q : VReq) :
    slice (requestPacket op q) (32 + (q.params.flatMap tlvBytes).length + q.payload.length) 4 =
      crcBytes (q.params.flatMap tlvBytes ++ q.payload) := by
  rw [slice, Nat.add_assoc, ← List.drop_drop, drop_requestPacket, List.drop_left' (List.length_append),
    List.take_of_length_le (Nat.le_of_eq (length_crcBytes _))]

theorem headerFault_requestPacket (op : Nat) (q : VReq) (t : Bytes) : headerFault (requestPacket op q ++ t) = none := by
  have hl := length_requestPacket op q
  have h1 : fld (requestPacket op q ++ t) 0 2 = 0x564B := by
    rw [fld_append (by omega), fld_requestPacket_magic]
  have h2 : slice (requestPacket op q ++ t) 28 4 = crcBytes ((requestPacket op q ++ t).take 28) := by
    rw [slice_append (by omega), slice_requestPacket_crc, List.take_append_of_le_length (by omega)]
  have h3 : ¬ (requestPacket op q ++ t).length < 32 := by rw [List.length_append]; omega
  simp only [headerFault, h1, h2, h3, bne_self_eq_false, decide_false, Bool.or_self, Bool.false_eq_true, if_false]

/-- A packet with the trailer of its transport is read as its request. -/
theorem parseRequest_requestPacket {s : State} {op : Nat} {q : VReq} {t : Bytes} (hok : requestOk q = true)
    (hlen : (requestPacket op q).length + t.length ≤ 1048576) (ht : t.length = q.via.trailer)
    (hmac : q.via.trailer = 0 ∨ s.mgTrailerOk (requestPacket op q) t = true) :
    s.parseRequest q.via (requestPacket op q ++ t) = .ok q := by
  simp only [requestOk, Bool.and_eq_true, decide_eq_true_eq] at hok
  obtain ⟨⟨⟨hs, htag⟩, hf⟩, hps⟩ := hok
  have hP := length_requestPacket op q
  have hP' : (requestPacket op q).length ≤ 1048576 := by omega
  have hbody : (requestPacket op q ++ t).length = 32 + (q.params.flatMap tlvBytes).length + q.payload.length + 4 + q.via.trailer := by
    rw [List.length_append, hP, ht]
  have hlong : ¬ 1048576 < (requestPacket op q ++ t).length := by rw [List.length_append]; omega
  have hparse := parseTlvs_tlvBytes q.params _ hps (Nat.le_refl _)
  have hauth : (q.via.trailer != 0 && !s.mgTrailerOk (requestPacket op q) t) = false := by
    rcases hmac with h | h <;> simp [h]
  have hver : (fld (requestPacket op q ++ t) 2 1 != 1) = false := by
    rw [fld_append (by omega), fld_requestPacket_version]; rfl
  have hpl : fld (requestPacket op q ++ t) 12 4 = (q.params.flatMap tlvBytes).length := by
    rw [fld_append (by omega), fld_requestPacket_params op hP']
  have hyl : fld (requestPacket op q ++ t) 16 4 = q.payload.length := by
    rw [fld_append (by omega), fld_requestPacket_payload op hP']
  have hparams : slice (requestPacket op q ++ t) 32 (q.params.flatMap tlvBytes).length = q.params.flatMap tlvBytes := by
    rw [slice_append (by omega), slice_requestPacket_params]
  have hpayload : slice (requestPacket op q ++ t) (32 + (q.params.flatMap tlvBytes).length) q.payload.length = q.payload := by
    rw [slice_append (by omega), slice_requestPacket_payload]
  have hcrc : slice (requestPacket op q ++ t) (32 + (q.params.flatMap tlvBytes).length + q.payload.length) 4 =
      crcBytes (q.params.flatMap tlvBytes ++ q.payload) := by
    rw [slice_append (by omega), slice_requestPacket_body]
  have hfields : fld (requestPacket op q ++ t) 24 4 = q.session ∧ fld (requestPacket op q ++ t) 8 4 = q.tag ∧
      fld (requestPacket op q ++ t) 20 4 = q.frame := by
    rw [fld_append (by omega), fld_append (by omega), fld_append (by omega)]
    exact ⟨fld_requestPacket_session op hs, fld_requestPacket_tag op htag, fld_requestPacket_frame op hf⟩
  obtain ⟨hses, htg, hfr⟩ := hfields
  have hbad : ((requestPacket op q ++ t).length !=
      32 + (q.params.flatMap tlvBytes).length + q.payload.length + 4 + q.via.trailer ||
        (q.params.flatMap tlvBytes).length % 4 != 0) = false := by
    rw [hbody, length_params_aligned, bne_self_eq_false]; rfl
  simp only [State.parseRequest, hver, hpl, hyl, hparams, hpayload, hcrc, hses, htg, hfr, hbad, hlong, hparse, List.take_left' hP,
    List.drop_left' hP, hauth, bne_self_eq_false, Bool.false_eq_true, if_false]

/-- A packet that is read as its request runs its opcode's meaning. -/
theorem wire_requestPacket {s : State} {op : Nat} {q : VReq} {t : Bytes} (hop : op < 65536) (hd : s.deaf q.via = false)
    (hparse : s.parseRequest q.via (requestPacket op q ++ t) = .ok q) :
    s.wire q.via (requestPacket op q ++ t) = s.runOp op q := by
  have hl := length_requestPacket op q
  have hfld : fld (requestPacket op q ++ t) 4 2 = op := by rw [fld_append (by omega), fld_requestPacket_op q hop]
  simp only [State.wire, hd, Bool.false_eq_true, if_false, headerFault_requestPacket, hparse, hfld]

/-! ## The opcodes -/

/-- The command of a row and the meaning of its opcode are one. -/
theorem exec_row_runOp : ∀ r ∈ requestRows, ∀ (s : State) (q : VReq), exec (r.2 q) s = .next (s.runOp r.1 q) := by
  simp only [requestRows, List.forall_mem_append, List.forall_mem_cons, List.not_mem_nil, false_imp_iff, implies_true, and_true]
  (repeat' apply And.intro) <;> exact fun s q => rfl

theorem ops_mem_rows : ∀ o ∈ (opsA ++ opsB ++ opsC ++ opsD).map (·.1), o ∈ requestRows.map (·.1) := by decide

theorem vops_mem_rows : ∀ o ∈ vops.map (·.op), o ∈ requestRows.map (·.1) := by decide

theorem vop_of_no_row {op : Nat} (h : ∀ r ∈ requestRows, r.1 ≠ op) : vop op = none := by
  refine List.find?_eq_none.mpr fun o ho => ?_
  obtain ⟨r, hr, hro⟩ := List.mem_map.mp (vops_mem_rows _ (List.mem_map_of_mem ho))
  simpa [← hro] using h r hr

theorem runOp_of_no_row {op : Nat} (h : ∀ r ∈ requestRows, r.1 ≠ op) (s : State) (q : VReq) : s.runOp op q = s.virkan op q id := by
  have hnone : (opsA ++ opsB ++ opsC ++ opsD).find? (·.1 == op) = none := by
    refine List.find?_eq_none.mpr fun o ho => ?_
    obtain ⟨r, hr, hro⟩ := List.mem_map.mp (ops_mem_rows _ (List.mem_map_of_mem ho))
    simpa [← hro] using h r hr
  rw [State.runOp, hnone]

/-- A trailer under the current key passes (R83). -/
theorem mgTrailerOk_cmac {s : State} (hk : s.mgKey.length = 32) (p : Bytes) : s.mgTrailerOk p ((aesCmac s.mgKey p).take 8) = true := by
  have hne : s.mgKey.isEmpty = false := by
    rw [List.isEmpty_eq_false_iff]
    exact List.ne_nil_of_length_pos (by omega)
  simp [State.mgTrailerOk, hne]

/-- Settles O40: each field is read back from its place, the parameters one by one, and the opcodes row by row. -/
theorem packetsRoundTrip : Obligations.PacketsRoundTrip := by
  refine ⟨fun op q hop hok _ => ?_, fun s op q hop hok hlen hv => ?_, fun s op q conn hop hok hlen hv hk => ?_, exec_row_runOp,
    fun s op q h => ⟨runOp_of_no_row h s q, vop_of_no_row h⟩⟩
  · simp only [requestOk, Bool.and_eq_true, decide_eq_true_eq] at hok
    obtain ⟨⟨⟨-, htag⟩, -⟩, -⟩ := hok
    exact ⟨by simpa using headerFault_requestPacket op q [], fld_requestPacket_op q hop, fld_requestPacket_tag op htag⟩
  · have hparse := parseRequest_requestPacket (s := s) (t := []) hok (by simpa using hlen) hv.symm (.inl hv)
    rw [← List.append_nil (requestPacket op q)]
    exact ⟨hparse, fun hd => wire_requestPacket hop hd hparse⟩
  · have ht : ((aesCmac s.mgKey (requestPacket op q)).take 8).length = 8 := by rw [List.length_take, length_aesCmac hk]; rfl
    have hparse := parseRequest_requestPacket (s := s) hok (by rw [ht]; exact hlen) (by rw [ht, hv]; rfl)
      (.inr (mgTrailerOk_cmac hk (requestPacket op q)))
    refine ⟨hparse, fun hd hconn => ?_⟩
    have hw := wire_requestPacket hop hd hparse
    rw [hv] at hw
    simp only [exec_mgVirkanPacket, execMgVirkanPacket, ok, hconn, if_true, mgPacket, hw]

end Sys2Proof.Machine

/-! PROOFS. The step of the queue and the state after reset (log 7, R42, R197, R636, R683, R717, R741, R773). -/

namespace Sys2Proof.Machine

/-- Settles O38. -/
theorem stepServesFront : Obligations.StepServesFront := by
  refine ⟨fun s c rest h => step_of_pending h, fun s h => ?_⟩
  rw [step, h]

theorem reset_sbRegs : State.reset.sbReg 0x0000 = some 0x01B05441#32 ∧ State.reset.sbReg 0x0030 = some 0#32 ∧
    State.reset.sbReg 0x0034 = some 0#32 ∧ State.reset.sbReg 0x0108 = some 0x1000#32 ∧ State.reset.sbReg 0x010C = some 0#32 ∧
    State.reset.sbReg 0x0114 = some 1#32 := by decide

theorem reset_cmpRegs : State.reset.se.cmpLane = 0 ∧ State.reset.se.cmpLo = 0 ∧ State.reset.se.cmpHi = 0 ∧
    State.reset.se.cmpStatus = 0 ∧ State.reset.se.cmpResult = 0 := by decide

/-- A code without a bucket has a full one (R717). -/
theorem bucketOf_nil (code burst now : Nat) : (bucketOf [] code burst now).tokens = burst := rfl

theorem sessionsOk_reset : SessionsOk State.reset := ⟨Nat.zero_le _, Nat.zero_le _, List.nodup_nil, nofun⟩

theorem cacheOk_reset : CacheOk State.reset := ⟨rfl, rfl, rfl, List.nodup_nil, List.nodup_nil, nofun⟩

theorem recorderOk_reset : RecorderOk State.reset :=
  ⟨Nat.zero_le _, nofun, Nat.zero_le _, nofun, nofun, fun h => absurd rfl h, List.Pairwise.nil, List.nodup_nil, nofun⟩

theorem ledgerOk_reset : LedgerOk State.reset :=
  ⟨rfl, fun _ h => List.eq_of_mem_replicate h ▸ List.length_replicate, Nat.zero_le _, fun _ h => absurd h (Nat.not_lt_zero _)⟩

theorem regsOk_reset : RegsOk State.reset := by
  unfold RegsOk
  decide

/-- Settles O39: each value is read off the parts of `State.reset`, and each invariant holds of empty lists. -/
theorem resetState : Obligations.ResetState :=
  ⟨rfl, rfl, reset_sbRegs, reset_cmpRegs, rfl, rfl, rfl, rfl, bucketOf_nil, rfl, sessionsOk_reset, cacheOk_reset, recorderOk_reset,
    nofun, ledgerOk_reset, regsOk_reset⟩

end Sys2Proof.Machine

/-! PROOFS. The Virkan opcodes of sessions, frames, volumes and lists (R87 to R108, R98). -/

namespace Sys2Proof.Machine

/-! ## What a reply leaves of the sessions and the frames -/

theorem sendReply_vk (s : State) (via : Transport) (r : VReply) : (s.sendReply via r).vk = s.vk := by rw [State.sendReply_frame]

theorem deliver_nextHandle (s : State) (via : Transport) (r : VReply) : (s.deliver via r).vk.nextHandle = s.vk.nextHandle := by
  simp only [State.deliver, State.deliverAs]
  split
  · rfl
  · rw [sendReply_vk]

theorem deliver_frames (s : State) (via : Transport) (r : VReply) : (s.deliver via r).vk.frames = s.vk.frames := by
  simp only [State.deliver, State.deliverAs]
  split
  · rfl
  · rw [sendReply_vk]

theorem replyTo_frames (s : State) (w : Waiter) (st : VStatus) (p : Bytes) : (s.replyTo w st p).vk.frames = s.vk.frames := by
  simp only [State.replyTo, deliver_frames]
  split <;> rfl

/-- A reply of a transport that holds replies is held (R94). -/
theorem deliver_held {s : State} {via : Transport} (h : via.holds = true) (r : VReply) :
    ∃ x ∈ (s.deliver via r).vk.held, x.via = via ∧ x.rep = r :=
  ⟨⟨via, r, s.ck.now, true⟩, by simp [State.deliver, State.deliverAs, h], rfl, rfl⟩

theorem deliver_sent {s : State} {via : Transport} (h : via.holds = false) (r : VReply) : s.deliver via r = s.sendReply via r := by
  simp [State.deliver, State.deliverAs, h]

theorem closeSession_sessions_ne (s : State) (h : Nat) : ∀ x ∈ (s.closeSession h).vk.sessions, x.handle ≠ h := by
  simp [State.closeSession]

/-! ## Sessions -/

/-- The session that SESSION_OPEN makes (R87). -/
def State.sessionFor (s : State) (q : VReq) : Session :=
  { handle := s.vk.nextHandle, via := q.via, opened := privOf (q.num 1 0), priv := .observer, nonce := s.drawn 32, fails := 0
    lastReq := s.ck.now, highTag := none, outstanding := if q.via.holds then [q.tag] else [], confirm := none, sub := none }

/-- The state in which the reply to SESSION_OPEN goes out. -/
def State.withSession (s : State) (q : VReq) : State :=
  s.afterDraw.vk' fun v => { v with
    sessions := v.sessions ++ [s.sessionFor q], nextHandle := s.vk.nextHandle + 1, opened := v.opened + 1 }

theorem openSession_eq {s : State} {q : VReq} (h : s.sessionSlot q.via = true) : s.openSession q =
    (s.withSession q).deliver q.via ⟨0x0101, .success, q.tag, q.frame, s.vk.nextHandle, false, s.drawn 32⟩ := by
  simp only [State.openSession, h, Bool.not_true, Bool.false_eq_true, if_false]
  rfl

/-- Settles O2, opcode by opcode: the request runs its own part, whose branch the hypotheses name. -/
theorem sessionsComplete : Obligations.SessionsComplete := by
  refine ⟨fun s q u h hslot => ?_, fun s q u x h hx hproof => ?_, fun s q u x h hx hproof hfails => ?_,
    fun s q u x h hx hproof hfails => ?_, fun s q u h => ?_, fun s q u h => ?_, fun s h x hx hidle => ?_⟩
  · refine ⟨(u.withSession q).deliver q.via ⟨0x0101, .success, q.tag, q.frame, u.vk.nextHandle, false, u.drawn 32⟩, u.sessionFor q,
      ?_, deliver_sessions .., rfl, rfl, rfl, rfl, rfl, rfl, deliver_nextHandle .., ?_⟩
    · rw [exec_sessionOpen, execSessionOpen, virkan_runs h, openSession_eq hslot, ok]
    · split
      · next hv => exact deliver_held hv _
      · next hv => exact ⟨u.withSession q, rfl, rfl, by
          rw [deliver_sent (Bool.eq_false_of_not_eq_true hv)]
          rfl⟩
  · simp only [exec_sessionAuth, execSessionAuth, virkan_runs h, State.authSession, hx, hproof, if_true, ok]
  · simp only [exec_sessionAuth, execSessionAuth, virkan_runs h, State.authSession, hx, hproof, Nat.not_le.mpr hfails, Bool.false_eq_true,
      if_false, ok]
  · simp only [exec_sessionAuth, execSessionAuth, virkan_runs h, State.authSession, hx, hproof, hfails, Bool.false_eq_true, if_false,
      if_true, ok]
  · refine ⟨_, ?_, rfl, closeSession_sessions_ne _ _⟩
    rw [exec_sessionClose, execSessionClose, virkan_runs h, ok]
  · rw [exec_sessionList, execSessionList, virkan_runs h, ok]
  · refine ⟨_, ?_, rfl, closeSession_sessions_ne _ _⟩
    simp only [exec_sessionIdleExpiry, execSessionIdleExpiry, hx, hidle, if_true, ok]

/-! ## Frames -/

@[simp] theorem touchFrame_ck (s : State) (id : Nat) : (s.touchFrame id).ck = s.ck := rfl
@[simp] theorem touchFrame_wx (s : State) (id : Nat) : (s.touchFrame id).wx = s.wx := rfl

/-- Settles O3, opcode by opcode. -/
theorem framesComplete : Obligations.FramesComplete := by
  refine ⟨fun s q u h hroom hpeer => ?_, fun s q u f es h hf hstate hparse hok hlen => ?_, fun s q u f h hf hstate hnone => ?_,
    fun s q u f h hf hstate hsome => ?_, fun s q u f h hf hok => ?_, fun s q u f h hf hstate htick => ?_, fun s q u f h hf hside => ?_,
    fun s q u h hrow => ?_, fun s q u h => ?_⟩
  · have haway : (q.num 1 0 == 1 && u.peerAway) = false := by
      by_cases hq : q.num 1 0 = 1
      · rw [hpeer hq, Bool.and_false]
      · rw [beq_false_of_ne hq, Bool.false_and]
    refine ⟨_, ?_, rfl, replyTo_frames ..⟩
    simp only [exec_cfgOpen, execCfgOpen, virkan_runs h, State.cfgOpen, Nat.not_le.mpr hroom, haway, ge_iff_le, Bool.false_eq_true, if_false,
      ok]
  · have hopen : (f.state != .opened && f.state != .checked) = false := by rcases hstate with hs | hs <;> rw [hs] <;> rfl
    simp only [exec_cfgStage, execCfgStage, virkan_runs h, State.cfgStage, hf, hopen, hparse, hok, Nat.not_lt.mpr hlen, gt_iff_lt,
      Bool.not_true, Bool.false_eq_true, if_false, ok]
  · have hopen : (f.state != .opened && f.state != .checked) = false := by rcases hstate with hs | hs <;> rw [hs] <;> rfl
    simp only [exec_cfgCheck, execCfgCheck, virkan_runs h, State.cfgCheck, hf, hopen, hnone, List.isEmpty_nil, Bool.false_eq_true, if_false,
      if_true, ok]
  · have hopen : (f.state != .opened && f.state != .checked) = false := by rcases hstate with hs | hs <;> rw [hs] <;> rfl
    simp only [exec_cfgCheck, execCfgCheck, virkan_runs h, State.cfgCheck, hf, hopen, List.isEmpty_eq_false_iff.mpr hsome,
      Bool.false_eq_true, if_false, ok]
  · refine ⟨_, _, rfl, rfl, fun htide => ?_, fun hive hleaves htoken hdark => ?_⟩
    · simp only [exec_cfgApply, execCfgApply, virkan_runs h, State.cfgApply, hf, hok, touchFrame_wx, ok]
      rcases htide with ht | ht
      · simp only [ht, Bool.false_eq_true, if_false]
      · simp only [ht, if_true]
        split
        · split <;> rfl
        · rfl
    · simp only [exec_cfgApply, execCfgApply, virkan_runs h, State.cfgApply, hf, hok, touchFrame_wx, hleaves, htoken, hdark, if_true,
        Bool.false_eq_true, if_false, ok]
  · have hnot : (f.state != .scheduled) = false := by rw [hstate]; rfl
    simp only [exec_cfgCancel, execCfgCancel, virkan_runs h, State.cfgCancel, hf, hnot, touchFrame_ck, Nat.not_lt.mpr htick,
      Bool.false_eq_true, if_false, ok]
  · have hhere : (!f.pair && q.has 1 && q.num 1 0 != sideN u.pr.side) = false := by rcases hside with hs | hs | hs <;> simp [hs]
    simp only [exec_cfgStatus, execCfgStatus, virkan_runs h, State.cfgStatus, hf, hhere, Bool.false_eq_true, if_false, ok]
  · have hall : (((q.all 1).map rdLe).any fun id => (settingRow id).isNone) = false :=
      List.any_eq_false.mpr fun id hid => by simp [Option.isSome_iff_ne_none.mp (hrow id hid)]
    simp only [exec_cfgRead, execCfgRead, virkan_runs h, State.cfgRead, hall, Bool.false_eq_true, if_false, ok]
  · rw [exec_modeGet, execModeGet, virkan_runs h, ok]

/-! ## Domains, namespaces and snapshots -/

/-- Settles O4, opcode by opcode: each check passes, and the record of the row is written. -/
theorem volumesComplete : Obligations.VolumesComplete := by
  refine ⟨fun s q u h hnew hroom => ?_, fun s q u h hd howns => ?_, fun s q u h hid hsize hnew howns hroom => ?_,
    fun s q u n h hn howns => ?_, fun s q u n h hn howns hsize hgrow => ?_, fun s q u n h hn howns hroom hall => ?_,
    fun s q u n h hn howns hsnap => ?_, fun s q u n h hn howns hsnap hid hnew hroom => ?_, fun s d key more rest hdrops => ?_⟩
  · simp only [exec_domainCreate, execDomainCreate, virkan_runs h, State.domainCreate, hnew, Nat.not_le.mpr hroom, ge_iff_le,
      Bool.false_eq_true, if_false, ok]
  · simp only [exec_domainDelete, execDomainDelete, virkan_runs h, State.domainDelete, hd, howns, Bool.not_true, Bool.false_eq_true,
      if_false, ok]
  · simp [execNsCreate, virkan_runs h, State.nsCreate, Nat.not_lt.mpr hid, hsize, hnew, howns, Nat.not_le.mpr hroom]
  · simp only [exec_nsDelete, execNsDelete, virkan_runs h, State.withNs, hn, howns, if_true, ok]
  · simp [execNsResize, virkan_runs h, State.withNs, hn, howns, hsize, Nat.not_lt.mpr hgrow]
  · simp [execSnapCreate, virkan_runs h, State.snapCreate, State.withNs, hn, howns, Nat.not_le.mpr hroom, Nat.not_le.mpr hall]
  · simp only [exec_snapDelete, execSnapDelete, virkan_runs h, State.withNs, hn, howns, hsnap, State.mapChange, List.isEmpty_cons,
      Bool.false_eq_true, if_false, if_true, ok]
  · simp only [exec_snapClone, execSnapClone, virkan_runs h, State.withNs, hn, howns, hsnap, Nat.not_lt.mpr hid, hnew, Nat.not_le.mpr hroom,
      State.mapChange, List.isEmpty_cons, ge_iff_le, Bool.false_eq_true, if_false, if_true, ok]
  · refine ⟨((rest.filter (·.1 == d)).map fun e => MapItem.pageDrop e.1 e.2.1).take 4095, ?_, by rw [List.length_take]; omega⟩
    simp only [exec_treeDropCascade, execTreeDropCascade, hdrops, State.mapChange, ok]
    simp

end Sys2Proof.Machine

/-! PROOFS. The Virkan opcodes of lists, hives, the pair, the colony, groups, keys and updates (R98). -/

namespace Sys2Proof.Machine

theorem length_fit (n : Nat) (bs : Bytes) : (fit n bs).length = n := by
  rw [fit, List.length_take, List.length_append, zeros, List.length_replicate]
  omega

/-- Settles O5, opcode by opcode. -/
theorem virkanListings : Obligations.VirkanListings := by
  refine ⟨?_, ?_, ?_, ?_, ?_, ?_, ?_, ?_, ?_, ?_, ?_, ?_, ?_, ?_, ?_, ?_, ?_, ?_, ?_⟩
  · intro s q u h
    simp only [exec_domainList, execDomainList, virkan_runs h, State.domainList]
  · intro s q u h
    simp [execNsList, virkan_runs h, State.nsList, Function.comp_def]
  · intro s q u h
    simp only [exec_hiveStatus, execHiveStatus, virkan_runs h]
  · intro s q u h
    simp only [exec_mediaStats, execMediaStats, virkan_runs h]
  · intro s q u h
    exact ⟨by rw [exec_pairStatus, execPairStatus, virkan_runs h, ok], length_fit 128 _⟩
  · intro s q u h
    simp only [exec_colonyStatus, execColonyStatus, virkan_runs h]
  · intro s q u h
    simp only [exec_tokenStatus, execTokenStatus, virkan_runs h, List.flatMap_append, List.flatMap_map, ok]
  · intro s q u h hHas
    simp [execCatalogueRead, virkan_runs h, hHas]
  · intro s q u h hHas hCatalogue
    simp_all [execCatalogueRead, virkan_runs h]
  · intro s q u h hHas hCatalogue
    simp_all [execCatalogueRead, virkan_runs h]
  · intro s q u h
    simp only [exec_rgStatus, execRgStatus, virkan_runs h]
  · intro s q u h
    simp only [exec_keyStatus, execKeyStatus, virkan_runs h, State.afterDraw]
  · intro s q u h
    simp only [exec_evtRead, execEvtRead, virkan_runs h, State.evtRead]
  · intro s q u h
    simp only [exec_ledgerRead, execLedgerRead, virkan_runs h]
  · intro s q u b h hNum hCtrBlocks
    simp only [exec_ctrRead, execCtrRead, virkan_runs h, State.ctrRead, hNum, hCtrBlocks, if_false]
  · intro s q u h hNum hCtrBlocks
    simp only [exec_ctrRead, execCtrRead, virkan_runs h, State.ctrRead, hNum, hCtrBlocks, if_false]
  · intro s q u es bs h hNum hPieces hx hPayload hx2 hx3
    simp_all [execCtrRead, virkan_runs h, State.ctrRead]
  · intro s q u es h hNum hPieces hx hPayload hx2 hx3
    simp_all [execCtrRead, virkan_runs h, State.ctrRead]
  · intro s q u es h hNum hPieces hbad
    have hlist : (es.isEmpty || q.payload.length % 8 != 0 || decide (256 < es.length)) = true := by
      rcases hbad with hb | hb | hb <;> simp [hb]
    subst hPieces
    simp only [exec_ctrRead, execCtrRead, virkan_runs h, State.ctrRead, hNum, hlist, if_true, ok]

/-- Settles O6, opcode by opcode. -/
theorem hiveOpcodesComplete : Obligations.HiveOpcodesComplete := by
  refine ⟨?_, ?_, ?_, ?_, ?_, ?_, ?_⟩
  · intro s q u x h hHive hBrood hOwns v hAskWake hx
    simp_all [execHiveWake, virkan_runs h, State.hiveWake]
  · intro s q u x h hHive hBrood hOwns hState hVoteUp hTopNeed
    simp only [exec_hiveDark, execHiveDark, virkan_runs h, State.hiveDark, hHive, hBrood, hOwns, hState, hVoteUp, hTopNeed, if_true,
      if_false, Bool.not_true, Bool.not_false, Bool.true_and, beq_self_eq_true, reduceCtorEq]
  · intro s q u x h hHive hBrood hOwns hState
    simp [execHiveDark, virkan_runs h, State.hiveDark, hHive, hBrood, hOwns, hState]
  · intro s q u h hNum hReshaping hInMode hMirror hOnTrial hPeerTrial hFramesFull hx
    rcases hx with hx | hx <;> simp only [exec_superAttach, execSuperAttach, virkan_runs h, State.superAsk, State.askFrame,
      Nat.not_le.mpr hNum, hReshaping, hInMode, hMirror, hOnTrial, hPeerTrial, hFramesFull, hx, if_false, Bool.not_true, Bool.not_false,
      Bool.and_false, Bool.false_and, Bool.false_or, Bool.or_true, Bool.true_or, reduceCtorEq]
  · intro s q u h hNum hReshaping hInMode hMirror hOnTrial hPeerTrial hFramesFull hInService hIsBrood hOwns
    simp [execSuperAttach, virkan_runs h, State.superAsk, State.askFrame, Nat.not_le.mpr hNum, hReshaping, hInMode, hMirror, hOnTrial,
      hPeerTrial, hFramesFull, hInService, hIsBrood, hOwns]
  · intro s q u x h hLink hComb hComb2 hRetired hHasErased hWorkLeft
    simp [execCombRetire, virkan_runs h, State.combRetire, hLink, hComb, hComb2, hRetired, hHasErased, Nat.not_lt.mpr hWorkLeft]
  · intro s q u t cs h hStripe hReleased hState hx
    simp_all [execStripeAcceptLoss, virkan_runs h, State.acceptLoss]

/-- Settles O7, opcode by opcode. -/
theorem pairOpcodesComplete : Obligations.PairOpcodesComplete := by
  refine ⟨?_, ?_, ?_, ?_, ?_, ?_⟩
  · intro s q u us h hds hhs hus hmode hmirror hnone hne howner hgiver htaker hroom
    obtain ⟨x, hhead⟩ : ∃ x, us.head? = some x := ⟨us.head hne, List.head?_eq_some_head hne⟩
    have hfirst : u.ownerOf x = some u.pr.side := by simpa using (List.any_eq_false.mp howner) x (List.mem_of_mem_head? hhead)
    have hempty : us.isEmpty = false := List.isEmpty_eq_false_iff.mpr hne
    simp only [exec_rebalance, execRebalance, virkan_runs h, State.rebalance, hds, hhs, ← hus, hhead, hfirst, hmode, hmirror, hnone,
      hempty, howner,
      hgiver, htaker, State.askFrame, hroom, beq_self_eq_true, if_true, Bool.or_self, Bool.not_true, Bool.false_eq_true, if_false,
      Option.isSome_none, ok]
  · intro s q u p a h hx hActive hEligible hMissPeer hJoined hDrill hNow v hResendPair
    simp [execPathDrill, virkan_runs h, State.pathDrill, hx, hActive, hEligible, Nat.not_le.mpr hMissPeer, hJoined, hDrill, hNow,
      hResendPair]
  · intro s d w hDrill hAtNs hWaiter
    simp only [exec_pathDrillAckTimeout, execPathDrillAckTimeout, hDrill, Nat.not_lt.mpr hAtNs, hWaiter, if_false]
  · intro s q u h hSideOf hPeerAway
    simp [execMirrorDiscard, virkan_runs h, State.mirrorDiscard, hSideOf, hPeerAway]
  · intro s q u h hUnresolved hSideOf
    simp [execPairElect, virkan_runs h, hUnresolved, hSideOf]
  · intro s q u h hUnresolved hSideOf
    simp [execPairElect, virkan_runs h, hUnresolved, hSideOf]

/-- Settles O8, opcode by opcode. -/
theorem colonyOpcodesComplete : Obligations.ColonyOpcodesComplete := by
  refine ⟨?_, ?_, ?_, ?_, ?_, ?_⟩
  · intro s q u h hMember hJoinWait hkey hNum
    have hkeys : (u.ks.colony.cur.isNone && u.ks.colony.pend.isNone) = false := by
      rcases hkey with hk | hk <;> simp [Option.isNone_eq_false_iff.mpr hk]
    simp only [exec_colonyJoin, execColonyJoin, virkan_runs h, State.colonyAsk, hMember, hJoinWait, hkeys, hNum, Option.isSome_none,
      Bool.or_self,
      Bool.false_eq_true, if_false, if_true, ok]
  · intro s q u h hMember hJoinWait hkey hNum
    have hkeys : (u.ks.colony.cur.isNone && u.ks.colony.pend.isNone) = false := by
      rcases hkey with hk | hk <;> simp [Option.isNone_eq_false_iff.mpr hk]
    refine ⟨_, rfl, ?_⟩
    simp only [exec_colonyJoin, execColonyJoin, virkan_runs h, State.colonyAsk, hMember, hJoinWait, hkeys, hNum, Option.isSome_none,
      Bool.or_self,
      Bool.false_eq_true, if_false, ok]
  · intro s w a t hJoinWait hNow
    simp only [exec_colonyJoinTimeout, execColonyJoinTimeout, hJoinWait, hNow, if_true]
  · intro s q u h hMember hx hGroups hReplicas hFramesFull
    simp_all [execColonyLeave, virkan_runs h, State.colonyQuit, State.askFrame]
  · intro s q u h hFramesFull hIsQueen hNum hMembers
    simp_all [execQueenAssign, virkan_runs h, State.queenAsk]
  · intro s q u h hFramesFull hIsQueen hMember hNum hNum2 hNow hPeerLeased
    simp_all [execQueenAssign, virkan_runs h, State.queenAsk]

/-- Settles O9, opcode by opcode. -/
theorem groupOpcodesComplete : Obligations.GroupOpcodesComplete := by
  refine ⟨?_, ?_, ?_, ?_, ?_, ?_⟩
  · intro s q u ds h hds hnew hmember hother hknown howns hroom hlen hfree
    simp only [exec_rgCreate, execRgCreate, virkan_runs h, State.rgCreate, ← hds, hnew, hmember, beq_false_of_ne hother, hknown, howns,
      Nat.not_le.mpr hroom, Nat.not_lt.mpr hlen, hfree, ge_iff_le, decide_false, Bool.not_true, Bool.or_self, Bool.false_eq_true,
      if_false, ok]
  · intro s q u x h hGroup hLeads
    simp [execRgDelete, virkan_runs h, State.rgDelete, hGroup, hLeads]
  · intro s q u h hGroup hReplicas
    simp only [exec_rgDelete, execRgDelete, virkan_runs h, State.rgDelete, hGroup, hReplicas, if_true]
  · intro s q u g h hGroup hLeads hState
    simp [execRgPause, virkan_runs h, State.rgPause, hGroup, hLeads, hState]
  · intro s q u g h hGroup hLeads hState
    simp [execRgResume, virkan_runs h, State.rgPause, hGroup, hLeads, hState]
  · intro s q u g n p h hGroup hNs hSnap hDomains hLeads hSnapMode hNum hBaseLog
    simp only [exec_snapShip, execSnapShip, virkan_runs h, State.snapAsk, hGroup, hNs, hSnap, hDomains, hLeads, hSnapMode, hNum,
      hBaseLog,
      Option.any_none, Option.bind_none, List.isEmpty_nil, Bool.not_true, Bool.false_eq_true, if_false, ok]

/-- Settles O10, opcode by opcode. -/
theorem keyOpcodesComplete : Obligations.KeyOpcodesComplete := by
  refine ⟨?_, ?_, ?_, ?_, ?_, ?_, ?_, ?_, ?_, ?_⟩
  · intro s q u h hP384Dec hOwner hLogFull
    simp [execOwnerEnroll, virkan_runs h, State.ownerEnroll, hP384Dec, hOwner, hLogFull]
  · intro s q u e h hOpenBlob
    simp [execKeyProvision, virkan_runs h, State.keyProvision, hOpenBlob]
  · intro s q u h hP384Dec
    simp only [exec_keyEscrowExport, execKeyEscrowExport, virkan_runs h, State.keyExport, hP384Dec, if_false, Bool.false_eq_true]
  · intro s q u es h hVaultState hVaultState2 hOpenBlob hLogFull
    simp_all [execKeyRestore, virkan_runs h, State.keyRestore]
  · intro s q u st h hOpenBlob
    simp only [exec_keyProvision, execKeyProvision, virkan_runs h, State.keyProvision, hOpenBlob]
  · intro s q u st h hVaultState hVaultState2 hOpenBlob
    simp_all [execKeyRestore, virkan_runs h, State.keyRestore]
  · intro s q u d r h hDomain hDomain2 hOwns hData hNewestData
    simp [execKeyRotate, virkan_runs h, State.keyRotate, hDomain, hDomain2, hOwns, Nat.not_le.mpr hData, Nat.not_le.mpr hNewestData,
      DomainKeys.rotated]
  · intro s q u d r h hDomain hDomain2 hOwns
    simp [execKeyErase, virkan_runs h, State.keyErase, hDomain, hDomain2, hOwns]
  · intro s q u h hAttestKey
    simp [execAttest, virkan_runs h, State.attestReply, hAttestKey]
  · intro s q u h hAttestKey
    simp [execAttest, virkan_runs h, State.attestReply, hAttestKey]

end Sys2Proof.Machine

/-! PROOFS. Updates, timers of frames, packets on each transport, the sideband and the event recorder (R94, R101, R648, R711, R740, R770). -/

namespace Sys2Proof.Machine

/-- A common command code acts while the always-on supply holds (R771). -/
theorem ccc_on {s : State} (h : s.pw.aonOk = true) (f : State → State) : s.ccc f = .next (f s) := by
  simp only [State.ccc, h, if_true, ok]

/-- A Get code answers at a dynamic address (R771). -/
theorem cccGet_on {s : State} {x : Nat} (h : s.pw.aonOk = true) (ha : s.sb.dynAddr = some x) (bs : Bytes) :
    s.cccGet bs = .next (s.send (.i3c bs)) := by
  simp only [State.cccGet, ccc_on h, ha, Option.isSome_some, if_true]

/-- Settles O11, command by command. -/
theorem updateComplete : Obligations.UpdateComplete := by
  refine ⟨?_, ?_, ?_, ?_, ?_, ?_, ?_, ?_, ?_, ?_, ?_, ?_⟩
  · intro s q u h hUpdRefusal hOpen hNum hx hOnTrial
    rcases hx with hx | hx <;> simp only [exec_updBegin, execUpdBegin, virkan_runs h, State.updBegin, hUpdRefusal, hOpen,
      Nat.not_lt.mpr hNum, hx, hOnTrial, if_false, Bool.and_false, Bool.false_and, Bool.false_or, bne_self_eq_false, decide_false,
      Option.isSome_none, reduceCtorEq]
  · intro s q u x h hOpen hCrc32c hReceived hPayload hNum hStaged
    simp only [exec_updBlock, execUpdBlock, virkan_runs h, State.judgeBlock, hOpen, hCrc32c, Nat.not_lt.mpr hReceived,
      Nat.not_lt.mpr hPayload, hNum, Nat.not_lt.mpr hStaged, if_true, if_false, Bool.false_or, bne_self_eq_false, decide_false,
      reduceCtorEq]
  · intro s bytes x hOpen
    simp only [exec_updateStagingRoom, execUpdateStagingRoom, hOpen]
  · intro s q u x h hOpen hReceived hComplete hLogFull hChecks
    simp_all [execUpdVerify, virkan_runs h, State.updVerify]
  · intro s q u x h hOpen hReceived hComplete hLogFull hChecks
    simp_all [execUpdVerify, virkan_runs h, State.updVerify]
  · intro s q u x h hUpdRefusal hOpen hVerified
    simp [execUpdActivate, virkan_runs h, State.updActivate, hUpdRefusal, hOpen, hVerified]
  · intro s q u h hUpdRefusal hTrial hOnTrial hInService
    simp only [exec_updConfirm, execUpdConfirm, virkan_runs h, State.updConfirm, hUpdRefusal, hTrial, hOnTrial, hInService, if_false,
      Bool.not_true, Bool.false_or, reduceCtorEq]
  · intro s q u h hOpen
    simp only [exec_updAbort, execUpdAbort, virkan_runs h, State.updAbort, hOpen, if_true]
  · intro s q u h hOpen hOnTrial
    simp [execUpdAbort, virkan_runs h, State.updAbort, hOpen, hOnTrial]
  · intro s q u h hLock
    simp [execUpdLock, virkan_runs h, hLock]
  · intro s t hTrial hx hRtc hStopped
    simp [execTrialWindowEnd, hTrial, hx, Nat.not_lt.mpr hRtc, hStopped]
  · intro s q u h hx hNum hRecovery hKeyErased
    rcases hx with hx | hx <;> simp [execRestart, virkan_runs h, State.restart, hx, hNum, hRecovery, hKeyErased]

/-- Settles O12, timer by timer. -/
theorem frameTimersComplete : Obligations.FrameTimersComplete := by
  refine ⟨?_, ?_, ?_, ?_, ?_, ?_, ?_, ?_⟩
  · intro s n f hFrame hState hLastReq
    simp [execFrameIdleExpiry, hFrame, hState, Nat.not_lt.mpr hLastReq]
  · intro s n t is f hFrame hTick
    simp [execFrameReadiness, hFrame, Nat.not_le.mpr hTick]
  · intro s n t is
    simp only [exec_frameReadiness, execFrameReadiness, if_true]
  · intro s n f hFrame hPair hTick hLeavesTide hReady
    simp [execFrameReadinessDeadline, hFrame, hPair, Nat.not_lt.mpr hTick, hLeavesTide, hReady]
  · intro s n f hFrame hPair hTick hLeavesTide hReady
    simp [execFrameReadinessDeadline, hFrame, hPair, Nat.not_lt.mpr hTick, hLeavesTide, hReady]
  · intro s n f hFrame hPair hGo hTick
    simp [execGoRecordLateConfirm, hFrame, hPair, hGo, Nat.not_lt.mpr hTick]
  · intro s t hWakeCheck hInMode hNow
    simp [execWakeModeRecheck, hWakeCheck, hInMode, Nat.not_lt.mpr hNow]
  · intro s n
    simp only [exec_frameStatusExpiry, execFrameStatusExpiry]

/-- Settles O13, command by command. -/
theorem wireCommandsComplete : Obligations.WireCommandsComplete := by
  refine ⟨?_, ?_, ?_, ?_, ?_, ?_, ?_, ?_⟩
  · intro s e c u h hCdw10 hData hData2
    simp [execAdminC0hSubmit, nvme_reaches h, hCdw10, hData, Nat.not_lt.mpr hData2]
  · intro s e c u h hlen
    have hbad : (e.cdw10.toNat % 4 != 0 || decide (1048576 < e.cdw10.toNat) || e.cdw10.toNat != e.data.length) = true := by
      rcases hlen with hl | hl | hl <;> simp [hl]
    simp only [exec_adminC0hSubmit, execAdminC0hSubmit, nvme_reaches h, hbad, if_true, ok]
  · intro s e c u h h2 hVia hNext
    simp only [exec_adminC1hFetch, execAdminC1hFetch, nvme_reaches h2, hVia, Nat.not_lt.mpr hNext, if_false]
  · intro s e c u h h2 hVia hCdw10
    simp only [exec_adminC1hFetch, execAdminC1hFetch, nvme_reaches h2, hVia, hCdw10, if_true]
  · intro s conn bs hMgConns
    simp only [exec_mgVirkanPacket, execMgVirkanPacket, hMgConns, if_true]
  · intro s conn bs hAttConns hx hStopped hHalted hSleep hInService hAttestKey
    simp only [exec_attestationServiceRequest, execAttestationServiceRequest, hAttConns, hx, hStopped, hHalted, hSleep, hInService,
      hAttestKey, if_false, Bool.not_true, Bool.false_or, bne_self_eq_false, reduceCtorEq]
  · intro s via ss tag h hVia hOwn hFinal
    simp [execVirkanReplyExpiry, hVia, hOwn, hFinal]
  · intro s n
    simp only [exec_confirmCodeExpiry, execConfirmCodeExpiry]

/-- Settles O14, register by register and code by code. -/
theorem sidebandComplete : Obligations.SidebandComplete := by
  refine ⟨?_, ?_, ?_, ?_, ?_, ?_, ?_, ?_, ?_, ?_, ?_, ?_, ?_, ?_, ?_, ?_, ?_, ?_, ?_, ?_, ?_, ?_⟩
  · intro s w u h hReqFull hReq hReq2
    simp [execSbReqData, sbOp_on h, bankBytes, hReqFull, hReq, hReq2]
  · intro s w u h hReqFull
    simp only [exec_sbReqData, execSbReqData, sbOp_on h, hReqFull, if_true]
  · intro s w u h hReqOverrun hCrc32c hReq
    simp [execSbReqCap, sbOp_on h, bankBytes, hReqOverrun, hCrc32c, Nat.not_lt.mpr hReq]
  · intro s w u h hCrc32c
    simp [execSbReqCap, sbOp_on h, hCrc32c]
  · intro s u h hRsp
    simp only [exec_sbRspData, execSbRspData, sbOp_on h, hRsp]
  · intro s u p ps h hRsp hlen
    have hpart : (p.take 3).length = 3 := by rw [List.length_take]; omega
    simp only [exec_sbRspData, execSbRspData, sbOp_on h, hRsp, hpart, Nat.not_le.mpr hlen, decide_false, b2n, Bool.false_eq_true,
      if_false,
      Nat.mul_zero, Nat.add_zero]
  · intro s u h
    simp only [exec_sbRtcLo, execSbRtcLo, sbOp_on h]
  · intro s u h
    rw [exec_sbSentinelReset, execSbSentinelReset, sbOp_on h]
    rfl
  · intro s u t h hResetArm hNow
    simp [execSbSentinelReset, sbOp_on h, hResetArm, hNow]
  · intro s
    simp only [exec_sentinelResetArmExpiry, execSentinelResetArmExpiry]
  · intro s w u h hx
    simp only [exec_sbWake, execSbWake, sbOp_on h, hx, if_true]
  · intro s w u h hx hPadsHeld
    simp [execSbPadRelease, sbOp_on h, hx, hPadsHeld]
  · intro s w u h
    simp only [exec_sbIntStatus, execSbIntStatus, sbOp_on h]
  · intro s w u h
    simp only [exec_sbMbxError, execSbMbxError, sbOp_on h]
  · intro s w u h
    simp [execSbRegisterWrite, sbOp_on h]
  · intro s off w u h hx
    simp [execSbRegisterWrite, sbOp_on h, hx]
  · intro s a hAonOk hDynAddr
    exact ⟨by rw [exec_entdaa, execEntdaa, ccc_on hAonOk], by rw [exec_setdasa, execSetdasa, ccc_on hAonOk]⟩
  · intro s a x hAonOk hDynAddr
    simp only [exec_setnewda, execSetnewda, State.ccc, hAonOk, if_true]
  · intro s hAonOk
    simp only [exec_rstdaa, execRstdaa, State.ccc, hAonOk, if_true]
  · intro s w hAonOk
    exact ⟨by rw [exec_enec, execEnec, ccc_on hAonOk]; rfl, by rw [exec_disec, execDisec, ccc_on hAonOk]⟩
  · intro s x hAonOk hDynAddr
    simp only [exec_getpid, execGetpid, exec_getbcr, execGetbcr, exec_getdcr, execGetdcr, exec_getstatus, execGetstatus, exec_getmwl,
      execGetmwl,
      exec_getmrl, execGetmrl, cccGet_on hAonOk hDynAddr, ccc_on hAonOk, hDynAddr, Option.isSome_some, if_true, and_self]
  · intro s n hAonOk
    exact ⟨by rw [exec_setmwl, execSetmwl, ccc_on hAonOk], by rw [exec_setmrl, execSetmrl, ccc_on hAonOk]⟩

/-- Settles O15, command by command. -/
theorem eventsComplete : Obligations.EventsComplete := by
  refine ⟨?_, ?_, ?_, ?_, ?_, ?_, ?_, ?_, ?_, ?_, ?_, ?_, ?_⟩
  · intro s r
    simp only [exec_eventReport, execEventReport]
  · intro s r rest hLane
    simp only [exec_eventWrite, execEventWrite, hLane]
  · intro s r rest hLane hFifo
    simp only [exec_eventWrite, execEventWrite, hLane, hFifo]
  · intro s code b t hCode hWinOpen hNow
    simp only [exec_bucketWindowClose, execBucketWindowClose, hCode, hWinOpen, Nat.not_lt.mpr hNow, if_false, ok]
    rfl
  · intro s code b hCode hSetting hTokens hBelowSince
    simp [execBucketRefill, hCode, hSetting, hTokens, Nat.not_lt.mpr hBelowSince]
  · intro s hLastRetry
    simp only [exec_dropSummaryTimer, execDropSummaryTimer, Nat.not_lt.mpr hLastRetry, if_false]
  · intro s n x b hHandle hSub hQueue hx
    simp [execEventNoticeSend, hHandle, hSub, hQueue, hx]
  · intro s q u x h hsev hSessionOf hSub
    have hok : (decide (7 < q.num 1 0) && q.num 1 0 != 0xFF) = false := by
      rcases hsev with hs | hs
      · rw [decide_eq_false (Nat.not_lt.mpr hs), Bool.false_and]
      · rw [hs]
        rfl
    simp only [exec_evtSubscribe, execEvtSubscribe, virkan_runs h, State.evtSubscribe, hok, hSessionOf, hSub, Bool.false_eq_true,
      if_false, ok]
  · intro s q u h hCtrBlocks howner
    have hmay : (ownerClears (q.num 1 0) && !(u.sessionOf q.via q.session).any (·.priv == .owner)) = false := by
      rcases howner with ho | ho <;> simp [ho]
    refine ⟨u.ct' fun t => { t with vals := t.vals.filter fun c => !(c.cls == q.num 1 0 && (q.num 2 0 == 0xFFFFFFFF || c.idx == q.num 2 0)) },
      ?_, rfl, fun c hc => List.mem_of_mem_filter hc, fun c hc => ?_⟩
    · simp only [exec_ctrClear, execCtrClear, virkan_runs h, State.ctrClear, hCtrBlocks, hmay, Bool.false_eq_true, if_false, ok]
    · simp [List.mem_filter, hc, imp_iff_not_or]
  · intro s q t u l h hu hLink hState hdie hTasksAllowed hDieFree hRoom hErasing hepoch
    have hfree : (!l.dieFree (q.num 2 0) || !l.room 1 || (!u.md.recovery && l.epoch != u.hiveEpoch l.hive)) = false := by
      rcases hepoch with he | he <;> simp [he, hDieFree, hRoom]
    have hup : (l.state != .up) = false := by rw [hState]; rfl
    simp only [exec_diagDieRead, execDiagDieRead, virkan_runs h, State.diagDieRead, ← hu, hLink, hup, Nat.not_le.mpr hdie,
      hTasksAllowed,
      hErasing, hfree, Bool.not_true, Bool.false_and, Bool.false_eq_true, if_false, ok]
  · intro s q t u l h hu hLink howner
    have hmine : (!u.isBrood l.hive && !u.owns (.honey l.hive)) = false := by rcases howner with ho | ho <;> simp [ho]
    simp only [exec_diagLinkLoop, execDiagLinkLoop, virkan_runs h, State.diagLinkLoop, ← hu, hLink, hmine, Bool.false_eq_true, if_false,
      ok]
  · intro s q u h hMode
    simp only [exec_diagSelftest, execDiagSelftest, virkan_runs h, State.diagSelftest, hMode, if_false, Bool.false_eq_true]
  · intro s q u h
    simp only [exec_diagDump, execDiagDump, virkan_runs h]

end Sys2Proof.Machine

/-! PROOFS. Wax, DRAM, the reduction commands and the seal engine (R122 to R200, R671 to R690). -/

namespace Sys2Proof.Machine

/-! ## A record that is due is ingested (R122) -/

theorem not_redecided {s : State} {o : Nat} {r : WaxRec} (hr : s.sources.find? (·.ordinal == o) = some r) (hm : s.mayIngest r = true) :
    (r.live && r.body.isData && !r.continued && s.rd.ingested.contains o) = false := by
  have ho : r.ordinal = o := by simpa using List.find?_some hr
  simp only [State.mayIngest, Bool.and_eq_true, Bool.not_eq_true', ho] at hm
  obtain ⟨⟨-, hnew⟩, -⟩ := hm
  rw [hnew, Bool.and_false]

/-- A write of one whole namespace chunk is one block (R122). -/
theorem ingestWrite_whole (s : State) (o l d n k : Nat) {data : Bytes} (h : data.length = 16384) :
    s.ingestWrite o l d n (16384 * k) data = s.ingestBlock o l d n k data := by
  have hfirst : 16384 * k / 16384 = k := by omega
  have hone : (16384 * k + 16384 + 16383) / 16384 - k = 1 := by omega
  have hwhole : slice data 0 16384 = data := by rw [slice, List.drop_zero, List.take_of_length_le (Nat.le_of_eq h)]
  simp [State.ingestWrite, h, hfirst, hone, hwhole, Nat.mul_add]

/-- Without a clash no entry changes (R142). -/
theorem clashes_nil (s : State) (d c : Nat) : s.clashes d c [] = s := by
  simp [State.clashes, State.rd']

/-! ## A stored chunk is read (R156) -/

theorem chunkBytes_stored {s : State} {i : Nat} {c : Chunk} (hc : s.chunk? (s.target i) = some c) (hs : c.state = .stored)
    (hh : (s.hive? c.hive).any Hive.serves = true) : s.chunkBytes i = match s.readChunk i with
      | (s, .content b) => (s, .bytes b)
      | (s, .waits h) => (s, .dark h)
      | (s, _) => (s, .lost) := by
  have hhive : s.hiveOfChunk i = some c.hive := by simp only [State.hiveOfChunk, hc, hs, beq_self_eq_true, if_true]
  unfold State.chunkBytes
  rw [hhive]
  exact if_pos hh

theorem readChunk_stored {s u v : State} {i : Nat} {c : Chunk} {t : Stripe} (hc : s.chunk? (s.target i) = some c) (hs : c.state = .stored)
    (hk : (s.domain? c.domain).any (·.keysErased) = false) (hu : u = if s.readable c.hive then s.heed c.hive else s)
    (ht : u.stripe? c.place.ordinal = some t) (hw : u.readWaits t c.place.off c.len = false)
    (hv : u.overErases t (dedupBy ((u.pagesFor t (envPages t.region c.place.off c.len)).map (·.1))) = some v) :
    s.readChunk i = v.readStored c := by
  simp only [State.readChunk, hc, hs, hk, ← hu, ht, hw, hv, Bool.false_eq_true, if_false]

/-- No page is missing and no unit fails: the envelope's bytes are its content, and its pages are heeded (R156, R158). -/
theorem readStored_whole {v : State} {c : Chunk} {t : Stripe} {b : Bytes} (ht : v.stripe? c.place.ordinal = some t)
    (hb : (v.envBytes t [] c.place.off c.len).bind (v.openEnvelope c.domain c.id) = some b)
    (hgood : v.failsWhole t [] (envPages t.region c.place.off c.len) = [])
    (hthere : ((envPages t.region c.place.off c.len).all fun p => (v.rawPage t p.1 p.2).isSome) = true) :
    v.readStored c = (v.heedPages t (v.pagesFor t (envPages t.region c.place.off c.len)), .content b) := by
  have hgone : ((envPages t.region c.place.off c.len).filter fun p =>
      (v.rawPage t p.1 p.2).isNone || ([] : List Nat).contains p.1) = [] :=
    List.filter_eq_nil_iff.mpr fun p hp => by
      have hpage := List.all_eq_true.mp hthere p hp
      simp [Option.isSome_iff_ne_none.mp hpage]
  simp only [State.readStored, ht, hb, hgood, hgone, List.isEmpty_nil, if_true]

/-- No set of members left out makes the envelope sound: the chunk is lost and its stripe is to be rewritten (R157). -/
theorem readStored_lost {v w : State} {c : Chunk} {t : Stripe} (ht : v.stripe? c.place.ordinal = some t)
    (hb : (v.envBytes t [] c.place.off c.len).bind (v.openEnvelope c.domain c.id) = none)
    (hw : w = ((v.event 0x330 .error c.domain (le 6 c.id ++ le 6 t.ord)).bump 0x0309 0 0 1))
    (hall : ((tries (dedupBy ((envPages t.region c.place.off c.len).map (·.1)))).findSome? fun out =>
      (v.envBytes t out c.place.off c.len).bind (v.openEnvelope c.domain c.id)) = none)
    (hk : (w.ks.recs.find? (·.domain == c.domain)).isNone = false) :
    v.readStored c = (((w.loseChunk t.ord t.hive c).scheduleRewrite t.ord).heedPages t
      (v.pagesFor t (envPages t.region c.place.off c.len)), .lost) := by
  simp only [State.readStored, ht, hb, ← hw, hall, hk, Bool.false_eq_true, if_false]

/-! ## Messages of the seal engine (R673) -/

/-- The pipes are what they were while only the suspended messages and the next start change. -/
theorem pipes_slots (v : SealPart) (x : Bool) (n : Nat) (l : List SealMsg) :
    SealPart.pipes { v with startOrd := n, slots := l } x = v.pipes x := rfl


theorem sealOutput_xtsEnc {m : SealMsg} (h : m.req.op = .xtsEnc) (s : State) : (s.sealOutput m).2 = 0 := by
  simp only [State.sealOutput, h]

/-- Settles O16, command by command. -/
theorem waxAndDramComplete : Obligations.WaxAndDramComplete := by
  refine ⟨?_, ?_, ?_, ?_, ?_, ?_, ?_, ?_, ?_, ?_, ?_, ?_⟩
  · intro s o hWaxStopped hOwn hRunning
    simp only [exec_waxRecordConfirmed, execWaxRecordConfirmed, hWaxStopped, hOwn, Bool.not_true, Bool.or_self, Bool.false_eq_true,
      if_false, ok]
    exact congrArg _ (if_pos hRunning)
  · intro s hRunning hJoining hdue hCkptAt hSlotOrd
    have hnow : (decide (67108864 ≤ s.wx.sinceCkpt) || decide (s.wx.ckptAt + second ≤ s.ck.now) || decide (s.ownFree < 96 * 2 ^ 20)) = true := by
      simpa only [Bool.or_eq_true, decide_eq_true_eq, or_assoc] using hdue
    simp only [exec_checkpointDue, execCheckpointDue, hRunning, hJoining, hnow, Nat.not_lt.mpr hCkptAt, Nat.not_lt.mpr hSlotOrd,
      decide_false,
      Bool.not_true, Bool.or_self, Bool.false_eq_true, if_false, ok]
  · intro s hRunning hFlNext hMetaHives hTasksAllowed hCovered
    simp [execFlushMetadata, hRunning, hFlNext, hMetaHives, hTasksAllowed, Nat.not_le.mpr hCovered]
  · intro s hTrained hSelfRefresh hStopped hScrubAt
    simp [execDramScrub, hTrained, hSelfRefresh, hStopped, Nat.not_lt.mpr hScrubAt]
  · intro s ch a u hx hDramBytes hTrained hStopped hSleep hDr
    simp [execDramUncorrectable, Nat.not_le.mpr hx, Nat.not_le.mpr hDramBytes, hTrained, hStopped, hSleep, hDr]
  · intro s ch hx hTrained hStopped hSleep
    simp [execDramUncorrectable, Nat.not_le.mpr hx, hTrained, hStopped, hSleep]
  · intro s a d hDramBytes hInWindow
    simp [execMapCacheAccess, Nat.not_le.mpr hDramBytes, hInWindow]
  · intro s a d hDramBytes hInWindow
    simp [execMapCacheAccess, Nat.not_le.mpr hDramBytes, hInWindow]
  · intro s a d hDramBytes hInWindow
    simp [execMapCacheAccess, Nat.not_le.mpr hDramBytes, hInWindow]
  · intro s a hDramBytes hInWindow
    have hthere : ¬ s.dramBytes ≤ a := Nat.not_le.mpr hDramBytes
    have hcached : ¬ (!s.inWindow a) = true := by rw [hInWindow]; exact Bool.false_ne_true
    rw [exec_zeroLine, execZeroLine]
    exact (if_neg hthere).trans (if_neg hcached)
  · intro s a hDramBytes hInWindow
    simp [execZeroLine, Nat.not_le.mpr hDramBytes, hInWindow]
  · intro s a w d hDramBytes
    simp only [exec_mapCacheAccess, execMapCacheAccess, exec_zeroLine, execZeroLine, hDramBytes, if_true, and_self]

/-- Settles O17, command by command. -/
theorem reductionComplete : Obligations.ReductionComplete := by
  refine ⟨?_, ?_, ?_, ?_, ?_, ?_, ?_, ?_, ?_, ?_, ?_, ?_, ?_, ?_⟩
  · intro s o r hOrdinal hMayIngest hKeyRec
    have hkey : ((s.rd' fun x => { x with ingested := x.ingested ++ s.chainOf o }).keyRec r.domain).isNone = true := hKeyRec
    simp only [exec_chunkIngest, execChunkIngest, State.ingest, hOrdinal, not_redecided hOrdinal hMayIngest, hMayIngest, hkey,
      Bool.not_true,
      Bool.false_eq_true, if_false, if_true, ok]
  · intro s u o n off o' fl r data hOrdinal hMayIngest hKeyRec hChainOf hu hBody hNs
    have hkey : (u.keyRec r.domain).isNone = false := by rw [hu]; exact hKeyRec
    have hns : (u.ns? n).isSome = true := by rw [hu]; exact hNs
    have hnew := not_redecided hOrdinal hMayIngest
    rw [hBody] at hnew
    simp only [exec_chunkIngest, execChunkIngest, State.ingest, hOrdinal, hnew, hMayIngest, ← hu, hkey, hChainOf,
      List.head?_cons, Option.map_some, Option.getD_some, hBody, List.flatMap_cons, List.flatMap_nil, List.append_nil, hns,
        Bool.not_true,
      Bool.false_eq_true, if_false, if_true, ok]
  · intro s o l d n k data hlen
    rw [ingestWrite_whole s o l d n k hlen, State.ingestBlock]
  · intro s u t o l d data r hu hSetting hDefers hFindDup
    refine ⟨fun c hr => ?_, fun c hr => ?_, fun hr => ?_, fun hr => ?_, fun hr => ?_⟩ <;> subst hr <;>
      simp only [State.ingestChunk, ← hu, hSetting, hDefers, hFindDup, Bool.false_eq_true, if_false, List.isEmpty_nil, Bool.not_true,
        clashes_nil]
  · intro s u o r d data hOrdinal hMayIngest hKeyRec hChainOf hu hBody hAbort
    have hkey : (u.keyRec r.domain).isNone = false := by rw [hu]; exact hKeyRec
    have hnew := not_redecided hOrdinal hMayIngest
    rw [hBody] at hnew
    simp only [exec_chunkIngest, execChunkIngest, State.ingest, hOrdinal, hnew, hMayIngest, ← hu, hkey, hChainOf,
      List.head?_cons, Option.map_some, Option.getD_some, hBody, List.flatMap_cons, List.flatMap_nil, List.append_nil, hAbort,
        Bool.not_true,
      Bool.false_eq_true, if_false, ok]
  · intro s t w c d e b r hChunk hAcceptsMode hDefers hOwns hChunkBytes hx hSetting hFindDup
    simp_all [execPostProcess, State.postProcess]
  · intro s t c d b hChunk hAcceptsMode hDefers hOwns hChunkBytes hSetting
    simp [execPostProcess, State.postProcess, hChunk, hAcceptsMode, hDefers, hOwns, hChunkBytes, hSetting]
  · intro s hFilterNew hFilterReady
    simp only [exec_filterRebuild, execFilterRebuild, State.filterRebuild, State.beginFilter, hFilterNew, hFilterReady, if_false,
      Bool.false_eq_true]
  · intro s f hFilterNew
    simp only [exec_filterRebuild, execFilterRebuild, State.filterRebuild, hFilterNew, ok]
    rfl
  · intro s t v n k m x b hx hNs hSources hx2 hKeepGather
    simp only [exec_mergeCommit, execMergeCommit, State.mergeCommit, hx, hNs, hSources, hx2, hKeepGather, if_false, Bool.false_eq_true]
  · intro s t v n k m x hx hNs hSources hEntryBefore hChunkBytes hKeepGather
    simp only [exec_mergeCommit, execMergeCommit, State.mergeCommit, hx, hNs, hSources, hEntryBefore, hChunkBytes, hKeepGather,
      if_false, Bool.false_eq_true]
  · intro s t n k h m x hx hNs hSources hEntryBefore hChunkBytes
    simp only [exec_mergeCommit, execMergeCommit, State.mergeCommit, hx, hNs, hSources, hEntryBefore, hChunkBytes, if_false,
      Bool.false_eq_true]
  · intro s u v i c t hChunk hState hHive hKeysErased hu hStripe hReadWaits hOverErases hStripe2
    have hread := readChunk_stored hChunk hState hKeysErased hu hStripe hReadWaits hOverErases
    refine ⟨fun b hb hgood hthere => ?_, fun w hb hw hall hk => ?_⟩
    · have hbytes : s.chunkBytes i = (v.heedPages t (v.pagesFor t (envPages t.region c.place.off c.len)), .bytes b) := by
        rw [chunkBytes_stored hChunk hState hHive, hread, readStored_whole hStripe2 hb hgood hthere]
      exact ⟨congrArg Prod.snd hbytes, by rw [exec_envelopeRead, execEnvelopeRead, hbytes, ok]⟩
    · rw [exec_envelopeRead, execEnvelopeRead, chunkBytes_stored hChunk hState hHive, hread, readStored_lost hStripe2 hb hw hall hk, ok]
  · intro s t hCmpDefer hNow hCmpBusy hCmpBusy2
    simp [execCompareSelftestRetry, hCmpDefer, Nat.not_lt.mpr hNow, hCmpBusy, hCmpBusy2]

/-- Settles O18, command by command. -/
theorem sealComplete : Obligations.SealComplete := by
  refine ⟨?_, ?_, ?_, ?_, ?_, ?_, ?_, ?_, ?_, ?_, ?_, ?_, ?_, ?_, ?_⟩
  · intro s r hOp
    simp only [exec_sealRequest, execSealRequest, hOp]
  · intro s r hOp
    simp only [exec_sealRequest, execSealRequest, hOp]
  · intro s m hBad hKeyClass hHandleKey
    simp only [State.takeMsg, hBad, hKeyClass, hHandleKey, decide_false, Bool.false_and, Bool.false_eq_true, if_false]
  · intro s n m hId hOp
    simp only [exec_sealMessageDone, execSealMessageDone, hId, hOp, SealOp.isXts, sealOutput_xtsEnc hOp, ok]
  · intro s n m hId hnone
    simp only [exec_sealUrgent, execSealUrgent, hId, State.se'_se, pipes_slots, hnone, List.getElem?_nil, ok]
  · intro s d r hDomain hOnChip
    simp only [exec_domainKeyFetch, execDomainKeyFetch, hDomain, hOnChip, if_true]
  · intro s d r hDomain hOnChip hDramBad
    simp [execDomainKeyFetch, hDomain, hOnChip, hDramBad]
  · intro s hCmpBusy hCmpBusy2
    simp [execCmpGoCompare, hCmpBusy, hCmpBusy2]
  · intro s hCmpBusy hCmpBusy2
    simp [execCmpGoSelfTest, hCmpBusy, hCmpBusy2]
  · intro s l hCmpBusy hx hSerial hFit
    simp_all [execCompareDone, State.cond]
  · intro s l hCmpBusy hx hSerial hFit
    simp_all [execCompareDone, State.cond]
  · intro s hCmpBusy
    simp [execSelfTestDone, hCmpBusy]
  · intro s hCmpBusy
    simp [execSelfTestDone, hCmpBusy]
  · intro s hCmpBusy hx
    rcases hx with hx | hx <;> simp only [exec_cmpResult, execCmpResult, hx, if_false, Bool.and_false, Bool.false_and,
      bne_self_eq_false, reduceCtorEq]
  · intro s w
    simp [execDigestRegisterWrite]

end Sys2Proof.Machine

/-! PROOFS. Connections and the admin commands of the NVMe front end (R388 to R402, R424 to R427). -/

namespace Sys2Proof.Machine

/-- Settles O19, command by command. -/
theorem nvmeConnectionsComplete : Obligations.NvmeConnectionsComplete := by
  refine ⟨?_, ?_, ?_, ?_, ?_, ?_, ?_, ?_, ?_, ?_, ?_⟩
  · intro s fp odd hStopped hHalted hSleep hRecovery hKeyErased hConns hFabricOn
    have hserved : (s.md.stopped || s.md.halted || s.pw.sleep.isSome || s.md.recovery || (s.md.keyErased && TcpSvc.nvme != .attestation)) =
        false := by
      rw [hStopped, hHalted, hSleep, hRecovery, hKeyErased]
      rfl
    simp only [exec_tcpConnectionRequest, execTcpConnectionRequest, hserved, hFabricOn, Nat.not_le.mpr hConns, Bool.not_true,
      Bool.false_eq_true, if_false, ok]
    rfl
  · intro s conn hpda r2t h d c hId hState hx
    simp [execIcreq, hId, hState, Nat.not_lt.mpr hx]
  · intro s conn hpda r2t pfv h d c hId hState hx
    simp [execIcreq, hId, hState, hx]
  · intro s conn hConns
    simp [execFatalTransportError, hConns]
  · intro s conn cid off data got c k n o len h hId hCtrl hCmd hKind hoff hdata hmore hmax
    have hsound : (off != got.length || data.isEmpty || decide (got.length + data.length > len) || decide (data.length > 131072)) = false := by
      rw [hoff, List.isEmpty_eq_false_iff.mpr hdata, decide_eq_false (by omega : ¬ got.length + data.length > len),
        decide_eq_false (by omega : ¬ data.length > 131072), bne_self_eq_false]
      rfl
    have hpart : ((got ++ data).length == len) = false := by
      rw [List.length_append]
      exact beq_false_of_ne (by omega)
    simp only [exec_h2cdata, execH2cdata, hId, hCtrl, Option.bind_some, hCmd, hKind, hsound, hpart, Bool.not_true, Bool.false_eq_true,
      if_false,
      ok]
  · intro s conn cid off data got c k n o len h hId hCtrl hCmd hKind
    simp [execH2cdata, hId, hCtrl, hCmd, hKind]
  · intro s conn hConns
    simp only [exec_tcpConnectionEnd, execTcpConnectionEnd, exec_tcpRetransmissionTimeout, execTcpRetransmissionTimeout, hConns,
      if_true, ok,
      and_self]
  · intro s conn hConns
    simp only [exec_tcpConnectionEnd, execTcpConnectionEnd, hConns, if_false, Bool.false_eq_true]
  · intro s x c id hId hState hCtrl hDisc hSubnqn hQid hCntlid hKato hKato2 hKnownHost hSqsize hCtrls hFreeCtrl
    have hready : (c.state != .ready) = false := by rw [bne, hState]; rfl
    have hname : (x.subnqn != s.subnqn) = false := by rw [bne, hSubnqn]; rfl
    simp only [exec_connect, execConnect, State.nvConnect, hId, hready, hCtrl, hDisc, hname, hQid, hCntlid, Nat.not_lt.mpr hKato,
      hKnownHost,
      decide_eq_false (Nat.not_lt.mpr hKato2), decide_eq_false (Nat.not_lt.mpr hSqsize), Nat.not_le.mpr hCtrls, hFreeCtrl, gt_iff_lt,
        ge_iff_le,
      bne_self_eq_false, decide_false, Option.isSome_none, Bool.not_true, Bool.and_false, Bool.or_self, Bool.false_eq_true, if_false,
        if_true, ok]
  · intro s e c u h
    simp only [exec_keepAlive, execKeepAlive, nvme_reaches h]
  · intro s k c hCtrl hKaAt
    simp only [exec_keepAliveTimeout, execKeepAliveTimeout, hCtrl, hKaAt, if_true]

/-- Settles O20, command by command. -/
theorem nvmeAdminComplete : Obligations.NvmeAdminComplete := by
  refine ⟨?_, ?_, ?_, ?_, ?_, ?_, ?_, ?_, ?_, ?_, ?_, ?_, ?_, ?_⟩
  · intro s e c u h hCdw10
    simp only [exec_identify, execIdentify, nvme_reaches h, State.nvIdentify, hCdw10, if_true]
  · intro s e c u n h hCdw10 hDiscovery hNsOf
    simp [execIdentify, nvme_reaches h, State.nvIdentify, hCdw10, hDiscovery, hNsOf]
  · intro s e c u h hDiscovery hCdw10 hx
    simp_all [execGetLogPage, nvme_reaches h, State.nvGetLog]
  · intro s e c u h hCdw10
    simp [execSetFeatures, execGetFeatures, nvme_reaches h, State.nvSetFeature, hCdw10]
  · intro s e c u h hCdw10 hCdw11 hCdw112
    simp [execSetFeatures, nvme_reaches h, State.nvSetFeature, hCdw10, Nat.not_lt.mpr hCdw11, Nat.not_lt.mpr hCdw112]
  · intro s e c u h hCdw10
    simp [execSetFeatures, execGetFeatures, nvme_reaches h, State.nvSetFeature, hCdw10]
  · intro s e c u h hHeld
    simp only [exec_asynchronousEventRequest, execAsynchronousEventRequest, nvme_reaches h, Nat.not_le.mpr hHeld, if_false]
  · intro s e c u h hHeld
    simp only [exec_asynchronousEventRequest, execAsynchronousEventRequest, nvme_reaches h, hHeld, if_true]
  · intro s e c u h n a b h2 hCdw10 hCmd hKind
    simp [execAbort, nvme_reaches h2, hCdw10, hCmd, hKind]
  · intro s e c u h hCdw10 hCmd
    simp [execAbort, nvme_reaches h, hCdw10, hCmd]
  · intro s e c u h hCdw11 hCdw112 hCdw12
    simp [execDirectiveSend, nvme_reaches h, hCdw11, hCdw112, hCdw12]
  · intro s e c u h hCdw11
    simp only [exec_directiveReceive, execDirectiveReceive, nvme_reaches h, hCdw11, if_true]
  · intro s e c u h hQid hOpc
    simp only [exec_unsupportedCommand, execUnsupportedCommand, nvme_reaches h, hQid, hOpc, if_true, if_false, Bool.false_eq_true]
  · intro s e c u h hQid hOpc
    simp only [exec_unsupportedCommand, execUnsupportedCommand, nvme_reaches h, hQid, hOpc, if_true, if_false]

end Sys2Proof.Machine

/-! PROOFS. A Dataset Management command on a head whose ordinals are spent (R417, R428). -/

namespace Sys2Proof.Machine

/-- A domain of side A. -/
def hintDomain : Domain := { (default : Domain) with id := 1, side := .a, home := .a }

/-- A namespace of that domain whose deallocation is a hint. -/
def hintNamespace : Namespace := ⟨1, 1, 65536, .hint, 0, 1, 1⟩

/-- The controller of a host that may reach the domain. -/
def hintCtrl : Ctrl := { (default : Ctrl) with id := 3, nqn := [1], kato := 5000, queues := [0, 1] }

/-- Dataset Management of one empty range with the deallocate bit (R417). -/
def hintSqe : Sqe := { (default : Sqe) with conn := 1, ctrl := 3, qid := 1, cid := 9, opc := 9, nsid := 1, cdw11 := 4, data := zeros 16 }

/-- A head that has given its last record ordinal. -/
def ordinalsSpent : State :=
  { State.reset with
    vk := { State.reset.vk with settings := [(0x03000110, [1])] }
    wx := { State.reset.wx with nextOrd := 2 ^ 64 - 2 ^ 32 }
    vo := { State.reset.vo with domains := [hintDomain], nss := [hintNamespace] }
    nv := { State.reset.nv with ctrls := [hintCtrl] } }

/-- The state in which the command's own part runs. -/
def ordinalsSpentCounted : State := ordinalsSpent.stat 0x0801 (idx2 9 3) 0 1

/-- Whether a command ends with its completions all successful. -/
def completesWell : Host.Outcome State Fault Refusal → Bool
  | .next t => t.out.all fun o => match o with
    | .cqe _ _ _ sct sc _ _ _ => sct == 0 && sc == 0
    | _ => true
  | _ => false

theorem hintSqe_reaches : Reaches ordinalsSpent hintSqe hintCtrl ordinalsSpentCounted := ⟨by decide +kernel, rfl, rfl⟩

/-- The command ends with the status of spent ordinals. -/
theorem hint_exhausted : completesWell (exec (.datasetManagement hintSqe) ordinalsSpent) = false := by decide +kernel

theorem hint_wanted : completesWell (.next ((ordinalsSpentCounted.nvDone hintSqe 0 []).hint hintNamespace
    (dsmRanges hintSqe.data (hintSqe.cdw10.toNat % 256 + 1)))) = true := by
  rw [State.hint]
  split <;> decide +kernel

/-- Refutes O21: its seventh clause does not ask that ordinals are left, and without them the command ends with the status of R428. -/
theorem not_nvmeIoComplete : ¬ Obligations.NvmeIoComplete := by
  rintro ⟨-, -, -, -, -, -, hhint, -⟩
  have hsame := hhint ordinalsSpent hintSqe hintCtrl ordinalsSpentCounted hintNamespace hintSqe_reaches (by decide +kernel) rfl
    (by decide +kernel) rfl (by decide +kernel) (by decide +kernel)
  have hbad := hint_exhausted
  rw [hsame, hint_wanted] at hbad
  cases hbad

end Sys2Proof.Machine

/-! PROOFS. Takeover, ports, time and sleep, START, hive power and the colony (R352, R540, R574, R588, R611, R746). -/

namespace Sys2Proof.Machine

/-- Settles O34, command by command. -/
theorem takeoverComplete : Obligations.TakeoverComplete := by
  refine ⟨?_, ?_, ?_, ?_, ?_, ?_, ?_, ?_, ?_, ?_, ?_, ?_, ?_⟩
  · intro s hFence hFenceAt hInMode
    simp [execTakeoverFenceWait, hFence, Nat.not_lt.mpr hFenceAt, hInMode]
  · intro s n
    simp [execArbiterFenceResult]
  · intro s n l hLink
    simp [execArbiterFenceResult, hLink]
  · intro s t hRetryAt hNow hFence
    simp [execArbiterRetry, hRetryAt, Nat.not_lt.mpr hNow, hFence]
  · intro s u hFence hFenceHives hFenceFor hHoldPeerHives
    simp [execFenceAllRaised, State.cond, hFence, hFenceHives, hFenceFor, hHoldPeerHives]
  · intro s u v x w hInMode hFence hHandoverComing hTakePages hx hSealShort hWx
    simp [execTakeoverReplayEnd, hInMode, hFence, hHandoverComing, hTakePages, hx, hSealShort, hWx]
  · intro s t hJoinSince hJoined hEpochLost hSetting
    simp [execPairJoinTimeout, hJoinSince, hJoined, hEpochLost, Nat.not_lt.mpr hSetting]
  · intro s u m r hHead hJoined hInMode hStopped hPeerReports hTookOver
    simp_all [execPairJoin]
  · intro s u m r hHead hJoined hInMode hStopped hPeerReports hTookOver hx
    simp_all [execPairJoin]
  · intro s u v m r hHead hJoined hInMode hStopped hPeerReports hTookOver hHandedOver hTookOver2 hJoinedNow
    simp_all [execPairJoin]
  · intro s u c l hRejoin hDeclared hJoined hOwn hEv0
    simp [execRejoinCopyComplete, hRejoin, hDeclared, hJoined, hOwn, hEv0]
  · intro s r hRebalance hGiver hPhase
    simp only [exec_rebalancePhaseEnd, execRebalancePhaseEnd, hRebalance, hGiver, hPhase, if_true]
  · intro s r hRebalance hGiver hPhase hHoldAt
    simp [execRebalanceHoldTimeout, hRebalance, hGiver, hPhase, Nat.not_lt.mpr hHoldAt]

/-- Settles O35, command by command. -/
theorem portsComplete : Obligations.PortsComplete := by
  refine ⟨?_, ?_, ?_, ?_, ?_, ?_, ?_⟩
  · intro s i a p hx hActive hEligible
    simp only [exec_fabricPortFail, execFabricPortFail, hx, hActive, hEligible, if_true]
  · intro s i a p hx hActive hEligible
    simp only [exec_fabricPortFail, execFabricPortFail, hx, hActive, hEligible, if_false, Bool.false_eq_true]
  · intro s i a p hx hActive
    simp only [exec_standbyEligible, execStandbyEligible, hx, hActive]
  · intro s i p hx hActive
    simp only [exec_standbyEligible, execStandbyEligible, hx, hActive]
  · intro s n hx
    simp [execPeerLinkDown, hx]
  · intro s u n hx hJudgeCables hFencedOff
    simp_all [execPeerLinkUp]
  · intro s u n hx hJudgeCables hFencedOff hWaggleEnable hYielding
    simp_all [execPeerLinkUp]

/-- Settles O36, command by command. -/
theorem timeAndSleepComplete : Obligations.TimeAndSleepComplete := by
  refine ⟨?_, ?_, ?_, ?_, ?_, ?_, ?_, ?_, ?_, ?_, ?_, ?_, ?_, ?_, ?_, ?_, ?_⟩
  · intro s src o hPtpRuns
    simp [execPtpMessage, hPtpRuns]
  · intro s src o hPtpRuns hMaster
    simp [execPtpMessage, hPtpRuns, hMaster]
  · intro s
    simp only [exec_alignmentTimeout, execAlignmentTimeout]
  · intro s hIsAligned hRtcDiscAt
    simp [execRtcDiscipline, hIsAligned, Nat.not_lt.mpr hRtcDiscAt]
  · intro s hEntering hStopped hMayComplete
    simp [execHoldEntry, hEntering, hStopped, hMayComplete]
  · intro s hEntering hStopped hMayComplete
    simp [execHoldEntry, hEntering, hStopped, hMayComplete]
  · intro s hEntering hStopped hMayComplete
    simp [execWatchEntry, hEntering, hStopped, hMayComplete]
  · intro s hSleep hWakeCause
    simp_all [execHoldWake]
  · intro s hSleep hWakeCause hImprint
    simp_all [execWatchWake]
  · intro s u hSleep hWakeCause hImprint hDr
    simp_all [execWatchWake]
  · intro s tj h hAonOk hx hx2 hSleep
    simp [execWatchSample, hAonOk, hx, hx2, hSleep]
  · intro s us hx hAonOk
    simp [execWakeN, Nat.not_lt.mpr hx, hAonOk]
  · intro s t hWdArmed hWdSuspended hStopped
    simp [execWatchdogKick, hWdArmed, hWdSuspended, hStopped]
  · intro s t hWdArmed hWdSuspended hNow
    simp [execWatchdogExpiry, hWdArmed, hWdSuspended, Nat.not_lt.mpr hNow]
  · intro s ns hAonOk hx
    have hlong : ¬ ns < 500 := by omega
    simp only [exec_chipResetN, execChipResetN, hlong, decide_false, hAonOk, Bool.not_true, Bool.or_self, Bool.false_eq_true, hx,
      if_true,
      if_false, ok]
  · intro s ns hx
    simp [execChipResetN, Nat.not_le.mpr hx]
  · intro s hAlarmStands
    simp [execPowerOnResetRelease, hAlarmStands]

/-- Settles O37, command by command. -/
theorem startComplete : Obligations.StartComplete := by
  refine ⟨?_, ?_, ?_, ?_, ?_, ?_, ?_, ?_, ?_, ?_, ?_, ?_, ?_⟩
  · intro s p hMayStart
    simp only [exec_start, execStart, hMayStart, if_true]
  · intro s p hMayStart
    simp only [exec_start, execStart, hMayStart, if_false, Bool.false_eq_true]
  · intro s u hInService hService14At hStopped hSleep hSkippedJoin hSkippedColony hBt
    simp [execOptionalStepLateRun, hInService, Nat.not_lt.mpr hService14At, hStopped, hSleep, hSkippedJoin, hSkippedColony, hBt]
  · intro s hAonOk hXtalOk
    simp [execCrystalLoss, hAonOk, hXtalOk]
  · intro s hSleep hRefOk
    simp [execReferenceClockStop, hSleep, hRefOk]
  · intro s us hAonOk hx
    simp [execSupplyFall, nominalMv, hAonOk, Nat.not_le.mpr hx]
  · intro s us hAonOk hSleep hx
    simp [execSupplyFall, nominalMv, hAonOk, hSleep, Nat.not_le.mpr hx]
  · intro s r mv us hAonOk hSleep hx hx2
    simp_all [execSupplyFall]
  · intro s c hx hAonOk
    simp_all [execPropolisAlarm]
  · intro s hAlarmStands hAlarmClearSince
    simp only [exec_alarmClear, execAlarmClear, hAlarmStands, hAlarmClearSince, if_false]
  · intro s t hAlarmStands hAlarmClearSince hNow
    simp only [exec_alarmClear, execAlarmClear, hAlarmStands, hAlarmClearSince, Nat.not_lt.mpr hNow, if_false]
  · intro s f r hStopped hHalted hRecovery hSleep hTcpFrame hRdBe hArpReply
    simp [execMgNetworkFrame, hStopped, hHalted, hRecovery, hSleep, hTcpFrame, hRdBe, hArpReply]
  · intro s f hStopped hHalted hRecovery hSleep hTcpFrame hRdBe hArpReply
    simp [execMgNetworkFrame, hStopped, hHalted, hRecovery, hSleep, hTcpFrame, hRdBe, hArpReply]

/-- Settles O28, command by command. -/
theorem hivePowerComplete : Obligations.HivePowerComplete := by
  refine ⟨?_, ?_, ?_, ?_, ?_, ?_, ?_, ?_, ?_, ?_, ?_, ?_, ?_, ?_, ?_⟩
  · intro s b q hx hOnBus hBus
    simp [execHcbPoll, State.poll, hx, hOnBus, hBus]
  · intro s b h hx hOnBus hBus hBusOf hNextHive
    simp only [exec_hcbPoll, execHcbPoll, State.poll, hx, hOnBus, hBus, hBusOf, hNextHive, if_true, if_false, Bool.not_true,
      reduceCtorEq]
  · intro s u h q st b r hHive hx hPolled hHive2
    have hgood : st ≤ 2 := by omega
    simp only [exec_hcbReply, execHcbReply, hHive, Nat.not_lt.mpr hgood, ← hPolled, hHive2, if_true, if_false, ok]
  · intro s b q r hBus hOnBus hCmd
    simp [execHcbRequestRetry, hBus, hOnBus, hCmd]
  · intro s n h hHive hState hInService hLastReply
    simp [execShelfSilentTimeout, hHive, hState, hInService, Nat.not_lt.mpr hLastReply]
  · intro s n h hHive hState hVoteAt
    simp_all [execWakeTimeout]
  · intro s n t p h hHive hWakeFailedAt hTopNeed hBrood hVoteUp hNow
    simp [execWakeRetry, hHive, hWakeFailedAt, hTopNeed, hBrood, hVoteUp, Nat.not_lt.mpr hNow]
  · intro s n h hHive hBrood hOwns hDarkDecided hState hTopNeed hIdleSince
    simp_all [execHiveIdleDarkExpiry]
  · intro s n h hHive hDarkDecided hDarkPoint hVoteUp hBusyHive hGather hRebuildNeed hRows hHasOpen hOnBus
    simp [execDarkPoint, hHive, hDarkDecided, hDarkPoint, hVoteUp, hBusyHive, hGather, hRebuildNeed, hRows, hHasOpen, hOnBus]
  · intro s n
    simp only [exec_gatherWakeTrigger, execGatherWakeTrigger]
  · intro s u k q i nsid a b c hs hCmd hDeadline hKind hGather hx hGather2 hx2
    simp only [exec_gatherDeadline, execGatherDeadline, hCmd, ← hGather, List.isEmpty_eq_false_iff.mpr hx, Nat.not_lt.mpr hDeadline,
      decide_false, Bool.or_self, hGather2, hKind, ← hx2, Bool.false_eq_true, if_false, ok]
  · intro s n a e p h hHive hToken hTopNeed hReachable hTokenAsked hTokenGot hDarkDecided
    simp [execTokenRenewal, hHive, hToken, hTopNeed, hReachable, hTokenAsked, Nat.not_lt.mpr hTokenGot, hDarkDecided]
  · intro s n t p h hHive hTokenAsked hTopNeed hTokenRefused hReachable hNow
    simp [execTokenRequestRetry, hHive, hTokenAsked, hTopNeed, hTokenRefused, hReachable, Nat.not_lt.mpr hNow]
  · intro s n a e h hHive hToken hReachable hTick
    simp [execWorkerTokenExpiry, hHive, hToken, hReachable, Nat.not_lt.mpr hTick]
  · intro s t hLastContact hMember hReachable hAutonomyDone hNow
    simp [execQueenAutonomyEnd, hLastContact, hMember, hReachable, hAutonomyDone, Nat.not_lt.mpr hNow]

/-- Settles O29, command by command. -/
theorem colonyQueenComplete : Obligations.ColonyQueenComplete := by
  refine ⟨?_, ?_, ?_, ?_, ?_, ?_, ?_, ?_, ?_, ?_, ?_, ?_, ?_, ?_⟩
  · intro s a ser ha hb ads hIsQueen hx hx2 hMembers
    simp [execJoin, State.atQueen, hIsQueen, hx, Nat.not_lt.mpr hx2, hMembers]
  · intro s a ser ha hb ads hIsQueen hMembers
    simp [execJoin, State.atQueen, hIsQueen, hMembers]
  · intro s a hIsQueen hx hMembers
    simp [execLeave, State.atQueen, hIsQueen, hx, hMembers]
  · intro s u hIsQueen hLastContact hCo
    simp [execContactSend, hIsQueen, Nat.not_lt.mpr hLastContact, hCo]
  · intro s t r m hIsQueen hMember hKeyGen hTokens hControl hKeyGen2
    simp only [exec_report, execReport, atQueen_same hIsQueen, hMember, Option.getD_some, ← hControl, Nat.not_lt.mpr hKeyGen2,
      decide_false,
      Bool.false_and, Bool.false_eq_true, if_false, hTokens, List.any_nil, List.foldl_nil, State.cond, ok]
  · intro s a h v p n hIsQueen
    simp [execTokenRequest, State.atQueen, hIsQueen]
  · intro s a n h hApiary hIsQueen hAtNs
    simp [execHeldTokenRequestTimeout, hApiary, hIsQueen, Nat.not_lt.mpr hAtNs]
  · intro s i hIsQueen
    simp [execColonyDormant, State.atQueen, hIsQueen]
  · intro s i t hId hIsQueen hExpiry
    simp [execQueenTokenExpiry, hId, hIsQueen, Nat.not_lt.mpr hExpiry]
  · intro s h r hIsQueen hOtherHead
    simp [execArbitrate, State.atQueen, hIsQueen, hOtherHead]
  · intro s h o hIsQueen hOtherHead hx
    simp [execArbitrate, State.atQueen, hIsQueen, hOtherHead, hx]
  · intro s h v m hs hIsQueen hMember hx hx2
    simp only [exec_updateState, execUpdateState, atQueen_same hIsQueen, hMember, Bool.not_true, ← hx, hx2, Bool.false_and,
      Bool.false_eq_true, if_false, ok]
  · intro s hIsQueen hRolling hHaltedRollout hWaves hVacated
    simp [execRolloutWaveOpen, hIsQueen, hRolling, hHaltedRollout, Nat.not_lt.mpr hWaves, hVacated]
  · intro s ep a ser ha hb h v p n ads r b d hIsQueen hEpochLow
    have hdep : ∀ f, s.atQueen ep f = s.deposeBy (s.epochOf ep) := atQueen_higher hIsQueen hEpochLow
    simp only [List.forall_mem_cons, exec_join, execJoin, exec_leave, execLeave, exec_report, execReport, exec_tokenRequest,
      execTokenRequest,
      exec_colonyDormant, execColonyDormant, exec_arbitrate, execArbitrate, exec_updateState, execUpdateState, hdep, ok, true_and]
    exact List.forall_mem_nil _

/-- Settles O30, command by command. -/
theorem colonyWorkerComplete : Obligations.ColonyWorkerComplete := by
  refine ⟨?_, ?_, ?_, ?_, ?_, ?_, ?_, ?_, ?_, ?_, ?_⟩
  · intro s u w is a t c e hJoinWait hEpoch hCo
    simp only [exec_joinReply, execJoinReply, hJoinWait, Nat.not_lt.mpr hEpoch, hCo, if_true, if_false]
  · intro s u w is a t c e hJoinWait hEpoch hVstat hCo
    simp only [exec_joinReply, execJoinReply, hJoinWait, Nat.not_lt.mpr hEpoch, hVstat, hCo, if_false, Bool.false_eq_true]
  · intro s src e g o hMember hEpoch hQueenHead hReachable hLastContact hSettingsGen
    simp [execContact, hMember, Nat.not_lt.mpr hEpoch, hQueenHead, hReachable, hLastContact, hSettingsGen]
  · intro s src e g o hMember hEpoch hQueenHead
    simp only [exec_contact, execContact, hMember, Bool.not_true, Nat.not_lt.mpr hEpoch.le, decide_false, Bool.or_self,
      Bool.false_eq_true,
      if_false, hQueenHead, if_true, hEpoch, ok]
  · intro s t hMember hReachable hQueenHead hLastContact hNow
    have hsilent : (s.co.lastContact.any fun t => t + 10 * second ≤ s.ck.now) = true := by
      rw [hLastContact, Option.any_some, decide_eq_true_iff]
      exact hNow
    rw [exec_queenUnreachable, execQueenUnreachable, hsilent, hMember, hReachable, hQueenHead, ok]
    exact congrArg _ (if_neg Bool.false_ne_true)
  · intro s u t aut h hMember hApiary hHive hWaiters hDarkDecided hCo
    simp [execTokenGrant, State.atWorker, State.cond, hMember, hApiary, hHive, hWaiters, hDarkDecided, hCo]
  · intro s n c h v hReqs hHive hWaiters
    simp [execTokenRefuse, State.atWorker, State.cond, hReqs, hHive, hWaiters]
  · intro s i t hId
    simp [execTokenRecall, State.atWorker, State.cond, hId]
  · intro s t g k is hMember hQueenHead hx hx2 hPend hColonyGen hColonyGen2 hCo
    have hnew : ¬ t.colonyGen < k := by omega
    have hpend : t.ks.colony.pend = none := by rw [hCo]; exact hPend
    simp only [exec_colonySettings, execColonySettings, atWorker_same, hMember, hQueenHead, Bool.not_true, Bool.or_self,
      Bool.false_eq_true,
      if_false, ← hCo, hx, hpend, Option.any_none, hnew, decide_false, gt_iff_lt, Bool.false_and, Bool.and_false, hx2, List.head?_nil,
        ok]
  · intro s t hLagSince hNow hLagSaid hStopped
    have hday : (s.co.lagSince.any fun t => t + 86400 * second ≤ s.ck.now) = true := by
      rw [hLagSince, Option.any_some, decide_eq_true_iff]
      exact hNow
    simp only [exec_colonyKeyLagTimeout, execColonyKeyLagTimeout, hday, hLagSaid, hStopped, Bool.not_false, Bool.and_self, if_true, ok]
  · intro s ep n d t is hEpochLow
    have hkeep : ∀ f, s.atWorker ep f = s := atWorker_lower hEpochLow
    simp only [List.forall_mem_cons, exec_tokenGrant, execTokenGrant, exec_tokenRefuse, execTokenRefuse, exec_tokenRecall,
      execTokenRecall,
      exec_colonySettings, execColonySettings, hkeep, ok, true_and]
    exact List.forall_mem_nil _

end Sys2Proof.Machine

/-! PROOFS. Ticks and digests of the pair, and the shelf controllers (R354, R540). -/

namespace Sys2Proof.Machine

/-- A waggle that comes over the fabric leaves the wax of the head, whether or not the path was lost (R550). -/
theorem pathBack_fabric_wx (s : State) : (s.pathBack true).wx = s.wx := by
  simp only [State.pathBack, if_true]
  split
  · exact State.ev0_wx _ _ _ _
  · rfl

/-- Settles O33, command by command. -/
theorem pairTicksComplete : Obligations.PairTicksComplete := by
  refine ⟨?_, ?_, ?_, ?_, ?_, ?_, ?_, ?_, ?_, ?_, ?_⟩
  · intro s hSleep
    simp [execCommitTick, hSleep]
  · intro s hSleep hJoined
    simp [execCommitTick, hSleep, hJoined]
  · intro s u m hHead hSleep hStopped hGrant hDeclared hFabric hPeerTo hStat
    have hmine : (m.head != s.peerId || s.pw.sleep.isSome || s.md.stopped) = false := by
      rw [hHead, bne_self_eq_false, hSleep, hStopped]
      rfl
    have hpeer : u.wx.peerTo = none := by
      rw [hStat, State.stat, State.ct'_wx, pathBack_fabric_wx, hPeerTo]
    simp only [exec_waggle, execWaggle, hmine, hFabric, b2n, if_true, ← hStat, Bool.not_true, State.cond, hGrant, hDeclared,
      State.pr'_wx, hpeer,
      Option.any_none, Bool.false_and, Bool.false_eq_true, if_false, ok]
  · intro s hLeaseEnd
    simp only [exec_leaseEnd, execLeaseEnd, hLeaseEnd, if_true]
  · intro s m hHead hJoined hDeclared hStopped
    simp [execTickDigest, hHead, hJoined, hDeclared, hStopped]
  · intro s m hShChain hTick hEchoResult hVaultCount hVaultDiff hOwn
    have hnext : s.pr.shChain.isEmpty = false := List.isEmpty_eq_false_iff.mpr hShChain
    have hturn : (m.tick != s.pr.echoTick + 1) = false := by rw [hTick, bne_self_eq_false]
    simp only [State.tickDigest, hnext, ← hOwn, hturn, bne_self_eq_false, beq_eq_false_iff_ne.mpr hVaultCount,
      Nat.not_le.mpr hVaultDiff,
      hEchoResult, decide_false, Bool.not_false, Bool.and_false, Bool.false_and, Bool.or_self, Bool.false_eq_true, if_false]
  · intro s ok hUnresolved hOwnReport hMember
    simp [execSelfCheck, hUnresolved, hOwnReport, hMember]
  · intro s r hUnresolved
    simp [execSelfCheckReport, hUnresolved]
  · intro s a b hOwnReport hPeerReport hRight
    simp only [State.judgeReports, hOwnReport, hPeerReport, bne_iff_ne.mpr hRight, if_true]
  · intro s hUnresolved hInMode hMismatchAt hOwnReport
    simp [execSelfCheckReportTimeout, hUnresolved, hInMode, Nat.not_lt.mpr hMismatchAt, hOwnReport]
  · intro s hSide hSetting hJoined hYielding hDeclared hMissFabric hLastCtx5
    simp [execPeerIsolationYield, hSide, hSetting, hJoined, hYielding, hDeclared, Nat.not_le.mpr hMissFabric, Nat.not_lt.mpr hLastCtx5]

/-- Settles O27, command by command. -/
theorem shelvesComplete : Obligations.ShelvesComplete := by
  refine ⟨?_, ?_, ?_, ?_, ?_, ?_, ?_, ?_, ?_, ?_, ?_, ?_⟩
  · intro s h q x hShelf hx
    simp [execHcbStatus, State.shelfAnswer, hShelf, hx]
  · intro s h q up x y hShelf hx hVote
    simp only [exec_hcbVote, execHcbVote, State.shelfAnswer, hShelf, hx, hVote]
  · intro s h q sd x y hShelf hx hVote
    simp only [exec_hcbVoteClear, execHcbVoteClear, State.shelfAnswer, hShelf, hx, hVote]
  · intro s h q up sd x r hShelf hx
    have hrep : ∀ f, s.shelfAnswer h .a q f = s.send (.shelfReply h .a r) := fun f => by simp only [State.shelfAnswer, hShelf, hx]
    simp only [exec_hcbStatus, execHcbStatus, exec_hcbVote, execHcbVote, exec_hcbVoteClear, execHcbVoteClear, hrep, ok, and_self]
  · intro x now hVoteA hPower hInputOk
    simp only [Shelf.heed, hVoteA, hPower, hInputOk, beq_self_eq_true, Bool.and_self, if_true]
  · intro x now hVoteA hPower
    simp [Shelf.heed, hVoteA, hPower]
  · intro x now hVoteA hPower
    simp [Shelf.heed, hVoteA, hPower]
  · intro s h
    simp only [exec_shelfInputFailure, execShelfInputFailure]
  · intro s h x hShelf hInputOk
    simp only [exec_holdupReserveSpent, execHoldupReserveSpent, hShelf, hInputOk, if_false, Bool.false_eq_true]
  · intro s h
    simp only [exec_shelfInputReturn, execShelfInputReturn]
  · intro s h g
    simp only [exec_slotsPowered, execSlotsPowered]
  · intro s h x hShelf hPower
    simp [execSlotsPowerRemoved, hShelf, hPower]

end Sys2Proof.Machine

/-! PROOFS. Forage and replication (R480, R518). -/

namespace Sys2Proof.Machine

/-- An admitted NAK of a bound context that the far end owns is acted on by its code (R501). -/
theorem forageNak_admitted {s u : State} {p g : FPkt} {n code off map : Nat} {id : BitVec 32} {c : Ctx} (hStopped : s.md.stopped = false)
    (hNakOf : g = p.nakOf n id code off map) (hCheckPkt : s.checkPkt g g.fitsAnswer = (u, true)) (hCtx : u.ctx? n = some c)
    (hFarHead : c.farHead = g.srcHead) (hFarCtx : c.farCtx = g.srcCtx) (hState : (c.state == .bound) = true) :
    exec (.forageNak p n id code off map) s = .next (u.forageNak c g) := by
  have hdst : g.dstCtx = n := by rw [hNakOf]; rfl
  have hbound : (c.state != .bound) = false := by rw [bne, hState]; rfl
  simp only [exec_forageNak, execForageNak, hStopped, ← hNakOf, hCheckPkt, hdst, hCtx, hFarHead, hFarCtx, hbound, bne_self_eq_false,
    Bool.not_true, Bool.or_self, Bool.false_eq_true, if_false, ok]

/-- Settles O31, command by command. -/
theorem forageComplete : Obligations.ForageComplete := by
  refine ⟨?_, ?_, ?_, ?_, ?_, ?_, ?_, ?_, ?_, ?_, ?_, ?_, ?_, ?_⟩
  · intro s p c j hStopped
    simp only [exec_forageWrite, execForageWrite, exec_writeImm, execWriteImm, exec_readReq, execReadReq, exec_readResp, execReadResp,
      hStopped,
      Bool.false_eq_true, if_false, ok, and_self]
  · intro s p c j hPort hMagicOk
    have hpeer : ¬ 4 ≤ p.port := Nat.not_le.mpr hPort
    have hbad : s.checkPkt p p.fits = ((s.stat 0x0901 0 1 1).bump 0x0909 0 0 1, false) := by
      simp only [State.checkPkt, hpeer, decide_false, b2n, Bool.false_and, Bool.false_eq_true, if_false, hMagicOk, Bool.not_false,
        if_true]
      split <;> rfl
    simp only [State.arrive, hbad, Bool.not_false, if_true]
  · intro s u p g n rx echo id map c hStopped hAckOf hCheckPkt hCtx hFarHead hFarCtx hState hDeclared
    have hdst : g.dstCtx = n := by rw [hAckOf]; rfl
    have hbound : (c.state != .bound) = false := by rw [bne, hState]; rfl
    simp only [exec_forageAck, execForageAck, hStopped, ← hAckOf, hCheckPkt, hdst, hCtx, hFarHead, hFarCtx, hbound, hDeclared,
      bne_self_eq_false,
      Bool.not_true, Bool.false_and, Bool.and_false, Bool.or_self, Bool.false_eq_true, if_false, ok]
  · intro s u p g n rx echo id map hStopped hAckOf hCheckPkt
    simp only [exec_forageAck, execForageAck, hStopped, ← hAckOf, hCheckPkt, Bool.not_false, Bool.true_or, Bool.false_eq_true, if_false,
      if_true,
      ok]
    split <;> rfl
  · intro s u p g n code off map id c hStopped hNakOf hCheckPkt hCtx hFarHead hFarCtx hState
    have hacts := forageNak_admitted hStopped hNakOf hCheckPkt hCtx hFarHead hFarCtx hState
    have hmsg : p.msgId = g.msgId := by rw [hNakOf]; rfl
    refine ⟨fun m hcode hm => ?_, fun hcode => ?_, fun hcode => ?_, fun hcode => ?_⟩
    · simp only [hacts, State.forageNak, hcode, hm]
    · simp only [hacts, State.forageNak, hcode, hmsg]
    · rcases hcode with hc | hc | hc | hc <;> simp only [hacts, State.forageNak, hc]
    · simp only [hacts, State.forageNak, hcode]
  · intro s n es c hCtx hStopped
    simp only [exec_sendQueuePost, execSendQueuePost, hCtx, hStopped, if_false, Bool.false_eq_true]
  · intro s u n c hCtx hStopped hSent hReadWait hState hx hCtx2 hFabric
    rcases hx with hx | hx <;> simp_all [execRetransmissionTimeout]
  · intro s n c m ms hCtx hSent hStopped hOrigin
    have hlate : (c.sent.head?.any fun m => decide (m.origin + 80 * milli ≤ s.ck.now)) = true := by
      rw [hSent, List.head?_cons, Option.any_some, decide_eq_true_iff]
      exact hOrigin
    simp only [exec_messageGiveUp, execMessageGiveUp, hCtx, hStopped, hlate, Bool.true_or, Bool.not_true, Bool.or_self,
      Bool.false_eq_true,
      if_false, ok]
  · intro s n c hCtx hStopped hBroken hPlacing hOp
    simp [execConnectionBreak, hCtx, hStopped, hBroken, hPlacing, hOp]
  · intro s n c hCtx hStopped hState hRnrUntil
    simp_all [execRnrBackoffExpiry]
  · intro s u hFg hRecentFull
    simp_all [execRecentIdAging]
  · intro s n c hCtx hResident hStopped
    simp [execContextFetchDone, hCtx, hResident, hStopped]
  · intro s n c hCtx hPinned hResident hStopped
    simp [execContextFail, hCtx, hPinned, hResident, hStopped]
  · intro s n p hPath hJoined hPathInFlight hLastUse
    simp [execPathIdleFree, hPath, hJoined, hPathInFlight, Nat.not_lt.mpr hLastUse]

/-- Settles O32, command by command. -/
theorem replicationComplete : Obligations.ReplicationComplete := by
  refine ⟨?_, ?_, ?_, ?_, ?_, ?_, ?_, ?_, ?_, ?_, ?_, ?_, ?_, ?_, ?_, ?_, ?_, ?_, ?_, ?_, ?_⟩
  · intro s src g so mode ds hx hDetachedFrom
    simp [execSetup, hx, hDetachedFrom]
  · intro s src g so mode d ds hDetachedFrom hOrdSpent
    simp [execSetup, hDetachedFrom, hOrdSpent]
  · intro s src g so mode d salt k hDetachedFrom hOrdSpent hDomainTaken hUnwrapKeys hKeyRec
    simp [execSetup, hDetachedFrom, hOrdSpent, hDomainTaken, hUnwrapKeys, hKeyRec]
  · intro s n c g hGroup hLeads hState hBased
    have hlead : ∀ f, (s.group' n f).leads g = true := fun _ => hLeads
    have hopen : (g.state != .connecting && g.state != .paused) = false := by
      rcases Bool.or_eq_true_iff.mp hState with h | h <;> simp only [bne, h, Bool.not_true, Bool.false_and, Bool.and_false]
    simp only [exec_setupReply, execSetupReply, hGroup, hlead, hopen, hBased, Bool.not_true, Bool.false_eq_true, if_false, ok]
    rfl
  · intro s n c g hGroup hLeads hx
    have hlead : ∀ f, (s.group' n f).leads g = true := fun _ => hLeads
    simp only [exec_setupReply, execSetupReply, hGroup, hlead, hx, Bool.not_true, Bool.not_false, Bool.false_eq_true, if_false, if_true,
      ok]
  · intro s src n r hDetachedFrom hReplica
    simp only [exec_positionQuery, execPositionQuery, hDetachedFrom, hReplica, if_false, Bool.false_eq_true]
  · intro s n q o g hGroup hLeads hState hBased hSeq
    simp [execPosition, hGroup, hLeads, hState, hBased, hSeq]
  · intro s n t g hGroup hQueryAt hNow
    have hlate : (g.queryAt.any fun t => t + 80 * milli ≤ s.ck.now) = true := by
      rw [hQueryAt, Option.any_some, decide_eq_true_iff]
      exact hNow
    refine ⟨?_, fun hb => ?_⟩
    · simp only [exec_positionQueryTimeout, execPositionQueryTimeout, hGroup, hlate, if_true, ok]
    · simp only [State.askTarget, hb, if_true]
  · intro s src n b r hDetachedFrom hReplica
    simp [execOffer, hDetachedFrom, hReplica]
  · intro s u n b g f x hGroup hNum hStat hx
    simp [execNeed, dedupBy, hGroup, hNum, hStat, hx]
  · intro s src n d c gen cl body r hDetachedFrom hReplica hOpenChunk
    simp only [exec_chunk, execChunk, hDetachedFrom, hReplica, hOpenChunk, if_false, Bool.false_eq_true]
  · intro s u src n d c gen cl body frame content r landed hDetachedFrom hReplica hOpenChunk hDomains hOffers hLandShipped
    simp_all [execChunk]
  · intro s u src n a b fin r hDetachedFrom hReplica hReplica2 hAppliedSeq
    simp_all [execBatch]
  · intro s u n q g e hGroup hLeads hBase hSeq hConfirmed hGroup2 hSnapMode
    simp only [exec_applied, execApplied, hGroup, hLeads, hBase, ← hGroup2, hSnapMode, hSeq, hConfirmed, Bool.not_true,
      Bool.false_eq_true, if_false, if_true, ok]
  · intro s n
    simp only [exec_batchClose, execBatchClose]
  · intro s n g hGroup hLeads hSetting
    simp_all [execGroupLapse]
  · intro s src d len fp hChunkOfFp
    simp only [exec_repairAsk, execRepairAsk, State.answerAsk, hChunkOfFp]
  · intro s t src d c x i gen cl len fp b body hChunkOfFp hReadChunk hChunkMsg hx hOwns
    simp [execRepairAsk, State.answerAsk, hChunkOfFp, hReadChunk, hChunkMsg, hx, hOwns]
  · intro s d c gen cl body frame content r hOpenChunk hDomain
    simp only [exec_repairData, execRepairData, hOpenChunk, hDomain]
  · intro s d fp r hDomain
    simp only [exec_repairNone, execRepairNone, hDomain]
  · intro s d c r hDomain hAtNs
    simp only [exec_repairTimeout, execRepairTimeout, hDomain, hAtNs, if_true]

end Sys2Proof.Machine

/-! PROOFS. The tasks and registers of a bridge (R309 to R343, R810). -/

namespace Sys2Proof.Machine

/-- The opening commands of the die tasks are those that begin a task on the die (R324). -/
theorem dieAccepts_of_begins {u : State} {n : Nat} {p : Side} {f : LFrame} {i : Instr} {op : TaskOp}
    (hc : (i, op) ∈ (dieTaskInstrs n p f).take 5) :
    u.dieAccepts n p (f.task op) = u.die' n f.die fun d => (d.unfavour p).begin p (f.task op) u.ck.now := by
  simp only [dieTaskInstrs, List.take_succ_cons, List.take_zero, List.mem_cons, List.not_mem_nil, or_false, Prod.mk.injEq] at hc
  obtain ⟨-, rfl⟩ | ⟨-, rfl⟩ | ⟨-, rfl⟩ | ⟨-, rfl⟩ | ⟨-, rfl⟩ := hc <;> rfl

section
variable {s u : State} {n : Nat} {p : Side} {f : LFrame} {b c : Bridge} {op : TaskOp} (h : AtBridge s n p f b) (hType : f.type = 1)
  (hCut : u = (s.bridgeTook n p).cutProgram n p (f.task op)) (hBridge : u.bridge? n = some c)
include h hType hCut hBridge

/-- A die task in sequence that passes the checks of R810 begins. -/
theorem exec_dieTask_accepts {i : Instr} (hc : (i, op) ∈ dieTaskInstrs n p f) (hOp : f.op = op.num)
    (hJudge : u.judgeTask c p (f.task op) true = none) : exec i s = .next (u.dieAccepts n p (f.task op)) := by
  rw [exec_dieTaskInstr hc hOp, State.taskFrame_of_atBridge h hType hOp]
  simp only [State.dieTask, ← hCut, hBridge, hJudge]

/-- A die task in sequence that fails a check of R810 is refused with that check's status. -/
theorem exec_dieTask_refuses {i : Instr} {w : StatusWord} (hc : (i, op) ∈ dieTaskInstrs n p f) (hOp : f.op = op.num)
    (hJudge : u.judgeTask c p (f.task op) true = some w) : exec i s = .next (u.dieRefuses n p (f.task op) w) := by
  rw [exec_dieTaskInstr hc hOp, State.taskFrame_of_atBridge h hType hOp]
  simp only [State.dieTask, ← hCut, hBridge, hJudge]
end

/-- A fence task that takes effect stores its epoch and owner and is answered PASS (R341, R342). -/
theorem fenceTask_wins {s : State} {n : Nat} {p : Side} {b : Bridge} {h : TaskHdr} {wins : Bridge → Bool} (hb : s.bridge? n = some b)
    (hwins : wins b = true) (hfailed : b.failed = false) (hstore : b.storeFault = false) (epoch : Nat) :
    s.fenceTask n p h wins epoch =
      (s.bridge' n fun b => { b with epoch := epoch, owner := h.head }).bridgeDone n p h (plainStatus .pass false) := by
  simp only [State.fenceTask, hb, hwins, hfailed, hstore, Bool.not_false, Bool.and_self, if_true]

/-- A fence task whose condition does not hold is answered FENCE_LOST (R341). -/
theorem fenceTask_loses {s : State} {n : Nat} {p : Side} {b : Bridge} {h : TaskHdr} {wins : Bridge → Bool} (hb : s.bridge? n = some b)
    (hwins : wins b = false) (epoch : Nat) :
    s.fenceTask n p h wins epoch = s.bridgeDone n p h (plainStatus .fenceLost false) := by
  simp only [State.fenceTask, hb, hwins, Bool.false_and, Bool.false_eq_true, if_false]

@[simp] theorem port'_failed (b : Bridge) (p : Side) (f : BridgePort → BridgePort) : (b.port' p f).failed = b.failed := by
  cases p <;> rfl

@[simp] theorem port'_storeFault (b : Bridge) (p : Side) (f : BridgePort → BridgePort) : (b.port' p f).storeFault = b.storeFault := by
  cases p <;> rfl

/-- Settles O25, frame by frame. -/
theorem bridgeComplete : Obligations.BridgeComplete := by
  refine ⟨?_, ?_, ?_, ?_, ?_, ?_, ?_, ?_, ?_, ?_, ?_, ?_, ?_, ?_⟩
  · intro s u n p f b c i op h hType hOp hc hCut hBridge hJudge
    rw [exec_dieTask_accepts h hType hCut hBridge (List.mem_of_mem_take (i := 5) hc) hOp hJudge]
    exact congrArg _ (dieAccepts_of_begins hc)
  · intro s u n p f b c h hType hOp hCut hBridge hJudge
    exact exec_dieTask_accepts h hType hCut hBridge (by simp only [dieTaskInstrs, List.mem_cons, true_or, or_true]) hOp hJudge
  · intro s u n p f b c d r h hType hOp hCut hBridge hJudge hDie hSusp
    have hsusp : ((u.bridge? n).bind (·.die? f.die)).bind (·.susp) = some r := by
      rw [hBridge, Option.bind_some, hDie, Option.bind_some, hSusp]
    have hruns : u.dieAccepts n p (f.task .eraseResume) = ((u.eraseGoesOn n r).die' n f.die fun d =>
        (d.unfavour p).resumeBy p (f.task .eraseResume) (u.eraseGoesOn n r).ck.now).bridgeDone n p (f.task .eraseResume)
          (plainStatus .pass false) := by
      simp only [State.dieAccepts, LFrame.task, hsusp]
    have hclock : (u.eraseGoesOn n r).ck = u.ck := by
      unfold State.eraseGoesOn
      split <;> rfl
    rw [exec_dieTask_accepts h hType hCut hBridge (by simp only [dieTaskInstrs, List.mem_cons, true_or, or_true]) hOp hJudge, hruns,
      hclock]
  · intro s u n p f b c h hType hOp hCut hBridge hEpoch hFailed hFailed2
    have hjudge : u.judgeTask c p (f.task .read) false = some (plainStatus .badOp ((c.die? f.die).any (·.susp.isSome))) := by
      simp only [State.judgeTask, LFrame.task, hEpoch, lt_irrefl, hFailed, hFailed2, Bool.or_self, Bool.false_eq_true, if_false,
        Bool.not_false, Bool.true_or, if_true]
    simp only [exec_taskRead, execTaskRead, hType, hOp, Option.isNone_none, decide_true, Bool.and_self, if_true,
      State.bridgeFrame_of_atBridge h, State.badTask, ← hCut, hBridge, Option.bind_some, hjudge, ok]
  · intro s u n p f b c w i op h hType hOp hc hCut hBridge hJudge
    exact exec_dieTask_refuses h hType hCut hBridge hc hOp hJudge
  · intro s n p f b h hType hOp hEpoch hroom hFailed hStoreFault
    have hfence : (decide (f.type = 1) && f.op == TaskOp.fenceRaise.num) = true := by rw [hType, hOp]; rfl
    simp only [exec_fenceRaise, execFenceRaise, hfence, if_true, State.bridgeFrame_of_atBridge h, ok]
    rw [fenceTask_wins (State.bridge?_bridgeTook h.1 p) (by simp [← hEpoch, hroom]) (by simp [hFailed]) (by simp [hStoreFault])]
    rfl
  · intro s n p f b h hType hOp hEpoch hOwner hFailed hStoreFault
    have hfence : (decide (f.type = 1) && f.op == TaskOp.fenceAdopt.num) = true := by rw [hType, hOp]; rfl
    simp only [exec_fenceAdopt, execFenceAdopt, hfence, if_true, State.bridgeFrame_of_atBridge h, ok]
    rw [fenceTask_wins (State.bridge?_bridgeTook h.1 p) (by simp [hEpoch, hOwner]) (by simp [hFailed]) (by simp [hStoreFault])]
    rfl
  · intro s n p f b h hType hOp hEpoch
    have hfence : (decide (f.type = 1) && f.op == TaskOp.fenceRaise.num) = true := by rw [hType, hOp]; rfl
    simp only [exec_fenceRaise, execFenceRaise, hfence, if_true, State.bridgeFrame_of_atBridge h, ok]
    rw [fenceTask_loses (State.bridge?_bridgeTook h.1 p) (by simp [hEpoch])]
  · intro s n d good b x e hBridge hPowered hDie hExec hOp
    simp only [exec_dieTaskDone, execDieTaskDone, hBridge, hPowered, hDie, hExec, hOp, if_true]
  · intro s n d good b x e hBridge hPowered hDie hExec hOp hPages
    simp [execDieTaskDone, hBridge, hPowered, hDie, hExec, hOp, Nat.not_lt.mpr hPages]
  · intro s n d good b x e hBridge hPowered hDie hExec hOp
    simp only [exec_dieTaskDone, execDieTaskDone, hBridge, hPowered, hDie, hExec, hOp, if_true]
  · intro s n d b x w hBridge hPowered hDie hSusp hExec hIdleSince
    simp [execEraseAutoResume, hBridge, hPowered, hDie, hSusp, hExec, Nat.not_lt.mpr hIdleSince]
  · intro s n d
    simp only [exec_favouredPortExpiry, execFavouredPortExpiry]
  · intro s u n count p f g b c hType hg h hlow hhigh hTook hBridge
    have hcount : (decide (count = 0) || decide (1024 < count)) = false := by simp; omega
    have htype : (f.type != 5) = false := by rw [hType]; rfl
    simp only [exec_regRead, execRegRead, ← hg, htype, State.bridgeFrame_of_atBridge h, ← hTook, hBridge, gt_iff_lt, hcount,
      Bool.false_eq_true, if_false, ok]
    rfl

end Sys2Proof.Machine

/-! PROOFS. The head's end of a comb link (R310 to R347). -/

namespace Sys2Proof.Machine

/-- Changing a link that is there leaves it there, changed (the links are listed once each by number). -/
theorem link?_link' {s : State} {n : Nat} {l : Link} {f : Link → Link} (hf : ∀ x, (f x).link = x.link) (hl : s.link? n = some l) :
    (s.link' n f).link? n = some (f l) := by
  have hfind := find?_updFirst (p := (·.link == n)) (f := f) (fun x => by simp [hf]) s.cl.links
  unfold State.link? at hl
  simp [State.link?, State.link', hfind, hl]

/-- What the head sends in acknowledgement leaves the links. -/
theorem link?_headAck (s : State) (n m : Nat) : (s.headAck n).link? m = s.link? m := by
  unfold State.headAck
  split <;> rfl

/-- A frame that is taken moves the number that its link expects next (R312). -/
theorem link?_headTook {s : State} {n : Nat} {l : Link} (hl : s.link? n = some l) :
    (s.headTook n).link? n = some { l with rxSeq := l.rxSeq + 1, nakSent := false } :=
  (link?_headAck _ n n).trans (link?_link' (f := fun l => { l with rxSeq := l.rxSeq + 1, nakSent := false }) (fun _ => rfl) hl)

/-- A frame in sequence is acted on in the state where it has been taken. -/
theorem headFrame_of_atHead {s u : State} {n : Nat} {f : LFrame} {l : Link} (h : AtHead s n f l u) (act : State → State) :
    s.headFrame n f act = act u := by
  obtain ⟨hl, hup, hsound, hack, hseq, hu⟩ := h
  simp only [State.headFrame, State.headHears, hl, Option.isNone_some, hsound, hack, hup, hseq, beq_self_eq_true, Bool.not_true,
    Bool.false_eq_true, if_false, if_true, bne_self_eq_false, Bool.false_and, hu]

/-- Where a frame in sequence is acted on, its link is up as before and holds the same tasks. -/
theorem link?_of_atHead {s u : State} {n : Nat} {f : LFrame} {l : Link} (h : AtHead s n f l u) :
    ∃ m, u.link? n = some m ∧ m.state = .up ∧ m.tasks = l.tasks := by
  obtain ⟨hl, hup, -, -, -, hu⟩ := h
  rw [hu]
  exact ⟨_, link?_link' (fun _ => rfl) (link?_headTook hl), hup, rfl⟩

/-- Settles O26, frame by frame and timer by timer. -/
theorem linkEndComplete : Obligations.LinkEndComplete := by
  refine ⟨?_, ?_, ?_, ?_, ?_, ?_, ?_, ?_, ?_, ?_, ?_, ?_, ?_, ?_, ?_, ?_, ?_, ?_, ?_, ?_, ?_, ?_, ?_, ?_⟩
  · intro s u n f g vals l hType hg h hRegIn
    obtain ⟨m, hm, hup, htasks⟩ := link?_of_atHead h
    have hwhole : (m.state == .registers) = false := by rw [hup]; rfl
    have htype : (f.type != 6) = false := by rw [hType]; rfl
    simp only [exec_regData, execRegData, htype, ← hg, headFrame_of_atHead h, State.regsArrive, hm, hRegIn, hwhole, htasks,
      Bool.false_eq_true,
      if_false, ok]
  · intro l w
    simp [Link.regsTaken, regIn]
  · intro s u n p f l h
    refine ⟨fun ht => ?_, fun ht => ?_⟩
    · simp only [exec_dataFrame, execDataFrame, ht, bne_self_eq_false, Bool.not_true, Bool.false_and, Bool.false_eq_true, if_false,
      if_true,
        headFrame_of_atHead h, ok]
    · simp only [exec_pageEnd, execPageEnd, ht, bne_self_eq_false, Bool.false_eq_true, if_false, if_true, headFrame_of_atHead h, ok]
  · intro s n p f b h
    refine ⟨fun ht => ?_, fun ht => ?_, fun ht => ?_⟩
    · have hknown : unknownFrame 2 = false := rfl
      simp only [exec_dataFrame, execDataFrame, ht, hknown, bne_self_eq_false, Bool.and_false, Bool.false_eq_true, if_false,
        State.bridgeFrame_of_atBridge h, ok]
    · simp only [exec_dataFrame, execDataFrame, ht, Bool.not_false, Bool.and_self, if_true, ok]
    · simp only [exec_pageEnd, execPageEnd, ht, bne_self_eq_false, Bool.false_eq_true, if_false, State.bridgeFrame_of_atBridge h, ok]
  · intro s n p f b hBridge hPowered hSound act
    simp only [State.bridgeFrame, State.bridgeHears, hBridge, hPowered, hSound, Bool.not_true, Bool.not_false, Bool.false_eq_true,
      if_false,
      if_true]
  · intro s u n f l act h
    exact headFrame_of_atHead h act
  · intro s u n f l k h hType hTag
    simp only [exec_doneFrame, execDoneFrame, hType, bne_self_eq_false, Bool.false_eq_true, if_false, headFrame_of_atHead h, hTag, ok]
  · intro s u n f l h hType hFld
    simp only [exec_bridgeEvent, execBridgeEvent, hType, bne_self_eq_false, Bool.false_eq_true, if_false, headFrame_of_atHead h, hFld,
      ok]
    rfl
  · intro s n p f l b hType hSound hAckValid
    simp_all [execHello, State.headHears, State.bridgeHears]
  · intro s n f l hLink hFld hFld2
    simp only [State.helloAtHead, hLink, hFld, bne_self_eq_false, Bool.false_eq_true, if_false, bne_iff_ne.mpr hFld2, if_true]
  · intro s n p f l b hType hSound hAckValid
    simp_all [execLinkAck, State.headHears, State.bridgeHears]
  · intro s n p f l b hType hSound hAckValid
    simp_all [execLinkNak, State.headHears, State.bridgeHears]
  · intro s n l hLink hState hUnacked hResends
    simp [execLinkResendTimer, hLink, hState, hUnacked, Nat.not_le.mpr hResends]
  · intro s n l hLink hState hUnacked hResends
    simp [execLinkResendTimer, hLink, hState, hUnacked, Nat.not_lt.mpr hResends]
  · intro s n
    simp only [exec_blockLockLost, execBlockLockLost]
  · intro s n x l hLink hState
    simp [execRetrain, State.startRetrain, hLink, hState]
  · intro s n l hLink hState hSince
    simp [execRetrainTimeout, hLink, hState, Nat.not_lt.mpr hSince]
  · intro s n l b hx hLink hBridge hState hPowered hHive hPeerSerials
    simp [execCombLinkBringUp, State.withLink, State.misplaced, hLink, hBridge, hState, hPowered, hHive, hPeerSerials]
  · intro s n l b hx hLink hBridge hState hPowered hx2
    simp_all [execCombLinkBringUp, State.withLink, State.misplaced, State.holdLink]
  · intro s n l hLink hState hSince
    simp [execLinkRetryTimer, hLink, hState, Nat.not_lt.mpr hSince]
  · intro s n t l hLink hState hDownSince hNow hPower hTasks
    have hlong : (l.downSince.any fun t => t + 5 * second < s.ck.now) = true := by
      rw [hDownSince, Option.any_some, decide_eq_true_iff]
      exact hNow
    have hdown : (l.state != .up) = true := by rw [hState]; rfl
    simp only [exec_linkDownTimeout, execLinkDownTimeout, hLink, hdown, hlong, hPower, hTasks, Bool.and_self, if_true, List.foldl_nil,
      ok]
  · intro s n tag l k hLink hTag hDeadline hUse hReissueAt hState hPower
    simp [execTaskDeadline, hLink, hTag, Nat.not_lt.mpr hDeadline, hUse, hReissueAt, hState, hPower]
  · intro s n b l hBridge hPowered hLink hTasks
    have htasks : ((((s.bridge' n fun b => { b with
        powered := true, failed := false, storeFault := false, events := [], portA := resetPort, portB := resetPort
        dies := b.dies.map (·.poweredUp s.ck.now) }).link? n).map (·.tasks)).getD []) = [] := by
      have hl : (s.bridge' n fun b => { b with
        powered := true, failed := false, storeFault := false, events := [], portA := resetPort, portB := resetPort
        dies := b.dies.map (·.poweredUp s.ck.now) }).link? n = some l := hLink
      rw [hl, Option.map_some, Option.getD_some, hTasks]
    simp only [exec_bridgePowerUp, execBridgePowerUp, hBridge, Option.any_some, hPowered, Option.isNone_some, Bool.or_self,
      Bool.false_eq_true,
      if_false, htasks, List.foldl_nil, ok]
    rfl
  · intro s n detail b hBridge hPowered
    simp [execBridgeHealthChange, hBridge, hPowered]

end Sys2Proof.Machine

/-! PROOFS. Fold, read-back, collection, wear moves and erases (R256, R286 to R305). -/

namespace Sys2Proof.Machine

/-! ## Writing a record leaves the clock -/

theorem foldl_ck {α : Type} {f : State → α → State} (hf : ∀ t a, (f t a).ck = t.ck) (l : List α) (s : State) : (l.foldl f s).ck = s.ck := by
  induction l generalizing s with
  | nil => rfl
  | cons a l ih => rw [List.foldl_cons, ih, hf]

theorem pathFor_ck (s : State) (head : Nat) (fabric : Bool) : (s.pathFor head fabric).1.ck = s.ck := by
  unfold State.pathFor
  split
  · rfl
  · split <;> rfl

theorem ensurePath_ck (s : State) (c : Ctx) : (s.ensurePath c).ck = s.ck := by
  simp only [State.ensurePath]
  have hpath := pathFor_ck s c.farHead (!s.sameApiary c.farHead || c.id == 6)
  split
  · rfl
  · split <;> next heq => rw [heq] at hpath; exact hpath

theorem sendPackets_ck (s : State) (c : Ctx) (m : MsgOut) (pick : Nat → Bool) : (s.sendPackets c m pick).ck = s.ck := by
  simp only [State.sendPackets]
  split
  · rfl
  · split
    · split <;> exact foldl_ck (f := State.send) (fun _ _ => rfl) _ s
    · rfl

theorem beginEntry_ck (s : State) (c : Ctx) (e : WorkEntry) : (s.beginEntry c e).ck = s.ck := by
  simp only [State.beginEntry]
  split
  · rfl
  · exact sendPackets_ck _ _ _ _

theorem pumpAux_ck (s : State) (id n : Nat) : (s.pumpAux id n).ck = s.ck := by
  induction n generalizing s with
  | zero => rfl
  | succ n ih =>
    simp only [State.pumpAux]
    split
    · rfl
    split
    · rfl
    split
    · exact ensurePath_ck _ _
    split
    · rw [ih, beginEntry_ck, ensurePath_ck]
    · exact ensurePath_ck _ _

theorem mirrorPush_ck (s : State) (ctx cookie len off : Nat) : (s.mirrorPush ctx cookie len off).ck = s.ck := by
  simp only [State.mirrorPush, State.postEntry]
  split
  · rfl
  · unfold State.pump
    split
    · rfl
    · exact pumpAux_ck _ _ _

theorem writePad_ck (s : State) (ring : WaxRing) (off u : Nat) : (s.writePad ring off u).ck = s.ck := by
  simp only [State.writePad, apply_ite State.ck, mirrorPush_ck, ite_self]
  rfl

theorem putRec_ck (s : State) (domain : Nat) (cont : Bool) (body : RecBody) (after : List After) :
    (s.putRec domain cont body after).ck = s.ck := by
  simp only [State.putRec]
  (repeat' split) <;> simp [mirrorPush_ck, writePad_ck, State.overwrite]

theorem commitRec_ck (s : State) (domain : Nat) (body : RecBody) : (s.commitRec domain false body []).ck = s.ck := by
  unfold State.commitRec
  rw [List.foldl_nil, apply_ite State.ck, apply_ite State.ck, State.wx'_ck, putRec_ck, ite_self, ite_self]

/-- A change of the map that nobody waits for leaves the clock. -/
theorem mapChange_ck (s : State) (domain : Nat) (items : List MapItem) : (s.mapChange domain items []).ck = s.ck := by
  rw [State.mapChange, State.commit, apply_ite State.ck, commitRec_ck, ite_self]

theorem setBlock_ck (s : State) (link die block : Nat) (st : BlockState) (qlc : Bool) (use : BlockUse) :
    (s.setBlock link die block st qlc use).ck = s.ck := by
  simp only [State.setBlock, mapChange_ck, State.blockState]
  split <;> rfl

/-! ## A wear move -/

/-- A wear move into the block set `d`, `k`: it is opened at `tick`, takes the units that lie in `b`, and is sealed (R302). -/
def wearFill (v : State) (l : Link) (b : BlockSet) (d k tick : Nat) : State :=
  let lies : Member → Bool := fun m => m.link == b.link && m.die == b.die && m.block == b.block
  let u := (v.setBlock l.link d k .opened b.qlc .wear).set' l.link d k fun x => { x with
    nextUnit := 0, progUnit := 0, openTick := tick, passed := false }
  let w := ((u.myStripes l.hive).filter fun t => t.members.any lies).foldl (fun x t => match t.members.findIdx? lies with
    | some i => x.wearUnit d k t i
    | none => x) u
  w.setBlock l.link d k .sealed b.qlc .wear

theorem wearSet_free {v : State} {l : Link} {b : BlockSet} {d k : Nat} (h : v.wornFree l b.qlc = some (d, k)) :
    v.wearSet l b = wearFill v l b d k v.ck.tick := by
  unfold State.wearSet
  rw [h]
  rfl

/-! ## The read-back of a row -/

/-- Where every stripe of a row is sound, all of them are placed (R289). -/
theorem endReadBack_sound {s : State} {r : FoldRow} (hFull : ∀ x ∈ r.sets, s.setFull x = true) (hStripes : r.stripes ≠ []) :
    s.endReadBack r [] = (((r.sets.foldl (fun t x => t.set' x.1 x.2.1 x.2.2 fun b => { b with passed := true })
      (s.me' fun m => { m with rows := m.rows.filter (· != r) })).placeStripes r.stripes).dirtySets) := by
  have hfull : r.sets.filter (!s.setFull ·) = [] := List.filter_eq_nil_iff.mpr fun x hx => by simp [hFull x hx]
  have hnone : r.stripes.filter (s.touches ([] ++ [])) = [] := by
    refine List.filter_eq_nil_iff.mpr fun o _ => ?_
    simp only [State.touches, List.append_nil, List.contains_nil, List.any_eq_true, Bool.false_eq_true, and_false, exists_false,
      Option.any_eq_true, not_false_iff]
  simp only [State.endReadBack, hfull, hnone, List.foldl_nil, List.isEmpty_nil, List.contains_nil, Bool.not_false, List.filter_true,
    List.isEmpty_eq_false_iff.mpr hStripes, Bool.false_eq_true, if_false, if_true]

/-- A stripe that has a unit in a block set has one in any longer list of them. -/
theorem touches_append {s : State} {xs : List (Nat × Nat × Nat)} {o : Nat} (h : s.touches xs o = true) (ys : List (Nat × Nat × Nat)) :
    s.touches (xs ++ ys) o = true := by
  simp only [State.touches, Option.any_eq_true, List.any_eq_true, List.contains_iff_mem] at h ⊢
  obtain ⟨t, ht, m, hm, hin⟩ := h
  exact ⟨t, ht, m, hm, List.mem_append_left _ hin⟩

/-- Settles O24, command by command. -/
theorem mediaComplete : Obligations.MediaComplete := by
  refine ⟨?_, ?_, ?_, ?_, ?_, ?_, ?_, ?_, ?_, ?_, ?_, ?_, ?_, ?_⟩
  · intro s u v w h x r hx hx2 hMayFinish hDarkDecided hGcFirst hMayMove hCheckFold hFoldable hx3 hOpenRow hx4
    simp_all [execFoldRow, State.foldRow]
  · intro s u v h hx hx2 hMayFinish hDarkDecided hGcFirst hMayMove hCheckFold hFoldable
    simp_all [execFoldRow, State.foldRow]
  · intro s u h hx hx2 hMayFinish hDarkDecided
    simp_all [execFoldRow, State.foldRow]
  · intro s u h r hSealedRow hHeed hMayFinish hFailedSets hx hStripes
    simp only [exec_readBackDone, execReadBackDone, hSealedRow, ← hHeed, hMayFinish, if_true, hFailedSets,
      endReadBack_sound hx hStripes, ok]
  · intro s u h r hSealedRow hHeed hMayFinish
    simp_all [execReadBackDone]
  · intro s u h r hHeed hSealedRow hMayFinish
    simp_all [execReadBackFail]
  · intro s u v r x hStripes hx hStripes2 hx2 hBump
    have hlost : r.stripes.filter (s.touches ([x] ++ r.sets.filter (!s.setFull ·))) = r.stripes :=
      List.filter_eq_self.mpr fun o ho => touches_append (List.all_eq_true.mp hStripes o ho) _
    have hgood : (r.stripes.filter fun o => !r.stripes.contains o) = [] := List.filter_eq_nil_iff.mpr fun o ho => by simp [ho]
    simp only [State.endReadBack, hlost, hgood, ← hx2, List.foldl_cons, List.foldl_nil, ← hBump, List.isEmpty_nil,
      List.isEmpty_eq_false_iff.mpr hStripes2, Bool.false_eq_true, if_false, if_true]
  · intro s u v o t hStripe hJudgeGc hMayMove hOrd hFoldFirst hWalkStripe hWalkWaits hLive
    simp_all [execGcMove, State.collect]
  · intro s u v o t hStripe hJudgeGc hMayMove hOrd hFoldFirst hWalkStripe hWalkWaits hLive hPurpose
    simp_all [execGcMove, State.collect, State.metaRewrite]
  · intro s u v w x o t hStripe hJudgeGc hMayMove hOrd hFoldFirst hWalkStripe hWalkWaits hLive hPurpose hLoseUnsound hSpentStripe hStripe2
    have hmay : (u.mayMove t.hive && (u.gcPick t.hive).any (·.ord == o) && !u.foldFirst t.hive) = true := by
      rw [hMayMove, hOrd, hFoldFirst]
      rfl
    have hlive : (t.live == 0) = false := beq_eq_false_iff_ne.mpr hLive
    have hdata : (t.purpose == .metadata) = false := by simpa using hPurpose
    refine ⟨fun y os hreg hcopy hos => ?_, fun y hreg hy hpick => ?_⟩
    · have hslc : (t.region != .honey) = true := by simpa using hreg
      simp only [exec_gcMove, execGcMove, hStripe, ← hJudgeGc, hmay, State.collect, ← hWalkStripe, hWalkWaits, hlive, hdata,
        ← hLoseUnsound,
        hSpentStripe, ← hStripe2, hslc, hcopy, List.isEmpty_eq_false_iff.mpr hos, Bool.false_eq_true, if_false, if_true, ok]
    · have hqlc : (t.region != .honey) = false := by rw [hreg]; rfl
      have hmore : (y.gcPick t.hive).isNone = false := by rw [← Option.not_isSome, hpick]; rfl
      simp only [exec_gcMove, execGcMove, hStripe, ← hJudgeGc, hmay, State.collect, ← hWalkStripe, hWalkWaits, hlive, hdata,
        ← hLoseUnsound,
        hSpentStripe, ← hStripe2, hqlc, ← hy, hmore, Bool.false_eq_true, if_false, if_true, ok]
  · intro s u v n d k l b hHeed hLink hMayMove hComb hx hx2 hWornFree
    have hrun : exec (.wearMove n) s = .next (v.wearSet l b) := by
      simp only [exec_wearMove, execWearMove, ← hHeed, hLink, hMayMove, hComb, Bool.not_true, Bool.or_self, Bool.false_eq_true,
        if_false, hx,
        ← hx2, ok]
    rw [hrun, wearSet_free hWornFree, ← setBlock_ck v l.link d k .opened b.qlc .wear]
    rfl
  · intro s u n l hHeed hLink hMayMove hComb hx hWearActive
    simp only [exec_wearMove, execWearMove, ← hHeed, hLink, hMayMove, hComb, Bool.not_true, Bool.or_self, Bool.false_eq_true, if_false,
      hx,
      hWearActive, if_true, ok]
  · intro s t u l d k pe b hSet hErased hState hAnchorSet hx hx2 hSuspect hStat hAnchorSet2 hSet2 hAnchorSet3
    simp only [exec_blockEraseDone, execBlockEraseDone, hSet, hErased, hState, beq_self_eq_true, Bool.and_self, if_true,
      State.eraseEnds, ← hx,
      ← hStat, Nat.not_le.mpr hx2, decide_false, hSuspect, Bool.or_self, Bool.false_eq_true, if_false, hAnchorSet2, ← hSet2,
        hAnchorSet3, ge_iff_le, ok]
  · intro s l d k b hSet hErased hState
    simp [execBlockEraseDone, hSet, hErased, hState]

end Sys2Proof.Machine

/-! PROOFS. Stripes, their rebuild and their reshape (R203 to R250). -/

namespace Sys2Proof.Machine

/-- Settles O23, command by command. -/
theorem stripesComplete : Obligations.StripesComplete := by
  refine ⟨?_, ?_, ?_, ?_, ?_, ?_, ?_, ?_, ?_, ?_, ?_, ?_, ?_, ?_, ?_, ?_⟩
  · intro s u h l o hLandsIn hOpenStripeBut
    simp only [exec_stripeOpen, execStripeOpen, State.openLanding, hLandsIn, hOpenStripeBut, if_true]
  · intro s h l hHivePowered
    simp_all [execStripeOpen]
  · intro s o f t ms hOpen hFirstAt hClosed hSetting hx
    simp [execStripeCloseTimer, State.closeStripe, hOpen, hFirstAt, hClosed, Nat.not_lt.mpr hSetting, hx]
  · intro s o t hOpen hClosed hCommitOrd hProg
    simp [execStripeProgramDone, State.commitStripe, hOpen, hClosed, hCommitOrd, hProg]
  · intro s u v o m t e x hOpen hx hx2 hCountProgFail hPower hFreshUnit
    simp_all [execMemberProgramFail]
  · intro s u o m t e hOpen hx hx2 hCountProgFail
    simp only [exec_memberProgramFail, execMemberProgramFail, hOpen, hx, hx2, hCountProgFail]
  · intro s u v o m t hStripe hReadable hSilent hReadSince hx hSp
    simp [execMemberReadTimeout, State.cond, hStripe, hReadable, hSilent, hReadSince, hx, hSp]
  · intro s u v n l hLink hComb hLink2 hx
    simp only [exec_combMarkFailed, execCombMarkFailed, State.markFailed, hLink, hComb, hLink2, hx, if_false, Bool.false_eq_true]
  · intro s u h r hHeed hMayFinish hHive
    simp_all [execRebuildStripe, State.rebuildTurn]
  · intro s v w x y r z t l ms at_ load hPurpose hx hHeedPages hReplaceUnits hx2 hx3 hStat hRebuild hHive hSinceCkpt
    have hdata : (t.purpose == .metadata) = false := by simpa using hPurpose
    have hshare : (!s.inMode .mend && !s.shareHolds load (s.setting 0x04000002)) = false := by rcases hx3 with h | h <;> simp [h]
    simp only [State.rebuildStripe, hdata, hx, Option.map_some, Option.all_some, ← hHeedPages, hReplaceUnits, ← hx2, hshare, ← hStat,
      b2n,
      Bool.not_true, Bool.false_eq_true, if_false, if_true, Nat.add_zero, ← hRebuild, hHive, Nat.not_le.mpr hSinceCkpt, ge_iff_le]
  · intro s u v h k w hHeed hMayFinish hHive hHive2 hHive3 hOpens hCommit
    simp only [exec_rebuildStripe, execRebuildStripe, ← hHeed, hMayFinish, hHive, State.retireStep, hHive2, hHive3, hOpens, ← hCommit,
      List.filter_nil, List.isEmpty_nil, Bool.not_true, Bool.or_self, Bool.false_eq_true, if_false, ok]
    rfl
  · intro s n l hLink hComb hFailed hReplacing
    simp [execReplacementComb, hLink, hComb, hFailed, hReplacing]
  · intro s u h r hHeed hHive hReshapeRuns hIsBrood hReshapePauses hPaused
    simp only [exec_reshapeStripes, execReshapeStripes, ← hHeed, hHive, hReshapeRuns, hIsBrood, hReshapePauses, hPaused,
      State.reshapePause,
      Bool.not_true, Bool.or_self, Bool.false_eq_true, if_false, if_true, ok]
  · intro s u v w h r t os hHeed hHive hReshapeRuns hIsBrood hReshapePauses hMayMove hPendingOld hReshapeNext hPurpose hRegion hCopySlc hx
    have hdata : (t.purpose == .metadata) = false := by simpa using hPurpose
    have hslc : (t.region != .honey) = true := by simpa using hRegion
    simp only [exec_reshapeStripes, execReshapeStripes, ← hHeed, hHive, hReshapeRuns, hIsBrood, hReshapePauses, hMayMove, ge_iff_le,
      Nat.not_le.mpr hPendingOld, hReshapeNext, State.reshapeOne, hdata, hslc, hCopySlc, List.isEmpty_iff, ← hx, Bool.not_true,
        Bool.or_self,
      Bool.false_eq_true, if_false, if_true, ok]
  · intro s u r load all hx hShareHolds
    simp only [State.reshapeCharge, ← hx, hShareHolds, Bool.not_true, Bool.false_eq_true, if_false]
  · intro s u h r hHeed hHive hReshapeRuns hIsBrood hReshapePauses hMayMove hPendingOld hReshapeNext hOldOpen hx
    have hold : (decide (r.oldN = 0) && decide (r.last < r.bound)) = false := by
      rcases hx with h | h
      · rw [decide_eq_false h, Bool.false_and]
      · rw [decide_eq_false (Nat.not_lt.mpr h), Bool.and_false]
    have hfew : ¬ 256 ≤ ([] : List Nat).length := by decide
    simp only [exec_reshapeStripes, execReshapeStripes, ← hHeed, hHive, hReshapeRuns, hIsBrood, hReshapePauses, hMayMove, hPendingOld,
      hfew,
      hReshapeNext, hOldOpen, hold, List.isEmpty_nil, Option.isSome_none, Bool.not_true, Bool.or_self, Bool.false_eq_true, if_false, ok]

end Sys2Proof.Machine

/-! PROOFS. The locator commands, OBJECT_CREATE, and the expiries and walks of objects (R435 to R470). -/

namespace Sys2Proof.Machine

/-! ## A put whose descriptor is here (R440 to R454) -/

/-- The two put commands run alike. -/
theorem exec_put_of_reaches {s u : State} {e : Sqe} {c : Ctrl} (h : Reaches s e c u) :
    ∀ i ∈ [Instr.locPut e, .locPutPart e], exec i s = .next (u.locPut c e) := by
  simp only [List.forall_mem_cons, exec_locPut, execLocPut, exec_locPutPart, execLocPutPart, nvme_reaches h, ok, true_and]
  exact List.forall_mem_nil _

section
variable {u v : State} {e : Sqe} {c : Ctrl} {d : PutDesc} {h : HostCmd} (hNsid : e.nsid = 0xFFFFFFFF) (hDesc : d = putDesc e.data)
  (hHead : 64 ≤ e.data.length) (hWhole : e.data.length = e.xfer) (hShort : e.data.length ≤ 8192)
  (hDomain : (u.domain? (e.cdw10.toNat % 65536)).isNone = false) (hAdmits : u.admits (e.cdw10.toNat % 65536) c.nqn = true)
  (hPath : u.pathStatus (e.cdw10.toNat % 65536) = none) (hFields : putFields e d = true)
  (hReplica : (u.domain? (e.cdw10.toNat % 65536)).any (·.replica) = false) (hLen : d.objLen ≤ 2 ^ 44) (hStream : d.stream = 0)
  (hReset : d.reset = false) (hCheck : u.putCheck = none)
  (hCmd : h = ⟨e.ctrl, e.qid, e.cid, .put d (e.data.drop 64), none, u.ck.now, 0, none⟩)
  (hAdd : v = (u.nv' fun v => { v with cmds := v.cmds ++ [h] })) (hFound : v.cmd? e.ctrl e.qid e.cid = some h)
include hNsid hDesc hHead hWhole hShort hDomain hAdmits hPath hFields hReplica hLen hStream hReset hCheck hCmd hAdd hFound

/-- A put with all its data in the capsule and no stream joins the commands and is judged for admission (R440, R441). -/
theorem locPut_admits : u.locPut c e = v.admitPut h := by
  have hns : (e.nsid != 0xFFFFFFFF) = false := by rw [hNsid]; rfl
  have hfit : (decide (8192 < e.data.length) || decide (e.xfer < e.data.length)) = false := by
    rw [← hWhole, decide_eq_false (Nat.not_lt.mpr hShort), decide_eq_false (Nat.lt_irrefl _)]
    rfl
  have hdata : (e.data.length == e.xfer) = true := beq_iff_eq.mpr hWhole
  simp only [State.locPut, hns, gt_iff_lt, hfit, hHead, decide_true, Bool.true_or, if_true, Bool.false_eq_true, if_false, State.putArrive,
    ← hDesc, hDomain, hAdmits, Bool.not_true, Bool.or_self, hReset, Bool.false_and, hPath, hFields, hReplica, Nat.not_lt.mpr hLen, hStream,
    hCheck, hdata, ← hCmd, ← hAdd, hFound]
end

section
variable {v : State} {h : HostCmd} {d : PutDesc} {data : Bytes} (hKind : h.kind = .put d data) (hAlone : h.stream = none)
include hKind hAlone

/-- A put that repeats no other, passes its checks and waits for nothing writes its records (R441 to R444). -/
theorem admitPut_accepts (hNew : v.original h d = none) (hPart : d.part = 0 ∧ d.abort = false ∨ v.partCheck d = none)
    (hCheck : v.putCheck = none) (hHolds : v.holdsWork = false) (hReb : v.rebHolds d.domain = false) {w : State}
    (hPut : w = ((v.countHeld h).stat 0x1801 d.domain (if d.part = 0 then 0 else 1) 1).putRecs d data [.complete h.ctrl h.qid h.cid 0]) :
    v.admitPut h = (w.cmd' h.ctrl h.qid h.cid fun x => { x with kind := .accepted (w.wx.nextOrd - 1) }).judgeRings := by
  have hpart : (if decide (d.part = 0) && !d.abort then none else v.partCheck d) = none := by
    rcases hPart with ⟨hp, ha⟩ | hp
    · rw [hp, ha]
      rfl
    · rw [hp, ite_self]
  simp only [State.admitPut, hKind, hNew, hpart, hCheck, hHolds, hReb, State.streamFirst, hAlone, Bool.not_true, Bool.or_self,
    Bool.false_eq_true, if_false, ← hPut]

omit hAlone in
/-- A repeat of one's own length whose bytes are those of the original completes with Dword 0 of 1 (R442). -/
theorem admitPut_repeats {k : Nat} {g : Bytes} (hOrig : v.original h d = some (d.objLen, k, some g)) (hLen : d.part = 0 ∨ k = d.putLen)
    (hSame : v.repeatDigest d data = g) : v.admitPut h = (v.stat 0x1801 d.domain 2 1).endCmd h.ctrl h.qid h.cid 1 := by
  have hlen : (d.objLen != d.objLen || (d.part != 0 && k != d.putLen)) = false := by rcases hLen with hl | hl <;> simp [hl]
  simp only [State.admitPut, hKind, hOrig, hlen, hSame, beq_self_eq_true, Bool.false_eq_true, if_false, if_true]

/-- A repeat of one's own length whose bytes are others ends with TOKEN_CONFLICT (R442). -/
theorem admitPut_differs {k : Nat} {g : Bytes} (hOrig : v.original h d = some (d.objLen, k, some g)) (hLen : d.part = 0 ∨ k = d.putLen)
    (hOther : v.repeatDigest d data ≠ g) :
    v.admitPut h = (v.stat 0x1801 d.domain 3 1).failStream h.ctrl h.qid h.cid none locConflict := by
  have hlen : (d.objLen != d.objLen || (d.part != 0 && k != d.putLen)) = false := by rcases hLen with hl | hl <;> simp [hl]
  simp only [State.admitPut, hKind, hAlone, hOrig, hlen, beq_eq_false_iff_ne.mpr hOther, Bool.false_eq_true, if_false]

/-- A repeat of another length ends with TOKEN_CONFLICT (R442). -/
theorem admitPut_conflicts {l k : Nat} {g : Option Bytes} (hOrig : v.original h d = some (l, k, g))
    (hLen : l ≠ d.objLen ∨ d.part ≠ 0 ∧ k ≠ d.putLen) :
    v.admitPut h = (v.stat 0x1801 d.domain 3 1).failStream h.ctrl h.qid h.cid none locConflict := by
  have hlen : (l != d.objLen || (d.part != 0 && k != d.putLen)) = true := by
    rcases hLen with hl | ⟨hp, hk⟩
    · rw [bne_iff_ne.mpr hl, Bool.true_or]
    · rw [bne_iff_ne.mpr hp, bne_iff_ne.mpr hk, Bool.and_self, Bool.or_true]
  simp only [State.admitPut, hKind, hAlone, hOrig, hlen, if_true]
end

/-! ## A command that presents a locator (R446 to R470) -/

/-- The commands that present a locator (R446). -/
def locatorInstrs (e : Sqe) : List Instr := [.locGet e, .locStat e, .locRefresh e, .locRelease e, .locSeal e]

section
variable {s u v : State} {e : Sqe} {c : Ctrl} (h : Reaches s e c u)
include h

theorem exec_locator_of_reaches : ∀ i ∈ locatorInstrs e, exec i s = .next (u.locCmd c e true) := by
  simp only [locatorInstrs, List.forall_mem_cons, exec_locGet, execLocGet, exec_locStat, execLocStat, exec_locRefresh, execLocRefresh,
    exec_locRelease, execLocRelease, exec_locSeal, execLocSeal, nvme_reaches h, ok, true_and]
  exact List.forall_mem_nil _

variable (hNsid : e.nsid = 0xFFFFFFFF)
include hNsid

/-- But for LOC_STAT in token form, each of them takes its locator through the checks. -/
theorem exec_locator_runs (hForm : e.opc ≠ 0x86 ∨ e.cdw5.getLsbD 0 = false) :
    ∀ i ∈ locatorInstrs e, exec i s = .next (u.locRun c e true) := by
  have hns : (e.nsid != 0xFFFFFFFF) = false := by rw [hNsid]; rfl
  have hform : (decide (e.opc = 0x86) && e.cdw5.getLsbD 0) = false := by
    rcases hForm with hf | hf
    · rw [decide_eq_false hf, Bool.false_and]
    · rw [hf, Bool.and_false]
  have hrun : u.locCmd c e true = u.locRun c e true := by
    simp only [State.locCmd, hns, hform, Bool.false_eq_true, if_false]
  exact hrun ▸ exec_locator_of_reaches h

/-- A locator that resolves to an object lets its command act on it. -/
theorem exec_locator_found {ch : Nat} {via : Option LedgerEntry} {o : Obj} (hForm : e.opc ≠ 0x86 ∨ e.cdw5.getLsbD 0 = false)
    (hCheck : u.locCheck c e.locator = (v, none)) (hFields : e.locFields = true)
    (hRes : v.resolve (fld e.locator 2 2) (locPlace e.locator) = .found ch via) (hObj : v.objOfTop (fld e.locator 2 2) ch = some o) :
    ∀ i ∈ locatorInstrs e, exec i s = .next (v.locDo e o via (e.cdw4.toNat * second)) := by
  have hrun : u.locRun c e true = v.locDo e o via (e.cdw4.toNat * second) := by
    simp only [State.locRun, hCheck, hFields, hRes, hObj, Bool.not_true, Bool.false_eq_true, if_false, if_true]
  exact hrun ▸ exec_locator_runs h hNsid hForm
end

/-- An object that is not released is none of a released state. -/
theorem state_beq_released {o : Obj} (h : o.state ≠ .released) : (o.state == ObjState.released) = false := by
  revert h
  cases o.state <;> decide

/-- Settles O22, command by command. -/
theorem locatorComplete : Obligations.LocatorComplete := by
  refine ⟨?_, ?_, ?_, ?_, ?_, ?_, ?_, ?_, ?_, ?_, ?_, ?_, ?_, ?_, ?_, ?_, ?_, ?_, ?_, ?_, ?_, ?_⟩
  · intro s e c u v w d h hr hNsid hDesc hHead hWhole hShort hDomain hAdmits hPath hFields
      hReplica hLen hStream hReset hCheck hh hAdd hFound hNew hPart hCheck2 hHolds hReb hPut i hi
    rw [exec_put_of_reaches hr i hi,
      locPut_admits hNsid hDesc hHead hWhole hShort hDomain hAdmits hPath hFields hReplica hLen hStream hReset hCheck hh hAdd hFound]
    subst hh
    exact congrArg _ (admitPut_accepts rfl rfl hNew hPart hCheck2 hHolds hReb hPut)
  · intro s e c u v d h k g hr hNsid hDesc hHead hWhole hShort hDomain hAdmits hPath hFields
      hReplica hLen hStream hReset hCheck hh hAdd hFound hOrig hSize i hi
    rw [exec_put_of_reaches hr i hi,
      locPut_admits hNsid hDesc hHead hWhole hShort hDomain hAdmits hPath hFields hReplica hLen hStream hReset hCheck hh hAdd hFound]
    subst hh
    exact ⟨fun hsame => congrArg _ (admitPut_repeats rfl hOrig hSize hsame),
      fun hother => congrArg _ (admitPut_differs rfl rfl hOrig hSize hother)⟩
  · intro s e c u v d h l k g hr hNsid hDesc hHead hWhole hShort hDomain hAdmits hPath hFields
      hReplica hLen hStream hReset hCheck hh hAdd hFound hOrig hSize i hi
    rw [exec_put_of_reaches hr i hi,
      locPut_admits hNsid hDesc hHead hWhole hShort hDomain hAdmits hPath hFields hReplica hLen hStream hReset hCheck hh hAdd hFound]
    subst hh
    exact congrArg _ (admitPut_conflicts rfl rfl hOrig hSize)
  · intro s e c u h hNsid hHead hData hXfer i hi
    have hns : (e.nsid != 0xFFFFFFFF) = false := by rw [hNsid]; rfl
    have hfit : (decide (8192 < e.data.length) || decide (e.xfer < e.data.length)) = false := by simp; omega
    have hpart : (decide (64 ≤ e.data.length) || e.data.length == e.xfer || decide (1048576 < e.xfer)) = false := by simp; omega
    rw [exec_put_of_reaches h i hi]
    simp only [State.locPut, hns, gt_iff_lt, hfit, hpart, Bool.false_eq_true, if_false]
  · intro s e c u v w x ch off n via o rs h hNsid hCheck hFields hRes hObj hState hOpc hOff hLen hn hw hWalk
    have hopc : e.opc ≠ 0x86 := by rw [hOpc]; decide
    rw [exec_locator_found h hNsid (.inl hopc) hCheck hFields hRes hObj _ (List.mem_cons_self ..)]
    simp only [State.locDo, state_beq_released hState, hOpc, ← hOff, gt_iff_lt, Nat.not_lt.mpr hLen, ← hw, State.tryGet, ← hn, hWalk,
      Bool.false_eq_true, if_false]
    refine ⟨fun hlost hdark => ?_, fun hlost => ?_, fun y hlost hdark hgather => ?_⟩
    · simp only [hlost, hdark, List.isEmpty_nil, Bool.false_eq_true, if_false, if_true]
    · simp only [hlost, if_true]
    · simp only [hlost, List.isEmpty_eq_false_iff.mpr hdark, hgather, Bool.false_eq_true, if_false]
  · intro s e c u v ch via o h hNsid hLocCheck hLocFields hResolve hObjOfTop hState hOpc hLen
    simp [execLocGet, nvme_reaches h, State.locCmd, State.locRun, State.locDo, hNsid, hLocCheck, hResolve, hObjOfTop, hState, hOpc,
      Nat.not_le.mpr hLen]
  · intro s e c u v ch via o h hNsid hLocCheck hLocFields hResolve hObjOfTop hState hOpc hx
    simp_all [execLocStat, nvme_reaches h, State.locCmd, State.locRun, State.locDo]
  · intro s e c u d r h hNsid hOpc hForm hd hDomain hAdmits hPath hFields hObj
    have hns : (e.nsid != 0xFFFFFFFF) = false := by rw [hNsid]; rfl
    have htok : (decide (e.opc = 0x86) && e.cdw5.getLsbD 0) = true := by rw [hOpc, hForm]; rfl
    rw [exec_locator_of_reaches h _ (List.mem_cons_of_mem _ (List.mem_cons_self ..))]
    simp only [State.locCmd, hns, htok, State.statToken, ← hd, hDomain, hAdmits, hPath, hFields, hObj, Bool.not_true, Bool.or_self,
      Bool.false_eq_true, if_false, if_true]
    refine ⟨fun hr => ?_, fun o hr hst hnow => ?_, fun o hr hst hwait => ?_, fun o hr hst hst2 => ?_, fun o hr hst => ?_⟩
    · simp only [hr]
    · simp only [hr, hst, beq_self_eq_true, hnow, if_true]
    · simp only [hr, hst, beq_self_eq_true, hwait, if_true, if_false]
    · have hacc : (o.state == ObjState.accepted) = false := by
        revert hst
        cases o.state <;> decide
      simp only [hr, hacc, state_beq_released hst2, Bool.false_eq_true, if_false]
    · have hacc : (o.state == ObjState.accepted) = false := by rw [hst]; rfl
      have hrel : (o.state == ObjState.released) = true := by rw [hst]; rfl
      simp only [hr, hacc, hrel, Bool.false_eq_true, if_false, if_true]
  · intro s e c u v ch via o h hNsid hCheck hFields hRes hObj hState hOpc
    have hopc : e.opc ≠ 0x86 := by rw [hOpc]; decide
    rw [exec_locator_found h hNsid (.inl hopc) hCheck hFields hRes hObj _ (by simp only [locatorInstrs, List.mem_cons, true_or,
      or_true])]
    simp only [State.locDo, state_beq_released hState, hOpc, Bool.false_eq_true, if_false]
    refine ⟨fun hkeep => ?_, fun l hvia hdrop hmode hspent => ?_⟩
    · have hdrops : (via.isSome && !e.cdw5.getLsbD 0 && !v.inMode .quiesce) = false := by rcases hkeep with hk | hk <;> simp [hk]
      cases via with
      | none => simp only [Option.isSome_none, Bool.false_and, Bool.false_eq_true, if_false]
      | some l => simp only [hdrops, Bool.false_and, Bool.not_false, Bool.false_eq_true, if_false, if_true]
    · simp only [hvia, Option.isSome_some, hdrop, hmode, hspent, Bool.not_false, Bool.not_true, Bool.and_self, Bool.and_false,
      Bool.false_eq_true, if_false]
  · intro s e c u v ch via o h hNsid hCheck hFields hRes hObj hState hOpc hReadOnly
    have hopc : e.opc ≠ 0x86 := by rw [hOpc]; decide
    rw [exec_locator_found h hNsid (.inl hopc) hCheck hFields hRes hObj _ (by simp only [locatorInstrs, List.mem_cons, true_or,
      or_true])]
    simp only [State.locDo, state_beq_released hState, hOpc, hReadOnly, Bool.false_eq_true, if_false]
    refine ⟨fun hrel => ?_, fun hlive hret => ?_, fun hlive hret hmode hids hords hholds hreb => ?_⟩
    · have hgone : ((v.objNow o).state == ObjState.released) = true := by rw [hrel]; rfl
      simp only [hgone, if_true]
    · simp only [state_beq_released hlive, hret, Bool.false_eq_true, if_false, if_true]
    · simp only [state_beq_released hlive, hret, State.locChange, hmode, hids, hords, hholds, hreb, Bool.or_self, Bool.false_eq_true,
      if_false]
  · intro s e c u v ch via o h hNsid hCheck hFields hRes hObj hState hOpc hReadOnly
    have hopc : e.opc ≠ 0x86 := by rw [hOpc]; decide
    rw [exec_locator_found h hNsid (.inl hopc) hCheck hFields hRes hObj _ (by simp only [locatorInstrs, List.mem_cons, true_or,
      or_true])]
    simp only [State.locDo, state_beq_released hState, hOpc, hReadOnly, Bool.false_eq_true, if_false]
    refine ⟨fun hlive hless => ?_, fun hlive hsame => ?_, fun hlive hmore hmode hids hords hholds hreb => ?_⟩
    · simp only [state_beq_released hlive, hless, Bool.false_eq_true, if_false, if_true]
    · simp only [state_beq_released hlive, hsame, Nat.lt_irrefl, beq_self_eq_true, Bool.false_eq_true, if_false, if_true]
    · simp only [state_beq_released hlive, Nat.not_lt.mpr hmore.le, beq_eq_false_iff_ne.mpr hmore.ne', State.locChange, hmode, hids,
      hords, hholds,
        hreb, Bool.or_self, Bool.false_eq_true, if_false]
  · intro s e c u v st h hNsid hForm hCheck i hi
    rw [exec_locator_runs h hNsid hForm i hi]
    simp only [State.locRun, hCheck, if_true]
  · intro s e c u v h hNsid hCheck hFields hForm i hi
    rw [exec_locator_runs h hNsid hForm i hi]
    simp only [State.locRun, hCheck, hFields, Bool.not_true, Bool.false_eq_true, if_false, if_true]
    refine ⟨fun hres => ?_, fun hv y hres hgather => ?_⟩
    · simp only [hres]
    · simp only [hres, State.locWait, Bool.not_true, Bool.false_eq_true, if_false, hgather]
  · intro s e c u h hNsid
    have hns : (e.nsid != 0xFFFFFFFF) = true := bne_iff_ne.mpr hNsid
    have hput : u.locPut c e = u.nvEnd e nvBadNs := by simp only [State.locPut, hns, if_true]
    have hloc : u.locCmd c e true = u.nvEnd e nvBadNs := by simp only [State.locCmd, hns, if_true]
    exact List.forall_mem_append.mpr ⟨hput ▸ exec_put_of_reaches h, hloc ▸ exec_locator_of_reaches h⟩
  · intro s k o p hObj hOwns hKeyRec hMulti hState hCreating hx hPartPlaced
    simp [execObjectCreateCommit, State.createDirect, hObj, hOwns, hKeyRec, hMulti, hState, hCreating, hx, hPartPlaced]
  · intro s k o p hObj hOwns hKeyRec hMulti hState hAccepted
    simp [execObjectCreateCommit, State.addParts, hObj, hOwns, hKeyRec, hMulti, hState, hAccepted]
  · intro s d tok t hDomain hState hOwns hAtNs hTokenDropComing
    simp [execTokenHorizonExpiry, hDomain, hState, hOwns, Nat.not_lt.mpr hAtNs, hTokenDropComing]
  · intro s k o hObj hState hOwns hLastPart hOpenDropComing
    simp_all [execOpenObjectExpiry]
  · intro s k o hObj hState hOwns hGetting hReleasedAt hUnrefComing
    simp_all [execReleasedObjectExpiry]
  · intro s u d p e hDomain hOwns hCreated hLedgerDropComing hMapChange
    simp [execLedgerEntryExpiry, hDomain, hOwns, Nat.not_lt.mpr hCreated, hLedgerDropComing, hMapChange]
  · intro s t u v d c m hWalks hOwns hChunkBytes hRefChange hOb
    simp_all [execManifestReleaseWalk, State.walkManifest]
  · intro s t v d c hWalks hOwns hChunkBytes hOb
    simp_all [execManifestReleaseWalk, State.walkManifest]

end Sys2Proof.Machine
